-- ==== Sys2Proof/Word.lean ====
section
/-! DEFINITION. The word types of the block: a management-bus word (32 bits, R34), a byte, and the sparse list by key in
which the model keeps its registers, its RAMs and everything else the spec numbers; and the operands of two commands. -/

namespace Sys2Proof

/-- One word of the management bus (R34, "The management bus is 32 bits wide"). -/
abbrev Word := BitVec 32

/-- One byte of a buffer, a record or a frame. -/
abbrev Byte := BitVec 8

/-- A sparse table by key: keys strictly rising, and no entry equal to what an unlisted key reads as. -/
abbrev Assoc (α : Type) := List (Nat × α)

/-- An addressed RAM of the block, one byte per entry; an unlisted address reads as zero. -/
abbrev Mem := Assoc Byte

/-- What VCORE's burst comparators are given (R202): the voltages of sense points A and B, in nV, and the outputs of their slew filters, the
rate of fall relative to the regulation reference, in nV per µs. -/
structure VcorePoints where
  va : Nat
  vb : Nat
  ra : Nat
  rb : Nat
  deriving DecidableEq, Repr

/-- What the boot ROM and the new image bring to the end of a hand-over's gap (Table 18-4): component and format of the caravan sections that
the image declares, and, for where the image buffer does not serve, the full check's verdict on each bank and its refusal detail. -/
structure NewImage where
  decl : List (Nat × Nat)
  ok0 : Bool
  ok1 : Bool
  detail : Nat
  deriving DecidableEq, Repr

end Sys2Proof
end

