-- ==== Sys2Proof/Syntax.lean ====
section
/-! DEFINITION. The commands: one constructor per row of spec/opcode_table.json. The first operand of each, `dt`, is how many ticks of
the local time base (10 ns, R22) pass before the command (log entry 3); the others are what the row's event carries from outside. -/

namespace Sys2Proof

/-- The commands of the block, in the table's order. -/
inductive Instr where
  /-- STEP_BOUNDARY_STROBE (R25): A step-boundary strobe arrives; if accepted, Thofida loads the step number, compares named steps and performs the boundary swap. Operands: the 48-bit step number, and the launch time of the next boundary in ns, where the strobe carries one. -/
  | stepBoundaryStrobe (dt : Nat) (step : Nat) (launch : Option Nat)
  /-- BOUNDARY_CUT (R28): At CUT_NS before a boundary, pending RWB values are frozen, set checks are applied and the operating point is chosen. -/
  | boundaryCut (dt : Nat)
  /-- LOCAL_BOUNDARY (R32): A local boundary falls on a multiple of LOCAL_PERIOD; the cut and swap are performed without changing the step number. -/
  | localBoundary (dt : Nat)
  /-- BOUNDARY_SOURCE_LOCAL (R32): IDLE_MS passes without a strobe, or the job is detached; local boundaries begin and the plan is paused. -/
  | boundarySourceLocal (dt : Nat)
  /-- SYSTIME_COHERENT (R24): The link layer reports system time as coherent, or corrects it, and SYSTIME_VALID follows. Operands: COHERENT of the link layer and its 64-bit count, in ns. -/
  | systimeCoherent (dt : Nat) (valid : Bool) (time : Nat)
  /-- VAON_LOW (R20): VAON stays below 0.70 V for more than 1 µs; VAON_LOW is set and the fault is sent. Operands: the lowest VAON seen, in 0.25 mV. -/
  | vaonLow (dt : Nat) (lowest : Nat)
  /-- VAON_COLLAPSE (R21): VAON falls below 0.68 V and every PWM and PH_EN output is driven low at once. -/
  | vaonCollapse (dt : Nat)
  /-- REGISTER_WRITE (R36): A bus write to a register with no row of its own lands in its landing register, or becomes a pending RWB value. Operands: agent ID, offset, value and byte enables of the access. -/
  | registerWrite (dt : Nat) (agent : Byte) (off : BitVec 20) (val : Word) (be : BitVec 4)
  /-- RW_WRITE_APPLY (R36): The self-timed core takes a landed RW value and applies it within 40 ns. -/
  | rwWriteApply (dt : Nat)
  /-- UNMAPPED_ACCESS (R37): An access to an offset with no register, or a misaligned or partial write, is ignored and a bus-error flag is set. Operands: the access. -/
  | unmappedAccess (dt : Nat) (agent : Byte) (off : BitVec 20) (write : Bool) (val : Word) (be : BitVec 4)
  /-- WIDE_READ_LOW_WORD (R38): A read of the low word of a wide value takes a snapshot of the whole value for that agent. Operands: agent ID and offset of the read. -/
  | wideReadLowWord (dt : Nat) (agent : Byte) (off : BitVec 20)
  /-- WIDE_WRITE_LOW_WORD (R38): A write of the low word of a wide value is held until the high word is written. Operands: agent ID, offset and value of the write. -/
  | wideWriteLowWord (dt : Nat) (agent : Byte) (off : BitVec 20) (val : Word)
  /-- RC_FIELD_READ (R7): A read of an RC field returns its value and restarts the count or maximum. Operands: agent ID and offset of the read. -/
  | rcFieldRead (dt : Nat) (agent : Byte) (off : BitVec 20)
  /-- DENIED_ACCESS (R399): A bus access outside the agent's rights reads zero or is ignored; DENIED is set and the fault is rate-limited. Operands: the access. -/
  | deniedAccess (dt : Nat) (agent : Byte) (off : BitVec 20) (write : Bool) (val : Word)
  /-- SENSE_SAMPLE (R42): Every 250 ns all SNS inputs are sampled; rail currents are summed, compensators run and governed power is formed. Operands: the 98 IMON codes and the codes of the five sense points A, B, VMEM, VLINK, VAUX. -/
  | senseSample (dt : Nat) (imon pts : List Nat)
  /-- WINDOW_CLOSE_1US (R49): A 1 µs window closes; rail averages are published, the reactive requirement is formed and chip power and energy are updated. -/
  | windowClose1us (dt : Nat)
  /-- WINDOW_CLOSE_10US (R81): A 10 µs window closes; averages and region estimates are published and the trust comparison is evaluated. -/
  | windowClose10us (dt : Nat)
  /-- BUS_SAMPLE (R54): The input-bus voltage and current are sampled at 1 MS/s. Operands: the codes of BUS_VMON and BUS_IMON. -/
  | busSample (dt : Nat) (v c : Nat)
  /-- XCHK_ROUND (R55): A 1 ms round closes; input power is compared with rail power and the 100 ms current windows are updated. -/
  | xchkRound (dt : Nat)
  /-- BUS_XCHK_SUSPECT (R56): After 16 consecutive active out-of-band rounds MEAS_SUSPECT is set and the trust state moves to Estimate-only. -/
  | busXchkSuspect (dt : Nat)
  /-- MEAS_SUSPECT_CLEAR (R56): After 16 consecutive active in-band rounds MEAS_SUSPECT clears and Estimate-only returns to Guarded. -/
  | measSuspectClear (dt : Nat)
  /-- IMON_RANGE (R46): An included IMON input reads code 0 or 1023 on 16 consecutive samples and the fault is sent. Operands: the input. -/
  | imonRange (dt : Nat) (n : Nat)
  /-- SENSE_OPEN (R52): A sense point reads below 0.25 V for 10 µs past soft start and is excluded. Operands: the point: 0 A, 1 B, 2 VMEM, 3 VLINK, 4 VAUX. -/
  | senseOpen (dt : Nat) (p : Nat)
  /-- VCORE_SENSE_SPLIT (R53): Points A and B differ by more than SPLIT_MV for 100 µs; SPLIT is set. -/
  | vcoreSenseSplit (dt : Nat)
  /-- BUS_V_RANGE (R54): The bus voltage stays outside 46 V to 58 V for 100 µs and the fault is sent. -/
  | busVRange (dt : Nat)
  /-- DROOP_LEVEL_CHANGE (R167): A region's droop level changes; a rise stretches or holds the next beat edge, and a fall begins a 16-beat grading. Operands: region, detector within it, and the local VCORE that the detector finds, in nV. -/
  | droopLevelChange (dt : Nat) (r d v : Nat)
  /-- DROOP_DET_STUCK (R60): A detector reports level 4 for over 1 ms while its peers report 0; it is excluded at the next boundary. Operands: region and detector. -/
  | droopDetStuck (dt : Nat) (r d : Nat)
  /-- DET_EXCL_WRITE (R60): Writing one to a THF_SNS_DET_EXCL bit includes the detector again at once. Operands: agent, word index and value written. -/
  | detExclWrite (dt : Nat) (agent : Byte) (w : Nat) (val : Word)
  /-- STRETCH_HOLD_LONG (R168): A region hold lasts longer than HOLD_LONG_US; HOLD_LONG is set and the beats stay held. Operands: region. -/
  | stretchHoldLong (dt : Nat) (r : Nat)
  /-- ACTIVITY_FEATURE (R62): A feature report arrives on the activity stream and is stored for its window. Operands: 12-bit feature ID and 16-bit value. -/
  | activityFeature (dt : Nat) (id value : Nat)
  /-- ACT_END_OF_WINDOW (R62): The last end-of-window marker arrives, the feature vector is complete and the windows swap. -/
  | actEndOfWindow (dt : Nat)
  /-- ACT_WINDOW_STALE (R63): A marker is missing 100 ns after the window closes; the window is stale and the late sources keep their previous values. Operands: late sources: tiles [0], memory [1], links [2]. -/
  | actWindowStale (dt : Nat) (late : Nat)
  /-- ACT_STREAM_STALL (R63): After 16 consecutive stale windows the fault is sent. -/
  | actStreamStall (dt : Nat)
  /-- HKS_ROUND (R65): A housekeeping round ends and all 1,024 channel values are published together. Operands: the conversions that completed within their slots: channel and 16-bit value. -/
  | hksRound (dt : Nat) (conv : List (Nat × Nat))
  /-- HKS_CHANNEL_INVALID (R66): A channel is invalid for 3 consecutive rounds and the fault is sent. Operands: channel. -/
  | hksChannelInvalid (dt : Nat) (c : Nat)
  /-- STG_TLM_ROUND_START (R447): A telemetry round begins and Thofida drives the 2 µs round sync. -/
  | stgTlmRoundStart (dt : Nat)
  /-- STG_TLM_FRAME (R448): A device's 32-bit telemetry frame ends and is received if it passes START, ADDR and CRC. Operands: slot of the round and the 32 bits sampled. -/
  | stgTlmFrame (dt : Nat) (slot : Nat) (frame : Word)
  /-- STG_TLM_SILENT (R67): A device is silent for 3 consecutive rounds; its channel becomes invalid and the fault is sent. Operands: device address. -/
  | stgTlmSilent (dt : Nat) (a : Nat)
  /-- EST_WINDOW_SUBSTITUTED (R75): No valid slot 0 result by 0.8 µs; the rail estimates are replaced by measurement and SUBST is set. -/
  | estWindowSubstituted (dt : Nat)
  /-- EST_DISAGREE (R84): DIS_RUN reaches DIS_WINDOWS and the trust state moves from Trusted to Guarded. -/
  | estDisagree (dt : Nat)
  /-- EST_MISMATCH (R84): GUARDED_MS reaches GUARDED_LIMIT_MS; the state moves to Measured-only and MISMATCH_LATCH is set. -/
  | estMismatch (dt : Nat)
  /-- EST_MODEL_LOST (R84): FORCE_MEAS, a stopped slot 0 or 16 substituted windows moves the state to Measured-only. -/
  | estModelLost (dt : Nat)
  /-- EST_MODEL_RESTORED (R84): Slot 0 delivers 16 consecutive results with the latch clear, and Measured-only moves to Guarded. -/
  | estModelRestored (dt : Nat)
  /-- EST_TRUST_AGREE (R84): AGREE_RUN reaches 4 × AGREE_WINDOWS and Guarded moves to Trusted at the boundary. -/
  | estTrustAgree (dt : Nat)
  /-- EST_SHADOW_AGREE (R80): SHADOW_RUN reaches 4 × AGREE_WINDOWS; Guarded moves to Trusted with the shadow fit staged. -/
  | estShadowAgree (dt : Nat)
  /-- CAL_ROUND (R78): The built-in calibration or shadow fit runs on a 1 ms round and stages the clamped gain and offset. -/
  | calRound (dt : Nat)
  /-- EST_CAL_CLAMP (R78): A clamp acts on 100 consecutive updates of a rail and the fault is sent. Operands: rail. -/
  | estCalClamp (dt : Nat) (k : Nat)
  /-- EST_RETRY (R86): Writing RETRY clears MISMATCH_LATCH at once. Operands: agent that writes. -/
  | estRetry (dt : Nat) (agent : Byte)
  /-- EST_CAL_RESET (R78): Writing CAL_RESET resets the covariance of every rail at the next round. Operands: agent that writes. -/
  | estCalReset (dt : Nat) (agent : Byte)
  /-- PXE_SLOT1_TRIGGER (R98): Every 100 µs the thermal predictor slot is triggered after the region estimates. -/
  | pxeSlot1Trigger (dt : Nat)
  /-- PXE_SLOT3_TRIGGER (R98): Every USER_PERIOD the operator model slot is triggered. -/
  | pxeSlot3Trigger (dt : Nat)
  /-- PXE_PUBLISH (R105): A run reaches END; its output area is copied to the consumer after the clamp, and its flags are merged. Operands: slot and the run time, in 10 ns. -/
  | pxePublish (dt : Nat) (slot time : Nat)
  /-- PXE_OVERRUN (R101): A run has not reached END at its deadline; it is abandoned and the consumer takes its fallback. Operands: slot and the descriptor in progress. -/
  | pxeOverrun (dt : Nat) (slot desc : Nat)
  /-- PXE_MEM_UNCORRECTABLE (R106): A local-memory read finds an uncorrectable error; the run is abandoned, and the slot stops if the word is in its region. Operands: slot whose run reads, the local-memory byte address and the descriptor in progress. -/
  | pxeMemUncorrectable (dt : Nat) (slot addr desc : Nat)
  /-- PXE_CAP_RELEASE (R133): Writing one to VALID releases the first-fault capture and clears COUNT. Operands: agent and slot. -/
  | pxeCapRelease (dt : Nat) (agent : Byte) (slot : Nat)
  /-- FF_SCHEDULE_COMPUTED (R152): The feed-forward schedule of the next step is computed from the window and frozen for its boundary. -/
  | ffScheduleComputed (dt : Nat)
  /-- FF_ADD_ACTION (R153): An add action executes at its lead time and raises the rail's phase floor. Operands: rail. -/
  | ffAddAction (dt : Nat) (k : Nat)
  /-- FF_LIFT_ACTION (R155): A lift action executes at its lead time and the pre-lift offset begins to rise. -/
  | ffLiftAction (dt : Nat)
  /-- DRG_EVALUATE (R176): On each 250 ns grid instant the droop guard projects lateness and decides on holds. -/
  | drgEvaluate (dt : Nat)
  /-- LAUNCH_MOVE (R178): A LAUNCH_MOVE from the time master is accepted, moving t_next and re-timing the schedule, or rejected. Operands: the step named and the new launch time, in ns. -/
  | launchMove (dt : Nat) (step time : Nat)
  /-- VSEL_LATCH (R193): VSEL[3:0] reads the same on 4 consecutive samples and the value is latched. Operands: the value read on VSEL[3:0]. -/
  | vselLatch (dt : Nat) (v : Nat)
  /-- SETPOINT_RAMP_DONE (R195): A setpoint reference reaches its new voltage and a higher FMAX ceiling rises. Operands: rail. -/
  | setpointRampDone (dt : Nat) (k : Nat)
  /-- DE_ENTER (R196): A rail below DE_PCT of capacity for DE_DWELL enters diode emulation. Operands: rail. -/
  | deEnter (dt : Nat) (k : Nat)
  /-- PHASE_RAMP_IN_DONE (R198): A phase completes its 8 µs ramp-in and becomes Regulating. Operands: phase. -/
  | phaseRampInDone (dt : Nat) (n : Nat)
  /-- PHASE_RAMP_OUT_DONE (R200): A shed or retired phase completes its 8 µs ramp-out and goes to Standby or off. Operands: phase. -/
  | phaseRampOutDone (dt : Nat) (n : Nat)
  /-- SHED_INH_END (R201): The 1 ms shed inhibition ends. Operands: rail. -/
  | shedInhEnd (dt : Nat) (k : Nat)
  /-- ALL_PHASE_BURST (R203): A VCORE depth or slew comparator trips and every phase of the burst set is driven high. Operands: the voltages of sense points A and B, in nV, and the outputs of their slew filters, the rate of fall relative to the regulation reference, in nV per µs. -/
  | allPhaseBurst (dt : Nat) (p : VcorePoints)
  /-- BURST_END (R203): The burst ends on recovery of both points, or at BURST_MAX, and the compensator resumes. Operands: the voltages of sense points A and B, in nV, and the outputs of their slew filters, the rate of fall relative to the regulation reference, in nV per µs. -/
  | burstEnd (dt : Nat) (p : VcorePoints)
  /-- BURST_REARM_END (R203): The rearm interval after a burst expires and the comparators are armed again. -/
  | burstRearmEnd (dt : Nat)
  /-- PHASE_OC_TRIP (R205): A phase's overcurrent comparator trips and its PWM is driven low for the rest of its period. Operands: phase. -/
  | phaseOcTrip (dt : Nat) (n : Nat)
  /-- PHASE_OC_RELEASE (R205): A tripped comparator releases during a burst and the phase is driven high again. Operands: phase. -/
  | phaseOcRelease (dt : Nat) (n : Nat)
  /-- PHASE_FAULT (R207): PH_FAULT is active for 1 µs; the phase is disabled and retired at once. Operands: phase. -/
  | phaseFault (dt : Nat) (n : Nat)
  /-- PHASE_HOT (R209): A stage exceeds PH_HOT for HOT_ROUNDS valid rounds and is retired at the next boundary. Operands: phase. -/
  | phaseHot (dt : Nat) (n : Nat)
  /-- PHASE_IMBALANCE (R209): A phase departs from the rail mean by more than IMBAL_A for 100 judged rounds and is retired at the next boundary. Operands: phase. -/
  | phaseImbalance (dt : Nat) (n : Nat)
  /-- PHC_RETIRED_WRITE (R211): Writing one to a THF_PHC_RETIRED bit returns the phase to service at the next boundary. Operands: agent, word index and value written. -/
  | phcRetiredWrite (dt : Nat) (agent : Byte) (w : Nat) (val : Word)
  /-- SEQ_START (R216): A START command begins a start sequence at the next boundary and drives BUS_EN high, or is refused. Operands: agent that writes. -/
  | seqStart (dt : Nat) (agent : Byte)
  /-- SEQ_STOP (R217): A STOP command begins a ramped stop of the rails in stop order at the next boundary. Operands: agent that writes. -/
  | seqStop (dt : Nat) (agent : Byte)
  /-- BUS_SETTLE_DONE (R216): PWR_FAIL_N and the bus have been good for BUS_SETTLE and the first slot starts. -/
  | busSettleDone (dt : Nat)
  /-- BUS_START_FAIL (R216): The bus is not settled 20 ms after BUS_EN; BUS_EN falls and the sequencer returns to IDLE. -/
  | busStartFail (dt : Nat)
  /-- SEQ_SLOT_START (R215): SEQ_GAP after the previous slot, the next rail and its followers enter PROBE. -/
  | seqSlotStart (dt : Nat)
  /-- RAIL_PROBE_DONE (R219): After 10 µs of PROBE the start point is set and the rail enters SOFT_START or is faulted as pre-biased high. Operands: rail. -/
  | railProbeDone (dt : Nat) (k : Nat)
  /-- RAIL_POWER_GOOD (R221): The reference has reached the target and the sense is within PG_WIN for 10 µs; the rail is ON. Operands: rail. -/
  | railPowerGood (dt : Nat) (k : Nat)
  /-- RAIL_PG_TIMEOUT (R224): A rail is not ON within 1 ms of reaching its target; it is latched and a fault stop follows. Operands: rail. -/
  | railPgTimeout (dt : Nat) (k : Nat)
  /-- RAIL_PREBIAS_HIGH (R224): A rail in the second pre-bias case is not ON within 10 ms; it is latched and a fault stop follows. Operands: rail. -/
  | railPrebiasHigh (dt : Nat) (k : Nat)
  /-- RAIL_SHORT_START (R224): The lag exceeds 50 mV for 20 µs with every pulsing phase at its limit; the rail is latched. Operands: rail. -/
  | railShortStart (dt : Nat) (k : Nat)
  /-- RAIL_START_STALL (R224): The lag exceeds 50 mV for 100 µs; the rail is latched. Operands: rail. -/
  | railStartStall (dt : Nat) (k : Nat)
  /-- RAIL_OV (R224): The sense exceeds reference plus OV_MV for 1 µs; the rail is latched. Operands: rail. -/
  | railOv (dt : Nat) (k : Nat)
  /-- RAIL_STOP_DONE (R217): A stopping rail's reference reaches 100 mV; its phases go off and the next slot's stop begins. Operands: rail. -/
  | railStopDone (dt : Nat) (k : Nat)
  /-- PWR_FAIL_N_FALL (R218): PWR_FAIL_N falls; a quick stop begins and the recorder writes POWER_FAIL and flushes. -/
  | pwrFailNFall (dt : Nat)
  /-- QUICK_STOP_RAIL_OFF (R218): 10 µs after the previous rail, the next rail of the quick stop goes off. -/
  | quickStopRailOff (dt : Nat)
  /-- PWR_FAIL_N_RISE (R218): PWR_FAIL_N returns high and a new sequence starts if AUTO_START is 1. -/
  | pwrFailNRise (dt : Nat)
  /-- LATCH_CLEAR (R226): Writing one to a THF_PHC_LATCH bit makes the latched rail OFF. Operands: agent and value written. -/
  | latchClear (dt : Nat) (agent : Byte) (val : Word)
  /-- PROTECTIVE_LOWERING (R234): A window or power condition over its limit lowers the protective ceiling by PROT_STEP, repeating after each hold-off. Operands: condition: 3 × rail + window for a rail window, 12 for EXC_W, 13 for EXC_US. -/
  | protectiveLowering (dt : Nat) (cond : Nat)
  /-- LIMIT_UNMET (R236): The ceiling has stood at 0.60 GHz for 100 µs while a condition persists, and the fault is sent. Operands: condition, numbered as in PROTECTIVE_LOWERING. -/
  | limitUnmet (dt : Nat) (cond : Nat)
  /-- LGV_DUTY_STEP (R245): At a 1 ms close the firmware steps the duty from the over- and under-cap run counts. -/
  | lgvDutyStep (dt : Nat)
  /-- CAP_UNATTAINABLE (R247): At DUTY_MIN, UNMET_ROUNDS further rounds exceed the cap; CAP_STATE becomes UNATTAINABLE. -/
  | capUnattainable (dt : Nat)
  /-- THERM_LIM_WRITE (R233): Agent 0x41 writes THF_LGV_THERM_LIM; writes from other agents are ignored. Operands: agent and value written. -/
  | thermLimWrite (dt : Nat) (agent : Byte) (val : Word)
  /-- THERMAL_RISE (R265): A region's rise exceeds RISE_LIM in two consecutive rounds above RISE_FLOOR and the ceiling falls by 100 MHz. Operands: region of the largest rise. -/
  | thermalRise (dt : Nat) (r : Nat)
  /-- TMG_FW_ROUND (R268): Firmware cross-checks sensors, forms the decision temperature and steps the thermal level. -/
  | tmgFwRound (dt : Nat)
  /-- SENSOR_SUSPECT (R257): A sensor deviates for XCHK_ROUNDS judged rounds and firmware marks it suspect. Operands: sensor channel. -/
  | sensorSuspect (dt : Nat) (c : Nat)
  /-- TMG_SENSOR_TRUSTED (R257): A suspect sensor agrees for XCHK_CLEAR judged rounds and is trusted again. Operands: sensor channel. -/
  | tmgSensorTrusted (dt : Nat) (c : Nat)
  /-- THERMAL_FLOOR (R269): The level has stood at FLOOR for 10 rounds at or above THROTTLE and the fault is sent once. -/
  | thermalFloor (dt : Nat)
  /-- SUSPECT_SET_WRITE (R257): Agent 0x41 writes THF_TMG_SUSPECT_SET to mark sensors suspect from the next round. Operands: agent, word index and value written. -/
  | suspectSetWrite (dt : Nat) (agent : Byte) (w : Nat) (val : Word)
  /-- SUSPECT_CLEAR_WRITE (R258): Writing one to a THF_TMG_SUSPECT bit makes the sensor trusted from the next round. Operands: agent, word index and value written. -/
  | suspectClearWrite (dt : Nat) (agent : Byte) (w : Nat) (val : Word)
  /-- TRIP_COMPARATOR (R261): A thermal trip comparator decides that its sensor has crossed TRIP. Operands: region and sensor. -/
  | tripComparator (dt : Nat) (r n : Nat)
  /-- TRIP_COMPARATOR_RELEASE (R261): A trip comparator releases 3 °C below TRIP. Operands: region and sensor. -/
  | tripComparatorRelease (dt : Nat) (r n : Nat)
  /-- BAL_ROUND_BEGIN (R279): After a round's boundary the agent stages the floor for the serve step and sends its own frame. -/
  | balRoundBegin (dt : Nat)
  /-- BAL_FRAME_RECEIVED (R280): A balance frame of a round is collected; when the view is complete, the inputs are written and slot 2 is triggered. -/
  | balFrameReceived (dt : Nat)
  /-- BAL_OUTCOME (R281): The round's outcome is decided and a computed or fallback allocation replaces the staged floor. -/
  | balOutcome (dt : Nat)
  /-- SIDEBAND_RECORD_RECEIVED (R291): A sideband record is checked for key, tag, counter and reserved fields, then accepted, relayed or dropped. Operands: ingress port, the 16 bytes of the header, the bytes of the body as they decrypt, and whether the tag verifies. -/
  | sidebandRecordReceived (dt : Nat) (p : Nat) (hdr body : List Nat) (tagOk : Bool)
  /-- SB_COUNTER_END (R291): An egress counter reaches all ones and the port sends nothing more. Operands: port. -/
  | sbCounterEnd (dt : Nat) (p : Nat)
  /-- SB_KEY_GRACE_END (R290): GRACE_MS after a key change the previous key slot is no longer accepted. Operands: key context: 0 balance, 1 job. -/
  | sbKeyGraceEnd (dt : Nat) (ctx : Nat)
  /-- REST_ENTER (R300): At a window close the deepest allowed rest state whose dwell has passed is entered. -/
  | restEnter (dt : Nat)
  /-- REST_WAKE (R301): A wake cause occurs at rest and the exit begins. -/
  | restWake (dt : Nat)
  /-- REST_EXIT (R303): The exit steps complete and the chip is active; a slow exit sends REST_EXIT_SLOW. -/
  | restExit (dt : Nat)
  /-- SR_CONFIRMED (R304): Every memory layer reports self-refresh and VCORE and VLINK take a ramped stop for Dormant. -/
  | srConfirmed (dt : Nat)
  /-- REST_SR_TIMEOUT (R305): Self-refresh is not confirmed 1 ms after the request; the request is withdrawn and SR_FAIL is set. -/
  | restSrTimeout (dt : Nat)
  /-- STA_WAKE (R301): The host driver writes WAKE to THF_STA_CMD. Operands: agent that writes. -/
  | staWake (dt : Nat) (agent : Byte)
  /-- ENTER_SAFE (R313): A write of ENTER_SAFE requests the safe state with cause 4. Operands: agent that writes. -/
  | enterSafe (dt : Nat) (agent : Byte)
  /-- SAFE_STATE_ENTER (R313): STA enters the safe state: 0.80 GHz, cap 800 W, boost withdrawn, HB stopped, and the plan stopped at the next boundary. -/
  | safeStateEnter (dt : Nat)
  /-- BLOCK_RESTART (R311): A write of 0x4AB5 to THF_STA_RESET_CMD by a permitted agent performs the restart sequence. Operands: agent and value written. -/
  | blockRestart (dt : Nat) (agent : Byte) (val : Word)
  /-- CHIP_RESET (R311): The host resets the die; classes B and H are reset while regulation continues. -/
  | chipReset (dt : Nat)
  /-- MODULE_RESET (R310): MODULE_RESET_N is low for at least 1 µs; the rails take a quick stop and every output is held. -/
  | moduleReset (dt : Nat)
  /-- MODULE_RESET_RELEASE (R310): MODULE_RESET_N is released; class F values load, the boot ROM starts and AUTO_START applies. -/
  | moduleResetRelease (dt : Nat)
  /-- COLD_START (R309): VAON rises from below 0.50 V; all values are set as for a cold start and the power-cycle count increments. -/
  | coldStart (dt : Nat)
  /-- PUF_RECONSTRUCT (R409): At a cold start the seed is reconstructed from the PUF; a failure sends SEC_PUF_FAIL. Operands: whether the seed is reconstructed, how many blocks are uncorrectable, and the 96 bytes of the identity public key. -/
  | pufReconstruct (dt : Nat) (ok : Bool) (blocks : Nat) (pub : List Nat)
  /-- WDT_KICK (R328): Agent 0x40 writes 0x3C96 to THF_STA_WDT and the watchdog is serviced. Operands: agent and value written. -/
  | wdtKick (dt : Nat) (agent : Byte) (val : Word)
  /-- WDT_EXPIRY (R328): The watchdog expires 30 ms after the last service and the main core restarts from the boot ROM. -/
  | wdtExpiry (dt : Nat)
  /-- MAIN_CORE_START (R328): The main core starts from the boot ROM, selects the bank and loads the image of the active bank. Operands: what flash holds by 3 × bank + kind where the model has seen nothing written, whether each bank passes its full check, and the refusal detail of the bank that does not. -/
  | mainCoreStart (dt : Nat) (found : List (Nat × List Nat)) (ok0 ok1 : Bool) (detail : Nat)
  /-- HELPER_LOAD (R322): A helper load completes; on a digest mismatch the helper stays held and FW_HELPER_LOAD_FAIL is sent. Operands: helper core 1 to 3, whether the digest matches, and the offset the fault reports. -/
  | helperLoad (dt : Nat) (k : Nat) (ok : Bool) (off : Nat)
  /-- COMPONENT_CHECK_IN (R323): A firmware component checks in with the scheduler. Operands: component. -/
  | componentCheckIn (dt : Nat) (c : Nat)
  /-- FW_COMPONENT_HANG (R327): A component misses its deadline and the scheduler restarts it. Operands: component. -/
  | fwComponentHang (dt : Nat) (c : Nat)
  /-- FW_MPU_VIOLATION (R326): An access outside the running component's regions is aborted and the component is stopped. Operands: component, address, and whether the access was a write or a fetch. -/
  | fwMpuViolation (dt : Nat) (c addr : Nat) (write exe : Bool)
  /-- FW_CORE_EXCEPTION (R328): A core raises an exception, stopping a component, a helper or the main core. Operands: core, the component that ran, none for the kernel or no component, and the address of the exception. -/
  | fwCoreException (dt : Nat) (k : Nat) (comp : Option Nat) (addr : Nat)
  /-- FW_COMPONENT_RESTART (R327): A component restart completes and the component rebuilds from its registers. Operands: component. -/
  | fwComponentRestart (dt : Nat) (c : Nat)
  /-- FW_RESTART_LIMIT (R329): A restart brings the count within 10 s to three; the safe state is entered with cause 1. -/
  | fwRestartLimit (dt : Nat)
  /-- HOST_ALIVE (R335): Agent 0x01 writes THF_FW_HOST_ALIVE and the host-alive timer restarts. Operands: agent and value written. -/
  | hostAlive (dt : Nat) (agent : Byte) (val : Word)
  /-- HOST_ABSENT (R336): The host-alive timer reaches HOST_TIMEOUT; the host state becomes ABSENT and GENERATION increments. -/
  | hostAbsent (dt : Nat)
  /-- HOST_ATTACH (R337): ATTACH with the current generation makes the host ATTACHED and treats unserved rings as rung. Operands: agent and value written. -/
  | hostAttach (dt : Nat) (agent : Byte) (val : Word)
  /-- LOG_ENTRY (R338): A core writes a message or trace point to the log ring, subject to LEVEL, masks and LOG_RATE. Operands: component, 0 for a message or 1 for a trace point, its level or its trace point ID, code, and up to 16 payload bytes. -/
  | logEntry (dt : Nat) (c kind id code : Nat) (payload : List Nat)
  /-- LOG_MIRROR_COPY (R342): The flusher copies a log entry to host memory; a reported error stops the mirror. Operands: whether host memory took the entry. -/
  | logMirrorCopy (dt : Nat) (ok : Bool)
  /-- RING_ENABLE (R347): A write of ENABLE = 1 checks the ring setup and activates the ring or refuses it. Operands: agent, ring and value written, ENABLE at 1 and RESET at 0. -/
  | ringEnable (dt : Nat) (agent : Byte) (q : Nat) (val : Word)
  /-- RING_DISABLE (R347): A write of ENABLE = 0 disables the ring, or is refused while packets are outstanding. Operands: agent, ring and value written, ENABLE and RESET at 0. -/
  | ringDisable (dt : Nat) (agent : Byte) (q : Nat) (val : Word)
  /-- RING_RESET (R353): Writing RESET discards undispatched packets, sets HEAD to TAIL and makes the ring ACTIVE. Operands: agent, ring and value written, RESET at 1. -/
  | ringReset (dt : Nat) (agent : Byte) (q : Nat) (val : Word)
  /-- RING_DOORBELL (R348): A tail write by a permitted agent rings the ring, or is counted in DOORBELL_REJECT. Operands: agent, ring and value written. -/
  | ringDoorbell (dt : Nat) (agent : Byte) (q : Nat) (val : Word)
  /-- CQ_HEAD_WRITE (R359): The host driver writes CQ_HEAD, freeing completion entries so a waiting ring can dispatch again. Operands: agent, ring and value written. -/
  | cqHeadWrite (dt : Nat) (agent : Byte) (q : Nat) (val : Word)
  /-- GATE_OPEN (R357): Agent 0x40 opens the boundary gate, and its RWB writes are held out of every cut. Operands: agent that writes. -/
  | gateOpen (dt : Nat) (agent : Byte)
  /-- GATE_CLOSE (R357): Agent 0x40 closes the gate and the held values become pending with the gate's named step. Operands: agent that writes. -/
  | gateClose (dt : Nat) (agent : Byte)
  /-- TAGGED_PACKET_RESUME (R358): A waiting tagged packet writes its values once the earlier pending values of the same fields have taken effect. -/
  | taggedPacketResume (dt : Nat)
  /-- TAGGED_COMPLETION (R359): A TAG 1 or 2 packet's completion is written within 100 µs of the swap at which its values took effect. -/
  | taggedCompletion (dt : Nat)
  /-- BLOCK_FETCH_DONE (R365): A transfer block arrives from host memory, or fails with S_FETCH_FAIL. Operands: ring, the bytes that arrived, and whether host memory could be read. -/
  | blockFetchDone (dt : Nat) (q : Nat) (data : List Nat) (ok : Bool)
  /-- NOP (R362): The NOP packet completes with the step in force. Operands: ring whose head holds the packet. -/
  | nop (dt : Nat) (q : Nat)
  /-- REG_WRITE (R363): The REG_WRITE packet checks its items and writes each masked value, immediately or at a boundary. Operands: ring whose head holds the packet. -/
  | regWrite (dt : Nat) (q : Nat)
  /-- REG_READ (R362): The REG_READ packet returns the values at two offsets. Operands: ring whose head holds the packet. -/
  | regRead (dt : Nat) (q : Nat)
  /-- MARK (R362): The MARK packet writes its payload as a mark record. Operands: ring whose head holds the packet. -/
  | mark (dt : Nat) (q : Nat)
  /-- JOB_ATTACH (R362): JOB_ATTACH makes the next strobe attach the job, refused while SYSTIME_VALID is 0. Operands: ring whose head holds the packet. -/
  | jobAttach (dt : Nat) (q : Nat)
  /-- JOB_DETACH (R362): JOB_DETACH detaches the job at its boundary. Operands: ring whose head holds the packet. -/
  | jobDetach (dt : Nat) (q : Nat)
  /-- SET_CAP (R244): SET_CAP gates a new host cap for a boundary and completes with the cap state. Operands: ring whose head holds the packet. -/
  | setCap (dt : Nat) (q : Nat)
  /-- GET_CAP_STATE (R362): GET_CAP_STATE returns the effective cap and CAP_STATE. Operands: ring whose head holds the packet. -/
  | getCapState (dt : Nat) (q : Nat)
  /-- PLAN_SEGMENT_BLOCK (R142): A plan segment block is accepted, with the header and full checks on the blocks that complete them. Operands: ring whose head holds the packet. -/
  | planSegmentBlock (dt : Nat) (q : Nat)
  /-- PLAN_STOP (R149): PLAN_STOP makes the plan IDLE at its boundary. Operands: ring whose head holds the packet. -/
  | planStop (dt : Nat) (q : Nat)
  /-- PROGRAM_BLOCK (R112): A predictor program block is accepted, with the header and full checks that stop or load the slot. Operands: ring whose head holds the packet. -/
  | programBlock (dt : Nat) (q : Nat)
  /-- SB_KEY_INSTALL (R411): SB_KEY_INSTALL unwraps a sideband key and installs it in the current slot at the named step. Operands: ring, whether the wrapped key opens, and the key. -/
  | sbKeyInstall (dt : Nat) (q : Nat) (opens : Bool) (key : Nat)
  /-- LOG_KEY_ROTATE (R414): LOG_KEY_ROTATE makes a new log key generation current, or is refused while PREV_VALID is 1. Operands: ring whose head holds the packet. -/
  | logKeyRotate (dt : Nat) (q : Nat)
  /-- CONF_MODE (R404): CONF_MODE switches confidential mode at its boundary; disabling is denied while partitions are live. Operands: ring whose head holds the packet. -/
  | confMode (dt : Nat) (q : Nat)
  /-- PARTITION_ASSIGN (R401): PARTITION_ASSIGN assigns or releases a partition at the next boundary, as Table 17-2 states. Operands: ring whose head holds the packet. -/
  | partitionAssign (dt : Nat) (q : Nat)
  /-- SCRUB_BEGIN (R402): SCRUB_BEGIN marks a partition as being scrubbed from the next boundary. Operands: ring whose head holds the packet. -/
  | scrubBegin (dt : Nat) (q : Nat)
  /-- SCRUB_END (R402): SCRUB_END clears the scrub mark at the next boundary and clears UNSCRUBBED. Operands: ring whose head holds the packet. -/
  | scrubEnd (dt : Nat) (q : Nat)
  /-- UPDATE_BLOCK (R422): An update image block is received, with the header check on the first block. Operands: ring, and the verdicts on the root key and on the header signature where the block completes a header. -/
  | updateBlock (dt : Nat) (q : Nat) (rootOk sigOk : Bool)
  /-- UPD_FULL_CHECK_DONE (R423): The full check of a received image completes and the image is staged or left erased. Operands: the verdicts on a header signature, the digest, the content and the flash copy, and the flash offset the fault reports. -/
  | updFullCheckDone (dt : Nat) (sig digest content flash : Bool) (off : Nat)
  /-- UPDATE_ACTIVATE (R426): UPDATE_ACTIVATE schedules activation of the staged images at time T. Operands: ring whose head holds the packet. -/
  | updateActivate (dt : Nat) (q : Nat)
  /-- UPDATE_CONFIRM (R433): UPDATE_CONFIRM ends the trial when the self-check holds and raises the anti-rollback counters. Operands: ring whose head holds the packet. -/
  | updateConfirm (dt : Nat) (q : Nat)
  /-- UPDATE_ABORT (R438): UPDATE_ABORT ends a transfer, a pending activation or a trial. Operands: ring whose head holds the packet. -/
  | updateAbort (dt : Nat) (q : Nat)
  /-- EVR_WATCH (R380): EVR_WATCH sets a watch's register list and trigger at the next boundary. Operands: ring whose head holds the packet. -/
  | evrWatch (dt : Nat) (q : Nat)
  /-- EVR_FLUSH (R382): EVR_FLUSH starts a flush of the recorder buffer to flash. Operands: ring whose head holds the packet. -/
  | evrFlush (dt : Nat) (q : Nat)
  /-- FAULT_POLICY (R391): FAULT_POLICY sets a kind's N, W and ACTION at the next boundary. Operands: ring whose head holds the packet. -/
  | faultPolicy (dt : Nat) (q : Nat)
  /-- MBX_WRITE (R369): A permitted party writes a mailbox word, setting FULL and stamping SENDER. Operands: agent, mailbox and word. -/
  | mbxWrite (dt : Nat) (agent : Byte) (m : Nat) (val : Word)
  /-- MBX_READ (R369): The receiver reads a mailbox word and clears FULL. Operands: agent and mailbox. -/
  | mbxRead (dt : Nat) (agent : Byte) (m : Nat)
  /-- PING (R370): The main core answers a PING mailbox request with the request word. Operands: mailbox. -/
  | ping (dt : Nat) (m : Nat)
  /-- GENERATION (R370): The main core answers a GENERATION mailbox request. Operands: mailbox. -/
  | generation (dt : Nat) (m : Nat)
  /-- STATE (R370): The main core answers a STATE mailbox request with RUN_STATE, HOST_STATE and SAFE. Operands: mailbox. -/
  | state (dt : Nat) (m : Nat)
  /-- MBX_UNKNOWN_REQUEST (R370): The main core answers an unknown mailbox request code with 0xFF. Operands: mailbox. -/
  | mbxUnknownRequest (dt : Nat) (m : Nat)
  /-- EVR_RECORD_POST (R377): A record is accepted into the recorder buffer with the next sequence number, or dropped when the input is full. -/
  | evrRecordPost (dt : Nat)
  /-- EVR_EPOCH_PERIODIC (R374): 128 s of operating hours since the last EPOCH record, and a periodic EPOCH record is written. -/
  | evrEpochPeriodic (dt : Nat)
  /-- WATCH_SNAPSHOT (R381): An accepted record matches a watch and its registers are read into a SNAPSHOT record. Operands: watch, and how many registers are read now. -/
  | watchSnapshot (dt : Nat) (w m : Nat)
  /-- EVR_FLUSH_DONE (R382): A flush of the unflushed granules to the log partition completes. Operands: granules programmed before one failed, none where all were. -/
  | evrFlushDone (dt : Nat) (ok : Option Nat)
  /-- FLUSH_MIN_END (R382): FLUSH_MIN ends and a pending rate-limited flush runs. -/
  | flushMinEnd (dt : Nat)
  /-- ERASE_AHEAD (R382): The flusher erases partition granules ahead of the write point. -/
  | eraseAhead (dt : Nat)
  /-- HOURS_SAVE (R384): At least every 10 minutes operating hours and the power-cycle count are saved to flash. -/
  | hoursSave (dt : Nat)
  /-- FAULT_MESSAGE (R389): A fault message is accepted, recorded and counted against its source under its kind's policy. -/
  | faultMessage (dt : Nat)
  /-- SEVERE_CLEAR (R389): Writing one to a THF_FLC_SEVERE bit clears the mark and the source's count. Operands: agent, word index and value written. -/
  | severeClear (dt : Nat) (agent : Byte) (v : Nat) (val : Word)
  /-- FLC_SELF_FAULT (R392): A parity error in the collector enters the safe state with cause 2 and stops classification. Operands: information field: where the parity error lies. -/
  | flcSelfFault (dt : Nat) (info : Nat)
  /-- FLC_INJECT (R394): The host driver arms an injection of inverted check bits into a chosen memory. Operands: agent and value written. -/
  | flcInject (dt : Nat) (agent : Byte) (val : Word)
  /-- HB_KICK (R393): Agent 0x40 writes THF_FLC_HB_KICK as a health report. Operands: agent and value written. -/
  | hbKick (dt : Nat) (agent : Byte) (val : Word)
  /-- HB_TOGGLE (R393): At each multiple of 500 µs, HB toggles while HB_RUN is 1. -/
  | hbToggle (dt : Nat)
  /-- HB_TIMEOUT (R393): No health report within HB_TIMEOUT; HB_RUN falls and HB stops. -/
  | hbTimeout (dt : Nat)
  /-- KX_NEW (R410): The host driver writes NEW and SEC begins drawing an ephemeral key pair. Operands: agent that writes. -/
  | kxNew (dt : Nat) (agent : Byte)
  /-- KX_READY (R410): SEC publishes the ephemeral public key and its signature and sets KX_READY. Operands: 96 bytes of the public key and of its signature. -/
  | kxReady (dt : Nat) (pub sig : List Nat)
  /-- LOG_MIGRATE_GRANULE (R415): Every 10 ms one granule is resealed under the current log key. Operands: whether the granule opens, and whether power is lost before it has been written back. -/
  | logMigrateGranule (dt : Nat) (opens stop : Bool)
  /-- EVR_WIN_FLASH_READ (R413): A read of a flash granule through THF_EVR_WIN opens it; a failure reads zero and sets AUTH_BAD. Operands: agent, word index of the window, and whether the granule shown opens. -/
  | evrWinFlashRead (dt : Nat) (agent : Byte) (n : Nat) (tag : Bool)
  /-- ACT_DECISION (R428): At D = T − 200 µs Thofida drives ACT_DEFER[0] high if steady state did not hold. -/
  | actDecision (dt : Nat)
  /-- ACT_SLOT (R428): At T the ACT_DEFER lines are read; the activation proceeds or moves on by ACT_SLOT_MS. Operands: ACT_DEFER[15:1] as other members drive them, and the caravan record that the old image writes. -/
  | actSlot (dt : Nat) (lines : Nat) (caravan : List Nat)
  /-- UPD_HANDOVER (R430): The firmware gap ends; the new image adopts the caravan record and the trial begins. Operands: component and format of the caravan sections that the new image declares, and, used where the image buffer does not serve, the full check's verdict on each bank and its refusal detail. -/
  | updHandover (dt : Nat) (image : NewImage)
  /-- AUTO_CONFIRM (R433): With AUTO_CONFIRM, the self-check has held for 10 s and the trial is confirmed. -/
  | autoConfirm (dt : Nat)
  /-- TRIAL_EXPIRY (R434): The trial timer expires without confirmation and Thofida falls back. -/
  | trialExpiry (dt : Nat)
  /-- PMBUS_TABLE_REFRESH (R459): Every 1 ms the telemetry helper refreshes the PMBus reply table and latched status bits. -/
  | pmbusTableRefresh (dt : Nat)
  /-- PAGE (R457): The PMBus PAGE command selects the page per SMBus master. Operands: SMBus master, the page written or none for a read, and whether the PEC is right. -/
  | page (dt : Nat) (m : Nat) (w : Option Nat) (pec : Bool)
  /-- CLEAR_FAULTS (R457): The PMBus CLEAR_FAULTS command clears the latched status bits. Operands: whether the PEC is right. -/
  | clearFaults (dt : Nat) (pec : Bool)
  /-- CAPABILITY (R457): The PMBus CAPABILITY command returns 0xD0. Operands: SMBus master. -/
  | capability (dt : Nat) (m : Nat)
  /-- VOUT_MODE (R457): The PMBus VOUT_MODE command returns 0x14. Operands: SMBus master. -/
  | voutMode (dt : Nat) (m : Nat)
  /-- STATUS_BYTE (R459): The PMBus STATUS_BYTE command returns the low byte of STATUS_WORD. Operands: SMBus master. -/
  | statusByte (dt : Nat) (m : Nat)
  /-- STATUS_WORD (R459): The PMBus STATUS_WORD command returns the page's status word. Operands: SMBus master. -/
  | statusWord (dt : Nat) (m : Nat)
  /-- STATUS_VOUT (R459): The PMBus STATUS_VOUT command returns the output-voltage status. Operands: SMBus master. -/
  | statusVout (dt : Nat) (m : Nat)
  /-- STATUS_IOUT (R459): The PMBus STATUS_IOUT command returns the current and power status. Operands: SMBus master. -/
  | statusIout (dt : Nat) (m : Nat)
  /-- STATUS_INPUT (R459): The PMBus STATUS_INPUT command returns the input status on page 4. Operands: SMBus master. -/
  | statusInput (dt : Nat) (m : Nat)
  /-- STATUS_TEMPERATURE (R459): The PMBus STATUS_TEMPERATURE command returns the temperature status. Operands: SMBus master. -/
  | statusTemperature (dt : Nat) (m : Nat)
  /-- STATUS_CML (R459): The PMBus STATUS_CML command returns the communication status. Operands: SMBus master. -/
  | statusCml (dt : Nat) (m : Nat)
  /-- STATUS_MFR_SPECIFIC (R459): The PMBus STATUS_MFR_SPECIFIC command returns the SCRUB, MAILBOX, SAFE, STALE, HB_STOPPED, TRIAL and CONF bits. Operands: SMBus master. -/
  | statusMfrSpecific (dt : Nat) (m : Nat)
  /-- READ_VIN (R457): The PMBus READ_VIN command returns the input-bus voltage. Operands: SMBus master. -/
  | readVin (dt : Nat) (m : Nat)
  /-- READ_IIN (R457): The PMBus READ_IIN command returns the input-bus current, zeroed where Table 17-5 requires. Operands: SMBus master. -/
  | readIin (dt : Nat) (m : Nat)
  /-- READ_VOUT (R457): The PMBus READ_VOUT command returns the rail's regulated sense value. Operands: SMBus master. -/
  | readVout (dt : Nat) (m : Nat)
  /-- READ_IOUT (R457): The PMBus READ_IOUT command returns the rail current. Operands: SMBus master. -/
  | readIout (dt : Nat) (m : Nat)
  /-- READ_TEMPERATURE_1 (R457): The PMBus READ_TEMPERATURE_1 command returns the hottest stage or the chip temperature. Operands: SMBus master. -/
  | readTemperature1 (dt : Nat) (m : Nat)
  /-- READ_TEMPERATURE_2 (R457): The PMBus READ_TEMPERATURE_2 command returns the bus converter temperature. Operands: SMBus master. -/
  | readTemperature2 (dt : Nat) (m : Nat)
  /-- READ_TEMPERATURE_3 (R457): The PMBus READ_TEMPERATURE_3 command returns Thofida's own temperature. Operands: SMBus master. -/
  | readTemperature3 (dt : Nat) (m : Nat)
  /-- READ_POUT (R457): The PMBus READ_POUT command returns rail or chip power. Operands: SMBus master. -/
  | readPout (dt : Nat) (m : Nat)
  /-- READ_PIN (R457): The PMBus READ_PIN command returns input power. Operands: SMBus master. -/
  | readPin (dt : Nat) (m : Nat)
  /-- PMBUS_REVISION (R457): The PMBus PMBUS_REVISION command returns 0x33. Operands: SMBus master. -/
  | pmbusRevision (dt : Nat) (m : Nat)
  /-- MFR_ID (R457): The PMBus MFR_ID command returns its string from BOARD_INFO. Operands: SMBus master. -/
  | mfrId (dt : Nat) (m : Nat)
  /-- MFR_MODEL (R457): The PMBus MFR_MODEL command returns its string from BOARD_INFO. Operands: SMBus master. -/
  | mfrModel (dt : Nat) (m : Nat)
  /-- MFR_REVISION (R457): The PMBus MFR_REVISION command returns its string from BOARD_INFO. Operands: SMBus master. -/
  | mfrRevision (dt : Nat) (m : Nat)
  /-- MFR_SERIAL (R457): The PMBus MFR_SERIAL command returns its string from BOARD_INFO. Operands: SMBus master. -/
  | mfrSerial (dt : Nat) (m : Nat)
  /-- MFR_READ_ENERGY (R457): The PMBus MFR_READ_ENERGY command returns the energy counter in mJ. Operands: SMBus master. -/
  | mfrReadEnergy (dt : Nat) (m : Nat)
  /-- MFR_BUS_ADDR (R457): The PMBus MFR_BUS_ADDR command sets the window offset for the BMC bridge. Operands: the 4 bytes written as a number, and whether the PEC is right. -/
  | mfrBusAddr (dt : Nat) (v : Nat) (pec : Bool)
  /-- MFR_BUS_DATA (R457): The PMBus MFR_BUS_DATA command performs one bus access by agent 0x02 and advances the offset. Operands: the word written or none for a read, and whether the PEC is right. -/
  | mfrBusData (dt : Nat) (w : Option Word) (pec : Bool)
  /-- PMBUS_INVALID_COMMAND (R457): An unlisted command, invalid page or failed PEC sets a CML bit. Operands: false where a PEC failed, true for an unlisted command or an invalid page, and the bytes that a read takes. -/
  | pmbusInvalidCommand (dt : Nat) (pec : Bool) (n : Nat)
  /-- PMBUS_SCL_TIMEOUT (R456): SCL stays low for 25 ms; the interface releases SDA and resets. -/
  | pmbusSclTimeout (dt : Nat)
  /-- SMBUS_ALERT_RESPONSE (R456): A read of the Alert Response Address returns Thofida's address and releases ALERT_N. -/
  | smbusAlertResponse (dt : Nat)
  /-- VAON_RESTORED (R469): VAON returns to or above 0.70 V, ending the VAON_LOW condition so that a later onset sends the fault again. Operands: VAON, in 0.25 mV. -/
  | vaonRestored (dt : Nat) (v : Nat)
  /-- REFCLK_STOP (R449): The 100 MHz reference stops; the local time base stops, every timed rule waits, HB holds its level and STG_TLM_CK stops. -/
  | refclkStop (dt : Nat)
  /-- REFCLK_RESUME (R449): The reference runs again and the local time base and every timed rule resume. -/
  | refclkResume (dt : Nat)
  deriving DecidableEq, Repr

end Sys2Proof
end

