-- ==== Sys2Proof/Machine/Store.lean ====
section
/-! DEFINITION. The sparse tables, the little-endian bytes (R12), and the shape of a register table: a field is a place in the
window (its key is 32 × offset + lowest bit), a register has a base, at most two indices and its fields (R7, R462). -/

namespace Sys2Proof.Machine

/-- The entry of a table at a key. -/
def aFind {α : Type} : Assoc α → Nat → Option α
  | [], _ => none
  | (k, v) :: r, q => if q = k then some v else aFind r q

/-- The value at a key, `d` where the table lists none. -/
def aGet {α : Type} (d : α) (m : Assoc α) (k : Nat) : α := (aFind m k).getD d

/-- The table without a key. -/
def aDel {α : Type} : Assoc α → Nat → Assoc α
  | [], _ => []
  | (k, v) :: r, q => if q = k then aDel r q else (k, v) :: aDel r q

/-- The table with a key set, keys kept in rising order. -/
def aIns {α : Type} : Assoc α → Nat → α → Assoc α
  | [], q, x => [(q, x)]
  | (k, v) :: r, q, x =>
    if q < k then (q, x) :: (k, v) :: r else if q = k then (q, x) :: r else (k, v) :: aIns r q x

/-- A write that keeps the canonical form: writing the default removes the entry. -/
def aPut {α : Type} [DecidableEq α] (d : α) (m : Assoc α) (k : Nat) (x : α) : Assoc α :=
  if x = d then aDel m k else aIns m k x

/-- Every key of the table is above a bound, and the keys rise strictly. -/
def aSortedFrom {α : Type} : Option Nat → Assoc α → Bool
  | _, [] => true
  | lo, (k, _) :: r => (match lo with | none => true | some b => decide (b < k)) && aSortedFrom (some k) r

/-- The canonical form of a table whose unlisted keys read as `d`. -/
def aWf {α : Type} [DecidableEq α] (d : α) (m : Assoc α) : Bool :=
  aSortedFrom none m && m.all (fun e => decide (e.2 ≠ d))

/-- The canonical form of a RAM (unlisted bytes read as zero). -/
abbrev memWf (m : Mem) : Bool := aWf (0 : Byte) m

/-- One byte of a RAM. -/
def memByte (m : Mem) (a : Nat) : Byte := aGet 0 m a

/-- `n` bytes from address `a`, lowest address first. -/
def memBytes (m : Mem) (a : Nat) : Nat → List Nat
  | 0 => []
  | n + 1 => (memByte m a).toNat :: memBytes m (a + 1) n

/-- The little-endian number that bytes spell (R12). -/
def ofLE : List Nat → Nat
  | [] => 0
  | b :: r => b % 256 + 256 * ofLE r

/-- The `n` little-endian bytes of a number (R12). -/
def toLE : Nat → Nat → List Nat
  | 0, _ => []
  | n + 1, v => v % 256 :: toLE n (v / 256)

/-- A little-endian number of `n` bytes at `a`. -/
def memLE (m : Mem) (a n : Nat) : Nat := ofLE (memBytes m a n)

/-- Write bytes from address `a` upwards. -/
def memPut (m : Mem) (a : Nat) : List Nat → Mem
  | [] => m
  | b :: r => memPut (aPut 0 m a (BitVec.ofNat 8 b)) (a + 1) r

/-- Write the `n` little-endian bytes of a number at `a`. -/
def memPutLE (m : Mem) (a n v : Nat) : Mem := memPut m a (toLE n v)

/-- Set `n` bytes from `a` to zero. -/
def memZero (m : Mem) (a n : Nat) : Mem := m.filter (fun e => decide (e.1 < a) || decide (a + n ≤ e.1))

/-- Copy `n` bytes from `src` to `dst`, two spans that do not meet. -/
def memCopy (m : Mem) (dst src n : Nat) : Mem :=
  (m.filter (fun e => decide (src ≤ e.1) && decide (e.1 < src + n))).foldl (fun t e => aPut 0 t (e.1 - src + dst) e.2) (memZero m dst n)

/-- Bits [lo + w − 1 : lo] of a number. -/
def bits (v lo w : Nat) : Nat := v / 2 ^ lo % 2 ^ w

/-- One bit of a number. -/
def bit (v i : Nat) : Bool := v.testBit i

/-- A number with bit `i` set. -/
def setBit (v i : Nat) : Nat := if v.testBit i then v else v + 2 ^ i

/-- A number with bit `i` clear. -/
def clrBit (v i : Nat) : Nat := if v.testBit i then v - 2 ^ i else v

/-- A number with bit `i` set to `b`. -/
def putBit (v i : Nat) (b : Bool) : Nat := if b then setBit v i else clrBit v i

/-- The number of ones among the low `n` bits. -/
def popcount : Nat → Nat → Nat
  | 0, _ => 0
  | n + 1, v => v % 2 + popcount n (v / 2)

/-- A `w`-bit two's complement number read as signed. -/
def sx (w v : Nat) : Int := if v < 2 ^ (w - 1) then (v : Int) else (v : Int) - 2 ^ w

/-- A signed number as `w` bits of two's complement. -/
def ux (w : Nat) (i : Int) : Nat := (i % (2 ^ w : Int)).toNat

/-- The nearer limit of a range (the field tables' "applied as the nearer limit"). -/
def clampN (lo hi v : Nat) : Nat := max lo (min hi v)

/-- The nearer limit of a range, signed. -/
def clampI (lo hi v : Int) : Int := max lo (min hi v)

/-- 1 for true. -/
def b2n (b : Bool) : Nat := if b then 1 else 0

/-- How a field is read and written (R7, Table 0-4; RWS names retention, its fields are of class A or F). -/
inductive Acc where
  /-- Read only. -/
  | ro
  /-- Applied within 40 ns. -/
  | rw
  /-- Takes effect at a boundary. -/
  | rwb
  /-- Write one to clear. -/
  | w1c
  /-- Reading clears. -/
  | rc
  /-- Write only. -/
  | wo
  deriving DecidableEq, Repr

/-- Retention class (R7, Table 0-5). -/
inductive Cls where
  /-- Held in flash. -/
  | f
  /-- Held on VAON. -/
  | a
  /-- Block configuration. -/
  | b
  /-- Hardware live state. -/
  | h
  deriving DecidableEq, Repr

/-- One field's place: its key is 32 × register offset + lowest bit. -/
structure Fld where
  /-- 32 × offset + lowest bit. -/
  key : Nat
  /-- Width in bits. -/
  w : Nat
  deriving DecidableEq, Repr

/-- A field of the register at an offset. -/
def fld (off lo w : Nat) : Fld := ⟨off * 32 + lo, w⟩

/-- The offset of the register that holds a key. -/
def keyOff (k : Nat) : Nat := k / 32

/-- The lowest bit of a key's field. -/
def keyLo (k : Nat) : Nat := k % 32

/-- One row of a field table. -/
structure FldDesc where
  /-- Lowest bit. -/
  lo : Nat
  /-- Width. -/
  w : Nat
  /-- Access code. -/
  acc : Acc
  /-- Retention class. -/
  cls : Cls
  /-- Reset value where it is one number; `resetAt` has those that go by index. -/
  rst : Nat
  deriving DecidableEq, Repr

/-- One row of an offset table: a base and at most two indices, each with its count and its stride. -/
structure RegDesc where
  base : Nat
  n1 : Nat
  s1 : Nat
  n2 : Nat
  s2 : Nat
  flds : List FldDesc
  deriving DecidableEq, Repr

/-- The second index fits: `d` is a multiple of the stride below the count. -/
def inDim (n s d : Nat) : Bool := if s = 0 then d == 0 else d % s == 0 && decide (d / s < n)

/-- Does a register row hold an offset (with the outer index found by division)? -/
def RegDesc.holds (r : RegDesc) (off : Nat) : Bool :=
  if off < r.base then false
  else
    let d := off - r.base
    if r.s1 = 0 then inDim r.n2 r.s2 d
    else if r.s2 = 0 then inDim r.n1 r.s1 d
    else decide (d / r.s1 < r.n1) && inDim r.n2 r.s2 (d % r.s1)

/-- Indices of an offset within its register row. -/
def RegDesc.idx (r : RegDesc) (off : Nat) : Nat × Nat :=
  let d := off - r.base
  if r.s1 = 0 then (0, if r.s2 = 0 then 0 else d / r.s2)
  else (d / r.s1, if r.s2 = 0 then 0 else d % r.s1 / r.s2)

end Sys2Proof.Machine
end

