-- ==== Sys2Proof/Config.lean ====
section
/-! DEFINITION. What one implementation fixes, and the free value the spec leaves open (log entry 1). -/

namespace Sys2Proof.Config

/-- A value the spec leaves open (an output of the PUF, of the random bit generator or of a cipher, an undefined result):
number `n` of the run. It has no body, so no proof can see it; `State.free` counts the ones already drawn. -/
opaque freeValue : Nat → Nat

/-- The 7-bit PMBus address that a BOARD_INFO image of this IMAGE_ID gives; the layout of its body is not stated (R456; log entry 24). -/
opaque boardAddr : Nat → Nat

/-- The string that such an image gives for a PMBus command code (R457; log entry 24). -/
opaque boardString : Nat → Nat → List Nat

/-- One number for region `r` of core `k` in the region table of the MAIN image with this IMAGE_ID: the table's contents are the image's, and
the spec states none (R324; log entry 97). -/
opaque mpuRegion : Nat → Nat → Nat → Nat

end Sys2Proof.Config
end

