-- ==== Sys2Proof/Machine/Fields.lean ====
section
/-! DEFINITION. The fields of Thofida's registers by name (the field tables of every chapter of spec/), each a place in the window: the offset of its register (R462) and its bits (R12). -/

namespace Sys2Proof.Machine


/-! Fields of chapter 01 of the spec. -/

def GLB.ID.DEVICE : Fld := fld 0x00000 16 16
def GLB.ID.BLOCK_VER : Fld := fld 0x00000 8 8
def GLB.ID.STEPPING : Fld := fld 0x00000 0 8
def GLB.SYSTIME_LO.TIME : Fld := fld 0x00008 0 32
def GLB.SYSTIME_HI.TIME : Fld := fld 0x0000C 0 32
def GLB.STEP_LO.STEP : Fld := fld 0x00010 0 32
def GLB.STEP_HI.STEP : Fld := fld 0x00014 0 16
def GLB.NEXT_BOUNDARY_LO.TIME : Fld := fld 0x00018 0 32
def GLB.NEXT_BOUNDARY_HI.TIME : Fld := fld 0x0001C 0 32
def GLB.BOUNDARY_STATUS.JOB_ATTACHED : Fld := fld 0x00020 0 1
def GLB.BOUNDARY_STATUS.LOCAL_BOUNDARIES : Fld := fld 0x00020 1 1
def GLB.BOUNDARY_STATUS.SYSTIME_VALID : Fld := fld 0x00020 2 1
def GLB.BOUNDARY_STATUS.STEP_PASSED : Fld := fld 0x00020 3 1
def GLB.BOUNDARY_STATUS.SWAP_ACTIVE : Fld := fld 0x00020 4 1
def GLB.BOUNDARY_CTRL.CUT_NS : Fld := fld 0x00024 0 16
def GLB.BOUNDARY_CTRL.LOCAL_PERIOD : Fld := fld 0x00024 16 8
def GLB.BOUNDARY_CTRL.IDLE_MS : Fld := fld 0x00024 24 8
def GLB.WRITE_STATUS.APPLY_PENDING : Fld := fld 0x00028 0 1
def GLB.WRITE_STATUS.RWB_PENDING : Fld := fld 0x00028 16 16
def GLB.BUS_ERR_STATUS.UNMAPPED : Fld := fld 0x0002C 0 1
def GLB.BUS_ERR_STATUS.PARTIAL_WRITE : Fld := fld 0x0002C 1 1
def GLB.BUS_ERR_STATUS.FIRST_AGENT : Fld := fld 0x0002C 8 8
def GLB.BUS_ERR_ADDR.OFFSET : Fld := fld 0x00030 0 20
def GLB.CORE_STATUS.VAON_LOW : Fld := fld 0x00034 0 1
def GLB.CORE_STATUS.BELOW_BOUNDS : Fld := fld 0x00034 1 1
def GLB.PROBE.VALUE : Fld := fld 0x00040 0 32
def GLB.PROBE_AT_STEP_LO.STEP : Fld := fld 0x00044 0 32
def GLB.PROBE_AT_STEP_HI.STEP : Fld := fld 0x00048 0 16
def GLB.PROBE_AT_STEP_HI.ARMED : Fld := fld 0x00048 31 1
def GLB.PROBE_EFFECTIVE.VALUE : Fld := fld 0x0004C 0 32

/-! Fields of chapter 02 of the spec. -/

def SNS.IMON.CURRENT (n : Nat) : Fld := fld (0x10000 + 4 * n) 0 16
def SNS.IMON.CODE (n : Nat) : Fld := fld (0x10000 + 4 * n) 16 10
def SNS.IMON.OVR (n : Nat) : Fld := fld (0x10000 + 4 * n) 31 1
def SNS.RAIL_I_1US.CURRENT (k : Nat) : Fld := fld (0x10200 + 4 * k) 0 20
def SNS.RAIL_I_10US.CURRENT (k : Nat) : Fld := fld (0x10210 + 4 * k) 0 20
def SNS.RAIL_V.VOLTAGE (k : Nat) : Fld := fld (0x10220 + 4 * k) 0 12
def SNS.VCORE_A.VOLTAGE : Fld := fld 0x10230 0 12
def SNS.VCORE_B.VOLTAGE : Fld := fld 0x10234 0 12
def SNS.BUS_V.VOLTAGE : Fld := fld 0x10240 0 12
def SNS.BUS_I.CURRENT : Fld := fld 0x10244 0 12
def SNS.BUS_P_1MS.POWER : Fld := fld 0x10248 0 16
def SNS.RAIL_P_1MS.POWER : Fld := fld 0x1024C 0 16
def SNS.XCHK_CTRL.ETA_LO : Fld := fld 0x10250 0 8
def SNS.XCHK_CTRL.ETA_HI : Fld := fld 0x10250 8 8
def SNS.XCHK_CTRL.P_FIXED : Fld := fld 0x10250 16 8
def SNS.XCHK_CTRL.MARGIN : Fld := fld 0x10250 24 8
def SNS.XCHK_STATUS.CHECK_ACTIVE : Fld := fld 0x10254 0 1
def SNS.XCHK_STATUS.IN_BAND : Fld := fld 0x10254 1 1
def SNS.XCHK_STATUS.MEAS_SUSPECT : Fld := fld 0x10254 2 1
def SNS.XCHK_STATUS.OUT_COUNT : Fld := fld 0x10254 8 8
def SNS.PHASE_INCL.INCLUDED (w : Nat) : Fld := fld (0x10260 + 4 * w) 0 32
def SNS.TRIM.OFFSET (n : Nat) : Fld := fld (0x10400 + 4 * n) 0 8
def SNS.TRIM.GAIN (n : Nat) : Fld := fld (0x10400 + 4 * n) 8 16
def SNS.OC_CTRL.OC_VCORE : Fld := fld 0x10600 0 8
def SNS.OC_CTRL.OC_VMEM : Fld := fld 0x10600 8 8
def SNS.OC_CTRL.OC_VLINK : Fld := fld 0x10600 16 8
def SNS.OC_CTRL.OC_VAUX : Fld := fld 0x10600 24 8
def SNS.SENSE_STATUS.OPEN : Fld := fld 0x10610 0 5
def SNS.SENSE_STATUS.SPLIT : Fld := fld 0x10610 8 1
def SNS.SENSE_CTRL.SPLIT_MV : Fld := fld 0x10614 0 8
def SNS.DROOP_THRESH.T1 : Fld := fld 0x10700 0 5
def SNS.DROOP_THRESH.T2 : Fld := fld 0x10700 8 5
def SNS.DROOP_THRESH.T3 : Fld := fld 0x10700 16 5
def SNS.DROOP_THRESH.T4 : Fld := fld 0x10700 24 5
def SNS.DROOP_STATUS.THRESH_REJECT : Fld := fld 0x10704 0 1
def SNS.DROOP_STATUS.STUCK_ANY : Fld := fld 0x10704 1 1
def SNS.DET_EXCL.EXCLUDED (w : Nat) : Fld := fld (0x10710 + 4 * w) 0 32
def SNS.REGION_DROOP.LEVEL (r : Nat) : Fld := fld (0x10800 + 4 * r) 0 3
def SNS.REGION_DROOP.WORST (r : Nat) : Fld := fld (0x10800 + 4 * r) 4 3
def SNS.REGION_DROOP.EVENTS (r : Nat) : Fld := fld (0x10800 + 4 * r) 16 16
def SNS.ACT_STATUS.STALE_RUN : Fld := fld 0x10A00 0 8
def SNS.ACT_STATUS.DUP : Fld := fld 0x10A00 8 1
def SNS.ACT_STATUS.STALE_TOTAL : Fld := fld 0x10A00 16 16
def SNS.ACT_SEL.FEATURE : Fld := fld 0x10A04 0 12
def SNS.ACT_VALUE.VALUE : Fld := fld 0x10A08 0 16
def HKS.STATUS.ROUND : Fld := fld 0x10C00 0 32
def HKS.CH.VALUE (c : Nat) : Fld := fld (0x11000 + 4 * c) 0 16
def HKS.CH.VALID (c : Nat) : Fld := fld (0x11000 + 4 * c) 16 1
def HKS.CH.AGE (c : Nat) : Fld := fld (0x11000 + 4 * c) 24 8

/-! Fields of chapter 03 of the spec. -/

def EST.CTRL.CAL_EN : Fld := fld 0x20000 0 1
def EST.CTRL.FORCE_MEAS : Fld := fld 0x20000 1 1
def EST.CTRL.LAMBDA_K : Fld := fld 0x20000 8 4
def EST.CTRL.SIG_SHIFT : Fld := fld 0x20000 12 4
def EST.TRUST_CTRL.DIS_PCT : Fld := fld 0x20004 0 8
def EST.TRUST_CTRL.DIS_FLOOR : Fld := fld 0x20004 8 8
def EST.TRUST_CTRL.DIS_WINDOWS : Fld := fld 0x20004 16 8
def EST.TRUST_CTRL.AGREE_WINDOWS : Fld := fld 0x20004 24 8
def EST.BAND_CTRL.GUARD_PCT : Fld := fld 0x20008 0 8
def EST.BAND_CTRL.EST_ONLY_PCT : Fld := fld 0x20008 8 8
def EST.BAND_CTRL.GUARDED_LIMIT_MS : Fld := fld 0x20008 16 12
def EST.CMD.RETRY : Fld := fld 0x2000C 0 1
def EST.CMD.CAL_RESET : Fld := fld 0x2000C 1 1
def EST.TRUST_STATUS.STATE : Fld := fld 0x20010 0 2
def EST.TRUST_STATUS.PENDING : Fld := fld 0x20010 2 2
def EST.TRUST_STATUS.PENDING_VALID : Fld := fld 0x20010 4 1
def EST.TRUST_STATUS.MISMATCH_LATCH : Fld := fld 0x20010 5 1
def EST.TRUST_STATUS.SHADOW_ACTIVE : Fld := fld 0x20010 6 1
def EST.TRUST_STATUS.SCRUB_SKIP : Fld := fld 0x20010 7 1
def EST.TRUST_STATUS.BAND : Fld := fld 0x20010 8 8
def EST.TRUST_STATUS.GUARDED_MS : Fld := fld 0x20010 16 12
def EST.TRUST_COUNT.DIS_RUN : Fld := fld 0x20014 0 8
def EST.TRUST_COUNT.AGREE_RUN : Fld := fld 0x20014 8 10
def EST.TRUST_COUNT.SHADOW_RUN : Fld := fld 0x20014 18 10
def EST.CAL_STATUS.CLAMP : Fld := fld 0x20018 0 4
def EST.CAL_STATUS.CAL_INVALID : Fld := fld 0x20018 4 1
def EST.CAL_STATUS.SUBST : Fld := fld 0x20018 5 1
def EST.CAL_STATUS.SUBST_RUN : Fld := fld 0x20018 8 8
def EST.CAL_STATUS.UPDATES : Fld := fld 0x20018 16 16
def EST.RAIL_I.CURRENT (k : Nat) : Fld := fld (0x20020 + 4 * k) 0 20
def EST.RAIL_I.STALE (k : Nat) : Fld := fld (0x20020 + 4 * k) 30 1
def EST.RAIL_I.SUBST (k : Nat) : Fld := fld (0x20020 + 4 * k) 31 1
def EST.RAIL_I_10US.CURRENT (k : Nat) : Fld := fld (0x20030 + 4 * k) 0 20
def EST.GOV_I.CURRENT (k : Nat) : Fld := fld (0x20040 + 4 * k) 0 20
def EST.GOV_I.SOURCE (k : Nat) : Fld := fld (0x20040 + 4 * k) 20 2
def EST.CAL.GAIN (k : Nat) : Fld := fld (0x20050 + 4 * k) 0 16
def EST.CAL.OFFSET (k : Nat) : Fld := fld (0x20050 + 4 * k) 16 16
def EST.SHADOW.GAIN (k : Nat) : Fld := fld (0x20060 + 4 * k) 0 16
def EST.SHADOW.OFFSET (k : Nat) : Fld := fld (0x20060 + 4 * k) 16 16
def EST.CAL_BOUND.GAIN_MIN (k : Nat) : Fld := fld (0x20070 + 4 * k) 0 8
def EST.CAL_BOUND.GAIN_MAX (k : Nat) : Fld := fld (0x20070 + 4 * k) 8 8
def EST.CAL_BOUND.OFF_MAX (k : Nat) : Fld := fld (0x20070 + 4 * k) 16 8
def EST.CAL_BOUND.STEP_MAX (k : Nat) : Fld := fld (0x20070 + 4 * k) 24 8
def EST.GROUP_I.CURRENT (g : Nat) : Fld := fld (0x20080 + 4 * g) 0 20
def EST.REGION_I.CURRENT (r : Nat) : Fld := fld (0x20100 + 4 * r) 0 16
def EST.CHIP_P.POWER : Fld := fld 0x20200 0 16
def EST.CHIP_P_10MS.POWER : Fld := fld 0x20204 0 16
def EST.ENERGY_LO.ENERGY : Fld := fld 0x20208 0 32
def EST.ENERGY_HI.ENERGY : Fld := fld 0x2020C 0 32
def EST.SIG.MEAN (s : Nat) (k : Nat) : Fld := fld (0x24000 + 16 * s + 4 * k) 0 16
def EST.SIG.PEAK (s : Nat) (k : Nat) : Fld := fld (0x24000 + 16 * s + 4 * k) 16 16

/-! Fields of chapter 04 of the spec. -/

def PXE.CTRL.USER_CAP_EN : Fld := fld 0x30000 0 1
def PXE.CTRL.USER_HALT : Fld := fld 0x30000 1 1
def PXE.USER_PERIOD.PERIOD : Fld := fld 0x30004 0 10
def PXE.BOUND.RAW_MAX : Fld := fld 0x30008 0 16
def PXE.BOUND.FORECAST_MAX : Fld := fld 0x30008 16 8
def PXE.STATUS.ACTIVE_SLOT : Fld := fld 0x30010 0 2
def PXE.STATUS.BUSY : Fld := fld 0x30010 2 1
def PXE.STATUS.BUILTIN : Fld := fld 0x30010 3 1
def PXE.STATUS.PERIOD_REJECT : Fld := fld 0x30010 4 1
def PXE.LOAD_STATUS.DETAIL : Fld := fld 0x30014 0 8
def PXE.LOAD_STATUS.SLOT : Fld := fld 0x30014 8 2
def PXE.LOAD_STATUS.LOADING : Fld := fld 0x30014 15 1
def PXE.LOAD_STATUS.DESC : Fld := fld 0x30014 16 10
def PXE.MEM_STATUS.CORRECTED : Fld := fld 0x30018 0 16
def PXE.MEM_STATUS.UNCORR : Fld := fld 0x30018 16 1
def PXE.SLOT_STATUS.STATE (s : Nat) : Fld := fld (0x30020 + 4 * s) 0 2
def PXE.SLOT_STATUS.OVERRUN (s : Nat) : Fld := fld (0x30020 + 4 * s) 2 1
def PXE.SLOT_STATUS.FALLBACK (s : Nat) : Fld := fld (0x30020 + 4 * s) 3 1
def PXE.SLOT_STATUS.CLAMPED (s : Nat) : Fld := fld (0x30020 + 4 * s) 4 1
def PXE.SLOT_STATUS.INVALID_OUT (s : Nat) : Fld := fld (0x30020 + 4 * s) 5 1
def PXE.SLOT_STATUS.RUNS (s : Nat) : Fld := fld (0x30020 + 4 * s) 16 16
def PXE.SLOT_ID.PROGRAM_ID (s : Nat) : Fld := fld (0x30030 + 4 * s) 0 32
def PXE.SLOT_WCET.WCET (s : Nat) : Fld := fld (0x30040 + 4 * s) 0 24
def PXE.SLOT_BUDGET.BUDGET (s : Nat) : Fld := fld (0x30050 + 4 * s) 0 24
def PXE.SLOT_TIME.LAST (s : Nat) : Fld := fld (0x30060 + 4 * s) 0 16
def PXE.SLOT_TIME.LONGEST (s : Nat) : Fld := fld (0x30060 + 4 * s) 16 16
def PXE.HIST.COUNT (s : Nat) (b : Nat) : Fld := fld (0x31000 + 128 * s + 4 * b) 0 32
def PXE.OUT.VALUE (s : Nat) (i : Nat) : Fld := fld (0x32000 + 1024 * s + 4 * i) 0 32

/-! Fields of chapter 05 of the spec. -/

def PXE.FLAGS.FLAGS (s : Nat) : Fld := fld (0x30100 + 4 * s) 0 9
def PXE.RUN_FLAGS.FLAGS (s : Nat) : Fld := fld (0x30110 + 4 * s) 0 9
def PXE.ARITH_CTRL.FAULT_EN : Fld := fld 0x30120 0 9
def PXE.CAP_INFO.VALID (s : Nat) : Fld := fld (0x30140 + 32 * s) 0 1
def PXE.CAP_INFO.CAUSE (s : Nat) : Fld := fld (0x30140 + 32 * s) 1 3
def PXE.CAP_INFO.DESC (s : Nat) : Fld := fld (0x30140 + 32 * s) 4 10
def PXE.CAP_INFO.FMT_A (s : Nat) : Fld := fld (0x30140 + 32 * s) 14 2
def PXE.CAP_INFO.FMT_B (s : Nat) : Fld := fld (0x30140 + 32 * s) 16 2
def PXE.CAP_INFO.FUNC (s : Nat) : Fld := fld (0x30140 + 32 * s) 20 4
def PXE.CAP_INFO.OP (s : Nat) : Fld := fld (0x30140 + 32 * s) 24 8
def PXE.CAP_ELEMENT.ELEMENT (s : Nat) : Fld := fld (0x30144 + 32 * s) 0 24
def PXE.CAP_TERM.TERM (s : Nat) : Fld := fld (0x30148 + 32 * s) 0 16
def PXE.CAP_TERM.FEATURE (s : Nat) : Fld := fld (0x30148 + 32 * s) 16 12
def PXE.CAP_TERM.FEAT_VALID (s : Nat) : Fld := fld (0x30148 + 32 * s) 31 1
def PXE.CAP_OPA.OPA (s : Nat) : Fld := fld (0x3014C + 32 * s) 0 32
def PXE.CAP_OPB.OPB (s : Nat) : Fld := fld (0x30150 + 32 * s) 0 32
def PXE.CAP_COUNT.COUNT (s : Nat) : Fld := fld (0x30154 + 32 * s) 0 16

/-! Fields of chapter 06 of the spec. -/

def PSQ.CTRL.FIXED_BEAT : Fld := fld 0x40000 0 1
def PSQ.CTRL.REPEATABLE : Fld := fld 0x40000 1 1
def PSQ.CTRL.PRELIFT_EN : Fld := fld 0x40000 2 1
def PSQ.CTRL.PREPOS_EN : Fld := fld 0x40000 3 1
def PSQ.FF_CTRL.ADD_LEAD : Fld := fld 0x40004 0 8
def PSQ.FF_CTRL.LIFT_SLEW : Fld := fld 0x40004 8 8
def PSQ.FF_CTRL.LIFT_DECAY : Fld := fld 0x40004 16 8
def PSQ.FF_CTRL.PH_FILL : Fld := fld 0x40004 24 8
def PSQ.SHED_CTRL.SHED_HORIZON : Fld := fld 0x40008 0 16
def PSQ.REACT_SEL.SEL_VCORE : Fld := fld 0x40010 0 4
def PSQ.REACT_SEL.SEL_VMEM : Fld := fld 0x40010 4 4
def PSQ.REACT_SEL.SEL_VLINK : Fld := fld 0x40010 8 4
def PSQ.REACT_SEL.SEL_VAUX : Fld := fld 0x40010 12 4
def PSQ.REACT_SEL.BOOST : Fld := fld 0x40010 16 1
def PSQ.REACT_GUARD.RESERVE_NS : Fld := fld 0x40014 0 20
def PSQ.REACT_GUARD.HOLD_LEAD : Fld := fld 0x40014 20 10
def PSQ.STATUS.PLAN_STATE : Fld := fld 0x40020 0 3
def PSQ.STATUS.ACTIVE_HALF : Fld := fld 0x40020 3 1
def PSQ.STATUS.NEXT_READY : Fld := fld 0x40020 4 1
def PSQ.STATUS.LIFT_ACTIVE : Fld := fld 0x40020 5 1
def PSQ.STATUS.LIFT_CLIPPED : Fld := fld 0x40020 6 1
def PSQ.STATUS.REPEAT_BROKEN : Fld := fld 0x40020 7 1
def PSQ.STATUS.WINDOW_FILL : Fld := fld 0x40020 8 6
def PSQ.STATUS.FIXED_BEAT_ACTIVE : Fld := fld 0x40020 14 1
def PSQ.LOAD_STATUS.DETAIL : Fld := fld 0x40024 0 8
def PSQ.LOAD_STATUS.HALF : Fld := fld 0x40024 8 1
def PSQ.LOAD_STATUS.LOADING : Fld := fld 0x40024 15 1
def PSQ.LOAD_STATUS.ENTRY : Fld := fld 0x40024 16 15
def PSQ.PLAN_ID.PLAN_ID : Fld := fld 0x40028 0 32
def PSQ.COUNTS.SEEKS : Fld := fld 0x4002C 0 16
def PSQ.COUNTS.GAPS : Fld := fld 0x4002C 16 16
def PSQ.SEG_FIRST_LO.STEP (h : Nat) : Fld := fld (0x40030 + 16 * h) 0 32
def PSQ.SEG_FIRST_HI.STEP (h : Nat) : Fld := fld (0x40034 + 16 * h) 0 16
def PSQ.SEG_COUNT.COUNT (h : Nat) : Fld := fld (0x40038 + 16 * h) 0 16
def PSQ.SEG_COUNT.LAST (h : Nat) : Fld := fld (0x40038 + 16 * h) 17 1
def PSQ.SEG_COUNT.VALID (h : Nat) : Fld := fld (0x40038 + 16 * h) 18 1
def PSQ.CUR.WORD (w : Nat) : Fld := fld (0x40050 + 4 * w) 0 32
def PSQ.LIFT.LIFT_NOW : Fld := fld 0x40060 0 8
def PSQ.LIFT.LIFT_TARGET : Fld := fld 0x40060 8 8
def PSQ.PHASE_TGT.VCORE : Fld := fld 0x40064 0 7
def PSQ.PHASE_TGT.VMEM : Fld := fld 0x40064 8 5
def PSQ.PHASE_TGT.VLINK : Fld := fld 0x40064 16 4
def PSQ.DUR.DURATION (h : Nat) (c : Nat) : Fld := fld (0x41000 + 256 * h + 4 * c) 0 32
def PSQ.WIN.WORD (i : Nat) (w : Nat) : Fld := fld (0x42000 + 16 * i + 4 * w) 0 32

/-! Fields of chapter 07 of the spec. -/

def DRG.CTRL.HOLD_EN : Fld := fld 0x50000 0 1
def DRG.CTRL.MAX_HOLDS : Fld := fld 0x50000 8 4
def DRG.CTRL.HOLD_LONG_US : Fld := fld 0x50000 16 7
def DRG.HOLD_CTRL.HOLD_MARGIN : Fld := fld 0x50004 0 12
def DRG.HOLD_CTRL.HOLD_QUANTUM : Fld := fld 0x50004 12 8
def DRG.HOLD_CTRL.PROJ_WIN : Fld := fld 0x50004 20 6
def DRG.STATUS.HOLDS : Fld := fld 0x50010 0 4
def DRG.STATUS.HOLD_PENDING : Fld := fld 0x50010 4 1
def DRG.STATUS.PAST_DEADLINE : Fld := fld 0x50010 5 1
def DRG.STATUS.LATE_STEP : Fld := fld 0x50010 6 1
def DRG.STATUS.WORST_REGION : Fld := fld 0x50010 8 6
def DRG.STATUS.MISS : Fld := fld 0x50010 16 1
def DRG.STATUS.UNANSWERED : Fld := fld 0x50010 17 1
def DRG.STATUS.HOLD_LONG : Fld := fld 0x50010 18 1
def DRG.STATUS.MOVE_REJECT : Fld := fld 0x50010 19 1
def DRG.CHIP_LATE.LATE : Fld := fld 0x50014 0 32
def DRG.PROJ.PROJ : Fld := fld 0x50018 0 32
def DRG.RESERVE_EFF.RESERVE : Fld := fld 0x5001C 0 32
def DRG.DEADLINE_LO.TIME : Fld := fld 0x50020 0 32
def DRG.DEADLINE_HI.TIME : Fld := fld 0x50024 0 32
def DRG.LAST_LATE.LATE : Fld := fld 0x50028 0 32
def DRG.LAST_SLACK.SLACK : Fld := fld 0x5002C 0 32
def DRG.HOLD_TX.EXT : Fld := fld 0x50030 0 16
def DRG.HOLD_TX.REASON : Fld := fld 0x50030 16 2
def DRG.HOLD_TX.LATE : Fld := fld 0x50030 18 1
def DRG.HOLD_TX.SEQ : Fld := fld 0x50030 20 4
def DRG.COUNTS.HOLDS : Fld := fld 0x50034 0 16
def DRG.COUNTS.MISSES : Fld := fld 0x50034 16 16
def DRG.REGION_LATE.LATE (r : Nat) : Fld := fld (0x50100 + 4 * r) 0 32
def DRG.REGION_STRETCH.STRETCH (r : Nat) : Fld := fld (0x50200 + 4 * r) 0 6
def DRG.REGION_STRETCH.HOLDING (r : Nat) : Fld := fld (0x50200 + 4 * r) 6 1
def DRG.REGION_STRETCH.LONGEST_HOLD (r : Nat) : Fld := fld (0x50200 + 4 * r) 16 16

/-! Fields of chapter 08 of the spec. -/

def PHC.CTRL.SEL_SRC : Fld := fld 0x60000 0 1
def PHC.CTRL.SP_SLEW : Fld := fld 0x60000 8 8
def PHC.BURST_CTRL.BURST_DEPTH : Fld := fld 0x60004 0 8
def PHC.BURST_CTRL.BURST_SLEW : Fld := fld 0x60004 8 8
def PHC.BURST_CTRL.BURST_EXIT : Fld := fld 0x60004 16 8
def PHC.BURST_CTRL.BURST_MAX : Fld := fld 0x60004 24 8
def PHC.PROT_CTRL.BURST_REARM : Fld := fld 0x60008 0 8
def PHC.PROT_CTRL.NEG_LIMIT : Fld := fld 0x60008 8 8
def PHC.DE_CTRL.DE_PCT : Fld := fld 0x6000C 0 8
def PHC.DE_CTRL.DE_DWELL : Fld := fld 0x6000C 8 8
def PHC.DE_CTRL.DE_EN : Fld := fld 0x6000C 16 4
def PHC.ADD_CTRL.ADD_A_VCORE : Fld := fld 0x60010 0 8
def PHC.ADD_CTRL.ADD_A_VMEM : Fld := fld 0x60010 8 8
def PHC.ADD_CTRL.ADD_A_VLINK : Fld := fld 0x60010 16 8
def PHC.RETIRE_CTRL.PH_HOT : Fld := fld 0x60014 0 8
def PHC.RETIRE_CTRL.HOT_ROUNDS : Fld := fld 0x60014 8 8
def PHC.RETIRE_CTRL.IMBAL_A : Fld := fld 0x60014 16 8
def PHC.STATUS.SP_REJECT : Fld := fld 0x60018 0 1
def PHC.STATUS.SAFE_SEL : Fld := fld 0x60018 1 1
def PHC.COMP_PI.KP (k : Nat) : Fld := fld (0x60020 + 8 * k) 0 16
def PHC.COMP_PI.KI (k : Nat) : Fld := fld (0x60020 + 8 * k) 16 16
def PHC.COMP_D.KD (k : Nat) : Fld := fld (0x60024 + 8 * k) 0 16
def PHC.RAIL_STATUS.SEL (k : Nat) : Fld := fld (0x60040 + 4 * k) 0 4
def PHC.RAIL_STATUS.REGULATING (k : Nat) : Fld := fld (0x60040 + 4 * k) 4 7
def PHC.RAIL_STATUS.DE (k : Nat) : Fld := fld (0x60040 + 4 * k) 11 1
def PHC.RAIL_STATUS.RAMPING (k : Nat) : Fld := fld (0x60040 + 4 * k) 12 1
def PHC.RAIL_STATUS.SHED_INH (k : Nat) : Fld := fld (0x60040 + 4 * k) 13 1
def PHC.RAIL_STATUS.BURST (k : Nat) : Fld := fld (0x60040 + 4 * k) 14 1
def PHC.RAIL_STATUS.REF (k : Nat) : Fld := fld (0x60040 + 4 * k) 16 12
def PHC.VSEL.PINS : Fld := fld 0x60050 0 4
def PHC.VSEL.SA_ACTIVE : Fld := fld 0x60050 4 1
def PHC.AVAIL.VCORE : Fld := fld 0x60054 0 7
def PHC.AVAIL.VMEM : Fld := fld 0x60054 8 5
def PHC.AVAIL.VLINK : Fld := fld 0x60054 16 4
def PHC.AVAIL.VAUX : Fld := fld 0x60054 24 3
def PHC.BURST_STATUS.COUNT : Fld := fld 0x60058 0 16
def PHC.BURST_STATUS.LAST_CAUSE : Fld := fld 0x60058 16 2
def PHC.BURST_STATUS.LONGEST : Fld := fld 0x60058 24 8
def PHC.SHED_STATUS.ABORTS : Fld := fld 0x6005C 0 16
def PHC.PHASE_STATE.STATE (w : Nat) : Fld := fld (0x60060 + 4 * w) 0 32
def PHC.RETIRED.RETIRED (w : Nat) : Fld := fld (0x60080 + 4 * w) 0 32
def PHC.DUTY.DUTY (k : Nat) : Fld := fld (0x600B0 + 4 * k) 0 16
def PHC.SP.VOLT (k : Nat) (e : Nat) : Fld := fld (0x60100 + 64 * k + 4 * e) 0 10
def PHC.SP.FMAX (k : Nat) (e : Nat) : Fld := fld (0x60100 + 64 * k + 4 * e) 16 8
def PHC.OC_COUNT.COUNT (n : Nat) : Fld := fld (0x60200 + 4 * n) 0 16

/-! Fields of chapter 09 of the spec. -/

def PHC.SEQ_CTRL.AUTO_START : Fld := fld 0x60400 0 1
def PHC.SEQ_CTRL.SEQ_ORDER : Fld := fld 0x60400 8 8
def PHC.SEQ_CTRL.SEQ_GAP : Fld := fld 0x60400 16 8
def PHC.SEQ_CTRL.STOP_SLEW : Fld := fld 0x60400 24 8
def PHC.START_CTRL.PREBIAS_MIN : Fld := fld 0x60404 0 8
def PHC.START_CTRL.PG_WIN : Fld := fld 0x60404 8 8
def PHC.START_CTRL.OV_MV : Fld := fld 0x60404 16 8
def PHC.START_CTRL.BUS_SETTLE : Fld := fld 0x60404 24 8
def PHC.SEQ_CMD.START : Fld := fld 0x60408 0 1
def PHC.SEQ_CMD.STOP : Fld := fld 0x60408 1 1
def PHC.SEQ_STATUS.SEQ_STATE : Fld := fld 0x6040C 0 3
def PHC.SEQ_STATUS.START_REFUSED : Fld := fld 0x6040C 4 1
def PHC.SEQ_STATUS.SEQ_REJECT : Fld := fld 0x6040C 5 1
def PHC.SEQ_STATUS.BUS_EN : Fld := fld 0x6040C 8 1
def PHC.SEQ_STATUS.PWR_GOOD : Fld := fld 0x6040C 9 1
def PHC.LATCH.LATCHED : Fld := fld 0x60410 0 4
def PHC.SS_CTRL.SS_SLEW (k : Nat) : Fld := fld (0x60420 + 4 * k) 0 8
def PHC.SS_CTRL.START_PH (k : Nat) : Fld := fld (0x60420 + 4 * k) 8 7
def PHC.SS_CTRL.TRACK_MODE (k : Nat) : Fld := fld (0x60420 + 4 * k) 16 2
def PHC.SS_CTRL.TRACK_SRC (k : Nat) : Fld := fld (0x60420 + 4 * k) 20 2
def PHC.RAIL_SEQ.STATE (k : Nat) : Fld := fld (0x60430 + 4 * k) 0 3
def PHC.RAIL_SEQ.PREBIASED (k : Nat) : Fld := fld (0x60430 + 4 * k) 4 1
def PHC.RAIL_SEQ.TRACKING (k : Nat) : Fld := fld (0x60430 + 4 * k) 5 1
def PHC.RAIL_SEQ.CAUSE (k : Nat) : Fld := fld (0x60430 + 4 * k) 8 4
def PHC.RAIL_SEQ.START_V (k : Nat) : Fld := fld (0x60430 + 4 * k) 16 12

/-! Fields of chapter 10 of the spec. -/

def LGV.CTRL.BOOST_EN : Fld := fld 0x70000 0 1
def LGV.CTRL.DUTY_EN : Fld := fld 0x70000 1 1
def LGV.CTRL.SCHED_RATE : Fld := fld 0x70000 8 8
def LGV.CTRL.PROT_STEP : Fld := fld 0x70000 16 8
def LGV.CTRL.REL_PCT : Fld := fld 0x70000 24 8
def LGV.CAP.CAP : Fld := fld 0x70004 0 12
def LGV.CAP_AT_STEP_LO.STEP : Fld := fld 0x70008 0 32
def LGV.CAP_AT_STEP_HI.STEP : Fld := fld 0x7000C 0 16
def LGV.CAP_AT_STEP_HI.ARMED : Fld := fld 0x7000C 31 1
def LGV.EXC_CTRL.EXC_W : Fld := fld 0x70010 0 12
def LGV.EXC_CTRL.EXC_US : Fld := fld 0x70010 16 6
def LGV.PRIO.FIRST : Fld := fld 0x70014 0 2
def LGV.PRIO.SECOND : Fld := fld 0x70014 2 2
def LGV.PRIO.THIRD : Fld := fld 0x70014 4 2
def LGV.PRIO.AON_W : Fld := fld 0x70014 8 8
def LGV.DUTY_CTRL.DUTY_MIN : Fld := fld 0x70018 0 5
def LGV.DUTY_CTRL.UNMET_ROUNDS : Fld := fld 0x70018 8 8
def LGV.LIM.LIMIT (k : Nat) (w : Nat) : Fld := fld (0x70020 + 16 * k + 4 * w) 0 16
def LGV.THERM_LIM.LIMIT : Fld := fld 0x70060 0 16
def LGV.THERM_CEIL.CEIL : Fld := fld 0x70064 0 8
def LGV.STATUS.CAP_STATE : Fld := fld 0x70070 0 2
def LGV.STATUS.LIMITED_BY : Fld := fld 0x70070 4 4
def LGV.STATUS.BOOST_GRANTED : Fld := fld 0x70070 8 1
def LGV.STATUS.DUTY : Fld := fld 0x70070 9 5
def LGV.STATUS.DERATED : Fld := fld 0x70070 16 4
def LGV.STATUS.PRIO_REJECT : Fld := fld 0x70070 20 1
def LGV.STATUS.PROT_ACTIVE : Fld := fld 0x70070 21 1
def LGV.STATUS.BAL_ACTIVE : Fld := fld 0x70070 22 1
def LGV.OPP.ENTRY : Fld := fld 0x70074 0 4
def LGV.OPP.REQ_ENTRY : Fld := fld 0x70074 4 4
def LGV.OPP.RATE : Fld := fld 0x70074 8 8
def LGV.OPP.PROT_CEIL : Fld := fld 0x70074 16 8
def LGV.EFF_CAP.EFF_CAP : Fld := fld 0x70078 0 12
def LGV.EFF_CAP.BAL_W : Fld := fld 0x70078 16 12
def LGV.POWER.P_1MS : Fld := fld 0x7007C 0 16
def LGV.POWER.EXC_RUN : Fld := fld 0x7007C 16 8
def LGV.DOMAIN.SHARE (d : Nat) : Fld := fld (0x70080 + 4 * d) 0 16
def LGV.DOMAIN.DEMAND (d : Nat) : Fld := fld (0x70080 + 4 * d) 16 16
def LGV.BAL.CLAIM : Fld := fld 0x70090 0 16
def LGV.BAL.LEFTOVER : Fld := fld 0x70090 16 16
def LGV.HOLD_REQ.EXT : Fld := fld 0x70094 0 16
def LGV.HOLD_REQ.IDLE : Fld := fld 0x70094 16 16
def LGV.PH_REQ.VCORE : Fld := fld 0x70098 0 7
def LGV.PH_REQ.VMEM : Fld := fld 0x70098 8 5
def LGV.PH_REQ.VLINK : Fld := fld 0x70098 16 4
def LGV.COUNTS.PROT : Fld := fld 0x7009C 0 16
def LGV.COUNTS.UNMET_STEPS : Fld := fld 0x7009C 16 16
def LGV.WIN_I.CURRENT (k : Nat) (w : Nat) : Fld := fld (0x700A0 + 16 * k + 4 * w) 0 20

/-! Fields of chapter 11 of the spec. -/

def TMG.CTRL.FCAST_EN : Fld := fld 0x80000 0 1
def TMG.CTRL.XCHK_EN : Fld := fld 0x80000 1 1
def TMG.CTRL.RISE_LIM : Fld := fld 0x80000 16 8
def TMG.CTRL.RISE_FLOOR : Fld := fld 0x80000 24 8
def TMG.THRESH.WARN : Fld := fld 0x80004 0 8
def TMG.THRESH.THROTTLE : Fld := fld 0x80004 8 8
def TMG.THRESH.CRIT : Fld := fld 0x80004 16 8
def TMG.THRESH.TRIP : Fld := fld 0x80004 24 8
def TMG.STEP_CTRL.DOWN : Fld := fld 0x80008 0 4
def TMG.STEP_CTRL.UP : Fld := fld 0x80008 4 4
def TMG.STEP_CTRL.FLOOR : Fld := fld 0x80008 8 8
def TMG.STEP_CTRL.CRIT_CEIL : Fld := fld 0x80008 16 8
def TMG.STEP_CTRL.HYST : Fld := fld 0x80008 24 4
def TMG.XCHK_CTRL.XCHK_DEV : Fld := fld 0x8000C 0 8
def TMG.XCHK_CTRL.XCHK_ROUNDS : Fld := fld 0x8000C 8 8
def TMG.XCHK_CTRL.XCHK_CLEAR : Fld := fld 0x8000C 16 8
def TMG.XCHK_CTRL.BLIND_ADD : Fld := fld 0x8000C 24 8
def TMG.STATUS.WARN : Fld := fld 0x80010 0 1
def TMG.STATUS.THROTTLE : Fld := fld 0x80010 1 1
def TMG.STATUS.CRIT : Fld := fld 0x80010 2 1
def TMG.STATUS.RISE : Fld := fld 0x80010 3 1
def TMG.STATUS.TRIP_SINGLE : Fld := fld 0x80010 4 1
def TMG.STATUS.EMERGENCY : Fld := fld 0x80010 5 1
def TMG.STATUS.THRESH_REJECT : Fld := fld 0x80010 8 1
def TMG.STATUS.BLIND : Fld := fld 0x80010 9 1
def TMG.STATUS.SELF_HOT : Fld := fld 0x80010 10 1
def TMG.STATUS.CEIL_CAUSE : Fld := fld 0x80010 12 3
def TMG.CHIP_T.MEAS : Fld := fld 0x80014 0 16
def TMG.CHIP_T.HOT_REGION : Fld := fld 0x80014 16 6
def TMG.DECISION.TEMP : Fld := fld 0x80018 0 16
def TMG.DECISION.FROM_FORECAST : Fld := fld 0x80018 16 1
def TMG.STEP.LEVEL : Fld := fld 0x8001C 0 8
def TMG.STEP.LAST_CAUSE : Fld := fld 0x8001C 8 2
def TMG.STEP.STEPPING : Fld := fld 0x8001C 10 1
def TMG.TRIP.TRIPPED : Fld := fld 0x80020 0 1
def TMG.TRIP.REGION : Fld := fld 0x80020 8 6
def TMG.TRIP.SENSORS : Fld := fld 0x80020 16 8
def TMG.COUNTS.STEPS_DOWN : Fld := fld 0x80024 0 16
def TMG.COUNTS.STEPS_UP : Fld := fld 0x80024 16 16
def TMG.REGION_T.MEAS (r : Nat) : Fld := fld (0x80100 + 4 * r) 0 16
def TMG.REGION_T.FORECAST (r : Nat) : Fld := fld (0x80100 + 4 * r) 16 16
def TMG.SUSPECT.SUSPECT (w : Nat) : Fld := fld (0x80200 + 4 * w) 0 32
def TMG.SUSPECT_SET.MARK (w : Nat) : Fld := fld (0x80280 + 4 * w) 0 32
def TMG.TRIPCMP.TRIPPED (w : Nat) : Fld := fld (0x80240 + 4 * w) 0 32

/-! Fields of chapter 12 of the spec. -/

def BAL.CTRL.BAL_EN : Fld := fld 0x90000 0 1
def BAL.CTRL.POSITION : Fld := fld 0x90000 8 6
def BAL.CTRL.SERVE_STEPS : Fld := fld 0x90000 16 8
def BAL.CTRL.HOPS : Fld := fld 0x90000 24 4
def BAL.LIMITS.FLOOR_W : Fld := fld 0x90004 0 12
def BAL.LIMITS.CEIL_W : Fld := fld 0x90004 16 12
def BAL.PORTS.GROUP_PORTS : Fld := fld 0x90008 0 16
def BAL.PORTS.LATE_STEPS : Fld := fld 0x90008 16 8
def BAL.PORTS.REACT_MS : Fld := fld 0x90008 24 8
def BAL.BUDGET.BUDGET : Fld := fld 0x90010 0 20
def BAL.TEMP.TEMP_NS : Fld := fld 0x90014 0 16
def BAL.TEMP.SLACK_CLAMP : Fld := fld 0x90014 16 16
def BAL.ROSTER_LO.ROSTER : Fld := fld 0x90018 0 32
def BAL.ROSTER_HI.ROSTER : Fld := fld 0x9001C 0 32
def BAL.PARAM_AT_STEP_LO.STEP : Fld := fld 0x90020 0 32
def BAL.PARAM_AT_STEP_HI.STEP : Fld := fld 0x90024 0 16
def BAL.PARAM_AT_STEP_HI.ARMED : Fld := fld 0x90024 31 1
def BAL.GRANT.GRANT : Fld := fld 0x90030 0 12
def BAL.GRANT.ACTIVE : Fld := fld 0x90030 31 1
def BAL.GRANT_AT_STEP_LO.STEP : Fld := fld 0x90034 0 32
def BAL.GRANT_AT_STEP_HI.STEP : Fld := fld 0x90038 0 16
def BAL.GRANT_AT_STEP_HI.ARMED : Fld := fld 0x90038 31 1
def BAL.STATUS.ROUND_STATE : Fld := fld 0x90040 0 3
def BAL.STATUS.LAST_OUTCOME : Fld := fld 0x90040 4 2
def BAL.STATUS.SELF_MASK : Fld := fld 0x90040 8 4
def BAL.STATUS.FLOORS_EXCEED : Fld := fld 0x90040 16 1
def BAL.STATUS.PARAM_MISMATCH : Fld := fld 0x90040 17 1
def BAL.STATUS.STRAY : Fld := fld 0x90040 18 1
def BAL.STATUS.INCOMPLETE_RUN : Fld := fld 0x90040 24 8
def BAL.ROUND_LO.STEP : Fld := fld 0x90044 0 32
def BAL.ROUND_HI.STEP : Fld := fld 0x90048 0 16
def BAL.HEARD_LO.HEARD : Fld := fld 0x9004C 0 32
def BAL.HEARD_HI.HEARD : Fld := fld 0x90050 0 32
def BAL.MASKED_LO.MASKED : Fld := fld 0x90054 0 32
def BAL.MASKED_HI.MASKED : Fld := fld 0x90058 0 32
def BAL.COUNTS.ROUNDS : Fld := fld 0x9005C 0 16
def BAL.COUNTS.FLOORED : Fld := fld 0x9005C 16 16
def BAL.SB_STATUS.AUTH_FAIL : Fld := fld 0x90060 0 8
def BAL.SB_STATUS.REPLAY : Fld := fld 0x90060 8 8
def BAL.SB_STATUS.GEN_BAL : Fld := fld 0x90060 16 8
def BAL.SB_STATUS.GEN_JOB : Fld := fld 0x90060 24 8
def BAL.SB_CTRL.GRACE_MS : Fld := fld 0x90064 0 8
def BAL.SB_CTRL.AUTH_LIMIT : Fld := fld 0x90064 8 8
def BAL.TXCNT_LO.COUNTER (p : Nat) : Fld := fld (0x90100 + 8 * p) 0 32
def BAL.TXCNT_HI.COUNTER (p : Nat) : Fld := fld (0x90104 + 8 * p) 0 32
def BAL.VIEW.FLOOR (i : Nat) : Fld := fld (0x91000 + 16 * i) 0 16
def BAL.VIEW.CEIL (i : Nat) : Fld := fld (0x91000 + 16 * i) 16 16
def BAL.VIEW.CLAIM (i : Nat) : Fld := fld (0x91004 + 16 * i) 0 16
def BAL.VIEW.MASK (i : Nat) : Fld := fld (0x91004 + 16 * i) 16 8
def BAL.VIEW.SLACK (i : Nat) : Fld := fld (0x91008 + 16 * i) 0 32
def BAL.VIEW.REPORT_STEP (i : Nat) : Fld := fld (0x9100C + 16 * i) 0 32
def BAL.VEC.ALLOC (i : Nat) : Fld := fld (0x92000 + 4 * i) 0 16

/-! Fields of chapter 13 of the spec. -/

def STA.REST_CTRL.REST_EN : Fld := fld 0xA0000 0 4
def STA.REST_CTRL.DOZE_DWELL : Fld := fld 0xA0000 4 4
def STA.REST_CTRL.NAP_DWELL : Fld := fld 0xA0000 8 8
def STA.REST_CTRL.RET_DWELL : Fld := fld 0xA0000 16 8
def STA.REST_CTRL.DOR_DWELL : Fld := fld 0xA0000 24 8
def STA.LTR.LTR_NS : Fld := fld 0xA0004 0 32
def STA.WAKE_CTRL.REST_MARGIN : Fld := fld 0xA0008 0 16
def STA.CMD.WAKE : Fld := fld 0xA000C 0 1
def STA.CMD.ENTER_SAFE : Fld := fld 0xA000C 1 1
def STA.REST_STATUS.STATE : Fld := fld 0xA0010 0 3
def STA.REST_STATUS.LAST : Fld := fld 0xA0010 4 3
def STA.REST_STATUS.IDLE : Fld := fld 0xA0010 8 1
def STA.REST_STATUS.LATE_WAKE : Fld := fld 0xA0010 9 1
def STA.REST_STATUS.EXIT_SLOW : Fld := fld 0xA0010 10 1
def STA.REST_STATUS.SR_FAIL : Fld := fld 0xA0010 11 1
def STA.REST_STATUS.ALLOWED : Fld := fld 0xA0010 12 4
def STA.REST_STATUS.LAST_EXIT : Fld := fld 0xA0010 16 16
def STA.EXIT_BOUND.DORMANT : Fld := fld 0xA0014 0 16
def STA.REST_COUNT.ENTRIES : Fld := fld 0xA0018 0 16
def STA.REST_COUNT.LATE_WAKES : Fld := fld 0xA0018 16 16
def STA.RESET_CMD.CODE : Fld := fld 0xA0020 0 16
def STA.RESET_STATUS.LAST_RESET : Fld := fld 0xA0024 0 2
def STA.RESET_STATUS.RESTARTS : Fld := fld 0xA0024 8 8
def STA.RESET_STATUS.AGENT : Fld := fld 0xA0024 16 8
def STA.SAFE_STATUS.SAFE : Fld := fld 0xA0028 0 1
def STA.SAFE_STATUS.CAUSE : Fld := fld 0xA0028 1 3
def STA.WDT.KICK : Fld := fld 0xA002C 0 16
def STA.WDT.EXPIRIES : Fld := fld 0xA002C 16 8
def STA.WDT.RUNNING : Fld := fld 0xA002C 24 1

/-! Fields of chapter 14 of the spec. -/

def FW.STATUS.RUN_STATE : Fld := fld 0xB0000 0 2
def FW.STATUS.RESTART_WIN : Fld := fld 0xB0000 4 4
def FW.STATUS.RESTARTS : Fld := fld 0xB0000 8 8
def FW.STATUS.LIMIT_HIT : Fld := fld 0xB0000 16 1
def FW.STATUS.LAST_COMP : Fld := fld 0xB0000 24 4
def FW.STATUS.LAST_CAUSE : Fld := fld 0xB0000 28 4
def FW.IMAGE.IMAGE_ID : Fld := fld 0xB0004 0 32
def FW.GENERATION.GENERATION : Fld := fld 0xB0008 0 32
def FW.HOST_ALIVE.VALUE : Fld := fld 0xB000C 0 32
def FW.HOST_CTRL.HOST_TIMEOUT : Fld := fld 0xB0010 0 16
def FW.HOST_CMD.ATTACH_GEN : Fld := fld 0xB0014 0 16
def FW.HOST_CMD.ATTACH : Fld := fld 0xB0014 31 1
def FW.HOST_STATUS.HOST_STATE : Fld := fld 0xB0018 0 2
def FW.HOST_STATUS.ATTACH_REJECT : Fld := fld 0xB0018 4 1
def FW.HOST_STATUS.SINCE_ALIVE : Fld := fld 0xB0018 16 16
def FW.ABSENT_START_LO.TIME : Fld := fld 0xB0020 0 32
def FW.ABSENT_START_HI.TIME : Fld := fld 0xB0024 0 32
def FW.ABSENT_SUMMARY.DURATION : Fld := fld 0xB0028 0 24
def FW.ABSENT_SUMMARY.PLAN_STATE : Fld := fld 0xB0028 24 3
def FW.ABSENT_SUMMARY.VALID : Fld := fld 0xB0028 31 1
def FW.ABSENT_COUNTS.STEPS : Fld := fld 0xB002C 0 16
def FW.ABSENT_COUNTS.FAULTS : Fld := fld 0xB002C 16 16
def FW.MPU_FAULT_ADDR.ADDR : Fld := fld 0xB0030 0 32
def FW.MPU_FAULT_INFO.CORE : Fld := fld 0xB0034 0 2
def FW.MPU_FAULT_INFO.COMPONENT : Fld := fld 0xB0034 4 3
def FW.MPU_FAULT_INFO.WRITE : Fld := fld 0xB0034 8 1
def FW.MPU_FAULT_INFO.EXEC : Fld := fld 0xB0034 9 1
def FW.MPU_FAULT_INFO.VALID : Fld := fld 0xB0034 31 1
def FW.COMP_STATUS.STATE (c : Nat) : Fld := fld (0xB0040 + 4 * c) 0 2
def FW.COMP_STATUS.LAST_CAUSE (c : Nat) : Fld := fld (0xB0040 + 4 * c) 4 4
def FW.COMP_STATUS.RESTARTS (c : Nat) : Fld := fld (0xB0040 + 4 * c) 8 8
def FW.COMP_STATUS.AGE (c : Nat) : Fld := fld (0xB0040 + 4 * c) 16 16
def FW.CORE_STATUS.STATE (k : Nat) : Fld := fld (0xB0060 + 4 * k) 0 2
def FW.CORE_STATUS.LOADS (k : Nat) : Fld := fld (0xB0060 + 4 * k) 8 8
def FW.CORE_STATUS.CORRECTED (k : Nat) : Fld := fld (0xB0060 + 4 * k) 16 16
def FW.WEIGHT.WEIGHT (x : Nat) : Fld := fld (0xB0084 + 4 * (x - 1)) 0 4
def FW.WEIGHT.QUEUED (x : Nat) : Fld := fld (0xB0084 + 4 * (x - 1)) 16 16
def FW.LOG_CTRL.MIRROR_EN : Fld := fld 0xB0100 0 1
def FW.LOG_CTRL.PAGE : Fld := fld 0xB0100 1 1
def FW.LOG_CTRL.LEVEL : Fld := fld 0xB0100 4 2
def FW.LOG_CTRL.LOG_RATE : Fld := fld 0xB0100 8 8
def FW.LOG_STATUS.WRITE_INDEX : Fld := fld 0xB0104 0 11
def FW.LOG_STATUS.MIRROR_ERR : Fld := fld 0xB0104 16 1
def FW.LOG_STATUS.TRACE_FORCED_OFF : Fld := fld 0xB0104 17 1
def FW.LOG_STATUS.MIRROR_ACTIVE : Fld := fld 0xB0104 18 1
def FW.LOG_SEQ.SEQ : Fld := fld 0xB0108 0 32
def FW.LOG_DROP.DROPPED : Fld := fld 0xB010C 0 16
def FW.LOG_MIRROR_LO.ADDR : Fld := fld 0xB0110 0 32
def FW.LOG_MIRROR_HI.ADDR : Fld := fld 0xB0114 0 32
def FW.LOG_MIRROR_SIZE.SIZE_LOG2 : Fld := fld 0xB0118 0 5
def FW.LOG_MIRROR_SEQ.SEQ : Fld := fld 0xB011C 0 32
def FW.TRACE_MASK.MASK (w : Nat) : Fld := fld (0xB0120 + 4 * w) 0 32
def FW.LOG_WIN.WORD (i : Nat) : Fld := fld (0xB8000 + 4 * i) 0 32

/-! Fields of chapter 15 of the spec. -/

def CMD.CTRL.DISPATCH_EN : Fld := fld 0xC0000 0 1
def CMD.STATUS.OUTSTANDING : Fld := fld 0xC0004 0 15
def CMD.STATUS.STORE_FULL : Fld := fld 0xC0004 16 1
def CMD.STATUS.GATE_DISCARD : Fld := fld 0xC0004 17 1
def CMD.WIN_PAGE.PAGE : Fld := fld 0xC0008 0 4
def CMD.SETUP_STATUS.RING : Fld := fld 0xC000C 0 7
def CMD.SETUP_STATUS.REASON : Fld := fld 0xC000C 8 3
def CMD.SETUP_STATUS.SETUP_REJECT : Fld := fld 0xC000C 16 1
def CMD.ERR_STATUS.DOORBELL_REJECT : Fld := fld 0xC0010 0 16
def CMD.ERR_STATUS.FIRST_AGENT : Fld := fld 0xC0010 16 8
def CMD.ERR_STATUS.FIRST_RING : Fld := fld 0xC0010 24 7
def CMD.GATE_CTRL.OPEN : Fld := fld 0xC0020 0 1
def CMD.GATE_CTRL.HELD : Fld := fld 0xC0020 1 1
def CMD.GATE_STEP_LO.STEP : Fld := fld 0xC0024 0 32
def CMD.GATE_STEP_HI.STEP : Fld := fld 0xC0028 0 16
def CMD.GATE_STEP_HI.ARMED : Fld := fld 0xC0028 31 1
def CMD.RING_CFG.BASE (q : Nat) : Fld := fld (0xC1000 + 64 * q) 0 13
def CMD.RING_CFG.SIZE_LOG2 (q : Nat) : Fld := fld (0xC1000 + 64 * q) 16 4
def CMD.RING_CFG.ENABLE (q : Nat) : Fld := fld (0xC1000 + 64 * q) 24 1
def CMD.RING_CFG.RESET (q : Nat) : Fld := fld (0xC1000 + 64 * q) 25 1
def CMD.RING_CFG.VECTOR (q : Nat) : Fld := fld (0xC1000 + 64 * q) 26 5
def CMD.RING_CFG.IRQ_ALL (q : Nat) : Fld := fld (0xC1000 + 64 * q) 31 1
def CMD.RING_CQ.CQ_BASE (q : Nat) : Fld := fld (0xC1004 + 64 * q) 0 15
def CMD.RING_TAIL.TAIL (q : Nat) : Fld := fld (0xC1008 + 64 * q) 0 12
def CMD.RING_HEAD.HEAD (q : Nat) : Fld := fld (0xC100C + 64 * q) 0 12
def CMD.RING_CQ_HEAD.CQ_HEAD (q : Nat) : Fld := fld (0xC1010 + 64 * q) 0 12
def CMD.RING_CQ_TAIL.CQ_TAIL (q : Nat) : Fld := fld (0xC1014 + 64 * q) 0 12
def CMD.RING_STATUS.STATE (q : Nat) : Fld := fld (0xC1018 + 64 * q) 0 2
def CMD.RING_STATUS.SEQ_VALID (q : Nat) : Fld := fld (0xC1018 + 64 * q) 2 1
def CMD.RING_STATUS.BAD_SEQ (q : Nat) : Fld := fld (0xC1018 + 64 * q) 8 8
def CMD.RING_STATUS.PENDING (q : Nat) : Fld := fld (0xC1018 + 64 * q) 16 16
def CMD.RING_EXPECT.SEQ (q : Nat) : Fld := fld (0xC101C + 64 * q) 0 32
def CMD.LAST_APPLIED.SEQ (q : Nat) : Fld := fld (0xC1020 + 64 * q) 0 32
def MBX.CFG.AGENT_A (m : Nat) : Fld := fld (0xC3000 + 16 * m) 0 8
def MBX.CFG.AGENT_B (m : Nat) : Fld := fld (0xC3000 + 16 * m) 8 8
def MBX.CFG.MODE (m : Nat) : Fld := fld (0xC3000 + 16 * m) 16 2
def MBX.CFG.VECTOR (m : Nat) : Fld := fld (0xC3000 + 16 * m) 24 5
def MBX.CFG.IRQ_EN (m : Nat) : Fld := fld (0xC3000 + 16 * m) 29 1
def MBX.DATA.WORD (m : Nat) : Fld := fld (0xC3004 + 16 * m) 0 32
def MBX.STATUS.FULL (m : Nat) : Fld := fld (0xC3008 + 16 * m) 0 1
def MBX.STATUS.COLLISION (m : Nat) : Fld := fld (0xC3008 + 16 * m) 1 1
def MBX.STATUS.SENDER (m : Nat) : Fld := fld (0xC3008 + 16 * m) 8 8
def MBX.STATUS.COLLISIONS (m : Nat) : Fld := fld (0xC3008 + 16 * m) 16 16
def CMD.WIN.WORD (i : Nat) : Fld := fld (0xC8000 + 4 * i) 0 32

/-! Fields of chapter 16 of the spec. -/

def EVR.CTRL.PF_GRANULES : Fld := fld 0xD0000 0 6
def EVR.CTRL.FLUSH_MIN : Fld := fld 0xD0000 8 8
def EVR.STATUS.FLUSHING : Fld := fld 0xD0004 0 1
def EVR.STATUS.LOSS : Fld := fld 0xD0004 1 1
def EVR.STATUS.FLUSH_FAIL : Fld := fld 0xD0004 2 1
def EVR.STATUS.BUF_UNCORR : Fld := fld 0xD0004 3 1
def EVR.STATUS.FLUSH_PENDING : Fld := fld 0xD0004 4 1
def EVR.STATUS.AUTH_BAD : Fld := fld 0xD0004 5 1
def EVR.NEXT_SEQ_LO.SEQ : Fld := fld 0xD0008 0 32
def EVR.NEXT_SEQ_HI.SEQ : Fld := fld 0xD000C 0 16
def EVR.OLDEST_SEQ_LO.SEQ : Fld := fld 0xD0010 0 32
def EVR.OLDEST_SEQ_HI.SEQ : Fld := fld 0xD0014 0 16
def EVR.FLUSHED_SEQ_LO.SEQ : Fld := fld 0xD0018 0 32
def EVR.FLUSHED_SEQ_HI.SEQ : Fld := fld 0xD001C 0 16
def EVR.PTR.WRITE : Fld := fld 0xD0020 0 15
def EVR.PTR.OLDEST : Fld := fld 0xD0020 16 15
def EVR.FLASH.GRANULE : Fld := fld 0xD0024 0 12
def EVR.FLASH.ERASED : Fld := fld 0xD0024 16 12
def EVR.COUNTS.DROPPED : Fld := fld 0xD0028 0 16
def EVR.COUNTS.SUPPRESSED : Fld := fld 0xD0028 16 16
def EVR.HOURS_LO.HOURS : Fld := fld 0xD002C 0 32
def EVR.HOURS_HI.HOURS : Fld := fld 0xD0030 0 16
def EVR.CYCLES.CYCLES : Fld := fld 0xD0034 0 32
def EVR.WIN_CTRL.PAGE : Fld := fld 0xD0038 0 3
def EVR.WIN_CTRL.SRC : Fld := fld 0xD0038 4 1
def EVR.WIN_CTRL.GRANULE : Fld := fld 0xD0038 16 12
def EVR.WATCH.EVENT (w : Nat) : Fld := fld (0xD0040 + 4 * w) 0 16
def EVR.WATCH.COUNT (w : Nat) : Fld := fld (0xD0040 + 4 * w) 16 7
def EVR.WATCH.LIST_VER (w : Nat) : Fld := fld (0xD0040 + 4 * w) 24 8
def EVR.WATCH_LIST.OFFSET (w : Nat) (i : Nat) : Fld := fld (0xD0200 + 256 * w + 4 * i) 0 20
def FLC.CTRL.VECTOR : Fld := fld 0xD0080 0 5
def FLC.CTRL.IRQ_EN : Fld := fld 0xD0080 5 1
def FLC.CTRL.HB_TIMEOUT : Fld := fld 0xD0080 8 8
def FLC.STATUS.SELF_FAULT : Fld := fld 0xD0084 0 1
def FLC.STATUS.QUEUE_OVF : Fld := fld 0xD0084 1 1
def FLC.STATUS.HB_RUN : Fld := fld 0xD0084 2 1
def FLC.STATUS.HB_LEVEL : Fld := fld 0xD0084 3 1
def FLC.STATUS.SEVERE_ANY : Fld := fld 0xD0084 4 1
def FLC.STATUS.INJ_LOCKED : Fld := fld 0xD0084 5 1
def FLC.STATUS.SEVERE_COUNT : Fld := fld 0xD0084 16 16
def FLC.HB_KICK.VALUE : Fld := fld 0xD0088 0 32
def FLC.LAST_LO.MESSAGE : Fld := fld 0xD008C 0 32
def FLC.LAST_HI.MESSAGE : Fld := fld 0xD0090 0 32
def FLC.COUNTS.ACCEPTED : Fld := fld 0xD0094 0 16
def FLC.COUNTS.GAPS : Fld := fld 0xD0094 16 16
def FLC.INJECT.CHECKER : Fld := fld 0xD0098 0 4
def FLC.INJECT.BITS : Fld := fld 0xD0098 8 2
def FLC.INJECT.ARM : Fld := fld 0xD0098 16 1
def FLC.INJECT_STATUS.FIRED : Fld := fld 0xD009C 0 1
def FLC.INJECT_STATUS.LAST_CHECKER : Fld := fld 0xD009C 8 4
def FLC.POLICY.N (k : Nat) : Fld := fld (0xD0C00 + 4 * k) 0 8
def FLC.POLICY.W (k : Nat) : Fld := fld (0xD0C00 + 4 * k) 8 16
def FLC.POLICY.ACTION (k : Nat) : Fld := fld (0xD0C00 + 4 * k) 24 3
def FLC.POLICY.HINT (k : Nat) : Fld := fld (0xD0C00 + 4 * k) 28 2
def FLC.SEVERE.SEVERE (v : Nat) : Fld := fld (0xD1000 + 4 * v) 0 32
def EVR.WIN.WORD (i : Nat) : Fld := fld (0xD8000 + 4 * i) 0 32

/-! Fields of chapter 17 of the spec. -/

def SEC.STATUS.CONF : Fld := fld 0xE0000 0 1
def SEC.STATUS.SCRUB_ANY : Fld := fld 0xE0000 1 1
def SEC.STATUS.PUF_OK : Fld := fld 0xE0000 2 1
def SEC.STATUS.KX_READY : Fld := fld 0xE0000 3 1
def SEC.STATUS.DENIED : Fld := fld 0xE0000 8 1
def SEC.STATUS.MAP_REJECT : Fld := fld 0xE0000 9 1
def SEC.STATUS.UNWRAP_FAIL : Fld := fld 0xE0000 10 1
def SEC.DENY_INFO.AGENT : Fld := fld 0xE0004 0 8
def SEC.DENY_INFO.OFFSET : Fld := fld 0xE0004 8 20
def SEC.DENY_INFO.WRITE : Fld := fld 0xE0004 31 1
def SEC.KX_CTRL.NEW : Fld := fld 0xE0008 0 1
def SEC.LOG_KEY.GEN_CUR : Fld := fld 0xE000C 0 8
def SEC.LOG_KEY.GEN_PREV : Fld := fld 0xE000C 8 8
def SEC.LOG_KEY.LEFT : Fld := fld 0xE000C 16 13
def SEC.LOG_KEY.PREV_VALID : Fld := fld 0xE000C 31 1
def SEC.SEAL_CNT_LO.COUNTER : Fld := fld 0xE0010 0 32
def SEC.SEAL_CNT_HI.COUNTER : Fld := fld 0xE0014 0 32
def SEC.MIGRATE_COUNTS.MIGRATED : Fld := fld 0xE0018 0 16
def SEC.MIGRATE_COUNTS.LOST : Fld := fld 0xE0018 16 16
def SEC.ID_PUB.BYTES (i : Nat) : Fld := fld (0xE0100 + 4 * i) 0 32
def SEC.KX_PUB.BYTES (i : Nat) : Fld := fld (0xE0200 + 4 * i) 0 32
def SEC.KX_SIG.BYTES (i : Nat) : Fld := fld (0xE0280 + 4 * i) 0 32
def SEC.KX_PEER.BYTES (i : Nat) : Fld := fld (0xE0300 + 4 * i) 0 32
def SEC.PART_MAP_LO.REGIONS (x : Nat) : Fld := fld (0xE0800 + 16 * (x - 1)) 0 32
def SEC.PART_MAP_HI.REGIONS (x : Nat) : Fld := fld (0xE0804 + 16 * (x - 1)) 0 32
def SEC.PART_MAP_IO.LAYERS (x : Nat) : Fld := fld (0xE0808 + 16 * (x - 1)) 0 8
def SEC.PART_MAP_IO.PORTS (x : Nat) : Fld := fld (0xE0808 + 16 * (x - 1)) 16 16
def SEC.PART_STATUS.ASSIGNED (x : Nat) : Fld := fld (0xE0A00 + 4 * (x - 1)) 0 1
def SEC.PART_STATUS.SCRUBBING (x : Nat) : Fld := fld (0xE0A00 + 4 * (x - 1)) 1 1
def SEC.PART_STATUS.UNSCRUBBED (x : Nat) : Fld := fld (0xE0A00 + 4 * (x - 1)) 2 1
def SEC.PART_TENANT.TENANT_ID (x : Nat) : Fld := fld (0xE0A40 + 4 * (x - 1)) 0 32

/-! Fields of chapter 18 of the spec. -/

def UPD.CTRL.CONFIRM_S : Fld := fld 0xE1000 0 8
def UPD.CTRL.ACT_SLOT_MS : Fld := fld 0xE1000 8 8
def UPD.CTRL.AUTO_CONFIRM : Fld := fld 0xE1000 16 1
def UPD.STATUS.STATE : Fld := fld 0xE1004 0 3
def UPD.STATUS.ACTIVE_BANK : Fld := fld 0xE1004 4 1
def UPD.STATUS.DUAL_SETTINGS : Fld := fld 0xE1004 5 1
def UPD.STATUS.FALLBACK : Fld := fld 0xE1004 6 1
def UPD.STATUS.DEFERRALS : Fld := fld 0xE1004 8 8
def UPD.STATUS.CONFIRM_LEFT : Fld := fld 0xE1004 16 8
def UPD.STATUS.FALLBACK_CAUSE : Fld := fld 0xE1004 24 3
def UPD.ACT_TIME_LO.TIME : Fld := fld 0xE1008 0 32
def UPD.ACT_TIME_HI.TIME : Fld := fld 0xE100C 0 32
def UPD.ACT_GROUP.MASK : Fld := fld 0xE1010 0 16
def UPD.ACT_GROUP.DEFER_SEEN : Fld := fld 0xE1010 16 16
def UPD.GAP.LAST_GAP : Fld := fld 0xE1014 0 16
def UPD.GAP.CARAVAN_LEN : Fld := fld 0xE1014 16 16
def UPD.CARAVAN.ADOPTED : Fld := fld 0xE1018 0 8
def UPD.CARAVAN.REBUILT : Fld := fld 0xE1018 8 8
def UPD.CARAVAN.FORMAT : Fld := fld 0xE1018 16 16
def UPD.SETTINGS.OLD_FMT : Fld := fld 0xE101C 0 16
def UPD.SETTINGS.NEW_FMT : Fld := fld 0xE101C 16 16
def UPD.ACTIVE_ID.IMAGE_ID (n : Nat) : Fld := fld (0xE1020 + 4 * n) 0 32
def UPD.STAGED_ID.IMAGE_ID (n : Nat) : Fld := fld (0xE1030 + 4 * n) 0 32
def UPD.SVN.SVN (n : Nat) : Fld := fld (0xE1040 + 4 * n) 0 16
def UPD.SVN.FLOOR (n : Nat) : Fld := fld (0xE1040 + 4 * n) 16 16

/-! Fields of chapter 19 of the spec. -/

def TST.CTRL.OVERRIDE : Fld := fld 0xF0000 0 1
def TST.STATUS.OVR_ACTIVE : Fld := fld 0xF0004 0 1
def TST.PIN_IN.VSEL : Fld := fld 0xF0008 0 4
def TST.PIN_IN.PWR_FAIL_N : Fld := fld 0xF0008 4 1
def TST.PIN_IN.STG_TLM_D : Fld := fld 0xF0008 5 1
def TST.PIN_IN.SCL : Fld := fld 0xF0008 7 1
def TST.PIN_IN.SDA : Fld := fld 0xF0008 6 1
def TST.PIN_IN.ALERT_N : Fld := fld 0xF0008 8 1
def TST.PIN_OUT.HB : Fld := fld 0xF000C 0 1
def TST.PIN_OUT.ALERT_N : Fld := fld 0xF000C 1 1
def TST.PIN_OUT.THERMTRIP_N : Fld := fld 0xF000C 2 1
def TST.PIN_OUT.STG_TLM_CK : Fld := fld 0xF000C 3 1
def TST.PH_FAULT.LEVEL (w : Nat) : Fld := fld (0xF0010 + 4 * w) 0 32

end Sys2Proof.Machine
end

