-- ==== Sys2Proof/Machine/RegMapA.lean ====
section
/-! DEFINITION. The register tables of the spec: for each register its offset, its indices, and for each field its bits, access code (R7, Table 0-4), retention class (Table 0-5) and reset value. Rows keep the order of the chapters' tables. -/

namespace Sys2Proof.Machine

/-- The registers of chapter 01 of the spec. -/
def regs01 : List RegDesc := [
  -- THF_GLB_ID
  ⟨0x00000, 1, 0, 1, 0, [⟨16, 16, .ro, .f, 2632⟩, ⟨8, 8, .ro, .f, 1⟩, ⟨0, 8, .ro, .f, 0⟩]⟩,
  -- THF_GLB_SYSTIME_LO
  ⟨0x00008, 1, 0, 1, 0, [⟨0, 32, .ro, .h, 0⟩]⟩,
  -- THF_GLB_SYSTIME_HI
  ⟨0x0000C, 1, 0, 1, 0, [⟨0, 32, .ro, .h, 0⟩]⟩,
  -- THF_GLB_STEP_LO
  ⟨0x00010, 1, 0, 1, 0, [⟨0, 32, .ro, .h, 0⟩]⟩,
  -- THF_GLB_STEP_HI
  ⟨0x00014, 1, 0, 1, 0, [⟨0, 16, .ro, .h, 0⟩]⟩,
  -- THF_GLB_NEXT_BOUNDARY_LO
  ⟨0x00018, 1, 0, 1, 0, [⟨0, 32, .ro, .h, 4294967295⟩]⟩,
  -- THF_GLB_NEXT_BOUNDARY_HI
  ⟨0x0001C, 1, 0, 1, 0, [⟨0, 32, .ro, .h, 4294967295⟩]⟩,
  -- THF_GLB_BOUNDARY_STATUS
  ⟨0x00020, 1, 0, 1, 0, [⟨0, 1, .ro, .h, 0⟩, ⟨1, 1, .ro, .h, 1⟩, ⟨2, 1, .ro, .h, 0⟩, ⟨3, 1, .w1c, .b, 0⟩, ⟨4, 1, .ro, .h, 0⟩]⟩,
  -- THF_GLB_BOUNDARY_CTRL
  ⟨0x00024, 1, 0, 1, 0, [⟨0, 16, .rw, .b, 100⟩, ⟨16, 8, .rw, .b, 10⟩, ⟨24, 8, .rw, .b, 20⟩]⟩,
  -- THF_GLB_WRITE_STATUS
  ⟨0x00028, 1, 0, 1, 0, [⟨0, 1, .ro, .h, 0⟩, ⟨16, 16, .ro, .h, 0⟩]⟩,
  -- THF_GLB_BUS_ERR_STATUS
  ⟨0x0002C, 1, 0, 1, 0, [⟨0, 1, .w1c, .b, 0⟩, ⟨1, 1, .w1c, .b, 0⟩, ⟨8, 8, .ro, .b, 0⟩]⟩,
  -- THF_GLB_BUS_ERR_ADDR
  ⟨0x00030, 1, 0, 1, 0, [⟨0, 20, .ro, .b, 0⟩]⟩,
  -- THF_GLB_CORE_STATUS
  ⟨0x00034, 1, 0, 1, 0, [⟨0, 1, .w1c, .a, 0⟩, ⟨1, 1, .ro, .h, 0⟩]⟩,
  -- THF_GLB_PROBE
  ⟨0x00040, 1, 0, 1, 0, [⟨0, 32, .rwb, .b, 0⟩]⟩,
  -- THF_GLB_PROBE_AT_STEP_LO
  ⟨0x00044, 1, 0, 1, 0, [⟨0, 32, .rw, .b, 0⟩]⟩,
  -- THF_GLB_PROBE_AT_STEP_HI
  ⟨0x00048, 1, 0, 1, 0, [⟨0, 16, .rw, .b, 0⟩, ⟨31, 1, .rw, .b, 0⟩]⟩] ++ [
  -- THF_GLB_PROBE_EFFECTIVE
  ⟨0x0004C, 1, 0, 1, 0, [⟨0, 32, .ro, .b, 0⟩]⟩]

/-- The registers of chapter 02 of the spec. -/
def regs02 : List RegDesc := [
  -- THF_SNS_IMON
  ⟨0x10000, 98, 4, 1, 0, [⟨0, 16, .ro, .h, 0⟩, ⟨16, 10, .ro, .h, 0⟩, ⟨31, 1, .w1c, .b, 0⟩]⟩,
  -- THF_SNS_RAIL_I_1US
  ⟨0x10200, 4, 4, 1, 0, [⟨0, 20, .ro, .h, 0⟩]⟩,
  -- THF_SNS_RAIL_I_10US
  ⟨0x10210, 4, 4, 1, 0, [⟨0, 20, .ro, .h, 0⟩]⟩,
  -- THF_SNS_RAIL_V
  ⟨0x10220, 4, 4, 1, 0, [⟨0, 12, .ro, .h, 0⟩]⟩,
  -- THF_SNS_VCORE_A
  ⟨0x10230, 1, 0, 1, 0, [⟨0, 12, .ro, .h, 0⟩]⟩,
  -- THF_SNS_VCORE_B
  ⟨0x10234, 1, 0, 1, 0, [⟨0, 12, .ro, .h, 0⟩]⟩,
  -- THF_SNS_BUS_V
  ⟨0x10240, 1, 0, 1, 0, [⟨0, 12, .ro, .h, 0⟩]⟩,
  -- THF_SNS_BUS_I
  ⟨0x10244, 1, 0, 1, 0, [⟨0, 12, .ro, .h, 0⟩]⟩,
  -- THF_SNS_BUS_P_1MS
  ⟨0x10248, 1, 0, 1, 0, [⟨0, 16, .ro, .h, 0⟩]⟩,
  -- THF_SNS_RAIL_P_1MS
  ⟨0x1024C, 1, 0, 1, 0, [⟨0, 16, .ro, .h, 0⟩]⟩,
  -- THF_SNS_XCHK_CTRL
  ⟨0x10250, 1, 0, 1, 0, [⟨0, 8, .rwb, .b, 205⟩, ⟨8, 8, .rwb, .b, 238⟩, ⟨16, 8, .rwb, .b, 25⟩, ⟨24, 8, .rwb, .b, 20⟩]⟩,
  -- THF_SNS_XCHK_STATUS
  ⟨0x10254, 1, 0, 1, 0, [⟨0, 1, .ro, .h, 0⟩, ⟨1, 1, .ro, .h, 0⟩, ⟨2, 1, .ro, .h, 0⟩, ⟨8, 8, .ro, .h, 0⟩]⟩,
  -- THF_SNS_PHASE_INCL
  ⟨0x10260, 4, 4, 1, 0, [⟨0, 32, .ro, .h, 0⟩]⟩,
  -- THF_SNS_TRIM
  ⟨0x10400, 98, 4, 1, 0, [⟨0, 8, .rwb, .f, 0⟩, ⟨8, 16, .rwb, .f, 32768⟩]⟩,
  -- THF_SNS_OC_CTRL
  ⟨0x10600, 1, 0, 1, 0, [⟨0, 8, .rwb, .b, 75⟩, ⟨8, 8, .rwb, .b, 60⟩, ⟨16, 8, .rwb, .b, 60⟩, ⟨24, 8, .rwb, .b, 30⟩]⟩,
  -- THF_SNS_SENSE_STATUS
  ⟨0x10610, 1, 0, 1, 0, [⟨0, 5, .ro, .b, 0⟩, ⟨8, 1, .w1c, .b, 0⟩]⟩] ++ [
  -- THF_SNS_SENSE_CTRL
  ⟨0x10614, 1, 0, 1, 0, [⟨0, 8, .rwb, .b, 40⟩]⟩,
  -- THF_SNS_DROOP_THRESH
  ⟨0x10700, 1, 0, 1, 0, [⟨0, 5, .rwb, .b, 5⟩, ⟨8, 5, .rwb, .b, 8⟩, ⟨16, 5, .rwb, .b, 12⟩, ⟨24, 5, .rwb, .b, 18⟩]⟩,
  -- THF_SNS_DROOP_STATUS
  ⟨0x10704, 1, 0, 1, 0, [⟨0, 1, .w1c, .b, 0⟩, ⟨1, 1, .ro, .b, 0⟩]⟩,
  -- THF_SNS_DET_EXCL
  ⟨0x10710, 8, 4, 1, 0, [⟨0, 32, .w1c, .b, 0⟩]⟩,
  -- THF_SNS_REGION_DROOP
  ⟨0x10800, 64, 4, 1, 0, [⟨0, 3, .ro, .h, 0⟩, ⟨4, 3, .rc, .h, 0⟩, ⟨16, 16, .rc, .h, 0⟩]⟩,
  -- THF_SNS_ACT_STATUS
  ⟨0x10A00, 1, 0, 1, 0, [⟨0, 8, .ro, .h, 0⟩, ⟨8, 1, .w1c, .b, 0⟩, ⟨16, 16, .rc, .h, 0⟩]⟩,
  -- THF_SNS_ACT_SEL
  ⟨0x10A04, 1, 0, 1, 0, [⟨0, 12, .rw, .b, 0⟩]⟩,
  -- THF_SNS_ACT_VALUE
  ⟨0x10A08, 1, 0, 1, 0, [⟨0, 16, .ro, .h, 0⟩]⟩,
  -- THF_HKS_STATUS
  ⟨0x10C00, 1, 0, 1, 0, [⟨0, 32, .ro, .h, 0⟩]⟩,
  -- THF_HKS_CH
  ⟨0x11000, 1024, 4, 1, 0, [⟨0, 16, .ro, .h, 0⟩, ⟨16, 1, .ro, .h, 0⟩, ⟨24, 8, .ro, .h, 0⟩]⟩]

/-- The registers of chapter 03 of the spec. -/
def regs03 : List RegDesc := [
  -- THF_EST_CTRL
  ⟨0x20000, 1, 0, 1, 0, [⟨0, 1, .rwb, .b, 1⟩, ⟨1, 1, .rwb, .b, 0⟩, ⟨8, 4, .rwb, .b, 10⟩, ⟨12, 4, .rwb, .b, 3⟩]⟩,
  -- THF_EST_TRUST_CTRL
  ⟨0x20004, 1, 0, 1, 0, [⟨0, 8, .rwb, .b, 10⟩, ⟨8, 8, .rwb, .b, 50⟩, ⟨16, 8, .rwb, .b, 64⟩, ⟨24, 8, .rwb, .b, 64⟩]⟩,
  -- THF_EST_BAND_CTRL
  ⟨0x20008, 1, 0, 1, 0, [⟨0, 8, .rwb, .b, 8⟩, ⟨8, 8, .rwb, .b, 12⟩, ⟨16, 12, .rwb, .b, 1000⟩]⟩,
  -- THF_EST_CMD
  ⟨0x2000C, 1, 0, 1, 0, [⟨0, 1, .wo, .h, 0⟩, ⟨1, 1, .wo, .h, 0⟩]⟩,
  -- THF_EST_TRUST_STATUS
  ⟨0x20010, 1, 0, 1, 0, [⟨0, 2, .ro, .h, 2⟩, ⟨2, 2, .ro, .h, 0⟩, ⟨4, 1, .ro, .h, 0⟩, ⟨5, 1, .ro, .h, 0⟩, ⟨6, 1, .ro, .h, 0⟩, ⟨7, 1, .ro, .h, 0⟩, ⟨8, 8, .ro, .h, 0⟩, ⟨16, 12, .ro, .h, 0⟩]⟩,
  -- THF_EST_TRUST_COUNT
  ⟨0x20014, 1, 0, 1, 0, [⟨0, 8, .ro, .h, 0⟩, ⟨8, 10, .ro, .h, 0⟩, ⟨18, 10, .ro, .h, 0⟩]⟩,
  -- THF_EST_CAL_STATUS
  ⟨0x20018, 1, 0, 1, 0, [⟨0, 4, .w1c, .b, 0⟩, ⟨4, 1, .w1c, .b, 0⟩, ⟨5, 1, .w1c, .b, 0⟩, ⟨8, 8, .ro, .h, 0⟩, ⟨16, 16, .ro, .h, 0⟩]⟩,
  -- THF_EST_RAIL_I
  ⟨0x20020, 4, 4, 1, 0, [⟨0, 20, .ro, .h, 0⟩, ⟨30, 1, .ro, .h, 0⟩, ⟨31, 1, .ro, .h, 0⟩]⟩,
  -- THF_EST_RAIL_I_10US
  ⟨0x20030, 4, 4, 1, 0, [⟨0, 20, .ro, .h, 0⟩]⟩,
  -- THF_EST_GOV_I
  ⟨0x20040, 4, 4, 1, 0, [⟨0, 20, .ro, .h, 0⟩, ⟨20, 2, .ro, .h, 0⟩]⟩,
  -- THF_EST_CAL
  ⟨0x20050, 4, 4, 1, 0, [⟨0, 16, .ro, .b, 32768⟩, ⟨16, 16, .ro, .b, 0⟩]⟩,
  -- THF_EST_SHADOW
  ⟨0x20060, 4, 4, 1, 0, [⟨0, 16, .ro, .h, 32768⟩, ⟨16, 16, .ro, .h, 0⟩]⟩,
  -- THF_EST_CAL_BOUND
  ⟨0x20070, 4, 4, 1, 0, [⟨0, 8, .rwb, .b, 192⟩, ⟨8, 8, .rwb, .b, 64⟩, ⟨16, 8, .rwb, .b, 0⟩, ⟨24, 8, .rwb, .b, 16⟩]⟩,
  -- THF_EST_GROUP_I
  ⟨0x20080, 12, 4, 1, 0, [⟨0, 20, .ro, .h, 0⟩]⟩,
  -- THF_EST_REGION_I
  ⟨0x20100, 64, 4, 1, 0, [⟨0, 16, .ro, .h, 0⟩]⟩,
  -- THF_EST_CHIP_P
  ⟨0x20200, 1, 0, 1, 0, [⟨0, 16, .ro, .h, 0⟩]⟩] ++ [
  -- THF_EST_CHIP_P_10MS
  ⟨0x20204, 1, 0, 1, 0, [⟨0, 16, .ro, .h, 0⟩]⟩,
  -- THF_EST_ENERGY_LO
  ⟨0x20208, 1, 0, 1, 0, [⟨0, 32, .ro, .a, 0⟩]⟩,
  -- THF_EST_ENERGY_HI
  ⟨0x2020C, 1, 0, 1, 0, [⟨0, 32, .ro, .a, 0⟩]⟩,
  -- THF_EST_SIG
  ⟨0x24000, 1024, 16, 4, 4, [⟨0, 16, .ro, .b, 0⟩, ⟨16, 16, .ro, .b, 0⟩]⟩]

/-- The registers of chapter 04 of the spec. -/
def regs04 : List RegDesc := [
  -- THF_PXE_CTRL
  ⟨0x30000, 1, 0, 1, 0, [⟨0, 1, .rwb, .b, 0⟩, ⟨1, 1, .rwb, .b, 0⟩]⟩,
  -- THF_PXE_USER_PERIOD
  ⟨0x30004, 1, 0, 1, 0, [⟨0, 10, .rwb, .b, 1⟩]⟩,
  -- THF_PXE_BOUND
  ⟨0x30008, 1, 0, 1, 0, [⟨0, 16, .rwb, .b, 4096⟩, ⟨16, 8, .rwb, .b, 150⟩]⟩,
  -- THF_PXE_STATUS
  ⟨0x30010, 1, 0, 1, 0, [⟨0, 2, .ro, .h, 0⟩, ⟨2, 1, .ro, .h, 0⟩, ⟨3, 1, .ro, .h, 0⟩, ⟨4, 1, .w1c, .b, 0⟩]⟩,
  -- THF_PXE_LOAD_STATUS
  ⟨0x30014, 1, 0, 1, 0, [⟨0, 8, .ro, .b, 0⟩, ⟨8, 2, .ro, .b, 0⟩, ⟨15, 1, .ro, .h, 0⟩, ⟨16, 10, .ro, .b, 0⟩]⟩,
  -- THF_PXE_MEM_STATUS
  ⟨0x30018, 1, 0, 1, 0, [⟨0, 16, .rc, .h, 0⟩, ⟨16, 1, .w1c, .b, 0⟩]⟩,
  -- THF_PXE_SLOT_STATUS
  ⟨0x30020, 4, 4, 1, 0, [⟨0, 2, .ro, .b, 0⟩, ⟨2, 1, .w1c, .b, 0⟩, ⟨3, 1, .ro, .h, 0⟩, ⟨4, 1, .w1c, .b, 0⟩, ⟨5, 1, .w1c, .b, 0⟩, ⟨16, 16, .ro, .h, 0⟩]⟩,
  -- THF_PXE_SLOT_ID
  ⟨0x30030, 4, 4, 1, 0, [⟨0, 32, .ro, .b, 0⟩]⟩,
  -- THF_PXE_SLOT_WCET
  ⟨0x30040, 4, 4, 1, 0, [⟨0, 24, .ro, .b, 0⟩]⟩,
  -- THF_PXE_SLOT_BUDGET
  ⟨0x30050, 4, 4, 1, 0, [⟨0, 24, .ro, .b, 0⟩]⟩,
  -- THF_PXE_SLOT_TIME
  ⟨0x30060, 4, 4, 1, 0, [⟨0, 16, .ro, .h, 0⟩, ⟨16, 16, .rc, .h, 0⟩]⟩,
  -- THF_PXE_HIST
  ⟨0x31000, 4, 128, 32, 4, [⟨0, 32, .ro, .h, 0⟩]⟩,
  -- THF_PXE_OUT
  ⟨0x32000, 4, 1024, 256, 4, [⟨0, 32, .ro, .h, 0⟩]⟩]

/-- The registers of chapter 05 of the spec. -/
def regs05 : List RegDesc := [
  -- THF_PXE_FLAGS
  ⟨0x30100, 4, 4, 1, 0, [⟨0, 9, .w1c, .b, 0⟩]⟩,
  -- THF_PXE_RUN_FLAGS
  ⟨0x30110, 4, 4, 1, 0, [⟨0, 9, .ro, .h, 0⟩]⟩,
  -- THF_PXE_ARITH_CTRL
  ⟨0x30120, 1, 0, 1, 0, [⟨0, 9, .rwb, .b, 7⟩]⟩,
  -- THF_PXE_CAP_INFO
  ⟨0x30140, 4, 32, 1, 0, [⟨0, 1, .w1c, .b, 0⟩, ⟨1, 3, .ro, .b, 0⟩, ⟨4, 10, .ro, .b, 0⟩, ⟨14, 2, .ro, .b, 0⟩, ⟨16, 2, .ro, .b, 0⟩, ⟨20, 4, .ro, .b, 0⟩, ⟨24, 8, .ro, .b, 0⟩]⟩,
  -- THF_PXE_CAP_ELEMENT
  ⟨0x30144, 4, 32, 1, 0, [⟨0, 24, .ro, .b, 0⟩]⟩,
  -- THF_PXE_CAP_TERM
  ⟨0x30148, 4, 32, 1, 0, [⟨0, 16, .ro, .b, 0⟩, ⟨16, 12, .ro, .b, 0⟩, ⟨31, 1, .ro, .b, 0⟩]⟩,
  -- THF_PXE_CAP_OPA
  ⟨0x3014C, 4, 32, 1, 0, [⟨0, 32, .ro, .b, 0⟩]⟩,
  -- THF_PXE_CAP_OPB
  ⟨0x30150, 4, 32, 1, 0, [⟨0, 32, .ro, .b, 0⟩]⟩,
  -- THF_PXE_CAP_COUNT
  ⟨0x30154, 4, 32, 1, 0, [⟨0, 16, .ro, .b, 0⟩]⟩]

/-- The registers of chapter 06 of the spec. -/
def regs06 : List RegDesc := [
  -- THF_PSQ_CTRL
  ⟨0x40000, 1, 0, 1, 0, [⟨0, 1, .rwb, .b, 0⟩, ⟨1, 1, .rwb, .b, 0⟩, ⟨2, 1, .rwb, .b, 1⟩, ⟨3, 1, .rwb, .b, 1⟩]⟩,
  -- THF_PSQ_FF_CTRL
  ⟨0x40004, 1, 0, 1, 0, [⟨0, 8, .rwb, .b, 10⟩, ⟨8, 8, .rwb, .b, 10⟩, ⟨16, 8, .rwb, .b, 20⟩, ⟨24, 8, .rwb, .b, 80⟩]⟩,
  -- THF_PSQ_SHED_CTRL
  ⟨0x40008, 1, 0, 1, 0, [⟨0, 16, .rwb, .b, 50⟩]⟩,
  -- THF_PSQ_REACT_SEL
  ⟨0x40010, 1, 0, 1, 0, [⟨0, 4, .rwb, .b, 0⟩, ⟨4, 4, .rwb, .b, 0⟩, ⟨8, 4, .rwb, .b, 0⟩, ⟨12, 4, .rwb, .b, 0⟩, ⟨16, 1, .rwb, .b, 0⟩]⟩,
  -- THF_PSQ_REACT_GUARD
  ⟨0x40014, 1, 0, 1, 0, [⟨0, 20, .rwb, .b, 1000⟩, ⟨20, 10, .rwb, .b, 200⟩]⟩,
  -- THF_PSQ_STATUS
  ⟨0x40020, 1, 0, 1, 0, [⟨0, 3, .ro, .b, 0⟩, ⟨3, 1, .ro, .b, 0⟩, ⟨4, 1, .ro, .b, 0⟩, ⟨5, 1, .ro, .h, 0⟩, ⟨6, 1, .w1c, .b, 0⟩, ⟨7, 1, .w1c, .b, 0⟩, ⟨8, 6, .ro, .h, 0⟩, ⟨14, 1, .ro, .h, 0⟩]⟩,
  -- THF_PSQ_LOAD_STATUS
  ⟨0x40024, 1, 0, 1, 0, [⟨0, 8, .ro, .b, 0⟩, ⟨8, 1, .ro, .b, 0⟩, ⟨15, 1, .ro, .h, 0⟩, ⟨16, 15, .ro, .b, 0⟩]⟩,
  -- THF_PSQ_PLAN_ID
  ⟨0x40028, 1, 0, 1, 0, [⟨0, 32, .ro, .b, 0⟩]⟩,
  -- THF_PSQ_COUNTS
  ⟨0x4002C, 1, 0, 1, 0, [⟨0, 16, .rc, .h, 0⟩, ⟨16, 16, .rc, .h, 0⟩]⟩,
  -- THF_PSQ_SEG_FIRST_LO
  ⟨0x40030, 2, 16, 1, 0, [⟨0, 32, .ro, .b, 0⟩]⟩,
  -- THF_PSQ_SEG_FIRST_HI
  ⟨0x40034, 2, 16, 1, 0, [⟨0, 16, .ro, .b, 0⟩]⟩,
  -- THF_PSQ_SEG_COUNT
  ⟨0x40038, 2, 16, 1, 0, [⟨0, 16, .ro, .b, 0⟩, ⟨17, 1, .ro, .b, 0⟩, ⟨18, 1, .ro, .b, 0⟩]⟩,
  -- THF_PSQ_CUR
  ⟨0x40050, 4, 4, 1, 0, [⟨0, 32, .ro, .b, 0⟩]⟩,
  -- THF_PSQ_LIFT
  ⟨0x40060, 1, 0, 1, 0, [⟨0, 8, .ro, .h, 0⟩, ⟨8, 8, .ro, .h, 0⟩]⟩,
  -- THF_PSQ_PHASE_TGT
  ⟨0x40064, 1, 0, 1, 0, [⟨0, 7, .ro, .h, 0⟩, ⟨8, 5, .ro, .h, 0⟩, ⟨16, 4, .ro, .h, 0⟩]⟩,
  -- THF_PSQ_DUR
  ⟨0x41000, 2, 256, 64, 4, [⟨0, 32, .ro, .b, 0⟩]⟩] ++ [
  -- THF_PSQ_WIN
  ⟨0x42000, 32, 16, 4, 4, [⟨0, 32, .ro, .b, 0⟩]⟩]

/-- The registers of chapter 07 of the spec. -/
def regs07 : List RegDesc := [
  -- THF_DRG_CTRL
  ⟨0x50000, 1, 0, 1, 0, [⟨0, 1, .rwb, .b, 1⟩, ⟨8, 4, .rwb, .b, 4⟩, ⟨16, 7, .rwb, .b, 20⟩]⟩,
  -- THF_DRG_HOLD_CTRL
  ⟨0x50004, 1, 0, 1, 0, [⟨0, 12, .rwb, .b, 200⟩, ⟨12, 8, .rwb, .b, 10⟩, ⟨20, 6, .rwb, .b, 10⟩]⟩,
  -- THF_DRG_STATUS
  ⟨0x50010, 1, 0, 1, 0, [⟨0, 4, .ro, .h, 0⟩, ⟨4, 1, .ro, .h, 0⟩, ⟨5, 1, .ro, .h, 0⟩, ⟨6, 1, .ro, .h, 0⟩, ⟨8, 6, .ro, .h, 0⟩, ⟨16, 1, .w1c, .b, 0⟩, ⟨17, 1, .w1c, .b, 0⟩, ⟨18, 1, .w1c, .b, 0⟩, ⟨19, 1, .w1c, .b, 0⟩]⟩,
  -- THF_DRG_CHIP_LATE
  ⟨0x50014, 1, 0, 1, 0, [⟨0, 32, .ro, .h, 0⟩]⟩,
  -- THF_DRG_PROJ
  ⟨0x50018, 1, 0, 1, 0, [⟨0, 32, .ro, .h, 0⟩]⟩,
  -- THF_DRG_RESERVE_EFF
  ⟨0x5001C, 1, 0, 1, 0, [⟨0, 32, .ro, .h, 0⟩]⟩,
  -- THF_DRG_DEADLINE_LO
  ⟨0x50020, 1, 0, 1, 0, [⟨0, 32, .ro, .h, 0⟩]⟩,
  -- THF_DRG_DEADLINE_HI
  ⟨0x50024, 1, 0, 1, 0, [⟨0, 32, .ro, .h, 4294967295⟩]⟩,
  -- THF_DRG_LAST_LATE
  ⟨0x50028, 1, 0, 1, 0, [⟨0, 32, .ro, .h, 0⟩]⟩,
  -- THF_DRG_LAST_SLACK
  ⟨0x5002C, 1, 0, 1, 0, [⟨0, 32, .ro, .h, 0⟩]⟩,
  -- THF_DRG_HOLD_TX
  ⟨0x50030, 1, 0, 1, 0, [⟨0, 16, .ro, .h, 0⟩, ⟨16, 2, .ro, .h, 0⟩, ⟨18, 1, .ro, .h, 0⟩, ⟨20, 4, .ro, .h, 0⟩]⟩,
  -- THF_DRG_COUNTS
  ⟨0x50034, 1, 0, 1, 0, [⟨0, 16, .rc, .h, 0⟩, ⟨16, 16, .rc, .h, 0⟩]⟩,
  -- THF_DRG_REGION_LATE
  ⟨0x50100, 64, 4, 1, 0, [⟨0, 32, .ro, .h, 0⟩]⟩,
  -- THF_DRG_REGION_STRETCH
  ⟨0x50200, 64, 4, 1, 0, [⟨0, 6, .ro, .h, 0⟩, ⟨6, 1, .ro, .h, 0⟩, ⟨16, 16, .rc, .h, 0⟩]⟩]

/-- The registers of chapter 08 of the spec. -/
def regs08 : List RegDesc := [
  -- THF_PHC_CTRL
  ⟨0x60000, 1, 0, 1, 0, [⟨0, 1, .rwb, .a, 1⟩, ⟨8, 8, .rwb, .b, 5⟩]⟩,
  -- THF_PHC_BURST_CTRL
  ⟨0x60004, 1, 0, 1, 0, [⟨0, 8, .rwb, .b, 30⟩, ⟨8, 8, .rwb, .b, 20⟩, ⟨16, 8, .rwb, .b, 10⟩, ⟨24, 8, .rwb, .b, 20⟩]⟩,
  -- THF_PHC_PROT_CTRL
  ⟨0x60008, 1, 0, 1, 0, [⟨0, 8, .rwb, .b, 10⟩, ⟨8, 8, .rwb, .b, 20⟩]⟩,
  -- THF_PHC_DE_CTRL
  ⟨0x6000C, 1, 0, 1, 0, [⟨0, 8, .rwb, .b, 5⟩, ⟨8, 8, .rwb, .b, 10⟩, ⟨16, 4, .rwb, .b, 15⟩]⟩,
  -- THF_PHC_ADD_CTRL
  ⟨0x60010, 1, 0, 1, 0, [⟨0, 8, .rwb, .b, 40⟩, ⟨8, 8, .rwb, .b, 32⟩, ⟨16, 8, .rwb, .b, 32⟩]⟩,
  -- THF_PHC_RETIRE_CTRL
  ⟨0x60014, 1, 0, 1, 0, [⟨0, 8, .rwb, .b, 125⟩, ⟨8, 8, .rwb, .b, 100⟩, ⟨16, 8, .rwb, .b, 20⟩]⟩,
  -- THF_PHC_STATUS
  ⟨0x60018, 1, 0, 1, 0, [⟨0, 1, .w1c, .b, 0⟩, ⟨1, 1, .ro, .h, 0⟩]⟩,
  -- THF_PHC_COMP_PI
  ⟨0x60020, 4, 8, 1, 0, [⟨0, 16, .rwb, .b, 0⟩, ⟨16, 16, .rwb, .b, 0⟩]⟩,
  -- THF_PHC_COMP_D
  ⟨0x60024, 4, 8, 1, 0, [⟨0, 16, .rwb, .b, 0⟩]⟩,
  -- THF_PHC_RAIL_STATUS
  ⟨0x60040, 4, 4, 1, 0, [⟨0, 4, .ro, .h, 0⟩, ⟨4, 7, .ro, .h, 0⟩, ⟨11, 1, .ro, .h, 0⟩, ⟨12, 1, .ro, .h, 0⟩, ⟨13, 1, .ro, .h, 0⟩, ⟨14, 1, .ro, .h, 0⟩, ⟨16, 12, .ro, .h, 0⟩]⟩,
  -- THF_PHC_VSEL
  ⟨0x60050, 1, 0, 1, 0, [⟨0, 4, .ro, .h, 0⟩, ⟨4, 1, .ro, .h, 1⟩]⟩,
  -- THF_PHC_AVAIL
  ⟨0x60054, 1, 0, 1, 0, [⟨0, 7, .ro, .h, 64⟩, ⟨8, 5, .ro, .h, 16⟩, ⟨16, 4, .ro, .h, 8⟩, ⟨24, 3, .ro, .h, 4⟩]⟩,
  -- THF_PHC_BURST_STATUS
  ⟨0x60058, 1, 0, 1, 0, [⟨0, 16, .rc, .h, 0⟩, ⟨16, 2, .ro, .h, 0⟩, ⟨24, 8, .rc, .h, 0⟩]⟩,
  -- THF_PHC_SHED_STATUS
  ⟨0x6005C, 1, 0, 1, 0, [⟨0, 16, .rc, .h, 0⟩]⟩,
  -- THF_PHC_PHASE_STATE
  ⟨0x60060, 7, 4, 1, 0, [⟨0, 32, .ro, .h, 0⟩]⟩,
  -- THF_PHC_RETIRED
  ⟨0x60080, 4, 4, 1, 0, [⟨0, 32, .w1c, .f, 0⟩]⟩] ++ [
  -- THF_PHC_DUTY
  ⟨0x600B0, 4, 4, 1, 0, [⟨0, 16, .ro, .h, 0⟩]⟩,
  -- THF_PHC_SP
  ⟨0x60100, 1, 0, 16, 4, [⟨0, 10, .rwb, .b, 0⟩, ⟨16, 8, .rwb, .b, 0⟩]⟩,
  ⟨0x60140, 3, 64, 16, 4, [⟨0, 10, .rwb, .b, 0⟩]⟩,
  -- THF_PHC_OC_COUNT
  ⟨0x60200, 98, 4, 1, 0, [⟨0, 16, .rc, .h, 0⟩]⟩]

/-- The registers of chapter 09 of the spec. -/
def regs09 : List RegDesc := [
  -- THF_PHC_SEQ_CTRL
  ⟨0x60400, 1, 0, 1, 0, [⟨0, 1, .rwb, .f, 1⟩, ⟨8, 8, .rwb, .f, 147⟩, ⟨16, 8, .rwb, .b, 50⟩, ⟨24, 8, .rwb, .b, 4⟩]⟩,
  -- THF_PHC_START_CTRL
  ⟨0x60404, 1, 0, 1, 0, [⟨0, 8, .rwb, .b, 50⟩, ⟨8, 8, .rwb, .b, 20⟩, ⟨16, 8, .rwb, .b, 75⟩, ⟨24, 8, .rwb, .b, 50⟩]⟩,
  -- THF_PHC_SEQ_CMD
  ⟨0x60408, 1, 0, 1, 0, [⟨0, 1, .wo, .h, 0⟩, ⟨1, 1, .wo, .h, 0⟩]⟩,
  -- THF_PHC_SEQ_STATUS
  ⟨0x6040C, 1, 0, 1, 0, [⟨0, 3, .ro, .a, 0⟩, ⟨4, 1, .w1c, .b, 0⟩, ⟨5, 1, .w1c, .b, 0⟩, ⟨8, 1, .ro, .h, 0⟩, ⟨9, 1, .ro, .h, 0⟩]⟩,
  -- THF_PHC_LATCH
  ⟨0x60410, 1, 0, 1, 0, [⟨0, 4, .w1c, .a, 0⟩]⟩,
  -- THF_PHC_SS_CTRL
  ⟨0x60420, 3, 4, 1, 0, [⟨0, 8, .rwb, .f, 4⟩, ⟨8, 7, .rwb, .b, 0⟩, ⟨16, 2, .rwb, .f, 0⟩, ⟨20, 2, .rwb, .f, 0⟩]⟩,
  ⟨0x6042C, 1, 0, 1, 0, [⟨0, 8, .rwb, .f, 4⟩, ⟨8, 7, .rwb, .b, 0⟩, ⟨20, 2, .rwb, .f, 0⟩]⟩,
  -- THF_PHC_RAIL_SEQ
  ⟨0x60430, 4, 4, 1, 0, [⟨0, 3, .ro, .a, 0⟩, ⟨4, 1, .ro, .a, 0⟩, ⟨5, 1, .ro, .a, 0⟩, ⟨8, 4, .ro, .a, 0⟩, ⟨16, 12, .ro, .a, 0⟩]⟩]

end Sys2Proof.Machine
end

