-- ==== Sys2Proof/Machine/RegMapB.lean ====
section
/-! DEFINITION. The register tables of the spec: for each register its offset, its indices, and for each field its bits, access code (R7, Table 0-4), retention class (Table 0-5) and reset value. Rows keep the order of the chapters' tables. -/

namespace Sys2Proof.Machine

/-- The registers of chapter 10 of the spec. -/
def regs10 : List RegDesc := [
  -- THF_LGV_CTRL
  ⟨0x70000, 1, 0, 1, 0, [⟨0, 1, .rwb, .b, 1⟩, ⟨1, 1, .rwb, .b, 1⟩, ⟨8, 8, .rwb, .b, 125⟩, ⟨16, 8, .rwb, .b, 10⟩, ⟨24, 8, .rwb, .b, 95⟩]⟩,
  -- THF_LGV_CAP
  ⟨0x70004, 1, 0, 1, 0, [⟨0, 12, .rwb, .a, 1600⟩]⟩,
  -- THF_LGV_CAP_AT_STEP_LO
  ⟨0x70008, 1, 0, 1, 0, [⟨0, 32, .rw, .a, 0⟩]⟩,
  -- THF_LGV_CAP_AT_STEP_HI
  ⟨0x7000C, 1, 0, 1, 0, [⟨0, 16, .rw, .a, 0⟩, ⟨31, 1, .rw, .a, 0⟩]⟩,
  -- THF_LGV_EXC_CTRL
  ⟨0x70010, 1, 0, 1, 0, [⟨0, 12, .rwb, .b, 2400⟩, ⟨16, 6, .rwb, .b, 50⟩]⟩,
  -- THF_LGV_PRIO
  ⟨0x70014, 1, 0, 1, 0, [⟨0, 2, .rwb, .b, 2⟩, ⟨2, 2, .rwb, .b, 1⟩, ⟨4, 2, .rwb, .b, 0⟩, ⟨8, 8, .rwb, .b, 10⟩]⟩,
  -- THF_LGV_DUTY_CTRL
  ⟨0x70018, 1, 0, 1, 0, [⟨0, 5, .rwb, .b, 8⟩, ⟨8, 8, .rwb, .b, 10⟩]⟩,
  -- THF_LGV_LIM
  ⟨0x70020, 4, 16, 3, 4, [⟨0, 16, .rwb, .b, 0⟩]⟩,
  -- THF_LGV_THERM_LIM
  ⟨0x70060, 1, 0, 1, 0, [⟨0, 16, .rwb, .h, 1900⟩]⟩,
  -- THF_LGV_THERM_CEIL
  ⟨0x70064, 1, 0, 1, 0, [⟨0, 8, .ro, .h, 150⟩]⟩,
  -- THF_LGV_STATUS
  ⟨0x70070, 1, 0, 1, 0, [⟨0, 2, .ro, .h, 0⟩, ⟨4, 4, .ro, .h, 0⟩, ⟨8, 1, .ro, .h, 0⟩, ⟨9, 5, .ro, .h, 16⟩, ⟨16, 4, .ro, .h, 0⟩, ⟨20, 1, .w1c, .b, 0⟩, ⟨21, 1, .ro, .h, 0⟩, ⟨22, 1, .ro, .h, 0⟩]⟩,
  -- THF_LGV_OPP
  ⟨0x70074, 1, 0, 1, 0, [⟨0, 4, .ro, .h, 0⟩, ⟨4, 4, .ro, .h, 0⟩, ⟨8, 8, .ro, .h, 0⟩, ⟨16, 8, .ro, .h, 150⟩]⟩,
  -- THF_LGV_EFF_CAP
  ⟨0x70078, 1, 0, 1, 0, [⟨0, 12, .ro, .h, 1600⟩, ⟨16, 12, .ro, .h, 0⟩]⟩,
  -- THF_LGV_POWER
  ⟨0x7007C, 1, 0, 1, 0, [⟨0, 16, .ro, .h, 0⟩, ⟨16, 8, .ro, .h, 0⟩]⟩,
  -- THF_LGV_DOMAIN
  ⟨0x70080, 4, 4, 1, 0, [⟨0, 16, .ro, .h, 0⟩, ⟨16, 16, .ro, .h, 0⟩]⟩,
  -- THF_LGV_BAL
  ⟨0x70090, 1, 0, 1, 0, [⟨0, 16, .ro, .h, 0⟩, ⟨16, 16, .ro, .h, 0⟩]⟩] ++ [
  -- THF_LGV_HOLD_REQ
  ⟨0x70094, 1, 0, 1, 0, [⟨0, 16, .ro, .h, 0⟩, ⟨16, 16, .ro, .h, 0⟩]⟩,
  -- THF_LGV_PH_REQ
  ⟨0x70098, 1, 0, 1, 0, [⟨0, 7, .ro, .h, 0⟩, ⟨8, 5, .ro, .h, 0⟩, ⟨16, 4, .ro, .h, 0⟩]⟩,
  -- THF_LGV_COUNTS
  ⟨0x7009C, 1, 0, 1, 0, [⟨0, 16, .rc, .h, 0⟩, ⟨16, 16, .rc, .h, 0⟩]⟩,
  -- THF_LGV_WIN_I
  ⟨0x700A0, 4, 16, 3, 4, [⟨0, 20, .ro, .h, 0⟩]⟩]

/-- The registers of chapter 11 of the spec. -/
def regs11 : List RegDesc := [
  -- THF_TMG_CTRL
  ⟨0x80000, 1, 0, 1, 0, [⟨0, 1, .rwb, .b, 1⟩, ⟨1, 1, .rwb, .b, 1⟩, ⟨16, 8, .rwb, .b, 16⟩, ⟨24, 8, .rwb, .b, 85⟩]⟩,
  -- THF_TMG_THRESH
  ⟨0x80004, 1, 0, 1, 0, [⟨0, 8, .rwb, .b, 95⟩, ⟨8, 8, .rwb, .b, 100⟩, ⟨16, 8, .rwb, .b, 110⟩, ⟨24, 8, .rwb, .b, 120⟩]⟩,
  -- THF_TMG_STEP_CTRL
  ⟨0x80008, 1, 0, 1, 0, [⟨0, 4, .rwb, .b, 5⟩, ⟨4, 4, .rwb, .b, 2⟩, ⟨8, 8, .rwb, .b, 100⟩, ⟨16, 8, .rwb, .b, 80⟩, ⟨24, 4, .rwb, .b, 3⟩]⟩,
  -- THF_TMG_XCHK_CTRL
  ⟨0x8000C, 1, 0, 1, 0, [⟨0, 8, .rwb, .b, 15⟩, ⟨8, 8, .rwb, .b, 10⟩, ⟨16, 8, .rwb, .b, 100⟩, ⟨24, 8, .rwb, .b, 10⟩]⟩,
  -- THF_TMG_STATUS
  ⟨0x80010, 1, 0, 1, 0, [⟨0, 1, .ro, .h, 0⟩, ⟨1, 1, .ro, .h, 0⟩, ⟨2, 1, .ro, .h, 0⟩, ⟨3, 1, .ro, .h, 0⟩, ⟨4, 1, .ro, .h, 0⟩, ⟨5, 1, .ro, .h, 0⟩, ⟨8, 1, .w1c, .b, 0⟩, ⟨9, 1, .ro, .h, 0⟩, ⟨10, 1, .w1c, .b, 0⟩, ⟨12, 3, .ro, .h, 0⟩]⟩,
  -- THF_TMG_CHIP_T
  ⟨0x80014, 1, 0, 1, 0, [⟨0, 16, .ro, .h, 0⟩, ⟨16, 6, .ro, .h, 0⟩]⟩,
  -- THF_TMG_DECISION
  ⟨0x80018, 1, 0, 1, 0, [⟨0, 16, .ro, .h, 0⟩, ⟨16, 1, .ro, .h, 0⟩]⟩,
  -- THF_TMG_STEP
  ⟨0x8001C, 1, 0, 1, 0, [⟨0, 8, .ro, .h, 200⟩, ⟨8, 2, .ro, .h, 0⟩, ⟨10, 1, .ro, .h, 0⟩]⟩,
  -- THF_TMG_TRIP
  ⟨0x80020, 1, 0, 1, 0, [⟨0, 1, .ro, .a, 0⟩, ⟨8, 6, .ro, .a, 0⟩, ⟨16, 8, .ro, .a, 0⟩]⟩,
  -- THF_TMG_COUNTS
  ⟨0x80024, 1, 0, 1, 0, [⟨0, 16, .rc, .h, 0⟩, ⟨16, 16, .rc, .h, 0⟩]⟩,
  -- THF_TMG_REGION_T
  ⟨0x80100, 64, 4, 1, 0, [⟨0, 16, .ro, .h, 0⟩, ⟨16, 16, .ro, .h, 0⟩]⟩,
  -- THF_TMG_SUSPECT
  ⟨0x80200, 16, 4, 1, 0, [⟨0, 32, .w1c, .b, 0⟩]⟩,
  -- THF_TMG_SUSPECT_SET
  ⟨0x80280, 16, 4, 1, 0, [⟨0, 32, .wo, .h, 0⟩]⟩,
  -- THF_TMG_TRIPCMP
  ⟨0x80240, 16, 4, 1, 0, [⟨0, 32, .ro, .h, 0⟩]⟩]

/-- The registers of chapter 12 of the spec. -/
def regs12 : List RegDesc := [
  -- THF_BAL_CTRL
  ⟨0x90000, 1, 0, 1, 0, [⟨0, 1, .rwb, .b, 0⟩, ⟨8, 6, .rwb, .b, 0⟩, ⟨16, 8, .rwb, .b, 2⟩, ⟨24, 4, .rwb, .b, 8⟩]⟩,
  -- THF_BAL_LIMITS
  ⟨0x90004, 1, 0, 1, 0, [⟨0, 12, .rwb, .b, 800⟩, ⟨16, 12, .rwb, .b, 2000⟩]⟩,
  -- THF_BAL_PORTS
  ⟨0x90008, 1, 0, 1, 0, [⟨0, 16, .rwb, .b, 0⟩, ⟨16, 8, .rwb, .b, 4⟩, ⟨24, 8, .rwb, .b, 10⟩]⟩,
  -- THF_BAL_BUDGET
  ⟨0x90010, 1, 0, 1, 0, [⟨0, 20, .rwb, .b, 0⟩]⟩,
  -- THF_BAL_TEMP
  ⟨0x90014, 1, 0, 1, 0, [⟨0, 16, .rwb, .b, 1000⟩, ⟨16, 16, .rwb, .b, 100⟩]⟩,
  -- THF_BAL_ROSTER_LO
  ⟨0x90018, 1, 0, 1, 0, [⟨0, 32, .rwb, .b, 0⟩]⟩,
  -- THF_BAL_ROSTER_HI
  ⟨0x9001C, 1, 0, 1, 0, [⟨0, 32, .rwb, .b, 0⟩]⟩,
  -- THF_BAL_PARAM_AT_STEP_LO
  ⟨0x90020, 1, 0, 1, 0, [⟨0, 32, .rw, .b, 0⟩]⟩,
  -- THF_BAL_PARAM_AT_STEP_HI
  ⟨0x90024, 1, 0, 1, 0, [⟨0, 16, .rw, .b, 0⟩, ⟨31, 1, .rw, .b, 0⟩]⟩,
  -- THF_BAL_GRANT
  ⟨0x90030, 1, 0, 1, 0, [⟨0, 12, .rwb, .b, 0⟩, ⟨31, 1, .rwb, .b, 0⟩]⟩,
  -- THF_BAL_GRANT_AT_STEP_LO
  ⟨0x90034, 1, 0, 1, 0, [⟨0, 32, .rw, .b, 0⟩]⟩,
  -- THF_BAL_GRANT_AT_STEP_HI
  ⟨0x90038, 1, 0, 1, 0, [⟨0, 16, .rw, .b, 0⟩, ⟨31, 1, .rw, .b, 0⟩]⟩,
  -- THF_BAL_STATUS
  ⟨0x90040, 1, 0, 1, 0, [⟨0, 3, .ro, .h, 0⟩, ⟨4, 2, .ro, .b, 0⟩, ⟨8, 4, .ro, .h, 0⟩, ⟨16, 1, .w1c, .b, 0⟩, ⟨17, 1, .w1c, .b, 0⟩, ⟨18, 1, .w1c, .b, 0⟩, ⟨24, 8, .ro, .h, 0⟩]⟩,
  -- THF_BAL_ROUND_LO
  ⟨0x90044, 1, 0, 1, 0, [⟨0, 32, .ro, .h, 0⟩]⟩,
  -- THF_BAL_ROUND_HI
  ⟨0x90048, 1, 0, 1, 0, [⟨0, 16, .ro, .h, 0⟩]⟩,
  -- THF_BAL_HEARD_LO
  ⟨0x9004C, 1, 0, 1, 0, [⟨0, 32, .ro, .h, 0⟩]⟩] ++ [
  -- THF_BAL_HEARD_HI
  ⟨0x90050, 1, 0, 1, 0, [⟨0, 32, .ro, .h, 0⟩]⟩,
  -- THF_BAL_MASKED_LO
  ⟨0x90054, 1, 0, 1, 0, [⟨0, 32, .ro, .h, 0⟩]⟩,
  -- THF_BAL_MASKED_HI
  ⟨0x90058, 1, 0, 1, 0, [⟨0, 32, .ro, .h, 0⟩]⟩,
  -- THF_BAL_COUNTS
  ⟨0x9005C, 1, 0, 1, 0, [⟨0, 16, .rc, .h, 0⟩, ⟨16, 16, .rc, .h, 0⟩]⟩,
  -- THF_BAL_SB_STATUS
  ⟨0x90060, 1, 0, 1, 0, [⟨0, 8, .rc, .h, 0⟩, ⟨8, 8, .rc, .h, 0⟩, ⟨16, 8, .ro, .a, 0⟩, ⟨24, 8, .ro, .a, 0⟩]⟩,
  -- THF_BAL_SB_CTRL
  ⟨0x90064, 1, 0, 1, 0, [⟨0, 8, .rwb, .b, 100⟩, ⟨8, 8, .rwb, .b, 16⟩]⟩,
  -- THF_BAL_TXCNT_LO
  ⟨0x90100, 16, 8, 1, 0, [⟨0, 32, .ro, .a, 0⟩]⟩,
  -- THF_BAL_TXCNT_HI
  ⟨0x90104, 16, 8, 1, 0, [⟨0, 32, .ro, .a, 0⟩]⟩,
  -- THF_BAL_VIEW
  ⟨0x91000, 64, 16, 1, 0, [⟨0, 16, .ro, .h, 0⟩, ⟨16, 16, .ro, .h, 0⟩]⟩,
  -- THF_BAL_VIEW
  ⟨0x91004, 64, 16, 1, 0, [⟨0, 16, .ro, .h, 0⟩, ⟨16, 8, .ro, .h, 0⟩]⟩,
  -- THF_BAL_VIEW
  ⟨0x91008, 64, 16, 1, 0, [⟨0, 32, .ro, .h, 0⟩]⟩,
  -- THF_BAL_VIEW
  ⟨0x9100C, 64, 16, 1, 0, [⟨0, 32, .ro, .h, 0⟩]⟩,
  -- THF_BAL_VEC
  ⟨0x92000, 64, 4, 1, 0, [⟨0, 16, .ro, .h, 0⟩]⟩]

/-- The registers of chapter 13 of the spec. -/
def regs13 : List RegDesc := [
  -- THF_STA_REST_CTRL
  ⟨0xA0000, 1, 0, 1, 0, [⟨0, 4, .rwb, .a, 15⟩, ⟨4, 4, .rwb, .a, 2⟩, ⟨8, 8, .rwb, .a, 20⟩, ⟨16, 8, .rwb, .a, 1⟩, ⟨24, 8, .rwb, .a, 10⟩]⟩,
  -- THF_STA_LTR
  ⟨0xA0004, 1, 0, 1, 0, [⟨0, 32, .rwb, .a, 1000⟩]⟩,
  -- THF_STA_WAKE_CTRL
  ⟨0xA0008, 1, 0, 1, 0, [⟨0, 16, .rwb, .a, 100⟩]⟩,
  -- THF_STA_CMD
  ⟨0xA000C, 1, 0, 1, 0, [⟨0, 1, .wo, .h, 0⟩, ⟨1, 1, .wo, .h, 0⟩]⟩,
  -- THF_STA_REST_STATUS
  ⟨0xA0010, 1, 0, 1, 0, [⟨0, 3, .ro, .h, 0⟩, ⟨4, 3, .ro, .h, 0⟩, ⟨8, 1, .ro, .h, 0⟩, ⟨9, 1, .w1c, .b, 0⟩, ⟨10, 1, .w1c, .b, 0⟩, ⟨11, 1, .w1c, .b, 0⟩, ⟨12, 4, .ro, .h, 0⟩, ⟨16, 16, .ro, .h, 0⟩]⟩,
  -- THF_STA_EXIT_BOUND
  ⟨0xA0014, 1, 0, 1, 0, [⟨0, 16, .ro, .h, 1643⟩]⟩,
  -- THF_STA_REST_COUNT
  ⟨0xA0018, 1, 0, 1, 0, [⟨0, 16, .rc, .h, 0⟩, ⟨16, 16, .rc, .h, 0⟩]⟩,
  -- THF_STA_RESET_CMD
  ⟨0xA0020, 1, 0, 1, 0, [⟨0, 16, .wo, .h, 0⟩]⟩,
  -- THF_STA_RESET_STATUS
  ⟨0xA0024, 1, 0, 1, 0, [⟨0, 2, .ro, .a, 0⟩, ⟨8, 8, .ro, .a, 0⟩, ⟨16, 8, .ro, .a, 0⟩]⟩,
  -- THF_STA_SAFE_STATUS
  ⟨0xA0028, 1, 0, 1, 0, [⟨0, 1, .ro, .b, 0⟩, ⟨1, 3, .ro, .b, 0⟩]⟩,
  -- THF_STA_WDT
  ⟨0xA002C, 1, 0, 1, 0, [⟨0, 16, .wo, .h, 0⟩, ⟨16, 8, .ro, .a, 0⟩, ⟨24, 1, .ro, .h, 0⟩]⟩]

/-- The registers of chapter 14 of the spec. -/
def regs14 : List RegDesc := [
  -- THF_FW_STATUS
  ⟨0xB0000, 1, 0, 1, 0, [⟨0, 2, .ro, .b, 0⟩, ⟨4, 4, .ro, .h, 0⟩, ⟨8, 8, .ro, .b, 0⟩, ⟨16, 1, .ro, .b, 0⟩, ⟨24, 4, .ro, .b, 0⟩, ⟨28, 4, .ro, .b, 0⟩]⟩,
  -- THF_FW_IMAGE
  ⟨0xB0004, 1, 0, 1, 0, [⟨0, 32, .ro, .b, 0⟩]⟩,
  -- THF_FW_GENERATION
  ⟨0xB0008, 1, 0, 1, 0, [⟨0, 32, .ro, .a, 0⟩]⟩,
  -- THF_FW_HOST_ALIVE
  ⟨0xB000C, 1, 0, 1, 0, [⟨0, 32, .wo, .h, 0⟩]⟩,
  -- THF_FW_HOST_CTRL
  ⟨0xB0010, 1, 0, 1, 0, [⟨0, 16, .rw, .a, 500⟩]⟩,
  -- THF_FW_HOST_CMD
  ⟨0xB0014, 1, 0, 1, 0, [⟨0, 16, .wo, .h, 0⟩, ⟨31, 1, .wo, .h, 0⟩]⟩,
  -- THF_FW_HOST_STATUS
  ⟨0xB0018, 1, 0, 1, 0, [⟨0, 2, .ro, .b, 0⟩, ⟨4, 1, .w1c, .b, 0⟩, ⟨16, 16, .ro, .h, 0⟩]⟩,
  -- THF_FW_ABSENT_START_LO
  ⟨0xB0020, 1, 0, 1, 0, [⟨0, 32, .ro, .b, 0⟩]⟩,
  -- THF_FW_ABSENT_START_HI
  ⟨0xB0024, 1, 0, 1, 0, [⟨0, 32, .ro, .b, 0⟩]⟩,
  -- THF_FW_ABSENT_SUMMARY
  ⟨0xB0028, 1, 0, 1, 0, [⟨0, 24, .ro, .b, 0⟩, ⟨24, 3, .ro, .b, 0⟩, ⟨31, 1, .ro, .b, 0⟩]⟩,
  -- THF_FW_ABSENT_COUNTS
  ⟨0xB002C, 1, 0, 1, 0, [⟨0, 16, .ro, .b, 0⟩, ⟨16, 16, .ro, .b, 0⟩]⟩,
  -- THF_FW_MPU_FAULT_ADDR
  ⟨0xB0030, 1, 0, 1, 0, [⟨0, 32, .ro, .b, 0⟩]⟩,
  -- THF_FW_MPU_FAULT_INFO
  ⟨0xB0034, 1, 0, 1, 0, [⟨0, 2, .ro, .b, 0⟩, ⟨4, 3, .ro, .b, 0⟩, ⟨8, 1, .ro, .b, 0⟩, ⟨9, 1, .ro, .b, 0⟩, ⟨31, 1, .w1c, .b, 0⟩]⟩,
  -- THF_FW_COMP_STATUS
  ⟨0xB0040, 8, 4, 1, 0, [⟨0, 2, .ro, .b, 0⟩, ⟨4, 4, .ro, .b, 0⟩, ⟨8, 8, .ro, .b, 0⟩, ⟨16, 16, .ro, .h, 0⟩]⟩,
  -- THF_FW_CORE_STATUS
  ⟨0xB0060, 4, 4, 1, 0, [⟨0, 2, .ro, .b, 0⟩, ⟨8, 8, .ro, .b, 0⟩, ⟨16, 16, .rc, .h, 0⟩]⟩,
  -- THF_FW_WEIGHT
  ⟨0xB0084, 16, 4, 1, 0, [⟨0, 4, .rw, .b, 1⟩, ⟨16, 16, .ro, .h, 0⟩]⟩] ++ [
  -- THF_FW_LOG_CTRL
  ⟨0xB0100, 1, 0, 1, 0, [⟨0, 1, .rw, .b, 0⟩, ⟨1, 1, .rw, .b, 0⟩, ⟨4, 2, .rw, .b, 2⟩, ⟨8, 8, .rw, .b, 64⟩]⟩,
  -- THF_FW_LOG_STATUS
  ⟨0xB0104, 1, 0, 1, 0, [⟨0, 11, .ro, .b, 0⟩, ⟨16, 1, .w1c, .b, 0⟩, ⟨17, 1, .ro, .h, 0⟩, ⟨18, 1, .ro, .h, 0⟩]⟩,
  -- THF_FW_LOG_SEQ
  ⟨0xB0108, 1, 0, 1, 0, [⟨0, 32, .ro, .b, 0⟩]⟩,
  -- THF_FW_LOG_DROP
  ⟨0xB010C, 1, 0, 1, 0, [⟨0, 16, .rc, .h, 0⟩]⟩,
  -- THF_FW_LOG_MIRROR_LO
  ⟨0xB0110, 1, 0, 1, 0, [⟨0, 32, .rw, .b, 0⟩]⟩,
  -- THF_FW_LOG_MIRROR_HI
  ⟨0xB0114, 1, 0, 1, 0, [⟨0, 32, .rw, .b, 0⟩]⟩,
  -- THF_FW_LOG_MIRROR_SIZE
  ⟨0xB0118, 1, 0, 1, 0, [⟨0, 5, .rw, .b, 16⟩]⟩,
  -- THF_FW_LOG_MIRROR_SEQ
  ⟨0xB011C, 1, 0, 1, 0, [⟨0, 32, .ro, .h, 0⟩]⟩,
  -- THF_FW_TRACE_MASK
  ⟨0xB0120, 8, 4, 1, 0, [⟨0, 32, .rw, .b, 0⟩]⟩,
  -- THF_FW_LOG_WIN
  ⟨0xB8000, 8192, 4, 1, 0, [⟨0, 32, .ro, .b, 0⟩]⟩]

/-- The registers of chapter 15 of the spec. -/
def regs15 : List RegDesc := [
  -- THF_CMD_CTRL
  ⟨0xC0000, 1, 0, 1, 0, [⟨0, 1, .rw, .b, 1⟩]⟩,
  -- THF_CMD_STATUS
  ⟨0xC0004, 1, 0, 1, 0, [⟨0, 15, .ro, .h, 0⟩, ⟨16, 1, .ro, .h, 0⟩, ⟨17, 1, .w1c, .b, 0⟩]⟩,
  -- THF_CMD_WIN_PAGE
  ⟨0xC0008, 1, 0, 1, 0, [⟨0, 4, .rw, .b, 0⟩]⟩,
  -- THF_CMD_SETUP_STATUS
  ⟨0xC000C, 1, 0, 1, 0, [⟨0, 7, .ro, .b, 0⟩, ⟨8, 3, .ro, .b, 0⟩, ⟨16, 1, .w1c, .b, 0⟩]⟩,
  -- THF_CMD_ERR_STATUS
  ⟨0xC0010, 1, 0, 1, 0, [⟨0, 16, .rc, .h, 0⟩, ⟨16, 8, .ro, .b, 0⟩, ⟨24, 7, .ro, .b, 0⟩]⟩,
  -- THF_CMD_GATE_CTRL
  ⟨0xC0020, 1, 0, 1, 0, [⟨0, 1, .rw, .h, 0⟩, ⟨1, 1, .ro, .h, 0⟩]⟩,
  -- THF_CMD_GATE_STEP_LO
  ⟨0xC0024, 1, 0, 1, 0, [⟨0, 32, .rw, .h, 0⟩]⟩,
  -- THF_CMD_GATE_STEP_HI
  ⟨0xC0028, 1, 0, 1, 0, [⟨0, 16, .rw, .h, 0⟩, ⟨31, 1, .rw, .h, 0⟩]⟩,
  -- THF_CMD_RING_CFG
  ⟨0xC1000, 72, 64, 1, 0, [⟨0, 13, .rw, .b, 0⟩, ⟨16, 4, .rw, .b, 7⟩, ⟨24, 1, .rw, .b, 0⟩, ⟨25, 1, .wo, .h, 0⟩, ⟨26, 5, .rw, .b, 0⟩, ⟨31, 1, .rw, .b, 0⟩]⟩,
  -- THF_CMD_RING_CQ
  ⟨0xC1004, 72, 64, 1, 0, [⟨0, 15, .rw, .b, 0⟩]⟩,
  -- THF_CMD_RING_TAIL
  ⟨0xC1008, 72, 64, 1, 0, [⟨0, 12, .rw, .b, 0⟩]⟩,
  -- THF_CMD_RING_HEAD
  ⟨0xC100C, 72, 64, 1, 0, [⟨0, 12, .ro, .b, 0⟩]⟩,
  -- THF_CMD_RING_CQ_HEAD
  ⟨0xC1010, 72, 64, 1, 0, [⟨0, 12, .rw, .b, 0⟩]⟩,
  -- THF_CMD_RING_CQ_TAIL
  ⟨0xC1014, 72, 64, 1, 0, [⟨0, 12, .ro, .b, 0⟩]⟩,
  -- THF_CMD_RING_STATUS
  ⟨0xC1018, 72, 64, 1, 0, [⟨0, 2, .ro, .b, 0⟩, ⟨2, 1, .ro, .b, 0⟩, ⟨8, 8, .rc, .h, 0⟩, ⟨16, 16, .ro, .h, 0⟩]⟩,
  -- THF_CMD_RING_EXPECT
  ⟨0xC101C, 72, 64, 1, 0, [⟨0, 32, .ro, .b, 0⟩]⟩] ++ [
  -- THF_CMD_LAST_APPLIED
  ⟨0xC1020, 72, 64, 1, 0, [⟨0, 32, .ro, .b, 0⟩]⟩,
  -- THF_MBX_CFG
  ⟨0xC3000, 32, 16, 1, 0, [⟨0, 8, .rw, .b, 0⟩, ⟨8, 8, .rw, .b, 0⟩, ⟨16, 2, .rw, .b, 0⟩, ⟨24, 5, .rw, .b, 0⟩, ⟨29, 1, .rw, .b, 0⟩]⟩,
  -- THF_MBX_DATA
  ⟨0xC3004, 32, 16, 1, 0, [⟨0, 32, .rw, .b, 0⟩]⟩,
  -- THF_MBX_STATUS
  ⟨0xC3008, 32, 16, 1, 0, [⟨0, 1, .ro, .b, 0⟩, ⟨1, 1, .w1c, .b, 0⟩, ⟨8, 8, .ro, .b, 0⟩, ⟨16, 16, .rc, .h, 0⟩]⟩,
  -- THF_CMD_WIN
  ⟨0xC8000, 8192, 4, 1, 0, [⟨0, 32, .rw, .b, 0⟩]⟩]

/-- The registers of chapter 16 of the spec. -/
def regs16 : List RegDesc := [
  -- THF_EVR_CTRL
  ⟨0xD0000, 1, 0, 1, 0, [⟨0, 6, .rwb, .b, 16⟩, ⟨8, 8, .rwb, .b, 10⟩]⟩,
  -- THF_EVR_STATUS
  ⟨0xD0004, 1, 0, 1, 0, [⟨0, 1, .ro, .h, 0⟩, ⟨1, 1, .w1c, .b, 0⟩, ⟨2, 1, .w1c, .b, 0⟩, ⟨3, 1, .w1c, .b, 0⟩, ⟨4, 1, .ro, .h, 0⟩, ⟨5, 1, .w1c, .b, 0⟩]⟩,
  -- THF_EVR_NEXT_SEQ_LO
  ⟨0xD0008, 1, 0, 1, 0, [⟨0, 32, .ro, .f, 0⟩]⟩,
  -- THF_EVR_NEXT_SEQ_HI
  ⟨0xD000C, 1, 0, 1, 0, [⟨0, 16, .ro, .f, 0⟩]⟩,
  -- THF_EVR_OLDEST_SEQ_LO
  ⟨0xD0010, 1, 0, 1, 0, [⟨0, 32, .ro, .b, 0⟩]⟩,
  -- THF_EVR_OLDEST_SEQ_HI
  ⟨0xD0014, 1, 0, 1, 0, [⟨0, 16, .ro, .b, 0⟩]⟩,
  -- THF_EVR_FLUSHED_SEQ_LO
  ⟨0xD0018, 1, 0, 1, 0, [⟨0, 32, .ro, .f, 0⟩]⟩,
  -- THF_EVR_FLUSHED_SEQ_HI
  ⟨0xD001C, 1, 0, 1, 0, [⟨0, 16, .ro, .f, 0⟩]⟩,
  -- THF_EVR_PTR
  ⟨0xD0020, 1, 0, 1, 0, [⟨0, 15, .ro, .b, 0⟩, ⟨16, 15, .ro, .b, 0⟩]⟩,
  -- THF_EVR_FLASH
  ⟨0xD0024, 1, 0, 1, 0, [⟨0, 12, .ro, .f, 0⟩, ⟨16, 12, .ro, .h, 0⟩]⟩,
  -- THF_EVR_COUNTS
  ⟨0xD0028, 1, 0, 1, 0, [⟨0, 16, .rc, .h, 0⟩, ⟨16, 16, .rc, .h, 0⟩]⟩,
  -- THF_EVR_HOURS_LO
  ⟨0xD002C, 1, 0, 1, 0, [⟨0, 32, .ro, .f, 0⟩]⟩,
  -- THF_EVR_HOURS_HI
  ⟨0xD0030, 1, 0, 1, 0, [⟨0, 16, .ro, .f, 0⟩]⟩,
  -- THF_EVR_CYCLES
  ⟨0xD0034, 1, 0, 1, 0, [⟨0, 32, .ro, .f, 0⟩]⟩,
  -- THF_EVR_WIN_CTRL
  ⟨0xD0038, 1, 0, 1, 0, [⟨0, 3, .rw, .b, 0⟩, ⟨4, 1, .rw, .b, 0⟩, ⟨16, 12, .rw, .b, 0⟩]⟩,
  -- THF_EVR_WATCH
  ⟨0xD0040, 8, 4, 1, 0, [⟨0, 16, .ro, .b, 0⟩, ⟨16, 7, .ro, .b, 0⟩, ⟨24, 8, .ro, .b, 0⟩]⟩] ++ [
  -- THF_EVR_WATCH_LIST
  ⟨0xD0200, 8, 256, 64, 4, [⟨0, 20, .ro, .b, 0⟩]⟩,
  -- THF_FLC_CTRL
  ⟨0xD0080, 1, 0, 1, 0, [⟨0, 5, .rw, .b, 30⟩, ⟨5, 1, .rw, .b, 1⟩, ⟨8, 8, .rw, .b, 50⟩]⟩,
  -- THF_FLC_STATUS
  ⟨0xD0084, 1, 0, 1, 0, [⟨0, 1, .ro, .b, 0⟩, ⟨1, 1, .w1c, .b, 0⟩, ⟨2, 1, .ro, .h, 0⟩, ⟨3, 1, .ro, .h, 0⟩, ⟨4, 1, .ro, .b, 0⟩, ⟨5, 1, .ro, .h, 0⟩, ⟨16, 16, .ro, .b, 0⟩]⟩,
  -- THF_FLC_HB_KICK
  ⟨0xD0088, 1, 0, 1, 0, [⟨0, 32, .wo, .h, 0⟩]⟩,
  -- THF_FLC_LAST_LO
  ⟨0xD008C, 1, 0, 1, 0, [⟨0, 32, .ro, .b, 0⟩]⟩,
  -- THF_FLC_LAST_HI
  ⟨0xD0090, 1, 0, 1, 0, [⟨0, 32, .ro, .b, 0⟩]⟩,
  -- THF_FLC_COUNTS
  ⟨0xD0094, 1, 0, 1, 0, [⟨0, 16, .rc, .h, 0⟩, ⟨16, 16, .rc, .h, 0⟩]⟩,
  -- THF_FLC_INJECT
  ⟨0xD0098, 1, 0, 1, 0, [⟨0, 4, .rw, .b, 0⟩, ⟨8, 2, .rw, .b, 0⟩, ⟨16, 1, .rw, .b, 0⟩]⟩,
  -- THF_FLC_INJECT_STATUS
  ⟨0xD009C, 1, 0, 1, 0, [⟨0, 1, .w1c, .b, 0⟩, ⟨8, 4, .ro, .b, 0⟩]⟩,
  -- THF_FLC_POLICY
  ⟨0xD0C00, 256, 4, 1, 0, [⟨0, 8, .rwb, .b, 0⟩, ⟨8, 16, .rwb, .b, 0⟩, ⟨24, 3, .rwb, .b, 0⟩, ⟨28, 2, .ro, .f, 0⟩]⟩,
  -- THF_FLC_SEVERE
  ⟨0xD1000, 128, 4, 1, 0, [⟨0, 32, .w1c, .b, 0⟩]⟩,
  -- THF_EVR_WIN
  ⟨0xD8000, 8192, 4, 1, 0, [⟨0, 32, .ro, .b, 0⟩]⟩]

/-- The registers of chapter 17 of the spec. -/
def regs17 : List RegDesc := [
  -- THF_SEC_STATUS
  ⟨0xE0000, 1, 0, 1, 0, [⟨0, 1, .ro, .a, 0⟩, ⟨1, 1, .ro, .a, 0⟩, ⟨2, 1, .ro, .a, 0⟩, ⟨3, 1, .ro, .a, 0⟩, ⟨8, 1, .w1c, .b, 0⟩, ⟨9, 1, .w1c, .b, 0⟩, ⟨10, 1, .w1c, .b, 0⟩]⟩,
  -- THF_SEC_DENY_INFO
  ⟨0xE0004, 1, 0, 1, 0, [⟨0, 8, .ro, .b, 0⟩, ⟨8, 20, .ro, .b, 0⟩, ⟨31, 1, .ro, .b, 0⟩]⟩,
  -- THF_SEC_KX_CTRL
  ⟨0xE0008, 1, 0, 1, 0, [⟨0, 1, .wo, .h, 0⟩]⟩,
  -- THF_SEC_LOG_KEY
  ⟨0xE000C, 1, 0, 1, 0, [⟨0, 8, .ro, .f, 0⟩, ⟨8, 8, .ro, .f, 0⟩, ⟨16, 13, .ro, .f, 0⟩, ⟨31, 1, .ro, .f, 0⟩]⟩,
  -- THF_SEC_SEAL_CNT_LO
  ⟨0xE0010, 1, 0, 1, 0, [⟨0, 32, .ro, .f, 0⟩]⟩,
  -- THF_SEC_SEAL_CNT_HI
  ⟨0xE0014, 1, 0, 1, 0, [⟨0, 32, .ro, .f, 0⟩]⟩,
  -- THF_SEC_MIGRATE_COUNTS
  ⟨0xE0018, 1, 0, 1, 0, [⟨0, 16, .rc, .h, 0⟩, ⟨16, 16, .rc, .h, 0⟩]⟩,
  -- THF_SEC_ID_PUB
  ⟨0xE0100, 24, 4, 1, 0, [⟨0, 32, .ro, .a, 0⟩]⟩,
  -- THF_SEC_KX_PUB
  ⟨0xE0200, 24, 4, 1, 0, [⟨0, 32, .ro, .a, 0⟩]⟩,
  -- THF_SEC_KX_SIG
  ⟨0xE0280, 24, 4, 1, 0, [⟨0, 32, .ro, .a, 0⟩]⟩,
  -- THF_SEC_KX_PEER
  ⟨0xE0300, 24, 4, 1, 0, [⟨0, 32, .rw, .a, 0⟩]⟩,
  -- THF_SEC_PART_MAP_LO
  ⟨0xE0800, 16, 16, 1, 0, [⟨0, 32, .rwb, .a, 0⟩]⟩,
  -- THF_SEC_PART_MAP_HI
  ⟨0xE0804, 16, 16, 1, 0, [⟨0, 32, .rwb, .a, 0⟩]⟩,
  -- THF_SEC_PART_MAP_IO
  ⟨0xE0808, 16, 16, 1, 0, [⟨0, 8, .rwb, .a, 0⟩, ⟨16, 16, .rwb, .a, 0⟩]⟩,
  -- THF_SEC_PART_STATUS
  ⟨0xE0A00, 16, 4, 1, 0, [⟨0, 1, .ro, .a, 0⟩, ⟨1, 1, .ro, .a, 0⟩, ⟨2, 1, .ro, .a, 0⟩]⟩,
  -- THF_SEC_PART_TENANT
  ⟨0xE0A40, 16, 4, 1, 0, [⟨0, 32, .ro, .a, 0⟩]⟩]

/-- The registers of chapter 18 of the spec. -/
def regs18 : List RegDesc := [
  -- THF_UPD_CTRL
  ⟨0xE1000, 1, 0, 1, 0, [⟨0, 8, .rw, .a, 30⟩, ⟨8, 8, .rw, .a, 20⟩, ⟨16, 1, .rw, .a, 0⟩]⟩,
  -- THF_UPD_STATUS
  ⟨0xE1004, 1, 0, 1, 0, [⟨0, 3, .ro, .a, 0⟩, ⟨4, 1, .ro, .f, 0⟩, ⟨5, 1, .ro, .f, 0⟩, ⟨6, 1, .w1c, .a, 0⟩, ⟨8, 8, .ro, .a, 0⟩, ⟨16, 8, .ro, .a, 0⟩, ⟨24, 3, .ro, .a, 0⟩]⟩,
  -- THF_UPD_ACT_TIME_LO
  ⟨0xE1008, 1, 0, 1, 0, [⟨0, 32, .ro, .a, 0⟩]⟩,
  -- THF_UPD_ACT_TIME_HI
  ⟨0xE100C, 1, 0, 1, 0, [⟨0, 32, .ro, .a, 0⟩]⟩,
  -- THF_UPD_ACT_GROUP
  ⟨0xE1010, 1, 0, 1, 0, [⟨0, 16, .ro, .a, 0⟩, ⟨16, 16, .ro, .a, 0⟩]⟩,
  -- THF_UPD_GAP
  ⟨0xE1014, 1, 0, 1, 0, [⟨0, 16, .ro, .a, 0⟩, ⟨16, 16, .ro, .a, 0⟩]⟩,
  -- THF_UPD_CARAVAN
  ⟨0xE1018, 1, 0, 1, 0, [⟨0, 8, .ro, .a, 0⟩, ⟨8, 8, .ro, .a, 0⟩, ⟨16, 16, .ro, .a, 0⟩]⟩,
  -- THF_UPD_SETTINGS
  ⟨0xE101C, 1, 0, 1, 0, [⟨0, 16, .ro, .f, 0⟩, ⟨16, 16, .ro, .f, 0⟩]⟩,
  -- THF_UPD_ACTIVE_ID
  ⟨0xE1020, 3, 4, 1, 0, [⟨0, 32, .ro, .f, 0⟩]⟩,
  -- THF_UPD_STAGED_ID
  ⟨0xE1030, 3, 4, 1, 0, [⟨0, 32, .ro, .a, 0⟩]⟩,
  -- THF_UPD_SVN
  ⟨0xE1040, 3, 4, 1, 0, [⟨0, 16, .ro, .f, 0⟩, ⟨16, 16, .ro, .f, 0⟩]⟩]

/-- The registers of chapter 19 of the spec. -/
def regs19 : List RegDesc := [
  -- THF_TST_CTRL
  ⟨0xF0000, 1, 0, 1, 0, [⟨0, 1, .rw, .b, 0⟩]⟩,
  -- THF_TST_STATUS
  ⟨0xF0004, 1, 0, 1, 0, [⟨0, 1, .ro, .h, 0⟩]⟩,
  -- THF_TST_PIN_IN
  ⟨0xF0008, 1, 0, 1, 0, [⟨0, 4, .ro, .h, 0⟩, ⟨4, 1, .ro, .h, 0⟩, ⟨5, 1, .ro, .h, 0⟩, ⟨7, 1, .ro, .h, 0⟩, ⟨6, 1, .ro, .h, 0⟩, ⟨8, 1, .ro, .h, 0⟩]⟩,
  -- THF_TST_PIN_OUT
  ⟨0xF000C, 1, 0, 1, 0, [⟨0, 1, .rw, .b, 0⟩, ⟨1, 1, .rw, .b, 1⟩, ⟨2, 1, .rw, .b, 1⟩, ⟨3, 1, .rw, .b, 0⟩]⟩,
  -- THF_TST_PH_FAULT
  ⟨0xF0010, 4, 4, 1, 0, [⟨0, 32, .ro, .h, 0⟩]⟩]

end Sys2Proof.Machine
end

