-- ==== Sys2Proof/Machine/Regs.lean ====
section
/-! DEFINITION. The register window (R462): the register at an offset, a field's description, and every field's reset value. -/

namespace Sys2Proof.Machine

/-- The register rows of the group that holds an offset (Table 19-10). -/
def groupRegs (off : Nat) : List RegDesc :=
  match off / 0x10000 with
  | 0x0 => regs01 | 0x1 => regs02 | 0x2 => regs03 | 0x3 => regs04 ++ regs05 | 0x4 => regs06 | 0x5 => regs07
  | 0x6 => regs08 ++ regs09 | 0x7 => regs10 | 0x8 => regs11 | 0x9 => regs12 | 0xA => regs13 | 0xB => regs14
  | 0xC => regs15 | 0xD => regs16 | 0xE => regs17 ++ regs18 | 0xF => regs19 | _ => []

/-- The register row that holds an offset. -/
def regAt (off : Nat) : Option RegDesc := (groupRegs off).find? (fun r => r.holds off)

/-- The fields of the register at an offset; several rows can describe one register. -/
def fieldsAt (off : Nat) : List FldDesc :=
  if off % 4 = 0 then ((groupRegs off).filter (fun r => r.holds off)).flatMap (fun r => r.flds) else []

/-- Is there a register at an offset (R37: bits [1:0] not zero is an offset with no register)? -/
def mapped (off : Nat) : Bool := decide (off < 0x100000) && decide (off % 4 = 0) && (regAt off).isSome

/-- The description of the field at a key. -/
def fieldOf (k : Nat) : Option FldDesc := (fieldsAt (keyOff k)).find? (fun f => f.lo = keyLo k)

/-- One of a list of numbers by index, 0 beyond its end. -/
def nth (l : List Nat) (i : Nat) : Nat := l.getD i 0

/-- Reset voltages (1.25 mV) and FMAX (10 MHz) of the setpoint tables (Table 8-2). -/
def spVolt (k e : Nat) : Nat :=
  match k with
  | 0 => nth [520, 440, 480, 520, 560, 580, 600, 620, 640, 660, 680, 560, 560, 560, 560, 560] e
  | 1 => nth [720, 640, 680, 760, 800, 720, 720, 720, 720, 720, 720, 720, 720, 720, 720, 720] e
  | 2 => nth [680, 600, 640, 720, 760, 680, 680, 680, 680, 680, 680, 680, 680, 680, 680, 680] e
  | _ => 960
def spFmax (k e : Nat) : Nat :=
  match k with
  | 0 => nth [80, 60, 80, 100, 125, 130, 135, 140, 145, 150, 150, 125, 125, 125, 125, 125] e
  | _ => 0

/-- Table 10-1: default and highest accepted current limit of a rail and window, in A. -/
def limDefault (k w : Nat) : Nat :=
  match k with
  | 0 => nth [3000, 2300, 1900] w | 1 => nth [410, 315, 260] w | 2 => nth [250, 195, 160] w | _ => nth [60, 48, 40] w

/-- The severity hint of a kind (R388; Tables 17-8 and 18-7 for 0xE0 to 0xEF). -/
def hintOf (kind : Nat) : Nat :=
  if [0x12, 0x33, 0x41, 0x50, 0x65, 0x66, 0x67, 0x68, 0x69, 0x6A, 0x70, 0x80, 0x82, 0xA0, 0xA3, 0xB3, 0xD2, 0xE0, 0xEA].contains kind
  then 3
  else if [0x15, 0x16, 0x21, 0x23, 0x52, 0x60, 0x63, 0x64, 0x71, 0x81, 0x85, 0x86, 0x94, 0xB2, 0xB5, 0xC0, 0xE9, 0xEC].contains kind
  then 2
  else if [0x32, 0x40, 0xD0, 0xD4, 0xE8].contains kind then 0
  else 1

/-- The reset policy of a hint (R390): N, W in ms, ACTION; for hint 0 only N is stated, W and ACTION read 0 there. -/
def policyOf (hint : Nat) : Nat × Nat × Nat :=
  match hint with
  | 0 => (0, 0, 0) | 1 => (16, 1000, 1) | 2 => (4, 10000, 2) | _ => (1, 1000, 2)

/-- Table 15-10: agents and mode of a mailbox at reset. -/
def mbxReset (m : Nat) : Nat × Nat × Nat :=
  if m < 4 then (1, 0x40, 1) else if m < 8 then (0x40, 1, 1) else if m = 8 then (2, 0x40, 1) else if m = 9 then (0x40, 2, 1)
  else if m < 16 then (0, 0, 0) else (0x10 + (m - 15), 0x40, 2)

/-- Reset values that go by index (the tables' lists and the tables they name). -/
def resetByIdx (off lo : Nat) : Option Nat :=
  if 0x20070 ≤ off ∧ off < 0x20080 ∧ lo = 16 then some (nth [100, 20, 10, 4] ((off - 0x20070) / 4))
  else if 0x30050 ≤ off ∧ off < 0x30060 then some (nth [336, 6720, 6720, 6720] ((off - 0x30050) / 4))
  else if 0x60020 ≤ off ∧ off < 0x60040 then
    let k := (off - 0x60020) / 8
    if (off - 0x60020) % 8 = 0 then
      if lo = 0 then some (nth [900, 600, 600, 400] k) else some (nth [60, 40, 40, 30] k)
    else some (nth [3000, 1500, 1500, 800] k)
  else if 0x60100 ≤ off ∧ off < 0x60200 then
    let k := (off - 0x60100) / 64; let e := (off - 0x60100) % 64 / 4
    if lo = 0 then some (spVolt k e) else some (spFmax k e)
  else if 0x60420 ≤ off ∧ off < 0x60430 ∧ lo = 8 then some (nth [8, 4, 2, 4] ((off - 0x60420) / 4))
  else if 0x70020 ≤ off ∧ off < 0x70060 then some (limDefault ((off - 0x70020) / 16) ((off - 0x70020) % 16 / 4))
  else if 0xC3000 ≤ off ∧ off < 0xC3200 ∧ (off - 0xC3000) % 16 = 0 then
    let r := mbxReset ((off - 0xC3000) / 16)
    if lo = 0 then some r.1 else if lo = 8 then some r.2.1 else if lo = 16 then some r.2.2 else none
  else if 0xD0C00 ≤ off ∧ off < 0xD1000 then
    let h := hintOf ((off - 0xD0C00) / 4); let p := policyOf h
    if lo = 0 then some p.1 else if lo = 8 then some p.2.1 else if lo = 24 then some p.2.2 else some h
  else none

/-- The reset value of the field at a key. -/
def resetAt (k : Nat) : Nat :=
  match resetByIdx (keyOff k) (keyLo k) with
  | some v => v
  | none => match fieldOf k with | some f => f.rst | none => 0

/-- The retention class of the field at a key. -/
def clsAt (k : Nat) : Cls := match fieldOf k with | some f => f.cls | none => .h

end Sys2Proof.Machine
end

