-- ==== Sys2Proof/Machine/State.lean ====
section
/-! DEFINITION. The state of the block as plain data: every register field (in force, written, landing, pending), the live state of
every unit, its memories, the pins and signals it drives, and the queue of commands. Registers that hold their reset value are not
listed (Machine/Regs.lean has the reset values); every list below is a sparse table in one canonical form. -/

namespace Sys2Proof.Machine

/-- A pending value of an RWB field (R29, R30, R357). -/
structure PendVal where
  /-- The value written. -/
  val : Nat
  /-- The tagged packet that wrote it, 0 for none. -/
  pkt : Nat
  /-- Whether the boundary gate released it, and then the gate's named step, if any: its companion in place of the register's (R357). -/
  gate : Option (Option Nat)
  /-- Frozen provisionally: its companion was armed at the cut (R30). -/
  prov : Bool
  deriving DecidableEq, Repr

/-- Work that waits for a boundary beside the RWB fields. -/
inductive ActKind where
  /-- SEQ_START, SEQ_STOP (R216, R217). -/
  | seqStart | seqStop
  /-- A phase retired at a boundary, with its cause (R209). -/
  | retire (n cause : Nat)
  /-- A phase returned to service (R211). -/
  | restore (n : Nat)
  /-- A detector excluded (R60). -/
  | exclude (det : Nat)
  /-- PLAN_STOP (R149). -/
  | planStop
  /-- JOB_ATTACH and JOB_DETACH (R362). -/
  | jobAttach | jobDetach
  /-- A staged calibration of a rail: gain and offset (R79). -/
  | cal (k gain off : Nat)
  /-- A program slot goes from LOADED to RUNNING (R113). -/
  | slotRun (slot : Nat)
  /-- PARTITION_ASSIGN, SCRUB_BEGIN, SCRUB_END, CONF_MODE (R401, R402, R404). -/
  | assign (x action tenant : Nat) | scrubBegin (x : Nat) | scrubEnd (x : Nat) | confMode (on : Bool)
  /-- A sideband key: context, generation, key bytes as a number (R290, R411). -/
  | sbKey (ctx gen key : Nat)
  /-- EVR_WATCH (R380). -/
  | watch (w ev : Nat) (offs : List Nat)
  /-- A FIRST segment is armed; a segment's signature block is written (R143, R144). -/
  | planArm | sigLoad
  /-- RESET of a leaving job's boundary source and other deferred effects named by number. -/
  | misc (code arg : Nat)
  deriving DecidableEq, Repr

/-- One deferred action: what, whether the cut has taken it, the step it names and the packet that asked. -/
structure Act where
  kind : ActKind
  frozen : Bool
  step : Option Nat
  pkt : Nat
  deriving DecidableEq, Repr

/-- A fault message or a record on its way to the collector or the recorder (R18, R377, R386). -/
structure Arrival where
  /-- Instant of sending, in ticks. -/
  ticks : Nat
  /-- Plane: 0 control, 1 data, 2 management (R468). -/
  plane : Nat
  /-- Register group. -/
  grp : Nat
  /-- False for a fault message, true for a record. -/
  isRec : Bool
  /-- Source ID of a message, code of an event, type of another record. -/
  code : Nat
  /-- KIND of a message, TYPE of a record. -/
  kind : Nat
  /-- INFO of a message. -/
  info : Nat
  /-- MSG_SEQ of a message. -/
  seq : Nat
  /-- Bytes 8 onwards of a record. -/
  body : List Nat
  deriving DecidableEq, Repr

/-- Time, steps and boundaries (chapter 01). -/
structure TimeState where
  /-- The local time base, in 10 ns (R22). -/
  ticks : Nat
  /-- The reference runs (R449). -/
  refRun : Bool
  /-- System time, in ns (R23). -/
  sys : Nat
  /-- Number of the current step (R25). -/
  step : Nat
  /-- Scheduled system time of the next boundary (R25). -/
  nextB : Option Nat
  /-- Local instant of the last accepted strobe (R26). -/
  lastStrobe : Option Nat
  /-- Local instant at which the present boundary source began to wait for a strobe (R32). -/
  idleSince : Nat
  /-- The cut of the coming boundary has been made (R28). -/
  cutMade : Bool
  /-- VAON is below 0.70 V, its fault sent (R20, R469). -/
  vaonLow : Bool
  /-- Operating hours, in ticks (R374). -/
  hours : Nat
  deriving DecidableEq, Repr

/-- The management bus (R34 to R38). -/
structure BusState where
  /-- Data of the last read answered. -/
  rdata : Word
  /-- Snapshots of high words, by 2^20 × agent + offset (R38). -/
  snap : Assoc Nat
  /-- Low words held until their high words are written, by offset (R38). -/
  low : Assoc Nat
  /-- Per-agent windows: CMD page, EVR window control, log page, by 2^20 × agent + offset (R346). -/
  page : Assoc Nat
  /-- Instant of the last SEC_ACCESS_DENIED of each agent, in ticks (R399). -/
  denied : Assoc Nat
  deriving DecidableEq, Repr

/-- Sense front end and housekeeping (chapter 02). -/
structure SnsState where
  /-- Rail current of the last sample, 0.125 A (R48). -/
  railI : Assoc Int
  /-- Trimmed current of each phase at the last sample (R45). -/
  phI : Assoc Int
  /-- Sums of rail current in the open 1 µs window, and its samples (R49). -/
  acc1 : Assoc Int
  n1 : Nat
  /-- Rail sums of the last ten closed 1 µs windows, newest first. -/
  sums : List (List Int)
  /-- Sums of bus_v × bus_i and of v_rail × i_rail in the open 1 ms round (R55). -/
  busSum : Nat
  busN : Nat
  outSum : Int
  outN : Nat
  /-- Per-phase current sums in the open 1 ms round (R209). -/
  phSum : Assoc Int
  /-- 1 ms sums for PMBus: rail current and voltage, bus voltage and current (R458). -/
  i1ms : Assoc Int
  v1ms : Assoc Nat
  bv1ms : Nat
  bi1ms : Nat
  /-- Means of the last complete 1 ms round, for PMBus (R458): rail current and voltage, bus voltage and current. -/
  iMean : Assoc Int
  vMean : Assoc Nat
  bvMean : Nat
  biMean : Nat
  pinMean : Nat
  /-- Consecutive samples at code 0 or 1023, by input, and the inputs whose fault was sent (R46). -/
  imonRun : Assoc Nat
  imonSent : List Nat
  /-- Last codes of the five sense points, and their runs below 0.25 V in samples (R50, R52). -/
  pts : Assoc Nat
  openRun : Assoc Nat
  /-- Samples for which A and B have differed by more than SPLIT_MV; fault sent (R53). -/
  splitRun : Nat
  splitSent : Bool
  /-- Bus samples outside 46 V to 58 V; fault sent (R54). -/
  busRun : Nat
  busSent : Bool
  /-- Consecutive active rounds in band (R56). -/
  inRun : Nat
  /-- Level of each droop detector, 4 × region + detector (R57). -/
  det : Assoc Nat
  /-- Instant from which a detector has met the stuck condition; detectors whose fault of this onset was sent (R60, R469). -/
  stuck : Assoc Nat
  stuckSent : List Nat
  /-- The complete feature vector, and the one being received (R62). -/
  feats : Assoc Nat
  cur : Assoc Nat
  /-- The last complete window was stale; late sources of the stale run; fault sent (R63). -/
  stale : Bool
  late : Nat
  stallSent : Bool
  /-- Last received temperature of each STG_TLM device, its instant, and the one before it; devices received in the open round; silent
  rounds; faults sent (R67, R448). -/
  tlm : Assoc Nat
  tlmAt : Assoc Nat
  tlmOld : Assoc Nat
  tlmGot : List Nat
  tlmOpen : Bool
  silent : Assoc Nat
  silentSent : List Nat
  /-- Consecutive invalid rounds of each channel; faults sent (R66). -/
  hksBad : Assoc Nat
  hksSent : List Nat
  deriving DecidableEq, Repr

/-- One usable 10 µs window of the open 1 ms round: rails it serves, u[0] per rail (binary32), y per rail (0.125 A) (R77). -/
structure CalWin where
  ok : Nat
  u : List Nat
  y : List Int
  deriving DecidableEq, Repr

/-- A 1 µs window that has closed and whose estimates are not yet out (Table 3-3): the instant of its close, the derived features, v_set of
the rails in 1.25 mV and the regulated sense values in 0.25 mV then, the trust state in force then, whether its step has ended, and whether
any partition was being scrubbed in it (R298). -/
structure WinShot where
  at0 : Nat
  derived : List (Nat × Nat)
  vset : List Nat
  volts : List Nat
  trust : Nat
  old : Bool
  scrub : Bool
  deriving DecidableEq, Repr

/-- What a step's windows give the signature table (R89): sums and maxima of the source current, windows, bad windows, a scrub, and the
entry to be updated. -/
structure SigAcc where
  sums : Assoc Int
  tops : Assoc Int
  n : Nat
  bad : Nat
  scrub : Bool
  sig : Nat
  deriving DecidableEq, Repr

/-- Estimator (chapter 03). -/
structure EstState where
  /-- The 16 raw outputs of the last window, binary32, and whether slot 0 delivered (R72). -/
  raw : List Nat
  /-- Raw outputs, estimates and region partial sums (binary32) of the last ten windows, newest first (R76). -/
  raws : List (List Nat)
  ests : List (List Int)
  parts : List (List Nat)
  /-- Windows of the open 10 µs window: stale, substituted, during a scrub (R81). -/
  stale10 : Bool
  subst10 : Bool
  scrub10 : Bool
  /-- The closed window whose estimates are not out; slot 0 still owes its result. -/
  shot : Option WinShot
  owed : Bool
  /-- A closed 10 µs window waits for the estimate of its tenth 1 µs window; a scrub fell in it (Table 3-3). -/
  tenDue : Bool
  scrubTen : Bool
  /-- Usable windows of the open round, covariance of the fit in force and of the shadow fit (four binary32 words per rail, 4 × rail + index) (R78, R80). -/
  wins : List CalWin
  cov : Assoc Nat
  shCov : Assoc Nat
  /-- The round that the built-in routine works on, and when it was triggered (R78, R98). -/
  calDue : Option Nat
  calWins : List CalWin
  /-- Consecutive clamped updates, rails whose fault of this onset was sent, the gain last clamped; CAL_RESET waits for the next round (R78,
  R93, R469). -/
  clampRun : Assoc Nat
  clampSent : List Nat
  clampGain : Assoc Nat
  calReset : Bool
  /-- The row of Table 3-5 that decided at the last 10 µs close and whose transition has not been made, 0 for none, and the instant of that
  close (R84). -/
  row : Nat
  rowAt : Option Nat
  /-- E − M of each rail at the last 10 µs close (R93). -/
  diff : Assoc Int
  /-- Consecutive windows with a slot 0 result (row 4). -/
  results : Nat
  /-- Instant of entry to Guarded (GUARDED_MS). -/
  guardedAt : Nat
  /-- A narrower band of Measured-only, and the grant of pre-lift, wait for the boundary (R85). -/
  bandPend : Option Nat
  liftWait : Bool
  /-- Row of Table 3-5 whose transition is pending, 0 for none. -/
  pendRow : Nat
  /-- Chip power of the last window (1/32000 W), energy in µJ and its fraction (1/32000 µJ) (R90, R91). -/
  chipP : Nat
  energy : Nat
  eFrac : Nat
  /-- Sums for the 1 ms, 10 ms and 100 ms means: power sum and windows; latched mean numerators and energies (R92, R407). -/
  p1sum : Nat
  p1n : Nat
  p1mean : Nat
  railP : Assoc Int
  railPMean : Assoc Int
  p10sum : Nat
  p10n : Nat
  p10mean : Nat
  p10e : Nat
  p100sum : Nat
  p100n : Nat
  p100mean : Nat
  p100e : Nat
  pin10sum : Nat
  pin10n : Nat
  pin10mean : Nat
  pin100sum : Nat
  pin100n : Nat
  pin100mean : Nat
  /-- Signature learning of the step in progress, and of the step that has ended while its last window's estimates were not out (R89). -/
  sg : SigAcc
  sgOld : Option SigAcc
  deriving DecidableEq, Repr

/-- One action of a feed-forward schedule (R148, R152). -/
structure FfAct where
  /-- 0 add, 1 lift, 2 shed. -/
  kind : Nat
  /-- Rail of an add or shed. -/
  rail : Nat
  /-- Phases, or nV of a lift. -/
  amount : Nat
  /-- Step number of the target boundary. -/
  target : Nat
  /-- Lead, in ns. -/
  lead : Nat
  deriving DecidableEq, Repr

/-- A pre-lift in progress (R155): full value and present value in nV, target step, lead in ns, falling. -/
structure Lift where
  full : Nat
  now : Nat
  target : Nat
  lead : Nat
  falling : Bool
  /-- Instant and value at which the rise or the fall began. -/
  since : Nat
  base : Nat
  deriving DecidableEq, Repr

/-- Plan sequencer (chapter 06). -/
structure PsqState where
  /-- Plan memory, 1 MiB: half h at 524,288 × h (R139). -/
  mem : Mem
  /-- Words of plan memory stored with inverted check bits: entry index → bits (R163, R394). -/
  ecc : Assoc Nat
  /-- The step in force carries a plan entry. -/
  hasEntry : Bool
  /-- Entry read and frozen at the cut: the step it serves and its four words (R146). -/
  frozen : Option (Nat × List Nat)
  /-- Schedule in force, computed for the next step, and frozen (R152). -/
  sched : List FfAct
  next : Option (List FfAct)
  /-- Lifts in progress, and the lift offset in force in nV (R155). -/
  lifts : List Lift
  lift : Nat
  /-- Phase floor of each rail (R153). -/
  floor : Assoc Nat
  /-- A write of REACT_SEL, of REACT_GUARD, landed in GAP or ENDED: waiting, and in effect (R158). -/
  reactSelW : Bool
  reactGuardW : Bool
  reactSel : Bool
  reactGuard : Bool
  /-- ERROR was entered at a cut: the last entry governs until the swap (Table 6-4). -/
  errHold : Bool
  /-- Last accepted segment: its index, and the step after its last (R142). -/
  segIdx : Nat
  segNext : Nat
  /-- Signature block to be written at the next swap; signature table as repeatable mode found it (R143, R162). -/
  sigBlock : Mem
  sigSnap : Option (Assoc Nat)
  /-- Launch time of the step in force; next boundary's time as it stood then, in ns of system time (R175). -/
  launch : Nat
  sched0 : Option Nat
  /-- The step in force asks the balance agent for an allocation (R146, R278). -/
  alloc : Bool
  deriving DecidableEq, Repr

/-- One region of the droop guard and its clock unit (chapter 07). -/
structure Region where
  /-- Stretch in force, in 1/64. -/
  stretch : Nat
  /-- Grading: from, to, beats done (16 when not grading) (R169). -/
  gOld : Nat
  gNew : Nat
  gBeat : Nat
  /-- Edges withheld by level 4; the first edge after a hold is due (R168). -/
  hold : Bool
  first : Bool
  /-- Instant at which the hold began, fault sent. -/
  holdAt : Nat
  longSent : Bool
  /-- Time since the last edge and lateness, in units of `psUnit` to the picosecond (R173). -/
  ph : Nat
  late : Nat
  /-- Edges delivered since the last 1 µs close (feature 0xF05). -/
  beats : Nat
  deriving DecidableEq, Repr

/-- Droop guard (chapter 07). -/
structure DrgState where
  regions : Assoc Region
  /-- RATE in force of every region, and at the launch of the step, in 10 MHz (R173). -/
  rate : Nat
  rate0 : Nat
  /-- Tile clocks gated (rest states, VCORE not ON); beats held by a reset or the trip, since when (R221, R262, R311). -/
  gate : Bool
  holdAll : Bool
  holdAllAt : Nat
  /-- Edges of the regions not listed since the last 1 µs close, in tenths, and the instant of that close (feature 0xF05). -/
  edges : Nat
  winAt : Nat
  /-- Grid history: instant in ns and lateness per region, newest first (R176). -/
  hist : List (Nat × Assoc Nat)
  /-- Extensions requested and not answered, own duty requests of the step, in ns (R175, R180). -/
  pendExt : Nat
  ownDuty : Nat
  /-- A late hold arose; no hold is possible after an unanswered cut (R176). -/
  lateHold : Bool
  noHold : Bool
  /-- Duty requests not yet sent, oldest first: the step they were made for, and ns (R180). -/
  duty : List (Nat × Nat)
  /-- Sideband messages handed to the link layer, newest first, 16 bytes each (R177). -/
  sent : List (List Nat)
  deriving DecidableEq, Repr

/-- State of one phase (Table 8-1). -/
inductive PhaseSt where
  | off | standby
  /-- Ramping in since an instant. -/
  | rampIn (since : Nat)
  | regulating
  /-- Ramping out since an instant; the cause of retirement or 0. -/
  | rampOut (since cause : Nat)
  | retired
  deriving DecidableEq, Repr

/-- The PWM pulse of a phase's last turn-on, in units of the 125 ps edge grid since instant zero of the local time base: turn-on, high
time, low time (none: low for the rest of the period, forced-continuous); cut by its overcurrent comparator, by the negative limit; a pulse
was issued since the phase began to pulse (R188, R189, R196, R198, R205, R206). -/
structure Pulse where
  on : Nat
  high : Nat
  low : Option Nat
  lim : Bool
  neg : Bool
  live : Bool
  deriving DecidableEq, Repr

/-- One rail: regulation (chapter 08) and sequencing (chapter 09). -/
structure Rail where
  /-- Setpoint reference, its target, in nV; ramping; ticks before the ramp begins (R194, R195). -/
  ref : Nat
  tgt : Nat
  ramping : Bool
  delay : Nat
  /-- Compensator: c in 2^-16/10^6 of full duty, e[n-1], e[n-2] in nV (R189). -/
  c : Int
  e1 : Int
  e2 : Int
  /-- Samples below the diode-emulation threshold (R196). -/
  deRun : Nat
  /-- SHED_INH ends at this instant (R201). -/
  inhUntil : Nat
  /-- Phase target; governor request; reactive requirement (R197, R199). -/
  target : Nat
  req : Nat
  react : Nat
  /-- 1 µs averages of the last 1 ms that may still be the largest: close instant, value (R200). -/
  imax : List (Nat × Int)
  /-- The last 1 µs average before the cut, in 0.125 A (R200). -/
  icut : Int
  /-- PROBE: sum of the sense value and samples, instant it began (R219). -/
  prSum : Nat
  prN : Nat
  prAt : Nat
  /-- Second case of R219; tracking in progress; the reference reached its target at this instant (R219, R222). -/
  case2 : Bool
  tracks : Bool
  doneAt : Option Nat
  /-- Consecutive samples: at the target and within PG_WIN, lag above 50 mV, above OV (R221, R224). -/
  pgRun : Nat
  lagRun : Nat
  ovRun : Nat
  /-- The interleave of the PWM period in progress: its phases in turn-on order (R188). -/
  lane : List Nat
  deriving DecidableEq, Repr

/-- Phase controller and sequencer (chapters 08, 09). -/
structure PhcState where
  phases : Assoc PhaseSt
  rails : Assoc Rail
  /-- Phases whose overcurrent comparator is tripped (R205); those that the limit acted on in the burst in progress. -/
  ocTrip : List Nat
  ocBurst : List Nat
  /-- The pulses of the phases that pulse (R188, R189). -/
  pulses : Assoc Pulse
  /-- Begin, on the 125 ps grid, of the unbroken run of PWM periods in which a phase was at its limit (R224). -/
  limFrom : Assoc Nat
  /-- Earliest instant at which the VSEL sampler can have read a new value on 4 samples (R193). -/
  vselFrom : Nat
  /-- Burst in progress since; its cause; rearm until (R203). -/
  burst : Option Nat
  burstCause : Nat
  rearm : Nat
  /-- PH_FAULT levels of the inputs (bit n), (R207). -/
  phFault : Nat
  /-- Rounds above PH_HOT, and rounds departing by more than IMBAL_A; last departure (R209). -/
  hotRun : Assoc Nat
  imbRun : Assoc Nat
  imbDep : Assoc Int
  /-- FMAX ceiling in force, in 10 MHz (R195). -/
  fmax : Nat
  /-- Every output held low by VAON collapse, or held in module reset (R21, R310). -/
  allLow : Bool
  inReset : Bool
  /-- Sequencer: instant the next slot or step is due, BUS_EN's rise, good since (R215 to R218). -/
  due : Nat
  busEnAt : Nat
  goodAt : Option Nat
  /-- Under way: 0 none, 1 ramped stop, 2 fault stop, 3 quick stop (R217, R218, R225), 4 and 5 the stop and start of VCORE and VLINK
  around Dormant (R304). -/
  stop : Nat
  /-- A new sequence follows the quick stop in progress (R218). -/
  restart : Bool
  /-- Levels of PWR_FAIL_N and MODULE_RESET_N; THERMTRIP_N driven low (R218, R262, R310). -/
  pwrFailN : Bool
  resetN : Bool
  tripLow : Bool
  deriving DecidableEq, Repr

/-- The choice of R239 at a cut: entry and rate (10 MHz), whether boost is granted (R242), whether the cap is met, CLAIM and LEFTOVER in W (R250), demand and share of
the four domains in W (Table 10-8), and what bound the entry (Table 10-2): the thermal limit, the cap. -/
structure Choice where
  entry : Nat
  rate : Nat
  boost : Bool
  capMet : Bool
  claim : Nat
  leftover : Nat
  dem : List Nat
  share : List Nat
  byTherm : Bool
  byCap : Bool
  deriving DecidableEq, Repr

/-- Limit governor (chapter 10). Powers are in 1/32000 W (0.25 mV × 0.125 A), currents in 0.125 A. -/
structure LgvState where
  /-- Governed current per rail of the last sample, with guard band (R83). -/
  govI : List Int
  /-- Last 80 samples; sums of the last 100 windows of 10 µs, of 1 ms: per rail, newest first (R232). -/
  s20 : List (List Int)
  m10 : List (List Int)
  m1 : List (List Int)
  /-- Sums of governed current in the open 1 µs, 10 µs and 1 ms windows. -/
  g1 : List Int
  a10 : List Int
  a1 : List Int
  /-- Sums of governed power in the open 1 µs and 1 ms windows, over 4 and 4,000 samples; the last closed ones (R231). -/
  p1sum : Int
  p1us : Int
  pmsum : Int
  pm : Int
  /-- Domain powers (compute, memory, link, VAUX): sums of the open 10 µs window, of the step, samples of the step, and the largest sum
  of 40 samples that closed in the step (R239). -/
  d10 : List Int
  dSum : List Int
  dN : Nat
  dMax : Option (List Int)
  /-- Largest 1 µs sum of governed current of the step per rail (R249). -/
  pk : List Int
  /-- Instant until which a condition's lowering holds off; conditions whose LIMIT_UNMET was sent; instant the ceiling reached 0.60 GHz
  (R234, R236). Conditions: 3 × rail + window, 12 for EXC_W, 13 for EXC_US. -/
  holdOff : Assoc Nat
  unmet : List Nat
  lowAt : Option Nat
  /-- A lowering has occurred in the step; the last one came from a power condition (R234, Table 10-2). -/
  lowered : Bool
  byPower : Bool
  /-- Consecutive 1 µs windows above the cap (R234). -/
  excRun : Nat
  /-- Made at the cut, waiting for the swap: the choice, the requested entry, a rise of the protective ceiling (R235, R239). -/
  chosen : Option Choice
  reqNext : Nat
  protNext : Nat
  /-- Rate and voltage code that the last choice put in force, and what bound that choice (R239). -/
  f0 : Option (Nat × Nat)
  capMet : Bool
  byTherm : Bool
  byCap : Bool
  /-- Duty stepping: run_over, run_under, the duty decided, rounds over the cap at DUTY_MIN; a 1 ms close waits (R245, R247). -/
  runOver : Nat
  runUnder : Nat
  duty : Nat
  unattRun : Nat
  msDue : Bool
  /-- avail of each rail at the last boundary: the capacity factors in force (R233). -/
  avail : List Nat
  /-- The advisory cap that the cut froze, in W, and the caps in force: code of Table 10-2 and W (R238). -/
  advCut : Option Nat
  caps : List (Nat × Nat)
  deriving DecidableEq, Repr

/-- Thermal manager (chapter 11). Temperatures are in 0.0625 °C. -/
structure TmgState where
  /-- Valid sensors of the last round, and the region maxima (R265). -/
  prevT : Assoc Int
  prevMax : Assoc Int
  /-- Rise of each region; consecutive rounds in which it exceeded RISE_LIM above RISE_FLOOR (R265). -/
  rise : Assoc Int
  riseRun : Assoc Nat
  /-- The rate condition of the last round and of the round before it; its lowering is due; rounds since it last held (R265, R266). -/
  rateOn : Bool
  rateWas : Bool
  rateDue : Bool
  /-- The ceiling at the round's rate test, from which its lowering counts (Table 11-1). -/
  rateBase : Nat
  clearRun : Nat
  /-- Blind regions (R259); channel 0x364 above 125 °C (R271). -/
  blind : List Nat
  selfHot : Bool
  /-- The ceiling has risen since the last round; the rise decided at the cut (R266). -/
  rose : Bool
  ceilNext : Option Nat
  /-- A round waits for the firmware's work (R255). -/
  fwDue : Bool
  /-- Consecutive judged rounds of deviation and of agreement, last deviation in °C, sensors whose third-sensor fault was sent (R257,
  R258). -/
  devRun : Assoc Nat
  okRun : Assoc Nat
  dev : Assoc Nat
  sensed : List Nat
  /-- Marks that act from the next round: channel, suspect (R257, R258). -/
  maskNext : List (Nat × Bool)
  /-- Thermal limit last written by the firmware, in A; rounds at FLOOR; the fault was sent (R268, R269). -/
  lastLim : Nat
  floorRun : Nat
  floorSent : Bool
  deriving DecidableEq, Repr

/-- Rest states, resets, the watchdog (chapter 13). -/
structure StaState where
  /-- Consecutive windows idle for Doze, for Nap and Retain, for Dormant (R298, R300). -/
  run1 : Nat
  run2 : Nat
  run4 : Nat
  /-- The last window was idle for Doze; a partition has been scrubbed in the window in progress (R298). -/
  idle1 : Bool
  scrubWin : Bool
  /-- State being left, instant of the wake decision, instant since which VCORE holds its window on Retain's exit (R301, R303). -/
  exitOf : Nat
  exitAt : Nat
  goodAt : Option Nat
  /-- Self-refresh: 0 not asked, 1 asked, 2 confirmed; instant of the request; no Dormant until the next wake (R304, R305). -/
  sr : Nat
  srAt : Nat
  srBlock : Bool
  /-- A late wake: the beats of the launched step are held (R306). -/
  late : Bool
  /-- A rest state has ended at once in this command: it was Retain or Dormant; a late wake's beats were held (Table 13-3). -/
  endDeep : Bool
  endLate : Bool
  /-- The safe state has been asked for with this cause, 0 for none (R313). -/
  safeDue : Nat
  deriving DecidableEq, Repr

/-- Predictor engine (chapters 04 and 05). -/
structure PxeState where
  /-- Advisory cap of slot 3, in W, and slot 1's clamped forecasts in 0.0625 °C by region, as last published (Table 4-5). -/
  advice : Option Nat
  fcast : Assoc Int
  /-- Local memory (addresses below 0x20_0000), and the four program memories from 0x20_0000, 64 KiB each (R103). -/
  mem : Mem
  /-- Local memory words (address / 8) stored with inverted check bits, and how many bits (R106, R394). -/
  ecc : Assoc Nat
  /-- Slots with a run in progress, and the instant of the trigger (R98). -/
  run : Assoc Nat
  /-- The region estimates of a 100 µs close are out and slot 1's trigger has not come; the last instant at which slot 3 was triggered, in
  100 µs (R98). -/
  due1 : Bool
  per3 : Nat
  /-- Slot 2's last valid result: allocations in 0.125 W by position (Table 4-5). -/
  alloc : Assoc Nat
  /-- Slot 3 was stopped by USER_HALT and still holds its program (Table 4-14). -/
  halted : Bool
  deriving DecidableEq, Repr

/-- A round of the balance exchange (R278 to R281): parameters in force at its boundary, and what has been collected. -/
structure BalRound where
  /-- Serve step, and the step launched at B. -/
  serve : Nat
  stepB : Nat
  /-- BUDGET in W, TEMP_NS in ns, SLACK_CLAMP in ns, the roster, LATE_STEPS. -/
  budget : Nat
  temp : Nat
  clamp : Nat
  roster : Nat
  late : Nat
  /-- PARAM_CHECK (R276), CLAIM of the cut, slack latched at the strobe with its step. -/
  check : Nat
  claim : Nat
  slack : Int
  slackStep : Nat
  /-- The agent has staged the floor and sent its frame (R279). -/
  begun : Bool
  /-- Own floor in W (R276: every value of a round is the one in force at B). -/
  floor : Nat
  /-- Frames by position, 32 bytes each; the mismatch of PARAM_CHECK was reported. -/
  frames : Assoc (List Nat)
  mismatch : Bool
  /-- Slot 2 has been triggered; its result: 0 none yet, 1 valid, 2 not finite. -/
  fired : Bool
  res : Nat
  /-- The outcome has been decided. -/
  decided : Bool
  /-- Own position, ceiling in W (R285), HOPS_LEFT of the own frame, group ports. -/
  own : Nat
  ceil : Nat
  hops : Nat
  ports : List Nat
  deriving DecidableEq, Repr

/-- One key slot of the sideband engine: generation and key (R290). -/
structure SbKey where
  gen : Nat
  key : Nat
  deriving DecidableEq, Repr

/-- A record sealed and handed to a port: type, origin, context, hops, counter, and the body (Table 12-3). -/
structure SbRecord where
  port : Nat
  typ : Nat
  origin : Nat
  ctx : Nat
  hops : Nat
  counter : Nat
  body : List Nat
  deriving DecidableEq, Repr

/-- Balance agent and sideband engine (chapter 12). -/
structure BalState where
  /-- The round in progress, or the last one until its serve step has launched. -/
  round : Option BalRound
  /-- System time of the boundary that began the last round, and of the last boundary (R278). -/
  lastB : Option Nat
  prevB : Option Nat
  /-- BAL_VIEW_INCOMPLETE has been sent for the present run (R281). -/
  viewSent : Bool
  /-- This member's outcome in the preceding round was 1 (Table 12-1, case 4). -/
  lastOk : Bool
  /-- The module takes part in no round and has staged so (R275); LOCAL_BOUNDARIES or a seek asks for the floor (R277, R282). -/
  outStaged : Bool
  floorDue : Bool
  /-- Balance frames accepted and not yet collected, oldest first. -/
  queue : List (List Nat)
  /-- Current and previous key of the two contexts; the instant at which a previous key expires. -/
  cur : Assoc SbKey
  prev : Assoc SbKey
  prevUntil : Assoc Nat
  /-- Last counter accepted, by 4096 × context + 16 × generation + port (R291). -/
  accepted : Assoc Nat
  /-- ORIGIN and SERVE_STEP of the frames relayed or sent (R291). -/
  seen : List (Nat × Nat)
  /-- Records handed to the ports, newest first, the last 64. -/
  out : List SbRecord
  /-- Instants of the tag failures of the last second, by port; ports whose counter end was reported. -/
  fails : Assoc (List Nat)
  ended : List Nat
  deriving DecidableEq, Repr

/-- One region of a core's memory protection unit (R324): base, size, permissions, and its owner: a component, or none for the kernel. -/
structure MpuRegion where
  base : Nat
  size : Nat
  rd : Bool
  wr : Bool
  ex : Bool
  owner : Option Nat
  deriving DecidableEq, Repr

/-- Management firmware (chapter 14). -/
structure FwState where
  /-- The 16 regions of each core's memory protection unit, as its last start loaded them (R324). -/
  mpu : Assoc (List MpuRegion)
  /-- Instant of each component's last check-in. -/
  checkIn : Assoc Nat
  /-- Restarts within the last 10 s: instant, and component or 8 + core (R329). -/
  restarts : List (Nat × Nat)
  /-- The restart limit has been reached and waits for its action. -/
  limitDue : Bool
  /-- Last host-alive write or attachment; entry to ABSENT; its firmware actions still wait (R335, R336, Table 14-7). -/
  aliveAt : Nat
  absentAt : Nat
  absentOwed : Bool
  /-- Last service of the watchdog, while it runs (R328). -/
  wdtAt : Option Nat
  /-- Log ring, 64 KiB; SEQ of the next entry; the next entry carries GENERATION; instants of the entries of the last 1 ms by component. -/
  log : Mem
  logNext : Nat
  logFirst : Bool
  logAt : Assoc (List Nat)
  /-- SEQ of the next entry to mirror; the last mirror write: host address and bytes (R342). -/
  mirrorNext : Nat
  mirrorOut : Option (Nat × List Nat)
  /-- GENERATION has been set by a cold start or module reset, and the start that follows leaves it (R337). -/
  genSet : Bool
  deriving DecidableEq, Repr

/-- A packet that has been dispatched and whose completion is not yet written (R355). -/
structure OutPkt where
  id : Nat
  ring : Nat
  seq : Nat
  irq : Bool
  op : Nat
  tag : Nat
  /-- Named step (R351). -/
  step : Option Nat
  /-- 0 waits to write its values (R358), 1 its values are pending, 2 its block is being fetched, 3 the block has arrived, 4 done, 5 waits
  for something else (a strobe, a flush, a check, an activation). -/
  st : Nat
  /-- Values to write (field key and value), the deferred action, and the field keys its items name. -/
  writes : List (Nat × Nat)
  act : Option ActKind
  items : List Nat
  /-- Items in effect, and the step at whose swap they took effect. -/
  taken : List Nat
  doneAt : Option Nat
  status : Nat
  applied : Nat
  detail : Nat
  /-- Packet bytes from 16 on, and the block fetched. -/
  body : List Nat
  data : List Nat
  deriving DecidableEq, Repr

/-- A transfer of one target (R365): image so far, byte ranges received, image length once the header is accepted, and whether the
header was refused. -/
structure Xfer where
  buf : Mem
  got : List (Nat × Nat)
  len : Option Nat
  refused : Bool
  deriving DecidableEq, Repr

/-- Command rings, packets and mailboxes (chapter 15). -/
structure CmdState where
  /-- The command window, 512 KiB (R346), and its words stored with inverted check bits. -/
  win : Mem
  ecc : Assoc Nat
  /-- Tail of each ring as last rung (R336, R348); agent of ring 7's last doorbell. -/
  rung : Assoc Nat
  bell : Nat
  /-- Outstanding packets, in dispatch order, and the next identity. -/
  pkts : List OutPkt
  nextId : Nat
  /-- Transfers by target: 0 the plan, 1 to 4 the predictor slots, 16 + kind update images (R365). -/
  xfers : Assoc Xfer
  /-- Last system ring served; partition context in service, packets left to it, its last ring (R333, R334). -/
  rr : Nat
  wctx : Nat
  wleft : Nat
  wring : Nat
  /-- Job identity and time master's port of the last JOB_ATTACH. -/
  jobId : Nat
  jobPort : Nat
  /-- Interrupts raised so far by vector; 32 for the main core's mailbox interrupt. -/
  vecs : Assoc Nat
  deriving DecidableEq, Repr

/-- One granule of the recorder buffer (R377, R378): its place in the ring of 64, the first sequence number in it and the next after it,
the bytes filled, whether a flush has dealt with it. -/
structure Gran where
  slot : Nat
  first : Nat
  next : Nat
  fill : Nat
  flushed : Bool
  deriving DecidableEq, Repr

/-- The seal record of a granule of the log partition (R412): generation, seal counter, STAGED. The tag is not held: whether a granule
opens is an input. -/
structure Seal where
  gen : Nat
  ctr : Nat
  staged : Bool
  deriving DecidableEq, Repr

/-- A snapshot being taken (R381): watch, trigger's sequence number, instant of its acceptance, step at the first read, values so far, and
whether a boundary swap fell between two reads. -/
structure Snap where
  w : Nat
  seq : Nat
  at0 : Nat
  step : Nat
  vals : List Nat
  split : Bool
  deriving DecidableEq, Repr

/-- Event recorder, its flush engine, and the log partition (R373 to R385, R412 to R415). -/
structure EvrState where
  /-- The buffer, 256 KiB; its words stored with inverted check bits; its granules, oldest first. -/
  buf : Mem
  ecc : Assoc Nat
  grans : List Gran
  /-- The newest granule takes records; the first record after the last start has been written. -/
  opened : Bool
  started : Bool
  /-- Operating hours at the last EPOCH record, in 1/1024 s. -/
  lastEpoch : Nat
  /-- Records overwritten before a flush: first sequence number and how many. -/
  lost : Option (Nat × Nat)
  /-- Flush in progress: its trigger (Table 16-4, 0 none), buffer slots to write, LOSS records of its head granule (first, count,
  reason); a flush to follow. -/
  flush : Nat
  job : List Nat
  head : List (Nat × Nat × Nat)
  again : Nat
  /-- Instant of the last fault flush. -/
  faultAt : Option Nat
  snaps : List Snap
  snapAt : Assoc Nat
  /-- In flash: the reserved bound, saved hours and cycles (R384). -/
  bound : Nat
  savedHours : Nat
  savedCycles : Nat
  /-- The log partition as it opens, 4,096 granules of 4 KiB; the seal table; the seal counter's bound (R412). -/
  log : Mem
  seals : Assoc Seal
  sealBound : Nat
  /-- Salts of the current and the previous log key. -/
  saltCur : Nat
  saltPrev : Nat
  /-- Migration: instant of the last rewrite, granules rewritten under this rotation (R415). -/
  migAt : Nat
  migDone : Nat
  deriving DecidableEq, Repr

/-- Fault collector and HB (R386 to R393). -/
structure FlcState where
  /-- Count and window start of each source; expected MSG_SEQ of each block. -/
  count : Assoc Nat
  wstart : Assoc Nat
  expect : Assoc Nat
  /-- A word of the table is stored with inverted check bits. -/
  bad : Bool
  /-- FAULT_OUT: the last accepted message and its SEVERE flag (R450). -/
  out : Option (Nat × Bool)
  /-- Last health report; last instant HB could toggle. -/
  kickAt : Option Nat
  hbAt : Nat
  deriving DecidableEq, Repr

/-- Key exchange and PUF (R409, R410): an ephemeral pair is being drawn; the PUF waits to be read since a cold start. -/
structure SecState where
  kxDraw : Bool
  pufDue : Bool
  deriving DecidableEq, Repr

/-- One image in flash: its bytes and its length. -/
structure Image where
  bytes : Mem
  len : Nat
  deriving DecidableEq, Repr

/-- Firmware update (R419 to R438). -/
structure UpdState where
  /-- Images in the two banks, by 3 × bank + kind (R420). -/
  slots : Assoc Image
  /-- The image buffer, and the IMAGE_ID that VERIFIED names (R423). -/
  buf : Mem
  verified : Option Nat
  /-- Staged kinds; the kinds and packets that wait for a full check, in order: the image buffer serves one at a time (R423). -/
  staged : List Nat
  check : List (Nat × Nat)
  /-- TRIAL of the bank record; kinds activated together; the bank before the hand-over (R420, R434). -/
  trial : Bool
  acted : List Nat
  oldBank : Nat
  /-- T as requested, and the instant of a T of zero in ticks, 0 for none; the decision for the present slot is made; line ACT_DEFER[0] (R426, R428). -/
  reqT : Nat
  actTick : Nat
  decided : Bool
  deferOut : Bool
  /-- Last instants at which an emergency held, and at which the self-check did not (R427, R433). -/
  emergAt : Option Nat
  selfBad : Nat
  /-- Hand-over: begin of the gap, identity of the old image, the caravan record in block SRAM (R430, R431). -/
  gapAt : Nat
  oldId : Nat
  caravan : List Nat
  /-- Start of the trial timer (R433); a reset asked for in the gap: kind and
  agent (R438). -/
  trialAt : Nat
  resetDue : Option (Nat × Nat)
  deriving DecidableEq, Repr

/-- PMBus interface (R456 to R460). -/
structure PmbState where
  /-- Page of each SMBus master; offset of the next bus access. -/
  page : Assoc Nat
  addr : Nat
  /-- Latched status bytes: VOUT of a rail by rail, IOUT by 8 + page, INPUT 16, TEMPERATURE 17, CML 18. -/
  lat : Assoc Nat
  /-- Every rail was OFF after the last command: the test override falls when one leaves OFF (R463). -/
  dark : Bool
  /-- Reply table: words by 8 × code + page; instant of its refresh. -/
  table : Assoc Nat
  tableAt : Nat
  /-- MAILBOX, SAFE and HB_STOPPED as they last were, bits [2:0]; ALERT_N asserted by PMBus. -/
  live : Nat
  alert : Bool
  /-- Bytes of the last answer to a read. -/
  reply : List Nat
  deriving DecidableEq, Repr

/-- The state of the block. -/
structure State where
  /-- Commands waiting, first in first out. -/
  pending : List Instr
  /-- Free values drawn so far (the model's own, log entry 1). -/
  free : Nat
  time : TimeState
  /-- Every register field that differs from its reset value: the value in force. -/
  regs : Assoc Nat
  /-- RW and RWB fields whose last written value is not the one in force (R8). -/
  wrote : Assoc Nat
  /-- RW values that have landed and wait to be applied (R36). -/
  landing : Assoc Nat
  /-- Ticks since the oldest value that waits in `landing` landed (R36). -/
  landAge : Nat
  /-- Pending and frozen RWB values (R28, R29), and values held by the boundary gate (R357). -/
  pend : Assoc PendVal
  frozen : Assoc PendVal
  held : Assoc PendVal
  /-- Deferred actions. -/
  acts : List Act
  bus : BusState
  /-- Messages and records not yet accepted (R18, R377, R386). -/
  inbox : List Arrival
  /-- MSG_SEQ count of each source block (R387). -/
  msgSeq : Assoc Nat
  /-- Messages and records lost at a full input and not yet reported (R377, R397). -/
  lostMsg : Nat
  lostRec : Nat
  sns : SnsState
  est : EstState
  psq : PsqState
  drg : DrgState
  phc : PhcState
  lgv : LgvState
  tmg : TmgState
  sta : StaState
  pxe : PxeState
  bal : BalState
  fw : FwState
  cmd : CmdState
  evr : EvrState
  flc : FlcState
  sec : SecState
  upd : UpdState
  pmb : PmbState
  deriving DecidableEq, Repr

/-- No command faults: every event of the spec leaves a next state. The type names the one thing that would be a stop. -/
inductive Fault where
  /-- Raised by nothing; kept so that the outcome type is closed (safe). -/
  | none
  deriving DecidableEq, Repr

/-- Why a command has no effect at all. -/
inductive Refusal where
  /-- The command is not modelled: raised by a refused arm of exec only (safe). -/
  | notModelled (mnemonic : String)
  /-- An operand is outside what the row's event can carry, such as ring 99: no such event exists (safe). -/
  | illFormed
  deriving DecidableEq, Repr

/-- A region whose beats run unstretched. -/
def Region.fresh : Region := ⟨0, 0, 0, 16, false, false, 0, false, 0, 0, 0⟩

/-- A rail that is off. -/
def Rail.off : Rail := ⟨0, 0, false, 0, 0, 0, 0, 0, 0, 0, 0, 0, [], 0, 0, 0, 0, false, false, none, 0, 0, 0, []⟩

def TimeState.reset : TimeState := ⟨0, true, 0, 0, none, none, 0, false, false, 0⟩
def BusState.reset : BusState := ⟨0, [], [], [], []⟩
def SnsState.reset : SnsState :=
  ⟨[], [], [], 0, [], 0, 0, 0, 0, [], [], [], 0, 0, [], [], 0, 0, 0, [], [], [], [], 0, false, 0, false, 0, [], [], [], [], [], false, 0,
   false, [], [], [], [], false, [], [], [], []⟩
def EstState.reset : EstState :=
  ⟨[], [], [], [], false, false, false, none, false, false, false, [], [], [], none, [], [], [], [], false, 0, none, [], 0, 0, none, false,
   0, 0, 0, 0, 0, 0, 0, [], [], 0, 0, 0, 0, 0, 0, 0, 0, 0, 0, 0, 0, 0, 0, ⟨[], [], 0, 0, false, 0⟩, none⟩
def PsqState.reset : PsqState :=
  ⟨[], [], false, none, [], none, [], 0, [], false, false, false, false, false, 0, 0, [], none, 0, none, false⟩
def DrgState.reset : DrgState := ⟨[], 80, 80, true, false, 0, 0, 0, [], 0, 0, false, false, [], []⟩
def PhcState.reset : PhcState :=
  ⟨[], [], [], [], [], [], 75, none, 0, 0, 0, [], [], [], 80, false, false, 0, 0, none, 0, false, false, true, false⟩
def LgvState.reset : LgvState :=
  ⟨[0, 0, 0, 0], [], [], [], [0, 0, 0, 0], [0, 0, 0, 0], [0, 0, 0, 0], 0, 0, 0, 0, [0, 0, 0, 0], [0, 0, 0, 0], 0, none, [0, 0, 0, 0],
   [], [], none, false, false, 0, none, 0, 0, none, true, false, false, 0, 0, 16, 0, false, [64, 16, 8, 4],
   none, [(6, 1600)]⟩
def TmgState.reset : TmgState :=
  ⟨[], [], [], [], false, false, false, 150, 10, [], false, false, none, false, [], [], [], [], [], 1900, 0, false⟩
def StaState.reset : StaState := ⟨0, 0, 0, false, false, 0, 0, none, 0, 0, false, false, false, false, 0⟩
def PxeState.reset : PxeState := ⟨none, [], [], [], [], false, 0, [], false⟩
def BalState.reset : BalState := ⟨none, none, none, false, false, false, false, [], [], [], [], [], [], [], [], []⟩
def FwState.reset : FwState := ⟨[], [], [], false, 0, 0, false, none, [], 0, true, [], 0, none, true⟩
def CmdState.reset : CmdState := ⟨[], [], [], 0, [], 1, [], 7, 16, 0, 0, 0, 0, []⟩
def EvrState.reset : EvrState :=
  ⟨[], [], [], false, false, 0, none, 0, [], [], 0, none, [], [], 0, 0, 0, [], [], 0, 0, 0, 0, 0⟩
def FlcState.reset : FlcState := ⟨[], [], [], false, none, none, 0⟩
def SecState.reset : SecState := ⟨false, true⟩
def UpdState.reset : UpdState :=
  ⟨[], [], none, [], [], false, [], 0, 0, 0, false, false, none, 0, 0, 0, [], 0, none⟩
def PmbState.reset : PmbState := ⟨[], 0, [], true, [], 0, 4, false, []⟩

/-- The machine right after reset: registers at their reset values, nothing pending, rails off. -/
def State.reset : State :=
  ⟨[], 0, TimeState.reset, [], [], [], 0, [], [], [], [], BusState.reset, [], [], 0, 0, SnsState.reset, EstState.reset, PsqState.reset,
   DrgState.reset, PhcState.reset, LgvState.reset, TmgState.reset, StaState.reset, PxeState.reset,
   BalState.reset, FwState.reset, CmdState.reset, EvrState.reset, FlcState.reset,
   SecState.reset, UpdState.reset, PmbState.reset⟩

end Sys2Proof.Machine
end

