-- ==== Sys2Proof/Machine/Ops.lean ====
section
/-! DEFINITION. The named operations on the state that every unit uses: register fields, free values, fault messages and records (R18,
R386, R387), and the figures of Tables 0-1, 0-2 and 2-2. -/

namespace Sys2Proof.Machine

/-! ### Register fields -/

/-- The value in force (or recorded) of a field. -/
def inR (o lo hi : Nat) : Bool := decide (lo ≤ o) && decide (o < hi)

def getF (s : State) (f : Fld) : Nat := match aFind s.regs f.key with | some v => v | none => resetAt f.key

/-- The same, as a flag. -/
def getB (s : State) (f : Fld) : Bool := decide (getF s f ≠ 0)

/-- The same, signed. -/
def getS (s : State) (f : Fld) : Int := sx f.w (getF s f)

/-- The same, applied as the nearer limit of a range. -/
def getC (s : State) (f : Fld) (lo hi : Nat) : Nat := clampN lo hi (getF s f)

/-- Set a field (hardware): the value in force changes, and a read returns it. -/
def setF (s : State) (f : Fld) (v : Nat) : State :=
  { s with regs := aPut (resetAt f.key) s.regs f.key (v % 2 ^ f.w), wrote := aDel s.wrote f.key }

/-- Set a one-bit field. -/
def setB (s : State) (f : Fld) (b : Bool) : State := setF s f (b2n b)

/-- Set a signed field. -/
def setS (s : State) (f : Fld) (i : Int) : State := setF s f (ux f.w i)

/-- Set a field, saturating at its largest value. -/
def setSat (s : State) (f : Fld) (v : Nat) : State := setF s f (min v (2 ^ f.w - 1))

/-- Set a signed field, saturating at its range. -/
def setSatS (s : State) (f : Fld) (i : Int) : State := setS s f (clampI (-(2 ^ (f.w - 1))) (2 ^ (f.w - 1) - 1) i)

/-- Count up, saturating. -/
def incF (s : State) (f : Fld) : State := setSat s f (getF s f + 1)

/-- A 64-bit or 48-bit value held in a pair of words. -/
def getW (s : State) (lo hi : Fld) : Nat := getF s lo + 2 ^ 32 * getF s hi

/-- Set a pair of words. -/
def setW (s : State) (lo hi : Fld) (v : Nat) : State := setF (setF s lo v) hi (v / 2 ^ 32)

/-- Draw the next free value (log entry 1). -/
def freeVal (s : State) : Nat := Config.freeValue s.free
def freeNext (s : State) : State := { s with free := s.free + 1 }

/-! ### Figures -/

/-- First phase, active phases, and phases with spares, of a rail (R43, Table 2-2). -/
def railFirst (k : Nat) : Nat := nth [0, 68, 85, 94] k
def railActive (k : Nat) : Nat := nth [64, 16, 8, 4] k
def railPhases (k : Nat) : Nat := nth [68, 17, 9, 4] k
/-- The rail of a phase. -/
def railOf (n : Nat) : Nat := if n < 68 then 0 else if n < 85 then 1 else if n < 94 then 2 else 3
/-- Continuous and peak phase rating in A, sustained current limit in A (Table 0-2). -/
def ratingA (k : Nat) : Nat := nth [50, 40, 40, 20] k
def peakA (k : Nat) : Nat := nth [75, 40, 40, 20] k
def sustainedA (k : Nat) : Nat := nth [1900, 260, 160, 40] k
/-- Nominal voltage, and range, in 1.25 mV (Table 0-2). -/
def vnom (k : Nat) : Nat := nth [560, 720, 680, 960] k
def vlow (k : Nat) : Nat := nth [440, 640, 600, 960] k
def vhigh (k : Nat) : Nat := nth [680, 800, 760, 960] k
/-- The four rails. -/
def rails4 : List Nat := [0, 1, 2, 3]
/-- Regions. -/
def regions64 : List Nat := List.range 64

/-- Microseconds and milliseconds in ticks of the local time base (R22). -/
def us (n : Nat) : Nat := 100 * n
def ms (n : Nat) : Nat := 100000 * n

/-- The record of a rail. -/
def railRec (s : State) (k : Nat) : Rail := aGet Rail.off s.phc.rails k
def setRail (s : State) (k : Nat) (x : Rail) : State := { s with phc := { s.phc with rails := aPut Rail.off s.phc.rails k x } }

/-- Quotient rounded down, towards minus infinity. -/
def fdiv (a : Int) (b : Nat) : Int := if b = 0 then 0 else a / (b : Int)
/-- Quotient rounded up. -/
def cdiv (a b : Nat) : Nat := if b = 0 then 0 else (a + b - 1) / b

/-- A word stored in a checked memory: while injection is armed for it, its check bits are inverted (R394). -/
def injectAt (checker word : Nat) (m : Assoc Nat) (s : State) : State × Assoc Nat :=
  let c := getF s FLC.INJECT.CHECKER
  if !getB s FLC.INJECT.ARM ∨ (if 8 < c then 0 else c) ≠ checker then (s, aDel m word)
  else
    let b := min 2 (getF s FLC.INJECT.BITS)
    (setF (setB (setB s FLC.INJECT.ARM false) FLC.INJECT_STATUS.FIRED true) FLC.INJECT_STATUS.LAST_CHECKER checker, aPut 0 m word b)

/-- Words of block SRAM are stored, `n` of them from word `w` on: their check bits are right again, but for an armed injection (R321,
R394). The command window comes first, then the log ring. -/
def sramStore (w n : Nat) (s : State) : State :=
  let r := injectAt 6 w (s.cmd.ecc.filter (fun e => decide (e.1 < w) || decide (w + n ≤ e.1))) s
  { r.1 with cmd := { r.1.cmd with ecc := r.2 } }

/-- The worst check among words of block SRAM: 0 right, 1 correctable, 2 not. -/
def sramCheck (s : State) (w n : Nat) : Nat :=
  (s.cmd.ecc.filter (fun e => decide (w ≤ e.1) && decide (e.1 < w + n))).foldl (fun m e => max m e.2) 0

/-- First word of a log entry in block SRAM. -/
def logWord (n : Nat) : Nat := 131072 + 8 * (n % 2048)

/-! ### Modes -/

/-- Confidential mode (R404), a scrub (R402), the safe state (R313). -/
def confOn (s : State) : Bool := getB s SEC.STATUS.CONF
def scrubOn (s : State) : Bool := getB s SEC.STATUS.SCRUB_ANY
def safeOn (s : State) : Bool := getB s STA.SAFE_STATUS.SAFE
/-- Job attached, local boundaries, system time valid (R24, R25, R32). -/
def jobOn (s : State) : Bool := getB s GLB.BOUNDARY_STATUS.JOB_ATTACHED
def localOn (s : State) : Bool := getB s GLB.BOUNDARY_STATUS.LOCAL_BOUNDARIES
def sysOk (s : State) : Bool := getB s GLB.BOUNDARY_STATUS.SYSTIME_VALID

/-! ### Messages and records -/

/-- The order of R18: earlier instants first, then plane, group, messages before records, code. -/
def Arrival.before (a b : Arrival) : Bool :=
  if a.ticks ≠ b.ticks then decide (a.ticks < b.ticks)
  else if a.plane ≠ b.plane then decide (a.plane < b.plane)
  else if a.grp ≠ b.grp then decide (a.grp < b.grp)
  else if a.isRec ≠ b.isRec then !a.isRec
  else if a.code ≠ b.code then decide (a.code < b.code)
  else decide (a.body < b.body)

/-- Put an arrival in its place; among equals the later one goes last. -/
def arrive (a : Arrival) : List Arrival → List Arrival
  | [] => [a]
  | b :: r => if a.before b then a :: b :: r else b :: arrive a r

/-- Waiting messages, and waiting records. -/
def waitingMsgs (s : State) : Nat := (s.inbox.filter (fun a => !a.isRec)).length
def waitingRecs (s : State) : Nat := (s.inbox.filter (fun a => a.isRec)).length

/-- The plane of a unit's group where one plane has it all (Table 1-1, R468): LGV, TMG and PSQ say theirs per message. -/
def planeOf (grp : Nat) : Nat :=
  match grp with | 0 => 0 | 1 => 1 | 2 => 1 | 3 => 1 | 4 => 0 | 5 => 0 | 6 => 0 | 7 => 0 | 8 => 0 | _ => 2

/-- Send a fault message in a named plane: it takes its block's next MSG_SEQ and waits at the collector; at most 256 wait, a message
beyond them is lost and QUEUE_OVF is set (R386, R387, R397). -/
def sendFaultP (plane kind src info : Nat) (s : State) : State :=
  let g := src / 256
  let q := aGet 0 s.msgSeq g
  let s1 := { s with msgSeq := aPut 0 s.msgSeq g ((q + 1) % 1024) }
  if waitingMsgs s ≥ 256 then setB { s1 with lostMsg := s.lostMsg + 1 } FLC.STATUS.QUEUE_OVF true
  else { s1 with inbox := arrive ⟨s.time.ticks, plane, g, false, src, kind, info % 2 ^ 32, q, []⟩ s.inbox }

/-- Send a fault message in its unit's plane. -/
def sendFault (kind src info : Nat) (s : State) : State := sendFaultP (planeOf (src / 256)) kind src info s

/-- Put a record before the recorder: at most 64 wait; one beyond them is dropped and counted (R377). -/
def postRec (plane grp code typ : Nat) (body : List Nat) (s : State) : State :=
  if waitingRecs s ≥ 64 then incF { s with lostRec := s.lostRec + 1 } EVR.COUNTS.DROPPED
  else { s with inbox := arrive ⟨s.time.ticks, plane, grp, true, code, typ, 0, 0, body⟩ s.inbox }

/-- Zero bytes up to a length. -/
def padTo (n : Nat) (l : List Nat) : List Nat := l ++ List.replicate (n - l.length) 0

/-- A payload rounded up to 8 bytes. -/
def pad8 (l : List Nat) : List Nat := padTo (8 * cdiv l.length 8) l

/-- Post an event record: CODE, the step in force, and the payload (Table 16-2, TYPE 4). -/
def eventP (plane code : Nat) (payload : List Nat) (s : State) : State :=
  postRec plane (code / 256) code 4 (toLE 2 code ++ toLE 6 s.time.step ++ pad8 payload) s

/-- Post an event record in its unit's plane. -/
def event (code : Nat) (payload : List Nat) (s : State) : State := eventP (planeOf (code / 256)) code payload s

/-- Replace an element of a list of numbers, extending with zeros. -/
def listSet (l : List Nat) (i v : Nat) : List Nat := (padTo (i + 1) l).set i v

/-- Insert a number into a rising list without repeats. -/
def insN (n : Nat) : List Nat → List Nat
  | [] => [n]
  | x :: r => if n < x then n :: x :: r else if n = x then x :: r else x :: insN n r

/-- Remove a number from a list. -/
def remN (n : Nat) (l : List Nat) : List Nat := l.filter (fun x => decide (x ≠ n))

/-- What a meaning answers. -/
abbrev Out := Host.Outcome State Fault Refusal

/-- A command that carries what the row's event can carry runs its effect; any other names no event. -/
def run (ok : Bool) (s : State) : Host.Outcome State Fault Refusal := if ok then .next s else .refused .illFormed

end Sys2Proof.Machine
end

