-- ==== Sys2Proof/Machine/Pend.lean ====
section
/-! DEFINITION. Values that wait: landing RW values (R36), pending, frozen and held RWB values with their companions and the boundary
gate (R27 to R31, R357), and the deferred actions. -/

namespace Sys2Proof.Machine

/-! ### Landing (RW) -/

/-- An RW value lands; a read returns it at once (R8, R36). -/
def landPut (f : Fld) (v : Nat) (s : State) : State :=
  { s with landing := aIns s.landing f.key (v % 2 ^ f.w), wrote := aIns s.wrote f.key (v % 2 ^ f.w) }

/-- The width of the field at a key. -/
def keyWidth (k : Nat) : Nat := match fieldOf k with | some f => f.w | none => 32

/-- Put a value in force by key; a read returns it unless something written later waits. -/
def forceKey (k v : Nat) (s : State) : State :=
  { s with regs := aPut (resetAt k) s.regs k v }

/-- The last written value of a field is the one in force, unless one still waits. -/
def settleKey (k : Nat) (s : State) : State :=
  if (aFind s.pend k).isSome ∨ (aFind s.held k).isSome ∨ (aFind s.landing k).isSome then s else { s with wrote := aDel s.wrote k }

/-- RW_WRITE_APPLY: every landed value is applied (R36). -/
def applyLanding (s : State) : State :=
  s.landing.foldl (fun t e => settleKey e.1 (forceKey e.1 e.2 t)) { s with landing := [], landAge := 0 }

/-- Time passes for the landed values: the core that takes them is self-timed, so it counts without the reference too, and 40 ns after
the oldest of them landed all of them are in force (R36, R19). -/
def landAdvance (dt : Nat) (s : State) : State :=
  if s.landing.isEmpty then { s with landAge := 0 }
  else if 4 ≤ s.landAge + dt then applyLanding s
  else { s with landAge := s.landAge + dt }

/-- What a bus read of an RW or RWB field returns: the value last written (R8). -/
def readBack (s : State) (k : Nat) : Nat :=
  match aFind s.wrote k with
  | some v => v
  | none => match aFind s.regs k with | some v => v | none => resetAt k

/-! ### Pending (RWB) -/

/-- An RWB write: it replaces an earlier pending value (R29); agent 0x40's are held while the gate is open (R357). -/
def pendPut (agent pkt : Nat) (f : Fld) (v : Nat) (s : State) : State :=
  let p : PendVal := ⟨v % 2 ^ f.w, pkt, none, false⟩
  let s1 := { s with wrote := aIns s.wrote f.key p.val }
  if getB s CMD.GATE_CTRL.OPEN && agent == 0x40 then { s1 with held := aIns s1.held f.key p }
  else { s1 with pend := aIns s1.pend f.key p }

/-- The hardware or a command makes a value pending for the next boundary (R29). -/
def pendHw (pkt : Nat) (f : Fld) (v : Nat) (s : State) : State :=
  { s with wrote := aIns s.wrote f.key (v % 2 ^ f.w), pend := aIns s.pend f.key ⟨v % 2 ^ f.w, pkt, none, false⟩ }

/-- The companion of a register: low word, high word, ARMED (R30). -/
structure Companion where
  lo : Fld
  hi : Fld
  armed : Fld
  deriving DecidableEq, Repr

/-- The companion of the field at a key, where its register has one (Tables 1-6, 10-8, 12-6). -/
def companionOf (k : Nat) : Option Companion :=
  let o := keyOff k
  if o = keyOff GLB.PROBE.VALUE.key then some ⟨GLB.PROBE_AT_STEP_LO.STEP, GLB.PROBE_AT_STEP_HI.STEP, GLB.PROBE_AT_STEP_HI.ARMED⟩
  else if o = keyOff LGV.CAP.CAP.key then some ⟨LGV.CAP_AT_STEP_LO.STEP, LGV.CAP_AT_STEP_HI.STEP, LGV.CAP_AT_STEP_HI.ARMED⟩
  else if o = keyOff BAL.GRANT.GRANT.key then
    some ⟨BAL.GRANT_AT_STEP_LO.STEP, BAL.GRANT_AT_STEP_HI.STEP, BAL.GRANT_AT_STEP_HI.ARMED⟩
  else if keyOff BAL.BUDGET.BUDGET.key ≤ o ∧ o ≤ keyOff BAL.ROSTER_HI.ROSTER.key then
    some ⟨BAL.PARAM_AT_STEP_LO.STEP, BAL.PARAM_AT_STEP_HI.STEP, BAL.PARAM_AT_STEP_HI.ARMED⟩
  else none

/-- The step that an armed companion names. -/
def namedStep (s : State) (c : Companion) : Option Nat := if getB s c.armed then some (getF s c.lo + 2 ^ 32 * getF s c.hi) else none

/-- The step that a waiting value names: its gate's, else its armed companion's. -/
def valueStep (s : State) (k : Nat) (p : PendVal) : Option Nat :=
  match p.gate with
  | some g => g
  | none => (companionOf k).bind (namedStep s)

/-- Drop pending values (a discarded set): a read returns the value in force again. -/
def dropPend (keys : List Nat) (s : State) : State :=
  keys.foldl (fun t k => settleKey k { t with pend := aDel t.pend k }) s

/-- Freeze every pending value, provisionally where a step is named (R28, R30). -/
def freezeAll (s : State) : State :=
  { s with
    frozen := s.pend.foldl (fun m e => aIns m e.1 { e.2 with prov := (valueStep s e.1 e.2).isSome }) s.frozen
    pend := []
    acts := s.acts.map (fun a => { a with frozen := true }) }

/-- The value a field has, or will have after the coming swap (work at the cut, R30). -/
def nextF (s : State) (f : Fld) : Nat := match aFind s.frozen f.key with | some p => p.val | none => getF s f

/-- The state with the frozen values in force: what the choice at the cut reads (R30, R239). -/
def preview (s : State) : State := s.frozen.foldl (fun t e => forceKey e.1 e.2.val t) s

/-- Does a frozen value take effect in this swap (R30)? `launch` is none at a local boundary. -/
def takes (s : State) (launch : Option Nat) (k : Nat) (p : PendVal) : Bool :=
  if !p.prov then true
  else
    match launch, valueStep s k p with
    | none, some _ => false
    | _, none => true
    | some n, some m => decide (m ≤ n)

/-- A held-back value is pending again, unless a later write already is (R29). -/
def repend (k : Nat) (p : PendVal) (s : State) : State :=
  if (aFind s.pend k).isSome then s else { s with pend := aIns s.pend k { p with prov := false } }

/-- One value takes effect: ARMED is cleared, and STEP_PASSED set for a step already passed (R30). -/
def takeOne (now : State) (launch : Option Nat) (k : Nat) (p : PendVal) (s : State) : State :=
  let s1 := settleKey k (forceKey k p.val s)
  match launch, (if p.prov then valueStep now k p else none) with
  | some n, some m =>
    let s2 := match p.gate, companionOf k with | none, some c => setB s1 c.armed false | _, _ => s1
    if m < n then setB s2 GLB.BOUNDARY_STATUS.STEP_PASSED true else s2
  | _, _ => s1

/-- The frozen values of a swap: those that take effect, and the rest pending again (R29 to R31). -/
def swapValues (launch : Option Nat) (s : State) : State :=
  let s0 := { s with frozen := [] }
  s.frozen.foldl (fun t e => if takes s launch e.1 e.2 then takeOne s launch e.1 e.2 t else repend e.1 e.2 t) s0

/-- The keys, and the packets, whose values take effect in a swap. -/
def takenKeys (launch : Option Nat) (s : State) : List Nat := (s.frozen.filter (fun e => takes s launch e.1 e.2)).map (fun e => e.1)
def takenPkts (launch : Option Nat) (s : State) : List Nat :=
  ((s.frozen.filter (fun e => takes s launch e.1 e.2 && e.2.pkt != 0)).map (fun e => e.2.pkt)).eraseDups

/-- Add a deferred action. -/
def addAct (k : ActKind) (step : Option Nat) (pkt : Nat) (s : State) : State := { s with acts := s.acts ++ [⟨k, false, step, pkt⟩] }

/-- Add an action that acts at the very next swap, even where its cut has been made (R113, R143, R144). -/
def addActNext (k : ActKind) (s : State) : State := { s with acts := s.acts ++ [⟨k, true, none, 0⟩] }

/-- The actions of this swap: frozen ones whose named step has come. -/
def actTakes (launch : Option Nat) (a : Act) : Bool :=
  a.frozen && (match a.step, launch with | none, _ => true | some _, none => false | some m, some n => decide (m ≤ n))

end Sys2Proof.Machine
end

