-- ==== Sys2Proof/Machine/Firmware.lean ====
section
/-! DEFINITION. Management firmware (chapter 14): components and cores, their failures and restarts, the watchdog, the host-alive timer
and the host's absence, and the log ring with its mirror. -/

namespace Sys2Proof.Machine

def setFw (f : FwState) (s : State) : State := { s with fw := f }

/-! ### Components and cores (R319, R323) -/

/-- Run states, component states and core states (Table 14-11). -/
def runBoot : Nat := 0
def runRunning : Nat := 1
def runGap : Nat := 2
def runSafe : Nat := 3
def coStopped : Nat := 0
def coRunning : Nat := 1
def coRestarting : Nat := 2
def coFailed : Nat := 3
def crHeld : Nat := 0
def crLoading : Nat := 1
def crRunning : Nat := 2
def crFailed : Nat := 3

/-- Core and deadline in ms of a component (Table 14-2). -/
def coreOf (c : Nat) : Nat := nth [0, 0, 0, 1, 1, 2, 2, 3] c
def deadlineMs (c : Nat) : Nat := nth [10, 100, 1000, 10, 2, 1, 10, 10] c
def compsOf (k : Nat) : List Nat := (List.range 8).filter (fun c => coreOf c == k)

/-! ### Memory protection (R324 to R326) -/

/-- Region `r` of core `k` in an image's region table: the size a power of two from 32 bytes to 1 MiB, the base aligned to it; the first four
regions are the kernel's, each other one a component's of the core (R324; the contents are the image's, log entry 97). -/
def imageRegion (image k r : Nat) : MpuRegion :=
  let n := Config.mpuRegion image k r
  let size := 2 ^ (5 + n % 16)
  let l := compsOf k
  { base := size * (n / 16 % (2 ^ 32 / size)), size := size, rd := bit n 48, wr := bit n 49, ex := bit n 50,
    owner := if r < 4 then none else some (nth l (n / 2 ^ 51 % l.length)) }

/-- The scheduler loads every region of a core at its start (R324). -/
def mpuLoad (image k : Nat) (s : State) : State :=
  setFw { s.fw with mpu := aIns s.fw.mpu k ((List.range 16).map (imageRegion image k)) } s

/-- Registers a component may write (Table 14-3). -/
def compMayWrite (c o : Nat) : Bool :=
  match c with
  | 0 => inR o 0xB0000 0xC0000 || inR o 0xA000C 0xA0010 || inR o 0xA0020 0xA0024 || inR o 0xA002C 0xA0030 || inR o 0xD0088 0xD008C
  | 1 => decide (o < 0xF0000) && !inR o 0x70060 0x70064 && !inR o 0x90030 0x9003C
  | 2 => inR o 0xE0000 0xF0000
  | 3 => inR o 0x40000 0x50000
  | 4 => inR o 0x80000 0x90000 || inR o 0x70060 0x70080
  | 5 => inR o 0x90000 0xA0000
  | 6 => inR o 0x2000C 0x20010
  | 7 => inR o 0xD0000 0xE0000
  | _ => false

/-- May a management core write a register: some component bound to it may (Table 14-3). -/
def coreMayWrite (agent o : Nat) : Bool := (compsOf (agent - 0x40)).any (fun c => compMayWrite c o)

/-- An access lies within the regions of the running component: the register window stands at core address 0x1000_0000, where every component
reads and each writes as Table 14-3 states (R324, R325); elsewhere a region of the component grants it. -/
def mpuGrants (s : State) (c addr : Nat) (write exe : Bool) : Bool :=
  if !exe && inR addr 0x10000000 0x10100000 then !write || compMayWrite c (addr - 0x10000000)
  else (aGet [] s.fw.mpu (coreOf c)).any (fun r =>
    r.owner == some c && inR addr r.base (r.base + r.size) && (if exe then r.ex else if write then r.wr else r.rd))

def runState (s : State) : Nat := getF s FW.STATUS.RUN_STATE
def compState (s : State) (c : Nat) : Nat := getF s (FW.COMP_STATUS.STATE c)
def coreState (s : State) (k : Nat) : Nat := getF s (FW.CORE_STATUS.STATE k)
/-- The firmware runs: neither booting nor in the gap of a hand-over. -/
def fwRuns (s : State) : Bool := runState s == runRunning || runState s == runSafe
/-- A component runs. -/
def compOn (s : State) (c : Nat) : Bool := fwRuns s && compState s c == coRunning
/-- A component executes: it runs, or its restart is under way on a core that runs (Table 14-7). -/
def compUp (s : State) (c : Nat) : Bool :=
  fwRuns s && coreState s (coreOf c) == crRunning && (compState s c == coRunning || compState s c == coRestarting)
def setComp (c st : Nat) (s : State) : State := setF s (FW.COMP_STATUS.STATE c) st
def setCore (k st : Nat) (s : State) : State := setF s (FW.CORE_STATUS.STATE k) st
def setComps (l : List Nat) (st : Nat) (s : State) : State := l.foldl (fun t c => setComp c st t) s

/-- COMPONENT_CHECK_IN (R323). -/
def checkIn (c : Nat) (s : State) : State :=
  if compOn s c then setFw { s.fw with checkIn := aPut 0 s.fw.checkIn c s.time.ticks } s else s

/-- Components start running and check in now; the thermal manager resumes from the next round, with its counts from zero (R270; log entry
85). -/
def startComps (l : List Nat) (s : State) : State :=
  let s0 := if l.contains 4 then
      { s with tmg := { s.tmg with fwDue := false, floorRun := 0, devRun := [], okRun := [], dev := [] } } else s
  let s1 := setComps l coRunning s0
  setFw { s1.fw with checkIn := l.foldl (fun m c => aPut 0 m c s.time.ticks) s1.fw.checkIn } s1

/-- AGE of a component, in ms (Table 14-11). -/
def compAge (s : State) (c : Nat) : Nat := min 0xFFFF ((s.time.ticks - aGet 0 s.fw.checkIn c) / ms 1)

/-! ### Restarts (R327 to R329) -/

/-- The restarts of the last 10 s. -/
def recentRestarts (s : State) : List (Nat × Nat) := s.fw.restarts.filter (fun r => decide (s.time.ticks < r.1 + ms 10000))

/-- No further restart takes place (R329). -/
def noRestart (s : State) : Bool := getB s FW.STATUS.LIMIT_HIT || s.fw.limitDue

/-- Count a restart: a component, or 8 + core, with its cause; the third within 10 s reaches the limit (R329). -/
def noteRestart (id cause : Nat) (s : State) : State :=
  let l := recentRestarts s ++ [(s.time.ticks, id)]
  let s1 := setF (setF (incF s FW.STATUS.RESTARTS) FW.STATUS.LAST_COMP id) FW.STATUS.LAST_CAUSE cause
  setFw { s1.fw with restarts := l, limitDue := s1.fw.limitDue || decide (3 ≤ l.length) } s1

/-- The watchdog stops until the first service (R328). -/
def wdtStop (s : State) : State := setB (setFw { s.fw with wdtAt := none } s) STA.WDT.RUNNING false

/-- A restart of a component shows in its own register: the cause and the count (Table 14-11). -/
def markRestart (cause c : Nat) (s : State) : State := incF (setF s (FW.COMP_STATUS.LAST_CAUSE c) cause) (FW.COMP_STATUS.RESTARTS c)

/-- The main core goes back to the boot ROM, and every helper is restarted with it (R328); each component counts the restart as its own too
(DEDUCED, log entry 98). -/
def mainRestart (s : State) : State :=
  if noRestart s then setComps (compsOf 0) coFailed (setCore 0 crFailed s)
  else
    let s1 := (List.range 8).foldl (fun t c => markRestart 4 c t) (noteRestart 8 4 (wdtStop s))
    setF (setComps (compsOf 0) coRestarting (setCore 0 crLoading s1)) FW.STATUS.RUN_STATE runBoot

/-- A helper core stops, is loaded again and restarts all of its components (R328; log entry 98). -/
def helperRestart (k : Nat) (s : State) : State :=
  if noRestart s then setComps (compsOf k) coFailed (setCore k crFailed s)
  else setComps (compsOf k) coRestarting (setCore k crLoading ((compsOf k).foldl (fun t c => markRestart 4 c t) (noteRestart (8 + k) 4 s)))

/-- A core restart with its fault (R328). -/
def coreRestart (k addr : Nat) (s : State) : State :=
  let s1 := sendFault 0xB2 (0xB10 + k) addr s
  if k = 0 then mainRestart s1 else helperRestart k s1

/-- A component fails with a cause: it is restarted, or stays FAILED after the limit; the scheduler's restart is the main core's. -/
def compFail (c cause addr : Nat) (s : State) : State :=
  if c = 0 then coreRestart 0 addr s
  else if noRestart s then setComp c coFailed s
  else noteRestart c cause (markRestart cause c (setComp c coRestarting s))

/-- A component has missed its deadline (R327). -/
def overdue (s : State) (c : Nat) : Bool :=
  compOn s c && decide (aGet 0 s.fw.checkIn c + ms (deadlineMs c) < s.time.ticks)

/-- FW_COMPONENT_HANG: the scheduler, while it runs, restarts a component that missed its deadline; its own miss is the watchdog's. -/
def componentHang (c : Nat) (s : State) : State :=
  if overdue s c ∧ compOn s 0 ∧ c ≠ 0 then compFail c 2 0 (sendFault 0xB1 (0xB00 + c) (compAge s c) s) else s

/-- FW_MPU_VIOLATION: an access outside the component's regions; a component whose restart is under way counts a further one (R326, Table
14-7). -/
def mpuViolation (c addr : Nat) (write exe : Bool) (s : State) : State :=
  if !compUp s c || mpuGrants s c addr write exe then s
  else
    let s1 := setF (setF (setF s FW.MPU_FAULT_ADDR.ADDR addr) FW.MPU_FAULT_INFO.CORE (coreOf c)) FW.MPU_FAULT_INFO.COMPONENT c
    let s2 := setB (setB (setB s1 FW.MPU_FAULT_INFO.WRITE write) FW.MPU_FAULT_INFO.EXEC exe) FW.MPU_FAULT_INFO.VALID true
    compFail c 1 addr (sendFault 0xB0 (0xB00 + c) addr (setComp c coStopped s2))

/-- FW_CORE_EXCEPTION: inside a component, or outside any (R327, R328). -/
def coreException (k : Nat) (comp : Option Nat) (addr : Nat) (s : State) : State :=
  match comp with
  | some c => if compUp s c && coreOf c == k then compFail c 3 addr s else s
  | none => if fwRuns s && coreState s k == crRunning then coreRestart k addr s else s

/-- A component restart ends (R327): true where it did. The recorder's flush at PWR_FAIL_N runs first (Table 14-7). -/
def compRestarted (c : Nat) (s : State) : State × Bool :=
  if compState s c = coRestarting ∧ coreState s (coreOf c) = crRunning ∧ fwRuns s ∧ s.evr.flush ≠ 5 then
    (event 0x0B01 [c, getF s (FW.COMP_STATUS.LAST_CAUSE c)] (startComps [c] s), true)
  else (s, false)

/-- HELPER_LOAD: the helper runs with its components, or stays held and is tried again (R322). -/
def helperLoad (k : Nat) (ok : Bool) (off : Nat) (s : State) : State :=
  if coreState s k ≠ crLoading ∨ !fwRuns s then s
  else
    let s1 := incF s (FW.CORE_STATUS.LOADS k)
    if ok then startComps (compsOf k) (setCore k crRunning (mpuLoad (getF s FW.IMAGE.IMAGE_ID) k s1))
    else
      let s2 := sendFault 0xB4 (0xB10 + k) off s1
      if noRestart s then setComps (compsOf k) coFailed (setCore k crFailed s2) else noteRestart (8 + k) 5 s2

/-- WDT_KICK (R328). -/
def wdtKick (agent val : Nat) (s : State) : State :=
  if agent = 0x40 ∧ val % 65536 = 0x3C96 ∧ fwRuns s then
    setB (setFw { s.fw with wdtAt := some s.time.ticks } s) STA.WDT.RUNNING true
  else s

/-- The watchdog has expired: 30 ms since the last service (R328). -/
def wdtOut (s : State) : Bool :=
  match s.fw.wdtAt with | some t => fwRuns s && decide (t + ms 30 ≤ s.time.ticks) | none => false

/-- WDT_EXPIRY; no core address is stated for the fault, so it is a free value (log entry 2). -/
def wdtExpiry (s : State) : State :=
  if wdtOut s then coreRestart 0 (freeVal s % 2 ^ 32) (wdtStop (freeNext (incF s STA.WDT.EXPIRIES))) else s

/-- The information of FW_RESTART_LIMIT (Table 14-9). -/
def limitInfo (s : State) : Nat := s.fw.restarts.foldl (fun m r => setBit m r.2) 0

/-- FW_RESTART_LIMIT's own part: the fault and the mark; the safe state is STA's (R329). -/
def restartLimit (s : State) : State :=
  setB (setFw { s.fw with limitDue := false } (sendFault 0xB3 0xB20 (limitInfo s) s)) FW.STATUS.LIMIT_HIT true

/-! ### Generation and host (R335 to R337) -/

def hostState (s : State) : Nat := getF s FW.HOST_STATUS.HOST_STATE
def hostDetached : Nat := 0
def hostAttached : Nat := 1
def hostAbsentSt : Nat := 2
def hostAbsentNow (s : State) : Bool := hostState s == hostAbsentSt

def incGeneration (s : State) : State := setF s FW.GENERATION.GENERATION (getF s FW.GENERATION.GENERATION + 1)

/-- HOST_ALIVE: agent 0x01 only; the timer restarts (R335). -/
def hostAlive (agent : Nat) (s : State) : State :=
  if agent = 0x01 then setFw { s.fw with aliveAt := s.time.ticks } s else s

/-- Time since the last host-alive write, in ms. -/
def sinceAlive (s : State) : Nat := min 0xFFFF ((s.time.ticks - s.fw.aliveAt) / ms 1)

/-- The mirror stops (R336, R342). -/
def mirrorStop (s : State) : State := setB s FW.LOG_CTRL.MIRROR_EN false

/-- What the firmware does on entry to ABSENT (R336). -/
def absentActions (s : State) : State :=
  let s1 := incGeneration s
  let g := getF s1 FW.GENERATION.GENERATION
  let s2 := event 0x0B02 (toLE 4 g) (sendFault 0xB5 0xB30 g s1)
  mirrorStop (setFw { s2.fw with absentOwed := false } s2)

/-- HOST_ABSENT: the timer reaches HOST_TIMEOUT while ATTACHED; the firmware acts when it runs (R335, R336, Table 14-7). -/
def hostAbsent (s : State) : State :=
  if hostState s ≠ hostAttached ∨ s.time.ticks < s.fw.aliveAt + ms (getC s FW.HOST_CTRL.HOST_TIMEOUT 200 5000) then s
  else
    let s1 := setW (setF s FW.HOST_STATUS.HOST_STATE hostAbsentSt) FW.ABSENT_START_LO.TIME FW.ABSENT_START_HI.TIME s.time.sys
    let s2 := setF (setF (setB s1 FW.ABSENT_SUMMARY.VALID false) FW.ABSENT_COUNTS.STEPS 0) FW.ABSENT_COUNTS.FAULTS 0
    let s3 := setFw { s2.fw with absentAt := s.time.ticks, absentOwed := true } s2
    if compOn s 0 then absentActions s3 else s3

/-- Length of the absence, in ms (Table 14-11). -/
def absentMs (s : State) : Nat := min 0xFFFFFF ((s.time.ticks - s.fw.absentAt) / ms 1)

/-- HOST_ATTACH: the answer, and whether an absence ended (R337). What the firmware still owes of the entry follows when it runs (Table 14-7;
log entry 99). -/
def hostAttach (val : Nat) (s : State) : State × Bool :=
  if !bit val 31 then (s, false)
  else if val % 65536 ≠ getF s FW.GENERATION.GENERATION % 65536 then (setB s FW.HOST_STATUS.ATTACH_REJECT true, false)
  else if hostState s = hostAttached then (s, false)
  else
    let s1 := setFw { s.fw with aliveAt := s.time.ticks } (setF s FW.HOST_STATUS.HOST_STATE hostAttached)
    if hostState s = hostDetached then (s1, false)
    else
      let s2 := setF (setF s1 FW.ABSENT_SUMMARY.DURATION (absentMs s)) FW.ABSENT_SUMMARY.PLAN_STATE (getF s PSQ.STATUS.PLAN_STATE)
      (event 0x0B03 (toLE 4 (getF s FW.GENERATION.GENERATION) ++ toLE 4 (absentMs s)) (setB s2 FW.ABSENT_SUMMARY.VALID true), true)

/-! ### Log ring, trace points and mirror (R338 to R342) -/

/-- A trace mask in force: zero in confidential mode (R341). -/
def traceMask (s : State) (w : Nat) : Nat := if confOn s then 0 else getF s (FW.TRACE_MASK.MASK w)
/-- LEVEL in force. -/
def logLevel (s : State) : Nat := if confOn s then min 2 (getF s FW.LOG_CTRL.LEVEL) else getF s FW.LOG_CTRL.LEVEL

/-- Would the entry be written, were it not for the rate: a message at or below LEVEL, or an enabled trace point of the component. -/
def logWanted (s : State) (c kind id : Nat) : Bool :=
  if kind = 0 then decide (id ≤ logLevel s)
  else decide (kind = 1) && id / 32 == c && bit (traceMask s (id / 32)) (id % 32)

/-- The entries of a component in the last 1 ms. -/
def logRecent (s : State) (c : Nat) : List Nat := (aGet [] s.fw.logAt c).filter (fun t => decide (s.time.ticks < t + ms 1))

/-- The 32 bytes of an entry (Table 14-6). -/
def logBytes (s : State) (c kind id code : Nat) (payload : List Nat) : List Nat :=
  let p := payload.take 16
  toLE 4 s.fw.logNext ++ toLE 6 s.time.ticks ++ [64 * coreOf c + 8 * c + kind, id % 256] ++ toLE 2 code ++ [p.length, 0] ++ padTo 16 p

/-- LOG_ENTRY (R338 to R341): the first entry after a start carries GENERATION. -/
def logEntry (c kind id code : Nat) (payload : List Nat) (s : State) : State :=
  if !compOn s c ∨ !logWanted s c kind id then s
  else if max 1 (getF s FW.LOG_CTRL.LOG_RATE) ≤ (logRecent s c).length then incF s FW.LOG_DROP.DROPPED
  else
    let p := if s.fw.logFirst then toLE 4 (getF s FW.GENERATION.GENERATION) else payload
    let b := logBytes s c kind id code p
    let n := s.fw.logNext
    let s1 := sramStore (logWord n) 8 (setF (setF s FW.LOG_SEQ.SEQ n) FW.LOG_STATUS.WRITE_INDEX ((n + 1) % 2048))
    setFw { s1.fw with log := memPut s1.fw.log (32 * (n % 2048)) b, logNext := n + 1, logFirst := false,
                       logAt := aPut [] s1.fw.logAt c (logRecent s c ++ [s.time.ticks]) } s1

/-- The mirror works (R342). -/
def mirrorOn (s : State) : Bool := getB s FW.LOG_CTRL.MIRROR_EN && hostState s == hostAttached

/-- LOG_MIRROR_COPY: the next entry still in the ring goes to its place in the host buffer, or the mirror stops (R342). -/
def logMirrorCopy (ok : Bool) (s : State) : State :=
  if !mirrorOn s ∨ !compOn s 7 ∨ s.fw.logNext ≤ s.fw.mirrorNext then s
  else
    let n := max s.fw.mirrorNext (s.fw.logNext - 2048)
    let off := 32 * (n % 2 ^ (getC s FW.LOG_MIRROR_SIZE.SIZE_LOG2 16 24 - 5))
    if 2 ≤ sramCheck s (logWord n) 8 then coreException 3 (some 7) (freeVal s) (freeNext s)
    else if ok then
      let s := if sramCheck s (logWord n) 8 = 1 then incF s (FW.CORE_STATUS.CORRECTED 3) else s
      let out := some (getW s FW.LOG_MIRROR_LO.ADDR FW.LOG_MIRROR_HI.ADDR + off, memBytes s.fw.log (32 * (n % 2048)) 32)
      setF (setFw { s.fw with mirrorNext := n + 1, mirrorOut := out } s) FW.LOG_MIRROR_SEQ.SEQ n
    else mirrorStop (setB (sendFault 0xB6 0xB31 off s) FW.LOG_STATUS.MIRROR_ERR true)

/-- The log ring after a reset: empty, SEQ from 0 (Table 13-8). -/
def logClear (s : State) : State :=
  setFw { s.fw with log := [], logNext := 0, logFirst := true, logAt := [], mirrorNext := 0, mirrorOut := none } s

end Sys2Proof.Machine
end

