-- ==== Sys2Proof/Machine/PlanBase.lean ====
section
/-! DEFINITION. The fields of a plan entry (Table 6-3) and the source of each rail's select, the boost permit and the step's guard
(R146, R157, R158, R192). -/

namespace Sys2Proof.Machine

/-- Plan states (Table 6-4). -/
def planIdle : Nat := 0
def planArmed : Nat := 1
def planRunning : Nat := 2
def planGap : Nat := 3
def planPaused : Nat := 4
def planEnded : Nat := 5
def planError : Nat := 6

def planState (s : State) : Nat := getF s PSQ.STATUS.PLAN_STATE

/-- Word `w` of an entry. -/
def entW (e : List Nat) (w : Nat) : Nat := nth e w
def entDur (e : List Nat) : Nat := bits (entW e 0) 0 6
def entSig (e : List Nat) : Nat := bits (entW e 0) 6 10
/-- Pre-lift of an entry in nV (1.25 mV units) and its lead in ns. -/
def entLift (e : List Nat) : Nat := 1250000 * bits (entW e 0) 16 5
def entLead (e : List Nat) : Nat := 1000 * bits (entW e 0) 21 3
def entHint (e : List Nat) (k : Nat) : Nat :=
  match k with | 0 => bits (entW e 0) 24 7 | 1 => bits (entW e 1) 0 5 | 2 => bits (entW e 1) 5 4 | _ => 0
def entBoost (e : List Nat) : Bool := bit (entW e 0) 31
def entAct (e : List Nat) (i : Nat) : Bool := bit (entW e 1) (16 + i)
def entReserve (e : List Nat) : Nat := bits (entW e 2) 0 20
def entHoldLead (e : List Nat) : Nat := bits (entW e 2) 20 10
def entSel (e : List Nat) (k : Nat) : Nat := bits (entW e 3) (4 * k) 4

/-- The entry in force. -/
def curEnt (s : State) : List Nat := (List.range 4).map (fun w => getF s (PSQ.CUR.WORD w))

/-- The last entry's fields govern: RUNNING and PAUSED, and GAP and ENDED until a reactive write takes effect (R158, R159). -/
def entryGoverns (written : Bool) (st : Nat) : Bool :=
  st == planRunning || st == planPaused || ((st == planGap || st == planEnded) && !written)

/-- The last entry governs the step's guard: as `entryGoverns`, and in ERROR until the boundary (Table 6-4). -/
def guardEntry (s : State) : Bool := entryGoverns s.psq.reactGuard (planState s) || (planState s == planError && s.psq.errHold)

/-- RESERVE_NS and HOLD_LEAD (100 ns) of the step in force (R146, R157). -/
def stepReserve (s : State) : Nat :=
  if guardEntry s then entReserve (curEnt s) else getF s PSQ.REACT_GUARD.RESERVE_NS
def stepHoldLead (s : State) : Nat :=
  if guardEntry s then entHoldLead (curEnt s) else getF s PSQ.REACT_GUARD.HOLD_LEAD

/-- The reactive select of a rail. -/
def reactSel (s : State) (k : Nat) : Nat :=
  match k with
  | 0 => getF s PSQ.REACT_SEL.SEL_VCORE | 1 => getF s PSQ.REACT_SEL.SEL_VMEM | 2 => getF s PSQ.REACT_SEL.SEL_VLINK
  | _ => getF s PSQ.REACT_SEL.SEL_VAUX

/-- The boost permit of a step, given its plan state and entry (R242; fixed-beat mode reads BOOST as 0, R161). -/
def boostPermit (s : State) (st : Nat) (e : List Nat) : Bool :=
  if entryGoverns s.psq.reactSel st then entBoost e && !getB s PSQ.CTRL.FIXED_BEAT else getB s PSQ.REACT_SEL.BOOST

/-- The requested select of a rail, given the plan state and entry of the step (R192; the safe state's first row is the caller's). -/
def requestedSel (s : State) (st : Nat) (e : List Nat) (k : Nat) : Nat :=
  if getB s PHC.CTRL.SEL_SRC then (if k = 0 then getF s PHC.VSEL.PINS else 0)
  else if entryGoverns s.psq.reactSel st then entSel e k
  else reactSel s k

/-- A write of REACT_SEL or of REACT_GUARD lands: in GAP and in ENDED it governs from the boundary at which it takes effect (R158). -/
def reactNote (o : Nat) (s : State) : State :=
  if planState s ≠ planGap ∧ planState s ≠ planEnded then s
  else if o = 0x40010 then { s with psq := { s.psq with reactSelW := true } }
  else if o = 0x40014 then { s with psq := { s.psq with reactGuardW := true } }
  else s

/-- A step's feed-forward differs from the plan in repeatable mode: 1 protective action, 2 pre-lift withdrawn, 3 seek (R162). -/
def repeatBroken (cause : Nat) (s : State) : State :=
  if getB s PSQ.CTRL.REPEATABLE then event 0x040C [cause] (setB s PSQ.STATUS.REPEAT_BROKEN true) else s

/-- The same, where only a running plan has a feed-forward to differ from. -/
def repeatBreaks (cause : Nat) (s : State) : State := if planState s = planRunning then repeatBroken cause s else s

/-- Voltage of a setpoint entry in 1.25 mV (R190: VCORE entry 0 and the VAUX entries are fixed), and FMAX. -/
def spV (s : State) (k e : Nat) : Nat :=
  if k = 3 then 960 else if k = 0 ∧ e = 0 then 520 else getF s (PHC.SP.VOLT k e)
def spF (s : State) (e : Nat) : Nat := if e = 0 then 80 else getF s (PHC.SP.FMAX 0 e)

/-- The phases a rail can regulate with: its non-retired phases, at most its active ones (R186, R210). -/
def isRetired (s : State) (n : Nat) : Bool := bit (getF s (PHC.RETIRED.RETIRED (n / 32))) (n % 32)
def liveCount (s : State) (k : Nat) : Nat :=
  ((List.range (railPhases k)).filter (fun i => !isRetired s (railFirst k + i))).length
def availOf (s : State) (k : Nat) : Nat := min (railActive k) (liveCount s k)

end Sys2Proof.Machine
end

