-- ==== Sys2Proof/Machine/Seal.lean ====
section
/-! DEFINITION. The sideband engine's sealing of a record on a port (R284, R289 to R291). -/

namespace Sys2Proof.Machine

def setBal (b : BalState) (s : State) : State := { s with bal := b }

def txCount (s : State) (p : Nat) : Nat := getW s (BAL.TXCNT_LO.COUNTER p) (BAL.TXCNT_HI.COUNTER p)

/-- Seal a record on a port under the current key of its context: its counter rises; with no live key, or at the counter's end, nothing
is sent. -/
def sealOn (p typ origin ctx hops : Nat) (body : List Nat) (s : State) : State :=
  let c := txCount s p
  if (aFind s.bal.cur ctx).isNone ∨ 2 ^ 64 - 1 ≤ c then s
  else
    let s1 := setW s (BAL.TXCNT_LO.COUNTER p) (BAL.TXCNT_HI.COUNTER p) (c + 1)
    setBal { s1.bal with out := (⟨p, typ, origin, ctx, hops, c + 1, body⟩ :: s1.bal.out).take 64 } s1

/-- A job record travels on the time master's port under the job key; Thofida does not relay it (R291). -/
def sealJob (body : List Nat) (s : State) : State := sealOn s.cmd.jobPort 1 0 1 0 body s

end Sys2Proof.Machine
end

