-- ==== Sys2Proof/Machine/Droop.lean ====
section
/-! DEFINITION. The droop guard (chapter 07): the stretch ladder and its grading, lateness, step holds, launch moves and late holds. -/

namespace Sys2Proof.Machine

/-! ### Regions -/

def regionOf (s : State) (r : Nat) : Region := aGet Region.fresh s.drg.regions r
def setRegion (s : State) (r : Nat) (x : Region) : State :=
  { s with drg := { s.drg with regions := aPut Region.fresh s.drg.regions r x } }

/-- Table 7-1: the stretch of a level, in 1/64 (level 4 holds). -/
def stretchOf (level : Nat) : Nat := match level with | 0 => 0 | 1 => 8 | 2 => 16 | 3 => 32 | _ => 32

/-- The least common multiple of the beat rates 0.60 GHz to 1.50 GHz in 10 MHz: 60, 61, and so on to 150. -/
def rateLcm : Nat := 4963595372164418730243844250278933730416682962970482173955824000

/-- Units of time to the picosecond: the period of every rate, and every 1/64 of it, is a whole number of them, so that no fraction of a
picosecond is lost (R173; log entry 12). -/
def psUnit : Nat := 64 * rateLcm

/-- The beat period of a rate in 10 MHz. -/
def periodOf (rate : Nat) : Nat := 100000 * psUnit / rate

/-- Lateness cap: 0xFFFF_FFFF ps (R173). -/
def lateCap : Nat := 0xFFFFFFFF * psUnit

/-- The stretch of `st`/64 of a period, which is a multiple of 64 units. -/
def stretchTime (p st : Nat) : Nat := p / 64 * st

/-- Beats of a region at a constant stretch over a time: whole beats add their lateness (R173). -/
def beatsSteady (p p0 : Nat) (r : Region) (d : Nat) : Region :=
  let t := p + stretchTime p r.stretch
  if t = 0 then r
  else
    let tot := r.ph + d
    { r with ph := tot % t, beats := r.beats + tot / t,
             late := min lateCap (r.late + tot / t * (stretchTime p r.stretch + (p - p0))) }

/-- Beats of a region that may be grading: the first edge after a hold takes the stretch that the grading starts from (R168), beat n after
the fall takes s(n), and no beat less than the level's stretch (R167, R169). -/
def beatsGrade (p p0 lv : Nat) : Nat → Region → Nat → Region
  | 0, r, d => beatsSteady p p0 r d
  | fuel + 1, r, d =>
    if r.gBeat ≥ 16 then beatsSteady p p0 { r with stretch := max r.gNew lv } d
    else
      let n := if r.first then 0 else r.gBeat + 1
      let st := max (r.gNew + (r.gOld - r.gNew) * (16 - n) / 16) lv
      let t := p + stretchTime p st
      if r.ph + d < t then { r with stretch := st, ph := r.ph + d }
      else beatsGrade p p0 lv fuel
        { r with stretch := st, gBeat := n, first := false, ph := 0, beats := r.beats + 1,
                 late := min lateCap (r.late + stretchTime p st + (p - p0)) } (r.ph + d - t)

/-- One region over a number of ticks: a held interval adds its duration (R173). -/
def regionRun (s : State) (r ticks : Nat) : Region :=
  let x := regionOf s r
  let d := ticks * 10000 * psUnit
  if s.drg.gate then x
  else if x.hold || s.drg.holdAll then { x with late := min lateCap (x.late + d) }
  else beatsGrade (periodOf s.drg.rate) (periodOf s.drg.rate0) (stretchOf (getF s (SNS.REGION_DROOP.LEVEL r))) 18 x d

/-- The regions whose beats are neither stretched, held nor slower than at launch only deliver their edges; the others run on. -/
def drgAdvance (ticks : Nat) (s : State) : State :=
  if ticks = 0 ∨ s.drg.gate then s
  else
    let rs := if s.drg.rate = s.drg.rate0 ∧ !s.drg.holdAll then s.drg.regions.map (fun e => e.1) else regions64
    let s1 := rs.foldl (fun t r => setRegion t r (regionRun s r ticks)) s
    { s1 with drg := { s1.drg with edges := s1.drg.edges + (64 - rs.length) * s.drg.rate * ticks } }

/-- The mean beat rate over the 64 regions since the last 1 µs close, in MHz (Table 3-1, 0xF05). -/
def meanRate (s : State) : Nat :=
  (10 * s.drg.edges + s.drg.regions.foldl (fun a e => a + 100 * e.2.beats) 0) / (64 * max 1 (s.time.ticks - s.drg.winAt))

/-- A 1 µs window closes: the count of edges starts again. -/
def beatWindow (s : State) : State :=
  { s with drg := { s.drg with regions := s.drg.regions.map (fun e => (e.1, { e.2 with beats := 0 })), edges := 0, winAt := s.time.ticks } }

/-- Lateness of a region and of the chip, in ps (R173, R174), and the region with the largest. -/
def lateOf (s : State) (r : Nat) : Nat := (regionOf s r).late / psUnit
def chipLate (s : State) : Nat := regions64.foldl (fun m r => max m (lateOf s r)) 0
def worstRegion (s : State) : Nat := regions64.foldl (fun m r => if lateOf s m < lateOf s r then r else m) 0

/-- A region's edges are withheld, by level 4 or by another hold, and the instant from which they have been (R168). -/
def holding (s : State) (r : Nat) : Bool := (regionOf s r).hold || s.drg.holdAll
def holdFrom (s : State) (r : Nat) : Nat :=
  let x := regionOf s r
  if x.hold then (if s.drg.holdAll then min x.holdAt s.drg.holdAllAt else x.holdAt) else s.drg.holdAllAt

/-- The longest hold of a region, one in progress included, in 10 ns (Table 7-8). -/
def longestHold (s : State) (r : Nat) : Nat :=
  let l := getF s (DRG.REGION_STRETCH.LONGEST_HOLD r)
  if holding s r then max l (min 0xFFFF (s.time.ticks - holdFrom s r)) else l

/-- The end of a hold: the longest is kept. -/
def noteHold (s : State) (r : Nat) : State := setSat s (DRG.REGION_STRETCH.LONGEST_HOLD r) (longestHold s r)

/-- A region's level changes (R167, R168, R169). -/
def regionLevel (r new : Nat) (s : State) : State :=
  let old := getF s (SNS.REGION_DROOP.LEVEL r)
  let x := regionOf s r
  if new = old then s
  else if old < new then
    let s1 := setF s (SNS.REGION_DROOP.LEVEL r) new
    let s2 := incF s1 (SNS.REGION_DROOP.EVENTS r)
    let s3 := setF s2 (SNS.REGION_DROOP.WORST r) (max (getF s (SNS.REGION_DROOP.WORST r)) new)
    if new = 4 then setRegion s3 r { x with hold := true, holdAt := s.time.ticks, longSent := x.longSent && s.drg.holdAll }
    else setRegion s3 r { x with stretch := max x.stretch (stretchOf new) }
  else
    let s1 := setF (if old = 4 then noteHold s r else s) (SNS.REGION_DROOP.LEVEL r) new
    let s0 := if old = 4 then 32 else x.stretch
    setRegion s1 r { x with hold := false, longSent := x.longSent && s.drg.holdAll, first := x.first || old == 4,
                            stretch := s0, gOld := s0, gNew := stretchOf new, gBeat := 0,
                            ph := if old = 4 then 0 else x.ph }

/-- Another hold ends: edges resume with 32/64 or the level's stretch, graded down; a region at level 4 stays held (R168). -/
def releaseHold (r : Nat) (s : State) : State :=
  let lv := stretchOf (getF s (SNS.REGION_DROOP.LEVEL r))
  let x := regionOf s r
  if x.hold then setRegion s r { x with holdAt := holdFrom s r }
  else
    setRegion (noteHold s r) r { x with first := true, stretch := max 32 lv, gOld := max 32 lv, gNew := lv, gBeat := 0, ph := 0, longSent := false }

/-- Hold the beats of every region, and release them (R262, R311). -/
def holdBeats (s : State) : State :=
  if s.drg.holdAll then s else { s with drg := { s.drg with holdAll := true, holdAllAt := s.time.ticks } }
def releaseBeats (s : State) : State :=
  let s1 := regions64.foldl (fun t r => releaseHold r t) s
  { s1 with drg := { s1.drg with holdAll := false } }

/-- Put a beat rate in force in every region (R241, R453), and the launch rate of a step (R173). -/
def setRate (rate : Nat) (s : State) : State := setF { s with drg := { s.drg with rate := rate } } LGV.OPP.RATE rate
def setLaunchRate (s : State) : State := { s with drg := { s.drg with rate0 := s.drg.rate } }

/-! ### Detectors -/

/-- Is a detector excluded (R60)? -/
def detExcl (s : State) (d : Nat) : Bool := bit (getF s (SNS.DET_EXCL.EXCLUDED (d / 32))) (d % 32)

/-- A region's level: the highest among its included detectors (R57). -/
def levelOf (s : State) (r : Nat) : Nat :=
  [0, 1, 2, 3].foldl (fun m d => if detExcl s (4 * r + d) then m else max m (aGet 0 s.sns.det (4 * r + d))) 0

/-- The detectors' reference: the ramping VCORE reference, pre-lift excluded (R58), and threshold T1 to T4 below it, in nV. -/
def droopRef (s : State) : Nat := (railRec s 0).ref
def droopThresh (s : State) (i : Nat) : Nat :=
  5000000 * getF s (match i with | 1 => SNS.DROOP_THRESH.T1 | 2 => SNS.DROOP_THRESH.T2 | 3 => SNS.DROOP_THRESH.T3 | _ => SNS.DROOP_THRESH.T4)

/-- The level of a detector that was at `old` and finds local VCORE at `v` nV: the deepest threshold crossed; a threshold already crossed
is released only 5 mV above it (R57). -/
def detLevel (s : State) (old v : Nat) : Nat :=
  (([4, 3, 2, 1] : List Nat).find? (fun i =>
    decide (v + droopThresh s i < droopRef s + (if i ≤ old then 5000000 else 0)))).getD 0

/-- A detector is stuck-like: level 4 while the other three of its region are at 0 (R60). -/
def stuckNow (s : State) (r d : Nat) : Bool :=
  aGet 0 s.sns.det (4 * r + d) == 4 && [0, 1, 2, 3].all (fun e => e == d || aGet 0 s.sns.det (4 * r + e) == 0)

/-- Keep the instants from which detectors meet the stuck condition. -/
def noteStuck (r : Nat) (s : State) : State :=
  let keep := fun (m : Assoc Nat) (d : Nat) =>
    if stuckNow s r d then (if (aFind m (4 * r + d)).isSome then m else aIns m (4 * r + d) s.time.ticks)
    else aDel m (4 * r + d)
  { s with sns := { s.sns with stuck := [0, 1, 2, 3].foldl keep s.sns.stuck,
                               stuckSent := s.sns.stuckSent.filter (fun i => i / 4 != r || stuckNow s r (i % 4)) } }

/-- DROOP_LEVEL_CHANGE: a detector finds local VCORE at `v` nV; its level changes, and the region's with it (R57, R58, R166 to R169). The
detector compares whenever its voltage is given (log entry 64). -/
def droopLevelChange (r d v : Nat) (s : State) : State :=
  let i := 4 * r + d
  let s1 := { s with sns := { s.sns with det := aPut 0 s.sns.det i (detLevel s (aGet 0 s.sns.det i) v) } }
  regionLevel r (levelOf s1 r) (noteStuck r s1)

/-- The included detectors of a detector's region beside it (R60). -/
def otherDets (s : State) (i : Nat) : List Nat := [0, 1, 2, 3].filter (fun e => 4 * (i / 4) + e ≠ i && !detExcl s (4 * (i / 4) + e))

/-- What a block restart or chip reset leaves of the regions: every detector is included again, so each level is formed anew, and a region
at level 4 stays held (R57, R168, R170). -/
def droopRestart (before s : State) : State :=
  regions64.foldl (fun t r =>
    let lv := levelOf t r
    let x := regionOf before r
    let t1 := setF (setF t (SNS.REGION_DROOP.LEVEL r) lv) (SNS.REGION_DROOP.WORST r) lv
    if lv ≠ 4 then t1
    else setRegion t1 r { Region.fresh with hold := true, holdAt := if x.hold then x.holdAt else s.time.ticks, longSent := x.hold && x.longSent }) s

/-- DROOP_DET_STUCK: level 4 for more than 1 ms while its peers report 0; the exclusion and the fault wait for the boundary. There is
nothing left to do for an excluded detector, nor for a last one whose fault has been sent (R469). -/
def droopDetStuck (r d : Nat) (s : State) : State :=
  let i := 4 * r + d
  match aFind s.sns.stuck i with
  | none => s
  | some t0 =>
    if s.time.ticks ≤ t0 + ms 1 ∨ detExcl s i ∨ (otherDets s i = [] ∧ s.sns.stuckSent.contains i) ∨
        s.acts.any (fun a => a.kind == .exclude i) then s
    else { s with acts := s.acts ++ [⟨.exclude i, false, none, 0⟩] }

/-- The exclusion at the boundary: never a region's last included detector; the fault is sent either way, once for each onset (R60,
R469). -/
def excludeDet (i : Nat) (s : State) : State :=
  let r := i / 4
  let s1 := if s.sns.stuckSent.contains i then s
    else sendFault 0x16 (0x190 + r) (i % 4) { s with sns := { s.sns with stuckSent := insN i s.sns.stuckSent } }
  if otherDets s i = [] then s1
  else
    let s2 := setF s1 (SNS.DET_EXCL.EXCLUDED (i / 32)) (setBit (getF s (SNS.DET_EXCL.EXCLUDED (i / 32))) (i % 32))
    let s3 := setB s2 SNS.DROOP_STATUS.STUCK_ANY true
    regionLevel r (levelOf s3 r) s3

/-- DET_EXCL_WRITE: writing one to a bit includes the detector again at once (R60). -/
def detExclWrite (w val : Nat) (s : State) : State :=
  let old := getF s (SNS.DET_EXCL.EXCLUDED w)
  let new := old &&& (0xFFFFFFFF - val % 2 ^ 32)
  let s1 := setF s (SNS.DET_EXCL.EXCLUDED w) new
  let any := (List.range 8).any (fun v => getF s1 (SNS.DET_EXCL.EXCLUDED v) ≠ 0)
  let s2 := setB s1 SNS.DROOP_STATUS.STUCK_ANY any
  (List.range 8).foldl (fun t i => regionLevel (8 * w + i) (levelOf t (8 * w + i)) t) s2

/-- STRETCH_HOLD_LONG: a hold has lasted longer than HOLD_LONG_US; sent once per hold (R168, R469). -/
def stretchHoldLong (r : Nat) (s : State) : State :=
  let x := regionOf s r
  if holding s r && !x.longSent && decide (holdFrom s r + us (getC s DRG.CTRL.HOLD_LONG_US 1 127) < s.time.ticks) then
    sendFault 0x52 (0x510 + r) ((s.time.ticks - holdFrom s r) / 100)
      (setB (setRegion s r { x with longSent := true }) DRG.STATUS.HOLD_LONG true)
  else s

/-! ### The step hold -/

/-- Effective reserve of the step, in ps, saturating (R175). -/
def reserveEff (s : State) : Nat :=
  let moved := match s.time.nextB, s.psq.sched0 with | some n, some t => n - t | _, _ => 0
  min 0xFFFFFFFF (1000 * (stepReserve s + (moved - s.drg.ownDuty) + s.drg.pendExt))

/-- Hold deadline, in ns of system time (R175); none where the next boundary's time is unknown. -/
def holdDeadline (s : State) : Option Int :=
  s.time.nextB.map (fun n => (n : Int) - 100 * (stepHoldLead s : Int) - 200)

/-- A lateness hold is possible (R175, R179). -/
def holdPossible (s : State) : Bool :=
  match holdDeadline s with
  | none => false
  | some d => getB s DRG.CTRL.HOLD_EN && decide ((s.time.sys : Int) ≤ d) && decide ((s.psq.launch : Int) ≤ d) && !s.drg.noHold &&
      decide (getF s DRG.STATUS.HOLDS < getC s DRG.CTRL.MAX_HOLDS 1 8)

/-- The bytes of a STEP_HOLD message (Table 7-3). -/
def stepHoldMsg (late : Bool) (reason step ext seq : Nat) : List Nat :=
  [if late then 2 else 1, reason] ++ toLE 6 step ++ toLE 4 ext ++ [seq, 0, 0, 0]

/-- Seal a STEP_HOLD, hand it to the link layer and record the event (R177, R291). -/
def sendHold (late : Bool) (reason ext seq : Nat) (s : State) : State :=
  let m := stepHoldMsg late reason s.time.step ext seq
  let s1 := sealJob m { s with drg := { s.drg with sent := (m :: s.drg.sent).take 16 } }
  let s2 := setSat s1 DRG.HOLD_TX.EXT (ext / 100)
  let s3 := setF s2 DRG.HOLD_TX.REASON reason
  let s4 := setB s3 DRG.HOLD_TX.LATE late
  let s5 := setF s4 DRG.HOLD_TX.SEQ seq
  event 0x0501 m s5

/-- Duty holds that are due: a request of an earlier step at once, this step's before the deadline (R180). -/
def sendDuty (s : State) : State :=
  let inTime := match holdDeadline s with | some d => decide ((s.time.sys : Int) ≤ d) | none => false
  let due := s.drg.duty.filter (fun q => decide (q.1 ≠ s.time.step) || inTime)
  let rest := s.drg.duty.filter (fun q => !(decide (q.1 ≠ s.time.step) || inTime))
  due.foldl (fun t q =>
    incF (sendHold false 2 q.2 0 { t with drg := { t.drg with ownDuty := t.drg.ownDuty + q.2 } }) DRG.COUNTS.HOLDS)
    { s with drg := { s.drg with duty := rest } }

/-- The lateness of a region at an instant of the grid history (the newest entry not later). -/
def lateAt (s : State) (r t : Nat) : Nat :=
  match s.drg.hist.find? (fun h => decide (h.1 ≤ t)) with | some h => aGet 0 h.2 r | none => 0

/-- The projection of R176, in ps: lateness plus its rate times h, which is negative once t_next has passed. -/
def projOf (s : State) (r : Nat) : Int :=
  let t := s.time.sys
  let w := min (1000 * getC s DRG.HOLD_CTRL.PROJ_WIN 1 63) (t - s.psq.launch)
  let lead : Int := 100 * stepHoldLead s + 200
  let h : Int := match s.time.nextB with | some n => min ((n : Int) - t) lead | none => lead
  let l := lateOf s r
  if w < 1000 then l else l + fdiv (((l : Int) - lateAt s r (t - w)) * h) w
def projection (s : State) : Int := regions64.foldl (fun m r => max m (projOf s r)) (projOf s 0)

/-- A late hold, once per step (R182). -/
def lateHold (s : State) : State :=
  let c := chipLate s; let e := reserveEff s
  let s1 := sendHold true 1 ((c - e) / 1000) (getF s DRG.STATUS.HOLDS) { s with drg := { s.drg with lateHold := true } }
  let s2 := setB (setB s1 DRG.STATUS.MISS true) DRG.STATUS.LATE_STEP true
  let s3 := incF s2 DRG.COUNTS.MISSES
  let s4 := sendFault 0x50 0x500 (s.time.step % 2 ^ 32) s3
  event 0x0503 (if confOn s then toLE 8 0 else toLE 4 c ++ toLE 4 e) s4

/-- A lateness hold of the extension the projection asks for (R176, R177). -/
def raiseHold (proj : Int) (s : State) : State :=
  let q := 100 * getC s DRG.HOLD_CTRL.HOLD_QUANTUM 1 255
  let need := (proj + (1000 * getF s DRG.HOLD_CTRL.HOLD_MARGIN : Nat) - reserveEff s).toNat
  let ext := cdiv need (1000 * q) * q
  let n := getF s DRG.STATUS.HOLDS + 1
  let s1 := sendHold false 1 ext n { s with drg := { s.drg with pendExt := s.drg.pendExt + ext } }
  incF (setB (setF s1 DRG.STATUS.HOLDS n) DRG.STATUS.HOLD_PENDING true) DRG.COUNTS.HOLDS

/-- Publish the guard's quantities (Table 7-8). -/
def drgPublish (proj : Int) (s : State) : State :=
  let s1 := setSat s DRG.PROJ.PROJ proj.toNat
  let s2 := setSat s1 DRG.RESERVE_EFF.RESERVE (reserveEff s)
  match holdDeadline s with
  | some d =>
    if d < (s.psq.launch : Int) then setB (setF s2 DRG.DEADLINE_HI.TIME 0xFFFFFFFF) DRG.STATUS.PAST_DEADLINE true
    else setB (setW s2 DRG.DEADLINE_LO.TIME DRG.DEADLINE_HI.TIME d.toNat) DRG.STATUS.PAST_DEADLINE (decide (d < (s.time.sys : Int)))
  | none => setF s2 DRG.DEADLINE_HI.TIME 0xFFFFFFFF

/-- DRG_EVALUATE: one instant of the 250 ns grid (R175, R176, R180 to R182). -/
def drgEvaluate (s : State) : State :=
  let now := s.time.sys
  let h := (now, regions64.foldl (fun m r => aPut 0 m r (lateOf s r)) ([] : Assoc Nat))
  let s0 := { s with drg := { s.drg with hist := h :: s.drg.hist.filter (fun e => decide (now ≤ e.1 + 64000)) } }
  if !jobOn s || localOn s then drgPublish (projection s0) s0
  else
    let s1 := sendDuty s0
    let proj := projection s1
    let s2 :=
      if holdPossible s1 then
        (if (reserveEff s1 : Int) < proj + (1000 * getF s DRG.HOLD_CTRL.HOLD_MARGIN : Nat) then raiseHold proj s1 else s1)
      else if reserveEff s1 < chipLate s1 ∧ !s1.drg.lateHold then lateHold s1
      else s1
    drgPublish proj s2

/-- The strobe or local boundary: latch the ended step's lateness and slack, then count from zero (R174). -/
def drgLatch (s : State) : State :=
  let c := chipLate s
  let s1 := setSat s DRG.LAST_LATE.LATE c
  let s2 := setSatS s1 DRG.LAST_SLACK.SLACK ((reserveEff s : Int) - c)
  let s3 := { s2 with drg := { s2.drg with regions := s2.drg.regions.map (fun e => (e.1, { e.2 with late := 0 })), hist := [],
                                           pendExt := 0, ownDuty := 0, lateHold := false, noHold := false } }
  setB (setB (setB (setF s3 DRG.STATUS.HOLDS 0) DRG.STATUS.HOLD_PENDING false) DRG.STATUS.LATE_STEP false) DRG.STATUS.PAST_DEADLINE false

/-- HOLD_UNANSWERED at the cut of t_next: the extensions are dropped (R179). -/
def holdUnanswered (s : State) : State :=
  if s.drg.pendExt = 0 then s
  else
    let s1 := sendFault 0x51 0x501 (s.drg.pendExt / 100) s
    let s2 := { s1 with drg := { s1.drg with pendExt := 0, noHold := true } }
    setB (setB s2 DRG.STATUS.UNANSWERED true) DRG.STATUS.HOLD_PENDING false

end Sys2Proof.Machine
end

