-- ==== Sys2Proof/Machine/Phase.lean ====
section
/-! DEFINITION. The phase controller (chapter 08): phases and their states, references, the compensator, diode emulation, the phase
target, sheds, the burst, per-phase protection and retirement. -/

namespace Sys2Proof.Machine

/-! ### Rails and phases -/

/-- Rail states (Table 9-1). -/
def rsOff : Nat := 0
def rsWait : Nat := 1
def rsProbe : Nat := 2
def rsSoft : Nat := 3
def rsOn : Nat := 4
def rsStop : Nat := 5
def rsRet : Nat := 6
def rsLatch : Nat := 7

def railSt (s : State) (k : Nat) : Nat := getF s (PHC.RAIL_SEQ.STATE k)
/-- Past soft start: ON or RETENTION (R214). -/
def pastSoft (s : State) (k : Nat) : Bool := railSt s k == rsOn || railSt s k == rsRet
/-- SOFT_START, ON, STOPPING or RETENTION: the rail's phases are driven. -/
def railRuns (s : State) (k : Nat) : Bool := railSt s k == rsSoft || railSt s k == rsStop || pastSoft s k

def phaseSt (s : State) (n : Nat) : PhaseSt := aGet .off s.phc.phases n
/-- Phases of a rail. -/
def phasesOf (k : Nat) : List Nat := (List.range (railPhases k)).map (fun i => railFirst k + i)
/-- The service order: non-retired phases in ascending index, spares after the active ones (R186). -/
def serviceOrder (s : State) (k : Nat) : List Nat := (phasesOf k).filter (fun n => !isRetired s n)

def PhaseSt.isIn : PhaseSt → Bool | .rampIn _ => true | _ => false
def PhaseSt.isOut : PhaseSt → Bool | .rampOut _ _ => true | _ => false
/-- Pulsing: in the live phase-on set outside a burst (Table 8-1). -/
def PhaseSt.pulses : PhaseSt → Bool | .rampIn _ => true | .regulating => true | .rampOut _ _ => true | _ => false
/-- The pulse of a phase's last turn-on, if it has one. -/
def pulseOf (s : State) (n : Nat) : Option Pulse := aFind s.phc.pulses n

/-- A phase takes a state; one that does not pulse, or that begins to ramp in, has no pulse yet. -/
def setPhase (s : State) (n : Nat) (x : PhaseSt) : State :=
  let c := { s.phc with phases := aPut .off s.phc.phases n x }
  { s with phc := if x.pulses && !x.isIn then c else { c with pulses := aDel c.pulses n, limFrom := aDel c.limFrom n } }

/-- Counts towards the target (R198). -/
def PhaseSt.counts : PhaseSt → Bool | .rampIn _ => true | .regulating => true | _ => false

def regulatingOf (s : State) (k : Nat) : Nat := ((phasesOf k).filter (fun n => phaseSt s n == .regulating)).length
def countedOf (s : State) (k : Nat) : Nat := ((phasesOf k).filter (fun n => (phaseSt s n).counts)).length
/-- A burst drives this phase: a VCORE phase neither Off nor Retired (R202). -/
def inBurst (s : State) (n : Nat) : Bool :=
  s.phc.burst.isSome && decide (n < 68) && phaseSt s n != .off && phaseSt s n != .retired
/-- The live phase-on set of R48: a phase ramping in joins it with its first pulse (R198). -/
def phaseOn (s : State) (n : Nat) : Bool :=
  ((phaseSt s n).pulses && (!(phaseSt s n).isIn || (pulseOf s n).any (fun p => p.live))) || inBurst s n

/-- The level a PWM output is driven to (R185). -/
inductive Drive where
  | low | mid | high
  deriving DecidableEq, Repr

/-- The level of a pulse at an instant of the edge grid: high for its duty, then low, in diode emulation until its current is spent
(R189, R196); before a phase's first pulse, mid. -/
def Pulse.level (p : Pulse) (now : Nat) : Drive :=
  if !p.live then .mid
  else if now < p.on + p.high then .high
  else match p.low with | none => .low | some l => if now < p.on + p.high + l then .low else .mid

/-- PH_EN of a phase (Table 8-1, Table 8-3 row 1). -/
def phEn (s : State) (n : Nat) : Bool :=
  !s.phc.allLow && !s.phc.inReset && phaseSt s n != .off && phaseSt s n != .retired && !bit s.phc.phFault n

/-- The first row of Table 8-3 that applies; every output is low after a VAON collapse and mid in a module reset (R21, R310). -/
def pwmDrive (s : State) (n : Nat) : Drive :=
  if s.phc.allLow then .low
  else if !phEn s n then .mid
  else if s.phc.ocTrip.contains n || (!inBurst s n && (pulseOf s n).any (fun p => p.lim)) then .low
  else if (pulseOf s n).any (fun p => p.neg) then .mid
  else if inBurst s n then .high
  else match pulseOf s n with | some p => p.level (80 * s.time.ticks) | none => .mid

/-! ### Sense and references -/

/-- Is a sense point excluded as open (R52)? -/
def pointOpen (s : State) (p : Nat) : Bool := bit (getF s SNS.SENSE_STATUS.OPEN) p
def pointCode (s : State) (p : Nat) : Nat := aGet 0 s.sns.pts p

/-- The regulated sense value in nV: VCORE the mean of its included points, another rail its own point (R51, R52). -/
def senseNv (s : State) (k : Nat) : Nat :=
  if k = 0 then
    (if pointOpen s 0 && !pointOpen s 1 then 500000 * pointCode s 1
     else if pointOpen s 1 && !pointOpen s 0 then 500000 * pointCode s 0
     else 250000 * (pointCode s 0 + pointCode s 1))
  else 500000 * pointCode s (k + 1)

/-- The same in 0.5 mV, rounded down. -/
def senseHalf (s : State) (k : Nat) : Nat := senseNv s k / 500000

/-- The regulation reference in nV: VCORE adds the pre-lift offset, cut at 0.85 V (R155, R194). -/
def regRef (s : State) (k : Nat) : Nat :=
  let r := (railRec s k).ref
  if k = 0 then max r (min (r + s.psq.lift) 850000000) else r

/-- Ramp rate of a rail in nV per tick: SP_SLEW past soft start, SS_SLEW in it, STOP_SLEW when stopping, 10 mV/µs in RETENTION (R194, R217,
R219, R303). -/
def slewNv (s : State) (k : Nat) : Nat :=
  if railSt s k = rsSoft then 2500 * getC s (PHC.SS_CTRL.SS_SLEW k) 1 40
  else if railSt s k = rsStop then 2500 * getC s PHC.SEQ_CTRL.STOP_SLEW 1 40
  else if railSt s k = rsRet then 100000
  else 10000 * getC s PHC.CTRL.SP_SLEW 1 25

/-- One rail's reference over a number of ticks: it ramps to its target and stays. -/
def rampRail (slew ticks now : Nat) (x : Rail) : Rail :=
  if !x.ramping then x
  else if ticks ≤ x.delay then { x with delay := x.delay - ticks }
  else
    let d := (ticks - x.delay) * slew
    let gap := if x.ref < x.tgt then x.tgt - x.ref else x.ref - x.tgt
    if gap ≤ d then
      { x with ref := x.tgt, delay := 0, doneAt := match x.doneAt with | some t => some t | none => some (now + x.delay + cdiv gap slew) }
    else { x with ref := if x.ref < x.tgt then x.ref + d else x.ref - d, delay := 0 }

def inDe (s : State) (k : Nat) : Bool := getB s (PHC.RAIL_STATUS.DE k)

/-! ### PWM and interleave -/

/-- The pulsing phases of a rail in turn-on order: the service order, then retired phases that still ramp out (R188, R209). -/
def laneOf (s : State) (k : Nat) : List Nat :=
  (serviceOrder s k ++ (phasesOf k).filter (isRetired s)).filter (fun n => (phaseSt s n).pulses)

/-- Turn-on of a phase after its rail's period start, on the 125 ps grid: i × 1,000 ns / N, rounded (R188). -/
def laneOffset (lane : List Nat) (n : Nat) : Nat := (16000 * lane.idxOf n + lane.length) / (2 * max 1 lane.length)

/-- The last period start of a rail at or before an instant, in ticks (R188). -/
def periodStart (k t : Nat) : Nat := t - (t + 100 - 25 * k) % 100

/-- High time of a pulse, on the 125 ps grid: the duty, in 2^-16, times 1,000 ns, times the part of a ramp that has passed, or is left;
pulses under 20 ns are not issued (R189, R198, R200). -/
def pulseHigh (duty : Nat) (st : PhaseSt) (on : Nat) : Nat :=
  let part := match st with
    | .rampIn t => min 64000 (on - 80 * t) | .rampOut t _ => 64000 - min 64000 (on - 80 * t) | _ => 64000
  let h := (16000 * duty * part + 65536 * 64000) / (2 * 65536 * 64000)
  if h < 160 then 0 else h

/-- Low time of a pulse in diode emulation, by volt-second balance: high × (Vin - Vout) / Vout with the bus voltage (R54) and the rail's
reference, within the period (R196; DESIGN CHOICE, log entry 82). -/
def pulseLow (s : State) (k high : Nat) : Nat :=
  let v := regRef s k; let vin := 2500000 * getF s SNS.BUS_V.VOLTAGE
  min (8000 - high) (if v = 0 then 8000 else high * (vin - v) / v)

/-- Turn-ons of a phase in an interval of ticks, `old` and `new` the interleaves before and from the first period start in it: the last
one, and how many. -/
def turnOns (k n t0 t1 : Nat) (old new : List Nat) : Option (Nat × Nat) :=
  let p0 := periodStart k t0; let p1 := periodStart k t1
  let at' := fun (p : Nat) =>
    let lane := if t0 < p then new else old
    if lane.contains n then some (80 * p + laneOffset lane n) else none
  let inside := fun (p : Nat) => match at' p with | some o => decide (80 * t0 < o) && decide (o ≤ 80 * t1) | none => false
  let p := if inside p1 then some p1 else if p0 < p1 && inside (p1 - 100) then some (p1 - 100) else none
  match p with
  | some p => (at' p).map (fun o => (o, (p - if inside p0 then p0 else p0 + 100) / 100 + 1))
  | none => none

/-- A phase turns on, `m` times up to `on`: its pulse takes the duty and the mode of the rail in force; with its comparator tripped each of
its periods is limited and counts (R189, R196, R205, R224). -/
def turnOn (k n on m : Nat) (s : State) : State :=
  let high := pulseHigh (getF s (PHC.DUTY.DUTY k)) (phaseSt s n) on
  let was := pulseOf s n
  let lim := s.phc.ocTrip.contains n && !inBurst s n
  let p : Pulse := ⟨on, high, if inDe s k then some (pulseLow s k high) else none, lim, false,
    was.any (fun p => p.live) || decide (0 < high) || !(phaseSt s n).isIn⟩
  let from' :=
    if lim then (if (was.any (fun p => p.lim)) then s.phc.limFrom else aIns s.phc.limFrom n (on - 8000 * (m - 1)))
    else if m = 1 ∧ was.any (fun p => p.lim) then s.phc.limFrom else aDel s.phc.limFrom n
  let s1 := { s with phc := { s.phc with pulses := aIns s.phc.pulses n p, limFrom := from' } }
  if lim then setSat s1 (PHC.OC_COUNT.COUNT n) (getF s1 (PHC.OC_COUNT.COUNT n) + m) else s1

/-- The PWM periods of a rail over a number of ticks: from a period start on its pulsing phases share the interleave (R188). -/
def laneAdvance (ticks k : Nat) (s : State) : State :=
  let t0 := s.time.ticks; let t1 := t0 + ticks
  let old := (railRec s k).lane
  let new := if t0 < periodStart k t1 then laneOf s k else old
  let s1 := (laneOf s k).foldl (fun t n => match turnOns k n t0 t1 old new with | some (on, m) => turnOn k n on m t | none => t) s
  setRail s1 k { railRec s1 k with lane := new }

/-- What the rails do over a number of ticks: phases turn on, references ramp; a follower that tracks takes its reference at the samples
instead (R222). -/
def phcAdvance (ticks : Nat) (s : State) : State :=
  if ticks = 0 then s
  else (rails4.filter (railRuns s)).foldl (fun t k =>
    let u := laneAdvance ticks k t
    let x := railRec u k
    if x.tracks then u else setRail u k (rampRail (slewNv u k) ticks s.time.ticks x)) s

/-! ### Diode emulation -/

/-- Leave diode emulation at once; the dwell starts again from zero (R196). Soft start stays in it (R220). -/
def deExit (k : Nat) (s : State) : State :=
  let s1 := setRail s k { railRec s k with deRun := 0 }
  if railSt s k = rsSoft then s1 else setB s1 (PHC.RAIL_STATUS.DE k) false

/-- Move a rail's setpoint target; the ramp starts after `delay` ticks from the reference in force (R194), and a downward ramp of a rail
past soft start takes it out of diode emulation (R196). -/
def retarget (k tgt delay : Nat) (s : State) : State :=
  let x := railRec s k
  if x.tgt = tgt then s
  else
    let s1 := setRail s k { x with tgt := tgt, ramping := true, delay := delay, doneAt := none }
    if tgt < x.ref && pastSoft s k then deExit k s1 else s1

/-- The reference of a rail falls. -/
def rampsDown (s : State) (k : Nat) : Bool := let x := railRec s k; x.ramping && decide (x.tgt < x.ref)

/-- DE_PCT of the capacity, in 0.125 A (R196). -/
def deThreshold (s : State) (k : Nat) : Nat := getC s PHC.DE_CTRL.DE_PCT 1 20 * regulatingOf s k * ratingA k * 8 / 100

/-- The sample's part of diode emulation: below the threshold the dwell counts, above it the rail leaves; while the reference falls it
sinks current in forced conduction (R196). -/
def deSample (k : Nat) (s : State) : State :=
  if !pastSoft s k then s
  else if !bit (getF s PHC.DE_CTRL.DE_EN) k || rampsDown s k then deExit k s
  else if aGet 0 s.sns.railI k < (deThreshold s k : Int) then
    setRail s k { railRec s k with deRun := (railRec s k).deRun + 1 }
  else if inDe s k ∧ aGet 0 s.sns.railI k = (deThreshold s k : Int) then s
  else deExit k s

/-- DE_ENTER: below the threshold for DE_DWELL (R196). -/
def deEnter (k : Nat) (s : State) : State :=
  if pastSoft s k && bit (getF s PHC.DE_CTRL.DE_EN) k && !inDe s k &&
      decide (40 * getC s PHC.DE_CTRL.DE_DWELL 1 255 ≤ (railRec s k).deRun) && !(k == 0 && s.phc.burst.isSome)
  then setB s (PHC.RAIL_STATUS.DE k) true else s

/-! ### Phase count -/

/-- ADD_A of a rail (R199). -/
def addA (s : State) (k : Nat) : Nat :=
  match k with
  | 0 => getC s PHC.ADD_CTRL.ADD_A_VCORE 10 75 | 1 => getC s PHC.ADD_CTRL.ADD_A_VMEM 10 40
  | 2 => getC s PHC.ADD_CTRL.ADD_A_VLINK 10 40 | _ => 20

/-- ⌈I / ADD_A⌉ for a current in 0.125 A. -/
def phasesFor (s : State) (k : Nat) (i : Int) : Nat := cdiv i.toNat (8 * addA s k)

/-- The plan floor, in force while the plan positions phases (R153, R156, R200). -/
def planFloor (s : State) (k : Nat) : Nat :=
  if planState s = planRunning ∧ getB s PSQ.CTRL.PREPOS_EN then aGet 0 s.psq.floor k else 0

/-- The largest of floor, request and reactive requirement, limited to avail(k), at least 1 on a running rail (R197); in soft start only
the reactive requirement adds to START_PH (R220). -/
def wantTarget (s : State) (k : Nat) : Nat :=
  let x := railRec s k
  if railSt s k = rsSoft then (if k = 3 then 0 else min (availOf s k) x.react)
  else if k = 3 then availOf s 3
  else min (availOf s k) (max (if pastSoft s k then 1 else 0) (max (planFloor s k) (max x.req x.react)))

/-- Bring in the next Standby phases of the service order until as many count as the target (R198). -/
def bringIn (k : Nat) (s : State) : State :=
  let need := (railRec s k).target - countedOf s k
  (((serviceOrder s k).filter (fun n => phaseSt s n == .standby)).take need).foldl (fun t n => setPhase t n (.rampIn s.time.ticks)) s

/-- The target rises at once when one of its terms rises (R197); it never falls here. In a stop it stays, and phases lost are replaced
(R207, R217). -/
def raiseTarget (k : Nat) (s : State) : State :=
  if !railRuns s k then s
  else if railSt s k = rsStop then bringIn k s
  else
    let t := max (min (railRec s k).target (availOf s k)) (wantTarget s k)
    bringIn k (setRail s k { railRec s k with target := t })

/-- Phases of the rail that are being shed (ramping out, not to be retired). -/
def shedding (s : State) (k : Nat) : List Nat :=
  (phasesOf k).filter (fun n => match phaseSt s n with | .rampOut _ 0 => true | _ => false)

/-- PHC_SHED_ABORT of a rail past soft start: every phase being shed returns to Regulating; sheds are inhibited for 1 ms (R201); a
burst that aborts a shed of the plan breaks repeatable mode (R162). -/
def shedAbort (k cause : Nat) (s : State) : State :=
  match (if pastSoft s k then shedding s k else []) with
  | [] => s
  | l =>
    let s1 := l.foldl (fun t n => setPhase t n .regulating) s
    let s2 := setRail s1 k { railRec s1 k with inhUntil := s.time.ticks + ms 1, target := max (railRec s1 k).target (countedOf s1 k) }
    let s3 := event 0x0601 [k, cause] (incF (setB s2 (PHC.RAIL_STATUS.SHED_INH k) true) PHC.SHED_STATUS.ABORTS)
    if cause = 1 ∧ getB s PSQ.CTRL.PREPOS_EN then repeatBreaks 1 s3 else s3

/-- A burst on VCORE, and an add on any rail, abort the sheds of every rail (R201). -/
def shedAborts (cause : Nat) (s : State) : State := rails4.foldl (fun t j => shedAbort j cause t) s

/-- A shed: the target falls and phases ramp out in descending service order (R200). -/
def shedTo (k tgt : Nat) (s : State) : State :=
  if getB s (PHC.RAIL_STATUS.SHED_INH k) ∨ (railRec s k).target ≤ tgt then s
  else
    let s1 := setRail s k { railRec s k with target := tgt }
    let on := (serviceOrder s k).filter (fun n => (phaseSt s n).counts)
    (on.drop tgt).foldl (fun t n => setPhase t n (.rampOut s.time.ticks 0)) s1

/-- An add of phases of a rail: for the reactive requirement (cause 2) when it exceeds the target, or an add action (cause 3); it aborts
sheds and leaves diode emulation (R196, R198, R201). -/
def addPhases (k cause : Nat) (s : State) : State :=
  if !railRuns s k ∨ railSt s k = rsStop then s
  else if cause = 3 ∨ (railRec s k).target < wantTarget s k then raiseTarget k (deExit k (shedAborts cause s))
  else raiseTarget k s

/-- The reactive requirement of a rail from its 1 µs average (R199). -/
def reactiveAdd (k : Nat) (avg : Int) (s : State) : State :=
  if k = 3 then s
  else addPhases k 2 (setRail s k { railRec s k with react := phasesFor s k avg })

/-- Keep the 1 µs averages of the last 1 ms that may still be its largest (R200). -/
def noteImax (k : Nat) (avg : Int) (s : State) : State :=
  let now := s.time.ticks
  let l := (railRec s k).imax.filter (fun e => decide (now < e.1 + ms 1) && decide (avg < e.2))
  setRail s k { railRec s k with imax := l ++ [(now, avg)] }
def imaxOf (s : State) (k : Nat) : Int :=
  ((railRec s k).imax.filter (fun e => decide (s.time.ticks < e.1 + ms 1))).foldl (fun m e => max m e.2) 0
/-- The last 1 µs average (I_cut of R200). -/
def icutOf (s : State) (k : Nat) : Int := match (railRec s k).imax.getLast? with | some e => e.2 | none => 0

/-- PHASE_RAMP_IN_DONE: 8 µs after it began a phase is Regulating (R198). -/
def phaseRampInDone (n : Nat) (s : State) : State :=
  match phaseSt s n with
  | .rampIn t => if t + us 8 ≤ s.time.ticks then setPhase s n .regulating else s
  | _ => s

/-- PHASE_RAMP_OUT_DONE: a shed phase goes to Standby, a retired one off (R200, R209). -/
def phaseRampOutDone (n : Nat) (s : State) : State :=
  match phaseSt s n with
  | .rampOut t c => if t + us 8 ≤ s.time.ticks then setPhase s n (if c = 0 then .standby else .retired) else s
  | _ => s

/-- SHED_INH_END (R201). -/
def shedInhEnd (k : Nat) (s : State) : State :=
  if getB s (PHC.RAIL_STATUS.SHED_INH k) && decide ((railRec s k).inhUntil ≤ s.time.ticks) then
    setB s (PHC.RAIL_STATUS.SHED_INH k) false else s

/-! ### Retirement -/

/-- Faults that a retirement may bring (R210): no spare left, and capacity newly below the sustained limit. -/
def capacityFaults (k before : Nat) (s : State) : State :=
  let a := availOf s k
  let s1 := if liveCount s k ≤ railActive k then sendFault 0x63 (0x680 + k) a s else s
  if a * ratingA k < sustainedA k ∧ sustainedA k ≤ before * ratingA k then sendFault 0x64 (0x680 + k) (a * ratingA k) s1 else s1

/-- Mark a phase retired in the service order (Table 8-4) and record the event. -/
def markRetired (n cause : Nat) (s : State) : State :=
  let f := PHC.RETIRED.RETIRED (n / 32)
  event 0x0602 [n, cause] (setF s f (setBit (getF s f) (n % 32)))

/-- Retire at once (R207). -/
def retireNow (n cause : Nat) (s : State) : State :=
  if isRetired s n then s
  else
    let k := railOf n; let before := availOf s k
    raiseTarget k (capacityFaults k before (setPhase (markRetired n cause s) n .retired))

/-- Retire at a boundary: the phase ramps out and its spare ramps in (R209); on a rail that is off its phase stays Off (R185). -/
def retireAtBoundary (n cause : Nat) (s : State) : State :=
  if isRetired s n then s
  else
    let k := railOf n; let before := availOf s k
    let next := if (phaseSt s n).pulses then PhaseSt.rampOut s.time.ticks cause else if phaseSt s n = .off then .off else .retired
    raiseTarget k (capacityFaults k before (setPhase (markRetired n cause s) n next))


/-- Ask for a boundary retirement, once. -/
def askRetire (n cause : Nat) (s : State) : State :=
  if isRetired s n ∨ s.acts.any (fun a => match a.kind with | .retire m _ => m == n | _ => false) then s
  else { s with acts := s.acts ++ [⟨.retire n cause, false, none, 0⟩] }

/-- PHASE_FAULT: PH_FAULT active for 1 µs; a driven phase is disabled and retired at once, one that already ramps out to be retired is
disabled; the input of a phase that is Off is seen when its rail starts (R207, R445). -/
def phaseFault (n : Nat) (s : State) : State :=
  let s1 := { s with phc := { s.phc with phFault := setBit s.phc.phFault n } }
  if phaseSt s n = .off ∨ phaseSt s n = .retired then s1
  else
    let s2 := sendFault 0x60 (0x600 + n) (railOf n) s1
    if isRetired s n then setPhase s2 n .retired else retireNow n 1 s2

/-- A phase returns to the service order in Standby (R211). Its PH_FAULT, if it was active, may be so still, which no event says: a free
value decides, and the phase is then retired again (log entry 13). -/
def restorePhase (n : Nat) (s : State) : State :=
  if !isRetired s n then s
  else
    let f := PHC.RETIRED.RETIRED (n / 32)
    let s1 := setF s f (clrBit (getF s f) (n % 32))
    let s2 := raiseTarget (railOf n) (event 0x0603 [n] (setPhase s1 n (if railRuns s1 (railOf n) then .standby else .off)))
    if !bit s2.phc.phFault n then s2
    else if freeVal s2 % 2 = 0 then freeNext { s2 with phc := { s2.phc with phFault := clrBit s2.phc.phFault n } }
    else phaseFault n (freeNext s2)

/-- PHASE_HOT: above PH_HOT for HOT_ROUNDS valid rounds (Table 8-4). -/
def phaseHot (n : Nat) (s : State) : State :=
  if getC s PHC.RETIRE_CTRL.HOT_ROUNDS 1 255 ≤ aGet 0 s.phc.hotRun n ∧ !isRetired s n ∧
      !(s.acts.any (fun a => match a.kind with | .retire m _ => m == n | _ => false)) then
    askRetire n 3 (sendFault 0x61 (0x600 + n) (ux 32 (getS s (HKS.CH.VALUE (0x300 + n)))) s)
  else s

/-- PHASE_IMBALANCE: off the rail mean for 100 judged rounds (Table 8-4). -/
def phaseImbalance (n : Nat) (s : State) : State :=
  if 100 ≤ aGet 0 s.phc.imbRun n ∧ !isRetired s n ∧
      !(s.acts.any (fun a => match a.kind with | .retire m _ => m == n | _ => false)) then
    askRetire n 4 (sendFault 0x62 (0x600 + n) (ux 32 (aGet 0 s.phc.imbDep n)) s)
  else s

/-- PHC_RETIRED_WRITE: each one written over a retired phase returns it at the next boundary (R211). -/
def phcRetiredWrite (w val : Nat) (s : State) : State :=
  ((List.range 32).filter (fun b => bit val b && decide (32 * w + b < 98) && isRetired s (32 * w + b))).foldl
    (fun t b => { t with acts := t.acts ++ [⟨.restore (32 * w + b), false, none, 0⟩] }) s

/-! ### The burst and the per-phase limits -/

/-- BURST_DEPTH in nV, BURST_EXIT in nV (never above it), BURST_SLEW in nV per µs (Table 8-9). -/
def burstDepth (s : State) : Nat := 1000000 * getC s PHC.BURST_CTRL.BURST_DEPTH 15 100
def burstExit (s : State) : Nat := min (burstDepth s) (1000000 * getF s PHC.BURST_CTRL.BURST_EXIT)
def burstSlew (s : State) : Nat := 1000000 * getC s PHC.BURST_CTRL.BURST_SLEW 5 100

/-- Does something hold at an included sense point of VCORE (R52, R202)? -/
def atPoint (s : State) (a b : Bool) : Bool := (a && !pointOpen s 0) || (b && !pointOpen s 1)

/-- The comparators of R202, as a cause: 1 depth, 2 slew, 3 both, 0 none. -/
def burstCauseOf (s : State) (p : VcorePoints) : Nat :=
  let deep := fun (v : Nat) => decide (v + burstDepth s < regRef s 0)
  let fast := fun (r : Nat) => decide (burstSlew s < r)
  b2n (atPoint s (deep p.va) (deep p.vb)) + 2 * b2n (atPoint s (fast p.ra) (fast p.rb))

/-- Both included points are above the exit level and no slew comparator is tripped (R203). -/
def burstOver (s : State) (p : VcorePoints) : Bool :=
  let under := fun (v : Nat) => decide (v + burstExit s ≤ regRef s 0)
  let fast := fun (r : Nat) => decide (burstSlew s < r)
  !atPoint s (under p.va) (under p.vb) && !atPoint s (fast p.ra) (fast p.rb)

/-- ALL_PHASE_BURST: a comparator trips; armed only past soft start, outside a burst and its rearm interval (R202, R203). Comparators
already tripped limit their phases in this burst (R205). -/
def allPhaseBurst (p : VcorePoints) (s : State) : State :=
  let cause := burstCauseOf s p
  if cause = 0 ∨ !pastSoft s 0 ∨ s.phc.burst.isSome ∨ s.phc.rearm ≠ 0 then s
  else
    let s1 := setF (incF s PHC.BURST_STATUS.COUNT) PHC.BURST_STATUS.LAST_CAUSE cause
    let s2 := deExit 0 (shedAborts 1 s1)
    let s3 := { s2 with phc := { s2.phc with burst := some s.time.ticks, burstCause := cause } }
    let hit := s3.phc.ocTrip.filter (fun n => inBurst s3 n)
    hit.foldl (fun t n => incF t (PHC.OC_COUNT.COUNT n)) { s3 with phc := { s3.phc with ocBurst := hit } }

/-- BURST_END: on recovery, or BURST_MAX after the decision; every Regulating phase then waits for its next turn-on (R203). -/
def burstEnd (p : VcorePoints) (s : State) : State :=
  match s.phc.burst with
  | none => s
  | some t0 =>
    if !burstOver s p ∧ s.time.ticks < t0 + getC s PHC.BURST_CTRL.BURST_MAX 5 20 then s
    else
      let e := (regRef s 0 : Int) - senseNv s 0
      let s1 := setRail s 0 { railRec s 0 with e1 := e, e2 := e }
      let s2 := setSat s1 PHC.BURST_STATUS.LONGEST (max (getF s PHC.BURST_STATUS.LONGEST) (s.time.ticks - t0))
      { s2 with phc := { s2.phc with burst := none, rearm := s.time.ticks + 10 * getC s PHC.PROT_CTRL.BURST_REARM 2 255, ocBurst := [],
                                     pulses := s2.phc.pulses.map (fun e => (e.1, if e.1 < 68 then { e.2 with high := 0 } else e.2)) } }

/-- BURST_REARM_END (R203). -/
def burstRearmEnd (s : State) : State :=
  if s.phc.rearm ≠ 0 ∧ s.phc.rearm ≤ s.time.ticks then { s with phc := { s.phc with rearm := 0 } } else s

/-- PHASE_OC_TRIP: the phase is driven low for the rest of its period, in a burst until release; each period, and each burst, in which the
limit acted counts once (R205). -/
def phaseOcTrip (n : Nat) (s : State) : State :=
  if s.phc.ocTrip.contains n then s
  else
    let s1 := { s with phc := { s.phc with ocTrip := insN n s.phc.ocTrip } }
    if inBurst s n then
      (if s.phc.ocBurst.contains n then s1
       else incF { s1 with phc := { s1.phc with ocBurst := insN n s1.phc.ocBurst } } (PHC.OC_COUNT.COUNT n))
    else match pulseOf s n with
      | none => s1
      | some p =>
        if p.lim then s1
        else
          let fr := if (aFind s.phc.limFrom n).isSome then s.phc.limFrom else aIns s.phc.limFrom n p.on
          incF { s1 with phc := { s1.phc with pulses := aIns s1.phc.pulses n { p with lim := true }, limFrom := fr } } (PHC.OC_COUNT.COUNT n)

/-- Every pulsing phase of a rail has been at its limit in every period for a time in ns (R224). -/
def limitedFor (s : State) (k d : Nat) : Bool :=
  let on := (phasesOf k).filter (fun n => (phaseSt s n).pulses)
  !on.isEmpty && on.all (fun n => (aFind s.phc.limFrom n).any (fun t => decide (t + 8 * d ≤ 80 * s.time.ticks)))

/-- PHASE_OC_RELEASE: during a burst the phase is driven high again (R205). -/
def phaseOcRelease (n : Nat) (s : State) : State := { s with phc := { s.phc with ocTrip := remN n s.phc.ocTrip } }

/-- Negative limit of the phases in forced-continuous operation: mid for the rest of the period (R206). -/
def negLimit (s : State) : State :=
  let lim : Int := -(8 * (getC s PHC.PROT_CTRL.NEG_LIMIT 1 20 : Int))
  { s with phc := { s.phc with
    pulses := s.phc.pulses.map (fun e => (e.1, if e.2.low.isNone && decide (aGet 0 s.sns.phI e.1 < lim) then { e.2 with neg := true } else e.2)) } }

/-! ### The compensator -/

/-- The feed-forward part ref / (bus_v / 8) in 2^-16/10^6 of full duty; with the bus at code 0 the spec states no quotient, and it is a
free value (log entry 2). -/
def ffDuty (s : State) (nv : Nat) : Int :=
  let code := getF s SNS.BUS_V.VOLTAGE
  if code = 0 then (freeVal s : Int) else ((nv * 65536 * 1000000 / (code * 2500000) : Nat) : Int)

/-- One sample of a rail's compensator (R189); in soft start the duty is also clamped to the reference plus 100 mV (R220). -/
def compSample (k : Nat) (s : State) : State :=
  if !railRuns s k ∨ (k = 0 ∧ s.phc.burst.isSome) then s
  else
    let x := railRec s k
    let e := (regRef s k : Int) - senseNv s k
    let kp := getS s (PHC.COMP_PI.KP k); let ki := getS s (PHC.COMP_PI.KI k); let kd := getS s (PHC.COMP_D.KD k)
    let c := clampI (-16384000000) 16384000000 (x.c + kp * (e - x.e1) + ki * e + kd * (e - 2 * x.e1 + x.e2))
    let top := if railSt s k = rsSoft then min 26214 (fdiv (ffDuty s (regRef s k + 100000000)) 1000000) else 26214
    let d := clampI 0 (max 0 top) (fdiv (ffDuty s (regRef s k) + c) 1000000)
    let s1 := setF (setRail s k { x with c := c, e1 := e, e2 := x.e1 }) (PHC.DUTY.DUTY k) d.toNat
    if getF s SNS.BUS_V.VOLTAGE = 0 then freeNext s1 else s1

/-! ### Selects and FMAX -/

/-- The beat-rate ceiling that follows from a VCORE select: a lower FMAX falls at the swap and delays the ramp by 100 ns; a higher one
rises when the ramp has reached the new voltage (R195). In RETENTION the reference follows the select from the exit on (R303). -/
def applySel (k sel : Nat) (s : State) : State :=
  let s1 := setF s (PHC.RAIL_STATUS.SEL k) sel
  let tgt := 1250000 * spV s k sel
  if k ≠ 0 then (if pastSoft s k then retarget k tgt 0 s1 else s1)
  else
    let f := spF s sel
    let lower := decide (f < s.phc.fmax)
    let settled := !pastSoft s 0 || ((railRec s 0).ref == tgt && (railRec s 0).tgt == tgt)
    let s2 := { s1 with phc := { s1.phc with fmax := if lower || settled then f else s.phc.fmax } }
    if railSt s 0 = rsOn ∨ (railSt s 0 = rsRet ∧ getF s STA.REST_STATUS.STATE = 5) then retarget 0 tgt (if lower then 10 else 0) s2 else s2

/-- SETPOINT_RAMP_DONE: the reference has reached its target; a higher FMAX rises now (R195). -/
def setpointRampDone (k : Nat) (s : State) : State :=
  let x := railRec s k
  if !x.ramping ∨ x.ref ≠ x.tgt ∨ railSt s k ≠ rsOn then s
  else
    let s1 := setRail s k { x with ramping := false }
    if k = 0 then { s1 with phc := { s1.phc with fmax := spF s (getF s (PHC.RAIL_STATUS.SEL 0)) } } else s1

/-- VSEL_LATCH: a value read on four consecutive 250 ns samples is latched (R193). -/
def vselLatch (v : Nat) (s : State) : State :=
  if s.time.ticks % 25 ≠ 0 ∨ s.time.ticks < s.phc.vselFrom then s
  else let s1 := setF s PHC.VSEL.PINS v; { s1 with phc := { s1.phc with vselFrom := s.time.ticks + 100 } }

/-- Hot-stage and imbalance runs of a housekeeping or 1 ms round (Table 8-4). -/
def hotRound (s : State) : State :=
  let lim : Int := 16 * getF s PHC.RETIRE_CTRL.PH_HOT
  let run := (List.range 98).foldl (fun m n =>
    if !getB s (HKS.CH.VALID (0x300 + n)) then m
    else if lim < getS s (HKS.CH.VALUE (0x300 + n)) then aPut 0 m n (aGet 0 m n + 1) else aPut 0 m n 0) s.phc.hotRun
  { s with phc := { s.phc with hotRun := run } }

/-- A judged 1 ms round of a rail: above 25 % of capacity, each Regulating phase against the mean of the Regulating phases. -/
def imbalanceRound (k : Nat) (s : State) : State :=
  let reg := (phasesOf k).filter (fun n => phaseSt s n == .regulating)
  let samples := max 1 s.sns.outN
  let sum := reg.foldl (fun a n => a + aGet 0 s.sns.phSum n) (0 : Int)
  let cap := reg.length * ratingA k * 8
  if reg = [] ∨ sum * 4 ≤ (cap * samples : Nat) ∨ !pastSoft s k then s
  else
    let lim : Int := 8 * getC s PHC.RETIRE_CTRL.IMBAL_A 5 255
    reg.foldl (fun t n =>
      let dep := fdiv (aGet 0 s.sns.phSum n * reg.length - sum) (samples * reg.length)
      let run := if lim < dep.natAbs then aGet 0 t.phc.imbRun n + 1 else 0
      { t with phc := { t.phc with imbRun := aPut 0 t.phc.imbRun n run, imbDep := aPut 0 t.phc.imbDep n dep } }) s

end Sys2Proof.Machine
end

