-- ==== Sys2Proof/Machine/Seq.lean ====
section
/-! DEFINITION. The rail sequencer (chapter 09): start, probe, soft start, tracking, the ramped, fault and quick stops, and the start-up
faults. -/

namespace Sys2Proof.Machine

/-- Sequencer states (Table 9-7). -/
def sqIdle : Nat := 0
def sqStarting : Nat := 1
def sqUp : Nat := 2
def sqStopping : Nat := 3
def sqFaultStop : Nat := 4
def sqQuickStop : Nat := 5

def seqState (s : State) : Nat := getF s PHC.SEQ_STATUS.SEQ_STATE
def setSeqState (x : Nat) (s : State) : State := setF s PHC.SEQ_STATUS.SEQ_STATE x
def setRailSt (k x : Nat) (s : State) : State := setF s (PHC.RAIL_SEQ.STATE k) x
def setStop (x : Nat) (s : State) : State := { s with phc := { s.phc with stop := x } }
def setDue (t : Nat) (s : State) : State := { s with phc := { s.phc with due := t } }

/-- A start is under way: the sequencer's own, or that of VCORE and VLINK on the way out of Dormant (R304). -/
def starting (s : State) : Bool := seqState s == sqStarting || s.phc.stop == 5

/-- The rail at a position of SEQ_ORDER, and the start and stop orders (R215). For SENSE_LOST R52 names the reverse of the default
sequence where R217, R218 and R225 name the reverse of SEQ_ORDER; with SEQ_ORDER changed every stop follows SEQ_ORDER in force (DESIGN
CHOICE, log entry 72). -/
def orderAt (s : State) (p : Nat) : Nat := bits (getF s PHC.SEQ_CTRL.SEQ_ORDER) (2 * p) 2
def startOrder (s : State) : List Nat := rails4.map (orderAt s)
def stopOrder (s : State) : List Nat := (startOrder s).reverse

/-- The tracking mode of a rail (3 is applied as 0; VAUX has none), and its leader (R222). -/
def trackMode (s : State) (k : Nat) : Nat :=
  let m := getF s (PHC.SS_CTRL.TRACK_MODE k)
  if k = 3 ∨ m = 3 then 0 else m
def leaderOf (s : State) (k : Nat) : Option Nat := if trackMode s k = 0 then none else some (getF s (PHC.SS_CTRL.TRACK_SRC k))

/-- Phases that pulse in soft start and in a stop (R217, R220). -/
def startPh (s : State) (k : Nat) : Nat := getC s (PHC.SS_CTRL.START_PH k) 1 (availOf s k)

/-- The region tile clocks are gated while VCORE is not ON and in a rest state; a late wake counts as a held interval instead (R221,
R297, R306). -/
def regate (s : State) : State :=
  { s with drg := { s.drg with
    gate := (railSt s 0 != rsOn || getF s STA.REST_STATUS.STATE != 0) && !s.sta.late } }

/-- A rest state ends at once (Table 13-3). -/
def restEnds (s : State) : State :=
  let st := getF s STA.REST_STATUS.STATE
  let deep := st == 3 || st == 4 || (st == 5 && decide (3 ≤ s.sta.exitOf))
  let s0 := if st = 0 then s else setF s STA.REST_STATUS.LAST (if st = 5 then s.sta.exitOf else st)
  let s1 := setF s0 STA.REST_STATUS.STATE 0
  { s1 with sta := { s1.sta with run1 := 0, run2 := 0, run4 := 0, exitOf := 0, sr := 0, late := false,
                                 endDeep := s.sta.endDeep || deep, endLate := s.sta.endLate || s.sta.late } }

/-- The four rail states, one byte each, as SEQ_START_DONE and SEQ_STOP_DONE carry them. -/
def railStates (s : State) : List Nat := rails4.map (railSt s)

/-- The voltage of the select in force, in nV. -/
def selNv (s : State) (k : Nat) : Nat := 1250000 * spV s k (getF s (PHC.RAIL_STATUS.SEL k))

/-- The start point of the last probe, in nV: the average rounded down to 1.25 mV (R219). -/
def startPoint (s : State) (k : Nat) : Nat :=
  let x := railRec s k
  x.prSum / (max 1 x.prN * 1250000) * 1250000

def pgWinNv (s : State) : Nat := 1000000 * getC s PHC.START_CTRL.PG_WIN 5 50
def ovNv (s : State) : Nat := 1000000 * getC s PHC.START_CTRL.OV_MV 50 200

/-! ### Phases of a rail that starts, runs down or goes off -/

/-- The phases of a rail that is OFF, WAIT, PROBE or LATCHED are Off (R185). -/
def phasesOff (k : Nat) (s : State) : State := (phasesOf k).foldl (fun t n => setPhase t n .off) s

/-- The first START_PH phases of the service order regulate, the others stand by (R220). -/
def phasesStart (k : Nat) (s : State) : State :=
  let order := serviceOrder s k
  let s0 := ((phasesOf k).filter (isRetired s)).foldl (fun t n => setPhase t n .retired) s
  let s1 := (order.drop (startPh s k)).foldl (fun t n => setPhase t n .standby) s0
  (order.take (startPh s k)).foldl (fun t n => setPhase t n .regulating) s1

/-- Phases of a starting rail whose PH_FAULT is active are disabled and retired (R207, R445). -/
def startFaults (k : Nat) (s : State) : State :=
  ((serviceOrder s k).filter (fun n => bit s.phc.phFault n)).foldl (fun t n => phaseFault n t) s

/-- In a stop, the first START_PH phases regulate and every other Regulating or ramping-in phase ramps out (R217). -/
def phasesStop (k : Nat) (s : State) : State :=
  let order := serviceOrder s k
  let s1 := ((order.drop (startPh s k)).filter (fun n => (phaseSt s n).counts)).foldl
    (fun t n => setPhase t n (.rampOut s.time.ticks 0)) s
  (order.take (startPh s k)).foldl (fun t n => setPhase t n .regulating) s1

/-- A rail goes off, into OFF, WAIT or LATCHED. -/
def railOff (k st : Nat) (s : State) : State :=
  let s1 := setRailSt k st (setRail (phasesOff k s) k Rail.off)
  let s2 := setB (setF s1 (PHC.DUTY.DUTY k) 0) (PHC.RAIL_STATUS.DE k) false
  if k = 0 then regate { s2 with phc := { s2.phc with burst := none, rearm := 0, ocBurst := [] } } else s2

/-! ### Stops -/

/-- The rails that a stop of kind `x` takes: VCORE and VLINK only around Dormant (R304). -/
def stops (x k : Nat) : Bool := x != 4 || k == 0 || k == 2

/-- A rail still driven by regulation: SOFT_START, ON or RETENTION. -/
def canStop (s : State) (k : Nat) : Bool := railSt s k == rsSoft || pastSoft s k

/-- A follower stops in its leader's slot (R223), unless one of the two stays up (R304). -/
def slotOf (s : State) (k : Nat) : Nat :=
  match leaderOf s k with
  | some l => if s.phc.stop = 4 ∧ (!stops 4 k ∨ !stops 4 l) then k else if canStop s l ∨ railSt s l = rsStop then l else k
  | none => k

/-- A rail enters STOPPING: its reference falls from the value in force to 100 mV (R217). -/
def enterStopping (k : Nat) (s : State) : State :=
  let x := railRec s k
  let s1 := phasesStop k s
  let tracks := decide (slotOf s k ≠ k)
  let s2 := setRail s1 k { x with tgt := min x.ref 100000000, ramping := true, delay := 0, tracks := tracks, doneAt := none,
                                  pgRun := 0, lagRun := 0, ovRun := 0, target := startPh s k }
  let s3 := setB (setRailSt k rsStop s2) (PHC.RAIL_STATUS.DE k) false
  if k = 0 then regate { s3 with phc := { s3.phc with burst := none, rearm := 0, ocBurst := [] } } else s3

/-- Every rail is OFF or LATCHED: BUS_EN falls and the sequencer is IDLE (R217, R225). -/
def stopDone (s : State) : State :=
  let s1 := setStop 0 (setSeqState sqIdle (setB s PHC.SEQ_STATUS.BUS_EN false))
  event 0x0605 (railStates s1) s1

/-- Begin the stop of the next slot when no rail is stopping; with nothing left, the stop is done (R217). -/
def stopNext (s : State) : State :=
  if rails4.any (fun k => railSt s k == rsStop) then s
  else
    match (stopOrder s).find? (fun k => stops s.phc.stop k && canStop s k && slotOf s k == k) with
    | some k =>
      (rails4.filter (fun j => j ≠ k && stops s.phc.stop j && canStop s j && slotOf s j == k)).foldl
        (fun t j => setRail (enterStopping j t) j { railRec (enterStopping j t) j with tracks := true })
        (enterStopping k s)
    | none => if s.phc.stop = 4 then s else stopDone s

/-- Rails in WAIT or PROBE go straight to OFF (R217, R225). -/
def waitersOff (s : State) : State :=
  (rails4.filter (fun k => railSt s k == rsWait || railSt s k == rsProbe)).foldl (fun t k => railOff k rsOff t) s

/-- Begin a ramped stop (1) or a fault stop (2). -/
def beginStop (kind : Nat) (s : State) : State :=
  stopNext (waitersOff (setStop kind (setSeqState (if kind = 2 then sqFaultStop else sqStopping) s)))

/-- A start-up fault: the rail is latched and the others take a fault stop; a rest state ends (R225, Table 9-3, Table 13-3). -/
def startFault (k kind cause info : Nat) (s : State) : State :=
  let s1 := railOff k rsLatch (sendFault kind (0x690 + k) info s)
  let s2 := setF s1 PHC.LATCH.LATCHED (setBit (getF s1 PHC.LATCH.LATCHED) k)
  let s3 := regate (restEnds (setF s2 (PHC.RAIL_SEQ.CAUSE k) cause))
  if seqState s = sqFaultStop then stopNext s3 else beginStop 2 s3

/-- Nothing detects start-up faults during a quick stop (Table 9-3). -/
def faultsArmed (s : State) : Bool := seqState s != sqQuickStop

/-! ### Quick stop -/

/-- PWR_FAIL_N is high and the bus within 46 V to 58 V (R216). -/
def busOk (s : State) : Bool :=
  s.phc.pwrFailN && decide (2300 ≤ getF s SNS.BUS_V.VOLTAGE) && decide (getF s SNS.BUS_V.VOLTAGE ≤ 2900)

/-- Begin a sequence: BUS_EN rises (R216); after a hardware trip none begins (R262). -/
def beginStart (s : State) : State :=
  if getB s TMG.TRIP.TRIPPED then s else
  let s1 := setSeqState sqStarting (setB s PHC.SEQ_STATUS.BUS_EN true)
  let good := if busOk s then some s.time.ticks else none
  { s1 with phc := { s1.phc with busEnAt := s.time.ticks, stop := 0, restart := false, goodAt := good } }

/-- The next rail of a quick stop goes off; after the last the sequencer is IDLE, and a waiting sequence begins (R218). -/
def quickNext (s : State) : State :=
  let left := (stopOrder s).filter (fun k => railSt s k ≠ rsOff && railSt s k ≠ rsLatch)
  let s1 := match left with | k :: _ => setDue (s.time.ticks + us 10) (railOff k rsOff s) | [] => s
  if left.length ≤ 1 then
    let s2 := setStop 0 (setSeqState sqIdle (setB s1 PHC.SEQ_STATUS.BUS_EN false))
    if s2.phc.restart && !s2.phc.allLow && s2.phc.resetN && s2.phc.pwrFailN then beginStart s2 else s2
  else s1

/-- A quick stop begins; a rest state ends at once (R218, R262, R310, Table 13-3). -/
def quickStop (s : State) : State :=
  if seqState s = sqQuickStop then s
  else quickNext (setStop 3 (setSeqState sqQuickStop (regate (restEnds s))))

/-! ### The sequence -/

/-- SEQ_START written by the host driver: refused with a latched rail or a sequence running (R216, Table 9-3). -/
def seqStart (s : State) : State :=
  if getF s PHC.LATCH.LATCHED ≠ 0 ∨ seqState s ≠ sqIdle ∨ getB s TMG.TRIP.TRIPPED then
    setB s PHC.SEQ_STATUS.START_REFUSED true
  else { s with acts := s.acts ++ [⟨.seqStart, false, none, 0⟩] }

/-- The start at its boundary. -/
def seqStartAct (s : State) : State :=
  if getF s PHC.LATCH.LATCHED ≠ 0 ∨ seqState s ≠ sqIdle ∨ getB s TMG.TRIP.TRIPPED then
    setB s PHC.SEQ_STATUS.START_REFUSED true
  else beginStart s

/-- SEQ_STOP written by the host driver: ignored while IDLE and during a fault stop (R217, Table 9-3). -/
def seqStop (s : State) : State :=
  if seqState s = sqStarting ∨ seqState s = sqUp then { s with acts := s.acts ++ [⟨.seqStop, false, none, 0⟩] } else s

def seqStopAct (s : State) : State := if seqState s = sqStarting ∨ seqState s = sqUp then beginStop 1 s else s

/-- The sequence waits for the bus: no rail has left OFF yet. -/
def busWait (s : State) : Bool := seqState s == sqStarting && rails4.all (fun k => railSt s k == rsOff)

/-- A rail enters PROBE. -/
def enterProbe (k : Nat) (s : State) : State :=
  let s1 := railOff k rsProbe s
  setRail s1 k { railRec s1 k with prAt := s.time.ticks }

/-- The next slot: the first waiting rail of the order that follows no waiting rail, with its followers (R215). -/
def slotBegin (s : State) : State :=
  let waits := fun k => railSt s k == rsWait
  let follows := fun k => match leaderOf s k with | some l => waits l && decide (l ≠ k) | none => false
  match (startOrder s).find? (fun k => waits k && !follows k) with
  | some k => (rails4.filter (fun j => waits j && (j == k || leaderOf s j == some k))).foldl (fun t j => enterProbe j t) s
  | none => s

/-- BUS_SETTLE_DONE: the bus has been good for BUS_SETTLE; every rail waits and the first slot starts (R216). -/
def busSettleDone (s : State) : State :=
  match s.phc.goodAt with
  | some t =>
    if busWait s && decide (t + 1000 * getC s PHC.START_CTRL.BUS_SETTLE 10 255 ≤ s.time.ticks) then
      slotBegin (rails4.foldl (fun u k => setRailSt k rsWait u) s)
    else s
  | none => s

/-- BUS_START_FAIL: not settled 20 ms after BUS_EN (R216, R228). -/
def busStartFail (s : State) : State :=
  if busWait s && decide (s.phc.busEnAt + ms 20 ≤ s.time.ticks) then
    setSeqState sqIdle (setB (sendFault 0x6A 0x694 (getF s SNS.BUS_V.VOLTAGE + if s.phc.pwrFailN then 2 ^ 31 else 0) s)
      PHC.SEQ_STATUS.BUS_EN false)
  else s

/-- SEQ_SLOT_START: SEQ_GAP after the previous slot (R215). -/
def seqSlotStart (s : State) : State :=
  if starting s && !rails4.any (fun k => railSt s k == rsProbe || railSt s k == rsSoft) && decide (s.phc.due ≤ s.time.ticks)
  then slotBegin s else s

/-- A leader is refused at the end of its PROBE: followers that began to track ramp on their own, from zero unless pre-biased (R219,
R222). -/
def leaderRefused (k : Nat) (s : State) : State :=
  (rails4.filter (fun j => (railRec s j).tracks && railSt s j == rsSoft && leaderOf s j == some k)).foldl (fun t j =>
    let x := railRec t j
    setB (setRail t j { x with tracks := false, ref := (if getB t (PHC.RAIL_SEQ.PREBIASED j) then x.ref else 0) }) (PHC.RAIL_SEQ.TRACKING j) false) s

/-- RAIL_PROBE_DONE: the three cases of R219, and whether the rail follows its leader (R222); in a quick stop a probe ends with its rail's
turn to go off (R218). -/
def railProbeDone (k : Nat) (s : State) : State :=
  let x := railRec s k
  if railSt s k ≠ rsProbe ∨ x.prN < 40 ∨ seqState s = sqQuickStop then s
  else
    let sp := startPoint s k; let t := selNv s k
    let pre := decide (1000000 * getC s PHC.START_CTRL.PREBIAS_MIN 20 200 ≤ sp)
    let s1 := setF (setB (setB s (PHC.RAIL_SEQ.PREBIASED k) pre) (PHC.RAIL_SEQ.TRACKING k) false) (PHC.RAIL_SEQ.START_V k) (sp / 500000)
    if t + ovNv s < sp then startFault k 0x67 3 (sp / 500000) (leaderRefused k s1)
    else
      let second := decide (t + pgWinNv s < sp)
      let lead := match leaderOf s k with
        | some l => !second && (railSt s l == rsProbe || (railSt s l == rsSoft && !(railRec s l).case2)) | none => false
      let s2 := phasesStart k (setB (setRailSt k rsSoft (if second then leaderRefused k s1 else s1)) (PHC.RAIL_STATUS.DE k) true)
      let ref := if second then t else if pre || lead then sp else 0
      let s3 := setB (setRail s2 k { x with ref := ref, tgt := t, ramping := true, delay := 0, c := 0, e1 := 0, e2 := 0, case2 := second,
                                            tracks := lead, doneAt := if ref = t then some s.time.ticks else none, prAt := s.time.ticks,
                                            target := startPh s k })
        (PHC.RAIL_SEQ.TRACKING k) lead
      startFaults k s3

/-- The fraction x of R222 as a numerator and a denominator; equal start point and target leave it open (log entry 2). -/
def trackX (s : State) (v sL tL : Int) : Int × Nat :=
  if tL = sL then ((freeVal s % 65537 : Nat), 65536)
  else
    let d := if sL < tL then tL - sL else sL - tL
    let n := if sL < tL then v - sL else sL - v
    (clampI 0 d n, d.toNat)

/-- The follower's reference at one sample (R222, R223): `sf` is its start point, `tf` its target. -/
def followRef (s : State) (k l sf tf : Nat) : Nat :=
  let v := senseNv s l; let x := railRec s k
  if trackMode s k = 2 then
    let want := max sf (min tf v); let step := 250000 * getC s (PHC.SS_CTRL.SS_SLEW k) 1 40
    if x.ref < want then min want (x.ref + step) else max want (x.ref - step)
  else
    let q := trackX s v (startPoint s l) (selNv s l)
    (max (sf : Int) (sf + fdiv (((tf : Int) - sf) * q.1) q.2)).toNat

/-- One sample of a rail that follows: by the formula up to the sample at which the leader's reference has reached its target, then alone
(R222, R223). -/
def followSample (k : Nat) (s : State) : State :=
  let x := railRec s k
  if !x.tracks then s
  else
    match leaderOf s k with
    | none => setRail s k { x with tracks := false }
    | some l =>
      let y := railRec s l
      if railSt s k = rsSoft then
        if railSt s l = rsProbe then s
        else if railSt s l ≠ rsSoft ∨ y.case2 then setRail s k { x with tracks := false }
        else
          let r := followRef s k l (startPoint s k) x.tgt
          let s1 := if selNv s l = startPoint s l ∧ trackMode s k = 1 then freeNext s else s
          setRail s1 k { x with ref := r, tracks := decide (y.ref ≠ y.tgt),
                                doneAt := if r = x.tgt then some (x.doneAt.getD s.time.ticks) else none }
      else if railSt s k = rsStop then
        if railSt s l ≠ rsStop then setRail s k { x with tracks := false }
        else
          let r := followRef s k l 0 (selNv s k)
          let s1 := if selNv s l = startPoint s l ∧ trackMode s k = 1 then freeNext s else s
          setRail s1 k { x with ref := min x.ref r }
      else s

/-- One sample of the sequencer: the probe's sum, the follower's reference, and the runs of R221 and R224. -/
def seqSample (k : Nat) (s0 : State) : State :=
  let s := followSample k s0
  let x := railRec s k
  let st := railSt s k
  let v := senseNv s k
  if st = rsProbe then
    (if x.prN < 40 then setRail s k { x with prSum := x.prSum + v, prN := x.prN + 1 } else s)
  else if st = rsSoft ∨ st = rsOn ∨ st = rsRet ∨ st = rsStop then
    let ref := regRef s k
    let base := if x.case2 then max ref (startPoint s k) else ref
    let inWin := decide (v ≤ x.tgt + pgWinNv s) && decide (x.tgt ≤ v + pgWinNv s)
    setRail s k { x with ovRun := if st ≠ rsRet ∧ base + ovNv s < v then x.ovRun + 1 else 0,
                         lagRun := if st = rsSoft ∧ v + 50000000 < ref then x.lagRun + 1 else 0,
                         pgRun := if st = rsSoft ∧ x.ref = x.tgt ∧ inWin then x.pgRun + 1 else 0 }
  else s

/-- The select's voltage moves during SOFT_START: the ramp is retargeted and a second case is judged again (R220). -/
def softRetarget (k tgt : Nat) (s : State) : State :=
  let x := railRec s k
  if railSt s k ≠ rsSoft ∨ x.tgt = tgt then s
  else if x.case2 ∧ tgt + pgWinNv s < senseNv s k then
    setRail s k { x with ref := tgt, tgt := tgt, ramping := true, delay := 0, doneAt := some s.time.ticks, pgRun := 0 }
  else setRail s k { x with tgt := tgt, ramping := true, delay := 0, doneAt := none, case2 := false, pgRun := 0 }

/-- A select takes effect on a rail, in regulation or in soft start (R194, R195, R220). -/
def applySelect (k sel : Nat) (s : State) : State := softRetarget k (1250000 * spV s k sel) (applySel k sel s)

/-- Sequence complete: every rail is ON (R215). -/
def startDone (s : State) : State :=
  if s.phc.stop = 5 then (if railSt s 0 = rsOn ∧ railSt s 2 = rsOn then setStop 0 s else s)
  else if seqState s = sqStarting ∧ rails4.all (fun k => railSt s k == rsOn) then event 0x0604 (railStates s) (setSeqState sqUp s)
  else s

/-- RAIL_POWER_GOOD: the rail is ON (R221). -/
def railPowerGood (k : Nat) (s : State) : State :=
  let x := railRec s k
  if railSt s k ≠ rsSoft ∨ x.ref ≠ x.tgt ∨ x.pgRun < 40 then s
  else
    let s1 := setRailSt k rsOn (setRail s k { x with ramping := false, tracks := false, case2 := false, target := countedOf s k })
    let s2 := setB s1 (PHC.RAIL_STATUS.DE k) (bit (getF s1 PHC.DE_CTRL.DE_EN) k)
    let s3 := if k = 0 then regate s2 else s2
    startDone (raiseTarget k (setDue (s.time.ticks + us (getC s PHC.SEQ_CTRL.SEQ_GAP 10 255)) s3))

/-- RAIL_PG_TIMEOUT: not ON 1 ms after the reference reached the target (R221, R224). -/
def railPgTimeout (k : Nat) (s : State) : State :=
  let x := railRec s k
  match x.doneAt with
  | some t =>
    if railSt s k = rsSoft ∧ !x.case2 ∧ x.ref = x.tgt ∧ t + ms 1 ≤ s.time.ticks ∧ x.pgRun < 40 ∧ faultsArmed s then
      startFault k 0x69 5 (senseHalf s k) s else s
  | none => s

/-- RAIL_PREBIAS_HIGH: the second case not ON within 10 ms of the probe (R221, R224). -/
def railPrebiasHigh (k : Nat) (s : State) : State :=
  let x := railRec s k
  if railSt s k = rsSoft ∧ x.case2 ∧ x.prAt + ms 10 ≤ s.time.ticks ∧ faultsArmed s then
    startFault k 0x67 3 (startPoint s k / 500000) s else s

/-- The lag in 0.5 mV. -/
def lagHalf (s : State) (k : Nat) : Nat := (regRef s k - senseNv s k) / 500000

/-- RAIL_SHORT_START (R224). -/
def railShortStart (k : Nat) (s : State) : State :=
  if railSt s k = rsSoft ∧ 80 ≤ (railRec s k).lagRun ∧ limitedFor s k 20000 ∧ faultsArmed s then
    startFault k 0x65 1 (lagHalf s k) s else s

/-- RAIL_START_STALL (R224). -/
def railStartStall (k : Nat) (s : State) : State :=
  if railSt s k = rsSoft ∧ 400 ≤ (railRec s k).lagRun ∧ faultsArmed s then startFault k 0x66 2 (lagHalf s k) s else s

/-- RAIL_OV, in SOFT_START, ON and STOPPING (R224). -/
def railOv (k : Nat) (s : State) : State :=
  if (railSt s k = rsSoft ∨ railSt s k = rsOn ∨ railSt s k = rsStop) ∧ 4 ≤ (railRec s k).ovRun ∧ faultsArmed s then startFault k 0x68 4 (senseHalf s k) s else s

/-- RAIL_STOP_DONE: the reference has reached 100 mV; the rail is OFF and the next slot's stop begins (R217); a quick stop takes the rails
off by its own times (R218). System time is not valid while VLINK is off in Dormant (R304). -/
def railStopDone (k : Nat) (s0 : State) : State :=
  let s := if k = 2 ∧ s0.phc.stop = 4 ∧ railSt s0 2 = rsStop ∧ (railRec s0 2).ref ≤ 100000000
    then setB s0 GLB.BOUNDARY_STATUS.SYSTIME_VALID false else s0
  if railSt s k = rsStop ∧ seqState s ≠ sqQuickStop ∧ (railRec s k).ref ≤ 100000000 then stopNext (railOff k rsOff s) else s

/-- PWR_FAIL_N falls (R218): the recorder's part is in the recorder. -/
def pwrFailFall (s : State) : State :=
  let s1 := { s with phc := { s.phc with pwrFailN := false, goodAt := none, restart := false } }
  if rails4.all (fun k => railSt s k == rsOff || railSt s k == rsLatch) then
    (if seqState s = sqStopping ∨ seqState s = sqFaultStop then quickStop s1 else s1)
  else quickStop s1

/-- QUICK_STOP_RAIL_OFF: 10 µs after the previous rail (R218). -/
def quickStopRailOff (s : State) : State :=
  if seqState s = sqQuickStop ∧ s.phc.due ≤ s.time.ticks then quickNext s else s

/-- The bus and PWR_FAIL_N are good, or not (R216). -/
def busGood (s : State) : State :=
  let good := if busOk s then some (s.phc.goodAt.getD s.time.ticks) else none
  { s with phc := { s.phc with goodAt := good } }

/-- PWR_FAIL_N returns high: a new sequence follows only if AUTO_START is 1 and no rail is latched (R218, R216). -/
def pwrFailRise (s : State) : State :=
  let s1 := busGood { s with phc := { s.phc with pwrFailN := true } }
  if s.phc.pwrFailN ∨ !getB s PHC.SEQ_CTRL.AUTO_START ∨ getF s PHC.LATCH.LATCHED ≠ 0 ∨ s.phc.allLow ∨ !s.phc.resetN then s1
  else if seqState s = sqQuickStop then { s1 with phc := { s1.phc with restart := true } }
  else if seqState s = sqIdle then beginStart s1
  else s1

/-- LATCH_CLEAR: writing one to a bit makes the latched rail OFF (R226). -/
def latchClear (val : Nat) (s : State) : State :=
  rails4.foldl (fun t k =>
    if bit val k && railSt t k == rsLatch then
      setRailSt k rsOff (setF t PHC.LATCH.LATCHED (clrBit (getF t PHC.LATCH.LATCHED) k)) else t) s

end Sys2Proof.Machine
end

