-- ==== Sys2Proof/Machine/Plan.lean ====
section
/-! DEFINITION. The plan sequencer's walker (chapter 06): plan memory, plan states, boundary times, the feed-forward schedule, pre-lift,
fixed-beat and repeatable mode. -/

namespace Sys2Proof.Machine

/-! ### Plan memory -/

/-- The segment of a half (R144). -/
def segValid (s : State) (h : Nat) : Bool := getB s (PSQ.SEG_COUNT.VALID h)
def segFirst (s : State) (h : Nat) : Nat := getW s (PSQ.SEG_FIRST_LO.STEP h) (PSQ.SEG_FIRST_HI.STEP h)
def segCount (s : State) (h : Nat) : Nat := let c := getF s (PSQ.SEG_COUNT.COUNT h); if c = 0 then 32768 else c

/-- The half that holds an entry for a step: the active half first (R139). -/
def halfOf (s : State) (step : Nat) : Option Nat :=
  let a := getF s PSQ.STATUS.ACTIVE_HALF
  [a, 1 - a].find? (fun h => segValid s h && decide (segFirst s h ≤ step) && decide (step < segFirst s h + segCount s h))

/-- Plan memory index of a step's entry in a half, from 0 to 65,535. -/
def entryIndex (s : State) (h step : Nat) : Nat := 32768 * h + (step - segFirst s h)

/-- The four words of a plan memory entry (R145). -/
def entryWords (s : State) (i : Nat) : List Nat := (List.range 4).map (fun w => memLE s.psq.mem (16 * i + 4 * w) 4)

/-- The entry of a step, where the buffer holds one. -/
def entryAt (s : State) (step : Nat) : Option (List Nat) := (halfOf s step).map (fun h => entryWords s (entryIndex s h step))

/-- Duration of a step's entry, in ns (R147). -/
def durAt (s : State) (step : Nat) : Option Nat :=
  match halfOf s step with
  | some h => some (getF s (PSQ.DUR.DURATION h (entDur (entryWords s (entryIndex s h step)))))
  | none => none

/-- The window: entries of steps s + 1 to s + 32, fewer where the buffer ends (R152). -/
def windowFrom (s : State) : Nat → Nat → List (Nat × List Nat)
  | 0, _ => []
  | n + 1, step => match entryAt s step with | some e => (step, e) :: windowFrom s n (step + 1) | none => []
def planWindow (s : State) : List (Nat × List Nat) :=
  if planState s = planRunning ∨ planState s = planPaused then windowFrom s 32 (s.time.step + 1) else []

/-- The walker reads an entry: a single-bit error is corrected and reported, an uncorrectable one gives no entry (R163). -/
def readEntry (step : Nat) (s : State) : State × Option (List Nat) :=
  match halfOf s step with
  | none => (s, none)
  | some h =>
    let i := entryIndex s h step
    match aGet 0 s.psq.ecc i with
    | 0 => (s, some (entryWords s i))
    | 1 => (sendFault 0x40 0x400 i s, some (entryWords s i))
    | _ => (sendFault 0x41 0x401 i s, none)

def planEvent (code : Nat) (s : State) : State := event code (toLE 4 (getF s PSQ.PLAN_ID.PLAN_ID)) s
def setPlanState (x : Nat) (s : State) : State := setF s PSQ.STATUS.PLAN_STATE x

/-! ### Modes -/

/-- A break of fixed-beat mode that holds now: 1 safe state, 2 the select's FMAX, 3 a ceiling; 0 none (R161). -/
def fixedBreak (s : State) : Nat :=
  if safeOn s then 1
  else if spF s (getF s (PHC.RAIL_STATUS.SEL 0)) < 125 then 2
  else if getF s LGV.OPP.PROT_CEIL < 125 ∨ getF s LGV.THERM_CEIL.CEIL < 125 then 3
  else 0

/-- A break while FIXED_BEAT_ACTIVE is 1 clears it and records the event (R161). -/
def fixedCheck (s : State) : State :=
  if getB s PSQ.STATUS.FIXED_BEAT_ACTIVE && decide (fixedBreak s ≠ 0) then
    event 0x040B [fixedBreak s] (setB s PSQ.STATUS.FIXED_BEAT_ACTIVE false)
  else s

/-- A write of FIXED_BEAT takes effect at the swap (R161). -/
def fixedTake (on : Bool) (s : State) : State :=
  if !on then setB s PSQ.STATUS.FIXED_BEAT_ACTIVE false
  else if fixedBreak s = 0 then setB s PSQ.STATUS.FIXED_BEAT_ACTIVE true
  else event 0x040B [fixedBreak s] (setB s PSQ.STATUS.FIXED_BEAT_ACTIVE false)

/-- Keys of the signature table: word `4 × entry + rail` at 0x24000 + 4 × that (Table 3-8). -/
def sigKey (k : Nat) : Bool := decide (0x24000 * 32 ≤ k) && decide (k < 0x28000 * 32)

/-- Repeatable mode takes effect: the signature table is kept as it stands (R162). -/
def repeatTake (on : Bool) (s : State) : State :=
  if on then
    (if s.psq.sigSnap.isSome then s
     else { s with psq := { s.psq with sigSnap := some (s.regs.filter (fun e => sigKey e.1)) } })
  else { s with psq := { s.psq with sigSnap := none } }

/-- PEAK of a rail in a signature, from the snapshot in repeatable mode, in 0.125 A (R151, R162). -/
def sigPeak (s : State) (g k : Nat) : Nat :=
  match s.psq.sigSnap with
  | some m => aGet 0 m (EST.SIG.PEAK g k).key
  | none => getF s (EST.SIG.PEAK g k)

/-! ### Lookahead -/

/-- The phase target of an entry (R151). -/
def entTarget (s : State) (e : List Nat) (k : Nat) : Nat :=
  let peak := sigPeak s (entSig e) k
  let per := getC s PSQ.FF_CTRL.PH_FILL 50 100 * ratingA k * 8
  min (availOf s k) (max (entHint e k) (cdiv (100 * peak) per))

/-- Times of the window's boundaries, from the next one's (R147). -/
def windowTimes (s : State) : Nat → List (Nat × List Nat) → List (Nat × Nat × List Nat)
  | _, [] => []
  | t, (step, e) :: r => (t, step, e) :: windowTimes s (t + (durAt s step).getD 0) r

/-- Latest scheduled time of a step's boundary, where known (R147, R148). -/
def timeOf (s : State) (step : Nat) : Option Nat :=
  match s.time.nextB with
  | none => none
  | some t => ((windowTimes s t (planWindow s)).find? (fun x => x.2.1 = step)).map (fun x => x.1)

/-- Adds of one window entry above the levels reached (R152). -/
def addsOf (s : State) (lead step : Nat) (e : List Nat) : Nat → List Nat → List FfAct × List Nat
  | 0, lv => ([], lv)
  | n + 1, lv =>
    let k := 2 - n
    let r := addsOf s lead step e n (if nth lv k < entTarget s e k then lv.set k (entTarget s e k) else lv)
    if nth lv k < entTarget s e k then (⟨0, k, entTarget s e k, step, lead⟩ :: r.1, r.2) else r

/-- The window entries after the first, in step order, until one lies beyond the step (R152). -/
def schedRest (s : State) (lead t1 : Nat) : List (Nat × Nat × List Nat) → List Nat → List FfAct
  | [], _ => []
  | (t, step, e) :: r, lv =>
    if t1 + lead ≤ t then []
    else
      let a := addsOf s lead step e 3 lv
      let l := if entLift e > 0 ∧ t < t1 + entLead e then [⟨1, 0, entLift e, step, entLead e⟩] else []
      a.1 ++ l ++ schedRest s lead t1 r a.2

/-- The shed of a SHED_OK entry, where the window reaches the horizon (R152, R154, R162). -/
def schedShed (s : State) (w : List (Nat × Nat × List Nat)) (t0 step : Nat) (e : List Nat) : List FfAct :=
  let hor := t0 + 1000 * getC s PSQ.SHED_CTRL.SHED_HORIZON 20 10000
  let last := match w.getLast? with | some x => x.1 | none => 0
  let near := w.filter (fun x => decide (x.1 ≤ hor))
  let rep := getB s PSQ.CTRL.REPEATABLE
  if !entAct e 1 ∨ last < hor then []
  else
    ([0, 1, 2].filter (fun k => !rep || decide (entHint e k > 0))).map (fun k =>
      let f := near.foldl (fun m x => max m (entTarget s x.2.2 k)) 0
      let h := near.foldl (fun m x => max m (entHint x.2.2 k)) 0
      ⟨2, k, if rep then max f (min (availOf s k) h) else f, step, 0⟩)

/-- Adds needed at the schedule's first boundary that no earlier schedule holds: they execute at once (R153). -/
def schedFirst (s : State) (lead step : Nat) (e : List Nat) : List FfAct :=
  ([0, 1, 2].filter (fun k => decide (aGet 0 s.psq.floor k < entTarget s e k) &&
    !(s.psq.sched.any (fun a => a.kind == 0 && a.rail == k && decide (entTarget s e k ≤ a.amount))))).map
    (fun k => ⟨0, k, entTarget s e k, step, lead⟩)

/-- The feed-forward schedule of the next step (R152). -/
def schedule (s : State) : List FfAct :=
  match s.time.nextB with
  | none => []
  | some t0 =>
    match windowTimes s t0 (planWindow s) with
    | [] => []
    | (_, step, e) :: rest =>
      let w := (t0, step, e) :: rest
      let lead := 1000 * getC s PSQ.FF_CTRL.ADD_LEAD 8 10
      let t1 := t0 + (durAt s step).getD 0
      schedShed s w t0 step e ++ schedFirst s lead step e ++
        schedRest s lead t1 rest ([0, 1, 2].map (fun k => entTarget s e k))

/-! ### Pre-lift -/

/-- The trust state permits pre-lift (Table 3-4); a withdrawal that waits in a pending transition acts at once, a grant waits for the
boundary (R85). -/
def preliftOk (s : State) : Bool :=
  getF s EST.TRUST_STATUS.STATE != 1 && !s.est.liftWait && !(getB s EST.TRUST_STATUS.PENDING_VALID && getF s EST.TRUST_STATUS.PENDING == 1)

/-- A lift's value at an instant (R155). -/
def liftVal (s : State) (now : Nat) (l : Lift) : Nat :=
  if l.falling then l.base - l.base * (now - l.since) / (100 * getC s PSQ.FF_CTRL.LIFT_DECAY 5 100)
  else min l.full (l.base + 10000 * getC s PSQ.FF_CTRL.LIFT_SLEW 5 25 * (now - l.since))

/-- The lifts at an instant: the offset in force is the largest of them, cut so that reference and offset do not exceed 0.85 V (R155). -/
def psqAdvance (now : Nat) (s : State) : State :=
  if s.psq.lifts = [] then s
  else
    let ls := (s.psq.lifts.map (fun l => { l with now := liftVal s now l })).filter (fun l => !l.falling || decide (l.now ≠ 0))
    let off := ls.foldl (fun m l => max m l.now) 0
    let s1 := { s with psq := { s.psq with lifts := ls, lift := min off (850000000 - (railRec s 0).ref) } }
    if 850000000 < (railRec s 0).ref + off ∧ off ≠ 0 then setB s1 PSQ.STATUS.LIFT_CLIPPED true else s1

/-- A lift begins to fall from its present value. -/
def Lift.fall (now : Nat) (l : Lift) : Lift := if l.falling then l else { l with falling := true, since := now, base := l.now }

/-- Lifts that meet a condition begin to fall. -/
def fallLifts (p : Lift → Bool) (s : State) : State :=
  { s with psq := { s.psq with lifts := s.psq.lifts.map (fun l => if p l then l.fall s.time.ticks else l) } }

/-- Pre-lift is withdrawn: the offset begins to fall and no new lift starts (R156). -/
def withdrawLift (s : State) : State := fallLifts (fun _ => true) s

/-- The trust state withdraws pre-lift: a lift in progress or still to come in the step departs from the plan (R156, R162). -/
def trustWithdraws (s : State) : State :=
  let s1 := withdrawLift s
  if s.psq.lifts.any (fun l => !l.falling) || (getB s PSQ.CTRL.PRELIFT_EN && s.psq.sched.any (fun a => a.kind == 1)) then
    repeatBreaks 2 { s1 with psq := { s1.psq with sched := s1.psq.sched.filter (fun a => a.kind != 1) } }
  else s1

/-- An action's time has come (R148). -/
def actDue (s : State) (a : FfAct) : Bool :=
  match timeOf s a.target with | some t => decide (t ≤ s.time.sys + a.lead) | none => decide (a.target ≤ s.time.step)

/-- Take the first due action of a kind from the schedule in force. -/
def takeAct (s : State) (p : FfAct → Bool) : Option (FfAct × List FfAct) :=
  match s.psq.sched.find? (fun a => p a && actDue s a) with
  | some a => some (a, s.psq.sched.erase a)
  | none => none

/-- FF_ADD_ACTION: the rail's phase floor rises and its phases come in (R153, R198). -/
def ffAddAction (k : Nat) (s : State) : State :=
  if planState s ≠ planRunning ∨ !getB s PSQ.CTRL.PREPOS_EN then s
  else
    match takeAct s (fun a => a.kind == 0 && a.rail == k) with
    | none => s
    | some (a, rest) =>
      let m := aPut 0 s.psq.floor k (max (aGet 0 s.psq.floor k) a.amount)
      addPhases k 3 { s with psq := { s.psq with sched := rest, floor := m } }

/-- FF_LIFT_ACTION: the offset begins to rise; a lift that the trust state withholds at its time is passed over, and departs from the plan
(R155, R156, R162). -/
def ffLiftAction (s : State) : State :=
  if planState s ≠ planRunning ∨ !getB s PSQ.CTRL.PRELIFT_EN then s
  else
    match takeAct s (fun a => a.kind == 1) with
    | none => s
    | some (a, rest) =>
      if !preliftOk s then repeatBreaks 2 { s with psq := { s.psq with sched := rest } }
      else
      let l : Lift := ⟨a.amount, 0, a.target, a.lead, false, s.time.ticks, 0⟩
      { s with psq := { s.psq with sched := rest, lifts := s.psq.lifts ++ [l] } }

/-- A target boundary moves: lifts begun return and are scheduled again (R148). -/
def retime (s : State) : State :=
  let up := s.psq.lifts.filter (fun l => !l.falling && decide (s.time.step < l.target))
  let again := up.map (fun l => (⟨1, 0, l.full, l.target, l.lead⟩ : FfAct))
  let s1 := fallLifts (fun l => decide (s.time.step < l.target)) s
  { s1 with psq := { s1.psq with sched := s1.psq.sched ++ again } }

/-- LAUNCH_MOVE (R178): only a boundary that moves re-times the lifts (R148). -/
def launchMove (step time : Nat) (s : State) : State :=
  let ok := match s.time.nextB with | some t => decide (step = s.time.step + 1) && decide (t ≤ time) | none => false
  if !ok then sendFault 0x53 0x502 (step % 2 ^ 32) (setB s DRG.STATUS.MOVE_REJECT true)
  else
    let s1 := { s with time := { s.time with nextB := some time }, drg := { s.drg with pendExt := 0 } }
    let s2 := setB s1 DRG.STATUS.HOLD_PENDING false
    event 0x0502 (toLE 8 time) (if s.time.nextB = some time then s2 else retime s2)

/-! ### States at the cut and at the swap -/

/-- The step loses its plan entry: schedule and lookahead are empty, lifts fall (R157, R158). -/
def planLeaves (s : State) : State :=
  let s1 := fallLifts (fun _ => true) s
  { s1 with psq := { s1.psq with sched := [], next := none, floor := [], frozen := none } }

/-- The plan becomes IDLE (R149). -/
def planIdleNow (s : State) : State :=
  if planState s = planIdle then s
  else
    let s1 := planEvent 0x0401 s
    let s2 := planLeaves (setPlanState planIdle s1)
    { s2 with psq := { s2.psq with hasEntry := false, reactSelW := false, reactGuardW := false, errHold := false } }

/-- An uncorrectable error in an entry the walker reads (R163). -/
def planErrorNow (hold : Bool) (s : State) : State :=
  let s1 := planEvent 0x0407 (setPlanState planError (planLeaves s))
  { s1 with psq := { s1.psq with errHold := hold, hasEntry := hold && s.psq.hasEntry } }

/-- The lookahead reads the window's entries (R138, R163): a corrected one is reported, an uncorrectable one is an error of the plan. Every
schedule reads its whole window (DESIGN CHOICE, log entry 34). -/
def windowRead (s : State) : State :=
  (planWindow s).foldl (fun t x => if planState t ≠ planRunning then t
    else match readEntry x.1 t with | (u, some _) => u | (u, none) => planErrorNow true u) s

/-- FF_SCHEDULE_COMPUTED: the schedule of the next step is frozen for its boundary (R152). -/
def ffScheduleComputed (s : State) : State :=
  if planState s ≠ planRunning ∨ s.psq.next.isSome then s
  else
    let t := windowRead s
    if planState t = planRunning then { t with psq := { t.psq with next := some (schedule t) } } else t

/-- A FIRST segment waits for the swap that arms the plan (R144). -/
def arming (s : State) : Bool := s.acts.any (fun a => a.kind == .planArm)

/-- The cut reads and freezes the entry of the step that launches (R146, R163). -/
def planCut (next : Nat) (s : State) : State :=
  if planState s = planRunning ∨ planState s = planPaused ∨ planState s = planGap ∨ planState s = planArmed ∨ arming s then
    match halfOf s next with
    | none => { s with psq := { s.psq with frozen := none } }
    | some _ =>
      match readEntry next s with
      | (t, some e) => { t with psq := { t.psq with frozen := some (next, e) } }
      | (t, none) => planErrorNow true t
  else { s with psq := { s.psq with frozen := none } }

/-- The half of the launching step becomes active (R144). -/
def switchHalf (h : Nat) (s : State) : State :=
  if getF s PSQ.STATUS.ACTIVE_HALF = h then s
  else
    setB (setB (setF s PSQ.STATUS.ACTIVE_HALF h) PSQ.STATUS.NEXT_READY false) (PSQ.SEG_COUNT.VALID (1 - h)) false

/-- The launching step's entry goes into force (R146). -/
def applyEntry (step h : Nat) (e : List Nat) (seek : Bool) (s : State) : State :=
  let was := planState s
  let next := s.psq.next.getD []
  let s1 := (List.range 4).foldl (fun t w => setF t (PSQ.CUR.WORD w) (nth e w)) s
  let s2 := setPlanState planRunning (switchHalf h s1)
  let s3 := { s2 with psq := { s2.psq with hasEntry := true, reactSelW := false, reactGuardW := false, reactSel := false,
                                           reactGuard := false, errHold := false, frozen := none, next := none,
                                           sched := if seek ∨ (was ≠ planRunning ∧ was ≠ planPaused) then [] else next, alloc := entAct e 0 } }
  let s4 := if was = planRunning then s3 else planEvent 0x0403 s3
  let s5 := if entAct e 2 then event 0x0409 [] s4 else s4
  let s6 := if entAct e 3 then event 0x040A [] s5 else s5
  fallLifts (fun l => decide (l.target ≤ step) || seek) s6

/-- The rails whose committed sheds come with this boundary; one that is inhibited drops its shed (R154, R201). -/
def shedRails (s : State) : List Nat :=
  if planState s ≠ planRunning ∨ !getB s PSQ.CTRL.PREPOS_EN then []
  else [0, 1, 2].filter (fun k => !getB s (PHC.RAIL_STATUS.SHED_INH k) && s.psq.sched.any (fun a => a.kind == 2 && a.rail == k))

/-- The committed sheds of the schedule in force lower the phase floors at their boundary (R154). -/
def shedActions (s : State) : State :=
  if planState s ≠ planRunning ∨ !getB s PSQ.CTRL.PREPOS_EN then s
  else
    let sh := s.psq.sched.filter (fun a => a.kind == 2 && !getB s (PHC.RAIL_STATUS.SHED_INH a.rail))
    let m := sh.foldl (fun f a => aPut 0 f a.rail (min (aGet 0 f a.rail) a.amount)) s.psq.floor
    { s with psq := { s.psq with floor := m, sched := s.psq.sched.filter (fun a => a.kind != 2) } }

/-- The plan at a strobe that launches `step`; `from` is the step that ends (R149, R150, R158). -/
def planStrobe (old step : Nat) (s : State) : State :=
  let st := planState s
  let s0 := { s with psq := { s.psq with alloc := false, errHold := false } }
  if st = planRunning ∨ st = planPaused ∨ st = planGap then
    let seek := decide (step ≠ old + 1)
    let s1 := if seek then
        repeatBroken 3 (event 0x0408 (toLE 6 (old + 1)) (incF (sendFault 0x42 0x410 (step % 2 ^ 32) s0) PSQ.COUNTS.SEEKS))
      else s0
    match halfOf s1 step with
    | some h =>
      let r := match s1.psq.frozen with
        | some (n, e) => if n = step then (s1, some e) else readEntry step s1
        | none => readEntry step s1
      match r with
      | (t, some e) => applyEntry step h e seek t
      | (t, none) => planErrorNow false t
    | none =>
      if !seek && st != planGap && entAct (curEnt s1) 7 then
        let s2 := planEvent 0x0406 (setPlanState planEnded (planLeaves s1))
        { s2 with psq := { s2.psq with hasEntry := false, reactSel := false, reactGuard := false, reactSelW := false, reactGuardW := false } }
      else if st = planGap then s1
      else
        let s2 := if st = planRunning then sendFault 0x43 0x411 (step % 2 ^ 32) s1 else s1
        let s3 := planEvent 0x0404 (incF (setPlanState planGap (planLeaves s2)) PSQ.COUNTS.GAPS)
        { s3 with psq := { s3.psq with hasEntry := false, reactSel := false, reactGuard := false, reactSelW := false, reactGuardW := false } }
  else if st = planArmed then
    match halfOf s0 step with
    | some h =>
      (match (match s0.psq.frozen with | some (n, e) => if n = step then (s0, some e) else readEntry step s0 | none => readEntry step s0) with
       | (t, some e) => applyEntry step h e false t
       | (t, none) => planErrorNow false t)
    | none => s0
  else { s0 with psq := { s0.psq with hasEntry := false } }

/-- The next boundary's time after a strobe: from the plan, else the launch time that came with the strobe, if any (R25, R147). -/
def nextBoundary (launch : Option Nat) (s : State) : Option Nat :=
  if planState s = planRunning then
    some (s.psq.launch + getF s (PSQ.DUR.DURATION (getF s PSQ.STATUS.ACTIVE_HALF) (entDur (curEnt s))))
  else launch

/-- LOCAL_BOUNDARIES becomes 1 while the plan runs (R159); the schedule computed for the next step waits with it. -/
def planPause (s : State) : State :=
  if planState s = planRunning then planEvent 0x0405 (setPlanState planPaused s) else s

/-- The signature block goes into the estimator's table at the swap; an entry of all ones leaves its values (R143). -/
def sigLoad (s : State) : State :=
  let s1 := (List.range 1024).foldl (fun t g =>
    if memBytes s.psq.sigBlock (16 * g) 16 = List.replicate 16 255 then t
    else rails4.foldl (fun u k =>
      let w := memLE s.psq.sigBlock (16 * g + 4 * k) 4
      setF (setF u (EST.SIG.MEAN g k) (w % 65536)) (EST.SIG.PEAK g k) (w / 65536)) t) s
  { s1 with psq := { s1.psq with sigBlock := [] } }

end Sys2Proof.Machine
end

