-- ==== Sys2Proof/Machine/Limit.lean ====
section
/-! DEFINITION. The limit governor (chapter 10): governed power, the windows, the protective ceiling, the effective cap, the choice of
the operating point, boost, duty throttling and the phase requests. Powers are in 1/32000 W, currents in 0.125 A. -/

namespace Sys2Proof.Machine

def setLgv (g : LgvState) (s : State) : State := { s with lgv := g }

/-! ### Lists of one number per rail or domain -/

def ithI (l : List Int) (i : Nat) : Int := l.getD i 0
def addL : List Int → List Int → List Int
  | [], m => m
  | l, [] => l
  | a :: l, b :: m => (a + b) :: addL l m
def maxL (a b : List Int) : List Int := rails4.map (fun i => max (ithI a i) (ithI b i))
def sumOf (l : List (List Int)) (k : Nat) : Int := l.foldl (fun a x => a + ithI x k) 0
def zero4 : List Int := [0, 0, 0, 0]

/-! ### Limits and ceilings in force -/

def protCeil (s : State) : Nat := getF s LGV.OPP.PROT_CEIL
def thermCeil (s : State) : Nat := getF s LGV.THERM_CEIL.CEIL
def relPct (s : State) : Nat := getC s LGV.CTRL.REL_PCT 50 99

/-- The programmed limit of a window, in A, at most its default (R232). -/
def progLimit (s : State) (k w : Nat) : Nat := min (getF s (LGV.LIM.LIMIT k w)) (limDefault k w)

/-- The effective limit of a window, as A × the rail's 100 ms default (R233): scaled by the capacity factor of `avail`, and for the
VCORE 100 ms window lowered to the thermal limit. -/
def effLimit (s : State) (avail : List Nat) (k w : Nat) : Nat :=
  let d := limDefault k 2
  let l := progLimit s k w * min d (nth avail k * ratingA k)
  if k = 0 ∧ w = 2 then min l (getF s LGV.THERM_LIM.LIMIT * d) else l

/-- The sum and the samples behind a window mean (R232). -/
def winSum (s : State) (k w : Nat) : Int :=
  match w with | 0 => sumOf s.lgv.s20 k | 1 => sumOf s.lgv.m10 k | _ => sumOf s.lgv.m1 k
def winN (w : Nat) : Nat := match w with | 0 => 80 | 1 => 4000 | _ => 400000

/-- A window stands above `pct` % of its effective limit. -/
def winAbove (s : State) (pct k w : Nat) : Bool :=
  decide (((effLimit s s.lgv.avail k w * 8 * winN w * pct : Nat) : Int) < winSum s k w * limDefault k 2 * 100)

/-- Effective cap in force, in 1/32000 W. -/
def capPw (s : State) : Int := 32000 * getF s LGV.EFF_CAP.EFF_CAP

/-- The seven kinds of condition of R234, numbered 3 × rail + window, 12 for EXC_W, 13 for EXC_US. -/
def condHolds (s : State) (c : Nat) : Bool :=
  if c < 12 then winAbove s 100 (c / 3) (c % 3)
  else if c = 12 then decide ((32000 * getC s LGV.EXC_CTRL.EXC_W 400 2400 * 4 : Int) < s.lgv.p1us)
  else decide (getC s LGV.EXC_CTRL.EXC_US 1 50 < s.lgv.excRun)

/-! ### The beat rate -/

/-- Boost conditions that a step must keep (R242), read in the state given. -/
def boostKeeps (s : State) (trust : Nat) : Bool :=
  getB s LGV.CTRL.BOOST_EN && (trust == 0 || trust == 2) && !getB s PSQ.CTRL.FIXED_BEAT && !getB s PSQ.CTRL.REPEATABLE && !safeOn s &&
    getF s LGV.STATUS.DUTY == 16 && protCeil s == 150 && thermCeil s == 150 &&
    decide (progLimit s 0 2 ≤ getF s LGV.THERM_LIM.LIMIT)

/-- The highest rate that the ceilings, the safe state and the loss of boost leave (R237, R242, R248). -/
def rateTop (s : State) : Nat :=
  let top := if safeOn s then 80 else if getB s LGV.STATUS.BOOST_GRANTED then 150 else 125
  min top (min (protCeil s) (thermCeil s))

/-- The rate in force: the choice's, within FMAX (R195) and `rateTop`. -/
def rateNow (s : State) : Nat :=
  let want := match s.lgv.f0 with | some x => x.1 | none => s.phc.fmax
  min (min want s.phc.fmax) (rateTop s)

def refreshRate (s : State) : State :=
  if s.drg.rate = rateNow s ∧ getF s LGV.OPP.RATE = rateNow s then s else setRate (rateNow s) s

/-- A withdrawal of boost acts at once, one that waits in a pending transition too: the rate falls, the entry stays (R85, R242). -/
def boostCheck (s : State) : State :=
  let keeps := boostKeeps s (getF s EST.TRUST_STATUS.STATE) &&
    (!getB s EST.TRUST_STATUS.PENDING_VALID || boostKeeps s (getF s EST.TRUST_STATUS.PENDING))
  let s1 := if getB s LGV.STATUS.BOOST_GRANTED && !keeps
    then setB s LGV.STATUS.BOOST_GRANTED false else s
  refreshRate s1

/-- A ceiling has fallen: the rate follows, boost and the modes of R161 and R162 with it. -/
def ceilingFell (s : State) : State := repeatBreaks 1 (fixedCheck (boostCheck s))

/-- The thermal ceiling falls to a value, at once (R237, R266), and a rise that waits for the swap does not pass it; `cause` is
CEIL_CAUSE. -/
def thermLower (v cause : Nat) (s : State) : State :=
  let s1 := { s with tmg := { s.tmg with ceilNext := s.tmg.ceilNext.filter (fun c => decide (c ≤ v)) } }
  if thermCeil s ≤ v then s1
  else ceilingFell (setF (setF s1 LGV.THERM_CEIL.CEIL v) TMG.STATUS.CEIL_CAUSE cause)

/-! ### The protective ceiling -/

/-- Hold-off of a condition, in ticks (R234). -/
def holdOffOf (c : Nat) : Nat := if c ≥ 12 ∨ c % 3 = 0 then us 2 else if c % 3 = 1 then us 100 else ms 10

/-- PROTECTIVE_LOWERING (R234). -/
def protectiveLowering (c : Nat) (s : State) : State :=
  if !condHolds s c ∨ protCeil s ≤ 60 ∨ s.time.ticks < aGet 0 s.lgv.holdOff c then s
  else
    let v := max 60 (protCeil s - getC s LGV.CTRL.PROT_STEP 1 30)
    let s1 := incF (setB (setF s LGV.OPP.PROT_CEIL v) LGV.STATUS.PROT_ACTIVE true) LGV.COUNTS.PROT
    let s2 := if s.lgv.lowered then s1
      else eventP 0 0x0701 [if c < 12 then c / 3 else 4, if c < 12 then c % 3 else 3, v] s1
    let g := s2.lgv
    let low := if v = 60 then some s.time.ticks else none
    ceilingFell (setLgv { g with holdOff := aPut 0 g.holdOff c (s.time.ticks + holdOffOf c), lowered := true, byPower := decide (12 ≤ c),
                                 protNext := 0, lowAt := low } s2)

/-- Conditions that have ended forget their LIMIT_UNMET and their hold-off (R236). -/
def lgvClean (s : State) : State :=
  setLgv { s.lgv with unmet := s.lgv.unmet.filter (fun c => condHolds s c)
                      holdOff := s.lgv.holdOff.filter (fun e => condHolds s e.1) } s

/-- The information field of LIMIT_UNMET (R253). -/
def unmetInfo (s : State) (c : Nat) : Nat :=
  if c < 12 then 2 ^ 30 * (c % 3) + ux 20 (fdiv (winSum s (c / 3) (c % 3)) (winN (c % 3)))
  else 2 ^ 30 * 3 + ux 20 (fdiv s.lgv.p1us 16000)

/-- LIMIT_UNMET: the ceiling has stood at 0.60 GHz for 100 µs while a condition persists (R236). -/
def limitUnmet (c : Nat) (s : State) : State :=
  match s.lgv.lowAt with
  | some t =>
    if condHolds s c && protCeil s == 60 && decide (t + us 100 ≤ s.time.ticks) && !s.lgv.unmet.contains c then
      sendFaultP 0 0x70 (if c < 12 then 0x700 + c / 3 else 0x704) (unmetInfo s c) (setLgv { s.lgv with unmet := insN c s.lgv.unmet } s)
    else s
  | none => s

/-- The rise of the protective ceiling decided at the cut; 0 for none (R235). -/
def protRise (s : State) : Nat :=
  if s.lgv.lowered ∨ 150 ≤ protCeil s then 0
  else if rails4.any (fun k => [0, 1, 2].any (fun w =>
      !decide (winSum s k w * limDefault k 2 * 100 < ((effLimit s s.lgv.avail k w * 8 * winN w * relPct s : Nat) : Int)))) then 0
  else if capPw s * relPct s * 4000 ≤ s.lgv.pm * 100 then 0
  else min 150 (protCeil s + getC s LGV.CTRL.PROT_STEP 1 30)

/-! ### The effective cap (R238) -/

/-- The caps of a boundary, in W, with their codes of Table 10-2: 5 safe state, 6 host, 7 balance, 8 advisory (the one that the cut
froze). -/
def caps (s : State) (bal : Bool) : List (Nat × Nat) :=
  [(6, getC s LGV.CAP.CAP 400 2000)] ++ (if safeOn s then [(5, 800)] else []) ++
    (if bal then [(7, max 400 (getF s BAL.GRANT.GRANT))] else []) ++
    (match s.lgv.advCut with | some w => [(8, max 400 w)] | none => [])

def effCap (s : State) (bal : Bool) : Nat := max 400 ((caps s bal).foldl (fun m c => min m c.2) 2000)

/-- The lowest code among the lowest caps in force (R251). -/
def capCode (s : State) : Nat :=
  (s.lgv.caps.filter (fun c => c.2 ≤ getF s LGV.EFF_CAP.EFF_CAP)).foldl (fun a c => if a = 0 then c.1 else min a c.1) 0

/-- The cut freezes the advisory cap (R238): `v` is its view of the values that take effect. -/
def capFreeze (v s : State) : State :=
  setLgv { s.lgv with advCut := if getB v PXE.CTRL.USER_CAP_EN then s.pxe.advice else none } s

/-! ### Samples and windows -/

/-- The sample's part: governed power, the 20 µs window, the sums (R231, R232). `gov` is the governed current of the four rails. -/
def lgvSample (gov : List Int) (s : State) : State :=
  let g := s.lgv
  let d := rails4.map (fun k => ((senseNv s k / 250000 : Nat) : Int) * ithI gov k)
  let p := ithI d 0 + ithI d 1 + ithI d 2 + ithI d 3 + 32000 * getF s LGV.PRIO.AON_W
  let s20 := (gov :: g.s20).take 80
  let s1 := setLgv { g with govI := gov, s20 := s20, g1 := addL g.g1 gov, a10 := addL g.a10 gov, a1 := addL g.a1 gov,
                            p1sum := g.p1sum + p, pmsum := g.pmsum + p, d10 := addL g.d10 d, dSum := addL g.dSum d,
                            dN := g.dN + 1 } s
  lgvClean (rails4.foldl (fun t k => setSatS t (LGV.WIN_I.CURRENT k 0) (fdiv (sumOf s20 k) 80)) s1)

/-- The 1 µs close: mean of governed power, the run above the cap, the largest 1 µs currents (R234, R249). -/
def lgvClose1 (s : State) : State :=
  let g := s.lgv
  let isOver := decide (capPw s * 4 < g.p1sum)
  let run := if isOver then g.excRun + 1 else 0
  lgvClean (setSat (setLgv { g with p1us := g.p1sum, p1sum := 0, g1 := zero4, pk := maxL g.pk g.g1, excRun := run } s)
    LGV.POWER.EXC_RUN run)

/-- The 10 µs close: the 1 ms window, and the largest 10 µs mean of the step (R232, R239). -/
def lgvClose10 (s : State) : State :=
  let g := s.lgv
  let m10 := (g.a10 :: g.m10).take 100
  let top := match g.dMax with | some m => maxL m g.d10 | none => g.d10
  lgvClean (rails4.foldl (fun t k => setSatS t (LGV.WIN_I.CURRENT k 1) (fdiv (sumOf m10 k) 4000))
    (setLgv { g with m10 := m10, a10 := zero4, d10 := zero4, dMax := some top } s))

/-! ### Cap state and duty (R244 to R247) -/

/-- The 1 ms mean of governed power exceeds the effective cap. -/
def overCap (s : State) : Bool := decide (capPw s * 4000 < s.lgv.pm)

/-- The cap state that R244 gives outside UNATTAINABLE. -/
def capStateNow (s : State) : Nat :=
  if getF s LGV.STATUS.DUTY = 16 then (if s.lgv.capMet then 0 else 1) else if overCap s then 1 else 2

/-- Set the cap state; a change is recorded (R244), and one from UNATTAINABLE starts its count of rounds again (R247). -/
def setCapState (v : Nat) (s : State) : State :=
  let old := getF s LGV.STATUS.CAP_STATE
  if old = v then s
  else
    let s1 := eventP 2 0x0702 ([old, v] ++ toLE 2 (getF s LGV.EFF_CAP.EFF_CAP)) (setF s LGV.STATUS.CAP_STATE v)
    if old = 3 then setLgv { s1.lgv with unattRun := 0 } s1 else s1

/-- The cap state follows the rule of R244 unless it is UNATTAINABLE and stays so (R247). -/
def capFollow (stays : Bool) (s : State) : State :=
  if getF s LGV.STATUS.CAP_STATE = 3 ∧ stays then s else setCapState (capStateNow s) s

/-- The firmware part of the governor works: the duty is held in a firmware gap and while the host is absent (R230). -/
def dutyRuns (s : State) : Bool := fwRuns s && !hostAbsentNow s

/-- The 1 ms close: the 100 ms window, the mean of governed power, the cap state (R232, R244); the round is the firmware's to step. -/
def lgvClose1ms (s : State) : State :=
  let g := s.lgv
  let m1 := (g.a1 :: g.m1).take 100
  let s1 := setLgv { g with m1 := m1, a1 := zero4, pm := g.pmsum, pmsum := 0, msDue := dutyRuns s } s
  let s2 := rails4.foldl (fun t k => setSatS t (LGV.WIN_I.CURRENT k 2) (fdiv (sumOf m1 k) 400000)) s1
  let s3 := setSat s2 LGV.POWER.P_1MS (fdiv g.pmsum 16000000).toNat
  lgvClean (capFollow (overCap s3) s3)

/-- LGV_DUTY_STEP: the firmware's step at a 1 ms close (R245). -/
def lgvDutyStep (s : State) : State :=
  if !s.lgv.msDue || !dutyRuns s then s
  else if !getB s LGV.CTRL.DUTY_EN then setLgv { s.lgv with msDue := false } s
  else
    let g := s.lgv
    let isOver := overCap s
    let under := decide (g.pm * 100 < capPw s * relPct s * 4000)
    let dmin := getC s LGV.DUTY_CTRL.DUTY_MIN 8 16
    let rounds := max 1 (getF s LGV.DUTY_CTRL.UNMET_ROUNDS)
    let up := getF s LGV.STATUS.CAP_STATE == 1 && isOver
    let dn := !up && decide (g.duty < 16) && under
    let ro := if up then g.runOver + 1 else 0
    let ru := if dn then g.runUnder + 1 else 0
    let less := decide (rounds ≤ ro) && decide (dmin < g.duty)
    let more := decide (rounds ≤ ru) && decide (g.duty < 16)
    let d := if less then g.duty - 1 else if more then g.duty + 1 else g.duty
    let un := if g.duty ≤ dmin ∧ isOver then g.unattRun + 1 else 0
    let s1 := setLgv { g with msDue := false, runOver := if less then 0 else ro, runUnder := if more then 0 else ru, duty := d,
                              unattRun := un } s
    if d = g.duty then s1 else eventP 2 0x0703 [g.duty, d] s1

/-- CAP_UNATTAINABLE (R247). -/
def capUnattainable (s : State) : State :=
  let rounds := max 1 (getF s LGV.DUTY_CTRL.UNMET_ROUNDS)
  if getF s LGV.STATUS.CAP_STATE ≠ 3 ∧ s.lgv.duty ≤ getC s LGV.DUTY_CTRL.DUTY_MIN 8 16 ∧ rounds ≤ s.lgv.unattRun ∧
      overCap s then
    sendFaultP 2 0x71 0x710 (getF s LGV.EFF_CAP.EFF_CAP + 65536 * ((fdiv s.lgv.pm 128000000).toNat % 65536)) (setCapState 3 s)
  else s

/-! ### The choice of the operating point (R239, R240) -/

/-- The plan state and entry of the step that launches, as the cut knows them. -/
def nextPlan (s : State) : Nat × List Nat :=
  let stop := s.acts.any (fun a => a.frozen && a.kind == .planStop)
  let st := planState s
  if stop then (planIdle, [])
  else
    match s.psq.frozen with
    | some (_, e) => (planRunning, e)
    | none => (if s.acts.any (fun a => a.kind == .planArm) then planArmed else if st = planRunning then planGap else st, curEnt s)

/-- The state the choice reads: the frozen values in force, reactive writes counted (R158). -/
def cutView (s : State) : State :=
  let v := preview s
  { v with psq := { v.psq with reactSel := v.psq.reactSel || v.psq.reactSelW, reactGuard := v.psq.reactGuard || v.psq.reactGuardW } }

/-- The VCORE entry requested for the step that launches (R192). -/
def reqEntry (s v : State) : Nat := if safeOn s then 0 else requestedSel v (nextPlan s).1 (nextPlan s).2 0

/-- Boost granted for the step that launches (R242): `v` is the cut's view with the ceilings after their rises. -/
def boostNext (s v : State) : Bool :=
  let trust := if getB s EST.TRUST_STATUS.PENDING_VALID then getF s EST.TRUST_STATUS.PENDING else getF s EST.TRUST_STATUS.STATE
  boostKeeps (setF v LGV.STATUS.DUTY s.lgv.duty) trust && boostPermit v (nextPlan s).1 (nextPlan s).2

/-- The next step's duration, in ns, where known (R239). -/
def nextDur (s : State) : Option Nat :=
  match (if planState s = planRunning then durAt s (s.time.step + 1) else none) with
  | some d => some d
  | none => s.psq.sched0.map (fun t => t - s.psq.launch)

/-- The next step is at most EXC_US long: means serve, else the largest 10 µs mean (R239). -/
def shortStep (s : State) : Bool :=
  match nextDur s with | some d => decide (d ≤ 1000 * getC s LGV.EXC_CTRL.EXC_US 1 50) | none => false

/-- Base power of a domain in the step that is ending (0 compute to 2 link, 3 VAUX), with the next entry's signature (R239). -/
def basePow (s v : State) (d : Nat) : Nat :=
  let g := s.lgv
  let mean := (fdiv (ithI g.dSum d) g.dN).toNat
  let b := if shortStep s then mean else match g.dMax with | some m => (fdiv (ithI m d) 40).toNat | none => mean
  if planState s = planRunning ∧ getF s EST.TRUST_STATUS.STATE ≠ 1 ∧ d < 3 then
    match s.psq.frozen with
    | some (_, e) =>
      let sig := if shortStep s then getF s (EST.SIG.MEAN (entSig e) d) else sigPeak s (entSig e) d
      max b (sig * 5 * spV v d (getF s (PHC.RAIL_STATUS.SEL d)))
    | none => b
  else b

/-- Domain served at a position of the order (R240). -/
def prioAt (v : State) (i : Nat) : Nat :=
  let x := match i with | 0 => getF v LGV.PRIO.FIRST | 1 => getF v LGV.PRIO.SECOND | _ => getF v LGV.PRIO.THIRD
  if x = 3 then 0 else x

/-- Shares of a budget, in priority order (R240): pairs of domain and share. -/
def shares (budget : Int) (dem : List Nat) : List Nat → List (Nat × Nat)
  | [] => []
  | d :: r =>
    let sh := min (nth dem d) (max budget 0).toNat
    (d, sh) :: shares (budget - sh) dem r
def shareOf (l : List (Nat × Nat)) (d : Nat) : Nat := match l.find? (fun x => x.1 = d) with | some x => x.2 | none => 0

/-- What the choice needs of the step that is ending. -/
structure Base where
  pc : Nat
  pm : Nat
  pl : Nat
  fixed : Nat
  f0 : Nat
  v0 : Nat
  deriving DecidableEq, Repr

def baseOf (s v : State) : Base :=
  let f := match s.lgv.f0 with | some x => x | none => (spF v (getF s (PHC.RAIL_STATUS.SEL 0)), spV v 0 (getF s (PHC.RAIL_STATUS.SEL 0)))
  ⟨basePow s v 0, basePow s v 1, basePow s v 2, 32000 * getF v LGV.PRIO.AON_W + basePow s v 3, f.1, f.2⟩

/-- Demands of a candidate (R239). -/
def demands (v : State) (b : Base) (e rate : Nat) : List Nat :=
  let q := fun n d => if d = 0 then 0 else n / d
  [q (b.pc * rate * spV v 0 e * spV v 0 e) (b.f0 * b.v0 * b.v0), q (b.pm * rate) b.f0, q (b.pl * rate) b.f0]

/-- Projected current of a rail, dem / v_rail, exceeds a limit given as A × default. -/
def overLimit (lim dflt vq dem : Nat) : Bool := decide (lim * 8 * vq < dem * dflt)

/-- A candidate exceeds an effective 100 ms limit (R239). -/
def candOver (s v : State) (e : Nat) (dem : List Nat) : Bool :=
  let a := rails4.map (availOf s)
  overLimit (effLimit v a 0 2) (limDefault 0 2) (5 * spV v 0 e) (nth dem 0) ||
    overLimit (effLimit v a 1 2) (limDefault 1 2) (senseNv s 1 / 250000) (nth dem 1) ||
    overLimit (effLimit v a 2 2) (limDefault 2 2) (senseNv s 2 / 250000) (nth dem 2)

/-- The thermal limit is what a candidate exceeds on VCORE. -/
def thermOver (v : State) (e : Nat) (dem : List Nat) : Bool :=
  overLimit (getF v LGV.THERM_LIM.LIMIT) 1 (5 * spV v 0 e) (nth dem 0) &&
    decide (getF v LGV.THERM_LIM.LIMIT < progLimit v 0 2)

/-- Is a candidate served ahead of another: descending rate, ascending voltage, ascending index? -/
def ahead (v : State) (a b : Nat × Nat) : Bool :=
  if a.2 ≠ b.2 then decide (b.2 < a.2)
  else if spV v 0 a.1 ≠ spV v 0 b.1 then decide (spV v 0 a.1 < spV v 0 b.1) else decide (a.1 < b.1)
def insCand (v : State) (c : Nat × Nat) : List (Nat × Nat) → List (Nat × Nat)
  | [] => [c]
  | d :: r => if ahead v c d then c :: d :: r else d :: insCand v c r

/-- The candidates with their rates, in order (R239). -/
def candidates (s v : State) (req : Nat) (boost : Bool) : List (Nat × Nat) :=
  let all := List.range 16
  let es := if safeOn s || getB v PSQ.CTRL.FIXED_BEAT then [req]
    else all.filter (fun e => (decide (spV v 0 e ≤ spV v 0 req) && decide (spF v e ≤ spF v req)) || (boost && decide (125 < spF v e)))
  let rate := fun e =>
    let r := min (spF v e) (min (protCeil v) (thermCeil v))
    if boost then r else min r 125
  es.foldl (fun l e => insCand v (e, rate e) l) []

/-- Go through the candidates (R239): claim so far, and whether the thermal limit or the cap has turned one away. -/
def pick (s v : State) (b : Base) (cap : Nat) (boost : Bool) : List (Nat × Nat) → Option Nat → Bool → Bool → Choice → Choice
  | [], _, _, _, last => last
  | (e, rate) :: r, claim, th, cp, _ =>
    let dem := demands v b e rate
    let total := b.fixed + nth dem 0 + nth dem 1 + nth dem 2
    let prio := [0, 1, 2].map (prioAt v)
    let sh := shares ((32000 * cap : Int) - b.fixed) dem prio
    let toW := fun n => n / 32000
    let left := (32000 * cap - total) / 32000
    let res := fun (cl : Nat) (met th cp : Bool) => (⟨e, rate, boost, met, toW cl, left, (dem.map toW) ++ [toW b.fixed],
      ([0, 1, 2].map (fun d => toW (shareOf sh d))) ++ [toW b.fixed], th, cp⟩ : Choice)
    if candOver s v e dem then
      pick s v b cap boost r claim (th || thermOver v e dem) cp (res (claim.getD total) false (th || thermOver v e dem) cp)
    else
      let cl := claim.getD total
      let upto := (prio.takeWhile (fun d => d ≠ 0)) ++ [0]
      if upto.all (fun d => shareOf sh d = nth dem d) then
        res cl (prio.all (fun d => shareOf sh d = nth dem d)) th cp
      else pick s v b cap boost r (some cl) th true (res cl false th true)

/-- The phase requests of the cut (R249). -/
def phaseReq (s : State) (k : Nat) : Nat := min (availOf s k) (cdiv (ithI s.lgv.pk k).toNat (32 * addA s k))

/-- The choice of an operating point for the step that launches (R239), with the rise of the protective ceiling that it counts on. -/
def lgvChoose (s : State) : State × Choice :=
  let v0 := cutView s
  let rise := protRise s
  let v1 := if rise = 0 then v0 else setF v0 LGV.OPP.PROT_CEIL rise
  let v := match s.tmg.ceilNext with | some c => setF v1 LGV.THERM_CEIL.CEIL c | none => v1
  let req := reqEntry s v
  let boost := boostNext s v
  let cap := effCap v (getB v BAL.GRANT.ACTIVE)
  let dflt : Choice := ⟨req, 0, boost, false, 0, 0, [], [], false, false⟩
  let c := pick s v (baseOf s v) cap boost (candidates s v req boost) none false false dflt
  (setLgv { s.lgv with chosen := some c, reqNext := req, protNext := rise } s, c)

/-- OPERATING_POINT_CHOICE: all that the governor does at a cut (R235, R238, R239, R249, R250); the cap state follows the choice (R244,
Table 10-5). -/
def lgvCut (s0 : State) : State :=
  let s := capFreeze (cutView s0) s0
  let (s1, c) := lgvChoose s
  let s2 := setSat (setSat s1 LGV.BAL.CLAIM c.claim) LGV.BAL.LEFTOVER c.leftover
  let s3 := setF (setF (setF s2 LGV.PH_REQ.VCORE (phaseReq s 0)) LGV.PH_REQ.VMEM (phaseReq s 1)) LGV.PH_REQ.VLINK (phaseReq s 2)
  let s4 := rails4.foldl (fun t d => setSat (setSat t (LGV.DOMAIN.DEMAND d) (nth c.dem d)) (LGV.DOMAIN.SHARE d) (nth c.share d)) s3
  capFollow true (setLgv { s4.lgv with capMet := c.capMet } s4)

/-! ### The swap -/

/-- What a plan state and its entry ask of the choice: VCORE's select, the boost permit, and the signature. -/
def planAsks (s : State) (p : Nat × List Nat) : Nat × Bool × Option Nat :=
  (requestedSel s p.1 p.2 0, boostPermit s p.1 p.2, if p.1 = planRunning then some (entSig p.2) else none)

/-- The strobe has put another entry in force than the cut froze (a seek, a segment committed since): the choice is made again for it, so that
its select and its boost permit are what the swap applies (R146, R150; log entry 31). `was` is what the cut knew. -/
def lgvRechoose (was : Nat × List Nat) (s : State) : State :=
  if planAsks s was = planAsks s (planState s, curEnt s) then s
  else
    let f := if planState s = planRunning then some (s.time.step, curEnt s) else none
    let t := (lgvChoose { s with psq := { s.psq with frozen := f } }).1
    { t with psq := { t.psq with frozen := s.psq.frozen } }

/-- What binds the rate or the entry in force (R251, Table 10-2): a ceiling binds that is the rate in force and lies below what the
requested entry would run at. -/
def limitedBy (s : State) : Nat :=
  let want := min (spF s (getF s LGV.OPP.REQ_ENTRY)) (if getB s LGV.STATUS.BOOST_GRANTED then 150 else 125)
  let binds := fun c => decide (c < want) && decide (c ≤ s.drg.rate)
  if binds (thermCeil s) then 1
  else if binds (protCeil s) then (if s.lgv.byPower then 3 else 2)
  else if s.lgv.byTherm then 4
  else if s.lgv.byCap then capCode s
  else 0

/-- The extension and the idle time of a step, in 100 ns (R243, R246): duration in ns, rate, duty. -/
def extOf (s : State) (dur rate : Nat) : Nat :=
  let q := getC s LGV.CTRL.SCHED_RATE 60 150
  if q ≤ rate then 0 else cdiv (dur * (q - rate)) (rate * 100)
def idleOf (dur ext d : Nat) : Nat := if 16 ≤ d then 0 else cdiv ((dur + 100 * ext) * (16 - d)) (d * 100)

/-- The ceilings' rises of the cut take effect (R235, R266). -/
def ceilingsRise (s : State) : State :=
  let s1 := if s.lgv.protNext ≠ 0 ∧ protCeil s < s.lgv.protNext then
      setB (setF s LGV.OPP.PROT_CEIL s.lgv.protNext) LGV.STATUS.PROT_ACTIVE (decide (s.lgv.protNext < 150)) else s
  match s.tmg.ceilNext with
  | some c => let s2 := setF s1 LGV.THERM_CEIL.CEIL c; { s2 with tmg := { s2.tmg with ceilNext := none, rose := true } }
  | none => s1

/-- The cap of the swap, and with it the state UNATTAINABLE (R238, R247). -/
def capSwap (s : State) : State :=
  let bal := getB s BAL.GRANT.ACTIVE
  let old := getF s LGV.EFF_CAP.EFF_CAP; let new := effCap s bal
  let s1 := setF (setB s LGV.STATUS.BAL_ACTIVE bal) LGV.EFF_CAP.BAL_W (if bal then getF s BAL.GRANT.GRANT else 0)
  capFollow (new ≤ old) (setLgv { s1.lgv with caps := caps s bal } (setF s1 LGV.EFF_CAP.EFF_CAP new))

/-- The swap's part of the governor: ceilings, derating, choice, rate, boost, duty, cap state (R233, R241 to R247). -/
def lgvSwap (s : State) : State :=
  let s1 := ceilingsRise s
  let av := rails4.map (availOf s)
  let der := rails4.foldl (fun m k => if nth av k * ratingA k < limDefault k 2 then setBit m k else m) 0
  let s2 := setF (setF s1 LGV.STATUS.DERATED der) LGV.STATUS.DUTY s.lgv.duty
  let g := s2.lgv
  let s3 := match g.chosen with
    | none => setLgv { g with avail := av } s2
    | some c =>
      let en := if safeOn s then 0 else c.entry
      let f := some (c.rate, spV s2 0 en)
      let t := setF (setF s2 LGV.OPP.ENTRY en) LGV.OPP.REQ_ENTRY g.reqNext
      setLgv { t.lgv with avail := av, chosen := none, f0 := f, capMet := c.capMet, byTherm := c.byTherm, byCap := c.byCap }
        (setB t LGV.STATUS.BOOST_GRANTED c.boost)
  let g3 := s3.lgv
  capSwap (setLgv { g3 with dSum := zero4, dN := 0, dMax := none, pk := zero4, lowered := false, protNext := 0 } s3)

/-- After the selects are in force: the rate, which is the f0 of the next choice (R239), what limits it, the launch rate, and at a strobe
the hold request (R243, R246). -/
def lgvLaunch (strobe : Bool) (s : State) : State :=
  let s1 := fixedCheck (boostCheck s)
  let s2 := setLaunchRate (setLgv { s1.lgv with f0 := s1.lgv.f0.map (fun x => (min x.1 (rateTop s1), x.2)) } s1)
  if !strobe ∨ !jobOn s then setF (setF s2 LGV.HOLD_REQ.EXT 0) LGV.HOLD_REQ.IDLE 0
  else
    let s3 := if getF s2 LGV.STATUS.CAP_STATE = 0 then s2 else incF s2 LGV.COUNTS.UNMET_STEPS
    match (if planState s3 = planRunning then
        some (getF s3 (PSQ.DUR.DURATION (getF s3 PSQ.STATUS.ACTIVE_HALF) (entDur (curEnt s3))))
      else s3.time.nextB.map (fun t => t - s3.psq.launch)) with
    | none => setF (setF s3 LGV.HOLD_REQ.EXT 0) LGV.HOLD_REQ.IDLE 0
    | some dur =>
      let ext := extOf s3 dur (max 1 s3.drg.rate0)
      let idle := idleOf dur ext (getF s3 LGV.STATUS.DUTY)
      let s4 := setSat (setSat s3 LGV.HOLD_REQ.EXT ext) LGV.HOLD_REQ.IDLE idle
      if ext + idle = 0 then s4
      else { s4 with drg := { s4.drg with duty := s4.drg.duty ++ [(s4.time.step, 100 * (ext + idle))] } }

/-- Entry to the safe state lowers the cap and the rate at once (R238, R248). -/
def lgvSafe (s : State) : State :=
  let s1 := setF (setLgv { s.lgv with caps := (5, 800) :: s.lgv.caps } s) LGV.EFF_CAP.EFF_CAP (min 800 (getF s LGV.EFF_CAP.EFF_CAP))
  boostCheck (setB s1 LGV.STATUS.BOOST_GRANTED false)

/-- THERM_LIM_WRITE: only the thermal manager's firmware writes the thermal limit (R233). -/
def thermLimWrite (agent val : Nat) (s : State) : State :=
  if agent = 0x41 then pendPut agent 0 LGV.THERM_LIM.LIMIT (val % 65536) s else s

end Sys2Proof.Machine
end

