-- ==== Sys2Proof/Machine/Float.lean ====
section
/-! DEFINITION. The number formats of the predictor engine (chapter 05): W8, binary16, binary32 and U16, exact values, the one
rounding, and the flags of Table 5-6. A value is exact: (−1)^neg × m × 2^e. -/

namespace Sys2Proof.Machine

/-- A value that a format can hold, or an exact intermediate result. -/
inductive Fp where
  | nan
  | inf (neg : Bool)
  | fin (neg : Bool) (m : Nat) (e : Int)
  deriving DecidableEq, Repr

/-- Formats by code (Table 5-1): 0 W8, 1 binary16, 2 binary32, 3 U16. -/
def fmtBytes (f : Nat) : Nat := match f with | 0 => 1 | 2 => 4 | _ => 2
/-- Precision, and exponent of the smallest subnormal. -/
def fmtPrec (f : Nat) : Nat := match f with | 0 => 4 | 1 => 11 | _ => 24
def fmtMin (f : Nat) : Int := match f with | 0 => -10 | 1 => -24 | _ => -149
/-- The magnitude bits of infinity (binary16, binary32), and the sign bit. -/
def fmtInf (f : Nat) : Nat := if f = 1 then 0x7C00 else 0x7F800000
def fmtSign (f : Nat) : Nat := match f with | 0 => 0x80 | 1 => 0x8000 | _ => 0x80000000
/-- The default NaN (R118). -/
def fmtNan (f : Nat) : Nat := match f with | 0 => 0x7F | 1 => 0x7E00 | 2 => 0x7FC00000 | _ => 0xFFFF

/-- Flags by bit (Table 5-6). -/
def flInvalid : Nat := 1
def flDivZero : Nat := 2
def flOverflow : Nat := 4
def flSat : Nat := 8
def flUnder : Nat := 16
def flInexact : Nat := 32
def flFlushed : Nat := 64
def flEmpty : Nat := 128
def flInfShare : Nat := 256

/-- The value that bits of a format spell (R117 to R119). -/
def fpOf (f bitsV : Nat) : Fp :=
  if f = 3 then .fin false bitsV 0
  else
    let s := fmtSign f; let neg := decide (s ≤ bitsV % (2 * s)); let mag := bitsV % s
    let p := 2 ^ (fmtPrec f - 1)
    if f = 0 ∧ mag = 0x7F then .nan
    else if f ≠ 0 ∧ fmtInf f < mag then .nan
    else if f ≠ 0 ∧ mag = fmtInf f then .inf neg
    else if mag / p = 0 then .fin neg mag (fmtMin f)
    else .fin neg (mag % p + p) (fmtMin f + ((mag / p - 1 : Nat) : Int))

/-- n / d to the nearest whole number, ties to even (R120); `more` says that the exact value lies above n / d by less than any step. -/
def rne (n d : Nat) (more : Bool) : Nat :=
  let q := n / d; let r := n % d
  if d < 2 * r ∨ (d = 2 * r ∧ (more ∨ q % 2 = 1)) then q + 1 else q

/-- The exponent of a positive n / d × 2^e: the largest k with 2^k at most the value. -/
def expOf (n d : Nat) (e : Int) : Int :=
  let k : Int := (Nat.log2 n : Int) - Nat.log2 d
  (if (if 0 ≤ k then decide (d * 2 ^ k.toNat ≤ n) else decide (d ≤ n * 2 ^ (-k).toNat)) then k else k - 1) + e

/-- Magnitude bits of n / d × 2^e in a format without an upper end, and whether that is inexact. -/
def roundMag (f n d : Nat) (e : Int) (more : Bool) : Nat × Bool :=
  if n = 0 then (0, more)
  else
    let q := max (fmtMin f) (expOf n d e + 1 - fmtPrec f)
    let nn := if q ≤ e then n * 2 ^ (e - q).toNat else n
    let dd := if q ≤ e then d else d * 2 ^ (q - e).toNat
    ((q - fmtMin f).toNat * 2 ^ (fmtPrec f - 1) + rne nn dd more, more || nn % dd != 0)

/-- The conversion of a value to W8 that has saturated (R121). -/
def w8Sat (satNan neg : Bool) : Nat × Nat := (if satNan then 0x7F else if neg then 0xFE else 0x7E, flSat)

/-- Round a finite n / d × 2^e into a format: its bits and flags (R120 to R122, R124). -/
def roundFin (f : Nat) (satNan flush neg : Bool) (n d : Nat) (e : Int) (more : Bool) : Nat × Nat :=
  let r := roundMag f n d e more
  let sg := if neg then fmtSign f else 0
  let sub := decide (r.1 < 2 ^ (fmtPrec f - 1))
  if f = 0 then
    (if n ≠ 0 ∧ (if 0 ≤ e then decide (232 * d ≤ n * 2 ^ e.toNat) else decide (232 * d * 2 ^ (-e).toNat ≤ n)) then w8Sat satNan neg
     else (sg + min r.1 0x7E, (if r.2 then flInexact else 0) + (if r.2 ∧ sub then flUnder else 0)))
  else if fmtInf f ≤ r.1 then (sg + fmtInf f, flOverflow + (if f = 1 then flInexact else 0))
  else if f = 1 then (sg + r.1, (if r.2 then flInexact else 0) + (if r.2 ∧ sub then flUnder else 0))
  else if flush ∧ sub ∧ r.1 ≠ 0 then (sg, flFlushed)
  else (sg + r.1, 0)

/-- A value into a format (R118, R121, R122). -/
def fpPut (f : Nat) (satNan flush : Bool) : Fp → Nat × Nat
  | .nan => (fmtNan f, if f = 0 then flInvalid else 0)
  | .inf neg => if f = 0 then w8Sat satNan neg else ((if neg then fmtSign f else 0) + fmtInf f, 0)
  | .fin neg m e => roundFin f satNan flush neg m 1 e false

/-- A value rounded to binary32. -/
def rnd32 (flush : Bool) (x : Fp) : Fp × Nat := let r := fpPut 2 false flush x; (fpOf 2 r.1, r.2)

/-- The exact product; none for zero times infinity (Table 5-4). -/
def fpMul : Fp → Fp → Option Fp
  | .nan, _ => some .nan
  | _, .nan => some .nan
  | .inf a, .inf b => some (.inf (a != b))
  | .inf a, .fin b m _ => if m = 0 then none else some (.inf (a != b))
  | .fin a m _, .inf b => if m = 0 then none else some (.inf (a != b))
  | .fin a m e, .fin b n g => some (.fin (a != b) (m * n) (e + g))

/-- A finite value's signed mantissa at an exponent not above its own. -/
def fpAt (neg : Bool) (m : Nat) (e q : Int) : Int :=
  let v : Int := ((m * 2 ^ (e - q).toNat : Nat) : Int)
  if neg then -v else v

/-- The exact sum; none for opposite infinities (Table 5-4). -/
def fpAdd : Fp → Fp → Option Fp
  | .nan, _ => some .nan
  | _, .nan => some .nan
  | .inf a, .inf b => if a = b then some (.inf a) else none
  | .inf a, .fin _ _ _ => some (.inf a)
  | .fin _ _ _, .inf b => some (.inf b)
  | .fin a m e, .fin b n g =>
    if m = 0 ∧ n = 0 then some (.fin (a && b) 0 0)
    else
      let q := min e g
      let v := fpAt a m e q + fpAt b n g q
      some (.fin (decide (v < 0)) v.natAbs q)

def fpNeg : Fp → Fp
  | .nan => .nan | .inf a => .inf (!a) | .fin a m e => .fin (!a) m e

/-- Is a value finite? -/
def fpFinite : Fp → Bool | .fin _ _ _ => true | _ => false

/-- Order of two values that are not NaN; +0 and −0 are equal. -/
def fpLt : Fp → Fp → Bool
  | .nan, _ => false
  | _, .nan => false
  | .inf a, .inf b => a && !b
  | .inf a, .fin _ _ _ => a
  | .fin _ _ _, .inf b => !b
  | .fin a m e, .fin b n g => decide (fpAt a m e (min e g) < fpAt b n g (min e g))
def fpEq (x y : Fp) : Bool := !fpLt x y && !fpLt y x && x != .nan && y != .nan

/-- The larger, the smaller: MAX gives +0 over −0, MIN −0 (Table 5-4). -/
def fpIsNeg : Fp → Bool | .nan => false | .inf a => a | .fin a _ _ => a
def fpMax (x y : Fp) : Fp := if fpLt x y ∨ (fpEq x y ∧ fpIsNeg x) then y else x
def fpMin (x y : Fp) : Fp := if fpLt y x ∨ (fpEq x y ∧ fpIsNeg y) then y else x
def fpZero : Fp := .fin false 0 0

/-- A quotient of finite values rounded once into a format; the divisor is not zero. -/
def fpDiv (f : Nat) (satNan flush : Bool) : Fp → Fp → Nat × Nat
  | .fin a m e, .fin b n g => roundFin f satNan flush (a != b) m (max 1 n) (e - g) false
  | x, _ => fpPut f satNan flush x

/-! ### Powers of two -/

/-- 2^(2^−i) in 2^-192, by repeated square roots, from 2^(2^0). -/
def root2 : Nat → Nat
  | 0 => 2 ^ 193
  | i + 1 => Nat.sqrt (root2 i * 2 ^ 192)

/-- 2^f in 2^-192 for a fraction f of `w` bits: the product over its ones, the highest bit first. -/
def pow2Frac (fr : Nat) : Nat → Nat → Nat → Nat
  | 0, _, acc => acc
  | w + 1, i, acc => pow2Frac fr w (i + 1) (if fr.testBit w then acc * root2 i / 2 ^ 192 else acc)

/-- 2^a of a finite value, correctly rounded into a format (R109, Table 5-4): below the smallest subnormal it is +0. -/
def exp2Fin (f : Nat) (satNan flush neg : Bool) (m : Nat) (e : Int) : Nat × Nat :=
  let tiny := (0, if f = 2 then 0 else flInexact + flUnder)
  if m = 0 then roundFin f satNan flush false 1 1 0 false
  else if 0 ≤ e then
    (if 200 < m * 2 ^ (min e 200).toNat then
      (if neg then tiny else if f = 0 then w8Sat satNan false else (fmtInf f, flOverflow + (if f = 1 then flInexact else 0)))
     else
      let k := (m * 2 ^ e.toNat : Nat)
      if neg then (if ((-(k : Int)) < fmtMin f) then tiny else roundFin f satNan flush false 1 1 (-(k : Int)) false)
      else roundFin f satNan flush false 1 1 k false)
  else if expOf m 1 e < -96 then roundFin f satNan flush false 1 1 0 true
  else
    let w := (-e).toNat
    let v : Int := if neg then -(m : Int) else m
    let whole := v / (2 ^ w : Nat)
    let fr := (v % (2 ^ w : Nat)).toNat
    if 200 < whole then (if f = 0 then w8Sat satNan false else (fmtInf f, flOverflow + (if f = 1 then flInexact else 0)))
    else if whole < fmtMin f then tiny
    else if fr = 0 then roundFin f satNan flush false 1 1 whole false
    else roundFin f satNan flush false (pow2Frac fr w 1 (2 ^ 192)) 1 (whole - 192) true

/-! ### Histograms and numbers -/

/-- The bin of a value (Table 5-8). -/
def histBin : Fp → Nat
  | .nan => 31
  | .inf _ => 31
  | .fin _ m e => if m = 0 then 0 else clampN 1 30 ((expOf m 1 e + 16).toNat)

/-- A whole number, and a number of steps of 1/2^k, as a value. -/
def fpInt (i : Int) : Fp := .fin (decide (i < 0)) i.natAbs 0
def fpStep (i : Int) (k : Nat) : Fp := .fin (decide (i < 0)) i.natAbs (-(k : Int))

/-- The largest number of steps of 1/2^k not above a finite value; 0 for one that is not finite. -/
def fpFloor (k : Nat) : Fp → Int
  | .fin neg m e =>
    let g := e + k
    let v : Int := if neg then -(m : Int) else m
    if 0 ≤ g then v * (2 ^ g.toNat : Nat) else v / ((2 ^ (-g).toNat : Nat) : Int)
  | _ => 0

/-- The nearest number of steps of 1/2^k, ties to even. -/
def fpRound (k : Nat) : Fp → Int
  | .fin neg m e =>
    let g := e + k
    let r : Int := if 0 ≤ g then ((m * 2 ^ g.toNat : Nat) : Int) else ((rne m (2 ^ (-g).toNat) false : Nat) : Int)
    if neg then -r else r
  | _ => 0

/-- binary32 operations of the built-in routines and the scaling (R78): every result rounded to binary32; no number where none is
defined. -/
def f32Add (x y : Fp) : Fp := match fpAdd x y with | some r => (rnd32 false r).1 | none => .nan
def f32Sub (x y : Fp) : Fp := f32Add x (fpNeg y)
def f32Mul (x y : Fp) : Fp := match fpMul x y with | some r => (rnd32 false r).1 | none => .nan
def f32Div (x y : Fp) : Fp :=
  match x, y with
  | .fin _ m _, .fin _ n _ => if n = 0 then (if m = 0 then .nan else .inf (fpIsNeg x != fpIsNeg y)) else fpOf 2 (fpDiv 2 false false x y).1
  | .fin _ _ _, .inf b => .fin (fpIsNeg x != b) 0 0
  | .inf a, .fin _ _ _ => .inf (a != fpIsNeg y)
  | _, _ => .nan
/-- Bits of a value in binary32, and a value from them. -/
def f32Bits (x : Fp) : Nat := (fpPut 2 false false x).1
def f32Of (b : Nat) : Fp := fpOf 2 b

end Sys2Proof.Machine
end

