-- ==== Sys2Proof/Machine/Pxe.lean ====
section
/-! DEFINITION. The predictor engine (chapters 04 and 05): descriptors, kernels bit for bit, runs, flags and the first-fault capture,
and the checks of a program image. -/

namespace Sys2Proof.Machine

/-! ### Descriptors (Table 4-6) -/

structure Desc where
  op : Nat
  func : Nat
  fa : Nat
  fb : Nat
  fo : Nat
  masked : Bool
  accum : Bool
  bcast : Bool
  histEn : Bool
  flush : Bool
  satNan : Bool
  a : Nat
  b : Nat
  dst : Nat
  m : Nat
  k : Nat
  n : Nat
  seg : Nat
  c : Nat
  hadr : Nat
  /-- A reserved bit is set. -/
  resv : Bool
  deriving DecidableEq, Repr

/-- The descriptor of eight words. -/
def descOf (w : List Nat) : Desc :=
  let w0 := nth w 0
  ⟨bits w0 0 8, bits w0 8 4, bits w0 12 2, bits w0 14 2, bits w0 16 2, bit w0 18, bit w0 19, bit w0 20, bit w0 21, bit w0 22, bit w0 23,
   bits (nth w 1) 0 22, bits (nth w 2) 0 22, bits (nth w 3) 0 22, bits (nth w 4) 0 16, bits (nth w 4) 16 16, bits (nth w 5) 0 16,
   bits (nth w 5) 16 16, bits (nth w 6) 0 22, bits (nth w 7) 0 22,
   bits w0 24 8 != 0 || [1, 2, 3, 6, 7].any (fun i => bits (nth w i) 22 10 != 0)⟩

/-- The kernels by class, with OP and FUNC of Table 4-7. -/
def isElem2 (d : Desc) : Bool := d.op == 1 && decide (d.func ≤ 4)
def isElem1 (d : Desc) : Bool := d.op == 1 && decide (5 ≤ d.func) && decide (d.func ≤ 7)
def isCmp (d : Desc) : Bool := d.op == 6 && decide (d.func ≤ 5)
def isSel (d : Desc) : Bool := d.op == 6 && d.func == 8
def isRed (d : Desc) : Bool := d.op == 4 && decide (d.func ≤ 4)
def isKernel (d : Desc) : Bool :=
  (d.op == 0 && d.func == 0) || isElem1 d || isElem2 d || (d.op == 2 && d.func == 0) || (d.op == 3 && d.func == 0) || isRed d ||
    (d.op == 5 && d.func == 0) || isCmp d || isSel d || (d.op == 7 && decide (d.func ≤ 3)) || (d.op == 8 && d.func == 0) ||
    (d.op == 9 && d.func == 0)

/-- The segment length of a reduction. -/
def segOf (d : Desc) : Nat := if d.seg = 0 then max 1 d.n else d.seg

/-- Cost in lane-operations (Table 4-7). -/
def costOf (d : Desc) : Nat :=
  let c := fun x => cdiv x 256
  match d.op with
  | 0 => 1
  | 1 => if 6 ≤ d.func then 4 * c d.n + 2 else c d.n + 2
  | 2 => c (d.m * d.k) + 8
  | 3 => c (d.m * d.k * d.n) + 8
  | 4 => c d.n + 8 + c (d.n / segOf d)
  | 5 => 6 * c (d.m * d.n) + 16
  | 6 => c d.n + 2
  | 7 => match d.func with | 0 => c d.n + 4 | 1 => c (d.m * d.n) + 4 | _ => c d.n + 2
  | 8 => c (d.m * (d.m + d.k)) + 8
  | _ => c d.n + 4

/-- Elements of the output tensor, and its length in bytes. -/
def outElems (d : Desc) : Nat :=
  match d.op with
  | 0 => 0 | 2 => d.m | 3 => d.m * d.n | 4 => d.n / segOf d | 5 => d.m * d.n | 7 => if d.func = 1 then d.m * d.n else d.n
  | 8 => d.m | 9 => 32 | _ => d.n
def outLen (d : Desc) : Nat := if isCmp d then cdiv d.n 8 else outElems d * fmtBytes d.fo

/-- Bytes read by each source: start, length, alignment. -/
def srcRanges (d : Desc) : List (Nat × Nat × Nat) :=
  let t := fun (base f n : Nat) => (base, n * fmtBytes f, fmtBytes f)
  let msk := fun (n : Nat) => if d.masked then [(d.c, cdiv n 8, 1)] else []
  let nb := if d.bcast then 1 else d.n
  match d.op with
  | 0 => []
  | 1 => if d.func ≤ 4 then [t d.a d.fa d.n, t d.b d.fb nb] ++ msk d.n else t d.a d.fa d.n :: msk d.n
  | 2 => [t d.a d.fa (d.m * d.k), t d.b d.fb d.k]
  | 3 => [t d.a d.fa (d.m * d.k), t d.b d.fb (d.k * d.n)]
  | 4 => t d.a d.fa d.n :: msk d.n
  | 5 => t d.a d.fa (d.m * d.n) :: msk (d.m * d.n)
  | 6 => [t d.a d.fa d.n, t d.b d.fb nb] ++ (if d.func = 8 then [(d.c, cdiv d.n 8, 1)] else msk d.n)
  | 7 => match d.func with
    | 0 => [t d.a d.fa d.k, t d.b 3 d.n] | 1 => [t d.a d.fa (d.m * d.n)] | _ => [t d.a d.fa d.n]
  | 8 => [t d.a 1 (d.m * d.m), t d.b 1 (d.m * d.k), t d.c 2 d.k]
  | _ => t d.a d.fa d.n :: msk d.n

/-! ### Reading -/

/-- Where a slot's 22-bit address lies in the engine's memories (R103). -/
def pxeAddr (slot a : Nat) : Nat := if a < 0x200000 then a else 0x200000 + 0x10000 * slot + (a - 0x200000)

/-- An operand as read: format, bits and address; an address beyond the memories marks an intermediate value. -/
structure Opd where
  f : Nat
  b : Nat
  addr : Nat
  deriving DecidableEq, Repr

def noOpd : Opd := ⟨0, 0, 0x400000⟩
def opdOf (x : Fp) : Opd := ⟨2, f32Bits x, 0x400000⟩

/-- An invalid event within a descriptor (R125, R132). -/
structure KEv where
  elem : Nat
  term : Nat
  cause : Nat
  x : Opd
  y : Opd
  deriving DecidableEq, Repr

/-- A value on its way, with the flags set and the events met. -/
structure KAcc where
  v : Fp
  fl : Nat
  ev : List KEv
  deriving DecidableEq, Repr

def accZero : KAcc := ⟨fpZero, 0, []⟩

/-- What the kernels of one descriptor read. -/
structure Env where
  mem : Mem
  slot : Nat
  d : Desc
  deriving DecidableEq, Repr

def Env.rd (g : Env) (f base i : Nat) : Opd :=
  let a := base + i * fmtBytes f
  ⟨f, memLE g.mem (pxeAddr g.slot a) (fmtBytes f), a⟩
def Env.maskBit (g : Env) (i : Nat) : Bool := (memByte g.mem (pxeAddr g.slot (g.d.c + i / 8))).toNat.testBit (i % 8)
/-- Is an element included? -/
def Env.incl (g : Env) (i : Nat) : Bool := !g.d.masked || g.maskBit i

/-- A source value; a binary32 subnormal is flushed under FLUSH (R124). -/
def Env.val (g : Env) (o : Opd) : Fp × Nat :=
  if g.d.flush && o.f == 2 && decide (o.b % 2 ^ 31 ≠ 0) && decide (o.b % 2 ^ 31 < 2 ^ 23) then
    (.fin (decide (2 ^ 31 ≤ o.b)) 0 0, flFlushed)
  else (fpOf o.f o.b, 0)

/-- One source element as a term: a NaN is an event (Table 5-4). -/
def Env.one (g : Env) (elem term : Nat) (x : Opd) : KAcc :=
  let v := g.val x
  if v.1 = .nan then ⟨.nan, flInvalid ||| v.2, [⟨elem, term, 3, x, noOpd⟩]⟩ else ⟨v.1, v.2, []⟩

/-- The product of two source elements as a term; `round` rounds it to binary32. -/
def Env.prod (g : Env) (elem term : Nat) (round : Bool) (x y : Opd) : KAcc :=
  let p := g.val x; let q := g.val y; let fl := p.2 ||| q.2
  if p.1 = .nan ∨ q.1 = .nan then ⟨.nan, flInvalid ||| fl, [⟨elem, term, 3, x, y⟩]⟩
  else
    match fpMul p.1 q.1 with
    | none => ⟨.nan, flInvalid ||| fl, [⟨elem, term, 1, x, y⟩]⟩
    | some r => if round then let t := rnd32 g.d.flush r; ⟨t.1, fl ||| t.2, []⟩ else ⟨r, fl, []⟩

/-- The exact sum of two values that are already terms; opposite infinities are an event. -/
def addTerm (elem term : Nat) (a t : KAcc) : KAcc :=
  match fpAdd a.v t.v with
  | none => ⟨.nan, a.fl ||| t.fl ||| flInvalid, a.ev ++ t.ev ++ [⟨elem, term, 2, opdOf a.v, opdOf t.v⟩]⟩
  | some r => ⟨r, a.fl ||| t.fl, a.ev ++ t.ev⟩

/-- The same, rounded to binary32 (R95, R96). -/
def Env.accAdd (g : Env) (elem term : Nat) (a t : KAcc) : KAcc :=
  let r := addTerm elem term a t; let q := rnd32 g.d.flush r.v
  ⟨q.1, r.fl ||| q.2, r.ev⟩

/-- One group of at most 256 terms enters the lanes from term `k` on; a left-out term leaves its lane. -/
def Env.laneStep (g : Env) (elem : Nat) : Nat → List KAcc → List (Option KAcc) → List KAcc
  | k, a :: as, t :: ts => (match t with | none => a | some x => g.accAdd elem k a x) :: g.laneStep elem (k + 1) as ts
  | _, as, [] => as
  | _, [], _ => []
def Env.lanes (g : Env) (elem : Nat) : Nat → Nat → List (Option KAcc) → List KAcc → List KAcc
  | 0, _, _, acc => acc
  | n + 1, k, ts, acc => if ts.isEmpty then acc else g.lanes elem n (k + 256) (ts.drop 256) (g.laneStep elem k acc (ts.take 256))

/-- One level of the binary tree. -/
def Env.pairs (g : Env) (elem : Nat) : List KAcc → List KAcc
  | a :: b :: r => g.accAdd elem 0xFFFF a b :: g.pairs elem r
  | l => l

/-- The sum of R96: 256 lanes from +0, with the previous output first in lane 0 where ACCUM gives one, then eight levels. -/
def Env.sum (g : Env) (elem : Nat) (prev : Option KAcc) (ts : List (Option KAcc)) : KAcc :=
  let l0 := match prev with | none => accZero | some p => g.accAdd elem 0 accZero p
  let l := g.lanes elem (ts.length / 256 + 1) 0 ts (l0 :: List.replicate 255 accZero)
  ((List.range 8).foldl (fun x _ => g.pairs elem x) l).headD accZero

/-! ### Kernels: the outcome of each output element -/

/-- Bits, flags and events of one output element. -/
abbrev KOut := Nat × Nat × List KEv

/-- Round a value into the output format. -/
def Env.out (g : Env) (a : KAcc) : KOut :=
  let r := fpPut g.d.fo g.d.satNan g.d.flush a.v
  (r.1, a.fl ||| r.2, a.ev)

/-- Binary elementwise kernels (OP 0x01). -/
def Env.elem2 (g : Env) (i : Nat) : KAcc :=
  let x := g.rd g.d.fa g.d.a i; let y := g.rd g.d.fb g.d.b (if g.d.bcast then 0 else i)
  match g.d.func with
  | 1 => g.prod i 0 false x y
  | 2 => addTerm i 0 (g.prod i 0 false x y) (g.one i 0 (g.rd g.d.fo g.d.dst i))
  | f =>
    let p := g.val x; let q := g.val y; let fl := p.2 ||| q.2
    if p.1 = .nan ∨ q.1 = .nan then ⟨.nan, flInvalid ||| fl, [⟨i, 0, 3, x, y⟩]⟩
    else if f = 0 then addTerm i 0 ⟨p.1, p.2, []⟩ ⟨q.1, q.2, []⟩
    else ⟨if f = 3 then fpMax p.1 q.1 else fpMin p.1 q.1, fl, []⟩

/-- ABS, EXP2, RECIP. -/
def Env.elem1 (g : Env) (i : Nat) : KOut :=
  let x := g.rd g.d.fa g.d.a i
  let a := g.one i 0 x
  match g.d.func, a.v with
  | _, .nan => g.out a
  | 5, .inf _ => g.out { a with v := .inf false }
  | 5, .fin _ m e => g.out { a with v := .fin false m e }
  | 6, .inf neg =>
    if neg then (0, a.fl, a.ev)
    else if g.d.fo = 0 then let r := w8Sat g.d.satNan false; (r.1, a.fl ||| r.2, a.ev) else (fmtInf g.d.fo, a.fl ||| flOverflow, a.ev)
  | 6, .fin neg m e => let r := exp2Fin g.d.fo g.d.satNan g.d.flush neg m e; (r.1, a.fl ||| r.2, a.ev)
  | _, .inf neg => g.out { a with v := .fin neg 0 0 }
  | _, .fin neg m e =>
    if m = 0 then g.out ⟨.inf neg, a.fl ||| flDivZero, a.ev ++ [⟨i, 0, 5, x, noOpd⟩]⟩
    else let r := roundFin g.d.fo g.d.satNan g.d.flush neg 1 m (-e) false; (r.1, a.fl ||| r.2, a.ev)

/-- A dot product of `k` terms (GEMV, GEMM). -/
def Env.dot (g : Env) (elem k : Nat) (ia ib : Nat → Nat) : KOut :=
  let prev := if g.d.accum then some (g.one elem 0 (g.rd g.d.fo g.d.dst elem)) else none
  g.out (g.sum elem prev ((List.range k).map (fun j => some (g.prod elem j false (g.rd g.d.fa g.d.a (ia j)) (g.rd g.d.fb g.d.b (ib j))))))

/-- The included elements of a segment, by index in it. -/
def Env.segElems (g : Env) (s : Nat) : List Nat := (List.range (segOf g.d)).filter (fun j => g.incl (s * segOf g.d + j))

/-- One segment of a reduction (R127). -/
def Env.red (g : Env) (s : Nat) : KOut :=
  let js := g.segElems s
  let at' := fun j => g.one s j (g.rd g.d.fa g.d.a (s * segOf g.d + j))
  let big := fun (neg : Bool) => if g.d.fo = 0 then (if neg then 0xFE else 0x7E) else (if neg then fmtSign g.d.fo else 0) + fmtInf g.d.fo
  if js.isEmpty then
    ((match g.d.func with | 1 => big true | 2 => big false | 3 => 0xFFFF | _ => 0), flEmpty, [])
  else
    let xs := js.map at'
    let fl := xs.foldl (fun f a => f ||| a.fl) 0
    let ev := xs.flatMap (fun a => a.ev)
    let nan := xs.any (fun a => a.v == .nan)
    let best := fun (better : Fp → Fp → Bool) =>
      (js.zip xs).foldl (fun (b : Nat × Fp) e => if better e.2.v b.2 then (e.1, e.2.v) else b) (js.headD 0, (xs.headD accZero).v)
    match g.d.func with
    | 1 => if nan then g.out ⟨.nan, fl, ev⟩ else g.out ⟨xs.foldl (fun m a => fpMax m a.v) (.inf true), fl, ev⟩
    | 2 => if nan then g.out ⟨.nan, fl, ev⟩ else g.out ⟨xs.foldl (fun m a => fpMin m a.v) (.inf false), fl, ev⟩
    | 3 => if nan then (0xFFFF, fl, ev) else ((best (fun x y => fpLt y x)).1, fl, ev)
    | f =>
      let ts := (List.range (segOf g.d)).map (fun j => if g.incl (s * segOf g.d + j) then some (at' j) else none)
      let t := g.sum s none ts
      if f = 4 then
        let r := match t.v with
          | .fin _ _ _ => fpDiv g.d.fo g.d.satNan g.d.flush t.v (fpInt js.length)
          | v => fpPut g.d.fo g.d.satNan g.d.flush v
        (r.1, t.fl ||| r.2, t.ev)
      else g.out t

/-- log2(e) rounded to binary32. -/
def log2e : Fp := .fin false 12102203 (-23)

/-- One row of SOFTMAX (R128): the outcomes of its elements. -/
def Env.softRow (g : Env) (row : Nat) : List KOut :=
  let base := row * g.d.n
  let js := (List.range g.d.n).filter (fun j => g.incl (base + j))
  let xs := js.map (fun j => (j, g.one (base + j) 0 (g.rd g.d.fa g.d.a (base + j))))
  let fl := xs.foldl (fun f a => f ||| a.2.fl) 0
  let ev := xs.flatMap (fun a => a.2.ev)
  let all := fun (h : Nat → Nat × Nat) => (List.range g.d.n).map (fun j =>
    let r := h j; ((r.1, r.2 ||| (if j = 0 then fl else 0), if j = 0 then ev else []) : KOut))
  let infs := xs.filter (fun a => a.2.v == .inf false)
  if xs.any (fun a => a.2.v == .nan) then all (fun _ => fpPut g.d.fo g.d.satNan g.d.flush .nan)
  else if xs.all (fun a => a.2.v == .inf true) then all (fun _ => (0, flEmpty))
  else if infs.length ≠ 0 then
    let share := fpDiv g.d.fo g.d.satNan g.d.flush (fpInt 1) (fpInt infs.length)
    all (fun j => if infs.any (fun a => a.1 == j) then (share.1, share.2 ||| flInfShare) else (0, 0))
  else
    let m := xs.foldl (fun v a => fpMax v a.2.v) (.inf true)
    let ps := xs.map (fun a =>
      let dd := addTerm 0 0 ⟨a.2.v, 0, []⟩ ⟨fpNeg m, 0, []⟩
      let d1 := rnd32 g.d.flush dd.v
      let t0 := match fpMul d1.1 log2e with | some r => r | none => .nan
      let t := rnd32 g.d.flush t0
      let p := match t.1 with
        | .fin neg mm e => exp2Fin 2 false g.d.flush neg mm e
        | .inf neg => if neg then (0, 0) else (fmtInf 2, flOverflow)
        | .nan => (fmtNan 2, 0)
      (a.1, fpOf 2 p.1, d1.2 ||| t.2 ||| p.2))
    let terms := (List.range g.d.n).map (fun j => (ps.find? (fun q => q.1 = j)).map (fun q => (⟨q.2.1, q.2.2, []⟩ : KAcc)))
    let s := g.sum base none terms
    all (fun j => match ps.find? (fun q => q.1 = j) with
      | some q => let r := fpDiv g.d.fo g.d.satNan g.d.flush q.2.1 s.v; (r.1, r.2 ||| s.fl)
      | none => (0, s.fl))

/-- Compare kernels write a mask bit. -/
def Env.cmp (g : Env) (i : Nat) : KOut :=
  let x := g.rd g.d.fa g.d.a i; let y := g.rd g.d.fb g.d.b (if g.d.bcast then 0 else i)
  let p := g.val x; let q := g.val y
  if p.1 = .nan ∨ q.1 = .nan then (b2n (g.d.func == 3), flInvalid ||| p.2 ||| q.2, [⟨i, 0, 3, x, y⟩])
  else
    let lt := fpLt p.1 q.1; let gt := fpLt q.1 p.1
    let r := match g.d.func with | 0 => lt | 1 => !gt | 2 => !lt && !gt | 3 => lt || gt | 4 => gt | _ => !lt
    (b2n r, p.2 ||| q.2, [])

/-- PERMUTE. -/
def Env.perm (g : Env) (i : Nat) : KOut :=
  let ix := g.rd 3 g.d.b i
  if g.d.k ≤ ix.b then (0, flInvalid, [⟨i, 0, 4, ⟨g.d.fa, 0, 0x400000⟩, ix⟩]) else g.out (g.one i 0 (g.rd g.d.fa g.d.a ix.b))

/-- SSM: the new state wholly from the old one. A·x and B·u are taken as one sum of M + K terms in the order of R96, A's terms first; the spec
does not say whether they share one sum (DESIGN CHOICE, log entry 75). -/
def Env.ssm (g : Env) (i : Nat) : KOut :=
  let ta := (List.range g.d.m).map (fun j => some (g.prod i j true (g.rd 1 g.d.a (i * g.d.m + j)) (g.rd 2 g.d.dst j)))
  let tb := (List.range g.d.k).map (fun j => some (g.prod i (g.d.m + j) true (g.rd 1 g.d.b (i * g.d.k + j)) (g.rd 2 g.d.c j)))
  g.out (g.sum i none (ta ++ tb))

/-- The included elements of source A, as HIST takes them: flushed where FLUSH says so, a NaN being an event (R124, R125). -/
def Env.histEls (g : Env) : List KAcc :=
  ((List.range g.d.n).filter (fun i => g.incl i)).map (fun i => g.one i 0 (g.rd g.d.fa g.d.a i))

/-- The exponent histogram of source A (HIST): 32 counts; the flags and events of its elements stand at the first. -/
def Env.histA (g : Env) : List KOut :=
  let xs := g.histEls
  (List.range 32).map (fun b =>
    (min 0xFFFFFFFF (xs.filter (fun a => histBin a.v == b)).length, if b = 0 then xs.foldl (fun f a => f ||| a.fl) 0 else 0,
     if b = 0 then xs.flatMap (fun a => a.ev) else []))

/-- The outcomes of a descriptor: output elements with their indices. -/
def Env.outs (g : Env) : List (Nat × KOut) :=
  let d := g.d
  let each := fun (n : Nat) (f : Nat → KOut) => (List.range n).map (fun i => (i, f i))
  let mask := fun (n : Nat) (f : Nat → KOut) => ((List.range n).filter (fun i => g.incl i)).map (fun i => (i, f i))
  match d.op with
  | 1 => mask d.n (fun i => if d.func ≤ 4 then g.out (g.elem2 i) else g.elem1 i)
  | 2 => each d.m (fun i => g.dot i d.k (fun j => i * d.k + j) (fun j => j))
  | 3 => each (d.m * d.n) (fun i => g.dot i d.k (fun j => i / max 1 d.n * d.k + j) (fun j => j * d.n + i % max 1 d.n))
  | 4 => each (d.n / segOf d) g.red
  | 5 => ((List.range d.m).flatMap (fun r => (g.softRow r).zipIdx.map (fun e => (r * d.n + e.2, e.1))))
  | 6 => if d.func = 8 then mask d.n (fun i => g.out (g.one i 0 (if g.maskBit i then g.rd d.fa d.a i
             else g.rd d.fb d.b (if d.bcast then 0 else i)))) else mask d.n g.cmp
  | 7 => match d.func with
    | 0 => each d.n g.perm
    | 1 => each (d.m * d.n) (fun i => g.out (g.one i 0 (g.rd d.fa d.a (i % max 1 d.m * d.n + i / max 1 d.m))))
    | _ => each d.n (fun i => g.out (g.one i 0 (g.rd d.fa d.a i)))
  | 8 => each d.m g.ssm
  | 9 => g.histA.zipIdx.map (fun e => (e.2, e.1))
  | _ => []

/-! ### Runs -/

/-- End of a slot's region: its output area is the 1 KiB below (R103). -/
def slotEnd (k : Nat) : Nat := nth [0x080000, 0x100000, 0x140000, 0x1C0000] k
def slotBase (k : Nat) : Nat := nth [0, 0x080000, 0x100000, 0x140000] k
def outArea (k : Nat) : Nat := slotEnd k - 0x400

/-- An event with its descriptor. -/
structure PEv where
  desc : Nat
  d : Desc
  ev : KEv
  deriving DecidableEq, Repr

/-- A run so far: memory, flags with the descriptor that first set each, events, and the last output histogram. -/
structure PRun where
  mem : Mem
  flags : Nat
  first : Assoc Nat
  evs : List PEv
  hist : List Nat
  /-- Local memory words with inverted check bits, and those of them that were read, oldest first (R106). -/
  ecc : Assoc Nat
  bad : List Nat
  deriving DecidableEq, Repr

/-- Write one element. -/
def wrElem (g : Env) (m : Mem) (e : Nat × KOut) : Mem :=
  if isCmp g.d then
    let a := pxeAddr g.slot (g.d.dst + e.1 / 8)
    memPut m a [putBit (memByte m a).toNat (e.1 % 8) (e.2.1 != 0)]
  else memPutLE m (pxeAddr g.slot (g.d.dst + e.1 * fmtBytes g.d.fo)) (fmtBytes g.d.fo) e.2.1

/-- Does an event come before another within a descriptor (R132)? -/
def KEv.before (a b : KEv) : Bool := decide (a.elem < b.elem) || (a.elem == b.elem && decide (a.term < b.term))
def insEv (a : KEv) : List KEv → List KEv
  | [] => [a]
  | b :: r => if a.before b then a :: b :: r else b :: insEv a r

/-- The ranges that a descriptor reads, as start and length: a source element that a mask excludes, or that SEL or PERMUTE passes over, is not
read (R125); END reads the output area to publish it (R105). -/
def Env.reads (g : Env) : List (Nat × Nat) :=
  let d := g.d
  let el := fun (base f i : Nat) => (base + i * fmtBytes f, fmtBytes f)
  let all := fun (base f n : Nat) => (base, n * fmtBytes f)
  let inc := fun (n : Nat) => (List.range n).filter (fun i => g.incl i)
  let msk := fun (n : Nat) => if d.masked then [(d.c, cdiv n 8)] else []
  let ib := fun (i : Nat) => if d.bcast then 0 else i
  let old := fun (n : Nat) => if d.accum then [all d.dst d.fo n] else []
  match d.op with
  | 0 => [(outArea g.slot, 0x400)]
  | 1 => msk d.n ++ (inc d.n).flatMap (fun i =>
      [el d.a d.fa i] ++ (if d.func ≤ 4 then [el d.b d.fb (ib i)] else []) ++ (if d.func = 2 then [el d.dst d.fo i] else []))
  | 2 => [all d.a d.fa (d.m * d.k), all d.b d.fb d.k] ++ old d.m
  | 3 => [all d.a d.fa (d.m * d.k), all d.b d.fb (d.k * d.n)] ++ old (d.m * d.n)
  | 4 => msk d.n ++ (inc d.n).map (fun i => el d.a d.fa i)
  | 5 => msk (d.m * d.n) ++ (inc (d.m * d.n)).map (fun i => el d.a d.fa i)
  | 6 =>
    if d.func = 8 then (d.c, cdiv d.n 8) :: (inc d.n).map (fun i => if g.maskBit i then el d.a d.fa i else el d.b d.fb (ib i))
    else msk d.n ++ (inc d.n).flatMap (fun i => [el d.a d.fa i, el d.b d.fb (ib i)])
  | 7 => match d.func with
    | 0 => all d.b 3 d.n :: ((List.range d.n).map (fun i => (g.rd 3 d.b i).b)).filterMap (fun x => if x < d.k then some (el d.a d.fa x) else none)
    | 1 => [all d.a d.fa (d.m * d.n)]
    | _ => [all d.a d.fa d.n]
  | 8 => [all d.a 1 (d.m * d.m), all d.b 1 (d.m * d.k), all d.c 2 d.k, all d.dst 2 d.m]
  | _ => msk d.n ++ (inc d.n).map (fun i => el d.a d.fa i)

/-- A range of bytes holds part of a 64-bit word. -/
def inWord (w : Nat) (x : Nat × Nat) : Bool := decide (x.1 < 8 * w + 8) && decide (8 * w < x.1 + x.2)

/-- The words with inverted check bits that a descriptor reads. -/
def Env.badReads (g : Env) (ecc : Assoc Nat) : List Nat :=
  if ecc.isEmpty then [] else let rs := g.reads; (ecc.map (fun e => e.1)).filter (fun w => rs.any (inWord w))

/-- The ranges that a descriptor writes. -/
def Env.writes (g : Env) : List (Nat × Nat) :=
  let els := if isCmp g.d then g.outs.map (fun e => (g.d.dst + e.1 / 8, 1)) else g.outs.map (fun e => (g.d.dst + e.1 * fmtBytes g.d.fo, fmtBytes g.d.fo))
  if g.d.histEn then (g.d.hadr, 128) :: els else els

/-- One descriptor of a run (R97, R134, R135). A word that it writes has right check bits again. -/
def runDesc (slot : Nat) (i : Nat) (d : Desc) (r : PRun) : PRun :=
  let g : Env := ⟨r.mem, slot, d⟩
  let os := g.outs
  let fl := os.foldl (fun f e => f ||| e.2.2.1) 0
  let ev := (os.flatMap (fun e => e.2.2.2)).foldl (fun l e => insEv e l) []
  let m1 := os.foldl (fun m e => wrElem g m e) r.mem
  let binned := fun (e : Nat × KOut) => histBin (fpOf d.fo e.2.1)
  let hist := if isCmp d ∨ d.op = 9 then List.replicate 32 0
    else (List.range 32).map (fun b => min 0xFFFFFFFF (os.filter (fun e => binned e == b)).length)
  let m2 := if d.histEn then (List.range 32).foldl (fun m b => memPutLE m (pxeAddr slot (d.hadr + 4 * b)) 4 (nth hist b)) m1 else m1
  let new := (List.range 9).filter (fun f => fl.testBit f && !r.flags.testBit f)
  let ecc := if r.ecc.isEmpty then [] else let ws := g.writes; r.ecc.filter (fun e => !ws.any (inWord e.1))
  ⟨m2, r.flags ||| fl, new.foldl (fun m f => aIns m f i) r.first, r.evs ++ ev.map (fun e => ⟨i, d, e⟩), hist, ecc, r.bad ++ g.badReads r.ecc⟩

/-- Descriptor `i` of a slot's program memory. -/
def descAt (m : Mem) (slot i : Nat) : Desc :=
  descOf ((List.range 8).map (fun w => memLE m (0x200000 + 0x10000 * slot + 0x100 + 32 * i + 4 * w) 4))

/-- Run descriptors from `i` on until END, at most `n` of them; a descriptor that reads an uncorrectable word ends the run there and leaves
nothing of its own (R106). -/
def runFrom (slot : Nat) (prog : Mem) : Nat → Nat → PRun → PRun
  | 0, _, r => r
  | n + 1, i, r =>
    let d := descAt prog slot i
    let bad := Env.badReads ⟨r.mem, slot, d⟩ r.ecc
    if bad.any (fun w => decide (2 ≤ aGet 0 r.ecc w)) || d.op == 0 then { r with bad := r.bad ++ bad }
    else runFrom slot prog n (i + 1) (runDesc slot i d r)

/-- Bytes of local memory are stored by another unit: their words have right check bits (R106, R394). -/
def pxeStored (a n : Nat) (s : State) : State :=
  { s with pxe := { s.pxe with ecc := s.pxe.ecc.filter (fun e => !inWord e.1 (a, n)) } }

/-- A slot's program, at most `n` descriptors of it. -/
def runProg (s : State) (slot n : Nat) : PRun :=
  runFrom slot s.pxe.mem n 0 ⟨s.pxe.mem, 0, [], [], List.replicate 32 0, s.pxe.ecc, []⟩

/-! ### Slots -/

def setPxe (p : PxeState) (s : State) : State := { s with pxe := p }
def slotSt (s : State) (k : Nat) : Nat := getF s (PXE.SLOT_STATUS.STATE k)
def setSlotSt (k x : Nat) (s : State) : State := setF s (PXE.SLOT_STATUS.STATE k) x

/-- The engine runs: not in Retain or Dormant, nor on the way out of them; it runs in Doze and Nap and while they are left (R102). -/
def engineOn (s : State) : Bool :=
  decide (getF s STA.REST_STATUS.STATE < 3) || (getF s STA.REST_STATUS.STATE == 5 && decide (s.sta.exitOf < 3))

/-- Deadline of a slot, in ticks (Table 4-2). -/
def userPeriod (s : State) : Nat := getC s PXE.USER_PERIOD.PERIOD 1 1000
def slotDeadline (s : State) (k : Nat) : Nat := match k with | 0 => us 1 | 3 => us 100 * userPeriod s | _ => us 100
/-- Budget of a slot; slot 3's follows USER_PERIOD: 67.2 per µs. -/
def budgetOf (period k : Nat) : Nat := match k with | 0 => 336 | 3 => 6720 * period | _ => 6720

/-- Begin a run at a trigger; a run already in progress goes on. -/
def trigger (k : Nat) (s : State) : State :=
  if slotSt s k = 2 ∧ engineOn s ∧ (aFind s.pxe.run k).isNone then
    setPxe { s.pxe with run := aIns s.pxe.run k s.time.ticks } s
  else s

/-- The run ends without a result: the consumer takes its fallback (R107). -/
def dropRun (k : Nat) (s : State) : State :=
  let s1 := setB (setPxe { s.pxe with run := aDel s.pxe.run k } s) (PXE.SLOT_STATUS.FALLBACK k) true
  if k = 3 then setPxe { s1.pxe with advice := none } s1 else if k = 1 then setPxe { s1.pxe with fcast := [] } s1 else s1

/-- Faults of sticky flags that go from 0 to 1 (R131, R136). -/
def flagFault (k : Nat) (r : PRun) (runs : Nat) (s : State) (f : Nat) : State :=
  if f = 4 ∨ f = 5 ∨ !bit (getF s PXE.ARITH_CTRL.FAULT_EN) f then s
  else sendFault (if f < 4 then 0x38 + f else 0x36 + f) (0x320 + k) (aGet 0 r.first f % 1024 + 65536 * (runs % 65536)) s

/-- The feature an operand was read from (R132). -/
def featOf (o : Opd) : Option Nat := if 0x1C0000 ≤ o.addr ∧ o.addr < 0x1C4000 then some ((o.addr - 0x1C0000) % 0x2000 / 2) else none

/-- Fill the capture from an event (R132). -/
def capture (k : Nat) (e : PEv) (s : State) : State :=
  let x := e.ev.x; let y := e.ev.y
  let s1 := setF (setF (setF (setB s (PXE.CAP_INFO.VALID k) true) (PXE.CAP_INFO.CAUSE k) e.ev.cause) (PXE.CAP_INFO.DESC k) e.desc)
    (PXE.CAP_INFO.FMT_A k) x.f
  let s2 := setF (setF (setF s1 (PXE.CAP_INFO.FMT_B k) y.f) (PXE.CAP_INFO.FUNC k) e.d.func) (PXE.CAP_INFO.OP k) e.d.op
  let feat := match featOf x with | some f => some f | none => featOf y
  let s3 := setF (setF s2 (PXE.CAP_ELEMENT.ELEMENT k) e.ev.elem) (PXE.CAP_TERM.TERM k) e.ev.term
  let s4 := setB (setF s3 (PXE.CAP_TERM.FEATURE k) (feat.getD 0)) (PXE.CAP_TERM.FEAT_VALID k) feat.isSome
  setF (setF (setF s4 (PXE.CAP_OPA.OPA k) x.b) (PXE.CAP_OPB.OPB k) y.b) (PXE.CAP_COUNT.COUNT k) 0

/-- Count further events (R133). -/
def captures (k : Nat) (evs : List PEv) (s : State) : State :=
  match evs with
  | [] => s
  | e :: r =>
    let s1 := if getB s (PXE.CAP_INFO.VALID k) then s else capture k e s
    let more := if getB s (PXE.CAP_INFO.VALID k) then evs.length else r.length
    setSat s1 (PXE.CAP_COUNT.COUNT k) (getF s1 (PXE.CAP_COUNT.COUNT k) + more)

/-- Merge a run's flags, faults and events (R130 to R133). -/
def mergeRun (k : Nat) (r : PRun) (s : State) : State :=
  let old := getF s (PXE.FLAGS.FLAGS k)
  let new := (List.range 9).filter (fun f => r.flags.testBit f && !old.testBit f)
  let s1 := setF s (PXE.FLAGS.FLAGS k) (old ||| r.flags)
  captures k r.evs (new.foldl (fun t f => flagFault k r (getF s (PXE.SLOT_STATUS.RUNS k)) t f) s1)

/-- What a run leaves that was abandoned after its first `n` descriptors: what they wrote, their flags, faults and events (R130, R133). -/
def leaveRun (k n : Nat) (s : State) : State :=
  let r := runProg s k n
  mergeRun k r (setPxe { s.pxe with mem := r.mem, ecc := r.ecc } s)

/-- A run in progress is abandoned at an instant that no operand places within the program: how many descriptors were complete is a free
value (R102, R111; log entry 76). -/
def abandonRun (k : Nat) (s : State) : State :=
  if (aFind s.pxe.run k).isSome then dropRun k (leaveRun k (freeVal s % 1024) (freeNext s)) else s

/-- A slot stops: its run is abandoned without publishing, and the consumer is on its fallback (R111, R106). -/
def stopSlot (k st : Nat) (s : State) : State :=
  let s1 := setSlotSt k st (dropRun k (abandonRun k s))
  if k = 3 then setPxe { s1.pxe with halted := false } s1 else s1

/-- The engine stops: every run in progress is abandoned (R102). -/
def stopEngine (s : State) : State := [0, 1, 2, 3].foldl (fun t k => abandonRun k t) s

/-- Words that a run read with one inverted check bit are corrected and reported (R106). -/
def memCorrected (r : PRun) (s : State) : State :=
  (r.bad.filter (fun w => aGet 0 s.pxe.ecc w = 1)).foldl (fun t w =>
    sendFault 0x32 0x310 (8 * w) (incF t PXE.MEM_STATUS.CORRECTED)) s

/-- An uncorrectable error: the run is abandoned; the slot stops when the word is in a slot region (R106). -/
def memUncorrectable (k addr : Nat) (s : State) : State :=
  let s1 := sendFault 0x33 0x311 addr (setB (dropRun k s) PXE.MEM_STATUS.UNCORR true)
  match [0, 1, 2, 3].find? (fun j => decide (slotBase j ≤ addr) && decide (addr < slotEnd j)) with
  | some j => stopSlot j 3 s1
  | none => s1

/-- PXE_MEM_UNCORRECTABLE: in descriptor `desc` of the slot's run. -/
def pxeMemUncorrectable (k addr desc : Nat) (s : State) : State :=
  if (aFind s.pxe.run k).isNone then s
  else
    memUncorrectable k addr (leaveRun k desc s)

/-- PXE_OVERRUN: not at END by the deadline, in descriptor `desc` (R101). -/
def pxeOverrun (k desc : Nat) (s : State) : State :=
  match aFind s.pxe.run k with
  | none => s
  | some t =>
    if s.time.ticks < t + slotDeadline s k then s
    else
      sendFault 0x30 (0x300 + k) desc (setB (dropRun k (leaveRun k desc s)) (PXE.SLOT_STATUS.OVERRUN k) true)

/-- Word `i` of a slot's published result, as a value. -/
def outVal (s : State) (k i : Nat) : Fp := f32Of (getF s (PXE.OUT.VALUE k i))

/-- A run reaches END: the whole program's effect, its result and registers (R105, R130); false where the run was abandoned. -/
def publishRun (k time : Nat) (s : State) : State × Bool :=
  let r := runProg s k 1024
  let s1 := memCorrected r s
  match r.bad.find? (fun w => 2 ≤ aGet 0 s.pxe.ecc w) with
  | some w => (memUncorrectable k (8 * w) (mergeRun k r (setPxe { s1.pxe with mem := r.mem, ecc := r.ecc } s1)), false)
  | none =>
    let s2 := setPxe { s1.pxe with mem := r.mem, ecc := r.ecc, run := aDel s1.pxe.run k } s1
    let s3 := (List.range 256).foldl (fun t i => setF t (PXE.OUT.VALUE k i) (memLE r.mem (outArea k + 4 * i) 4)) s2
    let s4 := (List.range 32).foldl (fun t b => setF t (PXE.HIST.COUNT k b) (nth r.hist b)) s3
    let s5 := setF (setF s4 (PXE.RUN_FLAGS.FLAGS k) r.flags) (PXE.SLOT_STATUS.RUNS k) (getF s4 (PXE.SLOT_STATUS.RUNS k) + 1)
    let s6 := setSat (setSat s5 (PXE.SLOT_TIME.LAST k) time) (PXE.SLOT_TIME.LONGEST k) (max (getF s5 (PXE.SLOT_TIME.LONGEST k)) time)
    (mergeRun k r s6, true)

/-- A value of a result is not finite where it must be: INVALID_OUT and its fault (R107). -/
def invalidOut (k i : Nat) (s : State) : State :=
  let s1 := if getB s (PXE.SLOT_STATUS.INVALID_OUT k) then s else sendFault 0x34 (0x300 + k) i s
  setB (setB s1 (PXE.SLOT_STATUS.INVALID_OUT k) true) (PXE.SLOT_STATUS.FALLBACK k) true

/-- A clamp changed a value. -/
def clampedOut (k : Nat) (b : Bool) (s : State) : State := if b then setB s (PXE.SLOT_STATUS.CLAMPED k) true else s

/-- Slot 3's result: output 0 is the advisory cap, with its clamp, only while USER_CAP_EN is 1 (Table 4-5). -/
def takeSlot3 (s : State) : State :=
  let v := outVal s 3 0
  if !getB s PXE.CTRL.USER_CAP_EN then setB (setPxe { s.pxe with advice := none } s) (PXE.SLOT_STATUS.FALLBACK 3) false
  else if !fpFinite v then invalidOut 3 0 (setPxe { s.pxe with advice := none } s)
  else
    let w := fpFloor 0 v; let cap := getF s LGV.EFF_CAP.EFF_CAP
    let c := max 400 (min w cap)
    let s1 := setPxe { s.pxe with advice := some c.toNat } (setB s (PXE.SLOT_STATUS.FALLBACK 3) false)
    clampedOut 3 (fpLt v (fpInt 400) || fpLt (fpInt cap) v) s1

/-- Slot 1's result: each forecast between the region's measured maximum and FORECAST_MAX; a region whose forecast is not finite has none, so
that its measured maximum stands at each round (Table 4-5). -/
def takeSlot1 (meas : Nat → Int) (s : State) : State :=
  let top := fpInt (getF s PXE.BOUND.FORECAST_MAX)
  let one := fun r =>
    let v := outVal s 1 r
    let m := fpStep (meas r) 4
    fpFloor 4 (fpMin (fpMax v m) top)
  let moved := (List.range 64).any (fun r => let v := outVal s 1 r; fpFinite v && (fpLt v (fpStep (meas r) 4) || fpLt top v))
  let s1 := setPxe { s.pxe with fcast := ((List.range 64).filter (fun r => fpFinite (outVal s 1 r))).foldl (fun m r => aIns m r (one r)) [] } s
  let s2 := clampedOut 1 moved (setB s1 (PXE.SLOT_STATUS.FALLBACK 1) false)
  match (List.range 64).find? (fun r => !fpFinite (outVal s 1 r)) with
  | some r => invalidOut 1 r s2
  | none => s2

/-- Slot 2's result from the floors, ceilings and budget of its positions, in 0.125 W: clamped, and scaled back to the budget
(Table 4-5); the previous valid allocation stays where a value is not finite. -/
def takeSlot2 (floor ceil : Nat → Nat) (budget : Nat) (s : State) : State :=
  match (List.range 64).find? (fun i => !fpFinite (outVal s 2 i)) with
  | some i => invalidOut 2 i s
  | none =>
    let raw := fun i => (max 0 (fpFloor 3 (outVal s 2 i))).toNat
    let lim := fun i => clampN (floor i) (max (floor i) (ceil i)) (raw i)
    let fs := (List.range 64).foldl (fun a i => a + floor i) 0
    let ex := (List.range 64).foldl (fun a i => a + (lim i - floor i)) 0
    let scale := decide (budget < fs + ex)
    let val := fun i => if scale ∧ ex ≠ 0 then floor i + (lim i - floor i) * (budget - fs) / ex else lim i
    let moved := scale || (List.range 64).any (fun i =>
      fpLt (outVal s 2 i) (fpStep (floor i : Nat) 3) || fpLt (fpStep (ceil i : Nat) 3) (outVal s 2 i))
    clampedOut 2 moved (setB (setPxe { s.pxe with alloc := (List.range 64).foldl (fun m i => aPut 0 m i (val i)) [] } s)
      (PXE.SLOT_STATUS.FALLBACK 2) false)

/-- PXE_SLOT1_TRIGGER: every 100 µs, once the region estimates of the close there are out (R98). -/
def slot1Trigger (s : State) : State := if s.pxe.due1 then trigger 1 (setPxe { s.pxe with due1 := false } s) else s

/-- PXE_SLOT3_TRIGGER: once at each multiple of USER_PERIOD of the local time base. -/
def slot3Trigger (s : State) : State :=
  let p := s.time.ticks / us 100
  if s.time.ticks % slotDeadline s 3 ≠ 0 ∨ p = s.pxe.per3 then s else trigger 3 (setPxe { s.pxe with per3 := p } s)

/-- PXE_CAP_RELEASE (R133). -/
def capRelease (k : Nat) (s : State) : State := setF (setB s (PXE.CAP_INFO.VALID k) false) (PXE.CAP_COUNT.COUNT k) 0

/-! ### Program images (R110 to R113) -/

/-- Header fields of a staged image. -/
def hdr (m : Mem) (off n : Nat) : Nat := memLE m off n
def segAddr (m : Mem) (i : Nat) : Nat := hdr m (0x20 + 8 * i) 4
def segLen (m : Mem) (i : Nat) : Nat := hdr m (0x24 + 8 * i) 4

/-- The header check of R111: 0, or the detail of the refusal. -/
def headerCheck (m : Mem) (slot imageLen budget : Nat) : Nat :=
  let dc := hdr m 0x0C 2; let pool := hdr m 0x0E 2; let sc := hdr m 0x10 2
  let segs := List.range sc
  let total := 256 + 32 * dc + pool + segs.foldl (fun a i => a + segLen m i) 0
  let zero := fun a n => (memBytes m a n).all (fun b => b == 0)
  let inReg := segs.all (fun i => decide (slotBase slot ≤ segAddr m i) && decide (segAddr m i + segLen m i ≤ slotEnd slot))
  let apart := segs.all (fun i => segs.all (fun j =>
    decide (j ≤ i) || decide (segAddr m i + segLen m i ≤ segAddr m j) || decide (segAddr m j + segLen m j ≤ segAddr m i)))
  if hdr m 0 4 ≠ 0x50484C4A ∨ hdr m 4 2 ≠ 1 ∨ hdr m 6 1 ≠ slot ∨ !zero 7 1 ∨ !zero 0x12 2 ∨ !zero 0x1C 4 ∨ !zero 0xA0 96 then 1
  else if dc = 0 ∨ 1024 < dc ∨ 32512 < pool ∨ 16 < sc ∨ !zero (0x20 + 8 * sc) (8 * (16 - sc)) then 1
  else if hdr m 0x14 4 ≠ total ∨ imageLen ≠ total ∨ !inReg ∨ !apart then 1
  else if budget < hdr m 0x18 4 then 2
  else 0

/-- Formats a kernel allows (R109, Table 4-9 BAD_FORMAT). -/
def formatOk (d : Desc) : Bool :=
  let num := fun f => f != 3
  let short := fun f => decide (f ≤ 1)
  match d.op with
  | 0 => true
  | 1 => num d.fa && num d.fb && num d.fo
  | 2 => short d.fa && short d.fb && num d.fo
  | 3 => short d.fa && short d.fb && num d.fo
  | 4 => num d.fa && (if d.func = 3 then d.fo == 3 else num d.fo)
  | 5 => num d.fa && num d.fo
  | 6 => num d.fa && num d.fb && num d.fo
  | 7 => match d.func with
    | 0 => num d.fa && d.fb == 3 && num d.fo
    | 1 => num d.fa && num d.fo
    | 2 => num d.fa && num d.fo && decide (d.fo < d.fa)
    | _ => num d.fa && num d.fo && decide (d.fa < d.fo)
  | 8 => d.fa == 1 && d.fb == 1 && d.fo == 2
  | _ => num d.fa && d.fo == 2

/-- Shapes of Table 4-7, and fields that the kernel does not use are zero. SAT_NAN is used where the output is W8, which a mask is not. ACCUM is
taken as used by GEMV and GEMM alone, whose sums have an output value to go on from; the spec does not list its kernels (DESIGN CHOICE, log
entry 77). -/
def shapeOk (d : Desc) : Bool :=
  let rng := fun lo hi v => decide (lo ≤ v) && decide (v ≤ hi)
  let n16 := rng 1 65535 d.n
  let z := fun (l : List Nat) => l.all (fun v => v == 0)
  let noB := d.b == 0 && d.fb == 0 && !d.bcast
  let noMask := !d.masked && d.c == 0
  let maskC := d.masked || d.c == 0
  let base := ((d.fo == 0 && !isCmp d) || !d.satNan) && (d.histEn || d.hadr == 0)
  match d.op with
  | 0 => z [d.fa, d.fb, d.fo, d.a, d.b, d.dst, d.m, d.k, d.n, d.seg, d.c, d.hadr] && !d.masked && !d.accum && !d.bcast && !d.histEn &&
      !d.flush && !d.satNan
  | 1 => base && n16 && z [d.m, d.k, d.seg] && !d.accum && maskC && (decide (d.func ≤ 4) || noB)
  | 2 => base && rng 1 256 d.m && rng 1 16384 d.k && z [d.n, d.seg] && noMask && !d.bcast
  | 3 => base && rng 1 256 d.m && rng 1 256 d.k && rng 1 256 d.n && d.seg == 0 && noMask && !d.bcast
  | 4 => base && n16 && z [d.m, d.k] && decide (d.n % segOf d = 0) && !d.accum && noB && maskC
  | 5 => base && rng 1 256 d.m && rng 1 256 d.n && z [d.k, d.seg] && !d.accum && noB && maskC
  | 6 => base && n16 && z [d.m, d.k, d.seg] && !d.accum && (d.func == 8 || (maskC && d.fo == 0))
  | 7 => base && !d.accum && noMask && !d.bcast && d.seg == 0 && (match d.func with
    | 0 => n16 && rng 1 65535 d.k && d.m == 0
    | 1 => rng 1 256 d.m && rng 1 256 d.n && d.k == 0 && noB
    | _ => n16 && z [d.m, d.k] && noB)
  | 8 => base && rng 1 256 d.m && rng 0 256 d.k && z [d.n, d.seg] && !d.accum && !d.masked && !d.bcast
  | _ => base && n16 && z [d.m, d.k, d.seg] && !d.accum && noB && maskC

/-- A slot may read a range: its own region, the input area, its constant pool (Table 4-3). -/
def readOk (slot a n : Nat) : Bool :=
  (decide (slotBase slot ≤ a) && decide (a + n ≤ slotEnd slot)) || (decide (0x1C0000 ≤ a) && decide (a + n ≤ 0x1E0000)) ||
    (decide (0x208100 ≤ a) && decide (a + n ≤ 0x210000))
def writeOk (slot a n : Nat) : Bool := decide (slotBase slot ≤ a) && decide (a + n ≤ slotEnd slot)
def meets (a n b m : Nat) : Bool := decide (a < b + m) && decide (b < a + n)

/-- The checks of one descriptor (Table 4-9): 0, or the detail. The spec orders the descriptors, not the checks within one: here the kernel's
code (0x11) comes before the place of END (0x10), the others in Table 4-9's order, and all descriptors before the sum of costs (0x08) and the
output declaration (0x18), which are the whole image's (DESIGN CHOICE, log entry 78). -/
def descCheck (slot : Nat) (last : Bool) (d : Desc) : Nat :=
  if !isKernel d then 0x11
  else if last != (d.op == 0) then 0x10
  else if !formatOk d then 0x12
  else if !shapeOk d then 0x13
  else
    let rs := srcRanges d
    let len := outLen d
    let inPlace := fun (x : Nat × Nat × Nat) => d.op == 1 && x.1 == d.dst && x.2.1 == len
    let aligned := rs.all (fun x => x.1 % x.2.2 == 0) && (isCmp d || d.dst % fmtBytes d.fo == 0) && d.hadr % 128 == 0
    if d.op ≠ 0 ∧ (!aligned ∨ !rs.all (fun x => x.2.1 == 0 || readOk slot x.1 x.2.1)) then 0x14
    else if d.op ≠ 0 ∧ (!writeOk slot d.dst len ∨ (d.histEn ∧ !writeOk slot d.hadr 128)) then 0x15
    else if rs.any (fun x => (meets x.1 x.2.1 d.dst len && !inPlace x) || (d.histEn && meets x.1 x.2.1 d.hadr 128)) then 0x16
    else if d.resv then 0x17
    else 0

/-- Words of a slot's result layout that the descriptors must write (Table 4-5). -/
def resultWords (slot : Nat) : Nat := match slot with | 0 => 81 | 3 => 1 | _ => 64

/-- Descriptor `i` of a staged image. -/
def stagedDesc (m : Mem) (i : Nat) : Desc := descOf ((List.range 8).map (fun w => memLE m (256 + 32 * i + 4 * w) 4))

/-- The whole image (R112): detail and failing descriptor, 0 where it is accepted. -/
def imageCheck (m : Mem) (slot : Nat) : Nat × Nat :=
  let dc := hdr m 0x0C 2
  let ds := (List.range dc).map (fun i => (i, stagedDesc m i))
  match ds.find? (fun e => descCheck slot (e.1 + 1 == dc) e.2 != 0) with
  | some e => (descCheck slot (e.1 + 1 == dc) e.2, e.1)
  | none =>
    if ds.foldl (fun a e => a + costOf e.2) 0 ≠ hdr m 0x18 4 then (0x08, 0)
    else
      let covered := fun b => ds.any (fun e => e.2.op != 0 && decide (e.2.dst ≤ b) && decide (b < e.2.dst + outLen e.2))
      if (List.range (4 * resultWords slot)).all (fun i => covered (outArea slot + i)) then (0, 0) else (0x18, 0)

/-- The parts of an accepted image go to their places (R110). -/
def placeImage (m : Mem) (slot : Nat) (mem : Mem) : Mem :=
  let dc := hdr m 0x0C 2; let pool := hdr m 0x0E 2; let pm := 0x200000 + 0x10000 * slot
  let m1 := memPut (memZero mem pm 0x10000) pm (memBytes m 0 (256 + 32 * dc))
  let m2 := memPut m1 (pm + 0x8100) (memBytes m (256 + 32 * dc) pool)
  ((List.range (hdr m 0x10 2)).foldl (fun (a : Mem × Nat) i =>
    (memPut a.1 (segAddr m i) (memBytes m a.2 (segLen m i)), a.2 + segLen m i)) (m2, 256 + 32 * dc + pool)).1

end Sys2Proof.Machine
end

