-- ==== Sys2Proof/Machine/Balance.lean ====
section
/-! DEFINITION. The balance exchange (chapter 12): rounds, frames, the view, the outcome and the staged grant, and the sideband engine
with its keys, counters, acceptance and relays. -/

namespace Sys2Proof.Machine

/-! ### Group, roster and parameters (R275, R276) -/

def balPos (s : State) : Nat := getF s BAL.CTRL.POSITION
def balRoster (s : State) : Nat := getW s BAL.ROSTER_LO.ROSTER BAL.ROSTER_HI.ROSTER
/-- The module takes part in rounds. -/
def balMember (s : State) : Bool := getB s BAL.CTRL.BAL_EN && bit (balRoster s) (balPos s)
def serveSteps (s : State) : Nat := max 1 (getF s BAL.CTRL.SERVE_STEPS)
def lateSteps (s : State) : Nat := max 1 (getF s BAL.PORTS.LATE_STEPS)
def balHops (s : State) : Nat := max 1 (getF s BAL.CTRL.HOPS)
/-- FLOOR_W and CEIL_W, in W. -/
def floorW (s : State) : Nat := getC s BAL.LIMITS.FLOOR_W 400 2000
def ceilW (s : State) : Nat := getC s BAL.LIMITS.CEIL_W (floorW s) 2000
def groupPorts (s : State) : List Nat := (List.range 16).filter (bit (getF s BAL.PORTS.GROUP_PORTS))

/-- PARAM_CHECK: the low half of the CRC-32C over the 24 bytes of R276. -/
def paramCheck (s : State) : Nat :=
  let temp := getF s BAL.TEMP.TEMP_NS + 65536 * getF s BAL.TEMP.SLACK_CLAMP
  let word := getF s BAL.CTRL.SERVE_STEPS + 256 * getF s BAL.PORTS.LATE_STEPS + 65536 * getF s BAL.CTRL.HOPS
  crc32c (toLE 4 (getF s BAL.BUDGET.BUDGET) ++ toLE 4 temp ++ toLE 4 (getF s BAL.ROSTER_LO.ROSTER) ++
    toLE 4 (getF s BAL.ROSTER_HI.ROSTER) ++ toLE 4 word ++ toLE 4 (getF s (PXE.SLOT_ID.PROGRAM_ID 2))) % 65536

/-- Own mask bits: SCRUB, FIXED_BEAT, SAFE, OUT (R287). -/
def selfMask (s : State) : Nat :=
  b2n (scrubOn s) + 2 * b2n (getB s PSQ.CTRL.FIXED_BEAT) + 4 * b2n (safeOn s) + 8 * b2n (hostAbsentNow s)

/-! ### Staging the grant (R279, R281) -/

def setRoundState (x : Nat) (s : State) : State := setF s BAL.STATUS.ROUND_STATE x

/-- Stage a grant; where a step is given, its companion names it and is armed. -/
def stageGrant (w act : Nat) (at_ : Option Nat) (s : State) : State :=
  let s1 := pendHw 0 BAL.GRANT.ACTIVE act (pendHw 0 BAL.GRANT.GRANT w s)
  match at_ with
  | some n => setB (setW s1 BAL.GRANT_AT_STEP_LO.STEP BAL.GRANT_AT_STEP_HI.STEP n) BAL.GRANT_AT_STEP_HI.ARMED true
  | none => setB s1 BAL.GRANT_AT_STEP_HI.ARMED false

/-- Replace the staged value, the serve step standing. -/
def replaceGrant (w : Nat) (s : State) : State := pendHw 0 BAL.GRANT.ACTIVE 1 (pendHw 0 BAL.GRANT.GRANT w s)

/-- A round has been decided or there is none. -/
def roundDecided (s : State) : Bool := match s.bal.round with | some r => r.decided | none => true

/-- Rounds not yet served are abandoned (R282, Table 14-2); one abandoned undecided had no outcome for the next round to rest on. -/
def abandonRounds (s : State) : State :=
  setRoundState 0 (setBal { s.bal with round := none, queue := [], lastOk := s.bal.lastOk && roundDecided s } s)

/-- A seek, or local boundaries: the floor is staged for the next boundary (R277, R282), by the agent when it runs. -/
def floorNext (s : State) : State :=
  if !balMember s then s
  else if compOn s 5 then stageGrant (floorW s) 1 none s
  else setBal { s.bal with floorDue := true } s

/-! ### The sideband engine (R284, R290, R291) -/

/-- SB_COUNTER_END: a counter has reached all ones; reported once. -/
def sbCounterEnd (p : Nat) (s : State) : State :=
  if txCount s p = 2 ^ 64 - 1 ∧ !s.bal.ended.contains p then
    sendFault 0x95 (0x920 + p) p (setBal { s.bal with ended := insN p s.bal.ended } s)
  else s

/-- A generation names a live slot of a context: the current one, or the previous one within GRACE_MS (R290). -/
def keyLive (s : State) (ctx gen : Nat) : Bool :=
  (match aFind s.bal.cur ctx with | some k => k.gen == gen | none => false) ||
    (match aFind s.bal.prev ctx with | some k => k.gen == gen && decide (s.time.ticks < aGet 0 s.bal.prevUntil ctx) | none => false)

/-- A key takes the current slot; the old one lives on in the previous slot for GRACE_MS (R290). Counters accepted under an older key of the
same generation number say nothing about this one (DEDUCED, log entry 113). -/
def keyInstall (ctx gen key : Nat) (s : State) : State :=
  let b := s.bal
  let s1 := match aFind b.cur ctx with
    | some k => setBal { b with prev := aIns b.prev ctx k, prevUntil := aIns b.prevUntil ctx (s.time.ticks + ms (getC s BAL.SB_CTRL.GRACE_MS 10 255)) } s
    | none => s
  let live := s1.bal.accepted.filter (fun e => decide (e.1 / 16 ≠ 256 * ctx + gen))
  let s2 := setBal { s1.bal with cur := aIns s1.bal.cur ctx ⟨gen, key⟩, accepted := live } s1
  if ctx = 0 then setF s2 BAL.SB_STATUS.GEN_BAL gen else setF s2 BAL.SB_STATUS.GEN_JOB gen

/-- The previous slot of a context is still within its grace time. -/
def inGrace (s : State) (ctx : Nat) : Bool := (aFind s.bal.prev ctx).isSome && decide (s.time.ticks < aGet 0 s.bal.prevUntil ctx)

/-- SB_KEY_GRACE_END: the previous slot is no longer accepted (R290). -/
def keyGraceEnd (ctx : Nat) (s : State) : State :=
  if (aFind s.bal.prev ctx).isSome && decide (aGet 0 s.bal.prevUntil ctx ≤ s.time.ticks) then
    setBal { s.bal with prev := aDel s.bal.prev ctx, prevUntil := aDel s.bal.prevUntil ctx } s
  else s

/-- A tag failure on a port: counted, and AUTH_LIMIT within 1 s send the fault (R291). -/
def tagFail (p : Nat) (s : State) : State :=
  let l := (aGet [] s.bal.fails p).filter (fun t => decide (s.time.ticks < t + ms 1000)) ++ [s.time.ticks]
  let s1 := incF s BAL.SB_STATUS.AUTH_FAIL
  if max 1 (getF s BAL.SB_CTRL.AUTH_LIMIT) ≤ l.length then
    sendFault 0x94 (0x910 + p) l.length (setBal { s1.bal with fails := aDel s1.bal.fails p } s1)
  else setBal { s1.bal with fails := aIns s1.bal.fails p l } s1

/-- Relay an accepted balance frame not yet seen, on every group port but its own (R291). -/
def relay (p origin hops : Nat) (body : List Nat) (s : State) : State :=
  let id := (origin, ofLE (body.take 6))
  if s.bal.seen.contains id then s
  else
    let s1 := setBal { s.bal with seen := id :: s.bal.seen } s
    if hops ≤ 1 then s1
    else ((groupPorts s).filter (fun q => decide (q ≠ p))).foldl (fun t q => sealOn q 2 origin 0 (hops - 1) body t) s1

/-- The reserved fields of a record: header bits, and those of a balance body (Tables 12-3, 12-4). -/
def reservedZero (hdr body : List Nat) : Bool :=
  let t := nth hdr 0
  nth hdr 6 / 16 == 0 && nth hdr 7 == 0 &&
    (if t = 2 then nth body 6 < 16 && nth body 7 == 0 && (body.drop 26).all (fun b => b == 0)
     else t == 1 && nth hdr 2 % 64 == 0)

/-- SIDEBAND_RECORD_RECEIVED: key, tag, counter and reserved fields, in that order (R291); the tag's verdict is the cipher's. -/
def sidebandReceived (p : Nat) (hdr body : List Nat) (tagOk : Bool) (s : State) : State :=
  let gen := nth hdr 1; let origin := nth hdr 2 % 64; let ctx := nth hdr 2 / 64
  let cnt := ofLE (hdr.drop 8)
  let key := 4096 * ctx + 16 * gen + p
  if !keyLive s ctx gen then s
  else if !tagOk then tagFail p s
  else if (match aFind s.bal.accepted key with | some c => decide (cnt ≤ c) | none => false) then incF s BAL.SB_STATUS.REPLAY
  else if !reservedZero hdr body then s
  else
    let s1 := setBal { s.bal with accepted := aIns s.bal.accepted key cnt } s
    if nth hdr 0 = 2 then
      let s2 := relay p origin (nth hdr 3) body s1
      setBal { s2.bal with queue := s2.bal.queue ++ [origin :: body] } s2
    else s1

/-! ### Frames (R284 to R287) -/

def frFloor (f : List Nat) : Nat := ofLE ((f.drop 8).take 2)
def frCeil (f : List Nat) : Nat := ofLE ((f.drop 10).take 2)
def frClaim (f : List Nat) : Nat := ofLE ((f.drop 12).take 2)
def frCheck (f : List Nat) : Nat := ofLE ((f.drop 14).take 2)
def frSlack (f : List Nat) : Int := sx 32 (ofLE ((f.drop 16).take 4))
def frStep (f : List Nat) : Nat := ofLE ((f.drop 20).take 6)
def frServe (f : List Nat) : Nat := ofLE (f.take 6)
def frMask (f : List Nat) : Nat := nth f 6

/-- The member's ceiling (R285). -/
def ceilOf (s : State) (claim : Nat) : Nat := max (floorW s) (min (ceilW s) (min (getC s LGV.CAP.CAP 400 2000) claim))

/-- Own frame of a round, 32 bytes (R285, R286); a CLAIM above the field's range saturates (DESIGN CHOICE, log entry 87). -/
def ownFrame (s : State) (r : BalRound) : List Nat :=
  let head := toLE 6 r.serve ++ [selfMask s, 0] ++ toLE 2 (8 * r.floor)
  if scrubOn s then head ++ toLE 4 0 ++ toLE 2 r.check ++ List.replicate 16 0
  else head ++ toLE 2 (8 * r.ceil) ++ toLE 2 (min 65535 (8 * r.claim)) ++ toLE 2 r.check ++ toLE 4 (ux 32 r.slack) ++ toLE 6 r.slackStep ++
    List.replicate 6 0

/-- A frame goes into the view's registers. -/
def viewPut (i : Nat) (f : List Nat) (s : State) : State :=
  let s1 := setF (setF s (BAL.VIEW.FLOOR i) (frFloor f)) (BAL.VIEW.CEIL i) (frCeil f)
  let s2 := setF (setF s1 (BAL.VIEW.CLAIM i) (frClaim f)) (BAL.VIEW.MASK i) (frMask f)
  setF (setS s2 (BAL.VIEW.SLACK i) (frSlack f)) (BAL.VIEW.REPORT_STEP i) (frStep f)

def setHeard (i : Nat) (s : State) : State :=
  setW s BAL.HEARD_LO.HEARD BAL.HEARD_HI.HEARD (setBit (getW s BAL.HEARD_LO.HEARD BAL.HEARD_HI.HEARD) i)

/-! ### A round begins (R278, R279) -/

/-- In any plan state but RUNNING: the first boundary at or after a multiple of REACT_MS of system time (R278). -/
def reactRound (s : State) : Bool :=
  let p := 1000000 * getF s BAL.PORTS.REACT_MS
  decide (p ≠ 0) && decide (planState s ≠ planRunning) &&
    (match s.bal.prevB with | some t => decide (t / p < s.time.sys / p) | none => true)

/-- The strobe that launches a step: a served round ends, a new one may begin with the values in force (R278). `ended` is the step
whose slack the guard has just latched. While the agent does not run no round begins here: no frame is sent (Table 12-6). -/
def balStrobe (ended : Nat) (s : State) : State :=
  let served := match s.bal.round with | some r => decide (r.serve ≤ s.time.step) | none => true
  let s1 := if served then setRoundState 0 s else s
  let near := match s.bal.lastB with | some t => decide (s.time.sys < t + 100000) | none => false
  let want := (s.psq.alloc && planState s == planRunning) || reactRound s
  let s2 := setBal { s1.bal with prevB := some s.time.sys, lastOk := s.bal.lastOk && (!served || roundDecided s) } s1
  if !(compOn s 5 && balMember s && jobOn s && !localOn s && want && !near && served) then s2
  else
    let claim := getF s LGV.BAL.CLAIM
    let r : BalRound := ⟨s.time.step + serveSteps s, s.time.step, getF s BAL.BUDGET.BUDGET, max 1 (getF s BAL.TEMP.TEMP_NS),
      100 * max 1 (getF s BAL.TEMP.SLACK_CLAMP), balRoster s, lateSteps s, paramCheck s, claim,
      (getS s DRG.LAST_SLACK.SLACK).tdiv 1000, ended, false, floorW s, [], false, false, 0, false, balPos s, ceilOf s claim, balHops s,
      groupPorts s⟩
    setBal { s2.bal with round := some r, lastB := some s.time.sys } s2

/-- A round not yet served. -/
def roundLive (s : State) : Bool := match s.bal.round with | some r => decide (s.time.step < r.serve) | none => false

/-- A module that takes part in no round stages an inactive grant, once (R275); a round that it began with its roster runs to its serve step
first (R276). -/
def stageOut (s : State) : State :=
  if balMember s then setBal { s.bal with outStaged := false } s
  else if s.bal.outStaged || roundLive s then s else setBal { s.bal with outStaged := true } (stageGrant 0 0 none s)

/-- Rounds take place only with BAL_EN, an attached job and no local boundaries (R275, R277). -/
def balPrune (s : State) : State :=
  if s.bal.round.isSome && !(getB s BAL.CTRL.BAL_EN && jobOn s && !localOn s) then abandonRounds s else s

/-- What the agent sees to whenever it acts: a round that may not go on, the module's part in the group, a floor that is owed. -/
def balAgent (s : State) : State :=
  let t := stageOut (balPrune s)
  if t.bal.floorDue then floorNext (setBal { t.bal with floorDue := false } t) else t

/-- BAL_ROUND_BEGIN (R275, R279); frames of the round that came first are kept. -/
def balRoundBegin (s : State) : State :=
  if !compOn s 5 then s
  else
    let s1 := balAgent s
    match s1.bal.round with
    | some r =>
      if r.begun || r.decided then s1
      else
        let own := r.own
        let f := ownFrame s1 r
        let s2 := stageGrant r.floor 1 (some r.serve) s1
        let s3 := r.ports.foldl (fun t p => sealOn p 2 own 0 r.hops f t) s2
        let s4 := setW (setW (setW s3 BAL.ROUND_LO.STEP BAL.ROUND_HI.STEP r.serve) BAL.HEARD_LO.HEARD BAL.HEARD_HI.HEARD
            (r.frames.foldl (fun a e => setBit a e.1) (2 ^ own)))
          BAL.MASKED_LO.MASKED BAL.MASKED_HI.MASKED 0
        let s5 := viewPut own f (setRoundState 1 (incF s4 BAL.COUNTS.ROUNDS))
        setBal { s5.bal with round := some { r with begun := true, frames := aIns r.frames own f },
                             seen := (own, r.serve) :: s5.bal.seen } s5
    | none => s1

/-! ### The view and the inputs (R280, R287, R288) -/

def inRoster (r : BalRound) (i : Nat) : Bool := bit r.roster i

/-- A frame has arrived with the receiver's PARAM_CHECK. -/
def agrees (r : BalRound) (i : Nat) : Bool := match aFind r.frames i with | some f => frCheck f == r.check | none => false

/-- The view is complete (R280); a lone member's is. -/
def viewComplete (r : BalRound) : Bool := regions64.all (fun i => !inRoster r i || agrees r i)

/-- A roster position is masked (R287). -/
def isMasked (r : BalRound) (i : Nat) : Bool :=
  match aFind r.frames i with | some f => frMask f != 0 || decide (frStep f + r.late < r.stepB) | none => false

def balFloor (r : BalRound) (i : Nat) : Nat := if inRoster r i then frFloor (aGet [] r.frames i) else 0
def balCeil (r : BalRound) (i : Nat) : Nat :=
  if !inRoster r i then 0 else if isMasked r i then balFloor r i else frCeil (aGet [] r.frames i)

/-- Write a binary32 value into local memory. -/
def putF32 (a : Nat) (x : Fp) (m : Mem) : Mem := memPutLE m a 4 (f32Bits x)

/-- The balance inputs of Table 12-5. -/
def balInputs (own : Nat) (r : BalRound) (m : Mem) : Mem :=
  let m1 := regions64.foldl (fun m i =>
    let f := aGet [] r.frames i
    let on := inRoster r i
    let m1 := putF32 (0x1C5000 + 4 * i) (fpStep (balFloor r i : Nat) 3) m
    let m2 := putF32 (0x1C5100 + 4 * i) (fpStep (balCeil r i : Nat) 3) m1
    let m3 := putF32 (0x1C5200 + 4 * i) (if on then fpInt (frSlack f) else fpZero) m2
    putF32 (0x1C5300 + 4 * i) (if on then fpStep (frClaim f : Nat) 3 else fpZero) m3) m
  let mask := regions64.foldl (fun a i => if inRoster r i && !isMasked r i then setBit a i else a) 0
  let m2 := putF32 0x1C5408 (fpInt r.budget) (memPutLE m1 0x1C5400 8 mask)
  putF32 0x1C5414 (fpInt own) (putF32 0x1C5410 (fpInt r.clamp) (putF32 0x1C540C (fpInt r.temp) m2))

/-- With a complete view the inputs are written and slot 2 is triggered, once (R280, R288). -/
def balFire (s : State) : State :=
  match s.bal.round with
  | some r =>
    if !r.begun || r.decided || r.fired || !viewComplete r || (aFind s.pxe.run 2).isSome then s
    else
      let masked := regions64.foldl (fun a i => if inRoster r i && isMasked r i then setBit a i else a) 0
      let s1 := setW s BAL.MASKED_LO.MASKED BAL.MASKED_HI.MASKED masked
      let s2 := pxeStored 0x1C5000 0x418 (setPxe { s1.pxe with mem := balInputs r.own r s1.pxe.mem } (setRoundState 2 s1))
      trigger 2 (setBal { s2.bal with round := some { r with fired := true } } s2)
  | none => s

/-- A frame of the round in progress joins the view; a differing PARAM_CHECK is reported once per round (R280). HEARD shows it from the
agent's own beginning of the round on. -/
def collect (r : BalRound) (origin : Nat) (f : List Nat) (s : State) : State :=
  let s0 := viewPut origin f s
  let s1 := if r.begun then setHeard origin s0 else s0
  let bad := decide (frCheck f ≠ r.check)
  let s2 := if bad then setB s1 BAL.STATUS.PARAM_MISMATCH true else s1
  let s3 := if bad && !r.mismatch then sendFault 0x92 0x902 origin s2 else s2
  setBal { s3.bal with round := some { r with frames := aIns r.frames origin f, mismatch := r.mismatch || bad } } s3

/-- A frame of a round that no boundary here began: the floor is staged for its serve step (R282). -/
def strayFrame (f : List Nat) (s : State) : State :=
  if frServe f ≤ s.time.step then s
  else sendFault 0x93 0x903 (frServe f % 2 ^ 32) (setB (stageGrant (floorW s) 1 (some (frServe f)) s) BAL.STATUS.STRAY true)

/-- BAL_FRAME_RECEIVED: the agent takes the next accepted frame; a round in progress keeps the roster of its boundary, and a complete view
its frames (R276, R280, R282). -/
def balFrameReceived (s : State) : State :=
  if !compOn s 5 then s
  else
    match s.bal.queue with
    | [] => s
    | e :: rest =>
      let origin := nth e 0; let f := e.drop 1
      let s1 := balAgent (setBal { s.bal with queue := rest } s)
      let stray := fun (t : State) => if !balMember t ∨ origin = balPos t then t else strayFrame f t
      match s1.bal.round with
      | some r =>
        if r.serve == frServe f then
          (if r.decided || r.fired || !inRoster r origin || origin == r.own then s1 else balFire (collect r origin f s1))
        else stray s1
      | none => stray s1

/-! ### The outcome (R281, Table 12-1) -/

/-- Positions of the roster from which no frame arrived. -/
def missing (r : BalRound) : List Nat := regions64.filter (fun i => inRoster r i && (aFind r.frames i).isNone)

/-- The floor stands (outcome 3): counted, and reported after 16 rounds. -/
def outcomeFloor (r : BalRound) (s0 : State) : State :=
  let s := setBal { s0.bal with lastOk := false } s0
  let s1 := incF (incF (setF s BAL.STATUS.LAST_OUTCOME 3) BAL.COUNTS.FLOORED) BAL.STATUS.INCOMPLETE_RUN
  if 16 ≤ getF s1 BAL.STATUS.INCOMPLETE_RUN ∧ !s.bal.viewSent then
    let m := missing r
    sendFault 0x90 0x900 (m.length + 256 * nth m 0) (setBal { s1.bal with viewSent := true } s1)
  else s1

/-- A value replaces the floor (outcomes 1 and 2). -/
def outcomeValue (code w : Nat) (s : State) : State :=
  let s1 := setF (setF s BAL.STATUS.LAST_OUTCOME code) BAL.STATUS.INCOMPLETE_RUN 0
  replaceGrant w (setBal { s1.bal with viewSent := false, lastOk := code == 1 } s1)

/-- The value of a round can still join its serve boundary: it has not passed its cut, and the floor staged for it has not been displaced by
that of a stray round (R281, R282; log entry 88). -/
def inTime (r : BalRound) (s : State) : Bool :=
  decide (s.time.step < r.serve) && !(s.time.cutMade && r.serve == s.time.step + 1) &&
    getB s BAL.GRANT_AT_STEP_HI.ARMED && getW s BAL.GRANT_AT_STEP_LO.STEP BAL.GRANT_AT_STEP_HI.STEP == r.serve

/-- Decide a round; `last` at the cut of its serve boundary, when a result still missing counts as none. -/
def balDecide (last : Bool) (s : State) : State :=
  match s.bal.round with
  | none => s
  | some r =>
    let floors := regions64.foldl (fun a i => a + balFloor r i) 0
    let done := fun (t : State) => setRoundState 3 (setBal { t.bal with round := some { r with decided := true } } t)
    let late := last || !inTime r s
    if !r.begun || r.decided then s
    else if !viewComplete r then (if late then done (outcomeFloor r s) else s)
    else if 8 * r.budget < floors then
      done (outcomeFloor r (setB (sendFault 0x91 0x901 (floors / 8) s) BAL.STATUS.FLOORS_EXCEED true))
    else if r.res = 0 then
      (if late || (r.fired && (aFind s.pxe.run 2).isNone) || slotSt s 2 != 2 then done (outcomeFloor r s) else s)
    else if !inTime r s then done (outcomeFloor r s)
    else if r.res = 2 then
      (if s.bal.lastOk then done (outcomeValue 2 (getF s (BAL.VEC.ALLOC r.own) / 8) s)
       else done (outcomeFloor r s))
    else done (outcomeValue 1 (getF s (BAL.VEC.ALLOC r.own) / 8) s)

/-- BAL_OUTCOME: the agent decides a round whose outcome is known; a view that was complete while slot 2 was busy is served first. -/
def balOutcome (s : State) : State := if compOn s 5 then balDecide false (balFire (balAgent s)) else s

/-- The cut of a serve boundary ends the round (Table 12-1, cases 1 and 3). -/
def balCut (s : State) : State :=
  match s.bal.round with
  | some r => if r.serve = s.time.step + 1 ∧ compOn s 5 then balDecide true (balPrune s) else s
  | none => s

/-- Slot 2 has published (R281, R289, Table 4-5): the vector of the round in progress; a result after the decision is discarded. -/
def balPublish (s : State) : State :=
  match s.bal.round with
  | some r =>
    if !r.fired || r.decided then s
    else
      let ok := (List.range 64).all (fun i => fpFinite (outVal s 2 i))
      let s1 := takeSlot2 (balFloor r) (balCeil r) (8 * r.budget) s
      let s2 := if ok then regions64.foldl (fun t i => setSat t (BAL.VEC.ALLOC i) (aGet 0 t.pxe.alloc i)) s1 else s1
      setBal { s2.bal with round := some { r with res := if ok then 1 else 2 } } s2
  | none => s

/-- The agent after a reset or the exit from a deep rest state: no round, an empty view (Table 13-8). -/
def balClear (s : State) : State :=
  setBal { s.bal with round := none, lastB := none, prevB := none, viewSent := false, lastOk := false, outStaged := false,
                      floorDue := false, queue := [], seen := [] } s

end Sys2Proof.Machine
end

