-- ==== Sys2Proof/Machine/Sense.lean ====
section
/-! DEFINITION. The sense front end and the housekeeping scanner (chapter 02): phase currents, rail currents, sense points, the input
bus and its cross-check, the activity stream, the channels and the power-stage telemetry. -/

namespace Sys2Proof.Machine

def setSns (x : SnsState) (s : State) : State := { s with sns := x }
def setEst (x : EstState) (s : State) : State := { s with est := x }

/-! ### Phase currents and rails -/

/-- The trimmed current of a code, in 0.125 A, rounded down (R45). -/
def trimmed (s : State) (n code : Nat) : Int :=
  fdiv (((code : Int) - 160 + getS s (SNS.TRIM.OFFSET n)) * getF s (SNS.TRIM.GAIN n)) 32768

/-- One IMON input of a sample (R45, R46). -/
def imonSample (n code : Nat) (s : State) : State :=
  let i := trimmed s n code
  let edge := code == 0 || code == 1023
  let s1 := setF (setSatS s (SNS.IMON.CURRENT n) i) (SNS.IMON.CODE n) code
  let s2 := if edge then setB s1 (SNS.IMON.OVR n) true else s1
  let run := if edge && phaseOn s n then aGet 0 s.sns.imonRun n + 1 else 0
  let x := s2.sns
  setSns { x with phI := aPut 0 x.phI n i, phSum := aPut 0 x.phSum n (aGet 0 x.phSum n + i), imonRun := aPut 0 x.imonRun n run,
                  imonSent := if run = 0 then remN n x.imonSent else x.imonSent } s2

/-- The current of a rail: the sum over its included inputs (R48). -/
def railSum (s : State) (k : Nat) : Int :=
  ((phasesOf k).filter (fun n => phaseOn s n)).foldl (fun a n => a + aGet 0 s.sns.phI n) 0

/-- The sense points of a sample, their registers and runs (R50 to R53). -/
def pointsSample (pts : List Nat) (s : State) : State :=
  let x := s.sns
  let s1 := setSns { x with pts := (List.range 5).foldl (fun m p => aPut 0 m p (nth pts p)) [] } s
  let s2 := setF (setF s1 SNS.VCORE_A.VOLTAGE (nth pts 0)) SNS.VCORE_B.VOLTAGE (nth pts 1)
  let s3 := rails4.foldl (fun t k => setF t (SNS.RAIL_V.VOLTAGE k) (senseHalf t k)) s2
  let open' := (List.range 5).foldl (fun m p =>
    let k := p - 1
    aPut 0 m p (if decide (nth pts p < 500) && pastSoft s k && !pointOpen s p then aGet 0 m p + 1 else 0)) x.openRun
  let d := if nth pts 0 < nth pts 1 then nth pts 1 - nth pts 0 else nth pts 0 - nth pts 1
  let split := decide (2 * getF s SNS.SENSE_CTRL.SPLIT_MV < d)
  let y := s3.sns
  setSns { y with openRun := open', splitRun := if split then y.splitRun + 1 else 0, splitSent := split && y.splitSent } s3

/-- The sums that a sample adds to (R49, R55, R458). -/
def sumsSample (s : State) : State :=
  let x := s.sns
  let is := rails4.map (fun k => railSum s k)
  let out := rails4.foldl (fun a k => a + ((senseNv s k / 250000 : Nat) : Int) * is.getD k 0) (0 : Int)
  let put := fun (m : Assoc Int) => rails4.foldl (fun a k => aPut 0 a k (aGet 0 a k + is.getD k 0)) m
  setSns { x with railI := rails4.foldl (fun a k => aPut 0 a k (is.getD k 0)) x.railI, acc1 := put x.acc1, n1 := x.n1 + 1,
                  i1ms := put x.i1ms, v1ms := rails4.foldl (fun a k => aPut 0 a k (aGet 0 a k + senseNv s k / 250000)) x.v1ms,
                  outSum := x.outSum + out, outN := x.outN + 1 } s

/-- The sense front end's part of a sample (R42). -/
def snsSample (imon pts : List Nat) (s : State) : State :=
  sumsSample (pointsSample pts ((List.range 98).foldl (fun t n => imonSample n (nth imon n) t) s))

/-- IMON_RANGE: 16 consecutive samples at an end of the span while included (R46). -/
def imonRange (n : Nat) (s : State) : State :=
  if 16 ≤ aGet 0 s.sns.imonRun n ∧ !s.sns.imonSent.contains n then
    sendFault 0x10 (0x100 + n) (getF s (SNS.IMON.CODE n)) (askRetire n 2 (setSns { s.sns with imonSent := insN n s.sns.imonSent } s))
  else s

/-- SENSE_OPEN: below 0.25 V for 10 µs past soft start; the rail's last point brings SENSE_LOST and a fault stop (R52). -/
def senseOpen (p : Nat) (s : State) : State :=
  if aGet 0 s.sns.openRun p < 40 ∨ pointOpen s p then s
  else
    let k := p - 1
    let s1 := setF s SNS.SENSE_STATUS.OPEN (setBit (getF s SNS.SENSE_STATUS.OPEN) p)
    let s2 := sendFault 0x11 (0x170 + p) (pointCode s p) s1
    let lost := if p ≤ 1 then pointOpen s1 0 && pointOpen s1 1 else true
    if !lost then s2
    else
      let s3 := regate (restEnds (sendFault 0x12 (0x170 + p) k s2))
      if seqState s3 = sqFaultStop ∨ seqState s3 = sqQuickStop then s3 else beginStop 2 s3

/-- VCORE_SENSE_SPLIT: the points differ for 100 µs (R53). -/
def senseSplit (s : State) : State :=
  if s.sns.splitRun < 400 ∨ s.sns.splitSent then s
  else
    sendFault 0x13 0x170 (ux 32 ((pointCode s 0 : Int) - pointCode s 1))
      (setB (setSns { s.sns with splitSent := true } s) SNS.SENSE_STATUS.SPLIT true)

/-! ### Input bus -/

/-- BUS_SAMPLE (R54, R216). -/
def busSample (v i : Nat) (s : State) : State :=
  let x := s.sns
  let out := decide (v < 2300) || decide (2900 < v)
  let s1 := setSns { x with busSum := x.busSum + v * i, busN := x.busN + 1, bv1ms := x.bv1ms + v, bi1ms := x.bi1ms + i,
                            busRun := if out then x.busRun + 1 else 0, busSent := out && x.busSent } s
  busGood (setF (setF s1 SNS.BUS_V.VOLTAGE v) SNS.BUS_I.CURRENT i)

/-- BUS_V_RANGE: outside 46 V to 58 V for 100 µs (R54). -/
def busVRange (s : State) : State :=
  if s.sns.busRun < 100 ∨ s.sns.busSent then s
  else sendFault 0x14 0x180 (getF s SNS.BUS_V.VOLTAGE) (setSns { s.sns with busSent := true } s)

/-- p_in and p_out of a round in 1.25 µW (R55). -/
def roundIn (s : State) : Nat := 256 * s.sns.busSum / max 1 s.sns.busN
def roundOut (s : State) : Int := fdiv (25 * s.sns.outSum) (max 1 s.sns.outN) + (800000 * getF s SNS.XCHK_CTRL.P_FIXED : Nat)

/-- The band of R55: lo ≤ p_in ≤ hi. -/
def inBand (s : State) : Bool :=
  let i : Int := roundIn s; let o := roundOut s; let m : Int := 800000 * getF s SNS.XCHK_CTRL.MARGIN
  decide (o * 256 ≤ (i + m) * getF s SNS.XCHK_CTRL.ETA_HI) && decide ((i - m) * getF s SNS.XCHK_CTRL.ETA_LO ≤ o * 256)

/-- The cross-check's part of a 1 ms round (R55, R56), and the round's means for PMBus (R458). -/
def xchkRound (s : State) : State :=
  let x := s.sns
  let i := roundIn s; let o := roundOut s
  let active := decide (80000000 < i); let ok := inBand s
  let s1 := setSat (setSat s SNS.BUS_P_1MS.POWER (i / 100000)) SNS.RAIL_P_1MS.POWER (fdiv o 100000).toNat
  let s2 := setB s1 SNS.XCHK_STATUS.CHECK_ACTIVE active
  let s3 := if !active then s2
    else setSat (setB s2 SNS.XCHK_STATUS.IN_BAND ok) SNS.XCHK_STATUS.OUT_COUNT
      (if ok then 0 else getF s2 SNS.XCHK_STATUS.OUT_COUNT + 1)
  let mean := fun (t : Int) => fdiv t (max 1 x.outN)
  setSns { x with inRun := if !active then x.inRun else if ok then x.inRun + 1 else 0, busSum := 0, busN := 0, outSum := 0, outN := 0,
                  phSum := [], i1ms := [], v1ms := [], bv1ms := 0, bi1ms := 0,
                  iMean := rails4.foldl (fun a k => aPut 0 a k (mean (aGet 0 x.i1ms k))) [],
                  vMean := rails4.foldl (fun a k => aPut 0 a k (aGet 0 x.v1ms k / max 1 x.outN)) [],
                  bvMean := x.bv1ms / max 1 x.busN, biMean := x.bi1ms / max 1 x.busN, pinMean := i } s3

/-- Set MEAS_SUSPECT after 16 active rounds out of band, clear it after 16 in band (R56). -/
def measSuspect (s : State) : Bool := getB s SNS.XCHK_STATUS.MEAS_SUSPECT
def busXchkSuspect (s : State) : State :=
  if getF s SNS.XCHK_STATUS.OUT_COUNT < 16 ∨ measSuspect s then s
  else
    let w := fun (f : Fld) => getF s f / 8
    sendFault 0x15 0x181 (65536 * w SNS.BUS_P_1MS.POWER + w SNS.RAIL_P_1MS.POWER) (setB s SNS.XCHK_STATUS.MEAS_SUSPECT true)
def measSuspectClear (s : State) : State :=
  if s.sns.inRun < 16 ∨ !measSuspect s then s else setB s SNS.XCHK_STATUS.MEAS_SUSPECT false

/-! ### Activity -/

/-- Does a partition hold a feature's source (R400)? -/
def inPart (s : State) (x id : Nat) : Bool :=
  if id < 0xC00 then
    let r := id / 48
    bit (if r < 32 then getF s (SEC.PART_MAP_LO.REGIONS x) else getF s (SEC.PART_MAP_HI.REGIONS x)) (r % 32)
  else if id < 0xD00 then bit (getF s (SEC.PART_MAP_IO.LAYERS x)) ((id - 0xC00) / 32)
  else if id < 0xE00 then bit (getF s (SEC.PART_MAP_IO.PORTS x)) ((id - 0xD00) / 16)
  else false
def parts16 : List Nat := (List.range 16).map (fun i => i + 1)

/-- The feature belongs to a partition that is being scrubbed (R64). -/
def featScrubbed (s : State) (id : Nat) : Bool :=
  scrubOn s && parts16.any (fun x => getB s (SEC.PART_STATUS.SCRUBBING x) && inPart s x id)

/-- ACTIVITY_FEATURE: the later report of a window counts, and a repeated one sets DUP (R62); a feature of a partition being scrubbed is
zero from the stream input on (R64); reserved and derived IDs never come from the stream (R70). A report after the close counts for the
window that closes until that window is complete, though its source's own marker may have come: the spec does not say to which window it
belongs (DESIGN CHOICE, log entry 65). -/
def activityFeature (id v : Nat) (s : State) : State :=
  if 0xE00 ≤ id then s
  else
    let s1 := if (aFind s.sns.cur id).isSome then setB s SNS.ACT_STATUS.DUP true else s
    setSns { s1.sns with cur := aIns s1.sns.cur id (if featScrubbed s id then 0 else v) } s1

/-- The source class of a feature: 0 tiles, 1 memory, 2 links. -/
def featSource (id : Nat) : Nat := if id < 0xC00 then 0 else if id < 0xD00 then 1 else 2

/-- Sources that are absent at rest and until its exit is complete: tiles from Nap on, links from Dormant on (R302). -/
def srcAbsent (s : State) (c : Nat) : Bool :=
  let st := if getF s STA.REST_STATUS.STATE = 5 then s.sta.exitOf else getF s STA.REST_STATUS.STATE
  (c == 0 && decide (2 ≤ st)) || (c == 2 && decide (4 ≤ st))

/-- The derived features of a window, at its close (R70, Table 3-1). With no valid thermal channel 0xF06 is 0, where the spec states no
mean (DESIGN CHOICE, log entry 66). -/
def derivedFeats (s : State) : List (Nat × Nat) :=
  let ts := (List.range 512).filter (fun c => getB s (HKS.CH.VALID c))
  let sum := ts.foldl (fun a c => a + getS s (HKS.CH.VALUE c)) (0 : Int)
  let temp := if ts = [] then 0 else (max 0 (fdiv sum (4 * ts.length))).toNat
  (0xF00, 1) :: rails4.map (fun k => (0xF01 + k, spV s k (getF s (PHC.RAIL_STATUS.SEL k)) * 5 / 4)) ++ [(0xF05, meanRate s), (0xF06, temp)]

/-- The late sources that make a window stale: no absent one does (R302). -/
def lateHere (s : State) (late : Nat) : Nat :=
  [0, 1, 2].foldl (fun m c => if bit late c && !srcAbsent s c then setBit m c else m) 0

/-- What is kept of a window at its close, until its estimates are out (Table 3-3, R70, R73, R90). -/
def shotOf (s : State) : WinShot :=
  ⟨s.time.ticks, derivedFeats s, rails4.map (fun k => spV s k (getF s (PHC.RAIL_STATUS.SEL k))), rails4.map (fun k => senseNv s k / 250000),
   getF s EST.TRUST_STATUS.STATE, false, s.sta.scrubWin || scrubOn s⟩

/-- The window closes: what belongs to its close is kept, and the count of edges starts again. -/
def takeShot (s : State) : State :=
  let t := beatWindow (setEst { s.est with shot := some (shotOf s) } s)
  { t with sta := { t.sta with scrubWin := scrubOn s } }

/-- The complete feature vector of a window; late sources keep their previous values (R62 to R64). -/
def windowFeats (late : Nat) (s : State) : Assoc Nat :=
  let keep := s.sns.feats.filter (fun e => decide (e.1 < 0xE00) && bit late (featSource e.1))
  let new := s.sns.cur.filter (fun e => decide (e.2 ≠ 0) && !bit late (featSource e.1) && !srcAbsent s (featSource e.1))
  let m := (keep ++ new).foldl (fun m e => if featScrubbed s e.1 then m else aPut 0 m e.1 e.2) ([] : Assoc Nat)
  (s.est.shot.getD (shotOf s)).derived.foldl (fun m e => aPut 0 m e.1 e.2) m

/-- A count as binary16: rounded to nearest even, at most 65,504 (R71). -/
def featHalf (v : Nat) : Nat := if 65520 ≤ v then 0x7BFF else (fpPut 1 false false (fpInt v)).1

/-- The input area's feature windows swap roles (R104). -/
def pxeFeatures (s : State) : State :=
  let m1 := memZero (memCopy s.pxe.mem 0x1C2000 0x1C0000 0x2000) 0x1C0000 0x2000
  let m2 := s.sns.feats.foldl (fun m e => memPutLE m (0x1C0000 + 2 * e.1) 2 (featHalf e.2)) m1
  let ecc := s.pxe.ecc.filter (fun e => decide (e.1 < 0x38000) || decide (0x38800 ≤ e.1))
  let old := (s.pxe.ecc.filter (fun e => decide (0x38000 ≤ e.1) && decide (e.1 < 0x38400))).map (fun e => (e.1 + 0x400, e.2))
  let r := injectAt 0 0x38000 (old.foldl (fun m e => aIns m e.1 e.2) ecc) s
  setPxe { r.1.pxe with mem := m2, ecc := r.2 } r.1

/-- Table 13-2: the closed window is idle for a target: 1 Doze, 2 Nap and Retain, 4 Dormant. -/
def idleFor (s : State) (t : Nat) : Bool :=
  let zero := fun (id : Nat) => aGet 0 s.sns.feats id == 0
  let tiles := regions64.all (fun r => [1, 40, 41, 42, 43].all (fun i => zero (48 * r + i)))
  let mems := (List.range 8).all (fun l => zero (0xC00 + 32 * l + 1) && zero (0xC00 + 32 * l + 2))
  let links := (List.range 16).all (fun p => zero (0xD00 + 16 * p + 1) && zero (0xD00 + 16 * p + 2))
  let ownBit := getF s BAL.CTRL.POSITION
  let inRoster := bit (if ownBit < 32 then getF s BAL.ROSTER_LO.ROSTER else getF s BAL.ROSTER_HI.ROSTER) (ownBit % 32)
  !s.sns.stale && !(s.est.shot.getD (shotOf s)).scrub && tiles && (decide (t < 2) || mems) &&
    (decide (t < 4) || (links && !jobOn s && !(getB s BAL.CTRL.BAL_EN && inRoster)))

/-- The idle runs at a window close (R300). -/
def idleRuns (s : State) : State :=
  let a := s.sta
  { s with sta := { a with idle1 := idleFor s 1, run1 := if idleFor s 1 then a.run1 + 1 else 0, run2 := if idleFor s 2 then a.run2 + 1 else 0,
                           run4 := if idleFor s 4 then a.run4 + 1 else 0 } }

/-- A window is complete, stale where sources are late: the vector is held, the windows swap and slot 0 is triggered (R62, R63, R98). -/
def windowDone (late : Nat) (s : State) : State :=
  let stale := decide (late ≠ 0)
  let s1 := setSns { s.sns with feats := windowFeats late s, cur := [], stale := stale, late := if stale then late else s.sns.late,
                                stallSent := stale && s.sns.stallSent } s
  let s2 := if stale then
      setSat (setSat s1 SNS.ACT_STATUS.STALE_RUN (getF s1 SNS.ACT_STATUS.STALE_RUN + 1)) SNS.ACT_STATUS.STALE_TOTAL
        (getF s1 SNS.ACT_STATUS.STALE_TOTAL + 1)
    else setF s1 SNS.ACT_STATUS.STALE_RUN 0
  let e := s2.est
  trigger 0 (idleRuns (pxeFeatures (setEst { e with shot := some (e.shot.getD (shotOf s)), owed := true, stale10 := e.stale10 || stale } s2)))

/-- ACT_WINDOW_STALE: the window closes without the present sources that are late (R63, R302). -/
def windowStale (late : Nat) (s : State) : State :=
  if s.time.ticks % 100 = 10 ∧ lateHere s late ≠ 0 then windowDone (lateHere s late) s else s

/-- ACT_STREAM_STALL: 16 consecutive stale windows (R63). -/
def actStall (s : State) : State :=
  if getF s SNS.ACT_STATUS.STALE_RUN < 16 ∨ s.sns.stallSent then s
  else sendFault 0x17 0x1D0 s.sns.late (setSns { s.sns with stallSent := true } s)

/-! ### Housekeeping -/

/-- One step of CRC-8, x^8 + x^2 + x + 1, over a byte (Table 19-4). -/
def crc8Step (c : Nat) : Nat := if 128 ≤ c then (c * 2) % 256 ^^^ 7 else c * 2
def crc8 (l : List Nat) : Nat := l.foldl (fun c b => (List.range 8).foldl (fun x _ => crc8Step x) (c ^^^ b)) 0

/-- STG_TLM_FRAME: received if START, ADDR and CRC pass (R448). -/
def tlmFrame (slot : Nat) (frame : Nat) (s : State) : State :=
  let a := bits frame 24 7
  let ok := !bit frame 31 && decide (a + 1 = slot) && crc8 [bits frame 24 8, bits frame 16 8, bits frame 8 8] == bits frame 0 8
  if !ok ∨ 98 < a then s
  else
    let x := s.sns
    let old := match aFind x.tlm a with | some v => aIns x.tlmOld a v | none => x.tlmOld
    setSns { x with tlm := aIns x.tlm a (bits frame 8 16), tlmAt := aIns x.tlmAt a s.time.ticks, tlmOld := old, tlmGot := insN a x.tlmGot,
                    silent := aDel x.silent a, silentSent := remN a x.silentSent } s

/-- STG_TLM_ROUND_START: the round that ends leaves its silent devices counted (R67, R447). -/
def tlmRound (s : State) : State :=
  let x := s.sns
  let cnt := if !x.tlmOpen then x.silent
    else (List.range 99).foldl (fun m a => if x.tlmGot.contains a then m else aPut 0 m a (aGet 0 m a + 1)) x.silent
  setSns { x with silent := cnt, tlmGot := [], tlmOpen := true } s

/-- STG_TLM_SILENT: silent for three rounds (R67). -/
def tlmSilent (a : Nat) (s : State) : State :=
  if aGet 0 s.sns.silent a < 3 ∨ s.sns.silentSent.contains a then s
  else sendFault 0x19 0x1E1 a (setSns { s.sns with silentSent := insN a s.sns.silentSent } s)

/-- Does a channel's range check fail (R66)? -/
def hksRange (c v : Nat) : Bool :=
  let t := sx 16 v
  (decide (c < 0x200) || (decide (0x300 ≤ c) && decide (c ≤ 0x362)) || c == 0x364) && (decide (t < -640) || decide (2400 < t))

/-- The value a channel's slot finds: a conversion that completed, or the last frame before the slot began (R65, R67). A round is counted
silent when the next telemetry round starts; where that falls on the end of the housekeeping round, the order of the two commands decides
whether a third silent round is seen, an order that the spec does not state (DESIGN CHOICE, log entry 67). -/
def hksValue (s : State) (conv : Assoc Nat) (c : Nat) : Option Nat :=
  if 0x300 ≤ c ∧ c ≤ 0x362 then
    let a := c - 0x300
    let start := s.time.ticks / ms 1 * ms 1 - ms 1 + 97 * c
    if 3 ≤ aGet 0 s.sns.silent a then none
    else if aGet 0 s.sns.tlmAt a ≤ start then aFind s.sns.tlm a else aFind s.sns.tlmOld a
  else aFind conv c

/-- One channel of a round (R66); `conv` is the sorted list of conversions. -/
def hksChannel (conv : Assoc Nat) (c : Nat) (s : State) : State :=
  let v := hksValue s conv c
  match (v.filter (fun x => !hksRange c x)) with
  | some x =>
    let s1 := setF (setB (setF s (HKS.CH.VALUE c) x) (HKS.CH.VALID c) true) (HKS.CH.AGE c) 0
    setSns { s1.sns with hksBad := aDel s1.sns.hksBad c, hksSent := remN c s1.sns.hksSent } s1
  | none =>
    let s1 := setSat (setB s (HKS.CH.VALID c) false) (HKS.CH.AGE c) (getF s (HKS.CH.AGE c) + 1)
    let silent := decide (0x300 ≤ c) && decide (c ≤ 0x362) && v.isNone
    if silent then s1 else setSns { s1.sns with hksBad := aPut 0 s1.sns.hksBad c (aGet 0 s1.sns.hksBad c + 1) } s1

/-- All channels of a round are published together, and ROUND counts (R65). -/
def hksPublish (conv : List (Nat × Nat)) (s : State) : State :=
  let m := conv.foldl (fun m e => aIns m e.1 (e.2 % 65536)) ([] : Assoc Nat)
  setF ((List.range 0x365).foldl (fun t c => hksChannel m c t) s) HKS.STATUS.ROUND (getF s HKS.STATUS.ROUND + 1)

/-- HKS_CHANNEL_INVALID: three consecutive invalid rounds (R66). -/
def hksInvalid (c : Nat) (s : State) : State :=
  if aGet 0 s.sns.hksBad c < 3 ∨ s.sns.hksSent.contains c then s
  else sendFault 0x18 0x1E0 c (setSns { s.sns with hksSent := insN c s.sns.hksSent } s)

/-- The thermal part of the predictor engine's input area (R104, Table 4-4). -/
def pxeThermal (maxima : Nat → Int) (s : State) : State :=
  let f := fun (v : Int) => f32Bits (fpStep v 4)
  let m1 := (List.range 512).foldl (fun m c => memPutLE m (0x1C4200 + 4 * c) 4 (f (getS s (HKS.CH.VALUE c)))) s.pxe.mem
  let good := fun (c : Nat) => getB s (HKS.CH.VALID c) && !bit (getF s (TMG.SUSPECT.SUSPECT (c / 32))) (c % 32)
  let m2 := (List.range 64).foldl (fun m b =>
    memPutLE m (0x1C4A00 + b) 1 ((List.range 8).foldl (fun v i => if good (8 * b + i) then v + 2 ^ i else v) 0)) m1
  let m3 := (List.range 64).foldl (fun m r => memPutLE m (0x1C4A40 + 4 * r) 4 (f (maxima r))) m2
  let s1 := pxeStored 0x1C4200 0x940 s
  setPxe { s1.pxe with mem := m3 } s1

end Sys2Proof.Machine
end

