-- ==== Sys2Proof/Machine/Rest.lean ====
section
/-! DEFINITION. Rest states and the safe state (chapter 13). -/

namespace Sys2Proof.Machine

def setSta (a : StaState) (s : State) : State := { s with sta := a }

def restState (s : State) : Nat := getF s STA.REST_STATUS.STATE
/-- At rest or on the way out. -/
def atRest (s : State) : Bool := restState s != 0

/-! ### Latencies and the states allowed (R297, R299, R304) -/

/-- The Dormant exit bound, in ns (R304). -/
def dormantBound (s : State) : Nat :=
  3000 + 1000 * getC s PHC.SEQ_CTRL.SEQ_GAP 10 255 +
    [0, 2].foldl (fun a k => a + 20000 + selNv s k * 1000 / (250000 * getC s (PHC.SS_CTRL.SS_SLEW k) 1 40)) 0

/-- THF_STA_EXIT_BOUND: its inputs take effect with a swap, with the safe state or with the exit that applies its select. -/
def boundShow (s : State) : State := setSat s STA.EXIT_BOUND.DORMANT (cdiv (dormantBound s) 1000)

/-- Exit latency of a rest state, in ns. -/
def exitLatency (s : State) (t : Nat) : Nat := match t with | 1 => 150 | 2 => 3000 | 3 => 60000 | _ => dormantBound s

/-- The conditions of R299 that change only at boundaries: the enable and the latency tolerance. -/
def restEnabled (s : State) (t : Nat) : Bool :=
  bit (getF s STA.REST_CTRL.REST_EN) (t - 1) && decide (exitLatency s t ≤ getF s STA.LTR.LTR_NS)

/-- REST_MARGIN, in ns. -/
def restMargin (s : State) : Nat := 100 * getF s STA.WAKE_CTRL.REST_MARGIN

/-- The scheduled boundary leaves room for the exit (R299). -/
def restFits (s : State) (t : Nat) : Bool :=
  match s.time.nextB with | some b => decide (s.time.sys + exitLatency s t + restMargin s ≤ b) | none => true

/-- A rest state is allowed (R299); Dormant not again after a failed self-refresh until the next wake (R305). -/
def restAllowed (s : State) (t : Nat) : Bool := restEnabled s t && restFits s t && (t != 4 || !s.sta.srBlock)

/-- ALLOWED, zero while IDLE is 0 (Table 13-11). -/
def allowedMask (s : State) : Nat :=
  if !s.sta.idle1 then 0 else [1, 2, 3, 4].foldl (fun m t => if restAllowed s t then setBit m (t - 1) else m) 0

/-- The dwell of a state has passed over a run of idle windows (R300). -/
def dwellDone (s : State) (t : Nat) : Bool :=
  match t with
  | 1 => decide (max 1 (getF s STA.REST_CTRL.DOZE_DWELL) ≤ s.sta.run1)
  | 2 => decide (max 1 (getF s STA.REST_CTRL.NAP_DWELL) + 1 ≤ s.sta.run2)
  | 3 => decide (1000 * max 1 (getF s STA.REST_CTRL.RET_DWELL) + 1 ≤ s.sta.run2)
  | _ => decide (10000 * max 1 (getF s STA.REST_CTRL.DOR_DWELL) + 1 ≤ s.sta.run4)

/-! ### Entry (R300, R303 to R305) -/

/-- One state is entered and recorded; in Retain and Dormant the predictor engine stops (R102). -/
def restMark (t : Nat) (s : State) : State :=
  let s := if 3 ≤ t then stopEngine s else s
  regate (setF (incF (event 0x0A01 [t] s) STA.REST_COUNT.ENTRIES) STA.REST_STATUS.STATE t)

/-- The deepest state that may be entered now: Dormant, Retain, Nap, Doze; the first two take rails from ON. -/
def restDeepest (s : State) : Option Nat :=
  [4, 3, 2, 1].find? (fun t => decide (restState s < t) && (decide (t < 3) || seqState s == sqUp) && dwellDone s t && restAllowed s t)

/-- The state to enter; none while Dormant is the one and its self-refresh has been asked for already (R304). -/
def restTarget (s : State) : Option Nat :=
  match restDeepest s with
  | some 4 => if s.sta.sr = 0 then some 4 else none
  | x => x

/-- A window has closed and its features may still be on their way: the first 100 ns of a microsecond (R62). -/
def atWindowClose (s : State) : Bool := decide (s.time.ticks % 100 ≤ 10)

/-- REST_ENTER, at a window close (R300): the deepest allowed state whose dwell has passed; Dormant first performs Nap and asks for
self-refresh. -/
def restEnter (s : State) : State :=
  if restState s = 5 ∨ atWindowClose s = false then s
  else
    match restTarget s with
    | none => s
    | some t =>
      if t = 4 then
        let s1 := if restState s < 2 then restMark 2 s else s
        setSta { s1.sta with sr := 1, srAt := s.time.ticks } s1
      else if t = 3 then retarget 0 480000000 0 (setRailSt 0 rsRet (restMark 3 s))
      else restMark t s

/-- Memory layers that reported full self-refresh residency in the last window (feature 6 of each block, R304). -/
def srLayers (s : State) : Nat :=
  (List.range 8).foldl (fun m l => if aGet 0 s.sns.feats (0xC00 + 32 * l + 6) = 1 then setBit m l else m) 0

/-- SR_CONFIRMED: VCORE and VLINK take a ramped stop in the stop order (R304). -/
def srConfirmed (s : State) : State :=
  if s.sta.sr ≠ 1 ∨ restState s = 5 ∨ srLayers s ≠ 255 then s
  else stopNext (setStop 4 (setSta { s.sta with sr := 2 } (restMark 4 s)))

/-- REST_SR_TIMEOUT: not confirmed 1 ms after the request (R305). -/
def srTimeout (s : State) : State :=
  if s.sta.sr ≠ 1 ∨ s.time.ticks < s.sta.srAt + ms 1 ∨ srLayers s = 255 then s
  else
    let s1 := sendFault 0xA2 0xA11 (srLayers s) (setB s STA.REST_STATUS.SR_FAIL true)
    setSta { s1.sta with sr := 0, srBlock := true } s1

/-! ### Wake and exit (R301, R303 to R307) -/

/-- The exit begins: the idle run restarts, VCORE leaves the retention voltage, VCORE and VLINK start again. -/
def wakeBegin (s : State) : State :=
  let t := restState s
  if t = 0 ∨ t = 5 then s
  else
    let s0 := if safeOn s then boundShow (applySelect 0 0 s) else s
    let s1 := setSta { s0.sta with run1 := 0, run2 := 0, run4 := 0, exitOf := t, exitAt := s.time.ticks, goodAt := none,
                                   sr := if t = 4 then 2 else 0, srBlock := false } (setF s0 STA.REST_STATUS.STATE 5)
    let s2 := if railSt s1 0 = rsRet then retarget 0 (selNv s1 0) 0 s1 else s1
    if t = 4 then
      let down := [0, 2].filter (fun k => railSt s2 k == rsStop || railSt s2 k == rsOff)
      slotBegin (setStop 5 (down.foldl (fun u k => railOff k rsWait u) s2))
    else s2

/-- System time has reached the scheduled boundary minus the exit latency and the margin (R301). -/
def boundaryNear (s : State) (t : Nat) : Bool :=
  match s.time.nextB with | some b => decide (b ≤ s.time.sys + exitLatency s t + restMargin s) | none => false

/-- A wake cause other than a write or a strobe: the boundary comes near, the state is no longer allowed, a window was not idle. -/
def wakeCause (s : State) : Bool :=
  let t := restState s
  decide (1 ≤ t) && decide (t ≤ 4) &&
    (boundaryNear s t || !restEnabled s t || (match t with | 1 => s.sta.run1 == 0 | 4 => s.sta.run4 == 0 | _ => s.sta.run2 == 0))

/-- REST_WAKE. -/
def restWake (s : State) : State := if wakeCause s then wakeBegin s else s

/-- STA_WAKE: the host driver writes WAKE (R301). -/
def staWake (val : Nat) (s : State) : State := if bit val 0 then wakeBegin s else s

/-- A strobe at rest or during an exit: the launched step's beats wait for the exit, as a held interval (R306); a further strobe during the
same exit is a late wake too. -/
def lateWake (s : State) : State :=
  if !atRest s then s
  else
    let s1 := incF (setB (event 0x0A03 [restState s] s) STA.REST_STATUS.LATE_WAKE true) STA.REST_COUNT.LATE_WAKES
    if s.sta.late then s1
    else holdBeats (regate (wakeBegin (setSta { s1.sta with late := true } s1)))

/-- The sample's part of Retain's exit: VCORE within PG_WIN of the reference of its select (R303). -/
def restSample (s : State) : State :=
  if restState s ≠ 5 ∨ s.sta.exitOf ≠ 3 then s
  else
    let t := selNv s 0; let v := senseNv s 0
    let ok := decide ((railRec s 0).ref = t) && decide (v ≤ t + pgWinNv s) && decide (t ≤ v + pgWinNv s)
    setSta { s.sta with goodAt := if ok then some (s.sta.goodAt.getD s.time.ticks) else none } s

/-- The steps of the exit that can be seen are complete (R303, R304). -/
def exitReady (s : State) : Bool :=
  restState s == 5 &&
    (match s.sta.exitOf with
     | 3 => (match s.sta.goodAt with | some t => decide (t + us 10 ≤ s.time.ticks) | none => false)
     | 4 => railSt s 0 == rsOn && railSt s 2 == rsOn && s.phc.stop == 0
     | _ => true)

/-- The exit is complete: the chip is active, its idle run starts from zero and a slow exit is reported (R301, R306, R307). -/
def exitDone (s : State) : State :=
  let t := s.sta.exitOf
  let d := s.time.ticks - s.sta.exitAt
  let s1 := setSat (setF (setF s STA.REST_STATUS.STATE 0) STA.REST_STATUS.LAST t) STA.REST_STATUS.LAST_EXIT (d / 10)
  let s2 := event 0x0A02 ([t, 0, 0, 0] ++ toLE 4 (d / 10)) s1
  let s3 := if exitLatency s t < 10 * d then
      sendFault 0xA1 0xA10 (t + 256 * (d / 10)) (setB s2 STA.REST_STATUS.EXIT_SLOW true) else s2
  let s4 := if railSt s3 0 = rsRet then setRailSt 0 rsOn s3 else s3
  let late := s.sta.late
  let s5 := regate (setSta { s4.sta with run1 := 0, run2 := 0, run4 := 0, exitOf := 0, goodAt := none, sr := 0, late := false } s4)
  if late then releaseBeats s5 else s5

/-! ### The safe state (R313, R314) -/

/-- In the safe state VCORE's entry 0 waits for the exit from a rest state (Table 13-3). -/
def selectWaits (s : State) : Bool := atRest s && restState s != 5

/-- Ask STA for the safe state; the first cause stands. -/
def safeAsk (cause : Nat) (s : State) : State :=
  if safeOn s || s.sta.safeDue != 0 then s else setSta { s.sta with safeDue := cause } s

/-- HB stops (R19, Table 13-6). -/
def hbStop (s : State) : State := setB s FLC.STATUS.HB_RUN false

/-- STA enters the safe state (Table 13-6); at rest the select waits for the exit (Table 13-3). -/
def safeEnter (cause : Nat) (s : State) : State :=
  if safeOn s then setSta { s.sta with safeDue := 0 } s
  else
    let s1 := setF (setB (setSta { s.sta with safeDue := 0 } s) STA.SAFE_STATUS.SAFE true) STA.SAFE_STATUS.CAUSE cause
    let s2 := event 0x0A05 [cause] (sendFault 0xA3 0xA20 cause s1)
    let s3 := fixedCheck (lgvSafe s2)
    let s4 := if selectWaits s3 then s3 else boundShow (refreshRate (applySelect 0 0 s3))
    let s5 := hbStop (addAct .planStop none 0 s4)
    if fwRuns s5 then setF s5 FW.STATUS.RUN_STATE runSafe else s5

/-- SAFE_STATE_ENTER: STA acts on what asked for the safe state. -/
def safeStateEnter (s : State) : State := if s.sta.safeDue = 0 then s else safeEnter s.sta.safeDue s

/-- ENTER_SAFE (cause 4). -/
def enterSafe (val : Nat) (s : State) : State := if bit val 1 then safeAsk 4 s else s

end Sys2Proof.Machine
end

