-- ==== Sys2Proof/Machine/Ring.lean ====
section
/-! DEFINITION. Command rings, completions, the boundary gate and the mailboxes (chapter 15), and the order in which the interpreter
serves the rings (R333, R334). -/

namespace Sys2Proof.Machine

def setCmd (c : CmdState) (s : State) : State := { s with cmd := c }

/-! ### Rings (R346 to R349) -/

def ringDisabled : Nat := 0
def ringActive : Nat := 1
def ringHalted : Nat := 2
def ringWaiting : Nat := 3

/-- Context of a ring (R347). -/
def ctxOf (q : Nat) : Nat := if q < 8 then 0 else (q - 8) / 4 + 1
def ringSt (s : State) (q : Nat) : Nat := getF s (CMD.RING_STATUS.STATE q)
def setRingSt (q x : Nat) (s : State) : State := setF s (CMD.RING_STATUS.STATE q) x
def ringBase (s : State) (q : Nat) : Nat := getF s (CMD.RING_CFG.BASE q)
def ringSize (s : State) (q : Nat) : Nat := 2 ^ getF s (CMD.RING_CFG.SIZE_LOG2 q)
def cqBase (s : State) (q : Nat) : Nat := 16 * getF s (CMD.RING_CQ.CQ_BASE q)
def ringHead (s : State) (q : Nat) : Nat := getF s (CMD.RING_HEAD.HEAD q)
def rungTail (s : State) (q : Nat) : Nat := aGet 0 s.cmd.rung q

/-- Window bytes of a ring and of its completion ring, as first byte and byte after the last. -/
def ringSpans (s : State) (q : Nat) : List (Nat × Nat) :=
  let n := ringSize s q
  [(64 * ringBase s q, 64 * (ringBase s q + n)), (cqBase s q, cqBase s q + 16 * n)]

def spansMeet (a b : Nat × Nat) : Bool := decide (a.1 < b.2) && decide (b.1 < a.2)

/-- Outstanding packets of a ring. -/
def outOf (s : State) (q : Nat) : List OutPkt := s.cmd.pkts.filter (fun p => p.ring == q)

/-- Packets waiting in a ring's slots, seen as slots between HEAD and the rung tail. -/
def waitSlots (s : State) (q : Nat) : Nat :=
  if ringSt s q = ringDisabled then 0 else (rungTail s q + ringSize s q - ringHead s q) % ringSize s q

/-- A refused setup or disable (R347). -/
def setupReject (q reason : Nat) (s : State) : State :=
  setB (setF (setF s CMD.SETUP_STATUS.RING q) CMD.SETUP_STATUS.REASON reason) CMD.SETUP_STATUS.SETUP_REJECT true

/-- The reason to refuse the setup that RING_CFG and RING_CQ now describe; 0 where it stands. -/
def setupReason (s : State) (q : Nat) : Nat :=
  let lg := getF s (CMD.RING_CFG.SIZE_LOG2 q)
  let sp := ringSpans s q
  if lg < 7 ∨ 12 < lg then 1
  else if sp.any (fun x => decide (2 ^ 19 < x.2)) then 2
  else if spansMeet (sp.getD 0 (0, 0)) (sp.getD 1 (0, 0)) then 3
  else if (List.range 72).any (fun r => r != q && ringSt s r != ringDisabled && (ringSpans s r).any (fun x => sp.any (spansMeet x)))
  then 3
  else 0

/-- RING_ENABLE: ENABLE = 1 written over a ring with its BASE and SIZE_LOG2 (R347, R354); the pointers keep their values, taken modulo
the new size (log entry 21). -/
def ringEnable (q base lg : Nat) (s : State) : State :=
  if ringSt s q ≠ ringDisabled then setupReject q 4 s
  else
    let s1 := setF (setF s (CMD.RING_CFG.BASE q) base) (CMD.RING_CFG.SIZE_LOG2 q) lg
    match setupReason s1 q with
    | 0 =>
      let n := ringSize s1 q
      let wrap := fun (f : Fld) (t : State) => setF t f (getF t f % n)
      let s2 := wrap (CMD.RING_TAIL.TAIL q) (wrap (CMD.RING_HEAD.HEAD q) (wrap (CMD.RING_CQ_TAIL.CQ_TAIL q)
        (wrap (CMD.RING_CQ_HEAD.CQ_HEAD q) s1)))
      let s3 := setB (setRingSt q ringActive (setB s2 (CMD.RING_CFG.ENABLE q) true)) (CMD.RING_STATUS.SEQ_VALID q) false
      setCmd { s3.cmd with rung := aPut 0 s3.cmd.rung q (getF s3 (CMD.RING_TAIL.TAIL q)) } s3
    | r => setupReject q r (setB s1 (CMD.RING_CFG.ENABLE q) false)

/-- RING_DISABLE: refused while packets are outstanding (R347). -/
def ringDisable (q : Nat) (s : State) : State :=
  if ringSt s q = ringDisabled then s
  else if !(outOf s q).isEmpty then setupReject q 5 s
  else setB (setRingSt q ringDisabled s) (CMD.RING_CFG.ENABLE q) false

/-- RING_RESET: undispatched packets are discarded, the ring is ACTIVE again (R353). -/
def ringReset (q : Nat) (s : State) : State :=
  if ringSt s q = ringDisabled then s
  else
    let t := getF s (CMD.RING_TAIL.TAIL q)
    let s1 := setCmd { s.cmd with rung := aPut 0 s.cmd.rung q t } (setF s (CMD.RING_HEAD.HEAD q) t)
    setB (setRingSt q ringActive s1) (CMD.RING_STATUS.SEQ_VALID q) false

/-- A write of RING_CFG by the host driver: VECTOR and IRQ_ALL always, then a reset, a setup or a disable (R347, R353). -/
def ringCfgWrite (agent q val : Nat) (s : State) : State :=
  if agent ≠ 0x01 then s
  else
    let s1 := setF (setF s (CMD.RING_CFG.VECTOR q) (bits val 26 5)) (CMD.RING_CFG.IRQ_ALL q) (bits val 31 1)
    if bit val 25 then ringReset q s1
    else if bit val 24 then ringEnable q (bits val 0 13) (bits val 16 4) s1
    else if ringSt s q = ringDisabled then
      setF (setF s1 (CMD.RING_CFG.BASE q) (bits val 0 13)) (CMD.RING_CFG.SIZE_LOG2 q) (bits val 16 4)
    else ringDisable q s1

/-- A write of RING_CQ: the host driver's, over a ring that is not enabled (R347; log entry 21). -/
def ringCqWrite (agent q val : Nat) (s : State) : State :=
  if agent ≠ 0x01 ∨ ringSt s q ≠ ringDisabled then s else setF s (CMD.RING_CQ.CQ_BASE q) (bits val 0 15)

/-- A partition is assigned (R401): its proxy has its rights (R398). -/
def partAssigned (s : State) (x : Nat) : Bool := getB s (SEC.PART_STATUS.ASSIGNED x)

/-- Agents whose tail write of a ring is accepted (R348, R398). -/
def mayRing (s : State) (agent q : Nat) : Bool :=
  agent == 0x01 || (agent == 0x02 && q == 7) || (decide (8 ≤ q) && agent == 0x10 + ctxOf q && partAssigned s (ctxOf q))

/-- RING_DOORBELL (R348, R336); a WAITING ring is an active one whose dispatch waits (DEDUCED, log entry 100). -/
def ringDoorbell (agent q val : Nat) (s : State) : State :=
  let v := val % 4096
  if mayRing s agent q && (ringSt s q == ringActive || ringSt s q == ringWaiting) && decide (v < ringSize s q) then
    let s1 := setF s (CMD.RING_TAIL.TAIL q) v
    if hostAbsentNow s then s1
    else setCmd { s1.cmd with rung := aPut 0 s1.cmd.rung q v, bell := if q = 7 then agent else s1.cmd.bell } s1
  else
    let s1 := if getF s CMD.ERR_STATUS.DOORBELL_REJECT = 0 then
        setF (setF s CMD.ERR_STATUS.FIRST_AGENT agent) CMD.ERR_STATUS.FIRST_RING q else s
    incF s1 CMD.ERR_STATUS.DOORBELL_REJECT

/-- Every ring whose tail differs from its head is treated as rung (R337). -/
def ringAll (s : State) : State :=
  setCmd { s.cmd with rung := (List.range 72).foldl (fun m q => aPut 0 m q (getF s (CMD.RING_TAIL.TAIL q))) s.cmd.rung } s

/-- Free completion entries of a ring beyond those of its outstanding packets: one entry stays empty (log entry 21). -/
def cqRoom (s : State) (q : Nat) : Bool :=
  let n := ringSize s q
  let used := (getF s (CMD.RING_CQ_TAIL.CQ_TAIL q) + n - getF s (CMD.RING_CQ_HEAD.CQ_HEAD q)) % n
  decide (used + (outOf s q).length + 1 < n)

/-- The outstanding store has room (R355). -/
def storeRoom (s : State) : Bool := decide (s.cmd.pkts.length < 16384)

/-- STATE as it reads: WAITING while dispatch of a ring that is not halted is stopped, by its own completion ring or by the outstanding
store (R355). -/
def ringShown (s : State) (q : Nat) : Nat :=
  if ringSt s q = ringActive ∨ ringSt s q = ringWaiting then (if cqRoom s q && storeRoom s then ringActive else ringWaiting) else ringSt s q

/-- WAITING reads while dispatch of the ring is stopped (R355). -/
def ringRoom (q : Nat) (s : State) : State :=
  if ringSt s q = ringActive ∨ ringSt s q = ringWaiting then
    setRingSt q (if cqRoom s q && storeRoom s then ringActive else ringWaiting) s
  else s

/-- Agents that may move a ring's CQ_HEAD (Table 17-1). -/
def mayCq (s : State) (agent q : Nat) : Bool := mayRing s agent q

/-- CQ_HEAD_WRITE: completion entries are freed (R359, R355). -/
def cqHeadWrite (agent q val : Nat) (s : State) : State :=
  if mayCq s agent q then ringRoom q (setF s (CMD.RING_CQ_HEAD.CQ_HEAD q) (val % 4096)) else s

/-! ### Interrupts and completions (R359, R360) -/

/-- Raise an interrupt vector; 32 is the main core's. -/
def raiseVec (v : Nat) (s : State) : State := setCmd { s.cmd with vecs := aPut 0 s.cmd.vecs v (aGet 0 s.cmd.vecs v + 1) } s

/-- Statuses of a packet applied in full (R360). -/
def fullStatus (st : Nat) : Bool := st == 0 || st == 1 || st == 3 || st == 4 || st == 5

/-- Write a completion entry, advance CQ_TAIL, keep LAST_APPLIED and raise the vector (R359, R360). -/
def complete (q seq status applied detail : Nat) (irq : Bool) (s : State) : State :=
  let t := getF s (CMD.RING_CQ_TAIL.CQ_TAIL q)
  let e := toLE 4 seq ++ toLE 2 status ++ toLE 2 applied ++ toLE 8 detail
  let s1 := setCmd { s.cmd with win := memPut s.cmd.win ((cqBase s q + 16 * t) % 2 ^ 19) e } s
  let s2 := setF (sramStore ((cqBase s q + 16 * t) % 2 ^ 19 / 4) 4 s1) (CMD.RING_CQ_TAIL.CQ_TAIL q) ((t + 1) % ringSize s q)
  let s3 := if fullStatus status then setF s2 (CMD.LAST_APPLIED.SEQ q) (max seq (getF s2 (CMD.LAST_APPLIED.SEQ q))) else s2
  if irq || getB s (CMD.RING_CFG.IRQ_ALL q) then raiseVec (getF s (CMD.RING_CFG.VECTOR q)) s3 else s3

/-- Replace an outstanding packet. -/
def pktPut (p : OutPkt) (s : State) : State :=
  setCmd { s.cmd with pkts := s.cmd.pkts.map (fun x => if x.id = p.id then p else x) } s
def pktGet (s : State) (id : Nat) : Option OutPkt := s.cmd.pkts.find? (fun p => p.id = id)
def pktDrop (id : Nat) (s : State) : State := setCmd { s.cmd with pkts := s.cmd.pkts.filter (fun p => decide (p.id ≠ id)) } s

/-- Change an outstanding packet, where it is still outstanding. -/
def pktUpd (id : Nat) (f : OutPkt → OutPkt) (s : State) : State :=
  setCmd { s.cmd with pkts := s.cmd.pkts.map (fun x => if x.id = id then f x else x) } s

/-- Complete an outstanding packet and let its ring go on. -/
def pktComplete (p : OutPkt) (status applied detail : Nat) (s : State) : State :=
  ringRoom p.ring (complete p.ring p.seq status applied detail p.irq (pktDrop p.id s))

/-- The work of an outstanding packet is done with these results; its completion is written later. -/
def pktDone (id status applied detail : Nat) (s : State) : State :=
  pktUpd id (fun p => { p with st := 4, status := status, applied := applied, detail := detail }) s

/-! ### The boundary gate (R357, R361) -/

/-- GATE_OPEN: agent 0x40 only. -/
def gateOpen (agent : Nat) (s : State) : State := if agent = 0x40 then setB s CMD.GATE_CTRL.OPEN true else s

/-- The gate's named step. -/
def gateStep (s : State) : Option Nat :=
  if getB s CMD.GATE_STEP_HI.ARMED then some (getW s CMD.GATE_STEP_LO.STEP CMD.GATE_STEP_HI.STEP) else none

/-- GATE_CLOSE: the held values become pending with the gate's named step. -/
def gateClose (agent : Nat) (s : State) : State :=
  if agent ≠ 0x40 ∨ !getB s CMD.GATE_CTRL.OPEN then s
  else
    let g := gateStep s
    let s1 := { s with held := [], pend := s.held.foldl (fun m e => aIns m e.1 { e.2 with gate := some g }) s.pend }
    setB s1 CMD.GATE_CTRL.OPEN false

/-- A restart of the interpreter or the main core while the gate is open: STA discards the held values (R361). -/
def gateDiscard (s : State) : State :=
  if !getB s CMD.GATE_CTRL.OPEN then s
  else
    let n := s.held.length
    let s1 := s.held.foldl (fun t e => settleKey e.1 t) { s with held := [] }
    setB (setB (sendFault 0xC2 0xC90 n s1) CMD.STATUS.GATE_DISCARD true) CMD.GATE_CTRL.OPEN false

/-! ### Reading packets (R349 to R351) -/

/-- The bytes of slots from HEAD on, modulo the ring size. -/
def ringBytes (s : State) (q : Nat) : Nat → Nat → List Nat
  | 0, _ => []
  | n + 1, i => memBytes s.cmd.win (64 * (ringBase s q + (ringHead s q + i) % ringSize s q)) 64 ++ ringBytes s q n (i + 1)

/-- The first slot of the packet at HEAD. -/
def headSlot (s : State) (q : Nat) : List Nat := memBytes s.cmd.win (64 * (ringBase s q + ringHead s q % ringSize s q)) 64

/-- Slots of the packet at HEAD. -/
def headLen (s : State) (q : Nat) : Nat := nth (headSlot s q) 3 % 64 + 1
def headOp (s : State) (q : Nat) : Nat := nth (headSlot s q) 0
def headTag (s : State) (q : Nat) : Nat := nth (headSlot s q) 3 / 64

/-- The named step nearest to the step in force with these low bits; the higher of two equally near (R351). -/
def nearestStep (cur low : Nat) : Nat :=
  let base := cur / 2 ^ 32 * 2 ^ 32 + low
  if base + 2 ^ 31 ≤ cur then base + 2 ^ 32 else if cur + 2 ^ 31 < base ∧ 2 ^ 32 ≤ base then base - 2 ^ 32 else base

/-- The packet at HEAD can be dispatched: the interpreter runs, dispatch is on, the tail covers its slots, there is room, and a FENCE
finds no earlier packet of the ring outstanding (R349, R350, R355). -/
def headReady (s : State) (q : Nat) : Bool :=
  (ringSt s q == ringActive || ringSt s q == ringWaiting) && decide (0 < waitSlots s q) && decide (headLen s q ≤ waitSlots s q) &&
    cqRoom s q && storeRoom s && (!bit (nth (headSlot s q) 1) 0 || (outOf s q).isEmpty)

/-! ### The order of service (R333, R334) -/

/-- The step whose boundary a head packet of the plan-step deadline class serves: the next boundary, or a named step whose boundary lies
within 1 ms of system time (Table 14-5). -/
def deadlineOf (s : State) (q : Nat) : Option Nat :=
  let next := s.time.step + 1
  if headTag s q = 1 then some next
  else if headTag s q = 2 then
    let n := nearestStep s.time.step (ofLE (((headSlot s q).drop 8).take 4))
    if n ≤ next then some next
    else match timeOf s n with | some t => if t ≤ s.time.sys + 1000000 then some n else none | none => none
  else none

/-- The first of a list after a position, taken round. -/
def firstAfter (p : Nat) (l : List Nat) : Option Nat :=
  match l.find? (fun x => decide (p < x)) with | some x => some x | none => l.head?

/-- The ring that the interpreter serves next among those ready, lowest class order first; ties of the first class are any of `ties`. -/
def nextRings (s : State) : List Nat :=
  let ready := (List.range 72).filter (headReady s)
  let dl := ready.filterMap (fun q => (deadlineOf s q).map (fun n => (n, q)))
  match dl with
  | e :: r =>
    let m := r.foldl (fun a x => min a x.1) e.1
    (dl.filter (fun x => x.1 == m)).map (fun x => x.2)
  | [] =>
    match firstAfter s.cmd.rr (ready.filter (fun q => decide (q < 8))) with
    | some q => [q]
    | none =>
      let own := ready.filter (fun q => ctxOf q == s.cmd.wctx)
      match (if s.cmd.wleft = 0 then none else firstAfter s.cmd.wring own) with
      | some q => [q]
      | none =>
        let later := ready.filter (fun q => decide (s.cmd.wctx < ctxOf q))
        (match later with | q :: _ => some q | [] => ready.head?).toList

/-- It is the ring's turn: the interpreter runs and dispatch is on. -/
def ringTurn (s : State) (q : Nat) : Bool := compOn s 1 && getB s CMD.CTRL.DISPATCH_EN && (nextRings s).contains q

/-- Remember the ring just served. -/
def served (q : Nat) (s : State) : State :=
  if (deadlineOf s q).isSome then s
  else if q < 8 then setCmd { s.cmd with rr := q } s
  else
    let x := ctxOf q
    let left := if s.cmd.wctx = x ∧ s.cmd.wleft ≠ 0 then s.cmd.wleft else max 1 (getF s (FW.WEIGHT.WEIGHT x))
    setCmd { s.cmd with wctx := x, wleft := left - 1, wring := q } s

/-! ### Mailboxes (R368 to R370) -/

def mbxMode (s : State) (m : Nat) : Nat := let x := getF s (MBX.CFG.MODE m); if x = 3 then 0 else x
def mbxA (s : State) (m : Nat) : Nat := getF s (MBX.CFG.AGENT_A m)
def mbxB (s : State) (m : Nat) : Nat := getF s (MBX.CFG.AGENT_B m)

/-- The mode allows the agent to write. -/
def mbxWriter (s : State) (m agent : Nat) : Bool :=
  match mbxMode s m with | 1 => agent == mbxA s m | 2 => agent == mbxA s m || agent == mbxB s m | _ => false

/-- The party that did not write the word. -/
def mbxReceiver (s : State) (m : Nat) : Nat := if getF s (MBX.STATUS.SENDER m) = mbxA s m then mbxB s m else mbxA s m

/-- MBX_WRITE (R369); a mailbox whose receiver is the BMC bridge raises no vector: STATUS_MFR_SPECIFIC and ALERT_N tell it (R455). -/
def mbxWrite (agent m w : Nat) (s : State) : State :=
  if !mbxWriter s m agent then s
  else
    let s1 := if getB s (MBX.STATUS.FULL m) then incF (setB s (MBX.STATUS.COLLISION m) true) (MBX.STATUS.COLLISIONS m) else s
    let s2 := setF (setB (setF s1 (MBX.DATA.WORD m) w) (MBX.STATUS.FULL m) true) (MBX.STATUS.SENDER m) agent
    if !getB s (MBX.CFG.IRQ_EN m) || mbxReceiver s2 m == 0x02 then s2
    else raiseVec (if mbxReceiver s2 m = 0x40 then 32 else getF s (MBX.CFG.VECTOR m)) s2

/-- MBX_READ: the word, and the state after (R369). -/
def mbxRead (agent m : Nat) (s : State) : State × Nat :=
  if mbxMode s m ≠ 0 ∧ agent = mbxReceiver s m then (setB s (MBX.STATUS.FULL m) false, getF s (MBX.DATA.WORD m))
  else (s, 0)

/-- The mailbox of the answer (R370). -/
def replyBox (m : Nat) : Option Nat := if m < 4 then some (m + 4) else if m = 8 then some 9 else if 16 ≤ m then some m else none

/-- The main core takes a waiting request that it serves: a word in one of the mailboxes of R370 with it as receiver. -/
def mbxRequest (s : State) (m : Nat) : Option Nat :=
  if compOn s 1 && (replyBox m).isSome && getB s (MBX.STATUS.FULL m) && mbxMode s m != 0 && mbxReceiver s m == 0x40 then
    some (getF s (MBX.DATA.WORD m)) else none

/-- Answer a request whose code satisfies a condition (R370, Table 15-11). -/
def mbxAnswer (m : Nat) (mine : Nat → Bool) (reply : Nat → Nat) (s : State) : State :=
  match mbxRequest s m, replyBox m with
  | some w, some b => if mine (w / 2 ^ 24) then mbxWrite 0x40 b (reply w) (mbxRead 0x40 m s).1 else s
  | _, _ => s

/-- The reply to STATE. -/
def stateReply (s : State) : Nat := 0x03000000 + runState s + 4 * hostState s + 16 * b2n (safeOn s)

end Sys2Proof.Machine
end

