-- ==== Sys2Proof/Machine/Transfer.lean ====
section
/-! DEFINITION. Transfers of images by blocks (R365), and the loading of plan segments (R139 to R144) and predictor programs (R110 to
R113). -/

namespace Sys2Proof.Machine

/-! ### Status codes (Table 15-6) -/

def stOk : Nat := 0x0000
def stLate : Nat := 0x0001
def stPartial : Nat := 0x0002
def stCapUnmet : Nat := 0x0003
def stCapUnattainable : Nat := 0x0004
def stDeferred : Nat := 0x0005
def stBadCrc : Nat := 0x0010
def stBadSeq : Nat := 0x0011
def stBadContext : Nat := 0x0012
def stBadOpcode : Nat := 0x0013
def stBadLength : Nat := 0x0014
def stBadTag : Nat := 0x0015
def stBadParam : Nat := 0x0016
def stDenied : Nat := 0x0017
def stSafeState : Nat := 0x0018
def stNotReady : Nat := 0x0019
def stBusy : Nat := 0x0020
def stTooLarge : Nat := 0x0021
def stNoTransfer : Nat := 0x0022
def stFetchFail : Nat := 0x0023
def stBadProgram : Nat := 0x0024
def stBadPlan : Nat := 0x0025
def stBadImage : Nat := 0x0026
def stBadSignature : Nat := 0x0027
def stRollback : Nat := 0x0028
def stAuthFail : Nat := 0x0029
def stAborted : Nat := 0x002A
def stBlockCrc : Nat := 0x002B

/-! ### Ranges of an image -/

/-- Add a range to a rising list of separate ranges, joining those that meet it. -/
def addRange (a b : Nat) : List (Nat × Nat) → List (Nat × Nat)
  | [] => [(a, b)]
  | (x, y) :: r =>
    if b < x then (a, b) :: (x, y) :: r
    else if y < a then (x, y) :: addRange a b r
    else addRange (min a x) (max b y) r

/-- Bytes of a list of ranges, and whether they hold the bytes from 0 up to a length. -/
def rangeBytes (l : List (Nat × Nat)) : Nat := l.foldl (fun a r => a + (r.2 - r.1)) 0
def covers (l : List (Nat × Nat)) (n : Nat) : Bool := l.any (fun r => r.1 == 0 && decide (n ≤ r.2))

def xferOf (s : State) (t : Nat) : Option Xfer := aFind s.cmd.xfers t
def setXfer (t : Nat) (x : Xfer) (s : State) : State := setCmd { s.cmd with xfers := aIns s.cmd.xfers t x } s
def endXfer (t : Nat) (s : State) : State := setCmd { s.cmd with xfers := aDel s.cmd.xfers t } s

/-- What a block packet completes with: status, APPLIED, refusal detail, index. -/
structure Verdict where
  status : Nat
  applied : Nat
  detail : Nat
  index : Nat
  deriving DecidableEq, Repr

/-- The transfer detail (R365): bytes accepted, refusal detail, index. -/
def xferDetail (got : List (Nat × Nat)) (v : Verdict) : Nat :=
  rangeBytes got % 2 ^ 32 + 2 ^ 32 * (v.detail % 256) + 2 ^ 48 * (v.index % 65536)

def accepted : Verdict := ⟨stOk, 1, 0, 0⟩
def refusedWith (st detail index : Nat) : Verdict := ⟨st, 0, detail, index⟩

/-! ### Plan segments (Tables 6-1 to 6-3) -/

/-- The half a segment goes into: 0 for a FIRST segment, else the half that is not active (R144). -/
def segHalf (s : State) (m : Mem) : Nat := if bit (hdr m 6 2) 0 then 0 else 1 - getF s PSQ.STATUS.ACTIVE_HALF

/-- Plan memory holds a plan that a further segment can continue. -/
def planLoaded (s : State) : Bool := segValid s 0 || segValid s 1

def durOk (d : Nat) : Bool := decide (2000 ≤ d) && decide (d ≤ 10000000)

/-- The header's verdict (R141, Table 6-2): status and detail; none where it passes. -/
def planHeader (s : State) (m : Mem) : Option (Nat × Nat) :=
  let flags := hdr m 6 2; let first := bit flags 0
  let count := hdr m 0x18 4; let len := hdr m 0x1C 4
  let zero := fun a n => (memBytes m a n).all (fun b => b == 0)
  let st := planState s
  if 32768 < count ∨ 541184 < len then some (stTooLarge, 0)
  else if first && (st == planArmed || st == planRunning || st == planPaused) then some (stBusy, 0)
  else if !first && planLoaded s && segValid s (segHalf s m) then some (stBusy, 0)
  else if hdr m 0 4 ≠ 0x4E4C504A ∨ hdr m 4 2 ≠ 1 ∨ 8 ≤ flags ∨ (bit flags 2 && !first) ∨ count = 0 ∨
      len ≠ 512 + (if bit flags 2 then 16384 else 0) + 16 * count ∨ !zero 0x0E 2 ∨ !zero 0x16 2 ∨ !zero 0x20 32 ∨ !zero 0x140 192 then
    some (stBadPlan, 1)
  else if first && decide (hdr m 0x0C 2 ≠ 0) then some (stBadPlan, 1)
  else if !first && (!planLoaded s || decide (hdr m 8 4 ≠ getF s PSQ.PLAN_ID.PLAN_ID) || decide (hdr m 0x0C 2 ≠ s.psq.segIdx + 1) ||
      decide (hdr m 0x10 6 ≠ s.psq.segNext)) then some (stBadPlan, 2)
  else if hdr m 0x10 6 + count ≤ s.time.step + 1 then some (stBadPlan, 3)
  else if (List.range 64).any (fun c => hdr m (0x40 + 4 * c) 4 != 0 && !durOk (hdr m (0x40 + 4 * c) 4)) then some (stBadPlan, 4)
  else none

/-- The checks of one entry in Table 6-2's order: 0 where it passes. `fin` marks the final entry of a LAST segment. -/
def entryCheck (m : Mem) (e : List Nat) (fin : Bool) : Nat :=
  let d := hdr m (0x40 + 4 * entDur e) 4
  let lift := bits (entW e 0) 16 5; let lead := bits (entW e 0) 21 3
  if d = 0 then 4
  else if 20 < lift ∨ (lift = 0 ∧ lead ≠ 0) ∨ (lift ≠ 0 ∧ (lead = 0 ∨ 5 < lead)) ∨ 64 < entHint e 0 ∨ 16 < entHint e 1 ∨ 8 < entHint e 2 ∨
      bits (entW e 1) 20 3 ≠ 0 then
    0x10
  else if bits (entW e 1) 9 7 ≠ 0 ∨ bits (entW e 1) 24 8 ≠ 0 ∨ bits (entW e 2) 30 2 ≠ 0 ∨
      bits (entW e 3) 16 16 ≠ 0 then 0x11
  else if d ≤ entReserve e ∨ d ≤ 100 * entHoldLead e then 0x12
  else if entAct e 7 ≠ fin then 0x13
  else 0

/-- Where the entries of a segment image begin, and entry `i` of it. -/
def segBody (m : Mem) : Nat := 512 + (if bit (hdr m 6 2) 2 then 16384 else 0)
def segEntry (m : Mem) (i : Nat) : List Nat := (List.range 4).map (fun w => hdr m (segBody m + 16 * i + 4 * w) 4)

/-- The first failing entry of a segment (R142): detail and index. -/
def planEntries (m : Mem) : Option (Nat × Nat) :=
  let n := hdr m 0x18 4; let last := bit (hdr m 6 2) 1
  ((List.range n).map (fun i => (entryCheck m (segEntry m i) (last && i + 1 == n), i))).find? (fun x => x.1 != 0)

/-- An accepted segment is committed (R143, R144). -/
def planCommit (m : Mem) (s : State) : State :=
  let flags := hdr m 6 2; let first := bit flags 0; let count := hdr m 0x18 4
  let h := segHalf s m
  let s0 := if first then setB (setB s (PSQ.SEG_COUNT.VALID 1) false) PSQ.STATUS.NEXT_READY false else s
  let mem := memPut (memZero s0.psq.mem (524288 * h) 524288) (524288 * h) (memBytes m (segBody m) (16 * count))
  let s1 := setW s0 (PSQ.SEG_FIRST_LO.STEP h) (PSQ.SEG_FIRST_HI.STEP h) (hdr m 0x10 6)
  let s2 := setB (setB (setF s1 (PSQ.SEG_COUNT.COUNT h) (count % 32768)) (PSQ.SEG_COUNT.LAST h) (bit flags 1)) (PSQ.SEG_COUNT.VALID h) true
  let s3 := (List.range 64).foldl (fun t c => setF t (PSQ.DUR.DURATION h c) (hdr m (0x40 + 4 * c) 4)) s2
  let p := s3.psq
  let r := injectAt 1 (32768 * h) (p.ecc.filter (fun e => decide (e.1 / 32768 ≠ h))) s3
  let s4 := { r.1 with psq := { p with mem := mem, ecc := r.2, segIdx := hdr m 0x0C 2, segNext := hdr m 0x10 6 + count } }
  if first then
    let s5 := addActNext .planArm (setF (setF s4 PSQ.STATUS.ACTIVE_HALF 0) PSQ.PLAN_ID.PLAN_ID (hdr m 8 4))
    if bit flags 2 then addActNext .sigLoad { s5 with psq := { s5.psq with sigBlock := memPut [] 0 (memBytes m 512 16384) } } else s5
  else setB s4 PSQ.STATUS.NEXT_READY true

/-- LOAD_STATUS of the plan. DETAIL and ENTRY are those of the last refusal until a segment is accepted. -/
def planLoadStatus (detail half index : Nat) (loading : Bool) (s : State) : State :=
  setB (setF (setF (setF s PSQ.LOAD_STATUS.DETAIL detail) PSQ.LOAD_STATUS.HALF half) PSQ.LOAD_STATUS.ENTRY index) PSQ.LOAD_STATUS.LOADING
    loading

/-! ### Predictor programs (Tables 4-8, 4-9) -/

def progLoadStatus (slot detail index : Nat) (loading : Bool) (s : State) : State :=
  setB (setF (setF (setF s PXE.LOAD_STATUS.DETAIL detail) PXE.LOAD_STATUS.SLOT slot) PXE.LOAD_STATUS.DESC index) PXE.LOAD_STATUS.LOADING
    loading

/-- An accepted program: LOADED, and RUNNING at the next swap (R113). -/
def progCommit (slot : Nat) (m : Mem) (s : State) : State :=
  let s0 := (List.range (hdr m 0x10 2)).foldl (fun t i => pxeStored (segAddr m i) (segLen m i) t) s
  let s1 := setPxe { s0.pxe with mem := placeImage m slot s.pxe.mem } s0
  let s2 := setF (setF (setSlotSt slot 1 s1) (PXE.SLOT_ID.PROGRAM_ID slot) (hdr m 8 4)) (PXE.SLOT_WCET.WCET slot) (hdr m 0x18 4)
  let s3 := addActNext (.slotRun slot) s2
  if slot = 0 then setB s3 EST.TRUST_STATUS.MISMATCH_LATCH false else s3

/-! ### One block (R365) -/

/-- What each target adds to the common course of a transfer. -/
structure Target where
  /-- Header length. -/
  head : Nat
  /-- Image length that the header states. -/
  lenOf : Mem → Nat
  /-- The header's verdict: status and detail, none where it passes. -/
  check : State → Mem → Option (Nat × Nat)
  /-- The target's state when the header passes, and when it is refused with a detail. -/
  pass : Mem → State → State
  fail : Nat → State → State
  /-- The whole image has arrived. -/
  whole : Mem → State → State × Verdict
  /-- An unfinished transfer is abandoned after its header was accepted. -/
  abandon : State → State
  /-- A block is refused for its CRC-32C or its place, detail 0x05 (Tables 4-9, 6-2). -/
  lost : State → State

/-- The plan as a target. -/
def planTarget : Target where
  head := 512
  lenOf m := hdr m 0x1C 4
  check := planHeader
  pass m s := setB (setF s PSQ.LOAD_STATUS.HALF (segHalf s m)) PSQ.LOAD_STATUS.LOADING true
  fail d s := planLoadStatus d (getF s PSQ.LOAD_STATUS.HALF) 0 false s
  whole m s :=
    match planEntries m with
    | some (d, i) => (planLoadStatus d (segHalf s m) i false s, refusedWith stBadPlan d i)
    | none => (planCommit m (planLoadStatus 0 (segHalf s m) 0 false s), accepted)
  abandon s := setB s PSQ.LOAD_STATUS.LOADING false
  lost s := setF s PSQ.LOAD_STATUS.DETAIL 5

/-- A predictor slot as a target (R111, R112). -/
def progTarget (slot : Nat) : Target where
  head := 256
  lenOf m := hdr m 0x14 4
  check s m :=
    if 589824 < hdr m 0x14 4 then some (stTooLarge, 0)
    else match headerCheck m slot (hdr m 0x14 4) (getF s (PXE.SLOT_BUDGET.BUDGET slot)) with | 0 => none | d => some (stBadProgram, d)
  pass _ s := setB (setF (stopSlot slot 3 s) PXE.LOAD_STATUS.SLOT slot) PXE.LOAD_STATUS.LOADING true
  fail d s := progLoadStatus slot d 0 false s
  whole m s :=
    match imageCheck m slot with
    | (0, _) => (progCommit slot m (progLoadStatus slot 0 0 false s), accepted)
    | (d, i) => (progLoadStatus slot d i false (setSlotSt slot 0 s), refusedWith stBadProgram d i)
  abandon s := setB (setSlotSt slot 0 s) PXE.LOAD_STATUS.LOADING false
  lost s := setF (setF s PXE.LOAD_STATUS.DETAIL 5) PXE.LOAD_STATUS.SLOT slot

/-- Abandon an unfinished transfer of a target. -/
def abandonXfer (t : Nat) (g : Target) (s : State) : State :=
  match xferOf s t with
  | some x => if x.len.isSome then g.abandon (endXfer t s) else endXfer t s
  | none => s

/-- A block that has arrived: its CRC has been found right. The state, and what the packet completes with: a block that carries a refusal, or
lies beyond the image length, is not accepted, and its bytes do not count (log entry 112). -/
def takeBlock (t : Nat) (g : Target) (off : Nat) (data : List Nat) (s : State) : State × Verdict × List (Nat × Nat) :=
  let s0 := if off = 0 then setXfer t ⟨[], [], none, false⟩ (abandonXfer t g s) else s
  match xferOf s0 t with
  | none => (s0, refusedWith stNoTransfer 0 0, [])
  | some x =>
    let stop := off + data.length
    if x.refused then (s0, refusedWith stNoTransfer 0 0, x.got)
    else if (match x.len with | some n => decide (n < stop) | none => false) then (g.lost s0, refusedWith stNoTransfer 0 0, x.got)
    else
      let m := memPut x.buf off data
      let got := addRange off stop x.got
      let finish := fun (len : Nat) (u : State) =>
        if covers got len then let r := g.whole m (endXfer t u); (r.1, r.2, if r.2.applied = 0 then x.got else got)
        else (setXfer t ⟨m, got, some len, false⟩ u, accepted, got)
      match x.len with
      | some n => finish n s0
      | none =>
        if !covers got g.head then (setXfer t ⟨m, got, none, false⟩ s0, accepted, got)
        else
          match g.check s0 m with
          | some (st, d) => (g.fail d (setXfer t ⟨x.buf, x.got, none, true⟩ s0), refusedWith st d 0, x.got)
          | none =>
            let n := g.lenOf m
            if n < stop then (g.lost s0, refusedWith stNoTransfer 0 0, x.got)
            else if got.any (fun r => decide (n < r.2)) then
              (g.fail 5 (setXfer t ⟨x.buf, x.got, none, true⟩ s0), refusedWith stNoTransfer 5 0, x.got)
            else finish n (g.pass m s0)

end Sys2Proof.Machine
end

