-- ==== Sys2Proof/Machine/Recorder.lean ====
section
/-! DEFINITION. The event recorder: records, buffer, watches, flushes to the sealed log partition, key generations and migration
(chapter 16, R412 to R415). -/

namespace Sys2Proof.Machine

def setEvr (e : EvrState) (s : State) : State := { s with evr := e }

/-! ### Stamps and records (R373 to R375) -/

def recPad : Nat := 0
def recEpoch : Nat := 1
def recFault : Nat := 2
def recSevere : Nat := 3
def recEvent : Nat := 4
def recMark : Nat := 5
def recScrub : Nat := 6
def recList : Nat := 7
def recSnap : Nat := 8
def recLoss : Nat := 9
def recPower : Nat := 10

/-- Operating hours in 1/1024 s: exactly 1,024 a second of the local time base, the fraction carried (R374). -/
def hours1024 (s : State) : Nat := s.time.hours * 1024 / 100000000
def nextSeq (s : State) : Nat := getW s EVR.NEXT_SEQ_LO.SEQ EVR.NEXT_SEQ_HI.SEQ

/-- The stamp and content of a record with a sequence number (Table 16-1). -/
def recBytes (s : State) (q typ : Nat) (body : List Nat) : List Nat :=
  let w := q % 2 ^ 32 + hours1024 s % 2 ^ 18 * 2 ^ 32 + getF s EVR.CYCLES.CYCLES % 16 * 2 ^ 50 + typ * 2 ^ 54 + body.length / 8 * 2 ^ 59
  toLE 8 w ++ body

/-- The content of an EPOCH record: reason 0 periodic, 1 start, 2 granule start (Table 16-2). -/
def epochBody (s : State) (q reason : Nat) : List Nat :=
  toLE 8 q ++ toLE 8 (hours1024 s % 2 ^ 48) ++ toLE 8 s.time.sys ++ toLE 4 (getF s EVR.CYCLES.CYCLES) ++ [reason, 0, 0, 0]

/-- The content of a LOSS record. -/
def lossBody (first n reason : Nat) : List Nat := toLE 8 first ++ toLE 4 n ++ [reason, 0, 0, 0]

/-! ### The buffer (R377, R378) -/

def lastGran (s : State) : Option Gran := s.evr.grans.getLast?
def setLast (g : Gran) (s : State) : State := setEvr { s.evr with grans := s.evr.grans.dropLast ++ [g] } s

/-- The oldest record, as the registers show it; an empty buffer shows the next number. -/
def showOldest (s : State) : State :=
  match s.evr.grans with
  | g :: _ => setF (setW s EVR.OLDEST_SEQ_LO.SEQ EVR.OLDEST_SEQ_HI.SEQ g.first) EVR.PTR.OLDEST (512 * g.slot)
  | [] => setF (setW s EVR.OLDEST_SEQ_LO.SEQ EVR.OLDEST_SEQ_HI.SEQ (nextSeq s)) EVR.PTR.OLDEST (getF s EVR.PTR.WRITE)

/-- Account for records that no flush wrote. -/
def addLost (first n : Nat) (s : State) : State :=
  setEvr { s.evr with lost := match s.evr.lost with | some (f, m) => some (min f first, m + n) | none => some (first, n) } s

/-- The reserved bound moves on before the numbers come near it (R384). -/
def keepBound (s : State) : State :=
  if s.evr.bound ≤ nextSeq s + 2 ^ 19 then setEvr { s.evr with bound := nextSeq s + 2 ^ 20 } s else s

/-- Store a record in the open granule: it takes the next sequence number; an armed injection takes its first word (R394). -/
def storeRec (typ : Nat) (body : List Nat) (s : State) : State :=
  match lastGran s with
  | none => s
  | some g =>
    let q := nextSeq s
    let b := recBytes s q typ body
    let pos := 4096 * g.slot + g.fill
    let (s1, ecc) := injectAt 7 (pos / 8) (s.evr.ecc.filter (fun e => decide (e.1 < pos / 8) || decide ((pos + b.length) / 8 ≤ e.1))) s
    let s2 := setEvr { s1.evr with buf := memPut s1.evr.buf pos b, ecc := ecc } s1
    let s3 := setLast { g with next := q + 1, fill := g.fill + b.length } s2
    let s4 := setF (setW s3 EVR.NEXT_SEQ_LO.SEQ EVR.NEXT_SEQ_HI.SEQ (q + 1)) EVR.PTR.WRITE ((pos + b.length) / 8)
    showOldest (keepBound s4)

/-- A PAD record takes what is left of the open granule, at most 256 bytes long (log entry 22). -/
def closeGran (s : State) : State :=
  match lastGran s with
  | some g =>
    if !s.evr.opened then s
    else
      let s1 := if g.fill < 4096 then storeRec recPad (List.replicate (min 256 (4096 - g.fill) - 8) 0) s else s
      setEvr { s1.evr with opened := false } s1
  | none => s

/-- A new granule; in a full ring it takes the oldest granule's place (R378). -/
def openGran (s : State) : State :=
  let slot := match lastGran s with | some g => (g.slot + 1) % 64 | none => 0
  let s1 := match s.evr.grans with
    | g :: r =>
      if s.evr.grans.length < 64 then s
      else
        let t := if g.flushed then s else addLost g.first (g.next - g.first) s
        setEvr { t.evr with grans := r, job := remN g.slot t.evr.job } t
    | [] => s
  let q := nextSeq s
  let g : Gran := { slot := slot, first := q, next := q, fill := 0, flushed := false }
  let ecc := s1.evr.ecc.filter (fun e => decide (e.1 < 512 * slot) || decide (512 * slot + 512 ≤ e.1))
  let buf := memZero s1.evr.buf (4096 * slot) 4096
  setEvr { s1.evr with grans := s1.evr.grans ++ [g], opened := true, buf := buf, ecc := ecc } s1

/-- An EPOCH record in the open granule. -/
def epochRec (reason : Nat) (s : State) : State :=
  let s1 := storeRec recEpoch (epochBody s (nextSeq s) reason) s
  setEvr { s1.evr with started := true, lastEpoch := hours1024 s } s1

/-- Make room for a record of `n` bytes: the open granule where it fits, else a new one that begins with an EPOCH record; the first record
after a start is an EPOCH record too (R374, R378). -/
def roomFor (n : Nat) (s : State) : State :=
  let need := if s.evr.started then n else n + 40
  let fits := s.evr.opened && (match lastGran s with | some g => decide (g.fill + need ≤ 4096) | none => false)
  if fits then (if s.evr.started then s else epochRec 1 s)
  else epochRec (if s.evr.started then 2 else 1) (openGran (closeGran s))

/-! ### Watches (R380, R381) -/

def watchCount (s : State) (w : Nat) : Nat := getF s (EVR.WATCH.COUNT w)

/-- Does a record trigger a code (R380)? -/
def codeHit (code typ ev : Nat) : Bool :=
  (typ == recEvent && decide (ev < 0x8000) && code == ev) || (typ == recFault && code == 0x8000 + ev) ||
    (typ == recSevere && (code == 0xC000 + ev || code == 0xFFFF))

/-- The record just stored, with sequence number `q`: each watch it matches takes a snapshot, or counts it as withheld. -/
def watchHits (q typ ev : Nat) (s : State) : State :=
  (List.range 8).foldl (fun t w =>
    if watchCount t w = 0 ∨ !codeHit (getF t (EVR.WATCH.EVENT w)) typ ev then t
    else
      let again := match aFind t.evr.snapAt w with | some a => decide (t.time.ticks < a + ms 1) | none => false
      if again || scrubOn t then incF t EVR.COUNTS.SUPPRESSED
      else
        let n : Snap := { w := w, seq := q % 2 ^ 32, at0 := t.time.ticks, step := 0, vals := [], split := false }
        setEvr { t.evr with snaps := t.evr.snaps ++ [n], snapAt := aIns t.evr.snapAt w t.time.ticks } t) s

/-- Write a record with the code or kind by which watches know it. -/
def putRec (typ ev : Nat) (body : List Nat) (s : State) : State :=
  let s1 := roomFor (8 + body.length) s
  watchHits (nextSeq s1) typ ev (storeRec typ body s1)

/-- The types written during a scrub (R379). -/
def scrubType (typ : Nat) : Bool := [recPad, recEpoch, recFault, recSevere, recScrub, recLoss, recPower].contains typ

/-- The content as confidential mode has it (R379). -/
def confBody (s : State) (typ code : Nat) (body : List Nat) : List Nat :=
  if !confOn s ∨ typ ≠ recEvent then body
  else if code = 0x0503 then body.take 8 ++ List.replicate (body.length - 8) 0
  else if code = 0x0801 then
    let t := ofLE ((body.drop 8).take 2)
    body.take 8 ++ toLE 2 (t / 16 * 16) ++ body.drop 10
  else body

/-- A LOSS record was written: the flag and the fault (Table 16-9). -/
def lossSeen (n reason : Nat) (s : State) : State :=
  sendFault 0xD4 0xD02 (n % 2 ^ 28 + reason * 2 ^ 28) (setB s EVR.STATUS.LOSS true)

/-- The MARK packet whose record was accepted completes with its number (Table 15-5). -/
def markDone (a : Arrival) (detail : Nat) (s : State) : State :=
  match pktGet s a.info with
  | some p => if a.kind = recMark then pktComplete p stOk 1 detail s else s
  | none => s

/-- Bytes of the second part that directly follows the first part of a two-part record: both go into one granule, so that no PAD or EPOCH
record comes between their sequence numbers (R380, R381; log entry 74). -/
def secondPart (a : Arrival) (s : State) : Nat :=
  match s.inbox with
  | b :: _ =>
    if (a.kind = recSnap ∨ a.kind = recList) ∧ b.isRec ∧ b.kind = a.kind ∧ b.ticks = a.ticks ∧
        nth b.body 0 = nth a.body 0 ∧ nth a.body 1 % 2 = 0 then
      8 + b.body.length else 0
  | [] => 0

/-- A record is written, or withheld during a scrub (R379); a withheld MARK packet's number is not stated (log entry 2). -/
def takeRec (a : Arrival) (s : State) : State :=
  if scrubOn s && !scrubType a.kind then markDone a (freeVal s % 2 ^ 32) (freeNext (incF s EVR.COUNTS.SUPPRESSED))
  else
    let t := roomFor (8 + a.body.length + secondPart a s) s
    markDone a (nextSeq t % 2 ^ 32) (putRec a.kind a.code (confBody s a.kind a.code a.body) t)

/-- A LOSS record follows records dropped at the input (R377). -/
def inputLoss (s : State) : State :=
  let n := s.lostRec
  if n = 0 then s else lossSeen n 2 (putRec recLoss 0 (lossBody 0 n 2) { s with lostRec := 0 })

/-- A record is accepted. -/
def acceptRec (a : Arrival) (s : State) : State := inputLoss (takeRec a s)

/-- EVR_RECORD_POST: the next arrival, where it is a record, is accepted. -/
def recordPost (s : State) : State :=
  match s.inbox with
  | a :: r => if a.isRec then acceptRec a { s with inbox := r } else s
  | [] => s

/-- A record of the recorder's own takes its place among the arrivals of its instant in the order of R18: the management plane, group 0xD
(R468). -/
def ownRec (typ : Nat) (body : List Nat) (s : State) : State := postRec 2 0xD 0 typ body s

/-- EVR_EPOCH_PERIODIC (R374): 128 s of operating hours since the last EPOCH record. -/
def epochPeriodic (s : State) : State :=
  if hours1024 s < s.evr.lastEpoch + 131072 then s
  else
    let s1 := roomFor 40 s
    if hours1024 s < s1.evr.lastEpoch + 131072 then s1 else epochRec 0 s1

/-- A watch's list takes effect: LIST_VER rises and the list is recorded (R380). -/
def watchSet (w ev : Nat) (offs : List Nat) (s : State) : State :=
  let v := (getF s (EVR.WATCH.LIST_VER w) + 1) % 256
  let s1 := setF (setF (setF s (EVR.WATCH.EVENT w) ev) (EVR.WATCH.COUNT w) offs.length) (EVR.WATCH.LIST_VER w) v
  let s2 := (List.range 64).foldl (fun t i => setF t (EVR.WATCH_LIST.OFFSET w i) (nth offs i)) s1
  let s3 := setEvr { s2.evr with snaps := s2.evr.snaps.filter (fun n => decide (n.w ≠ w)) } s2
  let part := fun (p : Nat) (l : List Nat) (t : State) =>
    ownRec recList (pad8 ([w, p, v, l.length] ++ List.replicate 4 0 ++ l.flatMap (toLE 4))) t
  let s4 := part 0 (offs.take 32) s3
  if 32 < offs.length then part 1 (offs.drop 32) s4 else s4

/-- A boundary swap falls between two reads of a snapshot (R381). -/
def snapSplit (s : State) : State :=
  setEvr { s.evr with snaps := s.evr.snaps.map (fun n => if n.vals.isEmpty then n else { n with split := true }) } s

/-- A complete snapshot is posted, in one or two parts (Table 16-2, TYPE 8), and accepted in the order of R18. -/
def snapWrite (n : Snap) (s : State) : State :=
  let v := getF s (EVR.WATCH.LIST_VER n.w)
  let part := fun (p : Nat) (l : List Nat) (t : State) =>
    ownRec recSnap (pad8 ([n.w, p + 2 * b2n n.split, v, l.length] ++ toLE 4 n.seq ++ toLE 8 n.step ++ l.flatMap (toLE 4))) t
  let s1 := part 0 (n.vals.take 32) s
  if 32 < n.vals.length then part 1 (n.vals.drop 32) s1 else s1

/-- WATCH_SNAPSHOT: the recorder reads the next `m` registers of a watch's list; the last read writes the record. -/
def snapRead (peek : State → Nat → Nat) (w m : Nat) (s : State) : State :=
  match s.evr.snaps.find? (fun n => decide (n.w = w)) with
  | none => s
  | some n =>
    let left := (List.range (watchCount s w)).drop n.vals.length
    let new := (left.take m).map (fun i => peek s (getF s (EVR.WATCH_LIST.OFFSET w i)))
    let n1 := { n with vals := n.vals ++ new, step := if n.vals.isEmpty then s.time.step else n.step }
    let rest := s.evr.snaps.filter (fun x => decide (x.w ≠ w))
    if n1.vals.length < watchCount s w then setEvr { s.evr with snaps := n1 :: rest } s
    else snapWrite n1 (setEvr { s.evr with snaps := rest } s)

/-! ### Flushes (R382, R383) -/

def flushing (s : State) : Bool := s.evr.flush != 0
def erased (s : State) : Nat := getF s EVR.FLASH.ERASED
def writePt (s : State) : Nat := getF s EVR.FLASH.GRANULE

/-- A granule of the buffer holds an uncorrectable word (R394): the byte offset of the first. -/
def badWord (s : State) (g : Gran) : Option Nat :=
  (s.evr.ecc.find? (fun e => decide (512 * g.slot ≤ e.1) && decide (e.1 < 512 * g.slot + 512) && decide (2 ≤ e.2))).map (fun e => 8 * e.1)

/-- Report an uncorrectable word of the buffer (Table 16-9). -/
def bufBad (off : Nat) (s : State) : State := setB (sendFault 0xD1 0xD01 off s) EVR.STATUS.BUF_UNCORR true

def markFlushed (slots : List Nat) (s : State) : State :=
  setEvr { s.evr with grans := s.evr.grans.map (fun g => if slots.contains g.slot then { g with flushed := true } else g) } s

/-- Give up granules: their records count as lost with a reason, or join those overwritten before. -/
def giveUp (l : List Gran) (s : State) : State :=
  l.foldl (fun t g => addLost g.first (g.next - g.first) t) (markFlushed (l.map (fun g => g.slot)) s)

/-- Uncorrectable granules are skipped by the flush; a LOSS record covers them (Table 16-6). -/
def skipBad (s : State) : State :=
  (s.evr.grans.filter (fun g => !g.flushed)).foldl
    (fun t g => match badWord t g with | some off => giveUp [g] (bufBad off t) | none => t) s

/-- A flush begins: the open granule is closed; the granules to write are chosen; at power-fail only the newest PF_GRANULES (R383); with
fewer erased granules than needed only the newest (Table 16-7). Without the seed nothing is written (R409). -/
def flushStart (trig : Nat) (s : State) : State :=
  let s0 := skipBad (closeGran s)
  let s1 := setB (setEvr { s0.evr with flush := trig, job := [], head := [] } s0) EVR.STATUS.FLUSHING true
  if !getB s SEC.STATUS.PUF_OK ∨ erased s = 0 then s1
  else
    let all := s1.evr.grans.filter (fun g => !g.flushed)
    let old := if trig = 5 then all.take (all.length - getC s EVR.CTRL.PF_GRANULES 1 32) else []
    let s2 := markFlushed (old.map (fun g => g.slot)) s1
    let h3 := match old with
      | g :: _ => [(g.first, old.foldl (fun a x => a + (x.next - x.first)) 0, 3)]
      | [] => []
    let keep := all.drop old.length
    let heads := if s2.evr.lost.isSome ∨ !h3.isEmpty then 1 else 0
    let cut := if keep.length + heads ≤ erased s then 0 else keep.length + 1 - erased s
    let s3 := giveUp (keep.take cut) s2
    let h1 := match s3.evr.lost with | some (f, n) => [(f, n, 1)] | none => []
    setEvr { s3.evr with job := (keep.drop cut).map (fun g => g.slot), head := h1 ++ h3, lost := none } s3

/-- A flush is wanted: it begins, or a running one becomes the power-fail flush, serves the opcode, or is followed by another. -/
def flushBegin (trig : Nat) (s : State) : State :=
  if !flushing s then flushStart trig s
  else if trig = 5 then setEvr { s.evr with flush := 5 } s
  else if trig = 4 then s
  else setEvr { s.evr with again := trig } s

/-- The fault flush, at most one per FLUSH_MIN (Table 16-4, trigger 1). -/
def faultFlush (s : State) : State :=
  let again := match s.evr.faultAt with
    | some t => decide (s.time.ticks < t + ms (100 * max 1 (getF s EVR.CTRL.FLUSH_MIN)))
    | none => false
  if again then setB s EVR.STATUS.FLUSH_PENDING true
  else flushBegin 1 (setEvr { s.evr with faultAt := some s.time.ticks } s)

/-- FLUSH_MIN_END: a pending fault flush runs. -/
def flushMinEnd (s : State) : State :=
  match s.evr.faultAt with
  | some t =>
    if getB s EVR.STATUS.FLUSH_PENDING && decide (t + ms (100 * max 1 (getF s EVR.CTRL.FLUSH_MIN)) ≤ s.time.ticks) then
      flushBegin 1 (setB (setEvr { s.evr with faultAt := some s.time.ticks } s) EVR.STATUS.FLUSH_PENDING false)
    else s
  | none => s

/-! ### The sealed log (R412 to R415) -/

def genCur (s : State) : Nat := getF s SEC.LOG_KEY.GEN_CUR
def genPrev (s : State) : Nat := getF s SEC.LOG_KEY.GEN_PREV
def prevValid (s : State) : Bool := getB s SEC.LOG_KEY.PREV_VALID
def sealCnt (s : State) : Nat := getW s SEC.SEAL_CNT_LO.COUNTER SEC.SEAL_CNT_HI.COUNTER

/-- Draw the next seal counter, its bound renewed in the manner of R384. -/
def nextSeal (s : State) : State :=
  let c := sealCnt s + 1
  let s1 := setW s SEC.SEAL_CNT_LO.COUNTER SEC.SEAL_CNT_HI.COUNTER c
  if s1.evr.sealBound ≤ c + 2 ^ 15 then setEvr { s1.evr with sealBound := c + 2 ^ 16 } s1 else s1

/-- Write one granule at the write point, sealed under the current generation. -/
def sealGran (b : List Nat) (s : State) : State :=
  let i := writePt s
  let sl : Seal := { gen := genCur s, ctr := sealCnt s, staged := false }
  let s1 := setEvr { s.evr with log := memPut (memZero s.evr.log (4096 * i) 4096) (4096 * i) b, seals := aIns s.evr.seals i sl } s
  nextSeal (setF (setF s1 EVR.FLASH.GRANULE ((i + 1) % 4096)) EVR.FLASH.ERASED (erased s - 1))

/-- The head granule of a flush: an EPOCH record and the LOSS records; its records take the next sequence numbers (log entry 22). -/
def headBytes (s : State) : List Nat :=
  let q := nextSeq s
  (recBytes s q recEpoch (epochBody s q 2)) ++
    ((List.range s.evr.head.length).flatMap (fun i =>
      let h := s.evr.head.getD i (0, 0, 0)
      recBytes s (q + 1 + i) recLoss (lossBody h.1 h.2.1 h.2.2))) ++
    recBytes s (q + 1 + s.evr.head.length) recPad (List.replicate 248 0)

/-- Write the head granule, where the flush has one. -/
def writeHead (s : State) : State :=
  match s.evr.head with
  | [] => s
  | l =>
    let q := nextSeq s + l.length + 2
    let s1 := keepBound (setW (sealGran (headBytes s) s) EVR.NEXT_SEQ_LO.SEQ EVR.NEXT_SEQ_HI.SEQ q)
    let s2 := setW (setEvr { s1.evr with head := [] } s1) EVR.FLUSHED_SEQ_LO.SEQ EVR.FLUSHED_SEQ_HI.SEQ (q - 1)
    l.foldl (fun t h => lossSeen h.2.1 h.2.2 t) s2

/-- Write one buffer granule. -/
def writeSlot (slot : Nat) (s : State) : State :=
  match s.evr.grans.find? (fun g => decide (g.slot = slot)) with
  | none => s
  | some g =>
    let s1 := markFlushed [slot] (sealGran (memBytes s.evr.buf (4096 * slot) 4096) s)
    setW s1 EVR.FLUSHED_SEQ_LO.SEQ EVR.FLUSHED_SEQ_HI.SEQ (g.next - 1)

/-- HOURS_SAVE: operating hours and the power-cycle count go to flash (R384). -/
def hoursSave (s : State) : State :=
  setEvr { s.evr with savedHours := s.time.hours, savedCycles := getF s EVR.CYCLES.CYCLES } s

/-- Records of the granules a flush has written: those of the head granule and of the slots. -/
def flushedCount (s : State) (slots : List Nat) : Nat :=
  (if s.evr.head.isEmpty then 0 else s.evr.head.length + 2) +
    (s.evr.grans.filter (fun g => slots.contains g.slot)).foldl (fun a g => a + (g.next - g.first)) 0

/-- The EVR_FLUSH packets that wait for the flush complete. -/
def flushAnswer (full : Bool) (grans recs : Nat) (s : State) : State :=
  (s.cmd.pkts.filter (fun p => p.op == 0x39 && p.st == 5)).foldl
    (fun t p => pktComplete p (if full then stOk else stPartial) (if full then 1 else grans) recs t) s

/-- EVR_FLUSH_DONE: the flush ends; `ok` granules were programmed before one failed, all of them for none (R382, R396). -/
def flushDone (ok : Option Nat) (s : State) : State :=
  if !flushing s then s
  else
    let h := if s.evr.head.isEmpty then 0 else 1
    let total := h + s.evr.job.length
    let n := match ok with | some k => min k total | none => total
    let slots := s.evr.job.take (n - h)
    let recs := if n = 0 then 0 else flushedCount s slots
    let s1 := if n = 0 then s.evr.head.foldl (fun t x => if x.2.2 = 1 then addLost x.1 x.2.1 t else t) s else writeHead s
    let s2 := slots.foldl (fun t k => writeSlot k t) s1
    let s3 := if n < total then
        setB (sendFault 0xD0 0xD00 (writePt s2) s2) EVR.STATUS.FLUSH_FAIL true
      else if !getB s SEC.STATUS.PUF_OK then setB s2 EVR.STATUS.FLUSH_FAIL true else s2
    let stuck := total == 0 && s.evr.grans.any (fun g => !g.flushed && !(s.evr.opened && (lastGran s).any (fun x => x.slot == g.slot)))
    let full := n == total && getB s SEC.STATUS.PUF_OK && !stuck
    let s4 := flushAnswer full n recs (event 0x0D01 (toLE 2 n ++ [s.evr.flush]) (hoursSave s3))
    let again := s4.evr.again
    let s5 := setB (setEvr { s4.evr with flush := 0, job := [], head := [], again := 0 } s4) EVR.STATUS.FLUSHING false
    if again = 0 then s5 else flushStart again s5

/-- A flush that runs to its end at once: the reset sequence's (R311). -/
def flushNow (trig : Nat) (s : State) : State := flushDone none (flushBegin trig s)

/-- Migration ends: the previous slot retires when no granule is left under it (R415). -/
def retirePrev (s : State) : State :=
  if !prevValid s ∨ getF s SEC.LOG_KEY.LEFT ≠ 0 then s
  else
    let s1 := setB (setEvr { s.evr with saltPrev := 0 } s) SEC.LOG_KEY.PREV_VALID false
    event 0x0E04 ([genPrev s, 0, 0, 0] ++ toLE 4 s.evr.migDone) s1

/-- A granule is erased: it leaves LEFT where it carried the previous generation. -/
def eraseGran (i : Nat) (s : State) : State :=
  let left := match aFind s.evr.seals i with | some x => prevValid s && x.gen == genPrev s | none => false
  let s1 := setEvr { s.evr with log := memZero s.evr.log (4096 * i) 4096, seals := aDel s.evr.seals i } s
  if left then setF s1 SEC.LOG_KEY.LEFT (getF s SEC.LOG_KEY.LEFT - 1) else s1

/-- ERASE_AHEAD: the flusher erases the next granule ahead of the write point, at most the whole partition but one (R382). -/
def eraseAhead (s : State) : State :=
  if !compOn s 7 ∨ 4095 ≤ erased s then s
  else setF (eraseGran ((writePt s + erased s) % 4096) s) EVR.FLASH.ERASED (erased s + 1)

/-- The granule that migration comes to next: the first after the erased run that carries the previous generation. -/
def migrateNext (s : State) : Option Nat :=
  ((List.range 4096).map (fun j => (writePt s + erased s + j) % 4096)).find?
    (fun i => match aFind s.evr.seals i with | some x => x.gen == genPrev s | none => false)

/-- LOG_MIGRATE_GRANULE (R415): every 10 ms one granule is opened and sealed under the current generation; one that does not open is
erased and counted; `stop` leaves it staged, as a loss of power between the second and the third step does. -/
def migrateGran (opens stop : Bool) (s : State) : State :=
  if !prevValid s ∨ !getB s SEC.STATUS.PUF_OK ∨ flushing s ∨ !s.phc.pwrFailN ∨ s.time.ticks < s.evr.migAt + ms 10 then s
  else
    let s0 := setEvr { s.evr with migAt := s.time.ticks } s
    match migrateNext s0 with
    | none => retirePrev s0
    | some i =>
      if !opens then
        retirePrev (sendFault 0xE3 0xE30 i (incF (eraseGran i s0) SEC.MIGRATE_COUNTS.LOST))
      else if stop then
        let sl : Seal := { gen := genPrev s, ctr := sealCnt s, staged := true }
        nextSeal (setEvr { s0.evr with seals := aIns s0.evr.seals i sl } s0)
      else
        let sl : Seal := { gen := genCur s, ctr := sealCnt s, staged := false }
        let s1 := nextSeal (setEvr { s0.evr with seals := aIns s0.evr.seals i sl, migDone := s0.evr.migDone + 1 } s0)
        retirePrev (incF (setF s1 SEC.LOG_KEY.LEFT (getF s SEC.LOG_KEY.LEFT - 1)) SEC.MIGRATE_COUNTS.MIGRATED)

/-- At a start a granule found STAGED is restored from the staging sector, sealed under the current generation (R415). -/
def restoreStaged (s : State) : State :=
  (s.evr.seals.filter (fun e => e.2.staged)).foldl (fun t e =>
    let sl : Seal := { gen := genCur t, ctr := e.2.ctr, staged := false }
    retirePrev (setF (setEvr { t.evr with seals := aIns t.evr.seals e.1 sl, migDone := t.evr.migDone + 1 } t)
      SEC.LOG_KEY.LEFT (getF t SEC.LOG_KEY.LEFT - 1))) s

/-- LOG_KEY_ROTATE's own work (R414): the new generation is current, LEFT counts the granules of the previous one. -/
def keyRotate (s : State) : State :=
  let g := genCur s
  let n := (s.evr.seals.filter (fun e => e.2.gen == g)).length
  let s1 := freeNext (setEvr { s.evr with saltPrev := s.evr.saltCur, saltCur := freeVal s % 2 ^ 256, migDone := 0, migAt := s.time.ticks } s)
  let s2 := setF (setF s1 SEC.LOG_KEY.GEN_PREV g) SEC.LOG_KEY.GEN_CUR ((g + 1) % 256)
  event 0x0E03 [(g + 1) % 256] (setF (setB s2 SEC.LOG_KEY.PREV_VALID true) SEC.LOG_KEY.LEFT n)

/-! ### The window (R385, R413) -/

/-- A per-agent control of a window: the page registers of R346 and Table 16-11. -/
def agentKey (agent off : Nat) : Nat := 2 ^ 20 * agent + off
def winCtrl (s : State) (agent : Nat) : Nat := aGet 0 s.bus.page (agentKey agent 0xD0038)

/-- The granule shown to an agent opens: it carries a live generation and its tag verifies. -/
def granOpens (s : State) (i : Nat) (tag : Bool) : Bool :=
  match aFind s.evr.seals i with
  | some x => tag && getB s SEC.STATUS.PUF_OK && (x.gen == genCur s || (prevValid s && x.gen == genPrev s))
  | none => false

/-- Word `i` of the recorder's window as an agent sees it, where the flash granule opens with verdict `tag`. -/
def evrWord (s : State) (agent i : Nat) (tag : Bool) : Nat :=
  let c := winCtrl s agent
  if bit c 4 then
    let g := bits c 16 12
    if i < 1024 ∧ granOpens s g tag then memLE s.evr.log (4096 * g + 4 * i) 4 else 0
  else
    let a := 32768 * bits c 0 3 + 4 * i
    memLE s.evr.buf a 4

/-- What a read through the window leaves: a granule that fails to open sets AUTH_BAD; an uncorrectable buffer word is reported. -/
def evrWinRead (agent i : Nat) (tag : Bool) (s : State) : State :=
  let c := winCtrl s agent
  if bit c 4 then
    let g := bits c 16 12
    if 1024 ≤ i ∨ (aFind s.evr.seals g).isNone ∨ granOpens s g tag then s
    else sendFault 0xE3 0xE30 g (setB s EVR.STATUS.AUTH_BAD true)
  else
    let a := 32768 * bits c 0 3 + 4 * i
    if 2 ≤ aGet 0 s.evr.ecc (a / 8) then bufBad (a / 8 * 8) s else s

end Sys2Proof.Machine
end

