-- ==== Sys2Proof/Machine/Collector.lean ====
section
/-! DEFINITION. The fault collector: acceptance, counting, severe sources and their actions, its self-check, HB and injection (chapter 16,
R386 to R394). -/

namespace Sys2Proof.Machine

def setFlc (f : FlcState) (s : State) : State := { s with flc := f }

/-- The safe state is entered, and the buffer is flushed (R313, Table 16-4, trigger 2). -/
def safeNow (cause : Nat) (s : State) : State :=
  if safeOn s then safeEnter cause s else flushBegin 2 (safeEnter cause s)

/-- SAFE_STATE_ENTER: STA acts on what asked for the safe state. -/
def safeDueEnter (s : State) : State := if s.sta.safeDue = 0 then s else safeNow s.sta.safeDue s

/-- The 64 bits of a fault message (Table 16-5). -/
def msgWord (src kind info seq : Nat) : Nat := src + kind * 2 ^ 12 + info * 2 ^ 20 + hintOf kind * 2 ^ 52 + seq * 2 ^ 54

/-- Is a source severe? -/
def isSevere (s : State) (src : Nat) : Bool := bit (getF s (FLC.SEVERE.SEVERE (src / 32))) (src % 32)

/-- SEVERE_COUNT and SEVERE_ANY follow the marks. -/
def severeCount (s : State) : Nat := ((List.range 128).map (fun v => popcount 32 (getF s (FLC.SEVERE.SEVERE v)))).foldl (· + ·) 0
def showSevere (s : State) : State :=
  setB (setF s FLC.STATUS.SEVERE_COUNT (severeCount s)) FLC.STATUS.SEVERE_ANY (severeCount s != 0)

/-- A kind's policy as applied (R390). -/
def policyN (s : State) (kind : Nat) : Nat := getF s (FLC.POLICY.N kind)
def policyW (s : State) (kind : Nat) : Nat := max 1 (getF s (FLC.POLICY.W kind))
def policyAct (s : State) (kind : Nat) : Nat := min 3 (getF s (FLC.POLICY.ACTION kind))

/-- What a policy's action does (R390). -/
def severeAct (action : Nat) (s : State) : State :=
  let s1 := if 1 ≤ action ∧ getB s FLC.CTRL.IRQ_EN then raiseVec (getF s FLC.CTRL.VECTOR) s else s
  let s2 := if 2 ≤ action then faultFlush s1 else s1
  if action = 3 then safeAsk 3 s2 else s2

/-- A source becomes severe (R389). -/
def makeSevere (src kind word ageMs : Nat) (s : State) : State :=
  let s1 := showSevere (setF s (FLC.SEVERE.SEVERE (src / 32)) (setBit (getF s (FLC.SEVERE.SEVERE (src / 32))) (src % 32)))
  let a := policyAct s kind
  let s2 := putRec recSevere kind (toLE 8 word ++ [a, policyN s kind] ++ toLE 2 (policyW s kind) ++ toLE 4 ageMs) s1
  severeAct a (setFlc { s2.flc with out := some (word, true) } s2)

/-- FLC_SELF_FAULT (R392): recorded directly, without classification; the safe state at once, and a flush. -/
def selfFault (info : Nat) (s : State) : State :=
  if getB s FLC.STATUS.SELF_FAULT then s
  else
    let s1 := setB (setB s FLC.STATUS.SELF_FAULT true) FLC.STATUS.HB_RUN false
    let q := aGet 0 s1.msgSeq 0xD
    let s2 := { s1 with msgSeq := aPut 0 s1.msgSeq 0xD ((q + 1) % 1024), flc := { s1.flc with expect := aPut 0 s1.flc.expect 0xD ((q + 1) % 1024) } }
    flushBegin 2 (safeEnter 2 (putRec recFault 0xD2 (toLE 8 (msgWord 0xD10 0xD2 (info % 2 ^ 32) q)) s2))

/-- Count a message against its source under its kind's policy (R389); a table word stored with inverted check bits is a self-fault when
it is next read (R392, R394). -/
def countMsg (src kind word : Nat) (s : State) : State :=
  if getB s FLC.STATUS.SELF_FAULT ∨ policyN s kind = 0 then s
  else if s.flc.bad then selfFault src s
  else
    let (s0, e) := injectAt 8 0 [] s
    let now := s.time.ticks
    let fresh := aGet 0 s.flc.count src = 0 ∨ aGet 0 s.flc.wstart src + ms (policyW s kind) ≤ now
    let c := if fresh then 1 else aGet 0 s.flc.count src + 1
    let st := if fresh then now else aGet 0 s.flc.wstart src
    let f : FlcState := { s0.flc with count := aPut 0 s0.flc.count src c, wstart := aPut 0 s0.flc.wstart src st, bad := !e.isEmpty }
    let s1 := setFlc f s0
    if policyN s kind ≤ c ∧ !isSevere s src then makeSevere src kind word ((now - st) / ms 1) s1 else s1

/-- Check MSG_SEQ and keep the message (R386, R387). -/
def takeMsg (a : Arrival) (word : Nat) (s : State) : State :=
  let g := a.code / 256
  let s1 := incF s FLC.COUNTS.ACCEPTED
  let s2 := if a.seq ≠ aGet 0 s.flc.expect g then incF s1 FLC.COUNTS.GAPS else s1
  let s3 := setFlc { s2.flc with expect := aPut 0 s2.flc.expect g ((a.seq + 1) % 1024), out := some (word, false) } s2
  let s4 := setF (setF s3 FLC.LAST_LO.MESSAGE word) FLC.LAST_HI.MESSAGE (word / 2 ^ 32)
  if hostAbsentNow s then incF s4 FW.ABSENT_COUNTS.FAULTS else s4

/-- Messages lost at the full input are reported when there is room (R397). -/
def overflowMsg (s : State) : State :=
  if s.lostMsg = 0 then s else sendFault 0xD3 0xD11 s.lostMsg { s with lostMsg := 0 }

/-- FAULT_MESSAGE: the next arrival, where it is a message, is accepted: a FAULT record, then counting and its action (R389). -/
def faultMessage (s : State) : State :=
  match s.inbox with
  | [] => s
  | a :: r =>
    if a.isRec then s
    else
      let word := msgWord a.code a.kind a.info a.seq
      let s1 := takeMsg a word (overflowMsg { s with inbox := r })
      countMsg a.code a.kind word (putRec recFault a.kind (toLE 8 word) s1)

/-- SEVERE_CLEAR (R389): the host driver's ones clear marks and counts. -/
def severeClear (agent v val : Nat) (s : State) : State :=
  if agent ≠ 0x01 then s
  else
    let old := getF s (FLC.SEVERE.SEVERE v)
    let srcs := (List.range 32).filter (fun b => bit val b)
    let s1 := setF s (FLC.SEVERE.SEVERE v) (srcs.foldl clrBit old)
    showSevere (setFlc { s1.flc with count := srcs.foldl (fun m b => aPut 0 m (32 * v + b) 0) s1.flc.count } s1)

/-- FLC_INJECT (R394): the host driver's, ignored in confidential mode. -/
def flcInject (agent val : Nat) (s : State) : State :=
  if agent ≠ 0x01 ∨ confOn s then s
  else setF (setF (setF s FLC.INJECT.CHECKER (bits val 0 4)) FLC.INJECT.BITS (bits val 8 2)) FLC.INJECT.ARM (bits val 16 1)

/-! ### HB (R393) -/

def hbTimeoutMs (s : State) : Nat := getC s FLC.CTRL.HB_TIMEOUT 10 255

/-- HB_KICK: a health report of agent 0x40. -/
def hbKick (agent : Nat) (s : State) : State :=
  if agent ≠ 0x40 then s
  else
    let s1 := setFlc { s.flc with kickAt := some s.time.ticks } s
    if safeOn s || getB s FLC.STATUS.SELF_FAULT then s1 else setB s1 FLC.STATUS.HB_RUN true

/-- HB_TIMEOUT: no report within HB_TIMEOUT. -/
def hbTimeout (s : State) : State :=
  match s.flc.kickAt with
  | some t => if t + ms (hbTimeoutMs s) ≤ s.time.ticks then setB s FLC.STATUS.HB_RUN false else s
  | none => s

/-- HB_TOGGLE: at each multiple of 500 µs HB toggles while HB_RUN is 1. -/
def hbToggle (s : State) : State :=
  if s.time.ticks % us 500 ≠ 0 ∨ s.flc.hbAt = s.time.ticks ∨ !getB s FLC.STATUS.HB_RUN ∨ !s.phc.resetN then s
  else setB (setFlc { s.flc with hbAt := s.time.ticks } s) FLC.STATUS.HB_LEVEL (!getB s FLC.STATUS.HB_LEVEL)

end Sys2Proof.Machine
end

