-- ==== Sys2Proof/Machine/Security.lean ====
section
/-! DEFINITION. Partitions, scrubs, confidential mode, the PUF and key exchange (chapter 17); rights and readouts are the bus's. -/

namespace Sys2Proof.Machine

/-! ### Partitions (R400 to R403) -/

def scrubbing (s : State) (x : Nat) : Bool := getB s (SEC.PART_STATUS.SCRUBBING x)
def unscrubbed (s : State) (x : Nat) : Bool := getB s (SEC.PART_STATUS.UNSCRUBBED x)
def tenantOf (s : State) (x : Nat) : Nat := getF s (SEC.PART_TENANT.TENANT_ID x)

/-- The map of a partition: regions, layers, ports as one number. -/
def partMap (s : State) (x : Nat) : Nat :=
  getF s (SEC.PART_MAP_LO.REGIONS x) + getF s (SEC.PART_MAP_HI.REGIONS x) * 2 ^ 32 + getF s (SEC.PART_MAP_IO.LAYERS x) * 2 ^ 64 +
    getF s (SEC.PART_MAP_IO.PORTS x) * 2 ^ 72

/-- The keys of a partition's map fields. -/
def mapKeys (x : Nat) : List Nat :=
  [(SEC.PART_MAP_LO.REGIONS x).key, (SEC.PART_MAP_HI.REGIONS x).key, (SEC.PART_MAP_IO.LAYERS x).key, (SEC.PART_MAP_IO.PORTS x).key]

/-- The map pending for a partition, given the state with the pending values in force. -/
def mapPending (s : State) (x : Nat) : Bool := (mapKeys x).any (fun k => (aFind s.pend k).isSome)

/-- Partitions whose pending map is discarded at the cut (R400): it meets another map in force or pending, or the partition is assigned or
being scrubbed. -/
def badMaps (s next : State) : List Nat :=
  parts16.filter (fun x => mapPending s x &&
    (partAssigned s x || scrubbing s x ||
      parts16.any (fun y => y != x && (Nat.land (partMap next x) (partMap s y) != 0 ||
        (mapPending s y && Nat.land (partMap next x) (partMap next y) != 0)))))

/-- The outcome of PARTITION_ASSIGN for the state of a partition (Table 17-2): status, and whether anything changes. -/
def assignCheck (s : State) (x action tenant : Nat) : Nat × Bool :=
  if scrubbing s x then (stBusy, false)
  else if action = 1 then
    if partAssigned s x then (if tenantOf s x = tenant then (stOk, false) else (stDenied, false))
    else if partMap s x = 0 then (stDenied, false)
    else if unscrubbed s x ∧ tenantOf s x ≠ tenant then (stDenied, false)
    else (stOk, true)
  else if partAssigned s x then (stOk, true) else (stOk, false)

/-- The assignment or release takes effect at its boundary (R401). -/
def assignNow (x action tenant : Nat) (s : State) : State :=
  if action = 1 then
    let s1 := setF (setB (setB s (SEC.PART_STATUS.ASSIGNED x) true) (SEC.PART_STATUS.UNSCRUBBED x) false) (SEC.PART_TENANT.TENANT_ID x) tenant
    event 0x0E02 ([x, 1, 0, 0] ++ toLE 4 tenant) s1
  else if partAssigned s x then
    event 0x0E02 ([x, 0, 0, 0] ++ toLE 4 (tenantOf s x)) (setB (setB s (SEC.PART_STATUS.ASSIGNED x) false) (SEC.PART_STATUS.UNSCRUBBED x) true)
  else s

/-- A SCRUB record (Table 16-2). -/
def scrubRec (x done : Nat) (s : State) : State := postRec 2 0xE 0 recScrub ([x, done] ++ toLE 6 s.time.step) s

def showScrub (s : State) : State := setB s SEC.STATUS.SCRUB_ANY (parts16.any (scrubbing s))

/-- A scrub begins, or ends and leaves the partition scrubbed (R402, R403). -/
def scrubBeginNow (x : Nat) (s : State) : State :=
  let s1 := showScrub (setB s (SEC.PART_STATUS.SCRUBBING x) true)
  scrubRec x 0 { s1 with sta := { s1.sta with scrubWin := true }, est := { s1.est with scrub10 := true, sg := { s1.est.sg with scrub := true } } }
def scrubEndNow (x : Nat) (s : State) : State :=
  scrubRec x 1 (showScrub (setB (setB s (SEC.PART_STATUS.SCRUBBING x) false) (SEC.PART_STATUS.UNSCRUBBED x) false))

/-! ### Confidential mode (R404 to R406) -/

/-- Is a partition assigned, being scrubbed or unscrubbed (R404)? -/
def partsLive (s : State) : Bool := parts16.any (fun x => partAssigned s x || scrubbing s x || unscrubbed s x)

/-- The locked RC fields (Table 17-4): the maxima and counts of the registers that R92, R116, R165, R184, R213, R254 name. -/
def lockedRc (locked : Nat → Bool) (s : State) : List Nat :=
  (s.regs.filter (fun e => locked e.1 && (match fieldOf e.1 with | some f => f.acc == .rc | none => false))).map (fun e => e.1)

/-- Confidential mode switches at its boundary; at its end locked RC fields are cleared and first-fault captures released (R406). -/
def confNow (locked : Nat → Bool) (release : State → State) (on : Bool) (s : State) : State :=
  let s1 := event 0x0E01 [b2n on] (setB s SEC.STATUS.CONF on)
  if on || !confOn s then s1
  else release { s1 with regs := (lockedRc locked s1).foldl (fun m k => aDel m k) s1.regs }

/-! ### PUF and key exchange (R409, R410) -/

/-- Put 96 bytes into 24 words. -/
def put96 (w : Nat → Fld) (b : List Nat) (s : State) : State :=
  (List.range 24).foldl (fun t i => setF t (w i) (ofLE ((b.drop (4 * i)).take 4))) s

/-- PUF_RECONSTRUCT: once per cold start the seed is reconstructed, or not with so many uncorrectable blocks (R409). -/
def pufReconstruct (ok : Bool) (blocks : Nat) (pub : List Nat) (s : State) : State :=
  if !s.sec.pufDue then s
  else
    let s1 : State := { s with sec := { s.sec with pufDue := false } }
    if ok then put96 SEC.ID_PUB.BYTES pub (setB s1 SEC.STATUS.PUF_OK true)
    else sendFault 0xE0 0xE00 blocks (setB s1 SEC.STATUS.PUF_OK false)

/-- KX_NEW: the host driver writes NEW; without the seed no exchange takes place (R409, R410). -/
def kxNew (agent val : Nat) (s : State) : State :=
  if agent ≠ 0x01 ∨ !bit val 0 ∨ !getB s SEC.STATUS.PUF_OK then s
  else setB { s with sec := { s.sec with kxDraw := true } } SEC.STATUS.KX_READY false

/-- KX_READY: the ephemeral public key and its signature are shown. -/
def kxReady (pub sig : List Nat) (s : State) : State :=
  if !s.sec.kxDraw then s
  else
    let s1 : State := { s with sec := { s.sec with kxDraw := false } }
    setB (put96 SEC.KX_SIG.BYTES sig (put96 SEC.KX_PUB.BYTES pub s1)) SEC.STATUS.KX_READY true

/-- A sideband key takes its slot at its step (R290, R411). -/
def sbKeyNow (ctx gen key : Nat) (s : State) : State := event 0x0E05 [ctx, gen] (keyInstall ctx gen key s)

/-- A wrapped key that does not open (R411). -/
def unwrapFail (ctx gen : Nat) (s : State) : State :=
  sendFault 0xE2 0xE20 (ctx + 256 * gen) (setB s SEC.STATUS.UNWRAP_FAIL true)

end Sys2Proof.Machine
end

