-- ==== Sys2Proof/Machine/Thermal.lean ====
section
/-! DEFINITION. The thermal manager (chapter 11): maxima, critical and rate conditions, the trip, the neighbour cross-check and the
stepping of the thermal limit. Temperatures are in 0.0625 °C. -/

namespace Sys2Proof.Machine

def setTmg (g : TmgState) (s : State) : State := { s with tmg := g }

/-- Sensor channel `8 × r + i` in the mask and in the comparators. -/
def isSuspect (s : State) (c : Nat) : Bool := bit (getF s (TMG.SUSPECT.SUSPECT (c / 32))) (c % 32)
def setSuspect (c : Nat) (b : Bool) (s : State) : State :=
  let f := TMG.SUSPECT.SUSPECT (c / 32)
  setF s f (putBit (getF s f) (c % 32) b)
def isTripped (s : State) (c : Nat) : Bool := bit (getF s (TMG.TRIPCMP.TRIPPED (c / 32))) (c % 32)
def tempOf (s : State) (c : Nat) : Int := getS s (HKS.CH.VALUE c)
def validCh (s : State) (c : Nat) : Bool := getB s (HKS.CH.VALID c)
def sensors8 (r : Nat) : List Nat := (List.range 8).map (fun i => 8 * r + i)

def thWarn (s : State) : Int := 16 * getF s TMG.THRESH.WARN
def thThrottle (s : State) : Int := 16 * getF s TMG.THRESH.THROTTLE
def thCrit (s : State) : Int := 16 * getF s TMG.THRESH.CRIT
def thHyst (s : State) : Int := 16 * getF s TMG.STEP_CTRL.HYST

/-- Regions of the 8 × 8 grid that share an edge (R256). -/
def adjacent (r : Nat) : List Nat :=
  (if 8 ≤ r then [r - 8] else []) ++ (if r % 8 ≠ 0 then [r - 1] else []) ++ (if r % 8 ≠ 7 then [r + 1] else []) ++
    (if r < 56 then [r + 8] else [])

/-- The largest of a list, where it has one. -/
def maxOf : List Int → Option Int
  | [] => none
  | x :: r => some (r.foldl max x)

/-! ### The hardware's work on a round -/

/-- Marks of the last round act now; a mark wins over a restore (R257, R258, R272). -/
def applyMarks (s : State) : State :=
  let l := s.tmg.maskNext
  let s1 := (l.filter (fun m => !m.2)).foldl (fun t m => setSuspect m.1 false t) (setTmg { s.tmg with maskNext := [] } s)
  (l.filter (fun m => m.2)).foldl (fun t m => setSuspect m.1 true t) s1

/-- The sensors a region's maximum is formed over (R259); a region whose valid sensors are all suspect has none stated. -/
def countedSensors (s : State) (r : Nat) : List Nat :=
  let v := (sensors8 r).filter (validCh s)
  if ((sensors8 r).filter (isSuspect s)).length > 2 then v else v.filter (fun c => !isSuspect s c)

def isBlind (s : State) (r : Nat) : Bool := (sensors8 r).all (fun c => !validCh s c)

/-- The maxima of the regions that are not blind; an unstated one is a free value (log entry 14). -/
def seenMax (s : State) : Assoc Int :=
  regions64.foldl (fun m r =>
    if isBlind s r then m
    else aIns m r (match maxOf ((countedSensors s r).map (tempOf s)) with | some t => t | none => sx 16 (freeVal s % 65536))) []

/-- The maximum of a blind region (R259); with every region blind it is a free value. -/
def blindMax (s : State) (m : Assoc Int) (r : Nat) : Int :=
  let add : Int := 16 * getF s TMG.XCHK_CTRL.BLIND_ADD
  match maxOf ((adjacent r).filterMap (aFind m)) with
  | some t => t + add
  | none => match maxOf (m.map (fun e => e.2)) with | some t => t + add | none => sx 16 (freeVal s % 65536)

/-- Region maxima of the round (R259). -/
def regionMax (s : State) : Assoc Int :=
  let m := seenMax s
  regions64.foldl (fun a r => aIns a r (match aFind m r with | some t => t | none => blindMax s m r)) []

/-- A maximum of the round was left open by the spec. -/
def maxOpen (s : State) : Bool :=
  regions64.all (fun r => isBlind s r) || regions64.any (fun r => !isBlind s r && (countedSensors s r).isEmpty)

/-- The region of the largest maximum, the lowest index first. -/
def hotRegion (m : Assoc Int) : Nat := m.foldl (fun a e => if aGet 0 m a < e.2 then e.1 else a) 0

/-- Onsets of blindness send their fault once (R259). -/
def blindStep (s : State) : State :=
  let b := regions64.filter (isBlind s)
  let s1 := (b.filter (fun r => !s.tmg.blind.contains r)).foldl (fun t r => sendFaultP 0 0x85 0x881 r t) s
  setB (setTmg { s1.tmg with blind := b } s1) TMG.STATUS.BLIND (!b.isEmpty)

/-- The rise of a region since the previous round (R265). -/
def riseOf (s : State) (m : Assoc Int) (r : Nat) : Option Int :=
  let one := (sensors8 r).filterMap (fun c =>
    if validCh s c && !isSuspect s c then (aFind s.tmg.prevT c).map (fun p => tempOf s c - p) else none)
  let reg := match aFind s.tmg.prevMax r with | some p => [aGet 0 m r - p] | none => []
  maxOf (one ++ reg)

/-- The rate-of-rise test of a round (R265). -/
def riseStep (m : Assoc Int) (s : State) : State :=
  let lim : Int := 2 * getC s TMG.CTRL.RISE_LIM 4 255
  let floor : Int := 16 * getF s TMG.CTRL.RISE_FLOOR
  let rises := regions64.foldl (fun a r => match riseOf s m r with | some d => aIns a r d | none => a) ([] : Assoc Int)
  let runs := rises.foldl (fun a e =>
    if lim < e.2 ∧ floor ≤ aGet 0 m e.1 then aIns a e.1 (aGet 0 s.tmg.riseRun e.1 + 1) else a) ([] : Assoc Nat)
  let on := runs.any (fun e => decide (2 ≤ e.2))
  let prev := (List.range 512).foldl (fun a c =>
    if validCh s c then (c, tempOf s c) :: a else a) ([] : Assoc Int)
  let clear := if on then 0 else min 255 (s.tmg.clearRun + 1)
  let g := s.tmg
  setB (setTmg { g with prevT := prev.reverse, prevMax := m, rise := rises, riseRun := runs, rateOn := on, rateWas := g.rateOn,
                        rateDue := on, rateBase := thermCeil s, clearRun := clear } s) TMG.STATUS.RISE (decide (clear < 10))

/-- The critical and warning tests (R260, R264). -/
def critStep (chip : Int) (hot : Nat) (s : State) : State :=
  let s1 :=
    if thCrit s ≤ chip then
      thermLower (getC s TMG.STEP_CTRL.CRIT_CEIL 60 125) 2
        (if getB s TMG.STATUS.CRIT then s else setB (sendFaultP 0 0x82 (0x840 + hot) (ux 32 chip) s) TMG.STATUS.CRIT true)
    else if chip < thCrit s - thHyst s then setB s TMG.STATUS.CRIT false else s
  if thWarn s ≤ chip then
    if getB s TMG.STATUS.WARN then s1
    else
      let t := if confOn s then 16 * fdiv chip 16 else chip
      setB (eventP 0 0x0801 (toLE 2 (ux 16 t)) s1) TMG.STATUS.WARN true
  else if chip < thWarn s - thHyst s then setB s1 TMG.STATUS.WARN false else s1

/-- Thofida's own temperature (R271): SELF_HOT at every hot round, the fault at the onset (R469). -/
def selfHotStep (s : State) : State :=
  let hot := validCh s 0x364 && decide (2000 < tempOf s 0x364)
  let s0 := if hot && !s.tmg.selfHot then sendFaultP 0 0x87 0x883 (ux 32 (tempOf s 0x364)) s else s
  let s1 := if hot then setB s0 TMG.STATUS.SELF_HOT true else s0
  if validCh s 0x364 then setTmg { s1.tmg with selfHot := hot } s1 else s1

/-- TMG_HW_ROUND: the hardware's part of a housekeeping round (Table 11-1); the round is the firmware's to work on while it runs (R270). -/
def tmgHwRound (s0 : State) : State :=
  let s := applyMarks s0
  let m := regionMax s
  let s1 := if maxOpen s then freeNext s else s
  let s2 := regions64.foldl (fun t r => setSatS t (TMG.REGION_T.MEAS r) (aGet 0 m r)) s1
  let hot := hotRegion m
  let chip := aGet 0 m hot
  let s3 := setF (setSatS s2 TMG.CHIP_T.MEAS chip) TMG.CHIP_T.HOT_REGION hot
  let s4 := selfHotStep (critStep chip hot (riseStep m (blindStep s3)))
  setTmg { s4.tmg with fwDue := compOn s 4, rose := false } s4

/-- THERMAL_RISE: the ceiling falls by 100 MHz in a round with the rate condition, from where it stood at the round's rate test, which
comes before its critical test (Table 11-1, Table 11-4); the first such round sends the fault, with the region of the largest rise among
those that meet the condition (R265). -/
def thermalRise (r : Nat) (s : State) : State :=
  let g := s.tmg
  let top := (g.rise.filter (fun e => decide (2 ≤ aGet 0 g.riseRun e.1))).foldl (fun m e => max m e.2) (aGet 0 g.rise r)
  if g.rateDue && decide (2 ≤ aGet 0 g.riseRun r) && decide (aGet 0 g.rise r = top) then
    let s1 := setTmg { g with rateDue := false } s
    let s2 := if g.rateWas then s1 else sendFaultP 0 0x83 (0x840 + r) (ux 32 (aGet 0 g.rise r)) s1
    thermLower (max 60 (g.rateBase - 10)) 3 s2
  else s

/-- The rise of the thermal ceiling decided at a cut (R266). -/
def tmgCut (s : State) : State :=
  if thermCeil s < 150 ∧ !(List.range 512).any (isTripped s) ∧ !getB s TMG.STATUS.CRIT ∧ 10 ≤ s.tmg.clearRun ∧ !s.tmg.rose then
    setTmg { s.tmg with ceilNext := some (min 150 (thermCeil s + 10)) } s
  else setTmg { s.tmg with ceilNext := none } s

/-! ### The trip (R261 to R263) -/

def trippedIn (s : State) (r : Nat) : List Nat := (List.range 8).filter (fun i => isTripped s (8 * r + i))

/-- THERMAL_TRIP: THERMTRIP_N falls, beats are held, the rails take the quick stop (R262). -/
def thermalTrip (r : Nat) (s : State) : State :=
  let mask := (trippedIn s r).foldl setBit 0
  let s1 := sendFaultP 0 0x80 (0x800 + r) mask { s with phc := { s.phc with tripLow := true } }
  let s2 := setF (setF (setB s1 TMG.TRIP.TRIPPED true) TMG.TRIP.REGION r) TMG.TRIP.SENSORS mask
  quickStop (holdBeats s2)

/-- A region has two comparators tripped. -/
def twoTripped (s : State) : Bool := regions64.any (fun q => decide (2 ≤ (trippedIn s q).length))

/-- Comparators are tripped, no two in one region: the ceiling falls to 0.60 GHz (R263). -/
def singleTrip (s : State) : State := thermLower 60 1 (setB s TMG.STATUS.TRIP_SINGLE true)

/-- TRIP_COMPARATOR: armed while any rail is not OFF (R261 to R263). -/
def tripComparator (r i : Nat) (s : State) : State :=
  let c := 8 * r + i
  if isTripped s c ∨ rails4.all (fun k => railSt s k == rsOff) then s
  else
    let f := TMG.TRIPCMP.TRIPPED (c / 32)
    let s1 := setF s f (setBit (getF s f) (c % 32))
    if 2 ≤ (trippedIn s1 r).length then setB (if getB s TMG.TRIP.TRIPPED then s1 else thermalTrip r s1) TMG.STATUS.TRIP_SINGLE false
    else if twoTripped s1 then s1
    else singleTrip (sendFaultP 0 0x81 (0x800 + r) i s1)

/-- TRIP_COMPARATOR_RELEASE (R261, R263). -/
def tripRelease (r i : Nat) (s : State) : State :=
  let c := 8 * r + i
  let f := TMG.TRIPCMP.TRIPPED (c / 32)
  let s1 := setF s f (clrBit (getF s f) (c % 32))
  if !(List.range 512).any (isTripped s1) then setB s1 TMG.STATUS.TRIP_SINGLE false
  else if twoTripped s1 then s1
  else singleTrip s1

/-! ### The firmware's work on a round -/

/-- Sensors of one class (Table 11-2). -/
def sensorClass (i : Nat) : Nat := if i < 4 then 0 else if i < 6 then 1 else if i = 6 then 2 else 3

/-- The valid, trusted neighbours of a sensor (R257). -/
def neighbours (s : State) (c : Nat) : List Nat :=
  let r := c / 8; let i := c % 8
  let own := ((List.range 8).filter (fun j => decide (j ≠ i) && sensorClass j == sensorClass i)).map (fun j => 8 * r + j)
  (own ++ (adjacent r).map (fun q => 8 * q + i)).filter (fun n => validCh s n && !isSuspect s n)

def insI (x : Int) : List Int → List Int
  | [] => [x]
  | y :: r => if x ≤ y then x :: y :: r else y :: insI x r
def sortI (l : List Int) : List Int := l.foldl (fun a x => insI x a) []

/-- Twice the median of a list (R257: the mean of the two middle values for an even number). -/
def median2 (l : List Int) : Int :=
  let q := sortI l; let n := q.length
  if n % 2 = 1 then 2 * ithI q (n / 2) else ithI q (n / 2 - 1) + ithI q (n / 2)

/-- The counts of one sensor in a round (R257). -/
def judge (s : State) (g : TmgState) (c : Nat) : TmgState :=
  let nb := neighbours s c
  if !validCh s c ∨ nb.length < 3 then g
  else
    let d := (2 * tempOf s c - median2 (nb.map (tempOf s))).natAbs
    if 32 * getC s TMG.XCHK_CTRL.XCHK_DEV 3 255 < d then
      { g with devRun := aPut 0 g.devRun c (aGet 0 g.devRun c + 1), okRun := aPut 0 g.okRun c 0, dev := aPut 0 g.dev c (d / 32) }
    else { g with devRun := aPut 0 g.devRun c 0, okRun := if isSuspect s c then aPut 0 g.okRun c (aGet 0 g.okRun c + 1) else g.okRun,
                  sensed := remN c g.sensed }

/-- The forecast of a region, or its fallback (Table 4-5): it never lies below the measured maximum. -/
def forecastOf (s : State) (r : Nat) : Int :=
  match aFind s.pxe.fcast r with | some t => max t (getS s (TMG.REGION_T.MEAS r)) | none => getS s (TMG.REGION_T.MEAS r)

/-- The decision temperature, and whether it came from slot 1 (R267). -/
def decision (s : State) : Int × Bool :=
  let chip := getS s TMG.CHIP_T.MEAS
  if getB s TMG.CTRL.FCAST_EN then
    let m := regions64.foldl (fun a r => max a (forecastOf s r)) (forecastOf s 0)
    (m, regions64.any (fun r => (aFind s.pxe.fcast r).isSome && decide (forecastOf s r = m)))
  else (chip, false)

/-- One round of the stepping (R268, R269). -/
def stepping (s : State) : State :=
  let d := decision s; let t := d.1
  let chip := getS s TMG.CHIP_T.MEAS
  let old := getF s TMG.STEP.LEVEL
  let floor := getC s TMG.STEP_CTRL.FLOOR 40 200
  let hot := decide (thThrottle s ≤ t)
  let new := if hot then max floor (old - max 1 (getF s TMG.STEP_CTRL.DOWN))
    else if t < thThrottle s - thHyst s then min 200 (old + max 1 (getF s TMG.STEP_CTRL.UP)) else old
  let cause := if chip < t then 2 else 1
  let s1 := setB (setSatS s TMG.DECISION.TEMP t) TMG.DECISION.FROM_FORECAST d.2
  let s2 := setB (setB (setF s1 TMG.STEP.LEVEL new) TMG.STEP.STEPPING (decide (new < 200))) TMG.STATUS.THROTTLE hot
  let s3 := if new < old then setF (incF s2 TMG.COUNTS.STEPS_DOWN) TMG.STEP.LAST_CAUSE cause
    else if old < new then incF s2 TMG.COUNTS.STEPS_UP else s2
  let s4 := if new = old then s3 else eventP 2 0x0802 [new, if hot then cause else 0] s3
  let lim := progLimit s 0 2 * new / 200
  let s5 := if lim = s.tmg.lastLim then s4 else pendHw 0 LGV.THERM_LIM.LIMIT lim s4
  let run := if new = floor ∧ hot then s.tmg.floorRun + 1 else 0
  setTmg { s5.tmg with lastLim := lim, floorRun := run, floorSent := s.tmg.floorSent && decide (new ≤ floor) } s5

/-- TMG_FW_ROUND: cross-check, decision temperature and stepping (R257, R267, R268). -/
def tmgFwRound (s : State) : State :=
  if !s.tmg.fwDue then s
  else
    let g := if getB s TMG.CTRL.XCHK_EN then (List.range 512).foldl (judge s) s.tmg else s.tmg
    stepping (setTmg { g with fwDue := false } s)

/-- THERMAL_FLOOR (R269). -/
def thermalFloor (s : State) : State :=
  if 10 ≤ s.tmg.floorRun ∧ !s.tmg.floorSent then
    sendFaultP 2 0x86 0x882 (ux 32 (getS s TMG.DECISION.TEMP)) (setTmg { s.tmg with floorSent := true } s)
  else s

/-- Suspect sensors of a region, those marked for the next round included. -/
def suspectsOf (s : State) (r : Nat) : Nat :=
  ((sensors8 r).filter (fun c => isSuspect s c || s.tmg.maskNext.contains (c, true))).length

/-- Mark a sensor for the next round; its counts restart. -/
def markNext (c : Nat) (b : Bool) (s : State) : State :=
  let g := s.tmg
  setTmg { g with maskNext := g.maskNext ++ [(c, b)], devRun := aPut 0 g.devRun c 0, okRun := aPut 0 g.okRun c 0 } s

/-- SENSOR_SUSPECT: marked, or as a third deviating sensor left trusted, which is told once and is marked when a place frees (R257, R258,
R469). -/
def sensorSuspect (c : Nat) (s : State) : State :=
  if !getB s TMG.CTRL.XCHK_EN ∨ isSuspect s c ∨ s.tmg.maskNext.contains (c, true) ∨
      aGet 0 s.tmg.devRun c < max 1 (getF s TMG.XCHK_CTRL.XCHK_ROUNDS) then s
  else
    let info := c + 65536 * min 255 (aGet 0 s.tmg.dev c)
    if 2 ≤ suspectsOf s (c / 8) then
      if s.tmg.sensed.contains c then s
      else sendFaultP 2 0x84 0x880 (info + 2 ^ 31) (setTmg { s.tmg with sensed := insN c s.tmg.sensed } s)
    else sendFaultP 2 0x84 0x880 info (markNext c true s)

/-- TMG_SENSOR_TRUSTED (R257). -/
def sensorTrusted (c : Nat) (s : State) : State :=
  if getB s TMG.CTRL.XCHK_EN ∧ isSuspect s c ∧ max 1 (getF s TMG.XCHK_CTRL.XCHK_CLEAR) ≤ aGet 0 s.tmg.okRun c ∧ !s.tmg.maskNext.contains (c, false) then
    eventP 2 0x0803 (toLE 2 c) (markNext c false s)
  else s

/-- SUSPECT_SET_WRITE: agent 0x41 only (R257). -/
def suspectSetWrite (agent w val : Nat) (s : State) : State :=
  if agent = 0x41 then ((List.range 32).filter (bit val)).foldl (fun t b => markNext (32 * w + b) true t) s else s

/-- SUSPECT_CLEAR_WRITE: trusted from the next round, and the counts restart, those of a sensor still trusted too (R258). -/
def suspectClearWrite (w val : Nat) (s : State) : State :=
  ((List.range 32).filter (bit val)).foldl (fun t b => markNext (32 * w + b) false t) s

/-- Thermal emergency (R271). -/
def emergency (s : State) : Bool :=
  decide (thermCeil s < 150) || decide (getF s TMG.STEP.LEVEL < 200) || getB s TMG.STATUS.CRIT || (List.range 512).any (isTripped s)

end Sys2Proof.Machine
end

