-- ==== Sys2Proof/Machine/Update.lean ====
section
/-! DEFINITION. Firmware update: images and banks, the transfer's checks, activation, hand-over, trial and fall-back (chapter 18), and the
start of the main core from the boot ROM (R328, R435). -/

namespace Sys2Proof.Machine

def setUpd (u : UpdState) (s : State) : State := { s with upd := u }

/-! ### States, images and banks (R419 to R421) -/

def updIdle : Nat := 0
def updReceiving : Nat := 1
def updStaged : Nat := 2
def updPending : Nat := 3
def updGap : Nat := 4
def updTrial : Nat := 5

def updState (s : State) : Nat := getF s UPD.STATUS.STATE
def setUpdState (x : Nat) (s : State) : State := setF s UPD.STATUS.STATE x
def kinds3 : List Nat := [0, 1, 2]
def kindLimit (k : Nat) : Nat := nth [2097152, 16384, 65536] k
/-- MAIN and KEY_MANIFEST are privileged (Table 18-1). -/
def privileged (k : Nat) : Bool := decide (k < 2)
def xferKey (k : Nat) : Nat := 16 + k

def activeBank (s : State) : Nat := getF s UPD.STATUS.ACTIVE_BANK
def idleBank (s : State) : Nat := 1 - activeBank s
def slotKey (bank k : Nat) : Nat := 3 * bank + k
def imageIn (s : State) (bank k : Nat) : Option Image := aFind s.upd.slots (slotKey bank k)
def imgId (m : Mem) : Nat := hdr m 8 4
def imgSvn (m : Mem) : Nat := hdr m 0x0C 2
def imgFmt (m : Mem) : Nat := hdr m 0x0E 2
/-- IMAGE_ID of the image of a kind in a bank, 0 for none. -/
def idIn (s : State) (bank k : Nat) : Nat := match imageIn s bank k with | some x => imgId x.bytes | none => 0
def svnIn (s : State) (bank k : Nat) : Nat := match imageIn s bank k with | some x => imgSvn x.bytes | none => 0
def fmtIn (s : State) (bank k : Nat) : Nat := match imageIn s bank k with | some x => imgFmt x.bytes | none => 0
def floorOf (s : State) (k : Nat) : Nat := getF s (UPD.SVN.FLOOR k)

/-- ACTIVE_ID, SVN and NEW_FMT show the active bank. -/
def showActive (s : State) : State :=
  let b := activeBank s
  setF (kinds3.foldl (fun t k => setF (setF t (UPD.ACTIVE_ID.IMAGE_ID k) (idIn s b k)) (UPD.SVN.SVN k) (svnIn s b k)) s)
    UPD.SETTINGS.NEW_FMT (fmtIn s b 0)

/-- STAGED_ID shows the staged images. -/
def showStaged (s : State) : State :=
  kinds3.foldl (fun t k => setF t (UPD.STAGED_ID.IMAGE_ID k) (if s.upd.staged.contains k then idIn s (idleBank s) k else 0)) s

/-- Is an image being received or checked? -/
def receiving (s : State) : Bool :=
  !s.upd.check.isEmpty || kinds3.any (fun k => match xferOf s (xferKey k) with | some x => !x.refused | none => false)

/-- STATE outside an activation: RECEIVING, STAGED or IDLE. -/
def showUpd (s : State) : State :=
  let s1 := showStaged s
  if updState s = updPending ∨ updState s = updGap ∨ updState s = updTrial then s1
  else setUpdState (if receiving s then updReceiving else if s.upd.staged.isEmpty then updIdle else updStaged) s1

/-- Erase a slot; an image there is no longer staged. -/
def eraseSlot (bank k : Nat) (s : State) : State := setUpd { s.upd with slots := aDel s.upd.slots (slotKey bank k) } s
def unstage (k : Nat) (s : State) : State := setUpd { s.upd with staged := remN k s.upd.staged } s

/-! ### Receiving (R422 to R425, Table 18-3) -/

/-- The governing manifest: the staged one, else the active one. -/
def manifest (s : State) : Option Image := imageIn s (if s.upd.staged.contains 1 then idleBank s else activeBank s) 1

/-- USAGE of a manifest entry, and the usage a kind needs. -/
def usageOf (m : Mem) (i : Nat) : Nat := hdr m (512 + 128 * i) 1
def needUsage (k : Nat) : Nat := if k = 0 then 1 else 2

def zeros (m : Mem) (a n : Nat) : Bool := (memBytes m a n).all (fun b => b == 0)

/-- The header check (details 1 to 6) given the verdicts on the root key and on the signature; none where it passes. -/
def imgHeader (k : Nat) (rootOk sigOk : Bool) (s : State) (m : Mem) : Option (Nat × Nat) :=
  let signer := hdr m 7 1
  let known := k == 1 && signer == 255 || k != 1 && signer < 16 && (match manifest s with | some x => usageOf x.bytes signer == needUsage k | none => false)
  if hdr m 0 4 ≠ 0x57465448 ∨ hdr m 4 2 ≠ 1 ∨ hdr m 6 1 ≠ k ∨ !zeros m 0x14 12 ∨ !zeros m 0x140 96 ∨
      (k ≠ 0 ∧ !(zeros m 0x0E 2 && zeros m 0x50 144)) ∨ (k ≠ 1 ∧ !zeros m 0xE0 96) then some (stBadImage, 1)
  else if kindLimit k < hdr m 0x10 4 ∨ hdr m 0x10 4 < 512 then some (stTooLarge, 2)
  else if k = 1 ∧ !rootOk then some (stBadSignature, 3)
  else if !known then some (stBadSignature, 4)
  else if !sigOk then some (stBadSignature, 5)
  else if imgSvn m < floorOf s k then some (stRollback, 6)
  else none

/-- A manifest's entries are well-formed: a known usage and zero bytes up to the key (R421). -/
def entriesOk (m : Mem) (len : Nat) : Bool :=
  decide (2560 ≤ len) && (List.range 16).all (fun i => decide (usageOf m i ≤ 2) && zeros m (513 + 128 * i) 31)

/-- An update image as a target of a transfer: its header passes and its slot is erased; it is whole and the full check begins. A BOARD_INFO
whose IMAGE_LEN no image can have is never complete, and is refused when its header is (DESIGN CHOICE, log entry 112). -/
def imgTarget (k : Nat) (rootOk sigOk : Bool) : Target where
  head := 512
  lenOf m := hdr m 0x10 4
  check s m :=
    if privileged k || decide (kindLimit k < hdr m 0x10 4) || decide (hdr m 0x10 4 < 512) then imgHeader k rootOk sigOk s m else none
  pass _ s := eraseSlot (idleBank s) k s
  fail _ s := s
  whole m s :=
    let im : Image := { bytes := m, len := hdr m 0x10 4 }
    (setUpd { s.upd with slots := aIns s.upd.slots (slotKey (idleBank s) k) im, check := s.upd.check ++ [(k, 0)] } s, accepted)
  abandon s := eraseSlot (idleBank s) k s
  lost s := s

/-- A full check of a kind that waits or runs is given up: the slot is erased and the last block's packet completes with a status. -/
def dropCheck (k st : Nat) (s : State) : State :=
  let l := s.upd.check.filter (fun e => e.1 == k)
  if l.isEmpty then s
  else
    l.foldl (fun t e => match pktGet t e.2 with | some p => pktComplete p st 0 0 t | none => t)
      (eraseSlot (idleBank s) k (setUpd { s.upd with check := s.upd.check.filter (fun e => e.1 != k) } s))

/-- A block of an update image whose CRC is right (R365, R422, R425). A new transfer of a kind ends its staged state, and the full check of
an earlier image of it, whose last block completes with S_PARTIAL (R424; log entry 104). -/
def updBlock (k off : Nat) (rootOk sigOk : Bool) (data : List Nat) (s : State) : State × Verdict × List (Nat × Nat) :=
  let fresh := off == 0 || (xferOf s (xferKey k)).isNone
  if fresh && (updState s == updPending || updState s == updGap || updState s == updTrial) then
    (s, refusedWith stBusy 0 0, [])
  else if fresh && privileged k && (off != 0 || decide (data.length < 512)) then (s, refusedWith stBadParam 0 0, [])
  else
    let s0 := if off = 0 then unstage k (if privileged k then dropCheck k stPartial s else eraseSlot (idleBank s) k (dropCheck k stPartial s)) else s
    let r := takeBlock (xferKey k) (imgTarget k rootOk sigOk) off data s0
    (showUpd r.1, r.2)

/-- The verdict of the full check (R423): header checks of a BOARD_INFO, digest, content, flash. -/
def fullVerdict (s : State) (k : Nat) (im : Image) (sig digest content flash : Bool) : Option (Nat × Nat) :=
  match (if privileged k then none else imgHeader k true sig s im.bytes) with
  | some v => some v
  | none =>
    if !digest then some (stBadImage, 7)
    else if !content || (k == 1 && !entriesOk im.bytes im.len) then some (stBadImage, 8)
    else if !flash then some (stBadImage, 9)
    else none

/-- UPD_FULL_CHECK_DONE: the image is staged, or its slot is left erased; the last block's packet completes with the verdict. -/
def fullCheckDone (sig digest content flash : Bool) (off : Nat) (s : State) : State :=
  match s.upd.check with
  | [] => s
  | (k, id) :: rest =>
    match imageIn s (idleBank s) k with
    | none => showUpd (setUpd { s.upd with check := rest } s)
    | some im =>
      let s0 := setUpd { s.upd with check := rest, buf := im.bytes, verified := none } s
      let reply := fun (v : Verdict) (t : State) => match pktGet t id with
        | some p => pktComplete p v.status v.applied ((if v.applied = 0 then p.detail else im.len) + 2 ^ 32 * v.detail) t
        | none => t
      match fullVerdict s k im sig digest content flash with
      | none =>
        let s1 := setUpd { s0.upd with staged := insN k s0.upd.staged, verified := some (imgId im.bytes) } s0
        reply accepted (showUpd (event 0x0E40 ([k, 0, 0, 0] ++ toLE 4 (imgId im.bytes)) s1))
      | some (st, d) =>
        let s1 := eraseSlot (idleBank s) k s0
        let s2 := if d = 9 then sendFault 0xEC 0xE84 off s1 else s1
        reply (refusedWith st d 0) (showUpd s2)

/-- Unfinished update transfers end and their slots are erased; packets waiting for a check complete with a status. -/
def endTransfers (st : Nat) (s : State) : State :=
  let live := kinds3.filter (fun k => match xferOf s (xferKey k) with | some x => !x.refused | none => false)
  let s1 := kinds3.foldl (fun t k => endXfer (xferKey k) t) (live.foldl (fun t k => eraseSlot (idleBank s) k t) s)
  kinds3.foldl (fun t k => dropCheck k st t) s1

/-! ### Activation (R426 to R429) -/

/-- A power or thermal emergency (R427). -/
def actEmergency (s : State) : Bool :=
  emergency s || getB s LGV.STATUS.PROT_ACTIVE || !s.phc.pwrFailN || (seqState s != sqIdle && seqState s != sqUp)

/-- The self-check (R433): all eight components RUNNING and within their deadlines. -/
def selfCheck (s : State) : Bool := (List.range 8).all (fun c => compOn s c && !overdue s c)

/-- As time passes: the last instants at which an emergency held and the self-check did not. -/
def updWatch (s : State) : State :=
  let u := s.upd
  setUpd { u with emergAt := if actEmergency s then some s.time.ticks else u.emergAt,
                  selfBad := if selfCheck s then u.selfBad else s.time.ticks } s

def actTime (s : State) : Nat := getW s UPD.ACT_TIME_LO.TIME UPD.ACT_TIME_HI.TIME
/-- The activation lies at most `ns` ahead: by system time, or by the local time base where T was zero. -/
def actWithin (s : State) (ns : Nat) : Bool :=
  if s.upd.actTick ≠ 0 then decide (s.upd.actTick ≤ s.time.ticks + ns / 10) else decide (actTime s ≤ s.time.sys + ns)

/-- UPDATE_ACTIVATE's checks and its acceptance (R426): the status, or none where it is accepted and stays outstanding. -/
def activateCheck (t mask : Nat) (s : State) : Option Nat :=
  let now := s.time.sys
  if t = 0 ∧ mask ≠ 1 then some stBadParam
  else if !bit mask 0 ∨ (t ≠ 0 ∧ (t < now + 10000000 ∨ now + 600000000000 < t)) then some stBadParam
  else if t ≠ 0 ∧ !sysOk s then some stNotReady
  else if updState s = updPending ∨ updState s = updGap ∨ updState s = updTrial then (if s.upd.staged.isEmpty then some stNotReady else some stBusy)
  else if s.upd.staged.isEmpty then some stNotReady
  else none

def activateAccept (t mask : Nat) (s : State) : State :=
  let act := if t = 0 then s.time.sys + 10000000 else t
  let s1 := setW (setF (setF s UPD.ACT_GROUP.MASK mask) UPD.ACT_GROUP.DEFER_SEEN 0) UPD.ACT_TIME_LO.TIME UPD.ACT_TIME_HI.TIME act
  let tick := if t = 0 then s.time.ticks + ms 10 else 0
  let s2 := setUpd { s1.upd with reqT := act, actTick := tick, decided := false, deferOut := false } (setF s1 UPD.STATUS.DEFERRALS 0)
  event 0x0E41 (toLE 8 act ++ toLE 2 mask) (setUpdState updPending s2)

/-- ACT_DECISION: at D = T − 200 µs steady state decides ACT_DEFER[0] (R427, R428). -/
def actDecide (s : State) : State :=
  if updState s ≠ updPending ∨ s.upd.decided ∨ !actWithin s 200000 then s
  else
    let calm := !actEmergency s && (match s.upd.emergAt with | some t => decide (t + ms 10 ≤ s.time.ticks) | none => true)
    setUpd { s.upd with decided := true, deferOut := !calm } s

/-- Swap the slots of some kinds between the banks. -/
def swapSlots (l : List Nat) (s : State) : State :=
  l.foldl (fun t k =>
    let a := slotKey 0 k; let b := slotKey 1 k
    let put := fun (key : Nat) (x : Option Image) (m : Assoc Image) => match x with | some v => aIns m key v | none => aDel m key
    setUpd { t.upd with slots := put a (aFind t.upd.slots b) (put b (aFind t.upd.slots a) t.upd.slots) } t) s

/-- The staged images become active (R429, R430): with MAIN the banks change roles and the kinds not staged stay with the active bank;
without MAIN the staged kinds change places (log entry 23). -/
def makeActive (s : State) : State :=
  let l := s.upd.staged
  let s0 := endTransfers stAborted s
  let b := activeBank s
  let s1 := if l.contains 0 then swapSlots (kinds3.filter (fun k => !l.contains k)) (setF s0 UPD.STATUS.ACTIVE_BANK (1 - b))
    else swapSlots l s0
  showActive (showStaged (setUpd { s1.upd with acted := l, staged := [], trial := true, oldBank := b, deferOut := false } s1))

/-- The activation packet completes (R429). -/
def activateAnswer (s : State) : State :=
  (s.cmd.pkts.filter (fun p => p.op == 0x31)).foldl
    (fun t p => pktComplete p (if actTime s = s.upd.reqT then stOk else stDeferred) 1 (actTime s) t) s

/-- The trial begins. -/
def trialStart (s : State) : State :=
  setUpdState updTrial (setUpd { s.upd with trialAt := s.time.ticks, selfBad := s.time.ticks } s)

/-- The settings copies when the formats differ (R437). -/
def dualSettings (old : Nat) (s : State) : State :=
  let new := fmtIn s (activeBank s) 0
  if old = new then s else setF (setB s UPD.STATUS.DUAL_SETTINGS true) UPD.SETTINGS.OLD_FMT old

/-- The old image's part of the gap: the gate is closed, the components stop and the cores are halted (Table 18-4). -/
def gapHalt (s : State) : State :=
  [0, 1, 2, 3].foldl (fun t k => setCore k crHeld t) (setComps (List.range 8) coStopped (gateClose 0x40 s))

/-- ACT_SLOT: at T the lines are read; the activation proceeds or moves on (R428); a hand-over's gap begins, the old image writing its
caravan record (R430, R431). `lines` are ACT_DEFER[15:1] as other members drive them. -/
def actSlot (lines : Nat) (caravan : List Nat) (s : State) : State :=
  if updState s ≠ updPending ∨ !actWithin s 0 then s
  else
    let s0 := actDecide s
    let seen := Nat.land (getF s0 UPD.ACT_GROUP.MASK) (lines / 2 * 2 + b2n s0.upd.deferOut)
    let s1 := setUpd { s0.upd with deferOut := false } (setF s0 UPD.ACT_GROUP.DEFER_SEEN seen)
    if seen ≠ 0 then
      let slot := 1000000 * getC s UPD.CTRL.ACT_SLOT_MS 10 255
      let t := actTime s + slot
      let s2 := incF (setW s1 UPD.ACT_TIME_LO.TIME UPD.ACT_TIME_HI.TIME t) UPD.STATUS.DEFERRALS
      let s3 := setUpd { s2.upd with decided := false, actTick := if s.upd.actTick = 0 then 0 else s.upd.actTick + slot / 10 } s2
      let s4 := event 0x0E42 (toLE 2 seen ++ List.replicate 6 0 ++ toLE 8 t) s3
      if bit seen 0 then sendFault 0xE8 0xE80 (t / 1000) s4 else s4
    else if s1.upd.staged.contains 0 then
      let old := fmtIn s1 (activeBank s1) 0
      let id := getF s1 FW.IMAGE.IMAGE_ID
      let s2 := dualSettings old (makeActive s1)
      let s3 := setUpd { s2.upd with gapAt := s.time.ticks, oldId := id, caravan := caravan.take 65536 } s2
      let s4 := gapHalt (wdtStop (setF (setUpdState updGap s3) FW.STATUS.RUN_STATE runGap))
      setF s4 UPD.GAP.CARAVAN_LEN (cdiv caravan.length 64)
    else trialStart (activateAnswer (makeActive s1))

/-! ### Fall-back (R434, R435, R437) -/

/-- The bank record returns to the old bank; the new images stay in the other bank, not staged. -/
def restoreBank (s : State) : State :=
  let l := s.upd.acted
  let s1 := if l.contains 0 then swapSlots (kinds3.filter (fun k => !l.contains k)) (setF s UPD.STATUS.ACTIVE_BANK s.upd.oldBank)
    else swapSlots l s
  let s2 := setF (setB s1 UPD.STATUS.DUAL_SETTINGS false) UPD.SETTINGS.OLD_FMT 0
  showActive (setUpd { s2.upd with trial := false, acted := [] } s2)

/-- FALLBACK with its cause, the fault and the event. -/
def fallBackMark (cause abandoned : Nat) (s : State) : State :=
  let s1 := setF (setB s UPD.STATUS.FALLBACK true) UPD.STATUS.FALLBACK_CAUSE cause
  let s2 := sendFault 0xE9 0xE81 (cause + 256 * (abandoned % 2 ^ 24)) s1
  event 0x0E45 ([cause, 0, 0, 0] ++ toLE 4 (idIn s2 (activeBank s2) 0)) s2

/-- The identity of the image on trial: MAIN's, or the first activated kind's. -/
def trialId (s : State) : Nat := idIn s (activeBank s) (s.upd.acted.head?.getD 0)

/-- The main core goes back to the boot ROM without a restart being counted: every component rebuilds from registers. -/
def romStart (s : State) : State :=
  setF (setComps (List.range 8) coRestarting (setCore 3 crHeld (setCore 2 crHeld (setCore 1 crHeld (setCore 0 crLoading (wdtStop s))))))
    FW.STATUS.RUN_STATE runBoot

/-- Thofida falls back during TRIAL (R434). -/
def fallBack (cause : Nat) (s : State) : State :=
  if updState s ≠ updTrial then s
  else
    let id := trialId s
    showUpd (setUpdState updIdle (fallBackMark cause id (romStart (gateDiscard (restoreBank s)))))

/-- TRIAL_EXPIRY (R433, R434). -/
def trialMs (s : State) : Nat := 1000 * getC s UPD.CTRL.CONFIRM_S 10 255
def trialExpiry (s : State) : State :=
  if updState s = updTrial ∧ s.upd.trialAt + ms (trialMs s) ≤ s.time.ticks then fallBack 1 s else s

/-- Seconds left in the trial (Table 18-10). -/
def confirmLeft (s : State) : Nat :=
  if updState s ≠ updTrial then 0 else cdiv (s.upd.trialAt + ms (trialMs s) - s.time.ticks) (ms 1000)

/-- A failure of the firmware: during TRIAL a restart is not counted and Thofida falls back with cause 2 (R434, R438). -/
def trialGuard (f : State → State) (s : State) : State :=
  let t := f s
  if updState s ≠ updTrial ∨ t.fw.restarts = s.fw.restarts then t
  else
    let t1 := setFw { t.fw with restarts := s.fw.restarts, limitDue := s.fw.limitDue } t
    fallBack 2 (setF t1 FW.STATUS.RESTARTS (getF s FW.STATUS.RESTARTS))

/-! ### Confirmation and abort (R433, R438) -/

/-- The trial ends confirmed. -/
def confirm (s : State) : State :=
  let b := activeBank s
  let id := trialId s
  let svn := svnIn s b (s.upd.acted.head?.getD 0)
  let s1 := s.upd.acted.foldl (fun t k => setF t (UPD.SVN.FLOOR k) (max (floorOf t k) (svnIn s b k))) s
  let s2 := setF (setB s1 UPD.STATUS.DUAL_SETTINGS false) UPD.SETTINGS.OLD_FMT 0
  let s3 := setUpd { s2.upd with trial := false, acted := [] } s2
  showUpd (setUpdState updIdle (event 0x0E44 (toLE 4 id ++ toLE 2 svn) s3))

/-- UPDATE_CONFIRM's status. -/
def confirmCheck (s : State) : Nat :=
  if updState s ≠ updTrial then stNotReady else if !selfCheck s then stBusy else stOk

/-- AUTO_CONFIRM: the self-check has held for 10 s. -/
def autoConfirm (s : State) : State :=
  if updState s = updTrial ∧ getB s UPD.CTRL.AUTO_CONFIRM ∧ selfCheck s ∧ s.upd.selfBad + ms 10000 ≤ s.time.ticks then confirm s else s

/-- UPDATE_ABORT: what it ended (1 a transfer, 2 a pending activation, 3 a trial), 0 for nothing. -/
def updAbort (s : State) : State × Nat :=
  let ev := fun (n : Nat) (t : State) => event 0x0E46 [n] t
  if receiving s then (showUpd (ev 1 (endTransfers stAborted s)), 1)
  else if updState s = updPending then
    let s1 := (s.cmd.pkts.filter (fun p => p.op == 0x31)).foldl (fun t p => pktComplete p stAborted 0 0 t) s
    let s2 := setUpd { s1.upd with staged := [], deferOut := false, decided := false } s1
    (showUpd (setUpdState updIdle (ev 2 s2)), 2)
  else if updState s = updTrial then (fallBack 3 (ev 3 s), 3)
  else (s, 0)

/-! ### The end of the gap (R430 to R432) -/

/-- The header of a caravan record is right: MAGIC, and CRC-32C over the whole record with its own bytes zero (R431). -/
def caravanOk (b : List Nat) : Bool :=
  decide (32 ≤ b.length) && ofLE (b.take 4) == 0x56524143 && ofLE ((b.drop 8).take 4) == b.length &&
    ofLE ((b.drop 16).take 4) == crc32c (b.take 16 ++ [0, 0, 0, 0] ++ b.drop 20)

/-- Component and format of the sections, `n` at most, from a list of bytes. -/
def sections : Nat → List Nat → List (Nat × Nat)
  | 0, _ => []
  | n + 1, b =>
    if b.length < 8 then []
    else (nth b 0, ofLE ((b.drop 2).take 2)) :: sections n (b.drop (8 + 8 * cdiv (ofLE ((b.drop 4).take 4)) 8))

/-- Components whose section the new image adopts, given the formats it declares. -/
def adoptedMask (b : List Nat) (decl : List (Nat × Nat)) : Nat :=
  if !caravanOk b then 0
  else (sections (ofLE ((b.drop 6).take 2)) (b.drop 32)).foldl (fun m x => if x.1 < 8 ∧ decl.contains x then setBit m x.1 else m) 0

/-- The firmware of the active bank starts: cores with their protection regions, components, RUN_STATE (R322, R324, R328). -/
def fwStart (helpers : Nat) (comps : List Nat) (s : State) : State :=
  let loaded := if helpers = crRunning then [0, 1, 2, 3] else [0]
  let s0 := loaded.foldl (fun t k => mpuLoad (idIn t (activeBank t) 0) k (incF t (FW.CORE_STATUS.LOADS k))) s
  let s1 := [1, 2, 3].foldl (fun t k => setCore k helpers t) (setCore 0 crRunning s0)
  let s2 := setF (startComps comps s1) FW.STATUS.RUN_STATE (if safeOn s then runSafe else runRunning)
  let s3 := setF (setFw { s2.fw with logFirst := true } s2) FW.IMAGE.IMAGE_ID (idIn s2 (activeBank s2) 0)
  if s3.fw.absentOwed then absentActions s3 else s3

/-- A bank passes: it holds a MAIN and a KEY_MANIFEST, their full check passes, no SVN lies below its counter. -/
def bankPasses (s : State) (bank : Nat) (ok : Bool) : Bool :=
  ok && [0, 1].all (fun k => (imageIn s bank k).isSome && decide (floorOf s k ≤ svnIn s bank k))

/-- The verdict of the full check on a bank. -/
def bankOk (ok0 ok1 : Bool) (b : Nat) : Bool := if b = 0 then ok0 else ok1

/-- The active bank does not pass: the fault, and the other bank with cause 5 where that one passes (R435); images that were on trial go back
with MAIN (R434). -/
def passOver (ok0 ok1 : Bool) (detail : Nat) (s : State) : State × Bool :=
  let b := activeBank s
  let s1 := sendFault 0xEA 0xE82 (b + 256 * detail) s
  let s2 := if s1.upd.trial then restoreBank s1 else setF s1 UPD.STATUS.ACTIVE_BANK (1 - b)
  if bankPasses s2 (activeBank s2) (bankOk ok0 ok1 (activeBank s2)) then
    let s3 := setUpd { s2.upd with trial := false, acted := [] } (setF (setB s2 UPD.STATUS.FALLBACK true) UPD.STATUS.FALLBACK_CAUSE 5)
    (showUpd (showActive (if updState s3 = updTrial ∨ updState s3 = updGap then setUpdState updIdle s3 else s3)), true)
  else (s1, false)

/-- The boot ROM in the gap: an image buffer VERIFIED for the active bank's MAIN needs no further check; else a full check from flash
decides as at any start (Table 18-4, R430, R435). -/
def gapBoot (ok0 ok1 : Bool) (detail : Nat) (s : State) : State × Bool :=
  let b := activeBank s
  if s.upd.verified = some (idIn s b 0) ∨ bankPasses s b (bankOk ok0 ok1 b) then (s, true) else passOver ok0 ok1 detail s

/-- What the components carry over: one that adopts its section keeps its live state, the others rebuild from registers (R431, R432). -/
def carryOver (adopted : Nat) (was s : State) : State :=
  let s1 := if bit adopted 4 then
      { s with tmg := { s.tmg with floorRun := was.tmg.floorRun, devRun := was.tmg.devRun, okRun := was.tmg.okRun, dev := was.tmg.dev } }
    else s
  if bit adopted 5 then s1 else abandonRounds s1

/-- UPD_HANDOVER: the gap ends (Table 18-4). Where the other bank has to be booted the new images are not
active, and the activation packet completes with S_PARTIAL (log entry 105). -/
def handover (image : NewImage) (was : State) : State :=
  let boot := gapBoot image.ok0 image.ok1 image.detail was
  let s := boot.1
  if updState was ≠ updGap then was
  else if !boot.2 then setF (setCore 0 crFailed s) FW.STATUS.RUN_STATE runBoot
  else
    let b := s.upd.caravan
    let ad := adoptedMask b image.decl
    let gap := (s.time.ticks - s.upd.gapAt) / us 1
    let s1 := if caravanOk b then s else sendFault 0xEB 0xE83 b.length s
    let s2 := setF (setF (setF s1 UPD.CARAVAN.ADOPTED ad) UPD.CARAVAN.REBUILT (255 - ad)) UPD.CARAVAN.FORMAT (ofLE ((b.drop 4).take 2))
    let s4 := setSat (fwStart crRunning (List.range 8) (incGeneration s2)) UPD.GAP.LAST_GAP gap
    let s5 := carryOver ad was s4
    if updState s = updGap then
      activateAnswer (event 0x0E43 (toLE 4 s.upd.oldId ++ toLE 4 (getF s5 FW.IMAGE.IMAGE_ID) ++ toLE 2 gap) (trialStart s5))
    else (s5.cmd.pkts.filter (fun p => p.op == 0x31)).foldl (fun t p => pktComplete p stPartial 0 (actTime t) t) s5

/-! ### The start of the main core (R328, R435) -/

/-- What flash holds where this model has seen nothing written: images by 3 × bank + kind. -/
def findImages (found : List (Nat × List Nat)) (s : State) : State :=
  found.foldl (fun t e =>
    if (aFind t.upd.slots e.1).isSome then t
    else setUpd { t.upd with slots := aIns t.upd.slots e.1 { bytes := memPut [] 0 e.2, len := e.2.length } } t) s

/-- The boot ROM reads the bank record (R435): after a cold start or a module reset with TRIAL set it returns to the old bank; a bank that
does not pass is passed over. The state, and whether an image runs. -/
def bootBank (ok0 ok1 : Bool) (detail : Nat) (s : State) : State × Bool :=
  let s1 := if s.upd.trial && updState s != updTrial then
      let id := trialId s
      fallBackMark 4 id (restoreBank s)
    else s
  let b := activeBank s1
  if bankPasses s1 b (bankOk ok0 ok1 b) then (showActive s1, true) else passOver ok0 ok1 detail s1

/-- MAIN_CORE_START. -/
def mainStart (found : List (Nat × List Nat)) (ok0 ok1 : Bool) (detail : Nat) (s : State) : State :=
  if runState s ≠ runBoot ∨ coreState s 0 = crRunning ∨ coreState s 0 = crFailed ∨ !s.phc.resetN then s
  else
    let r := bootBank ok0 ok1 detail (restoreStaged (findImages found s))
    if !r.2 then setCore 0 crFailed r.1
    else
      let s1 := if r.1.fw.genSet then setFw { r.1.fw with genSet := false } r.1 else incGeneration r.1
      fwStart crLoading (compsOf 0) (setComps (List.range 8) coRestarting s1)

end Sys2Proof.Machine
end

