-- ==== Sys2Proof/Machine/Pmbus.lean ====
section
/-! DEFINITION. The PMBus interface: reply table, readout encodings, status bits, ALERT_N and the commands of Table 19-6 (chapter 19). -/

namespace Sys2Proof.Machine

def setPmb (p : PmbState) (s : State) : State := { s with pmb := p }
def pageOf (s : State) (m : Nat) : Nat := aGet 0 s.pmb.page m
def replyWith (b : List Nat) (s : State) : State := setPmb { s.pmb with reply := b } s

/-! ### Encodings (R458) -/

/-- num / den rounded to nearest, ties to even. -/
def nearEven (num : Int) (den : Nat) : Int :=
  let q := num / (den : Int); let r := 2 * (num % (den : Int))
  if (den : Int) < r ∨ (r = den ∧ q % 2 ≠ 0) then q + 1 else q

/-- Y of LINEAR11 for exponent `j` − 16. -/
def lin11Y (num : Int) (den j : Nat) : Int := if j < 16 then nearEven (num * 2 ^ (16 - j)) den else nearEven num (den * 2 ^ (j - 16))

/-- LINEAR11 of a fraction: the smallest exponent whose Y fits. -/
def lin11 (num : Int) (den : Nat) : Nat :=
  if num = 0 then 0
  else
    match (List.range 32).find? (fun j => decide (-1024 ≤ lin11Y num den j) && decide (lin11Y num den j ≤ 1023)) with
    | some j => (j + 16) % 32 * 2048 + ux 11 (lin11Y num den j)
    | none => 15 * 2048 + ux 11 (clampI (-1024) 1023 (lin11Y num den 31))

/-- The nearest multiple of `m` W of num / den W; half-way rounds up (R407). -/
def nearestW (num den m : Nat) : Nat := (2 * num + m * den) / (2 * m * den) * m

/-! ### The reply table (R456, R458, Table 17-5) -/

/-- A readout as the table keeps it, per column: 0 as measured, 1 the confidential column, 2 the scrub column. -/
def column (s : State) : Nat := if scrubOn s then 2 else if confOn s then 1 else 0

/-- Temperatures are rounded down to 1 °C in the coarse columns. -/
def tempWord (col : Nat) (t : Int) : Nat := if col = 0 then lin11 t 16 else lin11 (t / 16) 1

/-- The hottest valid stage of a rail. -/
def hottest (s : State) (k : Nat) : Option Int :=
  maxOf (((List.range (railPhases k)).map (fun i => 0x300 + railFirst k + i)).filterMap (fun c => if validCh s c then some (tempOf s c) else none))

/-- Chip power and input power of a column, in W: num and den. -/
def chipWord (s : State) (col : Nat) : Nat :=
  match col with | 0 => lin11 s.est.p1mean 32000 | 1 => lin11 (nearestW s.est.p10mean 32000 25) 1 | _ => lin11 (nearestW s.est.p100mean 32000 50) 1
def pinWord (s : State) (col : Nat) : Nat :=
  match col with
  | 0 => lin11 s.sns.pinMean 800000
  | 1 => lin11 (nearestW s.est.pin10mean 800000 25) 1
  | _ => lin11 (nearestW s.est.pin100mean 800000 50) 1

/-- Energy in mJ, rounded down; in the coarse columns latched and in whole joules. -/
def energyMj (s : State) (col : Nat) : Nat :=
  match col with | 0 => s.est.energy / 1000 | 1 => s.est.p10e / 1000000 * 1000 | _ => s.est.p100e / 1000000 * 1000

/-- One entry of the reply table: command code, page, column. -/
def readout (s : State) (code page col : Nat) : Nat :=
  match code with
  | 0x88 => lin11 s.sns.bvMean 50
  | 0x89 => if col = 0 then lin11 (2 * s.sns.biMean) 125 else 0
  | 0x8B => aGet 0 s.sns.vMean page * 4096 / 4000  -- ULINEAR16, rounded down (DESIGN CHOICE, log entry 108)
  | 0x8C => if col = 0 then lin11 (aGet 0 s.sns.iMean page) 8 else 0
  | 0x8D => if page = 4 then tempWord col (getS s TMG.CHIP_T.MEAS)
            else match hottest s page with | some t => tempWord col t | none => freeVal s % 65536
  | 0x8E => tempWord col (tempOf s 0x362)
  | 0x8F => tempWord col (tempOf s 0x364)
  | 0x96 => if page = 4 then chipWord s col else if col = 0 then lin11 (aGet 0 s.est.railPMean page) 32000 else 0
  | 0x97 => pinWord s col
  | _ => energyMj s col

def tableKey (code page col : Nat) : Nat := 8 * (code + 256 * col) + page

/-- The commands and pages of the reply table (Table 19-6). -/
def tableRows : List (Nat × Nat) :=
  [(0x88, 4), (0x89, 4), (0x8E, 4), (0x8F, 4), (0x97, 4), (0xD0, 4), (0x8D, 4), (0x96, 4)] ++
    rails4.flatMap (fun k => [(0x8B, k), (0x8C, k), (0x8D, k), (0x96, k)])

def tableFill (s : State) : Assoc Nat :=
  tableRows.foldl (fun m r => [0, 1, 2].foldl (fun m c => aPut 0 m (tableKey r.1 r.2 c) (readout s r.1 r.2 c)) m) []

/-! ### Status (R459, Table 19-7) -/

def latOf (s : State) (i : Nat) : Nat := aGet 0 s.pmb.lat i
def latVout (k : Nat) : Nat := k
def latIout (p : Nat) : Nat := 8 + p
def latInput : Nat := 16
def latTemp : Nat := 17
def latCml : Nat := 18

/-- Latch a bit; ALERT_N is asserted when it sets. -/
def latch (i b : Nat) (c : Bool) (s : State) : State :=
  if !c ∨ bit (latOf s i) b then s
  else setPmb { s.pmb with lat := aPut 0 s.pmb.lat i (setBit (latOf s i) b), alert := true } s

/-- A word waits in a mailbox whose receiver is the BMC bridge (R455). -/
def bmcMail (s : State) : Bool :=
  (List.range 32).any (fun m => mbxMode s m != 0 && getB s (MBX.STATUS.FULL m) && mbxReceiver s m == 0x02)

/-- MAILBOX, SAFE and HB_STOPPED. -/
def liveNow (s : State) : Nat := b2n (bmcMail s) + 2 * b2n (safeOn s) + 4 * b2n (!getB s FLC.STATUS.HB_RUN)

/-- ALERT_N is asserted when one of them becomes 1. -/
def pmbWatch (s : State) : State :=
  let n := liveNow s
  let rose := [0, 1, 2].any (fun b => bit n b && !bit s.pmb.live b)
  if n = s.pmb.live then s else setPmb { s.pmb with live := n, alert := s.pmb.alert || rose } s

/-- The latched bits' conditions, as a refresh finds them. -/
def latchAll (s : State) : State :=
  let bv := getF s SNS.BUS_V.VOLTAGE
  let latched := fun k => railSt s k == rsLatch
  let cause := fun k => getF s (PHC.RAIL_SEQ.CAUSE k)
  let unmet := fun k => [0, 1, 2].any (fun w => s.lgv.unmet.contains (3 * k + w))
  let prot := fun k => [0, 1, 2].any (fun w => (aFind s.lgv.holdOff (3 * k + w)).isSome)
  let s1 := rails4.foldl (fun t k =>
    latch (latIout k) 5 (prot k) (latch (latIout k) 7 (unmet k)
      (latch (latVout k) 4 (latched k && [1, 2, 5].contains (cause k)) (latch (latVout k) 7 (latched k && cause k == 4) t)))) s
  let s2 := latch (latIout 4) 0 (getF s LGV.STATUS.CAP_STATE != 0) (latch (latIout 4) 1 (s.lgv.unmet.any (fun c => decide (12 ≤ c))) s1)
  let s3 := latch latInput 4 (!s.phc.pwrFailN) (latch latInput 5 (s.sns.busSent && decide (bv < 2300))
    (latch latInput 7 (s.sns.busSent && decide (2900 < bv)) s2))
  latch latTemp 6 (getB s TMG.STATUS.WARN) (latch latTemp 7 (getB s TMG.TRIP.TRIPPED || getB s TMG.STATUS.CRIT) s3)

/-- PMBUS_TABLE_REFRESH: the telemetry helper fills the table and the latched bits follow; a free value stands for the hottest stage of a
rail with no valid stage (log entry 2). During the gap, a main-core restart and host absence the table keeps its values (R460). -/
def tableRefresh (s : State) : State :=
  if !compOn s 7 ∨ hostAbsentNow s then s
  else
    let t := freeNext s
    latchAll (setPmb { t.pmb with table := tableFill s, tableAt := s.time.ticks } t)

/-- STATUS_MFR_SPECIFIC. -/
def mfrByte (s : State) : Nat :=
  b2n (scrubOn s) + 2 * b2n (bmcMail s) + 4 * b2n (safeOn s) + 8 * b2n (decide (s.pmb.tableAt + ms 5 ≤ s.time.ticks)) +
    16 * b2n (!getB s FLC.STATUS.HB_RUN) + 32 * b2n (updState s == updTrial) + 128 * b2n (confOn s)

/-- STATUS_WORD of a page. -/
def statusWord (s : State) (p : Nat) : Nat :=
  let vout := if p < 4 then latOf s (latVout p) else 0
  let iout := latOf s (latIout p)
  let inp := latOf s latInput; let tmp := latOf s latTemp; let cml := latOf s latCml
  let off := fun k => [rsOff, rsWait, rsProbe, rsLatch].contains (railSt s k)
  let pg := if p < 4 then railSt s p == rsOn else seqState s == sqUp
  let dark := if p < 4 then off p else rails4.all (fun k => railSt s k == rsOff)
  let b := fun (i : Nat) (c : Bool) => if c then 2 ^ i else 0
  b 15 (vout != 0) + b 14 (iout != 0) + b 13 (inp != 0) + b 12 (mfrByte s != 0) + b 11 (!pg) + b 6 dark + b 5 (bit vout 7) + b 4 (bit iout 7) +
    b 3 (bit inp 4) + b 2 (tmp != 0) + b 1 (cml != 0)

/-! ### Commands (R456, R457) -/

/-- An invalid command or page: CML bit 7, and 0xFF in every byte of a read. -/
def cmlInvalid (n : Nat) (s : State) : State := replyWith (List.replicate n 0xFF) (latch latCml 7 true s)

/-- A read of `n` bytes that a set of pages has. -/
def pmRead (pages : List Nat) (m n : Nat) (v : Nat → Nat) (s : State) : State :=
  let p := pageOf s m
  if pages.contains p then replyWith (toLE n (v p)) s else cmlInvalid n s

def allPages : List Nat := [0, 1, 2, 3, 4]

/-- A readout of the reply table. -/
def tableRead (pages : List Nat) (code m : Nat) (s : State) : State :=
  pmRead pages m 2 (fun p => aGet 0 s.pmb.table (tableKey code p (column s))) s

/-- A write whose PEC fails is ignored (R456). -/
def pecOr (pec : Bool) (f : State → State) (s : State) : State := if pec then f s else latch latCml 5 true s

/-- PAGE: read, or write of a value. -/
def pmPage (m : Nat) (w : Option Nat) (s : State) : State :=
  match w with
  | none => replyWith [pageOf s m] s
  | some v => if 4 < v then latch latCml 6 true s else setPmb { s.pmb with page := aPut 0 s.pmb.page m v } s

def clearFaults (s : State) : State := setPmb { s.pmb with lat := [] } s

/-- A string of the active BOARD_INFO, as a block read. -/
def boardRead (code : Nat) (s : State) : State :=
  match imageIn s (activeBank s) 2 with
  | none => replyWith [0] s
  | some x =>
    let b := ((Config.boardString code (imgId x.bytes)).map (· % 256)).take 255
    replyWith (b.length :: b) s

/-- The interface's 7-bit address. -/
def pmAddr (s : State) : Nat := match imageIn s (activeBank s) 2 with | some x => Config.boardAddr (imgId x.bytes) % 128 | none => 0x40

/-- SMBUS_ALERT_RESPONSE: while ALERT_N is asserted, the address is answered and ALERT_N released. -/
def alertResponse (s : State) : State :=
  if s.pmb.alert then setPmb { s.pmb with alert := false, reply := [2 * pmAddr s] } s else replyWith [] s

/-- PMBUS_SCL_TIMEOUT. -/
def sclTimeout (s : State) : State := replyWith [] (latch latCml 1 true s)

/-- MFR_BUS_ADDR: bits [1:0] are ignored. -/
def busAddr (v : Nat) (s : State) : State := setPmb { s.pmb with addr := v % 2 ^ 20 / 4 * 4 } s

/-- The interface after a reset (Table 13-8). -/
def pmbReset (s : State) : State := setPmb { PmbState.reset with live := liveNow s, tableAt := s.time.ticks, dark := s.pmb.dark } s

end Sys2Proof.Machine
end

