-- ==== Sys2Proof/Machine/Lock.lean ====
section
/-! DEFINITION. Who may reach what, and what confidential mode hides (Tables 17-1, 17-4, 17-5, 14-3). -/

namespace Sys2Proof.Machine

/-- The bits of a register that read zero in confidential mode (Table 17-4). -/
def lockMask (o : Nat) : Nat :=
  let all := 0xFFFFFFFF
  match o / 0x10000 with
  | 0x1 =>
    if inR o 0x10000 0x10188 || inR o 0x10200 0x10220 || o == 0x10244 || o == 0x10248 || o == 0x1024C || inR o 0x10800 0x10900 ||
        o == 0x10A08 then all
    else if inR o 0x11000 0x11D88 then 0xFFFF else 0
  | 0x2 => if inR o 0x20020 0x20070 || inR o 0x20080 0x200B0 || inR o 0x20100 0x20200 || inR o 0x24000 0x28000 then all else 0
  | 0x3 =>
    if inR o 0x31000 0x31200 || inR o 0x32000 0x33000 then all
    else if inR o 0x30140 0x301C0 then
      (match o % 32 with | 0xC => all | 0x10 => all | 0x8 => 0x8FFF0000 | _ => 0)
    else 0
  | 0x4 => if o = 0x40064 then all else 0
  | 0x5 => if o == 0x50014 || o == 0x50018 || o == 0x50028 || o == 0x5002C || inR o 0x50100 0x50300 then all else 0
  | 0x6 =>
    if o == 0x60058 || inR o 0x60060 0x6007C || inR o 0x600B0 0x600C0 || inR o 0x60200 0x60388 then all
    else if inR o 0x60040 0x60050 then 0x7F0 else 0
  | 0x7 => if o == 0x7007C || inR o 0x70080 0x70094 || o == 0x70098 || inR o 0x700A0 0x700E0 then all else 0
  | 0x8 => if o == 0x80018 || inR o 0x80100 0x80200 then all else if o = 0x80014 then 0x3F0000 else 0
  | 0x9 => if inR o 0x91000 0x91400 || inR o 0x92000 0x92100 then all else 0
  | 0xF => all
  | _ => 0

/-- The field at a key is locked in confidential mode. -/
def lockedKey (k : Nat) : Bool := bit (lockMask (keyOff k)) (keyLo k)

/-- The column of Table 17-5 that an agent's read follows: 0 none, 1 confidential, 2 scrub (the BMC bridge's at least 1). -/
def columnOf (s : State) (agent : Nat) : Nat :=
  if agent = 2 then (if scrubOn s then 2 else 1) else if confOn s then 1 else 0

/-- The bits that an agent's read finds at zero. -/
def hideMask (s : State) (agent o : Nat) : Nat := if columnOf s agent = 0 then 0 else lockMask o

/-- `v` without the bits of a mask. -/
def without (v m : Nat) : Nat := v - Nat.land v m

/-! ### Rights (R398, R399) -/

/-- The partition of a proxy. -/
def proxyOf (agent : Nat) : Option Nat := if 0x11 ≤ agent ∧ agent ≤ 0x20 then some (agent - 0x10) else none
/-- The rings of a partition. -/
def ringsOf (x : Nat) : List Nat := (List.range 4).map (fun i => 8 + 4 * (x - 1) + i)
/-- The ring that a ring register belongs to (16 words of stride 64 from 0xC1000 on). -/
def ringReg (o : Nat) : Option Nat := if inR o 0xC1000 0xC2200 then some ((o - 0xC1000) / 64) else none
/-- The mailbox of a mailbox register. -/
def mbxReg (o : Nat) : Option Nat := if inR o 0xC3000 0xC3200 then some ((o - 0xC3000) / 16) else none

end Sys2Proof.Machine
end

