-- ==== Sys2Proof/Machine/Estimate.lean ====
section
/-! DEFINITION. The estimator (chapter 03): estimates, substitution, calibration and the shadow fit, the trust states, the governed
current, the signature table, chip power and energy. -/

namespace Sys2Proof.Machine

/-! ### Estimates -/

/-- The rail of a model output (Table 3-2). -/
def railOfOut (o : Nat) : Nat := if o < 4 then o else if o < 9 then 0 else if o < 12 then 1 else if o < 14 then 2 else 3

/-- v_set, in 1.25 mV: the voltage of the select in force when the window closed (R73). -/
def vSet (s : State) (k : Nat) : Nat :=
  match s.est.shot with
  | some w => nth w.vset k
  | none => spV s k (getF s (PHC.RAIL_STATUS.SEL k))

/-- gain × (v_set / v_nom) × x + off / 512 A, exact, as a fraction in A (R73, R76); `g` in 1/32,768. -/
def scaleEst (s : State) (k g : Nat) (off : Int) : Fp → Int × Nat
  | .fin neg m e =>
    let q := min e (-9)
    let w := 2 ^ (-q).toNat
    ((g : Int) * vSet s k * fpAt neg m e q + off * (64 * vnom k * w : Nat), 32768 * vnom k * w)
  | _ => (off, 512)

/-- A fraction in A as steps of 0.125 A, and as binary32. -/
def ampSteps (x : Int × Nat) : Int := fdiv (8 * x.1) x.2
def ampBits (x : Int × Nat) : Nat := (roundFin 2 false false (decide (x.1 < 0)) x.1.natAbs x.2 0 false).1

def calGain (s : State) (k : Nat) : Nat := getF s (EST.CAL.GAIN k)
def calOff (s : State) (k : Nat) : Int := getS s (EST.CAL.OFFSET k)

/-- A raw value limited to ±RAW_MAX (Table 4-5). -/
def rawClamp (lim : Nat) (x : Fp) : Fp := fpMax (fpMin x (fpInt lim)) (fpInt (-(lim : Int)))

/-- The sixteen estimates of a window, in 0.125 A. -/
def estsOf (s : State) (raw : List Fp) : List Int :=
  raw.zipIdx.map (fun e =>
    let k := railOfOut e.2
    ampSteps (scaleEst s k (calGain s k) (if e.2 < 4 then 64 * calOff s k else 0) e.1))

/-- Chip power of a window from its regulated sense values, in 0.25 mV, and its rail currents, in 0.125 A; energy, and the sums of the 1,
10 and 100 ms periods (R90, R91). -/
def chipPower (volts : List Nat) (is : List Int) (s : State) : State :=
  let prod := rails4.map (fun k => (nth volts k : Int) * is.getD k 0)
  let p := (max 0 (prod.foldl (fun a x => a + x) 0)).toNat
  let e := s.est
  let f := e.eFrac + p
  let s1 := setSat (setEst { e with
    chipP := p, eFrac := f % 32000, energy := min (2 ^ 64 - 1) (e.energy + f / 32000), p1sum := e.p1sum + p, p1n := e.p1n + 1,
    railP := rails4.foldl (fun m k => aPut 0 m k (aGet 0 m k + prod.getD k 0)) e.railP,
    p10sum := e.p10sum + p, p10n := e.p10n + 1, p100sum := e.p100sum + p, p100n := e.p100n + 1 } s) EST.CHIP_P.POWER (p / 4000)
  let x := s1.est
  let s2 := if s.time.ticks % ms 10 < us 1 then
      setSat (setEst { x with p10mean := x.p10sum / max 1 x.p10n, p10sum := 0, p10n := 0, p10e := x.energy } s1) EST.CHIP_P_10MS.POWER
        (x.p10sum / (4000 * max 1 x.p10n))
    else s1
  let y := s2.est
  if s.time.ticks % ms 100 < us 1 then
    setEst { y with p100mean := y.p100sum / max 1 y.p100n, p100sum := 0, p100n := 0, p100e := y.energy } s2
  else s2

/-- Rail values of a register array. -/
def railEst (s : State) : List Int := rails4.map (fun k => getS s (EST.RAIL_I.CURRENT k))
def railMeas (s : State) : List Int := rails4.map (fun k => getS s (SNS.RAIL_I_1US.CURRENT k))
def trustSt (s : State) : Nat := getF s EST.TRUST_STATUS.STATE

/-- One window more for the signature table. -/
def SigAcc.add (a : SigAcc) (src : List Int) (bad scrub : Bool) : SigAcc :=
  let mx := if a.n = 0 then src else rails4.map (fun k => max (aGet 0 a.tops k) (src.getD k 0))
  { a with sums := rails4.foldl (fun m k => aPut 0 m k (aGet 0 m k + src.getD k 0)) a.sums,
           tops := rails4.foldl (fun m k => aPut 0 m k (mx.getD k 0)) [], n := a.n + 1, bad := a.bad + b2n bad, scrub := a.scrub || scrub }

/-- The update of a signature entry from the windows of a step (R89). -/
def sigStore (a : SigAcc) (s : State) : State :=
  if a.n = 0 ∨ a.n < 4 * a.bad ∨ a.scrub then s
  else
    let sh := 2 ^ getC s EST.CTRL.SIG_SHIFT 1 8
    rails4.foldl (fun t k =>
      let om := max 0 (fdiv (aGet 0 a.sums k) a.n); let op := max 0 (aGet 0 a.tops k)
      let mean : Int := getF s (EST.SIG.MEAN a.sig k); let peak : Int := getF s (EST.SIG.PEAK a.sig k)
      setSat (setSat t (EST.SIG.MEAN a.sig k) (max 0 (mean + fdiv (om - mean) sh)).toNat) (EST.SIG.PEAK a.sig k)
        (max op (peak - fdiv (peak - op) sh)).toNat) s

/-- A window enters the signature of the step in which it closed. Where the trust state changed within the step, each window enters with
the source of the state at its own close, a Guarded one with its estimate; a step without a window updates nothing (DESIGN CHOICE, log
entry 69). The update of a step that has ended waits for its last window. -/
def sigWindow (w : WinShot) (bad : Bool) (s : State) : State :=
  let src := if w.trust = 2 then railMeas s else railEst s
  let e := s.est
  match w.old, e.sgOld with
  | true, some a => sigStore (a.add src bad (scrubOn s)) (setEst { e with sgOld := none } s)
  | true, none => s
  | false, _ => setEst { e with sg := e.sg.add src bad (scrubOn s) } s

/-! ### Trust states (R84, R85) -/

def band (s : State) : Nat := getF s EST.TRUST_STATUS.BAND

/-- The guard band of a state (Table 3-4). -/
def bandOf (s : State) (st : Nat) : Nat :=
  match st with
  | 0 => 0 | 1 => getF s EST.BAND_CTRL.GUARD_PCT
  | 2 => if measSuspect s then getF s EST.BAND_CTRL.EST_ONLY_PCT else 0
  | _ => getF s EST.BAND_CTRL.EST_ONLY_PCT
/-- Does the condition of a row of Table 3-5 hold? -/
def rowHolds (s : State) (row : Nat) : Bool :=
  let st := trustSt s
  let agree := 4 * max 1 (getF s EST.TRUST_CTRL.AGREE_WINDOWS)
  match row with
  | 1 => st != 2 && (getB s EST.CTRL.FORCE_MEAS || slotSt s 0 != 2 || decide (16 ≤ getF s EST.CAL_STATUS.SUBST_RUN))
  | 2 => decide (st ≤ 1) && measSuspect s
  | 3 => st == 3 && !measSuspect s
  | 4 => st == 2 && !getB s EST.CTRL.FORCE_MEAS && decide (16 ≤ s.est.results) && !getB s EST.TRUST_STATUS.MISMATCH_LATCH
  | 5 => st == 0 && decide (max 1 (getF s EST.TRUST_CTRL.DIS_WINDOWS) ≤ getF s EST.TRUST_COUNT.DIS_RUN)
  | 6 => st == 1 && decide (getC s EST.BAND_CTRL.GUARDED_LIMIT_MS 10 4095 ≤ getF s EST.TRUST_STATUS.GUARDED_MS)
  | 7 => st == 1 && decide (agree ≤ getF s EST.TRUST_COUNT.AGREE_RUN)
  | 8 => st == 1 && decide (agree ≤ getF s EST.TRUST_COUNT.SHADOW_RUN)
  | _ => false
def rowTarget (row : Nat) : Nat := match row with | 1 => 2 | 2 => 3 | 3 => 1 | 4 => 1 | 5 => 1 | 6 => 2 | _ => 0
/-- The first row that holds, 0 for none. -/
def firstRow (s : State) : Nat := (([1, 2, 3, 4, 5, 6, 7, 8] : List Nat).find? (rowHolds s)).getD 0

/-- The default covariance (R78), as binary32: 2^−20 and 16 on the diagonal. -/
def covReset (i : Nat) : Nat := match i with | 0 => 0x35800000 | 3 => 0x41800000 | _ => 0
def covAt (m : Assoc Nat) (k i : Nat) : Nat := match aFind m (4 * k + i) with | some b => b | none => covReset i

/-- A trust state goes into force. -/
def trustEnter (st : Nat) (s : State) : State :=
  let old := trustSt s
  let b := bandOf s st
  let s1 := setB (setF (setF (setF s EST.TRUST_STATUS.STATE st) EST.TRUST_STATUS.BAND b) EST.TRUST_STATUS.PENDING 0)
    EST.TRUST_STATUS.PENDING_VALID false
  let s2 := if old = 0 ∧ st ≠ 0 then
      { s1 with acts := s1.acts.filter (fun a => match a.kind with | .cal _ _ _ => false | _ => true) } else s1
  let s3 := if st = 1 then
      rails4.foldl (fun t k => setF (setF t (EST.SHADOW.GAIN k) (calGain s k)) (EST.SHADOW.OFFSET k) (getF s (EST.CAL.OFFSET k))) s2
    else s2
  let e := s3.est
  let wait := st ≠ 1 ∧ (!preliftOk s ∨ e.liftWait)
  let s4 := setF (setEst { e with guardedAt := s.time.ticks, bandPend := none, pendRow := 0, row := 0, liftWait := wait,
                                  shCov := if st = 1 then [] else e.shCov } s3) EST.TRUST_STATUS.GUARDED_MS 0
  let s5 := event 0x0201 [old, st, b] s4
  boostCheck (if preliftOk s5 then s5 else trustWithdraws s5)

/-- The rail of the largest disagreement at the last close, and its E − M (R93). Of rails that disagree alike the lowest is named, where
the rule does not say (DESIGN CHOICE, log entry 70). -/
def worstRail (s : State) : Nat :=
  rails4.foldl (fun m k => if (aGet 0 s.est.diff m).natAbs < (aGet 0 s.est.diff k).natAbs then k else m) 0
def diffFault (kind : Nat) (s : State) : State :=
  let k := worstRail s
  sendFault kind (0x200 + k) (ux 32 (aGet 0 s.est.diff k)) s

/-- The fault of a row, sent at the close that decides it (Table 3-5). -/
def rowFault (row : Nat) (s : State) : State :=
  let old := trustSt s
  match row with
  | 1 =>
    let s1 := if getB s EST.CTRL.FORCE_MEAS then s else sendFault 0x22 0x210 old s
    if measSuspect s then sendFault 0x23 0x211 old s1 else s1
  | 5 => diffFault 0x20 s
  | 6 => setB (diffFault 0x21 s) EST.TRUST_STATUS.MISMATCH_LATCH true
  | _ => s

/-- The shadow fit is staged as the calibration, and its covariance becomes that of the fit in force (R80). -/
def stageShadow (s : State) : State :=
  let acts := rails4.map (fun k => (⟨.cal k (getF s (EST.SHADOW.GAIN k)) (getF s (EST.SHADOW.OFFSET k)), false, none, 0⟩ : Act))
  setEst { s.est with cov := s.est.shCov } { s with acts := s.acts ++ acts }

/-- A row decides: the counts restart, and the transition acts at once or waits for the boundary (R84, R85). -/
def decideRow (row : Nat) (s : State) : State :=
  let s1 := rowFault row s
  let s2 := setF (setF (setF s1 EST.TRUST_COUNT.DIS_RUN 0) EST.TRUST_COUNT.AGREE_RUN 0) EST.TRUST_COUNT.SHADOW_RUN 0
  let s3 := setEst { s2.est with row := 0 } s2
  let st := rowTarget row
  if band s3 ≤ bandOf s3 st then trustEnter st (if row = 8 then stageShadow s3 else s3)
  else
    let s4 := setB (setF s3 EST.TRUST_STATUS.PENDING st) EST.TRUST_STATUS.PENDING_VALID true
    let s5 := setEst { s4.est with pendRow := row } s4
    boostCheck (if preliftOk s5 then s5 else trustWithdraws s5)

/-- The row that decides at a close: the first that holds, unless its transition is the one already pending (R84). -/
def rowNow (s : State) : Nat := if firstRow s = s.est.pendRow then 0 else firstRow s

/-- The transition of the row that decided at the last 10 µs close. -/
def tryRow (row : Nat) (s : State) : State := if s.est.row = row then decideRow row s else s

/-- MEAS_SUSPECT has changed at a 1 ms close that has been evaluated: rows 2 and 3 decide at the same close (R85). -/
def suspectRow (row : Nat) (s : State) : State :=
  if s.est.rowAt = some (s.time.ticks / ms 1 * ms 1) ∧ rowNow s = row then decideRow row s else s

/-- Measured-only's band follows MEAS_SUSPECT: wider at once, narrower at the boundary (R85). -/
def bandFollow (s : State) : State :=
  if trustSt s ≠ 2 then s
  else if band s ≤ bandOf s 2 then setF (setEst { s.est with bandPend := none } s) EST.TRUST_STATUS.BAND (bandOf s 2)
  else setEst { s.est with bandPend := some (bandOf s 2) } s


/-! ### The 10 µs close (R76, R77, R81) -/

/-- The measured 10 µs currents, from the last ten 1 µs sums (R49). -/
def meas10 (s : State) (k : Nat) : Int := fdiv (s.sns.sums.foldl (fun a l => a + l.getD k 0) 0) (4 * max 1 s.sns.sums.length)

/-- The mean of an output over the windows kept. -/
def est10 (s : State) (k : Nat) : Int := fdiv (s.est.ests.foldl (fun a l => a + l.getD k 0) 0) (max 1 s.est.ests.length)

/-- The exact sum of one place of lists of binary32 values. -/
def sumAt (ls : List (List Nat)) (i : Nat) : Fp := ls.foldl (fun a l => (fpAdd a (f32Of (nth l i))).getD .nan) fpZero
/-- A sum divided by a count, exactly: the scaled fraction's denominator takes the count. -/
def meanScaled (s : State) (k g : Nat) (off : Int) (n : Nat) (x : Fp) : Int × Nat :=
  let r := scaleEst s k g (off * n) x
  (r.1, r.2 * n)

/-- |E − M| exceeds the larger of DIS_PCT % of |M| and DIS_FLOOR. -/
def disagrees (s : State) (e m : Int) : Bool :=
  decide (max (getF s EST.TRUST_CTRL.DIS_PCT * m.natAbs) (800 * getF s EST.TRUST_CTRL.DIS_FLOOR) < 100 * (e - m).natAbs)

/-- Region estimates and the estimator's input area (R76, Table 4-4). Where 1 µs windows of the ten were substituted, the partial sums are
averaged over those that slot 0 delivered, and with none the region estimates keep their values, since R76 does not say what a window
without partial sums adds (DESIGN CHOICE, log entry 71). -/
def regionEsts (s : State) : State :=
  let n := s.est.parts.length
  let s := pxeStored 0x1C4000 0x120 s
  let m0 := rails4.foldl (fun m k =>
    memPutLE (memPutLE m (0x1C4100 + 4 * k) 4 (f32Bits (fpStep (getS s (SNS.RAIL_I_10US.CURRENT k)) 3)))
      (0x1C4110 + 4 * k) 4 (f32Bits (fpStep (getS s (EST.RAIL_I_10US.CURRENT k)) 3))) s.pxe.mem
  if n = 0 then setPxe { s.pxe with mem := m0 } s
  else
    let rest := sumAt s.est.parts 64
    regions64.foldl (fun t r =>
      let x := (fpAdd (sumAt s.est.parts r) (match rest with | .fin a m e => .fin a m (e - 6) | v => v)).getD .nan
      let v := meanScaled s 0 (calGain s 0) (calOff s 0) n x
      let t1 := setSatS t (EST.REGION_I.CURRENT r) (ampSteps v)
      setPxe { t1.pxe with mem := memPutLE t1.pxe.mem (0x1C4000 + 4 * r) 4 (ampBits v) } t1) (setPxe { s.pxe with mem := m0 } s)

/-- 5 % of the sustained limit, in 0.125 A (R77). -/
def usableMin (k : Nat) : Int := 8 * nth [95, 13, 8, 2] k

/-- The usable rails of the closing 10 µs window, with u[0] and y (R77, R78). -/
def calWin (s : State) : CalWin :=
  let n := s.est.raws.length
  let ok := rails4.foldl (fun v k => if n ≠ 0 ∧ usableMin k ≤ getS s (SNS.RAIL_I_10US.CURRENT k) then setBit v k else v) 0
  let u := rails4.map (fun k => f32Bits (f32Mul (f32Div (fpInt (vSet s k : Nat)) (fpInt (vnom k)))
    (fpOf 2 (fpDiv 2 false false (sumAt s.est.raws k) (fpInt n)).1)))
  ⟨ok, u, rails4.map (fun k => getS s (SNS.RAIL_I_10US.CURRENT k))⟩

/-- The trust counts of a close (R81). -/
def trustCounts (s : State) : State :=
  let e := rails4.map (est10 s); let m := rails4.map (fun k => getS s (SNS.RAIL_I_10US.CURRENT k))
  let dis := rails4.any (fun k => disagrees s (e.getD k 0) (m.getD k 0))
  let n := max 1 s.est.raws.length
  let sh := rails4.map (fun k => ampSteps (meanScaled s k (getF s (EST.SHADOW.GAIN k)) (64 * getS s (EST.SHADOW.OFFSET k)) n (sumAt s.est.raws k)))
  let shDis := rails4.any (fun k => disagrees s (sh.getD k 0) (m.getD k 0))
  let s1 := setSat (setSat s EST.TRUST_COUNT.DIS_RUN (if dis then getF s EST.TRUST_COUNT.DIS_RUN + 1 else 0)) EST.TRUST_COUNT.AGREE_RUN
    (if dis then 0 else getF s EST.TRUST_COUNT.AGREE_RUN + 1)
  if trustSt s ≠ 1 then s1
  else setSat s1 EST.TRUST_COUNT.SHADOW_RUN (if shDis then 0 else getF s EST.TRUST_COUNT.SHADOW_RUN + 1)

/-- A 1 ms round ends with its last 10 µs window: CAL_RESET acts, and the built-in routine is triggered on the round's usable windows (R78,
R80, R98). -/
def calTrigger (s : State) : State :=
  let e := if s.est.calReset then { s.est with calReset := false, cov := [], shCov := [] } else s.est
  let runs := getB s EST.CTRL.CAL_EN && decide (trustSt s ≤ 1)
  setEst { e with calDue := if runs then some s.time.ticks else none, calWins := if runs then e.wins else [], wins := [] } s

/-- The evaluation of a 10 µs window that closed at `at0`, once its tenth estimate is out: estimates, region estimates, the trust comparison
and the row that decides (R76, R81, R84, Table 3-3). Rows 2 and 3 have no command of their own and act here. -/
def estEval10 (at0 : Nat) (s : State) : State :=
  let s2 := if s.est.ests = [] then s else rails4.foldl (fun t k => setSatS t (EST.RAIL_I_10US.CURRENT k) (est10 s k)) s
  let s3 := regionEsts s2
  let e := s3.est
  let out := e.stale10 || e.subst10 || e.scrubTen || e.ests.isEmpty
  let diff := rails4.foldl (fun m k => aPut 0 m k (getS s3 (EST.RAIL_I_10US.CURRENT k) - getS s3 (SNS.RAIL_I_10US.CURRENT k))) []
  let s4 := if out then s3 else trustCounts s3
  let s5 := setEst { s4.est with wins := if out then e.wins else e.wins ++ [calWin s3], diff := diff, rowAt := some at0, tenDue := false,
                                 stale10 := false, subst10 := false, raws := [], ests := [], parts := [] } s4
  let s6 := if trustSt s5 = 1 then setSat s5 EST.TRUST_STATUS.GUARDED_MS ((at0 - s.est.guardedAt) / ms 1) else s5
  let s6 := if at0 % us 100 = 0 then setPxe { s6.pxe with due1 := true } s6 else s6
  let s7 := if at0 % ms 1 = 0 then calTrigger s6 else s6
  tryRow 3 (tryRow 2 (setEst { s7.est with row := rowNow s7 } s7))

/-- A window's estimates are out: chip power in Estimate-only, the signature, and the evaluation of a 10 µs window whose tenth it is
(R89 to R91, Table 3-3). -/
def windowAfter (bad : Bool) (s : State) : State :=
  let w := s.est.shot.getD (shotOf s)
  let s1 := if w.trust = 3 then chipPower w.volts (railEst s) s else s
  let s2 := sigWindow w bad s1
  let s3 := if s2.est.tenDue && decide (w.at0 % us 10 = 0) then estEval10 w.at0 s2 else s2
  setEst { s3.est with shot := none } s3

/-- The estimator's part of a 10 µs close: the measured currents; the rest waits for the tenth window's estimates. -/
def estClose10 (s : State) : State :=
  let s1 := rails4.foldl (fun t k => setSatS t (SNS.RAIL_I_10US.CURRENT k) (meas10 s k)) s
  let scrub := s.est.scrub10 || scrubOn s
  setB (setEst { s1.est with tenDue := true, scrubTen := scrub, scrub10 := scrubOn s } s1) EST.TRUST_STATUS.SCRUB_SKIP scrub

/-- Slot 0's result: the estimates of its window, unless a value is not finite (R73, R75, Table 4-5). -/
def takeSlot0 (s : State) : State :=
  let vals := (List.range 81).map (fun i => outVal s 0 i)
  match (List.range 81).find? (fun i => !fpFinite (vals.getD i .nan)) with
  | some i => invalidOut 0 i s
  | none =>
    let lim := getF s PXE.BOUND.RAW_MAX
    let cl := vals.map (rawClamp lim)
    let moved := (vals.zip cl).any (fun e => !fpEq e.1 e.2)
    let s0 := clampedOut 0 moved (setB s (PXE.SLOT_STATUS.FALLBACK 0) false)
    if !s0.est.owed then s0
    else
      let raw := cl.take 16
      let es := estsOf s0 raw
      let s1 := rails4.foldl (fun t k => setB (setB (setSatS t (EST.RAIL_I.CURRENT k) (es.getD k 0)) (EST.RAIL_I.STALE k) s.sns.stale)
        (EST.RAIL_I.SUBST k) false) s0
      let s2 := (List.range 12).foldl (fun t g => setSatS t (EST.GROUP_I.CURRENT g) (es.getD (4 + g) 0)) s1
      let e := s2.est
      let s3 := setEst { e with raw := raw.map f32Bits, raws := raw.map f32Bits :: e.raws, ests := es :: e.ests,
                                parts := (cl.drop 16).map f32Bits :: e.parts, owed := false, results := e.results + 1 } s2
      windowAfter s.sns.stale (setF s3 EST.CAL_STATUS.SUBST_RUN 0)

/-- EST_WINDOW_SUBSTITUTED: no valid result by 0.8 µs (R75). -/
def windowSubst (s : State) : State :=
  if !s.est.owed then s
  else
    let s1 := rails4.foldl (fun t k => setB (setB (setS t (EST.RAIL_I.CURRENT k) ((railMeas s).getD k 0)) (EST.RAIL_I.STALE k) s.sns.stale)
      (EST.RAIL_I.SUBST k) true) s
    let s2 := setSat (setB s1 EST.CAL_STATUS.SUBST true) EST.CAL_STATUS.SUBST_RUN (getF s EST.CAL_STATUS.SUBST_RUN + 1)
    let e := s2.est
    windowAfter true (setEst { e with ests := railMeas s :: e.ests, owed := false, subst10 := true, results := 0 } s2)

/-! ### Governed current (R82, R83) -/

/-- The selected current of each rail and its source: 0 measurement, 1 estimate, 2 the larger of the two. -/
def govSource (s : State) (k : Nat) : Int × Nat :=
  let m := aGet 0 s.sns.railI k; let e := getS s (EST.RAIL_I.CURRENT k)
  if trustSt s ≠ 3 then (m, 0) else if scrubOn s then (max m e, 2) else (e, 1)
def governed (s : State) (k : Nat) : Int := fdiv ((govSource s k).1 * ((100 + band s : Nat) : Int)) 100

/-- The sample's part: governed current published (R83). -/
def estSample (s : State) : State :=
  rails4.foldl (fun t k => setF (setSatS t (EST.GOV_I.CURRENT k) (governed s k)) (EST.GOV_I.SOURCE k) (govSource s k).2) s

/-- The boundary swap: a pending transition, row 8's staged fit, and the band (R79, R80, R85). -/
def estSwap (s : State) : State :=
  let s1 := if !getB s EST.TRUST_STATUS.PENDING_VALID then s
    else
      let row8 := decide (s.est.pendRow = 8)
      let t := trustEnter (getF s EST.TRUST_STATUS.PENDING) s
      if row8 then
        rails4.foldl (fun u k => setF (setF u (EST.CAL.GAIN k) (getF s (EST.SHADOW.GAIN k))) (EST.CAL.OFFSET k) (getF s (EST.SHADOW.OFFSET k)))
          (setEst { t.est with cov := s.est.shCov } t)
      else t
  setF (setEst { s1.est with bandPend := none, liftWait := false } s1) EST.TRUST_STATUS.BAND (bandOf s1 (trustSt s1))

/-- EST_RETRY (R86), EST_CAL_RESET (R78). -/
def estRetry (s : State) : State := setB s EST.TRUST_STATUS.MISMATCH_LATCH false
def estCalReset (s : State) : State := setEst { s.est with calReset := true } s

/-! ### Calibration (R78 to R80) -/

/-- Gain, offset and covariance of one rail's fit. -/
structure Fit where
  g : Fp
  o : Fp
  p : List Fp
  deriving DecidableEq, Repr

/-- One usable window enters the fit: binary32, each sum from left to right. -/
def fitStep (lam : Fp) (f : Fit) (u0 y : Fp) : Fit :=
  let p := fun i => f.p.getD i .nan
  let err := f32Sub y (f32Add (f32Mul f.g u0) f.o)
  let pu0 := f32Add (f32Mul (p 0) u0) (p 1); let pu1 := f32Add (f32Mul (p 2) u0) (p 3)
  let den := f32Add lam (f32Add (f32Mul u0 pu0) pu1)
  let g0 := f32Div pu0 den; let g1 := f32Div pu1 den
  let up0 := f32Add (f32Mul u0 (p 0)) (p 2); let up1 := f32Add (f32Mul u0 (p 1)) (p 3)
  let q := fun (x g up : Fp) => f32Div (f32Sub x (f32Mul g up)) lam
  ⟨f32Add f.g (f32Mul g0 err), f32Add f.o (f32Mul g1 err),
    [fpMin (q (p 0) g0 up0) (.fin false 1 (-20)), q (p 1) g0 up1, q (p 2) g1 up0, fpMin (q (p 3) g1 up1) (fpInt 16)]⟩

def fitFinite (f : Fit) : Bool := fpFinite f.g && fpFinite f.o && f.p.all fpFinite

/-- The bounds of R78 on a fit that started from `g0`, `o0`; whether a clamp changed it, and whether a clamp or a limit did. -/
def fitBounds (s : State) (k : Nat) (g0 o0 g o : Fp) : Fp × Fp × Bool × Bool :=
  let lim := fun (lo hi x : Fp) => fpMax (fpMin x hi) lo
  let g1 := lim (fpStep (getF s (EST.CAL_BOUND.GAIN_MIN k) : Nat) 8) (fpStep (256 + getF s (EST.CAL_BOUND.GAIN_MAX k) : Nat) 8) g
  let om : Int := getF s (EST.CAL_BOUND.OFF_MAX k)
  let o1 := lim (fpInt (-om)) (fpInt om) o
  let st := fpStep (getF s (EST.CAL_BOUND.STEP_MAX k) : Nat) 12
  let g2 := lim (f32Sub g0 st) (f32Add g0 st) g1
  let o2 := lim (f32Sub o0 (fpInt 1)) (f32Add o0 (fpInt 1)) o1
  (g2, o2, !fpEq g g1 || !fpEq o o1, !fpEq g g2 || !fpEq o o2)

/-- A fit in the encoding of THF_EST_CAL: nearest steps. -/
def gainCode (g : Fp) : Nat := (clampI 0 65535 (fpRound 15 g)).toNat
def offCode (o : Fp) : Nat := ux 16 (clampI (-32768) 32767 (fpRound 3 o))

/-- One rail's update in a round, for the calibration or for the shadow fit (R78, R80). -/
def calRail (shadow : Bool) (k : Nat) (s : State) : State :=
  let use := s.est.calWins.filter (fun w => bit w.ok k)
  if use.length < 10 then s
  else
    let g0 := fpStep (if shadow then getF s (EST.SHADOW.GAIN k) else calGain s k : Nat) 15
    let o0 := fpStep (if shadow then getS s (EST.SHADOW.OFFSET k) else calOff s k) 3
    let cov := if shadow then s.est.shCov else s.est.cov
    let lam := f32Sub (fpInt 1) (.fin false 1 (-(getC s EST.CTRL.LAMBDA_K 4 15 : Int)))
    let f0 : Fit := ⟨g0, o0, (List.range 4).map (fun i => f32Of (covAt cov k i))⟩
    let f := use.foldl (fun f w => fitStep lam f (f32Of (nth w.u k)) (fpStep (w.y.getD k 0) 3)) f0
    if !fitFinite f then sendFault 0x25 (0x220 + k) use.length (setB s EST.CAL_STATUS.CAL_INVALID true)
    else
      let b := fitBounds s k g0 o0 f.g f.o
      let cv := (List.range 4).foldl (fun m i => aIns m (4 * k + i) (f32Bits (f.p.getD i .nan))) cov
      let e := s.est
      let run := if b.2.2.1 then aGet 0 e.clampRun k + 1 else 0
      let e1 := if shadow then { e with shCov := cv }
        else { e with cov := cv, clampRun := aPut 0 e.clampRun k run, clampSent := if run = 0 then remN k e.clampSent else e.clampSent,
                      clampGain := aIns e.clampGain k (gainCode b.1) }
      let s1 := if b.2.2.2 then setF s EST.CAL_STATUS.CLAMP (setBit (getF s EST.CAL_STATUS.CLAMP) k) else s
      let s2 := setEst e1 s1
      if shadow then setF (setF s2 (EST.SHADOW.GAIN k) (gainCode b.1)) (EST.SHADOW.OFFSET k) (offCode b.2.1)
      else
        let keep := s2.acts.filter (fun a => a.frozen || (match a.kind with | .cal j _ _ => j != k | _ => true))
        { s2 with acts := keep ++ [⟨.cal k (gainCode b.1) (offCode b.2.1), false, none, 0⟩] }

/-- CAL_ROUND: the built-in routine that the end of a 1 ms round triggered completes, within its deadline of 1 ms (R78, R98). -/
def calRound (s : State) : State :=
  match s.est.calDue with
  | none => s
  | some t0 =>
    if t0 + ms 1 < s.time.ticks then s
    else
      let st := trustSt s
      let s1 := if !getB s EST.CTRL.CAL_EN then s
        else if st = 0 then rails4.foldl (fun t k => calRail false k t) (setF s EST.CAL_STATUS.UPDATES (getF s EST.CAL_STATUS.UPDATES + 1))
        else if st = 1 then rails4.foldl (fun t k => calRail true k t) s
        else s
      setEst { s1.est with calDue := none, calWins := [] } s1

/-- EST_CAL_CLAMP: a clamp has acted on 100 consecutive updates of a rail (R78); sent once for each onset (R469). -/
def calClamp (k : Nat) (s : State) : State :=
  if aGet 0 s.est.clampRun k < 100 ∨ s.est.clampSent.contains k then s
  else sendFault 0x24 (0x220 + k) (aGet 0 s.est.clampGain k) (setEst { s.est with clampSent := insN k s.est.clampSent } s)

/-- A staged fit takes effect (R79). -/
def calTake (k g o : Nat) (s : State) : State := setF (setF s (EST.CAL.GAIN k) g) (EST.CAL.OFFSET k) o

/-! ### Signature table (R88, R89) -/

/-- The strobe's update of the entry of the step that has just ended; where its last window's estimates are not out yet, the update waits
for them. -/
def sigUpdate (s : State) : State :=
  let e := s.est
  let acc := { e.sg with scrub := e.sg.scrub || scrubOn s, sig := entSig (curEnt s) }
  let learns := s.psq.hasEntry && !getB s PSQ.CTRL.REPEATABLE && trustSt s != 1
  let fresh := setEst { e with sg := ⟨[], [], 0, 0, scrubOn s, 0⟩, shot := e.shot.map (fun w => { w with old := true }),
                               sgOld := if learns && e.shot.isSome then some acc else none } s
  if learns && e.shot.isNone then sigStore acc fresh else fresh

/-- The 1 ms means for PMBus, and the 10 and 100 ms means of input power (R458, R407). -/
def estRound (s : State) : State :=
  let e := s.est; let n := max 1 e.p1n; let pin := s.sns.pinMean
  let e1 := { e with p1mean := e.p1sum / n, p1sum := 0, p1n := 0,
                     railPMean := rails4.foldl (fun m k => aPut 0 m k (fdiv (aGet 0 e.railP k) n)) [], railP := [],
                     pin10sum := e.pin10sum + pin, pin10n := e.pin10n + 1, pin100sum := e.pin100sum + pin, pin100n := e.pin100n + 1 }
  let e2 := if s.time.ticks % ms 10 < ms 1 then
      { e1 with pin10mean := e1.pin10sum / max 1 e1.pin10n, pin10sum := 0, pin10n := 0 } else e1
  let e3 := if s.time.ticks % ms 100 < ms 1 then
      { e2 with pin100mean := e2.pin100sum / max 1 e2.pin100n, pin100sum := 0, pin100n := 0 } else e2
  setEst e3 s

end Sys2Proof.Machine
end

