-- ==== Sys2Proof/Machine/Sample.lean ====
section
/-! DEFINITION. What comes about at one sample instant, one window close, one round: the parts of all the units together (R42, R49,
R81, R55, R65, R105). -/

namespace Sys2Proof.Machine

/-- SENSE_SAMPLE: 98 current codes and five sense codes (R42). -/
def senseSample (imon pts : List Nat) (s : State) : State :=
  let s1 := estSample (snsSample imon pts s)
  let s2 := lgvSample (rails4.map (fun k => governed s1 k)) s1
  let s3 := rails4.foldl (fun t k => compSample k (deSample k (seqSample k t))) s2
  restSample (negLimit s3)

/-- The 1 µs averages go to their registers and to the phase controller (R49, R199, R200). -/
def railClose1 (k : Nat) (s : State) : State :=
  let avg := fdiv (aGet 0 s.sns.acc1 k) (max 1 s.sns.n1)
  noteImax k avg (reactiveAdd k avg (setSatS s (SNS.RAIL_I_1US.CURRENT k) avg))

/-- WINDOW_CLOSE_1US (R49, R90, R199, R231). -/
def windowClose1 (s : State) : State :=
  let s1 := rails4.foldl (fun t k => railClose1 k t) s
  let x := s1.sns
  let s2 := setSns { x with sums := (rails4.map (fun k => aGet 0 x.acc1 k) :: x.sums).take 10, acc1 := [], n1 := 0 } s1
  let s3 := takeShot (lgvClose1 s2)
  if trustSt s3 = 3 then s3 else chipPower ((s3.est.shot.getD (shotOf s3)).volts) (railMeas s3) s3

/-- WINDOW_CLOSE_10US (R76, R81, R232). -/
def windowClose10 (s : State) : State := lgvClose10 (estClose10 s)

/-- XCHK_ROUND: a 1 ms round closes (R55, R209, R232, R244). -/
def xchkClose (s : State) : State :=
  lgvClose1ms (estRound (xchkRound (rails4.foldl (fun t k => imbalanceRound k t) s)))

/-- HKS_ROUND: the channels, the thermal manager's hardware, the hot stages, the predictor's input area (R65, R255, R209, R104). -/
def hksRound (conv : List (Nat × Nat)) (s : State) : State :=
  let s1 := hotRound (tmgHwRound (hksPublish conv s))
  pxeThermal (fun r => aGet 0 s1.tmg.prevMax r) s1

/-- The consumer of a slot takes its result (Table 4-5). -/
def consume (k : Nat) (s : State) : State :=
  match k with
  | 0 => takeSlot0 s
  | 1 => takeSlot1 (fun r => aGet 0 s.tmg.prevMax r) s
  | 2 => balPublish s
  | _ => takeSlot3 s

/-- PXE_PUBLISH: a run reaches END after so much time; its result reaches its consumer (R105). -/
def pxePublish (k time : Nat) (s : State) : State :=
  let r := publishRun k time s
  if r.2 then consume k r.1 else r.1

/-- A run is in progress and within its deadline (R101). -/
def publishRow (k time : Nat) (s : State) : State :=
  match aFind s.pxe.run k with
  | some t => if s.time.ticks ≤ t + slotDeadline s k then pxePublish k time s else s
  | none => s

end Sys2Proof.Machine
end

