-- ==== Sys2Proof/Machine/Boundary.lean ====
section
/-! DEFINITION. The boundary: the cut with its set checks, the swap of all the units together, strobes and local boundaries (R25 to R33,
Table 1-4). -/

namespace Sys2Proof.Machine

/-! ### Set checks at the cut -/

/-- The value a field takes with the pending ones, else the one in force. -/
def pendF (s : State) (f : Fld) : Nat := match aFind s.pend f.key with | some p => p.val | none => getF s f
def anyPend (s : State) (l : List Fld) : Bool := l.any (fun f => (aFind s.pend f.key).isSome)

/-- A set that fails its check is discarded whole and reported in its reject bit. -/
def checkSet (l : List Fld) (ok : Bool) (rej : Fld) (s : State) : State :=
  if anyPend s l && !ok then setB (dropPend (l.map (fun f => f.key)) s) rej true else s

/-- Droop thresholds (R59) and cross-check efficiencies (R55). -/
def checkDroop (s : State) : State :=
  let t := [SNS.DROOP_THRESH.T1, SNS.DROOP_THRESH.T2, SNS.DROOP_THRESH.T3, SNS.DROOP_THRESH.T4]
  let v := fun i => pendF s (t.getD i SNS.DROOP_THRESH.T1)
  checkSet t (decide (1 ≤ v 0) && decide (v 0 < v 1) && decide (v 1 < v 2) && decide (v 2 < v 3) && decide (v 3 ≤ 31))
    SNS.DROOP_STATUS.THRESH_REJECT s
def checkEta (s : State) : State :=
  checkSet [SNS.XCHK_CTRL.ETA_LO, SNS.XCHK_CTRL.ETA_HI, SNS.XCHK_CTRL.P_FIXED, SNS.XCHK_CTRL.MARGIN]
    (decide (pendF s SNS.XCHK_CTRL.ETA_LO ≠ 0) && decide (pendF s SNS.XCHK_CTRL.ETA_LO < pendF s SNS.XCHK_CTRL.ETA_HI))
    SNS.DROOP_STATUS.THRESH_REJECT s

/-- One setpoint entry (R191). -/
def checkSp (k e : Nat) (s : State) : State :=
  let v := pendF s (PHC.SP.VOLT k e); let f := pendF s (PHC.SP.FMAX k e)
  checkSet (if k = 0 then [PHC.SP.VOLT k e, PHC.SP.FMAX k e] else [PHC.SP.VOLT k e])
    (decide (vlow k ≤ v) && decide (v ≤ vhigh k) && (k != 0 || (decide (60 ≤ f) && decide (f ≤ 150)))) PHC.STATUS.SP_REJECT s
def checkSps (s : State) : State :=
  [0, 1, 2].foldl (fun t k => (List.range 16).foldl (fun u e => checkSp k e u) t) s

/-- The priority order (R240); 3 is applied as 0. -/
def checkPrio (s : State) : State :=
  let l := [LGV.PRIO.FIRST, LGV.PRIO.SECOND, LGV.PRIO.THIRD]
  let v := l.map (fun f => if pendF s f = 3 then 0 else pendF s f)
  checkSet l (v.contains 0 && v.contains 1 && v.contains 2) LGV.STATUS.PRIO_REJECT s

/-- Start order and tracking (R215, R222). -/
def checkSeq (s : State) : State :=
  let o := rails4.map (fun p => bits (pendF s PHC.SEQ_CTRL.SEQ_ORDER) (2 * p) 2)
  let mode := fun k => if k = 3 ∨ pendF s (PHC.SS_CTRL.TRACK_MODE k) = 3 then 0 else pendF s (PHC.SS_CTRL.TRACK_MODE k)
  let src := fun k => pendF s (PHC.SS_CTRL.TRACK_SRC k)
  let track := [0, 1, 2].all (fun k => mode k == 0 || (src k != k && mode (src k) == 0))
  checkSet (PHC.SEQ_CTRL.SEQ_ORDER :: rails4.map PHC.SS_CTRL.TRACK_MODE ++ rails4.map PHC.SS_CTRL.TRACK_SRC)
    (rails4.all (fun k => o.contains k) && track) PHC.SEQ_STATUS.SEQ_REJECT s

/-- Temperature thresholds with the hysteresis (R260). -/
def checkThresh (s : State) : State :=
  let w := pendF s TMG.THRESH.WARN; let t := pendF s TMG.THRESH.THROTTLE; let c := pendF s TMG.THRESH.CRIT
  let p := pendF s TMG.THRESH.TRIP; let h := pendF s TMG.STEP_CTRL.HYST
  checkSet [TMG.THRESH.WARN, TMG.THRESH.THROTTLE, TMG.THRESH.CRIT, TMG.THRESH.TRIP, TMG.STEP_CTRL.HYST]
    (decide (w < t) && decide (t < c) && decide (c < p) && decide (100 ≤ p) && decide (p ≤ 125) && decide (1 ≤ h) && decide (h ≤ 10))
    TMG.STATUS.THRESH_REJECT s

/-- Slot 3's period against its program (R114). -/
def checkPeriod (s : State) : State :=
  checkSet [PXE.USER_PERIOD.PERIOD]
    (slotSt s 3 == 0 || decide (getF s (PXE.SLOT_WCET.WCET 3) ≤ budgetOf (clampN 1 1000 (pendF s PXE.USER_PERIOD.PERIOD)) 3))
    PXE.STATUS.PERIOD_REJECT s

/-- Partition maps (R400). -/
def checkMaps (s : State) : State :=
  let next := s.pend.foldl (fun t e => forceKey e.1 e.2.val t) s
  let bad := badMaps s next
  if bad = [] then s else setB (bad.foldl (fun t x => dropPend (mapKeys x) t) s) SEC.STATUS.MAP_REJECT true

def setChecks (s : State) : State :=
  checkMaps (checkPeriod (checkThresh (checkSeq (checkPrio (checkSps (checkEta (checkDroop s)))))))

/-! ### The cut (R28) -/

/-- Keep the last 1 µs average of each rail (R200). -/
def noteCut (s : State) : State := rails4.foldl (fun t k => setRail t k { railRec t k with icut := icutOf t k }) s

/-- The work of a cut; `next` is the step whose entry it freezes, none for a local boundary. -/
def cutWork (next : Option Nat) (s : State) : State :=
  let s1 := match next with | some _ => balCut s | none => s
  let s2 := tmgCut (noteCut (freezeAll (setChecks s1)))
  let s3 := match next with | some n => planCut n s2 | none => { s2 with psq := { s2.psq with frozen := none } }
  let s4 := lgvCut s3
  let s5 := match next with | some _ => holdUnanswered s4 | none => s4
  { s5 with time := { s5.time with cutMade := true } }

/-- CUT_NS, and LOCAL_PERIOD in ticks (Table 1-6). -/
def cutNs (s : State) : Nat := getC s GLB.BOUNDARY_CTRL.CUT_NS 50 1000
def localPeriod (s : State) : Nat := us 10 * max 1 (getF s GLB.BOUNDARY_CTRL.LOCAL_PERIOD)

/-- The cut's instant has come (R28): of system time before a strobe's boundary, of the local time base before a local one. -/
def cutTime (s : State) : Bool :=
  if localOn s then decide (10 * (localPeriod s - s.time.ticks % localPeriod s) ≤ cutNs s)
  else match s.time.nextB with | some t => decide (t ≤ s.time.sys + cutNs s) | none => false

/-- BOUNDARY_CUT. -/
def boundaryCut (s : State) : State :=
  if s.time.cutMade || !cutTime s then s
  else cutWork (if localOn s then none else some (s.time.step + 1)) s

/-! ### The swap (R31) -/

/-- What a field does when its new value takes effect. -/
def swapEffects (keys : List Nat) (s : State) : State :=
  let has := fun (f : Fld) => keys.contains f.key
  let reg := fun (f : Fld) => keys.any (fun k => keyOff k == keyOff f.key)
  let s1 := if has GLB.PROBE.VALUE then setF s GLB.PROBE_EFFECTIVE.VALUE (getF s GLB.PROBE.VALUE) else s
  let s2 := if has PSQ.CTRL.REPEATABLE then repeatTake (getB s1 PSQ.CTRL.REPEATABLE) s1 else s1
  let s3 := if has PSQ.CTRL.PRELIFT_EN && !getB s2 PSQ.CTRL.PRELIFT_EN then withdrawLift s2 else s2
  let p := s3.psq
  let s4 := { s3 with psq := { p with
    reactSel := p.reactSel || (p.reactSelW && reg PSQ.REACT_SEL.SEL_VCORE), reactSelW := p.reactSelW && !reg PSQ.REACT_SEL.SEL_VCORE
    reactGuard := p.reactGuard || (p.reactGuardW && reg PSQ.REACT_GUARD.RESERVE_NS)
    reactGuardW := p.reactGuardW && !reg PSQ.REACT_GUARD.RESERVE_NS } }
  let s5 := if has PXE.USER_PERIOD.PERIOD then setF s4 (PXE.SLOT_BUDGET.BUDGET 3) (budgetOf (userPeriod s4) 3) else s4
  if !has PXE.CTRL.USER_HALT then s5
  else if getB s5 PXE.CTRL.USER_HALT then
    (if slotSt s5 3 = 2 then let t := stopSlot 3 3 s5; setPxe { t.pxe with halted := true } t else s5)
  else if slotSt s5 3 = 3 ∧ s5.pxe.halted then setSlotSt 3 2 (setPxe { s5.pxe with halted := false } s5)
  else s5

/-- A loaded program runs; slot 3 under USER_HALT stops instead (R113, Table 4-14). -/
def slotRunNow (slot : Nat) (s : State) : State :=
  if slotSt s slot ≠ 1 then s
  else if slot = 3 ∧ getB s PXE.CTRL.USER_HALT then setSlotSt 3 3 (setPxe { s.pxe with halted := true } s)
  else setSlotSt slot 2 s

/-- A deferred action at its boundary. -/
def actNow (k : ActKind) (s : State) : State :=
  match k with
  | .seqStart => seqStartAct s
  | .seqStop => seqStopAct s
  | .retire n cause => retireAtBoundary n cause s
  | .restore n => restorePhase n s
  | .exclude d => excludeDet d s
  | .planStop => planIdleNow s
  | .jobAttach => s
  | .jobDetach => abandonRounds (setB s GLB.BOUNDARY_STATUS.JOB_ATTACHED false)
  | .cal k g o => calTake k g o s
  | .slotRun slot => slotRunNow slot s
  | .assign x a t => assignNow x a t s
  | .scrubBegin x => scrubBeginNow x s
  | .scrubEnd x => scrubEndNow x s
  | .confMode on => confNow lockedKey (fun t => (List.range 4).foldl (fun u k => capRelease k u) t) on s
  | .sbKey c g k => sbKeyNow c g k s
  | .watch w ev l => watchSet w ev l s
  | .planArm => planEvent 0x0402 (setPlanState planArmed s)
  | .sigLoad => sigLoad s
  | .misc _ _ => s

/-- The packets whose values or actions took effect, and whether anything of them still waits (R355, R359); PLAN_STOP reports the plan
state before it acted. -/
def notifyPkts (got : List (Nat × Nat)) (did : List Nat) (step plan : Nat) (s : State) : State :=
  let waits := fun (id : Nat) => s.pend.any (fun e => e.2.pkt == id) || s.frozen.any (fun e => e.2.pkt == id) ||
    s.held.any (fun e => e.2.pkt == id) || s.acts.any (fun a => a.pkt == id)
  setCmd { s.cmd with pkts := s.cmd.pkts.map (fun p =>
    if p.st ≠ 1 then p
    else
      let ks := (got.filter (fun e => e.2 == p.id)).map (fun e => e.1)
      let now := !ks.isEmpty || did.contains p.id
      let p1 := { p with taken := p.taken ++ ks, doneAt := if now then some step else p.doneAt,
                            detail := if did.contains p.id && p.op == 0x11 then plan else p.detail }
      if waits p.id then p1 else { p1 with st := 4, doneAt := some (p1.doneAt.getD step) }) } s

/-- Values and deferred actions of a swap (R29 to R31). -/
def swapTake (launch : Option Nat) (s : State) : State :=
  let keys := takenKeys launch s
  let got := (s.frozen.filter (fun e => takes s launch e.1 e.2 && e.2.pkt != 0)).map (fun e => (e.1, e.2.pkt))
  let s1 := swapEffects keys (swapValues launch s)
  let due := s1.acts.filter (actTakes launch)
  let s2 := { s1 with acts := s1.acts.filter (fun a => !actTakes launch a) }
  let s3 := due.foldl (fun t a => actNow a.kind t) s2
  notifyPkts got (due.map (fun a => a.pkt)) s.time.step (planState s) s3

/-- The select of a rail that goes into force (R192, R241). -/
def swapSelect (s : State) (k : Nat) : Nat :=
  if k = 0 then (if safeOn s then 0 else getF s LGV.OPP.ENTRY) else requestedSel s (planState s) (curEnt s) k

/-- Selects of the rails; in the safe state the others keep theirs, and VCORE's waits for the exit from a rest state (R192, Table 13-3). -/
def swapSelects (s : State) : State :=
  rails4.foldl (fun t k => if safeOn t ∧ (k ≠ 0 ∨ selectWaits t) then t else applySelect k (swapSelect t k) t) s

/-- The governor's requests, the sheds and the phase targets of the boundary (R197, R200). -/
def swapPhases (s : State) : State :=
  let sheds := shedRails s
  let s1 := shedActions s
  let req := fun (k : Nat) => match k with
    | 0 => getF s LGV.PH_REQ.VCORE | 1 => getF s LGV.PH_REQ.VMEM | _ => getF s LGV.PH_REQ.VLINK
  let plan := planState s == planRunning && getB s PSQ.CTRL.PREPOS_EN
  [0, 1, 2].foldl (fun t k =>
    let t1 := raiseTarget k (setRail t k { railRec t k with req := req k })
    let x := railRec t1 k
    let low := max (max 1 (planFloor t1 k)) (max x.req (max x.react (phasesFor t1 k x.icut)))
    if !pastSoft t1 k then t1
    else if plan then (if sheds.contains k then shedTo k low t1 else t1)
    else shedTo k (max low (phasesFor t1 k (imaxOf t1 k))) t1) s1

/-- Phases by the reactive requirement (R199, Table 13-8): the governor's requests have gone, and what they held is shed. -/
def reactPhases (s : State) : State :=
  [0, 1, 2].foldl (fun t k =>
    let t1 := raiseTarget k (setRail t k { railRec t k with req := 0 })
    if pastSoft t1 k then shedTo k (max 1 (max (planFloor t1 k) (railRec t1 k).react)) t1 else t1) s

/-- Effective cap, CAP_STATE and a step, as SET_CAP and GET_CAP_STATE report them. -/
def capDetail (s : State) (step : Nat) : Nat := getF s LGV.EFF_CAP.EFF_CAP + 4096 * getF s LGV.STATUS.CAP_STATE + 65536 * step

/-- Cap commands that took effect at this boundary report what it leaves (R244). -/
def capStamp (s : State) : State :=
  setCmd { s.cmd with pkts := s.cmd.pkts.map (fun p =>
    if p.op = 0x0C ∧ p.st = 4 ∧ p.detail = 0 then { p with detail := capDetail s (p.doneAt.getD s.time.step) } else p) } s

/-- The swap of a boundary: `launch` is the step that a strobe launches and the launch time it may carry, none at a local boundary. -/
def swap (launch : Option (Nat × Option Nat)) (s : State) : State :=
  let step := launch.map (fun l => l.1)
  let ended := s.time.step
  let fixed := takenKeys step s
  let s1 := match launch with
    | some (n, _) =>
      let t := sigUpdate (drgLatch (ffScheduleComputed s))
      { t with time := { t.time with step := n }, psq := { t.psq with launch := t.time.sys } }
    | none => drgLatch s
  let s2 := swapTake step s1
  let s3 := match step with | some n => planStrobe ended n s2 | none => s2
  let s4 := swapPhases (swapSelects (lgvSwap (estSwap (if step.isSome then lgvRechoose (nextPlan s) s3 else s3))))
  let s5 := if fixed.contains PSQ.CTRL.FIXED_BEAT.key then fixedTake (getB s4 PSQ.CTRL.FIXED_BEAT) s4 else s4
  let s6 := match step with
    | some n =>
      let s5 := if hostAbsentNow s5 then incF s5 FW.ABSENT_COUNTS.STEPS else s5
      balStrobe ended (if n ≠ ended + 1 ∧ jobOn s then floorNext (abandonRounds s5) else s5)
    | none => if sysOk s5 then setBal { s5.bal with prevB := some s5.time.sys } s5 else s5
  let next := match launch with | some (_, t) => if jobOn s6 then nextBoundary t s6 else none | none => none
  let s7 := { s6 with time := { s6.time with nextB := next, cutMade := false }, psq := { s6.psq with sched0 := next } }
  boundShow (snapSplit (capStamp (lgvLaunch launch.isSome s7)))

/-! ### Strobes and local boundaries (R25, R26, R32) -/

/-- JOB_ATTACH packets that wait for their strobe. -/
def attaching (s : State) : List OutPkt := s.cmd.pkts.filter (fun p => p.op == 8 && p.st == 5)

/-- The first accepted strobe attaches the job and completes what asked for it; the completion waits while the interpreter does not run. -/
def attachJob (step : Nat) (s : State) : State :=
  (attaching s).foldl (fun t p => if compOn t 1 then pktComplete p stOk 1 step t else pktDone p.id stOk 1 step t)
    (setB s GLB.BOUNDARY_STATUS.JOB_ATTACHED true)

/-- A strobe is a boundary (R25): a job is attached or asks to be, and system time is valid, since without it local boundaries stay in
use and no job attaches (R24; log entry 62). -/
def strobeHeard (s : State) : Bool := sysOk s && (jobOn s || !(attaching s).isEmpty)
/-- It is not far enough from the one before (R26). -/
def strobeClose (s : State) : Bool := match s.time.lastStrobe with | some t => decide (s.time.ticks < t + us 2) | none => false

/-- STEP_BOUNDARY_STROBE. The cut is made at the strobe where no scheduled time was known (R28); one that a local boundary made while
local boundaries were in use is not the strobe's. -/
def strobe (step : Nat) (launch : Option Nat) (s : State) : State :=
  if !strobeHeard s then s
  else if strobeClose s then sendFault 0x01 0x001 (s.time.ticks - s.time.lastStrobe.getD 0) s
  else
    let s1 := setB (attachJob step s) GLB.BOUNDARY_STATUS.LOCAL_BOUNDARIES false
    let s2 := { s1 with time := { s1.time with lastStrobe := some s.time.ticks, idleSince := s.time.ticks } }
    let s3 := if s2.time.cutMade && !localOn s then s2 else cutWork (some step) s2
    lateWake (swap (some (step, launch)) s3)

/-- LOCAL_BOUNDARY: at a multiple of LOCAL_PERIOD (R32). -/
def localBoundary (s : State) : State :=
  if !localOn s || decide (s.time.ticks % localPeriod s ≠ 0) then s
  else swap none (if s.time.cutMade then s else cutWork none s)

/-- IDLE_MS have passed without a strobe (R32). -/
def strobesStopped (s : State) : Bool :=
  decide (s.time.idleSince + ms (max 11 (getF s GLB.BOUNDARY_CTRL.IDLE_MS)) ≤ s.time.ticks)

/-- BOUNDARY_SOURCE_LOCAL. -/
def sourceLocal (s : State) : State :=
  if localOn s || (jobOn s && sysOk s && !strobesStopped s) then s
  else
    let s1 := setB s GLB.BOUNDARY_STATUS.LOCAL_BOUNDARIES true
    let s2 := ffScheduleComputed s1
    let s3 := { s2 with time := { s2.time with nextB := none, cutMade := false } }
    floorNext (abandonRounds (planPause (event 0x0001 [] s3)))

end Sys2Proof.Machine
end

