-- ==== Sys2Proof/Machine/Live.lean ====
section
/-! DEFINITION. Register fields that show live state of a unit, and the value of a register as an agent's read finds it (R35, R38, R346,
R385, R407). -/

namespace Sys2Proof.Machine

/-- Half of a 64-bit number: the low word at `lo`, the high word elsewhere. -/
def half (v : Nat) (low : Bool) : Nat := if low then v % 2 ^ 32 else v / 2 ^ 32

/-! ### Live fields, by register group -/

/-- The scheduled time of the next boundary, all ones where none is scheduled by a job (R25, R32). -/
def nextBoundaryWord (s : State) : Nat :=
  match (if localOn s then none else s.time.nextB) with | some t => t | none => 2 ^ 64 - 1

/-- RWB fields that hold a pending value: one that a cut has frozen is no longer pending (R29), one that the gate holds out is not yet
(R357). -/
def rwbPending (s : State) : Nat := min 0xFFFF s.pend.length

def liveGlb (s : State) (o lo : Nat) : Option Nat :=
  match o with
  | 0x08 => some (half s.time.sys true)
  | 0x0C => some (half s.time.sys false)
  | 0x10 => some (half s.time.step true)
  | 0x14 => some (half s.time.step false)
  | 0x18 => some (half (nextBoundaryWord s) true)
  | 0x1C => some (half (nextBoundaryWord s) false)
  | 0x28 => some (if lo = 0 then b2n (!s.landing.isEmpty) else rwbPending s)
  | _ => none

/-- Bits `base` upwards of a condition on the phases. -/
def bitsFrom (base : Nat) (p : Nat → Bool) : Nat := (List.range 32).foldl (fun m b => if p (base + b) then setBit m b else m) 0

def liveSns (s : State) (o : Nat) : Option Nat :=
  if inR o 0x10260 0x10270 then some (bitsFrom (8 * (o - 0x10260)) (fun n => decide (n < 98) && phaseOn s n))
  else if o = 0x10A08 then some (aGet 0 s.sns.feats (getF s SNS.ACT_SEL.FEATURE))
  else none

def liveEst (s : State) (o lo : Nat) : Option Nat :=
  if o = 0x20010 ∧ lo = 6 then some (b2n (trustSt s == 1 && getB s EST.CTRL.CAL_EN))
  else if o = 0x20208 then some (half s.est.energy true)
  else if o = 0x2020C then some (half s.est.energy false)
  else none

/-- The work that has the engine: slot 0 first, else the earliest deadline, at equal ones the built-in routines (4) and then the lower slot;
none where nothing runs (R99). -/
def activeWork (s : State) : Option Nat :=
  if (aFind s.pxe.run 0).isSome then some 0
  else
    let cal := match s.est.calDue with | some t => if engineOn s then [(t + ms 1, 4)] else [] | none => []
    match cal ++ s.pxe.run.map (fun e => (e.2 + slotDeadline s e.1, e.1)) with
    | [] => none
    | e :: r => some (r.foldl (fun a x => if x.1 < a.1 then x else a) e).2

/-- The slot in progress. -/
def activeSlot (s : State) : Nat := match activeWork s with | some k => k % 4 | none => 0

def livePxe (s : State) (o lo : Nat) : Option Nat :=
  if o = 0x30010 then
    (match lo with
     | 0 => some (activeSlot s)
     | 2 => some (b2n (match activeWork s with | some k => decide (k < 4) | none => false))
     | 3 => some (b2n (activeWork s == some 4))
     | _ => none)
  else none

/-- Word `w` of window entry `i`; zero beyond the window. -/
def winWord (s : State) (i w : Nat) : Nat := match (planWindow s)[i]? with | some e => nth e.2 w | none => 0

/-- The full value of the largest lift in progress. -/
def liftFull (s : State) : Nat := s.psq.lifts.foldl (fun m l => max m l.full) 0

def livePsq (s : State) (o lo : Nat) : Option Nat :=
  if o = 0x40020 then (match lo with | 5 => some (b2n (s.psq.lift != 0)) | 8 => some (planWindow s).length | _ => none)
  else if o = 0x40060 then some (if lo = 0 then s.psq.lift / 125000 else liftFull s / 125000)
  else if o = 0x40064 then some (planFloor s (lo / 8))
  else if inR o 0x42000 0x42200 then some (winWord s ((o - 0x42000) / 16) (o % 16 / 4))
  else none

def liveDrg (s : State) (o lo : Nat) : Option Nat :=
  if o = 0x50010 ∧ lo = 8 then some (worstRegion s)
  else if o = 0x50014 then some (chipLate s)
  else if inR o 0x50100 0x50200 then some (lateOf s ((o - 0x50100) / 4))
  else if inR o 0x50200 0x50300 then
    let r := (o - 0x50200) / 4
    (match lo with | 0 => some (regionOf s r).stretch | 6 => some (b2n (holding s r)) | _ => some (longestHold s r))
  else none

/-- Phases Regulating or ramping out. -/
def regCount (s : State) (k : Nat) : Nat :=
  ((phasesOf k).filter (fun n => phaseSt s n == .regulating || (phaseSt s n).isOut)).length

/-- The code of a phase's state in PHASE_STATE. -/
def phaseCode (s : State) (n : Nat) : Nat :=
  match phaseSt s n with | .off => 0 | .standby => 0 | .rampIn _ => 1 | .regulating => 2 | .rampOut _ _ => 1 | .retired => 3

def phaseStateWord (s : State) (w : Nat) : Nat :=
  (List.range 16).foldl (fun m b => if 16 * w + b < 98 then m + 2 ^ (2 * b) * phaseCode s (16 * w + b) else m) 0

def livePhc (s : State) (o lo : Nat) : Option Nat :=
  if inR o 0x60040 0x60050 then
    let k := (o - 0x60040) / 4
    (match lo with
     | 4 => some (regCount s k)
     | 12 => let x := railRec s k; some (b2n (x.ramping && x.delay == 0 && x.ref != x.tgt))
     | 14 => some (b2n (k == 0 && s.phc.burst.isSome))
     | 16 => some (regRef s k / 500000)
     | _ => none)
  else if inR o 0x60060 0x6007C then some (phaseStateWord s ((o - 0x60060) / 4))
  else
    match o, lo with
    | 0x60018, 1 => some (b2n (safeOn s))
    | 0x60050, 4 => some (getF s PHC.CTRL.SEL_SRC)
    | 0x60054, _ => some (availOf s (lo / 8))
    | 0x6040C, 9 => some (b2n s.phc.pwrFailN)
    | _, _ => none

def liveTmg (s : State) (o lo : Nat) : Option Nat :=
  if o = 0x80010 ∧ lo = 5 then some (b2n (emergency s))
  else if inR o 0x80100 0x80200 ∧ lo = 16 then some (ux 16 (forecastOf s ((o - 0x80100) / 4)))
  else none

def liveSta (s : State) (o lo : Nat) : Option Nat :=
  match o, lo with
  | 0xA0010, 8 => some (b2n s.sta.idle1)
  | 0xA0010, 12 => some (allowedMask s)
  | _, _ => none

/-- Packets in `n` slots of a ring from the slot at HEAD + `i` on, counted by their LEN. -/
def countPkts (s : State) (q : Nat) : Nat → Nat → Nat → Nat
  | 0, _, _ => 0
  | fuel + 1, i, n =>
    if n ≤ i then 0
    else
      let len := nth (memBytes s.cmd.win (64 * (ringBase s q + (ringHead s q + i) % ringSize s q)) 4) 3 % 64 + 1
      1 + countPkts s q fuel (i + len) n

def queuedPkts (s : State) (q : Nat) : Nat := let n := waitSlots s q; countPkts s q n 0 n

def liveFw (s : State) (o lo : Nat) : Option Nat :=
  if o = 0xB0000 ∧ lo = 4 then some (min 15 (recentRestarts s).length)
  else if o = 0xB0018 ∧ lo = 16 then some (sinceAlive s)
  else if o = 0xB0028 ∧ lo = 0 ∧ hostAbsentNow s then some (absentMs s)
  else if o = 0xB0028 ∧ lo = 24 ∧ hostAbsentNow s then some (getF s PSQ.STATUS.PLAN_STATE)
  else if inR o 0xB0040 0xB0060 ∧ lo = 16 then some (compAge s ((o - 0xB0040) / 4))
  else if inR o 0xB0084 0xB00C4 ∧ lo = 16 then
    some (min 0xFFFF ((ringsOf ((o - 0xB0084) / 4 + 1)).foldl (fun n q => n + queuedPkts s q) 0))
  else if o = 0xB0104 then (match lo with | 17 => some (b2n (confOn s)) | 18 => some (b2n (mirrorOn s)) | _ => none)
  else if inR o 0xB0120 0xB0140 then (if confOn s then some 0 else none)
  else if inR o 0xB8000 0xC0000 then some (memLE s.fw.log (32768 * getF s FW.LOG_CTRL.PAGE + (o - 0xB8000)) 4)
  else none

/-- Byte address in the command window of a word as an agent's page shows it (R346). -/
def winAddr (s : State) (agent o : Nat) : Nat := 32768 * (aGet 0 s.bus.page (agentKey agent 0xC0008) % 16) + (o - 0xC8000)

def liveCmd (s : State) (agent o lo : Nat) : Option Nat :=
  if o = 0xC0004 then
    (match lo with | 0 => some s.cmd.pkts.length | 16 => some (b2n (decide (16384 ≤ s.cmd.pkts.length))) | _ => none)
  else if o = 0xC0008 then some (aGet 0 s.bus.page (agentKey agent 0xC0008))
  else if o = 0xC0020 ∧ lo = 1 then some (b2n (!s.held.isEmpty))
  else if inR o 0xC1000 0xC2200 ∧ o % 64 = 0x18 ∧ lo = 0 then some (ringShown s ((o - 0xC1000) / 64))
  else if inR o 0xC1000 0xC2200 ∧ o % 64 = 0x18 ∧ lo = 16 then some (min 0xFFFF (outOf s ((o - 0xC1000) / 64)).length)
  else if inR o 0xC8000 0xD0000 then some (memLE s.cmd.win (winAddr s agent o) 4)
  else none

def liveEvr (s : State) (agent o lo : Nat) (tag : Bool) : Option Nat :=
  if o = 0xD002C then some (half (hours1024 s) true)
  else if o = 0xD0030 then some (half (hours1024 s) false)
  else if o = 0xD0038 then some (winCtrl s agent / 2 ^ lo)
  else if o = 0xD0084 ∧ lo = 5 then some (b2n (confOn s))
  else if inR o 0xD8000 0xE0000 then some (evrWord s agent ((o - 0xD8000) / 4) tag)
  else none

/-- Level of the ALERT_N pin, and whether the test override is in force (R463). -/
def overrideOn (s : State) : Bool := getB s TST.CTRL.OVERRIDE && rails4.all (fun k => railSt s k == rsOff)
def alertHigh (s : State) : Bool := !s.pmb.alert && !(overrideOn s && !getB s TST.PIN_OUT.ALERT_N)
/-- Levels of HB and THERMTRIP_N at their pins. -/
def hbPin (s : State) : Bool := if overrideOn s then getB s TST.PIN_OUT.HB else getB s FLC.STATUS.HB_LEVEL
/-- The level that the override drives on STG_TLM_CK; none where the pin carries its 10 MHz clock (R447). -/
def tlmCkPin (s : State) : Option Bool :=
  if overrideOn s then some (getB s TST.PIN_OUT.STG_TLM_CK) else if !s.phc.resetN then some false else none
def tripPin (s : State) : Bool := !s.phc.tripLow && !(overrideOn s && !getB s TST.PIN_OUT.THERMTRIP_N)

/-- The test group; the levels of STG_TLM_D, SCL and SDA are inputs that no command carries, and free values (log entry 26). -/
def liveTst (s : State) (o lo : Nat) : Option Nat :=
  if o = 0xF0004 then some (b2n (overrideOn s))
  else if o = 0xF0008 then
    (match lo with
     | 0 => some (getF s PHC.VSEL.PINS)
     | 4 => some (b2n s.phc.pwrFailN)
     | 8 => some (b2n (alertHigh s))
     | _ => some (freeVal s / 2 ^ lo))
  else if inR o 0xF0010 0xF0020 then some (s.phc.phFault / 2 ^ (8 * (o - 0xF0010)))
  else none

/-- The value of a field that shows live state; `tag` is the verdict on a log granule the read shows. -/
def liveField (s : State) (agent k : Nat) (tag : Bool) : Option Nat :=
  let o := keyOff k; let lo := keyLo k
  match o / 0x10000 with
  | 0x0 => liveGlb s o lo
  | 0x1 => liveSns s o
  | 0x2 => liveEst s o lo
  | 0x3 => livePxe s o lo
  | 0x4 => livePsq s o lo
  | 0x5 => liveDrg s o lo
  | 0x6 => livePhc s o lo
  | 0x7 => if o = 0x70070 ∧ lo = 4 then some (limitedBy s) else none
  | 0x8 => liveTmg s o lo
  | 0x9 => if o = 0x90040 ∧ lo = 8 then some (selfMask s) else none
  | 0xA => liveSta s o lo
  | 0xB => liveFw s o lo
  | 0xC => liveCmd s agent o lo
  | 0xD => liveEvr s agent o lo tag
  | 0xE => if o = 0xE1004 ∧ lo = 16 then some (confirmLeft s) else none
  | 0xF => liveTst s o lo
  | _ => none

/-! ### A register as an agent reads it -/

/-- The value last written to an RW or RWB field: a low word that waits for its high word has been written, and is what a read returns
though it has not landed. R8 asks for the value most recently written; that a held word counts as written is the model's choice (DESIGN
CHOICE, log entry 63). -/
def lastWritten (s : State) (o : Nat) (f : FldDesc) : Nat :=
  match aFind s.bus.low o with
  | some w => bits w f.lo f.w
  | none => readBack s (32 * o + f.lo)

/-- One field as a read shows it: WO bits read zero, RW and RWB fields what was written last (R8). -/
def fieldRead (s : State) (agent o : Nat) (tag : Bool) (f : FldDesc) : Nat :=
  let k := 32 * o + f.lo
  let v :=
    match f.acc with
    | .wo => 0
    | .rw | .rwb => match liveField s agent k tag with | some x => x | none => lastWritten s o f
    | _ => match liveField s agent k tag with | some x => x | none => readBack s k
  2 ^ f.lo * (v % 2 ^ f.w)

/-- The word of a register before anything is hidden. -/
def rawWord (s : State) (agent o : Nat) (tag : Bool) : Nat := (fieldsAt o).foldl (fun v f => v + fieldRead s agent o tag f) 0

/-- Signed `w`-bit value at `lo`, rounded down to whole degrees. -/
def wholeC (v lo w : Nat) : Nat :=
  let t := sx w (bits v lo w)
  v - 2 ^ lo * bits v lo w + 2 ^ lo * ux w (16 * (t / 16))

/-- The bits of a register that are a current, which the BMC bridge reads as zero (Table 17-5). -/
def currentMask (o : Nat) : Nat :=
  if inR o 0x10000 0x10188 then 0x3FFFFFF
  else if inR o 0x10200 0x10220 || inR o 0x20020 0x20050 || inR o 0x20080 0x200B0 || inR o 0x700A0 0x700E0 then 0xFFFFF
  else if o == 0x10244 then 0xFFF
  else if inR o 0x20100 0x20200 then 0xFFFF
  else if inR o 0x24000 0x28000 then 0xFFFFFFFF
  else 0

/-- Coarse chip power and input power in 0.125 W, by column. -/
def coarseChip (s : State) (col : Nat) : Nat :=
  8 * (if col = 2 then nearestW s.est.p100mean 32000 50 else nearestW s.est.p10mean 32000 25)
def coarseIn (s : State) (col : Nat) : Nat :=
  8 * (if col = 2 then nearestW s.est.pin100mean 800000 50 else nearestW s.est.pin10mean 800000 25)

/-- Housekeeping channels that are temperatures. -/
def isTempCh (o : Nat) : Bool := inR o 0x11000 0x11800 || inR o 0x11C00 0x11D8C || o == 0x11D90

/-- What the BMC bridge finds of a register: currents zero, powers coarse, temperatures in whole degrees (Table 17-5). -/
def bmcWord (s : State) (col o v : Nat) : Nat :=
  let v1 := without v (currentMask o)
  if o = 0x1024C then coarseChip s col
  else if o = 0x10248 then coarseIn s col
  else if o = 0x7007C then v - v % 2 ^ 16 + coarseChip s col % 2 ^ 16
  else if isTempCh o ∨ o = 0x80014 ∨ o = 0x80018 then wholeC v1 0 16
  else if inR o 0x80100 0x80200 then wholeC (wholeC v1 0 16) 16 16
  else v1

/-- The word an agent finds once its column of Table 17-5 and Table 17-4 have been applied; chip power and energy are coarse in
confidential mode for every agent (R92). -/
def hidden (s : State) (agent o v : Nat) : Nat :=
  let col := columnOf s agent
  if col = 0 then v
  else if o = 0x20200 ∨ o = 0x20204 then coarseChip s col % 2 ^ 16
  else if o = 0x20208 ∨ o = 0x2020C then half ((if col = 2 then s.est.p100e else s.est.p10e) / 1000000 * 1000000) (o == 0x20208)
  else
    let v1 := if agent = 2 then bmcWord s col o v else if o = 0x80014 then wholeC v 0 16 else v
    if confOn s then without v1 (lockMask o) else v1

end Sys2Proof.Machine
end

