-- ==== Sys2Proof/Machine/Reset.lean ====
section
/-! DEFINITION. Resets, the exit from the deep rest states, and the retention table (R309 to R312, R316, Table 13-8). -/

namespace Sys2Proof.Machine

/-- Registers whose values a reset keeps; the last written values of the others go too. -/
def keepRegs (p : Nat → Bool) (s : State) : State := { s with regs := s.regs.filter (fun e => p e.1), wrote := [] }

/-- Live signals of class H that a chip reset or block restart does not touch: selects, duty and BUS_EN of rails that keep regulating, the
VSEL latch, trip comparators and droop levels (R311, Table 13-8). -/
def keptLive (k : Nat) : Bool :=
  let o := keyOff k
  inR o 0x60040 0x60050 || inR o 0x600B0 0x600C0 || o == 0x60050 || k == PHC.SEQ_STATUS.BUS_EN.key ||
    (inR o 0x10800 0x10900 && keyLo k == 0) || inR o 0x80240 0x80280 || k == TMG.STATUS.TRIP_SINGLE.key

/-- Everything that waits for a boundary or for its application is gone; landed RW values count as written. -/
def dropWork (s : State) : State :=
  let s1 := applyLanding s
  { s1 with pend := [], frozen := [], held := [], acts := [] }

/-- Accept what waits at the collector and the recorder, `n` arrivals at most. -/
def drain : Nat → State → State
  | 0, s => s
  | n + 1, s => match s.inbox with | [] => s | a :: _ => drain n (if a.isRec then recordPost s else faultMessage s)

/-- Time and steps after a reset: local boundaries, no step, system time invalid until the link layer reports it. -/
def timeReset (s : State) : State :=
  { s with time := { s.time with sys := 0, step := 0, nextB := none, lastStrobe := none, idleSince := s.time.ticks, cutMade := false } }

/-- The units whose live state starts afresh after any reset. -/
def unitsReset (s : State) : State :=
  { s with
    sns := { SnsState.reset with det := s.sns.det, stuck := s.sns.stuck, stuckSent := s.sns.stuckSent }
    psq := PsqState.reset
    lgv := { LgvState.reset with avail := rails4.map (availOf s) }
    tmg := TmgState.reset
    sta := StaState.reset
    pxe := PxeState.reset }

/-- The drop of what the management plane holds: rings, contexts, component states, counts (class B). -/
def mgmtReset (s : State) : State :=
  let s1 := { s with
    fw := { FwState.reset with aliveAt := s.time.ticks, absentAt := s.time.ticks, genSet := s.fw.genSet }
    cmd := { CmdState.reset with nextId := s.cmd.nextId, vecs := s.cmd.vecs, xfers := s.cmd.xfers.filter (fun e => decide (16 ≤ e.1)) }
    flc := { FlcState.reset with out := s.flc.out, hbAt := s.flc.hbAt }
    bus := { BusState.reset with rdata := s.bus.rdata }
    msgSeq := []
    inbox := []
    lostMsg := 0
    lostRec := 0 }
  pmbReset s1

/-- The recorder's buffer is empty; what flash holds stays. -/
def evrReset (s : State) : State :=
  showOldest { s with evr := { s.evr with buf := [], ecc := [], grans := [], opened := false, started := false, lost := none, flush := 0,
                                          job := [], head := [], again := 0, faultAt := none, snaps := [], snapAt := [] } }

/-- The record of a reset: kind, count of chip resets and block restarts, agent of a block restart. -/
def resetRecord (kind : Nat) (agent : Option Nat) (s : State) : State :=
  let s1 := setF s STA.RESET_STATUS.LAST_RESET kind
  let s2 := if 2 ≤ kind then incF s1 STA.RESET_STATUS.RESTARTS else s1
  match agent with | some a => setF s2 STA.RESET_STATUS.AGENT a | none => s2

/-! ### Chip reset and block restart (R311, R312) -/

/-- Step 1: an attached job is told by a late notice. -/
def resetNotice (s : State) : State := if jobOn s then lateHold s else s

/-- Steps 2 and 3: what has been sent is accepted, the buffer goes to flash, the beats are held. -/
def resetFlush (s : State) : State := holdBeats (flushNow 3 (drain (s.inbox.length + 512) s))

/-- A plan that a reset ends records its transition to IDLE (Table 6-4). -/
def planStopped (old s : State) : State :=
  if planState old = planIdle then s else event 0x0401 (toLE 4 (getF old PSQ.PLAN_ID.PLAN_ID)) s

/-- Step 4: classes B and H take their values; the rails keep regulating on the select of R192, with phases by the reactive
requirement; a comparator that stays tripped holds the ceiling down (R263). -/
def resetValues (s : State) : State :=
  let e := s.est
  let s1 := keepRegs (fun k => clsAt k == .a || clsAt k == .f || keptLive k) (dropWork s)
  let s2 := evrReset (mgmtReset (unitsReset (timeReset s1)))
  let s3 := setB { s2 with
    est := { EstState.reset with energy := e.energy, eFrac := e.eFrac }
    drg := { DrgState.reset with rate := s.drg.rate, rate0 := s.drg.rate, holdAll := true, holdAllAt := s.drg.holdAllAt, sent := s.drg.sent }
    phc := { s2.phc with hotRun := [], imbRun := [], imbDep := [] }
    fw := { s2.fw with genSet := false } } LGV.CAP_AT_STEP_HI.ARMED false
  let s4 := rails4.foldl (fun t k => applySelect k (requestedSel t planIdle [] k) (setB t (PHC.RAIL_STATUS.SHED_INH k) false))
    (balClear (droopRestart s s3))
  let s5 := planStopped s (boundShow (reactPhases s4))
  if (List.range 512).any (isTripped s5) && !twoTripped s5 then singleTrip s5 else s5

/-- Step 5: the beats run again at the rate that the new select and the ceilings leave. -/
def resetRelease (s : State) : State := let t := regate s; releaseBeats (setLaunchRate (setRate (rateNow t) t))

/-- The restart sequence: kind 2 a chip reset, kind 3 a block restart asked for by an agent. -/
def restartNow (kind agent : Nat) (s : State) : State :=
  let s1 := resetRelease (resetValues (resetFlush (resetNotice s)))
  let s2 := resetRecord kind (if kind = 3 then some agent else none) s1
  if kind = 3 then event 0x0A04 [agent] s2 else s2

/-- A request waits for the end of a firmware gap (R438) and of a rest state (Table 13-3). -/
def restart (kind agent : Nat) (s : State) : State :=
  if updState s = updGap then setUpd { s.upd with resetDue := some (kind, agent) } s
  else if atRest s then wakeBegin (setUpd { s.upd with resetDue := some (kind, agent) } s)
  else restartNow kind agent s

/-- A restart that has waited is performed. -/
def resetOwed (s : State) : State :=
  match s.upd.resetDue with
  | some (k, a) => if updState s = updGap ∨ atRest s then s else restartNow k a (setUpd { s.upd with resetDue := none } s)
  | none => s

/-- BLOCK_RESTART: the code written by the host driver, the BMC bridge or the main core. -/
def blockRestart (agent val : Nat) (s : State) : State :=
  if val % 65536 = 0x4AB5 ∧ (agent = 0x01 ∨ agent = 0x02 ∨ agent = 0x40) then restart 3 agent s else s

/-- CHIP_RESET. -/
def chipReset (s : State) : State := restart 2 0 s

/-! ### Module reset and cold start (R309, R310) -/

/-- MODULE_RESET: the rails take a quick stop, every output is held (a hold of R21 ends), THERMTRIP_N and the trip record are released, the safe state ends and
the cores stop. -/
def moduleReset (s : State) : State :=
  if !s.phc.resetN then s
  else
    let s1 := quickStop { s with phc := { s.phc with resetN := false, inReset := true, allLow := false, restart := false, tripLow := false } }
    let s2 := setB (setB (setB s1 TMG.TRIP.TRIPPED false) PHC.SEQ_STATUS.BUS_EN false) STA.SAFE_STATUS.SAFE false
    let s3 := setB (hbStop (setF s2 STA.SAFE_STATUS.CAUSE 0)) FLC.STATUS.HB_LEVEL false
    pmbReset ([0, 1, 2, 3].foldl (fun t k => setCore k crHeld t)
      (setComps (List.range 8) coStopped (setF (wdtStop s3) FW.STATUS.RUN_STATE runBoot)))

/-- What shows the seed and the identity derived from it: the seed stays on VAON until the next cold start (R409; DEDUCED, log entry 102). -/
def seedKey (k : Nat) : Bool := k == SEC.STATUS.PUF_OK.key || inR (keyOff k) 0xE0100 0xE0160

/-- The values of a module reset and a cold start: every field not of class F takes its reset value (Table 13-8); `seed` keeps what shows
the seed. -/
def coldValues (seed : Bool) (s : State) : State :=
  let u := s.upd
  let s1 := keepRegs (fun k => clsAt k == .f || (seed && seedKey k)) (dropWork s)
  let s2 := mgmtReset (unitsReset (timeReset { s1 with phc := PhcState.reset, sns := SnsState.reset }))
  let s3 := setW (setEvr { s2.evr with snaps := [] } s2) EVR.NEXT_SEQ_LO.SEQ EVR.NEXT_SEQ_HI.SEQ s.evr.bound
  let s4 := keepBound (evrReset s3)
  { s4 with
    est := EstState.reset
    drg := DrgState.reset
    bal := BalState.reset
    sec := { s.sec with kxDraw := false }
    phc := { s4.phc with pwrFailN := s.phc.pwrFailN, resetN := s.phc.resetN, inReset := !s.phc.resetN, phFault := s.phc.phFault,
                          vselFrom := (s.time.ticks + 24) / 25 * 25 + 75 }
    fw := { s4.fw with genSet := true }
    upd := { UpdState.reset with slots := u.slots, trial := u.trial, acted := u.acted, oldBank := u.oldBank } }

/-- What follows in every cold start and module reset: GENERATION, the reset record, and the sequencer by AUTO_START (R216, R337). -/
def coldGo (kind : Nat) (s : State) : State :=
  let s1 := setF (resetRecord kind none s) FW.GENERATION.GENERATION (nextSeq s)
  let s2 := showActive s1
  if s2.phc.resetN ∧ getB s2 PHC.SEQ_CTRL.AUTO_START then beginStart s2 else s2

/-- MODULE_RESET_RELEASE. -/
def moduleRelease (s : State) : State :=
  if s.phc.resetN then s else coldGo 1 (planStopped s (coldValues true { s with phc := { s.phc with resetN := true } }))

/-- COLD_START: VAON has risen from below 0.50 V. -/
def coldStart (s : State) : State :=
  let s1 := coldValues false { s with free := s.free, time := { s.time with hours := s.evr.savedHours, vaonLow := false } }
  let s2 := incF { s1 with sec := { s1.sec with pufDue := true } } EVR.CYCLES.CYCLES
  coldGo 0 s2

/-! ### REST_EXIT -/

/-- The class H fields among some offsets take their reset values. -/
def dropH (p : Nat → Bool) (s : State) : State :=
  { s with regs := s.regs.filter (fun e => !(clsAt e.1 == .h && p (keyOff e.1))) }

/-- The trust state after an exit: Measured-only, the latch and the counts zero (R87). -/
def trustZero (s : State) : State :=
  let s1 := if trustSt s = 2 ∧ !getB s EST.TRUST_STATUS.PENDING_VALID then s else trustEnter 2 s
  let s2 := setF (setB s1 EST.TRUST_STATUS.MISMATCH_LATCH false) EST.CAL_STATUS.SUBST_RUN 0
  let s3 := setF (setF (setF s2 EST.TRUST_COUNT.DIS_RUN 0) EST.TRUST_COUNT.AGREE_RUN 0) EST.TRUST_COUNT.SHADOW_RUN 0
  setEst { s3.est with results := 0, row := 0, liftWait := false } s3

/-- The governor's windows restart from zero, the ceiling at 1.50 GHz and the duty at 16/16; THERM_LIM, the choice and the step's own sums
stay (Table 13-8). -/
def lgvZero (s : State) : State :=
  let s1 := setB (setF (setF s LGV.OPP.PROT_CEIL 150) LGV.STATUS.DUTY 16) LGV.STATUS.PROT_ACTIVE false
  let g := s1.lgv
  setLgv { LgvState.reset with govI := g.govI, dSum := g.dSum, dN := g.dN, dMax := g.dMax, pk := g.pk, chosen := g.chosen, reqNext := g.reqNext,
                               f0 := g.f0, capMet := g.capMet, byTherm := g.byTherm, byCap := g.byCap, avail := g.avail,
                               advCut := g.advCut, caps := g.caps } s1

/-- What an exit from Retain or Dormant leaves (R10, last column of Table 13-8). -/
def deepExit (s : State) : State :=
  let s2 := (List.range 98).foldl (fun t n => setF t (PHC.OC_COUNT.COUNT n) 0)
    (setF (setF (setF (trustZero s) SNS.XCHK_STATUS.OUT_COUNT 0) PHC.BURST_STATUS.COUNT 0) PHC.SHED_STATUS.ABORTS 0)
  let s3 := lgvZero (dropH (fun o => inR o 0x700A0 0x700E0) (setSns { s2.sns with inRun := 0 } s2))
  reactPhases (floorNext (balClear (abandonRounds s3)))

/-- Lateness, holds and the effective reserve count from zero, and the droop guard's other live values with them (R10, Table 13-8). -/
def latenessZero (s : State) : State :=
  let s1 := dropH (fun o => inR o 0x50000 0x60000) s
  { s1 with drg := { s1.drg with regions := s1.drg.regions.map (fun e => (e.1, { e.2 with late := 0 })), hist := [], pendExt := 0, ownDuty := 0,
                                 lateHold := false, noHold := false, duty := [] } }

/-- No rest state has ended at once. -/
def clearEnds (s : State) : State := setSta { s.sta with endDeep := false, endLate := false } s

/-- A rest state has ended at once: beats held for a late wake are given to the gate, but those that a trip holds stay (R262), and a deep
state's exit leaves its values (R87, Table 13-3, Table 13-8). -/
def restEnded (s : State) : State :=
  let s1 := clearEnds s
  let s2 := if s.sta.endLate && !getB s TMG.TRIP.TRIPPED then releaseBeats s1 else s1
  if s.sta.endDeep then deepExit (if s.sta.endLate then s2 else latenessZero s2) else s2

/-- REST_EXIT: the exit steps are complete; a restart that waited follows. -/
def restExit (s : State) : State :=
  if !exitReady s then s
  else
    let deep := s.sta.exitOf = 3 ∨ s.sta.exitOf = 4
    let late := s.sta.late
    let s1 := exitDone s
    let s2 := if deep then deepExit (if late then s1 else latenessZero s1) else s1
    resetOwed (refreshRate s2)

end Sys2Proof.Machine
end

