-- ==== Sys2Proof/Machine/Bus.lean ====
section
/-! DEFINITION. The management bus: rights, reads and writes of the register window (R34 to R39, R325, R398, R399). -/

namespace Sys2Proof.Machine

def setBus (b : BusState) (s : State) : State := { s with bus := b }

/-! ### Rights -/

/-- A word of the command window, as an agent's page shows it, lies in one of the spans of enabled rings. -/
def winIn (s : State) (agent o : Nat) (qs : List Nat) (cq : Bool) : Bool :=
  let a := winAddr s agent o
  qs.any (fun q => ringSt s q != ringDisabled &&
    ((ringSpans s q).take (if cq then 2 else 1)).any (fun x => decide (x.1 ≤ a) && decide (a + 4 ≤ x.2)))

def isWin (o : Nat) : Bool := inR o 0xC8000 0xD0000

/-- May an agent read a register (Table 17-1)? -/
def mayRead (s : State) (agent o : Nat) : Bool :=
  if agent = 0x01 ∨ (0x40 ≤ agent ∧ agent ≤ 0x43) then true
  else if agent = 0x02 then decide (o < 0xF0000)
  else
    match proxyOf agent with
    | none => false
    | some x =>
      partAssigned s x &&
        (decide (o < 0x50) || o == 0xE0A00 + 4 * (x - 1) || o == 0xE0A40 + 4 * (x - 1) ||
          (match ringReg o with | some q => (ringsOf x).contains q | none => false) ||
          (mbxReg o == some (x + 15) && decide (o % 16 < 12)) || (isWin o && winIn s agent o (ringsOf x) true))

/-- May an agent write a register (Tables 17-1, 14-3)? -/
def mayWrite (s : State) (agent o : Nat) : Bool :=
  if agent = 0x01 then true
  else if 0x40 ≤ agent ∧ agent ≤ 0x43 then coreMayWrite agent o
  else if agent = 0x02 then
    o == 0xC3084 || o == 0xC11C8 || o == 0xC11D0 || o == 0xC0008 || o == 0xA0020 || (isWin o && winIn s agent o [7] true)
  else
    match proxyOf agent with
    | none => false
    | some x =>
      partAssigned s x &&
        ((match ringReg o with | some q => (ringsOf x).contains q && (o % 64 == 8 || o % 64 == 16) | none => false) ||
          o == 0xC0008 || o == 0xC3004 + 16 * (x + 15) || (isWin o && winIn s agent o (ringsOf x) false))

/-- A denied access: DENIED, the capture of the first, and the fault at most once a second for each agent (R399); a denied doorbell is
also counted (R348). -/
def deny (agent o : Nat) (write : Bool) (s : State) : State :=
  let s1 := if getB s SEC.STATUS.DENIED then s
    else setB (setF (setF s SEC.DENY_INFO.AGENT agent) SEC.DENY_INFO.OFFSET o) SEC.DENY_INFO.WRITE write
  let s2 := setB s1 SEC.STATUS.DENIED true
  let quiet := match aFind s.bus.denied agent with | some t => decide (s.time.ticks < t + ms 1000) | none => false
  if quiet then s2
  else sendFault 0xE1 0xE10 (agent + 256 * o + 2 ^ 31 * b2n write)
         (setBus { s2.bus with denied := aIns s2.bus.denied agent s.time.ticks } s2)

/-- An access that R37 turns away. -/
def busError (flag : Fld) (agent o : Nat) (s : State) : State :=
  let first := !getB s GLB.BUS_ERR_STATUS.UNMAPPED && !getB s GLB.BUS_ERR_STATUS.PARTIAL_WRITE
  let s1 := if first then setF (setF s GLB.BUS_ERR_ADDR.OFFSET o) GLB.BUS_ERR_STATUS.FIRST_AGENT agent else s
  setB s1 flag true

/-! ### Wide values (R38) -/

/-- The low words of the values wider than 32 bits; the high word follows at the next offset. -/
def isLow (o : Nat) : Bool :=
  [0x8, 0x10, 0x18, 0x44, 0x20208, 0x40030, 0x40040, 0x50020, 0x70008, 0x90018, 0x90020, 0x90034, 0x90044, 0x9004C, 0x90054, 0xB0020,
   0xB0110, 0xC0024, 0xD0008, 0xD0010, 0xD0018, 0xD002C, 0xD008C, 0xE0010, 0xE1008].contains o ||
    (inR o 0x90100 0x90180 && o % 8 == 0) || (inR o 0xE0800 0xE0900 && o % 16 == 0)
def isHigh (o : Nat) : Bool := decide (4 ≤ o) && isLow (o - 4)

/-! ### Reads -/

/-- The value an RC field restarts from: a longest or deepest value from the present one (Table 0-4). -/
def rcRestart (s : State) (k : Nat) : Nat :=
  let o := keyOff k
  if inR o 0x10800 0x10900 ∧ keyLo k = 4 then getF s (SNS.REGION_DROOP.LEVEL ((o - 0x10800) / 4))
  else if inR o 0x50200 0x50300 then
    let r := (o - 0x50200) / 4
    if holding s r then min 0xFFFF (s.time.ticks - holdFrom s r) else 0
  else if k = PHC.BURST_STATUS.LONGEST.key then (match s.phc.burst with | some t => min 255 (s.time.ticks - t) | none => 0)
  else if inR o 0x30060 0x30070 then
    (match aFind s.pxe.run ((o - 0x30060) / 4) with | some t => min 0xFFFF (s.time.ticks - t) | none => 0)
  else 0

/-- The RC fields of a register restart (R7). -/
def clearRc (o : Nat) (s : State) : State :=
  ((fieldsAt o).filter (fun f => f.acc == .rc)).foldl (fun t f => setF t ⟨32 * o + f.lo, f.w⟩ (rcRestart t (32 * o + f.lo))) s

/-- What a read of block SRAM through a window leaves: a correctable word is counted; an uncorrectable one reads a free value (log
entry 2). -/
def sramRead (w : Nat) (s : State) : State :=
  match sramCheck s w 1 with
  | 0 => s
  | 1 => incF s (FW.CORE_STATUS.CORRECTED 0)
  | _ => freeNext (setBus { s.bus with rdata := freeVal s % 2 ^ 32 } s)

/-- The verdict on the log granule that a read shows: given, or a free value. -/
def tagOf (s : State) (tag : Option Bool) : Bool := match tag with | some b => b | none => freeVal s % 2 == 1

/-- The effects of a read by an agent that may read the register. -/
def readEffects (agent o : Nat) (tag : Option Bool) (s : State) : State :=
  if isWin o then sramRead (winAddr s agent o / 4) s
  else if inR o 0xB8000 0xC0000 then sramRead (131072 + (32768 * getF s FW.LOG_CTRL.PAGE + (o - 0xB8000)) / 4) s
  else if inR o 0xD8000 0xE0000 then
    let t := evrWinRead agent ((o - 0xD8000) / 4) (tagOf s tag) s
    if tag.isNone ∧ bit (winCtrl s agent) 4 then freeNext t else t
  else if o = 0xF0008 then freeNext s
  else if isLow o then
    let hi := hidden s agent (o + 4) (rawWord s agent (o + 4) false)
    setBus { s.bus with snap := aIns s.bus.snap (agentKey agent (o + 4)) hi } s
  else clearRc o s

/-- A read of a register by an agent: the word is left in `bus.rdata`. -/
def busRead (agent o : Nat) (tag : Option Bool) (s : State) : State :=
  let zero := setBus { s.bus with rdata := 0 } s
  if !mayRead s agent (o / 4 * 4) then deny agent o false zero
  else if !mapped o then busError GLB.BUS_ERR_STATUS.UNMAPPED agent o zero
  else if inR o 0xC3000 0xC3200 ∧ o % 16 = 4 then
    let r := mbxRead agent ((o - 0xC3000) / 16) s
    setBus { r.1.bus with rdata := r.2 } r.1
  else
    let live := hidden s agent o (rawWord s agent o (tagOf s tag))
    let v := if isHigh o then (match aFind s.bus.snap (agentKey agent o) with | some x => x | none => live) else live
    readEffects agent o tag (setBus { s.bus with rdata := v } s)

/-! ### Writes -/

/-- Registers that only the host driver changes; a write by another agent that holds the group is ignored (R347, R368, R418, R440, R463). -/
def hostOnly (o : Nat) : Bool :=
  (inR o 0xC3000 0xC3200 && o % 16 == 0) || o == 0xE0008 || inR o 0xE0300 0xE0380 || inR o 0xE0800 0xE0900 || o == 0xE1000 ||
    inR o 0xF0000 0x100000

/-- Registers that one core's firmware alone changes (R233, R295, R357). -/
def coreOnly (agent o : Nat) : Bool :=
  (o == 0x70060 && agent != 0x41) || (inR o 0x90030 0x9003C && agent != 0x42) || (inR o 0xC0020 0xC002C && agent != 0x40)

/-- Setpoint entries that are fixed (R190). -/
def fixedSp (o : Nat) : Bool := o == 0x60100 || inR o 0x601C0 0x60200

/-- One field of a plain write. -/
def writeField (agent o val : Nat) (f : FldDesc) (s : State) : State :=
  let fl : Fld := ⟨32 * o + f.lo, f.w⟩
  let v := bits val f.lo f.w
  match f.acc with
  | .rw => landPut fl v s
  | .rwb => pendPut agent 0 fl v s
  | .w1c => setF s fl (without (getF s fl) v)
  | _ => s

/-- A write of a register without an effect of its own: RW fields land, RWB fields wait, W1C fields clear (R7, R29, R36). -/
def plainWrite (agent o val : Nat) (s : State) : State :=
  reactNote o ((fieldsAt o).foldl (fun t f => writeField agent o val f t) s)

/-- The sequencer's commands, the estimator's, and STA's. -/
def seqCmd (val : Nat) (s : State) : State :=
  let s1 := if bit val 0 then seqStart s else s
  if bit val 1 then seqStop s1 else s1
def estCmd (val : Nat) (s : State) : State :=
  let s1 := if bit val 0 then estRetry s else s
  if bit val 1 then estCalReset s1 else s1

/-- HOST_ATTACH: the host driver's; an absence that ends rings every ring (R337). -/
def attachWrite (agent val : Nat) (s : State) : State :=
  if agent ≠ 0x01 then s else let r := hostAttach val s; if r.2 then ringAll r.1 else r.1

/-- A write through the command window's aperture. -/
def winWrite (agent o val : Nat) (s : State) : State :=
  let a := winAddr s agent o
  sramStore (a / 4) 1 (setCmd { s.cmd with win := memPutLE s.cmd.win a 4 val } s)

/-- Writes with effects of their own, by register; none for the others. -/
def ownWrite (agent o val : Nat) (s : State) : Option State :=
  match o / 0x10000 with
  | 0x1 => if inR o 0x10710 0x10730 then some (detExclWrite ((o - 0x10710) / 4) val s) else none
  | 0x2 => if o = 0x2000C then some (estCmd val s) else none
  | 0x3 => if inR o 0x30140 0x301C0 ∧ o % 32 = 0 then some (if bit val 0 then capRelease ((o - 0x30140) / 32) s else s) else none
  | 0x6 =>
    if inR o 0x60080 0x60090 then some (phcRetiredWrite ((o - 0x60080) / 4) val s)
    else if o = 0x60408 then some (seqCmd val s)
    else if o = 0x60410 then some (latchClear val s)
    else if fixedSp o then some s
    else none
  | 0x7 => if o = 0x70060 then some (thermLimWrite agent val s) else none
  | 0x8 =>
    if inR o 0x80200 0x80240 then some (suspectClearWrite ((o - 0x80200) / 4) val s)
    else if inR o 0x80280 0x802C0 then some (suspectSetWrite agent ((o - 0x80280) / 4) val s)
    else none
  | 0xA =>
    if o = 0xA000C then some (enterSafe val (staWake val s))
    else if o = 0xA0020 then some (blockRestart agent val s)
    else if o = 0xA002C then some (wdtKick agent val s)
    else none
  | 0xB => if o = 0xB000C then some (hostAlive agent s) else if o = 0xB0014 then some (attachWrite agent val s) else none
  | 0xC =>
    if o = 0xC0008 then some (setBus { s.bus with page := aPut 0 s.bus.page (agentKey agent o) (val % 16) } s)
    else if o = 0xC0020 then some (if bit val 0 then gateOpen agent s else gateClose agent s)
    else if isWin o then some (winWrite agent o val s)
    else
      match ringReg o with
      | some q =>
        (match o % 64 with
         | 0x00 => some (ringCfgWrite agent q val s)
         | 0x04 => some (ringCqWrite agent q val s)
         | 0x08 => some (ringDoorbell agent q val s)
         | 0x10 => some (cqHeadWrite agent q val s)
         | _ => none)
      | none => if inR o 0xC3000 0xC3200 ∧ o % 16 = 4 then some (mbxWrite agent ((o - 0xC3000) / 16) val s) else none
  | 0xD =>
    if o = 0xD0038 then some (setBus { s.bus with page := aPut 0 s.bus.page (agentKey agent o) (Nat.land val 0x0FFF0017) } s)
    else if o = 0xD0088 then some (hbKick agent s)
    else if o = 0xD0098 then some (flcInject agent val s)
    else if inR o 0xD1000 0xD1200 then some (severeClear agent ((o - 0xD1000) / 4) val s)
    else none
  | 0xE => if o = 0xE0008 then some (kxNew agent val s) else none
  | 0xF => if confOn s then some s else none
  | _ => none

/-- A write of a register that another agent alone changes is ignored. -/
def notIts (agent o : Nat) : Bool := (hostOnly o && agent != 0x01) || coreOnly agent o

/-- A word lands in a register: with its own effect where the register has one. -/
def landWord (agent o val : Nat) (s : State) : State :=
  if notIts agent o then s
  else match ownWrite agent o val s with | some t => t | none => plainWrite agent o val s

/-- A write of a register by an agent: a low word is held until its high word is written, and both land together (R38). -/
def busWrite (agent o val be : Nat) (s : State) : State :=
  if !mayWrite s agent (o / 4 * 4) then
    let s1 := deny agent o true s
    match ringReg o with | some q => if o % 64 = 8 then ringDoorbell agent q val s1 else s1 | none => s1
  else if !mapped o then busError GLB.BUS_ERR_STATUS.UNMAPPED agent o s
  else if be % 16 ≠ 15 then busError GLB.BUS_ERR_STATUS.PARTIAL_WRITE agent o s
  else if isLow o then (if notIts agent o then s else setBus { s.bus with low := aIns s.bus.low o (val % 2 ^ 32) } s)
  else if isHigh o then
    match aFind s.bus.low (o - 4) with
    | some l => landWord agent o (val % 2 ^ 32) (landWord agent (o - 4) l (setBus { s.bus with low := aDel s.bus.low (o - 4) } s))
    | none => landWord agent o (val % 2 ^ 32) s
  else landWord agent o (val % 2 ^ 32) s

end Sys2Proof.Machine
end

