-- ==== Sys2Proof/Machine/Packet.lean ====
section
/-! DEFINITION. Packets: the dispatch checks of Table 15-2, what each opcode of Table 15-5 does, tagged packets and their completion, and
what a restart cuts short (R349 to R365). -/

namespace Sys2Proof.Machine

/-! ### The packet at the head of a ring -/

/-- A packet as read from its slots; `bytes` are all of them, header included. -/
structure Pkt where
  ring : Nat
  op : Nat
  flags : Nat
  ctx : Nat
  slots : Nat
  tag : Nat
  seq : Nat
  low : Nat
  bytes : List Nat
  deriving DecidableEq, Repr

def pktOf (s : State) (q : Nat) : Pkt :=
  let b := ringBytes s q (headLen s q) 0
  ⟨q, nth b 0, nth b 1, nth b 2, nth b 3 % 64 + 1, nth b 3 / 64, ofLE ((b.drop 4).take 4), ofLE ((b.drop 8).take 4), b⟩

def Pkt.irq (p : Pkt) : Bool := bit p.flags 1
/-- A byte, and a little-endian number, of the packet by the byte numbers of Table 15-5. -/
def Pkt.at (p : Pkt) (i : Nat) : Nat := nth p.bytes i
def Pkt.num (p : Pkt) (i n : Nat) : Nat := ofLE ((p.bytes.drop i).take n)

/-- CRC-32C of the packet with bytes 12 to 15 taken as zero (R350; log entry 20). -/
def Pkt.crcOk (p : Pkt) : Bool := crc32c (p.bytes.take 12 ++ [0, 0, 0, 0] ++ p.bytes.drop 16) == p.num 12 4

/-- The items of a REG_WRITE body given from byte 16 on: offset word, value, mask. -/
def itemsFrom (body : List Nat) : List (Nat × Nat × Nat) :=
  let le := fun (i : Nat) => ofLE ((body.drop i).take 4)
  (List.range (ofLE (body.take 2))).map (fun i => (le (4 + 12 * i), le (8 + 12 * i), le (12 + 12 * i)))
def Pkt.items (p : Pkt) : List (Nat × Nat × Nat) := itemsFrom (p.bytes.drop 16)

/-- The named step of the packet (R351). -/
def Pkt.step (p : Pkt) (s : State) : Option Nat := if p.tag = 2 then some (nearestStep s.time.step p.low) else none

/-! ### Fields that an item names (R363) -/

/-- The fields of a register that a mask touches. -/
def maskFields (o m : Nat) : List FldDesc := (fieldsAt o).filter (fun f => bits m f.lo f.w != 0)
/-- One field's value after a masked write over its read value. -/
def mergeField (old v m : Nat) (f : FldDesc) : Nat :=
  let mf := bits m f.lo f.w
  Nat.lor (without old mf) (Nat.land (bits v f.lo f.w) mf)
/-- The word that a masked write puts over a register; W1C, WO and RC bits outside the mask are written 0. -/
def mergeWord (s : State) (o v m : Nat) : Nat :=
  let gone := ((fieldsAt o).filter (fun f => f.acc == .w1c || f.acc == .wo || f.acc == .rc)).foldl
    (fun a f => Nat.lor a ((2 ^ f.w - 1) * 2 ^ f.lo)) 0
  Nat.lor (without (without (rawWord s 0x40 o false) gone) m) (Nat.land v m)

def resetCmdOff : Nat := 0xA0020

/-- An item that the safe state serves (R364). -/
def safeItem (s : State) (o v m : Nat) : Bool :=
  let l := maskFields o m
  if l.isEmpty then false
  else if l.all (fun f => f.acc == .w1c) then true
  else if o = resetCmdOff then Nat.land v m % 65536 == 0x4AB5
  else
    l.all (fun f =>
      let k := 32 * o + f.lo
      let old := readBack s k
      (k == LGV.CAP.CAP.key || k == LGV.EXC_CTRL.EXC_W.key || (inR o 0x70020 0x70060 && f.lo == 0)) && decide (mergeField old v m f ≤ old))

/-- Index of the first of a list that fails a test. -/
def firstBad {α : Type} (p : α → Bool) : Nat → List α → Option Nat
  | _, [] => none
  | i, x :: r => if p x then firstBad p (i + 1) r else some i

/-! ### Dispatch checks (Table 15-2) -/

/-- The opcodes of Table 15-5. -/
def opcodes : List Nat :=
  [0x00, 0x01, 0x02, 0x03, 0x08, 0x09, 0x0C, 0x0D, 0x10, 0x11, 0x18, 0x20, 0x21, 0x22, 0x23, 0x24, 0x25, 0x30, 0x31, 0x32, 0x33, 0x38, 0x39,
   0x3A]

/-- Slots that the opcode requires. -/
def slotsNeeded (p : Pkt) : Nat :=
  match p.op with
  | 0x01 => cdiv (20 + 12 * p.num 16 2) 64
  | 0x20 => 2
  | 0x38 => cdiv (24 + 4 * p.at 17) 64
  | _ => 1

/-- Tags that the opcode allows. -/
def tagsOf (op : Nat) : List Nat :=
  if op ≤ 1 then [0, 1, 2]
  else if op = 0x09 ∨ op = 0x0C ∨ op = 0x11 ∨ op = 0x22 then [1, 2]
  else if op = 0x20 then [2]
  else if op = 0x23 ∨ op = 0x24 ∨ op = 0x25 ∨ op = 0x38 ∨ op = 0x3A then [1]
  else [0]

def isBlockOp (op : Nat) : Bool := op == 0x10 || op == 0x18 || op == 0x30

/-- A tenant's REG_READ may name an offset that its proxy may read; the aperture shows the host driver's page there. -/
def tenantReads (s : State) (x o : Nat) : Bool :=
  let w := o / 4 * 4
  mayRead s (0x10 + x) w && (!isWin w || winIn s 0x01 w (ringsOf x) true)

/-- PARTITION_ASSIGN that Table 17-2 denies. -/
def assignDenied (s : State) (x action tenant : Nat) : Bool :=
  action == 1 &&
    (if partAssigned s x then tenantOf s x != tenant else partMap s x == 0 || (unscrubbed s x && tenantOf s x != tenant))

/-- Check 7: the index that DETAIL carries, where the packet is outside its rights (R363, R398, R401, R404). -/
def rightsFail (s : State) (p : Pkt) : Option Nat :=
  if 8 ≤ p.ring then
    let x := ctxOf p.ring
    if partAssigned s x && (p.op == 0x00 || p.op == 0x03 || (p.op == 0x02 && tenantReads s x (p.num 16 4) && tenantReads s x (p.num 20 4)))
    then none else some 0
  else if p.ring = 7 ∧ s.cmd.bell = 2 ∧ !([0x00, 0x02, 0x03, 0x0D, 0x39] : List Nat).contains p.op then some 0
  else if p.op = 0x01 then firstBad (fun (x : Nat × Nat × Nat) => compMayWrite 1 (x.1 % 2 ^ 20)) 0 p.items
  else if p.op = 0x22 then (if p.at 16 % 2 = 0 && partsLive s then some 0 else none)
  else if p.op = 0x23 then (if assignDenied s (p.at 16) (p.at 17) (p.num 20 4) then some 0 else none)
  else none

/-- Check 8: the index that DETAIL carries, where the safe state refuses the packet (Table 15-5, R364). -/
def safeFail (s : State) (p : Pkt) : Option Nat :=
  if !safeOn s then none
  else if [0x08, 0x10, 0x18, 0x23, 0x38, 0x3A].contains p.op then some 0
  else if p.op = 0x0C then (if p.num 16 2 ≤ getF s LGV.CAP.CAP then none else some 0)
  else if p.op = 0x22 then (if p.at 16 % 2 = 1 then none else some 0)
  else if p.op = 0x01 then firstBad (fun (x : Nat × Nat × Nat) => safeItem s (x.1 % 2 ^ 20) x.2.1 x.2.2) 0 p.items
  else none

/-- Bytes of the body that the opcode uses, as ranges. -/
def usedBody (p : Pkt) : List (Nat × Nat) :=
  match p.op with
  | 0x01 => [(16, 18), (20, 20 + 12 * p.num 16 2)]
  | 0x02 => [(16, 24)]
  | 0x03 => [(16, 32)]
  | 0x08 => [(16, 21)]
  | 0x0C => [(16, 18)]
  | 0x10 => [(16, 23), (24, 36)]
  | 0x18 => [(16, 23), (24, 36)]
  | 0x30 => [(16, 23), (24, 36)]
  | 0x20 => [(16, 18), (24, 84)]
  | 0x22 => [(16, 17)]
  | 0x23 => [(16, 18), (20, 24)]
  | 0x24 => [(16, 17)]
  | 0x25 => [(16, 17)]
  | 0x31 => [(16, 26)]
  | 0x38 => [(16, 20), (24, 24 + 4 * p.at 17)]
  | 0x3A => [(16, 24)]
  | _ => []

/-- The reserved bytes and bits of a packet are zero. -/
def reservedOk (p : Pkt) : Bool :=
  decide (p.flags < 4) && (p.tag == 2 || p.low == 0) &&
    (List.range (64 * p.slots)).all (fun i =>
      decide (i < 16) || (usedBody p).any (fun r => decide (r.1 ≤ i) && decide (i < r.2)) || p.at i == 0)

/-- The body's fields are within range; GEN of SB_KEY_INSTALL names no live generation (R411). -/
def fieldsOk (s : State) (p : Pkt) : Bool :=
  match p.op with
  | 0x01 => decide (1 ≤ p.num 16 2) && decide (p.num 16 2 ≤ 339) && p.items.all (fun x => decide (x.1 < 2 ^ 20))
  | 0x02 => decide (p.num 16 4 < 2 ^ 20) && decide (p.num 20 4 < 2 ^ 20)
  | 0x08 => decide (p.at 20 < 16)
  | 0x20 => decide (p.at 16 ≤ 1) && !keyLive s (p.at 16) (p.at 17)
  | 0x22 => decide (p.at 16 ≤ 1)
  | 0x23 => decide (1 ≤ p.at 16) && decide (p.at 16 ≤ 16) && decide (p.at 17 ≤ 1) && decide (p.num 20 4 ≠ 0)
  | 0x24 => decide (1 ≤ p.at 16) && decide (p.at 16 ≤ 16)
  | 0x25 => decide (1 ≤ p.at 16) && decide (p.at 16 ≤ 16)
  | 0x38 => decide (p.at 16 < 8) && decide (p.at 17 ≤ 64)
  | 0x3A => decide (p.at 17 ≤ 3) && decide (p.num 18 2 ≤ 255) && decide (1 ≤ p.num 20 4) && decide (p.num 20 4 ≤ 65535)
  | 0x10 => decide (1 ≤ p.num 20 2) && decide (p.num 20 2 ≤ 4096) && p.num 28 8 % 64 == 0 && p.at 22 == 0
  | 0x18 => decide (1 ≤ p.num 20 2) && decide (p.num 20 2 ≤ 4096) && p.num 28 8 % 64 == 0 && decide (p.at 22 ≤ 3)
  | 0x30 => decide (1 ≤ p.num 20 2) && decide (p.num 20 2 ≤ 4096) && p.num 28 8 % 64 == 0 && decide (p.at 22 ≤ 2)
  | _ => true

/-- Check 9, with the index of the first item of a tagged REG_WRITE that is not RWB. -/
def paramFail (s : State) (p : Pkt) : Option Nat :=
  if !(reservedOk p && fieldsOk s p) then some 0
  else if p.op = 0x01 ∧ p.tag ≠ 0 then
    firstBad (fun (x : Nat × Nat × Nat) =>
      let l := maskFields (x.1 % 2 ^ 20) x.2.2
      !l.isEmpty && l.all (fun f => f.acc == .rwb)) 0 p.items
  else none

/-- Check 10: the opcode's own, with a DETAIL. -/
def ownFail (s : State) (p : Pkt) : Option (Nat × Nat) :=
  match p.op with
  | 0x08 => if sysOk s then none else some (stNotReady, 0)
  | 0x20 => if inGrace s (p.at 16) then some (stBusy, 0) else none
  | 0x21 => if prevValid s then some (stBusy, genCur s) else none
  | 0x23 => if scrubbing s (p.at 16) then some (stBusy, 0) else none
  | 0x24 => if scrubbing s (p.at 16) then some (stBusy, 0) else none
  | 0x25 => if scrubbing s (p.at 16) then none else some (stBusy, 0)
  | 0x31 => (activateCheck (p.num 16 8) (p.num 24 2) s).map (fun st => (st, 0))
  | 0x32 => match confirmCheck s with | 0 => none | st => some (st, 0)
  | _ => none

/-- Checks 3 to 10: the status and DETAIL of the first that fails. -/
def checkFail (s : State) (p : Pkt) : Option (Nat × Nat) :=
  if p.ctx ≠ ctxOf p.ring then some (stBadContext, 0)
  else if !opcodes.contains p.op then some (stBadOpcode, 0)
  else if p.slots ≠ slotsNeeded p then some (stBadLength, 0)
  else if !(tagsOf p.op).contains p.tag then some (stBadTag, 0)
  else
    match rightsFail s p with
    | some i => some (stDenied, i)
    | none =>
      match safeFail s p with
      | some i => some (stSafeState, i)
      | none =>
        match paramFail s p with
        | some i => some (stBadParam, i)
        | none => ownFail s p

/-! ### Completing -/

/-- A packet completes at dispatch. -/
def finish (p : Pkt) (status applied detail : Nat) (s : State) : State :=
  ringRoom p.ring (complete p.ring p.seq status applied detail p.irq s)


/-- A dispatched packet becomes outstanding. -/
def outstand (p : Pkt) (st : Nat) (act : Option ActKind) (s : State) : State :=
  let x : OutPkt := ⟨s.cmd.nextId, p.ring, p.seq, p.irq, p.op, p.tag, p.step s, st, [], act, [], [], none, stOk, 0, 0, p.bytes.drop 16, []⟩
  setCmd { s.cmd with pkts := s.cmd.pkts ++ [x], nextId := s.cmd.nextId + 1 } s

/-! ### Tagged packets (R356 to R358) -/

/-- Keys of the fields that an outstanding tagged packet writes, item by item. -/
def writeKeys (x : OutPkt) : List (List Nat) :=
  match x.op with
  | 0x01 => (itemsFrom x.body).map (fun i => (maskFields i.1 i.2.2).map (fun f => 32 * i.1 + f.lo))
  | 0x0C => [[LGV.CAP.CAP.key]]
  | 0x3A => let k := nth x.body 0; [[(FLC.POLICY.N k).key, (FLC.POLICY.W k).key, (FLC.POLICY.ACTION k).key]]
  | _ => []

/-- Deferred actions that set the same thing. -/
def sameTarget (a b : ActKind) : Bool :=
  let part := fun (k : ActKind) => match k with | .assign x _ _ => some x | .scrubBegin x => some x | .scrubEnd x => some x | _ => none
  match a, b with
  | .confMode _, .confMode _ => true
  | .sbKey c _ _, .sbKey d _ _ => c == d
  | .watch w _ _, .watch v _ _ => w == v
  | x, y => (match part x, part y with | some i, some j => i == j | _, _ => false)

/-- A field that the packet writes still holds, or an earlier packet still waits to write, a value of an earlier packet (R358). -/
def tagClash (s : State) (x : OutPkt) : Bool :=
  let keys := (writeKeys x).flatten
  let held := fun (m : Assoc PendVal) => keys.any (fun k => match aFind m k with | some v => v.pkt != 0 | none => false)
  let before := s.cmd.pkts.filter (fun y => y.st == 0 && decide (y.id < x.id))
  held s.pend || held s.frozen || held s.held || before.any (fun y => (writeKeys y).flatten.any keys.contains) ||
    (match x.act with
     | none => false
     | some a => s.acts.any (fun b => b.pkt != 0 && sameTarget a b.kind) ||
         before.any (fun y => match y.act with | some b => sameTarget a b | none => false))

/-- A value that the gate releases for a packet (R357). -/
def gatePut (x : OutPkt) (k v : Nat) (s : State) : State :=
  reactNote (keyOff k) { s with wrote := aIns s.wrote k v, pend := aIns s.pend k ⟨v, x.id, some x.step, false⟩ }

/-- Write one item of a REG_WRITE through the gate; writes to fixed setpoint entries, and to registers that another agent alone changes, are
ignored (R191, R233, R295). -/
def gateItem (x : OutPkt) (i : Nat × Nat × Nat) (s : State) : State :=
  if fixedSp i.1 || notIts 0x40 i.1 then s
  else (maskFields i.1 i.2.2).foldl (fun t f =>
    let k := 32 * i.1 + f.lo
    gatePut x k (mergeField (readBack t k) i.2.1 i.2.2 f) t) s

/-- The packet's values become pending together, and its deferred action waits for the same boundary. -/
def gateAll (x : OutPkt) (s : State) : State :=
  let s1 :=
    match x.op with
    | 0x01 => (itemsFrom x.body).foldl (fun t i => gateItem x i t) s
    | 0x0C => gatePut x LGV.CAP.CAP.key (min 4095 (ofLE (x.body.take 2))) s
    | 0x3A =>
      let k := nth x.body 0
      gatePut x (FLC.POLICY.ACTION k).key (nth x.body 1)
        (gatePut x (FLC.POLICY.W k).key (ofLE ((x.body.drop 4).take 4)) (gatePut x (FLC.POLICY.N k).key (nth x.body 2) s))
    | _ => s
  pktUpd x.id (fun y => { y with st := 1 }) (match x.act with | some a => addAct a x.step x.id s1 | none => s1)

/-- Write a waiting packet's values where nothing of an earlier packet stands in the way. -/
def tryGate (id : Nat) (s : State) : State :=
  match pktGet s id with
  | some x => if x.st = 0 ∧ !tagClash s x then gateAll x s else s
  | none => s

/-- Take a tagged packet: outstanding from dispatch, its values written as soon as they may be. -/
def tagged (p : Pkt) (act : Option ActKind) (s : State) : State := tryGate s.cmd.nextId (outstand p 0 act s)

/-- TAGGED_PACKET_RESUME: the first waiting packet that may proceed does. -/
def taggedResume (s : State) : State :=
  if !compOn s 1 then s
  else match s.cmd.pkts.find? (fun x => x.st == 0 && !tagClash s x) with | some x => gateAll x s | none => s

/-- DETAIL of a tagged packet that took effect at the swap of `step` (Table 15-5). -/
def tagDetail (s : State) (x : OutPkt) (step : Nat) : Nat :=
  let part := nth x.body 0
  match x.op with
  | 0x00 => s.time.step
  | 0x01 => ofLE (x.body.take 2)
  | 0x09 => step
  | 0x0C => x.detail
  | 0x11 => x.detail + 65536 * step
  | 0x20 => if part = 0 then getF s BAL.SB_STATUS.GEN_BAL else getF s BAL.SB_STATUS.GEN_JOB
  | 0x22 => b2n (confOn s) + 65536 * step
  | 0x23 => b2n (partAssigned s part)
  | 0x24 => step
  | 0x25 => step
  | 0x38 => part
  | _ => 0

/-- Items of a packet that took effect: those all of whose values did (R361). -/
def tagApplied (x : OutPkt) : Nat × Nat :=
  let l := writeKeys x
  if l.isEmpty then (b2n (x.op != 0), b2n (x.op != 0)) else ((l.filter (fun ks => ks.all x.taken.contains)).length, l.length)

/-- Status and APPLIED of a tagged packet that is done (R356, R358, R361, R244). -/
def tagStatus (x : OutPkt) (step : Nat) : Nat × Nat :=
  let a := tagApplied x
  if a.1 < a.2 then (stPartial, a.1)
  else if x.op = 0x0C ∧ x.detail / 4096 % 4 = 1 then (stCapUnmet, a.1)
  else ((match x.step with | some n => if n < step then stLate else stOk | none => stOk), a.1)

/-- The done packet whose completion comes next. -/
def nextDone (s : State) : Option OutPkt :=
  match s.cmd.pkts.filter (fun x => x.st == 4) with
  | [] => none
  | x :: r => some (r.foldl (fun a y => if y.doneAt.getD 0 < a.doneAt.getD 0 then y else a) x)

/-- TAGGED_COMPLETION: the completion of a packet that is done is written (R359); one that was not tagged completes as was noted. -/
def taggedCompletion (s : State) : State :=
  if !compOn s 1 then s
  else
    match nextDone s with
    | none => s
    | some x =>
      if x.tag = 0 then pktComplete x x.status x.applied x.detail s
      else
        let step := x.doneAt.getD s.time.step
        let r := tagStatus x step
        pktComplete x r.1 r.2 (tagDetail s x step) s

/-! ### What each opcode does once the checks have passed -/

/-- NOP (R362). -/
def doNop (p : Pkt) (s : State) : State := if p.tag = 0 then finish p stOk 0 s.time.step s else tagged p (some (.misc 0 0)) s

/-- REG_WRITE (R363): at once in list order, a restart code last and after the completion (R364); or through the gate. -/
def doRegWrite (p : Pkt) (s : State) : State :=
  if p.tag ≠ 0 then tagged p none s
  else
    let write := fun (t : State) (x : Nat × Nat × Nat) => busWrite 0x40 x.1 (mergeWord t x.1 x.2.1 x.2.2) 15 t
    let s1 := (p.items.filter (fun x => x.1 != resetCmdOff)).foldl write s
    (p.items.filter (fun x => x.1 == resetCmdOff)).foldl write (finish p stOk p.items.length p.items.length s1)

/-- REG_READ (R362, R372): both words as the host driver's bus reads return them. -/
def doRegRead (p : Pkt) (s : State) : State :=
  let s1 := busRead 0x01 (p.num 16 4) none s
  let s2 := busRead 0x01 (p.num 20 4) none s1
  finish p stOk 0 (s1.bus.rdata.toNat + 2 ^ 32 * s2.bus.rdata.toNat) s2

/-- MARK (R362): the record, whose number the completion carries; a record dropped at the full input has none (log entry 2). -/
def doMark (p : Pkt) (s : State) : State :=
  let id := s.cmd.nextId
  let s1 := outstand p 5 none s
  if 64 ≤ waitingRecs s1 then
    let s2 := freeNext (incF { s1 with lostRec := s1.lostRec + 1 } EVR.COUNTS.DROPPED)
    (match pktGet s2 id with | some x => pktComplete x stOk 1 (freeVal s % 2 ^ 32) s2 | none => s2)
  else
    let a : Arrival := ⟨s.time.ticks, 2, 0xC, true, 0, recMark, id, 0, toLE 6 s.time.step ++ [p.ctx, 0] ++ (p.bytes.drop 16).take 16⟩
    { s1 with inbox := arrive a s1.inbox }

/-- JOB_ATTACH (R362, R25): the next strobe attaches the job. -/
def doJobAttach (p : Pkt) (s : State) : State :=
  let s1 := outstand p 5 none s
  setCmd { s1.cmd with jobId := p.num 16 4, jobPort := p.at 20 % 16 } s1

def doJobDetach (p : Pkt) (s : State) : State := tagged p (some .jobDetach) s
def doSetCap (p : Pkt) (s : State) : State := tagged p none s

/-- GET_CAP_STATE (R247). -/
def doGetCap (p : Pkt) (s : State) : State :=
  let c := getF s LGV.STATUS.CAP_STATE
  finish p (if c = 0 then stOk else if c = 3 then stCapUnattainable else stCapUnmet) 0 (capDetail s s.time.step) s

/-- A block packet begins to fetch its block (R365). -/
def doBlock (p : Pkt) (s : State) : State := outstand p 2 none s

def doPlanStop (p : Pkt) (s : State) : State := tagged p (some .planStop) s

/-- SB_KEY_INSTALL (R411): `opens` and `key` are what unwrapping under the exchanged secret gives. -/
def doSbKey (opens : Bool) (key : Nat) (p : Pkt) (s : State) : State :=
  if !getB s SEC.STATUS.KX_READY || !opens then finish p stAuthFail 0 0 (unwrapFail (p.at 16) (p.at 17) s)
  else tagged p (some (.sbKey (p.at 16) (p.at 17) key)) s

/-- LOG_KEY_ROTATE (R414). -/
def doLogKey (p : Pkt) (s : State) : State := let s1 := keyRotate s; finish p stOk 1 (genCur s1) s1

def doConfMode (p : Pkt) (s : State) : State := tagged p (some (.confMode (p.at 16 == 1))) s

/-- PARTITION_ASSIGN (R401): a row of Table 17-2 that changes nothing leaves nothing to do at the boundary. -/
def doAssign (p : Pkt) (s : State) : State :=
  let r := assignCheck s (p.at 16) (p.at 17) (p.num 20 4)
  tagged p (some (if r.2 then .assign (p.at 16) (p.at 17) (p.num 20 4) else .misc 1 0)) s
def doScrubBegin (p : Pkt) (s : State) : State := tagged p (some (.scrubBegin (p.at 16))) s
def doScrubEnd (p : Pkt) (s : State) : State := tagged p (some (.scrubEnd (p.at 16))) s

/-- UPDATE_ACTIVATE (R426): outstanding until the activation. -/
def doActivate (p : Pkt) (s : State) : State := activateAccept (p.num 16 8) (p.num 24 2) (outstand p 5 none s)

/-- UPDATE_CONFIRM (R433). -/
def doConfirm (p : Pkt) (s : State) : State := let id := trialId s; finish p stOk 1 id (confirm s)

/-- EVR_WATCH (R380). -/
def doWatch (p : Pkt) (s : State) : State :=
  tagged p (some (.watch (p.at 16) (p.num 18 2) ((List.range (p.at 17)).map (fun i => p.num (24 + 4 * i) 4)))) s

/-- EVR_FLUSH (R382): outstanding until the flush is done. -/
def doFlush (p : Pkt) (s : State) : State := flushBegin 4 (outstand p 5 none s)

def doPolicy (p : Pkt) (s : State) : State := tagged p none s

/-! ### Dispatch (R349, R352 to R355) -/

/-- The worst check among the slots of the packet at HEAD: 0 right, 1 correctable, 2 not; and the ring index of the first slot so bad. -/
def slotsCheck (s : State) (q : Nat) : Nat → Nat × Nat
  | 0 => (0, ringHead s q)
  | n + 1 =>
    let r := slotsCheck s q n
    let i := (ringHead s q + n) % ringSize s q
    let c := sramCheck s (16 * (ringBase s q + i)) 16
    if r.1 < c then (c, i) else r

/-- A CRC failure or an uncorrectable slot halts the ring (R353). -/
def haltRing (p : Pkt) (bad : Bool) (i : Nat) (s : State) : State :=
  let s1 := setRingSt p.ring ringHalted (complete p.ring p.seq stBadCrc 0 0 p.irq s)
  sendFault 0xC0 (0xC00 + p.ring) (i + 2 ^ 31 * b2n bad) s1

/-- Check 2: SEQ as expected, and EXPECT after it (R354). -/
def seqCheck (p : Pkt) (s : State) : State × Bool :=
  let ok := !getB s (CMD.RING_STATUS.SEQ_VALID p.ring) || p.seq == getF s (CMD.RING_EXPECT.SEQ p.ring)
  let s1 := setB (setF s (CMD.RING_EXPECT.SEQ p.ring) ((p.seq + 1) % 2 ^ 32)) (CMD.RING_STATUS.SEQ_VALID p.ring) true
  (if ok then s1 else incF s1 (CMD.RING_STATUS.BAD_SEQ p.ring), ok)

/-- A packet's slots are all sound: its other checks, and its work. -/
def dispatchSound (p : Pkt) (run : Pkt → State → State) (s : State) : State :=
  let s1 := setF (served p.ring s) (CMD.RING_HEAD.HEAD p.ring) ((ringHead s p.ring + p.slots) % ringSize s p.ring)
  let r := seqCheck p s1
  if !r.2 then finish p stBadSeq 0 0 r.1
  else match checkFail r.1 p with | some (st, d) => finish p st 0 d r.1 | none => ringRoom p.ring (run p r.1)

/-- The interpreter dispatches the packet at the head of a ring whose turn it is. -/
def dispatchHead (q : Nat) (run : Pkt → State → State) (s : State) : State :=
  let p := pktOf s q
  match slotsCheck s q (headLen s q) with
  | (2, i) => haltRing p true i s
  | (c, _) =>
    let s1 := if c = 1 then incF s (FW.CORE_STATUS.CORRECTED 0) else s
    if p.crcOk then dispatchSound p run s1 else haltRing p false (ringHead s q) s1

/-- One opcode's row: it acts when it is the ring's turn and the packet at its head is of the row's kind. -/
def packetRow (mine : Nat → Bool) (q : Nat) (run : Pkt → State → State) (s : State) : State :=
  if ringTurn s q && mine (headOp s q) then dispatchHead q run s else s

/-! ### Blocks (R365) -/

/-- BLOCK_FETCH_DONE: the block of a ring's first fetching packet arrives, of the length asked for, or the fetch fails. -/
def fetchDone (q : Nat) (data : List Nat) (ok : Bool) (s : State) : State :=
  match s.cmd.pkts.find? (fun x => x.ring == q && x.st == 2) with
  | none => s
  | some x =>
    if ok then
      if data.length = ofLE ((x.body.drop 4).take 2) then pktUpd x.id (fun y => { y with st := 3, data := data }) s else s
    else
      let s1 := sendFault 0xC1 (0xC00 + q) (ofLE ((x.body.drop 12).take 4)) s
      if compOn s 1 then pktComplete x stFetchFail 0 0 s1 else pktDone x.id stFetchFail 0 0 s1

/-- The target of a block packet. -/
def blockKey (x : OutPkt) : Nat := match x.op with | 0x10 => 0 | 0x18 => 1 + nth x.body 6 | _ => xferKey (nth x.body 6)
/-- The component that takes a block. -/
def blockComp (op : Nat) : Nat := match op with | 0x10 => 3 | 0x18 => 1 | _ => 2

/-- A block whose CRC-32C fails: the target's LOAD_STATUS names it while a transfer of the target is under way (Tables 4-9, 6-2). -/
def blockLost (x : OutPkt) (s : State) : State :=
  if (xferOf s (blockKey x)).isNone then s
  else match x.op with | 0x10 => planTarget.lost s | 0x18 => (progTarget (nth x.body 6)).lost s | _ => s

/-- A block that has arrived is taken; the packet completes, or waits for the full check of an update image, with the bytes accepted before
it. -/
def takeArrived (x : OutPkt) (rootOk sigOk : Bool) (s : State) : State :=
  let off := ofLE (x.body.take 4)
  let got := match xferOf s (blockKey x) with | some t => t.got | none => []
  if crc32c x.data ≠ ofLE ((x.body.drop 8).take 4) then
    pktComplete x stBlockCrc 0 (xferDetail got (refusedWith stBlockCrc 0 0)) (blockLost x s)
  else
    let r :=
      match x.op with
      | 0x10 => takeBlock 0 planTarget off x.data s
      | 0x18 => takeBlock (blockKey x) (progTarget (nth x.body 6)) off x.data s
      | _ => updBlock (nth x.body 6) off rootOk sigOk x.data s
    if x.op = 0x30 ∧ r.1.upd.check.any (fun e => e.2 == 0) then
      setUpd { r.1.upd with check := r.1.upd.check.map (fun e => if e.2 = 0 then (e.1, x.id) else e) }
        (pktUpd x.id (fun y => { y with st := 5, data := [], detail := rangeBytes (if off = 0 then [] else got) }) r.1)
    else pktComplete x r.2.1.status r.2.1.applied (xferDetail r.2.2 r.2.1) r.1

/-- A block opcode's row on a ring: a block that has arrived comes first, else the packet at the head is dispatched. -/
def blockRow (op q : Nat) (rootOk sigOk : Bool) (s : State) : State :=
  match s.cmd.pkts.find? (fun x => x.ring == q && x.op == op && x.st == 3) with
  | some x => if compOn s 1 && compOn s (blockComp op) then takeArrived x rootOk sigOk s else s
  | none => packetRow (fun o => o == op) q doBlock s

/-! ### Restarts (R330, R361) -/

/-- Block packets that a restart of a component cuts short complete with S_PARTIAL when the interpreter writes completions again. -/
def cutBlocks (op : Nat) (s : State) : State :=
  (s.cmd.pkts.filter (fun x => x.op == op && (x.st == 2 || x.st == 3))).foldl (fun t x => pktDone x.id stPartial 0 0 t) s

/-- What the component's restart abandons (R330, R361, Table 14-2). -/
def cutComp (c : Nat) (s : State) : State :=
  match c with
  | 1 => (List.range 4).foldl (fun t k => abandonXfer (1 + k) (progTarget k) t) (cutBlocks 0x18 (gateDiscard s))
  | 2 => cutBlocks 0x30 (showUpd (endTransfers stPartial s))
  | 3 => abandonXfer 0 planTarget (cutBlocks 0x10 s)
  | 5 => abandonRounds s
  | _ => s

/-- Components that a step has stopped lose their work in flight. -/
def cutStopped (was s : State) : State :=
  (List.range 8).foldl (fun t c => if compOn was c && !compOn s c && runState s != runGap then cutComp c t else t) s

/-- An event that may stop components or cores; during TRIAL it means falling back (R434). -/
def failing (f : State → State) (s : State) : State := cutStopped s (trialGuard f s)

/-- UPDATE_ABORT (R438): the block packets of the ended transfers complete with S_ABORTED; the end of a trial restarts the firmware. -/
def doAbort (p : Pkt) (s : State) : State :=
  let r := updAbort s
  if r.2 = 0 then finish p stNoTransfer 0 0 r.1
  else
    let l := if r.2 = 1 then r.1.cmd.pkts.filter (fun x => x.op == 0x30 && (x.st == 2 || x.st == 3)) else []
    cutStopped s (finish p stOk 1 0 (l.foldl (fun t x => pktComplete x stAborted 0 0 t) r.1))

end Sys2Proof.Machine
end

