-- ==== Sys2Proof/WellFormed.lean ====
section
/-! DEFINITION. What the operands of a command can be: numbers within the hardware's ranges and lists of the lengths the events carry.
Operands outside it name no event of the hardware; the machine refuses them (log entry 4). -/

namespace Sys2Proof

/-- Voltages and rates of fall within what the sense points can show. -/
def pointsWf (p : VcorePoints) : Bool := decide (p.va < 2 ^ 31) && decide (p.vb < 2 ^ 31) && decide (p.ra < 2 ^ 31) && decide (p.rb < 2 ^ 31)

/-- The operands name an event that can happen. -/
def Instr.wf (i : Instr) : Bool :=
  match i with
  | .stepBoundaryStrobe _ step launch => decide (step < 2 ^ 48) && decide (launch.getD 0 < 2 ^ 64)
  | .boundaryCut _ => true
  | .localBoundary _ => true
  | .boundarySourceLocal _ => true
  | .systimeCoherent _ _ time => decide (time < 2 ^ 64)
  | .vaonLow _ lowest => decide (lowest < 2800)
  | .vaonCollapse _ => true
  | .registerWrite _ _ _ _ _ => true
  | .rwWriteApply _ => true
  | .unmappedAccess _ _ _ _ _ _ => true
  | .wideReadLowWord _ _ _ => true
  | .wideWriteLowWord _ _ _ _ => true
  | .rcFieldRead _ _ _ => true
  | .deniedAccess _ _ _ _ _ => true
  | .senseSample _ imon pts => decide (imon.length = 98) && decide (pts.length = 5) && imon.all (fun c => decide (c < 1024)) && pts.all (fun c => decide (c < 4096))
  | .windowClose1us _ => true
  | .windowClose10us _ => true
  | .busSample _ v c => decide (v < 4096) && decide (c < 4096)
  | .xchkRound _ => true
  | .busXchkSuspect _ => true
  | .measSuspectClear _ => true
  | .imonRange _ n => decide (n < 98)
  | .senseOpen _ p => decide (p < 5)
  | .vcoreSenseSplit _ => true
  | .busVRange _ => true
  | .droopLevelChange _ r d v => decide (r < 64) && decide (d < 4) && decide (v < 2 ^ 31)
  | .droopDetStuck _ r d => decide (r < 64) && decide (d < 4)
  | .detExclWrite _ _ w _ => decide (w < 8)
  | .stretchHoldLong _ r => decide (r < 64)
  | .activityFeature _ id value => decide (id < 4096) && decide (value < 65536)
  | .actEndOfWindow _ => true
  | .actWindowStale _ late => decide (late ≠ 0) && decide (late < 8)
  | .actStreamStall _ => true
  | .hksRound _ conv => conv.all (fun e => decide (e.1 < 1024) && decide (e.2 < 65536))
  | .hksChannelInvalid _ c => decide (c < 1024)
  | .stgTlmRoundStart _ => true
  | .stgTlmFrame _ slot _ => decide (slot < 128)
  | .stgTlmSilent _ a => decide (a < 99)
  | .estWindowSubstituted _ => true
  | .estDisagree _ => true
  | .estMismatch _ => true
  | .estModelLost _ => true
  | .estModelRestored _ => true
  | .estTrustAgree _ => true
  | .estShadowAgree _ => true
  | .calRound _ => true
  | .estCalClamp _ k => decide (k < 4)
  | .estRetry _ _ => true
  | .estCalReset _ _ => true
  | .pxeSlot1Trigger _ => true
  | .pxeSlot3Trigger _ => true
  | .pxePublish _ slot _ => decide (slot < 4)
  | .pxeOverrun _ slot desc => decide (slot < 4) && decide (desc < 1024)
  | .pxeMemUncorrectable _ slot addr desc => decide (slot < 4) && decide (addr < 2097152) && decide (desc < 1024)
  | .pxeCapRelease _ _ slot => decide (slot < 4)
  | .ffScheduleComputed _ => true
  | .ffAddAction _ k => decide (k < 3)
  | .ffLiftAction _ => true
  | .drgEvaluate _ => true
  | .launchMove _ step time => decide (step < 2 ^ 48) && decide (time < 2 ^ 64)
  | .vselLatch _ v => decide (v < 16)
  | .setpointRampDone _ k => decide (k < 4)
  | .deEnter _ k => decide (k < 4)
  | .phaseRampInDone _ n => decide (n < 98)
  | .phaseRampOutDone _ n => decide (n < 98)
  | .shedInhEnd _ k => decide (k < 4)
  | .allPhaseBurst _ p => pointsWf p
  | .burstEnd _ p => pointsWf p
  | .burstRearmEnd _ => true
  | .phaseOcTrip _ n => decide (n < 98)
  | .phaseOcRelease _ n => decide (n < 98)
  | .phaseFault _ n => decide (n < 98)
  | .phaseHot _ n => decide (n < 98)
  | .phaseImbalance _ n => decide (n < 98)
  | .phcRetiredWrite _ _ w _ => decide (w < 4)
  | .seqStart _ _ => true
  | .seqStop _ _ => true
  | .busSettleDone _ => true
  | .busStartFail _ => true
  | .seqSlotStart _ => true
  | .railProbeDone _ k => decide (k < 4)
  | .railPowerGood _ k => decide (k < 4)
  | .railPgTimeout _ k => decide (k < 4)
  | .railPrebiasHigh _ k => decide (k < 4)
  | .railShortStart _ k => decide (k < 4)
  | .railStartStall _ k => decide (k < 4)
  | .railOv _ k => decide (k < 4)
  | .railStopDone _ k => decide (k < 4)
  | .pwrFailNFall _ => true
  | .quickStopRailOff _ => true
  | .pwrFailNRise _ => true
  | .latchClear _ _ _ => true
  | .protectiveLowering _ cond => decide (cond < 14)
  | .limitUnmet _ cond => decide (cond < 14)
  | .lgvDutyStep _ => true
  | .capUnattainable _ => true
  | .thermLimWrite _ _ _ => true
  | .thermalRise _ r => decide (r < 64)
  | .tmgFwRound _ => true
  | .sensorSuspect _ c => decide (c < 512)
  | .tmgSensorTrusted _ c => decide (c < 512)
  | .thermalFloor _ => true
  | .suspectSetWrite _ _ w _ => decide (w < 16)
  | .suspectClearWrite _ _ w _ => decide (w < 16)
  | .tripComparator _ r n => decide (r < 64) && decide (n < 8)
  | .tripComparatorRelease _ r n => decide (r < 64) && decide (n < 8)
  | .balRoundBegin _ => true
  | .balFrameReceived _ => true
  | .balOutcome _ => true
  | .sidebandRecordReceived _ p hdr body _ => decide (p < 16) && decide (hdr.length = 16) && hdr.all (fun b => decide (b < 256)) && body.all (fun b => decide (b < 256))
  | .sbCounterEnd _ p => decide (p < 16)
  | .sbKeyGraceEnd _ ctx => decide (ctx < 2)
  | .restEnter _ => true
  | .restWake _ => true
  | .restExit _ => true
  | .srConfirmed _ => true
  | .restSrTimeout _ => true
  | .staWake _ _ => true
  | .enterSafe _ _ => true
  | .safeStateEnter _ => true
  | .blockRestart _ _ _ => true
  | .chipReset _ => true
  | .moduleReset _ => true
  | .moduleResetRelease _ => true
  | .coldStart _ => true
  | .pufReconstruct _ _ blocks pub => decide (pub.length = 96) && pub.all (fun b => decide (b < 256)) && decide (blocks < 2 ^ 32)
  | .wdtKick _ _ _ => true
  | .wdtExpiry _ => true
  | .mainCoreStart _ found _ _ detail => found.all (fun e => decide (e.1 < 6) && e.2.all (fun b => decide (b < 256))) && decide (detail < 256)
  | .helperLoad _ k _ off => decide (1 ≤ k) && decide (k < 4) && decide (off < 2 ^ 32)
  | .componentCheckIn _ c => decide (c < 8)
  | .fwComponentHang _ c => decide (c < 8)
  | .fwMpuViolation _ c addr _ _ => decide (c < 8) && decide (addr < 2 ^ 32)
  | .fwCoreException _ k comp addr => decide (k < 4) && comp.all (fun c => decide (c < 8)) && decide (addr < 2 ^ 32)
  | .fwComponentRestart _ c => decide (c < 8)
  | .fwRestartLimit _ => true
  | .hostAlive _ _ _ => true
  | .hostAbsent _ => true
  | .hostAttach _ _ _ => true
  | .logEntry _ c kind id code payload => decide (c < 8) && decide (kind < 2) && decide (id < 256) && decide (code < 65536) && decide (payload.length ≤ 16) && payload.all (fun b => decide (b < 256))
  | .logMirrorCopy _ _ => true
  | .ringEnable _ _ q val => decide (q < 72) && val.getLsbD 24 && !val.getLsbD 25
  | .ringDisable _ _ q val => decide (q < 72) && !val.getLsbD 24 && !val.getLsbD 25
  | .ringReset _ _ q val => decide (q < 72) && val.getLsbD 25
  | .ringDoorbell _ _ q _ => decide (q < 72)
  | .cqHeadWrite _ _ q _ => decide (q < 72)
  | .gateOpen _ _ => true
  | .gateClose _ _ => true
  | .taggedPacketResume _ => true
  | .taggedCompletion _ => true
  | .blockFetchDone _ q data _ => decide (q < 72) && decide (data.length ≤ 4096) && data.all (fun b => decide (b < 256))
  | .nop _ q => decide (q < 72)
  | .regWrite _ q => decide (q < 72)
  | .regRead _ q => decide (q < 72)
  | .mark _ q => decide (q < 72)
  | .jobAttach _ q => decide (q < 72)
  | .jobDetach _ q => decide (q < 72)
  | .setCap _ q => decide (q < 72)
  | .getCapState _ q => decide (q < 72)
  | .planSegmentBlock _ q => decide (q < 72)
  | .planStop _ q => decide (q < 72)
  | .programBlock _ q => decide (q < 72)
  | .sbKeyInstall _ q _ key => decide (q < 72) && decide (key < 2 ^ 256)
  | .logKeyRotate _ q => decide (q < 72)
  | .confMode _ q => decide (q < 72)
  | .partitionAssign _ q => decide (q < 72)
  | .scrubBegin _ q => decide (q < 72)
  | .scrubEnd _ q => decide (q < 72)
  | .updateBlock _ q _ _ => decide (q < 72)
  | .updFullCheckDone _ _ _ _ _ off => decide (off < 2 ^ 32)
  | .updateActivate _ q => decide (q < 72)
  | .updateConfirm _ q => decide (q < 72)
  | .updateAbort _ q => decide (q < 72)
  | .evrWatch _ q => decide (q < 72)
  | .evrFlush _ q => decide (q < 72)
  | .faultPolicy _ q => decide (q < 72)
  | .mbxWrite _ _ m _ => decide (m < 32)
  | .mbxRead _ _ m => decide (m < 32)
  | .ping _ m => decide (m < 32)
  | .generation _ m => decide (m < 32)
  | .state _ m => decide (m < 32)
  | .mbxUnknownRequest _ m => decide (m < 32)
  | .evrRecordPost _ => true
  | .evrEpochPeriodic _ => true
  | .watchSnapshot _ w m => decide (w < 8) && decide (1 ≤ m)
  | .evrFlushDone _ _ => true
  | .flushMinEnd _ => true
  | .eraseAhead _ => true
  | .hoursSave _ => true
  | .faultMessage _ => true
  | .severeClear _ _ v _ => decide (v < 128)
  | .flcSelfFault _ info => decide (info < 2 ^ 32)
  | .flcInject _ _ _ => true
  | .hbKick _ _ _ => true
  | .hbToggle _ => true
  | .hbTimeout _ => true
  | .kxNew _ _ => true
  | .kxReady _ pub sig => decide (pub.length = 96) && decide (sig.length = 96) && pub.all (fun b => decide (b < 256)) && sig.all (fun b => decide (b < 256))
  | .logMigrateGranule _ _ _ => true
  | .evrWinFlashRead _ _ n _ => decide (n < 8192)
  | .actDecision _ => true
  | .actSlot _ lines caravan => decide (lines < 65536) && decide (caravan.length ≤ 65536) && caravan.all (fun b => decide (b < 256))
  | .updHandover _ x => x.decl.all (fun e => decide (e.1 < 8) && decide (e.2 < 65536)) && decide (x.detail < 256)
  | .autoConfirm _ => true
  | .trialExpiry _ => true
  | .pmbusTableRefresh _ => true
  | .page _ _ w _ => w.all (fun v => decide (v < 256))
  | .clearFaults _ _ => true
  | .capability _ _ => true
  | .voutMode _ _ => true
  | .statusByte _ _ => true
  | .statusWord _ _ => true
  | .statusVout _ _ => true
  | .statusIout _ _ => true
  | .statusInput _ _ => true
  | .statusTemperature _ _ => true
  | .statusCml _ _ => true
  | .statusMfrSpecific _ _ => true
  | .readVin _ _ => true
  | .readIin _ _ => true
  | .readVout _ _ => true
  | .readIout _ _ => true
  | .readTemperature1 _ _ => true
  | .readTemperature2 _ _ => true
  | .readTemperature3 _ _ => true
  | .readPout _ _ => true
  | .readPin _ _ => true
  | .pmbusRevision _ _ => true
  | .mfrId _ _ => true
  | .mfrModel _ _ => true
  | .mfrRevision _ _ => true
  | .mfrSerial _ _ => true
  | .mfrReadEnergy _ _ => true
  | .mfrBusAddr _ v _ => decide (v < 2 ^ 32)
  | .mfrBusData _ _ _ => true
  | .pmbusInvalidCommand _ _ _ => true
  | .pmbusSclTimeout _ => true
  | .smbusAlertResponse _ => true
  | .vaonRestored _ v => decide (2800 ≤ v)
  | .refclkStop _ => true
  | .refclkResume _ => true

/-- The ticks of the local time base that pass before the command (log entry 3). -/
def Instr.delay (i : Instr) : Nat :=
  match i with
  | .stepBoundaryStrobe dt _ _ => dt
  | .boundaryCut dt => dt
  | .localBoundary dt => dt
  | .boundarySourceLocal dt => dt
  | .systimeCoherent dt _ _ => dt
  | .vaonLow dt _ => dt
  | .vaonCollapse dt => dt
  | .registerWrite dt _ _ _ _ => dt
  | .rwWriteApply dt => dt
  | .unmappedAccess dt _ _ _ _ _ => dt
  | .wideReadLowWord dt _ _ => dt
  | .wideWriteLowWord dt _ _ _ => dt
  | .rcFieldRead dt _ _ => dt
  | .deniedAccess dt _ _ _ _ => dt
  | .senseSample dt _ _ => dt
  | .windowClose1us dt => dt
  | .windowClose10us dt => dt
  | .busSample dt _ _ => dt
  | .xchkRound dt => dt
  | .busXchkSuspect dt => dt
  | .measSuspectClear dt => dt
  | .imonRange dt _ => dt
  | .senseOpen dt _ => dt
  | .vcoreSenseSplit dt => dt
  | .busVRange dt => dt
  | .droopLevelChange dt _ _ _ => dt
  | .droopDetStuck dt _ _ => dt
  | .detExclWrite dt _ _ _ => dt
  | .stretchHoldLong dt _ => dt
  | .activityFeature dt _ _ => dt
  | .actEndOfWindow dt => dt
  | .actWindowStale dt _ => dt
  | .actStreamStall dt => dt
  | .hksRound dt _ => dt
  | .hksChannelInvalid dt _ => dt
  | .stgTlmRoundStart dt => dt
  | .stgTlmFrame dt _ _ => dt
  | .stgTlmSilent dt _ => dt
  | .estWindowSubstituted dt => dt
  | .estDisagree dt => dt
  | .estMismatch dt => dt
  | .estModelLost dt => dt
  | .estModelRestored dt => dt
  | .estTrustAgree dt => dt
  | .estShadowAgree dt => dt
  | .calRound dt => dt
  | .estCalClamp dt _ => dt
  | .estRetry dt _ => dt
  | .estCalReset dt _ => dt
  | .pxeSlot1Trigger dt => dt
  | .pxeSlot3Trigger dt => dt
  | .pxePublish dt _ _ => dt
  | .pxeOverrun dt _ _ => dt
  | .pxeMemUncorrectable dt _ _ _ => dt
  | .pxeCapRelease dt _ _ => dt
  | .ffScheduleComputed dt => dt
  | .ffAddAction dt _ => dt
  | .ffLiftAction dt => dt
  | .drgEvaluate dt => dt
  | .launchMove dt _ _ => dt
  | .vselLatch dt _ => dt
  | .setpointRampDone dt _ => dt
  | .deEnter dt _ => dt
  | .phaseRampInDone dt _ => dt
  | .phaseRampOutDone dt _ => dt
  | .shedInhEnd dt _ => dt
  | .allPhaseBurst dt _ => dt
  | .burstEnd dt _ => dt
  | .burstRearmEnd dt => dt
  | .phaseOcTrip dt _ => dt
  | .phaseOcRelease dt _ => dt
  | .phaseFault dt _ => dt
  | .phaseHot dt _ => dt
  | .phaseImbalance dt _ => dt
  | .phcRetiredWrite dt _ _ _ => dt
  | .seqStart dt _ => dt
  | .seqStop dt _ => dt
  | .busSettleDone dt => dt
  | .busStartFail dt => dt
  | .seqSlotStart dt => dt
  | .railProbeDone dt _ => dt
  | .railPowerGood dt _ => dt
  | .railPgTimeout dt _ => dt
  | .railPrebiasHigh dt _ => dt
  | .railShortStart dt _ => dt
  | .railStartStall dt _ => dt
  | .railOv dt _ => dt
  | .railStopDone dt _ => dt
  | .pwrFailNFall dt => dt
  | .quickStopRailOff dt => dt
  | .pwrFailNRise dt => dt
  | .latchClear dt _ _ => dt
  | .protectiveLowering dt _ => dt
  | .limitUnmet dt _ => dt
  | .lgvDutyStep dt => dt
  | .capUnattainable dt => dt
  | .thermLimWrite dt _ _ => dt
  | .thermalRise dt _ => dt
  | .tmgFwRound dt => dt
  | .sensorSuspect dt _ => dt
  | .tmgSensorTrusted dt _ => dt
  | .thermalFloor dt => dt
  | .suspectSetWrite dt _ _ _ => dt
  | .suspectClearWrite dt _ _ _ => dt
  | .tripComparator dt _ _ => dt
  | .tripComparatorRelease dt _ _ => dt
  | .balRoundBegin dt => dt
  | .balFrameReceived dt => dt
  | .balOutcome dt => dt
  | .sidebandRecordReceived dt _ _ _ _ => dt
  | .sbCounterEnd dt _ => dt
  | .sbKeyGraceEnd dt _ => dt
  | .restEnter dt => dt
  | .restWake dt => dt
  | .restExit dt => dt
  | .srConfirmed dt => dt
  | .restSrTimeout dt => dt
  | .staWake dt _ => dt
  | .enterSafe dt _ => dt
  | .safeStateEnter dt => dt
  | .blockRestart dt _ _ => dt
  | .chipReset dt => dt
  | .moduleReset dt => dt
  | .moduleResetRelease dt => dt
  | .coldStart dt => dt
  | .pufReconstruct dt _ _ _ => dt
  | .wdtKick dt _ _ => dt
  | .wdtExpiry dt => dt
  | .mainCoreStart dt _ _ _ _ => dt
  | .helperLoad dt _ _ _ => dt
  | .componentCheckIn dt _ => dt
  | .fwComponentHang dt _ => dt
  | .fwMpuViolation dt _ _ _ _ => dt
  | .fwCoreException dt _ _ _ => dt
  | .fwComponentRestart dt _ => dt
  | .fwRestartLimit dt => dt
  | .hostAlive dt _ _ => dt
  | .hostAbsent dt => dt
  | .hostAttach dt _ _ => dt
  | .logEntry dt _ _ _ _ _ => dt
  | .logMirrorCopy dt _ => dt
  | .ringEnable dt _ _ _ => dt
  | .ringDisable dt _ _ _ => dt
  | .ringReset dt _ _ _ => dt
  | .ringDoorbell dt _ _ _ => dt
  | .cqHeadWrite dt _ _ _ => dt
  | .gateOpen dt _ => dt
  | .gateClose dt _ => dt
  | .taggedPacketResume dt => dt
  | .taggedCompletion dt => dt
  | .blockFetchDone dt _ _ _ => dt
  | .nop dt _ => dt
  | .regWrite dt _ => dt
  | .regRead dt _ => dt
  | .mark dt _ => dt
  | .jobAttach dt _ => dt
  | .jobDetach dt _ => dt
  | .setCap dt _ => dt
  | .getCapState dt _ => dt
  | .planSegmentBlock dt _ => dt
  | .planStop dt _ => dt
  | .programBlock dt _ => dt
  | .sbKeyInstall dt _ _ _ => dt
  | .logKeyRotate dt _ => dt
  | .confMode dt _ => dt
  | .partitionAssign dt _ => dt
  | .scrubBegin dt _ => dt
  | .scrubEnd dt _ => dt
  | .updateBlock dt _ _ _ => dt
  | .updFullCheckDone dt _ _ _ _ _ => dt
  | .updateActivate dt _ => dt
  | .updateConfirm dt _ => dt
  | .updateAbort dt _ => dt
  | .evrWatch dt _ => dt
  | .evrFlush dt _ => dt
  | .faultPolicy dt _ => dt
  | .mbxWrite dt _ _ _ => dt
  | .mbxRead dt _ _ => dt
  | .ping dt _ => dt
  | .generation dt _ => dt
  | .state dt _ => dt
  | .mbxUnknownRequest dt _ => dt
  | .evrRecordPost dt => dt
  | .evrEpochPeriodic dt => dt
  | .watchSnapshot dt _ _ => dt
  | .evrFlushDone dt _ => dt
  | .flushMinEnd dt => dt
  | .eraseAhead dt => dt
  | .hoursSave dt => dt
  | .faultMessage dt => dt
  | .severeClear dt _ _ _ => dt
  | .flcSelfFault dt _ => dt
  | .flcInject dt _ _ => dt
  | .hbKick dt _ _ => dt
  | .hbToggle dt => dt
  | .hbTimeout dt => dt
  | .kxNew dt _ => dt
  | .kxReady dt _ _ => dt
  | .logMigrateGranule dt _ _ => dt
  | .evrWinFlashRead dt _ _ _ => dt
  | .actDecision dt => dt
  | .actSlot dt _ _ => dt
  | .updHandover dt _ => dt
  | .autoConfirm dt => dt
  | .trialExpiry dt => dt
  | .pmbusTableRefresh dt => dt
  | .page dt _ _ _ => dt
  | .clearFaults dt _ => dt
  | .capability dt _ => dt
  | .voutMode dt _ => dt
  | .statusByte dt _ => dt
  | .statusWord dt _ => dt
  | .statusVout dt _ => dt
  | .statusIout dt _ => dt
  | .statusInput dt _ => dt
  | .statusTemperature dt _ => dt
  | .statusCml dt _ => dt
  | .statusMfrSpecific dt _ => dt
  | .readVin dt _ => dt
  | .readIin dt _ => dt
  | .readVout dt _ => dt
  | .readIout dt _ => dt
  | .readTemperature1 dt _ => dt
  | .readTemperature2 dt _ => dt
  | .readTemperature3 dt _ => dt
  | .readPout dt _ => dt
  | .readPin dt _ => dt
  | .pmbusRevision dt _ => dt
  | .mfrId dt _ => dt
  | .mfrModel dt _ => dt
  | .mfrRevision dt _ => dt
  | .mfrSerial dt _ => dt
  | .mfrReadEnergy dt _ => dt
  | .mfrBusAddr dt _ _ => dt
  | .mfrBusData dt _ _ => dt
  | .pmbusInvalidCommand dt _ _ => dt
  | .pmbusSclTimeout dt => dt
  | .smbusAlertResponse dt => dt
  | .vaonRestored dt _ => dt
  | .refclkStop dt => dt
  | .refclkResume dt => dt

end Sys2Proof
end

