-- ==== Sys2Proof/Machine/Advance.lean ====
section
/-! DEFINITION. The course of a command: time passes, the event has its effect, and what follows at once from any event is brought up to
date (R22, R36, R459, R463). -/

namespace Sys2Proof.Machine

/-- Time passes: the local time base and the operating hours while the reference runs, system time while it is valid (R22, R23, R449). -/
def passTime (dt : Nat) (s : State) : State :=
  let d := if s.time.refRun then dt else 0
  { s with time := { s.time with ticks := s.time.ticks + d, hours := s.time.hours + d,
                                 sys := if sysOk s then (s.time.sys + 10 * dt) % 2 ^ 64 else s.time.sys } }

/-- What changes of itself while time passes: references ramp, beats run, lifts rise and fall, and values that have landed are applied
within 40 ns (R36, R155, R173, R194). -/
def advance (dt : Nat) (s : State) : State :=
  let d := if s.time.refRun then dt else 0
  let s1 := passTime dt (drgAdvance d (phcAdvance d s))
  clearEnds (landAdvance dt (updWatch (psqAdvance s1.time.ticks s1)))

/-- The test override falls when a rail leaves OFF; written while a rail is not OFF it is kept and applied as 0 (R463, R8). -/
def overrideFall (s : State) : State :=
  let dark := rails4.all (fun k => railSt s k == rsOff)
  let s1 := if getB s TST.CTRL.OVERRIDE && s.pmb.dark && !dark then setB s TST.CTRL.OVERRIDE false else s
  setPmb { s1.pmb with dark := dark } s1

/-- After any event: a rest state that it ended at once leaves its values, ALERT_N follows its live bits, and the test override the
rails. -/
def settle (s : State) : State := pmbWatch (overrideFall (if s.sta.endDeep || s.sta.endLate then restEnded s else s))

/-- A command: refused where it names no event, else time passes and the event has its effect. -/
def act (i : Instr) (dt : Nat) (f : State → State) (s : State) : Host.Outcome State Fault Refusal :=
  if i.wf then .next (settle (f (advance dt s))) else .refused .illFormed

/-- An event that belongs to an instant of a grid of the local time base happens there only. -/
def onGrid (n : Nat) (f : State → State) (s : State) : State := if s.time.ticks % n = 0 then f s else s

/-- An event of a firmware component happens while the component runs. -/
def byComp (c : Nat) (f : State → State) (s : State) : State := if compOn s c then f s else s

/-- A bus access by an agent: a write of a value with byte enables, or a read. -/
def busAccess (agent o : Nat) (write : Bool) (val be : Nat) (s : State) : State :=
  if write then busWrite agent o val be s else busRead agent o none s

/-! ### Time, supplies and the reference -/

/-- VLINK is off in Dormant or on the way out of it (R304). -/
def linkDown (s : State) : Bool :=
  (restState s == 4 || (restState s == 5 && s.sta.exitOf == 4)) && !(railSt s 2 == rsOn || railSt s 2 == rsStop || railSt s 2 == rsSoft)

/-- SYSTIME_COHERENT (R24): the count of the link layer is taken while it is coherent; else SYSTIME_VALID is 0 and the count stands. While
VLINK is off no count comes (R304). -/
def systime (ok : Bool) (time : Nat) (s : State) : State :=
  let valid := ok && !linkDown s
  let s1 := setB s GLB.BOUNDARY_STATUS.SYSTIME_VALID valid
  if valid then { s1 with time := { s1.time with sys := time } } else s1

/-- VAON_LOW (R20): below 0.70 V for more than 1 µs, reported once for each onset (R469). -/
def vaonLow (lowest : Nat) (s : State) : State :=
  if s.time.vaonLow then s
  else
    let s1 := setB (setB s GLB.CORE_STATUS.VAON_LOW true) GLB.CORE_STATUS.BELOW_BOUNDS true
    sendFault 0xA0 0xA00 lowest { s1 with time := { s1.time with vaonLow := true } }

/-- VAON_RESTORED (R469): the condition has ended; 0.72 V is the lower end of the bounds (R20). -/
def vaonRestored (v : Nat) (s : State) : State :=
  let s1 := setB s GLB.CORE_STATUS.BELOW_BOUNDS (decide (v < 2880))
  { s1 with time := { s1.time with vaonLow := false } }

/-- VAON_COLLAPSE (R21): every PWM and PH_EN output is held low. -/
def vaonCollapse (s : State) : State :=
  let s1 := setB s GLB.CORE_STATUS.BELOW_BOUNDS true
  { s1 with phc := { s1.phc with allLow := true } }

/-- REFCLK_STOP and REFCLK_RESUME (R449). -/
def refclk (on : Bool) (s : State) : State := { s with time := { s.time with refRun := on } }

/-- Snapshots in progress complete before the power-fail flush (Table 16-7). -/
def snapFinish (s : State) : State :=
  s.evr.snaps.foldl (fun t n => snapRead (fun u o => hidden u 0x01 o (rawWord u 0x01 o false)) n.w 64 t) s

/-- PWR_FAIL_N falls: the quick stop, the POWER_FAIL record in its place among what waits (R18, R468), and the flush of what is unflushed
(R218, R383). -/
def powerFail (s : State) : State :=
  if !s.phc.pwrFailN then s
  else let t := ownRec recPower (toLE 8 s.time.sys) (snapFinish (pwrFailFall s)); flushBegin 5 (drain (t.inbox.length + 512) t)

/-! ### Firmware -/

/-- An armed injection into a core's memory: the word is stored and read back here (R394, R321; log entry 25). -/
def coreInject (c : Nat) (s : State) : State :=
  let k := coreOf c
  if !getB s FLC.INJECT.ARM || getF s FLC.INJECT.CHECKER != 2 + k then s
  else
    let s1 := setF (setB (setB s FLC.INJECT.ARM false) FLC.INJECT_STATUS.FIRED true) FLC.INJECT_STATUS.LAST_CHECKER (2 + k)
    match getF s FLC.INJECT.BITS with
    | 0 => s1
    | 1 => incF s1 (FW.CORE_STATUS.CORRECTED k)
    | _ => failing (fun t => coreException k (some c) (freeVal t % 2 ^ 32) (freeNext t)) s1

/-- COMPONENT_CHECK_IN (R323). -/
def checkInRow (c : Nat) (s : State) : State := byComp c (fun t => coreInject c (checkIn c t)) s

/-- FW_RESTART_LIMIT: the fault, and the safe state with cause 1 (R329, R313). -/
def limitRow (s : State) : State := if s.fw.limitDue then safeNow 1 (restartLimit s) else s

/-! ### PMBus -/

/-- MFR_READ_ENERGY: a block of 8 bytes on page 4 (Table 19-6). -/
def pmEnergy (m : Nat) (s : State) : State :=
  if pageOf s m = 4 then replyWith (8 :: toLE 8 (aGet 0 s.pmb.table (tableKey 0xD0 4 (column s)))) s else cmlInvalid 9 s

/-- MFR_BUS_DATA: one bus access by agent 0x02, after which the offset advances by 4 (Table 19-6). -/
def pmBusData (w : Option Nat) (pec : Bool) (s : State) : State :=
  let next := fun (t : State) => setPmb { t.pmb with addr := (t.pmb.addr + 4) % 2 ^ 20 } t
  match w with
  | some v => pecOr pec (fun t => next (busWrite 0x02 t.pmb.addr v 15 t)) s
  | none => let t := busRead 0x02 s.pmb.addr none s; replyWith (4 :: toLE 4 t.bus.rdata.toNat) (next t)

/-- PMBUS_INVALID_COMMAND: an unlisted command or an invalid page, or a PEC that failed. -/
def pmInvalid (pec : Bool) (n : Nat) (s : State) : State := if pec then cmlInvalid n s else latch latCml 5 true s

end Sys2Proof.Machine
end

