-- ==== Sys2Proof/Machine/BalanceRows.lean ====
section
/-! DEFINITION. Balance exchange and sideband (chapter 12): one meaning per row of the table, each an event after the time that passed before it. -/

namespace Sys2Proof.Machine

/-- BAL_ROUND_BEGIN: the balance agent (R279). -/
def execBalRoundBegin (dt : Nat) (s : State) : Out :=
  act (.balRoundBegin dt) dt (byComp 5 balRoundBegin) s

/-- BAL_FRAME_RECEIVED: the balance agent (R280). -/
def execBalFrameReceived (dt : Nat) (s : State) : Out :=
  act (.balFrameReceived dt) dt (byComp 5 balFrameReceived) s

/-- BAL_OUTCOME: the balance agent (R281). -/
def execBalOutcome (dt : Nat) (s : State) : Out :=
  act (.balOutcome dt) dt (byComp 5 balOutcome) s

/-- SIDEBAND_RECORD_RECEIVED: R291. -/
def execSidebandRecordReceived (dt : Nat) (p : Nat) (hdr body : List Nat) (tagOk : Bool) (s : State) : Out :=
  act (.sidebandRecordReceived dt p hdr body tagOk) dt (sidebandReceived p hdr body tagOk) s

/-- SB_COUNTER_END: R291. -/
def execSbCounterEnd (dt : Nat) (p : Nat) (s : State) : Out :=
  act (.sbCounterEnd dt p) dt (sbCounterEnd p) s

/-- SB_KEY_GRACE_END: R290. -/
def execSbKeyGraceEnd (dt : Nat) (ctx : Nat) (s : State) : Out :=
  act (.sbKeyGraceEnd dt ctx) dt (keyGraceEnd ctx) s

end Sys2Proof.Machine
end

