-- ==== Sys2Proof/Machine/EstimateRows.lean ====
section
/-! DEFINITION. Activity estimate and trust (chapter 03): one meaning per row of the table, each an event after the time that passed before it. -/

namespace Sys2Proof.Machine

/-- EST_WINDOW_SUBSTITUTED: 0.8 µs into the next window (R75). -/
def execEstWindowSubstituted (dt : Nat) (s : State) : Out :=
  act (.estWindowSubstituted dt) dt (fun t => if 80 ≤ t.time.ticks % 100 then windowSubst t else t) s

/-- EST_DISAGREE: row 5 of Table 3-5 (R84). -/
def execEstDisagree (dt : Nat) (s : State) : Out :=
  act (.estDisagree dt) dt (tryRow 5) s

/-- EST_MISMATCH: row 6 of Table 3-5 (R84). -/
def execEstMismatch (dt : Nat) (s : State) : Out :=
  act (.estMismatch dt) dt (tryRow 6) s

/-- EST_MODEL_LOST: row 1 of Table 3-5 (R84). -/
def execEstModelLost (dt : Nat) (s : State) : Out :=
  act (.estModelLost dt) dt (tryRow 1) s

/-- EST_MODEL_RESTORED: row 4 of Table 3-5 (R84). -/
def execEstModelRestored (dt : Nat) (s : State) : Out :=
  act (.estModelRestored dt) dt (tryRow 4) s

/-- EST_TRUST_AGREE: row 7 of Table 3-5 (R84). -/
def execEstTrustAgree (dt : Nat) (s : State) : Out :=
  act (.estTrustAgree dt) dt (tryRow 7) s

/-- EST_SHADOW_AGREE: row 8 of Table 3-5 (R80, R84). -/
def execEstShadowAgree (dt : Nat) (s : State) : Out :=
  act (.estShadowAgree dt) dt (tryRow 8) s

/-- CAL_ROUND: the built-in routine of a 1 ms round (R78, R80, R98). -/
def execCalRound (dt : Nat) (s : State) : Out :=
  act (.calRound dt) dt calRound s

/-- EST_CAL_CLAMP: R78. -/
def execEstCalClamp (dt : Nat) (k : Nat) (s : State) : Out :=
  act (.estCalClamp dt k) dt (calClamp k) s

/-- EST_RETRY: a bus write of RETRY (R86). -/
def execEstRetry (dt : Nat) (agent : Byte) (s : State) : Out :=
  act (.estRetry dt agent) dt (busWrite agent.toNat 0x2000C 1 15) s

/-- EST_CAL_RESET: a bus write of CAL_RESET (R78). -/
def execEstCalReset (dt : Nat) (agent : Byte) (s : State) : Out :=
  act (.estCalReset dt agent) dt (busWrite agent.toNat 0x2000C 2 15) s

end Sys2Proof.Machine
end

