-- ==== Sys2Proof/Machine/FirmwareRows.lean ====
section
/-! DEFINITION. Management firmware (chapter 14): one meaning per row of the table, each an event after the time that passed before it. -/

namespace Sys2Proof.Machine

/-- WDT_KICK: a bus write of THF_STA_WDT (R328). -/
def execWdtKick (dt : Nat) (agent : Byte) (val : Word) (s : State) : Out :=
  act (.wdtKick dt agent val) dt (busWrite agent.toNat 0xA002C val.toNat 15) s

/-- WDT_EXPIRY: R328, R330, R361. -/
def execWdtExpiry (dt : Nat) (s : State) : Out :=
  act (.wdtExpiry dt) dt (failing wdtExpiry) s

/-- MAIN_CORE_START: R328, R435. -/
def execMainCoreStart (dt : Nat) (found : List (Nat × List Nat)) (ok0 ok1 : Bool) (detail : Nat) (s : State) : Out :=
  act (.mainCoreStart dt found ok0 ok1 detail) dt (mainStart found ok0 ok1 detail) s

/-- HELPER_LOAD: R322. -/
def execHelperLoad (dt : Nat) (k : Nat) (ok : Bool) (off : Nat) (s : State) : Out :=
  act (.helperLoad dt k ok off) dt (failing (helperLoad k ok off)) s

/-- COMPONENT_CHECK_IN: R323, R394. -/
def execComponentCheckIn (dt : Nat) (c : Nat) (s : State) : Out :=
  act (.componentCheckIn dt c) dt (checkInRow c) s

/-- FW_COMPONENT_HANG: R327. -/
def execFwComponentHang (dt : Nat) (c : Nat) (s : State) : Out :=
  act (.fwComponentHang dt c) dt (failing (componentHang c)) s

/-- FW_MPU_VIOLATION: R326. -/
def execFwMpuViolation (dt : Nat) (c addr : Nat) (write exe : Bool) (s : State) : Out :=
  act (.fwMpuViolation dt c addr write exe) dt (failing (mpuViolation c addr write exe)) s

/-- FW_CORE_EXCEPTION: R327, R328. -/
def execFwCoreException (dt : Nat) (k : Nat) (comp : Option Nat) (addr : Nat) (s : State) : Out :=
  act (.fwCoreException dt k comp addr) dt (failing (coreException k comp addr)) s

/-- FW_COMPONENT_RESTART: R327. -/
def execFwComponentRestart (dt : Nat) (c : Nat) (s : State) : Out :=
  act (.fwComponentRestart dt c) dt (fun t => (compRestarted c t).1) s

/-- FW_RESTART_LIMIT: R329. -/
def execFwRestartLimit (dt : Nat) (s : State) : Out :=
  act (.fwRestartLimit dt) dt limitRow s

/-- HOST_ALIVE: a bus write of THF_FW_HOST_ALIVE (R335). -/
def execHostAlive (dt : Nat) (agent : Byte) (val : Word) (s : State) : Out :=
  act (.hostAlive dt agent val) dt (busWrite agent.toNat 0xB000C val.toNat 15) s

/-- HOST_ABSENT: R335, R336. -/
def execHostAbsent (dt : Nat) (s : State) : Out :=
  act (.hostAbsent dt) dt hostAbsent s

/-- HOST_ATTACH: a bus write of THF_FW_HOST_ATTACH (R337). -/
def execHostAttach (dt : Nat) (agent : Byte) (val : Word) (s : State) : Out :=
  act (.hostAttach dt agent val) dt (busWrite agent.toNat 0xB0014 val.toNat 15) s

/-- LOG_ENTRY: R338 to R341. -/
def execLogEntry (dt : Nat) (c kind id code : Nat) (payload : List Nat) (s : State) : Out :=
  act (.logEntry dt c kind id code payload) dt (logEntry c kind id code payload) s

/-- LOG_MIRROR_COPY: R342. -/
def execLogMirrorCopy (dt : Nat) (ok : Bool) (s : State) : Out :=
  act (.logMirrorCopy dt ok) dt (failing (logMirrorCopy ok)) s

end Sys2Proof.Machine
end

