-- ==== Sys2Proof/Machine/LimitRows.lean ====
section
/-! DEFINITION. Limit governor and thermal manager (chapters 10, 11): one meaning per row of the table, each an event after the time that passed before it. -/

namespace Sys2Proof.Machine

/-- PROTECTIVE_LOWERING: R234. -/
def execProtectiveLowering (dt : Nat) (cond : Nat) (s : State) : Out :=
  act (.protectiveLowering dt cond) dt (protectiveLowering cond) s

/-- LIMIT_UNMET: R236. -/
def execLimitUnmet (dt : Nat) (cond : Nat) (s : State) : Out :=
  act (.limitUnmet dt cond) dt (limitUnmet cond) s

/-- LGV_DUTY_STEP: R245. -/
def execLgvDutyStep (dt : Nat) (s : State) : Out :=
  act (.lgvDutyStep dt) dt lgvDutyStep s

/-- CAP_UNATTAINABLE: the governor's firmware part works (R230, R247). -/
def execCapUnattainable (dt : Nat) (s : State) : Out :=
  act (.capUnattainable dt) dt (fun t => if dutyRuns t then capUnattainable t else t) s

/-- THERM_LIM_WRITE: a bus write of THF_LGV_THERM_LIM (R233). -/
def execThermLimWrite (dt : Nat) (agent : Byte) (val : Word) (s : State) : Out :=
  act (.thermLimWrite dt agent val) dt (busWrite agent.toNat 0x70060 val.toNat 15) s

/-- THERMAL_RISE: R265. -/
def execThermalRise (dt : Nat) (r : Nat) (s : State) : Out :=
  act (.thermalRise dt r) dt (thermalRise r) s

/-- TMG_FW_ROUND: the thermal manager (R257, R267, R268). -/
def execTmgFwRound (dt : Nat) (s : State) : Out :=
  act (.tmgFwRound dt) dt (byComp 4 tmgFwRound) s

/-- SENSOR_SUSPECT: the thermal manager (R257, R258). -/
def execSensorSuspect (dt : Nat) (c : Nat) (s : State) : Out :=
  act (.sensorSuspect dt c) dt (byComp 4 (sensorSuspect c)) s

/-- TMG_SENSOR_TRUSTED: the thermal manager (R257). -/
def execTmgSensorTrusted (dt : Nat) (c : Nat) (s : State) : Out :=
  act (.tmgSensorTrusted dt c) dt (byComp 4 (sensorTrusted c)) s

/-- THERMAL_FLOOR: the thermal manager (R269). -/
def execThermalFloor (dt : Nat) (s : State) : Out :=
  act (.thermalFloor dt) dt (byComp 4 thermalFloor) s

/-- SUSPECT_SET_WRITE: a bus write of THF_TMG_SUSPECT_SET[w] (R257). -/
def execSuspectSetWrite (dt : Nat) (agent : Byte) (w : Nat) (val : Word) (s : State) : Out :=
  act (.suspectSetWrite dt agent w val) dt (busWrite agent.toNat (0x80280 + 4 * w) val.toNat 15) s

/-- SUSPECT_CLEAR_WRITE: a bus write of THF_TMG_SUSPECT[w] (R258). -/
def execSuspectClearWrite (dt : Nat) (agent : Byte) (w : Nat) (val : Word) (s : State) : Out :=
  act (.suspectClearWrite dt agent w val) dt (busWrite agent.toNat (0x80200 + 4 * w) val.toNat 15) s

/-- TRIP_COMPARATOR: R261 to R263. -/
def execTripComparator (dt : Nat) (r n : Nat) (s : State) : Out :=
  act (.tripComparator dt r n) dt (tripComparator r n) s

/-- TRIP_COMPARATOR_RELEASE: R261, R263. -/
def execTripComparatorRelease (dt : Nat) (r n : Nat) (s : State) : Out :=
  act (.tripComparatorRelease dt r n) dt (tripRelease r n) s

end Sys2Proof.Machine
end

