-- ==== Sys2Proof/Machine/PacketRows.lean ====
section
/-! DEFINITION. Packets (chapter 15, Table 15-5): one meaning per row of the table, each an event after the time that passed before it. -/

namespace Sys2Proof.Machine

/-- NOP: opcode 0x00, and any opcode that Table 15-5 does not list (R352, R362). -/
def execNop (dt : Nat) (q : Nat) (s : State) : Out :=
  act (.nop dt q) dt (packetRow (fun o => o == 0x00 || !opcodes.contains o) q doNop) s

/-- REG_WRITE: R363, R364. -/
def execRegWrite (dt : Nat) (q : Nat) (s : State) : Out :=
  act (.regWrite dt q) dt (packetRow (fun o => o == 0x01) q doRegWrite) s

/-- REG_READ: R362. -/
def execRegRead (dt : Nat) (q : Nat) (s : State) : Out :=
  act (.regRead dt q) dt (packetRow (fun o => o == 0x02) q doRegRead) s

/-- MARK: R362. -/
def execMark (dt : Nat) (q : Nat) (s : State) : Out :=
  act (.mark dt q) dt (packetRow (fun o => o == 0x03) q doMark) s

/-- JOB_ATTACH: R362, R24. -/
def execJobAttach (dt : Nat) (q : Nat) (s : State) : Out :=
  act (.jobAttach dt q) dt (packetRow (fun o => o == 0x08) q doJobAttach) s

/-- JOB_DETACH: R362. -/
def execJobDetach (dt : Nat) (q : Nat) (s : State) : Out :=
  act (.jobDetach dt q) dt (packetRow (fun o => o == 0x09) q doJobDetach) s

/-- SET_CAP: R244, R362. -/
def execSetCap (dt : Nat) (q : Nat) (s : State) : Out :=
  act (.setCap dt q) dt (packetRow (fun o => o == 0x0C) q doSetCap) s

/-- GET_CAP_STATE: R247, R362. -/
def execGetCapState (dt : Nat) (q : Nat) (s : State) : Out :=
  act (.getCapState dt q) dt (packetRow (fun o => o == 0x0D) q doGetCap) s

/-- PLAN_SEGMENT_BLOCK: R141, R142, R365. -/
def execPlanSegmentBlock (dt : Nat) (q : Nat) (s : State) : Out :=
  act (.planSegmentBlock dt q) dt (blockRow 0x10 q true true) s

/-- PLAN_STOP: R149. -/
def execPlanStop (dt : Nat) (q : Nat) (s : State) : Out :=
  act (.planStop dt q) dt (packetRow (fun o => o == 0x11) q doPlanStop) s

/-- PROGRAM_BLOCK: R111, R112, R365. -/
def execProgramBlock (dt : Nat) (q : Nat) (s : State) : Out :=
  act (.programBlock dt q) dt (blockRow 0x18 q true true) s

/-- SB_KEY_INSTALL: R290, R411. -/
def execSbKeyInstall (dt : Nat) (q : Nat) (opens : Bool) (key : Nat) (s : State) : Out :=
  act (.sbKeyInstall dt q opens key) dt (packetRow (fun o => o == 0x20) q (doSbKey opens key)) s

/-- LOG_KEY_ROTATE: R414. -/
def execLogKeyRotate (dt : Nat) (q : Nat) (s : State) : Out :=
  act (.logKeyRotate dt q) dt (packetRow (fun o => o == 0x21) q doLogKey) s

/-- CONF_MODE: R404. -/
def execConfMode (dt : Nat) (q : Nat) (s : State) : Out :=
  act (.confMode dt q) dt (packetRow (fun o => o == 0x22) q doConfMode) s

/-- PARTITION_ASSIGN: R401. -/
def execPartitionAssign (dt : Nat) (q : Nat) (s : State) : Out :=
  act (.partitionAssign dt q) dt (packetRow (fun o => o == 0x23) q doAssign) s

/-- SCRUB_BEGIN: R402. -/
def execScrubBegin (dt : Nat) (q : Nat) (s : State) : Out :=
  act (.scrubBegin dt q) dt (packetRow (fun o => o == 0x24) q doScrubBegin) s

/-- SCRUB_END: R402. -/
def execScrubEnd (dt : Nat) (q : Nat) (s : State) : Out :=
  act (.scrubEnd dt q) dt (packetRow (fun o => o == 0x25) q doScrubEnd) s

/-- UPDATE_BLOCK: R365, R422. -/
def execUpdateBlock (dt : Nat) (q : Nat) (rootOk sigOk : Bool) (s : State) : Out :=
  act (.updateBlock dt q rootOk sigOk) dt (blockRow 0x30 q rootOk sigOk) s

/-- UPDATE_ACTIVATE: R426. -/
def execUpdateActivate (dt : Nat) (q : Nat) (s : State) : Out :=
  act (.updateActivate dt q) dt (packetRow (fun o => o == 0x31) q doActivate) s

/-- UPDATE_CONFIRM: R433. -/
def execUpdateConfirm (dt : Nat) (q : Nat) (s : State) : Out :=
  act (.updateConfirm dt q) dt (packetRow (fun o => o == 0x32) q doConfirm) s

/-- UPDATE_ABORT: R438. -/
def execUpdateAbort (dt : Nat) (q : Nat) (s : State) : Out :=
  act (.updateAbort dt q) dt (packetRow (fun o => o == 0x33) q doAbort) s

/-- EVR_WATCH: R380. -/
def execEvrWatch (dt : Nat) (q : Nat) (s : State) : Out :=
  act (.evrWatch dt q) dt (packetRow (fun o => o == 0x38) q doWatch) s

/-- EVR_FLUSH: R382. -/
def execEvrFlush (dt : Nat) (q : Nat) (s : State) : Out :=
  act (.evrFlush dt q) dt (packetRow (fun o => o == 0x39) q doFlush) s

/-- FAULT_POLICY: R391. -/
def execFaultPolicy (dt : Nat) (q : Nat) (s : State) : Out :=
  act (.faultPolicy dt q) dt (packetRow (fun o => o == 0x3A) q doPolicy) s

end Sys2Proof.Machine
end

