-- ==== Sys2Proof/Machine/PhaseRows.lean ====
section
/-! DEFINITION. Phases and regulation (chapter 08): one meaning per row of the table, each an event after the time that passed before it. -/

namespace Sys2Proof.Machine

/-- VSEL_LATCH: R193. -/
def execVselLatch (dt : Nat) (v : Nat) (s : State) : Out :=
  act (.vselLatch dt v) dt (vselLatch v) s

/-- SETPOINT_RAMP_DONE: with the beat rate that the ceiling then allows (R195). -/
def execSetpointRampDone (dt : Nat) (k : Nat) (s : State) : Out :=
  act (.setpointRampDone dt k) dt ((fun t => refreshRate (setpointRampDone k t))) s

/-- DE_ENTER: R196. -/
def execDeEnter (dt : Nat) (k : Nat) (s : State) : Out :=
  act (.deEnter dt k) dt (deEnter k) s

/-- PHASE_RAMP_IN_DONE: R198. -/
def execPhaseRampInDone (dt : Nat) (n : Nat) (s : State) : Out :=
  act (.phaseRampInDone dt n) dt (phaseRampInDone n) s

/-- PHASE_RAMP_OUT_DONE: R200. -/
def execPhaseRampOutDone (dt : Nat) (n : Nat) (s : State) : Out :=
  act (.phaseRampOutDone dt n) dt (phaseRampOutDone n) s

/-- SHED_INH_END: R201. -/
def execShedInhEnd (dt : Nat) (k : Nat) (s : State) : Out :=
  act (.shedInhEnd dt k) dt (shedInhEnd k) s

/-- ALL_PHASE_BURST: R202, R203. -/
def execAllPhaseBurst (dt : Nat) (p : VcorePoints) (s : State) : Out :=
  act (.allPhaseBurst dt p) dt (allPhaseBurst p) s

/-- BURST_END: R203. -/
def execBurstEnd (dt : Nat) (p : VcorePoints) (s : State) : Out :=
  act (.burstEnd dt p) dt (burstEnd p) s

/-- BURST_REARM_END: R203. -/
def execBurstRearmEnd (dt : Nat) (s : State) : Out :=
  act (.burstRearmEnd dt) dt burstRearmEnd s

/-- PHASE_OC_TRIP: R205. -/
def execPhaseOcTrip (dt : Nat) (n : Nat) (s : State) : Out :=
  act (.phaseOcTrip dt n) dt (phaseOcTrip n) s

/-- PHASE_OC_RELEASE: R205. -/
def execPhaseOcRelease (dt : Nat) (n : Nat) (s : State) : Out :=
  act (.phaseOcRelease dt n) dt (phaseOcRelease n) s

/-- PHASE_FAULT: R207. -/
def execPhaseFault (dt : Nat) (n : Nat) (s : State) : Out :=
  act (.phaseFault dt n) dt (phaseFault n) s

/-- PHASE_HOT: R209. -/
def execPhaseHot (dt : Nat) (n : Nat) (s : State) : Out :=
  act (.phaseHot dt n) dt (phaseHot n) s

/-- PHASE_IMBALANCE: R209. -/
def execPhaseImbalance (dt : Nat) (n : Nat) (s : State) : Out :=
  act (.phaseImbalance dt n) dt (phaseImbalance n) s

/-- PHC_RETIRED_WRITE: a bus write of THF_PHC_RETIRED[w] (R211). -/
def execPhcRetiredWrite (dt : Nat) (agent : Byte) (w : Nat) (val : Word) (s : State) : Out :=
  act (.phcRetiredWrite dt agent w val) dt (busWrite agent.toNat (0x60080 + 4 * w) val.toNat 15) s

end Sys2Proof.Machine
end

