-- ==== Sys2Proof/Machine/PlanRows.lean ====
section
/-! DEFINITION. Power plan and launch moves (chapters 06, 07): one meaning per row of the table, each an event after the time that passed before it. -/

namespace Sys2Proof.Machine

/-- FF_SCHEDULE_COMPUTED: R152. -/
def execFfScheduleComputed (dt : Nat) (s : State) : Out :=
  act (.ffScheduleComputed dt) dt ffScheduleComputed s

/-- FF_ADD_ACTION: R153. -/
def execFfAddAction (dt : Nat) (k : Nat) (s : State) : Out :=
  act (.ffAddAction dt k) dt (ffAddAction k) s

/-- FF_LIFT_ACTION: R155. -/
def execFfLiftAction (dt : Nat) (s : State) : Out :=
  act (.ffLiftAction dt) dt ffLiftAction s

/-- DRG_EVALUATE: on the 250 ns grid (R176). -/
def execDrgEvaluate (dt : Nat) (s : State) : Out :=
  act (.drgEvaluate dt) dt (onGrid 25 drgEvaluate) s

/-- LAUNCH_MOVE: R178. -/
def execLaunchMove (dt : Nat) (step time : Nat) (s : State) : Out :=
  act (.launchMove dt step time) dt (launchMove step time) s

end Sys2Proof.Machine
end

