-- ==== Sys2Proof/Machine/PmbusRows.lean ====
section
/-! DEFINITION. PMBus (chapter 19): one meaning per row of the table, each an event after the time that passed before it. -/

namespace Sys2Proof.Machine

/-- PMBUS_TABLE_REFRESH: on the 1 ms grid (R456, R458, R459). -/
def execPmbusTableRefresh (dt : Nat) (s : State) : Out :=
  act (.pmbusTableRefresh dt) dt (onGrid 100000 tableRefresh) s

/-- PAGE: R456, R457. -/
def execPage (dt : Nat) (m : Nat) (w : Option Nat) (pec : Bool) (s : State) : Out :=
  act (.page dt m w pec) dt (pecOr (w.isNone || pec) (pmPage m w)) s

/-- CLEAR_FAULTS: R457. -/
def execClearFaults (dt : Nat) (pec : Bool) (s : State) : Out :=
  act (.clearFaults dt pec) dt (pecOr pec clearFaults) s

/-- CAPABILITY: R457. -/
def execCapability (dt : Nat) (m : Nat) (s : State) : Out :=
  act (.capability dt m) dt (pmRead allPages m 1 (fun _ => 0xD0)) s

/-- VOUT_MODE: R457. -/
def execVoutMode (dt : Nat) (m : Nat) (s : State) : Out :=
  act (.voutMode dt m) dt (pmRead [0, 1, 2, 3] m 1 (fun _ => 0x14)) s

/-- PMBUS_REVISION: R457. -/
def execPmbusRevision (dt : Nat) (m : Nat) (s : State) : Out :=
  act (.pmbusRevision dt m) dt (pmRead allPages m 1 (fun _ => 0x33)) s

/-- STATUS_BYTE: R457, R459. -/
def execStatusByte (dt : Nat) (m : Nat) (s : State) : Out :=
  act (.statusByte dt m) dt (fun t => pmRead allPages m 1 (fun p => statusWord t p % 256) t) s

/-- STATUS_WORD: R457, R459. -/
def execStatusWord (dt : Nat) (m : Nat) (s : State) : Out :=
  act (.statusWord dt m) dt (fun t => pmRead allPages m 2 (fun p => statusWord t p) t) s

/-- STATUS_VOUT: R457, R459. -/
def execStatusVout (dt : Nat) (m : Nat) (s : State) : Out :=
  act (.statusVout dt m) dt (fun t => pmRead allPages m 1 (fun p => if p < 4 then latOf t (latVout p) else 0) t) s

/-- STATUS_IOUT: R457, R459. -/
def execStatusIout (dt : Nat) (m : Nat) (s : State) : Out :=
  act (.statusIout dt m) dt (fun t => pmRead allPages m 1 (fun p => latOf t (latIout p)) t) s

/-- STATUS_INPUT: R457, R459. -/
def execStatusInput (dt : Nat) (m : Nat) (s : State) : Out :=
  act (.statusInput dt m) dt (fun t => pmRead [4] m 1 (fun _ => latOf t latInput) t) s

/-- STATUS_TEMPERATURE: R457, R459. -/
def execStatusTemperature (dt : Nat) (m : Nat) (s : State) : Out :=
  act (.statusTemperature dt m) dt (fun t => pmRead allPages m 1 (fun _ => latOf t latTemp) t) s

/-- STATUS_CML: R457, R459. -/
def execStatusCml (dt : Nat) (m : Nat) (s : State) : Out :=
  act (.statusCml dt m) dt (fun t => pmRead allPages m 1 (fun _ => latOf t latCml) t) s

/-- STATUS_MFR_SPECIFIC: R457, R459. -/
def execStatusMfrSpecific (dt : Nat) (m : Nat) (s : State) : Out :=
  act (.statusMfrSpecific dt m) dt (fun t => pmRead allPages m 1 (fun _ => mfrByte t) t) s

/-- READ_VIN: R457, R458. -/
def execReadVin (dt : Nat) (m : Nat) (s : State) : Out :=
  act (.readVin dt m) dt (tableRead [4] 0x88 m) s

/-- READ_IIN: R457, R458. -/
def execReadIin (dt : Nat) (m : Nat) (s : State) : Out :=
  act (.readIin dt m) dt (tableRead [4] 0x89 m) s

/-- READ_VOUT: R457, R458. -/
def execReadVout (dt : Nat) (m : Nat) (s : State) : Out :=
  act (.readVout dt m) dt (tableRead [0, 1, 2, 3] 0x8B m) s

/-- READ_IOUT: R457, R458. -/
def execReadIout (dt : Nat) (m : Nat) (s : State) : Out :=
  act (.readIout dt m) dt (tableRead [0, 1, 2, 3] 0x8C m) s

/-- READ_TEMPERATURE_1: R457, R458. -/
def execReadTemperature1 (dt : Nat) (m : Nat) (s : State) : Out :=
  act (.readTemperature1 dt m) dt (tableRead allPages 0x8D m) s

/-- READ_TEMPERATURE_2: R457, R458. -/
def execReadTemperature2 (dt : Nat) (m : Nat) (s : State) : Out :=
  act (.readTemperature2 dt m) dt (tableRead [4] 0x8E m) s

/-- READ_TEMPERATURE_3: R457, R458. -/
def execReadTemperature3 (dt : Nat) (m : Nat) (s : State) : Out :=
  act (.readTemperature3 dt m) dt (tableRead [4] 0x8F m) s

/-- READ_POUT: R457, R458. -/
def execReadPout (dt : Nat) (m : Nat) (s : State) : Out :=
  act (.readPout dt m) dt (tableRead allPages 0x96 m) s

/-- READ_PIN: R457, R458. -/
def execReadPin (dt : Nat) (m : Nat) (s : State) : Out :=
  act (.readPin dt m) dt (tableRead [4] 0x97 m) s

/-- MFR_ID: R457. -/
def execMfrId (dt : Nat) (m : Nat) (s : State) : Out :=
  act (.mfrId dt m) dt (boardRead 0x99) s

/-- MFR_MODEL: R457. -/
def execMfrModel (dt : Nat) (m : Nat) (s : State) : Out :=
  act (.mfrModel dt m) dt (boardRead 0x9A) s

/-- MFR_REVISION: R457. -/
def execMfrRevision (dt : Nat) (m : Nat) (s : State) : Out :=
  act (.mfrRevision dt m) dt (boardRead 0x9B) s

/-- MFR_SERIAL: R457. -/
def execMfrSerial (dt : Nat) (m : Nat) (s : State) : Out :=
  act (.mfrSerial dt m) dt (boardRead 0x9E) s

/-- MFR_READ_ENERGY: R457. -/
def execMfrReadEnergy (dt : Nat) (m : Nat) (s : State) : Out :=
  act (.mfrReadEnergy dt m) dt (pmEnergy m) s

/-- MFR_BUS_ADDR: R457. -/
def execMfrBusAddr (dt : Nat) (v : Nat) (pec : Bool) (s : State) : Out :=
  act (.mfrBusAddr dt v pec) dt (pecOr pec (busAddr v)) s

/-- MFR_BUS_DATA: R457, R460. -/
def execMfrBusData (dt : Nat) (w : Option Word) (pec : Bool) (s : State) : Out :=
  act (.mfrBusData dt w pec) dt (pmBusData (w.map (fun v => v.toNat)) pec) s

/-- PMBUS_INVALID_COMMAND: R456, R457. -/
def execPmbusInvalidCommand (dt : Nat) (pec : Bool) (n : Nat) (s : State) : Out :=
  act (.pmbusInvalidCommand dt pec n) dt (pmInvalid pec n) s

/-- PMBUS_SCL_TIMEOUT: R456. -/
def execPmbusSclTimeout (dt : Nat) (s : State) : Out :=
  act (.pmbusSclTimeout dt) dt sclTimeout s

/-- SMBUS_ALERT_RESPONSE: R456. -/
def execSmbusAlertResponse (dt : Nat) (s : State) : Out :=
  act (.smbusAlertResponse dt) dt alertResponse s

end Sys2Proof.Machine
end

