-- ==== Sys2Proof/Machine/PredictorRows.lean ====
section
/-! DEFINITION. Predictor engine (chapters 04, 05): one meaning per row of the table, each an event after the time that passed before it. -/

namespace Sys2Proof.Machine

/-- PXE_SLOT1_TRIGGER: once after the region estimates of each 100 µs close (R98). -/
def execPxeSlot1Trigger (dt : Nat) (s : State) : Out :=
  act (.pxeSlot1Trigger dt) dt slot1Trigger s

/-- PXE_SLOT3_TRIGGER: once each USER_PERIOD (R98). -/
def execPxeSlot3Trigger (dt : Nat) (s : State) : Out :=
  act (.pxeSlot3Trigger dt) dt slot3Trigger s

/-- PXE_PUBLISH: a run in progress and not past its deadline reaches END (R101, R105). -/
def execPxePublish (dt : Nat) (slot time : Nat) (s : State) : Out :=
  act (.pxePublish dt slot time) dt (publishRow slot time) s

/-- PXE_OVERRUN: R101. -/
def execPxeOverrun (dt : Nat) (slot desc : Nat) (s : State) : Out :=
  act (.pxeOverrun dt slot desc) dt (pxeOverrun slot desc) s

/-- PXE_MEM_UNCORRECTABLE: R106. -/
def execPxeMemUncorrectable (dt : Nat) (slot addr desc : Nat) (s : State) : Out :=
  act (.pxeMemUncorrectable dt slot addr desc) dt (pxeMemUncorrectable slot addr desc) s

/-- PXE_CAP_RELEASE: a bus write of VALID (R133). -/
def execPxeCapRelease (dt : Nat) (agent : Byte) (slot : Nat) (s : State) : Out :=
  act (.pxeCapRelease dt agent slot) dt (busWrite agent.toNat (0x30140 + 32 * slot) 1 15) s

end Sys2Proof.Machine
end

