-- ==== Sys2Proof/Machine/RecorderRows.lean ====
section
/-! DEFINITION. Event recorder, fault collector and the security unit (chapters 16, 17): one meaning per row of the table, each an event after the time that passed before it. -/

namespace Sys2Proof.Machine

/-- EVR_RECORD_POST: R377. -/
def execEvrRecordPost (dt : Nat) (s : State) : Out :=
  act (.evrRecordPost dt) dt recordPost s

/-- EVR_EPOCH_PERIODIC: R374. -/
def execEvrEpochPeriodic (dt : Nat) (s : State) : Out :=
  act (.evrEpochPeriodic dt) dt epochPeriodic s

/-- WATCH_SNAPSHOT: each value as a bus read by the host driver returns it (R379, R381). -/
def execWatchSnapshot (dt : Nat) (w m : Nat) (s : State) : Out :=
  act (.watchSnapshot dt w m) dt (snapRead (fun t o => hidden t 0x01 o (rawWord t 0x01 o false)) w m) s

/-- EVR_FLUSH_DONE: R382. -/
def execEvrFlushDone (dt : Nat) (ok : Option Nat) (s : State) : Out :=
  act (.evrFlushDone dt ok) dt (flushDone ok) s

/-- FLUSH_MIN_END: R382. -/
def execFlushMinEnd (dt : Nat) (s : State) : Out :=
  act (.flushMinEnd dt) dt flushMinEnd s

/-- ERASE_AHEAD: R382. -/
def execEraseAhead (dt : Nat) (s : State) : Out :=
  act (.eraseAhead dt) dt eraseAhead s

/-- HOURS_SAVE: R384. -/
def execHoursSave (dt : Nat) (s : State) : Out :=
  act (.hoursSave dt) dt hoursSave s

/-- FAULT_MESSAGE: R389. -/
def execFaultMessage (dt : Nat) (s : State) : Out :=
  act (.faultMessage dt) dt faultMessage s

/-- SEVERE_CLEAR: a bus write of THF_FLC_SEVERE[v] (R389). -/
def execSevereClear (dt : Nat) (agent : Byte) (v : Nat) (val : Word) (s : State) : Out :=
  act (.severeClear dt agent v val) dt (busWrite agent.toNat (0xD1000 + 4 * v) val.toNat 15) s

/-- FLC_SELF_FAULT: R392. -/
def execFlcSelfFault (dt : Nat) (info : Nat) (s : State) : Out :=
  act (.flcSelfFault dt info) dt (selfFault info) s

/-- FLC_INJECT: a bus write of THF_FLC_INJECT (R394). -/
def execFlcInject (dt : Nat) (agent : Byte) (val : Word) (s : State) : Out :=
  act (.flcInject dt agent val) dt (busWrite agent.toNat 0xD0098 val.toNat 15) s

/-- HB_KICK: a bus write of THF_FLC_HB_KICK (R393). -/
def execHbKick (dt : Nat) (agent : Byte) (val : Word) (s : State) : Out :=
  act (.hbKick dt agent val) dt (busWrite agent.toNat 0xD0088 val.toNat 15) s

/-- HB_TOGGLE: R393. -/
def execHbToggle (dt : Nat) (s : State) : Out :=
  act (.hbToggle dt) dt hbToggle s

/-- HB_TIMEOUT: R393. -/
def execHbTimeout (dt : Nat) (s : State) : Out :=
  act (.hbTimeout dt) dt hbTimeout s

/-- KX_NEW: a bus write of NEW (R410). -/
def execKxNew (dt : Nat) (agent : Byte) (s : State) : Out :=
  act (.kxNew dt agent) dt (busWrite agent.toNat 0xE0008 1 15) s

/-- KX_READY: R410. -/
def execKxReady (dt : Nat) (pub sig : List Nat) (s : State) : Out :=
  act (.kxReady dt pub sig) dt (kxReady pub sig) s

/-- LOG_MIGRATE_GRANULE: R415. -/
def execLogMigrateGranule (dt : Nat) (opens stop : Bool) (s : State) : Out :=
  act (.logMigrateGranule dt opens stop) dt (migrateGran opens stop) s

/-- EVR_WIN_FLASH_READ: a bus read through the recorder's window (R385, R413). -/
def execEvrWinFlashRead (dt : Nat) (agent : Byte) (n : Nat) (tag : Bool) (s : State) : Out :=
  act (.evrWinFlashRead dt agent n tag) dt (busRead agent.toNat (0xD8000 + 4 * n) (some tag)) s

end Sys2Proof.Machine
end

