-- ==== Sys2Proof/Machine/RestRows.lean ====
section
/-! DEFINITION. Rest states, the safe state and resets (chapter 13): one meaning per row of the table, each an event after the time that passed before it. -/

namespace Sys2Proof.Machine

/-- REST_ENTER: R300. -/
def execRestEnter (dt : Nat) (s : State) : Out :=
  act (.restEnter dt) dt restEnter s

/-- REST_WAKE: R301. -/
def execRestWake (dt : Nat) (s : State) : Out :=
  act (.restWake dt) dt restWake s

/-- REST_EXIT: R303. -/
def execRestExit (dt : Nat) (s : State) : Out :=
  act (.restExit dt) dt restExit s

/-- SR_CONFIRMED: R304. -/
def execSrConfirmed (dt : Nat) (s : State) : Out :=
  act (.srConfirmed dt) dt srConfirmed s

/-- REST_SR_TIMEOUT: R305. -/
def execRestSrTimeout (dt : Nat) (s : State) : Out :=
  act (.restSrTimeout dt) dt srTimeout s

/-- STA_WAKE: a bus write of WAKE (R301). -/
def execStaWake (dt : Nat) (agent : Byte) (s : State) : Out :=
  act (.staWake dt agent) dt (busWrite agent.toNat 0xA000C 1 15) s

/-- ENTER_SAFE: a bus write of ENTER_SAFE (R313). -/
def execEnterSafe (dt : Nat) (agent : Byte) (s : State) : Out :=
  act (.enterSafe dt agent) dt (busWrite agent.toNat 0xA000C 2 15) s

/-- SAFE_STATE_ENTER: what asked for the safe state is answered (R313). -/
def execSafeStateEnter (dt : Nat) (s : State) : Out :=
  act (.safeStateEnter dt) dt safeDueEnter s

/-- BLOCK_RESTART: a bus write of THF_STA_RESET_CMD (R311). -/
def execBlockRestart (dt : Nat) (agent : Byte) (val : Word) (s : State) : Out :=
  act (.blockRestart dt agent val) dt (busWrite agent.toNat 0xA0020 val.toNat 15) s

/-- CHIP_RESET: R311. -/
def execChipReset (dt : Nat) (s : State) : Out :=
  act (.chipReset dt) dt chipReset s

/-- MODULE_RESET: R310. -/
def execModuleReset (dt : Nat) (s : State) : Out :=
  act (.moduleReset dt) dt moduleReset s

/-- MODULE_RESET_RELEASE: R310. -/
def execModuleResetRelease (dt : Nat) (s : State) : Out :=
  act (.moduleResetRelease dt) dt moduleRelease s

/-- COLD_START: R309. -/
def execColdStart (dt : Nat) (s : State) : Out :=
  act (.coldStart dt) dt coldStart s

/-- PUF_RECONSTRUCT: R409. -/
def execPufReconstruct (dt : Nat) (ok : Bool) (blocks : Nat) (pub : List Nat) (s : State) : Out :=
  act (.pufReconstruct dt ok blocks pub) dt (pufReconstruct ok blocks pub) s

end Sys2Proof.Machine
end

