-- ==== Sys2Proof/Machine/RingRows.lean ====
section
/-! DEFINITION. Rings, the gate and mailboxes (chapter 15): one meaning per row of the table, each an event after the time that passed before it. -/

namespace Sys2Proof.Machine

/-- RING_ENABLE: a bus write of THF_CMD_RING_CFG[q] (R347). -/
def execRingEnable (dt : Nat) (agent : Byte) (q : Nat) (val : Word) (s : State) : Out :=
  act (.ringEnable dt agent q val) dt (busWrite agent.toNat (0xC1000 + 64 * q) val.toNat 15) s

/-- RING_DISABLE: a bus write of THF_CMD_RING_CFG[q] (R347). -/
def execRingDisable (dt : Nat) (agent : Byte) (q : Nat) (val : Word) (s : State) : Out :=
  act (.ringDisable dt agent q val) dt (busWrite agent.toNat (0xC1000 + 64 * q) val.toNat 15) s

/-- RING_RESET: a bus write of THF_CMD_RING_CFG[q] (R353). -/
def execRingReset (dt : Nat) (agent : Byte) (q : Nat) (val : Word) (s : State) : Out :=
  act (.ringReset dt agent q val) dt (busWrite agent.toNat (0xC1000 + 64 * q) val.toNat 15) s

/-- RING_DOORBELL: a bus write of THF_CMD_RING_TAIL[q] (R348). -/
def execRingDoorbell (dt : Nat) (agent : Byte) (q : Nat) (val : Word) (s : State) : Out :=
  act (.ringDoorbell dt agent q val) dt (busWrite agent.toNat (0xC1008 + 64 * q) val.toNat 15) s

/-- CQ_HEAD_WRITE: a bus write of THF_CMD_RING_CQ_HEAD[q] (R359). -/
def execCqHeadWrite (dt : Nat) (agent : Byte) (q : Nat) (val : Word) (s : State) : Out :=
  act (.cqHeadWrite dt agent q val) dt (busWrite agent.toNat (0xC1010 + 64 * q) val.toNat 15) s

/-- GATE_OPEN: a bus write of OPEN (R357). -/
def execGateOpen (dt : Nat) (agent : Byte) (s : State) : Out :=
  act (.gateOpen dt agent) dt (busWrite agent.toNat 0xC0020 1 15) s

/-- GATE_CLOSE: a bus write of OPEN (R357). -/
def execGateClose (dt : Nat) (agent : Byte) (s : State) : Out :=
  act (.gateClose dt agent) dt (busWrite agent.toNat 0xC0020 0 15) s

/-- TAGGED_PACKET_RESUME: R358. -/
def execTaggedPacketResume (dt : Nat) (s : State) : Out :=
  act (.taggedPacketResume dt) dt taggedResume s

/-- TAGGED_COMPLETION: R359. -/
def execTaggedCompletion (dt : Nat) (s : State) : Out :=
  act (.taggedCompletion dt) dt taggedCompletion s

/-- BLOCK_FETCH_DONE: R365. -/
def execBlockFetchDone (dt : Nat) (q : Nat) (data : List Nat) (ok : Bool) (s : State) : Out :=
  act (.blockFetchDone dt q data ok) dt (fetchDone q data ok) s

/-- MBX_WRITE: a bus write of THF_MBX_DATA[m] (R369). -/
def execMbxWrite (dt : Nat) (agent : Byte) (m : Nat) (val : Word) (s : State) : Out :=
  act (.mbxWrite dt agent m val) dt (busWrite agent.toNat (0xC3004 + 16 * m) val.toNat 15) s

/-- MBX_READ: a bus read of THF_MBX_DATA[m] (R369). -/
def execMbxRead (dt : Nat) (agent : Byte) (m : Nat) (s : State) : Out :=
  act (.mbxRead dt agent m) dt (busRead agent.toNat (0xC3004 + 16 * m) none) s

/-- PING: R370. -/
def execPing (dt : Nat) (m : Nat) (s : State) : Out :=
  act (.ping dt m) dt (mbxAnswer m (fun c => c == 1) (fun w => w)) s

/-- GENERATION: R370. -/
def execGeneration (dt : Nat) (m : Nat) (s : State) : Out :=
  act (.generation dt m) dt (fun t => mbxAnswer m (fun c => c == 2) (fun _ => 0x02000000 + getF t FW.GENERATION.GENERATION % 2 ^ 24) t) s

/-- STATE: R370. -/
def execState (dt : Nat) (m : Nat) (s : State) : Out :=
  act (.state dt m) dt (fun t => mbxAnswer m (fun c => c == 3) (fun _ => stateReply t) t) s

/-- MBX_UNKNOWN_REQUEST: R370. -/
def execMbxUnknownRequest (dt : Nat) (m : Nat) (s : State) : Out :=
  act (.mbxUnknownRequest dt m) dt (mbxAnswer m (fun c => c != 1 && c != 2 && c != 3) (fun w => 0xFF000000 + w / 2 ^ 24)) s

end Sys2Proof.Machine
end

