-- ==== Sys2Proof/Machine/SenseRows.lean ====
section
/-! DEFINITION. Sense front end, housekeeping and the activity stream (chapter 02): one meaning per row of the table, each an event after the time that passed before it. -/

namespace Sys2Proof.Machine

/-- SENSE_SAMPLE: on the 250 ns grid (R42). -/
def execSenseSample (dt : Nat) (imon pts : List Nat) (s : State) : Out :=
  act (.senseSample dt imon pts) dt (onGrid 25 (senseSample imon pts)) s

/-- WINDOW_CLOSE_1US: on the 1 µs grid (R49). -/
def execWindowClose1us (dt : Nat) (s : State) : Out :=
  act (.windowClose1us dt) dt (onGrid 100 windowClose1) s

/-- WINDOW_CLOSE_10US: on the 10 µs grid (R49, R76, R81). -/
def execWindowClose10us (dt : Nat) (s : State) : Out :=
  act (.windowClose10us dt) dt (onGrid 1000 windowClose10) s

/-- BUS_SAMPLE: at 1 MS/s (R54). -/
def execBusSample (dt : Nat) (v c : Nat) (s : State) : Out :=
  act (.busSample dt v c) dt (onGrid 100 (busSample v c)) s

/-- XCHK_ROUND: on the 1 ms grid (R55). -/
def execXchkRound (dt : Nat) (s : State) : Out :=
  act (.xchkRound dt) dt (onGrid 100000 xchkClose) s

/-- BUS_XCHK_SUSPECT: with the transition of Table 3-5 that follows (R56, R84). -/
def execBusXchkSuspect (dt : Nat) (s : State) : Out :=
  act (.busXchkSuspect dt) dt (fun t => bandFollow (suspectRow 2 (busXchkSuspect t))) s

/-- MEAS_SUSPECT_CLEAR: with the transition of Table 3-5 that follows (R56, R84). -/
def execMeasSuspectClear (dt : Nat) (s : State) : Out :=
  act (.measSuspectClear dt) dt (fun t => bandFollow (suspectRow 3 (measSuspectClear t))) s

/-- IMON_RANGE: R46. -/
def execImonRange (dt : Nat) (n : Nat) (s : State) : Out :=
  act (.imonRange dt n) dt (imonRange n) s

/-- SENSE_OPEN: R52. -/
def execSenseOpen (dt : Nat) (p : Nat) (s : State) : Out :=
  act (.senseOpen dt p) dt (senseOpen p) s

/-- VCORE_SENSE_SPLIT: R53. -/
def execVcoreSenseSplit (dt : Nat) (s : State) : Out :=
  act (.vcoreSenseSplit dt) dt senseSplit s

/-- BUS_V_RANGE: R54. -/
def execBusVRange (dt : Nat) (s : State) : Out :=
  act (.busVRange dt) dt busVRange s

/-- DROOP_LEVEL_CHANGE: R57, R58, R166 to R169. -/
def execDroopLevelChange (dt : Nat) (r d v : Nat) (s : State) : Out :=
  act (.droopLevelChange dt r d v) dt (droopLevelChange r d v) s

/-- DROOP_DET_STUCK: R60. -/
def execDroopDetStuck (dt : Nat) (r d : Nat) (s : State) : Out :=
  act (.droopDetStuck dt r d) dt (droopDetStuck r d) s

/-- DET_EXCL_WRITE: a bus write of THF_SNS_DET_EXCL[w] (R60). -/
def execDetExclWrite (dt : Nat) (agent : Byte) (w : Nat) (val : Word) (s : State) : Out :=
  act (.detExclWrite dt agent w val) dt (busWrite agent.toNat (0x10710 + 4 * w) val.toNat 15) s

/-- STRETCH_HOLD_LONG: R168. -/
def execStretchHoldLong (dt : Nat) (r : Nat) (s : State) : Out :=
  act (.stretchHoldLong dt r) dt (stretchHoldLong r) s

/-- ACTIVITY_FEATURE: R62. -/
def execActivityFeature (dt : Nat) (id value : Nat) (s : State) : Out :=
  act (.activityFeature dt id value) dt (activityFeature id value) s

/-- ACT_END_OF_WINDOW: the last marker, within 100 ns of the close (R62, R63). A window closes at the end of its 1 µs interval, so markers
that are all in before it complete nothing until then; the spec does not say what a last marker ahead of the close does, and here it is no
event (DESIGN CHOICE, log entry 68). -/
def execActEndOfWindow (dt : Nat) (s : State) : Out :=
  act (.actEndOfWindow dt) dt (fun t => if t.time.ticks % 100 ≤ 10 then windowDone 0 t else t) s

/-- ACT_WINDOW_STALE: 100 ns after the close (R63). -/
def execActWindowStale (dt : Nat) (late : Nat) (s : State) : Out :=
  act (.actWindowStale dt late) dt (windowStale late) s

/-- ACT_STREAM_STALL: R63. -/
def execActStreamStall (dt : Nat) (s : State) : Out :=
  act (.actStreamStall dt) dt actStall s

/-- HKS_ROUND: on the 1 ms grid (R65). -/
def execHksRound (dt : Nat) (conv : List (Nat × Nat)) (s : State) : Out :=
  act (.hksRound dt conv) dt (onGrid 100000 (hksRound conv)) s

/-- HKS_CHANNEL_INVALID: R66. -/
def execHksChannelInvalid (dt : Nat) (c : Nat) (s : State) : Out :=
  act (.hksChannelInvalid dt c) dt (hksInvalid c) s

/-- STG_TLM_ROUND_START: on the 1 ms grid (R447). -/
def execStgTlmRoundStart (dt : Nat) (s : State) : Out :=
  act (.stgTlmRoundStart dt) dt (onGrid 100000 tlmRound) s

/-- STG_TLM_FRAME: R448. -/
def execStgTlmFrame (dt : Nat) (slot : Nat) (frame : Word) (s : State) : Out :=
  act (.stgTlmFrame dt slot frame) dt (tlmFrame slot frame.toNat) s

/-- STG_TLM_SILENT: R67. -/
def execStgTlmSilent (dt : Nat) (a : Nat) (s : State) : Out :=
  act (.stgTlmSilent dt a) dt (tlmSilent a) s

end Sys2Proof.Machine
end

