-- ==== Sys2Proof/Machine/SequenceRows.lean ====
section
/-! DEFINITION. Rail start and stop (chapter 09): one meaning per row of the table, each an event after the time that passed before it. -/

namespace Sys2Proof.Machine

/-- SEQ_START: a bus write of START (R216). -/
def execSeqStart (dt : Nat) (agent : Byte) (s : State) : Out :=
  act (.seqStart dt agent) dt (busWrite agent.toNat 0x60408 1 15) s

/-- SEQ_STOP: a bus write of STOP (R217). -/
def execSeqStop (dt : Nat) (agent : Byte) (s : State) : Out :=
  act (.seqStop dt agent) dt (busWrite agent.toNat 0x60408 2 15) s

/-- BUS_SETTLE_DONE: R216. -/
def execBusSettleDone (dt : Nat) (s : State) : Out :=
  act (.busSettleDone dt) dt busSettleDone s

/-- BUS_START_FAIL: R216. -/
def execBusStartFail (dt : Nat) (s : State) : Out :=
  act (.busStartFail dt) dt busStartFail s

/-- SEQ_SLOT_START: R215. -/
def execSeqSlotStart (dt : Nat) (s : State) : Out :=
  act (.seqSlotStart dt) dt seqSlotStart s

/-- RAIL_PROBE_DONE: R219. -/
def execRailProbeDone (dt : Nat) (k : Nat) (s : State) : Out :=
  act (.railProbeDone dt k) dt (railProbeDone k) s

/-- RAIL_POWER_GOOD: R221. -/
def execRailPowerGood (dt : Nat) (k : Nat) (s : State) : Out :=
  act (.railPowerGood dt k) dt (railPowerGood k) s

/-- RAIL_PG_TIMEOUT: R224. -/
def execRailPgTimeout (dt : Nat) (k : Nat) (s : State) : Out :=
  act (.railPgTimeout dt k) dt (railPgTimeout k) s

/-- RAIL_PREBIAS_HIGH: R224. -/
def execRailPrebiasHigh (dt : Nat) (k : Nat) (s : State) : Out :=
  act (.railPrebiasHigh dt k) dt (railPrebiasHigh k) s

/-- RAIL_SHORT_START: R224. -/
def execRailShortStart (dt : Nat) (k : Nat) (s : State) : Out :=
  act (.railShortStart dt k) dt (railShortStart k) s

/-- RAIL_START_STALL: R224. -/
def execRailStartStall (dt : Nat) (k : Nat) (s : State) : Out :=
  act (.railStartStall dt k) dt (railStartStall k) s

/-- RAIL_OV: R224. -/
def execRailOv (dt : Nat) (k : Nat) (s : State) : Out :=
  act (.railOv dt k) dt (railOv k) s

/-- RAIL_STOP_DONE: R217. -/
def execRailStopDone (dt : Nat) (k : Nat) (s : State) : Out :=
  act (.railStopDone dt k) dt (railStopDone k) s

/-- PWR_FAIL_N_FALL: R218, R383. -/
def execPwrFailNFall (dt : Nat) (s : State) : Out :=
  act (.pwrFailNFall dt) dt powerFail s

/-- QUICK_STOP_RAIL_OFF: R218. -/
def execQuickStopRailOff (dt : Nat) (s : State) : Out :=
  act (.quickStopRailOff dt) dt quickStopRailOff s

/-- PWR_FAIL_N_RISE: R218. -/
def execPwrFailNRise (dt : Nat) (s : State) : Out :=
  act (.pwrFailNRise dt) dt pwrFailRise s

/-- LATCH_CLEAR: a bus write of THF_PHC_LATCH (R226). -/
def execLatchClear (dt : Nat) (agent : Byte) (val : Word) (s : State) : Out :=
  act (.latchClear dt agent val) dt (busWrite agent.toNat 0x60410 val.toNat 15) s

end Sys2Proof.Machine
end

