-- ==== Sys2Proof/Machine/TimeRows.lean ====
section
/-! DEFINITION. Time, boundaries, supplies and the management bus (chapters 01, 17, 19): one meaning per row of the table, each an event after the time that passed before it. -/

namespace Sys2Proof.Machine

/-- STEP_BOUNDARY_STROBE: a strobe that is a boundary brings the cut where it is still owed, and the swap of every unit (R25, R26, R28 to R31). -/
def execStepBoundaryStrobe (dt : Nat) (step : Nat) (launch : Option Nat) (s : State) : Out :=
  act (.stepBoundaryStrobe dt step launch) dt (strobe step launch) s

/-- BOUNDARY_CUT: at CUT_NS before the boundary, once (R28). -/
def execBoundaryCut (dt : Nat) (s : State) : Out :=
  act (.boundaryCut dt) dt boundaryCut s

/-- LOCAL_BOUNDARY: on a multiple of LOCAL_PERIOD while local boundaries are in use (R32). -/
def execLocalBoundary (dt : Nat) (s : State) : Out :=
  act (.localBoundary dt) dt localBoundary s

/-- BOUNDARY_SOURCE_LOCAL: IDLE_MS without a strobe, no job, or no valid system time (R24, R32). -/
def execBoundarySourceLocal (dt : Nat) (s : State) : Out :=
  act (.boundarySourceLocal dt) dt sourceLocal s

/-- SYSTIME_COHERENT: the link layer reports system time (R24). -/
def execSystimeCoherent (dt : Nat) (valid : Bool) (time : Nat) (s : State) : Out :=
  act (.systimeCoherent dt valid time) dt (systime valid time) s

/-- VAON_LOW: R20, R469. -/
def execVaonLow (dt : Nat) (lowest : Nat) (s : State) : Out :=
  act (.vaonLow dt lowest) dt (vaonLow lowest) s

/-- VAON_COLLAPSE: R21. -/
def execVaonCollapse (dt : Nat) (s : State) : Out :=
  act (.vaonCollapse dt) dt vaonCollapse s

/-- REGISTER_WRITE: a bus write (R34 to R37). -/
def execRegisterWrite (dt : Nat) (agent : Byte) (off : BitVec 20) (val : Word) (be : BitVec 4) (s : State) : Out :=
  act (.registerWrite dt agent off val be) dt (busWrite agent.toNat off.toNat val.toNat be.toNat) s

/-- RW_WRITE_APPLY: landed values are in force (R36). -/
def execRwWriteApply (dt : Nat) (s : State) : Out :=
  act (.rwWriteApply dt) dt applyLanding s

/-- UNMAPPED_ACCESS: an access that R37 turns away; an access that R37 takes has its ordinary effect. -/
def execUnmappedAccess (dt : Nat) (agent : Byte) (off : BitVec 20) (write : Bool) (val : Word) (be : BitVec 4) (s : State) : Out :=
  act (.unmappedAccess dt agent off write val be) dt (busAccess agent.toNat off.toNat write val.toNat be.toNat) s

/-- WIDE_READ_LOW_WORD: a read of a low word keeps the high word for the agent (R38). -/
def execWideReadLowWord (dt : Nat) (agent : Byte) (off : BitVec 20) (s : State) : Out :=
  act (.wideReadLowWord dt agent off) dt (busRead agent.toNat off.toNat none) s

/-- WIDE_WRITE_LOW_WORD: a low word is held for its high word (R38). -/
def execWideWriteLowWord (dt : Nat) (agent : Byte) (off : BitVec 20) (val : Word) (s : State) : Out :=
  act (.wideWriteLowWord dt agent off val) dt (busWrite agent.toNat off.toNat val.toNat 15) s

/-- RC_FIELD_READ: a read whose RC fields restart (R7). -/
def execRcFieldRead (dt : Nat) (agent : Byte) (off : BitVec 20) (s : State) : Out :=
  act (.rcFieldRead dt agent off) dt (busRead agent.toNat off.toNat none) s

/-- DENIED_ACCESS: an access outside the agent's rights (R399); one within them has its ordinary effect. -/
def execDeniedAccess (dt : Nat) (agent : Byte) (off : BitVec 20) (write : Bool) (val : Word) (s : State) : Out :=
  act (.deniedAccess dt agent off write val) dt (busAccess agent.toNat off.toNat write val.toNat 15) s

/-- VAON_RESTORED: R469. -/
def execVaonRestored (dt : Nat) (v : Nat) (s : State) : Out :=
  act (.vaonRestored dt v) dt (vaonRestored v) s

/-- REFCLK_STOP: the local time base stops, HB holds its level (R449). -/
def execRefclkStop (dt : Nat) (s : State) : Out :=
  act (.refclkStop dt) dt (refclk false) s

/-- REFCLK_RESUME: R449. -/
def execRefclkResume (dt : Nat) (s : State) : Out :=
  act (.refclkResume dt) dt (refclk true) s

end Sys2Proof.Machine
end

