-- ==== Sys2Proof/Machine/UpdateRows.lean ====
section
/-! DEFINITION. Firmware update (chapter 18): one meaning per row of the table, each an event after the time that passed before it. -/

namespace Sys2Proof.Machine

/-- UPD_FULL_CHECK_DONE: the update manager (R423). -/
def execUpdFullCheckDone (dt : Nat) (sig digest content flash : Bool) (off : Nat) (s : State) : Out :=
  act (.updFullCheckDone dt sig digest content flash off) dt (byComp 2 (fullCheckDone sig digest content flash off)) s

/-- ACT_DECISION: the update manager (R427, R428). -/
def execActDecision (dt : Nat) (s : State) : Out :=
  act (.actDecision dt) dt (byComp 2 actDecide) s

/-- ACT_SLOT: the update manager (R428 to R431). -/
def execActSlot (dt : Nat) (lines : Nat) (caravan : List Nat) (s : State) : Out :=
  act (.actSlot dt lines caravan) dt (byComp 2 (actSlot lines caravan)) s

/-- UPD_HANDOVER: a reset asked for in the gap follows (R430 to R432, R438). -/
def execUpdHandover (dt : Nat) (image : NewImage) (s : State) : Out :=
  act (.updHandover dt image) dt (fun t => resetOwed (handover image t)) s

/-- AUTO_CONFIRM: the update manager (R433). -/
def execAutoConfirm (dt : Nat) (s : State) : Out :=
  act (.autoConfirm dt) dt (byComp 2 autoConfirm) s

/-- TRIAL_EXPIRY: R433, R434. -/
def execTrialExpiry (dt : Nat) (s : State) : Out :=
  act (.trialExpiry dt) dt (fun t => cutStopped t (trialExpiry t)) s

end Sys2Proof.Machine
end

