-- ==== Sys2Proof/Machine/Dispatch.lean ====
section
/-! DEFINITION. One arm per command: a direct call of its meaning. -/

namespace Sys2Proof.Machine

/-- The effect of a command on everything but the queue. -/
def exec (i : Instr) (s : State) : Host.Outcome State Fault Refusal :=
  match i with
  | .stepBoundaryStrobe dt step launch => Sys2Proof.Machine.execStepBoundaryStrobe dt step launch s
  | .boundaryCut dt => Sys2Proof.Machine.execBoundaryCut dt s
  | .localBoundary dt => Sys2Proof.Machine.execLocalBoundary dt s
  | .boundarySourceLocal dt => Sys2Proof.Machine.execBoundarySourceLocal dt s
  | .systimeCoherent dt valid time => Sys2Proof.Machine.execSystimeCoherent dt valid time s
  | .vaonLow dt lowest => Sys2Proof.Machine.execVaonLow dt lowest s
  | .vaonCollapse dt => Sys2Proof.Machine.execVaonCollapse dt s
  | .registerWrite dt agent off val be => Sys2Proof.Machine.execRegisterWrite dt agent off val be s
  | .rwWriteApply dt => Sys2Proof.Machine.execRwWriteApply dt s
  | .unmappedAccess dt agent off write val be => Sys2Proof.Machine.execUnmappedAccess dt agent off write val be s
  | .wideReadLowWord dt agent off => Sys2Proof.Machine.execWideReadLowWord dt agent off s
  | .wideWriteLowWord dt agent off val => Sys2Proof.Machine.execWideWriteLowWord dt agent off val s
  | .rcFieldRead dt agent off => Sys2Proof.Machine.execRcFieldRead dt agent off s
  | .deniedAccess dt agent off write val => Sys2Proof.Machine.execDeniedAccess dt agent off write val s
  | .senseSample dt imon pts => Sys2Proof.Machine.execSenseSample dt imon pts s
  | .windowClose1us dt => Sys2Proof.Machine.execWindowClose1us dt s
  | .windowClose10us dt => Sys2Proof.Machine.execWindowClose10us dt s
  | .busSample dt v c => Sys2Proof.Machine.execBusSample dt v c s
  | .xchkRound dt => Sys2Proof.Machine.execXchkRound dt s
  | .busXchkSuspect dt => Sys2Proof.Machine.execBusXchkSuspect dt s
  | .measSuspectClear dt => Sys2Proof.Machine.execMeasSuspectClear dt s
  | .imonRange dt n => Sys2Proof.Machine.execImonRange dt n s
  | .senseOpen dt p => Sys2Proof.Machine.execSenseOpen dt p s
  | .vcoreSenseSplit dt => Sys2Proof.Machine.execVcoreSenseSplit dt s
  | .busVRange dt => Sys2Proof.Machine.execBusVRange dt s
  | .droopLevelChange dt r d v => Sys2Proof.Machine.execDroopLevelChange dt r d v s
  | .droopDetStuck dt r d => Sys2Proof.Machine.execDroopDetStuck dt r d s
  | .detExclWrite dt agent w val => Sys2Proof.Machine.execDetExclWrite dt agent w val s
  | .stretchHoldLong dt r => Sys2Proof.Machine.execStretchHoldLong dt r s
  | .activityFeature dt id value => Sys2Proof.Machine.execActivityFeature dt id value s
  | .actEndOfWindow dt => Sys2Proof.Machine.execActEndOfWindow dt s
  | .actWindowStale dt late => Sys2Proof.Machine.execActWindowStale dt late s
  | .actStreamStall dt => Sys2Proof.Machine.execActStreamStall dt s
  | .hksRound dt conv => Sys2Proof.Machine.execHksRound dt conv s
  | .hksChannelInvalid dt c => Sys2Proof.Machine.execHksChannelInvalid dt c s
  | .stgTlmRoundStart dt => Sys2Proof.Machine.execStgTlmRoundStart dt s
  | .stgTlmFrame dt slot frame => Sys2Proof.Machine.execStgTlmFrame dt slot frame s
  | .stgTlmSilent dt a => Sys2Proof.Machine.execStgTlmSilent dt a s
  | .estWindowSubstituted dt => Sys2Proof.Machine.execEstWindowSubstituted dt s
  | .estDisagree dt => Sys2Proof.Machine.execEstDisagree dt s
  | .estMismatch dt => Sys2Proof.Machine.execEstMismatch dt s
  | .estModelLost dt => Sys2Proof.Machine.execEstModelLost dt s
  | .estModelRestored dt => Sys2Proof.Machine.execEstModelRestored dt s
  | .estTrustAgree dt => Sys2Proof.Machine.execEstTrustAgree dt s
  | .estShadowAgree dt => Sys2Proof.Machine.execEstShadowAgree dt s
  | .calRound dt => Sys2Proof.Machine.execCalRound dt s
  | .estCalClamp dt k => Sys2Proof.Machine.execEstCalClamp dt k s
  | .estRetry dt agent => Sys2Proof.Machine.execEstRetry dt agent s
  | .estCalReset dt agent => Sys2Proof.Machine.execEstCalReset dt agent s
  | .pxeSlot1Trigger dt => Sys2Proof.Machine.execPxeSlot1Trigger dt s
  | .pxeSlot3Trigger dt => Sys2Proof.Machine.execPxeSlot3Trigger dt s
  | .pxePublish dt slot time => Sys2Proof.Machine.execPxePublish dt slot time s
  | .pxeOverrun dt slot desc => Sys2Proof.Machine.execPxeOverrun dt slot desc s
  | .pxeMemUncorrectable dt slot addr desc => Sys2Proof.Machine.execPxeMemUncorrectable dt slot addr desc s
  | .pxeCapRelease dt agent slot => Sys2Proof.Machine.execPxeCapRelease dt agent slot s
  | .ffScheduleComputed dt => Sys2Proof.Machine.execFfScheduleComputed dt s
  | .ffAddAction dt k => Sys2Proof.Machine.execFfAddAction dt k s
  | .ffLiftAction dt => Sys2Proof.Machine.execFfLiftAction dt s
  | .drgEvaluate dt => Sys2Proof.Machine.execDrgEvaluate dt s
  | .launchMove dt step time => Sys2Proof.Machine.execLaunchMove dt step time s
  | .vselLatch dt v => Sys2Proof.Machine.execVselLatch dt v s
  | .setpointRampDone dt k => Sys2Proof.Machine.execSetpointRampDone dt k s
  | .deEnter dt k => Sys2Proof.Machine.execDeEnter dt k s
  | .phaseRampInDone dt n => Sys2Proof.Machine.execPhaseRampInDone dt n s
  | .phaseRampOutDone dt n => Sys2Proof.Machine.execPhaseRampOutDone dt n s
  | .shedInhEnd dt k => Sys2Proof.Machine.execShedInhEnd dt k s
  | .allPhaseBurst dt p => Sys2Proof.Machine.execAllPhaseBurst dt p s
  | .burstEnd dt p => Sys2Proof.Machine.execBurstEnd dt p s
  | .burstRearmEnd dt => Sys2Proof.Machine.execBurstRearmEnd dt s
  | .phaseOcTrip dt n => Sys2Proof.Machine.execPhaseOcTrip dt n s
  | .phaseOcRelease dt n => Sys2Proof.Machine.execPhaseOcRelease dt n s
  | .phaseFault dt n => Sys2Proof.Machine.execPhaseFault dt n s
  | .phaseHot dt n => Sys2Proof.Machine.execPhaseHot dt n s
  | .phaseImbalance dt n => Sys2Proof.Machine.execPhaseImbalance dt n s
  | .phcRetiredWrite dt agent w val => Sys2Proof.Machine.execPhcRetiredWrite dt agent w val s
  | .seqStart dt agent => Sys2Proof.Machine.execSeqStart dt agent s
  | .seqStop dt agent => Sys2Proof.Machine.execSeqStop dt agent s
  | .busSettleDone dt => Sys2Proof.Machine.execBusSettleDone dt s
  | .busStartFail dt => Sys2Proof.Machine.execBusStartFail dt s
  | .seqSlotStart dt => Sys2Proof.Machine.execSeqSlotStart dt s
  | .railProbeDone dt k => Sys2Proof.Machine.execRailProbeDone dt k s
  | .railPowerGood dt k => Sys2Proof.Machine.execRailPowerGood dt k s
  | .railPgTimeout dt k => Sys2Proof.Machine.execRailPgTimeout dt k s
  | .railPrebiasHigh dt k => Sys2Proof.Machine.execRailPrebiasHigh dt k s
  | .railShortStart dt k => Sys2Proof.Machine.execRailShortStart dt k s
  | .railStartStall dt k => Sys2Proof.Machine.execRailStartStall dt k s
  | .railOv dt k => Sys2Proof.Machine.execRailOv dt k s
  | .railStopDone dt k => Sys2Proof.Machine.execRailStopDone dt k s
  | .pwrFailNFall dt => Sys2Proof.Machine.execPwrFailNFall dt s
  | .quickStopRailOff dt => Sys2Proof.Machine.execQuickStopRailOff dt s
  | .pwrFailNRise dt => Sys2Proof.Machine.execPwrFailNRise dt s
  | .latchClear dt agent val => Sys2Proof.Machine.execLatchClear dt agent val s
  | .protectiveLowering dt cond => Sys2Proof.Machine.execProtectiveLowering dt cond s
  | .limitUnmet dt cond => Sys2Proof.Machine.execLimitUnmet dt cond s
  | .lgvDutyStep dt => Sys2Proof.Machine.execLgvDutyStep dt s
  | .capUnattainable dt => Sys2Proof.Machine.execCapUnattainable dt s
  | .thermLimWrite dt agent val => Sys2Proof.Machine.execThermLimWrite dt agent val s
  | .thermalRise dt r => Sys2Proof.Machine.execThermalRise dt r s
  | .tmgFwRound dt => Sys2Proof.Machine.execTmgFwRound dt s
  | .sensorSuspect dt c => Sys2Proof.Machine.execSensorSuspect dt c s
  | .tmgSensorTrusted dt c => Sys2Proof.Machine.execTmgSensorTrusted dt c s
  | .thermalFloor dt => Sys2Proof.Machine.execThermalFloor dt s
  | .suspectSetWrite dt agent w val => Sys2Proof.Machine.execSuspectSetWrite dt agent w val s
  | .suspectClearWrite dt agent w val => Sys2Proof.Machine.execSuspectClearWrite dt agent w val s
  | .tripComparator dt r n => Sys2Proof.Machine.execTripComparator dt r n s
  | .tripComparatorRelease dt r n => Sys2Proof.Machine.execTripComparatorRelease dt r n s
  | .balRoundBegin dt => Sys2Proof.Machine.execBalRoundBegin dt s
  | .balFrameReceived dt => Sys2Proof.Machine.execBalFrameReceived dt s
  | .balOutcome dt => Sys2Proof.Machine.execBalOutcome dt s
  | .sidebandRecordReceived dt p hdr body tagOk => Sys2Proof.Machine.execSidebandRecordReceived dt p hdr body tagOk s
  | .sbCounterEnd dt p => Sys2Proof.Machine.execSbCounterEnd dt p s
  | .sbKeyGraceEnd dt ctx => Sys2Proof.Machine.execSbKeyGraceEnd dt ctx s
  | .restEnter dt => Sys2Proof.Machine.execRestEnter dt s
  | .restWake dt => Sys2Proof.Machine.execRestWake dt s
  | .restExit dt => Sys2Proof.Machine.execRestExit dt s
  | .srConfirmed dt => Sys2Proof.Machine.execSrConfirmed dt s
  | .restSrTimeout dt => Sys2Proof.Machine.execRestSrTimeout dt s
  | .staWake dt agent => Sys2Proof.Machine.execStaWake dt agent s
  | .enterSafe dt agent => Sys2Proof.Machine.execEnterSafe dt agent s
  | .safeStateEnter dt => Sys2Proof.Machine.execSafeStateEnter dt s
  | .blockRestart dt agent val => Sys2Proof.Machine.execBlockRestart dt agent val s
  | .chipReset dt => Sys2Proof.Machine.execChipReset dt s
  | .moduleReset dt => Sys2Proof.Machine.execModuleReset dt s
  | .moduleResetRelease dt => Sys2Proof.Machine.execModuleResetRelease dt s
  | .coldStart dt => Sys2Proof.Machine.execColdStart dt s
  | .pufReconstruct dt ok blocks pub => Sys2Proof.Machine.execPufReconstruct dt ok blocks pub s
  | .wdtKick dt agent val => Sys2Proof.Machine.execWdtKick dt agent val s
  | .wdtExpiry dt => Sys2Proof.Machine.execWdtExpiry dt s
  | .mainCoreStart dt found ok0 ok1 detail => Sys2Proof.Machine.execMainCoreStart dt found ok0 ok1 detail s
  | .helperLoad dt k ok off => Sys2Proof.Machine.execHelperLoad dt k ok off s
  | .componentCheckIn dt c => Sys2Proof.Machine.execComponentCheckIn dt c s
  | .fwComponentHang dt c => Sys2Proof.Machine.execFwComponentHang dt c s
  | .fwMpuViolation dt c addr write exe => Sys2Proof.Machine.execFwMpuViolation dt c addr write exe s
  | .fwCoreException dt k comp addr => Sys2Proof.Machine.execFwCoreException dt k comp addr s
  | .fwComponentRestart dt c => Sys2Proof.Machine.execFwComponentRestart dt c s
  | .fwRestartLimit dt => Sys2Proof.Machine.execFwRestartLimit dt s
  | .hostAlive dt agent val => Sys2Proof.Machine.execHostAlive dt agent val s
  | .hostAbsent dt => Sys2Proof.Machine.execHostAbsent dt s
  | .hostAttach dt agent val => Sys2Proof.Machine.execHostAttach dt agent val s
  | .logEntry dt c kind id code payload => Sys2Proof.Machine.execLogEntry dt c kind id code payload s
  | .logMirrorCopy dt ok => Sys2Proof.Machine.execLogMirrorCopy dt ok s
  | .ringEnable dt agent q val => Sys2Proof.Machine.execRingEnable dt agent q val s
  | .ringDisable dt agent q val => Sys2Proof.Machine.execRingDisable dt agent q val s
  | .ringReset dt agent q val => Sys2Proof.Machine.execRingReset dt agent q val s
  | .ringDoorbell dt agent q val => Sys2Proof.Machine.execRingDoorbell dt agent q val s
  | .cqHeadWrite dt agent q val => Sys2Proof.Machine.execCqHeadWrite dt agent q val s
  | .gateOpen dt agent => Sys2Proof.Machine.execGateOpen dt agent s
  | .gateClose dt agent => Sys2Proof.Machine.execGateClose dt agent s
  | .taggedPacketResume dt => Sys2Proof.Machine.execTaggedPacketResume dt s
  | .taggedCompletion dt => Sys2Proof.Machine.execTaggedCompletion dt s
  | .blockFetchDone dt q data ok => Sys2Proof.Machine.execBlockFetchDone dt q data ok s
  | .nop dt q => Sys2Proof.Machine.execNop dt q s
  | .regWrite dt q => Sys2Proof.Machine.execRegWrite dt q s
  | .regRead dt q => Sys2Proof.Machine.execRegRead dt q s
  | .mark dt q => Sys2Proof.Machine.execMark dt q s
  | .jobAttach dt q => Sys2Proof.Machine.execJobAttach dt q s
  | .jobDetach dt q => Sys2Proof.Machine.execJobDetach dt q s
  | .setCap dt q => Sys2Proof.Machine.execSetCap dt q s
  | .getCapState dt q => Sys2Proof.Machine.execGetCapState dt q s
  | .planSegmentBlock dt q => Sys2Proof.Machine.execPlanSegmentBlock dt q s
  | .planStop dt q => Sys2Proof.Machine.execPlanStop dt q s
  | .programBlock dt q => Sys2Proof.Machine.execProgramBlock dt q s
  | .sbKeyInstall dt q opens key => Sys2Proof.Machine.execSbKeyInstall dt q opens key s
  | .logKeyRotate dt q => Sys2Proof.Machine.execLogKeyRotate dt q s
  | .confMode dt q => Sys2Proof.Machine.execConfMode dt q s
  | .partitionAssign dt q => Sys2Proof.Machine.execPartitionAssign dt q s
  | .scrubBegin dt q => Sys2Proof.Machine.execScrubBegin dt q s
  | .scrubEnd dt q => Sys2Proof.Machine.execScrubEnd dt q s
  | .updateBlock dt q rootOk sigOk => Sys2Proof.Machine.execUpdateBlock dt q rootOk sigOk s
  | .updFullCheckDone dt sig digest content flash off => Sys2Proof.Machine.execUpdFullCheckDone dt sig digest content flash off s
  | .updateActivate dt q => Sys2Proof.Machine.execUpdateActivate dt q s
  | .updateConfirm dt q => Sys2Proof.Machine.execUpdateConfirm dt q s
  | .updateAbort dt q => Sys2Proof.Machine.execUpdateAbort dt q s
  | .evrWatch dt q => Sys2Proof.Machine.execEvrWatch dt q s
  | .evrFlush dt q => Sys2Proof.Machine.execEvrFlush dt q s
  | .faultPolicy dt q => Sys2Proof.Machine.execFaultPolicy dt q s
  | .mbxWrite dt agent m val => Sys2Proof.Machine.execMbxWrite dt agent m val s
  | .mbxRead dt agent m => Sys2Proof.Machine.execMbxRead dt agent m s
  | .ping dt m => Sys2Proof.Machine.execPing dt m s
  | .generation dt m => Sys2Proof.Machine.execGeneration dt m s
  | .state dt m => Sys2Proof.Machine.execState dt m s
  | .mbxUnknownRequest dt m => Sys2Proof.Machine.execMbxUnknownRequest dt m s
  | .evrRecordPost dt => Sys2Proof.Machine.execEvrRecordPost dt s
  | .evrEpochPeriodic dt => Sys2Proof.Machine.execEvrEpochPeriodic dt s
  | .watchSnapshot dt w m => Sys2Proof.Machine.execWatchSnapshot dt w m s
  | .evrFlushDone dt ok => Sys2Proof.Machine.execEvrFlushDone dt ok s
  | .flushMinEnd dt => Sys2Proof.Machine.execFlushMinEnd dt s
  | .eraseAhead dt => Sys2Proof.Machine.execEraseAhead dt s
  | .hoursSave dt => Sys2Proof.Machine.execHoursSave dt s
  | .faultMessage dt => Sys2Proof.Machine.execFaultMessage dt s
  | .severeClear dt agent v val => Sys2Proof.Machine.execSevereClear dt agent v val s
  | .flcSelfFault dt info => Sys2Proof.Machine.execFlcSelfFault dt info s
  | .flcInject dt agent val => Sys2Proof.Machine.execFlcInject dt agent val s
  | .hbKick dt agent val => Sys2Proof.Machine.execHbKick dt agent val s
  | .hbToggle dt => Sys2Proof.Machine.execHbToggle dt s
  | .hbTimeout dt => Sys2Proof.Machine.execHbTimeout dt s
  | .kxNew dt agent => Sys2Proof.Machine.execKxNew dt agent s
  | .kxReady dt pub sig => Sys2Proof.Machine.execKxReady dt pub sig s
  | .logMigrateGranule dt opens stop => Sys2Proof.Machine.execLogMigrateGranule dt opens stop s
  | .evrWinFlashRead dt agent n tag => Sys2Proof.Machine.execEvrWinFlashRead dt agent n tag s
  | .actDecision dt => Sys2Proof.Machine.execActDecision dt s
  | .actSlot dt lines caravan => Sys2Proof.Machine.execActSlot dt lines caravan s
  | .updHandover dt image => Sys2Proof.Machine.execUpdHandover dt image s
  | .autoConfirm dt => Sys2Proof.Machine.execAutoConfirm dt s
  | .trialExpiry dt => Sys2Proof.Machine.execTrialExpiry dt s
  | .pmbusTableRefresh dt => Sys2Proof.Machine.execPmbusTableRefresh dt s
  | .page dt m w pec => Sys2Proof.Machine.execPage dt m w pec s
  | .clearFaults dt pec => Sys2Proof.Machine.execClearFaults dt pec s
  | .capability dt m => Sys2Proof.Machine.execCapability dt m s
  | .voutMode dt m => Sys2Proof.Machine.execVoutMode dt m s
  | .statusByte dt m => Sys2Proof.Machine.execStatusByte dt m s
  | .statusWord dt m => Sys2Proof.Machine.execStatusWord dt m s
  | .statusVout dt m => Sys2Proof.Machine.execStatusVout dt m s
  | .statusIout dt m => Sys2Proof.Machine.execStatusIout dt m s
  | .statusInput dt m => Sys2Proof.Machine.execStatusInput dt m s
  | .statusTemperature dt m => Sys2Proof.Machine.execStatusTemperature dt m s
  | .statusCml dt m => Sys2Proof.Machine.execStatusCml dt m s
  | .statusMfrSpecific dt m => Sys2Proof.Machine.execStatusMfrSpecific dt m s
  | .readVin dt m => Sys2Proof.Machine.execReadVin dt m s
  | .readIin dt m => Sys2Proof.Machine.execReadIin dt m s
  | .readVout dt m => Sys2Proof.Machine.execReadVout dt m s
  | .readIout dt m => Sys2Proof.Machine.execReadIout dt m s
  | .readTemperature1 dt m => Sys2Proof.Machine.execReadTemperature1 dt m s
  | .readTemperature2 dt m => Sys2Proof.Machine.execReadTemperature2 dt m s
  | .readTemperature3 dt m => Sys2Proof.Machine.execReadTemperature3 dt m s
  | .readPout dt m => Sys2Proof.Machine.execReadPout dt m s
  | .readPin dt m => Sys2Proof.Machine.execReadPin dt m s
  | .pmbusRevision dt m => Sys2Proof.Machine.execPmbusRevision dt m s
  | .mfrId dt m => Sys2Proof.Machine.execMfrId dt m s
  | .mfrModel dt m => Sys2Proof.Machine.execMfrModel dt m s
  | .mfrRevision dt m => Sys2Proof.Machine.execMfrRevision dt m s
  | .mfrSerial dt m => Sys2Proof.Machine.execMfrSerial dt m s
  | .mfrReadEnergy dt m => Sys2Proof.Machine.execMfrReadEnergy dt m s
  | .mfrBusAddr dt v pec => Sys2Proof.Machine.execMfrBusAddr dt v pec s
  | .mfrBusData dt w pec => Sys2Proof.Machine.execMfrBusData dt w pec s
  | .pmbusInvalidCommand dt pec n => Sys2Proof.Machine.execPmbusInvalidCommand dt pec n s
  | .pmbusSclTimeout dt => Sys2Proof.Machine.execPmbusSclTimeout dt s
  | .smbusAlertResponse dt => Sys2Proof.Machine.execSmbusAlertResponse dt s
  | .vaonRestored dt v => Sys2Proof.Machine.execVaonRestored dt v s
  | .refclkStop dt => Sys2Proof.Machine.execRefclkStop dt s
  | .refclkResume dt => Sys2Proof.Machine.execRefclkResume dt s

end Sys2Proof.Machine
end

