-- ==== Sys2Proof/Safety.lean ====
section
/-! DEFINITION. What a safe run is: every waiting command is well formed, so that no step refuses; and what every step keeps: the
canonical form of the register table and of every RAM. Then the terms of the statements: a next state and what holds of it, messages and
events that wait, and what a command leaves as it was. -/

namespace Sys2Proof

/-- Every command that waits names an event of the hardware. -/
def queueOk (s : Machine.State) : Bool := s.pending.all Instr.wf

/-- A step neither faults nor refuses. -/
def stepOk (s : Machine.State) : Prop := ∃ t, Machine.step s = .next t

namespace Machine

/-- The register table lists each field once, in rising order, and none that stands at its reset value: equal registers are equal data. -/
def regsWf (m : Assoc Nat) : Bool := aSortedFrom none m && m.all (fun e => decide (e.2 ≠ resetAt e.1))

/-- Every RAM of the block is in canonical form: plan memory and the staged signature block (R139, R143), the predictor's memories (R103),
the command window (R346), the log ring (R338), the recorder's buffer and the log partition (R373), the images in flash, the image
buffer and the transfers in progress (R365, R420). -/
def Memory.wf (s : State) : Bool :=
  memWf s.psq.mem && memWf s.psq.sigBlock && memWf s.pxe.mem && memWf s.cmd.win && memWf s.fw.log && memWf s.evr.buf &&
    memWf s.evr.log && memWf s.upd.buf && s.upd.slots.all (fun e => memWf e.2.bytes) && s.cmd.xfers.all (fun e => memWf e.2.buf)

/-- The register table and every RAM are in canonical form. -/
def storesOk (s : State) : Prop := regsWf s.regs = true ∧ Memory.wf s = true

/-! ### The terms of the statements -/

/-- The command answers a next state, of which `P` holds. -/
def Answers (i : Instr) (s : State) (P : State → Prop) : Prop := ∃ t, exec i s = .next t ∧ P t

/-- A fault message waits at the collector: its kind, its source and its information (R386, R387). -/
def messageWaits (kind src info : Nat) (t : State) : Prop :=
  ∃ a ∈ t.inbox, a.isRec = false ∧ a.kind = kind ∧ a.code = src ∧ a.info = info % 2 ^ 32

/-- An event record waits at the recorder (Table 16-2, TYPE 4). -/
def eventWaits (code : Nat) (t : State) : Prop := ∃ a ∈ t.inbox, a.isRec = true ∧ a.kind = 4 ∧ a.code = code

/-- There is room for one more message at the collector (R397) and for one more record at the recorder (R377). -/
def roomMsg (s : State) : Prop := waitingMsgs s < 256
def roomRec (s : State) : Prop := waitingRecs s < 64

/-- Every register field but those listed, and but the test override, which any event can drop (R463), is in force as before. -/
def fieldsBut (l : List Fld) (a t : State) : Prop :=
  ∀ f : Fld, f.key ∉ l.map (fun g => g.key) → f.key ≠ TST.CTRL.OVERRIDE.key → getF t f = getF a f

/-- The values that wait: landed, pending, frozen, held, and the deferred actions, are as before. -/
def waitingSame (a t : State) : Prop :=
  t.landing = a.landing ∧ t.pend = a.pend ∧ t.frozen = a.frozen ∧ t.held = a.held ∧ t.acts = a.acts

/-- The sensing, estimating and planning units are as before: SNS, EST, PXE, PSQ. -/
def sensingSame (a t : State) : Prop := t.sns = a.sns ∧ t.est = a.est ∧ t.pxe = a.pxe ∧ t.psq = a.psq
/-- The units that drive the rails and the beats are as before: DRG, PHC, LGV, TMG, STA, BAL. -/
def drivingSame (a t : State) : Prop :=
  t.drg = a.drg ∧ t.phc = a.phc ∧ t.lgv = a.lgv ∧ t.tmg = a.tmg ∧ t.sta = a.sta ∧ t.bal = a.bal
/-- The management plane is as before but for the PMBus and the bus: FW, CMD, EVR, FLC, SEC, UPD. -/
def managingSame (a t : State) : Prop :=
  t.fw = a.fw ∧ t.cmd = a.cmd ∧ t.evr = a.evr ∧ t.flc = a.flc ∧ t.sec = a.sec ∧ t.upd = a.upd
def unitsSame (a t : State) : Prop := sensingSame a t ∧ drivingSame a t ∧ managingSame a t

/-- Nothing has happened but what follows every event: ALERT_N's bits, and the test override (R463). -/
def untouched (a t : State) : Prop :=
  t.time = a.time ∧ t.inbox = a.inbox ∧ t.bus = a.bus ∧ waitingSame a t ∧ unitsSame a t ∧ fieldsBut [] a t

/-- Every byte of every RAM reads as before: plan memory, the staged signature block, the predictor's memories, the command window, the
log ring, the recorder's buffer, the log partition, the image buffer. -/
def ramsSame (a t : State) : Prop :=
  ∀ k, memByte t.psq.mem k = memByte a.psq.mem k ∧ memByte t.psq.sigBlock k = memByte a.psq.sigBlock k ∧
    memByte t.pxe.mem k = memByte a.pxe.mem k ∧ memByte t.cmd.win k = memByte a.cmd.win k ∧ memByte t.fw.log k = memByte a.fw.log k ∧
    memByte t.evr.buf k = memByte a.evr.buf k ∧ memByte t.evr.log k = memByte a.evr.log k ∧ memByte t.upd.buf k = memByte a.upd.buf k

/-- An included VCORE point lies below the reference by more than BURST_DEPTH, or falls faster than BURST_SLEW (R202); every included point is
above the reference minus BURST_EXIT and none falls too fast (R203). -/
def tooDeep (a : State) (p : VcorePoints) : Bool :=
  !pointOpen a 0 && decide (p.va + burstDepth a < regRef a 0) || !pointOpen a 1 && decide (p.vb + burstDepth a < regRef a 0)
def tooFast (a : State) (p : VcorePoints) : Bool :=
  !pointOpen a 0 && decide (burstSlew a < p.ra) || !pointOpen a 1 && decide (burstSlew a < p.rb)
def recovered (a : State) (p : VcorePoints) : Bool :=
  (pointOpen a 0 || decide (regRef a 0 < p.va + burstExit a)) && (pointOpen a 1 || decide (regRef a 0 < p.vb + burstExit a)) &&
    !tooFast a p

/-- A completion entry stands at the ring's CQ_TAIL as `u` had it (Table 15-4), and CQ_TAIL has moved on (R359). -/
def entryWritten (u : State) (q seq status applied detail : Nat) (t : State) : Prop :=
  memBytes t.cmd.win ((cqBase u q + 16 * getF u (CMD.RING_CQ_TAIL.CQ_TAIL q)) % 2 ^ 19) 16 =
    toLE 4 seq ++ toLE 2 status ++ toLE 2 applied ++ toLE 8 detail ∧
  getF t (CMD.RING_CQ_TAIL.CQ_TAIL q) = (getF u (CMD.RING_CQ_TAIL.CQ_TAIL q) + 1) % ringSize u q % 4096

/-- The values of an outstanding tagged packet wait for its boundary, all of them together, and its deferred action with them (R356,
R357). -/
def gated (x : OutPkt) (u t : State) : Prop :=
  (∃ y ∈ t.cmd.pkts, y.id = x.id ∧ y.st = 1) ∧
  (x.op = 0x0C → aFind t.pend LGV.CAP.CAP.key = some ⟨min 4095 (ofLE (x.body.take 2)), x.id, some x.step, false⟩) ∧
  (∀ k, x.op = 0x3A → k = nth x.body 0 → aFind t.pend (FLC.POLICY.ACTION k).key = some ⟨nth x.body 1, x.id, some x.step, false⟩ ∧
    aFind t.pend (FLC.POLICY.W k).key = some ⟨ofLE ((x.body.drop 4).take 4), x.id, some x.step, false⟩ ∧
    aFind t.pend (FLC.POLICY.N k).key = some ⟨nth x.body 2, x.id, some x.step, false⟩) ∧
  (x.op = 0x01 → t.pend = ((itemsFrom x.body).foldl (fun v i => gateItem x i v) u).pend) ∧
  (x.op ≠ 0x01 → x.op ≠ 0x0C → x.op ≠ 0x3A → t.pend = u.pend) ∧
  t.acts = (match x.act with | some k => u.acts ++ [⟨k, false, x.step, x.id⟩] | none => u.acts)

/-- The row of the table that dispatches a packet by its opcode; NOP's takes the opcodes that Table 15-5 does not list (R352). -/
def rowOf (op dt q : Nat) (b c : Bool) (key : Nat) : Instr :=
  match op with
  | 0x01 => .regWrite dt q | 0x02 => .regRead dt q | 0x03 => .mark dt q | 0x08 => .jobAttach dt q | 0x09 => .jobDetach dt q
  | 0x0C => .setCap dt q | 0x0D => .getCapState dt q | 0x10 => .planSegmentBlock dt q | 0x11 => .planStop dt q
  | 0x18 => .programBlock dt q | 0x20 => .sbKeyInstall dt q b key | 0x21 => .logKeyRotate dt q | 0x22 => .confMode dt q
  | 0x23 => .partitionAssign dt q | 0x24 => .scrubBegin dt q | 0x25 => .scrubEnd dt q | 0x30 => .updateBlock dt q b c
  | 0x31 => .updateActivate dt q | 0x32 => .updateConfirm dt q | 0x33 => .updateAbort dt q | 0x38 => .evrWatch dt q
  | 0x39 => .evrFlush dt q | 0x3A => .faultPolicy dt q | _ => .nop dt q

/-- The state in which the packet at the head is judged: a correctable word among its slots is counted (R321); then HEAD moves on and
EXPECT is renewed (R349, R354). -/
def slotState (a : State) (q : Nat) : State :=
  if (slotsCheck a q (headLen a q)).1 = 1 then incF a (FW.CORE_STATUS.CORRECTED 0) else a
def judged (a : State) (q : Nat) (p : Pkt) : State :=
  (seqCheck p (setF (served q (slotState a q)) (CMD.RING_HEAD.HEAD q) ((ringHead a q + p.slots) % ringSize a q))).1

/-- The packet at the head of a ring whose turn it is, its slots readable, its CRC right and its SEQ as expected (checks 1 and 2 of
Table 15-2). -/
def soundHead (a : State) (q : Nat) (p : Pkt) : Prop :=
  ringTurn a q = true ∧ p = pktOf a q ∧ (slotsCheck a q (headLen a q)).1 ≤ 1 ∧ p.crcOk = true ∧
    (getB a (CMD.RING_STATUS.SEQ_VALID q) = false ∨ p.seq = getF a (CMD.RING_EXPECT.SEQ q))

/-- The packet passes its other checks too, in the state `u` in which it is judged. -/
def passes (a : State) (q : Nat) (p : Pkt) (u : State) : Prop := soundHead a q p ∧ u = judged a q p ∧ checkFail u p = none

/-- A tagged packet as dispatch takes it, with its deferred action. -/
def taken (u : State) (p : Pkt) (k : Option ActKind) : OutPkt :=
  ⟨u.cmd.nextId, p.ring, p.seq, p.irq, p.op, p.tag, p.step u, 0, [], k, [], [], none, stOk, 0, 0, p.bytes.drop 16, []⟩

/-- The packet is outstanding; its values wait for its boundary, unless something of an earlier packet stands in the way (R356, R358). -/
def takenTagged (u : State) (p : Pkt) (k : Option ActKind) (t : State) : Prop :=
  t.cmd.nextId = u.cmd.nextId + 1 ∧
  (tagClash u (taken u p k) = false → gated (taken u p k) u t) ∧
  (tagClash u (taken u p k) = true → taken u p k ∈ t.cmd.pkts ∧ waitingSame u t)

/-- What waits is in canonical form: the landed, read-back, pending, frozen and held values, each field once, in rising order; and
outstanding packets carry different numbers, all of them given out. -/
def waitingOk (s : State) : Prop :=
  aSortedFrom none s.landing = true ∧ aSortedFrom none s.wrote = true ∧ aSortedFrom none s.pend = true ∧
    aSortedFrom none s.frozen = true ∧ aSortedFrom none s.held = true ∧
    (s.cmd.pkts.map (fun p => p.id)).Nodup ∧ ∀ p ∈ s.cmd.pkts, p.id < s.cmd.nextId

end Machine

end Sys2Proof
end

