-- ==== Sys2Proof/Certificates/Slice0/Obligations.lean ====
section
/-! DEFINITION. The statements for the provers. Throughout, `advance dt s` is the state in which the event of a command with first
operand `dt` happens: the time before it has passed (log entry 3). -/

open Sys2Proof Sys2Proof.Machine

/-! ### The machine as a whole -/

/-- Commands are taken first in, first out; a step runs the one at the front on the state with the queue's rest, and an empty queue idles. -/
def Obligations.StepRunsFrontCommand : Prop :=
  (∀ (s : State) (c : Instr) (rest : List Instr), s.pending = c :: rest → step s = exec c { s with pending := rest }) ∧
  (∀ s : State, s.pending = [] → step s = .next s)

/-- No command faults: every command that names an event answers a next state, and any other is refused as such (log entry 4). -/
def Obligations.EveryEventIsTaken : Prop :=
  ∀ (i : Instr) (s : State), (i.wf = true → ∃ t, exec i s = .next t) ∧ (i.wf = false → exec i s = .refused .illFormed)

/-- A queue of events never stops the block, and stays a queue of events. -/
def Obligations.QueuedEventsNeverStop : Prop :=
  ∀ s : State, storesOk s → queueOk s = true → stepOk s ∧ ∀ t, step s = .next t → queueOk t = true

/-- The state after reset meets what every step keeps: the canonical form of the register table and of every RAM, and a queue of events. -/
def Obligations.ResetMeetsInvariants : Prop :=
  storesOk State.reset ∧ queueOk State.reset = true

/-- Every step keeps the canonical form of the register table and of every RAM. -/
def Obligations.StepKeepsCanonicalForm : Prop :=
  ∀ s t : State, storesOk s → step s = .next t → storesOk t

/-- R22, R449: whatever the command, the local time base counts exactly the ticks before it while the reference runs and stands while it
does not; the reference stops and starts by its own two events alone; and the queue loses its front and nothing else. -/
def Obligations.LocalTimeBaseCountsReference : Prop :=
  ∀ (s t : State) (c : Instr) (rest : List Instr), storesOk s → s.pending = c :: rest → step s = .next t →
    t.time.ticks = s.time.ticks + (if s.time.refRun = true then c.delay else 0) ∧ t.pending = rest ∧
    t.time.refRun = (match c with | .refclkStop _ => false | .refclkResume _ => true | _ => s.time.refRun)

/-- R25, R26, R32: whatever the command, the step number and the instant of the last accepted strobe stand, or become those of an accepted
strobe (one heard and not too close), or are those of a reset: step 0 and no strobe. -/
def Obligations.StepNumberChangesAtStrobes : Prop :=
  ∀ (s t : State) (c : Instr) (rest : List Instr), storesOk s → s.pending = c :: rest → step s = .next t →
    (t.time.step = s.time.step ∧ t.time.lastStrobe = s.time.lastStrobe) ∨ (t.time.step = 0 ∧ t.time.lastStrobe = none) ∨
    ∃ dt n l, c = .stepBoundaryStrobe dt n l ∧ t.time.step = n ∧ t.time.lastStrobe = some t.time.ticks ∧
      ∀ a, a = advance dt { s with pending := rest } → strobeHeard a = true ∧ strobeClose a = false

/-- R405: in confidential mode a read leaves no bit of a locked register (Table 17-4), whoever reads and whatever the register. -/
def Obligations.ConfidentialReadsAreHidden : Prop :=
  ∀ (dt : Nat) (agent : Byte) (off : BitVec 20) (s : State), confOn (advance dt s) = true →
    Answers (.unmappedAccess dt agent off false 0 15) s (fun t => Nat.land t.bus.rdata.toNat (lockMask off.toNat) = 0)

/-! ### Time, boundaries and supplies -/

/-- R25, R26, R28, R32: an accepted strobe loads its number and is the last one accepted; no cut is made any more and nothing frozen is left;
one that comes while no job is attached, nor asks to be, has no effect; one less than 2 µs after the last accepted one is no boundary: it
changes nothing, and sends BOUNDARY_TOO_CLOSE with the interval from the last accepted one. (A strobe is heard while system time is valid;
LocalBoundariesKeepStep speaks of the others.) -/
def Obligations.StrobeIsBoundary : Prop :=
  ∀ (dt step : Nat) (l : Option Nat) (s a : State), (Instr.stepBoundaryStrobe dt step l).wf = true → storesOk s → a = advance dt s →
    (strobeHeard a = true → (∀ t0, a.time.lastStrobe = some t0 → t0 + 200 ≤ a.time.ticks) → Answers (.stepBoundaryStrobe dt step l) s
      (fun t => t.time = { a.time with step := step, lastStrobe := some a.time.ticks, idleSince := a.time.ticks, cutMade := false,
                                       nextB := t.time.nextB } ∧ t.frozen = [])) ∧
    (jobOn a = false → attaching a = [] → Answers (.stepBoundaryStrobe dt step l) s (untouched a)) ∧
    (∀ t0, strobeHeard a = true → a.time.lastStrobe = some t0 → a.time.ticks < t0 + 200 → Answers (.stepBoundaryStrobe dt step l) s
      (fun t => t.time = a.time ∧ waitingSame a t ∧ unitsSame a t ∧ fieldsBut [FLC.STATUS.QUEUE_OVF] a t ∧
        (roomMsg a → messageWaits 0x01 0x001 (a.time.ticks - t0) t ∧ fieldsBut [] a t)))

/-- R24, R28, R31, R32: the cut comes once, at its instant; a local boundary comes on a multiple of LOCAL_PERIOD, leaves nothing frozen and
leaves the step number; local boundaries begin when the strobes have stopped, no job is attached or system time is not valid, and that is
recorded; while system time is not valid a strobe changes nothing. (The last is read from R24, log entry 62.) -/
def Obligations.LocalBoundariesKeepStep : Prop :=
  ∀ (dt : Nat) (s a : State), storesOk s → a = advance dt s →
    (a.time.cutMade = false → cutTime a = true → Answers (.boundaryCut dt) s (fun t => t.time.cutMade = true ∧ t.time.step = a.time.step)) ∧
    (a.time.cutMade = true ∨ cutTime a = false → Answers (.boundaryCut dt) s (untouched a)) ∧
    (localOn a = true → a.time.ticks % localPeriod a = 0 → Answers (.localBoundary dt) s
      (fun t => t.time = { a.time with cutMade := false, nextB := none } ∧ t.frozen = [])) ∧
    (localOn a = false ∨ a.time.ticks % localPeriod a ≠ 0 → Answers (.localBoundary dt) s (untouched a)) ∧
    (localOn a = false → strobesStopped a = true ∨ jobOn a = false ∨ sysOk a = false → waitingRecs a < 63 →
      Answers (.boundarySourceLocal dt) s (fun t => getB t GLB.BOUNDARY_STATUS.LOCAL_BOUNDARIES = true ∧
        t.time = { a.time with nextB := none, cutMade := false } ∧ eventWaits 0x0001 t)) ∧
    (localOn a = true ∨ (jobOn a = true ∧ sysOk a = true ∧ strobesStopped a = false) →
      Answers (.boundarySourceLocal dt) s (untouched a)) ∧
    (∀ (step : Nat) (l : Option Nat), (Instr.stepBoundaryStrobe dt step l).wf = true → sysOk a = false →
      Answers (.stepBoundaryStrobe dt step l) s (untouched a))

/-- R20, R21, R24, R304, R469, R449: system time is the link layer's count while coherent, and stands otherwise, while VLINK is off too;
VAON_LOW is set and reported once for each onset; a collapse holds every output low; the reference stops and resumes with the units as they
are. -/
def Obligations.SuppliesAndSystemTime : Prop :=
  ∀ (dt : Nat) (s a : State), a = advance dt s →
    (∀ n < 2 ^ 64, linkDown a = false → Answers (.systimeCoherent dt true n) s (fun t => t.time = { a.time with sys := n } ∧
      getB t GLB.BOUNDARY_STATUS.SYSTIME_VALID = true ∧ waitingSame a t ∧ unitsSame a t ∧ fieldsBut [GLB.BOUNDARY_STATUS.SYSTIME_VALID] a t)) ∧
    (∀ ok, ∀ n < 2 ^ 64, ok = false ∨ linkDown a = true → Answers (.systimeCoherent dt ok n) s (fun t => t.time = a.time ∧
      getB t GLB.BOUNDARY_STATUS.SYSTIME_VALID = false ∧ waitingSame a t ∧ unitsSame a t ∧ fieldsBut [GLB.BOUNDARY_STATUS.SYSTIME_VALID] a t)) ∧
    (∀ v < 2800, a.time.vaonLow = false → roomMsg a → Answers (.vaonLow dt v) s (fun t =>
      getB t GLB.CORE_STATUS.VAON_LOW = true ∧ messageWaits 0xA0 0xA00 v t ∧ t.time = { a.time with vaonLow := true } ∧ waitingSame a t ∧
      unitsSame a t ∧ fieldsBut [GLB.CORE_STATUS.VAON_LOW, GLB.CORE_STATUS.BELOW_BOUNDS] a t)) ∧
    (∀ v < 2800, a.time.vaonLow = true → Answers (.vaonLow dt v) s (untouched a)) ∧
    (∀ v, 2800 ≤ v → Answers (.vaonRestored dt v) s (fun t => t.time = { a.time with vaonLow := false } ∧ t.inbox = a.inbox ∧
      getB t GLB.CORE_STATUS.BELOW_BOUNDS = decide (v < 2880) ∧ waitingSame a t ∧ unitsSame a t ∧
      fieldsBut [GLB.CORE_STATUS.BELOW_BOUNDS] a t)) ∧
    Answers (.vaonCollapse dt) s (fun t => t.phc = { a.phc with allLow := true } ∧ t.time = a.time ∧ waitingSame a t ∧ sensingSame a t ∧
      managingSame a t ∧ fieldsBut [GLB.CORE_STATUS.BELOW_BOUNDS] a t) ∧
    Answers (.refclkStop dt) s (fun t => t.time = { a.time with refRun := false } ∧ waitingSame a t ∧ unitsSame a t ∧ fieldsBut [] a t) ∧
    Answers (.refclkResume dt) s (fun t => t.time = { a.time with refRun := true } ∧ waitingSame a t ∧ unitsSame a t ∧ fieldsBut [] a t)

/-! ### The management bus -/

/-- R29, R36, R7: the host's write of BOUNDARY_CTRL, whose fields are RW, lands; its write of PROBE, an RWB field, waits for its boundary,
the values in force standing; ones that it writes to the W1C bits of BUS_ERR_STATUS clear them. -/
def Obligations.PlainWritesLandOrWait : Prop :=
  ∀ (dt : Nat) (v : Word) (s a : State), a = advance dt s →
    Answers (.registerWrite dt 0x01 0x00024 v 15) s (fun t =>
      aFind t.landing GLB.BOUNDARY_CTRL.CUT_NS.key = some (v.toNat % 2 ^ 16) ∧
      aFind t.landing GLB.BOUNDARY_CTRL.LOCAL_PERIOD.key = some (v.toNat / 2 ^ 16 % 2 ^ 8) ∧
      aFind t.landing GLB.BOUNDARY_CTRL.IDLE_MS.key = some (v.toNat / 2 ^ 24) ∧
      fieldsBut [] a t ∧ unitsSame a t ∧ t.pend = a.pend) ∧
    Answers (.registerWrite dt 0x01 0x00040 v 15) s (fun t =>
      aFind t.pend GLB.PROBE.VALUE.key = some ⟨v.toNat, 0, none, false⟩ ∧ fieldsBut [] a t ∧ unitsSame a t ∧ t.landing = a.landing) ∧
    (getF a GLB.BUS_ERR_STATUS.UNMAPPED ≤ 1 → getF a GLB.BUS_ERR_STATUS.PARTIAL_WRITE ≤ 1 →
      Answers (.registerWrite dt 0x01 0x0002C v 15) s (fun t =>
      getB t GLB.BUS_ERR_STATUS.UNMAPPED = (getB a GLB.BUS_ERR_STATUS.UNMAPPED && !v.toNat.testBit 0) ∧
      getB t GLB.BUS_ERR_STATUS.PARTIAL_WRITE = (getB a GLB.BUS_ERR_STATUS.PARTIAL_WRITE && !v.toNat.testBit 1) ∧
      fieldsBut [GLB.BUS_ERR_STATUS.UNMAPPED, GLB.BUS_ERR_STATUS.PARTIAL_WRITE] a t ∧ unitsSame a t))

/-- R36: every RW value that has landed is in force, and none waits. -/
def Obligations.LandedValuesAreApplied : Prop :=
  ∀ (dt : Nat) (s a : State), a = advance dt s → aSortedFrom none a.landing = true →
    Answers (.rwWriteApply dt) s (fun t => t.landing = [] ∧ unitsSame a t ∧
      ∀ f : Fld, f.key ≠ TST.CTRL.OVERRIDE.key → getF t f = (aFind a.landing f.key).getD (getF a f))

/-- R37: an access to an offset with no register, one not aligned among them, reads zero or is ignored and sets UNMAPPED alone; a write of
part of a word is ignored and sets PARTIAL_WRITE alone; the first of them is captured, and none raises a fault. -/
def Obligations.BusErrorsAreFlagged : Prop :=
  ∀ (dt : Nat) (agent : Byte) (off : BitVec 20) (v : Word) (be : BitVec 4) (s a : State), a = advance dt s →
    let frame := fun (flag : Fld) (t : State) => waitingSame a t ∧ unitsSame a t ∧ t.inbox = a.inbox ∧ getB t flag = true ∧
      (getB a GLB.BUS_ERR_STATUS.UNMAPPED = false → getB a GLB.BUS_ERR_STATUS.PARTIAL_WRITE = false →
        getF t GLB.BUS_ERR_ADDR.OFFSET = off.toNat ∧ getF t GLB.BUS_ERR_STATUS.FIRST_AGENT = agent.toNat ∧
        fieldsBut [flag, GLB.BUS_ERR_STATUS.FIRST_AGENT, GLB.BUS_ERR_ADDR.OFFSET] a t) ∧
      (getB a GLB.BUS_ERR_STATUS.UNMAPPED = true ∨ getB a GLB.BUS_ERR_STATUS.PARTIAL_WRITE = true → fieldsBut [flag] a t)
    (off.toNat % 4 ≠ 0 → mapped off.toNat = false) ∧
    (mayWrite a agent.toNat (off.toNat / 4 * 4) = true → mapped off.toNat = false → Answers (.unmappedAccess dt agent off true v be) s
      (fun t => t.bus = a.bus ∧ frame GLB.BUS_ERR_STATUS.UNMAPPED t)) ∧
    (mayRead a agent.toNat (off.toNat / 4 * 4) = true → mapped off.toNat = false → Answers (.unmappedAccess dt agent off false v be) s
      (fun t => t.bus = { a.bus with rdata := 0 } ∧ frame GLB.BUS_ERR_STATUS.UNMAPPED t)) ∧
    (mayWrite a agent.toNat (off.toNat / 4 * 4) = true → mapped off.toNat = true → be ≠ 15 → Answers (.unmappedAccess dt agent off true v be) s
      (fun t => t.bus = a.bus ∧ frame GLB.BUS_ERR_STATUS.PARTIAL_WRITE t))

/-- R399: an access outside the agent's rights reads zero or is ignored, sets DENIED, and no flag of R37; the first is captured; the fault
goes out where the agent has had none for a second; a packet outside its context's rights completes S_DENIED. (A denied write of a ring's
register also counts as a rejected doorbell, R348.) -/
def Obligations.DeniedAccessesAreReported : Prop :=
  ∀ (dt : Nat) (s a : State), a = advance dt s →
    (∀ (agent : Byte) (off : BitVec 20) (write : Bool) (v : Word),
      (write = true → mayWrite a agent.toNat (off.toNat / 4 * 4) = false) → (write = false → mayRead a agent.toNat (off.toNat / 4 * 4) = false) →
      let bell := if write = true ∧ (ringReg off.toNat).isSome = true
        then [CMD.ERR_STATUS.DOORBELL_REJECT, CMD.ERR_STATUS.FIRST_AGENT, CMD.ERR_STATUS.FIRST_RING] else []
      let info := [SEC.DENY_INFO.AGENT, SEC.DENY_INFO.OFFSET, SEC.DENY_INFO.WRITE]
      Answers (.deniedAccess dt agent off write v) s (fun t => getB t SEC.STATUS.DENIED = true ∧ waitingSame a t ∧ unitsSame a t ∧
        (write = false → t.bus.rdata = 0) ∧
        (getB a SEC.STATUS.DENIED = false → getF t SEC.DENY_INFO.AGENT = agent.toNat ∧ getF t SEC.DENY_INFO.OFFSET = off.toNat ∧
          getB t SEC.DENY_INFO.WRITE = write ∧ fieldsBut (SEC.STATUS.DENIED :: FLC.STATUS.QUEUE_OVF :: info ++ bell) a t) ∧
        (getB a SEC.STATUS.DENIED = true → fieldsBut (FLC.STATUS.QUEUE_OVF :: bell) a t) ∧
        ((∀ t0, aFind a.bus.denied agent.toNat = some t0 → t0 + 100000000 ≤ a.time.ticks) →
          aFind t.bus.denied agent.toNat = some a.time.ticks ∧
          (roomMsg a → messageWaits 0xE1 0xE10 (agent.toNat + 256 * off.toNat + 2 ^ 31 * b2n write) t)) ∧
        (∀ t0, aFind a.bus.denied agent.toNat = some t0 → a.time.ticks < t0 + 100000000 → t.inbox = a.inbox))) ∧
    (∀ (q key i : Nat) (b c : Bool) (p : Pkt), q < 72 → key < 2 ^ 256 → soundHead a q p → (∀ x ∈ a.cmd.pkts, x.ring = q → x.st ≠ 3) →
      p.ctx = ctxOf q → p.op ∈ opcodes → p.slots = slotsNeeded p → p.tag ∈ tagsOf p.op → rightsFail (judged a q p) p = some i →
      Answers (rowOf p.op dt q b c key) s (fun t => entryWritten a q p.seq 0x0017 0 i t ∧ waitingSame a t ∧ sensingSame a t ∧
        drivingSame a t ∧ t.cmd.pkts = a.cmd.pkts))

/-- R38: a read of a low word keeps the high word for the agent, a read of a high word returns the kept one, or the live one where none is
kept; a low word that is written is held, and nothing in force changes; a write by an agent that is not the register's own writer is
ignored. -/
def Obligations.WideValuesAreWhole : Prop :=
  ∀ (dt : Nat) (agent : Byte) (off : BitVec 20) (v : Word) (s a : State), a = advance dt s → mapped off.toNat = true →
    (isLow off.toNat = true → mayRead a agent.toNat off.toNat = true → Answers (.wideReadLowWord dt agent off) s (fun t =>
      aFind t.bus.snap (agentKey agent.toNat (off.toNat + 4)) =
        some (hidden a agent.toNat (off.toNat + 4) (rawWord a agent.toNat (off.toNat + 4) false)) ∧ unitsSame a t ∧ fieldsBut [] a t)) ∧
    (isHigh off.toNat = true → mayRead a agent.toNat off.toNat = true → ∀ x < 2 ^ 32,
      aFind a.bus.snap (agentKey agent.toNat off.toNat) = some x → Answers (.wideReadLowWord dt agent off) s
        (fun t => t.bus.rdata.toNat = x)) ∧
    (isHigh off.toNat = true → mayRead a agent.toNat off.toNat = true → aFind a.bus.snap (agentKey agent.toNat off.toNat) = none →
      Answers (.wideReadLowWord dt agent off) s
        (fun t => t.bus.rdata.toNat = hidden a agent.toNat off.toNat (rawWord a agent.toNat off.toNat (tagOf a none)) % 2 ^ 32)) ∧
    (isLow off.toNat = true → mayWrite a agent.toNat off.toNat = true →
      (notIts agent.toNat off.toNat = false → Answers (.wideWriteLowWord dt agent off v) s (fun t =>
        aFind t.bus.low off.toNat = some v.toNat ∧ waitingSame a t ∧ unitsSame a t ∧ fieldsBut [] a t)) ∧
      (notIts agent.toNat off.toNat = true → Answers (.wideWriteLowWord dt agent off v) s (untouched a)))

/-- R7, Table 2-5: the host's read of a region's droop register answers its event count and worst level, and restarts them: the count from
zero, the worst level from the present one. -/
def Obligations.DroopCountsRestartWhenRead : Prop :=
  ∀ (dt r : Nat) (off : BitVec 20) (s a : State), a = advance dt s → r < 64 → off.toNat = 0x10800 + 4 * r → confOn a = false →
    Answers (.rcFieldRead dt 0x01 off) s (fun t =>
      getF t (SNS.REGION_DROOP.EVENTS r) = 0 ∧ getF t (SNS.REGION_DROOP.WORST r) = getF a (SNS.REGION_DROOP.LEVEL r) % 8 ∧
      getF t (SNS.REGION_DROOP.LEVEL r) = getF a (SNS.REGION_DROOP.LEVEL r) ∧
      (aFind a.wrote (SNS.REGION_DROOP.EVENTS r).key = none → t.bus.rdata.toNat / 2 ^ 16 = getF a (SNS.REGION_DROOP.EVENTS r) % 2 ^ 16) ∧ unitsSame a t)

/-! ### Sensing -/

/-- R42, R45, R46, R49 to R51: a sample, on the 250 ns grid alone, publishes every IMON code and its trimmed current, marks codes at the
ends of the span, keeps the five sense codes, and counts into the open windows. -/
def Obligations.SamplesArePublished : Prop :=
  ∀ (dt : Nat) (imon pts : List Nat) (s a : State), (Instr.senseSample dt imon pts).wf = true → a = advance dt s →
    (a.time.ticks % 25 = 0 → Answers (.senseSample dt imon pts) s (fun t =>
      (∀ n < 98, getF t (SNS.IMON.CODE n) = nth imon n ∧ getS t (SNS.IMON.CURRENT n) = clampI (-32768) 32767
          (fdiv (((nth imon n : Nat) - 160 + getS a (SNS.TRIM.OFFSET n)) * getF a (SNS.TRIM.GAIN n)) 32768) ∧
        (nth imon n = 0 ∨ nth imon n = 1023 → getB t (SNS.IMON.OVR n) = true)) ∧
      (∀ p < 5, pointCode t p = nth pts p) ∧ getF t SNS.VCORE_A.VOLTAGE = nth pts 0 ∧ getF t SNS.VCORE_B.VOLTAGE = nth pts 1 ∧
      t.sns.n1 = a.sns.n1 + 1 ∧ t.sns.outN = a.sns.outN + 1)) ∧
    (a.time.ticks % 25 ≠ 0 → Answers (.senseSample dt imon pts) s (untouched a))

/-- R49, R54, R55, Table 3-3: windows publish averages and start afresh: the rail currents of 1 µs and of 10 µs, the bus sample, and the
round's powers; the comparison of a 10 µs window waits for its tenth estimate. -/
def Obligations.WindowsCloseOnTheirGrid : Prop :=
  ∀ (dt : Nat) (s a : State), a = advance dt s →
    (a.time.ticks % 100 = 0 → Answers (.windowClose1us dt) s (fun t => t.sns.n1 = 0 ∧ t.sns.acc1 = [] ∧ ∀ k < 4,
      getS t (SNS.RAIL_I_1US.CURRENT k) = clampI (-524288) 524287 (fdiv (aGet 0 a.sns.acc1 k) (max 1 a.sns.n1)))) ∧
    (a.time.ticks % 1000 = 0 → Answers (.windowClose10us dt) s (fun t => t.est.tenDue = true ∧ ∀ k < 4,
      getS t (SNS.RAIL_I_10US.CURRENT k) = clampI (-524288) 524287 (meas10 a k))) ∧
    (∀ v c : Nat, v < 4096 → c < 4096 → a.time.ticks % 100 = 0 → Answers (.busSample dt v c) s (fun t =>
      getF t SNS.BUS_V.VOLTAGE = v ∧ getF t SNS.BUS_I.CURRENT = c ∧ t.sns.busSum = a.sns.busSum + v * c ∧ t.sns.busN = a.sns.busN + 1 ∧
      t.sns.busRun = (if v < 2300 ∨ 2900 < v then a.sns.busRun + 1 else 0))) ∧
    (a.time.ticks % 100000 = 0 → Answers (.xchkRound dt) s (fun t =>
      getF t SNS.BUS_P_1MS.POWER = min (roundIn a / 100000) 65535 ∧ getF t SNS.RAIL_P_1MS.POWER = min (fdiv (roundOut a) 100000).toNat 65535 ∧
      getB t SNS.XCHK_STATUS.CHECK_ACTIVE = decide (80000000 < roundIn a) ∧
      (80000000 < roundIn a → getB t SNS.XCHK_STATUS.IN_BAND = inBand a ∧
        getF t SNS.XCHK_STATUS.OUT_COUNT = (if inBand a = true then 0 else min (getF a SNS.XCHK_STATUS.OUT_COUNT + 1) 255)) ∧
      t.sns.busN = 0 ∧ t.sns.outN = 0)) ∧
    (a.time.ticks % 100 ≠ 0 → Answers (.windowClose1us dt) s (untouched a) ∧ Answers (.windowClose10us dt) s (untouched a) ∧
      Answers (.xchkRound dt) s (untouched a) ∧ ∀ v < 4096, ∀ c < 4096, Answers (.busSample dt v c) s (untouched a))

/-- R46, R52 to R56, R469: each sense fault is sent once the condition has lasted its time and only once for an onset; MEAS_SUSPECT is set
and cleared after 16 active rounds. -/
def Obligations.SenseFaultsGoOutOnce : Prop :=
  ∀ (dt : Nat) (s a : State), a = advance dt s → roomMsg a →
    (∀ n < 98, 16 ≤ aGet 0 a.sns.imonRun n → a.sns.imonSent.contains n = false → Answers (.imonRange dt n) s (fun t =>
      messageWaits 0x10 (0x100 + n) (getF a (SNS.IMON.CODE n)) t ∧ n ∈ t.sns.imonSent)) ∧
    (∀ n < 98, a.sns.imonSent.contains n = true → Answers (.imonRange dt n) s (untouched a)) ∧
    (∀ p < 5, 40 ≤ aGet 0 a.sns.openRun p → pointOpen a p = false → Answers (.senseOpen dt p) s (fun t =>
      messageWaits 0x11 (0x170 + p) (pointCode a p) t ∧ pointOpen t p = true)) ∧
    (∀ p < 5, pointOpen a p = true → Answers (.senseOpen dt p) s (untouched a)) ∧
    (400 ≤ a.sns.splitRun → a.sns.splitSent = false → Answers (.vcoreSenseSplit dt) s (fun t =>
      messageWaits 0x13 0x170 (ux 32 ((pointCode a 0 : Int) - pointCode a 1)) t ∧ getB t SNS.SENSE_STATUS.SPLIT = true ∧
      t.sns = { a.sns with splitSent := true } ∧ fieldsBut [SNS.SENSE_STATUS.SPLIT] a t)) ∧
    (a.sns.splitSent = true → Answers (.vcoreSenseSplit dt) s (untouched a)) ∧
    (100 ≤ a.sns.busRun → a.sns.busSent = false → Answers (.busVRange dt) s (fun t =>
      messageWaits 0x14 0x180 (getF a SNS.BUS_V.VOLTAGE) t ∧ t.sns = { a.sns with busSent := true } ∧ fieldsBut [] a t)) ∧
    (a.sns.busSent = true → Answers (.busVRange dt) s (untouched a)) ∧
    (16 ≤ getF a SNS.XCHK_STATUS.OUT_COUNT → measSuspect a = false → Answers (.busXchkSuspect dt) s (fun t => measSuspect t = true ∧
      messageWaits 0x15 0x181 (65536 * (getF a SNS.BUS_P_1MS.POWER / 8) + getF a SNS.RAIL_P_1MS.POWER / 8) t)) ∧
    (16 ≤ a.sns.inRun → measSuspect a = true → Answers (.measSuspectClear dt) s (fun t => measSuspect t = false))

/-- R57, R58, R60, R166 to R168: a detector's level is the deepest threshold below the reference that its voltage crosses, and a threshold
already crossed is released 5 mV above it; a region's level is the highest among its included detectors; a rise counts an event, level 4
holds the region's beats, a fall ends the hold; a stuck detector's exclusion waits for the boundary; writing one to its bit includes it at
once; a long hold is reported once. -/
def Obligations.DroopLevelsFollowDetectors : Prop :=
  ∀ (dt r d : Nat) (s a : State), r < 64 → d < 4 → a = advance dt s →
    (∀ v : Nat, ∀ b : State, (Instr.droopLevelChange dt r d v).wf = true →
      b = { a with sns := { a.sns with det := aPut 0 a.sns.det (4 * r + d) (detLevel a (aGet 0 a.sns.det (4 * r + d)) v) } } →
      levelOf b r ≤ 4 →
      Answers (.droopLevelChange dt r d v) s (fun t =>
        (∀ i, 1 ≤ i → i ≤ 4 →
          (v + droopThresh a i < droopRef a → i ≤ aGet 0 t.sns.det (4 * r + d)) ∧
          (i ≤ aGet 0 a.sns.det (4 * r + d) → v + droopThresh a i < droopRef a + 5000000 → i ≤ aGet 0 t.sns.det (4 * r + d)) ∧
          ((∀ j, i ≤ j → j ≤ 4 → droopRef a + 5000000 ≤ v + droopThresh a j) → aGet 0 t.sns.det (4 * r + d) < i)) ∧
        getF t (SNS.REGION_DROOP.LEVEL r) = levelOf b r ∧
        (getF a (SNS.REGION_DROOP.LEVEL r) < levelOf b r →
          getF t (SNS.REGION_DROOP.EVENTS r) = min (getF a (SNS.REGION_DROOP.EVENTS r) + 1) 65535 ∧
          (levelOf b r = 4 → (regionOf t r).hold = true ∧ (regionOf t r).holdAt = a.time.ticks)) ∧
        (levelOf b r < getF a (SNS.REGION_DROOP.LEVEL r) → (regionOf t r).hold = false ∧ (regionOf t r).gNew = stretchOf (levelOf b r)))) ∧
    (∀ t0, aFind a.sns.stuck (4 * r + d) = some t0 → t0 + 100000 < a.time.ticks → detExcl a (4 * r + d) = false →
      (otherDets a (4 * r + d) = [] → a.sns.stuckSent.contains (4 * r + d) = false) →
      a.acts.any (fun x => x.kind == .exclude (4 * r + d)) = false → Answers (.droopDetStuck dt r d) s (fun t =>
        t.acts = a.acts ++ [⟨.exclude (4 * r + d), false, none, 0⟩] ∧ unitsSame a t ∧ fieldsBut [] a t)) ∧
    (∀ (agent : Byte) (w : Nat) (v : Word), w < 8 → mayWrite a agent.toNat (0x10710 + 4 * w) = true →
      Answers (.detExclWrite dt agent w v) s (fun t =>
        getF t (SNS.DET_EXCL.EXCLUDED w) = Nat.land (getF a (SNS.DET_EXCL.EXCLUDED w)) (0xFFFFFFFF - v.toNat))) ∧
    (holding a r = true → (regionOf a r).longSent = false →
      holdFrom a r + us (getC a DRG.CTRL.HOLD_LONG_US 1 127) < a.time.ticks → roomMsg a →
      Answers (.stretchHoldLong dt r) s (fun t => getB t DRG.STATUS.HOLD_LONG = true ∧ regionOf t r = { regionOf a r with longSent := true } ∧
        messageWaits 0x52 (0x510 + r) ((a.time.ticks - holdFrom a r) / 100) t ∧ fieldsBut [DRG.STATUS.HOLD_LONG] a t)) ∧
    ((regionOf a r).longSent = true → Answers (.stretchHoldLong dt r) s (untouched a))

/-- R62, R63, R64, R70: the later report of a window counts, as zero while its partition is scrubbed, and a repeated one sets DUP; reserved
and derived IDs never come from the stream; the last marker within 100 ns of the close completes the vector, and 100 ns after the close it
is complete without the present sources that are late; 16 stale windows are reported once. (That a last marker ahead of the close is no event is log
entry 68; that a report after the close still counts for the window that closes is log entry 65.) -/
def Obligations.ActivityWindowsComplete : Prop :=
  ∀ (dt : Nat) (s a : State), a = advance dt s →
    (∀ id < 0xE00, ∀ v < 65536, Answers (.activityFeature dt id v) s (fun t =>
      aFind t.sns.cur id = some (if featScrubbed a id = true then 0 else v) ∧
      fieldsBut [SNS.ACT_STATUS.DUP] a t ∧ (aFind a.sns.cur id ≠ none → getB t SNS.ACT_STATUS.DUP = true) ∧
      (aFind a.sns.cur id = none → getF t SNS.ACT_STATUS.DUP = getF a SNS.ACT_STATUS.DUP))) ∧
    (∀ id v, 0xE00 ≤ id → id < 4096 → v < 65536 → Answers (.activityFeature dt id v) s (untouched a)) ∧
    (a.time.ticks % 100 ≤ 10 → Answers (.actEndOfWindow dt) s (fun t => t.sns.feats = windowFeats 0 a ∧ t.sns.cur = [] ∧
      t.sns.stale = false ∧ getF t SNS.ACT_STATUS.STALE_RUN = 0 ∧ t.est.owed = true)) ∧
    (10 < a.time.ticks % 100 → Answers (.actEndOfWindow dt) s (untouched a)) ∧
    (∀ late, late ≠ 0 → late < 8 → a.time.ticks % 100 ≠ 10 ∨ lateHere a late = 0 → Answers (.actWindowStale dt late) s (untouched a)) ∧
    (∀ late c, c < 3 → bit (lateHere a late) c = (bit late c && !srcAbsent a c)) ∧
    (∀ late, late ≠ 0 → late < 8 → lateHere a late ≠ 0 → a.time.ticks % 100 = 10 → Answers (.actWindowStale dt late) s (fun t =>
      t.sns.feats = windowFeats (lateHere a late) a ∧ t.sns.stale = true ∧ t.sns.late = lateHere a late ∧
      getF t SNS.ACT_STATUS.STALE_RUN = min (getF a SNS.ACT_STATUS.STALE_RUN + 1) 255 ∧
      getF t SNS.ACT_STATUS.STALE_TOTAL = min (getF a SNS.ACT_STATUS.STALE_TOTAL + 1) 65535)) ∧
    (16 ≤ getF a SNS.ACT_STATUS.STALE_RUN → a.sns.stallSent = false → roomMsg a → Answers (.actStreamStall dt) s (fun t =>
      messageWaits 0x17 0x1D0 a.sns.late t ∧ t.sns = { a.sns with stallSent := true } ∧ fieldsBut [] a t)) ∧
    (a.sns.stallSent = true → Answers (.actStreamStall dt) s (untouched a))

/-- R65 to R67, R447, R448: a round publishes every channel that converted within its range and marks the others invalid; a channel
invalid for three rounds, and a device silent for three, are reported once; a frame is received if START, ADDR and CRC pass. -/
def Obligations.HousekeepingRoundsPublish : Prop :=
  ∀ (dt : Nat) (s a : State), a = advance dt s →
    (∀ conv : List (Nat × Nat), (Instr.hksRound dt conv).wf = true → a.time.ticks % 100000 = 0 →
      Answers (.hksRound dt conv) s (fun t => getF t HKS.STATUS.ROUND = (getF a HKS.STATUS.ROUND + 1) % 2 ^ 32 ∧
        ∀ c < 0x365, ∀ got, got = (hksValue a (conv.foldl (fun m e => aIns m e.1 (e.2 % 65536)) []) c).filter (fun x => !hksRange c x) →
          (∀ x, got = some x → getF t (HKS.CH.VALUE c) = x % 65536 ∧ getB t (HKS.CH.VALID c) = true ∧ getF t (HKS.CH.AGE c) = 0) ∧
          (got = none → getF t (HKS.CH.VALUE c) = getF a (HKS.CH.VALUE c) ∧ getB t (HKS.CH.VALID c) = false ∧
            getF t (HKS.CH.AGE c) = min (getF a (HKS.CH.AGE c) + 1) 255))) ∧
    (∀ c < 1024, 3 ≤ aGet 0 a.sns.hksBad c → a.sns.hksSent.contains c = false → roomMsg a → Answers (.hksChannelInvalid dt c) s (fun t =>
      messageWaits 0x18 0x1E0 c t ∧ c ∈ t.sns.hksSent ∧ fieldsBut [] a t)) ∧
    (a.time.ticks % 100000 = 0 → Answers (.stgTlmRoundStart dt) s (fun t => t.sns.tlmGot = [] ∧ t.sns.tlmOpen = true ∧ fieldsBut [] a t ∧
      ∀ d < 99, aGet 0 t.sns.silent d =
        (if a.sns.tlmOpen = true ∧ a.sns.tlmGot.contains d = false then aGet 0 a.sns.silent d + 1 else aGet 0 a.sns.silent d))) ∧
    (∀ (slot : Nat) (w : Word), slot < 128 → w.toNat < 2 ^ 31 → bits w.toNat 24 7 + 1 = slot → bits w.toNat 24 7 ≤ 98 →
      crc8 [bits w.toNat 24 8, bits w.toNat 16 8, bits w.toNat 8 8] = bits w.toNat 0 8 → Answers (.stgTlmFrame dt slot w) s (fun t =>
        aFind t.sns.tlm (bits w.toNat 24 7) = some (bits w.toNat 8 16) ∧ bits w.toNat 24 7 ∈ t.sns.tlmGot ∧
        aGet 0 t.sns.silent (bits w.toNat 24 7) = 0 ∧ fieldsBut [] a t)) ∧
    (∀ (slot : Nat) (w : Word), slot < 128 → crc8 [bits w.toNat 24 8, bits w.toNat 16 8, bits w.toNat 8 8] ≠ bits w.toNat 0 8 →
      Answers (.stgTlmFrame dt slot w) s (untouched a)) ∧
    (∀ d < 99, 3 ≤ aGet 0 a.sns.silent d → a.sns.silentSent.contains d = false → roomMsg a → Answers (.stgTlmSilent dt d) s (fun t =>
      messageWaits 0x19 0x1E1 d t ∧ d ∈ t.sns.silentSent ∧ fieldsBut [] a t)) ∧
    (∀ d < 99, a.sns.silentSent.contains d = true → Answers (.stgTlmSilent dt d) s (untouched a))

/-! ### The activity estimate -/

/-- R80, R84, R85, Table 3-5: the row that decided at the last close acts: at once where the guard band does not narrow, else pending for
the boundary; the counts restart, and the row's fault is sent; the shadow fit's covariance becomes that of the fit in force with row 8;
a row that has not decided does nothing. (A close decides the first row that holds, `rowNow`.) -/
def Obligations.TrustRowsActInOrder : Prop :=
  ∀ (dt : Nat) (s a : State), a = advance dt s →
    (let acts := fun (row : Nat) (t : State) =>
      (if band a ≤ bandOf a (rowTarget row) then getF t EST.TRUST_STATUS.STATE = rowTarget row ∧ getB t EST.TRUST_STATUS.PENDING_VALID = false
       else getF t EST.TRUST_STATUS.STATE = getF a EST.TRUST_STATUS.STATE ∧ getF t EST.TRUST_STATUS.PENDING = rowTarget row ∧
        getB t EST.TRUST_STATUS.PENDING_VALID = true) ∧
      getF t EST.TRUST_COUNT.DIS_RUN = 0 ∧ getF t EST.TRUST_COUNT.AGREE_RUN = 0 ∧ getF t EST.TRUST_COUNT.SHADOW_RUN = 0 ∧ t.est.row = 0
    let ready := fun (row : Nat) => a.est.row = row ∧ roomMsg a
    (ready 1 → Answers (.estModelLost dt) s (fun t => acts 1 t ∧
      (getB a EST.CTRL.FORCE_MEAS = false → messageWaits 0x22 0x210 (trustSt a) t))) ∧
    (ready 4 → Answers (.estModelRestored dt) s (acts 4)) ∧
    (ready 5 → Answers (.estDisagree dt) s (fun t => acts 5 t ∧
      messageWaits 0x20 (0x200 + worstRail a) (ux 32 (aGet 0 a.est.diff (worstRail a))) t)) ∧
    (ready 6 → Answers (.estMismatch dt) s (fun t => acts 6 t ∧ getB t EST.TRUST_STATUS.MISMATCH_LATCH = true ∧
      messageWaits 0x21 (0x200 + worstRail a) (ux 32 (aGet 0 a.est.diff (worstRail a))) t)) ∧
    (ready 7 → Answers (.estTrustAgree dt) s (acts 7)) ∧
    (ready 8 → Answers (.estShadowAgree dt) s (fun t => acts 8 t ∧ (band a ≤ bandOf a 0 → t.est.cov = a.est.shCov)))) ∧
    (a.est.row ≠ 1 → Answers (.estModelLost dt) s (untouched a)) ∧
    (a.est.row ≠ 4 → Answers (.estModelRestored dt) s (untouched a)) ∧
    (a.est.row ≠ 5 → Answers (.estDisagree dt) s (untouched a)) ∧
    (a.est.row ≠ 6 → Answers (.estMismatch dt) s (untouched a)) ∧
    (a.est.row ≠ 7 → Answers (.estTrustAgree dt) s (untouched a)) ∧
    (a.est.row ≠ 8 → Answers (.estShadowAgree dt) s (untouched a))

/-- R75, R78, R79, R86, R98, R469: a window without a result takes the measurements and says so; a calibration round that is due, and within
its deadline of 1 ms, consumes the windows, counts an update in Trusted, and changes nothing where calibration is off or no rail has ten
usable windows; a clamp that has acted on 100 consecutive updates is reported once; RETRY clears the latch; CAL_RESET waits for the next
round. -/
def Obligations.EstimatesAreSubstitutedAndCalibrated : Prop :=
  ∀ (dt : Nat) (s a : State), a = advance dt s →
    (80 ≤ a.time.ticks % 100 → a.est.owed = true → Answers (.estWindowSubstituted dt) s (fun t => t.est.owed = false ∧ t.est.results = 0 ∧
      getB t EST.CAL_STATUS.SUBST = true ∧ (∀ k < 4, getB t (EST.RAIL_I.SUBST k) = true ∧
        getB t (EST.RAIL_I.STALE k) = a.sns.stale ∧ getF t (EST.RAIL_I.CURRENT k) = ux 20 (getS a (SNS.RAIL_I_1US.CURRENT k))))) ∧
    (a.est.owed = false ∨ a.time.ticks % 100 < 80 → Answers (.estWindowSubstituted dt) s (untouched a)) ∧
    (∀ t0, a.est.calDue = some t0 → a.time.ticks ≤ t0 + ms 1 →
      (getB a EST.CTRL.CAL_EN = false ∨ 2 ≤ trustSt a → Answers (.calRound dt) s (fun t =>
        t.est = { a.est with calDue := none, calWins := [] } ∧ waitingSame a t ∧ fieldsBut [] a t)) ∧
      (getB a EST.CTRL.CAL_EN = true → trustSt a = 0 → Answers (.calRound dt) s (fun t => t.est.calDue = none ∧ t.est.calWins = [] ∧
        getF t EST.CAL_STATUS.UPDATES = (getF a EST.CAL_STATUS.UPDATES + 1) % 2 ^ EST.CAL_STATUS.UPDATES.w ∧
        ((∀ k < 4, (a.est.calWins.filter (fun w => bit w.ok k)).length < 10) → waitingSame a t ∧ t.inbox = a.inbox ∧
          fieldsBut [EST.CAL_STATUS.UPDATES] a t))) ∧
      (getB a EST.CTRL.CAL_EN = true → trustSt a = 1 → Answers (.calRound dt) s (fun t => t.est.calDue = none ∧ t.est.calWins = [] ∧
        waitingSame a t ∧ getF t EST.CAL_STATUS.UPDATES = getF a EST.CAL_STATUS.UPDATES))) ∧
    (a.est.calDue = none → Answers (.calRound dt) s (untouched a)) ∧
    (∀ t0, a.est.calDue = some t0 → t0 + ms 1 < a.time.ticks → Answers (.calRound dt) s (untouched a)) ∧
    (∀ k < 4, 100 ≤ aGet 0 a.est.clampRun k → a.est.clampSent.contains k = false → roomMsg a → Answers (.estCalClamp dt k) s (fun t =>
      k ∈ t.est.clampSent ∧ messageWaits 0x24 (0x220 + k) (aGet 0 a.est.clampGain k) t ∧ waitingSame a t ∧ fieldsBut [] a t)) ∧
    (∀ k < 4, aGet 0 a.est.clampRun k < 100 ∨ a.est.clampSent.contains k = true → Answers (.estCalClamp dt k) s (untouched a)) ∧
    (∀ agent : Byte, mayWrite a agent.toNat 0x2000C = true →
      Answers (.estRetry dt agent) s (fun t => getB t EST.TRUST_STATUS.MISMATCH_LATCH = false ∧ unitsSame a t ∧ waitingSame a t ∧
        fieldsBut [EST.TRUST_STATUS.MISMATCH_LATCH] a t) ∧
      Answers (.estCalReset dt agent) s (fun t => t.est = { a.est with calReset := true } ∧ fieldsBut [] a t ∧ waitingSame a t))

/-! ### The predictor engine -/

/-- R98, R101, R105, R106, R133: the region estimates of a 100 µs close, and each multiple of USER_PERIOD, trigger slots 1 and 3 once: an idle
running slot begins a run where the engine runs; a run that reaches END in time publishes its output area, its
flags and its count; one past its deadline, or one that meets an uncorrectable word, ends without a result and leaves the fallback; writing
one to VALID frees the capture. -/
def Obligations.PredictorRunsPublishOrFallBack : Prop :=
  ∀ (dt : Nat) (s a : State), a = advance dt s →
    (a.pxe.due1 = true → Answers (.pxeSlot1Trigger dt) s (fun t => waitingSame a t ∧ fieldsBut [] a t ∧
      t.pxe = { a.pxe with due1 := false, run := (if slotSt a 1 = 2 ∧ engineOn a = true ∧ aFind a.pxe.run 1 = none
        then aIns a.pxe.run 1 a.time.ticks else a.pxe.run) })) ∧
    (a.pxe.due1 = false → Answers (.pxeSlot1Trigger dt) s (untouched a)) ∧
    (a.time.ticks % slotDeadline a 3 = 0 → a.time.ticks / us 100 ≠ a.pxe.per3 → Answers (.pxeSlot3Trigger dt) s (fun t =>
      waitingSame a t ∧ fieldsBut [] a t ∧ t.pxe = { a.pxe with per3 := a.time.ticks / us 100, run :=
        (if slotSt a 3 = 2 ∧ engineOn a = true ∧ aFind a.pxe.run 3 = none then aIns a.pxe.run 3 a.time.ticks else a.pxe.run) })) ∧
    (a.time.ticks % slotDeadline a 3 ≠ 0 ∨ a.time.ticks / us 100 = a.pxe.per3 → Answers (.pxeSlot3Trigger dt) s (untouched a)) ∧
    (∀ k < 4, ∀ t0, aFind a.pxe.run k = some t0 →
      (∀ n, a.time.ticks ≤ t0 + slotDeadline a k → (∀ w ∈ (runProg a k 1024).bad, aGet 0 a.pxe.ecc w < 2) →
        Answers (.pxePublish dt k n) s (fun t => aFind t.pxe.run k = none ∧
          (∀ i < 256, getF t (PXE.OUT.VALUE k i) = memLE (runProg a k 1024).mem (outArea k + 4 * i) 4) ∧
          getF t (PXE.RUN_FLAGS.FLAGS k) = (runProg a k 1024).flags % 512 ∧
          getF t (PXE.SLOT_STATUS.RUNS k) = (getF a (PXE.SLOT_STATUS.RUNS k) + 1) % 65536)) ∧
      (∀ n, t0 + slotDeadline a k < a.time.ticks → Answers (.pxePublish dt k n) s (untouched a)) ∧
      (∀ d < 1024, t0 + slotDeadline a k ≤ a.time.ticks → Answers (.pxeOverrun dt k d) s (fun t => aFind t.pxe.run k = none ∧
        getB t (PXE.SLOT_STATUS.OVERRUN k) = true ∧ getB t (PXE.SLOT_STATUS.FALLBACK k) = true ∧
        getF t (PXE.SLOT_STATUS.RUNS k) = getF a (PXE.SLOT_STATUS.RUNS k))) ∧
      (∀ d < 1024, a.time.ticks < t0 + slotDeadline a k → Answers (.pxeOverrun dt k d) s (untouched a)) ∧
      (∀ addr < 2097152, ∀ d < 1024, Answers (.pxeMemUncorrectable dt k addr d) s (fun t => aFind t.pxe.run k = none ∧
        getB t PXE.MEM_STATUS.UNCORR = true ∧ getB t (PXE.SLOT_STATUS.FALLBACK k) = true ∧
        ∀ j < 4, slotBase j ≤ addr → addr < slotEnd j → slotSt t j = 3))) ∧
    (∀ k < 4, aFind a.pxe.run k = none → (∀ n, Answers (.pxePublish dt k n) s (untouched a)) ∧
      (∀ d < 1024, Answers (.pxeOverrun dt k d) s (untouched a)) ∧ ∀ addr < 2097152, ∀ d < 1024, Answers (.pxeMemUncorrectable dt k addr d) s (untouched a)) ∧
    (∀ (agent : Byte) (k : Nat), k < 4 → mayWrite a agent.toNat (0x30140 + 32 * k) = true → Answers (.pxeCapRelease dt agent k) s (fun t =>
      getB t (PXE.CAP_INFO.VALID k) = false ∧ getF t (PXE.CAP_COUNT.COUNT k) = 0 ∧ unitsSame a t ∧
      fieldsBut [PXE.CAP_INFO.VALID k, PXE.CAP_COUNT.COUNT k] a t))

/-! ### The plan and the step hold -/

/-- R152, R153, R155, R156, R162, R163: the feed-forward schedule of a running plan is computed once for the next step, from a window whose
entries have been read; an add raises its rail's floor and target, a lift begins to rise, each at its time; a lift that the trust state
withholds is passed over, and breaks repeatable mode. (That every schedule reads its whole window is log entry 34.) -/
def Obligations.FeedForwardActionsExecute : Prop :=
  ∀ (dt : Nat) (s a : State), a = advance dt s →
    (∀ b : State, b = windowRead a → planState a = planRunning → a.psq.next = none →
      ((∀ x ∈ planWindow a, ∀ h, halfOf a x.1 = some h → aGet 0 a.psq.ecc (entryIndex a h x.1) = 0) → b = a) ∧
      (planState b = planRunning → Answers (.ffScheduleComputed dt) s (fun t => t.psq = { b.psq with next := some (schedule b) } ∧
        t.time = b.time ∧ t.inbox = b.inbox ∧ drivingSame b t ∧ managingSame b t ∧ waitingSame b t ∧ fieldsBut [] b t)) ∧
      (planState b ≠ planRunning → Answers (.ffScheduleComputed dt) s (untouched b))) ∧
    (planState a ≠ planRunning ∨ a.psq.next ≠ none → Answers (.ffScheduleComputed dt) s (untouched a)) ∧
    (∀ k < 3, ∀ x rest, planState a = planRunning → getB a PSQ.CTRL.PREPOS_EN = true →
      takeAct a (fun y => y.kind == 0 && y.rail == k) = some (x, rest) → Answers (.ffAddAction dt k) s (fun t =>
        t.psq = { a.psq with sched := rest, floor := aPut 0 a.psq.floor k (max (aGet 0 a.psq.floor k) x.amount) } ∧
        (railRuns a k = true → railSt a k ≠ rsStop → x.amount ≤ availOf a k → x.amount ≤ (railRec t k).target))) ∧
    (∀ k < 3, takeAct a (fun y => y.kind == 0 && y.rail == k) = none → Answers (.ffAddAction dt k) s (untouched a)) ∧
    (∀ x rest, planState a = planRunning → getB a PSQ.CTRL.PRELIFT_EN = true → preliftOk a = true →
      takeAct a (fun y => y.kind == 1) = some (x, rest) → Answers (.ffLiftAction dt) s (fun t =>
        t.psq = { a.psq with sched := rest, lifts := a.psq.lifts ++ [⟨x.amount, 0, x.target, x.lead, false, a.time.ticks, 0⟩] } ∧
        drivingSame a t ∧ managingSame a t ∧ fieldsBut [] a t)) ∧
    (∀ x rest, planState a = planRunning → getB a PSQ.CTRL.PRELIFT_EN = true → preliftOk a = false →
      takeAct a (fun y => y.kind == 1) = some (x, rest) → Answers (.ffLiftAction dt) s (fun t => t.psq = { a.psq with sched := rest } ∧
        drivingSame a t ∧ managingSame a t ∧ fieldsBut [PSQ.STATUS.REPEAT_BROKEN, EVR.COUNTS.DROPPED] a t ∧
        (getB a PSQ.CTRL.REPEATABLE = true → getB t PSQ.STATUS.REPEAT_BROKEN = true ∧ (roomRec a → eventWaits 0x040C t)))) ∧
    (takeAct a (fun y => y.kind == 1) = none → Answers (.ffLiftAction dt) s (untouched a))

/-- R175 to R178, R182: on the 250 ns grid the guard asks for a hold of whole quanta where the projection passes the reserve, and sends a
late hold, once, where none is possible and the lateness has passed it; a launch move of the next boundary to a time that is not earlier is
taken, any other rejected; without a job it only publishes. -/
def Obligations.HoldsAreRequestedInTime : Prop :=
  ∀ (dt : Nat) (s a : State), a = advance dt s →
    (∀ (h : List (Nat × Assoc Nat)) (b : State), h = (a.time.sys, regions64.foldl (fun m r => aPut 0 m r (lateOf a r)) []) ::
        a.drg.hist.filter (fun e => decide (a.time.sys ≤ e.1 + 64000)) → b = { a with drg := { a.drg with hist := h } } →
      a.time.ticks % 25 = 0 →
      (jobOn a = false ∨ localOn a = true → Answers (.drgEvaluate dt) s (fun t => t.drg = b.drg ∧ t.inbox = a.inbox ∧
        getF t DRG.PROJ.PROJ = min (projection b).toNat (2 ^ 32 - 1) ∧
        fieldsBut [DRG.PROJ.PROJ, DRG.RESERVE_EFF.RESERVE, DRG.DEADLINE_LO.TIME, DRG.DEADLINE_HI.TIME, DRG.STATUS.PAST_DEADLINE] a t)) ∧
      (jobOn a = true → localOn a = false → a.drg.duty = [] → holdPossible b = true →
        ((reserveEff b : Int) < projection b + (1000 * getF a DRG.HOLD_CTRL.HOLD_MARGIN : Nat) →
          let q := 100 * getC a DRG.HOLD_CTRL.HOLD_QUANTUM 1 255
          let ext := cdiv (projection b + (1000 * getF a DRG.HOLD_CTRL.HOLD_MARGIN : Nat) - reserveEff b).toNat (1000 * q) * q
          Answers (.drgEvaluate dt) s (fun t => t.drg.pendExt = a.drg.pendExt + ext ∧
            getF t DRG.STATUS.HOLDS = getF a DRG.STATUS.HOLDS + 1 ∧ getB t DRG.STATUS.HOLD_PENDING = true ∧
            t.drg.sent.head? = some (stepHoldMsg false 1 a.time.step ext (getF a DRG.STATUS.HOLDS + 1)) ∧
            (roomRec a → eventWaits 0x0501 t))) ∧
        (projection b + (1000 * getF a DRG.HOLD_CTRL.HOLD_MARGIN : Nat) ≤ (reserveEff b : Int) → Answers (.drgEvaluate dt) s (fun t => t.drg = b.drg ∧
          getF t DRG.STATUS.HOLDS = getF a DRG.STATUS.HOLDS ∧ getF t DRG.PROJ.PROJ = min (projection b).toNat (2 ^ 32 - 1)))) ∧
      (jobOn a = true → localOn a = false → a.drg.duty = [] → holdPossible b = false → reserveEff b < chipLate b → a.drg.lateHold = false →
        roomMsg a → Answers (.drgEvaluate dt) s (fun t => t.drg.lateHold = true ∧ getB t DRG.STATUS.MISS = true ∧
          getB t DRG.STATUS.LATE_STEP = true ∧ messageWaits 0x50 0x500 (a.time.step % 2 ^ 32) t ∧
          t.drg.sent.head? = some (stepHoldMsg true 1 a.time.step ((chipLate b - reserveEff b) / 1000) (getF a DRG.STATUS.HOLDS))))) ∧
    (a.time.ticks % 25 ≠ 0 → Answers (.drgEvaluate dt) s (untouched a)) ∧
    (∀ step time t0, step < 2 ^ 48 → time < 2 ^ 64 → a.time.nextB = some t0 → step = a.time.step + 1 → t0 ≤ time →
      Answers (.launchMove dt step time) s (fun t => t.time = { a.time with nextB := some time } ∧ t.drg = { a.drg with pendExt := 0 } ∧
        getB t DRG.STATUS.HOLD_PENDING = false ∧ (roomRec a → eventWaits 0x0502 t) ∧ (time = t0 → t.psq = a.psq))) ∧
    (∀ step time, step < 2 ^ 48 → time < 2 ^ 64 → (∀ t0, a.time.nextB = some t0 → step ≠ a.time.step + 1 ∨ time < t0) → roomMsg a →
      Answers (.launchMove dt step time) s (fun t => t.time = a.time ∧ unitsSame a t ∧ getB t DRG.STATUS.MOVE_REJECT = true ∧
        messageWaits 0x53 0x502 (step % 2 ^ 32) t ∧ fieldsBut [DRG.STATUS.MOVE_REJECT] a t))

/-! ### Phases and regulation -/

/-- R193, R195, R196, R198, R200, R201: the select pins are latched on the 250 ns grid, after four samples; a ramp that has reached its target ends, and VCORE's rate ceiling rises
with it; diode emulation begins after its dwell; a phase that has ramped for 8 µs regulates, stands by or is retired; the inhibit ends. -/
def Obligations.PhasesRampAndSettle : Prop :=
  ∀ (dt : Nat) (s a : State), a = advance dt s →
    (∀ v < 16, a.time.ticks % 25 = 0 → a.phc.vselFrom ≤ a.time.ticks → Answers (.vselLatch dt v) s (fun t => getF t PHC.VSEL.PINS = v ∧
      t.phc = { a.phc with vselFrom := a.time.ticks + 100 } ∧ sensingSame a t ∧ managingSame a t ∧ waitingSame a t ∧
      fieldsBut [PHC.VSEL.PINS] a t)) ∧
    (∀ v < 16, a.time.ticks % 25 ≠ 0 ∨ a.time.ticks < a.phc.vselFrom → Answers (.vselLatch dt v) s (untouched a)) ∧
    (∀ k < 4, (railRec a k).ramping = true → (railRec a k).ref = (railRec a k).tgt → railSt a k = rsOn →
      Answers (.setpointRampDone dt k) s (fun t => railRec t k = { railRec a k with ramping := false } ∧
        t.phc.fmax = (if k = 0 then spF a (getF a (PHC.RAIL_STATUS.SEL 0)) else a.phc.fmax) ∧ fieldsBut [LGV.OPP.RATE] a t)) ∧
    (∀ k < 4, pastSoft a k = true → bit (getF a PHC.DE_CTRL.DE_EN) k = true → inDe a k = false →
      40 * getC a PHC.DE_CTRL.DE_DWELL 1 255 ≤ (railRec a k).deRun → ¬ (k = 0 ∧ a.phc.burst ≠ none) →
      Answers (.deEnter dt k) s (fun t => inDe t k = true ∧ unitsSame a t ∧ fieldsBut [PHC.RAIL_STATUS.DE k] a t)) ∧
    (∀ k < 4, (railRec a k).deRun < 40 * getC a PHC.DE_CTRL.DE_DWELL 1 255 → Answers (.deEnter dt k) s (untouched a)) ∧
    (∀ n < 98, ∀ t0, phaseSt a n = .rampIn t0 →
      (t0 + us 8 ≤ a.time.ticks → Answers (.phaseRampInDone dt n) s (fun t => phaseSt t n = .regulating ∧ fieldsBut [] a t ∧
        ∀ m, m ≠ n → phaseSt t m = phaseSt a m)) ∧
      (a.time.ticks < t0 + us 8 → Answers (.phaseRampInDone dt n) s (untouched a))) ∧
    (∀ n < 98, ∀ t0 c, phaseSt a n = .rampOut t0 c →
      (t0 + us 8 ≤ a.time.ticks → Answers (.phaseRampOutDone dt n) s (fun t => phaseSt t n = (if c = 0 then .standby else .retired) ∧
        fieldsBut [] a t ∧ ∀ m, m ≠ n → phaseSt t m = phaseSt a m)) ∧
      (a.time.ticks < t0 + us 8 → Answers (.phaseRampOutDone dt n) s (untouched a))) ∧
    (∀ k < 4, getB a (PHC.RAIL_STATUS.SHED_INH k) = true → (railRec a k).inhUntil ≤ a.time.ticks → Answers (.shedInhEnd dt k) s (fun t =>
      getB t (PHC.RAIL_STATUS.SHED_INH k) = false ∧ unitsSame a t ∧ fieldsBut [PHC.RAIL_STATUS.SHED_INH k] a t)) ∧
    (∀ k < 4, a.time.ticks < (railRec a k).inhUntil → Answers (.shedInhEnd dt k) s (untouched a))

/-- R201 to R205: a burst begins where an included point of VCORE lies deeper than BURST_DEPTH below the reference, or falls faster than
BURST_SLEW, and only when VCORE is past soft start, none is in progress and the rearm has ended; it leaves diode emulation and aborts the
sheds of every rail; it ends when the included points are above the exit level and none falls too fast, or at BURST_MAX, and rearms; a
tripped phase is driven low, and each of its periods, and each burst, in which the limit acted counts once. -/
def Obligations.BurstsAndPhaseLimits : Prop :=
  ∀ (dt : Nat) (s a : State), a = advance dt s →
    (∀ p : VcorePoints, (Instr.allPhaseBurst dt p).wf = true → (tooDeep a p = true ∨ tooFast a p = true) →
      pastSoft a 0 = true → a.phc.burst = none → a.phc.rearm = 0 →
      Answers (.allPhaseBurst dt p) s (fun t => t.phc.burst = some a.time.ticks ∧
        getF t PHC.BURST_STATUS.LAST_CAUSE = b2n (tooDeep a p) + 2 * b2n (tooFast a p) ∧
        getF t PHC.BURST_STATUS.COUNT = min (getF a PHC.BURST_STATUS.COUNT + 1) 65535 ∧ inDe t 0 = false ∧
        ∀ j < 4, pastSoft a j = true → shedding t j = [] ∧
          (shedding a j ≠ [] → getB t (PHC.RAIL_STATUS.SHED_INH j) = true ∧ (railRec t j).inhUntil = a.time.ticks + ms 1))) ∧
    (∀ p : VcorePoints, (Instr.allPhaseBurst dt p).wf = true →
      (tooDeep a p = false ∧ tooFast a p = false) ∨ pastSoft a 0 = false ∨ a.phc.burst ≠ none ∨ a.phc.rearm ≠ 0 →
      Answers (.allPhaseBurst dt p) s (untouched a)) ∧
    (∀ (p : VcorePoints) (t0 : Nat), (Instr.burstEnd dt p).wf = true → a.phc.burst = some t0 →
      recovered a p = true ∨ t0 + getC a PHC.BURST_CTRL.BURST_MAX 5 20 ≤ a.time.ticks →
      Answers (.burstEnd dt p) s (fun t => t.phc.burst = none ∧ t.phc.ocBurst = [] ∧
        t.phc.rearm = a.time.ticks + 10 * getC a PHC.PROT_CTRL.BURST_REARM 2 255 ∧
        getF t PHC.BURST_STATUS.LONGEST = min (max (getF a PHC.BURST_STATUS.LONGEST) (a.time.ticks - t0)) 255 ∧
        (railRec t 0).e1 = (regRef a 0 : Int) - senseNv a 0 ∧ (railRec t 0).e2 = (railRec t 0).e1)) ∧
    (∀ (p : VcorePoints) (t0 : Nat), (Instr.burstEnd dt p).wf = true → a.phc.burst = some t0 → recovered a p = false →
      a.time.ticks < t0 + getC a PHC.BURST_CTRL.BURST_MAX 5 20 → Answers (.burstEnd dt p) s (untouched a)) ∧
    (∀ p : VcorePoints, (Instr.burstEnd dt p).wf = true → a.phc.burst = none →
      Answers (.burstEnd dt p) s (untouched a)) ∧
    (a.phc.rearm ≠ 0 → a.phc.rearm ≤ a.time.ticks → Answers (.burstRearmEnd dt) s (fun t => t.phc = { a.phc with rearm := 0 } ∧
      fieldsBut [] a t)) ∧
    (a.time.ticks < a.phc.rearm → Answers (.burstRearmEnd dt) s (untouched a)) ∧
    (∀ n < 98, a.phc.ocTrip.contains n = false → Answers (.phaseOcTrip dt n) s (fun t => n ∈ t.phc.ocTrip ∧
      (phEn a n = true → pwmDrive t n = .low) ∧ fieldsBut [PHC.OC_COUNT.COUNT n] a t ∧
      getF t (PHC.OC_COUNT.COUNT n) =
        (if (inBurst a n = true ∧ a.phc.ocBurst.contains n = false) ∨ (inBurst a n = false ∧ (pulseOf a n).any (fun p => !p.lim) = true)
         then min (getF a (PHC.OC_COUNT.COUNT n) + 1) 65535 else getF a (PHC.OC_COUNT.COUNT n)))) ∧
    (∀ n < 98, a.phc.ocTrip.contains n = true → Answers (.phaseOcTrip dt n) s (untouched a)) ∧
    (∀ n < 98, Answers (.phaseOcRelease dt n) s (fun t => n ∉ t.phc.ocTrip ∧ (∀ m, m ≠ n → (m ∈ t.phc.ocTrip ↔ m ∈ a.phc.ocTrip)) ∧
      fieldsBut [] a t))

/-- R207, R209, R211, R445: PH_FAULT retires a driven phase at once; a hot or unbalanced one is retired at the boundary and asked once; ones
written over retired phases return them at the boundary. -/
def Obligations.PhasesAreRetiredAndRestored : Prop :=
  ∀ (dt : Nat) (s a : State), a = advance dt s →
    (∀ n < 98, phaseSt a n ≠ .off → phaseSt a n ≠ .retired → roomMsg a → Answers (.phaseFault dt n) s (fun t =>
      messageWaits 0x60 (0x600 + n) (railOf n) t ∧ phaseSt t n = .retired ∧ isRetired t n = true ∧ bit t.phc.phFault n = true)) ∧
    (∀ n < 98, phaseSt a n = .off ∨ phaseSt a n = .retired → Answers (.phaseFault dt n) s (fun t =>
      t.phc = { a.phc with phFault := (setBit a.phc.phFault n) } ∧ t.inbox = a.inbox ∧ fieldsBut [] a t)) ∧
    (let asked := fun (n : Nat) => a.acts.any (fun x => match x.kind with | .retire m _ => m == n | _ => false)
    (∀ n < 98, getC a PHC.RETIRE_CTRL.HOT_ROUNDS 1 255 ≤ aGet 0 a.phc.hotRun n → isRetired a n = false → asked n = false → roomMsg a →
      Answers (.phaseHot dt n) s (fun t => messageWaits 0x61 (0x600 + n) (ux 32 (getS a (HKS.CH.VALUE (0x300 + n)))) t ∧
        t.acts = a.acts ++ [⟨.retire n 3, false, none, 0⟩] ∧ unitsSame a t ∧ fieldsBut [] a t)) ∧
    (∀ n < 98, 100 ≤ aGet 0 a.phc.imbRun n → isRetired a n = false → asked n = false → roomMsg a →
      Answers (.phaseImbalance dt n) s (fun t => messageWaits 0x62 (0x600 + n) (ux 32 (aGet 0 a.phc.imbDep n)) t ∧
        t.acts = a.acts ++ [⟨.retire n 4, false, none, 0⟩] ∧ unitsSame a t ∧ fieldsBut [] a t)) ∧
    (∀ n < 98, isRetired a n = true ∨ asked n = true → Answers (.phaseHot dt n) s (untouched a) ∧
      Answers (.phaseImbalance dt n) s (untouched a))) ∧
    (∀ (agent : Byte) (w : Nat) (v : Word), w < 4 → mayWrite a agent.toNat (0x60080 + 4 * w) = true →
      Answers (.phcRetiredWrite dt agent w v) s (fun t => fieldsBut [] a t ∧ unitsSame a t ∧
        t.acts = a.acts ++ ((List.range 32).filter (fun b => bit v.toNat b && decide (32 * w + b < 98) && isRetired a (32 * w + b))).map
          (fun b => ⟨.restore (32 * w + b), false, none, 0⟩)))

/-! ### Rail start and stop -/

/-- R215, R216, R217: a start waits for its boundary, and is refused with a latched rail, while a sequence runs or after a trip; rails wait
once the bus has settled and the first of the order is probed; a bus that does not settle in 20 ms ends the start; the next slot follows. -/
def Obligations.StartsWaitForTheBus : Prop :=
  ∀ (dt : Nat) (s a : State), a = advance dt s →
    (∀ agent : Byte, mayWrite a agent.toNat 0x60408 = true →
      (getF a PHC.LATCH.LATCHED ≠ 0 ∨ seqState a ≠ sqIdle ∨ getB a TMG.TRIP.TRIPPED = true → Answers (.seqStart dt agent) s (fun t =>
        getB t PHC.SEQ_STATUS.START_REFUSED = true ∧ waitingSame a t ∧ unitsSame a t ∧ fieldsBut [PHC.SEQ_STATUS.START_REFUSED] a t)) ∧
      (getF a PHC.LATCH.LATCHED = 0 → seqState a = sqIdle → getB a TMG.TRIP.TRIPPED = false → Answers (.seqStart dt agent) s (fun t =>
        t.acts = a.acts ++ [⟨.seqStart, false, none, 0⟩] ∧ unitsSame a t ∧ fieldsBut [] a t)) ∧
      (seqState a = sqStarting ∨ seqState a = sqUp → Answers (.seqStop dt agent) s (fun t =>
        t.acts = a.acts ++ [⟨.seqStop, false, none, 0⟩] ∧ unitsSame a t ∧ fieldsBut [] a t)) ∧
      (seqState a ≠ sqStarting → seqState a ≠ sqUp → Answers (.seqStop dt agent) s (untouched a))) ∧
    (∀ t0, a.phc.goodAt = some t0 → busWait a = true →
      (t0 + 1000 * getC a PHC.START_CTRL.BUS_SETTLE 10 255 ≤ a.time.ticks → leaderOf a (orderAt a 0) = none →
        Answers (.busSettleDone dt) s (fun t => seqState t = sqStarting ∧ railSt t (orderAt a 0) = rsProbe ∧
          ∀ j < 4, j ≠ orderAt a 0 → leaderOf a j ≠ some (orderAt a 0) → railSt t j = rsWait)) ∧
      (a.time.ticks < t0 + 1000 * getC a PHC.START_CTRL.BUS_SETTLE 10 255 → Answers (.busSettleDone dt) s (untouched a))) ∧
    (busWait a = true → a.phc.busEnAt + ms 20 ≤ a.time.ticks → roomMsg a → Answers (.busStartFail dt) s (fun t => seqState t = sqIdle ∧
      getB t PHC.SEQ_STATUS.BUS_EN = false ∧
      messageWaits 0x6A 0x694 (getF a SNS.BUS_V.VOLTAGE + if a.phc.pwrFailN = true then 2 ^ 31 else 0) t ∧ unitsSame a t ∧
      fieldsBut [PHC.SEQ_STATUS.SEQ_STATE, PHC.SEQ_STATUS.BUS_EN] a t)) ∧
    (busWait a = false → Answers (.busSettleDone dt) s (untouched a) ∧ Answers (.busStartFail dt) s (untouched a)) ∧
    (starting a = true → (∀ k < 4, railSt a k ≠ rsProbe ∧ railSt a k ≠ rsSoft) → a.phc.due ≤ a.time.ticks →
      ∀ p < 4, railSt a (orderAt a p) = rsWait → leaderOf a (orderAt a p) = none → (∀ q < p, railSt a (orderAt a q) ≠ rsWait) →
      Answers (.seqSlotStart dt) s (fun t => railSt t (orderAt a p) = rsProbe ∧ ∀ j < 4, railSt a j ≠ rsWait → railSt t j = railSt a j)) ∧
    (starting a = false ∨ a.time.ticks < a.phc.due → Answers (.seqSlotStart dt) s (untouched a))

/-- R219 to R221, R224, R225: a probed rail soft-starts from its start point, in diode emulation, to the voltage of its select; held at the
target it is ON, and the start is done when every rail is; each start-up fault latches its rail with its cause and stops the others. -/
def Obligations.RailsStartOrLatch : Prop :=
  ∀ (dt : Nat) (s a : State), a = advance dt s → ∀ k < 4,
    let latched := fun (kind cause info : Nat) (t : State) => railSt t k = rsLatch ∧ bit (getF t PHC.LATCH.LATCHED) k = true ∧
      getF t (PHC.RAIL_SEQ.CAUSE k) = cause ∧ messageWaits kind (0x690 + k) info t ∧ (seqState t = sqFaultStop ∨ seqState t = sqIdle)
    (railSt a k = rsProbe → 40 ≤ (railRec a k).prN → seqState a ≠ sqQuickStop →
      (startPoint a k ≤ selNv a k + ovNv a → Answers (.railProbeDone dt k) s (fun t => railSt t k = rsSoft ∧ inDe t k = true ∧
        getF t (PHC.RAIL_SEQ.START_V k) = startPoint a k / 500000 % 4096 ∧ (railRec t k).tgt = selNv a k ∧ (railRec t k).ramping = true ∧
        (railRec t k).case2 = decide (selNv a k + pgWinNv a < startPoint a k) ∧
        (selNv a k + pgWinNv a < startPoint a k → (railRec t k).ref = selNv a k) ∧
        (startPoint a k ≤ selNv a k + pgWinNv a → leaderOf a k = none → (railRec t k).ref =
          (if 1000000 * getC a PHC.START_CTRL.PREBIAS_MIN 20 200 ≤ startPoint a k then startPoint a k else 0)) ∧
        ∀ n ∈ (serviceOrder a k).take (startPh a k), phaseSt t n = (if bit a.phc.phFault n = true then .retired else .regulating))) ∧
      (selNv a k + ovNv a < startPoint a k → roomMsg a →
        Answers (.railProbeDone dt k) s (latched 0x67 3 (startPoint a k / 500000)))) ∧
    (railSt a k ≠ rsProbe ∨ (railRec a k).prN < 40 ∨ seqState a = sqQuickStop → Answers (.railProbeDone dt k) s (untouched a)) ∧
    (railSt a k = rsSoft → (railRec a k).ref = (railRec a k).tgt → 40 ≤ (railRec a k).pgRun → Answers (.railPowerGood dt k) s (fun t =>
      railSt t k = rsOn ∧ t.phc.due = a.time.ticks + us (getC a PHC.SEQ_CTRL.SEQ_GAP 10 255) ∧ (railRec t k).ramping = false ∧
      ((∀ j < 4, j ≠ k → railSt a j = rsOn) → seqState a = sqStarting → a.phc.stop ≠ 5 → seqState t = sqUp ∧
        (roomRec a → eventWaits 0x0604 t)))) ∧
    (railSt a k ≠ rsSoft ∨ (railRec a k).pgRun < 40 → Answers (.railPowerGood dt k) s (untouched a)) ∧
    (faultsArmed a = true → roomMsg a →
      (∀ t0, (railRec a k).doneAt = some t0 → t0 + ms 1 ≤ a.time.ticks → railSt a k = rsSoft → (railRec a k).case2 = false →
        (railRec a k).ref = (railRec a k).tgt → (railRec a k).pgRun < 40 → Answers (.railPgTimeout dt k) s (latched 0x69 5 (senseHalf a k))) ∧
      (railSt a k = rsSoft → (railRec a k).case2 = true → (railRec a k).prAt + ms 10 ≤ a.time.ticks →
        Answers (.railPrebiasHigh dt k) s (latched 0x67 3 (startPoint a k / 500000))) ∧
      (railSt a k = rsSoft → 80 ≤ (railRec a k).lagRun → limitedFor a k 20000 = true →
        Answers (.railShortStart dt k) s (latched 0x65 1 (lagHalf a k))) ∧
      (railSt a k = rsSoft → 400 ≤ (railRec a k).lagRun → Answers (.railStartStall dt k) s (latched 0x66 2 (lagHalf a k))) ∧
      (railSt a k = rsSoft ∨ railSt a k = rsOn ∨ railSt a k = rsStop → 4 ≤ (railRec a k).ovRun →
        Answers (.railOv dt k) s (latched 0x68 4 (senseHalf a k)))) ∧
    (faultsArmed a = false → Answers (.railPgTimeout dt k) s (untouched a) ∧ Answers (.railPrebiasHigh dt k) s (untouched a) ∧
      Answers (.railShortStart dt k) s (untouched a) ∧ Answers (.railStartStall dt k) s (untouched a) ∧ Answers (.railOv dt k) s (untouched a))

/-- R217, R218, R226, R304: a rail that has run down to 100 mV is OFF, and after the last the sequence is IDLE with BUS_EN low; a quick stop
takes the rails off by its own times; with VLINK off in Dormant system time is not valid; a fall of
PWR_FAIL_N takes the rails off one by one, 10 µs apart, in stop order; its rise starts again where AUTO_START allows; ones written over
latched rails make them OFF. -/
def Obligations.RailsStopInOrder : Prop :=
  ∀ (dt : Nat) (s a : State), a = advance dt s →
    let left := fun (k : Nat) => decide (railSt a k ≠ rsOff) && decide (railSt a k ≠ rsLatch)
    (∀ k < 4, railSt a k = rsStop → (railRec a k).ref ≤ 100000000 → seqState a ≠ sqQuickStop → Answers (.railStopDone dt k) s (fun t =>
      railSt t k = rsOff ∧ (k = 2 → a.phc.stop = 4 → getB t GLB.BOUNDARY_STATUS.SYSTIME_VALID = false) ∧
      ((∀ j < 4, j ≠ k → left j = false) → a.phc.stop ≠ 4 → seqState t = sqIdle ∧ getB t PHC.SEQ_STATUS.BUS_EN = false ∧
        (roomRec a → eventWaits 0x0605 t)))) ∧
    (∀ k < 4, railSt a k ≠ rsStop ∨ 100000000 < (railRec a k).ref ∨ (seqState a = sqQuickStop ∧ (k ≠ 2 ∨ a.phc.stop ≠ 4)) →
      Answers (.railStopDone dt k) s (untouched a)) ∧
    (a.phc.pwrFailN = true → Answers (.pwrFailNFall dt) s (fun t => t.phc.pwrFailN = false ∧ t.phc.goodAt = none ∧
      (∀ k l, (stopOrder a).filter left = k :: l → seqState a ≠ sqQuickStop → railSt t k = rsOff ∧
        (l = [] → seqState t = sqIdle ∧ getB t PHC.SEQ_STATUS.BUS_EN = false) ∧
        (l ≠ [] → seqState t = sqQuickStop ∧ t.phc.due = a.time.ticks + us 10)) ∧
      ((∀ k < 4, left k = false) → seqState a ≠ sqStopping → seqState a ≠ sqFaultStop → seqState t = seqState a))) ∧
    (a.phc.pwrFailN = false → Answers (.pwrFailNFall dt) s (untouched a)) ∧
    (∀ k l, seqState a = sqQuickStop → a.phc.due ≤ a.time.ticks → (stopOrder a).filter left = k :: l →
      Answers (.quickStopRailOff dt) s (fun t => railSt t k = rsOff ∧
        (l = [] → a.phc.restart = false → seqState t = sqIdle ∧ getB t PHC.SEQ_STATUS.BUS_EN = false) ∧
        (l = [] → a.phc.restart = true → a.phc.allLow = false → a.phc.resetN = true → a.phc.pwrFailN = true →
          getB a TMG.TRIP.TRIPPED = false → seqState t = sqStarting ∧ getB t PHC.SEQ_STATUS.BUS_EN = true) ∧
        (l ≠ [] → seqState t = sqQuickStop ∧ t.phc.due = a.time.ticks + us 10))) ∧
    (seqState a ≠ sqQuickStop ∨ a.time.ticks < a.phc.due → Answers (.quickStopRailOff dt) s (untouched a)) ∧
    (getB a PHC.SEQ_CTRL.AUTO_START = false → Answers (.pwrFailNRise dt) s (fun t => t.phc.pwrFailN = true ∧ fieldsBut [] a t)) ∧
    (getB a PHC.SEQ_CTRL.AUTO_START = true → a.phc.pwrFailN = false → getF a PHC.LATCH.LATCHED = 0 → a.phc.allLow = false →
      a.phc.resetN = true → Answers (.pwrFailNRise dt) s (fun t => t.phc.pwrFailN = true ∧
        (seqState a = sqIdle → getB a TMG.TRIP.TRIPPED = false → seqState t = sqStarting ∧ getB t PHC.SEQ_STATUS.BUS_EN = true ∧
          t.phc.busEnAt = a.time.ticks) ∧
        (seqState a = sqQuickStop → t.phc.restart = true ∧ seqState t = sqQuickStop))) ∧
    (∀ (agent : Byte) (v : Word), mayWrite a agent.toNat 0x60410 = true → Answers (.latchClear dt agent v) s (fun t => unitsSame a t ∧
      ∀ k < 4, (bit v.toNat k = true → railSt a k = rsLatch → railSt t k = rsOff ∧ bit (getF t PHC.LATCH.LATCHED) k = false) ∧
        (bit v.toNat k = false ∨ railSt a k ≠ rsLatch → railSt t k = railSt a k)))

/-! ### Limits and temperatures -/

/-- R234, R236, R237, R265, Table 11-1: an overload, or a rise of temperature, lowers its ceiling at once and the beat rate with it, and the
hold-off keeps the next lowering away; a rise lowers from the ceiling that the round's rate test found, and no rise that waits for the swap
passes it; an overload that lasts 100 µs at 0.60 GHz is reported once. -/
def Obligations.CeilingsFallAtOnce : Prop :=
  ∀ (dt : Nat) (s a : State), a = advance dt s →
    (∀ c < 14, condHolds a c = true → 60 < protCeil a → protCeil a ≤ 150 → aGet 0 a.lgv.holdOff c ≤ a.time.ticks →
      Answers (.protectiveLowering dt c) s (fun t => protCeil t = max 60 (protCeil a - getC a LGV.CTRL.PROT_STEP 1 30) ∧
        t.drg.rate ≤ protCeil t ∧ getB t LGV.STATUS.PROT_ACTIVE = true ∧ getF t LGV.COUNTS.PROT = min (getF a LGV.COUNTS.PROT + 1) 65535 ∧
        aGet 0 t.lgv.holdOff c = a.time.ticks + holdOffOf c ∧ t.lgv.lowered = true ∧
        (protCeil t = 60 → t.lgv.lowAt = some a.time.ticks) ∧ (a.lgv.lowered = false → roomRec a → eventWaits 0x0701 t))) ∧
    (∀ c < 14, condHolds a c = false ∨ protCeil a ≤ 60 ∨ a.time.ticks < aGet 0 a.lgv.holdOff c →
      Answers (.protectiveLowering dt c) s (untouched a)) ∧
    (∀ c < 14, ∀ t0, a.lgv.lowAt = some t0 → t0 + us 100 ≤ a.time.ticks → condHolds a c = true → protCeil a = 60 →
      a.lgv.unmet.contains c = false → roomMsg a → Answers (.limitUnmet dt c) s (fun t => c ∈ t.lgv.unmet ∧
        messageWaits 0x70 (if c < 12 then 0x700 + c / 3 else 0x704) (unmetInfo a c) t ∧ fieldsBut [] a t)) ∧
    (∀ c < 14, a.lgv.unmet.contains c = true → Answers (.limitUnmet dt c) s (untouched a)) ∧
    (∀ r < 64, a.tmg.rateDue = true → 2 ≤ aGet 0 a.tmg.riseRun r →
        (∀ e ∈ a.tmg.rise, 2 ≤ aGet 0 a.tmg.riseRun e.1 → e.2 ≤ aGet 0 a.tmg.rise r) → a.tmg.rateBase ≤ 150 →
        Answers (.thermalRise dt r) s (fun t =>
      thermCeil t = min (thermCeil a) (max 60 (a.tmg.rateBase - 10)) ∧ t.tmg.rateDue = false ∧
      (thermCeil t < thermCeil a → t.drg.rate ≤ thermCeil t ∧ getF t TMG.STATUS.CEIL_CAUSE = 3) ∧
      (∀ c, t.tmg.ceilNext = some c → c ≤ max 60 (a.tmg.rateBase - 10)) ∧
      (a.tmg.rateWas = false → roomMsg a → messageWaits 0x83 (0x840 + r) (ux 32 (aGet 0 a.tmg.rise r)) t))) ∧
    (∀ r < 64, a.tmg.rateDue = false ∨ aGet 0 a.tmg.riseRun r < 2 → Answers (.thermalRise dt r) s (untouched a))

/-- R230, R233, R244, R245, R247: at a 1 ms close the firmware, while it runs and the host is present, steps the duty by one, down after its rounds over the cap and up after its rounds
under it, and the duty in force waits for the boundary; at the lowest duty a cap that is still exceeded is unattainable; only the thermal
manager's firmware writes the thermal limit, which waits for the boundary. -/
def Obligations.DutyFollowsTheCap : Prop :=
  ∀ (dt : Nat) (s a : State), a = advance dt s →
    let rounds := max 1 (getF a LGV.DUTY_CTRL.UNMET_ROUNDS)
    let dmin := getC a LGV.DUTY_CTRL.DUTY_MIN 8 16
    let under := decide (a.lgv.pm * 100 < capPw a * relPct a * 4000)
    let up := getF a LGV.STATUS.CAP_STATE == 1 && overCap a
    (dutyRuns a = true → a.lgv.msDue = true →
      (getB a LGV.CTRL.DUTY_EN = false → Answers (.lgvDutyStep dt) s (fun t => t.lgv = { a.lgv with msDue := false } ∧ fieldsBut [] a t)) ∧
      (getB a LGV.CTRL.DUTY_EN = true → Answers (.lgvDutyStep dt) s (fun t => t.lgv.msDue = false ∧ fieldsBut [EVR.COUNTS.DROPPED] a t ∧
        (up = true → rounds ≤ a.lgv.runOver + 1 → dmin < a.lgv.duty → t.lgv.duty = a.lgv.duty - 1 ∧ t.lgv.runOver = 0 ∧
          (roomRec a → eventWaits 0x0703 t)) ∧
        (up = false → under = true → a.lgv.duty < 16 → rounds ≤ a.lgv.runUnder + 1 → t.lgv.duty = a.lgv.duty + 1 ∧ t.lgv.runUnder = 0 ∧
          (roomRec a → eventWaits 0x0703 t)) ∧
        (up = true → a.lgv.runOver + 1 < rounds → t.lgv.duty = a.lgv.duty ∧ t.lgv.runOver = a.lgv.runOver + 1) ∧
        (up = false → under = false → t.lgv.duty = a.lgv.duty ∧ t.lgv.runOver = 0 ∧ t.lgv.runUnder = 0)))) ∧
    (dutyRuns a = true → getF a LGV.STATUS.CAP_STATE ≠ 3 → a.lgv.duty ≤ dmin → rounds ≤ a.lgv.unattRun → overCap a = true → roomMsg a →
      Answers (.capUnattainable dt) s (fun t => getF t LGV.STATUS.CAP_STATE = 3 ∧
        messageWaits 0x71 0x710 (getF a LGV.EFF_CAP.EFF_CAP + 65536 * ((fdiv a.lgv.pm 128000000).toNat % 65536)) t ∧
        fieldsBut [LGV.STATUS.CAP_STATE, EVR.COUNTS.DROPPED] a t)) ∧
    (dutyRuns a = false ∨ a.lgv.msDue = false → Answers (.lgvDutyStep dt) s (untouched a)) ∧
    (dutyRuns a = false ∨ getF a LGV.STATUS.CAP_STATE = 3 ∨ dmin < a.lgv.duty ∨ a.lgv.unattRun < rounds ∨ overCap a = false →
      Answers (.capUnattainable dt) s (untouched a)) ∧
    (∀ v : Word, Answers (.thermLimWrite dt 0x41 v) s (fun t => aFind t.pend LGV.THERM_LIM.LIMIT.key = some ⟨v.toNat % 65536, 0, none, false⟩ ∧
      unitsSame a t ∧ fieldsBut [] a t)) ∧
    (∀ (agent : Byte) (v : Word), agent ≠ 0x41 → mayWrite a agent.toNat 0x70060 = true →
      Answers (.thermLimWrite dt agent v) s (untouched a))

/-- R257, R258, R267 to R269: a round of the thermal manager's firmware steps the level down at THROTTLE and up below it less HYST, the limit
follows at the boundary; a floor that lasts ten rounds is reported once; a deviating sensor is marked suspect from the next round, a third of
a region only reported; marks and their release wait for the next round. -/
def Obligations.ThermalRoundsStepAndJudge : Prop :=
  ∀ (dt : Nat) (s a : State), a = advance dt s →
    (compOn a 4 = true → a.tmg.fwDue = true → getF a TMG.STEP.LEVEL ≤ 200 → Answers (.tmgFwRound dt) s (fun t =>
      t.tmg.fwDue = false ∧ getB t TMG.STATUS.THROTTLE = decide (thThrottle a ≤ (decision a).1) ∧
      getF t TMG.STEP.LEVEL = (if thThrottle a ≤ (decision a).1 then
          max (getC a TMG.STEP_CTRL.FLOOR 40 200) (getF a TMG.STEP.LEVEL - max 1 (getF a TMG.STEP_CTRL.DOWN))
        else if (decision a).1 < thThrottle a - thHyst a then min 200 (getF a TMG.STEP.LEVEL + max 1 (getF a TMG.STEP_CTRL.UP))
        else getF a TMG.STEP.LEVEL) ∧
      t.tmg.lastLim = progLimit a 0 2 * getF t TMG.STEP.LEVEL / 200 ∧
      (t.tmg.lastLim ≠ a.tmg.lastLim → aFind t.pend LGV.THERM_LIM.LIMIT.key = some ⟨t.tmg.lastLim % 65536, 0, none, false⟩) ∧
      (t.tmg.lastLim = a.tmg.lastLim → t.pend = a.pend))) ∧
    (compOn a 4 = false ∨ a.tmg.fwDue = false → Answers (.tmgFwRound dt) s (untouched a)) ∧
    (compOn a 4 = true → 10 ≤ a.tmg.floorRun → a.tmg.floorSent = false → roomMsg a → Answers (.thermalFloor dt) s (fun t =>
      t.tmg = { a.tmg with floorSent := true } ∧ messageWaits 0x86 0x882 (ux 32 (getS a TMG.DECISION.TEMP)) t ∧ fieldsBut [] a t)) ∧
    (a.tmg.floorSent = true → Answers (.thermalFloor dt) s (untouched a)) ∧
    (∀ c < 512, compOn a 4 = true → getB a TMG.CTRL.XCHK_EN = true → isSuspect a c = false → a.tmg.maskNext.contains (c, true) = false →
      max 1 (getF a TMG.XCHK_CTRL.XCHK_ROUNDS) ≤ aGet 0 a.tmg.devRun c →
      (suspectsOf a (c / 8) < 2 → roomMsg a → Answers (.sensorSuspect dt c) s (fun t => fieldsBut [] a t ∧
        t.tmg.maskNext = a.tmg.maskNext ++ [(c, true)] ∧ messageWaits 0x84 0x880 (c + 65536 * min 255 (aGet 0 a.tmg.dev c)) t)) ∧
      (2 ≤ suspectsOf a (c / 8) → a.tmg.sensed.contains c = false → roomMsg a → Answers (.sensorSuspect dt c) s (fun t =>
        fieldsBut [] a t ∧ t.tmg = { a.tmg with sensed := insN c a.tmg.sensed } ∧
        messageWaits 0x84 0x880 (c + 65536 * min 255 (aGet 0 a.tmg.dev c) + 2 ^ 31) t)) ∧
      (2 ≤ suspectsOf a (c / 8) → a.tmg.sensed.contains c = true → Answers (.sensorSuspect dt c) s (untouched a))) ∧
    (∀ c < 512, compOn a 4 = false ∨ getB a TMG.CTRL.XCHK_EN = false ∨ isSuspect a c = true → Answers (.sensorSuspect dt c) s (untouched a)) ∧
    (∀ c < 512, compOn a 4 = true → getB a TMG.CTRL.XCHK_EN = true → isSuspect a c = true → max 1 (getF a TMG.XCHK_CTRL.XCHK_CLEAR) ≤ aGet 0 a.tmg.okRun c →
      a.tmg.maskNext.contains (c, false) = false → Answers (.tmgSensorTrusted dt c) s (fun t => t.tmg.maskNext = a.tmg.maskNext ++ [(c, false)] ∧
        aGet 0 t.tmg.okRun c = 0 ∧ (roomRec a → eventWaits 0x0803 t))) ∧
    (∀ c < 512, compOn a 4 = false ∨ getB a TMG.CTRL.XCHK_EN = false ∨ isSuspect a c = false →
      Answers (.tmgSensorTrusted dt c) s (untouched a)) ∧
    (∀ w < 16, ∀ v : Word,
      Answers (.suspectSetWrite dt 0x41 w v) s (fun t => fieldsBut [] a t ∧
        t.tmg.maskNext = a.tmg.maskNext ++ ((List.range 32).filter (bit v.toNat)).map (fun b => (32 * w + b, true))) ∧
      Answers (.suspectSetWrite dt 0x01 w v) s (untouched a) ∧
      Answers (.suspectClearWrite dt 0x01 w v) s (fun t => fieldsBut [] a t ∧
        t.tmg.maskNext = a.tmg.maskNext ++ ((List.range 32).filter (bit v.toNat)).map (fun b => (32 * w + b, false)) ∧
        ∀ b < 32, bit v.toNat b = true → aGet 0 t.tmg.devRun (32 * w + b) = 0 ∧ aGet 0 t.tmg.okRun (32 * w + b) = 0))

/-- R261 to R263: one comparator lowers the thermal ceiling to 0.60 GHz and is reported; a second of its region trips: THERMTRIP_N falls,
the beats are held and the rails take the quick stop; with every rail OFF none is armed; a comparator that releases undoes no trip. -/
def Obligations.TripsStopTheRails : Prop :=
  ∀ (dt r n : Nat) (s a : State), a = advance dt s → r < 64 → n < 8 →
    (isTripped a (8 * r + n) = false → (∃ k < 4, railSt a k ≠ rsOff) → roomMsg a →
      ((∀ m < 8, isTripped a (8 * r + m) = false) → twoTripped a = false → Answers (.tripComparator dt r n) s (fun t => isTripped t (8 * r + n) = true ∧
        getB t TMG.STATUS.TRIP_SINGLE = true ∧ messageWaits 0x81 (0x800 + r) n t ∧ thermCeil t = min (thermCeil a) 60 ∧
        t.phc = a.phc ∧ getB t TMG.TRIP.TRIPPED = getB a TMG.TRIP.TRIPPED)) ∧
      ((∃ m < 8, isTripped a (8 * r + m) = true) → getB a TMG.TRIP.TRIPPED = false → Answers (.tripComparator dt r n) s (fun t =>
        isTripped t (8 * r + n) = true ∧ getB t TMG.STATUS.TRIP_SINGLE = false ∧
        getB t TMG.TRIP.TRIPPED = true ∧ getF t TMG.TRIP.REGION = r ∧ t.phc.tripLow = true ∧ t.drg.holdAll = true ∧
        (∀ m < 8, bit (getF t TMG.TRIP.SENSORS) m = isTripped t (8 * r + m)) ∧
        messageWaits 0x80 (0x800 + r) (getF t TMG.TRIP.SENSORS) t ∧ (seqState t = sqQuickStop ∨ seqState t = sqIdle)))) ∧
    (isTripped a (8 * r + n) = true ∨ (∀ k < 4, railSt a k = rsOff) → Answers (.tripComparator dt r n) s (untouched a)) ∧
    Answers (.tripComparatorRelease dt r n) s (fun t => isTripped t (8 * r + n) = false ∧ t.phc = a.phc ∧
      getB t TMG.TRIP.TRIPPED = getB a TMG.TRIP.TRIPPED ∧
      ((List.range 512).any (isTripped t) = false → getB t TMG.STATUS.TRIP_SINGLE = false) ∧
      ((List.range 512).any (isTripped t) = true → twoTripped t = false →
        getB t TMG.STATUS.TRIP_SINGLE = true ∧ thermCeil t = min (thermCeil a) 60) ∧
      ((List.range 512).any (isTripped t) = false ∨ twoTripped t = true →
        unitsSame a t ∧ fieldsBut [TMG.TRIPCMP.TRIPPED ((8 * r + n) / 32), TMG.STATUS.TRIP_SINGLE] a t))

/-! ### The balance exchange -/

/-- R275, R276, R279 to R282: a round, judged by what the module held at its boundary, stages the floor for its serve step and begins its
view with the module's own frame; frames of the round join its view, a foreign one stages the floor; budgets below the floors leave the
floor, a valid result in time replaces it; without the agent nothing happens. (What a stray round's floor does to a value already due is
log entry 88.) -/
def Obligations.RoundsStageTheFloorFirst : Prop :=
  ∀ (dt : Nat) (s a : State), a = advance dt s →
    (compOn a 5 = false → Answers (.balRoundBegin dt) s (untouched a) ∧ Answers (.balFrameReceived dt) s (untouched a) ∧
      Answers (.balOutcome dt) s (untouched a)) ∧
    (∀ b, compOn a 5 = true → b = balAgent a →
      (∀ r, b.bal.round = some r → r.begun = false → r.decided = false → r.serve < 2 ^ 48 →
        Answers (.balRoundBegin dt) s (fun t => aFind t.pend BAL.GRANT.GRANT.key = some ⟨r.floor, 0, none, false⟩ ∧
          aFind t.pend BAL.GRANT.ACTIVE.key = some ⟨1, 0, none, false⟩ ∧ getB t BAL.GRANT_AT_STEP_HI.ARMED = true ∧
          getW t BAL.GRANT_AT_STEP_LO.STEP BAL.GRANT_AT_STEP_HI.STEP = r.serve ∧ getF t BAL.STATUS.ROUND_STATE = 1 ∧
          t.bal.round = some { r with begun := true, frames := aIns r.frames r.own (ownFrame b r) })) ∧
      (b.bal.round = none ∨ (∃ r, b.bal.round = some r ∧ (r.begun = true ∨ r.decided = true)) →
        Answers (.balRoundBegin dt) s (untouched b))) ∧
    (compOn a 5 = true → balMember a = false → a.bal.outStaged = false → a.bal.floorDue = false → a.bal.round = none →
      Answers (.balRoundBegin dt) s (fun t => aFind t.pend BAL.GRANT.ACTIVE.key = some ⟨0, 0, none, false⟩ ∧
        t.bal = { a.bal with outStaged := true })) ∧
    (compOn a 5 = true → a.bal.queue = [] → Answers (.balFrameReceived dt) s (untouched a)) ∧
    (∀ e rest b, compOn a 5 = true → a.bal.queue = e :: rest → b = balAgent { a with bal := { a.bal with queue := rest } } →
      (∀ r, b.bal.round = some r → r.serve = frServe (e.drop 1) →
        (r.decided = true ∨ r.fired = true ∨ inRoster r (nth e 0) = false ∨ nth e 0 = r.own →
          Answers (.balFrameReceived dt) s (untouched b)) ∧
        (r.decided = false → r.fired = false → inRoster r (nth e 0) = true → nth e 0 ≠ r.own →
          Answers (.balFrameReceived dt) s (fun t => t.bal.queue = rest ∧
            (∃ r2, t.bal.round = some r2 ∧ aFind r2.frames (nth e 0) = some (e.drop 1)) ∧
            (frCheck (e.drop 1) ≠ r.check → getB t BAL.STATUS.PARAM_MISMATCH = true ∧
              (r.mismatch = false → roomMsg b → messageWaits 0x92 0x902 (nth e 0) t))))) ∧
      ((∀ r, b.bal.round = some r → r.serve ≠ frServe (e.drop 1)) →
        (balMember b = false ∨ nth e 0 = balPos b ∨ frServe (e.drop 1) ≤ b.time.step → Answers (.balFrameReceived dt) s (untouched b)) ∧
        (balMember b = true → nth e 0 ≠ balPos b → b.time.step < frServe (e.drop 1) → frServe (e.drop 1) < 2 ^ 48 → roomMsg b →
          Answers (.balFrameReceived dt) s (fun t => getB t BAL.STATUS.STRAY = true ∧
            aFind t.pend BAL.GRANT.GRANT.key = some ⟨floorW b, 0, none, false⟩ ∧ getB t BAL.GRANT_AT_STEP_HI.ARMED = true ∧
            getW t BAL.GRANT_AT_STEP_LO.STEP BAL.GRANT_AT_STEP_HI.STEP = frServe (e.drop 1) ∧
            messageWaits 0x93 0x903 (frServe (e.drop 1) % 2 ^ 32) t)))) ∧
    (∀ b, compOn a 5 = true → b = balFire (balAgent a) →
      (b.bal.round = none ∨ (∃ r, b.bal.round = some r ∧ (r.begun = false ∨ r.decided = true)) →
        Answers (.balOutcome dt) s (untouched b)) ∧
      (∀ r, b.bal.round = some r → r.begun = true → r.decided = false →
        let floors := regions64.foldl (fun m i => m + balFloor r i) 0
        let floored := fun (t : State) => getF t BAL.STATUS.LAST_OUTCOME = 3 ∧ t.pend = b.pend ∧
          t.bal.round = some { r with decided := true } ∧ t.bal.lastOk = false ∧ getF t BAL.STATUS.ROUND_STATE = 3
        (viewComplete r = false → inTime r b = true → Answers (.balOutcome dt) s (untouched b)) ∧
        (viewComplete r = false → inTime r b = false → Answers (.balOutcome dt) s floored) ∧
        (viewComplete r = true → 8 * r.budget < floors → roomMsg b → Answers (.balOutcome dt) s (fun t => floored t ∧
          getB t BAL.STATUS.FLOORS_EXCEED = true ∧ messageWaits 0x91 0x901 (floors / 8) t)) ∧
        (viewComplete r = true → floors ≤ 8 * r.budget → r.res = 0 → r.fired = true → inTime r b = true →
          (aFind b.pxe.run 2).isSome = true → slotSt b 2 = 2 → Answers (.balOutcome dt) s (untouched b)) ∧
        (viewComplete r = true → floors ≤ 8 * r.budget → r.res = 1 → inTime r b = true → Answers (.balOutcome dt) s (fun t =>
          getF t BAL.STATUS.LAST_OUTCOME = 1 ∧ getF t BAL.STATUS.INCOMPLETE_RUN = 0 ∧
          aFind t.pend BAL.GRANT.GRANT.key = some ⟨getF b (BAL.VEC.ALLOC r.own) / 8 % 4096, 0, none, false⟩ ∧
          t.bal.round = some { r with decided := true } ∧ t.bal.lastOk = true ∧ getF t BAL.STATUS.ROUND_STATE = 3)) ∧
        (viewComplete r = true → floors ≤ 8 * r.budget → r.res = 2 → b.bal.lastOk = true → inTime r b = true →
          Answers (.balOutcome dt) s (fun t => getF t BAL.STATUS.LAST_OUTCOME = 2 ∧ getF t BAL.STATUS.INCOMPLETE_RUN = 0 ∧
            aFind t.pend BAL.GRANT.GRANT.key = some ⟨getF b (BAL.VEC.ALLOC r.own) / 8 % 4096, 0, none, false⟩ ∧
            t.bal.round = some { r with decided := true } ∧ t.bal.lastOk = false ∧ getF t BAL.STATUS.ROUND_STATE = 3)) ∧
        (viewComplete r = true → floors ≤ 8 * r.budget → r.res = 2 → b.bal.lastOk = false → Answers (.balOutcome dt) s floored) ∧
        (viewComplete r = true → floors ≤ 8 * r.budget → r.res = 1 ∨ r.res = 2 → inTime r b = false →
          Answers (.balOutcome dt) s floored)))

/-- R290, R291: a record is judged by its key, its tag, its counter and its reserved fields, in that order; only one that passes them all is
kept, and its counter with it; the end of a port's counter is reported once; a previous key ends with its grace time. -/
def Obligations.SidebandRecordsAreJudgedInOrder : Prop :=
  ∀ (dt p : Nat) (s a : State), a = advance dt s → p < 16 →
    (∀ (hdr body : List Nat) (ok : Bool), (Instr.sidebandRecordReceived dt p hdr body ok).wf = true →
      let live := keyLive a (nth hdr 2 / 64) (nth hdr 1)
      let key := 4096 * (nth hdr 2 / 64) + 16 * nth hdr 1 + p
      let cnt := ofLE (hdr.drop 8)
      (live = false → Answers (.sidebandRecordReceived dt p hdr body ok) s (untouched a)) ∧
      (live = true → ok = false → Answers (.sidebandRecordReceived dt p hdr body ok) s (fun t =>
        getF t BAL.SB_STATUS.AUTH_FAIL = min (getF a BAL.SB_STATUS.AUTH_FAIL + 1) 255 ∧ t.bal.queue = a.bal.queue ∧
        t.bal.accepted = a.bal.accepted)) ∧
      (live = true → ok = true → (∃ c, aFind a.bal.accepted key = some c ∧ cnt ≤ c) → Answers (.sidebandRecordReceived dt p hdr body ok) s
        (fun t => getF t BAL.SB_STATUS.REPLAY = min (getF a BAL.SB_STATUS.REPLAY + 1) 255 ∧ t.bal = a.bal ∧
          fieldsBut [BAL.SB_STATUS.REPLAY] a t)) ∧
      (live = true → ok = true → (∀ c, aFind a.bal.accepted key = some c → c < cnt) →
        (reservedZero hdr body = false → Answers (.sidebandRecordReceived dt p hdr body ok) s (untouched a)) ∧
        (reservedZero hdr body = true → Answers (.sidebandRecordReceived dt p hdr body ok) s (fun t =>
          aFind t.bal.accepted key = some cnt ∧
          t.bal.queue = (if nth hdr 0 = 2 then a.bal.queue ++ [nth hdr 2 % 64 :: body] else a.bal.queue))))) ∧
    (txCount a p = 2 ^ 64 - 1 → a.bal.ended.contains p = false → roomMsg a → Answers (.sbCounterEnd dt p) s (fun t =>
      p ∈ t.bal.ended ∧ messageWaits 0x95 (0x920 + p) p t ∧ fieldsBut [] a t)) ∧
    (a.bal.ended.contains p = true → Answers (.sbCounterEnd dt p) s (untouched a)) ∧
    (∀ ctx < 2, (aFind a.bal.prev ctx).isSome = true → aGet 0 a.bal.prevUntil ctx ≤ a.time.ticks → Answers (.sbKeyGraceEnd dt ctx) s
      (fun t => t.bal = { a.bal with prev := aDel a.bal.prev ctx, prevUntil := aDel a.bal.prevUntil ctx } ∧ fieldsBut [] a t)) ∧
    (∀ ctx < 2, a.time.ticks < aGet 0 a.bal.prevUntil ctx → Answers (.sbKeyGraceEnd dt ctx) s (untouched a))

/-! ### Rest states, the safe state and resets -/

/-- R102, R299 to R305, R307: the deepest state whose dwell has passed is entered, Retain and Dormant only with the rails up (log entry 95),
Dormant by way of Nap and self-refresh; in those two the predictor engine stops; a cause
of wake, or the host, begins the exit; its end is recorded and a slow one reported; self-refresh that is not confirmed in 1 ms fails. -/
def Obligations.RestStatesAreEnteredAndLeft : Prop :=
  ∀ (dt : Nat) (s a : State), a = advance dt s →
    (restState a ≠ 5 → atWindowClose a = true →
      (∀ k, restTarget a = some k → k ≤ 2 → Answers (.restEnter dt) s (fun t => restState t = k ∧ t.sta = a.sta ∧
        (a.sta.late = false → t.drg.gate = true) ∧ getF t STA.REST_COUNT.ENTRIES = min (getF a STA.REST_COUNT.ENTRIES + 1) 65535 ∧
        (roomRec a → eventWaits 0x0A01 t))) ∧
      (restTarget a = some 3 → Answers (.restEnter dt) s (fun t => restState t = 3 ∧ railSt t 0 = rsRet ∧
        (railRec t 0).tgt = 480000000 ∧ (∀ k < 4, aFind t.pxe.run k = none))) ∧
      (restTarget a = some 4 → Answers (.restEnter dt) s (fun t => restState t = (if restState a < 2 then 2 else restState a) ∧
        t.sta.sr = 1 ∧ t.sta.srAt = a.time.ticks)) ∧
      (restTarget a = none → Answers (.restEnter dt) s (untouched a))) ∧
    (restState a = 5 ∨ atWindowClose a = false → Answers (.restEnter dt) s (untouched a)) ∧
    (seqState a ≠ sqUp → restTarget a ≠ some 3 ∧ restTarget a ≠ some 4) ∧
    (let begins := fun (t : State) => restState t = 5 ∧ t.sta.exitOf = restState a ∧ t.sta.exitAt = a.time.ticks ∧ t.sta.run1 = 0 ∧
      (restState a = 3 → safeOn a = false → railSt a 0 = rsRet → (railRec t 0).tgt = selNv a 0)
    (wakeCause a = true → Answers (.restWake dt) s begins) ∧
    (∀ agent : Byte, mayWrite a agent.toNat 0xA000C = true → restState a ≠ 0 → restState a ≠ 5 → Answers (.staWake dt agent) s begins)) ∧
    (wakeCause a = false → Answers (.restWake dt) s (untouched a)) ∧
    (∀ agent : Byte, mayWrite a agent.toNat 0xA000C = true → restState a = 0 ∨ restState a = 5 → Answers (.staWake dt agent) s (untouched a)) ∧
    (exitReady a = true → a.upd.resetDue = none → Answers (.restExit dt) s (fun t => restState t = 0 ∧ t.sta.exitOf = 0 ∧
      getF t STA.REST_STATUS.LAST = a.sta.exitOf % 8 ∧ t.sta.run1 = 0 ∧ t.sta.run2 = 0 ∧ t.sta.run4 = 0 ∧
      getF t STA.REST_STATUS.LAST_EXIT = min ((a.time.ticks - a.sta.exitAt) / 10) 65535 ∧ (roomRec a → eventWaits 0x0A02 t) ∧
      (exitLatency a a.sta.exitOf < 10 * (a.time.ticks - a.sta.exitAt) → getB t STA.REST_STATUS.EXIT_SLOW = true ∧
        (roomMsg a → messageWaits 0xA1 0xA10 (a.sta.exitOf + 256 * ((a.time.ticks - a.sta.exitAt) / 10)) t)) ∧
      (a.sta.exitOf = 3 ∨ a.sta.exitOf = 4 → trustSt t = 2 ∧ getB t EST.TRUST_STATUS.MISMATCH_LATCH = false ∧
        getF t LGV.OPP.PROT_CEIL = 150 ∧ getB t LGV.STATUS.PROT_ACTIVE = false ∧ (a.sta.late = false → getF t DRG.STATUS.HOLDS = 0) ∧
        ∀ n < 98, getF t (PHC.OC_COUNT.COUNT n) = 0))) ∧
    (exitReady a = false → Answers (.restExit dt) s (untouched a)) ∧
    (a.sta.sr = 1 → restState a ≠ 5 → srLayers a = 255 → Answers (.srConfirmed dt) s (fun t => restState t = 4 ∧ t.sta.sr = 2 ∧
      (∀ k < 4, aFind t.pxe.run k = none) ∧ t.phc.stop = 4 ∧ railSt t 1 = railSt a 1 ∧ railSt t 3 = railSt a 3)) ∧
    (a.sta.sr ≠ 1 → Answers (.srConfirmed dt) s (untouched a) ∧ Answers (.restSrTimeout dt) s (untouched a)) ∧
    (a.sta.sr = 1 → a.sta.srAt + ms 1 ≤ a.time.ticks → srLayers a ≠ 255 → roomMsg a → Answers (.restSrTimeout dt) s (fun t =>
      t.sta = { a.sta with sr := 0, srBlock := true } ∧ getB t STA.REST_STATUS.SR_FAIL = true ∧ messageWaits 0xA2 0xA11 (srLayers a) t ∧
      fieldsBut [STA.REST_STATUS.SR_FAIL] a t)) ∧
    (a.time.ticks < a.sta.srAt + ms 1 ∨ srLayers a = 255 → Answers (.restSrTimeout dt) s (untouched a))

/-- R238, R248, R313, R314: the first cause that asks for the safe state brings it about: VCORE's entry 0 unless at rest, 0.80 GHz and 800 W at
most, no heartbeat, a plan stop, one fault with the cause; nothing asks for it twice. -/
def Obligations.SafeStateLowersTheModule : Prop :=
  ∀ (dt : Nat) (s a : State), a = advance dt s →
    (∀ agent : Byte, mayWrite a agent.toNat 0xA000C = true →
      (safeOn a = false → a.sta.safeDue = 0 → Answers (.enterSafe dt agent) s (fun t => t.sta = { a.sta with safeDue := 4 } ∧
        fieldsBut [] a t ∧ waitingSame a t)) ∧
      (safeOn a = true ∨ a.sta.safeDue ≠ 0 → Answers (.enterSafe dt agent) s (untouched a))) ∧
    (a.sta.safeDue = 0 → Answers (.safeStateEnter dt) s (untouched a)) ∧
    (a.sta.safeDue ≠ 0 → safeOn a = false → roomMsg a → Answers (.safeStateEnter dt) s (fun t => safeOn t = true ∧
      getF t STA.SAFE_STATUS.CAUSE = a.sta.safeDue % 8 ∧ t.sta.safeDue = 0 ∧ t.drg.rate ≤ 80 ∧ getF t LGV.EFF_CAP.EFF_CAP ≤ 800 ∧
      getB t FLC.STATUS.HB_RUN = false ∧ (atRest a = false → getF t (PHC.RAIL_STATUS.SEL 0) = 0) ∧
      (∃ x ∈ t.acts, x.kind = .planStop) ∧ (fwRuns a = true → runState t = runSafe) ∧ messageWaits 0xA3 0xA20 a.sta.safeDue t))

/-- R309 to R312, R409, Table 13-8: a chip reset and a block restart leave the rails where they stand and drop all that waits; they wait for a
firmware gap and for the end of a rest state; a module reset holds every output, and its release and a cold start begin afresh with what
flash keeps. -/
def Obligations.ResetsKeepWhatTheyMust : Prop :=
  ∀ (dt : Nat) (s a : State), a = advance dt s →
    (let again := fun (kind : Nat) (t : State) => t.time.step = 0 ∧ t.time.lastStrobe = none ∧ localOn t = true ∧ t.pend = [] ∧
      t.frozen = [] ∧ t.held = [] ∧ t.acts = [] ∧ getF t STA.RESET_STATUS.LAST_RESET = kind ∧
      getF t STA.RESET_STATUS.RESTARTS = min (getF a STA.RESET_STATUS.RESTARTS + 1) 255 ∧ ∀ k < 4, railSt t k = railSt a k
    (updState a ≠ updGap → atRest a = false → a.landing = [] → Answers (.chipReset dt) s (again 2) ∧
      (∀ v : Word, v.toNat % 65536 = 0x4AB5 → Answers (.blockRestart dt 0x01 v) s (fun t => again 3 t ∧
        getF t STA.RESET_STATUS.AGENT = 0x01)))) ∧
    (updState a = updGap → Answers (.chipReset dt) s (fun t => t.upd = { a.upd with resetDue := some (2, 0) } ∧ fieldsBut [] a t)) ∧
    (updState a ≠ updGap → atRest a = true → Answers (.chipReset dt) s (fun t => t.upd.resetDue = some (2, 0) ∧ restState t = 5)) ∧
    (∀ (agent : Byte) (v : Word), mayWrite a agent.toNat 0xA0020 = true → v.toNat % 65536 ≠ 0x4AB5 →
      Answers (.blockRestart dt agent v) s (untouched a)) ∧
    (a.phc.resetN = true → Answers (.moduleReset dt) s (fun t => t.phc.resetN = false ∧ (∀ n, phEn t n = false) ∧ t.phc.tripLow = false ∧
      getB t TMG.TRIP.TRIPPED = false ∧ safeOn t = false ∧ getB t PHC.SEQ_STATUS.BUS_EN = false ∧ runState t = runBoot ∧
      (∀ c < 8, compState t c = coStopped) ∧ (∀ k < 4, coreState t k = crHeld) ∧ (seqState t = sqQuickStop ∨ seqState t = sqIdle))) ∧
    (a.phc.resetN = false → Answers (.moduleReset dt) s (untouched a)) ∧
    (let fresh := fun (kind : Nat) (up : Bool) (t : State) => t.time.step = 0 ∧ t.time.lastStrobe = none ∧ t.pend = [] ∧ t.acts = [] ∧
      getF t STA.RESET_STATUS.LAST_RESET = kind ∧ (∀ k < 4, railSt t k = rsOff) ∧
      (∀ n < 98, phaseSt t n = .off) ∧
      seqState t = (if up = true ∧ getB a PHC.SEQ_CTRL.AUTO_START = true then sqStarting else sqIdle)
    (a.landing = [] → (a.phc.resetN = false → Answers (.moduleResetRelease dt) s (fun t => fresh 1 true t ∧ t.phc.resetN = true ∧
        t.phc.inReset = false)) ∧
      Answers (.coldStart dt) s (fun t => fresh 0 a.phc.resetN t ∧ t.sec.pufDue = true ∧ t.time.hours = a.evr.savedHours ∧
        t.time.vaonLow = false))) ∧
    (a.phc.resetN = true → Answers (.moduleResetRelease dt) s (untouched a)) ∧
    (∀ blocks pub, blocks < 2 ^ 32 → pub.length = 96 → pub.all (fun b => decide (b < 256)) = true → a.sec.pufDue = true →
      Answers (.pufReconstruct dt true blocks pub) s (fun t => getB t SEC.STATUS.PUF_OK = true ∧ t.sec.pufDue = false ∧
        ∀ i < 24, getF t (SEC.ID_PUB.BYTES i) = ofLE ((pub.drop (4 * i)).take 4)) ∧
      (roomMsg a → Answers (.pufReconstruct dt false blocks pub) s (fun t => getB t SEC.STATUS.PUF_OK = false ∧ t.sec.pufDue = false ∧
        messageWaits 0xE0 0xE00 blocks t ∧ fieldsBut [SEC.STATUS.PUF_OK] a t))) ∧
    (∀ ok blocks pub, blocks < 2 ^ 32 → pub.length = 96 → pub.all (fun b => decide (b < 256)) = true → a.sec.pufDue = false →
      Answers (.pufReconstruct dt ok blocks pub) s (untouched a))

/-! ### Management firmware -/

/-- R324 to R329, Table 14-3: the watchdog, a component that misses its deadline, an access that no region of the component grants and an
exception stop what failed, with the fault the spec names, and start it again, a core with every component on it (log entry 98); after the third restart in 10 s nothing starts again and the module goes to its safe state. -/
def Obligations.FailuresRestartTheFirmware : Prop :=
  ∀ (dt : Nat) (s a : State), a = advance dt s → updState a ≠ updTrial →
    (∀ v : Word,
      (fwRuns a = true → v.toNat % 65536 = 0x3C96 → Answers (.wdtKick dt 0x40 v) s (fun t => t.fw = { a.fw with wdtAt := some a.time.ticks } ∧
        getB t STA.WDT.RUNNING = true ∧ fieldsBut [STA.WDT.RUNNING] a t)) ∧
      (fwRuns a = false ∨ v.toNat % 65536 ≠ 0x3C96 → Answers (.wdtKick dt 0x40 v) s (untouched a)) ∧
      Answers (.wdtKick dt 0x01 v) s (untouched a)) ∧
    (wdtOut a = false → Answers (.wdtExpiry dt) s (untouched a)) ∧
    (noRestart a = true → wdtOut a = true → Answers (.wdtExpiry dt) s (fun t => coreState t 0 = crFailed ∧ t.fw.wdtAt = none ∧
      (∀ c < 3, compState t c = coFailed) ∧ t.fw.restarts = a.fw.restarts)) ∧
    (noRestart a = false → roomMsg a →
      let main := fun (t : State) => runState t = runBoot ∧ coreState t 0 = crLoading ∧ (∀ c < 3, compState t c = coRestarting) ∧
        t.fw.restarts = recentRestarts a ++ [(a.time.ticks, 8)] ∧ ∀ c < 8, getF t (FW.COMP_STATUS.LAST_CAUSE c) = 4 ∧
          getF t (FW.COMP_STATUS.RESTARTS c) = min (getF a (FW.COMP_STATUS.RESTARTS c) + 1) 255
      let comp := fun (c cause : Nat) (t : State) => compState t c = coRestarting ∧ getF t (FW.COMP_STATUS.LAST_CAUSE c) = cause ∧
        getF t (FW.COMP_STATUS.RESTARTS c) = min (getF a (FW.COMP_STATUS.RESTARTS c) + 1) 255 ∧
        t.fw.restarts = recentRestarts a ++ [(a.time.ticks, c)] ∧ (t.fw.limitDue = true ↔ 2 ≤ (recentRestarts a).length)
      (wdtOut a = true → Answers (.wdtExpiry dt) s (fun t => main t ∧ t.fw.wdtAt = none ∧ getB t STA.WDT.RUNNING = false ∧
        getF t STA.WDT.EXPIRIES = min (getF a STA.WDT.EXPIRIES + 1) 255 ∧ ∃ addr, messageWaits 0xB2 0xB10 addr t)) ∧
      (∀ c < 8, overdue a c = true → compOn a 0 = true → c ≠ 0 → Answers (.fwComponentHang dt c) s (fun t => comp c 2 t ∧
        messageWaits 0xB1 (0xB00 + c) (compAge a c) t)) ∧
      (∀ (c addr : Nat) (w x : Bool), c < 8 → addr < 2 ^ 32 → compUp a c = true → mpuGrants a c addr w x = false →
        Answers (.fwMpuViolation dt c addr w x) s (fun t =>
        (if c = 0 then main t else comp c 1 t) ∧ messageWaits 0xB0 (0xB00 + c) addr t ∧ getF t FW.MPU_FAULT_ADDR.ADDR = addr ∧
        getF t FW.MPU_FAULT_INFO.COMPONENT = c ∧ getF t FW.MPU_FAULT_INFO.CORE = coreOf c ∧ getB t FW.MPU_FAULT_INFO.WRITE = w ∧
        getB t FW.MPU_FAULT_INFO.EXEC = x ∧ getB t FW.MPU_FAULT_INFO.VALID = true)) ∧
      (∀ c addr, c < 8 → addr < 2 ^ 32 → compUp a c = true → Answers (.fwCoreException dt (coreOf c) (some c) addr) s (fun t =>
        if c = 0 then main t else comp c 3 t)) ∧
      (∀ k addr, k < 4 → addr < 2 ^ 32 → fwRuns a = true → coreState a k = crRunning → Answers (.fwCoreException dt k none addr) s (fun t =>
        messageWaits 0xB2 (0xB10 + k) addr t ∧ (if k = 0 then main t else coreState t k = crLoading ∧
          (∀ c ∈ compsOf k, compState t c = coRestarting ∧ getF t (FW.COMP_STATUS.LAST_CAUSE c) = 4) ∧
          t.fw.restarts = recentRestarts a ++ [(a.time.ticks, 8 + k)])))) ∧
    (∀ c < 8, overdue a c = false → Answers (.fwComponentHang dt c) s (untouched a)) ∧
    (∀ c addr, ∀ w x : Bool, c < 8 → addr < 2 ^ 32 →
      (compUp a c = false ∨ mpuGrants a c addr w x = true → Answers (.fwMpuViolation dt c addr w x) s (untouched a)) ∧
      (compUp a c = false → Answers (.fwCoreException dt (coreOf c) (some c) addr) s (untouched a))) ∧
    (a.fw.limitDue = true → safeOn a = false → roomMsg a → Answers (.fwRestartLimit dt) s (fun t => safeOn t = true ∧
      getF t STA.SAFE_STATUS.CAUSE = 1 ∧ getB t FW.STATUS.LIMIT_HIT = true ∧ t.fw.limitDue = false ∧
      messageWaits 0xB3 0xB20 (limitInfo a) t)) ∧
    (a.fw.limitDue = false → Answers (.fwRestartLimit dt) s (untouched a))

/-- R322, R323, R327, R435: a main core whose bank passes runs with its components while the helpers load, and GENERATION counts it; a helper
that loads runs its own; a component that has restarted checks in and is recorded; a check-in is of the moment. -/
def Obligations.CoresAndComponentsStart : Prop :=
  ∀ (dt : Nat) (s a : State), a = advance dt s →
    (∀ found ok0 ok1 d, (Instr.mainCoreStart dt found ok0 ok1 d).wf = true →
      let b := bootBank ok0 ok1 d (restoreStaged (findImages found a))
      (runState a = runBoot → coreState a 0 ≠ crRunning → coreState a 0 ≠ crFailed → a.phc.resetN = true →
        (b.2 = true → a.fw.absentOwed = false → Answers (.mainCoreStart dt found ok0 ok1 d) s (fun t => coreState t 0 = crRunning ∧
          runState t = (if safeOn a = true then runSafe else runRunning) ∧ (∀ k, 1 ≤ k → k < 4 → coreState t k = crLoading) ∧
          (∀ c < 8, compState t c = if c < 3 then coRunning else coRestarting) ∧ t.fw.genSet = false ∧ t.fw.logFirst = true ∧
          getF t (FW.CORE_STATUS.LOADS 0) = min (getF a (FW.CORE_STATUS.LOADS 0) + 1) 255 ∧
          aGet [] t.fw.mpu 0 = (List.range 16).map (imageRegion (getF t FW.IMAGE.IMAGE_ID) 0) ∧
          getF t FW.GENERATION.GENERATION = (if a.fw.genSet = true then getF a FW.GENERATION.GENERATION
            else (getF a FW.GENERATION.GENERATION + 1) % 2 ^ 32))) ∧
        (b.2 = false → Answers (.mainCoreStart dt found ok0 ok1 d) s (fun t => coreState t 0 = crFailed ∧ runState t = runBoot))) ∧
      (runState a ≠ runBoot ∨ coreState a 0 = crRunning ∨ coreState a 0 = crFailed ∨ a.phc.resetN = false →
        Answers (.mainCoreStart dt found ok0 ok1 d) s (untouched a))) ∧
    (∀ k off, 1 ≤ k → k < 4 → off < 2 ^ 32 →
      (coreState a k = crLoading → fwRuns a = true → Answers (.helperLoad dt k true off) s (fun t => coreState t k = crRunning ∧
        (∀ c ∈ compsOf k, compState t c = coRunning ∧ aGet 0 t.fw.checkIn c = a.time.ticks) ∧
        aGet [] t.fw.mpu k = (List.range 16).map (imageRegion (getF a FW.IMAGE.IMAGE_ID) k) ∧ (k = 1 → t.tmg.fwDue = false) ∧
        getF t (FW.CORE_STATUS.LOADS k) = min (getF a (FW.CORE_STATUS.LOADS k) + 1) 255)) ∧
      (coreState a k = crLoading → fwRuns a = true → updState a ≠ updTrial → roomMsg a → Answers (.helperLoad dt k false off) s (fun t =>
        messageWaits 0xB4 (0xB10 + k) off t ∧ coreState t k = (if noRestart a = true then crFailed else crLoading))) ∧
      (coreState a k ≠ crLoading ∨ fwRuns a = false → ∀ ok, Answers (.helperLoad dt k ok off) s (untouched a))) ∧
    (∀ c < 8,
      (compOn a c = true → getB a FLC.INJECT.ARM = false → Answers (.componentCheckIn dt c) s (fun t =>
        t.fw = { a.fw with checkIn := aPut 0 a.fw.checkIn c a.time.ticks } ∧ fieldsBut [] a t)) ∧
      (compOn a c = false → Answers (.componentCheckIn dt c) s (untouched a)) ∧
      (compState a c = coRestarting → coreState a (coreOf c) = crRunning → fwRuns a = true → a.evr.flush ≠ 5 →
        Answers (.fwComponentRestart dt c) s (fun t =>
        compState t c = coRunning ∧ aGet 0 t.fw.checkIn c = a.time.ticks ∧ fieldsBut [FW.COMP_STATUS.STATE c, EVR.COUNTS.DROPPED] a t ∧
        (c = 4 → t.tmg.fwDue = false) ∧ (roomRec a → eventWaits 0x0B01 t))) ∧
      (compState a c ≠ coRestarting ∨ coreState a (coreOf c) ≠ crRunning ∨ fwRuns a = false ∨ a.evr.flush = 5 →
        Answers (.fwComponentRestart dt c) s (untouched a)))

/-- R335 to R337: the host's alive writes alone restart the timer; when it ends the host is absent, GENERATION rises and the mirror stops while
the plan goes on; the host attaches again only with the present GENERATION, and finds its absence summed up. -/
def Obligations.HostAbsenceIsNoticed : Prop :=
  ∀ (dt : Nat) (s a : State), a = advance dt s →
    (∀ v : Word, Answers (.hostAlive dt 0x01 v) s (fun t => t.fw = { a.fw with aliveAt := a.time.ticks } ∧ fieldsBut [] a t)) ∧
    (∀ (agent : Byte) (v : Word), agent ≠ 0x01 → mayWrite a agent.toNat 0xB000C = true → Answers (.hostAlive dt agent v) s (untouched a)) ∧
    (hostState a = hostAttached → a.fw.aliveAt + ms (getC a FW.HOST_CTRL.HOST_TIMEOUT 200 5000) ≤ a.time.ticks → a.time.sys < 2 ^ 64 →
      Answers (.hostAbsent dt) s (fun t => hostState t = hostAbsentSt ∧ getW t FW.ABSENT_START_LO.TIME FW.ABSENT_START_HI.TIME = a.time.sys ∧
        t.fw.absentAt = a.time.ticks ∧ planState t = planState a ∧ t.psq = a.psq ∧
        (compOn a 0 = false → t.fw.absentOwed = true ∧ getF t FW.GENERATION.GENERATION = getF a FW.GENERATION.GENERATION) ∧
        (compOn a 0 = true → t.fw.absentOwed = false ∧
          getF t FW.GENERATION.GENERATION = (getF a FW.GENERATION.GENERATION + 1) % 2 ^ 32 ∧ getB t FW.LOG_CTRL.MIRROR_EN = false ∧
          (roomRec a → eventWaits 0x0B02 t) ∧ (roomMsg a → messageWaits 0xB5 0xB30 (getF t FW.GENERATION.GENERATION) t)))) ∧
    (hostState a ≠ hostAttached ∨ a.time.ticks < a.fw.aliveAt + ms (getC a FW.HOST_CTRL.HOST_TIMEOUT 200 5000) →
      Answers (.hostAbsent dt) s (untouched a)) ∧
    (∀ v : Word, bit v.toNat 31 = true →
      (v.toNat % 65536 ≠ getF a FW.GENERATION.GENERATION % 65536 → Answers (.hostAttach dt 0x01 v) s (fun t =>
        getB t FW.HOST_STATUS.ATTACH_REJECT = true ∧ hostState t = hostState a ∧ unitsSame a t ∧ fieldsBut [FW.HOST_STATUS.ATTACH_REJECT] a t)) ∧
      (v.toNat % 65536 = getF a FW.GENERATION.GENERATION % 65536 →
        (hostState a = hostDetached → Answers (.hostAttach dt 0x01 v) s (fun t => hostState t = hostAttached ∧ t.fw.aliveAt = a.time.ticks ∧
          fieldsBut [FW.HOST_STATUS.HOST_STATE] a t)) ∧
        (hostState a = hostAttached → Answers (.hostAttach dt 0x01 v) s (untouched a)) ∧
        (hostState a = hostAbsentSt → Answers (.hostAttach dt 0x01 v) s (fun t => hostState t = hostAttached ∧
          getB t FW.ABSENT_SUMMARY.VALID = true ∧ getF t FW.ABSENT_SUMMARY.DURATION = absentMs a ∧
          getF t FW.ABSENT_SUMMARY.PLAN_STATE = planState a % 8 ∧ (roomRec a → eventWaits 0x0B03 t))))) ∧
    (∀ (agent : Byte) (v : Word), mayWrite a agent.toNat 0xB0014 = true → agent ≠ 0x01 ∨ bit v.toNat 31 = false →
      Answers (.hostAttach dt agent v) s (untouched a))

/-- R338 to R342: an entry that is wanted and within the rate takes the next place of the log ring as Table 14-6 lays it out; one beyond the
rate is counted; in confidential mode no trace point is written; the mirror copies the next entry to its place, or stops with its fault. -/
def Obligations.LogEntriesAreWrittenAndMirrored : Prop :=
  ∀ (dt : Nat) (s a : State), a = advance dt s →
    (∀ c kind id code payload, (Instr.logEntry dt c kind id code payload).wf = true →
      (compOn a c = true → logWanted a c kind id = true → (logRecent a c).length < max 1 (getF a FW.LOG_CTRL.LOG_RATE) →
        Answers (.logEntry dt c kind id code payload) s (fun t => t.fw.logNext = a.fw.logNext + 1 ∧
          getF t FW.LOG_SEQ.SEQ = a.fw.logNext % 2 ^ 32 ∧ getF t FW.LOG_STATUS.WRITE_INDEX = (a.fw.logNext + 1) % 2048 ∧
          memBytes t.fw.log (32 * (a.fw.logNext % 2048)) 32 = logBytes a c kind id code
            (if a.fw.logFirst = true then toLE 4 (getF a FW.GENERATION.GENERATION) else payload) ∧
          ∀ q, q < 32 * (a.fw.logNext % 2048) ∨ 32 * (a.fw.logNext % 2048) + 32 ≤ q → memByte t.fw.log q = memByte a.fw.log q)) ∧
      (compOn a c = true → logWanted a c kind id = true → max 1 (getF a FW.LOG_CTRL.LOG_RATE) ≤ (logRecent a c).length →
        Answers (.logEntry dt c kind id code payload) s (fun t => getF t FW.LOG_DROP.DROPPED = min (getF a FW.LOG_DROP.DROPPED + 1) 65535 ∧
          unitsSame a t ∧ ramsSame a t ∧ fieldsBut [FW.LOG_DROP.DROPPED] a t)) ∧
      (compOn a c = false ∨ logWanted a c kind id = false ∨ (confOn a = true ∧ kind = 1) →
        Answers (.logEntry dt c kind id code payload) s (untouched a))) ∧
    (mirrorOn a = true → compOn a 7 = true → a.fw.mirrorNext < a.fw.logNext → ∀ n, n = max a.fw.mirrorNext (a.fw.logNext - 2048) →
      sramCheck a (logWord n) 8 = 0 →
      (∀ off, off = 32 * (n % 2 ^ (getC a FW.LOG_MIRROR_SIZE.SIZE_LOG2 16 24 - 5)) →
        Answers (.logMirrorCopy dt true) s (fun t => t.fw.mirrorNext = n + 1 ∧ getF t FW.LOG_MIRROR_SEQ.SEQ = n % 2 ^ 32 ∧ t.fw.mirrorOut =
          some (getW a FW.LOG_MIRROR_LO.ADDR FW.LOG_MIRROR_HI.ADDR + off, memBytes a.fw.log (32 * (n % 2048)) 32) ∧
          fieldsBut [FW.LOG_MIRROR_SEQ.SEQ] a t) ∧
        (roomMsg a → Answers (.logMirrorCopy dt false) s (fun t => getB t FW.LOG_STATUS.MIRROR_ERR = true ∧
          getB t FW.LOG_CTRL.MIRROR_EN = false ∧ messageWaits 0xB6 0xB31 off t ∧ t.fw = a.fw)))) ∧
    (mirrorOn a = false ∨ compOn a 7 = false ∨ a.fw.logNext ≤ a.fw.mirrorNext → ∀ ok, Answers (.logMirrorCopy dt ok) s (untouched a))

/-! ### Rings, the gate and mailboxes -/

/-- R336, R347, R348, R353 to R355: a ring is set up, disabled and reset by the host driver alone; a setup that does not fit, and a disable
with packets outstanding, are refused by reason; a doorbell in range moves the tail, any other is counted; a new CQ_HEAD frees entries. -/
def Obligations.RingsAreSetUpAndRung : Prop :=
  ∀ (dt q : Nat) (v : Word) (s a : State), a = advance dt s → q < 72 →
    (bit v.toNat 24 = true → bit v.toNat 25 = false →
      (ringSt a q ≠ ringDisabled → Answers (.ringEnable dt 0x01 q v) s (fun t => ringSt t q = ringSt a q ∧
        getB t CMD.SETUP_STATUS.SETUP_REJECT = true ∧ getF t CMD.SETUP_STATUS.REASON = 4 ∧ getF t CMD.SETUP_STATUS.RING = q ∧
        getF t (CMD.RING_CFG.BASE q) = getF a (CMD.RING_CFG.BASE q) ∧ unitsSame a t ∧ waitingSame a t)) ∧
      (ringSt a q = ringDisabled → ∀ r,
        setupReason (setF (setF a (CMD.RING_CFG.BASE q) (bits v.toNat 0 13)) (CMD.RING_CFG.SIZE_LOG2 q) (bits v.toNat 16 4)) q = r →
        Answers (.ringEnable dt 0x01 q v) s (fun t => getF t (CMD.RING_CFG.BASE q) = bits v.toNat 0 13 ∧
          getF t (CMD.RING_CFG.SIZE_LOG2 q) = bits v.toNat 16 4 ∧ getF t (CMD.RING_CFG.VECTOR q) = bits v.toNat 26 5 ∧
          (r = 0 → ringSt t q = ringActive ∧ getB t (CMD.RING_CFG.ENABLE q) = true ∧ getB t (CMD.RING_STATUS.SEQ_VALID q) = false ∧
            rungTail t q = getF t (CMD.RING_TAIL.TAIL q) ∧
            getF t CMD.SETUP_STATUS.REASON = getF a CMD.SETUP_STATUS.REASON) ∧
          (r ≠ 0 → ringSt t q = ringDisabled ∧ getB t CMD.SETUP_STATUS.SETUP_REJECT = true ∧ getF t CMD.SETUP_STATUS.REASON = r ∧
            getF t CMD.SETUP_STATUS.RING = q ∧ t.cmd = a.cmd)))) ∧
    (bit v.toNat 24 = false → bit v.toNat 25 = false →
      (ringSt a q = ringDisabled → Answers (.ringDisable dt 0x01 q v) s (fun t => ringSt t q = ringDisabled ∧ t.cmd = a.cmd ∧
        getF t (CMD.RING_CFG.BASE q) = bits v.toNat 0 13 ∧ getF t (CMD.RING_CFG.SIZE_LOG2 q) = bits v.toNat 16 4)) ∧
      (ringSt a q ≠ ringDisabled → outOf a q = [] → Answers (.ringDisable dt 0x01 q v) s (fun t => ringSt t q = ringDisabled ∧
        getB t (CMD.RING_CFG.ENABLE q) = false ∧ unitsSame a t ∧ waitingSame a t)) ∧
      (ringSt a q ≠ ringDisabled → outOf a q ≠ [] → Answers (.ringDisable dt 0x01 q v) s (fun t => ringSt t q = ringSt a q ∧
        getB t CMD.SETUP_STATUS.SETUP_REJECT = true ∧ getF t CMD.SETUP_STATUS.REASON = 5 ∧ getF t CMD.SETUP_STATUS.RING = q))) ∧
    (bit v.toNat 25 = true →
      (ringSt a q ≠ ringDisabled → Answers (.ringReset dt 0x01 q v) s (fun t => ringSt t q = ringActive ∧ t.cmd.pkts = a.cmd.pkts ∧
        getF t (CMD.RING_HEAD.HEAD q) = getF a (CMD.RING_TAIL.TAIL q) % 4096 ∧ rungTail t q = getF a (CMD.RING_TAIL.TAIL q) ∧
        getB t (CMD.RING_STATUS.SEQ_VALID q) = false)) ∧
      (ringSt a q = ringDisabled → Answers (.ringReset dt 0x01 q v) s (fun t => unitsSame a t ∧
        fieldsBut [CMD.RING_CFG.VECTOR q, CMD.RING_CFG.IRQ_ALL q] a t))) ∧
    (∀ agent : Byte, agent ≠ 0x01 → mayWrite a agent.toNat (0xC1000 + 64 * q) = true →
      (bit v.toNat 24 = true → bit v.toNat 25 = false → Answers (.ringEnable dt agent q v) s (untouched a)) ∧
      (bit v.toNat 24 = false → bit v.toNat 25 = false → Answers (.ringDisable dt agent q v) s (untouched a)) ∧
      (bit v.toNat 25 = true → Answers (.ringReset dt agent q v) s (untouched a))) ∧
    (∀ agent : Byte,
      let fits := mayRing a agent.toNat q = true ∧ (ringSt a q = ringActive ∨ ringSt a q = ringWaiting) ∧ v.toNat % 4096 < ringSize a q
      let refused := fun (t : State) => getF t CMD.ERR_STATUS.DOORBELL_REJECT = min (getF a CMD.ERR_STATUS.DOORBELL_REJECT + 1) 65535 ∧
        getF t (CMD.RING_TAIL.TAIL q) = getF a (CMD.RING_TAIL.TAIL q) ∧ rungTail t q = rungTail a q ∧
        (getF a CMD.ERR_STATUS.DOORBELL_REJECT = 0 → getF t CMD.ERR_STATUS.FIRST_AGENT = agent.toNat ∧ getF t CMD.ERR_STATUS.FIRST_RING = q)
    (mayWrite a agent.toNat (0xC1008 + 64 * q) = true →
      (fits → Answers (.ringDoorbell dt agent q v) s (fun t => getF t (CMD.RING_TAIL.TAIL q) = v.toNat % 4096 ∧
        rungTail t q = (if hostAbsentNow a = true then rungTail a q else v.toNat % 4096) ∧
        (q = 7 → hostAbsentNow a = false → t.cmd.bell = agent.toNat) ∧ t.cmd.pkts = a.cmd.pkts ∧
        waitingSame a t ∧ fieldsBut [CMD.RING_TAIL.TAIL q] a t)) ∧
      (¬ fits → Answers (.ringDoorbell dt agent q v) s refused)) ∧
    (mayWrite a agent.toNat (0xC1008 + 64 * q) = false → Answers (.ringDoorbell dt agent q v) s (fun t => refused t ∧
      getB t SEC.STATUS.DENIED = true))) ∧
    (∀ agent : Byte, mayWrite a agent.toNat (0xC1010 + 64 * q) = true →
      (mayCq a agent.toNat q = true → Answers (.cqHeadWrite dt agent q v) s (fun t =>
        getF t (CMD.RING_CQ_HEAD.CQ_HEAD q) = v.toNat % 4096 ∧ t.cmd = a.cmd ∧
        ringSt t q = (if ringSt a q = ringActive ∨ ringSt a q = ringWaiting
          then (if cqRoom t q = true ∧ storeRoom t = true then ringActive else ringWaiting) else ringSt a q) ∧
        fieldsBut [CMD.RING_CQ_HEAD.CQ_HEAD q, CMD.RING_STATUS.STATE q] a t)) ∧
      (mayCq a agent.toNat q = false → Answers (.cqHeadWrite dt agent q v) s (untouched a)))

/-- R356 to R361, R365: agent 0x40 opens and closes the gate, and what it held becomes pending with the gate's step, all together; a waiting
tagged packet goes on when nothing of an earlier one stands in its way; what is done completes, a cap by the CAP_STATE that its own boundary
left in its DETAIL; a fetch brings the block or fails. -/
def Obligations.GateReleasesTogether : Prop :=
  ∀ (dt : Nat) (s a : State), a = advance dt s → waitingOk a →
    (Answers (.gateOpen dt 0x40) s (fun t => getB t CMD.GATE_CTRL.OPEN = true ∧ waitingSame a t ∧ unitsSame a t ∧
      fieldsBut [CMD.GATE_CTRL.OPEN] a t)) ∧
    (∀ agent : Byte, agent ≠ 0x40 → mayWrite a agent.toNat 0xC0020 = true →
      Answers (.gateOpen dt agent) s (untouched a) ∧ Answers (.gateClose dt agent) s (untouched a)) ∧
    (getB a CMD.GATE_CTRL.OPEN = true → Answers (.gateClose dt 0x40) s (fun t => getB t CMD.GATE_CTRL.OPEN = false ∧ t.held = [] ∧
      (∀ k x, aFind a.held k = some x → aFind t.pend k = some { x with gate := some (gateStep a) }) ∧
      (∀ k, aFind a.held k = none → aFind t.pend k = aFind a.pend k) ∧ t.landing = a.landing ∧ t.frozen = a.frozen ∧ t.acts = a.acts ∧
      unitsSame a t ∧ fieldsBut [CMD.GATE_CTRL.OPEN] a t)) ∧
    (getB a CMD.GATE_CTRL.OPEN = false → Answers (.gateClose dt 0x40) s (untouched a)) ∧
    (let next := a.cmd.pkts.find? (fun x => x.st == 0 && !tagClash a x)
    (∀ x, compOn a 1 = true → next = some x → Answers (.taggedPacketResume dt) s (gated x a)) ∧
    (compOn a 1 = false ∨ next = none → Answers (.taggedPacketResume dt) s (untouched a))) ∧
    (∀ x, compOn a 1 = true → nextDone a = some x → Answers (.taggedCompletion dt) s (fun t => (∀ y ∈ t.cmd.pkts, y.id ≠ x.id) ∧
      (∀ y ∈ a.cmd.pkts, y.id ≠ x.id → y ∈ t.cmd.pkts) ∧ waitingSame a t ∧
      (x.tag = 0 → entryWritten a x.ring x.seq x.status x.applied x.detail t) ∧
      (x.tag ≠ 0 → ∀ n, n = x.doneAt.getD a.time.step →
        ((tagApplied x).1 < (tagApplied x).2 → entryWritten a x.ring x.seq 0x0002 (tagApplied x).1 (tagDetail a x n) t) ∧
        ((tagApplied x).2 ≤ (tagApplied x).1 →
          (x.op = 0x0C → x.detail / 4096 % 4 = 1 → entryWritten a x.ring x.seq 0x0003 (tagApplied x).1 (tagDetail a x n) t) ∧
          (x.op ≠ 0x0C ∨ x.detail / 4096 % 4 ≠ 1 →
            (∀ m, x.step = some m → m < n → entryWritten a x.ring x.seq 0x0001 (tagApplied x).1 (tagDetail a x n) t) ∧
            ((∀ m, x.step = some m → n ≤ m) → entryWritten a x.ring x.seq 0x0000 (tagApplied x).1 (tagDetail a x n) t)))))) ∧
    (compOn a 1 = false ∨ nextDone a = none → Answers (.taggedCompletion dt) s (untouched a)) ∧
    (∀ q data ok, (Instr.blockFetchDone dt q data ok).wf = true →
      let first := a.cmd.pkts.find? (fun x => x.ring == q && x.st == 2)
      (first = none → Answers (.blockFetchDone dt q data ok) s (untouched a)) ∧
      (∀ x, first = some x →
        (data.length = ofLE ((x.body.drop 4).take 2) → Answers (.blockFetchDone dt q data true) s (fun t =>
          { x with st := 3, data := data } ∈ t.cmd.pkts ∧ (∀ y ∈ a.cmd.pkts, y.id ≠ x.id → y ∈ t.cmd.pkts) ∧ t.cmd.win = a.cmd.win)) ∧
        (data.length ≠ ofLE ((x.body.drop 4).take 2) → Answers (.blockFetchDone dt q data true) s (untouched a)) ∧
        (roomMsg a → Answers (.blockFetchDone dt q data false) s (fun t => messageWaits 0xC1 (0xC00 + q) (ofLE ((x.body.drop 12).take 4)) t ∧
          (compOn a 1 = true → entryWritten a q x.seq 0x0023 0 0 t ∧ ∀ y ∈ t.cmd.pkts, y.id ≠ x.id) ∧
          (compOn a 1 = false → { x with st := 4, status := 0x0023, applied := 0, detail := 0 } ∈ t.cmd.pkts)))))

/-- R368 to R370, R455: a word written by a mailbox's sender is full, with its sender, and over an unread word counts a collision; it raises
the receiver's vector, but none towards the BMC bridge (log entry 111); its receiver
reads and empties it; the main core answers each request in the mailbox of the answer. -/
def Obligations.MailboxesCarryRequests : Prop :=
  ∀ (dt m : Nat) (s a : State), a = advance dt s → m < 32 →
    (∀ (agent : Byte) (v : Word), mayWrite a agent.toNat (0xC3004 + 16 * m) = true →
      (mbxWriter a m agent.toNat = true → Answers (.mbxWrite dt agent m v) s (fun t => getF t (MBX.DATA.WORD m) = v.toNat ∧
        getB t (MBX.STATUS.FULL m) = true ∧ getF t (MBX.STATUS.SENDER m) = agent.toNat ∧
        (getB a (MBX.STATUS.FULL m) = true → getB t (MBX.STATUS.COLLISION m) = true ∧
          getF t (MBX.STATUS.COLLISIONS m) = min (getF a (MBX.STATUS.COLLISIONS m) + 1) 65535) ∧
        (getB a (MBX.STATUS.FULL m) = false → getF t (MBX.STATUS.COLLISIONS m) = getF a (MBX.STATUS.COLLISIONS m)) ∧
        (∀ dest, dest = (if agent.toNat = mbxA a m then mbxB a m else mbxA a m) →
          (getB a (MBX.CFG.IRQ_EN m) = false ∨ dest = 0x02 → t.cmd = a.cmd) ∧
          (getB a (MBX.CFG.IRQ_EN m) = true → dest ≠ 0x02 → ∀ x, x = (if dest = 0x40 then 32 else getF a (MBX.CFG.VECTOR m)) →
            aGet 0 t.cmd.vecs x = aGet 0 a.cmd.vecs x + 1)) ∧ waitingSame a t)) ∧
      (mbxWriter a m agent.toNat = false → Answers (.mbxWrite dt agent m v) s (untouched a))) ∧
    (∀ agent : Byte, mayRead a agent.toNat (0xC3004 + 16 * m) = true →
      (mbxMode a m ≠ 0 → agent.toNat = mbxReceiver a m → Answers (.mbxRead dt agent m) s (fun t =>
        t.bus.rdata.toNat = getF a (MBX.DATA.WORD m) % 2 ^ 32 ∧ getB t (MBX.STATUS.FULL m) = false ∧ unitsSame a t ∧
        fieldsBut [MBX.STATUS.FULL m] a t)) ∧
      (mbxMode a m = 0 ∨ agent.toNat ≠ mbxReceiver a m → Answers (.mbxRead dt agent m) s (fun t => t.bus.rdata = 0 ∧ unitsSame a t ∧
        fieldsBut [] a t))) ∧
    (mbxRequest a m = none → Answers (.ping dt m) s (untouched a) ∧ Answers (.generation dt m) s (untouched a) ∧
      Answers (.state dt m) s (untouched a) ∧ Answers (.mbxUnknownRequest dt m) s (untouched a)) ∧
    (∀ w b, mbxRequest a m = some w → replyBox m = some b →
      let answered := fun (r : Nat) (t : State) => getF t (MBX.DATA.WORD b) = r % 2 ^ 32 ∧ getB t (MBX.STATUS.FULL b) = true ∧
        getF t (MBX.STATUS.SENDER b) = 0x40 ∧ (b ≠ m → getB t (MBX.STATUS.FULL m) = false)
      (mbxWriter a b 0x40 = true →
        (w / 2 ^ 24 = 1 → Answers (.ping dt m) s (answered w)) ∧
        (w / 2 ^ 24 = 2 → Answers (.generation dt m) s (answered (0x02000000 + getF a FW.GENERATION.GENERATION % 2 ^ 24))) ∧
        (w / 2 ^ 24 = 3 → Answers (.state dt m) s (answered (0x03000000 + runState a + 4 * hostState a + 16 * b2n (safeOn a)))) ∧
        (w / 2 ^ 24 ≠ 1 → w / 2 ^ 24 ≠ 2 → w / 2 ^ 24 ≠ 3 → Answers (.mbxUnknownRequest dt m) s (answered (0xFF000000 + w / 2 ^ 24)))) ∧
      (w / 2 ^ 24 ≠ 1 → Answers (.ping dt m) s (untouched a)) ∧ (w / 2 ^ 24 ≠ 2 → Answers (.generation dt m) s (untouched a)) ∧
      (w / 2 ^ 24 ≠ 3 → Answers (.state dt m) s (untouched a)) ∧
      (w / 2 ^ 24 = 1 ∨ w / 2 ^ 24 = 2 ∨ w / 2 ^ 24 = 3 → Answers (.mbxUnknownRequest dt m) s (untouched a)))

/-! ### Packets -/

/-- R349 to R354, Table 15-2: the packet at the head of a ring whose turn it is is judged by its slots and CRC, its SEQ, and the other
checks, in that order; the first that fails halts the ring or completes the packet with its status, and nothing else is done. -/
def Obligations.HeadPacketsAreChecked : Prop :=
  ∀ (dt q op key : Nat) (b c : Bool) (s a : State) (p : Pkt) (row : Instr), a = advance dt s → q < 72 → key < 2 ^ 256 → p = pktOf a q →
    (∀ x ∈ a.cmd.pkts, x.ring = q → x.st ≠ 3) → row = rowOf op dt q b c key →
    (ringTurn a q = false ∨ row ≠ rowOf (headOp a q) dt q b c key → Answers row s (untouched a)) ∧
    (ringTurn a q = true → row = rowOf (headOp a q) dt q b c key →
      let bad := slotsCheck a q (headLen a q)
      let halted := fun (info : Nat) (t : State) => ringSt t q = ringHalted ∧ entryWritten a q p.seq 0x0010 0 0 t ∧
        messageWaits 0xC0 (0xC00 + q) info t ∧ getF t (CMD.RING_HEAD.HEAD q) = ringHead a q ∧ waitingSame a t ∧ sensingSame a t ∧
        drivingSame a t ∧ t.cmd.pkts = a.cmd.pkts
      let inSeq := getB a (CMD.RING_STATUS.SEQ_VALID q) = false ∨ p.seq = getF a (CMD.RING_EXPECT.SEQ q)
      let turned := fun (st d : Nat) (t : State) => entryWritten a q p.seq st 0 d t ∧ waitingSame a t ∧ sensingSame a t ∧
        drivingSame a t ∧ t.inbox = a.inbox ∧ t.cmd.pkts = a.cmd.pkts ∧ getB t (CMD.RING_STATUS.SEQ_VALID q) = true ∧
        getF t (CMD.RING_EXPECT.SEQ q) = (p.seq + 1) % 2 ^ 32 ∧
        getF t (CMD.RING_HEAD.HEAD q) = (ringHead a q + p.slots) % ringSize a q % 4096
    (bad.1 = 2 → roomMsg a → Answers row s (halted (bad.2 + 2 ^ 31))) ∧
    (bad.1 ≤ 1 → p.crcOk = false → roomMsg a → Answers row s (halted (ringHead a q))) ∧
    (bad.1 ≤ 1 → p.crcOk = true → ¬ inSeq → Answers row s (fun t => turned 0x0011 0 t ∧
      getF t (CMD.RING_STATUS.BAD_SEQ q) = min (getF a (CMD.RING_STATUS.BAD_SEQ q) + 1) 255)) ∧
    (soundHead a q p →
      (p.ctx ≠ ctxOf q → Answers row s (turned 0x0012 0)) ∧
      (p.ctx = ctxOf q → p.op ∉ opcodes → Answers row s (turned 0x0013 0)) ∧
      (p.ctx = ctxOf q → p.op ∈ opcodes → p.slots ≠ slotsNeeded p → Answers row s (turned 0x0014 0)) ∧
      (p.ctx = ctxOf q → p.op ∈ opcodes → p.slots = slotsNeeded p → p.tag ∉ tagsOf p.op → Answers row s (turned 0x0015 0)) ∧
      (∀ st d, checkFail (judged a q p) p = some (st, d) → Answers row s (turned st d))))

/-- R247, R352, R362 to R364, R382, R414, R426, R433, R438: a packet that passes its checks and is not tagged does its work at once and
completes with the status, APPLIED and DETAIL of Table 15-5; MARK, JOB_ATTACH, UPDATE_ACTIVATE and EVR_FLUSH stay outstanding for theirs. -/
def Obligations.ImmediatePacketsComplete : Prop :=
  ∀ (dt q : Nat) (s a u : State) (p : Pkt), a = advance dt s → q < 72 → waitingOk a → passes a q p u →
    let open5 := fun (t : State) => t.cmd.nextId = a.cmd.nextId + 1 ∧ ∃ y ∈ t.cmd.pkts, y.id = a.cmd.nextId ∧ y.op = p.op ∧ y.seq = p.seq ∧
      y.ring = q ∧ y.st = 5
    (p.op = 0x00 → p.tag = 0 → Answers (.nop dt q) s (fun t => entryWritten u q p.seq 0 0 a.time.step t ∧ waitingSame a t ∧
      sensingSame a t ∧ drivingSame a t ∧ t.cmd.pkts = a.cmd.pkts)) ∧
    (p.op = 0x01 → p.tag = 0 →
      ((∀ x ∈ p.items, x.1 ≠ 0xA0020) → ∀ v, v = p.items.foldl (fun w x => busWrite 0x40 x.1 (mergeWord w x.1 x.2.1 x.2.2) 15 w) u →
        Answers (.regWrite dt q) s (fun t => entryWritten v q p.seq 0 p.items.length p.items.length t ∧ waitingSame v t ∧
          sensingSame v t ∧ drivingSame v t ∧ t.evr = v.evr ∧ t.flc = v.flc ∧ t.bus = v.bus ∧
          fieldsBut [CMD.RING_CQ_TAIL.CQ_TAIL q, CMD.LAST_APPLIED.SEQ q, CMD.RING_STATUS.STATE q, FLC.INJECT.ARM, FLC.INJECT_STATUS.FIRED,
            FLC.INJECT_STATUS.LAST_CHECKER] v t)) ∧
      (∀ x, p.items = [x] → x.1 = 0xA0020 → x.2.1 % 65536 = 0x4AB5 → x.2.2 % 65536 = 65535 → updState a ≠ updGap → atRest a = false →
        a.landing = [] → Answers (.regWrite dt q) s (fun t => getF t STA.RESET_STATUS.LAST_RESET = 3 ∧
          getF t STA.RESET_STATUS.AGENT = 0x40 ∧ t.time.step = 0))) ∧
    (p.op = 0x02 → ∀ v w, v = busRead 0x01 (p.num 16 4) none u → w = busRead 0x01 (p.num 20 4) none v →
      Answers (.regRead dt q) s (entryWritten w q p.seq 0 0 (v.bus.rdata.toNat + 2 ^ 32 * w.bus.rdata.toNat))) ∧
    (p.op = 0x03 → (roomRec a → Answers (.mark dt q) s (fun t => open5 t ∧ ∃ r ∈ t.inbox, r.isRec = true ∧ r.kind = 5 ∧
        r.info = a.cmd.nextId ∧ r.body = toLE 6 a.time.step ++ [p.ctx, 0] ++ (p.bytes.drop 16).take 16)) ∧
      (¬ roomRec a → Answers (.mark dt q) s (fun t => entryWritten u q p.seq 0 1 (freeVal a % 2 ^ 32) t ∧ t.inbox = a.inbox ∧
        getF t EVR.COUNTS.DROPPED = min (getF a EVR.COUNTS.DROPPED + 1) 65535))) ∧
    (p.op = 0x08 → Answers (.jobAttach dt q) s (fun t => open5 t ∧ strobeHeard t = true ∧ t.cmd.jobId = p.num 16 4 ∧
      t.cmd.jobPort = p.at 20 % 16 ∧ getB t GLB.BOUNDARY_STATUS.JOB_ATTACHED = getB a GLB.BOUNDARY_STATUS.JOB_ATTACHED)) ∧
    (p.op = 0x0D → Answers (.getCapState dt q) s (entryWritten u q p.seq
      (if getF a LGV.STATUS.CAP_STATE = 0 then 0x0000 else if getF a LGV.STATUS.CAP_STATE = 3 then 0x0004 else 0x0003) 0
      (getF a LGV.EFF_CAP.EFF_CAP + 4096 * getF a LGV.STATUS.CAP_STATE + 65536 * a.time.step))) ∧
    (p.op = 0x21 → Answers (.logKeyRotate dt q) s (fun t => genCur t = (genCur a + 1) % 256 ∧ genPrev t = genCur a % 256 ∧
      prevValid t = true ∧ t.evr.saltPrev = a.evr.saltCur ∧ t.evr.log = a.evr.log ∧ t.evr.seals = a.evr.seals ∧
      getF t SEC.LOG_KEY.LEFT = (a.evr.seals.filter (fun e => e.2.gen == genCur a)).length % 8192 ∧ (roomRec a → eventWaits 0x0E03 t) ∧
      entryWritten u q p.seq 0 1 ((genCur a + 1) % 256) t)) ∧
    (p.op = 0x31 → Answers (.updateActivate dt q) s (fun t => open5 t ∧ updState t = updPending ∧ (roomRec a → eventWaits 0x0E41 t) ∧
      actTime t = (if p.num 16 8 = 0 then a.time.sys + 10000000 else p.num 16 8) % 2 ^ 64 ∧ getF t UPD.STATUS.DEFERRALS = 0 ∧
      getF t UPD.ACT_GROUP.MASK = p.num 24 2 ∧ t.upd.staged = a.upd.staged ∧ t.upd.slots = a.upd.slots)) ∧
    (p.op = 0x32 → Answers (.updateConfirm dt q) s (fun t => updState t ≠ updTrial ∧ t.upd.trial = false ∧ t.upd.slots = a.upd.slots ∧
      (∀ k ∈ a.upd.acted, k < 3 → floorOf a k < 65536 → floorOf t k = max (floorOf a k) (svnIn a (activeBank a) k)) ∧
      getB t UPD.STATUS.DUAL_SETTINGS = false ∧ (roomRec a → eventWaits 0x0E44 t) ∧ entryWritten u q p.seq 0 1 (trialId a) t)) ∧
    (p.op = 0x33 →
      (receiving a = false → updState a ≠ updPending → updState a ≠ updTrial → Answers (.updateAbort dt q) s (fun t =>
        entryWritten u q p.seq 0x0022 0 0 t ∧ t.upd = a.upd ∧ updState t = updState a)) ∧
      (receiving a = true → Answers (.updateAbort dt q) s (fun t => t.upd.check = [] ∧ (∀ k < 3, xferOf t (16 + k) = none) ∧
        (∀ y ∈ t.cmd.pkts, y.op = 0x30 → y.st ≠ 2 ∧ y.st ≠ 3) ∧ (roomRec a → eventWaits 0x0E46 t))) ∧
      (receiving a = false → updState a = updPending → Answers (.updateAbort dt q) s (fun t => updState t = updIdle ∧ t.upd.staged = [] ∧
        t.upd.slots = a.upd.slots ∧ (∀ y ∈ t.cmd.pkts, y.op ≠ 0x31) ∧ (roomRec a → eventWaits 0x0E46 t))) ∧
      (receiving a = false → updState a = updTrial → Answers (.updateAbort dt q) s (fun t => getB t UPD.STATUS.FALLBACK = true ∧
        getF t UPD.STATUS.FALLBACK_CAUSE = 3 ∧ runState t = runBoot ∧ t.upd.trial = false ∧ (roomRec a → eventWaits 0x0E46 t) ∧
        (waitingMsgs a < 250 → messageWaits 0xE9 0xE81 (3 + 256 * (trialId a % 2 ^ 24)) t)))) ∧
    (p.op = 0x39 → Answers (.evrFlush dt q) s (fun t => open5 t ∧
      (flushing a = false → t.evr.flush = 4 ∧ getB t EVR.STATUS.FLUSHING = true) ∧ (flushing a = true → t.evr = a.evr)))

/-- R149, R244, R290, R356 to R358, R362, R380, R391, R401, R402, R404, R411: a tagged packet that passes its checks is outstanding; its
values and its action wait for its boundary; a key that cannot be opened completes S_AUTH_FAIL instead, with its fault. -/
def Obligations.TaggedPacketsWaitForTheirStep : Prop :=
  ∀ (dt q : Nat) (s a u : State) (p : Pkt), a = advance dt s → q < 72 → waitingOk a → passes a q p u →
    (p.op = 0x00 → p.tag ≠ 0 → Answers (.nop dt q) s (takenTagged u p (some (.misc 0 0)))) ∧
    (p.op = 0x01 → p.tag ≠ 0 → Answers (.regWrite dt q) s (takenTagged u p none)) ∧
    (p.op = 0x09 → Answers (.jobDetach dt q) s (takenTagged u p (some .jobDetach))) ∧
    (p.op = 0x0C → Answers (.setCap dt q) s (takenTagged u p none)) ∧
    (p.op = 0x11 → Answers (.planStop dt q) s (takenTagged u p (some .planStop))) ∧
    (∀ key, key < 2 ^ 256 → p.op = 0x20 →
      (getB a SEC.STATUS.KX_READY = true → Answers (.sbKeyInstall dt q true key) s
        (takenTagged u p (some (.sbKey (p.at 16) (p.at 17) key)))) ∧
      (∀ opens : Bool, opens = false ∨ getB a SEC.STATUS.KX_READY = false → roomMsg a → Answers (.sbKeyInstall dt q opens key) s (fun t =>
        entryWritten u q p.seq 0x0029 0 0 t ∧ getB t SEC.STATUS.UNWRAP_FAIL = true ∧
        messageWaits 0xE2 0xE20 (p.at 16 + 256 * p.at 17) t ∧ t.bal = a.bal ∧ waitingSame a t))) ∧
    (p.op = 0x22 → Answers (.confMode dt q) s (takenTagged u p (some (.confMode (p.at 16 == 1))))) ∧
    (∀ x v n, p.op = 0x23 → p.at 16 = x → p.at 17 = v → p.num 20 4 = n →
      (v = 1 → partAssigned a x = false → Answers (.partitionAssign dt q) s (takenTagged u p (some (.assign x 1 n)))) ∧
      (v = 0 → partAssigned a x = true → Answers (.partitionAssign dt q) s (takenTagged u p (some (.assign x 0 n)))) ∧
      (v = 1 → partAssigned a x = true → Answers (.partitionAssign dt q) s (takenTagged u p (some (.misc 1 0)))) ∧
      (v = 0 → partAssigned a x = false → Answers (.partitionAssign dt q) s (takenTagged u p (some (.misc 1 0))))) ∧
    (p.op = 0x24 → Answers (.scrubBegin dt q) s (takenTagged u p (some (.scrubBegin (p.at 16))))) ∧
    (p.op = 0x25 → Answers (.scrubEnd dt q) s (takenTagged u p (some (.scrubEnd (p.at 16))))) ∧
    (p.op = 0x38 → Answers (.evrWatch dt q) s (takenTagged u p
      (some (.watch (p.at 16) (p.num 18 2) ((List.range (p.at 17)).map (fun i => p.num (24 + 4 * i) 4)))))) ∧
    (p.op = 0x3A → Answers (.faultPolicy dt q) s (takenTagged u p none))

/-- R111, R139 to R144, R365, R422: a block packet fetches its block; a block whose CRC is wrong or that has no transfer is refused; the
header is judged when it is whole, and the image when all of it has come: a segment is committed, a program loaded, an image checked. -/
def Obligations.BlocksAreTakenInParts : Prop :=
  ∀ (dt q op : Nat) (b c : Bool) (s a : State) (row : Instr), a = advance dt s → q < 72 → waitingOk a →
    row = (if op = 0x10 then .planSegmentBlock dt q else if op = 0x18 then .programBlock dt q else .updateBlock dt q b c) →
    op = 0x10 ∨ op = 0x18 ∨ op = 0x30 →
    let arrived := a.cmd.pkts.find? (fun x => x.ring == q && x.op == op && x.st == 3)
    (∀ u p, arrived = none → passes a q p u → p.op = op → Answers row s (fun t => t.cmd.nextId = a.cmd.nextId + 1 ∧
      (∃ y ∈ t.cmd.pkts, y.id = a.cmd.nextId ∧ y.op = op ∧ y.ring = q ∧ y.seq = p.seq ∧ y.body = p.bytes.drop 16 ∧ y.st = 2) ∧
      waitingSame a t ∧ sensingSame a t ∧ drivingSame a t ∧ t.cmd.xfers = a.cmd.xfers)) ∧
    (∀ x, arrived = some x → compOn a 1 = false ∨ compOn a (blockComp op) = false → Answers row s (untouched a)) ∧
    (∀ x off len k key stop, arrived = some x → compOn a 1 = true → compOn a (blockComp op) = true → off = ofLE (x.body.take 4) →
      len = x.data.length → k = nth x.body 6 → k < 4 → (op = 0x30 → k < 3) → key = blockKey x → stop = off + len →
      let entry := fun (st applied : Nat) (detail : Nat) (t : State) => entryWritten a q x.seq st applied detail t ∧
        ∀ y ∈ t.cmd.pkts, y.id ≠ x.id
      let whole := fun (m : Mem) (before got : List (Nat × Nat)) (t : State) => xferOf t key = none ∧
        (op = 0x10 → (planEntries m = none → entry 0 1 (xferDetail got accepted) t ∧ getB t (PSQ.SEG_COUNT.VALID (segHalf a m)) = true ∧
            memBytes t.psq.mem (524288 * segHalf a m) (16 * hdr m 0x18 4) = memBytes m (segBody m) (16 * hdr m 0x18 4)) ∧
          (∀ d i, planEntries m = some (d, i) → entry 0x0025 0 (xferDetail before ⟨0, 0, d, i⟩) t ∧ t.psq = a.psq ∧
            getF t PSQ.LOAD_STATUS.ENTRY = i % 32768)) ∧
        (op = 0x18 → ∀ d i, imageCheck m k = (d, i) → (d = 0 → entry 0 1 (xferDetail got accepted) t ∧ slotSt t k = 1) ∧
          (d ≠ 0 → entry 0x0024 0 (xferDetail before ⟨0, 0, d, i⟩) t ∧ slotSt t k = 0)) ∧
        (op = 0x30 → (∀ e ∈ a.upd.check, e.1 ≠ k) → t.upd.check = a.upd.check ++ [(k, x.id)] ∧ imageIn t (idleBank a) k = some ⟨m, hdr m 0x10 4⟩ ∧
          ∃ y ∈ t.cmd.pkts, y.id = x.id ∧ y.st = 5 ∧ y.detail = rangeBytes before)
    (crc32c x.data ≠ ofLE ((x.body.drop 8).take 4) → Answers row s (fun t => t.cmd.xfers = a.cmd.xfers ∧ waitingSame a t ∧
      sensingSame a t ∧ drivingSame a t ∧
      entry 0x002B 0 (match xferOf a key with | some z => rangeBytes z.got % 2 ^ 32 | none => 0) t)) ∧
    (crc32c x.data = ofLE ((x.body.drop 8).take 4) →
      (off ≠ 0 → op ≠ 0x30 → xferOf a key = none → Answers row s (fun t => entry 0x0022 0 0 t ∧ t.cmd.xfers = a.cmd.xfers)) ∧
      (∀ z got, off ≠ 0 → xferOf a key = some z → got = addRange off stop z.got →
        (z.refused = true ∨ (∃ n, z.len = some n ∧ n < stop) → Answers row s (fun t => entry 0x0022 0 (rangeBytes z.got % 2 ^ 32) t ∧
          xferOf t key = some z)) ∧
        (∀ n, z.refused = false → z.len = some n → stop ≤ n → covers got n = false → Answers row s (fun t =>
          entry 0 1 (rangeBytes got % 2 ^ 32) t ∧ xferOf t key = some ⟨memPut z.buf off x.data, got, some n, false⟩)) ∧
        (∀ n, z.refused = false → z.len = some n → stop ≤ n → covers got n = true → Answers row s (whole (memPut z.buf off x.data) z.got got))) ∧
      (let g := if op = 0x10 then planTarget else progTarget k
      off = 0 → op ≠ 0x30 → g.head ≤ len → ∀ m, m = memPut [] 0 x.data →
        (∀ st d, g.check a m = some (st, d) → Answers row s (fun t => entry st 0 (xferDetail [] ⟨0, 0, d, 0⟩) t ∧
          xferOf t key = some ⟨[], [], none, true⟩)) ∧
        (g.check a m = none → g.lenOf m < len → Answers row s (fun t => entry 0x0022 0 0 t ∧
          xferOf t key = some ⟨[], [], none, false⟩)) ∧
        (g.check a m = none → len < g.lenOf m → Answers row s (fun t => entry 0 1 (len % 2 ^ 32) t ∧
          xferOf t key = some ⟨m, [(0, len)], some (g.lenOf m), false⟩)) ∧
        (g.check a m = none → len = g.lenOf m → Answers row s (whole m [] [(0, len)]))) ∧
      (op = 0x30 → off = 0 →
        (updState a = updPending ∨ updState a = updGap ∨ updState a = updTrial → Answers row s (fun t =>
          entry 0x0020 0 0 t ∧ t.upd.slots = a.upd.slots)) ∧
        (updState a ≠ updPending → updState a ≠ updGap → updState a ≠ updTrial → (∀ e ∈ a.upd.check, e.1 ≠ k) →
          (k < 2 → len < 512 → Answers row s (fun t => entry 0x0016 0 0 t ∧ t.upd.slots = a.upd.slots)) ∧
          (xferOf a key = none → 512 ≤ len → ∀ m, m = memPut [] 0 x.data →
            (∀ st d, k < 2 → imgHeader k b c (unstage k a) m = some (st, d) → Answers row s (fun t =>
              entry st 0 (xferDetail [] ⟨0, 0, d, 0⟩) t ∧ t.upd.slots = a.upd.slots)) ∧
            (∀ st d, k = 2 → hdr m 0x10 4 < 512 ∨ 65536 < hdr m 0x10 4 → imgHeader k b c (unstage k a) m = some (st, d) →
              Answers row s (entry st 0 (xferDetail [] ⟨0, 0, d, 0⟩))) ∧
            (k = 2 ∧ hdr m 0x10 4 ≤ 65536 ∨ imgHeader k b c (unstage k a) m = none → len < hdr m 0x10 4 → Answers row s (fun t =>
              entry 0 1 (len % 2 ^ 32) t ∧ imageIn t (idleBank a) k = none ∧ updState t = updReceiving)))))))

/-! ### The recorder and the collector -/

/-- R373 to R381, R385, R413: a record before the recorder takes the next sequence number and its place in the buffer, or is withheld in a
scrub; an EPOCH record comes each 128 s of operating hours; a watch's snapshot is read, and its record, of two parts beyond 32 values,
takes its place before the recorder; a sealed granule shows only if it opens. -/
def Obligations.RecordsTakeTheirNumbers : Prop :=
  ∀ (dt : Nat) (s a : State), a = advance dt s →
    (let stored := fun (u : State) (typ : Nat) (body : List Nat) (t : State) => nextSeq t = (nextSeq u + 1) % 2 ^ 48 ∧
      ∀ g, lastGran u = some g → memBytes t.evr.buf (4096 * g.slot + g.fill) (8 + body.length) =
        (recBytes u (nextSeq u) typ body).map (fun b => b % 256)
    (∀ r rest, a.inbox = r :: rest → r.isRec = true → a.lostRec = 0 →
      let b := confBody a r.kind r.code r.body
      (scrubOn a = true → scrubType r.kind = false → Answers (.evrRecordPost dt) s (fun t => t.inbox = rest ∧ t.evr = a.evr ∧
        nextSeq t = nextSeq a ∧ getF t EVR.COUNTS.SUPPRESSED = min (getF a EVR.COUNTS.SUPPRESSED + 1) 65535)) ∧
      (scrubOn a = false ∨ scrubType r.kind = true → b.length = r.body.length → b.length ≤ 248 →
        ∀ v u, v = { a with inbox := rest } → u = roomFor (8 + b.length + secondPart r v) v → Answers (.evrRecordPost dt) s (fun t => t.inbox = rest ∧
          stored u r.kind b t ∧
          (∀ p, r.kind = 5 → pktGet a r.info = some p → entryWritten a p.ring p.seq 0 1 (nextSeq u % 2 ^ 32) t) ∧
          (∀ w < 8, scrubOn a = false → watchCount a w ≠ 0 → codeHit (getF a (EVR.WATCH.EVENT w)) r.kind r.code = true →
            aFind a.evr.snapAt w = none → ∃ n ∈ t.evr.snaps, n.w = w ∧ n.seq = nextSeq u % 2 ^ 32 ∧ n.vals = [] ∧
              n.at0 = a.time.ticks)))) ∧
    (∀ r rest, a.inbox = r :: rest → r.isRec = true → a.lostRec ≠ 0 → waitingMsgs a < 255 → Answers (.evrRecordPost dt) s (fun t =>
      t.lostRec = 0 ∧ getB t EVR.STATUS.LOSS = true ∧ messageWaits 0xD4 0xD02 (a.lostRec % 2 ^ 28 + 2 * 2 ^ 28) t)) ∧
    (a.inbox = [] ∨ (∃ r rest, a.inbox = r :: rest ∧ r.isRec = false) → Answers (.evrRecordPost dt) s (untouched a)) ∧
    (hours1024 a < a.evr.lastEpoch + 131072 → Answers (.evrEpochPeriodic dt) s (untouched a)) ∧
    (a.evr.lastEpoch + 131072 ≤ hours1024 a → Answers (.evrEpochPeriodic dt) s (fun t => t.evr.lastEpoch = hours1024 a ∧
      t.evr.started = true ∧ (∀ g, a.evr.opened = true → a.evr.started = true → lastGran a = some g → g.fill + 40 ≤ 4096 →
        stored a 1 (epochBody a (nextSeq a) 0) t))) ∧
    (∀ w m, w < 8 → 1 ≤ m →
      (a.evr.snaps.find? (fun n => decide (n.w = w)) = none → Answers (.watchSnapshot dt w m) s (untouched a)) ∧
      (∀ n vals, a.evr.snaps.find? (fun n => decide (n.w = w)) = some n →
        vals = n.vals ++ (((List.range (watchCount a w)).drop n.vals.length).take m).map (fun i =>
          hidden a 0x01 (getF a (EVR.WATCH_LIST.OFFSET w i)) (rawWord a 0x01 (getF a (EVR.WATCH_LIST.OFFSET w i)) false)) →
        ∀ step, step = (if n.vals = [] then a.time.step else n.step) →
        (vals.length < watchCount a w → Answers (.watchSnapshot dt w m) s (fun t => nextSeq t = nextSeq a ∧ t.evr.buf = a.evr.buf ∧
          ∃ n2 ∈ t.evr.snaps, n2.w = w ∧ n2.seq = n.seq ∧ n2.vals = vals ∧ n2.step = step)) ∧
        (watchCount a w ≤ vals.length → Answers (.watchSnapshot dt w m) s (fun t => (∀ n2 ∈ t.evr.snaps, n2.w ≠ w) ∧
          nextSeq t = nextSeq a ∧ (waitingRecs a < 63 → ∀ p, p = 0 ∨ (p = 1 ∧ 32 < vals.length) → ∃ r ∈ t.inbox, r.isRec = true ∧ r.kind = 8 ∧
            r.body = pad8 ([w, p + 2 * b2n n.split, getF a (EVR.WATCH.LIST_VER w), ((vals.drop (32 * p)).take 32).length] ++ toLE 4 n.seq ++
              toLE 8 step ++ ((vals.drop (32 * p)).take 32).flatMap (toLE 4))))))) ∧
    (∀ (agent : Byte) (n : Nat) (tag : Bool), n < 8192 → mayRead a agent.toNat (0xD8000 + 4 * n) = true → columnOf a agent.toNat = 0 →
      let g := bits (winCtrl a agent.toNat) 16 12
      let at0 := 32768 * bits (winCtrl a agent.toNat) 0 3 + 4 * n
      (bit (winCtrl a agent.toNat) 4 = true →
        (n < 1024 → granOpens a g tag = true → Answers (.evrWinFlashRead dt agent n tag) s (fun t =>
          t.bus.rdata.toNat = memLE a.evr.log (4096 * g + 4 * n) 4 ∧ unitsSame a t ∧ fieldsBut [] a t)) ∧
        (n < 1024 → granOpens a g tag = false → (aFind a.evr.seals g).isSome = true → roomMsg a →
          Answers (.evrWinFlashRead dt agent n tag) s (fun t => t.bus.rdata = 0 ∧ getB t EVR.STATUS.AUTH_BAD = true ∧
            messageWaits 0xE3 0xE30 g t ∧ unitsSame a t)) ∧
        (1024 ≤ n → Answers (.evrWinFlashRead dt agent n tag) s (fun t => t.bus.rdata = 0 ∧ unitsSame a t ∧ fieldsBut [] a t))) ∧
      (bit (winCtrl a agent.toNat) 4 = false → roomMsg a → Answers (.evrWinFlashRead dt agent n tag) s (fun t =>
        t.bus.rdata.toNat = memLE a.evr.buf at0 4 ∧ unitsSame a t ∧
        (2 ≤ aGet 0 a.evr.ecc (at0 / 8) → getB t EVR.STATUS.BUF_UNCORR = true ∧ messageWaits 0xD1 0xD01 (at0 / 8 * 8) t)))))

/-- R382 to R384, R395, R396, R412 to R415: a flush seals its granules at the write point and ends with its event; a granule that fails ends
it with its fault; the flusher erases ahead; migration re-seals the previous generation's granules one by one, and retires the generation. -/
def Obligations.FlushesSealTheBuffer : Prop :=
  ∀ (dt : Nat) (s a : State), a = advance dt s →
    (∀ ok, flushing a = false → Answers (.evrFlushDone dt ok) s (untouched a)) ∧
    (∀ ok n, flushing a = true → a.evr.head = [] → a.evr.again = 0 → a.evr.job.length ≤ 64 → writePt a < 4096 → erased a < 4096 →
      (∀ k ∈ a.evr.job, ∃ g ∈ a.evr.grans, g.slot = k) → n = (match ok with | some k => min k a.evr.job.length | none => a.evr.job.length) →
      Answers (.evrFlushDone dt ok) s (fun t => t.evr.flush = 0 ∧ t.evr.job = [] ∧ getB t EVR.STATUS.FLUSHING = false ∧
        writePt t = (writePt a + n) % 4096 ∧ erased t = erased a - n ∧ t.evr.savedHours = a.time.hours ∧
        t.evr.savedCycles = getF a EVR.CYCLES.CYCLES ∧ (roomRec a → eventWaits 0x0D01 t) ∧
        (∀ k ∈ a.evr.job.take n, ∀ g ∈ t.evr.grans, g.slot = k → g.flushed = true) ∧
        (∀ k rest, a.evr.job = k :: rest → 1 ≤ n → memBytes t.evr.log (4096 * writePt a) 4096 = memBytes a.evr.buf (4096 * k) 4096 ∧
          aFind t.evr.seals (writePt a) = some ⟨genCur a, sealCnt a, false⟩) ∧
        (n < a.evr.job.length → getB t EVR.STATUS.FLUSH_FAIL = true ∧ (roomMsg a → messageWaits 0xD0 0xD00 ((writePt a + n) % 4096) t)) ∧
        (getB a SEC.STATUS.PUF_OK = false → getB t EVR.STATUS.FLUSH_FAIL = true))) ∧
    (∀ ok, flushing a = true → a.evr.again ≠ 0 → Answers (.evrFlushDone dt ok) s (fun t => t.evr.flush = a.evr.again ∧
      getB t EVR.STATUS.FLUSHING = true)) ∧
    (let due := fun (x : Nat) => x + ms (100 * max 1 (getF a EVR.CTRL.FLUSH_MIN))
    (∀ x, a.evr.faultAt = some x → getB a EVR.STATUS.FLUSH_PENDING = true → due x ≤ a.time.ticks → Answers (.flushMinEnd dt) s (fun t =>
      getB t EVR.STATUS.FLUSH_PENDING = false ∧ t.evr.faultAt = some a.time.ticks ∧
      (flushing a = false → t.evr.flush = 1 ∧ getB t EVR.STATUS.FLUSHING = true) ∧
      (flushing a = true → t.evr.flush = a.evr.flush ∧ t.evr.again = 1))) ∧
    (a.evr.faultAt = none ∨ getB a EVR.STATUS.FLUSH_PENDING = false ∨ (∃ x, a.evr.faultAt = some x ∧ a.time.ticks < due x) →
      Answers (.flushMinEnd dt) s (untouched a))) ∧
    (∀ i, i = (writePt a + erased a) % 4096 → compOn a 7 = true → erased a < 4095 → Answers (.eraseAhead dt) s (fun t =>
      erased t = erased a + 1 ∧ writePt t = writePt a ∧ aFind t.evr.seals i = none ∧
      (∀ j, memByte t.evr.log j = if 4096 * i ≤ j ∧ j < 4096 * i + 4096 then 0 else memByte a.evr.log j) ∧
      (∀ x, aFind a.evr.seals i = some x → prevValid a = true → x.gen = genPrev a → 0 < getF a SEC.LOG_KEY.LEFT →
        getF t SEC.LOG_KEY.LEFT = (getF a SEC.LOG_KEY.LEFT - 1) % 8192))) ∧
    (compOn a 7 = false ∨ 4095 ≤ erased a → Answers (.eraseAhead dt) s (untouched a)) ∧
    (Answers (.hoursSave dt) s (fun t => t.evr = { a.evr with savedHours := a.time.hours, savedCycles := getF a EVR.CYCLES.CYCLES } ∧
      ramsSame a t ∧ fieldsBut [] a t)) ∧
    (let may := prevValid a = true ∧ getB a SEC.STATUS.PUF_OK = true ∧ flushing a = false ∧ a.phc.pwrFailN = true ∧
      a.evr.migAt + ms 10 ≤ a.time.ticks
    let retires := fun (t : State) => prevValid t = false ∧ t.evr.saltPrev = 0 ∧ (waitingRecs a < 64 → eventWaits 0x0E04 t)
    (¬ may → ∀ opens stop, Answers (.logMigrateGranule dt opens stop) s (untouched a)) ∧
    (may → migrateNext a = none → ∀ opens stop, Answers (.logMigrateGranule dt opens stop) s (fun t => t.evr.seals = a.evr.seals ∧
      t.evr.log = a.evr.log ∧ (getF a SEC.LOG_KEY.LEFT = 0 → retires t) ∧ (getF a SEC.LOG_KEY.LEFT ≠ 0 → prevValid t = true))) ∧
    (may → ∀ i, migrateNext a = some i → getF a SEC.LOG_KEY.LEFT < 8192 →
      (∀ stop, roomMsg a → Answers (.logMigrateGranule dt false stop) s (fun t => aFind t.evr.seals i = none ∧
        getF t SEC.MIGRATE_COUNTS.LOST = min (getF a SEC.MIGRATE_COUNTS.LOST + 1) 65535 ∧ messageWaits 0xE3 0xE30 i t ∧
        getF t SEC.LOG_KEY.LEFT = getF a SEC.LOG_KEY.LEFT - 1 ∧ (getF a SEC.LOG_KEY.LEFT ≤ 1 → retires t))) ∧
      (Answers (.logMigrateGranule dt true true) s (fun t => aFind t.evr.seals i = some ⟨genPrev a, sealCnt a, true⟩ ∧
        t.evr.log = a.evr.log ∧ getF t SEC.LOG_KEY.LEFT = getF a SEC.LOG_KEY.LEFT)) ∧
      (Answers (.logMigrateGranule dt true false) s (fun t => aFind t.evr.seals i = some ⟨genCur a, sealCnt a, false⟩ ∧
        t.evr.log = a.evr.log ∧ getF t SEC.LOG_KEY.LEFT = getF a SEC.LOG_KEY.LEFT - 1 ∧
        getF t SEC.MIGRATE_COUNTS.MIGRATED = min (getF a SEC.MIGRATE_COUNTS.MIGRATED + 1) 65535 ∧
        (getF a SEC.LOG_KEY.LEFT ≤ 1 → retires t)))))

/-- R386 to R394, R409, R410: an accepted message is kept, counted and, at its policy's N, makes its source severe with the policy's action;
severe marks clear by the host's ones; a self-fault brings the safe state; HB follows its reports; a key exchange draws a new pair. -/
def Obligations.FaultsAreCountedAndActedOn : Prop :=
  ∀ (dt : Nat) (s a : State), a = advance dt s →
    (∀ r rest word, a.inbox = r :: rest → r.isRec = false → r.code < 4096 → a.lostMsg = 0 → word = msgWord r.code r.kind r.info r.seq →
      Answers (.faultMessage dt) s (fun t => getF t FLC.LAST_LO.MESSAGE = word % 2 ^ 32 ∧ getF t FLC.LAST_HI.MESSAGE = word / 2 ^ 32 % 2 ^ 32 ∧
        getF t FLC.COUNTS.ACCEPTED = min (getF a FLC.COUNTS.ACCEPTED + 1) 65535 ∧
        getF t FLC.COUNTS.GAPS = (if r.seq = aGet 0 a.flc.expect (r.code / 256) then getF a FLC.COUNTS.GAPS
          else min (getF a FLC.COUNTS.GAPS + 1) 65535) ∧
        (getB a FLC.STATUS.SELF_FAULT = false → a.flc.bad = false → policyN a r.kind ≠ 0 → ∀ c,
          c = (if aGet 0 a.flc.count r.code = 0 ∨ aGet 0 a.flc.wstart r.code + ms (policyW a r.kind) ≤ a.time.ticks then 1
            else aGet 0 a.flc.count r.code + 1) →
          aGet 0 t.flc.count r.code = c ∧ aGet 0 t.flc.expect (r.code / 256) = (r.seq + 1) % 1024 ∧
          (c < policyN a r.kind → isSevere t r.code = isSevere a r.code ∧ t.flc.out = some (word, false) ∧ t.sta = a.sta) ∧
          (policyN a r.kind ≤ c → isSevere a r.code = false → isSevere t r.code = true ∧ getB t FLC.STATUS.SEVERE_ANY = true ∧
            t.flc.out = some (word, true) ∧
            (1 ≤ policyAct a r.kind → getB a FLC.CTRL.IRQ_EN = true → ∀ v, v = getF a FLC.CTRL.VECTOR →
              aGet 0 t.cmd.vecs v = aGet 0 a.cmd.vecs v + 1) ∧
            (policyAct a r.kind = 0 → t.cmd.vecs = a.cmd.vecs) ∧
            (2 ≤ policyAct a r.kind → flushing a = false → a.evr.faultAt = none → t.evr.flush = 1) ∧
            (policyAct a r.kind ≤ 1 → t.evr.flush = a.evr.flush) ∧
            (policyAct a r.kind = 3 → safeOn a = false → a.sta.safeDue = 0 → t.sta.safeDue = 3)) ∧
          (policyN a r.kind ≤ c → isSevere a r.code = true → t.flc.out = some (word, false))))) ∧
    (a.inbox = [] ∨ (∃ r rest, a.inbox = r :: rest ∧ r.isRec = true) → Answers (.faultMessage dt) s (untouched a)) ∧
    (∀ v (w : Word), v < 128 → Answers (.severeClear dt 0x01 v w) s (fun t => (∀ b < 32,
        (bit w.toNat b = true → bit (getF t (FLC.SEVERE.SEVERE v)) b = false ∧ aGet 0 t.flc.count (32 * v + b) = 0) ∧
        (bit w.toNat b = false → bit (getF t (FLC.SEVERE.SEVERE v)) b = bit (getF a (FLC.SEVERE.SEVERE v)) b ∧
          aGet 0 t.flc.count (32 * v + b) = aGet 0 a.flc.count (32 * v + b))) ∧
      getF t FLC.STATUS.SEVERE_COUNT = severeCount t % 65536 ∧ waitingSame a t ∧
      fieldsBut [FLC.SEVERE.SEVERE v, FLC.STATUS.SEVERE_COUNT, FLC.STATUS.SEVERE_ANY] a t)) ∧
    (∀ agent : Byte, agent ≠ 0x01 →
      (∀ v (w : Word), v < 128 → mayWrite a agent.toNat (0xD1000 + 4 * v) = true → Answers (.severeClear dt agent v w) s (untouched a)) ∧
      (∀ w : Word, mayWrite a agent.toNat 0xD0098 = true → Answers (.flcInject dt agent w) s (untouched a)) ∧
      (mayWrite a agent.toNat 0xE0008 = true → Answers (.kxNew dt agent) s (untouched a))) ∧
    (∀ info < 2 ^ 32,
      (getB a FLC.STATUS.SELF_FAULT = false → Answers (.flcSelfFault dt info) s (fun t => getB t FLC.STATUS.SELF_FAULT = true ∧
        getB t FLC.STATUS.HB_RUN = false ∧ safeOn t = true ∧ (safeOn a = false → getF t STA.SAFE_STATUS.CAUSE = 2) ∧
        (flushing a = false → t.evr.flush = 2))) ∧
      (getB a FLC.STATUS.SELF_FAULT = true → Answers (.flcSelfFault dt info) s (untouched a))) ∧
    (∀ w : Word,
      (confOn a = false → Answers (.flcInject dt 0x01 w) s (fun t => getF t FLC.INJECT.CHECKER = bits w.toNat 0 4 ∧
        getF t FLC.INJECT.BITS = bits w.toNat 8 2 ∧ getF t FLC.INJECT.ARM = bits w.toNat 16 1 ∧ unitsSame a t ∧
        fieldsBut [FLC.INJECT.CHECKER, FLC.INJECT.BITS, FLC.INJECT.ARM] a t)) ∧
      (confOn a = true → Answers (.flcInject dt 0x01 w) s (untouched a)) ∧
      Answers (.hbKick dt 0x40 w) s (fun t => t.flc = { a.flc with kickAt := some a.time.ticks } ∧
        getB t FLC.STATUS.HB_RUN = (if safeOn a = true ∨ getB a FLC.STATUS.SELF_FAULT = true then getB a FLC.STATUS.HB_RUN else true) ∧
        fieldsBut [FLC.STATUS.HB_RUN] a t) ∧
      ∀ agent : Byte, agent ≠ 0x40 → mayWrite a agent.toNat 0xD0088 = true → Answers (.hbKick dt agent w) s (untouched a)) ∧
    (let toggles := a.time.ticks % us 500 = 0 ∧ a.flc.hbAt ≠ a.time.ticks ∧ getB a FLC.STATUS.HB_RUN = true ∧ a.phc.resetN = true
    (toggles → Answers (.hbToggle dt) s (fun t => getB t FLC.STATUS.HB_LEVEL = !getB a FLC.STATUS.HB_LEVEL ∧
      t.flc = { a.flc with hbAt := a.time.ticks } ∧ fieldsBut [FLC.STATUS.HB_LEVEL] a t)) ∧
    (¬ toggles → Answers (.hbToggle dt) s (untouched a))) ∧
    (∀ x, a.flc.kickAt = some x →
      (x + ms (getC a FLC.CTRL.HB_TIMEOUT 10 255) ≤ a.time.ticks → Answers (.hbTimeout dt) s (fun t => getB t FLC.STATUS.HB_RUN = false ∧
        unitsSame a t ∧ fieldsBut [FLC.STATUS.HB_RUN] a t)) ∧
      (a.time.ticks < x + ms (getC a FLC.CTRL.HB_TIMEOUT 10 255) → Answers (.hbTimeout dt) s (untouched a))) ∧
    (a.flc.kickAt = none → Answers (.hbTimeout dt) s (untouched a)) ∧
    (getB a SEC.STATUS.PUF_OK = true → Answers (.kxNew dt 0x01) s (fun t => t.sec.kxDraw = true ∧ getB t SEC.STATUS.KX_READY = false ∧
      fieldsBut [SEC.STATUS.KX_READY] a t)) ∧
    (getB a SEC.STATUS.PUF_OK = false → Answers (.kxNew dt 0x01) s (untouched a)) ∧
    (∀ pub sig, (Instr.kxReady dt pub sig).wf = true →
      (a.sec.kxDraw = true → Answers (.kxReady dt pub sig) s (fun t => getB t SEC.STATUS.KX_READY = true ∧ t.sec.kxDraw = false ∧
        ∀ i < 24, getF t (SEC.KX_PUB.BYTES i) = ofLE ((pub.drop (4 * i)).take 4) ∧
          getF t (SEC.KX_SIG.BYTES i) = ofLE ((sig.drop (4 * i)).take 4))) ∧
      (a.sec.kxDraw = false → Answers (.kxReady dt pub sig) s (untouched a)))

/-! ### Firmware update -/

/-- R423, R426 to R435, R438: a full check stages the image or erases its slot; the lines are decided 200 µs before T; at T the activation
moves on, or makes the staged images active, with MAIN by way of a gap; a trial ends confirmed, or at its expiry in a fall-back. -/
def Obligations.UpdatesAreCheckedAndTried : Prop :=
  ∀ (dt : Nat) (s a : State), a = advance dt s →
    (∀ (sig digest content flash : Bool) (off : Nat) (row : Instr), row = .updFullCheckDone dt sig digest content flash off → row.wf = true →
      (compOn a 2 = false ∨ a.upd.check = [] → Answers row s (untouched a)) ∧
      (∀ k id rest, compOn a 2 = true → a.upd.check = (k, id) :: rest → imageIn a (idleBank a) k = none →
        Answers row s (fun t => t.upd.check = rest ∧ t.upd.slots = a.upd.slots)) ∧
      (∀ k id rest im, compOn a 2 = true → a.upd.check = (k, id) :: rest → imageIn a (idleBank a) k = some im →
        (fullVerdict a k im sig digest content flash = none → Answers row s (fun t => t.upd.check = rest ∧ k ∈ t.upd.staged ∧
          t.upd.verified = some (imgId im.bytes) ∧ t.upd.buf = im.bytes ∧ t.upd.slots = a.upd.slots ∧ (roomRec a → eventWaits 0x0E40 t) ∧
          ∀ p, pktGet a id = some p → entryWritten a p.ring p.seq 0 1 im.len t)) ∧
        (∀ st d, fullVerdict a k im sig digest content flash = some (st, d) → Answers row s (fun t => t.upd.check = rest ∧
          t.upd.staged = a.upd.staged ∧ t.upd.verified = none ∧ imageIn t (idleBank a) k = none ∧
          (d = 9 → roomMsg a → messageWaits 0xEC 0xE84 off t) ∧
          ∀ p, pktGet a id = some p → entryWritten a p.ring p.seq st 0 (p.detail + 2 ^ 32 * d) t)))) ∧
    (let due := compOn a 2 = true ∧ updState a = updPending ∧ a.upd.decided = false ∧ actWithin a 200000 = true
    let calm := actEmergency a = false ∧ ∀ x, a.upd.emergAt = some x → x + ms 10 ≤ a.time.ticks
    (due → calm → Answers (.actDecision dt) s (fun t => t.upd = { a.upd with decided := true, deferOut := false } ∧ fieldsBut [] a t)) ∧
    (due → ¬ calm → Answers (.actDecision dt) s (fun t => t.upd = { a.upd with decided := true, deferOut := true } ∧ fieldsBut [] a t)) ∧
    (¬ due → Answers (.actDecision dt) s (untouched a))) ∧
    (∀ lines caravan row, row = .actSlot dt lines caravan → row.wf = true →
      (compOn a 2 = false ∨ updState a ≠ updPending ∨ actWithin a 0 = false → Answers row s (untouched a)) ∧
      (∀ seen, compOn a 2 = true → updState a = updPending → actWithin a 0 = true →
        seen = Nat.land (getF a UPD.ACT_GROUP.MASK) (lines / 2 * 2 + b2n (actDecide a).upd.deferOut) →
        (∀ next, seen ≠ 0 → next = actTime a + 1000000 * getC a UPD.CTRL.ACT_SLOT_MS 10 255 → Answers row s (fun t =>
          updState t = updPending ∧ actTime t = next % 2 ^ 64 ∧ t.upd.decided = false ∧ t.upd.staged = a.upd.staged ∧
          t.upd.slots = a.upd.slots ∧ getF t UPD.STATUS.DEFERRALS = min (getF a UPD.STATUS.DEFERRALS + 1) 255 ∧
          getF t UPD.ACT_GROUP.DEFER_SEEN = seen % 65536 ∧ (roomRec a → eventWaits 0x0E42 t) ∧
          (bit seen 0 = true → roomMsg a → messageWaits 0xE8 0xE80 (next / 1000) t))) ∧
        (seen = 0 → receiving a = false → activeBank a < 2 → a.upd.staged.Nodup → (∀ k ∈ a.upd.staged, k < 3) →
          (0 ∈ a.upd.staged → Answers row s (fun t => updState t = updGap ∧ runState t = runGap ∧ activeBank t = idleBank a ∧
            t.upd.staged = [] ∧ t.upd.trial = true ∧ t.upd.acted = a.upd.staged ∧ t.upd.oldBank = activeBank a ∧
            t.upd.gapAt = a.time.ticks ∧ t.upd.caravan = caravan ∧ (∀ c < 8, compState t c = coStopped) ∧
            (∀ j < 4, coreState t j = crHeld) ∧ getF t UPD.GAP.CARAVAN_LEN = cdiv caravan.length 64 ∧
            ∀ k < 3, imageIn t (activeBank t) k = imageIn a (if k ∈ a.upd.staged then idleBank a else activeBank a) k)) ∧
          (0 ∉ a.upd.staged → Answers row s (fun t => updState t = updTrial ∧ t.upd.trialAt = a.time.ticks ∧ t.upd.staged = [] ∧
            t.upd.trial = true ∧ activeBank t = activeBank a ∧ runState t = runState a ∧ (∀ y ∈ t.cmd.pkts, y.op ≠ 0x31) ∧
            (∀ k < 3, imageIn t (activeBank t) k = imageIn a (if k ∈ a.upd.staged then idleBank a else activeBank a) k) ∧
            ∀ p, a.cmd.pkts.filter (fun y => y.op == 0x31) = [p] →
              entryWritten a p.ring p.seq (if actTime a = a.upd.reqT then 0x0000 else 0x0005) 1 (actTime a) t))))) ∧
    (∀ (image : NewImage) (row : Instr), row = .updHandover dt image → row.wf = true →
      (updState a ≠ updGap → a.upd.resetDue = none → Answers row s (untouched a)) ∧
      (updState a = updGap → a.upd.resetDue = none → a.upd.verified ≠ some (idIn a (activeBank a) 0) →
        bankPasses a (activeBank a) (bankOk image.ok0 image.ok1 (activeBank a)) = false →
        ((passOver image.ok0 image.ok1 image.detail a).2 = false → Answers row s (fun t => coreState t 0 = crFailed ∧ runState t = runBoot)) ∧
        ((passOver image.ok0 image.ok1 image.detail a).2 = true → a.fw.absentOwed = false → Answers row s (fun t => updState t ≠ updGap ∧ updState t ≠ updTrial ∧
          getB t UPD.STATUS.FALLBACK = true ∧ getF t UPD.STATUS.FALLBACK_CAUSE = 5 ∧ t.upd.trial = false ∧
          (∀ k < 4, coreState t k = crRunning) ∧ ∀ y ∈ t.cmd.pkts, y.op ≠ 0x31))) ∧
      (updState a = updGap → a.upd.resetDue = none → a.fw.absentOwed = false →
        a.upd.verified = some (idIn a (activeBank a) 0) ∨ bankPasses a (activeBank a) (bankOk image.ok0 image.ok1 (activeBank a)) = true →
        Answers row s (fun t =>
        updState t = updTrial ∧ t.upd.trialAt = a.time.ticks ∧ runState t = (if safeOn a = true then runSafe else runRunning) ∧
        (∀ k < 4, coreState t k = crRunning) ∧ (∀ c < 8, compState t c = coRunning) ∧
        getF t UPD.CARAVAN.ADOPTED = adoptedMask a.upd.caravan image.decl % 256 ∧
        getF t UPD.CARAVAN.REBUILT = (255 - adoptedMask a.upd.caravan image.decl) % 256 ∧
        getF t UPD.GAP.LAST_GAP = min ((a.time.ticks - a.upd.gapAt) / 100) 65535 ∧
        getF t FW.GENERATION.GENERATION = (getF a FW.GENERATION.GENERATION + 1) % 2 ^ 32 ∧ (∀ y ∈ t.cmd.pkts, y.op ≠ 0x31) ∧
        getF t FW.IMAGE.IMAGE_ID = idIn a (activeBank a) 0 ∧ (roomRec a → eventWaits 0x0E43 t) ∧
        (caravanOk a.upd.caravan = false → adoptedMask a.upd.caravan image.decl = 0 ∧ (roomMsg a →
          messageWaits 0xEB 0xE83 a.upd.caravan.length t)))) ∧
      (∀ agent, updState a = updGap → a.upd.resetDue = some (2, agent) → atRest a = false →
        a.upd.verified = some (idIn a (activeBank a) 0) → Answers row s (fun t =>
        t.upd.resetDue = none ∧ getF t STA.RESET_STATUS.LAST_RESET = 2 ∧ t.time.step = 0))) ∧
    (let held := compOn a 2 = true ∧ updState a = updTrial ∧ getB a UPD.CTRL.AUTO_CONFIRM = true ∧ selfCheck a = true ∧
      a.upd.selfBad + ms 10000 ≤ a.time.ticks
    (held → Answers (.autoConfirm dt) s (fun t => updState t ≠ updTrial ∧ t.upd.trial = false ∧ t.upd.slots = a.upd.slots ∧
      (∀ k ∈ a.upd.acted, k < 3 → floorOf a k < 65536 → floorOf t k = max (floorOf a k) (svnIn a (activeBank a) k)) ∧
      (roomRec a → eventWaits 0x0E44 t) ∧ getB t UPD.STATUS.FALLBACK = getB a UPD.STATUS.FALLBACK)) ∧
    (¬ held → Answers (.autoConfirm dt) s (untouched a))) ∧
    (let expired := updState a = updTrial ∧ a.upd.trialAt + ms (1000 * getC a UPD.CTRL.CONFIRM_S 10 255) ≤ a.time.ticks
    (expired → Answers (.trialExpiry dt) s (fun t => updState t ≠ updTrial ∧ getB t UPD.STATUS.FALLBACK = true ∧
      getF t UPD.STATUS.FALLBACK_CAUSE = 1 ∧ t.upd.trial = false ∧ runState t = runBoot ∧ t.fw.restarts = a.fw.restarts ∧
      (0 ∈ a.upd.acted → activeBank t = a.upd.oldBank % 2) ∧ (roomRec a → eventWaits 0x0E45 t) ∧
      (waitingMsgs a < 255 → messageWaits 0xE9 0xE81 (1 + 256 * (trialId a % 2 ^ 24)) t))) ∧
    (¬ expired → Answers (.trialExpiry dt) s (untouched a)))

/-! ### PMBus -/

/-- R456 to R460: every command answers for its page and changes nothing outside the interface but by its bus access; an invalid page or
command answers ones and sets its CML bit; the reply table and the latched bits follow on the 1 ms grid while the helper runs. -/
def Obligations.PmbusAnswersForItsPage : Prop :=
  ∀ (dt m : Nat) (s a : State), a = advance dt s →
    (let rd := fun (row : Instr) (pages : List Nat) (n : Nat) (v : Nat → Nat) =>
      (pageOf a m ∈ pages → Answers row s (fun t => untouched a t ∧ t.pmb.reply = toLE n (v (pageOf a m)) ∧ t.pmb.lat = a.pmb.lat ∧
        t.pmb.page = a.pmb.page)) ∧
      (pageOf a m ∉ pages → Answers row s (fun t => untouched a t ∧ t.pmb.reply = List.replicate n 0xFF ∧
        bit (latOf t latCml) 7 = true ∧ t.pmb.page = a.pmb.page))
    let table := fun (row : Instr) (pages : List Nat) (code : Nat) =>
      rd row pages 2 (fun p => aGet 0 a.pmb.table (tableKey code p (column a)))
    rd (.capability dt m) [0, 1, 2, 3, 4] 1 (fun _ => 0xD0) ∧ rd (.voutMode dt m) [0, 1, 2, 3] 1 (fun _ => 0x14) ∧
    rd (.pmbusRevision dt m) [0, 1, 2, 3, 4] 1 (fun _ => 0x33) ∧
    rd (.statusByte dt m) [0, 1, 2, 3, 4] 1 (fun p => statusWord a p % 256) ∧ rd (.statusWord dt m) [0, 1, 2, 3, 4] 2 (statusWord a) ∧
    rd (.statusVout dt m) [0, 1, 2, 3, 4] 1 (fun p => if p < 4 then latOf a p else 0) ∧
    rd (.statusIout dt m) [0, 1, 2, 3, 4] 1 (fun p => latOf a (8 + p)) ∧ rd (.statusInput dt m) [4] 1 (fun _ => latOf a latInput) ∧
    rd (.statusTemperature dt m) [0, 1, 2, 3, 4] 1 (fun _ => latOf a latTemp) ∧
    rd (.statusCml dt m) [0, 1, 2, 3, 4] 1 (fun _ => latOf a latCml) ∧
    rd (.statusMfrSpecific dt m) [0, 1, 2, 3, 4] 1 (fun _ => mfrByte a) ∧
    table (.readVin dt m) [4] 0x88 ∧ table (.readIin dt m) [4] 0x89 ∧ table (.readVout dt m) [0, 1, 2, 3] 0x8B ∧
    table (.readIout dt m) [0, 1, 2, 3] 0x8C ∧ table (.readTemperature1 dt m) [0, 1, 2, 3, 4] 0x8D ∧
    table (.readTemperature2 dt m) [4] 0x8E ∧ table (.readTemperature3 dt m) [4] 0x8F ∧
    table (.readPout dt m) [0, 1, 2, 3, 4] 0x96 ∧ table (.readPin dt m) [4] 0x97) ∧
    (pageOf a m = 4 → Answers (.mfrReadEnergy dt m) s (fun t => untouched a t ∧
      t.pmb.reply = 8 :: toLE 8 (aGet 0 a.pmb.table (tableKey 0xD0 4 (column a))))) ∧
    (pageOf a m ≠ 4 → Answers (.mfrReadEnergy dt m) s (fun t => untouched a t ∧ t.pmb.reply = List.replicate 9 0xFF ∧
      bit (latOf t latCml) 7 = true)) ∧
    (let text := fun (row : Instr) (code : Nat) =>
      (imageIn a (activeBank a) 2 = none → Answers row s (fun t => untouched a t ∧ t.pmb.reply = [0])) ∧
      (∀ x b, imageIn a (activeBank a) 2 = some x → b = ((Config.boardString code (imgId x.bytes)).map (· % 256)).take 255 →
        Answers row s (fun t => untouched a t ∧ t.pmb.reply = b.length :: b))
    text (.mfrId dt m) 0x99 ∧ text (.mfrModel dt m) 0x9A ∧ text (.mfrRevision dt m) 0x9B ∧ text (.mfrSerial dt m) 0x9E) ∧
    (let badPec := fun (t : State) => untouched a t ∧ bit (latOf t latCml) 5 = true ∧ t.pmb.page = a.pmb.page ∧ t.pmb.addr = a.pmb.addr ∧
      t.pmb.reply = a.pmb.reply
    (∀ pec, Answers (.page dt m none pec) s (fun t => untouched a t ∧ t.pmb.reply = [pageOf a m] ∧ t.pmb.page = a.pmb.page)) ∧
    (∀ v, v ≤ 4 → Answers (.page dt m (some v) true) s (fun t => untouched a t ∧ pageOf t m = v ∧ t.pmb.lat = a.pmb.lat ∧
      ∀ m2, m2 ≠ m → pageOf t m2 = pageOf a m2)) ∧
    (∀ v, 4 < v → v < 256 → Answers (.page dt m (some v) true) s (fun t => untouched a t ∧ bit (latOf t latCml) 6 = true ∧
      t.pmb.page = a.pmb.page)) ∧
    (∀ v, v < 256 → Answers (.page dt m (some v) false) s badPec) ∧
    Answers (.clearFaults dt true) s (fun t => untouched a t ∧ t.pmb.lat = []) ∧ Answers (.clearFaults dt false) s badPec ∧
    (∀ v, v < 2 ^ 32 → Answers (.mfrBusAddr dt v true) s (fun t => untouched a t ∧ t.pmb.addr = v % 2 ^ 20 / 4 * 4) ∧
      Answers (.mfrBusAddr dt v false) s badPec) ∧
    (let after := fun (b t : State) => t.pmb.addr = (b.pmb.addr + 4) % 2 ^ 20 ∧ t.time = b.time ∧ t.bus = b.bus ∧ t.inbox = b.inbox ∧
      unitsSame b t ∧ waitingSame b t ∧ fieldsBut [] b t
    (∀ pec b, b = busRead 0x02 a.pmb.addr none a → Answers (.mfrBusData dt none pec) s (fun t => after b t ∧
      t.pmb.reply = 4 :: toLE 4 b.bus.rdata.toNat)) ∧
    (∀ (w : Word) b, b = busWrite 0x02 a.pmb.addr w.toNat 15 a → Answers (.mfrBusData dt (some w) true) s (after b))) ∧
    (∀ w : Word, Answers (.mfrBusData dt (some w) false) s badPec) ∧
    (∀ n, Answers (.pmbusInvalidCommand dt true n) s (fun t => untouched a t ∧ t.pmb.reply = List.replicate n 0xFF ∧
      bit (latOf t latCml) 7 = true) ∧ Answers (.pmbusInvalidCommand dt false n) s badPec)) ∧
    Answers (.pmbusSclTimeout dt) s (fun t => untouched a t ∧ t.pmb.reply = [] ∧ bit (latOf t latCml) 1 = true ∧ t.pmb.page = a.pmb.page) ∧
    (a.pmb.alert = true → Answers (.smbusAlertResponse dt) s (fun t => untouched a t ∧ t.pmb.reply = [2 * pmAddr a] ∧
      (a.pmb.live = liveNow a → t.pmb.alert = false))) ∧
    (a.pmb.alert = false → Answers (.smbusAlertResponse dt) s (fun t => untouched a t ∧ t.pmb.reply = [])) ∧
    (a.time.ticks % 100000 = 0 → compOn a 7 = true → hostAbsentNow a = false → Answers (.pmbusTableRefresh dt) s (fun t => untouched a t ∧
      t.pmb.tableAt = a.time.ticks ∧
      (∀ r ∈ tableRows, ∀ c < 3, aGet 0 t.pmb.table (tableKey r.1 r.2 c) = readout a r.1 r.2 c) ∧
      (∀ i b, bit (latOf a i) b = true → bit (latOf t i) b = true) ∧
      (a.phc.pwrFailN = false → bit (latOf t latInput) 4 = true) ∧ (getB a TMG.TRIP.TRIPPED = true → bit (latOf t latTemp) 7 = true) ∧
      (getB a TMG.STATUS.WARN = true → bit (latOf t latTemp) 6 = true) ∧
      (getF a LGV.STATUS.CAP_STATE ≠ 0 → bit (latOf t (latIout 4)) 0 = true) ∧
      (∀ k < 4, railSt a k = rsLatch → getF a (PHC.RAIL_SEQ.CAUSE k) = 4 → bit (latOf t (latVout k)) 7 = true))) ∧
    (a.time.ticks % 100000 ≠ 0 ∨ compOn a 7 = false ∨ hostAbsentNow a = true → Answers (.pmbusTableRefresh dt) s (untouched a))

/-! ### What waits -/

/-- R29, R31, R36, R355, R357: every step keeps what waits in canonical form: each landed, read-back, pending, frozen and held value once, and
outstanding packets with different numbers; the state after reset has it. -/
def Obligations.StepKeepsWhatWaits : Prop :=
  waitingOk State.reset ∧ ∀ s t : State, waitingOk s → step s = .next t → waitingOk t
end

