-- ==== Sys2Proof/Laws/Store.lean ====
section
/-! SUPPORT. Laws of the sparse tables and the RAMs: a read after a write, what a write leaves alone, the canonical form, and the
little-endian bytes (R12). -/

namespace Sys2Proof.Machine

variable {α : Type}

/-! ### Reads after writes -/

@[simp] theorem aFind_aIns_self (m : Assoc α) (k : Nat) (x : α) : aFind (aIns m k x) k = some x := by
  induction m with
  | nil => simp [aIns, aFind]
  | cons e r ih =>
    obtain ⟨j, v⟩ := e
    unfold aIns
    split
    · simp [aFind]
    · split
      · simp [aFind]
      · simp [aFind, ‹¬k = j›, ih]

theorem aFind_aIns_ne (m : Assoc α) {k q : Nat} (x : α) (h : q ≠ k) : aFind (aIns m k x) q = aFind m q := by
  induction m with
  | nil => simp [aIns, aFind, h]
  | cons e r ih =>
    obtain ⟨j, v⟩ := e
    unfold aIns
    split
    · simp [aFind, h]
    · split
      · subst j; simp [aFind, h]
      · simp [aFind, ih]

@[simp] theorem aFind_aDel_self (m : Assoc α) (k : Nat) : aFind (aDel m k) k = none := by
  induction m with
  | nil => rfl
  | cons e r ih =>
    obtain ⟨j, v⟩ := e
    unfold aDel
    split
    · exact ih
    · simp [aFind, ‹¬k = j›, ih]

theorem aFind_aDel_ne (m : Assoc α) {k q : Nat} (h : q ≠ k) : aFind (aDel m k) q = aFind m q := by
  induction m with
  | nil => rfl
  | cons e r ih =>
    obtain ⟨j, v⟩ := e
    unfold aDel
    split
    · subst j; simp [aFind, h, ih]
    · simp [aFind, ih]

@[simp] theorem aGet_aPut_self [DecidableEq α] (d : α) (m : Assoc α) (k : Nat) (x : α) : aGet d (aPut d m k x) k = x := by
  unfold aPut aGet
  split
  · simp [‹x = d›]
  · simp

theorem aFind_aPut_ne [DecidableEq α] (d : α) (m : Assoc α) {k q : Nat} (x : α) (h : q ≠ k) : aFind (aPut d m k x) q = aFind m q := by
  unfold aPut
  split
  · exact aFind_aDel_ne m h
  · exact aFind_aIns_ne m x h

theorem aGet_aPut_ne [DecidableEq α] (d d' : α) (m : Assoc α) {k q : Nat} (x : α) (h : q ≠ k) :
    aGet d' (aPut d m k x) q = aGet d' m q := by
  unfold aGet; rw [aFind_aPut_ne d m x h]

/-- A filter by key keeps what it lets pass and drops the rest. -/
theorem aFind_filter (p : Nat → Bool) (m : Assoc α) (q : Nat) :
    aFind (m.filter (fun e => p e.1)) q = if p q then aFind m q else none := by
  induction m with
  | nil => simp [aFind]
  | cons e r ih =>
    obtain ⟨j, v⟩ := e
    by_cases hj : p j
    · by_cases hq : q = j
      · subst hq; simp [hj, aFind]
      · simp [hj, aFind, hq, ih]
    · by_cases hq : q = j
      · subst hq; simp [hj, ih]
      · simp [hj, aFind, hq, ih]

/-! ### Canonical form -/

theorem aSortedFrom_weaken {b c : Nat} (h : c ≤ b) {m : Assoc α} (hm : aSortedFrom (some b) m = true) : aSortedFrom (some c) m = true := by
  cases m with
  | nil => rfl
  | cons e r => simp [aSortedFrom] at hm ⊢; exact ⟨by omega, hm.2⟩

theorem aSortedFrom_none {b : Nat} {m : Assoc α} (hm : aSortedFrom (some b) m = true) : aSortedFrom none m = true := by
  cases m with
  | nil => rfl
  | cons e r => simp [aSortedFrom] at hm ⊢; exact hm.2

theorem aSortedFrom_filter (p : Nat × α → Bool) {lo : Option Nat} {m : Assoc α} (hm : aSortedFrom lo m = true) :
    aSortedFrom lo (m.filter p) = true := by
  induction m generalizing lo with
  | nil => rfl
  | cons e r ih =>
    obtain ⟨k, v⟩ := e
    simp only [aSortedFrom, Bool.and_eq_true] at hm
    by_cases hp : p (k, v)
    · simp only [List.filter_cons, hp, if_true, aSortedFrom, Bool.and_eq_true]
      exact ⟨hm.1, ih hm.2⟩
    · simp only [List.filter_cons, hp, Bool.false_eq_true, if_false]
      have h := ih hm.2
      cases lo with
      | none => exact aSortedFrom_none h
      | some b => simp at hm; exact aSortedFrom_weaken (Nat.le_of_lt hm.1) h

theorem aSortedFrom_aDel (q : Nat) {lo : Option Nat} {m : Assoc α} (hm : aSortedFrom lo m = true) : aSortedFrom lo (aDel m q) = true := by
  induction m generalizing lo with
  | nil => rfl
  | cons e r ih =>
    obtain ⟨k, v⟩ := e
    simp only [aSortedFrom, Bool.and_eq_true] at hm
    unfold aDel
    split
    · have h := ih hm.2
      cases lo with
      | none => exact aSortedFrom_none h
      | some b => simp at hm; exact aSortedFrom_weaken (Nat.le_of_lt hm.1) h
    · simp only [aSortedFrom, Bool.and_eq_true]
      exact ⟨hm.1, ih hm.2⟩

theorem aSortedFrom_aIns (q : Nat) (x : α) {lo : Option Nat} {m : Assoc α} (hm : aSortedFrom lo m = true)
    (hq : ∀ b, lo = some b → b < q) : aSortedFrom lo (aIns m q x) = true := by
  induction m generalizing lo with
  | nil => cases lo <;> simp_all [aIns, aSortedFrom]
  | cons e r ih =>
    obtain ⟨k, v⟩ := e
    simp only [aSortedFrom, Bool.and_eq_true] at hm
    unfold aIns
    split
    · simp only [aSortedFrom, Bool.and_eq_true]
      refine ⟨by cases lo <;> simp_all, by simpa using ‹q < k›, hm.2⟩
    · split
      · simp only [aSortedFrom, Bool.and_eq_true]
        subst k
        exact ⟨hm.1, hm.2⟩
      · simp only [aSortedFrom, Bool.and_eq_true]
        exact ⟨hm.1, ih hm.2 (by intro b hb; cases hb; omega)⟩

theorem aIns_mem {m : Assoc α} {q : Nat} {x : α} {e : Nat × α} (h : e ∈ aIns m q x) : e = (q, x) ∨ e ∈ m := by
  induction m with
  | nil => simpa [aIns] using h
  | cons f r ih =>
    obtain ⟨k, v⟩ := f
    unfold aIns at h
    split at h
    · simpa using h
    · split at h
      · simp at h; rcases h with h | h <;> simp [h]
      · simp at h
        rcases h with h | h
        · simp [h]
        · rcases ih h with h | h <;> simp [h]

theorem aDel_mem {m : Assoc α} {q : Nat} {e : Nat × α} (h : e ∈ aDel m q) : e ∈ m ∧ e.1 ≠ q := by
  induction m with
  | nil => simp [aDel] at h
  | cons f r ih =>
    obtain ⟨k, v⟩ := f
    unfold aDel at h
    split at h
    · exact ⟨List.mem_cons_of_mem _ (ih h).1, (ih h).2⟩
    · simp at h
      rcases h with h | h
      · subst h; exact ⟨List.mem_cons_self, fun hk => by simp at hk; omega⟩
      · exact ⟨List.mem_cons_of_mem _ (ih h).1, (ih h).2⟩

section Canonical
variable [DecidableEq α]

theorem aWf_nil (d : α) : aWf d ([] : Assoc α) = true := rfl

/-- A write keeps the canonical form. -/
theorem aWf_aPut (d : α) (m : Assoc α) (k : Nat) (x : α) (hm : aWf d m = true) : aWf d (aPut d m k x) = true := by
  simp only [aWf, Bool.and_eq_true, List.all_eq_true, decide_eq_true_eq] at hm ⊢
  unfold aPut
  split
  · exact ⟨aSortedFrom_aDel k hm.1, fun e he => hm.2 e (aDel_mem he).1⟩
  · refine ⟨aSortedFrom_aIns k x hm.1 (by simp), fun e he => ?_⟩
    rcases aIns_mem he with h | h
    · subst h; assumption
    · exact hm.2 e h

theorem aWf_filter (d : α) (p : Nat × α → Bool) (m : Assoc α) (hm : aWf d m = true) : aWf d (m.filter p) = true := by
  simp only [aWf, Bool.and_eq_true, List.all_eq_true, decide_eq_true_eq] at hm ⊢
  exact ⟨aSortedFrom_filter p hm.1, fun e he => hm.2 e (List.mem_of_mem_filter he)⟩

end Canonical

/-- A store of bytes keeps the canonical form of a RAM. -/
theorem memWf_memPut (l : List Nat) (m : Mem) (a : Nat) (hm : memWf m = true) : memWf (memPut m a l) = true := by
  induction l generalizing m a with
  | nil => exact hm
  | cons b r ih => exact ih _ _ (aWf_aPut 0 m a _ hm)

theorem memWf_memPutLE (m : Mem) (a n v : Nat) (hm : memWf m = true) : memWf (memPutLE m a n v) = true := memWf_memPut _ m a hm

theorem memWf_memZero (m : Mem) (a n : Nat) (hm : memWf m = true) : memWf (memZero m a n) = true := aWf_filter 0 _ m hm

theorem memWf_foldl {β : Type} (g : Mem → β → Mem) (hg : ∀ m x, memWf m = true → memWf (g m x) = true) (l : List β) (m : Mem)
    (hm : memWf m = true) : memWf (l.foldl g m) = true := by
  induction l generalizing m with
  | nil => exact hm
  | cons x r ih => exact ih _ (hg m x hm)

theorem memWf_memCopy (m : Mem) (dst src n : Nat) (hm : memWf m = true) : memWf (memCopy m dst src n) = true :=
  memWf_foldl _ (fun _ _ h => aWf_aPut 0 _ _ _ h) _ _ (memWf_memZero m dst n hm)

/-! ### What a store of bytes leaves at each address -/

/-- Every byte outside the stored ones reads as before. -/
theorem memByte_memPut_out (l : List Nat) (m : Mem) (a q : Nat) (h : q < a ∨ a + l.length ≤ q) :
    memByte (memPut m a l) q = memByte m q := by
  induction l generalizing m a with
  | nil => rfl
  | cons b r ih =>
    simp only [List.length_cons] at h
    rw [memPut, ih _ _ (by omega)]
    exact aGet_aPut_ne 0 0 m _ (by omega)

/-- A stored byte reads as it was stored. -/
theorem memByte_memPut_in (l : List Nat) (m : Mem) (a i : Nat) (h : i < l.length) :
    memByte (memPut m a l) (a + i) = BitVec.ofNat 8 (l[i]) := by
  induction l generalizing m a i with
  | nil => simp at h
  | cons b r ih =>
    cases i with
    | zero =>
      rw [memPut, Nat.add_zero, memByte_memPut_out _ _ _ _ (by omega)]
      simp [memByte]
    | succ i =>
      have h' : i < r.length := by simpa using h
      have := ih (aPut 0 m a (BitVec.ofNat 8 b)) (a + 1) i h'
      rw [memPut, show a + (i + 1) = a + 1 + i by omega, this]
      simp

theorem memByte_memZero (m : Mem) (a n q : Nat) : memByte (memZero m a n) q = if a ≤ q ∧ q < a + n then 0 else memByte m q := by
  have hf := aFind_filter (fun k => decide (k < a) || decide (a + n ≤ k)) m q
  unfold memByte memZero aGet
  rw [hf]
  by_cases h : a ≤ q ∧ q < a + n
  · have : (decide (q < a) || decide (a + n ≤ q)) = false := by simp; omega
    simp [h, this]
  · have : (decide (q < a) || decide (a + n ≤ q)) = true := by simp; omega
    simp [h, this]

@[simp] theorem toLE_length (n v : Nat) : (toLE n v).length = n := by
  induction n generalizing v with
  | zero => rfl
  | succ n ih => simp [toLE, ih]

/-- Bytes of a number spell it again, as far as they reach (R12). -/
theorem ofLE_toLE (n v : Nat) : ofLE (toLE n v) = v % 256 ^ n := by
  induction n generalizing v with
  | zero => simp [toLE, ofLE, Nat.mod_one]
  | succ n ih =>
    simp only [toLE, ofLE, ih, Nat.mod_mod, pow_succ]
    rw [Nat.mul_comm (256 ^ n) 256, Nat.mod_mul]

theorem memBytes_eq_of (l : List Nat) (m : Mem) (a : Nat) (hl : ∀ b ∈ l, b < 256)
    (h : ∀ i (hi : i < l.length), memByte m (a + i) = BitVec.ofNat 8 (l[i])) : memBytes m a l.length = l := by
  induction l generalizing a with
  | nil => rfl
  | cons b r ih =>
    simp only [List.length_cons, memBytes]
    have h0 := h 0 (by simp)
    simp only [Nat.add_zero, List.getElem_cons_zero] at h0
    rw [h0, ih (a + 1) (fun x hx => hl x (List.mem_cons_of_mem _ hx))
      (fun i hi => by have := h (i + 1) (by simpa using hi); simpa [Nat.add_assoc, Nat.add_comm 1 i] using this)]
    have : b < 256 := hl b List.mem_cons_self
    simp [Nat.mod_eq_of_lt this]

theorem toLE_lt (n v : Nat) : ∀ b ∈ toLE n v, b < 256 := by
  induction n generalizing v with
  | zero => simp [toLE]
  | succ n ih =>
    intro b hb
    simp [toLE] at hb
    rcases hb with h | h
    · omega
    · exact ih _ b h

/-- A little-endian number reads as it was stored, as far as its bytes reach. -/
theorem memLE_memPutLE (m : Mem) (a n v : Nat) : memLE (memPutLE m a n v) a n = v % 256 ^ n := by
  unfold memLE memPutLE
  have := memBytes_eq_of (toLE n v) (memPut m a (toLE n v)) a (toLE_lt n v) (fun i hi => memByte_memPut_in _ m a i hi)
  rw [toLE_length] at this
  rw [this, ofLE_toLE]

end Sys2Proof.Machine
end

