-- ==== Sys2Proof/Laws/State.lean ====
section
/-! SUPPORT. What each elementary update does to each field of State, so that no proof unfolds a record update; and the laws of the
register fields: a field reads as it was set, and every other field as before. -/

namespace Sys2Proof.Machine

/-! ### setF -/

@[simp] theorem setF_pending (s : State) (f : Fld) (v : Nat) : (setF s f v).pending = s.pending := rfl
@[simp] theorem setF_free (s : State) (f : Fld) (v : Nat) : (setF s f v).free = s.free := rfl
@[simp] theorem setF_time (s : State) (f : Fld) (v : Nat) : (setF s f v).time = s.time := rfl
@[simp] theorem setF_landing (s : State) (f : Fld) (v : Nat) : (setF s f v).landing = s.landing := rfl
@[simp] theorem setF_landAge (s : State) (f : Fld) (v : Nat) : (setF s f v).landAge = s.landAge := rfl
@[simp] theorem setF_pend (s : State) (f : Fld) (v : Nat) : (setF s f v).pend = s.pend := rfl
@[simp] theorem setF_frozen (s : State) (f : Fld) (v : Nat) : (setF s f v).frozen = s.frozen := rfl
@[simp] theorem setF_held (s : State) (f : Fld) (v : Nat) : (setF s f v).held = s.held := rfl
@[simp] theorem setF_acts (s : State) (f : Fld) (v : Nat) : (setF s f v).acts = s.acts := rfl
@[simp] theorem setF_bus (s : State) (f : Fld) (v : Nat) : (setF s f v).bus = s.bus := rfl
@[simp] theorem setF_inbox (s : State) (f : Fld) (v : Nat) : (setF s f v).inbox = s.inbox := rfl
@[simp] theorem setF_msgSeq (s : State) (f : Fld) (v : Nat) : (setF s f v).msgSeq = s.msgSeq := rfl
@[simp] theorem setF_lostMsg (s : State) (f : Fld) (v : Nat) : (setF s f v).lostMsg = s.lostMsg := rfl
@[simp] theorem setF_lostRec (s : State) (f : Fld) (v : Nat) : (setF s f v).lostRec = s.lostRec := rfl
@[simp] theorem setF_sns (s : State) (f : Fld) (v : Nat) : (setF s f v).sns = s.sns := rfl
@[simp] theorem setF_est (s : State) (f : Fld) (v : Nat) : (setF s f v).est = s.est := rfl
@[simp] theorem setF_psq (s : State) (f : Fld) (v : Nat) : (setF s f v).psq = s.psq := rfl
@[simp] theorem setF_drg (s : State) (f : Fld) (v : Nat) : (setF s f v).drg = s.drg := rfl
@[simp] theorem setF_phc (s : State) (f : Fld) (v : Nat) : (setF s f v).phc = s.phc := rfl
@[simp] theorem setF_lgv (s : State) (f : Fld) (v : Nat) : (setF s f v).lgv = s.lgv := rfl
@[simp] theorem setF_tmg (s : State) (f : Fld) (v : Nat) : (setF s f v).tmg = s.tmg := rfl
@[simp] theorem setF_sta (s : State) (f : Fld) (v : Nat) : (setF s f v).sta = s.sta := rfl
@[simp] theorem setF_pxe (s : State) (f : Fld) (v : Nat) : (setF s f v).pxe = s.pxe := rfl
@[simp] theorem setF_bal (s : State) (f : Fld) (v : Nat) : (setF s f v).bal = s.bal := rfl
@[simp] theorem setF_fw (s : State) (f : Fld) (v : Nat) : (setF s f v).fw = s.fw := rfl
@[simp] theorem setF_cmd (s : State) (f : Fld) (v : Nat) : (setF s f v).cmd = s.cmd := rfl
@[simp] theorem setF_evr (s : State) (f : Fld) (v : Nat) : (setF s f v).evr = s.evr := rfl
@[simp] theorem setF_flc (s : State) (f : Fld) (v : Nat) : (setF s f v).flc = s.flc := rfl
@[simp] theorem setF_sec (s : State) (f : Fld) (v : Nat) : (setF s f v).sec = s.sec := rfl
@[simp] theorem setF_upd (s : State) (f : Fld) (v : Nat) : (setF s f v).upd = s.upd := rfl
@[simp] theorem setF_pmb (s : State) (f : Fld) (v : Nat) : (setF s f v).pmb = s.pmb := rfl

/-! ### setB -/

@[simp] theorem setB_pending (s : State) (f : Fld) (v : Bool) : (setB s f v).pending = s.pending := rfl
@[simp] theorem setB_free (s : State) (f : Fld) (v : Bool) : (setB s f v).free = s.free := rfl
@[simp] theorem setB_time (s : State) (f : Fld) (v : Bool) : (setB s f v).time = s.time := rfl
@[simp] theorem setB_landing (s : State) (f : Fld) (v : Bool) : (setB s f v).landing = s.landing := rfl
@[simp] theorem setB_landAge (s : State) (f : Fld) (v : Bool) : (setB s f v).landAge = s.landAge := rfl
@[simp] theorem setB_pend (s : State) (f : Fld) (v : Bool) : (setB s f v).pend = s.pend := rfl
@[simp] theorem setB_frozen (s : State) (f : Fld) (v : Bool) : (setB s f v).frozen = s.frozen := rfl
@[simp] theorem setB_held (s : State) (f : Fld) (v : Bool) : (setB s f v).held = s.held := rfl
@[simp] theorem setB_acts (s : State) (f : Fld) (v : Bool) : (setB s f v).acts = s.acts := rfl
@[simp] theorem setB_bus (s : State) (f : Fld) (v : Bool) : (setB s f v).bus = s.bus := rfl
@[simp] theorem setB_inbox (s : State) (f : Fld) (v : Bool) : (setB s f v).inbox = s.inbox := rfl
@[simp] theorem setB_msgSeq (s : State) (f : Fld) (v : Bool) : (setB s f v).msgSeq = s.msgSeq := rfl
@[simp] theorem setB_lostMsg (s : State) (f : Fld) (v : Bool) : (setB s f v).lostMsg = s.lostMsg := rfl
@[simp] theorem setB_lostRec (s : State) (f : Fld) (v : Bool) : (setB s f v).lostRec = s.lostRec := rfl
@[simp] theorem setB_sns (s : State) (f : Fld) (v : Bool) : (setB s f v).sns = s.sns := rfl
@[simp] theorem setB_est (s : State) (f : Fld) (v : Bool) : (setB s f v).est = s.est := rfl
@[simp] theorem setB_psq (s : State) (f : Fld) (v : Bool) : (setB s f v).psq = s.psq := rfl
@[simp] theorem setB_drg (s : State) (f : Fld) (v : Bool) : (setB s f v).drg = s.drg := rfl
@[simp] theorem setB_phc (s : State) (f : Fld) (v : Bool) : (setB s f v).phc = s.phc := rfl
@[simp] theorem setB_lgv (s : State) (f : Fld) (v : Bool) : (setB s f v).lgv = s.lgv := rfl
@[simp] theorem setB_tmg (s : State) (f : Fld) (v : Bool) : (setB s f v).tmg = s.tmg := rfl
@[simp] theorem setB_sta (s : State) (f : Fld) (v : Bool) : (setB s f v).sta = s.sta := rfl
@[simp] theorem setB_pxe (s : State) (f : Fld) (v : Bool) : (setB s f v).pxe = s.pxe := rfl
@[simp] theorem setB_bal (s : State) (f : Fld) (v : Bool) : (setB s f v).bal = s.bal := rfl
@[simp] theorem setB_fw (s : State) (f : Fld) (v : Bool) : (setB s f v).fw = s.fw := rfl
@[simp] theorem setB_cmd (s : State) (f : Fld) (v : Bool) : (setB s f v).cmd = s.cmd := rfl
@[simp] theorem setB_evr (s : State) (f : Fld) (v : Bool) : (setB s f v).evr = s.evr := rfl
@[simp] theorem setB_flc (s : State) (f : Fld) (v : Bool) : (setB s f v).flc = s.flc := rfl
@[simp] theorem setB_sec (s : State) (f : Fld) (v : Bool) : (setB s f v).sec = s.sec := rfl
@[simp] theorem setB_upd (s : State) (f : Fld) (v : Bool) : (setB s f v).upd = s.upd := rfl
@[simp] theorem setB_pmb (s : State) (f : Fld) (v : Bool) : (setB s f v).pmb = s.pmb := rfl

/-! ### setS -/

@[simp] theorem setS_pending (s : State) (f : Fld) (v : Int) : (setS s f v).pending = s.pending := rfl
@[simp] theorem setS_free (s : State) (f : Fld) (v : Int) : (setS s f v).free = s.free := rfl
@[simp] theorem setS_time (s : State) (f : Fld) (v : Int) : (setS s f v).time = s.time := rfl
@[simp] theorem setS_landing (s : State) (f : Fld) (v : Int) : (setS s f v).landing = s.landing := rfl
@[simp] theorem setS_landAge (s : State) (f : Fld) (v : Int) : (setS s f v).landAge = s.landAge := rfl
@[simp] theorem setS_pend (s : State) (f : Fld) (v : Int) : (setS s f v).pend = s.pend := rfl
@[simp] theorem setS_frozen (s : State) (f : Fld) (v : Int) : (setS s f v).frozen = s.frozen := rfl
@[simp] theorem setS_held (s : State) (f : Fld) (v : Int) : (setS s f v).held = s.held := rfl
@[simp] theorem setS_acts (s : State) (f : Fld) (v : Int) : (setS s f v).acts = s.acts := rfl
@[simp] theorem setS_bus (s : State) (f : Fld) (v : Int) : (setS s f v).bus = s.bus := rfl
@[simp] theorem setS_inbox (s : State) (f : Fld) (v : Int) : (setS s f v).inbox = s.inbox := rfl
@[simp] theorem setS_msgSeq (s : State) (f : Fld) (v : Int) : (setS s f v).msgSeq = s.msgSeq := rfl
@[simp] theorem setS_lostMsg (s : State) (f : Fld) (v : Int) : (setS s f v).lostMsg = s.lostMsg := rfl
@[simp] theorem setS_lostRec (s : State) (f : Fld) (v : Int) : (setS s f v).lostRec = s.lostRec := rfl
@[simp] theorem setS_sns (s : State) (f : Fld) (v : Int) : (setS s f v).sns = s.sns := rfl
@[simp] theorem setS_est (s : State) (f : Fld) (v : Int) : (setS s f v).est = s.est := rfl
@[simp] theorem setS_psq (s : State) (f : Fld) (v : Int) : (setS s f v).psq = s.psq := rfl
@[simp] theorem setS_drg (s : State) (f : Fld) (v : Int) : (setS s f v).drg = s.drg := rfl
@[simp] theorem setS_phc (s : State) (f : Fld) (v : Int) : (setS s f v).phc = s.phc := rfl
@[simp] theorem setS_lgv (s : State) (f : Fld) (v : Int) : (setS s f v).lgv = s.lgv := rfl
@[simp] theorem setS_tmg (s : State) (f : Fld) (v : Int) : (setS s f v).tmg = s.tmg := rfl
@[simp] theorem setS_sta (s : State) (f : Fld) (v : Int) : (setS s f v).sta = s.sta := rfl
@[simp] theorem setS_pxe (s : State) (f : Fld) (v : Int) : (setS s f v).pxe = s.pxe := rfl
@[simp] theorem setS_bal (s : State) (f : Fld) (v : Int) : (setS s f v).bal = s.bal := rfl
@[simp] theorem setS_fw (s : State) (f : Fld) (v : Int) : (setS s f v).fw = s.fw := rfl
@[simp] theorem setS_cmd (s : State) (f : Fld) (v : Int) : (setS s f v).cmd = s.cmd := rfl
@[simp] theorem setS_evr (s : State) (f : Fld) (v : Int) : (setS s f v).evr = s.evr := rfl
@[simp] theorem setS_flc (s : State) (f : Fld) (v : Int) : (setS s f v).flc = s.flc := rfl
@[simp] theorem setS_sec (s : State) (f : Fld) (v : Int) : (setS s f v).sec = s.sec := rfl
@[simp] theorem setS_upd (s : State) (f : Fld) (v : Int) : (setS s f v).upd = s.upd := rfl
@[simp] theorem setS_pmb (s : State) (f : Fld) (v : Int) : (setS s f v).pmb = s.pmb := rfl

/-! ### setSat -/

@[simp] theorem setSat_pending (s : State) (f : Fld) (v : Nat) : (setSat s f v).pending = s.pending := rfl
@[simp] theorem setSat_free (s : State) (f : Fld) (v : Nat) : (setSat s f v).free = s.free := rfl
@[simp] theorem setSat_time (s : State) (f : Fld) (v : Nat) : (setSat s f v).time = s.time := rfl
@[simp] theorem setSat_landing (s : State) (f : Fld) (v : Nat) : (setSat s f v).landing = s.landing := rfl
@[simp] theorem setSat_landAge (s : State) (f : Fld) (v : Nat) : (setSat s f v).landAge = s.landAge := rfl
@[simp] theorem setSat_pend (s : State) (f : Fld) (v : Nat) : (setSat s f v).pend = s.pend := rfl
@[simp] theorem setSat_frozen (s : State) (f : Fld) (v : Nat) : (setSat s f v).frozen = s.frozen := rfl
@[simp] theorem setSat_held (s : State) (f : Fld) (v : Nat) : (setSat s f v).held = s.held := rfl
@[simp] theorem setSat_acts (s : State) (f : Fld) (v : Nat) : (setSat s f v).acts = s.acts := rfl
@[simp] theorem setSat_bus (s : State) (f : Fld) (v : Nat) : (setSat s f v).bus = s.bus := rfl
@[simp] theorem setSat_inbox (s : State) (f : Fld) (v : Nat) : (setSat s f v).inbox = s.inbox := rfl
@[simp] theorem setSat_msgSeq (s : State) (f : Fld) (v : Nat) : (setSat s f v).msgSeq = s.msgSeq := rfl
@[simp] theorem setSat_lostMsg (s : State) (f : Fld) (v : Nat) : (setSat s f v).lostMsg = s.lostMsg := rfl
@[simp] theorem setSat_lostRec (s : State) (f : Fld) (v : Nat) : (setSat s f v).lostRec = s.lostRec := rfl
@[simp] theorem setSat_sns (s : State) (f : Fld) (v : Nat) : (setSat s f v).sns = s.sns := rfl
@[simp] theorem setSat_est (s : State) (f : Fld) (v : Nat) : (setSat s f v).est = s.est := rfl
@[simp] theorem setSat_psq (s : State) (f : Fld) (v : Nat) : (setSat s f v).psq = s.psq := rfl
@[simp] theorem setSat_drg (s : State) (f : Fld) (v : Nat) : (setSat s f v).drg = s.drg := rfl
@[simp] theorem setSat_phc (s : State) (f : Fld) (v : Nat) : (setSat s f v).phc = s.phc := rfl
@[simp] theorem setSat_lgv (s : State) (f : Fld) (v : Nat) : (setSat s f v).lgv = s.lgv := rfl
@[simp] theorem setSat_tmg (s : State) (f : Fld) (v : Nat) : (setSat s f v).tmg = s.tmg := rfl
@[simp] theorem setSat_sta (s : State) (f : Fld) (v : Nat) : (setSat s f v).sta = s.sta := rfl
@[simp] theorem setSat_pxe (s : State) (f : Fld) (v : Nat) : (setSat s f v).pxe = s.pxe := rfl
@[simp] theorem setSat_bal (s : State) (f : Fld) (v : Nat) : (setSat s f v).bal = s.bal := rfl
@[simp] theorem setSat_fw (s : State) (f : Fld) (v : Nat) : (setSat s f v).fw = s.fw := rfl
@[simp] theorem setSat_cmd (s : State) (f : Fld) (v : Nat) : (setSat s f v).cmd = s.cmd := rfl
@[simp] theorem setSat_evr (s : State) (f : Fld) (v : Nat) : (setSat s f v).evr = s.evr := rfl
@[simp] theorem setSat_flc (s : State) (f : Fld) (v : Nat) : (setSat s f v).flc = s.flc := rfl
@[simp] theorem setSat_sec (s : State) (f : Fld) (v : Nat) : (setSat s f v).sec = s.sec := rfl
@[simp] theorem setSat_upd (s : State) (f : Fld) (v : Nat) : (setSat s f v).upd = s.upd := rfl
@[simp] theorem setSat_pmb (s : State) (f : Fld) (v : Nat) : (setSat s f v).pmb = s.pmb := rfl

/-! ### setSatS -/

@[simp] theorem setSatS_pending (s : State) (f : Fld) (v : Int) : (setSatS s f v).pending = s.pending := rfl
@[simp] theorem setSatS_free (s : State) (f : Fld) (v : Int) : (setSatS s f v).free = s.free := rfl
@[simp] theorem setSatS_time (s : State) (f : Fld) (v : Int) : (setSatS s f v).time = s.time := rfl
@[simp] theorem setSatS_landing (s : State) (f : Fld) (v : Int) : (setSatS s f v).landing = s.landing := rfl
@[simp] theorem setSatS_landAge (s : State) (f : Fld) (v : Int) : (setSatS s f v).landAge = s.landAge := rfl
@[simp] theorem setSatS_pend (s : State) (f : Fld) (v : Int) : (setSatS s f v).pend = s.pend := rfl
@[simp] theorem setSatS_frozen (s : State) (f : Fld) (v : Int) : (setSatS s f v).frozen = s.frozen := rfl
@[simp] theorem setSatS_held (s : State) (f : Fld) (v : Int) : (setSatS s f v).held = s.held := rfl
@[simp] theorem setSatS_acts (s : State) (f : Fld) (v : Int) : (setSatS s f v).acts = s.acts := rfl
@[simp] theorem setSatS_bus (s : State) (f : Fld) (v : Int) : (setSatS s f v).bus = s.bus := rfl
@[simp] theorem setSatS_inbox (s : State) (f : Fld) (v : Int) : (setSatS s f v).inbox = s.inbox := rfl
@[simp] theorem setSatS_msgSeq (s : State) (f : Fld) (v : Int) : (setSatS s f v).msgSeq = s.msgSeq := rfl
@[simp] theorem setSatS_lostMsg (s : State) (f : Fld) (v : Int) : (setSatS s f v).lostMsg = s.lostMsg := rfl
@[simp] theorem setSatS_lostRec (s : State) (f : Fld) (v : Int) : (setSatS s f v).lostRec = s.lostRec := rfl
@[simp] theorem setSatS_sns (s : State) (f : Fld) (v : Int) : (setSatS s f v).sns = s.sns := rfl
@[simp] theorem setSatS_est (s : State) (f : Fld) (v : Int) : (setSatS s f v).est = s.est := rfl
@[simp] theorem setSatS_psq (s : State) (f : Fld) (v : Int) : (setSatS s f v).psq = s.psq := rfl
@[simp] theorem setSatS_drg (s : State) (f : Fld) (v : Int) : (setSatS s f v).drg = s.drg := rfl
@[simp] theorem setSatS_phc (s : State) (f : Fld) (v : Int) : (setSatS s f v).phc = s.phc := rfl
@[simp] theorem setSatS_lgv (s : State) (f : Fld) (v : Int) : (setSatS s f v).lgv = s.lgv := rfl
@[simp] theorem setSatS_tmg (s : State) (f : Fld) (v : Int) : (setSatS s f v).tmg = s.tmg := rfl
@[simp] theorem setSatS_sta (s : State) (f : Fld) (v : Int) : (setSatS s f v).sta = s.sta := rfl
@[simp] theorem setSatS_pxe (s : State) (f : Fld) (v : Int) : (setSatS s f v).pxe = s.pxe := rfl
@[simp] theorem setSatS_bal (s : State) (f : Fld) (v : Int) : (setSatS s f v).bal = s.bal := rfl
@[simp] theorem setSatS_fw (s : State) (f : Fld) (v : Int) : (setSatS s f v).fw = s.fw := rfl
@[simp] theorem setSatS_cmd (s : State) (f : Fld) (v : Int) : (setSatS s f v).cmd = s.cmd := rfl
@[simp] theorem setSatS_evr (s : State) (f : Fld) (v : Int) : (setSatS s f v).evr = s.evr := rfl
@[simp] theorem setSatS_flc (s : State) (f : Fld) (v : Int) : (setSatS s f v).flc = s.flc := rfl
@[simp] theorem setSatS_sec (s : State) (f : Fld) (v : Int) : (setSatS s f v).sec = s.sec := rfl
@[simp] theorem setSatS_upd (s : State) (f : Fld) (v : Int) : (setSatS s f v).upd = s.upd := rfl
@[simp] theorem setSatS_pmb (s : State) (f : Fld) (v : Int) : (setSatS s f v).pmb = s.pmb := rfl

/-! ### incF -/

@[simp] theorem incF_pending (s : State) (f : Fld) : (incF s f).pending = s.pending := rfl
@[simp] theorem incF_free (s : State) (f : Fld) : (incF s f).free = s.free := rfl
@[simp] theorem incF_time (s : State) (f : Fld) : (incF s f).time = s.time := rfl
@[simp] theorem incF_landing (s : State) (f : Fld) : (incF s f).landing = s.landing := rfl
@[simp] theorem incF_landAge (s : State) (f : Fld) : (incF s f).landAge = s.landAge := rfl
@[simp] theorem incF_pend (s : State) (f : Fld) : (incF s f).pend = s.pend := rfl
@[simp] theorem incF_frozen (s : State) (f : Fld) : (incF s f).frozen = s.frozen := rfl
@[simp] theorem incF_held (s : State) (f : Fld) : (incF s f).held = s.held := rfl
@[simp] theorem incF_acts (s : State) (f : Fld) : (incF s f).acts = s.acts := rfl
@[simp] theorem incF_bus (s : State) (f : Fld) : (incF s f).bus = s.bus := rfl
@[simp] theorem incF_inbox (s : State) (f : Fld) : (incF s f).inbox = s.inbox := rfl
@[simp] theorem incF_msgSeq (s : State) (f : Fld) : (incF s f).msgSeq = s.msgSeq := rfl
@[simp] theorem incF_lostMsg (s : State) (f : Fld) : (incF s f).lostMsg = s.lostMsg := rfl
@[simp] theorem incF_lostRec (s : State) (f : Fld) : (incF s f).lostRec = s.lostRec := rfl
@[simp] theorem incF_sns (s : State) (f : Fld) : (incF s f).sns = s.sns := rfl
@[simp] theorem incF_est (s : State) (f : Fld) : (incF s f).est = s.est := rfl
@[simp] theorem incF_psq (s : State) (f : Fld) : (incF s f).psq = s.psq := rfl
@[simp] theorem incF_drg (s : State) (f : Fld) : (incF s f).drg = s.drg := rfl
@[simp] theorem incF_phc (s : State) (f : Fld) : (incF s f).phc = s.phc := rfl
@[simp] theorem incF_lgv (s : State) (f : Fld) : (incF s f).lgv = s.lgv := rfl
@[simp] theorem incF_tmg (s : State) (f : Fld) : (incF s f).tmg = s.tmg := rfl
@[simp] theorem incF_sta (s : State) (f : Fld) : (incF s f).sta = s.sta := rfl
@[simp] theorem incF_pxe (s : State) (f : Fld) : (incF s f).pxe = s.pxe := rfl
@[simp] theorem incF_bal (s : State) (f : Fld) : (incF s f).bal = s.bal := rfl
@[simp] theorem incF_fw (s : State) (f : Fld) : (incF s f).fw = s.fw := rfl
@[simp] theorem incF_cmd (s : State) (f : Fld) : (incF s f).cmd = s.cmd := rfl
@[simp] theorem incF_evr (s : State) (f : Fld) : (incF s f).evr = s.evr := rfl
@[simp] theorem incF_flc (s : State) (f : Fld) : (incF s f).flc = s.flc := rfl
@[simp] theorem incF_sec (s : State) (f : Fld) : (incF s f).sec = s.sec := rfl
@[simp] theorem incF_upd (s : State) (f : Fld) : (incF s f).upd = s.upd := rfl
@[simp] theorem incF_pmb (s : State) (f : Fld) : (incF s f).pmb = s.pmb := rfl

/-! ### forceKey -/

@[simp] theorem forceKey_pending (k v : Nat) (s : State) : (forceKey k v s).pending = s.pending := rfl
@[simp] theorem forceKey_free (k v : Nat) (s : State) : (forceKey k v s).free = s.free := rfl
@[simp] theorem forceKey_time (k v : Nat) (s : State) : (forceKey k v s).time = s.time := rfl
@[simp] theorem forceKey_wrote (k v : Nat) (s : State) : (forceKey k v s).wrote = s.wrote := rfl
@[simp] theorem forceKey_landing (k v : Nat) (s : State) : (forceKey k v s).landing = s.landing := rfl
@[simp] theorem forceKey_landAge (k v : Nat) (s : State) : (forceKey k v s).landAge = s.landAge := rfl
@[simp] theorem forceKey_pend (k v : Nat) (s : State) : (forceKey k v s).pend = s.pend := rfl
@[simp] theorem forceKey_frozen (k v : Nat) (s : State) : (forceKey k v s).frozen = s.frozen := rfl
@[simp] theorem forceKey_held (k v : Nat) (s : State) : (forceKey k v s).held = s.held := rfl
@[simp] theorem forceKey_acts (k v : Nat) (s : State) : (forceKey k v s).acts = s.acts := rfl
@[simp] theorem forceKey_bus (k v : Nat) (s : State) : (forceKey k v s).bus = s.bus := rfl
@[simp] theorem forceKey_inbox (k v : Nat) (s : State) : (forceKey k v s).inbox = s.inbox := rfl
@[simp] theorem forceKey_msgSeq (k v : Nat) (s : State) : (forceKey k v s).msgSeq = s.msgSeq := rfl
@[simp] theorem forceKey_lostMsg (k v : Nat) (s : State) : (forceKey k v s).lostMsg = s.lostMsg := rfl
@[simp] theorem forceKey_lostRec (k v : Nat) (s : State) : (forceKey k v s).lostRec = s.lostRec := rfl
@[simp] theorem forceKey_sns (k v : Nat) (s : State) : (forceKey k v s).sns = s.sns := rfl
@[simp] theorem forceKey_est (k v : Nat) (s : State) : (forceKey k v s).est = s.est := rfl
@[simp] theorem forceKey_psq (k v : Nat) (s : State) : (forceKey k v s).psq = s.psq := rfl
@[simp] theorem forceKey_drg (k v : Nat) (s : State) : (forceKey k v s).drg = s.drg := rfl
@[simp] theorem forceKey_phc (k v : Nat) (s : State) : (forceKey k v s).phc = s.phc := rfl
@[simp] theorem forceKey_lgv (k v : Nat) (s : State) : (forceKey k v s).lgv = s.lgv := rfl
@[simp] theorem forceKey_tmg (k v : Nat) (s : State) : (forceKey k v s).tmg = s.tmg := rfl
@[simp] theorem forceKey_sta (k v : Nat) (s : State) : (forceKey k v s).sta = s.sta := rfl
@[simp] theorem forceKey_pxe (k v : Nat) (s : State) : (forceKey k v s).pxe = s.pxe := rfl
@[simp] theorem forceKey_bal (k v : Nat) (s : State) : (forceKey k v s).bal = s.bal := rfl
@[simp] theorem forceKey_fw (k v : Nat) (s : State) : (forceKey k v s).fw = s.fw := rfl
@[simp] theorem forceKey_cmd (k v : Nat) (s : State) : (forceKey k v s).cmd = s.cmd := rfl
@[simp] theorem forceKey_evr (k v : Nat) (s : State) : (forceKey k v s).evr = s.evr := rfl
@[simp] theorem forceKey_flc (k v : Nat) (s : State) : (forceKey k v s).flc = s.flc := rfl
@[simp] theorem forceKey_sec (k v : Nat) (s : State) : (forceKey k v s).sec = s.sec := rfl
@[simp] theorem forceKey_upd (k v : Nat) (s : State) : (forceKey k v s).upd = s.upd := rfl
@[simp] theorem forceKey_pmb (k v : Nat) (s : State) : (forceKey k v s).pmb = s.pmb := rfl

/-! ### landPut -/

@[simp] theorem landPut_pending (f : Fld) (v : Nat) (s : State) : (landPut f v s).pending = s.pending := rfl
@[simp] theorem landPut_free (f : Fld) (v : Nat) (s : State) : (landPut f v s).free = s.free := rfl
@[simp] theorem landPut_time (f : Fld) (v : Nat) (s : State) : (landPut f v s).time = s.time := rfl
@[simp] theorem landPut_regs (f : Fld) (v : Nat) (s : State) : (landPut f v s).regs = s.regs := rfl
@[simp] theorem landPut_landAge (f : Fld) (v : Nat) (s : State) : (landPut f v s).landAge = s.landAge := rfl
@[simp] theorem landPut_pend (f : Fld) (v : Nat) (s : State) : (landPut f v s).pend = s.pend := rfl
@[simp] theorem landPut_frozen (f : Fld) (v : Nat) (s : State) : (landPut f v s).frozen = s.frozen := rfl
@[simp] theorem landPut_held (f : Fld) (v : Nat) (s : State) : (landPut f v s).held = s.held := rfl
@[simp] theorem landPut_acts (f : Fld) (v : Nat) (s : State) : (landPut f v s).acts = s.acts := rfl
@[simp] theorem landPut_bus (f : Fld) (v : Nat) (s : State) : (landPut f v s).bus = s.bus := rfl
@[simp] theorem landPut_inbox (f : Fld) (v : Nat) (s : State) : (landPut f v s).inbox = s.inbox := rfl
@[simp] theorem landPut_msgSeq (f : Fld) (v : Nat) (s : State) : (landPut f v s).msgSeq = s.msgSeq := rfl
@[simp] theorem landPut_lostMsg (f : Fld) (v : Nat) (s : State) : (landPut f v s).lostMsg = s.lostMsg := rfl
@[simp] theorem landPut_lostRec (f : Fld) (v : Nat) (s : State) : (landPut f v s).lostRec = s.lostRec := rfl
@[simp] theorem landPut_sns (f : Fld) (v : Nat) (s : State) : (landPut f v s).sns = s.sns := rfl
@[simp] theorem landPut_est (f : Fld) (v : Nat) (s : State) : (landPut f v s).est = s.est := rfl
@[simp] theorem landPut_psq (f : Fld) (v : Nat) (s : State) : (landPut f v s).psq = s.psq := rfl
@[simp] theorem landPut_drg (f : Fld) (v : Nat) (s : State) : (landPut f v s).drg = s.drg := rfl
@[simp] theorem landPut_phc (f : Fld) (v : Nat) (s : State) : (landPut f v s).phc = s.phc := rfl
@[simp] theorem landPut_lgv (f : Fld) (v : Nat) (s : State) : (landPut f v s).lgv = s.lgv := rfl
@[simp] theorem landPut_tmg (f : Fld) (v : Nat) (s : State) : (landPut f v s).tmg = s.tmg := rfl
@[simp] theorem landPut_sta (f : Fld) (v : Nat) (s : State) : (landPut f v s).sta = s.sta := rfl
@[simp] theorem landPut_pxe (f : Fld) (v : Nat) (s : State) : (landPut f v s).pxe = s.pxe := rfl
@[simp] theorem landPut_bal (f : Fld) (v : Nat) (s : State) : (landPut f v s).bal = s.bal := rfl
@[simp] theorem landPut_fw (f : Fld) (v : Nat) (s : State) : (landPut f v s).fw = s.fw := rfl
@[simp] theorem landPut_cmd (f : Fld) (v : Nat) (s : State) : (landPut f v s).cmd = s.cmd := rfl
@[simp] theorem landPut_evr (f : Fld) (v : Nat) (s : State) : (landPut f v s).evr = s.evr := rfl
@[simp] theorem landPut_flc (f : Fld) (v : Nat) (s : State) : (landPut f v s).flc = s.flc := rfl
@[simp] theorem landPut_sec (f : Fld) (v : Nat) (s : State) : (landPut f v s).sec = s.sec := rfl
@[simp] theorem landPut_upd (f : Fld) (v : Nat) (s : State) : (landPut f v s).upd = s.upd := rfl
@[simp] theorem landPut_pmb (f : Fld) (v : Nat) (s : State) : (landPut f v s).pmb = s.pmb := rfl

/-! ### freeNext -/

@[simp] theorem freeNext_pending (s : State) : (freeNext s).pending = s.pending := rfl
@[simp] theorem freeNext_free (s : State) : (freeNext s).free = s.free + 1 := rfl
@[simp] theorem freeNext_time (s : State) : (freeNext s).time = s.time := rfl
@[simp] theorem freeNext_regs (s : State) : (freeNext s).regs = s.regs := rfl
@[simp] theorem freeNext_wrote (s : State) : (freeNext s).wrote = s.wrote := rfl
@[simp] theorem freeNext_landing (s : State) : (freeNext s).landing = s.landing := rfl
@[simp] theorem freeNext_landAge (s : State) : (freeNext s).landAge = s.landAge := rfl
@[simp] theorem freeNext_pend (s : State) : (freeNext s).pend = s.pend := rfl
@[simp] theorem freeNext_frozen (s : State) : (freeNext s).frozen = s.frozen := rfl
@[simp] theorem freeNext_held (s : State) : (freeNext s).held = s.held := rfl
@[simp] theorem freeNext_acts (s : State) : (freeNext s).acts = s.acts := rfl
@[simp] theorem freeNext_bus (s : State) : (freeNext s).bus = s.bus := rfl
@[simp] theorem freeNext_inbox (s : State) : (freeNext s).inbox = s.inbox := rfl
@[simp] theorem freeNext_msgSeq (s : State) : (freeNext s).msgSeq = s.msgSeq := rfl
@[simp] theorem freeNext_lostMsg (s : State) : (freeNext s).lostMsg = s.lostMsg := rfl
@[simp] theorem freeNext_lostRec (s : State) : (freeNext s).lostRec = s.lostRec := rfl
@[simp] theorem freeNext_sns (s : State) : (freeNext s).sns = s.sns := rfl
@[simp] theorem freeNext_est (s : State) : (freeNext s).est = s.est := rfl
@[simp] theorem freeNext_psq (s : State) : (freeNext s).psq = s.psq := rfl
@[simp] theorem freeNext_drg (s : State) : (freeNext s).drg = s.drg := rfl
@[simp] theorem freeNext_phc (s : State) : (freeNext s).phc = s.phc := rfl
@[simp] theorem freeNext_lgv (s : State) : (freeNext s).lgv = s.lgv := rfl
@[simp] theorem freeNext_tmg (s : State) : (freeNext s).tmg = s.tmg := rfl
@[simp] theorem freeNext_sta (s : State) : (freeNext s).sta = s.sta := rfl
@[simp] theorem freeNext_pxe (s : State) : (freeNext s).pxe = s.pxe := rfl
@[simp] theorem freeNext_bal (s : State) : (freeNext s).bal = s.bal := rfl
@[simp] theorem freeNext_fw (s : State) : (freeNext s).fw = s.fw := rfl
@[simp] theorem freeNext_cmd (s : State) : (freeNext s).cmd = s.cmd := rfl
@[simp] theorem freeNext_evr (s : State) : (freeNext s).evr = s.evr := rfl
@[simp] theorem freeNext_flc (s : State) : (freeNext s).flc = s.flc := rfl
@[simp] theorem freeNext_sec (s : State) : (freeNext s).sec = s.sec := rfl
@[simp] theorem freeNext_upd (s : State) : (freeNext s).upd = s.upd := rfl
@[simp] theorem freeNext_pmb (s : State) : (freeNext s).pmb = s.pmb := rfl

/-! ### addAct -/

@[simp] theorem addAct_pending (k : ActKind) (o : Option Nat) (p : Nat) (s : State) : (addAct k o p s).pending = s.pending := rfl
@[simp] theorem addAct_free (k : ActKind) (o : Option Nat) (p : Nat) (s : State) : (addAct k o p s).free = s.free := rfl
@[simp] theorem addAct_time (k : ActKind) (o : Option Nat) (p : Nat) (s : State) : (addAct k o p s).time = s.time := rfl
@[simp] theorem addAct_regs (k : ActKind) (o : Option Nat) (p : Nat) (s : State) : (addAct k o p s).regs = s.regs := rfl
@[simp] theorem addAct_wrote (k : ActKind) (o : Option Nat) (p : Nat) (s : State) : (addAct k o p s).wrote = s.wrote := rfl
@[simp] theorem addAct_landing (k : ActKind) (o : Option Nat) (p : Nat) (s : State) : (addAct k o p s).landing = s.landing := rfl
@[simp] theorem addAct_landAge (k : ActKind) (o : Option Nat) (p : Nat) (s : State) : (addAct k o p s).landAge = s.landAge := rfl
@[simp] theorem addAct_pend (k : ActKind) (o : Option Nat) (p : Nat) (s : State) : (addAct k o p s).pend = s.pend := rfl
@[simp] theorem addAct_frozen (k : ActKind) (o : Option Nat) (p : Nat) (s : State) : (addAct k o p s).frozen = s.frozen := rfl
@[simp] theorem addAct_held (k : ActKind) (o : Option Nat) (p : Nat) (s : State) : (addAct k o p s).held = s.held := rfl
@[simp] theorem addAct_acts (k : ActKind) (o : Option Nat) (p : Nat) (s : State) : (addAct k o p s).acts = s.acts ++ [⟨k, false, o, p⟩] := rfl
@[simp] theorem addAct_bus (k : ActKind) (o : Option Nat) (p : Nat) (s : State) : (addAct k o p s).bus = s.bus := rfl
@[simp] theorem addAct_inbox (k : ActKind) (o : Option Nat) (p : Nat) (s : State) : (addAct k o p s).inbox = s.inbox := rfl
@[simp] theorem addAct_msgSeq (k : ActKind) (o : Option Nat) (p : Nat) (s : State) : (addAct k o p s).msgSeq = s.msgSeq := rfl
@[simp] theorem addAct_lostMsg (k : ActKind) (o : Option Nat) (p : Nat) (s : State) : (addAct k o p s).lostMsg = s.lostMsg := rfl
@[simp] theorem addAct_lostRec (k : ActKind) (o : Option Nat) (p : Nat) (s : State) : (addAct k o p s).lostRec = s.lostRec := rfl
@[simp] theorem addAct_sns (k : ActKind) (o : Option Nat) (p : Nat) (s : State) : (addAct k o p s).sns = s.sns := rfl
@[simp] theorem addAct_est (k : ActKind) (o : Option Nat) (p : Nat) (s : State) : (addAct k o p s).est = s.est := rfl
@[simp] theorem addAct_psq (k : ActKind) (o : Option Nat) (p : Nat) (s : State) : (addAct k o p s).psq = s.psq := rfl
@[simp] theorem addAct_drg (k : ActKind) (o : Option Nat) (p : Nat) (s : State) : (addAct k o p s).drg = s.drg := rfl
@[simp] theorem addAct_phc (k : ActKind) (o : Option Nat) (p : Nat) (s : State) : (addAct k o p s).phc = s.phc := rfl
@[simp] theorem addAct_lgv (k : ActKind) (o : Option Nat) (p : Nat) (s : State) : (addAct k o p s).lgv = s.lgv := rfl
@[simp] theorem addAct_tmg (k : ActKind) (o : Option Nat) (p : Nat) (s : State) : (addAct k o p s).tmg = s.tmg := rfl
@[simp] theorem addAct_sta (k : ActKind) (o : Option Nat) (p : Nat) (s : State) : (addAct k o p s).sta = s.sta := rfl
@[simp] theorem addAct_pxe (k : ActKind) (o : Option Nat) (p : Nat) (s : State) : (addAct k o p s).pxe = s.pxe := rfl
@[simp] theorem addAct_bal (k : ActKind) (o : Option Nat) (p : Nat) (s : State) : (addAct k o p s).bal = s.bal := rfl
@[simp] theorem addAct_fw (k : ActKind) (o : Option Nat) (p : Nat) (s : State) : (addAct k o p s).fw = s.fw := rfl
@[simp] theorem addAct_cmd (k : ActKind) (o : Option Nat) (p : Nat) (s : State) : (addAct k o p s).cmd = s.cmd := rfl
@[simp] theorem addAct_evr (k : ActKind) (o : Option Nat) (p : Nat) (s : State) : (addAct k o p s).evr = s.evr := rfl
@[simp] theorem addAct_flc (k : ActKind) (o : Option Nat) (p : Nat) (s : State) : (addAct k o p s).flc = s.flc := rfl
@[simp] theorem addAct_sec (k : ActKind) (o : Option Nat) (p : Nat) (s : State) : (addAct k o p s).sec = s.sec := rfl
@[simp] theorem addAct_upd (k : ActKind) (o : Option Nat) (p : Nat) (s : State) : (addAct k o p s).upd = s.upd := rfl
@[simp] theorem addAct_pmb (k : ActKind) (o : Option Nat) (p : Nat) (s : State) : (addAct k o p s).pmb = s.pmb := rfl

/-! ### setRail -/

@[simp] theorem setRail_pending (s : State) (k : Nat) (x : Rail) : (setRail s k x).pending = s.pending := rfl
@[simp] theorem setRail_free (s : State) (k : Nat) (x : Rail) : (setRail s k x).free = s.free := rfl
@[simp] theorem setRail_time (s : State) (k : Nat) (x : Rail) : (setRail s k x).time = s.time := rfl
@[simp] theorem setRail_regs (s : State) (k : Nat) (x : Rail) : (setRail s k x).regs = s.regs := rfl
@[simp] theorem setRail_wrote (s : State) (k : Nat) (x : Rail) : (setRail s k x).wrote = s.wrote := rfl
@[simp] theorem setRail_landing (s : State) (k : Nat) (x : Rail) : (setRail s k x).landing = s.landing := rfl
@[simp] theorem setRail_landAge (s : State) (k : Nat) (x : Rail) : (setRail s k x).landAge = s.landAge := rfl
@[simp] theorem setRail_pend (s : State) (k : Nat) (x : Rail) : (setRail s k x).pend = s.pend := rfl
@[simp] theorem setRail_frozen (s : State) (k : Nat) (x : Rail) : (setRail s k x).frozen = s.frozen := rfl
@[simp] theorem setRail_held (s : State) (k : Nat) (x : Rail) : (setRail s k x).held = s.held := rfl
@[simp] theorem setRail_acts (s : State) (k : Nat) (x : Rail) : (setRail s k x).acts = s.acts := rfl
@[simp] theorem setRail_bus (s : State) (k : Nat) (x : Rail) : (setRail s k x).bus = s.bus := rfl
@[simp] theorem setRail_inbox (s : State) (k : Nat) (x : Rail) : (setRail s k x).inbox = s.inbox := rfl
@[simp] theorem setRail_msgSeq (s : State) (k : Nat) (x : Rail) : (setRail s k x).msgSeq = s.msgSeq := rfl
@[simp] theorem setRail_lostMsg (s : State) (k : Nat) (x : Rail) : (setRail s k x).lostMsg = s.lostMsg := rfl
@[simp] theorem setRail_lostRec (s : State) (k : Nat) (x : Rail) : (setRail s k x).lostRec = s.lostRec := rfl
@[simp] theorem setRail_sns (s : State) (k : Nat) (x : Rail) : (setRail s k x).sns = s.sns := rfl
@[simp] theorem setRail_est (s : State) (k : Nat) (x : Rail) : (setRail s k x).est = s.est := rfl
@[simp] theorem setRail_psq (s : State) (k : Nat) (x : Rail) : (setRail s k x).psq = s.psq := rfl
@[simp] theorem setRail_drg (s : State) (k : Nat) (x : Rail) : (setRail s k x).drg = s.drg := rfl
@[simp] theorem setRail_lgv (s : State) (k : Nat) (x : Rail) : (setRail s k x).lgv = s.lgv := rfl
@[simp] theorem setRail_tmg (s : State) (k : Nat) (x : Rail) : (setRail s k x).tmg = s.tmg := rfl
@[simp] theorem setRail_sta (s : State) (k : Nat) (x : Rail) : (setRail s k x).sta = s.sta := rfl
@[simp] theorem setRail_pxe (s : State) (k : Nat) (x : Rail) : (setRail s k x).pxe = s.pxe := rfl
@[simp] theorem setRail_bal (s : State) (k : Nat) (x : Rail) : (setRail s k x).bal = s.bal := rfl
@[simp] theorem setRail_fw (s : State) (k : Nat) (x : Rail) : (setRail s k x).fw = s.fw := rfl
@[simp] theorem setRail_cmd (s : State) (k : Nat) (x : Rail) : (setRail s k x).cmd = s.cmd := rfl
@[simp] theorem setRail_evr (s : State) (k : Nat) (x : Rail) : (setRail s k x).evr = s.evr := rfl
@[simp] theorem setRail_flc (s : State) (k : Nat) (x : Rail) : (setRail s k x).flc = s.flc := rfl
@[simp] theorem setRail_sec (s : State) (k : Nat) (x : Rail) : (setRail s k x).sec = s.sec := rfl
@[simp] theorem setRail_upd (s : State) (k : Nat) (x : Rail) : (setRail s k x).upd = s.upd := rfl
@[simp] theorem setRail_pmb (s : State) (k : Nat) (x : Rail) : (setRail s k x).pmb = s.pmb := rfl

/-! ### setPhase -/

@[simp] theorem setPhase_pending (s : State) (n : Nat) (x : PhaseSt) : (setPhase s n x).pending = s.pending := rfl
@[simp] theorem setPhase_free (s : State) (n : Nat) (x : PhaseSt) : (setPhase s n x).free = s.free := rfl
@[simp] theorem setPhase_time (s : State) (n : Nat) (x : PhaseSt) : (setPhase s n x).time = s.time := rfl
@[simp] theorem setPhase_regs (s : State) (n : Nat) (x : PhaseSt) : (setPhase s n x).regs = s.regs := rfl
@[simp] theorem setPhase_wrote (s : State) (n : Nat) (x : PhaseSt) : (setPhase s n x).wrote = s.wrote := rfl
@[simp] theorem setPhase_landing (s : State) (n : Nat) (x : PhaseSt) : (setPhase s n x).landing = s.landing := rfl
@[simp] theorem setPhase_landAge (s : State) (n : Nat) (x : PhaseSt) : (setPhase s n x).landAge = s.landAge := rfl
@[simp] theorem setPhase_pend (s : State) (n : Nat) (x : PhaseSt) : (setPhase s n x).pend = s.pend := rfl
@[simp] theorem setPhase_frozen (s : State) (n : Nat) (x : PhaseSt) : (setPhase s n x).frozen = s.frozen := rfl
@[simp] theorem setPhase_held (s : State) (n : Nat) (x : PhaseSt) : (setPhase s n x).held = s.held := rfl
@[simp] theorem setPhase_acts (s : State) (n : Nat) (x : PhaseSt) : (setPhase s n x).acts = s.acts := rfl
@[simp] theorem setPhase_bus (s : State) (n : Nat) (x : PhaseSt) : (setPhase s n x).bus = s.bus := rfl
@[simp] theorem setPhase_inbox (s : State) (n : Nat) (x : PhaseSt) : (setPhase s n x).inbox = s.inbox := rfl
@[simp] theorem setPhase_msgSeq (s : State) (n : Nat) (x : PhaseSt) : (setPhase s n x).msgSeq = s.msgSeq := rfl
@[simp] theorem setPhase_lostMsg (s : State) (n : Nat) (x : PhaseSt) : (setPhase s n x).lostMsg = s.lostMsg := rfl
@[simp] theorem setPhase_lostRec (s : State) (n : Nat) (x : PhaseSt) : (setPhase s n x).lostRec = s.lostRec := rfl
@[simp] theorem setPhase_sns (s : State) (n : Nat) (x : PhaseSt) : (setPhase s n x).sns = s.sns := rfl
@[simp] theorem setPhase_est (s : State) (n : Nat) (x : PhaseSt) : (setPhase s n x).est = s.est := rfl
@[simp] theorem setPhase_psq (s : State) (n : Nat) (x : PhaseSt) : (setPhase s n x).psq = s.psq := rfl
@[simp] theorem setPhase_drg (s : State) (n : Nat) (x : PhaseSt) : (setPhase s n x).drg = s.drg := rfl
@[simp] theorem setPhase_lgv (s : State) (n : Nat) (x : PhaseSt) : (setPhase s n x).lgv = s.lgv := rfl
@[simp] theorem setPhase_tmg (s : State) (n : Nat) (x : PhaseSt) : (setPhase s n x).tmg = s.tmg := rfl
@[simp] theorem setPhase_sta (s : State) (n : Nat) (x : PhaseSt) : (setPhase s n x).sta = s.sta := rfl
@[simp] theorem setPhase_pxe (s : State) (n : Nat) (x : PhaseSt) : (setPhase s n x).pxe = s.pxe := rfl
@[simp] theorem setPhase_bal (s : State) (n : Nat) (x : PhaseSt) : (setPhase s n x).bal = s.bal := rfl
@[simp] theorem setPhase_fw (s : State) (n : Nat) (x : PhaseSt) : (setPhase s n x).fw = s.fw := rfl
@[simp] theorem setPhase_cmd (s : State) (n : Nat) (x : PhaseSt) : (setPhase s n x).cmd = s.cmd := rfl
@[simp] theorem setPhase_evr (s : State) (n : Nat) (x : PhaseSt) : (setPhase s n x).evr = s.evr := rfl
@[simp] theorem setPhase_flc (s : State) (n : Nat) (x : PhaseSt) : (setPhase s n x).flc = s.flc := rfl
@[simp] theorem setPhase_sec (s : State) (n : Nat) (x : PhaseSt) : (setPhase s n x).sec = s.sec := rfl
@[simp] theorem setPhase_upd (s : State) (n : Nat) (x : PhaseSt) : (setPhase s n x).upd = s.upd := rfl
@[simp] theorem setPhase_pmb (s : State) (n : Nat) (x : PhaseSt) : (setPhase s n x).pmb = s.pmb := rfl

/-! ### setRegion -/

@[simp] theorem setRegion_pending (s : State) (r : Nat) (x : Region) : (setRegion s r x).pending = s.pending := rfl
@[simp] theorem setRegion_free (s : State) (r : Nat) (x : Region) : (setRegion s r x).free = s.free := rfl
@[simp] theorem setRegion_time (s : State) (r : Nat) (x : Region) : (setRegion s r x).time = s.time := rfl
@[simp] theorem setRegion_regs (s : State) (r : Nat) (x : Region) : (setRegion s r x).regs = s.regs := rfl
@[simp] theorem setRegion_wrote (s : State) (r : Nat) (x : Region) : (setRegion s r x).wrote = s.wrote := rfl
@[simp] theorem setRegion_landing (s : State) (r : Nat) (x : Region) : (setRegion s r x).landing = s.landing := rfl
@[simp] theorem setRegion_landAge (s : State) (r : Nat) (x : Region) : (setRegion s r x).landAge = s.landAge := rfl
@[simp] theorem setRegion_pend (s : State) (r : Nat) (x : Region) : (setRegion s r x).pend = s.pend := rfl
@[simp] theorem setRegion_frozen (s : State) (r : Nat) (x : Region) : (setRegion s r x).frozen = s.frozen := rfl
@[simp] theorem setRegion_held (s : State) (r : Nat) (x : Region) : (setRegion s r x).held = s.held := rfl
@[simp] theorem setRegion_acts (s : State) (r : Nat) (x : Region) : (setRegion s r x).acts = s.acts := rfl
@[simp] theorem setRegion_bus (s : State) (r : Nat) (x : Region) : (setRegion s r x).bus = s.bus := rfl
@[simp] theorem setRegion_inbox (s : State) (r : Nat) (x : Region) : (setRegion s r x).inbox = s.inbox := rfl
@[simp] theorem setRegion_msgSeq (s : State) (r : Nat) (x : Region) : (setRegion s r x).msgSeq = s.msgSeq := rfl
@[simp] theorem setRegion_lostMsg (s : State) (r : Nat) (x : Region) : (setRegion s r x).lostMsg = s.lostMsg := rfl
@[simp] theorem setRegion_lostRec (s : State) (r : Nat) (x : Region) : (setRegion s r x).lostRec = s.lostRec := rfl
@[simp] theorem setRegion_sns (s : State) (r : Nat) (x : Region) : (setRegion s r x).sns = s.sns := rfl
@[simp] theorem setRegion_est (s : State) (r : Nat) (x : Region) : (setRegion s r x).est = s.est := rfl
@[simp] theorem setRegion_psq (s : State) (r : Nat) (x : Region) : (setRegion s r x).psq = s.psq := rfl
@[simp] theorem setRegion_phc (s : State) (r : Nat) (x : Region) : (setRegion s r x).phc = s.phc := rfl
@[simp] theorem setRegion_lgv (s : State) (r : Nat) (x : Region) : (setRegion s r x).lgv = s.lgv := rfl
@[simp] theorem setRegion_tmg (s : State) (r : Nat) (x : Region) : (setRegion s r x).tmg = s.tmg := rfl
@[simp] theorem setRegion_sta (s : State) (r : Nat) (x : Region) : (setRegion s r x).sta = s.sta := rfl
@[simp] theorem setRegion_pxe (s : State) (r : Nat) (x : Region) : (setRegion s r x).pxe = s.pxe := rfl
@[simp] theorem setRegion_bal (s : State) (r : Nat) (x : Region) : (setRegion s r x).bal = s.bal := rfl
@[simp] theorem setRegion_fw (s : State) (r : Nat) (x : Region) : (setRegion s r x).fw = s.fw := rfl
@[simp] theorem setRegion_cmd (s : State) (r : Nat) (x : Region) : (setRegion s r x).cmd = s.cmd := rfl
@[simp] theorem setRegion_evr (s : State) (r : Nat) (x : Region) : (setRegion s r x).evr = s.evr := rfl
@[simp] theorem setRegion_flc (s : State) (r : Nat) (x : Region) : (setRegion s r x).flc = s.flc := rfl
@[simp] theorem setRegion_sec (s : State) (r : Nat) (x : Region) : (setRegion s r x).sec = s.sec := rfl
@[simp] theorem setRegion_upd (s : State) (r : Nat) (x : Region) : (setRegion s r x).upd = s.upd := rfl
@[simp] theorem setRegion_pmb (s : State) (r : Nat) (x : Region) : (setRegion s r x).pmb = s.pmb := rfl

/-! ### setBus -/

@[simp] theorem setBus_pending (x : BusState) (s : State) : (setBus x s).pending = s.pending := rfl
@[simp] theorem setBus_free (x : BusState) (s : State) : (setBus x s).free = s.free := rfl
@[simp] theorem setBus_time (x : BusState) (s : State) : (setBus x s).time = s.time := rfl
@[simp] theorem setBus_regs (x : BusState) (s : State) : (setBus x s).regs = s.regs := rfl
@[simp] theorem setBus_wrote (x : BusState) (s : State) : (setBus x s).wrote = s.wrote := rfl
@[simp] theorem setBus_landing (x : BusState) (s : State) : (setBus x s).landing = s.landing := rfl
@[simp] theorem setBus_landAge (x : BusState) (s : State) : (setBus x s).landAge = s.landAge := rfl
@[simp] theorem setBus_pend (x : BusState) (s : State) : (setBus x s).pend = s.pend := rfl
@[simp] theorem setBus_frozen (x : BusState) (s : State) : (setBus x s).frozen = s.frozen := rfl
@[simp] theorem setBus_held (x : BusState) (s : State) : (setBus x s).held = s.held := rfl
@[simp] theorem setBus_acts (x : BusState) (s : State) : (setBus x s).acts = s.acts := rfl
@[simp] theorem setBus_bus (x : BusState) (s : State) : (setBus x s).bus = x := rfl
@[simp] theorem setBus_inbox (x : BusState) (s : State) : (setBus x s).inbox = s.inbox := rfl
@[simp] theorem setBus_msgSeq (x : BusState) (s : State) : (setBus x s).msgSeq = s.msgSeq := rfl
@[simp] theorem setBus_lostMsg (x : BusState) (s : State) : (setBus x s).lostMsg = s.lostMsg := rfl
@[simp] theorem setBus_lostRec (x : BusState) (s : State) : (setBus x s).lostRec = s.lostRec := rfl
@[simp] theorem setBus_sns (x : BusState) (s : State) : (setBus x s).sns = s.sns := rfl
@[simp] theorem setBus_est (x : BusState) (s : State) : (setBus x s).est = s.est := rfl
@[simp] theorem setBus_psq (x : BusState) (s : State) : (setBus x s).psq = s.psq := rfl
@[simp] theorem setBus_drg (x : BusState) (s : State) : (setBus x s).drg = s.drg := rfl
@[simp] theorem setBus_phc (x : BusState) (s : State) : (setBus x s).phc = s.phc := rfl
@[simp] theorem setBus_lgv (x : BusState) (s : State) : (setBus x s).lgv = s.lgv := rfl
@[simp] theorem setBus_tmg (x : BusState) (s : State) : (setBus x s).tmg = s.tmg := rfl
@[simp] theorem setBus_sta (x : BusState) (s : State) : (setBus x s).sta = s.sta := rfl
@[simp] theorem setBus_pxe (x : BusState) (s : State) : (setBus x s).pxe = s.pxe := rfl
@[simp] theorem setBus_bal (x : BusState) (s : State) : (setBus x s).bal = s.bal := rfl
@[simp] theorem setBus_fw (x : BusState) (s : State) : (setBus x s).fw = s.fw := rfl
@[simp] theorem setBus_cmd (x : BusState) (s : State) : (setBus x s).cmd = s.cmd := rfl
@[simp] theorem setBus_evr (x : BusState) (s : State) : (setBus x s).evr = s.evr := rfl
@[simp] theorem setBus_flc (x : BusState) (s : State) : (setBus x s).flc = s.flc := rfl
@[simp] theorem setBus_sec (x : BusState) (s : State) : (setBus x s).sec = s.sec := rfl
@[simp] theorem setBus_upd (x : BusState) (s : State) : (setBus x s).upd = s.upd := rfl
@[simp] theorem setBus_pmb (x : BusState) (s : State) : (setBus x s).pmb = s.pmb := rfl

/-! ### setSns -/

@[simp] theorem setSns_pending (x : SnsState) (s : State) : (setSns x s).pending = s.pending := rfl
@[simp] theorem setSns_free (x : SnsState) (s : State) : (setSns x s).free = s.free := rfl
@[simp] theorem setSns_time (x : SnsState) (s : State) : (setSns x s).time = s.time := rfl
@[simp] theorem setSns_regs (x : SnsState) (s : State) : (setSns x s).regs = s.regs := rfl
@[simp] theorem setSns_wrote (x : SnsState) (s : State) : (setSns x s).wrote = s.wrote := rfl
@[simp] theorem setSns_landing (x : SnsState) (s : State) : (setSns x s).landing = s.landing := rfl
@[simp] theorem setSns_landAge (x : SnsState) (s : State) : (setSns x s).landAge = s.landAge := rfl
@[simp] theorem setSns_pend (x : SnsState) (s : State) : (setSns x s).pend = s.pend := rfl
@[simp] theorem setSns_frozen (x : SnsState) (s : State) : (setSns x s).frozen = s.frozen := rfl
@[simp] theorem setSns_held (x : SnsState) (s : State) : (setSns x s).held = s.held := rfl
@[simp] theorem setSns_acts (x : SnsState) (s : State) : (setSns x s).acts = s.acts := rfl
@[simp] theorem setSns_bus (x : SnsState) (s : State) : (setSns x s).bus = s.bus := rfl
@[simp] theorem setSns_inbox (x : SnsState) (s : State) : (setSns x s).inbox = s.inbox := rfl
@[simp] theorem setSns_msgSeq (x : SnsState) (s : State) : (setSns x s).msgSeq = s.msgSeq := rfl
@[simp] theorem setSns_lostMsg (x : SnsState) (s : State) : (setSns x s).lostMsg = s.lostMsg := rfl
@[simp] theorem setSns_lostRec (x : SnsState) (s : State) : (setSns x s).lostRec = s.lostRec := rfl
@[simp] theorem setSns_sns (x : SnsState) (s : State) : (setSns x s).sns = x := rfl
@[simp] theorem setSns_est (x : SnsState) (s : State) : (setSns x s).est = s.est := rfl
@[simp] theorem setSns_psq (x : SnsState) (s : State) : (setSns x s).psq = s.psq := rfl
@[simp] theorem setSns_drg (x : SnsState) (s : State) : (setSns x s).drg = s.drg := rfl
@[simp] theorem setSns_phc (x : SnsState) (s : State) : (setSns x s).phc = s.phc := rfl
@[simp] theorem setSns_lgv (x : SnsState) (s : State) : (setSns x s).lgv = s.lgv := rfl
@[simp] theorem setSns_tmg (x : SnsState) (s : State) : (setSns x s).tmg = s.tmg := rfl
@[simp] theorem setSns_sta (x : SnsState) (s : State) : (setSns x s).sta = s.sta := rfl
@[simp] theorem setSns_pxe (x : SnsState) (s : State) : (setSns x s).pxe = s.pxe := rfl
@[simp] theorem setSns_bal (x : SnsState) (s : State) : (setSns x s).bal = s.bal := rfl
@[simp] theorem setSns_fw (x : SnsState) (s : State) : (setSns x s).fw = s.fw := rfl
@[simp] theorem setSns_cmd (x : SnsState) (s : State) : (setSns x s).cmd = s.cmd := rfl
@[simp] theorem setSns_evr (x : SnsState) (s : State) : (setSns x s).evr = s.evr := rfl
@[simp] theorem setSns_flc (x : SnsState) (s : State) : (setSns x s).flc = s.flc := rfl
@[simp] theorem setSns_sec (x : SnsState) (s : State) : (setSns x s).sec = s.sec := rfl
@[simp] theorem setSns_upd (x : SnsState) (s : State) : (setSns x s).upd = s.upd := rfl
@[simp] theorem setSns_pmb (x : SnsState) (s : State) : (setSns x s).pmb = s.pmb := rfl

/-! ### setEst -/

@[simp] theorem setEst_pending (x : EstState) (s : State) : (setEst x s).pending = s.pending := rfl
@[simp] theorem setEst_free (x : EstState) (s : State) : (setEst x s).free = s.free := rfl
@[simp] theorem setEst_time (x : EstState) (s : State) : (setEst x s).time = s.time := rfl
@[simp] theorem setEst_regs (x : EstState) (s : State) : (setEst x s).regs = s.regs := rfl
@[simp] theorem setEst_wrote (x : EstState) (s : State) : (setEst x s).wrote = s.wrote := rfl
@[simp] theorem setEst_landing (x : EstState) (s : State) : (setEst x s).landing = s.landing := rfl
@[simp] theorem setEst_landAge (x : EstState) (s : State) : (setEst x s).landAge = s.landAge := rfl
@[simp] theorem setEst_pend (x : EstState) (s : State) : (setEst x s).pend = s.pend := rfl
@[simp] theorem setEst_frozen (x : EstState) (s : State) : (setEst x s).frozen = s.frozen := rfl
@[simp] theorem setEst_held (x : EstState) (s : State) : (setEst x s).held = s.held := rfl
@[simp] theorem setEst_acts (x : EstState) (s : State) : (setEst x s).acts = s.acts := rfl
@[simp] theorem setEst_bus (x : EstState) (s : State) : (setEst x s).bus = s.bus := rfl
@[simp] theorem setEst_inbox (x : EstState) (s : State) : (setEst x s).inbox = s.inbox := rfl
@[simp] theorem setEst_msgSeq (x : EstState) (s : State) : (setEst x s).msgSeq = s.msgSeq := rfl
@[simp] theorem setEst_lostMsg (x : EstState) (s : State) : (setEst x s).lostMsg = s.lostMsg := rfl
@[simp] theorem setEst_lostRec (x : EstState) (s : State) : (setEst x s).lostRec = s.lostRec := rfl
@[simp] theorem setEst_sns (x : EstState) (s : State) : (setEst x s).sns = s.sns := rfl
@[simp] theorem setEst_est (x : EstState) (s : State) : (setEst x s).est = x := rfl
@[simp] theorem setEst_psq (x : EstState) (s : State) : (setEst x s).psq = s.psq := rfl
@[simp] theorem setEst_drg (x : EstState) (s : State) : (setEst x s).drg = s.drg := rfl
@[simp] theorem setEst_phc (x : EstState) (s : State) : (setEst x s).phc = s.phc := rfl
@[simp] theorem setEst_lgv (x : EstState) (s : State) : (setEst x s).lgv = s.lgv := rfl
@[simp] theorem setEst_tmg (x : EstState) (s : State) : (setEst x s).tmg = s.tmg := rfl
@[simp] theorem setEst_sta (x : EstState) (s : State) : (setEst x s).sta = s.sta := rfl
@[simp] theorem setEst_pxe (x : EstState) (s : State) : (setEst x s).pxe = s.pxe := rfl
@[simp] theorem setEst_bal (x : EstState) (s : State) : (setEst x s).bal = s.bal := rfl
@[simp] theorem setEst_fw (x : EstState) (s : State) : (setEst x s).fw = s.fw := rfl
@[simp] theorem setEst_cmd (x : EstState) (s : State) : (setEst x s).cmd = s.cmd := rfl
@[simp] theorem setEst_evr (x : EstState) (s : State) : (setEst x s).evr = s.evr := rfl
@[simp] theorem setEst_flc (x : EstState) (s : State) : (setEst x s).flc = s.flc := rfl
@[simp] theorem setEst_sec (x : EstState) (s : State) : (setEst x s).sec = s.sec := rfl
@[simp] theorem setEst_upd (x : EstState) (s : State) : (setEst x s).upd = s.upd := rfl
@[simp] theorem setEst_pmb (x : EstState) (s : State) : (setEst x s).pmb = s.pmb := rfl

/-! ### setLgv -/

@[simp] theorem setLgv_pending (x : LgvState) (s : State) : (setLgv x s).pending = s.pending := rfl
@[simp] theorem setLgv_free (x : LgvState) (s : State) : (setLgv x s).free = s.free := rfl
@[simp] theorem setLgv_time (x : LgvState) (s : State) : (setLgv x s).time = s.time := rfl
@[simp] theorem setLgv_regs (x : LgvState) (s : State) : (setLgv x s).regs = s.regs := rfl
@[simp] theorem setLgv_wrote (x : LgvState) (s : State) : (setLgv x s).wrote = s.wrote := rfl
@[simp] theorem setLgv_landing (x : LgvState) (s : State) : (setLgv x s).landing = s.landing := rfl
@[simp] theorem setLgv_landAge (x : LgvState) (s : State) : (setLgv x s).landAge = s.landAge := rfl
@[simp] theorem setLgv_pend (x : LgvState) (s : State) : (setLgv x s).pend = s.pend := rfl
@[simp] theorem setLgv_frozen (x : LgvState) (s : State) : (setLgv x s).frozen = s.frozen := rfl
@[simp] theorem setLgv_held (x : LgvState) (s : State) : (setLgv x s).held = s.held := rfl
@[simp] theorem setLgv_acts (x : LgvState) (s : State) : (setLgv x s).acts = s.acts := rfl
@[simp] theorem setLgv_bus (x : LgvState) (s : State) : (setLgv x s).bus = s.bus := rfl
@[simp] theorem setLgv_inbox (x : LgvState) (s : State) : (setLgv x s).inbox = s.inbox := rfl
@[simp] theorem setLgv_msgSeq (x : LgvState) (s : State) : (setLgv x s).msgSeq = s.msgSeq := rfl
@[simp] theorem setLgv_lostMsg (x : LgvState) (s : State) : (setLgv x s).lostMsg = s.lostMsg := rfl
@[simp] theorem setLgv_lostRec (x : LgvState) (s : State) : (setLgv x s).lostRec = s.lostRec := rfl
@[simp] theorem setLgv_sns (x : LgvState) (s : State) : (setLgv x s).sns = s.sns := rfl
@[simp] theorem setLgv_est (x : LgvState) (s : State) : (setLgv x s).est = s.est := rfl
@[simp] theorem setLgv_psq (x : LgvState) (s : State) : (setLgv x s).psq = s.psq := rfl
@[simp] theorem setLgv_drg (x : LgvState) (s : State) : (setLgv x s).drg = s.drg := rfl
@[simp] theorem setLgv_phc (x : LgvState) (s : State) : (setLgv x s).phc = s.phc := rfl
@[simp] theorem setLgv_lgv (x : LgvState) (s : State) : (setLgv x s).lgv = x := rfl
@[simp] theorem setLgv_tmg (x : LgvState) (s : State) : (setLgv x s).tmg = s.tmg := rfl
@[simp] theorem setLgv_sta (x : LgvState) (s : State) : (setLgv x s).sta = s.sta := rfl
@[simp] theorem setLgv_pxe (x : LgvState) (s : State) : (setLgv x s).pxe = s.pxe := rfl
@[simp] theorem setLgv_bal (x : LgvState) (s : State) : (setLgv x s).bal = s.bal := rfl
@[simp] theorem setLgv_fw (x : LgvState) (s : State) : (setLgv x s).fw = s.fw := rfl
@[simp] theorem setLgv_cmd (x : LgvState) (s : State) : (setLgv x s).cmd = s.cmd := rfl
@[simp] theorem setLgv_evr (x : LgvState) (s : State) : (setLgv x s).evr = s.evr := rfl
@[simp] theorem setLgv_flc (x : LgvState) (s : State) : (setLgv x s).flc = s.flc := rfl
@[simp] theorem setLgv_sec (x : LgvState) (s : State) : (setLgv x s).sec = s.sec := rfl
@[simp] theorem setLgv_upd (x : LgvState) (s : State) : (setLgv x s).upd = s.upd := rfl
@[simp] theorem setLgv_pmb (x : LgvState) (s : State) : (setLgv x s).pmb = s.pmb := rfl

/-! ### setTmg -/

@[simp] theorem setTmg_pending (x : TmgState) (s : State) : (setTmg x s).pending = s.pending := rfl
@[simp] theorem setTmg_free (x : TmgState) (s : State) : (setTmg x s).free = s.free := rfl
@[simp] theorem setTmg_time (x : TmgState) (s : State) : (setTmg x s).time = s.time := rfl
@[simp] theorem setTmg_regs (x : TmgState) (s : State) : (setTmg x s).regs = s.regs := rfl
@[simp] theorem setTmg_wrote (x : TmgState) (s : State) : (setTmg x s).wrote = s.wrote := rfl
@[simp] theorem setTmg_landing (x : TmgState) (s : State) : (setTmg x s).landing = s.landing := rfl
@[simp] theorem setTmg_landAge (x : TmgState) (s : State) : (setTmg x s).landAge = s.landAge := rfl
@[simp] theorem setTmg_pend (x : TmgState) (s : State) : (setTmg x s).pend = s.pend := rfl
@[simp] theorem setTmg_frozen (x : TmgState) (s : State) : (setTmg x s).frozen = s.frozen := rfl
@[simp] theorem setTmg_held (x : TmgState) (s : State) : (setTmg x s).held = s.held := rfl
@[simp] theorem setTmg_acts (x : TmgState) (s : State) : (setTmg x s).acts = s.acts := rfl
@[simp] theorem setTmg_bus (x : TmgState) (s : State) : (setTmg x s).bus = s.bus := rfl
@[simp] theorem setTmg_inbox (x : TmgState) (s : State) : (setTmg x s).inbox = s.inbox := rfl
@[simp] theorem setTmg_msgSeq (x : TmgState) (s : State) : (setTmg x s).msgSeq = s.msgSeq := rfl
@[simp] theorem setTmg_lostMsg (x : TmgState) (s : State) : (setTmg x s).lostMsg = s.lostMsg := rfl
@[simp] theorem setTmg_lostRec (x : TmgState) (s : State) : (setTmg x s).lostRec = s.lostRec := rfl
@[simp] theorem setTmg_sns (x : TmgState) (s : State) : (setTmg x s).sns = s.sns := rfl
@[simp] theorem setTmg_est (x : TmgState) (s : State) : (setTmg x s).est = s.est := rfl
@[simp] theorem setTmg_psq (x : TmgState) (s : State) : (setTmg x s).psq = s.psq := rfl
@[simp] theorem setTmg_drg (x : TmgState) (s : State) : (setTmg x s).drg = s.drg := rfl
@[simp] theorem setTmg_phc (x : TmgState) (s : State) : (setTmg x s).phc = s.phc := rfl
@[simp] theorem setTmg_lgv (x : TmgState) (s : State) : (setTmg x s).lgv = s.lgv := rfl
@[simp] theorem setTmg_tmg (x : TmgState) (s : State) : (setTmg x s).tmg = x := rfl
@[simp] theorem setTmg_sta (x : TmgState) (s : State) : (setTmg x s).sta = s.sta := rfl
@[simp] theorem setTmg_pxe (x : TmgState) (s : State) : (setTmg x s).pxe = s.pxe := rfl
@[simp] theorem setTmg_bal (x : TmgState) (s : State) : (setTmg x s).bal = s.bal := rfl
@[simp] theorem setTmg_fw (x : TmgState) (s : State) : (setTmg x s).fw = s.fw := rfl
@[simp] theorem setTmg_cmd (x : TmgState) (s : State) : (setTmg x s).cmd = s.cmd := rfl
@[simp] theorem setTmg_evr (x : TmgState) (s : State) : (setTmg x s).evr = s.evr := rfl
@[simp] theorem setTmg_flc (x : TmgState) (s : State) : (setTmg x s).flc = s.flc := rfl
@[simp] theorem setTmg_sec (x : TmgState) (s : State) : (setTmg x s).sec = s.sec := rfl
@[simp] theorem setTmg_upd (x : TmgState) (s : State) : (setTmg x s).upd = s.upd := rfl
@[simp] theorem setTmg_pmb (x : TmgState) (s : State) : (setTmg x s).pmb = s.pmb := rfl

/-! ### setSta -/

@[simp] theorem setSta_pending (x : StaState) (s : State) : (setSta x s).pending = s.pending := rfl
@[simp] theorem setSta_free (x : StaState) (s : State) : (setSta x s).free = s.free := rfl
@[simp] theorem setSta_time (x : StaState) (s : State) : (setSta x s).time = s.time := rfl
@[simp] theorem setSta_regs (x : StaState) (s : State) : (setSta x s).regs = s.regs := rfl
@[simp] theorem setSta_wrote (x : StaState) (s : State) : (setSta x s).wrote = s.wrote := rfl
@[simp] theorem setSta_landing (x : StaState) (s : State) : (setSta x s).landing = s.landing := rfl
@[simp] theorem setSta_landAge (x : StaState) (s : State) : (setSta x s).landAge = s.landAge := rfl
@[simp] theorem setSta_pend (x : StaState) (s : State) : (setSta x s).pend = s.pend := rfl
@[simp] theorem setSta_frozen (x : StaState) (s : State) : (setSta x s).frozen = s.frozen := rfl
@[simp] theorem setSta_held (x : StaState) (s : State) : (setSta x s).held = s.held := rfl
@[simp] theorem setSta_acts (x : StaState) (s : State) : (setSta x s).acts = s.acts := rfl
@[simp] theorem setSta_bus (x : StaState) (s : State) : (setSta x s).bus = s.bus := rfl
@[simp] theorem setSta_inbox (x : StaState) (s : State) : (setSta x s).inbox = s.inbox := rfl
@[simp] theorem setSta_msgSeq (x : StaState) (s : State) : (setSta x s).msgSeq = s.msgSeq := rfl
@[simp] theorem setSta_lostMsg (x : StaState) (s : State) : (setSta x s).lostMsg = s.lostMsg := rfl
@[simp] theorem setSta_lostRec (x : StaState) (s : State) : (setSta x s).lostRec = s.lostRec := rfl
@[simp] theorem setSta_sns (x : StaState) (s : State) : (setSta x s).sns = s.sns := rfl
@[simp] theorem setSta_est (x : StaState) (s : State) : (setSta x s).est = s.est := rfl
@[simp] theorem setSta_psq (x : StaState) (s : State) : (setSta x s).psq = s.psq := rfl
@[simp] theorem setSta_drg (x : StaState) (s : State) : (setSta x s).drg = s.drg := rfl
@[simp] theorem setSta_phc (x : StaState) (s : State) : (setSta x s).phc = s.phc := rfl
@[simp] theorem setSta_lgv (x : StaState) (s : State) : (setSta x s).lgv = s.lgv := rfl
@[simp] theorem setSta_tmg (x : StaState) (s : State) : (setSta x s).tmg = s.tmg := rfl
@[simp] theorem setSta_sta (x : StaState) (s : State) : (setSta x s).sta = x := rfl
@[simp] theorem setSta_pxe (x : StaState) (s : State) : (setSta x s).pxe = s.pxe := rfl
@[simp] theorem setSta_bal (x : StaState) (s : State) : (setSta x s).bal = s.bal := rfl
@[simp] theorem setSta_fw (x : StaState) (s : State) : (setSta x s).fw = s.fw := rfl
@[simp] theorem setSta_cmd (x : StaState) (s : State) : (setSta x s).cmd = s.cmd := rfl
@[simp] theorem setSta_evr (x : StaState) (s : State) : (setSta x s).evr = s.evr := rfl
@[simp] theorem setSta_flc (x : StaState) (s : State) : (setSta x s).flc = s.flc := rfl
@[simp] theorem setSta_sec (x : StaState) (s : State) : (setSta x s).sec = s.sec := rfl
@[simp] theorem setSta_upd (x : StaState) (s : State) : (setSta x s).upd = s.upd := rfl
@[simp] theorem setSta_pmb (x : StaState) (s : State) : (setSta x s).pmb = s.pmb := rfl

/-! ### setPxe -/

@[simp] theorem setPxe_pending (x : PxeState) (s : State) : (setPxe x s).pending = s.pending := rfl
@[simp] theorem setPxe_free (x : PxeState) (s : State) : (setPxe x s).free = s.free := rfl
@[simp] theorem setPxe_time (x : PxeState) (s : State) : (setPxe x s).time = s.time := rfl
@[simp] theorem setPxe_regs (x : PxeState) (s : State) : (setPxe x s).regs = s.regs := rfl
@[simp] theorem setPxe_wrote (x : PxeState) (s : State) : (setPxe x s).wrote = s.wrote := rfl
@[simp] theorem setPxe_landing (x : PxeState) (s : State) : (setPxe x s).landing = s.landing := rfl
@[simp] theorem setPxe_landAge (x : PxeState) (s : State) : (setPxe x s).landAge = s.landAge := rfl
@[simp] theorem setPxe_pend (x : PxeState) (s : State) : (setPxe x s).pend = s.pend := rfl
@[simp] theorem setPxe_frozen (x : PxeState) (s : State) : (setPxe x s).frozen = s.frozen := rfl
@[simp] theorem setPxe_held (x : PxeState) (s : State) : (setPxe x s).held = s.held := rfl
@[simp] theorem setPxe_acts (x : PxeState) (s : State) : (setPxe x s).acts = s.acts := rfl
@[simp] theorem setPxe_bus (x : PxeState) (s : State) : (setPxe x s).bus = s.bus := rfl
@[simp] theorem setPxe_inbox (x : PxeState) (s : State) : (setPxe x s).inbox = s.inbox := rfl
@[simp] theorem setPxe_msgSeq (x : PxeState) (s : State) : (setPxe x s).msgSeq = s.msgSeq := rfl
@[simp] theorem setPxe_lostMsg (x : PxeState) (s : State) : (setPxe x s).lostMsg = s.lostMsg := rfl
@[simp] theorem setPxe_lostRec (x : PxeState) (s : State) : (setPxe x s).lostRec = s.lostRec := rfl
@[simp] theorem setPxe_sns (x : PxeState) (s : State) : (setPxe x s).sns = s.sns := rfl
@[simp] theorem setPxe_est (x : PxeState) (s : State) : (setPxe x s).est = s.est := rfl
@[simp] theorem setPxe_psq (x : PxeState) (s : State) : (setPxe x s).psq = s.psq := rfl
@[simp] theorem setPxe_drg (x : PxeState) (s : State) : (setPxe x s).drg = s.drg := rfl
@[simp] theorem setPxe_phc (x : PxeState) (s : State) : (setPxe x s).phc = s.phc := rfl
@[simp] theorem setPxe_lgv (x : PxeState) (s : State) : (setPxe x s).lgv = s.lgv := rfl
@[simp] theorem setPxe_tmg (x : PxeState) (s : State) : (setPxe x s).tmg = s.tmg := rfl
@[simp] theorem setPxe_sta (x : PxeState) (s : State) : (setPxe x s).sta = s.sta := rfl
@[simp] theorem setPxe_pxe (x : PxeState) (s : State) : (setPxe x s).pxe = x := rfl
@[simp] theorem setPxe_bal (x : PxeState) (s : State) : (setPxe x s).bal = s.bal := rfl
@[simp] theorem setPxe_fw (x : PxeState) (s : State) : (setPxe x s).fw = s.fw := rfl
@[simp] theorem setPxe_cmd (x : PxeState) (s : State) : (setPxe x s).cmd = s.cmd := rfl
@[simp] theorem setPxe_evr (x : PxeState) (s : State) : (setPxe x s).evr = s.evr := rfl
@[simp] theorem setPxe_flc (x : PxeState) (s : State) : (setPxe x s).flc = s.flc := rfl
@[simp] theorem setPxe_sec (x : PxeState) (s : State) : (setPxe x s).sec = s.sec := rfl
@[simp] theorem setPxe_upd (x : PxeState) (s : State) : (setPxe x s).upd = s.upd := rfl
@[simp] theorem setPxe_pmb (x : PxeState) (s : State) : (setPxe x s).pmb = s.pmb := rfl

/-! ### setBal -/

@[simp] theorem setBal_pending (x : BalState) (s : State) : (setBal x s).pending = s.pending := rfl
@[simp] theorem setBal_free (x : BalState) (s : State) : (setBal x s).free = s.free := rfl
@[simp] theorem setBal_time (x : BalState) (s : State) : (setBal x s).time = s.time := rfl
@[simp] theorem setBal_regs (x : BalState) (s : State) : (setBal x s).regs = s.regs := rfl
@[simp] theorem setBal_wrote (x : BalState) (s : State) : (setBal x s).wrote = s.wrote := rfl
@[simp] theorem setBal_landing (x : BalState) (s : State) : (setBal x s).landing = s.landing := rfl
@[simp] theorem setBal_landAge (x : BalState) (s : State) : (setBal x s).landAge = s.landAge := rfl
@[simp] theorem setBal_pend (x : BalState) (s : State) : (setBal x s).pend = s.pend := rfl
@[simp] theorem setBal_frozen (x : BalState) (s : State) : (setBal x s).frozen = s.frozen := rfl
@[simp] theorem setBal_held (x : BalState) (s : State) : (setBal x s).held = s.held := rfl
@[simp] theorem setBal_acts (x : BalState) (s : State) : (setBal x s).acts = s.acts := rfl
@[simp] theorem setBal_bus (x : BalState) (s : State) : (setBal x s).bus = s.bus := rfl
@[simp] theorem setBal_inbox (x : BalState) (s : State) : (setBal x s).inbox = s.inbox := rfl
@[simp] theorem setBal_msgSeq (x : BalState) (s : State) : (setBal x s).msgSeq = s.msgSeq := rfl
@[simp] theorem setBal_lostMsg (x : BalState) (s : State) : (setBal x s).lostMsg = s.lostMsg := rfl
@[simp] theorem setBal_lostRec (x : BalState) (s : State) : (setBal x s).lostRec = s.lostRec := rfl
@[simp] theorem setBal_sns (x : BalState) (s : State) : (setBal x s).sns = s.sns := rfl
@[simp] theorem setBal_est (x : BalState) (s : State) : (setBal x s).est = s.est := rfl
@[simp] theorem setBal_psq (x : BalState) (s : State) : (setBal x s).psq = s.psq := rfl
@[simp] theorem setBal_drg (x : BalState) (s : State) : (setBal x s).drg = s.drg := rfl
@[simp] theorem setBal_phc (x : BalState) (s : State) : (setBal x s).phc = s.phc := rfl
@[simp] theorem setBal_lgv (x : BalState) (s : State) : (setBal x s).lgv = s.lgv := rfl
@[simp] theorem setBal_tmg (x : BalState) (s : State) : (setBal x s).tmg = s.tmg := rfl
@[simp] theorem setBal_sta (x : BalState) (s : State) : (setBal x s).sta = s.sta := rfl
@[simp] theorem setBal_pxe (x : BalState) (s : State) : (setBal x s).pxe = s.pxe := rfl
@[simp] theorem setBal_bal (x : BalState) (s : State) : (setBal x s).bal = x := rfl
@[simp] theorem setBal_fw (x : BalState) (s : State) : (setBal x s).fw = s.fw := rfl
@[simp] theorem setBal_cmd (x : BalState) (s : State) : (setBal x s).cmd = s.cmd := rfl
@[simp] theorem setBal_evr (x : BalState) (s : State) : (setBal x s).evr = s.evr := rfl
@[simp] theorem setBal_flc (x : BalState) (s : State) : (setBal x s).flc = s.flc := rfl
@[simp] theorem setBal_sec (x : BalState) (s : State) : (setBal x s).sec = s.sec := rfl
@[simp] theorem setBal_upd (x : BalState) (s : State) : (setBal x s).upd = s.upd := rfl
@[simp] theorem setBal_pmb (x : BalState) (s : State) : (setBal x s).pmb = s.pmb := rfl

/-! ### setFw -/

@[simp] theorem setFw_pending (x : FwState) (s : State) : (setFw x s).pending = s.pending := rfl
@[simp] theorem setFw_free (x : FwState) (s : State) : (setFw x s).free = s.free := rfl
@[simp] theorem setFw_time (x : FwState) (s : State) : (setFw x s).time = s.time := rfl
@[simp] theorem setFw_regs (x : FwState) (s : State) : (setFw x s).regs = s.regs := rfl
@[simp] theorem setFw_wrote (x : FwState) (s : State) : (setFw x s).wrote = s.wrote := rfl
@[simp] theorem setFw_landing (x : FwState) (s : State) : (setFw x s).landing = s.landing := rfl
@[simp] theorem setFw_landAge (x : FwState) (s : State) : (setFw x s).landAge = s.landAge := rfl
@[simp] theorem setFw_pend (x : FwState) (s : State) : (setFw x s).pend = s.pend := rfl
@[simp] theorem setFw_frozen (x : FwState) (s : State) : (setFw x s).frozen = s.frozen := rfl
@[simp] theorem setFw_held (x : FwState) (s : State) : (setFw x s).held = s.held := rfl
@[simp] theorem setFw_acts (x : FwState) (s : State) : (setFw x s).acts = s.acts := rfl
@[simp] theorem setFw_bus (x : FwState) (s : State) : (setFw x s).bus = s.bus := rfl
@[simp] theorem setFw_inbox (x : FwState) (s : State) : (setFw x s).inbox = s.inbox := rfl
@[simp] theorem setFw_msgSeq (x : FwState) (s : State) : (setFw x s).msgSeq = s.msgSeq := rfl
@[simp] theorem setFw_lostMsg (x : FwState) (s : State) : (setFw x s).lostMsg = s.lostMsg := rfl
@[simp] theorem setFw_lostRec (x : FwState) (s : State) : (setFw x s).lostRec = s.lostRec := rfl
@[simp] theorem setFw_sns (x : FwState) (s : State) : (setFw x s).sns = s.sns := rfl
@[simp] theorem setFw_est (x : FwState) (s : State) : (setFw x s).est = s.est := rfl
@[simp] theorem setFw_psq (x : FwState) (s : State) : (setFw x s).psq = s.psq := rfl
@[simp] theorem setFw_drg (x : FwState) (s : State) : (setFw x s).drg = s.drg := rfl
@[simp] theorem setFw_phc (x : FwState) (s : State) : (setFw x s).phc = s.phc := rfl
@[simp] theorem setFw_lgv (x : FwState) (s : State) : (setFw x s).lgv = s.lgv := rfl
@[simp] theorem setFw_tmg (x : FwState) (s : State) : (setFw x s).tmg = s.tmg := rfl
@[simp] theorem setFw_sta (x : FwState) (s : State) : (setFw x s).sta = s.sta := rfl
@[simp] theorem setFw_pxe (x : FwState) (s : State) : (setFw x s).pxe = s.pxe := rfl
@[simp] theorem setFw_bal (x : FwState) (s : State) : (setFw x s).bal = s.bal := rfl
@[simp] theorem setFw_fw (x : FwState) (s : State) : (setFw x s).fw = x := rfl
@[simp] theorem setFw_cmd (x : FwState) (s : State) : (setFw x s).cmd = s.cmd := rfl
@[simp] theorem setFw_evr (x : FwState) (s : State) : (setFw x s).evr = s.evr := rfl
@[simp] theorem setFw_flc (x : FwState) (s : State) : (setFw x s).flc = s.flc := rfl
@[simp] theorem setFw_sec (x : FwState) (s : State) : (setFw x s).sec = s.sec := rfl
@[simp] theorem setFw_upd (x : FwState) (s : State) : (setFw x s).upd = s.upd := rfl
@[simp] theorem setFw_pmb (x : FwState) (s : State) : (setFw x s).pmb = s.pmb := rfl

/-! ### setCmd -/

@[simp] theorem setCmd_pending (x : CmdState) (s : State) : (setCmd x s).pending = s.pending := rfl
@[simp] theorem setCmd_free (x : CmdState) (s : State) : (setCmd x s).free = s.free := rfl
@[simp] theorem setCmd_time (x : CmdState) (s : State) : (setCmd x s).time = s.time := rfl
@[simp] theorem setCmd_regs (x : CmdState) (s : State) : (setCmd x s).regs = s.regs := rfl
@[simp] theorem setCmd_wrote (x : CmdState) (s : State) : (setCmd x s).wrote = s.wrote := rfl
@[simp] theorem setCmd_landing (x : CmdState) (s : State) : (setCmd x s).landing = s.landing := rfl
@[simp] theorem setCmd_landAge (x : CmdState) (s : State) : (setCmd x s).landAge = s.landAge := rfl
@[simp] theorem setCmd_pend (x : CmdState) (s : State) : (setCmd x s).pend = s.pend := rfl
@[simp] theorem setCmd_frozen (x : CmdState) (s : State) : (setCmd x s).frozen = s.frozen := rfl
@[simp] theorem setCmd_held (x : CmdState) (s : State) : (setCmd x s).held = s.held := rfl
@[simp] theorem setCmd_acts (x : CmdState) (s : State) : (setCmd x s).acts = s.acts := rfl
@[simp] theorem setCmd_bus (x : CmdState) (s : State) : (setCmd x s).bus = s.bus := rfl
@[simp] theorem setCmd_inbox (x : CmdState) (s : State) : (setCmd x s).inbox = s.inbox := rfl
@[simp] theorem setCmd_msgSeq (x : CmdState) (s : State) : (setCmd x s).msgSeq = s.msgSeq := rfl
@[simp] theorem setCmd_lostMsg (x : CmdState) (s : State) : (setCmd x s).lostMsg = s.lostMsg := rfl
@[simp] theorem setCmd_lostRec (x : CmdState) (s : State) : (setCmd x s).lostRec = s.lostRec := rfl
@[simp] theorem setCmd_sns (x : CmdState) (s : State) : (setCmd x s).sns = s.sns := rfl
@[simp] theorem setCmd_est (x : CmdState) (s : State) : (setCmd x s).est = s.est := rfl
@[simp] theorem setCmd_psq (x : CmdState) (s : State) : (setCmd x s).psq = s.psq := rfl
@[simp] theorem setCmd_drg (x : CmdState) (s : State) : (setCmd x s).drg = s.drg := rfl
@[simp] theorem setCmd_phc (x : CmdState) (s : State) : (setCmd x s).phc = s.phc := rfl
@[simp] theorem setCmd_lgv (x : CmdState) (s : State) : (setCmd x s).lgv = s.lgv := rfl
@[simp] theorem setCmd_tmg (x : CmdState) (s : State) : (setCmd x s).tmg = s.tmg := rfl
@[simp] theorem setCmd_sta (x : CmdState) (s : State) : (setCmd x s).sta = s.sta := rfl
@[simp] theorem setCmd_pxe (x : CmdState) (s : State) : (setCmd x s).pxe = s.pxe := rfl
@[simp] theorem setCmd_bal (x : CmdState) (s : State) : (setCmd x s).bal = s.bal := rfl
@[simp] theorem setCmd_fw (x : CmdState) (s : State) : (setCmd x s).fw = s.fw := rfl
@[simp] theorem setCmd_cmd (x : CmdState) (s : State) : (setCmd x s).cmd = x := rfl
@[simp] theorem setCmd_evr (x : CmdState) (s : State) : (setCmd x s).evr = s.evr := rfl
@[simp] theorem setCmd_flc (x : CmdState) (s : State) : (setCmd x s).flc = s.flc := rfl
@[simp] theorem setCmd_sec (x : CmdState) (s : State) : (setCmd x s).sec = s.sec := rfl
@[simp] theorem setCmd_upd (x : CmdState) (s : State) : (setCmd x s).upd = s.upd := rfl
@[simp] theorem setCmd_pmb (x : CmdState) (s : State) : (setCmd x s).pmb = s.pmb := rfl

/-! ### setEvr -/

@[simp] theorem setEvr_pending (x : EvrState) (s : State) : (setEvr x s).pending = s.pending := rfl
@[simp] theorem setEvr_free (x : EvrState) (s : State) : (setEvr x s).free = s.free := rfl
@[simp] theorem setEvr_time (x : EvrState) (s : State) : (setEvr x s).time = s.time := rfl
@[simp] theorem setEvr_regs (x : EvrState) (s : State) : (setEvr x s).regs = s.regs := rfl
@[simp] theorem setEvr_wrote (x : EvrState) (s : State) : (setEvr x s).wrote = s.wrote := rfl
@[simp] theorem setEvr_landing (x : EvrState) (s : State) : (setEvr x s).landing = s.landing := rfl
@[simp] theorem setEvr_landAge (x : EvrState) (s : State) : (setEvr x s).landAge = s.landAge := rfl
@[simp] theorem setEvr_pend (x : EvrState) (s : State) : (setEvr x s).pend = s.pend := rfl
@[simp] theorem setEvr_frozen (x : EvrState) (s : State) : (setEvr x s).frozen = s.frozen := rfl
@[simp] theorem setEvr_held (x : EvrState) (s : State) : (setEvr x s).held = s.held := rfl
@[simp] theorem setEvr_acts (x : EvrState) (s : State) : (setEvr x s).acts = s.acts := rfl
@[simp] theorem setEvr_bus (x : EvrState) (s : State) : (setEvr x s).bus = s.bus := rfl
@[simp] theorem setEvr_inbox (x : EvrState) (s : State) : (setEvr x s).inbox = s.inbox := rfl
@[simp] theorem setEvr_msgSeq (x : EvrState) (s : State) : (setEvr x s).msgSeq = s.msgSeq := rfl
@[simp] theorem setEvr_lostMsg (x : EvrState) (s : State) : (setEvr x s).lostMsg = s.lostMsg := rfl
@[simp] theorem setEvr_lostRec (x : EvrState) (s : State) : (setEvr x s).lostRec = s.lostRec := rfl
@[simp] theorem setEvr_sns (x : EvrState) (s : State) : (setEvr x s).sns = s.sns := rfl
@[simp] theorem setEvr_est (x : EvrState) (s : State) : (setEvr x s).est = s.est := rfl
@[simp] theorem setEvr_psq (x : EvrState) (s : State) : (setEvr x s).psq = s.psq := rfl
@[simp] theorem setEvr_drg (x : EvrState) (s : State) : (setEvr x s).drg = s.drg := rfl
@[simp] theorem setEvr_phc (x : EvrState) (s : State) : (setEvr x s).phc = s.phc := rfl
@[simp] theorem setEvr_lgv (x : EvrState) (s : State) : (setEvr x s).lgv = s.lgv := rfl
@[simp] theorem setEvr_tmg (x : EvrState) (s : State) : (setEvr x s).tmg = s.tmg := rfl
@[simp] theorem setEvr_sta (x : EvrState) (s : State) : (setEvr x s).sta = s.sta := rfl
@[simp] theorem setEvr_pxe (x : EvrState) (s : State) : (setEvr x s).pxe = s.pxe := rfl
@[simp] theorem setEvr_bal (x : EvrState) (s : State) : (setEvr x s).bal = s.bal := rfl
@[simp] theorem setEvr_fw (x : EvrState) (s : State) : (setEvr x s).fw = s.fw := rfl
@[simp] theorem setEvr_cmd (x : EvrState) (s : State) : (setEvr x s).cmd = s.cmd := rfl
@[simp] theorem setEvr_evr (x : EvrState) (s : State) : (setEvr x s).evr = x := rfl
@[simp] theorem setEvr_flc (x : EvrState) (s : State) : (setEvr x s).flc = s.flc := rfl
@[simp] theorem setEvr_sec (x : EvrState) (s : State) : (setEvr x s).sec = s.sec := rfl
@[simp] theorem setEvr_upd (x : EvrState) (s : State) : (setEvr x s).upd = s.upd := rfl
@[simp] theorem setEvr_pmb (x : EvrState) (s : State) : (setEvr x s).pmb = s.pmb := rfl

/-! ### setFlc -/

@[simp] theorem setFlc_pending (x : FlcState) (s : State) : (setFlc x s).pending = s.pending := rfl
@[simp] theorem setFlc_free (x : FlcState) (s : State) : (setFlc x s).free = s.free := rfl
@[simp] theorem setFlc_time (x : FlcState) (s : State) : (setFlc x s).time = s.time := rfl
@[simp] theorem setFlc_regs (x : FlcState) (s : State) : (setFlc x s).regs = s.regs := rfl
@[simp] theorem setFlc_wrote (x : FlcState) (s : State) : (setFlc x s).wrote = s.wrote := rfl
@[simp] theorem setFlc_landing (x : FlcState) (s : State) : (setFlc x s).landing = s.landing := rfl
@[simp] theorem setFlc_landAge (x : FlcState) (s : State) : (setFlc x s).landAge = s.landAge := rfl
@[simp] theorem setFlc_pend (x : FlcState) (s : State) : (setFlc x s).pend = s.pend := rfl
@[simp] theorem setFlc_frozen (x : FlcState) (s : State) : (setFlc x s).frozen = s.frozen := rfl
@[simp] theorem setFlc_held (x : FlcState) (s : State) : (setFlc x s).held = s.held := rfl
@[simp] theorem setFlc_acts (x : FlcState) (s : State) : (setFlc x s).acts = s.acts := rfl
@[simp] theorem setFlc_bus (x : FlcState) (s : State) : (setFlc x s).bus = s.bus := rfl
@[simp] theorem setFlc_inbox (x : FlcState) (s : State) : (setFlc x s).inbox = s.inbox := rfl
@[simp] theorem setFlc_msgSeq (x : FlcState) (s : State) : (setFlc x s).msgSeq = s.msgSeq := rfl
@[simp] theorem setFlc_lostMsg (x : FlcState) (s : State) : (setFlc x s).lostMsg = s.lostMsg := rfl
@[simp] theorem setFlc_lostRec (x : FlcState) (s : State) : (setFlc x s).lostRec = s.lostRec := rfl
@[simp] theorem setFlc_sns (x : FlcState) (s : State) : (setFlc x s).sns = s.sns := rfl
@[simp] theorem setFlc_est (x : FlcState) (s : State) : (setFlc x s).est = s.est := rfl
@[simp] theorem setFlc_psq (x : FlcState) (s : State) : (setFlc x s).psq = s.psq := rfl
@[simp] theorem setFlc_drg (x : FlcState) (s : State) : (setFlc x s).drg = s.drg := rfl
@[simp] theorem setFlc_phc (x : FlcState) (s : State) : (setFlc x s).phc = s.phc := rfl
@[simp] theorem setFlc_lgv (x : FlcState) (s : State) : (setFlc x s).lgv = s.lgv := rfl
@[simp] theorem setFlc_tmg (x : FlcState) (s : State) : (setFlc x s).tmg = s.tmg := rfl
@[simp] theorem setFlc_sta (x : FlcState) (s : State) : (setFlc x s).sta = s.sta := rfl
@[simp] theorem setFlc_pxe (x : FlcState) (s : State) : (setFlc x s).pxe = s.pxe := rfl
@[simp] theorem setFlc_bal (x : FlcState) (s : State) : (setFlc x s).bal = s.bal := rfl
@[simp] theorem setFlc_fw (x : FlcState) (s : State) : (setFlc x s).fw = s.fw := rfl
@[simp] theorem setFlc_cmd (x : FlcState) (s : State) : (setFlc x s).cmd = s.cmd := rfl
@[simp] theorem setFlc_evr (x : FlcState) (s : State) : (setFlc x s).evr = s.evr := rfl
@[simp] theorem setFlc_flc (x : FlcState) (s : State) : (setFlc x s).flc = x := rfl
@[simp] theorem setFlc_sec (x : FlcState) (s : State) : (setFlc x s).sec = s.sec := rfl
@[simp] theorem setFlc_upd (x : FlcState) (s : State) : (setFlc x s).upd = s.upd := rfl
@[simp] theorem setFlc_pmb (x : FlcState) (s : State) : (setFlc x s).pmb = s.pmb := rfl

/-! ### setUpd -/

@[simp] theorem setUpd_pending (x : UpdState) (s : State) : (setUpd x s).pending = s.pending := rfl
@[simp] theorem setUpd_free (x : UpdState) (s : State) : (setUpd x s).free = s.free := rfl
@[simp] theorem setUpd_time (x : UpdState) (s : State) : (setUpd x s).time = s.time := rfl
@[simp] theorem setUpd_regs (x : UpdState) (s : State) : (setUpd x s).regs = s.regs := rfl
@[simp] theorem setUpd_wrote (x : UpdState) (s : State) : (setUpd x s).wrote = s.wrote := rfl
@[simp] theorem setUpd_landing (x : UpdState) (s : State) : (setUpd x s).landing = s.landing := rfl
@[simp] theorem setUpd_landAge (x : UpdState) (s : State) : (setUpd x s).landAge = s.landAge := rfl
@[simp] theorem setUpd_pend (x : UpdState) (s : State) : (setUpd x s).pend = s.pend := rfl
@[simp] theorem setUpd_frozen (x : UpdState) (s : State) : (setUpd x s).frozen = s.frozen := rfl
@[simp] theorem setUpd_held (x : UpdState) (s : State) : (setUpd x s).held = s.held := rfl
@[simp] theorem setUpd_acts (x : UpdState) (s : State) : (setUpd x s).acts = s.acts := rfl
@[simp] theorem setUpd_bus (x : UpdState) (s : State) : (setUpd x s).bus = s.bus := rfl
@[simp] theorem setUpd_inbox (x : UpdState) (s : State) : (setUpd x s).inbox = s.inbox := rfl
@[simp] theorem setUpd_msgSeq (x : UpdState) (s : State) : (setUpd x s).msgSeq = s.msgSeq := rfl
@[simp] theorem setUpd_lostMsg (x : UpdState) (s : State) : (setUpd x s).lostMsg = s.lostMsg := rfl
@[simp] theorem setUpd_lostRec (x : UpdState) (s : State) : (setUpd x s).lostRec = s.lostRec := rfl
@[simp] theorem setUpd_sns (x : UpdState) (s : State) : (setUpd x s).sns = s.sns := rfl
@[simp] theorem setUpd_est (x : UpdState) (s : State) : (setUpd x s).est = s.est := rfl
@[simp] theorem setUpd_psq (x : UpdState) (s : State) : (setUpd x s).psq = s.psq := rfl
@[simp] theorem setUpd_drg (x : UpdState) (s : State) : (setUpd x s).drg = s.drg := rfl
@[simp] theorem setUpd_phc (x : UpdState) (s : State) : (setUpd x s).phc = s.phc := rfl
@[simp] theorem setUpd_lgv (x : UpdState) (s : State) : (setUpd x s).lgv = s.lgv := rfl
@[simp] theorem setUpd_tmg (x : UpdState) (s : State) : (setUpd x s).tmg = s.tmg := rfl
@[simp] theorem setUpd_sta (x : UpdState) (s : State) : (setUpd x s).sta = s.sta := rfl
@[simp] theorem setUpd_pxe (x : UpdState) (s : State) : (setUpd x s).pxe = s.pxe := rfl
@[simp] theorem setUpd_bal (x : UpdState) (s : State) : (setUpd x s).bal = s.bal := rfl
@[simp] theorem setUpd_fw (x : UpdState) (s : State) : (setUpd x s).fw = s.fw := rfl
@[simp] theorem setUpd_cmd (x : UpdState) (s : State) : (setUpd x s).cmd = s.cmd := rfl
@[simp] theorem setUpd_evr (x : UpdState) (s : State) : (setUpd x s).evr = s.evr := rfl
@[simp] theorem setUpd_flc (x : UpdState) (s : State) : (setUpd x s).flc = s.flc := rfl
@[simp] theorem setUpd_sec (x : UpdState) (s : State) : (setUpd x s).sec = s.sec := rfl
@[simp] theorem setUpd_upd (x : UpdState) (s : State) : (setUpd x s).upd = x := rfl
@[simp] theorem setUpd_pmb (x : UpdState) (s : State) : (setUpd x s).pmb = s.pmb := rfl

/-! ### setPmb -/

@[simp] theorem setPmb_pending (x : PmbState) (s : State) : (setPmb x s).pending = s.pending := rfl
@[simp] theorem setPmb_free (x : PmbState) (s : State) : (setPmb x s).free = s.free := rfl
@[simp] theorem setPmb_time (x : PmbState) (s : State) : (setPmb x s).time = s.time := rfl
@[simp] theorem setPmb_regs (x : PmbState) (s : State) : (setPmb x s).regs = s.regs := rfl
@[simp] theorem setPmb_wrote (x : PmbState) (s : State) : (setPmb x s).wrote = s.wrote := rfl
@[simp] theorem setPmb_landing (x : PmbState) (s : State) : (setPmb x s).landing = s.landing := rfl
@[simp] theorem setPmb_landAge (x : PmbState) (s : State) : (setPmb x s).landAge = s.landAge := rfl
@[simp] theorem setPmb_pend (x : PmbState) (s : State) : (setPmb x s).pend = s.pend := rfl
@[simp] theorem setPmb_frozen (x : PmbState) (s : State) : (setPmb x s).frozen = s.frozen := rfl
@[simp] theorem setPmb_held (x : PmbState) (s : State) : (setPmb x s).held = s.held := rfl
@[simp] theorem setPmb_acts (x : PmbState) (s : State) : (setPmb x s).acts = s.acts := rfl
@[simp] theorem setPmb_bus (x : PmbState) (s : State) : (setPmb x s).bus = s.bus := rfl
@[simp] theorem setPmb_inbox (x : PmbState) (s : State) : (setPmb x s).inbox = s.inbox := rfl
@[simp] theorem setPmb_msgSeq (x : PmbState) (s : State) : (setPmb x s).msgSeq = s.msgSeq := rfl
@[simp] theorem setPmb_lostMsg (x : PmbState) (s : State) : (setPmb x s).lostMsg = s.lostMsg := rfl
@[simp] theorem setPmb_lostRec (x : PmbState) (s : State) : (setPmb x s).lostRec = s.lostRec := rfl
@[simp] theorem setPmb_sns (x : PmbState) (s : State) : (setPmb x s).sns = s.sns := rfl
@[simp] theorem setPmb_est (x : PmbState) (s : State) : (setPmb x s).est = s.est := rfl
@[simp] theorem setPmb_psq (x : PmbState) (s : State) : (setPmb x s).psq = s.psq := rfl
@[simp] theorem setPmb_drg (x : PmbState) (s : State) : (setPmb x s).drg = s.drg := rfl
@[simp] theorem setPmb_phc (x : PmbState) (s : State) : (setPmb x s).phc = s.phc := rfl
@[simp] theorem setPmb_lgv (x : PmbState) (s : State) : (setPmb x s).lgv = s.lgv := rfl
@[simp] theorem setPmb_tmg (x : PmbState) (s : State) : (setPmb x s).tmg = s.tmg := rfl
@[simp] theorem setPmb_sta (x : PmbState) (s : State) : (setPmb x s).sta = s.sta := rfl
@[simp] theorem setPmb_pxe (x : PmbState) (s : State) : (setPmb x s).pxe = s.pxe := rfl
@[simp] theorem setPmb_bal (x : PmbState) (s : State) : (setPmb x s).bal = s.bal := rfl
@[simp] theorem setPmb_fw (x : PmbState) (s : State) : (setPmb x s).fw = s.fw := rfl
@[simp] theorem setPmb_cmd (x : PmbState) (s : State) : (setPmb x s).cmd = s.cmd := rfl
@[simp] theorem setPmb_evr (x : PmbState) (s : State) : (setPmb x s).evr = s.evr := rfl
@[simp] theorem setPmb_flc (x : PmbState) (s : State) : (setPmb x s).flc = s.flc := rfl
@[simp] theorem setPmb_sec (x : PmbState) (s : State) : (setPmb x s).sec = s.sec := rfl
@[simp] theorem setPmb_upd (x : PmbState) (s : State) : (setPmb x s).upd = s.upd := rfl
@[simp] theorem setPmb_pmb (x : PmbState) (s : State) : (setPmb x s).pmb = x := rfl

/-! ### Register fields -/

/-- A field depends on the register table alone. -/
theorem getF_congr {s t : State} (h : s.regs = t.regs) (f : Fld) : getF s f = getF t f := by unfold getF; rw [h]

/-- A field reads as it was set, in its width. -/
@[simp] theorem getF_setF_self (s : State) (f : Fld) (v : Nat) : getF (setF s f v) f = v % 2 ^ f.w := by
  have h := aGet_aPut_self (resetAt f.key) s.regs f.key (v % 2 ^ f.w)
  unfold aGet at h
  unfold getF setF
  dsimp only
  cases hf : aFind (aPut (resetAt f.key) s.regs f.key (v % 2 ^ f.w)) f.key with
  | none => rw [hf] at h; simpa using h
  | some x => rw [hf] at h; simpa using h

/-- Another field reads as before. -/
theorem getF_setF_ne (s : State) {f g : Fld} (v : Nat) (h : g.key ≠ f.key) : getF (setF s f v) g = getF s g := by
  unfold getF setF
  dsimp only
  rw [aFind_aPut_ne _ _ _ h]

@[simp] theorem getB_setB_self (s : State) (f : Fld) (b : Bool) (hw : f.w = 1) : getB (setB s f b) f = b := by
  cases b <;> simp [getB, setB, b2n, hw]

theorem getF_setB_ne (s : State) {f g : Fld} (b : Bool) (h : g.key ≠ f.key) : getF (setB s f b) g = getF s g := getF_setF_ne s _ h
theorem getB_setF_ne (s : State) {f g : Fld} (v : Nat) (h : g.key ≠ f.key) : getB (setF s f v) g = getB s g := by
  unfold getB; rw [getF_setF_ne s v h]
theorem getB_setB_ne (s : State) {f g : Fld} (b : Bool) (h : g.key ≠ f.key) : getB (setB s f b) g = getB s g := getB_setF_ne s _ h
theorem getF_setS_ne (s : State) {f g : Fld} (i : Int) (h : g.key ≠ f.key) : getF (setS s f i) g = getF s g := getF_setF_ne s _ h
theorem getF_setSat_ne (s : State) {f g : Fld} (v : Nat) (h : g.key ≠ f.key) : getF (setSat s f v) g = getF s g := getF_setF_ne s _ h
theorem getF_setSatS_ne (s : State) {f g : Fld} (i : Int) (h : g.key ≠ f.key) : getF (setSatS s f i) g = getF s g := getF_setF_ne s _ h
theorem getF_incF_ne (s : State) {f g : Fld} (h : g.key ≠ f.key) : getF (incF s f) g = getF s g := getF_setF_ne s _ h

@[simp] theorem getF_setSat_self (s : State) (f : Fld) (v : Nat) : getF (setSat s f v) f = min v (2 ^ f.w - 1) := by
  unfold setSat
  rw [getF_setF_self]
  have : 0 < 2 ^ f.w := Nat.pos_of_ne_zero (by simp)
  exact Nat.mod_eq_of_lt (by omega)

/-- A count goes up by one, and no further than its largest value. -/
@[simp] theorem getF_incF_self (s : State) (f : Fld) : getF (incF s f) f = min (getF s f + 1) (2 ^ f.w - 1) := getF_setSat_self s f _

@[simp] theorem getF_setBus (x : BusState) (s : State) (f : Fld) : getF (setBus x s) f = getF s f := rfl
@[simp] theorem getF_setSns (x : SnsState) (s : State) (f : Fld) : getF (setSns x s) f = getF s f := rfl
@[simp] theorem getF_setEst (x : EstState) (s : State) (f : Fld) : getF (setEst x s) f = getF s f := rfl
@[simp] theorem getF_setLgv (x : LgvState) (s : State) (f : Fld) : getF (setLgv x s) f = getF s f := rfl
@[simp] theorem getF_setTmg (x : TmgState) (s : State) (f : Fld) : getF (setTmg x s) f = getF s f := rfl
@[simp] theorem getF_setSta (x : StaState) (s : State) (f : Fld) : getF (setSta x s) f = getF s f := rfl
@[simp] theorem getF_setPxe (x : PxeState) (s : State) (f : Fld) : getF (setPxe x s) f = getF s f := rfl
@[simp] theorem getF_setBal (x : BalState) (s : State) (f : Fld) : getF (setBal x s) f = getF s f := rfl
@[simp] theorem getF_setFw (x : FwState) (s : State) (f : Fld) : getF (setFw x s) f = getF s f := rfl
@[simp] theorem getF_setCmd (x : CmdState) (s : State) (f : Fld) : getF (setCmd x s) f = getF s f := rfl
@[simp] theorem getF_setEvr (x : EvrState) (s : State) (f : Fld) : getF (setEvr x s) f = getF s f := rfl
@[simp] theorem getF_setFlc (x : FlcState) (s : State) (f : Fld) : getF (setFlc x s) f = getF s f := rfl
@[simp] theorem getF_setUpd (x : UpdState) (s : State) (f : Fld) : getF (setUpd x s) f = getF s f := rfl
@[simp] theorem getF_setPmb (x : PmbState) (s : State) (f : Fld) : getF (setPmb x s) f = getF s f := rfl
@[simp] theorem getF_setRail (s : State) (k : Nat) (x : Rail) (f : Fld) : getF (setRail s k x) f = getF s f := rfl
@[simp] theorem getF_setPhase (s : State) (n : Nat) (x : PhaseSt) (f : Fld) : getF (setPhase s n x) f = getF s f := rfl
@[simp] theorem getF_setRegion (s : State) (r : Nat) (x : Region) (f : Fld) : getF (setRegion s r x) f = getF s f := rfl
@[simp] theorem getF_addAct (k : ActKind) (o : Option Nat) (p : Nat) (s : State) (f : Fld) : getF (addAct k o p s) f = getF s f := rfl
@[simp] theorem getF_freeNext (s : State) (f : Fld) : getF (freeNext s) f = getF s f := rfl
@[simp] theorem getF_landPut (g : Fld) (v : Nat) (s : State) (f : Fld) : getF (landPut g v s) f = getF s f := rfl

/-! ### Messages, records, and what follows every event -/

/-- A fault message changes no register but QUEUE_OVF. -/
theorem getF_sendFaultP (p k src i : Nat) (s : State) {f : Fld} (h : f.key ≠ FLC.STATUS.QUEUE_OVF.key) :
    getF (sendFaultP p k src i s) f = getF s f := by
  unfold sendFaultP
  dsimp only
  split
  · exact getF_setB_ne _ _ h
  · rfl
theorem getF_sendFault (k src i : Nat) (s : State) {f : Fld} (h : f.key ≠ FLC.STATUS.QUEUE_OVF.key) :
    getF (sendFault k src i s) f = getF s f := getF_sendFaultP _ k src i s h

/-- A record changes no register but DROPPED. -/
theorem getF_postRec (p g c t : Nat) (b : List Nat) (s : State) {f : Fld} (h : f.key ≠ EVR.COUNTS.DROPPED.key) :
    getF (postRec p g c t b s) f = getF s f := by
  unfold postRec
  split
  · exact getF_incF_ne _ h
  · rfl
theorem getF_event (c : Nat) (b : List Nat) (s : State) {f : Fld} (h : f.key ≠ EVR.COUNTS.DROPPED.key) :
    getF (event c b s) f = getF s f := getF_postRec _ _ _ _ _ _ h

@[simp] theorem sendFaultP_pending (p k src i : Nat) (s : State) : (sendFaultP p k src i s).pending = s.pending := by unfold sendFaultP; dsimp only; split <;> rfl
@[simp] theorem sendFaultP_free (p k src i : Nat) (s : State) : (sendFaultP p k src i s).free = s.free := by unfold sendFaultP; dsimp only; split <;> rfl
@[simp] theorem sendFaultP_time (p k src i : Nat) (s : State) : (sendFaultP p k src i s).time = s.time := by unfold sendFaultP; dsimp only; split <;> rfl
@[simp] theorem sendFaultP_landing (p k src i : Nat) (s : State) : (sendFaultP p k src i s).landing = s.landing := by unfold sendFaultP; dsimp only; split <;> rfl
@[simp] theorem sendFaultP_landAge (p k src i : Nat) (s : State) : (sendFaultP p k src i s).landAge = s.landAge := by unfold sendFaultP; dsimp only; split <;> rfl
@[simp] theorem sendFaultP_pend (p k src i : Nat) (s : State) : (sendFaultP p k src i s).pend = s.pend := by unfold sendFaultP; dsimp only; split <;> rfl
@[simp] theorem sendFaultP_frozen (p k src i : Nat) (s : State) : (sendFaultP p k src i s).frozen = s.frozen := by unfold sendFaultP; dsimp only; split <;> rfl
@[simp] theorem sendFaultP_held (p k src i : Nat) (s : State) : (sendFaultP p k src i s).held = s.held := by unfold sendFaultP; dsimp only; split <;> rfl
@[simp] theorem sendFaultP_acts (p k src i : Nat) (s : State) : (sendFaultP p k src i s).acts = s.acts := by unfold sendFaultP; dsimp only; split <;> rfl
@[simp] theorem sendFaultP_bus (p k src i : Nat) (s : State) : (sendFaultP p k src i s).bus = s.bus := by unfold sendFaultP; dsimp only; split <;> rfl
@[simp] theorem sendFaultP_lostRec (p k src i : Nat) (s : State) : (sendFaultP p k src i s).lostRec = s.lostRec := by unfold sendFaultP; dsimp only; split <;> rfl
@[simp] theorem sendFaultP_sns (p k src i : Nat) (s : State) : (sendFaultP p k src i s).sns = s.sns := by unfold sendFaultP; dsimp only; split <;> rfl
@[simp] theorem sendFaultP_est (p k src i : Nat) (s : State) : (sendFaultP p k src i s).est = s.est := by unfold sendFaultP; dsimp only; split <;> rfl
@[simp] theorem sendFaultP_psq (p k src i : Nat) (s : State) : (sendFaultP p k src i s).psq = s.psq := by unfold sendFaultP; dsimp only; split <;> rfl
@[simp] theorem sendFaultP_drg (p k src i : Nat) (s : State) : (sendFaultP p k src i s).drg = s.drg := by unfold sendFaultP; dsimp only; split <;> rfl
@[simp] theorem sendFaultP_phc (p k src i : Nat) (s : State) : (sendFaultP p k src i s).phc = s.phc := by unfold sendFaultP; dsimp only; split <;> rfl
@[simp] theorem sendFaultP_lgv (p k src i : Nat) (s : State) : (sendFaultP p k src i s).lgv = s.lgv := by unfold sendFaultP; dsimp only; split <;> rfl
@[simp] theorem sendFaultP_tmg (p k src i : Nat) (s : State) : (sendFaultP p k src i s).tmg = s.tmg := by unfold sendFaultP; dsimp only; split <;> rfl
@[simp] theorem sendFaultP_sta (p k src i : Nat) (s : State) : (sendFaultP p k src i s).sta = s.sta := by unfold sendFaultP; dsimp only; split <;> rfl
@[simp] theorem sendFaultP_pxe (p k src i : Nat) (s : State) : (sendFaultP p k src i s).pxe = s.pxe := by unfold sendFaultP; dsimp only; split <;> rfl
@[simp] theorem sendFaultP_bal (p k src i : Nat) (s : State) : (sendFaultP p k src i s).bal = s.bal := by unfold sendFaultP; dsimp only; split <;> rfl
@[simp] theorem sendFaultP_fw (p k src i : Nat) (s : State) : (sendFaultP p k src i s).fw = s.fw := by unfold sendFaultP; dsimp only; split <;> rfl
@[simp] theorem sendFaultP_cmd (p k src i : Nat) (s : State) : (sendFaultP p k src i s).cmd = s.cmd := by unfold sendFaultP; dsimp only; split <;> rfl
@[simp] theorem sendFaultP_evr (p k src i : Nat) (s : State) : (sendFaultP p k src i s).evr = s.evr := by unfold sendFaultP; dsimp only; split <;> rfl
@[simp] theorem sendFaultP_flc (p k src i : Nat) (s : State) : (sendFaultP p k src i s).flc = s.flc := by unfold sendFaultP; dsimp only; split <;> rfl
@[simp] theorem sendFaultP_sec (p k src i : Nat) (s : State) : (sendFaultP p k src i s).sec = s.sec := by unfold sendFaultP; dsimp only; split <;> rfl
@[simp] theorem sendFaultP_upd (p k src i : Nat) (s : State) : (sendFaultP p k src i s).upd = s.upd := by unfold sendFaultP; dsimp only; split <;> rfl
@[simp] theorem sendFaultP_pmb (p k src i : Nat) (s : State) : (sendFaultP p k src i s).pmb = s.pmb := by unfold sendFaultP; dsimp only; split <;> rfl
@[simp] theorem sendFault_pending (k src i : Nat) (s : State) : (sendFault k src i s).pending = s.pending := sendFaultP_pending _ k src i s
@[simp] theorem sendFault_free (k src i : Nat) (s : State) : (sendFault k src i s).free = s.free := sendFaultP_free _ k src i s
@[simp] theorem sendFault_time (k src i : Nat) (s : State) : (sendFault k src i s).time = s.time := sendFaultP_time _ k src i s
@[simp] theorem sendFault_landing (k src i : Nat) (s : State) : (sendFault k src i s).landing = s.landing := sendFaultP_landing _ k src i s
@[simp] theorem sendFault_landAge (k src i : Nat) (s : State) : (sendFault k src i s).landAge = s.landAge := sendFaultP_landAge _ k src i s
@[simp] theorem sendFault_pend (k src i : Nat) (s : State) : (sendFault k src i s).pend = s.pend := sendFaultP_pend _ k src i s
@[simp] theorem sendFault_frozen (k src i : Nat) (s : State) : (sendFault k src i s).frozen = s.frozen := sendFaultP_frozen _ k src i s
@[simp] theorem sendFault_held (k src i : Nat) (s : State) : (sendFault k src i s).held = s.held := sendFaultP_held _ k src i s
@[simp] theorem sendFault_acts (k src i : Nat) (s : State) : (sendFault k src i s).acts = s.acts := sendFaultP_acts _ k src i s
@[simp] theorem sendFault_bus (k src i : Nat) (s : State) : (sendFault k src i s).bus = s.bus := sendFaultP_bus _ k src i s
@[simp] theorem sendFault_lostRec (k src i : Nat) (s : State) : (sendFault k src i s).lostRec = s.lostRec := sendFaultP_lostRec _ k src i s
@[simp] theorem sendFault_sns (k src i : Nat) (s : State) : (sendFault k src i s).sns = s.sns := sendFaultP_sns _ k src i s
@[simp] theorem sendFault_est (k src i : Nat) (s : State) : (sendFault k src i s).est = s.est := sendFaultP_est _ k src i s
@[simp] theorem sendFault_psq (k src i : Nat) (s : State) : (sendFault k src i s).psq = s.psq := sendFaultP_psq _ k src i s
@[simp] theorem sendFault_drg (k src i : Nat) (s : State) : (sendFault k src i s).drg = s.drg := sendFaultP_drg _ k src i s
@[simp] theorem sendFault_phc (k src i : Nat) (s : State) : (sendFault k src i s).phc = s.phc := sendFaultP_phc _ k src i s
@[simp] theorem sendFault_lgv (k src i : Nat) (s : State) : (sendFault k src i s).lgv = s.lgv := sendFaultP_lgv _ k src i s
@[simp] theorem sendFault_tmg (k src i : Nat) (s : State) : (sendFault k src i s).tmg = s.tmg := sendFaultP_tmg _ k src i s
@[simp] theorem sendFault_sta (k src i : Nat) (s : State) : (sendFault k src i s).sta = s.sta := sendFaultP_sta _ k src i s
@[simp] theorem sendFault_pxe (k src i : Nat) (s : State) : (sendFault k src i s).pxe = s.pxe := sendFaultP_pxe _ k src i s
@[simp] theorem sendFault_bal (k src i : Nat) (s : State) : (sendFault k src i s).bal = s.bal := sendFaultP_bal _ k src i s
@[simp] theorem sendFault_fw (k src i : Nat) (s : State) : (sendFault k src i s).fw = s.fw := sendFaultP_fw _ k src i s
@[simp] theorem sendFault_cmd (k src i : Nat) (s : State) : (sendFault k src i s).cmd = s.cmd := sendFaultP_cmd _ k src i s
@[simp] theorem sendFault_evr (k src i : Nat) (s : State) : (sendFault k src i s).evr = s.evr := sendFaultP_evr _ k src i s
@[simp] theorem sendFault_flc (k src i : Nat) (s : State) : (sendFault k src i s).flc = s.flc := sendFaultP_flc _ k src i s
@[simp] theorem sendFault_sec (k src i : Nat) (s : State) : (sendFault k src i s).sec = s.sec := sendFaultP_sec _ k src i s
@[simp] theorem sendFault_upd (k src i : Nat) (s : State) : (sendFault k src i s).upd = s.upd := sendFaultP_upd _ k src i s
@[simp] theorem sendFault_pmb (k src i : Nat) (s : State) : (sendFault k src i s).pmb = s.pmb := sendFaultP_pmb _ k src i s
@[simp] theorem postRec_pending (p g c t : Nat) (b : List Nat) (s : State) : (postRec p g c t b s).pending = s.pending := by unfold postRec; split <;> rfl
@[simp] theorem postRec_free (p g c t : Nat) (b : List Nat) (s : State) : (postRec p g c t b s).free = s.free := by unfold postRec; split <;> rfl
@[simp] theorem postRec_time (p g c t : Nat) (b : List Nat) (s : State) : (postRec p g c t b s).time = s.time := by unfold postRec; split <;> rfl
@[simp] theorem postRec_landing (p g c t : Nat) (b : List Nat) (s : State) : (postRec p g c t b s).landing = s.landing := by unfold postRec; split <;> rfl
@[simp] theorem postRec_landAge (p g c t : Nat) (b : List Nat) (s : State) : (postRec p g c t b s).landAge = s.landAge := by unfold postRec; split <;> rfl
@[simp] theorem postRec_pend (p g c t : Nat) (b : List Nat) (s : State) : (postRec p g c t b s).pend = s.pend := by unfold postRec; split <;> rfl
@[simp] theorem postRec_frozen (p g c t : Nat) (b : List Nat) (s : State) : (postRec p g c t b s).frozen = s.frozen := by unfold postRec; split <;> rfl
@[simp] theorem postRec_held (p g c t : Nat) (b : List Nat) (s : State) : (postRec p g c t b s).held = s.held := by unfold postRec; split <;> rfl
@[simp] theorem postRec_acts (p g c t : Nat) (b : List Nat) (s : State) : (postRec p g c t b s).acts = s.acts := by unfold postRec; split <;> rfl
@[simp] theorem postRec_bus (p g c t : Nat) (b : List Nat) (s : State) : (postRec p g c t b s).bus = s.bus := by unfold postRec; split <;> rfl
@[simp] theorem postRec_msgSeq (p g c t : Nat) (b : List Nat) (s : State) : (postRec p g c t b s).msgSeq = s.msgSeq := by unfold postRec; split <;> rfl
@[simp] theorem postRec_lostMsg (p g c t : Nat) (b : List Nat) (s : State) : (postRec p g c t b s).lostMsg = s.lostMsg := by unfold postRec; split <;> rfl
@[simp] theorem postRec_sns (p g c t : Nat) (b : List Nat) (s : State) : (postRec p g c t b s).sns = s.sns := by unfold postRec; split <;> rfl
@[simp] theorem postRec_est (p g c t : Nat) (b : List Nat) (s : State) : (postRec p g c t b s).est = s.est := by unfold postRec; split <;> rfl
@[simp] theorem postRec_psq (p g c t : Nat) (b : List Nat) (s : State) : (postRec p g c t b s).psq = s.psq := by unfold postRec; split <;> rfl
@[simp] theorem postRec_drg (p g c t : Nat) (b : List Nat) (s : State) : (postRec p g c t b s).drg = s.drg := by unfold postRec; split <;> rfl
@[simp] theorem postRec_phc (p g c t : Nat) (b : List Nat) (s : State) : (postRec p g c t b s).phc = s.phc := by unfold postRec; split <;> rfl
@[simp] theorem postRec_lgv (p g c t : Nat) (b : List Nat) (s : State) : (postRec p g c t b s).lgv = s.lgv := by unfold postRec; split <;> rfl
@[simp] theorem postRec_tmg (p g c t : Nat) (b : List Nat) (s : State) : (postRec p g c t b s).tmg = s.tmg := by unfold postRec; split <;> rfl
@[simp] theorem postRec_sta (p g c t : Nat) (b : List Nat) (s : State) : (postRec p g c t b s).sta = s.sta := by unfold postRec; split <;> rfl
@[simp] theorem postRec_pxe (p g c t : Nat) (b : List Nat) (s : State) : (postRec p g c t b s).pxe = s.pxe := by unfold postRec; split <;> rfl
@[simp] theorem postRec_bal (p g c t : Nat) (b : List Nat) (s : State) : (postRec p g c t b s).bal = s.bal := by unfold postRec; split <;> rfl
@[simp] theorem postRec_fw (p g c t : Nat) (b : List Nat) (s : State) : (postRec p g c t b s).fw = s.fw := by unfold postRec; split <;> rfl
@[simp] theorem postRec_cmd (p g c t : Nat) (b : List Nat) (s : State) : (postRec p g c t b s).cmd = s.cmd := by unfold postRec; split <;> rfl
@[simp] theorem postRec_evr (p g c t : Nat) (b : List Nat) (s : State) : (postRec p g c t b s).evr = s.evr := by unfold postRec; split <;> rfl
@[simp] theorem postRec_flc (p g c t : Nat) (b : List Nat) (s : State) : (postRec p g c t b s).flc = s.flc := by unfold postRec; split <;> rfl
@[simp] theorem postRec_sec (p g c t : Nat) (b : List Nat) (s : State) : (postRec p g c t b s).sec = s.sec := by unfold postRec; split <;> rfl
@[simp] theorem postRec_upd (p g c t : Nat) (b : List Nat) (s : State) : (postRec p g c t b s).upd = s.upd := by unfold postRec; split <;> rfl
@[simp] theorem postRec_pmb (p g c t : Nat) (b : List Nat) (s : State) : (postRec p g c t b s).pmb = s.pmb := by unfold postRec; split <;> rfl
@[simp] theorem event_pending (c : Nat) (b : List Nat) (s : State) : (event c b s).pending = s.pending := postRec_pending _ _ _ _ _ s
@[simp] theorem event_free (c : Nat) (b : List Nat) (s : State) : (event c b s).free = s.free := postRec_free _ _ _ _ _ s
@[simp] theorem event_time (c : Nat) (b : List Nat) (s : State) : (event c b s).time = s.time := postRec_time _ _ _ _ _ s
@[simp] theorem event_landing (c : Nat) (b : List Nat) (s : State) : (event c b s).landing = s.landing := postRec_landing _ _ _ _ _ s
@[simp] theorem event_landAge (c : Nat) (b : List Nat) (s : State) : (event c b s).landAge = s.landAge := postRec_landAge _ _ _ _ _ s
@[simp] theorem event_pend (c : Nat) (b : List Nat) (s : State) : (event c b s).pend = s.pend := postRec_pend _ _ _ _ _ s
@[simp] theorem event_frozen (c : Nat) (b : List Nat) (s : State) : (event c b s).frozen = s.frozen := postRec_frozen _ _ _ _ _ s
@[simp] theorem event_held (c : Nat) (b : List Nat) (s : State) : (event c b s).held = s.held := postRec_held _ _ _ _ _ s
@[simp] theorem event_acts (c : Nat) (b : List Nat) (s : State) : (event c b s).acts = s.acts := postRec_acts _ _ _ _ _ s
@[simp] theorem event_bus (c : Nat) (b : List Nat) (s : State) : (event c b s).bus = s.bus := postRec_bus _ _ _ _ _ s
@[simp] theorem event_msgSeq (c : Nat) (b : List Nat) (s : State) : (event c b s).msgSeq = s.msgSeq := postRec_msgSeq _ _ _ _ _ s
@[simp] theorem event_lostMsg (c : Nat) (b : List Nat) (s : State) : (event c b s).lostMsg = s.lostMsg := postRec_lostMsg _ _ _ _ _ s
@[simp] theorem event_sns (c : Nat) (b : List Nat) (s : State) : (event c b s).sns = s.sns := postRec_sns _ _ _ _ _ s
@[simp] theorem event_est (c : Nat) (b : List Nat) (s : State) : (event c b s).est = s.est := postRec_est _ _ _ _ _ s
@[simp] theorem event_psq (c : Nat) (b : List Nat) (s : State) : (event c b s).psq = s.psq := postRec_psq _ _ _ _ _ s
@[simp] theorem event_drg (c : Nat) (b : List Nat) (s : State) : (event c b s).drg = s.drg := postRec_drg _ _ _ _ _ s
@[simp] theorem event_phc (c : Nat) (b : List Nat) (s : State) : (event c b s).phc = s.phc := postRec_phc _ _ _ _ _ s
@[simp] theorem event_lgv (c : Nat) (b : List Nat) (s : State) : (event c b s).lgv = s.lgv := postRec_lgv _ _ _ _ _ s
@[simp] theorem event_tmg (c : Nat) (b : List Nat) (s : State) : (event c b s).tmg = s.tmg := postRec_tmg _ _ _ _ _ s
@[simp] theorem event_sta (c : Nat) (b : List Nat) (s : State) : (event c b s).sta = s.sta := postRec_sta _ _ _ _ _ s
@[simp] theorem event_pxe (c : Nat) (b : List Nat) (s : State) : (event c b s).pxe = s.pxe := postRec_pxe _ _ _ _ _ s
@[simp] theorem event_bal (c : Nat) (b : List Nat) (s : State) : (event c b s).bal = s.bal := postRec_bal _ _ _ _ _ s
@[simp] theorem event_fw (c : Nat) (b : List Nat) (s : State) : (event c b s).fw = s.fw := postRec_fw _ _ _ _ _ s
@[simp] theorem event_cmd (c : Nat) (b : List Nat) (s : State) : (event c b s).cmd = s.cmd := postRec_cmd _ _ _ _ _ s
@[simp] theorem event_evr (c : Nat) (b : List Nat) (s : State) : (event c b s).evr = s.evr := postRec_evr _ _ _ _ _ s
@[simp] theorem event_flc (c : Nat) (b : List Nat) (s : State) : (event c b s).flc = s.flc := postRec_flc _ _ _ _ _ s
@[simp] theorem event_sec (c : Nat) (b : List Nat) (s : State) : (event c b s).sec = s.sec := postRec_sec _ _ _ _ _ s
@[simp] theorem event_upd (c : Nat) (b : List Nat) (s : State) : (event c b s).upd = s.upd := postRec_upd _ _ _ _ _ s
@[simp] theorem event_pmb (c : Nat) (b : List Nat) (s : State) : (event c b s).pmb = s.pmb := postRec_pmb _ _ _ _ _ s

/-- No rest state has ended at once since time last passed, so that nothing follows but the watches. -/
def noEnd (s : State) : Prop := s.sta.endDeep = false ∧ s.sta.endLate = false

/-- Time passes first, and leaves no end of a rest state to follow. -/
@[simp] theorem noEnd_advance (dt : Nat) (s : State) : noEnd (advance dt s) := ⟨rfl, rfl⟩
@[simp] theorem endDeep_advance (dt : Nat) (s : State) : (advance dt s).sta.endDeep = false := rfl
@[simp] theorem endLate_advance (dt : Nat) (s : State) : (advance dt s).sta.endLate = false := rfl
theorem noEnd_congr {s t : State} (h : noEnd s) (he : t.sta = s.sta) : noEnd t := by unfold noEnd; rw [he]; exact h

/-- What follows every event: ALERT_N's bits, and the test override. -/
def watches (s : State) : State := pmbWatch (overrideFall s)
theorem settle_of_noEnd {s : State} (h : noEnd s) : settle s = watches s := by
  unfold settle watches; rw [h.1, h.2]; rfl

/-- What follows every event touches no register but the test override (R463). -/
theorem getF_watches (s : State) {f : Fld} (h : f.key ≠ TST.CTRL.OVERRIDE.key) : getF (watches s) f = getF s f := by
  have h1 : getF (overrideFall s) f = getF s f := by
    unfold overrideFall
    dsimp only
    rw [getF_setPmb]
    split
    · exact getF_setB_ne _ _ h
    · rfl
  rw [← h1]
  unfold watches pmbWatch
  dsimp only
  split <;> rfl
theorem getF_settle (s : State) {f : Fld} (hn : noEnd s) (h : f.key ≠ TST.CTRL.OVERRIDE.key) : getF (settle s) f = getF s f := by
  rw [settle_of_noEnd hn]; exact getF_watches s h

@[simp] theorem watches_pending (s : State) : (watches s).pending = s.pending := by unfold watches pmbWatch overrideFall; dsimp only; split <;> split <;> rfl
@[simp] theorem watches_free (s : State) : (watches s).free = s.free := by unfold watches pmbWatch overrideFall; dsimp only; split <;> split <;> rfl
@[simp] theorem watches_time (s : State) : (watches s).time = s.time := by unfold watches pmbWatch overrideFall; dsimp only; split <;> split <;> rfl
@[simp] theorem watches_landing (s : State) : (watches s).landing = s.landing := by unfold watches pmbWatch overrideFall; dsimp only; split <;> split <;> rfl
@[simp] theorem watches_landAge (s : State) : (watches s).landAge = s.landAge := by unfold watches pmbWatch overrideFall; dsimp only; split <;> split <;> rfl
@[simp] theorem watches_pend (s : State) : (watches s).pend = s.pend := by unfold watches pmbWatch overrideFall; dsimp only; split <;> split <;> rfl
@[simp] theorem watches_frozen (s : State) : (watches s).frozen = s.frozen := by unfold watches pmbWatch overrideFall; dsimp only; split <;> split <;> rfl
@[simp] theorem watches_held (s : State) : (watches s).held = s.held := by unfold watches pmbWatch overrideFall; dsimp only; split <;> split <;> rfl
@[simp] theorem watches_acts (s : State) : (watches s).acts = s.acts := by unfold watches pmbWatch overrideFall; dsimp only; split <;> split <;> rfl
@[simp] theorem watches_bus (s : State) : (watches s).bus = s.bus := by unfold watches pmbWatch overrideFall; dsimp only; split <;> split <;> rfl
@[simp] theorem watches_inbox (s : State) : (watches s).inbox = s.inbox := by unfold watches pmbWatch overrideFall; dsimp only; split <;> split <;> rfl
@[simp] theorem watches_msgSeq (s : State) : (watches s).msgSeq = s.msgSeq := by unfold watches pmbWatch overrideFall; dsimp only; split <;> split <;> rfl
@[simp] theorem watches_lostMsg (s : State) : (watches s).lostMsg = s.lostMsg := by unfold watches pmbWatch overrideFall; dsimp only; split <;> split <;> rfl
@[simp] theorem watches_lostRec (s : State) : (watches s).lostRec = s.lostRec := by unfold watches pmbWatch overrideFall; dsimp only; split <;> split <;> rfl
@[simp] theorem watches_sns (s : State) : (watches s).sns = s.sns := by unfold watches pmbWatch overrideFall; dsimp only; split <;> split <;> rfl
@[simp] theorem watches_est (s : State) : (watches s).est = s.est := by unfold watches pmbWatch overrideFall; dsimp only; split <;> split <;> rfl
@[simp] theorem watches_psq (s : State) : (watches s).psq = s.psq := by unfold watches pmbWatch overrideFall; dsimp only; split <;> split <;> rfl
@[simp] theorem watches_drg (s : State) : (watches s).drg = s.drg := by unfold watches pmbWatch overrideFall; dsimp only; split <;> split <;> rfl
@[simp] theorem watches_phc (s : State) : (watches s).phc = s.phc := by unfold watches pmbWatch overrideFall; dsimp only; split <;> split <;> rfl
@[simp] theorem watches_lgv (s : State) : (watches s).lgv = s.lgv := by unfold watches pmbWatch overrideFall; dsimp only; split <;> split <;> rfl
@[simp] theorem watches_tmg (s : State) : (watches s).tmg = s.tmg := by unfold watches pmbWatch overrideFall; dsimp only; split <;> split <;> rfl
@[simp] theorem watches_sta (s : State) : (watches s).sta = s.sta := by unfold watches pmbWatch overrideFall; dsimp only; split <;> split <;> rfl
@[simp] theorem watches_pxe (s : State) : (watches s).pxe = s.pxe := by unfold watches pmbWatch overrideFall; dsimp only; split <;> split <;> rfl
@[simp] theorem watches_bal (s : State) : (watches s).bal = s.bal := by unfold watches pmbWatch overrideFall; dsimp only; split <;> split <;> rfl
@[simp] theorem watches_fw (s : State) : (watches s).fw = s.fw := by unfold watches pmbWatch overrideFall; dsimp only; split <;> split <;> rfl
@[simp] theorem watches_cmd (s : State) : (watches s).cmd = s.cmd := by unfold watches pmbWatch overrideFall; dsimp only; split <;> split <;> rfl
@[simp] theorem watches_evr (s : State) : (watches s).evr = s.evr := by unfold watches pmbWatch overrideFall; dsimp only; split <;> split <;> rfl
@[simp] theorem watches_flc (s : State) : (watches s).flc = s.flc := by unfold watches pmbWatch overrideFall; dsimp only; split <;> split <;> rfl
@[simp] theorem watches_sec (s : State) : (watches s).sec = s.sec := by unfold watches pmbWatch overrideFall; dsimp only; split <;> split <;> rfl
@[simp] theorem watches_upd (s : State) : (watches s).upd = s.upd := by unfold watches pmbWatch overrideFall; dsimp only; split <;> split <;> rfl

theorem settle_pending {s : State} (h : noEnd s) : (settle s).pending = s.pending := by rw [settle_of_noEnd h]; simp
theorem settle_free {s : State} (h : noEnd s) : (settle s).free = s.free := by rw [settle_of_noEnd h]; simp
theorem settle_time {s : State} (h : noEnd s) : (settle s).time = s.time := by rw [settle_of_noEnd h]; simp
theorem settle_landing {s : State} (h : noEnd s) : (settle s).landing = s.landing := by rw [settle_of_noEnd h]; simp
theorem settle_landAge {s : State} (h : noEnd s) : (settle s).landAge = s.landAge := by rw [settle_of_noEnd h]; simp
theorem settle_pend {s : State} (h : noEnd s) : (settle s).pend = s.pend := by rw [settle_of_noEnd h]; simp
theorem settle_frozen {s : State} (h : noEnd s) : (settle s).frozen = s.frozen := by rw [settle_of_noEnd h]; simp
theorem settle_held {s : State} (h : noEnd s) : (settle s).held = s.held := by rw [settle_of_noEnd h]; simp
theorem settle_acts {s : State} (h : noEnd s) : (settle s).acts = s.acts := by rw [settle_of_noEnd h]; simp
theorem settle_bus {s : State} (h : noEnd s) : (settle s).bus = s.bus := by rw [settle_of_noEnd h]; simp
theorem settle_inbox {s : State} (h : noEnd s) : (settle s).inbox = s.inbox := by rw [settle_of_noEnd h]; simp
theorem settle_msgSeq {s : State} (h : noEnd s) : (settle s).msgSeq = s.msgSeq := by rw [settle_of_noEnd h]; simp
theorem settle_lostMsg {s : State} (h : noEnd s) : (settle s).lostMsg = s.lostMsg := by rw [settle_of_noEnd h]; simp
theorem settle_lostRec {s : State} (h : noEnd s) : (settle s).lostRec = s.lostRec := by rw [settle_of_noEnd h]; simp
theorem settle_sns {s : State} (h : noEnd s) : (settle s).sns = s.sns := by rw [settle_of_noEnd h]; simp
theorem settle_est {s : State} (h : noEnd s) : (settle s).est = s.est := by rw [settle_of_noEnd h]; simp
theorem settle_psq {s : State} (h : noEnd s) : (settle s).psq = s.psq := by rw [settle_of_noEnd h]; simp
theorem settle_drg {s : State} (h : noEnd s) : (settle s).drg = s.drg := by rw [settle_of_noEnd h]; simp
theorem settle_phc {s : State} (h : noEnd s) : (settle s).phc = s.phc := by rw [settle_of_noEnd h]; simp
theorem settle_lgv {s : State} (h : noEnd s) : (settle s).lgv = s.lgv := by rw [settle_of_noEnd h]; simp
theorem settle_tmg {s : State} (h : noEnd s) : (settle s).tmg = s.tmg := by rw [settle_of_noEnd h]; simp
theorem settle_sta {s : State} (h : noEnd s) : (settle s).sta = s.sta := by rw [settle_of_noEnd h]; simp
theorem settle_pxe {s : State} (h : noEnd s) : (settle s).pxe = s.pxe := by rw [settle_of_noEnd h]; simp
theorem settle_bal {s : State} (h : noEnd s) : (settle s).bal = s.bal := by rw [settle_of_noEnd h]; simp
theorem settle_fw {s : State} (h : noEnd s) : (settle s).fw = s.fw := by rw [settle_of_noEnd h]; simp
theorem settle_cmd {s : State} (h : noEnd s) : (settle s).cmd = s.cmd := by rw [settle_of_noEnd h]; simp
theorem settle_evr {s : State} (h : noEnd s) : (settle s).evr = s.evr := by rw [settle_of_noEnd h]; simp
theorem settle_flc {s : State} (h : noEnd s) : (settle s).flc = s.flc := by rw [settle_of_noEnd h]; simp
theorem settle_sec {s : State} (h : noEnd s) : (settle s).sec = s.sec := by rw [settle_of_noEnd h]; simp
theorem settle_upd {s : State} (h : noEnd s) : (settle s).upd = s.upd := by rw [settle_of_noEnd h]; simp

/-- A command that is well formed answers the state its effect leaves once its time has passed; any other is refused. -/
theorem act_wf {i : Instr} (h : i.wf = true) (dt : Nat) (f : State → State) (s : State) :
    act i dt f s = .next (settle (f (advance dt s))) := by simp [act, h]
theorem act_illFormed {i : Instr} (h : i.wf = false) (dt : Nat) (f : State → State) (s : State) :
    act i dt f s = .refused .illFormed := by simp [act, h]
/-- All that a command can do. -/
theorem act_next {i : Instr} {dt : Nat} {f : State → State} {s t : State} (h : act i dt f s = .next t) :
    i.wf = true ∧ t = settle (f (advance dt s)) := by
  unfold act at h
  split at h
  · cases h; exact ⟨‹_›, rfl⟩
  · cases h

end Sys2Proof.Machine
end

