-- ==== Sys2Proof/Laws/Effects.lean ====
section
/-! SUPPORT. How a statement about a command follows from what its effect does: the next state, messages and events that wait, and the
frames, from the elementary updates up. -/

namespace Sys2Proof.Machine

/-! ### Completion -/

/-- A command that is well formed answers what its effect leaves, once time has passed and what follows every event has happened. -/
theorem answers_act {i : Instr} {dt : Nat} {f : State → State} {s : State} {P : State → Prop} (he : exec i s = act i dt f s)
    (hw : i.wf = true) (hp : P (settle (f (advance dt s)))) : Answers i s P := ⟨_, he.trans (act_wf hw dt f s), hp⟩

/-! ### Messages and events -/

theorem mem_arrive (a : Arrival) (l : List Arrival) : a ∈ arrive a l := by
  induction l with
  | nil => simp [arrive]
  | cons b r ih => unfold arrive; split <;> simp [ih]

theorem mem_arrive_of_mem {x a : Arrival} {l : List Arrival} (h : x ∈ l) : x ∈ arrive a l := by
  induction l with
  | nil => cases h
  | cons b r ih =>
    unfold arrive; split
    · exact List.mem_cons_of_mem _ h
    · rcases List.mem_cons.mp h with h | h
      · subst h; exact List.mem_cons_self
      · exact List.mem_cons_of_mem _ (ih h)

/-- A message sent with room at the collector waits there. -/
theorem messageWaits_sendFaultP {p k src i : Nat} {s : State} (h : roomMsg s) : messageWaits k src i (sendFaultP p k src i s) := by
  unfold sendFaultP
  dsimp only
  rw [if_neg (by unfold roomMsg at h; omega)]
  exact ⟨_, mem_arrive _ _, rfl, rfl, rfl, rfl⟩

theorem messageWaits_sendFault {k src i : Nat} {s : State} (h : roomMsg s) : messageWaits k src i (sendFault k src i s) :=
  messageWaits_sendFaultP h

/-- A message that waits goes on waiting while others arrive. -/
theorem messageWaits_of_sub {k src i : Nat} {s t : State} (h : messageWaits k src i s) (hs : ∀ a ∈ s.inbox, a ∈ t.inbox) :
    messageWaits k src i t := by obtain ⟨a, ha, hr⟩ := h; exact ⟨a, hs a ha, hr⟩

theorem eventWaits_of_sub {c : Nat} {s t : State} (h : eventWaits c s) (hs : ∀ a ∈ s.inbox, a ∈ t.inbox) :
    eventWaits c t := by obtain ⟨a, ha, hr⟩ := h; exact ⟨a, hs a ha, hr⟩

theorem messageWaits_congr {k src i : Nat} {s t : State} (hs : t.inbox = s.inbox) : messageWaits k src i t ↔ messageWaits k src i s := by
  simp [messageWaits, hs]

theorem eventWaits_congr {c : Nat} {s t : State} (hs : t.inbox = s.inbox) : eventWaits c t ↔ eventWaits c s := by
  simp [eventWaits, hs]

theorem messageWaits_settle {k src i : Nat} {s : State} (h : noEnd s) : messageWaits k src i (settle s) ↔ messageWaits k src i s :=
  messageWaits_congr (settle_inbox h)

theorem eventWaits_settle {c : Nat} {s : State} (h : noEnd s) : eventWaits c (settle s) ↔ eventWaits c s := eventWaits_congr (settle_inbox h)

/-- An event recorded with room at the recorder waits there. -/
theorem eventWaits_eventP {p c : Nat} {l : List Nat} {s : State} (h : roomRec s) : eventWaits c (eventP p c l s) := by
  unfold eventP postRec
  rw [if_neg (by unfold roomRec at h; omega)]
  exact ⟨_, mem_arrive _ _, rfl, rfl, rfl⟩

theorem eventWaits_event {c : Nat} {l : List Nat} {s : State} (h : roomRec s) : eventWaits c (event c l s) := eventWaits_eventP h

/-- What waits goes on waiting at a message and at a record. -/
theorem inbox_sendFaultP {p k src i : Nat} {s : State} : ∀ a ∈ s.inbox, a ∈ (sendFaultP p k src i s).inbox := by
  intro a ha
  unfold sendFaultP
  dsimp only
  split
  · exact ha
  · exact mem_arrive_of_mem ha

theorem inbox_sendFault {k src i : Nat} {s : State} : ∀ a ∈ s.inbox, a ∈ (sendFault k src i s).inbox := inbox_sendFaultP

theorem inbox_postRec {p g c y : Nat} {l : List Nat} {s : State} : ∀ a ∈ s.inbox, a ∈ (postRec p g c y l s).inbox := by
  intro a ha
  unfold postRec
  split
  · exact ha
  · exact mem_arrive_of_mem ha

theorem inbox_event {c : Nat} {l : List Nat} {s : State} : ∀ a ∈ s.inbox, a ∈ (event c l s).inbox := inbox_postRec

/-! ### Frames of registers -/

theorem fieldsBut_refl (l : List Fld) (s : State) : fieldsBut l s s := fun _ _ _ => rfl

theorem fieldsBut_trans {l : List Fld} {s t u : State} (h : fieldsBut l s t) (h2 : fieldsBut l t u) : fieldsBut l s u :=
  fun f hf ho => (h2 f hf ho).trans (h f hf ho)

theorem fieldsBut_mono {l m : List Fld} {s t : State} (h : fieldsBut l s t) (hs : ∀ f ∈ l, f ∈ m) : fieldsBut m s t := by
  intro f hf ho
  refine h f (fun hm => hf ?_) ho
  obtain ⟨g, hg, he⟩ := List.mem_map.mp hm
  exact List.mem_map.mpr ⟨g, hs g hg, he⟩

theorem fieldsBut_regs {l : List Fld} {s t : State} (h : t.regs = s.regs) : fieldsBut l s t := fun f _ _ => getF_congr h f

/-- Setting a field that is listed. -/
theorem fieldsBut_setF {l : List Fld} {s t : State} {g : Fld} {v : Nat} (hg : g ∈ l) (h : fieldsBut l s t) : fieldsBut l s (setF t g v) := by
  intro f hf ho
  rw [getF_setF_ne _ _ (fun he => hf (List.mem_map.mpr ⟨g, hg, he.symm⟩))]
  exact h f hf ho

theorem fieldsBut_setB {l : List Fld} {s t : State} {g : Fld} {v : Bool} (hg : g ∈ l) (h : fieldsBut l s t) : fieldsBut l s (setB t g v) :=
  fieldsBut_setF hg h

/-- An update that touches no register. -/
theorem fieldsBut_with {l : List Fld} {s t u : State} (h : fieldsBut l s t) (he : u.regs = t.regs) : fieldsBut l s u :=
  fieldsBut_trans h (fieldsBut_regs he)

theorem fieldsBut_settle {l : List Fld} {s t : State} (hn : noEnd t) (h : fieldsBut l s t) : fieldsBut l s (settle t) :=
  fieldsBut_trans h (fun f _ ho => getF_settle t hn ho)

/-- A message with room at the collector touches no register; one beyond it sets QUEUE_OVF (R397). -/
theorem fieldsBut_sendFault {l : List Fld} {k src i : Nat} {s t : State} (hr : roomMsg t ∨ FLC.STATUS.QUEUE_OVF ∈ l) (h : fieldsBut l s t) :
    fieldsBut l s (sendFault k src i t) := by
  unfold sendFault sendFaultP
  dsimp only
  split
  · rcases hr with hr | hr
    · unfold roomMsg at hr; omega
    · exact fieldsBut_setB hr (fieldsBut_with h rfl)
  · exact fieldsBut_with h rfl

/-! ### Frames of the units -/

theorem waitingSame_settle {a t : State} (h : noEnd t) : waitingSame a (settle t) ↔ waitingSame a t := by
  rw [settle_of_noEnd h]; simp [waitingSame]

theorem unitsSame_settle {a t : State} (h : noEnd t) : unitsSame a (settle t) ↔ unitsSame a t := by
  rw [settle_of_noEnd h]; simp [unitsSame, sensingSame, drivingSame, managingSame]

theorem unitsSame_refl (a : State) : unitsSame a a := ⟨⟨rfl, rfl, rfl, rfl⟩, ⟨rfl, rfl, rfl, rfl, rfl, rfl⟩, ⟨rfl, rfl, rfl, rfl, rfl, rfl⟩⟩

theorem unitsSame_setF {a t : State} {f : Fld} {v : Nat} : unitsSame a (setF t f v) ↔ unitsSame a t := Iff.rfl
theorem unitsSame_setB {a t : State} {f : Fld} {v : Bool} : unitsSame a (setB t f v) ↔ unitsSame a t := Iff.rfl
theorem waitingSame_setF {a t : State} {f : Fld} {v : Nat} : waitingSame a (setF t f v) ↔ waitingSame a t := Iff.rfl
theorem waitingSame_setB {a t : State} {f : Fld} {v : Bool} : waitingSame a (setB t f v) ↔ waitingSame a t := Iff.rfl
theorem unitsSame_sendFault {a t : State} {k src i : Nat} : unitsSame a (sendFault k src i t) ↔ unitsSame a t := by
  simp [unitsSame, sensingSame, drivingSame, managingSame]
theorem waitingSame_sendFault {a t : State} {k src i : Nat} : waitingSame a (sendFault k src i t) ↔ waitingSame a t := by
  simp [waitingSame]

end Sys2Proof.Machine
end

