-- ==== Sys2Proof/Laws/Exec.lean ====
section
/-! SUPPORT. One equation per command: the time before it, then its effect, then what follows every event. -/

namespace Sys2Proof.Machine

theorem exec_stepBoundaryStrobe (dt : Nat) (step : Nat) (launch : Option Nat) (s : State) :
    exec (.stepBoundaryStrobe dt step launch) s = act (.stepBoundaryStrobe dt step launch) dt (strobe step launch) s := rfl
theorem exec_boundaryCut (dt : Nat) (s : State) :
    exec (.boundaryCut dt) s = act (.boundaryCut dt) dt boundaryCut s := rfl
theorem exec_localBoundary (dt : Nat) (s : State) :
    exec (.localBoundary dt) s = act (.localBoundary dt) dt localBoundary s := rfl
theorem exec_boundarySourceLocal (dt : Nat) (s : State) :
    exec (.boundarySourceLocal dt) s = act (.boundarySourceLocal dt) dt sourceLocal s := rfl
theorem exec_systimeCoherent (dt : Nat) (valid : Bool) (time : Nat) (s : State) :
    exec (.systimeCoherent dt valid time) s = act (.systimeCoherent dt valid time) dt (systime valid time) s := rfl
theorem exec_vaonLow (dt : Nat) (lowest : Nat) (s : State) :
    exec (.vaonLow dt lowest) s = act (.vaonLow dt lowest) dt (vaonLow lowest) s := rfl
theorem exec_vaonCollapse (dt : Nat) (s : State) :
    exec (.vaonCollapse dt) s = act (.vaonCollapse dt) dt vaonCollapse s := rfl
theorem exec_registerWrite (dt : Nat) (agent : Byte) (off : BitVec 20) (val : Word) (be : BitVec 4) (s : State) :
    exec (.registerWrite dt agent off val be) s = act (.registerWrite dt agent off val be) dt (busWrite agent.toNat off.toNat val.toNat be.toNat) s := rfl
theorem exec_rwWriteApply (dt : Nat) (s : State) :
    exec (.rwWriteApply dt) s = act (.rwWriteApply dt) dt applyLanding s := rfl
theorem exec_unmappedAccess (dt : Nat) (agent : Byte) (off : BitVec 20) (write : Bool) (val : Word) (be : BitVec 4) (s : State) :
    exec (.unmappedAccess dt agent off write val be) s = act (.unmappedAccess dt agent off write val be) dt (busAccess agent.toNat off.toNat write val.toNat be.toNat) s := rfl
theorem exec_wideReadLowWord (dt : Nat) (agent : Byte) (off : BitVec 20) (s : State) :
    exec (.wideReadLowWord dt agent off) s = act (.wideReadLowWord dt agent off) dt (busRead agent.toNat off.toNat none) s := rfl
theorem exec_wideWriteLowWord (dt : Nat) (agent : Byte) (off : BitVec 20) (val : Word) (s : State) :
    exec (.wideWriteLowWord dt agent off val) s = act (.wideWriteLowWord dt agent off val) dt (busWrite agent.toNat off.toNat val.toNat 15) s := rfl
theorem exec_rcFieldRead (dt : Nat) (agent : Byte) (off : BitVec 20) (s : State) :
    exec (.rcFieldRead dt agent off) s = act (.rcFieldRead dt agent off) dt (busRead agent.toNat off.toNat none) s := rfl
theorem exec_deniedAccess (dt : Nat) (agent : Byte) (off : BitVec 20) (write : Bool) (val : Word) (s : State) :
    exec (.deniedAccess dt agent off write val) s = act (.deniedAccess dt agent off write val) dt (busAccess agent.toNat off.toNat write val.toNat 15) s := rfl
theorem exec_senseSample (dt : Nat) (imon pts : List Nat) (s : State) :
    exec (.senseSample dt imon pts) s = act (.senseSample dt imon pts) dt (onGrid 25 (senseSample imon pts)) s := rfl
theorem exec_windowClose1us (dt : Nat) (s : State) :
    exec (.windowClose1us dt) s = act (.windowClose1us dt) dt (onGrid 100 windowClose1) s := rfl
theorem exec_windowClose10us (dt : Nat) (s : State) :
    exec (.windowClose10us dt) s = act (.windowClose10us dt) dt (onGrid 1000 windowClose10) s := rfl
theorem exec_busSample (dt : Nat) (v c : Nat) (s : State) :
    exec (.busSample dt v c) s = act (.busSample dt v c) dt (onGrid 100 (busSample v c)) s := rfl
theorem exec_xchkRound (dt : Nat) (s : State) :
    exec (.xchkRound dt) s = act (.xchkRound dt) dt (onGrid 100000 xchkClose) s := rfl
theorem exec_busXchkSuspect (dt : Nat) (s : State) :
    exec (.busXchkSuspect dt) s = act (.busXchkSuspect dt) dt (fun t => bandFollow (suspectRow 2 (busXchkSuspect t))) s := rfl
theorem exec_measSuspectClear (dt : Nat) (s : State) :
    exec (.measSuspectClear dt) s = act (.measSuspectClear dt) dt (fun t => bandFollow (suspectRow 3 (measSuspectClear t))) s := rfl
theorem exec_imonRange (dt : Nat) (n : Nat) (s : State) :
    exec (.imonRange dt n) s = act (.imonRange dt n) dt (imonRange n) s := rfl
theorem exec_senseOpen (dt : Nat) (p : Nat) (s : State) :
    exec (.senseOpen dt p) s = act (.senseOpen dt p) dt (senseOpen p) s := rfl
theorem exec_vcoreSenseSplit (dt : Nat) (s : State) :
    exec (.vcoreSenseSplit dt) s = act (.vcoreSenseSplit dt) dt senseSplit s := rfl
theorem exec_busVRange (dt : Nat) (s : State) :
    exec (.busVRange dt) s = act (.busVRange dt) dt busVRange s := rfl
theorem exec_droopLevelChange (dt : Nat) (r d v : Nat) (s : State) :
    exec (.droopLevelChange dt r d v) s = act (.droopLevelChange dt r d v) dt (droopLevelChange r d v) s := rfl
theorem exec_droopDetStuck (dt : Nat) (r d : Nat) (s : State) :
    exec (.droopDetStuck dt r d) s = act (.droopDetStuck dt r d) dt (droopDetStuck r d) s := rfl
theorem exec_detExclWrite (dt : Nat) (agent : Byte) (w : Nat) (val : Word) (s : State) :
    exec (.detExclWrite dt agent w val) s = act (.detExclWrite dt agent w val) dt (busWrite agent.toNat (0x10710 + 4 * w) val.toNat 15) s := rfl
theorem exec_stretchHoldLong (dt : Nat) (r : Nat) (s : State) :
    exec (.stretchHoldLong dt r) s = act (.stretchHoldLong dt r) dt (stretchHoldLong r) s := rfl
theorem exec_activityFeature (dt : Nat) (id value : Nat) (s : State) :
    exec (.activityFeature dt id value) s = act (.activityFeature dt id value) dt (activityFeature id value) s := rfl
theorem exec_actEndOfWindow (dt : Nat) (s : State) :
    exec (.actEndOfWindow dt) s = act (.actEndOfWindow dt) dt (fun t => if t.time.ticks % 100 ≤ 10 then windowDone 0 t else t) s := rfl
theorem exec_actWindowStale (dt : Nat) (late : Nat) (s : State) :
    exec (.actWindowStale dt late) s = act (.actWindowStale dt late) dt (windowStale late) s := rfl
theorem exec_actStreamStall (dt : Nat) (s : State) :
    exec (.actStreamStall dt) s = act (.actStreamStall dt) dt actStall s := rfl
theorem exec_hksRound (dt : Nat) (conv : List (Nat × Nat)) (s : State) :
    exec (.hksRound dt conv) s = act (.hksRound dt conv) dt (onGrid 100000 (hksRound conv)) s := rfl
theorem exec_hksChannelInvalid (dt : Nat) (c : Nat) (s : State) :
    exec (.hksChannelInvalid dt c) s = act (.hksChannelInvalid dt c) dt (hksInvalid c) s := rfl
theorem exec_stgTlmRoundStart (dt : Nat) (s : State) :
    exec (.stgTlmRoundStart dt) s = act (.stgTlmRoundStart dt) dt (onGrid 100000 tlmRound) s := rfl
theorem exec_stgTlmFrame (dt : Nat) (slot : Nat) (frame : Word) (s : State) :
    exec (.stgTlmFrame dt slot frame) s = act (.stgTlmFrame dt slot frame) dt (tlmFrame slot frame.toNat) s := rfl
theorem exec_stgTlmSilent (dt : Nat) (a : Nat) (s : State) :
    exec (.stgTlmSilent dt a) s = act (.stgTlmSilent dt a) dt (tlmSilent a) s := rfl
theorem exec_estWindowSubstituted (dt : Nat) (s : State) :
    exec (.estWindowSubstituted dt) s = act (.estWindowSubstituted dt) dt (fun t => if 80 ≤ t.time.ticks % 100 then windowSubst t else t) s := rfl
theorem exec_estDisagree (dt : Nat) (s : State) :
    exec (.estDisagree dt) s = act (.estDisagree dt) dt (tryRow 5) s := rfl
theorem exec_estMismatch (dt : Nat) (s : State) :
    exec (.estMismatch dt) s = act (.estMismatch dt) dt (tryRow 6) s := rfl
theorem exec_estModelLost (dt : Nat) (s : State) :
    exec (.estModelLost dt) s = act (.estModelLost dt) dt (tryRow 1) s := rfl
theorem exec_estModelRestored (dt : Nat) (s : State) :
    exec (.estModelRestored dt) s = act (.estModelRestored dt) dt (tryRow 4) s := rfl
theorem exec_estTrustAgree (dt : Nat) (s : State) :
    exec (.estTrustAgree dt) s = act (.estTrustAgree dt) dt (tryRow 7) s := rfl
theorem exec_estShadowAgree (dt : Nat) (s : State) :
    exec (.estShadowAgree dt) s = act (.estShadowAgree dt) dt (tryRow 8) s := rfl
theorem exec_calRound (dt : Nat) (s : State) :
    exec (.calRound dt) s = act (.calRound dt) dt calRound s := rfl
theorem exec_estCalClamp (dt : Nat) (k : Nat) (s : State) :
    exec (.estCalClamp dt k) s = act (.estCalClamp dt k) dt (calClamp k) s := rfl
theorem exec_estRetry (dt : Nat) (agent : Byte) (s : State) :
    exec (.estRetry dt agent) s = act (.estRetry dt agent) dt (busWrite agent.toNat 0x2000C 1 15) s := rfl
theorem exec_estCalReset (dt : Nat) (agent : Byte) (s : State) :
    exec (.estCalReset dt agent) s = act (.estCalReset dt agent) dt (busWrite agent.toNat 0x2000C 2 15) s := rfl
theorem exec_pxeSlot1Trigger (dt : Nat) (s : State) :
    exec (.pxeSlot1Trigger dt) s = act (.pxeSlot1Trigger dt) dt slot1Trigger s := rfl
theorem exec_pxeSlot3Trigger (dt : Nat) (s : State) :
    exec (.pxeSlot3Trigger dt) s = act (.pxeSlot3Trigger dt) dt slot3Trigger s := rfl
theorem exec_pxePublish (dt : Nat) (slot time : Nat) (s : State) :
    exec (.pxePublish dt slot time) s = act (.pxePublish dt slot time) dt (publishRow slot time) s := rfl
theorem exec_pxeOverrun (dt : Nat) (slot desc : Nat) (s : State) :
    exec (.pxeOverrun dt slot desc) s = act (.pxeOverrun dt slot desc) dt (pxeOverrun slot desc) s := rfl
theorem exec_pxeMemUncorrectable (dt : Nat) (slot addr desc : Nat) (s : State) :
    exec (.pxeMemUncorrectable dt slot addr desc) s = act (.pxeMemUncorrectable dt slot addr desc) dt (pxeMemUncorrectable slot addr desc) s := rfl
theorem exec_pxeCapRelease (dt : Nat) (agent : Byte) (slot : Nat) (s : State) :
    exec (.pxeCapRelease dt agent slot) s = act (.pxeCapRelease dt agent slot) dt (busWrite agent.toNat (0x30140 + 32 * slot) 1 15) s := rfl
theorem exec_ffScheduleComputed (dt : Nat) (s : State) :
    exec (.ffScheduleComputed dt) s = act (.ffScheduleComputed dt) dt ffScheduleComputed s := rfl
theorem exec_ffAddAction (dt : Nat) (k : Nat) (s : State) :
    exec (.ffAddAction dt k) s = act (.ffAddAction dt k) dt (ffAddAction k) s := rfl
theorem exec_ffLiftAction (dt : Nat) (s : State) :
    exec (.ffLiftAction dt) s = act (.ffLiftAction dt) dt ffLiftAction s := rfl
theorem exec_drgEvaluate (dt : Nat) (s : State) :
    exec (.drgEvaluate dt) s = act (.drgEvaluate dt) dt (onGrid 25 drgEvaluate) s := rfl
theorem exec_launchMove (dt : Nat) (step time : Nat) (s : State) :
    exec (.launchMove dt step time) s = act (.launchMove dt step time) dt (launchMove step time) s := rfl
theorem exec_vselLatch (dt : Nat) (v : Nat) (s : State) :
    exec (.vselLatch dt v) s = act (.vselLatch dt v) dt (vselLatch v) s := rfl
theorem exec_setpointRampDone (dt : Nat) (k : Nat) (s : State) :
    exec (.setpointRampDone dt k) s = act (.setpointRampDone dt k) dt ((fun t => refreshRate (setpointRampDone k t))) s := rfl
theorem exec_deEnter (dt : Nat) (k : Nat) (s : State) :
    exec (.deEnter dt k) s = act (.deEnter dt k) dt (deEnter k) s := rfl
theorem exec_phaseRampInDone (dt : Nat) (n : Nat) (s : State) :
    exec (.phaseRampInDone dt n) s = act (.phaseRampInDone dt n) dt (phaseRampInDone n) s := rfl
theorem exec_phaseRampOutDone (dt : Nat) (n : Nat) (s : State) :
    exec (.phaseRampOutDone dt n) s = act (.phaseRampOutDone dt n) dt (phaseRampOutDone n) s := rfl
theorem exec_shedInhEnd (dt : Nat) (k : Nat) (s : State) :
    exec (.shedInhEnd dt k) s = act (.shedInhEnd dt k) dt (shedInhEnd k) s := rfl
theorem exec_allPhaseBurst (dt : Nat) (p : VcorePoints) (s : State) :
    exec (.allPhaseBurst dt p) s = act (.allPhaseBurst dt p) dt (allPhaseBurst p) s := rfl
theorem exec_burstEnd (dt : Nat) (p : VcorePoints) (s : State) :
    exec (.burstEnd dt p) s = act (.burstEnd dt p) dt (burstEnd p) s := rfl
theorem exec_burstRearmEnd (dt : Nat) (s : State) :
    exec (.burstRearmEnd dt) s = act (.burstRearmEnd dt) dt burstRearmEnd s := rfl
theorem exec_phaseOcTrip (dt : Nat) (n : Nat) (s : State) :
    exec (.phaseOcTrip dt n) s = act (.phaseOcTrip dt n) dt (phaseOcTrip n) s := rfl
theorem exec_phaseOcRelease (dt : Nat) (n : Nat) (s : State) :
    exec (.phaseOcRelease dt n) s = act (.phaseOcRelease dt n) dt (phaseOcRelease n) s := rfl
theorem exec_phaseFault (dt : Nat) (n : Nat) (s : State) :
    exec (.phaseFault dt n) s = act (.phaseFault dt n) dt (phaseFault n) s := rfl
theorem exec_phaseHot (dt : Nat) (n : Nat) (s : State) :
    exec (.phaseHot dt n) s = act (.phaseHot dt n) dt (phaseHot n) s := rfl
theorem exec_phaseImbalance (dt : Nat) (n : Nat) (s : State) :
    exec (.phaseImbalance dt n) s = act (.phaseImbalance dt n) dt (phaseImbalance n) s := rfl
theorem exec_phcRetiredWrite (dt : Nat) (agent : Byte) (w : Nat) (val : Word) (s : State) :
    exec (.phcRetiredWrite dt agent w val) s = act (.phcRetiredWrite dt agent w val) dt (busWrite agent.toNat (0x60080 + 4 * w) val.toNat 15) s := rfl
theorem exec_seqStart (dt : Nat) (agent : Byte) (s : State) :
    exec (.seqStart dt agent) s = act (.seqStart dt agent) dt (busWrite agent.toNat 0x60408 1 15) s := rfl
theorem exec_seqStop (dt : Nat) (agent : Byte) (s : State) :
    exec (.seqStop dt agent) s = act (.seqStop dt agent) dt (busWrite agent.toNat 0x60408 2 15) s := rfl
theorem exec_busSettleDone (dt : Nat) (s : State) :
    exec (.busSettleDone dt) s = act (.busSettleDone dt) dt busSettleDone s := rfl
theorem exec_busStartFail (dt : Nat) (s : State) :
    exec (.busStartFail dt) s = act (.busStartFail dt) dt busStartFail s := rfl
theorem exec_seqSlotStart (dt : Nat) (s : State) :
    exec (.seqSlotStart dt) s = act (.seqSlotStart dt) dt seqSlotStart s := rfl
theorem exec_railProbeDone (dt : Nat) (k : Nat) (s : State) :
    exec (.railProbeDone dt k) s = act (.railProbeDone dt k) dt (railProbeDone k) s := rfl
theorem exec_railPowerGood (dt : Nat) (k : Nat) (s : State) :
    exec (.railPowerGood dt k) s = act (.railPowerGood dt k) dt (railPowerGood k) s := rfl
theorem exec_railPgTimeout (dt : Nat) (k : Nat) (s : State) :
    exec (.railPgTimeout dt k) s = act (.railPgTimeout dt k) dt (railPgTimeout k) s := rfl
theorem exec_railPrebiasHigh (dt : Nat) (k : Nat) (s : State) :
    exec (.railPrebiasHigh dt k) s = act (.railPrebiasHigh dt k) dt (railPrebiasHigh k) s := rfl
theorem exec_railShortStart (dt : Nat) (k : Nat) (s : State) :
    exec (.railShortStart dt k) s = act (.railShortStart dt k) dt (railShortStart k) s := rfl
theorem exec_railStartStall (dt : Nat) (k : Nat) (s : State) :
    exec (.railStartStall dt k) s = act (.railStartStall dt k) dt (railStartStall k) s := rfl
theorem exec_railOv (dt : Nat) (k : Nat) (s : State) :
    exec (.railOv dt k) s = act (.railOv dt k) dt (railOv k) s := rfl
theorem exec_railStopDone (dt : Nat) (k : Nat) (s : State) :
    exec (.railStopDone dt k) s = act (.railStopDone dt k) dt (railStopDone k) s := rfl
theorem exec_pwrFailNFall (dt : Nat) (s : State) :
    exec (.pwrFailNFall dt) s = act (.pwrFailNFall dt) dt powerFail s := rfl
theorem exec_quickStopRailOff (dt : Nat) (s : State) :
    exec (.quickStopRailOff dt) s = act (.quickStopRailOff dt) dt quickStopRailOff s := rfl
theorem exec_pwrFailNRise (dt : Nat) (s : State) :
    exec (.pwrFailNRise dt) s = act (.pwrFailNRise dt) dt pwrFailRise s := rfl
theorem exec_latchClear (dt : Nat) (agent : Byte) (val : Word) (s : State) :
    exec (.latchClear dt agent val) s = act (.latchClear dt agent val) dt (busWrite agent.toNat 0x60410 val.toNat 15) s := rfl
theorem exec_protectiveLowering (dt : Nat) (cond : Nat) (s : State) :
    exec (.protectiveLowering dt cond) s = act (.protectiveLowering dt cond) dt (protectiveLowering cond) s := rfl
theorem exec_limitUnmet (dt : Nat) (cond : Nat) (s : State) :
    exec (.limitUnmet dt cond) s = act (.limitUnmet dt cond) dt (limitUnmet cond) s := rfl
theorem exec_lgvDutyStep (dt : Nat) (s : State) :
    exec (.lgvDutyStep dt) s = act (.lgvDutyStep dt) dt lgvDutyStep s := rfl
theorem exec_capUnattainable (dt : Nat) (s : State) :
    exec (.capUnattainable dt) s = act (.capUnattainable dt) dt (fun t => if dutyRuns t then capUnattainable t else t) s := rfl
theorem exec_thermLimWrite (dt : Nat) (agent : Byte) (val : Word) (s : State) :
    exec (.thermLimWrite dt agent val) s = act (.thermLimWrite dt agent val) dt (busWrite agent.toNat 0x70060 val.toNat 15) s := rfl
theorem exec_thermalRise (dt : Nat) (r : Nat) (s : State) :
    exec (.thermalRise dt r) s = act (.thermalRise dt r) dt (thermalRise r) s := rfl
theorem exec_tmgFwRound (dt : Nat) (s : State) :
    exec (.tmgFwRound dt) s = act (.tmgFwRound dt) dt (byComp 4 tmgFwRound) s := rfl
theorem exec_sensorSuspect (dt : Nat) (c : Nat) (s : State) :
    exec (.sensorSuspect dt c) s = act (.sensorSuspect dt c) dt (byComp 4 (sensorSuspect c)) s := rfl
theorem exec_tmgSensorTrusted (dt : Nat) (c : Nat) (s : State) :
    exec (.tmgSensorTrusted dt c) s = act (.tmgSensorTrusted dt c) dt (byComp 4 (sensorTrusted c)) s := rfl
theorem exec_thermalFloor (dt : Nat) (s : State) :
    exec (.thermalFloor dt) s = act (.thermalFloor dt) dt (byComp 4 thermalFloor) s := rfl
theorem exec_suspectSetWrite (dt : Nat) (agent : Byte) (w : Nat) (val : Word) (s : State) :
    exec (.suspectSetWrite dt agent w val) s = act (.suspectSetWrite dt agent w val) dt (busWrite agent.toNat (0x80280 + 4 * w) val.toNat 15) s := rfl
theorem exec_suspectClearWrite (dt : Nat) (agent : Byte) (w : Nat) (val : Word) (s : State) :
    exec (.suspectClearWrite dt agent w val) s = act (.suspectClearWrite dt agent w val) dt (busWrite agent.toNat (0x80200 + 4 * w) val.toNat 15) s := rfl
theorem exec_tripComparator (dt : Nat) (r n : Nat) (s : State) :
    exec (.tripComparator dt r n) s = act (.tripComparator dt r n) dt (tripComparator r n) s := rfl
theorem exec_tripComparatorRelease (dt : Nat) (r n : Nat) (s : State) :
    exec (.tripComparatorRelease dt r n) s = act (.tripComparatorRelease dt r n) dt (tripRelease r n) s := rfl
theorem exec_balRoundBegin (dt : Nat) (s : State) :
    exec (.balRoundBegin dt) s = act (.balRoundBegin dt) dt (byComp 5 balRoundBegin) s := rfl
theorem exec_balFrameReceived (dt : Nat) (s : State) :
    exec (.balFrameReceived dt) s = act (.balFrameReceived dt) dt (byComp 5 balFrameReceived) s := rfl
theorem exec_balOutcome (dt : Nat) (s : State) :
    exec (.balOutcome dt) s = act (.balOutcome dt) dt (byComp 5 balOutcome) s := rfl
theorem exec_sidebandRecordReceived (dt : Nat) (p : Nat) (hdr body : List Nat) (tagOk : Bool) (s : State) :
    exec (.sidebandRecordReceived dt p hdr body tagOk) s = act (.sidebandRecordReceived dt p hdr body tagOk) dt (sidebandReceived p hdr body tagOk) s := rfl
theorem exec_sbCounterEnd (dt : Nat) (p : Nat) (s : State) :
    exec (.sbCounterEnd dt p) s = act (.sbCounterEnd dt p) dt (sbCounterEnd p) s := rfl
theorem exec_sbKeyGraceEnd (dt : Nat) (ctx : Nat) (s : State) :
    exec (.sbKeyGraceEnd dt ctx) s = act (.sbKeyGraceEnd dt ctx) dt (keyGraceEnd ctx) s := rfl
theorem exec_restEnter (dt : Nat) (s : State) :
    exec (.restEnter dt) s = act (.restEnter dt) dt restEnter s := rfl
theorem exec_restWake (dt : Nat) (s : State) :
    exec (.restWake dt) s = act (.restWake dt) dt restWake s := rfl
theorem exec_restExit (dt : Nat) (s : State) :
    exec (.restExit dt) s = act (.restExit dt) dt restExit s := rfl
theorem exec_srConfirmed (dt : Nat) (s : State) :
    exec (.srConfirmed dt) s = act (.srConfirmed dt) dt srConfirmed s := rfl
theorem exec_restSrTimeout (dt : Nat) (s : State) :
    exec (.restSrTimeout dt) s = act (.restSrTimeout dt) dt srTimeout s := rfl
theorem exec_staWake (dt : Nat) (agent : Byte) (s : State) :
    exec (.staWake dt agent) s = act (.staWake dt agent) dt (busWrite agent.toNat 0xA000C 1 15) s := rfl
theorem exec_enterSafe (dt : Nat) (agent : Byte) (s : State) :
    exec (.enterSafe dt agent) s = act (.enterSafe dt agent) dt (busWrite agent.toNat 0xA000C 2 15) s := rfl
theorem exec_safeStateEnter (dt : Nat) (s : State) :
    exec (.safeStateEnter dt) s = act (.safeStateEnter dt) dt safeDueEnter s := rfl
theorem exec_blockRestart (dt : Nat) (agent : Byte) (val : Word) (s : State) :
    exec (.blockRestart dt agent val) s = act (.blockRestart dt agent val) dt (busWrite agent.toNat 0xA0020 val.toNat 15) s := rfl
theorem exec_chipReset (dt : Nat) (s : State) :
    exec (.chipReset dt) s = act (.chipReset dt) dt chipReset s := rfl
theorem exec_moduleReset (dt : Nat) (s : State) :
    exec (.moduleReset dt) s = act (.moduleReset dt) dt moduleReset s := rfl
theorem exec_moduleResetRelease (dt : Nat) (s : State) :
    exec (.moduleResetRelease dt) s = act (.moduleResetRelease dt) dt moduleRelease s := rfl
theorem exec_coldStart (dt : Nat) (s : State) :
    exec (.coldStart dt) s = act (.coldStart dt) dt coldStart s := rfl
theorem exec_pufReconstruct (dt : Nat) (ok : Bool) (blocks : Nat) (pub : List Nat) (s : State) :
    exec (.pufReconstruct dt ok blocks pub) s = act (.pufReconstruct dt ok blocks pub) dt (pufReconstruct ok blocks pub) s := rfl
theorem exec_wdtKick (dt : Nat) (agent : Byte) (val : Word) (s : State) :
    exec (.wdtKick dt agent val) s = act (.wdtKick dt agent val) dt (busWrite agent.toNat 0xA002C val.toNat 15) s := rfl
theorem exec_wdtExpiry (dt : Nat) (s : State) :
    exec (.wdtExpiry dt) s = act (.wdtExpiry dt) dt (failing wdtExpiry) s := rfl
theorem exec_mainCoreStart (dt : Nat) (found : List (Nat × List Nat)) (ok0 ok1 : Bool) (detail : Nat) (s : State) :
    exec (.mainCoreStart dt found ok0 ok1 detail) s = act (.mainCoreStart dt found ok0 ok1 detail) dt (mainStart found ok0 ok1 detail) s := rfl
theorem exec_helperLoad (dt : Nat) (k : Nat) (ok : Bool) (off : Nat) (s : State) :
    exec (.helperLoad dt k ok off) s = act (.helperLoad dt k ok off) dt (failing (helperLoad k ok off)) s := rfl
theorem exec_componentCheckIn (dt : Nat) (c : Nat) (s : State) :
    exec (.componentCheckIn dt c) s = act (.componentCheckIn dt c) dt (checkInRow c) s := rfl
theorem exec_fwComponentHang (dt : Nat) (c : Nat) (s : State) :
    exec (.fwComponentHang dt c) s = act (.fwComponentHang dt c) dt (failing (componentHang c)) s := rfl
theorem exec_fwMpuViolation (dt : Nat) (c addr : Nat) (write exe : Bool) (s : State) :
    exec (.fwMpuViolation dt c addr write exe) s = act (.fwMpuViolation dt c addr write exe) dt (failing (mpuViolation c addr write exe)) s := rfl
theorem exec_fwCoreException (dt : Nat) (k : Nat) (comp : Option Nat) (addr : Nat) (s : State) :
    exec (.fwCoreException dt k comp addr) s = act (.fwCoreException dt k comp addr) dt (failing (coreException k comp addr)) s := rfl
theorem exec_fwComponentRestart (dt : Nat) (c : Nat) (s : State) :
    exec (.fwComponentRestart dt c) s = act (.fwComponentRestart dt c) dt (fun t => (compRestarted c t).1) s := rfl
theorem exec_fwRestartLimit (dt : Nat) (s : State) :
    exec (.fwRestartLimit dt) s = act (.fwRestartLimit dt) dt limitRow s := rfl
theorem exec_hostAlive (dt : Nat) (agent : Byte) (val : Word) (s : State) :
    exec (.hostAlive dt agent val) s = act (.hostAlive dt agent val) dt (busWrite agent.toNat 0xB000C val.toNat 15) s := rfl
theorem exec_hostAbsent (dt : Nat) (s : State) :
    exec (.hostAbsent dt) s = act (.hostAbsent dt) dt hostAbsent s := rfl
theorem exec_hostAttach (dt : Nat) (agent : Byte) (val : Word) (s : State) :
    exec (.hostAttach dt agent val) s = act (.hostAttach dt agent val) dt (busWrite agent.toNat 0xB0014 val.toNat 15) s := rfl
theorem exec_logEntry (dt : Nat) (c kind id code : Nat) (payload : List Nat) (s : State) :
    exec (.logEntry dt c kind id code payload) s = act (.logEntry dt c kind id code payload) dt (logEntry c kind id code payload) s := rfl
theorem exec_logMirrorCopy (dt : Nat) (ok : Bool) (s : State) :
    exec (.logMirrorCopy dt ok) s = act (.logMirrorCopy dt ok) dt (failing (logMirrorCopy ok)) s := rfl
theorem exec_ringEnable (dt : Nat) (agent : Byte) (q : Nat) (val : Word) (s : State) :
    exec (.ringEnable dt agent q val) s = act (.ringEnable dt agent q val) dt (busWrite agent.toNat (0xC1000 + 64 * q) val.toNat 15) s := rfl
theorem exec_ringDisable (dt : Nat) (agent : Byte) (q : Nat) (val : Word) (s : State) :
    exec (.ringDisable dt agent q val) s = act (.ringDisable dt agent q val) dt (busWrite agent.toNat (0xC1000 + 64 * q) val.toNat 15) s := rfl
theorem exec_ringReset (dt : Nat) (agent : Byte) (q : Nat) (val : Word) (s : State) :
    exec (.ringReset dt agent q val) s = act (.ringReset dt agent q val) dt (busWrite agent.toNat (0xC1000 + 64 * q) val.toNat 15) s := rfl
theorem exec_ringDoorbell (dt : Nat) (agent : Byte) (q : Nat) (val : Word) (s : State) :
    exec (.ringDoorbell dt agent q val) s = act (.ringDoorbell dt agent q val) dt (busWrite agent.toNat (0xC1008 + 64 * q) val.toNat 15) s := rfl
theorem exec_cqHeadWrite (dt : Nat) (agent : Byte) (q : Nat) (val : Word) (s : State) :
    exec (.cqHeadWrite dt agent q val) s = act (.cqHeadWrite dt agent q val) dt (busWrite agent.toNat (0xC1010 + 64 * q) val.toNat 15) s := rfl
theorem exec_gateOpen (dt : Nat) (agent : Byte) (s : State) :
    exec (.gateOpen dt agent) s = act (.gateOpen dt agent) dt (busWrite agent.toNat 0xC0020 1 15) s := rfl
theorem exec_gateClose (dt : Nat) (agent : Byte) (s : State) :
    exec (.gateClose dt agent) s = act (.gateClose dt agent) dt (busWrite agent.toNat 0xC0020 0 15) s := rfl
theorem exec_taggedPacketResume (dt : Nat) (s : State) :
    exec (.taggedPacketResume dt) s = act (.taggedPacketResume dt) dt taggedResume s := rfl
theorem exec_taggedCompletion (dt : Nat) (s : State) :
    exec (.taggedCompletion dt) s = act (.taggedCompletion dt) dt taggedCompletion s := rfl
theorem exec_blockFetchDone (dt : Nat) (q : Nat) (data : List Nat) (ok : Bool) (s : State) :
    exec (.blockFetchDone dt q data ok) s = act (.blockFetchDone dt q data ok) dt (fetchDone q data ok) s := rfl
theorem exec_nop (dt : Nat) (q : Nat) (s : State) :
    exec (.nop dt q) s = act (.nop dt q) dt (packetRow (fun o => o == 0x00 || !opcodes.contains o) q doNop) s := rfl
theorem exec_regWrite (dt : Nat) (q : Nat) (s : State) :
    exec (.regWrite dt q) s = act (.regWrite dt q) dt (packetRow (fun o => o == 0x01) q doRegWrite) s := rfl
theorem exec_regRead (dt : Nat) (q : Nat) (s : State) :
    exec (.regRead dt q) s = act (.regRead dt q) dt (packetRow (fun o => o == 0x02) q doRegRead) s := rfl
theorem exec_mark (dt : Nat) (q : Nat) (s : State) :
    exec (.mark dt q) s = act (.mark dt q) dt (packetRow (fun o => o == 0x03) q doMark) s := rfl
theorem exec_jobAttach (dt : Nat) (q : Nat) (s : State) :
    exec (.jobAttach dt q) s = act (.jobAttach dt q) dt (packetRow (fun o => o == 0x08) q doJobAttach) s := rfl
theorem exec_jobDetach (dt : Nat) (q : Nat) (s : State) :
    exec (.jobDetach dt q) s = act (.jobDetach dt q) dt (packetRow (fun o => o == 0x09) q doJobDetach) s := rfl
theorem exec_setCap (dt : Nat) (q : Nat) (s : State) :
    exec (.setCap dt q) s = act (.setCap dt q) dt (packetRow (fun o => o == 0x0C) q doSetCap) s := rfl
theorem exec_getCapState (dt : Nat) (q : Nat) (s : State) :
    exec (.getCapState dt q) s = act (.getCapState dt q) dt (packetRow (fun o => o == 0x0D) q doGetCap) s := rfl
theorem exec_planSegmentBlock (dt : Nat) (q : Nat) (s : State) :
    exec (.planSegmentBlock dt q) s = act (.planSegmentBlock dt q) dt (blockRow 0x10 q true true) s := rfl
theorem exec_planStop (dt : Nat) (q : Nat) (s : State) :
    exec (.planStop dt q) s = act (.planStop dt q) dt (packetRow (fun o => o == 0x11) q doPlanStop) s := rfl
theorem exec_programBlock (dt : Nat) (q : Nat) (s : State) :
    exec (.programBlock dt q) s = act (.programBlock dt q) dt (blockRow 0x18 q true true) s := rfl
theorem exec_sbKeyInstall (dt : Nat) (q : Nat) (opens : Bool) (key : Nat) (s : State) :
    exec (.sbKeyInstall dt q opens key) s = act (.sbKeyInstall dt q opens key) dt (packetRow (fun o => o == 0x20) q (doSbKey opens key)) s := rfl
theorem exec_logKeyRotate (dt : Nat) (q : Nat) (s : State) :
    exec (.logKeyRotate dt q) s = act (.logKeyRotate dt q) dt (packetRow (fun o => o == 0x21) q doLogKey) s := rfl
theorem exec_confMode (dt : Nat) (q : Nat) (s : State) :
    exec (.confMode dt q) s = act (.confMode dt q) dt (packetRow (fun o => o == 0x22) q doConfMode) s := rfl
theorem exec_partitionAssign (dt : Nat) (q : Nat) (s : State) :
    exec (.partitionAssign dt q) s = act (.partitionAssign dt q) dt (packetRow (fun o => o == 0x23) q doAssign) s := rfl
theorem exec_scrubBegin (dt : Nat) (q : Nat) (s : State) :
    exec (.scrubBegin dt q) s = act (.scrubBegin dt q) dt (packetRow (fun o => o == 0x24) q doScrubBegin) s := rfl
theorem exec_scrubEnd (dt : Nat) (q : Nat) (s : State) :
    exec (.scrubEnd dt q) s = act (.scrubEnd dt q) dt (packetRow (fun o => o == 0x25) q doScrubEnd) s := rfl
theorem exec_updateBlock (dt : Nat) (q : Nat) (rootOk sigOk : Bool) (s : State) :
    exec (.updateBlock dt q rootOk sigOk) s = act (.updateBlock dt q rootOk sigOk) dt (blockRow 0x30 q rootOk sigOk) s := rfl
theorem exec_updFullCheckDone (dt : Nat) (sig digest content flash : Bool) (off : Nat) (s : State) :
    exec (.updFullCheckDone dt sig digest content flash off) s = act (.updFullCheckDone dt sig digest content flash off) dt (byComp 2 (fullCheckDone sig digest content flash off)) s := rfl
theorem exec_updateActivate (dt : Nat) (q : Nat) (s : State) :
    exec (.updateActivate dt q) s = act (.updateActivate dt q) dt (packetRow (fun o => o == 0x31) q doActivate) s := rfl
theorem exec_updateConfirm (dt : Nat) (q : Nat) (s : State) :
    exec (.updateConfirm dt q) s = act (.updateConfirm dt q) dt (packetRow (fun o => o == 0x32) q doConfirm) s := rfl
theorem exec_updateAbort (dt : Nat) (q : Nat) (s : State) :
    exec (.updateAbort dt q) s = act (.updateAbort dt q) dt (packetRow (fun o => o == 0x33) q doAbort) s := rfl
theorem exec_evrWatch (dt : Nat) (q : Nat) (s : State) :
    exec (.evrWatch dt q) s = act (.evrWatch dt q) dt (packetRow (fun o => o == 0x38) q doWatch) s := rfl
theorem exec_evrFlush (dt : Nat) (q : Nat) (s : State) :
    exec (.evrFlush dt q) s = act (.evrFlush dt q) dt (packetRow (fun o => o == 0x39) q doFlush) s := rfl
theorem exec_faultPolicy (dt : Nat) (q : Nat) (s : State) :
    exec (.faultPolicy dt q) s = act (.faultPolicy dt q) dt (packetRow (fun o => o == 0x3A) q doPolicy) s := rfl
theorem exec_mbxWrite (dt : Nat) (agent : Byte) (m : Nat) (val : Word) (s : State) :
    exec (.mbxWrite dt agent m val) s = act (.mbxWrite dt agent m val) dt (busWrite agent.toNat (0xC3004 + 16 * m) val.toNat 15) s := rfl
theorem exec_mbxRead (dt : Nat) (agent : Byte) (m : Nat) (s : State) :
    exec (.mbxRead dt agent m) s = act (.mbxRead dt agent m) dt (busRead agent.toNat (0xC3004 + 16 * m) none) s := rfl
theorem exec_ping (dt : Nat) (m : Nat) (s : State) :
    exec (.ping dt m) s = act (.ping dt m) dt (mbxAnswer m (fun c => c == 1) (fun w => w)) s := rfl
theorem exec_generation (dt : Nat) (m : Nat) (s : State) :
    exec (.generation dt m) s = act (.generation dt m) dt (fun t => mbxAnswer m (fun c => c == 2) (fun _ => 0x02000000 + getF t FW.GENERATION.GENERATION % 2 ^ 24) t) s := rfl
theorem exec_state (dt : Nat) (m : Nat) (s : State) :
    exec (.state dt m) s = act (.state dt m) dt (fun t => mbxAnswer m (fun c => c == 3) (fun _ => stateReply t) t) s := rfl
theorem exec_mbxUnknownRequest (dt : Nat) (m : Nat) (s : State) :
    exec (.mbxUnknownRequest dt m) s = act (.mbxUnknownRequest dt m) dt (mbxAnswer m (fun c => c != 1 && c != 2 && c != 3) (fun w => 0xFF000000 + w / 2 ^ 24)) s := rfl
theorem exec_evrRecordPost (dt : Nat) (s : State) :
    exec (.evrRecordPost dt) s = act (.evrRecordPost dt) dt recordPost s := rfl
theorem exec_evrEpochPeriodic (dt : Nat) (s : State) :
    exec (.evrEpochPeriodic dt) s = act (.evrEpochPeriodic dt) dt epochPeriodic s := rfl
theorem exec_watchSnapshot (dt : Nat) (w m : Nat) (s : State) :
    exec (.watchSnapshot dt w m) s = act (.watchSnapshot dt w m) dt (snapRead (fun t o => hidden t 0x01 o (rawWord t 0x01 o false)) w m) s := rfl
theorem exec_evrFlushDone (dt : Nat) (ok : Option Nat) (s : State) :
    exec (.evrFlushDone dt ok) s = act (.evrFlushDone dt ok) dt (flushDone ok) s := rfl
theorem exec_flushMinEnd (dt : Nat) (s : State) :
    exec (.flushMinEnd dt) s = act (.flushMinEnd dt) dt flushMinEnd s := rfl
theorem exec_eraseAhead (dt : Nat) (s : State) :
    exec (.eraseAhead dt) s = act (.eraseAhead dt) dt eraseAhead s := rfl
theorem exec_hoursSave (dt : Nat) (s : State) :
    exec (.hoursSave dt) s = act (.hoursSave dt) dt hoursSave s := rfl
theorem exec_faultMessage (dt : Nat) (s : State) :
    exec (.faultMessage dt) s = act (.faultMessage dt) dt faultMessage s := rfl
theorem exec_severeClear (dt : Nat) (agent : Byte) (v : Nat) (val : Word) (s : State) :
    exec (.severeClear dt agent v val) s = act (.severeClear dt agent v val) dt (busWrite agent.toNat (0xD1000 + 4 * v) val.toNat 15) s := rfl
theorem exec_flcSelfFault (dt : Nat) (info : Nat) (s : State) :
    exec (.flcSelfFault dt info) s = act (.flcSelfFault dt info) dt (selfFault info) s := rfl
theorem exec_flcInject (dt : Nat) (agent : Byte) (val : Word) (s : State) :
    exec (.flcInject dt agent val) s = act (.flcInject dt agent val) dt (busWrite agent.toNat 0xD0098 val.toNat 15) s := rfl
theorem exec_hbKick (dt : Nat) (agent : Byte) (val : Word) (s : State) :
    exec (.hbKick dt agent val) s = act (.hbKick dt agent val) dt (busWrite agent.toNat 0xD0088 val.toNat 15) s := rfl
theorem exec_hbToggle (dt : Nat) (s : State) :
    exec (.hbToggle dt) s = act (.hbToggle dt) dt hbToggle s := rfl
theorem exec_hbTimeout (dt : Nat) (s : State) :
    exec (.hbTimeout dt) s = act (.hbTimeout dt) dt hbTimeout s := rfl
theorem exec_kxNew (dt : Nat) (agent : Byte) (s : State) :
    exec (.kxNew dt agent) s = act (.kxNew dt agent) dt (busWrite agent.toNat 0xE0008 1 15) s := rfl
theorem exec_kxReady (dt : Nat) (pub sig : List Nat) (s : State) :
    exec (.kxReady dt pub sig) s = act (.kxReady dt pub sig) dt (kxReady pub sig) s := rfl
theorem exec_logMigrateGranule (dt : Nat) (opens stop : Bool) (s : State) :
    exec (.logMigrateGranule dt opens stop) s = act (.logMigrateGranule dt opens stop) dt (migrateGran opens stop) s := rfl
theorem exec_evrWinFlashRead (dt : Nat) (agent : Byte) (n : Nat) (tag : Bool) (s : State) :
    exec (.evrWinFlashRead dt agent n tag) s = act (.evrWinFlashRead dt agent n tag) dt (busRead agent.toNat (0xD8000 + 4 * n) (some tag)) s := rfl
theorem exec_actDecision (dt : Nat) (s : State) :
    exec (.actDecision dt) s = act (.actDecision dt) dt (byComp 2 actDecide) s := rfl
theorem exec_actSlot (dt : Nat) (lines : Nat) (caravan : List Nat) (s : State) :
    exec (.actSlot dt lines caravan) s = act (.actSlot dt lines caravan) dt (byComp 2 (actSlot lines caravan)) s := rfl
theorem exec_updHandover (dt : Nat) (image : NewImage) (s : State) :
    exec (.updHandover dt image) s = act (.updHandover dt image) dt (fun t => resetOwed (handover image t)) s := rfl
theorem exec_autoConfirm (dt : Nat) (s : State) :
    exec (.autoConfirm dt) s = act (.autoConfirm dt) dt (byComp 2 autoConfirm) s := rfl
theorem exec_trialExpiry (dt : Nat) (s : State) :
    exec (.trialExpiry dt) s = act (.trialExpiry dt) dt (fun t => cutStopped t (trialExpiry t)) s := rfl
theorem exec_pmbusTableRefresh (dt : Nat) (s : State) :
    exec (.pmbusTableRefresh dt) s = act (.pmbusTableRefresh dt) dt (onGrid 100000 tableRefresh) s := rfl
theorem exec_page (dt : Nat) (m : Nat) (w : Option Nat) (pec : Bool) (s : State) :
    exec (.page dt m w pec) s = act (.page dt m w pec) dt (pecOr (w.isNone || pec) (pmPage m w)) s := rfl
theorem exec_clearFaults (dt : Nat) (pec : Bool) (s : State) :
    exec (.clearFaults dt pec) s = act (.clearFaults dt pec) dt (pecOr pec clearFaults) s := rfl
theorem exec_capability (dt : Nat) (m : Nat) (s : State) :
    exec (.capability dt m) s = act (.capability dt m) dt (pmRead allPages m 1 (fun _ => 0xD0)) s := rfl
theorem exec_voutMode (dt : Nat) (m : Nat) (s : State) :
    exec (.voutMode dt m) s = act (.voutMode dt m) dt (pmRead [0, 1, 2, 3] m 1 (fun _ => 0x14)) s := rfl
theorem exec_statusByte (dt : Nat) (m : Nat) (s : State) :
    exec (.statusByte dt m) s = act (.statusByte dt m) dt (fun t => pmRead allPages m 1 (fun p => statusWord t p % 256) t) s := rfl
theorem exec_statusWord (dt : Nat) (m : Nat) (s : State) :
    exec (.statusWord dt m) s = act (.statusWord dt m) dt (fun t => pmRead allPages m 2 (fun p => statusWord t p) t) s := rfl
theorem exec_statusVout (dt : Nat) (m : Nat) (s : State) :
    exec (.statusVout dt m) s = act (.statusVout dt m) dt (fun t => pmRead allPages m 1 (fun p => if p < 4 then latOf t (latVout p) else 0) t) s := rfl
theorem exec_statusIout (dt : Nat) (m : Nat) (s : State) :
    exec (.statusIout dt m) s = act (.statusIout dt m) dt (fun t => pmRead allPages m 1 (fun p => latOf t (latIout p)) t) s := rfl
theorem exec_statusInput (dt : Nat) (m : Nat) (s : State) :
    exec (.statusInput dt m) s = act (.statusInput dt m) dt (fun t => pmRead [4] m 1 (fun _ => latOf t latInput) t) s := rfl
theorem exec_statusTemperature (dt : Nat) (m : Nat) (s : State) :
    exec (.statusTemperature dt m) s = act (.statusTemperature dt m) dt (fun t => pmRead allPages m 1 (fun _ => latOf t latTemp) t) s := rfl
theorem exec_statusCml (dt : Nat) (m : Nat) (s : State) :
    exec (.statusCml dt m) s = act (.statusCml dt m) dt (fun t => pmRead allPages m 1 (fun _ => latOf t latCml) t) s := rfl
theorem exec_statusMfrSpecific (dt : Nat) (m : Nat) (s : State) :
    exec (.statusMfrSpecific dt m) s = act (.statusMfrSpecific dt m) dt (fun t => pmRead allPages m 1 (fun _ => mfrByte t) t) s := rfl
theorem exec_readVin (dt : Nat) (m : Nat) (s : State) :
    exec (.readVin dt m) s = act (.readVin dt m) dt (tableRead [4] 0x88 m) s := rfl
theorem exec_readIin (dt : Nat) (m : Nat) (s : State) :
    exec (.readIin dt m) s = act (.readIin dt m) dt (tableRead [4] 0x89 m) s := rfl
theorem exec_readVout (dt : Nat) (m : Nat) (s : State) :
    exec (.readVout dt m) s = act (.readVout dt m) dt (tableRead [0, 1, 2, 3] 0x8B m) s := rfl
theorem exec_readIout (dt : Nat) (m : Nat) (s : State) :
    exec (.readIout dt m) s = act (.readIout dt m) dt (tableRead [0, 1, 2, 3] 0x8C m) s := rfl
theorem exec_readTemperature1 (dt : Nat) (m : Nat) (s : State) :
    exec (.readTemperature1 dt m) s = act (.readTemperature1 dt m) dt (tableRead allPages 0x8D m) s := rfl
theorem exec_readTemperature2 (dt : Nat) (m : Nat) (s : State) :
    exec (.readTemperature2 dt m) s = act (.readTemperature2 dt m) dt (tableRead [4] 0x8E m) s := rfl
theorem exec_readTemperature3 (dt : Nat) (m : Nat) (s : State) :
    exec (.readTemperature3 dt m) s = act (.readTemperature3 dt m) dt (tableRead [4] 0x8F m) s := rfl
theorem exec_readPout (dt : Nat) (m : Nat) (s : State) :
    exec (.readPout dt m) s = act (.readPout dt m) dt (tableRead allPages 0x96 m) s := rfl
theorem exec_readPin (dt : Nat) (m : Nat) (s : State) :
    exec (.readPin dt m) s = act (.readPin dt m) dt (tableRead [4] 0x97 m) s := rfl
theorem exec_pmbusRevision (dt : Nat) (m : Nat) (s : State) :
    exec (.pmbusRevision dt m) s = act (.pmbusRevision dt m) dt (pmRead allPages m 1 (fun _ => 0x33)) s := rfl
theorem exec_mfrId (dt : Nat) (m : Nat) (s : State) :
    exec (.mfrId dt m) s = act (.mfrId dt m) dt (boardRead 0x99) s := rfl
theorem exec_mfrModel (dt : Nat) (m : Nat) (s : State) :
    exec (.mfrModel dt m) s = act (.mfrModel dt m) dt (boardRead 0x9A) s := rfl
theorem exec_mfrRevision (dt : Nat) (m : Nat) (s : State) :
    exec (.mfrRevision dt m) s = act (.mfrRevision dt m) dt (boardRead 0x9B) s := rfl
theorem exec_mfrSerial (dt : Nat) (m : Nat) (s : State) :
    exec (.mfrSerial dt m) s = act (.mfrSerial dt m) dt (boardRead 0x9E) s := rfl
theorem exec_mfrReadEnergy (dt : Nat) (m : Nat) (s : State) :
    exec (.mfrReadEnergy dt m) s = act (.mfrReadEnergy dt m) dt (pmEnergy m) s := rfl
theorem exec_mfrBusAddr (dt : Nat) (v : Nat) (pec : Bool) (s : State) :
    exec (.mfrBusAddr dt v pec) s = act (.mfrBusAddr dt v pec) dt (pecOr pec (busAddr v)) s := rfl
theorem exec_mfrBusData (dt : Nat) (w : Option Word) (pec : Bool) (s : State) :
    exec (.mfrBusData dt w pec) s = act (.mfrBusData dt w pec) dt (pmBusData (w.map (fun v => v.toNat)) pec) s := rfl
theorem exec_pmbusInvalidCommand (dt : Nat) (pec : Bool) (n : Nat) (s : State) :
    exec (.pmbusInvalidCommand dt pec n) s = act (.pmbusInvalidCommand dt pec n) dt (pmInvalid pec n) s := rfl
theorem exec_pmbusSclTimeout (dt : Nat) (s : State) :
    exec (.pmbusSclTimeout dt) s = act (.pmbusSclTimeout dt) dt sclTimeout s := rfl
theorem exec_smbusAlertResponse (dt : Nat) (s : State) :
    exec (.smbusAlertResponse dt) s = act (.smbusAlertResponse dt) dt alertResponse s := rfl
theorem exec_vaonRestored (dt : Nat) (v : Nat) (s : State) :
    exec (.vaonRestored dt v) s = act (.vaonRestored dt v) dt (vaonRestored v) s := rfl
theorem exec_refclkStop (dt : Nat) (s : State) :
    exec (.refclkStop dt) s = act (.refclkStop dt) dt (refclk false) s := rfl
theorem exec_refclkResume (dt : Nat) (s : State) :
    exec (.refclkResume dt) s = act (.refclkResume dt) dt (refclk true) s := rfl

/-- Every command is an event after the time that its first operand gives. -/
theorem exec_form (i : Instr) : ∃ f : State → State, ∀ s, exec i s = act i i.delay f s := by
  cases i with
  | stepBoundaryStrobe => exact ⟨_, fun _ => exec_stepBoundaryStrobe ..⟩
  | boundaryCut => exact ⟨_, fun _ => exec_boundaryCut ..⟩
  | localBoundary => exact ⟨_, fun _ => exec_localBoundary ..⟩
  | boundarySourceLocal => exact ⟨_, fun _ => exec_boundarySourceLocal ..⟩
  | systimeCoherent => exact ⟨_, fun _ => exec_systimeCoherent ..⟩
  | vaonLow => exact ⟨_, fun _ => exec_vaonLow ..⟩
  | vaonCollapse => exact ⟨_, fun _ => exec_vaonCollapse ..⟩
  | registerWrite => exact ⟨_, fun _ => exec_registerWrite ..⟩
  | rwWriteApply => exact ⟨_, fun _ => exec_rwWriteApply ..⟩
  | unmappedAccess => exact ⟨_, fun _ => exec_unmappedAccess ..⟩
  | wideReadLowWord => exact ⟨_, fun _ => exec_wideReadLowWord ..⟩
  | wideWriteLowWord => exact ⟨_, fun _ => exec_wideWriteLowWord ..⟩
  | rcFieldRead => exact ⟨_, fun _ => exec_rcFieldRead ..⟩
  | deniedAccess => exact ⟨_, fun _ => exec_deniedAccess ..⟩
  | senseSample => exact ⟨_, fun _ => exec_senseSample ..⟩
  | windowClose1us => exact ⟨_, fun _ => exec_windowClose1us ..⟩
  | windowClose10us => exact ⟨_, fun _ => exec_windowClose10us ..⟩
  | busSample => exact ⟨_, fun _ => exec_busSample ..⟩
  | xchkRound => exact ⟨_, fun _ => exec_xchkRound ..⟩
  | busXchkSuspect => exact ⟨_, fun _ => exec_busXchkSuspect ..⟩
  | measSuspectClear => exact ⟨_, fun _ => exec_measSuspectClear ..⟩
  | imonRange => exact ⟨_, fun _ => exec_imonRange ..⟩
  | senseOpen => exact ⟨_, fun _ => exec_senseOpen ..⟩
  | vcoreSenseSplit => exact ⟨_, fun _ => exec_vcoreSenseSplit ..⟩
  | busVRange => exact ⟨_, fun _ => exec_busVRange ..⟩
  | droopLevelChange => exact ⟨_, fun _ => exec_droopLevelChange ..⟩
  | droopDetStuck => exact ⟨_, fun _ => exec_droopDetStuck ..⟩
  | detExclWrite => exact ⟨_, fun _ => exec_detExclWrite ..⟩
  | stretchHoldLong => exact ⟨_, fun _ => exec_stretchHoldLong ..⟩
  | activityFeature => exact ⟨_, fun _ => exec_activityFeature ..⟩
  | actEndOfWindow => exact ⟨_, fun _ => exec_actEndOfWindow ..⟩
  | actWindowStale => exact ⟨_, fun _ => exec_actWindowStale ..⟩
  | actStreamStall => exact ⟨_, fun _ => exec_actStreamStall ..⟩
  | hksRound => exact ⟨_, fun _ => exec_hksRound ..⟩
  | hksChannelInvalid => exact ⟨_, fun _ => exec_hksChannelInvalid ..⟩
  | stgTlmRoundStart => exact ⟨_, fun _ => exec_stgTlmRoundStart ..⟩
  | stgTlmFrame => exact ⟨_, fun _ => exec_stgTlmFrame ..⟩
  | stgTlmSilent => exact ⟨_, fun _ => exec_stgTlmSilent ..⟩
  | estWindowSubstituted => exact ⟨_, fun _ => exec_estWindowSubstituted ..⟩
  | estDisagree => exact ⟨_, fun _ => exec_estDisagree ..⟩
  | estMismatch => exact ⟨_, fun _ => exec_estMismatch ..⟩
  | estModelLost => exact ⟨_, fun _ => exec_estModelLost ..⟩
  | estModelRestored => exact ⟨_, fun _ => exec_estModelRestored ..⟩
  | estTrustAgree => exact ⟨_, fun _ => exec_estTrustAgree ..⟩
  | estShadowAgree => exact ⟨_, fun _ => exec_estShadowAgree ..⟩
  | calRound => exact ⟨_, fun _ => exec_calRound ..⟩
  | estCalClamp => exact ⟨_, fun _ => exec_estCalClamp ..⟩
  | estRetry => exact ⟨_, fun _ => exec_estRetry ..⟩
  | estCalReset => exact ⟨_, fun _ => exec_estCalReset ..⟩
  | pxeSlot1Trigger => exact ⟨_, fun _ => exec_pxeSlot1Trigger ..⟩
  | pxeSlot3Trigger => exact ⟨_, fun _ => exec_pxeSlot3Trigger ..⟩
  | pxePublish => exact ⟨_, fun _ => exec_pxePublish ..⟩
  | pxeOverrun => exact ⟨_, fun _ => exec_pxeOverrun ..⟩
  | pxeMemUncorrectable => exact ⟨_, fun _ => exec_pxeMemUncorrectable ..⟩
  | pxeCapRelease => exact ⟨_, fun _ => exec_pxeCapRelease ..⟩
  | ffScheduleComputed => exact ⟨_, fun _ => exec_ffScheduleComputed ..⟩
  | ffAddAction => exact ⟨_, fun _ => exec_ffAddAction ..⟩
  | ffLiftAction => exact ⟨_, fun _ => exec_ffLiftAction ..⟩
  | drgEvaluate => exact ⟨_, fun _ => exec_drgEvaluate ..⟩
  | launchMove => exact ⟨_, fun _ => exec_launchMove ..⟩
  | vselLatch => exact ⟨_, fun _ => exec_vselLatch ..⟩
  | setpointRampDone => exact ⟨_, fun _ => exec_setpointRampDone ..⟩
  | deEnter => exact ⟨_, fun _ => exec_deEnter ..⟩
  | phaseRampInDone => exact ⟨_, fun _ => exec_phaseRampInDone ..⟩
  | phaseRampOutDone => exact ⟨_, fun _ => exec_phaseRampOutDone ..⟩
  | shedInhEnd => exact ⟨_, fun _ => exec_shedInhEnd ..⟩
  | allPhaseBurst => exact ⟨_, fun _ => exec_allPhaseBurst ..⟩
  | burstEnd => exact ⟨_, fun _ => exec_burstEnd ..⟩
  | burstRearmEnd => exact ⟨_, fun _ => exec_burstRearmEnd ..⟩
  | phaseOcTrip => exact ⟨_, fun _ => exec_phaseOcTrip ..⟩
  | phaseOcRelease => exact ⟨_, fun _ => exec_phaseOcRelease ..⟩
  | phaseFault => exact ⟨_, fun _ => exec_phaseFault ..⟩
  | phaseHot => exact ⟨_, fun _ => exec_phaseHot ..⟩
  | phaseImbalance => exact ⟨_, fun _ => exec_phaseImbalance ..⟩
  | phcRetiredWrite => exact ⟨_, fun _ => exec_phcRetiredWrite ..⟩
  | seqStart => exact ⟨_, fun _ => exec_seqStart ..⟩
  | seqStop => exact ⟨_, fun _ => exec_seqStop ..⟩
  | busSettleDone => exact ⟨_, fun _ => exec_busSettleDone ..⟩
  | busStartFail => exact ⟨_, fun _ => exec_busStartFail ..⟩
  | seqSlotStart => exact ⟨_, fun _ => exec_seqSlotStart ..⟩
  | railProbeDone => exact ⟨_, fun _ => exec_railProbeDone ..⟩
  | railPowerGood => exact ⟨_, fun _ => exec_railPowerGood ..⟩
  | railPgTimeout => exact ⟨_, fun _ => exec_railPgTimeout ..⟩
  | railPrebiasHigh => exact ⟨_, fun _ => exec_railPrebiasHigh ..⟩
  | railShortStart => exact ⟨_, fun _ => exec_railShortStart ..⟩
  | railStartStall => exact ⟨_, fun _ => exec_railStartStall ..⟩
  | railOv => exact ⟨_, fun _ => exec_railOv ..⟩
  | railStopDone => exact ⟨_, fun _ => exec_railStopDone ..⟩
  | pwrFailNFall => exact ⟨_, fun _ => exec_pwrFailNFall ..⟩
  | quickStopRailOff => exact ⟨_, fun _ => exec_quickStopRailOff ..⟩
  | pwrFailNRise => exact ⟨_, fun _ => exec_pwrFailNRise ..⟩
  | latchClear => exact ⟨_, fun _ => exec_latchClear ..⟩
  | protectiveLowering => exact ⟨_, fun _ => exec_protectiveLowering ..⟩
  | limitUnmet => exact ⟨_, fun _ => exec_limitUnmet ..⟩
  | lgvDutyStep => exact ⟨_, fun _ => exec_lgvDutyStep ..⟩
  | capUnattainable => exact ⟨_, fun _ => exec_capUnattainable ..⟩
  | thermLimWrite => exact ⟨_, fun _ => exec_thermLimWrite ..⟩
  | thermalRise => exact ⟨_, fun _ => exec_thermalRise ..⟩
  | tmgFwRound => exact ⟨_, fun _ => exec_tmgFwRound ..⟩
  | sensorSuspect => exact ⟨_, fun _ => exec_sensorSuspect ..⟩
  | tmgSensorTrusted => exact ⟨_, fun _ => exec_tmgSensorTrusted ..⟩
  | thermalFloor => exact ⟨_, fun _ => exec_thermalFloor ..⟩
  | suspectSetWrite => exact ⟨_, fun _ => exec_suspectSetWrite ..⟩
  | suspectClearWrite => exact ⟨_, fun _ => exec_suspectClearWrite ..⟩
  | tripComparator => exact ⟨_, fun _ => exec_tripComparator ..⟩
  | tripComparatorRelease => exact ⟨_, fun _ => exec_tripComparatorRelease ..⟩
  | balRoundBegin => exact ⟨_, fun _ => exec_balRoundBegin ..⟩
  | balFrameReceived => exact ⟨_, fun _ => exec_balFrameReceived ..⟩
  | balOutcome => exact ⟨_, fun _ => exec_balOutcome ..⟩
  | sidebandRecordReceived => exact ⟨_, fun _ => exec_sidebandRecordReceived ..⟩
  | sbCounterEnd => exact ⟨_, fun _ => exec_sbCounterEnd ..⟩
  | sbKeyGraceEnd => exact ⟨_, fun _ => exec_sbKeyGraceEnd ..⟩
  | restEnter => exact ⟨_, fun _ => exec_restEnter ..⟩
  | restWake => exact ⟨_, fun _ => exec_restWake ..⟩
  | restExit => exact ⟨_, fun _ => exec_restExit ..⟩
  | srConfirmed => exact ⟨_, fun _ => exec_srConfirmed ..⟩
  | restSrTimeout => exact ⟨_, fun _ => exec_restSrTimeout ..⟩
  | staWake => exact ⟨_, fun _ => exec_staWake ..⟩
  | enterSafe => exact ⟨_, fun _ => exec_enterSafe ..⟩
  | safeStateEnter => exact ⟨_, fun _ => exec_safeStateEnter ..⟩
  | blockRestart => exact ⟨_, fun _ => exec_blockRestart ..⟩
  | chipReset => exact ⟨_, fun _ => exec_chipReset ..⟩
  | moduleReset => exact ⟨_, fun _ => exec_moduleReset ..⟩
  | moduleResetRelease => exact ⟨_, fun _ => exec_moduleResetRelease ..⟩
  | coldStart => exact ⟨_, fun _ => exec_coldStart ..⟩
  | pufReconstruct => exact ⟨_, fun _ => exec_pufReconstruct ..⟩
  | wdtKick => exact ⟨_, fun _ => exec_wdtKick ..⟩
  | wdtExpiry => exact ⟨_, fun _ => exec_wdtExpiry ..⟩
  | mainCoreStart => exact ⟨_, fun _ => exec_mainCoreStart ..⟩
  | helperLoad => exact ⟨_, fun _ => exec_helperLoad ..⟩
  | componentCheckIn => exact ⟨_, fun _ => exec_componentCheckIn ..⟩
  | fwComponentHang => exact ⟨_, fun _ => exec_fwComponentHang ..⟩
  | fwMpuViolation => exact ⟨_, fun _ => exec_fwMpuViolation ..⟩
  | fwCoreException => exact ⟨_, fun _ => exec_fwCoreException ..⟩
  | fwComponentRestart => exact ⟨_, fun _ => exec_fwComponentRestart ..⟩
  | fwRestartLimit => exact ⟨_, fun _ => exec_fwRestartLimit ..⟩
  | hostAlive => exact ⟨_, fun _ => exec_hostAlive ..⟩
  | hostAbsent => exact ⟨_, fun _ => exec_hostAbsent ..⟩
  | hostAttach => exact ⟨_, fun _ => exec_hostAttach ..⟩
  | logEntry => exact ⟨_, fun _ => exec_logEntry ..⟩
  | logMirrorCopy => exact ⟨_, fun _ => exec_logMirrorCopy ..⟩
  | ringEnable => exact ⟨_, fun _ => exec_ringEnable ..⟩
  | ringDisable => exact ⟨_, fun _ => exec_ringDisable ..⟩
  | ringReset => exact ⟨_, fun _ => exec_ringReset ..⟩
  | ringDoorbell => exact ⟨_, fun _ => exec_ringDoorbell ..⟩
  | cqHeadWrite => exact ⟨_, fun _ => exec_cqHeadWrite ..⟩
  | gateOpen => exact ⟨_, fun _ => exec_gateOpen ..⟩
  | gateClose => exact ⟨_, fun _ => exec_gateClose ..⟩
  | taggedPacketResume => exact ⟨_, fun _ => exec_taggedPacketResume ..⟩
  | taggedCompletion => exact ⟨_, fun _ => exec_taggedCompletion ..⟩
  | blockFetchDone => exact ⟨_, fun _ => exec_blockFetchDone ..⟩
  | nop => exact ⟨_, fun _ => exec_nop ..⟩
  | regWrite => exact ⟨_, fun _ => exec_regWrite ..⟩
  | regRead => exact ⟨_, fun _ => exec_regRead ..⟩
  | mark => exact ⟨_, fun _ => exec_mark ..⟩
  | jobAttach => exact ⟨_, fun _ => exec_jobAttach ..⟩
  | jobDetach => exact ⟨_, fun _ => exec_jobDetach ..⟩
  | setCap => exact ⟨_, fun _ => exec_setCap ..⟩
  | getCapState => exact ⟨_, fun _ => exec_getCapState ..⟩
  | planSegmentBlock => exact ⟨_, fun _ => exec_planSegmentBlock ..⟩
  | planStop => exact ⟨_, fun _ => exec_planStop ..⟩
  | programBlock => exact ⟨_, fun _ => exec_programBlock ..⟩
  | sbKeyInstall => exact ⟨_, fun _ => exec_sbKeyInstall ..⟩
  | logKeyRotate => exact ⟨_, fun _ => exec_logKeyRotate ..⟩
  | confMode => exact ⟨_, fun _ => exec_confMode ..⟩
  | partitionAssign => exact ⟨_, fun _ => exec_partitionAssign ..⟩
  | scrubBegin => exact ⟨_, fun _ => exec_scrubBegin ..⟩
  | scrubEnd => exact ⟨_, fun _ => exec_scrubEnd ..⟩
  | updateBlock => exact ⟨_, fun _ => exec_updateBlock ..⟩
  | updFullCheckDone => exact ⟨_, fun _ => exec_updFullCheckDone ..⟩
  | updateActivate => exact ⟨_, fun _ => exec_updateActivate ..⟩
  | updateConfirm => exact ⟨_, fun _ => exec_updateConfirm ..⟩
  | updateAbort => exact ⟨_, fun _ => exec_updateAbort ..⟩
  | evrWatch => exact ⟨_, fun _ => exec_evrWatch ..⟩
  | evrFlush => exact ⟨_, fun _ => exec_evrFlush ..⟩
  | faultPolicy => exact ⟨_, fun _ => exec_faultPolicy ..⟩
  | mbxWrite => exact ⟨_, fun _ => exec_mbxWrite ..⟩
  | mbxRead => exact ⟨_, fun _ => exec_mbxRead ..⟩
  | ping => exact ⟨_, fun _ => exec_ping ..⟩
  | generation => exact ⟨_, fun _ => exec_generation ..⟩
  | state => exact ⟨_, fun _ => exec_state ..⟩
  | mbxUnknownRequest => exact ⟨_, fun _ => exec_mbxUnknownRequest ..⟩
  | evrRecordPost => exact ⟨_, fun _ => exec_evrRecordPost ..⟩
  | evrEpochPeriodic => exact ⟨_, fun _ => exec_evrEpochPeriodic ..⟩
  | watchSnapshot => exact ⟨_, fun _ => exec_watchSnapshot ..⟩
  | evrFlushDone => exact ⟨_, fun _ => exec_evrFlushDone ..⟩
  | flushMinEnd => exact ⟨_, fun _ => exec_flushMinEnd ..⟩
  | eraseAhead => exact ⟨_, fun _ => exec_eraseAhead ..⟩
  | hoursSave => exact ⟨_, fun _ => exec_hoursSave ..⟩
  | faultMessage => exact ⟨_, fun _ => exec_faultMessage ..⟩
  | severeClear => exact ⟨_, fun _ => exec_severeClear ..⟩
  | flcSelfFault => exact ⟨_, fun _ => exec_flcSelfFault ..⟩
  | flcInject => exact ⟨_, fun _ => exec_flcInject ..⟩
  | hbKick => exact ⟨_, fun _ => exec_hbKick ..⟩
  | hbToggle => exact ⟨_, fun _ => exec_hbToggle ..⟩
  | hbTimeout => exact ⟨_, fun _ => exec_hbTimeout ..⟩
  | kxNew => exact ⟨_, fun _ => exec_kxNew ..⟩
  | kxReady => exact ⟨_, fun _ => exec_kxReady ..⟩
  | logMigrateGranule => exact ⟨_, fun _ => exec_logMigrateGranule ..⟩
  | evrWinFlashRead => exact ⟨_, fun _ => exec_evrWinFlashRead ..⟩
  | actDecision => exact ⟨_, fun _ => exec_actDecision ..⟩
  | actSlot => exact ⟨_, fun _ => exec_actSlot ..⟩
  | updHandover => exact ⟨_, fun _ => exec_updHandover ..⟩
  | autoConfirm => exact ⟨_, fun _ => exec_autoConfirm ..⟩
  | trialExpiry => exact ⟨_, fun _ => exec_trialExpiry ..⟩
  | pmbusTableRefresh => exact ⟨_, fun _ => exec_pmbusTableRefresh ..⟩
  | page => exact ⟨_, fun _ => exec_page ..⟩
  | clearFaults => exact ⟨_, fun _ => exec_clearFaults ..⟩
  | capability => exact ⟨_, fun _ => exec_capability ..⟩
  | voutMode => exact ⟨_, fun _ => exec_voutMode ..⟩
  | statusByte => exact ⟨_, fun _ => exec_statusByte ..⟩
  | statusWord => exact ⟨_, fun _ => exec_statusWord ..⟩
  | statusVout => exact ⟨_, fun _ => exec_statusVout ..⟩
  | statusIout => exact ⟨_, fun _ => exec_statusIout ..⟩
  | statusInput => exact ⟨_, fun _ => exec_statusInput ..⟩
  | statusTemperature => exact ⟨_, fun _ => exec_statusTemperature ..⟩
  | statusCml => exact ⟨_, fun _ => exec_statusCml ..⟩
  | statusMfrSpecific => exact ⟨_, fun _ => exec_statusMfrSpecific ..⟩
  | readVin => exact ⟨_, fun _ => exec_readVin ..⟩
  | readIin => exact ⟨_, fun _ => exec_readIin ..⟩
  | readVout => exact ⟨_, fun _ => exec_readVout ..⟩
  | readIout => exact ⟨_, fun _ => exec_readIout ..⟩
  | readTemperature1 => exact ⟨_, fun _ => exec_readTemperature1 ..⟩
  | readTemperature2 => exact ⟨_, fun _ => exec_readTemperature2 ..⟩
  | readTemperature3 => exact ⟨_, fun _ => exec_readTemperature3 ..⟩
  | readPout => exact ⟨_, fun _ => exec_readPout ..⟩
  | readPin => exact ⟨_, fun _ => exec_readPin ..⟩
  | pmbusRevision => exact ⟨_, fun _ => exec_pmbusRevision ..⟩
  | mfrId => exact ⟨_, fun _ => exec_mfrId ..⟩
  | mfrModel => exact ⟨_, fun _ => exec_mfrModel ..⟩
  | mfrRevision => exact ⟨_, fun _ => exec_mfrRevision ..⟩
  | mfrSerial => exact ⟨_, fun _ => exec_mfrSerial ..⟩
  | mfrReadEnergy => exact ⟨_, fun _ => exec_mfrReadEnergy ..⟩
  | mfrBusAddr => exact ⟨_, fun _ => exec_mfrBusAddr ..⟩
  | mfrBusData => exact ⟨_, fun _ => exec_mfrBusData ..⟩
  | pmbusInvalidCommand => exact ⟨_, fun _ => exec_pmbusInvalidCommand ..⟩
  | pmbusSclTimeout => exact ⟨_, fun _ => exec_pmbusSclTimeout ..⟩
  | smbusAlertResponse => exact ⟨_, fun _ => exec_smbusAlertResponse ..⟩
  | vaonRestored => exact ⟨_, fun _ => exec_vaonRestored ..⟩
  | refclkStop => exact ⟨_, fun _ => exec_refclkStop ..⟩
  | refclkResume => exact ⟨_, fun _ => exec_refclkResume ..⟩

end Sys2Proof.Machine
end

