-- ==== Sys2Proof/Laws/Kept.lean ====
section
/-! SUPPORT. What every effect keeps: the instant, the queue, and the canonical form of the register table and of every RAM. This file
has the predicate and its rules for the stores; the files Kept*.lean have one lemma per operation of the model. -/

namespace Sys2Proof.Machine

theorem regsWf_iff (m : Assoc Nat) : regsWf m = true ↔ aSortedFrom none m = true ∧ ∀ e ∈ m, e.2 ≠ resetAt e.1 := by
  simp [regsWf]

theorem regsWf_aPut (m : Assoc Nat) (k v : Nat) (h : regsWf m = true) : regsWf (aPut (resetAt k) m k v) = true := by
  rw [regsWf_iff] at h ⊢
  unfold aPut
  split
  · exact ⟨aSortedFrom_aDel k h.1, fun e he => h.2 e (aDel_mem he).1⟩
  · refine ⟨aSortedFrom_aIns k v h.1 (by simp), fun e he => ?_⟩
    rcases aIns_mem he with h' | h'
    · subst h'; assumption
    · exact h.2 e h'

theorem regsWf_aDel (m : Assoc Nat) (k : Nat) (h : regsWf m = true) : regsWf (aDel m k) = true := by
  rw [regsWf_iff] at h ⊢
  exact ⟨aSortedFrom_aDel k h.1, fun e he => h.2 e (aDel_mem he).1⟩

theorem regsWf_filter (p : Nat × Nat → Bool) (m : Assoc Nat) (h : regsWf m = true) : regsWf (m.filter p) = true := by
  rw [regsWf_iff] at h ⊢
  exact ⟨aSortedFrom_filter p h.1, fun e he => h.2 e (List.mem_of_mem_filter he)⟩

theorem regsWf_foldl {β : Type} (g : Assoc Nat → β → Assoc Nat) (hg : ∀ m x, regsWf m = true → regsWf (g m x) = true) (l : List β) (m :
    Assoc Nat)
    (hm : regsWf m = true) : regsWf (l.foldl g m) = true := by
  induction l generalizing m with
  | nil => exact hm
  | cons x r ih => exact ih _ (hg m x hm)

/-- Every image of a table is in canonical form. -/
def ImagesOk (m : Assoc Image) : Prop := ∀ e ∈ m, memWf e.2.bytes = true

/-- Every transfer in progress holds its bytes in canonical form. -/
def XfersOk (m : Assoc Xfer) : Prop := ∀ e ∈ m, memWf e.2.buf = true

theorem imagesOk_nil : ImagesOk [] := by intro e h; cases h

theorem xfersOk_nil : XfersOk [] := by intro e h; cases h

theorem imagesOk_aIns {m : Assoc Image} (k : Nat) (x : Image) (hx : memWf x.bytes = true) (h : ImagesOk m) : ImagesOk (aIns m k x) := by
  intro e he; rcases aIns_mem he with h' | h'
  · subst h'; exact hx
  · exact h e h'

theorem imagesOk_aDel {m : Assoc Image} (k : Nat) (h : ImagesOk m) : ImagesOk (aDel m k) := fun e he => h e (aDel_mem he).1

theorem xfersOk_aIns {m : Assoc Xfer} (k : Nat) (x : Xfer) (hx : memWf x.buf = true) (h : XfersOk m) : XfersOk (aIns m k x) := by
  intro e he; rcases aIns_mem he with h' | h'
  · subst h'; exact hx
  · exact h e h'

theorem xfersOk_aDel {m : Assoc Xfer} (k : Nat) (h : XfersOk m) : XfersOk (aDel m k) := fun e he => h e (aDel_mem he).1

theorem xfersOk_filter {m : Assoc Xfer} (p : Nat × Xfer → Bool) (h : XfersOk m) : XfersOk (m.filter p) := fun e he => h e
    (List.mem_of_mem_filter he)

theorem aFind_mem {α : Type} {m : Assoc α} {k : Nat} {x : α} (h : aFind m k = some x) : (k, x) ∈ m := by
  induction m with
  | nil => simp [aFind] at h
  | cons e r ih =>
    obtain ⟨j, v⟩ := e
    unfold aFind at h
    split at h
    · cases h; subst j; exact List.mem_cons_self
    · exact List.mem_cons_of_mem _ (ih h)

theorem imagesOk_find {m : Assoc Image} {k : Nat} {x : Image} (h : ImagesOk m) (hf : aFind m k = some x) : memWf x.bytes = true := h _
    (aFind_mem hf)

theorem xfersOk_find {m : Assoc Xfer} {k : Nat} {x : Xfer} (h : XfersOk m) (hf : aFind m k = some x) : memWf x.buf = true := h _ (aFind_mem
    hf)

/-- What is named of the queue and of time: the commands that wait, and a property of the time record. -/
abbrev Instant := List Instr × (TimeState → Prop)

/-- What every effect keeps: what `b` names of the queue and of time; the canonical form of the register table and of every RAM. An effect
that changes the time record itself keeps it where the property allows that change. -/
structure Kept (b : Instant) (s : State) : Prop where
  base : s.pending = b.1
  time : b.2 s.time
  regs : regsWf s.regs = true
  plan : memWf s.psq.mem = true
  sig : memWf s.psq.sigBlock = true
  pxe : memWf s.pxe.mem = true
  win : memWf s.cmd.win = true
  log : memWf s.fw.log = true
  buf : memWf s.evr.buf = true
  part : memWf s.evr.log = true
  img : memWf s.upd.buf = true
  slots : ImagesOk s.upd.slots
  xfers : XfersOk s.cmd.xfers

theorem foldl_kept {b} {α : Type} {g : State → α → State} {l : List α} {s : State} (hg : ∀ t x, Kept b t → Kept b (g t x)) (h : Kept b s) :
    Kept b (l.foldl g s) := by
  induction l generalizing s with
  | nil => exact h
  | cons x r ih => exact ih (hg _ _ h)

section
variable {b : Instant} {s : State}

/-- `Kept` of a state written out field by field: a form that only a record update takes. -/
def KeptMk (b : Instant) (pending : List Instr) (f : Nat) (t : TimeState) (r : Assoc Nat) (b0 : Assoc Nat) (c : Assoc Nat) (ca : Nat)
    (d : Assoc PendVal) (e : Assoc PendVal) (h0 : Assoc PendVal) (i : List Act) (j : BusState) (k : List Arrival) (l : Assoc Nat) (m : Nat)
    (n : Nat) (x1 : SnsState) (x2 : EstState) (psq : PsqState) (x3 : DrgState) (x4 : PhcState) (x5 : LgvState) (x6 : TmgState) (x7 :
    StaState) (pxe : PxeState) (x8 : BalState) (fw : FwState) (cmd : CmdState) (evr : EvrState) (x9 : FlcState) (y1 : SecState) (upd :
    UpdState) (y2 : PmbState) : Prop :=
  Kept b ⟨pending, f, t, r, b0, c, ca, d, e, h0, i, j, k, l, m, n, x1, x2, psq, x3, x4, x5, x6, x7, pxe, x8, fw, cmd, evr, x9, y1, upd, y2⟩

theorem kept_mk_eq {pending f t r b0 c ca d e h0 i j k l m n x1 x2 psq x3 x4 x5 x6 x7 pxe x8 fw cmd evr x9 y1 upd y2} : Kept b ⟨pending, f, t,
    r, b0, c, ca, d, e, h0, i, j, k, l, m, n, x1, x2, psq, x3, x4, x5, x6, x7, pxe, x8, fw, cmd, evr, x9, y1, upd, y2⟩ = KeptMk b pending f t r
    b0 c ca d e h0 i j k l m n x1 x2 psq x3 x4 x5 x6 x7 pxe x8 fw cmd evr x9 y1 upd y2 := rfl

theorem mk_kept {f b0 c ca d e h0 i j k l m n x1 x2 x3 x4 x5 x6 x7 x8 x9 y1 y2}  (h : Kept b s) : KeptMk b s.pending f s.time s.regs b0 c ca d e
    h0 i j k l m n x1 x2 s.psq x3 x4 x5 x6 x7 s.pxe x8 s.fw s.cmd s.evr x9 y1 s.upd y2 :=
  ⟨h.base, h.time, h.regs, h.plan, h.sig, h.pxe, h.win, h.log, h.buf, h.part, h.img, h.slots, h.xfers⟩

theorem mk_time_kept {f b0 c ca d e h0 i j k l m n x1 x2 x3 x4 x5 x6 x7 x8 x9 y1 y2} {t : TimeState} (h : Kept b s) (h1 : b.2 t) : KeptMk b s.pending f t s.regs b0 c ca d e h0 i j k l m n x1 x2 s.psq x3 x4 x5 x6 x7 s.pxe x8 s.fw s.cmd
    s.evr x9 y1 s.upd y2 :=
  ⟨h.base, h1, h.regs, h.plan, h.sig, h.pxe, h.win, h.log, h.buf, h.part, h.img, h.slots, h.xfers⟩

theorem mk_regs_kept {f b0 c ca d e h0 i j k l m n x1 x2 x3 x4 x5 x6 x7 x8 x9 y1 y2} {r : Assoc Nat} (h : Kept b s) (h1 : regsWf r = true) :
    KeptMk b s.pending f s.time r b0 c ca d e h0 i j k l m n x1 x2 s.psq x3 x4 x5 x6 x7 s.pxe x8 s.fw s.cmd s.evr x9 y1 s.upd y2 :=
  ⟨h.base, h.time, h1, h.plan, h.sig, h.pxe, h.win, h.log, h.buf, h.part, h.img, h.slots, h.xfers⟩

theorem mk_psq_kept {f b0 c ca d e h0 i j k l m n x1 x2 x3 x4 x5 x6 x7 x8 x9 y1 y2} {psq : PsqState} (h : Kept b s) (h1 : memWf psq.mem =
    true) (h2 : memWf psq.sigBlock = true) : KeptMk b s.pending f s.time s.regs b0 c ca d e h0 i j k l m n x1 x2 psq x3 x4 x5 x6 x7 s.pxe x8
    s.fw s.cmd s.evr x9 y1 s.upd y2 :=
  ⟨h.base, h.time, h.regs, h1, h2, h.pxe, h.win, h.log, h.buf, h.part, h.img, h.slots, h.xfers⟩

theorem mk_pxe_kept {f b0 c ca d e h0 i j k l m n x1 x2 x3 x4 x5 x6 x7 x8 x9 y1 y2} {pxe : PxeState} (h : Kept b s) (h1 : memWf pxe.mem =
    true) : KeptMk b s.pending f s.time s.regs b0 c ca d e h0 i j k l m n x1 x2 s.psq x3 x4 x5 x6 x7 pxe x8 s.fw s.cmd s.evr x9 y1 s.upd y2 :=
  ⟨h.base, h.time, h.regs, h.plan, h.sig, h1, h.win, h.log, h.buf, h.part, h.img, h.slots, h.xfers⟩

theorem mk_cmd_kept {f b0 c ca d e h0 i j k l m n x1 x2 x3 x4 x5 x6 x7 x8 x9 y1 y2} {cmd : CmdState} (h : Kept b s) (h1 : memWf cmd.win =
    true) (h2 : XfersOk cmd.xfers) : KeptMk b s.pending f s.time s.regs b0 c ca d e h0 i j k l m n x1 x2 s.psq x3 x4 x5 x6 x7 s.pxe x8 s.fw
    cmd s.evr x9 y1 s.upd y2 :=
  ⟨h.base, h.time, h.regs, h.plan, h.sig, h.pxe, h1, h.log, h.buf, h.part, h.img, h.slots, h2⟩

theorem mk_fw_kept {f b0 c ca d e h0 i j k l m n x1 x2 x3 x4 x5 x6 x7 x8 x9 y1 y2} {fw : FwState} (h : Kept b s) (h1 : memWf fw.log = true) :
    KeptMk b s.pending f s.time s.regs b0 c ca d e h0 i j k l m n x1 x2 s.psq x3 x4 x5 x6 x7 s.pxe x8 fw s.cmd s.evr x9 y1 s.upd y2 :=
  ⟨h.base, h.time, h.regs, h.plan, h.sig, h.pxe, h.win, h1, h.buf, h.part, h.img, h.slots, h.xfers⟩

theorem mk_evr_kept {f b0 c ca d e h0 i j k l m n x1 x2 x3 x4 x5 x6 x7 x8 x9 y1 y2} {evr : EvrState} (h : Kept b s) (h1 : memWf evr.buf =
    true) (h2 : memWf evr.log = true) : KeptMk b s.pending f s.time s.regs b0 c ca d e h0 i j k l m n x1 x2 s.psq x3 x4 x5 x6 x7 s.pxe x8 s.fw
    s.cmd evr x9 y1 s.upd y2 :=
  ⟨h.base, h.time, h.regs, h.plan, h.sig, h.pxe, h.win, h.log, h1, h2, h.img, h.slots, h.xfers⟩

theorem mk_upd_kept {f b0 c ca d e h0 i j k l m n x1 x2 x3 x4 x5 x6 x7 x8 x9 y1 y2} {upd : UpdState} (h : Kept b s) (h1 : memWf upd.buf =
    true) (h2 : ImagesOk upd.slots) : KeptMk b s.pending f s.time s.regs b0 c ca d e h0 i j k l m n x1 x2 s.psq x3 x4 x5 x6 x7 s.pxe x8 s.fw
    s.cmd s.evr x9 y1 upd y2 :=
  ⟨h.base, h.time, h.regs, h.plan, h.sig, h.pxe, h.win, h.log, h.buf, h.part, h1, h2, h.xfers⟩

theorem mk_all_kept {f b0 c ca d e h0 i j k l m n x1 x2 x3 x4 x5 x6 x7 x8 x9 y1 y2} {t : TimeState} {r : Assoc Nat} {psq : PsqState} {pxe :
    PxeState} {fw : FwState} {cmd : CmdState} {evr : EvrState} {upd : UpdState} (h : Kept b s) (h1 : b.2 t) (h2 : regsWf r = true) (h3 : memWf psq.mem = true) (h4 : memWf psq.sigBlock = true) (h5 : memWf pxe.mem = true) (h6 :
    memWf cmd.win = true) (h7 : memWf fw.log = true) (h8 : memWf evr.buf = true) (h9 : memWf evr.log = true) (h10 : memWf upd.buf = true)
    (h11 : ImagesOk upd.slots) (h12 : XfersOk cmd.xfers) : KeptMk b s.pending f t r b0 c ca d e h0 i j k l m n x1 x2 psq x3 x4 x5 x6 x7 pxe x8
    fw cmd evr x9 y1 upd y2 :=
  ⟨h.base, h1, h2, h3, h4, h5, h6, h7, h8, h9, h10, h11, h12⟩

theorem ite_kept {c : Prop} [Decidable c] {x y : State} (hx : Kept b x) (hy : Kept b y) : Kept b (if c then x else y) := by
  split <;> assumption

theorem kept_time (h : Kept b s) : b.2 s.time := h.time

theorem kept_plan (h : Kept b s) : memWf s.psq.mem = true := h.plan

theorem kept_sig (h : Kept b s) : memWf s.psq.sigBlock = true := h.sig

theorem kept_pxe (h : Kept b s) : memWf s.pxe.mem = true := h.pxe

theorem kept_win (h : Kept b s) : memWf s.cmd.win = true := h.win

theorem kept_log (h : Kept b s) : memWf s.fw.log = true := h.log

theorem kept_buf (h : Kept b s) : memWf s.evr.buf = true := h.buf

theorem kept_part (h : Kept b s) : memWf s.evr.log = true := h.part

theorem kept_img (h : Kept b s) : memWf s.upd.buf = true := h.img

theorem kept_slots (h : Kept b s) : ImagesOk s.upd.slots := h.slots

theorem kept_xfers (h : Kept b s) : XfersOk s.cmd.xfers := h.xfers

theorem kept_regs (h : Kept b s) : regsWf s.regs = true := h.regs

theorem memWf_nil : memWf [] = true := rfl

theorem setPxe_kept {p : PxeState} (h : Kept b s) (hp : memWf p.mem = true) : Kept b (setPxe p s) :=
  ⟨h.base, h.time, h.regs, h.plan, h.sig, hp, h.win, h.log, h.buf, h.part, h.img, h.slots, h.xfers⟩

theorem setFw_kept {p : FwState} (h : Kept b s) (hp : memWf p.log = true) : Kept b (setFw p s) :=
  ⟨h.base, h.time, h.regs, h.plan, h.sig, h.pxe, h.win, hp, h.buf, h.part, h.img, h.slots, h.xfers⟩

theorem setCmd_kept {p : CmdState} (h : Kept b s) (hp : memWf p.win = true) (hx : XfersOk p.xfers) : Kept b (setCmd p s) :=
  ⟨h.base, h.time, h.regs, h.plan, h.sig, h.pxe, hp, h.log, h.buf, h.part, h.img, h.slots, hx⟩

theorem setEvr_kept {p : EvrState} (h : Kept b s) (hp : memWf p.buf = true) (hx : memWf p.log = true) : Kept b (setEvr p s) :=
  ⟨h.base, h.time, h.regs, h.plan, h.sig, h.pxe, h.win, h.log, hp, hx, h.img, h.slots, h.xfers⟩

theorem setUpd_kept {p : UpdState} (h : Kept b s) (hp : memWf p.buf = true) (hx : ImagesOk p.slots) : Kept b (setUpd p s) :=
  ⟨h.base, h.time, h.regs, h.plan, h.sig, h.pxe, h.win, h.log, h.buf, h.part, hp, hx, h.xfers⟩

theorem setF_kept {f : Fld} {v : Nat} (h : Kept b s) : Kept b (setF s f v) :=
  ⟨h.base, h.time, regsWf_aPut _ _ _ h.regs, h.plan, h.sig, h.pxe, h.win, h.log, h.buf, h.part, h.img, h.slots, h.xfers⟩

theorem forceKey_kept {k v : Nat} (h : Kept b s) : Kept b (forceKey k v s) :=
  ⟨h.base, h.time, regsWf_aPut _ _ _ h.regs, h.plan, h.sig, h.pxe, h.win, h.log, h.buf, h.part, h.img, h.slots, h.xfers⟩

theorem keepRegs_kept {p : Nat → Bool} (h : Kept b s) : Kept b (keepRegs p s) :=
  ⟨h.base, h.time, regsWf_filter _ _ h.regs, h.plan, h.sig, h.pxe, h.win, h.log, h.buf, h.part, h.img, h.slots, h.xfers⟩
end

/-- `Kept` of a state that may be absent. -/
def KeptO (b : Instant) (o : Option State) : Prop := ∀ t, o = some t → Kept b t

theorem keptO_none {b} : KeptO b none := by intro t h; cases h

theorem keptO_some {b} {s : State} (h : Kept b s) : KeptO b (some s) := by intro t e; cases e; exact h

theorem runDesc_mem (slot : Nat) (i : Nat) (d : Desc) (r : PRun) (h : memWf r.mem = true) : memWf (runDesc slot i d r).mem = true := by
  have hw : ∀ (g : Env) (m : Mem) (e : Nat × KOut), memWf m = true → memWf (wrElem g m e) = true := by
    intro g m e hm
    unfold wrElem
    split
    · exact memWf_memPut _ _ _ hm
    · exact memWf_memPutLE _ _ _ _ hm
  unfold runDesc
  dsimp only
  split
  · exact memWf_foldl _ (fun m x hm => memWf_memPutLE _ _ _ _ hm) _ _ (memWf_foldl _ (fun m x hm => hw _ m x hm) _ _ h)
  · exact memWf_foldl _ (fun m x hm => hw _ m x hm) _ _ h

theorem runFrom_mem (slot : Nat) (prog : Mem) (n i : Nat) (r : PRun) (h : memWf r.mem = true) :
    memWf (runFrom slot prog n i r).mem = true := by
  induction n generalizing i r with
  | zero => exact h
  | succ n ih =>
    unfold runFrom
    dsimp only
    split
    · exact h
    · exact ih _ _ (runDesc_mem slot i _ r h)

theorem runProg_mem {b} {s : State} (slot n : Nat) (h : Kept b s) : memWf (runProg s slot n).mem = true := runFrom_mem _ _ _ _ _ h.pxe

theorem memWf_foldl_fst {β γ : Type} (g : Mem × γ → β → Mem × γ) (hg : ∀ a x, memWf a.1 = true → memWf (g a x).1 = true) (l : List β) (a :
    Mem × γ)
    (ha : memWf a.1 = true) : memWf (l.foldl g a).1 = true := by
  induction l generalizing a with
  | nil => exact ha
  | cons x r ih => exact ih _ (hg a x ha)

theorem placeImage_mem (m : Mem) (slot : Nat) (mem : Mem) (h : memWf mem = true) : memWf (placeImage m slot mem) = true := by
  unfold placeImage
  exact memWf_foldl_fst _ (fun a x ha => memWf_memPut _ _ _ ha) _ _ (memWf_memPut _ _ _ (memWf_memPut _ _ _ (memWf_memZero _ _ _ h)))

theorem balInputs_mem (own : Nat) (r : BalRound) (mem : Mem) (h : memWf mem = true) : memWf (balInputs own r mem) = true := by
  unfold balInputs putF32
  repeat' (first | exact h | apply memWf_foldl | (intro m x hm) | apply memWf_memPutLE | apply memWf_memZero | assumption | split | dsimp
    only)

theorem reset_planmem : memWf PsqState.reset.mem = true := rfl

theorem reset_sig : memWf PsqState.reset.sigBlock = true := rfl

theorem reset_pxe : memWf PxeState.reset.mem = true := rfl

theorem reset_win : memWf CmdState.reset.win = true := rfl

theorem reset_xfers : XfersOk CmdState.reset.xfers := xfersOk_nil

theorem reset_log : memWf FwState.reset.log = true := rfl

theorem reset_img : memWf UpdState.reset.buf = true := rfl

theorem xferOf_mem {b} {s : State} {t : Nat} {x : Xfer} (h : Kept b s) (hf : xferOf s t = some x) : memWf x.buf = true := xfersOk_find
    h.xfers hf

theorem imageIn_mem {b} {s : State} {k j : Nat} {x : Image} (h : Kept b s) (hf : imageIn s k j = some x) : memWf x.bytes = true :=
    imagesOk_find h.slots hf

theorem setXfer_kept {b} {s : State} {t : Nat} {x : Xfer} (h : Kept b s) (hx : memWf x.buf = true) : Kept b (setXfer t x s) :=
  setCmd_kept h h.win (xfersOk_aIns t x hx h.xfers)

theorem kept_of_fst {α : Type} {b} {p : State × α} {t : State} {x : α} (hp : p = (t, x)) (h : Kept b p.1) : Kept b t := by subst hp; exact h

theorem memPut_nil (l : List Nat) (a : Nat) : memWf (memPut [] a l) = true := memWf_memPut l [] a rfl

end Sys2Proof.Machine
end

