-- ==== Sys2Proof/Laws/KeptRails.lean ====
section
/-! SUPPORT. One lemma per operation: it keeps what `Kept` says. Here the shared operations, waiting values, firmware, droop guard, phases and rails. -/

namespace Sys2Proof.Machine

/-! ### Ops.lean -/

theorem setB_kept {kb} {s : State} (f : Fld) (b : Bool) (hk : Kept kb s) : Kept kb (setB s f b) := by
  unfold setB
  with_reducible repeat' (first
      | assumption | apply setF_kept)

theorem injectAt_kept {kb} (checker : Nat) (word : Nat) (m : Assoc Nat) {s : State} (hk : Kept kb s) :
    Kept kb (injectAt checker word m s).1 := by
  unfold injectAt
  with_reducible repeat' (first
      | assumption | apply setF_kept | apply setB_kept | simp only [kept_mk_eq] | split)

theorem setS_kept {kb} {s : State} (f : Fld) (i : Int) (hk : Kept kb s) : Kept kb (setS s f i) := by
  unfold setS
  with_reducible repeat' (first
      | assumption | apply setF_kept)

theorem setSat_kept {kb} {s : State} (f : Fld) (v : Nat) (hk : Kept kb s) : Kept kb (setSat s f v) := by
  unfold setSat
  with_reducible repeat' (first
      | assumption | apply setF_kept)

theorem incF_kept {kb} {s : State} (f : Fld) (hk : Kept kb s) : Kept kb (incF s f) := by
  unfold incF
  with_reducible repeat' (first
      | assumption | apply setSat_kept)

theorem postRec_kept {kb} (plane : Nat) (grp : Nat) (code : Nat) (typ : Nat) (body : List Nat) {s : State} (hk : Kept kb s) :
    Kept kb (postRec plane grp code typ body s) := by
  unfold postRec
  with_reducible repeat' (first
      | assumption | apply incF_kept | simp only [kept_mk_eq] | apply mk_kept | split)

theorem eventP_kept {kb} (plane : Nat) (code : Nat) (payload : List Nat) {s : State} (hk : Kept kb s) :
    Kept kb (eventP plane code payload s) := by
  unfold eventP
  with_reducible repeat' (first
      | assumption | apply postRec_kept)

theorem setRail_kept {kb} {s : State} (k : Nat) (x : Rail) (hk : Kept kb s) : Kept kb (setRail s k x) := by
  unfold setRail
  with_reducible repeat' (first
      | assumption | simp only [kept_mk_eq] | apply mk_kept)

theorem setSatS_kept {kb} {s : State} (f : Fld) (i : Int) (hk : Kept kb s) : Kept kb (setSatS s f i) := by
  unfold setSatS
  with_reducible repeat' (first
      | assumption | apply setS_kept)

theorem setW_kept {kb} {s : State} (lo : Fld) (hi : Fld) (v : Nat) (hk : Kept kb s) : Kept kb (setW s lo hi v) := by
  unfold setW
  with_reducible repeat' (first
      | assumption | apply setF_kept)

theorem freeNext_kept {kb} {s : State} (hk : Kept kb s) : Kept kb (freeNext s) := by
  unfold freeNext
  with_reducible repeat' (first
      | assumption | simp only [kept_mk_eq] | apply mk_kept)

theorem event_kept {kb} (code : Nat) (payload : List Nat) {s : State} (hk : Kept kb s) : Kept kb (event code payload s) := by
  unfold event
  with_reducible repeat' (first
      | assumption | apply eventP_kept)

theorem sramStore_kept {kb} (w : Nat) (n : Nat) {s : State} (hk : Kept kb s) : Kept kb (sramStore w n s) := by
  unfold sramStore
  with_reducible repeat' (first
      | assumption | apply injectAt_kept | simp only [kept_mk_eq] | apply mk_cmd_kept | apply kept_win
      | apply kept_xfers)

theorem sendFaultP_kept {kb} (plane : Nat) (kind : Nat) (src : Nat) (info : Nat) {s : State} (hk : Kept kb s) :
    Kept kb (sendFaultP plane kind src info s) := by
  unfold sendFaultP
  with_reducible repeat' (first
      | assumption | apply setB_kept | simp only [kept_mk_eq] | apply mk_kept | split)

theorem sendFault_kept {kb} (kind : Nat) (src : Nat) (info : Nat) {s : State} (hk : Kept kb s) : Kept kb (sendFault kind src info s) := by
  unfold sendFault
  with_reducible repeat' (first
      | assumption | apply sendFaultP_kept)

/-! ### PlanBase.lean -/

theorem repeatBroken_kept {kb} (cause : Nat) {s : State} (hk : Kept kb s) : Kept kb (repeatBroken cause s) := by
  unfold repeatBroken
  with_reducible repeat' (first
      | assumption | apply event_kept | apply setB_kept | split)

theorem reactNote_kept {kb} (o : Nat) {s : State} (hk : Kept kb s) : Kept kb (reactNote o s) := by
  unfold reactNote
  with_reducible repeat' (first
      | assumption | simp only [kept_mk_eq] | apply mk_psq_kept | apply kept_plan | apply kept_sig | split)

theorem repeatBreaks_kept {kb} (cause : Nat) {s : State} (hk : Kept kb s) : Kept kb (repeatBreaks cause s) := by
  unfold repeatBreaks
  with_reducible repeat' (first
      | assumption | apply repeatBroken_kept | split)

/-! ### Pend.lean -/

theorem pendHw_kept {kb} (pkt : Nat) (f : Fld) (v : Nat) {s : State} (hk : Kept kb s) : Kept kb (pendHw pkt f v s) := by
  unfold pendHw
  with_reducible repeat' (first
      | assumption | simp only [kept_mk_eq] | apply mk_kept)

theorem addActNext_kept {kb} (k : ActKind) {s : State} (hk : Kept kb s) : Kept kb (addActNext k s) := by
  unfold addActNext
  with_reducible repeat' (first
      | assumption | simp only [kept_mk_eq] | apply mk_kept)

theorem landPut_kept {kb} (f : Fld) (v : Nat) {s : State} (hk : Kept kb s) : Kept kb (landPut f v s) := by
  unfold landPut
  with_reducible repeat' (first
      | assumption | simp only [kept_mk_eq] | apply mk_kept)

theorem pendPut_kept {kb} (agent : Nat) (pkt : Nat) (f : Fld) (v : Nat) {s : State} (hk : Kept kb s) :
    Kept kb (pendPut agent pkt f v s) := by
  unfold pendPut
  with_reducible repeat' (first
      | assumption | simp only [kept_mk_eq] | apply mk_kept | split)

theorem settleKey_kept {kb} (k : Nat) {s : State} (hk : Kept kb s) : Kept kb (settleKey k s) := by
  unfold settleKey
  with_reducible repeat' (first
      | assumption | simp only [kept_mk_eq] | apply mk_kept | split)

theorem takeOne_kept {kb} (now : State) (launch : Option Nat) (k : Nat) (p : PendVal) {s : State} (hk : Kept kb s) :
    Kept kb (takeOne now launch k p s) := by
  unfold takeOne
  with_reducible repeat' (first
      | assumption | apply settleKey_kept | apply forceKey_kept | apply setB_kept | simp only [kept_mk_eq]
      | split)

theorem freezeAll_kept {kb} {s : State} (hk : Kept kb s) : Kept kb (freezeAll s) := by
  unfold freezeAll
  with_reducible repeat' (first
      | assumption | simp only [kept_mk_eq] | apply mk_kept)

theorem repend_kept {kb} (k : Nat) (p : PendVal) {s : State} (hk : Kept kb s) : Kept kb (repend k p s) := by
  unfold repend
  with_reducible repeat' (first
      | assumption | simp only [kept_mk_eq] | apply mk_kept | split)

theorem swapValues_kept {kb} (launch : Option Nat) {s : State} (hk : Kept kb s) : Kept kb (swapValues launch s) := by
  unfold swapValues
  with_reducible repeat' (first
      | assumption | apply takeOne_kept | apply repend_kept | simp only [kept_mk_eq] | apply mk_kept
      | apply foldl_kept | split | (intro _))

theorem addAct_kept {kb} (k : ActKind) (step : Option Nat) (pkt : Nat) {s : State} (hk : Kept kb s) : Kept kb (addAct k step pkt s) := by
  unfold addAct
  with_reducible repeat' (first
      | assumption | simp only [kept_mk_eq] | apply mk_kept)

theorem preview_kept {kb} {s : State} (hk : Kept kb s) : Kept kb (preview s) := by
  unfold preview
  with_reducible repeat' (first
      | assumption | apply forceKey_kept | apply foldl_kept | (intro _))

theorem applyLanding_kept {kb} {s : State} (hk : Kept kb s) : Kept kb (applyLanding s) := by
  unfold applyLanding
  with_reducible repeat' (first
      | assumption | apply settleKey_kept | apply forceKey_kept | simp only [kept_mk_eq] | apply mk_kept
      | apply foldl_kept | (intro _))

theorem landAdvance_kept {kb} (dt : Nat) {s : State} (hk : Kept kb s) : Kept kb (landAdvance dt s) := by
  unfold landAdvance
  with_reducible repeat' (first
      | assumption | apply applyLanding_kept | simp only [kept_mk_eq] | apply mk_kept | split)

theorem dropPend_kept {kb} (keys : List Nat) {s : State} (hk : Kept kb s) : Kept kb (dropPend keys s) := by
  unfold dropPend
  with_reducible repeat' (first
      | assumption | apply settleKey_kept | simp only [kept_mk_eq] | apply mk_kept | apply foldl_kept
      | (intro _))

/-! ### Firmware.lean -/

theorem setComp_kept {kb} (c : Nat) (st : Nat) {s : State} (hk : Kept kb s) : Kept kb (setComp c st s) := by
  unfold setComp
  with_reducible repeat' (first
      | assumption | apply setF_kept)

theorem setComps_kept {kb} (l : List Nat) (st : Nat) {s : State} (hk : Kept kb s) : Kept kb (setComps l st s) := by
  unfold setComps
  with_reducible repeat' (first
      | assumption | apply setComp_kept | apply foldl_kept | (intro _))

theorem setCore_kept {kb} (k : Nat) (st : Nat) {s : State} (hk : Kept kb s) : Kept kb (setCore k st s) := by
  unfold setCore
  with_reducible repeat' (first
      | assumption | apply setF_kept)

theorem markRestart_kept {kb} (cause : Nat) (c : Nat) {s : State} (hk : Kept kb s) : Kept kb (markRestart cause c s) := by
  unfold markRestart
  with_reducible repeat' (first
      | assumption | apply incF_kept | apply setF_kept)

theorem noteRestart_kept {kb} (id : Nat) (cause : Nat) {s : State} (hk : Kept kb s) : Kept kb (noteRestart id cause s) := by
  unfold noteRestart
  with_reducible repeat' (first
      | assumption | apply setF_kept | apply incF_kept | apply setFw_kept | simp only [kept_mk_eq]
      | apply kept_log)

theorem wdtStop_kept {kb} {s : State} (hk : Kept kb s) : Kept kb (wdtStop s) := by
  unfold wdtStop
  with_reducible repeat' (first
      | assumption | apply setB_kept | apply setFw_kept | simp only [kept_mk_eq] | apply kept_log)

theorem mainRestart_kept {kb} {s : State} (hk : Kept kb s) : Kept kb (mainRestart s) := by
  unfold mainRestart
  with_reducible repeat' (first
      | assumption | apply setComps_kept | apply setCore_kept | apply markRestart_kept | apply noteRestart_kept
      | apply wdtStop_kept | apply setF_kept | simp only [kept_mk_eq] | apply foldl_kept | split | (intro _))

theorem logClear_kept {kb} {s : State} (hk : Kept kb s) : Kept kb (logClear s) := by
  unfold logClear
  with_reducible repeat' (first
      | assumption | apply setFw_kept | simp only [kept_mk_eq] | apply memWf_nil)

theorem incGeneration_kept {kb} {s : State} (hk : Kept kb s) : Kept kb (incGeneration s) := by
  unfold incGeneration
  with_reducible repeat' (first
      | assumption | apply setF_kept)

theorem mirrorStop_kept {kb} {s : State} (hk : Kept kb s) : Kept kb (mirrorStop s) := by
  unfold mirrorStop
  with_reducible repeat' (first
      | assumption | apply setB_kept)

theorem absentActions_kept {kb} {s : State} (hk : Kept kb s) : Kept kb (absentActions s) := by
  unfold absentActions
  with_reducible repeat' (first
      | assumption | apply incGeneration_kept | apply event_kept | apply sendFault_kept
      | apply mirrorStop_kept | apply setFw_kept | simp only [kept_mk_eq] | apply kept_log)

theorem hostAbsent_kept {kb} {s : State} (hk : Kept kb s) : Kept kb (hostAbsent s) := by
  unfold hostAbsent
  with_reducible repeat' (first
      | assumption | apply setW_kept | apply setF_kept | apply setB_kept | apply setFw_kept
      | apply absentActions_kept | simp only [kept_mk_eq] | apply kept_log | split)

theorem startComps_kept {kb} (l : List Nat) {s : State} (hk : Kept kb s) : Kept kb (startComps l s) := by
  unfold startComps
  with_reducible repeat' (first
      | assumption | apply setComps_kept | apply setFw_kept | simp only [kept_mk_eq] | apply mk_kept | apply kept_log | split)

theorem mpuLoad_kept {kb} (image : Nat) (k : Nat) {s : State} (hk : Kept kb s) : Kept kb (mpuLoad image k s) := by
  unfold mpuLoad
  with_reducible repeat' (first
      | assumption | apply setFw_kept | simp only [kept_mk_eq] | apply kept_log)

theorem helperLoad_kept {kb} (k : Nat) (ok : Bool) (off : Nat) {s : State} (hk : Kept kb s) : Kept kb (helperLoad k ok off s) := by
  unfold helperLoad
  with_reducible repeat' (first
      | assumption | apply incF_kept | apply startComps_kept | apply setCore_kept | apply mpuLoad_kept | apply sendFault_kept
      | apply setComps_kept | apply noteRestart_kept | simp only [kept_mk_eq] | split)

theorem compRestarted_kept {kb} (c : Nat) {s : State} (hk : Kept kb s) : Kept kb (compRestarted c s).1 := by
  unfold compRestarted
  with_reducible repeat' (first
      | assumption | apply event_kept | apply startComps_kept | split)

theorem helperRestart_kept {kb} (k : Nat) {s : State} (hk : Kept kb s) : Kept kb (helperRestart k s) := by
  unfold helperRestart
  with_reducible repeat' (first
      | assumption | apply setComps_kept | apply setCore_kept | apply markRestart_kept | apply noteRestart_kept | apply foldl_kept
      | split | (intro _))

theorem coreRestart_kept {kb} (k : Nat) (addr : Nat) {s : State} (hk : Kept kb s) : Kept kb (coreRestart k addr s) := by
  unfold coreRestart
  with_reducible repeat' (first
      | assumption | apply sendFault_kept | apply mainRestart_kept | apply helperRestart_kept
      | simp only [kept_mk_eq] | split)

theorem compFail_kept {kb} (c : Nat) (cause : Nat) (addr : Nat) {s : State} (hk : Kept kb s) : Kept kb (compFail c cause addr s) := by
  unfold compFail
  with_reducible repeat' (first
      | assumption | apply coreRestart_kept | apply setComp_kept | apply noteRestart_kept | apply markRestart_kept | split)

theorem coreException_kept {kb} (k : Nat) (comp : Option Nat) (addr : Nat) {s : State} (hk : Kept kb s) :
    Kept kb (coreException k comp addr s) := by
  unfold coreException
  with_reducible repeat' (first
      | assumption | apply compFail_kept | apply coreRestart_kept | split)

theorem logMirrorCopy_kept {kb} (ok : Bool) {s : State} (hk : Kept kb s) : Kept kb (logMirrorCopy ok s) := by
  unfold logMirrorCopy
  with_reducible repeat' (first
      | assumption | apply coreException_kept | apply freeNext_kept | apply incF_kept | apply setF_kept
      | apply setFw_kept | apply mirrorStop_kept | apply setB_kept | apply sendFault_kept | simp only [kept_mk_eq] | apply kept_log
      | split)

theorem componentHang_kept {kb} (c : Nat) {s : State} (hk : Kept kb s) : Kept kb (componentHang c s) := by
  unfold componentHang
  with_reducible repeat' (first
      | assumption | apply compFail_kept | apply sendFault_kept | split)

theorem hostAlive_kept {kb} (agent : Nat) {s : State} (hk : Kept kb s) : Kept kb (hostAlive agent s) := by
  unfold hostAlive
  with_reducible repeat' (first
      | assumption | apply setFw_kept | simp only [kept_mk_eq] | apply kept_log | split)

theorem hostAttach_kept {kb} (val : Nat) {s : State} (hk : Kept kb s) : Kept kb (hostAttach val s).1 := by
  unfold hostAttach
  with_reducible repeat' (first
      | assumption | apply setB_kept | apply setFw_kept | apply setF_kept | apply event_kept
      | simp only [kept_mk_eq] | apply kept_log | split)

theorem logEntry_kept {kb} (c : Nat) (kind : Nat) (id : Nat) (code : Nat) (payload : List Nat) {s : State} (hk : Kept kb s) :
    Kept kb (logEntry c kind id code payload s) := by
  unfold logEntry
  with_reducible repeat' (first
      | assumption | apply incF_kept | apply sramStore_kept | apply setF_kept | apply setFw_kept
      | simp only [kept_mk_eq] | apply kept_log | apply memWf_memPut | split)

theorem wdtExpiry_kept {kb} {s : State} (hk : Kept kb s) : Kept kb (wdtExpiry s) := by
  unfold wdtExpiry
  with_reducible repeat' (first
      | assumption | apply coreRestart_kept | apply wdtStop_kept | apply freeNext_kept | apply incF_kept
      | split)

theorem mpuViolation_kept {kb} (c : Nat) (addr : Nat) (write : Bool) (exe : Bool) {s : State} (hk : Kept kb s) :
    Kept kb (mpuViolation c addr write exe s) := by
  unfold mpuViolation
  with_reducible repeat' (first
      | assumption | apply setF_kept | apply setB_kept | apply compFail_kept | apply sendFault_kept
      | apply setComp_kept | simp only [kept_mk_eq] | split)

theorem restartLimit_kept {kb} {s : State} (hk : Kept kb s) : Kept kb (restartLimit s) := by
  unfold restartLimit
  with_reducible repeat' (first
      | assumption | apply setB_kept | apply setFw_kept | apply sendFault_kept | simp only [kept_mk_eq]
      | apply kept_log)

theorem wdtKick_kept {kb} (agent : Nat) (val : Nat) {s : State} (hk : Kept kb s) : Kept kb (wdtKick agent val s) := by
  unfold wdtKick
  with_reducible repeat' (first
      | assumption | apply setB_kept | apply setFw_kept | simp only [kept_mk_eq] | apply kept_log | split)

theorem checkIn_kept {kb} (c : Nat) {s : State} (hk : Kept kb s) : Kept kb (checkIn c s) := by
  unfold checkIn
  with_reducible repeat' (first
      | assumption | apply setFw_kept | simp only [kept_mk_eq] | apply kept_log | split)

/-! ### Seal.lean -/

theorem setBal_kept {kb} (b : BalState) {s : State} (hk : Kept kb s) : Kept kb (setBal b s) := by
  unfold setBal
  with_reducible repeat' (first
      | assumption | simp only [kept_mk_eq] | apply mk_kept)

theorem sealOn_kept {kb} (p : Nat) (typ : Nat) (origin : Nat) (ctx : Nat) (hops : Nat) (body : List Nat) {s : State} (hk : Kept kb s) :
    Kept kb (sealOn p typ origin ctx hops body s) := by
  unfold sealOn
  with_reducible repeat' (first
      | assumption | apply setW_kept | apply setBal_kept | simp only [kept_mk_eq] | split)

theorem sealJob_kept {kb} (body : List Nat) {s : State} (hk : Kept kb s) : Kept kb (sealJob body s) := by
  unfold sealJob
  with_reducible repeat' (first
      | assumption | apply sealOn_kept)

/-! ### Droop.lean -/

theorem sendHold_kept {kb} (late : Bool) (reason : Nat) (ext : Nat) (seq : Nat) {s : State} (hk : Kept kb s) :
    Kept kb (sendHold late reason ext seq s) := by
  unfold sendHold
  with_reducible repeat' (first
      | assumption | apply sealJob_kept | apply setSat_kept | apply setF_kept | apply setB_kept
      | apply event_kept | simp only [kept_mk_eq] | apply mk_kept)

theorem holdUnanswered_kept {kb} {s : State} (hk : Kept kb s) : Kept kb (holdUnanswered s) := by
  unfold holdUnanswered
  with_reducible repeat' (first
      | assumption | apply sendFault_kept | apply setB_kept | simp only [kept_mk_eq] | apply mk_kept
      | split)

theorem sendDuty_kept {kb} {s : State} (hk : Kept kb s) : Kept kb (sendDuty s) := by
  unfold sendDuty
  with_reducible repeat' (first
      | assumption | apply incF_kept | apply sendHold_kept | simp only [kept_mk_eq] | apply mk_kept
      | apply foldl_kept | (intro _))

theorem setRegion_kept {kb} {s : State} (r : Nat) (x : Region) (hk : Kept kb s) : Kept kb (setRegion s r x) := by
  unfold setRegion
  with_reducible repeat' (first
      | assumption | simp only [kept_mk_eq] | apply mk_kept)

theorem noteHold_kept {kb} {s : State} (r : Nat) (hk : Kept kb s) : Kept kb (noteHold s r) := by
  unfold noteHold
  with_reducible repeat' (first
      | assumption | apply setSat_kept)

theorem releaseHold_kept {kb} (r : Nat) {s : State} (hk : Kept kb s) : Kept kb (releaseHold r s) := by
  unfold releaseHold
  with_reducible repeat' (first
      | assumption | apply setRegion_kept | apply noteHold_kept | simp only [kept_mk_eq] | split)

theorem noteStuck_kept {kb} (r : Nat) {s : State} (hk : Kept kb s) : Kept kb (noteStuck r s) := by
  unfold noteStuck
  with_reducible repeat' (first
      | assumption | simp only [kept_mk_eq] | apply mk_kept)

theorem drgAdvance_kept {kb} (ticks : Nat) {s : State} (hk : Kept kb s) : Kept kb (drgAdvance ticks s) := by
  unfold drgAdvance
  with_reducible repeat' (first
      | assumption | apply setRegion_kept | simp only [kept_mk_eq] | apply mk_kept | apply foldl_kept | split | (intro _))

theorem holdBeats_kept {kb} {s : State} (hk : Kept kb s) : Kept kb (holdBeats s) := by
  unfold holdBeats
  with_reducible repeat' (first
      | assumption | simp only [kept_mk_eq] | apply mk_kept | split)

theorem regionLevel_kept {kb} (r : Nat) (new : Nat) {s : State} (hk : Kept kb s) : Kept kb (regionLevel r new s) := by
  unfold regionLevel
  with_reducible repeat' (first
      | assumption | apply setF_kept | apply incF_kept | apply setRegion_kept | apply noteHold_kept
      | simp only [kept_mk_eq] | split)

theorem detExclWrite_kept {kb} (w : Nat) (val : Nat) {s : State} (hk : Kept kb s) : Kept kb (detExclWrite w val s) := by
  unfold detExclWrite
  with_reducible repeat' (first
      | assumption | apply setF_kept | apply setB_kept | apply regionLevel_kept | simp only [kept_mk_eq]
      | apply foldl_kept | (intro _))

theorem setRate_kept {kb} (rate : Nat) {s : State} (hk : Kept kb s) : Kept kb (setRate rate s) := by
  unfold setRate
  with_reducible repeat' (first
      | assumption | apply setF_kept | simp only [kept_mk_eq] | apply mk_kept)

theorem droopRestart_kept {kb} (before : State) {s : State} (hk : Kept kb s) : Kept kb (droopRestart before s) := by
  unfold droopRestart
  with_reducible repeat' (first
      | assumption | apply setF_kept | apply setRegion_kept | simp only [kept_mk_eq] | apply foldl_kept | split | (intro _))

theorem raiseHold_kept {kb} (proj : Int) {s : State} (hk : Kept kb s) : Kept kb (raiseHold proj s) := by
  unfold raiseHold
  with_reducible repeat' (first
      | assumption | apply sendHold_kept | apply incF_kept | apply setB_kept | apply setF_kept
      | simp only [kept_mk_eq] | apply mk_kept)

theorem drgLatch_kept {kb} {s : State} (hk : Kept kb s) : Kept kb (drgLatch s) := by
  unfold drgLatch
  with_reducible repeat' (first
      | assumption | apply setSat_kept | apply setSatS_kept | apply setB_kept | apply setF_kept
      | simp only [kept_mk_eq] | apply mk_kept)

theorem beatWindow_kept {kb} {s : State} (hk : Kept kb s) : Kept kb (beatWindow s) := by
  unfold beatWindow
  with_reducible repeat' (first
      | assumption | simp only [kept_mk_eq] | apply mk_kept)

theorem releaseBeats_kept {kb} {s : State} (hk : Kept kb s) : Kept kb (releaseBeats s) := by
  unfold releaseBeats
  with_reducible repeat' (first
      | assumption | apply releaseHold_kept | simp only [kept_mk_eq] | apply mk_kept | apply foldl_kept
      | (intro _))

theorem drgPublish_kept {kb} (proj : Int) {s : State} (hk : Kept kb s) : Kept kb (drgPublish proj s) := by
  unfold drgPublish
  with_reducible repeat' (first
      | assumption | apply setSat_kept | apply setB_kept | apply setF_kept | apply setW_kept
      | simp only [kept_mk_eq] | split)

theorem stretchHoldLong_kept {kb} (r : Nat) {s : State} (hk : Kept kb s) : Kept kb (stretchHoldLong r s) := by
  unfold stretchHoldLong
  with_reducible repeat' (first
      | assumption | apply sendFault_kept | apply setB_kept | apply setRegion_kept
      | simp only [kept_mk_eq] | split)

theorem lateHold_kept {kb} {s : State} (hk : Kept kb s) : Kept kb (lateHold s) := by
  unfold lateHold
  with_reducible repeat' (first
      | assumption | apply sendHold_kept | apply setB_kept | apply incF_kept | apply sendFault_kept
      | apply event_kept | simp only [kept_mk_eq] | apply mk_kept)

theorem drgEvaluate_kept {kb} {s : State} (hk : Kept kb s) : Kept kb (drgEvaluate s) := by
  unfold drgEvaluate
  extract_lets now h d s0 s1 proj s2
  have h0 : Kept kb s0 :=
    ⟨hk.base, hk.time, hk.regs, hk.plan, hk.sig, hk.pxe, hk.win, hk.log, hk.buf, hk.part, hk.img, hk.slots, hk.xfers⟩
  split
  · exact drgPublish_kept _ h0
  · have h1 : Kept kb s1 := sendDuty_kept h0
    clear_value s1 proj
    have h2 : Kept kb s2 := by
      unfold s2
      split
      · split
        · exact raiseHold_kept _ h1
        · exact h1
      · split
        · exact lateHold_kept h1
        · exact h1
    exact drgPublish_kept _ h2

theorem droopDetStuck_kept {kb} (r : Nat) (d : Nat) {s : State} (hk : Kept kb s) : Kept kb (droopDetStuck r d s) := by
  unfold droopDetStuck
  with_reducible repeat' (first
      | assumption | simp only [kept_mk_eq] | apply mk_kept | split)

theorem excludeDet_kept {kb} (i : Nat) {s : State} (hk : Kept kb s) : Kept kb (excludeDet i s) := by
  unfold excludeDet
  with_reducible repeat' (first
      | assumption | apply sendFault_kept | apply setF_kept | apply setB_kept | apply regionLevel_kept | simp only [kept_mk_eq]
      | apply mk_kept | split)

theorem setLaunchRate_kept {kb} {s : State} (hk : Kept kb s) : Kept kb (setLaunchRate s) := by
  unfold setLaunchRate
  with_reducible repeat' (first
      | assumption | simp only [kept_mk_eq] | apply mk_kept)

theorem droopLevelChange_kept {kb} (r : Nat) (d : Nat) (level : Nat) {s : State} (hk : Kept kb s) :
    Kept kb (droopLevelChange r d level s) := by
  unfold droopLevelChange
  with_reducible repeat' (first
      | assumption | apply regionLevel_kept | apply noteStuck_kept | simp only [kept_mk_eq]
      | apply mk_kept)

/-! ### Phase.lean -/

theorem setPhase_kept {kb} {s : State} (n : Nat) (x : PhaseSt) (hk : Kept kb s) : Kept kb (setPhase s n x) := by
  unfold setPhase
  with_reducible repeat' (first
      | assumption | simp only [kept_mk_eq] | apply mk_kept)

theorem bringIn_kept {kb} (k : Nat) {s : State} (hk : Kept kb s) : Kept kb (bringIn k s) := by
  unfold bringIn
  with_reducible repeat' (first
      | assumption | apply setPhase_kept | simp only [kept_mk_eq] | apply foldl_kept | (intro _))

theorem raiseTarget_kept {kb} (k : Nat) {s : State} (hk : Kept kb s) : Kept kb (raiseTarget k s) := by
  unfold raiseTarget
  with_reducible repeat' (first
      | assumption | apply bringIn_kept | apply setRail_kept | simp only [kept_mk_eq] | split)

theorem capacityFaults_kept {kb} (k : Nat) (before : Nat) {s : State} (hk : Kept kb s) : Kept kb (capacityFaults k before s) := by
  unfold capacityFaults
  with_reducible repeat' (first
      | assumption | apply sendFault_kept | simp only [kept_mk_eq] | split)

theorem markRetired_kept {kb} (n : Nat) (cause : Nat) {s : State} (hk : Kept kb s) : Kept kb (markRetired n cause s) := by
  unfold markRetired
  with_reducible repeat' (first
      | assumption | apply event_kept | apply setF_kept)

theorem retireNow_kept {kb} (n : Nat) (cause : Nat) {s : State} (hk : Kept kb s) : Kept kb (retireNow n cause s) := by
  unfold retireNow
  with_reducible repeat' (first
      | assumption | apply raiseTarget_kept | apply capacityFaults_kept | apply setPhase_kept
      | apply markRetired_kept | simp only [kept_mk_eq] | split)

theorem phaseFault_kept {kb} (n : Nat) {s : State} (hk : Kept kb s) : Kept kb (phaseFault n s) := by
  unfold phaseFault
  with_reducible repeat' (first
      | assumption | apply sendFault_kept | apply setPhase_kept | apply retireNow_kept | simp only [kept_mk_eq] | apply mk_kept
      | split)

theorem shedTo_kept {kb} (k : Nat) (tgt : Nat) {s : State} (hk : Kept kb s) : Kept kb (shedTo k tgt s) := by
  unfold shedTo
  with_reducible repeat' (first
      | assumption | apply setRail_kept | apply setPhase_kept | simp only [kept_mk_eq] | apply foldl_kept
      | split | (intro _))

theorem askRetire_kept {kb} (n : Nat) (cause : Nat) {s : State} (hk : Kept kb s) : Kept kb (askRetire n cause s) := by
  unfold askRetire
  with_reducible repeat' (first
      | assumption | simp only [kept_mk_eq] | apply mk_kept | split)

theorem phaseHot_kept {kb} (n : Nat) {s : State} (hk : Kept kb s) : Kept kb (phaseHot n s) := by
  unfold phaseHot
  with_reducible repeat' (first
      | assumption | apply askRetire_kept | apply sendFault_kept | split)

theorem shedAbort_kept {kb} (k : Nat) (cause : Nat) {s : State} (hk : Kept kb s) : Kept kb (shedAbort k cause s) := by
  unfold shedAbort
  with_reducible repeat' (first
      | assumption | apply setPhase_kept | apply setRail_kept | apply event_kept | apply incF_kept | apply setB_kept
      | apply repeatBreaks_kept | simp only [kept_mk_eq] | apply foldl_kept | split | (intro _))

theorem shedAborts_kept {kb} (cause : Nat) {s : State} (hk : Kept kb s) : Kept kb (shedAborts cause s) := by
  unfold shedAborts
  with_reducible repeat' (first
      | assumption | apply shedAbort_kept | apply foldl_kept | (intro _))

theorem imbalanceRound_kept {kb} (k : Nat) {s : State} (hk : Kept kb s) : Kept kb (imbalanceRound k s) := by
  unfold imbalanceRound
  with_reducible repeat' (first
      | assumption | simp only [kept_mk_eq] | apply mk_kept | apply foldl_kept | split | (intro _))

theorem turnOn_kept {kb} (k : Nat) (n : Nat) (on : Nat) (m : Nat) {s : State} (hk : Kept kb s) : Kept kb (turnOn k n on m s) := by
  unfold turnOn
  with_reducible repeat' (first
      | assumption | apply setSat_kept | simp only [kept_mk_eq] | apply mk_kept | split)

theorem laneAdvance_kept {kb} (ticks : Nat) (k : Nat) {s : State} (hk : Kept kb s) : Kept kb (laneAdvance ticks k s) := by
  unfold laneAdvance
  with_reducible repeat' (first
      | assumption | apply turnOn_kept | apply setRail_kept | apply foldl_kept | split | (intro _))

theorem deExit_kept {kb} (k : Nat) {s : State} (hk : Kept kb s) : Kept kb (deExit k s) := by
  unfold deExit
  with_reducible repeat' (first
      | assumption | apply setRail_kept | apply setB_kept | simp only [kept_mk_eq] | split)

theorem addPhases_kept {kb} (k : Nat) (cause : Nat) {s : State} (hk : Kept kb s) : Kept kb (addPhases k cause s) := by
  unfold addPhases
  with_reducible repeat' (first
      | assumption | apply raiseTarget_kept | apply deExit_kept | apply shedAborts_kept | split)

theorem phaseRampOutDone_kept {kb} (n : Nat) {s : State} (hk : Kept kb s) : Kept kb (phaseRampOutDone n s) := by
  unfold phaseRampOutDone
  with_reducible repeat' (first
      | assumption | apply setPhase_kept | split)

theorem phcAdvance_kept {kb} (ticks : Nat) {s : State} (hk : Kept kb s) : Kept kb (phcAdvance ticks s) := by
  unfold phcAdvance
  with_reducible repeat' (first
      | assumption | apply laneAdvance_kept | apply setRail_kept | simp only [kept_mk_eq] | apply foldl_kept | split | (intro _))

theorem phaseOcTrip_kept {kb} (n : Nat) {s : State} (hk : Kept kb s) : Kept kb (phaseOcTrip n s) := by
  unfold phaseOcTrip
  with_reducible repeat' (first
      | assumption | apply incF_kept | simp only [kept_mk_eq] | apply mk_kept | split)

theorem vselLatch_kept {kb} (v : Nat) {s : State} (hk : Kept kb s) : Kept kb (vselLatch v s) := by
  unfold vselLatch
  with_reducible repeat' (first
      | assumption | apply setF_kept | simp only [kept_mk_eq] | apply mk_kept | split)

theorem burstRearmEnd_kept {kb} {s : State} (hk : Kept kb s) : Kept kb (burstRearmEnd s) := by
  unfold burstRearmEnd
  with_reducible repeat' (first
      | assumption | simp only [kept_mk_eq] | apply mk_kept | split)

theorem setpointRampDone_kept {kb} (k : Nat) {s : State} (hk : Kept kb s) : Kept kb (setpointRampDone k s) := by
  unfold setpointRampDone
  with_reducible repeat' (first
      | assumption | apply setRail_kept | simp only [kept_mk_eq] | apply mk_kept | split)

theorem restorePhase_kept {kb} (n : Nat) {s : State} (hk : Kept kb s) : Kept kb (restorePhase n s) := by
  unfold restorePhase
  with_reducible repeat' (first
      | assumption | apply setF_kept | apply raiseTarget_kept | apply event_kept | apply setPhase_kept | apply freeNext_kept
      | apply phaseFault_kept | simp only [kept_mk_eq] | apply mk_kept | split)

theorem retarget_kept {kb} (k : Nat) (tgt : Nat) (delay : Nat) {s : State} (hk : Kept kb s) : Kept kb (retarget k tgt delay s) := by
  unfold retarget
  with_reducible repeat' (first
      | assumption | apply setRail_kept | apply deExit_kept | simp only [kept_mk_eq] | split)

theorem phcRetiredWrite_kept {kb} (w : Nat) (val : Nat) {s : State} (hk : Kept kb s) : Kept kb (phcRetiredWrite w val s) := by
  unfold phcRetiredWrite
  with_reducible repeat' (first
      | assumption | simp only [kept_mk_eq] | apply mk_kept | apply foldl_kept | (intro _))

theorem negLimit_kept {kb} {s : State} (hk : Kept kb s) : Kept kb (negLimit s) := by
  unfold negLimit
  with_reducible repeat' (first
      | assumption | simp only [kept_mk_eq] | apply mk_kept)

theorem compSample_kept {kb} (k : Nat) {s : State} (hk : Kept kb s) : Kept kb (compSample k s) := by
  unfold compSample
  with_reducible repeat' (first
      | assumption | apply setF_kept | apply setRail_kept | apply freeNext_kept | simp only [kept_mk_eq]
      | split)

theorem retireAtBoundary_kept {kb} (n : Nat) (cause : Nat) {s : State} (hk : Kept kb s) : Kept kb (retireAtBoundary n cause s) := by
  unfold retireAtBoundary
  with_reducible repeat' (first
      | assumption | apply raiseTarget_kept | apply capacityFaults_kept | apply setPhase_kept
      | apply markRetired_kept | simp only [kept_mk_eq] | split)

theorem phaseRampInDone_kept {kb} (n : Nat) {s : State} (hk : Kept kb s) : Kept kb (phaseRampInDone n s) := by
  unfold phaseRampInDone
  with_reducible repeat' (first
      | assumption | apply setPhase_kept | split)

theorem reactiveAdd_kept {kb} (k : Nat) (avg : Int) {s : State} (hk : Kept kb s) : Kept kb (reactiveAdd k avg s) := by
  unfold reactiveAdd
  with_reducible repeat' (first
      | assumption | apply addPhases_kept | apply setRail_kept | simp only [kept_mk_eq] | split)

theorem allPhaseBurst_kept {kb} (p : VcorePoints) {s : State} (hk : Kept kb s) : Kept kb (allPhaseBurst p s) := by
  unfold allPhaseBurst
  with_reducible repeat' (first
      | assumption | apply setF_kept | apply incF_kept | apply deExit_kept | apply shedAborts_kept | simp only [kept_mk_eq]
      | apply mk_kept | apply foldl_kept | split | (intro _))

theorem phaseOcRelease_kept {kb} (n : Nat) {s : State} (hk : Kept kb s) : Kept kb (phaseOcRelease n s) := by
  unfold phaseOcRelease
  with_reducible repeat' (first
      | assumption | simp only [kept_mk_eq] | apply mk_kept)

theorem phaseImbalance_kept {kb} (n : Nat) {s : State} (hk : Kept kb s) : Kept kb (phaseImbalance n s) := by
  unfold phaseImbalance
  with_reducible repeat' (first
      | assumption | apply askRetire_kept | apply sendFault_kept | split)

theorem burstEnd_kept {kb} (p : VcorePoints) {s : State} (hk : Kept kb s) : Kept kb (burstEnd p s) := by
  unfold burstEnd
  with_reducible repeat' (first
      | assumption | apply setRail_kept | apply setSat_kept | simp only [kept_mk_eq] | apply mk_kept | split)

theorem shedInhEnd_kept {kb} (k : Nat) {s : State} (hk : Kept kb s) : Kept kb (shedInhEnd k s) := by
  unfold shedInhEnd
  with_reducible repeat' (first
      | assumption | apply setB_kept | split)

theorem deEnter_kept {kb} (k : Nat) {s : State} (hk : Kept kb s) : Kept kb (deEnter k s) := by
  unfold deEnter
  with_reducible repeat' (first
      | assumption | apply setB_kept | split)

theorem hotRound_kept {kb} {s : State} (hk : Kept kb s) : Kept kb (hotRound s) := by
  unfold hotRound
  with_reducible repeat' (first
      | assumption | simp only [kept_mk_eq] | apply mk_kept)

theorem applySel_kept {kb} (k : Nat) (sel : Nat) {s : State} (hk : Kept kb s) : Kept kb (applySel k sel s) := by
  unfold applySel
  with_reducible repeat' (first
      | assumption | apply setF_kept | apply retarget_kept | apply deExit_kept | simp only [kept_mk_eq]
      | apply mk_kept | split)

theorem noteImax_kept {kb} (k : Nat) (avg : Int) {s : State} (hk : Kept kb s) : Kept kb (noteImax k avg s) := by
  unfold noteImax
  with_reducible repeat' (first
      | assumption | apply setRail_kept)

theorem deSample_kept {kb} (k : Nat) {s : State} (hk : Kept kb s) : Kept kb (deSample k s) := by
  unfold deSample
  with_reducible repeat' (first
      | assumption | apply deExit_kept | apply setRail_kept | simp only [kept_mk_eq] | split)

/-! ### Seq.lean -/

theorem setRailSt_kept {kb} (k : Nat) (x : Nat) {s : State} (hk : Kept kb s) : Kept kb (setRailSt k x s) := by
  unfold setRailSt
  with_reducible repeat' (first
      | assumption | apply setF_kept)

theorem phasesOff_kept {kb} (k : Nat) {s : State} (hk : Kept kb s) : Kept kb (phasesOff k s) := by
  unfold phasesOff
  with_reducible repeat' (first
      | assumption | apply setPhase_kept | apply foldl_kept | (intro _))

theorem regate_kept {kb} {s : State} (hk : Kept kb s) : Kept kb (regate s) := by
  unfold regate
  with_reducible repeat' (first
      | assumption | simp only [kept_mk_eq] | apply mk_kept)

theorem railOff_kept {kb} (k : Nat) (st : Nat) {s : State} (hk : Kept kb s) : Kept kb (railOff k st s) := by
  unfold railOff
  with_reducible repeat' (first
      | assumption | apply setRailSt_kept | apply setRail_kept | apply phasesOff_kept | apply setB_kept
      | apply setF_kept | apply regate_kept | simp only [kept_mk_eq] | apply mk_kept | split)

theorem enterProbe_kept {kb} (k : Nat) {s : State} (hk : Kept kb s) : Kept kb (enterProbe k s) := by
  unfold enterProbe
  with_reducible repeat' (first
      | assumption | apply railOff_kept | apply setRail_kept)

theorem slotBegin_kept {kb} {s : State} (hk : Kept kb s) : Kept kb (slotBegin s) := by
  unfold slotBegin
  with_reducible repeat' (first
      | assumption | apply enterProbe_kept | simp only [kept_mk_eq] | apply foldl_kept | split
      | (intro _))

theorem busSettleDone_kept {kb} {s : State} (hk : Kept kb s) : Kept kb (busSettleDone s) := by
  unfold busSettleDone
  with_reducible repeat' (first
      | assumption | apply slotBegin_kept | apply setRailSt_kept | apply foldl_kept | split | (intro _))

theorem restEnds_kept {kb} {s : State} (hk : Kept kb s) : Kept kb (restEnds s) := by
  unfold restEnds
  with_reducible repeat' (first
      | assumption | apply setF_kept | simp only [kept_mk_eq] | apply mk_kept | split)

theorem phasesStop_kept {kb} (k : Nat) {s : State} (hk : Kept kb s) : Kept kb (phasesStop k s) := by
  unfold phasesStop
  with_reducible repeat' (first
      | assumption | apply setPhase_kept | simp only [kept_mk_eq] | apply foldl_kept | (intro _))

theorem enterStopping_kept {kb} (k : Nat) {s : State} (hk : Kept kb s) : Kept kb (enterStopping k s) := by
  unfold enterStopping
  with_reducible repeat' (first
      | assumption | apply phasesStop_kept | apply setRail_kept | apply setB_kept | apply setRailSt_kept
      | apply regate_kept | simp only [kept_mk_eq] | apply mk_kept | split)

theorem setStop_kept {kb} (x : Nat) {s : State} (hk : Kept kb s) : Kept kb (setStop x s) := by
  unfold setStop
  with_reducible repeat' (first
      | assumption | simp only [kept_mk_eq] | apply mk_kept)

theorem setSeqState_kept {kb} (x : Nat) {s : State} (hk : Kept kb s) : Kept kb (setSeqState x s) := by
  unfold setSeqState
  with_reducible repeat' (first
      | assumption | apply setF_kept)

theorem stopDone_kept {kb} {s : State} (hk : Kept kb s) : Kept kb (stopDone s) := by
  unfold stopDone
  with_reducible repeat' (first
      | assumption | apply setStop_kept | apply setSeqState_kept | apply setB_kept | apply event_kept)

theorem stopNext_kept {kb} {s : State} (hk : Kept kb s) : Kept kb (stopNext s) := by
  unfold stopNext
  with_reducible repeat' (first
      | assumption | apply setRail_kept | apply enterStopping_kept | apply stopDone_kept
      | simp only [kept_mk_eq] | apply foldl_kept | split | (intro _))

theorem waitersOff_kept {kb} {s : State} (hk : Kept kb s) : Kept kb (waitersOff s) := by
  unfold waitersOff
  with_reducible repeat' (first
      | assumption | apply railOff_kept | apply foldl_kept | (intro _))

theorem beginStop_kept {kb} (kind : Nat) {s : State} (hk : Kept kb s) : Kept kb (beginStop kind s) := by
  unfold beginStop
  with_reducible repeat' (first
      | assumption | apply stopNext_kept | apply waitersOff_kept | apply setStop_kept
      | apply setSeqState_kept)

theorem startFault_kept {kb} (k : Nat) (kind : Nat) (cause : Nat) (info : Nat) {s : State} (hk : Kept kb s) :
    Kept kb (startFault k kind cause info s) := by
  unfold startFault
  with_reducible repeat' (first
      | assumption | apply railOff_kept | apply sendFault_kept | apply setF_kept | apply regate_kept
      | apply restEnds_kept | apply stopNext_kept | apply beginStop_kept | simp only [kept_mk_eq] | split)

theorem railPgTimeout_kept {kb} (k : Nat) {s : State} (hk : Kept kb s) : Kept kb (railPgTimeout k s) := by
  unfold railPgTimeout
  with_reducible repeat' (first
      | assumption | apply startFault_kept | simp only [kept_mk_eq] | split)

theorem softRetarget_kept {kb} (k : Nat) (tgt : Nat) {s : State} (hk : Kept kb s) : Kept kb (softRetarget k tgt s) := by
  unfold softRetarget
  with_reducible repeat' (first
      | assumption | apply setRail_kept | simp only [kept_mk_eq] | split)

theorem setDue_kept {kb} (t : Nat) {s : State} (hk : Kept kb s) : Kept kb (setDue t s) := by
  unfold setDue
  with_reducible repeat' (first
      | assumption | simp only [kept_mk_eq] | apply mk_kept)

theorem beginStart_kept {kb} {s : State} (hk : Kept kb s) : Kept kb (beginStart s) := by
  unfold beginStart
  with_reducible repeat' (first
      | assumption | apply setSeqState_kept | apply setB_kept | simp only [kept_mk_eq] | apply mk_kept
      | split)

theorem quickNext_kept {kb} {s : State} (hk : Kept kb s) : Kept kb (quickNext s) := by
  unfold quickNext
  with_reducible repeat' (first
      | assumption | apply setDue_kept | apply railOff_kept | apply setStop_kept | apply setSeqState_kept
      | apply setB_kept | apply beginStart_kept | simp only [kept_mk_eq] | split)

theorem quickStop_kept {kb} {s : State} (hk : Kept kb s) : Kept kb (quickStop s) := by
  unfold quickStop
  with_reducible repeat' (first
      | assumption | apply quickNext_kept | apply setStop_kept | apply setSeqState_kept
      | apply regate_kept | apply restEnds_kept | split)

theorem pwrFailFall_kept {kb} {s : State} (hk : Kept kb s) : Kept kb (pwrFailFall s) := by
  unfold pwrFailFall
  with_reducible repeat' (first
      | assumption | apply quickStop_kept | simp only [kept_mk_eq] | apply mk_kept | split)

theorem railStopDone_kept {kb} (k : Nat) {s0 : State} (hk : Kept kb s0) : Kept kb (railStopDone k s0) := by
  unfold railStopDone
  with_reducible repeat' (first
      | assumption | apply setB_kept | apply stopNext_kept | apply railOff_kept | simp only [kept_mk_eq] | split)

theorem startDone_kept {kb} {s : State} (hk : Kept kb s) : Kept kb (startDone s) := by
  unfold startDone
  with_reducible repeat' (first
      | assumption | apply setStop_kept | apply event_kept | apply setSeqState_kept | split)

theorem railPowerGood_kept {kb} (k : Nat) {s : State} (hk : Kept kb s) : Kept kb (railPowerGood k s) := by
  unfold railPowerGood
  with_reducible repeat' (first
      | assumption | apply setRailSt_kept | apply setRail_kept | apply setB_kept | apply regate_kept
      | apply startDone_kept | apply raiseTarget_kept | apply setDue_kept | simp only [kept_mk_eq] | split)

theorem seqSlotStart_kept {kb} {s : State} (hk : Kept kb s) : Kept kb (seqSlotStart s) := by
  unfold seqSlotStart
  with_reducible repeat' (first
      | assumption | apply slotBegin_kept | split)

theorem followSample_kept {kb} (k : Nat) {s : State} (hk : Kept kb s) : Kept kb (followSample k s) := by
  unfold followSample
  with_reducible repeat' (first
      | assumption | apply setRail_kept | apply freeNext_kept | simp only [kept_mk_eq] | split)

theorem railShortStart_kept {kb} (k : Nat) {s : State} (hk : Kept kb s) : Kept kb (railShortStart k s) := by
  unfold railShortStart
  with_reducible repeat' (first
      | assumption | apply startFault_kept | split)

theorem busGood_kept {kb} {s : State} (hk : Kept kb s) : Kept kb (busGood s) := by
  unfold busGood
  with_reducible repeat' (first
      | assumption | simp only [kept_mk_eq] | apply mk_kept)

theorem pwrFailRise_kept {kb} {s : State} (hk : Kept kb s) : Kept kb (pwrFailRise s) := by
  unfold pwrFailRise
  with_reducible repeat' (first
      | assumption | apply busGood_kept | apply beginStart_kept | simp only [kept_mk_eq] | apply mk_kept
      | split)

theorem railStartStall_kept {kb} (k : Nat) {s : State} (hk : Kept kb s) : Kept kb (railStartStall k s) := by
  unfold railStartStall
  with_reducible repeat' (first
      | assumption | apply startFault_kept | split)

theorem startFaults_kept {kb} (k : Nat) {s : State} (hk : Kept kb s) : Kept kb (startFaults k s) := by
  unfold startFaults
  with_reducible repeat' (first
      | assumption | apply phaseFault_kept | apply foldl_kept | (intro _))

theorem phasesStart_kept {kb} (k : Nat) {s : State} (hk : Kept kb s) : Kept kb (phasesStart k s) := by
  unfold phasesStart
  with_reducible repeat' (first
      | assumption | apply setPhase_kept | simp only [kept_mk_eq] | apply foldl_kept | (intro _))

theorem latchClear_kept {kb} (val : Nat) {s : State} (hk : Kept kb s) : Kept kb (latchClear val s) := by
  unfold latchClear
  with_reducible repeat' (first
      | assumption | apply setRailSt_kept | apply setF_kept | apply foldl_kept | split | (intro _))

theorem leaderRefused_kept {kb} (k : Nat) {s : State} (hk : Kept kb s) : Kept kb (leaderRefused k s) := by
  unfold leaderRefused
  with_reducible repeat' (first
      | assumption | apply setB_kept | apply setRail_kept | simp only [kept_mk_eq] | apply foldl_kept | split | (intro _))

theorem railProbeDone_kept {kb} (k : Nat) {s : State} (hk : Kept kb s) : Kept kb (railProbeDone k s) := by
  unfold railProbeDone
  with_reducible repeat' (first
      | assumption | apply setF_kept | apply setB_kept | apply startFault_kept | apply leaderRefused_kept | apply phasesStart_kept
      | apply setRailSt_kept | apply setRail_kept | apply startFaults_kept | simp only [kept_mk_eq] | split)

theorem railPrebiasHigh_kept {kb} (k : Nat) {s : State} (hk : Kept kb s) : Kept kb (railPrebiasHigh k s) := by
  unfold railPrebiasHigh
  with_reducible repeat' (first
      | assumption | apply startFault_kept | simp only [kept_mk_eq] | split)

theorem applySelect_kept {kb} (k : Nat) (sel : Nat) {s : State} (hk : Kept kb s) : Kept kb (applySelect k sel s) := by
  unfold applySelect
  with_reducible repeat' (first
      | assumption | apply softRetarget_kept | apply applySel_kept)

theorem seqStartAct_kept {kb} {s : State} (hk : Kept kb s) : Kept kb (seqStartAct s) := by
  unfold seqStartAct
  with_reducible repeat' (first
      | assumption | apply setB_kept | apply beginStart_kept | split)

theorem busStartFail_kept {kb} {s : State} (hk : Kept kb s) : Kept kb (busStartFail s) := by
  unfold busStartFail
  with_reducible repeat' (first
      | assumption | apply setSeqState_kept | apply setB_kept | apply sendFault_kept | split)

theorem seqSample_kept {kb} (k : Nat) {s0 : State} (hk : Kept kb s0) : Kept kb (seqSample k s0) := by
  unfold seqSample
  with_reducible repeat' (first
      | assumption | apply followSample_kept | apply setRail_kept | simp only [kept_mk_eq] | split)

theorem quickStopRailOff_kept {kb} {s : State} (hk : Kept kb s) : Kept kb (quickStopRailOff s) := by
  unfold quickStopRailOff
  with_reducible repeat' (first
      | assumption | apply quickNext_kept | split)

theorem seqStop_kept {kb} {s : State} (hk : Kept kb s) : Kept kb (seqStop s) := by
  unfold seqStop
  with_reducible repeat' (first
      | assumption | simp only [kept_mk_eq] | apply mk_kept | split)

theorem railOv_kept {kb} (k : Nat) {s : State} (hk : Kept kb s) : Kept kb (railOv k s) := by
  unfold railOv
  with_reducible repeat' (first
      | assumption | apply startFault_kept | split)

theorem seqStopAct_kept {kb} {s : State} (hk : Kept kb s) : Kept kb (seqStopAct s) := by
  unfold seqStopAct
  with_reducible repeat' (first
      | assumption | apply beginStop_kept | split)

theorem seqStart_kept {kb} {s : State} (hk : Kept kb s) : Kept kb (seqStart s) := by
  unfold seqStart
  with_reducible repeat' (first
      | assumption | apply setB_kept | simp only [kept_mk_eq] | apply mk_kept | split)

end Sys2Proof.Machine
end

