-- ==== Sys2Proof/Laws/KeptPlan.lean ====
section
/-! SUPPORT. One lemma per operation: it keeps what `Kept` says. Here the plan, the governor, the predictor, balance, sensing and rest. -/

namespace Sys2Proof.Machine

/-! ### Plan.lean -/

theorem shedActions_kept {kb} {s : State} (hk : Kept kb s) : Kept kb (shedActions s) := by
  unfold shedActions
  with_reducible repeat' (first
      | assumption | simp only [kept_mk_eq] | apply mk_psq_kept | apply kept_plan | apply kept_sig
      | split)

theorem ffLiftAction_kept {kb} {s : State} (hk : Kept kb s) : Kept kb (ffLiftAction s) := by
  unfold ffLiftAction
  with_reducible repeat' (first
      | assumption | apply repeatBreaks_kept | simp only [kept_mk_eq] | apply mk_psq_kept | apply kept_plan | apply kept_sig
      | split)

theorem switchHalf_kept {kb} (h : Nat) {s : State} (hk : Kept kb s) : Kept kb (switchHalf h s) := by
  unfold switchHalf
  with_reducible repeat' (first
      | assumption | apply setB_kept | apply setF_kept | split)

theorem fallLifts_kept {kb} (p : Lift → Bool) {s : State} (hk : Kept kb s) : Kept kb (fallLifts p s) := by
  unfold fallLifts
  with_reducible repeat' (first
      | assumption | simp only [kept_mk_eq] | apply mk_psq_kept | apply kept_plan | apply kept_sig)

theorem repeatTake_kept {kb} (on : Bool) {s : State} (hk : Kept kb s) : Kept kb (repeatTake on s) := by
  unfold repeatTake
  with_reducible repeat' (first
      | assumption | simp only [kept_mk_eq] | apply mk_psq_kept | apply kept_plan | apply kept_sig
      | split)

theorem retime_kept {kb} {s : State} (hk : Kept kb s) : Kept kb (retime s) := by
  unfold retime
  with_reducible repeat' (first
      | assumption | apply fallLifts_kept | simp only [kept_mk_eq] | apply mk_psq_kept | apply kept_plan
      | apply kept_sig)

theorem launchMove_kept {kb} (step : Nat) (time : Nat) {s : State} (hk : Kept kb s)
    (hq : ∀ u, kb.2 u → kb.2 { u with nextB := some time }) : Kept kb (launchMove step time s) := by
  have h : Kept kb { s with time := { s.time with nextB := some time }, drg := { s.drg with pendExt := 0 } } :=
    ⟨hk.base, hq _ hk.time, hk.regs, hk.plan, hk.sig, hk.pxe, hk.win, hk.log, hk.buf, hk.part, hk.img, hk.slots, hk.xfers⟩
  unfold launchMove
  exact ite_kept (sendFault_kept _ _ _ (setB_kept _ _ hk)) (event_kept _ _ (ite_kept (setB_kept _ _ h) (retime_kept (setB_kept _ _ h))))

theorem planEvent_kept {kb} (code : Nat) {s : State} (hk : Kept kb s) : Kept kb (planEvent code s) := by
  unfold planEvent
  with_reducible repeat' (first
      | assumption | apply event_kept)

theorem setPlanState_kept {kb} (x : Nat) {s : State} (hk : Kept kb s) : Kept kb (setPlanState x s) := by
  unfold setPlanState
  with_reducible repeat' (first
      | assumption | apply setF_kept)

theorem planPause_kept {kb} {s : State} (hk : Kept kb s) : Kept kb (planPause s) := by
  unfold planPause
  with_reducible repeat' (first
      | assumption | apply planEvent_kept | apply setPlanState_kept | split)

theorem planLeaves_kept {kb} {s : State} (hk : Kept kb s) : Kept kb (planLeaves s) := by
  unfold planLeaves
  with_reducible repeat' (first
      | assumption | apply fallLifts_kept | simp only [kept_mk_eq] | apply mk_psq_kept | apply kept_plan
      | apply kept_sig)

theorem planErrorNow_kept {kb} (hold : Bool) {s : State} (hk : Kept kb s) : Kept kb (planErrorNow hold s) := by
  unfold planErrorNow
  with_reducible repeat' (first
      | assumption | apply planEvent_kept | apply setPlanState_kept | apply planLeaves_kept
      | simp only [kept_mk_eq] | apply mk_psq_kept | apply kept_plan | apply kept_sig)

theorem readEntry_kept {kb} (step : Nat) {s : State} (hk : Kept kb s) : Kept kb (readEntry step s).1 := by
  unfold readEntry
  with_reducible repeat' (first
      | assumption | apply sendFault_kept | simp only [kept_mk_eq] | split)

theorem applyEntry_kept {kb} (step : Nat) (h : Nat) (e : List Nat) (seek : Bool) {s : State} (hk : Kept kb s) :
    Kept kb (applyEntry step h e seek s) := by
  unfold applyEntry
  with_reducible repeat' (first
      | assumption | apply setF_kept | apply setPlanState_kept | apply switchHalf_kept
      | apply planEvent_kept | apply event_kept | apply fallLifts_kept | simp only [kept_mk_eq] | apply mk_psq_kept | apply foldl_kept
      | apply kept_plan | apply kept_sig | split | (intro _))

theorem planStrobe_kept {kb} (old : Nat) (step : Nat) {s : State} (hk : Kept kb s) : Kept kb (planStrobe old step s) := by
  unfold planStrobe
  with_reducible repeat' (first
      | assumption | apply repeatBroken_kept | apply event_kept | apply incF_kept | apply sendFault_kept
      | apply readEntry_kept | apply applyEntry_kept | apply planErrorNow_kept | apply planEvent_kept | apply setPlanState_kept
      | apply planLeaves_kept | simp only [kept_mk_eq] | apply mk_psq_kept | apply kept_plan | apply kept_sig | split
      | (refine kept_of_fst (b := kb) (by assumption) ?_))

theorem windowRead_kept {kb} {s : State} (hk : Kept kb s) : Kept kb (windowRead s) := by
  unfold windowRead
  with_reducible repeat' (first
      | assumption | apply readEntry_kept | apply planErrorNow_kept | apply foldl_kept | split | (intro _)
      | (refine kept_of_fst (b := kb) (by assumption) ?_))

theorem withdrawLift_kept {kb} {s : State} (hk : Kept kb s) : Kept kb (withdrawLift s) := by
  unfold withdrawLift
  with_reducible repeat' (first
      | assumption | apply fallLifts_kept | apply repeatBroken_kept | simp only [kept_mk_eq] | split)

theorem trustWithdraws_kept {kb} {s : State} (hk : Kept kb s) : Kept kb (trustWithdraws s) := by
  unfold trustWithdraws
  with_reducible repeat' (first
      | assumption | apply withdrawLift_kept | apply repeatBreaks_kept | simp only [kept_mk_eq] | apply mk_psq_kept
      | apply kept_plan | apply kept_sig | split)

theorem ffScheduleComputed_kept {kb} {s : State} (hk : Kept kb s) : Kept kb (ffScheduleComputed s) := by
  unfold ffScheduleComputed
  with_reducible repeat' (first
      | assumption | apply windowRead_kept | simp only [kept_mk_eq] | apply mk_psq_kept | apply kept_plan | apply kept_sig | split)

theorem planIdleNow_kept {kb} {s : State} (hk : Kept kb s) : Kept kb (planIdleNow s) := by
  unfold planIdleNow
  with_reducible repeat' (first
      | assumption | apply planEvent_kept | apply planLeaves_kept | apply setPlanState_kept
      | simp only [kept_mk_eq] | apply mk_psq_kept | apply kept_plan | apply kept_sig | split)

theorem psqAdvance_kept {kb} (now : Nat) {s : State} (hk : Kept kb s) : Kept kb (psqAdvance now s) := by
  unfold psqAdvance
  with_reducible repeat' (first
      | assumption | apply setB_kept | simp only [kept_mk_eq] | apply mk_psq_kept | apply kept_plan
      | apply kept_sig | split)

theorem fixedCheck_kept {kb} {s : State} (hk : Kept kb s) : Kept kb (fixedCheck s) := by
  unfold fixedCheck
  with_reducible repeat' (first
      | assumption | apply event_kept | apply setB_kept | split)

theorem sigLoad_kept {kb} {s : State} (hk : Kept kb s) : Kept kb (sigLoad s) := by
  unfold sigLoad
  with_reducible repeat' (first
      | assumption | apply setF_kept | simp only [kept_mk_eq] | apply mk_psq_kept | apply foldl_kept
      | apply kept_plan | apply memWf_nil | split | (intro _))

theorem planCut_kept {kb} (next : Nat) {s : State} (hk : Kept kb s) : Kept kb (planCut next s) := by
  unfold planCut
  with_reducible repeat' (first
      | assumption | apply readEntry_kept | apply planErrorNow_kept | simp only [kept_mk_eq]
      | apply mk_psq_kept | apply kept_plan | apply kept_sig | split | (refine kept_of_fst (b := kb) (by assumption) ?_))

theorem ffAddAction_kept {kb} (k : Nat) {s : State} (hk : Kept kb s) : Kept kb (ffAddAction k s) := by
  unfold ffAddAction
  with_reducible repeat' (first
      | assumption | apply addPhases_kept | simp only [kept_mk_eq] | apply mk_psq_kept | apply kept_plan
      | apply kept_sig | split)

theorem fixedTake_kept {kb} (on : Bool) {s : State} (hk : Kept kb s) : Kept kb (fixedTake on s) := by
  unfold fixedTake
  with_reducible repeat' (first
      | assumption | apply setB_kept | apply event_kept | split)

/-! ### Limit.lean -/

theorem setLgv_kept {kb} (g : LgvState) {s : State} (hk : Kept kb s) : Kept kb (setLgv g s) := by
  unfold setLgv
  with_reducible repeat' (first
      | assumption | simp only [kept_mk_eq] | apply mk_kept)

theorem capFreeze_kept {kb} (v : State) {s : State} (hk : Kept kb s) : Kept kb (capFreeze v s) := by
  unfold capFreeze
  with_reducible repeat' (first
      | assumption | apply setLgv_kept)

theorem cutView_kept {kb} {s : State} (hk : Kept kb s) : Kept kb (cutView s) := by
  unfold cutView
  with_reducible repeat' (first
      | assumption | apply preview_kept | simp only [kept_mk_eq] | apply mk_psq_kept | apply kept_plan
      | apply kept_sig)

theorem lgvChoose_kept {kb} {s : State} (hk : Kept kb s) : Kept kb (lgvChoose s).1 := by
  unfold lgvChoose
  with_reducible repeat' (first
      | assumption | apply setLgv_kept)

theorem setCapState_kept {kb} (v : Nat) {s : State} (hk : Kept kb s) : Kept kb (setCapState v s) := by
  unfold setCapState
  with_reducible repeat' (first
      | assumption | apply eventP_kept | apply setF_kept | apply setLgv_kept | simp only [kept_mk_eq] | split)

theorem capFollow_kept {kb} (stays : Bool) {s : State} (hk : Kept kb s) : Kept kb (capFollow stays s) := by
  unfold capFollow
  with_reducible repeat' (first
      | assumption | apply setCapState_kept | split)

theorem lgvCut_kept {kb} {s0 : State} (hk : Kept kb s0) : Kept kb (lgvCut s0) := by
  unfold lgvCut
  with_reducible repeat' (first
      | assumption | apply capFreeze_kept | apply lgvChoose_kept | apply setSat_kept | apply setF_kept | apply capFollow_kept
      | apply setLgv_kept | apply foldl_kept | (intro _))

theorem ceilingsRise_kept {kb} {s : State} (hk : Kept kb s) : Kept kb (ceilingsRise s) := by
  unfold ceilingsRise
  with_reducible repeat' (first
      | assumption | apply setB_kept | apply setF_kept | simp only [kept_mk_eq] | apply mk_kept | split)

theorem capSwap_kept {kb} {s : State} (hk : Kept kb s) : Kept kb (capSwap s) := by
  unfold capSwap
  with_reducible repeat' (first
      | assumption | apply setF_kept | apply setB_kept | apply capFollow_kept | apply setLgv_kept)

theorem lgvSwap_kept {kb} {s : State} (hk : Kept kb s) : Kept kb (lgvSwap s) := by
  unfold lgvSwap
  with_reducible repeat' (first
      | assumption | apply ceilingsRise_kept | apply setF_kept | apply setLgv_kept | apply setB_kept
      | apply capSwap_kept | simp only [kept_mk_eq] | split)

theorem refreshRate_kept {kb} {s : State} (hk : Kept kb s) : Kept kb (refreshRate s) := by
  unfold refreshRate
  with_reducible repeat' (first
      | assumption | apply setRate_kept | split)

theorem boostCheck_kept {kb} {s : State} (hk : Kept kb s) : Kept kb (boostCheck s) := by
  unfold boostCheck
  with_reducible repeat' (first
      | assumption | apply setB_kept | apply refreshRate_kept | split)

theorem ceilingFell_kept {kb} {s : State} (hk : Kept kb s) : Kept kb (ceilingFell s) := by
  unfold ceilingFell
  with_reducible repeat' (first
      | assumption | apply repeatBreaks_kept | apply fixedCheck_kept | apply boostCheck_kept)

theorem thermLower_kept {kb} (v : Nat) (cause : Nat) {s : State} (hk : Kept kb s) : Kept kb (thermLower v cause s) := by
  unfold thermLower
  with_reducible repeat' (first
      | assumption | apply setF_kept | apply ceilingFell_kept | simp only [kept_mk_eq] | apply mk_kept
      | split)

theorem capUnattainable_kept {kb} {s : State} (hk : Kept kb s) : Kept kb (capUnattainable s) := by
  unfold capUnattainable
  with_reducible repeat' (first
      | assumption | apply sendFaultP_kept | apply setCapState_kept | simp only [kept_mk_eq] | split)

theorem lgvRechoose_kept {kb} (was : Nat × List Nat) {s : State} (hk : Kept kb s) : Kept kb (lgvRechoose was s) := by
  unfold lgvRechoose
  with_reducible repeat' (first
      | assumption | apply lgvChoose_kept | simp only [kept_mk_eq] | apply mk_psq_kept | apply kept_plan | apply kept_sig | split)

theorem lgvSafe_kept {kb} {s : State} (hk : Kept kb s) : Kept kb (lgvSafe s) := by
  unfold lgvSafe
  with_reducible repeat' (first
      | assumption | apply setF_kept | apply setLgv_kept | apply boostCheck_kept | apply setB_kept)

theorem lgvLaunch_kept {kb} (strobe : Bool) {s : State} (hk : Kept kb s) : Kept kb (lgvLaunch strobe s) := by
  unfold lgvLaunch
  with_reducible repeat' (first
      | assumption | apply fixedCheck_kept | apply boostCheck_kept | apply setLaunchRate_kept | apply setLgv_kept
      | apply setF_kept | apply incF_kept | apply setSat_kept | simp only [kept_mk_eq] | apply mk_kept | split)

theorem lgvDutyStep_kept {kb} {s : State} (hk : Kept kb s) : Kept kb (lgvDutyStep s) := by
  unfold lgvDutyStep
  with_reducible repeat' (first
      | assumption | apply setLgv_kept | apply eventP_kept | simp only [kept_mk_eq] | split)

theorem lgvClean_kept {kb} {s : State} (hk : Kept kb s) : Kept kb (lgvClean s) := by
  unfold lgvClean
  with_reducible repeat' (first
      | assumption | apply setLgv_kept)

theorem lgvSample_kept {kb} (gov : List Int) {s : State} (hk : Kept kb s) : Kept kb (lgvSample gov s) := by
  unfold lgvSample
  with_reducible repeat' (first
      | assumption | apply setLgv_kept | apply lgvClean_kept | apply setSatS_kept | apply foldl_kept
      | (intro _))

theorem thermLimWrite_kept {kb} (agent : Nat) (val : Nat) {s : State} (hk : Kept kb s) : Kept kb (thermLimWrite agent val s) := by
  unfold thermLimWrite
  with_reducible repeat' (first
      | assumption | apply pendPut_kept | split)

theorem lgvClose10_kept {kb} {s : State} (hk : Kept kb s) : Kept kb (lgvClose10 s) := by
  unfold lgvClose10
  with_reducible repeat' (first
      | assumption | apply lgvClean_kept | apply setSatS_kept | apply setLgv_kept | apply foldl_kept
      | (intro _))

theorem lgvClose1_kept {kb} {s : State} (hk : Kept kb s) : Kept kb (lgvClose1 s) := by
  unfold lgvClose1
  with_reducible repeat' (first
      | assumption | apply lgvClean_kept | apply setSat_kept | apply setLgv_kept)

theorem limitUnmet_kept {kb} (c : Nat) {s : State} (hk : Kept kb s) : Kept kb (limitUnmet c s) := by
  unfold limitUnmet
  with_reducible repeat' (first
      | assumption | apply sendFaultP_kept | apply setLgv_kept | simp only [kept_mk_eq] | split)

theorem lgvClose1ms_kept {kb} {s : State} (hk : Kept kb s) : Kept kb (lgvClose1ms s) := by
  unfold lgvClose1ms
  with_reducible repeat' (first
      | assumption | apply setLgv_kept | apply setSatS_kept | apply setSat_kept | apply lgvClean_kept | apply capFollow_kept
      | apply foldl_kept | (intro _))

theorem protectiveLowering_kept {kb} (c : Nat) {s : State} (hk : Kept kb s) : Kept kb (protectiveLowering c s) := by
  unfold protectiveLowering
  with_reducible repeat' (first
      | assumption | apply incF_kept | apply setB_kept | apply setF_kept | apply eventP_kept
      | apply ceilingFell_kept | apply setLgv_kept | simp only [kept_mk_eq] | split)

/-! ### Pxe.lean -/

theorem capture_kept {kb} (k : Nat) (e : PEv) {s : State} (hk : Kept kb s) : Kept kb (capture k e s) := by
  unfold capture
  with_reducible repeat' (first
      | assumption | apply setF_kept | apply setB_kept)

theorem captures_kept {kb} (k : Nat) (evs : List PEv) {s : State} (hk : Kept kb s) : Kept kb (captures k evs s) := by
  unfold captures
  with_reducible repeat' (first
      | assumption | apply capture_kept | apply setSat_kept | simp only [kept_mk_eq] | split)

theorem invalidOut_kept {kb} (k : Nat) (i : Nat) {s : State} (hk : Kept kb s) : Kept kb (invalidOut k i s) := by
  unfold invalidOut
  with_reducible repeat' (first
      | assumption | apply sendFault_kept | apply setB_kept | split)

theorem clampedOut_kept {kb} (k : Nat) (b : Bool) {s : State} (hk : Kept kb s) : Kept kb (clampedOut k b s) := by
  unfold clampedOut
  with_reducible repeat' (first
      | assumption | apply setB_kept | split)

theorem takeSlot3_kept {kb} {s : State} (hk : Kept kb s) : Kept kb (takeSlot3 s) := by
  unfold takeSlot3
  with_reducible repeat' (first
      | assumption | apply invalidOut_kept | apply setPxe_kept | apply setB_kept | apply clampedOut_kept
      | simp only [kept_mk_eq] | apply kept_pxe | split)

theorem dropRun_kept {kb} (k : Nat) {s : State} (hk : Kept kb s) : Kept kb (dropRun k s) := by
  unfold dropRun
  with_reducible repeat' (first
      | assumption | apply setB_kept | apply setPxe_kept | simp only [kept_mk_eq] | apply kept_pxe
      | split)

theorem setSlotSt_kept {kb} (k : Nat) (x : Nat) {s : State} (hk : Kept kb s) : Kept kb (setSlotSt k x s) := by
  unfold setSlotSt
  with_reducible repeat' (first
      | assumption | apply setF_kept)

theorem flagFault_kept {kb} (k : Nat) (r : PRun) (runs : Nat) {s : State} (f : Nat) (hk : Kept kb s) :
    Kept kb (flagFault k r runs s f) := by
  unfold flagFault
  with_reducible repeat' (first
      | assumption | apply sendFault_kept | split)

theorem mergeRun_kept {kb} (k : Nat) (r : PRun) {s : State} (hk : Kept kb s) : Kept kb (mergeRun k r s) := by
  unfold mergeRun
  with_reducible repeat' (first
      | assumption | apply setF_kept | apply captures_kept | apply flagFault_kept | apply foldl_kept)

theorem leaveRun_kept {kb} (k : Nat) (n : Nat) {s : State} (hk : Kept kb s) : Kept kb (leaveRun k n s) := by
  unfold leaveRun
  with_reducible repeat' (first
      | assumption | apply mergeRun_kept | apply setPxe_kept | simp only [kept_mk_eq] | apply runProg_mem)

theorem abandonRun_kept {kb} (k : Nat) {s : State} (hk : Kept kb s) : Kept kb (abandonRun k s) := by
  unfold abandonRun
  with_reducible repeat' (first
      | assumption | apply dropRun_kept | apply leaveRun_kept | apply freeNext_kept | split)

theorem stopSlot_kept {kb} (k : Nat) (st : Nat) {s : State} (hk : Kept kb s) : Kept kb (stopSlot k st s) := by
  unfold stopSlot
  with_reducible repeat' (first
      | assumption | apply setSlotSt_kept | apply dropRun_kept | apply abandonRun_kept | apply setPxe_kept
      | simp only [kept_mk_eq] | apply kept_pxe | split)

theorem memUncorrectable_kept {kb} (k : Nat) (addr : Nat) {s : State} (hk : Kept kb s) : Kept kb (memUncorrectable k addr s) := by
  unfold memUncorrectable
  with_reducible repeat' (first
      | assumption | apply sendFault_kept | apply setB_kept | apply dropRun_kept | apply stopSlot_kept
      | simp only [kept_mk_eq] | split)

theorem pxeMemUncorrectable_kept {kb} (k : Nat) (addr : Nat) (desc : Nat) {s : State} (hk : Kept kb s) : Kept kb (pxeMemUncorrectable k
    addr desc s) := by
  unfold pxeMemUncorrectable
  with_reducible repeat' (first
      | assumption | apply memUncorrectable_kept | apply leaveRun_kept | split)

theorem pxeOverrun_kept {kb} (k : Nat) (desc : Nat) {s : State} (hk : Kept kb s) : Kept kb (pxeOverrun k desc s) := by
  unfold pxeOverrun
  with_reducible repeat' (first
      | assumption | apply sendFault_kept | apply setB_kept | apply dropRun_kept | apply leaveRun_kept | split)

theorem takeSlot1_kept {kb} (meas : Nat → Int) {s : State} (hk : Kept kb s) : Kept kb (takeSlot1 meas s) := by
  unfold takeSlot1
  with_reducible repeat' (first
      | assumption | apply setPxe_kept | apply clampedOut_kept | apply setB_kept | apply invalidOut_kept
      | simp only [kept_mk_eq] | apply kept_pxe | split)

theorem stopEngine_kept {kb} {s : State} (hk : Kept kb s) : Kept kb (stopEngine s) := by
  unfold stopEngine
  with_reducible repeat' (first
      | assumption | apply abandonRun_kept | apply foldl_kept | (intro _))

theorem memCorrected_kept {kb} (r : PRun) {s : State} (hk : Kept kb s) : Kept kb (memCorrected r s) := by
  unfold memCorrected
  with_reducible repeat' (first
      | assumption | apply sendFault_kept | apply incF_kept | apply foldl_kept | (intro _))

theorem publishRun_kept {kb} (k : Nat) (time : Nat) {s : State} (hk : Kept kb s) : Kept kb (publishRun k time s).1 := by
  unfold publishRun
  with_reducible repeat' (first
      | assumption | apply memCorrected_kept | apply memUncorrectable_kept | apply mergeRun_kept
      | apply setPxe_kept | apply setF_kept | apply setSat_kept | simp only [kept_mk_eq] | apply foldl_kept | apply runProg_mem | split
      | (intro _))

theorem trigger_kept {kb} (k : Nat) {s : State} (hk : Kept kb s) : Kept kb (trigger k s) := by
  unfold trigger
  with_reducible repeat' (first
      | assumption | apply setPxe_kept | simp only [kept_mk_eq] | apply kept_pxe | split)

theorem slot3Trigger_kept {kb} {s : State} (hk : Kept kb s) : Kept kb (slot3Trigger s) := by
  unfold slot3Trigger
  with_reducible repeat' (first
      | assumption | apply trigger_kept | apply setPxe_kept | simp only [kept_mk_eq] | apply kept_pxe
      | split)

theorem slot1Trigger_kept {kb} {s : State} (hk : Kept kb s) : Kept kb (slot1Trigger s) := by
  unfold slot1Trigger
  with_reducible repeat' (first
      | assumption | apply trigger_kept | apply setPxe_kept | simp only [kept_mk_eq] | apply kept_pxe
      | split)

theorem pxeStored_kept {kb} (a : Nat) (n : Nat) {s : State} (hk : Kept kb s) : Kept kb (pxeStored a n s) := by
  unfold pxeStored
  with_reducible repeat' (first
      | assumption | simp only [kept_mk_eq] | apply mk_pxe_kept | apply kept_pxe)

theorem takeSlot2_kept {kb} (floor : Nat → Nat) (ceil : Nat → Nat) (budget : Nat) {s : State} (hk : Kept kb s) :
    Kept kb (takeSlot2 floor ceil budget s) := by
  unfold takeSlot2
  with_reducible repeat' (first
      | assumption | apply invalidOut_kept | apply clampedOut_kept | apply setB_kept | apply setPxe_kept
      | simp only [kept_mk_eq] | apply kept_pxe | split)

theorem capRelease_kept {kb} (k : Nat) {s : State} (hk : Kept kb s) : Kept kb (capRelease k s) := by
  unfold capRelease
  with_reducible repeat' (first
      | assumption | apply setF_kept | apply setB_kept)

/-! ### Balance.lean -/

theorem stageGrant_kept {kb} (w : Nat) (act : Nat) (at_ : Option Nat) {s : State} (hk : Kept kb s) : Kept kb (stageGrant w act at_ s) := by
  unfold stageGrant
  with_reducible repeat' (first
      | assumption | apply pendHw_kept | apply setB_kept | apply setW_kept | simp only [kept_mk_eq]
      | split)

theorem stageOut_kept {kb} {s : State} (hk : Kept kb s) : Kept kb (stageOut s) := by
  unfold stageOut
  with_reducible repeat' (first
      | assumption | apply setBal_kept | apply stageGrant_kept | simp only [kept_mk_eq] | split)

theorem setRoundState_kept {kb} (x : Nat) {s : State} (hk : Kept kb s) : Kept kb (setRoundState x s) := by
  unfold setRoundState
  with_reducible repeat' (first
      | assumption | apply setF_kept)

theorem abandonRounds_kept {kb} {s : State} (hk : Kept kb s) : Kept kb (abandonRounds s) := by
  unfold abandonRounds
  with_reducible repeat' (first
      | assumption | apply setRoundState_kept | apply setBal_kept)

theorem balPrune_kept {kb} {s : State} (hk : Kept kb s) : Kept kb (balPrune s) := by
  unfold balPrune
  with_reducible repeat' (first
      | assumption | apply abandonRounds_kept | split)

theorem floorNext_kept {kb} {s : State} (hk : Kept kb s) : Kept kb (floorNext s) := by
  unfold floorNext
  with_reducible repeat' (first
      | assumption | apply stageGrant_kept | apply setBal_kept | simp only [kept_mk_eq] | split)

theorem balAgent_kept {kb} {s : State} (hk : Kept kb s) : Kept kb (balAgent s) := by
  unfold balAgent
  with_reducible repeat' (first
      | assumption | apply stageOut_kept | apply balPrune_kept | apply floorNext_kept | apply setBal_kept | simp only [kept_mk_eq]
      | split)

theorem setHeard_kept {kb} (i : Nat) {s : State} (hk : Kept kb s) : Kept kb (setHeard i s) := by
  unfold setHeard
  with_reducible repeat' (first
      | assumption | apply setW_kept)

theorem keyGraceEnd_kept {kb} (ctx : Nat) {s : State} (hk : Kept kb s) : Kept kb (keyGraceEnd ctx s) := by
  unfold keyGraceEnd
  with_reducible repeat' (first
      | assumption | apply setBal_kept | simp only [kept_mk_eq] | split)

theorem keyInstall_kept {kb} (ctx : Nat) (gen : Nat) (key : Nat) {s : State} (hk : Kept kb s) : Kept kb (keyInstall ctx gen key s) := by
  unfold keyInstall
  with_reducible repeat' (first
      | assumption | apply setBal_kept | apply setF_kept | simp only [kept_mk_eq] | split)

theorem sbCounterEnd_kept {kb} (p : Nat) {s : State} (hk : Kept kb s) : Kept kb (sbCounterEnd p s) := by
  unfold sbCounterEnd
  with_reducible repeat' (first
      | assumption | apply sendFault_kept | apply setBal_kept | simp only [kept_mk_eq] | split)

theorem outcomeFloor_kept {kb} (r : BalRound) {s : State} (hk : Kept kb s) : Kept kb (outcomeFloor r s) := by
  unfold outcomeFloor
  with_reducible repeat' (first
      | assumption | apply incF_kept | apply setF_kept | apply sendFault_kept | apply setBal_kept
      | simp only [kept_mk_eq] | split)

theorem replaceGrant_kept {kb} (w : Nat) {s : State} (hk : Kept kb s) : Kept kb (replaceGrant w s) := by
  unfold replaceGrant
  with_reducible repeat' (first
      | assumption | apply pendHw_kept)

theorem outcomeValue_kept {kb} (code : Nat) (w : Nat) {s : State} (hk : Kept kb s) : Kept kb (outcomeValue code w s) := by
  unfold outcomeValue
  with_reducible repeat' (first
      | assumption | apply setF_kept | apply replaceGrant_kept | apply setBal_kept)

theorem balDecide_kept {kb} (last : Bool) {s : State} (hk : Kept kb s) : Kept kb (balDecide last s) := by
  unfold balDecide
  with_reducible repeat' (first
      | assumption | apply setRoundState_kept | apply setBal_kept | apply outcomeFloor_kept
      | apply setB_kept | apply sendFault_kept | apply outcomeValue_kept | simp only [kept_mk_eq] | split)

theorem balFire_kept {kb} {s : State} (hk : Kept kb s) : Kept kb (balFire s) := by
  unfold balFire
  with_reducible repeat' (first
      | assumption | apply setW_kept | apply pxeStored_kept | apply setPxe_kept | apply setRoundState_kept | apply trigger_kept
      | apply setBal_kept | simp only [kept_mk_eq] | apply kept_pxe | apply balInputs_mem | split)

theorem balOutcome_kept {kb} {s : State} (hk : Kept kb s) : Kept kb (balOutcome s) := by
  unfold balOutcome
  with_reducible repeat' (first
      | assumption | apply balDecide_kept | apply balFire_kept | apply balAgent_kept | split)

theorem relay_kept {kb} (p : Nat) (origin : Nat) (hops : Nat) (body : List Nat) {s : State} (hk : Kept kb s) :
    Kept kb (relay p origin hops body s) := by
  unfold relay
  with_reducible repeat' (first
      | assumption | apply setBal_kept | apply sealOn_kept | simp only [kept_mk_eq] | apply foldl_kept
      | split | (intro _))

theorem balStrobe_kept {kb} (ended : Nat) {s : State} (hk : Kept kb s) : Kept kb (balStrobe ended s) := by
  unfold balStrobe
  with_reducible repeat' (first
      | assumption | apply setRoundState_kept | apply setBal_kept | simp only [kept_mk_eq] | split)

theorem balCut_kept {kb} {s : State} (hk : Kept kb s) : Kept kb (balCut s) := by
  unfold balCut
  with_reducible repeat' (first
      | assumption | apply balDecide_kept | apply balPrune_kept | split)

theorem tagFail_kept {kb} (p : Nat) {s : State} (hk : Kept kb s) : Kept kb (tagFail p s) := by
  unfold tagFail
  with_reducible repeat' (first
      | assumption | apply incF_kept | apply sendFault_kept | apply setBal_kept | simp only [kept_mk_eq]
      | split)

theorem strayFrame_kept {kb} (f : List Nat) {s : State} (hk : Kept kb s) : Kept kb (strayFrame f s) := by
  unfold strayFrame
  with_reducible repeat' (first
      | assumption | apply sendFault_kept | apply setB_kept | apply stageGrant_kept | split)

theorem viewPut_kept {kb} (i : Nat) (f : List Nat) {s : State} (hk : Kept kb s) : Kept kb (viewPut i f s) := by
  unfold viewPut
  with_reducible repeat' (first
      | assumption | apply setF_kept | apply setS_kept)

theorem collect_kept {kb} (r : BalRound) (origin : Nat) (f : List Nat) {s : State} (hk : Kept kb s) : Kept kb (collect r origin f s) := by
  unfold collect
  with_reducible repeat' (first
      | assumption | apply setHeard_kept | apply viewPut_kept | apply setB_kept | apply sendFault_kept
      | apply setBal_kept | split)

theorem balFrameReceived_kept {kb} {s : State} (hk : Kept kb s) : Kept kb (balFrameReceived s) := by
  unfold balFrameReceived
  with_reducible repeat' (first
      | assumption | apply balAgent_kept | apply setBal_kept | apply strayFrame_kept | apply balFire_kept | apply collect_kept
      | simp only [kept_mk_eq] | split)

theorem balRoundBegin_kept {kb} {s : State} (hk : Kept kb s) : Kept kb (balRoundBegin s) := by
  unfold balRoundBegin
  with_reducible repeat' (first
      | assumption | apply balAgent_kept | apply stageGrant_kept | apply sealOn_kept | apply setW_kept | apply viewPut_kept
      | apply setRoundState_kept | apply incF_kept | apply setBal_kept | simp only [kept_mk_eq] | apply foldl_kept | split
      | (intro _))

theorem balPublish_kept {kb} {s : State} (hk : Kept kb s) : Kept kb (balPublish s) := by
  unfold balPublish
  with_reducible repeat' (first
      | assumption | apply takeSlot2_kept | apply setSat_kept | apply setBal_kept | simp only [kept_mk_eq]
      | apply foldl_kept | split | (intro _))

theorem sidebandReceived_kept {kb} (p : Nat) (hdr : List Nat) (body : List Nat) (tagOk : Bool) {s : State} (hk : Kept kb s) :
    Kept kb (sidebandReceived p hdr body tagOk s) := by
  unfold sidebandReceived
  with_reducible repeat' (first
      | assumption | apply tagFail_kept | apply incF_kept | apply setBal_kept | apply relay_kept
      | simp only [kept_mk_eq] | split)

theorem balClear_kept {kb} {s : State} (hk : Kept kb s) : Kept kb (balClear s) := by
  unfold balClear
  with_reducible repeat' (first
      | assumption | apply setBal_kept)

/-! ### Sense.lean -/

theorem setSns_kept {kb} (x : SnsState) {s : State} (hk : Kept kb s) : Kept kb (setSns x s) := by
  unfold setSns
  with_reducible repeat' (first
      | assumption | simp only [kept_mk_eq] | apply mk_kept)

theorem imonRange_kept {kb} (n : Nat) {s : State} (hk : Kept kb s) : Kept kb (imonRange n s) := by
  unfold imonRange
  with_reducible repeat' (first
      | assumption | apply sendFault_kept | apply askRetire_kept | apply setSns_kept
      | simp only [kept_mk_eq] | split)

theorem busXchkSuspect_kept {kb} {s : State} (hk : Kept kb s) : Kept kb (busXchkSuspect s) := by
  unfold busXchkSuspect
  with_reducible repeat' (first
      | assumption | apply sendFault_kept | apply setB_kept | simp only [kept_mk_eq] | split)

theorem measSuspectClear_kept {kb} {s : State} (hk : Kept kb s) : Kept kb (measSuspectClear s) := by
  unfold measSuspectClear
  with_reducible repeat' (first
      | assumption | apply setB_kept | split)

theorem sumsSample_kept {kb} {s : State} (hk : Kept kb s) : Kept kb (sumsSample s) := by
  unfold sumsSample
  with_reducible repeat' (first
      | assumption | apply setSns_kept)

theorem pointsSample_kept {kb} (pts : List Nat) {s : State} (hk : Kept kb s) : Kept kb (pointsSample pts s) := by
  unfold pointsSample
  with_reducible repeat' (first
      | assumption | apply setSns_kept | apply setF_kept | apply foldl_kept | (intro _))

theorem imonSample_kept {kb} (n : Nat) (code : Nat) {s : State} (hk : Kept kb s) : Kept kb (imonSample n code s) := by
  unfold imonSample
  with_reducible repeat' (first
      | assumption | apply setF_kept | apply setSatS_kept | apply setB_kept | apply setSns_kept | split)

theorem snsSample_kept {kb} (imon : List Nat) (pts : List Nat) {s : State} (hk : Kept kb s) : Kept kb (snsSample imon pts s) := by
  unfold snsSample
  with_reducible repeat' (first
      | assumption | apply sumsSample_kept | apply pointsSample_kept | apply imonSample_kept
      | apply foldl_kept | (intro _))

theorem activityFeature_kept {kb} (id : Nat) (v : Nat) {s : State} (hk : Kept kb s) : Kept kb (activityFeature id v s) := by
  unfold activityFeature
  with_reducible repeat' (first
      | assumption | apply setB_kept | apply setSns_kept | simp only [kept_mk_eq] | split)

theorem actStall_kept {kb} {s : State} (hk : Kept kb s) : Kept kb (actStall s) := by
  unfold actStall
  with_reducible repeat' (first
      | assumption | apply sendFault_kept | apply setSns_kept | simp only [kept_mk_eq] | split)

theorem tlmRound_kept {kb} {s : State} (hk : Kept kb s) : Kept kb (tlmRound s) := by
  unfold tlmRound
  with_reducible repeat' (first
      | assumption | apply setSns_kept)

theorem busSample_kept {kb} (v : Nat) (i : Nat) {s : State} (hk : Kept kb s) : Kept kb (busSample v i s) := by
  unfold busSample
  with_reducible repeat' (first
      | assumption | apply setSns_kept | apply busGood_kept | apply setF_kept)

theorem idleRuns_kept {kb} {s : State} (hk : Kept kb s) : Kept kb (idleRuns s) := by
  unfold idleRuns
  with_reducible repeat' (first
      | assumption | simp only [kept_mk_eq] | apply mk_kept)

theorem setEst_kept {kb} (x : EstState) {s : State} (hk : Kept kb s) : Kept kb (setEst x s) := by
  unfold setEst
  with_reducible repeat' (first
      | assumption | simp only [kept_mk_eq] | apply mk_kept)

theorem takeShot_kept {kb} {s : State} (hk : Kept kb s) : Kept kb (takeShot s) := by
  unfold takeShot
  with_reducible repeat' (first
      | assumption | apply beatWindow_kept | apply setEst_kept | simp only [kept_mk_eq] | apply mk_kept)

theorem tlmFrame_kept {kb} (slot : Nat) (frame : Nat) {s : State} (hk : Kept kb s) : Kept kb (tlmFrame slot frame s) := by
  unfold tlmFrame
  with_reducible repeat' (first
      | assumption | apply setSns_kept | simp only [kept_mk_eq] | split)

theorem pxeFeatures_kept {kb} {s : State} (hk : Kept kb s) : Kept kb (pxeFeatures s) := by
  unfold pxeFeatures
  with_reducible repeat' (first
      | assumption | apply injectAt_kept | apply setPxe_kept | simp only [kept_mk_eq] | apply kept_pxe
      | apply memWf_memPutLE | apply memWf_memZero | apply memWf_memCopy | apply memWf_foldl | (intro _))

theorem senseSplit_kept {kb} {s : State} (hk : Kept kb s) : Kept kb (senseSplit s) := by
  unfold senseSplit
  with_reducible repeat' (first
      | assumption | apply sendFault_kept | apply setB_kept | apply setSns_kept | simp only [kept_mk_eq]
      | split)

theorem senseOpen_kept {kb} (p : Nat) {s : State} (hk : Kept kb s) : Kept kb (senseOpen p s) := by
  unfold senseOpen
  with_reducible repeat' (first
      | assumption | apply setF_kept | apply sendFault_kept | apply regate_kept | apply restEnds_kept
      | apply beginStop_kept | simp only [kept_mk_eq] | split)

theorem xchkRound_kept {kb} {s : State} (hk : Kept kb s) : Kept kb (xchkRound s) := by
  unfold xchkRound
  with_reducible repeat' (first
      | assumption | apply setSat_kept | apply setB_kept | apply setSns_kept | split)

theorem hksChannel_kept {kb} (conv : Assoc Nat) (c : Nat) {s : State} (hk : Kept kb s) : Kept kb (hksChannel conv c s) := by
  unfold hksChannel
  with_reducible repeat' (first
      | assumption | apply setF_kept | apply setB_kept | apply setSns_kept | apply setSat_kept
      | simp only [kept_mk_eq] | split)

theorem tlmSilent_kept {kb} (a : Nat) {s : State} (hk : Kept kb s) : Kept kb (tlmSilent a s) := by
  unfold tlmSilent
  with_reducible repeat' (first
      | assumption | apply sendFault_kept | apply setSns_kept | simp only [kept_mk_eq] | split)

theorem busVRange_kept {kb} {s : State} (hk : Kept kb s) : Kept kb (busVRange s) := by
  unfold busVRange
  with_reducible repeat' (first
      | assumption | apply sendFault_kept | apply setSns_kept | simp only [kept_mk_eq] | split)

theorem windowDone_kept {kb} (late : Nat) {s : State} (hk : Kept kb s) : Kept kb (windowDone late s) := by
  unfold windowDone
  with_reducible repeat' (first
      | assumption | apply setSns_kept | apply setSat_kept | apply setF_kept | apply trigger_kept
      | apply idleRuns_kept | apply pxeFeatures_kept | apply setEst_kept | simp only [kept_mk_eq] | split)

theorem windowStale_kept {kb} (late : Nat) {s : State} (hk : Kept kb s) : Kept kb (windowStale late s) := by
  unfold windowStale
  with_reducible repeat' (first
      | assumption | apply windowDone_kept | split)

theorem hksPublish_kept {kb} (conv : List (Nat × Nat)) {s : State} (hk : Kept kb s) : Kept kb (hksPublish conv s) := by
  unfold hksPublish
  with_reducible repeat' (first
      | assumption | apply setF_kept | apply hksChannel_kept | apply foldl_kept | (intro _))

theorem hksInvalid_kept {kb} (c : Nat) {s : State} (hk : Kept kb s) : Kept kb (hksInvalid c s) := by
  unfold hksInvalid
  with_reducible repeat' (first
      | assumption | apply sendFault_kept | apply setSns_kept | simp only [kept_mk_eq] | split)

theorem pxeThermal_kept {kb} (maxima : Nat → Int) {s : State} (hk : Kept kb s) : Kept kb (pxeThermal maxima s) := by
  unfold pxeThermal
  with_reducible repeat' (first
      | assumption | apply pxeStored_kept | apply setPxe_kept | simp only [kept_mk_eq] | apply kept_pxe | apply memWf_memPutLE
      | apply memWf_foldl | (intro _))

/-! ### Rest.lean -/

theorem setSta_kept {kb} (a : StaState) {s : State} (hk : Kept kb s) : Kept kb (setSta a s) := by
  unfold setSta
  with_reducible repeat' (first
      | assumption | simp only [kept_mk_eq] | apply mk_kept)

theorem boundShow_kept {kb} {s : State} (hk : Kept kb s) : Kept kb (boundShow s) := by
  unfold boundShow
  with_reducible repeat' (first
      | assumption | apply setSat_kept)

theorem hbStop_kept {kb} {s : State} (hk : Kept kb s) : Kept kb (hbStop s) := by
  unfold hbStop
  with_reducible repeat' (first
      | assumption | apply setB_kept)

theorem safeEnter_kept {kb} (cause : Nat) {s : State} (hk : Kept kb s) : Kept kb (safeEnter cause s) := by
  unfold safeEnter
  with_reducible repeat' (first
      | assumption | apply setSta_kept | apply setF_kept | apply setB_kept | apply event_kept | apply sendFault_kept
      | apply fixedCheck_kept | apply lgvSafe_kept | apply boundShow_kept | apply refreshRate_kept | apply applySelect_kept
      | apply hbStop_kept | apply addAct_kept | simp only [kept_mk_eq] | split)

theorem restSample_kept {kb} {s : State} (hk : Kept kb s) : Kept kb (restSample s) := by
  unfold restSample
  with_reducible repeat' (first
      | assumption | apply setSta_kept | simp only [kept_mk_eq] | split)

theorem safeAsk_kept {kb} (cause : Nat) {s : State} (hk : Kept kb s) : Kept kb (safeAsk cause s) := by
  unfold safeAsk
  with_reducible repeat' (first
      | assumption | apply setSta_kept | simp only [kept_mk_eq] | split)

theorem enterSafe_kept {kb} (val : Nat) {s : State} (hk : Kept kb s) : Kept kb (enterSafe val s) := by
  unfold enterSafe
  with_reducible repeat' (first
      | assumption | apply safeAsk_kept | split)

theorem wakeBegin_kept {kb} {s : State} (hk : Kept kb s) : Kept kb (wakeBegin s) := by
  unfold wakeBegin
  with_reducible repeat' (first
      | assumption | apply boundShow_kept | apply applySelect_kept | apply setSta_kept | apply setF_kept | apply retarget_kept
      | apply slotBegin_kept | apply setStop_kept | apply railOff_kept | simp only [kept_mk_eq] | apply foldl_kept | split
      | (intro _))

theorem staWake_kept {kb} (val : Nat) {s : State} (hk : Kept kb s) : Kept kb (staWake val s) := by
  unfold staWake
  with_reducible repeat' (first
      | assumption | apply wakeBegin_kept | split)

theorem restMark_kept {kb} (t : Nat) {s : State} (hk : Kept kb s) : Kept kb (restMark t s) := by
  unfold restMark
  with_reducible repeat' (first
      | assumption | apply stopEngine_kept | apply regate_kept | apply setF_kept | apply incF_kept | apply event_kept | split)

theorem srConfirmed_kept {kb} {s : State} (hk : Kept kb s) : Kept kb (srConfirmed s) := by
  unfold srConfirmed
  with_reducible repeat' (first
      | assumption | apply setSta_kept | apply restMark_kept | apply stopNext_kept | apply setStop_kept
      | apply setB_kept | simp only [kept_mk_eq] | split)

theorem exitDone_kept {kb} {s : State} (hk : Kept kb s) : Kept kb (exitDone s) := by
  unfold exitDone
  with_reducible repeat' (first
      | assumption | apply setSat_kept | apply setF_kept | apply event_kept | apply sendFault_kept
      | apply setB_kept | apply setRailSt_kept | apply regate_kept | apply setSta_kept | apply releaseBeats_kept | simp only [kept_mk_eq]
      | split)

theorem restWake_kept {kb} {s : State} (hk : Kept kb s) : Kept kb (restWake s) := by
  unfold restWake
  with_reducible repeat' (first
      | assumption | apply wakeBegin_kept | split)

theorem lateWake_kept {kb} {s : State} (hk : Kept kb s) : Kept kb (lateWake s) := by
  unfold lateWake
  with_reducible repeat' (first
      | assumption | apply incF_kept | apply setB_kept | apply event_kept | apply holdBeats_kept
      | apply regate_kept | apply wakeBegin_kept | apply setSta_kept | simp only [kept_mk_eq] | split)

theorem safeStateEnter_kept {kb} {s : State} (hk : Kept kb s) : Kept kb (safeStateEnter s) := by
  unfold safeStateEnter
  with_reducible repeat' (first
      | assumption | apply safeEnter_kept | split)

theorem restEnter_kept {kb} {s : State} (hk : Kept kb s) : Kept kb (restEnter s) := by
  unfold restEnter
  with_reducible repeat' (first
      | assumption | apply restMark_kept | apply setSta_kept | apply retarget_kept | apply setRailSt_kept
      | simp only [kept_mk_eq] | split)

theorem srTimeout_kept {kb} {s : State} (hk : Kept kb s) : Kept kb (srTimeout s) := by
  unfold srTimeout
  with_reducible repeat' (first
      | assumption | apply sendFault_kept | apply setB_kept | apply setSta_kept | simp only [kept_mk_eq]
      | split)

end Sys2Proof.Machine
end

