-- ==== Sys2Proof/Laws/KeptRecords.lean ====
section
/-! SUPPORT. One lemma per operation: it keeps what `Kept` says. Here rings, transfers, the recorder, the collector and the security unit. -/

namespace Sys2Proof.Machine

/-! ### Ring.lean -/

theorem gateClose_kept {kb} (agent : Nat) {s : State} (hk : Kept kb s) : Kept kb (gateClose agent s) := by
  unfold gateClose
  with_reducible repeat' (first
      | assumption | apply setB_kept | simp only [kept_mk_eq] | apply mk_kept | split)

theorem setupReject_kept {kb} (q : Nat) (reason : Nat) {s : State} (hk : Kept kb s) : Kept kb (setupReject q reason s) := by
  unfold setupReject
  with_reducible repeat' (first
      | assumption | apply setB_kept | apply setF_kept)

theorem setRingSt_kept {kb} (q : Nat) (x : Nat) {s : State} (hk : Kept kb s) : Kept kb (setRingSt q x s) := by
  unfold setRingSt
  with_reducible repeat' (first
      | assumption | apply setF_kept)

theorem ringEnable_kept {kb} (q : Nat) (base : Nat) (lg : Nat) {s : State} (hk : Kept kb s) : Kept kb (ringEnable q base lg s) := by
  unfold ringEnable
  with_reducible repeat' (first
      | assumption | apply setupReject_kept | apply setF_kept | apply setB_kept | apply setRingSt_kept
      | apply setCmd_kept | simp only [kept_mk_eq] | apply kept_win | apply kept_xfers | split)

theorem pktDrop_kept {kb} (id : Nat) {s : State} (hk : Kept kb s) : Kept kb (pktDrop id s) := by
  unfold pktDrop
  with_reducible repeat' (first
      | assumption | apply setCmd_kept | simp only [kept_mk_eq] | apply kept_win | apply kept_xfers)

theorem ringRoom_kept {kb} (q : Nat) {s : State} (hk : Kept kb s) : Kept kb (ringRoom q s) := by
  unfold ringRoom
  with_reducible repeat' (first
      | assumption | apply setRingSt_kept | split)

theorem raiseVec_kept {kb} (v : Nat) {s : State} (hk : Kept kb s) : Kept kb (raiseVec v s) := by
  unfold raiseVec
  with_reducible repeat' (first
      | assumption | apply setCmd_kept | simp only [kept_mk_eq] | apply kept_win | apply kept_xfers)

theorem complete_kept {kb} (q : Nat) (seq : Nat) (status : Nat) (applied : Nat) (detail : Nat) (irq : Bool) {s : State} (hk : Kept kb s) :
    Kept kb (complete q seq status applied detail irq s) := by
  unfold complete
  with_reducible repeat' (first
      | assumption | apply setCmd_kept | apply setF_kept | apply sramStore_kept | apply raiseVec_kept
      | simp only [kept_mk_eq] | apply kept_win | apply kept_xfers | apply memWf_memPut | split)

theorem pktComplete_kept {kb} (p : OutPkt) (status : Nat) (applied : Nat) (detail : Nat) {s : State} (hk : Kept kb s) :
    Kept kb (pktComplete p status applied detail s) := by
  unfold pktComplete
  with_reducible repeat' (first
      | assumption | apply ringRoom_kept | apply complete_kept | apply pktDrop_kept)

theorem gateDiscard_kept {kb} {s : State} (hk : Kept kb s) : Kept kb (gateDiscard s) := by
  unfold gateDiscard
  with_reducible repeat' (first
      | assumption | apply settleKey_kept | apply setB_kept | apply sendFault_kept
      | simp only [kept_mk_eq] | apply mk_kept | apply foldl_kept | split | (intro _))

theorem ringReset_kept {kb} (q : Nat) {s : State} (hk : Kept kb s) : Kept kb (ringReset q s) := by
  unfold ringReset
  with_reducible repeat' (first
      | assumption | apply setCmd_kept | apply setF_kept | apply setB_kept | apply setRingSt_kept
      | simp only [kept_mk_eq] | apply kept_win | apply kept_xfers | split)

theorem mbxRead_kept {kb} (agent : Nat) (m : Nat) {s : State} (hk : Kept kb s) : Kept kb (mbxRead agent m s).1 := by
  unfold mbxRead
  with_reducible repeat' (first
      | assumption | apply setB_kept | split)

theorem cqHeadWrite_kept {kb} (agent : Nat) (q : Nat) (val : Nat) {s : State} (hk : Kept kb s) : Kept kb (cqHeadWrite agent q val s) := by
  unfold cqHeadWrite
  with_reducible repeat' (first
      | assumption | apply ringRoom_kept | apply setF_kept | split)

theorem pktUpd_kept {kb} (id : Nat) (f : OutPkt → OutPkt) {s : State} (hk : Kept kb s) : Kept kb (pktUpd id f s) := by
  unfold pktUpd
  with_reducible repeat' (first
      | assumption | apply setCmd_kept | simp only [kept_mk_eq] | apply kept_win | apply kept_xfers)

theorem ringDoorbell_kept {kb} (agent : Nat) (q : Nat) (val : Nat) {s : State} (hk : Kept kb s) : Kept kb (ringDoorbell agent q val s) := by
  unfold ringDoorbell
  with_reducible repeat' (first
      | assumption | apply setF_kept | apply setCmd_kept | apply incF_kept | simp only [kept_mk_eq]
      | apply kept_win | apply kept_xfers | split)

theorem served_kept {kb} (q : Nat) {s : State} (hk : Kept kb s) : Kept kb (served q s) := by
  unfold served
  with_reducible repeat' (first
      | assumption | apply setCmd_kept | simp only [kept_mk_eq] | apply kept_win | apply kept_xfers
      | split)

theorem gateOpen_kept {kb} (agent : Nat) {s : State} (hk : Kept kb s) : Kept kb (gateOpen agent s) := by
  unfold gateOpen
  with_reducible repeat' (first
      | assumption | apply setB_kept | split)

theorem ringDisable_kept {kb} (q : Nat) {s : State} (hk : Kept kb s) : Kept kb (ringDisable q s) := by
  unfold ringDisable
  with_reducible repeat' (first
      | assumption | apply setupReject_kept | apply setB_kept | apply setRingSt_kept | split)

theorem ringCfgWrite_kept {kb} (agent : Nat) (q : Nat) (val : Nat) {s : State} (hk : Kept kb s) : Kept kb (ringCfgWrite agent q val s) := by
  unfold ringCfgWrite
  with_reducible repeat' (first
      | assumption | apply setF_kept | apply ringReset_kept | apply ringEnable_kept
      | apply ringDisable_kept | simp only [kept_mk_eq] | split)

theorem pktPut_kept {kb} (p : OutPkt) {s : State} (hk : Kept kb s) : Kept kb (pktPut p s) := by
  unfold pktPut
  with_reducible repeat' (first
      | assumption | apply setCmd_kept | simp only [kept_mk_eq] | apply kept_win | apply kept_xfers)

theorem ringCqWrite_kept {kb} (agent : Nat) (q : Nat) (val : Nat) {s : State} (hk : Kept kb s) : Kept kb (ringCqWrite agent q val s) := by
  unfold ringCqWrite
  with_reducible repeat' (first
      | assumption | apply setF_kept | split)

theorem mbxWrite_kept {kb} (agent : Nat) (m : Nat) (w : Nat) {s : State} (hk : Kept kb s) : Kept kb (mbxWrite agent m w s) := by
  unfold mbxWrite
  with_reducible repeat' (first
      | assumption | apply incF_kept | apply setB_kept | apply setF_kept | apply raiseVec_kept
      | simp only [kept_mk_eq] | split)

theorem mbxAnswer_kept {kb} (m : Nat) (mine : Nat → Bool) (reply : Nat → Nat) {s : State} (hk : Kept kb s) :
    Kept kb (mbxAnswer m mine reply s) := by
  unfold mbxAnswer
  with_reducible repeat' (first
      | assumption | apply mbxWrite_kept | apply mbxRead_kept | split)

theorem pktDone_kept {kb} (id : Nat) (status : Nat) (applied : Nat) (detail : Nat) {s : State} (hk : Kept kb s) :
    Kept kb (pktDone id status applied detail s) := by
  unfold pktDone
  with_reducible repeat' (first
      | assumption | apply pktUpd_kept)

theorem ringAll_kept {kb} {s : State} (hk : Kept kb s) : Kept kb (ringAll s) := by
  unfold ringAll
  with_reducible repeat' (first
      | assumption | apply setCmd_kept | simp only [kept_mk_eq] | apply kept_win | apply kept_xfers)

/-! ### Transfer.lean -/

theorem endXfer_kept {kb} (t : Nat) {s : State} (hk : Kept kb s) : Kept kb (endXfer t s) := by
  unfold endXfer
  with_reducible repeat' (first
      | assumption | apply setCmd_kept | simp only [kept_mk_eq] | apply kept_win | apply kept_xfers
      | apply xfersOk_aDel)

theorem planCommit_kept {kb} (m : Mem) {s : State} (hk : Kept kb s) : Kept kb (planCommit m s) := by
  unfold planCommit
  with_reducible repeat' (first
      | assumption | apply setB_kept | apply setW_kept | apply setF_kept | apply injectAt_kept | apply addActNext_kept
      | simp only [kept_mk_eq] | apply mk_psq_kept | apply foldl_kept | apply kept_plan | apply kept_sig | apply memWf_nil
      | apply memWf_memPut | apply memWf_memZero | split | (intro _))

theorem progLoadStatus_kept {kb} (slot : Nat) (detail : Nat) (index : Nat) (loading : Bool) {s : State} (hk : Kept kb s) :
    Kept kb (progLoadStatus slot detail index loading s) := by
  unfold progLoadStatus
  with_reducible repeat' (first
      | assumption | apply setB_kept | apply setF_kept)

theorem abandonXfer_kept {kb} (t : Nat) (g : Target) {s : State} (hg : ∀ u, Kept kb u → Kept kb (g.abandon u)) (h : Kept kb s) :
    Kept kb (abandonXfer t g s) := by
  unfold abandonXfer
  split
  · split
    · exact hg _ (endXfer_kept _ h)
    · exact endXfer_kept _ h
  · exact h

theorem takeBlock_kept {kb} (t : Nat) (g : Target) (off : Nat) (data : List Nat) {s : State}
    (hp : ∀ m u, Kept kb u → Kept kb (g.pass m u)) (hf : ∀ d u, Kept kb u → Kept kb (g.fail d u))
    (hw : ∀ m u, memWf m = true → Kept kb u → Kept kb (g.whole m u).1) (ha : ∀ u, Kept kb u → Kept kb (g.abandon u))
    (hl : ∀ u, Kept kb u → Kept kb (g.lost u)) (h : Kept kb s) : Kept kb (takeBlock t g off data s).1 := by
  unfold takeBlock
  extract_lets s0
  have h0 : Kept kb s0 := by
    unfold s0; split
    · exact setXfer_kept (abandonXfer_kept t g ha h) rfl
    · exact h
  split
  · exact h0
  rename_i x hx
  have hb : memWf x.buf = true := xferOf_mem h0 hx
  dsimp only
  have hm : memWf (memPut x.buf off data) = true := memWf_memPut _ _ _ hb
  repeat' (first | exact h0 | apply setXfer_kept | apply hf | apply hw | apply endXfer_kept | apply hp | apply hl | exact hm | exact hb | split)

theorem progCommit_kept {kb} (slot : Nat) (m : Mem) {s : State} (hk : Kept kb s) : Kept kb (progCommit slot m s) := by
  unfold progCommit
  with_reducible repeat' (first
      | assumption | apply pxeStored_kept | apply setPxe_kept | apply setF_kept | apply setSlotSt_kept | apply addActNext_kept
      | apply setB_kept | simp only [kept_mk_eq] | apply foldl_kept | apply kept_pxe | apply placeImage_mem | split | (intro _))

theorem planLoadStatus_kept {kb} (detail : Nat) (half : Nat) (index : Nat) (loading : Bool) {s : State} (hk : Kept kb s) :
    Kept kb (planLoadStatus detail half index loading s) := by
  unfold planLoadStatus
  with_reducible repeat' (first
      | assumption | apply setB_kept | apply setF_kept)

theorem planTarget_kept {kb} {u : State} (h : Kept kb u) : (∀ m, Kept kb (planTarget.pass m u)) ∧ (∀ d, Kept kb (planTarget.fail d u)) ∧
    (∀ m, Kept kb (planTarget.whole m u).1) ∧ Kept kb (planTarget.abandon u) ∧ Kept kb (planTarget.lost u) := by
  refine ⟨fun m => setB_kept _ _ (setF_kept h), fun d => planLoadStatus_kept _ _ _ _ h, fun m => ?_, setB_kept _ _ h, setF_kept h⟩
  unfold planTarget; dsimp only; split
  · exact planLoadStatus_kept _ _ _ _ h
  · exact planCommit_kept _ (planLoadStatus_kept _ _ _ _ h)

theorem progTarget_kept {kb} (slot : Nat) {u : State} (h : Kept kb u) : (∀ m, Kept kb ((progTarget slot).pass m u)) ∧
    (∀ d, Kept kb ((progTarget slot).fail d u)) ∧ (∀ m, Kept kb ((progTarget slot).whole m u).1) ∧
    Kept kb ((progTarget slot).abandon u) ∧ Kept kb ((progTarget slot).lost u) := by
  refine ⟨fun m => setB_kept _ _ (setF_kept (stopSlot_kept _ _ h)), fun d => progLoadStatus_kept _ _ _ _ h, fun m => ?_,
    setB_kept _ _ (setSlotSt_kept _ _ h), setF_kept (setF_kept h)⟩
  unfold progTarget; dsimp only; split
  · exact progCommit_kept _ _ (progLoadStatus_kept _ _ _ _ h)
  · exact progLoadStatus_kept _ _ _ _ (setSlotSt_kept _ _ h)

/-! ### Recorder.lean -/

theorem retirePrev_kept {kb} {s : State} (hk : Kept kb s) : Kept kb (retirePrev s) := by
  unfold retirePrev
  with_reducible repeat' (first
      | assumption | apply setB_kept | apply setEvr_kept | apply event_kept | simp only [kept_mk_eq]
      | apply kept_buf | apply kept_part | split)

theorem restoreStaged_kept {kb} {s : State} (hk : Kept kb s) : Kept kb (restoreStaged s) := by
  unfold restoreStaged
  with_reducible repeat' (first
      | assumption | apply retirePrev_kept | apply setF_kept | apply setEvr_kept | simp only [kept_mk_eq]
      | apply foldl_kept | apply kept_buf | apply kept_part | (intro _))

theorem addLost_kept {kb} (first : Nat) (n : Nat) {s : State} (hk : Kept kb s) : Kept kb (addLost first n s) := by
  unfold addLost
  with_reducible repeat' (first
      | assumption | apply setEvr_kept | simp only [kept_mk_eq] | apply kept_buf | apply kept_part)

theorem setLast_kept {kb} (g : Gran) {s : State} (hk : Kept kb s) : Kept kb (setLast g s) := by
  unfold setLast
  with_reducible repeat' (first
      | assumption | apply setEvr_kept | simp only [kept_mk_eq] | apply kept_buf | apply kept_part)

theorem showOldest_kept {kb} {s : State} (hk : Kept kb s) : Kept kb (showOldest s) := by
  unfold showOldest
  with_reducible repeat' (first
      | assumption | apply setF_kept | apply setW_kept | split)

theorem keepBound_kept {kb} {s : State} (hk : Kept kb s) : Kept kb (keepBound s) := by
  unfold keepBound
  with_reducible repeat' (first
      | assumption | apply setEvr_kept | simp only [kept_mk_eq] | apply kept_buf | apply kept_part
      | split)

theorem storeRec_kept {kb} (typ : Nat) (body : List Nat) {s : State} (hk : Kept kb s) : Kept kb (storeRec typ body s) := by
  unfold storeRec
  with_reducible repeat' (first
      | assumption | apply injectAt_kept | apply setEvr_kept | apply setLast_kept | apply setF_kept
      | apply setW_kept | apply showOldest_kept | apply keepBound_kept | simp only [kept_mk_eq] | apply kept_buf | apply kept_part
      | apply memWf_memPut | split)

theorem epochRec_kept {kb} (reason : Nat) {s : State} (hk : Kept kb s) : Kept kb (epochRec reason s) := by
  unfold epochRec
  with_reducible repeat' (first
      | assumption | apply storeRec_kept | apply setEvr_kept | simp only [kept_mk_eq] | apply kept_buf
      | apply kept_part)

theorem markFlushed_kept {kb} (slots : List Nat) {s : State} (hk : Kept kb s) : Kept kb (markFlushed slots s) := by
  unfold markFlushed
  with_reducible repeat' (first
      | assumption | apply setEvr_kept | simp only [kept_mk_eq] | apply kept_buf | apply kept_part)

theorem giveUp_kept {kb} (l : List Gran) {s : State} (hk : Kept kb s) : Kept kb (giveUp l s) := by
  unfold giveUp
  with_reducible repeat' (first
      | assumption | apply addLost_kept | apply markFlushed_kept | apply foldl_kept | (intro _))

theorem eraseGran_kept {kb} (i : Nat) {s : State} (hk : Kept kb s) : Kept kb (eraseGran i s) := by
  unfold eraseGran
  with_reducible repeat' (first
      | assumption | apply setEvr_kept | apply setF_kept | simp only [kept_mk_eq] | apply kept_buf
      | apply kept_part | apply memWf_memZero | split)

theorem eraseAhead_kept {kb} {s : State} (hk : Kept kb s) : Kept kb (eraseAhead s) := by
  unfold eraseAhead
  with_reducible repeat' (first
      | assumption | apply setF_kept | apply eraseGran_kept | split)

theorem lossSeen_kept {kb} (n : Nat) (reason : Nat) {s : State} (hk : Kept kb s) : Kept kb (lossSeen n reason s) := by
  unfold lossSeen
  with_reducible repeat' (first
      | assumption | apply sendFault_kept | apply setB_kept)

theorem openGran_kept {kb} {s : State} (hk : Kept kb s) : Kept kb (openGran s) := by
  unfold openGran
  with_reducible repeat' (first
      | assumption | apply addLost_kept | apply setEvr_kept | simp only [kept_mk_eq] | apply kept_buf
      | apply kept_part | apply memWf_memZero | split)

theorem closeGran_kept {kb} {s : State} (hk : Kept kb s) : Kept kb (closeGran s) := by
  unfold closeGran
  with_reducible repeat' (first
      | assumption | apply storeRec_kept | apply setEvr_kept | simp only [kept_mk_eq] | apply kept_buf
      | apply kept_part | split)

theorem roomFor_kept {kb} (n : Nat) {s : State} (hk : Kept kb s) : Kept kb (roomFor n s) := by
  unfold roomFor
  with_reducible repeat' (first
      | assumption | apply epochRec_kept | apply openGran_kept | apply closeGran_kept
      | simp only [kept_mk_eq] | split)

theorem watchHits_kept {kb} (q : Nat) (typ : Nat) (ev : Nat) {s : State} (hk : Kept kb s) : Kept kb (watchHits q typ ev s) := by
  unfold watchHits
  with_reducible repeat' (first
      | assumption | apply incF_kept | apply setEvr_kept | simp only [kept_mk_eq] | apply foldl_kept
      | apply kept_buf | apply kept_part | split | (intro _))

theorem putRec_kept {kb} (typ : Nat) (ev : Nat) (body : List Nat) {s : State} (hk : Kept kb s) : Kept kb (putRec typ ev body s) := by
  unfold putRec
  with_reducible repeat' (first
      | assumption | apply roomFor_kept | apply watchHits_kept | apply storeRec_kept)

theorem inputLoss_kept {kb} {s : State} (hk : Kept kb s) : Kept kb (inputLoss s) := by
  unfold inputLoss
  with_reducible repeat' (first
      | assumption | apply lossSeen_kept | apply putRec_kept | simp only [kept_mk_eq] | apply mk_kept
      | split)

theorem markDone_kept {kb} (a : Arrival) (detail : Nat) {s : State} (hk : Kept kb s) : Kept kb (markDone a detail s) := by
  unfold markDone
  with_reducible repeat' (first
      | assumption | apply pktComplete_kept | split)

theorem takeRec_kept {kb} (a : Arrival) {s : State} (hk : Kept kb s) : Kept kb (takeRec a s) := by
  unfold takeRec
  with_reducible repeat' (first
      | assumption | apply markDone_kept | apply freeNext_kept | apply incF_kept | apply roomFor_kept
      | apply putRec_kept | simp only [kept_mk_eq] | split)

theorem acceptRec_kept {kb} (a : Arrival) {s : State} (hk : Kept kb s) : Kept kb (acceptRec a s) := by
  unfold acceptRec
  with_reducible repeat' (first
      | assumption | apply inputLoss_kept | apply takeRec_kept)

theorem recordPost_kept {kb} {s : State} (hk : Kept kb s) : Kept kb (recordPost s) := by
  unfold recordPost
  with_reducible repeat' (first
      | assumption | apply acceptRec_kept | simp only [kept_mk_eq] | apply mk_kept | split)

theorem nextSeal_kept {kb} {s : State} (hk : Kept kb s) : Kept kb (nextSeal s) := by
  unfold nextSeal
  with_reducible repeat' (first
      | assumption | apply setW_kept | apply setEvr_kept | simp only [kept_mk_eq] | apply kept_buf
      | apply kept_part | split)

theorem sealGran_kept {kb} (b : List Nat) {s : State} (hk : Kept kb s) : Kept kb (sealGran b s) := by
  unfold sealGran
  with_reducible repeat' (first
      | assumption | apply setEvr_kept | apply nextSeal_kept | apply setF_kept | simp only [kept_mk_eq]
      | apply kept_buf | apply kept_part | apply memWf_memPut | apply memWf_memZero)

theorem writeHead_kept {kb} {s : State} (hk : Kept kb s) : Kept kb (writeHead s) := by
  unfold writeHead
  with_reducible repeat' (first
      | assumption | apply keepBound_kept | apply setW_kept | apply sealGran_kept | apply setEvr_kept
      | apply lossSeen_kept | simp only [kept_mk_eq] | apply foldl_kept | apply kept_buf | apply kept_part | split | (intro _))

theorem snapSplit_kept {kb} {s : State} (hk : Kept kb s) : Kept kb (snapSplit s) := by
  unfold snapSplit
  with_reducible repeat' (first
      | assumption | apply setEvr_kept | simp only [kept_mk_eq] | apply kept_buf | apply kept_part)

theorem keyRotate_kept {kb} {s : State} (hk : Kept kb s) : Kept kb (keyRotate s) := by
  unfold keyRotate
  with_reducible repeat' (first
      | assumption | apply freeNext_kept | apply setEvr_kept | apply setF_kept | apply event_kept
      | apply setB_kept | simp only [kept_mk_eq] | apply kept_buf | apply kept_part)

theorem ownRec_kept {kb} (typ : Nat) (body : List Nat) {s : State} (hk : Kept kb s) : Kept kb (ownRec typ body s) := by
  unfold ownRec
  with_reducible repeat' (first
      | assumption | apply postRec_kept)

theorem writeSlot_kept {kb} (slot : Nat) {s : State} (hk : Kept kb s) : Kept kb (writeSlot slot s) := by
  unfold writeSlot
  with_reducible repeat' (first
      | assumption | apply markFlushed_kept | apply sealGran_kept | apply setW_kept
      | simp only [kept_mk_eq] | split)

theorem flushAnswer_kept {kb} (full : Bool) (grans : Nat) (recs : Nat) {s : State} (hk : Kept kb s) :
    Kept kb (flushAnswer full grans recs s) := by
  unfold flushAnswer
  with_reducible repeat' (first
      | assumption | apply pktComplete_kept | apply foldl_kept | split | (intro _))

theorem hoursSave_kept {kb} {s : State} (hk : Kept kb s) : Kept kb (hoursSave s) := by
  unfold hoursSave
  with_reducible repeat' (first
      | assumption | apply setEvr_kept | simp only [kept_mk_eq] | apply kept_buf | apply kept_part)

theorem bufBad_kept {kb} (off : Nat) {s : State} (hk : Kept kb s) : Kept kb (bufBad off s) := by
  unfold bufBad
  with_reducible repeat' (first
      | assumption | apply setB_kept | apply sendFault_kept)

theorem skipBad_kept {kb} {s : State} (hk : Kept kb s) : Kept kb (skipBad s) := by
  unfold skipBad
  with_reducible repeat' (first
      | assumption | apply giveUp_kept | apply bufBad_kept | apply foldl_kept | split | (intro _))

theorem flushStart_kept {kb} (trig : Nat) {s : State} (hk : Kept kb s) : Kept kb (flushStart trig s) := by
  unfold flushStart
  with_reducible repeat' (first
      | assumption | apply skipBad_kept | apply closeGran_kept | apply setB_kept | apply setEvr_kept
      | apply markFlushed_kept | apply giveUp_kept | simp only [kept_mk_eq] | apply kept_buf | apply kept_part | split)

theorem flushDone_kept {kb} (ok : Option Nat) {s : State} (h : Kept kb s) : Kept kb (flushDone ok s) := by
  unfold flushDone
  split
  · exact h
  extract_lets h0 total n slots recs s1 s2 s3 stuck full s4 again e5 s5
  have h1 : Kept kb s1 := by
    unfold s1; split
    · exact foldl_kept (fun t x ht => by split; exact addLost_kept _ _ ht; exact ht) h
    · exact writeHead_kept h
  have h2 : Kept kb s2 := foldl_kept (fun t x ht => writeSlot_kept _ ht) h1
  have h3 : Kept kb s3 := by
    unfold s3; split
    · exact setB_kept _ _ (sendFault_kept _ _ _ h2)
    · split
      · exact setB_kept _ _ h2
      · exact h2
  have h4 : Kept kb s4 := flushAnswer_kept _ _ _ (event_kept _ _ (hoursSave_kept h3))
  have h5 : Kept kb s5 := setB_kept _ _ (setEvr_kept h4 h4.buf h4.part)
  split
  · exact h5
  · exact flushStart_kept _ h5

theorem flushBegin_kept {kb} (trig : Nat) {s : State} (hk : Kept kb s) : Kept kb (flushBegin trig s) := by
  unfold flushBegin
  with_reducible repeat' (first
      | assumption | apply flushStart_kept | apply setEvr_kept | simp only [kept_mk_eq] | apply kept_buf
      | apply kept_part | split)

theorem flushNow_kept {kb} (trig : Nat) {s : State} (hk : Kept kb s) : Kept kb (flushNow trig s) := by
  unfold flushNow
  with_reducible repeat' (first
      | assumption | apply flushDone_kept | apply flushBegin_kept)

theorem flushMinEnd_kept {kb} {s : State} (hk : Kept kb s) : Kept kb (flushMinEnd s) := by
  unfold flushMinEnd
  with_reducible repeat' (first
      | assumption | apply flushBegin_kept | apply setB_kept | apply setEvr_kept | simp only [kept_mk_eq]
      | apply kept_buf | apply kept_part | split)

theorem evrWinRead_kept {kb} (agent : Nat) (i : Nat) (tag : Bool) {s : State} (hk : Kept kb s) : Kept kb (evrWinRead agent i tag s) := by
  unfold evrWinRead
  with_reducible repeat' (first
      | assumption | apply sendFault_kept | apply setB_kept | apply bufBad_kept | simp only [kept_mk_eq]
      | split)

theorem snapWrite_kept {kb} (n : Snap) {s : State} (hk : Kept kb s) : Kept kb (snapWrite n s) := by
  unfold snapWrite
  with_reducible repeat' (first
      | assumption | apply ownRec_kept | simp only [kept_mk_eq] | split)

theorem snapRead_kept {kb} (peek : State → Nat → Nat) (w : Nat) (m : Nat) {s : State} (hk : Kept kb s) : Kept kb (snapRead peek w m s) := by
  unfold snapRead
  with_reducible repeat' (first
      | assumption | apply setEvr_kept | apply snapWrite_kept | simp only [kept_mk_eq] | apply kept_buf
      | apply kept_part | split)

theorem epochPeriodic_kept {kb} {s : State} (hk : Kept kb s) : Kept kb (epochPeriodic s) := by
  unfold epochPeriodic
  with_reducible repeat' (first
      | assumption | apply roomFor_kept | apply epochRec_kept | simp only [kept_mk_eq] | split)

theorem watchSet_kept {kb} (w : Nat) (ev : Nat) (offs : List Nat) {s : State} (hk : Kept kb s) : Kept kb (watchSet w ev offs s) := by
  unfold watchSet
  with_reducible repeat' (first
      | assumption | apply setF_kept | apply setEvr_kept | apply ownRec_kept | simp only [kept_mk_eq] | apply foldl_kept
      | apply kept_buf | apply kept_part | split | (intro _))

theorem migrateGran_kept {kb} (opens : Bool) (stop : Bool) {s : State} (hk : Kept kb s) : Kept kb (migrateGran opens stop s) := by
  unfold migrateGran
  with_reducible repeat' (first
      | assumption | apply setEvr_kept | apply retirePrev_kept | apply sendFault_kept | apply incF_kept
      | apply eraseGran_kept | apply nextSeal_kept | apply setF_kept | simp only [kept_mk_eq] | apply kept_buf | apply kept_part | split)

theorem faultFlush_kept {kb} {s : State} (hk : Kept kb s) : Kept kb (faultFlush s) := by
  unfold faultFlush
  with_reducible repeat' (first
      | assumption | apply setB_kept | apply flushBegin_kept | apply setEvr_kept | simp only [kept_mk_eq]
      | apply kept_buf | apply kept_part | split)

/-! ### Collector.lean -/

theorem selfFault_kept {kb} (info : Nat) {s : State} (hk : Kept kb s) : Kept kb (selfFault info s) := by
  unfold selfFault
  with_reducible repeat' (first
      | assumption | apply setB_kept | apply flushBegin_kept | apply safeEnter_kept | apply putRec_kept
      | simp only [kept_mk_eq] | apply mk_kept | split)

theorem overflowMsg_kept {kb} {s : State} (hk : Kept kb s) : Kept kb (overflowMsg s) := by
  unfold overflowMsg
  with_reducible repeat' (first
      | assumption | apply sendFault_kept | simp only [kept_mk_eq] | apply mk_kept | split)

theorem showSevere_kept {kb} {s : State} (hk : Kept kb s) : Kept kb (showSevere s) := by
  unfold showSevere
  with_reducible repeat' (first
      | assumption | apply setB_kept | apply setF_kept)

theorem severeAct_kept {kb} (action : Nat) {s : State} (hk : Kept kb s) : Kept kb (severeAct action s) := by
  unfold severeAct
  with_reducible repeat' (first
      | assumption | apply raiseVec_kept | apply faultFlush_kept | apply safeAsk_kept
      | simp only [kept_mk_eq] | split)

theorem setFlc_kept {kb} (f : FlcState) {s : State} (hk : Kept kb s) : Kept kb (setFlc f s) := by
  unfold setFlc
  with_reducible repeat' (first
      | assumption | simp only [kept_mk_eq] | apply mk_kept)

theorem makeSevere_kept {kb} (src : Nat) (kind : Nat) (word : Nat) (ageMs : Nat) {s : State} (hk : Kept kb s) :
    Kept kb (makeSevere src kind word ageMs s) := by
  unfold makeSevere
  with_reducible repeat' (first
      | assumption | apply showSevere_kept | apply setF_kept | apply putRec_kept | apply severeAct_kept
      | apply setFlc_kept)

theorem takeMsg_kept {kb} (a : Arrival) (word : Nat) {s : State} (hk : Kept kb s) : Kept kb (takeMsg a word s) := by
  unfold takeMsg
  with_reducible repeat' (first
      | assumption | apply incF_kept | apply setFlc_kept | apply setF_kept | simp only [kept_mk_eq]
      | split)

theorem hbKick_kept {kb} (agent : Nat) {s : State} (hk : Kept kb s) : Kept kb (hbKick agent s) := by
  unfold hbKick
  with_reducible repeat' (first
      | assumption | apply setFlc_kept | apply setB_kept | simp only [kept_mk_eq] | split)

theorem hbTimeout_kept {kb} {s : State} (hk : Kept kb s) : Kept kb (hbTimeout s) := by
  unfold hbTimeout
  with_reducible repeat' (first
      | assumption | apply setB_kept | split)

theorem safeNow_kept {kb} (cause : Nat) {s : State} (hk : Kept kb s) : Kept kb (safeNow cause s) := by
  unfold safeNow
  with_reducible repeat' (first
      | assumption | apply safeEnter_kept | apply flushBegin_kept | split)

theorem safeDueEnter_kept {kb} {s : State} (hk : Kept kb s) : Kept kb (safeDueEnter s) := by
  unfold safeDueEnter
  with_reducible repeat' (first
      | assumption | apply safeNow_kept | split)

theorem hbToggle_kept {kb} {s : State} (hk : Kept kb s) : Kept kb (hbToggle s) := by
  unfold hbToggle
  with_reducible repeat' (first
      | assumption | apply setB_kept | apply setFlc_kept | simp only [kept_mk_eq] | split)

theorem flcInject_kept {kb} (agent : Nat) (val : Nat) {s : State} (hk : Kept kb s) : Kept kb (flcInject agent val s) := by
  unfold flcInject
  with_reducible repeat' (first
      | assumption | apply setF_kept | split)

theorem severeClear_kept {kb} (agent : Nat) (v : Nat) (val : Nat) {s : State} (hk : Kept kb s) : Kept kb (severeClear agent v val s) := by
  unfold severeClear
  with_reducible repeat' (first
      | assumption | apply setF_kept | apply showSevere_kept | apply setFlc_kept | simp only [kept_mk_eq]
      | split)

theorem countMsg_kept {kb} (src : Nat) (kind : Nat) (word : Nat) {s : State} (hk : Kept kb s) : Kept kb (countMsg src kind word s) := by
  unfold countMsg
  with_reducible repeat' (first
      | assumption | apply selfFault_kept | apply injectAt_kept | apply setFlc_kept
      | apply makeSevere_kept | simp only [kept_mk_eq] | split)

theorem faultMessage_kept {kb} {s : State} (hk : Kept kb s) : Kept kb (faultMessage s) := by
  unfold faultMessage
  with_reducible repeat' (first
      | assumption | apply takeMsg_kept | apply overflowMsg_kept | apply countMsg_kept | apply putRec_kept
      | simp only [kept_mk_eq] | apply mk_kept | split)

/-! ### Security.lean -/

theorem unwrapFail_kept {kb} (ctx : Nat) (gen : Nat) {s : State} (hk : Kept kb s) : Kept kb (unwrapFail ctx gen s) := by
  unfold unwrapFail
  with_reducible repeat' (first
      | assumption | apply sendFault_kept | apply setB_kept)

theorem put96_kept {kb} (w : Nat → Fld) (b : List Nat) {s : State} (hk : Kept kb s) : Kept kb (put96 w b s) := by
  unfold put96
  with_reducible repeat' (first
      | assumption | apply setF_kept | apply foldl_kept | (intro _))

theorem kxReady_kept {kb} (pub : List Nat) (sig : List Nat) {s : State} (hk : Kept kb s) : Kept kb (kxReady pub sig s) := by
  unfold kxReady
  with_reducible repeat' (first
      | assumption | apply setB_kept | apply put96_kept | simp only [kept_mk_eq] | apply mk_kept | split)

theorem showScrub_kept {kb} {s : State} (hk : Kept kb s) : Kept kb (showScrub s) := by
  unfold showScrub
  with_reducible repeat' (first
      | assumption | apply setB_kept)

theorem assignNow_kept {kb} (x : Nat) (action : Nat) (tenant : Nat) {s : State} (hk : Kept kb s) :
    Kept kb (assignNow x action tenant s) := by
  unfold assignNow
  with_reducible repeat' (first
      | assumption | apply setF_kept | apply setB_kept | apply event_kept | simp only [kept_mk_eq]
      | split)

theorem scrubRec_kept {kb} (x : Nat) (done : Nat) {s : State} (hk : Kept kb s) : Kept kb (scrubRec x done s) := by
  unfold scrubRec
  with_reducible repeat' (first
      | assumption | apply postRec_kept)

theorem scrubEndNow_kept {kb} (x : Nat) {s : State} (hk : Kept kb s) : Kept kb (scrubEndNow x s) := by
  unfold scrubEndNow
  with_reducible repeat' (first
      | assumption | apply scrubRec_kept | apply showScrub_kept | apply setB_kept)

theorem confNow_kept {kb} (locked : Nat → Bool) (release : State → State) (on : Bool) {s : State} (hrelease :
    ∀ t, Kept kb t → Kept kb (release t)) (hk : Kept kb s) : Kept kb (confNow locked release on s) := by
  unfold confNow
  with_reducible repeat' (first
      | assumption | apply hrelease | apply event_kept | apply setB_kept | simp only [kept_mk_eq]
      | apply mk_regs_kept | apply kept_regs | apply regsWf_foldl | apply regsWf_aDel | split)

theorem sbKeyNow_kept {kb} (ctx : Nat) (gen : Nat) (key : Nat) {s : State} (hk : Kept kb s) : Kept kb (sbKeyNow ctx gen key s) := by
  unfold sbKeyNow
  with_reducible repeat' (first
      | assumption | apply event_kept | apply keyInstall_kept)

theorem scrubBeginNow_kept {kb} (x : Nat) {s : State} (hk : Kept kb s) : Kept kb (scrubBeginNow x s) := by
  unfold scrubBeginNow
  with_reducible repeat' (first
      | assumption | apply showScrub_kept | apply setB_kept | apply scrubRec_kept | simp only [kept_mk_eq] | apply mk_kept)

theorem pufReconstruct_kept {kb} (ok : Bool) (blocks : Nat) (pub : List Nat) {s : State} (hk : Kept kb s) :
    Kept kb (pufReconstruct ok blocks pub s) := by
  unfold pufReconstruct
  with_reducible repeat' (first
      | assumption | apply put96_kept | apply setB_kept | apply sendFault_kept | simp only [kept_mk_eq]
      | apply mk_kept | split)

theorem kxNew_kept {kb} (agent : Nat) (val : Nat) {s : State} (hk : Kept kb s) : Kept kb (kxNew agent val s) := by
  unfold kxNew
  with_reducible repeat' (first
      | assumption | apply setB_kept | simp only [kept_mk_eq] | apply mk_kept | split)

end Sys2Proof.Machine
end

