-- ==== Sys2Proof/Laws/KeptUpdate.lean ====
section
/-! SUPPORT. One lemma per operation: it keeps what `Kept` says. Here the thermal manager, updates, PMBus, the estimator and the samples. -/

namespace Sys2Proof.Machine

/-! ### Thermal.lean -/

theorem setTmg_kept {kb} (g : TmgState) {s : State} (hk : Kept kb s) : Kept kb (setTmg g s) := by
  unfold setTmg
  with_reducible repeat' (first
      | assumption | simp only [kept_mk_eq] | apply mk_kept)

theorem stepping_kept {kb} {s : State} (hk : Kept kb s) : Kept kb (stepping s) := by
  unfold stepping
  with_reducible repeat' (first
      | assumption | apply setB_kept | apply setSatS_kept | apply setF_kept | apply incF_kept
      | apply eventP_kept | apply pendHw_kept | apply setTmg_kept | simp only [kept_mk_eq] | split)

theorem thermalFloor_kept {kb} {s : State} (hk : Kept kb s) : Kept kb (thermalFloor s) := by
  unfold thermalFloor
  with_reducible repeat' (first
      | assumption | apply sendFaultP_kept | apply setTmg_kept | simp only [kept_mk_eq] | split)

theorem setSuspect_kept {kb} (c : Nat) (b : Bool) {s : State} (hk : Kept kb s) : Kept kb (setSuspect c b s) := by
  unfold setSuspect
  with_reducible repeat' (first
      | assumption | apply setF_kept)

theorem applyMarks_kept {kb} {s : State} (hk : Kept kb s) : Kept kb (applyMarks s) := by
  unfold applyMarks
  with_reducible repeat' (first
      | assumption | apply setSuspect_kept | apply setTmg_kept | simp only [kept_mk_eq] | apply foldl_kept
      | (intro _))

theorem markNext_kept {kb} (c : Nat) (b : Bool) {s : State} (hk : Kept kb s) : Kept kb (markNext c b s) := by
  unfold markNext
  with_reducible repeat' (first
      | assumption | apply setTmg_kept)

theorem suspectSetWrite_kept {kb} (agent : Nat) (w : Nat) (val : Nat) {s : State} (hk : Kept kb s) :
    Kept kb (suspectSetWrite agent w val s) := by
  unfold suspectSetWrite
  with_reducible repeat' (first
      | assumption | apply markNext_kept | apply foldl_kept | split | (intro _))

theorem tmgCut_kept {kb} {s : State} (hk : Kept kb s) : Kept kb (tmgCut s) := by
  unfold tmgCut
  with_reducible repeat' (first
      | assumption | apply setTmg_kept | simp only [kept_mk_eq] | split)

theorem thermalTrip_kept {kb} (r : Nat) {s : State} (hk : Kept kb s) : Kept kb (thermalTrip r s) := by
  unfold thermalTrip
  with_reducible repeat' (first
      | assumption | apply sendFaultP_kept | apply setF_kept | apply setB_kept | apply quickStop_kept
      | apply holdBeats_kept | simp only [kept_mk_eq] | apply mk_kept)

theorem singleTrip_kept {kb} {s : State} (hk : Kept kb s) : Kept kb (singleTrip s) := by
  unfold singleTrip
  with_reducible repeat' (first
      | assumption | apply thermLower_kept | apply setB_kept)

theorem tripComparator_kept {kb} (r : Nat) (i : Nat) {s : State} (hk : Kept kb s) : Kept kb (tripComparator r i s) := by
  unfold tripComparator
  with_reducible repeat' (first
      | assumption | apply setF_kept | apply setB_kept | apply thermalTrip_kept | apply singleTrip_kept | apply sendFaultP_kept
      | simp only [kept_mk_eq] | split)

theorem blindStep_kept {kb} {s : State} (hk : Kept kb s) : Kept kb (blindStep s) := by
  unfold blindStep
  with_reducible repeat' (first
      | assumption | apply sendFaultP_kept | apply setB_kept | apply setTmg_kept | apply foldl_kept
      | (intro _))

theorem critStep_kept {kb} (chip : Int) (hot : Nat) {s : State} (hk : Kept kb s) : Kept kb (critStep chip hot s) := by
  unfold critStep
  with_reducible repeat' (first
      | assumption | apply thermLower_kept | apply setB_kept | apply sendFaultP_kept | apply eventP_kept
      | simp only [kept_mk_eq] | split)

theorem tripRelease_kept {kb} (r : Nat) (i : Nat) {s : State} (hk : Kept kb s) : Kept kb (tripRelease r i s) := by
  unfold tripRelease
  with_reducible repeat' (first
      | assumption | apply setF_kept | apply setB_kept | apply singleTrip_kept | simp only [kept_mk_eq] | split)

theorem riseStep_kept {kb} (m : Assoc Int) {s : State} (hk : Kept kb s) : Kept kb (riseStep m s) := by
  unfold riseStep
  with_reducible repeat' (first
      | assumption | apply setB_kept | apply setTmg_kept)

theorem suspectClearWrite_kept {kb} (w : Nat) (val : Nat) {s : State} (hk : Kept kb s) : Kept kb (suspectClearWrite w val s) := by
  unfold suspectClearWrite
  with_reducible repeat' (first
      | assumption | apply markNext_kept | apply foldl_kept | (intro _))

theorem tmgFwRound_kept {kb} {s : State} (hk : Kept kb s) : Kept kb (tmgFwRound s) := by
  unfold tmgFwRound
  with_reducible repeat' (first
      | assumption | apply stepping_kept | apply setTmg_kept | simp only [kept_mk_eq] | split)

theorem sensorSuspect_kept {kb} (c : Nat) {s : State} (hk : Kept kb s) : Kept kb (sensorSuspect c s) := by
  unfold sensorSuspect
  with_reducible repeat' (first
      | assumption | apply sendFaultP_kept | apply setTmg_kept | apply markNext_kept
      | simp only [kept_mk_eq] | split)

theorem selfHotStep_kept {kb} {s : State} (hk : Kept kb s) : Kept kb (selfHotStep s) := by
  unfold selfHotStep
  with_reducible repeat' (first
      | assumption | apply setB_kept | apply sendFaultP_kept | apply setTmg_kept | simp only [kept_mk_eq]
      | split)

theorem tmgHwRound_kept {kb} {s0 : State} (hk : Kept kb s0) : Kept kb (tmgHwRound s0) := by
  unfold tmgHwRound
  with_reducible repeat' (first
      | assumption | apply applyMarks_kept | apply freeNext_kept | apply setSatS_kept | apply setF_kept
      | apply selfHotStep_kept | apply critStep_kept | apply riseStep_kept | apply blindStep_kept | apply setTmg_kept | apply foldl_kept
      | split | (intro _))

theorem sensorTrusted_kept {kb} (c : Nat) {s : State} (hk : Kept kb s) : Kept kb (sensorTrusted c s) := by
  unfold sensorTrusted
  with_reducible repeat' (first
      | assumption | apply eventP_kept | apply markNext_kept | split)

theorem thermalRise_kept {kb} (r : Nat) {s : State} (hk : Kept kb s) : Kept kb (thermalRise r s) := by
  unfold thermalRise
  with_reducible repeat' (first
      | assumption | apply setTmg_kept | apply sendFaultP_kept | apply thermLower_kept
      | simp only [kept_mk_eq] | split)

/-! ### Update.lean -/

theorem showStaged_kept {kb} {s : State} (hk : Kept kb s) : Kept kb (showStaged s) := by
  unfold showStaged
  with_reducible repeat' (first
      | assumption | apply setF_kept | apply foldl_kept | (intro _))

theorem setUpdState_kept {kb} (x : Nat) {s : State} (hk : Kept kb s) : Kept kb (setUpdState x s) := by
  unfold setUpdState
  with_reducible repeat' (first
      | assumption | apply setF_kept)

theorem showUpd_kept {kb} {s : State} (hk : Kept kb s) : Kept kb (showUpd s) := by
  unfold showUpd
  with_reducible repeat' (first
      | assumption | apply showStaged_kept | apply setUpdState_kept | simp only [kept_mk_eq] | split)

theorem fallBackMark_kept {kb} (cause : Nat) (abandoned : Nat) {s : State} (hk : Kept kb s) : Kept kb (fallBackMark cause abandoned s) := by
  unfold fallBackMark
  with_reducible repeat' (first
      | assumption | apply setF_kept | apply setB_kept | apply sendFault_kept | apply event_kept)

theorem romStart_kept {kb} {s : State} (hk : Kept kb s) : Kept kb (romStart s) := by
  unfold romStart
  with_reducible repeat' (first
      | assumption | apply setF_kept | apply setComps_kept | apply setCore_kept | apply wdtStop_kept)

theorem swapSlots_kept {kb} (l : List Nat) {s : State} (hk : Kept kb s) : Kept kb (swapSlots l s) := by
  unfold swapSlots
  repeat' (first
      | with_reducible assumption | with_reducible apply setUpd_kept | simp only [kept_mk_eq]
      | with_reducible apply foldl_kept | with_reducible apply kept_img | with_reducible apply kept_slots
      | with_reducible apply imagesOk_aIns | with_reducible apply imagesOk_aDel | split | intro _
      | (refine imageIn_mem (b := kb) ?_ (by assumption)))

theorem showActive_kept {kb} {s : State} (hk : Kept kb s) : Kept kb (showActive s) := by
  unfold showActive
  with_reducible repeat' (first
      | assumption | apply setF_kept | apply foldl_kept | (intro _))

theorem restoreBank_kept {kb} {s : State} (hk : Kept kb s) : Kept kb (restoreBank s) := by
  unfold restoreBank
  with_reducible repeat' (first
      | assumption | apply swapSlots_kept | apply setF_kept | apply setB_kept | apply showActive_kept
      | apply setUpd_kept | simp only [kept_mk_eq] | apply kept_img | apply kept_slots | split)

theorem fallBack_kept {kb} (cause : Nat) {s : State} (hk : Kept kb s) : Kept kb (fallBack cause s) := by
  unfold fallBack
  with_reducible repeat' (first
      | assumption | apply showUpd_kept | apply setUpdState_kept | apply fallBackMark_kept
      | apply romStart_kept | apply gateDiscard_kept | apply restoreBank_kept | simp only [kept_mk_eq] | split)

theorem trialGuard_kept {kb} (f : State → State) {s : State} (hf : ∀ t, Kept kb t → Kept kb (f t)) (hk : Kept kb s) :
    Kept kb (trialGuard f s) := by
  unfold trialGuard
  with_reducible repeat' (first
      | assumption | apply hf | apply setFw_kept | apply fallBack_kept | apply setF_kept
      | simp only [kept_mk_eq] | apply kept_log | split)

theorem findImages_kept {kb} (found : List (Nat × List Nat)) {s : State} (hk : Kept kb s) : Kept kb (findImages found s) := by
  unfold findImages
  with_reducible repeat' (first
      | assumption | apply setUpd_kept | simp only [kept_mk_eq] | apply foldl_kept | apply kept_img
      | apply kept_slots | apply memWf_nil | apply memWf_memPut | apply imagesOk_aIns | split | (intro _))

theorem passOver_kept {kb} (ok0 : Bool) (ok1 : Bool) (detail : Nat) {s : State} (hk : Kept kb s) : Kept kb (passOver ok0 ok1 detail s).1 :=
    by
  unfold passOver
  with_reducible repeat' (first
      | assumption | apply sendFault_kept | apply restoreBank_kept | apply setF_kept | apply setUpd_kept | apply setB_kept
      | apply showUpd_kept | apply showActive_kept | apply setUpdState_kept | simp only [kept_mk_eq] | apply kept_img
      | apply kept_slots | split)

theorem gapBoot_kept {kb} (ok0 : Bool) (ok1 : Bool) (detail : Nat) {s : State} (hk : Kept kb s) : Kept kb (gapBoot ok0 ok1 detail s).1 := by
  unfold gapBoot
  with_reducible repeat' (first
      | assumption | apply passOver_kept | simp only [kept_mk_eq] | split)

theorem confirm_kept {kb} {s : State} (hk : Kept kb s) : Kept kb (confirm s) := by
  unfold confirm
  with_reducible repeat' (first
      | assumption | apply setF_kept | apply setB_kept | apply setUpd_kept | apply showUpd_kept
      | apply setUpdState_kept | apply event_kept | simp only [kept_mk_eq] | apply foldl_kept | apply kept_img | apply kept_slots
      | (intro _))

theorem eraseSlot_kept {kb} (bank : Nat) (k : Nat) {s : State} (hk : Kept kb s) : Kept kb (eraseSlot bank k s) := by
  unfold eraseSlot
  with_reducible repeat' (first
      | assumption | apply setUpd_kept | simp only [kept_mk_eq] | apply kept_img | apply kept_slots
      | apply imagesOk_aDel)

theorem dropCheck_kept {kb} (k : Nat) (st : Nat) {s : State} (hk : Kept kb s) : Kept kb (dropCheck k st s) := by
  unfold dropCheck
  with_reducible repeat' (first
      | assumption | apply pktComplete_kept | apply eraseSlot_kept | apply setUpd_kept | simp only [kept_mk_eq] | apply foldl_kept
      | apply kept_img | apply kept_slots | split | (intro _))

theorem endTransfers_kept {kb} (st : Nat) {s : State} (hk : Kept kb s) : Kept kb (endTransfers st s) := by
  unfold endTransfers
  with_reducible repeat' (first
      | assumption | apply endXfer_kept | apply eraseSlot_kept | apply dropCheck_kept | simp only [kept_mk_eq] | apply foldl_kept
      | (intro _))

theorem bootBank_kept {kb} (ok0 : Bool) (ok1 : Bool) (detail : Nat) {s : State} (hk : Kept kb s) : Kept kb (bootBank ok0 ok1 detail s).1 :=
    by
  unfold bootBank
  with_reducible repeat' (first
      | assumption | apply fallBackMark_kept | apply restoreBank_kept | apply showActive_kept | apply passOver_kept
      | simp only [kept_mk_eq] | split)

theorem fwStart_kept {kb} (helpers : Nat) (comps : List Nat) {s : State} (hk : Kept kb s) : Kept kb (fwStart helpers comps s) := by
  unfold fwStart
  with_reducible repeat' (first
      | assumption | apply mpuLoad_kept | apply incF_kept | apply setCore_kept | apply setF_kept | apply startComps_kept
      | apply setFw_kept | apply absentActions_kept | simp only [kept_mk_eq] | apply foldl_kept | apply kept_log | split
      | (intro _))

theorem mainStart_kept {kb} (found : List (Nat × List Nat)) (ok0 : Bool) (ok1 : Bool) (detail : Nat) {s : State} (hk : Kept kb s) :
    Kept kb (mainStart found ok0 ok1 detail s) := by
  unfold mainStart
  with_reducible repeat' (first
      | assumption | apply bootBank_kept | apply restoreStaged_kept | apply findImages_kept
      | apply setCore_kept | apply setFw_kept | apply incGeneration_kept | apply fwStart_kept | apply setComps_kept
      | simp only [kept_mk_eq] | apply kept_log | split)

theorem carryOver_kept {kb} (adopted : Nat) (was : State) {s : State} (hk : Kept kb s) : Kept kb (carryOver adopted was s) := by
  unfold carryOver
  with_reducible repeat' (first
      | assumption | apply abandonRounds_kept | simp only [kept_mk_eq] | apply mk_kept | split)

theorem actDecide_kept {kb} {s : State} (hk : Kept kb s) : Kept kb (actDecide s) := by
  unfold actDecide
  with_reducible repeat' (first
      | assumption | apply setUpd_kept | simp only [kept_mk_eq] | apply kept_img | apply kept_slots
      | split)

theorem autoConfirm_kept {kb} {s : State} (hk : Kept kb s) : Kept kb (autoConfirm s) := by
  unfold autoConfirm
  with_reducible repeat' (first
      | assumption | apply confirm_kept | split)

theorem updAbort_kept {kb} {s : State} (hk : Kept kb s) : Kept kb (updAbort s).1 := by
  unfold updAbort
  with_reducible repeat' (first
      | assumption | apply event_kept | apply showUpd_kept | apply endTransfers_kept
      | apply pktComplete_kept | apply setUpd_kept | apply setUpdState_kept | apply fallBack_kept | simp only [kept_mk_eq]
      | apply foldl_kept | apply kept_img | apply kept_slots | split | (intro _))

theorem fullCheckDone_kept {kb} (sig : Bool) (digest : Bool) (content : Bool) (flash : Bool) (off : Nat) {s : State} (hk : Kept kb s) :
    Kept kb (fullCheckDone sig digest content flash off s) := by
  unfold fullCheckDone
  with_reducible repeat' (first
      | assumption | apply showUpd_kept | apply setUpd_kept | apply pktComplete_kept | apply event_kept
      | apply eraseSlot_kept | apply sendFault_kept | simp only [kept_mk_eq] | apply kept_img | apply kept_slots | split
      | (refine imageIn_mem (b := kb) ?_ (by assumption)))

theorem updWatch_kept {kb} {s : State} (hk : Kept kb s) : Kept kb (updWatch s) := by
  unfold updWatch
  with_reducible repeat' (first
      | assumption | apply setUpd_kept | simp only [kept_mk_eq] | apply kept_img | apply kept_slots)

theorem unstage_kept {kb} (k : Nat) {s : State} (hk : Kept kb s) : Kept kb (unstage k s) := by
  unfold unstage
  with_reducible repeat' (first
      | assumption | apply setUpd_kept | simp only [kept_mk_eq] | apply kept_img | apply kept_slots)

theorem imgTarget_kept {kb} (k : Nat) (rootOk sigOk : Bool) {u : State} (h : Kept kb u) :
    (∀ m, Kept kb ((imgTarget k rootOk sigOk).pass m u)) ∧ (∀ d, Kept kb ((imgTarget k rootOk sigOk).fail d u)) ∧
    (∀ m, memWf m = true → Kept kb ((imgTarget k rootOk sigOk).whole m u).1) ∧
    Kept kb ((imgTarget k rootOk sigOk).abandon u) ∧ Kept kb ((imgTarget k rootOk sigOk).lost u) := by
  refine ⟨fun m => eraseSlot_kept _ _ h, fun d => h, fun m hm => ?_, eraseSlot_kept _ _ h, h⟩
  unfold imgTarget; dsimp only
  exact setUpd_kept h h.img (imagesOk_aIns _ _ hm h.slots)

theorem updBlock_kept {kb} (k off : Nat) (rootOk sigOk : Bool) (data : List Nat) {s : State} (h : Kept kb s) :
    Kept kb (updBlock k off rootOk sigOk data s).1 := by
  unfold updBlock
  extract_lets fresh s0 r
  split
  · exact h
  split
  · exact h
  have h0 : Kept kb s0 := by
    unfold s0; split
    · apply unstage_kept; split
      · exact dropCheck_kept _ _ h
      · exact eraseSlot_kept _ _ (dropCheck_kept _ _ h)
    · exact h
  exact showUpd_kept (takeBlock_kept _ _ _ _ (fun m u hu => (imgTarget_kept k rootOk sigOk hu).1 m)
    (fun d u hu => (imgTarget_kept k rootOk sigOk hu).2.1 d) (fun m u hm hu => (imgTarget_kept k rootOk sigOk hu).2.2.1 m hm)
    (fun u hu => (imgTarget_kept k rootOk sigOk hu).2.2.2.1) (fun u hu => (imgTarget_kept k rootOk sigOk hu).2.2.2.2) h0)

theorem trialStart_kept {kb} {s : State} (hk : Kept kb s) : Kept kb (trialStart s) := by
  unfold trialStart
  with_reducible repeat' (first
      | assumption | apply setUpdState_kept | apply setUpd_kept | simp only [kept_mk_eq] | apply kept_img
      | apply kept_slots)

theorem activateAnswer_kept {kb} {s : State} (hk : Kept kb s) : Kept kb (activateAnswer s) := by
  unfold activateAnswer
  with_reducible repeat' (first
      | assumption | apply pktComplete_kept | apply foldl_kept | split | (intro _))

theorem trialExpiry_kept {kb} {s : State} (hk : Kept kb s) : Kept kb (trialExpiry s) := by
  unfold trialExpiry
  with_reducible repeat' (first
      | assumption | apply fallBack_kept | split)

theorem gapHalt_kept {kb} {s : State} (hk : Kept kb s) : Kept kb (gapHalt s) := by
  unfold gapHalt
  with_reducible repeat' (first
      | assumption | apply setCore_kept | apply setComps_kept | apply gateClose_kept | apply foldl_kept | (intro _))

theorem makeActive_kept {kb} {s : State} (hk : Kept kb s) : Kept kb (makeActive s) := by
  unfold makeActive
  with_reducible repeat' (first
      | assumption | apply endTransfers_kept | apply swapSlots_kept | apply setF_kept
      | apply showActive_kept | apply showStaged_kept | apply setUpd_kept | simp only [kept_mk_eq] | apply kept_img | apply kept_slots
      | split)

theorem dualSettings_kept {kb} (old : Nat) {s : State} (hk : Kept kb s) : Kept kb (dualSettings old s) := by
  unfold dualSettings
  with_reducible repeat' (first
      | assumption | apply setF_kept | apply setB_kept | simp only [kept_mk_eq] | split)

theorem actSlot_kept {kb} (lines : Nat) (caravan : List Nat) {s : State} (hk : Kept kb s) : Kept kb (actSlot lines caravan s) := by
  unfold actSlot
  with_reducible repeat' (first
      | assumption | apply actDecide_kept | apply setUpd_kept | apply setF_kept | apply incF_kept | apply setW_kept
      | apply event_kept | apply sendFault_kept | apply dualSettings_kept | apply makeActive_kept | apply gapHalt_kept
      | apply wdtStop_kept | apply setUpdState_kept | apply trialStart_kept | apply activateAnswer_kept | simp only [kept_mk_eq]
      | apply kept_img | apply kept_slots | split)

theorem activateAccept_kept {kb} (t : Nat) (mask : Nat) {s : State} (hk : Kept kb s) : Kept kb (activateAccept t mask s) := by
  unfold activateAccept
  with_reducible repeat' (first
      | assumption | apply setW_kept | apply setF_kept | apply setUpd_kept | apply event_kept
      | apply setUpdState_kept | simp only [kept_mk_eq] | apply kept_img | apply kept_slots)

theorem handover_kept {kb} (image : NewImage) {was : State} (hk : Kept kb was) : Kept kb (handover image was) := by
  unfold handover
  with_reducible repeat' (first
      | assumption | apply gapBoot_kept | apply setF_kept | apply setCore_kept | apply sendFault_kept | apply setSat_kept
      | apply fwStart_kept | apply incGeneration_kept | apply carryOver_kept | apply activateAnswer_kept | apply event_kept
      | apply trialStart_kept | apply pktComplete_kept | simp only [kept_mk_eq] | apply foldl_kept | split | (intro _))

/-! ### Pmbus.lean -/

theorem setPmb_kept {kb} (p : PmbState) {s : State} (hk : Kept kb s) : Kept kb (setPmb p s) := by
  unfold setPmb
  with_reducible repeat' (first
      | assumption | simp only [kept_mk_eq] | apply mk_kept)

theorem pmbReset_kept {kb} {s : State} (hk : Kept kb s) : Kept kb (pmbReset s) := by
  unfold pmbReset
  with_reducible repeat' (first
      | assumption | apply setPmb_kept)

theorem replyWith_kept {kb} (b : List Nat) {s : State} (hk : Kept kb s) : Kept kb (replyWith b s) := by
  unfold replyWith
  with_reducible repeat' (first
      | assumption | apply setPmb_kept)

theorem alertResponse_kept {kb} {s : State} (hk : Kept kb s) : Kept kb (alertResponse s) := by
  unfold alertResponse
  with_reducible repeat' (first
      | assumption | apply setPmb_kept | apply replyWith_kept | simp only [kept_mk_eq] | split)

theorem latch_kept {kb} (i : Nat) (b : Nat) (c : Bool) {s : State} (hk : Kept kb s) : Kept kb (latch i b c s) := by
  unfold latch
  with_reducible repeat' (first
      | assumption | apply setPmb_kept | simp only [kept_mk_eq] | split)

theorem cmlInvalid_kept {kb} (n : Nat) {s : State} (hk : Kept kb s) : Kept kb (cmlInvalid n s) := by
  unfold cmlInvalid
  with_reducible repeat' (first
      | assumption | apply replyWith_kept | apply latch_kept)

theorem pmRead_kept {kb} (pages : List Nat) (m : Nat) (n : Nat) (v : Nat → Nat) {s : State} (hk : Kept kb s) :
    Kept kb (pmRead pages m n v s) := by
  unfold pmRead
  with_reducible repeat' (first
      | assumption | apply replyWith_kept | apply cmlInvalid_kept | simp only [kept_mk_eq] | split)

theorem tableRead_kept {kb} (pages : List Nat) (code : Nat) (m : Nat) {s : State} (hk : Kept kb s) :
    Kept kb (tableRead pages code m s) := by
  unfold tableRead
  with_reducible repeat' (first
      | assumption | apply pmRead_kept)

theorem pmbWatch_kept {kb} {s : State} (hk : Kept kb s) : Kept kb (pmbWatch s) := by
  unfold pmbWatch
  with_reducible repeat' (first
      | assumption | apply setPmb_kept | simp only [kept_mk_eq] | split)

theorem sclTimeout_kept {kb} {s : State} (hk : Kept kb s) : Kept kb (sclTimeout s) := by
  unfold sclTimeout
  with_reducible repeat' (first
      | assumption | apply replyWith_kept | apply latch_kept)

theorem latchAll_kept {kb} {s : State} (hk : Kept kb s) : Kept kb (latchAll s) := by
  unfold latchAll
  with_reducible repeat' (first
      | assumption | apply latch_kept | simp only [kept_mk_eq] | apply foldl_kept | (intro _))

theorem tableRefresh_kept {kb} {s : State} (hk : Kept kb s) : Kept kb (tableRefresh s) := by
  unfold tableRefresh
  with_reducible repeat' (first
      | assumption | apply freeNext_kept | apply latchAll_kept | apply setPmb_kept
      | simp only [kept_mk_eq] | split)

theorem pecOr_kept {kb} (pec : Bool) (f : State → State) {s : State} (hf : ∀ t, Kept kb t → Kept kb (f t)) (hk : Kept kb s) :
    Kept kb (pecOr pec f s) := by
  unfold pecOr
  with_reducible repeat' (first
      | assumption | apply hf | apply latch_kept | split)

theorem busAddr_kept {kb} (v : Nat) {s : State} (hk : Kept kb s) : Kept kb (busAddr v s) := by
  unfold busAddr
  with_reducible repeat' (first
      | assumption | apply setPmb_kept)

theorem boardRead_kept {kb} (code : Nat) {s : State} (hk : Kept kb s) : Kept kb (boardRead code s) := by
  unfold boardRead
  with_reducible repeat' (first
      | assumption | apply replyWith_kept | simp only [kept_mk_eq] | split)

theorem pmPage_kept {kb} (m : Nat) (w : Option Nat) {s : State} (hk : Kept kb s) : Kept kb (pmPage m w s) := by
  unfold pmPage
  with_reducible repeat' (first
      | assumption | apply replyWith_kept | apply latch_kept | apply setPmb_kept | simp only [kept_mk_eq]
      | split)

theorem clearFaults_kept {kb} {s : State} (hk : Kept kb s) : Kept kb (clearFaults s) := by
  unfold clearFaults
  with_reducible repeat' (first
      | assumption | apply setPmb_kept)

/-! ### Estimate.lean -/

theorem regionEsts_kept {kb} {s : State} (hk : Kept kb s) : Kept kb (regionEsts s) := by
  unfold regionEsts
  with_reducible repeat' (first
      | assumption | apply pxeStored_kept | apply setPxe_kept | apply setSatS_kept | simp only [kept_mk_eq] | apply foldl_kept
      | apply kept_pxe | apply memWf_memPutLE | apply memWf_foldl | split | (intro _))

theorem trustCounts_kept {kb} {s : State} (hk : Kept kb s) : Kept kb (trustCounts s) := by
  unfold trustCounts
  with_reducible repeat' (first
      | assumption | apply setSat_kept | simp only [kept_mk_eq] | split)

theorem calTrigger_kept {kb} {s : State} (hk : Kept kb s) : Kept kb (calTrigger s) := by
  unfold calTrigger
  with_reducible repeat' (first
      | assumption | apply setEst_kept)

theorem diffFault_kept {kb} (kind : Nat) {s : State} (hk : Kept kb s) : Kept kb (diffFault kind s) := by
  unfold diffFault
  with_reducible repeat' (first
      | assumption | apply sendFault_kept)

theorem rowFault_kept {kb} (row : Nat) {s : State} (hk : Kept kb s) : Kept kb (rowFault row s) := by
  unfold rowFault
  with_reducible repeat' (first
      | assumption | apply sendFault_kept | apply diffFault_kept | apply setB_kept
      | simp only [kept_mk_eq] | split)

theorem trustEnter_kept {kb} (st : Nat) {s : State} (hk : Kept kb s) : Kept kb (trustEnter st s) := by
  unfold trustEnter
  with_reducible repeat' (first
      | assumption | apply setB_kept | apply setF_kept | apply setEst_kept | apply event_kept | apply boostCheck_kept
      | apply trustWithdraws_kept | simp only [kept_mk_eq] | apply mk_kept | apply foldl_kept | split | (intro _))

theorem stageShadow_kept {kb} {s : State} (hk : Kept kb s) : Kept kb (stageShadow s) := by
  unfold stageShadow
  with_reducible repeat' (first
      | assumption | apply setEst_kept | simp only [kept_mk_eq] | apply mk_kept)

theorem decideRow_kept {kb} (row : Nat) {s : State} (hk : Kept kb s) : Kept kb (decideRow row s) := by
  unfold decideRow
  with_reducible repeat' (first
      | assumption | apply rowFault_kept | apply setF_kept | apply setEst_kept | apply trustEnter_kept | apply stageShadow_kept
      | apply setB_kept | apply boostCheck_kept | apply trustWithdraws_kept | simp only [kept_mk_eq] | split)

theorem tryRow_kept {kb} (row : Nat) {s : State} (hk : Kept kb s) : Kept kb (tryRow row s) := by
  unfold tryRow
  with_reducible repeat' (first
      | assumption | apply decideRow_kept | split)

theorem estEval10_kept {kb} (at0 : Nat) {s : State} (hk : Kept kb s) : Kept kb (estEval10 at0 s) := by
  unfold estEval10
  with_reducible repeat' (first
      | assumption | apply setSatS_kept | apply regionEsts_kept | apply trustCounts_kept | apply setEst_kept | apply setSat_kept
      | apply setPxe_kept | apply calTrigger_kept | apply tryRow_kept | simp only [kept_mk_eq] | apply foldl_kept | apply kept_pxe
      | split | (intro _))

theorem chipPower_kept {kb} (volts : List Nat) (is : List Int) {s : State} (hk : Kept kb s) : Kept kb (chipPower volts is s) := by
  unfold chipPower
  with_reducible repeat' (first
      | assumption | apply setSat_kept | apply setEst_kept | simp only [kept_mk_eq] | split)

theorem sigStore_kept {kb} (a : SigAcc) {s : State} (hk : Kept kb s) : Kept kb (sigStore a s) := by
  unfold sigStore
  with_reducible repeat' (first
      | assumption | apply setSat_kept | simp only [kept_mk_eq] | apply foldl_kept | split | (intro _))

theorem sigWindow_kept {kb} (w : WinShot) (bad : Bool) {s : State} (hk : Kept kb s) : Kept kb (sigWindow w bad s) := by
  unfold sigWindow
  with_reducible repeat' (first
      | assumption | apply sigStore_kept | apply setEst_kept | simp only [kept_mk_eq] | split)

theorem windowAfter_kept {kb} (bad : Bool) {s : State} (hk : Kept kb s) : Kept kb (windowAfter bad s) := by
  unfold windowAfter
  with_reducible repeat' (first
      | assumption | apply chipPower_kept | apply sigWindow_kept | apply estEval10_kept | apply setEst_kept | split)

theorem windowSubst_kept {kb} {s : State} (hk : Kept kb s) : Kept kb (windowSubst s) := by
  unfold windowSubst
  with_reducible repeat' (first
      | assumption | apply setB_kept | apply setS_kept | apply setSat_kept | apply windowAfter_kept
      | apply setEst_kept | simp only [kept_mk_eq] | apply foldl_kept | split | (intro _))

theorem estClose10_kept {kb} {s : State} (hk : Kept kb s) : Kept kb (estClose10 s) := by
  unfold estClose10
  with_reducible repeat' (first
      | assumption | apply setSatS_kept | apply regionEsts_kept | apply trustCounts_kept
      | apply setEst_kept | apply setB_kept | apply setSat_kept | apply tryRow_kept | simp only [kept_mk_eq] | apply foldl_kept | split
      | (intro _))

theorem takeSlot0_kept {kb} {s : State} (hk : Kept kb s) : Kept kb (takeSlot0 s) := by
  unfold takeSlot0
  with_reducible repeat' (first
      | assumption | apply invalidOut_kept | apply clampedOut_kept | apply setB_kept | apply setSatS_kept
      | apply setEst_kept | apply windowAfter_kept | apply setF_kept | simp only [kept_mk_eq] | apply foldl_kept | split | (intro _))

theorem estSwap_kept {kb} {s : State} (hk : Kept kb s) : Kept kb (estSwap s) := by
  unfold estSwap
  with_reducible repeat' (first
      | assumption | apply trustEnter_kept | apply setF_kept | apply setEst_kept | simp only [kept_mk_eq]
      | apply foldl_kept | split | (intro _))

theorem estRound_kept {kb} {s : State} (hk : Kept kb s) : Kept kb (estRound s) := by
  unfold estRound
  with_reducible repeat' (first
      | assumption | apply setEst_kept)

theorem estCalReset_kept {kb} {s : State} (hk : Kept kb s) : Kept kb (estCalReset s) := by
  unfold estCalReset
  with_reducible repeat' (first
      | assumption | apply setEst_kept)

theorem calRail_kept {kb} (shadow : Bool) (k : Nat) {s : State} (hk : Kept kb s) : Kept kb (calRail shadow k s) := by
  unfold calRail
  with_reducible repeat' (first
      | assumption | apply sendFault_kept | apply setB_kept | apply setF_kept | apply setEst_kept
      | simp only [kept_mk_eq] | apply mk_kept | split)

theorem calRound_kept {kb} {s : State} (hk : Kept kb s) : Kept kb (calRound s) := by
  unfold calRound
  with_reducible repeat' (first
      | assumption | apply setEst_kept | apply calRail_kept | apply setF_kept | simp only [kept_mk_eq]
      | apply foldl_kept | split | (intro _))

theorem suspectRow_kept {kb} (row : Nat) {s : State} (hk : Kept kb s) : Kept kb (suspectRow row s) := by
  unfold suspectRow
  with_reducible repeat' (first
      | assumption | apply decideRow_kept | split)

theorem bandFollow_kept {kb} {s : State} (hk : Kept kb s) : Kept kb (bandFollow s) := by
  unfold bandFollow
  with_reducible repeat' (first
      | assumption | apply setF_kept | apply setEst_kept | simp only [kept_mk_eq] | split)

theorem sigUpdate_kept {kb} {s : State} (hk : Kept kb s) : Kept kb (sigUpdate s) := by
  unfold sigUpdate
  with_reducible repeat' (first
      | assumption | apply setEst_kept | apply sigStore_kept | simp only [kept_mk_eq] | split)

theorem calTake_kept {kb} (k : Nat) (g : Nat) (o : Nat) {s : State} (hk : Kept kb s) : Kept kb (calTake k g o s) := by
  unfold calTake
  with_reducible repeat' (first
      | assumption | apply setF_kept)

theorem estSample_kept {kb} {s : State} (hk : Kept kb s) : Kept kb (estSample s) := by
  unfold estSample
  with_reducible repeat' (first
      | assumption | apply setF_kept | apply setSatS_kept | apply foldl_kept | (intro _))

theorem calClamp_kept {kb} (k : Nat) {s : State} (hk : Kept kb s) : Kept kb (calClamp k s) := by
  unfold calClamp
  with_reducible repeat' (first
      | assumption | apply sendFault_kept | apply setEst_kept | simp only [kept_mk_eq] | split)

theorem estRetry_kept {kb} {s : State} (hk : Kept kb s) : Kept kb (estRetry s) := by
  unfold estRetry
  with_reducible repeat' (first
      | assumption | apply setB_kept)

/-! ### Sample.lean -/

theorem consume_kept {kb} (k : Nat) {s : State} (hk : Kept kb s) : Kept kb (consume k s) := by
  unfold consume
  with_reducible repeat' (first
      | assumption | apply takeSlot0_kept | apply takeSlot1_kept | apply balPublish_kept
      | apply takeSlot3_kept | split)

theorem xchkClose_kept {kb} {s : State} (hk : Kept kb s) : Kept kb (xchkClose s) := by
  unfold xchkClose
  with_reducible repeat' (first
      | assumption | apply lgvClose1ms_kept | apply estRound_kept | apply xchkRound_kept
      | apply imbalanceRound_kept | apply foldl_kept | (intro _))

theorem senseSample_kept {kb} (imon : List Nat) (pts : List Nat) {s : State} (hk : Kept kb s) : Kept kb (senseSample imon pts s) := by
  unfold senseSample
  with_reducible repeat' (first
      | assumption | apply estSample_kept | apply snsSample_kept | apply lgvSample_kept
      | apply compSample_kept | apply deSample_kept | apply seqSample_kept | apply restSample_kept | apply negLimit_kept
      | apply foldl_kept | (intro _))

theorem hksRound_kept {kb} (conv : List (Nat × Nat)) {s : State} (hk : Kept kb s) : Kept kb (hksRound conv s) := by
  unfold hksRound
  with_reducible repeat' (first
      | assumption | apply hotRound_kept | apply tmgHwRound_kept | apply hksPublish_kept
      | apply pxeThermal_kept)

theorem pxePublish_kept {kb} (k : Nat) (time : Nat) {s : State} (hk : Kept kb s) : Kept kb (pxePublish k time s) := by
  unfold pxePublish
  with_reducible repeat' (first
      | assumption | apply publishRun_kept | apply consume_kept | simp only [kept_mk_eq] | split)

theorem railClose1_kept {kb} (k : Nat) {s : State} (hk : Kept kb s) : Kept kb (railClose1 k s) := by
  unfold railClose1
  with_reducible repeat' (first
      | assumption | apply noteImax_kept | apply reactiveAdd_kept | apply setSatS_kept)

theorem publishRow_kept {kb} (k : Nat) (time : Nat) {s : State} (hk : Kept kb s) : Kept kb (publishRow k time s) := by
  unfold publishRow
  with_reducible repeat' (first
      | assumption | apply pxePublish_kept | split)

theorem windowClose10_kept {kb} {s : State} (hk : Kept kb s) : Kept kb (windowClose10 s) := by
  unfold windowClose10
  with_reducible repeat' (first
      | assumption | apply lgvClose10_kept | apply estClose10_kept)

theorem windowClose1_kept {kb} {s : State} (hk : Kept kb s) : Kept kb (windowClose1 s) := by
  unfold windowClose1
  with_reducible repeat' (first
      | assumption | apply railClose1_kept | apply setSns_kept | apply takeShot_kept | apply lgvClose1_kept | apply chipPower_kept
      | simp only [kept_mk_eq] | apply foldl_kept | split | (intro _))

end Sys2Proof.Machine
end

