-- ==== Sys2Proof/Laws/KeptBus.lean ====
section
/-! SUPPORT. One lemma per operation: it keeps what `Kept` says. Here boundaries, resets, the bus, the packets and the rows. -/

namespace Sys2Proof.Machine

/-! ### Boundary.lean -/

theorem notifyPkts_kept {kb} (got : List (Nat × Nat)) (did : List Nat) (step : Nat) (plan : Nat) {s : State} (hk : Kept kb s) :
    Kept kb (notifyPkts got did step plan s) := by
  unfold notifyPkts
  with_reducible repeat' (first
      | assumption | apply setCmd_kept | simp only [kept_mk_eq] | apply kept_win | apply kept_xfers)

theorem sourceLocal_kept {kb} {s : State} (h : Kept kb s) (hq : ∀ u, kb.2 u → kb.2 { u with nextB := none, cutMade := false }) :
    Kept kb (sourceLocal s) := by
  have h1 := ffScheduleComputed_kept (setB_kept GLB.BOUNDARY_STATUS.LOCAL_BOUNDARIES true h)
  unfold sourceLocal
  split
  · exact h
  · exact floorNext_kept (abandonRounds_kept (planPause_kept (event_kept _ _
      ⟨h1.base, hq _ h1.time, h1.regs, h1.plan, h1.sig, h1.pxe, h1.win, h1.log, h1.buf, h1.part, h1.img, h1.slots, h1.xfers⟩)))

theorem capStamp_kept {kb} {s : State} (hk : Kept kb s) : Kept kb (capStamp s) := by
  unfold capStamp
  with_reducible repeat' (first
      | assumption | apply setCmd_kept | simp only [kept_mk_eq] | apply kept_win | apply kept_xfers)

theorem swapEffects_kept {kb} (keys : List Nat) {s : State} (h : Kept kb s) : Kept kb (swapEffects keys s) := by
  unfold swapEffects
  extract_lets has reg s1 s2 s3 p s4 s5
  have h1 : Kept kb s1 := by
    unfold s1; split
    · exact setF_kept h
    · exact h
  have h2 : Kept kb s2 := by
    unfold s2; split
    · exact repeatTake_kept _ h1
    · exact h1
  have h3 : Kept kb s3 := by
    unfold s3; split
    · exact withdrawLift_kept h2
    · exact h2
  have h4 : Kept kb s4 := mk_psq_kept h3 h3.plan h3.sig
  have h5 : Kept kb s5 := by
    unfold s5; split
    · exact setF_kept h4
    · exact h4
  split
  · exact h5
  · split
    · split
      · exact setPxe_kept (stopSlot_kept _ _ h5) (stopSlot_kept _ _ h5).pxe
      · exact h5
    · split
      · exact setSlotSt_kept _ _ (setPxe_kept h5 h5.pxe)
      · exact h5

theorem slotRunNow_kept {kb} (slot : Nat) {s : State} (hk : Kept kb s) : Kept kb (slotRunNow slot s) := by
  unfold slotRunNow
  with_reducible repeat' (first
      | assumption | apply setSlotSt_kept | apply setPxe_kept | simp only [kept_mk_eq] | apply kept_pxe
      | split)

theorem actNow_kept {kb} (k : ActKind) {s : State} (hk : Kept kb s) : Kept kb (actNow k s) := by
  unfold actNow
  with_reducible repeat' (first
      | assumption | apply seqStartAct_kept | apply seqStopAct_kept | apply retireAtBoundary_kept | apply restorePhase_kept
      | apply excludeDet_kept | apply planIdleNow_kept | apply abandonRounds_kept | apply setB_kept | apply calTake_kept
      | apply slotRunNow_kept | apply assignNow_kept | apply scrubBeginNow_kept | apply scrubEndNow_kept | apply confNow_kept
      | apply capRelease_kept | apply sbKeyNow_kept | apply watchSet_kept | apply planEvent_kept | apply setPlanState_kept
      | apply sigLoad_kept | apply foldl_kept | split | (intro _))

theorem swapTake_kept {kb} (launch : Option Nat) {s : State} (hk : Kept kb s) : Kept kb (swapTake launch s) := by
  unfold swapTake
  with_reducible repeat' (first
      | assumption | apply swapEffects_kept | apply swapValues_kept | apply actNow_kept
      | apply notifyPkts_kept | simp only [kept_mk_eq] | apply mk_kept | apply foldl_kept | (intro _))

theorem swapPhases_kept {kb} {s : State} (hk : Kept kb s) : Kept kb (swapPhases s) := by
  unfold swapPhases
  with_reducible repeat' (first
      | assumption | apply shedActions_kept | apply raiseTarget_kept | apply setRail_kept
      | apply shedTo_kept | simp only [kept_mk_eq] | apply foldl_kept | split | (intro _))

theorem swapSelects_kept {kb} {s : State} (hk : Kept kb s) : Kept kb (swapSelects s) := by
  unfold swapSelects
  with_reducible repeat' (first
      | assumption | apply applySelect_kept | apply foldl_kept | split | (intro _))

/-- The step number of a strobe's swap is the one that the strobe carries (R25). -/
theorem stepLoad_kept {p} {P Q : TimeState → Prop} {s : State} {n : Nat} {l : Nat} (h : Kept (p, P) s)
    (hq : ∀ u, P u → Q { u with step := n }) :
    Kept (p, Q) { s with time := { s.time with step := n }, psq := { s.psq with launch := l } } :=
  ⟨h.base, hq _ h.time, h.regs, h.plan, h.sig, h.pxe, h.win, h.log, h.buf, h.part, h.img, h.slots, h.xfers⟩

/-- An accepted strobe is noted (R26). -/
theorem strobeNote_kept {p} {P Q : TimeState → Prop} {s : State} {k : Nat} (h : Kept (p, P) s)
    (hq : ∀ u, P u → Q { u with lastStrobe := some k, idleSince := k }) :
    Kept (p, Q) { s with time := { s.time with lastStrobe := some k, idleSince := k } } :=
  ⟨h.base, hq _ h.time, h.regs, h.plan, h.sig, h.pxe, h.win, h.log, h.buf, h.part, h.img, h.slots, h.xfers⟩

/-- The end of a swap: the next boundary is known or not, and its cut is owed. -/
theorem swapEnd_kept {p} {P Q : TimeState → Prop} {s : State} {n : Option Nat} (h : Kept (p, P) s)
    (hq : ∀ u, P u → Q { u with nextB := n, cutMade := false }) :
    Kept (p, Q) { s with time := { s.time with nextB := n, cutMade := false }, psq := { s.psq with sched0 := n } } :=
  ⟨h.base, hq _ h.time, h.regs, h.plan, h.sig, h.pxe, h.win, h.log, h.buf, h.part, h.img, h.slots, h.xfers⟩

theorem swap_none_kept {p} {P Q : TimeState → Prop} {s : State} (hk : Kept (p, P) s)
    (hq : ∀ u, P u → Q { u with nextB := none, cutMade := false }) : Kept (p, Q) (swap none s) := by
  unfold swap
  apply boundShow_kept
  apply snapSplit_kept
  apply capStamp_kept
  apply lgvLaunch_kept
  refine swapEnd_kept (P := P) ?_ hq
  dsimp only [Option.map]
  with_reducible repeat' (first
      | assumption | apply setBal_kept | apply fixedTake_kept | apply swapPhases_kept | apply swapSelects_kept | apply lgvSwap_kept
      | apply estSwap_kept | apply lgvRechoose_kept | apply swapTake_kept | apply drgLatch_kept | split | dsimp only)

theorem swap_some_kept {p} {P Q : TimeState → Prop} {s : State} {n : Nat} {l : Option Nat} (h : Kept (p, P) s)
    (hq : ∀ u m, P u → Q { u with step := n, nextB := m, cutMade := false }) : Kept (p, Q) (swap (some (n, l)) s) := by
  have hk := stepLoad_kept (Q := fun v => ∃ u, P u ∧ v = { u with step := n }) (n := n)
    (l := (sigUpdate (drgLatch (ffScheduleComputed s))).time.sys)
    (sigUpdate_kept (drgLatch_kept (ffScheduleComputed_kept h))) (fun u hu => ⟨u, hu, rfl⟩)
  unfold swap
  apply boundShow_kept
  apply snapSplit_kept
  apply capStamp_kept
  apply lgvLaunch_kept
  refine swapEnd_kept (P := fun v => ∃ u, P u ∧ v = { u with step := n }) ?_ ?_
  · dsimp only [Option.map]
    with_reducible repeat' (first
        | assumption | apply balStrobe_kept | apply floorNext_kept | apply abandonRounds_kept | apply incF_kept | apply fixedTake_kept
        | apply swapPhases_kept | apply swapSelects_kept | apply lgvSwap_kept | apply estSwap_kept | apply lgvRechoose_kept
        | apply planStrobe_kept | apply swapTake_kept | split | dsimp only)
  · rintro _ ⟨u, hu, rfl⟩; exact hq u _ hu

theorem noteCut_kept {kb} {s : State} (hk : Kept kb s) : Kept kb (noteCut s) := by
  unfold noteCut
  with_reducible repeat' (first
      | assumption | apply setRail_kept | simp only [kept_mk_eq] | apply foldl_kept | (intro _))

theorem checkSet_kept {kb} (l : List Fld) (ok : Bool) (rej : Fld) {s : State} (hk : Kept kb s) : Kept kb (checkSet l ok rej s) := by
  unfold checkSet
  with_reducible repeat' (first
      | assumption | apply setB_kept | apply dropPend_kept | split)

theorem checkPeriod_kept {kb} {s : State} (hk : Kept kb s) : Kept kb (checkPeriod s) := by
  unfold checkPeriod
  with_reducible repeat' (first
      | assumption | apply checkSet_kept)

theorem checkThresh_kept {kb} {s : State} (hk : Kept kb s) : Kept kb (checkThresh s) := by
  unfold checkThresh
  with_reducible repeat' (first
      | assumption | apply checkSet_kept)

theorem checkSp_kept {kb} (k : Nat) (e : Nat) {s : State} (hk : Kept kb s) : Kept kb (checkSp k e s) := by
  unfold checkSp
  with_reducible repeat' (first
      | assumption | apply checkSet_kept)

theorem checkSeq_kept {kb} {s : State} (hk : Kept kb s) : Kept kb (checkSeq s) := by
  unfold checkSeq
  with_reducible repeat' (first
      | assumption | apply checkSet_kept)

theorem checkMaps_kept {kb} {s : State} (hk : Kept kb s) : Kept kb (checkMaps s) := by
  unfold checkMaps
  with_reducible repeat' (first
      | assumption | apply setB_kept | apply dropPend_kept | simp only [kept_mk_eq] | apply foldl_kept
      | split | (intro _))

theorem checkPrio_kept {kb} {s : State} (hk : Kept kb s) : Kept kb (checkPrio s) := by
  unfold checkPrio
  with_reducible repeat' (first
      | assumption | apply checkSet_kept)

theorem checkSps_kept {kb} {s : State} (hk : Kept kb s) : Kept kb (checkSps s) := by
  unfold checkSps
  with_reducible repeat' (first
      | assumption | apply checkSp_kept | apply foldl_kept | (intro _))

theorem checkEta_kept {kb} {s : State} (hk : Kept kb s) : Kept kb (checkEta s) := by
  unfold checkEta
  with_reducible repeat' (first
      | assumption | apply checkSet_kept)

theorem checkDroop_kept {kb} {s : State} (hk : Kept kb s) : Kept kb (checkDroop s) := by
  unfold checkDroop
  with_reducible repeat' (first
      | assumption | apply checkSet_kept)

theorem setChecks_kept {kb} {s : State} (hk : Kept kb s) : Kept kb (setChecks s) := by
  unfold setChecks
  with_reducible repeat' (first
      | assumption | apply checkMaps_kept | apply checkPeriod_kept | apply checkThresh_kept
      | apply checkSeq_kept | apply checkPrio_kept | apply checkSps_kept | apply checkEta_kept | apply checkDroop_kept)

/-- The cut has been made. -/
theorem cutEnd_kept {p} {P Q : TimeState → Prop} {s : State} (h : Kept (p, P) s) (hq : ∀ u, P u → Q { u with cutMade := true }) :
    Kept (p, Q) { s with time := { s.time with cutMade := true } } :=
  ⟨h.base, hq _ h.time, h.regs, h.plan, h.sig, h.pxe, h.win, h.log, h.buf, h.part, h.img, h.slots, h.xfers⟩

theorem cutWork_kept {p} {P Q : TimeState → Prop} (next : Option Nat) {s : State} (hk : Kept (p, P) s)
    (hq : ∀ u, P u → Q { u with cutMade := true }) : Kept (p, Q) (cutWork next s) := by
  unfold cutWork
  refine cutEnd_kept (P := P) ?_ hq
  with_reducible repeat' (first
      | assumption | apply balCut_kept | apply tmgCut_kept | apply noteCut_kept
      | apply freezeAll_kept | apply setChecks_kept | apply planCut_kept | apply lgvCut_kept | apply holdUnanswered_kept
      | simp only [kept_mk_eq] | apply mk_psq_kept | apply kept_plan | apply kept_sig | split)

theorem boundaryCut_kept {kb} {s : State} (hk : Kept kb s) (hq : ∀ u, kb.2 u → kb.2 { u with cutMade := true }) :
    Kept kb (boundaryCut s) := by
  unfold boundaryCut
  split
  · exact hk
  · exact cutWork_kept _ hk hq

/-- What waits before a local boundary's swap: the cut made here or before. -/
theorem localBoundary_kept {kb} {s : State} (hk : Kept kb s) (hq : ∀ u, kb.2 u → kb.2 { u with nextB := none, cutMade := false }) :
    Kept kb (localBoundary s) := by
  unfold localBoundary
  split
  · exact hk
  · refine swap_none_kept (P := fun v => ∃ u b, kb.2 u ∧ v = { u with cutMade := b }) ?_ ?_
    · split
      · exact ⟨hk.base, ⟨s.time, s.time.cutMade, hk.time, rfl⟩, hk.regs, hk.plan, hk.sig, hk.pxe, hk.win, hk.log, hk.buf, hk.part, hk.img,
          hk.slots, hk.xfers⟩
      · exact cutWork_kept (P := kb.2) none hk (fun u hu => ⟨u, true, hu, rfl⟩)
    · rintro _ ⟨u, b, hu, rfl⟩; exact hq u hu

theorem attachJob_kept {kb} (step : Nat) {s : State} (hk : Kept kb s) : Kept kb (attachJob step s) := by
  unfold attachJob
  with_reducible repeat' (first
      | assumption | apply pktComplete_kept | apply pktDone_kept | apply setB_kept | apply foldl_kept
      | split | (intro _))

/-- A strobe that is accepted loads its number and is noted; any other leaves the time as it is (R25, R26). -/
theorem strobe_kept {p} {P Q : TimeState → Prop} (step : Nat) (launch : Option Nat) {s : State} (hk : Kept (p, P) s)
    (hq : strobeHeard s = true → strobeClose s = false → ∀ u m, P u →
      Q { u with step := step, lastStrobe := some s.time.ticks, idleSince := s.time.ticks, nextB := m, cutMade := false })
    (hn : strobeHeard s = false ∨ strobeClose s = true → Q s.time) :
    Kept (p, Q) (strobe step launch s) := by
  have weak : Q s.time → Kept (p, Q) s := fun h =>
    ⟨hk.base, h, hk.regs, hk.plan, hk.sig, hk.pxe, hk.win, hk.log, hk.buf, hk.part, hk.img, hk.slots, hk.xfers⟩
  unfold strobe
  split
  · exact weak (hn (.inl (by simp_all)))
  · split
    · exact sendFault_kept _ _ _ (weak (hn (.inr (by assumption))))
    · dsimp only
      have h0 := hq (by simp_all) (by simp_all)
      have h2 := strobeNote_kept (k := s.time.ticks)
        (Q := fun v => ∃ u b, P u ∧ v = { u with lastStrobe := some s.time.ticks, idleSince := s.time.ticks, cutMade := b })
        (setB_kept GLB.BOUNDARY_STATUS.LOCAL_BOUNDARIES false (attachJob_kept step hk)) (fun u hu => ⟨u, u.cutMade, hu, rfl⟩)
      apply lateWake_kept
      refine swap_some_kept
        (P := fun v => ∃ u b, P u ∧ v = { u with lastStrobe := some s.time.ticks, idleSince := s.time.ticks, cutMade := b }) ?_ ?_
      · split
        · exact h2
        · refine cutWork_kept _ h2 ?_
          rintro _ ⟨u, b, hu, rfl⟩; exact ⟨u, true, hu, rfl⟩
      · rintro _ m ⟨u, b, hu, rfl⟩; exact h0 u m hu

theorem reactPhases_kept {kb} {s : State} (hk : Kept kb s) : Kept kb (reactPhases s) := by
  unfold reactPhases
  with_reducible repeat' (first
      | assumption | apply raiseTarget_kept | apply setRail_kept | apply shedTo_kept | simp only [kept_mk_eq] | apply foldl_kept
      | split | (intro _))

/-! ### Reset.lean -/

theorem evrReset_kept {kb} {s : State} (hk : Kept kb s) : Kept kb (evrReset s) := by
  unfold evrReset
  with_reducible repeat' (first
      | assumption | apply showOldest_kept | simp only [kept_mk_eq] | apply mk_evr_kept | apply kept_part
      | apply memWf_nil)

theorem drain_kept {kb} (n : Nat) {s : State} (h : Kept kb s) : Kept kb (drain n s) := by
  induction n generalizing s with
  | zero => exact h
  | succ n ih =>
    unfold drain
    split
    · exact h
    · apply ih; split
      · exact recordPost_kept h
      · exact faultMessage_kept h

theorem resetFlush_kept {kb} {s : State} (hk : Kept kb s) : Kept kb (resetFlush s) := by
  unfold resetFlush
  with_reducible repeat' (first
      | assumption | apply holdBeats_kept | apply flushNow_kept | apply drain_kept)

theorem resetRecord_kept {kb} (kind : Nat) (agent : Option Nat) {s : State} (hk : Kept kb s) : Kept kb (resetRecord kind agent s) := by
  unfold resetRecord
  with_reducible repeat' (first
      | assumption | apply setF_kept | apply incF_kept | simp only [kept_mk_eq] | split)

theorem dropWork_kept {kb} {s : State} (hk : Kept kb s) : Kept kb (dropWork s) := by
  unfold dropWork
  with_reducible repeat' (first
      | assumption | apply applyLanding_kept | simp only [kept_mk_eq] | apply mk_kept)

theorem mgmtReset_kept {kb} {s : State} (hk : Kept kb s) : Kept kb (mgmtReset s) := by
  unfold mgmtReset
  with_reducible repeat' (first
      | assumption | apply kept_time | apply pmbReset_kept | simp only [kept_mk_eq] | apply mk_all_kept
      | apply kept_plan | apply kept_sig | apply kept_pxe | apply kept_buf | apply kept_part | apply kept_img | apply kept_slots
      | apply kept_xfers | apply kept_regs | apply xfersOk_filter | apply reset_win | apply reset_log)

theorem unitsReset_kept {kb} {s : State} (hk : Kept kb s) : Kept kb (unitsReset s) := by
  unfold unitsReset
  with_reducible repeat' (first
      | assumption | apply kept_time | simp only [kept_mk_eq] | apply mk_all_kept | apply kept_win | apply kept_log
      | apply kept_buf | apply kept_part | apply kept_img | apply kept_slots | apply kept_xfers | apply kept_regs | apply reset_planmem
      | apply reset_sig | apply reset_pxe)

/-- The time record after a reset (Table 13-8). -/
def timeZero (t : TimeState) : TimeState :=
  { t with sys := 0, step := 0, nextB := none, lastStrobe := none, idleSince := t.ticks, cutMade := false }

theorem timeReset_kept {kb} {s : State} (hk : Kept kb s) (hz : ∀ t, kb.2 t → kb.2 (timeZero t)) : Kept kb (timeReset s) :=
  ⟨hk.base, hz _ hk.time, hk.regs, hk.plan, hk.sig, hk.pxe, hk.win, hk.log, hk.buf, hk.part, hk.img, hk.slots, hk.xfers⟩

theorem coldValues_kept {kb} (seed : Bool) {s : State} (hk : Kept kb s) (hz : ∀ t, kb.2 t → kb.2 (timeZero t)) : Kept kb (coldValues seed
    s) := by
  unfold coldValues
  with_reducible repeat' (first
      | assumption | apply keepRegs_kept | apply dropWork_kept | apply mgmtReset_kept | apply unitsReset_kept
      | apply timeReset_kept | apply setW_kept | apply setEvr_kept | apply keepBound_kept | apply evrReset_kept
      | simp only [kept_mk_eq] | apply mk_kept | apply mk_all_kept | apply kept_plan | apply kept_sig | apply kept_pxe
      | apply kept_win | apply kept_log | apply kept_buf | apply kept_part | apply kept_slots | apply kept_xfers | apply kept_regs
      | apply reset_img | apply kept_time)

theorem coldGo_kept {kb} (kind : Nat) {s : State} (hk : Kept kb s) : Kept kb (coldGo kind s) := by
  unfold coldGo
  with_reducible repeat' (first
      | assumption | apply setF_kept | apply resetRecord_kept | apply showActive_kept
      | apply coldPhases_kept | apply beginStart_kept | simp only [kept_mk_eq] | split)

theorem coldStart_kept {kb} {s : State} (h : Kept kb s) (hz : ∀ t, kb.2 t → kb.2 (timeZero t))
    (hv : ∀ t n, kb.2 t → kb.2 { t with hours := n, vaonLow := false }) : Kept kb (coldStart s) := by
  have h1 : Kept kb { s with free := s.free, time := { s.time with hours := s.evr.savedHours, vaonLow := false } } :=
    ⟨h.base, hv _ _ h.time, h.regs, h.plan, h.sig, h.pxe, h.win, h.log, h.buf, h.part, h.img, h.slots, h.xfers⟩
  unfold coldStart
  with_reducible repeat' (first
      | assumption | apply coldValues_kept | apply incF_kept | apply coldGo_kept
      | simp only [kept_mk_eq] | apply mk_kept)

theorem clearEnds_kept {kb} {s : State} (hk : Kept kb s) : Kept kb (clearEnds s) := by
  unfold clearEnds
  with_reducible repeat' (first
      | assumption | apply setSta_kept)

theorem dropH_kept {kb} (p : Nat → Bool) {s : State} (hk : Kept kb s) : Kept kb (dropH p s) :=
  ⟨hk.base, hk.time, regsWf_filter _ _ hk.regs, hk.plan, hk.sig, hk.pxe, hk.win, hk.log, hk.buf, hk.part, hk.img, hk.slots, hk.xfers⟩

theorem moduleReset_kept {kb} {s : State} (hk : Kept kb s) : Kept kb (moduleReset s) := by
  unfold moduleReset
  with_reducible repeat' (first
      | assumption | apply quickStop_kept | apply setB_kept | apply hbStop_kept | apply setF_kept | apply pmbReset_kept
      | apply setCore_kept | apply setComps_kept | apply wdtStop_kept | simp only [kept_mk_eq] | apply mk_kept | apply foldl_kept
      | split | (intro _))

theorem planStopped_kept {kb} (old : State) {s : State} (hk : Kept kb s) : Kept kb (planStopped old s) := by
  unfold planStopped
  with_reducible repeat' (first
      | assumption | apply event_kept | split)

theorem resetValues_kept {kb} {s : State} (hk : Kept kb s) (hz : ∀ t, kb.2 t → kb.2 (timeZero t)) : Kept kb (resetValues s) := by
  unfold resetValues
  with_reducible repeat' (first
      | assumption | apply keepRegs_kept | apply dropWork_kept | apply evrReset_kept | apply mgmtReset_kept
      | apply unitsReset_kept | apply timeReset_kept | apply setB_kept | apply applySelect_kept | apply balClear_kept
      | apply droopRestart_kept | apply planStopped_kept | apply boundShow_kept | apply reactPhases_kept | apply singleTrip_kept
      | simp only [kept_mk_eq] | apply mk_fw_kept | apply foldl_kept | apply kept_log | split | (intro _))

theorem resetRelease_kept {kb} {s : State} (hk : Kept kb s) : Kept kb (resetRelease s) := by
  unfold resetRelease
  with_reducible repeat' (first
      | assumption | apply regate_kept | apply releaseBeats_kept | apply setLaunchRate_kept
      | apply setRate_kept)

theorem resetNotice_kept {kb} {s : State} (hk : Kept kb s) : Kept kb (resetNotice s) := by
  unfold resetNotice
  with_reducible repeat' (first
      | assumption | apply lateHold_kept | split)

theorem restartNow_kept {kb} (kind : Nat) (agent : Nat) {s : State} (hk : Kept kb s) (hz : ∀ t, kb.2 t → kb.2 (timeZero t)) : Kept kb (restartNow kind agent s) := by
  unfold restartNow
  with_reducible repeat' (first
      | assumption | apply resetRelease_kept | apply resetValues_kept | apply resetFlush_kept
      | apply resetNotice_kept | apply resetRecord_kept | apply event_kept | simp only [kept_mk_eq] | split)

theorem restart_kept {kb} (kind : Nat) (agent : Nat) {s : State} (hk : Kept kb s) (hz : ∀ t, kb.2 t → kb.2 (timeZero t)) : Kept kb (restart kind agent s) := by
  unfold restart
  with_reducible repeat' (first
      | assumption | apply setUpd_kept | apply wakeBegin_kept | apply restartNow_kept
      | simp only [kept_mk_eq] | apply kept_img | apply kept_slots | split)

theorem blockRestart_kept {kb} (agent : Nat) (val : Nat) {s : State} (hk : Kept kb s) (hz : ∀ t, kb.2 t → kb.2 (timeZero t)) : Kept kb (blockRestart agent val s) := by
  unfold blockRestart
  with_reducible repeat' (first
      | assumption | apply restart_kept | split)

theorem trustZero_kept {kb} {s : State} (hk : Kept kb s) : Kept kb (trustZero s) := by
  unfold trustZero
  with_reducible repeat' (first
      | assumption | apply trustEnter_kept | apply setF_kept | apply setB_kept | apply setEst_kept | split)

theorem moduleRelease_kept {kb} {s : State} (hk : Kept kb s) (hz : ∀ t, kb.2 t → kb.2 (timeZero t)) : Kept kb (moduleRelease s) := by
  unfold moduleRelease
  with_reducible repeat' (first
      | assumption | apply coldGo_kept | apply planStopped_kept | apply coldValues_kept | simp only [kept_mk_eq] | apply mk_kept
      | split)

theorem lgvZero_kept {kb} {s : State} (hk : Kept kb s) : Kept kb (lgvZero s) := by
  unfold lgvZero
  with_reducible repeat' (first
      | assumption | apply setB_kept | apply setF_kept | apply setLgv_kept)

theorem deepExit_kept {kb} {s : State} (hk : Kept kb s) : Kept kb (deepExit s) := by
  unfold deepExit
  with_reducible repeat' (first
      | assumption | apply setF_kept | apply trustZero_kept | apply lgvZero_kept | apply dropH_kept | apply setSns_kept
      | apply reactPhases_kept | apply floorNext_kept | apply balClear_kept | apply abandonRounds_kept | apply foldl_kept
      | (intro _))

theorem latenessZero_kept {kb} {s : State} (hk : Kept kb s) : Kept kb (latenessZero s) := by
  unfold latenessZero
  with_reducible repeat' (first
      | assumption | apply dropH_kept | simp only [kept_mk_eq] | apply mk_kept)

theorem restEnded_kept {kb} {s : State} (hk : Kept kb s) : Kept kb (restEnded s) := by
  unfold restEnded
  with_reducible repeat' (first
      | assumption | apply clearEnds_kept | apply releaseBeats_kept | apply deepExit_kept | apply latenessZero_kept
      | simp only [kept_mk_eq] | split)

theorem resetOwed_kept {kb} {s : State} (hk : Kept kb s) (hz : ∀ t, kb.2 t → kb.2 (timeZero t)) : Kept kb (resetOwed s) := by
  unfold resetOwed
  with_reducible repeat' (first
      | assumption | apply restartNow_kept | apply setUpd_kept | simp only [kept_mk_eq] | apply kept_img
      | apply kept_slots | split)

theorem chipReset_kept {kb} {s : State} (hk : Kept kb s) (hz : ∀ t, kb.2 t → kb.2 (timeZero t)) : Kept kb (chipReset s) := by
  unfold chipReset
  with_reducible repeat' (first
      | assumption | apply restart_kept)

theorem restExit_kept {kb} {s : State} (hk : Kept kb s) (hz : ∀ t, kb.2 t → kb.2 (timeZero t)) : Kept kb (restExit s) := by
  unfold restExit
  with_reducible repeat' (first
      | assumption | apply exitDone_kept | apply deepExit_kept | apply latenessZero_kept
      | apply resetOwed_kept | apply refreshRate_kept | simp only [kept_mk_eq] | split)

/-! ### Bus.lean -/

theorem setBus_kept {kb} (b : BusState) {s : State} (hk : Kept kb s) : Kept kb (setBus b s) := by
  unfold setBus
  with_reducible repeat' (first
      | assumption | simp only [kept_mk_eq] | apply mk_kept)

theorem deny_kept {kb} (agent : Nat) (o : Nat) (write : Bool) {s : State} (hk : Kept kb s) : Kept kb (deny agent o write s) := by
  unfold deny
  with_reducible repeat' (first
      | assumption | apply setB_kept | apply setF_kept | apply sendFault_kept | apply setBus_kept
      | simp only [kept_mk_eq] | split)

theorem busError_kept {kb} (flag : Fld) (agent : Nat) (o : Nat) {s : State} (hk : Kept kb s) : Kept kb (busError flag agent o s) := by
  unfold busError
  with_reducible repeat' (first
      | assumption | apply setF_kept | apply setB_kept | split)

theorem estCmd_kept {kb} (val : Nat) {s : State} (hk : Kept kb s) : Kept kb (estCmd val s) := by
  unfold estCmd
  with_reducible repeat' (first
      | assumption | apply estRetry_kept | apply estCalReset_kept | simp only [kept_mk_eq] | split)

theorem seqCmd_kept {kb} (val : Nat) {s : State} (hk : Kept kb s) : Kept kb (seqCmd val s) := by
  unfold seqCmd
  with_reducible repeat' (first
      | assumption | apply seqStart_kept | apply seqStop_kept | simp only [kept_mk_eq] | split)

theorem attachWrite_kept {kb} (agent : Nat) (val : Nat) {s : State} (hk : Kept kb s) : Kept kb (attachWrite agent val s) := by
  unfold attachWrite
  with_reducible repeat' (first
      | assumption | apply hostAttach_kept | apply ringAll_kept | simp only [kept_mk_eq] | split)

theorem winWrite_kept {kb} (agent : Nat) (o : Nat) (val : Nat) {s : State} (hk : Kept kb s) : Kept kb (winWrite agent o val s) := by
  unfold winWrite
  with_reducible repeat' (first
      | assumption | apply sramStore_kept | apply setCmd_kept | simp only [kept_mk_eq] | apply kept_win
      | apply kept_xfers | apply memWf_memPutLE)

theorem ownWrite_kept {kb} (agent : Nat) (o : Nat) (val : Nat) {s : State} (hk : Kept kb s) (hz : ∀ t, kb.2 t → kb.2 (timeZero t)) : KeptO kb (ownWrite agent o val s) := by
  unfold ownWrite
  with_reducible repeat' (first
      | assumption | apply detExclWrite_kept | apply estCmd_kept | apply capRelease_kept
      | apply phcRetiredWrite_kept | apply seqCmd_kept | apply latchClear_kept | apply thermLimWrite_kept | apply suspectClearWrite_kept
      | apply suspectSetWrite_kept | apply enterSafe_kept | apply staWake_kept | apply blockRestart_kept | apply wdtKick_kept
      | apply hostAlive_kept | apply attachWrite_kept | apply setBus_kept | apply gateOpen_kept | apply gateClose_kept
      | apply winWrite_kept | apply ringCfgWrite_kept | apply ringCqWrite_kept | apply ringDoorbell_kept | apply cqHeadWrite_kept
      | apply mbxWrite_kept | apply hbKick_kept | apply flcInject_kept | apply severeClear_kept | apply kxNew_kept
      | simp only [kept_mk_eq] | apply keptO_some | apply keptO_none | split)

theorem writeField_kept {kb} (agent : Nat) (o : Nat) (val : Nat) (f : FldDesc) {s : State} (hk : Kept kb s) :
    Kept kb (writeField agent o val f s) := by
  unfold writeField
  with_reducible repeat' (first
      | assumption | apply landPut_kept | apply pendPut_kept | apply setF_kept | simp only [kept_mk_eq]
      | split)

theorem plainWrite_kept {kb} (agent : Nat) (o : Nat) (val : Nat) {s : State} (hk : Kept kb s) : Kept kb (plainWrite agent o val s) := by
  unfold plainWrite
  with_reducible repeat' (first
      | assumption | apply reactNote_kept | apply writeField_kept | apply foldl_kept | (intro _))

theorem landWord_kept {kb} (agent : Nat) (o : Nat) (val : Nat) {s : State} (h : Kept kb s) (hz : ∀ t, kb.2 t → kb.2 (timeZero t)) : Kept kb (landWord agent o val s) := by
  unfold landWord
  split
  · exact h
  · split
    · rename_i heq
      exact ownWrite_kept _ _ _ h hz _ heq
    · exact plainWrite_kept _ _ _ h

theorem busWrite_kept {kb} (agent : Nat) (o : Nat) (val : Nat) (be : Nat) {s : State} (hk : Kept kb s) (hz : ∀ t, kb.2 t → kb.2 (timeZero t)) :
    Kept kb (busWrite agent o val be s) := by
  unfold busWrite
  with_reducible repeat' (first
      | assumption | apply deny_kept | apply ringDoorbell_kept | apply busError_kept | apply setBus_kept
      | apply landWord_kept | simp only [kept_mk_eq] | split)

theorem sramRead_kept {kb} (w : Nat) {s : State} (hk : Kept kb s) : Kept kb (sramRead w s) := by
  unfold sramRead
  with_reducible repeat' (first
      | assumption | apply incF_kept | apply freeNext_kept | apply setBus_kept | simp only [kept_mk_eq]
      | split)

theorem clearRc_kept {kb} (o : Nat) {s : State} (hk : Kept kb s) : Kept kb (clearRc o s) := by
  unfold clearRc
  with_reducible repeat' (first
      | assumption | apply setF_kept | apply foldl_kept | (intro _))

theorem readEffects_kept {kb} (agent : Nat) (o : Nat) (tag : Option Bool) {s : State} (hk : Kept kb s) :
    Kept kb (readEffects agent o tag s) := by
  unfold readEffects
  with_reducible repeat' (first
      | assumption | apply sramRead_kept | apply evrWinRead_kept | apply freeNext_kept | apply setBus_kept
      | apply clearRc_kept | simp only [kept_mk_eq] | split)

theorem busRead_kept {kb} (agent : Nat) (o : Nat) (tag : Option Bool) {s : State} (hk : Kept kb s) : Kept kb (busRead agent o tag s) := by
  unfold busRead
  with_reducible repeat' (first
      | assumption | apply setBus_kept | apply deny_kept | apply busError_kept | apply mbxRead_kept
      | apply readEffects_kept | simp only [kept_mk_eq] | split)

/-! ### Packet.lean -/

theorem seqCheck_kept {kb} (p : Pkt) {s : State} (hk : Kept kb s) : Kept kb (seqCheck p s).1 := by
  unfold seqCheck
  with_reducible repeat' (first
      | assumption | apply setB_kept | apply setF_kept | apply incF_kept | simp only [kept_mk_eq] | split)

theorem taggedCompletion_kept {kb} {s : State} (hk : Kept kb s) : Kept kb (taggedCompletion s) := by
  unfold taggedCompletion
  with_reducible repeat' (first
      | assumption | apply pktComplete_kept | simp only [kept_mk_eq] | split)

theorem outstand_kept {kb} (p : Pkt) (st : Nat) (act : Option ActKind) {s : State} (hk : Kept kb s) : Kept kb (outstand p st act s) := by
  unfold outstand
  with_reducible repeat' (first
      | assumption | apply setCmd_kept | simp only [kept_mk_eq] | apply kept_win | apply kept_xfers)

theorem doFlush_kept {kb} (p : Pkt) {s : State} (hk : Kept kb s) : Kept kb (doFlush p s) := by
  unfold doFlush
  with_reducible repeat' (first
      | assumption | apply flushBegin_kept | apply outstand_kept)

theorem doJobAttach_kept {kb} (p : Pkt) {s : State} (hk : Kept kb s) : Kept kb (doJobAttach p s) := by
  unfold doJobAttach
  with_reducible repeat' (first
      | assumption | apply outstand_kept | apply setCmd_kept | simp only [kept_mk_eq] | apply kept_win
      | apply kept_xfers)

theorem fetchDone_kept {kb} (q : Nat) (data : List Nat) (ok : Bool) {s : State} (hk : Kept kb s) : Kept kb (fetchDone q data ok s) := by
  unfold fetchDone
  with_reducible repeat' (first
      | assumption | apply pktUpd_kept | apply sendFault_kept | apply pktComplete_kept
      | apply pktDone_kept | simp only [kept_mk_eq] | split)

theorem gatePut_kept {kb} (x : OutPkt) (k : Nat) (v : Nat) {s : State} (hk : Kept kb s) : Kept kb (gatePut x k v s) := by
  unfold gatePut
  with_reducible repeat' (first
      | assumption | apply reactNote_kept | simp only [kept_mk_eq] | apply mk_kept)

theorem gateItem_kept {kb} (x : OutPkt) (i : Nat × Nat × Nat) {s : State} (hk : Kept kb s) : Kept kb (gateItem x i s) := by
  unfold gateItem
  with_reducible repeat' (first
      | assumption | apply gatePut_kept | simp only [kept_mk_eq] | apply foldl_kept | split | (intro _))

theorem gateAll_kept {kb} (x : OutPkt) {s : State} (hk : Kept kb s) : Kept kb (gateAll x s) := by
  unfold gateAll
  with_reducible repeat' (first
      | assumption | apply gateItem_kept | apply gatePut_kept | apply pktUpd_kept | apply addAct_kept
      | simp only [kept_mk_eq] | apply foldl_kept | split | (intro _))

theorem tryGate_kept {kb} (id : Nat) {s : State} (hk : Kept kb s) : Kept kb (tryGate id s) := by
  unfold tryGate
  with_reducible repeat' (first
      | assumption | apply gateAll_kept | split)

theorem tagged_kept {kb} (p : Pkt) (act : Option ActKind) {s : State} (hk : Kept kb s) : Kept kb (tagged p act s) := by
  unfold tagged
  with_reducible repeat' (first
      | assumption | apply tryGate_kept | apply outstand_kept)

theorem doScrubEnd_kept {kb} (p : Pkt) {s : State} (hk : Kept kb s) : Kept kb (doScrubEnd p s) := by
  unfold doScrubEnd
  with_reducible repeat' (first
      | assumption | apply tagged_kept)

theorem haltRing_kept {kb} (p : Pkt) (bad : Bool) (i : Nat) {s : State} (hk : Kept kb s) : Kept kb (haltRing p bad i s) := by
  unfold haltRing
  with_reducible repeat' (first
      | assumption | apply setRingSt_kept | apply complete_kept | apply sendFault_kept)

theorem finish_kept {kb} (p : Pkt) (status : Nat) (applied : Nat) (detail : Nat) {s : State} (hk : Kept kb s) :
    Kept kb (finish p status applied detail s) := by
  unfold finish
  with_reducible repeat' (first
      | assumption | apply ringRoom_kept | apply complete_kept)

theorem dispatchSound_kept {kb} (p : Pkt) (run : Pkt → State → State) {s : State} (hrun : ∀ p t, Kept kb t → Kept kb (run p t)) (hk :
    Kept kb s) : Kept kb (dispatchSound p run s) := by
  unfold dispatchSound
  with_reducible repeat' (first
      | assumption | apply hrun | apply setF_kept | apply served_kept | apply seqCheck_kept
      | apply finish_kept | apply ringRoom_kept | simp only [kept_mk_eq] | split)

theorem dispatchHead_kept {kb} (q : Nat) (run : Pkt → State → State) {s : State} (hrun : ∀ p t, Kept kb t → Kept kb (run p t)) (hk :
    Kept kb s) : Kept kb (dispatchHead q run s) := by
  unfold dispatchHead
  with_reducible repeat' (first
      | assumption | apply haltRing_kept | apply incF_kept | apply dispatchSound_kept
      | simp only [kept_mk_eq] | split)

theorem cutBlocks_kept {kb} (op : Nat) {s : State} (hk : Kept kb s) : Kept kb (cutBlocks op s) := by
  unfold cutBlocks
  with_reducible repeat' (first
      | assumption | apply pktDone_kept | apply foldl_kept | (intro _))

theorem cutComp_kept {kb} (c : Nat) {s : State} (h : Kept kb s) : Kept kb (cutComp c s) := by
  unfold cutComp
  split
  · exact foldl_kept (fun t x ht => abandonXfer_kept _ _ (fun u hu => (progTarget_kept x hu).2.2.2.1) ht) (cutBlocks_kept _ (gateDiscard_kept h))
  · exact cutBlocks_kept _ (showUpd_kept (endTransfers_kept _ h))
  · exact abandonXfer_kept _ _ (fun u hu => (planTarget_kept hu).2.2.2.1) (cutBlocks_kept _ h)
  · exact abandonRounds_kept h
  · exact h

theorem doJobDetach_kept {kb} (p : Pkt) {s : State} (hk : Kept kb s) : Kept kb (doJobDetach p s) := by
  unfold doJobDetach
  with_reducible repeat' (first
      | assumption | apply tagged_kept)

theorem doScrubBegin_kept {kb} (p : Pkt) {s : State} (hk : Kept kb s) : Kept kb (doScrubBegin p s) := by
  unfold doScrubBegin
  with_reducible repeat' (first
      | assumption | apply tagged_kept)

theorem doAssign_kept {kb} (p : Pkt) {s : State} (hk : Kept kb s) : Kept kb (doAssign p s) := by
  unfold doAssign
  with_reducible repeat' (first
      | assumption | apply tagged_kept)

theorem cutStopped_kept {kb} (was : State) {s : State} (hk : Kept kb s) : Kept kb (cutStopped was s) := by
  unfold cutStopped
  with_reducible repeat' (first
      | assumption | apply cutComp_kept | apply foldl_kept | split | (intro _))

theorem doAbort_kept {kb} (p : Pkt) {s : State} (hk : Kept kb s) : Kept kb (doAbort p s) := by
  unfold doAbort
  with_reducible repeat' (first
      | assumption | apply updAbort_kept | apply finish_kept | apply cutStopped_kept
      | apply pktComplete_kept | simp only [kept_mk_eq] | apply foldl_kept | split | (intro _))

theorem blockLost_kept {kb} (x : OutPkt) {s : State} (h : Kept kb s) : Kept kb (blockLost x s) := by
  unfold blockLost
  split
  · exact h
  · split
    · exact (planTarget_kept h).2.2.2.2
    · exact (progTarget_kept _ h).2.2.2.2
    · exact h

theorem takeArrived_kept {kb} (x : OutPkt) (rootOk sigOk : Bool) {s : State} (h : Kept kb s) : Kept kb (takeArrived x rootOk sigOk s) := by
  unfold takeArrived
  extract_lets off got r
  split
  · exact pktComplete_kept _ _ _ _ (blockLost_kept _ h)
  have hr : Kept kb r.1 := by
    unfold r; split
    · exact takeBlock_kept _ _ _ _ (fun m u hu => (planTarget_kept hu).1 m) (fun d u hu => (planTarget_kept hu).2.1 d)
        (fun m u _ hu => (planTarget_kept hu).2.2.1 m) (fun u hu => (planTarget_kept hu).2.2.2.1)
        (fun u hu => (planTarget_kept hu).2.2.2.2) h
    · exact takeBlock_kept _ _ _ _ (fun m u hu => (progTarget_kept _ hu).1 m) (fun d u hu => (progTarget_kept _ hu).2.1 d)
        (fun m u _ hu => (progTarget_kept _ hu).2.2.1 m) (fun u hu => (progTarget_kept _ hu).2.2.2.1)
        (fun u hu => (progTarget_kept _ hu).2.2.2.2) h
    · exact updBlock_kept _ _ _ _ _ h
  split
  · exact setUpd_kept (pktUpd_kept _ _ hr) hr.img hr.slots
  · exact pktComplete_kept _ _ _ _ hr

theorem doPlanStop_kept {kb} (p : Pkt) {s : State} (hk : Kept kb s) : Kept kb (doPlanStop p s) := by
  unfold doPlanStop
  with_reducible repeat' (first
      | assumption | apply tagged_kept)

theorem failing_kept {kb} (f : State → State) {s : State} (hf : ∀ t, Kept kb t → Kept kb (f t)) (hk : Kept kb s) :
    Kept kb (failing f s) := by
  unfold failing
  with_reducible repeat' (first
      | assumption | apply cutStopped_kept | apply trialGuard_kept)

theorem doConfirm_kept {kb} (p : Pkt) {s : State} (hk : Kept kb s) : Kept kb (doConfirm p s) := by
  unfold doConfirm
  with_reducible repeat' (first
      | assumption | apply finish_kept | apply confirm_kept)

theorem doConfMode_kept {kb} (p : Pkt) {s : State} (hk : Kept kb s) : Kept kb (doConfMode p s) := by
  unfold doConfMode
  with_reducible repeat' (first
      | assumption | apply tagged_kept)

theorem doRegRead_kept {kb} (p : Pkt) {s : State} (hk : Kept kb s) : Kept kb (doRegRead p s) := by
  unfold doRegRead
  with_reducible repeat' (first
      | assumption | apply busRead_kept | apply finish_kept)

theorem doNop_kept {kb} (p : Pkt) {s : State} (hk : Kept kb s) : Kept kb (doNop p s) := by
  unfold doNop
  with_reducible repeat' (first
      | assumption | apply finish_kept | apply tagged_kept | split)

theorem packetRow_kept {kb} (mine : Nat → Bool) (q : Nat) (run : Pkt → State → State) {s : State} (hrun :
    ∀ p t, Kept kb t → Kept kb (run p t)) (hk : Kept kb s) : Kept kb (packetRow mine q run s) := by
  unfold packetRow
  with_reducible repeat' (first
      | assumption | apply dispatchHead_kept | split)

theorem doBlock_kept {kb} (p : Pkt) {s : State} (hk : Kept kb s) : Kept kb (doBlock p s) := by
  unfold doBlock
  with_reducible repeat' (first
      | assumption | apply outstand_kept)

theorem blockRow_kept {kb} (op : Nat) (q : Nat) (rootOk : Bool) (sigOk : Bool) {s : State} (hk : Kept kb s) :
    Kept kb (blockRow op q rootOk sigOk s) := by
  unfold blockRow
  with_reducible repeat' (first
      | assumption | apply takeArrived_kept | apply packetRow_kept | apply doBlock_kept | split)

theorem doSetCap_kept {kb} (p : Pkt) {s : State} (hk : Kept kb s) : Kept kb (doSetCap p s) := by
  unfold doSetCap
  with_reducible repeat' (first
      | assumption | apply tagged_kept)

theorem doSbKey_kept {kb} (opens : Bool) (key : Nat) (p : Pkt) {s : State} (hk : Kept kb s) : Kept kb (doSbKey opens key p s) := by
  unfold doSbKey
  with_reducible repeat' (first
      | assumption | apply finish_kept | apply unwrapFail_kept | apply tagged_kept | split)

theorem doWatch_kept {kb} (p : Pkt) {s : State} (hk : Kept kb s) : Kept kb (doWatch p s) := by
  unfold doWatch
  with_reducible repeat' (first
      | assumption | apply tagged_kept)

theorem doLogKey_kept {kb} (p : Pkt) {s : State} (hk : Kept kb s) : Kept kb (doLogKey p s) := by
  unfold doLogKey
  with_reducible repeat' (first
      | assumption | apply keyRotate_kept | apply finish_kept)

theorem doActivate_kept {kb} (p : Pkt) {s : State} (hk : Kept kb s) : Kept kb (doActivate p s) := by
  unfold doActivate
  with_reducible repeat' (first
      | assumption | apply activateAccept_kept | apply outstand_kept)

theorem taggedResume_kept {kb} {s : State} (hk : Kept kb s) : Kept kb (taggedResume s) := by
  unfold taggedResume
  with_reducible repeat' (first
      | assumption | apply gateAll_kept | split)

theorem doRegWrite_kept {kb} (p : Pkt) {s : State} (hk : Kept kb s) (hz : ∀ t, kb.2 t → kb.2 (timeZero t)) : Kept kb (doRegWrite p s) := by
  unfold doRegWrite
  with_reducible repeat' (first
      | assumption | apply tagged_kept | apply busWrite_kept | apply finish_kept | simp only [kept_mk_eq]
      | apply foldl_kept | split | (intro _))

theorem doMark_kept {kb} (p : Pkt) {s : State} (hk : Kept kb s) : Kept kb (doMark p s) := by
  unfold doMark
  with_reducible repeat' (first
      | assumption | apply outstand_kept | apply freeNext_kept | apply incF_kept | apply pktComplete_kept
      | simp only [kept_mk_eq] | apply mk_kept | split)

theorem doGetCap_kept {kb} (p : Pkt) {s : State} (hk : Kept kb s) : Kept kb (doGetCap p s) := by
  unfold doGetCap
  with_reducible repeat' (first
      | assumption | apply finish_kept)

theorem doPolicy_kept {kb} (p : Pkt) {s : State} (hk : Kept kb s) : Kept kb (doPolicy p s) := by
  unfold doPolicy
  with_reducible repeat' (first
      | assumption | apply tagged_kept)

/-! ### Advance.lean -/

theorem limitRow_kept {kb} {s : State} (hk : Kept kb s) : Kept kb (limitRow s) := by
  unfold limitRow
  with_reducible repeat' (first
      | assumption | apply safeNow_kept | apply restartLimit_kept | split)

theorem onGrid_kept {kb} (n : Nat) (f : State → State) {s : State} (hf : ∀ t, Kept kb t → Kept kb (f t)) (hk : Kept kb s) :
    Kept kb (onGrid n f s) := by
  unfold onGrid
  with_reducible repeat' (first
      | assumption | apply hf | split)

theorem byComp_kept {kb} (c : Nat) (f : State → State) {s : State} (hf : ∀ t, Kept kb t → Kept kb (f t)) (hk : Kept kb s) :
    Kept kb (byComp c f s) := by
  unfold byComp
  with_reducible repeat' (first
      | assumption | apply hf | split)

theorem coreInject_kept {kb} (c : Nat) {s : State} (hk : Kept kb s) : Kept kb (coreInject c s) := by
  unfold coreInject
  with_reducible repeat' (first
      | assumption | apply setF_kept | apply setB_kept | apply incF_kept | apply failing_kept
      | apply coreException_kept | apply freeNext_kept | simp only [kept_mk_eq] | split | (intro _))

theorem checkInRow_kept {kb} (c : Nat) {s : State} (hk : Kept kb s) : Kept kb (checkInRow c s) := by
  unfold checkInRow
  with_reducible repeat' (first
      | assumption | apply byComp_kept | apply coreInject_kept | apply checkIn_kept | (intro _))

theorem vaonRestored_kept {kb} (v : Nat) {s : State} (hk : Kept kb s) (hq : ∀ u, kb.2 u → kb.2 { u with vaonLow := false }) :
    Kept kb (vaonRestored v s) :=
  have h := setB_kept GLB.CORE_STATUS.BELOW_BOUNDS (decide (v < 2880)) hk
  ⟨h.base, hq _ h.time, h.regs, h.plan, h.sig, h.pxe, h.win, h.log, h.buf, h.part, h.img, h.slots, h.xfers⟩

theorem vaonCollapse_kept {kb} {s : State} (hk : Kept kb s) : Kept kb (vaonCollapse s) := by
  unfold vaonCollapse
  with_reducible repeat' (first
      | assumption | apply setB_kept | simp only [kept_mk_eq] | apply mk_kept)

theorem busAccess_kept {kb} (agent : Nat) (o : Nat) (write : Bool) (val : Nat) (be : Nat) {s : State} (hk : Kept kb s) (hz : ∀ t, kb.2 t → kb.2 (timeZero t)) :
    Kept kb (busAccess agent o write val be s) := by
  unfold busAccess
  with_reducible repeat' (first
      | assumption | apply busWrite_kept | apply busRead_kept | split)

theorem overrideFall_kept {kb} {s : State} (hk : Kept kb s) : Kept kb (overrideFall s) := by
  unfold overrideFall
  with_reducible repeat' (first
      | assumption | apply setB_kept | apply setPmb_kept | split)

theorem settle_kept {kb} {s : State} (hk : Kept kb s) : Kept kb (settle s) := by
  unfold settle
  with_reducible repeat' (first
      | assumption | apply pmbWatch_kept | apply overrideFall_kept | apply restEnded_kept | split)

theorem systime_kept {kb} (ok : Bool) (time : Nat) {s : State} (hk : Kept kb s)
    (hq : ok = true → linkDown s = false → ∀ u, kb.2 u → kb.2 { u with sys := time }) : Kept kb (systime ok time s) := by
  have h := setB_kept GLB.BOUNDARY_STATUS.SYSTIME_VALID (ok && !linkDown s) hk
  unfold systime
  dsimp only
  split
  · rename_i hv
    simp only [Bool.and_eq_true, Bool.not_eq_true'] at hv
    exact ⟨h.base, hq hv.1 hv.2 _ h.time, h.regs, h.plan, h.sig, h.pxe, h.win, h.log, h.buf, h.part, h.img, h.slots, h.xfers⟩
  · exact h

theorem snapFinish_kept {kb} {s : State} (hk : Kept kb s) : Kept kb (snapFinish s) := by
  unfold snapFinish
  with_reducible repeat' (first
      | assumption | apply snapRead_kept | apply foldl_kept | (intro _))

theorem pmInvalid_kept {kb} (pec : Bool) (n : Nat) {s : State} (hk : Kept kb s) : Kept kb (pmInvalid pec n s) := by
  unfold pmInvalid
  with_reducible repeat' (first
      | assumption | apply cmlInvalid_kept | apply latch_kept | split)

theorem pmEnergy_kept {kb} (m : Nat) {s : State} (hk : Kept kb s) : Kept kb (pmEnergy m s) := by
  unfold pmEnergy
  with_reducible repeat' (first
      | assumption | apply replyWith_kept | apply cmlInvalid_kept | split)

theorem pmBusData_kept {kb} (w : Option Nat) (pec : Bool) {s : State} (hk : Kept kb s) (hz : ∀ t, kb.2 t → kb.2 (timeZero t)) : Kept kb (pmBusData w pec s) := by
  unfold pmBusData
  with_reducible repeat' (first
      | assumption | apply setPmb_kept | apply pecOr_kept | apply busWrite_kept | apply busRead_kept
      | apply replyWith_kept | simp only [kept_mk_eq] | split | (intro _))

theorem powerFail_kept {kb} {s : State} (hk : Kept kb s) : Kept kb (powerFail s) := by
  unfold powerFail
  with_reducible repeat' (first
      | assumption | apply ownRec_kept | apply snapFinish_kept | apply pwrFailFall_kept | apply flushBegin_kept | apply drain_kept
      | simp only [kept_mk_eq] | split)

theorem vaonLow_kept {kb} (lowest : Nat) {s : State} (hk : Kept kb s) (hq : ∀ u, kb.2 u → kb.2 { u with vaonLow := true }) :
    Kept kb (vaonLow lowest s) := by
  have h := setB_kept GLB.CORE_STATUS.BELOW_BOUNDS true (setB_kept GLB.CORE_STATUS.VAON_LOW true hk)
  unfold vaonLow
  split
  · exact hk
  · exact sendFault_kept _ _ _ ⟨h.base, hq _ h.time, h.regs, h.plan, h.sig, h.pxe, h.win, h.log, h.buf, h.part, h.img, h.slots, h.xfers⟩

/-! ### Time passes -/

/-- The local time base and the operating hours count while the reference runs, system time while it is valid (R22, R23, R449). -/
theorem passTime_kept {p} {P Q : TimeState → Prop} (dt : Nat) {s : State} (h : Kept (p, P) s)
    (hq : ∀ u y, P u → Q { u with ticks := u.ticks + (if u.refRun then dt else 0), hours := u.hours + (if u.refRun then dt else 0), sys := y }) :
    Kept (p, Q) (passTime dt s) :=
  ⟨h.base, hq _ _ h.time, h.regs, h.plan, h.sig, h.pxe, h.win, h.log, h.buf, h.part, h.img, h.slots, h.xfers⟩

theorem refclk_kept {p} {P Q : TimeState → Prop} (on : Bool) {s : State} (h : Kept (p, P) s) (hq : ∀ u, P u → Q { u with refRun := on }) :
    Kept (p, Q) (refclk on s) :=
  ⟨h.base, hq _ h.time, h.regs, h.plan, h.sig, h.pxe, h.win, h.log, h.buf, h.part, h.img, h.slots, h.xfers⟩

/-- What time leaves on its way to a command. -/
theorem advance_kept {p} {P Q : TimeState → Prop} (dt : Nat) {s : State} (h : Kept (p, P) s)
    (hq : ∀ u y, P u → Q { u with ticks := u.ticks + (if u.refRun then dt else 0), hours := u.hours + (if u.refRun then dt else 0), sys := y }) :
    Kept (p, Q) (advance dt s) :=
  clearEnds_kept (landAdvance_kept _ (updWatch_kept (psqAdvance_kept _ (passTime_kept dt (drgAdvance_kept _ (phcAdvance_kept _ h)) hq))))

/-- A command keeps what its effect keeps. -/
theorem act_kept {i : Instr} {dt : Nat} {f : State → State} {s t : State} {b c} (ha : act i dt f s = .next t)
    (h : Kept b (advance dt s)) (hf : ∀ u, Kept b u → Kept c (f u)) : Kept c t := by
  rw [(act_next ha).2]
  exact settle_kept (hf _ h)

end Sys2Proof.Machine
end

