-- ==== Sys2Proof/Tests/Slice0.lean ====
section
/-! SUPPORT. Tests: an ill-formed term for each check of WellFormed; for each statement with hypotheses, states and operands that meet the
hypotheses of each of its clauses together (`witness_<Name>`, the states `s<n>` with `a<n>` when the event happens); and the effect of a few
commands on small states, by the spec's rules. -/

open Sys2Proof Sys2Proof.Machine

namespace Sys2Proof.Tests

set_option Elab.async false
set_option maxRecDepth 10000

/-! ### WellFormed: for each check an ill-formed term, which it refuses, beside a term that passes -/

def wellFormed0 : List Instr :=
  [.stepBoundaryStrobe 0 0 none, .systimeCoherent 0 false 0, .vaonLow 0 0, .senseSample 0 (List.replicate 98 0) (List.replicate 5 0),
   .busSample 0 0 0, .imonRange 0 0, .senseOpen 0 0, .droopLevelChange 0 0 0 0,
   .droopDetStuck 0 0 0, .detExclWrite 0 1 0 0, .stretchHoldLong 0 0, .activityFeature 0 0 0,
   .actWindowStale 0 1, .hksRound 0 [], .hksChannelInvalid 0 0, .stgTlmFrame 0 0 0,
   .stgTlmSilent 0 0, .estCalClamp 0 0, .pxePublish 0 0 0, .pxeOverrun 0 0 0,
   .pxeMemUncorrectable 0 0 0 0, .pxeCapRelease 0 1 0, .ffAddAction 0 0, .launchMove 0 0 0]
def wellFormed1 : List Instr :=
  [.vselLatch 0 0, .setpointRampDone 0 0, .deEnter 0 0, .phaseRampInDone 0 0,
   .phaseRampOutDone 0 0, .shedInhEnd 0 0, .allPhaseBurst 0 ⟨0, 0, 0, 0⟩, .burstEnd 0 ⟨0, 0, 0, 0⟩, .phaseOcTrip 0 0,
   .phaseOcRelease 0 0, .phaseFault 0 0, .phaseHot 0 0, .phaseImbalance 0 0,
   .phcRetiredWrite 0 1 0 0, .railProbeDone 0 0, .railPowerGood 0 0, .railPgTimeout 0 0,
   .railPrebiasHigh 0 0, .railShortStart 0 0, .railStartStall 0 0, .railOv 0 0,
   .railStopDone 0 0, .protectiveLowering 0 0, .limitUnmet 0 0, .thermalRise 0 0]
def wellFormed2 : List Instr :=
  [.sensorSuspect 0 0, .tmgSensorTrusted 0 0, .suspectSetWrite 0 1 0 0, .suspectClearWrite 0 1 0 0,
   .tripComparator 0 0 0, .tripComparatorRelease 0 0 0, .sidebandRecordReceived 0 0 (List.replicate 16 0) [] false, .sbCounterEnd 0 0,
   .sbKeyGraceEnd 0 0, .pufReconstruct 0 false 0 (List.replicate 96 0), .mainCoreStart 0 [] false false 0, .helperLoad 0 1 false 0,
   .componentCheckIn 0 0, .fwComponentHang 0 0, .fwMpuViolation 0 0 0 false false, .fwCoreException 0 0 none 0,
   .fwComponentRestart 0 0, .logEntry 0 0 0 0 0 [], .ringEnable 0 1 0 16777216, .ringDisable 0 1 0 0,
   .ringReset 0 1 0 33554432, .ringDoorbell 0 1 0 0, .cqHeadWrite 0 1 0 0, .blockFetchDone 0 0 [] false]
def wellFormed3 : List Instr :=
  [.nop 0 0, .regWrite 0 0, .regRead 0 0, .mark 0 0,
   .jobAttach 0 0, .jobDetach 0 0, .setCap 0 0, .getCapState 0 0,
   .planSegmentBlock 0 0, .planStop 0 0, .programBlock 0 0, .sbKeyInstall 0 0 false 0,
   .logKeyRotate 0 0, .confMode 0 0, .partitionAssign 0 0, .scrubBegin 0 0,
   .scrubEnd 0 0, .updateBlock 0 0 false false, .updFullCheckDone 0 false false false false 0, .updateActivate 0 0,
   .updateConfirm 0 0, .updateAbort 0 0, .evrWatch 0 0, .evrFlush 0 0]
def wellFormed4 : List Instr :=
  [.faultPolicy 0 0, .mbxWrite 0 1 0 0, .mbxRead 0 1 0, .ping 0 0,
   .generation 0 0, .state 0 0, .mbxUnknownRequest 0 0, .watchSnapshot 0 0 1,
   .severeClear 0 1 0 0, .flcSelfFault 0 0, .kxReady 0 (List.replicate 96 0) (List.replicate 96 0), .evrWinFlashRead 0 1 0 false,
   .actSlot 0 0 [], .updHandover 0 ⟨[], false, false, 0⟩, .page 0 0 none false, .mfrBusAddr 0 0 false,
   .vaonRestored 0 2800]

/-- Terms that pass every check of their row. -/
theorem test_wellFormed_passes : (wellFormed0 ++ wellFormed1 ++ wellFormed2 ++ wellFormed3 ++ wellFormed4).all Instr.wf = true := by decide +kernel

def illFormed0 : List Instr :=
  [.stepBoundaryStrobe 0 (2 ^ 48) none, .stepBoundaryStrobe 0 0 (some (2 ^ 64)), .systimeCoherent 0 false (2 ^ 64), .vaonLow 0 2800,
   .senseSample 0 (List.replicate 97 0) (List.replicate 5 0), .senseSample 0 (List.replicate 98 0) (List.replicate 4 0), .senseSample 0 (List.replicate 98 1024) (List.replicate 5 0), .senseSample 0 (List.replicate 98 0) (List.replicate 5 4096),
   .busSample 0 4096 0, .busSample 0 0 4096, .imonRange 0 98, .senseOpen 0 5,
   .droopLevelChange 0 64 0 0, .droopLevelChange 0 0 4 0, .droopLevelChange 0 0 0 (2 ^ 31), .droopDetStuck 0 64 0,
   .droopDetStuck 0 0 4, .detExclWrite 0 1 8 0, .stretchHoldLong 0 64, .activityFeature 0 4096 0,
   .activityFeature 0 0 65536, .actWindowStale 0 0, .actWindowStale 0 8, .hksRound 0 [(1024, 0)]]
def illFormed1 : List Instr :=
  [.hksRound 0 [(0, 65536)], .hksChannelInvalid 0 1024, .stgTlmFrame 0 128 0, .stgTlmSilent 0 99,
   .estCalClamp 0 4, .pxePublish 0 4 0, .pxeOverrun 0 4 0, .pxeOverrun 0 0 1024,
   .pxeMemUncorrectable 0 4 0 0, .pxeMemUncorrectable 0 0 2097152 0, .pxeMemUncorrectable 0 0 0 1024, .pxeCapRelease 0 1 4,
   .ffAddAction 0 3, .launchMove 0 (2 ^ 48) 0, .launchMove 0 0 (2 ^ 64), .vselLatch 0 16,
   .setpointRampDone 0 4, .deEnter 0 4, .phaseRampInDone 0 98, .phaseRampOutDone 0 98,
   .shedInhEnd 0 4, .allPhaseBurst 0 ⟨2 ^ 31, 0, 0, 0⟩, .allPhaseBurst 0 ⟨0, 2 ^ 31, 0, 0⟩,
   .allPhaseBurst 0 ⟨0, 0, 2 ^ 31, 0⟩, .allPhaseBurst 0 ⟨0, 0, 0, 2 ^ 31⟩, .burstEnd 0 ⟨2 ^ 31, 0, 0, 0⟩, .burstEnd 0 ⟨0, 2 ^ 31, 0, 0⟩,
   .burstEnd 0 ⟨0, 0, 2 ^ 31, 0⟩, .burstEnd 0 ⟨0, 0, 0, 2 ^ 31⟩, .phaseOcTrip 0 98]
def illFormed2 : List Instr :=
  [.phaseOcRelease 0 98, .phaseFault 0 98, .phaseHot 0 98, .phaseImbalance 0 98,
   .phcRetiredWrite 0 1 4 0, .railProbeDone 0 4, .railPowerGood 0 4, .railPgTimeout 0 4,
   .railPrebiasHigh 0 4, .railShortStart 0 4, .railStartStall 0 4, .railOv 0 4,
   .railStopDone 0 4, .protectiveLowering 0 14, .limitUnmet 0 14, .thermalRise 0 64,
   .sensorSuspect 0 512, .tmgSensorTrusted 0 512, .suspectSetWrite 0 1 16 0, .suspectClearWrite 0 1 16 0,
   .tripComparator 0 64 0, .tripComparator 0 0 8, .tripComparatorRelease 0 64 0, .tripComparatorRelease 0 0 8]
def illFormed3 : List Instr :=
  [.sidebandRecordReceived 0 16 (List.replicate 16 0) [] false, .sidebandRecordReceived 0 0 (List.replicate 15 0) [] false, .sidebandRecordReceived 0 0 (List.replicate 16 256) [] false, .sidebandRecordReceived 0 0 (List.replicate 16 0) [256] false,
   .sbCounterEnd 0 16, .sbKeyGraceEnd 0 2, .pufReconstruct 0 false 0 (List.replicate 95 0), .pufReconstruct 0 false 0 (List.replicate 96 256),
   .pufReconstruct 0 false (2 ^ 32) (List.replicate 96 0), .mainCoreStart 0 [(6, [])] false false 0, .mainCoreStart 0 [(0, [256])] false false 0, .mainCoreStart 0 [] false false 256,
   .helperLoad 0 0 false 0, .helperLoad 0 4 false 0, .helperLoad 0 1 false (2 ^ 32), .componentCheckIn 0 8,
   .fwComponentHang 0 8, .fwMpuViolation 0 8 0 false false, .fwMpuViolation 0 0 (2 ^ 32) false false, .fwCoreException 0 4 none 0,
   .fwCoreException 0 0 (some 8) 0, .fwCoreException 0 0 none (2 ^ 32), .fwComponentRestart 0 8, .logEntry 0 8 0 0 0 []]
def illFormed4 : List Instr :=
  [.logEntry 0 0 2 0 0 [], .logEntry 0 0 0 256 0 [], .logEntry 0 0 0 0 65536 [], .logEntry 0 0 0 0 0 (List.replicate 17 0),
   .logEntry 0 0 0 0 0 [256], .ringEnable 0 1 72 16777216, .ringEnable 0 1 0 0, .ringEnable 0 1 0 50331648,
   .ringDisable 0 1 72 0, .ringDisable 0 1 0 16777216, .ringDisable 0 1 0 33554432, .ringReset 0 1 72 33554432,
   .ringReset 0 1 0 0, .ringDoorbell 0 1 72 0, .cqHeadWrite 0 1 72 0, .blockFetchDone 0 72 [] false,
   .blockFetchDone 0 0 (List.replicate 4097 0) false, .blockFetchDone 0 0 [256] false, .nop 0 72, .regWrite 0 72,
   .regRead 0 72, .mark 0 72, .jobAttach 0 72, .jobDetach 0 72]
def illFormed5 : List Instr :=
  [.setCap 0 72, .getCapState 0 72, .planSegmentBlock 0 72, .planStop 0 72,
   .programBlock 0 72, .sbKeyInstall 0 72 false 0, .sbKeyInstall 0 0 false (2 ^ 256), .logKeyRotate 0 72,
   .confMode 0 72, .partitionAssign 0 72, .scrubBegin 0 72, .scrubEnd 0 72,
   .updateBlock 0 72 false false, .updFullCheckDone 0 false false false false (2 ^ 32), .updateActivate 0 72, .updateConfirm 0 72,
   .updateAbort 0 72, .evrWatch 0 72, .evrFlush 0 72, .faultPolicy 0 72,
   .mbxWrite 0 1 32 0, .mbxRead 0 1 32, .ping 0 32, .generation 0 32]
def illFormed6 : List Instr :=
  [.state 0 32, .mbxUnknownRequest 0 32, .watchSnapshot 0 8 1, .watchSnapshot 0 0 0,
   .severeClear 0 1 128 0, .flcSelfFault 0 (2 ^ 32), .kxReady 0 (List.replicate 95 0) (List.replicate 96 0), .kxReady 0 (List.replicate 96 0) (List.replicate 95 0),
   .kxReady 0 (List.replicate 96 256) (List.replicate 96 0), .kxReady 0 (List.replicate 96 0) (List.replicate 96 256), .evrWinFlashRead 0 1 8192 false, .actSlot 0 65536 [],
   .actSlot 0 0 (List.replicate 65537 0), .actSlot 0 0 [256], .updHandover 0 ⟨[(8, 0)], false, false, 0⟩, .updHandover 0 ⟨[(0, 65536)], false, false, 0⟩,
   .updHandover 0 ⟨[], false, false, 256⟩,
   .page 0 0 (some 256) false, .mfrBusAddr 0 (2 ^ 32) false, .vaonRestored 0 2799]

/-- Each of these breaks one check, by the least value that does. -/
theorem test_illFormed_refused : (illFormed0 ++ illFormed1 ++ illFormed2 ++ illFormed3 ++ illFormed4 ++ illFormed5 ++ illFormed6).all (fun i => !i.wf) = true := by decide +kernel

/-! ### Small states -/

/-- A state with these field values in force. -/
def w (l : List (Fld × Nat)) (s : State) : State := l.foldl (fun t e => setF t e.1 e.2) s
def R : State := State.reset
/-- The firmware runs with all its components. -/
def running (s : State) : State := w ((FW.STATUS.RUN_STATE, 1) :: (List.range 8).map (fun c => (FW.COMP_STATUS.STATE c, coRunning))) s
def at_ (n : Nat) (s : State) : State := { s with time := { s.time with ticks := n } }
def tm (f : TimeState → TimeState) (s : State) : State := { s with time := f s.time }
def job (s : State) : State :=
  w [(GLB.BOUNDARY_STATUS.JOB_ATTACHED, 1), (GLB.BOUNDARY_STATUS.LOCAL_BOUNDARIES, 0), (GLB.BOUNDARY_STATUS.SYSTIME_VALID, 1)] s
def Z (n : Nat) : List Nat := List.replicate n 0
def packet (op flags ctx slots tag seq low : Nat) (body : List Nat) : List Nat :=
  let b := padTo (64 * slots) ([op, flags, ctx, slots - 1 + 64 * tag] ++ toLE 4 seq ++ toLE 4 low ++ Z 4 ++ body)
  b.take 12 ++ toLE 4 (crc32c b) ++ b.drop 16
def pk (op tag : Nat) (body : List Nat) : List Nat := packet op 0 0 1 tag 7 0 body
/-- Ring `q` enabled with these bytes waiting at its head. -/
def ring (q : Nat) (b : List Nat) (s : State) : State :=
  let n := b.length / 64
  let s1 := w [(CMD.CTRL.DISPATCH_EN, 1), (CMD.RING_CFG.BASE q, 0), (CMD.RING_CFG.SIZE_LOG2 q, 7), (CMD.RING_CFG.ENABLE q, 1),
    (CMD.RING_CQ.CQ_BASE q, 1024), (CMD.RING_STATUS.STATE q, 1), (CMD.RING_TAIL.TAIL q, n)] s
  { s1 with cmd := { s1.cmd with win := memPut s1.cmd.win 0 b, rung := aPut 0 s1.cmd.rung q n } }
def on (q : Nat) (b : List Nat) : State := running (ring q b R)
def out (id q op st tag : Nat) : OutPkt := ⟨id, q, 9, false, op, tag, none, st, [], none, [], [], none, 0, 0, 0, [], []⟩
def outs (l : List OutPkt) (s : State) : State := { s with cmd := { s.cmd with pkts := l, nextId := 50 } }
def msg (code kind info seq : Nat) : Arrival := ⟨0, 2, code / 256, false, code, kind, info, seq, []⟩
def recd (kind code info : Nat) (body : List Nat) : Arrival := ⟨0, 2, 0xC, true, code, kind, info, 0, body⟩
def inb (l : List Arrival) (s : State) : State := { s with inbox := l }
def sn (f : SnsState → SnsState) (s : State) : State := { s with sns := f s.sns }
def es (f : EstState → EstState) (s : State) : State := { s with est := f s.est }
def px (f : PxeState → PxeState) (s : State) : State := { s with pxe := f s.pxe }
def ps (f : PsqState → PsqState) (s : State) : State := { s with psq := f s.psq }
def dg (f : DrgState → DrgState) (s : State) : State := { s with drg := f s.drg }
def ph (f : PhcState → PhcState) (s : State) : State := { s with phc := f s.phc }
def lg (f : LgvState → LgvState) (s : State) : State := { s with lgv := f s.lgv }
def tg (f : TmgState → TmgState) (s : State) : State := { s with tmg := f s.tmg }
def sa (f : StaState → StaState) (s : State) : State := { s with sta := f s.sta }
def bl (f : BalState → BalState) (s : State) : State := { s with bal := f s.bal }
def fwm (f : FwState → FwState) (s : State) : State := { s with fw := f s.fw }
def bs (f : BusState → BusState) (s : State) : State := { s with bus := f s.bus }
def ev (f : EvrState → EvrState) (s : State) : State := { s with evr := f s.evr }
def fl (f : FlcState → FlcState) (s : State) : State := { s with flc := f s.flc }
def upd (f : UpdState → UpdState) (s : State) : State := { s with upd := f s.upd }
def pmb (f : PmbState → PmbState) (s : State) : State := { s with pmb := f s.pmb }
def rl (k : Nat) (f : Rail → Rail) (s : State) : State := setRail s k (f (railRec s k))
def rails (a b c d : Nat) (s : State) : State :=
  w [(PHC.RAIL_SEQ.STATE 0, a), (PHC.RAIL_SEQ.STATE 1, b), (PHC.RAIL_SEQ.STATE 2, c), (PHC.RAIL_SEQ.STATE 3, d)] s
def sqq (x : Nat) (s : State) : State := w [(PHC.SEQ_STATUS.SEQ_STATE, x)] s
/-- All rails ON, VCORE with 8 phases, VLINK with 4, VPHY with 2, VAUX with 4. -/
def up : State :=
  let act := [0, 1, 2, 3, 4, 5, 6, 7, 68, 69, 70, 71, 85, 86, 94, 95, 96, 97]
  let r := fun (mv n : Nat) => { Rail.off with ref := 1000000 * mv, tgt := 1000000 * mv, c := 45000000, target := n }
  let ps := (List.range 98).map (fun n => (n, if act.contains n then PhaseSt.regulating else PhaseSt.standby))
  let rs := [(0, r 650 8), (1, r 900 4), (2, r 850 2), (3, r 1200 4)]
  ph (fun x => { x with pwrFailN := true, goodAt := some 100, phases := ps, rails := rs })
    (rails rsOn rsOn rsOn rsOn (w [(PHC.SEQ_STATUS.SEQ_STATE, 2), (PHC.SEQ_STATUS.BUS_EN, 1)] (at_ 4000000 (running R))))
/-- A start: the bus has settled, VAUX is probed and the others wait. -/
def settled : State :=
  ph (fun x => { x with pwrFailN := true, goodAt := some 100, rails := [(3, { Rail.off with prAt := 2600300 })] })
    (rails rsWait rsWait rsWait rsProbe (w [(PHC.SEQ_STATUS.SEQ_STATE, 1), (PHC.SEQ_STATUS.BUS_EN, 1)] (at_ 2600300 (running R))))
/-- A rail in soft start to a voltage in mV. -/
def soft (k mv : Nat) (s : State) : State :=
  w [(PHC.RAIL_SEQ.STATE k, rsSoft)] (rl k (fun x => { x with tgt := 1000000 * mv, ramping := true, target := 4 }) s)

/-! ### The effect of one command -/

/-- The command answers a next state that passes the test. -/
def effect (i : Instr) (s : State) (p : State → Bool) : Bool := match exec i s with | .next t => p t | _ => false

/-- R25: the greatest step number, of 48 bits, is loaded. -/
theorem test_strobe_loads_step : effect (.stepBoundaryStrobe 0 281474976710655 none) (job R) (fun t => t.time.step == 281474976710655) = true := by
  decide +kernel
/-- R26: a strobe 1.99 µs after the last is no boundary, and its interval is sent. -/
theorem test_close_strobe_is_sent : effect (.stepBoundaryStrobe 0 9 none) (tm (fun t => { t with lastStrobe := some 0 }) (at_ 199 (job R)))
    (fun t => t.time.step == 0 && t.inbox.any (fun m => m.kind == 1 && m.code == 1 && m.info == 199)) = true := by decide +kernel
/-- R24: with no valid system time a strobe moves no boundary. -/
theorem test_strobe_needs_system_time : effect (.stepBoundaryStrobe 0 9 none) (w [(GLB.BOUNDARY_STATUS.SYSTIME_VALID, 0)] (job R))
    (fun t => t.time.step == 0 && t.time.lastStrobe.isNone) = true := by decide +kernel
/-- R64: a feature of a partition being scrubbed is zero. -/
theorem test_scrubbed_feature_is_zero : effect (.activityFeature 0 0xC03 77)
    (w [(SEC.STATUS.SCRUB_ANY, 1), (SEC.PART_STATUS.SCRUBBING 1, 1), (SEC.PART_MAP_IO.LAYERS 1, 1)] R) (fun t => aFind t.sns.cur 0xC03 == some 0) = true := by decide +kernel
/-- R326, Table 14-3: component 4 may not write the power plan's registers; it is stopped. -/
theorem test_mpu_violation : effect (.fwMpuViolation 0 4 0x10060000 true false) (running (w [(FW.CORE_STATUS.STATE 1, crRunning)] R)) (fun t => getF t FW.MPU_FAULT_ADDR.ADDR == 0x10060000 && getF t FW.MPU_FAULT_INFO.COMPONENT == 4 &&
      getB t FW.MPU_FAULT_INFO.VALID) = true := by decide +kernel
/-- R22: the ticks before the reference stops are counted. -/
theorem test_ticks_before_stop_count : effect (.refclkStop 7) R (fun t => !t.time.refRun && t.time.ticks == 7) = true := by decide +kernel
/-- R37: an unmapped read returns zero and is captured. -/
theorem test_unmapped_read : effect (.unmappedAccess 0 1 0x33333 false 0 15) (bs (fun b => { b with rdata := 5 }) R)
    (fun t => getB t GLB.BUS_ERR_STATUS.UNMAPPED && !getB t GLB.BUS_ERR_STATUS.PARTIAL_WRITE && t.bus.rdata == 0 &&
      getF t GLB.BUS_ERR_ADDR.OFFSET == 0x33333) = true := by decide +kernel
/-- R37: a write of one byte of a word is ignored. -/
theorem test_partial_write : effect (.unmappedAccess 0 1 0x00024 true 0xFFFFFFFF 1) R
    (fun t => getB t GLB.BUS_ERR_STATUS.PARTIAL_WRITE && !getB t GLB.BUS_ERR_STATUS.UNMAPPED && t.landing.isEmpty) = true := by decide +kernel
/-- R20: VAON at 2,799 × 0.25 mV, below 0.70 V, is low, and is reported. -/
theorem test_vaon_low : effect (.vaonLow 0 2799) R (fun t => getB t GLB.CORE_STATUS.VAON_LOW &&
    t.inbox.any (fun m => m.kind == 0xA0 && m.info == 2799)) = true := by decide +kernel
/-- R29: a write of PROBE waits for its boundary. -/
theorem test_probe_waits : effect (.registerWrite 0 1 0x00040 0x12345678 15) R
    (fun t => t.pend.any (fun e => e.1 == GLB.PROBE.VALUE.key && e.2.val == 0x12345678) && getF t GLB.PROBE.VALUE == 0) = true := by
  decide +kernel
/-- R205: a tripped phase is driven low. -/
theorem test_oc_trip : effect (.phaseOcTrip 0 97) up (fun t => t.phc.ocTrip.contains 97 && pwmDrive t 97 == .low) = true := by decide +kernel
/-- R218: when the input fails, the rails go off in reverse order of their start, VPHY first, 10 µs apart. -/
theorem test_quick_stop : effect (.pwrFailNFall 0) up (fun t => railSt t 2 == rsOff && railSt t 1 == rsOn && t.phc.due == 4001000) = true := by
  decide +kernel
/-- R457, Table 19-6: CAPABILITY reads D0h. -/
theorem test_capability : effect (.capability 0 0) R (fun t => t.pmb.reply == [0xD0]) = true := by decide +kernel
/-- R457: PAGE 5 is invalid. -/
theorem test_page_invalid : effect (.page 0 0 (some 5) true) (pmb (fun x => { x with page := [(0, 3)] }) R)
    (fun t => pageOf t 0 == 3 && bit (latOf t latCml) 6) = true := by decide +kernel

/-! ### The machine as a whole -/

namespace Machine

def s0 : State := { R with pending := [.refclkStop 5] }
def s1 : State := { job R with pending := [.stepBoundaryStrobe 3 7 none, .vaonCollapse 0] }
theorem next_of_effect {i : Instr} {s : State} (h : effect i s (fun _ => true) = true) : ∃ t, exec i s = .next t := by
  unfold effect at h
  split at h
  · exact ⟨_, ‹_›⟩
  · cases h
theorem witness_StepRunsFrontCommand : s0.pending = .refclkStop 5 :: [] ∧ R.pending = [] := by decide +kernel
theorem witness_EveryEventIsTaken : (Instr.vaonLow 0 2799).wf = true ∧ (Instr.vaonLow 0 2800).wf = false := by decide +kernel
theorem witness_QueuedEventsNeverStop : storesOk s1 ∧ queueOk s1 = true := by unfold storesOk; decide +kernel
theorem witness_StepKeepsCanonicalForm : storesOk s1 ∧ ∃ t, step s1 = .next t :=
  ⟨by unfold storesOk; decide +kernel, next_of_effect (i := .stepBoundaryStrobe 3 7 none) (by decide +kernel)⟩
theorem witness_LocalTimeBaseCountsReference : storesOk s0 ∧ s0.pending = .refclkStop 5 :: [] ∧ ∃ t, step s0 = .next t :=
  ⟨by unfold storesOk; decide +kernel, rfl, next_of_effect (i := .refclkStop 5) (by decide +kernel)⟩
theorem witness_StepNumberChangesAtStrobes : storesOk s1 ∧ s1.pending = .stepBoundaryStrobe 3 7 none :: [.vaonCollapse 0] ∧
    ∃ t, step s1 = .next t :=
  ⟨by unfold storesOk; decide +kernel, rfl, next_of_effect (i := .stepBoundaryStrobe 3 7 none) (by decide +kernel)⟩
theorem witness_StepKeepsWhatWaits : waitingOk s1 ∧ ∃ t, step s1 = .next t :=
  ⟨by unfold waitingOk; decide +kernel, next_of_effect (i := .stepBoundaryStrobe 3 7 none) (by decide +kernel)⟩

end Machine

namespace Bus

namespace StrobeIsBoundary
def s0 : State := R
def a0 : State := advance 0 s0
def s1 : State := job R
def a1 : State := advance 0 s1
def s2 : State := tm (fun t => { t with lastStrobe := some 0 }) (at_ 199 (job R))
def a2 : State := advance 0 s2
theorem witness_StrobeIsBoundary :
  ((Instr.stepBoundaryStrobe 0 0 none).wf = true ∧ (regsWf s1.regs = true ∧ Memory.wf s1 = true) ∧ strobeHeard a1 = true ∧ (∀ t0 ∈
    (a1.time.lastStrobe).toList, t0 + 200 ≤ a1.time.ticks)) ∧
  ((Instr.stepBoundaryStrobe 0 0 none).wf = true ∧ (regsWf s0.regs = true ∧ Memory.wf s0 = true) ∧ jobOn a0 = false ∧ attaching a0 = []) ∧
  ((Instr.stepBoundaryStrobe 0 0 none).wf = true ∧ (regsWf s2.regs = true ∧ Memory.wf s2 = true) ∧ strobeHeard a2 = true ∧
    a2.time.lastStrobe = some 0 ∧ a2.time.ticks < 0 + 200) := by decide +kernel
end StrobeIsBoundary
namespace LocalBoundariesKeepStep
def s0 : State := R
def a0 : State := advance 0 s0
def s1 : State := job R
def a1 : State := advance 0 s1
def s4 : State := at_ 10000000 (job R)
def a4 : State := advance 0 s4
def s6 : State := tm (fun t => { t with nextB := some 10 }) (job R)
def a6 : State := advance 0 s6
theorem witness_LocalBoundariesKeepStep_1 :
  ((regsWf s6.regs = true ∧ Memory.wf s6 = true) ∧ a6.time.cutMade = false ∧ cutTime a6 = true) ∧
  ((regsWf s0.regs = true ∧ Memory.wf s0 = true) ∧ (a0.time.cutMade = true ∨ cutTime a0 = false)) ∧
  ((regsWf s0.regs = true ∧ Memory.wf s0 = true) ∧ localOn a0 = true ∧ a0.time.ticks % localPeriod a0 = 0) ∧
  ((regsWf s1.regs = true ∧ Memory.wf s1 = true) ∧ (localOn a1 = false ∨ a1.time.ticks % localPeriod a1 ≠ 0)) ∧
  ((regsWf s4.regs = true ∧ Memory.wf s4 = true) ∧ localOn a4 = false ∧ (strobesStopped a4 = true ∨ jobOn a4 = false ∨ sysOk a4 = false)
    ∧ waitingRecs a4 < 63) ∧
  ((regsWf s0.regs = true ∧ Memory.wf s0 = true) ∧ (localOn a0 = true ∨ jobOn a0 = true ∧ sysOk a0 = true ∧ strobesStopped a0 = false)) := by decide +kernel
theorem witness_LocalBoundariesKeepStep_2 :
  ((regsWf s0.regs = true ∧ Memory.wf s0 = true) ∧ (Instr.stepBoundaryStrobe 0 0 none).wf = true ∧ sysOk a0 = false) := by decide +kernel
end LocalBoundariesKeepStep
namespace SuppliesAndSystemTime
def s0 : State := R
def a0 : State := advance 0 s0
def s1 : State := tm (fun t => { t with vaonLow := true }) R
def a1 : State := advance 0 s1
theorem witness_SuppliesAndSystemTime :
  (18446744073709551615 < 2 ^ 64 ∧ linkDown a0 = false) ∧
  (18446744073709551615 < 2 ^ 64 ∧ (false = false ∨ linkDown a0 = true)) ∧
  (2799 < 2800 ∧ a0.time.vaonLow = false ∧ waitingMsgs a0 < 256) ∧
  (2799 < 2800 ∧ a1.time.vaonLow = true) ∧
  (2800 ≤ 2800) := by decide +kernel
end SuppliesAndSystemTime
namespace PlainWritesLandOrWait
def s0 : State := R
def a0 : State := advance 0 s0
theorem witness_PlainWritesLandOrWait :
  (getF a0 GLB.BUS_ERR_STATUS.UNMAPPED ≤ 1 ∧ getF a0 GLB.BUS_ERR_STATUS.PARTIAL_WRITE ≤ 1) := by decide +kernel
end PlainWritesLandOrWait
namespace LandedValuesAreApplied
def s0 : State := { R with landing := [(GLB.BOUNDARY_CTRL.CUT_NS.key, 500)] }
def a0 : State := advance 0 s0
theorem witness_LandedValuesAreApplied :
  (aSortedFrom none a0.landing = true) := by decide +kernel
end LandedValuesAreApplied
namespace BusErrorsAreFlagged
def s0 : State := R
def a0 : State := advance 0 s0
theorem witness_BusErrorsAreFlagged :
  ((0x00025#20).toNat % 4 ≠ 0) ∧
  (mayWrite a0 (BitVec.toNat (0x01#8)) ((0x00025#20).toNat / 4 * 4) = true ∧ mapped (0x00025#20).toNat = false) ∧
  (mayRead a0 (BitVec.toNat (0x01#8)) ((0x00025#20).toNat / 4 * 4) = true ∧ mapped (0x00025#20).toNat = false) ∧
  (mayWrite a0 (BitVec.toNat (0x01#8)) ((0x00024#20).toNat / 4 * 4) = true ∧ mapped (0x00024#20).toNat = true ∧ (0x0#4) ≠ 15) := by decide +kernel
end BusErrorsAreFlagged
namespace ConfidentialReadsAreHidden
def s0 : State := w [(SEC.STATUS.CONF, 1)] R
theorem witness_ConfidentialReadsAreHidden :
  (confOn (advance 0 s0) = true) := by decide +kernel
end ConfidentialReadsAreHidden
namespace DeniedAccessesAreReported
def s0 : State := R
def a0 : State := advance 0 s0
def s1 : State := on 10 (packet 0x11 2 1 1 1 7 0 [])
def a1 : State := advance 0 s1
theorem witness_DeniedAccessesAreReported :
  ((true = true → mayWrite a0 (BitVec.toNat (0x99#8)) ((0xc1008#20).toNat / 4 * 4) = false) ∧ (true = false → mayRead a0 (BitVec.toNat
    (0x99#8)) ((0xc1008#20).toNat / 4 * 4) = false)) ∧
  (10 < 72 ∧ 0 < 2 ^ 256 ∧ ringTurn a1 10 = true ∧ (slotsCheck a1 10 (headLen a1 10)).1 ≤ 1 ∧ (pktOf a1 10).crcOk = true ∧ ((getB a1
    (CMD.RING_STATUS.SEQ_VALID 10) = false ∨ (pktOf a1 10).seq = getF a1 (CMD.RING_EXPECT.SEQ 10))) ∧ (∀ x ∈ a1.cmd.pkts, x.ring = 10 →
    x.st ≠ 3) ∧ (pktOf a1 10).ctx = ctxOf 10 ∧ (pktOf a1 10).op ∈ opcodes ∧ (pktOf a1 10).slots = slotsNeeded (pktOf a1 10) ∧ (pktOf a1
    10).tag ∈ tagsOf (pktOf a1 10).op ∧ rightsFail (judged a1 10 (pktOf a1 10)) (pktOf a1 10) = some 0) := by decide +kernel
end DeniedAccessesAreReported
namespace WideValuesAreWhole
def s0 : State := R
def a0 : State := advance 0 s0
def s1 : State := bs (fun b => { b with snap := [(agentKey 1 0x14, 4294967295)] }) R
def a1 : State := advance 0 s1
theorem witness_WideValuesAreWhole :
  (mapped (0x00010#20).toNat = true ∧ isLow (0x00010#20).toNat = true ∧ mayRead a0 (BitVec.toNat (0x01#8)) (0x00010#20).toNat = true) ∧
  (mapped (0x00014#20).toNat = true ∧ isHigh (0x00014#20).toNat = true ∧ mayRead a1 (BitVec.toNat (0x01#8)) (0x00014#20).toNat = true ∧
    4294967295 < 2 ^ 32 ∧ aFind a1.bus.snap (agentKey (BitVec.toNat (0x01#8)) (0x00014#20).toNat) = some 4294967295) ∧
  (mapped (0x00014#20).toNat = true ∧ isHigh (0x00014#20).toNat = true ∧ mayRead a0 (BitVec.toNat (0x01#8)) (0x00014#20).toNat = true ∧
    aFind a0.bus.snap (agentKey (BitVec.toNat (0x01#8)) (0x00014#20).toNat) = none) ∧
  (mapped (0x00010#20).toNat = true ∧ isLow (0x00010#20).toNat = true ∧ mayWrite a0 (BitVec.toNat (0x01#8)) (0x00010#20).toNat = true ∧
    notIts (BitVec.toNat (0x01#8)) (0x00010#20).toNat = false) ∧
  (mapped (0x90034#20).toNat = true ∧ isLow (0x90034#20).toNat = true ∧ mayWrite a0 (BitVec.toNat (0x01#8)) (0x90034#20).toNat = true ∧
    notIts (BitVec.toNat (0x01#8)) (0x90034#20).toNat = true) := by decide +kernel
end WideValuesAreWhole
namespace DroopCountsRestartWhenRead
def s0 : State := w [(SNS.REGION_DROOP.EVENTS 63, 9), (SNS.REGION_DROOP.WORST 63, 4), (SNS.REGION_DROOP.LEVEL 63, 2)] R
def a0 : State := advance 0 s0
theorem witness_DroopCountsRestartWhenRead :
  (63 < 64 ∧ (0x108fc#20).toNat = 67584 + 4 * 63 ∧ confOn a0 = false) := by decide +kernel
end DroopCountsRestartWhenRead

end Bus

namespace Sense

def im0 : List Nat := List.replicate 98 300
def sup : State := sn (fun x => { x with imonRun := [(97, 16)], openRun := [(4, 40)], splitRun := 400, busRun := 100, inRun := 16 }) R
def fr (d v : Nat) : Word := BitVec.ofNat 32 (2 ^ 24 * d + 256 * v + crc8 [d, v / 256, v % 256])
namespace SamplesArePublished
def s0 : State := R
def a0 : State := advance 0 s0
def s1 : State := at_ 24 R
def a1 : State := advance 0 s1
theorem witness_SamplesArePublished :
  ((Instr.senseSample 0 (List.replicate 98 300) [4095, 1500, 1200, 800, 640]).wf = true ∧ a0.time.ticks % 25 = 0) ∧
  ((Instr.senseSample 0 (List.replicate 98 300) [4095, 1500, 1200, 800, 640]).wf = true ∧ a1.time.ticks % 25 ≠ 0) := by decide +kernel
end SamplesArePublished
namespace WindowsCloseOnTheirGrid
def s0 : State := R
def a0 : State := advance 0 s0
def s2 : State := at_ 99 R
def a2 : State := advance 0 s2
theorem witness_WindowsCloseOnTheirGrid :
  (a0.time.ticks % 100 = 0) ∧
  (a0.time.ticks % 1000 = 0) ∧
  (0 < 4096 ∧ 0 < 4096 ∧ a0.time.ticks % 100 = 0) ∧
  (a0.time.ticks % 100000 = 0) ∧
  (a2.time.ticks % 100 ≠ 0) ∧
  (a2.time.ticks % 100 ≠ 0 ∧ 0 < 4096 ∧ 0 < 4096) := by decide +kernel
end WindowsCloseOnTheirGrid
namespace SenseFaultsGoOutOnce
def s0 : State := sup
def a0 : State := advance 0 s0
def s1 : State := w [(SNS.XCHK_STATUS.OUT_COUNT, 16)] sup
def a1 : State := advance 0 s1
def s2 : State := w [(SNS.XCHK_STATUS.MEAS_SUSPECT, 1)] sup
def a2 : State := advance 0 s2
def s3 : State := sn (fun x => { x with imonSent := [97], splitSent := true, busSent := true }) sup
def a3 : State := advance 0 s3
def s4 : State := w [(SNS.SENSE_STATUS.OPEN, 31)] sup
def a4 : State := advance 0 s4
theorem witness_SenseFaultsGoOutOnce_1 :
  (waitingMsgs a0 < 256 ∧ 97 < 98 ∧ 16 ≤ aGet 0 a0.sns.imonRun 97 ∧ a0.sns.imonSent.contains 97 = false) ∧
  (waitingMsgs a3 < 256 ∧ 97 < 98 ∧ a3.sns.imonSent.contains 97 = true) ∧
  (waitingMsgs a0 < 256 ∧ 4 < 5 ∧ 40 ≤ aGet 0 a0.sns.openRun 4 ∧ pointOpen a0 4 = false) ∧
  (waitingMsgs a4 < 256 ∧ 4 < 5 ∧ pointOpen a4 4 = true) ∧
  (waitingMsgs a0 < 256 ∧ 400 ≤ a0.sns.splitRun ∧ a0.sns.splitSent = false) ∧
  (waitingMsgs a3 < 256 ∧ a3.sns.splitSent = true) ∧
  (waitingMsgs a0 < 256 ∧ 100 ≤ a0.sns.busRun ∧ a0.sns.busSent = false) ∧
  (waitingMsgs a3 < 256 ∧ a3.sns.busSent = true) := by decide +kernel
theorem witness_SenseFaultsGoOutOnce_2 :
  (waitingMsgs a1 < 256 ∧ 16 ≤ getF a1 SNS.XCHK_STATUS.OUT_COUNT ∧ measSuspect a1 = false) ∧
  (waitingMsgs a2 < 256 ∧ 16 ≤ a2.sns.inRun ∧ measSuspect a2 = true) := by decide +kernel
end SenseFaultsGoOutOnce
namespace DroopLevelsFollowDetectors
def s0 : State := R
def a0 : State := advance 0 s0
def s1 : State := at_ 200000 (sn (fun x => { x with stuck := [(255, 5)] }) R)
def a1 : State := advance 0 s1
def s2 : State := at_ 20000 (dg (fun x => { x with regions := aPut (regionOf R 0) x.regions 63 { regionOf R 63 with hold := true } }) R)
def a2 : State := advance 0 s2
def s3 : State := at_ 20000 (dg (fun x => { x with regions := aPut (regionOf R 0) x.regions 63 { regionOf R 63 with hold := true, longSent := true } }) R)
def a3 : State := advance 0 s3
theorem witness_DroopLevelsFollowDetectors :
  (63 < 64 ∧ 3 < 4 ∧ (Instr.droopLevelChange 0 63 3 0).wf = true ∧ levelOf
    ({ a0 with sns := { a0.sns with det := aPut 0 a0.sns.det (4 * 63 + 3) (detLevel a0 (aGet 0 a0.sns.det (4 * 63 + 3)) 0) } } : State)
    63 ≤ 4) ∧
  (63 < 64 ∧ 3 < 4 ∧ aFind a1.sns.stuck (4 * 63 + 3) = some 5 ∧ 5 + 100000 < a1.time.ticks ∧ detExcl a1 (4 * 63 + 3) = false ∧
    (otherDets a1 (4 * 63 + 3) = [] → a1.sns.stuckSent.contains (4 * 63 + 3) = false) ∧ (a1.acts.any fun x => x.kind == ActKind.exclude
    (4 * 63 + 3)) = false) ∧
  (63 < 64 ∧ 3 < 4 ∧ 7 < 8 ∧ mayWrite a0 (BitVec.toNat (0x01#8)) (67344 + 4 * 7) = true) ∧
  (63 < 64 ∧ 3 < 4 ∧ holding a2 63 = true ∧ (regionOf a2 63).longSent = false ∧ holdFrom a2 63 + us (getC a2 DRG.CTRL.HOLD_LONG_US 1
    127) < a2.time.ticks ∧ waitingMsgs a2 < 256) ∧
  (63 < 64 ∧ 3 < 4 ∧ (regionOf a3 63).longSent = true) := by decide +kernel
end DroopLevelsFollowDetectors
namespace ActivityWindowsComplete
def s0 : State := R
def a0 : State := advance 0 s0
def s2 : State := at_ 210 (sn (fun x => { x with feats := [(5, 77)] }) R)
def a2 : State := advance 0 s2
def s4 : State := w [(SNS.ACT_STATUS.STALE_RUN, 255), (SNS.ACT_STATUS.STALE_TOTAL, 65535)] (at_ 210 R)
def a4 : State := advance 0 s4
def s5 : State := sn (fun x => { x with stallSent := true }) R
def a5 : State := advance 0 s5
def s6 : State := at_ 11 R
def a6 : State := advance 0 s6
theorem witness_ActivityWindowsComplete :
  (0 < 3584 ∧ 65535 < 65536) ∧
  (3584 ≤ 3584 ∧ 3584 < 4096 ∧ 65535 < 65536) ∧
  (a0.time.ticks % 100 ≤ 10) ∧
  (10 < a6.time.ticks % 100) ∧
  (1 ≠ 0 ∧ 1 < 8 ∧ (a0.time.ticks % 100 ≠ 10 ∨ lateHere a0 1 = 0)) ∧
  (0 < 3) ∧
  (1 ≠ 0 ∧ 1 < 8 ∧ lateHere a2 1 ≠ 0 ∧ a2.time.ticks % 100 = 10) ∧
  (16 ≤ getF a4 SNS.ACT_STATUS.STALE_RUN ∧ a4.sns.stallSent = false ∧ waitingMsgs a4 < 256) ∧
  (a5.sns.stallSent = true) := by decide +kernel
end ActivityWindowsComplete
namespace HousekeepingRoundsPublish
def s0 : State := at_ 100000 R
def a0 : State := advance 0 s0
def s3 : State := sn (fun x => { x with silent := [(5, 3)], hksBad := [(2, 3)] }) (at_ 100000 R)
def a3 : State := advance 0 s3
def s4 : State := sn (fun x => { x with silent := [(5, 3)], silentSent := [5], hksBad := [(4, 3)], hksSent := [4] }) (at_ 100000 R)
def a4 : State := advance 0 s4
theorem witness_HousekeepingRoundsPublish :
  ((Instr.hksRound 0 [(3, 500), (511, 36864), (867, 77)]).wf = true ∧ a0.time.ticks % 100000 = 0) ∧
  (2 < 1024 ∧ 3 ≤ aGet 0 a3.sns.hksBad 2 ∧ a3.sns.hksSent.contains 2 = false ∧ waitingMsgs a3 < 256) ∧
  (a0.time.ticks % 100000 = 0) ∧
  (6 < 128 ∧ BitVec.toNat (0x0503e869#32) < 2 ^ 31 ∧ bits (BitVec.toNat (0x0503e869#32)) 24 7 + 1 = 6 ∧ bits (BitVec.toNat
    (0x0503e869#32)) 24 7 ≤ 98 ∧ crc8 [bits (BitVec.toNat (0x0503e869#32)) 24 8, bits (BitVec.toNat (0x0503e869#32)) 16 8, bits
    (BitVec.toNat (0x0503e869#32)) 8 8] = bits (BitVec.toNat (0x0503e869#32)) 0 8) ∧
  (6 < 128 ∧ crc8 [bits (BitVec.toNat (0xffffffff#32)) 24 8, bits (BitVec.toNat (0xffffffff#32)) 16 8, bits (BitVec.toNat
    (0xffffffff#32)) 8 8] ≠ bits (BitVec.toNat (0xffffffff#32)) 0 8) ∧
  (5 < 99 ∧ 3 ≤ aGet 0 a3.sns.silent 5 ∧ a3.sns.silentSent.contains 5 = false ∧ waitingMsgs a3 < 256) ∧
  (5 < 99 ∧ a4.sns.silentSent.contains 5 = true) := by decide +kernel
end HousekeepingRoundsPublish

end Sense

namespace Est

def due (st row : Nat) (s : State) : State := es (fun e => { e with row := row, diff := [(0, 5), (2, -900)] }) (w [(EST.TRUST_STATUS.STATE, st), (PXE.SLOT_STATUS.STATE 0, 2)] s)
def fa (k r a : Nat) : FfAct := { kind := k, rail := r, amount := a, target := 1, lead := 20 }
def plan : State := w [(PSQ.STATUS.PLAN_STATE, 2), (PSQ.CTRL.PREPOS_EN, 1), (PSQ.CTRL.PRELIFT_EN, 1)] (tm (fun t => { t with step := 1 }) R)
def nb (n : Nat) : State := w [(DRG.CTRL.HOLD_EN, 1)] (tm (fun t => { t with nextB := some n, sys := 20000, step := 7 }) (job R))
def lt (v : Nat) (s : State) : State := dg (fun d => { d with regions := aPut (regionOf R 0) d.regions 5 { regionOf s 5 with late := v * psUnit } }) s
namespace TrustRowsActInOrder
def s0 : State := R
def a0 : State := advance 0 s0
def s1 : State := due 0 1 R
def a1 : State := advance 0 s1
def s3 : State := due 2 4 R
def a3 : State := advance 0 s3
def s4 : State := due 0 5 R
def a4 : State := advance 0 s4
def s5 : State := due 0 6 R
def a5 : State := advance 0 s5
def s7 : State := due 1 7 R
def a7 : State := advance 0 s7
def s8 : State := due 1 8 R
def a8 : State := advance 0 s8
theorem witness_TrustRowsActInOrder :
  (a1.est.row = 1 ∧ waitingMsgs a1 < 256) ∧
  (a3.est.row = 4 ∧ waitingMsgs a3 < 256) ∧
  (a4.est.row = 5 ∧ waitingMsgs a4 < 256) ∧
  (a5.est.row = 6 ∧ waitingMsgs a5 < 256) ∧
  (a7.est.row = 7 ∧ waitingMsgs a7 < 256) ∧
  (a8.est.row = 8 ∧ waitingMsgs a8 < 256) ∧
  (a0.est.row ≠ 1) ∧
  (a0.est.row ≠ 4) ∧
  (a0.est.row ≠ 5) ∧
  (a0.est.row ≠ 6) ∧
  (a0.est.row ≠ 7) ∧
  (a0.est.row ≠ 8) := by decide +kernel
end TrustRowsActInOrder
namespace EstimatesAreSubstitutedAndCalibrated
def s0 : State := R
def a0 : State := advance 0 s0
def s1 : State := at_ 80 (es (fun e => { e with owed := true }) R)
def a1 : State := advance 0 s1
def s3 : State := es (fun e => { e with calDue := some 0 }) R
def a3 : State := advance 0 s3
def s5 : State := es (fun e => { e with calDue := some 0 }) (w [(EST.TRUST_STATUS.STATE, 0), (EST.CTRL.CAL_EN, 1)] R)
def a5 : State := advance 0 s5
def s7 : State := es (fun e => { e with calDue := some 0 }) (w [(EST.TRUST_STATUS.STATE, 1), (EST.CTRL.CAL_EN, 1)] R)
def a7 : State := advance 0 s7
def s8 : State := at_ 100001 (es (fun e => { e with calDue := some 0 }) R)
def a8 : State := advance 0 s8
def s9 : State := es (fun e => { e with clampRun := [(3, 100)], clampGain := [(3, 70000)] }) R
def a9 : State := advance 0 s9
theorem witness_EstimatesAreSubstitutedAndCalibrated :
  (80 ≤ a1.time.ticks % 100 ∧ a1.est.owed = true) ∧
  ((a0.est.owed = false ∨ a0.time.ticks % 100 < 80)) ∧
  (a3.est.calDue = some 0 ∧ a3.time.ticks ≤ 0 + ms 1 ∧ (getB a3 EST.CTRL.CAL_EN = false ∨ 2 ≤ trustSt a3)) ∧
  (a5.est.calDue = some 0 ∧ a5.time.ticks ≤ 0 + ms 1 ∧ getB a5 EST.CTRL.CAL_EN = true ∧ trustSt a5 = 0) ∧
  (a7.est.calDue = some 0 ∧ a7.time.ticks ≤ 0 + ms 1 ∧ getB a7 EST.CTRL.CAL_EN = true ∧ trustSt a7 = 1) ∧
  (a0.est.calDue = none) ∧
  (a8.est.calDue = some 0 ∧ 0 + ms 1 < a8.time.ticks) ∧
  (3 < 4 ∧ 100 ≤ aGet 0 a9.est.clampRun 3 ∧ a9.est.clampSent.contains 3 = false ∧ waitingMsgs a9 < 256) ∧
  (0 < 4 ∧ (aGet 0 a0.est.clampRun 0 < 100 ∨ a0.est.clampSent.contains 0 = true)) ∧
  (mayWrite a0 (BitVec.toNat (0x01#8)) 131084 = true) := by decide +kernel
end EstimatesAreSubstitutedAndCalibrated
namespace PredictorRunsPublishOrFallBack
def s0 : State := R
def a0 : State := advance 0 s0
def s1 : State := w [(PXE.SLOT_STATUS.STATE 1, 2), (PXE.SLOT_STATUS.STATE 3, 2)] (at_ 20000000 R)
def a1 : State := advance 0 s1
def s2 : State := w [(PXE.SLOT_STATUS.STATE 1, 2), (PXE.SLOT_STATUS.STATE 3, 2)] (px (fun x => { x with due1 := true }) R)
def a2 : State := advance 0 s2
def s5 : State := px (fun x => { x with run := [(3, 5)] }) (at_ 5 R)
def a5 : State := advance 0 s5
def s6 : State := px (fun x => { x with run := [(3, 5)] }) (at_ 90000000 R)
def a6 : State := advance 0 s6
theorem witness_PredictorRunsPublishOrFallBack_1 :
  (a2.pxe.due1 = true) ∧
  (a0.pxe.due1 = false) ∧
  (a1.time.ticks % slotDeadline a1 3 = 0 ∧ a1.time.ticks / us 100 ≠ a1.pxe.per3) ∧
  ((a0.time.ticks % slotDeadline a0 3 ≠ 0 ∨ a0.time.ticks / us 100 = a0.pxe.per3)) ∧
  (3 < 4 ∧ aFind a5.pxe.run 3 = some 5 ∧ a5.time.ticks ≤ 5 + slotDeadline a5 3 ∧ (∀ w ∈ (runProg a5 3 1024).bad, aGet 0 a5.pxe.ecc w <
    2)) ∧
  (3 < 4 ∧ aFind a6.pxe.run 3 = some 5 ∧ 5 + slotDeadline a6 3 < a6.time.ticks) ∧
  (3 < 4 ∧ aFind a6.pxe.run 3 = some 5 ∧ 1023 < 1024 ∧ 5 + slotDeadline a6 3 ≤ a6.time.ticks) ∧
  (3 < 4 ∧ aFind a5.pxe.run 3 = some 5 ∧ 1023 < 1024 ∧ a5.time.ticks < 5 + slotDeadline a5 3) ∧
  (3 < 4 ∧ aFind a5.pxe.run 3 = some 5 ∧ 2097151 < 2097152 ∧ 1023 < 1024) := by decide +kernel
theorem witness_PredictorRunsPublishOrFallBack_2 :
  (3 < 4 ∧ aFind a0.pxe.run 3 = none) ∧
  (3 < 4 ∧ aFind a0.pxe.run 3 = none ∧ 1023 < 1024) ∧
  (3 < 4 ∧ aFind a0.pxe.run 3 = none ∧ 2097151 < 2097152 ∧ 1023 < 1024) ∧
  (3 < 4 ∧ mayWrite a0 (BitVec.toNat (0x01#8)) (196928 + 32 * 3) = true) := by decide +kernel
end PredictorRunsPublishOrFallBack
namespace FeedForwardActionsExecute
def s0 : State := R
def a0 : State := advance 0 s0
def s1 : State := plan
def a1 : State := advance 0 s1
def s3 : State := ps (fun x => { x with sched := [fa 0 0 10, fa 1 0 5000000, fa 0 2 90] }) plan
def a3 : State := advance 0 s3
def s6 : State := w [(PSQ.SEG_COUNT.VALID 0, 1), (PSQ.SEG_COUNT.COUNT 0, 9)] (ps (fun x => { x with ecc := [(2, 2)], mem := memPut [] 0 (List.replicate 144 1) }) plan)
def a6 : State := advance 0 s6
def s8 : State := w [(EST.TRUST_STATUS.STATE, 1), (PSQ.CTRL.REPEATABLE, 1)] (ps (fun x => { x with sched := [fa 0 0 10, fa 1 0 5000000, fa 0 2 90] }) plan)
def a8 : State := advance 0 s8
def x0 : FfAct := { kind := 0, rail := 0, amount := 10, target := 1, lead := 20 }
def x1 : FfAct := { kind := 1, rail := 0, amount := 5000000, target := 1, lead := 20 }
def x2 : FfAct := { kind := 0, rail := 2, amount := 90, target := 1, lead := 20 }
theorem witness_FeedForwardActionsExecute_1 :
  (planState a1 = planRunning ∧ a1.psq.next = none ∧ (∀ x ∈ planWindow a1, ∀ h ∈ (halfOf a1 x.1).toList, aGet 0 a1.psq.ecc (entryIndex
    a1 h x.1) = 0)) ∧
  (planState a1 = planRunning ∧ a1.psq.next = none ∧ planState (windowRead a1) = planRunning) ∧
  (planState a6 = planRunning ∧ a6.psq.next = none ∧ planState (windowRead a6) ≠ planRunning) ∧
  ((planState a0 ≠ planRunning ∨ a0.psq.next ≠ none)) ∧
  (0 < 3 ∧ planState a3 = planRunning ∧ getB a3 PSQ.CTRL.PREPOS_EN = true ∧ (takeAct a3 fun y => y.kind == 0 && y.rail == 0) = some (x0,
    [x1, x2])) ∧
  (0 < 3 ∧ (takeAct a0 fun y => y.kind == 0 && y.rail == 0) = none) ∧
  (planState a3 = planRunning ∧ getB a3 PSQ.CTRL.PRELIFT_EN = true ∧ preliftOk a3 = true ∧ (takeAct a3 fun y => y.kind == 1) = some (x1,
    [x0, x2])) ∧
  (planState a8 = planRunning ∧ getB a8 PSQ.CTRL.PRELIFT_EN = true ∧ preliftOk a8 = false ∧ (takeAct a8 fun y => y.kind == 1) = some
    (x1, [x0, x2])) := by decide +kernel
theorem witness_FeedForwardActionsExecute_2 :
  ((takeAct a0 fun y => y.kind == 1) = none) := by decide +kernel
end FeedForwardActionsExecute
namespace HoldsAreRequestedInTime
def s0 : State := R
def a0 : State := advance 0 s0
def s1 : State := nb 90000
def a1 : State := advance 0 s1
def s2 : State := lt 5000000 (nb 90000)
def a2 : State := advance 0 s2
def s3 : State := lt 50000000 (nb 20001)
def a3 : State := advance 0 s3
def s5 : State := at_ 7 R
def a5 : State := advance 0 s5
theorem witness_HoldsAreRequestedInTime_1 :
  (a0.time.ticks % 25 = 0 ∧ (jobOn a0 = false ∨ localOn a0 = true)) ∧
  (a2.time.ticks % 25 = 0 ∧ jobOn a2 = true ∧ localOn a2 = false ∧ a2.drg.duty = [] ∧ holdPossible
    ({ a2 with drg := { a2.drg with hist := ((a2.time.sys, List.foldl (fun m r => aPut 0 m r (lateOf a2 r)) [] regions64) :: List.filter (fun e => decide (a2.time.sys ≤ e.1 + 64000)) a2.drg.hist) } }
    : State) = true ∧ ↑(reserveEff
    ({ a2 with drg := { a2.drg with hist := ((a2.time.sys, List.foldl (fun m r => aPut 0 m r (lateOf a2 r)) [] regions64) :: List.filter (fun e => decide (a2.time.sys ≤ e.1 + 64000)) a2.drg.hist) } }
    : State)) < projection
    ({ a2 with drg := { a2.drg with hist := ((a2.time.sys, List.foldl (fun m r => aPut 0 m r (lateOf a2 r)) [] regions64) :: List.filter (fun e => decide (a2.time.sys ≤ e.1 + 64000)) a2.drg.hist) } }
    : State) + ↑(1000 * getF a2 DRG.HOLD_CTRL.HOLD_MARGIN)) ∧
  (a1.time.ticks % 25 = 0 ∧ jobOn a1 = true ∧ localOn a1 = false ∧ a1.drg.duty = [] ∧ holdPossible
    ({ a1 with drg := { a1.drg with hist := ((a1.time.sys, List.foldl (fun m r => aPut 0 m r (lateOf a1 r)) [] regions64) :: List.filter (fun e => decide (a1.time.sys ≤ e.1 + 64000)) a1.drg.hist) } }
    : State) = true ∧ projection
    ({ a1 with drg := { a1.drg with hist := ((a1.time.sys, List.foldl (fun m r => aPut 0 m r (lateOf a1 r)) [] regions64) :: List.filter (fun e => decide (a1.time.sys ≤ e.1 + 64000)) a1.drg.hist) } }
    : State) + ↑(1000 * getF a1 DRG.HOLD_CTRL.HOLD_MARGIN) ≤ ↑(reserveEff
    ({ a1 with drg := { a1.drg with hist := ((a1.time.sys, List.foldl (fun m r => aPut 0 m r (lateOf a1 r)) [] regions64) :: List.filter (fun e => decide (a1.time.sys ≤ e.1 + 64000)) a1.drg.hist) } }
    : State))) ∧
  (a3.time.ticks % 25 = 0 ∧ jobOn a3 = true ∧ localOn a3 = false ∧ a3.drg.duty = [] ∧ holdPossible
    ({ a3 with drg := { a3.drg with hist := ((a3.time.sys, List.foldl (fun m r => aPut 0 m r (lateOf a3 r)) [] regions64) :: List.filter (fun e => decide (a3.time.sys ≤ e.1 + 64000)) a3.drg.hist) } }
    : State) = false ∧ reserveEff
    ({ a3 with drg := { a3.drg with hist := ((a3.time.sys, List.foldl (fun m r => aPut 0 m r (lateOf a3 r)) [] regions64) :: List.filter (fun e => decide (a3.time.sys ≤ e.1 + 64000)) a3.drg.hist) } }
    : State) < chipLate
    ({ a3 with drg := { a3.drg with hist := ((a3.time.sys, List.foldl (fun m r => aPut 0 m r (lateOf a3 r)) [] regions64) :: List.filter (fun e => decide (a3.time.sys ≤ e.1 + 64000)) a3.drg.hist) } }
    : State) ∧ a3.drg.lateHold = false ∧ waitingMsgs a3 < 256) ∧
  (a5.time.ticks % 25 ≠ 0) := by decide +kernel
theorem witness_HoldsAreRequestedInTime_2 :
  (8 < 2 ^ 48 ∧ 90000 < 2 ^ 64 ∧ a1.time.nextB = some 90000 ∧ 8 = a1.time.step + 1 ∧ 90000 ≤ 90000) ∧
  (0 < 2 ^ 48 ∧ 0 < 2 ^ 64 ∧ (∀ t0 ∈ (a0.time.nextB).toList, 0 ≠ a0.time.step + 1 ∨ 0 < t0) ∧ waitingMsgs a0 < 256) := by decide +kernel
end HoldsAreRequestedInTime

end Est

namespace Phases

def burst (n : Nat) : State := ph (fun x => { x with burst := some 4000000 }) (at_ n up)
namespace PhasesRampAndSettle
def s0 : State := up
def a0 : State := advance 0 s0
def s1 : State := rl 3 (fun x => { x with ramping := true }) up
def a1 : State := advance 0 s1
def s3 : State := w [(PHC.DE_CTRL.DE_EN, 15)] (rl 3 (fun x => { x with deRun := 10200 }) up)
def a3 : State := advance 0 s3
def s5 : State := w [(PHC.RAIL_STATUS.SHED_INH 3, 1)] up
def a5 : State := advance 0 s5
def s6 : State := rl 3 (fun x => { x with inhUntil := 4000001 }) up
def a6 : State := advance 0 s6
def s7 : State := setPhase (setPhase up 5 (.rampIn 3999900)) 6 (.rampIn 5)
def a7 : State := advance 0 s7
def s8 : State := setPhase (setPhase up 5 (.rampOut 3999900 0)) 6 (.rampOut 5 3)
def a8 : State := advance 0 s8
def s11 : State := ph (fun x => { x with vselFrom := 4000001 }) up
def a11 : State := advance 0 s11
theorem witness_PhasesRampAndSettle_1 :
  (3 < 16 ∧ a0.time.ticks % 25 = 0 ∧ a0.phc.vselFrom ≤ a0.time.ticks) ∧
  (3 < 16 ∧ (a11.time.ticks % 25 ≠ 0 ∨ a11.time.ticks < a11.phc.vselFrom)) ∧
  (3 < 4 ∧ (railRec a1 3).ramping = true ∧ (railRec a1 3).ref = (railRec a1 3).tgt ∧ railSt a1 3 = rsOn) ∧
  (3 < 4 ∧ pastSoft a3 3 = true ∧ bit (getF a3 PHC.DE_CTRL.DE_EN) 3 = true ∧ inDe a3 3 = false ∧ 40 * getC a3 PHC.DE_CTRL.DE_DWELL 1 255
    ≤ (railRec a3 3).deRun ∧ (¬(3 = 0 ∧ a3.phc.burst ≠ none))) ∧
  (0 < 4 ∧ (railRec a0 0).deRun < 40 * getC a0 PHC.DE_CTRL.DE_DWELL 1 255) ∧
  (6 < 98 ∧ phaseSt a7 6 = PhaseSt.rampIn 5 ∧ 5 + us 8 ≤ a7.time.ticks) ∧
  (5 < 98 ∧ phaseSt a7 5 = PhaseSt.rampIn 3999900 ∧ a7.time.ticks < 3999900 + us 8) := by decide +kernel
theorem witness_PhasesRampAndSettle_2 :
  (6 < 98 ∧ phaseSt a8 6 = PhaseSt.rampOut 5 3 ∧ 5 + us 8 ≤ a8.time.ticks) ∧
  (5 < 98 ∧ phaseSt a8 5 = PhaseSt.rampOut 3999900 0 ∧ a8.time.ticks < 3999900 + us 8) ∧
  (3 < 4 ∧ getB a5 (PHC.RAIL_STATUS.SHED_INH 3) = true ∧ (railRec a5 3).inhUntil ≤ a5.time.ticks) ∧
  (3 < 4 ∧ a6.time.ticks < (railRec a6 3).inhUntil) := by decide +kernel
end PhasesRampAndSettle
namespace BurstsAndPhaseLimits
def s0 : State := R
def a0 : State := advance 0 s0
def s1 : State := up
def a1 : State := advance 0 s1
def s2 : State := burst 4000020
def a2 : State := advance 0 s2
def s3 : State := burst 4000000
def a3 : State := advance 0 s3
def s4 : State := ph (fun x => { x with rearm := 4000001 }) up
def a4 : State := advance 0 s4
def s5 : State := ph (fun x => { x with rearm := 4000000 }) up
def a5 : State := advance 0 s5
def s8 : State := ph (fun x => { x with ocTrip := [97] }) up
def a8 : State := advance 0 s8
def x0 : VcorePoints := { va := 0, vb := 660000000, ra := 0, rb := 0 }
theorem witness_BurstsAndPhaseLimits_1 :
  ((Instr.allPhaseBurst 0 x0).wf = true ∧ (tooDeep a1 x0 = true ∨ tooFast a1 x0 = true) ∧ pastSoft a1 0 = true ∧ a1.phc.burst = none ∧
    a1.phc.rearm = 0) ∧
  ((Instr.allPhaseBurst 0 x0).wf = true ∧ (tooDeep a0 x0 = false ∧ tooFast a0 x0 = false ∨ pastSoft a0 0 = false ∨ a0.phc.burst ≠ none ∨
    a0.phc.rearm ≠ 0)) ∧
  ((Instr.burstEnd 0 x0).wf = true ∧ a2.phc.burst = some 4000000 ∧ (recovered a2 x0 = true ∨ 4000000 + getC a2 PHC.BURST_CTRL.BURST_MAX
    5 20 ≤ a2.time.ticks)) ∧
  ((Instr.burstEnd 0 x0).wf = true ∧ a3.phc.burst = some 4000000 ∧ recovered a3 x0 = false ∧ a3.time.ticks < 4000000 + getC a3
    PHC.BURST_CTRL.BURST_MAX 5 20) ∧
  ((Instr.burstEnd 0 x0).wf = true ∧ a0.phc.burst = none) ∧
  (a5.phc.rearm ≠ 0 ∧ a5.phc.rearm ≤ a5.time.ticks) ∧
  (a4.time.ticks < a4.phc.rearm) ∧
  (97 < 98 ∧ a0.phc.ocTrip.contains 97 = false) ∧
  (97 < 98 ∧ a8.phc.ocTrip.contains 97 = true) := by decide +kernel
theorem witness_BurstsAndPhaseLimits_2 :
  (97 < 98) := by decide +kernel
end BurstsAndPhaseLimits
namespace PhasesAreRetiredAndRestored
def s0 : State := R
def a0 : State := advance 0 s0
def s1 : State := up
def a1 : State := advance 0 s1
def s2 : State := ph (fun x => { x with hotRun := [(97, 255)], imbRun := [(97, 100)], imbDep := [(97, -99)] }) up
def a2 : State := advance 0 s2
def s3 : State := w [(PHC.RETIRED.RETIRED 3, 2)] up
def a3 : State := advance 0 s3
theorem witness_PhasesAreRetiredAndRestored :
  (97 < 98 ∧ phaseSt a1 97 ≠ PhaseSt.off ∧ phaseSt a1 97 ≠ PhaseSt.retired ∧ waitingMsgs a1 < 256) ∧
  (97 < 98 ∧ (phaseSt a0 97 = PhaseSt.off ∨ phaseSt a0 97 = PhaseSt.retired)) ∧
  (97 < 98 ∧ getC a2 PHC.RETIRE_CTRL.HOT_ROUNDS 1 255 ≤ aGet 0 a2.phc.hotRun 97 ∧ isRetired a2 97 = false ∧ (fun n1 => a2.acts.any fun x
    => match x.kind with | ActKind.retire m cause => m == n1 | _ => false) 97 = false ∧ waitingMsgs a2 < 256) ∧
  (97 < 98 ∧ 100 ≤ aGet 0 a2.phc.imbRun 97 ∧ isRetired a2 97 = false ∧ (fun n1 => a2.acts.any fun x =>
    match x.kind with | ActKind.retire m cause => m == n1 | _ => false) 97 = false ∧ waitingMsgs a2 < 256) ∧
  (97 < 98 ∧ (isRetired a3 97 = true ∨ (fun n1 => a3.acts.any fun x =>
    match x.kind with | ActKind.retire m cause => m == n1 | _ => false) 97 = true)) ∧
  (3 < 4 ∧ mayWrite a0 (BitVec.toNat (0x01#8)) (393344 + 4 * 3) = true) := by decide +kernel
end PhasesAreRetiredAndRestored

end Phases

namespace Rails

def slow (s : State) : State := ph (fun x => { x with limFrom := (List.range 98).map (fun n => (n, 0)) }) s
namespace StartsWaitForTheBus
def s0 : State := R
def a0 : State := advance 0 s0
def s1 : State := sqq 1 R
def a1 : State := advance 0 s1
def s4 : State := ph (fun x => { x with goodAt := some 0, busEnAt := 0 }) (sqq 1 R)
def a4 : State := advance 0 s4
def s5 : State := ph (fun x => { x with goodAt := some 0, busEnAt := 0 }) (sqq 1 (at_ 2550000 R))
def a5 : State := advance 0 s5
def s6 : State := rails 4 1 1 4 (sqq 1 up)
def a6 : State := advance 0 s6
theorem witness_StartsWaitForTheBus_1 :
  (mayWrite a1 (BitVec.toNat (0x01#8)) 394248 = true ∧ (getF a1 PHC.LATCH.LATCHED ≠ 0 ∨ seqState a1 ≠ sqIdle ∨ getB a1 TMG.TRIP.TRIPPED
    = true)) ∧
  (mayWrite a0 (BitVec.toNat (0x01#8)) 394248 = true ∧ getF a0 PHC.LATCH.LATCHED = 0 ∧ seqState a0 = sqIdle ∧ getB a0 TMG.TRIP.TRIPPED =
    false) ∧
  (mayWrite a1 (BitVec.toNat (0x01#8)) 394248 = true ∧ (seqState a1 = sqStarting ∨ seqState a1 = sqUp)) ∧
  (mayWrite a0 (BitVec.toNat (0x01#8)) 394248 = true ∧ seqState a0 ≠ sqStarting ∧ seqState a0 ≠ sqUp) ∧
  (a5.phc.goodAt = some 0 ∧ busWait a5 = true ∧ 0 + 1000 * getC a5 PHC.START_CTRL.BUS_SETTLE 10 255 ≤ a5.time.ticks ∧ leaderOf a5
    (orderAt a5 0) = none) ∧
  (a4.phc.goodAt = some 0 ∧ busWait a4 = true ∧ a4.time.ticks < 0 + 1000 * getC a4 PHC.START_CTRL.BUS_SETTLE 10 255) ∧
  (busWait a5 = true ∧ a5.phc.busEnAt + ms 20 ≤ a5.time.ticks ∧ waitingMsgs a5 < 256) ∧
  (busWait a0 = false) := by decide +kernel
theorem witness_StartsWaitForTheBus_2 :
  (starting a6 = true ∧ (∀ k < 4, railSt a6 k ≠ rsProbe ∧ railSt a6 k ≠ rsSoft) ∧ a6.phc.due ≤ a6.time.ticks ∧ 2 < 4 ∧ railSt a6
    (orderAt a6 2) = rsWait ∧ leaderOf a6 (orderAt a6 2) = none ∧ (∀ q < 2, railSt a6 (orderAt a6 q) ≠ rsWait)) ∧
  ((starting a0 = false ∨ a0.time.ticks < a0.phc.due)) := by decide +kernel
end StartsWaitForTheBus
namespace RailsStartOrLatch
def s0 : State := up
def a0 : State := advance 0 s0
def s2 : State := rl 3 (fun x => { x with prN := 40 }) settled
def a2 : State := advance 0 s2
def s3 : State := rl 3 (fun x => { x with prN := 40, prSum := 80000000000 }) settled
def a3 : State := advance 0 s3
def s5 : State := rl 3 (fun x => { x with ref := 1200000000, pgRun := 40 }) (soft 3 1200 settled)
def a5 : State := advance 0 s5
def s6 : State := rl 3 (fun x => { x with case2 := true, prAt := 0 }) (soft 3 1200 settled)
def a6 : State := advance 0 s6
def s7 : State := rl 3 (fun x => { x with ovRun := 4 }) up
def a7 : State := advance 0 s7
def s8 : State := rl 3 (fun x => { x with ref := 1200000000, doneAt := some 2500000 }) (soft 3 1200 settled)
def a8 : State := advance 0 s8
def s9 : State := slow (rl 3 (fun x => { x with lagRun := 400 }) (soft 3 1200 (setPhase settled 94 .regulating)))
def a9 : State := advance 0 s9
def s10 : State := sqq 5 up
def a10 : State := advance 0 s10
theorem witness_RailsStartOrLatch_1 :
  (3 < 4 ∧ railSt a2 3 = rsProbe ∧ 40 ≤ (railRec a2 3).prN ∧ seqState a2 ≠ sqQuickStop ∧ startPoint a2 3 ≤ selNv a2 3 + ovNv a2) ∧
  (3 < 4 ∧ railSt a3 3 = rsProbe ∧ 40 ≤ (railRec a3 3).prN ∧ seqState a3 ≠ sqQuickStop ∧ selNv a3 3 + ovNv a3 < startPoint a3 3 ∧
    waitingMsgs a3 < 256) ∧
  (3 < 4 ∧ (railSt a0 3 ≠ rsProbe ∨ (railRec a0 3).prN < 40 ∨ seqState a0 = sqQuickStop)) ∧
  (3 < 4 ∧ railSt a5 3 = rsSoft ∧ (railRec a5 3).ref = (railRec a5 3).tgt ∧ 40 ≤ (railRec a5 3).pgRun) ∧
  (3 < 4 ∧ (railSt a0 3 ≠ rsSoft ∨ (railRec a0 3).pgRun < 40)) := by decide +kernel
theorem witness_RailsStartOrLatch_2 :
  (3 < 4 ∧ faultsArmed a8 = true ∧ waitingMsgs a8 < 256 ∧ (railRec a8 3).doneAt = some 2500000 ∧ 2500000 + ms 1 ≤ a8.time.ticks ∧ railSt
    a8 3 = rsSoft ∧ (railRec a8 3).case2 = false ∧ (railRec a8 3).ref = (railRec a8 3).tgt ∧ (railRec a8 3).pgRun < 40) ∧
  (3 < 4 ∧ faultsArmed a6 = true ∧ waitingMsgs a6 < 256 ∧ railSt a6 3 = rsSoft ∧ (railRec a6 3).case2 = true ∧ (railRec a6 3).prAt + ms
    10 ≤ a6.time.ticks) ∧
  (3 < 4 ∧ faultsArmed a9 = true ∧ waitingMsgs a9 < 256 ∧ railSt a9 3 = rsSoft ∧ 80 ≤ (railRec a9 3).lagRun ∧ limitedFor a9 3 20000 =
    true) := by decide +kernel
theorem witness_RailsStartOrLatch_3 :
  (3 < 4 ∧ faultsArmed a9 = true ∧ waitingMsgs a9 < 256 ∧ railSt a9 3 = rsSoft ∧ 400 ≤ (railRec a9 3).lagRun) ∧
  (3 < 4 ∧ faultsArmed a7 = true ∧ waitingMsgs a7 < 256 ∧ (railSt a7 3 = rsSoft ∨ railSt a7 3 = rsOn ∨ railSt a7 3 = rsStop) ∧ 4 ≤
    (railRec a7 3).ovRun) ∧
  (3 < 4 ∧ faultsArmed a10 = false) := by decide +kernel
end RailsStartOrLatch
namespace RailsStopInOrder
def s0 : State := R
def a0 : State := advance 0 s0
def s1 : State := up
def a1 : State := advance 0 s1
def s2 : State := rl 3 (fun x => { x with ref := 100000000 }) (rails rsStop rsStop rsStop rsStop (sqq 3 up))
def a2 : State := advance 0 s2
def s6 : State := ph (fun x => { x with pwrFailN := false }) (w [(PHC.SEQ_CTRL.AUTO_START, 0)] R)
def a6 : State := advance 0 s6
def s7 : State := ph (fun x => { x with due := 4000000 }) (sqq 5 up)
def a7 : State := advance 0 s7
theorem witness_RailsStopInOrder :
  (3 < 4 ∧ railSt a2 3 = rsStop ∧ (railRec a2 3).ref ≤ 100000000 ∧ seqState a2 ≠ sqQuickStop) ∧
  (0 < 4 ∧ (railSt a0 0 ≠ rsStop ∨ 100000000 < (railRec a0 0).ref ∨ seqState a0 = sqQuickStop ∧ (0 ≠ 2 ∨ a0.phc.stop ≠ 4))) ∧
  (a1.phc.pwrFailN = true) ∧
  (a0.phc.pwrFailN = false) ∧
  (seqState a7 = sqQuickStop ∧ a7.phc.due ≤ a7.time.ticks ∧ List.filter (fun k1 => decide (railSt a7 k1 ≠ rsOff) && decide (railSt a7 k1
    ≠ rsLatch)) (stopOrder a7) = 2 :: ((List.filter (fun k1 => decide (railSt a7 k1 ≠ rsOff) && decide (railSt a7 k1 ≠ rsLatch))
    (stopOrder a7)).tail)) ∧
  ((seqState a0 ≠ sqQuickStop ∨ a0.time.ticks < a0.phc.due)) ∧
  (getB a6 PHC.SEQ_CTRL.AUTO_START = false) ∧
  (getB a0 PHC.SEQ_CTRL.AUTO_START = true ∧ a0.phc.pwrFailN = false ∧ getF a0 PHC.LATCH.LATCHED = 0 ∧ a0.phc.allLow = false ∧
    a0.phc.resetN = true) ∧
  (mayWrite a0 (BitVec.toNat (0x01#8)) 394256 = true) := by decide +kernel
end RailsStopInOrder

end Rails

namespace Limits

def exc (s : State) : State := lg (fun x => { x with p1us := 400000000, excRun := 60 }) s
def oc : State := w [(LGV.CTRL.DUTY_EN, 1), (LGV.STATUS.CAP_STATE, 1)] (lg (fun x => { x with pm := 1000000000000, msDue := true }) (running R))
def T (v : Nat) : State := tg (fun x => { x with fwDue := true }) (w [(TMG.CHIP_T.MEAS, v)] (running R))
namespace CeilingsFallAtOnce
def s0 : State := R
def a0 : State := advance 0 s0
def s1 : State := exc R
def a1 : State := advance 0 s1
def s5 : State := w [(LGV.OPP.PROT_CEIL, 60)] (lg (fun x => { x with lowAt := some 5 }) (exc (at_ 90000 R)))
def a5 : State := advance 0 s5
def s6 : State := w [(LGV.OPP.PROT_CEIL, 60)] (lg (fun x => { x with lowAt := some 5, unmet := [12, 13] }) (exc (at_ 90000 R)))
def a6 : State := advance 0 s6
def s7 : State := tg (fun x => { x with rateDue := true, riseRun := [(5, 2)], rise := [(5, 99)] }) R
def a7 : State := advance 0 s7
theorem witness_CeilingsFallAtOnce :
  (12 < 14 ∧ condHolds a1 12 = true ∧ 60 < protCeil a1 ∧ protCeil a1 ≤ 150 ∧ aGet 0 a1.lgv.holdOff 12 ≤ a1.time.ticks) ∧
  (12 < 14 ∧ (condHolds a0 12 = false ∨ protCeil a0 ≤ 60 ∨ a0.time.ticks < aGet 0 a0.lgv.holdOff 12)) ∧
  (12 < 14 ∧ a5.lgv.lowAt = some 5 ∧ 5 + us 100 ≤ a5.time.ticks ∧ condHolds a5 12 = true ∧ protCeil a5 = 60 ∧ a5.lgv.unmet.contains 12 =
    false ∧ waitingMsgs a5 < 256) ∧
  (12 < 14 ∧ a6.lgv.unmet.contains 12 = true) ∧
  (5 < 64 ∧ a7.tmg.rateDue = true ∧ 2 ≤ aGet 0 a7.tmg.riseRun 5 ∧ (∀ e ∈ a7.tmg.rise, 2 ≤ aGet 0 a7.tmg.riseRun e.1 → e.2 ≤ aGet 0
    a7.tmg.rise 5) ∧ a7.tmg.rateBase ≤ 150) ∧
  (5 < 64 ∧ (a0.tmg.rateDue = false ∨ aGet 0 a0.tmg.riseRun 5 < 2)) := by decide +kernel
end CeilingsFallAtOnce
namespace DutyFollowsTheCap
def s0 : State := R
def a0 : State := advance 0 s0
def s1 : State := oc
def a1 : State := advance 0 s1
def s2 : State := w [(LGV.CTRL.DUTY_EN, 0)] oc
def a2 : State := advance 0 s2
def s3 : State := lg (fun x => { x with duty := 8, unattRun := 300 }) oc
def a3 : State := advance 0 s3
theorem witness_DutyFollowsTheCap :
  (dutyRuns a2 = true ∧ a2.lgv.msDue = true ∧ getB a2 LGV.CTRL.DUTY_EN = false) ∧
  (dutyRuns a1 = true ∧ a1.lgv.msDue = true ∧ getB a1 LGV.CTRL.DUTY_EN = true) ∧
  (dutyRuns a3 = true ∧ getF a3 LGV.STATUS.CAP_STATE ≠ 3 ∧ a3.lgv.duty ≤ getC a3 LGV.DUTY_CTRL.DUTY_MIN 8 16 ∧ max 1 (getF a3
    LGV.DUTY_CTRL.UNMET_ROUNDS) ≤ a3.lgv.unattRun ∧ overCap a3 = true ∧ waitingMsgs a3 < 256) ∧
  ((dutyRuns a0 = false ∨ a0.lgv.msDue = false)) ∧
  ((dutyRuns a0 = false ∨ getF a0 LGV.STATUS.CAP_STATE = 3 ∨ getC a0 LGV.DUTY_CTRL.DUTY_MIN 8 16 < a0.lgv.duty ∨ a0.lgv.unattRun < max 1
    (getF a0 LGV.DUTY_CTRL.UNMET_ROUNDS) ∨ overCap a0 = false)) ∧
  ((0x01#8) ≠ 65 ∧ mayWrite a0 (BitVec.toNat (0x01#8)) 458848 = true) := by decide +kernel
end DutyFollowsTheCap
namespace ThermalRoundsStepAndJudge
def s0 : State := R
def a0 : State := advance 0 s0
def s2 : State := T 1700
def a2 : State := advance 0 s2
def s9 : State := tg (fun x => { x with floorRun := 10 }) (running R)
def a9 : State := advance 0 s9
def s10 : State := tg (fun x => { x with floorSent := true }) (running R)
def a10 : State := advance 0 s10
def s11 : State := tg (fun x => { x with devRun := [(2, 300), (3, 300)], dev := [(2, 300)] }) (running R)
def a11 : State := advance 0 s11
def s12 : State := tg (fun x => { x with devRun := [(2, 300), (3, 300)], dev := [(2, 300)] }) (w [(TMG.SUSPECT.SUSPECT 0, 0x30)] (running R))
def a12 : State := advance 0 s12
def s13 : State := tg (fun x => { x with okRun := [(1, 999)] }) (w [(TMG.SUSPECT.SUSPECT 0, 2)] (running R))
def a13 : State := advance 0 s13
def s14 : State := tg (fun x => { x with devRun := [(2, 300), (3, 300)], dev := [(2, 300)], sensed := [2] }) (w [(TMG.SUSPECT.SUSPECT 0, 0x30)] (running R))
def a14 : State := advance 0 s14
theorem witness_ThermalRoundsStepAndJudge_1 :
  (compOn a2 4 = true ∧ a2.tmg.fwDue = true ∧ getF a2 TMG.STEP.LEVEL ≤ 200) ∧
  ((compOn a0 4 = false ∨ a0.tmg.fwDue = false)) ∧
  (compOn a9 4 = true ∧ 10 ≤ a9.tmg.floorRun ∧ a9.tmg.floorSent = false ∧ waitingMsgs a9 < 256) ∧
  (a10.tmg.floorSent = true) ∧
  (2 < 512 ∧ compOn a11 4 = true ∧ getB a11 TMG.CTRL.XCHK_EN = true ∧ isSuspect a11 2 = false ∧ a11.tmg.maskNext.contains (2, true) =
    false ∧ max 1 (getF a11 TMG.XCHK_CTRL.XCHK_ROUNDS) ≤ aGet 0 a11.tmg.devRun 2 ∧ suspectsOf a11 (2 / 8) < 2 ∧ waitingMsgs a11 < 256) := by decide +kernel
theorem witness_ThermalRoundsStepAndJudge_2 :
  (2 < 512 ∧ compOn a12 4 = true ∧ getB a12 TMG.CTRL.XCHK_EN = true ∧ isSuspect a12 2 = false ∧ a12.tmg.maskNext.contains (2, true) =
    false ∧ max 1 (getF a12 TMG.XCHK_CTRL.XCHK_ROUNDS) ≤ aGet 0 a12.tmg.devRun 2 ∧ 2 ≤ suspectsOf a12 (2 / 8) ∧ a12.tmg.sensed.contains
    2 = false ∧ waitingMsgs a12 < 256) ∧
  (2 < 512 ∧ compOn a14 4 = true ∧ getB a14 TMG.CTRL.XCHK_EN = true ∧ isSuspect a14 2 = false ∧ a14.tmg.maskNext.contains (2, true) =
    false ∧ max 1 (getF a14 TMG.XCHK_CTRL.XCHK_ROUNDS) ≤ aGet 0 a14.tmg.devRun 2 ∧ 2 ≤ suspectsOf a14 (2 / 8) ∧ a14.tmg.sensed.contains
    2 = true) ∧
  (1 < 512 ∧ (compOn a0 4 = false ∨ getB a0 TMG.CTRL.XCHK_EN = false ∨ isSuspect a0 1 = true)) := by decide +kernel
theorem witness_ThermalRoundsStepAndJudge_3 :
  (1 < 512 ∧ compOn a13 4 = true ∧ getB a13 TMG.CTRL.XCHK_EN = true ∧ isSuspect a13 1 = true ∧ max 1 (getF a13 TMG.XCHK_CTRL.XCHK_CLEAR)
    ≤ aGet 0 a13.tmg.okRun 1 ∧ a13.tmg.maskNext.contains (1, false) = false) ∧
  (1 < 512 ∧ (compOn a0 4 = false ∨ getB a0 TMG.CTRL.XCHK_EN = false ∨ isSuspect a0 1 = false)) ∧
  (15 < 16) := by decide +kernel
end ThermalRoundsStepAndJudge
namespace TripsStopTheRails
def s0 : State := R
def a0 : State := advance 0 s0
def s1 : State := up
def a1 : State := advance 0 s1
def s2 : State := w [(TMG.TRIPCMP.TRIPPED 15, 2 ^ 24)] up
def a2 : State := advance 0 s2
theorem witness_TripsStopTheRails :
  (63 < 64 ∧ 7 < 8 ∧ isTripped a1 (8 * 63 + 7) = false ∧ (∃ k < 4, railSt a1 k ≠ rsOff) ∧ waitingMsgs a1 < 256 ∧ (∀ m < 8, isTripped a1
    (8 * 63 + m) = false) ∧ twoTripped a1 = false) ∧
  (63 < 64 ∧ 7 < 8 ∧ isTripped a2 (8 * 63 + 7) = false ∧ (∃ k < 4, railSt a2 k ≠ rsOff) ∧ waitingMsgs a2 < 256 ∧ (∃ m < 8, isTripped a2
    (8 * 63 + m) = true) ∧ getB a2 TMG.TRIP.TRIPPED = false) ∧
  (63 < 64 ∧ 7 < 8 ∧ (isTripped a0 (8 * 63 + 7) = true ∨ ∀ k < 4, railSt a0 k = rsOff)) ∧
  (63 < 64 ∧ 7 < 8) := by decide +kernel
end TripsStopTheRails

end Limits

namespace Balance

def mem : State := w [(BAL.GRANT_AT_STEP_HI.ARMED, 1), (BAL.GRANT_AT_STEP_LO.STEP, 9), (BAL.CTRL.BAL_EN, 1), (BAL.CTRL.POSITION, 5), (BAL.ROSTER_LO.ROSTER, 0x60), (BAL.LIMITS.FLOOR_W, 400), (BAL.LIMITS.CEIL_W, 2000)] (running (job R))
def r0 : BalRound := { serve := 9, stepB := 1, budget := 3000, temp := 5, clamp := 9, roster := 0x60, late := 3, check := 77, claim := 900, slack := 5, slackStep := 1, begun := false, floor := 400, frames := [], mismatch := false, fired := false, res := 0, decided := false, own := 5, ceil := 2000, hops := 2, ports := [] }
def rd (r : BalRound) (s : State) : State := bl (fun x => { x with round := some r }) s
def frm (serve chk fl : Nat) : List Nat := toLE 6 serve ++ [0, 0] ++ toLE 2 fl ++ toLE 4 0 ++ toLE 2 chk ++ List.replicate 16 0
def q (l : List (List Nat)) (s : State) : State := bl (fun x => { x with queue := l }) s
def bg : BalRound := { r0 with begun := true }
def done_ (x fl : Nat) : BalRound := { bg with fired := true, res := x, frames := [(5, frm 9 77 fl), (6, frm 9 77 fl)] }
def key : State := bl (fun x => { x with cur := [(0, ⟨3, 99⟩)], prev := [(1, ⟨4, 98⟩)], prevUntil := [(1, 500)] }) R
def hd (typ gen ctx org cnt hops : Nat) : List Nat := [typ, gen, org + 64 * ctx, 0, 0, 0, hops, 0] ++ toLE 8 cnt
namespace RoundsStageTheFloorFirst
def s0 : State := R
def a0 : State := advance 0 s0
def s1 : State := running R
def a1 : State := advance 0 s1
def s3 : State := q [5 :: frm 9 77 400] (running R)
def a3 : State := advance 0 s3
def s4 : State := q [5 :: frm 9 77 400] (rd bg mem)
def a4 : State := advance 0 s4
def s5 : State := rd { r0 with serve := 281474976710655 } mem
def a5 : State := advance 0 s5
def s9 : State := q [6 :: frm 9 78 400] (rd bg mem)
def a9 : State := advance 0 s9
def s10 : State := q [6 :: frm 8 78 400] (rd bg mem)
def a10 : State := advance 0 s10
def s14 : State := rd { bg with fired := true } (w [(BAL.GRANT_AT_STEP_HI.ARMED, 0)] mem)
def a14 : State := advance 0 s14
def s15 : State := rd (done_ 1 100) mem
def a15 : State := advance 0 s15
def s16 : State := rd (done_ 1 100) (w [(BAL.GRANT_AT_STEP_HI.ARMED, 0)] mem)
def a16 : State := advance 0 s16
def s17 : State := rd (done_ 1 40000) mem
def a17 : State := advance 0 s17
def s18 : State := rd (done_ 2 100) mem
def a18 : State := advance 0 s18
def s19 : State := bl (fun x => { x with lastOk := true }) (rd (done_ 2 100) mem)
def a19 : State := advance 0 s19
def s23 : State := w [(PXE.SLOT_STATUS.STATE 2, 2)] (px (fun x => { x with run := [(2, 5)] }) (rd (done_ 0 100) mem))
def a23 : State := advance 0 s23
def x0 : BalRound := { serve := 281474976710655, stepB := 1, budget := 3000, temp := 5, clamp := 9, roster := 96, late := 3, check := 77, claim := 900, slack := 5, slackStep := 1, begun := false, floor := 400, frames := [], mismatch := false, fired := false, res := 0, decided := false, own := 5, ceil := 2000, hops := 2, ports := [] }
def x1 : BalRound := { serve := 9, stepB := 1, budget := 3000, temp := 5, clamp := 9, roster := 96, late := 3, check := 77, claim := 900, slack := 5, slackStep := 1, begun := true, floor := 400, frames := [], mismatch := false, fired := false, res := 0, decided := false, own := 5, ceil := 2000, hops := 2, ports := [] }
def x2 : BalRound := { serve := 9, stepB := 1, budget := 3000, temp := 5, clamp := 9, roster := 96, late := 3, check := 77, claim := 900, slack := 5, slackStep := 1, begun := true, floor := 400, frames := [], mismatch := false, fired := true, res := 0, decided := false, own := 5, ceil := 2000, hops := 2, ports := [] }
def x3 : BalRound := { serve := 9, stepB := 1, budget := 3000, temp := 5, clamp := 9, roster := 96, late := 3, check := 77, claim := 900, slack := 5, slackStep := 1, begun := true, floor := 400, frames := [(5, [9, 0, 0, 0, 0, 0, 0, 0, 64, 156, 0, 0, 0, 0, 77, 0, 0, 0, 0, 0, 0, 0, 0, 0, 0, 0, 0, 0, 0, 0, 0, 0]), (6, [9, 0, 0, 0, 0, 0, 0, 0, 64, 156, 0, 0, 0, 0, 77, 0, 0, 0, 0, 0, 0, 0, 0, 0, 0, 0, 0, 0, 0, 0, 0, 0])], mismatch := false, fired := true, res := 1, decided := false, own := 5, ceil := 2000, hops := 2, ports := [] }
def x4 : BalRound := { serve := 9, stepB := 1, budget := 3000, temp := 5, clamp := 9, roster := 96, late := 3, check := 77, claim := 900, slack := 5, slackStep := 1, begun := true, floor := 400, frames := [(5, [9, 0, 0, 0, 0, 0, 0, 0, 100, 0, 0, 0, 0, 0, 77, 0, 0, 0, 0, 0, 0, 0, 0, 0, 0, 0, 0, 0, 0, 0, 0, 0]), (6, [9, 0, 0, 0, 0, 0, 0, 0, 100, 0, 0, 0, 0, 0, 77, 0, 0, 0, 0, 0, 0, 0, 0, 0, 0, 0, 0, 0, 0, 0, 0, 0])], mismatch := false, fired := true, res := 0, decided := false, own := 5, ceil := 2000, hops := 2, ports := [] }
def x5 : BalRound := { serve := 9, stepB := 1, budget := 3000, temp := 5, clamp := 9, roster := 96, late := 3, check := 77, claim := 900, slack := 5, slackStep := 1, begun := true, floor := 400, frames := [(5, [9, 0, 0, 0, 0, 0, 0, 0, 100, 0, 0, 0, 0, 0, 77, 0, 0, 0, 0, 0, 0, 0, 0, 0, 0, 0, 0, 0, 0, 0, 0, 0]), (6, [9, 0, 0, 0, 0, 0, 0, 0, 100, 0, 0, 0, 0, 0, 77, 0, 0, 0, 0, 0, 0, 0, 0, 0, 0, 0, 0, 0, 0, 0, 0, 0])], mismatch := false, fired := true, res := 1, decided := false, own := 5, ceil := 2000, hops := 2, ports := [] }
def x6 : BalRound := { serve := 9, stepB := 1, budget := 3000, temp := 5, clamp := 9, roster := 96, late := 3, check := 77, claim := 900, slack := 5, slackStep := 1, begun := true, floor := 400, frames := [(5, [9, 0, 0, 0, 0, 0, 0, 0, 100, 0, 0, 0, 0, 0, 77, 0, 0, 0, 0, 0, 0, 0, 0, 0, 0, 0, 0, 0, 0, 0, 0, 0]), (6, [9, 0, 0, 0, 0, 0, 0, 0, 100, 0, 0, 0, 0, 0, 77, 0, 0, 0, 0, 0, 0, 0, 0, 0, 0, 0, 0, 0, 0, 0, 0, 0])], mismatch := false, fired := true, res := 2, decided := false, own := 5, ceil := 2000, hops := 2, ports := [] }
theorem witness_RoundsStageTheFloorFirst_1 :
  (compOn a0 5 = false) ∧
  (compOn a5 5 = true ∧ (balAgent a5).bal.round = some x0 ∧ x0.begun = false ∧ x0.decided = false ∧ x0.serve < 2 ^ 48) ∧
  (compOn a1 5 = true ∧ ((balAgent a1).bal.round = none ∨ ∃ r ∈ ((balAgent a1).bal.round).toList, (r.begun = true ∨ r.decided = true))) ∧
  (compOn a1 5 = true ∧ balMember a1 = false ∧ a1.bal.outStaged = false ∧ a1.bal.floorDue = false ∧ a1.bal.round = none) ∧
  (compOn a1 5 = true ∧ a1.bal.queue = []) ∧
  (compOn a4 5 = true ∧ a4.bal.queue = [5, 9, 0, 0, 0, 0, 0, 0, 0, 144, 1, 0, 0, 0, 0, 77, 0, 0, 0, 0, 0, 0, 0, 0, 0, 0, 0, 0, 0, 0, 0,
    0, 0] :: (a4.bal.queue.tail) ∧ (balAgent { a4 with bal := { a4.bal with queue := (a4.bal.queue.tail) } }).bal.round = some x1 ∧
    x1.serve = frServe (List.drop 1 [5, 9, 0, 0, 0, 0, 0, 0, 0, 144, 1, 0, 0, 0, 0, 77, 0, 0, 0, 0, 0, 0, 0, 0, 0, 0, 0, 0, 0, 0, 0, 0,
    0]) ∧ (x1.decided = true ∨ x1.fired = true ∨ inRoster x1 (nth [5, 9, 0, 0, 0, 0, 0, 0, 0, 144, 1, 0, 0, 0, 0, 77, 0, 0, 0, 0, 0, 0,
    0, 0, 0, 0, 0, 0, 0, 0, 0, 0, 0] 0) = false ∨ nth [5, 9, 0, 0, 0, 0, 0, 0, 0, 144, 1, 0, 0, 0, 0, 77, 0, 0, 0, 0, 0, 0, 0, 0, 0, 0,
    0, 0, 0, 0, 0, 0, 0] 0 = x1.own)) := by decide +kernel
theorem witness_RoundsStageTheFloorFirst_2 :
  (compOn a9 5 = true ∧ a9.bal.queue = [6, 9, 0, 0, 0, 0, 0, 0, 0, 144, 1, 0, 0, 0, 0, 78, 0, 0, 0, 0, 0, 0, 0, 0, 0, 0, 0, 0, 0, 0, 0,
    0, 0] :: (a9.bal.queue.tail) ∧ (balAgent { a9 with bal := { a9.bal with queue := (a9.bal.queue.tail) } }).bal.round = some x1 ∧
    x1.serve = frServe (List.drop 1 [6, 9, 0, 0, 0, 0, 0, 0, 0, 144, 1, 0, 0, 0, 0, 78, 0, 0, 0, 0, 0, 0, 0, 0, 0, 0, 0, 0, 0, 0, 0, 0,
    0]) ∧ x1.decided = false ∧ x1.fired = false ∧ inRoster x1 (nth [6, 9, 0, 0, 0, 0, 0, 0, 0, 144, 1, 0, 0, 0, 0, 78, 0, 0, 0, 0, 0, 0,
    0, 0, 0, 0, 0, 0, 0, 0, 0, 0, 0] 0) = true ∧ nth [6, 9, 0, 0, 0, 0, 0, 0, 0, 144, 1, 0, 0, 0, 0, 78, 0, 0, 0, 0, 0, 0, 0, 0, 0, 0,
    0, 0, 0, 0, 0, 0, 0] 0 ≠ x1.own) ∧
  (compOn a3 5 = true ∧ a3.bal.queue = [5, 9, 0, 0, 0, 0, 0, 0, 0, 144, 1, 0, 0, 0, 0, 77, 0, 0, 0, 0, 0, 0, 0, 0, 0, 0, 0, 0, 0, 0, 0,
    0, 0] :: (a3.bal.queue.tail) ∧ (∀ r ∈ ((balAgent { a3 with bal := { a3.bal with queue := (a3.bal.queue.tail) } }).bal.round).toList,
    r.serve ≠ frServe (List.drop 1 [5, 9, 0, 0, 0, 0, 0, 0, 0, 144, 1, 0, 0, 0, 0, 77, 0, 0, 0, 0, 0, 0, 0, 0, 0, 0, 0, 0, 0, 0, 0, 0,
    0])) ∧ (balMember (balAgent { a3 with bal := { a3.bal with queue := (a3.bal.queue.tail) } }) = false ∨ nth [5, 9, 0, 0, 0, 0, 0, 0,
    0, 144, 1, 0, 0, 0, 0, 77, 0, 0, 0, 0, 0, 0, 0, 0, 0, 0, 0, 0, 0, 0, 0, 0, 0] 0 = balPos (balAgent
    { a3 with bal := { a3.bal with queue := (a3.bal.queue.tail) } }) ∨ frServe (List.drop 1 [5, 9, 0, 0, 0, 0, 0, 0, 0, 144, 1, 0, 0, 0,
    0, 77, 0, 0, 0, 0, 0, 0, 0, 0, 0, 0, 0, 0, 0, 0, 0, 0, 0]) ≤ (balAgent
    { a3 with bal := { a3.bal with queue := (a3.bal.queue.tail) } }).time.step)) ∧
  (compOn a10 5 = true ∧ a10.bal.queue = [6, 8, 0, 0, 0, 0, 0, 0, 0, 144, 1, 0, 0, 0, 0, 78, 0, 0, 0, 0, 0, 0, 0, 0, 0, 0, 0, 0, 0, 0,
    0, 0, 0] :: (a10.bal.queue.tail) ∧ (∀ r ∈ ((balAgent
    { a10 with bal := { a10.bal with queue := (a10.bal.queue.tail) } }).bal.round).toList, r.serve ≠ frServe (List.drop 1 [6, 8, 0, 0,
    0, 0, 0, 0, 0, 144, 1, 0, 0, 0, 0, 78, 0, 0, 0, 0, 0, 0, 0, 0, 0, 0, 0, 0, 0, 0, 0, 0, 0])) ∧ balMember (balAgent
    { a10 with bal := { a10.bal with queue := (a10.bal.queue.tail) } }) = true ∧ nth [6, 8, 0, 0, 0, 0, 0, 0, 0, 144, 1, 0, 0, 0, 0, 78,
    0, 0, 0, 0, 0, 0, 0, 0, 0, 0, 0, 0, 0, 0, 0, 0, 0] 0 ≠ balPos (balAgent
    { a10 with bal := { a10.bal with queue := (a10.bal.queue.tail) } }) ∧ (balAgent
    { a10 with bal := { a10.bal with queue := (a10.bal.queue.tail) } }).time.step < frServe (List.drop 1 [6, 8, 0, 0, 0, 0, 0, 0, 0,
    144, 1, 0, 0, 0, 0, 78, 0, 0, 0, 0, 0, 0, 0, 0, 0, 0, 0, 0, 0, 0, 0, 0, 0]) ∧ frServe (List.drop 1 [6, 8, 0, 0, 0, 0, 0, 0, 0, 144,
    1, 0, 0, 0, 0, 78, 0, 0, 0, 0, 0, 0, 0, 0, 0, 0, 0, 0, 0, 0, 0, 0, 0]) < 2 ^ 48 ∧ waitingMsgs (balAgent
    { a10 with bal := { a10.bal with queue := (a10.bal.queue.tail) } }) < 256) ∧
  (compOn a1 5 = true ∧ ((balFire (balAgent a1)).bal.round = none ∨ ∃ r ∈ ((balFire (balAgent a1)).bal.round).toList, (r.begun = false ∨
    r.decided = true))) := by decide +kernel
theorem witness_RoundsStageTheFloorFirst_3 :
  (compOn a4 5 = true ∧ (balFire (balAgent a4)).bal.round = some x1 ∧ x1.begun = true ∧ x1.decided = false ∧ viewComplete x1 = false ∧
    inTime x1 (balFire (balAgent a4)) = true) ∧
  (compOn a14 5 = true ∧ (balFire (balAgent a14)).bal.round = some x2 ∧ x2.begun = true ∧ x2.decided = false ∧ viewComplete x2 = false ∧
    inTime x2 (balFire (balAgent a14)) = false) ∧
  (compOn a17 5 = true ∧ (balFire (balAgent a17)).bal.round = some x3 ∧ x3.begun = true ∧ x3.decided = false ∧ viewComplete x3 = true ∧
    8 * x3.budget < List.foldl (fun m i => m + balFloor x3 i) 0 regions64 ∧ waitingMsgs (balFire (balAgent a17)) < 256) := by decide +kernel
theorem witness_RoundsStageTheFloorFirst_4 :
  (compOn a23 5 = true ∧ (balFire (balAgent a23)).bal.round = some x4 ∧ x4.begun = true ∧ x4.decided = false ∧ viewComplete x4 = true ∧
    List.foldl (fun m i => m + balFloor x4 i) 0 regions64 ≤ 8 * x4.budget ∧ x4.res = 0 ∧ x4.fired = true ∧ inTime x4 (balFire (balAgent
    a23)) = true ∧ (aFind (balFire (balAgent a23)).pxe.run 2).isSome = true ∧ slotSt (balFire (balAgent a23)) 2 = 2) ∧
  (compOn a15 5 = true ∧ (balFire (balAgent a15)).bal.round = some x5 ∧ x5.begun = true ∧ x5.decided = false ∧ viewComplete x5 = true ∧
    List.foldl (fun m i => m + balFloor x5 i) 0 regions64 ≤ 8 * x5.budget ∧ x5.res = 1 ∧ inTime x5 (balFire (balAgent a15)) = true) := by decide +kernel
theorem witness_RoundsStageTheFloorFirst_5 :
  (compOn a19 5 = true ∧ (balFire (balAgent a19)).bal.round = some x6 ∧ x6.begun = true ∧ x6.decided = false ∧ viewComplete x6 = true ∧
    List.foldl (fun m i => m + balFloor x6 i) 0 regions64 ≤ 8 * x6.budget ∧ x6.res = 2 ∧ (balFire (balAgent a19)).bal.lastOk = true ∧
    inTime x6 (balFire (balAgent a19)) = true) ∧
  (compOn a18 5 = true ∧ (balFire (balAgent a18)).bal.round = some x6 ∧ x6.begun = true ∧ x6.decided = false ∧ viewComplete x6 = true ∧
    List.foldl (fun m i => m + balFloor x6 i) 0 regions64 ≤ 8 * x6.budget ∧ x6.res = 2 ∧ (balFire (balAgent a18)).bal.lastOk = false) := by decide +kernel
theorem witness_RoundsStageTheFloorFirst_6 :
  (compOn a16 5 = true ∧ (balFire (balAgent a16)).bal.round = some x5 ∧ x5.begun = true ∧ x5.decided = false ∧ viewComplete x5 = true ∧
    List.foldl (fun m i => m + balFloor x5 i) 0 regions64 ≤ 8 * x5.budget ∧ (x5.res = 1 ∨ x5.res = 2) ∧ inTime x5 (balFire (balAgent
    a16)) = false) := by decide +kernel
end RoundsStageTheFloorFirst
namespace SidebandRecordsAreJudgedInOrder
def s0 : State := R
def a0 : State := advance 0 s0
def s1 : State := key
def a1 : State := advance 0 s1
def s2 : State := at_ 600 key
def a2 : State := advance 0 s2
def s3 : State := bl (fun x => { x with accepted := [(16 * 3 + 15, 50)] }) key
def a3 : State := advance 0 s3
def s4 : State := bl (fun x => { x with ended := [15] }) R
def a4 : State := advance 0 s4
def s5 : State := w [(BAL.TXCNT_LO.COUNTER 15, 2^32-1), (BAL.TXCNT_HI.COUNTER 15, 2^32-1)] R
def a5 : State := advance 0 s5
theorem witness_SidebandRecordsAreJudgedInOrder_1 :
  (15 < 16 ∧ (Instr.sidebandRecordReceived 0 15 [1, 3, 0, 0, 0, 0, 0, 0, 7, 0, 0, 0, 0, 0, 0, 0] (List.replicate 32 0) true).wf = true ∧
    keyLive a0 (nth [1, 3, 0, 0, 0, 0, 0, 0, 7, 0, 0, 0, 0, 0, 0, 0] 2 / 64) (nth [1, 3, 0, 0, 0, 0, 0, 0, 7, 0, 0, 0, 0, 0, 0, 0] 1) =
    false) ∧
  (15 < 16 ∧ (Instr.sidebandRecordReceived 0 15 [1, 3, 0, 0, 0, 0, 0, 0, 7, 0, 0, 0, 0, 0, 0, 0] (List.replicate 32 0) false).wf = true
    ∧ keyLive a1 (nth [1, 3, 0, 0, 0, 0, 0, 0, 7, 0, 0, 0, 0, 0, 0, 0] 2 / 64) (nth [1, 3, 0, 0, 0, 0, 0, 0, 7, 0, 0, 0, 0, 0, 0, 0] 1)
    = true ∧ false = false) ∧
  (15 < 16 ∧ (Instr.sidebandRecordReceived 0 15 [1, 3, 0, 0, 0, 0, 0, 0, 7, 0, 0, 0, 0, 0, 0, 0] (List.replicate 32 0) true).wf = true ∧
    keyLive a3 (nth [1, 3, 0, 0, 0, 0, 0, 0, 7, 0, 0, 0, 0, 0, 0, 0] 2 / 64) (nth [1, 3, 0, 0, 0, 0, 0, 0, 7, 0, 0, 0, 0, 0, 0, 0] 1) =
    true ∧ true = true ∧ (∃ c ∈ (aFind a3.bal.accepted (4096 * (nth [1, 3, 0, 0, 0, 0, 0, 0, 7, 0, 0, 0, 0, 0, 0, 0] 2 / 64) + 16 * nth
    [1, 3, 0, 0, 0, 0, 0, 0, 7, 0, 0, 0, 0, 0, 0, 0] 1 + 15)).toList, ofLE (List.drop 8 [1, 3, 0, 0, 0, 0, 0, 0, 7, 0, 0, 0, 0, 0, 0,
    0]) ≤ c)) ∧
  (15 < 16 ∧ (Instr.sidebandRecordReceived 0 15 [2, 3, 6, 0, 0, 0, 16, 0, 77, 0, 0, 0, 0, 0, 0, 0] (List.replicate 32 0) true).wf = true
    ∧ keyLive a1 (nth [2, 3, 6, 0, 0, 0, 16, 0, 77, 0, 0, 0, 0, 0, 0, 0] 2 / 64) (nth [2, 3, 6, 0, 0, 0, 16, 0, 77, 0, 0, 0, 0, 0, 0, 0]
    1) = true ∧ true = true ∧ (∀ c ∈ (aFind a1.bal.accepted (4096 * (nth [2, 3, 6, 0, 0, 0, 16, 0, 77, 0, 0, 0, 0, 0, 0, 0] 2 / 64) + 16
    * nth [2, 3, 6, 0, 0, 0, 16, 0, 77, 0, 0, 0, 0, 0, 0, 0] 1 + 15)).toList, c < ofLE (List.drop 8 [2, 3, 6, 0, 0, 0, 16, 0, 77, 0, 0,
    0, 0, 0, 0, 0])) ∧ reservedZero [2, 3, 6, 0, 0, 0, 16, 0, 77, 0, 0, 0, 0, 0, 0, 0] (List.replicate 32 0) = false) ∧
  (15 < 16 ∧ (Instr.sidebandRecordReceived 0 15 [1, 3, 0, 0, 0, 0, 0, 0, 7, 0, 0, 0, 0, 0, 0, 0] (List.replicate 32 0) true).wf = true ∧
    keyLive a1 (nth [1, 3, 0, 0, 0, 0, 0, 0, 7, 0, 0, 0, 0, 0, 0, 0] 2 / 64) (nth [1, 3, 0, 0, 0, 0, 0, 0, 7, 0, 0, 0, 0, 0, 0, 0] 1) =
    true ∧ true = true ∧ (∀ c ∈ (aFind a1.bal.accepted (4096 * (nth [1, 3, 0, 0, 0, 0, 0, 0, 7, 0, 0, 0, 0, 0, 0, 0] 2 / 64) + 16 * nth
    [1, 3, 0, 0, 0, 0, 0, 0, 7, 0, 0, 0, 0, 0, 0, 0] 1 + 15)).toList, c < ofLE (List.drop 8 [1, 3, 0, 0, 0, 0, 0, 0, 7, 0, 0, 0, 0, 0,
    0, 0])) ∧ reservedZero [1, 3, 0, 0, 0, 0, 0, 0, 7, 0, 0, 0, 0, 0, 0, 0] (List.replicate 32 0) = true) := by decide +kernel
theorem witness_SidebandRecordsAreJudgedInOrder_2 :
  (15 < 16 ∧ txCount a5 15 = 2 ^ 64 - 1 ∧ a5.bal.ended.contains 15 = false ∧ waitingMsgs a5 < 256) ∧
  (15 < 16 ∧ a4.bal.ended.contains 15 = true) ∧
  (15 < 16 ∧ 1 < 2 ∧ (aFind a2.bal.prev 1).isSome = true ∧ aGet 0 a2.bal.prevUntil 1 ≤ a2.time.ticks) ∧
  (15 < 16 ∧ 1 < 2 ∧ a1.time.ticks < aGet 0 a1.bal.prevUntil 1) := by decide +kernel
end SidebandRecordsAreJudgedInOrder

end Balance

namespace Rest

def en (m n : Nat) (s : State) : State := sa (fun x => { x with run1 := n, run2 := n, run4 := n }) (w [(STA.REST_CTRL.REST_EN, m), (STA.LTR.LTR_NS, 100000000), (GLB.BOUNDARY_STATUS.LOCAL_BOUNDARIES, 1)] s)
def rs (k : Nat) (s : State) : State := w [(STA.REST_STATUS.STATE, k)] s
def feat (s : State) : State := sn (fun x => { x with feats := (List.range 8).map (fun l => (0xC06 + 32 * l, 1)) }) s
def wake (f n : Nat) : State := sa (fun x => { x with exitOf := f, exitAt := n, goodAt := some 0 }) (rs 5 (en 0 0 up))
def late (s : State) : State := at_ 500000000 s
def rr : State := w [(FW.CORE_STATUS.STATE 0, crRunning), (FW.CORE_STATUS.STATE 1, crRunning), (FW.CORE_STATUS.STATE 2, crRunning), (FW.CORE_STATUS.STATE 3, crRunning)] (running R)
def wd (s : State) : State := w [(STA.WDT.RUNNING, 1)] (fwm (fun x => { x with wdtAt := some 5 }) s)
def boot : State := w [(FW.STATUS.RUN_STATE, 0), (FW.CORE_STATUS.STATE 0, crLoading)] R
def im (n : Nat) : Image := ⟨[], n⟩
def at1 (s : State) : State := w [(FW.HOST_STATUS.HOST_STATE, 1)] s
def ab : State := w [(FW.HOST_STATUS.HOST_STATE, 2), (FW.GENERATION.GENERATION, 0x10005)] (fwm (fun x => { x with absentAt := 700 }) rr)
def entry (n : Nat) (s : State) : State := fwm (fun x => { x with logNext := n, mirrorNext := n - 3, logFirst := false }) s
def mir (s : State) : State := w [(FW.LOG_CTRL.MIRROR_EN, 1), (FW.LOG_MIRROR_LO.ADDR, 65536)] s
namespace RestStatesAreEnteredAndLeft
def s0 : State := R
def a0 : State := advance 0 s0
def s3 : State := en 3 100000 up
def a3 : State := advance 0 s3
def s4 : State := en 7 10000000 up
def a4 : State := advance 0 s4
def s5 : State := en 15 10000000 up
def a5 : State := advance 0 s5
def s6 : State := rs 1 (en 15 1 up)
def a6 : State := advance 0 s6
def s10 : State := feat (sa (fun x => { x with sr := 1 }) (rs 4 (en 15 1 up)))
def a10 : State := advance 0 s10
def s12 : State := wake 4 3
def a12 : State := advance 0 s12
def s16 : State := rs 1 (en 0 0 up)
def a16 : State := advance 0 s16
def s24 : State := at_ 100000 (sa (fun x => { x with sr := 1 }) (rs 2 (en 15 1 up)))
def a24 : State := advance 0 s24
theorem witness_RestStatesAreEnteredAndLeft_1 :
  (restState a3 ≠ 5 ∧ atWindowClose a3 = true ∧ restTarget a3 = some 2 ∧ 2 ≤ 2) ∧
  (restState a4 ≠ 5 ∧ atWindowClose a4 = true ∧ restTarget a4 = some 3) ∧
  (restState a5 ≠ 5 ∧ atWindowClose a5 = true ∧ restTarget a5 = some 4) ∧
  (restState a0 ≠ 5 ∧ atWindowClose a0 = true ∧ restTarget a0 = none) ∧
  ((restState a12 = 5 ∨ atWindowClose a12 = false)) ∧
  (seqState a0 ≠ sqUp) ∧
  (wakeCause a16 = true) ∧
  (mayWrite a6 (BitVec.toNat (0x01#8)) 655372 = true ∧ restState a6 ≠ 0 ∧ restState a6 ≠ 5) ∧
  (wakeCause a0 = false) ∧
  (mayWrite a0 (BitVec.toNat (0x01#8)) 655372 = true ∧ (restState a0 = 0 ∨ restState a0 = 5)) ∧
  (exitReady a12 = true ∧ a12.upd.resetDue = none) := by decide +kernel
theorem witness_RestStatesAreEnteredAndLeft_2 :
  (exitReady a0 = false) ∧
  (a10.sta.sr = 1 ∧ restState a10 ≠ 5 ∧ srLayers a10 = 255) ∧
  (a0.sta.sr ≠ 1) ∧
  (a24.sta.sr = 1 ∧ a24.sta.srAt + ms 1 ≤ a24.time.ticks ∧ srLayers a24 ≠ 255 ∧ waitingMsgs a24 < 256) ∧
  ((a0.time.ticks < a0.sta.srAt + ms 1 ∨ srLayers a0 = 255)) := by decide +kernel
end RestStatesAreEnteredAndLeft
namespace SafeStateLowersTheModule
def s0 : State := R
def a0 : State := advance 0 s0
def s2 : State := sa (fun x => { x with safeDue := 3 }) up
def a2 : State := advance 0 s2
theorem witness_SafeStateLowersTheModule :
  (mayWrite a0 (BitVec.toNat (0x01#8)) 655372 = true ∧ safeOn a0 = false ∧ a0.sta.safeDue = 0) ∧
  (mayWrite a2 (BitVec.toNat (0x01#8)) 655372 = true ∧ (safeOn a2 = true ∨ a2.sta.safeDue ≠ 0)) ∧
  (a0.sta.safeDue = 0) ∧
  (a2.sta.safeDue ≠ 0 ∧ safeOn a2 = false ∧ waitingMsgs a2 < 256) := by decide +kernel
end SafeStateLowersTheModule
namespace ResetsKeepWhatTheyMust
def s0 : State := R
def a0 : State := advance 0 s0
def s3 : State := w [(UPD.STATUS.STATE, 4)] up
def a3 : State := advance 0 s3
def s4 : State := rs 2 up
def a4 : State := advance 0 s4
def s5 : State := ph (fun x => { x with inReset := true, resetN := false }) R
def a5 : State := advance 0 s5
def s8 : State := { R with sec := { R.sec with pufDue := false } }
def a8 : State := advance 0 s8
theorem witness_ResetsKeepWhatTheyMust_1 :
  (updState a0 ≠ updGap ∧ atRest a0 = false ∧ a0.landing = []) ∧
  (updState a0 ≠ updGap ∧ atRest a0 = false ∧ a0.landing = [] ∧ BitVec.toNat (0x00004ab5#32) % 65536 = 19125) ∧
  (updState a3 = updGap) ∧
  (updState a4 ≠ updGap ∧ atRest a4 = true) ∧
  (mayWrite a0 (BitVec.toNat (0x01#8)) 655392 = true ∧ BitVec.toNat (0x00000007#32) % 65536 ≠ 19125) ∧
  (a0.phc.resetN = true) ∧
  (a5.phc.resetN = false) ∧
  (a5.landing = [] ∧ a5.phc.resetN = false) ∧
  (a0.landing = []) ∧
  (9 < 2 ^ 32 ∧ (List.replicate 96 7).length = 96 ∧ ((List.replicate 96 7).all fun b => decide (b < 256)) = true ∧ a0.sec.pufDue = true) := by decide +kernel
theorem witness_ResetsKeepWhatTheyMust_2 :
  (9 < 2 ^ 32 ∧ (List.replicate 96 7).length = 96 ∧ ((List.replicate 96 7).all fun b => decide (b < 256)) = true ∧ a0.sec.pufDue = true
    ∧ waitingMsgs a0 < 256) ∧
  (9 < 2 ^ 32 ∧ (List.replicate 96 7).length = 96 ∧ ((List.replicate 96 7).all fun b => decide (b < 256)) = true ∧ a8.sec.pufDue =
    false) := by decide +kernel
end ResetsKeepWhatTheyMust
namespace FailuresRestartTheFirmware
def s0 : State := R
def a0 : State := advance 0 s0
def s1 : State := rr
def a1 : State := advance 0 s1
def s2 : State := late rr
def a2 : State := advance 0 s2
def s3 : State := wd (late rr)
def a3 : State := advance 0 s3
def s4 : State := w [(FW.STATUS.LIMIT_HIT, 1)] (wd (late rr))
def a4 : State := advance 0 s4
def s6 : State := fwm (fun x => { x with limitDue := true }) rr
def a6 : State := advance 0 s6
theorem witness_FailuresRestartTheFirmware_1 :
  (updState a1 ≠ updTrial ∧ fwRuns a1 = true ∧ BitVec.toNat (0x00003c96#32) % 65536 = 15510) ∧
  (updState a0 ≠ updTrial ∧ (fwRuns a0 = false ∨ BitVec.toNat (0x00003c96#32) % 65536 ≠ 15510)) ∧
  (updState a0 ≠ updTrial) ∧
  (updState a0 ≠ updTrial ∧ wdtOut a0 = false) ∧
  (updState a4 ≠ updTrial ∧ noRestart a4 = true ∧ wdtOut a4 = true) ∧
  (updState a3 ≠ updTrial ∧ noRestart a3 = false ∧ waitingMsgs a3 < 256 ∧ wdtOut a3 = true) ∧
  (updState a2 ≠ updTrial ∧ noRestart a2 = false ∧ waitingMsgs a2 < 256 ∧ 1 < 8 ∧ overdue a2 1 = true ∧ compOn a2 0 = true ∧ 1 ≠ 0) := by decide +kernel
theorem witness_FailuresRestartTheFirmware_2 :
  (updState a1 ≠ updTrial ∧ noRestart a1 = false ∧ waitingMsgs a1 < 256 ∧ 0 < 8 ∧ 4294967295 < 2 ^ 32 ∧ compUp a1 0 = true ∧ mpuGrants
    a1 0 4294967295 true true = false) ∧
  (updState a1 ≠ updTrial ∧ noRestart a1 = false ∧ waitingMsgs a1 < 256 ∧ 0 < 8 ∧ 4294967295 < 2 ^ 32 ∧ compUp a1 0 = true) ∧
  (updState a1 ≠ updTrial ∧ noRestart a1 = false ∧ waitingMsgs a1 < 256 ∧ 0 < 4 ∧ 4294967295 < 2 ^ 32 ∧ fwRuns a1 = true ∧ coreState a1
    0 = crRunning) ∧
  (updState a0 ≠ updTrial ∧ 0 < 8 ∧ overdue a0 0 = false) := by decide +kernel
theorem witness_FailuresRestartTheFirmware_3 :
  (updState a0 ≠ updTrial ∧ 0 < 8 ∧ 4294967295 < 2 ^ 32 ∧ (compUp a0 0 = false ∨ mpuGrants a0 0 4294967295 true true = true)) ∧
  (updState a0 ≠ updTrial ∧ 0 < 8 ∧ 4294967295 < 2 ^ 32 ∧ compUp a0 0 = false) ∧
  (updState a6 ≠ updTrial ∧ a6.fw.limitDue = true ∧ safeOn a6 = false ∧ waitingMsgs a6 < 256) ∧
  (updState a0 ≠ updTrial ∧ a0.fw.limitDue = false) := by decide +kernel
end FailuresRestartTheFirmware
namespace CoresAndComponentsStart
def s0 : State := R
def a0 : State := advance 0 s0
def s4 : State := rr
def a4 : State := advance 0 s4
def s5 : State := w [(FW.CORE_STATUS.STATE 1, crLoading), (FW.CORE_STATUS.STATE 3, crLoading)] rr
def a5 : State := advance 0 s5
def s6 : State := w [(FW.COMP_STATUS.STATE 7, coRestarting)] rr
def a6 : State := advance 0 s6
theorem witness_CoresAndComponentsStart_1 :
  ((Instr.mainCoreStart 0 [(0, (List.replicate 520 0)), (1, (List.replicate 520 0))] true true 255).wf = true ∧ runState a0 = runBoot ∧
    coreState a0 0 ≠ crRunning ∧ coreState a0 0 ≠ crFailed ∧ a0.phc.resetN = true ∧ (bootBank true true 255 (restoreStaged (findImages
    [(0, (List.replicate 520 0)), (1, (List.replicate 520 0))] a0))).2 = true ∧ a0.fw.absentOwed = false) ∧
  ((Instr.mainCoreStart 0 [(0, (List.replicate 520 0)), (1, (List.replicate 520 0))] false true 255).wf = true ∧ runState a0 = runBoot ∧
    coreState a0 0 ≠ crRunning ∧ coreState a0 0 ≠ crFailed ∧ a0.phc.resetN = true ∧ (bootBank false true 255 (restoreStaged (findImages
    [(0, (List.replicate 520 0)), (1, (List.replicate 520 0))] a0))).2 = false) ∧
  ((Instr.mainCoreStart 0 [(0, (List.replicate 520 0)), (1, (List.replicate 520 0))] true true 255).wf = true ∧ (runState a4 ≠ runBoot ∨
    coreState a4 0 = crRunning ∨ coreState a4 0 = crFailed ∨ a4.phc.resetN = false)) ∧
  (1 ≤ 1 ∧ 1 < 4 ∧ 4294967295 < 2 ^ 32 ∧ coreState a5 1 = crLoading ∧ fwRuns a5 = true) := by decide +kernel
theorem witness_CoresAndComponentsStart_2 :
  (1 ≤ 1 ∧ 1 < 4 ∧ 4294967295 < 2 ^ 32 ∧ coreState a5 1 = crLoading ∧ fwRuns a5 = true ∧ updState a5 ≠ updTrial ∧ waitingMsgs a5 < 256) ∧
  (1 ≤ 1 ∧ 1 < 4 ∧ 4294967295 < 2 ^ 32 ∧ (coreState a0 1 ≠ crLoading ∨ fwRuns a0 = false)) ∧
  (7 < 8 ∧ compOn a4 7 = true ∧ getB a4 FLC.INJECT.ARM = false) ∧
  (7 < 8 ∧ compOn a0 7 = false) ∧
  (7 < 8 ∧ compState a6 7 = coRestarting ∧ coreState a6 (coreOf 7) = crRunning ∧ fwRuns a6 = true ∧ a6.evr.flush ≠ 5) ∧
  (7 < 8 ∧ (compState a0 7 ≠ coRestarting ∨ coreState a0 (coreOf 7) ≠ crRunning ∨ fwRuns a0 = false ∨ a0.evr.flush = 5)) := by decide +kernel
end CoresAndComponentsStart
namespace HostAbsenceIsNoticed
def s0 : State := R
def a0 : State := advance 0 s0
def s2 : State := at1 rr
def a2 : State := advance 0 s2
def s3 : State := late (at1 rr)
def a3 : State := advance 0 s3
def s7 : State := ab
def a7 : State := advance 0 s7
theorem witness_HostAbsenceIsNoticed :
  ((0x40#8) ≠ 1 ∧ mayWrite a0 (BitVec.toNat (0x40#8)) 720908 = true) ∧
  (hostState a3 = hostAttached ∧ a3.fw.aliveAt + ms (getC a3 FW.HOST_CTRL.HOST_TIMEOUT 200 5000) ≤ a3.time.ticks ∧ a3.time.sys < 2 ^ 64) ∧
  ((hostState a0 ≠ hostAttached ∨ a0.time.ticks < a0.fw.aliveAt + ms (getC a0 FW.HOST_CTRL.HOST_TIMEOUT 200 5000))) ∧
  (bit (BitVec.toNat (0x80000005#32)) 31 = true ∧ BitVec.toNat (0x80000005#32) % 65536 ≠ getF a0 FW.GENERATION.GENERATION % 65536) ∧
  (bit (BitVec.toNat (0x80000000#32)) 31 = true ∧ BitVec.toNat (0x80000000#32) % 65536 = getF a0 FW.GENERATION.GENERATION % 65536 ∧
    hostState a0 = hostDetached) ∧
  (bit (BitVec.toNat (0x80000000#32)) 31 = true ∧ BitVec.toNat (0x80000000#32) % 65536 = getF a2 FW.GENERATION.GENERATION % 65536 ∧
    hostState a2 = hostAttached) ∧
  (bit (BitVec.toNat (0x80000005#32)) 31 = true ∧ BitVec.toNat (0x80000005#32) % 65536 = getF a7 FW.GENERATION.GENERATION % 65536 ∧
    hostState a7 = hostAbsentSt) ∧
  (mayWrite a0 (BitVec.toNat (0x40#8)) 720916 = true ∧ ((0x40#8) ≠ 1 ∨ bit (BitVec.toNat (0x80000000#32)) 31 = false)) := by decide +kernel
end HostAbsenceIsNoticed
namespace LogEntriesAreWrittenAndMirrored
def s0 : State := R
def a0 : State := advance 0 s0
def s1 : State := rr
def a1 : State := advance 0 s1
def s5 : State := w [(FW.LOG_CTRL.LOG_RATE, 1)] (fwm (fun x => { x with logAt := [(7, Z 100)] }) rr)
def a5 : State := advance 0 s5
def s6 : State := mir (at1 (entry 7 rr))
def a6 : State := advance 0 s6
theorem witness_LogEntriesAreWrittenAndMirrored :
  ((Instr.logEntry 0 7 0 0 9 [1, 2, 3, 4]).wf = true ∧ compOn a1 7 = true ∧ logWanted a1 7 0 0 = true ∧ (logRecent a1 7).length < max 1
    (getF a1 FW.LOG_CTRL.LOG_RATE)) ∧
  ((Instr.logEntry 0 7 0 0 9 [1, 2, 3, 4]).wf = true ∧ compOn a5 7 = true ∧ logWanted a5 7 0 0 = true ∧ max 1 (getF a5
    FW.LOG_CTRL.LOG_RATE) ≤ (logRecent a5 7).length) ∧
  ((Instr.logEntry 0 7 0 0 9 [1, 2, 3, 4]).wf = true ∧ (compOn a0 7 = false ∨ logWanted a0 7 0 0 = false ∨ confOn a0 = true ∧ 0 = 1)) ∧
  (mirrorOn a6 = true ∧ compOn a6 7 = true ∧ a6.fw.mirrorNext < a6.fw.logNext ∧ sramCheck a6 (logWord (max a6.fw.mirrorNext
    (a6.fw.logNext - 2048))) 8 = 0) ∧
  (mirrorOn a6 = true ∧ compOn a6 7 = true ∧ a6.fw.mirrorNext < a6.fw.logNext ∧ sramCheck a6 (logWord (max a6.fw.mirrorNext
    (a6.fw.logNext - 2048))) 8 = 0 ∧ waitingMsgs a6 < 256) ∧
  ((mirrorOn a0 = false ∨ compOn a0 7 = false ∨ a0.fw.logNext ≤ a0.fw.mirrorNext)) := by decide +kernel
end LogEntriesAreWrittenAndMirrored

end Rest

namespace Rings

def pv : PendVal := ⟨5, 0, none, false⟩
def gate (s : State) : State := { w [(CMD.GATE_CTRL.OPEN, 1), (CMD.GATE_STEP_LO.STEP, 77), (CMD.GATE_STEP_HI.ARMED, 1)] s with held := [(LGV.CAP.CAP.key, pv)], pend := [(GLB.PROBE.VALUE.key, pv)] }
def capPkt : OutPkt := { out 5 3 0x0C 0 1 with body := [200, 1] }
def polPkt : OutPkt := { out 6 3 0x3A 0 1 with body := [0x21, 2, 3, 0, 10, 0, 0, 0] }
def regPkt : OutPkt := { out 7 3 0x01 0 2 with body := [1, 0, 0, 0, 0x40, 0, 0, 0, 9, 0, 0, 0, 255, 0, 0, 0], step := some 90 }
def actPkt : OutPkt := { out 8 3 0x11 0 1 with act := some .planStop }
def blkPkt : OutPkt := { out 9 3 0x10 2 0 with body := [0, 0, 0, 0, 3, 0, 0, 0, 1, 2, 3, 4, 5, 6, 7, 8, 0, 0, 0, 0] }
def capDone : OutPkt := { out 5 3 0x0C 4 1 with body := [200, 1], taken := [LGV.CAP.CAP.key], doneAt := some 12 }
def regDone (step done : Nat) (tk : List Nat) : OutPkt := { out 5 3 0x01 4 2 with body := [1, 0, 0, 0, 0x40, 0, 0, 0, 9, 0, 0, 0, 255, 0, 0, 0], step := some step, doneAt := some done, taken := tk }
def p1 : List Nat := packet 0 0 0 1 0 0 0 []
def full (m word sender : Nat) (s : State) : State := w [(MBX.DATA.WORD m, word), (MBX.STATUS.FULL m, 1), (MBX.STATUS.SENDER m, sender)] s
namespace RingsAreSetUpAndRung
def s0 : State := R
def a0 : State := advance 0 s0
def s1 : State := ring 3 p1 R
def a1 : State := advance 0 s1
def s3 : State := outs [out 5 3 0x11 1 1] (ring 3 p1 R)
def a3 : State := advance 0 s3
theorem witness_RingsAreSetUpAndRung_1 :
  (3 < 72 ∧ bit (BitVec.toNat (0x01070000#32)) 24 = true ∧ bit (BitVec.toNat (0x01070000#32)) 25 = false ∧ ringSt a1 3 ≠ ringDisabled) ∧
  (3 < 72 ∧ bit (BitVec.toNat (0x01070000#32)) 24 = true ∧ bit (BitVec.toNat (0x01070000#32)) 25 = false ∧ ringSt a0 3 = ringDisabled ∧
    setupReason (setF (setF a0 (CMD.RING_CFG.BASE 3) (bits (BitVec.toNat (0x01070000#32)) 0 13)) (CMD.RING_CFG.SIZE_LOG2 3) (bits
    (BitVec.toNat (0x01070000#32)) 16 4)) 3 = (setupReason (setF (setF a0 (CMD.RING_CFG.BASE 3) (bits (BitVec.toNat (0x01070000#32)) 0
    13)) (CMD.RING_CFG.SIZE_LOG2 3) (bits (BitVec.toNat (0x01070000#32)) 16 4)) 3)) ∧
  (3 < 72 ∧ bit (BitVec.toNat (0x00000000#32)) 24 = false ∧ bit (BitVec.toNat (0x00000000#32)) 25 = false ∧ ringSt a0 3 = ringDisabled) ∧
  (3 < 72 ∧ bit (BitVec.toNat (0x00000000#32)) 24 = false ∧ bit (BitVec.toNat (0x00000000#32)) 25 = false ∧ ringSt a1 3 ≠ ringDisabled ∧
    outOf a1 3 = []) ∧
  (3 < 72 ∧ bit (BitVec.toNat (0x00000000#32)) 24 = false ∧ bit (BitVec.toNat (0x00000000#32)) 25 = false ∧ ringSt a3 3 ≠ ringDisabled ∧
    outOf a3 3 ≠ []) := by decide +kernel
theorem witness_RingsAreSetUpAndRung_2 :
  (3 < 72 ∧ bit (BitVec.toNat (0x02000000#32)) 25 = true ∧ ringSt a1 3 ≠ ringDisabled) ∧
  (3 < 72 ∧ bit (BitVec.toNat (0x02000000#32)) 25 = true ∧ ringSt a0 3 = ringDisabled) ∧
  (3 < 72 ∧ (0x40#8) ≠ 1 ∧ mayWrite a0 (BitVec.toNat (0x40#8)) (790528 + 64 * 3) = true ∧ bit (BitVec.toNat (0x01070000#32)) 24 = true ∧
    bit (BitVec.toNat (0x01070000#32)) 25 = false) ∧
  (3 < 72 ∧ (0x40#8) ≠ 1 ∧ mayWrite a0 (BitVec.toNat (0x40#8)) (790528 + 64 * 3) = true ∧ bit (BitVec.toNat (0x00000000#32)) 24 = false
    ∧ bit (BitVec.toNat (0x00000000#32)) 25 = false) ∧
  (3 < 72 ∧ (0x40#8) ≠ 1 ∧ mayWrite a0 (BitVec.toNat (0x40#8)) (790528 + 64 * 3) = true ∧ bit (BitVec.toNat (0x02000000#32)) 25 = true) := by decide +kernel
theorem witness_RingsAreSetUpAndRung_3 :
  (3 < 72 ∧ mayWrite a1 (BitVec.toNat (0x01#8)) (790536 + 64 * 3) = true ∧ (mayRing a1 (BitVec.toNat (0x01#8)) 3 = true ∧ (ringSt a1 3 =
    ringActive ∨ ringSt a1 3 = ringWaiting) ∧ BitVec.toNat (0x01070000#32) % 4096 < ringSize a1 3)) ∧
  (3 < 72 ∧ mayWrite a0 (BitVec.toNat (0x01#8)) (790536 + 64 * 3) = true ∧ (¬(mayRing a0 (BitVec.toNat (0x01#8)) 3 = true ∧ (ringSt a0 3
    = ringActive ∨ ringSt a0 3 = ringWaiting) ∧ BitVec.toNat (0x01070000#32) % 4096 < ringSize a0 3))) ∧
  (3 < 72 ∧ mayWrite a0 (BitVec.toNat (0x02#8)) (790536 + 64 * 3) = false) ∧
  (3 < 72 ∧ mayWrite a0 (BitVec.toNat (0x01#8)) (790544 + 64 * 3) = true ∧ mayCq a0 (BitVec.toNat (0x01#8)) 3 = true) ∧
  (3 < 72 ∧ mayWrite a0 (BitVec.toNat (0x40#8)) (790544 + 64 * 3) = true ∧ mayCq a0 (BitVec.toNat (0x40#8)) 3 = false) := by decide +kernel
end RingsAreSetUpAndRung
namespace GateReleasesTogether
def s0 : State := R
def a0 : State := advance 0 s0
def s1 : State := gate R
def a1 : State := advance 0 s1
def s2 : State := outs [capPkt] (on 3 p1)
def a2 : State := advance 0 s2
def s6 : State := outs [blkPkt] (on 3 p1)
def a6 : State := advance 0 s6
def s8 : State := outs [capDone] (on 3 p1)
def a8 : State := advance 0 s8
def x0 : OutPkt := { id := 5, ring := 3, seq := 9, irq := false, op := 12, tag := 1, step := none, st := 0, writes := [], act := none, items := [], taken := [], doneAt := none, status := 0, applied := 0, detail := 0, body := [200, 1], data := [] }
def x1 : OutPkt := { id := 5, ring := 3, seq := 9, irq := false, op := 12, tag := 1, step := none, st := 4, writes := [], act := none, items := [], taken := [14680192], doneAt := some 12, status := 0, applied := 0, detail := 0, body := [200, 1], data := [] }
def x2 : OutPkt := { id := 9, ring := 3, seq := 9, irq := false, op := 16, tag := 0, step := none, st := 2, writes := [], act := none, items := [], taken := [], doneAt := none, status := 0, applied := 0, detail := 0, body := [0, 0, 0, 0, 3, 0, 0, 0, 1, 2, 3, 4, 5, 6, 7, 8, 0, 0, 0, 0], data := [] }
theorem witness_GateReleasesTogether_1 :
  (aSortedFrom none a0.landing = true ∧ aSortedFrom none a0.wrote = true ∧ aSortedFrom none a0.pend = true ∧ aSortedFrom none a0.frozen
    = true ∧ aSortedFrom none a0.held = true ∧ (a0.cmd.pkts.map (fun y => y.id)).Nodup ∧ (∀ y ∈ a0.cmd.pkts, y.id < a0.cmd.nextId)) ∧
  (aSortedFrom none a0.landing = true ∧ aSortedFrom none a0.wrote = true ∧ aSortedFrom none a0.pend = true ∧ aSortedFrom none a0.frozen
    = true ∧ aSortedFrom none a0.held = true ∧ (a0.cmd.pkts.map (fun y => y.id)).Nodup ∧ (∀ y ∈ a0.cmd.pkts, y.id < a0.cmd.nextId) ∧
    (0x01#8) ≠ 64 ∧ mayWrite a0 (BitVec.toNat (0x01#8)) 786464 = true) ∧
  (aSortedFrom none a1.landing = true ∧ aSortedFrom none a1.wrote = true ∧ aSortedFrom none a1.pend = true ∧ aSortedFrom none a1.frozen
    = true ∧ aSortedFrom none a1.held = true ∧ (a1.cmd.pkts.map (fun y => y.id)).Nodup ∧ (∀ y ∈ a1.cmd.pkts, y.id < a1.cmd.nextId) ∧
    getB a1 CMD.GATE_CTRL.OPEN = true) := by decide +kernel
theorem witness_GateReleasesTogether_2 :
  (aSortedFrom none a0.landing = true ∧ aSortedFrom none a0.wrote = true ∧ aSortedFrom none a0.pend = true ∧ aSortedFrom none a0.frozen
    = true ∧ aSortedFrom none a0.held = true ∧ (a0.cmd.pkts.map (fun y => y.id)).Nodup ∧ (∀ y ∈ a0.cmd.pkts, y.id < a0.cmd.nextId) ∧
    getB a0 CMD.GATE_CTRL.OPEN = false) ∧
  (aSortedFrom none a2.landing = true ∧ aSortedFrom none a2.wrote = true ∧ aSortedFrom none a2.pend = true ∧ aSortedFrom none a2.frozen
    = true ∧ aSortedFrom none a2.held = true ∧ (a2.cmd.pkts.map (fun y => y.id)).Nodup ∧ (∀ y ∈ a2.cmd.pkts, y.id < a2.cmd.nextId) ∧
    compOn a2 1 = true ∧ List.find? (fun x1 => x1.st == 0 && !tagClash a2 x1) a2.cmd.pkts = some x0) := by decide +kernel
theorem witness_GateReleasesTogether_3 :
  (aSortedFrom none a0.landing = true ∧ aSortedFrom none a0.wrote = true ∧ aSortedFrom none a0.pend = true ∧ aSortedFrom none a0.frozen
    = true ∧ aSortedFrom none a0.held = true ∧ (a0.cmd.pkts.map (fun y => y.id)).Nodup ∧ (∀ y ∈ a0.cmd.pkts, y.id < a0.cmd.nextId) ∧
    (compOn a0 1 = false ∨ List.find? (fun x => x.st == 0 && !tagClash a0 x) a0.cmd.pkts = none)) ∧
  (aSortedFrom none a8.landing = true ∧ aSortedFrom none a8.wrote = true ∧ aSortedFrom none a8.pend = true ∧ aSortedFrom none a8.frozen
    = true ∧ aSortedFrom none a8.held = true ∧ (a8.cmd.pkts.map (fun y => y.id)).Nodup ∧ (∀ y ∈ a8.cmd.pkts, y.id < a8.cmd.nextId) ∧
    compOn a8 1 = true ∧ nextDone a8 = some x1) := by decide +kernel
theorem witness_GateReleasesTogether_4 :
  (aSortedFrom none a0.landing = true ∧ aSortedFrom none a0.wrote = true ∧ aSortedFrom none a0.pend = true ∧ aSortedFrom none a0.frozen
    = true ∧ aSortedFrom none a0.held = true ∧ (a0.cmd.pkts.map (fun y => y.id)).Nodup ∧ (∀ y ∈ a0.cmd.pkts, y.id < a0.cmd.nextId) ∧
    (compOn a0 1 = false ∨ nextDone a0 = none)) ∧
  (aSortedFrom none a0.landing = true ∧ aSortedFrom none a0.wrote = true ∧ aSortedFrom none a0.pend = true ∧ aSortedFrom none a0.frozen
    = true ∧ aSortedFrom none a0.held = true ∧ (a0.cmd.pkts.map (fun y => y.id)).Nodup ∧ (∀ y ∈ a0.cmd.pkts, y.id < a0.cmd.nextId) ∧
    (Instr.blockFetchDone 0 3 [1, 2, 3] true).wf = true ∧ List.find? (fun x => x.ring == 3 && x.st == 2) a0.cmd.pkts = none) := by decide +kernel
theorem witness_GateReleasesTogether_5 :
  (aSortedFrom none a6.landing = true ∧ aSortedFrom none a6.wrote = true ∧ aSortedFrom none a6.pend = true ∧ aSortedFrom none a6.frozen
    = true ∧ aSortedFrom none a6.held = true ∧ (a6.cmd.pkts.map (fun y => y.id)).Nodup ∧ (∀ y ∈ a6.cmd.pkts, y.id < a6.cmd.nextId) ∧
    (Instr.blockFetchDone 0 3 [1, 2, 3] true).wf = true ∧ List.find? (fun x1 => x1.ring == 3 && x1.st == 2) a6.cmd.pkts = some x2 ∧ [1,
    2, 3].length = ofLE (List.take 2 (List.drop 4 x2.body))) ∧
  (aSortedFrom none a6.landing = true ∧ aSortedFrom none a6.wrote = true ∧ aSortedFrom none a6.pend = true ∧ aSortedFrom none a6.frozen
    = true ∧ aSortedFrom none a6.held = true ∧ (a6.cmd.pkts.map (fun y => y.id)).Nodup ∧ (∀ y ∈ a6.cmd.pkts, y.id < a6.cmd.nextId) ∧
    (Instr.blockFetchDone 0 3 [1, 2, 3, 4] true).wf = true ∧ List.find? (fun x1 => x1.ring == 3 && x1.st == 2) a6.cmd.pkts = some x2 ∧
    [1, 2, 3, 4].length ≠ ofLE (List.take 2 (List.drop 4 x2.body))) := by decide +kernel
theorem witness_GateReleasesTogether_6 :
  (aSortedFrom none a6.landing = true ∧ aSortedFrom none a6.wrote = true ∧ aSortedFrom none a6.pend = true ∧ aSortedFrom none a6.frozen
    = true ∧ aSortedFrom none a6.held = true ∧ (a6.cmd.pkts.map (fun y => y.id)).Nodup ∧ (∀ y ∈ a6.cmd.pkts, y.id < a6.cmd.nextId) ∧
    (Instr.blockFetchDone 0 3 [1, 2, 3] true).wf = true ∧ List.find? (fun x1 => x1.ring == 3 && x1.st == 2) a6.cmd.pkts = some x2 ∧
    waitingMsgs a6 < 256) := by decide +kernel
end GateReleasesTogether
namespace MailboxesCarryRequests
def s0 : State := R
def a0 : State := advance 0 s0
def s2 : State := running (full 0 0x01000005 1 R)
def a2 : State := advance 0 s2
def s3 : State := running (full 0 0x02000005 1 R)
def a3 : State := advance 0 s3
def s4 : State := running (full 8 0x03000005 2 R)
def a4 : State := advance 0 s4
def s5 : State := running (full 20 0x04000005 0x15 R)
def a5 : State := advance 0 s5
theorem witness_MailboxesCarryRequests_1 :
  (0 < 32 ∧ mayWrite a0 (BitVec.toNat (0x01#8)) (798724 + 16 * 0) = true ∧ mbxWriter a0 0 (BitVec.toNat (0x01#8)) = true) ∧
  (0 < 32 ∧ mayWrite a0 (BitVec.toNat (0x40#8)) (798724 + 16 * 0) = true ∧ mbxWriter a0 0 (BitVec.toNat (0x40#8)) = false) ∧
  (0 < 32 ∧ mayRead a0 (BitVec.toNat (0x01#8)) (798724 + 16 * 0) = true ∧ mbxMode a0 0 ≠ 0 ∧ BitVec.toNat (0x01#8) = mbxReceiver a0 0) ∧
  (0 < 32 ∧ mayRead a0 (BitVec.toNat (0x02#8)) (798724 + 16 * 0) = true ∧ (mbxMode a0 0 = 0 ∨ BitVec.toNat (0x02#8) ≠ mbxReceiver a0 0)) ∧
  (0 < 32 ∧ mbxRequest a0 0 = none) ∧
  (0 < 32 ∧ mbxRequest a2 0 = some 16777221 ∧ replyBox 0 = some 4 ∧ mbxWriter a2 4 64 = true ∧ 16777221 / 2 ^ 24 = 1) := by decide +kernel
theorem witness_MailboxesCarryRequests_2 :
  (0 < 32 ∧ mbxRequest a3 0 = some 33554437 ∧ replyBox 0 = some 4 ∧ mbxWriter a3 4 64 = true ∧ 33554437 / 2 ^ 24 = 2) ∧
  (8 < 32 ∧ mbxRequest a4 8 = some 50331653 ∧ replyBox 8 = some 9 ∧ mbxWriter a4 9 64 = true ∧ 50331653 / 2 ^ 24 = 3) ∧
  (20 < 32 ∧ mbxRequest a5 20 = some 67108869 ∧ replyBox 20 = some 20 ∧ mbxWriter a5 20 64 = true ∧ 67108869 / 2 ^ 24 ≠ 1 ∧ 67108869 / 2
    ^ 24 ≠ 2 ∧ 67108869 / 2 ^ 24 ≠ 3) ∧
  (0 < 32 ∧ mbxRequest a3 0 = some 33554437 ∧ replyBox 0 = some 4 ∧ 33554437 / 2 ^ 24 ≠ 1) := by decide +kernel
theorem witness_MailboxesCarryRequests_3 :
  (0 < 32 ∧ mbxRequest a2 0 = some 16777221 ∧ replyBox 0 = some 4 ∧ 16777221 / 2 ^ 24 ≠ 2) ∧
  (0 < 32 ∧ mbxRequest a2 0 = some 16777221 ∧ replyBox 0 = some 4 ∧ 16777221 / 2 ^ 24 ≠ 3) ∧
  (0 < 32 ∧ mbxRequest a2 0 = some 16777221 ∧ replyBox 0 = some 4 ∧ (16777221 / 2 ^ 24 = 1 ∨ 16777221 / 2 ^ 24 = 2 ∨ 16777221 / 2 ^ 24 =
    3)) := by decide +kernel
end MailboxesCarryRequests

end Rings

namespace Heads

def bad (v : Nat) (s : State) : State := { s with cmd := { s.cmd with ecc := [(3, v)] } }
def nop : List Nat := pk 0 0 []
def seqBad (s : State) : State := w [(CMD.RING_STATUS.SEQ_VALID 3, 1), (CMD.RING_EXPECT.SEQ 3, 9)] s
def item (o v m : Nat) : List Nat := toLE 4 o ++ toLE 4 v ++ toLE 4 m
def img (id svn : Nat) : Image := ⟨memPut [] 8 (toLE 4 id ++ toLE 2 svn), 600⟩
def staged (s : State) : State := upd (fun u => { u with staged := [0, 2], slots := [(0, img 5 1), (1, img 6 1), (2, img 7 1), (3, img 15 3), (5, img 17 4)] }) s
def trial (s : State) : State := w [(UPD.STATUS.STATE, 5)] (upd (fun u => { u with trial := true, acted := [0, 2] }) (staged s))
def act (t mask : Nat) : List Nat := pk 0x31 0 (toLE 8 t ++ toLE 2 mask)
def kx (s : State) : State := w [(SEC.STATUS.KX_READY, 1)] s
def kxPk : List Nat := packet 0x20 0 0 2 2 7 5 ([1, 9] ++ Z 6 ++ List.replicate 60 4)
def asg (x v n : Nat) : List Nat := pk 0x23 1 ([x, v, 0, 0] ++ toLE 4 n)
def clash (s : State) : State := outs [out 3 3 0x0C 1 1] { s with pend := [(LGV.CAP.CAP.key, ⟨1, 3, some none, false⟩)] }
namespace HeadPacketsAreChecked
def s0 : State := R
def a0 : State := advance 0 s0
def s2 : State := bad 2 (on 3 nop)
def a2 : State := advance 0 s2
def s4 : State := seqBad (on 3 nop)
def a4 : State := advance 0 s4
def s5 : State := on 3 (nop.set 20 5)
def a5 : State := advance 0 s5
def s6 : State := on 3 (packet 0 0 1 1 0 7 0 [])
def a6 : State := advance 0 s6
def s7 : State := on 3 (packet 0x55 0 0 1 0 7 0 [])
def a7 : State := advance 0 s7
def s8 : State := on 3 (packet 0 0 0 2 0 7 0 [])
def a8 : State := advance 0 s8
def s9 : State := on 3 (packet 9 0 0 1 0 7 0 [])
def a9 : State := advance 0 s9
theorem witness_HeadPacketsAreChecked_1 :
  (3 < 72 ∧ 5 < 2 ^ 256 ∧ (∀ x ∈ a0.cmd.pkts, x.ring = 3 → x.st ≠ 3) ∧ (ringTurn a0 3 = false ∨ (rowOf 0 0 3 true true 5) ≠ rowOf
    (headOp a0 3) 0 3 true true 5)) ∧
  (3 < 72 ∧ 5 < 2 ^ 256 ∧ (∀ x ∈ a2.cmd.pkts, x.ring = 3 → x.st ≠ 3) ∧ ringTurn a2 3 = true ∧ (rowOf 0 0 3 true true 5) = rowOf (headOp
    a2 3) 0 3 true true 5 ∧ (slotsCheck a2 3 (headLen a2 3)).1 = 2 ∧ waitingMsgs a2 < 256) ∧
  (3 < 72 ∧ 5 < 2 ^ 256 ∧ (∀ x ∈ a5.cmd.pkts, x.ring = 3 → x.st ≠ 3) ∧ ringTurn a5 3 = true ∧ (rowOf 0 0 3 true true 5) = rowOf (headOp
    a5 3) 0 3 true true 5 ∧ (slotsCheck a5 3 (headLen a5 3)).1 ≤ 1 ∧ (pktOf a5 3).crcOk = false ∧ waitingMsgs a5 < 256) := by decide +kernel
theorem witness_HeadPacketsAreChecked_2 :
  (3 < 72 ∧ 5 < 2 ^ 256 ∧ (∀ x ∈ a4.cmd.pkts, x.ring = 3 → x.st ≠ 3) ∧ ringTurn a4 3 = true ∧ (rowOf 0 0 3 true true 5) = rowOf (headOp
    a4 3) 0 3 true true 5 ∧ (slotsCheck a4 3 (headLen a4 3)).1 ≤ 1 ∧ (pktOf a4 3).crcOk = true ∧ (¬(getB a4 (CMD.RING_STATUS.SEQ_VALID
    3) = false ∨ (pktOf a4 3).seq = getF a4 (CMD.RING_EXPECT.SEQ 3)))) ∧
  (3 < 72 ∧ 5 < 2 ^ 256 ∧ (∀ x ∈ a6.cmd.pkts, x.ring = 3 → x.st ≠ 3) ∧ ringTurn a6 3 = true ∧ (rowOf 0 0 3 true true 5) = rowOf (headOp
    a6 3) 0 3 true true 5 ∧ ringTurn a6 3 = true ∧ (slotsCheck a6 3 (headLen a6 3)).1 ≤ 1 ∧ (pktOf a6 3).crcOk = true ∧ ((getB a6
    (CMD.RING_STATUS.SEQ_VALID 3) = false ∨ (pktOf a6 3).seq = getF a6 (CMD.RING_EXPECT.SEQ 3))) ∧ (pktOf a6 3).ctx ≠ ctxOf 3) := by decide +kernel
theorem witness_HeadPacketsAreChecked_3 :
  (3 < 72 ∧ 5 < 2 ^ 256 ∧ (∀ x ∈ a7.cmd.pkts, x.ring = 3 → x.st ≠ 3) ∧ ringTurn a7 3 = true ∧ (rowOf 0 0 3 true true 5) = rowOf (headOp
    a7 3) 0 3 true true 5 ∧ ringTurn a7 3 = true ∧ (slotsCheck a7 3 (headLen a7 3)).1 ≤ 1 ∧ (pktOf a7 3).crcOk = true ∧ ((getB a7
    (CMD.RING_STATUS.SEQ_VALID 3) = false ∨ (pktOf a7 3).seq = getF a7 (CMD.RING_EXPECT.SEQ 3))) ∧ (pktOf a7 3).ctx = ctxOf 3 ∧ (pktOf
    a7 3).op ∉ opcodes) ∧
  (3 < 72 ∧ 5 < 2 ^ 256 ∧ (∀ x ∈ a8.cmd.pkts, x.ring = 3 → x.st ≠ 3) ∧ ringTurn a8 3 = true ∧ (rowOf 0 0 3 true true 5) = rowOf (headOp
    a8 3) 0 3 true true 5 ∧ ringTurn a8 3 = true ∧ (slotsCheck a8 3 (headLen a8 3)).1 ≤ 1 ∧ (pktOf a8 3).crcOk = true ∧ ((getB a8
    (CMD.RING_STATUS.SEQ_VALID 3) = false ∨ (pktOf a8 3).seq = getF a8 (CMD.RING_EXPECT.SEQ 3))) ∧ (pktOf a8 3).ctx = ctxOf 3 ∧ (pktOf
    a8 3).op ∈ opcodes ∧ (pktOf a8 3).slots ≠ slotsNeeded (pktOf a8 3)) := by decide +kernel
theorem witness_HeadPacketsAreChecked_4 :
  (3 < 72 ∧ 5 < 2 ^ 256 ∧ (∀ x ∈ a9.cmd.pkts, x.ring = 3 → x.st ≠ 3) ∧ ringTurn a9 3 = true ∧ (rowOf 9 0 3 true true 5) = rowOf (headOp
    a9 3) 0 3 true true 5 ∧ ringTurn a9 3 = true ∧ (slotsCheck a9 3 (headLen a9 3)).1 ≤ 1 ∧ (pktOf a9 3).crcOk = true ∧ ((getB a9
    (CMD.RING_STATUS.SEQ_VALID 3) = false ∨ (pktOf a9 3).seq = getF a9 (CMD.RING_EXPECT.SEQ 3))) ∧ (pktOf a9 3).ctx = ctxOf 3 ∧ (pktOf
    a9 3).op ∈ opcodes ∧ (pktOf a9 3).slots = slotsNeeded (pktOf a9 3) ∧ (pktOf a9 3).tag ∉ tagsOf (pktOf a9 3).op) ∧
  (3 < 72 ∧ 5 < 2 ^ 256 ∧ (∀ x ∈ a6.cmd.pkts, x.ring = 3 → x.st ≠ 3) ∧ ringTurn a6 3 = true ∧ (rowOf 0 0 3 true true 5) = rowOf (headOp
    a6 3) 0 3 true true 5 ∧ ringTurn a6 3 = true ∧ (slotsCheck a6 3 (headLen a6 3)).1 ≤ 1 ∧ (pktOf a6 3).crcOk = true ∧ ((getB a6
    (CMD.RING_STATUS.SEQ_VALID 3) = false ∨ (pktOf a6 3).seq = getF a6 (CMD.RING_EXPECT.SEQ 3))) ∧ checkFail (judged a6 3 (pktOf a6 3))
    (pktOf a6 3) = some (18, 0)) := by decide +kernel
end HeadPacketsAreChecked
namespace ImmediatePacketsComplete
def s0 : State := on 3 nop
def a0 : State := advance 0 s0
def s1 : State := on 3 (pk 1 0 ([1, 0, 0, 0] ++ item 0x24 77 0xFFFF))
def a1 : State := advance 0 s1
def s3 : State := on 3 (pk 2 0 (toLE 4 0x40 ++ toLE 4 0x24))
def a3 : State := advance 0 s3
def s4 : State := on 3 (pk 3 0 (List.range 16))
def a4 : State := advance 0 s4
def s5 : State := w [(GLB.BOUNDARY_STATUS.SYSTIME_VALID, 1)] (on 3 (pk 8 0 [1, 2, 3, 4, 5]))
def a5 : State := advance 0 s5
def s6 : State := on 3 (pk 0x0D 0 [])
def a6 : State := advance 0 s6
def s8 : State := on 3 (pk 0x21 0 [])
def a8 : State := advance 0 s8
def s9 : State := staged (on 3 (act 0 1))
def a9 : State := advance 0 s9
def s11 : State := trial (on 3 (pk 0x32 0 []))
def a11 : State := advance 0 s11
def s12 : State := on 3 (pk 0x33 0 [])
def a12 : State := advance 0 s12
def s13 : State := upd (fun u => { u with check := [(0, 5)] }) (staged (outs [out 5 3 0x30 5 0, out 6 3 0x30 2 0] (on 3 (pk 0x33 0 []))))
def a13 : State := advance 0 s13
def s14 : State := w [(UPD.STATUS.STATE, 3)] (staged (outs [out 5 3 0x31 5 0] (on 3 (pk 0x33 0 []))))
def a14 : State := advance 0 s14
def s15 : State := trial (on 3 (pk 0x33 0 []))
def a15 : State := advance 0 s15
def s16 : State := on 3 (pk 1 0 ([1, 0, 0, 0] ++ item 0xA0020 0x4AB5 0xFFFF))
def a16 : State := advance 0 s16
def s17 : State := inb (List.replicate 64 (recd 4 0x0102 0 [])) (on 3 (pk 3 0 (List.range 16)))
def a17 : State := advance 0 s17
def s18 : State := on 3 (pk 0x39 0 [])
def a18 : State := advance 0 s18
theorem witness_ImmediatePacketsComplete_1 :
  (3 < 72 ∧ aSortedFrom none a0.landing = true ∧ aSortedFrom none a0.wrote = true ∧ aSortedFrom none a0.pend = true ∧ aSortedFrom none
    a0.frozen = true ∧ aSortedFrom none a0.held = true ∧ (a0.cmd.pkts.map (fun y => y.id)).Nodup ∧ (∀ y ∈ a0.cmd.pkts, y.id <
    a0.cmd.nextId) ∧ ringTurn a0 3 = true ∧ (slotsCheck a0 3 (headLen a0 3)).1 ≤ 1 ∧ (pktOf a0 3).crcOk = true ∧ ((getB a0
    (CMD.RING_STATUS.SEQ_VALID 3) = false ∨ (pktOf a0 3).seq = getF a0 (CMD.RING_EXPECT.SEQ 3))) ∧ checkFail (judged a0 3 (pktOf a0 3))
    (pktOf a0 3) = none ∧ (pktOf a0 3).op = 0 ∧ (pktOf a0 3).tag = 0) := by decide +kernel
theorem witness_ImmediatePacketsComplete_2 :
  (3 < 72 ∧ aSortedFrom none a1.landing = true ∧ aSortedFrom none a1.wrote = true ∧ aSortedFrom none a1.pend = true ∧ aSortedFrom none
    a1.frozen = true ∧ aSortedFrom none a1.held = true ∧ (a1.cmd.pkts.map (fun y => y.id)).Nodup ∧ (∀ y ∈ a1.cmd.pkts, y.id <
    a1.cmd.nextId) ∧ ringTurn a1 3 = true ∧ (slotsCheck a1 3 (headLen a1 3)).1 ≤ 1 ∧ (pktOf a1 3).crcOk = true ∧ ((getB a1
    (CMD.RING_STATUS.SEQ_VALID 3) = false ∨ (pktOf a1 3).seq = getF a1 (CMD.RING_EXPECT.SEQ 3))) ∧ checkFail (judged a1 3 (pktOf a1 3))
    (pktOf a1 3) = none ∧ (pktOf a1 3).op = 1 ∧ (pktOf a1 3).tag = 0 ∧ (∀ x ∈ (pktOf a1 3).items, x.1 ≠ 655392)) := by decide +kernel
theorem witness_ImmediatePacketsComplete_3 :
  (3 < 72 ∧ aSortedFrom none a16.landing = true ∧ aSortedFrom none a16.wrote = true ∧ aSortedFrom none a16.pend = true ∧ aSortedFrom
    none a16.frozen = true ∧ aSortedFrom none a16.held = true ∧ (a16.cmd.pkts.map (fun y => y.id)).Nodup ∧ (∀ y ∈ a16.cmd.pkts, y.id <
    a16.cmd.nextId) ∧ ringTurn a16 3 = true ∧ (slotsCheck a16 3 (headLen a16 3)).1 ≤ 1 ∧ (pktOf a16 3).crcOk = true ∧ ((getB a16
    (CMD.RING_STATUS.SEQ_VALID 3) = false ∨ (pktOf a16 3).seq = getF a16 (CMD.RING_EXPECT.SEQ 3))) ∧ checkFail (judged a16 3 (pktOf a16
    3)) (pktOf a16 3) = none ∧ (pktOf a16 3).op = 1 ∧ (pktOf a16 3).tag = 0 ∧ (pktOf a16 3).items = [(655392, 19125, 65535)] ∧ (655392,
    19125, 65535).1 = 655392 ∧ (655392, 19125, 65535).2.1 % 65536 = 19125 ∧ (655392, 19125, 65535).2.2 % 65536 = 65535 ∧ updState a16 ≠
    updGap ∧ atRest a16 = false ∧ a16.landing = []) := by decide +kernel
theorem witness_ImmediatePacketsComplete_4 :
  (3 < 72 ∧ aSortedFrom none a3.landing = true ∧ aSortedFrom none a3.wrote = true ∧ aSortedFrom none a3.pend = true ∧ aSortedFrom none
    a3.frozen = true ∧ aSortedFrom none a3.held = true ∧ (a3.cmd.pkts.map (fun y => y.id)).Nodup ∧ (∀ y ∈ a3.cmd.pkts, y.id <
    a3.cmd.nextId) ∧ ringTurn a3 3 = true ∧ (slotsCheck a3 3 (headLen a3 3)).1 ≤ 1 ∧ (pktOf a3 3).crcOk = true ∧ ((getB a3
    (CMD.RING_STATUS.SEQ_VALID 3) = false ∨ (pktOf a3 3).seq = getF a3 (CMD.RING_EXPECT.SEQ 3))) ∧ checkFail (judged a3 3 (pktOf a3 3))
    (pktOf a3 3) = none ∧ (pktOf a3 3).op = 2) := by decide +kernel
theorem witness_ImmediatePacketsComplete_5 :
  (3 < 72 ∧ aSortedFrom none a4.landing = true ∧ aSortedFrom none a4.wrote = true ∧ aSortedFrom none a4.pend = true ∧ aSortedFrom none
    a4.frozen = true ∧ aSortedFrom none a4.held = true ∧ (a4.cmd.pkts.map (fun y => y.id)).Nodup ∧ (∀ y ∈ a4.cmd.pkts, y.id <
    a4.cmd.nextId) ∧ ringTurn a4 3 = true ∧ (slotsCheck a4 3 (headLen a4 3)).1 ≤ 1 ∧ (pktOf a4 3).crcOk = true ∧ ((getB a4
    (CMD.RING_STATUS.SEQ_VALID 3) = false ∨ (pktOf a4 3).seq = getF a4 (CMD.RING_EXPECT.SEQ 3))) ∧ checkFail (judged a4 3 (pktOf a4 3))
    (pktOf a4 3) = none ∧ (pktOf a4 3).op = 3 ∧ waitingRecs a4 < 64) := by decide +kernel
theorem witness_ImmediatePacketsComplete_6 :
  (3 < 72 ∧ aSortedFrom none a17.landing = true ∧ aSortedFrom none a17.wrote = true ∧ aSortedFrom none a17.pend = true ∧ aSortedFrom
    none a17.frozen = true ∧ aSortedFrom none a17.held = true ∧ (a17.cmd.pkts.map (fun y => y.id)).Nodup ∧ (∀ y ∈ a17.cmd.pkts, y.id <
    a17.cmd.nextId) ∧ ringTurn a17 3 = true ∧ (slotsCheck a17 3 (headLen a17 3)).1 ≤ 1 ∧ (pktOf a17 3).crcOk = true ∧ ((getB a17
    (CMD.RING_STATUS.SEQ_VALID 3) = false ∨ (pktOf a17 3).seq = getF a17 (CMD.RING_EXPECT.SEQ 3))) ∧ checkFail (judged a17 3 (pktOf a17
    3)) (pktOf a17 3) = none ∧ (pktOf a17 3).op = 3 ∧ (¬waitingRecs a17 < 64)) := by decide +kernel
theorem witness_ImmediatePacketsComplete_7 :
  (3 < 72 ∧ aSortedFrom none a5.landing = true ∧ aSortedFrom none a5.wrote = true ∧ aSortedFrom none a5.pend = true ∧ aSortedFrom none
    a5.frozen = true ∧ aSortedFrom none a5.held = true ∧ (a5.cmd.pkts.map (fun y => y.id)).Nodup ∧ (∀ y ∈ a5.cmd.pkts, y.id <
    a5.cmd.nextId) ∧ ringTurn a5 3 = true ∧ (slotsCheck a5 3 (headLen a5 3)).1 ≤ 1 ∧ (pktOf a5 3).crcOk = true ∧ ((getB a5
    (CMD.RING_STATUS.SEQ_VALID 3) = false ∨ (pktOf a5 3).seq = getF a5 (CMD.RING_EXPECT.SEQ 3))) ∧ checkFail (judged a5 3 (pktOf a5 3))
    (pktOf a5 3) = none ∧ (pktOf a5 3).op = 8) := by decide +kernel
theorem witness_ImmediatePacketsComplete_8 :
  (3 < 72 ∧ aSortedFrom none a6.landing = true ∧ aSortedFrom none a6.wrote = true ∧ aSortedFrom none a6.pend = true ∧ aSortedFrom none
    a6.frozen = true ∧ aSortedFrom none a6.held = true ∧ (a6.cmd.pkts.map (fun y => y.id)).Nodup ∧ (∀ y ∈ a6.cmd.pkts, y.id <
    a6.cmd.nextId) ∧ ringTurn a6 3 = true ∧ (slotsCheck a6 3 (headLen a6 3)).1 ≤ 1 ∧ (pktOf a6 3).crcOk = true ∧ ((getB a6
    (CMD.RING_STATUS.SEQ_VALID 3) = false ∨ (pktOf a6 3).seq = getF a6 (CMD.RING_EXPECT.SEQ 3))) ∧ checkFail (judged a6 3 (pktOf a6 3))
    (pktOf a6 3) = none ∧ (pktOf a6 3).op = 13) := by decide +kernel
theorem witness_ImmediatePacketsComplete_9 :
  (3 < 72 ∧ aSortedFrom none a8.landing = true ∧ aSortedFrom none a8.wrote = true ∧ aSortedFrom none a8.pend = true ∧ aSortedFrom none
    a8.frozen = true ∧ aSortedFrom none a8.held = true ∧ (a8.cmd.pkts.map (fun y => y.id)).Nodup ∧ (∀ y ∈ a8.cmd.pkts, y.id <
    a8.cmd.nextId) ∧ ringTurn a8 3 = true ∧ (slotsCheck a8 3 (headLen a8 3)).1 ≤ 1 ∧ (pktOf a8 3).crcOk = true ∧ ((getB a8
    (CMD.RING_STATUS.SEQ_VALID 3) = false ∨ (pktOf a8 3).seq = getF a8 (CMD.RING_EXPECT.SEQ 3))) ∧ checkFail (judged a8 3 (pktOf a8 3))
    (pktOf a8 3) = none ∧ (pktOf a8 3).op = 33) := by decide +kernel
theorem witness_ImmediatePacketsComplete_10 :
  (3 < 72 ∧ aSortedFrom none a9.landing = true ∧ aSortedFrom none a9.wrote = true ∧ aSortedFrom none a9.pend = true ∧ aSortedFrom none
    a9.frozen = true ∧ aSortedFrom none a9.held = true ∧ (a9.cmd.pkts.map (fun y => y.id)).Nodup ∧ (∀ y ∈ a9.cmd.pkts, y.id <
    a9.cmd.nextId) ∧ ringTurn a9 3 = true ∧ (slotsCheck a9 3 (headLen a9 3)).1 ≤ 1 ∧ (pktOf a9 3).crcOk = true ∧ ((getB a9
    (CMD.RING_STATUS.SEQ_VALID 3) = false ∨ (pktOf a9 3).seq = getF a9 (CMD.RING_EXPECT.SEQ 3))) ∧ checkFail (judged a9 3 (pktOf a9 3))
    (pktOf a9 3) = none ∧ (pktOf a9 3).op = 49) := by decide +kernel
theorem witness_ImmediatePacketsComplete_11 :
  (3 < 72 ∧ aSortedFrom none a11.landing = true ∧ aSortedFrom none a11.wrote = true ∧ aSortedFrom none a11.pend = true ∧ aSortedFrom
    none a11.frozen = true ∧ aSortedFrom none a11.held = true ∧ (a11.cmd.pkts.map (fun y => y.id)).Nodup ∧ (∀ y ∈ a11.cmd.pkts, y.id <
    a11.cmd.nextId) ∧ ringTurn a11 3 = true ∧ (slotsCheck a11 3 (headLen a11 3)).1 ≤ 1 ∧ (pktOf a11 3).crcOk = true ∧ ((getB a11
    (CMD.RING_STATUS.SEQ_VALID 3) = false ∨ (pktOf a11 3).seq = getF a11 (CMD.RING_EXPECT.SEQ 3))) ∧ checkFail (judged a11 3 (pktOf a11
    3)) (pktOf a11 3) = none ∧ (pktOf a11 3).op = 50) := by decide +kernel
theorem witness_ImmediatePacketsComplete_12 :
  (3 < 72 ∧ aSortedFrom none a12.landing = true ∧ aSortedFrom none a12.wrote = true ∧ aSortedFrom none a12.pend = true ∧ aSortedFrom
    none a12.frozen = true ∧ aSortedFrom none a12.held = true ∧ (a12.cmd.pkts.map (fun y => y.id)).Nodup ∧ (∀ y ∈ a12.cmd.pkts, y.id <
    a12.cmd.nextId) ∧ ringTurn a12 3 = true ∧ (slotsCheck a12 3 (headLen a12 3)).1 ≤ 1 ∧ (pktOf a12 3).crcOk = true ∧ ((getB a12
    (CMD.RING_STATUS.SEQ_VALID 3) = false ∨ (pktOf a12 3).seq = getF a12 (CMD.RING_EXPECT.SEQ 3))) ∧ checkFail (judged a12 3 (pktOf a12
    3)) (pktOf a12 3) = none ∧ (pktOf a12 3).op = 51 ∧ receiving a12 = false ∧ updState a12 ≠ updPending ∧ updState a12 ≠ updTrial) := by decide +kernel
theorem witness_ImmediatePacketsComplete_13 :
  (3 < 72 ∧ aSortedFrom none a13.landing = true ∧ aSortedFrom none a13.wrote = true ∧ aSortedFrom none a13.pend = true ∧ aSortedFrom
    none a13.frozen = true ∧ aSortedFrom none a13.held = true ∧ (a13.cmd.pkts.map (fun y => y.id)).Nodup ∧ (∀ y ∈ a13.cmd.pkts, y.id <
    a13.cmd.nextId) ∧ ringTurn a13 3 = true ∧ (slotsCheck a13 3 (headLen a13 3)).1 ≤ 1 ∧ (pktOf a13 3).crcOk = true ∧ ((getB a13
    (CMD.RING_STATUS.SEQ_VALID 3) = false ∨ (pktOf a13 3).seq = getF a13 (CMD.RING_EXPECT.SEQ 3))) ∧ checkFail (judged a13 3 (pktOf a13
    3)) (pktOf a13 3) = none ∧ (pktOf a13 3).op = 51 ∧ receiving a13 = true) := by decide +kernel
theorem witness_ImmediatePacketsComplete_14 :
  (3 < 72 ∧ aSortedFrom none a14.landing = true ∧ aSortedFrom none a14.wrote = true ∧ aSortedFrom none a14.pend = true ∧ aSortedFrom
    none a14.frozen = true ∧ aSortedFrom none a14.held = true ∧ (a14.cmd.pkts.map (fun y => y.id)).Nodup ∧ (∀ y ∈ a14.cmd.pkts, y.id <
    a14.cmd.nextId) ∧ ringTurn a14 3 = true ∧ (slotsCheck a14 3 (headLen a14 3)).1 ≤ 1 ∧ (pktOf a14 3).crcOk = true ∧ ((getB a14
    (CMD.RING_STATUS.SEQ_VALID 3) = false ∨ (pktOf a14 3).seq = getF a14 (CMD.RING_EXPECT.SEQ 3))) ∧ checkFail (judged a14 3 (pktOf a14
    3)) (pktOf a14 3) = none ∧ (pktOf a14 3).op = 51 ∧ receiving a14 = false ∧ updState a14 = updPending) := by decide +kernel
theorem witness_ImmediatePacketsComplete_15 :
  (3 < 72 ∧ aSortedFrom none a15.landing = true ∧ aSortedFrom none a15.wrote = true ∧ aSortedFrom none a15.pend = true ∧ aSortedFrom
    none a15.frozen = true ∧ aSortedFrom none a15.held = true ∧ (a15.cmd.pkts.map (fun y => y.id)).Nodup ∧ (∀ y ∈ a15.cmd.pkts, y.id <
    a15.cmd.nextId) ∧ ringTurn a15 3 = true ∧ (slotsCheck a15 3 (headLen a15 3)).1 ≤ 1 ∧ (pktOf a15 3).crcOk = true ∧ ((getB a15
    (CMD.RING_STATUS.SEQ_VALID 3) = false ∨ (pktOf a15 3).seq = getF a15 (CMD.RING_EXPECT.SEQ 3))) ∧ checkFail (judged a15 3 (pktOf a15
    3)) (pktOf a15 3) = none ∧ (pktOf a15 3).op = 51 ∧ receiving a15 = false ∧ updState a15 = updTrial) := by decide +kernel
theorem witness_ImmediatePacketsComplete_16 :
  (3 < 72 ∧ aSortedFrom none a18.landing = true ∧ aSortedFrom none a18.wrote = true ∧ aSortedFrom none a18.pend = true ∧ aSortedFrom
    none a18.frozen = true ∧ aSortedFrom none a18.held = true ∧ (a18.cmd.pkts.map (fun y => y.id)).Nodup ∧ (∀ y ∈ a18.cmd.pkts, y.id <
    a18.cmd.nextId) ∧ ringTurn a18 3 = true ∧ (slotsCheck a18 3 (headLen a18 3)).1 ≤ 1 ∧ (pktOf a18 3).crcOk = true ∧ ((getB a18
    (CMD.RING_STATUS.SEQ_VALID 3) = false ∨ (pktOf a18 3).seq = getF a18 (CMD.RING_EXPECT.SEQ 3))) ∧ checkFail (judged a18 3 (pktOf a18
    3)) (pktOf a18 3) = none ∧ (pktOf a18 3).op = 57) := by decide +kernel
end ImmediatePacketsComplete
namespace TaggedPacketsWaitForTheirStep
def s0 : State := on 3 (pk 0 1 [])
def a0 : State := advance 0 s0
def s2 : State := on 3 (pk 1 1 ([1, 0, 0, 0] ++ item 0x40 77 0xFFFF))
def a2 : State := advance 0 s2
def s3 : State := on 3 (pk 9 1 [])
def a3 : State := advance 0 s3
def s4 : State := on 3 (pk 0xC 1 [200, 3])
def a4 : State := advance 0 s4
def s6 : State := on 3 (pk 0x11 1 [])
def a6 : State := advance 0 s6
def s7 : State := kx (on 3 kxPk)
def a7 : State := advance 0 s7
def s9 : State := on 3 (pk 0x22 1 [1])
def a9 : State := advance 0 s9
def s10 : State := w [(SEC.PART_MAP_LO.REGIONS 4, 3)] (on 3 (asg 4 1 77))
def a10 : State := advance 0 s10
def s11 : State := w [(SEC.PART_STATUS.ASSIGNED 4, 1)] (on 3 (asg 4 0 77))
def a11 : State := advance 0 s11
def s12 : State := w [(SEC.PART_TENANT.TENANT_ID 4, 77), (SEC.PART_STATUS.ASSIGNED 4, 1)] (on 3 (asg 4 1 77))
def a12 : State := advance 0 s12
def s13 : State := on 3 (asg 4 0 77)
def a13 : State := advance 0 s13
def s14 : State := on 3 (pk 0x24 1 [4])
def a14 : State := advance 0 s14
def s15 : State := w [(SEC.PART_STATUS.SCRUBBING 4, 1)] (on 3 (pk 0x25 1 [4]))
def a15 : State := advance 0 s15
def s16 : State := on 3 (pk 0x38 1 ([2, 2, 5, 5, 0,0,0,0] ++ toLE 4 0x24 ++ toLE 4 0x40))
def a16 : State := advance 0 s16
def s17 : State := on 3 (pk 0x3A 1 [0x21, 2, 3, 0, 10, 0, 0, 0])
def a17 : State := advance 0 s17
theorem witness_TaggedPacketsWaitForTheirStep_1 :
  (3 < 72 ∧ aSortedFrom none a0.landing = true ∧ aSortedFrom none a0.wrote = true ∧ aSortedFrom none a0.pend = true ∧ aSortedFrom none
    a0.frozen = true ∧ aSortedFrom none a0.held = true ∧ (a0.cmd.pkts.map (fun y => y.id)).Nodup ∧ (∀ y ∈ a0.cmd.pkts, y.id <
    a0.cmd.nextId) ∧ ringTurn a0 3 = true ∧ (slotsCheck a0 3 (headLen a0 3)).1 ≤ 1 ∧ (pktOf a0 3).crcOk = true ∧ ((getB a0
    (CMD.RING_STATUS.SEQ_VALID 3) = false ∨ (pktOf a0 3).seq = getF a0 (CMD.RING_EXPECT.SEQ 3))) ∧ checkFail (judged a0 3 (pktOf a0 3))
    (pktOf a0 3) = none ∧ (pktOf a0 3).op = 0 ∧ (pktOf a0 3).tag ≠ 0) := by decide +kernel
theorem witness_TaggedPacketsWaitForTheirStep_2 :
  (3 < 72 ∧ aSortedFrom none a2.landing = true ∧ aSortedFrom none a2.wrote = true ∧ aSortedFrom none a2.pend = true ∧ aSortedFrom none
    a2.frozen = true ∧ aSortedFrom none a2.held = true ∧ (a2.cmd.pkts.map (fun y => y.id)).Nodup ∧ (∀ y ∈ a2.cmd.pkts, y.id <
    a2.cmd.nextId) ∧ ringTurn a2 3 = true ∧ (slotsCheck a2 3 (headLen a2 3)).1 ≤ 1 ∧ (pktOf a2 3).crcOk = true ∧ ((getB a2
    (CMD.RING_STATUS.SEQ_VALID 3) = false ∨ (pktOf a2 3).seq = getF a2 (CMD.RING_EXPECT.SEQ 3))) ∧ checkFail (judged a2 3 (pktOf a2 3))
    (pktOf a2 3) = none ∧ (pktOf a2 3).op = 1 ∧ (pktOf a2 3).tag ≠ 0) := by decide +kernel
theorem witness_TaggedPacketsWaitForTheirStep_3 :
  (3 < 72 ∧ aSortedFrom none a3.landing = true ∧ aSortedFrom none a3.wrote = true ∧ aSortedFrom none a3.pend = true ∧ aSortedFrom none
    a3.frozen = true ∧ aSortedFrom none a3.held = true ∧ (a3.cmd.pkts.map (fun y => y.id)).Nodup ∧ (∀ y ∈ a3.cmd.pkts, y.id <
    a3.cmd.nextId) ∧ ringTurn a3 3 = true ∧ (slotsCheck a3 3 (headLen a3 3)).1 ≤ 1 ∧ (pktOf a3 3).crcOk = true ∧ ((getB a3
    (CMD.RING_STATUS.SEQ_VALID 3) = false ∨ (pktOf a3 3).seq = getF a3 (CMD.RING_EXPECT.SEQ 3))) ∧ checkFail (judged a3 3 (pktOf a3 3))
    (pktOf a3 3) = none ∧ (pktOf a3 3).op = 9) := by decide +kernel
theorem witness_TaggedPacketsWaitForTheirStep_4 :
  (3 < 72 ∧ aSortedFrom none a4.landing = true ∧ aSortedFrom none a4.wrote = true ∧ aSortedFrom none a4.pend = true ∧ aSortedFrom none
    a4.frozen = true ∧ aSortedFrom none a4.held = true ∧ (a4.cmd.pkts.map (fun y => y.id)).Nodup ∧ (∀ y ∈ a4.cmd.pkts, y.id <
    a4.cmd.nextId) ∧ ringTurn a4 3 = true ∧ (slotsCheck a4 3 (headLen a4 3)).1 ≤ 1 ∧ (pktOf a4 3).crcOk = true ∧ ((getB a4
    (CMD.RING_STATUS.SEQ_VALID 3) = false ∨ (pktOf a4 3).seq = getF a4 (CMD.RING_EXPECT.SEQ 3))) ∧ checkFail (judged a4 3 (pktOf a4 3))
    (pktOf a4 3) = none ∧ (pktOf a4 3).op = 12) := by decide +kernel
theorem witness_TaggedPacketsWaitForTheirStep_5 :
  (3 < 72 ∧ aSortedFrom none a6.landing = true ∧ aSortedFrom none a6.wrote = true ∧ aSortedFrom none a6.pend = true ∧ aSortedFrom none
    a6.frozen = true ∧ aSortedFrom none a6.held = true ∧ (a6.cmd.pkts.map (fun y => y.id)).Nodup ∧ (∀ y ∈ a6.cmd.pkts, y.id <
    a6.cmd.nextId) ∧ ringTurn a6 3 = true ∧ (slotsCheck a6 3 (headLen a6 3)).1 ≤ 1 ∧ (pktOf a6 3).crcOk = true ∧ ((getB a6
    (CMD.RING_STATUS.SEQ_VALID 3) = false ∨ (pktOf a6 3).seq = getF a6 (CMD.RING_EXPECT.SEQ 3))) ∧ checkFail (judged a6 3 (pktOf a6 3))
    (pktOf a6 3) = none ∧ (pktOf a6 3).op = 17) := by decide +kernel
theorem witness_TaggedPacketsWaitForTheirStep_6 :
  (3 < 72 ∧ aSortedFrom none a7.landing = true ∧ aSortedFrom none a7.wrote = true ∧ aSortedFrom none a7.pend = true ∧ aSortedFrom none
    a7.frozen = true ∧ aSortedFrom none a7.held = true ∧ (a7.cmd.pkts.map (fun y => y.id)).Nodup ∧ (∀ y ∈ a7.cmd.pkts, y.id <
    a7.cmd.nextId) ∧ ringTurn a7 3 = true ∧ (slotsCheck a7 3 (headLen a7 3)).1 ≤ 1 ∧ (pktOf a7 3).crcOk = true ∧ ((getB a7
    (CMD.RING_STATUS.SEQ_VALID 3) = false ∨ (pktOf a7 3).seq = getF a7 (CMD.RING_EXPECT.SEQ 3))) ∧ checkFail (judged a7 3 (pktOf a7 3))
    (pktOf a7 3) = none ∧ 5 < 2 ^ 256 ∧ (pktOf a7 3).op = 32 ∧ getB a7 SEC.STATUS.KX_READY = true) := by decide +kernel
theorem witness_TaggedPacketsWaitForTheirStep_7 :
  (3 < 72 ∧ aSortedFrom none a7.landing = true ∧ aSortedFrom none a7.wrote = true ∧ aSortedFrom none a7.pend = true ∧ aSortedFrom none
    a7.frozen = true ∧ aSortedFrom none a7.held = true ∧ (a7.cmd.pkts.map (fun y => y.id)).Nodup ∧ (∀ y ∈ a7.cmd.pkts, y.id <
    a7.cmd.nextId) ∧ ringTurn a7 3 = true ∧ (slotsCheck a7 3 (headLen a7 3)).1 ≤ 1 ∧ (pktOf a7 3).crcOk = true ∧ ((getB a7
    (CMD.RING_STATUS.SEQ_VALID 3) = false ∨ (pktOf a7 3).seq = getF a7 (CMD.RING_EXPECT.SEQ 3))) ∧ checkFail (judged a7 3 (pktOf a7 3))
    (pktOf a7 3) = none ∧ 5 < 2 ^ 256 ∧ (pktOf a7 3).op = 32 ∧ (false = false ∨ getB a7 SEC.STATUS.KX_READY = false) ∧ waitingMsgs a7 <
    256) := by decide +kernel
theorem witness_TaggedPacketsWaitForTheirStep_8 :
  (3 < 72 ∧ aSortedFrom none a9.landing = true ∧ aSortedFrom none a9.wrote = true ∧ aSortedFrom none a9.pend = true ∧ aSortedFrom none
    a9.frozen = true ∧ aSortedFrom none a9.held = true ∧ (a9.cmd.pkts.map (fun y => y.id)).Nodup ∧ (∀ y ∈ a9.cmd.pkts, y.id <
    a9.cmd.nextId) ∧ ringTurn a9 3 = true ∧ (slotsCheck a9 3 (headLen a9 3)).1 ≤ 1 ∧ (pktOf a9 3).crcOk = true ∧ ((getB a9
    (CMD.RING_STATUS.SEQ_VALID 3) = false ∨ (pktOf a9 3).seq = getF a9 (CMD.RING_EXPECT.SEQ 3))) ∧ checkFail (judged a9 3 (pktOf a9 3))
    (pktOf a9 3) = none ∧ (pktOf a9 3).op = 34) := by decide +kernel
theorem witness_TaggedPacketsWaitForTheirStep_9 :
  (3 < 72 ∧ aSortedFrom none a10.landing = true ∧ aSortedFrom none a10.wrote = true ∧ aSortedFrom none a10.pend = true ∧ aSortedFrom
    none a10.frozen = true ∧ aSortedFrom none a10.held = true ∧ (a10.cmd.pkts.map (fun y => y.id)).Nodup ∧ (∀ y ∈ a10.cmd.pkts, y.id <
    a10.cmd.nextId) ∧ ringTurn a10 3 = true ∧ (slotsCheck a10 3 (headLen a10 3)).1 ≤ 1 ∧ (pktOf a10 3).crcOk = true ∧ ((getB a10
    (CMD.RING_STATUS.SEQ_VALID 3) = false ∨ (pktOf a10 3).seq = getF a10 (CMD.RING_EXPECT.SEQ 3))) ∧ checkFail (judged a10 3 (pktOf a10
    3)) (pktOf a10 3) = none ∧ (pktOf a10 3).op = 35 ∧ (pktOf a10 3).at 16 = ((pktOf a10 3).at 16) ∧ (pktOf a10 3).at 17 = ((pktOf a10
    3).at 17) ∧ (pktOf a10 3).num 20 4 = ((pktOf a10 3).num 20 4) ∧ ((pktOf a10 3).at 17) = 1 ∧ partAssigned a10 ((pktOf a10 3).at 16) =
    false) := by decide +kernel
theorem witness_TaggedPacketsWaitForTheirStep_10 :
  (3 < 72 ∧ aSortedFrom none a11.landing = true ∧ aSortedFrom none a11.wrote = true ∧ aSortedFrom none a11.pend = true ∧ aSortedFrom
    none a11.frozen = true ∧ aSortedFrom none a11.held = true ∧ (a11.cmd.pkts.map (fun y => y.id)).Nodup ∧ (∀ y ∈ a11.cmd.pkts, y.id <
    a11.cmd.nextId) ∧ ringTurn a11 3 = true ∧ (slotsCheck a11 3 (headLen a11 3)).1 ≤ 1 ∧ (pktOf a11 3).crcOk = true ∧ ((getB a11
    (CMD.RING_STATUS.SEQ_VALID 3) = false ∨ (pktOf a11 3).seq = getF a11 (CMD.RING_EXPECT.SEQ 3))) ∧ checkFail (judged a11 3 (pktOf a11
    3)) (pktOf a11 3) = none ∧ (pktOf a11 3).op = 35 ∧ (pktOf a11 3).at 16 = ((pktOf a11 3).at 16) ∧ (pktOf a11 3).at 17 = ((pktOf a11
    3).at 17) ∧ (pktOf a11 3).num 20 4 = ((pktOf a11 3).num 20 4) ∧ ((pktOf a11 3).at 17) = 0 ∧ partAssigned a11 ((pktOf a11 3).at 16) =
    true) := by decide +kernel
theorem witness_TaggedPacketsWaitForTheirStep_11 :
  (3 < 72 ∧ aSortedFrom none a12.landing = true ∧ aSortedFrom none a12.wrote = true ∧ aSortedFrom none a12.pend = true ∧ aSortedFrom
    none a12.frozen = true ∧ aSortedFrom none a12.held = true ∧ (a12.cmd.pkts.map (fun y => y.id)).Nodup ∧ (∀ y ∈ a12.cmd.pkts, y.id <
    a12.cmd.nextId) ∧ ringTurn a12 3 = true ∧ (slotsCheck a12 3 (headLen a12 3)).1 ≤ 1 ∧ (pktOf a12 3).crcOk = true ∧ ((getB a12
    (CMD.RING_STATUS.SEQ_VALID 3) = false ∨ (pktOf a12 3).seq = getF a12 (CMD.RING_EXPECT.SEQ 3))) ∧ checkFail (judged a12 3 (pktOf a12
    3)) (pktOf a12 3) = none ∧ (pktOf a12 3).op = 35 ∧ (pktOf a12 3).at 16 = ((pktOf a12 3).at 16) ∧ (pktOf a12 3).at 17 = ((pktOf a12
    3).at 17) ∧ (pktOf a12 3).num 20 4 = ((pktOf a12 3).num 20 4) ∧ ((pktOf a12 3).at 17) = 1 ∧ partAssigned a12 ((pktOf a12 3).at 16) =
    true) := by decide +kernel
theorem witness_TaggedPacketsWaitForTheirStep_12 :
  (3 < 72 ∧ aSortedFrom none a13.landing = true ∧ aSortedFrom none a13.wrote = true ∧ aSortedFrom none a13.pend = true ∧ aSortedFrom
    none a13.frozen = true ∧ aSortedFrom none a13.held = true ∧ (a13.cmd.pkts.map (fun y => y.id)).Nodup ∧ (∀ y ∈ a13.cmd.pkts, y.id <
    a13.cmd.nextId) ∧ ringTurn a13 3 = true ∧ (slotsCheck a13 3 (headLen a13 3)).1 ≤ 1 ∧ (pktOf a13 3).crcOk = true ∧ ((getB a13
    (CMD.RING_STATUS.SEQ_VALID 3) = false ∨ (pktOf a13 3).seq = getF a13 (CMD.RING_EXPECT.SEQ 3))) ∧ checkFail (judged a13 3 (pktOf a13
    3)) (pktOf a13 3) = none ∧ (pktOf a13 3).op = 35 ∧ (pktOf a13 3).at 16 = ((pktOf a13 3).at 16) ∧ (pktOf a13 3).at 17 = ((pktOf a13
    3).at 17) ∧ (pktOf a13 3).num 20 4 = ((pktOf a13 3).num 20 4) ∧ ((pktOf a13 3).at 17) = 0 ∧ partAssigned a13 ((pktOf a13 3).at 16) =
    false) := by decide +kernel
theorem witness_TaggedPacketsWaitForTheirStep_13 :
  (3 < 72 ∧ aSortedFrom none a14.landing = true ∧ aSortedFrom none a14.wrote = true ∧ aSortedFrom none a14.pend = true ∧ aSortedFrom
    none a14.frozen = true ∧ aSortedFrom none a14.held = true ∧ (a14.cmd.pkts.map (fun y => y.id)).Nodup ∧ (∀ y ∈ a14.cmd.pkts, y.id <
    a14.cmd.nextId) ∧ ringTurn a14 3 = true ∧ (slotsCheck a14 3 (headLen a14 3)).1 ≤ 1 ∧ (pktOf a14 3).crcOk = true ∧ ((getB a14
    (CMD.RING_STATUS.SEQ_VALID 3) = false ∨ (pktOf a14 3).seq = getF a14 (CMD.RING_EXPECT.SEQ 3))) ∧ checkFail (judged a14 3 (pktOf a14
    3)) (pktOf a14 3) = none ∧ (pktOf a14 3).op = 36) := by decide +kernel
theorem witness_TaggedPacketsWaitForTheirStep_14 :
  (3 < 72 ∧ aSortedFrom none a15.landing = true ∧ aSortedFrom none a15.wrote = true ∧ aSortedFrom none a15.pend = true ∧ aSortedFrom
    none a15.frozen = true ∧ aSortedFrom none a15.held = true ∧ (a15.cmd.pkts.map (fun y => y.id)).Nodup ∧ (∀ y ∈ a15.cmd.pkts, y.id <
    a15.cmd.nextId) ∧ ringTurn a15 3 = true ∧ (slotsCheck a15 3 (headLen a15 3)).1 ≤ 1 ∧ (pktOf a15 3).crcOk = true ∧ ((getB a15
    (CMD.RING_STATUS.SEQ_VALID 3) = false ∨ (pktOf a15 3).seq = getF a15 (CMD.RING_EXPECT.SEQ 3))) ∧ checkFail (judged a15 3 (pktOf a15
    3)) (pktOf a15 3) = none ∧ (pktOf a15 3).op = 37) := by decide +kernel
theorem witness_TaggedPacketsWaitForTheirStep_15 :
  (3 < 72 ∧ aSortedFrom none a16.landing = true ∧ aSortedFrom none a16.wrote = true ∧ aSortedFrom none a16.pend = true ∧ aSortedFrom
    none a16.frozen = true ∧ aSortedFrom none a16.held = true ∧ (a16.cmd.pkts.map (fun y => y.id)).Nodup ∧ (∀ y ∈ a16.cmd.pkts, y.id <
    a16.cmd.nextId) ∧ ringTurn a16 3 = true ∧ (slotsCheck a16 3 (headLen a16 3)).1 ≤ 1 ∧ (pktOf a16 3).crcOk = true ∧ ((getB a16
    (CMD.RING_STATUS.SEQ_VALID 3) = false ∨ (pktOf a16 3).seq = getF a16 (CMD.RING_EXPECT.SEQ 3))) ∧ checkFail (judged a16 3 (pktOf a16
    3)) (pktOf a16 3) = none ∧ (pktOf a16 3).op = 56) := by decide +kernel
theorem witness_TaggedPacketsWaitForTheirStep_16 :
  (3 < 72 ∧ aSortedFrom none a17.landing = true ∧ aSortedFrom none a17.wrote = true ∧ aSortedFrom none a17.pend = true ∧ aSortedFrom
    none a17.frozen = true ∧ aSortedFrom none a17.held = true ∧ (a17.cmd.pkts.map (fun y => y.id)).Nodup ∧ (∀ y ∈ a17.cmd.pkts, y.id <
    a17.cmd.nextId) ∧ ringTurn a17 3 = true ∧ (slotsCheck a17 3 (headLen a17 3)).1 ≤ 1 ∧ (pktOf a17 3).crcOk = true ∧ ((getB a17
    (CMD.RING_STATUS.SEQ_VALID 3) = false ∨ (pktOf a17 3).seq = getF a17 (CMD.RING_EXPECT.SEQ 3))) ∧ checkFail (judged a17 3 (pktOf a17
    3)) (pktOf a17 3) = none ∧ (pktOf a17 3).op = 58) := by decide +kernel
end TaggedPacketsWaitForTheirStep

end Heads

namespace Blocks

def bodyOf (off k : Nat) (data : List Nat) (bad : Nat := 0) : List Nat := toLE 4 off ++ toLE 2 data.length ++ [k, 0] ++ toLE 4 (crc32c data + bad) ++ toLE 4 0
def rq : State := on 3 []
def arr (op off k : Nat) (data : List Nat) (s : State) (bad : Nat := 0) : State :=
  outs [⟨9, 3, 5, false, op, 0, none, 3, [], none, [], [], none, 0, 0, 0, bodyOf off k data bad, data⟩] s
def xf (key : Nat) (x : Xfer) (s : State) : State := { s with cmd := { s.cmd with xfers := [(key, x)] } }
def put (b : List Nat) (o : Nat) (v : List Nat) : List Nat := b.take o ++ v ++ b.drop (o + v.length)
def seg (n : Nat) (act : List Nat) : List Nat := put (put (put (put (put (put (Z 512) 0 (toLE 4 0x4E4C504A)) 4 [1,0,3,0]) 8 (toLE 4 77)) 0x10 (toLE 6 10)) 0x18 (toLE 4 n ++ toLE 4 (512 + 16 * n))) 0x40 (toLE 4 5000) ++ act
def e0 : List Nat := Z 16
def eL : List Nat := [0,0,0,0, 0,0,0x80,0, 0,0,0,0, 0,0,0,0]
def prog (k n : Nat) (d : List Nat) : List Nat := put (put (Z 256) 0 (toLE 4 0x50484C4A ++ [1,0,k,0])) 0x0C (toLE 2 n ++ [0,0,0,0,0,0] ++ toLE 4 (256+32*n) ++ toLE 4 0) ++ d
def img (k len : Nat) : List Nat := put (Z len) 0 (toLE 4 0x57465448 ++ [1,0,k,if k = 1 then 255 else 0] ++ toLE 8 0 ++ toLE 4 len)
def d1 : List Nat := [1, 5, 2, 0] ++ toLE 4 0x140000 ++ Z 4 ++ toLE 4 0x1BFC00 ++ Z 4 ++ toLE 4 1 ++ Z 8
def pr : List Nat := put (prog 3 2 (d1 ++ Z 32)) 0x18 (toLE 4 4)
namespace BlocksAreTakenInParts
def s0 : State := on 3 (pk 0x10 0 (bodyOf 0 0 (Z 16)))
def a0 : State := advance 0 s0
def s2 : State := arr 0x10 0 0 (Z 16) rq 1
def a2 : State := advance 0 s2
def s4 : State := arr 0x10 64 0 (Z 16) rq
def a4 : State := advance 0 s4
def s5 : State := arr 0x10 0 0 (Z 16) (ring 3 [] R)
def a5 : State := advance 0 s5
def s6 : State := xf 0 ⟨[], [(0,64)], some 70, false⟩ (arr 0x10 64 0 (Z 16) rq)
def a6 : State := advance 0 s6
def s8 : State := xf 0 ⟨[], [(0,64)], some 100, false⟩ (arr 0x10 64 0 (Z 16) rq)
def a8 : State := advance 0 s8
def s11 : State := arr 0x10 0 0 (seg 2 e0) rq
def a11 : State := advance 0 s11
def s12 : State := arr 0x10 0 0 (Z 512) rq
def a12 : State := advance 0 s12
def s13 : State := arr 0x30 0 1 ((img 1 600).take 500) rq
def a13 : State := advance 0 s13
def s14 : State := arr 0x10 0 0 (seg 2 (e0++eL)) rq
def a14 : State := advance 0 s14
def s15 : State := arr 0x10 0 0 (seg 2 (e0++eL) ++ Z 8) rq
def a15 : State := advance 0 s15
def s19 : State := w [(UPD.STATUS.STATE, 3)] (arr 0x30 0 0 (Z 64) rq)
def a19 : State := advance 0 s19
def s20 : State := arr 0x30 0 0 (img 0 600) rq
def a20 : State := advance 0 s20
def s23 : State := arr 0x30 0 2 ((img 2 2600).take 512) rq
def a23 : State := advance 0 s23
def s24 : State := arr 0x30 0 2 (put (img 2 600) 16 (toLE 4 70000)) rq
def a24 : State := advance 0 s24
def s25 : State := xf 17 ⟨memPut [] 0 ((img 1 2600).take 2000), [(0,2000)], some 2600, false⟩ (arr 0x30 2000 1 (Z 600) rq)
def a25 : State := advance 0 s25
theorem witness_BlocksAreTakenInParts_1 :
  (3 < 72 ∧ aSortedFrom none a0.landing = true ∧ aSortedFrom none a0.wrote = true ∧ aSortedFrom none a0.pend = true ∧ aSortedFrom none
    a0.frozen = true ∧ aSortedFrom none a0.held = true ∧ (a0.cmd.pkts.map (fun y => y.id)).Nodup ∧ (∀ y ∈ a0.cmd.pkts, y.id <
    a0.cmd.nextId) ∧ (16 = 16 ∨ 16 = 24 ∨ 16 = 48) ∧ List.find? (fun x => x.ring == 3 && x.op == 16 && x.st == 3) a0.cmd.pkts = none ∧
    ringTurn a0 3 = true ∧ (slotsCheck a0 3 (headLen a0 3)).1 ≤ 1 ∧ (pktOf a0 3).crcOk = true ∧ ((getB a0 (CMD.RING_STATUS.SEQ_VALID 3)
    = false ∨ (pktOf a0 3).seq = getF a0 (CMD.RING_EXPECT.SEQ 3))) ∧ checkFail (judged a0 3 (pktOf a0 3)) (pktOf a0 3) = none ∧ (pktOf
    a0 3).op = 16) := by decide +kernel
theorem witness_BlocksAreTakenInParts_2 :
  (3 < 72 ∧ aSortedFrom none a5.landing = true ∧ aSortedFrom none a5.wrote = true ∧ aSortedFrom none a5.pend = true ∧ aSortedFrom none
    a5.frozen = true ∧ aSortedFrom none a5.held = true ∧ (a5.cmd.pkts.map (fun y => y.id)).Nodup ∧ (∀ y ∈ a5.cmd.pkts, y.id <
    a5.cmd.nextId) ∧ (16 = 16 ∨ 16 = 24 ∨ 16 = 48) ∧ List.find? (fun x1 => x1.ring == 3 && x1.op == 16 && x1.st == 3) a5.cmd.pkts = some
    (s5.cmd.pkts.getD 0 (out 0 0 0 0 0)) ∧ (compOn a5 1 = false ∨ compOn a5 (blockComp 16) = false)) := by decide +kernel
theorem witness_BlocksAreTakenInParts_3 :
  (3 < 72 ∧ aSortedFrom none a2.landing = true ∧ aSortedFrom none a2.wrote = true ∧ aSortedFrom none a2.pend = true ∧ aSortedFrom none
    a2.frozen = true ∧ aSortedFrom none a2.held = true ∧ (a2.cmd.pkts.map (fun y => y.id)).Nodup ∧ (∀ y ∈ a2.cmd.pkts, y.id <
    a2.cmd.nextId) ∧ (16 = 16 ∨ 16 = 24 ∨ 16 = 48) ∧ List.find? (fun x1 => x1.ring == 3 && x1.op == 16 && x1.st == 3) a2.cmd.pkts = some
    (s2.cmd.pkts.getD 0 (out 0 0 0 0 0)) ∧ compOn a2 1 = true ∧ compOn a2 (blockComp 16) = true ∧ (nth (s2.cmd.pkts.getD 0 (out 0 0 0 0
    0)).body 6) < 4 ∧ (16 = 48 → (nth (s2.cmd.pkts.getD 0 (out 0 0 0 0 0)).body 6) < 3) ∧ crc32c (s2.cmd.pkts.getD 0 (out 0 0 0 0
    0)).data ≠ ofLE (List.take 4 (List.drop 8 (s2.cmd.pkts.getD 0 (out 0 0 0 0 0)).body))) := by decide +kernel
theorem witness_BlocksAreTakenInParts_4 :
  (3 < 72 ∧ aSortedFrom none a4.landing = true ∧ aSortedFrom none a4.wrote = true ∧ aSortedFrom none a4.pend = true ∧ aSortedFrom none
    a4.frozen = true ∧ aSortedFrom none a4.held = true ∧ (a4.cmd.pkts.map (fun y => y.id)).Nodup ∧ (∀ y ∈ a4.cmd.pkts, y.id <
    a4.cmd.nextId) ∧ (16 = 16 ∨ 16 = 24 ∨ 16 = 48) ∧ List.find? (fun x1 => x1.ring == 3 && x1.op == 16 && x1.st == 3) a4.cmd.pkts = some
    (s4.cmd.pkts.getD 0 (out 0 0 0 0 0)) ∧ compOn a4 1 = true ∧ compOn a4 (blockComp 16) = true ∧ (nth (s4.cmd.pkts.getD 0 (out 0 0 0 0
    0)).body 6) < 4 ∧ (16 = 48 → (nth (s4.cmd.pkts.getD 0 (out 0 0 0 0 0)).body 6) < 3) ∧ crc32c (s4.cmd.pkts.getD 0 (out 0 0 0 0
    0)).data = ofLE (List.take 4 (List.drop 8 (s4.cmd.pkts.getD 0 (out 0 0 0 0 0)).body)) ∧ (ofLE (List.take 4 (s4.cmd.pkts.getD 0 (out
    0 0 0 0 0)).body)) ≠ 0 ∧ 16 ≠ 48 ∧ xferOf a4 (blockKey (s4.cmd.pkts.getD 0 (out 0 0 0 0 0))) = none) := by decide +kernel
theorem witness_BlocksAreTakenInParts_5 :
  (3 < 72 ∧ aSortedFrom none a6.landing = true ∧ aSortedFrom none a6.wrote = true ∧ aSortedFrom none a6.pend = true ∧ aSortedFrom none
    a6.frozen = true ∧ aSortedFrom none a6.held = true ∧ (a6.cmd.pkts.map (fun y => y.id)).Nodup ∧ (∀ y ∈ a6.cmd.pkts, y.id <
    a6.cmd.nextId) ∧ (16 = 16 ∨ 16 = 24 ∨ 16 = 48) ∧ List.find? (fun x1 => x1.ring == 3 && x1.op == 16 && x1.st == 3) a6.cmd.pkts = some
    (s6.cmd.pkts.getD 0 (out 0 0 0 0 0)) ∧ compOn a6 1 = true ∧ compOn a6 (blockComp 16) = true ∧ (nth (s6.cmd.pkts.getD 0 (out 0 0 0 0
    0)).body 6) < 4 ∧ (16 = 48 → (nth (s6.cmd.pkts.getD 0 (out 0 0 0 0 0)).body 6) < 3) ∧ crc32c (s6.cmd.pkts.getD 0 (out 0 0 0 0
    0)).data = ofLE (List.take 4 (List.drop 8 (s6.cmd.pkts.getD 0 (out 0 0 0 0 0)).body)) ∧ (ofLE (List.take 4 (s6.cmd.pkts.getD 0 (out
    0 0 0 0 0)).body)) ≠ 0 ∧ xferOf a6 (blockKey (s6.cmd.pkts.getD 0 (out 0 0 0 0 0))) = some ((xferOf a6 (blockKey (s6.cmd.pkts.getD 0
    (out 0 0 0 0 0)))).getD ⟨[], [], none, false⟩) ∧ (((xferOf a6 (blockKey (s6.cmd.pkts.getD 0 (out 0 0 0 0 0)))).getD ⟨[], [], none,
    false⟩).refused = true ∨ ∃ n ∈ (((xferOf a6 (blockKey (s6.cmd.pkts.getD 0 (out 0 0 0 0 0)))).getD ⟨[], [], none,
    false⟩).len).toList, n < ((ofLE (List.take 4 (s6.cmd.pkts.getD 0 (out 0 0 0 0 0)).body)) + ((s6.cmd.pkts.getD 0 (out 0 0 0 0
    0)).data.length)))) := by decide +kernel
theorem witness_BlocksAreTakenInParts_6 :
  (3 < 72 ∧ aSortedFrom none a8.landing = true ∧ aSortedFrom none a8.wrote = true ∧ aSortedFrom none a8.pend = true ∧ aSortedFrom none
    a8.frozen = true ∧ aSortedFrom none a8.held = true ∧ (a8.cmd.pkts.map (fun y => y.id)).Nodup ∧ (∀ y ∈ a8.cmd.pkts, y.id <
    a8.cmd.nextId) ∧ (16 = 16 ∨ 16 = 24 ∨ 16 = 48) ∧ List.find? (fun x1 => x1.ring == 3 && x1.op == 16 && x1.st == 3) a8.cmd.pkts = some
    (s8.cmd.pkts.getD 0 (out 0 0 0 0 0)) ∧ compOn a8 1 = true ∧ compOn a8 (blockComp 16) = true ∧ (nth (s8.cmd.pkts.getD 0 (out 0 0 0 0
    0)).body 6) < 4 ∧ (16 = 48 → (nth (s8.cmd.pkts.getD 0 (out 0 0 0 0 0)).body 6) < 3) ∧ crc32c (s8.cmd.pkts.getD 0 (out 0 0 0 0
    0)).data = ofLE (List.take 4 (List.drop 8 (s8.cmd.pkts.getD 0 (out 0 0 0 0 0)).body)) ∧ (ofLE (List.take 4 (s8.cmd.pkts.getD 0 (out
    0 0 0 0 0)).body)) ≠ 0 ∧ xferOf a8 (blockKey (s8.cmd.pkts.getD 0 (out 0 0 0 0 0))) = some ((xferOf a8 (blockKey (s8.cmd.pkts.getD 0
    (out 0 0 0 0 0)))).getD ⟨[], [], none, false⟩) ∧ ((xferOf a8 (blockKey (s8.cmd.pkts.getD 0 (out 0 0 0 0 0)))).getD ⟨[], [], none,
    false⟩).refused = false ∧ ((xferOf a8 (blockKey (s8.cmd.pkts.getD 0 (out 0 0 0 0 0)))).getD ⟨[], [], none, false⟩).len = some 100 ∧
    ((ofLE (List.take 4 (s8.cmd.pkts.getD 0 (out 0 0 0 0 0)).body)) + ((s8.cmd.pkts.getD 0 (out 0 0 0 0 0)).data.length)) ≤ 100 ∧ covers
    (addRange (ofLE (List.take 4 (s8.cmd.pkts.getD 0 (out 0 0 0 0 0)).body)) ((ofLE (List.take 4 (s8.cmd.pkts.getD 0 (out 0 0 0 0
    0)).body)) + ((s8.cmd.pkts.getD 0 (out 0 0 0 0 0)).data.length)) ((xferOf a8 (blockKey (s8.cmd.pkts.getD 0 (out 0 0 0 0 0)))).getD
    ⟨[], [], none, false⟩).got) 100 = false) := by decide +kernel
theorem witness_BlocksAreTakenInParts_7 :
  (3 < 72 ∧ aSortedFrom none a25.landing = true ∧ aSortedFrom none a25.wrote = true ∧ aSortedFrom none a25.pend = true ∧ aSortedFrom
    none a25.frozen = true ∧ aSortedFrom none a25.held = true ∧ (a25.cmd.pkts.map (fun y => y.id)).Nodup ∧ (∀ y ∈ a25.cmd.pkts, y.id <
    a25.cmd.nextId) ∧ (48 = 16 ∨ 48 = 24 ∨ 48 = 48) ∧ List.find? (fun x1 => x1.ring == 3 && x1.op == 48 && x1.st == 3) a25.cmd.pkts =
    some (s25.cmd.pkts.getD 0 (out 0 0 0 0 0)) ∧ compOn a25 1 = true ∧ compOn a25 (blockComp 48) = true ∧ (nth (s25.cmd.pkts.getD 0 (out
    0 0 0 0 0)).body 6) < 4 ∧ (48 = 48 → (nth (s25.cmd.pkts.getD 0 (out 0 0 0 0 0)).body 6) < 3) ∧ crc32c (s25.cmd.pkts.getD 0 (out 0 0
    0 0 0)).data = ofLE (List.take 4 (List.drop 8 (s25.cmd.pkts.getD 0 (out 0 0 0 0 0)).body)) ∧ (ofLE (List.take 4 (s25.cmd.pkts.getD 0
    (out 0 0 0 0 0)).body)) ≠ 0 ∧ xferOf a25 (blockKey (s25.cmd.pkts.getD 0 (out 0 0 0 0 0))) = some ((xferOf a25 (blockKey
    (s25.cmd.pkts.getD 0 (out 0 0 0 0 0)))).getD ⟨[], [], none, false⟩) ∧ ((xferOf a25 (blockKey (s25.cmd.pkts.getD 0 (out 0 0 0 0
    0)))).getD ⟨[], [], none, false⟩).refused = false ∧ ((xferOf a25 (blockKey (s25.cmd.pkts.getD 0 (out 0 0 0 0 0)))).getD ⟨[], [],
    none, false⟩).len = some 2600 ∧ ((ofLE (List.take 4 (s25.cmd.pkts.getD 0 (out 0 0 0 0 0)).body)) + ((s25.cmd.pkts.getD 0 (out 0 0 0
    0 0)).data.length)) ≤ 2600 ∧ covers (addRange (ofLE (List.take 4 (s25.cmd.pkts.getD 0 (out 0 0 0 0 0)).body)) ((ofLE (List.take 4
    (s25.cmd.pkts.getD 0 (out 0 0 0 0 0)).body)) + ((s25.cmd.pkts.getD 0 (out 0 0 0 0 0)).data.length)) ((xferOf a25 (blockKey
    (s25.cmd.pkts.getD 0 (out 0 0 0 0 0)))).getD ⟨[], [], none, false⟩).got) 2600 = true) := by decide +kernel
theorem witness_BlocksAreTakenInParts_8 :
  (3 < 72 ∧ aSortedFrom none a12.landing = true ∧ aSortedFrom none a12.wrote = true ∧ aSortedFrom none a12.pend = true ∧ aSortedFrom
    none a12.frozen = true ∧ aSortedFrom none a12.held = true ∧ (a12.cmd.pkts.map (fun y => y.id)).Nodup ∧ (∀ y ∈ a12.cmd.pkts, y.id <
    a12.cmd.nextId) ∧ (16 = 16 ∨ 16 = 24 ∨ 16 = 48) ∧ List.find? (fun x1 => x1.ring == 3 && x1.op == 16 && x1.st == 3) a12.cmd.pkts =
    some (s12.cmd.pkts.getD 0 (out 0 0 0 0 0)) ∧ compOn a12 1 = true ∧ compOn a12 (blockComp 16) = true ∧ (nth (s12.cmd.pkts.getD 0 (out
    0 0 0 0 0)).body 6) < 4 ∧ (16 = 48 → (nth (s12.cmd.pkts.getD 0 (out 0 0 0 0 0)).body 6) < 3) ∧ crc32c (s12.cmd.pkts.getD 0 (out 0 0
    0 0 0)).data = ofLE (List.take 4 (List.drop 8 (s12.cmd.pkts.getD 0 (out 0 0 0 0 0)).body)) ∧ (ofLE (List.take 4 (s12.cmd.pkts.getD 0
    (out 0 0 0 0 0)).body)) = 0 ∧ 16 ≠ 48 ∧ (if 16 = 16 then planTarget else progTarget (nth (s12.cmd.pkts.getD 0 (out 0 0 0 0 0)).body
    6)).head ≤ ((s12.cmd.pkts.getD 0 (out 0 0 0 0 0)).data.length) ∧ (if 16 = 16 then planTarget else progTarget (nth (s12.cmd.pkts.getD
    0 (out 0 0 0 0 0)).body 6)).check a12 (memPut [] 0 (s12.cmd.pkts.getD 0 (out 0 0 0 0 0)).data) = some (37, 1)) := by decide +kernel
theorem witness_BlocksAreTakenInParts_9 :
  (3 < 72 ∧ aSortedFrom none a15.landing = true ∧ aSortedFrom none a15.wrote = true ∧ aSortedFrom none a15.pend = true ∧ aSortedFrom
    none a15.frozen = true ∧ aSortedFrom none a15.held = true ∧ (a15.cmd.pkts.map (fun y => y.id)).Nodup ∧ (∀ y ∈ a15.cmd.pkts, y.id <
    a15.cmd.nextId) ∧ (16 = 16 ∨ 16 = 24 ∨ 16 = 48) ∧ List.find? (fun x1 => x1.ring == 3 && x1.op == 16 && x1.st == 3) a15.cmd.pkts =
    some (s15.cmd.pkts.getD 0 (out 0 0 0 0 0)) ∧ compOn a15 1 = true ∧ compOn a15 (blockComp 16) = true ∧ (nth (s15.cmd.pkts.getD 0 (out
    0 0 0 0 0)).body 6) < 4 ∧ (16 = 48 → (nth (s15.cmd.pkts.getD 0 (out 0 0 0 0 0)).body 6) < 3) ∧ crc32c (s15.cmd.pkts.getD 0 (out 0 0
    0 0 0)).data = ofLE (List.take 4 (List.drop 8 (s15.cmd.pkts.getD 0 (out 0 0 0 0 0)).body)) ∧ (ofLE (List.take 4 (s15.cmd.pkts.getD 0
    (out 0 0 0 0 0)).body)) = 0 ∧ 16 ≠ 48 ∧ (if 16 = 16 then planTarget else progTarget (nth (s15.cmd.pkts.getD 0 (out 0 0 0 0 0)).body
    6)).head ≤ ((s15.cmd.pkts.getD 0 (out 0 0 0 0 0)).data.length) ∧ (if 16 = 16 then planTarget else progTarget (nth (s15.cmd.pkts.getD
    0 (out 0 0 0 0 0)).body 6)).check a15 (memPut [] 0 (s15.cmd.pkts.getD 0 (out 0 0 0 0 0)).data) = none ∧ (if 16 = 16 then planTarget
    else progTarget (nth (s15.cmd.pkts.getD 0 (out 0 0 0 0 0)).body 6)).lenOf (memPut [] 0 (s15.cmd.pkts.getD 0 (out 0 0 0 0 0)).data) <
    ((s15.cmd.pkts.getD 0 (out 0 0 0 0 0)).data.length)) := by decide +kernel
theorem witness_BlocksAreTakenInParts_10 :
  (3 < 72 ∧ aSortedFrom none a11.landing = true ∧ aSortedFrom none a11.wrote = true ∧ aSortedFrom none a11.pend = true ∧ aSortedFrom
    none a11.frozen = true ∧ aSortedFrom none a11.held = true ∧ (a11.cmd.pkts.map (fun y => y.id)).Nodup ∧ (∀ y ∈ a11.cmd.pkts, y.id <
    a11.cmd.nextId) ∧ (16 = 16 ∨ 16 = 24 ∨ 16 = 48) ∧ List.find? (fun x1 => x1.ring == 3 && x1.op == 16 && x1.st == 3) a11.cmd.pkts =
    some (s11.cmd.pkts.getD 0 (out 0 0 0 0 0)) ∧ compOn a11 1 = true ∧ compOn a11 (blockComp 16) = true ∧ (nth (s11.cmd.pkts.getD 0 (out
    0 0 0 0 0)).body 6) < 4 ∧ (16 = 48 → (nth (s11.cmd.pkts.getD 0 (out 0 0 0 0 0)).body 6) < 3) ∧ crc32c (s11.cmd.pkts.getD 0 (out 0 0
    0 0 0)).data = ofLE (List.take 4 (List.drop 8 (s11.cmd.pkts.getD 0 (out 0 0 0 0 0)).body)) ∧ (ofLE (List.take 4 (s11.cmd.pkts.getD 0
    (out 0 0 0 0 0)).body)) = 0 ∧ 16 ≠ 48 ∧ (if 16 = 16 then planTarget else progTarget (nth (s11.cmd.pkts.getD 0 (out 0 0 0 0 0)).body
    6)).head ≤ ((s11.cmd.pkts.getD 0 (out 0 0 0 0 0)).data.length) ∧ (if 16 = 16 then planTarget else progTarget (nth (s11.cmd.pkts.getD
    0 (out 0 0 0 0 0)).body 6)).check a11 (memPut [] 0 (s11.cmd.pkts.getD 0 (out 0 0 0 0 0)).data) = none ∧ ((s11.cmd.pkts.getD 0 (out 0
    0 0 0 0)).data.length) < (if 16 = 16 then planTarget else progTarget (nth (s11.cmd.pkts.getD 0 (out 0 0 0 0 0)).body 6)).lenOf
    (memPut [] 0 (s11.cmd.pkts.getD 0 (out 0 0 0 0 0)).data)) := by decide +kernel
theorem witness_BlocksAreTakenInParts_11 :
  (3 < 72 ∧ aSortedFrom none a14.landing = true ∧ aSortedFrom none a14.wrote = true ∧ aSortedFrom none a14.pend = true ∧ aSortedFrom
    none a14.frozen = true ∧ aSortedFrom none a14.held = true ∧ (a14.cmd.pkts.map (fun y => y.id)).Nodup ∧ (∀ y ∈ a14.cmd.pkts, y.id <
    a14.cmd.nextId) ∧ (16 = 16 ∨ 16 = 24 ∨ 16 = 48) ∧ List.find? (fun x1 => x1.ring == 3 && x1.op == 16 && x1.st == 3) a14.cmd.pkts =
    some (s14.cmd.pkts.getD 0 (out 0 0 0 0 0)) ∧ compOn a14 1 = true ∧ compOn a14 (blockComp 16) = true ∧ (nth (s14.cmd.pkts.getD 0 (out
    0 0 0 0 0)).body 6) < 4 ∧ (16 = 48 → (nth (s14.cmd.pkts.getD 0 (out 0 0 0 0 0)).body 6) < 3) ∧ crc32c (s14.cmd.pkts.getD 0 (out 0 0
    0 0 0)).data = ofLE (List.take 4 (List.drop 8 (s14.cmd.pkts.getD 0 (out 0 0 0 0 0)).body)) ∧ (ofLE (List.take 4 (s14.cmd.pkts.getD 0
    (out 0 0 0 0 0)).body)) = 0 ∧ 16 ≠ 48 ∧ (if 16 = 16 then planTarget else progTarget (nth (s14.cmd.pkts.getD 0 (out 0 0 0 0 0)).body
    6)).head ≤ ((s14.cmd.pkts.getD 0 (out 0 0 0 0 0)).data.length) ∧ (if 16 = 16 then planTarget else progTarget (nth (s14.cmd.pkts.getD
    0 (out 0 0 0 0 0)).body 6)).check a14 (memPut [] 0 (s14.cmd.pkts.getD 0 (out 0 0 0 0 0)).data) = none ∧ ((s14.cmd.pkts.getD 0 (out 0
    0 0 0 0)).data.length) = (if 16 = 16 then planTarget else progTarget (nth (s14.cmd.pkts.getD 0 (out 0 0 0 0 0)).body 6)).lenOf
    (memPut [] 0 (s14.cmd.pkts.getD 0 (out 0 0 0 0 0)).data)) := by decide +kernel
theorem witness_BlocksAreTakenInParts_12 :
  (3 < 72 ∧ aSortedFrom none a19.landing = true ∧ aSortedFrom none a19.wrote = true ∧ aSortedFrom none a19.pend = true ∧ aSortedFrom
    none a19.frozen = true ∧ aSortedFrom none a19.held = true ∧ (a19.cmd.pkts.map (fun y => y.id)).Nodup ∧ (∀ y ∈ a19.cmd.pkts, y.id <
    a19.cmd.nextId) ∧ (48 = 16 ∨ 48 = 24 ∨ 48 = 48) ∧ List.find? (fun x1 => x1.ring == 3 && x1.op == 48 && x1.st == 3) a19.cmd.pkts =
    some (s19.cmd.pkts.getD 0 (out 0 0 0 0 0)) ∧ compOn a19 1 = true ∧ compOn a19 (blockComp 48) = true ∧ (nth (s19.cmd.pkts.getD 0 (out
    0 0 0 0 0)).body 6) < 4 ∧ (48 = 48 → (nth (s19.cmd.pkts.getD 0 (out 0 0 0 0 0)).body 6) < 3) ∧ crc32c (s19.cmd.pkts.getD 0 (out 0 0
    0 0 0)).data = ofLE (List.take 4 (List.drop 8 (s19.cmd.pkts.getD 0 (out 0 0 0 0 0)).body)) ∧ 48 = 48 ∧ (ofLE (List.take 4
    (s19.cmd.pkts.getD 0 (out 0 0 0 0 0)).body)) = 0 ∧ (updState a19 = updPending ∨ updState a19 = updGap ∨ updState a19 = updTrial)) := by decide +kernel
theorem witness_BlocksAreTakenInParts_13 :
  (3 < 72 ∧ aSortedFrom none a13.landing = true ∧ aSortedFrom none a13.wrote = true ∧ aSortedFrom none a13.pend = true ∧ aSortedFrom
    none a13.frozen = true ∧ aSortedFrom none a13.held = true ∧ (a13.cmd.pkts.map (fun y => y.id)).Nodup ∧ (∀ y ∈ a13.cmd.pkts, y.id <
    a13.cmd.nextId) ∧ (48 = 16 ∨ 48 = 24 ∨ 48 = 48) ∧ List.find? (fun x1 => x1.ring == 3 && x1.op == 48 && x1.st == 3) a13.cmd.pkts =
    some (s13.cmd.pkts.getD 0 (out 0 0 0 0 0)) ∧ compOn a13 1 = true ∧ compOn a13 (blockComp 48) = true ∧ (nth (s13.cmd.pkts.getD 0 (out
    0 0 0 0 0)).body 6) < 4 ∧ (48 = 48 → (nth (s13.cmd.pkts.getD 0 (out 0 0 0 0 0)).body 6) < 3) ∧ crc32c (s13.cmd.pkts.getD 0 (out 0 0
    0 0 0)).data = ofLE (List.take 4 (List.drop 8 (s13.cmd.pkts.getD 0 (out 0 0 0 0 0)).body)) ∧ 48 = 48 ∧ (ofLE (List.take 4
    (s13.cmd.pkts.getD 0 (out 0 0 0 0 0)).body)) = 0 ∧ updState a13 ≠ updPending ∧ updState a13 ≠ updGap ∧ updState a13 ≠ updTrial ∧ (∀
    e ∈ a13.upd.check, e.1 ≠ (nth (s13.cmd.pkts.getD 0 (out 0 0 0 0 0)).body 6)) ∧ (nth (s13.cmd.pkts.getD 0 (out 0 0 0 0 0)).body 6) <
    2 ∧ ((s13.cmd.pkts.getD 0 (out 0 0 0 0 0)).data.length) < 512) := by decide +kernel
theorem witness_BlocksAreTakenInParts_14 :
  (3 < 72 ∧ aSortedFrom none a20.landing = true ∧ aSortedFrom none a20.wrote = true ∧ aSortedFrom none a20.pend = true ∧ aSortedFrom
    none a20.frozen = true ∧ aSortedFrom none a20.held = true ∧ (a20.cmd.pkts.map (fun y => y.id)).Nodup ∧ (∀ y ∈ a20.cmd.pkts, y.id <
    a20.cmd.nextId) ∧ (48 = 16 ∨ 48 = 24 ∨ 48 = 48) ∧ List.find? (fun x1 => x1.ring == 3 && x1.op == 48 && x1.st == 3) a20.cmd.pkts =
    some (s20.cmd.pkts.getD 0 (out 0 0 0 0 0)) ∧ compOn a20 1 = true ∧ compOn a20 (blockComp 48) = true ∧ (nth (s20.cmd.pkts.getD 0 (out
    0 0 0 0 0)).body 6) < 4 ∧ (48 = 48 → (nth (s20.cmd.pkts.getD 0 (out 0 0 0 0 0)).body 6) < 3) ∧ crc32c (s20.cmd.pkts.getD 0 (out 0 0
    0 0 0)).data = ofLE (List.take 4 (List.drop 8 (s20.cmd.pkts.getD 0 (out 0 0 0 0 0)).body)) ∧ 48 = 48 ∧ (ofLE (List.take 4
    (s20.cmd.pkts.getD 0 (out 0 0 0 0 0)).body)) = 0 ∧ updState a20 ≠ updPending ∧ updState a20 ≠ updGap ∧ updState a20 ≠ updTrial ∧ (∀
    e ∈ a20.upd.check, e.1 ≠ (nth (s20.cmd.pkts.getD 0 (out 0 0 0 0 0)).body 6)) ∧ xferOf a20 (blockKey (s20.cmd.pkts.getD 0 (out 0 0 0
    0 0))) = none ∧ 512 ≤ ((s20.cmd.pkts.getD 0 (out 0 0 0 0 0)).data.length) ∧ (nth (s20.cmd.pkts.getD 0 (out 0 0 0 0 0)).body 6) < 2 ∧
    imgHeader (nth (s20.cmd.pkts.getD 0 (out 0 0 0 0 0)).body 6) true true (unstage (nth (s20.cmd.pkts.getD 0 (out 0 0 0 0 0)).body 6)
    a20) (memPut [] 0 (s20.cmd.pkts.getD 0 (out 0 0 0 0 0)).data) = some (39, 4)) := by decide +kernel
theorem witness_BlocksAreTakenInParts_15 :
  (3 < 72 ∧ aSortedFrom none a24.landing = true ∧ aSortedFrom none a24.wrote = true ∧ aSortedFrom none a24.pend = true ∧ aSortedFrom
    none a24.frozen = true ∧ aSortedFrom none a24.held = true ∧ (a24.cmd.pkts.map (fun y => y.id)).Nodup ∧ (∀ y ∈ a24.cmd.pkts, y.id <
    a24.cmd.nextId) ∧ (48 = 16 ∨ 48 = 24 ∨ 48 = 48) ∧ List.find? (fun x1 => x1.ring == 3 && x1.op == 48 && x1.st == 3) a24.cmd.pkts =
    some (s24.cmd.pkts.getD 0 (out 0 0 0 0 0)) ∧ compOn a24 1 = true ∧ compOn a24 (blockComp 48) = true ∧ (nth (s24.cmd.pkts.getD 0 (out
    0 0 0 0 0)).body 6) < 4 ∧ (48 = 48 → (nth (s24.cmd.pkts.getD 0 (out 0 0 0 0 0)).body 6) < 3) ∧ crc32c (s24.cmd.pkts.getD 0 (out 0 0
    0 0 0)).data = ofLE (List.take 4 (List.drop 8 (s24.cmd.pkts.getD 0 (out 0 0 0 0 0)).body)) ∧ 48 = 48 ∧ (ofLE (List.take 4
    (s24.cmd.pkts.getD 0 (out 0 0 0 0 0)).body)) = 0 ∧ updState a24 ≠ updPending ∧ updState a24 ≠ updGap ∧ updState a24 ≠ updTrial ∧ (∀
    e ∈ a24.upd.check, e.1 ≠ (nth (s24.cmd.pkts.getD 0 (out 0 0 0 0 0)).body 6)) ∧ xferOf a24 (blockKey (s24.cmd.pkts.getD 0 (out 0 0 0
    0 0))) = none ∧ 512 ≤ ((s24.cmd.pkts.getD 0 (out 0 0 0 0 0)).data.length) ∧ (nth (s24.cmd.pkts.getD 0 (out 0 0 0 0 0)).body 6) = 2 ∧
    (hdr (memPut [] 0 (s24.cmd.pkts.getD 0 (out 0 0 0 0 0)).data) 16 4 < 512 ∨ 65536 < hdr (memPut [] 0 (s24.cmd.pkts.getD 0 (out 0 0 0
    0 0)).data) 16 4) ∧ imgHeader (nth (s24.cmd.pkts.getD 0 (out 0 0 0 0 0)).body 6) true true (unstage (nth (s24.cmd.pkts.getD 0 (out 0
    0 0 0 0)).body 6) a24) (memPut [] 0 (s24.cmd.pkts.getD 0 (out 0 0 0 0 0)).data) = some (33, 2)) := by decide +kernel
theorem witness_BlocksAreTakenInParts_16 :
  (3 < 72 ∧ aSortedFrom none a23.landing = true ∧ aSortedFrom none a23.wrote = true ∧ aSortedFrom none a23.pend = true ∧ aSortedFrom
    none a23.frozen = true ∧ aSortedFrom none a23.held = true ∧ (a23.cmd.pkts.map (fun y => y.id)).Nodup ∧ (∀ y ∈ a23.cmd.pkts, y.id <
    a23.cmd.nextId) ∧ (48 = 16 ∨ 48 = 24 ∨ 48 = 48) ∧ List.find? (fun x1 => x1.ring == 3 && x1.op == 48 && x1.st == 3) a23.cmd.pkts =
    some (s23.cmd.pkts.getD 0 (out 0 0 0 0 0)) ∧ compOn a23 1 = true ∧ compOn a23 (blockComp 48) = true ∧ (nth (s23.cmd.pkts.getD 0 (out
    0 0 0 0 0)).body 6) < 4 ∧ (48 = 48 → (nth (s23.cmd.pkts.getD 0 (out 0 0 0 0 0)).body 6) < 3) ∧ crc32c (s23.cmd.pkts.getD 0 (out 0 0
    0 0 0)).data = ofLE (List.take 4 (List.drop 8 (s23.cmd.pkts.getD 0 (out 0 0 0 0 0)).body)) ∧ 48 = 48 ∧ (ofLE (List.take 4
    (s23.cmd.pkts.getD 0 (out 0 0 0 0 0)).body)) = 0 ∧ updState a23 ≠ updPending ∧ updState a23 ≠ updGap ∧ updState a23 ≠ updTrial ∧ (∀
    e ∈ a23.upd.check, e.1 ≠ (nth (s23.cmd.pkts.getD 0 (out 0 0 0 0 0)).body 6)) ∧ xferOf a23 (blockKey (s23.cmd.pkts.getD 0 (out 0 0 0
    0 0))) = none ∧ 512 ≤ ((s23.cmd.pkts.getD 0 (out 0 0 0 0 0)).data.length) ∧ ((nth (s23.cmd.pkts.getD 0 (out 0 0 0 0 0)).body 6) = 2
    ∧ hdr (memPut [] 0 (s23.cmd.pkts.getD 0 (out 0 0 0 0 0)).data) 16 4 ≤ 65536 ∨ imgHeader (nth (s23.cmd.pkts.getD 0 (out 0 0 0 0
    0)).body 6) true true (unstage (nth (s23.cmd.pkts.getD 0 (out 0 0 0 0 0)).body 6) a23) (memPut [] 0 (s23.cmd.pkts.getD 0 (out 0 0 0
    0 0)).data) = none) ∧ ((s23.cmd.pkts.getD 0 (out 0 0 0 0 0)).data.length) < hdr (memPut [] 0 (s23.cmd.pkts.getD 0 (out 0 0 0 0
    0)).data) 16 4) := by decide +kernel
end BlocksAreTakenInParts

end Blocks

namespace Records

def b8 : List Nat := [1,2,3,4,5,6,7,8]
def r1 (kind code : Nat) : Arrival := recd kind code 0 b8
def scr (s : State) : State := w [(SEC.STATUS.SCRUB_ANY, 1)] s
def wat (k c : Nat) (s : State) : State := w [(EVR.WATCH.COUNT k, c), (EVR.WATCH.EVENT k, 0x123), (EVR.WATCH_LIST.OFFSET k 0, 0x24), (EVR.WATCH_LIST.OFFSET k 1, 0xD0000), (EVR.WATCH_LIST.OFFSET k 2, 0xE0000)] s
def sp (k n : Nat) (s : State) : State := ev (fun e => { e with snaps := [⟨k, 0, 0, 0, List.replicate n 5, false⟩] }) s
def hrs (n : Nat) (s : State) : State := tm (fun t => { t with hours := n }) s
def ctl (v : Nat) (s : State) : State := bs (fun b => { b with page := aPut 0 b.page (agentKey 1 0xD0038) v }) s
def puf (s : State) : State := w [(SEC.STATUS.PUF_OK, 1)] s
def seal1 (i g : Nat) (st : Bool) (s : State) : State := puf (ev (fun e => { e with seals := [(i, ⟨g, 3, st⟩)], log := memPut [] (4096 * i) b8 }) s)
def er (n wp : Nat) (s : State) : State := w [(EVR.FLASH.ERASED, n), (EVR.FLASH.GRANULE, wp)] s
def one : State := ev (fun e => { e with lastEpoch := 0 }) (match exec (.evrRecordPost 0) (inb [r1 4 0x123] R) with | .next t => t | _ => R)
def prev (l : Nat) (s : State) : State := ph (fun x => { x with pwrFailN := true }) (ev (fun e => { e with saltPrev := 9 }) (w [(SEC.LOG_KEY.PREV_VALID, 1), (SEC.LOG_KEY.GEN_CUR, 1), (SEC.LOG_KEY.GEN_PREV, 0), (SEC.LOG_KEY.LEFT, l)] s))
def ft (x : Nat) (s : State) : State := ev (fun e => { e with faultAt := some x }) (w [(EVR.STATUS.FLUSH_PENDING, 1)] s)
namespace RecordsTakeTheirNumbers
def s0 : State := R
def a0 : State := advance 0 s0
def s1 : State := inb [r1 4 0x123] R
def a1 : State := advance 0 s1
def s2 : State := scr (inb [r1 4 0x123] R)
def a2 : State := advance 0 s2
def s6 : State := { inb [r1 4 0x123] R with lostRec := 7 }
def a6 : State := advance 0 s6
def s7 : State := hrs (200*100000000) R
def a7 : State := advance 0 s7
def s9 : State := sp 2 0 (wat 2 3 R)
def a9 : State := advance 0 s9
def s12 : State := ctl (16 + 65536 * 5) R
def a12 : State := advance 0 s12
def s13 : State := ctl (16 + 65536 * 5) (seal1 5 0 false R)
def a13 : State := advance 0 s13
def x0 : Arrival := { ticks := 0, plane := 2, grp := 12, isRec := true, code := 291, kind := 4, info := 0, seq := 0, body := [1, 2, 3, 4, 5, 6, 7, 8] }
def x1 : Snap := { w := 2, seq := 0, at0 := 0, step := 0, vals := [], split := false }
theorem witness_RecordsTakeTheirNumbers_1 :
  (a2.inbox = x0 :: (a2.inbox.tail) ∧ x0.isRec = true ∧ a2.lostRec = 0 ∧ scrubOn a2 = true ∧ scrubType x0.kind = false) ∧
  (a1.inbox = x0 :: (a1.inbox.tail) ∧ x0.isRec = true ∧ a1.lostRec = 0 ∧ (scrubOn a1 = false ∨ scrubType x0.kind = true) ∧ (confBody a1
    x0.kind x0.code x0.body).length = x0.body.length ∧ (confBody a1 x0.kind x0.code x0.body).length ≤ 248) ∧
  (a6.inbox = x0 :: (a6.inbox.tail) ∧ x0.isRec = true ∧ a6.lostRec ≠ 0 ∧ waitingMsgs a6 < 255) ∧
  ((a0.inbox = [] ∨ ∃ r ∈ a0.inbox.take 1, r.isRec = false)) ∧
  (hours1024 a0 < a0.evr.lastEpoch + 131072) ∧
  (a7.evr.lastEpoch + 131072 ≤ hours1024 a7) ∧
  (2 < 8 ∧ 1 ≤ 1 ∧ List.find? (fun n => decide (n.w = 2)) a0.evr.snaps = none) := by decide +kernel
theorem witness_RecordsTakeTheirNumbers_2 :
  (2 < 8 ∧ 1 ≤ 1 ∧ List.find? (fun n1 => decide (n1.w = 2)) a9.evr.snaps = some x1 ∧ (x1.vals ++ List.map (fun i => Machine.hidden a9 1
    (getF a9 (EVR.WATCH_LIST.OFFSET 2 i)) (rawWord a9 1 (getF a9 (EVR.WATCH_LIST.OFFSET 2 i)) false)) (List.take 1 (List.drop
    x1.vals.length (List.range (watchCount a9 2))))).length < watchCount a9 2) ∧
  (2 < 8 ∧ 1 ≤ 5 ∧ List.find? (fun n1 => decide (n1.w = 2)) a9.evr.snaps = some x1 ∧ watchCount a9 2 ≤ (x1.vals ++ List.map (fun i =>
    Machine.hidden a9 1 (getF a9 (EVR.WATCH_LIST.OFFSET 2 i)) (rawWord a9 1 (getF a9 (EVR.WATCH_LIST.OFFSET 2 i)) false)) (List.take 5
    (List.drop x1.vals.length (List.range (watchCount a9 2))))).length) ∧
  (0 < 8192 ∧ mayRead a13 (BitVec.toNat (0x01#8)) (884736 + 4 * 0) = true ∧ columnOf a13 (BitVec.toNat (0x01#8)) = 0 ∧ bit (winCtrl a13
    (BitVec.toNat (0x01#8))) 4 = true ∧ 0 < 1024 ∧ granOpens a13 (bits (winCtrl a13 (BitVec.toNat (0x01#8))) 16 12) true = true) ∧
  (0 < 8192 ∧ mayRead a13 (BitVec.toNat (0x01#8)) (884736 + 4 * 0) = true ∧ columnOf a13 (BitVec.toNat (0x01#8)) = 0 ∧ bit (winCtrl a13
    (BitVec.toNat (0x01#8))) 4 = true ∧ 0 < 1024 ∧ granOpens a13 (bits (winCtrl a13 (BitVec.toNat (0x01#8))) 16 12) false = false ∧
    (aFind a13.evr.seals (bits (winCtrl a13 (BitVec.toNat (0x01#8))) 16 12)).isSome = true ∧ waitingMsgs a13 < 256) := by decide +kernel
theorem witness_RecordsTakeTheirNumbers_3 :
  (1024 < 8192 ∧ mayRead a12 (BitVec.toNat (0x01#8)) (884736 + 4 * 1024) = true ∧ columnOf a12 (BitVec.toNat (0x01#8)) = 0 ∧ bit
    (winCtrl a12 (BitVec.toNat (0x01#8))) 4 = true ∧ 1024 ≤ 1024) ∧
  (0 < 8192 ∧ mayRead a0 (BitVec.toNat (0x01#8)) (884736 + 4 * 0) = true ∧ columnOf a0 (BitVec.toNat (0x01#8)) = 0 ∧ bit (winCtrl a0
    (BitVec.toNat (0x01#8))) 4 = false ∧ waitingMsgs a0 < 256) := by decide +kernel
end RecordsTakeTheirNumbers
namespace FlushesSealTheBuffer
def s0 : State := R
def a0 : State := advance 0 s0
def s2 : State := flushBegin 1 one
def a2 : State := advance 0 s2
def s5 : State := ev (fun e => { e with again := 3 }) (flushBegin 1 (puf (er 8 3 one)))
def a5 : State := advance 0 s5
def s10 : State := running R
def a10 : State := advance 0 s10
def s15 : State := at_ 20000000 (w [(EVR.CTRL.FLUSH_MIN, 1)] (ft 5 R))
def a15 : State := advance 0 s15
def s16 : State := at_ 10000000 (prev 2 (seal1 11 0 false R))
def a16 : State := advance 0 s16
def s19 : State := at_ 10000000 (prev 5 (puf R))
def a19 : State := advance 0 s19
theorem witness_FlushesSealTheBuffer_1 :
  (flushing a0 = false) ∧
  (flushing a2 = true ∧ a2.evr.head = [] ∧ a2.evr.again = 0 ∧ a2.evr.job.length ≤ 64 ∧ writePt a2 < 4096 ∧ erased a2 < 4096 ∧ (∀ k ∈
    a2.evr.job, ∃ g ∈ a2.evr.grans, g.slot = k)) ∧
  (flushing a5 = true ∧ a5.evr.again ≠ 0) ∧
  (a15.evr.faultAt = some 5 ∧ getB a15 EVR.STATUS.FLUSH_PENDING = true ∧ (fun x1 => x1 + ms (100 * max 1 (getF a15 EVR.CTRL.FLUSH_MIN)))
    5 ≤ a15.time.ticks) ∧
  ((a0.evr.faultAt = none ∨ getB a0 EVR.STATUS.FLUSH_PENDING = false ∨ ∃ x ∈ (a0.evr.faultAt).toList, a0.time.ticks < (fun x => x + ms
    (100 * max 1 (getF a0 EVR.CTRL.FLUSH_MIN))) x)) ∧
  (0 = (writePt a10 + erased a10) % 4096 ∧ compOn a10 7 = true ∧ erased a10 < 4095) ∧
  ((compOn a0 7 = false ∨ 4095 ≤ erased a0)) ∧
  ((¬(prevValid a0 = true ∧ getB a0 SEC.STATUS.PUF_OK = true ∧ flushing a0 = false ∧ a0.phc.pwrFailN = true ∧ a0.evr.migAt + ms 10 ≤
    a0.time.ticks))) := by decide +kernel
theorem witness_FlushesSealTheBuffer_2 :
  (prevValid a19 = true ∧ getB a19 SEC.STATUS.PUF_OK = true ∧ flushing a19 = false ∧ a19.phc.pwrFailN = true ∧ a19.evr.migAt + ms 10 ≤
    a19.time.ticks ∧ migrateNext a19 = none) ∧
  (prevValid a16 = true ∧ getB a16 SEC.STATUS.PUF_OK = true ∧ flushing a16 = false ∧ a16.phc.pwrFailN = true ∧ a16.evr.migAt + ms 10 ≤
    a16.time.ticks ∧ migrateNext a16 = some 11 ∧ getF a16 SEC.LOG_KEY.LEFT < 8192 ∧ waitingMsgs a16 < 256) ∧
  (prevValid a16 = true ∧ getB a16 SEC.STATUS.PUF_OK = true ∧ flushing a16 = false ∧ a16.phc.pwrFailN = true ∧ a16.evr.migAt + ms 10 ≤
    a16.time.ticks ∧ migrateNext a16 = some 11 ∧ getF a16 SEC.LOG_KEY.LEFT < 8192) := by decide +kernel
end FlushesSealTheBuffer

end Records

namespace Faults

def pol (k n act win : Nat) (s : State) : State := w [(FLC.POLICY.N k, n), (FLC.POLICY.ACTION k, act), (FLC.POLICY.W k, win)] s
def m1 (s : State) : State := inb [msg 0x123 4 55 0] s
def cnt (src n : Nat) (s : State) : State := fl (fun x => { x with count := aPut 0 x.count src n, expect := aPut 0 x.expect 1 9 }) s
def sev (src : Nat) (s : State) : State := w [(FLC.SEVERE.SEVERE (src / 32), 2 ^ (src % 32)), (FLC.STATUS.SEVERE_ANY, 1), (FLC.STATUS.SEVERE_COUNT, 1)] s
def irq (s : State) : State := w [(FLC.CTRL.IRQ_EN, 1), (FLC.CTRL.VECTOR, 3)] s
def kick (x : Nat) (s : State) : State := fl (fun y => { y with kickAt := some x }) (w [(FLC.STATUS.HB_RUN, 1)] s)
namespace FaultsAreCountedAndActedOn
def s0 : State := R
def a0 : State := advance 0 s0
def s1 : State := m1 R
def a1 : State := advance 0 s1
def s12 : State := w [(FLC.STATUS.SELF_FAULT, 1)] (m1 R)
def a12 : State := advance 0 s12
def s14 : State := w [(SEC.STATUS.CONF, 1)] R
def a14 : State := advance 0 s14
def s15 : State := at_ 50000 (kick 3 R)
def a15 : State := advance 0 s15
def s17 : State := at_ 100000000 (kick 3 R)
def a17 : State := advance 0 s17
def s18 : State := w [(SEC.STATUS.PUF_OK, 1)] R
def a18 : State := advance 0 s18
def s19 : State := { R with sec := { R.sec with kxDraw := true } }
def a19 : State := advance 0 s19
def x0 : Arrival := { ticks := 0, plane := 2, grp := 1, isRec := false, code := 291, kind := 4, info := 55, seq := 0, body := [] }
theorem witness_FaultsAreCountedAndActedOn_1 :
  (a1.inbox = x0 :: (a1.inbox.tail) ∧ x0.isRec = false ∧ x0.code < 4096 ∧ a1.lostMsg = 0) ∧
  ((a0.inbox = [] ∨ ∃ r ∈ a0.inbox.take 1, r.isRec = true)) ∧
  (127 < 128) ∧
  ((0x40#8) ≠ 1 ∧ 127 < 128 ∧ mayWrite a0 (BitVec.toNat (0x40#8)) (856064 + 4 * 127) = true) ∧
  ((0x40#8) ≠ 1 ∧ mayWrite a0 (BitVec.toNat (0x40#8)) 852120 = true) ∧
  ((0x40#8) ≠ 1 ∧ mayWrite a0 (BitVec.toNat (0x40#8)) 917512 = true) ∧
  (4294967295 < 2 ^ 32 ∧ getB a0 FLC.STATUS.SELF_FAULT = false) ∧
  (4294967295 < 2 ^ 32 ∧ getB a12 FLC.STATUS.SELF_FAULT = true) ∧
  (confOn a0 = false) ∧
  (confOn a14 = true) ∧
  ((0x01#8) ≠ 64 ∧ mayWrite a0 (BitVec.toNat (0x01#8)) 852104 = true) := by decide +kernel
theorem witness_FaultsAreCountedAndActedOn_2 :
  (a15.time.ticks % us 500 = 0 ∧ a15.flc.hbAt ≠ a15.time.ticks ∧ getB a15 FLC.STATUS.HB_RUN = true ∧ a15.phc.resetN = true) ∧
  ((¬(a0.time.ticks % us 500 = 0 ∧ a0.flc.hbAt ≠ a0.time.ticks ∧ getB a0 FLC.STATUS.HB_RUN = true ∧ a0.phc.resetN = true))) ∧
  (a17.flc.kickAt = some 3 ∧ 3 + ms (getC a17 FLC.CTRL.HB_TIMEOUT 10 255) ≤ a17.time.ticks) ∧
  (a15.flc.kickAt = some 3 ∧ a15.time.ticks < 3 + ms (getC a15 FLC.CTRL.HB_TIMEOUT 10 255)) ∧
  (a0.flc.kickAt = none) ∧
  (getB a18 SEC.STATUS.PUF_OK = true) ∧
  (getB a0 SEC.STATUS.PUF_OK = false) ∧
  ((Instr.kxReady 0 (List.replicate 96 7) (List.replicate 96 9)).wf = true ∧ a19.sec.kxDraw = true) ∧
  ((Instr.kxReady 0 (List.replicate 96 7) (List.replicate 96 9)).wf = true ∧ a0.sec.kxDraw = false) := by decide +kernel
end FaultsAreCountedAndActedOn

end Faults

namespace Update

def put (b : List Nat) (o : Nat) (v : List Nat) : List Nat := b.take o ++ v ++ b.drop (o + v.length)
def img (k len svn : Nat) : List Nat := put (Z len) 0 (toLE 4 0x57465448 ++ [1,0,k,if k = 1 then 255 else 0] ++ toLE 4 (100 + k) ++ toLE 2 svn ++ toLE 2 0 ++ toLE 4 len)
def im (k svn : Nat) : Image := ⟨memPut [] 0 (img k (if k = 1 then 2560 else 520) svn), if k = 1 then 2560 else 520⟩
def st (x : Nat) (s : State) : State := w [(UPD.STATUS.STATE, x)] s
def both : List (Nat × Image) := [(0, im 0 1), (1, im 1 1), (2, im 2 1), (3, im 0 2), (4, im 1 2), (5, im 2 2)]
def upl (op : Nat) (s : State) : State := outs [out 9 3 op 5 0] (ring 3 [] s)
def chk (k : Nat) (s : State) : State := upd (fun u => { u with check := [(k, 9)] }) (upl 0x30 s)
def T (t : Nat) (s : State) : State := upd (fun u => { u with reqT := t }) (w [(UPD.ACT_TIME_LO.TIME, t)] s)
def stg (l : List Nat) (s : State) : State := upd (fun u => { u with staged := l }) s
def B : State := running (ph (fun x => { x with pwrFailN := true }) (upd (fun u => { u with slots := both }) R))
def cav : List Nat := let b := toLE 4 0x56524143 ++ toLE 2 1 ++ toLE 2 1 ++ toLE 4 40 ++ toLE 4 0 ++ Z 16 ++ [3,0,7,0,0,0,0,0]; put b 16 (toLE 4 (crc32c b))
def trial (s : State) : State := upd (fun u => { u with trial := true, acted := [0, 2], oldBank := 1, trialAt := 5 }) (st 5 s)
def fit (s : State) : State := fwm (fun x => { x with checkIn := (List.range 8).map (fun c => (c, 2000000000)) }) (upd (fun u => { u with selfBad := 0 }) (w [(UPD.CTRL.AUTO_CONFIRM, 1)] s))
namespace UpdatesAreCheckedAndTried
def s0 : State := R
def a0 : State := advance 0 s0
def s2 : State := chk 1 (running R)
def a2 : State := advance 0 s2
def s3 : State := chk 0 B
def a3 : State := advance 0 s3
def s5 : State := st 3 B
def a5 : State := advance 0 s5
def s7 : State := w [(LGV.STATUS.PROT_ACTIVE, 1)] (st 3 B)
def a7 : State := advance 0 s7
def s8 : State := w [(LGV.STATUS.PROT_ACTIVE, 1), (UPD.ACT_GROUP.MASK, 3)] (st 3 B)
def a8 : State := advance 0 s8
def s11 : State := upl 0x31 (stg [0] (st 3 B))
def a11 : State := advance 0 s11
def s13 : State := upl 0x31 (st 4 B)
def a13 : State := advance 0 s13
def s18 : State := fit (at_ 2000000000 (trial B))
def a18 : State := advance 0 s18
def s19 : State := at_ 200000000000 (trial B)
def a19 : State := advance 0 s19
def s21 : State := upd (fun u => { u with verified := some 100, resetDue := some (2, 0) }) (st 4 B)
def a21 : State := advance 0 s21
def x0 : NewImage := { decl := [(3, 7)], ok0 := true, ok1 := true, detail := 200 }
def x1 : NewImage := { decl := [], ok0 := false, ok1 := false, detail := 200 }
def x2 : NewImage := { decl := [], ok0 := false, ok1 := true, detail := 200 }
theorem witness_UpdatesAreCheckedAndTried_1 :
  ((Instr.updFullCheckDone 0 true true true true 77).wf = true ∧ (compOn a0 2 = false ∨ a0.upd.check = [])) ∧
  ((Instr.updFullCheckDone 0 true true true true 77).wf = true ∧ compOn a2 2 = true ∧ a2.upd.check = (1, 9) :: (a2.upd.check.tail) ∧
    imageIn a2 (idleBank a2) 1 = none) ∧
  ((Instr.updFullCheckDone 0 true true true true 77).wf = true ∧ compOn a3 2 = true ∧ a3.upd.check = (0, 9) :: (a3.upd.check.tail) ∧
    imageIn a3 (idleBank a3) 0 = some ((imageIn a3 (idleBank a3) 0).getD ⟨[], 0⟩) ∧ fullVerdict a3 0 ((imageIn a3 (idleBank a3) 0).getD
    ⟨[], 0⟩) true true true true = none) ∧
  ((Instr.updFullCheckDone 0 true true true false 77).wf = true ∧ compOn a3 2 = true ∧ a3.upd.check = (0, 9) :: (a3.upd.check.tail) ∧
    imageIn a3 (idleBank a3) 0 = some ((imageIn a3 (idleBank a3) 0).getD ⟨[], 0⟩) ∧ fullVerdict a3 0 ((imageIn a3 (idleBank a3) 0).getD
    ⟨[], 0⟩) true true true false = some (38, 9)) ∧
  (compOn a5 2 = true ∧ updState a5 = updPending ∧ a5.upd.decided = false ∧ actWithin a5 200000 = true ∧ actEmergency a5 = false ∧ ∀ x ∈
    (a5.upd.emergAt).toList, x + ms 10 ≤ a5.time.ticks) := by decide +kernel
theorem witness_UpdatesAreCheckedAndTried_2 :
  (compOn a7 2 = true ∧ updState a7 = updPending ∧ a7.upd.decided = false ∧ actWithin a7 200000 = true ∧ (¬(actEmergency a7 = false ∧ ∀
    x ∈ (a7.upd.emergAt).toList, x + ms 10 ≤ a7.time.ticks))) ∧
  ((¬(compOn a0 2 = true ∧ updState a0 = updPending ∧ a0.upd.decided = false ∧ actWithin a0 200000 = true))) ∧
  ((Instr.actSlot 0 0 []).wf = true ∧ (compOn a0 2 = false ∨ updState a0 ≠ updPending ∨ actWithin a0 0 = false)) ∧
  ((Instr.actSlot 0 0 []).wf = true ∧ compOn a8 2 = true ∧ updState a8 = updPending ∧ actWithin a8 0 = true ∧ ((getF a8
    UPD.ACT_GROUP.MASK).land (0 / 2 * 2 + b2n (actDecide a8).upd.deferOut)) ≠ 0) := by decide +kernel
theorem witness_UpdatesAreCheckedAndTried_3 :
  ((Instr.actSlot 0 0 []).wf = true ∧ compOn a11 2 = true ∧ updState a11 = updPending ∧ actWithin a11 0 = true ∧ ((getF a11
    UPD.ACT_GROUP.MASK).land (0 / 2 * 2 + b2n (actDecide a11).upd.deferOut)) = 0 ∧ receiving a11 = false ∧ activeBank a11 < 2 ∧
    a11.upd.staged.Nodup ∧ (∀ k ∈ a11.upd.staged, k < 3) ∧ 0 ∈ a11.upd.staged) ∧
  ((Instr.actSlot 0 0 []).wf = true ∧ compOn a5 2 = true ∧ updState a5 = updPending ∧ actWithin a5 0 = true ∧ ((getF a5
    UPD.ACT_GROUP.MASK).land (0 / 2 * 2 + b2n (actDecide a5).upd.deferOut)) = 0 ∧ receiving a5 = false ∧ activeBank a5 < 2 ∧
    a5.upd.staged.Nodup ∧ (∀ k ∈ a5.upd.staged, k < 3) ∧ 0 ∉ a5.upd.staged) ∧
  ((Instr.updHandover 0 x0).wf = true ∧ updState a0 ≠ updGap ∧ a0.upd.resetDue = none) := by decide +kernel
theorem witness_UpdatesAreCheckedAndTried_4 :
  ((Instr.updHandover 0 x1).wf = true ∧ updState a13 = updGap ∧ a13.upd.resetDue = none ∧ a13.upd.verified ≠ some (idIn a13 (activeBank
    a13) 0) ∧ bankPasses a13 (activeBank a13) (bankOk x1.ok0 x1.ok1 (activeBank a13)) = false ∧ (passOver x1.ok0 x1.ok1 x1.detail a13).2
    = false) ∧
  ((Instr.updHandover 0 x2).wf = true ∧ updState a13 = updGap ∧ a13.upd.resetDue = none ∧ a13.upd.verified ≠ some (idIn a13 (activeBank
    a13) 0) ∧ bankPasses a13 (activeBank a13) (bankOk x2.ok0 x2.ok1 (activeBank a13)) = false ∧ (passOver x2.ok0 x2.ok1 x2.detail a13).2
    = true ∧ a13.fw.absentOwed = false) ∧
  ((Instr.updHandover 0 x0).wf = true ∧ updState a13 = updGap ∧ a13.upd.resetDue = none ∧ a13.fw.absentOwed = false ∧ (a13.upd.verified
    = some (idIn a13 (activeBank a13) 0) ∨ bankPasses a13 (activeBank a13) (bankOk x0.ok0 x0.ok1 (activeBank a13)) = true)) ∧
  ((Instr.updHandover 0 x0).wf = true ∧ updState a21 = updGap ∧ a21.upd.resetDue = some (2, 0) ∧ atRest a21 = false ∧ a21.upd.verified =
    some (idIn a21 (activeBank a21) 0)) := by decide +kernel
theorem witness_UpdatesAreCheckedAndTried_5 :
  (compOn a18 2 = true ∧ updState a18 = updTrial ∧ getB a18 UPD.CTRL.AUTO_CONFIRM = true ∧ selfCheck a18 = true ∧ a18.upd.selfBad + ms
    10000 ≤ a18.time.ticks) ∧
  ((¬(compOn a0 2 = true ∧ updState a0 = updTrial ∧ getB a0 UPD.CTRL.AUTO_CONFIRM = true ∧ selfCheck a0 = true ∧ a0.upd.selfBad + ms
    10000 ≤ a0.time.ticks))) ∧
  (updState a19 = updTrial ∧ a19.upd.trialAt + ms (1000 * getC a19 UPD.CTRL.CONFIRM_S 10 255) ≤ a19.time.ticks) ∧
  ((¬(updState a0 = updTrial ∧ a0.upd.trialAt + ms (1000 * getC a0 UPD.CTRL.CONFIRM_S 10 255) ≤ a0.time.ticks))) := by decide +kernel
end UpdatesAreCheckedAndTried

end Update

namespace Pmb

def pg (m p : Nat) (s : State) : State := pmb (fun x => { x with page := aPut 0 x.page m p }) s
namespace PmbusAnswersForItsPage
def s0 : State := R
def a0 : State := advance 0 s0
def s1 : State := pg 0 4 R
def a1 : State := advance 0 s1
def s2 : State := pg 0 7 R
def a2 : State := advance 0 s2
def s3 : State := { R with upd := { R.upd with slots := [(2, ⟨[], 520⟩)] } }
def a3 : State := advance 0 s3
def s4 : State := pmb (fun x => { x with alert := true, live := liveNow R }) R
def a4 : State := advance 0 s4
def s6 : State := at_ 100000 (running R)
def a6 : State := advance 0 s6
def x0 : Image := { bytes := [], len := 520 }
theorem witness_PmbusAnswersForItsPage :
  (pageOf a0 0 ∈ [0, 1, 2, 3, 4]) ∧
  (pageOf a2 0 ∉ [0, 1, 2, 3, 4]) ∧
  (pageOf a0 0 ∈ [0, 1, 2, 3]) ∧
  (pageOf a1 0 ∉ [0, 1, 2, 3]) ∧
  (pageOf a1 0 ∈ [4]) ∧
  (pageOf a0 0 ∉ [4]) ∧
  (pageOf a1 0 = 4) ∧
  (pageOf a0 0 ≠ 4) ∧
  (imageIn a0 (activeBank a0) 2 = none) ∧
  (imageIn a3 (activeBank a3) 2 = some x0) ∧
  (0 ≤ 4) ∧
  (4 < 255 ∧ 255 < 256) ∧
  (0 < 256) ∧
  (0 < 2 ^ 32) ∧
  (a4.pmb.alert = true) ∧
  (a0.pmb.alert = false) ∧
  (a6.time.ticks % 100000 = 0 ∧ compOn a6 7 = true ∧ hostAbsentNow a6 = false) ∧
  ((a0.time.ticks % 100000 ≠ 0 ∨ compOn a0 7 = false ∨ hostAbsentNow a0 = true)) := by decide +kernel
end PmbusAnswersForItsPage

end Pmb

end Sys2Proof.Tests
end

section
/-! SUPPORT and O14. Accesses that R37 turns away: what they set, what they capture, and what they leave as it was. -/

namespace Sys2Proof.Machine

/-- What an access that R37 turns away leaves: its flag is set, the first one is captured, and nothing else changes but the bus itself. -/
def TurnedAway (a : State) (agent o : Nat) (flag : Fld) (t : State) : Prop :=
  waitingSame a t ∧ unitsSame a t ∧ t.inbox = a.inbox ∧ getB t flag = true ∧
    (getB a GLB.BUS_ERR_STATUS.UNMAPPED = false → getB a GLB.BUS_ERR_STATUS.PARTIAL_WRITE = false →
      getF t GLB.BUS_ERR_ADDR.OFFSET = o ∧ getF t GLB.BUS_ERR_STATUS.FIRST_AGENT = agent ∧
      fieldsBut [flag, GLB.BUS_ERR_STATUS.FIRST_AGENT, GLB.BUS_ERR_ADDR.OFFSET] a t) ∧
    (getB a GLB.BUS_ERR_STATUS.UNMAPPED = true ∨ getB a GLB.BUS_ERR_STATUS.PARTIAL_WRITE = true → fieldsBut [flag] a t)

/-- Nothing has gone wrong on the bus since its flags were cleared: the next access that R37 turns away is captured. -/
def noBusError (s : State) : Bool := !getB s GLB.BUS_ERR_STATUS.UNMAPPED && !getB s GLB.BUS_ERR_STATUS.PARTIAL_WRITE

theorem noBusError_iff (s : State) :
    noBusError s = true ↔ getB s GLB.BUS_ERR_STATUS.UNMAPPED = false ∧ getB s GLB.BUS_ERR_STATUS.PARTIAL_WRITE = false := by
  simp [noBusError]

theorem noBusError_eq_false_iff (s : State) :
    noBusError s = false ↔ getB s GLB.BUS_ERR_STATUS.UNMAPPED = true ∨ getB s GLB.BUS_ERR_STATUS.PARTIAL_WRITE = true := by
  simp [noBusError, imp_iff_not_or]

theorem busError_first {flag : Fld} {agent o : Nat} {s : State} (h : noBusError s = true) : busError flag agent o s =
    setB (setF (setF s GLB.BUS_ERR_ADDR.OFFSET o) GLB.BUS_ERR_STATUS.FIRST_AGENT agent) flag true :=
  congrArg (setB · flag true) (if_pos h)

theorem busError_later {flag : Fld} {agent o : Nat} {s : State} (h : noBusError s = false) :
    busError flag agent o s = setB s flag true :=
  congrArg (setB · flag true) (if_neg (Bool.eq_false_iff.mp h))

/-- It touches the register table alone. -/
theorem busError_frame (flag : Fld) (agent o : Nat) (s : State) :
    (busError flag agent o s).bus = s.bus ∧ (busError flag agent o s).inbox = s.inbox ∧ (busError flag agent o s).sta = s.sta ∧
      waitingSame s (busError flag agent o s) ∧ unitsSame s (busError flag agent o s) := by
  have hw : waitingSame s s := ⟨rfl, rfl, rfl, rfl, rfl⟩
  cases h : noBusError s with
  | true => rw [busError_first h]; exact ⟨rfl, rfl, rfl, hw, unitsSame_refl s⟩
  | false => rw [busError_later h]; exact ⟨rfl, rfl, rfl, hw, unitsSame_refl s⟩

/-- The first access that R37 turns away is captured. -/
theorem busError_captures {flag : Fld} {agent o : Nat} {s : State} (h : noBusError s = true) (ho : o < 2 ^ 20) (ha : agent < 2 ^ 8)
    (hfo : GLB.BUS_ERR_ADDR.OFFSET.key ≠ flag.key) (hfa : GLB.BUS_ERR_STATUS.FIRST_AGENT.key ≠ flag.key) :
    getF (busError flag agent o s) GLB.BUS_ERR_ADDR.OFFSET = o ∧
      getF (busError flag agent o s) GLB.BUS_ERR_STATUS.FIRST_AGENT = agent := by
  rw [busError_first h, getF_setB_ne _ _ hfo, getF_setB_ne _ _ hfa, getF_setF_ne _ _ (by decide), getF_setF_self, getF_setF_self]
  exact ⟨Nat.mod_eq_of_lt ho, Nat.mod_eq_of_lt ha⟩

/-- An access that R37 turns away, once what follows every event has happened. -/
theorem settle_busError {flag : Fld} {agent o : Nat} {a : State} (b : BusState) (hn : noEnd a) (ho : o < 2 ^ 20) (ha : agent < 2 ^ 8)
    (hw : flag.w = 1) (hfo : GLB.BUS_ERR_ADDR.OFFSET.key ≠ flag.key) (hfa : GLB.BUS_ERR_STATUS.FIRST_AGENT.key ≠ flag.key)
    (hft : flag.key ≠ TST.CTRL.OVERRIDE.key) :
    (settle (busError flag agent o (setBus b a))).bus = b ∧ TurnedAway a agent o flag (settle (busError flag agent o (setBus b a))) := by
  obtain ⟨hbus, hinbox, hsta, hwait, hunits⟩ := busError_frame flag agent o (setBus b a)
  have hn' : noEnd (busError flag agent o (setBus b a)) := noEnd_congr hn hsta
  have hflag : getB (busError flag agent o (setBus b a)) flag = true := getB_setB_self _ flag true hw
  refine ⟨(settle_bus hn').trans hbus, (waitingSame_settle hn').2 hwait, (unitsSame_settle hn').2 hunits, (settle_inbox hn').trans hinbox,
    ?_, fun hu hp => ?_, fun h => fieldsBut_settle hn' ?_⟩
  · rw [getB, getF_settle _ hn' hft]; exact hflag
  · have h : noBusError (setBus b a) = true := (noBusError_iff a).2 ⟨hu, hp⟩
    obtain ⟨hoff, hagent⟩ := busError_captures h ho ha hfo hfa
    refine ⟨(getF_settle _ hn' (by decide)).trans hoff, (getF_settle _ hn' (by decide)).trans hagent, fieldsBut_settle hn' ?_⟩
    rw [busError_first h]
    exact fieldsBut_setB (by simp) (fieldsBut_setF (by simp) (fieldsBut_setF (by simp) (fieldsBut_regs rfl)))
  · rw [busError_later (s := setBus b a) ((noBusError_eq_false_iff a).2 h)]
    exact fieldsBut_setB (by simp) (fieldsBut_regs rfl)

/-- An offset whose bits [1:0] are not zero has no register (R37). -/
theorem not_mapped_of_unaligned {o : Nat} (h : o % 4 ≠ 0) : mapped o = false := by simp [mapped, h]

/-! ### Which accesses R37 turns away -/

theorem busRead_unmapped {agent o : Nat} {tag : Option Bool} {s : State} (hr : mayRead s agent (o / 4 * 4) = true)
    (hm : mapped o = false) :
    busRead agent o tag s = busError GLB.BUS_ERR_STATUS.UNMAPPED agent o (setBus { s.bus with rdata := 0 } s) := by
  simp [busRead, hr, hm]

theorem busWrite_unmapped {agent o val be : Nat} {s : State} (hr : mayWrite s agent (o / 4 * 4) = true) (hm : mapped o = false) :
    busWrite agent o val be s = busError GLB.BUS_ERR_STATUS.UNMAPPED agent o s := by
  simp [busWrite, hr, hm]

theorem busWrite_partial {agent o val be : Nat} {s : State} (hr : mayWrite s agent (o / 4 * 4) = true) (hm : mapped o = true)
    (hb : be % 16 ≠ 15) : busWrite agent o val be s = busError GLB.BUS_ERR_STATUS.PARTIAL_WRITE agent o s := by
  simp [busWrite, hr, hm, hb]

/-- An UNMAPPED_ACCESS that R37 turns away: from its access alone follows what the command answers. -/
theorem answers_turnedAway {dt : Nat} {agent : Byte} {off : BitVec 20} {write : Bool} {v : Word} {be : BitVec 4} {s : State} {flag : Fld}
    (b : BusState) (he : busAccess agent.toNat off.toNat write v.toNat be.toNat (advance dt s) =
      busError flag agent.toNat off.toNat (setBus b (advance dt s)))
    (hf : flag = GLB.BUS_ERR_STATUS.UNMAPPED ∨ flag = GLB.BUS_ERR_STATUS.PARTIAL_WRITE) :
    Answers (.unmappedAccess dt agent off write v be) s
      (fun t => t.bus = b ∧ TurnedAway (advance dt s) agent.toNat off.toNat flag t) := by
  refine answers_act (exec_unmappedAccess ..) rfl ?_
  rw [he]
  rcases hf with rfl | rfl <;>
    exact settle_busError b (noEnd_advance dt s) off.isLt agent.isLt rfl (by decide) (by decide) (by decide)

/-- Settles O14: each access is turned away by the one check of R37 that it fails, and `busError` is all that it does. -/
theorem busErrorsAreFlagged : Obligations.BusErrorsAreFlagged := by
  unfold Obligations.BusErrorsAreFlagged
  intro dt agent off v be s a ha frame
  subst ha
  refine ⟨not_mapped_of_unaligned, fun hw hm => ?_, fun hr hm => ?_, fun hw hm hb => ?_⟩
  · exact answers_turnedAway (advance dt s).bus (busWrite_unmapped hw hm) (.inl rfl)
  · exact answers_turnedAway _ (busRead_unmapped hr hm) (.inl rfl)
  · have hbe : be.toNat % 16 ≠ 15 := by bv_omega
    exact answers_turnedAway (advance dt s).bus (busWrite_partial hw hm hbe) (.inr rfl)

end Sys2Proof.Machine
end

section
/-! SUPPORT. Only a cut freezes values, only a swap takes them, and a reset drops them (R28, R31): no other effect of a boundary, and nothing
that follows every event, touches the frozen values. One lemma per operation of the model; then a swap leaves nothing frozen. -/

namespace Sys2Proof.Machine

/-! ### Branches and repetitions -/

@[simp] theorem ite_frozen (c : Prop) [Decidable c] (s t : State) : (if c then s else t).frozen = if c then s.frozen else t.frozen :=
  apply_ite State.frozen c s t

@[simp] theorem foldl_frozen {α : Type} {g : State → α → State} (hg : ∀ t x, (g t x).frozen = t.frozen) (l : List α) (s : State) :
    (l.foldl g s).frozen = s.frozen := by
  induction l generalizing s with
  | nil => rfl
  | cons x r ih => exact (ih _).trans (hg s x)

@[simp] theorem foldl_setF_frozen {α : Type} (f : α → Fld) (v : α → Nat) (l : List α) (s : State) :
    (l.foldl (fun t x => setF t (f x) (v x)) s).frozen = s.frozen := foldl_frozen (fun t x => setF_frozen t (f x) (v x)) l s
@[simp] theorem foldl_setF_setF_frozen {α : Type} (f g : α → Fld) (v w : α → Nat) (l : List α) (s : State) :
    (l.foldl (fun t x => setF (setF t (f x) (v x)) (g x) (w x)) s).frozen = s.frozen :=
  foldl_frozen (fun t x => (setF_frozen _ (g x) (w x)).trans (setF_frozen t (f x) (v x))) l s
@[simp] theorem foldl_setPhase_frozen (x : PhaseSt) (l : List Nat) (s : State) :
    (l.foldl (fun t n => setPhase t n x) s).frozen = s.frozen :=
  foldl_frozen (fun t n => setPhase_frozen t n x) l s

/-! ### Values and programs of a swap -/

@[simp] theorem repeatTake_frozen (on : Bool) (s : State) : (repeatTake on s).frozen = s.frozen := by
  unfold repeatTake; split
  · split <;> rfl
  · rfl
@[simp] theorem withdrawLift_frozen (s : State) : (withdrawLift s).frozen = s.frozen := rfl
@[simp] theorem setSlotSt_frozen (k x : Nat) (s : State) : (setSlotSt k x s).frozen = s.frozen := rfl
@[simp] theorem dropRun_frozen (k : Nat) (s : State) : (dropRun k s).frozen = s.frozen := by simp [dropRun]
@[simp] theorem capture_frozen (k : Nat) (e : PEv) (s : State) : (capture k e s).frozen = s.frozen := by simp [capture]
@[simp] theorem captures_frozen (k : Nat) (l : List PEv) (s : State) : (captures k l s).frozen = s.frozen := by
  cases l with
  | nil => rfl
  | cons e r => simp [captures]
@[simp] theorem flagFault_frozen (k : Nat) (r : PRun) (n : Nat) (s : State) (f : Nat) : (flagFault k r n s f).frozen = s.frozen := by
  simp [flagFault]
@[simp] theorem mergeRun_frozen (k : Nat) (r : PRun) (s : State) : (mergeRun k r s).frozen = s.frozen := by simp [mergeRun]
@[simp] theorem leaveRun_frozen (k n : Nat) (s : State) : (leaveRun k n s).frozen = s.frozen := by simp [leaveRun]
@[simp] theorem abandonRun_frozen (k : Nat) (s : State) : (abandonRun k s).frozen = s.frozen := by simp [abandonRun]
@[simp] theorem stopSlot_frozen (k st : Nat) (s : State) : (stopSlot k st s).frozen = s.frozen := by simp [stopSlot]
@[simp] theorem swapEffects_frozen (keys : List Nat) (s : State) : (swapEffects keys s).frozen = s.frozen := by simp [swapEffects]

/-! ### Starting and stopping the rails -/

@[simp] theorem phasesStop_frozen (k : Nat) (s : State) : (phasesStop k s).frozen = s.frozen := by simp [phasesStop]
@[simp] theorem regate_frozen (s : State) : (regate s).frozen = s.frozen := rfl
@[simp] theorem enterStopping_frozen (k : Nat) (s : State) : (enterStopping k s).frozen = s.frozen := by simp [enterStopping, setRailSt]
@[simp] theorem stopDone_frozen (s : State) : (stopDone s).frozen = s.frozen := by simp [stopDone, setStop, setSeqState]
@[simp] theorem stopNext_frozen (s : State) : (stopNext s).frozen = s.frozen := by
  unfold stopNext
  split
  · rfl
  · split
    · exact (foldl_frozen (fun t j => (setRail_frozen _ j _).trans (enterStopping_frozen j t)) _ _).trans (enterStopping_frozen _ s)
    · simp
@[simp] theorem phasesOff_frozen (k : Nat) (s : State) : (phasesOff k s).frozen = s.frozen := by simp [phasesOff]
@[simp] theorem railOff_frozen (k st : Nat) (s : State) : (railOff k st s).frozen = s.frozen := by simp [railOff, setRailSt]
@[simp] theorem waitersOff_frozen (s : State) : (waitersOff s).frozen = s.frozen := by simp [waitersOff]
@[simp] theorem beginStop_frozen (kind : Nat) (s : State) : (beginStop kind s).frozen = s.frozen := by
  simp [beginStop, setStop, setSeqState]
@[simp] theorem beginStart_frozen (s : State) : (beginStart s).frozen = s.frozen := by simp [beginStart, setSeqState]
@[simp] theorem seqStartAct_frozen (s : State) : (seqStartAct s).frozen = s.frozen := by simp [seqStartAct]
@[simp] theorem seqStopAct_frozen (s : State) : (seqStopAct s).frozen = s.frozen := by simp [seqStopAct]

/-! ### Phases and detectors -/

@[simp] theorem bringIn_frozen (k : Nat) (s : State) : (bringIn k s).frozen = s.frozen := by simp [bringIn]
@[simp] theorem raiseTarget_frozen (k : Nat) (s : State) : (raiseTarget k s).frozen = s.frozen := by simp [raiseTarget]
@[simp] theorem capacityFaults_frozen (k n : Nat) (s : State) : (capacityFaults k n s).frozen = s.frozen := by simp [capacityFaults]
@[simp] theorem markRetired_frozen (n c : Nat) (s : State) : (markRetired n c s).frozen = s.frozen := by simp [markRetired]
@[simp] theorem retireAtBoundary_frozen (n c : Nat) (s : State) : (retireAtBoundary n c s).frozen = s.frozen := by simp [retireAtBoundary]
@[simp] theorem retireNow_frozen (n c : Nat) (s : State) : (retireNow n c s).frozen = s.frozen := by simp [retireNow]
@[simp] theorem phaseFault_frozen (n : Nat) (s : State) : (phaseFault n s).frozen = s.frozen := by simp [phaseFault]
@[simp] theorem restorePhase_frozen (n : Nat) (s : State) : (restorePhase n s).frozen = s.frozen := by simp [restorePhase]
@[simp] theorem regionLevel_frozen (r n : Nat) (s : State) : (regionLevel r n s).frozen = s.frozen := by simp [regionLevel, noteHold]
@[simp] theorem excludeDet_frozen (i : Nat) (s : State) : (excludeDet i s).frozen = s.frozen := by simp [excludeDet]

/-! ### Deferred actions -/

@[simp] theorem planEvent_frozen (c : Nat) (s : State) : (planEvent c s).frozen = s.frozen := by simp [planEvent]
@[simp] theorem planLeaves_frozen (s : State) : (planLeaves s).frozen = s.frozen := rfl
@[simp] theorem setPlanState_frozen (x : Nat) (s : State) : (setPlanState x s).frozen = s.frozen := rfl
@[simp] theorem planIdleNow_frozen (s : State) : (planIdleNow s).frozen = s.frozen := by simp [planIdleNow]
@[simp] theorem abandonRounds_frozen (s : State) : (abandonRounds s).frozen = s.frozen := rfl
@[simp] theorem calTake_frozen (k g o : Nat) (s : State) : (calTake k g o s).frozen = s.frozen := rfl
@[simp] theorem slotRunNow_frozen (k : Nat) (s : State) : (slotRunNow k s).frozen = s.frozen := by simp [slotRunNow]
@[simp] theorem assignNow_frozen (x a n : Nat) (s : State) : (assignNow x a n s).frozen = s.frozen := by simp [assignNow]
@[simp] theorem scrubBeginNow_frozen (x : Nat) (s : State) : (scrubBeginNow x s).frozen = s.frozen := by
  simp [scrubBeginNow, scrubRec, showScrub]
@[simp] theorem scrubEndNow_frozen (x : Nat) (s : State) : (scrubEndNow x s).frozen = s.frozen := by
  simp [scrubEndNow, scrubRec, showScrub]
theorem confNow_frozen {release : State → State} (hr : ∀ t, (release t).frozen = t.frozen) (locked : Nat → Bool) (on : Bool) (s : State) :
    (confNow locked release on s).frozen = s.frozen := by simp [confNow, hr]
@[simp] theorem capRelease_frozen (k : Nat) (s : State) : (capRelease k s).frozen = s.frozen := rfl
@[simp] theorem keyInstall_frozen (c g k : Nat) (s : State) : (keyInstall c g k s).frozen = s.frozen := by
  unfold keyInstall; dsimp only; split <;> split <;> rfl
@[simp] theorem sbKeyNow_frozen (c g k : Nat) (s : State) : (sbKeyNow c g k s).frozen = s.frozen := by simp [sbKeyNow]
@[simp] theorem watchSet_frozen (w ev : Nat) (l : List Nat) (s : State) : (watchSet w ev l s).frozen = s.frozen := by
  simp [watchSet, ownRec]
@[simp] theorem sigLoad_frozen (s : State) : (sigLoad s).frozen = s.frozen := by
  unfold sigLoad
  dsimp only
  rw [foldl_frozen]
  intro t g
  split
  · rfl
  · exact foldl_setF_setF_frozen _ _ _ _ rails4 t
@[simp] theorem actNow_frozen (k : ActKind) (s : State) : (actNow k s).frozen = s.frozen := by
  cases k with
  | confMode on => exact confNow_frozen (fun t => foldl_frozen (fun u k => capRelease_frozen k u) (List.range 4) t) lockedKey on s
  | _ => simp [actNow]
@[simp] theorem notifyPkts_frozen (got : List (Nat × Nat)) (did : List Nat) (n p : Nat) (s : State) :
    (notifyPkts got did n p s).frozen = s.frozen := rfl

/-! ### The plan -/

@[simp] theorem repeatBroken_frozen (c : Nat) (s : State) : (repeatBroken c s).frozen = s.frozen := by simp [repeatBroken]
@[simp] theorem readEntry_frozen (n : Nat) (s : State) : (readEntry n s).1.frozen = s.frozen := by
  unfold readEntry
  split
  · rfl
  · dsimp only; split <;> simp
@[simp] theorem switchHalf_frozen (h : Nat) (s : State) : (switchHalf h s).frozen = s.frozen := by simp [switchHalf]
@[simp] theorem applyEntry_frozen (n h : Nat) (e : List Nat) (b : Bool) (s : State) : (applyEntry n h e b s).frozen = s.frozen := by
  simp [applyEntry, fallLifts]
@[simp] theorem planErrorNow_frozen (b : Bool) (s : State) : (planErrorNow b s).frozen = s.frozen := by simp [planErrorNow]

/-- The entry that the cut read for a step, else the one that plan memory holds (R146). -/
def entryFor (n : Nat) (s : State) : State × Option (List Nat) :=
  match s.psq.frozen with
  | some (m, e) => if m = n then (s, some e) else readEntry n s
  | none => readEntry n s
@[simp] theorem entryFor_frozen (n : Nat) (s : State) : (entryFor n s).1.frozen = s.frozen := by
  unfold entryFor
  split
  · split
    · rfl
    · exact readEntry_frozen n s
  · exact readEntry_frozen n s

/-- The entry of a step is applied, or its word cannot be read (R146). -/
def takeEntry (n h : Nat) (seek : Bool) (r : State × Option (List Nat)) : State :=
  match r with
  | (t, some e) => applyEntry n h e seek t
  | (t, none) => planErrorNow false t
@[simp] theorem takeEntry_frozen (n h : Nat) (seek : Bool) (r : State × Option (List Nat)) :
    (takeEntry n h seek r).frozen = r.1.frozen := by
  obtain ⟨t, _ | e⟩ := r
  · exact planErrorNow_frozen false t
  · exact applyEntry_frozen n h e seek t

@[simp] theorem planStrobe_frozen (m n : Nat) (s : State) : (planStrobe m n s).frozen = s.frozen := by
  unfold planStrobe
  extract_lets st p s0 seek s1 r ended pe gap gap1 pg p0
  have h0 : s0.frozen = s.frozen := rfl
  have h1 : s1.frozen = s.frozen := by simp [s1, h0]
  split
  · split
    · next h _ => exact ((takeEntry_frozen n h seek r).trans (entryFor_frozen n s1)).trans h1
    · split
      · simp [ended, h1]
      · split
        · exact h1
        · simp [gap1, gap, h1]
  · split
    · split
      · next h _ => exact (takeEntry_frozen n h false (entryFor n s0)).trans (entryFor_frozen n s0)
      · rfl
    · rfl

/-! ### Phases and selects of a boundary -/

@[simp] theorem shedActions_frozen (s : State) : (shedActions s).frozen = s.frozen := by simp [shedActions]
@[simp] theorem shedTo_frozen (k n : Nat) (s : State) : (shedTo k n s).frozen = s.frozen := by
  unfold shedTo
  split
  · rfl
  · exact (foldl_setPhase_frozen _ _ _).trans (setRail_frozen s k _)
@[simp] theorem swapPhases_frozen (s : State) : (swapPhases s).frozen = s.frozen := by
  unfold swapPhases
  extract_lets sheds s1 req plan
  rw [foldl_frozen, shedActions_frozen]
  intro t k
  simp
@[simp] theorem softRetarget_frozen (k n : Nat) (s : State) : (softRetarget k n s).frozen = s.frozen := by simp [softRetarget]
@[simp] theorem deExit_frozen (k : Nat) (s : State) : (deExit k s).frozen = s.frozen := by simp [deExit]
@[simp] theorem retarget_frozen (k n d : Nat) (s : State) : (retarget k n d s).frozen = s.frozen := by simp [retarget]
@[simp] theorem applySel_frozen (k n : Nat) (s : State) : (applySel k n s).frozen = s.frozen := by simp [applySel]
@[simp] theorem applySelect_frozen (k n : Nat) (s : State) : (applySelect k n s).frozen = s.frozen := by simp [applySelect]
@[simp] theorem swapSelects_frozen (s : State) : (swapSelects s).frozen = s.frozen := by simp [swapSelects]

/-! ### Limits and trust -/

@[simp] theorem ceilingsRise_frozen (s : State) : (ceilingsRise s).frozen = s.frozen := by
  unfold ceilingsRise; dsimp only; split <;> simp
@[simp] theorem setCapState_frozen (v : Nat) (s : State) : (setCapState v s).frozen = s.frozen := by simp [setCapState, eventP]
@[simp] theorem capFollow_frozen (b : Bool) (s : State) : (capFollow b s).frozen = s.frozen := by simp [capFollow]
@[simp] theorem capSwap_frozen (s : State) : (capSwap s).frozen = s.frozen := by simp [capSwap]
@[simp] theorem lgvSwap_frozen (s : State) : (lgvSwap s).frozen = s.frozen := by
  unfold lgvSwap; dsimp only; split <;> simp
@[simp] theorem refreshRate_frozen (s : State) : (refreshRate s).frozen = s.frozen := by simp [refreshRate, setRate]
@[simp] theorem boostCheck_frozen (s : State) : (boostCheck s).frozen = s.frozen := by simp [boostCheck]
@[simp] theorem repeatBreaks_frozen (c : Nat) (s : State) : (repeatBreaks c s).frozen = s.frozen := by simp [repeatBreaks]
@[simp] theorem trustWithdraws_frozen (s : State) : (trustWithdraws s).frozen = s.frozen := by simp [trustWithdraws]
@[simp] theorem trustEnter_frozen (st : Nat) (s : State) : (trustEnter st s).frozen = s.frozen := by simp [trustEnter]
@[simp] theorem estSwap_frozen (s : State) : (estSwap s).frozen = s.frozen := by simp [estSwap]
@[simp] theorem lgvChoose_frozen (s : State) : (lgvChoose s).1.frozen = s.frozen := rfl
@[simp] theorem lgvRechoose_frozen (was : Nat × List Nat) (s : State) : (lgvRechoose was s).frozen = s.frozen := by simp [lgvRechoose]

/-! ### The end of a swap -/

@[simp] theorem fixedTake_frozen (b : Bool) (s : State) : (fixedTake b s).frozen = s.frozen := by simp [fixedTake]
@[simp] theorem balStrobe_frozen (n : Nat) (s : State) : (balStrobe n s).frozen = s.frozen := by simp [balStrobe, setRoundState]
@[simp] theorem stageGrant_frozen (w b : Nat) (o : Option Nat) (s : State) : (stageGrant w b o s).frozen = s.frozen := by
  cases o <;> rfl
@[simp] theorem floorNext_frozen (s : State) : (floorNext s).frozen = s.frozen := by simp [floorNext]
@[simp] theorem fixedCheck_frozen (s : State) : (fixedCheck s).frozen = s.frozen := by simp [fixedCheck]
@[simp] theorem lgvLaunch_frozen (b : Bool) (s : State) : (lgvLaunch b s).frozen = s.frozen := by
  unfold lgvLaunch; dsimp only; split
  · simp [setLaunchRate]
  · split <;> simp [setLaunchRate]
@[simp] theorem capStamp_frozen (s : State) : (capStamp s).frozen = s.frozen := rfl
@[simp] theorem snapSplit_frozen (s : State) : (snapSplit s).frozen = s.frozen := rfl
@[simp] theorem boundShow_frozen (s : State) : (boundShow s).frozen = s.frozen := rfl

/-! ### Rest states -/

@[simp] theorem holdBeats_frozen (s : State) : (holdBeats s).frozen = s.frozen := by simp [holdBeats]
@[simp] theorem slotBegin_frozen (s : State) : (slotBegin s).frozen = s.frozen := by
  unfold slotBegin; dsimp only; split
  · exact foldl_frozen (fun t j => (setRail_frozen _ j _).trans (railOff_frozen j rsProbe t)) _ _
  · rfl
@[simp] theorem wakeBegin_frozen (s : State) : (wakeBegin s).frozen = s.frozen := by simp [wakeBegin, setStop]
@[simp] theorem lateWake_frozen (s : State) : (lateWake s).frozen = s.frozen := by simp [lateWake]
@[simp] theorem clearEnds_frozen (s : State) : (clearEnds s).frozen = s.frozen := rfl
@[simp] theorem releaseHold_frozen (r : Nat) (s : State) : (releaseHold r s).frozen = s.frozen := by simp [releaseHold, noteHold]
@[simp] theorem releaseBeats_frozen (s : State) : (releaseBeats s).frozen = s.frozen := by simp [releaseBeats]
@[simp] theorem trustZero_frozen (s : State) : (trustZero s).frozen = s.frozen := by simp [trustZero]
@[simp] theorem lgvZero_frozen (s : State) : (lgvZero s).frozen = s.frozen := rfl
@[simp] theorem dropH_frozen (p : Nat → Bool) (s : State) : (dropH p s).frozen = s.frozen := rfl
@[simp] theorem reactPhases_frozen (s : State) : (reactPhases s).frozen = s.frozen := by
  unfold reactPhases
  rw [foldl_frozen]
  intro t k
  simp
@[simp] theorem balClear_frozen (s : State) : (balClear s).frozen = s.frozen := rfl
@[simp] theorem latenessZero_frozen (s : State) : (latenessZero s).frozen = s.frozen := rfl
@[simp] theorem deepExit_frozen (s : State) : (deepExit s).frozen = s.frozen := by
  unfold deepExit
  dsimp only
  rw [reactPhases_frozen, floorNext_frozen, balClear_frozen, abandonRounds_frozen, lgvZero_frozen, dropH_frozen, setSns_frozen,
    foldl_setF_frozen, setF_frozen, setF_frozen, setF_frozen, trustZero_frozen]
@[simp] theorem restEnded_frozen (s : State) : (restEnded s).frozen = s.frozen := by simp [restEnded]

/-! ### Values that take effect -/

@[simp] theorem settleKey_frozen (k : Nat) (s : State) : (settleKey k s).frozen = s.frozen := by simp [settleKey]
@[simp] theorem repend_frozen (k : Nat) (p : PendVal) (s : State) : (repend k p s).frozen = s.frozen := by simp [repend]
@[simp] theorem takeOne_frozen (u : State) (l : Option Nat) (k : Nat) (p : PendVal) (s : State) :
    (takeOne u l k p s).frozen = s.frozen := by
  unfold takeOne; dsimp only; split
  · split <;> split <;> simp
  · simp

/-- What follows every event freezes nothing and drops nothing frozen, even where it ends a rest state. -/
theorem settle_keeps_frozen (s : State) : (settle s).frozen = s.frozen := by
  have h : (if s.sta.endDeep || s.sta.endLate then restEnded s else s).frozen = s.frozen := by simp
  exact (watches_frozen _).trans h

/-! ### A swap leaves nothing frozen -/

theorem swapValues_frozen (l : Option Nat) (s : State) : (swapValues l s).frozen = [] := by
  unfold swapValues
  rw [foldl_frozen]
  intro t e
  simp

theorem swapTake_frozen (l : Option Nat) (s : State) : (swapTake l s).frozen = [] := by
  unfold swapTake
  extract_lets keys got s1 due s2 s3
  have h3 : s3.frozen = s2.frozen := foldl_frozen (fun t a => actNow_frozen a.kind t) due s2
  calc (notifyPkts got (due.map (fun a => a.pkt)) s.time.step (planState s) s3).frozen
    _ = s2.frozen := (notifyPkts_frozen ..).trans h3
    _ = (swapValues l s).frozen := swapEffects_frozen keys (swapValues l s)
    _ = [] := swapValues_frozen l s

theorem swap_frozen (l : Option (Nat × Option Nat)) (s : State) : (swap l s).frozen = [] := by
  unfold swap
  extract_lets step ended fixed t t0 p0 s1 s2 s3 s4 s5 u b s6 next
  have h2 : s2.frozen = [] := swapTake_frozen step s1
  have h3 : s3.frozen = [] := by unfold s3; clear_value step; cases step <;> simp [h2]
  have h5 : s5.frozen = [] := by simp [s5, s4, h3]
  have h6 : s6.frozen = [] := by unfold s6; clear_value step; cases step <;> simp [u, h5]
  rw [boundShow_frozen, snapSplit_frozen, capStamp_frozen, lgvLaunch_frozen]
  exact h6

end Sys2Proof.Machine
end

section
/-! O9. A strobe that is a boundary, one that is not heard, and one that is too close. -/

namespace Sys2Proof.Machine

/-! ### What a strobe does -/

theorem strobe_unheard {n : Nat} {l : Option Nat} {s : State} (h : strobeHeard s = false) : strobe n l s = s := by
  simp [strobe, h]

theorem strobe_tooClose {n : Nat} {l : Option Nat} {s : State} (hh : strobeHeard s = true) (hc : strobeClose s = true) :
    strobe n l s = sendFault 0x01 0x001 (s.time.ticks - s.time.lastStrobe.getD 0) s := by
  simp [strobe, hh, hc]

theorem strobe_frozen {n : Nat} {l : Option Nat} {s : State} (hh : strobeHeard s = true) (hc : strobeClose s = false) :
    (strobe n l s).frozen = [] := by
  simp [strobe, hh, hc, swap_frozen]

theorem strobeHeard_eq_false {s : State} (hj : jobOn s = false) (ha : attaching s = []) : strobeHeard s = false := by
  simp [strobeHeard, hj, ha]

theorem strobeClose_eq_true {s : State} {t0 : Nat} (h : s.time.lastStrobe = some t0) (ht : s.time.ticks < t0 + 200) :
    strobeClose s = true := by
  simp [strobeClose, h, us, ht]

theorem strobeClose_eq_false {s : State} (h : ∀ t0, s.time.lastStrobe = some t0 → t0 + 200 ≤ s.time.ticks) :
    strobeClose s = false := by
  unfold strobeClose
  split
  · next t0 h0 => exact decide_eq_false (Nat.not_lt.mpr (h t0 h0))
  · rfl

/-! ### What a strobe leaves of the time record -/

/-- What a strobe that is a boundary leaves of the time record: its number and its instant, and a cut that is owed again. -/
def boundaryTime (u : TimeState) (n : Nat) (m : Option Nat) : TimeState :=
  { u with step := n, lastStrobe := some u.ticks, idleSince := u.ticks, cutMade := false, nextB := m }

/-- What `Kept` says of the stores is what `storesOk` says. -/
theorem kept_of_storesOk {s : State} (h : storesOk s) : Kept (s.pending, fun _ => True) s := by
  obtain ⟨hr, hm⟩ := h
  simp only [Memory.wf, Bool.and_eq_true, List.all_eq_true] at hm
  obtain ⟨⟨⟨⟨⟨⟨⟨⟨⟨hplan, hsig⟩, hpxe⟩, hwin⟩, hlog⟩, hbuf⟩, hpart⟩, himg⟩, hslots⟩, hxfers⟩ := hm
  exact ⟨rfl, trivial, hr, hplan, hsig, hpxe, hwin, hlog, hbuf, hpart, himg, hslots, hxfers⟩

/-- What is named of the time record can be any property that it has. -/
theorem kept_named {p : List Instr} {P Q : TimeState → Prop} {s : State} (h : Kept (p, P) s) (hq : Q s.time) : Kept (p, Q) s :=
  ⟨h.base, hq, h.regs, h.plan, h.sig, h.pxe, h.win, h.log, h.buf, h.part, h.img, h.slots, h.xfers⟩

/-- Time passes, and every store stays in its canonical form. -/
theorem kept_advance {s : State} (dt : Nat) (h : storesOk s) : Kept (s.pending, (· = (advance dt s).time)) (advance dt s) :=
  kept_named (advance_kept (Q := fun _ => True) dt (kept_of_storesOk h) (fun _ _ _ => trivial)) rfl

/-- R25, R26: a strobe that is a boundary, with what follows every event, changes of the time record what `boundaryTime` says and the
instant of the next boundary. -/
theorem settle_strobe_time {p : List Instr} {n : Nat} {l : Option Nat} {a : State} (hk : Kept (p, (· = a.time)) a)
    (hh : strobeHeard a = true) (hc : strobeClose a = false) : ∃ m, (settle (strobe n l a)).time = boundaryTime a.time n m := by
  refine (settle_kept (strobe_kept (Q := fun u => ∃ m, u = boundaryTime a.time n m) n l hk ?_ ?_)).time
  · rintro - - _ m rfl; exact ⟨m, rfl⟩
  · rintro (h | h)
    · simp [hh] at h
    · simp [hc] at h

/-! ### The three cases of a strobe -/

/-- What follows every event is all that happens where the event itself has no effect. -/
theorem settle_untouched {s : State} (h : noEnd s) : untouched s (settle s) :=
  ⟨settle_time h, settle_inbox h, settle_bus h, (waitingSame_settle h).2 ⟨rfl, rfl, rfl, rfl, rfl⟩,
    (unitsSame_settle h).2 (unitsSame_refl s), fieldsBut_settle h (fieldsBut_refl [] s)⟩

/-- All that a fault message changes: it waits where there is room for it, and sets QUEUE_OVF where there is none (R386, R397). -/
theorem settle_sendFault {k src i : Nat} {a : State} (hn : noEnd a) :
    (settle (sendFault k src i a)).time = a.time ∧ waitingSame a (settle (sendFault k src i a)) ∧
      unitsSame a (settle (sendFault k src i a)) ∧ fieldsBut [FLC.STATUS.QUEUE_OVF] a (settle (sendFault k src i a)) ∧
      (roomMsg a → messageWaits k src i (settle (sendFault k src i a)) ∧ fieldsBut [] a (settle (sendFault k src i a))) := by
  have hf : noEnd (sendFault k src i a) := noEnd_congr hn (sendFault_sta k src i a)
  refine ⟨(settle_time hf).trans (sendFault_time k src i a), ?_, ?_, ?_, fun hr => ⟨?_, ?_⟩⟩
  · exact (waitingSame_settle hf).2 (waitingSame_sendFault.2 ⟨rfl, rfl, rfl, rfl, rfl⟩)
  · exact (unitsSame_settle hf).2 (unitsSame_sendFault.2 (unitsSame_refl a))
  · exact fieldsBut_settle hf (fieldsBut_sendFault (.inr (by simp)) (fieldsBut_refl _ a))
  · exact (messageWaits_settle hf).2 (messageWaits_sendFault hr)
  · exact fieldsBut_settle hf (fieldsBut_sendFault (.inl hr) (fieldsBut_refl _ a))

/-- Settles O9: a strobe is a boundary, is not heard or is too close (R25, R26). Of a boundary, `Kept` gives the time record and the swap
leaves nothing frozen; the others change nothing but the message that the last one sends. -/
theorem strobeIsBoundary : Obligations.StrobeIsBoundary := by
  unfold Obligations.StrobeIsBoundary
  intro dt n l s a hw hs ha
  subst ha
  have hn : noEnd (advance dt s) := noEnd_advance dt s
  refine ⟨fun hh hfar => ?_, fun hj hat => ?_, fun t0 hh h0 ht => ?_⟩
  · have hc := strobeClose_eq_false hfar
    obtain ⟨m, hm⟩ := settle_strobe_time (n := n) (l := l) (kept_advance dt hs) hh hc
    refine answers_act (exec_stepBoundaryStrobe ..) hw ⟨?_, ?_⟩
    · rw [hm]; rfl
    · exact (settle_keeps_frozen _).trans (strobe_frozen hh hc)
  · refine answers_act (exec_stepBoundaryStrobe ..) hw ?_
    rw [strobe_unheard (strobeHeard_eq_false hj hat)]
    exact settle_untouched hn
  · refine answers_act (exec_stepBoundaryStrobe ..) hw ?_
    rw [strobe_tooClose hh (strobeClose_eq_true h0 ht), h0, Option.getD_some]
    exact settle_sendFault hn

end Sys2Proof.Machine
end

section
/-! SUPPORT. A denied access: what it sets, what it captures, when it sends its fault, and what it leaves as it was (R399). -/

namespace Sys2Proof.Machine

/-! ### What a denied access does -/

/-- DENIED is set, and the first denied access is captured (R399). -/
def flagDenied (agent o : Nat) (write : Bool) (s : State) : State :=
  setB (if getB s SEC.STATUS.DENIED then s
    else setB (setF (setF s SEC.DENY_INFO.AGENT agent) SEC.DENY_INFO.OFFSET o) SEC.DENY_INFO.WRITE write) SEC.STATUS.DENIED true

/-- The fields that the capture sets: those of DENY_INFO, where no denied access has been captured before. -/
def captureFields (s : State) : List Fld :=
  if getB s SEC.STATUS.DENIED then [] else [SEC.DENY_INFO.AGENT, SEC.DENY_INFO.OFFSET, SEC.DENY_INFO.WRITE]

/-- The agent has sent no fault in the last second (R399). -/
def denyDue (agent : Nat) (s : State) : Prop := ∀ t0, aFind s.bus.denied agent = some t0 → t0 + 100000000 ≤ s.time.ticks

theorem not_denyDue {agent : Nat} {s : State} (h : ¬ denyDue agent s) :
    ∃ t0, aFind s.bus.denied agent = some t0 ∧ s.time.ticks < t0 + 100000000 := by
  simpa [denyDue, Nat.not_le] using h

theorem flagDenied_first {agent o : Nat} {write : Bool} {s : State} (h : getB s SEC.STATUS.DENIED = false) : flagDenied agent o write s =
    setB (setB (setF (setF s SEC.DENY_INFO.AGENT agent) SEC.DENY_INFO.OFFSET o) SEC.DENY_INFO.WRITE write) SEC.STATUS.DENIED true := by
  simp [flagDenied, h]

theorem flagDenied_later {agent o : Nat} {write : Bool} {s : State} (h : getB s SEC.STATUS.DENIED = true) :
    flagDenied agent o write s = setB s SEC.STATUS.DENIED true := by
  simp [flagDenied, h]

/-- It touches the register table alone. -/
theorem flagDenied_frame (agent o : Nat) (write : Bool) (s : State) :
    (flagDenied agent o write s).bus = s.bus ∧ (flagDenied agent o write s).time = s.time ∧
      (flagDenied agent o write s).inbox = s.inbox ∧ (flagDenied agent o write s).sta = s.sta ∧
      waitingSame s (flagDenied agent o write s) ∧ unitsSame s (flagDenied agent o write s) := by
  have hw : waitingSame s s := ⟨rfl, rfl, rfl, rfl, rfl⟩
  cases h : getB s SEC.STATUS.DENIED with
  | false => rw [flagDenied_first h]; exact ⟨rfl, rfl, rfl, rfl, hw, unitsSame_refl s⟩
  | true => rw [flagDenied_later h]; exact ⟨rfl, rfl, rfl, rfl, hw, unitsSame_refl s⟩

theorem flagDenied_fields {agent o : Nat} {write : Bool} {s : State} {l : List Fld} (hd : SEC.STATUS.DENIED ∈ l)
    (hc : captureFields s ⊆ l) : fieldsBut l s (flagDenied agent o write s) := by
  cases h : getB s SEC.STATUS.DENIED with
  | false =>
    simp only [captureFields, h, Bool.false_eq_true, if_false, List.cons_subset] at hc
    obtain ⟨ha, ho, hw, -⟩ := hc
    rw [flagDenied_first h]
    exact fieldsBut_setB hd (fieldsBut_setB hw (fieldsBut_setF ho (fieldsBut_setF ha (fieldsBut_refl l s))))
  | true => rw [flagDenied_later h]; exact fieldsBut_setB hd (fieldsBut_refl l s)

@[simp] theorem getF_flagDenied_flag (agent o : Nat) (write : Bool) (s : State) :
    getF (flagDenied agent o write s) SEC.STATUS.DENIED = 1 := getF_setF_self _ _ _

theorem flagDenied_captures {agent o : Nat} {write : Bool} {s : State} (h : getB s SEC.STATUS.DENIED = false) (ha : agent < 2 ^ 8)
    (ho : o < 2 ^ 20) : getF (flagDenied agent o write s) SEC.DENY_INFO.AGENT = agent ∧
      getF (flagDenied agent o write s) SEC.DENY_INFO.OFFSET = o ∧ getB (flagDenied agent o write s) SEC.DENY_INFO.WRITE = write := by
  rw [flagDenied_first h]
  refine ⟨?_, ?_, ?_⟩
  · rw [getF_setB_ne _ _ (by decide), getF_setB_ne _ _ (by decide), getF_setF_ne _ _ (by decide), getF_setF_self]
    exact Nat.mod_eq_of_lt ha
  · rw [getF_setB_ne _ _ (by decide), getF_setB_ne _ _ (by decide), getF_setF_self]
    exact Nat.mod_eq_of_lt ho
  · rw [getB_setB_ne _ _ (by decide)]
    exact getB_setB_self _ _ write rfl

/-- An agent whose last fault is less than a second old sends none. -/
theorem deny_quiet {agent o t0 : Nat} {write : Bool} {s : State} (hf : aFind s.bus.denied agent = some t0)
    (ht : s.time.ticks < t0 + 100000000) : deny agent o write s = flagDenied agent o write s := by
  simp [deny, hf, ht, ms, flagDenied]

/-- An agent without a fault in the last second sends one, and its second begins. -/
theorem deny_sends {agent o : Nat} {write : Bool} {s : State} (h : denyDue agent s) :
    deny agent o write s = sendFault 0xE1 0xE10 (agent + 256 * o + 2 ^ 31 * b2n write)
      (setBus { s.bus with denied := aIns s.bus.denied agent s.time.ticks } (flagDenied agent o write s)) := by
  have hb : (flagDenied agent o write s).bus = s.bus := (flagDenied_frame agent o write s).1
  rw [← hb]
  unfold deny
  cases hf : aFind s.bus.denied agent with
  | none => rfl
  | some t0 =>
    have hq : ¬ s.time.ticks < t0 + ms 1000 := Nat.not_lt.mpr (h t0 hf)
    simp [hq, flagDenied]

/-- What a denied access leaves: DENIED, the capture of the first, the fault of an agent that has had none for a second, and all else as it
was but the fields listed (R399). -/
structure AccessReported (a : State) (agent o : Nat) (write : Bool) (l : List Fld) (t : State) : Prop where
  flag : getF t SEC.STATUS.DENIED = 1
  waiting : waitingSame a t
  units : unitsSame a t
  captured : getB a SEC.STATUS.DENIED = false →
    getF t SEC.DENY_INFO.AGENT = agent ∧ getF t SEC.DENY_INFO.OFFSET = o ∧ getB t SEC.DENY_INFO.WRITE = write
  fields : fieldsBut (SEC.STATUS.DENIED :: FLC.STATUS.QUEUE_OVF :: captureFields a ++ l) a t
  sent : denyDue agent a → aFind t.bus.denied agent = some a.time.ticks ∧
    (roomMsg a → messageWaits 0xE1 0xE10 (agent + 256 * o + 2 ^ 31 * b2n write) t)
  quiet : ∀ t0, aFind a.bus.denied agent = some t0 → a.time.ticks < t0 + 100000000 → t.inbox = a.inbox

/-- The flags and the capture of an access that sends no fault. -/
theorem accessReported_of_quiet {agent o t0 : Nat} {write : Bool} {a : State} (l : List Fld) (ha : agent < 2 ^ 8) (ho : o < 2 ^ 20)
    (hf : aFind a.bus.denied agent = some t0) (ht : a.time.ticks < t0 + 100000000) :
    AccessReported a agent o write l (deny agent o write a) := by
  obtain ⟨-, -, hinbox, -, hwait, hunits⟩ := flagDenied_frame agent o write a
  rw [deny_quiet hf ht]
  exact {
    flag := getF_flagDenied_flag agent o write a
    waiting := hwait
    units := hunits
    captured := fun h => flagDenied_captures h ha ho
    fields := flagDenied_fields (by simp) (fun f hf => by simp [hf])
    sent := fun h => absurd (h t0 hf) (Nat.not_le.mpr ht)
    quiet := fun _ _ _ => hinbox }

/-- The flags, the capture and the fault of an access by an agent whose last fault is a second old. -/
theorem accessReported_of_due {agent o : Nat} {write : Bool} {a : State} (l : List Fld) (ha : agent < 2 ^ 8) (ho : o < 2 ^ 20)
    (hd : denyDue agent a) : AccessReported a agent o write l (deny agent o write a) := by
  obtain ⟨-, -, hinbox, -, hwait, hunits⟩ := flagDenied_frame agent o write a
  rw [deny_sends hd]
  have hkeep : ∀ f : Fld, f.key ≠ FLC.STATUS.QUEUE_OVF.key → getF (sendFault 0xE1 0xE10 (agent + 256 * o + 2 ^ 31 * b2n write)
      (setBus { a.bus with denied := aIns a.bus.denied agent a.time.ticks } (flagDenied agent o write a))) f =
        getF (flagDenied agent o write a) f := fun f h => getF_sendFault _ _ _ _ h
  exact {
    flag := (hkeep _ (by decide)).trans (getF_flagDenied_flag agent o write a)
    waiting := waitingSame_sendFault.2 hwait
    units := unitsSame_sendFault.2 hunits
    captured := fun h => by
      rw [hkeep _ (by decide), hkeep _ (by decide), getB, hkeep _ (by decide)]
      exact flagDenied_captures h ha ho
    fields := fieldsBut_sendFault (.inr (by simp)) (fieldsBut_with (flagDenied_fields (by simp) (fun f hf => by simp [hf])) rfl)
    sent := fun _ => ⟨by simp, fun hr => messageWaits_sendFault (by simpa [roomMsg, waitingMsgs, hinbox] using hr)⟩
    quiet := fun t0 hf ht => absurd (hd t0 hf) (Nat.not_le.mpr ht) }

theorem deny_reported {agent o : Nat} {write : Bool} {a : State} (l : List Fld) (ha : agent < 2 ^ 8) (ho : o < 2 ^ 20) :
    AccessReported a agent o write l (deny agent o write a) := by
  by_cases hd : denyDue agent a
  · exact accessReported_of_due l ha ho hd
  · obtain ⟨t0, hf, ht⟩ := not_denyDue hd
    exact accessReported_of_quiet l ha ho hf ht

/-! ### The access through the bus -/

/-- Only the last answer on the bus and the instants of the faults count: another read answer makes no difference. -/
theorem AccessReported.of_setBus {a t : State} {agent o : Nat} {write : Bool} {l : List Fld} {b : BusState}
    (h : AccessReported (setBus b a) agent o write l t) (hb : b.denied = a.bus.denied) : AccessReported a agent o write l t :=
  { flag := h.flag, waiting := h.waiting, units := h.units, captured := h.captured, fields := h.fields
    sent := fun hd => h.sent (fun t0 hf => hd t0 (by rw [← hb]; exact hf))
    quiet := fun t0 hf => h.quiet t0 (by rw [setBus_bus, hb]; exact hf) }

/-- A listed field that is none of SEC's may be set besides. -/
theorem AccessReported.setF {a t : State} {agent o : Nat} {write : Bool} {l : List Fld} {f : Fld} (v : Nat)
    (h : AccessReported a agent o write l t) (hf : f ∈ l) (hk : f.key < SEC.STATUS.DENIED.key) :
    AccessReported a agent o write l (setF t f v) := by
  have hne : ∀ g : Fld, SEC.STATUS.DENIED.key ≤ g.key → g.key ≠ f.key := fun g hg => by omega
  exact {
    flag := (getF_setF_ne t v (hne _ (by decide))).trans h.flag
    waiting := h.waiting
    units := h.units
    captured := fun hc => by
      rw [getF_setF_ne t v (hne _ (by decide)), getF_setF_ne t v (hne _ (by decide)), getB_setF_ne t v (hne _ (by decide))]
      exact h.captured hc
    fields := fieldsBut_setF (by simp [hf]) h.fields
    sent := h.sent
    quiet := h.quiet }

/-- What follows every event leaves it so. -/
theorem AccessReported.settle {a t : State} {agent o : Nat} {write : Bool} {l : List Fld} (h : AccessReported a agent o write l t)
    (ha : noEnd a) : AccessReported a agent o write l (settle t) := by
  obtain ⟨-, ⟨-, -, -, -, hsta, -⟩, -⟩ := h.units
  have hn : noEnd t := noEnd_congr ha hsta
  exact {
    flag := (getF_settle t hn (by decide)).trans h.flag
    waiting := (waitingSame_settle hn).2 h.waiting
    units := (unitsSame_settle hn).2 h.units
    captured := fun hc => by
      rw [getF_settle t hn (by decide), getF_settle t hn (by decide), getB, getF_settle t hn (by decide)]
      exact h.captured hc
    fields := fieldsBut_settle hn h.fields
    sent := fun hd => ⟨by rw [settle_bus hn]; exact (h.sent hd).1, fun hr => (messageWaits_settle hn).2 ((h.sent hd).2 hr)⟩
    quiet := fun t0 hf ht => (settle_inbox hn).trans (h.quiet t0 hf ht) }

/-- A denied access leaves the last read answer as it was. -/
theorem deny_rdata (agent o : Nat) (write : Bool) (s : State) : (deny agent o write s).bus.rdata = s.bus.rdata := by
  have hb : (flagDenied agent o write s).bus = s.bus := (flagDenied_frame agent o write s).1
  by_cases hd : denyDue agent s
  · rw [deny_sends hd, sendFault_bus, setBus_bus]
  · obtain ⟨t0, hf, ht⟩ := not_denyDue hd
    rw [deny_quiet hf ht, hb]

/-- The rings' tails stand at 8 in their registers' 64 bytes. -/
theorem ringReg_eq_some {o q : Nat} (h : ringReg o = some q) (h8 : o % 64 = 8) : o = 0xC1008 + 64 * q ∧ q < 72 := by
  simp only [ringReg, inR, Bool.and_eq_true, decide_eq_true_eq, Option.ite_none_right_eq_some, Option.some.injEq] at h
  omega

/-- Whoever may ring a ring may write its tail (R348, Table 17-1). -/
theorem mayWrite_of_mayRing {s : State} {agent q : Nat} (hq : q < 72) (h : mayRing s agent q = true) :
    mayWrite s agent (0xC1008 + 64 * q) = true := by
  simp only [mayRing, Bool.or_eq_true, Bool.and_eq_true, beq_iff_eq, decide_eq_true_eq] at h
  obtain (rfl | ⟨rfl, rfl⟩) | ⟨⟨h8, rfl⟩, hp⟩ := h
  · rfl
  · simp [mayWrite]
  · have hx : ctxOf q = (q - 8) / 4 + 1 := if_neg (by omega)
    have hr : ringReg (0xC1008 + 64 * q) = some q := by simp [ringReg, inR]; omega
    have hproxy : proxyOf (0x10 + ctxOf q) = some (ctxOf q) := by simp [proxyOf]; omega
    have hrings : q ∈ ringsOf (ctxOf q) := List.mem_map.2 ⟨q % 4, by simp; omega, by omega⟩
    have h1 : ¬ 0x10 + ctxOf q = 0x01 := by omega
    have h2 : ¬ (0x40 ≤ 0x10 + ctxOf q ∧ 0x10 + ctxOf q ≤ 0x43) := by omega
    have h3 : ¬ 0x10 + ctxOf q = 0x02 := by omega
    have h64 : (0xC1008 + 64 * q) % 64 = 8 := by omega
    simp [mayWrite, h1, h2, h3, hproxy, hp, hr, hrings, h64]

/-- A denied write of a tail rings nothing (R348). -/
theorem mayRing_of_denied {s : State} {agent o q : Nat} (hr : ringReg o = some q) (h8 : o % 64 = 8)
    (h : mayWrite s agent (o / 4 * 4) = false) : mayRing s agent q = false := by
  obtain ⟨rfl, hq⟩ := ringReg_eq_some hr h8
  rw [show (0xC1008 + 64 * q) / 4 * 4 = 0xC1008 + 64 * q by omega] at h
  exact Bool.eq_false_iff.2 fun hm => Bool.eq_false_iff.1 h (mayWrite_of_mayRing hq hm)

/-- The fields of the counting of rejected doorbells. -/
def doorbellFields : List Fld := [CMD.ERR_STATUS.DOORBELL_REJECT, CMD.ERR_STATUS.FIRST_AGENT, CMD.ERR_STATUS.FIRST_RING]

/-- The fields that a denied access may set in counting a rejected doorbell: those of a write of a ring's register (R348). -/
def bellFields (o : Nat) (write : Bool) : List Fld := if write = true ∧ (ringReg o).isSome = true then doorbellFields else []

/-- A rejected doorbell is counted, and the first is named (R348). -/
theorem ringDoorbell_rejected {agent q val : Nat} {s : State} (h : mayRing s agent q = false) : ringDoorbell agent q val s =
    incF (if getF s CMD.ERR_STATUS.DOORBELL_REJECT = 0 then
      setF (setF s CMD.ERR_STATUS.FIRST_AGENT agent) CMD.ERR_STATUS.FIRST_RING q else s) CMD.ERR_STATUS.DOORBELL_REJECT := by
  simp [ringDoorbell, h]

theorem AccessReported.ringDoorbell {a t : State} {agent o q val : Nat} {write : Bool} (h : AccessReported a agent o write doorbellFields t)
    (hr : mayRing t agent q = false) : AccessReported a agent o write doorbellFields (ringDoorbell agent q val t) := by
  rw [ringDoorbell_rejected hr]
  refine AccessReported.setF _ ?_ (by simp [doorbellFields]) (by decide)
  split
  · exact (h.setF _ (by simp [doorbellFields]) (by decide)).setF _ (by simp [doorbellFields]) (by decide)
  · exact h

/-- Every partition is assigned as before, so that every ring's tail is written by the same agents. -/
theorem AccessReported.mayRing_eq {a t : State} {agent o q : Nat} {write : Bool} (h : AccessReported a agent o write doorbellFields t)
    (agent' : Nat) (hq : q < 72) : mayRing t agent' q = mayRing a agent' q := by
  have hle : ∀ g ∈ SEC.STATUS.DENIED :: FLC.STATUS.QUEUE_OVF :: captureFields a ++ doorbellFields, g.key ≤ SEC.DENY_INFO.WRITE.key := by
    unfold captureFields doorbellFields
    split <;> decide
  have hx : ctxOf q ≤ 16 := by unfold ctxOf; split <;> omega
  have hlo : SEC.DENY_INFO.WRITE.key < (SEC.PART_STATUS.ASSIGNED (ctxOf q)).key := by
    simp only [SEC.DENY_INFO.WRITE, SEC.PART_STATUS.ASSIGNED, fld]; omega
  have hhi : (SEC.PART_STATUS.ASSIGNED (ctxOf q)).key < TST.CTRL.OVERRIDE.key := by
    simp only [TST.CTRL.OVERRIDE, SEC.PART_STATUS.ASSIGNED, fld]; omega
  have hp : partAssigned t (ctxOf q) = partAssigned a (ctxOf q) := by
    refine congrArg (fun v => decide (v ≠ 0)) (h.fields _ (fun hm => ?_) hhi.ne)
    obtain ⟨g, hg, he⟩ := List.mem_map.1 hm
    exact absurd (hle g hg) (Nat.not_le.2 (he ▸ hlo))
  simp only [mayRing, hp]

/-- A denied write: nothing but its report, and a rejected doorbell where it is one (R348, R399). -/
theorem busWrite_denied {a : State} {agent o val be : Nat} (ha : agent < 2 ^ 8) (ho : o < 2 ^ 20)
    (h : mayWrite a agent (o / 4 * 4) = false) : AccessReported a agent o true (bellFields o true) (busWrite agent o val be a) := by
  have hd (l : List Fld) : AccessReported a agent o true l (deny agent o true a) := deny_reported l ha ho
  unfold busWrite
  rw [h, if_pos (by rfl)]
  cases hr : ringReg o with
  | none => exact hd _
  | some q =>
    have hb : bellFields o true = doorbellFields := by simp [bellFields, hr]
    rw [hb]
    dsimp only
    split
    · next h8 =>
      have hm : mayRing (deny agent o true a) agent q = false :=
        ((hd _).mayRing_eq agent (ringReg_eq_some hr h8).2).trans (mayRing_of_denied hr h8 h)
      exact (hd _).ringDoorbell hm
    · exact hd _

/-- A denied read: nothing but its report, and it reads zero (R399). -/
theorem busRead_denied {a : State} {agent o : Nat} {tag : Option Bool} (ha : agent < 2 ^ 8) (ho : o < 2 ^ 20)
    (h : mayRead a agent (o / 4 * 4) = false) : AccessReported a agent o false [] (busRead agent o tag a) ∧
      (busRead agent o tag a).bus.rdata = 0 := by
  have he : busRead agent o tag a = deny agent o false (setBus { a.bus with rdata := 0 } a) := by simp [busRead, h]
  rw [he]
  exact ⟨(deny_reported _ ha ho).of_setBus rfl, deny_rdata _ _ _ _⟩

/-- R399 of a bus access: a denied one is reported, is ignored or reads zero, and changes nothing else. -/
theorem deniedAccess_reported (dt : Nat) (agent : Byte) (off : BitVec 20) (write : Bool) (v : Word) (s : State)
    (hw : write = true → mayWrite (advance dt s) agent.toNat (off.toNat / 4 * 4) = false)
    (hr : write = false → mayRead (advance dt s) agent.toNat (off.toNat / 4 * 4) = false) :
    Answers (.deniedAccess dt agent off write v) s (fun t =>
      AccessReported (advance dt s) agent.toNat off.toNat write (bellFields off.toNat write) t ∧ (write = false → t.bus.rdata = 0)) := by
  refine answers_act (exec_deniedAccess ..) rfl ?_
  have hn : noEnd (advance dt s) := noEnd_advance dt s
  cases write with
  | true => exact ⟨(busWrite_denied agent.isLt off.isLt (hw rfl)).settle hn, fun h => nomatch h⟩
  | false =>
    obtain ⟨hrep, hzero⟩ := busRead_denied (tag := none) agent.isLt off.isLt (hr rfl)
    refine ⟨hrep.settle hn, fun _ => ?_⟩
    obtain ⟨-, ⟨-, -, -, -, hsta, -⟩, -⟩ := hrep.units
    exact (congrArg BusState.rdata (settle_bus (noEnd_congr hn hsta))).trans hzero

end Sys2Proof.Machine
end

section
/-! SUPPORT. A packet outside its rights: from the checks of Table 15-2 to its completion entry, and what that leaves as it was (R359,
R399). -/

namespace Sys2Proof.Machine

/-! ### What the interpreter's service of a packet leaves as it was -/

/-- The values that wait, the units but the management plane, and the outstanding packets are as before. -/
def serviceSame (a t : State) : Prop := waitingSame a t ∧ sensingSame a t ∧ drivingSame a t ∧ t.cmd.pkts = a.cmd.pkts

theorem serviceSame_refl (a : State) : serviceSame a a :=
  ⟨⟨rfl, rfl, rfl, rfl, rfl⟩, ⟨rfl, rfl, rfl, rfl⟩, ⟨rfl, rfl, rfl, rfl, rfl, rfl⟩, rfl⟩

theorem serviceSame_setCmd {a t : State} {c : CmdState} (hc : c.pkts = t.cmd.pkts) : serviceSame a (setCmd c t) ↔ serviceSame a t := by
  simp [serviceSame, waitingSame, sensingSame, drivingSame, hc]

theorem serviceSame_settle {a t : State} (h : serviceSame a t) (ha : noEnd a) : serviceSame a (settle t) := by
  have hn : noEnd t := by
    obtain ⟨-, -, ⟨-, -, -, -, hsta, -⟩, -⟩ := h
    exact noEnd_congr ha hsta
  rw [settle_of_noEnd hn]
  simpa [serviceSame, waitingSame, sensingSame, drivingSame] using h

/-- An armed injection has fired (R394). -/
def injectFired (k : Nat) (s : State) : State :=
  setF (setB (setB s FLC.INJECT.ARM false) FLC.INJECT_STATUS.FIRED true) FLC.INJECT_STATUS.LAST_CHECKER k

theorem injectAt_cases (k w : Nat) (m : Assoc Nat) (s : State) :
    (injectAt k w m s).1 = s ∨ (injectAt k w m s).1 = injectFired k s := by
  unfold injectAt
  extract_lets c b
  split_ifs
  all_goals simp [injectFired]

/-- A store to block SRAM sets check bits and may fire an injection. -/
theorem sramStore_eq (w n : Nat) (s : State) :
    ∃ ecc u, (u = s ∨ u = injectFired 6 s) ∧ sramStore w n s = setCmd { u.cmd with ecc := ecc } u :=
  ⟨_, _, injectAt_cases 6 w _ s, rfl⟩

theorem serviceSame_sramStore {a t : State} {w n : Nat} (h : serviceSame a t) : serviceSame a (sramStore w n t) := by
  obtain ⟨ecc, u, hu, he⟩ := sramStore_eq w n t
  rw [he]
  refine (serviceSame_setCmd rfl).2 ?_
  rcases hu with rfl | rfl
  · exact h
  · exact h

theorem sramStore_win (w n : Nat) (s : State) : (sramStore w n s).cmd.win = s.cmd.win := by
  obtain ⟨ecc, u, hu, he⟩ := sramStore_eq w n s
  rw [he]
  rcases hu with rfl | rfl <;> rfl

/-! ### The completion entry -/

theorem memBytes_memPut (l : List Nat) (m : Mem) (a : Nat) (hl : ∀ b ∈ l, b < 256) : memBytes (memPut m a l) a l.length = l :=
  memBytes_eq_of l _ a hl (fun i hi => memByte_memPut_in l m a i hi)

/-- The bytes of a completion entry (Table 15-4). -/
def entryBytes (seq status applied detail : Nat) : List Nat := toLE 4 seq ++ toLE 2 status ++ toLE 2 applied ++ toLE 8 detail

theorem entryBytes_lt (seq status applied detail : Nat) : ∀ b ∈ entryBytes seq status applied detail, b < 256 := by
  simp only [entryBytes, List.mem_append]
  rintro b (((h | h) | h) | h)
  all_goals exact toLE_lt _ _ b h

/-- Where a ring's next completion entry stands in the command window. -/
def entryAddr (s : State) (q : Nat) : Nat := (cqBase s q + 16 * getF s (CMD.RING_CQ_TAIL.CQ_TAIL q)) % 2 ^ 19

/-- The entry stands in the window and CQ_TAIL has moved on; LAST_APPLIED and the vector are still to come (R359). -/
def entryPut (q seq status applied detail : Nat) (s : State) : State :=
  setF (sramStore (entryAddr s q / 4) 4
      (setCmd { s.cmd with win := memPut s.cmd.win (entryAddr s q) (entryBytes seq status applied detail) } s))
    (CMD.RING_CQ_TAIL.CQ_TAIL q) ((getF s (CMD.RING_CQ_TAIL.CQ_TAIL q) + 1) % ringSize s q)

/-- LAST_APPLIED follows where the packet was applied in full (R360). -/
def entryApplied (q seq status applied detail : Nat) (s : State) : State :=
  let t := entryPut q seq status applied detail s
  if fullStatus status then setF t (CMD.LAST_APPLIED.SEQ q) (max seq (getF t (CMD.LAST_APPLIED.SEQ q))) else t

theorem complete_eq (q seq status applied detail : Nat) (irq : Bool) (s : State) : complete q seq status applied detail irq s =
    if irq || getB s (CMD.RING_CFG.IRQ_ALL q) then raiseVec (getF s (CMD.RING_CFG.VECTOR q)) (entryApplied q seq status applied detail s)
    else entryApplied q seq status applied detail s := rfl

/-- A completion is its entry, and after it at most LAST_APPLIED and a vector (R359, R360). -/
theorem complete_of_entryPut {P : State → Prop} {q seq status applied detail : Nat} {irq : Bool} {s : State}
    (hput : P (entryPut q seq status applied detail s)) (hlast : ∀ t n, P t → P (setF t (CMD.LAST_APPLIED.SEQ q) n))
    (hvec : ∀ t v, P t → P (raiseVec v t)) : P (complete q seq status applied detail irq s) := by
  have happlied : P (entryApplied q seq status applied detail s) := by
    unfold entryApplied
    dsimp only
    split
    · exact hlast _ _ hput
    · exact hput
  rw [complete_eq]
  split
  · exact hvec _ _ happlied
  · exact happlied

theorem serviceSame_complete {a t : State} {q seq status applied detail : Nat} {irq : Bool} (h : serviceSame a t) :
    serviceSame a (complete q seq status applied detail irq t) :=
  complete_of_entryPut (serviceSame_sramStore ((serviceSame_setCmd rfl).2 h)) (fun _ _ h => h) (fun _ _ h => (serviceSame_setCmd rfl).2 h)

theorem serviceSame_ringRoom {a t : State} {q : Nat} (h : serviceSame a t) : serviceSame a (ringRoom q t) := by
  unfold ringRoom
  split
  · exact h
  · exact h

/-- A packet that completes leaves its entry, and CQ_TAIL after it. -/
theorem entryWritten_complete (q seq status applied detail : Nat) (irq : Bool) (s : State) :
    entryWritten s q seq status applied detail (complete q seq status applied detail irq s) := by
  refine complete_of_entryPut (P := entryWritten s q seq status applied detail) ⟨?_, ?_⟩ (fun t n h => ⟨h.1, ?_⟩) (fun t v h => h)
  · have h16 : (entryBytes seq status applied detail).length = 16 := by simp [entryBytes]
    have hb := memBytes_memPut (entryBytes seq status applied detail) s.cmd.win (entryAddr s q) (entryBytes_lt _ _ _ _)
    rw [h16] at hb
    unfold entryPut
    rw [setF_cmd, sramStore_win]
    exact hb
  · exact getF_setF_self _ _ _
  · rw [getF_setF_ne _ _ (by simp only [CMD.RING_CQ_TAIL.CQ_TAIL, CMD.LAST_APPLIED.SEQ, fld]; omega)]
    exact h.2

theorem entryWritten_ringRoom {u t : State} {q seq status applied detail : Nat} (h : entryWritten u q seq status applied detail t) :
    entryWritten u q seq status applied detail (ringRoom q t) := by
  obtain ⟨hwin, htail⟩ := h
  unfold ringRoom
  split
  · refine ⟨hwin, ?_⟩
    unfold setRingSt
    rw [getF_setF_ne _ _ (by simp only [CMD.RING_CQ_TAIL.CQ_TAIL, CMD.RING_STATUS.STATE, fld]; omega)]
    exact htail
  · exact ⟨hwin, htail⟩

theorem entryWritten_settle {u t : State} {q seq status applied detail : Nat} (hq : q < 72) (ht : noEnd t)
    (h : entryWritten u q seq status applied detail t) : entryWritten u q seq status applied detail (settle t) := by
  obtain ⟨hwin, htail⟩ := h
  refine ⟨by rw [settle_cmd ht]; exact hwin, ?_⟩
  rw [getF_settle t ht (by simp only [CMD.RING_CQ_TAIL.CQ_TAIL, TST.CTRL.OVERRIDE, fld]; omega)]
  exact htail

/-! ### The state in which a packet is judged -/

/-- The fields that dispatch sets before it judges a packet. -/
def judgeFields (q : Nat) : List Fld :=
  [FW.CORE_STATUS.CORRECTED 0, CMD.RING_HEAD.HEAD q, CMD.RING_EXPECT.SEQ q, CMD.RING_STATUS.SEQ_VALID q, CMD.RING_STATUS.BAD_SEQ q]

/-- What any of those updates keeps, and any turn of the order of service, holds of the state in which the packet is judged. -/
theorem judged_of_updates {P : State → Prop} {a : State} {q : Nat} {p : Pkt} (hq : p.ring = q) (ha : P a)
    (hset : ∀ t v, ∀ f ∈ judgeFields q, P t → P (setF t f v)) (hcmd : ∀ t c, c.pkts = t.cmd.pkts → P t → P (setCmd c t)) :
    P (judged a q p) := by
  have hslot : P (slotState a q) := by
    unfold slotState
    split
    · exact hset _ _ _ (by simp [judgeFields]) ha
    · exact ha
  have hserved : P (served q (slotState a q)) := by
    unfold served
    split
    · exact hslot
    · split
      · exact hcmd _ _ rfl hslot
      · exact hcmd _ _ rfl hslot
  subst hq
  have hseq : ∀ n e v, P (setB (setF (setF (served p.ring (slotState a p.ring)) (CMD.RING_HEAD.HEAD p.ring) n) (CMD.RING_EXPECT.SEQ p.ring) e)
      (CMD.RING_STATUS.SEQ_VALID p.ring) v) := fun n e v =>
    hset _ _ _ (by simp [judgeFields]) (hset _ _ _ (by simp [judgeFields]) (hset _ _ _ (by simp [judgeFields]) hserved))
  unfold judged seqCheck
  dsimp only
  split
  · exact hseq _ _ _
  · exact hset _ _ _ (by simp [judgeFields]) (hseq _ _ _)

theorem serviceSame_judged {a : State} {q : Nat} {p : Pkt} (hq : p.ring = q) : serviceSame a (judged a q p) :=
  judged_of_updates hq (serviceSame_refl a) (fun _ _ _ _ h => h) (fun _ _ hc h => (serviceSame_setCmd hc).2 h)

/-- The fields that say where a ring's next completion entry goes. -/
def cqFields (q : Nat) : List Fld := [CMD.RING_CQ.CQ_BASE q, CMD.RING_CFG.SIZE_LOG2 q, CMD.RING_CQ_TAIL.CQ_TAIL q]

theorem judgeFields_ne_cqFields (q : Nat) : ∀ f ∈ judgeFields q, ∀ g ∈ cqFields q, g.key ≠ f.key := by
  simp only [judgeFields, cqFields, List.forall_mem_cons, List.not_mem_nil, false_imp_iff, implies_true, and_true, fld,
    FW.CORE_STATUS.CORRECTED, CMD.RING_HEAD.HEAD, CMD.RING_EXPECT.SEQ, CMD.RING_STATUS.SEQ_VALID, CMD.RING_STATUS.BAD_SEQ,
    CMD.RING_CQ.CQ_BASE, CMD.RING_CFG.SIZE_LOG2, CMD.RING_CQ_TAIL.CQ_TAIL]
  omega

theorem getF_judged {a : State} {q : Nat} {p : Pkt} {g : Fld} (hq : p.ring = q) (hg : g ∈ cqFields q) :
    getF (judged a q p) g = getF a g :=
  judged_of_updates (P := fun t => getF t g = getF a g) hq rfl
    (fun t v f hf h => (getF_setF_ne t v (judgeFields_ne_cqFields q f hf g hg)).trans h) (fun _ _ _ h => h)

theorem entryWritten_of_judged {a t : State} {q seq status applied detail : Nat} {p : Pkt} (hq : p.ring = q)
    (h : entryWritten (judged a q p) q seq status applied detail t) : entryWritten a q seq status applied detail t := by
  have hbase : cqBase (judged a q p) q = cqBase a q := congrArg (16 * ·) (getF_judged hq (by simp [cqFields]))
  have hsize : ringSize (judged a q p) q = ringSize a q := congrArg (2 ^ ·) (getF_judged hq (by simp [cqFields]))
  have htail := getF_judged (a := a) (g := CMD.RING_CQ_TAIL.CQ_TAIL q) hq (by simp [cqFields])
  simpa only [entryWritten, hbase, hsize, htail] using h

/-! ### Dispatch -/

theorem headOp_eq (s : State) (q : Nat) : (pktOf s q).op = headOp s q := by
  simp [pktOf, headOp, headSlot, headLen, ringBytes, memBytes, nth]

theorem dispatchHead_of_soundHead {a : State} {q : Nat} {p : Pkt} {run : Pkt → State → State} (h : soundHead a q p) :
    dispatchHead q run a = dispatchSound p run (slotState a q) := by
  obtain ⟨-, rfl, hslots, hcrc, -⟩ := h
  unfold dispatchHead slotState
  split
  · next he => simp [he] at hslots
  · next c i _ he => simp [he, hcrc]

/-- A turn of the order of service touches no register. -/
theorem getF_served (q : Nat) (s : State) (f : Fld) : getF (served q s) f = getF s f := by
  unfold served
  split
  · rfl
  · split <;> rfl

/-- A correctable slot is counted, and nothing else of the rings changes (R321). -/
theorem getF_slotState (a : State) (q : Nat) {f : Fld} (h : (FW.CORE_STATUS.CORRECTED 0).key < f.key) :
    getF (slotState a q) f = getF a f := by
  unfold slotState
  split
  · exact getF_incF_ne a h.ne'
  · rfl

/-- Check 2 passes: SEQ is as the ring expects it (R354). -/
theorem seqCheck_of_soundHead {a : State} {q : Nat} {p : Pkt} (h : soundHead a q p) (n : Nat) :
    (seqCheck p (setF (served q (slotState a q)) (CMD.RING_HEAD.HEAD q) n)).2 = true := by
  obtain ⟨-, rfl, -, -, hseq⟩ := h
  have hkeep : ∀ f : Fld, (CMD.RING_STATUS.STATE q).key < f.key →
      getF (setF (served q (slotState a q)) (CMD.RING_HEAD.HEAD q) n) f = getF a f := fun f hf => by
    have hhead : (CMD.RING_HEAD.HEAD q).key < f.key := lt_trans (by simp [CMD.RING_HEAD.HEAD, CMD.RING_STATUS.STATE, fld]) hf
    have hcount : (FW.CORE_STATUS.CORRECTED 0).key < f.key :=
      lt_trans (by simp only [FW.CORE_STATUS.CORRECTED, CMD.RING_STATUS.STATE, fld]; omega) hf
    rw [getF_setF_ne _ _ hhead.ne', getF_served, getF_slotState a q hcount]
  have hvalid := hkeep (CMD.RING_STATUS.SEQ_VALID q) (by simp [CMD.RING_STATUS.STATE, CMD.RING_STATUS.SEQ_VALID, fld])
  have hexpect := hkeep (CMD.RING_EXPECT.SEQ q) (by simp [CMD.RING_STATUS.STATE, CMD.RING_EXPECT.SEQ, fld])
  have hring : (pktOf a q).ring = q := rfl
  simp only [seqCheck, getB, hring, hvalid, hexpect]
  simpa [getB] using hseq

theorem checkFail_of_rightsFail {u : State} {p : Pkt} {i : Nat} (hctx : p.ctx = ctxOf p.ring) (hop : p.op ∈ opcodes)
    (hslots : p.slots = slotsNeeded p) (htag : p.tag ∈ tagsOf p.op) (hr : rightsFail u p = some i) :
    checkFail u p = some (stDenied, i) := by
  simp [checkFail, hctx, hop, ← hslots, htag, hr]

/-- A sound packet that fails one of the checks 3 to 10 completes with that check's status, in the state in which it is judged. -/
theorem dispatchSound_of_checkFail {a : State} {q st d : Nat} {p : Pkt} {run : Pkt → State → State} (h : soundHead a q p)
    (hc : checkFail (judged a q p) p = some (st, d)) : dispatchSound p run (slotState a q) = finish p st 0 d (judged a q p) := by
  have hring : p.ring = q := by rw [h.2.1]; rfl
  have hhead : ringHead (slotState a q) q = ringHead a q :=
    getF_slotState a q (by simp only [FW.CORE_STATUS.CORRECTED, CMD.RING_HEAD.HEAD, fld]; omega)
  have hsize : ringSize (slotState a q) q = ringSize a q :=
    congrArg (2 ^ ·) (getF_slotState a q (by simp only [FW.CORE_STATUS.CORRECTED, CMD.RING_CFG.SIZE_LOG2, fld]; omega))
  have hseq := seqCheck_of_soundHead h ((ringHead a q + p.slots) % ringSize a q)
  unfold judged at hc
  simp [dispatchSound, hring, hhead, hsize, hseq, hc, judged]

/-- A packet of the row's kind that fails one of the checks 3 to 10 completes with that check's status. -/
theorem packetRow_of_checkFail {a : State} {q st d : Nat} {p : Pkt} {mine : Nat → Bool} {run : Pkt → State → State}
    (h : soundHead a q p) (hm : mine p.op = true) (hc : checkFail (judged a q p) p = some (st, d)) :
    packetRow mine q run a = finish p st 0 d (judged a q p) := by
  have hop : p.op = headOp a q := by rw [h.2.1]; exact headOp_eq a q
  rw [packetRow, h.1, ← hop, hm, if_pos (by rfl), dispatchHead_of_soundHead h, dispatchSound_of_checkFail h hc]

/-- No block of the ring has arrived, so that the row dispatches the packet at its head (R365). -/
theorem blockRow_of_no_block {op q : Nat} {rootOk sigOk : Bool} {a : State} (h : ∀ x ∈ a.cmd.pkts, x.ring = q → x.st ≠ 3) :
    blockRow op q rootOk sigOk a = packetRow (fun o => o == op) q doBlock a := by
  have hnone : a.cmd.pkts.find? (fun x => x.ring == q && x.op == op && x.st == 3) = none := by
    rw [List.find?_eq_none]
    intro x hx hm
    simp only [Bool.and_eq_true, beq_iff_eq] at hm
    exact h x hx hm.1.1 hm.2
  rw [blockRow, hnone]

/-! ### The rows of the opcodes -/

/-- The command dispatches packets of an opcode on a ring: its effect is that row of the table, wherever no block of the ring has arrived. -/
def Dispatches (i : Instr) (op dt q : Nat) : Prop :=
  ∃ (f : State → State) (mine : Nat → Bool) (run : Pkt → State → State), mine op = true ∧ (∀ s, exec i s = act i dt f s) ∧
    ∀ a : State, (∀ x ∈ a.cmd.pkts, x.ring = q → x.st ≠ 3) → f a = packetRow mine q run a

theorem dispatches_packetRow {i : Instr} {op dt q : Nat} {mine : Nat → Bool} {run : Pkt → State → State} (hm : mine op = true)
    (he : ∀ s, exec i s = act i dt (packetRow mine q run) s) : Dispatches i op dt q := ⟨_, mine, run, hm, he, fun _ _ => rfl⟩

theorem dispatches_blockRow {i : Instr} {op dt q : Nat} {rootOk sigOk : Bool}
    (he : ∀ s, exec i s = act i dt (blockRow op q rootOk sigOk) s) : Dispatches i op dt q :=
  ⟨_, fun o => o == op, doBlock, beq_self_eq_true op, he, fun _ h => blockRow_of_no_block h⟩

/-- Every opcode of Table 15-5 has its row. -/
theorem rowOf_dispatches {op : Nat} (hop : op ∈ opcodes) (dt q key : Nat) (b c : Bool) : Dispatches (rowOf op dt q b c key) op dt q := by
  simp only [opcodes, List.mem_cons, List.not_mem_nil, or_false] at hop
  rcases hop with rfl | rfl | rfl | rfl | rfl | rfl | rfl | rfl | rfl | rfl | rfl | rfl | rfl | rfl | rfl | rfl | rfl | rfl | rfl | rfl |
    rfl | rfl | rfl | rfl
  · exact dispatches_packetRow rfl (exec_nop dt q)
  · exact dispatches_packetRow rfl (exec_regWrite dt q)
  · exact dispatches_packetRow rfl (exec_regRead dt q)
  · exact dispatches_packetRow rfl (exec_mark dt q)
  · exact dispatches_packetRow rfl (exec_jobAttach dt q)
  · exact dispatches_packetRow rfl (exec_jobDetach dt q)
  · exact dispatches_packetRow rfl (exec_setCap dt q)
  · exact dispatches_packetRow rfl (exec_getCapState dt q)
  · exact dispatches_blockRow (exec_planSegmentBlock dt q)
  · exact dispatches_packetRow rfl (exec_planStop dt q)
  · exact dispatches_blockRow (exec_programBlock dt q)
  · exact dispatches_packetRow rfl (exec_sbKeyInstall dt q b key)
  · exact dispatches_packetRow rfl (exec_logKeyRotate dt q)
  · exact dispatches_packetRow rfl (exec_confMode dt q)
  · exact dispatches_packetRow rfl (exec_partitionAssign dt q)
  · exact dispatches_packetRow rfl (exec_scrubBegin dt q)
  · exact dispatches_packetRow rfl (exec_scrubEnd dt q)
  · exact dispatches_blockRow (exec_updateBlock dt q b c)
  · exact dispatches_packetRow rfl (exec_updateActivate dt q)
  · exact dispatches_packetRow rfl (exec_updateConfirm dt q)
  · exact dispatches_packetRow rfl (exec_updateAbort dt q)
  · exact dispatches_packetRow rfl (exec_evrWatch dt q)
  · exact dispatches_packetRow rfl (exec_evrFlush dt q)
  · exact dispatches_packetRow rfl (exec_faultPolicy dt q)

theorem rowOf_wf {op dt q key : Nat} (b c : Bool) (hq : q < 72) (hk : key < 2 ^ 256) : (rowOf op dt q b c key).wf = true := by
  unfold rowOf
  split
  case h_11 => simpa [Instr.wf, hq] using hk
  all_goals simp [Instr.wf, hq]

/-- A packet that fails one of the checks 3 to 10 completes with that check's status, and the block is otherwise as it was. -/
theorem answers_of_checkFail {dt q key st d : Nat} {b c : Bool} {p : Pkt} {s : State} (hq : q < 72) (hk : key < 2 ^ 256)
    (hs : soundHead (advance dt s) q p) (hb : ∀ x ∈ (advance dt s).cmd.pkts, x.ring = q → x.st ≠ 3) (hop : p.op ∈ opcodes)
    (hc : checkFail (judged (advance dt s) q p) p = some (st, d)) :
    Answers (rowOf p.op dt q b c key) s (fun t => entryWritten (advance dt s) q p.seq st 0 d t ∧ serviceSame (advance dt s) t) := by
  obtain ⟨f, mine, run, hm, he, hrow⟩ := rowOf_dispatches hop dt q key b c
  have hring : p.ring = q := by rw [hs.2.1]; rfl
  refine answers_act (he s) (rowOf_wf b c hq hk) ?_
  rw [hrow _ hb, packetRow_of_checkFail hs hm hc]
  have hn : noEnd (advance dt s) := noEnd_advance dt s
  have hsame : serviceSame (advance dt s) (finish p st 0 d (judged (advance dt s) q p)) :=
    serviceSame_ringRoom (serviceSame_complete (serviceSame_judged hring))
  have hentry : entryWritten (judged (advance dt s) q p) q p.seq st 0 d (finish p st 0 d (judged (advance dt s) q p)) := by
    rw [finish, hring]
    exact entryWritten_ringRoom (entryWritten_complete ..)
  have hn' : noEnd (finish p st 0 d (judged (advance dt s) q p)) := by
    obtain ⟨-, -, ⟨-, -, -, -, hsta, -⟩, -⟩ := hsame
    exact noEnd_congr hn hsta
  exact ⟨entryWritten_settle hq hn' (entryWritten_of_judged hring hentry), serviceSame_settle hsame hn⟩

/-- R399 of a packet: outside its rights it completes S_DENIED, with the index at which it fails (R363, R398), and changes nothing else. -/
theorem deniedPacket_completes {dt q key i : Nat} {b c : Bool} {p : Pkt} {s : State} (hq : q < 72) (hk : key < 2 ^ 256)
    (hs : soundHead (advance dt s) q p) (hb : ∀ x ∈ (advance dt s).cmd.pkts, x.ring = q → x.st ≠ 3) (hctx : p.ctx = ctxOf q)
    (hop : p.op ∈ opcodes) (hslots : p.slots = slotsNeeded p) (htag : p.tag ∈ tagsOf p.op)
    (hr : rightsFail (judged (advance dt s) q p) p = some i) :
    Answers (rowOf p.op dt q b c key) s (fun t => entryWritten (advance dt s) q p.seq stDenied 0 i t ∧ serviceSame (advance dt s) t) := by
  have hring : p.ring = q := by rw [hs.2.1]; rfl
  exact answers_of_checkFail hq hk hs hb hop (checkFail_of_rightsFail (hring ▸ hctx) hop hslots htag hr)

end Sys2Proof.Machine
end

section
/-! O15. The statement fails in a state that no register can hold: a number above 1 under the one-bit flag DENIED. -/

namespace Sys2Proof.Machine

/-- Where DENIED is a bit, a denied access after the first changes no field but QUEUE_OVF and those listed. -/
theorem AccessReported.fields_of_flag_one {a t : State} {agent o : Nat} {write : Bool} {l : List Fld}
    (h : AccessReported a agent o write l t) (h1 : getF a SEC.STATUS.DENIED = 1) : fieldsBut (FLC.STATUS.QUEUE_OVF :: l) a t := by
  have hcapture : captureFields a = [] := by simp [captureFields, getB, h1]
  intro f hf ho
  by_cases hk : f.key = SEC.STATUS.DENIED.key
  · have hkey : ∀ u : State, getF u f = getF u SEC.STATUS.DENIED := fun u => by unfold getF; rw [hk]
    rw [hkey, hkey, h.flag, h1]
  · refine h.fields f ?_ ho
    rw [hcapture]
    simpa [hk] using hf

/-- The state after reset, but for the number 2 in the register table under the one-bit flag DENIED. -/
def wideFlag : State := { State.reset with regs := [(SEC.STATUS.DENIED.key, 2)] }

theorem getF_wideFlag : getF (advance 0 wideFlag) SEC.STATUS.DENIED = 2 := by decide +kernel

/-- Refutes O15: the clause for an access while DENIED is set lists DENIED among what does not change, and the statement speaks of every
state, also of one whose table holds 2 under that flag; there agent 0x99's read of offset 0, which is denied, leaves 1 under it. No more is
wrong with the statement: where the flag is a bit that clause is `AccessReported.fields_of_flag_one`, and its other clauses hold of every
state, those of the bus by `deniedAccess_reported`, that of the packet by `deniedPacket_completes`. -/
theorem not_deniedAccessesAreReported : ¬ Obligations.DeniedAccessesAreReported := by
  unfold Obligations.DeniedAccessesAreReported
  intro h
  have hread : mayRead (advance 0 wideFlag) (0x99#8).toNat ((0#20).toNat / 4 * 4) = false := rfl
  obtain ⟨t, ht, -, -, -, -, -, hlater, -⟩ := (h 0 wideFlag _ rfl).1 0x99#8 0#20 false 0 (fun hw => nomatch hw) (fun _ => hread)
  obtain ⟨t', ht', hrep, -⟩ := deniedAccess_reported 0 0x99#8 0#20 false 0 wideFlag (fun hw => nomatch hw) (fun _ => hread)
  obtain rfl : t = t' := by rw [ht] at ht'; injection ht'
  have hset : getB (advance 0 wideFlag) SEC.STATUS.DENIED = true := by rw [getB, getF_wideFlag]; rfl
  have hsame : getF t SEC.STATUS.DENIED = getF (advance 0 wideFlag) SEC.STATUS.DENIED := hlater hset _ (by decide) (by decide)
  rw [hrep.flag, getF_wideFlag] at hsame
  exact absurd hsame (by decide)

end Sys2Proof.Machine
end

section
/-! SUPPORT. Every command at once: what its effect keeps of the queue, of the stores and of the time record. One line per command, each the
lemma of its effect. -/

namespace Sys2Proof.Machine

/-- A property of the time record that stands whatever the hardware does to it but a strobe and the reference's two events: a reset, a
cut, a local boundary, a launch that moves, system time, VAON, and the hours of a cold start. -/
structure TimeClosed (Q : TimeState → Prop) : Prop where
  zero : ∀ {u}, Q u → Q (timeZero u)
  cut : ∀ {u}, Q u → Q { u with cutMade := true }
  boundary : ∀ {u}, Q u → Q { u with nextB := none, cutMade := false }
  next : ∀ {u n}, Q u → Q { u with nextB := n }
  sys : ∀ {u n}, Q u → Q { u with sys := n }
  vaon : ∀ {u v}, Q u → Q { u with vaonLow := v }
  cold : ∀ {u n}, Q u → Q { u with hours := n, vaonLow := false }

/-- The commands that set the step number, or stop and start the reference. -/
def ownTime : Instr → Bool
  | .stepBoundaryStrobe .. | .refclkStop .. | .refclkResume .. => true
  | _ => false

/-- A command keeps what its effect keeps. -/
theorem kept_of_exec {i : Instr} {dt : Nat} {f : State → State} {s t : State} {b c : Instant} (hf : exec i s = act i dt f s)
    (he : exec i s = .next t) (h : Kept b (advance dt s)) (hk : ∀ u, Kept b u → Kept c (f u)) : Kept c t :=
  act_kept (hf.symm.trans he) h hk

/-- A command without a time of its own keeps every such property, the queue and the canonical form of every store. -/
theorem exec_kept {i : Instr} {b : Instant} {s t : State} (hi : ownTime i = false) (hc : TimeClosed b.2) (h : Kept b (advance i.delay s))
    (he : exec i s = .next t) : Kept b t := by
  have hz : ∀ u, b.2 u → b.2 (timeZero u) := fun _ => hc.zero
  cases i with
  | stepBoundaryStrobe => exact absurd hi (by simp [ownTime])
  | boundaryCut => exact kept_of_exec (exec_boundaryCut ..) he h fun _ hk => boundaryCut_kept hk (fun _ hu => hc.cut hu)
  | localBoundary => exact kept_of_exec (exec_localBoundary ..) he h fun _ hk => localBoundary_kept hk (fun _ hu => hc.boundary hu)
  | boundarySourceLocal => exact kept_of_exec (exec_boundarySourceLocal ..) he h fun _ hk => sourceLocal_kept hk (fun _ hu => hc.boundary hu)
  | systimeCoherent => exact kept_of_exec (exec_systimeCoherent ..) he h fun _ hk => systime_kept _ _ hk (fun _ _ _ hu => hc.sys hu)
  | vaonLow => exact kept_of_exec (exec_vaonLow ..) he h fun _ hk => vaonLow_kept _ hk (fun _ hu => hc.vaon hu)
  | vaonCollapse => exact kept_of_exec (exec_vaonCollapse ..) he h fun _ hk => vaonCollapse_kept hk
  | registerWrite => exact kept_of_exec (exec_registerWrite ..) he h fun _ hk => busWrite_kept _ _ _ _ hk hz
  | rwWriteApply => exact kept_of_exec (exec_rwWriteApply ..) he h fun _ hk => applyLanding_kept hk
  | unmappedAccess => exact kept_of_exec (exec_unmappedAccess ..) he h fun _ hk => busAccess_kept _ _ _ _ _ hk hz
  | wideReadLowWord => exact kept_of_exec (exec_wideReadLowWord ..) he h fun _ hk => busRead_kept _ _ _ hk
  | wideWriteLowWord => exact kept_of_exec (exec_wideWriteLowWord ..) he h fun _ hk => busWrite_kept _ _ _ _ hk hz
  | rcFieldRead => exact kept_of_exec (exec_rcFieldRead ..) he h fun _ hk => busRead_kept _ _ _ hk
  | deniedAccess => exact kept_of_exec (exec_deniedAccess ..) he h fun _ hk => busAccess_kept _ _ _ _ _ hk hz
  | senseSample => exact kept_of_exec (exec_senseSample ..) he h fun _ hk => onGrid_kept _ _ (fun _ ht => senseSample_kept _ _ ht) hk
  | windowClose1us => exact kept_of_exec (exec_windowClose1us ..) he h fun _ hk => onGrid_kept _ _ (fun _ ht => windowClose1_kept ht) hk
  | windowClose10us => exact kept_of_exec (exec_windowClose10us ..) he h fun _ hk => onGrid_kept _ _ (fun _ ht => windowClose10_kept ht) hk
  | busSample => exact kept_of_exec (exec_busSample ..) he h fun _ hk => onGrid_kept _ _ (fun _ ht => busSample_kept _ _ ht) hk
  | xchkRound => exact kept_of_exec (exec_xchkRound ..) he h fun _ hk => onGrid_kept _ _ (fun _ ht => xchkClose_kept ht) hk
  | busXchkSuspect => exact kept_of_exec (exec_busXchkSuspect ..) he h fun _ hk => bandFollow_kept (suspectRow_kept _ (busXchkSuspect_kept hk))
  | measSuspectClear => exact kept_of_exec (exec_measSuspectClear ..) he h fun _ hk => bandFollow_kept (suspectRow_kept _ (measSuspectClear_kept hk))
  | imonRange => exact kept_of_exec (exec_imonRange ..) he h fun _ hk => imonRange_kept _ hk
  | senseOpen => exact kept_of_exec (exec_senseOpen ..) he h fun _ hk => senseOpen_kept _ hk
  | vcoreSenseSplit => exact kept_of_exec (exec_vcoreSenseSplit ..) he h fun _ hk => senseSplit_kept hk
  | busVRange => exact kept_of_exec (exec_busVRange ..) he h fun _ hk => busVRange_kept hk
  | droopLevelChange => exact kept_of_exec (exec_droopLevelChange ..) he h fun _ hk => droopLevelChange_kept _ _ _ hk
  | droopDetStuck => exact kept_of_exec (exec_droopDetStuck ..) he h fun _ hk => droopDetStuck_kept _ _ hk
  | detExclWrite => exact kept_of_exec (exec_detExclWrite ..) he h fun _ hk => busWrite_kept _ _ _ _ hk hz
  | stretchHoldLong => exact kept_of_exec (exec_stretchHoldLong ..) he h fun _ hk => stretchHoldLong_kept _ hk
  | activityFeature => exact kept_of_exec (exec_activityFeature ..) he h fun _ hk => activityFeature_kept _ _ hk
  | actEndOfWindow => exact kept_of_exec (exec_actEndOfWindow ..) he h fun _ hk => ite_kept (windowDone_kept _ hk) hk
  | actWindowStale => exact kept_of_exec (exec_actWindowStale ..) he h fun _ hk => windowStale_kept _ hk
  | actStreamStall => exact kept_of_exec (exec_actStreamStall ..) he h fun _ hk => actStall_kept hk
  | hksRound => exact kept_of_exec (exec_hksRound ..) he h fun _ hk => onGrid_kept _ _ (fun _ ht => hksRound_kept _ ht) hk
  | hksChannelInvalid => exact kept_of_exec (exec_hksChannelInvalid ..) he h fun _ hk => hksInvalid_kept _ hk
  | stgTlmRoundStart => exact kept_of_exec (exec_stgTlmRoundStart ..) he h fun _ hk => onGrid_kept _ _ (fun _ ht => tlmRound_kept ht) hk
  | stgTlmFrame => exact kept_of_exec (exec_stgTlmFrame ..) he h fun _ hk => tlmFrame_kept _ _ hk
  | stgTlmSilent => exact kept_of_exec (exec_stgTlmSilent ..) he h fun _ hk => tlmSilent_kept _ hk
  | estWindowSubstituted => exact kept_of_exec (exec_estWindowSubstituted ..) he h fun _ hk => ite_kept (windowSubst_kept hk) hk
  | estDisagree => exact kept_of_exec (exec_estDisagree ..) he h fun _ hk => tryRow_kept _ hk
  | estMismatch => exact kept_of_exec (exec_estMismatch ..) he h fun _ hk => tryRow_kept _ hk
  | estModelLost => exact kept_of_exec (exec_estModelLost ..) he h fun _ hk => tryRow_kept _ hk
  | estModelRestored => exact kept_of_exec (exec_estModelRestored ..) he h fun _ hk => tryRow_kept _ hk
  | estTrustAgree => exact kept_of_exec (exec_estTrustAgree ..) he h fun _ hk => tryRow_kept _ hk
  | estShadowAgree => exact kept_of_exec (exec_estShadowAgree ..) he h fun _ hk => tryRow_kept _ hk
  | calRound => exact kept_of_exec (exec_calRound ..) he h fun _ hk => calRound_kept hk
  | estCalClamp => exact kept_of_exec (exec_estCalClamp ..) he h fun _ hk => calClamp_kept _ hk
  | estRetry => exact kept_of_exec (exec_estRetry ..) he h fun _ hk => busWrite_kept _ _ _ _ hk hz
  | estCalReset => exact kept_of_exec (exec_estCalReset ..) he h fun _ hk => busWrite_kept _ _ _ _ hk hz
  | pxeSlot1Trigger => exact kept_of_exec (exec_pxeSlot1Trigger ..) he h fun _ hk => slot1Trigger_kept hk
  | pxeSlot3Trigger => exact kept_of_exec (exec_pxeSlot3Trigger ..) he h fun _ hk => slot3Trigger_kept hk
  | pxePublish => exact kept_of_exec (exec_pxePublish ..) he h fun _ hk => publishRow_kept _ _ hk
  | pxeOverrun => exact kept_of_exec (exec_pxeOverrun ..) he h fun _ hk => pxeOverrun_kept _ _ hk
  | pxeMemUncorrectable => exact kept_of_exec (exec_pxeMemUncorrectable ..) he h fun _ hk => pxeMemUncorrectable_kept _ _ _ hk
  | pxeCapRelease => exact kept_of_exec (exec_pxeCapRelease ..) he h fun _ hk => busWrite_kept _ _ _ _ hk hz
  | ffScheduleComputed => exact kept_of_exec (exec_ffScheduleComputed ..) he h fun _ hk => ffScheduleComputed_kept hk
  | ffAddAction => exact kept_of_exec (exec_ffAddAction ..) he h fun _ hk => ffAddAction_kept _ hk
  | ffLiftAction => exact kept_of_exec (exec_ffLiftAction ..) he h fun _ hk => ffLiftAction_kept hk
  | drgEvaluate => exact kept_of_exec (exec_drgEvaluate ..) he h fun _ hk => onGrid_kept _ _ (fun _ ht => drgEvaluate_kept ht) hk
  | launchMove => exact kept_of_exec (exec_launchMove ..) he h fun _ hk => launchMove_kept _ _ hk (fun _ hu => hc.next hu)
  | vselLatch => exact kept_of_exec (exec_vselLatch ..) he h fun _ hk => vselLatch_kept _ hk
  | setpointRampDone => exact kept_of_exec (exec_setpointRampDone ..) he h fun _ hk => refreshRate_kept (setpointRampDone_kept _ hk)
  | deEnter => exact kept_of_exec (exec_deEnter ..) he h fun _ hk => deEnter_kept _ hk
  | phaseRampInDone => exact kept_of_exec (exec_phaseRampInDone ..) he h fun _ hk => phaseRampInDone_kept _ hk
  | phaseRampOutDone => exact kept_of_exec (exec_phaseRampOutDone ..) he h fun _ hk => phaseRampOutDone_kept _ hk
  | shedInhEnd => exact kept_of_exec (exec_shedInhEnd ..) he h fun _ hk => shedInhEnd_kept _ hk
  | allPhaseBurst => exact kept_of_exec (exec_allPhaseBurst ..) he h fun _ hk => allPhaseBurst_kept _ hk
  | burstEnd => exact kept_of_exec (exec_burstEnd ..) he h fun _ hk => burstEnd_kept _ hk
  | burstRearmEnd => exact kept_of_exec (exec_burstRearmEnd ..) he h fun _ hk => burstRearmEnd_kept hk
  | phaseOcTrip => exact kept_of_exec (exec_phaseOcTrip ..) he h fun _ hk => phaseOcTrip_kept _ hk
  | phaseOcRelease => exact kept_of_exec (exec_phaseOcRelease ..) he h fun _ hk => phaseOcRelease_kept _ hk
  | phaseFault => exact kept_of_exec (exec_phaseFault ..) he h fun _ hk => phaseFault_kept _ hk
  | phaseHot => exact kept_of_exec (exec_phaseHot ..) he h fun _ hk => phaseHot_kept _ hk
  | phaseImbalance => exact kept_of_exec (exec_phaseImbalance ..) he h fun _ hk => phaseImbalance_kept _ hk
  | phcRetiredWrite => exact kept_of_exec (exec_phcRetiredWrite ..) he h fun _ hk => busWrite_kept _ _ _ _ hk hz
  | seqStart => exact kept_of_exec (exec_seqStart ..) he h fun _ hk => busWrite_kept _ _ _ _ hk hz
  | seqStop => exact kept_of_exec (exec_seqStop ..) he h fun _ hk => busWrite_kept _ _ _ _ hk hz
  | busSettleDone => exact kept_of_exec (exec_busSettleDone ..) he h fun _ hk => busSettleDone_kept hk
  | busStartFail => exact kept_of_exec (exec_busStartFail ..) he h fun _ hk => busStartFail_kept hk
  | seqSlotStart => exact kept_of_exec (exec_seqSlotStart ..) he h fun _ hk => seqSlotStart_kept hk
  | railProbeDone => exact kept_of_exec (exec_railProbeDone ..) he h fun _ hk => railProbeDone_kept _ hk
  | railPowerGood => exact kept_of_exec (exec_railPowerGood ..) he h fun _ hk => railPowerGood_kept _ hk
  | railPgTimeout => exact kept_of_exec (exec_railPgTimeout ..) he h fun _ hk => railPgTimeout_kept _ hk
  | railPrebiasHigh => exact kept_of_exec (exec_railPrebiasHigh ..) he h fun _ hk => railPrebiasHigh_kept _ hk
  | railShortStart => exact kept_of_exec (exec_railShortStart ..) he h fun _ hk => railShortStart_kept _ hk
  | railStartStall => exact kept_of_exec (exec_railStartStall ..) he h fun _ hk => railStartStall_kept _ hk
  | railOv => exact kept_of_exec (exec_railOv ..) he h fun _ hk => railOv_kept _ hk
  | railStopDone => exact kept_of_exec (exec_railStopDone ..) he h fun _ hk => railStopDone_kept _ hk
  | pwrFailNFall => exact kept_of_exec (exec_pwrFailNFall ..) he h fun _ hk => powerFail_kept hk
  | quickStopRailOff => exact kept_of_exec (exec_quickStopRailOff ..) he h fun _ hk => quickStopRailOff_kept hk
  | pwrFailNRise => exact kept_of_exec (exec_pwrFailNRise ..) he h fun _ hk => pwrFailRise_kept hk
  | latchClear => exact kept_of_exec (exec_latchClear ..) he h fun _ hk => busWrite_kept _ _ _ _ hk hz
  | protectiveLowering => exact kept_of_exec (exec_protectiveLowering ..) he h fun _ hk => protectiveLowering_kept _ hk
  | limitUnmet => exact kept_of_exec (exec_limitUnmet ..) he h fun _ hk => limitUnmet_kept _ hk
  | lgvDutyStep => exact kept_of_exec (exec_lgvDutyStep ..) he h fun _ hk => lgvDutyStep_kept hk
  | capUnattainable => exact kept_of_exec (exec_capUnattainable ..) he h fun _ hk => ite_kept (capUnattainable_kept hk) hk
  | thermLimWrite => exact kept_of_exec (exec_thermLimWrite ..) he h fun _ hk => busWrite_kept _ _ _ _ hk hz
  | thermalRise => exact kept_of_exec (exec_thermalRise ..) he h fun _ hk => thermalRise_kept _ hk
  | tmgFwRound => exact kept_of_exec (exec_tmgFwRound ..) he h fun _ hk => byComp_kept _ _ (fun _ ht => tmgFwRound_kept ht) hk
  | sensorSuspect => exact kept_of_exec (exec_sensorSuspect ..) he h fun _ hk => byComp_kept _ _ (fun _ ht => sensorSuspect_kept _ ht) hk
  | tmgSensorTrusted => exact kept_of_exec (exec_tmgSensorTrusted ..) he h fun _ hk => byComp_kept _ _ (fun _ ht => sensorTrusted_kept _ ht) hk
  | thermalFloor => exact kept_of_exec (exec_thermalFloor ..) he h fun _ hk => byComp_kept _ _ (fun _ ht => thermalFloor_kept ht) hk
  | suspectSetWrite => exact kept_of_exec (exec_suspectSetWrite ..) he h fun _ hk => busWrite_kept _ _ _ _ hk hz
  | suspectClearWrite => exact kept_of_exec (exec_suspectClearWrite ..) he h fun _ hk => busWrite_kept _ _ _ _ hk hz
  | tripComparator => exact kept_of_exec (exec_tripComparator ..) he h fun _ hk => tripComparator_kept _ _ hk
  | tripComparatorRelease => exact kept_of_exec (exec_tripComparatorRelease ..) he h fun _ hk => tripRelease_kept _ _ hk
  | balRoundBegin => exact kept_of_exec (exec_balRoundBegin ..) he h fun _ hk => byComp_kept _ _ (fun _ ht => balRoundBegin_kept ht) hk
  | balFrameReceived => exact kept_of_exec (exec_balFrameReceived ..) he h fun _ hk => byComp_kept _ _ (fun _ ht => balFrameReceived_kept ht) hk
  | balOutcome => exact kept_of_exec (exec_balOutcome ..) he h fun _ hk => byComp_kept _ _ (fun _ ht => balOutcome_kept ht) hk
  | sidebandRecordReceived => exact kept_of_exec (exec_sidebandRecordReceived ..) he h fun _ hk => sidebandReceived_kept _ _ _ _ hk
  | sbCounterEnd => exact kept_of_exec (exec_sbCounterEnd ..) he h fun _ hk => sbCounterEnd_kept _ hk
  | sbKeyGraceEnd => exact kept_of_exec (exec_sbKeyGraceEnd ..) he h fun _ hk => keyGraceEnd_kept _ hk
  | restEnter => exact kept_of_exec (exec_restEnter ..) he h fun _ hk => restEnter_kept hk
  | restWake => exact kept_of_exec (exec_restWake ..) he h fun _ hk => restWake_kept hk
  | restExit => exact kept_of_exec (exec_restExit ..) he h fun _ hk => restExit_kept hk hz
  | srConfirmed => exact kept_of_exec (exec_srConfirmed ..) he h fun _ hk => srConfirmed_kept hk
  | restSrTimeout => exact kept_of_exec (exec_restSrTimeout ..) he h fun _ hk => srTimeout_kept hk
  | staWake => exact kept_of_exec (exec_staWake ..) he h fun _ hk => busWrite_kept _ _ _ _ hk hz
  | enterSafe => exact kept_of_exec (exec_enterSafe ..) he h fun _ hk => busWrite_kept _ _ _ _ hk hz
  | safeStateEnter => exact kept_of_exec (exec_safeStateEnter ..) he h fun _ hk => safeDueEnter_kept hk
  | blockRestart => exact kept_of_exec (exec_blockRestart ..) he h fun _ hk => busWrite_kept _ _ _ _ hk hz
  | chipReset => exact kept_of_exec (exec_chipReset ..) he h fun _ hk => chipReset_kept hk hz
  | moduleReset => exact kept_of_exec (exec_moduleReset ..) he h fun _ hk => moduleReset_kept hk
  | moduleResetRelease => exact kept_of_exec (exec_moduleResetRelease ..) he h fun _ hk => moduleRelease_kept hk hz
  | coldStart => exact kept_of_exec (exec_coldStart ..) he h fun _ hk => coldStart_kept hk hz (fun _ _ hu => hc.cold hu)
  | pufReconstruct => exact kept_of_exec (exec_pufReconstruct ..) he h fun _ hk => pufReconstruct_kept _ _ _ hk
  | wdtKick => exact kept_of_exec (exec_wdtKick ..) he h fun _ hk => busWrite_kept _ _ _ _ hk hz
  | wdtExpiry => exact kept_of_exec (exec_wdtExpiry ..) he h fun _ hk => failing_kept _ (fun _ ht => wdtExpiry_kept ht) hk
  | mainCoreStart => exact kept_of_exec (exec_mainCoreStart ..) he h fun _ hk => mainStart_kept _ _ _ _ hk
  | helperLoad => exact kept_of_exec (exec_helperLoad ..) he h fun _ hk => failing_kept _ (fun _ ht => helperLoad_kept _ _ _ ht) hk
  | componentCheckIn => exact kept_of_exec (exec_componentCheckIn ..) he h fun _ hk => checkInRow_kept _ hk
  | fwComponentHang => exact kept_of_exec (exec_fwComponentHang ..) he h fun _ hk => failing_kept _ (fun _ ht => componentHang_kept _ ht) hk
  | fwMpuViolation => exact kept_of_exec (exec_fwMpuViolation ..) he h fun _ hk => failing_kept _ (fun _ ht => mpuViolation_kept _ _ _ _ ht) hk
  | fwCoreException => exact kept_of_exec (exec_fwCoreException ..) he h fun _ hk => failing_kept _ (fun _ ht => coreException_kept _ _ _ ht) hk
  | fwComponentRestart => exact kept_of_exec (exec_fwComponentRestart ..) he h fun _ hk => compRestarted_kept _ hk
  | fwRestartLimit => exact kept_of_exec (exec_fwRestartLimit ..) he h fun _ hk => limitRow_kept hk
  | hostAlive => exact kept_of_exec (exec_hostAlive ..) he h fun _ hk => busWrite_kept _ _ _ _ hk hz
  | hostAbsent => exact kept_of_exec (exec_hostAbsent ..) he h fun _ hk => hostAbsent_kept hk
  | hostAttach => exact kept_of_exec (exec_hostAttach ..) he h fun _ hk => busWrite_kept _ _ _ _ hk hz
  | logEntry => exact kept_of_exec (exec_logEntry ..) he h fun _ hk => logEntry_kept _ _ _ _ _ hk
  | logMirrorCopy => exact kept_of_exec (exec_logMirrorCopy ..) he h fun _ hk => failing_kept _ (fun _ ht => logMirrorCopy_kept _ ht) hk
  | ringEnable => exact kept_of_exec (exec_ringEnable ..) he h fun _ hk => busWrite_kept _ _ _ _ hk hz
  | ringDisable => exact kept_of_exec (exec_ringDisable ..) he h fun _ hk => busWrite_kept _ _ _ _ hk hz
  | ringReset => exact kept_of_exec (exec_ringReset ..) he h fun _ hk => busWrite_kept _ _ _ _ hk hz
  | ringDoorbell => exact kept_of_exec (exec_ringDoorbell ..) he h fun _ hk => busWrite_kept _ _ _ _ hk hz
  | cqHeadWrite => exact kept_of_exec (exec_cqHeadWrite ..) he h fun _ hk => busWrite_kept _ _ _ _ hk hz
  | gateOpen => exact kept_of_exec (exec_gateOpen ..) he h fun _ hk => busWrite_kept _ _ _ _ hk hz
  | gateClose => exact kept_of_exec (exec_gateClose ..) he h fun _ hk => busWrite_kept _ _ _ _ hk hz
  | taggedPacketResume => exact kept_of_exec (exec_taggedPacketResume ..) he h fun _ hk => taggedResume_kept hk
  | taggedCompletion => exact kept_of_exec (exec_taggedCompletion ..) he h fun _ hk => taggedCompletion_kept hk
  | blockFetchDone => exact kept_of_exec (exec_blockFetchDone ..) he h fun _ hk => fetchDone_kept _ _ _ hk
  | nop => exact kept_of_exec (exec_nop ..) he h fun _ hk => packetRow_kept _ _ _ (fun _ _ ht => doNop_kept _ ht) hk
  | regWrite => exact kept_of_exec (exec_regWrite ..) he h fun _ hk => packetRow_kept _ _ _ (fun _ _ ht => doRegWrite_kept _ ht hz) hk
  | regRead => exact kept_of_exec (exec_regRead ..) he h fun _ hk => packetRow_kept _ _ _ (fun _ _ ht => doRegRead_kept _ ht) hk
  | mark => exact kept_of_exec (exec_mark ..) he h fun _ hk => packetRow_kept _ _ _ (fun _ _ ht => doMark_kept _ ht) hk
  | jobAttach => exact kept_of_exec (exec_jobAttach ..) he h fun _ hk => packetRow_kept _ _ _ (fun _ _ ht => doJobAttach_kept _ ht) hk
  | jobDetach => exact kept_of_exec (exec_jobDetach ..) he h fun _ hk => packetRow_kept _ _ _ (fun _ _ ht => doJobDetach_kept _ ht) hk
  | setCap => exact kept_of_exec (exec_setCap ..) he h fun _ hk => packetRow_kept _ _ _ (fun _ _ ht => doSetCap_kept _ ht) hk
  | getCapState => exact kept_of_exec (exec_getCapState ..) he h fun _ hk => packetRow_kept _ _ _ (fun _ _ ht => doGetCap_kept _ ht) hk
  | planSegmentBlock => exact kept_of_exec (exec_planSegmentBlock ..) he h fun _ hk => blockRow_kept _ _ _ _ hk
  | planStop => exact kept_of_exec (exec_planStop ..) he h fun _ hk => packetRow_kept _ _ _ (fun _ _ ht => doPlanStop_kept _ ht) hk
  | programBlock => exact kept_of_exec (exec_programBlock ..) he h fun _ hk => blockRow_kept _ _ _ _ hk
  | sbKeyInstall => exact kept_of_exec (exec_sbKeyInstall ..) he h fun _ hk => packetRow_kept _ _ _ (fun _ _ ht => doSbKey_kept _ _ _ ht) hk
  | logKeyRotate => exact kept_of_exec (exec_logKeyRotate ..) he h fun _ hk => packetRow_kept _ _ _ (fun _ _ ht => doLogKey_kept _ ht) hk
  | confMode => exact kept_of_exec (exec_confMode ..) he h fun _ hk => packetRow_kept _ _ _ (fun _ _ ht => doConfMode_kept _ ht) hk
  | partitionAssign => exact kept_of_exec (exec_partitionAssign ..) he h fun _ hk => packetRow_kept _ _ _ (fun _ _ ht => doAssign_kept _ ht) hk
  | scrubBegin => exact kept_of_exec (exec_scrubBegin ..) he h fun _ hk => packetRow_kept _ _ _ (fun _ _ ht => doScrubBegin_kept _ ht) hk
  | scrubEnd => exact kept_of_exec (exec_scrubEnd ..) he h fun _ hk => packetRow_kept _ _ _ (fun _ _ ht => doScrubEnd_kept _ ht) hk
  | updateBlock => exact kept_of_exec (exec_updateBlock ..) he h fun _ hk => blockRow_kept _ _ _ _ hk
  | updFullCheckDone => exact kept_of_exec (exec_updFullCheckDone ..) he h fun _ hk => byComp_kept _ _ (fun _ ht => fullCheckDone_kept _ _ _ _ _ ht) hk
  | updateActivate => exact kept_of_exec (exec_updateActivate ..) he h fun _ hk => packetRow_kept _ _ _ (fun _ _ ht => doActivate_kept _ ht) hk
  | updateConfirm => exact kept_of_exec (exec_updateConfirm ..) he h fun _ hk => packetRow_kept _ _ _ (fun _ _ ht => doConfirm_kept _ ht) hk
  | updateAbort => exact kept_of_exec (exec_updateAbort ..) he h fun _ hk => packetRow_kept _ _ _ (fun _ _ ht => doAbort_kept _ ht) hk
  | evrWatch => exact kept_of_exec (exec_evrWatch ..) he h fun _ hk => packetRow_kept _ _ _ (fun _ _ ht => doWatch_kept _ ht) hk
  | evrFlush => exact kept_of_exec (exec_evrFlush ..) he h fun _ hk => packetRow_kept _ _ _ (fun _ _ ht => doFlush_kept _ ht) hk
  | faultPolicy => exact kept_of_exec (exec_faultPolicy ..) he h fun _ hk => packetRow_kept _ _ _ (fun _ _ ht => doPolicy_kept _ ht) hk
  | mbxWrite => exact kept_of_exec (exec_mbxWrite ..) he h fun _ hk => busWrite_kept _ _ _ _ hk hz
  | mbxRead => exact kept_of_exec (exec_mbxRead ..) he h fun _ hk => busRead_kept _ _ _ hk
  | ping => exact kept_of_exec (exec_ping ..) he h fun _ hk => mbxAnswer_kept _ _ _ hk
  | generation => exact kept_of_exec (exec_generation ..) he h fun _ hk => mbxAnswer_kept _ _ _ hk
  | state => exact kept_of_exec (exec_state ..) he h fun _ hk => mbxAnswer_kept _ _ _ hk
  | mbxUnknownRequest => exact kept_of_exec (exec_mbxUnknownRequest ..) he h fun _ hk => mbxAnswer_kept _ _ _ hk
  | evrRecordPost => exact kept_of_exec (exec_evrRecordPost ..) he h fun _ hk => recordPost_kept hk
  | evrEpochPeriodic => exact kept_of_exec (exec_evrEpochPeriodic ..) he h fun _ hk => epochPeriodic_kept hk
  | watchSnapshot => exact kept_of_exec (exec_watchSnapshot ..) he h fun _ hk => snapRead_kept _ _ _ hk
  | evrFlushDone => exact kept_of_exec (exec_evrFlushDone ..) he h fun _ hk => flushDone_kept _ hk
  | flushMinEnd => exact kept_of_exec (exec_flushMinEnd ..) he h fun _ hk => flushMinEnd_kept hk
  | eraseAhead => exact kept_of_exec (exec_eraseAhead ..) he h fun _ hk => eraseAhead_kept hk
  | hoursSave => exact kept_of_exec (exec_hoursSave ..) he h fun _ hk => hoursSave_kept hk
  | faultMessage => exact kept_of_exec (exec_faultMessage ..) he h fun _ hk => faultMessage_kept hk
  | severeClear => exact kept_of_exec (exec_severeClear ..) he h fun _ hk => busWrite_kept _ _ _ _ hk hz
  | flcSelfFault => exact kept_of_exec (exec_flcSelfFault ..) he h fun _ hk => selfFault_kept _ hk
  | flcInject => exact kept_of_exec (exec_flcInject ..) he h fun _ hk => busWrite_kept _ _ _ _ hk hz
  | hbKick => exact kept_of_exec (exec_hbKick ..) he h fun _ hk => busWrite_kept _ _ _ _ hk hz
  | hbToggle => exact kept_of_exec (exec_hbToggle ..) he h fun _ hk => hbToggle_kept hk
  | hbTimeout => exact kept_of_exec (exec_hbTimeout ..) he h fun _ hk => hbTimeout_kept hk
  | kxNew => exact kept_of_exec (exec_kxNew ..) he h fun _ hk => busWrite_kept _ _ _ _ hk hz
  | kxReady => exact kept_of_exec (exec_kxReady ..) he h fun _ hk => kxReady_kept _ _ hk
  | logMigrateGranule => exact kept_of_exec (exec_logMigrateGranule ..) he h fun _ hk => migrateGran_kept _ _ hk
  | evrWinFlashRead => exact kept_of_exec (exec_evrWinFlashRead ..) he h fun _ hk => busRead_kept _ _ _ hk
  | actDecision => exact kept_of_exec (exec_actDecision ..) he h fun _ hk => byComp_kept _ _ (fun _ ht => actDecide_kept ht) hk
  | actSlot => exact kept_of_exec (exec_actSlot ..) he h fun _ hk => byComp_kept _ _ (fun _ ht => actSlot_kept _ _ ht) hk
  | updHandover => exact kept_of_exec (exec_updHandover ..) he h fun _ hk => resetOwed_kept (handover_kept _ hk) hz
  | autoConfirm => exact kept_of_exec (exec_autoConfirm ..) he h fun _ hk => byComp_kept _ _ (fun _ ht => autoConfirm_kept ht) hk
  | trialExpiry => exact kept_of_exec (exec_trialExpiry ..) he h fun _ hk => cutStopped_kept _ (trialExpiry_kept hk)
  | pmbusTableRefresh => exact kept_of_exec (exec_pmbusTableRefresh ..) he h fun _ hk => onGrid_kept _ _ (fun _ ht => tableRefresh_kept ht) hk
  | page => exact kept_of_exec (exec_page ..) he h fun _ hk => pecOr_kept _ _ (fun _ ht => pmPage_kept _ _ ht) hk
  | clearFaults => exact kept_of_exec (exec_clearFaults ..) he h fun _ hk => pecOr_kept _ _ (fun _ ht => clearFaults_kept ht) hk
  | capability => exact kept_of_exec (exec_capability ..) he h fun _ hk => pmRead_kept _ _ _ _ hk
  | voutMode => exact kept_of_exec (exec_voutMode ..) he h fun _ hk => pmRead_kept _ _ _ _ hk
  | statusByte => exact kept_of_exec (exec_statusByte ..) he h fun _ hk => pmRead_kept _ _ _ _ hk
  | statusWord => exact kept_of_exec (exec_statusWord ..) he h fun _ hk => pmRead_kept _ _ _ _ hk
  | statusVout => exact kept_of_exec (exec_statusVout ..) he h fun _ hk => pmRead_kept _ _ _ _ hk
  | statusIout => exact kept_of_exec (exec_statusIout ..) he h fun _ hk => pmRead_kept _ _ _ _ hk
  | statusInput => exact kept_of_exec (exec_statusInput ..) he h fun _ hk => pmRead_kept _ _ _ _ hk
  | statusTemperature => exact kept_of_exec (exec_statusTemperature ..) he h fun _ hk => pmRead_kept _ _ _ _ hk
  | statusCml => exact kept_of_exec (exec_statusCml ..) he h fun _ hk => pmRead_kept _ _ _ _ hk
  | statusMfrSpecific => exact kept_of_exec (exec_statusMfrSpecific ..) he h fun _ hk => pmRead_kept _ _ _ _ hk
  | readVin => exact kept_of_exec (exec_readVin ..) he h fun _ hk => tableRead_kept _ _ _ hk
  | readIin => exact kept_of_exec (exec_readIin ..) he h fun _ hk => tableRead_kept _ _ _ hk
  | readVout => exact kept_of_exec (exec_readVout ..) he h fun _ hk => tableRead_kept _ _ _ hk
  | readIout => exact kept_of_exec (exec_readIout ..) he h fun _ hk => tableRead_kept _ _ _ hk
  | readTemperature1 => exact kept_of_exec (exec_readTemperature1 ..) he h fun _ hk => tableRead_kept _ _ _ hk
  | readTemperature2 => exact kept_of_exec (exec_readTemperature2 ..) he h fun _ hk => tableRead_kept _ _ _ hk
  | readTemperature3 => exact kept_of_exec (exec_readTemperature3 ..) he h fun _ hk => tableRead_kept _ _ _ hk
  | readPout => exact kept_of_exec (exec_readPout ..) he h fun _ hk => tableRead_kept _ _ _ hk
  | readPin => exact kept_of_exec (exec_readPin ..) he h fun _ hk => tableRead_kept _ _ _ hk
  | pmbusRevision => exact kept_of_exec (exec_pmbusRevision ..) he h fun _ hk => pmRead_kept _ _ _ _ hk
  | mfrId => exact kept_of_exec (exec_mfrId ..) he h fun _ hk => boardRead_kept _ hk
  | mfrModel => exact kept_of_exec (exec_mfrModel ..) he h fun _ hk => boardRead_kept _ hk
  | mfrRevision => exact kept_of_exec (exec_mfrRevision ..) he h fun _ hk => boardRead_kept _ hk
  | mfrSerial => exact kept_of_exec (exec_mfrSerial ..) he h fun _ hk => boardRead_kept _ hk
  | mfrReadEnergy => exact kept_of_exec (exec_mfrReadEnergy ..) he h fun _ hk => pmEnergy_kept _ hk
  | mfrBusAddr => exact kept_of_exec (exec_mfrBusAddr ..) he h fun _ hk => pecOr_kept _ _ (fun _ ht => busAddr_kept _ ht) hk
  | mfrBusData => exact kept_of_exec (exec_mfrBusData ..) he h fun _ hk => pmBusData_kept _ _ hk hz
  | pmbusInvalidCommand => exact kept_of_exec (exec_pmbusInvalidCommand ..) he h fun _ hk => pmInvalid_kept _ _ hk
  | pmbusSclTimeout => exact kept_of_exec (exec_pmbusSclTimeout ..) he h fun _ hk => sclTimeout_kept hk
  | smbusAlertResponse => exact kept_of_exec (exec_smbusAlertResponse ..) he h fun _ hk => alertResponse_kept hk
  | vaonRestored => exact kept_of_exec (exec_vaonRestored ..) he h fun _ hk => vaonRestored_kept _ hk (fun _ hu => hc.vaon hu)
  | refclkStop => exact absurd hi (by simp [ownTime])
  | refclkResume => exact absurd hi (by simp [ownTime])

/-! ### The time record after a command -/

/-- What a command leaves of the step number, from the state `a` in which its event happens: it stands, or is an accepted strobe's, or is
that of a reset (R25, R26, R32). -/
def StepAfter (c : Instr) (a : State) (v : TimeState) : Prop :=
  (v.step = a.time.step ∧ v.lastStrobe = a.time.lastStrobe) ∨ (v.step = 0 ∧ v.lastStrobe = none) ∨
    ∃ dt n l, c = .stepBoundaryStrobe dt n l ∧ v.step = n ∧ v.lastStrobe = some v.ticks ∧ strobeHeard a = true ∧ strobeClose a = false

/-- Whether the reference runs after a command (R449). -/
def refAfter (c : Instr) (was : Bool) : Bool := match c with | .refclkStop _ => false | .refclkResume _ => true | _ => was

/-- What a command leaves of the time record. -/
structure TimeAfter (c : Instr) (a : State) (v : TimeState) : Prop where
  ticks : v.ticks = a.time.ticks
  refRun : v.refRun = refAfter c a.time.refRun
  step : StepAfter c a v

theorem timeClosed_timeAfter (c : Instr) (a : State) : TimeClosed (TimeAfter c a) where
  zero h := ⟨h.ticks, h.refRun, .inr (.inl ⟨rfl, rfl⟩)⟩
  cut h := ⟨h.ticks, h.refRun, h.step⟩
  boundary h := ⟨h.ticks, h.refRun, h.step⟩
  next h := ⟨h.ticks, h.refRun, h.step⟩
  sys h := ⟨h.ticks, h.refRun, h.step⟩
  vaon h := ⟨h.ticks, h.refRun, h.step⟩
  cold h := ⟨h.ticks, h.refRun, h.step⟩

/-- Every command keeps the queue and the canonical form of every store, and treats the time record so. -/
theorem exec_kept_time {c : Instr} {p : List Instr} {s t : State}
    (h : Kept (p, (· = (advance c.delay s).time)) (advance c.delay s)) (he : exec c s = .next t) :
    Kept (p, TimeAfter c (advance c.delay s)) t := by
  have plain : ownTime c = false → refAfter c (advance c.delay s).time.refRun = (advance c.delay s).time.refRun →
      Kept (p, TimeAfter c (advance c.delay s)) t := fun hi hr =>
    exec_kept hi (timeClosed_timeAfter c _) (kept_named h ⟨rfl, hr.symm, .inl ⟨rfl, rfl⟩⟩) he
  cases c with
  | stepBoundaryStrobe dt n l =>
    rw [(act_next ((exec_stepBoundaryStrobe ..).symm.trans he)).2]
    refine settle_kept (strobe_kept n l h (fun hh hc u m hu => ?_) (fun _ => ⟨rfl, rfl, .inl ⟨rfl, rfl⟩⟩))
    subst hu
    exact ⟨rfl, rfl, .inr (.inr ⟨dt, n, l, rfl, rfl, rfl, hh, hc⟩)⟩
  | refclkStop dt =>
    exact kept_of_exec (exec_refclkStop ..) he h fun _ hk => refclk_kept false hk fun u hu => hu ▸ ⟨rfl, rfl, .inl ⟨rfl, rfl⟩⟩
  | refclkResume dt =>
    exact kept_of_exec (exec_refclkResume ..) he h fun _ hk => refclk_kept true hk fun u hu => hu ▸ ⟨rfl, rfl, .inl ⟨rfl, rfl⟩⟩
  | _ => exact plain rfl rfl

/-- What the time before a command leaves of the time record: the local time base counts it while the reference runs (R22, R449). -/
theorem advance_time {s : State} (dt : Nat) (h : storesOk s) :
    (advance dt s).time.ticks = s.time.ticks + (if s.time.refRun then dt else 0) ∧ (advance dt s).time.refRun = s.time.refRun ∧
      (advance dt s).time.step = s.time.step ∧ (advance dt s).time.lastStrobe = s.time.lastStrobe := by
  have hk : Kept (s.pending, (· = s.time)) s := kept_named (kept_of_storesOk h) rfl
  refine (advance_kept (Q := fun v => v.ticks = s.time.ticks + (if s.time.refRun then dt else 0) ∧ v.refRun = s.time.refRun ∧
    v.step = s.time.step ∧ v.lastStrobe = s.time.lastStrobe) dt hk ?_).time
  rintro _ y rfl
  exact ⟨rfl, rfl, rfl, rfl⟩

/-- `Kept` gives the canonical form of the stores back. -/
theorem Kept.storesOk {b : Instant} {s : State} (h : Kept b s) : storesOk s := by
  refine ⟨h.regs, ?_⟩
  have hs : s.upd.slots.all (fun e => memWf e.2.bytes) = true := List.all_eq_true.2 h.slots
  have hx : s.cmd.xfers.all (fun e => memWf e.2.buf) = true := List.all_eq_true.2 h.xfers
  rw [Memory.wf, h.plan, h.sig, h.pxe, h.win, h.log, h.buf, h.part, h.img, hs, hx]
  rfl

/-! ### One step -/

theorem step_cons {s : State} {c : Instr} {rest : List Instr} (h : s.pending = c :: rest) : step s = exec c { s with pending := rest } := by
  simp [step, h]

theorem step_nil {s : State} (h : s.pending = []) : step s = .next s := by simp [step, h]

/-- What a step keeps: the queue's rest, the stores, and what its command leaves of the time record. -/
theorem step_kept {s t : State} {c : Instr} {rest : List Instr} (hs : storesOk s) (hp : s.pending = c :: rest) (he : step s = .next t) :
    Kept (rest, TimeAfter c (advance c.delay { s with pending := rest })) t := by
  rw [step_cons hp] at he
  exact exec_kept_time (kept_advance c.delay (s := { s with pending := rest }) hs) he

/-- Settles O1. -/
theorem stepRunsFrontCommand : Obligations.StepRunsFrontCommand := by
  unfold Obligations.StepRunsFrontCommand
  exact ⟨fun _ _ _ h => step_cons h, fun _ h => step_nil h⟩

/-- Settles O2: every command is an event after its time (`exec_form`), which `act` takes where it is well formed. -/
theorem everyEventIsTaken : Obligations.EveryEventIsTaken := by
  unfold Obligations.EveryEventIsTaken
  intro i s
  obtain ⟨f, hf⟩ := exec_form i
  exact ⟨fun hw => ⟨_, (hf s).trans (act_wf hw _ f s)⟩, fun hw => (hf s).trans (act_illFormed hw _ f s)⟩

/-- Settles O3: the front command is well formed, so that it is taken, and the step leaves the queue's rest. -/
theorem queuedEventsNeverStop : Obligations.QueuedEventsNeverStop := by
  unfold Obligations.QueuedEventsNeverStop
  intro s hs hq
  cases hp : s.pending with
  | nil =>
    rw [stepOk, step_nil hp]
    exact ⟨⟨s, rfl⟩, fun t ht => by injection ht with ht; exact ht ▸ hq⟩
  | cons c rest =>
    simp only [queueOk, hp, List.all_cons, Bool.and_eq_true] at hq
    refine ⟨?_, fun t ht => ?_⟩
    · rw [stepOk, step_cons hp]
      exact (everyEventIsTaken c _).1 hq.1
    · rw [queueOk, (step_kept hs hp ht).base]
      exact hq.2

/-- Settles O4. -/
theorem resetMeetsInvariants : Obligations.ResetMeetsInvariants := by
  unfold Obligations.ResetMeetsInvariants
  exact ⟨⟨rfl, rfl⟩, rfl⟩

/-- Settles O5. -/
theorem stepKeepsCanonicalForm : Obligations.StepKeepsCanonicalForm := by
  unfold Obligations.StepKeepsCanonicalForm
  intro s t hs ht
  cases hp : s.pending with
  | nil =>
    rw [step_nil hp] at ht
    injection ht with ht
    exact ht ▸ hs
  | cons c rest => exact (step_kept hs hp ht).storesOk

/-- Settles O6. -/
theorem localTimeBaseCountsReference : Obligations.LocalTimeBaseCountsReference := by
  unfold Obligations.LocalTimeBaseCountsReference
  intro s t c rest hs hp ht
  have hk := step_kept hs hp ht
  obtain ⟨hticks, href, -, -⟩ := advance_time c.delay (s := { s with pending := rest }) hs
  refine ⟨hk.time.ticks.trans hticks, hk.base, ?_⟩
  rw [hk.time.refRun, href]
  cases c <;> rfl

/-- Settles O7. -/
theorem stepNumberChangesAtStrobes : Obligations.StepNumberChangesAtStrobes := by
  unfold Obligations.StepNumberChangesAtStrobes
  intro s t c rest hs hp ht
  obtain ⟨-, -, hstep, hlast⟩ := advance_time c.delay (s := { s with pending := rest }) hs
  rcases (step_kept hs hp ht).time.step with ⟨h1, h2⟩ | h | ⟨dt, n, l, rfl, h1, h2, hheard, hclose⟩
  · exact .inl ⟨h1.trans hstep, h2.trans hlast⟩
  · exact .inr (.inl h)
  · exact .inr (.inr ⟨dt, n, l, rfl, h1, h2, fun a ha => ha ▸ ⟨hheard, hclose⟩⟩)

end Sys2Proof.Machine
end

section
/-! O8. What a read shows in confidential mode (R405, Table 17-4): `hidden` takes the locked bits away, and no register with locked bits is
read by another way than it. -/

namespace Sys2Proof.Machine

/-! ### Taking bits away -/

theorem land_mod_two (v m : Nat) : (v &&& m) % 2 = v % 2 * (m % 2) := by
  rcases Nat.mod_two_eq_zero_or_one v with hv | hv <;> rcases Nat.mod_two_eq_zero_or_one m with hm | hm <;>
    simp [Nat.and_mod_two_pow (n := 1), hv, hm]

/-- `without` works bit by bit: the last bit, and the others. -/
theorem without_mod_two (v m : Nat) : without v m % 2 = v % 2 * (1 - m % 2) := by
  have hle : v &&& m ≤ v := Nat.and_le_left
  have hmod := land_mod_two v m
  change (v - (v &&& m)) % 2 = _
  generalize v &&& m = a at hle hmod
  rcases Nat.mod_two_eq_zero_or_one m with hm | hm <;> rw [hm] at hmod ⊢ <;> omega

theorem without_div_two (v m : Nat) : without v m / 2 = without (v / 2) (m / 2) := by
  have hle : v &&& m ≤ v := Nat.and_le_left
  have hmod := land_mod_two v m
  change (v - (v &&& m)) / 2 = v / 2 - (v / 2 &&& m / 2)
  rw [← Nat.and_div_two]
  generalize v &&& m = a at hle hmod
  rcases Nat.mod_two_eq_zero_or_one m with hm | hm <;> rw [hm] at hmod <;> omega

theorem testBit_without (v m i : Nat) : (without v m).testBit i = (v.testBit i && !m.testBit i) := by
  induction i generalizing v m with
  | zero =>
    simp only [Nat.testBit_zero, without_mod_two]
    rcases Nat.mod_two_eq_zero_or_one m with hm | hm <;> simp [hm]
  | succ i ih => rw [Nat.testBit_succ, without_div_two, ih, Nat.testBit_succ, Nat.testBit_succ]

/-- No bit of the mask is left, in a word of any width. -/
theorem land_ofNat_without (w v m : Nat) : Nat.land (BitVec.ofNat w (without v m)).toNat m = 0 := by
  change (BitVec.ofNat w (without v m)).toNat &&& m = 0
  refine Nat.eq_of_testBit_eq fun i => ?_
  rw [Nat.testBit_and, BitVec.testBit_toNat, BitVec.getLsbD_ofNat, testBit_without, Nat.zero_testBit]
  cases m.testBit i <;> simp

/-! ### Registers with locked bits -/

/-- The registers with an access of their own that is not the plain one: windows, mailboxes, and the high words of wide values. None has a
locked bit. -/
theorem lockMask_of_page {o : Nat} (h : 0xA ≤ o / 0x10000) (hf : o / 0x10000 < 0xF) : lockMask o = 0 := by
  unfold lockMask
  split
  all_goals first | rfl | omega

theorem lockMask_of_isHigh {o : Nat} (h : isHigh o = true) : lockMask o = 0 := by
  simp only [isHigh, isLow, List.contains_eq_mem, List.mem_cons, List.not_mem_nil, or_false, Bool.and_eq_true, Bool.or_eq_true,
    decide_eq_true_eq, inR, beq_iff_eq] at h
  obtain ⟨h4, (h | h) | h⟩ := h
  · obtain ⟨n, rfl⟩ : ∃ n, o = n + 4 := ⟨o - 4, by omega⟩
    rw [Nat.add_sub_cancel] at h
    rcases h with rfl | rfl | rfl | rfl | rfl | rfl | rfl | rfl | rfl | rfl | rfl | rfl | rfl | rfl | rfl | rfl | rfl | rfl | rfl | rfl |
      rfl | rfl | rfl | rfl | rfl
    all_goals rfl
  · have h9 : o / 0x10000 = 0x9 := by omega
    have h1 : inR o 0x91000 0x91400 = false := by simp [inR]; omega
    have h2 : inR o 0x92000 0x92100 = false := by simp [inR]; omega
    simp [lockMask, h9, h1, h2]
  · exact lockMask_of_page (by omega) (by omega)

/-! ### A read in confidential mode -/

theorem deny_sta (agent o : Nat) (write : Bool) (s : State) : (deny agent o write s).sta = s.sta := by
  by_cases hd : denyDue agent s
  · rw [deny_sends hd, sendFault_sta]
    exact (flagDenied_frame agent o write s).2.2.2.1
  · obtain ⟨t0, hf, ht⟩ := not_denyDue hd
    rw [deny_quiet hf ht]
    exact (flagDenied_frame agent o write s).2.2.2.1

/-- In confidential mode what a read shows of a register has none of its locked bits. -/
theorem hidden_eq_without {s : State} {agent o : Nat} (v : Nat) (hc : confOn s = true) (ho : lockMask o ≠ 0) :
    ∃ x, hidden s agent o v = without x (lockMask o) := by
  have hcol : columnOf s agent ≠ 0 := by unfold columnOf; split_ifs <;> simp
  have h0 : ¬ (o = 0x20200 ∨ o = 0x20204) := by rintro (rfl | rfl) <;> exact ho rfl
  have h1 : ¬ (o = 0x20208 ∨ o = 0x2020C) := by rintro (rfl | rfl) <;> exact ho rfl
  exact ⟨_, (if_neg hcol).trans ((if_neg h0).trans ((if_neg h1).trans (if_pos hc)))⟩

/-- The effects of a plain read of a register with locked bits leave the answer, and end no rest state. -/
theorem readEffects_frame {agent o : Nat} {tag : Option Bool} {s : State} (ho : lockMask o ≠ 0) :
    (readEffects agent o tag s).bus.rdata = s.bus.rdata ∧ (readEffects agent o tag s).sta = s.sta := by
  have hp : ¬ (0xA ≤ o / 0x10000 ∧ o / 0x10000 < 0xF) := fun h => ho (lockMask_of_page h.1 h.2)
  have hw : isWin o = false := by simp [isWin, inR]; omega
  have hb : inR o 0xB8000 0xC0000 = false := by simp [inR]; omega
  have hd : inR o 0xD8000 0xE0000 = false := by simp [inR]; omega
  have hrc : ∀ (l : List FldDesc) (t : State),
      (l.foldl (fun t f => setF t ⟨32 * o + f.lo, f.w⟩ (rcRestart t (32 * o + f.lo))) t).bus = t.bus ∧
      (l.foldl (fun t f => setF t ⟨32 * o + f.lo, f.w⟩ (rcRestart t (32 * o + f.lo))) t).sta = t.sta := by
    intro l
    induction l with
    | nil => exact fun t => ⟨rfl, rfl⟩
    | cons f l ih => exact fun t => ih _
  simp only [readEffects, hw, hb, hd, Bool.false_eq_true, if_false]
  split_ifs
  · exact ⟨rfl, rfl⟩
  · exact ⟨rfl, rfl⟩
  · obtain ⟨h1, h2⟩ := hrc ((fieldsAt o).filter (fun f => f.acc == .rc)) s
    exact ⟨congrArg BusState.rdata h1, h2⟩

/-- A mailbox's data register, which a read empties (R369). -/
def isMailboxData (o : Nat) : Bool := inR o 0xC3000 0xC3200 && decide (o % 16 = 4)

/-- A plain read answers the live word, as the agent may see it. -/
theorem busRead_live {agent o : Nat} {tag : Option Bool} {s : State} (hr : mayRead s agent (o / 4 * 4) = true) (hm : mapped o = true)
    (hx : isMailboxData o = false) (hh : isHigh o = false) : busRead agent o tag s =
      readEffects agent o tag (setBus { s.bus with rdata := BitVec.ofNat 32 (hidden s agent o (rawWord s agent o (tagOf s tag))) } s) := by
  have hx' : ¬ (inR o 0xC3000 0xC3200 = true ∧ o % 16 = 4) := by simpa [isMailboxData] using hx
  simp only [busRead, hr, hm, hh, if_neg hx', Bool.not_true, Bool.false_eq_true, if_false]
  rfl

/-- In confidential mode a read of a register with locked bits answers none of them, and ends no rest state. -/
theorem busRead_locked {agent o : Nat} {tag : Option Bool} {s : State} (hc : confOn s = true) (ho : lockMask o ≠ 0) :
    Nat.land (busRead agent o tag s).bus.rdata.toNat (lockMask o) = 0 ∧ (busRead agent o tag s).sta = s.sta := by
  have hz : Nat.land (0 : Word).toNat (lockMask o) = 0 := Nat.zero_and _
  cases hr : mayRead s agent (o / 4 * 4) with
  | false =>
    have he : busRead agent o tag s = deny agent o false (setBus { s.bus with rdata := 0 } s) := by simp [busRead, hr]
    rw [he, deny_rdata]
    exact ⟨hz, deny_sta _ _ _ _⟩
  | true =>
    cases hm : mapped o with
    | false =>
      obtain ⟨hbus, -, hsta, -⟩ := busError_frame GLB.BUS_ERR_STATUS.UNMAPPED agent o (setBus { s.bus with rdata := 0 } s)
      rw [busRead_unmapped hr hm, hbus]
      exact ⟨hz, hsta⟩
    | true =>
      have hp : ¬ (0xA ≤ o / 0x10000 ∧ o / 0x10000 < 0xF) := fun h => ho (lockMask_of_page h.1 h.2)
      have hx : isMailboxData o = false := by simp [isMailboxData, inR]; omega
      have hh : isHigh o = false := Bool.eq_false_iff.2 fun h => ho (lockMask_of_isHigh h)
      obtain ⟨x, hv⟩ := hidden_eq_without (agent := agent) (rawWord s agent o (tagOf s tag)) hc ho
      rw [busRead_live hr hm hx hh, hv]
      obtain ⟨hdata, hsta⟩ := readEffects_frame (agent := agent) (tag := tag) ho
        (s := setBus { s.bus with rdata := BitVec.ofNat 32 (without x (lockMask o)) } s)
      rw [hdata]
      exact ⟨land_ofNat_without 32 x _, hsta⟩

/-- Settles O8: a register without locked bits has nothing to hide, and a read of any other answers none of them. -/
theorem confidentialReadsAreHidden : Obligations.ConfidentialReadsAreHidden := by
  unfold Obligations.ConfidentialReadsAreHidden
  intro dt agent off s hc
  refine answers_act (exec_unmappedAccess ..) rfl ?_
  by_cases ho : lockMask off.toNat = 0
  · rw [ho]
    exact Nat.and_zero _
  · obtain ⟨hland, hsta⟩ := busRead_locked (agent := agent.toNat) (tag := none) hc ho
    have hn : noEnd (busRead agent.toNat off.toNat none (advance dt s)) := noEnd_congr (noEnd_advance dt s) hsta
    change Nat.land (settle (busRead agent.toNat off.toNat none (advance dt s))).bus.rdata.toNat _ = 0
    rw [settle_bus hn]
    exact hland

end Sys2Proof.Machine
end

section
/-! SUPPORT. What every effect keeps of the values that wait and of the outstanding packets (R29, R31, R36, R355, R357): the predicate, and
its rules for the elementary updates and for what waits. The sections after it have one lemma per operation of the model. -/

namespace Sys2Proof.Machine

/-- Outstanding packets carry different numbers, all of them given out. -/
def PktsOk (l : List OutPkt) (n : Nat) : Prop := (l.map (fun p => p.id)).Nodup ∧ ∀ p ∈ l, p.id < n

/-- `waitingOk`, taken apart. -/
structure Waits (s : State) : Prop where
  landing : aSortedFrom none s.landing = true
  wrote : aSortedFrom none s.wrote = true
  pend : aSortedFrom none s.pend = true
  frozen : aSortedFrom none s.frozen = true
  held : aSortedFrom none s.held = true
  pkts : PktsOk s.cmd.pkts s.cmd.nextId

theorem waits_iff (s : State) : Waits s ↔ waitingOk s :=
  ⟨fun ⟨hl, hw, hp, hf, hh, hk⟩ => ⟨hl, hw, hp, hf, hh, hk⟩, fun ⟨hl, hw, hp, hf, hh, hk⟩ => ⟨hl, hw, hp, hf, hh, hk⟩⟩

/-- A state written out field by field. -/
@[simp] theorem waits_mk {pending free time regs wrote landing landAge pend frozen held acts bus inbox msgSeq lostMsg lostRec sns est psq drg
    phc lgv tmg sta pxe bal fw cmd evr flc sec upd pmb} : Waits ⟨pending, free, time, regs, wrote, landing, landAge, pend, frozen, held, acts,
    bus, inbox, msgSeq, lostMsg, lostRec, sns, est, psq, drg, phc, lgv, tmg, sta, pxe, bal, fw, cmd, evr, flc, sec, upd, pmb⟩ ↔
    aSortedFrom none landing = true ∧ aSortedFrom none wrote = true ∧ aSortedFrom none pend = true ∧ aSortedFrom none frozen = true ∧
      aSortedFrom none held = true ∧ PktsOk cmd.pkts cmd.nextId :=
  ⟨fun h => ⟨h.landing, h.wrote, h.pend, h.frozen, h.held, h.pkts⟩, fun ⟨hl, hw, hp, hf, hh, hk⟩ => ⟨hl, hw, hp, hf, hh, hk⟩⟩

@[simp] theorem Waits.landing_sorted {s : State} (h : Waits s) : aSortedFrom none s.landing = true := h.landing
@[simp] theorem Waits.wrote_sorted {s : State} (h : Waits s) : aSortedFrom none s.wrote = true := h.wrote
@[simp] theorem Waits.pend_sorted {s : State} (h : Waits s) : aSortedFrom none s.pend = true := h.pend
@[simp] theorem Waits.frozen_sorted {s : State} (h : Waits s) : aSortedFrom none s.frozen = true := h.frozen
@[simp] theorem Waits.held_sorted {s : State} (h : Waits s) : aSortedFrom none s.held = true := h.held
@[simp] theorem Waits.pkts_ok {s : State} (h : Waits s) : PktsOk s.cmd.pkts s.cmd.nextId := h.pkts

/-! ### Branches and repetitions -/

@[simp] theorem waits_ite {c : Prop} [Decidable c] {s t : State} : Waits (if c then s else t) ↔ if c then Waits s else Waits t := by
  split <;> rfl

theorem ite_waits {c : Prop} [Decidable c] {s t : State} (hs : Waits s) (ht : Waits t) : Waits (if c then s else t) := by
  split <;> assumption

theorem foldl_waits {α : Type} {g : State → α → State} {l : List α} {s : State} (hg : ∀ t x, Waits t → Waits (g t x)) (h : Waits s) :
    Waits (l.foldl g s) := by
  induction l generalizing s with
  | nil => exact h
  | cons x r ih => exact ih (hg _ _ h)

/-! ### Sorted tables -/

@[simp] theorem aSorted_nil {α : Type} : aSortedFrom none ([] : Assoc α) = true := rfl
@[simp] theorem aSorted_aIns {α : Type} {m : Assoc α} {k : Nat} {x : α} (h : aSortedFrom none m = true) :
    aSortedFrom none (aIns m k x) = true := aSortedFrom_aIns k x h (by simp)
@[simp] theorem aSorted_aDel {α : Type} {m : Assoc α} {k : Nat} (h : aSortedFrom none m = true) : aSortedFrom none (aDel m k) = true :=
  aSortedFrom_aDel k h
theorem aSorted_foldl_aIns {α β : Type} {l : List β} {m : Assoc α} {k : β → Nat} {x : β → α} (h : aSortedFrom none m = true) :
    aSortedFrom none (l.foldl (fun m e => aIns m (k e) (x e)) m) = true := by
  induction l generalizing m with
  | nil => exact h
  | cons e r ih => exact ih (aSorted_aIns h)

/-! ### Outstanding packets -/

@[simp] theorem pktsOk_nil (n : Nat) : PktsOk [] n := ⟨List.nodup_nil, fun _ h => nomatch h⟩

theorem pktsOk_map {l : List OutPkt} {n : Nat} {f : OutPkt → OutPkt} (hf : ∀ p, (f p).id = p.id) (h : PktsOk l n) : PktsOk (l.map f) n := by
  obtain ⟨hd, hn⟩ := h
  refine ⟨?_, fun p hp => ?_⟩
  · rw [List.map_map, show (fun p => p.id) ∘ f = fun p => p.id from funext hf]
    exact hd
  · obtain ⟨x, hx, rfl⟩ := List.mem_map.1 hp
    exact (hf x).symm ▸ hn x hx

theorem pktsOk_filter {l : List OutPkt} {n : Nat} (p : OutPkt → Bool) (h : PktsOk l n) : PktsOk (l.filter p) n :=
  ⟨h.1.sublist (List.filter_sublist.map _), fun x hx => h.2 x (List.mem_of_mem_filter hx)⟩

theorem pktsOk_append {l : List OutPkt} {n : Nat} {x : OutPkt} (hx : x.id = n) (h : PktsOk l n) : PktsOk (l ++ [x]) (n + 1) := by
  obtain ⟨hd, hn⟩ := h
  constructor
  · rw [List.map_append, List.nodup_append]
    refine ⟨hd, List.nodup_singleton _, fun a ha b hb => ?_⟩
    obtain ⟨p, hp, rfl⟩ := List.mem_map.1 ha
    have hlt := hn p hp
    simp only [List.map_cons, List.map_nil, List.mem_singleton] at hb
    omega
  · intro p hp
    rcases List.mem_append.1 hp with h | h
    · exact Nat.lt_succ_of_lt (hn p h)
    · rw [List.mem_singleton.1 h, hx]; exact Nat.lt_succ_self n

@[simp] theorem setCmd_waits {c : CmdState} {s : State} (h : Waits s) (hc : PktsOk c.pkts c.nextId) : Waits (setCmd c s) := by
  simp [setCmd, h, hc]
@[simp] theorem pktPut_waits (p : OutPkt) {s : State} (h : Waits s) : Waits (pktPut p s) :=
  setCmd_waits h (pktsOk_map (fun x => by split <;> simp_all) h.pkts)
@[simp] theorem pktDrop_waits (id : Nat) {s : State} (h : Waits s) : Waits (pktDrop id s) := setCmd_waits h (pktsOk_filter _ h.pkts)
theorem pktUpd_waits (id : Nat) {f : OutPkt → OutPkt} (hf : ∀ p, (f p).id = p.id) {s : State} (h : Waits s) : Waits (pktUpd id f s) :=
  setCmd_waits h (pktsOk_map (fun x => by split <;> simp [hf]) h.pkts)
@[simp] theorem outstand_waits (p : Pkt) (st : Nat) (k : Option ActKind) {s : State} (h : Waits s) : Waits (outstand p st k s) :=
  setCmd_waits h (pktsOk_append rfl h.pkts)
@[simp] theorem capStamp_waits {s : State} (h : Waits s) : Waits (capStamp s) :=
  setCmd_waits h (pktsOk_map (fun p => by split <;> rfl) h.pkts)
@[simp] theorem notifyPkts_waits (got : List (Nat × Nat)) (did : List Nat) (n p : Nat) {s : State} (h : Waits s) :
    Waits (notifyPkts got did n p s) :=
  setCmd_waits h (pktsOk_map (fun p => by dsimp only; split_ifs <;> rfl) h.pkts)

/-! ### Registers and what waits -/

@[simp] theorem setF_waits (f : Fld) (v : Nat) {s : State} (h : Waits s) : Waits (setF s f v) := by simp [setF, h]
@[simp] theorem setB_waits (f : Fld) (b : Bool) {s : State} (h : Waits s) : Waits (setB s f b) := setF_waits _ _ h
@[simp] theorem forceKey_waits (k v : Nat) {s : State} (h : Waits s) : Waits (forceKey k v s) := by simp [forceKey, h]
@[simp] theorem keepRegs_waits (p : Nat → Bool) {s : State} (h : Waits s) : Waits (keepRegs p s) := by simp [keepRegs, h]
@[simp] theorem dropH_waits (p : Nat → Bool) {s : State} (h : Waits s) : Waits (dropH p s) := by
  simp [dropH, h]
@[simp] theorem settleKey_waits (k : Nat) {s : State} (h : Waits s) : Waits (settleKey k s) := by
  unfold settleKey; split <;> simp [h]
@[simp] theorem applyLanding_waits {s : State} (h : Waits s) : Waits (applyLanding s) :=
  foldl_waits (fun t e ht => settleKey_waits _ (forceKey_waits _ _ ht)) (by simp [h])
@[simp] theorem dropPend_waits (keys : List Nat) {s : State} (h : Waits s) : Waits (dropPend keys s) :=
  foldl_waits (fun t k ht => settleKey_waits k (by simp [ht])) h
@[simp] theorem freezeAll_waits {s : State} (h : Waits s) : Waits (freezeAll s) := by
  simp [freezeAll, h, aSorted_foldl_aIns]
@[simp] theorem repend_waits (k : Nat) (p : PendVal) {s : State} (h : Waits s) : Waits (repend k p s) := by
  unfold repend; split <;> simp [h]
theorem takeOne_waits (now : State) (launch : Option Nat) (k : Nat) (p : PendVal) {s : State} (h : Waits s) :
    Waits (takeOne now launch k p s) := by
  have h1 := settleKey_waits k (forceKey_waits k p.val h)
  unfold takeOne
  with_reducible repeat' (first
      | assumption | apply setB_waits | split)
@[simp] theorem swapValues_waits (launch : Option Nat) {s : State} (h : Waits s) : Waits (swapValues launch s) :=
  foldl_waits (fun t e ht => ite_waits (takeOne_waits _ _ _ _ ht) (repend_waits _ _ ht)) (by simp [h])

/-! ### States written out -/

/-- What a state written out has of what waits. -/
def WaitsMk (landing wrote : Assoc Nat) (pend frozen held : Assoc PendVal) (cmd : CmdState) : Prop :=
  aSortedFrom none landing = true ∧ aSortedFrom none wrote = true ∧ aSortedFrom none pend = true ∧ aSortedFrom none frozen = true ∧
    aSortedFrom none held = true ∧ PktsOk cmd.pkts cmd.nextId

theorem waits_mk_eq {pending free time regs wrote landing landAge pend frozen held acts bus inbox msgSeq lostMsg lostRec sns est psq drg
    phc lgv tmg sta pxe bal fw cmd evr flc sec upd pmb} : Waits ⟨pending, free, time, regs, wrote, landing, landAge, pend, frozen, held, acts,
    bus, inbox, msgSeq, lostMsg, lostRec, sns, est, psq, drg, phc, lgv, tmg, sta, pxe, bal, fw, cmd, evr, flc, sec, upd, pmb⟩ =
    WaitsMk landing wrote pend frozen held cmd := propext waits_mk

theorem mk_waits {s : State} (h : Waits s) : WaitsMk s.landing s.wrote s.pend s.frozen s.held s.cmd :=
  ⟨h.landing, h.wrote, h.pend, h.frozen, h.held, h.pkts⟩

theorem mk_cmd_waits {s : State} {c : CmdState} (h : Waits s) (hc : PktsOk c.pkts c.nextId) :
    WaitsMk s.landing s.wrote s.pend s.frozen s.held c :=
  ⟨h.landing, h.wrote, h.pend, h.frozen, h.held, hc⟩

theorem waits_of_fst {α : Type} {p : State × α} {t : State} {x : α} (hp : p = (t, x)) (h : Waits p.1) : Waits t := by subst hp; exact h

/-- A state that may be there. -/
def WaitsO (o : Option State) : Prop := ∀ t, o = some t → Waits t

theorem waitsO_none : WaitsO none := by intro t h; cases h
theorem waitsO_some {s : State} (h : Waits s) : WaitsO (some s) := by intro t e; cases e; exact h

theorem setPxe_waits (x : PxeState) {s : State} (h : Waits s) : Waits (setPxe x s) := by
  simpa only [setPxe, waits_mk_eq] using mk_waits h
theorem setFw_waits (x : FwState) {s : State} (h : Waits s) : Waits (setFw x s) := by
  simpa only [setFw, waits_mk_eq] using mk_waits h
theorem setEvr_waits (x : EvrState) {s : State} (h : Waits s) : Waits (setEvr x s) := by
  simpa only [setEvr, waits_mk_eq] using mk_waits h
theorem setUpd_waits (x : UpdState) {s : State} (h : Waits s) : Waits (setUpd x s) := by
  simpa only [setUpd, waits_mk_eq] using mk_waits h
theorem setXfer_waits (t : Nat) (x : Xfer) {s : State} (h : Waits s) : Waits (setXfer t x s) := setCmd_waits h h.pkts

/-! ### Ops.lean -/

theorem injectAt_waits (checker : Nat) (word : Nat) (m : Assoc Nat) {s : State} (hw : Waits s) : Waits (injectAt checker word m s).1 :=
    by
  unfold injectAt
  with_reducible repeat' (first
      | assumption | apply setF_waits | apply setB_waits | dsimp only | split)

theorem setS_waits {s : State} (f : Fld) (i : Int) (hw : Waits s) : Waits (setS s f i) := by
  unfold setS
  with_reducible repeat' (first
      | assumption | apply setF_waits)

theorem setSat_waits {s : State} (f : Fld) (v : Nat) (hw : Waits s) : Waits (setSat s f v) := by
  unfold setSat
  with_reducible repeat' (first
      | assumption | apply setF_waits)

theorem incF_waits {s : State} (f : Fld) (hw : Waits s) : Waits (incF s f) := by
  unfold incF
  with_reducible repeat' (first
      | assumption | apply setSat_waits)

theorem postRec_waits (plane : Nat) (grp : Nat) (code : Nat) (typ : Nat) (body : List Nat) {s : State} (hw : Waits s) : Waits (postRec
    plane grp code typ body s) := by
  unfold postRec
  with_reducible repeat' (first
      | assumption | apply incF_waits | simp only [waits_mk_eq] | apply mk_waits | split)

theorem eventP_waits (plane : Nat) (code : Nat) (payload : List Nat) {s : State} (hw : Waits s) : Waits (eventP plane code payload s)
    := by
  unfold eventP
  with_reducible repeat' (first
      | assumption | apply postRec_waits)

theorem setRail_waits {s : State} (k : Nat) (x : Rail) (hw : Waits s) : Waits (setRail s k x) := by
  unfold setRail
  with_reducible repeat' (first
      | assumption | simp only [waits_mk_eq] | apply mk_waits)

theorem setSatS_waits {s : State} (f : Fld) (i : Int) (hw : Waits s) : Waits (setSatS s f i) := by
  unfold setSatS
  with_reducible repeat' (first
      | assumption | apply setS_waits)

theorem setW_waits {s : State} (lo : Fld) (hi : Fld) (v : Nat) (hw : Waits s) : Waits (setW s lo hi v) := by
  unfold setW
  with_reducible repeat' (first
      | assumption | apply setF_waits)

theorem freeNext_waits {s : State} (hw : Waits s) : Waits (freeNext s) := by
  unfold freeNext
  with_reducible repeat' (first
      | assumption | simp only [waits_mk_eq] | apply mk_waits)

theorem event_waits (code : Nat) (payload : List Nat) {s : State} (hw : Waits s) : Waits (event code payload s) := by
  unfold event
  with_reducible repeat' (first
      | assumption | apply eventP_waits)

theorem sramStore_waits (w n : Nat) {s : State} (h : Waits s) : Waits (sramStore w n s) := by
  have h1 := injectAt_waits 6 w (s.cmd.ecc.filter (fun e => decide (e.1 < w) || decide (w + n ≤ e.1))) h
  rw [sramStore, waits_mk_eq]
  exact mk_cmd_waits h1 h1.pkts

theorem sendFaultP_waits (plane : Nat) (kind : Nat) (src : Nat) (info : Nat) {s : State} (hw : Waits s) : Waits (sendFaultP plane kind
    src info s) := by
  unfold sendFaultP
  with_reducible repeat' (first
      | assumption | apply setB_waits | simp only [waits_mk_eq] | apply mk_waits | split)

theorem sendFault_waits (kind : Nat) (src : Nat) (info : Nat) {s : State} (hw : Waits s) : Waits (sendFault kind src info s) := by
  unfold sendFault
  with_reducible repeat' (first
      | assumption | apply sendFaultP_waits)

/-! ### PlanBase.lean -/

theorem repeatBroken_waits (cause : Nat) {s : State} (hw : Waits s) : Waits (repeatBroken cause s) := by
  unfold repeatBroken
  with_reducible repeat' (first
      | assumption | apply event_waits | apply setB_waits | split)

theorem reactNote_waits (o : Nat) {s : State} (hw : Waits s) : Waits (reactNote o s) := by
  unfold reactNote
  with_reducible repeat' (first
      | assumption | simp only [waits_mk_eq] | apply mk_waits | split)

theorem repeatBreaks_waits (cause : Nat) {s : State} (hw : Waits s) : Waits (repeatBreaks cause s) := by
  unfold repeatBreaks
  with_reducible repeat' (first
      | assumption | apply repeatBroken_waits | split)

/-! ### Pend.lean -/

theorem pendHw_waits (pkt : Nat) (f : Fld) (v : Nat) {s : State} (h : Waits s) : Waits (pendHw pkt f v s) := by
  simp [pendHw, h]

theorem addActNext_waits (k : ActKind) {s : State} (hw : Waits s) : Waits (addActNext k s) := by
  unfold addActNext
  with_reducible repeat' (first
      | assumption | simp only [waits_mk_eq] | apply mk_waits)

theorem landPut_waits (f : Fld) (v : Nat) {s : State} (h : Waits s) : Waits (landPut f v s) := by
  simp [landPut, h]

theorem pendPut_waits (agent pkt : Nat) (f : Fld) (v : Nat) {s : State} (h : Waits s) : Waits (pendPut agent pkt f v s) := by
  unfold pendPut
  split <;> simp [h]

theorem addAct_waits (k : ActKind) (step : Option Nat) (pkt : Nat) {s : State} (hw : Waits s) : Waits (addAct k step pkt s) := by
  unfold addAct
  with_reducible repeat' (first
      | assumption | simp only [waits_mk_eq] | apply mk_waits)

theorem preview_waits {s : State} (hw : Waits s) : Waits (preview s) := by
  unfold preview
  with_reducible repeat' (first
      | assumption | apply forceKey_waits | apply foldl_waits | (intro _))

theorem landAdvance_waits (dt : Nat) {s : State} (hw : Waits s) : Waits (landAdvance dt s) := by
  unfold landAdvance
  with_reducible repeat' (first
      | assumption | apply applyLanding_waits | simp only [waits_mk_eq] | apply mk_waits | split)

/-! ### Firmware.lean -/

theorem setComp_waits (c : Nat) (st : Nat) {s : State} (hw : Waits s) : Waits (setComp c st s) := by
  unfold setComp
  with_reducible repeat' (first
      | assumption | apply setF_waits)

theorem setComps_waits (l : List Nat) (st : Nat) {s : State} (hw : Waits s) : Waits (setComps l st s) := by
  unfold setComps
  with_reducible repeat' (first
      | assumption | apply setComp_waits | apply foldl_waits | (intro _))

theorem setCore_waits (k : Nat) (st : Nat) {s : State} (hw : Waits s) : Waits (setCore k st s) := by
  unfold setCore
  with_reducible repeat' (first
      | assumption | apply setF_waits)

theorem markRestart_waits (cause : Nat) (c : Nat) {s : State} (hw : Waits s) : Waits (markRestart cause c s) := by
  unfold markRestart
  with_reducible repeat' (first
      | assumption | apply incF_waits | apply setF_waits)

theorem noteRestart_waits (id : Nat) (cause : Nat) {s : State} (hw : Waits s) : Waits (noteRestart id cause s) := by
  unfold noteRestart
  with_reducible repeat' (first
      | assumption | apply setF_waits | apply incF_waits | apply setFw_waits)

theorem wdtStop_waits {s : State} (hw : Waits s) : Waits (wdtStop s) := by
  unfold wdtStop
  with_reducible repeat' (first
      | assumption | apply setB_waits | apply setFw_waits)

theorem mainRestart_waits {s : State} (hw : Waits s) : Waits (mainRestart s) := by
  unfold mainRestart
  with_reducible repeat' (first
      | assumption | apply setComps_waits | apply setCore_waits | apply markRestart_waits | apply noteRestart_waits
      | apply wdtStop_waits | apply setF_waits | dsimp only | apply foldl_waits | split | (intro _))

theorem logClear_waits {s : State} (hw : Waits s) : Waits (logClear s) := by
  unfold logClear
  with_reducible repeat' (first
      | assumption | apply setFw_waits)

theorem incGeneration_waits {s : State} (hw : Waits s) : Waits (incGeneration s) := by
  unfold incGeneration
  with_reducible repeat' (first
      | assumption | apply setF_waits)

theorem mirrorStop_waits {s : State} (hw : Waits s) : Waits (mirrorStop s) := by
  unfold mirrorStop
  with_reducible repeat' (first
      | assumption | apply setB_waits)

theorem absentActions_waits {s : State} (hw : Waits s) : Waits (absentActions s) := by
  unfold absentActions
  with_reducible repeat' (first
      | assumption | apply incGeneration_waits | apply event_waits | apply sendFault_waits | apply mirrorStop_waits
      | apply setFw_waits)

theorem hostAbsent_waits {s : State} (hw : Waits s) : Waits (hostAbsent s) := by
  unfold hostAbsent
  with_reducible repeat' (first
      | assumption | apply setW_waits | apply setF_waits | apply setB_waits | apply setFw_waits | apply absentActions_waits
      | dsimp only | split)

theorem startComps_waits (l : List Nat) {s : State} (hw : Waits s) : Waits (startComps l s) := by
  unfold startComps
  with_reducible repeat' (first
      | assumption | apply setComps_waits | apply setFw_waits | simp only [waits_mk_eq] | apply mk_waits | split)

theorem mpuLoad_waits (image : Nat) (k : Nat) {s : State} (hw : Waits s) : Waits (mpuLoad image k s) := by
  unfold mpuLoad
  with_reducible repeat' (first
      | assumption | apply setFw_waits)

theorem helperLoad_waits (k : Nat) (ok : Bool) (off : Nat) {s : State} (hw : Waits s) : Waits (helperLoad k ok off s) := by
  unfold helperLoad
  with_reducible repeat' (first
      | assumption | apply incF_waits | apply startComps_waits | apply setCore_waits | apply mpuLoad_waits | apply sendFault_waits
      | apply setComps_waits | apply noteRestart_waits | dsimp only | split)

theorem compRestarted_waits (c : Nat) {s : State} (hw : Waits s) : Waits (compRestarted c s).1 := by
  unfold compRestarted
  with_reducible repeat' (first
      | assumption | apply event_waits | apply startComps_waits | split)

theorem helperRestart_waits (k : Nat) {s : State} (hw : Waits s) : Waits (helperRestart k s) := by
  unfold helperRestart
  with_reducible repeat' (first
      | assumption | apply setComps_waits | apply setCore_waits | apply markRestart_waits | apply noteRestart_waits
      | apply foldl_waits | split | (intro _))

theorem coreRestart_waits (k : Nat) (addr : Nat) {s : State} (hw : Waits s) : Waits (coreRestart k addr s) := by
  unfold coreRestart
  with_reducible repeat' (first
      | assumption | apply sendFault_waits | apply mainRestart_waits | apply helperRestart_waits | dsimp only | split)

theorem compFail_waits (c : Nat) (cause : Nat) (addr : Nat) {s : State} (hw : Waits s) : Waits (compFail c cause addr s) := by
  unfold compFail
  with_reducible repeat' (first
      | assumption | apply coreRestart_waits | apply setComp_waits | apply noteRestart_waits | apply markRestart_waits | split)

theorem coreException_waits (k : Nat) (comp : Option Nat) (addr : Nat) {s : State} (hw : Waits s) : Waits (coreException k comp addr s)
    := by
  unfold coreException
  with_reducible repeat' (first
      | assumption | apply compFail_waits | apply coreRestart_waits | split)

theorem logMirrorCopy_waits (ok : Bool) {s : State} (hw : Waits s) : Waits (logMirrorCopy ok s) := by
  unfold logMirrorCopy
  with_reducible repeat' (first
      | assumption | apply coreException_waits | apply freeNext_waits | apply incF_waits | apply setF_waits | apply setFw_waits
      | apply mirrorStop_waits | apply setB_waits | apply sendFault_waits | dsimp only | split)

theorem componentHang_waits (c : Nat) {s : State} (hw : Waits s) : Waits (componentHang c s) := by
  unfold componentHang
  with_reducible repeat' (first
      | assumption | apply compFail_waits | apply sendFault_waits | split)

theorem hostAlive_waits (agent : Nat) {s : State} (hw : Waits s) : Waits (hostAlive agent s) := by
  unfold hostAlive
  with_reducible repeat' (first
      | assumption | apply setFw_waits | dsimp only | split)

theorem hostAttach_waits (val : Nat) {s : State} (hw : Waits s) : Waits (hostAttach val s).1 := by
  unfold hostAttach
  with_reducible repeat' (first
      | assumption | apply setB_waits | apply setFw_waits | apply setF_waits | apply event_waits | dsimp only | split)

theorem logEntry_waits (c : Nat) (kind : Nat) (id : Nat) (code : Nat) (payload : List Nat) {s : State} (hw : Waits s) : Waits (logEntry
    c kind id code payload s) := by
  unfold logEntry
  with_reducible repeat' (first
      | assumption | apply incF_waits | apply sramStore_waits | apply setF_waits | apply setFw_waits | dsimp only
      | split)

theorem wdtExpiry_waits {s : State} (hw : Waits s) : Waits (wdtExpiry s) := by
  unfold wdtExpiry
  with_reducible repeat' (first
      | assumption | apply coreRestart_waits | apply wdtStop_waits | apply freeNext_waits | apply incF_waits | split)

theorem mpuViolation_waits (c : Nat) (addr : Nat) (write : Bool) (exe : Bool) {s : State} (hw : Waits s) : Waits (mpuViolation c addr
    write exe s) := by
  unfold mpuViolation
  with_reducible repeat' (first
      | assumption | apply setF_waits | apply setB_waits | apply compFail_waits | apply sendFault_waits | apply setComp_waits
      | dsimp only | split)

theorem restartLimit_waits {s : State} (hw : Waits s) : Waits (restartLimit s) := by
  unfold restartLimit
  with_reducible repeat' (first
      | assumption | apply setB_waits | apply setFw_waits | apply sendFault_waits)

theorem wdtKick_waits (agent : Nat) (val : Nat) {s : State} (hw : Waits s) : Waits (wdtKick agent val s) := by
  unfold wdtKick
  with_reducible repeat' (first
      | assumption | apply setB_waits | apply setFw_waits | dsimp only | split)

theorem checkIn_waits (c : Nat) {s : State} (hw : Waits s) : Waits (checkIn c s) := by
  unfold checkIn
  with_reducible repeat' (first
      | assumption | apply setFw_waits | dsimp only | split)

/-! ### Seal.lean -/

theorem setBal_waits (b : BalState) {s : State} (hw : Waits s) : Waits (setBal b s) := by
  unfold setBal
  with_reducible repeat' (first
      | assumption | simp only [waits_mk_eq] | apply mk_waits)

theorem sealOn_waits (p : Nat) (typ : Nat) (origin : Nat) (ctx : Nat) (hops : Nat) (body : List Nat) {s : State} (hw : Waits s) : Waits
    (sealOn p typ origin ctx hops body s) := by
  unfold sealOn
  with_reducible repeat' (first
      | assumption | apply setW_waits | apply setBal_waits | dsimp only | split)

theorem sealJob_waits (body : List Nat) {s : State} (hw : Waits s) : Waits (sealJob body s) := by
  unfold sealJob
  with_reducible repeat' (first
      | assumption | apply sealOn_waits)

/-! ### Droop.lean -/

theorem sendHold_waits (late : Bool) (reason : Nat) (ext : Nat) (seq : Nat) {s : State} (hw : Waits s) : Waits (sendHold late reason
    ext seq s) := by
  unfold sendHold
  with_reducible repeat' (first
      | assumption | apply sealJob_waits | apply setSat_waits | apply setF_waits | apply setB_waits | apply event_waits
      | simp only [waits_mk_eq] | apply mk_waits)

theorem holdUnanswered_waits {s : State} (hw : Waits s) : Waits (holdUnanswered s) := by
  unfold holdUnanswered
  with_reducible repeat' (first
      | assumption | apply sendFault_waits | apply setB_waits | simp only [waits_mk_eq] | apply mk_waits | split)

theorem sendDuty_waits {s : State} (hw : Waits s) : Waits (sendDuty s) := by
  unfold sendDuty
  with_reducible repeat' (first
      | assumption | apply incF_waits | apply sendHold_waits | simp only [waits_mk_eq] | apply mk_waits | apply foldl_waits
      | (intro _))

theorem setRegion_waits {s : State} (r : Nat) (x : Region) (hw : Waits s) : Waits (setRegion s r x) := by
  unfold setRegion
  with_reducible repeat' (first
      | assumption | simp only [waits_mk_eq] | apply mk_waits)

theorem noteHold_waits {s : State} (r : Nat) (hw : Waits s) : Waits (noteHold s r) := by
  unfold noteHold
  with_reducible repeat' (first
      | assumption | apply setSat_waits)

theorem releaseHold_waits (r : Nat) {s : State} (hw : Waits s) : Waits (releaseHold r s) := by
  unfold releaseHold
  with_reducible repeat' (first
      | assumption | apply setRegion_waits | apply noteHold_waits | dsimp only | split)

theorem noteStuck_waits (r : Nat) {s : State} (hw : Waits s) : Waits (noteStuck r s) := by
  unfold noteStuck
  with_reducible repeat' (first
      | assumption | simp only [waits_mk_eq] | apply mk_waits)

theorem drgAdvance_waits (ticks : Nat) {s : State} (hw : Waits s) : Waits (drgAdvance ticks s) := by
  unfold drgAdvance
  with_reducible repeat' (first
      | assumption | apply setRegion_waits | simp only [waits_mk_eq] | apply mk_waits | apply foldl_waits | split | (intro _))

theorem holdBeats_waits {s : State} (hw : Waits s) : Waits (holdBeats s) := by
  unfold holdBeats
  with_reducible repeat' (first
      | assumption | simp only [waits_mk_eq] | apply mk_waits | split)

theorem regionLevel_waits (r : Nat) (new : Nat) {s : State} (hw : Waits s) : Waits (regionLevel r new s) := by
  unfold regionLevel
  with_reducible repeat' (first
      | assumption | apply setF_waits | apply incF_waits | apply setRegion_waits | apply noteHold_waits | dsimp only
      | split)

theorem detExclWrite_waits (w : Nat) (val : Nat) {s : State} (hw : Waits s) : Waits (detExclWrite w val s) := by
  unfold detExclWrite
  with_reducible repeat' (first
      | assumption | apply setF_waits | apply setB_waits | apply regionLevel_waits | dsimp only | apply foldl_waits
      | (intro _))

theorem setRate_waits (rate : Nat) {s : State} (hw : Waits s) : Waits (setRate rate s) := by
  unfold setRate
  with_reducible repeat' (first
      | assumption | apply setF_waits | simp only [waits_mk_eq] | apply mk_waits)

theorem droopRestart_waits (before : State) {s : State} (hw : Waits s) : Waits (droopRestart before s) := by
  unfold droopRestart
  with_reducible repeat' (first
      | assumption | apply setF_waits | apply setRegion_waits | dsimp only | apply foldl_waits | split | (intro _))

theorem raiseHold_waits (proj : Int) {s : State} (hw : Waits s) : Waits (raiseHold proj s) := by
  unfold raiseHold
  with_reducible repeat' (first
      | assumption | apply sendHold_waits | apply incF_waits | apply setB_waits | apply setF_waits | simp only [waits_mk_eq]
      | apply mk_waits)

theorem drgLatch_waits {s : State} (hw : Waits s) : Waits (drgLatch s) := by
  unfold drgLatch
  with_reducible repeat' (first
      | assumption | apply setSat_waits | apply setSatS_waits | apply setB_waits | apply setF_waits | simp only [waits_mk_eq]
      | apply mk_waits)

theorem beatWindow_waits {s : State} (hw : Waits s) : Waits (beatWindow s) := by
  unfold beatWindow
  with_reducible repeat' (first
      | assumption | simp only [waits_mk_eq] | apply mk_waits)

theorem releaseBeats_waits {s : State} (hw : Waits s) : Waits (releaseBeats s) := by
  unfold releaseBeats
  with_reducible repeat' (first
      | assumption | apply releaseHold_waits | simp only [waits_mk_eq] | apply mk_waits | apply foldl_waits | (intro _))

theorem drgPublish_waits (proj : Int) {s : State} (hw : Waits s) : Waits (drgPublish proj s) := by
  unfold drgPublish
  with_reducible repeat' (first
      | assumption | apply setSat_waits | apply setB_waits | apply setF_waits | apply setW_waits | dsimp only | split)

theorem stretchHoldLong_waits (r : Nat) {s : State} (hw : Waits s) : Waits (stretchHoldLong r s) := by
  unfold stretchHoldLong
  with_reducible repeat' (first
      | assumption | apply sendFault_waits | apply setB_waits | apply setRegion_waits | dsimp only | split)

theorem lateHold_waits {s : State} (hw : Waits s) : Waits (lateHold s) := by
  unfold lateHold
  with_reducible repeat' (first
      | assumption | apply sendHold_waits | apply setB_waits | apply incF_waits | apply sendFault_waits | apply event_waits
      | simp only [waits_mk_eq] | apply mk_waits)

theorem drgEvaluate_waits {s : State} (h : Waits s) : Waits (drgEvaluate s) := by
  unfold drgEvaluate
  with_reducible repeat' (first
      | assumption | apply drgPublish_waits | apply sendDuty_waits | apply raiseHold_waits | apply lateHold_waits | split
      | simp only [waits_mk_eq] | apply mk_waits)

theorem droopDetStuck_waits (r : Nat) (d : Nat) {s : State} (hw : Waits s) : Waits (droopDetStuck r d s) := by
  unfold droopDetStuck
  with_reducible repeat' (first
      | assumption | simp only [waits_mk_eq] | apply mk_waits | split)

theorem excludeDet_waits (i : Nat) {s : State} (hw : Waits s) : Waits (excludeDet i s) := by
  unfold excludeDet
  with_reducible repeat' (first
      | assumption | apply sendFault_waits | apply setF_waits | apply setB_waits | apply regionLevel_waits
      | simp only [waits_mk_eq] | apply mk_waits | split)

theorem setLaunchRate_waits {s : State} (hw : Waits s) : Waits (setLaunchRate s) := by
  unfold setLaunchRate
  with_reducible repeat' (first
      | assumption | simp only [waits_mk_eq] | apply mk_waits)

theorem droopLevelChange_waits (r : Nat) (d : Nat) (level : Nat) {s : State} (hw : Waits s) : Waits (droopLevelChange r d level s) :=
    by
  unfold droopLevelChange
  with_reducible repeat' (first
      | assumption | apply regionLevel_waits | apply noteStuck_waits | simp only [waits_mk_eq] | apply mk_waits)

/-! ### Phase.lean -/

theorem setPhase_waits {s : State} (n : Nat) (x : PhaseSt) (hw : Waits s) : Waits (setPhase s n x) := by
  unfold setPhase
  with_reducible repeat' (first
      | assumption | simp only [waits_mk_eq] | apply mk_waits)

theorem bringIn_waits (k : Nat) {s : State} (hw : Waits s) : Waits (bringIn k s) := by
  unfold bringIn
  with_reducible repeat' (first
      | assumption | apply setPhase_waits | dsimp only | apply foldl_waits | (intro _))

theorem raiseTarget_waits (k : Nat) {s : State} (hw : Waits s) : Waits (raiseTarget k s) := by
  unfold raiseTarget
  with_reducible repeat' (first
      | assumption | apply bringIn_waits | apply setRail_waits | dsimp only | split)

theorem capacityFaults_waits (k : Nat) (before : Nat) {s : State} (hw : Waits s) : Waits (capacityFaults k before s) := by
  unfold capacityFaults
  with_reducible repeat' (first
      | assumption | apply sendFault_waits | dsimp only | split)

theorem markRetired_waits (n : Nat) (cause : Nat) {s : State} (hw : Waits s) : Waits (markRetired n cause s) := by
  unfold markRetired
  with_reducible repeat' (first
      | assumption | apply event_waits | apply setF_waits)

theorem retireNow_waits (n : Nat) (cause : Nat) {s : State} (hw : Waits s) : Waits (retireNow n cause s) := by
  unfold retireNow
  with_reducible repeat' (first
      | assumption | apply raiseTarget_waits | apply capacityFaults_waits | apply setPhase_waits | apply markRetired_waits
      | dsimp only | split)

theorem phaseFault_waits (n : Nat) {s : State} (hw : Waits s) : Waits (phaseFault n s) := by
  unfold phaseFault
  with_reducible repeat' (first
      | assumption | apply sendFault_waits | apply setPhase_waits | apply retireNow_waits | simp only [waits_mk_eq]
      | apply mk_waits | split)

theorem shedTo_waits (k : Nat) (tgt : Nat) {s : State} (hw : Waits s) : Waits (shedTo k tgt s) := by
  unfold shedTo
  with_reducible repeat' (first
      | assumption | apply setRail_waits | apply setPhase_waits | dsimp only | apply foldl_waits | split | (intro _))

theorem askRetire_waits (n : Nat) (cause : Nat) {s : State} (hw : Waits s) : Waits (askRetire n cause s) := by
  unfold askRetire
  with_reducible repeat' (first
      | assumption | simp only [waits_mk_eq] | apply mk_waits | split)

theorem phaseHot_waits (n : Nat) {s : State} (hw : Waits s) : Waits (phaseHot n s) := by
  unfold phaseHot
  with_reducible repeat' (first
      | assumption | apply askRetire_waits | apply sendFault_waits | split)

theorem shedAbort_waits (k : Nat) (cause : Nat) {s : State} (hw : Waits s) : Waits (shedAbort k cause s) := by
  unfold shedAbort
  with_reducible repeat' (first
      | assumption | apply setPhase_waits | apply setRail_waits | apply event_waits | apply incF_waits | apply setB_waits
      | apply repeatBreaks_waits | dsimp only | apply foldl_waits | split | (intro _))

theorem shedAborts_waits (cause : Nat) {s : State} (hw : Waits s) : Waits (shedAborts cause s) := by
  unfold shedAborts
  with_reducible repeat' (first
      | assumption | apply shedAbort_waits | apply foldl_waits | (intro _))

theorem imbalanceRound_waits (k : Nat) {s : State} (hw : Waits s) : Waits (imbalanceRound k s) := by
  unfold imbalanceRound
  with_reducible repeat' (first
      | assumption | simp only [waits_mk_eq] | apply mk_waits | apply foldl_waits | split | (intro _))

theorem turnOn_waits (k : Nat) (n : Nat) (on : Nat) (m : Nat) {s : State} (hw : Waits s) : Waits (turnOn k n on m s) := by
  unfold turnOn
  with_reducible repeat' (first
      | assumption | apply setSat_waits | simp only [waits_mk_eq] | apply mk_waits | split)

theorem laneAdvance_waits (ticks : Nat) (k : Nat) {s : State} (hw : Waits s) : Waits (laneAdvance ticks k s) := by
  unfold laneAdvance
  with_reducible repeat' (first
      | assumption | apply turnOn_waits | apply setRail_waits | apply foldl_waits | split | (intro _))

theorem deExit_waits (k : Nat) {s : State} (hw : Waits s) : Waits (deExit k s) := by
  unfold deExit
  with_reducible repeat' (first
      | assumption | apply setRail_waits | apply setB_waits | dsimp only | split)

theorem addPhases_waits (k : Nat) (cause : Nat) {s : State} (hw : Waits s) : Waits (addPhases k cause s) := by
  unfold addPhases
  with_reducible repeat' (first
      | assumption | apply raiseTarget_waits | apply deExit_waits | apply shedAborts_waits | split)

theorem phaseRampOutDone_waits (n : Nat) {s : State} (hw : Waits s) : Waits (phaseRampOutDone n s) := by
  unfold phaseRampOutDone
  with_reducible repeat' (first
      | assumption | apply setPhase_waits | split)

theorem phcAdvance_waits (ticks : Nat) {s : State} (hw : Waits s) : Waits (phcAdvance ticks s) := by
  unfold phcAdvance
  with_reducible repeat' (first
      | assumption | apply laneAdvance_waits | apply setRail_waits | dsimp only | apply foldl_waits | split
      | (intro _))

theorem phaseOcTrip_waits (n : Nat) {s : State} (hw : Waits s) : Waits (phaseOcTrip n s) := by
  unfold phaseOcTrip
  with_reducible repeat' (first
      | assumption | apply incF_waits | simp only [waits_mk_eq] | apply mk_waits | split)

theorem vselLatch_waits (v : Nat) {s : State} (hw : Waits s) : Waits (vselLatch v s) := by
  unfold vselLatch
  with_reducible repeat' (first
      | assumption | apply setF_waits | simp only [waits_mk_eq] | apply mk_waits | split)

theorem burstRearmEnd_waits {s : State} (hw : Waits s) : Waits (burstRearmEnd s) := by
  unfold burstRearmEnd
  with_reducible repeat' (first
      | assumption | simp only [waits_mk_eq] | apply mk_waits | split)

theorem setpointRampDone_waits (k : Nat) {s : State} (hw : Waits s) : Waits (setpointRampDone k s) := by
  unfold setpointRampDone
  with_reducible repeat' (first
      | assumption | apply setRail_waits | simp only [waits_mk_eq] | apply mk_waits | split)

theorem restorePhase_waits (n : Nat) {s : State} (hw : Waits s) : Waits (restorePhase n s) := by
  unfold restorePhase
  with_reducible repeat' (first
      | assumption | apply setF_waits | apply raiseTarget_waits | apply event_waits | apply setPhase_waits | apply freeNext_waits
      | apply phaseFault_waits | simp only [waits_mk_eq] | apply mk_waits | split)

theorem retarget_waits (k : Nat) (tgt : Nat) (delay : Nat) {s : State} (hw : Waits s) : Waits (retarget k tgt delay s) := by
  unfold retarget
  with_reducible repeat' (first
      | assumption | apply setRail_waits | apply deExit_waits | dsimp only | split)

theorem phcRetiredWrite_waits (w : Nat) (val : Nat) {s : State} (hw : Waits s) : Waits (phcRetiredWrite w val s) := by
  unfold phcRetiredWrite
  with_reducible repeat' (first
      | assumption | simp only [waits_mk_eq] | apply mk_waits | apply foldl_waits | (intro _))

theorem negLimit_waits {s : State} (hw : Waits s) : Waits (negLimit s) := by
  unfold negLimit
  with_reducible repeat' (first
      | assumption | simp only [waits_mk_eq] | apply mk_waits)

theorem compSample_waits (k : Nat) {s : State} (hw : Waits s) : Waits (compSample k s) := by
  unfold compSample
  with_reducible repeat' (first
      | assumption | apply setF_waits | apply setRail_waits | apply freeNext_waits | dsimp only | split)

theorem retireAtBoundary_waits (n : Nat) (cause : Nat) {s : State} (hw : Waits s) : Waits (retireAtBoundary n cause s) := by
  unfold retireAtBoundary
  with_reducible repeat' (first
      | assumption | apply raiseTarget_waits | apply capacityFaults_waits | apply setPhase_waits | apply markRetired_waits
      | dsimp only | split)

theorem phaseRampInDone_waits (n : Nat) {s : State} (hw : Waits s) : Waits (phaseRampInDone n s) := by
  unfold phaseRampInDone
  with_reducible repeat' (first
      | assumption | apply setPhase_waits | split)

theorem reactiveAdd_waits (k : Nat) (avg : Int) {s : State} (hw : Waits s) : Waits (reactiveAdd k avg s) := by
  unfold reactiveAdd
  with_reducible repeat' (first
      | assumption | apply addPhases_waits | apply setRail_waits | dsimp only | split)

theorem allPhaseBurst_waits (p : VcorePoints) {s : State} (hw : Waits s) : Waits (allPhaseBurst p s) := by
  unfold allPhaseBurst
  with_reducible repeat' (first
      | assumption | apply setF_waits | apply incF_waits | apply deExit_waits | apply shedAborts_waits | simp only [waits_mk_eq]
      | apply mk_waits | apply foldl_waits | split | (intro _))

theorem phaseOcRelease_waits (n : Nat) {s : State} (hw : Waits s) : Waits (phaseOcRelease n s) := by
  unfold phaseOcRelease
  with_reducible repeat' (first
      | assumption | simp only [waits_mk_eq] | apply mk_waits)

theorem phaseImbalance_waits (n : Nat) {s : State} (hw : Waits s) : Waits (phaseImbalance n s) := by
  unfold phaseImbalance
  with_reducible repeat' (first
      | assumption | apply askRetire_waits | apply sendFault_waits | split)

theorem burstEnd_waits (p : VcorePoints) {s : State} (hw : Waits s) : Waits (burstEnd p s) := by
  unfold burstEnd
  with_reducible repeat' (first
      | assumption | apply setRail_waits | apply setSat_waits | simp only [waits_mk_eq] | apply mk_waits | split)

theorem shedInhEnd_waits (k : Nat) {s : State} (hw : Waits s) : Waits (shedInhEnd k s) := by
  unfold shedInhEnd
  with_reducible repeat' (first
      | assumption | apply setB_waits | split)

theorem deEnter_waits (k : Nat) {s : State} (hw : Waits s) : Waits (deEnter k s) := by
  unfold deEnter
  with_reducible repeat' (first
      | assumption | apply setB_waits | split)

theorem hotRound_waits {s : State} (hw : Waits s) : Waits (hotRound s) := by
  unfold hotRound
  with_reducible repeat' (first
      | assumption | simp only [waits_mk_eq] | apply mk_waits)

theorem applySel_waits (k : Nat) (sel : Nat) {s : State} (hw : Waits s) : Waits (applySel k sel s) := by
  unfold applySel
  with_reducible repeat' (first
      | assumption | apply setF_waits | apply retarget_waits | apply deExit_waits | simp only [waits_mk_eq] | apply mk_waits
      | split)

theorem noteImax_waits (k : Nat) (avg : Int) {s : State} (hw : Waits s) : Waits (noteImax k avg s) := by
  unfold noteImax
  with_reducible repeat' (first
      | assumption | apply setRail_waits)

theorem deSample_waits (k : Nat) {s : State} (hw : Waits s) : Waits (deSample k s) := by
  unfold deSample
  with_reducible repeat' (first
      | assumption | apply deExit_waits | apply setRail_waits | dsimp only | split)

/-! ### Seq.lean -/

theorem setRailSt_waits (k : Nat) (x : Nat) {s : State} (hw : Waits s) : Waits (setRailSt k x s) := by
  unfold setRailSt
  with_reducible repeat' (first
      | assumption | apply setF_waits)

theorem phasesOff_waits (k : Nat) {s : State} (hw : Waits s) : Waits (phasesOff k s) := by
  unfold phasesOff
  with_reducible repeat' (first
      | assumption | apply setPhase_waits | apply foldl_waits | (intro _))

theorem regate_waits {s : State} (hw : Waits s) : Waits (regate s) := by
  unfold regate
  with_reducible repeat' (first
      | assumption | simp only [waits_mk_eq] | apply mk_waits)

theorem railOff_waits (k : Nat) (st : Nat) {s : State} (hw : Waits s) : Waits (railOff k st s) := by
  unfold railOff
  with_reducible repeat' (first
      | assumption | apply setRailSt_waits | apply setRail_waits | apply phasesOff_waits | apply setB_waits | apply setF_waits
      | apply regate_waits | simp only [waits_mk_eq] | apply mk_waits | split)

theorem enterProbe_waits (k : Nat) {s : State} (hw : Waits s) : Waits (enterProbe k s) := by
  unfold enterProbe
  with_reducible repeat' (first
      | assumption | apply railOff_waits | apply setRail_waits)

theorem slotBegin_waits {s : State} (hw : Waits s) : Waits (slotBegin s) := by
  unfold slotBegin
  with_reducible repeat' (first
      | assumption | apply enterProbe_waits | dsimp only | apply foldl_waits | split | (intro _))

theorem busSettleDone_waits {s : State} (hw : Waits s) : Waits (busSettleDone s) := by
  unfold busSettleDone
  with_reducible repeat' (first
      | assumption | apply slotBegin_waits | apply setRailSt_waits | apply foldl_waits | split | (intro _))

theorem restEnds_waits {s : State} (hw : Waits s) : Waits (restEnds s) := by
  unfold restEnds
  with_reducible repeat' (first
      | assumption | apply setF_waits | simp only [waits_mk_eq] | apply mk_waits | split)

theorem phasesStop_waits (k : Nat) {s : State} (hw : Waits s) : Waits (phasesStop k s) := by
  unfold phasesStop
  with_reducible repeat' (first
      | assumption | apply setPhase_waits | dsimp only | apply foldl_waits | (intro _))

theorem enterStopping_waits (k : Nat) {s : State} (hw : Waits s) : Waits (enterStopping k s) := by
  unfold enterStopping
  with_reducible repeat' (first
      | assumption | apply phasesStop_waits | apply setRail_waits | apply setB_waits | apply setRailSt_waits | apply regate_waits
      | simp only [waits_mk_eq] | apply mk_waits | split)

theorem setStop_waits (x : Nat) {s : State} (hw : Waits s) : Waits (setStop x s) := by
  unfold setStop
  with_reducible repeat' (first
      | assumption | simp only [waits_mk_eq] | apply mk_waits)

theorem setSeqState_waits (x : Nat) {s : State} (hw : Waits s) : Waits (setSeqState x s) := by
  unfold setSeqState
  with_reducible repeat' (first
      | assumption | apply setF_waits)

theorem stopDone_waits {s : State} (hw : Waits s) : Waits (stopDone s) := by
  unfold stopDone
  with_reducible repeat' (first
      | assumption | apply setStop_waits | apply setSeqState_waits | apply setB_waits | apply event_waits)

theorem stopNext_waits {s : State} (hw : Waits s) : Waits (stopNext s) := by
  unfold stopNext
  with_reducible repeat' (first
      | assumption | apply setRail_waits | apply enterStopping_waits | apply stopDone_waits | dsimp only
      | apply foldl_waits | split | (intro _))

theorem waitersOff_waits {s : State} (hw : Waits s) : Waits (waitersOff s) := by
  unfold waitersOff
  with_reducible repeat' (first
      | assumption | apply railOff_waits | apply foldl_waits | (intro _))

theorem beginStop_waits (kind : Nat) {s : State} (hw : Waits s) : Waits (beginStop kind s) := by
  unfold beginStop
  with_reducible repeat' (first
      | assumption | apply stopNext_waits | apply waitersOff_waits | apply setStop_waits | apply setSeqState_waits)

theorem startFault_waits (k : Nat) (kind : Nat) (cause : Nat) (info : Nat) {s : State} (hw : Waits s) : Waits (startFault k kind cause
    info s) := by
  unfold startFault
  with_reducible repeat' (first
      | assumption | apply railOff_waits | apply sendFault_waits | apply setF_waits | apply regate_waits | apply restEnds_waits
      | apply stopNext_waits | apply beginStop_waits | dsimp only | split)

theorem railPgTimeout_waits (k : Nat) {s : State} (hw : Waits s) : Waits (railPgTimeout k s) := by
  unfold railPgTimeout
  with_reducible repeat' (first
      | assumption | apply startFault_waits | dsimp only | split)

theorem softRetarget_waits (k : Nat) (tgt : Nat) {s : State} (hw : Waits s) : Waits (softRetarget k tgt s) := by
  unfold softRetarget
  with_reducible repeat' (first
      | assumption | apply setRail_waits | dsimp only | split)

theorem setDue_waits (t : Nat) {s : State} (hw : Waits s) : Waits (setDue t s) := by
  unfold setDue
  with_reducible repeat' (first
      | assumption | simp only [waits_mk_eq] | apply mk_waits)

theorem beginStart_waits {s : State} (hw : Waits s) : Waits (beginStart s) := by
  unfold beginStart
  with_reducible repeat' (first
      | assumption | apply setSeqState_waits | apply setB_waits | simp only [waits_mk_eq] | apply mk_waits | split)

theorem quickNext_waits {s : State} (hw : Waits s) : Waits (quickNext s) := by
  unfold quickNext
  with_reducible repeat' (first
      | assumption | apply setDue_waits | apply railOff_waits | apply setStop_waits | apply setSeqState_waits | apply setB_waits
      | apply beginStart_waits | dsimp only | split)

theorem quickStop_waits {s : State} (hw : Waits s) : Waits (quickStop s) := by
  unfold quickStop
  with_reducible repeat' (first
      | assumption | apply quickNext_waits | apply setStop_waits | apply setSeqState_waits | apply regate_waits
      | apply restEnds_waits | split)

theorem pwrFailFall_waits {s : State} (hw : Waits s) : Waits (pwrFailFall s) := by
  unfold pwrFailFall
  with_reducible repeat' (first
      | assumption | apply quickStop_waits | simp only [waits_mk_eq] | apply mk_waits | split)

theorem railStopDone_waits (k : Nat) {s0 : State} (hk : Waits s0) : Waits (railStopDone k s0) := by
  unfold railStopDone
  with_reducible repeat' (first
      | assumption | apply setB_waits | apply stopNext_waits | apply railOff_waits | dsimp only | split)

theorem startDone_waits {s : State} (hw : Waits s) : Waits (startDone s) := by
  unfold startDone
  with_reducible repeat' (first
      | assumption | apply setStop_waits | apply event_waits | apply setSeqState_waits | split)

theorem railPowerGood_waits (k : Nat) {s : State} (hw : Waits s) : Waits (railPowerGood k s) := by
  unfold railPowerGood
  with_reducible repeat' (first
      | assumption | apply setRailSt_waits | apply setRail_waits | apply setB_waits | apply regate_waits | apply startDone_waits
      | apply raiseTarget_waits | apply setDue_waits | dsimp only | split)

theorem seqSlotStart_waits {s : State} (hw : Waits s) : Waits (seqSlotStart s) := by
  unfold seqSlotStart
  with_reducible repeat' (first
      | assumption | apply slotBegin_waits | split)

theorem followSample_waits (k : Nat) {s : State} (hw : Waits s) : Waits (followSample k s) := by
  unfold followSample
  with_reducible repeat' (first
      | assumption | apply setRail_waits | apply freeNext_waits | dsimp only | split)

theorem railShortStart_waits (k : Nat) {s : State} (hw : Waits s) : Waits (railShortStart k s) := by
  unfold railShortStart
  with_reducible repeat' (first
      | assumption | apply startFault_waits | split)

theorem busGood_waits {s : State} (hw : Waits s) : Waits (busGood s) := by
  unfold busGood
  with_reducible repeat' (first
      | assumption | simp only [waits_mk_eq] | apply mk_waits)

theorem pwrFailRise_waits {s : State} (hw : Waits s) : Waits (pwrFailRise s) := by
  unfold pwrFailRise
  with_reducible repeat' (first
      | assumption | apply busGood_waits | apply beginStart_waits | simp only [waits_mk_eq] | apply mk_waits | split)

theorem railStartStall_waits (k : Nat) {s : State} (hw : Waits s) : Waits (railStartStall k s) := by
  unfold railStartStall
  with_reducible repeat' (first
      | assumption | apply startFault_waits | split)

theorem startFaults_waits (k : Nat) {s : State} (hw : Waits s) : Waits (startFaults k s) := by
  unfold startFaults
  with_reducible repeat' (first
      | assumption | apply phaseFault_waits | apply foldl_waits | (intro _))

theorem phasesStart_waits (k : Nat) {s : State} (hw : Waits s) : Waits (phasesStart k s) := by
  unfold phasesStart
  with_reducible repeat' (first
      | assumption | apply setPhase_waits | dsimp only | apply foldl_waits | (intro _))

theorem latchClear_waits (val : Nat) {s : State} (hw : Waits s) : Waits (latchClear val s) := by
  unfold latchClear
  with_reducible repeat' (first
      | assumption | apply setRailSt_waits | apply setF_waits | apply foldl_waits | split | (intro _))

theorem leaderRefused_waits (k : Nat) {s : State} (hw : Waits s) : Waits (leaderRefused k s) := by
  unfold leaderRefused
  with_reducible repeat' (first
      | assumption | apply setB_waits | apply setRail_waits | dsimp only | apply foldl_waits | split | (intro _))

theorem railProbeDone_waits (k : Nat) {s : State} (hw : Waits s) : Waits (railProbeDone k s) := by
  unfold railProbeDone
  with_reducible repeat' (first
      | assumption | apply setF_waits | apply setB_waits | apply startFault_waits | apply leaderRefused_waits
      | apply phasesStart_waits | apply setRailSt_waits | apply setRail_waits | apply startFaults_waits | dsimp only
      | split)

theorem railPrebiasHigh_waits (k : Nat) {s : State} (hw : Waits s) : Waits (railPrebiasHigh k s) := by
  unfold railPrebiasHigh
  with_reducible repeat' (first
      | assumption | apply startFault_waits | dsimp only | split)

theorem applySelect_waits (k : Nat) (sel : Nat) {s : State} (hw : Waits s) : Waits (applySelect k sel s) := by
  unfold applySelect
  with_reducible repeat' (first
      | assumption | apply softRetarget_waits | apply applySel_waits)

theorem seqStartAct_waits {s : State} (hw : Waits s) : Waits (seqStartAct s) := by
  unfold seqStartAct
  with_reducible repeat' (first
      | assumption | apply setB_waits | apply beginStart_waits | split)

theorem busStartFail_waits {s : State} (hw : Waits s) : Waits (busStartFail s) := by
  unfold busStartFail
  with_reducible repeat' (first
      | assumption | apply setSeqState_waits | apply setB_waits | apply sendFault_waits | split)

theorem seqSample_waits (k : Nat) {s0 : State} (hk : Waits s0) : Waits (seqSample k s0) := by
  unfold seqSample
  with_reducible repeat' (first
      | assumption | apply followSample_waits | apply setRail_waits | dsimp only | split)

theorem quickStopRailOff_waits {s : State} (hw : Waits s) : Waits (quickStopRailOff s) := by
  unfold quickStopRailOff
  with_reducible repeat' (first
      | assumption | apply quickNext_waits | split)

theorem seqStop_waits {s : State} (hw : Waits s) : Waits (seqStop s) := by
  unfold seqStop
  with_reducible repeat' (first
      | assumption | simp only [waits_mk_eq] | apply mk_waits | split)

theorem railOv_waits (k : Nat) {s : State} (hw : Waits s) : Waits (railOv k s) := by
  unfold railOv
  with_reducible repeat' (first
      | assumption | apply startFault_waits | split)

theorem seqStopAct_waits {s : State} (hw : Waits s) : Waits (seqStopAct s) := by
  unfold seqStopAct
  with_reducible repeat' (first
      | assumption | apply beginStop_waits | split)

theorem seqStart_waits {s : State} (hw : Waits s) : Waits (seqStart s) := by
  unfold seqStart
  with_reducible repeat' (first
      | assumption | apply setB_waits | simp only [waits_mk_eq] | apply mk_waits | split)

/-! ### Plan.lean -/

theorem shedActions_waits {s : State} (hw : Waits s) : Waits (shedActions s) := by
  unfold shedActions
  with_reducible repeat' (first
      | assumption | simp only [waits_mk_eq] | apply mk_waits | split)

theorem ffLiftAction_waits {s : State} (hw : Waits s) : Waits (ffLiftAction s) := by
  unfold ffLiftAction
  with_reducible repeat' (first
      | assumption | apply repeatBreaks_waits | simp only [waits_mk_eq] | apply mk_waits | split)

theorem switchHalf_waits (h : Nat) {s : State} (hw : Waits s) : Waits (switchHalf h s) := by
  unfold switchHalf
  with_reducible repeat' (first
      | assumption | apply setB_waits | apply setF_waits | split)

theorem fallLifts_waits (p : Lift → Bool) {s : State} (hw : Waits s) : Waits (fallLifts p s) := by
  unfold fallLifts
  with_reducible repeat' (first
      | assumption | simp only [waits_mk_eq] | apply mk_waits)

theorem repeatTake_waits (on : Bool) {s : State} (hw : Waits s) : Waits (repeatTake on s) := by
  unfold repeatTake
  with_reducible repeat' (first
      | assumption | simp only [waits_mk_eq] | apply mk_waits | split)

theorem retime_waits {s : State} (hw : Waits s) : Waits (retime s) := by
  unfold retime
  with_reducible repeat' (first
      | assumption | apply fallLifts_waits | simp only [waits_mk_eq] | apply mk_waits)

theorem launchMove_waits (step time : Nat) {s : State} (h : Waits s) : Waits (launchMove step time s) := by
  unfold launchMove
  with_reducible repeat' (first
      | assumption | apply sendFault_waits | apply event_waits | apply retime_waits | apply setB_waits | split | simp only [waits_mk_eq]
      | apply mk_waits)

theorem planEvent_waits (code : Nat) {s : State} (hw : Waits s) : Waits (planEvent code s) := by
  unfold planEvent
  with_reducible repeat' (first
      | assumption | apply event_waits)

theorem setPlanState_waits (x : Nat) {s : State} (hw : Waits s) : Waits (setPlanState x s) := by
  unfold setPlanState
  with_reducible repeat' (first
      | assumption | apply setF_waits)

theorem planPause_waits {s : State} (hw : Waits s) : Waits (planPause s) := by
  unfold planPause
  with_reducible repeat' (first
      | assumption | apply planEvent_waits | apply setPlanState_waits | split)

theorem planLeaves_waits {s : State} (hw : Waits s) : Waits (planLeaves s) := by
  unfold planLeaves
  with_reducible repeat' (first
      | assumption | apply fallLifts_waits | simp only [waits_mk_eq] | apply mk_waits)

theorem planErrorNow_waits (hold : Bool) {s : State} (hw : Waits s) : Waits (planErrorNow hold s) := by
  unfold planErrorNow
  with_reducible repeat' (first
      | assumption | apply planEvent_waits | apply setPlanState_waits | apply planLeaves_waits | simp only [waits_mk_eq]
      | apply mk_waits)

theorem readEntry_waits (step : Nat) {s : State} (hw : Waits s) : Waits (readEntry step s).1 := by
  unfold readEntry
  with_reducible repeat' (first
      | assumption | apply sendFault_waits | dsimp only | split)

theorem applyEntry_waits (step : Nat) (h : Nat) (e : List Nat) (seek : Bool) {s : State} (hw : Waits s) : Waits (applyEntry step h e
    seek s) := by
  unfold applyEntry
  with_reducible repeat' (first
      | assumption | apply setF_waits | apply setPlanState_waits | apply switchHalf_waits | apply planEvent_waits
      | apply event_waits | apply fallLifts_waits | simp only [waits_mk_eq] | apply mk_waits | apply foldl_waits | split
      | (intro _))

theorem planStrobe_waits (old : Nat) (step : Nat) {s : State} (hw : Waits s) : Waits (planStrobe old step s) := by
  unfold planStrobe
  with_reducible repeat' (first
      | assumption | apply repeatBroken_waits | apply event_waits | apply incF_waits | apply sendFault_waits
      | apply readEntry_waits | apply applyEntry_waits | apply planErrorNow_waits | apply planEvent_waits
      | apply setPlanState_waits | apply planLeaves_waits | simp only [waits_mk_eq] | apply mk_waits | split
      | (refine waits_of_fst (by assumption) ?_))

theorem windowRead_waits {s : State} (hw : Waits s) : Waits (windowRead s) := by
  unfold windowRead
  with_reducible repeat' (first
      | assumption | apply readEntry_waits | apply planErrorNow_waits | apply foldl_waits | split | (intro _)
      | (refine waits_of_fst (by assumption) ?_))

theorem withdrawLift_waits {s : State} (hw : Waits s) : Waits (withdrawLift s) := by
  unfold withdrawLift
  with_reducible repeat' (first
      | assumption | apply fallLifts_waits)

theorem trustWithdraws_waits {s : State} (hw : Waits s) : Waits (trustWithdraws s) := by
  unfold trustWithdraws
  with_reducible repeat' (first
      | assumption | apply withdrawLift_waits | apply repeatBreaks_waits | simp only [waits_mk_eq] | apply mk_waits | split)

theorem ffScheduleComputed_waits {s : State} (hw : Waits s) : Waits (ffScheduleComputed s) := by
  unfold ffScheduleComputed
  with_reducible repeat' (first
      | assumption | apply windowRead_waits | simp only [waits_mk_eq] | apply mk_waits | split)

theorem planIdleNow_waits {s : State} (hw : Waits s) : Waits (planIdleNow s) := by
  unfold planIdleNow
  with_reducible repeat' (first
      | assumption | apply planEvent_waits | apply planLeaves_waits | apply setPlanState_waits | simp only [waits_mk_eq]
      | apply mk_waits | split)

theorem psqAdvance_waits (now : Nat) {s : State} (hw : Waits s) : Waits (psqAdvance now s) := by
  unfold psqAdvance
  with_reducible repeat' (first
      | assumption | apply setB_waits | simp only [waits_mk_eq] | apply mk_waits | split)

theorem fixedCheck_waits {s : State} (hw : Waits s) : Waits (fixedCheck s) := by
  unfold fixedCheck
  with_reducible repeat' (first
      | assumption | apply event_waits | apply setB_waits | split)

theorem sigLoad_waits {s : State} (hw : Waits s) : Waits (sigLoad s) := by
  unfold sigLoad
  with_reducible repeat' (first
      | assumption | apply setF_waits | simp only [waits_mk_eq] | apply mk_waits | apply foldl_waits | split | (intro _))

theorem planCut_waits (next : Nat) {s : State} (hw : Waits s) : Waits (planCut next s) := by
  unfold planCut
  with_reducible repeat' (first
      | assumption | apply readEntry_waits | apply planErrorNow_waits | simp only [waits_mk_eq] | apply mk_waits | split
      | (refine waits_of_fst (by assumption) ?_))

theorem ffAddAction_waits (k : Nat) {s : State} (hw : Waits s) : Waits (ffAddAction k s) := by
  unfold ffAddAction
  with_reducible repeat' (first
      | assumption | apply addPhases_waits | simp only [waits_mk_eq] | apply mk_waits | split)

theorem fixedTake_waits (on : Bool) {s : State} (hw : Waits s) : Waits (fixedTake on s) := by
  unfold fixedTake
  with_reducible repeat' (first
      | assumption | apply setB_waits | apply event_waits | split)

/-! ### Limit.lean -/

theorem setLgv_waits (g : LgvState) {s : State} (hw : Waits s) : Waits (setLgv g s) := by
  unfold setLgv
  with_reducible repeat' (first
      | assumption | simp only [waits_mk_eq] | apply mk_waits)

theorem capFreeze_waits (v : State) {s : State} (hw : Waits s) : Waits (capFreeze v s) := by
  unfold capFreeze
  with_reducible repeat' (first
      | assumption | apply setLgv_waits)

theorem cutView_waits {s : State} (hw : Waits s) : Waits (cutView s) := by
  unfold cutView
  with_reducible repeat' (first
      | assumption | apply preview_waits | simp only [waits_mk_eq] | apply mk_waits)

theorem lgvChoose_waits {s : State} (hw : Waits s) : Waits (lgvChoose s).1 := by
  unfold lgvChoose
  with_reducible repeat' (first
      | assumption | apply setLgv_waits)

theorem setCapState_waits (v : Nat) {s : State} (hw : Waits s) : Waits (setCapState v s) := by
  unfold setCapState
  with_reducible repeat' (first
      | assumption | apply eventP_waits | apply setF_waits | apply setLgv_waits | dsimp only | split)

theorem capFollow_waits (stays : Bool) {s : State} (hw : Waits s) : Waits (capFollow stays s) := by
  unfold capFollow
  with_reducible repeat' (first
      | assumption | apply setCapState_waits | split)

theorem lgvCut_waits {s0 : State} (hk : Waits s0) : Waits (lgvCut s0) := by
  unfold lgvCut
  with_reducible repeat' (first
      | assumption | apply capFreeze_waits | apply lgvChoose_waits | apply setSat_waits | apply setF_waits | apply capFollow_waits
      | apply setLgv_waits | apply foldl_waits | (intro _))

theorem ceilingsRise_waits {s : State} (hw : Waits s) : Waits (ceilingsRise s) := by
  unfold ceilingsRise
  with_reducible repeat' (first
      | assumption | apply setB_waits | apply setF_waits | simp only [waits_mk_eq] | apply mk_waits | split)

theorem capSwap_waits {s : State} (hw : Waits s) : Waits (capSwap s) := by
  unfold capSwap
  with_reducible repeat' (first
      | assumption | apply setF_waits | apply setB_waits | apply capFollow_waits | apply setLgv_waits)

theorem lgvSwap_waits {s : State} (hw : Waits s) : Waits (lgvSwap s) := by
  unfold lgvSwap
  with_reducible repeat' (first
      | assumption | apply ceilingsRise_waits | apply setF_waits | apply setLgv_waits | apply setB_waits | apply capSwap_waits
      | dsimp only | split)

theorem refreshRate_waits {s : State} (hw : Waits s) : Waits (refreshRate s) := by
  unfold refreshRate
  with_reducible repeat' (first
      | assumption | apply setRate_waits | split)

theorem boostCheck_waits {s : State} (hw : Waits s) : Waits (boostCheck s) := by
  unfold boostCheck
  with_reducible repeat' (first
      | assumption | apply setB_waits | apply refreshRate_waits | split)

theorem ceilingFell_waits {s : State} (hw : Waits s) : Waits (ceilingFell s) := by
  unfold ceilingFell
  with_reducible repeat' (first
      | assumption | apply repeatBreaks_waits | apply fixedCheck_waits | apply boostCheck_waits)

theorem thermLower_waits (v : Nat) (cause : Nat) {s : State} (hw : Waits s) : Waits (thermLower v cause s) := by
  unfold thermLower
  with_reducible repeat' (first
      | assumption | apply setF_waits | apply ceilingFell_waits | simp only [waits_mk_eq] | apply mk_waits | split)

theorem capUnattainable_waits {s : State} (hw : Waits s) : Waits (capUnattainable s) := by
  unfold capUnattainable
  with_reducible repeat' (first
      | assumption | apply sendFaultP_waits | apply setCapState_waits | dsimp only | split)

theorem lgvRechoose_waits (was : Nat × List Nat) {s : State} (hw : Waits s) : Waits (lgvRechoose was s) := by
  unfold lgvRechoose
  with_reducible repeat' (first
      | assumption | apply lgvChoose_waits | simp only [waits_mk_eq] | apply mk_waits | split)

theorem lgvSafe_waits {s : State} (hw : Waits s) : Waits (lgvSafe s) := by
  unfold lgvSafe
  with_reducible repeat' (first
      | assumption | apply setF_waits | apply setLgv_waits | apply boostCheck_waits | apply setB_waits)

theorem lgvLaunch_waits (strobe : Bool) {s : State} (hw : Waits s) : Waits (lgvLaunch strobe s) := by
  unfold lgvLaunch
  with_reducible repeat' (first
      | assumption | apply fixedCheck_waits | apply boostCheck_waits | apply setLaunchRate_waits | apply setLgv_waits
      | apply setF_waits | apply incF_waits | apply setSat_waits | simp only [waits_mk_eq] | apply mk_waits | split)

theorem lgvDutyStep_waits {s : State} (hw : Waits s) : Waits (lgvDutyStep s) := by
  unfold lgvDutyStep
  with_reducible repeat' (first
      | assumption | apply setLgv_waits | apply eventP_waits | dsimp only | split)

theorem lgvClean_waits {s : State} (hw : Waits s) : Waits (lgvClean s) := by
  unfold lgvClean
  with_reducible repeat' (first
      | assumption | apply setLgv_waits)

theorem lgvSample_waits (gov : List Int) {s : State} (hw : Waits s) : Waits (lgvSample gov s) := by
  unfold lgvSample
  with_reducible repeat' (first
      | assumption | apply setLgv_waits | apply lgvClean_waits | apply setSatS_waits | apply foldl_waits | (intro _))

theorem thermLimWrite_waits (agent : Nat) (val : Nat) {s : State} (hw : Waits s) : Waits (thermLimWrite agent val s) := by
  unfold thermLimWrite
  with_reducible repeat' (first
      | assumption | apply pendPut_waits | split)

theorem lgvClose10_waits {s : State} (hw : Waits s) : Waits (lgvClose10 s) := by
  unfold lgvClose10
  with_reducible repeat' (first
      | assumption | apply lgvClean_waits | apply setSatS_waits | apply setLgv_waits | apply foldl_waits | (intro _))

theorem lgvClose1_waits {s : State} (hw : Waits s) : Waits (lgvClose1 s) := by
  unfold lgvClose1
  with_reducible repeat' (first
      | assumption | apply lgvClean_waits | apply setSat_waits | apply setLgv_waits)

theorem limitUnmet_waits (c : Nat) {s : State} (hw : Waits s) : Waits (limitUnmet c s) := by
  unfold limitUnmet
  with_reducible repeat' (first
      | assumption | apply sendFaultP_waits | apply setLgv_waits | dsimp only | split)

theorem lgvClose1ms_waits {s : State} (hw : Waits s) : Waits (lgvClose1ms s) := by
  unfold lgvClose1ms
  with_reducible repeat' (first
      | assumption | apply setLgv_waits | apply setSatS_waits | apply setSat_waits | apply lgvClean_waits | apply capFollow_waits
      | apply foldl_waits | (intro _))

theorem protectiveLowering_waits (c : Nat) {s : State} (hw : Waits s) : Waits (protectiveLowering c s) := by
  unfold protectiveLowering
  with_reducible repeat' (first
      | assumption | apply incF_waits | apply setB_waits | apply setF_waits | apply eventP_waits | apply ceilingFell_waits
      | apply setLgv_waits | dsimp only | split)

/-! ### Pxe.lean -/

theorem capture_waits (k : Nat) (e : PEv) {s : State} (hw : Waits s) : Waits (capture k e s) := by
  unfold capture
  with_reducible repeat' (first
      | assumption | apply setF_waits | apply setB_waits)

theorem captures_waits (k : Nat) (evs : List PEv) {s : State} (hw : Waits s) : Waits (captures k evs s) := by
  unfold captures
  with_reducible repeat' (first
      | assumption | apply capture_waits | apply setSat_waits | dsimp only | split)

theorem invalidOut_waits (k : Nat) (i : Nat) {s : State} (hw : Waits s) : Waits (invalidOut k i s) := by
  unfold invalidOut
  with_reducible repeat' (first
      | assumption | apply sendFault_waits | apply setB_waits | split)

theorem clampedOut_waits (k : Nat) (b : Bool) {s : State} (hw : Waits s) : Waits (clampedOut k b s) := by
  unfold clampedOut
  with_reducible repeat' (first
      | assumption | apply setB_waits | split)

theorem takeSlot3_waits {s : State} (hw : Waits s) : Waits (takeSlot3 s) := by
  unfold takeSlot3
  with_reducible repeat' (first
      | assumption | apply invalidOut_waits | apply setPxe_waits | apply setB_waits | apply clampedOut_waits
      | dsimp only | split)

theorem dropRun_waits (k : Nat) {s : State} (hw : Waits s) : Waits (dropRun k s) := by
  unfold dropRun
  with_reducible repeat' (first
      | assumption | apply setB_waits | apply setPxe_waits | dsimp only | split)

theorem setSlotSt_waits (k : Nat) (x : Nat) {s : State} (hw : Waits s) : Waits (setSlotSt k x s) := by
  unfold setSlotSt
  with_reducible repeat' (first
      | assumption | apply setF_waits)

theorem flagFault_waits (k : Nat) (r : PRun) (runs : Nat) {s : State} (f : Nat) (hw : Waits s) : Waits (flagFault k r runs s f) := by
  unfold flagFault
  with_reducible repeat' (first
      | assumption | apply sendFault_waits | split)

theorem mergeRun_waits (k : Nat) (r : PRun) {s : State} (hw : Waits s) : Waits (mergeRun k r s) := by
  unfold mergeRun
  with_reducible repeat' (first
      | assumption | apply setF_waits | apply captures_waits | apply flagFault_waits | apply foldl_waits)

theorem leaveRun_waits (k : Nat) (n : Nat) {s : State} (hw : Waits s) : Waits (leaveRun k n s) := by
  unfold leaveRun
  with_reducible repeat' (first
      | assumption | apply mergeRun_waits | apply setPxe_waits)

theorem abandonRun_waits (k : Nat) {s : State} (hw : Waits s) : Waits (abandonRun k s) := by
  unfold abandonRun
  with_reducible repeat' (first
      | assumption | apply dropRun_waits | apply leaveRun_waits | apply freeNext_waits | split)

theorem stopSlot_waits (k : Nat) (st : Nat) {s : State} (hw : Waits s) : Waits (stopSlot k st s) := by
  unfold stopSlot
  with_reducible repeat' (first
      | assumption | apply setSlotSt_waits | apply dropRun_waits | apply abandonRun_waits | apply setPxe_waits
      | dsimp only | split)

theorem memUncorrectable_waits (k : Nat) (addr : Nat) {s : State} (hw : Waits s) : Waits (memUncorrectable k addr s) := by
  unfold memUncorrectable
  with_reducible repeat' (first
      | assumption | apply sendFault_waits | apply setB_waits | apply dropRun_waits | apply stopSlot_waits
      | dsimp only | split)

theorem pxeMemUncorrectable_waits (k : Nat) (addr : Nat) (desc : Nat) {s : State} (hw : Waits s) : Waits (pxeMemUncorrectable k addr
    desc s) := by
  unfold pxeMemUncorrectable
  with_reducible repeat' (first
      | assumption | apply memUncorrectable_waits | apply leaveRun_waits | split)

theorem pxeOverrun_waits (k : Nat) (desc : Nat) {s : State} (hw : Waits s) : Waits (pxeOverrun k desc s) := by
  unfold pxeOverrun
  with_reducible repeat' (first
      | assumption | apply sendFault_waits | apply setB_waits | apply dropRun_waits | apply leaveRun_waits | split)

theorem takeSlot1_waits (meas : Nat → Int) {s : State} (hw : Waits s) : Waits (takeSlot1 meas s) := by
  unfold takeSlot1
  with_reducible repeat' (first
      | assumption | apply setPxe_waits | apply clampedOut_waits | apply setB_waits | apply invalidOut_waits
      | dsimp only | split)

theorem stopEngine_waits {s : State} (hw : Waits s) : Waits (stopEngine s) := by
  unfold stopEngine
  with_reducible repeat' (first
      | assumption | apply abandonRun_waits | apply foldl_waits | (intro _))

theorem memCorrected_waits (r : PRun) {s : State} (hw : Waits s) : Waits (memCorrected r s) := by
  unfold memCorrected
  with_reducible repeat' (first
      | assumption | apply sendFault_waits | apply incF_waits | apply foldl_waits | (intro _))

theorem publishRun_waits (k : Nat) (time : Nat) {s : State} (hw : Waits s) : Waits (publishRun k time s).1 := by
  unfold publishRun
  with_reducible repeat' (first
      | assumption | apply memCorrected_waits | apply memUncorrectable_waits | apply mergeRun_waits | apply setPxe_waits
      | apply setF_waits | apply setSat_waits | dsimp only | apply foldl_waits | split | (intro _))

theorem trigger_waits (k : Nat) {s : State} (hw : Waits s) : Waits (trigger k s) := by
  unfold trigger
  with_reducible repeat' (first
      | assumption | apply setPxe_waits | dsimp only | split)

theorem slot3Trigger_waits {s : State} (hw : Waits s) : Waits (slot3Trigger s) := by
  unfold slot3Trigger
  with_reducible repeat' (first
      | assumption | apply trigger_waits | apply setPxe_waits | dsimp only | split)

theorem slot1Trigger_waits {s : State} (hw : Waits s) : Waits (slot1Trigger s) := by
  unfold slot1Trigger
  with_reducible repeat' (first
      | assumption | apply trigger_waits | apply setPxe_waits | dsimp only | split)

theorem pxeStored_waits (a : Nat) (n : Nat) {s : State} (hw : Waits s) : Waits (pxeStored a n s) := by
  unfold pxeStored
  with_reducible repeat' (first
      | assumption | simp only [waits_mk_eq] | apply mk_waits)

theorem takeSlot2_waits (floor : Nat → Nat) (ceil : Nat → Nat) (budget : Nat) {s : State} (hw : Waits s) : Waits (takeSlot2 floor ceil
    budget s) := by
  unfold takeSlot2
  with_reducible repeat' (first
      | assumption | apply invalidOut_waits | apply clampedOut_waits | apply setB_waits | apply setPxe_waits
      | dsimp only | split)

theorem capRelease_waits (k : Nat) {s : State} (hw : Waits s) : Waits (capRelease k s) := by
  unfold capRelease
  with_reducible repeat' (first
      | assumption | apply setF_waits | apply setB_waits)

/-! ### Balance.lean -/

theorem stageGrant_waits (w : Nat) (act : Nat) (at_ : Option Nat) {s : State} (hw : Waits s) : Waits (stageGrant w act at_ s) := by
  unfold stageGrant
  with_reducible repeat' (first
      | assumption | apply pendHw_waits | apply setB_waits | apply setW_waits | dsimp only | split)

theorem stageOut_waits {s : State} (hw : Waits s) : Waits (stageOut s) := by
  unfold stageOut
  with_reducible repeat' (first
      | assumption | apply setBal_waits | apply stageGrant_waits | dsimp only | split)

theorem setRoundState_waits (x : Nat) {s : State} (hw : Waits s) : Waits (setRoundState x s) := by
  unfold setRoundState
  with_reducible repeat' (first
      | assumption | apply setF_waits)

theorem abandonRounds_waits {s : State} (hw : Waits s) : Waits (abandonRounds s) := by
  unfold abandonRounds
  with_reducible repeat' (first
      | assumption | apply setRoundState_waits | apply setBal_waits)

theorem balPrune_waits {s : State} (hw : Waits s) : Waits (balPrune s) := by
  unfold balPrune
  with_reducible repeat' (first
      | assumption | apply abandonRounds_waits | split)

theorem floorNext_waits {s : State} (hw : Waits s) : Waits (floorNext s) := by
  unfold floorNext
  with_reducible repeat' (first
      | assumption | apply stageGrant_waits | apply setBal_waits | dsimp only | split)

theorem balAgent_waits {s : State} (hw : Waits s) : Waits (balAgent s) := by
  unfold balAgent
  with_reducible repeat' (first
      | assumption | apply stageOut_waits | apply balPrune_waits | apply floorNext_waits | apply setBal_waits
      | dsimp only | split)

theorem setHeard_waits (i : Nat) {s : State} (hw : Waits s) : Waits (setHeard i s) := by
  unfold setHeard
  with_reducible repeat' (first
      | assumption | apply setW_waits)

theorem keyGraceEnd_waits (ctx : Nat) {s : State} (hw : Waits s) : Waits (keyGraceEnd ctx s) := by
  unfold keyGraceEnd
  with_reducible repeat' (first
      | assumption | apply setBal_waits | dsimp only | split)

theorem keyInstall_waits (ctx : Nat) (gen : Nat) (key : Nat) {s : State} (hw : Waits s) : Waits (keyInstall ctx gen key s) := by
  unfold keyInstall
  with_reducible repeat' (first
      | assumption | apply setBal_waits | apply setF_waits | dsimp only | split)

theorem sbCounterEnd_waits (p : Nat) {s : State} (hw : Waits s) : Waits (sbCounterEnd p s) := by
  unfold sbCounterEnd
  with_reducible repeat' (first
      | assumption | apply sendFault_waits | apply setBal_waits | dsimp only | split)

theorem outcomeFloor_waits (r : BalRound) {s : State} (hw : Waits s) : Waits (outcomeFloor r s) := by
  unfold outcomeFloor
  with_reducible repeat' (first
      | assumption | apply incF_waits | apply setF_waits | apply sendFault_waits | apply setBal_waits | dsimp only
      | split)

theorem replaceGrant_waits (w : Nat) {s : State} (hw : Waits s) : Waits (replaceGrant w s) := by
  unfold replaceGrant
  with_reducible repeat' (first
      | assumption | apply pendHw_waits)

theorem outcomeValue_waits (code : Nat) (w : Nat) {s : State} (hw : Waits s) : Waits (outcomeValue code w s) := by
  unfold outcomeValue
  with_reducible repeat' (first
      | assumption | apply setF_waits | apply replaceGrant_waits | apply setBal_waits)

theorem balDecide_waits (last : Bool) {s : State} (hw : Waits s) : Waits (balDecide last s) := by
  unfold balDecide
  with_reducible repeat' (first
      | assumption | apply setRoundState_waits | apply setBal_waits | apply outcomeFloor_waits | apply setB_waits
      | apply sendFault_waits | apply outcomeValue_waits | dsimp only | split)

theorem balFire_waits {s : State} (hw : Waits s) : Waits (balFire s) := by
  unfold balFire
  with_reducible repeat' (first
      | assumption | apply setW_waits | apply pxeStored_waits | apply setPxe_waits | apply setRoundState_waits
      | apply trigger_waits | apply setBal_waits | dsimp only | split)

theorem balOutcome_waits {s : State} (hw : Waits s) : Waits (balOutcome s) := by
  unfold balOutcome
  with_reducible repeat' (first
      | assumption | apply balDecide_waits | apply balFire_waits | apply balAgent_waits | split)

theorem relay_waits (p : Nat) (origin : Nat) (hops : Nat) (body : List Nat) {s : State} (hw : Waits s) : Waits (relay p origin hops
    body s) := by
  unfold relay
  with_reducible repeat' (first
      | assumption | apply setBal_waits | apply sealOn_waits | dsimp only | apply foldl_waits | split | (intro _))

theorem balStrobe_waits (ended : Nat) {s : State} (hw : Waits s) : Waits (balStrobe ended s) := by
  unfold balStrobe
  with_reducible repeat' (first
      | assumption | apply setRoundState_waits | apply setBal_waits | dsimp only | split)

theorem balCut_waits {s : State} (hw : Waits s) : Waits (balCut s) := by
  unfold balCut
  with_reducible repeat' (first
      | assumption | apply balDecide_waits | apply balPrune_waits | split)

theorem tagFail_waits (p : Nat) {s : State} (hw : Waits s) : Waits (tagFail p s) := by
  unfold tagFail
  with_reducible repeat' (first
      | assumption | apply incF_waits | apply sendFault_waits | apply setBal_waits | dsimp only | split)

theorem strayFrame_waits (f : List Nat) {s : State} (hw : Waits s) : Waits (strayFrame f s) := by
  unfold strayFrame
  with_reducible repeat' (first
      | assumption | apply sendFault_waits | apply setB_waits | apply stageGrant_waits | split)

theorem viewPut_waits (i : Nat) (f : List Nat) {s : State} (hw : Waits s) : Waits (viewPut i f s) := by
  unfold viewPut
  with_reducible repeat' (first
      | assumption | apply setF_waits | apply setS_waits)

theorem collect_waits (r : BalRound) (origin : Nat) (f : List Nat) {s : State} (hw : Waits s) : Waits (collect r origin f s) := by
  unfold collect
  with_reducible repeat' (first
      | assumption | apply setHeard_waits | apply viewPut_waits | apply setB_waits | apply sendFault_waits | apply setBal_waits
      | split)

theorem balFrameReceived_waits {s : State} (hw : Waits s) : Waits (balFrameReceived s) := by
  unfold balFrameReceived
  with_reducible repeat' (first
      | assumption | apply balAgent_waits | apply setBal_waits | apply strayFrame_waits | apply balFire_waits
      | apply collect_waits | dsimp only | split)

theorem balRoundBegin_waits {s : State} (hw : Waits s) : Waits (balRoundBegin s) := by
  unfold balRoundBegin
  with_reducible repeat' (first
      | assumption | apply balAgent_waits | apply stageGrant_waits | apply sealOn_waits | apply setW_waits | apply viewPut_waits
      | apply setRoundState_waits | apply incF_waits | apply setBal_waits | dsimp only | apply foldl_waits | split
      | (intro _))

theorem balPublish_waits {s : State} (hw : Waits s) : Waits (balPublish s) := by
  unfold balPublish
  with_reducible repeat' (first
      | assumption | apply takeSlot2_waits | apply setSat_waits | apply setBal_waits | dsimp only | apply foldl_waits
      | split | (intro _))

theorem sidebandReceived_waits (p : Nat) (hdr : List Nat) (body : List Nat) (tagOk : Bool) {s : State} (hw : Waits s) : Waits
    (sidebandReceived p hdr body tagOk s) := by
  unfold sidebandReceived
  with_reducible repeat' (first
      | assumption | apply tagFail_waits | apply incF_waits | apply setBal_waits | apply relay_waits | dsimp only
      | split)

theorem balClear_waits {s : State} (hw : Waits s) : Waits (balClear s) := by
  unfold balClear
  with_reducible repeat' (first
      | assumption | apply setBal_waits)

/-! ### Sense.lean -/

theorem setSns_waits (x : SnsState) {s : State} (hw : Waits s) : Waits (setSns x s) := by
  unfold setSns
  with_reducible repeat' (first
      | assumption | simp only [waits_mk_eq] | apply mk_waits)

theorem imonRange_waits (n : Nat) {s : State} (hw : Waits s) : Waits (imonRange n s) := by
  unfold imonRange
  with_reducible repeat' (first
      | assumption | apply sendFault_waits | apply askRetire_waits | apply setSns_waits | dsimp only | split)

theorem busXchkSuspect_waits {s : State} (hw : Waits s) : Waits (busXchkSuspect s) := by
  unfold busXchkSuspect
  with_reducible repeat' (first
      | assumption | apply sendFault_waits | apply setB_waits | dsimp only | split)

theorem measSuspectClear_waits {s : State} (hw : Waits s) : Waits (measSuspectClear s) := by
  unfold measSuspectClear
  with_reducible repeat' (first
      | assumption | apply setB_waits | split)

theorem sumsSample_waits {s : State} (hw : Waits s) : Waits (sumsSample s) := by
  unfold sumsSample
  with_reducible repeat' (first
      | assumption | apply setSns_waits)

theorem pointsSample_waits (pts : List Nat) {s : State} (hw : Waits s) : Waits (pointsSample pts s) := by
  unfold pointsSample
  with_reducible repeat' (first
      | assumption | apply setSns_waits | apply setF_waits | apply foldl_waits | (intro _))

theorem imonSample_waits (n : Nat) (code : Nat) {s : State} (hw : Waits s) : Waits (imonSample n code s) := by
  unfold imonSample
  with_reducible repeat' (first
      | assumption | apply setF_waits | apply setSatS_waits | apply setB_waits | apply setSns_waits | split)

theorem snsSample_waits (imon : List Nat) (pts : List Nat) {s : State} (hw : Waits s) : Waits (snsSample imon pts s) := by
  unfold snsSample
  with_reducible repeat' (first
      | assumption | apply sumsSample_waits | apply pointsSample_waits | apply imonSample_waits | apply foldl_waits | (intro _))

theorem activityFeature_waits (id : Nat) (v : Nat) {s : State} (hw : Waits s) : Waits (activityFeature id v s) := by
  unfold activityFeature
  with_reducible repeat' (first
      | assumption | apply setB_waits | apply setSns_waits | dsimp only | split)

theorem actStall_waits {s : State} (hw : Waits s) : Waits (actStall s) := by
  unfold actStall
  with_reducible repeat' (first
      | assumption | apply sendFault_waits | apply setSns_waits | dsimp only | split)

theorem tlmRound_waits {s : State} (hw : Waits s) : Waits (tlmRound s) := by
  unfold tlmRound
  with_reducible repeat' (first
      | assumption | apply setSns_waits)

theorem busSample_waits (v : Nat) (i : Nat) {s : State} (hw : Waits s) : Waits (busSample v i s) := by
  unfold busSample
  with_reducible repeat' (first
      | assumption | apply setSns_waits | apply busGood_waits | apply setF_waits)

theorem idleRuns_waits {s : State} (hw : Waits s) : Waits (idleRuns s) := by
  unfold idleRuns
  with_reducible repeat' (first
      | assumption | simp only [waits_mk_eq] | apply mk_waits)

theorem setEst_waits (x : EstState) {s : State} (hw : Waits s) : Waits (setEst x s) := by
  unfold setEst
  with_reducible repeat' (first
      | assumption | simp only [waits_mk_eq] | apply mk_waits)

theorem takeShot_waits {s : State} (hw : Waits s) : Waits (takeShot s) := by
  unfold takeShot
  with_reducible repeat' (first
      | assumption | apply beatWindow_waits | apply setEst_waits | simp only [waits_mk_eq] | apply mk_waits)

theorem tlmFrame_waits (slot : Nat) (frame : Nat) {s : State} (hw : Waits s) : Waits (tlmFrame slot frame s) := by
  unfold tlmFrame
  with_reducible repeat' (first
      | assumption | apply setSns_waits | dsimp only | split)

theorem pxeFeatures_waits {s : State} (hw : Waits s) : Waits (pxeFeatures s) := by
  unfold pxeFeatures
  with_reducible repeat' (first
      | assumption | apply injectAt_waits | apply setPxe_waits)

theorem senseSplit_waits {s : State} (hw : Waits s) : Waits (senseSplit s) := by
  unfold senseSplit
  with_reducible repeat' (first
      | assumption | apply sendFault_waits | apply setB_waits | apply setSns_waits | dsimp only | split)

theorem senseOpen_waits (p : Nat) {s : State} (hw : Waits s) : Waits (senseOpen p s) := by
  unfold senseOpen
  with_reducible repeat' (first
      | assumption | apply setF_waits | apply sendFault_waits | apply regate_waits | apply restEnds_waits | apply beginStop_waits
      | dsimp only | split)

theorem xchkRound_waits {s : State} (hw : Waits s) : Waits (xchkRound s) := by
  unfold xchkRound
  with_reducible repeat' (first
      | assumption | apply setSat_waits | apply setB_waits | apply setSns_waits | split)

theorem hksChannel_waits (conv : Assoc Nat) (c : Nat) {s : State} (hw : Waits s) : Waits (hksChannel conv c s) := by
  unfold hksChannel
  with_reducible repeat' (first
      | assumption | apply setF_waits | apply setB_waits | apply setSns_waits | apply setSat_waits | dsimp only
      | split)

theorem tlmSilent_waits (a : Nat) {s : State} (hw : Waits s) : Waits (tlmSilent a s) := by
  unfold tlmSilent
  with_reducible repeat' (first
      | assumption | apply sendFault_waits | apply setSns_waits | dsimp only | split)

theorem busVRange_waits {s : State} (hw : Waits s) : Waits (busVRange s) := by
  unfold busVRange
  with_reducible repeat' (first
      | assumption | apply sendFault_waits | apply setSns_waits | dsimp only | split)

theorem windowDone_waits (late : Nat) {s : State} (hw : Waits s) : Waits (windowDone late s) := by
  unfold windowDone
  with_reducible repeat' (first
      | assumption | apply setSns_waits | apply setSat_waits | apply setF_waits | apply trigger_waits | apply idleRuns_waits
      | apply pxeFeatures_waits | apply setEst_waits | dsimp only | split)

theorem windowStale_waits (late : Nat) {s : State} (hw : Waits s) : Waits (windowStale late s) := by
  unfold windowStale
  with_reducible repeat' (first
      | assumption | apply windowDone_waits | split)

theorem hksPublish_waits (conv : List (Nat × Nat)) {s : State} (hw : Waits s) : Waits (hksPublish conv s) := by
  unfold hksPublish
  with_reducible repeat' (first
      | assumption | apply setF_waits | apply hksChannel_waits | apply foldl_waits | (intro _))

theorem hksInvalid_waits (c : Nat) {s : State} (hw : Waits s) : Waits (hksInvalid c s) := by
  unfold hksInvalid
  with_reducible repeat' (first
      | assumption | apply sendFault_waits | apply setSns_waits | dsimp only | split)

theorem pxeThermal_waits (maxima : Nat → Int) {s : State} (hw : Waits s) : Waits (pxeThermal maxima s) := by
  unfold pxeThermal
  with_reducible repeat' (first
      | assumption | apply pxeStored_waits | apply setPxe_waits)

/-! ### Rest.lean -/

theorem setSta_waits (a : StaState) {s : State} (hw : Waits s) : Waits (setSta a s) := by
  unfold setSta
  with_reducible repeat' (first
      | assumption | simp only [waits_mk_eq] | apply mk_waits)

theorem boundShow_waits {s : State} (hw : Waits s) : Waits (boundShow s) := by
  unfold boundShow
  with_reducible repeat' (first
      | assumption | apply setSat_waits)

theorem hbStop_waits {s : State} (hw : Waits s) : Waits (hbStop s) := by
  unfold hbStop
  with_reducible repeat' (first
      | assumption | apply setB_waits)

theorem safeEnter_waits (cause : Nat) {s : State} (hw : Waits s) : Waits (safeEnter cause s) := by
  unfold safeEnter
  with_reducible repeat' (first
      | assumption | apply setSta_waits | apply setF_waits | apply setB_waits | apply event_waits | apply sendFault_waits
      | apply fixedCheck_waits | apply lgvSafe_waits | apply boundShow_waits | apply refreshRate_waits | apply applySelect_waits
      | apply hbStop_waits | apply addAct_waits | dsimp only | split)

theorem restSample_waits {s : State} (hw : Waits s) : Waits (restSample s) := by
  unfold restSample
  with_reducible repeat' (first
      | assumption | apply setSta_waits | dsimp only | split)

theorem safeAsk_waits (cause : Nat) {s : State} (hw : Waits s) : Waits (safeAsk cause s) := by
  unfold safeAsk
  with_reducible repeat' (first
      | assumption | apply setSta_waits | dsimp only | split)

theorem enterSafe_waits (val : Nat) {s : State} (hw : Waits s) : Waits (enterSafe val s) := by
  unfold enterSafe
  with_reducible repeat' (first
      | assumption | apply safeAsk_waits | split)

theorem wakeBegin_waits {s : State} (hw : Waits s) : Waits (wakeBegin s) := by
  unfold wakeBegin
  with_reducible repeat' (first
      | assumption | apply boundShow_waits | apply applySelect_waits | apply setSta_waits | apply setF_waits
      | apply retarget_waits | apply slotBegin_waits | apply setStop_waits | apply railOff_waits | dsimp only
      | apply foldl_waits | split | (intro _))

theorem staWake_waits (val : Nat) {s : State} (hw : Waits s) : Waits (staWake val s) := by
  unfold staWake
  with_reducible repeat' (first
      | assumption | apply wakeBegin_waits | split)

theorem restMark_waits (t : Nat) {s : State} (hw : Waits s) : Waits (restMark t s) := by
  unfold restMark
  with_reducible repeat' (first
      | assumption | apply stopEngine_waits | apply regate_waits | apply setF_waits | apply incF_waits | apply event_waits | split)

theorem srConfirmed_waits {s : State} (hw : Waits s) : Waits (srConfirmed s) := by
  unfold srConfirmed
  with_reducible repeat' (first
      | assumption | apply setSta_waits | apply restMark_waits | apply stopNext_waits | apply setStop_waits | apply setB_waits
      | dsimp only | split)

theorem exitDone_waits {s : State} (hw : Waits s) : Waits (exitDone s) := by
  unfold exitDone
  with_reducible repeat' (first
      | assumption | apply setSat_waits | apply setF_waits | apply event_waits | apply sendFault_waits | apply setB_waits
      | apply setRailSt_waits | apply regate_waits | apply setSta_waits | apply releaseBeats_waits | dsimp only
      | split)

theorem restWake_waits {s : State} (hw : Waits s) : Waits (restWake s) := by
  unfold restWake
  with_reducible repeat' (first
      | assumption | apply wakeBegin_waits | split)

theorem lateWake_waits {s : State} (hw : Waits s) : Waits (lateWake s) := by
  unfold lateWake
  with_reducible repeat' (first
      | assumption | apply incF_waits | apply setB_waits | apply event_waits | apply holdBeats_waits | apply regate_waits
      | apply wakeBegin_waits | apply setSta_waits | dsimp only | split)

theorem safeStateEnter_waits {s : State} (hw : Waits s) : Waits (safeStateEnter s) := by
  unfold safeStateEnter
  with_reducible repeat' (first
      | assumption | apply safeEnter_waits | split)

theorem restEnter_waits {s : State} (hw : Waits s) : Waits (restEnter s) := by
  unfold restEnter
  with_reducible repeat' (first
      | assumption | apply restMark_waits | apply setSta_waits | apply retarget_waits | apply setRailSt_waits
      | dsimp only | split)

theorem srTimeout_waits {s : State} (hw : Waits s) : Waits (srTimeout s) := by
  unfold srTimeout
  with_reducible repeat' (first
      | assumption | apply sendFault_waits | apply setB_waits | apply setSta_waits | dsimp only | split)

/-! ### Ring.lean -/

theorem gateClose_waits (agent : Nat) {s : State} (h : Waits s) : Waits (gateClose agent s) := by
  unfold gateClose
  split
  · exact h
  · exact setB_waits _ _ (by simp [h, aSorted_foldl_aIns])

theorem setupReject_waits (q : Nat) (reason : Nat) {s : State} (hw : Waits s) : Waits (setupReject q reason s) := by
  unfold setupReject
  with_reducible repeat' (first
      | assumption | apply setB_waits | apply setF_waits)

theorem setRingSt_waits (q : Nat) (x : Nat) {s : State} (hw : Waits s) : Waits (setRingSt q x s) := by
  unfold setRingSt
  with_reducible repeat' (first
      | assumption | apply setF_waits)

theorem ringEnable_waits (q : Nat) (base : Nat) (lg : Nat) {s : State} (hw : Waits s) : Waits (ringEnable q base lg s) := by
  unfold ringEnable
  with_reducible repeat' (first
      | assumption | apply setupReject_waits | apply setF_waits | apply setB_waits | apply setRingSt_waits | apply setCmd_waits
      | apply Waits.pkts | dsimp only | split)

theorem ringRoom_waits (q : Nat) {s : State} (hw : Waits s) : Waits (ringRoom q s) := by
  unfold ringRoom
  with_reducible repeat' (first
      | assumption | apply setRingSt_waits | split)

theorem raiseVec_waits (v : Nat) {s : State} (hw : Waits s) : Waits (raiseVec v s) := by
  unfold raiseVec
  with_reducible repeat' (first
      | assumption | apply setCmd_waits | apply Waits.pkts)

theorem complete_waits (q : Nat) (seq : Nat) (status : Nat) (applied : Nat) (detail : Nat) (irq : Bool) {s : State} (hw : Waits s) :
    Waits (complete q seq status applied detail irq s) := by
  unfold complete
  with_reducible repeat' (first
      | assumption | apply setCmd_waits | apply Waits.pkts | apply setF_waits | apply sramStore_waits | apply raiseVec_waits
      | dsimp only | split)

theorem pktComplete_waits (p : OutPkt) (status : Nat) (applied : Nat) (detail : Nat) {s : State} (hw : Waits s) : Waits (pktComplete p
    status applied detail s) := by
  unfold pktComplete
  with_reducible repeat' (first
      | assumption | apply ringRoom_waits | apply complete_waits | apply pktDrop_waits)

theorem gateDiscard_waits {s : State} (h : Waits s) : Waits (gateDiscard s) := by
  unfold gateDiscard
  split
  · exact h
  · exact setB_waits _ _ (setB_waits _ _ (sendFault_waits _ _ _ (foldl_waits (fun _ _ ht => settleKey_waits _ ht) (by simp [h]))))


theorem ringReset_waits (q : Nat) {s : State} (hw : Waits s) : Waits (ringReset q s) := by
  unfold ringReset
  with_reducible repeat' (first
      | assumption | apply setCmd_waits | apply Waits.pkts | apply setF_waits | apply setB_waits | apply setRingSt_waits
      | dsimp only | split)

theorem mbxRead_waits (agent : Nat) (m : Nat) {s : State} (hw : Waits s) : Waits (mbxRead agent m s).1 := by
  unfold mbxRead
  with_reducible repeat' (first
      | assumption | apply setB_waits | split)

theorem cqHeadWrite_waits (agent : Nat) (q : Nat) (val : Nat) {s : State} (hw : Waits s) : Waits (cqHeadWrite agent q val s) := by
  unfold cqHeadWrite
  with_reducible repeat' (first
      | assumption | apply ringRoom_waits | apply setF_waits | split)

theorem ringDoorbell_waits (agent : Nat) (q : Nat) (val : Nat) {s : State} (hw : Waits s) : Waits (ringDoorbell agent q val s) := by
  unfold ringDoorbell
  with_reducible repeat' (first
      | assumption | apply setF_waits | apply setCmd_waits | apply Waits.pkts | apply incF_waits | dsimp only | split)

theorem served_waits (q : Nat) {s : State} (hw : Waits s) : Waits (served q s) := by
  unfold served
  with_reducible repeat' (first
      | assumption | apply setCmd_waits | apply Waits.pkts | dsimp only | split)

theorem gateOpen_waits (agent : Nat) {s : State} (hw : Waits s) : Waits (gateOpen agent s) := by
  unfold gateOpen
  with_reducible repeat' (first
      | assumption | apply setB_waits | split)

theorem ringDisable_waits (q : Nat) {s : State} (hw : Waits s) : Waits (ringDisable q s) := by
  unfold ringDisable
  with_reducible repeat' (first
      | assumption | apply setupReject_waits | apply setB_waits | apply setRingSt_waits | split)

theorem ringCfgWrite_waits (agent : Nat) (q : Nat) (val : Nat) {s : State} (hw : Waits s) : Waits (ringCfgWrite agent q val s) := by
  unfold ringCfgWrite
  with_reducible repeat' (first
      | assumption | apply setF_waits | apply ringReset_waits | apply ringEnable_waits | apply ringDisable_waits
      | dsimp only | split)

theorem ringCqWrite_waits (agent : Nat) (q : Nat) (val : Nat) {s : State} (hw : Waits s) : Waits (ringCqWrite agent q val s) := by
  unfold ringCqWrite
  with_reducible repeat' (first
      | assumption | apply setF_waits | split)

theorem mbxWrite_waits (agent : Nat) (m : Nat) (w : Nat) {s : State} (hw : Waits s) : Waits (mbxWrite agent m w s) := by
  unfold mbxWrite
  with_reducible repeat' (first
      | assumption | apply incF_waits | apply setB_waits | apply setF_waits | apply raiseVec_waits | dsimp only
      | split)

theorem mbxAnswer_waits (m : Nat) (mine : Nat → Bool) (reply : Nat → Nat) {s : State} (hw : Waits s) : Waits (mbxAnswer m mine reply s)
    := by
  unfold mbxAnswer
  with_reducible repeat' (first
      | assumption | apply mbxWrite_waits | apply mbxRead_waits | split)

theorem pktDone_waits (id : Nat) (status : Nat) (applied : Nat) (detail : Nat) {s : State} (hw : Waits s) : Waits (pktDone id status
    applied detail s) := by
  unfold pktDone
  with_reducible repeat' (first
      | assumption | apply pktUpd_waits | exact fun _ => rfl)

theorem ringAll_waits {s : State} (hw : Waits s) : Waits (ringAll s) := by
  unfold ringAll
  with_reducible repeat' (first
      | assumption | apply setCmd_waits | apply Waits.pkts)

/-! ### Transfer.lean -/

theorem endXfer_waits (t : Nat) {s : State} (hw : Waits s) : Waits (endXfer t s) := by
  unfold endXfer
  with_reducible repeat' (first
      | assumption | apply setCmd_waits | apply Waits.pkts)

theorem planCommit_waits (m : Mem) {s : State} (hw : Waits s) : Waits (planCommit m s) := by
  unfold planCommit
  with_reducible repeat' (first
      | assumption | apply setB_waits | apply setW_waits | apply setF_waits | apply injectAt_waits | apply addActNext_waits
      | simp only [waits_mk_eq] | apply mk_waits | apply foldl_waits | split | (intro _))

theorem progLoadStatus_waits (slot : Nat) (detail : Nat) (index : Nat) (loading : Bool) {s : State} (hw : Waits s) : Waits
    (progLoadStatus slot detail index loading s) := by
  unfold progLoadStatus
  with_reducible repeat' (first
      | assumption | apply setB_waits | apply setF_waits)

theorem abandonXfer_waits (t : Nat) (g : Target) {s : State} (hg : ∀ u, Waits u → Waits (g.abandon u)) (h : Waits s) :
    Waits (abandonXfer t g s) := by
  unfold abandonXfer
  with_reducible repeat' (first
      | assumption | apply hg | apply endXfer_waits | split)

theorem takeBlock_waits (t : Nat) (g : Target) (off : Nat) (data : List Nat) {s : State}
    (hp : ∀ m u, Waits u → Waits (g.pass m u)) (hf : ∀ d u, Waits u → Waits (g.fail d u))
    (hw : ∀ m u, Waits u → Waits (g.whole m u).1) (ha : ∀ u, Waits u → Waits (g.abandon u))
    (hl : ∀ u, Waits u → Waits (g.lost u)) (h : Waits s) : Waits (takeBlock t g off data s).1 := by
  unfold takeBlock
  with_reducible repeat' (first
      | assumption | apply hp | apply hf | apply hw | apply hl | apply setXfer_waits | apply endXfer_waits
      | apply abandonXfer_waits _ _ ha | split | dsimp only)

theorem progCommit_waits (slot : Nat) (m : Mem) {s : State} (hw : Waits s) : Waits (progCommit slot m s) := by
  unfold progCommit
  with_reducible repeat' (first
      | assumption | apply pxeStored_waits | apply setPxe_waits | apply setF_waits | apply setSlotSt_waits
      | apply addActNext_waits | apply setB_waits | dsimp only | apply foldl_waits | split | (intro _))

theorem planLoadStatus_waits (detail : Nat) (half : Nat) (index : Nat) (loading : Bool) {s : State} (hw : Waits s) : Waits
    (planLoadStatus detail half index loading s) := by
  unfold planLoadStatus
  with_reducible repeat' (first
      | assumption | apply setB_waits | apply setF_waits)

theorem planTarget_waits {u : State} (h : Waits u) : (∀ m, Waits (planTarget.pass m u)) ∧ (∀ d, Waits (planTarget.fail d u)) ∧
    (∀ m, Waits (planTarget.whole m u).1) ∧ Waits (planTarget.abandon u) ∧ Waits (planTarget.lost u) := by
  refine ⟨fun m => setB_waits _ _ (setF_waits _ _ h), fun d => planLoadStatus_waits _ _ _ _ h, fun m => ?_, setB_waits _ _ h,
    setF_waits _ _ h⟩
  unfold planTarget; dsimp only; split
  · exact planLoadStatus_waits _ _ _ _ h
  · exact planCommit_waits _ (planLoadStatus_waits _ _ _ _ h)

theorem progTarget_waits (slot : Nat) {u : State} (h : Waits u) : (∀ m, Waits ((progTarget slot).pass m u)) ∧
    (∀ d, Waits ((progTarget slot).fail d u)) ∧ (∀ m, Waits ((progTarget slot).whole m u).1) ∧
    Waits ((progTarget slot).abandon u) ∧ Waits ((progTarget slot).lost u) := by
  refine ⟨fun m => setB_waits _ _ (setF_waits _ _ (stopSlot_waits _ _ h)), fun d => progLoadStatus_waits _ _ _ _ h, fun m => ?_,
    setB_waits _ _ (setSlotSt_waits _ _ h), setF_waits _ _ (setF_waits _ _ h)⟩
  unfold progTarget; dsimp only; split
  · exact progCommit_waits _ _ (progLoadStatus_waits _ _ _ _ h)
  · exact progLoadStatus_waits _ _ _ _ (setSlotSt_waits _ _ h)

/-! ### Recorder.lean -/

theorem retirePrev_waits {s : State} (hw : Waits s) : Waits (retirePrev s) := by
  unfold retirePrev
  with_reducible repeat' (first
      | assumption | apply setB_waits | apply setEvr_waits | apply event_waits | dsimp only | split)

theorem restoreStaged_waits {s : State} (hw : Waits s) : Waits (restoreStaged s) := by
  unfold restoreStaged
  with_reducible repeat' (first
      | assumption | apply retirePrev_waits | apply setF_waits | apply setEvr_waits | dsimp only | apply foldl_waits
      | (intro _))

theorem addLost_waits (first : Nat) (n : Nat) {s : State} (hw : Waits s) : Waits (addLost first n s) := by
  unfold addLost
  with_reducible repeat' (first
      | assumption | apply setEvr_waits)

theorem setLast_waits (g : Gran) {s : State} (hw : Waits s) : Waits (setLast g s) := by
  unfold setLast
  with_reducible repeat' (first
      | assumption | apply setEvr_waits)

theorem showOldest_waits {s : State} (hw : Waits s) : Waits (showOldest s) := by
  unfold showOldest
  with_reducible repeat' (first
      | assumption | apply setF_waits | apply setW_waits | split)

theorem keepBound_waits {s : State} (hw : Waits s) : Waits (keepBound s) := by
  unfold keepBound
  with_reducible repeat' (first
      | assumption | apply setEvr_waits | dsimp only | split)

theorem storeRec_waits (typ : Nat) (body : List Nat) {s : State} (hw : Waits s) : Waits (storeRec typ body s) := by
  unfold storeRec
  with_reducible repeat' (first
      | assumption | apply injectAt_waits | apply setEvr_waits | apply setLast_waits | apply setF_waits | apply setW_waits
      | apply showOldest_waits | apply keepBound_waits | dsimp only | split)

theorem epochRec_waits (reason : Nat) {s : State} (hw : Waits s) : Waits (epochRec reason s) := by
  unfold epochRec
  with_reducible repeat' (first
      | assumption | apply storeRec_waits | apply setEvr_waits)

theorem markFlushed_waits (slots : List Nat) {s : State} (hw : Waits s) : Waits (markFlushed slots s) := by
  unfold markFlushed
  with_reducible repeat' (first
      | assumption | apply setEvr_waits)

theorem giveUp_waits (l : List Gran) {s : State} (hw : Waits s) : Waits (giveUp l s) := by
  unfold giveUp
  with_reducible repeat' (first
      | assumption | apply addLost_waits | apply markFlushed_waits | apply foldl_waits | (intro _))

theorem eraseGran_waits (i : Nat) {s : State} (hw : Waits s) : Waits (eraseGran i s) := by
  unfold eraseGran
  with_reducible repeat' (first
      | assumption | apply setEvr_waits | apply setF_waits | dsimp only | split)

theorem eraseAhead_waits {s : State} (hw : Waits s) : Waits (eraseAhead s) := by
  unfold eraseAhead
  with_reducible repeat' (first
      | assumption | apply setF_waits | apply eraseGran_waits | split)

theorem lossSeen_waits (n : Nat) (reason : Nat) {s : State} (hw : Waits s) : Waits (lossSeen n reason s) := by
  unfold lossSeen
  with_reducible repeat' (first
      | assumption | apply sendFault_waits | apply setB_waits)

theorem openGran_waits {s : State} (hw : Waits s) : Waits (openGran s) := by
  unfold openGran
  with_reducible repeat' (first
      | assumption | apply addLost_waits | apply setEvr_waits | dsimp only | split)

theorem closeGran_waits {s : State} (hw : Waits s) : Waits (closeGran s) := by
  unfold closeGran
  with_reducible repeat' (first
      | assumption | apply storeRec_waits | apply setEvr_waits | dsimp only | split)

theorem roomFor_waits (n : Nat) {s : State} (hw : Waits s) : Waits (roomFor n s) := by
  unfold roomFor
  with_reducible repeat' (first
      | assumption | apply epochRec_waits | apply openGran_waits | apply closeGran_waits | dsimp only | split)

theorem watchHits_waits (q : Nat) (typ : Nat) (ev : Nat) {s : State} (hw : Waits s) : Waits (watchHits q typ ev s) := by
  unfold watchHits
  with_reducible repeat' (first
      | assumption | apply incF_waits | apply setEvr_waits | dsimp only | apply foldl_waits | split | (intro _))

theorem putRec_waits (typ : Nat) (ev : Nat) (body : List Nat) {s : State} (hw : Waits s) : Waits (putRec typ ev body s) := by
  unfold putRec
  with_reducible repeat' (first
      | assumption | apply roomFor_waits | apply watchHits_waits | apply storeRec_waits)

theorem inputLoss_waits {s : State} (hw : Waits s) : Waits (inputLoss s) := by
  unfold inputLoss
  with_reducible repeat' (first
      | assumption | apply lossSeen_waits | apply putRec_waits | simp only [waits_mk_eq] | apply mk_waits | split)

theorem markDone_waits (a : Arrival) (detail : Nat) {s : State} (hw : Waits s) : Waits (markDone a detail s) := by
  unfold markDone
  with_reducible repeat' (first
      | assumption | apply pktComplete_waits | split)

theorem takeRec_waits (a : Arrival) {s : State} (hw : Waits s) : Waits (takeRec a s) := by
  unfold takeRec
  with_reducible repeat' (first
      | assumption | apply markDone_waits | apply freeNext_waits | apply incF_waits | apply roomFor_waits | apply putRec_waits
      | dsimp only | split)

theorem acceptRec_waits (a : Arrival) {s : State} (hw : Waits s) : Waits (acceptRec a s) := by
  unfold acceptRec
  with_reducible repeat' (first
      | assumption | apply inputLoss_waits | apply takeRec_waits)

theorem recordPost_waits {s : State} (hw : Waits s) : Waits (recordPost s) := by
  unfold recordPost
  with_reducible repeat' (first
      | assumption | apply acceptRec_waits | simp only [waits_mk_eq] | apply mk_waits | split)

theorem nextSeal_waits {s : State} (hw : Waits s) : Waits (nextSeal s) := by
  unfold nextSeal
  with_reducible repeat' (first
      | assumption | apply setW_waits | apply setEvr_waits | dsimp only | split)

theorem sealGran_waits (b : List Nat) {s : State} (hw : Waits s) : Waits (sealGran b s) := by
  unfold sealGran
  with_reducible repeat' (first
      | assumption | apply setEvr_waits | apply nextSeal_waits | apply setF_waits)

theorem writeHead_waits {s : State} (hw : Waits s) : Waits (writeHead s) := by
  unfold writeHead
  with_reducible repeat' (first
      | assumption | apply keepBound_waits | apply setW_waits | apply sealGran_waits | apply setEvr_waits | apply lossSeen_waits
      | dsimp only | apply foldl_waits | split | (intro _))

theorem snapSplit_waits {s : State} (hw : Waits s) : Waits (snapSplit s) := by
  unfold snapSplit
  with_reducible repeat' (first
      | assumption | apply setEvr_waits)

theorem keyRotate_waits {s : State} (hw : Waits s) : Waits (keyRotate s) := by
  unfold keyRotate
  with_reducible repeat' (first
      | assumption | apply freeNext_waits | apply setEvr_waits | apply setF_waits | apply event_waits | apply setB_waits
)

theorem ownRec_waits (typ : Nat) (body : List Nat) {s : State} (hw : Waits s) : Waits (ownRec typ body s) := by
  unfold ownRec
  with_reducible repeat' (first
      | assumption | apply postRec_waits)

theorem writeSlot_waits (slot : Nat) {s : State} (hw : Waits s) : Waits (writeSlot slot s) := by
  unfold writeSlot
  with_reducible repeat' (first
      | assumption | apply markFlushed_waits | apply sealGran_waits | apply setW_waits | dsimp only | split)

theorem flushAnswer_waits (full : Bool) (grans : Nat) (recs : Nat) {s : State} (hw : Waits s) : Waits (flushAnswer full grans recs s)
    := by
  unfold flushAnswer
  with_reducible repeat' (first
      | assumption | apply pktComplete_waits | apply foldl_waits | split | (intro _))

theorem hoursSave_waits {s : State} (hw : Waits s) : Waits (hoursSave s) := by
  unfold hoursSave
  with_reducible repeat' (first
      | assumption | apply setEvr_waits)

theorem bufBad_waits (off : Nat) {s : State} (hw : Waits s) : Waits (bufBad off s) := by
  unfold bufBad
  with_reducible repeat' (first
      | assumption | apply setB_waits | apply sendFault_waits)

theorem skipBad_waits {s : State} (hw : Waits s) : Waits (skipBad s) := by
  unfold skipBad
  with_reducible repeat' (first
      | assumption | apply giveUp_waits | apply bufBad_waits | apply foldl_waits | split | (intro _))

theorem flushStart_waits (trig : Nat) {s : State} (hw : Waits s) : Waits (flushStart trig s) := by
  unfold flushStart
  with_reducible repeat' (first
      | assumption | apply skipBad_waits | apply closeGran_waits | apply setB_waits | apply setEvr_waits | apply markFlushed_waits
      | apply giveUp_waits | dsimp only | split)

theorem flushDone_waits (ok : Option Nat) {s : State} (h : Waits s) : Waits (flushDone ok s) := by
  unfold flushDone
  split
  · exact h
  extract_lets h0 total n slots recs s1 s2 s3 stuck full s4 again e5 s5
  have h1 : Waits s1 := ite_waits (foldl_waits (fun t x ht => ite_waits (addLost_waits _ _ ht) ht) h) (writeHead_waits h)
  have h2 : Waits s2 := foldl_waits (fun t x ht => writeSlot_waits _ ht) h1
  have h3 : Waits s3 := ite_waits (setB_waits _ _ (sendFault_waits _ _ _ h2)) (ite_waits (setB_waits _ _ h2) h2)
  have h4 : Waits s4 := flushAnswer_waits _ _ _ (event_waits _ _ (hoursSave_waits h3))
  have h5 : Waits s5 := setB_waits _ _ (setEvr_waits _ h4)
  exact ite_waits h5 (flushStart_waits _ h5)

theorem flushBegin_waits (trig : Nat) {s : State} (hw : Waits s) : Waits (flushBegin trig s) := by
  unfold flushBegin
  with_reducible repeat' (first
      | assumption | apply flushStart_waits | apply setEvr_waits | dsimp only | split)

theorem flushNow_waits (trig : Nat) {s : State} (hw : Waits s) : Waits (flushNow trig s) := by
  unfold flushNow
  with_reducible repeat' (first
      | assumption | apply flushDone_waits | apply flushBegin_waits)

theorem flushMinEnd_waits {s : State} (hw : Waits s) : Waits (flushMinEnd s) := by
  unfold flushMinEnd
  with_reducible repeat' (first
      | assumption | apply flushBegin_waits | apply setB_waits | apply setEvr_waits | dsimp only | split)

theorem evrWinRead_waits (agent : Nat) (i : Nat) (tag : Bool) {s : State} (hw : Waits s) : Waits (evrWinRead agent i tag s) := by
  unfold evrWinRead
  with_reducible repeat' (first
      | assumption | apply sendFault_waits | apply setB_waits | apply bufBad_waits | dsimp only | split)

theorem snapWrite_waits (n : Snap) {s : State} (hw : Waits s) : Waits (snapWrite n s) := by
  unfold snapWrite
  with_reducible repeat' (first
      | assumption | apply ownRec_waits | dsimp only | split)

theorem snapRead_waits (peek : State → Nat → Nat) (w : Nat) (m : Nat) {s : State} (hw : Waits s) : Waits (snapRead peek w m s) := by
  unfold snapRead
  with_reducible repeat' (first
      | assumption | apply setEvr_waits | apply snapWrite_waits | dsimp only | split)

theorem epochPeriodic_waits {s : State} (hw : Waits s) : Waits (epochPeriodic s) := by
  unfold epochPeriodic
  with_reducible repeat' (first
      | assumption | apply roomFor_waits | apply epochRec_waits | dsimp only | split)

theorem watchSet_waits (w : Nat) (ev : Nat) (offs : List Nat) {s : State} (hw : Waits s) : Waits (watchSet w ev offs s) := by
  unfold watchSet
  with_reducible repeat' (first
      | assumption | apply setF_waits | apply setEvr_waits | apply ownRec_waits | dsimp only | apply foldl_waits
      | split | (intro _))

theorem migrateGran_waits (opens : Bool) (stop : Bool) {s : State} (hw : Waits s) : Waits (migrateGran opens stop s) := by
  unfold migrateGran
  with_reducible repeat' (first
      | assumption | apply setEvr_waits | apply retirePrev_waits | apply sendFault_waits | apply incF_waits
      | apply eraseGran_waits | apply nextSeal_waits | apply setF_waits | dsimp only | split)

theorem faultFlush_waits {s : State} (hw : Waits s) : Waits (faultFlush s) := by
  unfold faultFlush
  with_reducible repeat' (first
      | assumption | apply setB_waits | apply flushBegin_waits | apply setEvr_waits | dsimp only | split)

/-! ### Collector.lean -/

theorem selfFault_waits (info : Nat) {s : State} (hw : Waits s) : Waits (selfFault info s) := by
  unfold selfFault
  with_reducible repeat' (first
      | assumption | apply setB_waits | apply flushBegin_waits | apply safeEnter_waits | apply putRec_waits
      | simp only [waits_mk_eq] | apply mk_waits | split)

theorem overflowMsg_waits {s : State} (hw : Waits s) : Waits (overflowMsg s) := by
  unfold overflowMsg
  with_reducible repeat' (first
      | assumption | apply sendFault_waits | simp only [waits_mk_eq] | apply mk_waits | split)

theorem showSevere_waits {s : State} (hw : Waits s) : Waits (showSevere s) := by
  unfold showSevere
  with_reducible repeat' (first
      | assumption | apply setB_waits | apply setF_waits)

theorem severeAct_waits (action : Nat) {s : State} (hw : Waits s) : Waits (severeAct action s) := by
  unfold severeAct
  with_reducible repeat' (first
      | assumption | apply raiseVec_waits | apply faultFlush_waits | apply safeAsk_waits | dsimp only | split)

theorem setFlc_waits (f : FlcState) {s : State} (hw : Waits s) : Waits (setFlc f s) := by
  unfold setFlc
  with_reducible repeat' (first
      | assumption | simp only [waits_mk_eq] | apply mk_waits)

theorem makeSevere_waits (src : Nat) (kind : Nat) (word : Nat) (ageMs : Nat) {s : State} (hw : Waits s) : Waits (makeSevere src kind
    word ageMs s) := by
  unfold makeSevere
  with_reducible repeat' (first
      | assumption | apply showSevere_waits | apply setF_waits | apply putRec_waits | apply severeAct_waits | apply setFlc_waits)

theorem takeMsg_waits (a : Arrival) (word : Nat) {s : State} (hw : Waits s) : Waits (takeMsg a word s) := by
  unfold takeMsg
  with_reducible repeat' (first
      | assumption | apply incF_waits | apply setFlc_waits | apply setF_waits | dsimp only | split)

theorem hbKick_waits (agent : Nat) {s : State} (hw : Waits s) : Waits (hbKick agent s) := by
  unfold hbKick
  with_reducible repeat' (first
      | assumption | apply setFlc_waits | apply setB_waits | dsimp only | split)

theorem hbTimeout_waits {s : State} (hw : Waits s) : Waits (hbTimeout s) := by
  unfold hbTimeout
  with_reducible repeat' (first
      | assumption | apply setB_waits | split)

theorem safeNow_waits (cause : Nat) {s : State} (hw : Waits s) : Waits (safeNow cause s) := by
  unfold safeNow
  with_reducible repeat' (first
      | assumption | apply safeEnter_waits | apply flushBegin_waits | split)

theorem safeDueEnter_waits {s : State} (hw : Waits s) : Waits (safeDueEnter s) := by
  unfold safeDueEnter
  with_reducible repeat' (first
      | assumption | apply safeNow_waits | split)

theorem hbToggle_waits {s : State} (hw : Waits s) : Waits (hbToggle s) := by
  unfold hbToggle
  with_reducible repeat' (first
      | assumption | apply setB_waits | apply setFlc_waits | dsimp only | split)

theorem flcInject_waits (agent : Nat) (val : Nat) {s : State} (hw : Waits s) : Waits (flcInject agent val s) := by
  unfold flcInject
  with_reducible repeat' (first
      | assumption | apply setF_waits | split)

theorem severeClear_waits (agent : Nat) (v : Nat) (val : Nat) {s : State} (hw : Waits s) : Waits (severeClear agent v val s) := by
  unfold severeClear
  with_reducible repeat' (first
      | assumption | apply setF_waits | apply showSevere_waits | apply setFlc_waits | dsimp only | split)

theorem countMsg_waits (src : Nat) (kind : Nat) (word : Nat) {s : State} (hw : Waits s) : Waits (countMsg src kind word s) := by
  unfold countMsg
  with_reducible repeat' (first
      | assumption | apply selfFault_waits | apply injectAt_waits | apply setFlc_waits | apply makeSevere_waits
      | dsimp only | split)

theorem faultMessage_waits {s : State} (hw : Waits s) : Waits (faultMessage s) := by
  unfold faultMessage
  with_reducible repeat' (first
      | assumption | apply takeMsg_waits | apply overflowMsg_waits | apply countMsg_waits | apply putRec_waits
      | simp only [waits_mk_eq] | apply mk_waits | split)

/-! ### Security.lean -/

theorem unwrapFail_waits (ctx : Nat) (gen : Nat) {s : State} (hw : Waits s) : Waits (unwrapFail ctx gen s) := by
  unfold unwrapFail
  with_reducible repeat' (first
      | assumption | apply sendFault_waits | apply setB_waits)

theorem put96_waits (w : Nat → Fld) (b : List Nat) {s : State} (hw : Waits s) : Waits (put96 w b s) := by
  unfold put96
  with_reducible repeat' (first
      | assumption | apply setF_waits | apply foldl_waits | (intro _))

theorem kxReady_waits (pub : List Nat) (sig : List Nat) {s : State} (hw : Waits s) : Waits (kxReady pub sig s) := by
  unfold kxReady
  with_reducible repeat' (first
      | assumption | apply setB_waits | apply put96_waits | simp only [waits_mk_eq] | apply mk_waits | split)

theorem showScrub_waits {s : State} (hw : Waits s) : Waits (showScrub s) := by
  unfold showScrub
  with_reducible repeat' (first
      | assumption | apply setB_waits)

theorem assignNow_waits (x : Nat) (action : Nat) (tenant : Nat) {s : State} (hw : Waits s) : Waits (assignNow x action tenant s) := by
  unfold assignNow
  with_reducible repeat' (first
      | assumption | apply setF_waits | apply setB_waits | apply event_waits | dsimp only | split)

theorem scrubRec_waits (x : Nat) (done : Nat) {s : State} (hw : Waits s) : Waits (scrubRec x done s) := by
  unfold scrubRec
  with_reducible repeat' (first
      | assumption | apply postRec_waits)

theorem scrubEndNow_waits (x : Nat) {s : State} (hw : Waits s) : Waits (scrubEndNow x s) := by
  unfold scrubEndNow
  with_reducible repeat' (first
      | assumption | apply scrubRec_waits | apply showScrub_waits | apply setB_waits)

theorem confNow_waits (locked : Nat → Bool) (release : State → State) (on : Bool) {s : State} (hrelease : ∀ t, Waits t → Waits (release
    t)) (hw : Waits s) : Waits (confNow locked release on s) := by
  unfold confNow
  with_reducible repeat' (first
      | assumption | apply hrelease | apply event_waits | apply setB_waits | simp only [waits_mk_eq] | apply mk_waits | split)

theorem sbKeyNow_waits (ctx : Nat) (gen : Nat) (key : Nat) {s : State} (hw : Waits s) : Waits (sbKeyNow ctx gen key s) := by
  unfold sbKeyNow
  with_reducible repeat' (first
      | assumption | apply event_waits | apply keyInstall_waits)

theorem scrubBeginNow_waits (x : Nat) {s : State} (hw : Waits s) : Waits (scrubBeginNow x s) := by
  unfold scrubBeginNow
  with_reducible repeat' (first
      | assumption | apply showScrub_waits | apply setB_waits | apply scrubRec_waits | simp only [waits_mk_eq] | apply mk_waits)

theorem pufReconstruct_waits (ok : Bool) (blocks : Nat) (pub : List Nat) {s : State} (hw : Waits s) : Waits (pufReconstruct ok blocks
    pub s) := by
  unfold pufReconstruct
  with_reducible repeat' (first
      | assumption | apply put96_waits | apply setB_waits | apply sendFault_waits | simp only [waits_mk_eq] | apply mk_waits
      | split)

theorem kxNew_waits (agent : Nat) (val : Nat) {s : State} (hw : Waits s) : Waits (kxNew agent val s) := by
  unfold kxNew
  with_reducible repeat' (first
      | assumption | apply setB_waits | simp only [waits_mk_eq] | apply mk_waits | split)

/-! ### Thermal.lean -/

theorem setTmg_waits (g : TmgState) {s : State} (hw : Waits s) : Waits (setTmg g s) := by
  unfold setTmg
  with_reducible repeat' (first
      | assumption | simp only [waits_mk_eq] | apply mk_waits)

theorem stepping_waits {s : State} (hw : Waits s) : Waits (stepping s) := by
  unfold stepping
  with_reducible repeat' (first
      | assumption | apply setB_waits | apply setSatS_waits | apply setF_waits | apply incF_waits | apply eventP_waits
      | apply pendHw_waits | apply setTmg_waits | dsimp only | split)

theorem thermalFloor_waits {s : State} (hw : Waits s) : Waits (thermalFloor s) := by
  unfold thermalFloor
  with_reducible repeat' (first
      | assumption | apply sendFaultP_waits | apply setTmg_waits | dsimp only | split)

theorem setSuspect_waits (c : Nat) (b : Bool) {s : State} (hw : Waits s) : Waits (setSuspect c b s) := by
  unfold setSuspect
  with_reducible repeat' (first
      | assumption | apply setF_waits)

theorem applyMarks_waits {s : State} (hw : Waits s) : Waits (applyMarks s) := by
  unfold applyMarks
  with_reducible repeat' (first
      | assumption | apply setSuspect_waits | apply setTmg_waits | dsimp only | apply foldl_waits | (intro _))

theorem markNext_waits (c : Nat) (b : Bool) {s : State} (hw : Waits s) : Waits (markNext c b s) := by
  unfold markNext
  with_reducible repeat' (first
      | assumption | apply setTmg_waits)

theorem suspectSetWrite_waits (agent : Nat) (w : Nat) (val : Nat) {s : State} (hw : Waits s) : Waits (suspectSetWrite agent w val s) :=
    by
  unfold suspectSetWrite
  with_reducible repeat' (first
      | assumption | apply markNext_waits | apply foldl_waits | split | (intro _))

theorem tmgCut_waits {s : State} (hw : Waits s) : Waits (tmgCut s) := by
  unfold tmgCut
  with_reducible repeat' (first
      | assumption | apply setTmg_waits | dsimp only | split)

theorem thermalTrip_waits (r : Nat) {s : State} (hw : Waits s) : Waits (thermalTrip r s) := by
  unfold thermalTrip
  with_reducible repeat' (first
      | assumption | apply sendFaultP_waits | apply setF_waits | apply setB_waits | apply quickStop_waits | apply holdBeats_waits
      | simp only [waits_mk_eq] | apply mk_waits)

theorem singleTrip_waits {s : State} (hw : Waits s) : Waits (singleTrip s) := by
  unfold singleTrip
  with_reducible repeat' (first
      | assumption | apply thermLower_waits | apply setB_waits)

theorem tripComparator_waits (r : Nat) (i : Nat) {s : State} (hw : Waits s) : Waits (tripComparator r i s) := by
  unfold tripComparator
  with_reducible repeat' (first
      | assumption | apply setF_waits | apply setB_waits | apply thermalTrip_waits | apply singleTrip_waits
      | apply sendFaultP_waits | dsimp only | split)

theorem blindStep_waits {s : State} (hw : Waits s) : Waits (blindStep s) := by
  unfold blindStep
  with_reducible repeat' (first
      | assumption | apply sendFaultP_waits | apply setB_waits | apply setTmg_waits | apply foldl_waits | (intro _))

theorem critStep_waits (chip : Int) (hot : Nat) {s : State} (hw : Waits s) : Waits (critStep chip hot s) := by
  unfold critStep
  with_reducible repeat' (first
      | assumption | apply thermLower_waits | apply setB_waits | apply sendFaultP_waits | apply eventP_waits
      | dsimp only | split)

theorem tripRelease_waits (r : Nat) (i : Nat) {s : State} (hw : Waits s) : Waits (tripRelease r i s) := by
  unfold tripRelease
  with_reducible repeat' (first
      | assumption | apply setF_waits | apply setB_waits | apply singleTrip_waits | dsimp only | split)

theorem riseStep_waits (m : Assoc Int) {s : State} (hw : Waits s) : Waits (riseStep m s) := by
  unfold riseStep
  with_reducible repeat' (first
      | assumption | apply setB_waits | apply setTmg_waits)

theorem suspectClearWrite_waits (w : Nat) (val : Nat) {s : State} (hw : Waits s) : Waits (suspectClearWrite w val s) := by
  unfold suspectClearWrite
  with_reducible repeat' (first
      | assumption | apply markNext_waits | apply foldl_waits | (intro _))

theorem tmgFwRound_waits {s : State} (hw : Waits s) : Waits (tmgFwRound s) := by
  unfold tmgFwRound
  with_reducible repeat' (first
      | assumption | apply stepping_waits | apply setTmg_waits | dsimp only | split)

theorem sensorSuspect_waits (c : Nat) {s : State} (hw : Waits s) : Waits (sensorSuspect c s) := by
  unfold sensorSuspect
  with_reducible repeat' (first
      | assumption | apply sendFaultP_waits | apply setTmg_waits | apply markNext_waits | dsimp only | split)

theorem selfHotStep_waits {s : State} (hw : Waits s) : Waits (selfHotStep s) := by
  unfold selfHotStep
  with_reducible repeat' (first
      | assumption | apply setB_waits | apply sendFaultP_waits | apply setTmg_waits | dsimp only | split)

theorem tmgHwRound_waits {s0 : State} (hk : Waits s0) : Waits (tmgHwRound s0) := by
  unfold tmgHwRound
  with_reducible repeat' (first
      | assumption | apply applyMarks_waits | apply freeNext_waits | apply setSatS_waits | apply setF_waits
      | apply selfHotStep_waits | apply critStep_waits | apply riseStep_waits | apply blindStep_waits | apply setTmg_waits
      | apply foldl_waits | split | (intro _))

theorem sensorTrusted_waits (c : Nat) {s : State} (hw : Waits s) : Waits (sensorTrusted c s) := by
  unfold sensorTrusted
  with_reducible repeat' (first
      | assumption | apply eventP_waits | apply markNext_waits | split)

theorem thermalRise_waits (r : Nat) {s : State} (hw : Waits s) : Waits (thermalRise r s) := by
  unfold thermalRise
  with_reducible repeat' (first
      | assumption | apply setTmg_waits | apply sendFaultP_waits | apply thermLower_waits | dsimp only | split)

/-! ### Update.lean -/

theorem showStaged_waits {s : State} (hw : Waits s) : Waits (showStaged s) := by
  unfold showStaged
  with_reducible repeat' (first
      | assumption | apply setF_waits | apply foldl_waits | (intro _))

theorem setUpdState_waits (x : Nat) {s : State} (hw : Waits s) : Waits (setUpdState x s) := by
  unfold setUpdState
  with_reducible repeat' (first
      | assumption | apply setF_waits)

theorem showUpd_waits {s : State} (hw : Waits s) : Waits (showUpd s) := by
  unfold showUpd
  with_reducible repeat' (first
      | assumption | apply showStaged_waits | apply setUpdState_waits | dsimp only | split)

theorem fallBackMark_waits (cause : Nat) (abandoned : Nat) {s : State} (hw : Waits s) : Waits (fallBackMark cause abandoned s) := by
  unfold fallBackMark
  with_reducible repeat' (first
      | assumption | apply setF_waits | apply setB_waits | apply sendFault_waits | apply event_waits)

theorem romStart_waits {s : State} (hw : Waits s) : Waits (romStart s) := by
  unfold romStart
  with_reducible repeat' (first
      | assumption | apply setF_waits | apply setComps_waits | apply setCore_waits | apply wdtStop_waits)

theorem swapSlots_waits (l : List Nat) {s : State} (h : Waits s) : Waits (swapSlots l s) := by
  unfold swapSlots
  with_reducible repeat' (first
      | assumption | apply setUpd_waits | apply foldl_waits | (intro _))

theorem showActive_waits {s : State} (hw : Waits s) : Waits (showActive s) := by
  unfold showActive
  with_reducible repeat' (first
      | assumption | apply setF_waits | apply foldl_waits | (intro _))

theorem restoreBank_waits {s : State} (hw : Waits s) : Waits (restoreBank s) := by
  unfold restoreBank
  with_reducible repeat' (first
      | assumption | apply swapSlots_waits | apply setF_waits | apply setB_waits | apply showActive_waits | apply setUpd_waits
      | simp only [waits_mk_eq] | split)

theorem fallBack_waits (cause : Nat) {s : State} (hw : Waits s) : Waits (fallBack cause s) := by
  unfold fallBack
  with_reducible repeat' (first
      | assumption | apply showUpd_waits | apply setUpdState_waits | apply fallBackMark_waits | apply romStart_waits
      | apply gateDiscard_waits | apply restoreBank_waits | dsimp only | split)

theorem trialGuard_waits (f : State → State) {s : State} (hf : ∀ t, Waits t → Waits (f t)) (hw : Waits s) : Waits (trialGuard f s) :=
    by
  unfold trialGuard
  with_reducible repeat' (first
      | assumption | apply hf | apply setFw_waits | apply fallBack_waits | apply setF_waits | dsimp only | split)

theorem findImages_waits (found : List (Nat × List Nat)) {s : State} (hw : Waits s) : Waits (findImages found s) := by
  unfold findImages
  with_reducible repeat' (first
      | assumption | apply setUpd_waits | dsimp only | apply foldl_waits | split | (intro _))

theorem passOver_waits (ok0 : Bool) (ok1 : Bool) (detail : Nat) {s : State} (hw : Waits s) : Waits (passOver ok0 ok1 detail s).1 := by
  unfold passOver
  with_reducible repeat' (first
      | assumption | apply sendFault_waits | apply restoreBank_waits | apply setF_waits | apply setUpd_waits | apply setB_waits
      | apply showUpd_waits | apply showActive_waits | apply setUpdState_waits | dsimp only | split)

theorem gapBoot_waits (ok0 : Bool) (ok1 : Bool) (detail : Nat) {s : State} (hw : Waits s) : Waits (gapBoot ok0 ok1 detail s).1 := by
  unfold gapBoot
  with_reducible repeat' (first
      | assumption | apply passOver_waits | dsimp only | split)

theorem confirm_waits {s : State} (hw : Waits s) : Waits (confirm s) := by
  unfold confirm
  with_reducible repeat' (first
      | assumption | apply setF_waits | apply setB_waits | apply setUpd_waits | apply showUpd_waits | apply setUpdState_waits
      | apply event_waits | simp only [waits_mk_eq] | apply foldl_waits | (intro _))

theorem eraseSlot_waits (bank : Nat) (k : Nat) {s : State} (hw : Waits s) : Waits (eraseSlot bank k s) := by
  unfold eraseSlot
  with_reducible repeat' (first
      | assumption | apply setUpd_waits)

theorem dropCheck_waits (k : Nat) (st : Nat) {s : State} (hw : Waits s) : Waits (dropCheck k st s) := by
  unfold dropCheck
  with_reducible repeat' (first
      | assumption | apply pktComplete_waits | apply eraseSlot_waits | apply setUpd_waits | dsimp only
      | apply foldl_waits | split | (intro _))

theorem endTransfers_waits (st : Nat) {s : State} (hw : Waits s) : Waits (endTransfers st s) := by
  unfold endTransfers
  with_reducible repeat' (first
      | assumption | apply endXfer_waits | apply eraseSlot_waits | apply dropCheck_waits | dsimp only
      | apply foldl_waits | (intro _))

theorem bootBank_waits (ok0 : Bool) (ok1 : Bool) (detail : Nat) {s : State} (hw : Waits s) : Waits (bootBank ok0 ok1 detail s).1 := by
  unfold bootBank
  with_reducible repeat' (first
      | assumption | apply fallBackMark_waits | apply restoreBank_waits | apply showActive_waits | apply passOver_waits
      | dsimp only | split)

theorem fwStart_waits (helpers : Nat) (comps : List Nat) {s : State} (hw : Waits s) : Waits (fwStart helpers comps s) := by
  unfold fwStart
  with_reducible repeat' (first
      | assumption | apply mpuLoad_waits | apply incF_waits | apply setCore_waits | apply setF_waits | apply startComps_waits
      | apply setFw_waits | apply absentActions_waits | dsimp only | apply foldl_waits | split | (intro _))

theorem mainStart_waits (found : List (Nat × List Nat)) (ok0 : Bool) (ok1 : Bool) (detail : Nat) {s : State} (hw : Waits s) : Waits
    (mainStart found ok0 ok1 detail s) := by
  unfold mainStart
  with_reducible repeat' (first
      | assumption | apply bootBank_waits | apply restoreStaged_waits | apply findImages_waits | apply setCore_waits
      | apply setFw_waits | apply incGeneration_waits | apply fwStart_waits | apply setComps_waits | dsimp only
      | split)

theorem carryOver_waits (adopted : Nat) (was : State) {s : State} (hw : Waits s) : Waits (carryOver adopted was s) := by
  unfold carryOver
  with_reducible repeat' (first
      | assumption | apply abandonRounds_waits | simp only [waits_mk_eq] | apply mk_waits | split)

theorem actDecide_waits {s : State} (hw : Waits s) : Waits (actDecide s) := by
  unfold actDecide
  with_reducible repeat' (first
      | assumption | apply setUpd_waits | dsimp only | split)

theorem autoConfirm_waits {s : State} (hw : Waits s) : Waits (autoConfirm s) := by
  unfold autoConfirm
  with_reducible repeat' (first
      | assumption | apply confirm_waits | split)

theorem updAbort_waits {s : State} (hw : Waits s) : Waits (updAbort s).1 := by
  unfold updAbort
  with_reducible repeat' (first
      | assumption | apply event_waits | apply showUpd_waits | apply endTransfers_waits | apply pktComplete_waits
      | apply setUpd_waits | apply setUpdState_waits | apply fallBack_waits | dsimp only | apply foldl_waits | split
      | (intro _))

theorem fullCheckDone_waits (sig : Bool) (digest : Bool) (content : Bool) (flash : Bool) (off : Nat) {s : State} (hw : Waits s) : Waits
    (fullCheckDone sig digest content flash off s) := by
  unfold fullCheckDone
  with_reducible repeat' (first
      | assumption | apply showUpd_waits | apply setUpd_waits | apply pktComplete_waits | apply event_waits
      | apply eraseSlot_waits | apply sendFault_waits | dsimp only | split)

theorem updWatch_waits {s : State} (hw : Waits s) : Waits (updWatch s) := by
  unfold updWatch
  with_reducible repeat' (first
      | assumption | apply setUpd_waits)

theorem unstage_waits (k : Nat) {s : State} (hw : Waits s) : Waits (unstage k s) := by
  unfold unstage
  with_reducible repeat' (first
      | assumption | apply setUpd_waits)

theorem imgTarget_waits (k : Nat) (rootOk sigOk : Bool) {u : State} (h : Waits u) :
    (∀ m, Waits ((imgTarget k rootOk sigOk).pass m u)) ∧ (∀ d, Waits ((imgTarget k rootOk sigOk).fail d u)) ∧
    (∀ m, Waits ((imgTarget k rootOk sigOk).whole m u).1) ∧
    Waits ((imgTarget k rootOk sigOk).abandon u) ∧ Waits ((imgTarget k rootOk sigOk).lost u) :=
  ⟨fun _ => eraseSlot_waits _ _ h, fun _ => h, fun _ => setUpd_waits _ h, eraseSlot_waits _ _ h, h⟩

theorem updBlock_waits (k off : Nat) (rootOk sigOk : Bool) (data : List Nat) {s : State} (h : Waits s) :
    Waits (updBlock k off rootOk sigOk data s).1 := by
  have ht := fun {u : State} (hu : Waits u) => imgTarget_waits k rootOk sigOk hu
  unfold updBlock
  extract_lets fresh s0 r
  split
  · exact h
  split
  · exact h
  have h0 : Waits s0 := by
    unfold s0
    with_reducible repeat' (first
      | assumption | apply unstage_waits | apply dropCheck_waits | apply eraseSlot_waits | split)
  exact showUpd_waits (takeBlock_waits _ _ _ _ (fun m _ hu => (ht hu).1 m) (fun d _ hu => (ht hu).2.1 d) (fun m _ hu => (ht hu).2.2.1 m)
    (fun _ hu => (ht hu).2.2.2.1) (fun _ hu => (ht hu).2.2.2.2) h0)

theorem trialStart_waits {s : State} (hw : Waits s) : Waits (trialStart s) := by
  unfold trialStart
  with_reducible repeat' (first
      | assumption | apply setUpdState_waits | apply setUpd_waits)

theorem activateAnswer_waits {s : State} (hw : Waits s) : Waits (activateAnswer s) := by
  unfold activateAnswer
  with_reducible repeat' (first
      | assumption | apply pktComplete_waits | apply foldl_waits | split | (intro _))

theorem trialExpiry_waits {s : State} (hw : Waits s) : Waits (trialExpiry s) := by
  unfold trialExpiry
  with_reducible repeat' (first
      | assumption | apply fallBack_waits | split)

theorem gapHalt_waits {s : State} (hw : Waits s) : Waits (gapHalt s) := by
  unfold gapHalt
  with_reducible repeat' (first
      | assumption | apply setCore_waits | apply setComps_waits | apply gateClose_waits | apply foldl_waits | (intro _))

theorem makeActive_waits {s : State} (hw : Waits s) : Waits (makeActive s) := by
  unfold makeActive
  with_reducible repeat' (first
      | assumption | apply endTransfers_waits | apply swapSlots_waits | apply setF_waits | apply showActive_waits
      | apply showStaged_waits | apply setUpd_waits | simp only [waits_mk_eq] | split)

theorem dualSettings_waits (old : Nat) {s : State} (hw : Waits s) : Waits (dualSettings old s) := by
  unfold dualSettings
  with_reducible repeat' (first
      | assumption | apply setF_waits | apply setB_waits | dsimp only | split)

theorem actSlot_waits (lines : Nat) (caravan : List Nat) {s : State} (hw : Waits s) : Waits (actSlot lines caravan s) := by
  unfold actSlot
  with_reducible repeat' (first
      | assumption | apply actDecide_waits | apply setUpd_waits | apply setF_waits | apply incF_waits | apply setW_waits
      | apply event_waits | apply sendFault_waits | apply dualSettings_waits | apply makeActive_waits | apply gapHalt_waits
      | apply wdtStop_waits | apply setUpdState_waits | apply trialStart_waits | apply activateAnswer_waits
      | dsimp only | split)

theorem activateAccept_waits (t : Nat) (mask : Nat) {s : State} (hw : Waits s) : Waits (activateAccept t mask s) := by
  unfold activateAccept
  with_reducible repeat' (first
      | assumption | apply setW_waits | apply setF_waits | apply setUpd_waits | apply event_waits | apply setUpdState_waits
)

theorem handover_waits (image : NewImage) {was : State} (hk : Waits was) : Waits (handover image was) := by
  unfold handover
  with_reducible repeat' (first
      | assumption | apply gapBoot_waits | apply setF_waits | apply setCore_waits | apply sendFault_waits | apply setSat_waits
      | apply fwStart_waits | apply incGeneration_waits | apply carryOver_waits | apply activateAnswer_waits | apply event_waits
      | apply trialStart_waits | apply pktComplete_waits | dsimp only | apply foldl_waits | split | (intro _))

/-! ### Pmbus.lean -/

theorem setPmb_waits (p : PmbState) {s : State} (hw : Waits s) : Waits (setPmb p s) := by
  unfold setPmb
  with_reducible repeat' (first
      | assumption | simp only [waits_mk_eq] | apply mk_waits)

theorem pmbReset_waits {s : State} (hw : Waits s) : Waits (pmbReset s) := by
  unfold pmbReset
  with_reducible repeat' (first
      | assumption | apply setPmb_waits)

theorem replyWith_waits (b : List Nat) {s : State} (hw : Waits s) : Waits (replyWith b s) := by
  unfold replyWith
  with_reducible repeat' (first
      | assumption | apply setPmb_waits)

theorem alertResponse_waits {s : State} (hw : Waits s) : Waits (alertResponse s) := by
  unfold alertResponse
  with_reducible repeat' (first
      | assumption | apply setPmb_waits | apply replyWith_waits | dsimp only | split)

theorem latch_waits (i : Nat) (b : Nat) (c : Bool) {s : State} (hw : Waits s) : Waits (latch i b c s) := by
  unfold latch
  with_reducible repeat' (first
      | assumption | apply setPmb_waits | dsimp only | split)

theorem cmlInvalid_waits (n : Nat) {s : State} (hw : Waits s) : Waits (cmlInvalid n s) := by
  unfold cmlInvalid
  with_reducible repeat' (first
      | assumption | apply replyWith_waits | apply latch_waits)

theorem pmRead_waits (pages : List Nat) (m : Nat) (n : Nat) (v : Nat → Nat) {s : State} (hw : Waits s) : Waits (pmRead pages m n v s)
    := by
  unfold pmRead
  with_reducible repeat' (first
      | assumption | apply replyWith_waits | apply cmlInvalid_waits | dsimp only | split)

theorem tableRead_waits (pages : List Nat) (code : Nat) (m : Nat) {s : State} (hw : Waits s) : Waits (tableRead pages code m s) := by
  unfold tableRead
  with_reducible repeat' (first
      | assumption | apply pmRead_waits)

theorem pmbWatch_waits {s : State} (hw : Waits s) : Waits (pmbWatch s) := by
  unfold pmbWatch
  with_reducible repeat' (first
      | assumption | apply setPmb_waits | dsimp only | split)

theorem sclTimeout_waits {s : State} (hw : Waits s) : Waits (sclTimeout s) := by
  unfold sclTimeout
  with_reducible repeat' (first
      | assumption | apply replyWith_waits | apply latch_waits)

theorem latchAll_waits {s : State} (hw : Waits s) : Waits (latchAll s) := by
  unfold latchAll
  with_reducible repeat' (first
      | assumption | apply latch_waits | dsimp only | apply foldl_waits | (intro _))

theorem tableRefresh_waits {s : State} (hw : Waits s) : Waits (tableRefresh s) := by
  unfold tableRefresh
  with_reducible repeat' (first
      | assumption | apply freeNext_waits | apply latchAll_waits | apply setPmb_waits | dsimp only | split)

theorem pecOr_waits (pec : Bool) (f : State → State) {s : State} (hf : ∀ t, Waits t → Waits (f t)) (hw : Waits s) : Waits (pecOr pec f
    s) := by
  unfold pecOr
  with_reducible repeat' (first
      | assumption | apply hf | apply latch_waits | split)

theorem busAddr_waits (v : Nat) {s : State} (hw : Waits s) : Waits (busAddr v s) := by
  unfold busAddr
  with_reducible repeat' (first
      | assumption | apply setPmb_waits)

theorem boardRead_waits (code : Nat) {s : State} (hw : Waits s) : Waits (boardRead code s) := by
  unfold boardRead
  with_reducible repeat' (first
      | assumption | apply replyWith_waits | dsimp only | split)

theorem pmPage_waits (m : Nat) (w : Option Nat) {s : State} (hw : Waits s) : Waits (pmPage m w s) := by
  unfold pmPage
  with_reducible repeat' (first
      | assumption | apply replyWith_waits | apply latch_waits | apply setPmb_waits | dsimp only | split)

theorem clearFaults_waits {s : State} (hw : Waits s) : Waits (clearFaults s) := by
  unfold clearFaults
  with_reducible repeat' (first
      | assumption | apply setPmb_waits)

/-! ### Estimate.lean -/

theorem regionEsts_waits {s : State} (hw : Waits s) : Waits (regionEsts s) := by
  unfold regionEsts
  with_reducible repeat' (first
      | assumption | apply pxeStored_waits | apply setPxe_waits | apply setSatS_waits | dsimp only
      | apply foldl_waits | split | (intro _))

theorem trustCounts_waits {s : State} (hw : Waits s) : Waits (trustCounts s) := by
  unfold trustCounts
  with_reducible repeat' (first
      | assumption | apply setSat_waits | dsimp only | split)

theorem calTrigger_waits {s : State} (hw : Waits s) : Waits (calTrigger s) := by
  unfold calTrigger
  with_reducible repeat' (first
      | assumption | apply setEst_waits)

theorem diffFault_waits (kind : Nat) {s : State} (hw : Waits s) : Waits (diffFault kind s) := by
  unfold diffFault
  with_reducible repeat' (first
      | assumption | apply sendFault_waits)

theorem rowFault_waits (row : Nat) {s : State} (hw : Waits s) : Waits (rowFault row s) := by
  unfold rowFault
  with_reducible repeat' (first
      | assumption | apply sendFault_waits | apply diffFault_waits | apply setB_waits | dsimp only | split)

theorem trustEnter_waits (st : Nat) {s : State} (hw : Waits s) : Waits (trustEnter st s) := by
  unfold trustEnter
  with_reducible repeat' (first
      | assumption | apply setB_waits | apply setF_waits | apply setEst_waits | apply event_waits | apply boostCheck_waits
      | apply trustWithdraws_waits | simp only [waits_mk_eq] | apply mk_waits | apply foldl_waits | split | (intro _))

theorem stageShadow_waits {s : State} (hw : Waits s) : Waits (stageShadow s) := by
  unfold stageShadow
  with_reducible repeat' (first
      | assumption | apply setEst_waits | simp only [waits_mk_eq] | apply mk_waits)

theorem decideRow_waits (row : Nat) {s : State} (hw : Waits s) : Waits (decideRow row s) := by
  unfold decideRow
  with_reducible repeat' (first
      | assumption | apply rowFault_waits | apply setF_waits | apply setEst_waits | apply trustEnter_waits
      | apply stageShadow_waits | apply setB_waits | apply boostCheck_waits | apply trustWithdraws_waits | dsimp only
      | split)

theorem tryRow_waits (row : Nat) {s : State} (hw : Waits s) : Waits (tryRow row s) := by
  unfold tryRow
  with_reducible repeat' (first
      | assumption | apply decideRow_waits | split)

theorem estEval10_waits (at0 : Nat) {s : State} (hw : Waits s) : Waits (estEval10 at0 s) := by
  unfold estEval10
  with_reducible repeat' (first
      | assumption | apply setSatS_waits | apply regionEsts_waits | apply trustCounts_waits | apply setEst_waits
      | apply setSat_waits | apply setPxe_waits | apply calTrigger_waits | apply tryRow_waits | dsimp only
      | apply foldl_waits | split | (intro _))

theorem chipPower_waits (volts : List Nat) (is : List Int) {s : State} (hw : Waits s) : Waits (chipPower volts is s) := by
  unfold chipPower
  with_reducible repeat' (first
      | assumption | apply setSat_waits | apply setEst_waits | dsimp only | split)

theorem sigStore_waits (a : SigAcc) {s : State} (hw : Waits s) : Waits (sigStore a s) := by
  unfold sigStore
  with_reducible repeat' (first
      | assumption | apply setSat_waits | dsimp only | apply foldl_waits | split | (intro _))

theorem sigWindow_waits (w : WinShot) (bad : Bool) {s : State} (hw : Waits s) : Waits (sigWindow w bad s) := by
  unfold sigWindow
  with_reducible repeat' (first
      | assumption | apply sigStore_waits | apply setEst_waits | dsimp only | split)

theorem windowAfter_waits (bad : Bool) {s : State} (hw : Waits s) : Waits (windowAfter bad s) := by
  unfold windowAfter
  with_reducible repeat' (first
      | assumption | apply chipPower_waits | apply sigWindow_waits | apply estEval10_waits | apply setEst_waits | split)

theorem windowSubst_waits {s : State} (hw : Waits s) : Waits (windowSubst s) := by
  unfold windowSubst
  with_reducible repeat' (first
      | assumption | apply setB_waits | apply setS_waits | apply setSat_waits | apply windowAfter_waits | apply setEst_waits
      | dsimp only | apply foldl_waits | split | (intro _))

theorem estClose10_waits {s : State} (hw : Waits s) : Waits (estClose10 s) := by
  unfold estClose10
  with_reducible repeat' (first
      | assumption | apply setSatS_waits | apply regionEsts_waits | apply trustCounts_waits | apply setEst_waits
      | apply setB_waits | apply setSat_waits | apply tryRow_waits | simp only [waits_mk_eq] | apply foldl_waits | split
      | (intro _))

theorem takeSlot0_waits {s : State} (hw : Waits s) : Waits (takeSlot0 s) := by
  unfold takeSlot0
  with_reducible repeat' (first
      | assumption | apply invalidOut_waits | apply clampedOut_waits | apply setB_waits | apply setSatS_waits | apply setEst_waits
      | apply windowAfter_waits | apply setF_waits | dsimp only | apply foldl_waits | split | (intro _))

theorem estSwap_waits {s : State} (hw : Waits s) : Waits (estSwap s) := by
  unfold estSwap
  with_reducible repeat' (first
      | assumption | apply trustEnter_waits | apply setF_waits | apply setEst_waits | dsimp only | apply foldl_waits
      | split | (intro _))

theorem estRound_waits {s : State} (hw : Waits s) : Waits (estRound s) := by
  unfold estRound
  with_reducible repeat' (first
      | assumption | apply setEst_waits)

theorem estCalReset_waits {s : State} (hw : Waits s) : Waits (estCalReset s) := by
  unfold estCalReset
  with_reducible repeat' (first
      | assumption | apply setEst_waits)

theorem calRail_waits (shadow : Bool) (k : Nat) {s : State} (hw : Waits s) : Waits (calRail shadow k s) := by
  unfold calRail
  with_reducible repeat' (first
      | assumption | apply sendFault_waits | apply setB_waits | apply setF_waits | apply setEst_waits | simp only [waits_mk_eq]
      | apply mk_waits | split)

theorem calRound_waits {s : State} (hw : Waits s) : Waits (calRound s) := by
  unfold calRound
  with_reducible repeat' (first
      | assumption | apply setEst_waits | apply calRail_waits | apply setF_waits | dsimp only | apply foldl_waits
      | split | (intro _))

theorem suspectRow_waits (row : Nat) {s : State} (hw : Waits s) : Waits (suspectRow row s) := by
  unfold suspectRow
  with_reducible repeat' (first
      | assumption | apply decideRow_waits | split)

theorem bandFollow_waits {s : State} (hw : Waits s) : Waits (bandFollow s) := by
  unfold bandFollow
  with_reducible repeat' (first
      | assumption | apply setF_waits | apply setEst_waits | dsimp only | split)

theorem sigUpdate_waits {s : State} (hw : Waits s) : Waits (sigUpdate s) := by
  unfold sigUpdate
  with_reducible repeat' (first
      | assumption | apply setEst_waits | apply sigStore_waits | dsimp only | split)

theorem calTake_waits (k : Nat) (g : Nat) (o : Nat) {s : State} (hw : Waits s) : Waits (calTake k g o s) := by
  unfold calTake
  with_reducible repeat' (first
      | assumption | apply setF_waits)

theorem estSample_waits {s : State} (hw : Waits s) : Waits (estSample s) := by
  unfold estSample
  with_reducible repeat' (first
      | assumption | apply setF_waits | apply setSatS_waits | apply foldl_waits | (intro _))

theorem calClamp_waits (k : Nat) {s : State} (hw : Waits s) : Waits (calClamp k s) := by
  unfold calClamp
  with_reducible repeat' (first
      | assumption | apply sendFault_waits | apply setEst_waits | dsimp only | split)

theorem estRetry_waits {s : State} (hw : Waits s) : Waits (estRetry s) := by
  unfold estRetry
  with_reducible repeat' (first
      | assumption | apply setB_waits)

/-! ### Sample.lean -/

theorem consume_waits (k : Nat) {s : State} (hw : Waits s) : Waits (consume k s) := by
  unfold consume
  with_reducible repeat' (first
      | assumption | apply takeSlot0_waits | apply takeSlot1_waits | apply balPublish_waits | apply takeSlot3_waits | split)

theorem xchkClose_waits {s : State} (hw : Waits s) : Waits (xchkClose s) := by
  unfold xchkClose
  with_reducible repeat' (first
      | assumption | apply lgvClose1ms_waits | apply estRound_waits | apply xchkRound_waits | apply imbalanceRound_waits
      | apply foldl_waits | (intro _))

theorem senseSample_waits (imon : List Nat) (pts : List Nat) {s : State} (hw : Waits s) : Waits (senseSample imon pts s) := by
  unfold senseSample
  with_reducible repeat' (first
      | assumption | apply estSample_waits | apply snsSample_waits | apply lgvSample_waits | apply compSample_waits
      | apply deSample_waits | apply seqSample_waits | apply restSample_waits | apply negLimit_waits | apply foldl_waits
      | (intro _))

theorem hksRound_waits (conv : List (Nat × Nat)) {s : State} (hw : Waits s) : Waits (hksRound conv s) := by
  unfold hksRound
  with_reducible repeat' (first
      | assumption | apply hotRound_waits | apply tmgHwRound_waits | apply hksPublish_waits | apply pxeThermal_waits)

theorem pxePublish_waits (k : Nat) (time : Nat) {s : State} (hw : Waits s) : Waits (pxePublish k time s) := by
  unfold pxePublish
  with_reducible repeat' (first
      | assumption | apply publishRun_waits | apply consume_waits | dsimp only | split)

theorem railClose1_waits (k : Nat) {s : State} (hw : Waits s) : Waits (railClose1 k s) := by
  unfold railClose1
  with_reducible repeat' (first
      | assumption | apply noteImax_waits | apply reactiveAdd_waits | apply setSatS_waits)

theorem publishRow_waits (k : Nat) (time : Nat) {s : State} (hw : Waits s) : Waits (publishRow k time s) := by
  unfold publishRow
  with_reducible repeat' (first
      | assumption | apply pxePublish_waits | split)

theorem windowClose10_waits {s : State} (hw : Waits s) : Waits (windowClose10 s) := by
  unfold windowClose10
  with_reducible repeat' (first
      | assumption | apply lgvClose10_waits | apply estClose10_waits)

theorem windowClose1_waits {s : State} (hw : Waits s) : Waits (windowClose1 s) := by
  unfold windowClose1
  with_reducible repeat' (first
      | assumption | apply railClose1_waits | apply setSns_waits | apply takeShot_waits | apply lgvClose1_waits
      | apply chipPower_waits | dsimp only | apply foldl_waits | split | (intro _))

/-! ### Boundary.lean -/

theorem sourceLocal_waits {s : State} (h : Waits s) : Waits (sourceLocal s) := by
  unfold sourceLocal
  with_reducible repeat' (first
      | assumption | apply floorNext_waits | apply abandonRounds_waits | apply planPause_waits | apply event_waits
      | apply ffScheduleComputed_waits | apply setB_waits | split | simp only [waits_mk_eq] | apply mk_waits)

theorem swapEffects_waits (keys : List Nat) {s : State} (h : Waits s) : Waits (swapEffects keys s) := by
  unfold swapEffects
  with_reducible repeat' (first
      | assumption | apply setF_waits | apply repeatTake_waits | apply withdrawLift_waits | apply setPxe_waits | apply stopSlot_waits
      | apply setSlotSt_waits | simp only [waits_mk_eq] | apply mk_waits | split)

theorem slotRunNow_waits (slot : Nat) {s : State} (hw : Waits s) : Waits (slotRunNow slot s) := by
  unfold slotRunNow
  with_reducible repeat' (first
      | assumption | apply setSlotSt_waits | apply setPxe_waits | dsimp only | split)

theorem actNow_waits (k : ActKind) {s : State} (hw : Waits s) : Waits (actNow k s) := by
  unfold actNow
  with_reducible repeat' (first
      | assumption | apply seqStartAct_waits | apply seqStopAct_waits | apply retireAtBoundary_waits | apply restorePhase_waits
      | apply excludeDet_waits | apply planIdleNow_waits | apply abandonRounds_waits | apply setB_waits | apply calTake_waits
      | apply slotRunNow_waits | apply assignNow_waits | apply scrubBeginNow_waits | apply scrubEndNow_waits | apply confNow_waits
      | apply capRelease_waits | apply sbKeyNow_waits | apply watchSet_waits | apply planEvent_waits | apply setPlanState_waits
      | apply sigLoad_waits | apply foldl_waits | split | (intro _))

theorem swapTake_waits (launch : Option Nat) {s : State} (hw : Waits s) : Waits (swapTake launch s) := by
  unfold swapTake
  with_reducible repeat' (first
      | assumption | apply swapEffects_waits | apply swapValues_waits | apply actNow_waits | apply notifyPkts_waits
      | simp only [waits_mk_eq] | apply mk_waits | apply foldl_waits | (intro _))

theorem swapPhases_waits {s : State} (hw : Waits s) : Waits (swapPhases s) := by
  unfold swapPhases
  with_reducible repeat' (first
      | assumption | apply shedActions_waits | apply raiseTarget_waits | apply setRail_waits | apply shedTo_waits
      | dsimp only | apply foldl_waits | split | (intro _))

theorem swapSelects_waits {s : State} (hw : Waits s) : Waits (swapSelects s) := by
  unfold swapSelects
  with_reducible repeat' (first
      | assumption | apply applySelect_waits | apply foldl_waits | split | (intro _))

theorem swap_waits (now : Option (Nat × Option Nat)) {s : State} (h : Waits s) : Waits (swap now s) := by
  unfold swap
  with_reducible repeat' (first
      | assumption | apply boundShow_waits | apply snapSplit_waits | apply capStamp_waits | apply lgvLaunch_waits | apply balStrobe_waits
      | apply floorNext_waits | apply abandonRounds_waits | apply incF_waits | apply setBal_waits | apply fixedTake_waits
      | apply swapPhases_waits | apply swapSelects_waits | apply lgvSwap_waits | apply estSwap_waits | apply lgvRechoose_waits
      | apply planStrobe_waits | apply swapTake_waits | apply drgLatch_waits | apply sigUpdate_waits | apply ffScheduleComputed_waits
      | split | simp only [waits_mk_eq] | apply mk_waits)

theorem noteCut_waits {s : State} (hw : Waits s) : Waits (noteCut s) := by
  unfold noteCut
  with_reducible repeat' (first
      | assumption | apply setRail_waits | dsimp only | apply foldl_waits | (intro _))

theorem checkSet_waits (l : List Fld) (ok : Bool) (rej : Fld) {s : State} (hw : Waits s) : Waits (checkSet l ok rej s) := by
  unfold checkSet
  with_reducible repeat' (first
      | assumption | apply setB_waits | apply dropPend_waits | split)

theorem checkPeriod_waits {s : State} (hw : Waits s) : Waits (checkPeriod s) := by
  unfold checkPeriod
  with_reducible repeat' (first
      | assumption | apply checkSet_waits)

theorem checkThresh_waits {s : State} (hw : Waits s) : Waits (checkThresh s) := by
  unfold checkThresh
  with_reducible repeat' (first
      | assumption | apply checkSet_waits)

theorem checkSp_waits (k : Nat) (e : Nat) {s : State} (hw : Waits s) : Waits (checkSp k e s) := by
  unfold checkSp
  with_reducible repeat' (first
      | assumption | apply checkSet_waits)

theorem checkSeq_waits {s : State} (hw : Waits s) : Waits (checkSeq s) := by
  unfold checkSeq
  with_reducible repeat' (first
      | assumption | apply checkSet_waits)

theorem checkMaps_waits {s : State} (hw : Waits s) : Waits (checkMaps s) := by
  unfold checkMaps
  with_reducible repeat' (first
      | assumption | apply setB_waits | apply dropPend_waits | dsimp only | apply foldl_waits | split | (intro _))

theorem checkPrio_waits {s : State} (hw : Waits s) : Waits (checkPrio s) := by
  unfold checkPrio
  with_reducible repeat' (first
      | assumption | apply checkSet_waits)

theorem checkSps_waits {s : State} (hw : Waits s) : Waits (checkSps s) := by
  unfold checkSps
  with_reducible repeat' (first
      | assumption | apply checkSp_waits | apply foldl_waits | (intro _))

theorem checkEta_waits {s : State} (hw : Waits s) : Waits (checkEta s) := by
  unfold checkEta
  with_reducible repeat' (first
      | assumption | apply checkSet_waits)

theorem checkDroop_waits {s : State} (hw : Waits s) : Waits (checkDroop s) := by
  unfold checkDroop
  with_reducible repeat' (first
      | assumption | apply checkSet_waits)

theorem setChecks_waits {s : State} (hw : Waits s) : Waits (setChecks s) := by
  unfold setChecks
  with_reducible repeat' (first
      | assumption | apply checkMaps_waits | apply checkPeriod_waits | apply checkThresh_waits | apply checkSeq_waits
      | apply checkPrio_waits | apply checkSps_waits | apply checkEta_waits | apply checkDroop_waits)

theorem cutWork_waits (next : Option Nat) {s : State} (h : Waits s) : Waits (cutWork next s) := by
  unfold cutWork
  with_reducible repeat' (first
      | assumption | apply balCut_waits | apply tmgCut_waits | apply noteCut_waits | apply freezeAll_waits | apply setChecks_waits
      | apply planCut_waits | apply lgvCut_waits | apply holdUnanswered_waits | split | simp only [waits_mk_eq] | apply mk_waits)

theorem boundaryCut_waits {s : State} (h : Waits s) : Waits (boundaryCut s) := by
  unfold boundaryCut
  with_reducible repeat' (first
      | assumption | apply cutWork_waits | split)

theorem localBoundary_waits {s : State} (h : Waits s) : Waits (localBoundary s) := by
  unfold localBoundary
  with_reducible repeat' (first
      | assumption | apply swap_waits | apply cutWork_waits | split)

theorem attachJob_waits (step : Nat) {s : State} (hw : Waits s) : Waits (attachJob step s) := by
  unfold attachJob
  with_reducible repeat' (first
      | assumption | apply pktComplete_waits | apply pktDone_waits | apply setB_waits | apply foldl_waits | split | (intro _))

theorem strobe_waits (step : Nat) (launch : Option Nat) {s : State} (h : Waits s) : Waits (strobe step launch s) := by
  unfold strobe
  with_reducible repeat' (first
      | assumption | apply sendFault_waits | apply lateWake_waits | apply swap_waits | apply cutWork_waits | apply setB_waits
      | apply attachJob_waits | split | simp only [waits_mk_eq] | apply mk_waits)

theorem reactPhases_waits {s : State} (hw : Waits s) : Waits (reactPhases s) := by
  unfold reactPhases
  with_reducible repeat' (first
      | assumption | apply raiseTarget_waits | apply setRail_waits | apply shedTo_waits | dsimp only
      | apply foldl_waits | split | (intro _))

/-! ### Reset.lean -/

theorem evrReset_waits {s : State} (hw : Waits s) : Waits (evrReset s) := by
  unfold evrReset
  with_reducible repeat' (first
      | assumption | apply showOldest_waits | simp only [waits_mk_eq] | apply mk_waits)

theorem drain_waits (n : Nat) {s : State} (h : Waits s) : Waits (drain n s) := by
  induction n generalizing s with
  | zero => exact h
  | succ n ih =>
    unfold drain
    split
    · exact h
    · exact ih (ite_waits (recordPost_waits h) (faultMessage_waits h))

theorem resetFlush_waits {s : State} (hw : Waits s) : Waits (resetFlush s) := by
  unfold resetFlush
  with_reducible repeat' (first
      | assumption | apply holdBeats_waits | apply flushNow_waits | apply drain_waits)

theorem resetRecord_waits (kind : Nat) (agent : Option Nat) {s : State} (hw : Waits s) : Waits (resetRecord kind agent s) := by
  unfold resetRecord
  with_reducible repeat' (first
      | assumption | apply setF_waits | apply incF_waits | dsimp only | split)

theorem dropWork_waits {s : State} (h : Waits s) : Waits (dropWork s) := by
  simp [dropWork, h]

theorem mgmtReset_waits {s : State} (h : Waits s) : Waits (mgmtReset s) :=
  pmbReset_waits (by simp [h, CmdState.reset])

theorem unitsReset_waits {s : State} (hw : Waits s) : Waits (unitsReset s) := by
  unfold unitsReset
  with_reducible repeat' (first
      | assumption | simp only [waits_mk_eq] | apply mk_waits)

theorem timeReset_waits {s : State} (h : Waits s) : Waits (timeReset s) := by
  unfold timeReset
  with_reducible repeat' (first
      | assumption | simp only [waits_mk_eq] | apply mk_waits)

theorem coldValues_waits (seed : Bool) {s : State} (hw : Waits s) : Waits (coldValues seed s) := by
  unfold coldValues
  with_reducible repeat' (first
      | assumption | apply keepRegs_waits | apply dropWork_waits | apply mgmtReset_waits | apply unitsReset_waits
      | apply timeReset_waits | apply setW_waits | apply setEvr_waits | apply keepBound_waits | apply evrReset_waits
      | simp only [waits_mk_eq] | apply mk_waits)

theorem coldGo_waits (kind : Nat) {s : State} (hw : Waits s) : Waits (coldGo kind s) := by
  unfold coldGo
  with_reducible repeat' (first
      | assumption | apply setF_waits | apply resetRecord_waits | apply showActive_waits | apply coldPhases_waits
      | apply beginStart_waits | dsimp only | split)

theorem coldStart_waits {s : State} (h : Waits s) : Waits (coldStart s) := by
  unfold coldStart
  with_reducible repeat' (first
      | assumption | apply coldValues_waits | apply incF_waits | apply coldGo_waits | simp only [waits_mk_eq] | apply mk_waits)

theorem clearEnds_waits {s : State} (hw : Waits s) : Waits (clearEnds s) := by
  unfold clearEnds
  with_reducible repeat' (first
      | assumption | apply setSta_waits)

theorem moduleReset_waits {s : State} (hw : Waits s) : Waits (moduleReset s) := by
  unfold moduleReset
  with_reducible repeat' (first
      | assumption | apply quickStop_waits | apply setB_waits | apply hbStop_waits | apply setF_waits | apply pmbReset_waits
      | apply setCore_waits | apply setComps_waits | apply wdtStop_waits | simp only [waits_mk_eq] | apply mk_waits
      | apply foldl_waits | split | (intro _))

theorem planStopped_waits (old : State) {s : State} (hw : Waits s) : Waits (planStopped old s) := by
  unfold planStopped
  with_reducible repeat' (first
      | assumption | apply event_waits | split)

theorem resetValues_waits {s : State} (hw : Waits s) : Waits (resetValues s) := by
  unfold resetValues
  with_reducible repeat' (first
      | assumption | apply keepRegs_waits | apply dropWork_waits | apply evrReset_waits | apply mgmtReset_waits
      | apply unitsReset_waits | apply timeReset_waits | apply setB_waits | apply applySelect_waits | apply balClear_waits
      | apply droopRestart_waits | apply planStopped_waits | apply boundShow_waits | apply reactPhases_waits
      | apply singleTrip_waits | simp only [waits_mk_eq] | apply mk_waits | apply foldl_waits | split | (intro _))

theorem resetRelease_waits {s : State} (hw : Waits s) : Waits (resetRelease s) := by
  unfold resetRelease
  with_reducible repeat' (first
      | assumption | apply regate_waits | apply releaseBeats_waits | apply setLaunchRate_waits | apply setRate_waits)

theorem resetNotice_waits {s : State} (hw : Waits s) : Waits (resetNotice s) := by
  unfold resetNotice
  with_reducible repeat' (first
      | assumption | apply lateHold_waits | split)

theorem restartNow_waits (kind : Nat) (agent : Nat) {s : State} (hw : Waits s) : Waits (restartNow kind agent s) := by
  unfold restartNow
  with_reducible repeat' (first
      | assumption | apply resetRelease_waits | apply resetValues_waits | apply resetFlush_waits | apply resetNotice_waits
      | apply resetRecord_waits | apply event_waits | dsimp only | split)

theorem restart_waits (kind : Nat) (agent : Nat) {s : State} (hw : Waits s) : Waits (restart kind agent s) := by
  unfold restart
  with_reducible repeat' (first
      | assumption | apply setUpd_waits | apply wakeBegin_waits | apply restartNow_waits | dsimp only | split)

theorem blockRestart_waits (agent : Nat) (val : Nat) {s : State} (hw : Waits s) : Waits (blockRestart agent val s) := by
  unfold blockRestart
  with_reducible repeat' (first
      | assumption | apply restart_waits | split)

theorem trustZero_waits {s : State} (hw : Waits s) : Waits (trustZero s) := by
  unfold trustZero
  with_reducible repeat' (first
      | assumption | apply trustEnter_waits | apply setF_waits | apply setB_waits | apply setEst_waits | split)

theorem moduleRelease_waits {s : State} (hw : Waits s) : Waits (moduleRelease s) := by
  unfold moduleRelease
  with_reducible repeat' (first
      | assumption | apply coldGo_waits | apply planStopped_waits | apply coldValues_waits | simp only [waits_mk_eq]
      | apply mk_waits | split)

theorem lgvZero_waits {s : State} (hw : Waits s) : Waits (lgvZero s) := by
  unfold lgvZero
  with_reducible repeat' (first
      | assumption | apply setB_waits | apply setF_waits | apply setLgv_waits)

theorem deepExit_waits {s : State} (hw : Waits s) : Waits (deepExit s) := by
  unfold deepExit
  with_reducible repeat' (first
      | assumption | apply setF_waits | apply trustZero_waits | apply lgvZero_waits | apply dropH_waits | apply setSns_waits
      | apply reactPhases_waits | apply floorNext_waits | apply balClear_waits | apply abandonRounds_waits | apply foldl_waits
      | (intro _))

theorem latenessZero_waits {s : State} (hw : Waits s) : Waits (latenessZero s) := by
  unfold latenessZero
  with_reducible repeat' (first
      | assumption | apply dropH_waits | simp only [waits_mk_eq] | apply mk_waits)

theorem restEnded_waits {s : State} (hw : Waits s) : Waits (restEnded s) := by
  unfold restEnded
  with_reducible repeat' (first
      | assumption | apply clearEnds_waits | apply releaseBeats_waits | apply deepExit_waits | apply latenessZero_waits
      | dsimp only | split)

theorem resetOwed_waits {s : State} (hw : Waits s) : Waits (resetOwed s) := by
  unfold resetOwed
  with_reducible repeat' (first
      | assumption | apply restartNow_waits | apply setUpd_waits | dsimp only | split)

theorem chipReset_waits {s : State} (hw : Waits s) : Waits (chipReset s) := by
  unfold chipReset
  with_reducible repeat' (first
      | assumption | apply restart_waits)

theorem restExit_waits {s : State} (hw : Waits s) : Waits (restExit s) := by
  unfold restExit
  with_reducible repeat' (first
      | assumption | apply exitDone_waits | apply deepExit_waits | apply latenessZero_waits | apply resetOwed_waits
      | apply refreshRate_waits | dsimp only | split)

/-! ### Bus.lean -/

theorem setBus_waits (b : BusState) {s : State} (hw : Waits s) : Waits (setBus b s) := by
  unfold setBus
  with_reducible repeat' (first
      | assumption | simp only [waits_mk_eq] | apply mk_waits)

theorem deny_waits (agent : Nat) (o : Nat) (write : Bool) {s : State} (hw : Waits s) : Waits (deny agent o write s) := by
  unfold deny
  with_reducible repeat' (first
      | assumption | apply setB_waits | apply setF_waits | apply sendFault_waits | apply setBus_waits | dsimp only
      | split)

theorem busError_waits (flag : Fld) (agent : Nat) (o : Nat) {s : State} (hw : Waits s) : Waits (busError flag agent o s) := by
  unfold busError
  with_reducible repeat' (first
      | assumption | apply setF_waits | apply setB_waits | split)

theorem estCmd_waits (val : Nat) {s : State} (hw : Waits s) : Waits (estCmd val s) := by
  unfold estCmd
  with_reducible repeat' (first
      | assumption | apply estRetry_waits | apply estCalReset_waits | dsimp only | split)

theorem seqCmd_waits (val : Nat) {s : State} (hw : Waits s) : Waits (seqCmd val s) := by
  unfold seqCmd
  with_reducible repeat' (first
      | assumption | apply seqStart_waits | apply seqStop_waits | dsimp only | split)

theorem attachWrite_waits (agent : Nat) (val : Nat) {s : State} (hw : Waits s) : Waits (attachWrite agent val s) := by
  unfold attachWrite
  with_reducible repeat' (first
      | assumption | apply hostAttach_waits | apply ringAll_waits | dsimp only | split)

theorem winWrite_waits (agent : Nat) (o : Nat) (val : Nat) {s : State} (hw : Waits s) : Waits (winWrite agent o val s) := by
  unfold winWrite
  with_reducible repeat' (first
      | assumption | apply sramStore_waits | apply setCmd_waits | apply Waits.pkts)

theorem ownWrite_waits (agent : Nat) (o : Nat) (val : Nat) {s : State} (hw : Waits s) : WaitsO (ownWrite agent o val s) := by
  unfold ownWrite
  with_reducible repeat' (first
      | assumption | apply detExclWrite_waits | apply estCmd_waits | apply capRelease_waits | apply phcRetiredWrite_waits
      | apply seqCmd_waits | apply latchClear_waits | apply thermLimWrite_waits | apply suspectClearWrite_waits
      | apply suspectSetWrite_waits | apply enterSafe_waits | apply staWake_waits | apply blockRestart_waits | apply wdtKick_waits
      | apply hostAlive_waits | apply attachWrite_waits | apply setBus_waits | apply gateOpen_waits | apply gateClose_waits
      | apply winWrite_waits | apply ringCfgWrite_waits | apply ringCqWrite_waits | apply ringDoorbell_waits
      | apply cqHeadWrite_waits | apply mbxWrite_waits | apply hbKick_waits | apply flcInject_waits | apply severeClear_waits
      | apply kxNew_waits | dsimp only | apply waitsO_some | apply waitsO_none | split)

theorem writeField_waits (agent : Nat) (o : Nat) (val : Nat) (f : FldDesc) {s : State} (hw : Waits s) : Waits (writeField agent o val f
    s) := by
  unfold writeField
  with_reducible repeat' (first
      | assumption | apply landPut_waits | apply pendPut_waits | apply setF_waits | dsimp only | split)

theorem plainWrite_waits (agent : Nat) (o : Nat) (val : Nat) {s : State} (hw : Waits s) : Waits (plainWrite agent o val s) := by
  unfold plainWrite
  with_reducible repeat' (first
      | assumption | apply reactNote_waits | apply writeField_waits | apply foldl_waits | (intro _))

theorem landWord_waits (agent : Nat) (o : Nat) (val : Nat) {s : State} (h : Waits s) : Waits (landWord agent o val s) := by
  unfold landWord
  split
  · exact h
  · split
    · exact ownWrite_waits _ _ _ h _ (by assumption)
    · exact plainWrite_waits _ _ _ h

theorem busWrite_waits (agent : Nat) (o : Nat) (val : Nat) (be : Nat) {s : State} (hw : Waits s) : Waits (busWrite agent o val be s) :=
    by
  unfold busWrite
  with_reducible repeat' (first
      | assumption | apply deny_waits | apply ringDoorbell_waits | apply busError_waits | apply setBus_waits
      | apply landWord_waits | dsimp only | split)

theorem sramRead_waits (w : Nat) {s : State} (hw : Waits s) : Waits (sramRead w s) := by
  unfold sramRead
  with_reducible repeat' (first
      | assumption | apply incF_waits | apply freeNext_waits | apply setBus_waits | dsimp only | split)

theorem clearRc_waits (o : Nat) {s : State} (hw : Waits s) : Waits (clearRc o s) := by
  unfold clearRc
  with_reducible repeat' (first
      | assumption | apply setF_waits | apply foldl_waits | (intro _))

theorem readEffects_waits (agent : Nat) (o : Nat) (tag : Option Bool) {s : State} (hw : Waits s) : Waits (readEffects agent o tag s) :=
    by
  unfold readEffects
  with_reducible repeat' (first
      | assumption | apply sramRead_waits | apply evrWinRead_waits | apply freeNext_waits | apply setBus_waits
      | apply clearRc_waits | dsimp only | split)

theorem busRead_waits (agent : Nat) (o : Nat) (tag : Option Bool) {s : State} (hw : Waits s) : Waits (busRead agent o tag s) := by
  unfold busRead
  with_reducible repeat' (first
      | assumption | apply setBus_waits | apply deny_waits | apply busError_waits | apply mbxRead_waits | apply readEffects_waits
      | dsimp only | split)

/-! ### Packet.lean -/

theorem seqCheck_waits (p : Pkt) {s : State} (hw : Waits s) : Waits (seqCheck p s).1 := by
  unfold seqCheck
  with_reducible repeat' (first
      | assumption | apply setB_waits | apply setF_waits | apply incF_waits | dsimp only | split)

theorem taggedCompletion_waits {s : State} (hw : Waits s) : Waits (taggedCompletion s) := by
  unfold taggedCompletion
  with_reducible repeat' (first
      | assumption | apply pktComplete_waits | dsimp only | split)

theorem doFlush_waits (p : Pkt) {s : State} (hw : Waits s) : Waits (doFlush p s) := by
  unfold doFlush
  with_reducible repeat' (first
      | assumption | apply flushBegin_waits | apply outstand_waits)

theorem doJobAttach_waits (p : Pkt) {s : State} (hw : Waits s) : Waits (doJobAttach p s) := by
  unfold doJobAttach
  with_reducible repeat' (first
      | assumption | apply outstand_waits | apply setCmd_waits | apply Waits.pkts)

theorem fetchDone_waits (q : Nat) (data : List Nat) (ok : Bool) {s : State} (hw : Waits s) : Waits (fetchDone q data ok s) := by
  unfold fetchDone
  with_reducible repeat' (first
      | assumption | apply pktUpd_waits | exact fun _ => rfl | apply sendFault_waits | apply pktComplete_waits
      | apply pktDone_waits | dsimp only | split)

theorem gatePut_waits (x : OutPkt) (k v : Nat) {s : State} (h : Waits s) : Waits (gatePut x k v s) :=
  reactNote_waits _ (by simp [h])

theorem gateItem_waits (x : OutPkt) (i : Nat × Nat × Nat) {s : State} (hw : Waits s) : Waits (gateItem x i s) := by
  unfold gateItem
  with_reducible repeat' (first
      | assumption | apply gatePut_waits | dsimp only | apply foldl_waits | split | (intro _))

theorem gateAll_waits (x : OutPkt) {s : State} (hw : Waits s) : Waits (gateAll x s) := by
  unfold gateAll
  with_reducible repeat' (first
      | assumption | apply gateItem_waits | apply gatePut_waits | apply pktUpd_waits | exact fun _ => rfl | apply addAct_waits
      | dsimp only | apply foldl_waits | split | (intro _))

theorem tryGate_waits (id : Nat) {s : State} (hw : Waits s) : Waits (tryGate id s) := by
  unfold tryGate
  with_reducible repeat' (first
      | assumption | apply gateAll_waits | split)

theorem tagged_waits (p : Pkt) (act : Option ActKind) {s : State} (hw : Waits s) : Waits (tagged p act s) := by
  unfold tagged
  with_reducible repeat' (first
      | assumption | apply tryGate_waits | apply outstand_waits)

theorem doScrubEnd_waits (p : Pkt) {s : State} (hw : Waits s) : Waits (doScrubEnd p s) := by
  unfold doScrubEnd
  with_reducible repeat' (first
      | assumption | apply tagged_waits)

theorem haltRing_waits (p : Pkt) (bad : Bool) (i : Nat) {s : State} (hw : Waits s) : Waits (haltRing p bad i s) := by
  unfold haltRing
  with_reducible repeat' (first
      | assumption | apply setRingSt_waits | apply complete_waits | apply sendFault_waits)

theorem finish_waits (p : Pkt) (status : Nat) (applied : Nat) (detail : Nat) {s : State} (hw : Waits s) : Waits (finish p status
    applied detail s) := by
  unfold finish
  with_reducible repeat' (first
      | assumption | apply ringRoom_waits | apply complete_waits)

theorem dispatchSound_waits (p : Pkt) (run : Pkt → State → State) {s : State} (hrun : ∀ p t, Waits t → Waits (run p t)) (hw : Waits s)
    : Waits (dispatchSound p run s) := by
  unfold dispatchSound
  with_reducible repeat' (first
      | assumption | apply hrun | apply setF_waits | apply served_waits | apply seqCheck_waits | apply finish_waits
      | apply ringRoom_waits | dsimp only | split)

theorem dispatchHead_waits (q : Nat) (run : Pkt → State → State) {s : State} (hrun : ∀ p t, Waits t → Waits (run p t)) (hw : Waits s) :
    Waits (dispatchHead q run s) := by
  unfold dispatchHead
  with_reducible repeat' (first
      | assumption | apply haltRing_waits | apply incF_waits | apply dispatchSound_waits | dsimp only | split)

theorem cutBlocks_waits (op : Nat) {s : State} (hw : Waits s) : Waits (cutBlocks op s) := by
  unfold cutBlocks
  with_reducible repeat' (first
      | assumption | apply pktDone_waits | apply foldl_waits | (intro _))

theorem cutComp_waits (c : Nat) {s : State} (h : Waits s) : Waits (cutComp c s) := by
  unfold cutComp
  split
  · exact foldl_waits (fun _ x ht => abandonXfer_waits _ _ (fun _ hu => (progTarget_waits x hu).2.2.2.1) ht)
      (cutBlocks_waits _ (gateDiscard_waits h))
  · exact cutBlocks_waits _ (showUpd_waits (endTransfers_waits _ h))
  · exact abandonXfer_waits _ _ (fun _ hu => (planTarget_waits hu).2.2.2.1) (cutBlocks_waits _ h)
  · exact abandonRounds_waits h
  · exact h

theorem doJobDetach_waits (p : Pkt) {s : State} (hw : Waits s) : Waits (doJobDetach p s) := by
  unfold doJobDetach
  with_reducible repeat' (first
      | assumption | apply tagged_waits)

theorem doScrubBegin_waits (p : Pkt) {s : State} (hw : Waits s) : Waits (doScrubBegin p s) := by
  unfold doScrubBegin
  with_reducible repeat' (first
      | assumption | apply tagged_waits)

theorem doAssign_waits (p : Pkt) {s : State} (hw : Waits s) : Waits (doAssign p s) := by
  unfold doAssign
  with_reducible repeat' (first
      | assumption | apply tagged_waits)

theorem cutStopped_waits (was : State) {s : State} (hw : Waits s) : Waits (cutStopped was s) := by
  unfold cutStopped
  with_reducible repeat' (first
      | assumption | apply cutComp_waits | apply foldl_waits | split | (intro _))

theorem doAbort_waits (p : Pkt) {s : State} (hw : Waits s) : Waits (doAbort p s) := by
  unfold doAbort
  with_reducible repeat' (first
      | assumption | apply updAbort_waits | apply finish_waits | apply cutStopped_waits | apply pktComplete_waits
      | dsimp only | apply foldl_waits | split | (intro _))

theorem blockLost_waits (x : OutPkt) {s : State} (h : Waits s) : Waits (blockLost x s) := by
  unfold blockLost
  split
  · exact h
  · split
    · exact (planTarget_waits h).2.2.2.2
    · exact (progTarget_waits _ h).2.2.2.2
    · exact h

theorem takeArrived_waits (x : OutPkt) (rootOk sigOk : Bool) {s : State} (h : Waits s) : Waits (takeArrived x rootOk sigOk s) := by
  unfold takeArrived
  extract_lets off got r
  split
  · exact pktComplete_waits _ _ _ _ (blockLost_waits _ h)
  have hr : Waits r.1 := by
    unfold r; split
    · have ht := fun {u : State} (hu : Waits u) => planTarget_waits hu
      exact takeBlock_waits _ _ _ _ (fun m _ hu => (ht hu).1 m) (fun d _ hu => (ht hu).2.1 d) (fun m _ hu => (ht hu).2.2.1 m)
        (fun _ hu => (ht hu).2.2.2.1) (fun _ hu => (ht hu).2.2.2.2) h
    · have ht := fun {u : State} (hu : Waits u) => progTarget_waits (nth x.body 6) hu
      exact takeBlock_waits _ _ _ _ (fun m _ hu => (ht hu).1 m) (fun d _ hu => (ht hu).2.1 d) (fun m _ hu => (ht hu).2.2.1 m)
        (fun _ hu => (ht hu).2.2.2.1) (fun _ hu => (ht hu).2.2.2.2) h
    · exact updBlock_waits _ _ _ _ _ h
  split
  · refine setUpd_waits _ (pktUpd_waits _ ?_ hr)
    exact fun _ => rfl
  · exact pktComplete_waits _ _ _ _ hr

theorem doPlanStop_waits (p : Pkt) {s : State} (hw : Waits s) : Waits (doPlanStop p s) := by
  unfold doPlanStop
  with_reducible repeat' (first
      | assumption | apply tagged_waits)

theorem failing_waits (f : State → State) {s : State} (hf : ∀ t, Waits t → Waits (f t)) (hw : Waits s) : Waits (failing f s) := by
  unfold failing
  with_reducible repeat' (first
      | assumption | apply cutStopped_waits | apply trialGuard_waits)

theorem doConfirm_waits (p : Pkt) {s : State} (hw : Waits s) : Waits (doConfirm p s) := by
  unfold doConfirm
  with_reducible repeat' (first
      | assumption | apply finish_waits | apply confirm_waits)

theorem doConfMode_waits (p : Pkt) {s : State} (hw : Waits s) : Waits (doConfMode p s) := by
  unfold doConfMode
  with_reducible repeat' (first
      | assumption | apply tagged_waits)

theorem doRegRead_waits (p : Pkt) {s : State} (hw : Waits s) : Waits (doRegRead p s) := by
  unfold doRegRead
  with_reducible repeat' (first
      | assumption | apply busRead_waits | apply finish_waits)

theorem doNop_waits (p : Pkt) {s : State} (hw : Waits s) : Waits (doNop p s) := by
  unfold doNop
  with_reducible repeat' (first
      | assumption | apply finish_waits | apply tagged_waits | split)

theorem packetRow_waits (mine : Nat → Bool) (q : Nat) (run : Pkt → State → State) {s : State} (hrun : ∀ p t, Waits t → Waits (run p t))
    (hw : Waits s) : Waits (packetRow mine q run s) := by
  unfold packetRow
  with_reducible repeat' (first
      | assumption | apply dispatchHead_waits | split)

theorem doBlock_waits (p : Pkt) {s : State} (hw : Waits s) : Waits (doBlock p s) := by
  unfold doBlock
  with_reducible repeat' (first
      | assumption | apply outstand_waits)

theorem blockRow_waits (op : Nat) (q : Nat) (rootOk : Bool) (sigOk : Bool) {s : State} (hw : Waits s) : Waits (blockRow op q rootOk
    sigOk s) := by
  unfold blockRow
  with_reducible repeat' (first
      | assumption | apply takeArrived_waits | apply packetRow_waits | apply doBlock_waits | split)

theorem doSetCap_waits (p : Pkt) {s : State} (hw : Waits s) : Waits (doSetCap p s) := by
  unfold doSetCap
  with_reducible repeat' (first
      | assumption | apply tagged_waits)

theorem doSbKey_waits (opens : Bool) (key : Nat) (p : Pkt) {s : State} (hw : Waits s) : Waits (doSbKey opens key p s) := by
  unfold doSbKey
  with_reducible repeat' (first
      | assumption | apply finish_waits | apply unwrapFail_waits | apply tagged_waits | split)

theorem doWatch_waits (p : Pkt) {s : State} (hw : Waits s) : Waits (doWatch p s) := by
  unfold doWatch
  with_reducible repeat' (first
      | assumption | apply tagged_waits)

theorem doLogKey_waits (p : Pkt) {s : State} (hw : Waits s) : Waits (doLogKey p s) := by
  unfold doLogKey
  with_reducible repeat' (first
      | assumption | apply keyRotate_waits | apply finish_waits)

theorem doActivate_waits (p : Pkt) {s : State} (hw : Waits s) : Waits (doActivate p s) := by
  unfold doActivate
  with_reducible repeat' (first
      | assumption | apply activateAccept_waits | apply outstand_waits)

theorem taggedResume_waits {s : State} (hw : Waits s) : Waits (taggedResume s) := by
  unfold taggedResume
  with_reducible repeat' (first
      | assumption | apply gateAll_waits | split)

theorem doRegWrite_waits (p : Pkt) {s : State} (hw : Waits s) : Waits (doRegWrite p s) := by
  unfold doRegWrite
  with_reducible repeat' (first
      | assumption | apply tagged_waits | apply busWrite_waits | apply finish_waits | dsimp only | apply foldl_waits
      | split | (intro _))

theorem doMark_waits (p : Pkt) {s : State} (hw : Waits s) : Waits (doMark p s) := by
  unfold doMark
  with_reducible repeat' (first
      | assumption | apply outstand_waits | apply freeNext_waits | apply incF_waits | apply pktComplete_waits
      | simp only [waits_mk_eq] | apply mk_waits | split)

theorem doGetCap_waits (p : Pkt) {s : State} (hw : Waits s) : Waits (doGetCap p s) := by
  unfold doGetCap
  with_reducible repeat' (first
      | assumption | apply finish_waits)

theorem doPolicy_waits (p : Pkt) {s : State} (hw : Waits s) : Waits (doPolicy p s) := by
  unfold doPolicy
  with_reducible repeat' (first
      | assumption | apply tagged_waits)

/-! ### Advance.lean -/

theorem limitRow_waits {s : State} (hw : Waits s) : Waits (limitRow s) := by
  unfold limitRow
  with_reducible repeat' (first
      | assumption | apply safeNow_waits | apply restartLimit_waits | split)

theorem onGrid_waits (n : Nat) (f : State → State) {s : State} (hf : ∀ t, Waits t → Waits (f t)) (hw : Waits s) : Waits (onGrid n f s)
    := by
  unfold onGrid
  with_reducible repeat' (first
      | assumption | apply hf | split)

theorem byComp_waits (c : Nat) (f : State → State) {s : State} (hf : ∀ t, Waits t → Waits (f t)) (hw : Waits s) : Waits (byComp c f s)
    := by
  unfold byComp
  with_reducible repeat' (first
      | assumption | apply hf | split)

theorem coreInject_waits (c : Nat) {s : State} (hw : Waits s) : Waits (coreInject c s) := by
  unfold coreInject
  with_reducible repeat' (first
      | assumption | apply setF_waits | apply setB_waits | apply incF_waits | apply failing_waits | apply coreException_waits
      | apply freeNext_waits | dsimp only | split | (intro _))

theorem checkInRow_waits (c : Nat) {s : State} (hw : Waits s) : Waits (checkInRow c s) := by
  unfold checkInRow
  with_reducible repeat' (first
      | assumption | apply byComp_waits | apply coreInject_waits | apply checkIn_waits | (intro _))

theorem vaonRestored_waits (v : Nat) {s : State} (h : Waits s) : Waits (vaonRestored v s) := by
  unfold vaonRestored
  with_reducible repeat' (first
      | assumption | apply setB_waits | simp only [waits_mk_eq] | apply mk_waits)

theorem vaonCollapse_waits {s : State} (hw : Waits s) : Waits (vaonCollapse s) := by
  unfold vaonCollapse
  with_reducible repeat' (first
      | assumption | apply setB_waits | simp only [waits_mk_eq] | apply mk_waits)

theorem busAccess_waits (agent : Nat) (o : Nat) (write : Bool) (val : Nat) (be : Nat) {s : State} (hw : Waits s) : Waits (busAccess
    agent o write val be s) := by
  unfold busAccess
  with_reducible repeat' (first
      | assumption | apply busWrite_waits | apply busRead_waits | split)

theorem overrideFall_waits {s : State} (hw : Waits s) : Waits (overrideFall s) := by
  unfold overrideFall
  with_reducible repeat' (first
      | assumption | apply setB_waits | apply setPmb_waits | split)

theorem settle_waits {s : State} (hw : Waits s) : Waits (settle s) := by
  unfold settle
  with_reducible repeat' (first
      | assumption | apply pmbWatch_waits | apply overrideFall_waits | apply restEnded_waits | split)

theorem systime_waits (ok : Bool) (time : Nat) {s : State} (h : Waits s) : Waits (systime ok time s) := by
  unfold systime
  with_reducible repeat' (first
      | assumption | apply setB_waits | split | simp only [waits_mk_eq] | apply mk_waits)

theorem snapFinish_waits {s : State} (hw : Waits s) : Waits (snapFinish s) := by
  unfold snapFinish
  with_reducible repeat' (first
      | assumption | apply snapRead_waits | apply foldl_waits | (intro _))

theorem pmInvalid_waits (pec : Bool) (n : Nat) {s : State} (hw : Waits s) : Waits (pmInvalid pec n s) := by
  unfold pmInvalid
  with_reducible repeat' (first
      | assumption | apply cmlInvalid_waits | apply latch_waits | split)

theorem pmEnergy_waits (m : Nat) {s : State} (hw : Waits s) : Waits (pmEnergy m s) := by
  unfold pmEnergy
  with_reducible repeat' (first
      | assumption | apply replyWith_waits | apply cmlInvalid_waits | split)

theorem pmBusData_waits (w : Option Nat) (pec : Bool) {s : State} (hw : Waits s) : Waits (pmBusData w pec s) := by
  unfold pmBusData
  with_reducible repeat' (first
      | assumption | apply setPmb_waits | apply pecOr_waits | apply busWrite_waits | apply busRead_waits | apply replyWith_waits
      | dsimp only | split | (intro _))

theorem powerFail_waits {s : State} (hw : Waits s) : Waits (powerFail s) := by
  unfold powerFail
  with_reducible repeat' (first
      | assumption | apply ownRec_waits | apply snapFinish_waits | apply pwrFailFall_waits | apply flushBegin_waits
      | apply drain_waits | dsimp only | split)

theorem vaonLow_waits (lowest : Nat) {s : State} (h : Waits s) : Waits (vaonLow lowest s) := by
  unfold vaonLow
  with_reducible repeat' (first
      | assumption | apply setB_waits | apply sendFault_waits | split | simp only [waits_mk_eq] | apply mk_waits)

/-! ### Time passes -/

theorem passTime_waits (dt : Nat) {s : State} (h : Waits s) : Waits (passTime dt s) := by
  unfold passTime
  with_reducible repeat' (first
      | assumption | simp only [waits_mk_eq] | apply mk_waits)

theorem refclk_waits (on : Bool) {s : State} (h : Waits s) : Waits (refclk on s) := by
  unfold refclk
  with_reducible repeat' (first
      | assumption | simp only [waits_mk_eq] | apply mk_waits)

theorem advance_waits (dt : Nat) {s : State} (h : Waits s) : Waits (advance dt s) :=
  clearEnds_waits (landAdvance_waits _ (updWatch_waits (psqAdvance_waits _ (passTime_waits dt (drgAdvance_waits _ (phcAdvance_waits _ h))))))

/-! ### WellFormed: for each check an ill-formed term, which it refuses, beside a term that passes -/

/-! ### Small states -/

/-! ### The effect of one command -/

/-! ### The machine as a whole -/


/-! ### Every command -/

theorem waits_of_exec {i : Instr} {dt : Nat} {f : State → State} {s t : State} (hf : exec i s = act i dt f s)
    (he : exec i s = .next t) (h : Waits (advance dt s)) (hw : ∀ u, Waits u → Waits (f u)) : Waits t := by
  rw [(act_next (hf.symm.trans he)).2]
  exact settle_waits (hw _ h)

/-- Every command keeps what waits in canonical form. -/
theorem exec_waits {i : Instr} {s t : State} (h : Waits (advance i.delay s)) (he : exec i s = .next t) : Waits t := by
  cases i with
  | stepBoundaryStrobe => exact waits_of_exec (exec_stepBoundaryStrobe ..) he h fun _ hw => strobe_waits _ _ hw
  | boundaryCut => exact waits_of_exec (exec_boundaryCut ..) he h fun _ hw => boundaryCut_waits hw
  | localBoundary => exact waits_of_exec (exec_localBoundary ..) he h fun _ hw => localBoundary_waits hw
  | boundarySourceLocal => exact waits_of_exec (exec_boundarySourceLocal ..) he h fun _ hw => sourceLocal_waits hw
  | systimeCoherent => exact waits_of_exec (exec_systimeCoherent ..) he h fun _ hw => systime_waits _ _ hw
  | vaonLow => exact waits_of_exec (exec_vaonLow ..) he h fun _ hw => vaonLow_waits _ hw
  | vaonCollapse => exact waits_of_exec (exec_vaonCollapse ..) he h fun _ hw => vaonCollapse_waits hw
  | registerWrite => exact waits_of_exec (exec_registerWrite ..) he h fun _ hw => busWrite_waits _ _ _ _ hw
  | rwWriteApply => exact waits_of_exec (exec_rwWriteApply ..) he h fun _ hw => applyLanding_waits hw
  | unmappedAccess => exact waits_of_exec (exec_unmappedAccess ..) he h fun _ hw => busAccess_waits _ _ _ _ _ hw
  | wideReadLowWord => exact waits_of_exec (exec_wideReadLowWord ..) he h fun _ hw => busRead_waits _ _ _ hw
  | wideWriteLowWord => exact waits_of_exec (exec_wideWriteLowWord ..) he h fun _ hw => busWrite_waits _ _ _ _ hw
  | rcFieldRead => exact waits_of_exec (exec_rcFieldRead ..) he h fun _ hw => busRead_waits _ _ _ hw
  | deniedAccess => exact waits_of_exec (exec_deniedAccess ..) he h fun _ hw => busAccess_waits _ _ _ _ _ hw
  | senseSample => exact waits_of_exec (exec_senseSample ..) he h fun _ hw => onGrid_waits _ _ (fun _ ht => senseSample_waits _ _ ht) hw
  | windowClose1us => exact waits_of_exec (exec_windowClose1us ..) he h fun _ hw => onGrid_waits _ _ (fun _ ht => windowClose1_waits ht) hw
  | windowClose10us =>
    exact waits_of_exec (exec_windowClose10us ..) he h fun _ hw => onGrid_waits _ _ (fun _ ht => windowClose10_waits ht) hw
  | busSample => exact waits_of_exec (exec_busSample ..) he h fun _ hw => onGrid_waits _ _ (fun _ ht => busSample_waits _ _ ht) hw
  | xchkRound => exact waits_of_exec (exec_xchkRound ..) he h fun _ hw => onGrid_waits _ _ (fun _ ht => xchkClose_waits ht) hw
  | busXchkSuspect =>
    exact waits_of_exec (exec_busXchkSuspect ..) he h fun _ hw => bandFollow_waits (suspectRow_waits _ (busXchkSuspect_waits hw))
  | measSuspectClear =>
    exact waits_of_exec (exec_measSuspectClear ..) he h fun _ hw => bandFollow_waits (suspectRow_waits _ (measSuspectClear_waits hw))
  | imonRange => exact waits_of_exec (exec_imonRange ..) he h fun _ hw => imonRange_waits _ hw
  | senseOpen => exact waits_of_exec (exec_senseOpen ..) he h fun _ hw => senseOpen_waits _ hw
  | vcoreSenseSplit => exact waits_of_exec (exec_vcoreSenseSplit ..) he h fun _ hw => senseSplit_waits hw
  | busVRange => exact waits_of_exec (exec_busVRange ..) he h fun _ hw => busVRange_waits hw
  | droopLevelChange => exact waits_of_exec (exec_droopLevelChange ..) he h fun _ hw => droopLevelChange_waits _ _ _ hw
  | droopDetStuck => exact waits_of_exec (exec_droopDetStuck ..) he h fun _ hw => droopDetStuck_waits _ _ hw
  | detExclWrite => exact waits_of_exec (exec_detExclWrite ..) he h fun _ hw => busWrite_waits _ _ _ _ hw
  | stretchHoldLong => exact waits_of_exec (exec_stretchHoldLong ..) he h fun _ hw => stretchHoldLong_waits _ hw
  | activityFeature => exact waits_of_exec (exec_activityFeature ..) he h fun _ hw => activityFeature_waits _ _ hw
  | actEndOfWindow => exact waits_of_exec (exec_actEndOfWindow ..) he h fun _ hw => ite_waits (windowDone_waits _ hw) hw
  | actWindowStale => exact waits_of_exec (exec_actWindowStale ..) he h fun _ hw => windowStale_waits _ hw
  | actStreamStall => exact waits_of_exec (exec_actStreamStall ..) he h fun _ hw => actStall_waits hw
  | hksRound => exact waits_of_exec (exec_hksRound ..) he h fun _ hw => onGrid_waits _ _ (fun _ ht => hksRound_waits _ ht) hw
  | hksChannelInvalid => exact waits_of_exec (exec_hksChannelInvalid ..) he h fun _ hw => hksInvalid_waits _ hw
  | stgTlmRoundStart => exact waits_of_exec (exec_stgTlmRoundStart ..) he h fun _ hw => onGrid_waits _ _ (fun _ ht => tlmRound_waits ht) hw
  | stgTlmFrame => exact waits_of_exec (exec_stgTlmFrame ..) he h fun _ hw => tlmFrame_waits _ _ hw
  | stgTlmSilent => exact waits_of_exec (exec_stgTlmSilent ..) he h fun _ hw => tlmSilent_waits _ hw
  | estWindowSubstituted => exact waits_of_exec (exec_estWindowSubstituted ..) he h fun _ hw => ite_waits (windowSubst_waits hw) hw
  | estDisagree => exact waits_of_exec (exec_estDisagree ..) he h fun _ hw => tryRow_waits _ hw
  | estMismatch => exact waits_of_exec (exec_estMismatch ..) he h fun _ hw => tryRow_waits _ hw
  | estModelLost => exact waits_of_exec (exec_estModelLost ..) he h fun _ hw => tryRow_waits _ hw
  | estModelRestored => exact waits_of_exec (exec_estModelRestored ..) he h fun _ hw => tryRow_waits _ hw
  | estTrustAgree => exact waits_of_exec (exec_estTrustAgree ..) he h fun _ hw => tryRow_waits _ hw
  | estShadowAgree => exact waits_of_exec (exec_estShadowAgree ..) he h fun _ hw => tryRow_waits _ hw
  | calRound => exact waits_of_exec (exec_calRound ..) he h fun _ hw => calRound_waits hw
  | estCalClamp => exact waits_of_exec (exec_estCalClamp ..) he h fun _ hw => calClamp_waits _ hw
  | estRetry => exact waits_of_exec (exec_estRetry ..) he h fun _ hw => busWrite_waits _ _ _ _ hw
  | estCalReset => exact waits_of_exec (exec_estCalReset ..) he h fun _ hw => busWrite_waits _ _ _ _ hw
  | pxeSlot1Trigger => exact waits_of_exec (exec_pxeSlot1Trigger ..) he h fun _ hw => slot1Trigger_waits hw
  | pxeSlot3Trigger => exact waits_of_exec (exec_pxeSlot3Trigger ..) he h fun _ hw => slot3Trigger_waits hw
  | pxePublish => exact waits_of_exec (exec_pxePublish ..) he h fun _ hw => publishRow_waits _ _ hw
  | pxeOverrun => exact waits_of_exec (exec_pxeOverrun ..) he h fun _ hw => pxeOverrun_waits _ _ hw
  | pxeMemUncorrectable => exact waits_of_exec (exec_pxeMemUncorrectable ..) he h fun _ hw => pxeMemUncorrectable_waits _ _ _ hw
  | pxeCapRelease => exact waits_of_exec (exec_pxeCapRelease ..) he h fun _ hw => busWrite_waits _ _ _ _ hw
  | ffScheduleComputed => exact waits_of_exec (exec_ffScheduleComputed ..) he h fun _ hw => ffScheduleComputed_waits hw
  | ffAddAction => exact waits_of_exec (exec_ffAddAction ..) he h fun _ hw => ffAddAction_waits _ hw
  | ffLiftAction => exact waits_of_exec (exec_ffLiftAction ..) he h fun _ hw => ffLiftAction_waits hw
  | drgEvaluate => exact waits_of_exec (exec_drgEvaluate ..) he h fun _ hw => onGrid_waits _ _ (fun _ ht => drgEvaluate_waits ht) hw
  | launchMove => exact waits_of_exec (exec_launchMove ..) he h fun _ hw => launchMove_waits _ _ hw
  | vselLatch => exact waits_of_exec (exec_vselLatch ..) he h fun _ hw => vselLatch_waits _ hw
  | setpointRampDone => exact waits_of_exec (exec_setpointRampDone ..) he h fun _ hw => refreshRate_waits (setpointRampDone_waits _ hw)
  | deEnter => exact waits_of_exec (exec_deEnter ..) he h fun _ hw => deEnter_waits _ hw
  | phaseRampInDone => exact waits_of_exec (exec_phaseRampInDone ..) he h fun _ hw => phaseRampInDone_waits _ hw
  | phaseRampOutDone => exact waits_of_exec (exec_phaseRampOutDone ..) he h fun _ hw => phaseRampOutDone_waits _ hw
  | shedInhEnd => exact waits_of_exec (exec_shedInhEnd ..) he h fun _ hw => shedInhEnd_waits _ hw
  | allPhaseBurst => exact waits_of_exec (exec_allPhaseBurst ..) he h fun _ hw => allPhaseBurst_waits _ hw
  | burstEnd => exact waits_of_exec (exec_burstEnd ..) he h fun _ hw => burstEnd_waits _ hw
  | burstRearmEnd => exact waits_of_exec (exec_burstRearmEnd ..) he h fun _ hw => burstRearmEnd_waits hw
  | phaseOcTrip => exact waits_of_exec (exec_phaseOcTrip ..) he h fun _ hw => phaseOcTrip_waits _ hw
  | phaseOcRelease => exact waits_of_exec (exec_phaseOcRelease ..) he h fun _ hw => phaseOcRelease_waits _ hw
  | phaseFault => exact waits_of_exec (exec_phaseFault ..) he h fun _ hw => phaseFault_waits _ hw
  | phaseHot => exact waits_of_exec (exec_phaseHot ..) he h fun _ hw => phaseHot_waits _ hw
  | phaseImbalance => exact waits_of_exec (exec_phaseImbalance ..) he h fun _ hw => phaseImbalance_waits _ hw
  | phcRetiredWrite => exact waits_of_exec (exec_phcRetiredWrite ..) he h fun _ hw => busWrite_waits _ _ _ _ hw
  | seqStart => exact waits_of_exec (exec_seqStart ..) he h fun _ hw => busWrite_waits _ _ _ _ hw
  | seqStop => exact waits_of_exec (exec_seqStop ..) he h fun _ hw => busWrite_waits _ _ _ _ hw
  | busSettleDone => exact waits_of_exec (exec_busSettleDone ..) he h fun _ hw => busSettleDone_waits hw
  | busStartFail => exact waits_of_exec (exec_busStartFail ..) he h fun _ hw => busStartFail_waits hw
  | seqSlotStart => exact waits_of_exec (exec_seqSlotStart ..) he h fun _ hw => seqSlotStart_waits hw
  | railProbeDone => exact waits_of_exec (exec_railProbeDone ..) he h fun _ hw => railProbeDone_waits _ hw
  | railPowerGood => exact waits_of_exec (exec_railPowerGood ..) he h fun _ hw => railPowerGood_waits _ hw
  | railPgTimeout => exact waits_of_exec (exec_railPgTimeout ..) he h fun _ hw => railPgTimeout_waits _ hw
  | railPrebiasHigh => exact waits_of_exec (exec_railPrebiasHigh ..) he h fun _ hw => railPrebiasHigh_waits _ hw
  | railShortStart => exact waits_of_exec (exec_railShortStart ..) he h fun _ hw => railShortStart_waits _ hw
  | railStartStall => exact waits_of_exec (exec_railStartStall ..) he h fun _ hw => railStartStall_waits _ hw
  | railOv => exact waits_of_exec (exec_railOv ..) he h fun _ hw => railOv_waits _ hw
  | railStopDone => exact waits_of_exec (exec_railStopDone ..) he h fun _ hw => railStopDone_waits _ hw
  | pwrFailNFall => exact waits_of_exec (exec_pwrFailNFall ..) he h fun _ hw => powerFail_waits hw
  | quickStopRailOff => exact waits_of_exec (exec_quickStopRailOff ..) he h fun _ hw => quickStopRailOff_waits hw
  | pwrFailNRise => exact waits_of_exec (exec_pwrFailNRise ..) he h fun _ hw => pwrFailRise_waits hw
  | latchClear => exact waits_of_exec (exec_latchClear ..) he h fun _ hw => busWrite_waits _ _ _ _ hw
  | protectiveLowering => exact waits_of_exec (exec_protectiveLowering ..) he h fun _ hw => protectiveLowering_waits _ hw
  | limitUnmet => exact waits_of_exec (exec_limitUnmet ..) he h fun _ hw => limitUnmet_waits _ hw
  | lgvDutyStep => exact waits_of_exec (exec_lgvDutyStep ..) he h fun _ hw => lgvDutyStep_waits hw
  | capUnattainable => exact waits_of_exec (exec_capUnattainable ..) he h fun _ hw => ite_waits (capUnattainable_waits hw) hw
  | thermLimWrite => exact waits_of_exec (exec_thermLimWrite ..) he h fun _ hw => busWrite_waits _ _ _ _ hw
  | thermalRise => exact waits_of_exec (exec_thermalRise ..) he h fun _ hw => thermalRise_waits _ hw
  | tmgFwRound => exact waits_of_exec (exec_tmgFwRound ..) he h fun _ hw => byComp_waits _ _ (fun _ ht => tmgFwRound_waits ht) hw
  | sensorSuspect => exact waits_of_exec (exec_sensorSuspect ..) he h fun _ hw => byComp_waits _ _ (fun _ ht => sensorSuspect_waits _ ht) hw
  | tmgSensorTrusted =>
    exact waits_of_exec (exec_tmgSensorTrusted ..) he h fun _ hw => byComp_waits _ _ (fun _ ht => sensorTrusted_waits _ ht) hw
  | thermalFloor => exact waits_of_exec (exec_thermalFloor ..) he h fun _ hw => byComp_waits _ _ (fun _ ht => thermalFloor_waits ht) hw
  | suspectSetWrite => exact waits_of_exec (exec_suspectSetWrite ..) he h fun _ hw => busWrite_waits _ _ _ _ hw
  | suspectClearWrite => exact waits_of_exec (exec_suspectClearWrite ..) he h fun _ hw => busWrite_waits _ _ _ _ hw
  | tripComparator => exact waits_of_exec (exec_tripComparator ..) he h fun _ hw => tripComparator_waits _ _ hw
  | tripComparatorRelease => exact waits_of_exec (exec_tripComparatorRelease ..) he h fun _ hw => tripRelease_waits _ _ hw
  | balRoundBegin => exact waits_of_exec (exec_balRoundBegin ..) he h fun _ hw => byComp_waits _ _ (fun _ ht => balRoundBegin_waits ht) hw
  | balFrameReceived =>
    exact waits_of_exec (exec_balFrameReceived ..) he h fun _ hw => byComp_waits _ _ (fun _ ht => balFrameReceived_waits ht) hw
  | balOutcome => exact waits_of_exec (exec_balOutcome ..) he h fun _ hw => byComp_waits _ _ (fun _ ht => balOutcome_waits ht) hw
  | sidebandRecordReceived => exact waits_of_exec (exec_sidebandRecordReceived ..) he h fun _ hw => sidebandReceived_waits _ _ _ _ hw
  | sbCounterEnd => exact waits_of_exec (exec_sbCounterEnd ..) he h fun _ hw => sbCounterEnd_waits _ hw
  | sbKeyGraceEnd => exact waits_of_exec (exec_sbKeyGraceEnd ..) he h fun _ hw => keyGraceEnd_waits _ hw
  | restEnter => exact waits_of_exec (exec_restEnter ..) he h fun _ hw => restEnter_waits hw
  | restWake => exact waits_of_exec (exec_restWake ..) he h fun _ hw => restWake_waits hw
  | restExit => exact waits_of_exec (exec_restExit ..) he h fun _ hw => restExit_waits hw
  | srConfirmed => exact waits_of_exec (exec_srConfirmed ..) he h fun _ hw => srConfirmed_waits hw
  | restSrTimeout => exact waits_of_exec (exec_restSrTimeout ..) he h fun _ hw => srTimeout_waits hw
  | staWake => exact waits_of_exec (exec_staWake ..) he h fun _ hw => busWrite_waits _ _ _ _ hw
  | enterSafe => exact waits_of_exec (exec_enterSafe ..) he h fun _ hw => busWrite_waits _ _ _ _ hw
  | safeStateEnter => exact waits_of_exec (exec_safeStateEnter ..) he h fun _ hw => safeDueEnter_waits hw
  | blockRestart => exact waits_of_exec (exec_blockRestart ..) he h fun _ hw => busWrite_waits _ _ _ _ hw
  | chipReset => exact waits_of_exec (exec_chipReset ..) he h fun _ hw => chipReset_waits hw
  | moduleReset => exact waits_of_exec (exec_moduleReset ..) he h fun _ hw => moduleReset_waits hw
  | moduleResetRelease => exact waits_of_exec (exec_moduleResetRelease ..) he h fun _ hw => moduleRelease_waits hw
  | coldStart => exact waits_of_exec (exec_coldStart ..) he h fun _ hw => coldStart_waits hw
  | pufReconstruct => exact waits_of_exec (exec_pufReconstruct ..) he h fun _ hw => pufReconstruct_waits _ _ _ hw
  | wdtKick => exact waits_of_exec (exec_wdtKick ..) he h fun _ hw => busWrite_waits _ _ _ _ hw
  | wdtExpiry => exact waits_of_exec (exec_wdtExpiry ..) he h fun _ hw => failing_waits _ (fun _ ht => wdtExpiry_waits ht) hw
  | mainCoreStart => exact waits_of_exec (exec_mainCoreStart ..) he h fun _ hw => mainStart_waits _ _ _ _ hw
  | helperLoad => exact waits_of_exec (exec_helperLoad ..) he h fun _ hw => failing_waits _ (fun _ ht => helperLoad_waits _ _ _ ht) hw
  | componentCheckIn => exact waits_of_exec (exec_componentCheckIn ..) he h fun _ hw => checkInRow_waits _ hw
  | fwComponentHang =>
    exact waits_of_exec (exec_fwComponentHang ..) he h fun _ hw => failing_waits _ (fun _ ht => componentHang_waits _ ht) hw
  | fwMpuViolation =>
    exact waits_of_exec (exec_fwMpuViolation ..) he h fun _ hw => failing_waits _ (fun _ ht => mpuViolation_waits _ _ _ _ ht) hw
  | fwCoreException =>
    exact waits_of_exec (exec_fwCoreException ..) he h fun _ hw => failing_waits _ (fun _ ht => coreException_waits _ _ _ ht) hw
  | fwComponentRestart => exact waits_of_exec (exec_fwComponentRestart ..) he h fun _ hw => compRestarted_waits _ hw
  | fwRestartLimit => exact waits_of_exec (exec_fwRestartLimit ..) he h fun _ hw => limitRow_waits hw
  | hostAlive => exact waits_of_exec (exec_hostAlive ..) he h fun _ hw => busWrite_waits _ _ _ _ hw
  | hostAbsent => exact waits_of_exec (exec_hostAbsent ..) he h fun _ hw => hostAbsent_waits hw
  | hostAttach => exact waits_of_exec (exec_hostAttach ..) he h fun _ hw => busWrite_waits _ _ _ _ hw
  | logEntry => exact waits_of_exec (exec_logEntry ..) he h fun _ hw => logEntry_waits _ _ _ _ _ hw
  | logMirrorCopy => exact waits_of_exec (exec_logMirrorCopy ..) he h fun _ hw => failing_waits _ (fun _ ht => logMirrorCopy_waits _ ht) hw
  | ringEnable => exact waits_of_exec (exec_ringEnable ..) he h fun _ hw => busWrite_waits _ _ _ _ hw
  | ringDisable => exact waits_of_exec (exec_ringDisable ..) he h fun _ hw => busWrite_waits _ _ _ _ hw
  | ringReset => exact waits_of_exec (exec_ringReset ..) he h fun _ hw => busWrite_waits _ _ _ _ hw
  | ringDoorbell => exact waits_of_exec (exec_ringDoorbell ..) he h fun _ hw => busWrite_waits _ _ _ _ hw
  | cqHeadWrite => exact waits_of_exec (exec_cqHeadWrite ..) he h fun _ hw => busWrite_waits _ _ _ _ hw
  | gateOpen => exact waits_of_exec (exec_gateOpen ..) he h fun _ hw => busWrite_waits _ _ _ _ hw
  | gateClose => exact waits_of_exec (exec_gateClose ..) he h fun _ hw => busWrite_waits _ _ _ _ hw
  | taggedPacketResume => exact waits_of_exec (exec_taggedPacketResume ..) he h fun _ hw => taggedResume_waits hw
  | taggedCompletion => exact waits_of_exec (exec_taggedCompletion ..) he h fun _ hw => taggedCompletion_waits hw
  | blockFetchDone => exact waits_of_exec (exec_blockFetchDone ..) he h fun _ hw => fetchDone_waits _ _ _ hw
  | nop => exact waits_of_exec (exec_nop ..) he h fun _ hw => packetRow_waits _ _ _ (fun _ _ ht => doNop_waits _ ht) hw
  | regWrite => exact waits_of_exec (exec_regWrite ..) he h fun _ hw => packetRow_waits _ _ _ (fun _ _ ht => doRegWrite_waits _ ht) hw
  | regRead => exact waits_of_exec (exec_regRead ..) he h fun _ hw => packetRow_waits _ _ _ (fun _ _ ht => doRegRead_waits _ ht) hw
  | mark => exact waits_of_exec (exec_mark ..) he h fun _ hw => packetRow_waits _ _ _ (fun _ _ ht => doMark_waits _ ht) hw
  | jobAttach => exact waits_of_exec (exec_jobAttach ..) he h fun _ hw => packetRow_waits _ _ _ (fun _ _ ht => doJobAttach_waits _ ht) hw
  | jobDetach => exact waits_of_exec (exec_jobDetach ..) he h fun _ hw => packetRow_waits _ _ _ (fun _ _ ht => doJobDetach_waits _ ht) hw
  | setCap => exact waits_of_exec (exec_setCap ..) he h fun _ hw => packetRow_waits _ _ _ (fun _ _ ht => doSetCap_waits _ ht) hw
  | getCapState => exact waits_of_exec (exec_getCapState ..) he h fun _ hw => packetRow_waits _ _ _ (fun _ _ ht => doGetCap_waits _ ht) hw
  | planSegmentBlock => exact waits_of_exec (exec_planSegmentBlock ..) he h fun _ hw => blockRow_waits _ _ _ _ hw
  | planStop => exact waits_of_exec (exec_planStop ..) he h fun _ hw => packetRow_waits _ _ _ (fun _ _ ht => doPlanStop_waits _ ht) hw
  | programBlock => exact waits_of_exec (exec_programBlock ..) he h fun _ hw => blockRow_waits _ _ _ _ hw
  | sbKeyInstall =>
    exact waits_of_exec (exec_sbKeyInstall ..) he h fun _ hw => packetRow_waits _ _ _ (fun _ _ ht => doSbKey_waits _ _ _ ht) hw
  | logKeyRotate => exact waits_of_exec (exec_logKeyRotate ..) he h fun _ hw => packetRow_waits _ _ _ (fun _ _ ht => doLogKey_waits _ ht) hw
  | confMode => exact waits_of_exec (exec_confMode ..) he h fun _ hw => packetRow_waits _ _ _ (fun _ _ ht => doConfMode_waits _ ht) hw
  | partitionAssign =>
    exact waits_of_exec (exec_partitionAssign ..) he h fun _ hw => packetRow_waits _ _ _ (fun _ _ ht => doAssign_waits _ ht) hw
  | scrubBegin => exact waits_of_exec (exec_scrubBegin ..) he h fun _ hw => packetRow_waits _ _ _ (fun _ _ ht => doScrubBegin_waits _ ht) hw
  | scrubEnd => exact waits_of_exec (exec_scrubEnd ..) he h fun _ hw => packetRow_waits _ _ _ (fun _ _ ht => doScrubEnd_waits _ ht) hw
  | updateBlock => exact waits_of_exec (exec_updateBlock ..) he h fun _ hw => blockRow_waits _ _ _ _ hw
  | updFullCheckDone =>
    exact waits_of_exec (exec_updFullCheckDone ..) he h fun _ hw => byComp_waits _ _ (fun _ ht => fullCheckDone_waits _ _ _ _ _ ht) hw
  | updateActivate =>
    exact waits_of_exec (exec_updateActivate ..) he h fun _ hw => packetRow_waits _ _ _ (fun _ _ ht => doActivate_waits _ ht) hw
  | updateConfirm =>
    exact waits_of_exec (exec_updateConfirm ..) he h fun _ hw => packetRow_waits _ _ _ (fun _ _ ht => doConfirm_waits _ ht) hw
  | updateAbort => exact waits_of_exec (exec_updateAbort ..) he h fun _ hw => packetRow_waits _ _ _ (fun _ _ ht => doAbort_waits _ ht) hw
  | evrWatch => exact waits_of_exec (exec_evrWatch ..) he h fun _ hw => packetRow_waits _ _ _ (fun _ _ ht => doWatch_waits _ ht) hw
  | evrFlush => exact waits_of_exec (exec_evrFlush ..) he h fun _ hw => packetRow_waits _ _ _ (fun _ _ ht => doFlush_waits _ ht) hw
  | faultPolicy => exact waits_of_exec (exec_faultPolicy ..) he h fun _ hw => packetRow_waits _ _ _ (fun _ _ ht => doPolicy_waits _ ht) hw
  | mbxWrite => exact waits_of_exec (exec_mbxWrite ..) he h fun _ hw => busWrite_waits _ _ _ _ hw
  | mbxRead => exact waits_of_exec (exec_mbxRead ..) he h fun _ hw => busRead_waits _ _ _ hw
  | ping => exact waits_of_exec (exec_ping ..) he h fun _ hw => mbxAnswer_waits _ _ _ hw
  | generation => exact waits_of_exec (exec_generation ..) he h fun _ hw => mbxAnswer_waits _ _ _ hw
  | state => exact waits_of_exec (exec_state ..) he h fun _ hw => mbxAnswer_waits _ _ _ hw
  | mbxUnknownRequest => exact waits_of_exec (exec_mbxUnknownRequest ..) he h fun _ hw => mbxAnswer_waits _ _ _ hw
  | evrRecordPost => exact waits_of_exec (exec_evrRecordPost ..) he h fun _ hw => recordPost_waits hw
  | evrEpochPeriodic => exact waits_of_exec (exec_evrEpochPeriodic ..) he h fun _ hw => epochPeriodic_waits hw
  | watchSnapshot => exact waits_of_exec (exec_watchSnapshot ..) he h fun _ hw => snapRead_waits _ _ _ hw
  | evrFlushDone => exact waits_of_exec (exec_evrFlushDone ..) he h fun _ hw => flushDone_waits _ hw
  | flushMinEnd => exact waits_of_exec (exec_flushMinEnd ..) he h fun _ hw => flushMinEnd_waits hw
  | eraseAhead => exact waits_of_exec (exec_eraseAhead ..) he h fun _ hw => eraseAhead_waits hw
  | hoursSave => exact waits_of_exec (exec_hoursSave ..) he h fun _ hw => hoursSave_waits hw
  | faultMessage => exact waits_of_exec (exec_faultMessage ..) he h fun _ hw => faultMessage_waits hw
  | severeClear => exact waits_of_exec (exec_severeClear ..) he h fun _ hw => busWrite_waits _ _ _ _ hw
  | flcSelfFault => exact waits_of_exec (exec_flcSelfFault ..) he h fun _ hw => selfFault_waits _ hw
  | flcInject => exact waits_of_exec (exec_flcInject ..) he h fun _ hw => busWrite_waits _ _ _ _ hw
  | hbKick => exact waits_of_exec (exec_hbKick ..) he h fun _ hw => busWrite_waits _ _ _ _ hw
  | hbToggle => exact waits_of_exec (exec_hbToggle ..) he h fun _ hw => hbToggle_waits hw
  | hbTimeout => exact waits_of_exec (exec_hbTimeout ..) he h fun _ hw => hbTimeout_waits hw
  | kxNew => exact waits_of_exec (exec_kxNew ..) he h fun _ hw => busWrite_waits _ _ _ _ hw
  | kxReady => exact waits_of_exec (exec_kxReady ..) he h fun _ hw => kxReady_waits _ _ hw
  | logMigrateGranule => exact waits_of_exec (exec_logMigrateGranule ..) he h fun _ hw => migrateGran_waits _ _ hw
  | evrWinFlashRead => exact waits_of_exec (exec_evrWinFlashRead ..) he h fun _ hw => busRead_waits _ _ _ hw
  | actDecision => exact waits_of_exec (exec_actDecision ..) he h fun _ hw => byComp_waits _ _ (fun _ ht => actDecide_waits ht) hw
  | actSlot => exact waits_of_exec (exec_actSlot ..) he h fun _ hw => byComp_waits _ _ (fun _ ht => actSlot_waits _ _ ht) hw
  | updHandover => exact waits_of_exec (exec_updHandover ..) he h fun _ hw => resetOwed_waits (handover_waits _ hw)
  | autoConfirm => exact waits_of_exec (exec_autoConfirm ..) he h fun _ hw => byComp_waits _ _ (fun _ ht => autoConfirm_waits ht) hw
  | trialExpiry => exact waits_of_exec (exec_trialExpiry ..) he h fun _ hw => cutStopped_waits _ (trialExpiry_waits hw)
  | pmbusTableRefresh =>
    exact waits_of_exec (exec_pmbusTableRefresh ..) he h fun _ hw => onGrid_waits _ _ (fun _ ht => tableRefresh_waits ht) hw
  | page => exact waits_of_exec (exec_page ..) he h fun _ hw => pecOr_waits _ _ (fun _ ht => pmPage_waits _ _ ht) hw
  | clearFaults => exact waits_of_exec (exec_clearFaults ..) he h fun _ hw => pecOr_waits _ _ (fun _ ht => clearFaults_waits ht) hw
  | capability => exact waits_of_exec (exec_capability ..) he h fun _ hw => pmRead_waits _ _ _ _ hw
  | voutMode => exact waits_of_exec (exec_voutMode ..) he h fun _ hw => pmRead_waits _ _ _ _ hw
  | statusByte => exact waits_of_exec (exec_statusByte ..) he h fun _ hw => pmRead_waits _ _ _ _ hw
  | statusWord => exact waits_of_exec (exec_statusWord ..) he h fun _ hw => pmRead_waits _ _ _ _ hw
  | statusVout => exact waits_of_exec (exec_statusVout ..) he h fun _ hw => pmRead_waits _ _ _ _ hw
  | statusIout => exact waits_of_exec (exec_statusIout ..) he h fun _ hw => pmRead_waits _ _ _ _ hw
  | statusInput => exact waits_of_exec (exec_statusInput ..) he h fun _ hw => pmRead_waits _ _ _ _ hw
  | statusTemperature => exact waits_of_exec (exec_statusTemperature ..) he h fun _ hw => pmRead_waits _ _ _ _ hw
  | statusCml => exact waits_of_exec (exec_statusCml ..) he h fun _ hw => pmRead_waits _ _ _ _ hw
  | statusMfrSpecific => exact waits_of_exec (exec_statusMfrSpecific ..) he h fun _ hw => pmRead_waits _ _ _ _ hw
  | readVin => exact waits_of_exec (exec_readVin ..) he h fun _ hw => tableRead_waits _ _ _ hw
  | readIin => exact waits_of_exec (exec_readIin ..) he h fun _ hw => tableRead_waits _ _ _ hw
  | readVout => exact waits_of_exec (exec_readVout ..) he h fun _ hw => tableRead_waits _ _ _ hw
  | readIout => exact waits_of_exec (exec_readIout ..) he h fun _ hw => tableRead_waits _ _ _ hw
  | readTemperature1 => exact waits_of_exec (exec_readTemperature1 ..) he h fun _ hw => tableRead_waits _ _ _ hw
  | readTemperature2 => exact waits_of_exec (exec_readTemperature2 ..) he h fun _ hw => tableRead_waits _ _ _ hw
  | readTemperature3 => exact waits_of_exec (exec_readTemperature3 ..) he h fun _ hw => tableRead_waits _ _ _ hw
  | readPout => exact waits_of_exec (exec_readPout ..) he h fun _ hw => tableRead_waits _ _ _ hw
  | readPin => exact waits_of_exec (exec_readPin ..) he h fun _ hw => tableRead_waits _ _ _ hw
  | pmbusRevision => exact waits_of_exec (exec_pmbusRevision ..) he h fun _ hw => pmRead_waits _ _ _ _ hw
  | mfrId => exact waits_of_exec (exec_mfrId ..) he h fun _ hw => boardRead_waits _ hw
  | mfrModel => exact waits_of_exec (exec_mfrModel ..) he h fun _ hw => boardRead_waits _ hw
  | mfrRevision => exact waits_of_exec (exec_mfrRevision ..) he h fun _ hw => boardRead_waits _ hw
  | mfrSerial => exact waits_of_exec (exec_mfrSerial ..) he h fun _ hw => boardRead_waits _ hw
  | mfrReadEnergy => exact waits_of_exec (exec_mfrReadEnergy ..) he h fun _ hw => pmEnergy_waits _ hw
  | mfrBusAddr => exact waits_of_exec (exec_mfrBusAddr ..) he h fun _ hw => pecOr_waits _ _ (fun _ ht => busAddr_waits _ ht) hw
  | mfrBusData => exact waits_of_exec (exec_mfrBusData ..) he h fun _ hw => pmBusData_waits _ _ hw
  | pmbusInvalidCommand => exact waits_of_exec (exec_pmbusInvalidCommand ..) he h fun _ hw => pmInvalid_waits _ _ hw
  | pmbusSclTimeout => exact waits_of_exec (exec_pmbusSclTimeout ..) he h fun _ hw => sclTimeout_waits hw
  | smbusAlertResponse => exact waits_of_exec (exec_smbusAlertResponse ..) he h fun _ hw => alertResponse_waits hw
  | vaonRestored => exact waits_of_exec (exec_vaonRestored ..) he h fun _ hw => vaonRestored_waits _ hw
  | refclkStop => exact waits_of_exec (exec_refclkStop ..) he h fun _ hw => refclk_waits _ hw
  | refclkResume => exact waits_of_exec (exec_refclkResume ..) he h fun _ hw => refclk_waits _ hw

theorem step_waits {s t : State} (h : Waits s) (he : step s = .next t) : Waits t := by
  unfold step at he
  split at he
  · cases he
    exact h
  · exact exec_waits (advance_waits _ (by simpa only [waits_mk_eq] using mk_waits h)) he

theorem reset_waits : Waits State.reset :=
  ⟨rfl, rfl, rfl, rfl, rfl, pktsOk_nil _⟩

/-- Settles O60, one lemma per operation for what it keeps of the values that wait and of the outstanding packets. -/
theorem stepKeepsWhatWaits : Obligations.StepKeepsWhatWaits := by
  unfold Obligations.StepKeepsWhatWaits
  exact ⟨(waits_iff _).1 reset_waits, fun s t h he => (waits_iff t).1 (step_waits ((waits_iff s).2 h) he)⟩

end Sys2Proof.Machine
end

section
/-! SUPPORT. What a statement asks of a next state, carried over what follows every event, and the frames of the elementary updates. -/

namespace Sys2Proof.Machine

theorem noEnd_of_unitsSame {a t : State} (hn : noEnd a) (h : unitsSame a t) : noEnd t := by
  obtain ⟨-, ⟨-, -, -, -, hsta, -⟩, -⟩ := h
  exact noEnd_congr hn hsta

theorem noEnd_of_drivingSame {a t : State} (hn : noEnd a) (h : drivingSame a t) : noEnd t := by
  obtain ⟨-, -, -, -, hsta, -⟩ := h
  exact noEnd_congr hn hsta

theorem unitsSame_trans {a t u : State} (h : unitsSame a t) (h2 : unitsSame t u) : unitsSame a u := by
  obtain ⟨⟨a1, a2, a3, a4⟩, ⟨b1, b2, b3, b4, b5, b6⟩, c1, c2, c3, c4, c5, c6⟩ := h
  obtain ⟨⟨d1, d2, d3, d4⟩, ⟨e1, e2, e3, e4, e5, e6⟩, f1, f2, f3, f4, f5, f6⟩ := h2
  exact ⟨⟨d1.trans a1, d2.trans a2, d3.trans a3, d4.trans a4⟩,
    ⟨e1.trans b1, e2.trans b2, e3.trans b3, e4.trans b4, e5.trans b5, e6.trans b6⟩,
    f1.trans c1, f2.trans c2, f3.trans c3, f4.trans c4, f5.trans c5, f6.trans c6⟩

/-- `answers_act`, with a name for the state in which the event happens. -/
theorem answers_of {i : Instr} {dt : Nat} {f : State → State} {s a : State} {P : State → Prop} (ha : a = advance dt s)
    (he : exec i s = act i dt f s) (hw : i.wf = true) (hp : P (settle (f a))) : Answers i s P :=
  answers_act he hw (ha ▸ hp)

/-- The same, where the effect has an equation. -/
theorem answers_eq {i : Instr} {dt : Nat} {f : State → State} {s a u : State} {P : State → Prop} (ha : a = advance dt s)
    (he : exec i s = act i dt f s) (hw : i.wf = true) (hf : f a = u) (hp : P (settle u)) : Answers i s P :=
  answers_of ha he hw (hf ▸ hp)

/-- A command whose effect changes nothing leaves everything untouched. -/
theorem answers_untouched {i : Instr} {dt : Nat} {f : State → State} {s a : State} (ha : a = advance dt s)
    (he : exec i s = act i dt f s) (hw : i.wf = true) (hf : f a = a) : Answers i s (untouched a) := by
  refine answers_of ha he hw ?_
  rw [hf]
  exact settle_untouched (ha ▸ noEnd_advance dt s)

theorem sensingSame_settle {a t : State} (h : noEnd t) : sensingSame a (settle t) ↔ sensingSame a t := by
  rw [settle_of_noEnd h]; simp [sensingSame]
theorem drivingSame_settle {a t : State} (h : noEnd t) : drivingSame a (settle t) ↔ drivingSame a t := by
  rw [settle_of_noEnd h]; simp [drivingSame]
theorem managingSame_settle {a t : State} (h : noEnd t) : managingSame a (settle t) ↔ managingSame a t := by
  rw [settle_of_noEnd h]; simp [managingSame]

theorem getB_settle (s : State) {f : Fld} (hn : noEnd s) (h : f.key ≠ TST.CTRL.OVERRIDE.key) : getB (settle s) f = getB s f := by
  unfold getB; rw [getF_settle s hn h]
theorem getS_settle (s : State) {f : Fld} (hn : noEnd s) (h : f.key ≠ TST.CTRL.OVERRIDE.key) : getS (settle s) f = getS s f := by
  unfold getS; rw [getF_settle s hn h]

theorem getB_sendFault (k src i : Nat) (s : State) {f : Fld} (h : f.key ≠ FLC.STATUS.QUEUE_OVF.key) :
    getB (sendFault k src i s) f = getB s f := by
  unfold getB; rw [getF_sendFault k src i s h]

/-- What waits, the units, and the registers but those listed, are as before. -/
def FrameBut (l : List Fld) (a t : State) : Prop := waitingSame a t ∧ unitsSame a t ∧ fieldsBut l a t

theorem FrameBut.refl (l : List Fld) (a : State) : FrameBut l a a :=
  ⟨⟨rfl, rfl, rfl, rfl, rfl⟩, unitsSame_refl a, fieldsBut_refl l a⟩

theorem FrameBut.noEnd {l : List Fld} {a t : State} (h : FrameBut l a t) (hn : noEnd a) : noEnd t := noEnd_of_unitsSame hn h.2.1

theorem FrameBut.settle {l : List Fld} {a t : State} (h : FrameBut l a t) (hn : Machine.noEnd a) : FrameBut l a (Machine.settle t) :=
  have ht := h.noEnd hn
  ⟨(waitingSame_settle ht).2 h.1, (unitsSame_settle ht).2 h.2.1, fieldsBut_settle ht h.2.2⟩

theorem FrameBut.setF {l : List Fld} {a t : State} {f : Fld} (v : Nat) (h : FrameBut l a t) (hf : f ∈ l) : FrameBut l a (setF t f v) :=
  ⟨h.1, h.2.1, fieldsBut_setF hf h.2.2⟩

theorem FrameBut.setB {l : List Fld} {a t : State} {f : Fld} (v : Bool) (h : FrameBut l a t) (hf : f ∈ l) : FrameBut l a (setB t f v) :=
  h.setF _ hf

/-- The time record does not count. -/
theorem FrameBut.time {l : List Fld} {a t : State} (x : TimeState) (h : FrameBut l a t) : FrameBut l a { t with time := x } :=
  ⟨h.1, h.2.1, fieldsBut_with h.2.2 rfl⟩

theorem FrameBut.sendFault {l : List Fld} {a t : State} {k src i : Nat} (h : FrameBut l a t)
    (hr : roomMsg t ∨ FLC.STATUS.QUEUE_OVF ∈ l) : FrameBut l a (sendFault k src i t) :=
  ⟨waitingSame_sendFault.2 h.1, unitsSame_sendFault.2 h.2.1, fieldsBut_sendFault hr h.2.2⟩

end Sys2Proof.Machine
end

section
/-! O11. Supplies and system time. -/

namespace Sys2Proof.Machine

theorem systime_frame (ok : Bool) (n : Nat) (s : State) : FrameBut [GLB.BOUNDARY_STATUS.SYSTIME_VALID] s (systime ok n s) := by
  have h := (FrameBut.refl [GLB.BOUNDARY_STATUS.SYSTIME_VALID] s).setB (ok && !linkDown s) (List.mem_singleton_self _)
  unfold systime
  dsimp only
  split
  · exact h.time _
  · exact h

theorem systime_valid (ok : Bool) (n : Nat) (s : State) :
    getB (systime ok n s) GLB.BOUNDARY_STATUS.SYSTIME_VALID = (ok && !linkDown s) := by
  have h := getB_setB_self s GLB.BOUNDARY_STATUS.SYSTIME_VALID (ok && !linkDown s) rfl
  unfold systime
  dsimp only
  split
  · exact h
  · exact h

theorem systime_time (ok : Bool) (n : Nat) (s : State) :
    (systime ok n s).time = if ok && !linkDown s then { s.time with sys := n } else s.time := by
  unfold systime
  dsimp only
  split <;> simp_all

theorem vaonLow_of_onset {v : Nat} {s : State} (h : s.time.vaonLow = false) : vaonLow v s = sendFault 0xA0 0xA00 v
    { setB (setB s GLB.CORE_STATUS.VAON_LOW true) GLB.CORE_STATUS.BELOW_BOUNDS true with time := { s.time with vaonLow := true } } := by
  simp [vaonLow, h]

end Sys2Proof.Machine

open Sys2Proof Sys2Proof.Machine

/-- Settles O11: each event sets its own flags and its own part of the time record. -/
theorem suppliesAndSystemTime : Obligations.SuppliesAndSystemTime := by
  unfold Obligations.SuppliesAndSystemTime
  intro dt s a ha
  have hn : noEnd a := ha ▸ noEnd_advance dt s
  have hsys : ∀ ok n, (settle (systime ok n a)).time = (if ok && !linkDown a then { a.time with sys := n } else a.time) ∧
      getB (settle (systime ok n a)) GLB.BOUNDARY_STATUS.SYSTIME_VALID = (ok && !linkDown a) ∧
      FrameBut [GLB.BOUNDARY_STATUS.SYSTIME_VALID] a (settle (systime ok n a)) := fun ok n =>
    have h := systime_frame ok n a
    ⟨(settle_time (h.noEnd hn)).trans (systime_time ok n a),
      (getB_settle _ (h.noEnd hn) (by decide)).trans (systime_valid ok n a), h.settle hn⟩
  have hlow : ∀ v, a.time.vaonLow = true → vaonLow v a = a := fun v h => by simp [vaonLow, h]
  have href : ∀ on, (settle (refclk on a)).time = { a.time with refRun := on } ∧ FrameBut [] a (settle (refclk on a)) := fun on =>
    have h : FrameBut [] a (refclk on a) := (FrameBut.refl [] a).time _
    ⟨settle_time (h.noEnd hn), h.settle hn⟩
  refine ⟨fun n hlt hl => ?_, fun ok n hlt hd => ?_, fun v hv hlow hr => ?_, fun v hv h => ?_, fun v hv => ?_, ?_, ?_, ?_⟩
  · refine answers_of ha (exec_systimeCoherent ..) (decide_eq_true hlt) ?_
    have h := hsys true n
    rw [hl] at h
    exact h
  · refine answers_of ha (exec_systimeCoherent ..) (decide_eq_true hlt) ?_
    have hv : (ok && !linkDown a) = false := by rcases hd with h | h <;> simp [h]
    have h := hsys ok n
    rw [hv] at h
    exact h
  · refine answers_of ha (exec_vaonLow ..) (decide_eq_true hv) ?_
    rw [vaonLow_of_onset hlow]
    have h := (((FrameBut.refl [GLB.CORE_STATUS.VAON_LOW, GLB.CORE_STATUS.BELOW_BOUNDS] a).setB (f := GLB.CORE_STATUS.VAON_LOW) true (by simp)).setB
      (f := GLB.CORE_STATUS.BELOW_BOUNDS) true (by simp)).time { a.time with vaonLow := true }
    have hs := h.sendFault (k := 0xA0) (src := 0xA00) (i := v) (.inl hr)
    refine ⟨?_, (messageWaits_settle (hs.noEnd hn)).2 (messageWaits_sendFault hr), ?_, hs.settle hn⟩
    · rw [getB_settle _ (hs.noEnd hn) (by decide), getB_sendFault _ _ _ _ (by decide)]
      exact (getB_setB_ne (f := GLB.CORE_STATUS.BELOW_BOUNDS) _ true (by decide)).trans (getB_setB_self a GLB.CORE_STATUS.VAON_LOW true rfl)
    · rw [settle_time (hs.noEnd hn), sendFault_time]
  · exact answers_untouched ha (exec_vaonLow ..) (decide_eq_true hv) (hlow v h)
  · refine answers_of ha (exec_vaonRestored ..) (decide_eq_true hv) ?_
    have h : FrameBut [GLB.CORE_STATUS.BELOW_BOUNDS] a (vaonRestored v a) :=
      ((FrameBut.refl _ a).setB (decide (v < 2880)) (List.mem_singleton_self _)).time _
    refine ⟨settle_time (h.noEnd hn), settle_inbox (h.noEnd hn), ?_, h.settle hn⟩
    rw [getB_settle _ (h.noEnd hn) (by decide)]
    exact getB_setB_self _ _ _ rfl
  · refine answers_of ha (exec_vaonCollapse ..) rfl ?_
    have hv : noEnd (vaonCollapse a) := hn
    exact ⟨settle_phc hv, settle_time hv, (waitingSame_settle hv).2 ⟨rfl, rfl, rfl, rfl, rfl⟩,
      (sensingSame_settle hv).2 ⟨rfl, rfl, rfl, rfl⟩, (managingSame_settle hv).2 ⟨rfl, rfl, rfl, rfl, rfl, rfl⟩,
      fieldsBut_settle hv (fieldsBut_with (fieldsBut_setB (v := true) (List.mem_singleton_self _) (fieldsBut_refl _ a)) rfl)⟩
  · exact answers_of ha (exec_refclkStop ..) rfl (href false)
  · exact answers_of ha (exec_refclkResume ..) rfl (href true)
end

section
/-! O10. The cut, local boundaries, and the change of source. -/

namespace Sys2Proof.Machine

/-! ### Records that wait -/

theorem filter_arrive (p : Arrival → Bool) (x : Arrival) (l : List Arrival) :
    ((arrive x l).filter p).length = (l.filter p).length + b2n (p x) := by
  induction l with
  | nil => cases h : p x <;> simp [arrive, h, b2n]
  | cons y r ih =>
    unfold arrive
    split
    · cases h : p x <;> simp [h, b2n]
    · cases h : p y <;> simp [h, ih] <;> omega

@[simp] theorem waitingRecs_setF (s : State) (f : Fld) (v : Nat) : waitingRecs (setF s f v) = waitingRecs s := rfl
@[simp] theorem waitingRecs_setB (s : State) (f : Fld) (b : Bool) : waitingRecs (setB s f b) = waitingRecs s := rfl

@[simp] theorem waitingRecs_sendFault (k src i : Nat) (s : State) : waitingRecs (sendFault k src i s) = waitingRecs s := by
  unfold sendFault sendFaultP
  dsimp only
  split
  · rfl
  · exact (filter_arrive ..).trans (by simp [waitingRecs, b2n])

theorem waitingRecs_event (c : Nat) (l : List Nat) (s : State) : waitingRecs (event c l s) ≤ waitingRecs s + 1 := by
  unfold event eventP postRec
  split
  · exact Nat.le_succ _
  · exact (filter_arrive ..).le.trans (by simp [waitingRecs, b2n])

/-! ### The change of source -/

/-- What the change of source keeps on its way: no rest state ends, local boundaries stay on record, and few records wait. -/
structure SourceStep (n : Nat) (s t : State) : Prop where
  sta : t.sta = s.sta
  source : getB t GLB.BOUNDARY_STATUS.LOCAL_BOUNDARIES = true
  time : t.time = s.time
  recs : waitingRecs t ≤ n

theorem SourceStep.setF {n : Nat} {s t : State} {f : Fld} {v : Nat} (h : SourceStep n s t)
    (hf : GLB.BOUNDARY_STATUS.LOCAL_BOUNDARIES.key ≠ f.key) : SourceStep n s (setF t f v) :=
  ⟨h.sta, (getB_setF_ne t v hf).trans h.source, h.time, h.recs⟩

theorem SourceStep.sendFault {n : Nat} {s t : State} {k src i : Nat} (h : SourceStep n s t) : SourceStep n s (sendFault k src i t) :=
  ⟨(sendFault_sta ..).trans h.sta, (getB_sendFault _ _ _ _ (by decide)).trans h.source, (sendFault_time ..).trans h.time,
    (waitingRecs_sendFault ..).le.trans h.recs⟩

theorem SourceStep.event {n c : Nat} {l : List Nat} {s t : State} (h : SourceStep n s t) : SourceStep (n + 1) s (event c l t) := by
  refine ⟨(event_sta ..).trans h.sta, ?_, (event_time ..).trans h.time, (waitingRecs_event ..).trans (Nat.succ_le_succ h.recs)⟩
  unfold getB
  rw [getF_event _ _ _ (by decide)]
  exact h.source

theorem SourceStep.readEntry {n step : Nat} {s t : State} (h : SourceStep n s t) : SourceStep n s (readEntry step t).1 := by
  unfold Machine.readEntry
  split
  · exact h
  · dsimp only
    split
    · exact h
    · exact h.sendFault
    · exact h.sendFault

theorem SourceStep.planErrorNow {n : Nat} {b : Bool} {s t : State} (h : SourceStep n s t) :
    SourceStep (n + 1) s (Machine.planErrorNow b t) ∧ planState (Machine.planErrorNow b t) ≠ planRunning := by
  have h1 : SourceStep n s (setPlanState planError (planLeaves t)) := by
    refine SourceStep.setF ?_ (by decide)
    exact ⟨h.sta, h.source, h.time, h.recs⟩
  have h2 := h1.event (c := 0x0407) (l := toLE 4 (getF (setPlanState planError (planLeaves t)) PSQ.PLAN_ID.PLAN_ID))
  refine ⟨⟨h2.sta, h2.source, h2.time, h2.recs⟩, ?_⟩
  have hp : planState (Machine.planErrorNow b t) = planError :=
    (getF_event _ _ _ (by decide)).trans (getF_setF_self (planLeaves t) PSQ.STATUS.PLAN_STATE planError)
  rw [hp]
  decide

/-- The lookahead records at most one event, the plan's error, and reads no further after it (R163). -/
theorem SourceStep.windowRead {n : Nat} {s t : State} (h : SourceStep n s t) : SourceStep (n + 1) s (windowRead t) := by
  have more : ∀ {u : State}, SourceStep n s u → SourceStep (n + 1) s u := fun h => ⟨h.sta, h.source, h.time, Nat.le_succ_of_le h.recs⟩
  have hfold : SourceStep n s (Machine.windowRead t) ∨
      SourceStep (n + 1) s (Machine.windowRead t) ∧ planState (Machine.windowRead t) ≠ planRunning := by
    unfold Machine.windowRead
    refine List.foldlRecOn (motive := fun u => SourceStep n s u ∨ SourceStep (n + 1) s u ∧ planState u ≠ planRunning) _ _ (.inl h)
      fun u hu x _ => ?_
    split
    · next hp => exact .inr ⟨hu.elim more And.left, hp⟩
    · next hp =>
      have hr : SourceStep n s (Machine.readEntry x.1 u).1 := (hu.resolve_right fun h => hp h.2).readEntry
      split
      · next v _ he => exact .inl (by rw [he] at hr; exact hr)
      · next v he => exact .inr (by rw [he] at hr; exact hr.planErrorNow)
  exact hfold.elim more And.left

theorem SourceStep.ffScheduleComputed {n : Nat} {s t : State} (h : SourceStep n s t) : SourceStep (n + 1) s (ffScheduleComputed t) := by
  unfold Machine.ffScheduleComputed
  split
  · exact ⟨h.sta, h.source, h.time, Nat.le_succ_of_le h.recs⟩
  · have hw := h.windowRead
    dsimp only
    split
    · exact ⟨hw.sta, hw.source, hw.time, hw.recs⟩
    · exact hw

/-- What the change of source keeps when its event waits. -/
structure SourceDone (s t : State) : Prop where
  sta : t.sta = s.sta
  source : getB t GLB.BOUNDARY_STATUS.LOCAL_BOUNDARIES = true
  time : t.time = s.time
  event : eventWaits 0x0001 t

theorem SourceDone.setF {s t : State} {f : Fld} {v : Nat} (h : SourceDone s t)
    (hf : GLB.BOUNDARY_STATUS.LOCAL_BOUNDARIES.key ≠ f.key) : SourceDone s (setF t f v) :=
  ⟨h.sta, (getB_setF_ne t v hf).trans h.source, h.time, h.event⟩

theorem SourceDone.planPause {s t : State} (h : SourceDone s t) : SourceDone s (planPause t) := by
  unfold Machine.planPause
  split
  · have h1 : SourceDone s (setPlanState planPaused t) := h.setF (by decide)
    refine ⟨(event_sta ..).trans h1.sta, ?_, (event_time ..).trans h1.time, eventWaits_of_sub h1.event inbox_event⟩
    unfold getB planEvent
    rw [getF_event _ _ _ (by decide)]
    exact h1.source
  · exact h

theorem SourceDone.abandonRounds {s t : State} (h : SourceDone s t) : SourceDone s (abandonRounds t) :=
  SourceDone.setF ⟨h.sta, h.source, h.time, h.event⟩ (by decide)

theorem SourceDone.floorNext {s t : State} (h : SourceDone s t) : SourceDone s (floorNext t) := by
  unfold Machine.floorNext
  split
  · exact h
  · split
    · exact SourceDone.setF ⟨h.sta, h.source, h.time, h.event⟩ (by decide)
    · exact ⟨h.sta, h.source, h.time, h.event⟩

theorem sourceLocal_done {s : State} (h : localOn s = false) (hc : (jobOn s && sysOk s && !strobesStopped s) = false)
    (hr : waitingRecs s < 63) : ∃ u : State, u.sta = s.sta ∧ u.time = { s.time with nextB := none, cutMade := false } ∧
      SourceDone u (sourceLocal s) := by
  have h0 : SourceStep (waitingRecs s) s (setB s GLB.BOUNDARY_STATUS.LOCAL_BOUNDARIES true) :=
    ⟨rfl, getB_setB_self _ _ _ rfl, rfl, Nat.le_refl _⟩
  have h1 := h0.ffScheduleComputed
  let u := Machine.ffScheduleComputed (setB s GLB.BOUNDARY_STATUS.LOCAL_BOUNDARIES true)
  let v : State := { u with time := { u.time with nextB := none, cutMade := false } }
  have h2 : SourceDone v (event 0x0001 [] v) := by
    refine ⟨event_sta .., ?_, event_time .., eventWaits_event ?_⟩
    · unfold getB
      rw [getF_event _ _ _ (by decide)]
      exact h1.source
    · exact Nat.lt_of_le_of_lt h1.recs (by omega)
  refine ⟨v, h1.sta, ?_, ?_⟩
  · show ({ u.time with nextB := none, cutMade := false } : TimeState) = _
    rw [h1.time]
  · unfold sourceLocal
    rw [h, hc]
    exact h2.planPause.abandonRounds.floorNext

end Sys2Proof.Machine

open Sys2Proof Sys2Proof.Machine

/-- Settles O10: the cut and the local boundary by what their work keeps of the time record, the change of source step by step. -/
theorem localBoundariesKeepStep : Obligations.LocalBoundariesKeepStep := by
  unfold Obligations.LocalBoundariesKeepStep
  intro dt s a hs ha
  have hn : noEnd a := ha ▸ noEnd_advance dt s
  have hk : Kept (s.pending, (· = a.time)) a := ha ▸ kept_advance dt hs
  refine ⟨fun hm hc => ?_, fun h => ?_, fun hl hp => ?_, fun h => ?_, fun hl hc hr => ?_, fun h => ?_, fun step l hw hy => ?_⟩
  · refine answers_of ha (exec_boundaryCut ..) rfl ?_
    refine (settle_kept (kb := (s.pending, fun u => u.cutMade = true ∧ u.step = a.time.step)) ?_).time
    unfold boundaryCut
    rw [hm, hc]
    exact cutWork_kept _ hk fun u hu => ⟨rfl, hu ▸ rfl⟩
  · exact answers_untouched ha (exec_boundaryCut ..) rfl (by rcases h with h | h <;> simp [boundaryCut, h])
  · refine answers_of ha (exec_localBoundary ..) rfl ⟨?_, ?_⟩
    · refine (settle_kept (kb := (s.pending, fun u => u = { a.time with cutMade := false, nextB := none })) ?_).time
      have hcond : (!localOn a || decide (a.time.ticks % localPeriod a ≠ 0)) = false := by simp [hl, hp]
      unfold localBoundary
      rw [hcond]
      refine swap_none_kept (P := fun u => ∃ b, u = { a.time with cutMade := b }) ?_ (by rintro _ ⟨b, rfl⟩; rfl)
      split
      · exact kept_named hk ⟨_, rfl⟩
      · exact cutWork_kept none hk fun u hu => ⟨true, by rw [hu]⟩
    · refine (settle_keeps_frozen _).trans ?_
      simp [localBoundary, hl, hp, swap_frozen]
  · exact answers_untouched ha (exec_localBoundary ..) rfl (by rcases h with h | h <;> simp [localBoundary, h])
  · have hcond : (jobOn a && sysOk a && !strobesStopped a) = false := by rcases hc with h | h | h <;> simp [h]
    refine answers_of ha (exec_boundarySourceLocal ..) rfl ?_
    obtain ⟨u, hsta, htime, hd⟩ := sourceLocal_done hl hcond hr
    have hu : noEnd (sourceLocal a) := noEnd_congr hn (hd.sta.trans hsta)
    exact ⟨(getB_settle _ hu (by decide)).trans hd.source, (settle_time hu).trans (hd.time.trans htime), (eventWaits_settle hu).2 hd.event⟩
  · refine answers_untouched ha (exec_boundarySourceLocal ..) rfl ?_
    rcases h with h | ⟨hj, hy, hst⟩
    · simp [sourceLocal, h]
    · simp [sourceLocal, hj, hy, hst]
  · exact answers_untouched ha (exec_stepBoundaryStrobe ..) hw (strobe_unheard (by simp [strobeHeard, hy]))
end

section
/-! O12, O13, O16. Plain writes, the application of landed values, and wide values. -/

namespace Sys2Proof.Machine

/-! ### Landed values -/

theorem aFind_of_sortedFrom {α : Type} {b : Nat} {m : Assoc α} (h : aSortedFrom (some b) m = true) : aFind m b = none := by
  induction m generalizing b with
  | nil => rfl
  | cons e r ih =>
    obtain ⟨k, v⟩ := e
    simp only [aSortedFrom, Bool.and_eq_true, decide_eq_true_eq] at h
    rw [aFind, if_neg (by omega)]
    exact ih (aSortedFrom_weaken h.1.le h.2)

theorem getF_eq_aGet (s : State) (f : Fld) : getF s f = aGet (resetAt f.key) s.regs f.key := by
  unfold getF aGet
  split <;> simp_all

theorem getF_forceKey (k v : Nat) (s : State) (f : Fld) : getF (forceKey k v s) f = if f.key = k then v else getF s f := by
  rw [getF_eq_aGet, getF_eq_aGet]
  split
  · next h =>
    rw [h]
    exact aGet_aPut_self ..
  · next h => exact congrArg (Option.getD · _) (aFind_aPut_ne _ _ _ h)

@[simp] theorem settleKey_regs (k : Nat) (s : State) : (settleKey k s).regs = s.regs := by unfold settleKey; split <;> rfl

/-- Values that are put in force one after the other, each key once. -/
theorem getF_foldl_force {m : Assoc Nat} (f : Fld) {s : State} (h : aSortedFrom none m = true) :
    getF (m.foldl (fun t e => settleKey e.1 (forceKey e.1 e.2 t)) s) f = (aFind m f.key).getD (getF s f) := by
  induction m generalizing s with
  | nil => rfl
  | cons e r ih =>
    obtain ⟨k, v⟩ := e
    simp only [aSortedFrom, Bool.true_and] at h
    rw [List.foldl_cons, ih (aSortedFrom_none h), getF_congr (settleKey_regs ..), getF_forceKey, aFind]
    by_cases hk : f.key = k
    · rw [if_pos hk, if_pos hk, hk, aFind_of_sortedFrom h]
      rfl
    · rw [if_neg hk, if_neg hk]

theorem settleKey_frame (k : Nat) (s : State) : unitsSame s (settleKey k s) ∧ (settleKey k s).landing = s.landing := by
  unfold settleKey; split <;> exact ⟨unitsSame_refl s, rfl⟩

theorem applyLanding_frame (s : State) : unitsSame s (applyLanding s) ∧ (applyLanding s).landing = [] :=
  List.foldlRecOn (motive := fun t => unitsSame s t ∧ t.landing = []) _ _ ⟨unitsSame_refl s, rfl⟩ fun t ht e _ =>
    have h := settleKey_frame e.1 (forceKey e.1 e.2 t)
    ⟨unitsSame_trans ht.1 h.1, h.2.trans ht.2⟩

/-! ### Plain writes of the host -/

theorem landWord_plain {agent o v : Nat} {s : State} (hn : notIts agent o = false) (ho : ownWrite agent o v s = none) :
    landWord agent o v s = plainWrite agent o v s := by
  rw [landWord, if_neg (by simp [hn]), ho]

/-- The host's write of a whole register of one word that has no effect of its own. -/
theorem busWrite_plain {o v : Nat} {s : State} (hm : mapped o = true) (hl : isLow o = false) (hh : isHigh o = false)
    (hn : notIts 1 o = false) (hv : v < 2 ^ 32) (ho : ownWrite 1 o v s = none) : busWrite 1 o v 15 s = plainWrite 1 o v s := by
  have hw : mayWrite s 1 (o / 4 * 4) = true := rfl
  simp only [busWrite, hw, hm, hl, hh, Bool.not_true, Bool.false_eq_true, if_false, Nat.mod_eq_of_lt hv, landWord_plain hn ho]
  rfl

theorem reactNote_other {o : Nat} (h : o ≠ 0x40010) (h2 : o ≠ 0x40014) (s : State) : reactNote o s = s := by
  unfold reactNote
  rw [if_neg h, if_neg h2, ite_self]

theorem plainWrite_boundaryCtrl (v : Nat) (s : State) : plainWrite 1 0x24 v s =
    landPut GLB.BOUNDARY_CTRL.IDLE_MS (bits v 24 8) (landPut GLB.BOUNDARY_CTRL.LOCAL_PERIOD (bits v 16 8)
      (landPut GLB.BOUNDARY_CTRL.CUT_NS (bits v 0 16) s)) := by
  unfold plainWrite
  rw [reactNote_other (by decide) (by decide)]
  rfl

theorem plainWrite_probe (v : Nat) (s : State) : plainWrite 1 0x40 v s = pendPut 1 0 GLB.PROBE.VALUE (bits v 0 32) s := by
  unfold plainWrite
  rw [reactNote_other (by decide) (by decide)]
  rfl

theorem plainWrite_busErrStatus (v : Nat) (s : State) :
    let t := setF s GLB.BUS_ERR_STATUS.UNMAPPED (without (getF s GLB.BUS_ERR_STATUS.UNMAPPED) (bits v 0 1))
    plainWrite 1 0x2C v s =
      setF t GLB.BUS_ERR_STATUS.PARTIAL_WRITE (without (getF t GLB.BUS_ERR_STATUS.PARTIAL_WRITE) (bits v 1 1)) := by
  unfold plainWrite
  rw [reactNote_other (by decide) (by decide)]
  rfl

/-- A one written to a flag clears it. -/
theorem without_flag {x : Nat} (b : Nat) (hx : x ≤ 1) : decide (without x (b % 2) % 2 ^ 1 ≠ 0) = (decide (x ≠ 0) && !decide (b % 2 = 1)) := by
  rcases Nat.mod_two_eq_zero_or_one b with hb | hb <;> rw [hb]
  all_goals interval_cases x <;> rfl

end Sys2Proof.Machine

open Sys2Proof Sys2Proof.Machine

/-- Settles O12: the fields of each of the three registers, in turn. -/
theorem plainWritesLandOrWait : Obligations.PlainWritesLandOrWait := by
  unfold Obligations.PlainWritesLandOrWait
  intro dt v s a ha
  have hn : noEnd a := ha ▸ noEnd_advance dt s
  have hv : v.toNat < 2 ^ 32 := v.isLt
  refine ⟨?_, ?_, fun h1 h2 => ?_⟩
  · refine answers_eq ha (exec_registerWrite ..) rfl ((busWrite_plain rfl rfl rfl rfl hv rfl).trans (plainWrite_boundaryCtrl ..)) ?_
    set u := landPut GLB.BOUNDARY_CTRL.IDLE_MS (bits v.toNat 24 8) (landPut GLB.BOUNDARY_CTRL.LOCAL_PERIOD (bits v.toNat 16 8)
      (landPut GLB.BOUNDARY_CTRL.CUT_NS (bits v.toNat 0 16) a)) with hu
    have hf : FrameBut [] u u := .refl [] u
    have hun : noEnd u := hn
    rw [settle_landing hun, settle_pend hun]
    refine ⟨?_, ?_, ?_, fieldsBut_settle hun (fieldsBut_regs rfl), (unitsSame_settle hun).2 (unitsSame_refl a), rfl⟩
    · simp (disch := decide) only [hu, landPut, aFind_aIns_ne, aFind_aIns_self]
      exact congrArg some (show v.toNat / 2 ^ 0 % 2 ^ 16 % 2 ^ 16 = _ by omega)
    · simp (disch := decide) only [hu, landPut, aFind_aIns_ne, aFind_aIns_self]
      exact congrArg some (show v.toNat / 2 ^ 16 % 2 ^ 8 % 2 ^ 8 = _ by omega)
    · simp only [hu, landPut, aFind_aIns_self]
      exact congrArg some (show v.toNat / 2 ^ 24 % 2 ^ 8 % 2 ^ 8 = _ by omega)
  · refine answers_eq ha (exec_registerWrite ..) rfl ((busWrite_plain rfl rfl rfl rfl hv rfl).trans (plainWrite_probe ..)) ?_
    have hp : pendPut 1 0 GLB.PROBE.VALUE (bits v.toNat 0 32) a = pendHw 0 GLB.PROBE.VALUE (bits v.toNat 0 32) a := by
      simp [pendPut, pendHw]
    rw [hp]
    have hun : noEnd (pendHw 0 GLB.PROBE.VALUE (bits v.toNat 0 32) a) := hn
    rw [settle_pend hun, settle_landing hun]
    refine ⟨?_, fieldsBut_settle hun (fieldsBut_regs rfl), (unitsSame_settle hun).2 (unitsSame_refl a), rfl⟩
    refine (aFind_aIns_self ..).trans (congrArg (fun x => some (PendVal.mk x 0 none false)) ?_)
    show v.toNat / 2 ^ 0 % 2 ^ 32 % 2 ^ 32 = _
    omega
  · refine answers_eq ha (exec_registerWrite ..) rfl ((busWrite_plain rfl rfl rfl rfl hv rfl).trans (plainWrite_busErrStatus ..)) ?_
    set t := setF a GLB.BUS_ERR_STATUS.UNMAPPED (without (getF a GLB.BUS_ERR_STATUS.UNMAPPED) (bits v.toNat 0 1)) with ht
    have hg : getF t GLB.BUS_ERR_STATUS.PARTIAL_WRITE = getF a GLB.BUS_ERR_STATUS.PARTIAL_WRITE := getF_setF_ne _ _ (by decide)
    rw [hg]
    set u := setF t GLB.BUS_ERR_STATUS.PARTIAL_WRITE (without (getF a GLB.BUS_ERR_STATUS.PARTIAL_WRITE) (bits v.toNat 1 1)) with hu
    have hun : noEnd u := hn
    rw [getB_settle _ hun (by decide), getB_settle _ hun (by decide)]
    refine ⟨?_, ?_, fieldsBut_settle hun ?_, (unitsSame_settle hun).2 (unitsSame_refl a)⟩
    · rw [hu, getB_setF_ne _ _ (by decide), ht]
      unfold getB
      rw [getF_setF_self, Nat.testBit_eq_decide_div_mod_eq]
      exact without_flag _ h1
    · unfold getB
      rw [hu, getF_setF_self, Nat.testBit_eq_decide_div_mod_eq]
      exact without_flag _ h2
    · exact fieldsBut_setF (by simp) (fieldsBut_setF (by simp) (fieldsBut_refl _ a))

/-- Settles O13: landed values are put in force one by one, each field once. -/
theorem landedValuesAreApplied : Obligations.LandedValuesAreApplied := by
  unfold Obligations.LandedValuesAreApplied
  intro dt s a ha hs
  obtain ⟨hu, hl⟩ := applyLanding_frame a
  have hn : noEnd (applyLanding a) := noEnd_of_unitsSame (ha ▸ noEnd_advance dt s) hu
  refine answers_of ha (exec_rwWriteApply ..) rfl ⟨(settle_landing hn).trans hl, (unitsSame_settle hn).2 hu, fun f hf => ?_⟩
  rw [getF_settle _ hn hf]
  exact getF_foldl_force f hs

namespace Sys2Proof.Machine

/-! ### Wide values -/

/-- A register's word is read without what the bus last answered; a ring's packets are counted without the bus. -/
theorem countPkts_setBus (b : BusState) (s : State) (q k i n : Nat) : countPkts (setBus b s) q k i n = countPkts s q k i n := by
  induction k generalizing i with
  | zero => rfl
  | succ k ih => simp only [countPkts, ih]; rfl

theorem queuedPkts_setBus (b : BusState) (s : State) (q : Nat) : queuedPkts (setBus b s) q = queuedPkts s q := countPkts_setBus ..

theorem liveFw_setBus (b : BusState) (s : State) (o lo : Nat) : liveFw (setBus b s) o lo = liveFw s o lo := by
  simp only [liveFw, queuedPkts_setBus]
  rfl

theorem liveField_answer (x : Word) (s : State) (agent k : Nat) (tag : Bool) :
    liveField (setBus { s.bus with rdata := x } s) agent k tag = liveField s agent k tag := by
  unfold liveField
  dsimp only
  split
  case h_12 => exact liveFw_setBus ..
  all_goals rfl

theorem rawWord_answer (x : Word) (s : State) (agent o : Nat) (tag : Bool) :
    rawWord (setBus { s.bus with rdata := x } s) agent o tag = rawWord s agent o tag := by
  simp only [rawWord, fieldRead, liveField_answer]
  rfl

/-- The low words of wide values are neither in a window nor a mailbox's data, and none of them is a high word. -/
theorem isLow_plain {o : Nat} (h : isLow o = true) : isWin o = false ∧ inR o 0xB8000 0xC0000 = false ∧ inR o 0xD8000 0xE0000 = false ∧
    o ≠ 0xF0008 ∧ isMailboxData o = false ∧ isHigh o = false := by
  simp only [isLow, List.contains_eq_mem, List.mem_cons, List.not_mem_nil, or_false, Bool.and_eq_true, Bool.or_eq_true,
    decide_eq_true_eq, inR, beq_iff_eq] at h
  obtain (h | h) | h := h
  · rcases h with rfl | rfl | rfl | rfl | rfl | rfl | rfl | rfl | rfl | rfl | rfl | rfl | rfl | rfl | rfl | rfl | rfl | rfl | rfl | rfl |
      rfl | rfl | rfl | rfl | rfl
    all_goals decide
  all_goals
    simp [isWin, isMailboxData, isHigh, isLow, inR]
    omega

theorem isHigh_plain {o : Nat} (h : isHigh o = true) : isWin o = false ∧ inR o 0xB8000 0xC0000 = false ∧ inR o 0xD8000 0xE0000 = false ∧
    o ≠ 0xF0008 ∧ isMailboxData o = false ∧ isLow o = false := by
  simp only [isHigh, isLow, List.contains_eq_mem, List.mem_cons, List.not_mem_nil, or_false, Bool.and_eq_true, Bool.or_eq_true,
    decide_eq_true_eq, inR, beq_iff_eq] at h
  obtain ⟨h4, (h | h) | h⟩ := h
  · obtain ⟨n, rfl⟩ : ∃ n, o = n + 4 := ⟨o - 4, by omega⟩
    rw [Nat.add_sub_cancel] at h
    rcases h with rfl | rfl | rfl | rfl | rfl | rfl | rfl | rfl | rfl | rfl | rfl | rfl | rfl | rfl | rfl | rfl | rfl | rfl | rfl | rfl |
      rfl | rfl | rfl | rfl | rfl
    all_goals decide
  all_goals
    simp [isWin, isMailboxData, isLow, inR]
    omega

theorem clearRc_bus (o : Nat) (s : State) : (clearRc o s).bus = s.bus ∧ (clearRc o s).sta = s.sta :=
  List.foldlRecOn (motive := fun t : State => t.bus = s.bus ∧ t.sta = s.sta) _ _ ⟨rfl, rfl⟩ fun _ ht _ _ => ht

theorem setBus_frame (b : BusState) (s : State) : FrameBut [] s (setBus b s) :=
  ⟨⟨rfl, rfl, rfl, rfl, rfl⟩, unitsSame_refl s, fieldsBut_regs rfl⟩

/-- A read of a low word leaves what it answers, keeps the high word, and has no other effect (R38). -/
theorem busRead_low {agent o : Nat} {s : State} (hr : mayRead s agent (o / 4 * 4) = true) (hm : mapped o = true) (hl : isLow o = true) :
    ∃ x : Word, busRead agent o none s = setBus { s.bus with rdata := x, snap := aIns s.bus.snap (agentKey agent (o + 4))
                                                                (hidden s agent (o + 4) (rawWord s agent (o + 4) false)) } s := by
  obtain ⟨hw, hb, hd, hf, hx, hh⟩ := isLow_plain hl
  refine ⟨BitVec.ofNat 32 (hidden s agent o (rawWord s agent o (tagOf s none))), ?_⟩
  rw [busRead_live hr hm hx hh]
  simp only [readEffects, hw, hb, hd, hf, hl, Bool.false_eq_true, if_false, if_true, rawWord_answer]
  rfl

/-- A read of a high word answers the one that is kept for the agent, or the live one (R38). -/
theorem busRead_high {agent o : Nat} {s : State} (hr : mayRead s agent (o / 4 * 4) = true) (hm : mapped o = true) (hh : isHigh o = true) :
    (busRead agent o none s).bus.rdata = BitVec.ofNat 32 ((aFind s.bus.snap (agentKey agent o)).getD
      (hidden s agent o (rawWord s agent o (tagOf s none)))) ∧ (busRead agent o none s).sta = s.sta := by
  obtain ⟨hw, hb, hd, hf, hx, hl⟩ := isHigh_plain hh
  have hx' : ¬ (inR o 0xC3000 0xC3200 = true ∧ o % 16 = 4) := by simpa [isMailboxData] using hx
  simp only [busRead, readEffects, hr, hm, hh, hw, hb, hd, hf, hl, if_neg hx', Bool.not_true, Bool.false_eq_true, if_false, if_true]
  obtain ⟨hbus, hsta⟩ := clearRc_bus o (setBus { s.bus with rdata := BitVec.ofNat 32 ((aFind s.bus.snap (agentKey agent o)).getD
      (hidden s agent o (rawWord s agent o (tagOf s none)))) } s)
  cases hs : aFind s.bus.snap (agentKey agent o) with
  | some x =>
    rw [hs] at hbus hsta
    exact ⟨congrArg BusState.rdata hbus, hsta⟩
  | none =>
    rw [hs] at hbus hsta
    exact ⟨congrArg BusState.rdata hbus, hsta⟩

theorem busWrite_low {agent o v : Nat} {s : State} (hw : mayWrite s agent (o / 4 * 4) = true) (hm : mapped o = true)
    (hl : isLow o = true) (hi : notIts agent o = false) :
    busWrite agent o v 15 s = setBus { s.bus with low := aIns s.bus.low o (v % 2 ^ 32) } s := by
  simp [busWrite, hw, hm, hl, hi]

theorem busWrite_notIts {agent o v : Nat} {s : State} (hw : mayWrite s agent (o / 4 * 4) = true) (hm : mapped o = true)
    (hl : isLow o = true) (hi : notIts agent o = true) : busWrite agent o v 15 s = s := by
  simp [busWrite, hw, hm, hl, hi]

end Sys2Proof.Machine

/-- Settles O16: low words and high words have no read effect but the snapshot, and no write effect but the word that is held. -/
theorem wideValuesAreWhole : Obligations.WideValuesAreWhole := by
  unfold Obligations.WideValuesAreWhole
  intro dt agent off v s a ha hm
  have hn : noEnd a := ha ▸ noEnd_advance dt s
  have h4 : off.toNat / 4 * 4 = off.toNat := by
    have h := hm
    simp only [mapped, Bool.and_eq_true, decide_eq_true_eq] at h
    omega
  have hrd : mayRead a agent.toNat off.toNat = true → mayRead a agent.toNat (off.toNat / 4 * 4) = true := fun h => by rwa [h4]
  have hwr : mayWrite a agent.toNat off.toNat = true → mayWrite a agent.toNat (off.toNat / 4 * 4) = true := fun h => by rwa [h4]
  have hval : ∀ x < 2 ^ 32, (BitVec.ofNat 32 x).toNat = x := fun x hx => by rw [BitVec.toNat_ofNat, Nat.mod_eq_of_lt hx]
  refine ⟨fun hl hr => ?_, fun hh hr x hx hf => ?_, fun hh hr hf => ?_, fun hl hw => ⟨fun hi => ?_, fun hi => ?_⟩⟩
  · obtain ⟨x, he⟩ := busRead_low (hrd hr) hm hl
    refine answers_eq ha (exec_wideReadLowWord ..) rfl he ?_
    have hb := setBus_frame { a.bus with rdata := x, snap := aIns a.bus.snap (agentKey agent.toNat (off.toNat + 4))
                                                               (hidden a agent.toNat (off.toNat + 4)
                                                                 (rawWord a agent.toNat (off.toNat + 4) false)) } a
    refine ⟨?_, (hb.settle hn).2⟩
    rw [settle_bus (hb.noEnd hn)]
    exact aFind_aIns_self ..
  · obtain ⟨hd, hsta⟩ := busRead_high (hrd hr) hm hh
    refine answers_of ha (exec_wideReadLowWord ..) rfl ?_
    rw [settle_bus (noEnd_congr hn hsta), hd, hf]
    exact hval x hx
  · obtain ⟨hd, hsta⟩ := busRead_high (hrd hr) hm hh
    refine answers_of ha (exec_wideReadLowWord ..) rfl ?_
    rw [settle_bus (noEnd_congr hn hsta), hd, hf]
    exact BitVec.toNat_ofNat ..
  · refine answers_eq ha (exec_wideWriteLowWord ..) rfl (busWrite_low (hwr hw) hm hl hi) ?_
    have hb := setBus_frame { a.bus with low := aIns a.bus.low off.toNat (v.toNat % 2 ^ 32) } a
    refine ⟨?_, hb.settle hn⟩
    rw [settle_bus (hb.noEnd hn)]
    exact (aFind_aIns_self ..).trans (congrArg some (Nat.mod_eq_of_lt v.isLt))
  · exact answers_untouched ha (exec_wideWriteLowWord ..) rfl (busWrite_notIts (hwr hw) hm hl hi)
end

section
/-! SUPPORT. Which parts of the machine an operation can change, and below which register nothing: one rule per operation, for the frames of
the statements. -/

namespace Sys2Proof.Machine

/-- The parts of the machine that a statement can ask to be as before. `msgs` is what waits at the collector and the recorder, as a list;
`drops` says that something of it may go; `ends` are the marks of a rest state that ended at once. -/
inductive Part where
  | time | bus | msgs | drops | waits | sns | est | psq | drg | phc | lgv | tmg | sta | ends | pxe | bal | fw | cmd | evr | flc | sec | upd
  deriving DecidableEq

/-- Every part of the first list is in the second. -/
def Within (l L : List Part) : Prop := ∀ p ∈ l, p ∈ L

theorem Within.of {l m L : List Part} (h : l.all (fun p => decide (p ∈ m)) = true) (hL : Within m L) : Within l L := fun p hp =>
  hL p (of_decide_eq_true (List.all_eq_true.1 h p hp))

theorem Within.mem {l L : List Part} {p : Part} (hL : Within l L) (h : p ∈ l) : p ∈ L := hL p h

theorem Within.self (l : List Part) : Within l l := fun _ h => h

/-- The parts that are not listed, and the registers below `lo`, are as before. -/
structure Agree (L : List Part) (lo : Nat) (s t : State) : Prop where
  time : .time ∉ L → t.time = s.time
  bus : .bus ∉ L → t.bus = s.bus
  inbox : .msgs ∉ L → t.inbox = s.inbox
  waiting : .drops ∉ L → ∀ x ∈ s.inbox, x ∈ t.inbox
  waits : .waits ∉ L → waitingSame s t
  sns : .sns ∉ L → t.sns = s.sns
  est : .est ∉ L → t.est = s.est
  psq : .psq ∉ L → t.psq = s.psq
  drg : .drg ∉ L → t.drg = s.drg
  phc : .phc ∉ L → t.phc = s.phc
  lgv : .lgv ∉ L → t.lgv = s.lgv
  tmg : .tmg ∉ L → t.tmg = s.tmg
  sta : .sta ∉ L → t.sta = s.sta
  ends : .ends ∉ L → t.sta.endDeep = s.sta.endDeep ∧ t.sta.endLate = s.sta.endLate
  pxe : .pxe ∉ L → t.pxe = s.pxe
  bal : .bal ∉ L → t.bal = s.bal
  fw : .fw ∉ L → t.fw = s.fw
  cmd : .cmd ∉ L → t.cmd = s.cmd
  evr : .evr ∉ L → t.evr = s.evr
  flc : .flc ∉ L → t.flc = s.flc
  sec : .sec ∉ L → t.sec = s.sec
  upd : .upd ∉ L → t.upd = s.upd
  fields : ∀ f : Fld, f.key < lo → getF t f = getF s f

theorem Agree.refl (L : List Part) (lo : Nat) (s : State) : Agree L lo s s :=
  ⟨fun _ => rfl, fun _ => rfl, fun _ => rfl, fun _ _ h => h, fun _ => ⟨rfl, rfl, rfl, rfl, rfl⟩, fun _ => rfl, fun _ => rfl, fun _ => rfl,
    fun _ => rfl, fun _ => rfl, fun _ => rfl, fun _ => rfl, fun _ => rfl, fun _ => ⟨rfl, rfl⟩, fun _ => rfl, fun _ => rfl, fun _ => rfl,
    fun _ => rfl, fun _ => rfl, fun _ => rfl, fun _ => rfl, fun _ => rfl, fun _ _ => rfl⟩

/-- A state written out: each part that differs is listed. -/
def AgreeMk (L : List Part) (lo : Nat) (z s : State) : Prop := Agree L lo z s

theorem agree_mk_eq {L : List Part} {lo : Nat} {z : State} {pending free time regs wrote landing landAge pend frozen held acts bus inbox
    msgSeq lostMsg lostRec sns est psq drg phc lgv tmg sta pxe bal fw cmd evr flc sec upd pmb} :
    Agree L lo z ⟨pending, free, time, regs, wrote, landing, landAge, pend, frozen, held, acts, bus, inbox, msgSeq, lostMsg, lostRec, sns, est,
      psq, drg, phc, lgv, tmg, sta, pxe, bal, fw, cmd, evr, flc, sec, upd, pmb⟩ =
    AgreeMk L lo z ⟨pending, free, time, regs, wrote, landing, landAge, pend, frozen, held, acts, bus, inbox, msgSeq, lostMsg, lostRec, sns,
      est, psq, drg, phc, lgv, tmg, sta, pxe, bal, fw, cmd, evr, flc, sec, upd, pmb⟩ := rfl

theorem mk_agree {L : List Part} {lo : Nat} {z s : State} {free time wrote landing landAge pend frozen held acts bus inbox msgSeq lostMsg
    lostRec sns est psq drg phc lgv tmg sta pxe bal fw cmd evr flc sec upd pmb} (h : Agree L lo z s)
    (htime : time = s.time ∨ .time ∈ L) (hbus : bus = s.bus ∨ .bus ∈ L) (hinbox : inbox = s.inbox ∨ .msgs ∈ L ∧ .drops ∈ L)
    (hwaits : (landing = s.landing ∧ pend = s.pend ∧ frozen = s.frozen ∧ held = s.held ∧ acts = s.acts) ∨ .waits ∈ L)
    (hsns : sns = s.sns ∨ .sns ∈ L) (hest : est = s.est ∨ .est ∈ L) (hpsq : psq = s.psq ∨ .psq ∈ L) (hdrg : drg = s.drg ∨ .drg ∈ L)
    (hphc : phc = s.phc ∨ .phc ∈ L) (hlgv : lgv = s.lgv ∨ .lgv ∈ L) (htmg : tmg = s.tmg ∨ .tmg ∈ L) (hsta : sta = s.sta ∨ .sta ∈ L)
    (hends : (sta.endDeep = s.sta.endDeep ∧ sta.endLate = s.sta.endLate) ∨ .ends ∈ L) (hpxe : pxe = s.pxe ∨ .pxe ∈ L)
    (hbal : bal = s.bal ∨ .bal ∈ L) (hfw : fw = s.fw ∨ .fw ∈ L) (hcmd : cmd = s.cmd ∨ .cmd ∈ L) (hevr : evr = s.evr ∨ .evr ∈ L)
    (hflc : flc = s.flc ∨ .flc ∈ L) (hsec : sec = s.sec ∨ .sec ∈ L) (hupd : upd = s.upd ∨ .upd ∈ L) :
    AgreeMk L lo z ⟨s.pending, free, time, s.regs, wrote, landing, landAge, pend, frozen, held, acts, bus, inbox, msgSeq, lostMsg, lostRec, sns,
      est, psq, drg, phc, lgv, tmg, sta, pxe, bal, fw, cmd, evr, flc, sec, upd, pmb⟩ where
  time hn := (htime.resolve_right hn).trans (h.time hn)
  bus hn := (hbus.resolve_right hn).trans (h.bus hn)
  inbox hn := (hinbox.resolve_right fun x => hn x.1).trans (h.inbox hn)
  waiting hn x hx := by rw [show State.inbox _ = s.inbox from hinbox.resolve_right fun x => hn x.2]; exact h.waiting hn x hx
  waits hn := by
    obtain ⟨h1, h2, h3, h4, h5⟩ := hwaits.resolve_right hn
    obtain ⟨g1, g2, g3, g4, g5⟩ := h.waits hn
    exact ⟨h1.trans g1, h2.trans g2, h3.trans g3, h4.trans g4, h5.trans g5⟩
  sns hn := (hsns.resolve_right hn).trans (h.sns hn)
  est hn := (hest.resolve_right hn).trans (h.est hn)
  psq hn := (hpsq.resolve_right hn).trans (h.psq hn)
  drg hn := (hdrg.resolve_right hn).trans (h.drg hn)
  phc hn := (hphc.resolve_right hn).trans (h.phc hn)
  lgv hn := (hlgv.resolve_right hn).trans (h.lgv hn)
  tmg hn := (htmg.resolve_right hn).trans (h.tmg hn)
  sta hn := (hsta.resolve_right hn).trans (h.sta hn)
  ends hn := ⟨(hends.resolve_right hn).1.trans (h.ends hn).1, (hends.resolve_right hn).2.trans (h.ends hn).2⟩
  pxe hn := (hpxe.resolve_right hn).trans (h.pxe hn)
  bal hn := (hbal.resolve_right hn).trans (h.bal hn)
  fw hn := (hfw.resolve_right hn).trans (h.fw hn)
  cmd hn := (hcmd.resolve_right hn).trans (h.cmd hn)
  evr hn := (hevr.resolve_right hn).trans (h.evr hn)
  flc hn := (hflc.resolve_right hn).trans (h.flc hn)
  sec hn := (hsec.resolve_right hn).trans (h.sec hn)
  upd hn := (hupd.resolve_right hn).trans (h.upd hn)
  fields f hf := h.fields f hf

section
variable {L : List Part} {lo : Nat} {z s : State}

theorem foldl_agree {α : Type} {g : State → α → State} {l : List α} (hg : ∀ t x, Agree L lo z t → Agree L lo z (g t x))
    (h : Agree L lo z s) : Agree L lo z (l.foldl g s) :=
  List.foldlRecOn (motive := Agree L lo z) _ _ h fun t ht x _ => hg t x ht

theorem ite_agree {c : Prop} [Decidable c] {x y : State} (hx : Agree L lo z x) (hy : Agree L lo z y) : Agree L lo z (if c then x else y) := by
  split <;> assumption

theorem of_fst_agree {α : Type} {p : State × α} {t : State} {x : α} (hp : p = (t, x)) (h : Agree L lo z p.1) : Agree L lo z t := by
  subst hp; exact h

theorem setF_agree (f : Fld) (v : Nat) (hf : lo ≤ f.key) (h : Agree L lo z s) : Agree L lo z (setF s f v) :=
  ⟨h.time, h.bus, h.inbox, h.waiting, h.waits, h.sns, h.est, h.psq, h.drg, h.phc, h.lgv, h.tmg, h.sta, h.ends, h.pxe, h.bal, h.fw, h.cmd,
    h.evr, h.flc, h.sec, h.upd, fun g hg => (getF_setF_ne s v (by omega)).trans (h.fields g hg)⟩

theorem setB_agree (f : Fld) (b : Bool) (hf : lo ≤ f.key) (h : Agree L lo z s) : Agree L lo z (setB s f b) := setF_agree f _ hf h
theorem setS_agree (f : Fld) (i : Int) (hf : lo ≤ f.key) (h : Agree L lo z s) : Agree L lo z (setS s f i) := setF_agree f _ hf h
theorem setSat_agree (f : Fld) (v : Nat) (hf : lo ≤ f.key) (h : Agree L lo z s) : Agree L lo z (setSat s f v) := setF_agree f _ hf h
theorem setSatS_agree (f : Fld) (i : Int) (hf : lo ≤ f.key) (h : Agree L lo z s) : Agree L lo z (setSatS s f i) := setF_agree f _ hf h
theorem incF_agree (f : Fld) (hf : lo ≤ f.key) (h : Agree L lo z s) : Agree L lo z (incF s f) := setF_agree f _ hf h
theorem setW_agree (f g : Fld) (v : Nat) (hf : lo ≤ f.key) (hg : lo ≤ g.key) (h : Agree L lo z s) : Agree L lo z (setW s f g v) :=
  setF_agree g _ hg (setF_agree f _ hf h)

theorem sendFaultP_agree (p k src i : Nat) (hL : Within [.msgs] L) (hlo : lo ≤ FLC.STATUS.QUEUE_OVF.key) (h : Agree L lo z s) :
    Agree L lo z (sendFaultP p k src i s) where
  time hn := (sendFaultP_time ..).trans (h.time hn)
  bus hn := (sendFaultP_bus ..).trans (h.bus hn)
  inbox hn := absurd (hL _ (List.mem_singleton_self _)) hn
  waiting hn x hx := inbox_sendFaultP x (h.waiting hn x hx)
  waits hn := by simpa [waitingSame] using h.waits hn
  sns hn := (sendFaultP_sns ..).trans (h.sns hn)
  est hn := (sendFaultP_est ..).trans (h.est hn)
  psq hn := (sendFaultP_psq ..).trans (h.psq hn)
  drg hn := (sendFaultP_drg ..).trans (h.drg hn)
  phc hn := (sendFaultP_phc ..).trans (h.phc hn)
  lgv hn := (sendFaultP_lgv ..).trans (h.lgv hn)
  tmg hn := (sendFaultP_tmg ..).trans (h.tmg hn)
  sta hn := (sendFaultP_sta ..).trans (h.sta hn)
  ends hn := by rw [sendFaultP_sta]; exact h.ends hn
  pxe hn := (sendFaultP_pxe ..).trans (h.pxe hn)
  bal hn := (sendFaultP_bal ..).trans (h.bal hn)
  fw hn := (sendFaultP_fw ..).trans (h.fw hn)
  cmd hn := (sendFaultP_cmd ..).trans (h.cmd hn)
  evr hn := (sendFaultP_evr ..).trans (h.evr hn)
  flc hn := (sendFaultP_flc ..).trans (h.flc hn)
  sec hn := (sendFaultP_sec ..).trans (h.sec hn)
  upd hn := (sendFaultP_upd ..).trans (h.upd hn)
  fields f hf := (getF_sendFaultP _ _ _ _ _ (by omega)).trans (h.fields f hf)

theorem sendFault_agree (k src i : Nat) (hL : Within [.msgs] L) (hlo : lo ≤ FLC.STATUS.QUEUE_OVF.key) (h : Agree L lo z s) :
    Agree L lo z (sendFault k src i s) := sendFaultP_agree _ k src i hL hlo h

theorem postRec_agree (p g c y : Nat) (l : List Nat) (hL : Within [.msgs] L) (hlo : lo ≤ EVR.COUNTS.DROPPED.key) (h : Agree L lo z s) :
    Agree L lo z (postRec p g c y l s) where
  time hn := (postRec_time ..).trans (h.time hn)
  bus hn := (postRec_bus ..).trans (h.bus hn)
  inbox hn := absurd (hL _ (List.mem_singleton_self _)) hn
  waiting hn x hx := inbox_postRec x (h.waiting hn x hx)
  waits hn := by simpa [waitingSame] using h.waits hn
  sns hn := (postRec_sns ..).trans (h.sns hn)
  est hn := (postRec_est ..).trans (h.est hn)
  psq hn := (postRec_psq ..).trans (h.psq hn)
  drg hn := (postRec_drg ..).trans (h.drg hn)
  phc hn := (postRec_phc ..).trans (h.phc hn)
  lgv hn := (postRec_lgv ..).trans (h.lgv hn)
  tmg hn := (postRec_tmg ..).trans (h.tmg hn)
  sta hn := (postRec_sta ..).trans (h.sta hn)
  ends hn := by rw [postRec_sta]; exact h.ends hn
  pxe hn := (postRec_pxe ..).trans (h.pxe hn)
  bal hn := (postRec_bal ..).trans (h.bal hn)
  fw hn := (postRec_fw ..).trans (h.fw hn)
  cmd hn := (postRec_cmd ..).trans (h.cmd hn)
  evr hn := (postRec_evr ..).trans (h.evr hn)
  flc hn := (postRec_flc ..).trans (h.flc hn)
  sec hn := (postRec_sec ..).trans (h.sec hn)
  upd hn := (postRec_upd ..).trans (h.upd hn)
  fields f hf := (getF_postRec _ _ _ _ _ _ (by omega)).trans (h.fields f hf)

theorem event_agree (c : Nat) (l : List Nat) (hL : Within [.msgs] L) (hlo : lo ≤ EVR.COUNTS.DROPPED.key) (h : Agree L lo z s) :
    Agree L lo z (event c l s) := postRec_agree _ _ _ _ _ hL hlo h
theorem eventP_agree (p c : Nat) (l : List Nat) (hL : Within [.msgs] L) (hlo : lo ≤ EVR.COUNTS.DROPPED.key) (h : Agree L lo z s) :
    Agree L lo z (eventP p c l s) := postRec_agree _ _ _ _ _ hL hlo h


theorem setBus_agree (x : BusState) (hL : Within [.bus] L) (hz : Agree L lo z s) : Agree L lo z (setBus x s) := by
  simp only [setBus, agree_mk_eq]
  apply mk_agree hz
  with_reducible repeat' (first | exact .inl rfl | exact .inl ⟨rfl, rfl, rfl, rfl, rfl⟩ | exact .inl ⟨rfl, rfl⟩ | exact .inr (hL.mem (by decide)))

theorem setSns_agree (x : SnsState) (hL : Within [.sns] L) (hz : Agree L lo z s) : Agree L lo z (setSns x s) := by
  simp only [setSns, agree_mk_eq]
  apply mk_agree hz
  with_reducible repeat' (first | exact .inl rfl | exact .inl ⟨rfl, rfl, rfl, rfl, rfl⟩ | exact .inl ⟨rfl, rfl⟩ | exact .inr (hL.mem (by decide)))

theorem setEst_agree (x : EstState) (hL : Within [.est] L) (hz : Agree L lo z s) : Agree L lo z (setEst x s) := by
  simp only [setEst, agree_mk_eq]
  apply mk_agree hz
  with_reducible repeat' (first | exact .inl rfl | exact .inl ⟨rfl, rfl, rfl, rfl, rfl⟩ | exact .inl ⟨rfl, rfl⟩ | exact .inr (hL.mem (by decide)))

theorem setLgv_agree (x : LgvState) (hL : Within [.lgv] L) (hz : Agree L lo z s) : Agree L lo z (setLgv x s) := by
  simp only [setLgv, agree_mk_eq]
  apply mk_agree hz
  with_reducible repeat' (first | exact .inl rfl | exact .inl ⟨rfl, rfl, rfl, rfl, rfl⟩ | exact .inl ⟨rfl, rfl⟩ | exact .inr (hL.mem (by decide)))

theorem setTmg_agree (x : TmgState) (hL : Within [.tmg] L) (hz : Agree L lo z s) : Agree L lo z (setTmg x s) := by
  simp only [setTmg, agree_mk_eq]
  apply mk_agree hz
  with_reducible repeat' (first | exact .inl rfl | exact .inl ⟨rfl, rfl, rfl, rfl, rfl⟩ | exact .inl ⟨rfl, rfl⟩ | exact .inr (hL.mem (by decide)))

theorem setPxe_agree (x : PxeState) (hL : Within [.pxe] L) (hz : Agree L lo z s) : Agree L lo z (setPxe x s) := by
  simp only [setPxe, agree_mk_eq]
  apply mk_agree hz
  with_reducible repeat' (first | exact .inl rfl | exact .inl ⟨rfl, rfl, rfl, rfl, rfl⟩ | exact .inl ⟨rfl, rfl⟩ | exact .inr (hL.mem (by decide)))

theorem setBal_agree (x : BalState) (hL : Within [.bal] L) (hz : Agree L lo z s) : Agree L lo z (setBal x s) := by
  simp only [setBal, agree_mk_eq]
  apply mk_agree hz
  with_reducible repeat' (first | exact .inl rfl | exact .inl ⟨rfl, rfl, rfl, rfl, rfl⟩ | exact .inl ⟨rfl, rfl⟩ | exact .inr (hL.mem (by decide)))

theorem setFw_agree (x : FwState) (hL : Within [.fw] L) (hz : Agree L lo z s) : Agree L lo z (setFw x s) := by
  simp only [setFw, agree_mk_eq]
  apply mk_agree hz
  with_reducible repeat' (first | exact .inl rfl | exact .inl ⟨rfl, rfl, rfl, rfl, rfl⟩ | exact .inl ⟨rfl, rfl⟩ | exact .inr (hL.mem (by decide)))

theorem setCmd_agree (x : CmdState) (hL : Within [.cmd] L) (hz : Agree L lo z s) : Agree L lo z (setCmd x s) := by
  simp only [setCmd, agree_mk_eq]
  apply mk_agree hz
  with_reducible repeat' (first | exact .inl rfl | exact .inl ⟨rfl, rfl, rfl, rfl, rfl⟩ | exact .inl ⟨rfl, rfl⟩ | exact .inr (hL.mem (by decide)))

theorem setEvr_agree (x : EvrState) (hL : Within [.evr] L) (hz : Agree L lo z s) : Agree L lo z (setEvr x s) := by
  simp only [setEvr, agree_mk_eq]
  apply mk_agree hz
  with_reducible repeat' (first | exact .inl rfl | exact .inl ⟨rfl, rfl, rfl, rfl, rfl⟩ | exact .inl ⟨rfl, rfl⟩ | exact .inr (hL.mem (by decide)))

theorem setFlc_agree (x : FlcState) (hL : Within [.flc] L) (hz : Agree L lo z s) : Agree L lo z (setFlc x s) := by
  simp only [setFlc, agree_mk_eq]
  apply mk_agree hz
  with_reducible repeat' (first | exact .inl rfl | exact .inl ⟨rfl, rfl, rfl, rfl, rfl⟩ | exact .inl ⟨rfl, rfl⟩ | exact .inr (hL.mem (by decide)))

theorem setUpd_agree (x : UpdState) (hL : Within [.upd] L) (hz : Agree L lo z s) : Agree L lo z (setUpd x s) := by
  simp only [setUpd, agree_mk_eq]
  apply mk_agree hz
  with_reducible repeat' (first | exact .inl rfl | exact .inl ⟨rfl, rfl, rfl, rfl, rfl⟩ | exact .inl ⟨rfl, rfl⟩ | exact .inr (hL.mem (by decide)))

theorem setPmb_agree (x : PmbState) (hz : Agree L lo z s) : Agree L lo z (setPmb x s) := by
  simp only [setPmb, agree_mk_eq]
  apply mk_agree hz
  with_reducible repeat' (first | exact .inl rfl | exact .inl ⟨rfl, rfl, rfl, rfl, rfl⟩ | exact .inl ⟨rfl, rfl⟩)

theorem setSta_agree (x : StaState) (he : (x.endDeep = s.sta.endDeep ∧ x.endLate = s.sta.endLate) ∨ .ends ∈ L)
    (hL : Within [.sta] L) (hz : Agree L lo z s) : Agree L lo z (setSta x s) := by
  simp only [setSta, agree_mk_eq]
  apply mk_agree hz
  with_reducible repeat' (first | exact he | exact .inl rfl | exact .inl ⟨rfl, rfl, rfl, rfl, rfl⟩ | exact .inl ⟨rfl, rfl⟩ | exact .inr (hL.mem (by decide)))

theorem setRail_agree (k : Nat) (x : Rail) (hL : Within [.phc] L) (hz : Agree L lo z s) : Agree L lo z (setRail s k x) := by
  simp only [setRail, agree_mk_eq]
  apply mk_agree hz
  with_reducible repeat' (first | exact .inl rfl | exact .inl ⟨rfl, rfl, rfl, rfl, rfl⟩ | exact .inl ⟨rfl, rfl⟩ | exact .inr (hL.mem (by decide)))

theorem setPhase_agree (n : Nat) (x : PhaseSt) (hL : Within [.phc] L) (hz : Agree L lo z s) : Agree L lo z (setPhase s n x) := by
  simp only [setPhase, agree_mk_eq]
  apply mk_agree hz
  with_reducible repeat' (first | exact .inl rfl | exact .inl ⟨rfl, rfl, rfl, rfl, rfl⟩ | exact .inl ⟨rfl, rfl⟩ | exact .inr (hL.mem (by decide)))

theorem setRegion_agree (r : Nat) (x : Region) (hL : Within [.drg] L) (hz : Agree L lo z s) : Agree L lo z (setRegion s r x) := by
  simp only [setRegion, agree_mk_eq]
  apply mk_agree hz
  with_reducible repeat' (first | exact .inl rfl | exact .inl ⟨rfl, rfl, rfl, rfl, rfl⟩ | exact .inl ⟨rfl, rfl⟩ | exact .inr (hL.mem (by decide)))

theorem addAct_agree (k : ActKind) (o : Option Nat) (p : Nat) (hL : Within [.waits] L) (hz : Agree L lo z s) : Agree L lo z (addAct k o p s) := by
  simp only [addAct, agree_mk_eq]
  apply mk_agree hz
  with_reducible repeat' (first | exact .inl rfl | exact .inl ⟨rfl, rfl, rfl, rfl, rfl⟩ | exact .inl ⟨rfl, rfl⟩ | exact .inr (hL.mem (by decide)))

theorem landPut_agree (f : Fld) (v : Nat) (hL : Within [.waits] L) (hz : Agree L lo z s) : Agree L lo z (landPut f v s) := by
  simp only [landPut, agree_mk_eq]
  apply mk_agree hz
  with_reducible repeat' (first | exact .inl rfl | exact .inl ⟨rfl, rfl, rfl, rfl, rfl⟩ | exact .inl ⟨rfl, rfl⟩ | exact .inr (hL.mem (by decide)))

theorem pendHw_agree (p : Nat) (f : Fld) (v : Nat) (hL : Within [.waits] L) (hz : Agree L lo z s) : Agree L lo z (pendHw p f v s) := by
  simp only [pendHw, agree_mk_eq]
  apply mk_agree hz
  with_reducible repeat' (first | exact .inl rfl | exact .inl ⟨rfl, rfl, rfl, rfl, rfl⟩ | exact .inl ⟨rfl, rfl⟩ | exact .inr (hL.mem (by decide)))

theorem freeNext_agree (hz : Agree L lo z s) : Agree L lo z (freeNext s) := by
  simp only [freeNext, agree_mk_eq]
  apply mk_agree hz
  with_reducible repeat' (first | exact .inl rfl | exact .inl ⟨rfl, rfl, rfl, rfl, rfl⟩ | exact .inl ⟨rfl, rfl⟩)

theorem repeatBroken_agree (cause : Nat) (hL : Within [.msgs] L) (hlo : lo ≤ 0x800407) (hz : Agree L lo z s) : Agree L lo z (repeatBroken
    cause s) := by
  unfold repeatBroken
  with_reducible repeat' (first
      | assumption | apply event_agree | apply setB_agree | split | exact Within.of (by decide) hL | exact hlo.trans (by decide))

theorem repeatBreaks_agree (cause : Nat) (hL : Within [.msgs] L) (hlo : lo ≤ 0x800407) (hz : Agree L lo z s) : Agree L lo z (repeatBreaks
    cause s) := by
  unfold repeatBreaks
  with_reducible repeat' (first
      | assumption | apply repeatBroken_agree | split)

theorem noteHold_agree (r : Nat) (hlo : lo ≤ 0xa04010) (hz : Agree L lo z s) : Agree L lo z (noteHold s r) := by
  unfold noteHold
  with_reducible repeat' (first
      | assumption | apply setSat_agree | exact hlo.trans (by decide) | (simp only [DRG.REGION_STRETCH.LONGEST_HOLD, fld]; omega))

theorem releaseHold_agree (r : Nat) (hL : Within [.drg] L) (hlo : lo ≤ 0xa04010) (hz : Agree L lo z s) : Agree L lo z (releaseHold r s) :=
    by
  unfold releaseHold
  with_reducible repeat' (first
      | assumption | apply setRegion_agree | apply noteHold_agree | split | simp only)

theorem setRate_agree (rate : Nat) (hL : Within [.drg] L) (hlo : lo ≤ 0xe00e88) (hz : Agree L lo z s) : Agree L lo z (setRate rate s) :=
    by
  unfold setRate
  with_reducible repeat' (first
      | assumption | exact .inl rfl | exact .inl ⟨rfl, rfl, rfl, rfl, rfl⟩ | exact .inl ⟨rfl, rfl⟩ | exact .inr (hL.mem (by decide))
      | apply setF_agree | simp only [agree_mk_eq] | apply mk_agree | exact Within.of (by decide) hL | exact hlo.trans (by decide))

theorem beatWindow_agree (hL : Within [.drg] L) (hz : Agree L lo z s) : Agree L lo z (beatWindow s) := by
  unfold beatWindow
  with_reducible repeat' (first
      | assumption | exact .inl rfl | exact .inl ⟨rfl, rfl, rfl, rfl, rfl⟩ | exact .inl ⟨rfl, rfl⟩ | exact .inr (hL.mem (by decide))
      | simp only [agree_mk_eq] | apply mk_agree)

theorem releaseBeats_agree (hL : Within [.drg] L) (hlo : lo ≤ 0xa04010) (hz : Agree L lo z s) : Agree L lo z (releaseBeats s) := by
  have h1 := foldl_agree (g := fun t r => releaseHold r t) (l := regions64) (fun t r ht => releaseHold_agree r hL hlo ht) hz
  unfold releaseBeats
  generalize regions64.foldl (fun t r => releaseHold r t) s = s1 at h1 ⊢
  simp only [agree_mk_eq]
  apply mk_agree h1
  with_reducible repeat' (first | exact .inl rfl | exact .inl ⟨rfl, rfl, rfl, rfl, rfl⟩ | exact .inl ⟨rfl, rfl⟩ | exact .inr (hL.mem (by decide)))

theorem bringIn_agree (k : Nat) (hL : Within [.phc] L) (hz : Agree L lo z s) : Agree L lo z (bringIn k s) := by
  unfold bringIn
  with_reducible repeat' (first
      | assumption | apply setPhase_agree | apply foldl_agree | (intro _))

theorem raiseTarget_agree (k : Nat) (hL : Within [.phc] L) (hz : Agree L lo z s) : Agree L lo z (raiseTarget k s) := by
  unfold raiseTarget
  with_reducible repeat' (first
      | assumption | apply bringIn_agree | apply setRail_agree | split)

theorem shedTo_agree (k : Nat) (tgt : Nat) (hL : Within [.phc] L) (hz : Agree L lo z s) : Agree L lo z (shedTo k tgt s) := by
  unfold shedTo
  with_reducible repeat' (first
      | assumption | apply setRail_agree | apply setPhase_agree | apply foldl_agree | split | (intro _))

theorem askRetire_agree (n : Nat) (cause : Nat) (hL : Within [.waits] L) (hz : Agree L lo z s) : Agree L lo z (askRetire n cause s) := by
  unfold askRetire
  with_reducible repeat' (first
      | assumption | exact .inl rfl | exact .inl ⟨rfl, rfl, rfl, rfl, rfl⟩ | exact .inl ⟨rfl, rfl⟩ | exact .inr (hL.mem (by decide))
      | split | simp only [agree_mk_eq] | apply mk_agree)

theorem shedAbort_agree (k : Nat) (cause : Nat) (hL : Within [.msgs, .phc] L) (hlo : lo ≤ 0x800407) (hz : Agree L lo z s) : Agree L lo z
    (shedAbort k cause s) := by
  unfold shedAbort
  with_reducible repeat' (first
      | assumption | exact .inl rfl | exact .inl ⟨rfl, rfl, rfl, rfl, rfl⟩ | exact .inl ⟨rfl, rfl⟩
      | apply setPhase_agree | apply setRail_agree | apply event_agree | apply incF_agree | apply setB_agree | apply repeatBreaks_agree
      | apply foldl_agree | split | (intro _) | simp only [agree_mk_eq] | apply mk_agree | exact Within.of (by decide) hL
      | exact hlo.trans (by decide) | (simp only [PHC.RAIL_STATUS.SHED_INH, fld]; omega))

theorem shedAborts_agree (cause : Nat) (hL : Within [.msgs, .phc] L) (hlo : lo ≤ 0x800407) (hz : Agree L lo z s) : Agree L lo z
    (shedAborts cause s) := by
  unfold shedAborts
  with_reducible repeat' (first
      | assumption | apply shedAbort_agree | apply foldl_agree | (intro _))

theorem imbalanceRound_agree (k : Nat) (hL : Within [.phc] L) (hz : Agree L lo z s) : Agree L lo z (imbalanceRound k s) := by
  unfold imbalanceRound
  with_reducible repeat' (first
      | assumption | exact .inl rfl | exact .inl ⟨rfl, rfl, rfl, rfl, rfl⟩ | exact .inl ⟨rfl, rfl⟩ | exact .inr (hL.mem (by decide))
      | apply foldl_agree | split | (intro _) | simp only [agree_mk_eq] | apply mk_agree)

theorem deExit_agree (k : Nat) (hL : Within [.phc] L) (hlo : lo ≤ 0xc0080b) (hz : Agree L lo z s) : Agree L lo z (deExit k s) := by
  unfold deExit
  with_reducible repeat' (first
      | assumption | exact .inl rfl | exact .inl ⟨rfl, rfl, rfl, rfl, rfl⟩ | exact .inl ⟨rfl, rfl⟩
      | apply setRail_agree | apply setB_agree | split | simp only [agree_mk_eq] | apply mk_agree | exact Within.of (by decide) hL
      | exact hlo.trans (by decide) | (simp only [PHC.RAIL_STATUS.DE, fld]; omega))

theorem addPhases_agree (k : Nat) (cause : Nat) (hL : Within [.msgs, .phc] L) (hlo : lo ≤ 0x800407) (hz : Agree L lo z s) : Agree L lo z
    (addPhases k cause s) := by
  unfold addPhases
  with_reducible repeat' (first
      | assumption | apply raiseTarget_agree | apply deExit_agree | apply shedAborts_agree | split | exact Within.of (by decide) hL
      | exact hlo.trans (by decide))

theorem negLimit_agree (hL : Within [.phc] L) (hz : Agree L lo z s) : Agree L lo z (negLimit s) := by
  unfold negLimit
  with_reducible repeat' (first
      | assumption | exact .inl rfl | exact .inl ⟨rfl, rfl, rfl, rfl, rfl⟩ | exact .inl ⟨rfl, rfl⟩ | exact .inr (hL.mem (by decide))
      | simp only [agree_mk_eq] | apply mk_agree)

theorem compSample_agree (k : Nat) (hL : Within [.phc] L) (hlo : lo ≤ 0xc01600) (hz : Agree L lo z s) : Agree L lo z (compSample k s) :=
    by
  unfold compSample
  with_reducible repeat' (first
      | assumption | exact .inl rfl | exact .inl ⟨rfl, rfl, rfl, rfl, rfl⟩ | exact .inl ⟨rfl, rfl⟩
      | apply setF_agree | apply setRail_agree | apply freeNext_agree | split | simp only [agree_mk_eq] | apply mk_agree
      | exact Within.of (by decide) hL | exact hlo.trans (by decide) | (simp only [PHC.DUTY.DUTY, fld]; omega))

theorem reactiveAdd_agree (k : Nat) (avg : Int) (hL : Within [.msgs, .phc] L) (hlo : lo ≤ 0x800407) (hz : Agree L lo z s) : Agree L lo z
    (reactiveAdd k avg s) := by
  unfold reactiveAdd
  with_reducible repeat' (first
      | assumption | exact .inl rfl | exact .inl ⟨rfl, rfl, rfl, rfl, rfl⟩ | exact .inl ⟨rfl, rfl⟩
      | apply addPhases_agree | apply setRail_agree | split | simp only [agree_mk_eq] | apply mk_agree | exact Within.of (by decide) hL)

theorem noteImax_agree (k : Nat) (avg : Int) (hL : Within [.phc] L) (hz : Agree L lo z s) : Agree L lo z (noteImax k avg s) := by
  unfold noteImax
  with_reducible repeat' (first
      | assumption | apply setRail_agree)

theorem deSample_agree (k : Nat) (hL : Within [.phc] L) (hlo : lo ≤ 0xc0080b) (hz : Agree L lo z s) : Agree L lo z (deSample k s) := by
  unfold deSample
  with_reducible repeat' (first
      | assumption | apply deExit_agree | apply setRail_agree | split)

theorem setRailSt_agree (k : Nat) (x : Nat) (hlo : lo ≤ 0xc08600) (hz : Agree L lo z s) : Agree L lo z (setRailSt k x s) := by
  unfold setRailSt
  with_reducible repeat' (first
      | assumption | apply setF_agree | exact hlo.trans (by decide) | (simp only [PHC.RAIL_SEQ.STATE, fld]; omega))

theorem phasesOff_agree (k : Nat) (hL : Within [.phc] L) (hz : Agree L lo z s) : Agree L lo z (phasesOff k s) := by
  unfold phasesOff
  with_reducible repeat' (first
      | assumption | apply setPhase_agree | apply foldl_agree | (intro _))

theorem regate_agree (hL : Within [.drg] L) (hz : Agree L lo z s) : Agree L lo z (regate s) := by
  unfold regate
  with_reducible repeat' (first
      | assumption | exact .inl rfl | exact .inl ⟨rfl, rfl, rfl, rfl, rfl⟩ | exact .inl ⟨rfl, rfl⟩ | exact .inr (hL.mem (by decide))
      | simp only [agree_mk_eq] | apply mk_agree)

theorem railOff_agree (k : Nat) (st : Nat) (hL : Within [.drg, .phc] L) (hlo : lo ≤ 0xc0080b) (hz : Agree L lo z s) : Agree L lo z
    (railOff k st s) := by
  unfold railOff
  with_reducible repeat' (first
      | assumption | exact .inl rfl | exact .inl ⟨rfl, rfl, rfl, rfl, rfl⟩ | exact .inl ⟨rfl, rfl⟩ | exact .inr (hL.mem (by decide))
      | apply setRailSt_agree | apply setRail_agree | apply phasesOff_agree | apply setB_agree | apply setF_agree | apply regate_agree
      | split | simp only [agree_mk_eq] | apply mk_agree | exact Within.of (by decide) hL | exact hlo.trans (by decide)
      | (simp only [PHC.RAIL_STATUS.DE, PHC.DUTY.DUTY, fld]; omega))

theorem restEnds_agree (hL : Within [.sta, .ends] L) (hlo : lo ≤ 0x1400200) (hz : Agree L lo z s) : Agree L lo z (restEnds s) := by
  unfold restEnds
  with_reducible repeat' (first
      | assumption | exact .inl rfl | exact .inl ⟨rfl, rfl, rfl, rfl, rfl⟩ | exact .inl ⟨rfl, rfl⟩ | exact .inr (hL.mem (by decide))
      | apply setF_agree | split | simp only [agree_mk_eq] | apply mk_agree | exact Within.of (by decide) hL | exact hlo.trans (by decide))

theorem phasesStop_agree (k : Nat) (hL : Within [.phc] L) (hz : Agree L lo z s) : Agree L lo z (phasesStop k s) := by
  unfold phasesStop
  with_reducible repeat' (first
      | assumption | apply setPhase_agree | apply foldl_agree | (intro _))

theorem enterStopping_agree (k : Nat) (hL : Within [.drg, .phc] L) (hlo : lo ≤ 0xc0080b) (hz : Agree L lo z s) : Agree L lo z
    (enterStopping k s) := by
  unfold enterStopping
  with_reducible repeat' (first
      | assumption | exact .inl rfl | exact .inl ⟨rfl, rfl, rfl, rfl, rfl⟩ | exact .inl ⟨rfl, rfl⟩ | exact .inr (hL.mem (by decide))
      | apply phasesStop_agree | apply setRail_agree | apply setB_agree | apply setRailSt_agree | apply regate_agree | split
      | simp only [agree_mk_eq] | apply mk_agree | exact Within.of (by decide) hL | exact hlo.trans (by decide)
      | (simp only [PHC.RAIL_STATUS.DE, fld]; omega))

theorem setStop_agree (x : Nat) (hL : Within [.phc] L) (hz : Agree L lo z s) : Agree L lo z (setStop x s) := by
  unfold setStop
  with_reducible repeat' (first
      | assumption | exact .inl rfl | exact .inl ⟨rfl, rfl, rfl, rfl, rfl⟩ | exact .inl ⟨rfl, rfl⟩ | exact .inr (hL.mem (by decide))
      | simp only [agree_mk_eq] | apply mk_agree)

theorem setSeqState_agree (x : Nat) (hlo : lo ≤ 0xc08180) (hz : Agree L lo z s) : Agree L lo z (setSeqState x s) := by
  unfold setSeqState
  with_reducible repeat' (first
      | assumption | apply setF_agree | exact hlo.trans (by decide))

theorem stopDone_agree (hL : Within [.msgs, .phc] L) (hlo : lo ≤ 0xc08180) (hz : Agree L lo z s) : Agree L lo z (stopDone s) := by
  unfold stopDone
  with_reducible repeat' (first
      | assumption | apply setStop_agree | apply setSeqState_agree | apply setB_agree | apply event_agree | exact Within.of (by decide) hL
      | exact hlo.trans (by decide))

theorem stopNext_agree (hL : Within [.msgs, .drg, .phc] L) (hlo : lo ≤ 0xc0080b) (hz : Agree L lo z s) : Agree L lo z (stopNext s) := by
  unfold stopNext
  with_reducible repeat' (first
      | assumption | exact .inl rfl | exact .inl ⟨rfl, rfl, rfl, rfl, rfl⟩ | exact .inl ⟨rfl, rfl⟩
      | apply setRail_agree | apply enterStopping_agree | apply stopDone_agree | apply foldl_agree | split | (intro _)
      | simp only [agree_mk_eq] | apply mk_agree | exact Within.of (by decide) hL | exact hlo.trans (by decide))

theorem waitersOff_agree (hL : Within [.drg, .phc] L) (hlo : lo ≤ 0xc0080b) (hz : Agree L lo z s) : Agree L lo z (waitersOff s) := by
  unfold waitersOff
  with_reducible repeat' (first
      | assumption | apply railOff_agree | apply foldl_agree | (intro _))

theorem beginStop_agree (kind : Nat) (hL : Within [.msgs, .drg, .phc] L) (hlo : lo ≤ 0xc0080b) (hz : Agree L lo z s) : Agree L lo z
    (beginStop kind s) := by
  unfold beginStop
  with_reducible repeat' (first
      | assumption | apply stopNext_agree | apply waitersOff_agree | apply setStop_agree | apply setSeqState_agree
      | exact Within.of (by decide) hL | exact hlo.trans (by decide))

theorem followSample_agree (k : Nat) (hL : Within [.phc] L) (hz : Agree L lo z s) : Agree L lo z (followSample k s) := by
  unfold followSample
  with_reducible repeat' (first
      | assumption | apply setRail_agree | apply freeNext_agree | split | simp only)

theorem busGood_agree (hL : Within [.phc] L) (hz : Agree L lo z s) : Agree L lo z (busGood s) := by
  unfold busGood
  with_reducible repeat' (first
      | assumption | exact .inl rfl | exact .inl ⟨rfl, rfl, rfl, rfl, rfl⟩ | exact .inl ⟨rfl, rfl⟩ | exact .inr (hL.mem (by decide))
      | simp only [agree_mk_eq] | apply mk_agree)

theorem seqSample_agree (k : Nat) (hL : Within [.phc] L) (hz : Agree L lo z s) : Agree L lo z (seqSample k s) := by
  unfold seqSample
  with_reducible repeat' (first
      | assumption | apply followSample_agree | apply setRail_agree | split | simp only)

theorem fallLifts_agree (p : Lift → Bool) (hL : Within [.psq] L) (hz : Agree L lo z s) : Agree L lo z (fallLifts p s) := by
  unfold fallLifts
  with_reducible repeat' (first
      | assumption | exact .inl rfl | exact .inl ⟨rfl, rfl, rfl, rfl, rfl⟩ | exact .inl ⟨rfl, rfl⟩ | exact .inr (hL.mem (by decide))
      | simp only [agree_mk_eq] | apply mk_agree)

theorem withdrawLift_agree (hL : Within [.msgs, .psq] L) (hlo : lo ≤ 0x800407) (hz : Agree L lo z s) : Agree L lo z (withdrawLift s) := by
  unfold withdrawLift
  with_reducible repeat' (first
      | assumption | exact .inl rfl | exact .inl ⟨rfl, rfl, rfl, rfl, rfl⟩ | exact .inl ⟨rfl, rfl⟩
      | apply fallLifts_agree | apply repeatBroken_agree | split | simp only [agree_mk_eq] | apply mk_agree
      | exact Within.of (by decide) hL)

theorem trustWithdraws_agree (hL : Within [.msgs, .psq] L) (hlo : lo ≤ 0x800407) (hz : Agree L lo z s) : Agree L lo z (trustWithdraws s)
    := by
  unfold trustWithdraws
  with_reducible repeat' (first
      | assumption | exact .inl rfl | exact .inl ⟨rfl, rfl, rfl, rfl, rfl⟩ | exact .inl ⟨rfl, rfl⟩ | exact .inr (hL.mem (by decide))
      | apply withdrawLift_agree | apply repeatBreaks_agree | split | simp only [agree_mk_eq] | apply mk_agree
      | exact Within.of (by decide) hL)

theorem setCapState_agree (v : Nat) (hL : Within [.msgs, .lgv] L) (hlo : lo ≤ 0xe00e00) (hz : Agree L lo z s) : Agree L lo z (setCapState
    v s) := by
  unfold setCapState
  with_reducible repeat' (first
      | assumption | exact .inl rfl | exact .inl ⟨rfl, rfl, rfl, rfl, rfl⟩ | exact .inl ⟨rfl, rfl⟩
      | apply eventP_agree | apply setF_agree | apply setLgv_agree | split | simp only | apply mk_agree
      | exact Within.of (by decide) hL | exact hlo.trans (by decide))

theorem capFollow_agree (stays : Bool) (hL : Within [.msgs, .lgv] L) (hlo : lo ≤ 0xe00e00) (hz : Agree L lo z s) : Agree L lo z (capFollow
    stays s) := by
  unfold capFollow
  with_reducible repeat' (first
      | assumption | apply setCapState_agree | split)

theorem refreshRate_agree (hL : Within [.drg] L) (hlo : lo ≤ 0xe00e88) (hz : Agree L lo z s) : Agree L lo z (refreshRate s) := by
  unfold refreshRate
  with_reducible repeat' (first
      | assumption | apply setRate_agree | split)

theorem boostCheck_agree (hL : Within [.drg] L) (hlo : lo ≤ 0xe00e08) (hz : Agree L lo z s) : Agree L lo z (boostCheck s) := by
  unfold boostCheck
  with_reducible repeat' (first
      | assumption | apply setB_agree | apply refreshRate_agree | split | exact Within.of (by decide) hL | exact hlo.trans (by decide))

theorem lgvClean_agree (hL : Within [.lgv] L) (hz : Agree L lo z s) : Agree L lo z (lgvClean s) := by
  unfold lgvClean
  with_reducible repeat' (first
      | assumption | apply setLgv_agree)

theorem lgvSample_agree (gov : List Int) (hL : Within [.lgv] L) (hlo : lo ≤ 0xe01400) (hz : Agree L lo z s) : Agree L lo z (lgvSample gov
    s) := by
  unfold lgvSample
  with_reducible repeat' (first
      | assumption | exact .inl rfl | exact .inl ⟨rfl, rfl, rfl, rfl, rfl⟩ | exact .inl ⟨rfl, rfl⟩
      | apply setLgv_agree | apply lgvClean_agree | apply setSatS_agree | apply foldl_agree | (intro _) | simp only [agree_mk_eq]
      | apply mk_agree | exact Within.of (by decide) hL | exact hlo.trans (by decide) | (simp only [LGV.WIN_I.CURRENT, fld]; omega))

theorem lgvClose10_agree (hL : Within [.lgv] L) (hlo : lo ≤ 0xe01400) (hz : Agree L lo z s) : Agree L lo z (lgvClose10 s) := by
  unfold lgvClose10
  with_reducible repeat' (first
      | assumption | exact .inl rfl | exact .inl ⟨rfl, rfl, rfl, rfl, rfl⟩ | exact .inl ⟨rfl, rfl⟩
      | apply lgvClean_agree | apply setSatS_agree | apply setLgv_agree | apply foldl_agree | (intro _) | simp only [agree_mk_eq]
      | apply mk_agree | exact Within.of (by decide) hL | exact hlo.trans (by decide) | (simp only [LGV.WIN_I.CURRENT, fld]; omega))

theorem lgvClose1_agree (hL : Within [.lgv] L) (hlo : lo ≤ 0xe00f90) (hz : Agree L lo z s) : Agree L lo z (lgvClose1 s) := by
  unfold lgvClose1
  with_reducible repeat' (first
      | assumption | exact .inl rfl | exact .inl ⟨rfl, rfl, rfl, rfl, rfl⟩ | exact .inl ⟨rfl, rfl⟩
      | apply lgvClean_agree | apply setSat_agree | apply setLgv_agree | simp only [agree_mk_eq] | apply mk_agree
      | exact Within.of (by decide) hL | exact hlo.trans (by decide))

theorem lgvClose1ms_agree (hL : Within [.msgs, .lgv] L) (hlo : lo ≤ 0xe00e00) (hz : Agree L lo z s) : Agree L lo z (lgvClose1ms s) := by
  unfold lgvClose1ms
  with_reducible repeat' (first
      | assumption | exact .inl rfl | exact .inl ⟨rfl, rfl, rfl, rfl, rfl⟩ | exact .inl ⟨rfl, rfl⟩
      | apply setLgv_agree | apply setSatS_agree | apply setSat_agree | apply lgvClean_agree | apply capFollow_agree | apply foldl_agree
      | (intro _) | simp only [agree_mk_eq] | apply mk_agree | exact Within.of (by decide) hL | exact hlo.trans (by decide)
      | (simp only [LGV.WIN_I.CURRENT, fld]; omega))

theorem pxeStored_agree (a : Nat) (n : Nat) (hL : Within [.pxe] L) (hz : Agree L lo z s) : Agree L lo z (pxeStored a n s) := by
  unfold pxeStored
  with_reducible repeat' (first
      | assumption | exact .inl rfl | exact .inl ⟨rfl, rfl, rfl, rfl, rfl⟩ | exact .inl ⟨rfl, rfl⟩ | exact .inr (hL.mem (by decide))
      | simp only [agree_mk_eq] | apply mk_agree)

theorem stageGrant_agree (w : Nat) (act : Nat) (at_ : Option Nat) (hL : Within [.waits] L) (hlo : lo ≤ 0x1200680) (hz : Agree L lo z s) :
    Agree L lo z (stageGrant w act at_ s) := by
  unfold stageGrant
  with_reducible repeat' (first
      | assumption | exact .inl rfl | exact .inl ⟨rfl, rfl, rfl, rfl, rfl⟩ | exact .inl ⟨rfl, rfl⟩
      | apply pendHw_agree | apply setB_agree | apply setW_agree | split | simp only [agree_mk_eq] | apply mk_agree
      | exact Within.of (by decide) hL | exact hlo.trans (by decide))

theorem setRoundState_agree (x : Nat) (hlo : lo ≤ 0x1200800) (hz : Agree L lo z s) : Agree L lo z (setRoundState x s) := by
  unfold setRoundState
  with_reducible repeat' (first
      | assumption | apply setF_agree | exact hlo.trans (by decide))

theorem abandonRounds_agree (hL : Within [.bal] L) (hlo : lo ≤ 0x1200800) (hz : Agree L lo z s) : Agree L lo z (abandonRounds s) := by
  unfold abandonRounds
  with_reducible repeat' (first
      | assumption | apply setRoundState_agree | apply setBal_agree)

theorem floorNext_agree (hL : Within [.waits, .bal] L) (hlo : lo ≤ 0x1200680) (hz : Agree L lo z s) : Agree L lo z (floorNext s) := by
  unfold floorNext
  with_reducible repeat' (first
      | assumption | exact .inl rfl | exact .inl ⟨rfl, rfl, rfl, rfl, rfl⟩ | exact .inl ⟨rfl, rfl⟩
      | apply stageGrant_agree | apply setBal_agree | split | simp only [agree_mk_eq] | apply mk_agree | exact Within.of (by decide) hL)

theorem balClear_agree (hL : Within [.bal] L) (hz : Agree L lo z s) : Agree L lo z (balClear s) := by
  unfold balClear
  with_reducible repeat' (first
      | assumption | apply setBal_agree)

theorem takeShot_agree (hL : Within [.est, .drg, .sta] L) (hz : Agree L lo z s) : Agree L lo z (takeShot s) := by
  unfold takeShot
  with_reducible repeat' (first
      | assumption | exact .inl rfl | exact .inl ⟨rfl, rfl, rfl, rfl, rfl⟩ | exact .inl ⟨rfl, rfl⟩ | exact .inr (hL.mem (by decide))
      | apply beatWindow_agree | apply setEst_agree | simp only [agree_mk_eq] | apply mk_agree | exact Within.of (by decide) hL)

theorem restSample_agree (hL : Within [.sta] L) (hz : Agree L lo z s) : Agree L lo z (restSample s) := by
  unfold restSample
  with_reducible repeat' (first
      | assumption | exact .inl ⟨rfl, rfl⟩ | apply setSta_agree | split)

theorem pmbWatch_agree (hz : Agree L lo z s) : Agree L lo z (pmbWatch s) := by
  unfold pmbWatch
  with_reducible repeat' (first
      | assumption | apply setPmb_agree | split
      | simp only)

theorem regionEsts_agree (hL : Within [.pxe] L) (hlo : lo ≤ 0x402000) (hz : Agree L lo z s) : Agree L lo z (regionEsts s) := by
  unfold regionEsts
  with_reducible repeat' (first
      | assumption | exact .inl rfl | exact .inl ⟨rfl, rfl, rfl, rfl, rfl⟩ | exact .inl ⟨rfl, rfl⟩
      | apply pxeStored_agree | apply setPxe_agree | apply setSatS_agree | apply foldl_agree | split | (intro _) | simp only
      | apply mk_agree | exact Within.of (by decide) hL | exact hlo.trans (by decide) | (simp only [EST.REGION_I.CURRENT, fld]; omega))

theorem trustCounts_agree (hlo : lo ≤ 0x400280) (hz : Agree L lo z s) : Agree L lo z (trustCounts s) := by
  unfold trustCounts
  with_reducible repeat' (first
      | assumption | exact .inl rfl | exact .inl ⟨rfl, rfl, rfl, rfl, rfl⟩ | exact .inl ⟨rfl, rfl⟩ | apply setSat_agree | split
      | simp only [agree_mk_eq] | apply mk_agree | exact hlo.trans (by decide))

theorem diffFault_agree (kind : Nat) (hL : Within [.msgs] L) (hlo : lo ≤ 0x1a01081) (hz : Agree L lo z s) : Agree L lo z (diffFault kind
    s) := by
  unfold diffFault
  with_reducible repeat' (first
      | assumption | apply sendFault_agree | exact Within.of (by decide) hL | exact hlo.trans (by decide))

theorem rowFault_agree (row : Nat) (hL : Within [.msgs] L) (hlo : lo ≤ 0x400205) (hz : Agree L lo z s) : Agree L lo z (rowFault row s) :=
    by
  unfold rowFault
  with_reducible repeat' (first
      | assumption | exact .inl rfl | exact .inl ⟨rfl, rfl, rfl, rfl, rfl⟩ | exact .inl ⟨rfl, rfl⟩
      | apply sendFault_agree | apply diffFault_agree | apply setB_agree | split | simp only [agree_mk_eq] | apply mk_agree
      | exact Within.of (by decide) hL | exact hlo.trans (by decide))

theorem trustEnter_agree (st : Nat) (hL : Within [.msgs, .waits, .est, .psq, .drg] L) (hlo : lo ≤ 0x400200) (hz : Agree L lo z s) : Agree
    L lo z (trustEnter st s) := by
  unfold trustEnter
  with_reducible repeat' (first
      | assumption | exact .inl rfl | exact .inl ⟨rfl, rfl, rfl, rfl, rfl⟩ | exact .inl ⟨rfl, rfl⟩ | exact .inr (hL.mem (by decide))
      | apply setB_agree | apply setF_agree | apply setEst_agree | apply event_agree | apply boostCheck_agree | apply trustWithdraws_agree
      | apply foldl_agree | split | (intro _) | simp only [agree_mk_eq] | apply mk_agree | exact Within.of (by decide) hL
      | exact hlo.trans (by decide)
      | (simp only [EST.SHADOW.OFFSET, EST.SHADOW.GAIN, fld]; omega))

theorem stageShadow_agree (hL : Within [.waits, .est] L) (hz : Agree L lo z s) : Agree L lo z (stageShadow s) := by
  unfold stageShadow
  with_reducible repeat' (first
      | assumption | exact .inl rfl | exact .inl ⟨rfl, rfl, rfl, rfl, rfl⟩ | exact .inl ⟨rfl, rfl⟩ | exact .inr (hL.mem (by decide))
      | apply setEst_agree | simp only [agree_mk_eq] | apply mk_agree | exact Within.of (by decide) hL)

theorem decideRow_agree (row : Nat) (hL : Within [.msgs, .waits, .est, .psq, .drg] L) (hlo : lo ≤ 0x400200) (hz : Agree L lo z s) : Agree
    L lo z (decideRow row s) := by
  unfold decideRow
  with_reducible repeat' (first
      | assumption | exact .inl rfl | exact .inl ⟨rfl, rfl, rfl, rfl, rfl⟩ | exact .inl ⟨rfl, rfl⟩
      | apply rowFault_agree | apply setF_agree | apply setEst_agree | apply trustEnter_agree | apply stageShadow_agree | apply setB_agree
      | apply boostCheck_agree | apply trustWithdraws_agree | split | simp only | apply mk_agree
      | exact Within.of (by decide) hL | exact hlo.trans (by decide))

theorem tryRow_agree (row : Nat) (hL : Within [.msgs, .waits, .est, .psq, .drg] L) (hlo : lo ≤ 0x400200) (hz : Agree L lo z s) : Agree L
    lo z (tryRow row s) := by
  unfold tryRow
  with_reducible repeat' (first
      | assumption | apply decideRow_agree | split)

theorem chipPower_agree (volts : List Nat) (is : List Int) (hL : Within [.est] L) (hlo : lo ≤ 0x404000) (hz : Agree L lo z s) : Agree L lo
    z (chipPower volts is s) := by
  unfold chipPower
  with_reducible repeat' (first
      | assumption | exact .inl rfl | exact .inl ⟨rfl, rfl, rfl, rfl, rfl⟩ | exact .inl ⟨rfl, rfl⟩
      | apply setSat_agree | apply setEst_agree | split | simp only [agree_mk_eq] | apply mk_agree | exact Within.of (by decide) hL
      | exact hlo.trans (by decide))

theorem estClose10_agree (hL : Within [.msgs, .waits, .est, .psq, .drg, .pxe] L) (hlo : lo ≤ 0x204200) (hz : Agree L lo z s) : Agree L lo
    z (estClose10 s) := by
  unfold estClose10
  with_reducible repeat' (first
      | assumption | exact .inl rfl | exact .inl ⟨rfl, rfl, rfl, rfl, rfl⟩ | exact .inl ⟨rfl, rfl⟩
      | apply setSatS_agree | apply regionEsts_agree | apply trustCounts_agree | apply setEst_agree | apply setB_agree
      | apply setSat_agree | apply tryRow_agree | apply foldl_agree | split | (intro _) | simp only [agree_mk_eq] | apply mk_agree
      | exact Within.of (by decide) hL | exact hlo.trans (by decide)
      | (simp only [SNS.RAIL_I_10US.CURRENT, fld]; omega))

theorem estRound_agree (hL : Within [.est] L) (hz : Agree L lo z s) : Agree L lo z (estRound s) := by
  unfold estRound
  with_reducible repeat' (first
      | assumption | apply setEst_agree)

theorem suspectRow_agree (row : Nat) (hL : Within [.msgs, .waits, .est, .psq, .drg] L) (hlo : lo ≤ 0x400200) (hz : Agree L lo z s) : Agree
    L lo z (suspectRow row s) := by
  unfold suspectRow
  with_reducible repeat' (first
      | assumption | apply decideRow_agree | split)

theorem bandFollow_agree (hL : Within [.est] L) (hlo : lo ≤ 0x400208) (hz : Agree L lo z s) : Agree L lo z (bandFollow s) := by
  unfold bandFollow
  with_reducible repeat' (first
      | assumption | exact .inl rfl | exact .inl ⟨rfl, rfl, rfl, rfl, rfl⟩ | exact .inl ⟨rfl, rfl⟩
      | apply setF_agree | apply setEst_agree | split | simp only [agree_mk_eq] | apply mk_agree | exact Within.of (by decide) hL
      | exact hlo.trans (by decide))

theorem estSample_agree (hlo : lo ≤ 0x400800) (hz : Agree L lo z s) : Agree L lo z (estSample s) := by
  unfold estSample
  with_reducible repeat' (first
      | assumption | apply setF_agree | apply setSatS_agree | apply foldl_agree | (intro _) | exact hlo.trans (by decide)
      | (simp only [EST.GOV_I.SOURCE, EST.GOV_I.CURRENT, fld]; omega))

theorem reactPhases_agree (hL : Within [.phc] L) (hz : Agree L lo z s) : Agree L lo z (reactPhases s) := by
  unfold reactPhases
  with_reducible repeat' (first
      | assumption | apply raiseTarget_agree | apply setRail_agree | apply shedTo_agree | apply foldl_agree | split | (intro _)
      | simp only)

theorem clearEnds_agree (hL : Within [.sta, .ends] L) (hz : Agree L lo z s) : Agree L lo z (clearEnds s) :=
  setSta_agree _ (.inr (hL.mem (by decide))) (Within.of (by decide) hL) hz

theorem inR_below {a b k : Nat} (h : lo ≤ a * 32) (hk : k < lo) : inR (keyOff k) a b = false := by
  unfold inR keyOff
  simp only [Bool.and_eq_false_iff, decide_eq_false_iff_not]
  omega

/-- The class H fields that go lie at the offsets asked for. -/
theorem dropH_agree (p : Nat → Bool) (hp : ∀ k, k < lo → p (keyOff k) = false) (hz : Agree L lo z s) : Agree L lo z (dropH p s) :=
  ⟨hz.time, hz.bus, hz.inbox, hz.waiting, hz.waits, hz.sns, hz.est, hz.psq, hz.drg, hz.phc, hz.lgv, hz.tmg, hz.sta, hz.ends, hz.pxe, hz.bal,
    hz.fw, hz.cmd, hz.evr, hz.flc, hz.sec, hz.upd, fun f hf => by
      rw [← hz.fields f hf]
      unfold getF dropH
      simp only [aFind_filter (fun k => !(clsAt k == .h && p (keyOff k))), hp _ hf, Bool.and_false, Bool.not_false, if_true]⟩

theorem trustZero_agree (hL : Within [.msgs, .waits, .est, .psq, .drg] L) (hlo : lo ≤ 0x400200) (hz : Agree L lo z s) : Agree L lo z
    (trustZero s) := by
  unfold trustZero
  with_reducible repeat' (first
      | assumption | apply trustEnter_agree | apply setF_agree | apply setB_agree | apply setEst_agree | split
      | exact Within.of (by decide) hL | exact hlo.trans (by decide))

theorem lgvZero_agree (hL : Within [.lgv] L) (hlo : lo ≤ 0xe00e09) (hz : Agree L lo z s) : Agree L lo z (lgvZero s) := by
  unfold lgvZero
  with_reducible repeat' (first
      | assumption | apply setB_agree | apply setF_agree | apply setLgv_agree | exact Within.of (by decide) hL
      | exact hlo.trans (by decide))

theorem deepExit_agree (hL : Within [.msgs, .waits, .sns, .est, .psq, .drg, .phc, .lgv, .bal] L) (hlo : lo ≤ 0x204a88) (hz : Agree L lo z
    s) : Agree L lo z (deepExit s) := by
  unfold deepExit
  with_reducible repeat' (first
      | assumption | apply setF_agree | apply trustZero_agree | apply lgvZero_agree | apply dropH_agree | apply setSns_agree
      | apply reactPhases_agree | apply floorNext_agree | apply balClear_agree | apply abandonRounds_agree | apply foldl_agree | (intro _)
      | exact inR_below (hlo.trans (by decide)) (by assumption) | exact Within.of (by decide) hL | exact hlo.trans (by decide)
      | (simp only [PHC.OC_COUNT.COUNT, fld]; omega))

theorem latenessZero_agree (hL : Within [.drg] L) (hlo : lo ≤ 0xa00000) (hz : Agree L lo z s) : Agree L lo z (latenessZero s) := by
  unfold latenessZero
  with_reducible repeat' (first
      | assumption | exact .inl rfl | exact .inl ⟨rfl, rfl, rfl, rfl, rfl⟩ | exact .inl ⟨rfl, rfl⟩ | exact .inr (hL.mem (by decide))
      | apply dropH_agree | simp only [agree_mk_eq] | apply mk_agree | exact fun _ => inR_below (hlo.trans (by decide)))

theorem restEnded_agree (hL : Within [.msgs, .waits, .sns, .est, .psq, .drg, .phc, .lgv, .sta, .ends, .bal] L) (hlo : lo ≤ 0x204a88) (hz :
    Agree L lo z s) : Agree L lo z (restEnded s) := by
  unfold restEnded
  with_reducible repeat' (first
      | assumption | exact .inl rfl | exact .inl ⟨rfl, rfl, rfl, rfl, rfl⟩ | exact .inl ⟨rfl, rfl⟩
      | apply clearEnds_agree | apply releaseBeats_agree | apply deepExit_agree | apply latenessZero_agree | split
      | simp only [agree_mk_eq] | apply mk_agree | exact Within.of (by decide) hL | exact hlo.trans (by decide))

theorem overrideFall_agree (hlo : lo ≤ 0x1e00000) (hz : Agree L lo z s) : Agree L lo z (overrideFall s) := by
  unfold overrideFall
  with_reducible repeat' (first
      | assumption | apply setB_agree | apply setPmb_agree | split | exact hlo.trans (by decide))

theorem settle_agree (hL : Within [.msgs, .waits, .sns, .est, .psq, .drg, .phc, .lgv, .sta, .ends, .bal] L) (hlo : lo ≤ 0x204a88) (hz :
    Agree L lo z s) : Agree L lo z (settle s) := by
  unfold settle
  with_reducible repeat' (first
      | assumption | apply pmbWatch_agree | apply overrideFall_agree | apply restEnded_agree | split | exact Within.of (by decide) hL
      | exact hlo.trans (by decide))

end

end Sys2Proof.Machine
end

section
/-! O18. A sample: the sense front end's own part, and what the other units leave of it. -/

namespace Sys2Proof.Machine

/-! ### Numbers in two's complement -/

theorem sx_ux {w : Nat} {i : Int} (hw : 0 < w) (hlo : -(2 ^ (w - 1)) ≤ i) (hhi : i < 2 ^ (w - 1)) : sx w (ux w i) = i := by
  obtain ⟨n, rfl⟩ : ∃ n, w = n + 1 := ⟨w - 1, by omega⟩
  simp only [Nat.add_sub_cancel] at hlo hhi
  have h2 : (2 : Int) ^ (n + 1) = 2 * 2 ^ n := by rw [pow_succ]; ring
  have hp : (0 : Int) < 2 ^ n := by positivity
  have hn : ((2 ^ n : Nat) : Int) = 2 ^ n := by push_cast; rfl
  have hnn : 0 ≤ i % (2 * 2 ^ n : Int) := Int.emod_nonneg _ (by omega)
  unfold sx ux
  rw [h2, Nat.add_sub_cancel]
  rcases lt_or_ge i 0 with hi | hi
  · have hm : i % (2 * 2 ^ n : Int) = i + 2 * 2 ^ n := by
      rw [← Int.add_mul_emod_self_right i 1 (2 * 2 ^ n), one_mul]
      exact Int.emod_eq_of_lt (by omega) (by omega)
    rw [hm] at hnn ⊢
    rw [if_neg (by omega)]
    omega
  · have hm : i % (2 * 2 ^ n : Int) = i := Int.emod_eq_of_lt hi (by omega)
    rw [hm]
    rw [if_pos (by omega)]
    omega

theorem getS_setSatS_self (s : State) (f : Fld) (i : Int) (hw : 0 < f.w) :
    getS (setSatS s f i) f = clampI (-(2 ^ (f.w - 1))) (2 ^ (f.w - 1) - 1) i := by
  have hp : (0 : Int) < 2 ^ (f.w - 1) := by positivity
  have hx : ux f.w (clampI (-(2 ^ (f.w - 1))) (2 ^ (f.w - 1) - 1) i) < 2 ^ f.w := by
    have h0 : (0 : Int) < 2 ^ f.w := by positivity
    have h1 := Int.emod_lt_of_pos (clampI (-(2 ^ (f.w - 1))) (2 ^ (f.w - 1) - 1) i) h0
    have h2 := Int.emod_nonneg (clampI (-(2 ^ (f.w - 1))) (2 ^ (f.w - 1) - 1) i) h0.ne'
    have h3 : ((2 ^ f.w : Nat) : Int) = 2 ^ f.w := by push_cast; rfl
    unfold ux
    omega
  unfold getS setSatS setS
  rw [getF_setF_self, Nat.mod_eq_of_lt hx]
  refine sx_ux hw ?_ ?_ <;> unfold clampI <;> omega

/-! ### The IMON inputs -/

/-- What a sample publishes of one input (R45, R46). -/
def imonShown (a : State) (code n : Nat) (t : State) : Prop :=
  getF t (SNS.IMON.CODE n) = code % 1024 ∧ getS t (SNS.IMON.CURRENT n) = clampI (-32768) 32767 (trimmed a n code) ∧
    (code = 0 ∨ code = 1023 → getB t (SNS.IMON.OVR n) = true)

/-- What the inputs of a sample leave: the trims, and all of the sense front end but the currents and the runs of the inputs. -/
structure ImonRest (a t : State) : Prop where
  trim : ∀ n, getF t (SNS.TRIM.OFFSET n) = getF a (SNS.TRIM.OFFSET n) ∧ getF t (SNS.TRIM.GAIN n) = getF a (SNS.TRIM.GAIN n)
  n1 : t.sns.n1 = a.sns.n1
  outN : t.sns.outN = a.sns.outN
  sta : t.sta = a.sta

theorem getF_imonSample_ne (n code : Nat) (s : State) {f : Fld} (h0 : f.key ≠ (SNS.IMON.CURRENT n).key)
    (h1 : f.key ≠ (SNS.IMON.CODE n).key) (h2 : f.key ≠ (SNS.IMON.OVR n).key) : getF (imonSample n code s) f = getF s f := by
  have h := (getF_setF_ne (setSatS s (SNS.IMON.CURRENT n) (trimmed s n code)) code h1).trans (getF_setSatS_ne s _ h0)
  unfold imonSample
  simp only [getF_setSns]
  split
  · exact (getF_setB_ne _ _ h2).trans h
  · exact h

theorem imonSample_shown (n code : Nat) (s : State) : imonShown s code n (imonSample n code s) := by
  have hc : (SNS.IMON.CURRENT n).key ≠ (SNS.IMON.CODE n).key ∧ (SNS.IMON.CURRENT n).key ≠ (SNS.IMON.OVR n).key ∧
      (SNS.IMON.CODE n).key ≠ (SNS.IMON.OVR n).key := by
    simp only [SNS.IMON.CURRENT, SNS.IMON.CODE, SNS.IMON.OVR, fld]; omega
  obtain ⟨h01, h02, h12⟩ := hc
  set u := setF (setSatS s (SNS.IMON.CURRENT n) (trimmed s n code)) (SNS.IMON.CODE n) code with hu
  have hcode : getF u (SNS.IMON.CODE n) = code % 1024 := getF_setF_self ..
  have hcur : getS u (SNS.IMON.CURRENT n) = clampI (-32768) 32767 (trimmed s n code) := by
    unfold getS
    rw [getF_setF_ne _ _ h01]
    exact getS_setSatS_self s (SNS.IMON.CURRENT n) _ (by show 0 < 16; omega)
  unfold imonSample imonShown
  simp only [getF_setSns, getS, getB]
  split
  · refine ⟨(getF_setB_ne _ _ h12).trans hcode, ?_, fun _ => ?_⟩
    · rw [getF_setB_ne _ _ h02]
      exact hcur
    · exact getB_setB_self u (SNS.IMON.OVR n) true rfl
  · next he =>
    refine ⟨hcode, hcur, fun hedge => absurd ?_ he⟩
    rcases hedge with rfl | rfl <;> rfl

theorem imonSample_rest (n code : Nat) (s : State) (hn : n < 98) : ImonRest s (imonSample n code s) := by
  refine ⟨fun m => ⟨getF_imonSample_ne _ _ _ ?_ ?_ ?_, getF_imonSample_ne _ _ _ ?_ ?_ ?_⟩, ?_, ?_, ?_⟩
  any_goals simp only [SNS.IMON.CURRENT, SNS.IMON.CODE, SNS.IMON.OVR, SNS.TRIM.OFFSET, SNS.TRIM.GAIN, fld]; omega
  all_goals unfold imonSample; simp only [setSns]; split <;> rfl

/-- The trimmed current follows the trims alone. -/
theorem trimmed_of_rest {a t : State} (h : ImonRest a t) (n code : Nat) : trimmed t n code = trimmed a n code := by
  unfold trimmed getS
  rw [(h.trim n).1, (h.trim n).2]

theorem imonShown_other {a t : State} {c n m code : Nat} (hmn : m ≠ n) (h : imonShown a c n t) : imonShown a c n (imonSample m code t) := by
  obtain ⟨hcode, hcur, hovr⟩ := h
  have hk : ∀ f ∈ [SNS.IMON.CODE n, SNS.IMON.CURRENT n, SNS.IMON.OVR n], getF (imonSample m code t) f = getF t f := by
    intro f hf
    simp only [List.mem_cons, List.not_mem_nil, or_false] at hf
    rcases hf with rfl | rfl | rfl
    all_goals
      refine getF_imonSample_ne _ _ _ ?_ ?_ ?_
      all_goals simp only [SNS.IMON.CURRENT, SNS.IMON.CODE, SNS.IMON.OVR, fld]; omega
  refine ⟨(hk _ (by simp)).trans hcode, ?_, fun he => ?_⟩
  · unfold getS; rw [hk _ (by simp)]; exact hcur
  · unfold getB; rw [hk _ (by simp)]; exact hovr he

/-- All the inputs of a sample, the first `N` of them. -/
theorem imonInputs (a : State) (imon : List Nat) (N : Nat) (hN : N ≤ 98) :
    ImonRest a ((List.range N).foldl (fun t n => imonSample n (nth imon n) t) a) ∧
      ∀ n < N, imonShown a (nth imon n) n ((List.range N).foldl (fun t n => imonSample n (nth imon n) t) a) := by
  induction N with
  | zero => exact ⟨⟨fun _ => ⟨rfl, rfl⟩, rfl, rfl, rfl⟩, fun n hn => absurd hn (Nat.not_lt_zero n)⟩
  | succ N ih =>
    obtain ⟨hr, hs⟩ := ih (by omega)
    rw [List.range_succ, List.foldl_append, List.foldl_cons, List.foldl_nil]
    have hstep := imonSample_rest N (nth imon N) ((List.range N).foldl (fun t n => imonSample n (nth imon n) t) a) (by omega)
    refine ⟨⟨fun n => ⟨(hstep.trim n).1.trans (hr.trim n).1, (hstep.trim n).2.trans (hr.trim n).2⟩, hstep.n1.trans hr.n1,
      hstep.outN.trans hr.outN, hstep.sta.trans hr.sta⟩, fun n hn => ?_⟩
    rcases Nat.lt_succ_iff_lt_or_eq.1 hn with h | rfl
    · exact imonShown_other (by omega) (hs n h)
    · have h := imonSample_shown n (nth imon n) ((List.range n).foldl (fun t n => imonSample n (nth imon n) t) a)
      unfold imonShown at h ⊢
      rwa [trimmed_of_rest hr] at h

/-! ### The sense points and the sums -/

/-- What is kept of the sense points: each point's code. -/
theorem aGet_points (pts : List Nat) (p : Nat) (hp : p < 5) :
    aGet 0 ((List.range 5).foldl (fun m p => aPut 0 m p (nth pts p)) []) p = nth pts p := by
  simp only [show List.range 5 = [0, 1, 2, 3, 4] from rfl, List.foldl_cons, List.foldl_nil]
  match p, hp with
  | 0, _ | 1, _ | 2, _ | 3, _ | 4, _ => simp (disch := decide) only [aGet_aPut_self, aGet_aPut_ne]

/-- The setting of the four rails' voltages. -/
theorem railV_frame (s : State) :
    (rails4.foldl (fun t k => setF t (SNS.RAIL_V.VOLTAGE k) (senseHalf t k)) s).sns = s.sns ∧
      (rails4.foldl (fun t k => setF t (SNS.RAIL_V.VOLTAGE k) (senseHalf t k)) s).sta = s.sta ∧
      ∀ f : Fld, f.key < 0x10220 * 32 ∨ 0x10230 * 32 ≤ f.key →
        getF (rails4.foldl (fun t k => setF t (SNS.RAIL_V.VOLTAGE k) (senseHalf t k)) s) f = getF s f := by
  refine ⟨rfl, rfl, fun f hf => ?_⟩
  simp only [rails4, List.foldl_cons, List.foldl_nil]
  iterate 4 rw [getF_setF_ne _ _ (by simp only [SNS.RAIL_V.VOLTAGE, fld]; omega)]

/-- The sense points of a sample, as a whole. -/
structure PointsTaken (pts : List Nat) (s t : State) : Prop where
  codes : ∀ p < 5, pointCode t p = nth pts p
  va : getF t SNS.VCORE_A.VOLTAGE = nth pts 0 % 4096
  vb : getF t SNS.VCORE_B.VOLTAGE = nth pts 1 % 4096
  low : ∀ f : Fld, f.key < 0x10220 * 32 → getF t f = getF s f
  n1 : t.sns.n1 = s.sns.n1
  outN : t.sns.outN = s.sns.outN
  sta : t.sta = s.sta

theorem pointsSample_taken (pts : List Nat) (s : State) : PointsTaken pts s (pointsSample pts s) := by
  unfold pointsSample
  simp only
  generalize hs1 : setSns { s.sns with pts := (List.range 5).foldl (fun m p => aPut 0 m p (nth pts p)) [] } s = s1
  obtain ⟨hsns, hsta, hf⟩ := railV_frame (setF (setF s1 SNS.VCORE_A.VOLTAGE (nth pts 0)) SNS.VCORE_B.VOLTAGE (nth pts 1))
  have ht : s1.sns = { s.sns with pts := (List.range 5).foldl (fun m p => aPut 0 m p (nth pts p)) [] } := by rw [← hs1]; rfl
  refine ⟨fun p hp => ?_, ?_, ?_, fun f hlow => ?_, ?_, ?_, ?_⟩
  · show aGet 0 (State.sns (rails4.foldl _ _)).pts p = _
    rw [hsns]
    show aGet 0 s1.sns.pts p = _
    rw [ht]
    exact aGet_points pts p hp
  · rw [getF_setSns, hf _ (Or.inr (by decide)), getF_setF_ne _ _ (by decide)]
    exact getF_setF_self ..
  · rw [getF_setSns, hf _ (Or.inr (by decide))]
    exact getF_setF_self ..
  · have hk : f.key < SNS.VCORE_A.VOLTAGE.key := hlow.trans (by decide)
    have hk2 : f.key < SNS.VCORE_B.VOLTAGE.key := hlow.trans (by decide)
    rw [getF_setSns, hf _ (Or.inl hlow), getF_setF_ne _ _ hk2.ne, getF_setF_ne _ _ hk.ne, ← hs1]
    rfl
  · show (State.sns (rails4.foldl _ _)).n1 = _
    rw [hsns]
    show s1.sns.n1 = _
    rw [ht]
  · show (State.sns (rails4.foldl _ _)).outN = _
    rw [hsns]
    show s1.sns.outN = _
    rw [ht]
  · show State.sta (rails4.foldl _ _) = _
    rw [hsta, ← hs1]
    rfl

/-- The sense front end's part of a sample. -/
structure SampleTaken (imon pts : List Nat) (a t : State) : Prop where
  inputs : ∀ n < 98, imonShown a (nth imon n) n t
  codes : ∀ p < 5, pointCode t p = nth pts p
  va : getF t SNS.VCORE_A.VOLTAGE = nth pts 0 % 4096
  vb : getF t SNS.VCORE_B.VOLTAGE = nth pts 1 % 4096
  n1 : t.sns.n1 = a.sns.n1 + 1
  outN : t.sns.outN = a.sns.outN + 1

/-- What an input shows lies below the sense points' registers. -/
theorem imonShown_low {a t u : State} {code n lo : Nat} (hn : n < 98) (hlo : 0x10220 * 32 ≤ lo) (h : imonShown a code n t)
    (hf : ∀ f : Fld, f.key < lo → getF u f = getF t f) : imonShown a code n u := by
  obtain ⟨hcode, hcur, hovr⟩ := h
  have hk : ∀ f ∈ [SNS.IMON.CODE n, SNS.IMON.CURRENT n, SNS.IMON.OVR n], getF u f = getF t f := by
    intro f hm
    simp only [List.mem_cons, List.not_mem_nil, or_false] at hm
    rcases hm with rfl | rfl | rfl
    all_goals exact hf _ (by simp only [SNS.IMON.CURRENT, SNS.IMON.CODE, SNS.IMON.OVR, fld]; omega)
  refine ⟨(hk _ (by simp)).trans hcode, ?_, fun he => ?_⟩
  · unfold getS; rw [hk _ (by simp)]; exact hcur
  · unfold getB; rw [hk _ (by simp)]; exact hovr he

theorem snsSample_taken (imon pts : List Nat) (a : State) :
    SampleTaken imon pts a (snsSample imon pts a) ∧ (snsSample imon pts a).sta = a.sta := by
  unfold snsSample
  obtain ⟨hr, hs⟩ := imonInputs a imon 98 (Nat.le_refl _)
  generalize (List.range 98).foldl (fun t n => imonSample n (nth imon n) t) a = u at hr hs
  obtain ⟨hc, hva, hvb, hlow, hn1, hout, hsta⟩ := pointsSample_taken pts u
  generalize pointsSample pts u = v at hc hva hvb hlow hn1 hout hsta
  exact ⟨⟨fun n hn => imonShown_low hn (Nat.le_refl _) (hs n hn) hlow, hc, hva, hvb, congrArg (· + 1) (hn1.trans hr.n1),
    congrArg (· + 1) (hout.trans hr.outN)⟩, hsta.trans hr.sta⟩

/-- What the other units make of a sample stays with them. -/
theorem senseSample_agree (imon pts : List Nat) (a : State) :
    Agree [.lgv, .phc, .sta] (0x20000 * 32) (snsSample imon pts a) (senseSample imon pts a) := by
  have h0 : Agree [.lgv, .phc, .sta] (0x20000 * 32) (snsSample imon pts a) (estSample (snsSample imon pts a)) :=
    estSample_agree (by decide) (.refl ..)
  have h1 := lgvSample_agree (rails4.map (fun k => governed (estSample (snsSample imon pts a)) k)) (.of rfl (.self _)) (by decide) h0
  have h2 := foldl_agree (g := fun t k => compSample k (deSample k (seqSample k t))) (l := rails4) (fun t k ht =>
    compSample_agree k (.of rfl (.self _)) (by decide) (deSample_agree k (.of rfl (.self _)) (by decide)
      (seqSample_agree k (.of rfl (.self _)) ht))) h1
  exact restSample_agree (.of rfl (.self _)) (negLimit_agree (.of rfl (.self _)) h2)

/-! ### The statement -/

/-- The sense front end's registers lie below those of the other units. -/
theorem SampleTaken.of_fields {imon pts : List Nat} {a t u : State} (h : SampleTaken imon pts a t) (hs : u.sns = t.sns)
    (hf : ∀ f : Fld, f.key < 0x20000 * 32 → getF u f = getF t f) : SampleTaken imon pts a u := by
  refine ⟨fun n hn => imonShown_low hn (by decide) (h.inputs n hn) hf, fun p hp => ?_, (hf _ (by decide)).trans h.va,
    (hf _ (by decide)).trans h.vb, (congrArg SnsState.n1 hs).trans h.n1, (congrArg SnsState.outN hs).trans h.outN⟩
  unfold pointCode
  rw [hs]
  exact h.codes p hp

/-- A sample as every statement after it finds it. -/
theorem senseSample_taken (imon pts : List Nat) {a : State} (hn : noEnd a) :
    SampleTaken imon pts a (settle (senseSample imon pts a)) := by
  obtain ⟨ht, hsta⟩ := snsSample_taken imon pts a
  have hg := senseSample_agree imon pts a
  have hn1 : noEnd (snsSample imon pts a) := noEnd_congr hn hsta
  obtain ⟨hd, hl⟩ := hg.ends (by decide)
  have hnu : noEnd (senseSample imon pts a) := ⟨hd.trans hn1.1, hl.trans hn1.2⟩
  refine ht.of_fields ?_ fun f hf => ?_
  · rw [settle_of_noEnd hnu]
    exact (watches_sns _).trans (hg.sns (by decide))
  · exact (getF_settle _ hnu (hf.trans (by decide)).ne).trans (hg.fields f hf)

end Sys2Proof.Machine

open Sys2Proof Sys2Proof.Machine

/-- Settles O18: the sense front end's own part publishes the codes, and the other units' parts of the sample leave it. -/
theorem samplesArePublished : Obligations.SamplesArePublished := by
  unfold Obligations.SamplesArePublished
  intro dt imon pts s a hw ha
  have hn : noEnd a := ha ▸ noEnd_advance dt s
  have hcodes : (∀ n < 98, nth imon n < 1024) ∧ ∀ p < 5, nth pts p < 4096 := by
    simp only [Instr.wf, Bool.and_eq_true, decide_eq_true_eq, List.all_eq_true] at hw
    obtain ⟨⟨⟨hi, hp⟩, himon⟩, hpts⟩ := hw
    refine ⟨fun n hlt => ?_, fun p hlt => ?_⟩
    · rw [nth, List.getD_eq_getElem _ _ (hi ▸ hlt)]
      exact himon _ (List.getElem_mem _)
    · rw [nth, List.getD_eq_getElem _ _ (hp ▸ hlt)]
      exact hpts _ (List.getElem_mem _)
  obtain ⟨himon, hpts⟩ := hcodes
  refine ⟨fun hgrid => ?_, fun hgrid => ?_⟩
  · refine answers_eq ha (exec_senseSample ..) hw (if_pos hgrid) ?_
    have h := senseSample_taken imon pts hn
    refine ⟨fun n hlt => ?_, h.codes, ?_, ?_, h.n1, h.outN⟩
    · obtain ⟨hcode, hcur, hovr⟩ := h.inputs n hlt
      exact ⟨hcode.trans (Nat.mod_eq_of_lt (himon n hlt)), hcur, hovr⟩
    · exact h.va.trans (Nat.mod_eq_of_lt (hpts 0 (by decide)))
    · exact h.vb.trans (Nat.mod_eq_of_lt (hpts 1 (by decide)))
  · exact answers_untouched ha (exec_senseSample ..) hw (if_neg hgrid)
end

section
/-! SUPPORT. Frames through what follows every event, and folds over the rails. -/

namespace Sys2Proof.Machine

theorem Agree.noEnd {L : List Part} {lo : Nat} {z u : State} (hg : Agree L lo z u) (hn : Machine.noEnd z) (he : .ends ∉ L) :
    Machine.noEnd u := by
  obtain ⟨hd, hl⟩ := hg.ends he
  exact ⟨hd.trans hn.1, hl.trans hn.2⟩

theorem Agree.trans {L : List Part} {lo : Nat} {z t u : State} (h : Agree L lo t u) (hz : Agree L lo z t) : Agree L lo z u where
  time hn := (h.time hn).trans (hz.time hn)
  bus hn := (h.bus hn).trans (hz.bus hn)
  inbox hn := (h.inbox hn).trans (hz.inbox hn)
  waiting hn x hx := h.waiting hn x (hz.waiting hn x hx)
  waits hn := by
    obtain ⟨h1, h2, h3, h4, h5⟩ := h.waits hn
    obtain ⟨g1, g2, g3, g4, g5⟩ := hz.waits hn
    exact ⟨h1.trans g1, h2.trans g2, h3.trans g3, h4.trans g4, h5.trans g5⟩
  sns hn := (h.sns hn).trans (hz.sns hn)
  est hn := (h.est hn).trans (hz.est hn)
  psq hn := (h.psq hn).trans (hz.psq hn)
  drg hn := (h.drg hn).trans (hz.drg hn)
  phc hn := (h.phc hn).trans (hz.phc hn)
  lgv hn := (h.lgv hn).trans (hz.lgv hn)
  tmg hn := (h.tmg hn).trans (hz.tmg hn)
  sta hn := (h.sta hn).trans (hz.sta hn)
  ends hn := ⟨(h.ends hn).1.trans (hz.ends hn).1, (h.ends hn).2.trans (hz.ends hn).2⟩
  pxe hn := (h.pxe hn).trans (hz.pxe hn)
  bal hn := (h.bal hn).trans (hz.bal hn)
  fw hn := (h.fw hn).trans (hz.fw hn)
  cmd hn := (h.cmd hn).trans (hz.cmd hn)
  evr hn := (h.evr hn).trans (hz.evr hn)
  flc hn := (h.flc hn).trans (hz.flc hn)
  sec hn := (h.sec hn).trans (hz.sec hn)
  upd hn := (h.upd hn).trans (hz.upd hn)
  fields f hf := (h.fields f hf).trans (hz.fields f hf)

/-- What follows every event changes none of the parts, where no rest state has ended. -/
theorem Agree.settle {L : List Part} {lo : Nat} {z u : State} (hg : Agree L lo z u) (hn : Machine.noEnd u)
    (hlo : lo ≤ TST.CTRL.OVERRIDE.key) : Agree L lo z (Machine.settle u) := by
  unfold Machine.settle
  rw [hn.1, hn.2]
  exact pmbWatch_agree (overrideFall_agree (hlo.trans (by decide)) hg)

theorem Agree.getB {L : List Part} {lo : Nat} {z u : State} (hg : Agree L lo z u) {f : Fld} (hf : f.key < lo) :
    Machine.getB u f = Machine.getB z f := by unfold Machine.getB; rw [hg.fields f hf]
theorem Agree.getS {L : List Part} {lo : Nat} {z u : State} (hg : Agree L lo z u) {f : Fld} (hf : f.key < lo) :
    Machine.getS u f = Machine.getS z f := by unfold Machine.getS; rw [hg.fields f hf]

theorem getS_setSatS_ne (s : State) {f g : Fld} (i : Int) (h : g.key ≠ f.key) : getS (setSatS s f i) g = getS s g := by
  unfold getS; rw [getF_setSatS_ne s i h]

/-- A loop over the rails that keeps `I` and gives each rail's value `val`, and leaves the other rails' values. -/
theorem rails_fold {α : Type} {g : State → Nat → State} {get : State → Nat → α} {val : Nat → α} {I : State → Prop} {s : State}
    (hI : ∀ k < 4, ∀ t, I t → I (g t k) ∧ get (g t k) k = val k ∧ ∀ j < 4, j ≠ k → get (g t k) j = get t j) (h0 : I s) :
    I (rails4.foldl g s) ∧ ∀ k < 4, get (rails4.foldl g s) k = val k := by
  simp only [rails4, List.foldl_cons, List.foldl_nil]
  obtain ⟨i0, v0, -⟩ := hI 0 (by decide) _ h0
  obtain ⟨i1, v1, n1⟩ := hI 1 (by decide) _ i0
  obtain ⟨i2, v2, n2⟩ := hI 2 (by decide) _ i1
  obtain ⟨i3, v3, n3⟩ := hI 3 (by decide) _ i2
  refine ⟨i3, fun k hk => ?_⟩
  match k, hk with
  | 0, _ => exact (n3 0 (by decide) (by decide)).trans ((n2 0 (by decide) (by decide)).trans ((n1 0 (by decide) (by decide)).trans v0))
  | 1, _ => exact (n3 1 (by decide) (by decide)).trans ((n2 1 (by decide) (by decide)).trans v1)
  | 2, _ => exact (n3 2 (by decide) (by decide)).trans v2
  | 3, _ => exact v3

end Sys2Proof.Machine
end

section
/-! O19. The windows and the round: what each publishes, and what it starts afresh. -/

namespace Sys2Proof.Machine

/-! ### The windows of 1 µs and of 10 µs -/

/-- The parts that the windows' closing leaves to the sense front end. -/
def closeParts : List Part := [.msgs, .waits, .est, .psq, .drg, .phc, .lgv, .sta, .pxe]

theorem railClose1_shown {k : Nat} (hk : k < 4) (t : State) :
    Agree closeParts (0x10200 * 32) t (railClose1 k t) ∧
      getS (railClose1 k t) (SNS.RAIL_I_1US.CURRENT k) = clampI (-524288) 524287 (fdiv (aGet 0 t.sns.acc1 k) (max 1 t.sns.n1)) ∧
      ∀ j < 4, j ≠ k → getS (railClose1 k t) (SNS.RAIL_I_1US.CURRENT j) = getS t (SNS.RAIL_I_1US.CURRENT j) := by
  have hkey : ∀ j, (SNS.RAIL_I_1US.CURRENT j).key = 0x10200 * 32 + 128 * j := fun j => by simp only [SNS.RAIL_I_1US.CURRENT, fld]; omega
  unfold railClose1
  dsimp only
  generalize fdiv (aGet 0 t.sns.acc1 k) (max 1 t.sns.n1) = v
  have h0 : Agree closeParts (0x10200 * 32) t (setSatS t (SNS.RAIL_I_1US.CURRENT k) v) :=
    setSatS_agree _ _ (by rw [hkey]; omega) (.refl ..)
  have hg : ∀ lo ≤ 0x20000 * 32, ∀ z, Agree closeParts lo z (setSatS t (SNS.RAIL_I_1US.CURRENT k) v) →
      Agree closeParts lo z (noteImax k v (reactiveAdd k v (setSatS t (SNS.RAIL_I_1US.CURRENT k) v))) := fun lo hlo z h =>
    noteImax_agree _ _ (.of rfl (.self _)) (reactiveAdd_agree _ _ (.of rfl (.self _)) (hlo.trans (by decide)) h)
  have hlow := hg _ (Nat.le_refl _) _ (.refl ..)
  refine ⟨hg _ (by decide) _ h0, ?_, fun j hj hne => ?_⟩
  · rw [hlow.getS (by rw [hkey]; omega)]
    exact getS_setSatS_self t _ _ (by show 0 < 20; omega)
  · rw [hlow.getS (by rw [hkey]; omega)]
    exact getS_setSatS_ne t v (by simp only [hkey]; omega)

/-- A window of 1 µs closes. -/
theorem windowClose1_shown {a : State} (hn : noEnd a) :
    (settle (windowClose1 a)).sns.n1 = 0 ∧ (settle (windowClose1 a)).sns.acc1 = [] ∧ ∀ k < 4,
      getS (settle (windowClose1 a)) (SNS.RAIL_I_1US.CURRENT k) = clampI (-524288) 524287 (fdiv (aGet 0 a.sns.acc1 k) (max 1 a.sns.n1)) := by
  obtain ⟨hg, hv⟩ := rails_fold (g := fun t k => railClose1 k t) (get := fun t k => getS t (SNS.RAIL_I_1US.CURRENT k))
    (val := fun k => clampI (-524288) 524287 (fdiv (aGet 0 a.sns.acc1 k) (max 1 a.sns.n1)))
    (I := Agree closeParts (0x10200 * 32) a) (s := a) (fun k hk t ht => by
      obtain ⟨h1, h2, h3⟩ := railClose1_shown hk t
      have hs : t.sns = a.sns := ht.sns (by decide)
      exact ⟨h1.trans ht, by rw [← hs]; exact h2, h3⟩) (.refl ..)
  unfold windowClose1
  dsimp only
  generalize rails4.foldl (fun t k => railClose1 k t) a = u at hg hv
  generalize hw : setSns { u.sns with sums := (rails4.map (fun k => aGet 0 u.sns.acc1 k) :: u.sns.sums).take 10, acc1 := [], n1 := 0 } u = w
  have hwn : noEnd w := hw ▸ hg.noEnd hn (by decide)
  have h1 : Agree closeParts (0x20000 * 32) w (takeShot (lgvClose1 w)) :=
    takeShot_agree (.of rfl (.self _)) (lgvClose1_agree (.of rfl (.self _)) (by decide) (.refl ..))
  have h2 : Agree closeParts (0x20000 * 32) w (if trustSt (takeShot (lgvClose1 w)) = 3 then takeShot (lgvClose1 w) else
      chipPower (((takeShot (lgvClose1 w)).est.shot.getD (shotOf (takeShot (lgvClose1 w)))).volts) (railMeas (takeShot (lgvClose1 w)))
        (takeShot (lgvClose1 w))) :=
    ite_agree h1 (chipPower_agree _ _ (.of rfl (.self _)) (by decide) h1)
  have h3 := h2.settle (h2.noEnd hwn (by decide)) (by decide)
  have hsns : w.sns.n1 = 0 ∧ w.sns.acc1 = [] := hw ▸ ⟨rfl, rfl⟩
  refine ⟨(congrArg SnsState.n1 (h3.sns (by decide))).trans hsns.1, (congrArg SnsState.acc1 (h3.sns (by decide))).trans hsns.2, fun k hk => ?_⟩
  rw [h3.getS (by simp only [SNS.RAIL_I_1US.CURRENT, fld]; omega), ← hw]
  exact hv k hk

theorem windowClose10_shown {a : State} (hn : noEnd a) :
    (settle (windowClose10 a)).est.tenDue = true ∧ ∀ k < 4,
      getS (settle (windowClose10 a)) (SNS.RAIL_I_10US.CURRENT k) = clampI (-524288) 524287 (meas10 a k) := by
  have hkey : ∀ j, (SNS.RAIL_I_10US.CURRENT j).key = 0x10210 * 32 + 128 * j := fun j => by simp only [SNS.RAIL_I_10US.CURRENT, fld]; omega
  obtain ⟨hg, hv⟩ := rails_fold (g := fun t k => setSatS t (SNS.RAIL_I_10US.CURRENT k) (meas10 a k))
    (get := fun t k => getS t (SNS.RAIL_I_10US.CURRENT k)) (val := fun k => clampI (-524288) 524287 (meas10 a k))
    (I := Agree [] (0x10210 * 32) a) (s := a) (fun k hk t ht =>
      ⟨setSatS_agree _ _ (by rw [hkey]; omega) ht, getS_setSatS_self t (SNS.RAIL_I_10US.CURRENT k) _ (by show 0 < 20; omega),
        fun j hj hne => getS_setSatS_ne t _ (by simp only [hkey]; omega)⟩) (.refl ..)
  unfold windowClose10 estClose10
  dsimp only
  generalize rails4.foldl (fun t k => setSatS t (SNS.RAIL_I_10US.CURRENT k) (meas10 a k)) a = u at hg hv
  generalize hw : setEst { u.est with tenDue := true, scrubTen := a.est.scrub10 || scrubOn a, scrub10 := scrubOn a } u = w
  have hwn : noEnd w := hw ▸ hg.noEnd hn (by decide)
  have h1 : Agree [.lgv] (0x20000 * 32) w (lgvClose10 (setB w EST.TRUST_STATUS.SCRUB_SKIP (a.est.scrub10 || scrubOn a))) :=
    lgvClose10_agree (.of rfl (.self _)) (by decide) (setB_agree _ _ (by decide) (.refl ..))
  have h3 := h1.settle (h1.noEnd hwn (by decide)) (by decide)
  refine ⟨(congrArg EstState.tenDue (h3.est (by decide))).trans (hw ▸ rfl), fun k hk => ?_⟩
  rw [h3.getS (by rw [hkey]; omega), ← hw]
  exact hv k hk

/-! ### The bus sample -/

theorem busSample_shown {a : State} (hn : noEnd a) {v c : Nat} (hv : v < 4096) (hc : c < 4096) :
    getF (settle (busSample v c a)) SNS.BUS_V.VOLTAGE = v ∧ getF (settle (busSample v c a)) SNS.BUS_I.CURRENT = c ∧
      (settle (busSample v c a)).sns.busSum = a.sns.busSum + v * c ∧ (settle (busSample v c a)).sns.busN = a.sns.busN + 1 ∧
      (settle (busSample v c a)).sns.busRun = (if v < 2300 ∨ 2900 < v then a.sns.busRun + 1 else 0) := by
  unfold busSample
  dsimp only
  generalize hw : setF (setF (setSns _ a) SNS.BUS_V.VOLTAGE v) SNS.BUS_I.CURRENT c = w
  have hwn : noEnd w := hw ▸ hn
  have h1 : Agree [.phc] (0x20000 * 32) w (busGood w) := busGood_agree (.of rfl (.self _)) (.refl ..)
  have h3 := h1.settle (h1.noEnd hwn (by decide)) (by decide)
  rw [h3.fields _ (by decide), h3.fields _ (by decide), h3.sns (by decide), ← hw]
  refine ⟨?_, ?_, rfl, rfl, ?_⟩
  · rw [getF_setF_ne _ _ (by decide), getF_setF_self]
    exact Nat.mod_eq_of_lt hv
  · rw [getF_setF_self]
    exact Nat.mod_eq_of_lt hc
  · simp [setF, setSns]

/-! ### The 1 ms round -/

/-- What a round of the cross-check publishes, and what it starts afresh (R55). -/
structure RoundShown (a t : State) : Prop where
  bus : getF t SNS.BUS_P_1MS.POWER = min (roundIn a / 100000) 65535
  rail : getF t SNS.RAIL_P_1MS.POWER = min (fdiv (roundOut a) 100000).toNat 65535
  active : getB t SNS.XCHK_STATUS.CHECK_ACTIVE = decide (80000000 < roundIn a)
  band : 80000000 < roundIn a → getB t SNS.XCHK_STATUS.IN_BAND = inBand a ∧
    getF t SNS.XCHK_STATUS.OUT_COUNT = (if inBand a = true then 0 else min (getF a SNS.XCHK_STATUS.OUT_COUNT + 1) 255)
  busN : t.sns.busN = 0
  outN : t.sns.outN = 0

theorem xchkRound_shown (a : State) : RoundShown a (xchkRound a) := by
  unfold xchkRound
  dsimp only
  generalize hu : setB (setSat (setSat a SNS.BUS_P_1MS.POWER (roundIn a / 100000)) SNS.RAIL_P_1MS.POWER (fdiv (roundOut a) 100000).toNat)
    SNS.XCHK_STATUS.CHECK_ACTIVE (decide (80000000 < roundIn a)) = u
  have hbus : getF u SNS.BUS_P_1MS.POWER = min (roundIn a / 100000) 65535 := by
    rw [← hu, getF_setB_ne _ _ (by decide), getF_setSat_ne _ _ (by decide)]
    exact getF_setSat_self ..
  have hrail : getF u SNS.RAIL_P_1MS.POWER = min (fdiv (roundOut a) 100000).toNat 65535 := by
    rw [← hu, getF_setB_ne _ _ (by decide)]
    exact getF_setSat_self ..
  have hact : getB u SNS.XCHK_STATUS.CHECK_ACTIVE = decide (80000000 < roundIn a) := hu ▸ getB_setB_self _ _ _ rfl
  have hcount : getF u SNS.XCHK_STATUS.OUT_COUNT = getF a SNS.XCHK_STATUS.OUT_COUNT := by
    rw [← hu, getF_setB_ne _ _ (by decide), getF_setSat_ne _ _ (by decide), getF_setSat_ne _ _ (by decide)]
  rw [hcount]
  by_cases h : 80000000 < roundIn a
  · simp only [h, decide_true, Bool.not_true, Bool.false_eq_true, if_false]
    have hne : ∀ f : Fld, f.key ≠ SNS.XCHK_STATUS.IN_BAND.key → f.key ≠ SNS.XCHK_STATUS.OUT_COUNT.key → ∀ b v,
        getF (setSat (setB u SNS.XCHK_STATUS.IN_BAND b) SNS.XCHK_STATUS.OUT_COUNT v) f = getF u f := fun f h1 h2 b v =>
      (getF_setSat_ne _ _ h2).trans (getF_setB_ne _ _ h1)
    refine ⟨(hne _ (by decide) (by decide) _ _).trans hbus, (hne _ (by decide) (by decide) _ _).trans hrail, ?_, fun _ => ⟨?_, ?_⟩, rfl, rfl⟩
    · rw [← hact]
      exact congrArg (fun x => decide (x ≠ 0)) (hne _ (by decide) (by decide) _ _)
    · exact (getB_setF_ne _ _ (by decide)).trans (getB_setB_self _ _ _ rfl)
    · refine (getF_setSat_self ..).trans ?_
      split <;> simp [SNS.XCHK_STATUS.OUT_COUNT, fld]
  · simp only [h, decide_false, Bool.not_false, if_true]
    exact ⟨hbus, hrail, hact, fun hc => absurd hc h, rfl, rfl⟩

/-- The round's powers and its band follow the sense front end and the settings of the cross-check. -/
theorem round_of_agree {a t : State} (hs : t.sns = a.sns) (hf : ∀ f : Fld, f.key < 0x20000 * 32 → getF t f = getF a f) :
    roundIn t = roundIn a ∧ roundOut t = roundOut a ∧ inBand t = inBand a := by
  have hi : roundIn t = roundIn a := by unfold roundIn; rw [hs]
  have ho : roundOut t = roundOut a := by unfold roundOut; rw [hs, hf _ (by decide)]
  refine ⟨hi, ho, ?_⟩
  unfold inBand
  rw [hi, ho, hf _ (by decide), hf _ (by decide), hf _ (by decide)]

theorem xchkClose_shown {a : State} (hn : noEnd a) : RoundShown a (settle (xchkClose a)) := by
  have h0 : Agree [.phc] (0x20000 * 32) a (rails4.foldl (fun t k => imbalanceRound k t) a) :=
    foldl_agree (fun t k ht => imbalanceRound_agree k (.of rfl (.self _)) ht) (.refl ..)
  unfold xchkClose
  generalize rails4.foldl (fun t k => imbalanceRound k t) a = u at h0 ⊢
  obtain ⟨hi, ho, hb⟩ := round_of_agree (h0.sns (by decide)) h0.fields
  obtain ⟨s1, s2, s3, s4, s5, s6⟩ := xchkRound_shown u
  rw [hi] at s1 s3 s4
  rw [ho] at s2
  rw [hb, h0.fields _ (by decide)] at s4
  have h1 : Agree [.est, .msgs, .lgv] (0x20000 * 32) (xchkRound u) (lgvClose1ms (estRound (xchkRound u))) :=
    lgvClose1ms_agree (.of rfl (.self _)) (by decide) (estRound_agree (.of rfl (.self _)) (.refl ..))
  have hx : noEnd (xchkRound u) := by
    have hu := h0.noEnd hn (by decide)
    have hsta : (xchkRound u).sta = u.sta := by unfold xchkRound; dsimp only; split <;> rfl
    exact noEnd_congr hu hsta
  have h3 := h1.settle (h1.noEnd hx (by decide)) (by decide)
  exact ⟨(h3.fields _ (by decide)).trans s1, (h3.fields _ (by decide)).trans s2, (h3.getB (by decide)).trans s3, fun h => ⟨(h3.getB (by decide)).trans (s4 h).1,
    (h3.fields _ (by decide)).trans (s4 h).2⟩, (congrArg SnsState.busN (h3.sns (by decide))).trans s5,
    (congrArg SnsState.outN (h3.sns (by decide))).trans s6⟩

end Sys2Proof.Machine

open Sys2Proof Sys2Proof.Machine

/-- Settles O19: each window by what it publishes and starts afresh; off its grid a close is no event. -/
theorem windowsCloseOnTheirGrid : Obligations.WindowsCloseOnTheirGrid := by
  unfold Obligations.WindowsCloseOnTheirGrid
  intro dt s a ha
  have hn : noEnd a := ha ▸ noEnd_advance dt s
  have off : ∀ m, a.time.ticks % 100 ≠ 0 → ¬ a.time.ticks % (100 * m) = 0 := fun m h hm => h (by
    rw [← Nat.mod_mul_right_mod _ 100 m, hm])
  refine ⟨fun h => answers_eq ha (exec_windowClose1us ..) rfl (if_pos h) (windowClose1_shown hn),
    fun h => answers_eq ha (exec_windowClose10us ..) rfl (if_pos h) (windowClose10_shown hn),
    fun v c hv hc h => answers_eq ha (exec_busSample ..) (by simp [Instr.wf, hv, hc]) (if_pos h) (busSample_shown hn hv hc),
    fun h => answers_eq ha (exec_xchkRound ..) rfl (if_pos h) ?_, fun h => ⟨?_, ?_, ?_, fun v hv c hc => ?_⟩⟩
  · obtain ⟨h1, h2, h3, h4, h5, h6⟩ := xchkClose_shown hn
    exact ⟨h1, h2, h3, h4, h5, h6⟩
  · exact answers_untouched ha (exec_windowClose1us ..) rfl (if_neg h)
  · exact answers_untouched ha (exec_windowClose10us ..) rfl (if_neg (off 10 h))
  · exact answers_untouched ha (exec_xchkRound ..) rfl (if_neg (off 1000 h))
  · exact answers_untouched ha (exec_busSample ..) (by simp [Instr.wf, hv, hc]) (if_neg h)
end

section
/-! SUPPORT. What the end of a rest state leaves of the sense front end, and what waits through it. -/

namespace Sys2Proof.Machine

theorem mem_insN (n : Nat) (l : List Nat) : n ∈ insN n l := by
  induction l with
  | nil => simp [insN]
  | cons x r ih =>
    unfold insN
    split
    · simp
    · split
      · next h => simp [h]
      · exact List.mem_cons_of_mem _ ih

theorem testBit_setBit_self (v i : Nat) : (setBit v i).testBit i = true := by
  unfold setBit
  split
  · assumption
  · next h => rw [Nat.add_comm, Nat.testBit_two_pow_add_eq]; simpa using h

theorem bit_setF_setBit (s : State) (f : Fld) {p : Nat} (hp : p < f.w) : bit (getF (setF s f (setBit (getF s f) p)) f) p = true := by
  unfold bit
  rw [getF_setF_self, Nat.testBit_mod_two_pow]
  simp [hp, testBit_setBit_self]

/-- All the parts: for a frame that asks for registers alone. -/
def allParts : List Part := [.time, .bus, .msgs, .drops, .waits, .sns, .est, .psq, .drg, .phc, .lgv, .tmg, .sta, .ends, .pxe, .bal, .fw, .cmd,
  .evr, .flc, .sec, .upd]

/-- The exit of a deep rest state clears one register of the sense front end, the count of the cross-check (Table 13-8). -/
theorem getF_deepExit_low (s : State) {f : Fld} (hf : f.key < 0x20000 * 32) (h : f.key ≠ SNS.XCHK_STATUS.OUT_COUNT.key) :
    getF (deepExit s) f = getF s f := by
  have h0 : getF (setF (trustZero s) SNS.XCHK_STATUS.OUT_COUNT 0) f = getF s f :=
    (getF_setF_ne _ _ h).trans ((trustZero_agree (L := allParts) (lo := 0x20000 * 32) (.of rfl (.self _)) (by decide) (.refl ..)).fields f hf)
  rw [← h0]
  unfold deepExit
  dsimp only
  refine Agree.fields (L := allParts) (lo := 0x20000 * 32) ?_ f hf
  refine reactPhases_agree (.of rfl (.self _)) (floorNext_agree (.of rfl (.self _)) (by decide) (balClear_agree (.of rfl (.self _))
    (abandonRounds_agree (.of rfl (.self _)) (by decide) (lgvZero_agree (.of rfl (.self _)) (by decide) (dropH_agree _ (fun k => inR_below (by decide))
      (setSns_agree _ (.of rfl (.self _)) (foldl_agree (fun t n ht => setF_agree _ _ ?_ ht) ?_)))))))
  · simp only [PHC.OC_COUNT.COUNT, fld]; omega
  · exact setF_agree _ _ (by decide) (setF_agree _ _ (by decide) (.refl ..))

theorem getF_settle_low (s : State) {f : Fld} (hf : f.key < 0x20000 * 32) (h : f.key ≠ SNS.XCHK_STATUS.OUT_COUNT.key) :
    getF (settle s) f = getF s f := by
  have hends : getF (restEnded s) f = getF s f := by
    have h1 : Agree allParts (0x20000 * 32) s (clearEnds s) := clearEnds_agree (.of rfl (.self _)) (.refl ..)
    have h2 : Agree allParts (0x20000 * 32) s (if s.sta.endLate && !getB s TMG.TRIP.TRIPPED then releaseBeats (clearEnds s) else clearEnds s) :=
      ite_agree (releaseBeats_agree (.of rfl (.self _)) (by decide) h1) h1
    unfold restEnded
    dsimp only
    generalize (if s.sta.endLate && !getB s TMG.TRIP.TRIPPED then releaseBeats (clearEnds s) else clearEnds s) = u at h2
    split
    · refine (getF_deepExit_low _ hf h).trans ?_
      exact (ite_agree h2 (latenessZero_agree (.of rfl (.self _)) (by decide) h2)).fields f hf
    · exact h2.fields f hf
  unfold settle
  rw [(pmbWatch_agree (L := allParts) (lo := 0x20000 * 32) (overrideFall_agree (by decide) (.refl ..))).fields f hf]
  split
  · exact hends
  · rfl

/-- What waits at the collector goes on waiting through what follows every event. -/
theorem inbox_settle (s : State) : ∀ x ∈ s.inbox, x ∈ (settle s).inbox :=
  (settle_agree (L := [.msgs, .waits, .sns, .est, .psq, .drg, .phc, .lgv, .sta, .ends, .bal]) (lo := 0) (.self _) (Nat.zero_le _)
    (.refl ..)).waiting (by decide)

end Sys2Proof.Machine
end

section
/-! O20. The faults of the sense front end. -/

namespace Sys2Proof.Machine

theorem roomMsg_congr {s t : State} (h : t.inbox = s.inbox) (hr : roomMsg s) : roomMsg t := by
  unfold roomMsg waitingMsgs at *; rwa [h]

/-- The fault of a lost sense point waits, and the point is excluded, whatever its rail does then (R52). -/
theorem senseOpen_sent {a : State} (hr : roomMsg a) {p : Nat} (hp : p < 5) (hrun : 40 ≤ aGet 0 a.sns.openRun p) (ho : pointOpen a p = false) :
    messageWaits 0x11 (0x170 + p) (pointCode a p) (settle (senseOpen p a)) ∧ pointOpen (settle (senseOpen p a)) p = true := by
  have hif : ¬(aGet 0 a.sns.openRun p < 40 ∨ pointOpen a p = true) := by simp [ho]; omega
  unfold senseOpen
  rw [if_neg hif]
  dsimp only
  generalize hu : sendFault 0x11 (0x170 + p) (pointCode a p) (setF a SNS.SENSE_STATUS.OPEN (setBit (getF a SNS.SENSE_STATUS.OPEN) p)) = u
  have hm : messageWaits 0x11 (0x170 + p) (pointCode a p) u := hu ▸ messageWaits_sendFault (roomMsg_congr rfl hr)
  have hb : pointOpen u p = true := by
    unfold pointOpen
    rw [← hu, getF_sendFault _ _ _ _ (by decide)]
    exact bit_setF_setBit a SNS.SENSE_STATUS.OPEN hp
  have keep : ∀ t, Agree [.msgs, .sta, .ends, .drg, .phc] (0x20000 * 32) u t →
      messageWaits 0x11 (0x170 + p) (pointCode a p) (settle t) ∧ pointOpen (settle t) p = true := fun t ht => by
    refine ⟨messageWaits_of_sub hm fun x hx => inbox_settle _ x (ht.waiting (by decide) x hx), ?_⟩
    unfold pointOpen
    rw [getF_settle_low _ (by decide) (by decide), ht.fields _ (by decide)]
    exact hb
  have h3 : Agree [.msgs, .sta, .ends, .drg, .phc] (0x20000 * 32) u (regate (restEnds (sendFault 0x12 (0x170 + p) (p - 1) u))) :=
    regate_agree (.of rfl (.self _)) (restEnds_agree (.of rfl (.self _)) (by decide) (sendFault_agree _ _ _ (.of rfl (.self _)) (by decide) (.refl ..)))
  exact keep _ (ite_agree (.refl ..) (ite_agree h3 (beginStop_agree _ (.of rfl (.self _)) (by decide) h3)))

/-- MEAS_SUSPECT follows, and the rows of the trust state that follow it leave it (R56, R84). -/
theorem suspect_kept (row : Nat) {u : State} (hn : noEnd u) :
    measSuspect (settle (bandFollow (suspectRow row u))) = measSuspect u ∧
      ∀ x ∈ u.inbox, x ∈ (settle (bandFollow (suspectRow row u))).inbox := by
  have h : Agree [.msgs, .waits, .est, .psq, .drg] (0x20000 * 32) u (bandFollow (suspectRow row u)) :=
    bandFollow_agree (.of rfl (.self _)) (by decide) (suspectRow_agree row (.of rfl (.self _)) (by decide) (.refl ..))
  have h2 := h.settle (h.noEnd hn (by decide)) (by decide)
  exact ⟨h2.getB (by decide), h2.waiting (by decide)⟩

end Sys2Proof.Machine

open Sys2Proof Sys2Proof.Machine

/-- Settles O20: each fault by its own condition; what else an onset brings keeps the message and the mark. -/
theorem senseFaultsGoOutOnce : Obligations.SenseFaultsGoOutOnce := by
  unfold Obligations.SenseFaultsGoOutOnce
  intro dt s a ha hr
  have hn : noEnd a := ha ▸ noEnd_advance dt s
  refine ⟨fun n hlt hrun hs => ?_, fun n hlt hs => ?_, fun p hlt hrun ho => ?_, fun p hlt ho => ?_, fun hrun hs => ?_, fun hs => ?_,
    fun hrun hs => ?_, fun hs => ?_, fun hc hm => ?_, fun hc hm => ?_⟩
  · refine answers_eq ha (exec_imonRange ..) (by simp [Instr.wf, hlt]) (if_pos ⟨hrun, by simp only [hs, Bool.not_false]⟩) ?_
    have h1 : Agree [.waits] 0 (setSns { a.sns with imonSent := insN n a.sns.imonSent } a)
        (askRetire n 2 (setSns { a.sns with imonSent := insN n a.sns.imonSent } a)) := askRetire_agree n 2 (.self _) (.refl ..)
    have h2 := sendFault_agree (L := [.waits, .msgs]) (lo := 0) 0x10 (0x100 + n) (getF a (SNS.IMON.CODE n)) (.of rfl (.self _)) (Nat.zero_le _)
      (askRetire_agree n 2 (.of rfl (.self _)) (.refl _ _ (setSns { a.sns with imonSent := insN n a.sns.imonSent } a)))
    have hu := h2.noEnd (show noEnd (setSns _ a) from hn) (by decide)
    refine ⟨(messageWaits_settle hu).2 (messageWaits_sendFault (roomMsg_congr (h1.inbox (by decide)) hr)), ?_⟩
    rw [(h2.settle hu (Nat.zero_le _)).sns (by decide)]
    exact mem_insN ..
  · exact answers_untouched ha (exec_imonRange ..) (by simp [Instr.wf, hlt]) (if_neg (by simp only [hs, Bool.not_true, Bool.false_eq_true, and_false, not_false_eq_true]))
  · exact answers_of ha (exec_senseOpen ..) (by simp [Instr.wf, hlt]) (senseOpen_sent hr hlt hrun ho)
  · exact answers_untouched ha (exec_senseOpen ..) (by simp [Instr.wf, hlt]) (if_pos (Or.inr ho))
  · refine answers_eq ha (exec_vcoreSenseSplit ..) rfl (if_neg (by simp [hs]; omega)) ?_
    set u := setB (setSns { a.sns with splitSent := true } a) SNS.SENSE_STATUS.SPLIT true with hu
    have hru : roomMsg u := roomMsg_congr rfl hr
    have hf : fieldsBut [SNS.SENSE_STATUS.SPLIT] a u := fieldsBut_setF (List.mem_singleton_self _) (fun f _ _ => rfl)
    have hx : noEnd (sendFault 0x13 0x170 (ux 32 ((pointCode a 0 : Int) - pointCode a 1)) u) := noEnd_congr hn (sendFault_sta ..)
    refine ⟨(messageWaits_settle hx).2 (messageWaits_sendFault hru), ?_, ?_, fieldsBut_settle hx (fieldsBut_sendFault (Or.inl hru) hf)⟩
    · rw [getB_settle _ hx (by decide), getB_sendFault _ _ _ _ (by decide)]
      exact getB_setB_self _ _ _ rfl
    · rw [settle_of_noEnd hx, watches_sns, sendFault_sns]
      rfl
  · exact answers_untouched ha (exec_vcoreSenseSplit ..) rfl (if_pos (Or.inr hs))
  · refine answers_eq ha (exec_busVRange ..) rfl (if_neg (by simp [hs]; omega)) ?_
    have hru : roomMsg (setSns { a.sns with busSent := true } a) := roomMsg_congr rfl hr
    have hx : noEnd (sendFault 0x14 0x180 (getF a SNS.BUS_V.VOLTAGE) (setSns { a.sns with busSent := true } a)) :=
      noEnd_congr hn (sendFault_sta ..)
    refine ⟨(messageWaits_settle hx).2 (messageWaits_sendFault hru), ?_, fieldsBut_settle hx (fieldsBut_sendFault (Or.inl hru) fun f _ _ => rfl)⟩
    rw [settle_of_noEnd hx, watches_sns, sendFault_sns]
    rfl
  · exact answers_untouched ha (exec_busVRange ..) rfl (if_pos (Or.inr hs))
  · refine answers_of ha (exec_busXchkSuspect ..) rfl ?_
    unfold busXchkSuspect
    rw [if_neg (by simp [hm]; omega)]
    dsimp only
    have hru : roomMsg (setB a SNS.XCHK_STATUS.MEAS_SUSPECT true) := roomMsg_congr rfl hr
    obtain ⟨h1, h2⟩ := suspect_kept 2 (u := sendFault 0x15 0x181 (65536 * (getF a SNS.BUS_P_1MS.POWER / 8) + getF a SNS.RAIL_P_1MS.POWER / 8)
      (setB a SNS.XCHK_STATUS.MEAS_SUSPECT true)) (noEnd_congr hn (sendFault_sta ..))
    refine ⟨h1.trans ?_, messageWaits_of_sub (messageWaits_sendFault hru) h2⟩
    exact (getB_sendFault _ _ _ _ (by decide)).trans (getB_setB_self _ _ _ rfl)
  · refine answers_of ha (exec_measSuspectClear ..) rfl ?_
    unfold measSuspectClear
    rw [if_neg (by simp [hm]; omega)]
    exact (suspect_kept 3 (show noEnd (setB a SNS.XCHK_STATUS.MEAS_SUSPECT false) from hn)).1.trans (getB_setB_self _ _ _ rfl)
end

section
/-! SUPPORT. A bus write with an effect of its own. -/

namespace Sys2Proof.Machine

/-- A register that no rule keeps for one agent (R233, R347). -/
theorem notIts_false {agent o : Nat} (h : hostOnly o = false) (h1 : (o == 0x70060) = false) (h2 : inR o 0x90030 0x9003C = false)
    (h3 : inR o 0xC0020 0xC002C = false) : notIts agent o = false := by
  simp [notIts, coreOnly, h, h1, h2, h3]

/-- A plain 32-bit register at an offset: mapped, of one word, and no rule keeps it for one agent. -/
structure OwnReg (o : Nat) : Prop where
  aligned : o / 4 * 4 = o
  mapped : mapped o = true
  low : isLow o = false
  high : isHigh o = false
  its : ∀ agent, notIts agent o = false

theorem busWrite_own {agent o v : Nat} {s t : State} (hr : OwnReg o) (hw : mayWrite s agent o = true) (hv : v < 2 ^ 32)
    (ho : ownWrite agent o v s = some t) : busWrite agent o v 15 s = t := by
  simp only [busWrite, hr.aligned, hw, hr.mapped, hr.low, hr.high, landWord, hr.its, Nat.mod_eq_of_lt hv, ho]
  rfl

end Sys2Proof.Machine
end

section
/-! O21. Detectors, the levels of their regions, and the holds of beats. -/

namespace Sys2Proof.Machine

/-! ### Detectors -/

/-- The deepest of four levels that holds. -/
theorem deepest_spec (p : Nat → Bool) {i : Nat} (h1 : 1 ≤ i) (h4 : i ≤ 4) :
    (p i = true → i ≤ (([4, 3, 2, 1] : List Nat).find? p).getD 0) ∧
      ((∀ j, i ≤ j → j ≤ 4 → p j = false) → (([4, 3, 2, 1] : List Nat).find? p).getD 0 < i) := by
  have hi : i = 1 ∨ i = 2 ∨ i = 3 ∨ i = 4 := by omega
  simp only [List.find?_cons, List.find?_nil]
  refine ⟨fun h => ?_, fun h => ?_⟩
  · cases h4 : p 4 <;> cases h3 : p 3 <;> cases h2 : p 2 <;> cases h1 : p 1 <;> rcases hi with rfl | rfl | rfl | rfl <;> simp_all
  · have hn : ∀ j, j ≤ 4 → p j = true → j < i := fun j hj hp => by
      by_contra hc
      rw [h j (by omega) hj] at hp
      exact Bool.false_ne_true hp
    repeat' split
    · exact hn 4 (by omega) (by assumption)
    · exact hn 3 (by omega) (by assumption)
    · exact hn 2 (by omega) (by assumption)
    · exact hn 1 (by omega) (by assumption)
    · exact h1

theorem detLevel_spec (s : State) (old v i : Nat) (h1 : 1 ≤ i) (h4 : i ≤ 4) :
    (v + droopThresh s i < droopRef s → i ≤ detLevel s old v) ∧
      (i ≤ old → v + droopThresh s i < droopRef s + 5000000 → i ≤ detLevel s old v) ∧
      ((∀ j, i ≤ j → j ≤ 4 → droopRef s + 5000000 ≤ v + droopThresh s j) → detLevel s old v < i) := by
  obtain ⟨hin, hout⟩ := deepest_spec (fun i => decide (v + droopThresh s i < droopRef s + (if i ≤ old then 5000000 else 0))) h1 h4
  refine ⟨fun h => hin (decide_eq_true (by omega)), fun ho h => hin (decide_eq_true (by rw [if_pos ho]; exact h)), fun h => hout fun j hj hj4 => ?_⟩
  have := h j hj hj4
  exact decide_eq_false (by split <;> omega)

/-! ### A region's level -/

/-- What a change of a region's level shows (R166 to R168). -/
structure LevelShown (r new : Nat) (s t : State) : Prop where
  level : getF t (SNS.REGION_DROOP.LEVEL r) = new
  rise : getF s (SNS.REGION_DROOP.LEVEL r) < new →
    getF t (SNS.REGION_DROOP.EVENTS r) = min (getF s (SNS.REGION_DROOP.EVENTS r) + 1) 65535 ∧
      (new = 4 → (regionOf t r).hold = true ∧ (regionOf t r).holdAt = s.time.ticks)
  fall : new < getF s (SNS.REGION_DROOP.LEVEL r) → (regionOf t r).hold = false ∧ (regionOf t r).gNew = stretchOf new
  sns : t.sns = s.sns
  sta : t.sta = s.sta

theorem regionOf_setRegion (s : State) (r : Nat) (x : Region) : regionOf (setRegion s r x) r = x := aGet_aPut_self ..

theorem regionLevel_shown (r : Nat) {new : Nat} (hnew : new ≤ 4) (s : State) : LevelShown r new s (regionLevel r new s) := by
  have hk : (SNS.REGION_DROOP.LEVEL r).key ≠ (SNS.REGION_DROOP.EVENTS r).key ∧ (SNS.REGION_DROOP.LEVEL r).key ≠ (SNS.REGION_DROOP.WORST r).key ∧
      (SNS.REGION_DROOP.EVENTS r).key ≠ (SNS.REGION_DROOP.WORST r).key := by
    simp only [SNS.REGION_DROOP.LEVEL, SNS.REGION_DROOP.EVENTS, SNS.REGION_DROOP.WORST, fld]; omega
  obtain ⟨hle, hlw, hew⟩ := hk
  have hmod : new % 2 ^ (SNS.REGION_DROOP.LEVEL r).w = new := Nat.mod_eq_of_lt (by show new < 8; omega)
  unfold regionLevel
  dsimp only
  generalize hold : getF s (SNS.REGION_DROOP.LEVEL r) = old
  split
  · next h => exact ⟨hold.trans h.symm, fun h2 => by omega, fun h2 => by omega, rfl, rfl⟩
  · split
    · next h1 h2 =>
      generalize hu : setF (incF (setF s (SNS.REGION_DROOP.LEVEL r) new) (SNS.REGION_DROOP.EVENTS r)) (SNS.REGION_DROOP.WORST r)
        (max (getF s (SNS.REGION_DROOP.WORST r)) new) = u
      have hl : getF u (SNS.REGION_DROOP.LEVEL r) = new := by
        rw [← hu, getF_setF_ne _ _ hlw, getF_incF_ne _ hle, getF_setF_self, hmod]
      have he : getF u (SNS.REGION_DROOP.EVENTS r) = min (getF s (SNS.REGION_DROOP.EVENTS r) + 1) 65535 := by
        rw [← hu, getF_setF_ne _ _ hew, getF_incF_self, getF_setF_ne _ _ hle.symm]
        rfl
      have hsns : u.sns = s.sns ∧ u.sta = s.sta := hu ▸ ⟨rfl, rfl⟩
      split
      · exact ⟨hl, fun _ => ⟨he, fun _ => by rw [regionOf_setRegion]; exact ⟨rfl, rfl⟩⟩, fun h => by omega, hsns.1, hsns.2⟩
      · next h4 => exact ⟨hl, fun _ => ⟨he, fun h => absurd h h4⟩, fun h => by omega, hsns.1, hsns.2⟩
    · next h1 h2 =>
      refine ⟨?_, fun h => by omega, fun _ => by rw [regionOf_setRegion]; exact ⟨rfl, rfl⟩, ?_, ?_⟩
      · exact (getF_setF_self ..).trans hmod
      · dsimp only [setRegion]; split <;> rfl
      · dsimp only [setRegion]; split <;> rfl

/-- The notes on stuck detectors leave the levels. -/
theorem droopLevelChange_det (r d v : Nat) (a : State) (hs : (droopLevelChange r d v a).sns = (noteStuck r
      { a with sns := { a.sns with det := aPut 0 a.sns.det (4 * r + d) (detLevel a (aGet 0 a.sns.det (4 * r + d)) v) } }).sns) :
    aGet 0 (droopLevelChange r d v a).sns.det (4 * r + d) = detLevel a (aGet 0 a.sns.det (4 * r + d)) v := by
  rw [hs]
  exact aGet_aPut_self ..

/-- A change of one region's level leaves the exclusions. -/
theorem getF_regionLevel_excl (r new : Nat) (s : State) (w : Nat) (hw : w < 8) :
    getF (regionLevel r new s) (SNS.DET_EXCL.EXCLUDED w) = getF s (SNS.DET_EXCL.EXCLUDED w) := by
  have hk : (SNS.DET_EXCL.EXCLUDED w).key ≠ (SNS.REGION_DROOP.LEVEL r).key ∧ (SNS.DET_EXCL.EXCLUDED w).key ≠ (SNS.REGION_DROOP.WORST r).key ∧
      (SNS.DET_EXCL.EXCLUDED w).key ≠ (SNS.REGION_DROOP.EVENTS r).key ∧
      (SNS.DET_EXCL.EXCLUDED w).key ≠ (DRG.REGION_STRETCH.LONGEST_HOLD r).key := by
    simp only [SNS.REGION_DROOP.LEVEL, SNS.REGION_DROOP.EVENTS, SNS.REGION_DROOP.WORST, SNS.DET_EXCL.EXCLUDED,
      DRG.REGION_STRETCH.LONGEST_HOLD, fld]
    omega
  obtain ⟨h1, h2, h3, h4⟩ := hk
  unfold regionLevel
  dsimp only
  split
  · rfl
  · split
    · have hu : getF (setF (incF (setF s (SNS.REGION_DROOP.LEVEL r) new) (SNS.REGION_DROOP.EVENTS r)) (SNS.REGION_DROOP.WORST r)
          (max (getF s (SNS.REGION_DROOP.WORST r)) new)) (SNS.DET_EXCL.EXCLUDED w) = getF s (SNS.DET_EXCL.EXCLUDED w) := by
        rw [getF_setF_ne _ _ h2, getF_incF_ne _ h3, getF_setF_ne _ _ h1]
      split <;> exact hu
    · rw [getF_setRegion, getF_setF_ne _ _ h1]
      split
      · exact getF_setSat_ne _ _ h4
      · rfl

theorem regionLevel_sta (r new : Nat) (s : State) : (regionLevel r new s).sta = s.sta := by
  unfold regionLevel
  dsimp only
  repeat' split
  all_goals rfl

/-- Writing ones includes detectors again, and no level that follows touches the exclusions (R60). -/
theorem detExclWrite_shown {w : Nat} (hw : w < 8) (v : Nat) (hv : v < 2 ^ 32) (s : State) :
    getF (detExclWrite w v s) (SNS.DET_EXCL.EXCLUDED w) = Nat.land (getF s (SNS.DET_EXCL.EXCLUDED w)) (0xFFFFFFFF - v) ∧
      (detExclWrite w v s).sta = s.sta := by
  unfold detExclWrite
  dsimp only
  refine List.foldlRecOn (motive := fun t => getF t (SNS.DET_EXCL.EXCLUDED w) = Nat.land (getF s (SNS.DET_EXCL.EXCLUDED w)) (0xFFFFFFFF - v) ∧
    t.sta = s.sta) _ _ ⟨?_, rfl⟩ fun t ht i _ => ⟨(getF_regionLevel_excl _ _ _ _ hw).trans ht.1, (regionLevel_sta ..).trans ht.2⟩
  rw [getF_setB_ne _ _ (by simp only [SNS.DET_EXCL.EXCLUDED, SNS.DROOP_STATUS.STUCK_ANY, fld]; omega), getF_setF_self, Nat.mod_eq_of_lt hv]
  exact Nat.mod_eq_of_lt (Nat.and_lt_two_pow _ (show 0xFFFFFFFF - v < 2 ^ 32 by omega))

theorem detExcl_ownReg {w : Nat} (hw : w < 8) : OwnReg (0x10710 + 4 * w) := by
  have h : ∀ w < 8, (0x10710 + 4 * w) / 4 * 4 = 0x10710 + 4 * w ∧ mapped (0x10710 + 4 * w) = true ∧ isLow (0x10710 + 4 * w) = false ∧
      isHigh (0x10710 + 4 * w) = false ∧ hostOnly (0x10710 + 4 * w) = false ∧ ((0x10710 + 4 * w) == 0x70060) = false ∧
      inR (0x10710 + 4 * w) 0x90030 0x9003C = false ∧ inR (0x10710 + 4 * w) 0xC0020 0xC002C = false := by decide +kernel
  obtain ⟨h1, h2, h3, h4, h5, h6, h7, h8⟩ := h w hw
  exact ⟨h1, h2, h3, h4, fun _ => notIts_false h5 h6 h7 h8⟩

theorem ownWrite_detExcl {agent w v : Nat} {s : State} (hw : w < 8) :
    ownWrite agent (0x10710 + 4 * w) v s = some (detExclWrite w v s) := by
  have h : ∀ w < 8, (0x10710 + 4 * w) / 0x10000 = 1 ∧ inR (0x10710 + 4 * w) 0x10710 0x10730 = true ∧ (0x10710 + 4 * w - 0x10710) / 4 = w := by decide
  obtain ⟨h1, h2, h3⟩ := h w hw
  unfold ownWrite
  rw [h1]
  simp only [h2, h3, if_true]

end Sys2Proof.Machine

open Sys2Proof Sys2Proof.Machine

/-- Settles O21: the deepest crossed threshold, the region's level, the exclusion at the boundary and its write, and the long hold. -/
theorem droopLevelsFollowDetectors : Obligations.DroopLevelsFollowDetectors := by
  unfold Obligations.DroopLevelsFollowDetectors
  intro dt r d s a hr hd ha
  have hn : noEnd a := ha ▸ noEnd_advance dt s
  refine ⟨fun v b hw hb hlv => ?_, fun t0 ht0 hlong hex hlast hask => ?_, fun agent w v hw hmay => ?_, fun hh hl hlong hroom => ?_, fun hl => ?_⟩
  · refine answers_of ha (exec_droopLevelChange ..) hw ?_
    have hnb : levelOf b r = levelOf (noteStuck r b) r := rfl
    have hshown : LevelShown r (levelOf b r) (noteStuck r b) (droopLevelChange r d v a) := by
      unfold droopLevelChange
      dsimp only
      rw [← hb]
      exact regionLevel_shown r hlv _
    have hsta : (noteStuck r b).sta = a.sta := by rw [hb]; rfl
    have hu : noEnd (droopLevelChange r d v a) := noEnd_congr hn (hshown.sta.trans hsta)
    have hf : ∀ f, getF (noteStuck r b) f = getF a f := fun f => by rw [hb]; rfl
    have ht : (noteStuck r b).time = a.time := by rw [hb]; rfl
    have hreg : regionOf (settle (droopLevelChange r d v a)) r = regionOf (droopLevelChange r d v a) r := by
      unfold regionOf
      rw [settle_of_noEnd hu, watches_drg]
    have hset : ∀ f : Fld, f.key < 0x20000 * 32 → getF (settle (droopLevelChange r d v a)) f = getF (droopLevelChange r d v a) f :=
      fun f hlow => getF_settle _ hu (hlow.trans (by decide)).ne
    have hlow : (SNS.REGION_DROOP.LEVEL r).key < 0x20000 * 32 ∧ (SNS.REGION_DROOP.EVENTS r).key < 0x20000 * 32 := by
      simp only [SNS.REGION_DROOP.LEVEL, SNS.REGION_DROOP.EVENTS, fld]; omega
    have hrise := hshown.rise
    have hfall := hshown.fall
    rw [hf, hf, ht] at hrise
    rw [hf] at hfall
    refine ⟨fun i h1 h4 => ?_, (hset _ hlow.1).trans hshown.level, fun h => ?_, fun h => ?_⟩
    · rw [settle_of_noEnd hu, watches_sns, droopLevelChange_det r d v a (by rw [hshown.sns, hb])]
      exact detLevel_spec a _ v i h1 h4
    · rw [hset _ hlow.2, hreg]
      exact hrise h
    · rw [hreg]
      exact hfall h
  · have hcond : ¬(a.time.ticks ≤ t0 + ms 1 ∨ detExcl a (4 * r + d) = true ∨
        (otherDets a (4 * r + d) = [] ∧ a.sns.stuckSent.contains (4 * r + d) = true) ∨
        a.acts.any (fun x => x.kind == .exclude (4 * r + d)) = true) := by
      rintro (h | h | ⟨h, h2⟩ | h)
      · exact absurd h (by simp only [ms]; omega)
      · exact Bool.false_ne_true (hex.symm.trans h)
      · exact Bool.false_ne_true ((hlast h).symm.trans h2)
      · exact Bool.false_ne_true (hask.symm.trans h)
    have he : droopDetStuck r d a = { a with acts := a.acts ++ [⟨.exclude (4 * r + d), false, none, 0⟩] } := by
      unfold droopDetStuck
      dsimp only
      rw [ht0]
      exact if_neg hcond
    refine answers_eq ha (exec_droopDetStuck ..) (by simp [Instr.wf, hr, hd]) he ?_
    have hx : noEnd { a with acts := a.acts ++ [⟨.exclude (4 * r + d), false, none, 0⟩] } := hn
    refine ⟨?_, (unitsSame_settle hx).2 (unitsSame_refl a), fieldsBut_settle hx fun f _ _ => rfl⟩
    rw [settle_of_noEnd hx, watches_acts]
  · refine answers_eq ha (exec_detExclWrite ..) (by simp [Instr.wf, hw])
      (busWrite_own (detExcl_ownReg hw) hmay v.isLt (ownWrite_detExcl hw)) ?_
    obtain ⟨h1, h2⟩ := detExclWrite_shown hw v.toNat v.isLt a
    exact (getF_settle _ (noEnd_congr hn h2) (by simp only [SNS.DET_EXCL.EXCLUDED, TST.CTRL.OVERRIDE, fld]; omega)).trans h1
  · set u := setB (setRegion a r { regionOf a r with longSent := true }) DRG.STATUS.HOLD_LONG true with hu
    have he : stretchHoldLong r a = sendFault 0x52 (0x510 + r) ((a.time.ticks - holdFrom a r) / 100) u :=
      if_pos (by simp only [hh, hl, Bool.not_false, Bool.and_true, Bool.true_and, decide_eq_true_eq]; exact hlong)
    refine answers_eq ha (exec_stretchHoldLong ..) (by simp [Instr.wf, hr]) he ?_
    have hru : roomMsg u := roomMsg_congr rfl hroom
    have hx : noEnd (sendFault 0x52 (0x510 + r) ((a.time.ticks - holdFrom a r) / 100) u) := noEnd_congr hn (sendFault_sta ..)
    refine ⟨?_, ?_, (messageWaits_settle hx).2 (messageWaits_sendFault hru),
      fieldsBut_settle hx (fieldsBut_sendFault (Or.inl hru) (fieldsBut_setF (List.mem_singleton_self _) fun f _ _ => rfl))⟩
    · rw [getB_settle _ hx (by decide), getB_sendFault _ _ _ _ (by decide)]
      exact getB_setB_self _ _ _ rfl
    · unfold regionOf
      rw [settle_of_noEnd hx, watches_drg, sendFault_drg]
      exact regionOf_setRegion a r _
  · exact answers_untouched ha (exec_stretchHoldLong ..) (by simp [Instr.wf, hr]) (if_neg (by simp [hl]))
end

section
/-! SUPPORT. The frames of the operations at the end of a window of the activity stream. -/

namespace Sys2Proof.Machine

section
variable {L : List Part} {lo : Nat} {z s : State}

theorem injectAt_agree (checker : Nat) (word : Nat) (m : Assoc Nat) (hlo : lo ≤ 0x1a01310) (hz : Agree L lo z s) : Agree L lo z (injectAt
    checker word m s).1 := by
  unfold injectAt
  with_reducible repeat' (first
      | assumption | exact .inl rfl | exact .inl ⟨rfl, rfl, rfl, rfl, rfl⟩ | exact .inl ⟨rfl, rfl⟩ | apply setF_agree | apply setB_agree
      | split | simp only | apply mk_agree | exact hlo.trans (by decide))

theorem trigger_agree (k : Nat) (hL : Within [.pxe] L) (hz : Agree L lo z s) : Agree L lo z (trigger k s) := by
  unfold trigger
  with_reducible repeat' (first
      | assumption | apply setPxe_agree | split)

theorem idleRuns_agree (hL : Within [.sta] L) (hz : Agree L lo z s) : Agree L lo z (idleRuns s) := by
  unfold idleRuns
  with_reducible repeat' (first
      | assumption | exact .inl rfl | exact .inl ⟨rfl, rfl, rfl, rfl, rfl⟩ | exact .inl ⟨rfl, rfl⟩ | exact .inr (hL.mem (by decide))
      | simp only [agree_mk_eq] | apply mk_agree)

theorem pxeFeatures_agree (hL : Within [.pxe] L) (hlo : lo ≤ 0x1a01310) (hz : Agree L lo z s) : Agree L lo z (pxeFeatures s) := by
  unfold pxeFeatures
  with_reducible repeat' (first
      | assumption | apply injectAt_agree | apply setPxe_agree)

end

end Sys2Proof.Machine
end

section
/-! O22. The activity stream: reports, and the completion of a window. -/

namespace Sys2Proof.Machine

theorem getB_congr {s t : State} {f : Fld} (h : getF t f = getF s f) : getB t f = getB s f := by unfold getB; rw [h]

/-- A report of the stream, with its DUP (R62). -/
theorem activityFeature_eq {id v : Nat} {a : State} (h : ¬0xE00 ≤ id) : ∃ u, activityFeature id v a =
      setSns { u.sns with cur := aIns u.sns.cur id (if featScrubbed a id then 0 else v) } u ∧ u.sns = a.sns ∧ u.sta = a.sta ∧
      fieldsBut [SNS.ACT_STATUS.DUP] a u ∧ (aFind a.sns.cur id ≠ none → getB u SNS.ACT_STATUS.DUP = true) ∧
      (aFind a.sns.cur id = none → getF u SNS.ACT_STATUS.DUP = getF a SNS.ACT_STATUS.DUP) := by
  refine ⟨if (aFind a.sns.cur id).isSome then setB a SNS.ACT_STATUS.DUP true else a, by unfold activityFeature; rw [if_neg h], ?_⟩
  cases hc : aFind a.sns.cur id with
  | none => exact ⟨rfl, rfl, fun f _ _ => rfl, fun hn => absurd rfl hn, fun _ => rfl⟩
  | some x =>
    exact ⟨rfl, rfl, fieldsBut_setF (List.mem_singleton_self _) (fun f _ _ => rfl), fun _ => getB_setB_self _ _ _ rfl, fun hn => absurd hn (by simp)⟩

/-! ### The completion of a window -/

/-- The state in which a window has been taken and its stale counts are set (R63). -/
def windowTaken (late : Nat) (s : State) : State :=
  let s1 := setSns { s.sns with feats := windowFeats late s, cur := [], stale := decide (late ≠ 0),
                                late := if decide (late ≠ 0) then late else s.sns.late,
                                stallSent := decide (late ≠ 0) && s.sns.stallSent } s
  if decide (late ≠ 0) then
    setSat (setSat s1 SNS.ACT_STATUS.STALE_RUN (getF s1 SNS.ACT_STATUS.STALE_RUN + 1)) SNS.ACT_STATUS.STALE_TOTAL
      (getF s1 SNS.ACT_STATUS.STALE_TOTAL + 1)
  else setF s1 SNS.ACT_STATUS.STALE_RUN 0

/-- What follows the completion stays with the estimator, the engine and the rest states. -/
theorem windowDone_agree (late : Nat) {a : State} (hn : noEnd a) :
    Agree [.est, .pxe, .sta] (0x20000 * 32) (windowTaken late a) (settle (windowDone late a)) ∧ (settle (windowDone late a)).est.owed = true := by
  have hw : noEnd (windowTaken late a) := by
    unfold windowTaken
    dsimp only
    split <;> exact hn
  set u := setEst { (windowTaken late a).est with shot := some ((windowTaken late a).est.shot.getD (shotOf a)), owed := true,
                                                  stale10 := (windowTaken late a).est.stale10 || decide (late ≠ 0) } (windowTaken late a)
  have h1 : Agree [.pxe, .sta] (0x20000 * 32) u (windowDone late a) :=
    trigger_agree 0 (.of rfl (.self _)) (idleRuns_agree (.of rfl (.self _)) (pxeFeatures_agree (.of rfl (.self _)) (by decide) (.refl ..)))
  have h2 : Agree [.est, .pxe, .sta] (0x20000 * 32) (windowTaken late a) (windowDone late a) :=
    trigger_agree 0 (.of rfl (.self _)) (idleRuns_agree (.of rfl (.self _)) (pxeFeatures_agree (.of rfl (.self _)) (by decide)
      (setEst_agree _ (.of rfl (.self _)) (.refl ..))))
  have hd := h2.noEnd hw (by decide)
  exact ⟨h2.settle hd (by decide), by rw [(h1.settle hd (by decide)).est (by decide)]; rfl⟩

theorem windowTaken_sns (late : Nat) (a : State) : (windowTaken late a).sns =
    { a.sns with feats := windowFeats late a, cur := [], stale := decide (late ≠ 0), late := if decide (late ≠ 0) then late else a.sns.late,
                 stallSent := decide (late ≠ 0) && a.sns.stallSent } := by
  unfold windowTaken
  dsimp only
  split <;> rfl

/-- The late sources that count: a bit for each. -/
theorem bit_lateHere (a : State) (late c : Nat) (hc : c < 3) : bit (lateHere a late) c = (bit late c && !srcAbsent a c) := by
  have key : ∀ b0 b1 b2 : Bool, ∀ c < 3, bit ([(0, b0), (1, b1), (2, b2)].foldl (fun m e => if e.2 then setBit m e.1 else m) 0) c =
      ([b0, b1, b2].getD c false) := by decide
  have h := key (bit late 0 && !srcAbsent a 0) (bit late 1 && !srcAbsent a 1) (bit late 2 && !srcAbsent a 2) c hc
  refine Eq.trans h ?_
  match c, hc with
  | 0, _ | 1, _ | 2, _ => rfl

end Sys2Proof.Machine

open Sys2Proof Sys2Proof.Machine

/-- Settles O22: reports as the stream brings them, then a window in time, a stale one, and the stall. -/
theorem activityWindowsComplete : Obligations.ActivityWindowsComplete := by
  unfold Obligations.ActivityWindowsComplete
  intro dt s a ha
  have hn : noEnd a := ha ▸ noEnd_advance dt s
  refine ⟨fun id hid v hv => ?_, fun id v h0 hid hv => ?_, fun h => ?_, fun h => ?_, fun late h0 h8 h => ?_, fun late c hc => bit_lateHere a late c hc,
    fun late h0 h8 hl ht => ?_, fun hrun hs hr => ?_, fun hs => ?_⟩
  · obtain ⟨u, he, hsns, hsta, hf, hdup, hone⟩ := activityFeature_eq (id := id) (v := v) (a := a) (by omega)
    refine answers_eq ha (exec_activityFeature ..) (by simp [Instr.wf, hv]; omega) he ?_
    have hu : noEnd (setSns { u.sns with cur := aIns u.sns.cur id (if featScrubbed a id then 0 else v) } u) := noEnd_congr hn hsta
    refine ⟨?_, fieldsBut_settle hu hf, fun h => (getB_settle _ hu (by decide)).trans (hdup h), fun h => (getF_settle _ hu (by decide)).trans (hone h)⟩
    rw [settle_of_noEnd hu, watches_sns]
    exact aFind_aIns_self ..
  · exact answers_untouched ha (exec_activityFeature ..) (by simp [Instr.wf, hid, hv]) (if_pos h0)
  · refine answers_eq ha (exec_actEndOfWindow ..) rfl (if_pos h) ?_
    obtain ⟨hg, howed⟩ := windowDone_agree 0 hn
    rw [hg.sns (by decide), hg.fields _ (by decide), windowTaken_sns]
    exact ⟨rfl, rfl, rfl, getF_setF_self .., howed⟩
  · exact answers_untouched ha (exec_actEndOfWindow ..) rfl (if_neg (by omega))
  · refine answers_untouched ha (exec_actWindowStale ..) (by simp [Instr.wf, h0, h8]) (if_neg fun hc => ?_)
    exact h.elim (fun h1 => h1 hc.1) fun h1 => hc.2 h1
  · refine answers_eq ha (exec_actWindowStale ..) (by simp [Instr.wf, h0, h8]) (if_pos ⟨ht, hl⟩) ?_
    obtain ⟨hg, -⟩ := windowDone_agree (lateHere a late) hn
    rw [hg.sns (by decide), hg.fields _ (by decide), hg.fields _ (by decide), windowTaken_sns]
    unfold windowTaken
    simp only [ne_eq, hl, not_false_eq_true, decide_true, if_true, true_and]
    refine ⟨?_, ?_⟩
    · rw [getF_setSat_ne _ _ (by decide), getF_setSat_self]
      rfl
    · rw [getF_setSat_self]
      rfl
  · refine answers_eq ha (exec_actStreamStall ..) rfl (if_neg (by simp [hs]; omega)) ?_
    have hru : roomMsg (setSns { a.sns with stallSent := true } a) := roomMsg_congr rfl hr
    have hx : noEnd (sendFault 0x17 0x1D0 a.sns.late (setSns { a.sns with stallSent := true } a)) := noEnd_congr hn (sendFault_sta ..)
    refine ⟨(messageWaits_settle hx).2 (messageWaits_sendFault hru), ?_, fieldsBut_settle hx (fieldsBut_sendFault (Or.inl hru) fun f _ _ => rfl)⟩
    rw [settle_of_noEnd hx, watches_sns, sendFault_sns]
    rfl
  · exact answers_untouched ha (exec_actStreamStall ..) rfl (if_pos (Or.inr hs))
end

section
/-! SUPPORT. The frames of the operations of a housekeeping round. -/

namespace Sys2Proof.Machine

section
variable {L : List Part} {lo : Nat} {z s : State}

theorem hotRound_agree (hL : Within [.phc] L) (hz : Agree L lo z s) : Agree L lo z (hotRound s) := by
  unfold hotRound
  with_reducible repeat' (first
      | assumption | exact .inl rfl | exact .inl ⟨rfl, rfl, rfl, rfl, rfl⟩ | exact .inl ⟨rfl, rfl⟩ | exact .inr (hL.mem (by decide))
      | simp only [agree_mk_eq] | apply mk_agree)

theorem fixedCheck_agree (hL : Within [.msgs] L) (hlo : lo ≤ 0x80040e) (hz : Agree L lo z s) : Agree L lo z (fixedCheck s) := by
  unfold fixedCheck
  with_reducible repeat' (first
      | assumption | apply event_agree | apply setB_agree | split | exact Within.of (by decide) hL | exact hlo.trans (by decide))

theorem ceilingFell_agree (hL : Within [.msgs, .drg] L) (hlo : lo ≤ 0x800407) (hz : Agree L lo z s) : Agree L lo z (ceilingFell s) := by
  unfold ceilingFell
  with_reducible repeat' (first
      | assumption | apply repeatBreaks_agree | apply fixedCheck_agree | apply boostCheck_agree | exact Within.of (by decide) hL
      | exact hlo.trans (by decide))

theorem thermLower_agree (v : Nat) (cause : Nat) (hL : Within [.msgs, .drg, .tmg] L) (hlo : lo ≤ 0x800407) (hz : Agree L lo z s) : Agree L
    lo z (thermLower v cause s) := by
  unfold thermLower
  with_reducible repeat' (first
      | assumption | exact .inl rfl | exact .inl ⟨rfl, rfl, rfl, rfl, rfl⟩ | exact .inl ⟨rfl, rfl⟩ | exact .inr (hL.mem (by decide))
      | apply setF_agree | apply ceilingFell_agree | split | simp only [agree_mk_eq] | apply mk_agree | exact Within.of (by decide) hL
      | exact hlo.trans (by decide))

theorem pxeThermal_agree (maxima : Nat → Int) (hL : Within [.pxe] L) (hz : Agree L lo z s) : Agree L lo z (pxeThermal maxima s) := by
  unfold pxeThermal
  with_reducible repeat' (first
      | assumption | apply pxeStored_agree | apply setPxe_agree)

theorem setSuspect_agree (c : Nat) (b : Bool) (hlo : lo ≤ 0x1004000) (hz : Agree L lo z s) : Agree L lo z (setSuspect c b s) := by
  unfold setSuspect
  with_reducible repeat' (first
      | assumption | apply setF_agree | exact hlo.trans (by decide) | (simp only [TMG.SUSPECT.SUSPECT, fld]; omega))

theorem applyMarks_agree (hL : Within [.tmg] L) (hlo : lo ≤ 0x1004000) (hz : Agree L lo z s) : Agree L lo z (applyMarks s) := by
  unfold applyMarks
  with_reducible repeat' (first
      | assumption | apply setSuspect_agree | apply setTmg_agree | apply foldl_agree | (intro _))

theorem blindStep_agree (hL : Within [.msgs, .tmg] L) (hlo : lo ≤ 0x1000209) (hz : Agree L lo z s) : Agree L lo z (blindStep s) := by
  unfold blindStep
  with_reducible repeat' (first
      | assumption | apply sendFaultP_agree | apply setB_agree | apply setTmg_agree | apply foldl_agree | (intro _)
      | exact Within.of (by decide) hL | exact hlo.trans (by decide))

theorem critStep_agree (chip : Int) (hot : Nat) (hL : Within [.msgs, .drg, .tmg] L) (hlo : lo ≤ 0x800407) (hz : Agree L lo z s) : Agree L
    lo z (critStep chip hot s) := by
  unfold critStep
  with_reducible repeat' (first
      | assumption | exact .inl rfl | exact .inl ⟨rfl, rfl, rfl, rfl, rfl⟩ | exact .inl ⟨rfl, rfl⟩
      | apply thermLower_agree | apply setB_agree | apply sendFaultP_agree | apply eventP_agree | split | simp only [agree_mk_eq]
      | apply mk_agree | exact Within.of (by decide) hL | exact hlo.trans (by decide))

theorem riseStep_agree (m : Assoc Int) (hL : Within [.tmg] L) (hlo : lo ≤ 0x1000203) (hz : Agree L lo z s) : Agree L lo z (riseStep m s)
    := by
  unfold riseStep
  with_reducible repeat' (first
      | assumption | exact .inl rfl | exact .inl ⟨rfl, rfl, rfl, rfl, rfl⟩ | exact .inl ⟨rfl, rfl⟩
      | apply setB_agree | apply setTmg_agree | simp only [agree_mk_eq] | apply mk_agree | exact Within.of (by decide) hL
      | exact hlo.trans (by decide))

theorem selfHotStep_agree (hL : Within [.msgs, .tmg] L) (hlo : lo ≤ 0x100020a) (hz : Agree L lo z s) : Agree L lo z (selfHotStep s) := by
  unfold selfHotStep
  with_reducible repeat' (first
      | assumption | exact .inl rfl | exact .inl ⟨rfl, rfl, rfl, rfl, rfl⟩ | exact .inl ⟨rfl, rfl⟩
      | apply setB_agree | apply sendFaultP_agree | apply setTmg_agree | split | simp only | apply mk_agree
      | exact Within.of (by decide) hL | exact hlo.trans (by decide))

theorem tmgHwRound_agree (hL : Within [.msgs, .drg, .tmg] L) (hlo : lo ≤ 0x800407) (hz : Agree L lo z s) : Agree L lo z (tmgHwRound s) :=
    by
  unfold tmgHwRound
  with_reducible repeat' (first
      | assumption | apply applyMarks_agree | apply freeNext_agree | apply setSatS_agree | apply setF_agree | apply selfHotStep_agree
      | apply critStep_agree | apply riseStep_agree | apply blindStep_agree | apply setTmg_agree | apply foldl_agree | split | (intro _)
      | exact Within.of (by decide) hL | exact hlo.trans (by decide)
      | (simp only [TMG.REGION_T.MEAS, fld]; omega))

end

end Sys2Proof.Machine
end

section
/-! SUPPORT. Loops that go up, and a message that is sent last. -/

namespace Sys2Proof.Machine

/-- A loop over the numbers below `N`: `I n` holds before turn `n`, turn `n` shows `P n`, and later turns keep it. -/
theorem range_fold {g : State → Nat → State} {I P : Nat → State → Prop} {s : State} (N : Nat) (h0 : I 0 s)
    (hs : ∀ n < N, ∀ t, I n t → I (n + 1) (g t n) ∧ P n (g t n) ∧ ∀ m < n, P m t → P m (g t n)) :
    I N ((List.range N).foldl g s) ∧ ∀ n < N, P n ((List.range N).foldl g s) := by
  induction N with
  | zero => exact ⟨h0, fun n hn => absurd hn (Nat.not_lt_zero n)⟩
  | succ N ih =>
    obtain ⟨hi, hp⟩ := ih fun n hn => hs n (Nat.lt_succ_of_lt hn)
    rw [List.range_succ, List.foldl_append, List.foldl_cons, List.foldl_nil]
    obtain ⟨h1, h2, h3⟩ := hs N (Nat.lt_succ_self N) _ hi
    refine ⟨h1, fun n hn => ?_⟩
    rcases Nat.lt_succ_iff_lt_or_eq.1 hn with h | rfl
    · exact h3 n h (hp n h)
    · exact h2

/-- A message sent last, with room at the collector: it waits, and all else is as before it. -/
theorem sent_last {a u : State} {l : List Fld} (k src i : Nat) (hn : noEnd a) (hsta : u.sta = a.sta) (hin : u.inbox = a.inbox)
    (hr : roomMsg a) (hf : fieldsBut l a u) :
    messageWaits k src i (settle (sendFault k src i u)) ∧ waitingSame u (settle (sendFault k src i u)) ∧
      unitsSame u (settle (sendFault k src i u)) ∧ fieldsBut l a (settle (sendFault k src i u)) ∧
      ∀ f : Fld, f.key < FLC.STATUS.QUEUE_OVF.key → getF (settle (sendFault k src i u)) f = getF u f := by
  have hru : roomMsg u := roomMsg_congr hin hr
  have hx : noEnd (sendFault k src i u) := noEnd_congr hn ((sendFault_sta ..).trans hsta)
  exact ⟨(messageWaits_settle hx).2 (messageWaits_sendFault hru), (waitingSame_settle hx).2 (waitingSame_sendFault.2 ⟨rfl, rfl, rfl, rfl, rfl⟩),
    (unitsSame_settle hx).2 (unitsSame_sendFault.2 (unitsSame_refl u)), fieldsBut_settle hx (fieldsBut_sendFault (Or.inl hru) hf),
    fun f hlt => (getF_settle _ hx (hlt.trans (by decide)).ne).trans (getF_sendFault _ _ _ _ hlt.ne)⟩

end Sys2Proof.Machine
end

section
/-! O23. Housekeeping rounds and the telemetry of the power stages. -/

namespace Sys2Proof.Machine

/-! ### The channels of a round -/

/-- What a round shows of a channel (R66). -/
def chanShown (a : State) (conv : Assoc Nat) (c : Nat) (t : State) : Prop :=
  (∀ x, (hksValue a conv c).filter (fun x => !hksRange c x) = some x →
    getF t (HKS.CH.VALUE c) = x % 65536 ∧ getB t (HKS.CH.VALID c) = true ∧ getF t (HKS.CH.AGE c) = 0) ∧
  ((hksValue a conv c).filter (fun x => !hksRange c x) = none → getF t (HKS.CH.VALUE c) = getF a (HKS.CH.VALUE c) ∧
    getB t (HKS.CH.VALID c) = false ∧ getF t (HKS.CH.AGE c) = min (getF a (HKS.CH.AGE c) + 1) 255)

/-- What the channels below `n` leave of a round's inputs: the channels from `n` on, and what a slot finds. -/
structure ChanRest (a : State) (n : Nat) (t : State) : Prop where
  value : ∀ c, n ≤ c → getF t (HKS.CH.VALUE c) = getF a (HKS.CH.VALUE c)
  age : ∀ c, n ≤ c → getF t (HKS.CH.AGE c) = getF a (HKS.CH.AGE c)
  silent : t.sns.silent = a.sns.silent
  tlm : t.sns.tlm = a.sns.tlm
  tlmAt : t.sns.tlmAt = a.sns.tlmAt
  tlmOld : t.sns.tlmOld = a.sns.tlmOld
  time : t.time = a.time
  sta : t.sta = a.sta

theorem ChanRest.finds {a t : State} {n : Nat} (h : ChanRest a n t) (conv : Assoc Nat) (c : Nat) : hksValue t conv c = hksValue a conv c := by
  unfold hksValue
  rw [h.silent, h.tlm, h.tlmAt, h.tlmOld, h.time]

/-- The keys of a channel's fields. -/
theorem chan_keys (c : Nat) : (HKS.CH.VALUE c).key = 0x11000 * 32 + 128 * c ∧ (HKS.CH.VALID c).key = 0x11000 * 32 + 128 * c + 16 ∧
    (HKS.CH.AGE c).key = 0x11000 * 32 + 128 * c + 24 := by
  simp only [HKS.CH.VALUE, HKS.CH.VALID, HKS.CH.AGE, fld]; omega

theorem getF_hksChannel_ne (conv : Assoc Nat) (c : Nat) (s : State) {f : Fld} (h1 : f.key ≠ (HKS.CH.VALUE c).key)
    (h2 : f.key ≠ (HKS.CH.VALID c).key) (h3 : f.key ≠ (HKS.CH.AGE c).key) : getF (hksChannel conv c s) f = getF s f := by
  unfold hksChannel
  dsimp only
  split
  · rw [getF_setSns, getF_setF_ne _ _ h3, getF_setB_ne _ _ h2, getF_setF_ne _ _ h1]
  · split
    · rw [getF_setSat_ne _ _ h3, getF_setB_ne _ _ h2]
    · rw [getF_setSns, getF_setSat_ne _ _ h3, getF_setB_ne _ _ h2]

theorem chanShown_congr {a t u : State} {conv : Assoc Nat} {c : Nat} (h : chanShown a conv c t)
    (hf : ∀ f ∈ [HKS.CH.VALUE c, HKS.CH.VALID c, HKS.CH.AGE c], getF u f = getF t f) : chanShown a conv c u := by
  have hb : getB u (HKS.CH.VALID c) = getB t (HKS.CH.VALID c) := getB_congr (hf _ (by simp))
  unfold chanShown at h ⊢
  rw [hf _ (by simp), hf (HKS.CH.AGE c) (by simp), hb]
  exact h

theorem hksChannel_shown (conv : Assoc Nat) (c : Nat) (t : State) : chanShown t conv c (hksChannel conv c t) := by
  obtain ⟨k1, k2, k3⟩ := chan_keys c
  have h12 : (HKS.CH.VALUE c).key ≠ (HKS.CH.VALID c).key := by omega
  have h13 : (HKS.CH.VALUE c).key ≠ (HKS.CH.AGE c).key := by omega
  have h23 : (HKS.CH.VALID c).key ≠ (HKS.CH.AGE c).key := by omega
  unfold hksChannel chanShown
  dsimp only
  cases (hksValue t conv c).filter (fun x => !hksRange c x) with
  | some x =>
    refine ⟨fun y hy => ?_, fun h => by simp at h⟩
    obtain rfl : x = y := by simpa using hy
    refine ⟨?_, (getB_setF_ne _ _ h23).trans (getB_setB_self _ _ _ rfl), ?_⟩
    · rw [getF_setSns, getF_setF_ne _ _ h13, getF_setB_ne _ _ h12]
      exact getF_setF_self ..
    · exact getF_setF_self ..
  | none =>
    refine ⟨fun y hy => by simp at hy, fun _ => ?_⟩
    have hu : ∀ x : State, (∀ f, getF x f = getF (setSat (setB t (HKS.CH.VALID c) false) (HKS.CH.AGE c) (getF t (HKS.CH.AGE c) + 1)) f) →
        getF x (HKS.CH.VALUE c) = getF t (HKS.CH.VALUE c) ∧ getB x (HKS.CH.VALID c) = false ∧
          getF x (HKS.CH.AGE c) = min (getF t (HKS.CH.AGE c) + 1) 255 := fun x hx => by
      refine ⟨?_, (getB_congr (hx _)).trans ?_, ?_⟩
      · rw [hx, getF_setSat_ne _ _ h13, getF_setB_ne _ _ h12]
      · exact (getB_setF_ne _ _ h23).trans (getB_setB_self _ _ _ rfl)
      · rw [hx]
        exact getF_setSat_self ..
    dsimp only
    split
    · exact hu _ fun _ => rfl
    · exact hu _ fun _ => rfl

theorem hksChannel_rest {a t : State} {conv : Assoc Nat} {n : Nat} (h : ChanRest a n t) : ChanRest a (n + 1) (hksChannel conv n t) := by
  have hk := chan_keys
  have hu : (hksChannel conv n t).sta = t.sta ∧ (hksChannel conv n t).time = t.time ∧ (hksChannel conv n t).sns.silent = t.sns.silent ∧
      (hksChannel conv n t).sns.tlm = t.sns.tlm ∧ (hksChannel conv n t).sns.tlmAt = t.sns.tlmAt ∧
      (hksChannel conv n t).sns.tlmOld = t.sns.tlmOld := by
    unfold hksChannel
    dsimp only
    split
    · exact ⟨rfl, rfl, rfl, rfl, rfl, rfl⟩
    · split <;> exact ⟨rfl, rfl, rfl, rfl, rfl, rfl⟩
  obtain ⟨u1, u2, u3, u4, u5, u6⟩ := hu
  refine ⟨fun c hc => ?_, fun c hc => ?_, u3.trans h.silent, u4.trans h.tlm, u5.trans h.tlmAt, u6.trans h.tlmOld, u2.trans h.time, u1.trans h.sta⟩
  · rw [getF_hksChannel_ne _ _ _ (by have := hk c; have := hk n; omega) (by have := hk c; have := hk n; omega)
      (by have := hk c; have := hk n; omega)]
    exact h.value c (by omega)
  · rw [getF_hksChannel_ne _ _ _ (by have := hk c; have := hk n; omega) (by have := hk c; have := hk n; omega)
      (by have := hk c; have := hk n; omega)]
    exact h.age c (by omega)

/-- All the channels of a round. -/
theorem hksChannels_shown (a : State) (conv : Assoc Nat) (N : Nat) :
    ChanRest a N ((List.range N).foldl (fun t c => hksChannel conv c t) a) ∧
      ∀ c < N, chanShown a conv c ((List.range N).foldl (fun t c => hksChannel conv c t) a) := by
  have hk := chan_keys
  refine range_fold (g := fun t c => hksChannel conv c t) N ⟨fun _ _ => rfl, fun _ _ => rfl, rfl, rfl, rfl, rfl, rfl, rfl⟩ fun n hn t h =>
    ⟨hksChannel_rest h, ?_, fun m hm hs => chanShown_congr hs fun f hf => ?_⟩
  · have hs := hksChannel_shown conv n t
    unfold chanShown at hs ⊢
    rwa [h.finds, h.value n (Nat.le_refl _), h.age n (Nat.le_refl _)] at hs
  · simp only [List.mem_cons, List.not_mem_nil, or_false] at hf
    have := hk m; have := hk n
    rcases hf with rfl | rfl | rfl <;> exact getF_hksChannel_ne _ _ _ (by omega) (by omega) (by omega)

/-- A round as the statements after it find it. -/
theorem hksRound_shown (conv : List (Nat × Nat)) {a : State} (hn : noEnd a) :
    getF (settle (hksRound conv a)) HKS.STATUS.ROUND = (getF a HKS.STATUS.ROUND + 1) % 2 ^ 32 ∧
      ∀ c < 0x365, chanShown a (conv.foldl (fun m e => aIns m e.1 (e.2 % 65536)) []) c (settle (hksRound conv a)) := by
  obtain ⟨hr, hs⟩ := hksChannels_shown a (conv.foldl (fun m e => aIns m e.1 (e.2 % 65536)) []) 0x365
  have hp : hksPublish conv a = setF ((List.range 0x365).foldl (fun t c =>
    hksChannel (conv.foldl (fun m e => aIns m e.1 (e.2 % 65536)) []) c t) a) HKS.STATUS.ROUND (getF a HKS.STATUS.ROUND + 1) := rfl
  generalize (List.range 0x365).foldl (fun t c => hksChannel (conv.foldl (fun m e => aIns m e.1 (e.2 % 65536)) []) c t) a = u at hr hs hp
  have hg : Agree [.msgs, .drg, .tmg, .phc, .pxe] (0x20000 * 32) (hksPublish conv a) (hksRound conv a) :=
    pxeThermal_agree _ (.of rfl (.self _)) (hotRound_agree (.of rfl (.self _)) (tmgHwRound_agree (.of rfl (.self _)) (by decide) (.refl ..)))
  have hg2 := hg.settle (hg.noEnd (hp ▸ noEnd_congr hn hr.sta) (by decide)) (by decide)
  refine ⟨?_, fun c hc => chanShown_congr (hs c hc) fun f hf => ?_⟩
  · rw [hg2.fields _ (by decide), hp]
    exact getF_setF_self ..
  · have hlow : f.key < 0x20000 * 32 ∧ f.key ≠ HKS.STATUS.ROUND.key := by
      have := chan_keys c
      simp only [List.mem_cons, List.not_mem_nil, or_false] at hf
      rcases hf with rfl | rfl | rfl <;> simp only [HKS.STATUS.ROUND, fld] <;> omega
    rw [hg2.fields _ hlow.1, hp, getF_setF_ne _ _ hlow.2]

/-! ### The telemetry of the power stages -/

/-- The rounds in which a device was silent, counted up where it was not heard (R67). -/
theorem aGet_silent_count (got : List Nat) (m0 : Assoc Nat) (N d : Nat) :
    aGet 0 ((List.range N).foldl (fun m a => if got.contains a then m else aPut 0 m a (aGet 0 m a + 1)) m0) d =
      if d < N ∧ got.contains d = false then aGet 0 m0 d + 1 else aGet 0 m0 d := by
  induction N with
  | zero => simp
  | succ N ih =>
    rw [List.range_succ, List.foldl_append, List.foldl_cons, List.foldl_nil]
    generalize (List.range N).foldl (fun m a => if got.contains a then m else aPut 0 m a (aGet 0 m a + 1)) m0 = m at ih
    by_cases hd : d = N
    · subst hd
      rw [if_neg (fun h => absurd h.1 (Nat.lt_irrefl d))] at ih
      by_cases hg : got.contains d = true
      · rw [if_pos hg, if_neg (fun h => Bool.false_ne_true (h.2.symm.trans hg)), ih]
      · rw [if_neg hg, if_pos ⟨Nat.lt_succ_self d, by simpa using hg⟩, aGet_aPut_self, ih]
    · have hlt : d < N + 1 ↔ d < N := by omega
      simp only [hlt]
      rw [← ih]
      split
      · rfl
      · exact aGet_aPut_ne 0 0 m _ hd

end Sys2Proof.Machine

open Sys2Proof Sys2Proof.Machine

/-- Settles O23: a round channel by channel, then the faults of a channel and of a device, and the frames. -/
theorem housekeepingRoundsPublish : Obligations.HousekeepingRoundsPublish := by
  unfold Obligations.HousekeepingRoundsPublish
  intro dt s a ha
  have hn : noEnd a := ha ▸ noEnd_advance dt s
  refine ⟨fun conv hw ht => ?_, fun c hc hbad hs hr => ?_, fun ht => ?_, fun slot w hsl h31 hslot h98 hcrc => ?_, fun slot w hsl hcrc => ?_,
    fun d hd hsil hs hr => ?_, fun d hd hs => ?_⟩
  · refine answers_eq ha (exec_hksRound ..) hw (if_pos ht) ?_
    obtain ⟨hround, hch⟩ := hksRound_shown conv hn
    refine ⟨hround, fun c hc got hgot => ?_⟩
    subst hgot
    exact hch c hc
  · refine answers_eq ha (exec_hksChannelInvalid ..) (by simp [Instr.wf, hc]) (if_neg (by simp only [hs, Bool.false_eq_true, or_false]; omega)) ?_
    obtain ⟨h1, -, ⟨⟨h3, -⟩, -⟩, h4, -⟩ := sent_last (l := []) (u := setSns { a.sns with hksSent := insN c a.sns.hksSent } a) 0x18 0x1E0 c hn rfl rfl hr
      (fun f _ _ => rfl)
    exact ⟨h1, by rw [h3]; exact mem_insN .., h4⟩
  · refine answers_eq ha (exec_stgTlmRoundStart ..) rfl (if_pos ht) ?_
    have hx : noEnd (tlmRound a) := hn
    rw [settle_of_noEnd hx, watches_sns]
    refine ⟨rfl, rfl, fun f _ hf => getF_watches _ hf, fun d hd => ?_⟩
    show aGet 0 (if !a.sns.tlmOpen then a.sns.silent else _) d = _
    cases ho : a.sns.tlmOpen with
    | false => simp
    | true =>
      rw [Bool.not_true, if_neg Bool.false_ne_true]
      refine (aGet_silent_count ..).trans ?_
      simp [hd]
  · have hbit : bit w.toNat 31 = false := by
      unfold bit
      exact Nat.testBit_lt_two_pow h31
    have he : tlmFrame slot w.toNat a = setSns { a.sns with
        tlm := aIns a.sns.tlm (bits w.toNat 24 7) (bits w.toNat 8 16), tlmAt := aIns a.sns.tlmAt (bits w.toNat 24 7) a.time.ticks,
        tlmOld := (match aFind a.sns.tlm (bits w.toNat 24 7) with | some v => aIns a.sns.tlmOld (bits w.toNat 24 7) v | none => a.sns.tlmOld),
        tlmGot := insN (bits w.toNat 24 7) a.sns.tlmGot, silent := aDel a.sns.silent (bits w.toNat 24 7),
        silentSent := remN (bits w.toNat 24 7) a.sns.silentSent } a := by
      unfold tlmFrame
      dsimp only
      exact if_neg (by simp [hbit, hslot, hcrc]; omega)
    refine answers_eq ha (exec_stgTlmFrame ..) (by simp [Instr.wf, hsl]) he ?_
    generalize hu : setSns _ a = u
    have hx : noEnd u := hu ▸ hn
    rw [settle_of_noEnd hx, watches_sns, ← hu]
    refine ⟨aFind_aIns_self .., mem_insN .., ?_, fun f _ hf => getF_watches _ hf⟩
    show aGet 0 (aDel a.sns.silent (bits w.toNat 24 7)) _ = 0
    unfold aGet
    rw [aFind_aDel_self]
    rfl
  · refine answers_untouched ha (exec_stgTlmFrame ..) (by simp [Instr.wf, hsl]) ?_
    unfold tlmFrame
    dsimp only
    rw [if_pos (Or.inl (by simp [hcrc]))]
  · refine answers_eq ha (exec_stgTlmSilent ..) (by simp [Instr.wf, hd]) (if_neg (by simp only [hs, Bool.false_eq_true, or_false]; omega)) ?_
    obtain ⟨h1, -, ⟨⟨h3, -⟩, -⟩, h4, -⟩ := sent_last (l := []) (u := setSns { a.sns with silentSent := insN d a.sns.silentSent } a) 0x19 0x1E1 d hn rfl
      rfl hr (fun f _ _ => rfl)
    exact ⟨h1, by rw [h3]; exact mem_insN .., h4⟩
  · exact answers_untouched ha (exec_stgTlmSilent ..) (by simp [Instr.wf, hd]) (if_pos (Or.inr hs))
end

section
/-! O24. The rows of Table 3-5: what a row that decided does. -/

namespace Sys2Proof.Machine

/-! ### A row's fault -/

theorem getF_rowFault (row : Nat) (s : State) {f : Fld} (h1 : f.key ≠ FLC.STATUS.QUEUE_OVF.key) (h2 : f.key ≠ EST.TRUST_STATUS.MISMATCH_LATCH.key) :
    getF (rowFault row s) f = getF s f := by
  unfold rowFault diffFault
  dsimp only
  split
  · split
    · refine (getF_sendFault _ _ _ _ h1).trans ?_
      split
      · rfl
      · exact getF_sendFault _ _ _ _ h1
    · split
      · rfl
      · exact getF_sendFault _ _ _ _ h1
  · exact getF_sendFault _ _ _ _ h1
  · exact (getF_setB_ne _ _ h2).trans (getF_sendFault _ _ _ _ h1)
  · rfl

/-- The counts restart, and the row is done. -/
def rowCleared (row : Nat) (s : State) : State :=
  let s2 := setF (setF (setF (rowFault row s) EST.TRUST_COUNT.DIS_RUN 0) EST.TRUST_COUNT.AGREE_RUN 0) EST.TRUST_COUNT.SHADOW_RUN 0
  setEst { s2.est with row := 0 } s2

theorem rowFault_units (row : Nat) (s : State) : (rowFault row s).sta = s.sta ∧ (rowFault row s).est = s.est := by
  have h := rowFault_agree (L := [.msgs]) (lo := 0) row (.self _) (Nat.zero_le _) (.refl _ _ s)
  exact ⟨h.sta (by decide), h.est (by decide)⟩

/-- What a row that decided leaves before its state goes into force. -/
structure Cleared (row : Nat) (a t : State) : Prop where
  dis : getF t EST.TRUST_COUNT.DIS_RUN = 0
  agree : getF t EST.TRUST_COUNT.AGREE_RUN = 0
  shadow : getF t EST.TRUST_COUNT.SHADOW_RUN = 0
  done : t.est.row = 0
  latch : getF t EST.TRUST_STATUS.MISMATCH_LATCH = getF (rowFault row a) EST.TRUST_STATUS.MISMATCH_LATCH
  msgs : ∀ x ∈ (rowFault row a).inbox, x ∈ t.inbox

theorem rowCleared_shown (row : Nat) (a : State) : Cleared row a (rowCleared row a) :=
  ⟨by unfold rowCleared; dsimp only; rw [getF_setEst, getF_setF_ne _ _ (by decide), getF_setF_ne _ _ (by decide), getF_setF_self]; rfl,
   by unfold rowCleared; dsimp only; rw [getF_setEst, getF_setF_ne _ _ (by decide), getF_setF_self]; rfl,
   by unfold rowCleared; dsimp only; rw [getF_setEst, getF_setF_self]; rfl, rfl,
   by unfold rowCleared; dsimp only; rw [getF_setEst, getF_setF_ne _ _ (by decide), getF_setF_ne _ _ (by decide), getF_setF_ne _ _ (by decide)],
   fun _ h => h⟩

theorem getF_rowCleared (row : Nat) (a : State) {f : Fld} (h1 : f.key ≠ FLC.STATUS.QUEUE_OVF.key)
    (h2 : f.key ≠ EST.TRUST_STATUS.MISMATCH_LATCH.key) (h3 : f.key ≠ EST.TRUST_COUNT.DIS_RUN.key)
    (h4 : f.key ≠ EST.TRUST_COUNT.AGREE_RUN.key) (h5 : f.key ≠ EST.TRUST_COUNT.SHADOW_RUN.key) : getF (rowCleared row a) f = getF a f := by
  unfold rowCleared
  dsimp only
  rw [getF_setEst, getF_setF_ne _ _ h5, getF_setF_ne _ _ h4, getF_setF_ne _ _ h3, getF_rowFault _ _ h1 h2]

/-- The bands are as before. -/
theorem bands_rowCleared (row : Nat) (a : State) (st : Nat) : band (rowCleared row a) = band a ∧ bandOf (rowCleared row a) st = bandOf a st := by
  have hf : ∀ f : Fld, f.key ∈ [EST.TRUST_STATUS.BAND.key, EST.BAND_CTRL.GUARD_PCT.key, EST.BAND_CTRL.EST_ONLY_PCT.key,
      SNS.XCHK_STATUS.MEAS_SUSPECT.key] → getF (rowCleared row a) f = getF a f := fun f hf => by
    simp only [List.mem_cons, List.not_mem_nil, or_false] at hf
    refine getF_rowCleared row a ?_ ?_ ?_ ?_ ?_ <;> rcases hf with h | h | h | h <;> rw [h] <;> decide
  have hm : measSuspect (rowCleared row a) = measSuspect a := getB_congr (hf _ (by decide))
  refine ⟨hf _ (by decide), ?_⟩
  unfold bandOf
  rw [hf _ (by decide), hf _ (by decide), hm]

/-! ### The state goes into force -/

/-- A state goes into force: what it shows, and what it leaves. -/
structure Entered (st : Nat) (u t : State) : Prop where
  state : getF t EST.TRUST_STATUS.STATE = st % 4
  valid : getB t EST.TRUST_STATUS.PENDING_VALID = false
  fields : ∀ f : Fld, f.key ∈ [EST.TRUST_COUNT.DIS_RUN.key, EST.TRUST_COUNT.AGREE_RUN.key, EST.TRUST_COUNT.SHADOW_RUN.key,
    EST.TRUST_STATUS.MISMATCH_LATCH.key] → getF t f = getF u f
  done : t.est.row = 0
  cov : t.est.cov = u.est.cov
  msgs : ∀ x ∈ u.inbox, x ∈ t.inbox
  sta : t.sta = u.sta

/-- The registers of a state that goes into force, before what follows it. -/
def trustSet (st : Nat) (s : State) : State :=
  let s1 := setB (setF (setF (setF s EST.TRUST_STATUS.STATE st) EST.TRUST_STATUS.BAND (bandOf s st)) EST.TRUST_STATUS.PENDING 0)
    EST.TRUST_STATUS.PENDING_VALID false
  if trustSt s = 0 ∧ st ≠ 0 then
    { s1 with acts := s1.acts.filter (fun a => match a.kind with | .cal _ _ _ => false | _ => true) } else s1

theorem trustSet_shown (st : Nat) (u : State) : getF (trustSet st u) EST.TRUST_STATUS.STATE = st % 4 ∧
    getB (trustSet st u) EST.TRUST_STATUS.PENDING_VALID = false ∧
    (∀ f : Fld, f.key ∈ [EST.TRUST_COUNT.DIS_RUN.key, EST.TRUST_COUNT.AGREE_RUN.key, EST.TRUST_COUNT.SHADOW_RUN.key,
      EST.TRUST_STATUS.MISMATCH_LATCH.key] → getF (trustSet st u) f = getF u f) ∧
    (trustSet st u).est = u.est ∧ (trustSet st u).inbox = u.inbox ∧ (trustSet st u).sta = u.sta := by
  have key : ∀ t : State, t.regs = (setB (setF (setF (setF u EST.TRUST_STATUS.STATE st) EST.TRUST_STATUS.BAND (bandOf u st))
      EST.TRUST_STATUS.PENDING 0) EST.TRUST_STATUS.PENDING_VALID false).regs → t.est = u.est → t.inbox = u.inbox → t.sta = u.sta →
      getF t EST.TRUST_STATUS.STATE = st % 4 ∧ getB t EST.TRUST_STATUS.PENDING_VALID = false ∧
      (∀ f : Fld, f.key ∈ [EST.TRUST_COUNT.DIS_RUN.key, EST.TRUST_COUNT.AGREE_RUN.key, EST.TRUST_COUNT.SHADOW_RUN.key,
        EST.TRUST_STATUS.MISMATCH_LATCH.key] → getF t f = getF u f) ∧ t.est = u.est ∧ t.inbox = u.inbox ∧ t.sta = u.sta := by
    intro t hr he hi hs
    have hg : ∀ f, getF t f = getF (setB (setF (setF (setF u EST.TRUST_STATUS.STATE st) EST.TRUST_STATUS.BAND (bandOf u st))
      EST.TRUST_STATUS.PENDING 0) EST.TRUST_STATUS.PENDING_VALID false) f := fun f => by unfold getF; rw [hr]
    refine ⟨?_, (getB_congr (hg _)).trans (getB_setB_self _ _ _ rfl), fun f hf => ?_, he, hi, hs⟩
    · rw [hg, getF_setB_ne _ _ (by decide), getF_setF_ne _ _ (by decide), getF_setF_ne _ _ (by decide), getF_setF_self]
      rfl
    · simp only [List.mem_cons, List.not_mem_nil, or_false] at hf
      rw [hg]
      rcases hf with h | h | h | h <;>
        rw [getF_setB_ne _ _ (by rw [h]; decide), getF_setF_ne _ _ (by rw [h]; decide), getF_setF_ne _ _ (by rw [h]; decide),
          getF_setF_ne _ _ (by rw [h]; decide)]
  unfold trustSet
  dsimp only
  split
  · exact key _ rfl rfl rfl rfl
  · exact key _ rfl rfl rfl rfl

/-- What follows the registers and the shadow fit, of which `s3` has both. -/
def trustEnd (st : Nat) (s s3 : State) : State :=
  let e := s3.est
  let wait := st ≠ 1 ∧ (!preliftOk s ∨ e.liftWait)
  let s4 := setF (setEst { e with guardedAt := s.time.ticks, bandPend := none, pendRow := 0, row := 0, liftWait := wait,
                                  shCov := if st = 1 then [] else e.shCov } s3) EST.TRUST_STATUS.GUARDED_MS 0
  let s5 := event 0x0201 [trustSt s, st, bandOf s st] s4
  boostCheck (if preliftOk s5 then s5 else trustWithdraws s5)

theorem trustEnter_eq (st : Nat) (s : State) : trustEnter st s = trustEnd st s (if st = 1 then rails4.foldl (fun t k =>
    setF (setF t (EST.SHADOW.GAIN k) (calGain s k)) (EST.SHADOW.OFFSET k) (getF s (EST.CAL.OFFSET k))) (trustSet st s) else trustSet st s) := rfl

theorem trustEnter_shown (st : Nat) (u : State) : Entered st u (trustEnter st u) := by
  obtain ⟨h1, h2, h3, h4, h5, h6⟩ := trustSet_shown st u
  -- the shadow fit takes the calibration
  have hsh : Agree [] (0x20060 * 32) (trustSet st u) (if st = 1 then rails4.foldl (fun t k =>
      setF (setF t (EST.SHADOW.GAIN k) (calGain u k)) (EST.SHADOW.OFFSET k) (getF u (EST.CAL.OFFSET k))) (trustSet st u) else trustSet st u) := by
    refine ite_agree (foldl_agree (fun t k ht => setF_agree _ _ ?_ (setF_agree _ _ ?_ ht)) (.refl ..)) (.refl ..)
    all_goals simp only [EST.SHADOW.OFFSET, EST.SHADOW.GAIN, fld]; omega
  rw [trustEnter_eq]
  generalize (if st = 1 then rails4.foldl (fun t k =>
    setF (setF t (EST.SHADOW.GAIN k) (calGain u k)) (EST.SHADOW.OFFSET k) (getF u (EST.CAL.OFFSET k))) (trustSet st u) else trustSet st u) = s3 at hsh ⊢
  unfold trustEnd
  dsimp only
  generalize hs4 : setF (setEst _ s3) EST.TRUST_STATUS.GUARDED_MS 0 = s4
  have hf : ∀ f : Fld, f.key < 0x20060 * 32 → f.key ≠ EST.TRUST_STATUS.GUARDED_MS.key → getF s4 f = getF (trustSet st u) f := fun f hlt hne => by
    rw [← hs4, getF_setF_ne _ _ hne]
    exact hsh.fields f hlt
  have hend : Agree [.msgs, .psq, .drg] (0x40000 * 32) s4
      (boostCheck (if preliftOk (event 0x0201 [trustSt u, st, bandOf u st] s4) then event 0x0201 [trustSt u, st, bandOf u st] s4
        else trustWithdraws (event 0x0201 [trustSt u, st, bandOf u st] s4))) := by
    have he := event_agree (L := [.msgs, .psq, .drg]) (lo := 0x40000 * 32) 0x0201 [trustSt u, st, bandOf u st] (.of rfl (.self _)) (by decide)
      (.refl _ _ s4)
    exact boostCheck_agree (.of rfl (.self _)) (by decide) (ite_agree he (trustWithdraws_agree (.of rfl (.self _)) (by decide) he))
  have h0 : s4.est.row = 0 ∧ s4.est.cov = s3.est.cov ∧ s4.inbox = s3.inbox ∧ s4.sta = s3.sta := hs4 ▸ ⟨rfl, rfl, rfl, rfl⟩
  obtain ⟨e1, e2, e3, e4⟩ := h0
  refine ⟨?_, ?_, fun f hm => ?_, ?_, ?_, fun x hx => ?_, ?_⟩
  · exact (hend.fields _ (by decide)).trans ((hf _ (by decide) (by decide)).trans h1)
  · exact (hend.getB (by decide)).trans ((getB_congr (hf _ (by decide) (by decide))).trans h2)
  · have hk : f.key < 0x20060 * 32 ∧ f.key ≠ EST.TRUST_STATUS.GUARDED_MS.key := by
      simp only [List.mem_cons, List.not_mem_nil, or_false] at hm
      rcases hm with h | h | h | h <;> rw [h] <;> decide
    exact (hend.fields _ (hk.1.trans (by decide))).trans ((hf _ hk.1 hk.2).trans (h3 f hm))
  · exact (congrArg EstState.row (hend.est (by decide))).trans e1
  · exact (congrArg EstState.cov (hend.est (by decide))).trans (e2.trans (congrArg EstState.cov ((hsh.est (by decide)).trans h4)))
  · refine hend.waiting (by decide) x ?_
    rw [e3, hsh.inbox (by decide), h5]
    exact hx
  · exact (hend.sta (by decide)).trans (e4.trans ((hsh.sta (by decide)).trans h6))

/-! ### A row that decided -/

/-- A row that decided has acted: the counts restarted, and its state is in force or waits (R84, R85). -/
structure Acted (row : Nat) (a t : State) : Prop where
  state : if band a ≤ bandOf a (rowTarget row) then getF t EST.TRUST_STATUS.STATE = rowTarget row ∧ getB t EST.TRUST_STATUS.PENDING_VALID = false
    else getF t EST.TRUST_STATUS.STATE = getF a EST.TRUST_STATUS.STATE ∧ getF t EST.TRUST_STATUS.PENDING = rowTarget row ∧
      getB t EST.TRUST_STATUS.PENDING_VALID = true
  dis : getF t EST.TRUST_COUNT.DIS_RUN = 0
  agree : getF t EST.TRUST_COUNT.AGREE_RUN = 0
  shadow : getF t EST.TRUST_COUNT.SHADOW_RUN = 0
  done : t.est.row = 0
  cov : row = 8 → band a ≤ bandOf a 0 → t.est.cov = a.est.shCov
  latch : getF t EST.TRUST_STATUS.MISMATCH_LATCH = getF (rowFault row a) EST.TRUST_STATUS.MISMATCH_LATCH
  msgs : ∀ x ∈ (rowFault row a).inbox, x ∈ t.inbox
  sta : t.sta = a.sta

theorem rowTarget_lt (row : Nat) : rowTarget row < 4 := by
  unfold rowTarget
  split <;> decide

/-- At once, where the guard band does not narrow. -/
theorem decideRow_now {row : Nat} {a : State} (h : band a ≤ bandOf a (rowTarget row)) : Acted row a (decideRow row a) := by
  have hc := rowCleared_shown row a
  obtain ⟨hb, hbo⟩ := bands_rowCleared row a (rowTarget row)
  have he : decideRow row a = trustEnter (rowTarget row) (if row = 8 then stageShadow (rowCleared row a) else rowCleared row a) :=
    if_pos (show band (rowCleared row a) ≤ bandOf (rowCleared row a) (rowTarget row) by rw [hb, hbo]; exact h)
  have hu : ∀ u : State, u = (if row = 8 then stageShadow (rowCleared row a) else rowCleared row a) → u.regs = (rowCleared row a).regs ∧
      u.inbox = (rowCleared row a).inbox ∧ u.sta = a.sta ∧ (row = 8 → u.est.cov = a.est.shCov) := by
    rintro u rfl
    have hs : (rowCleared row a).sta = a.sta := (rowFault_units row a).1
    have hest : (rowCleared row a).est.shCov = a.est.shCov := by
      show (rowFault row a).est.shCov = _
      rw [(rowFault_units row a).2]
    split
    · exact ⟨rfl, rfl, hs, fun _ => hest⟩
    · next h8 => exact ⟨rfl, rfl, hs, fun h => absurd h h8⟩
  obtain ⟨ur, ui, us, uc⟩ := hu _ rfl
  rw [he]
  generalize (if row = 8 then stageShadow (rowCleared row a) else rowCleared row a) = u at ur ui us uc
  have hf : ∀ f, getF u f = getF (rowCleared row a) f := fun f => by unfold getF; rw [ur]
  obtain ⟨e1, e2, e3, e4, e5, e6, e7⟩ := trustEnter_shown (rowTarget row) u
  refine ⟨?_, ?_, ?_, ?_, e4, fun h8 _ => e5.trans (uc h8), ?_, fun x hx => e6 x (ui ▸ hc.msgs x hx), e7.trans us⟩
  · rw [if_pos h]
    exact ⟨e1.trans (Nat.mod_eq_of_lt (rowTarget_lt row)), e2⟩
  · exact (e3 _ (by decide)).trans ((hf _).trans hc.dis)
  · exact (e3 _ (by decide)).trans ((hf _).trans hc.agree)
  · exact (e3 _ (by decide)).trans ((hf _).trans hc.shadow)
  · exact (e3 _ (by decide)).trans ((hf _).trans hc.latch)

/-- The state of a row waits for the boundary. -/
def rowPends (row : Nat) (s : State) : State :=
  let s1 := setB (setF s EST.TRUST_STATUS.PENDING (rowTarget row)) EST.TRUST_STATUS.PENDING_VALID true
  setEst { s1.est with pendRow := row } s1

theorem getF_rowPends (row : Nat) (s : State) {f : Fld} (h1 : f.key ≠ EST.TRUST_STATUS.PENDING.key)
    (h2 : f.key ≠ EST.TRUST_STATUS.PENDING_VALID.key) : getF (rowPends row s) f = getF s f := by
  unfold rowPends
  dsimp only
  rw [getF_setEst, getF_setB_ne _ _ h2, getF_setF_ne _ _ h1]

theorem rowPends_shown (row : Nat) (s : State) : getF (rowPends row s) EST.TRUST_STATUS.PENDING = rowTarget row ∧
    getB (rowPends row s) EST.TRUST_STATUS.PENDING_VALID = true ∧ (rowPends row s).est.row = s.est.row ∧ (rowPends row s).sta = s.sta ∧
    (rowPends row s).inbox = s.inbox := by
  unfold rowPends
  dsimp only
  refine ⟨?_, getB_setB_self (setF s EST.TRUST_STATUS.PENDING (rowTarget row)) EST.TRUST_STATUS.PENDING_VALID true rfl, rfl, rfl, rfl⟩
  rw [getF_setEst, getF_setB_ne _ _ (by decide), getF_setF_self]
  exact Nat.mod_eq_of_lt (rowTarget_lt row)

theorem decideRow_narrow {row : Nat} {a : State} (h : ¬band a ≤ bandOf a (rowTarget row)) : decideRow row a =
    boostCheck (if preliftOk (rowPends row (rowCleared row a)) then rowPends row (rowCleared row a)
      else trustWithdraws (rowPends row (rowCleared row a))) := by
  obtain ⟨hb, hbo⟩ := bands_rowCleared row a (rowTarget row)
  exact if_neg (show ¬band (rowCleared row a) ≤ bandOf (rowCleared row a) (rowTarget row) by rw [hb, hbo]; exact h)

/-- The state waits for the boundary, where the guard band narrows. -/
theorem decideRow_pending {row : Nat} {a : State} (h : ¬band a ≤ bandOf a (rowTarget row)) : Acted row a (decideRow row a) := by
  have hc := rowCleared_shown row a
  have hsta : (rowCleared row a).sta = a.sta := (rowFault_units row a).1
  have hst : getF (rowCleared row a) EST.TRUST_STATUS.STATE = getF a EST.TRUST_STATUS.STATE :=
    getF_rowCleared row a (by decide) (by decide) (by decide) (by decide) (by decide)
  rw [decideRow_narrow h]
  generalize rowCleared row a = u at hc hsta hst ⊢
  obtain ⟨p1, p2, p3, p4, p5⟩ := rowPends_shown row u
  have hvf := fun (f : Fld) h1 h2 => getF_rowPends row u (f := f) h1 h2
  generalize rowPends row u = v at p1 p2 p3 p4 p5 hvf ⊢
  have hend : Agree [.msgs, .psq, .drg] (0x40000 * 32) v (boostCheck (if preliftOk v then v else trustWithdraws v)) :=
    boostCheck_agree (.of rfl (.self _)) (by decide) (ite_agree (.refl ..) (trustWithdraws_agree (.of rfl (.self _)) (by decide) (.refl ..)))
  generalize boostCheck (if preliftOk v then v else trustWithdraws v) = t at hend ⊢
  refine ⟨?_, ?_, ?_, ?_, ?_, fun h8 hb8 => absurd (h8 ▸ hb8) h, ?_, fun x hx => hend.waiting (by decide) x (p5 ▸ hc.msgs x hx), ?_⟩
  · rw [if_neg h]
    exact ⟨(hend.fields _ (by decide)).trans ((hvf _ (by decide) (by decide)).trans hst), (hend.fields _ (by decide)).trans p1,
      (hend.getB (by decide)).trans p2⟩
  · exact (hend.fields _ (by decide)).trans ((hvf _ (by decide) (by decide)).trans hc.dis)
  · exact (hend.fields _ (by decide)).trans ((hvf _ (by decide) (by decide)).trans hc.agree)
  · exact (hend.fields _ (by decide)).trans ((hvf _ (by decide) (by decide)).trans hc.shadow)
  · exact (congrArg EstState.row (hend.est (by decide))).trans (p3.trans hc.done)
  · exact (hend.fields _ (by decide)).trans ((hvf _ (by decide) (by decide)).trans hc.latch)
  · exact (hend.sta (by decide)).trans (p4.trans hsta)

/-- The row that decided acts, as the statements after it find it. -/
theorem tryRow_acted {row : Nat} {a : State} (hn : noEnd a) (h : a.est.row = row) : Acted row a (settle (tryRow row a)) := by
  have hd : Acted row a (decideRow row a) := by
    by_cases hb : band a ≤ bandOf a (rowTarget row)
    · exact decideRow_now hb
    · exact decideRow_pending hb
  have he : tryRow row a = decideRow row a := if_pos h
  have hx : noEnd (decideRow row a) := noEnd_congr hn hd.sta
  have hf : ∀ f : Fld, f.key < 0x40000 * 32 → getF (settle (decideRow row a)) f = getF (decideRow row a) f := fun f hlt =>
    getF_settle _ hx (hlt.trans (by decide)).ne
  have hest : (settle (decideRow row a)).est = (decideRow row a).est := by rw [settle_of_noEnd hx, watches_est]
  rw [he]
  refine ⟨?_, (hf _ (by decide)).trans hd.dis, (hf _ (by decide)).trans hd.agree, (hf _ (by decide)).trans hd.shadow,
    (congrArg EstState.row hest).trans hd.done, fun h8 hb => (congrArg EstState.cov hest).trans (hd.cov h8 hb),
    (hf _ (by decide)).trans hd.latch, fun x hx => inbox_settle _ x (hd.msgs x hx), ?_⟩
  · rw [hf _ (by decide), hf _ (by decide), getB_congr (hf _ (by decide))]
    exact hd.state
  · rw [settle_of_noEnd hx, watches_sta]
    exact hd.sta

/-- What the statement asks of a row that acted. -/
theorem Acted.shown {row : Nat} {a t : State} (h : Acted row a t) :
    (if band a ≤ bandOf a (rowTarget row) then getF t EST.TRUST_STATUS.STATE = rowTarget row ∧ getB t EST.TRUST_STATUS.PENDING_VALID = false
      else getF t EST.TRUST_STATUS.STATE = getF a EST.TRUST_STATUS.STATE ∧ getF t EST.TRUST_STATUS.PENDING = rowTarget row ∧
        getB t EST.TRUST_STATUS.PENDING_VALID = true) ∧
      getF t EST.TRUST_COUNT.DIS_RUN = 0 ∧ getF t EST.TRUST_COUNT.AGREE_RUN = 0 ∧ getF t EST.TRUST_COUNT.SHADOW_RUN = 0 ∧ t.est.row = 0 :=
  ⟨h.state, h.dis, h.agree, h.shadow, h.done⟩

/-! ### The faults of the rows -/

theorem rowFault_lost {a : State} (hr : roomMsg a) (h : getB a EST.CTRL.FORCE_MEAS = false) : messageWaits 0x22 0x210 (trustSt a) (rowFault 1 a) := by
  have hm : messageWaits 0x22 0x210 (trustSt a) (sendFault 0x22 0x210 (trustSt a) a) := messageWaits_sendFault hr
  have he : rowFault 1 a = if measSuspect a = true then sendFault 0x23 0x211 (trustSt a) (if getB a EST.CTRL.FORCE_MEAS = true then a else
      sendFault 0x22 0x210 (trustSt a) a) else if getB a EST.CTRL.FORCE_MEAS = true then a else sendFault 0x22 0x210 (trustSt a) a := rfl
  rw [he, h, if_neg Bool.false_ne_true]
  split
  · exact messageWaits_of_sub hm inbox_sendFault
  · exact hm

theorem rowFault_mismatch {a : State} (hr : roomMsg a) : getB (rowFault 6 a) EST.TRUST_STATUS.MISMATCH_LATCH = true ∧
    messageWaits 0x21 (0x200 + worstRail a) (ux 32 (aGet 0 a.est.diff (worstRail a))) (rowFault 6 a) :=
  ⟨getB_setB_self _ _ _ rfl, messageWaits_sendFault hr⟩

end Sys2Proof.Machine

open Sys2Proof Sys2Proof.Machine

/-- Settles O24: one rule for a row that decided, at once or pending, and the faults of rows 1, 5 and 6. -/
theorem trustRowsActInOrder : Obligations.TrustRowsActInOrder := by
  unfold Obligations.TrustRowsActInOrder
  intro dt s a ha
  have hn : noEnd a := ha ▸ noEnd_advance dt s
  refine ⟨⟨fun h => ?_, fun h => ?_, fun h => ?_, fun h => ?_, fun h => ?_, fun h => ?_⟩, fun h => ?_, fun h => ?_, fun h => ?_, fun h => ?_,
    fun h => ?_, fun h => ?_⟩
  · have hd := tryRow_acted hn h.1
    exact answers_of ha (exec_estModelLost ..) rfl ⟨hd.shown, fun hf => messageWaits_of_sub (rowFault_lost h.2 hf) hd.msgs⟩
  · exact answers_of ha (exec_estModelRestored ..) rfl (tryRow_acted hn h.1).shown
  · have hd := tryRow_acted hn h.1
    exact answers_of ha (exec_estDisagree ..) rfl ⟨hd.shown, messageWaits_of_sub (messageWaits_sendFault h.2) hd.msgs⟩
  · have hd := tryRow_acted hn h.1
    obtain ⟨hl, hm⟩ := rowFault_mismatch h.2
    exact answers_of ha (exec_estMismatch ..) rfl ⟨hd.shown, (getB_congr hd.latch).trans hl, messageWaits_of_sub hm hd.msgs⟩
  · exact answers_of ha (exec_estTrustAgree ..) rfl (tryRow_acted hn h.1).shown
  · have hd := tryRow_acted hn h.1
    exact answers_of ha (exec_estShadowAgree ..) rfl ⟨hd.shown, hd.cov rfl⟩
  · exact answers_untouched ha (exec_estModelLost ..) rfl (if_neg h)
  · exact answers_untouched ha (exec_estModelRestored ..) rfl (if_neg h)
  · exact answers_untouched ha (exec_estDisagree ..) rfl (if_neg h)
  · exact answers_untouched ha (exec_estMismatch ..) rfl (if_neg h)
  · exact answers_untouched ha (exec_estTrustAgree ..) rfl (if_neg h)
  · exact answers_untouched ha (exec_estShadowAgree ..) rfl (if_neg h)
end

section
/-! SUPPORT. Which registers of an interval an operation leaves: one rule per operation, for values between those that it changes. -/

namespace Sys2Proof.Machine

/-- The registers of an interval of keys are as before. -/
def Between (bl lo : Nat) (s t : State) : Prop := ∀ f : Fld, bl ≤ f.key → f.key < lo → getF t f = getF s f

/-- No key of the list lies in the interval. -/
def Outside (l : List Nat) (bl lo : Nat) : Prop := ∀ k ∈ l, k < bl ∨ lo ≤ k

theorem Outside.of {l m : List Nat} {bl lo : Nat} (h : l.all (fun k => decide (k ∈ m)) = true) (hm : Outside m bl lo) : Outside l bl lo :=
  fun k hk => hm k (of_decide_eq_true (List.all_eq_true.1 h k hk))

theorem Outside.at_mem {l : List Nat} {bl lo k : Nat} (h : Outside l bl lo) (hk : k ∈ l) : k < bl ∨ lo ≤ k := h k hk

theorem Between.refl (bl lo : Nat) (s : State) : Between bl lo s s := fun _ _ _ => rfl

theorem Between.trans {bl lo : Nat} {s t u : State} (h : Between bl lo t u) (hz : Between bl lo s t) : Between bl lo s u :=
  fun f h1 h2 => (h f h1 h2).trans (hz f h1 h2)

theorem Between.getB {bl lo : Nat} {s t : State} (h : Between bl lo s t) {f : Fld} (h1 : bl ≤ f.key) (h2 : f.key < lo) :
    Machine.getB t f = Machine.getB s f := by unfold Machine.getB; rw [h f h1 h2]

/-- A state written out: its registers count. -/
def BetweenMk (bl lo : Nat) (z s : State) : Prop := Between bl lo z s

theorem between_mk_eq {bl lo : Nat} {z : State} {pending free time regs wrote landing landAge pend frozen held acts bus inbox msgSeq lostMsg
    lostRec sns est psq drg phc lgv tmg sta pxe bal fw cmd evr flc sec upd pmb} :
    Between bl lo z ⟨pending, free, time, regs, wrote, landing, landAge, pend, frozen, held, acts, bus, inbox, msgSeq, lostMsg, lostRec, sns, est,
      psq, drg, phc, lgv, tmg, sta, pxe, bal, fw, cmd, evr, flc, sec, upd, pmb⟩ =
    BetweenMk bl lo z ⟨pending, free, time, regs, wrote, landing, landAge, pend, frozen, held, acts, bus, inbox, msgSeq, lostMsg, lostRec, sns,
      est, psq, drg, phc, lgv, tmg, sta, pxe, bal, fw, cmd, evr, flc, sec, upd, pmb⟩ := rfl

section
variable {bl lo : Nat} {z s : State}

theorem mk_between {pending free time wrote landing landAge pend frozen held acts bus inbox msgSeq lostMsg lostRec sns est psq drg phc lgv tmg
    sta pxe bal fw cmd evr flc sec upd pmb} (h : Between bl lo z s) :
    BetweenMk bl lo z ⟨pending, free, time, s.regs, wrote, landing, landAge, pend, frozen, held, acts, bus, inbox, msgSeq, lostMsg, lostRec, sns,
      est, psq, drg, phc, lgv, tmg, sta, pxe, bal, fw, cmd, evr, flc, sec, upd, pmb⟩ := h

theorem foldl_between {α : Type} {g : State → α → State} {l : List α} (hg : ∀ t x, Between bl lo z t → Between bl lo z (g t x))
    (h : Between bl lo z s) : Between bl lo z (l.foldl g s) :=
  List.foldlRecOn (motive := Between bl lo z) _ _ h fun t ht x _ => hg t x ht

theorem ite_between {c : Prop} [Decidable c] {x y : State} (hx : Between bl lo z x) (hy : Between bl lo z y) :
    Between bl lo z (if c then x else y) := by split <;> assumption

theorem of_fst_between {α : Type} {p : State × α} {t : State} {x : α} (hp : p = (t, x)) (h : Between bl lo z p.1) : Between bl lo z t := by
  subst hp; exact h

theorem setF_between (f : Fld) (v : Nat) (hf : f.key < bl ∨ lo ≤ f.key) (h : Between bl lo z s) : Between bl lo z (setF s f v) :=
  fun g h1 h2 => (getF_setF_ne s v (by omega)).trans (h g h1 h2)
theorem setB_between (f : Fld) (b : Bool) (hf : f.key < bl ∨ lo ≤ f.key) (h : Between bl lo z s) : Between bl lo z (setB s f b) :=
  setF_between f _ hf h
theorem setS_between (f : Fld) (i : Int) (hf : f.key < bl ∨ lo ≤ f.key) (h : Between bl lo z s) : Between bl lo z (setS s f i) :=
  setF_between f _ hf h
theorem setSat_between (f : Fld) (v : Nat) (hf : f.key < bl ∨ lo ≤ f.key) (h : Between bl lo z s) : Between bl lo z (setSat s f v) :=
  setF_between f _ hf h
theorem setSatS_between (f : Fld) (i : Int) (hf : f.key < bl ∨ lo ≤ f.key) (h : Between bl lo z s) : Between bl lo z (setSatS s f i) :=
  setF_between f _ hf h
theorem incF_between (f : Fld) (hf : f.key < bl ∨ lo ≤ f.key) (h : Between bl lo z s) : Between bl lo z (incF s f) := setF_between f _ hf h
theorem setW_between (f g : Fld) (v : Nat) (hf : f.key < bl ∨ lo ≤ f.key) (hg : g.key < bl ∨ lo ≤ g.key) (h : Between bl lo z s) :
    Between bl lo z (setW s f g v) := setF_between g _ hg (setF_between f _ hf h)

theorem sendFaultP_between (p k src i : Nat) (hout : Outside [0x1a01081] bl lo) (h : Between bl lo z s) :
    Between bl lo z (sendFaultP p k src i s) := fun f h1 h2 =>
  (getF_sendFaultP _ _ _ _ _ (by have := hout _ (List.mem_singleton_self _); show f.key ≠ 0x1a01081; omega)).trans (h f h1 h2)
theorem sendFault_between (k src i : Nat) (hout : Outside [0x1a01081] bl lo) (h : Between bl lo z s) :
    Between bl lo z (sendFault k src i s) := sendFaultP_between _ k src i hout h
theorem postRec_between (p g c y : Nat) (l : List Nat) (hout : Outside [0x1a00500] bl lo) (h : Between bl lo z s) :
    Between bl lo z (postRec p g c y l s) := fun f h1 h2 =>
  (getF_postRec _ _ _ _ _ _ (by have := hout _ (List.mem_singleton_self _); show f.key ≠ 0x1a00500; omega)).trans (h f h1 h2)
theorem event_between (c : Nat) (l : List Nat) (hout : Outside [0x1a00500] bl lo) (h : Between bl lo z s) : Between bl lo z (event c l s) :=
  postRec_between _ _ _ _ _ hout h
theorem eventP_between (p c : Nat) (l : List Nat) (hout : Outside [0x1a00500] bl lo) (h : Between bl lo z s) :
    Between bl lo z (eventP p c l s) := postRec_between _ _ _ _ _ hout h

theorem setBus_between (x : BusState) (hz : Between bl lo z s) : Between bl lo z (setBus x s) := hz
theorem setSns_between (x : SnsState) (hz : Between bl lo z s) : Between bl lo z (setSns x s) := hz
theorem setEst_between (x : EstState) (hz : Between bl lo z s) : Between bl lo z (setEst x s) := hz
theorem setLgv_between (x : LgvState) (hz : Between bl lo z s) : Between bl lo z (setLgv x s) := hz
theorem setTmg_between (x : TmgState) (hz : Between bl lo z s) : Between bl lo z (setTmg x s) := hz
theorem setPxe_between (x : PxeState) (hz : Between bl lo z s) : Between bl lo z (setPxe x s) := hz
theorem setBal_between (x : BalState) (hz : Between bl lo z s) : Between bl lo z (setBal x s) := hz
theorem setFw_between (x : FwState) (hz : Between bl lo z s) : Between bl lo z (setFw x s) := hz
theorem setCmd_between (x : CmdState) (hz : Between bl lo z s) : Between bl lo z (setCmd x s) := hz
theorem setEvr_between (x : EvrState) (hz : Between bl lo z s) : Between bl lo z (setEvr x s) := hz
theorem setFlc_between (x : FlcState) (hz : Between bl lo z s) : Between bl lo z (setFlc x s) := hz
theorem setUpd_between (x : UpdState) (hz : Between bl lo z s) : Between bl lo z (setUpd x s) := hz
theorem setPmb_between (x : PmbState) (hz : Between bl lo z s) : Between bl lo z (setPmb x s) := hz
theorem setSta_between (x : StaState) (hz : Between bl lo z s) : Between bl lo z (setSta x s) := hz
theorem setRail_between (k : Nat) (x : Rail) (hz : Between bl lo z s) : Between bl lo z (setRail s k x) := hz
theorem setPhase_between (n : Nat) (x : PhaseSt) (hz : Between bl lo z s) : Between bl lo z (setPhase s n x) := hz
theorem setRegion_between (r : Nat) (x : Region) (hz : Between bl lo z s) : Between bl lo z (setRegion s r x) := hz
theorem addAct_between (k : ActKind) (o : Option Nat) (p : Nat) (hz : Between bl lo z s) : Between bl lo z (addAct k o p s) := hz
theorem landPut_between (f : Fld) (v : Nat) (hz : Between bl lo z s) : Between bl lo z (landPut f v s) := hz
theorem pendHw_between (p : Nat) (f : Fld) (v : Nat) (hz : Between bl lo z s) : Between bl lo z (pendHw p f v s) := hz
theorem freeNext_between (hz : Between bl lo z s) : Between bl lo z (freeNext s) := hz

theorem repeatBroken_between (cause : Nat) (hout : Outside [0x800407, 0x1a00500] bl lo) (hz : Between bl lo z s) : Between bl lo z
    (repeatBroken cause s) := by
  unfold repeatBroken
  with_reducible repeat' (first
      | assumption | apply event_between | apply setB_between | split | exact Outside.of (by decide) hout
      | exact Outside.at_mem hout (by decide))

theorem repeatBreaks_between (cause : Nat) (hout : Outside [0x800407, 0x1a00500] bl lo) (hz : Between bl lo z s) : Between bl lo z
    (repeatBreaks cause s) := by
  unfold repeatBreaks
  with_reducible repeat' (first
      | assumption | apply repeatBroken_between | split)

theorem setRate_between (rate : Nat) (hout : Outside [0xe00e88] bl lo) (hz : Between bl lo z s) : Between bl lo z (setRate rate s) := by
  unfold setRate
  with_reducible repeat' (first
      | assumption | apply setF_between | simp only [between_mk_eq] | apply mk_between | exact Outside.of (by decide) hout
      | exact Outside.at_mem hout (by decide))

theorem fallLifts_between (p : Lift → Bool) (hz : Between bl lo z s) : Between bl lo z (fallLifts p s) := by
  unfold fallLifts
  with_reducible repeat' (first
      | assumption | simp only [between_mk_eq] | apply mk_between)

theorem withdrawLift_between (hout : Outside [0x800407, 0x1a00500] bl lo) (hz : Between bl lo z s) : Between bl lo z (withdrawLift s) :=
    by
  unfold withdrawLift
  with_reducible repeat' (first
      | assumption | apply fallLifts_between)

theorem trustWithdraws_between (hout : Outside [0x800407, 0x1a00500] bl lo) (hz : Between bl lo z s) : Between bl lo z (trustWithdraws s)
    := by
  unfold trustWithdraws
  with_reducible repeat' (first
      | assumption | apply withdrawLift_between | apply repeatBreaks_between | split | simp only [between_mk_eq] | apply mk_between)

theorem refreshRate_between (hout : Outside [0xe00e88] bl lo) (hz : Between bl lo z s) : Between bl lo z (refreshRate s) := by
  unfold refreshRate
  with_reducible repeat' (first
      | assumption | apply setRate_between | split)

theorem boostCheck_between (hout : Outside [0xe00e08, 0xe00e88] bl lo) (hz : Between bl lo z s) : Between bl lo z (boostCheck s) := by
  unfold boostCheck
  with_reducible repeat' (first
      | assumption | apply setB_between | apply refreshRate_between | split | exact Outside.of (by decide) hout
      | exact Outside.at_mem hout (by decide))

theorem pxeStored_between (a : Nat) (n : Nat) (hz : Between bl lo z s) : Between bl lo z (pxeStored a n s) := by
  unfold pxeStored
  with_reducible repeat' (first
      | assumption | simp only [between_mk_eq] | apply mk_between)

theorem regionEsts_between (hlo : lo ≤ 0x402000) (hz : Between bl lo z s) : Between bl lo z (regionEsts s) := by
  unfold regionEsts
  with_reducible repeat' (first
      | assumption | apply pxeStored_between | apply setPxe_between | apply setSatS_between | apply foldl_between | split | (intro _)
      | simp only | apply mk_between | exact hlo.trans (by decide)
      | exact .inr (by simp only [EST.REGION_I.CURRENT, fld]; omega))

theorem trustCounts_between (hout : Outside [0x400280, 0x400288, 0x400292] bl lo) (hz : Between bl lo z s) : Between bl lo z (trustCounts
    s) := by
  unfold trustCounts
  with_reducible repeat' (first
      | assumption | apply setSat_between | split | simp only [between_mk_eq] | apply mk_between | exact Outside.of (by decide) hout
      | exact Outside.at_mem hout (by decide))

theorem calTrigger_between (hz : Between bl lo z s) : Between bl lo z (calTrigger s) := by
  unfold calTrigger
  with_reducible repeat' (first
      | assumption | apply setEst_between)

theorem diffFault_between (kind : Nat) (hout : Outside [0x1a01081] bl lo) (hz : Between bl lo z s) : Between bl lo z (diffFault kind s) :=
    by
  unfold diffFault
  with_reducible repeat' (first
      | assumption | apply sendFault_between)

theorem rowFault_between (row : Nat) (hout : Outside [0x400205, 0x1a01081] bl lo) (hz : Between bl lo z s) : Between bl lo z (rowFault row
    s) := by
  unfold rowFault
  with_reducible repeat' (first
      | assumption | apply sendFault_between | apply diffFault_between | apply setB_between | split | simp only [between_mk_eq]
      | apply mk_between | exact Outside.of (by decide) hout | exact Outside.at_mem hout (by decide))

theorem trustEnter_between (st : Nat) (hout : Outside [0x400200, 0x400202, 0x400204, 0x400208, 0x400210, 0x800407, 0xe00e08, 0xe00e88,
    0x1a00500] bl lo) (hlo : lo ≤ 0x400c00) (hz : Between bl lo z s) : Between bl lo z (trustEnter st s) := by
  unfold trustEnter
  with_reducible repeat' (first
      | assumption | apply setB_between | apply setF_between | apply setEst_between | apply event_between | apply boostCheck_between
      | apply trustWithdraws_between | apply foldl_between | split | (intro _) | simp only [between_mk_eq] | apply mk_between
      | exact Outside.of (by decide) hout | exact Outside.at_mem hout (by decide) | exact hlo.trans (by decide)
      | exact .inr (by simp only [EST.SHADOW.OFFSET, EST.SHADOW.GAIN, fld]; omega))

theorem stageShadow_between (hz : Between bl lo z s) : Between bl lo z (stageShadow s) := by
  unfold stageShadow
  with_reducible repeat' (first
      | assumption | apply setEst_between | simp only [between_mk_eq] | apply mk_between)

theorem decideRow_between (row : Nat) (hout : Outside [0x400200, 0x400202, 0x400204, 0x400205, 0x400208, 0x400210, 0x400280, 0x400288,
    0x400292, 0x800407, 0xe00e08, 0xe00e88, 0x1a00500, 0x1a01081] bl lo) (hlo : lo ≤ 0x400c00) (hz : Between bl lo z s) : Between bl lo z
    (decideRow row s) := by
  unfold decideRow
  with_reducible repeat' (first
      | assumption | apply rowFault_between | apply setF_between | apply setEst_between | apply trustEnter_between
      | apply stageShadow_between | apply setB_between | apply boostCheck_between | apply trustWithdraws_between | split
      | simp only | apply mk_between | exact Outside.of (by decide) hout | exact Outside.at_mem hout (by decide))

theorem tryRow_between (row : Nat) (hout : Outside [0x400200, 0x400202, 0x400204, 0x400205, 0x400208, 0x400210, 0x400280, 0x400288,
    0x400292, 0x800407, 0xe00e08, 0xe00e88, 0x1a00500, 0x1a01081] bl lo) (hlo : lo ≤ 0x400c00) (hz : Between bl lo z s) : Between bl lo z
    (tryRow row s) := by
  unfold tryRow
  with_reducible repeat' (first
      | assumption | apply decideRow_between | split)

theorem estEval10_between (at0 : Nat) (hout : Outside [0x400200, 0x400202, 0x400204, 0x400205, 0x400208, 0x400210, 0x400280, 0x400288,
    0x400292, 0x800407, 0xe00e08, 0xe00e88, 0x1a00500, 0x1a01081] bl lo) (hlo : lo ≤ 0x400600) (hz : Between bl lo z s) : Between bl lo z
    (estEval10 at0 s) := by
  unfold estEval10
  with_reducible repeat' (first
      | assumption | apply setSatS_between | apply regionEsts_between | apply trustCounts_between | apply setEst_between
      | apply setSat_between | apply setPxe_between | apply calTrigger_between | apply tryRow_between | apply foldl_between | split
      | (intro _) | simp only [between_mk_eq] | apply mk_between | exact Outside.of (by decide) hout
      | exact Outside.at_mem hout (by decide) | exact hlo.trans (by decide)
      | exact .inr (by simp only [EST.RAIL_I_10US.CURRENT, fld]; omega))

theorem chipPower_between (volts : List Nat) (is : List Int) (hout : Outside [0x404000, 0x404080] bl lo) (hz : Between bl lo z s) :
    Between bl lo z (chipPower volts is s) := by
  unfold chipPower
  with_reducible repeat' (first
      | assumption | apply setSat_between | apply setEst_between | split | simp only [between_mk_eq] | apply mk_between
      | exact Outside.of (by decide) hout | exact Outside.at_mem hout (by decide))

theorem sigStore_between (a : SigAcc) (hlo : lo ≤ 0x480000) (hz : Between bl lo z s) : Between bl lo z (sigStore a s) := by
  unfold sigStore
  with_reducible repeat' (first
      | assumption | apply setSat_between | apply foldl_between | split | (intro _) | simp only [between_mk_eq] | apply mk_between
      | exact hlo.trans (by decide) | exact .inr (by simp only [EST.SIG.PEAK, EST.SIG.MEAN, fld]; omega))

theorem sigWindow_between (w : WinShot) (bad : Bool) (hlo : lo ≤ 0x480000) (hz : Between bl lo z s) : Between bl lo z (sigWindow w bad s)
    := by
  unfold sigWindow
  with_reducible repeat' (first
      | assumption | apply sigStore_between | apply setEst_between | split | simp only)

theorem windowAfter_between (bad : Bool) (hout : Outside [0x400200, 0x400202, 0x400204, 0x400205, 0x400208, 0x400210, 0x400280, 0x400288,
    0x400292, 0x404000, 0x404080, 0x800407, 0xe00e08, 0xe00e88, 0x1a00500, 0x1a01081] bl lo) (hlo : lo ≤ 0x400600) (hz : Between bl lo z
    s) : Between bl lo z (windowAfter bad s) := by
  unfold windowAfter
  with_reducible repeat' (first
      | assumption | apply chipPower_between | apply sigWindow_between | apply estEval10_between | apply setEst_between | split
      | exact Outside.of (by decide) hout | exact hlo.trans (by decide))

end

end Sys2Proof.Machine
end

section
/-! SUPPORT. The registers that a calibration round leaves. -/

namespace Sys2Proof.Machine

section
variable {bl lo : Nat} {z s : State}

theorem calRail_between (shadow : Bool) (k : Nat) (hout : Outside [0x400300, 0x400304, 0x1a01081] bl lo) (hlo : lo ≤ 0x400c00) (hz :
    Between bl lo z s) : Between bl lo z (calRail shadow k s) := by
  unfold calRail
  with_reducible repeat' (first
      | assumption | apply sendFault_between | apply setB_between | apply setF_between | apply setEst_between | split
      | simp only [between_mk_eq] | apply mk_between | exact Outside.of (by decide) hout | exact Outside.at_mem hout (by decide)
      | exact hlo.trans (by decide) | exact .inr (by simp only [EST.SHADOW.OFFSET, EST.SHADOW.GAIN, fld]; omega))

end

end Sys2Proof.Machine
end

section
/-! SUPPORT. The frames of the estimator's operations at the end of a window. -/

namespace Sys2Proof.Machine

section
variable {L : List Part} {lo : Nat} {z s : State}

theorem calTrigger_agree (hL : Within [.est] L) (hz : Agree L lo z s) : Agree L lo z (calTrigger s) := by
  unfold calTrigger
  with_reducible repeat' (first
      | assumption | apply setEst_agree)

theorem estEval10_agree (at0 : Nat) (hL : Within [.msgs, .waits, .est, .psq, .drg, .pxe] L) (hlo : lo ≤ 0x400200) (hz : Agree L lo z s) :
    Agree L lo z (estEval10 at0 s) := by
  unfold estEval10
  with_reducible repeat' (first
      | assumption | exact .inl rfl | exact .inl ⟨rfl, rfl, rfl, rfl, rfl⟩ | exact .inl ⟨rfl, rfl⟩
      | apply setSatS_agree | apply regionEsts_agree | apply trustCounts_agree | apply setEst_agree | apply setSat_agree
      | apply setPxe_agree | apply calTrigger_agree | apply tryRow_agree | apply foldl_agree | split | (intro _) | simp only [agree_mk_eq]
      | apply mk_agree | exact Within.of (by decide) hL | exact hlo.trans (by decide)
      | (simp only [EST.RAIL_I_10US.CURRENT, fld]; omega))

theorem sigStore_agree (a : SigAcc) (hlo : lo ≤ 0x480000) (hz : Agree L lo z s) : Agree L lo z (sigStore a s) := by
  unfold sigStore
  with_reducible repeat' (first
      | assumption | exact .inl rfl | exact .inl ⟨rfl, rfl, rfl, rfl, rfl⟩ | exact .inl ⟨rfl, rfl⟩ | apply setSat_agree
      | apply foldl_agree | split | (intro _) | simp only [agree_mk_eq] | apply mk_agree | exact hlo.trans (by decide)
      | (simp only [EST.SIG.PEAK, EST.SIG.MEAN, fld]; omega))

theorem sigWindow_agree (w : WinShot) (bad : Bool) (hL : Within [.est] L) (hlo : lo ≤ 0x480000) (hz : Agree L lo z s) : Agree L lo z
    (sigWindow w bad s) := by
  unfold sigWindow
  with_reducible repeat' (first
      | assumption | apply sigStore_agree | apply setEst_agree | split | simp only)

theorem windowAfter_agree (bad : Bool) (hL : Within [.msgs, .waits, .est, .psq, .drg, .pxe] L) (hlo : lo ≤ 0x400200) (hz : Agree L lo z s)
    : Agree L lo z (windowAfter bad s) := by
  unfold windowAfter
  with_reducible repeat' (first
      | assumption | apply chipPower_agree | apply sigWindow_agree | apply estEval10_agree | apply setEst_agree | split
      | exact Within.of (by decide) hL | exact hlo.trans (by decide))

theorem calRail_agree (shadow : Bool) (k : Nat) (hL : Within [.msgs, .waits, .est] L) (hlo : lo ≤ 0x400300) (hz : Agree L lo z s) : Agree
    L lo z (calRail shadow k s) := by
  unfold calRail
  with_reducible repeat' (first
      | assumption | exact .inl rfl | exact .inl ⟨rfl, rfl, rfl, rfl, rfl⟩ | exact .inl ⟨rfl, rfl⟩ | exact .inr (hL.mem (by decide))
      | apply sendFault_agree | apply setB_agree | apply setF_agree | apply setEst_agree | split | simp only [agree_mk_eq]
      | apply mk_agree | exact Within.of (by decide) hL | exact hlo.trans (by decide)
      | (simp only [EST.SHADOW.OFFSET, EST.SHADOW.GAIN, fld]; omega))

end

end Sys2Proof.Machine
end

section
/-! O25. Substituted windows, calibration rounds, clamps, RETRY and CAL_RESET. -/

namespace Sys2Proof.Machine

/-! ### A window without a result -/

/-- What the evaluations at a window's end leave of the estimator: whether a result is owed, and the run of results. -/
def OwedSame (s t : State) : Prop := t.est.owed = s.est.owed ∧ t.est.results = s.est.results

theorem OwedSame.trans {s t u : State} (h : OwedSame t u) (hz : OwedSame s t) : OwedSame s u := ⟨h.1.trans hz.1, h.2.trans hz.2⟩

theorem OwedSame.of_est {s t : State} (h : t.est = s.est) : OwedSame s t := ⟨congrArg EstState.owed h, congrArg EstState.results h⟩

theorem OwedSame.ite {c : Prop} [Decidable c] {s t u : State} (ht : OwedSame s t) (hu : OwedSame s u) : OwedSame s (if c then t else u) := by
  split <;> assumption

theorem trustEnter_owed (st : Nat) (u : State) : OwedSame u (trustEnter st u) := by
  obtain ⟨-, -, -, h4, -, -⟩ := trustSet_shown st u
  have hsh : Agree [] 0 (trustSet st u) (if st = 1 then rails4.foldl (fun t k =>
      setF (setF t (EST.SHADOW.GAIN k) (calGain u k)) (EST.SHADOW.OFFSET k) (getF u (EST.CAL.OFFSET k))) (trustSet st u) else trustSet st u) :=
    ite_agree (foldl_agree (fun t k ht => setF_agree _ _ (Nat.zero_le _) (setF_agree _ _ (Nat.zero_le _) ht)) (.refl ..)) (.refl ..)
  rw [trustEnter_eq]
  generalize (if st = 1 then rails4.foldl (fun t k =>
    setF (setF t (EST.SHADOW.GAIN k) (calGain u k)) (EST.SHADOW.OFFSET k) (getF u (EST.CAL.OFFSET k))) (trustSet st u) else trustSet st u) = s3 at hsh ⊢
  unfold trustEnd
  dsimp only
  generalize hs4 : setF (setEst _ s3) EST.TRUST_STATUS.GUARDED_MS 0 = s4
  have he := event_agree (L := [.msgs, .psq, .drg]) (lo := 0) 0x0201 [trustSt u, st, bandOf u st] (.of rfl (.self _)) (Nat.zero_le _) (.refl _ _ s4)
  have hend := boostCheck_agree (.of rfl (.self _)) (Nat.zero_le _) (ite_agree (c := preliftOk (event 0x0201 [trustSt u, st, bandOf u st] s4) = true) he
    (trustWithdraws_agree (.of rfl (.self _)) (Nat.zero_le _) he))
  have h0 : OwedSame s3 s4 := hs4 ▸ ⟨rfl, rfl⟩
  exact (OwedSame.of_est (hend.est (by decide))).trans (h0.trans (OwedSame.of_est ((hsh.est (by decide)).trans h4)))

theorem decideRow_owed (row : Nat) (a : State) : OwedSame a (decideRow row a) := by
  have h0 : OwedSame a (rowCleared row a) := by
    have h : OwedSame (rowFault row a) (rowCleared row a) := ⟨rfl, rfl⟩
    exact h.trans (.of_est (rowFault_units row a).2)
  by_cases hb : band a ≤ bandOf a (rowTarget row)
  · obtain ⟨h1, h2⟩ := bands_rowCleared row a (rowTarget row)
    have he : decideRow row a = trustEnter (rowTarget row) (if row = 8 then stageShadow (rowCleared row a) else rowCleared row a) :=
      if_pos (show band (rowCleared row a) ≤ bandOf (rowCleared row a) (rowTarget row) by rw [h1, h2]; exact hb)
    rw [he]
    refine (trustEnter_owed _ _).trans (OwedSame.trans ?_ h0)
    split <;> exact ⟨rfl, rfl⟩
  · rw [decideRow_narrow hb]
    have h1 : OwedSame (rowCleared row a) (rowPends row (rowCleared row a)) := ⟨rfl, rfl⟩
    have hend := boostCheck_agree (L := [.msgs, .psq, .drg]) (lo := 0) (.of rfl (.self _)) (Nat.zero_le _)
      (ite_agree (c := preliftOk (rowPends row (rowCleared row a)) = true) (.refl _ _ (rowPends row (rowCleared row a)))
        (trustWithdraws_agree (.of rfl (.self _)) (Nat.zero_le _) (.refl ..)))
    exact (OwedSame.of_est (hend.est (by decide))).trans (h1.trans h0)

theorem tryRow_owed (row : Nat) (a : State) : OwedSame a (tryRow row a) := by
  unfold tryRow
  split
  · exact decideRow_owed row a
  · exact ⟨rfl, rfl⟩

theorem chipPower_owed (volts : List Nat) (is : List Int) (s : State) : OwedSame s (chipPower volts is s) := by
  unfold chipPower
  dsimp only
  split <;> split <;> exact ⟨rfl, rfl⟩

theorem calTrigger_owed (s : State) : OwedSame s (calTrigger s) := by
  unfold calTrigger
  dsimp only
  split <;> exact ⟨rfl, rfl⟩

theorem sigStore_est (a : SigAcc) (s : State) : (sigStore a s).est = s.est := (sigStore_agree (L := []) (lo := 0) a (Nat.zero_le _) (.refl ..)).est (by decide)

theorem sigWindow_owed (w : WinShot) (bad : Bool) (s : State) : OwedSame s (sigWindow w bad s) := by
  unfold sigWindow
  dsimp only
  split
  · exact (OwedSame.of_est (sigStore_est _ _)).trans ⟨rfl, rfl⟩
  · exact ⟨rfl, rfl⟩
  · exact ⟨rfl, rfl⟩

theorem estEval10_owed (at0 : Nat) (s : State) : OwedSame s (estEval10 at0 s) := by
  unfold estEval10
  extract_lets s2 s3 e out diff s4 e4 s5 s6 x6 s6' s7 e7
  have h3 : OwedSame s s3 := .of_est ((regionEsts_agree (L := [.pxe]) (lo := 0) (.self _) (Nat.zero_le _) (ite_agree (.refl _ _ s) (foldl_agree
    (fun t k ht => setSatS_agree _ _ (Nat.zero_le _) ht) (.refl ..)))).est (by decide))
  have h4 : OwedSame s s4 := .ite h3 ((OwedSame.of_est ((trustCounts_agree (L := []) (lo := 0) (Nat.zero_le _) (.refl ..)).est (by decide))).trans h3)
  have h5 : OwedSame s s5 := OwedSame.trans (t := s4) ⟨rfl, rfl⟩ h4
  have h6 : OwedSame s s6 := .ite (OwedSame.trans (t := s5) ⟨rfl, rfl⟩ h5) h5
  have h6' : OwedSame s s6' := .ite (OwedSame.trans (t := s6) ⟨rfl, rfl⟩ h6) h6
  have h7 : OwedSame s s7 := .ite ((calTrigger_owed s6').trans h6') h6'
  exact (tryRow_owed 3 _).trans ((tryRow_owed 2 _).trans (OwedSame.trans (t := s7) ⟨rfl, rfl⟩ h7))

theorem windowAfter_owed (bad : Bool) (s : State) : OwedSame s (windowAfter bad s) := by
  unfold windowAfter
  dsimp only
  generalize s.est.shot.getD (shotOf s) = w
  have h1 : OwedSame s (if w.trust = 3 then chipPower w.volts (railEst s) s else s) := .ite (chipPower_owed ..) ⟨rfl, rfl⟩
  generalize (if w.trust = 3 then chipPower w.volts (railEst s) s else s) = s1 at h1 ⊢
  have h2 := (sigWindow_owed w bad s1).trans h1
  generalize sigWindow w bad s1 = s2 at h2 ⊢
  have h3 : OwedSame s (if (s2.est.tenDue && decide (w.at0 % us 10 = 0)) = true then estEval10 w.at0 s2 else s2) :=
    .ite ((estEval10_owed ..).trans h2) h2
  generalize (if (s2.est.tenDue && decide (w.at0 % us 10 = 0)) = true then estEval10 w.at0 s2 else s2) = s3 at h3 ⊢
  exact OwedSame.trans (t := s3) ⟨rfl, rfl⟩ h3

/-- The rails of a window without a result take the measurements (R75). -/
def substRails (s : State) : State :=
  rails4.foldl (fun t k => setB (setB (setS t (EST.RAIL_I.CURRENT k) ((railMeas s).getD k 0)) (EST.RAIL_I.STALE k) s.sns.stale)
    (EST.RAIL_I.SUBST k) true) s

/-- The marks of a substituted window (R75). -/
def substMarks (s u : State) : State :=
  setSat (setB u EST.CAL_STATUS.SUBST true) EST.CAL_STATUS.SUBST_RUN (getF s EST.CAL_STATUS.SUBST_RUN + 1)

/-- A substituted window before what follows its end. -/
def substEnd (s u : State) : State :=
  setEst { u.est with ests := railMeas s :: u.est.ests, owed := false, subst10 := true, results := 0 } u

def substTaken (s : State) : State := substEnd s (substMarks s (substRails s))

theorem substMarks_sta (s u : State) : (substMarks s u).sta = u.sta := rfl

theorem windowSubst_eq {s : State} (h : s.est.owed = true) : windowSubst s = windowAfter true (substTaken s) := by
  unfold windowSubst
  rw [h]
  rfl

/-- What a substituted window shows of a rail. -/
def SubstShown (a : State) (k : Nat) (t : State) : Prop :=
  getB t (EST.RAIL_I.SUBST k) = true ∧ getB t (EST.RAIL_I.STALE k) = a.sns.stale ∧
    getF t (EST.RAIL_I.CURRENT k) = ux 20 (getS a (SNS.RAIL_I_1US.CURRENT k))

theorem rail_keys (k : Nat) : (EST.RAIL_I.CURRENT k).key = 0x20020 * 32 + 128 * k ∧ (EST.RAIL_I.STALE k).key = 0x20020 * 32 + 128 * k + 30 ∧
    (EST.RAIL_I.SUBST k).key = 0x20020 * 32 + 128 * k + 31 := by
  simp only [EST.RAIL_I.CURRENT, EST.RAIL_I.STALE, EST.RAIL_I.SUBST, fld]; omega

theorem SubstShown.of_fields {a t u : State} {k : Nat} (h : SubstShown a k t)
    (hf : ∀ f : Fld, f.key ∈ [(EST.RAIL_I.CURRENT k).key, (EST.RAIL_I.STALE k).key, (EST.RAIL_I.SUBST k).key] → getF u f = getF t f) :
    SubstShown a k u := by
  obtain ⟨h1, h2, h3⟩ := h
  exact ⟨(getB_congr (hf _ (by simp))).trans h1, (getB_congr (hf _ (by simp))).trans h2, (hf _ (by simp)).trans h3⟩

theorem ux_lt (w : Nat) (i : Int) : ux w i < 2 ^ w := by
  have h0 : (0 : Int) < 2 ^ w := by positivity
  have h1 := Int.emod_lt_of_pos i h0
  have h2 := Int.emod_nonneg i h0.ne'
  have h3 : ((2 ^ w : Nat) : Int) = 2 ^ w := by push_cast; rfl
  unfold ux
  omega

theorem railMeas_getD (s : State) {k : Nat} (hk : k < 4) : (railMeas s).getD k 0 = getS s (SNS.RAIL_I_1US.CURRENT k) := by
  match k, hk with
  | 0, _ | 1, _ | 2, _ | 3, _ => rfl

/-- The rails of a substituted window, one after the other: a rail keeps what the turns after it leave. -/
theorem substRails_shown (a : State) (N : Nat) (hN : N ≤ 4) :
    ((List.range N).foldl (fun t k => setB (setB (setS t (EST.RAIL_I.CURRENT k) ((railMeas a).getD k 0)) (EST.RAIL_I.STALE k)
      a.sns.stale) (EST.RAIL_I.SUBST k) true) a).sta = a.sta ∧ ∀ k < N, SubstShown a k ((List.range N).foldl (fun t k =>
        setB (setB (setS t (EST.RAIL_I.CURRENT k) ((railMeas a).getD k 0)) (EST.RAIL_I.STALE k) a.sns.stale) (EST.RAIL_I.SUBST k) true) a) := by
  have hk := rail_keys
  refine range_fold (I := fun _ t => t.sta = a.sta) (P := SubstShown a) N rfl fun n hn t ht => ⟨ht, ⟨?_, ?_, ?_⟩, fun m hm hs => ?_⟩
  · exact getB_setB_self (setB (setS t (EST.RAIL_I.CURRENT n) _) (EST.RAIL_I.STALE n) _) (EST.RAIL_I.SUBST n) true rfl
  · exact (getB_setB_ne _ _ (by have := hk n; omega)).trans (getB_setB_self (setS t (EST.RAIL_I.CURRENT n) _) (EST.RAIL_I.STALE n) _ rfl)
  · rw [getF_setB_ne _ _ (by have := hk n; omega), getF_setB_ne _ _ (by have := hk n; omega), railMeas_getD a (by omega)]
    exact (getF_setF_self ..).trans (Nat.mod_eq_of_lt (ux_lt 20 _))
  · refine hs.of_fields fun f hf => ?_
    have := hk n; have := hk m
    simp only [List.mem_cons, List.not_mem_nil, or_false] at hf
    rw [getF_setB_ne _ _ (by omega), getF_setB_ne _ _ (by omega), getF_setS_ne _ _ (by omega)]

theorem rails4_eq : rails4 = List.range 4 := rfl

theorem substRails_all (a : State) : (substRails a).sta = a.sta ∧ ∀ k < 4, SubstShown a k (substRails a) := by
  unfold substRails
  rw [rails4_eq]
  exact substRails_shown a 4 (Nat.le_refl _)

/-- The marks of a substituted window leave its rails. -/
theorem substMarks_shown {a u : State} (s : State) (hs : ∀ k < 4, SubstShown a k u) : getB (substMarks s u) EST.CAL_STATUS.SUBST = true ∧
    ∀ k < 4, SubstShown a k (substMarks s u) := by
  unfold substMarks
  refine ⟨(getB_setF_ne _ _ (by decide)).trans (getB_setB_self u EST.CAL_STATUS.SUBST true rfl), fun k hlt => (hs k hlt).of_fields fun f hf => ?_⟩
  have hne : f.key ≠ EST.CAL_STATUS.SUBST_RUN.key ∧ f.key ≠ EST.CAL_STATUS.SUBST.key := by
    have := rail_keys k
    simp only [List.mem_cons, List.not_mem_nil, or_false] at hf
    simp only [EST.CAL_STATUS.SUBST_RUN, EST.CAL_STATUS.SUBST, fld]
    omega
  exact (getF_setSat_ne _ _ hne.1).trans (getF_setB_ne _ _ hne.2)

theorem substEnd_shown {a u : State} (s : State) (hsta : u.sta = a.sta) (hm : getB u EST.CAL_STATUS.SUBST = true)
    (hs : ∀ k < 4, SubstShown a k u) : (substEnd s u).sta = a.sta ∧ getB (substEnd s u) EST.CAL_STATUS.SUBST = true ∧
      ∀ k < 4, SubstShown a k (substEnd s u) := by
  unfold substEnd
  exact ⟨hsta, hm, fun k hk => (hs k hk).of_fields fun f _ => rfl⟩

theorem substTaken_shown (a : State) : (substTaken a).sta = a.sta ∧ getB (substTaken a) EST.CAL_STATUS.SUBST = true ∧
    ∀ k < 4, SubstShown a k (substTaken a) := by
  obtain ⟨hsta, hs⟩ := substRails_all a
  obtain ⟨h1, h2⟩ := substMarks_shown a hs
  exact substEnd_shown a ((substMarks_sta a _).trans hsta) h1 h2

/-- A window without a result, as the statements after it find it (R75). -/
theorem windowSubst_shown {a : State} (hn : noEnd a) (h : a.est.owed = true) :
    (settle (windowSubst a)).est.owed = false ∧ (settle (windowSubst a)).est.results = 0 ∧
      getB (settle (windowSubst a)) EST.CAL_STATUS.SUBST = true ∧ ∀ k < 4, SubstShown a k (settle (windowSubst a)) := by
  obtain ⟨hsta, hsub, hs⟩ := substTaken_shown a
  have hest : (substTaken a).est.owed = false ∧ (substTaken a).est.results = 0 := ⟨rfl, rfl⟩
  rw [windowSubst_eq h]
  generalize substTaken a = u at hsta hsub hs hest ⊢
  have hg := windowAfter_agree (L := [.msgs, .waits, .est, .psq, .drg, .pxe]) (lo := 0) true (.self _) (Nat.zero_le _) (.refl _ _ u)
  have hb : Between 0x400300 0x400600 u (windowAfter true u) := windowAfter_between true (by unfold Outside; decide) (by decide) (Between.refl _ _ u)
  obtain ⟨ho, hr⟩ := windowAfter_owed true u
  generalize windowAfter true u = v at hg hb ho hr ⊢
  have hv : noEnd v := hg.noEnd (noEnd_congr hn hsta) (by decide)
  have hf : ∀ f : Fld, 0x400300 ≤ f.key → f.key < 0x400600 → getF (settle v) f = getF u f := fun f h1 h2 =>
    (getF_settle v hv (h2.trans (by decide)).ne).trans (hb f h1 h2)
  rw [settle_of_noEnd hv, watches_est, ← settle_of_noEnd hv]
  refine ⟨ho.trans hest.1, hr.trans hest.2, (getB_congr (hf _ (by decide) (by decide))).trans hsub, fun k hk => (hs k hk).of_fields fun f hm => ?_⟩
  have := rail_keys k
  simp only [List.mem_cons, List.not_mem_nil, or_false] at hm
  exact hf f (by omega) (by omega)

/-! ### A calibration round -/

/-- With fewer than ten usable windows a rail's fit stays (R78). -/
theorem calRail_few {shadow : Bool} {k : Nat} {s : State} (h : (s.est.calWins.filter (fun w => bit w.ok k)).length < 10) : calRail shadow k s = s := by
  unfold calRail
  dsimp only
  exact if_pos h

/-- The shadow fit waits for no boundary (R80). -/
theorem calRail_shadow_waits (k : Nat) (s : State) : waitingSame s (calRail true k s) := by
  have h0 : ∀ u : State, u.landing = s.landing → u.pend = s.pend → u.frozen = s.frozen → u.held = s.held → u.acts = s.acts → waitingSame s u :=
    fun u h1 h2 h3 h4 h5 => ⟨h1, h2, h3, h4, h5⟩
  unfold calRail
  extract_lets use g0 o0 cov lam f0 f b cv e run e1 s1 s2
  split
  · exact h0 _ rfl rfl rfl rfl rfl
  · split
    · exact waitingSame_sendFault.2 (h0 _ rfl rfl rfl rfl rfl)
    · have h1 : waitingSame s s1 := by
        show waitingSame s (if _ then _ else _)
        split <;> exact h0 _ rfl rfl rfl rfl rfl
      exact h1

theorem waitingSame_trans {a t u : State} (h : waitingSame a t) (h2 : waitingSame t u) : waitingSame a u := by
  obtain ⟨a1, a2, a3, a4, a5⟩ := h
  obtain ⟨b1, b2, b3, b4, b5⟩ := h2
  exact ⟨b1.trans a1, b2.trans a2, b3.trans a3, b4.trans a4, b5.trans a5⟩

/-- A calibration round that is due, by what its fits leave. -/
theorem calRound_eq {a : State} {t0 : Nat} (h : a.est.calDue = some t0) (ht : a.time.ticks ≤ t0 + ms 1) : calRound a =
    (fun s1 : State => setEst { s1.est with calDue := none, calWins := [] } s1)
      (if !getB a EST.CTRL.CAL_EN then a
       else if trustSt a = 0 then rails4.foldl (fun t k => calRail false k t) (setF a EST.CAL_STATUS.UPDATES (getF a EST.CAL_STATUS.UPDATES + 1))
       else if trustSt a = 1 then rails4.foldl (fun t k => calRail true k t) a else a) := by
  unfold calRound
  rw [h]
  exact if_neg (by omega)

/-- The fits of a round, over all rails. -/
theorem calRails_shown (shadow : Bool) (u : State) :
    noEnd u → noEnd (rails4.foldl (fun t k => calRail shadow k t) u) ∧
      getF (rails4.foldl (fun t k => calRail shadow k t) u) EST.CAL_STATUS.UPDATES = getF u EST.CAL_STATUS.UPDATES := fun hn => by
  have hg : Agree [.msgs, .waits, .est] 0 u (rails4.foldl (fun t k => calRail shadow k t) u) :=
    foldl_agree (fun t k ht => calRail_agree shadow k (.self _) (Nat.zero_le _) ht) (.refl ..)
  have hb : Between 0x400310 0x400311 u (rails4.foldl (fun t k => calRail shadow k t) u) :=
    foldl_between (fun t k ht => calRail_between shadow k (by unfold Outside; decide) (by decide) ht) (Between.refl _ _ u)
  exact ⟨hg.noEnd hn (by decide), hb _ (by decide) (by decide)⟩

theorem estCmd_ownReg : OwnReg 0x2000C := ⟨rfl, by decide +kernel, by decide +kernel, by decide +kernel, fun _ => notIts_false rfl rfl rfl rfl⟩

end Sys2Proof.Machine

open Sys2Proof Sys2Proof.Machine

/-- Settles O25: the substituted window, the calibration round by its trust state, the clamp's fault, and the two commands. -/
theorem estimatesAreSubstitutedAndCalibrated : Obligations.EstimatesAreSubstitutedAndCalibrated := by
  unfold Obligations.EstimatesAreSubstitutedAndCalibrated
  intro dt s a ha
  have hn : noEnd a := ha ▸ noEnd_advance dt s
  refine ⟨fun ht ho => ?_, fun h => ?_, fun t0 hdue ht => ⟨fun h => ?_, fun hen hst => ?_, fun hen hst => ?_⟩, fun h => ?_, fun t0 hdue ht => ?_,
    fun k hk hrun hs hr => ?_, fun k hk h => ?_, fun agent hmay => ⟨?_, ?_⟩⟩
  · exact answers_eq ha (exec_estWindowSubstituted ..) rfl (if_pos ht) (windowSubst_shown hn ho)
  · refine answers_untouched ha (exec_estWindowSubstituted ..) rfl ?_
    split
    · next ht =>
      unfold windowSubst
      rw [h.resolve_right (by omega)]
      rfl
    · rfl
  · refine answers_eq ha (exec_calRound ..) rfl (calRound_eq hdue ht) ?_
    have he : (if !getB a EST.CTRL.CAL_EN then a
       else if trustSt a = 0 then rails4.foldl (fun t k => calRail false k t) (setF a EST.CAL_STATUS.UPDATES (getF a EST.CAL_STATUS.UPDATES + 1))
       else if trustSt a = 1 then rails4.foldl (fun t k => calRail true k t) a else a) = a := by
      rcases h with h | h
      · rw [h]; rfl
      · rw [if_neg (by omega : ¬trustSt a = 0), if_neg (by omega : ¬trustSt a = 1)]
        split <;> rfl
    rw [he]
    have hx : noEnd (setEst { a.est with calDue := none, calWins := [] } a) := hn
    refine ⟨?_, (waitingSame_settle hx).2 ⟨rfl, rfl, rfl, rfl, rfl⟩, fieldsBut_settle hx fun f _ _ => rfl⟩
    rw [settle_of_noEnd hx, watches_est]
    rfl
  · refine answers_eq ha (exec_calRound ..) rfl (calRound_eq hdue ht) ?_
    rw [hen, if_neg (by decide), if_pos hst]
    have hself : getF (setF a EST.CAL_STATUS.UPDATES (getF a EST.CAL_STATUS.UPDATES + 1)) EST.CAL_STATUS.UPDATES =
        (getF a EST.CAL_STATUS.UPDATES + 1) % 2 ^ EST.CAL_STATUS.UPDATES.w := getF_setF_self ..
    have hfew : (∀ k < 4, (a.est.calWins.filter (fun w => bit w.ok k)).length < 10) → rails4.foldl (fun t k => calRail false k t)
        (setF a EST.CAL_STATUS.UPDATES (getF a EST.CAL_STATUS.UPDATES + 1)) = setF a EST.CAL_STATUS.UPDATES (getF a EST.CAL_STATUS.UPDATES + 1) :=
      fun h => by
        have h2 : ∀ k < 4, calRail false k (setF a EST.CAL_STATUS.UPDATES (getF a EST.CAL_STATUS.UPDATES + 1)) =
            setF a EST.CAL_STATUS.UPDATES (getF a EST.CAL_STATUS.UPDATES + 1) := fun k hk => calRail_few (h k hk)
        simp only [rails4, List.foldl_cons, List.foldl_nil]
        rw [h2 0 (by decide), h2 1 (by decide), h2 2 (by decide), h2 3 (by decide)]
    obtain ⟨hnu, hup⟩ := calRails_shown false (setF a EST.CAL_STATUS.UPDATES (getF a EST.CAL_STATUS.UPDATES + 1)) hn
    generalize rails4.foldl (fun t k => calRail false k t) (setF a EST.CAL_STATUS.UPDATES (getF a EST.CAL_STATUS.UPDATES + 1)) = u at hfew hnu hup ⊢
    have hx : noEnd (setEst { u.est with calDue := none, calWins := [] } u) := hnu
    have hest : (settle (setEst { u.est with calDue := none, calWins := [] } u)).est = { u.est with calDue := none, calWins := [] } := by
      rw [settle_of_noEnd hx, watches_est]
      rfl
    dsimp only
    rw [hest]
    refine ⟨rfl, rfl, (getF_settle _ hx (by decide)).trans (hup.trans hself), fun h => ?_⟩
    have hu := hfew h
    refine ⟨(waitingSame_settle hx).2 ?_, ?_, fieldsBut_settle hx ?_⟩
    · rw [hu]
      exact ⟨rfl, rfl, rfl, rfl, rfl⟩
    · rw [settle_of_noEnd hx, watches_inbox, hu]
      rfl
    · rw [hu]
      exact fieldsBut_setF (List.mem_singleton_self _) fun f _ _ => rfl
  · refine answers_eq ha (exec_calRound ..) rfl (calRound_eq hdue ht) ?_
    rw [hen, if_neg (by decide), if_neg (by omega : ¬trustSt a = 0), if_pos hst]
    have hw : waitingSame a (rails4.foldl (fun t k => calRail true k t) a) :=
      List.foldlRecOn (motive := waitingSame a) _ _ ⟨rfl, rfl, rfl, rfl, rfl⟩ fun t ht k _ => waitingSame_trans ht (calRail_shadow_waits k t)
    obtain ⟨hnu, hup⟩ := calRails_shown true a hn
    generalize rails4.foldl (fun t k => calRail true k t) a = u at hw hnu hup ⊢
    have hx : noEnd (setEst { u.est with calDue := none, calWins := [] } u) := hnu
    have hest : (settle (setEst { u.est with calDue := none, calWins := [] } u)).est = { u.est with calDue := none, calWins := [] } := by
      rw [settle_of_noEnd hx, watches_est]
      rfl
    dsimp only
    rw [hest]
    exact ⟨rfl, rfl, (waitingSame_settle hx).2 hw, (getF_settle _ hx (by decide)).trans hup⟩
  · refine answers_untouched ha (exec_calRound ..) rfl ?_
    unfold calRound
    rw [h]
  · refine answers_untouched ha (exec_calRound ..) rfl ?_
    unfold calRound
    rw [hdue]
    exact if_pos ht
  · refine answers_eq ha (exec_estCalClamp ..) (by simp [Instr.wf, hk]) (if_neg (by simp only [hs, Bool.false_eq_true, or_false]; omega)) ?_
    obtain ⟨h1, h2, ⟨⟨-, h3, -⟩, -⟩, h4, -⟩ := sent_last (l := []) (u := setEst { a.est with clampSent := insN k a.est.clampSent } a) 0x24 (0x220 + k)
      (aGet 0 a.est.clampGain k) hn rfl rfl hr (fun f _ _ => rfl)
    exact ⟨by rw [h3]; exact mem_insN .., h1, h2, h4⟩
  · exact answers_untouched ha (exec_estCalClamp ..) (by simp [Instr.wf, hk]) (if_pos h)
  · have hx : noEnd (setB a EST.TRUST_STATUS.MISMATCH_LATCH false) := hn
    refine answers_eq ha (exec_estRetry ..) rfl (busWrite_own (t := setB a EST.TRUST_STATUS.MISMATCH_LATCH false) estCmd_ownReg hmay (by decide) rfl) ?_
    have hf := ((FrameBut.refl [EST.TRUST_STATUS.MISMATCH_LATCH] a).setB false (List.mem_singleton_self _)).settle hn
    exact ⟨(getB_settle _ hx (by decide)).trans (getB_setB_self _ _ _ rfl), hf.2.1, hf.1, hf.2.2⟩
  · have hx : noEnd (setEst { a.est with calReset := true } a) := hn
    refine answers_eq ha (exec_estCalReset ..) rfl (busWrite_own (t := setEst { a.est with calReset := true } a) estCmd_ownReg hmay (by decide) rfl) ?_
    refine ⟨?_, fieldsBut_settle hx fun f _ _ => rfl, (waitingSame_settle hx).2 ⟨rfl, rfl, rfl, rfl, rfl⟩⟩
    rw [settle_of_noEnd hx, watches_est]
    rfl
end

section
/-! PROOF. A predictor run that publishes (chapter 04), and the signature entry of a step that has ended. -/

namespace Sys2Proof.Machine

/-- What a field shows after a command that was taken. -/
def shownAfter (i : Instr) (s : State) (f : Fld) : Option Nat :=
  match exec i s with
  | .next t => some (getF t f)
  | _ => none

/-- An answer to a command speaks of the state that the command leaves. -/
theorem Answers.shows {i : Instr} {s : State} {P : State → Prop} {f : Fld} {v : Nat} (h : Answers i s P) (hv : shownAfter i s f = some v) :
    ∃ t, P t ∧ getF t f = v := by
  obtain ⟨t, ht, hp⟩ := h
  refine ⟨t, hp, ?_⟩
  unfold shownAfter at hv
  rw [ht] at hv
  exact Option.some.inj hv

/-- Slot 0 runs an empty program and owes the last window of an ended step its estimates, whose signature's number lies beyond the table: its
word is that of slot 0's RUN_FLAGS. -/
def strayedSignature : State :=
  { State.reset with
    est := { State.reset.est with
      owed := true, shot := some ⟨0, [], [], [], 0, true, false⟩, sgOld := some ⟨[(0, 1000)], [], 1, 0, false, 0xC11⟩ }
    pxe := { State.reset.pxe with run := [(0, 0)] } }

theorem strayedSignature_run : aFind (advance 0 strayedSignature).pxe.run 0 = some 0 ∧ (advance 0 strayedSignature).time.ticks = 0 ∧
    (runProg (advance 0 strayedSignature) 0 1024).bad = [] ∧ (runProg (advance 0 strayedSignature) 0 1024).flags = 0 := by decide +kernel

theorem strayedSignature_flags : shownAfter (.pxePublish 0 0 0) strayedSignature (PXE.RUN_FLAGS.FLAGS 0) = some 62 := by decide +kernel

end Sys2Proof.Machine

open Sys2Proof Sys2Proof.Machine

/-- Refutes O26: a signature whose number lies beyond the table (the statement takes any state) writes slot 0's RUN_FLAGS when its last window's
result comes, so that they are not the run's flags. -/
theorem not_predictorRunsPublishOrFallBack : ¬ Obligations.PredictorRunsPublishOrFallBack := by
  unfold Obligations.PredictorRunsPublishOrFallBack
  intro h
  obtain ⟨-, -, -, -, hrun, -⟩ := h 0 strayedSignature _ rfl
  obtain ⟨hfind, hticks, hbad, hflags⟩ := strayedSignature_run
  obtain ⟨hpub, -⟩ := hrun 0 (by decide) 0 hfind
  obtain ⟨t, ⟨-, -, hshown, -⟩, hv⟩ := (hpub 0 (by rw [hticks]; exact Nat.zero_le _) (by simp [hbad])).shows strayedSignature_flags
  rw [hv, hflags] at hshown
  exact absurd hshown (by decide)
end

section
/-! PROOF. A feed-forward add while its rail soft-starts (chapters 06 and 08). -/

namespace Sys2Proof.Machine

/-- Whether a command is taken and its state passes a test. -/
def passesAfter (i : Instr) (s : State) (p : State → Bool) : Bool :=
  match exec i s with
  | .next t => p t
  | _ => false

/-- An answer to a command speaks of the state whose test was run. -/
theorem Answers.passes {i : Instr} {s : State} {P : State → Prop} {p : State → Bool} (h : Answers i s P) (hv : passesAfter i s p = true) :
    ∃ t, P t ∧ p t = true := by
  obtain ⟨t, ht, hp⟩ := h
  refine ⟨t, hp, ?_⟩
  unfold passesAfter at hv
  rw [ht] at hv
  exact hv

/-- VCORE soft-starts while the plan runs, and its schedule holds an add of one phase that is due. -/
def addInSoftStart : State :=
  setF (setB (setF { State.reset with psq := { State.reset.psq with sched := [⟨0, 0, 1, 0, 0⟩] } } PSQ.STATUS.PLAN_STATE planRunning)
    PSQ.CTRL.PREPOS_EN true) (PHC.RAIL_SEQ.STATE 0) rsSoft

theorem addInSoftStart_due : planState (advance 0 addInSoftStart) = planRunning ∧ getB (advance 0 addInSoftStart) PSQ.CTRL.PREPOS_EN = true ∧
    takeAct (advance 0 addInSoftStart) (fun y => y.kind == 0 && y.rail == 0) = some (⟨0, 0, 1, 0, 0⟩, []) := by decide +kernel

theorem addInSoftStart_runs : railRuns (advance 0 addInSoftStart) 0 = true ∧ railSt (advance 0 addInSoftStart) 0 ≠ rsStop ∧
    1 ≤ availOf (advance 0 addInSoftStart) 0 := by decide +kernel

theorem addInSoftStart_target : passesAfter (.ffAddAction 0 0) addInSoftStart (fun t => (railRec t 0).target == 0) = true := by decide +kernel

end Sys2Proof.Machine

open Sys2Proof Sys2Proof.Machine

/-- Refutes O27: the target of a rail in soft start follows its reaction alone (R198), so that an add raises the plan's floor but not the
rail's target. -/
theorem not_feedForwardActionsExecute : ¬ Obligations.FeedForwardActionsExecute := by
  unfold Obligations.FeedForwardActionsExecute
  intro h
  obtain ⟨-, -, hadd, -⟩ := h 0 addInSoftStart _ rfl
  obtain ⟨hplan, hen, htake⟩ := addInSoftStart_due
  obtain ⟨hrun, hstop, havail⟩ := addInSoftStart_runs
  obtain ⟨t, ⟨-, htarget⟩, hzero⟩ := (hadd 0 (by decide) ⟨0, 0, 1, 0, 0⟩ [] hplan hen htake).passes addInSoftStart_target
  have hone : 1 ≤ (railRec t 0).target := htarget hrun hstop havail
  rw [eq_of_beq hzero] at hone
  exact absurd hone (by decide)
end

section
/-! PROOF. The balance agent's round whose floor does not fit the staged field (chapter 12). -/

namespace Sys2Proof.Machine

/-- A round of the first position whose floor is 4,096 W; the field GRANT has 12 bits. -/
def wideFloorRound : BalRound :=
  { serve := 0, stepB := 0, budget := 0, temp := 0, clamp := 0, roster := 0, late := 0, check := 0, claim := 0, slack := 0, slackStep := 0,
    begun := false, floor := 4096, frames := [], mismatch := false, fired := false, res := 0, decided := false, own := 0, ceil := 0, hops := 0,
    ports := [] }

/-- A job is attached, the balance agent runs, and its round has not begun. -/
def wideFloorState : State :=
  setB (setB (setB (setF (setF { State.reset with bal := { State.reset.bal with round := some wideFloorRound } } FW.STATUS.RUN_STATE 1)
    (FW.COMP_STATUS.STATE 5) 1) BAL.CTRL.BAL_EN true) GLB.BOUNDARY_STATUS.JOB_ATTACHED true) GLB.BOUNDARY_STATUS.LOCAL_BOUNDARIES false

theorem wideFloorState_agent : compOn (advance 0 wideFloorState) 5 = true ∧
    (balAgent (advance 0 wideFloorState)).bal.round = some wideFloorRound := by decide +kernel

theorem wideFloorState_staged : passesAfter (.balRoundBegin 0) wideFloorState
    (fun t => decide (aFind t.pend BAL.GRANT.GRANT.key = some ⟨0, 0, none, false⟩)) = true := by decide +kernel

end Sys2Proof.Machine

open Sys2Proof Sys2Proof.Machine

/-- Refutes O39: the statement takes any round that the module may hold, and one with a floor of 4,096 W stages its floor modulo the field's
12 bits. -/
theorem not_roundsStageTheFloorFirst : ¬ Obligations.RoundsStageTheFloorFirst := by
  unfold Obligations.RoundsStageTheFloorFirst
  intro h
  obtain ⟨-, hbegin, -⟩ := h 0 wideFloorState _ rfl
  obtain ⟨hon, hround⟩ := wideFloorState_agent
  obtain ⟨t, ⟨hgrant, -⟩, hzero⟩ := ((hbegin _ hon rfl).1 wideFloorRound hround rfl rfl (by decide)).passes wideFloorState_staged
  have hwide := (of_decide_eq_true hzero).symm.trans hgrant
  exact absurd hwide (by decide)
end

section
/-! PROOF. A whole update image while a check is outstanding whose packet is not known (chapters 15 and 18). -/

namespace Sys2Proof.Machine

/-- An UPDATE_BLOCK packet whose block of one byte at offset 1 has arrived. -/
def lastByteBlock : OutPkt :=
  { id := 1, ring := 0, seq := 0, irq := false, op := 0x30, tag := 0, step := none, st := 3, writes := [], act := none, items := [], taken := [],
    doneAt := none, status := 0, applied := 0, detail := 0, body := [1, 0, 0, 0, 0, 0, 0, 0, 81, 83, 125, 82], data := [0] }

/-- The transfer that the block completes. -/
def lastByteXfer : Xfer := ⟨[], [(0, 1)], some 2, false⟩

/-- The update manager waits for the last byte of an image of kind 0, and checks another of kind 2 for no packet. -/
def unnamedCheckState : State :=
  setF (setF (setF
    { State.reset with
      upd := { State.reset.upd with check := [(2, 0)] }
      cmd := { State.reset.cmd with pkts := [lastByteBlock], nextId := 2, xfers := [(16, lastByteXfer)] } }
    FW.STATUS.RUN_STATE 1) (FW.COMP_STATUS.STATE 1) 1) (FW.COMP_STATUS.STATE 2) 1

theorem unnamedCheckState_waitingOk : waitingOk (advance 0 unnamedCheckState) := by unfold waitingOk; decide +kernel

theorem unnamedCheckState_arrived :
    (advance 0 unnamedCheckState).cmd.pkts.find? (fun x => x.ring == 0 && x.op == 0x30 && x.st == 3) = some lastByteBlock ∧
    compOn (advance 0 unnamedCheckState) 1 = true ∧ compOn (advance 0 unnamedCheckState) 2 = true ∧
    xferOf (advance 0 unnamedCheckState) 16 = some lastByteXfer ∧ (advance 0 unnamedCheckState).upd.check = [(2, 0)] := by decide +kernel

theorem lastByteBlock_crc : crc32c lastByteBlock.data = ofLE ((lastByteBlock.body.drop 8).take 4) := by decide +kernel

theorem unnamedCheckState_checks : passesAfter (.updateBlock 0 0 false false) unnamedCheckState
    (fun t => decide (t.upd.check = [(2, 1), (0, 1)])) = true := by decide +kernel

end Sys2Proof.Machine

open Sys2Proof Sys2Proof.Machine

/-- Refutes O54: the statement takes any list of checks under way, and one that stands there for no packet (identity 0) is given the identity
of the block that completes an image of another kind. -/
theorem not_blocksAreTakenInParts : ¬ Obligations.BlocksAreTakenInParts := by
  unfold Obligations.BlocksAreTakenInParts
  intro h
  obtain ⟨-, -, htaken⟩ := h 0 0 0x30 false false unnamedCheckState _ _ rfl (by decide) unnamedCheckState_waitingOk rfl (.inr (.inr rfl))
  obtain ⟨harr, hon, hupd, hxfer, hcheck⟩ := unnamedCheckState_arrived
  obtain ⟨-, hsound⟩ := htaken lastByteBlock 1 1 0 16 2 harr hon hupd (by decide) rfl rfl (by decide) (fun _ => by decide) rfl rfl
  obtain ⟨-, hmore, -⟩ := hsound lastByteBlock_crc
  obtain ⟨-, -, hwhole⟩ := hmore lastByteXfer [(0, 2)] (by decide) hxfer (by decide)
  obtain ⟨t, ⟨-, -, -, hlast⟩, hnow⟩ := (hwhole 2 rfl rfl (by decide) (by decide)).passes unnamedCheckState_checks
  obtain ⟨happended, -⟩ := hlast rfl (by rw [hcheck]; decide)
  rw [of_decide_eq_true hnow, hcheck] at happended
  exact absurd happended (by decide)
end

section
/-! PROOF. A record that completes a packet of a ring whose registers are the recorder's own (chapters 15 and 16). -/

namespace Sys2Proof.Machine

/-- A packet of ring 960, whose words of the register map are those of the event recorder. -/
def recorderRingPacket : OutPkt :=
  { id := 1, ring := 960, seq := 7, irq := false, op := 0, tag := 0, step := none, st := 5, writes := [], act := none, items := [], taken := [],
    doneAt := none, status := 0, applied := 0, detail := 0, body := [], data := [] }

/-- The MARK record that completes it. -/
def markRecord : Arrival := { ticks := 0, plane := 0, grp := 0, isRec := true, code := 0, kind := 5, info := 1, seq := 0, body := [] }

/-- The recorder's next number is 2^32, so that the oldest number's high word, which is the ring's CQ_TAIL, changes with the record. -/
def recorderRingState : State :=
  setW { State.reset with inbox := [markRecord], cmd := { State.reset.cmd with pkts := [recorderRingPacket], nextId := 2 } }
    EVR.NEXT_SEQ_LO.SEQ EVR.NEXT_SEQ_HI.SEQ (2 ^ 32)

theorem recorderRingState_front : (advance 0 recorderRingState).inbox = [markRecord] ∧ (advance 0 recorderRingState).lostRec = 0 ∧
    scrubOn (advance 0 recorderRingState) = false ∧ pktGet (advance 0 recorderRingState) 1 = some recorderRingPacket ∧
    confBody (advance 0 recorderRingState) 5 0 [] = [] := by decide +kernel

/-- Where the statement places the entry, in the state before the command. -/
theorem recorderRingState_place :
    (cqBase (advance 0 recorderRingState) 960 + 16 * getF (advance 0 recorderRingState) (CMD.RING_CQ_TAIL.CQ_TAIL 960)) % 2 ^ 19 = 0 := by
  decide +kernel

theorem recorderRingState_window : passesAfter (.evrRecordPost 0) recorderRingState
    (fun t => decide ((memBytes t.cmd.win 0 16).head? = some 0)) = true := by decide +kernel

end Sys2Proof.Machine

open Sys2Proof Sys2Proof.Machine

/-- Refutes O55: the statement takes a packet of any ring, and the words of ring 960 are the recorder's: the record that completes the packet
has moved its CQ_TAIL (the oldest number's high word) before the entry is written. -/
theorem not_recordsTakeTheirNumbers : ¬ Obligations.RecordsTakeTheirNumbers := by
  unfold Obligations.RecordsTakeTheirNumbers
  intro h
  obtain ⟨hpost, -⟩ := h 0 recorderRingState _ rfl
  obtain ⟨hinbox, hlost, hscrub, hpkt, hbody⟩ := recorderRingState_front
  obtain ⟨-, hrecord⟩ := hpost markRecord [] hinbox rfl hlost
  have hlen := congrArg List.length hbody
  have hfits := hlen.trans_le (Nat.zero_le 248)
  obtain ⟨t, ⟨-, -, hentry, -⟩, hnow⟩ := (hrecord (.inl hscrub) hlen hfits _ _ rfl rfl).passes recorderRingState_window
  obtain ⟨hbytes, -⟩ := hentry recorderRingPacket rfl hpkt
  have hhead := congrArg List.head? hbytes
  rw [show recorderRingPacket.ring = 960 from rfl, recorderRingState_place, of_decide_eq_true hnow] at hhead
  exact absurd hhead (by decide)
end

section
/-! PROOF. A full check that refuses an image, for a packet of a ring whose registers are the update manager's own (chapters 15 and 18). -/

namespace Sys2Proof.Machine

/-- An UPDATE_BLOCK packet of ring 2048, whose words of the register map are those of the update manager. -/
def updateRingPacket : OutPkt :=
  { id := 1, ring := 2048, seq := 7, irq := false, op := 0x30, tag := 0, step := none, st := 5, writes := [], act := none, items := [],
    taken := [], doneAt := none, status := 0, applied := 0, detail := 0, body := [], data := [] }

/-- The update manager receives, which UPD_STATUS shows where ring 2048 has its CQ_BASE, and checks the empty image of kind 0. -/
def updateRingState : State :=
  setF (setF (setF
    { State.reset with
      upd := { State.reset.upd with check := [(0, 1)], slots := aIns State.reset.upd.slots 3 ⟨[], 0⟩ }
      cmd := { State.reset.cmd with pkts := [updateRingPacket], nextId := 2 } }
    FW.STATUS.RUN_STATE 1) UPD.STATUS.STATE 1) (FW.COMP_STATUS.STATE 2) 1

theorem updateRingState_check : compOn (advance 0 updateRingState) 2 = true ∧ (advance 0 updateRingState).upd.check = [(0, 1)] ∧
    imageIn (advance 0 updateRingState) (idleBank (advance 0 updateRingState)) 0 = some ⟨[], 0⟩ ∧
    fullVerdict (advance 0 updateRingState) 0 ⟨[], 0⟩ false false true false = some (0x26, 7) ∧
    pktGet (advance 0 updateRingState) 1 = some updateRingPacket := by decide +kernel

/-- Where the statement places the entry, in the state before the command. -/
theorem updateRingState_place :
    (cqBase (advance 0 updateRingState) 2048 + 16 * getF (advance 0 updateRingState) (CMD.RING_CQ_TAIL.CQ_TAIL 2048)) % 2 ^ 19 = 16 := by
  decide +kernel

theorem updateRingState_window : passesAfter (.updFullCheckDone 0 false false true false 0) updateRingState
    (fun t => decide ((memBytes t.cmd.win 16 16).head? = some 0)) = true := by decide +kernel

end Sys2Proof.Machine

open Sys2Proof Sys2Proof.Machine

/-- Refutes O58: the statement takes a packet of any ring, and the words of ring 2048 are the update manager's: the check that refuses the
image has moved its CQ_BASE (the manager's state) before the entry is written. -/
theorem not_updatesAreCheckedAndTried : ¬ Obligations.UpdatesAreCheckedAndTried := by
  unfold Obligations.UpdatesAreCheckedAndTried
  intro h
  obtain ⟨hcheck, -⟩ := h 0 updateRingState _ rfl
  obtain ⟨hon, hlist, himage, hverdict, hpkt⟩ := updateRingState_check
  obtain ⟨-, -, hjudged⟩ := hcheck false false true false 0 _ rfl (by decide)
  obtain ⟨-, hrefused⟩ := hjudged 0 1 [] ⟨[], 0⟩ hon hlist himage
  obtain ⟨t, ⟨-, -, -, -, -, hentry⟩, hnow⟩ := (hrefused 0x26 7 hverdict).passes updateRingState_window
  obtain ⟨hbytes, -⟩ := hentry updateRingPacket hpkt
  have hhead := congrArg List.head? hbytes
  rw [show updateRingPacket.ring = 2048 from rfl, updateRingState_place, of_decide_eq_true hnow] at hhead
  exact absurd hhead (by decide)
end

section
/-! O40. The judgement of sideband records. -/

namespace Sys2Proof.Machine

/-- A record whose tag fails is counted, and leaves what was accepted (R291). -/
theorem tagFail_shown (p : Nat) (a : State) : (tagFail p a).sta = a.sta ∧ (tagFail p a).bal.queue = a.bal.queue ∧
    (tagFail p a).bal.accepted = a.bal.accepted ∧
    getF (tagFail p a) BAL.SB_STATUS.AUTH_FAIL = min (getF a BAL.SB_STATUS.AUTH_FAIL + 1) 255 := by
  have hcount : getF (incF a BAL.SB_STATUS.AUTH_FAIL) BAL.SB_STATUS.AUTH_FAIL = min (getF a BAL.SB_STATUS.AUTH_FAIL + 1) 255 :=
    getF_incF_self ..
  unfold tagFail
  dsimp only
  split
  · refine ⟨sendFault_sta .., ?_, ?_, (getF_sendFault _ _ _ _ (by decide)).trans hcount⟩
    · rw [sendFault_bal]; rfl
    · rw [sendFault_bal]; rfl
  · exact ⟨rfl, rfl, rfl, hcount⟩

theorem sealOn_bal (p typ origin ctx hops : Nat) (body : List Nat) (u : State) : (sealOn p typ origin ctx hops body u).sta = u.sta ∧
    (sealOn p typ origin ctx hops body u).bal.queue = u.bal.queue ∧ (sealOn p typ origin ctx hops body u).bal.accepted = u.bal.accepted := by
  unfold sealOn
  dsimp only
  split <;> exact ⟨rfl, rfl, rfl⟩

/-- Relaying a frame leaves what has been accepted and what waits for the agent (R278). -/
theorem relay_bal (p origin hops : Nat) (body : List Nat) (u : State) : (relay p origin hops body u).sta = u.sta ∧
    (relay p origin hops body u).bal.queue = u.bal.queue ∧ (relay p origin hops body u).bal.accepted = u.bal.accepted := by
  unfold relay
  dsimp only
  split
  · exact ⟨rfl, rfl, rfl⟩
  · split
    · exact ⟨rfl, rfl, rfl⟩
    · refine List.foldlRecOn (motive := fun t : State => t.sta = u.sta ∧ t.bal.queue = u.bal.queue ∧ t.bal.accepted = u.bal.accepted) _ _
        ⟨rfl, rfl, rfl⟩ fun t ⟨h1, h2, h3⟩ q _ => ?_
      obtain ⟨g1, g2, g3⟩ := sealOn_bal q 2 origin 0 (hops - 1) body t
      exact ⟨g1.trans h1, g2.trans h2, g3.trans h3⟩

/-- The counter of a record lies beyond the last one that was accepted (R291). -/
theorem sidebandReceived_fresh {p : Nat} {hdr body : List Nat} {a : State} (hlive : keyLive a (nth hdr 2 / 64) (nth hdr 1) = true)
    (hcnt : ∀ c, aFind a.bal.accepted (4096 * (nth hdr 2 / 64) + 16 * nth hdr 1 + p) = some c → c < ofLE (hdr.drop 8)) :
    sidebandReceived p hdr body true a = if !reservedZero hdr body then a else
      let s1 := setBal { a.bal with
        accepted := aIns a.bal.accepted (4096 * (nth hdr 2 / 64) + 16 * nth hdr 1 + p) (ofLE (hdr.drop 8)) } a
      if nth hdr 0 = 2 then
        let s2 := relay p (nth hdr 2 % 64) (nth hdr 3) body s1
        setBal { s2.bal with queue := s2.bal.queue ++ [nth hdr 2 % 64 :: body] } s2
      else s1 := by
  unfold sidebandReceived
  dsimp only
  rw [hlive, if_neg (by decide), if_neg (by decide)]
  refine if_neg ?_
  split
  · next c hc => exact fun h => Nat.not_le.2 (hcnt c hc) (of_decide_eq_true h)
  · exact Bool.false_ne_true

end Sys2Proof.Machine

open Sys2Proof Sys2Proof.Machine

/-- Settles O40: each test of a record in turn, and the two ends of time. -/
theorem sidebandRecordsAreJudgedInOrder : Obligations.SidebandRecordsAreJudgedInOrder := by
  unfold Obligations.SidebandRecordsAreJudgedInOrder
  intro dt p s a ha hp
  have hn : noEnd a := ha ▸ noEnd_advance dt s
  refine ⟨fun hdr body ok hwf => ⟨fun h => ?_, fun h hok => ?_, fun h hok hold => ?_, fun h hok hcnt => ⟨fun hz => ?_, fun hz => ?_⟩⟩,
    fun htx hend hr => ?_, fun h => ?_, fun ctx hctx hprev htime => ?_, fun ctx hctx htime => ?_⟩
  · refine answers_untouched ha (exec_sidebandRecordReceived ..) hwf ?_
    unfold sidebandReceived
    dsimp only
    rw [h]
    rfl
  · subst hok
    refine answers_eq ha (exec_sidebandRecordReceived ..) hwf (u := tagFail p a) ?_ ?_
    · unfold sidebandReceived
      dsimp only
      rw [h]
      rfl
    · obtain ⟨h1, h2, h3, h4⟩ := tagFail_shown p a
      have hx : noEnd (tagFail p a) := noEnd_congr hn h1
      rw [settle_bal hx, getF_settle _ hx (by decide)]
      exact ⟨h4, h2, h3⟩
  · subst hok
    obtain ⟨c, hc, hle⟩ := hold
    refine answers_eq ha (exec_sidebandRecordReceived ..) hwf (u := incF a BAL.SB_STATUS.REPLAY) ?_ ?_
    · unfold sidebandReceived
      dsimp only
      rw [h, if_neg (by decide), if_neg (by decide), hc]
      exact if_pos (decide_eq_true hle)
    · have hx : noEnd (incF a BAL.SB_STATUS.REPLAY) := hn
      refine ⟨(getF_settle _ hx (by decide)).trans (getF_incF_self ..), settle_bal hx, fieldsBut_settle hx ?_⟩
      exact fieldsBut_setF (List.mem_singleton_self _) fun f _ _ => rfl
  · subst hok
    exact answers_untouched ha (exec_sidebandRecordReceived ..) hwf ((sidebandReceived_fresh h hcnt).trans (if_pos (by rw [hz]; rfl)))
  · subst hok
    refine answers_eq ha (exec_sidebandRecordReceived ..) hwf ((sidebandReceived_fresh h hcnt).trans (if_neg (by rw [hz]; decide))) ?_
    dsimp only
    generalize hs1 : setBal { a.bal with
      accepted := aIns a.bal.accepted (4096 * (nth hdr 2 / 64) + 16 * nth hdr 1 + p) (ofLE (hdr.drop 8)) } a = s1
    have h1 : s1.sta = a.sta ∧ s1.bal.queue = a.bal.queue ∧
        s1.bal.accepted = aIns a.bal.accepted (4096 * (nth hdr 2 / 64) + 16 * nth hdr 1 + p) (ofLE (hdr.drop 8)) := hs1 ▸ ⟨rfl, rfl, rfl⟩
    obtain ⟨hsta, hqueue, hacc⟩ := h1
    obtain ⟨r1, r2, r3⟩ := relay_bal p (nth hdr 2 % 64) (nth hdr 3) body s1
    split
    · have hx : noEnd (setBal { (relay p (nth hdr 2 % 64) (nth hdr 3) body s1).bal with
          queue := (relay p (nth hdr 2 % 64) (nth hdr 3) body s1).bal.queue ++ [nth hdr 2 % 64 :: body] }
          (relay p (nth hdr 2 % 64) (nth hdr 3) body s1)) := noEnd_congr hn (r1.trans hsta)
      rw [settle_bal hx]
      refine ⟨?_, congrArg (· ++ _) (r2.trans hqueue)⟩
      exact (congrArg (aFind · _) (r3.trans hacc)).trans (aFind_aIns_self ..)
    · have hx : noEnd s1 := noEnd_congr hn hsta
      rw [settle_bal hx]
      exact ⟨(congrArg (aFind · _) hacc).trans (aFind_aIns_self ..), hqueue⟩
  · refine answers_eq ha (exec_sbCounterEnd ..) (by simp [Instr.wf, hp]) (if_pos ⟨htx, by rw [hend]; rfl⟩) ?_
    obtain ⟨h1, -, ⟨-, ⟨-, -, -, -, -, h2⟩, -⟩, h3, -⟩ := sent_last (l := []) (u := setBal { a.bal with ended := insN p a.bal.ended } a) 0x95
      (0x920 + p) p hn rfl rfl hr (fun f _ _ => rfl)
    exact ⟨by rw [h2]; exact mem_insN .., h1, h3⟩
  · exact answers_untouched ha (exec_sbCounterEnd ..) (by simp [Instr.wf, hp]) (if_neg (by rw [h]; simp))
  · have hx : noEnd (setBal { a.bal with prev := aDel a.bal.prev ctx, prevUntil := aDel a.bal.prevUntil ctx } a) := hn
    refine answers_eq ha (exec_sbKeyGraceEnd ..) (by simp [Instr.wf, hctx]) (if_pos (by rw [hprev, decide_eq_true htime]; rfl)) ?_
    exact ⟨settle_bal hx, fieldsBut_settle hx fun f _ _ => rfl⟩
  · exact answers_untouched ha (exec_sbKeyGraceEnd ..) (by simp [Instr.wf, hctx]) (if_neg (by simp only [Bool.and_eq_true, decide_eq_true_eq]; omega))
end

section
/-! SUPPORT. Wide values, and the room that waits at the collector and at the recorder. -/

namespace Sys2Proof.Machine

theorem getW_congr {s t : State} {lo hi : Fld} (hlo : getF t lo = getF s lo) (hhi : getF t hi = getF s hi) : getW t lo hi = getW s lo hi := by
  unfold getW; rw [hlo, hhi]

/-- A wide value reads back, where it fits its two words. -/
theorem getW_setW (s : State) (lo hi : Fld) {v : Nat} (hne : lo.key ≠ hi.key) (hw : lo.w = 32) (hv : v < 2 ^ (32 + hi.w)) :
    getW (setW s lo hi v) lo hi = v := by
  have hhigh : v / 2 ^ 32 < 2 ^ hi.w := Nat.div_lt_of_lt_mul (by rw [← Nat.pow_add]; exact hv)
  unfold getW setW
  rw [getF_setF_self, getF_setF_ne _ _ hne, getF_setF_self, hw, Nat.mod_eq_of_lt hhigh]
  omega

theorem roomRec_congr {s t : State} (h : t.inbox = s.inbox) (hr : roomRec s) : roomRec t := by
  unfold roomRec waitingRecs at hr ⊢; rw [h]; exact hr

theorem roomRec_sendFault {k src i : Nat} {s : State} (h : roomRec s) : roomRec (sendFault k src i s) := by
  unfold roomRec at h ⊢; rw [waitingRecs_sendFault]; exact h

theorem waitingMsgs_event (c : Nat) (l : List Nat) (s : State) : waitingMsgs (event c l s) = waitingMsgs s := by
  unfold event eventP postRec
  split
  · rfl
  · exact (filter_arrive ..).trans (by simp [waitingMsgs, b2n])

theorem roomMsg_event {c : Nat} {l : List Nat} {s : State} (h : roomMsg s) : roomMsg (event c l s) := by
  unfold roomMsg at h ⊢; rw [waitingMsgs_event]; exact h

end Sys2Proof.Machine
end

section
/-! O46. The host's presence. -/

namespace Sys2Proof.Machine

/-- The record that the host stays silent (R335). -/
def absenceNoted (a : State) : State :=
  let s1 := setW (setF a FW.HOST_STATUS.HOST_STATE hostAbsentSt) FW.ABSENT_START_LO.TIME FW.ABSENT_START_HI.TIME a.time.sys
  let s2 := setF (setF (setB s1 FW.ABSENT_SUMMARY.VALID false) FW.ABSENT_COUNTS.STEPS 0) FW.ABSENT_COUNTS.FAULTS 0
  setFw { s2.fw with absentAt := a.time.ticks, absentOwed := true } s2

theorem hostAbsent_eq {a : State} (h : hostState a = hostAttached)
    (ht : a.fw.aliveAt + ms (getC a FW.HOST_CTRL.HOST_TIMEOUT 200 5000) ≤ a.time.ticks) :
    hostAbsent a = if compOn a 0 then absentActions (absenceNoted a) else absenceNoted a := by
  have hno : ¬(hostState a ≠ hostAttached ∨ a.time.ticks < a.fw.aliveAt + ms (getC a FW.HOST_CTRL.HOST_TIMEOUT 200 5000)) := by omega
  unfold hostAbsent
  exact if_neg hno

theorem absenceNoted_shown {a : State} (hsys : a.time.sys < 2 ^ 64) : hostState (absenceNoted a) = hostAbsentSt ∧
    getW (absenceNoted a) FW.ABSENT_START_LO.TIME FW.ABSENT_START_HI.TIME = a.time.sys := by
  constructor
  · unfold hostState absenceNoted setW
    simp (disch := decide) only [getF_setFw, getF_setF_ne, getF_setB_ne, getF_setF_self]
    rfl
  · refine Eq.trans ?_ (getW_setW (setF a FW.HOST_STATUS.HOST_STATE hostAbsentSt) FW.ABSENT_START_LO.TIME FW.ABSENT_START_HI.TIME
      (by decide) rfl hsys)
    unfold absenceNoted
    apply getW_congr <;> simp (disch := decide) only [getF_setFw, getF_setF_ne, getF_setB_ne]

/-- The absence leaves every register field but its own. -/
theorem absenceNoted_rest (a : State) {f : Fld} (hf : f.key ∉ [FW.HOST_STATUS.HOST_STATE.key, FW.ABSENT_START_LO.TIME.key,
    FW.ABSENT_START_HI.TIME.key, FW.ABSENT_SUMMARY.VALID.key, FW.ABSENT_COUNTS.STEPS.key, FW.ABSENT_COUNTS.FAULTS.key]) :
    getF (absenceNoted a) f = getF a f := by
  simp only [List.mem_cons, List.not_mem_nil, or_false, not_or] at hf
  obtain ⟨h1, h2, h3, h4, h5, h6⟩ := hf
  unfold absenceNoted setW
  simp only [getF_setFw, getF_setF_ne _ _ h6, getF_setF_ne _ _ h5, getF_setB_ne _ _ h4, getF_setF_ne _ _ h3, getF_setF_ne _ _ h2, getF_setF_ne _ _ h1]

theorem absenceNoted_units (a : State) : (absenceNoted a).sta = a.sta ∧ (absenceNoted a).psq = a.psq ∧ (absenceNoted a).inbox = a.inbox ∧
    (absenceNoted a).fw = { a.fw with absentAt := a.time.ticks, absentOwed := true } := ⟨rfl, rfl, rfl, rfl⟩

/-- The next GENERATION, the message and the record of an absence (R336). -/
def absenceTold (u : State) : State :=
  let s1 := incGeneration u
  event 0x0B02 (toLE 4 (getF s1 FW.GENERATION.GENERATION)) (sendFault 0xB5 0xB30 (getF s1 FW.GENERATION.GENERATION) s1)

theorem absenceTold_shown (u : State) : (absenceTold u).sta = u.sta ∧ (absenceTold u).psq = u.psq ∧ (absenceTold u).fw = u.fw ∧
    (∀ f : Fld, f.key ∉ [FW.GENERATION.GENERATION.key, FLC.STATUS.QUEUE_OVF.key, EVR.COUNTS.DROPPED.key] →
      getF (absenceTold u) f = getF u f) ∧
    getF (absenceTold u) FW.GENERATION.GENERATION = (getF u FW.GENERATION.GENERATION + 1) % 2 ^ 32 ∧
    (roomRec u → eventWaits 0x0B02 (absenceTold u)) ∧
    (roomMsg u → messageWaits 0xB5 0xB30 (getF (absenceTold u) FW.GENERATION.GENERATION) (absenceTold u)) := by
  have hgen : getF (incGeneration u) FW.GENERATION.GENERATION = (getF u FW.GENERATION.GENERATION + 1) % 2 ^ 32 := getF_setF_self ..
  have hin : (incGeneration u).inbox = u.inbox := rfl
  have hfields : ∀ f : Fld, f.key ≠ FLC.STATUS.QUEUE_OVF.key → f.key ≠ EVR.COUNTS.DROPPED.key →
      getF (absenceTold u) f = getF (incGeneration u) f := fun f h1 h2 => (getF_event _ _ _ h2).trans (getF_sendFault _ _ _ _ h1)
  have hself := hfields FW.GENERATION.GENERATION (by decide) (by decide)
  refine ⟨(event_sta ..).trans (sendFault_sta ..), (event_psq ..).trans (sendFault_psq ..), (event_fw ..).trans (sendFault_fw ..),
    fun f hf => ?_, hself.trans hgen, fun hr => ?_, fun hr => ?_⟩
  · simp only [List.mem_cons, List.not_mem_nil, or_false, not_or] at hf
    obtain ⟨h1, h2, h3⟩ := hf
    exact (hfields f h2 h3).trans (getF_setF_ne _ _ h1)
  · exact eventWaits_event (roomRec_sendFault (roomRec_congr hin hr))
  · rw [hself]
    exact messageWaits_of_sub (messageWaits_sendFault (roomMsg_congr hin hr)) inbox_event

theorem absentActions_eq (u : State) : absentActions u = mirrorStop (setFw { (absenceTold u).fw with absentOwed := false } (absenceTold u)) := rfl

/-- What the main core does about an absence (R336): the next GENERATION, the record, the message, and no mirror. -/
theorem absentActions_shown (u : State) : (absentActions u).sta = u.sta ∧ (absentActions u).psq = u.psq ∧
    (absentActions u).fw = { u.fw with absentOwed := false } ∧
    (∀ f : Fld, f.key ∉ [FW.GENERATION.GENERATION.key, FW.LOG_CTRL.MIRROR_EN.key, FLC.STATUS.QUEUE_OVF.key, EVR.COUNTS.DROPPED.key] →
      getF (absentActions u) f = getF u f) ∧
    getF (absentActions u) FW.GENERATION.GENERATION = (getF u FW.GENERATION.GENERATION + 1) % 2 ^ 32 ∧
    getB (absentActions u) FW.LOG_CTRL.MIRROR_EN = false ∧ (roomRec u → eventWaits 0x0B02 (absentActions u)) ∧
    (roomMsg u → messageWaits 0xB5 0xB30 (getF (absentActions u) FW.GENERATION.GENERATION) (absentActions u)) := by
  obtain ⟨hsta, hpsq, hfw, hf, hgen, hev, hmsg⟩ := absenceTold_shown u
  rw [absentActions_eq]
  generalize absenceTold u = y at *
  have hne : ∀ f : Fld, f.key ≠ FW.LOG_CTRL.MIRROR_EN.key → getF (mirrorStop (setFw { y.fw with absentOwed := false } y)) f = getF y f :=
    fun f h => getF_setB_ne _ _ h
  refine ⟨hsta, hpsq, by rw [← hfw]; rfl, fun f hmem => ?_, (hne _ (by decide)).trans hgen, getB_setB_self _ _ _ rfl, hev, ?_⟩
  · simp only [List.mem_cons, List.not_mem_nil, or_false, not_or] at hmem
    obtain ⟨h1, h2, h3, h4⟩ := hmem
    exact (hne f h2).trans (hf f (by simp [h1, h3, h4]))
  · rw [hne _ (by decide)]
    exact hmsg

theorem hostAlive_ownReg : OwnReg 0xB000C :=
  ⟨rfl, by decide +kernel, by decide +kernel, by decide +kernel, fun _ => notIts_false rfl rfl rfl rfl⟩

theorem hostAttach_ownReg : OwnReg 0xB0014 :=
  ⟨rfl, by decide +kernel, by decide +kernel, by decide +kernel, fun _ => notIts_false rfl rfl rfl rfl⟩

/-- The host's write of HOST_STATUS is its attachment (R337). -/
theorem busWrite_attach {v : Word} {a u : State} {again : Bool} (h : hostAttach v.toNat a = (u, again)) :
    busWrite 1 0xB0014 v.toNat 15 a = if again then ringAll u else u := by
  refine (busWrite_own (t := attachWrite 1 v.toNat a) hostAttach_ownReg rfl v.isLt rfl).trans ?_
  unfold attachWrite
  rw [if_neg (by decide), h]

/-- The host is here. -/
def attached (a : State) : State := setFw { a.fw with aliveAt := a.time.ticks } (setF a FW.HOST_STATUS.HOST_STATE hostAttached)

theorem attached_state (a : State) : hostState (attached a) = hostAttached := by
  unfold hostState attached
  simp only [getF_setFw, getF_setF_self]
  rfl

/-- An attachment after an absence: the state, the summary, and the record (R337). -/
def attachSummed (a : State) : State :=
  setB (setF (setF (attached a) FW.ABSENT_SUMMARY.DURATION (absentMs a)) FW.ABSENT_SUMMARY.PLAN_STATE (getF a PSQ.STATUS.PLAN_STATE))
    FW.ABSENT_SUMMARY.VALID true

theorem attachSummed_shown (a : State) : hostState (attachSummed a) = hostAttached ∧ getB (attachSummed a) FW.ABSENT_SUMMARY.VALID = true ∧
    getF (attachSummed a) FW.ABSENT_SUMMARY.DURATION = absentMs a ∧ getF (attachSummed a) FW.ABSENT_SUMMARY.PLAN_STATE = planState a % 8 := by
  have hms : absentMs a < 2 ^ 24 := by unfold absentMs; omega
  unfold hostState attachSummed
  refine ⟨?_, getB_setB_self _ _ _ rfl, ?_, ?_⟩
  · simp (disch := decide) only [getF_setF_ne, getF_setB_ne]
    exact attached_state a
  · simp (disch := decide) only [getF_setF_ne, getF_setB_ne, getF_setF_self]
    exact Nat.mod_eq_of_lt hms
  · simp (disch := decide) only [getF_setB_ne, getF_setF_self]
    rfl

/-- The record of an attachment after an absence. -/
def attachTold (a : State) : State :=
  event 0x0B03 (toLE 4 (getF a FW.GENERATION.GENERATION) ++ toLE 4 (absentMs a)) (attachSummed a)

section
variable {v : Nat} {a : State} (hbit : bit v 31 = true)
include hbit

theorem hostAttach_mismatch (hgen : v % 65536 ≠ getF a FW.GENERATION.GENERATION % 65536) :
    hostAttach v a = (setB a FW.HOST_STATUS.ATTACH_REJECT true, false) := by
  unfold hostAttach
  rw [hbit, if_neg (by decide), if_pos hgen]

variable (hgen : v % 65536 = getF a FW.GENERATION.GENERATION % 65536)
include hgen

theorem hostAttach_attached (h : hostState a = hostAttached) : hostAttach v a = (a, false) := by
  unfold hostAttach
  rw [hbit, if_neg (by decide), if_neg (not_not.2 hgen), if_pos h]

theorem hostAttach_detached (h : hostState a = hostDetached) : hostAttach v a = (attached a, false) := by
  have hne : hostState a ≠ hostAttached := by rw [h]; decide
  unfold hostAttach
  rw [hbit, if_neg (by decide), if_neg (not_not.2 hgen), if_neg hne]
  exact if_pos h

theorem hostAttach_absent (h : hostState a = hostAbsentSt) : hostAttach v a = (attachTold a, true) := by
  have hne : hostState a ≠ hostAttached := by rw [h]; decide
  have hne2 : hostState a ≠ hostDetached := by rw [h]; decide
  unfold hostAttach
  rw [hbit, if_neg (by decide), if_neg (not_not.2 hgen), if_neg hne]
  exact if_neg hne2

end

end Sys2Proof.Machine

open Sys2Proof Sys2Proof.Machine

/-- Settles O46: the host's two registers by the agent that writes them, the absence with and without a main core that runs. -/
theorem hostAbsenceIsNoticed : Obligations.HostAbsenceIsNoticed := by
  unfold Obligations.HostAbsenceIsNoticed
  intro dt s a ha
  have hn : noEnd a := ha ▸ noEnd_advance dt s
  refine ⟨fun v => ?_, fun agent v hne hmay => ?_, fun hatt ht hsys => ?_, fun h => ?_, fun v hbit => ⟨fun hgen => ?_, fun hgen =>
    ⟨fun hdet => ?_, fun hatt => ?_, fun habs => ?_⟩⟩, fun agent v hmay h => ?_⟩
  · have hx : noEnd (setFw { a.fw with aliveAt := a.time.ticks } a) := hn
    refine answers_eq ha (exec_hostAlive ..) rfl (busWrite_own (t := setFw { a.fw with aliveAt := a.time.ticks } a) hostAlive_ownReg rfl v.isLt rfl) ?_
    exact ⟨settle_fw hx, fieldsBut_settle hx fun f _ _ => rfl⟩
  · refine answers_untouched ha (exec_hostAlive ..) rfl ?_
    have h1 : agent.toNat ≠ 1 := fun h => hne (BitVec.eq_of_toNat_eq h)
    exact (busWrite_own (t := hostAlive agent.toNat a) hostAlive_ownReg hmay v.isLt rfl).trans (if_neg h1)
  · refine answers_eq ha (exec_hostAbsent ..) rfl (hostAbsent_eq hatt ht) ?_
    obtain ⟨hst, hstart⟩ := absenceNoted_shown hsys
    have hnoted : noEnd (absenceNoted a) := noEnd_congr hn (absenceNoted_units a).1
    obtain ⟨nsta, npsq, nin, nfw⟩ := absenceNoted_units a
    have nplan : planState (absenceNoted a) = planState a := absenceNoted_rest a (by decide)
    have ngen : getF (absenceNoted a) FW.GENERATION.GENERATION = getF a FW.GENERATION.GENERATION := absenceNoted_rest a (by decide)
    by_cases hon : compOn a 0 = true
    · rw [if_pos hon]
      obtain ⟨hsta, hpsq, hfw, hf, hgen, hmir, hev, hmsg⟩ := absentActions_shown (absenceNoted a)
      rw [ngen] at hgen
      rw [npsq] at hpsq
      rw [nfw] at hfw
      have hx : noEnd (absentActions (absenceNoted a)) := noEnd_congr hnoted hsta
      generalize hu : absentActions (absenceNoted a) = u at *
      have hset : ∀ f : Fld, f.key ≠ TST.CTRL.OVERRIDE.key → getF (settle u) f = getF u f := fun f hf => getF_settle _ hx hf
      refine ⟨(hset _ (by decide)).trans ((hf _ (by decide)).trans hst),
        (getW_congr ((hset _ (by decide)).trans (hf _ (by decide))) ((hset _ (by decide)).trans (hf _ (by decide)))).trans hstart, ?_,
        (hset _ (by decide)).trans ((hf _ (by decide)).trans nplan), (settle_psq hx).trans hpsq, fun h => absurd h (by rw [hon]; decide), fun _ => ?_⟩
      · rw [settle_fw hx, hfw]
      · rw [settle_fw hx, hset _ (by decide)]
        refine ⟨by rw [hfw], hgen, (getB_settle _ hx (by decide)).trans hmir, fun hr => ?_, fun hr => ?_⟩
        · exact (eventWaits_settle hx).2 (hev (roomRec_congr nin hr))
        · exact (messageWaits_settle hx).2 (hmsg (roomMsg_congr nin hr))
    · rw [if_neg hon]
      have hset : ∀ f : Fld, f.key ≠ TST.CTRL.OVERRIDE.key → getF (settle (absenceNoted a)) f = getF (absenceNoted a) f :=
        fun f hf => getF_settle _ hnoted hf
      refine ⟨(hset _ (by decide)).trans hst, (getW_congr (hset _ (by decide)) (hset _ (by decide))).trans hstart, ?_, (hset _ (by decide)).trans nplan,
        (settle_psq hnoted).trans npsq, fun _ => ?_, fun h => absurd h hon⟩
      · rw [settle_fw hnoted, nfw]
      · rw [settle_fw hnoted, hset _ (by decide), nfw]
        exact ⟨rfl, ngen⟩
  · exact answers_untouched ha (exec_hostAbsent ..) rfl (if_pos h)
  · have hx : noEnd (setB a FW.HOST_STATUS.ATTACH_REJECT true) := hn
    refine answers_eq ha (exec_hostAttach ..) rfl (busWrite_attach (hostAttach_mismatch hbit hgen)) ?_
    rw [if_neg (by decide)]
    have hf := ((FrameBut.refl [FW.HOST_STATUS.ATTACH_REJECT] a).setB true (List.mem_singleton_self _)).settle hn
    exact ⟨(getB_settle _ hx (by decide)).trans (getB_setB_self _ _ _ rfl), (getF_settle _ hx (by decide)).trans (getF_setB_ne _ _ (by decide)),
      hf.2.1, hf.2.2⟩
  · have hx : noEnd (attached a) := hn
    refine answers_eq ha (exec_hostAttach ..) rfl (busWrite_attach (hostAttach_detached hbit hgen hdet)) ?_
    rw [if_neg (by decide)]
    refine ⟨(getF_settle _ hx (by decide)).trans (attached_state a), by rw [settle_fw hx]; rfl, fieldsBut_settle hx ?_⟩
    exact fieldsBut_setF (t := a) (v := hostAttached) (List.mem_singleton_self _) fun f _ _ => rfl
  · refine answers_untouched ha (exec_hostAttach ..) rfl ((busWrite_attach (hostAttach_attached hbit hgen hatt)).trans ?_)
    exact if_neg (by decide)
  · refine answers_eq ha (exec_hostAttach ..) rfl (busWrite_attach (hostAttach_absent hbit hgen habs)) ?_
    rw [if_pos rfl]
    obtain ⟨h1, h2, h3, h4⟩ := attachSummed_shown a
    have hx : noEnd (ringAll (attachTold a)) := noEnd_congr (s := attachSummed a) hn (event_sta ..)
    have hset : ∀ f : Fld, f.key ≠ TST.CTRL.OVERRIDE.key → f.key ≠ EVR.COUNTS.DROPPED.key →
        getF (settle (ringAll (attachTold a))) f = getF (attachSummed a) f :=
      fun f hf he => (getF_settle _ hx hf).trans (getF_event _ _ _ he)
    refine ⟨(hset _ (by decide) (by decide)).trans h1, (getB_congr (hset _ (by decide) (by decide))).trans h2,
      (hset _ (by decide) (by decide)).trans h3, (hset _ (by decide) (by decide)).trans h4, fun hr => (eventWaits_settle hx).2 ?_⟩
    exact eventWaits_event (s := attachSummed a) (roomRec_congr rfl hr)
  · refine answers_untouched ha (exec_hostAttach ..) rfl ?_
    refine (busWrite_own (t := attachWrite agent.toNat v.toNat a) hostAttach_ownReg hmay v.isLt rfl).trans ?_
    unfold attachWrite
    rcases h with h | h
    · exact if_pos fun h1 => h (BitVec.eq_of_toNat_eq h1)
    · split
      · rfl
      · unfold hostAttach
        rw [h]
        rfl
end

section
/-! SUPPORT. An event record at the end of an effect. -/

namespace Sys2Proof.Machine

/-- A record changes nothing but what waits at the recorder, and DROPPED where there is no room. -/
theorem eventP_frame (p c : Nat) (l : List Nat) (s : State) : FrameBut [EVR.COUNTS.DROPPED] s (eventP p c l s) := by
  refine ⟨?_, ?_, fun f hf _ => getF_postRec _ _ _ _ _ _ fun h => hf (List.mem_singleton.2 h)⟩
  · unfold eventP; exact ⟨postRec_landing .., postRec_pend .., postRec_frozen .., postRec_held .., postRec_acts ..⟩
  · simp [eventP, unitsSame, sensingSame, drivingSame, managingSame]

theorem event_frame (c : Nat) (l : List Nat) (s : State) : FrameBut [EVR.COUNTS.DROPPED] s (event c l s) := eventP_frame ..

/-- A message changes nothing but what waits at the collector, where there is room. -/
theorem sendFaultP_frame (p k src i : Nat) {s : State} (hr : roomMsg s) : FrameBut [] s (sendFaultP p k src i s) := by
  have hf : fieldsBut [] s (sendFaultP p k src i s) := by
    unfold sendFaultP
    dsimp only
    rw [if_neg (by unfold roomMsg at hr; omega)]
    exact fun f _ _ => rfl
  exact ⟨by simp [waitingSame], by simp [unitsSame, sensingSame, drivingSame, managingSame], hf⟩

theorem FrameBut.sta {l : List Fld} {a t : State} (h : FrameBut l a t) : t.sta = a.sta := h.2.1.2.1.2.2.2.2.1

theorem FrameBut.trans {l : List Fld} {a t u : State} (h : FrameBut l a t) (h2 : FrameBut l t u) : FrameBut l a u :=
  ⟨waitingSame_trans h.1 h2.1, unitsSame_trans h.2.1 h2.2.1, fieldsBut_trans h.2.2 h2.2.2⟩

theorem FrameBut.mono {l m : List Fld} {a t : State} (h : FrameBut l a t) (hs : ∀ f ∈ l, f ∈ m) : FrameBut m a t :=
  ⟨h.1, h.2.1, fieldsBut_mono h.2.2 hs⟩

theorem waitingMsgs_eventP (p c : Nat) (l : List Nat) (s : State) : waitingMsgs (eventP p c l s) = waitingMsgs s := by
  unfold eventP postRec
  split
  · rfl
  · exact (filter_arrive ..).trans (by simp [waitingMsgs, b2n])

theorem roomMsg_eventP {p c : Nat} {l : List Nat} {s : State} (h : roomMsg s) : roomMsg (eventP p c l s) := by
  unfold roomMsg at h ⊢; rw [waitingMsgs_eventP]; exact h

theorem waitingRecs_sendFaultP (p k src i : Nat) (s : State) : waitingRecs (sendFaultP p k src i s) = waitingRecs s := by
  unfold sendFaultP
  dsimp only
  split
  · rfl
  · exact (filter_arrive ..).trans (by simp [waitingRecs, b2n])

theorem roomRec_sendFaultP {p k src i : Nat} {s : State} (h : roomRec s) : roomRec (sendFaultP p k src i s) := by
  unfold roomRec at h ⊢; rw [waitingRecs_sendFaultP]; exact h

theorem fieldsBut_event {l : List Fld} {c : Nat} {b : List Nat} {s t : State} (hl : EVR.COUNTS.DROPPED ∈ l) (h : fieldsBut l s t) :
    fieldsBut l s (event c b t) := fieldsBut_trans h (fieldsBut_mono (event_frame c b t).2.2 (by simpa using hl))

end Sys2Proof.Machine
end

section
/-! O36. The governor's duty and the thermal limit. -/

namespace Sys2Proof.Machine

/-- The duty's counts after a round: rounds over the cap, and rounds under it (R230, R233). -/
def dutyUp (a : State) : Bool := getF a LGV.STATUS.CAP_STATE == 1 && overCap a
def dutyUnder (a : State) : Bool := decide (a.lgv.pm * 100 < capPw a * relPct a * 4000)
def dutyRounds (a : State) : Nat := max 1 (getF a LGV.DUTY_CTRL.UNMET_ROUNDS)
def dutyMin (a : State) : Nat := getC a LGV.DUTY_CTRL.DUTY_MIN 8 16
def dutyRunOver (a : State) : Nat := if dutyUp a then a.lgv.runOver + 1 else 0
def dutyRunUnder (a : State) : Nat := if !dutyUp a && decide (a.lgv.duty < 16) && dutyUnder a then a.lgv.runUnder + 1 else 0
def dutyLess (a : State) : Bool := decide (dutyRounds a ≤ dutyRunOver a) && decide (dutyMin a < a.lgv.duty)
def dutyMore (a : State) : Bool := decide (dutyRounds a ≤ dutyRunUnder a) && decide (a.lgv.duty < 16)

/-- The governor after a round in which duty throttling is on. -/
def dutyAfter (a : State) : LgvState :=
  { a.lgv with
    msDue := false
    runOver := if dutyLess a then 0 else dutyRunOver a
    runUnder := if dutyMore a then 0 else dutyRunUnder a
    duty := if dutyLess a then a.lgv.duty - 1 else if dutyMore a then a.lgv.duty + 1 else a.lgv.duty
    unattRun := if a.lgv.duty ≤ dutyMin a ∧ overCap a then a.lgv.unattRun + 1 else 0 }

theorem lgvDutyStep_eq {a : State} (hdue : a.lgv.msDue = true) (hruns : dutyRuns a = true) (hen : getB a LGV.CTRL.DUTY_EN = true) :
    lgvDutyStep a = if (dutyAfter a).duty = a.lgv.duty then setLgv (dutyAfter a) a
      else eventP 2 0x0703 [a.lgv.duty, (dutyAfter a).duty] (setLgv (dutyAfter a) a) := by
  unfold lgvDutyStep
  rw [hdue, hruns, hen, if_neg (by decide), if_neg (by decide)]
  rfl

theorem lgvDutyStep_shown {a : State} (hn : noEnd a) (hdue : a.lgv.msDue = true) (hruns : dutyRuns a = true)
    (hen : getB a LGV.CTRL.DUTY_EN = true) : (settle (lgvDutyStep a)).lgv = dutyAfter a ∧ fieldsBut [EVR.COUNTS.DROPPED] a (settle (lgvDutyStep a)) ∧
      (roomRec a → (dutyAfter a).duty ≠ a.lgv.duty → eventWaits 0x0703 (settle (lgvDutyStep a))) := by
  have hset : fieldsBut [EVR.COUNTS.DROPPED] a (setLgv (dutyAfter a) a) := fun f _ _ => rfl
  rw [lgvDutyStep_eq hdue hruns hen]
  generalize dutyAfter a = g at hset ⊢
  have hx : noEnd (setLgv g a) := hn
  split
  · next h => exact ⟨settle_lgv hx, fieldsBut_settle hx hset, fun _ hne => absurd h hne⟩
  · have he := eventP_frame 2 0x0703 [a.lgv.duty, g.duty] (setLgv g a)
    have hy := noEnd_congr hx he.sta
    obtain ⟨-, ⟨-, ⟨-, -, hlgv, -⟩, -⟩, hf⟩ := he
    refine ⟨(settle_lgv hy).trans hlgv, fieldsBut_settle hy (fieldsBut_trans hset hf), fun hr _ => ?_⟩
    exact (eventWaits_settle hy).2 (eventWaits_eventP (roomRec_congr (s := a) rfl hr))

section
variable {a : State}

theorem dutyAfter_less (hup : dutyUp a = true) (hr : dutyRounds a ≤ a.lgv.runOver + 1) (hmin : dutyMin a < a.lgv.duty) :
    (dutyAfter a).duty = a.lgv.duty - 1 ∧ (dutyAfter a).runOver = 0 := by
  have h : dutyLess a = true := by simp [dutyLess, dutyRunOver, hup, hr, hmin]
  simp [dutyAfter, h]

theorem dutyAfter_more (hup : dutyUp a = false) (hunder : dutyUnder a = true) (hd : a.lgv.duty < 16)
    (hr : dutyRounds a ≤ a.lgv.runUnder + 1) : (dutyAfter a).duty = a.lgv.duty + 1 ∧ (dutyAfter a).runUnder = 0 := by
  have hpos : 1 ≤ dutyRounds a := le_max_left ..
  have hless : dutyLess a = false := by simp [dutyLess, dutyRunOver, hup]; omega
  have hmore : dutyMore a = true := by simp [dutyMore, dutyRunUnder, hup, hunder, hd, hr]
  simp [dutyAfter, hless, hmore]

theorem dutyAfter_wait (hup : dutyUp a = true) (hr : a.lgv.runOver + 1 < dutyRounds a) :
    (dutyAfter a).duty = a.lgv.duty ∧ (dutyAfter a).runOver = a.lgv.runOver + 1 := by
  have hless : dutyLess a = false := by simp [dutyLess, dutyRunOver, hup]; omega
  have hmore : dutyMore a = false := by simp [dutyMore, dutyRunUnder, hup]; omega
  have hover : dutyRunOver a = a.lgv.runOver + 1 := by simp [dutyRunOver, hup]
  simp [dutyAfter, hless, hmore, hover]

theorem dutyAfter_calm (hup : dutyUp a = false) (hunder : dutyUnder a = false) :
    (dutyAfter a).duty = a.lgv.duty ∧ (dutyAfter a).runOver = 0 ∧ (dutyAfter a).runUnder = 0 := by
  have hpos : 1 ≤ dutyRounds a := le_max_left ..
  have hover : dutyRunOver a = 0 := by simp [dutyRunOver, hup]
  have hdown : dutyRunUnder a = 0 := by simp [dutyRunUnder, hunder]
  have hless : dutyLess a = false := by simp [dutyLess, hover]; omega
  have hmore : dutyMore a = false := by simp [dutyMore, hdown]; omega
  simp [dutyAfter, hless, hmore, hover, hdown]

end

/-- A new state of the cap, with its record (R231). -/
theorem setCapState_new {v : Nat} {a : State} (h : getF a LGV.STATUS.CAP_STATE ≠ v) (h3 : getF a LGV.STATUS.CAP_STATE ≠ 3) : setCapState v a =
    eventP 2 0x0702 ([getF a LGV.STATUS.CAP_STATE, v] ++ toLE 2 (getF a LGV.EFF_CAP.EFF_CAP)) (setF a LGV.STATUS.CAP_STATE v) := by
  unfold setCapState
  dsimp only
  rw [if_neg h, if_neg h3]

/-- CAP_UNATTAINABLE's information (R247). -/
def unattainableInfo (a : State) : Nat := getF a LGV.EFF_CAP.EFF_CAP + 65536 * ((fdiv a.lgv.pm 128000000).toNat % 65536)

theorem capUnattainable_eq {a : State} (h3 : getF a LGV.STATUS.CAP_STATE ≠ 3) (hmin : a.lgv.duty ≤ dutyMin a)
    (hr : dutyRounds a ≤ a.lgv.unattRun) (hover : overCap a = true) :
    capUnattainable a = sendFaultP 2 0x71 0x710 (unattainableInfo a) (setCapState 3 a) := by
  unfold capUnattainable
  have hall : getF a LGV.STATUS.CAP_STATE ≠ 3 ∧ a.lgv.duty ≤ getC a LGV.DUTY_CTRL.DUTY_MIN 8 16 ∧
      max 1 (getF a LGV.DUTY_CTRL.UNMET_ROUNDS) ≤ a.lgv.unattRun ∧ overCap a = true := ⟨h3, hmin, hr, hover⟩
  exact if_pos hall

/-- THERM_LIM is the thermal manager's own, at an offset of one plain word (R233). -/
theorem busWrite_thermLim {agent v : Nat} {a : State} (hmay : mayWrite a agent 0x70060 = true) (hv : v < 2 ^ 32) :
    busWrite agent 0x70060 v 15 a = thermLimWrite agent v a := by
  have hm : mapped 0x70060 = true := by decide +kernel
  have hl : isLow 0x70060 = false := by decide +kernel
  have hh : isHigh 0x70060 = false := by decide +kernel
  simp only [busWrite, show (0x70060 : Nat) / 4 * 4 = 0x70060 from rfl, hmay, hm, hl, hh, landWord, Nat.mod_eq_of_lt hv]
  by_cases h : notIts agent 0x70060 = true
  · have hne : agent ≠ 0x41 := by
      rintro rfl
      exact absurd h (by decide +kernel)
    simp [h, thermLimWrite, hne]
  · simp [h]
    rfl

theorem thermLimWrite_shown {v : Nat} {a : State} (hn : noEnd a) :
    aFind (settle (thermLimWrite 0x41 v a)).pend LGV.THERM_LIM.LIMIT.key = some ⟨v % 65536, 0, none, false⟩ ∧
      unitsSame a (settle (thermLimWrite 0x41 v a)) ∧ fieldsBut [] a (settle (thermLimWrite 0x41 v a)) := by
  have heq : thermLimWrite 0x41 v a = { a with
      wrote := aIns a.wrote LGV.THERM_LIM.LIMIT.key (v % 65536 % 65536)
      pend := aIns a.pend LGV.THERM_LIM.LIMIT.key ⟨v % 65536 % 65536, 0, none, false⟩ } := by
    unfold thermLimWrite pendPut
    rw [if_pos rfl]
    dsimp only
    rw [if_neg (by simp)]
    rfl
  rw [heq, Nat.mod_mod]
  generalize hu : ({ a with
      wrote := aIns a.wrote LGV.THERM_LIM.LIMIT.key (v % 65536)
      pend := aIns a.pend LGV.THERM_LIM.LIMIT.key ⟨v % 65536, 0, none, false⟩ } : State) = u
  have hx : noEnd u := hu ▸ hn
  refine ⟨?_, (unitsSame_settle hx).2 (hu ▸ unitsSame_refl a), fieldsBut_settle hx (hu ▸ fun f _ _ => rfl)⟩
  rw [settle_pend hx, ← hu]
  exact aFind_aIns_self ..

end Sys2Proof.Machine

open Sys2Proof Sys2Proof.Machine

/-- Settles O36: the counts of a round decide the duty, the cap's last state is told, and the limit's register has one writer. -/
theorem dutyFollowsTheCap : Obligations.DutyFollowsTheCap := by
  unfold Obligations.DutyFollowsTheCap
  intro dt s a ha
  have hn : noEnd a := ha ▸ noEnd_advance dt s
  refine ⟨fun hruns hdue => ⟨fun hen => ?_, fun hen => ?_⟩, fun hruns h3 hmin hrounds hover hr => ?_, fun h => ?_, fun h => ?_, fun v => ?_,
    fun agent v hne hmay => ?_⟩
  · have hx : noEnd (setLgv { a.lgv with msDue := false } a) := hn
    refine answers_eq ha (exec_lgvDutyStep ..) rfl (u := setLgv { a.lgv with msDue := false } a) ?_ ⟨settle_lgv hx, fieldsBut_settle hx fun f _ _ => rfl⟩
    unfold lgvDutyStep
    rw [hdue, hruns, hen, if_neg (by decide), if_pos (by decide)]
  · obtain ⟨hlgv, hf, hev⟩ := lgvDutyStep_shown hn hdue hruns hen
    refine answers_of ha (exec_lgvDutyStep ..) rfl ?_
    rw [hlgv]
    refine ⟨rfl, hf, fun hup hr hmin => ?_, fun hup hunder hd hr => ?_, fun hup hr => dutyAfter_wait hup hr, fun hup hunder => dutyAfter_calm hup hunder⟩
    · obtain ⟨hd, ho⟩ := dutyAfter_less hup hr hmin
      exact ⟨hd, ho, fun hrec => hev hrec (by rw [hd]; omega)⟩
    · obtain ⟨hd2, ho⟩ := dutyAfter_more hup hunder hd hr
      exact ⟨hd2, ho, fun hrec => hev hrec (by rw [hd2]; omega)⟩
  · refine answers_eq ha (exec_capUnattainable ..) rfl ((if_pos hruns).trans (capUnattainable_eq h3 hmin hrounds hover)) ?_
    rw [setCapState_new h3 h3]
    generalize hy : eventP 2 0x0702 ([getF a LGV.STATUS.CAP_STATE, 3] ++ toLE 2 (getF a LGV.EFF_CAP.EFF_CAP)) (setF a LGV.STATUS.CAP_STATE 3) = y
    have hroom : roomMsg y := hy ▸ roomMsg_eventP (roomMsg_congr (s := a) rfl hr)
    have hcap : getF y LGV.STATUS.CAP_STATE = 3 := by
      rw [← hy]
      exact (getF_postRec _ _ _ _ _ _ (by decide)).trans (getF_setF_self ..)
    have hframe : FrameBut [LGV.STATUS.CAP_STATE, EVR.COUNTS.DROPPED] a y :=
      hy ▸ ((FrameBut.refl _ a).setF 3 (by simp)).trans ((eventP_frame ..).mono (by simp))
    have hsent := hframe.trans ((sendFaultP_frame 2 0x71 0x710 (unattainableInfo a) hroom).mono (by simp))
    have hx := hsent.noEnd hn
    refine ⟨(getF_settle _ hx (by decide)).trans ((getF_sendFaultP _ _ _ _ _ (by decide)).trans hcap), ?_, (hsent.settle hn).2.2⟩
    exact (messageWaits_settle hx).2 (messageWaits_sendFaultP hroom)
  · refine answers_untouched ha (exec_lgvDutyStep ..) rfl ?_
    unfold lgvDutyStep
    rcases h with h | h <;> simp [h]
  · refine answers_untouched ha (exec_capUnattainable ..) rfl ?_
    split
    · next hruns =>
      unfold capUnattainable
      refine if_neg fun ⟨h1, h2, h3, h4⟩ => ?_
      rcases h with h | h | h | h | h
      · rw [hruns] at h; cases h
      · exact h1 h
      · omega
      · omega
      · rw [h4] at h; cases h
    · rfl
  · exact answers_eq ha (exec_thermLimWrite ..) rfl (busWrite_thermLim rfl v.isLt) (thermLimWrite_shown hn)
  · exact answers_untouched ha (exec_thermLimWrite ..) rfl
      ((busWrite_thermLim hmay v.isLt).trans (if_neg fun h => hne (BitVec.eq_of_toNat_eq h)))
end

section
/-! SUPPORT. What moving phases and targets leaves as it is (chapter 08). -/

namespace Sys2Proof.Machine

/-- Only phases, their pulses and the rails' records have moved. -/
def PhaseMoves (s t : State) : Prop :=
  ∃ p u f r, t = { s with phc := { s.phc with phases := p, pulses := u, limFrom := f, rails := r } }

namespace PhaseMoves

theorem refl (s : State) : PhaseMoves s s := ⟨_, _, _, _, rfl⟩

theorem trans {s t u : State} (h : PhaseMoves s t) (h2 : PhaseMoves t u) : PhaseMoves s u := by
  obtain ⟨p, v, f, r, rfl⟩ := h
  obtain ⟨p2, v2, f2, r2, rfl⟩ := h2
  exact ⟨p2, v2, f2, r2, rfl⟩

theorem setPhase (s : State) (n : Nat) (x : PhaseSt) : PhaseMoves s (Machine.setPhase s n x) := by
  unfold Machine.setPhase
  dsimp only
  split <;> exact ⟨_, _, _, _, rfl⟩

theorem setRail (s : State) (k : Nat) (x : Rail) : PhaseMoves s (Machine.setRail s k x) := ⟨_, _, _, _, rfl⟩

theorem setPhases {f : State → Nat → PhaseSt} (l : List Nat) (s : State) :
    PhaseMoves s (l.foldl (fun t n => Machine.setPhase t n (f t n)) s) :=
  List.foldlRecOn (motive := PhaseMoves s) _ _ (refl s) fun t ht n _ => ht.trans (setPhase t n _)

theorem bringIn (k : Nat) (s : State) : PhaseMoves s (Machine.bringIn k s) := setPhases (f := fun t _ => .rampIn s.time.ticks) _ s

theorem raiseTarget (k : Nat) (s : State) : PhaseMoves s (Machine.raiseTarget k s) := by
  unfold Machine.raiseTarget
  split
  · exact refl s
  · split
    · exact bringIn k s
    · exact (setRail s k _).trans (bringIn k _)

section
variable {s t : State} (h : PhaseMoves s t)
include h

theorem getF (f : Fld) : Machine.getF t f = Machine.getF s f := by obtain ⟨p, u, g, r, rfl⟩ := h; rfl
theorem sta : t.sta = s.sta := by obtain ⟨p, u, g, r, rfl⟩ := h; rfl
theorem time : t.time = s.time := by obtain ⟨p, u, g, r, rfl⟩ := h; rfl
theorem inbox : t.inbox = s.inbox := by obtain ⟨p, u, g, r, rfl⟩ := h; rfl
theorem phFault : t.phc.phFault = s.phc.phFault := by obtain ⟨p, u, g, r, rfl⟩ := h; rfl
theorem isRetired (n : Nat) : Machine.isRetired t n = Machine.isRetired s n := by obtain ⟨p, u, g, r, rfl⟩ := h; rfl

end

end PhaseMoves

theorem phaseSt_setPhase_self (s : State) (n : Nat) (x : PhaseSt) : phaseSt (setPhase s n x) n = x := by
  unfold setPhase phaseSt
  dsimp only
  split <;> exact aGet_aPut_self ..

theorem phaseSt_setPhase_ne (s : State) {n m : Nat} (x : PhaseSt) (h : m ≠ n) : phaseSt (setPhase s n x) m = phaseSt s m := by
  unfold setPhase phaseSt
  dsimp only
  split <;> exact aGet_aPut_ne _ _ _ _ h

theorem phaseSt_setRail (s : State) (k : Nat) (x : Rail) (n : Nat) : phaseSt (setRail s k x) n = phaseSt s n := rfl

/-- A phase outside the list keeps its state. -/
theorem phaseSt_setPhases {x : PhaseSt} {l : List Nat} {n : Nat} (hn : n ∉ l) (s : State) :
    phaseSt (l.foldl (fun t m => setPhase t m x) s) n = phaseSt s n :=
  List.foldlRecOn (motive := fun t => phaseSt t n = phaseSt s n) _ _ rfl fun t ht m hm =>
    (phaseSt_setPhase_ne t x (ne_of_mem_of_not_mem hm hn).symm).trans ht

/-- Phases that come in are those in Standby. -/
theorem phaseSt_bringIn {k n : Nat} {s : State} (h : phaseSt s n ≠ .standby) : phaseSt (bringIn k s) n = phaseSt s n := by
  refine phaseSt_setPhases (fun hmem => h ?_) s
  exact eq_of_beq (List.mem_filter.1 (List.mem_of_mem_take hmem)).2

theorem phaseSt_raiseTarget {k n : Nat} {s : State} (h : phaseSt s n ≠ .standby) : phaseSt (raiseTarget k s) n = phaseSt s n := by
  unfold raiseTarget
  split
  · rfl
  · split
    · exact phaseSt_bringIn h
    · exact phaseSt_bringIn (s := setRail s k _) h

end Sys2Proof.Machine
end

section
/-! O31. Phases are retired and return. -/

namespace Sys2Proof.Machine

/-- A phase's mark is of the retirement masks, which lie apart from what a message or a record can set. -/
theorem retired_key {n : Nat} (hn : n < 98) : (PHC.RETIRED.RETIRED (n / 32)).key ≠ FLC.STATUS.QUEUE_OVF.key ∧
    (PHC.RETIRED.RETIRED (n / 32)).key ≠ EVR.COUNTS.DROPPED.key := by
  simp only [PHC.RETIRED.RETIRED, FLC.STATUS.QUEUE_OVF, EVR.COUNTS.DROPPED, fld]; omega

theorem isRetired_sendFault {k src i n : Nat} (hn : n < 98) (s : State) : isRetired (sendFault k src i s) n = isRetired s n := by
  unfold isRetired; rw [getF_sendFault _ _ _ _ (retired_key hn).1]

/-- The faults of a retirement leave the unit, and every message that waits. -/
theorem capacityFaults_frame (k before : Nat) (s : State) : (capacityFaults k before s).phc = s.phc ∧ (capacityFaults k before s).sta = s.sta ∧
    (∀ f : Fld, f.key ≠ FLC.STATUS.QUEUE_OVF.key → getF (capacityFaults k before s) f = getF s f) ∧
    ∀ x ∈ s.inbox, x ∈ (capacityFaults k before s).inbox := by
  unfold capacityFaults
  dsimp only
  split <;> split
  · refine ⟨by simp, by simp, fun f hf => ?_, fun x hx => inbox_sendFault x (inbox_sendFault x hx)⟩
    exact (getF_sendFault _ _ _ _ hf).trans (getF_sendFault _ _ _ _ hf)
  · exact ⟨by simp, by simp, fun f hf => getF_sendFault _ _ _ _ hf, inbox_sendFault⟩
  · exact ⟨by simp, by simp, fun f hf => getF_sendFault _ _ _ _ hf, inbox_sendFault⟩
  · exact ⟨rfl, rfl, fun _ _ => rfl, fun _ h => h⟩

/-- What a retirement at once brings about (R207). -/
structure RetiredNow (n : Nat) (s t : State) : Prop where
  sta : t.sta = s.sta
  phase : phaseSt t n = .retired
  mark : isRetired t n = true
  phFault : t.phc.phFault = s.phc.phFault
  inbox : ∀ x ∈ s.inbox, x ∈ t.inbox

theorem markRetired_shown {n : Nat} (hn : n < 98) (cause : Nat) (s : State) : (markRetired n cause s).sta = s.sta ∧
    (markRetired n cause s).phc = s.phc ∧ isRetired (markRetired n cause s) n = true ∧ ∀ x ∈ s.inbox, x ∈ (markRetired n cause s).inbox := by
  refine ⟨event_sta .., event_phc .., ?_, inbox_event (s := setF s _ _)⟩
  unfold isRetired markRetired
  dsimp only
  rw [getF_event _ _ _ (retired_key hn).2]
  exact bit_setF_setBit s _ (Nat.mod_lt n (by decide))

theorem retireNow_shown {n : Nat} (hn : n < 98) (cause : Nat) {s : State} (h : isRetired s n = false) : RetiredNow n s (retireNow n cause s) := by
  obtain ⟨m1, m2, m3, m4⟩ := markRetired_shown hn cause s
  unfold retireNow
  rw [h, if_neg (by decide)]
  dsimp only
  generalize markRetired n cause s = u at *
  have hp := phaseSt_setPhase_self u n .retired
  have hm := PhaseMoves.setPhase u n .retired
  generalize setPhase u n .retired = v at *
  obtain ⟨c1, c2, c3, c4⟩ := capacityFaults_frame (railOf n) (availOf s (railOf n)) v
  have hret : isRetired (capacityFaults (railOf n) (availOf s (railOf n)) v) n = true := by
    unfold isRetired
    rw [c3 _ (retired_key hn).1]
    exact (hm.isRetired n).trans m3
  have hphase : phaseSt (capacityFaults (railOf n) (availOf s (railOf n)) v) n = .retired := by
    unfold phaseSt at hp ⊢
    rw [c1, hp]
  generalize capacityFaults (railOf n) (availOf s (railOf n)) v = w at *
  have hr := PhaseMoves.raiseTarget (railOf n) w
  refine ⟨hr.sta.trans (c2.trans (hm.sta.trans m1)), (phaseSt_raiseTarget (by rw [hphase]; decide)).trans hphase, (hr.isRetired n).trans hret, ?_, ?_⟩
  · exact hr.phFault.trans ((congrArg PhcState.phFault c1).trans (hm.phFault.trans (congrArg PhcState.phFault m2)))
  · intro x hx
    rw [hr.inbox]
    exact c4 x (hm.inbox ▸ m4 x hx)

/-- A phase whose PH_FAULT is seen (R207). -/
def faultSeen (n : Nat) (s : State) : State := { s with phc := { s.phc with phFault := setBit s.phc.phFault n } }

/-- A driven phase whose PH_FAULT is seen is retired, as before or by the fault. -/
theorem phaseFault_shown {n : Nat} (hn : n < 98) {s : State} (hoff : phaseSt s n ≠ .off) (hret : phaseSt s n ≠ .retired) :
    RetiredNow n (sendFault 0x60 (0x600 + n) (railOf n) (faultSeen n s)) (phaseFault n s) := by
  have hno : ¬(phaseSt s n = .off ∨ phaseSt s n = .retired) := by simp [hoff, hret]
  have he : phaseFault n s = if isRetired s n then setPhase (sendFault 0x60 (0x600 + n) (railOf n) (faultSeen n s)) n .retired
      else retireNow n 1 (sendFault 0x60 (0x600 + n) (railOf n) (faultSeen n s)) := if_neg hno
  have hmark : isRetired (sendFault 0x60 (0x600 + n) (railOf n) (faultSeen n s)) n = isRetired s n := isRetired_sendFault hn _
  rw [he]
  generalize sendFault 0x60 (0x600 + n) (railOf n) (faultSeen n s) = u at hmark ⊢
  split
  · next h =>
    have hm := PhaseMoves.setPhase u n .retired
    refine ⟨hm.sta, phaseSt_setPhase_self .., (hm.isRetired n).trans (hmark.trans h), hm.phFault, fun x hx => ?_⟩
    rw [hm.inbox]
    exact hx
  · next h => exact retireNow_shown hn 1 (hmark.trans (Bool.eq_false_iff.2 h))

/-- A phase's retirement at the boundary is asked for already. -/
def retireAsked (s : State) (n : Nat) : Bool := s.acts.any fun a => match a.kind with | .retire m _ => m == n | _ => false

/-- A retirement at the boundary is asked for (R209). -/
theorem askRetire_eq {n cause : Nat} {s : State} (h : isRetired s n = false)
    (ha : retireAsked s n = false) :
    askRetire n cause s = { s with acts := s.acts ++ [⟨.retire n cause, false, none, 0⟩] } := by
  have hno : ¬(isRetired s n = true ∨ retireAsked s n = true) := by
    rw [h, ha]; decide
  unfold askRetire
  exact if_neg hno

theorem asked_shown {n cause k i : Nat} {a : State} (hn : noEnd a) (hlt : n < 98) (hr : roomMsg a) (h : isRetired a n = false)
    (ha : retireAsked a n = false) :
    messageWaits k (0x600 + n) i (settle (askRetire n cause (sendFault k (0x600 + n) i a))) ∧
      (settle (askRetire n cause (sendFault k (0x600 + n) i a))).acts = a.acts ++ [⟨.retire n cause, false, none, 0⟩] ∧
      unitsSame a (settle (askRetire n cause (sendFault k (0x600 + n) i a))) ∧
      fieldsBut [] a (settle (askRetire n cause (sendFault k (0x600 + n) i a))) := by
  obtain ⟨⟨-, -, -, -, hacts⟩, hunits, hf⟩ : FrameBut [] a (sendFault k (0x600 + n) i a) := sendFaultP_frame _ _ _ _ hr
  have hmsg := messageWaits_sendFault (k := k) (src := 0x600 + n) (i := i) hr
  have hret : isRetired (sendFault k (0x600 + n) i a) n = false := (isRetired_sendFault hlt a).trans h
  have hasked : retireAsked (sendFault k (0x600 + n) i a) n = false := by
    unfold retireAsked at ha ⊢
    rw [hacts]
    exact ha
  rw [askRetire_eq hret hasked]
  generalize sendFault k (0x600 + n) i a = u at *
  have hx : noEnd { u with acts := u.acts ++ [⟨.retire n cause, false, none, 0⟩] } := noEnd_of_unitsSame (t := u) hn hunits
  refine ⟨(messageWaits_settle hx).2 hmsg, by rw [settle_acts hx, hacts], (unitsSame_settle hx).2 hunits, fieldsBut_settle hx hf⟩

/-- A phase that is retired, or asked for, is not asked for again. -/
theorem phaseHot_again {n : Nat} {a : State} (h : isRetired a n = true ∨ retireAsked a n = true) : phaseHot n a = a := by
  unfold phaseHot
  refine if_neg fun ⟨_, h1, h2⟩ => ?_
  have h3 : (!retireAsked a n) = true := h2
  rcases h with h | h
  · rw [h] at h1; exact absurd h1 (by decide)
  · rw [h] at h3; exact absurd h3 (by decide)

theorem phaseImbalance_again {n : Nat} {a : State} (h : isRetired a n = true ∨ retireAsked a n = true) : phaseImbalance n a = a := by
  unfold phaseImbalance
  refine if_neg fun ⟨_, h1, h2⟩ => ?_
  have h3 : (!retireAsked a n) = true := h2
  rcases h with h | h
  · rw [h] at h1; exact absurd h1 (by decide)
  · rw [h] at h3; exact absurd h3 (by decide)

/-- Deferred actions that are asked for one by one. -/
theorem foldl_acts (g : Nat → Act) (l : List Nat) (s : State) :
    l.foldl (fun t b => { t with acts := t.acts ++ [g b] }) s = { s with acts := s.acts ++ l.map g } := by
  induction l generalizing s with
  | nil => simp
  | cons b l ih => rw [List.foldl_cons, ih]; simp

theorem retired_ownReg {w : Nat} (hw : w < 4) : OwnReg (0x60080 + 4 * w) := by
  have h : ∀ w < 4, (0x60080 + 4 * w) / 4 * 4 = 0x60080 + 4 * w ∧ mapped (0x60080 + 4 * w) = true ∧ isLow (0x60080 + 4 * w) = false ∧
      isHigh (0x60080 + 4 * w) = false ∧ hostOnly (0x60080 + 4 * w) = false ∧ ((0x60080 + 4 * w) == 0x70060) = false ∧
      inR (0x60080 + 4 * w) 0x90030 0x9003C = false ∧ inR (0x60080 + 4 * w) 0xC0020 0xC002C = false := by decide +kernel
  obtain ⟨h1, h2, h3, h4, h5, h6, h7, h8⟩ := h w hw
  exact ⟨h1, h2, h3, h4, fun _ => notIts_false h5 h6 h7 h8⟩

theorem ownWrite_retired {agent w v : Nat} {s : State} (hw : w < 4) : ownWrite agent (0x60080 + 4 * w) v s = some (phcRetiredWrite w v s) := by
  have h : ∀ w < 4, (0x60080 + 4 * w) / 0x10000 = 6 ∧ inR (0x60080 + 4 * w) 0x60080 0x60090 = true ∧ (0x60080 + 4 * w - 0x60080) / 4 = w := by decide
  obtain ⟨h1, h2, h3⟩ := h w hw
  unfold ownWrite
  rw [h1]
  simp only [h2, h3, if_true]

end Sys2Proof.Machine

open Sys2Proof Sys2Proof.Machine

/-- Settles O31: a fault retires at once, a hot or unbalanced phase is asked for once, and the masks' writes ask for returns. -/
theorem phasesAreRetiredAndRestored : Obligations.PhasesAreRetiredAndRestored := by
  unfold Obligations.PhasesAreRetiredAndRestored
  intro dt s a ha
  have hn : noEnd a := ha ▸ noEnd_advance dt s
  refine ⟨fun n hlt hoff hret hr => ?_, fun n hlt h => ?_, ⟨fun n hlt hrun hret hasked hr => ?_, fun n hlt hrun hret hasked hr => ?_, fun n hlt h => ⟨?_, ?_⟩⟩,
    fun agent w v hw hmay => ?_⟩
  · refine answers_of ha (exec_phaseFault ..) (by simp [Instr.wf, hlt]) ?_
    obtain ⟨h1, h2, h3, h4, h5⟩ := phaseFault_shown hlt hoff hret
    have hmsg : messageWaits 0x60 (0x600 + n) (railOf n) (sendFault 0x60 (0x600 + n) (railOf n) (faultSeen n a)) :=
      messageWaits_sendFault (roomMsg_congr (s := a) rfl hr)
    have hx : noEnd (phaseFault n a) := noEnd_congr hn (h1.trans (sendFault_sta ..))
    rw [sendFault_phc] at h4
    have hphc : (settle (phaseFault n a)).phc = (phaseFault n a).phc := settle_phc hx
    refine ⟨(messageWaits_settle hx).2 (messageWaits_of_sub hmsg h5), ?_, ?_, ?_⟩
    · unfold phaseSt at h2 ⊢
      rw [hphc, h2]
    · unfold isRetired
      rw [getF_settle _ hx (by simp only [PHC.RETIRED.RETIRED, TST.CTRL.OVERRIDE, fld]; omega)]
      exact h3
    · rw [hphc, h4]
      exact testBit_setBit_self ..
  · have hx : noEnd (faultSeen n a) := hn
    refine answers_eq ha (exec_phaseFault ..) (by simp [Instr.wf, hlt]) (u := faultSeen n a) (if_pos h) ?_
    exact ⟨settle_phc hx, settle_inbox hx, fieldsBut_settle hx fun f _ _ => rfl⟩
  · refine answers_eq ha (exec_phaseHot ..) (by simp [Instr.wf, hlt])
      (u := askRetire n 3 (sendFault 0x61 (0x600 + n) (ux 32 (getS a (HKS.CH.VALUE (0x300 + n)))) a)) ?_ (asked_shown hn hlt hr hret hasked)
    unfold phaseHot
    have h2 : (!retireAsked a n) = true := by rw [show retireAsked a n = false from hasked]; rfl
    exact if_pos ⟨hrun, by rw [hret]; rfl, h2⟩
  · refine answers_eq ha (exec_phaseImbalance ..) (by simp [Instr.wf, hlt])
      (u := askRetire n 4 (sendFault 0x62 (0x600 + n) (ux 32 (aGet 0 a.phc.imbDep n)) a)) ?_ (asked_shown hn hlt hr hret hasked)
    unfold phaseImbalance
    have h2 : (!retireAsked a n) = true := by rw [show retireAsked a n = false from hasked]; rfl
    exact if_pos ⟨hrun, by rw [hret]; rfl, h2⟩
  · exact answers_untouched ha (exec_phaseHot ..) (by simp [Instr.wf, hlt]) (phaseHot_again h)
  · exact answers_untouched ha (exec_phaseImbalance ..) (by simp [Instr.wf, hlt]) (phaseImbalance_again h)
  · refine answers_eq ha (exec_phcRetiredWrite ..) (by simp [Instr.wf, hw]) ((busWrite_own (retired_ownReg hw) hmay v.isLt (ownWrite_retired hw)).trans
      (foldl_acts (fun b => ⟨.restore (32 * w + b), false, none, 0⟩) _ a)) ?_
    generalize hu : ({ a with acts := a.acts ++ ((List.range 32).filter (fun b => bit v.toNat b && decide (32 * w + b < 98) &&
      isRetired a (32 * w + b))).map (fun b => ⟨.restore (32 * w + b), false, none, 0⟩) } : State) = u
    have hx : noEnd u := hu ▸ hn
    refine ⟨fieldsBut_settle hx (hu ▸ fun f _ _ => rfl), (unitsSame_settle hx).2 (hu ▸ unitsSame_refl a), ?_⟩
    rw [settle_acts hx, ← hu]
end

section
/-! O30. The all-phase burst and the limits of the phases. -/

namespace Sys2Proof.Machine

theorem railRec_setRail_self (s : State) (k : Nat) (x : Rail) : railRec (setRail s k x) k = x := aGet_aPut_self ..

theorem railRec_setRail_ne (s : State) {k j : Nat} (x : Rail) (h : j ≠ k) : railRec (setRail s k x) j = railRec s j := aGet_aPut_ne _ _ _ _ h

/-! ### The comparators -/

theorem burstCauseOf_eq (a : State) (p : VcorePoints) : burstCauseOf a p = b2n (tooDeep a p) + 2 * b2n (tooFast a p) := by
  simp only [burstCauseOf, atPoint, tooDeep, tooFast, Bool.and_comm]

theorem burstOver_eq (a : State) (p : VcorePoints) : burstOver a p = recovered a p := by
  simp only [burstOver, atPoint, recovered, tooFast, Bool.and_comm, Bool.not_or, Bool.not_and, Bool.not_not, ← decide_not, Nat.not_le]

/-! ### Aborted sheds -/

/-- Phases of one rail are of no other. -/
theorem railOf_phasesOf : ∀ k < 4, (phasesOf k).all (fun n => railOf n == k) = true := by decide +kernel

theorem phasesOf_disjoint {j k n : Nat} (hj : j < 4) (hk : k < 4) (h : j ≠ k) (hn : n ∈ phasesOf j) : n ∉ phasesOf k := fun hn2 =>
  h ((eq_of_beq (List.all_eq_true.1 (railOf_phasesOf j hj) n hn)).symm.trans (eq_of_beq (List.all_eq_true.1 (railOf_phasesOf k hk) n hn2)))

theorem shedding_congr {s t : State} {k : Nat} (h : ∀ n ∈ phasesOf k, phaseSt t n = phaseSt s n) : shedding t k = shedding s k := by
  unfold shedding
  exact List.filter_congr fun n hn => by rw [h n hn]

/-- What the abort of a rail's sheds leaves, and what it brings about (R201). -/
structure ShedAborted (k : Nat) (s t : State) : Prop where
  sta : t.sta = s.sta
  time : t.time = s.time
  fields : fieldsBut [PHC.RAIL_STATUS.SHED_INH k, PHC.SHED_STATUS.ABORTS, PSQ.STATUS.REPEAT_BROKEN, EVR.COUNTS.DROPPED] s t
  others : ∀ j < 4, j ≠ k → shedding t j = shedding s j ∧ railRec t j = railRec s j
  own : pastSoft s k = true → shedding t k = [] ∧
    (shedding s k ≠ [] → getB t (PHC.RAIL_STATUS.SHED_INH k) = true ∧ (railRec t k).inhUntil = s.time.ticks + ms 1)

theorem repeatBreaks_frame (cause : Nat) (s : State) : (repeatBreaks cause s).sta = s.sta ∧ (repeatBreaks cause s).time = s.time ∧
    (repeatBreaks cause s).phc = s.phc ∧ fieldsBut [PSQ.STATUS.REPEAT_BROKEN, EVR.COUNTS.DROPPED] s (repeatBreaks cause s) := by
  unfold repeatBreaks repeatBroken
  split
  · split
    · exact ⟨event_sta .., event_time .., event_phc .., fieldsBut_event (by simp) (fieldsBut_setB (by simp) (fieldsBut_refl _ s))⟩
    · exact ⟨rfl, rfl, rfl, fieldsBut_refl _ s⟩
  · exact ⟨rfl, rfl, rfl, fieldsBut_refl _ s⟩

/-- The phases that were being shed regulate again. -/
def shedsRegulate (k : Nat) (s : State) : State := (shedding s k).foldl (fun t n => setPhase t n .regulating) s

theorem phaseSt_regulate {l : List Nat} {n : Nat} (hn : n ∈ l) (s : State) :
    phaseSt (l.foldl (fun t m => setPhase t m .regulating) s) n = .regulating := by
  induction l generalizing s with
  | nil => cases hn
  | cons m l ih =>
    rw [List.foldl_cons]
    by_cases h : n ∈ l
    · exact ih h _
    · rw [phaseSt_setPhases h]
      rcases List.mem_cons.1 hn with rfl | h2
      · exact phaseSt_setPhase_self ..
      · exact absurd h2 h

theorem shedding_shedsRegulate (k : Nat) (s : State) : shedding (shedsRegulate k s) k = [] := by
  refine List.filter_eq_nil_iff.2 fun n hn => ?_
  by_cases h : n ∈ shedding s k
  · rw [show phaseSt (shedsRegulate k s) n = .regulating from phaseSt_regulate h s]
    decide
  · rw [show phaseSt (shedsRegulate k s) n = phaseSt s n from phaseSt_setPhases h s]
    exact fun hc => h (List.mem_filter.2 ⟨hn, hc⟩)

/-- A shed of a rail past soft start is aborted: its phases, the inhibit, the count and the record (R201). -/
def shedInhibited (k : Nat) (s : State) : State :=
  incF (setB (setRail (shedsRegulate k s) k { railRec (shedsRegulate k s) k with
    inhUntil := s.time.ticks + ms 1
    target := max (railRec (shedsRegulate k s) k).target (countedOf (shedsRegulate k s) k) }) (PHC.RAIL_STATUS.SHED_INH k) true)
    PHC.SHED_STATUS.ABORTS

/-- The abort before the plan's repetition, and with it. -/
def shedTold (k cause : Nat) (s : State) : State := event 0x0601 [k, cause] (shedInhibited k s)

theorem shedAbort_eq (k cause : Nat) (s : State) : shedAbort k cause s =
    if pastSoft s k = true ∧ shedding s k ≠ [] then
      (if cause = 1 ∧ getB s PSQ.CTRL.PREPOS_EN = true then repeatBreaks 1 (shedTold k cause s) else shedTold k cause s)
    else s := by
  unfold shedAbort
  split
  · next h =>
    rw [if_neg]
    rintro ⟨h1, h2⟩
    rw [if_pos h1] at h
    exact h2 h
  · next h =>
    have hp : pastSoft s k = true := by
      by_contra hc
      exact h (if_neg hc)
    have hboth : pastSoft s k = true ∧ shedding s k ≠ [] := ⟨hp, fun he => h ((if_pos hp).trans he)⟩
    rw [if_pos hp, if_pos hboth]
    rfl

theorem shedInhibited_shown {k : Nat} (hk : k < 4) {s : State} : (shedInhibited k s).sta = s.sta ∧ (shedInhibited k s).time = s.time ∧
    fieldsBut [PHC.RAIL_STATUS.SHED_INH k, PHC.SHED_STATUS.ABORTS, PSQ.STATUS.REPEAT_BROKEN, EVR.COUNTS.DROPPED] s (shedInhibited k s) ∧
    (∀ j < 4, j ≠ k → shedding (shedInhibited k s) j = shedding s j ∧ railRec (shedInhibited k s) j = railRec s j) ∧
    shedding (shedInhibited k s) k = [] ∧ getB (shedInhibited k s) (PHC.RAIL_STATUS.SHED_INH k) = true ∧
    (railRec (shedInhibited k s) k).inhUntil = s.time.ticks + ms 1 := by
  have hempty := shedding_shedsRegulate k s
  have hmoves : PhaseMoves s (shedsRegulate k s) := PhaseMoves.setPhases (f := fun _ _ => .regulating) _ s
  have hothers : ∀ j < 4, j ≠ k → shedding (shedsRegulate k s) j = shedding s j := fun j hj hne => shedding_congr fun n hn =>
    phaseSt_setPhases (fun hm => phasesOf_disjoint hj hk hne hn (List.mem_of_mem_filter hm)) s
  have hrails : (shedsRegulate k s).phc.rails = s.phc.rails :=
    List.foldlRecOn (motive := fun t : State => t.phc.rails = s.phc.rails) _ _ rfl fun t ht n _ => by
      refine Eq.trans ?_ ht
      unfold setPhase
      dsimp only
      split <;> rfl
  unfold shedInhibited
  generalize shedsRegulate k s = u at *
  have hkey : (PHC.RAIL_STATUS.SHED_INH k).key ≠ PHC.SHED_STATUS.ABORTS.key := by
    simp only [PHC.RAIL_STATUS.SHED_INH, PHC.SHED_STATUS.ABORTS, fld]; omega
  refine ⟨hmoves.sta, hmoves.time, ?_, fun j hj hne => ⟨hothers j hj hne, ?_⟩, hempty, (getB_congr (getF_incF_ne _ hkey)).trans
    (getB_setB_self _ _ _ rfl), congrArg Rail.inhUntil (aGet_aPut_self ..)⟩
  · exact fieldsBut_setF (by simp) (fieldsBut_setB (by simp) fun f _ _ => hmoves.getF f)
  · refine (aGet_aPut_ne _ _ _ _ hne).trans ?_
    unfold railRec
    rw [hrails]

theorem shedAborted_shown {k : Nat} (hk : k < 4) (cause : Nat) (s : State) : ShedAborted k s (shedAbort k cause s) := by
  rw [shedAbort_eq]
  split
  · obtain ⟨h1, h2, h3, h4, h5, h6, h7⟩ := shedInhibited_shown hk (s := s)
    unfold shedTold
    generalize shedInhibited k s = u at *
    have htold : ShedAborted k s (event 0x0601 [k, cause] u) := by
      have hphc := event_phc 0x0601 [k, cause] u
      have hinh : getF (event 0x0601 [k, cause] u) (PHC.RAIL_STATUS.SHED_INH k) = getF u (PHC.RAIL_STATUS.SHED_INH k) :=
        getF_event _ _ _ (by simp only [PHC.RAIL_STATUS.SHED_INH, EVR.COUNTS.DROPPED, fld]; omega)
      refine ⟨(event_sta ..).trans h1, (event_time ..).trans h2, fieldsBut_event (by simp) h3, fun j hj hne => ?_, fun _ => ⟨?_, fun _ => ⟨?_, ?_⟩⟩⟩
      · obtain ⟨g1, g2⟩ := h4 j hj hne
        refine ⟨Eq.trans (shedding_congr fun n _ => ?_) g1, Eq.trans ?_ g2⟩
        · unfold phaseSt; rw [hphc]
        · unfold railRec; rw [hphc]
      · exact Eq.trans (shedding_congr fun n _ => by unfold phaseSt; rw [hphc]) h5
      · exact (getB_congr hinh).trans h6
      · unfold railRec at h7 ⊢
        rw [hphc, h7]
    generalize event 0x0601 [k, cause] u = v at *
    split
    · obtain ⟨r1, r2, r3, r4⟩ := repeatBreaks_frame 1 v
      have hr4 : fieldsBut [PHC.RAIL_STATUS.SHED_INH k, PHC.SHED_STATUS.ABORTS, PSQ.STATUS.REPEAT_BROKEN, EVR.COUNTS.DROPPED] v (repeatBreaks 1 v) :=
        fieldsBut_mono r4 (by simp)
      have hinh : getF (repeatBreaks 1 v) (PHC.RAIL_STATUS.SHED_INH k) = getF v (PHC.RAIL_STATUS.SHED_INH k) := by
        refine r4 _ ?_ ?_
        · simp only [List.map_cons, List.map_nil, List.mem_cons, List.not_mem_nil, or_false, PHC.RAIL_STATUS.SHED_INH, PSQ.STATUS.REPEAT_BROKEN,
            EVR.COUNTS.DROPPED, fld]
          omega
        · simp only [PHC.RAIL_STATUS.SHED_INH, TST.CTRL.OVERRIDE, fld]; omega
      refine ⟨r1.trans htold.sta, r2.trans htold.time, fieldsBut_trans htold.fields hr4, fun j hj hne => ?_, fun hp => ?_⟩
      · obtain ⟨g1, g2⟩ := htold.others j hj hne
        refine ⟨Eq.trans (shedding_congr fun n _ => ?_) g1, Eq.trans ?_ g2⟩
        · unfold phaseSt; rw [r3]
        · unfold railRec; rw [r3]
      · obtain ⟨g1, g2⟩ := htold.own hp
        refine ⟨Eq.trans (shedding_congr fun n _ => by unfold phaseSt; rw [r3]) g1, fun hne => ?_⟩
        obtain ⟨g3, g4⟩ := g2 hne
        refine ⟨(getB_congr hinh).trans g3, ?_⟩
        unfold railRec at g4 ⊢
        rw [r3, g4]
    · exact htold
  · next h => exact ⟨rfl, rfl, fieldsBut_refl _ s, fun _ _ _ => ⟨rfl, rfl⟩, fun hp => ⟨by_contra fun hc => h ⟨hp, hc⟩,
      fun hne => absurd ⟨hp, hne⟩ h⟩⟩

/-- The fields that aborts of sheds can change. -/
def abortFields : List Fld := [PHC.RAIL_STATUS.SHED_INH 0, PHC.RAIL_STATUS.SHED_INH 1, PHC.RAIL_STATUS.SHED_INH 2, PHC.RAIL_STATUS.SHED_INH 3,
  PHC.SHED_STATUS.ABORTS, PSQ.STATUS.REPEAT_BROKEN, EVR.COUNTS.DROPPED]

theorem shedInh_mem : ∀ k < 4, (abortFields.map (fun g => g.key)).contains (PHC.RAIL_STATUS.SHED_INH k).key = true := by decide

theorem abortFields_of {k : Nat} (hk : k < 4) {s t : State}
    (h : fieldsBut [PHC.RAIL_STATUS.SHED_INH k, PHC.SHED_STATUS.ABORTS, PSQ.STATUS.REPEAT_BROKEN, EVR.COUNTS.DROPPED] s t) :
    fieldsBut abortFields s t := by
  intro f hf ho
  refine h f (fun hm => hf ?_) ho
  simp only [List.map_cons, List.map_nil, List.mem_cons, List.not_mem_nil, or_false] at hm
  rcases hm with hm | hm | hm | hm
  · exact hm ▸ List.contains_iff_mem.1 (shedInh_mem k hk)
  · simp [abortFields, hm]
  · simp [abortFields, hm]
  · simp [abortFields, hm]

theorem railState_kept : ∀ k < 4, (PHC.RAIL_SEQ.STATE k).key ∉ abortFields.map (fun g => g.key) ∧
    (PHC.RAIL_SEQ.STATE k).key ≠ TST.CTRL.OVERRIDE.key := by decide

theorem pastSoft_of_abortFields {k : Nat} (hk : k < 4) {s t : State} (h : fieldsBut abortFields s t) : pastSoft t k = pastSoft s k := by
  unfold pastSoft railSt
  rw [h _ (railState_kept k hk).1 (railState_kept k hk).2]

/-- The first rails' sheds have been aborted, and the later ones' stand (R201). -/
structure ShedsAborted (N : Nat) (a t : State) : Prop where
  sta : t.sta = a.sta
  time : t.time = a.time
  fields : fieldsBut abortFields a t
  later : ∀ j < 4, N ≤ j → shedding t j = shedding a j

/-- A rail's sheds stand aborted and inhibited. -/
def shedsOver (a : State) (k : Nat) (t : State) : Prop := pastSoft a k = true → shedding t k = [] ∧
  (shedding a k ≠ [] → getB t (PHC.RAIL_STATUS.SHED_INH k) = true ∧ (railRec t k).inhUntil = a.time.ticks + ms 1)

theorem shedsOver_congr {a t u : State} {k : Nat} (hs : shedding u k = shedding t k) (hr : (railRec u k).inhUntil = (railRec t k).inhUntil)
    (hf : getF u (PHC.RAIL_STATUS.SHED_INH k) = getF t (PHC.RAIL_STATUS.SHED_INH k)) (h : shedsOver a k t) : shedsOver a k u := fun hp => by
  obtain ⟨h1, h2⟩ := h hp
  refine ⟨hs.trans h1, fun hne => ?_⟩
  obtain ⟨h3, h4⟩ := h2 hne
  exact ⟨(getB_congr hf).trans h3, hr.trans h4⟩

theorem shedAborts_shown (cause : Nat) (a : State) : ShedsAborted 4 a (shedAborts cause a) ∧ ∀ k < 4, shedsOver a k (shedAborts cause a) := by
  refine range_fold (g := fun t j => shedAbort j cause t) (I := fun N t => N ≤ 4 → ShedsAborted N a t) (P := fun k t => shedsOver a k t) (s := a) 4
    (fun _ => ⟨rfl, rfl, fieldsBut_refl _ a, fun _ _ _ => rfl⟩) (fun n hn t ht => ?_) |>.imp (· (le_refl 4)) id
  obtain ⟨t1, t2, t3, t4⟩ := ht hn.le
  obtain ⟨s1, s2, s3, s4, s5⟩ := shedAborted_shown hn cause t
  refine ⟨fun _ => ⟨s1.trans t1, s2.trans t2, fieldsBut_trans t3 (abortFields_of hn s3), fun j hj hle => ?_⟩, fun hp => ?_, fun m hm h => ?_⟩
  · exact (s4 j hj (by omega)).1.trans (t4 j hj (by omega))
  · have hown := s5 ((pastSoft_of_abortFields hn t3).trans hp)
    rw [t4 n hn (le_refl n), t2] at hown
    exact hown
  · obtain ⟨o1, o2⟩ := s4 m (hm.trans hn) hm.ne
    refine shedsOver_congr o1 (congrArg Rail.inhUntil o2) (s3 _ ?_ ?_) h
    · simp only [List.map_cons, List.map_nil, List.mem_cons, List.not_mem_nil, or_false, PHC.RAIL_STATUS.SHED_INH, PHC.SHED_STATUS.ABORTS,
        PSQ.STATUS.REPEAT_BROKEN, EVR.COUNTS.DROPPED, fld]
      omega
    · simp only [PHC.RAIL_STATUS.SHED_INH, TST.CTRL.OVERRIDE, fld]; omega

/-! ### The burst -/

theorem deExit_frame (k : Nat) (s : State) : (deExit k s).sta = s.sta ∧ (deExit k s).time = s.time ∧ (deExit k s).phc.phases = s.phc.phases ∧
    (deExit k s).phc.ocTrip = s.phc.ocTrip ∧ fieldsBut [PHC.RAIL_STATUS.DE k] s (deExit k s) ∧
    (∀ j, (railRec (deExit k s) j).inhUntil = (railRec s j).inhUntil) ∧ (railSt s k ≠ rsSoft → inDe (deExit k s) k = false) := by
  have hinh : ∀ j, (railRec (setRail s k { railRec s k with deRun := 0 }) j).inhUntil = (railRec s j).inhUntil := fun j => by
    by_cases h : j = k
    · subst h
      rw [railRec_setRail_self]
    · exact congrArg Rail.inhUntil (aGet_aPut_ne _ _ _ _ h)
  unfold deExit
  dsimp only
  split
  · next h => exact ⟨rfl, rfl, rfl, rfl, fieldsBut_refl _ _, hinh, fun hne => absurd h hne⟩
  · exact ⟨rfl, rfl, rfl, rfl, fieldsBut_setB (List.mem_singleton_self _) (fieldsBut_refl _ _), hinh, fun _ => getB_setB_self _ _ _ rfl⟩

/-- The fields that a burst's beginning changes for itself. -/
def burstNoted (p : VcorePoints) (s : State) : State := setF (incF s PHC.BURST_STATUS.COUNT) PHC.BURST_STATUS.LAST_CAUSE (burstCauseOf s p)

theorem burstNoted_shown (p : VcorePoints) (s : State) :
    getF (burstNoted p s) PHC.BURST_STATUS.COUNT = min (getF s PHC.BURST_STATUS.COUNT + 1) 65535 ∧
      getF (burstNoted p s) PHC.BURST_STATUS.LAST_CAUSE = b2n (tooDeep s p) + 2 * b2n (tooFast s p) := by
  unfold burstNoted
  constructor
  · rw [getF_setF_ne _ _ (by decide)]
    exact getF_incF_self ..
  · rw [getF_setF_self, burstCauseOf_eq]
    cases tooDeep s p <;> cases tooFast s p <;> rfl

/-- A burst begins: the comparators that are tripped limit their phases in it (R205). -/
def burstBegun (now cause : Nat) (s : State) : State := { s with phc := { s.phc with burst := some now, burstCause := cause } }

def burstLimits (s : State) : State :=
  (s.phc.ocTrip.filter (fun n => inBurst s n)).foldl (fun t n => incF t (PHC.OC_COUNT.COUNT n))
    { s with phc := { s.phc with ocBurst := s.phc.ocTrip.filter (fun n => inBurst s n) } }

theorem allPhaseBurst_eq {p : VcorePoints} {a : State} (hcause : tooDeep a p = true ∨ tooFast a p = true) (hsoft : pastSoft a 0 = true)
    (hno : a.phc.burst = none) (hre : a.phc.rearm = 0) : allPhaseBurst p a =
      burstLimits (burstBegun a.time.ticks (burstCauseOf a p) (deExit 0 (shedAborts 1 (burstNoted p a)))) := by
  have h0 : burstCauseOf a p ≠ 0 := by
    rw [burstCauseOf_eq]
    rcases hcause with h | h <;> rw [h] <;> simp [b2n]
  have hnot : ¬(burstCauseOf a p = 0 ∨ (!pastSoft a 0) = true ∨ a.phc.burst.isSome = true ∨ a.phc.rearm ≠ 0) := by simp [h0, hsoft, hno, hre]
  unfold allPhaseBurst
  extract_lets cause s1 s2 src s3 hit
  rw [if_neg hnot]
  have hs2 : deExit 0 (shedAborts 1 (burstNoted p a)) = s2 := rfl
  rw [hs2]
  clear_value s2
  rfl

/-- Counting limits leaves the unit, and every field below the counts. -/
theorem burstLimits_frame (s : State) : (burstLimits s).sta = s.sta ∧ (burstLimits s).phc.burst = s.phc.burst ∧
    (burstLimits s).phc.phases = s.phc.phases ∧ (burstLimits s).phc.rails = s.phc.rails ∧
    ∀ f : Fld, f.key < (PHC.OC_COUNT.COUNT 0).key → getF (burstLimits s) f = getF s f := by
  unfold burstLimits
  refine List.foldlRecOn (motive := fun t : State => t.sta = s.sta ∧ t.phc.burst = s.phc.burst ∧ t.phc.phases = s.phc.phases ∧
    t.phc.rails = s.phc.rails ∧ ∀ f : Fld, f.key < (PHC.OC_COUNT.COUNT 0).key → getF t f = getF s f) _ _ ⟨rfl, rfl, rfl, rfl, fun _ _ => rfl⟩
    fun t ⟨h1, h2, h3, h4, h5⟩ n _ => ⟨h1, h2, h3, h4, fun f hf => (getF_incF_ne _ ?_).trans (h5 f hf)⟩
  simp only [PHC.OC_COUNT.COUNT, fld] at hf ⊢
  omega

/-- What a burst's beginning shows (R202, R201). -/
theorem burst_shown {p : VcorePoints} {a : State} (hsoft : pastSoft a 0 = true) :
    let t := burstLimits (burstBegun a.time.ticks (burstCauseOf a p) (deExit 0 (shedAborts 1 (burstNoted p a))))
    t.sta = a.sta ∧ t.phc.burst = some a.time.ticks ∧ getF t PHC.BURST_STATUS.LAST_CAUSE = b2n (tooDeep a p) + 2 * b2n (tooFast a p) ∧
      getF t PHC.BURST_STATUS.COUNT = min (getF a PHC.BURST_STATUS.COUNT + 1) 65535 ∧ inDe t 0 = false ∧ ∀ j < 4, shedsOver a j t := by
  obtain ⟨n1, n2⟩ := burstNoted_shown p a
  have hsta : (burstNoted p a).sta = a.sta := rfl
  have hphc : (burstNoted p a).phc = a.phc := rfl
  have htime : (burstNoted p a).time = a.time := rfl
  have hstate : ∀ k < 4, railSt (burstNoted p a) k = railSt a k := fun k hk => by
    unfold railSt burstNoted
    rw [getF_setF_ne _ _, getF_incF_ne _]
    · simp only [PHC.RAIL_SEQ.STATE, PHC.BURST_STATUS.COUNT, fld]; omega
    · simp only [PHC.RAIL_SEQ.STATE, PHC.BURST_STATUS.LAST_CAUSE, fld]; omega
  generalize burstNoted p a = u at *
  obtain ⟨⟨a1, a2, a3, -⟩, a4⟩ := shedAborts_shown 1 u
  have hover : ∀ j < 4, shedsOver a j (shedAborts 1 u) := fun j hj hp => by
    have h := a4 j hj
    unfold shedsOver pastSoft at h
    rw [hstate j hj, htime, shedding_congr (s := a) (t := u) (k := j) fun n _ => by unfold phaseSt; rw [hphc]] at h
    exact h hp
  have hon : railSt (shedAborts 1 u) 0 ≠ rsSoft := by
    have h := (pastSoft_of_abortFields (by decide) a3 (k := 0)).trans ((show pastSoft u 0 = pastSoft a 0 by unfold pastSoft; rw [hstate 0 (by decide)]).trans hsoft)
    intro hc
    unfold pastSoft at h
    rw [hc] at h
    exact absurd h (by decide)
  have hc1 : getF (shedAborts 1 u) PHC.BURST_STATUS.COUNT = getF u PHC.BURST_STATUS.COUNT := a3 _ (by decide) (by decide)
  have hc2 : getF (shedAborts 1 u) PHC.BURST_STATUS.LAST_CAUSE = getF u PHC.BURST_STATUS.LAST_CAUSE := a3 _ (by decide) (by decide)
  generalize shedAborts 1 u = v at *
  obtain ⟨d1, -, d3, -, d5, d6, d7⟩ := deExit_frame 0 v
  have hover2 : ∀ j < 4, shedsOver a j (deExit 0 v) := fun j hj => shedsOver_congr (shedding_congr fun n _ => by unfold phaseSt; rw [d3]) (d6 j)
    (d5 _ (by simp only [List.map_cons, List.map_nil, List.mem_singleton, PHC.RAIL_STATUS.SHED_INH, PHC.RAIL_STATUS.DE, fld]; omega)
      (by simp only [PHC.RAIL_STATUS.SHED_INH, TST.CTRL.OVERRIDE, fld]; omega)) (hover j hj)
  have hd1 := d5 PHC.BURST_STATUS.COUNT (by decide) (by decide)
  have hd2 := d5 PHC.BURST_STATUS.LAST_CAUSE (by decide) (by decide)
  have hde := d7 hon
  generalize deExit 0 v = w at *
  obtain ⟨l1, l2, l3, l4, l5⟩ := burstLimits_frame (burstBegun a.time.ticks (burstCauseOf a p) w)
  refine ⟨l1.trans (d1.trans (a1.trans hsta)), l2, ?_, ?_, (getB_congr (l5 _ (by decide))).trans hde, fun j hj => ?_⟩
  · exact (l5 _ (by decide)).trans (hd2.trans (hc2.trans n2))
  · exact (l5 _ (by decide)).trans (hd1.trans (hc1.trans n1))
  · refine shedsOver_congr (shedding_congr fun n _ => ?_) ?_ (l5 _ ?_) (hover2 j hj)
    · unfold phaseSt; rw [l3]
    · unfold railRec; rw [l4]
    · simp only [PHC.RAIL_STATUS.SHED_INH, PHC.OC_COUNT.COUNT, fld]; omega

/-! ### The end of a burst, and the phases' limits -/

/-- A burst that ends (R203). -/
def burstEnded (t0 : Nat) (s : State) : State :=
  let e := (regRef s 0 : Int) - senseNv s 0
  let s1 := setRail s 0 { railRec s 0 with e1 := e, e2 := e }
  let s2 := setSat s1 PHC.BURST_STATUS.LONGEST (max (getF s PHC.BURST_STATUS.LONGEST) (s.time.ticks - t0))
  { s2 with phc := { s2.phc with burst := none, rearm := s.time.ticks + 10 * getC s PHC.PROT_CTRL.BURST_REARM 2 255, ocBurst := [],
                                 pulses := s2.phc.pulses.map (fun e => (e.1, if e.1 < 68 then { e.2 with high := 0 } else e.2)) } }

theorem burstEnd_eq {p : VcorePoints} {t0 : Nat} {a : State} (h : a.phc.burst = some t0) : burstEnd p a =
    if recovered a p = false ∧ a.time.ticks < t0 + getC a PHC.BURST_CTRL.BURST_MAX 5 20 then a else burstEnded t0 a := by
  unfold burstEnd
  rw [h]
  dsimp only
  rw [burstOver_eq]
  refine ite_congr (by simp) (fun _ => rfl) fun _ => rfl

theorem burstEnded_shown (t0 : Nat) (a : State) : (burstEnded t0 a).sta = a.sta ∧ (burstEnded t0 a).phc.burst = none ∧
    (burstEnded t0 a).phc.ocBurst = [] ∧ (burstEnded t0 a).phc.rearm = a.time.ticks + 10 * getC a PHC.PROT_CTRL.BURST_REARM 2 255 ∧
    getF (burstEnded t0 a) PHC.BURST_STATUS.LONGEST = min (max (getF a PHC.BURST_STATUS.LONGEST) (a.time.ticks - t0)) 255 ∧
    (railRec (burstEnded t0 a) 0).e1 = (regRef a 0 : Int) - senseNv a 0 ∧ (railRec (burstEnded t0 a) 0).e2 = (railRec (burstEnded t0 a) 0).e1 := by
  have hrail : railRec (burstEnded t0 a) 0 = { railRec a 0 with e1 := (regRef a 0 : Int) - senseNv a 0, e2 := (regRef a 0 : Int) - senseNv a 0 } :=
    railRec_setRail_self a 0 _
  have hlong : getF (burstEnded t0 a) PHC.BURST_STATUS.LONGEST = min (max (getF a PHC.BURST_STATUS.LONGEST) (a.time.ticks - t0)) 255 :=
    getF_setSat_self (setRail a 0 _) _ _
  exact ⟨rfl, rfl, rfl, rfl, hlong, by rw [hrail], by rw [hrail]⟩

/-- The limit acts on a phase for the first time in its burst, or in its period (R205). -/
def limitActs (n : Nat) (s : State) : Bool :=
  (inBurst s n && !s.phc.ocBurst.contains n) || (!inBurst s n && (pulseOf s n).any (fun p => !p.lim))

/-- What a tripped comparator leaves and brings about. -/
structure OcTripped (n : Nat) (s t : State) : Prop where
  sta : t.sta = s.sta
  trip : t.phc.ocTrip = insN n s.phc.ocTrip
  units : t.phc.allLow = s.phc.allLow ∧ t.phc.inReset = s.phc.inReset ∧ t.phc.phases = s.phc.phases ∧ t.phc.phFault = s.phc.phFault
  fields : fieldsBut [PHC.OC_COUNT.COUNT n] s t
  count : getF t (PHC.OC_COUNT.COUNT n) = if limitActs n s = true then min (getF s (PHC.OC_COUNT.COUNT n) + 1) 65535 else getF s (PHC.OC_COUNT.COUNT n)

theorem phaseOcTrip_shown {n : Nat} {s : State} (h : s.phc.ocTrip.contains n = false) : OcTripped n s (phaseOcTrip n s) := by
  have hinc : ∀ u : State, u.regs = s.regs → getF (incF u (PHC.OC_COUNT.COUNT n)) (PHC.OC_COUNT.COUNT n) = min (getF s (PHC.OC_COUNT.COUNT n) + 1) 65535 :=
    fun u hu => by rw [getF_incF_self, getF_congr hu]; rfl
  have hfields : ∀ u : State, u.regs = s.regs → fieldsBut [PHC.OC_COUNT.COUNT n] s (incF u (PHC.OC_COUNT.COUNT n)) :=
    fun u hu => fieldsBut_setF (List.mem_singleton_self _) (fieldsBut_regs hu)
  unfold phaseOcTrip
  rw [h, if_neg (by decide)]
  dsimp only
  cases hb : inBurst s n with
  | true =>
    rw [if_pos rfl]
    cases hc : s.phc.ocBurst.contains n with
    | true => exact ⟨rfl, rfl, ⟨rfl, rfl, rfl, rfl⟩, fieldsBut_regs rfl, by rw [show limitActs n s = false by simp only [limitActs, hb, hc]; rfl]; rfl⟩
    | false => exact ⟨rfl, rfl, ⟨rfl, rfl, rfl, rfl⟩, hfields _ rfl, by rw [show limitActs n s = true by simp only [limitActs, hb, hc]; rfl]; exact hinc _ rfl⟩
  | false =>
    rw [if_neg (by decide)]
    cases hp : pulseOf s n with
    | none => exact ⟨rfl, rfl, ⟨rfl, rfl, rfl, rfl⟩, fieldsBut_regs rfl, by rw [show limitActs n s = false by simp [limitActs, hb, hp]]; rfl⟩
    | some p =>
      dsimp only
      cases hl : p.lim with
      | true => exact ⟨rfl, rfl, ⟨rfl, rfl, rfl, rfl⟩, fieldsBut_regs rfl, by rw [show limitActs n s = false by simp [limitActs, hb, hp, hl]]; rfl⟩
      | false =>
        exact ⟨rfl, rfl, ⟨rfl, rfl, rfl, rfl⟩, hfields _ rfl, by rw [show limitActs n s = true by simp [limitActs, hb, hp, hl]]; exact hinc _ rfl⟩

theorem OcTripped.drive {n : Nat} {s t : State} (h : OcTripped n s t) (he : phEn s n = true) : pwmDrive t n = .low := by
  obtain ⟨-, htrip, ⟨hlow, hreset, hphases, hfault⟩, -, -⟩ := h
  have hen : phEn t n = phEn s n := by unfold phEn phaseSt; rw [hlow, hreset, hphases, hfault]
  have hall : t.phc.allLow = false := by
    rw [hlow]
    unfold phEn at he
    cases hs : s.phc.allLow with
    | false => rfl
    | true => rw [hs] at he; exact absurd he (by simp)
  have hin : t.phc.ocTrip.contains n = true := by rw [htrip]; exact List.contains_iff_mem.2 (mem_insN ..)
  unfold pwmDrive
  rw [hall, hen, he, hin]
  rfl

end Sys2Proof.Machine

open Sys2Proof Sys2Proof.Machine

/-- Settles O30: the burst from its comparators to its rearm, and a phase's limit by whether the burst drives it. -/
theorem burstsAndPhaseLimits : Obligations.BurstsAndPhaseLimits := by
  unfold Obligations.BurstsAndPhaseLimits
  intro dt s a ha
  have hn : noEnd a := ha ▸ noEnd_advance dt s
  refine ⟨fun p hw hcause hsoft hno hre => ?_, fun p hw h => ?_, fun p t0 hw hb h => ?_, fun p t0 hw hb hr ht => ?_, fun p hw hb => ?_,
    fun hne hle => ?_, fun h => ?_, fun n hlt h => ?_, fun n hlt h => ?_, fun n hlt => ?_⟩
  · obtain ⟨b1, b2, b3, b4, b5, b6⟩ := burst_shown (p := p) hsoft
    refine answers_eq ha (exec_allPhaseBurst ..) hw (allPhaseBurst_eq hcause hsoft hno hre) ?_
    generalize burstLimits _ = t at *
    have hx : noEnd t := noEnd_congr hn b1
    have hset : ∀ f : Fld, f.key ≠ TST.CTRL.OVERRIDE.key → getF (settle t) f = getF t f := fun f hf => getF_settle _ hx hf
    refine ⟨by rw [settle_phc hx, b2], (hset _ (by decide)).trans b3, (hset _ (by decide)).trans b4, (getB_congr (hset _ (by decide))).trans b5,
      fun j hj => ?_⟩
    refine shedsOver_congr (shedding_congr fun m _ => ?_) ?_ (hset _ ?_) (b6 j hj)
    · unfold phaseSt; rw [settle_phc hx]
    · unfold railRec; rw [settle_phc hx]
    · simp only [PHC.RAIL_STATUS.SHED_INH, TST.CTRL.OVERRIDE, fld]; omega
  · refine answers_untouched ha (exec_allPhaseBurst ..) hw ?_
    unfold allPhaseBurst
    refine if_pos ?_
    rcases h with ⟨h1, h2⟩ | h | h | h
    · exact .inl (by rw [burstCauseOf_eq, h1, h2]; rfl)
    · exact .inr (.inl (by rw [h]; rfl))
    · exact .inr (.inr (.inl (Option.isSome_iff_ne_none.2 h)))
    · exact .inr (.inr (.inr h))
  · refine answers_eq ha (exec_burstEnd ..) hw ((burstEnd_eq hb).trans (if_neg ?_)) ?_
    · rintro ⟨h1, h2⟩
      rcases h with h | h
      · rw [h1] at h; cases h
      · omega
    · obtain ⟨h1, h2, h3, h4, h5, h6, h7⟩ := burstEnded_shown t0 a
      generalize burstEnded t0 a = t at *
      have hx : noEnd t := noEnd_congr hn h1
      have hrail : railRec (settle t) 0 = railRec t 0 := by unfold railRec; rw [settle_phc hx]
      rw [settle_phc hx, hrail]
      exact ⟨h2, h3, h4, (getF_settle _ hx (by decide)).trans h5, h6, h7⟩
  · exact answers_untouched ha (exec_burstEnd ..) hw ((burstEnd_eq hb).trans (if_pos ⟨hr, ht⟩))
  · refine answers_untouched ha (exec_burstEnd ..) hw ?_
    unfold burstEnd
    rw [hb]
  · have hx : noEnd { a with phc := { a.phc with rearm := 0 } } := hn
    exact answers_eq ha (exec_burstRearmEnd ..) rfl (if_pos ⟨hne, hle⟩) ⟨settle_phc hx, fieldsBut_settle hx fun f _ _ => rfl⟩
  · exact answers_untouched ha (exec_burstRearmEnd ..) rfl (if_neg (by omega))
  · have hoc := phaseOcTrip_shown h
    refine answers_of ha (exec_phaseOcTrip ..) (by simp [Instr.wf, hlt]) ?_
    have hdrive := hoc.drive
    obtain ⟨h1, h2, -, h4, h5⟩ := hoc
    generalize phaseOcTrip n a = t at *
    have hx : noEnd t := noEnd_congr hn h1
    have hphc := settle_phc hx
    refine ⟨by rw [hphc, h2]; exact mem_insN .., fun he => ?_, fieldsBut_settle hx h4, ?_⟩
    · have hsame : pwmDrive (settle t) n = pwmDrive t n := by unfold pwmDrive phEn inBurst pulseOf phaseSt; rw [hphc, settle_time hx]
      exact hsame.trans (hdrive he)
    · rw [getF_settle _ hx (by simp only [PHC.OC_COUNT.COUNT, TST.CTRL.OVERRIDE, fld]; omega), h5]
      refine ite_congr (by simp [limitActs]) (fun _ => rfl) fun _ => rfl
  · exact answers_untouched ha (exec_phaseOcTrip ..) (by simp [Instr.wf, hlt]) (if_pos h)
  · have hx : noEnd { a with phc := { a.phc with ocTrip := remN n a.phc.ocTrip } } := hn
    refine answers_eq ha (exec_phaseOcRelease ..) (by simp [Instr.wf, hlt]) (u := { a with phc := { a.phc with ocTrip := remN n a.phc.ocTrip } }) rfl ?_
    rw [settle_phc hx]
    refine ⟨by simp [remN], fun m hm => by simp [remN, hm], fieldsBut_settle hx fun f _ _ => rfl⟩
end

section
/-! O29. Selects, ramps, diode emulation, and phases that ramp in and out. -/

namespace Sys2Proof.Machine

/-- A latched value of the select pins (R193). -/
def vselTaken (v : Nat) (s : State) : State :=
  { setF s PHC.VSEL.PINS v with phc := { s.phc with vselFrom := s.time.ticks + 100 } }

/-- A ramp that has ended, before the beat rate follows (R195). -/
def rampEnded (k : Nat) (s : State) : State :=
  let s1 := setRail s k { railRec s k with ramping := false }
  if k = 0 then { s1 with phc := { s1.phc with fmax := spF s (getF s (PHC.RAIL_STATUS.SEL 0)) } } else s1

theorem setpointRampDone_eq {k : Nat} {a : State} (hr : (railRec a k).ramping = true) (he : (railRec a k).ref = (railRec a k).tgt)
    (hon : railSt a k = rsOn) : setpointRampDone k a = rampEnded k a := by
  have hno : ¬((!(railRec a k).ramping) = true ∨ (railRec a k).ref ≠ (railRec a k).tgt ∨ railSt a k ≠ rsOn) := by simp [hr, he, hon]
  unfold setpointRampDone
  exact if_neg hno

theorem rampEnded_shown (k : Nat) (a : State) : (rampEnded k a).sta = a.sta ∧ (rampEnded k a).regs = a.regs ∧
    railRec (rampEnded k a) k = { railRec a k with ramping := false } ∧
    (rampEnded k a).phc.fmax = if k = 0 then spF a (getF a (PHC.RAIL_STATUS.SEL 0)) else a.phc.fmax := by
  have hrail := railRec_setRail_self a k { railRec a k with ramping := false }
  unfold rampEnded
  dsimp only
  split
  · exact ⟨rfl, rfl, hrail, rfl⟩
  · exact ⟨rfl, rfl, hrail, rfl⟩

/-- The beat rate follows its ceilings, and nothing else changes (R234). -/
theorem refreshRate_frame (s : State) : (refreshRate s).sta = s.sta ∧ (refreshRate s).phc = s.phc ∧ fieldsBut [LGV.OPP.RATE] s (refreshRate s) := by
  unfold refreshRate
  split
  · exact ⟨rfl, rfl, fieldsBut_refl _ s⟩
  · exact ⟨rfl, rfl, fieldsBut_setF (List.mem_singleton_self _) (fieldsBut_regs rfl)⟩

/-- A phase that has settled, and no other (R198, R200, R209). -/
theorem settled_phase {a : State} (hn : noEnd a) (n : Nat) (x : PhaseSt) : phaseSt (settle (setPhase a n x)) n = x ∧
    fieldsBut [] a (settle (setPhase a n x)) ∧ ∀ m, m ≠ n → phaseSt (settle (setPhase a n x)) m = phaseSt a m := by
  have hmoves := PhaseMoves.setPhase a n x
  have hself := phaseSt_setPhase_self a n x
  have hothers : ∀ m, m ≠ n → phaseSt (setPhase a n x) m = phaseSt a m := fun m hm => phaseSt_setPhase_ne a x hm
  generalize setPhase a n x = t at *
  have hx : noEnd t := noEnd_congr hn hmoves.sta
  have hphase : ∀ m, phaseSt (settle t) m = phaseSt t m := fun m => by unfold phaseSt; rw [settle_phc hx]
  exact ⟨(hphase n).trans hself, fieldsBut_settle hx fun f _ _ => hmoves.getF f, fun m hm => (hphase m).trans (hothers m hm)⟩

end Sys2Proof.Machine

open Sys2Proof Sys2Proof.Machine

/-- Settles O29: each of the six events by its instant, or by the interval that it waits for. -/
theorem phasesRampAndSettle : Obligations.PhasesRampAndSettle := by
  unfold Obligations.PhasesRampAndSettle
  intro dt s a ha
  have hn : noEnd a := ha ▸ noEnd_advance dt s
  refine ⟨fun v hv hgrid hfrom => ?_, fun v hv h => ?_, fun k hk hr he hon => ?_, fun k hk hsoft hen hde hrun hb => ?_, fun k hk h => ?_,
    fun n hlt t0 hp => ⟨fun h => ?_, fun h => ?_⟩, fun n hlt t0 c hp => ⟨fun h => ?_, fun h => ?_⟩, fun k hk hinh h => ?_, fun k hk h => ?_⟩
  · have hx : noEnd (vselTaken v a) := hn
    have hnot : ¬(a.time.ticks % 25 ≠ 0 ∨ a.time.ticks < a.phc.vselFrom) := by omega
    refine answers_eq ha (exec_vselLatch ..) (by simp [Instr.wf, hv]) (u := vselTaken v a) (if_neg hnot) ?_
    refine ⟨(getF_settle _ hx (by decide)).trans ((getF_setF_self ..).trans (Nat.mod_eq_of_lt hv)), settle_phc hx,
      (sensingSame_settle hx).2 ⟨rfl, rfl, rfl, rfl⟩, (managingSame_settle hx).2 ⟨rfl, rfl, rfl, rfl, rfl, rfl⟩,
      (waitingSame_settle hx).2 ⟨rfl, rfl, rfl, rfl, rfl⟩, fieldsBut_settle hx ?_⟩
    exact fieldsBut_with (fieldsBut_setF (v := v) (List.mem_singleton_self _) (fieldsBut_refl _ a)) rfl
  · exact answers_untouched ha (exec_vselLatch ..) (by simp [Instr.wf, hv]) (if_pos h)
  · obtain ⟨h1, h2, h3, h4⟩ := rampEnded_shown k a
    refine answers_eq ha (exec_setpointRampDone ..) (by simp [Instr.wf, hk]) (congrArg refreshRate (setpointRampDone_eq hr he hon)) ?_
    generalize rampEnded k a = u at *
    obtain ⟨r1, r2, r3⟩ := refreshRate_frame u
    generalize refreshRate u = t at *
    have hx : noEnd t := noEnd_congr hn (r1.trans h1)
    refine ⟨?_, by rw [settle_phc hx, r2, h4], fieldsBut_settle hx (fieldsBut_trans (fieldsBut_regs h2) r3)⟩
    unfold railRec at h3 ⊢
    rw [settle_phc hx, r2, h3]
  · have hx : noEnd (setB a (PHC.RAIL_STATUS.DE k) true) := hn
    refine answers_eq ha (exec_deEnter ..) (by simp [Instr.wf, hk]) (u := setB a (PHC.RAIL_STATUS.DE k) true) ?_ ?_
    · have hburst : (k == 0 && a.phc.burst.isSome) = false := by
        rw [Bool.and_eq_false_iff]
        by_cases hk0 : k = 0
        · exact .inr (by simpa [Option.isSome_iff_ne_none] using fun h => hb ⟨hk0, h⟩)
        · exact .inl (by simpa using hk0)
      unfold deEnter
      rw [hsoft, hen, hde, hburst, decide_eq_true hrun]
      rfl
    · have hf := ((FrameBut.refl [PHC.RAIL_STATUS.DE k] a).setB true (List.mem_singleton_self _)).settle hn
      refine ⟨(getB_settle _ hx ?_).trans (getB_setB_self _ _ _ rfl), hf.2.1, hf.2.2⟩
      simp only [PHC.RAIL_STATUS.DE, TST.CTRL.OVERRIDE, fld]; omega
  · refine answers_untouched ha (exec_deEnter ..) (by simp [Instr.wf, hk]) (if_neg ?_)
    rw [decide_eq_false (by omega : ¬40 * getC a PHC.DE_CTRL.DE_DWELL 1 255 ≤ (railRec a k).deRun)]
    simp
  · refine answers_eq ha (exec_phaseRampInDone ..) (by simp [Instr.wf, hlt]) (u := setPhase a n .regulating) ?_ (settled_phase hn n .regulating)
    unfold phaseRampInDone
    rw [hp]
    exact if_pos h
  · refine answers_untouched ha (exec_phaseRampInDone ..) (by simp [Instr.wf, hlt]) ?_
    unfold phaseRampInDone
    rw [hp]
    exact if_neg (by omega)
  · refine answers_eq ha (exec_phaseRampOutDone ..) (by simp [Instr.wf, hlt]) (u := setPhase a n (if c = 0 then .standby else .retired)) ?_
      (settled_phase hn n _)
    unfold phaseRampOutDone
    rw [hp]
    exact if_pos h
  · refine answers_untouched ha (exec_phaseRampOutDone ..) (by simp [Instr.wf, hlt]) ?_
    unfold phaseRampOutDone
    rw [hp]
    exact if_neg (by omega)
  · have hx : noEnd (setB a (PHC.RAIL_STATUS.SHED_INH k) false) := hn
    refine answers_eq ha (exec_shedInhEnd ..) (by simp [Instr.wf, hk]) (u := setB a (PHC.RAIL_STATUS.SHED_INH k) false)
      (if_pos (by rw [hinh, decide_eq_true h]; rfl)) ?_
    have hf := ((FrameBut.refl [PHC.RAIL_STATUS.SHED_INH k] a).setB false (List.mem_singleton_self _)).settle hn
    refine ⟨(getB_settle _ hx ?_).trans (getB_setB_self _ _ _ rfl), hf.2.1, hf.2.2⟩
    simp only [PHC.RAIL_STATUS.SHED_INH, TST.CTRL.OVERRIDE, fld]; omega
  · refine answers_untouched ha (exec_shedInhEnd ..) (by simp [Instr.wf, hk]) (if_neg ?_)
    rw [decide_eq_false (by omega : ¬(railRec a k).inhUntil ≤ a.time.ticks)]
    simp
end

section
/-! SUPPORT. Steps of an effect that keep rest states, deferred actions, what waits at the collector and the recorder, and all but a few
fields. -/

namespace Sys2Proof.Machine

/-- Rest states and deferred actions stand, what waits goes on waiting, and every field but those listed is as before. -/
structure Quiet (l : List Fld) (s t : State) : Prop where
  sta : t.sta = s.sta
  acts : t.acts = s.acts
  inbox : ∀ x ∈ s.inbox, x ∈ t.inbox
  fields : fieldsBut l s t

namespace Quiet

variable {l : List Fld} {s t u : State}

theorem refl (l : List Fld) (s : State) : Quiet l s s := ⟨rfl, rfl, fun _ h => h, fieldsBut_refl _ _⟩

theorem trans (h : Quiet l s t) (h2 : Quiet l t u) : Quiet l s u :=
  ⟨h2.sta.trans h.sta, h2.acts.trans h.acts, fun x hx => h2.inbox x (h.inbox x hx), fieldsBut_trans h.fields h2.fields⟩

theorem mono {m : List Fld} (h : Quiet l s t) (hs : ∀ f ∈ l, f ∈ m) : Quiet m s t := ⟨h.sta, h.acts, h.inbox, fieldsBut_mono h.fields hs⟩

theorem setF (f : Fld) (v : Nat) (hf : f ∈ l) (h : Quiet l s t) : Quiet l s (Machine.setF t f v) :=
  ⟨h.sta, h.acts, h.inbox, fieldsBut_setF hf h.fields⟩

theorem setB (f : Fld) (v : Bool) (hf : f ∈ l) (h : Quiet l s t) : Quiet l s (Machine.setB t f v) := h.setF f _ hf

theorem setSat (f : Fld) (v : Nat) (hf : f ∈ l) (h : Quiet l s t) : Quiet l s (Machine.setSat t f v) := h.setF f _ hf

theorem event (c : Nat) (b : List Nat) (hl : EVR.COUNTS.DROPPED ∈ l) (h : Quiet l s t) : Quiet l s (Machine.event c b t) :=
  ⟨(event_sta ..).trans h.sta, (event_acts ..).trans h.acts, fun x hx => inbox_event x (h.inbox x hx), fieldsBut_event hl h.fields⟩

theorem sendFault (k src i : Nat) (hl : roomMsg t ∨ FLC.STATUS.QUEUE_OVF ∈ l) (h : Quiet l s t) : Quiet l s (Machine.sendFault k src i t) :=
  ⟨(sendFault_sta ..).trans h.sta, (sendFault_acts ..).trans h.acts, fun x hx => inbox_sendFault x (h.inbox x hx), fieldsBut_sendFault hl h.fields⟩

theorem getF (h : Quiet l s t) {f : Fld} (hf : f.key ∉ l.map (fun g => g.key)) (ho : f.key ≠ TST.CTRL.OVERRIDE.key) :
    Machine.getF t f = Machine.getF s f := h.fields f hf ho

theorem ite {c : Prop} [Decidable c] (h : Quiet l s t) (h2 : Quiet l s u) : Quiet l s (if c then t else u) := by split <;> assumption

end Quiet

end Sys2Proof.Machine
end

section
/-! O42. The safe state. -/

namespace Sys2Proof.Machine

theorem rateNow_le {s : State} (h : safeOn s = true) : rateNow s ≤ 80 := by
  unfold rateNow rateTop
  rw [if_pos h]
  exact (min_le_right ..).trans (min_le_left ..)

theorem refreshRate_le {s : State} (h : safeOn s = true) : (refreshRate s).drg.rate ≤ 80 := by
  have hle := rateNow_le h
  unfold refreshRate
  split
  · next hr => rw [hr.1]; exact hle
  · exact hle

theorem refreshRate_quiet (s : State) : Quiet [LGV.OPP.RATE] s (refreshRate s) := by
  unfold refreshRate setRate
  split
  · exact .refl _ s
  · exact ⟨rfl, rfl, fun _ h => h, fieldsBut_setF (by simp) (fieldsBut_regs rfl)⟩

theorem boostCheck_eq (s : State) : ∃ u, boostCheck s = refreshRate u ∧ Quiet [LGV.STATUS.BOOST_GRANTED] s u := by
  refine ⟨_, rfl, Quiet.ite ?_ (.refl _ s)⟩
  exact (Quiet.refl _ s).setB _ _ (by simp)

/-- The governor's part of the safe state (R238, R248). -/
theorem lgvSafe_shown {s : State} (h : safeOn s = true) : Quiet [LGV.EFF_CAP.EFF_CAP, LGV.STATUS.BOOST_GRANTED, LGV.OPP.RATE] s (lgvSafe s) ∧
    getF (lgvSafe s) LGV.EFF_CAP.EFF_CAP ≤ 800 ∧ (lgvSafe s).drg.rate ≤ 80 := by
  unfold lgvSafe
  dsimp only
  have hcap : getF (setF (setLgv { s.lgv with caps := (5, 800) :: s.lgv.caps } s) LGV.EFF_CAP.EFF_CAP (min 800 (getF s LGV.EFF_CAP.EFF_CAP)))
      LGV.EFF_CAP.EFF_CAP ≤ 800 := by
    rw [getF_setF_self]
    exact (Nat.mod_le _ _).trans (min_le_left ..)
  have hq : Quiet [LGV.EFF_CAP.EFF_CAP, LGV.STATUS.BOOST_GRANTED, LGV.OPP.RATE] s
      (setF (setLgv { s.lgv with caps := (5, 800) :: s.lgv.caps } s) LGV.EFF_CAP.EFF_CAP (min 800 (getF s LGV.EFF_CAP.EFF_CAP))) :=
    ⟨rfl, rfl, fun _ h => h, fieldsBut_setF (by simp) (fieldsBut_regs rfl)⟩
  generalize setF (setLgv { s.lgv with caps := (5, 800) :: s.lgv.caps } s) LGV.EFF_CAP.EFF_CAP (min 800 (getF s LGV.EFF_CAP.EFF_CAP)) = v at *
  have hv := hq.setB LGV.STATUS.BOOST_GRANTED false (by simp)
  have hcap2 : getF (setB v LGV.STATUS.BOOST_GRANTED false) LGV.EFF_CAP.EFF_CAP ≤ 800 := (getF_setB_ne _ _ (by decide)).trans_le hcap
  generalize setB v LGV.STATUS.BOOST_GRANTED false = w at *
  obtain ⟨u, hu, hwu⟩ := boostCheck_eq w
  have hsu := hv.trans (hwu.mono (by simp))
  have hsafe : safeOn u = true := (getB_congr (hsu.getF (by decide) (by decide))).trans h
  have hr := refreshRate_quiet u
  rw [hu]
  refine ⟨hsu.trans (hr.mono (by simp)), ?_, refreshRate_le hsafe⟩
  rw [hr.getF (by decide) (by decide), hwu.getF (by decide) (by decide)]
  exact hcap2

theorem fixedCheck_shown (s : State) : Quiet [PSQ.STATUS.FIXED_BEAT_ACTIVE, EVR.COUNTS.DROPPED] s (fixedCheck s) ∧ (fixedCheck s).drg = s.drg := by
  unfold fixedCheck
  split
  · exact ⟨((Quiet.refl _ s).setB _ _ (by simp)).event _ _ (by simp), event_drg ..⟩
  · exact ⟨.refl _ s, rfl⟩

theorem retarget_quiet (k tgt delay : Nat) (s : State) : Quiet [PHC.RAIL_STATUS.DE k] s (retarget k tgt delay s) := by
  unfold retarget deExit
  dsimp only
  split
  · exact .refl _ s
  · split
    · split
      · exact ⟨rfl, rfl, fun _ h => h, fieldsBut_regs rfl⟩
      · exact ⟨rfl, rfl, fun _ h => h, fieldsBut_setB (by simp) (fieldsBut_regs rfl)⟩
    · exact ⟨rfl, rfl, fun _ h => h, fieldsBut_regs rfl⟩

theorem softRetarget_quiet (k tgt : Nat) (s : State) : Quiet [] s (softRetarget k tgt s) := by
  unfold softRetarget
  dsimp only
  split
  · exact .refl _ s
  · split <;> exact ⟨rfl, rfl, fun _ h => h, fieldsBut_regs rfl⟩

/-- VCORE's select takes effect (R195). -/
theorem applySel_shown (sel : Nat) (s : State) : Quiet [PHC.RAIL_STATUS.SEL 0, PHC.RAIL_STATUS.DE 0] s (applySel 0 sel s) ∧
    getF (applySel 0 sel s) (PHC.RAIL_STATUS.SEL 0) = sel % 2 ^ 4 := by
  have hself : getF (setF s (PHC.RAIL_STATUS.SEL 0) sel) (PHC.RAIL_STATUS.SEL 0) = sel % 2 ^ 4 := getF_setF_self ..
  have hset := (Quiet.refl [PHC.RAIL_STATUS.SEL 0, PHC.RAIL_STATUS.DE 0] s).setF (PHC.RAIL_STATUS.SEL 0) sel (by simp)
  unfold applySel
  extract_lets s1 tgt f lower settled src s2
  have hs2 : Quiet [PHC.RAIL_STATUS.SEL 0, PHC.RAIL_STATUS.DE 0] s s2 := ⟨hset.sta, hset.acts, hset.inbox, fieldsBut_with hset.fields rfl⟩
  have hself2 : getF s2 (PHC.RAIL_STATUS.SEL 0) = sel % 2 ^ 4 := hself
  clear_value s2
  rw [if_neg (by decide)]
  split
  · have hr := retarget_quiet 0 tgt (if lower then 10 else 0) s2
    exact ⟨hs2.trans (hr.mono (by simp)), (hr.getF (by decide) (by decide)).trans hself2⟩
  · exact ⟨hs2, hself2⟩

/-- The select of the safe state, with the bound and the rate that follow (R313). -/
def safeSelect (s : State) : State := boundShow (refreshRate (applySelect 0 0 s))

theorem safeSelect_shown {s : State} (h : safeOn s = true) :
    Quiet [PHC.RAIL_STATUS.SEL 0, PHC.RAIL_STATUS.DE 0, LGV.OPP.RATE, STA.EXIT_BOUND.DORMANT] s (safeSelect s) ∧
      getF (safeSelect s) (PHC.RAIL_STATUS.SEL 0) = 0 ∧ (safeSelect s).drg.rate ≤ 80 := by
  obtain ⟨h1, h2⟩ := applySel_shown 0 s
  unfold safeSelect applySelect
  generalize applySel 0 0 s = u at *
  have h3 := softRetarget_quiet 0 (1250000 * spV s 0 0) u
  generalize softRetarget 0 (1250000 * spV s 0 0) u = v at *
  have hsv : Quiet [PHC.RAIL_STATUS.SEL 0, PHC.RAIL_STATUS.DE 0, LGV.OPP.RATE, STA.EXIT_BOUND.DORMANT] s v :=
    (h1.mono (by simp)).trans (h3.mono (by simp))
  have hsafe : safeOn v = true := (getB_congr (hsv.getF (by decide) (by decide))).trans h
  have hrate := refreshRate_le hsafe
  have h4 := refreshRate_quiet v
  generalize refreshRate v = w at *
  unfold boundShow
  refine ⟨(hsv.trans (h4.mono (by simp))).setSat _ _ (by simp), ?_, hrate⟩
  rw [getF_setSat_ne _ _ (by decide), h4.getF (by decide) (by decide), h3.getF (by decide) (by decide), h2]
  rfl

end Sys2Proof.Machine
end

section
/-! SUPPORT. What the recorder's own steps leave (chapter 16). -/

namespace Sys2Proof.Machine

/-- The fields that storing, closing and flushing can change. -/
def recorderFields : List Fld :=
  [EVR.STATUS.FLUSHING, EVR.STATUS.LOSS, EVR.STATUS.BUF_UNCORR, EVR.NEXT_SEQ_LO.SEQ, EVR.NEXT_SEQ_HI.SEQ, EVR.OLDEST_SEQ_LO.SEQ,
    EVR.OLDEST_SEQ_HI.SEQ, EVR.PTR.WRITE, EVR.PTR.OLDEST, EVR.COUNTS.DROPPED, FLC.STATUS.QUEUE_OVF, FLC.INJECT.ARM, FLC.INJECT_STATUS.FIRED,
    FLC.INJECT_STATUS.LAST_CHECKER]

namespace Quiet

theorem setEvr {l : List Fld} {s t : State} (x : EvrState) (h : Quiet l s t) : Quiet l s (Machine.setEvr x t) :=
  ⟨h.sta, h.acts, h.inbox, fieldsBut_with h.fields rfl⟩

theorem injectAt {s t : State} (k w : Nat) (m : Assoc Nat) (h : Quiet recorderFields s t) :
    Quiet recorderFields s (Machine.injectAt k w m t).1 := by
  rcases injectAt_cases k w m t with he | he
  · rw [he]
    exact h
  · rw [he]
    exact ((h.setB _ _ (by simp [recorderFields])).setB _ _ (by simp [recorderFields])).setF _ _ (by simp [recorderFields])

theorem setW {l : List Fld} {s t : State} (lo hi : Fld) (v : Nat) (hlo : lo ∈ l) (hhi : hi ∈ l) (h : Quiet l s t) :
    Quiet l s (Machine.setW t lo hi v) := (h.setF lo _ hlo).setF hi _ hhi

theorem keepBound {l : List Fld} {s t : State} (h : Quiet l s t) : Quiet l s (Machine.keepBound t) := by
  unfold Machine.keepBound
  split
  · exact h.setEvr _
  · exact h

theorem showOldest {s t : State} (h : Quiet recorderFields s t) : Quiet recorderFields s (Machine.showOldest t) := by
  unfold Machine.showOldest
  split
  · exact (h.setW _ _ _ (by simp [recorderFields]) (by simp [recorderFields])).setF _ _ (by simp [recorderFields])
  · exact (h.setW _ _ _ (by simp [recorderFields]) (by simp [recorderFields])).setF _ _ (by simp [recorderFields])

theorem storeRec {s t : State} (typ : Nat) (body : List Nat) (h : Quiet recorderFields s t) :
    Quiet recorderFields s (Machine.storeRec typ body t) := by
  unfold Machine.storeRec
  split
  · exact h
  · next g _ =>
    dsimp only
    refine Quiet.showOldest (Quiet.keepBound (Quiet.setF _ _ (by simp [recorderFields]) (Quiet.setW _ _ _ (by simp [recorderFields])
      (by simp [recorderFields]) ?_)))
    exact ((h.injectAt _ _ _).setEvr _).setEvr _

theorem closeGran {s t : State} (h : Quiet recorderFields s t) : Quiet recorderFields s (Machine.closeGran t) := by
  unfold Machine.closeGran
  split
  · split
    · exact h
    · dsimp only
      exact ((h.storeRec _ _).ite h).setEvr _
  · exact h

theorem giveUp {l : List Fld} {s t : State} (g : List Gran) (h : Quiet l s t) : Quiet l s (Machine.giveUp g t) :=
  List.foldlRecOn (motive := Quiet l s) _ _ (h.setEvr _) fun _ hu _ _ => hu.setEvr _

theorem skipBad {s t : State} (h : Quiet recorderFields s t) : Quiet recorderFields s (Machine.skipBad t) := by
  refine List.foldlRecOn (motive := Quiet recorderFields s) _ _ h fun u hu g _ => ?_
  split
  · exact ((hu.sendFault _ _ _ (.inr (by simp [recorderFields]))).setB _ _ (by simp [recorderFields])).giveUp _
  · exact hu

theorem flushStart {s t : State} (trig : Nat) (h : Quiet recorderFields s t) : Quiet recorderFields s (Machine.flushStart trig t) := by
  have h1 := ((h.closeGran.skipBad).setEvr { (Machine.skipBad (Machine.closeGran t)).evr with flush := trig, job := [], head := [] }).setB
    EVR.STATUS.FLUSHING true (by simp [recorderFields])
  unfold Machine.flushStart
  extract_lets s0 src s1 all old s2 h3 keep heads cut s3 h1'
  have hs1 : Quiet recorderFields s s1 := h1
  clear_value s1
  have hs3 : Quiet recorderFields s s3 := (hs1.setEvr _).giveUp _
  clear_value s3
  exact hs1.ite (hs3.setEvr _)

theorem flushBegin {s t : State} (trig : Nat) (h : Quiet recorderFields s t) : Quiet recorderFields s (Machine.flushBegin trig t) := by
  unfold Machine.flushBegin
  split
  · exact h.flushStart trig
  · split
    · exact h.setEvr _
    · split
      · exact h
      · exact h.setEvr _

end Quiet

end Sys2Proof.Machine
end

section
/-! SUPPORT. The recorder's flush, the wake from a rest state, quick stops and start-up faults: what they leave. -/

namespace Sys2Proof.Machine

section
variable {L : List Part} {lo : Nat} {z s : State}

theorem sealOn_agree (p : Nat) (typ : Nat) (origin : Nat) (ctx : Nat) (hops : Nat) (body : List Nat) (hL : Within [.bal] L) (hlo : lo ≤
    0x1202000) (hz : Agree L lo z s) : Agree L lo z (sealOn p typ origin ctx hops body s) := by
  unfold sealOn
  with_reducible repeat' (first
      | assumption | exact .inl rfl | exact .inl ⟨rfl, rfl, rfl, rfl, rfl⟩ | exact .inl ⟨rfl, rfl⟩
      | apply setW_agree | apply setBal_agree | split | simp only | apply mk_agree | exact Within.of (by decide) hL
      | exact hlo.trans (by decide) | (simp only [BAL.TXCNT_LO.COUNTER, BAL.TXCNT_HI.COUNTER, fld]; omega))

theorem sealJob_agree (body : List Nat) (hL : Within [.bal] L) (hlo : lo ≤ 0x1202000) (hz : Agree L lo z s) : Agree L lo z (sealJob body
    s) := by
  unfold sealJob
  with_reducible repeat' (first
      | assumption | apply sealOn_agree)

theorem sendHold_agree (late : Bool) (reason : Nat) (ext : Nat) (seq : Nat) (hL : Within [.msgs, .drg, .bal] L) (hlo : lo ≤ 0xa00600) (hz
    : Agree L lo z s) : Agree L lo z (sendHold late reason ext seq s) := by
  unfold sendHold
  with_reducible repeat' (first
      | assumption | exact .inl rfl | exact .inl ⟨rfl, rfl, rfl, rfl, rfl⟩ | exact .inl ⟨rfl, rfl⟩ | exact .inr (hL.mem (by decide))
      | apply sealJob_agree | apply setSat_agree | apply setF_agree | apply setB_agree | apply event_agree | simp only [agree_mk_eq]
      | apply mk_agree | exact Within.of (by decide) hL | exact hlo.trans (by decide))

theorem retarget_agree (k : Nat) (tgt : Nat) (delay : Nat) (hL : Within [.phc] L) (hlo : lo ≤ 0xc0080b) (hz : Agree L lo z s) : Agree L lo
    z (retarget k tgt delay s) := by
  unfold retarget
  with_reducible repeat' (first
      | assumption | apply setRail_agree | apply deExit_agree | split | simp only)

theorem applySel_agree (k : Nat) (sel : Nat) (hL : Within [.phc] L) (hlo : lo ≤ 0xc00800) (hz : Agree L lo z s) : Agree L lo z (applySel k
    sel s) := by
  unfold applySel
  with_reducible repeat' (first
      | assumption | exact .inl rfl | exact .inl ⟨rfl, rfl, rfl, rfl, rfl⟩ | exact .inl ⟨rfl, rfl⟩ | exact .inr (hL.mem (by decide))
      | apply setF_agree | apply retarget_agree | apply deExit_agree | split | simp only [agree_mk_eq] | apply mk_agree
      | exact Within.of (by decide) hL | exact hlo.trans (by decide) | (simp only [PHC.RAIL_STATUS.SEL, fld]; omega))

theorem enterProbe_agree (k : Nat) (hL : Within [.drg, .phc] L) (hlo : lo ≤ 0xc0080b) (hz : Agree L lo z s) : Agree L lo z (enterProbe k
    s) := by
  unfold enterProbe
  with_reducible repeat' (first
      | assumption | apply railOff_agree | apply setRail_agree | exact Within.of (by decide) hL)

theorem slotBegin_agree (hL : Within [.drg, .phc] L) (hlo : lo ≤ 0xc0080b) (hz : Agree L lo z s) : Agree L lo z (slotBegin s) := by
  unfold slotBegin
  with_reducible repeat' (first
      | assumption | apply enterProbe_agree | apply foldl_agree | split | (intro _) | simp only)

theorem startFault_agree (k : Nat) (kind : Nat) (cause : Nat) (info : Nat) (hL : Within [.msgs, .drg, .phc, .sta, .ends] L) (hlo : lo ≤
    0xc0080b) (hz : Agree L lo z s) : Agree L lo z (startFault k kind cause info s) := by
  unfold startFault
  with_reducible repeat' (first
      | assumption | exact .inl rfl | exact .inl ⟨rfl, rfl, rfl, rfl, rfl⟩ | exact .inl ⟨rfl, rfl⟩
      | apply railOff_agree | apply sendFault_agree | apply setF_agree | apply regate_agree | apply restEnds_agree | apply stopNext_agree
      | apply beginStop_agree | split | simp only [agree_mk_eq] | apply mk_agree | exact Within.of (by decide) hL
      | exact hlo.trans (by decide) | (simp only [PHC.RAIL_SEQ.CAUSE, fld]; omega))

theorem softRetarget_agree (k : Nat) (tgt : Nat) (hL : Within [.phc] L) (hz : Agree L lo z s) : Agree L lo z (softRetarget k tgt s) := by
  unfold softRetarget
  with_reducible repeat' (first
      | assumption | apply setRail_agree | split | simp only)

theorem setDue_agree (t : Nat) (hL : Within [.phc] L) (hz : Agree L lo z s) : Agree L lo z (setDue t s) := by
  unfold setDue
  with_reducible repeat' (first
      | assumption | exact .inl rfl | exact .inl ⟨rfl, rfl, rfl, rfl, rfl⟩ | exact .inl ⟨rfl, rfl⟩ | exact .inr (hL.mem (by decide))
      | simp only [agree_mk_eq] | apply mk_agree)

theorem beginStart_agree (hL : Within [.phc] L) (hlo : lo ≤ 0xc08180) (hz : Agree L lo z s) : Agree L lo z (beginStart s) := by
  unfold beginStart
  with_reducible repeat' (first
      | assumption | exact .inl rfl | exact .inl ⟨rfl, rfl, rfl, rfl, rfl⟩ | exact .inl ⟨rfl, rfl⟩ | exact .inr (hL.mem (by decide))
      | apply setSeqState_agree | apply setB_agree | split | simp only [agree_mk_eq] | apply mk_agree | exact Within.of (by decide) hL
      | exact hlo.trans (by decide))

theorem quickNext_agree (hL : Within [.drg, .phc] L) (hlo : lo ≤ 0xc0080b) (hz : Agree L lo z s) : Agree L lo z (quickNext s) := by
  unfold quickNext
  with_reducible repeat' (first
      | assumption | exact .inl rfl | exact .inl ⟨rfl, rfl, rfl, rfl, rfl⟩ | exact .inl ⟨rfl, rfl⟩
      | apply setDue_agree | apply railOff_agree | apply setStop_agree | apply setSeqState_agree | apply setB_agree
      | apply beginStart_agree | split | simp only | apply mk_agree | exact Within.of (by decide) hL
      | exact hlo.trans (by decide))

theorem quickStop_agree (hL : Within [.drg, .phc, .sta, .ends] L) (hlo : lo ≤ 0xc0080b) (hz : Agree L lo z s) : Agree L lo z (quickStop s)
    := by
  unfold quickStop
  with_reducible repeat' (first
      | assumption | apply quickNext_agree | apply setStop_agree | apply setSeqState_agree | apply regate_agree | apply restEnds_agree
      | split | exact Within.of (by decide) hL | exact hlo.trans (by decide))

theorem applySelect_agree (k : Nat) (sel : Nat) (hL : Within [.phc] L) (hlo : lo ≤ 0xc00800) (hz : Agree L lo z s) : Agree L lo z
    (applySelect k sel s) := by
  unfold applySelect
  with_reducible repeat' (first
      | assumption | apply softRetarget_agree | apply applySel_agree)

theorem boundShow_agree (hlo : lo ≤ 0x1400280) (hz : Agree L lo z s) : Agree L lo z (boundShow s) := by
  unfold boundShow
  with_reducible repeat' (first
      | assumption | apply setSat_agree | exact hlo.trans (by decide))

theorem wakeBegin_agree (hL : Within [.drg, .phc, .sta] L) (hlo : lo ≤ 0xc00800) (hz : Agree L lo z s) : Agree L lo z (wakeBegin s) := by
  unfold wakeBegin
  with_reducible repeat' (first
      | assumption | exact .inl rfl | exact .inl ⟨rfl, rfl, rfl, rfl, rfl⟩ | exact .inl ⟨rfl, rfl⟩
      | apply boundShow_agree | apply applySelect_agree | apply setSta_agree | apply setF_agree | apply retarget_agree
      | apply slotBegin_agree | apply setStop_agree | apply railOff_agree | apply foldl_agree | split | (intro _)
      | simp only | apply mk_agree | exact Within.of (by decide) hL | exact hlo.trans (by decide))

theorem addLost_agree (first : Nat) (n : Nat) (hL : Within [.evr] L) (hz : Agree L lo z s) : Agree L lo z (addLost first n s) := by
  unfold addLost
  with_reducible repeat' (first
      | assumption | apply setEvr_agree)

theorem setLast_agree (g : Gran) (hL : Within [.evr] L) (hz : Agree L lo z s) : Agree L lo z (setLast g s) := by
  unfold setLast
  with_reducible repeat' (first
      | assumption | apply setEvr_agree)

theorem showOldest_agree (hlo : lo ≤ 0x1a00200) (hz : Agree L lo z s) : Agree L lo z (showOldest s) := by
  unfold showOldest
  with_reducible repeat' (first
      | assumption | apply setF_agree | apply setW_agree | split | exact hlo.trans (by decide))

theorem keepBound_agree (hL : Within [.evr] L) (hz : Agree L lo z s) : Agree L lo z (keepBound s) := by
  unfold keepBound
  with_reducible repeat' (first
      | assumption | apply setEvr_agree | split)

theorem storeRec_agree (typ : Nat) (body : List Nat) (hL : Within [.evr] L) (hlo : lo ≤ 0x1a00100) (hz : Agree L lo z s) : Agree L lo z
    (storeRec typ body s) := by
  unfold storeRec
  with_reducible repeat' (first
      | assumption | exact .inl rfl | exact .inl ⟨rfl, rfl, rfl, rfl, rfl⟩ | exact .inl ⟨rfl, rfl⟩
      | apply injectAt_agree | apply setEvr_agree | apply setLast_agree | apply setF_agree | apply setW_agree | apply showOldest_agree
      | apply keepBound_agree | split | simp only [agree_mk_eq] | apply mk_agree | exact Within.of (by decide) hL
      | exact hlo.trans (by decide))

theorem markFlushed_agree (slots : List Nat) (hL : Within [.evr] L) (hz : Agree L lo z s) : Agree L lo z (markFlushed slots s) := by
  unfold markFlushed
  with_reducible repeat' (first
      | assumption | apply setEvr_agree)

theorem giveUp_agree (l : List Gran) (hL : Within [.evr] L) (hz : Agree L lo z s) : Agree L lo z (giveUp l s) := by
  unfold giveUp
  with_reducible repeat' (first
      | assumption | apply addLost_agree | apply markFlushed_agree | apply foldl_agree | (intro _))

theorem closeGran_agree (hL : Within [.evr] L) (hlo : lo ≤ 0x1a00100) (hz : Agree L lo z s) : Agree L lo z (closeGran s) := by
  unfold closeGran
  with_reducible repeat' (first
      | assumption | apply storeRec_agree | apply setEvr_agree | split)

theorem bufBad_agree (off : Nat) (hL : Within [.msgs] L) (hlo : lo ≤ 0x1a00083) (hz : Agree L lo z s) : Agree L lo z (bufBad off s) := by
  unfold bufBad
  with_reducible repeat' (first
      | assumption | apply setB_agree | apply sendFault_agree | exact Within.of (by decide) hL | exact hlo.trans (by decide))

theorem skipBad_agree (hL : Within [.msgs, .evr] L) (hlo : lo ≤ 0x1a00083) (hz : Agree L lo z s) : Agree L lo z (skipBad s) := by
  unfold skipBad
  with_reducible repeat' (first
      | assumption | apply giveUp_agree | apply bufBad_agree | apply foldl_agree | split | (intro _) | exact Within.of (by decide) hL)

theorem flushStart_agree (trig : Nat) (hL : Within [.msgs, .evr] L) (hlo : lo ≤ 0x1a00080) (hz : Agree L lo z s) : Agree L lo z
    (flushStart trig s) := by
  unfold flushStart
  with_reducible repeat' (first
      | assumption | exact .inl rfl | exact .inl ⟨rfl, rfl, rfl, rfl, rfl⟩ | exact .inl ⟨rfl, rfl⟩
      | apply skipBad_agree | apply closeGran_agree | apply setB_agree | apply setEvr_agree | apply markFlushed_agree | apply giveUp_agree
      | split | simp only [agree_mk_eq] | apply mk_agree | exact Within.of (by decide) hL | exact hlo.trans (by decide))

theorem flushBegin_agree (trig : Nat) (hL : Within [.msgs, .evr] L) (hlo : lo ≤ 0x1a00080) (hz : Agree L lo z s) : Agree L lo z
    (flushBegin trig s) := by
  unfold flushBegin
  with_reducible repeat' (first
      | assumption | exact .inl rfl | exact .inl ⟨rfl, rfl, rfl, rfl, rfl⟩ | exact .inl ⟨rfl, rfl⟩
      | apply flushStart_agree | apply setEvr_agree | split | simp only [agree_mk_eq] | apply mk_agree | exact Within.of (by decide) hL)

end

end Sys2Proof.Machine
end

section
/-! O42. The safe state is entered. -/

namespace Sys2Proof.Machine

/-- The safe state is on record, with its cause (R313). -/
def safeNoted (cause : Nat) (s : State) : State :=
  setF (setB (setSta { s.sta with safeDue := 0 } s) STA.SAFE_STATUS.SAFE true) STA.SAFE_STATUS.CAUSE cause

/-- It is told, and the governor lowers its cap and its rate. -/
def safeTold (cause : Nat) (s : State) : State :=
  fixedCheck (lgvSafe (event 0x0A05 [cause] (sendFault 0xA3 0xA20 cause (safeNoted cause s))))

/-- VCORE's select falls, unless at rest. -/
def safeLowered (cause : Nat) (s : State) : State :=
  if selectWaits (safeTold cause s) then safeTold cause s else safeSelect (safeTold cause s)

theorem safeEnter_eq {cause : Nat} {s : State} (h : safeOn s = false) : safeEnter cause s =
    if fwRuns (hbStop (addAct .planStop none 0 (safeLowered cause s))) then
      setF (hbStop (addAct .planStop none 0 (safeLowered cause s))) FW.STATUS.RUN_STATE runSafe
    else hbStop (addAct .planStop none 0 (safeLowered cause s)) := by
  unfold safeEnter
  rw [h, if_neg (by decide)]
  extract_lets src s1 s2 s3 s4 s5
  have h3 : safeTold cause s = s3 := rfl
  have h4 : safeLowered cause s = s4 := by
    unfold safeLowered safeSelect
    rw [h3]
  rw [h4]

theorem safeNoted_shown (cause : Nat) (s : State) : (safeNoted cause s).sta = { s.sta with safeDue := 0 } ∧
    (safeNoted cause s).inbox = s.inbox ∧ safeOn (safeNoted cause s) = true ∧
    getF (safeNoted cause s) STA.SAFE_STATUS.CAUSE = cause % 8 ∧
    fieldsBut [STA.SAFE_STATUS.SAFE, STA.SAFE_STATUS.CAUSE] s (safeNoted cause s) := by
  refine ⟨rfl, rfl, ?_, getF_setF_self .., fieldsBut_setF (by simp) (fieldsBut_setB (by simp) (fieldsBut_regs rfl))⟩
  exact (getB_setF_ne _ _ (by decide)).trans (getB_setB_self _ _ _ rfl)

/-- The fields that the safe state changes beside its own. -/
def safeFields : List Fld :=
  [FLC.STATUS.QUEUE_OVF, EVR.COUNTS.DROPPED, LGV.EFF_CAP.EFF_CAP, LGV.STATUS.BOOST_GRANTED, LGV.OPP.RATE, PSQ.STATUS.FIXED_BEAT_ACTIVE,
    PHC.RAIL_STATUS.SEL 0, PHC.RAIL_STATUS.DE 0, STA.EXIT_BOUND.DORMANT]

theorem safeTold_shown {cause : Nat} {s : State} : Quiet safeFields (safeNoted cause s) (safeTold cause s) ∧
    (roomMsg s → messageWaits 0xA3 0xA20 cause (safeTold cause s)) ∧ (safeTold cause s).drg.rate ≤ 80 ∧
    getF (safeTold cause s) LGV.EFF_CAP.EFF_CAP ≤ 800 ∧ safeOn (safeTold cause s) = true := by
  obtain ⟨-, hin, hsafe, -, -⟩ := safeNoted_shown cause s
  unfold safeTold
  generalize safeNoted cause s = u at *
  have hmsg := fun hr => messageWaits_sendFault (k := 0xA3) (src := 0xA20) (i := cause) (roomMsg_congr hin hr)
  have hq : Quiet safeFields u (event 0x0A05 [cause] (sendFault 0xA3 0xA20 cause u)) :=
    ((Quiet.refl safeFields u).sendFault 0xA3 0xA20 cause (.inr (by simp [safeFields]))).event _ _ (by simp [safeFields])
  have hmsg2 : roomMsg s → messageWaits 0xA3 0xA20 cause (event 0x0A05 [cause] (sendFault 0xA3 0xA20 cause u)) := fun hr =>
    messageWaits_of_sub (hmsg hr) inbox_event
  generalize event 0x0A05 [cause] (sendFault 0xA3 0xA20 cause u) = v at *
  have hsv : safeOn v = true := (getB_congr (hq.getF (by decide) (by decide))).trans hsafe
  obtain ⟨g1, g2, g3⟩ := lgvSafe_shown hsv
  generalize lgvSafe v = w at *
  obtain ⟨f1, f2⟩ := fixedCheck_shown w
  generalize fixedCheck w = x at *
  have hall : Quiet safeFields u x := hq.trans ((g1.mono (by simp [safeFields])).trans (f1.mono (by simp [safeFields])))
  refine ⟨hall, fun hr => messageWaits_of_sub (hmsg2 hr) fun y hy => f1.inbox y (g1.inbox y hy), by rw [f2]; exact g3, ?_, ?_⟩
  · rw [f1.getF (by decide) (by decide)]; exact g2
  · exact (getB_congr (hall.getF (by decide) (by decide))).trans hsafe

theorem safeLowered_shown {cause : Nat} {s : State} : Quiet safeFields (safeNoted cause s) (safeLowered cause s) ∧
    (roomMsg s → messageWaits 0xA3 0xA20 cause (safeLowered cause s)) ∧ (safeLowered cause s).drg.rate ≤ 80 ∧
    getF (safeLowered cause s) LGV.EFF_CAP.EFF_CAP ≤ 800 ∧
    (atRest s = false → getF (safeLowered cause s) (PHC.RAIL_STATUS.SEL 0) = 0) := by
  obtain ⟨-, -, -, -, hf⟩ := safeNoted_shown cause s
  obtain ⟨h1, h2, h3, h4, h5⟩ := safeTold_shown (cause := cause) (s := s)
  have hrest : atRest (safeTold cause s) = atRest s := by
    unfold atRest restState
    rw [h1.getF (by decide) (by decide), hf _ (by decide) (by decide)]
  unfold safeLowered
  generalize safeNoted cause s = u at *
  generalize safeTold cause s = v at *
  split
  · next hw =>
    refine ⟨h1, h2, h3, h4, fun h => absurd hw ?_⟩
    unfold selectWaits
    rw [hrest, h, Bool.false_and]
    exact Bool.false_ne_true
  · obtain ⟨g1, g2, g3⟩ := safeSelect_shown h5
    refine ⟨h1.trans (g1.mono (by simp [safeFields])), fun hr => messageWaits_of_sub (h2 hr) g1.inbox, g3, ?_, fun _ => g2⟩
    rw [g1.getF (by decide) (by decide)]
    exact h4

/-- All the fields that the entry changes. -/
def safeEntryFields : List Fld := safeFields ++ [STA.SAFE_STATUS.SAFE, STA.SAFE_STATUS.CAUSE, FLC.STATUS.HB_RUN, FW.STATUS.RUN_STATE] ++ recorderFields

/-- What entering the safe state shows (R313). -/
structure SafeShown (cause : Nat) (s t : State) : Prop where
  sta : t.sta = { s.sta with safeDue := 0 }
  safe : safeOn t = true
  shown : getF t STA.SAFE_STATUS.CAUSE = cause % 8
  rate : t.drg.rate ≤ 80
  cap : getF t LGV.EFF_CAP.EFF_CAP ≤ 800
  beat : getB t FLC.STATUS.HB_RUN = false
  sel : atRest s = false → getF t (PHC.RAIL_STATUS.SEL 0) = 0
  stop : ∃ x ∈ t.acts, x.kind = .planStop
  run : fwRuns s = true → runState t = runSafe
  told : roomMsg s → messageWaits 0xA3 0xA20 cause t
  inbox : ∀ x ∈ s.inbox, x ∈ t.inbox
  fields : fieldsBut safeEntryFields s t

/-- The heartbeat ends and a plan stop is asked for; the firmware's state follows (R313, R393). -/
theorem safeShown_of_lowered {cause : Nat} {s v : State} (hv : Quiet safeFields (safeNoted cause s) v) (hmsg : roomMsg s → messageWaits 0xA3 0xA20 cause v)
    (hrate : v.drg.rate ≤ 80) (hcap : getF v LGV.EFF_CAP.EFF_CAP ≤ 800)
    (hsel : atRest s = false → getF v (PHC.RAIL_STATUS.SEL 0) = 0) :
    SafeShown cause s (if fwRuns (hbStop (addAct .planStop none 0 v)) then setF (hbStop (addAct .planStop none 0 v)) FW.STATUS.RUN_STATE runSafe
      else hbStop (addAct .planStop none 0 v)) := by
  obtain ⟨n1, n2, n3, n4, n5⟩ := safeNoted_shown cause s
  have hruns : fwRuns (hbStop (addAct .planStop none 0 v)) = fwRuns s := by
    unfold fwRuns runState hbStop
    rw [getF_setB_ne _ _ (by decide), getF_addAct, hv.getF (by decide) (by decide), n5 _ (by decide) (by decide)]
  have hsafe : safeOn v = true := (getB_congr (hv.getF (by decide) (by decide))).trans n3
  have hcause : getF v STA.SAFE_STATUS.CAUSE = cause % 8 := (hv.getF (by decide) (by decide)).trans n4
  have hother : ∀ f : Fld, f.key ≠ FLC.STATUS.HB_RUN.key → getF (hbStop (addAct .planStop none 0 v)) f = getF v f :=
    fun f h => getF_setB_ne _ _ h
  have hbeat : getB (hbStop (addAct .planStop none 0 v)) FLC.STATUS.HB_RUN = false := getB_setB_self _ _ _ rfl
  have hstop : ∃ x ∈ (hbStop (addAct .planStop none 0 v)).acts, x.kind = .planStop := ⟨⟨.planStop, false, none, 0⟩, by simp [hbStop, addAct], rfl⟩
  have hsta : (hbStop (addAct .planStop none 0 v)).sta = { s.sta with safeDue := 0 } := hv.sta.trans n1
  have hdrg : (hbStop (addAct .planStop none 0 v)).drg = v.drg := rfl
  have hin : (hbStop (addAct .planStop none 0 v)).inbox = v.inbox := rfl
  rw [hruns]
  generalize hbStop (addAct .planStop none 0 v) = w at *
  have hmsg2 : roomMsg s → messageWaits 0xA3 0xA20 cause w := fun hr => (messageWaits_congr hin).2 (hmsg hr)
  have hsub : ∀ x ∈ s.inbox, x ∈ w.inbox := fun x hx => hin ▸ hv.inbox x (n2 ▸ hx)
  have hfields : fieldsBut safeEntryFields s w := by
    refine fieldsBut_trans (fieldsBut_mono n5 (by simp [safeEntryFields])) (fieldsBut_trans (fieldsBut_mono hv.fields fun f hf => ?_) fun f hf _ => ?_)
    · exact List.mem_append_left _ (List.mem_append_left _ hf)
    · exact hother f fun he => hf (he ▸ List.mem_map_of_mem (f := fun g : Fld => g.key) (a := FLC.STATUS.HB_RUN) (by simp [safeEntryFields]))
  split
  · have hw : ∀ f : Fld, f.key ≠ FW.STATUS.RUN_STATE.key → getF (setF w FW.STATUS.RUN_STATE runSafe) f = getF w f := fun f h => getF_setF_ne _ _ h
    refine ⟨hsta, ?_, ?_, hdrg ▸ hrate, ?_, (getB_congr (hw _ (by decide))).trans hbeat, fun h => ?_, hstop, fun _ => getF_setF_self .., hmsg2, hsub,
      fieldsBut_setF (by simp [safeEntryFields]) hfields⟩
    · exact (getB_congr ((hw _ (by decide)).trans (hother _ (by decide)))).trans hsafe
    · exact (hw _ (by decide)).trans ((hother _ (by decide)).trans hcause)
    · rw [hw _ (by decide), hother _ (by decide)]; exact hcap
    · rw [hw _ (by decide), hother _ (by decide)]; exact hsel h
  · next hno =>
    refine ⟨hsta, (getB_congr (hother _ (by decide))).trans hsafe, (hother _ (by decide)).trans hcause, hdrg ▸ hrate, ?_, hbeat, fun h => ?_, hstop,
      fun h => absurd h hno, hmsg2, hsub, hfields⟩
    · rw [hother _ (by decide)]; exact hcap
    · rw [hother _ (by decide)]; exact hsel h

theorem safeEnter_shown {cause : Nat} {s : State} (h : safeOn s = false) : SafeShown cause s (safeEnter cause s) := by
  obtain ⟨h1, h2, h3, h4, h5⟩ := safeLowered_shown (cause := cause) (s := s)
  rw [safeEnter_eq h]
  exact safeShown_of_lowered h1 h2 h3 h4 h5

/-- The safe state asks for a flush besides (R382). -/
theorem safeNow_shown {cause : Nat} {s : State} (h : safeOn s = false) : SafeShown cause s (safeNow cause s) := by
  obtain ⟨h1, h2, h3, h4, h5, h6, h7, h8, h9, h10, h11, h12⟩ := safeEnter_shown (cause := cause) h
  unfold safeNow
  rw [h, if_neg (by decide)]
  generalize safeEnter cause s = u at *
  have hq := (Quiet.refl recorderFields u).flushBegin 2
  have hdrg : (flushBegin 2 u).drg = u.drg := (flushBegin_agree (L := [.msgs, .evr]) (lo := 0) 2 (.self _) (Nat.zero_le _) (.refl ..)).drg (by decide)
  generalize flushBegin 2 u = t at *
  refine ⟨hq.sta.trans h1, (getB_congr (hq.getF (by decide) (by decide))).trans h2, (hq.getF (by decide) (by decide)).trans h3, hdrg ▸ h4, ?_,
    (getB_congr (hq.getF (by decide) (by decide))).trans h6, fun h => (hq.getF (by decide) (by decide)).trans (h7 h), hq.acts ▸ h8,
    fun h => (hq.getF (by decide) (by decide)).trans (h9 h), fun hr => messageWaits_of_sub (h10 hr) hq.inbox,
    fun x hx => hq.inbox x (h11 x hx), fieldsBut_trans h12 (fieldsBut_mono hq.fields fun f hf => ?_)⟩
  · rw [hq.getF (by decide) (by decide)]
    exact h5
  · exact List.mem_append_right _ hf

theorem staCmd_ownReg : OwnReg 0xA000C := ⟨rfl, by decide +kernel, by decide +kernel, by decide +kernel, fun _ => notIts_false rfl rfl rfl rfl⟩

end Sys2Proof.Machine

open Sys2Proof Sys2Proof.Machine

/-- Settles O42: who asks first is noted, and the state's entry by its parts. -/
theorem safeStateLowersTheModule : Obligations.SafeStateLowersTheModule := by
  unfold Obligations.SafeStateLowersTheModule
  intro dt s a ha
  have hn : noEnd a := ha ▸ noEnd_advance dt s
  have hask : ∀ agent : Byte, mayWrite a agent.toNat 0xA000C = true → busWrite agent.toNat 0xA000C 2 15 a = safeAsk 4 a := fun agent hmay =>
    busWrite_own (t := enterSafe 2 (staWake 2 a)) staCmd_ownReg hmay (by decide) rfl
  refine ⟨fun agent hmay => ⟨fun hsafe hdue => ?_, fun h => ?_⟩, fun h => ?_, fun hdue hsafe hr => ?_⟩
  · have hx : noEnd (setSta { a.sta with safeDue := 4 } a) := hn
    refine answers_eq ha (exec_enterSafe ..) rfl (u := setSta { a.sta with safeDue := 4 } a) ((hask agent hmay).trans ?_) ?_
    · unfold safeAsk
      rw [hsafe, hdue]
      rfl
    · exact ⟨settle_sta hx, fieldsBut_settle hx fun f _ _ => rfl, (waitingSame_settle hx).2 ⟨rfl, rfl, rfl, rfl, rfl⟩⟩
  · refine answers_untouched ha (exec_enterSafe ..) rfl ((hask agent hmay).trans (if_pos ?_))
    rcases h with h | h
    · rw [h]; rfl
    · rw [bne_iff_ne.2 h, Bool.or_true]
  · exact answers_untouched ha (exec_safeStateEnter ..) rfl (if_pos h)
  · obtain ⟨h1, h2, h3, h4, h5, h6, h7, h8, h9, h10, -, -⟩ := safeNow_shown (cause := a.sta.safeDue) hsafe
    refine answers_eq ha (exec_safeStateEnter ..) rfl (if_neg hdue) ?_
    generalize safeNow a.sta.safeDue a = t at *
    have hx : noEnd t := ⟨(congrArg StaState.endDeep h1).trans hn.1, (congrArg StaState.endLate h1).trans hn.2⟩
    have hset : ∀ f : Fld, f.key ≠ TST.CTRL.OVERRIDE.key → getF (settle t) f = getF t f := fun f hf => getF_settle _ hx hf
    refine ⟨(getB_congr (hset _ (by decide))).trans h2, (hset _ (by decide)).trans h3, by rw [settle_sta hx, h1], by rw [settle_drg hx]; exact h4, ?_,
      (getB_congr (hset _ (by decide))).trans h6, fun h => (hset _ (by decide)).trans (h7 h), by rw [settle_acts hx]; exact h8,
      fun h => (hset _ (by decide)).trans (h9 h), (messageWaits_settle hx).2 (h10 hr)⟩
    rw [hset _ (by decide)]
    exact h5
end

section
/-! SUPPORT. A packet that completes: its entry, and what else it leaves as it was. -/

namespace Sys2Proof.Machine

/-- Neither LAST_APPLIED nor a vector moves what the registers, the units but CMD and the inputs hold. -/
def CompletedBut (pkts : List OutPkt) (a t : State) : Prop :=
  t.cmd.pkts = pkts ∧ waitingSame a t ∧ t.sta = a.sta ∧ t.inbox = a.inbox

theorem completedBut_complete {pkts : List OutPkt} {a t : State} (h : CompletedBut pkts a t) (q seq status applied detail : Nat) (irq : Bool) :
    CompletedBut pkts a (complete q seq status applied detail irq t) := by
  refine complete_of_entryPut (P := CompletedBut pkts a) ?_ (fun _ _ h => h) (fun _ _ h => h)
  unfold entryPut
  generalize hu : setCmd _ t = u
  have hput : CompletedBut pkts a u := hu ▸ h
  obtain ⟨ecc, v, hv, he⟩ := sramStore_eq (entryAddr t q / 4) 4 u
  rw [he]
  rcases hv with rfl | rfl <;> exact hput

theorem completedBut_ringRoom {pkts : List OutPkt} {a t : State} (h : CompletedBut pkts a t) (q : Nat) :
    CompletedBut pkts a (ringRoom q t) := by
  unfold ringRoom
  split
  · exact h
  · exact h

/-- The packets but the one that completes. -/
def othersOf (id : Nat) (s : State) : List OutPkt := s.cmd.pkts.filter (fun p => decide (p.id ≠ id))

theorem ne_of_mem_othersOf {id : Nat} {s : State} : ∀ y ∈ othersOf id s, y.id ≠ id := fun _ h => of_decide_eq_true (List.mem_filter.1 h).2

theorem mem_othersOf {id : Nat} {s : State} : ∀ y ∈ s.cmd.pkts, y.id ≠ id → y ∈ othersOf id s := fun _ h hne =>
  List.mem_filter.2 ⟨h, decide_eq_true hne⟩

/-- A packet that completes leaves its entry, and the other packets (R359). -/
theorem pktComplete_shown (p : OutPkt) (status applied detail : Nat) (s : State) :
    entryWritten s p.ring p.seq status applied detail (pktComplete p status applied detail s) ∧
      CompletedBut (othersOf p.id s) s (pktComplete p status applied detail s) :=
  ⟨entryWritten_ringRoom (entryWritten_complete p.ring p.seq status applied detail p.irq (pktDrop p.id s)),
    completedBut_ringRoom (completedBut_complete ⟨rfl, ⟨rfl, rfl, rfl, rfl, rfl⟩, rfl, rfl⟩ ..) _⟩

/-- The test override is no ring's CQ_TAIL. -/
theorem cqTail_ne_override (q : Nat) : (CMD.RING_CQ_TAIL.CQ_TAIL q).key ≠ TST.CTRL.OVERRIDE.key := by
  simp only [CMD.RING_CQ_TAIL.CQ_TAIL, TST.CTRL.OVERRIDE, fld]; omega

theorem entryWritten_settled {u t : State} {q seq status applied detail : Nat} (ht : noEnd t)
    (h : entryWritten u q seq status applied detail t) : entryWritten u q seq status applied detail (settle t) := by
  obtain ⟨hwin, htail⟩ := h
  exact ⟨by rw [settle_cmd ht]; exact hwin, (getF_settle t ht (cqTail_ne_override q)).trans htail⟩

/-- Where a ring's entry goes is read from its own fields. -/
theorem entryWritten_congr {a u t : State} {q seq status applied detail : Nat} (h : ∀ f ∈ cqFields q, getF u f = getF a f)
    (he : entryWritten u q seq status applied detail t) : entryWritten a q seq status applied detail t := by
  have hbase : cqBase u q = cqBase a q := congrArg (16 * ·) (h _ (by simp [cqFields]))
  have hsize : ringSize u q = ringSize a q := congrArg (2 ^ ·) (h _ (by simp [cqFields]))
  have htail := h (CMD.RING_CQ_TAIL.CQ_TAIL q) (by simp [cqFields])
  simpa only [entryWritten, hbase, hsize, htail] using he

theorem completedBut_settle {pkts : List OutPkt} {a t : State} (hn : noEnd a) (h : CompletedBut pkts a t) : CompletedBut pkts a (settle t) := by
  obtain ⟨hpkts, hwait, hsta, hin⟩ := h
  have ht := noEnd_congr hn hsta
  exact ⟨(congrArg (·.pkts) (settle_cmd ht)).trans hpkts, (waitingSame_settle ht).2 hwait, (settle_sta ht).trans hsta, (settle_inbox ht).trans hin⟩

end Sys2Proof.Machine
end

section
/-! O49. The gate, tagged packets that resume and complete, and blocks that are fetched (chapter 15). -/

namespace Sys2Proof.Machine

/-! ### The gate -/

theorem gateCtrl_write {v : Nat} {s : State} (hv : v < 2 ^ 32) :
    busWrite 0x40 0xC0020 v 15 s = if bit v 0 then gateOpen 0x40 s else gateClose 0x40 s := by
  have hmay : mayWrite s 0x40 0xC0020 = true := rfl
  have hmap : mapped 0xC0020 = true := by decide +kernel
  have hlow : isLow 0xC0020 = false := by decide +kernel
  have hhigh : isHigh 0xC0020 = false := by decide +kernel
  simp only [busWrite, hmay, hmap, hlow, hhigh, landWord, Nat.mod_eq_of_lt hv]
  rfl

/-- An agent that is not 0x40 opens and closes nothing. -/
theorem gateCtrl_foreign {agent v : Nat} {s : State} (ha : agent ≠ 0x40) (hmay : mayWrite s agent 0xC0020 = true) :
    busWrite agent 0xC0020 v 15 s = s := by
  have hmap : mapped 0xC0020 = true := by decide +kernel
  have hlow : isLow 0xC0020 = false := by decide +kernel
  have hhigh : isHigh 0xC0020 = false := by decide +kernel
  have hits : notIts agent 0xC0020 = true := by
    have hcore : coreOnly agent 0xC0020 = (agent != 0x40) := by
      unfold coreOnly; simp [inR]
    simp [notIts, hcore, ha]
  simp only [busWrite, hmay, hmap, hlow, hhigh, landWord, hits]
  rfl

/-- The held values, once released, find their places among those that are pending. -/
theorem aFind_released (g : Option Nat) (held m : Assoc PendVal) (k : Nat) (h : aSortedFrom none held = true) :
    aFind (held.foldl (fun m e => aIns m e.1 { e.2 with gate := some g }) m) k =
      match aFind held k with | some x => some { x with gate := some g } | none => aFind m k := by
  induction held generalizing m with
  | nil => rfl
  | cons e r ih =>
    obtain ⟨j, v⟩ := e
    have hr : aSortedFrom (some j) r = true := h
    rw [List.foldl_cons, ih _ (aSortedFrom_none hr), aFind]
    by_cases hk : k = j
    · subst hk
      rw [aFind_of_sortedFrom hr, if_pos rfl]
      exact aFind_aIns_self ..
    · rw [if_neg hk, aFind_aIns_ne _ _ hk]

/-- The gate with what it held released (R357). -/
def gateReleased (s : State) : State :=
  { s with held := [], pend := s.held.foldl (fun m e => aIns m e.1 { e.2 with gate := some (gateStep s) }) s.pend }

theorem gateClose_open {s : State} (h : getB s CMD.GATE_CTRL.OPEN = true) :
    gateClose 0x40 s = setB (gateReleased s) CMD.GATE_CTRL.OPEN false := by
  unfold gateClose
  rw [if_neg (by simp [h])]
  rfl

theorem gateClose_shut {s : State} (h : getB s CMD.GATE_CTRL.OPEN = false) : gateClose 0x40 s = s := by
  unfold gateClose
  rw [if_pos (by simp [h])]

/-! ### A tagged packet that resumes -/

theorem gatePut_pend (x : OutPkt) (k v : Nat) (s : State) : (gatePut x k v s).pend = aIns s.pend k ⟨v, x.id, some x.step, false⟩ := by
  unfold gatePut reactNote
  dsimp only
  repeat' split
  all_goals rfl

/-- What the values of a packet leave as it was. -/
def GateKeeps (s t : State) : Prop := t.cmd = s.cmd ∧ t.acts = s.acts ∧ t.sta = s.sta

theorem gatePut_keeps (x : OutPkt) (k v : Nat) {s t : State} (h : GateKeeps s t) : GateKeeps s (gatePut x k v t) := by
  unfold gatePut reactNote
  dsimp only
  repeat' split
  all_goals exact h

theorem foldl_gateKeeps {α : Type} {s : State} {f : State → α → State} (hf : ∀ t x, GateKeeps s t → GateKeeps s (f t x)) (l : List α) {t : State}
    (h : GateKeeps s t) : GateKeeps s (l.foldl f t) := by
  induction l generalizing t with
  | nil => exact h
  | cons x r ih => exact ih (hf _ _ h)

theorem gateItem_keeps (x : OutPkt) (i : Nat × Nat × Nat) {s t : State} (h : GateKeeps s t) : GateKeeps s (gateItem x i t) := by
  unfold gateItem
  split
  · exact h
  · exact foldl_gateKeeps (fun _ _ h => gatePut_keeps _ _ _ h) _ h

/-- The values of a packet, before its action: the first part of `gateAll`. -/
def gateValues (x : OutPkt) (s : State) : State :=
  match x.op with
  | 0x01 => (itemsFrom x.body).foldl (fun t i => gateItem x i t) s
  | 0x0C => gatePut x LGV.CAP.CAP.key (min 4095 (ofLE (x.body.take 2))) s
  | 0x3A =>
    let k := nth x.body 0
    gatePut x (FLC.POLICY.ACTION k).key (nth x.body 1)
      (gatePut x (FLC.POLICY.W k).key (ofLE ((x.body.drop 4).take 4)) (gatePut x (FLC.POLICY.N k).key (nth x.body 2) s))
  | _ => s

def gateAction (x : OutPkt) (s : State) : State := match x.act with | some k => addAct k x.step x.id s | none => s

theorem gateAll_eq (x : OutPkt) (s : State) :
    gateAll x s = pktUpd x.id (fun y => { y with st := 1 }) (gateAction x (gateValues x s)) := by
  unfold gateAll gateAction gateValues
  rfl

theorem gateValues_keeps (x : OutPkt) (s : State) : GateKeeps s (gateValues x s) := by
  have h : GateKeeps s s := ⟨rfl, rfl, rfl⟩
  unfold gateValues
  split
  · exact foldl_gateKeeps (fun _ _ h => gateItem_keeps _ _ h) _ h
  · exact gatePut_keeps _ _ _ h
  · exact gatePut_keeps _ _ _ (gatePut_keeps _ _ _ (gatePut_keeps _ _ _ h))
  · exact h

theorem gateValues_pend_set {x : OutPkt} (s : State) (h : x.op = 0x0C) :
    aFind (gateValues x s).pend LGV.CAP.CAP.key = some ⟨min 4095 (ofLE (x.body.take 2)), x.id, some x.step, false⟩ := by
  unfold gateValues
  rw [h]
  exact (congrArg (aFind · _) (gatePut_pend ..)).trans (aFind_aIns_self ..)

theorem gateValues_pend_policy {x : OutPkt} (s : State) (h : x.op = 0x3A) (k : Nat) (hk : k = nth x.body 0) :
    aFind (gateValues x s).pend (FLC.POLICY.ACTION k).key = some ⟨nth x.body 1, x.id, some x.step, false⟩ ∧
    aFind (gateValues x s).pend (FLC.POLICY.W k).key = some ⟨ofLE ((x.body.drop 4).take 4), x.id, some x.step, false⟩ ∧
    aFind (gateValues x s).pend (FLC.POLICY.N k).key = some ⟨nth x.body 2, x.id, some x.step, false⟩ := by
  subst hk
  have hWA : (FLC.POLICY.W (nth x.body 0)).key ≠ (FLC.POLICY.ACTION (nth x.body 0)).key := by simp [FLC.POLICY.W, FLC.POLICY.ACTION, fld]
  have hNA : (FLC.POLICY.N (nth x.body 0)).key ≠ (FLC.POLICY.ACTION (nth x.body 0)).key := by simp [FLC.POLICY.N, FLC.POLICY.ACTION, fld]
  have hNW : (FLC.POLICY.N (nth x.body 0)).key ≠ (FLC.POLICY.W (nth x.body 0)).key := by simp [FLC.POLICY.N, FLC.POLICY.W, fld]
  unfold gateValues
  rw [h]
  simp only [gatePut_pend]
  refine ⟨aFind_aIns_self .., ?_, ?_⟩
  · rw [aFind_aIns_ne _ _ hWA, aFind_aIns_self]
  · rw [aFind_aIns_ne _ _ hNA, aFind_aIns_ne _ _ hNW, aFind_aIns_self]

theorem gateValues_pend_items {x : OutPkt} (s : State) (h : x.op = 0x01) :
    (gateValues x s).pend = ((itemsFrom x.body).foldl (fun v i => gateItem x i v) s).pend := by
  unfold gateValues
  rw [h]
  rfl

theorem gateValues_pend_other {x : OutPkt} (s : State) (h1 : x.op ≠ 0x01) (h2 : x.op ≠ 0x0C) (h3 : x.op ≠ 0x3A) : (gateValues x s).pend = s.pend := by
  unfold gateValues
  split
  · exact absurd ‹_› h1
  · exact absurd ‹_› h2
  · exact absurd ‹_› h3
  · rfl

theorem gateAction_shown (x : OutPkt) (s : State) : (gateAction x s).pend = s.pend ∧ (gateAction x s).cmd = s.cmd ∧ (gateAction x s).sta = s.sta ∧
    (gateAction x s).acts = (match x.act with | some k => s.acts ++ [⟨k, false, x.step, x.id⟩] | none => s.acts) := by
  unfold gateAction
  split <;> exact ⟨rfl, rfl, rfl, rfl⟩

/-- A packet whose values may go on waits for its boundary with all of them (R356, R357). -/
theorem gateAll_gated {x : OutPkt} {s : State} (hx : x ∈ s.cmd.pkts) : gated x s (gateAll x s) ∧ (gateAll x s).sta = s.sta := by
  obtain ⟨hcmd, hacts, hsta⟩ := gateValues_keeps x s
  obtain ⟨hpend, hcmd2, hsta2, hact⟩ := gateAction_shown x (gateValues x s)
  rw [gateAll_eq]
  refine ⟨⟨⟨{ x with st := 1 }, ?_, rfl, rfl⟩, fun h => ?_, fun k h hk => ?_, fun h => ?_, fun h1 h2 h3 => ?_, ?_⟩, hsta2.trans hsta⟩
  · refine List.mem_map.2 ⟨x, ?_, if_pos rfl⟩
    rw [hcmd2, hcmd]
    exact hx
  · exact (congrArg (aFind · _) hpend).trans (gateValues_pend_set s h)
  · have hp := gateValues_pend_policy s h k hk
    rw [← hpend] at hp
    exact hp
  · exact hpend.trans (gateValues_pend_items s h)
  · exact hpend.trans (gateValues_pend_other s h1 h2 h3)
  · rw [hacts] at hact
    exact hact

theorem gated_settle {x : OutPkt} {u t : State} (ht : noEnd t) (h : gated x u t) : gated x u (settle t) := by
  unfold gated at *
  rw [settle_cmd ht, settle_pend ht, settle_acts ht]
  exact h

theorem taggedResume_next {x : OutPkt} {s : State} (hon : compOn s 1 = true) (h : s.cmd.pkts.find? (fun x => x.st == 0 && !tagClash s x) = some x) :
    taggedResume s = gateAll x s := by
  unfold taggedResume
  rw [if_neg (by simp [hon]), h]

theorem taggedResume_idle {s : State} (h : compOn s 1 = false ∨ s.cmd.pkts.find? (fun x => x.st == 0 && !tagClash s x) = none) :
    taggedResume s = s := by
  unfold taggedResume
  rcases h with h | h
  · rw [if_pos (by simp [h])]
  · rw [h]; simp

/-! ### Completion -/

theorem taggedCompletion_idle {s : State} (h : compOn s 1 = false ∨ nextDone s = none) : taggedCompletion s = s := by
  unfold taggedCompletion
  rcases h with h | h
  · rw [if_pos (by simp [h])]
  · rw [h]; simp

theorem taggedCompletion_plain {x : OutPkt} {s : State} (hon : compOn s 1 = true) (hx : nextDone s = some x) (h : x.tag = 0) :
    taggedCompletion s = pktComplete x x.status x.applied x.detail s := by
  unfold taggedCompletion
  rw [if_neg (by simp [hon]), hx]
  exact if_pos h

theorem taggedCompletion_tagged {x : OutPkt} {s : State} (hon : compOn s 1 = true) (hx : nextDone s = some x) (h : x.tag ≠ 0) :
    taggedCompletion s = pktComplete x (tagStatus x (x.doneAt.getD s.time.step)).1 (tagStatus x (x.doneAt.getD s.time.step)).2
      (tagDetail s x (x.doneAt.getD s.time.step)) s := by
  unfold taggedCompletion
  rw [if_neg (by simp [hon]), hx]
  exact if_neg h

theorem tagStatus_partial {x : OutPkt} (n : Nat) (h : (tagApplied x).1 < (tagApplied x).2) : tagStatus x n = (0x0002, (tagApplied x).1) := if_pos h

theorem tagStatus_capUnmet {x : OutPkt} (n : Nat) (h : (tagApplied x).2 ≤ (tagApplied x).1) (hop : x.op = 0x0C) (hd : x.detail / 4096 % 4 = 1) :
    tagStatus x n = (0x0003, (tagApplied x).1) := (if_neg (by omega)).trans (if_pos ⟨hop, hd⟩)

theorem tagStatus_whole {x : OutPkt} (n : Nat) (h : (tagApplied x).2 ≤ (tagApplied x).1) (hc : x.op ≠ 0x0C ∨ x.detail / 4096 % 4 ≠ 1) :
    tagStatus x n = ((match x.step with | some m => if m < n then stLate else stOk | none => stOk), (tagApplied x).1) :=
  (if_neg (by omega)).trans (if_neg (by tauto))

theorem tagStatus_late {x : OutPkt} {n m : Nat} (h : (tagApplied x).2 ≤ (tagApplied x).1) (hc : x.op ≠ 0x0C ∨ x.detail / 4096 % 4 ≠ 1)
    (hm : x.step = some m) (hlt : m < n) : tagStatus x n = (0x0001, (tagApplied x).1) := by
  rw [tagStatus_whole n h hc, hm]
  exact congrArg (·, _) (if_pos hlt)

theorem tagStatus_ok {x : OutPkt} {n : Nat} (h : (tagApplied x).2 ≤ (tagApplied x).1) (hc : x.op ≠ 0x0C ∨ x.detail / 4096 % 4 ≠ 1)
    (hm : ∀ m, x.step = some m → n ≤ m) : tagStatus x n = (0x0000, (tagApplied x).1) := by
  rw [tagStatus_whole n h hc]
  cases hs : x.step with
  | none => rfl
  | some m => exact congrArg (·, _) (if_neg (Nat.not_lt.2 (hm m hs)))

/-! ### Blocks -/

theorem fetchDone_none {q : Nat} {data : List Nat} {ok : Bool} {s : State} (h : s.cmd.pkts.find? (fun x => x.ring == q && x.st == 2) = none) :
    fetchDone q data ok s = s := by
  unfold fetchDone
  rw [h]

theorem fetchDone_arrived {q : Nat} {data : List Nat} {s : State} {x : OutPkt} (h : s.cmd.pkts.find? (fun x => x.ring == q && x.st == 2) = some x) :
    fetchDone q data true s = if data.length = ofLE ((x.body.drop 4).take 2) then pktUpd x.id (fun y => { y with st := 3, data := data }) s else s := by
  unfold fetchDone
  rw [h]
  exact if_pos rfl

/-- The state in which the fault of a failed fetch has been sent (R365). -/
def fetchFailed (q : Nat) (x : OutPkt) (s : State) : State := sendFault 0xC1 (0xC00 + q) (ofLE ((x.body.drop 12).take 4)) s

theorem fetchDone_failed {q : Nat} {data : List Nat} {s : State} {x : OutPkt} (h : s.cmd.pkts.find? (fun x => x.ring == q && x.st == 2) = some x) :
    fetchDone q data false s =
      if compOn s 1 then pktComplete x 0x0023 0 0 (fetchFailed q x s) else pktDone x.id 0x0023 0 0 (fetchFailed q x s) := by
  unfold fetchDone
  rw [h]
  exact if_neg (by decide)

/-- Packets of one number are one packet. -/
theorem pkt_eq_of_id {s : State} (hnd : (s.cmd.pkts.map (fun p => p.id)).Nodup) {x y : OutPkt} (hx : x ∈ s.cmd.pkts) (hy : y ∈ s.cmd.pkts)
    (h : y.id = x.id) : y = x := List.inj_on_of_nodup_map hnd hy hx h

theorem mem_pktUpd_self {id : Nat} {f : OutPkt → OutPkt} {s : State} {x : OutPkt} (hx : x ∈ s.cmd.pkts) (h : x.id = id) :
    f x ∈ (pktUpd id f s).cmd.pkts := List.mem_map.2 ⟨x, hx, if_pos h⟩

theorem mem_pktUpd_other {id : Nat} {f : OutPkt → OutPkt} {s : State} {y : OutPkt} (hy : y ∈ s.cmd.pkts) (h : y.id ≠ id) :
    y ∈ (pktUpd id f s).cmd.pkts := List.mem_map.2 ⟨y, hy, if_neg h⟩

end Sys2Proof.Machine

open Sys2Proof Sys2Proof.Machine

/-- Settles O49: the gate, the resumption, the completion and the fetch each by the equation of its effect. -/
theorem gateReleasesTogether : Obligations.GateReleasesTogether := by
  unfold Obligations.GateReleasesTogether
  intro dt s a ha hwait
  have hn : noEnd a := ha ▸ noEnd_advance dt s
  obtain ⟨-, -, -, -, hheld, hnodup, -⟩ := hwait
  refine ⟨?_, fun agent hagent hmay => ?_, fun hopen => ?_, fun hshut => ?_, ⟨fun x hon hnext => ?_, fun hidle => ?_⟩, fun x hon hnext => ?_,
    fun hidle => ?_, fun q data ok hwf => ⟨fun hnone => ?_, fun x hfirst => ⟨fun hlen => ?_, fun hlen => ?_, fun hroom => ?_⟩⟩⟩
  · refine answers_eq ha (exec_gateOpen ..) rfl (u := setB a CMD.GATE_CTRL.OPEN true) (gateCtrl_write (by decide)) ?_
    have hframe := (FrameBut.refl [CMD.GATE_CTRL.OPEN] a).setB true (List.mem_singleton_self _)
    obtain ⟨hwait, hunits, hfields⟩ := hframe.settle hn
    exact ⟨(getB_settle _ (hframe.noEnd hn) (by decide)).trans (getB_setB_self _ _ _ rfl), hwait, hunits, hfields⟩
  · have hne : agent.toNat ≠ 0x40 := fun h => hagent (BitVec.eq_of_toNat_eq h)
    exact ⟨answers_untouched ha (exec_gateOpen ..) rfl (gateCtrl_foreign hne hmay),
      answers_untouched ha (exec_gateClose ..) rfl (gateCtrl_foreign hne hmay)⟩
  · refine answers_eq ha (exec_gateClose ..) rfl ((gateCtrl_write (by decide)).trans (gateClose_open hopen)) ?_
    have hpend := fun k => aFind_released (gateStep a) a.held a.pend k hheld
    have hno : noEnd (setB (gateReleased a) CMD.GATE_CTRL.OPEN false) := noEnd_congr hn rfl
    have hunits : unitsSame a (setB (gateReleased a) CMD.GATE_CTRL.OPEN false) := unitsSame_refl a
    have hfields : fieldsBut [CMD.GATE_CTRL.OPEN] a (setB (gateReleased a) CMD.GATE_CTRL.OPEN false) :=
      fieldsBut_setF (List.mem_singleton_self _) (fieldsBut_with (fieldsBut_refl _ a) rfl)
    refine ⟨(getB_settle _ hno (by decide)).trans (getB_setB_self _ _ _ rfl), settle_held hno, fun k x hx => ?_, fun k hk => ?_, settle_landing hno,
      settle_frozen hno, settle_acts hno, (unitsSame_settle hno).2 hunits, fieldsBut_settle hno hfields⟩
    · rw [settle_pend hno]
      refine (hpend k).trans ?_
      rw [hx]
    · rw [settle_pend hno]
      refine (hpend k).trans ?_
      rw [hk]
  · exact answers_untouched ha (exec_gateClose ..) rfl ((gateCtrl_write (by decide)).trans (gateClose_shut hshut))
  · refine answers_eq ha (exec_taggedPacketResume ..) rfl (taggedResume_next hon hnext) ?_
    obtain ⟨hgated, hsta⟩ := gateAll_gated (List.mem_of_find?_eq_some hnext)
    exact gated_settle (noEnd_congr hn hsta) hgated
  · exact answers_untouched ha (exec_taggedPacketResume ..) rfl (taggedResume_idle hidle)
  · have hdone : ∀ status applied detail, taggedCompletion a = pktComplete x status applied detail a →
        Answers (.taggedCompletion dt) s (fun t => entryWritten a x.ring x.seq status applied detail t ∧ CompletedBut (othersOf x.id a) a t) := by
      intro status applied detail heq
      refine answers_eq ha (exec_taggedCompletion ..) rfl heq ?_
      obtain ⟨hentry, hbut⟩ := pktComplete_shown x status applied detail a
      obtain ⟨-, -, hsta, -⟩ := id hbut
      exact ⟨entryWritten_settled (noEnd_congr hn hsta) hentry, completedBut_settle hn hbut⟩
    by_cases htag : x.tag = 0
    · obtain ⟨t, hexec, hentry, hpkts, hwaits, -⟩ := hdone _ _ _ (taggedCompletion_plain hon hnext htag)
      exact ⟨t, hexec, fun y hy => ne_of_mem_othersOf y (hpkts ▸ hy), fun y hy hne => hpkts ▸ mem_othersOf y hy hne, hwaits, fun _ => hentry,
        fun h => absurd htag h⟩
    · obtain ⟨t, hexec, hentry, hpkts, hwaits, -⟩ := hdone _ _ _ (taggedCompletion_tagged hon hnext htag)
      refine ⟨t, hexec, fun y hy => ne_of_mem_othersOf y (hpkts ▸ hy), fun y hy hne => hpkts ▸ mem_othersOf y hy hne, hwaits, fun h => absurd h htag,
        fun _ n hstep => ?_⟩
      rw [← hstep] at hentry
      refine ⟨fun hpart => ?_, fun hwhole => ⟨fun hop hd => ?_, fun hc => ⟨fun m hm hlt => ?_, fun hm => ?_⟩⟩⟩
      · rwa [tagStatus_partial n hpart] at hentry
      · rwa [tagStatus_capUnmet n hwhole hop hd] at hentry
      · rwa [tagStatus_late hwhole hc hm hlt] at hentry
      · rwa [tagStatus_ok hwhole hc hm] at hentry
  · exact answers_untouched ha (exec_taggedCompletion ..) rfl (taggedCompletion_idle hidle)
  · exact answers_untouched ha (exec_blockFetchDone ..) hwf (fetchDone_none hnone)
  · have hx := List.mem_of_find?_eq_some hfirst
    refine answers_eq ha (exec_blockFetchDone ..) hwf ((fetchDone_arrived hfirst).trans (if_pos hlen)) ?_
    have hno : noEnd (pktUpd x.id (fun y => { y with st := 3, data := data }) a) := noEnd_congr hn rfl
    rw [settle_cmd hno]
    exact ⟨mem_pktUpd_self hx rfl, fun y hy hne => mem_pktUpd_other hy hne, rfl⟩
  · exact answers_untouched ha (exec_blockFetchDone ..) hwf ((fetchDone_arrived hfirst).trans (if_neg hlen))
  · have hx := List.mem_of_find?_eq_some hfirst
    have hfound : (x.ring == q && x.st == 2) = true := List.find?_some (p := fun x : OutPkt => x.ring == q && x.st == 2) hfirst
    have hring : x.ring = q := of_decide_eq_true (Bool.and_eq_true_iff.1 hfound).1
    refine answers_eq ha (exec_blockFetchDone ..) hwf (fetchDone_failed hfirst) ?_
    have hmsg : messageWaits 0xC1 (0xC00 + q) (ofLE ((x.body.drop 12).take 4)) (fetchFailed q x a) := messageWaits_sendFault hroom
    have hframe : FrameBut [] a (fetchFailed q x a) := (FrameBut.refl [] a).sendFault (.inl hroom)
    generalize fetchFailed q x a = u at hmsg hframe
    have hu := hframe.noEnd hn
    obtain ⟨-, ⟨-, -, -, hcmd, -⟩, hfields⟩ := hframe
    have hget : ∀ f ∈ cqFields q, getF u f = getF a f := fun f hf => hfields f (by simp) (by
      simp only [cqFields, List.mem_cons, List.not_mem_nil, or_false] at hf
      rcases hf with rfl | rfl | rfl <;> simp only [CMD.RING_CQ.CQ_BASE, CMD.RING_CFG.SIZE_LOG2, CMD.RING_CQ_TAIL.CQ_TAIL, TST.CTRL.OVERRIDE, fld] <;>
        omega)
    by_cases hon : compOn a 1 = true
    · rw [if_pos hon]
      obtain ⟨hentry, hbut⟩ := pktComplete_shown x 0x0023 0 0 u
      obtain ⟨-, -, hsta, hin⟩ := id hbut
      have hno := noEnd_congr hu hsta
      obtain ⟨hpkts, -⟩ := completedBut_settle hu hbut
      refine ⟨(messageWaits_settle hno).2 ((messageWaits_congr hin).2 hmsg), fun _ => ⟨?_, fun y hy => ne_of_mem_othersOf y (hpkts ▸ hy)⟩,
        fun h => absurd (hon.symm.trans h) (by decide)⟩
      rw [hring] at hentry
      exact entryWritten_settled hno (entryWritten_congr hget hentry)
    · rw [if_neg hon]
      have hno : noEnd (pktDone x.id 0x0023 0 0 u) := noEnd_congr hu rfl
      refine ⟨(messageWaits_settle hno).2 ((messageWaits_congr (s := u) rfl).2 hmsg), fun h => absurd h hon, fun _ => ?_⟩
      rw [settle_cmd hno]
      exact mem_pktUpd_self (hcmd ▸ hx) rfl
end

section
/-! O50. Mailboxes (chapter 15, R368 to R370). -/

namespace Sys2Proof.Machine

/-! ### A word that is written -/

/-- A collision, where one is counted. -/
def mbxCollided (m : Nat) (s : State) : State :=
  if getB s (MBX.STATUS.FULL m) then incF (setB s (MBX.STATUS.COLLISION m) true) (MBX.STATUS.COLLISIONS m) else s

/-- The mailbox with its word, before its vector. -/
def mbxFilled (agent m w : Nat) (s : State) : State :=
  setF (setB (setF (mbxCollided m s) (MBX.DATA.WORD m) w) (MBX.STATUS.FULL m) true) (MBX.STATUS.SENDER m) agent

theorem mbxWrite_writer {agent m w : Nat} {s : State} (h : mbxWriter s m agent = true) : mbxWrite agent m w s =
    if !getB s (MBX.CFG.IRQ_EN m) || mbxReceiver (mbxFilled agent m w s) m == 0x02 then mbxFilled agent m w s
    else raiseVec (if mbxReceiver (mbxFilled agent m w s) m = 0x40 then 32 else getF s (MBX.CFG.VECTOR m)) (mbxFilled agent m w s) := by
  unfold mbxWrite
  rw [if_neg (by simp [h])]
  rfl

theorem mbxWrite_other {agent m w : Nat} {s : State} (h : mbxWriter s m agent = false) : mbxWrite agent m w s = s := by
  unfold mbxWrite
  rw [if_pos (by simp [h])]

theorem getF_mbxCollided {m : Nat} {g : Fld} (s : State) (h1 : g.key ≠ (MBX.STATUS.COLLISION m).key) (h2 : g.key ≠ (MBX.STATUS.COLLISIONS m).key) :
    getF (mbxCollided m s) g = getF s g := by
  unfold mbxCollided
  split
  · rw [getF_incF_ne _ h2, getF_setB_ne _ _ h1]
  · rfl

theorem getF_mbxFilled {agent m w : Nat} {g : Fld} (s : State) (h1 : g.key ≠ (MBX.DATA.WORD m).key) (h2 : g.key ≠ (MBX.STATUS.FULL m).key)
    (h3 : g.key ≠ (MBX.STATUS.SENDER m).key) : getF (mbxFilled agent m w s) g = getF (mbxCollided m s) g := by
  unfold mbxFilled
  rw [getF_setF_ne _ _ h3, getF_setB_ne _ _ h2, getF_setF_ne _ _ h1]

/-- A field of the mailbox's configuration. -/
theorem getF_mbxFilled_cfg {agent m w m2 : Nat} {g : Fld} (s : State) (hg : g = MBX.CFG.AGENT_A m2 ∨ g = MBX.CFG.AGENT_B m2) :
    getF (mbxFilled agent m w s) g = getF s g := by
  rcases hg with rfl | rfl
  · rw [getF_mbxFilled s (by simp only [MBX.CFG.AGENT_A, MBX.DATA.WORD, fld]; omega) (by simp only [MBX.CFG.AGENT_A, MBX.STATUS.FULL, fld]; omega)
      (by simp only [MBX.CFG.AGENT_A, MBX.STATUS.SENDER, fld]; omega), getF_mbxCollided s
      (by simp only [MBX.CFG.AGENT_A, MBX.STATUS.COLLISION, fld]; omega) (by simp only [MBX.CFG.AGENT_A, MBX.STATUS.COLLISIONS, fld]; omega)]
  · rw [getF_mbxFilled s (by simp only [MBX.CFG.AGENT_B, MBX.DATA.WORD, fld]; omega) (by simp only [MBX.CFG.AGENT_B, MBX.STATUS.FULL, fld]; omega)
      (by simp only [MBX.CFG.AGENT_B, MBX.STATUS.SENDER, fld]; omega), getF_mbxCollided s
      (by simp only [MBX.CFG.AGENT_B, MBX.STATUS.COLLISION, fld]; omega) (by simp only [MBX.CFG.AGENT_B, MBX.STATUS.COLLISIONS, fld]; omega)]

theorem mbxFilled_collision {agent m w : Nat} {s : State} (h : getB s (MBX.STATUS.FULL m) = true) :
    getB (mbxFilled agent m w s) (MBX.STATUS.COLLISION m) = true ∧
      getF (mbxFilled agent m w s) (MBX.STATUS.COLLISIONS m) = min (getF s (MBX.STATUS.COLLISIONS m) + 1) 65535 := by
  have hcol : mbxCollided m s = incF (setB s (MBX.STATUS.COLLISION m) true) (MBX.STATUS.COLLISIONS m) := if_pos h
  have hne : (MBX.STATUS.COLLISION m).key ≠ (MBX.STATUS.COLLISIONS m).key := by simp only [MBX.STATUS.COLLISION, MBX.STATUS.COLLISIONS, fld]; omega
  refine ⟨?_, ?_⟩
  · unfold getB
    rw [getF_mbxFilled s (by simp only [MBX.STATUS.COLLISION, MBX.DATA.WORD, fld]; omega)
      (by simp only [MBX.STATUS.COLLISION, MBX.STATUS.FULL, fld]; omega) (by simp only [MBX.STATUS.COLLISION, MBX.STATUS.SENDER, fld]; omega), hcol,
      getF_incF_ne _ hne]
    exact getB_setB_self s (MBX.STATUS.COLLISION m) true rfl
  · rw [getF_mbxFilled s (by simp only [MBX.STATUS.COLLISIONS, MBX.DATA.WORD, fld]; omega)
      (by simp only [MBX.STATUS.COLLISIONS, MBX.STATUS.FULL, fld]; omega) (by simp only [MBX.STATUS.COLLISIONS, MBX.STATUS.SENDER, fld]; omega), hcol,
      getF_incF_self, getF_setB_ne _ _ hne.symm]
    rfl

theorem mbxFilled_noCollision {agent m w : Nat} {s : State} (h : getB s (MBX.STATUS.FULL m) = false) :
    getF (mbxFilled agent m w s) (MBX.STATUS.COLLISIONS m) = getF s (MBX.STATUS.COLLISIONS m) := by
  have hcol : mbxCollided m s = s := if_neg (by simp [h])
  rw [getF_mbxFilled s (by simp only [MBX.STATUS.COLLISIONS, MBX.DATA.WORD, fld]; omega)
      (by simp only [MBX.STATUS.COLLISIONS, MBX.STATUS.FULL, fld]; omega) (by simp only [MBX.STATUS.COLLISIONS, MBX.STATUS.SENDER, fld]; omega), hcol]

theorem mbxFilled_word (agent m w : Nat) (s : State) : getF (mbxFilled agent m w s) (MBX.DATA.WORD m) = w % 2 ^ 32 := by
  unfold mbxFilled
  rw [getF_setF_ne _ _ (by simp only [MBX.DATA.WORD, MBX.STATUS.SENDER, fld]; omega),
    getF_setB_ne _ _ (by simp only [MBX.DATA.WORD, MBX.STATUS.FULL, fld]; omega)]
  exact getF_setF_self ..

theorem mbxFilled_full (agent m w : Nat) (s : State) : getB (mbxFilled agent m w s) (MBX.STATUS.FULL m) = true := by
  unfold mbxFilled
  rw [getB_setF_ne _ _ (by simp only [MBX.STATUS.FULL, MBX.STATUS.SENDER, fld]; omega)]
  exact getB_setB_self _ _ _ rfl

theorem mbxFilled_sender (agent m w : Nat) (s : State) : getF (mbxFilled agent m w s) (MBX.STATUS.SENDER m) = agent % 2 ^ 8 := getF_setF_self ..

/-- A mailbox's write leaves the FULL of another as it was. -/
theorem mbxFilled_otherFull {agent m w m2 : Nat} (s : State) (h : m2 ≠ m) :
    getB (mbxFilled agent m w s) (MBX.STATUS.FULL m2) = getB s (MBX.STATUS.FULL m2) := by
  unfold getB
  rw [getF_mbxFilled s (by simp only [MBX.DATA.WORD, MBX.STATUS.FULL, fld]; omega) (by simp only [MBX.STATUS.FULL, fld]; omega)
      (by simp only [MBX.STATUS.FULL, MBX.STATUS.SENDER, fld]; omega), getF_mbxCollided s
      (by simp only [MBX.STATUS.FULL, MBX.STATUS.COLLISION, fld]; omega) (by simp only [MBX.STATUS.FULL, MBX.STATUS.COLLISIONS, fld]; omega)]

theorem mbxReceiver_filled {agent m w : Nat} {s : State} (h : agent < 256) :
    mbxReceiver (mbxFilled agent m w s) m = if agent = mbxA s m then mbxB s m else mbxA s m := by
  have hA : mbxA (mbxFilled agent m w s) m = mbxA s m := getF_mbxFilled_cfg s (.inl rfl)
  have hB : mbxB (mbxFilled agent m w s) m = mbxB s m := getF_mbxFilled_cfg s (.inr rfl)
  unfold mbxReceiver
  have hs : getF (mbxFilled agent m w s) (MBX.STATUS.SENDER m) = agent := (mbxFilled_sender agent m w s).trans (Nat.mod_eq_of_lt h)
  rw [hA, hB, hs]

/-- The registers that a written word changes. -/
def mbxFields (m : Nat) : List Fld :=
  [MBX.DATA.WORD m, MBX.STATUS.FULL m, MBX.STATUS.SENDER m, MBX.STATUS.COLLISION m, MBX.STATUS.COLLISIONS m]

theorem mbxFilled_frame (agent m w : Nat) (s : State) : FrameBut (mbxFields m) s (mbxFilled agent m w s) := by
  have hcol : FrameBut (mbxFields m) s (mbxCollided m s) := by
    have h := FrameBut.refl (mbxFields m) s
    unfold mbxCollided
    split
    · exact FrameBut.setF _ (h.setB true (by simp [mbxFields])) (by simp [mbxFields])
    · exact h
  exact ((hcol.setF w (by simp [mbxFields])).setB true (by simp [mbxFields])).setF agent (by simp [mbxFields])

/-- A written word is the filled mailbox, and at most a vector after it. -/
theorem mbxWrite_cases {agent m w : Nat} {s : State} (h : mbxWriter s m agent = true) :
    (mbxWrite agent m w s = mbxFilled agent m w s) ∨ ∃ v, mbxWrite agent m w s = raiseVec v (mbxFilled agent m w s) := by
  rw [mbxWrite_writer h]
  split
  · exact .inl rfl
  · exact .inr ⟨_, rfl⟩

/-- What holds of the filled mailbox whatever vector is raised holds of the written one. -/
theorem mbxWrite_of_filled {P : State → Prop} {agent m w : Nat} {s : State} (h : mbxWriter s m agent = true) (hp : P (mbxFilled agent m w s))
    (hvec : ∀ t v, P t → P (raiseVec v t)) : P (mbxWrite agent m w s) := by
  rcases mbxWrite_cases (w := w) h with he | ⟨v, he⟩
  · exact he ▸ hp
  · exact he ▸ hvec _ _ hp

/-- A word raises the vector of its receiver where the mailbox does so, and none towards the BMC bridge (log entry 111). -/
theorem mbxWrite_vector {agent m w dest : Nat} {s : State} (h : mbxWriter s m agent = true) (ha : agent < 256)
    (hd : dest = if agent = mbxA s m then mbxB s m else mbxA s m) :
    (getB s (MBX.CFG.IRQ_EN m) = false ∨ dest = 0x02 → (mbxWrite agent m w s).cmd = s.cmd) ∧
      (getB s (MBX.CFG.IRQ_EN m) = true → dest ≠ 0x02 → ∀ x, x = (if dest = 0x40 then 32 else getF s (MBX.CFG.VECTOR m)) →
        aGet 0 (mbxWrite agent m w s).cmd.vecs x = aGet 0 s.cmd.vecs x + 1) := by
  obtain ⟨-, ⟨-, -, -, hcmd, -⟩, -⟩ := mbxFilled_frame agent m w s
  have hrec : mbxReceiver (mbxFilled agent m w s) m = dest := (mbxReceiver_filled ha).trans hd.symm
  rw [mbxWrite_writer h, hrec]
  refine ⟨fun hno => ?_, fun hen hne x hx => ?_⟩
  · rw [if_pos (by rcases hno with hno | hno <;> simp [hno])]
    exact hcmd
  · rw [if_neg (by simp [hen, hne]), ← hx]
    unfold raiseVec
    rw [setCmd_cmd, hcmd]
    dsimp only
    exact aGet_aPut_self 0 s.cmd.vecs x _

/-! ### On the bus -/

theorem mbxData_offset {m : Nat} (hm : m < 32) : (0xC3004 + 16 * m) / 4 * 4 = 0xC3004 + 16 * m ∧ mapped (0xC3004 + 16 * m) = true ∧
    isLow (0xC3004 + 16 * m) = false ∧ isHigh (0xC3004 + 16 * m) = false ∧ hostOnly (0xC3004 + 16 * m) = false ∧
    ((0xC3004 + 16 * m) == 0x70060) = false ∧ inR (0xC3004 + 16 * m) 0x90030 0x9003C = false ∧ inR (0xC3004 + 16 * m) 0xC0020 0xC002C = false := by
  have h : ∀ m < 32, (0xC3004 + 16 * m) / 4 * 4 = 0xC3004 + 16 * m ∧ mapped (0xC3004 + 16 * m) = true ∧
    isLow (0xC3004 + 16 * m) = false ∧ isHigh (0xC3004 + 16 * m) = false ∧ hostOnly (0xC3004 + 16 * m) = false ∧
    ((0xC3004 + 16 * m) == 0x70060) = false ∧ inR (0xC3004 + 16 * m) 0x90030 0x9003C = false ∧ inR (0xC3004 + 16 * m) 0xC0020 0xC002C = false := by
    decide +kernel
  exact h m hm

theorem mbxData_ownReg {m : Nat} (hm : m < 32) : OwnReg (0xC3004 + 16 * m) := by
  obtain ⟨h1, h2, h3, h4, h5, h6, h7, h8⟩ := mbxData_offset hm
  exact ⟨h1, h2, h3, h4, fun _ => notIts_false h5 h6 h7 h8⟩

theorem mbxData_in {m : Nat} (hm : m < 32) : inR (0xC3004 + 16 * m) 0xC3000 0xC3200 = true ∧ (0xC3004 + 16 * m) % 16 = 4 ∧
    (0xC3004 + 16 * m - 0xC3000) / 16 = m := by
  refine ⟨?_, by omega, by omega⟩
  simp only [inR, Bool.and_eq_true, decide_eq_true_eq]
  omega

theorem ownWrite_mbxData {agent m w : Nat} {s : State} (hm : m < 32) : ownWrite agent (0xC3004 + 16 * m) w s = some (mbxWrite agent m w s) := by
  obtain ⟨hin, hmod, hidx⟩ := mbxData_in hm
  have hhi : (0xC3004 + 16 * m) / 0x10000 = 0xC := by omega
  have hwin : isWin (0xC3004 + 16 * m) = false := by
    simp only [isWin, inR, Bool.and_eq_false_iff, decide_eq_false_iff_not]; omega
  have hring : ringReg (0xC3004 + 16 * m) = none := by
    unfold ringReg inR
    rw [if_neg (by simp only [Bool.and_eq_true, decide_eq_true_eq]; omega)]
  unfold ownWrite
  rw [hhi]
  simp only [hwin, hring, hin, hmod, hidx]
  rw [if_neg (by omega), if_neg (by omega)]
  rfl

theorem busRead_mbxData {agent m : Nat} {s : State} (hm : m < 32) (hmay : mayRead s agent (0xC3004 + 16 * m) = true) :
    busRead agent (0xC3004 + 16 * m) none s = setBus { (mbxRead agent m s).1.bus with rdata := (mbxRead agent m s).2 } (mbxRead agent m s).1 := by
  obtain ⟨halign, hmap, -⟩ := mbxData_offset hm
  obtain ⟨hin, hmod, hidx⟩ := mbxData_in hm
  simp only [busRead, halign, hmay, hmap, hin, hmod, hidx]
  rfl

theorem mbxRead_receiver {agent m : Nat} {s : State} (h1 : mbxMode s m ≠ 0) (h2 : agent = mbxReceiver s m) :
    mbxRead agent m s = (setB s (MBX.STATUS.FULL m) false, getF s (MBX.DATA.WORD m)) := if_pos ⟨h1, h2⟩

theorem mbxRead_other {agent m : Nat} {s : State} (h : mbxMode s m = 0 ∨ agent ≠ mbxReceiver s m) : mbxRead agent m s = (s, 0) :=
  if_neg (by tauto)

/-! ### Requests -/

theorem mbxAnswer_none {m : Nat} {mine : Nat → Bool} {reply : Nat → Nat} {s : State} (h : mbxRequest s m = none) : mbxAnswer m mine reply s = s := by
  unfold mbxAnswer
  rw [h]

theorem mbxAnswer_some {m w b : Nat} {mine : Nat → Bool} {reply : Nat → Nat} {s : State} (h : mbxRequest s m = some w) (hb : replyBox m = some b) :
    mbxAnswer m mine reply s = if mine (w / 2 ^ 24) then mbxWrite 0x40 b (reply w) (mbxRead 0x40 m s).1 else s := by
  unfold mbxAnswer
  rw [h, hb]

theorem mbxRequest_some {m w : Nat} {s : State} (h : mbxRequest s m = some w) : mbxMode s m ≠ 0 ∧ 0x40 = mbxReceiver s m := by
  unfold mbxRequest at h
  split at h
  · next hc =>
    simp only [Bool.and_eq_true, bne_iff_ne, ne_eq, beq_iff_eq] at hc
    exact ⟨hc.1.2, hc.2.symm⟩
  · exact absurd h (by simp)

/-- The answer as its mailbox holds it (R370). -/
def Answered (m b r : Nat) (t : State) : Prop :=
  getF t (MBX.DATA.WORD b) = r % 2 ^ 32 ∧ getB t (MBX.STATUS.FULL b) = true ∧ getF t (MBX.STATUS.SENDER b) = 0x40 ∧
    (b ≠ m → getB t (MBX.STATUS.FULL m) = false)

theorem mbxWriter_setFull (m b agent : Nat) (x : Bool) (s : State) : mbxWriter (setB s (MBX.STATUS.FULL m) x) b agent = mbxWriter s b agent := by
  have hmode : mbxMode (setB s (MBX.STATUS.FULL m) x) b = mbxMode s b := by
    unfold mbxMode
    rw [getF_setB_ne _ _ (by simp only [MBX.CFG.MODE, MBX.STATUS.FULL, fld]; omega)]
  have hA : mbxA (setB s (MBX.STATUS.FULL m) x) b = mbxA s b := getF_setB_ne _ _ (by simp only [MBX.CFG.AGENT_A, MBX.STATUS.FULL, fld]; omega)
  have hB : mbxB (setB s (MBX.STATUS.FULL m) x) b = mbxB s b := getF_setB_ne _ _ (by simp only [MBX.CFG.AGENT_B, MBX.STATUS.FULL, fld]; omega)
  unfold mbxWriter
  rw [hmode, hA, hB]

/-- An answer that is written holds, and the request's mailbox is empty where it is another. -/
theorem mbxAnswer_answered {m w b : Nat} {mine : Nat → Bool} {reply : Nat → Nat} {s : State} (h : mbxRequest s m = some w) (hb : replyBox m = some b)
    (hmine : mine (w / 2 ^ 24) = true) (hw : mbxWriter s b 0x40 = true) :
    Answered m b (reply w) (mbxAnswer m mine reply s) ∧ (mbxAnswer m mine reply s).sta = s.sta := by
  obtain ⟨hmode, hrec⟩ := mbxRequest_some h
  rw [mbxAnswer_some h hb, if_pos hmine, mbxRead_receiver hmode hrec]
  refine mbxWrite_of_filled (P := fun t => Answered m b (reply w) t ∧ t.sta = s.sta) ((mbxWriter_setFull ..).trans hw) ?_ (fun _ _ h => h)
  refine ⟨⟨mbxFilled_word .., mbxFilled_full .., mbxFilled_sender .., fun hne => ?_⟩, ?_⟩
  · rw [mbxFilled_otherFull _ hne.symm]
    exact getB_setB_self _ _ _ rfl
  · obtain ⟨-, ⟨-, ⟨-, -, -, -, hsta, -⟩, -⟩, -⟩ := mbxFilled_frame 0x40 b (reply w) (setB s (MBX.STATUS.FULL m) false)
    exact hsta

/-- The mailboxes' registers are not the test override. -/
theorem mbx_ne_override {m : Nat} (hm : m < 32) {f : Fld}
    (hf : f ∈ mbxFields m) :
    f.key ≠ TST.CTRL.OVERRIDE.key := by
  simp only [mbxFields, List.mem_cons, List.not_mem_nil, or_false] at hf
  rcases hf with rfl | rfl | rfl | rfl | rfl <;>
    simp only [MBX.DATA.WORD, MBX.STATUS.FULL, MBX.STATUS.SENDER, MBX.STATUS.COLLISION, MBX.STATUS.COLLISIONS, TST.CTRL.OVERRIDE, fld] <;> omega

theorem replyBox_lt {m b : Nat} (hm : m < 32) (h : replyBox m = some b) : b < 32 := by
  unfold replyBox at h
  split_ifs at h <;> simp only [Option.some.injEq] at h <;> omega

theorem answered_settle {m b r : Nat} {t : State} (hm : m < 32) (hb : b < 32) (ht : noEnd t) (h : Answered m b r t) : Answered m b r (settle t) := by
  obtain ⟨hword, hfull, hsend, hother⟩ := h
  exact ⟨(getF_settle t ht (mbx_ne_override hb (by simp [mbxFields]))).trans hword, (getB_settle t ht (mbx_ne_override hb (by simp [mbxFields]))).trans hfull,
    (getF_settle t ht (mbx_ne_override hb (by simp [mbxFields]))).trans hsend, fun hne => (getB_settle t ht (mbx_ne_override hm (by simp [mbxFields]))).trans (hother hne)⟩

end Sys2Proof.Machine

open Sys2Proof Sys2Proof.Machine

/-- Settles O50: a write, a read and an answer each by what they leave of the mailboxes' registers. -/
theorem mailboxesCarryRequests : Obligations.MailboxesCarryRequests := by
  unfold Obligations.MailboxesCarryRequests
  intro dt m s a ha hm
  have hn : noEnd a := ha ▸ noEnd_advance dt s
  have hwf : decide (m < 32) = true := decide_eq_true hm
  refine ⟨fun agent v hmay => ⟨fun hwriter => ?_, fun hwriter => ?_⟩, fun agent hmay => ⟨fun hmode hrec => ?_, fun hother => ?_⟩, fun hnone => ?_,
    fun w b hreq hbox => ?_⟩
  · refine answers_eq ha (exec_mbxWrite ..) hwf (busWrite_own (mbxData_ownReg hm) hmay v.isLt (ownWrite_mbxData hm)) ?_
    have hsame := mbxWrite_of_filled (w := v.toNat)
      (P := fun t => t.regs = (mbxFilled agent.toNat m v.toNat a).regs ∧ waitingSame a t ∧ t.sta = a.sta) hwriter ?_ (fun _ _ h => h)
    case refine_1 =>
      obtain ⟨hwait, ⟨-, ⟨-, -, -, -, hsta, -⟩, -⟩, -⟩ := mbxFilled_frame agent.toNat m v.toNat a
      exact ⟨rfl, hwait, hsta⟩
    obtain ⟨hregs, hwait, hsta⟩ := hsame
    have hno := noEnd_congr hn hsta
    have hgetF : ∀ f ∈ mbxFields m, getF (settle (mbxWrite agent.toNat m v.toNat a)) f = getF (mbxFilled agent.toNat m v.toNat a) f := fun f hf =>
      (getF_settle _ hno (mbx_ne_override hm hf)).trans (getF_congr hregs f)
    have hgetB : ∀ f ∈ mbxFields m, getB (settle (mbxWrite agent.toNat m v.toNat a)) f = getB (mbxFilled agent.toNat m v.toNat a) f := fun f hf => by
      unfold getB
      rw [hgetF f hf]
    refine ⟨?_, ?_, ?_, fun hfull => ⟨?_, ?_⟩, fun hfull => ?_, fun dest hdest => ?_, (waitingSame_settle hno).2 hwait⟩
    · exact (hgetF _ (by simp [mbxFields])).trans ((mbxFilled_word ..).trans (Nat.mod_eq_of_lt v.isLt))
    · exact (hgetB _ (by simp [mbxFields])).trans (mbxFilled_full ..)
    · exact (hgetF _ (by simp [mbxFields])).trans ((mbxFilled_sender ..).trans (Nat.mod_eq_of_lt agent.isLt))
    · exact (hgetB _ (by simp [mbxFields])).trans (mbxFilled_collision hfull).1
    · exact (hgetF _ (by simp [mbxFields])).trans (mbxFilled_collision hfull).2
    · exact (hgetF _ (by simp [mbxFields])).trans (mbxFilled_noCollision hfull)
    · rw [settle_cmd hno]
      exact mbxWrite_vector hwriter agent.isLt hdest
  · exact answers_untouched ha (exec_mbxWrite ..) hwf ((busWrite_own (mbxData_ownReg hm) hmay v.isLt (ownWrite_mbxData hm)).trans (mbxWrite_other hwriter))
  · refine answers_eq ha (exec_mbxRead ..) hwf (busRead_mbxData hm hmay) ?_
    rw [mbxRead_receiver hmode hrec]
    have hempty := (FrameBut.refl [MBX.STATUS.FULL m] a).setB false (List.mem_singleton_self _)
    have hfull : getB (setB a (MBX.STATUS.FULL m) false) (MBX.STATUS.FULL m) = false := getB_setB_self _ _ _ rfl
    generalize setB a (MBX.STATUS.FULL m) false = u at hempty hfull
    obtain ⟨-, hunits, hfields⟩ := hempty
    have hno : noEnd (setBus { u.bus with rdata := getF a (MBX.DATA.WORD m) } u) := noEnd_of_unitsSame hn hunits
    refine ⟨?_, (getB_settle _ hno (mbx_ne_override hm (by simp [mbxFields]))).trans hfull, (unitsSame_settle hno).2 hunits,
      fieldsBut_settle hno hfields⟩
    rw [settle_bus hno]
    exact BitVec.toNat_ofNat ..
  · refine answers_eq ha (exec_mbxRead ..) hwf (busRead_mbxData hm hmay) ?_
    rw [mbxRead_other hother]
    have hno : noEnd (setBus { a.bus with rdata := 0 } a) := noEnd_congr hn rfl
    exact ⟨congrArg (·.rdata) (settle_bus hno), (unitsSame_settle hno).2 (unitsSame_refl a), fieldsBut_settle hno (fieldsBut_refl [] a)⟩
  · exact ⟨answers_untouched ha (exec_ping ..) hwf (mbxAnswer_none hnone), answers_untouched ha (exec_generation ..) hwf (mbxAnswer_none hnone),
      answers_untouched ha (exec_state ..) hwf (mbxAnswer_none hnone), answers_untouched ha (exec_mbxUnknownRequest ..) hwf (mbxAnswer_none hnone)⟩
  · have hdone : ∀ {i : Instr} {mine : Nat → Bool} {reply : Nat → Nat} {f : State → State}, exec i s = act i dt f s → i.wf = true →
        f a = mbxAnswer m mine reply a → mine (w / 2 ^ 24) = true → mbxWriter a b 0x40 = true → Answers i s (Answered m b (reply w)) := by
      intro i mine reply f hexec hwfi hf hmine hwriter
      refine answers_eq ha hexec hwfi hf ?_
      obtain ⟨hanswered, hsta⟩ := mbxAnswer_answered (reply := reply) hreq hbox hmine hwriter
      exact answered_settle hm (replyBox_lt hm hbox) (noEnd_congr hn hsta) hanswered
    have hnot : ∀ {i : Instr} {mine : Nat → Bool} {reply : Nat → Nat} {f : State → State}, exec i s = act i dt f s → i.wf = true →
        f a = mbxAnswer m mine reply a → mine (w / 2 ^ 24) = false → Answers i s (untouched a) := by
      intro i mine reply f hexec hwfi hf hmine
      exact answers_untouched ha hexec hwfi (hf.trans ((mbxAnswer_some hreq hbox).trans (if_neg (by rw [hmine]; decide))))
    refine ⟨fun hwriter => ⟨fun h => ?_, fun h => ?_, fun h => ?_, fun h1 h2 h3 => ?_⟩, fun h => ?_, fun h => ?_, fun h => ?_, fun h => ?_⟩
    · exact hdone (exec_ping ..) hwf rfl (beq_iff_eq.2 h) hwriter
    · exact hdone (exec_generation ..) hwf rfl (beq_iff_eq.2 h) hwriter
    · exact hdone (exec_state ..) hwf rfl (beq_iff_eq.2 h) hwriter
    · exact hdone (exec_mbxUnknownRequest ..) hwf rfl (Bool.and_eq_true_iff.2 ⟨Bool.and_eq_true_iff.2 ⟨bne_iff_ne.2 h1, bne_iff_ne.2 h2⟩, bne_iff_ne.2 h3⟩) hwriter
    · exact hnot (exec_ping ..) hwf rfl (beq_eq_false_iff_ne.2 h)
    · exact hnot (exec_generation ..) hwf rfl (beq_eq_false_iff_ne.2 h)
    · exact hnot (exec_state ..) hwf rfl (beq_eq_false_iff_ne.2 h)
    · exact hnot (exec_mbxUnknownRequest ..) hwf rfl (by rcases h with h | h | h <;> rw [h] <;> rfl)
end

section
/-! O47. The log ring and its mirror (chapter 14, R338 to R342). -/

namespace Sys2Proof.Machine

/-! ### Entries -/

/-- What an entry carries: GENERATION in the first after a start (R339). -/
def logPayload (s : State) (payload : List Nat) : List Nat :=
  if s.fw.logFirst = true then toLE 4 (getF s FW.GENERATION.GENERATION) else payload

theorem coreOf_lt {c : Nat} (hc : c < 8) : coreOf c < 4 := by
  have h : ∀ c < 8, coreOf c < 4 := by decide
  exact h c hc

theorem logPayload_lt {s : State} {payload : List Nat} (h : ∀ b ∈ payload, b < 256) : ∀ b ∈ logPayload s payload, b < 256 := by
  unfold logPayload
  split
  · exact toLE_lt _ _
  · exact h

theorem logBytes_length (s : State) (c kind id code : Nat) (p : List Nat) : (logBytes s c kind id code p).length = 32 := by
  simp [logBytes, padTo]

theorem padTo_lt {n : Nat} {p : List Nat} (h : ∀ b ∈ p, b < 256) : ∀ b ∈ padTo n p, b < 256 := by
  intro b hb
  rcases List.mem_append.1 hb with hb | hb
  · exact h b hb
  · rw [List.eq_of_mem_replicate hb]
    decide

/-- The bytes of an entry are bytes (Table 14-6). -/
theorem logBytes_lt {s : State} {c kind id code : Nat} {p : List Nat} (hc : c < 8) (hk : kind < 2) (hp : ∀ b ∈ p, b < 256) :
    ∀ b ∈ logBytes s c kind id code p, b < 256 := by
  have hcore := coreOf_lt hc
  have htake : ∀ b ∈ p.take 16, b < 256 := fun b hb => hp b (List.mem_of_mem_take hb)
  have hlen : (p.take 16).length < 256 := by rw [List.length_take]; omega
  unfold logBytes
  simp only [List.mem_append, List.mem_cons, List.not_mem_nil, or_false]
  rintro b (((((h | h) | h | h) | h) | h | h) | h)
  · exact toLE_lt _ _ b h
  · exact toLE_lt _ _ b h
  · omega
  · omega
  · exact toLE_lt _ _ b h
  · omega
  · omega
  · exact padTo_lt htake b h

/-- The registers and the check bits of an entry's place. -/
def logPlaced (s : State) : State :=
  sramStore (logWord s.fw.logNext) 8 (setF (setF s FW.LOG_SEQ.SEQ s.fw.logNext) FW.LOG_STATUS.WRITE_INDEX ((s.fw.logNext + 1) % 2048))

theorem logEntry_written {c kind id code : Nat} {payload : List Nat} {s : State} (hon : compOn s c = true) (hw : logWanted s c kind id = true)
    (hrate : (logRecent s c).length < max 1 (getF s FW.LOG_CTRL.LOG_RATE)) : logEntry c kind id code payload s =
      setFw { (logPlaced s).fw with
        log := memPut (logPlaced s).fw.log (32 * (s.fw.logNext % 2048)) (logBytes s c kind id code (logPayload s payload))
        logNext := s.fw.logNext + 1
        logFirst := false
        logAt := aPut [] (logPlaced s).fw.logAt c (logRecent s c ++ [s.time.ticks]) } (logPlaced s) := by
  unfold logEntry
  rw [if_neg (by simp [hon, hw]), if_neg (by omega)]
  rfl

theorem logEntry_late {c kind id code : Nat} {payload : List Nat} {s : State} (hon : compOn s c = true) (hw : logWanted s c kind id = true)
    (hrate : max 1 (getF s FW.LOG_CTRL.LOG_RATE) ≤ (logRecent s c).length) : logEntry c kind id code payload s = incF s FW.LOG_DROP.DROPPED := by
  unfold logEntry
  rw [if_neg (by simp [hon, hw]), if_pos hrate]

theorem logEntry_unwanted {c kind id code : Nat} {payload : List Nat} {s : State} (h : compOn s c = false ∨ logWanted s c kind id = false) :
    logEntry c kind id code payload s = s := by
  unfold logEntry
  rw [if_pos (by rcases h with h | h <;> simp [h])]

/-- No trace point in confidential mode (R341). -/
theorem logWanted_confidential {s : State} (c id : Nat) (h : confOn s = true) : logWanted s c 1 id = false := by
  simp [logWanted, traceMask, h, bit]

theorem logPlaced_shown (s : State) : (logPlaced s).fw = s.fw ∧ (logPlaced s).sta = s.sta ∧
    getF (logPlaced s) FW.LOG_SEQ.SEQ = s.fw.logNext % 2 ^ 32 ∧ getF (logPlaced s) FW.LOG_STATUS.WRITE_INDEX = (s.fw.logNext + 1) % 2048 := by
  have hseq : getF (setF (setF s FW.LOG_SEQ.SEQ s.fw.logNext) FW.LOG_STATUS.WRITE_INDEX ((s.fw.logNext + 1) % 2048)) FW.LOG_SEQ.SEQ =
      s.fw.logNext % 2 ^ 32 := (getF_setF_ne _ _ (by decide)).trans (getF_setF_self ..)
  have hidx : getF (setF (setF s FW.LOG_SEQ.SEQ s.fw.logNext) FW.LOG_STATUS.WRITE_INDEX ((s.fw.logNext + 1) % 2048)) FW.LOG_STATUS.WRITE_INDEX =
      (s.fw.logNext + 1) % 2048 := (getF_setF_self ..).trans (Nat.mod_mod_of_dvd _ (by decide))
  have hsta : (setF (setF s FW.LOG_SEQ.SEQ s.fw.logNext) FW.LOG_STATUS.WRITE_INDEX ((s.fw.logNext + 1) % 2048)).sta = s.sta := rfl
  have hfw : (setF (setF s FW.LOG_SEQ.SEQ s.fw.logNext) FW.LOG_STATUS.WRITE_INDEX ((s.fw.logNext + 1) % 2048)).fw = s.fw := rfl
  unfold logPlaced
  generalize setF (setF s _ _) _ _ = u at hseq hidx hsta hfw
  obtain ⟨ecc, v, hv, he⟩ := sramStore_eq (logWord s.fw.logNext) 8 u
  rw [he]
  rcases hv with rfl | rfl
  · exact ⟨hfw, hsta, hseq, hidx⟩
  · refine ⟨hfw, hsta, ?_, ?_⟩
    · rw [getF_setCmd]
      unfold injectFired
      simp (disch := decide) only [getF_setF_ne, getF_setB_ne, hseq]
    · rw [getF_setCmd]
      unfold injectFired
      simp (disch := decide) only [getF_setF_ne, getF_setB_ne, hidx]

/-! ### The mirror -/

/-- What stops no component and restarts nothing is all that happens (R327, R329). -/
theorem failing_eq {f : State → State} {s : State} (hr : (f s).fw.restarts = s.fw.restarts)
    (hon : ∀ c < 8, compOn s c = true → compOn (f s) c = true) : failing f s = f s := by
  have htrial : trialGuard f s = f s := by
    unfold trialGuard
    exact if_pos (.inr hr)
  have hcut : ∀ l : List Nat, (∀ c ∈ l, c < 8) →
      l.foldl (fun t c => if compOn s c && !compOn (f s) c && runState (f s) != runGap then cutComp c t else t) (f s) = f s := by
    intro l hl
    induction l with
    | nil => rfl
    | cons c l ih =>
      have hno : (compOn s c && !compOn (f s) c) = false := by
        cases h : compOn s c with
        | false => rfl
        | true => simp [hon c (hl c (by simp)) h]
      rw [List.foldl_cons, hno]
      exact ih (fun x hx => hl x (by simp [hx]))
  unfold failing cutStopped
  rw [htrial]
  exact hcut _ (fun c hc => List.mem_range.1 hc)

/-- Whether a component runs is read from two registers. -/
theorem compOn_congr {s t : State} {c : Nat} (h1 : getF t FW.STATUS.RUN_STATE = getF s FW.STATUS.RUN_STATE)
    (h2 : getF t (FW.COMP_STATUS.STATE c) = getF s (FW.COMP_STATUS.STATE c)) : compOn t c = compOn s c := by
  unfold compOn fwRuns runState compState
  rw [h1, h2]

/-- The registers that a mirror copy can change say nothing of what runs. -/
def mirrorFields : List Fld := [FW.LOG_MIRROR_SEQ.SEQ, FLC.STATUS.QUEUE_OVF, FW.LOG_STATUS.MIRROR_ERR, FW.LOG_CTRL.MIRROR_EN]

theorem compOn_of_mirrorFields {s t : State} {c : Nat} (hc : c < 8) (h : fieldsBut mirrorFields s t) : compOn t c = compOn s c := by
  have hkeys : ∀ c < 8, (FW.COMP_STATUS.STATE c).key ∉ mirrorFields.map (fun g => g.key) ∧
      (FW.COMP_STATUS.STATE c).key ≠ TST.CTRL.OVERRIDE.key := by decide
  obtain ⟨h1, h2⟩ := hkeys c hc
  exact compOn_congr (h _ (by decide) (by decide)) (h _ h1 h2)

theorem mirrorCopy_off {ok : Bool} {s : State} (h : mirrorOn s = false ∨ compOn s 7 = false ∨ s.fw.logNext ≤ s.fw.mirrorNext) :
    logMirrorCopy ok s = s := by
  unfold logMirrorCopy
  rw [if_pos (by rcases h with h | h | h <;> simp [h])]

/-- The place of an entry in the host's buffer (R342). -/
def mirrorOff (s : State) (n : Nat) : Nat := 32 * (n % 2 ^ (getC s FW.LOG_MIRROR_SIZE.SIZE_LOG2 16 24 - 5))

/-- The entry has gone out. -/
def mirrored (s : State) (n : Nat) : State :=
  setF (setFw { s.fw with mirrorNext := n + 1, mirrorOut := some (getW s FW.LOG_MIRROR_LO.ADDR FW.LOG_MIRROR_HI.ADDR + mirrorOff s n,
    memBytes s.fw.log (32 * (n % 2048)) 32) } s) FW.LOG_MIRROR_SEQ.SEQ n

/-- The mirror has stopped (R342). -/
def mirrorFailed (s : State) (n : Nat) : State := mirrorStop (setB (sendFault 0xB6 0xB31 (mirrorOff s n) s) FW.LOG_STATUS.MIRROR_ERR true)

theorem mirrorCopy_on {n : Nat} {ok : Bool} {s : State} (h1 : mirrorOn s = true) (h2 : compOn s 7 = true) (h3 : s.fw.mirrorNext < s.fw.logNext)
    (hn : n = max s.fw.mirrorNext (s.fw.logNext - 2048)) (hecc : sramCheck s (logWord n) 8 = 0) :
    logMirrorCopy ok s = if ok then mirrored s n else mirrorFailed s n := by
  subst hn
  unfold logMirrorCopy
  rw [if_neg (by simp [h1, h2, h3])]
  extract_lets n off s1 out src
  have hn : sramCheck s (logWord n) 8 = 0 := hecc
  have hs1 : s1 = s := if_neg (by rw [hn]; decide)
  rw [if_neg (by rw [hn]; decide)]
  simp only [out, src, hs1]
  cases ok <;> rfl

theorem mirrored_frame (s : State) (n : Nat) : fieldsBut [FW.LOG_MIRROR_SEQ.SEQ] s (mirrored s n) :=
  fieldsBut_setF (List.mem_singleton_self _) (fieldsBut_with (fieldsBut_refl _ s) rfl)

theorem mirrorFailed_frame (s : State) (n : Nat) : FrameBut mirrorFields s (mirrorFailed s n) :=
  (((FrameBut.refl mirrorFields s).sendFault (.inr (by simp [mirrorFields]))).setB true (by simp [mirrorFields])).setB false
    (by simp [mirrorFields])

theorem mirrorFailed_shown {s : State} (n : Nat) (hr : roomMsg s) : getB (mirrorFailed s n) FW.LOG_STATUS.MIRROR_ERR = true ∧
    getB (mirrorFailed s n) FW.LOG_CTRL.MIRROR_EN = false ∧ messageWaits 0xB6 0xB31 (mirrorOff s n) (mirrorFailed s n) := by
  have hmsg : messageWaits 0xB6 0xB31 (mirrorOff s n) (sendFault 0xB6 0xB31 (mirrorOff s n) s) := messageWaits_sendFault hr
  unfold mirrorFailed mirrorStop
  generalize sendFault _ _ _ _ = u at hmsg
  refine ⟨?_, getB_setB_self _ _ _ rfl, hmsg⟩
  rw [getB_setB_ne _ _ (by decide)]
  exact getB_setB_self _ _ _ rfl

/-- A copy stops no component. -/
theorem failing_mirrorCopy {n : Nat} {ok : Bool} {s : State} (h1 : mirrorOn s = true) (h2 : compOn s 7 = true) (h3 : s.fw.mirrorNext < s.fw.logNext)
    (hn : n = max s.fw.mirrorNext (s.fw.logNext - 2048)) (hecc : sramCheck s (logWord n) 8 = 0) :
    failing (logMirrorCopy ok) s = if ok then mirrored s n else mirrorFailed s n := by
  have hcopy := mirrorCopy_on (ok := ok) h1 h2 h3 hn hecc
  cases ok with
  | false =>
    obtain ⟨-, ⟨-, -, hfw, -⟩, hfields⟩ := mirrorFailed_frame s n
    refine (failing_eq ?_ fun c hc h => ?_).trans hcopy
    · exact (congrArg (fun t : State => t.fw.restarts) hcopy).trans (congrArg (·.restarts) hfw)
    · rw [hcopy]
      exact (compOn_of_mirrorFields hc hfields).trans h
  | true =>
    have hfields := fieldsBut_mono (m := mirrorFields) (mirrored_frame s n) (by simp [mirrorFields])
    refine (failing_eq ?_ fun c hc h => ?_).trans hcopy
    · exact (congrArg (fun t : State => t.fw.restarts) hcopy).trans rfl
    · rw [hcopy]
      exact (compOn_of_mirrorFields hc hfields).trans h

theorem failing_mirrorCopy_off {ok : Bool} {s : State} (h : mirrorOn s = false ∨ compOn s 7 = false ∨ s.fw.logNext ≤ s.fw.mirrorNext) :
    failing (logMirrorCopy ok) s = s := by
  have hcopy := mirrorCopy_off (ok := ok) h
  exact (failing_eq (by rw [hcopy]) (fun c _ hc => by rwa [hcopy])).trans hcopy

end Sys2Proof.Machine

open Sys2Proof Sys2Proof.Machine

/-- Settles O47: an entry's bytes and place, its count beyond the rate, and the two ends of a mirror copy. -/
theorem logEntriesAreWrittenAndMirrored : Obligations.LogEntriesAreWrittenAndMirrored := by
  unfold Obligations.LogEntriesAreWrittenAndMirrored
  intro dt s a ha
  have hn : noEnd a := ha ▸ noEnd_advance dt s
  refine ⟨fun c kind id code payload hwf => ⟨fun hon hw hrate => ?_, fun hon hw hrate => ?_, fun h => ?_⟩, fun h1 h2 h3 n hnext hecc off hoff =>
    ⟨?_, fun hroom => ?_⟩, fun h ok => answers_untouched ha (exec_logMirrorCopy ..) rfl (failing_mirrorCopy_off h)⟩
  · have hwf2 := hwf
    simp only [Instr.wf, Bool.and_eq_true, decide_eq_true_eq, List.all_eq_true] at hwf2
    obtain ⟨⟨⟨⟨⟨hc, hkind⟩, -⟩, -⟩, -⟩, hpay⟩ := hwf2
    refine answers_eq ha (exec_logEntry ..) hwf (logEntry_written hon hw hrate) ?_
    obtain ⟨hfw, hsta, hseq, hidx⟩ := logPlaced_shown a
    have hlen := logBytes_length a c kind id code (logPayload a payload)
    have hbytes := memBytes_memPut _ a.fw.log (32 * (a.fw.logNext % 2048))
      (logBytes_lt (s := a) (id := id) (code := code) hc hkind (logPayload_lt (s := a) hpay))
    have hout := fun q => memByte_memPut_out (logBytes a c kind id code (logPayload a payload)) a.fw.log (32 * (a.fw.logNext % 2048)) q
    rw [hlen] at hbytes
    rw [hfw]
    generalize logPlaced a = u at hfw hsta hseq hidx
    generalize hx : ({ a.fw with log := _, logNext := _, logFirst := _, logAt := _ } : FwState) = x
    have hno : noEnd (setFw x u) := noEnd_congr hn hsta
    have hfields : ∀ f, getF (setFw x u) f = getF u f := fun f => rfl
    rw [settle_fw hno]
    refine ⟨hx ▸ rfl, ?_, ?_, ?_, fun q hq => ?_⟩
    · rw [getF_settle _ hno (by decide)]; exact hseq
    · rw [getF_settle _ hno (by decide)]; exact hidx
    · subst hx
      exact hbytes
    · subst hx
      exact hout q (by rw [hlen]; exact hq)
  · refine answers_eq ha (exec_logEntry ..) hwf (logEntry_late hon hw hrate) ?_
    have hno : noEnd (incF a FW.LOG_DROP.DROPPED) := noEnd_congr hn rfl
    have hunits := (unitsSame_settle hno).2 (unitsSame_refl a)
    refine ⟨(getF_settle _ hno (by decide)).trans (getF_incF_self ..), hunits, ?_, fieldsBut_settle hno
      (fieldsBut_setF (List.mem_singleton_self _) (fieldsBut_refl _ a))⟩
    obtain ⟨⟨-, -, hpxe, hpsq⟩, -, hfw, hcmd, hevr, -, -, hupd⟩ := hunits
    intro k
    rw [hpxe, hpsq, hfw, hcmd, hevr, hupd]
    simp
  · refine answers_untouched ha (exec_logEntry ..) hwf (logEntry_unwanted ?_)
    rcases h with h | h | ⟨hconf, rfl⟩
    · exact .inl h
    · exact .inr h
    · exact .inr (logWanted_confidential c id hconf)
  · refine answers_eq ha (exec_logMirrorCopy ..) rfl ((failing_mirrorCopy (ok := true) h1 h2 h3 hnext hecc).trans (if_pos rfl)) ?_
    have hno : noEnd (mirrored a n) := noEnd_congr hn rfl
    rw [settle_fw hno]
    exact ⟨rfl, (getF_settle _ hno (by decide)).trans (getF_setF_self ..), hoff ▸ rfl, fieldsBut_settle hno (mirrored_frame a n)⟩
  · refine answers_eq ha (exec_logMirrorCopy ..) rfl ((failing_mirrorCopy (ok := false) h1 h2 h3 hnext hecc).trans (if_neg (by decide))) ?_
    obtain ⟨herr, hen, hmsg⟩ := mirrorFailed_shown n hroom
    obtain ⟨-, hunits, -⟩ := mirrorFailed_frame a n
    have hno := noEnd_of_unitsSame hn hunits
    obtain ⟨-, -, hfw, -⟩ := hunits
    exact ⟨(getB_settle _ hno (by decide)).trans herr, (getB_settle _ hno (by decide)).trans hen, hoff ▸ (messageWaits_settle hno).2 hmsg,
      (settle_fw hno).trans hfw⟩
end

section
/-! SUPPORT. What entering the safe state leaves. -/

namespace Sys2Proof.Machine

section
variable {L : List Part} {lo : Nat} {z s : State}

theorem lgvSafe_agree (hL : Within [.drg, .lgv] L) (hlo : lo ≤ 0xe00e08) (hz : Agree L lo z s) : Agree L lo z (lgvSafe s) := by
  unfold lgvSafe
  with_reducible repeat' (first
      | assumption | apply setF_agree | apply setLgv_agree | apply boostCheck_agree | apply setB_agree | exact Within.of (by decide) hL
      | exact hlo.trans (by decide))

theorem hbStop_agree (hlo : lo ≤ 0x1a01082) (hz : Agree L lo z s) : Agree L lo z (hbStop s) := by
  unfold hbStop
  with_reducible repeat' (first
      | assumption | apply setB_agree | exact hlo.trans (by decide))

theorem safeEnter_agree (cause : Nat) (hL : Within [.msgs, .waits, .drg, .phc, .lgv, .sta] L) (hlo : lo ≤ 0x80040e) (hz : Agree L lo z s)
    : Agree L lo z (safeEnter cause s) := by
  unfold safeEnter
  with_reducible repeat' (first
      | assumption | exact .inl rfl | exact .inl ⟨rfl, rfl, rfl, rfl, rfl⟩ | exact .inl ⟨rfl, rfl⟩
      | apply setSta_agree | apply setF_agree | apply setB_agree | apply event_agree | apply sendFault_agree | apply fixedCheck_agree
      | apply lgvSafe_agree | apply boundShow_agree | apply refreshRate_agree | apply applySelect_agree | apply hbStop_agree
      | apply addAct_agree | split | simp only | apply mk_agree | exact Within.of (by decide) hL
      | exact hlo.trans (by decide))

theorem safeNow_agree (cause : Nat) (hL : Within [.msgs, .waits, .drg, .phc, .lgv, .sta, .evr] L) (hlo : lo ≤ 0x80040e) (hz : Agree L lo z
    s) : Agree L lo z (safeNow cause s) := by
  unfold safeNow
  with_reducible repeat' (first
      | assumption | apply safeEnter_agree | apply flushBegin_agree | split | exact Within.of (by decide) hL | exact hlo.trans (by decide))

end

end Sys2Proof.Machine
end

section
/-! SUPPORT. What the end of a component's work leaves of the firmware's own state (R361, R365, R281, R423). -/

namespace Sys2Proof.Machine

/-- The firmware's state and the registers of the blocks STA and FW (0xA0000 to 0xBFFFF) are as before, and no message is lost. -/
structure CutKeeps (s t : State) : Prop where
  fw : t.fw = s.fw
  sta : t.sta = s.sta
  tmg : t.tmg = s.tmg
  inbox : ∀ x ∈ s.inbox, x ∈ t.inbox
  regs : ∀ f : Fld, 32 * 0xA0000 ≤ f.key → f.key < 32 * 0xC0000 → getF t f = getF s f

namespace CutKeeps

variable {s t : State}

theorem refl (s : State) : CutKeeps s s := ⟨rfl, rfl, rfl, fun _ h => h, fun _ _ _ => rfl⟩

theorem setF (h : CutKeeps s t) (f : Fld) (v : Nat) (hf : f.key < 32 * 0xA0000 ∨ 32 * 0xC0000 ≤ f.key) : CutKeeps s (setF t f v) :=
  ⟨h.fw, h.sta, h.tmg, h.inbox, fun g h1 h2 => (getF_setF_ne _ _ (by omega)).trans (h.regs g h1 h2)⟩

theorem setB (h : CutKeeps s t) (f : Fld) (v : Bool) (hf : f.key < 32 * 0xA0000 ∨ 32 * 0xC0000 ≤ f.key) : CutKeeps s (setB t f v) :=
  h.setF f _ hf

theorem setCmd (h : CutKeeps s t) (x : CmdState) : CutKeeps s (setCmd x t) := ⟨h.fw, h.sta, h.tmg, h.inbox, h.regs⟩
theorem setUpd (h : CutKeeps s t) (x : UpdState) : CutKeeps s (setUpd x t) := ⟨h.fw, h.sta, h.tmg, h.inbox, h.regs⟩
theorem setBal (h : CutKeeps s t) (x : BalState) : CutKeeps s (setBal x t) := ⟨h.fw, h.sta, h.tmg, h.inbox, h.regs⟩

theorem foldl {α : Type} {f : State → α → State} {l : List α} (h : CutKeeps s t) (hf : ∀ u, ∀ x ∈ l, CutKeeps s u → CutKeeps s (f u x)) :
    CutKeeps s (l.foldl f t) := List.foldlRecOn (motive := CutKeeps s) l f h fun _ hu x hx => hf _ x hx hu

theorem sendFault (h : CutKeeps s t) (k src i : Nat) : CutKeeps s (sendFault k src i t) := by
  obtain ⟨-, -, -, -, hsta, -⟩ := (FrameBut.refl [FLC.STATUS.QUEUE_OVF] t).sendFault (k := k) (src := src) (i := i) (.inr (by simp)) |>.2.1.2.1
  obtain ⟨-, ⟨-, -, -, htmg, -, -⟩, hfw, -⟩ := (FrameBut.refl [FLC.STATUS.QUEUE_OVF] t).sendFault (k := k) (src := src) (i := i) (.inr (by simp)) |>.2.1
  exact ⟨hfw.trans h.fw, hsta.trans h.sta, htmg.trans h.tmg, fun x hx => inbox_sendFault x (h.inbox x hx), fun f h1 h2 =>
    (getF_sendFault k src i t (by simp only [FLC.STATUS.QUEUE_OVF, fld]; omega)).trans (h.regs f h1 h2)⟩

theorem settleKey (h : CutKeeps s t) (k : Nat) : CutKeeps s (settleKey k t) := by
  unfold Machine.settleKey
  split
  · exact h
  · exact ⟨h.fw, h.sta, h.tmg, h.inbox, h.regs⟩

theorem gateDiscard (h : CutKeeps s t) : CutKeeps s (gateDiscard t) := by
  unfold Machine.gateDiscard
  extract_lets n s1
  have h1 : CutKeeps s s1 := foldl ⟨h.fw, h.sta, h.tmg, h.inbox, h.regs⟩ fun _ _ _ hu => hu.settleKey _
  split
  · exact h
  · exact ((h1.sendFault _ _ _).setB _ _ (by decide)).setB _ _ (by decide)

theorem pktDone (h : CutKeeps s t) (id status applied detail : Nat) : CutKeeps s (pktDone id status applied detail t) := h.setCmd _

theorem cutBlocks (h : CutKeeps s t) (op : Nat) : CutKeeps s (cutBlocks op t) := foldl h fun _ _ _ hu => hu.pktDone _ _ _ _

theorem abandonXfer (h : CutKeeps s t) (k : Nat) {g : Target} (hg : ∀ u, CutKeeps s u → CutKeeps s (g.abandon u)) :
    CutKeeps s (abandonXfer k g t) := by
  unfold Machine.abandonXfer
  split
  · split
    · exact hg _ (h.setCmd _)
    · exact h.setCmd _
  · exact h

theorem progAbandon (h : CutKeeps s t) {k : Nat} (hk : k < 4) : CutKeeps s ((progTarget k).abandon t) :=
  (h.setF (PXE.SLOT_STATUS.STATE k) 0 (.inl (by simp only [PXE.SLOT_STATUS.STATE, fld]; omega))).setB PXE.LOAD_STATUS.LOADING false (by decide)

theorem planAbandon (h : CutKeeps s t) : CutKeeps s (planTarget.abandon t) := h.setB PSQ.LOAD_STATUS.LOADING false (by decide)

theorem abandonRounds (h : CutKeeps s t) : CutKeeps s (abandonRounds t) := (h.setBal _).setF _ _ (by decide)

theorem complete (h : CutKeeps s t) (q seq status applied detail : Nat) (irq : Bool) : CutKeeps s (complete q seq status applied detail irq t) := by
  refine complete_of_entryPut (P := CutKeeps s) ?_ (fun u n hu => hu.setF _ _ (.inr (by simp only [CMD.LAST_APPLIED.SEQ, fld]; omega)))
    (fun u v hu => hu.setCmd _)
  unfold entryPut
  refine setF ?_ _ _ (.inr (by simp only [CMD.RING_CQ_TAIL.CQ_TAIL, fld]; omega))
  generalize hu : Machine.setCmd _ t = u
  have hput : CutKeeps s u := hu ▸ h.setCmd _
  obtain ⟨ecc, v, hv, he⟩ := sramStore_eq (entryAddr t q / 4) 4 u
  rw [he]
  refine setCmd ?_ _
  rcases hv with rfl | rfl
  · exact hput
  · exact ((hput.setB _ _ (by decide)).setB _ _ (by decide)).setF _ _ (by decide)

theorem pktComplete (h : CutKeeps s t) (p : OutPkt) (status applied detail : Nat) : CutKeeps s (pktComplete p status applied detail t) := by
  have hc : CutKeeps s (Machine.complete p.ring p.seq status applied detail p.irq (pktDrop p.id t)) := complete (h.setCmd _) ..
  unfold Machine.pktComplete ringRoom
  split
  · exact hc.setF _ _ (.inr (by simp only [CMD.RING_STATUS.STATE, fld]; omega))
  · exact hc

theorem dropCheck (h : CutKeeps s t) (k st : Nat) : CutKeeps s (dropCheck k st t) := by
  unfold Machine.dropCheck
  extract_lets l
  split
  · exact h
  · refine foldl ((h.setUpd _).setUpd _) fun u x _ hu => ?_
    split
    · exact hu.pktComplete _ _ _ _
    · exact hu

theorem endTransfers (h : CutKeeps s t) (st : Nat) : CutKeeps s (endTransfers st t) :=
  foldl (foldl (foldl h fun _ _ _ hu => hu.setUpd _) fun _ _ _ hu => hu.setCmd _) fun _ _ _ hu => hu.dropCheck _ _

theorem showUpd (h : CutKeeps s t) : CutKeeps s (showUpd t) := by
  have hs : CutKeeps s (showStaged t) := foldl h fun u k _ hu => hu.setF _ _ (.inr (by simp only [UPD.STAGED_ID.IMAGE_ID, fld]; omega))
  unfold Machine.showUpd
  dsimp only
  split
  · exact hs
  · exact hs.setF _ _ (by decide)

theorem cutComp (h : CutKeeps s t) (c : Nat) : CutKeeps s (cutComp c t) := by
  unfold Machine.cutComp
  split
  · refine foldl (h.gateDiscard.cutBlocks _) fun u k hk hu => hu.abandonXfer _ fun v hv => hv.progAbandon (List.mem_range.1 hk)
  · exact (h.endTransfers _).showUpd.cutBlocks _
  · exact (h.cutBlocks _).abandonXfer _ fun v hv => hv.planAbandon
  · exact h.abandonRounds
  · exact h

theorem cutStopped (h : CutKeeps s t) (was : State) : CutKeeps s (cutStopped was t) := by
  unfold Machine.cutStopped
  refine foldl h fun u c _ hu => ?_
  split
  · exact hu.cutComp c
  · exact hu

end CutKeeps

/-- What fails outside a trial: its effect, and the end of the work of what it stops (R327, R434). -/
theorem failing_keeps {f : State → State} {s : State} (h : updState s ≠ updTrial) : CutKeeps (f s) (failing f s) := by
  have htrial : trialGuard f s = f s := by
    unfold trialGuard
    exact if_pos (.inl h)
  unfold failing
  rw [htrial]
  exact (CutKeeps.refl (f s)).cutStopped s

end Sys2Proof.Machine
end

section
/-! O44. Failures restart what failed (chapter 14, R326 to R329). -/

namespace Sys2Proof.Machine

/-! ### The state of cores and components -/

/-- The fields of cores and components that a restart changes. -/
def restartFields : List Fld :=
  [FW.STATUS.RUN_STATE, FW.STATUS.RESTARTS, FW.STATUS.LAST_COMP, FW.STATUS.LAST_CAUSE, STA.WDT.RUNNING, FLC.STATUS.QUEUE_OVF] ++
    (List.range 4).map FW.CORE_STATUS.STATE ++ (List.range 8).map FW.COMP_STATUS.STATE ++ (List.range 8).map FW.COMP_STATUS.LAST_CAUSE ++
    (List.range 8).map FW.COMP_STATUS.RESTARTS

theorem mem_restartFields {c : Nat} (hc : c < 8) : FW.COMP_STATUS.STATE c ∈ restartFields ∧ FW.COMP_STATUS.LAST_CAUSE c ∈ restartFields ∧
    FW.COMP_STATUS.RESTARTS c ∈ restartFields := by
  have h : ∀ g : Nat → Fld, g c ∈ (List.range 8).map g := fun g => List.mem_map_of_mem (List.mem_range.2 hc)
  unfold restartFields
  simp only [List.mem_append]
  exact ⟨.inl (.inl (.inr (h _))), .inl (.inr (h _)), .inr (h _)⟩

theorem mem_restartFields_core {k : Nat} (hk : k < 4) : FW.CORE_STATUS.STATE k ∈ restartFields := by
  have h : FW.CORE_STATUS.STATE k ∈ (List.range 4).map FW.CORE_STATUS.STATE := List.mem_map_of_mem (List.mem_range.2 hk)
  unfold restartFields
  simp only [List.mem_append]
  exact .inl (.inl (.inl (.inr h)))

/-- Only registers of restarts differ, and the firmware's own lists. -/
structure RestartOnly (s t : State) : Prop where
  time : t.time = s.time
  sta : t.sta = s.sta
  inbox : ∀ x ∈ s.inbox, x ∈ t.inbox
  fields : fieldsBut restartFields s t

namespace RestartOnly

variable {s t u : State}

theorem refl (s : State) : RestartOnly s s := ⟨rfl, rfl, fun _ h => h, fieldsBut_refl _ s⟩

theorem trans (h : RestartOnly s t) (h2 : RestartOnly t u) : RestartOnly s u :=
  ⟨h2.time.trans h.time, h2.sta.trans h.sta, fun x hx => h2.inbox x (h.inbox x hx), fieldsBut_trans h.fields h2.fields⟩

theorem setF (h : RestartOnly s t) {f : Fld} (v : Nat) (hf : f ∈ restartFields) : RestartOnly s (setF t f v) :=
  ⟨h.time, h.sta, h.inbox, fieldsBut_setF hf h.fields⟩

theorem setFw (h : RestartOnly s t) (x : FwState) : RestartOnly s (setFw x t) := ⟨h.time, h.sta, h.inbox, h.fields⟩

theorem foldl {α : Type} {f : State → α → State} {l : List α} (h : RestartOnly s t)
    (hf : ∀ u, ∀ x ∈ l, RestartOnly s u → RestartOnly s (f u x)) : RestartOnly s (l.foldl f t) :=
  List.foldlRecOn (motive := RestartOnly s) l f h fun _ hu x hx => hf _ x hx hu

theorem sendFault (h : RestartOnly s t) (k src i : Nat) : RestartOnly s (sendFault k src i t) := by
  obtain ⟨-, ⟨-, ⟨-, -, -, -, hsta, -⟩, -⟩, hfields⟩ :=
    (FrameBut.refl restartFields t).sendFault (k := k) (src := src) (i := i) (.inr (by simp [restartFields]))
  exact ⟨(sendFault_time k src i t).trans h.time, hsta.trans h.sta, fun x hx => inbox_sendFault x (h.inbox x hx), fieldsBut_trans h.fields hfields⟩

theorem getF (h : RestartOnly s t) {f : Fld} (hf : f.key ∉ restartFields.map (fun g => g.key)) (ho : f.key ≠ TST.CTRL.OVERRIDE.key) :
    getF t f = getF s f := h.fields f hf ho

theorem noEnd (h : RestartOnly s t) (hn : noEnd s) : Machine.noEnd t := noEnd_congr hn h.sta

end RestartOnly

theorem setComps_shown (l : List Nat) (st : Nat) (s : State) :
    (∀ c ∈ l, compState (setComps l st s) c = st % 4) ∧
      (∀ f : Fld, (∀ c ∈ l, f.key ≠ (FW.COMP_STATUS.STATE c).key) → getF (setComps l st s) f = getF s f) ∧ (setComps l st s).fw = s.fw := by
  induction l generalizing s with
  | nil => exact ⟨fun _ h => absurd h (by simp), fun _ _ => rfl, rfl⟩
  | cons c l ih =>
    obtain ⟨hin, hout, hfw⟩ := ih (setComp c st s)
    have he : setComps (c :: l) st s = setComps l st (setComp c st s) := rfl
    rw [he]
    refine ⟨fun d hd => ?_, fun f hf => ?_, hfw⟩
    · by_cases hl : d ∈ l
      · exact hin d hl
      · have hdc : d = c := (List.mem_cons.1 hd).resolve_right hl
        subst hdc
        have hne : ∀ x ∈ l, (FW.COMP_STATUS.STATE d).key ≠ (FW.COMP_STATUS.STATE x).key := fun x hx => by
          have : d ≠ x := fun h => hl (h ▸ hx)
          simp only [FW.COMP_STATUS.STATE, fld]; omega
        exact (hout _ hne).trans (getF_setF_self ..)
    · exact (hout f fun x hx => hf x (List.mem_cons_of_mem _ hx)).trans (getF_setF_ne _ _ (hf c (by simp)))

theorem setComps_only {l : List Nat} {st : Nat} {s t : State} (hl : ∀ c ∈ l, c < 8) (h : RestartOnly s t) : RestartOnly s (setComps l st t) :=
  h.foldl fun _ c hc hu => hu.setF _ (mem_restartFields (hl c hc)).1

/-! ### Marks and notes -/

theorem markRestart_shown (cause c : Nat) (s : State) : getF (markRestart cause c s) (FW.COMP_STATUS.LAST_CAUSE c) = cause % 16 ∧
    getF (markRestart cause c s) (FW.COMP_STATUS.RESTARTS c) = min (getF s (FW.COMP_STATUS.RESTARTS c) + 1) 255 ∧
    ∀ f : Fld, f.key ≠ (FW.COMP_STATUS.LAST_CAUSE c).key → f.key ≠ (FW.COMP_STATUS.RESTARTS c).key → getF (markRestart cause c s) f = getF s f := by
  have hne : (FW.COMP_STATUS.RESTARTS c).key ≠ (FW.COMP_STATUS.LAST_CAUSE c).key := by
    simp only [FW.COMP_STATUS.RESTARTS, FW.COMP_STATUS.LAST_CAUSE, fld]; omega
  unfold markRestart
  refine ⟨(getF_incF_ne _ hne.symm).trans (getF_setF_self ..), ?_, fun f h1 h2 => (getF_incF_ne _ h2).trans (getF_setF_ne _ _ h1)⟩
  rw [getF_incF_self, getF_setF_ne _ _ hne]
  rfl

theorem markRestart_only {cause c : Nat} {s t : State} (hc : c < 8) (h : RestartOnly s t) : RestartOnly s (markRestart cause c t) := by
  obtain ⟨-, h1, h2⟩ := mem_restartFields hc
  exact RestartOnly.setF (h.setF cause h1) _ h2

/-- Marks of several components, each its own. -/
theorem marks_shown (cause : Nat) (l : List Nat) (hl : l.Nodup) (s : State) :
    (∀ c ∈ l, getF (l.foldl (fun t c => markRestart cause c t) s) (FW.COMP_STATUS.LAST_CAUSE c) = cause % 16 ∧
      getF (l.foldl (fun t c => markRestart cause c t) s) (FW.COMP_STATUS.RESTARTS c) = min (getF s (FW.COMP_STATUS.RESTARTS c) + 1) 255) ∧
    (∀ f : Fld, (∀ c ∈ l, f.key ≠ (FW.COMP_STATUS.LAST_CAUSE c).key ∧ f.key ≠ (FW.COMP_STATUS.RESTARTS c).key) →
      getF (l.foldl (fun t c => markRestart cause c t) s) f = getF s f) ∧
    (l.foldl (fun t c => markRestart cause c t) s).fw = s.fw := by
  induction l generalizing s with
  | nil => exact ⟨fun _ h => absurd h (by simp), fun _ _ => rfl, rfl⟩
  | cons c l ih =>
    obtain ⟨hnot, hnd⟩ := List.nodup_cons.1 hl
    obtain ⟨hin, hout, hfw⟩ := ih hnd (markRestart cause c s)
    obtain ⟨h1, h2, h3⟩ := markRestart_shown cause c s
    rw [List.foldl_cons]
    refine ⟨fun d hd => ?_, fun f hf => ?_, hfw⟩
    · by_cases hdl : d ∈ l
      · have hdc : d ≠ c := fun h => hnot (h ▸ hdl)
        obtain ⟨g1, g2⟩ := hin d hdl
        refine ⟨g1, g2.trans ?_⟩
        rw [h3 _ (by simp only [FW.COMP_STATUS.RESTARTS, FW.COMP_STATUS.LAST_CAUSE, fld]; omega)
          (by simp only [FW.COMP_STATUS.RESTARTS, fld]; omega)]
      · have hdc : d = c := (List.mem_cons.1 hd).resolve_right hdl
        subst hdc
        have hx : ∀ x ∈ l, d ≠ x := fun x hx h => hdl (h ▸ hx)
        refine ⟨(hout _ fun x hxl => ?_).trans h1, (hout _ fun x hxl => ?_).trans h2⟩
        · have := hx x hxl
          simp only [FW.COMP_STATUS.RESTARTS, FW.COMP_STATUS.LAST_CAUSE, fld]; omega
        · have := hx x hxl
          simp only [FW.COMP_STATUS.RESTARTS, FW.COMP_STATUS.LAST_CAUSE, fld]; omega
    · obtain ⟨g1, g2⟩ := hf c (by simp)
      exact (hout f fun x hx => hf x (List.mem_cons_of_mem _ hx)).trans (h3 f g1 g2)

theorem noteRestart_shown (id cause : Nat) (s : State) :
    (noteRestart id cause s).fw = { s.fw with
      restarts := recentRestarts s ++ [(s.time.ticks, id)]
      limitDue := s.fw.limitDue || decide (3 ≤ (recentRestarts s ++ [(s.time.ticks, id)]).length) } ∧
    ∀ f : Fld, f.key ≠ FW.STATUS.RESTARTS.key → f.key ≠ FW.STATUS.LAST_COMP.key → f.key ≠ FW.STATUS.LAST_CAUSE.key →
      getF (noteRestart id cause s) f = getF s f :=
  ⟨rfl, fun f h1 h2 h3 => (getF_setF_ne _ _ h3).trans ((getF_setF_ne _ _ h2).trans (getF_incF_ne _ h1))⟩

theorem noteRestart_only {id cause : Nat} {s t : State} (h : RestartOnly s t) : RestartOnly s (noteRestart id cause t) :=
  RestartOnly.setFw (RestartOnly.setF (RestartOnly.setF (RestartOnly.setF h _ (by simp [restartFields])) _ (by simp [restartFields])) _
    (by simp [restartFields])) _

/-! ### The restarts -/

/-- The main core goes back to the boot ROM with all the components (R328). -/
structure MainRestarted (s t : State) : Prop where
  only : RestartOnly s t
  run : runState t = runBoot
  core : coreState t 0 = crLoading
  comps : ∀ c < 3, compState t c = coRestarting
  list : t.fw.restarts = recentRestarts s ++ [(s.time.ticks, 8)]
  marks : ∀ c < 8, getF t (FW.COMP_STATUS.LAST_CAUSE c) = 4 ∧
    getF t (FW.COMP_STATUS.RESTARTS c) = min (getF s (FW.COMP_STATUS.RESTARTS c) + 1) 255
  wdt : t.fw.wdtAt = none ∧ getB t STA.WDT.RUNNING = false

theorem wdtStop_only {s t : State} (h : RestartOnly s t) : RestartOnly s (wdtStop t) :=
  RestartOnly.setF (h.setFw _) _ (by simp [restartFields])

/-- The marks and the note of a main core's restart. -/
def mainNoted (s : State) : State := (List.range 8).foldl (fun t c => markRestart 4 c t) (noteRestart 8 4 (wdtStop s))

theorem mainRestart_eq {s : State} (h : noRestart s = false) :
    mainRestart s = setF (setComps (compsOf 0) coRestarting (setCore 0 crLoading (mainNoted s))) FW.STATUS.RUN_STATE runBoot := by
  unfold mainRestart
  rw [h]
  rfl

theorem mainNoted_shown (s : State) : RestartOnly s (mainNoted s) ∧ (mainNoted s).fw.restarts = recentRestarts s ++ [(s.time.ticks, 8)] ∧
    (∀ c < 8, getF (mainNoted s) (FW.COMP_STATUS.LAST_CAUSE c) = 4 ∧
      getF (mainNoted s) (FW.COMP_STATUS.RESTARTS c) = min (getF s (FW.COMP_STATUS.RESTARTS c) + 1) 255) ∧
    (mainNoted s).fw.wdtAt = none ∧ getB (mainNoted s) STA.WDT.RUNNING = false := by
  obtain ⟨hin, hout, hfw⟩ := marks_shown 4 (List.range 8) List.nodup_range (noteRestart 8 4 (wdtStop s))
  obtain ⟨hnfw, hnout⟩ := noteRestart_shown 8 4 (wdtStop s)
  have honly : RestartOnly s (mainNoted s) :=
    (noteRestart_only (wdtStop_only (RestartOnly.refl s))).foldl fun _ c hc hu => markRestart_only (List.mem_range.1 hc) hu
  have hfw2 := hfw.trans hnfw
  have hkeys : ∀ c < 8, (FW.COMP_STATUS.RESTARTS c).key ≠ FW.STATUS.RESTARTS.key ∧ (FW.COMP_STATUS.RESTARTS c).key ≠ FW.STATUS.LAST_COMP.key ∧
      (FW.COMP_STATUS.RESTARTS c).key ≠ FW.STATUS.LAST_CAUSE.key ∧ (FW.COMP_STATUS.RESTARTS c).key ≠ STA.WDT.RUNNING.key := by decide
  have hwdt : ∀ c ∈ List.range 8, STA.WDT.RUNNING.key ≠ (FW.COMP_STATUS.LAST_CAUSE c).key ∧
      STA.WDT.RUNNING.key ≠ (FW.COMP_STATUS.RESTARTS c).key := by decide
  refine ⟨honly, (congrArg (·.restarts) hfw2).trans rfl, fun c hc => ?_, (congrArg (·.wdtAt) hfw2).trans rfl, ?_⟩
  · obtain ⟨h1, h2⟩ := hin c (List.mem_range.2 hc)
    obtain ⟨k1, k2, k3, k4⟩ := hkeys c hc
    refine ⟨h1, h2.trans ?_⟩
    rw [hnout _ k1 k2 k3]
    exact congrArg (fun n => min (n + 1) 255) (getF_setB_ne _ _ k4)
  · have hrun : getF (mainNoted s) STA.WDT.RUNNING = getF (wdtStop s) STA.WDT.RUNNING :=
      (hout _ hwdt).trans (hnout _ (by decide) (by decide) (by decide))
    unfold getB
    rw [hrun]
    exact getB_setB_self _ STA.WDT.RUNNING false rfl

theorem mainRestart_shown {s : State} (h : noRestart s = false) : MainRestarted s (mainRestart s) := by
  obtain ⟨honly, hlist, hmarks, hwdt, hrun⟩ := mainNoted_shown s
  rw [mainRestart_eq h]
  generalize mainNoted s = u at *
  have hcore : coreState (setCore 0 crLoading u) 0 = crLoading := getF_setF_self ..
  have honly2 : RestartOnly s (setCore 0 crLoading u) := honly.setF _ (mem_restartFields_core (by decide))
  have hv : ∀ f : Fld, f.key ≠ (FW.CORE_STATUS.STATE 0).key → getF (setCore 0 crLoading u) f = getF u f := fun f hf => getF_setF_ne _ _ hf
  have hvfw : (setCore 0 crLoading u).fw = u.fw := rfl
  generalize setCore 0 crLoading u = v at *
  have hcomps : ∀ c ∈ compsOf 0, c < 8 := by decide
  obtain ⟨hin, hout, hfw⟩ := setComps_shown (compsOf 0) coRestarting v
  have honly3 := setComps_only (st := coRestarting) hcomps honly2
  generalize setComps (compsOf 0) coRestarting v = w at *
  have hw : ∀ f : Fld, f.key ≠ FW.STATUS.RUN_STATE.key → getF (setF w FW.STATUS.RUN_STATE runBoot) f = getF w f := fun f hf => getF_setF_ne _ _ hf
  have hc3 : ∀ c < 3, c ∈ compsOf 0 ∧ (FW.COMP_STATUS.STATE c).key ≠ FW.STATUS.RUN_STATE.key := by decide
  have hkeys : ∀ c < 8, (∀ d ∈ compsOf 0, (FW.COMP_STATUS.LAST_CAUSE c).key ≠ (FW.COMP_STATUS.STATE d).key ∧
      (FW.COMP_STATUS.RESTARTS c).key ≠ (FW.COMP_STATUS.STATE d).key) ∧ (FW.COMP_STATUS.LAST_CAUSE c).key ≠ FW.STATUS.RUN_STATE.key ∧
      (FW.COMP_STATUS.RESTARTS c).key ≠ FW.STATUS.RUN_STATE.key ∧ (FW.COMP_STATUS.LAST_CAUSE c).key ≠ (FW.CORE_STATUS.STATE 0).key ∧
      (FW.COMP_STATUS.RESTARTS c).key ≠ (FW.CORE_STATUS.STATE 0).key := by decide
  have hfwAll : (setF w FW.STATUS.RUN_STATE runBoot).fw = u.fw := hfw.trans hvfw
  refine ⟨honly3.setF _ (by simp [restartFields]), getF_setF_self .., ?_, fun c hc => ?_, hfwAll ▸ hlist, fun c hc => ?_, hfwAll ▸ hwdt, ?_⟩
  · exact (hw _ (by decide)).trans ((hout _ (by decide)).trans hcore)
  · obtain ⟨h1, h2⟩ := hc3 c hc
    exact (hw _ h2).trans (hin c h1)
  · obtain ⟨k1, k2, k3, k4, k5⟩ := hkeys c hc
    obtain ⟨g1, g2⟩ := hmarks c hc
    exact ⟨(hw _ k2).trans ((hout _ fun d hd => (k1 d hd).1).trans ((hv _ k4).trans g1)),
      (hw _ k3).trans ((hout _ fun d hd => (k1 d hd).2).trans ((hv _ k5).trans g2))⟩
  · unfold getB
    rw [hw _ (by decide), hout _ (by decide), hv _ (by decide)]
    exact hrun

/-- Beyond the limit the main core stays as it failed (R329). -/
theorem mainRestart_none {s : State} (h : noRestart s = true) : coreState (mainRestart s) 0 = crFailed ∧
    (∀ c < 3, compState (mainRestart s) c = coFailed) ∧ (mainRestart s).fw = s.fw ∧ RestartOnly s (mainRestart s) := by
  have he : mainRestart s = setComps (compsOf 0) coFailed (setCore 0 crFailed s) := if_pos h
  have hcomps : ∀ c ∈ compsOf 0, c < 8 := by decide
  obtain ⟨hin, hout, hfw⟩ := setComps_shown (compsOf 0) coFailed (setCore 0 crFailed s)
  have hc3 : ∀ c < 3, c ∈ compsOf 0 := by decide
  rw [he]
  exact ⟨(hout _ (by decide)).trans (getF_setF_self ..), fun c hc => hin c (hc3 c hc), hfw,
    setComps_only hcomps ((RestartOnly.refl s).setF _ (mem_restartFields_core (by decide)))⟩

/-- A helper core is loaded again with all its components (R328). -/
structure HelperRestarted (k : Nat) (s t : State) : Prop where
  only : RestartOnly s t
  core : coreState t k = crLoading
  comps : ∀ c ∈ compsOf k, compState t c = coRestarting ∧ getF t (FW.COMP_STATUS.LAST_CAUSE c) = 4
  list : t.fw.restarts = recentRestarts s ++ [(s.time.ticks, 8 + k)]

theorem compsOf_lt (k : Nat) : ∀ c ∈ compsOf k, c < 8 := fun _ hc => List.mem_range.1 (List.mem_filter.1 hc).1

theorem helperRestart_shown {k : Nat} {s : State} (hk : k < 4) (h : noRestart s = false) : HelperRestarted k s (helperRestart k s) := by
  have he : helperRestart k s = setComps (compsOf k) coRestarting
      (setCore k crLoading ((compsOf k).foldl (fun t c => markRestart 4 c t) (noteRestart (8 + k) 4 s))) := if_neg (by rw [h]; decide)
  obtain ⟨hmark, hmarkOut, hmarkFw⟩ := marks_shown 4 (compsOf k) (List.nodup_range.filter _) (noteRestart (8 + k) 4 s)
  obtain ⟨hnfw, -⟩ := noteRestart_shown (8 + k) 4 s
  have honly : RestartOnly s ((compsOf k).foldl (fun t c => markRestart 4 c t) (noteRestart (8 + k) 4 s)) :=
    (noteRestart_only (RestartOnly.refl s)).foldl fun _ c hc hu => markRestart_only (compsOf_lt k c hc) hu
  have hlist := (congrArg (·.restarts) (hmarkFw.trans hnfw)).trans rfl
  rw [he]
  generalize (compsOf k).foldl (fun t c => markRestart 4 c t) (noteRestart (8 + k) 4 s) = u at *
  obtain ⟨hin, hout, hfw⟩ := setComps_shown (compsOf k) coRestarting (setCore k crLoading u)
  refine ⟨setComps_only (compsOf_lt k) (honly.setF _ (mem_restartFields_core hk)), (hout _ fun c hc => ?_).trans (getF_setF_self ..),
    fun c hc => ⟨hin c hc, ?_⟩, (congrArg (·.restarts) hfw).trans hlist⟩
  · have := compsOf_lt k c hc
    simp only [FW.CORE_STATUS.STATE, FW.COMP_STATUS.STATE, fld]; omega
  · have := compsOf_lt k c hc
    refine (hout _ fun d hd => ?_).trans ((getF_setF_ne _ _ ?_).trans (hmark c hc).1)
    · simp only [FW.COMP_STATUS.LAST_CAUSE, FW.COMP_STATUS.STATE, fld]; omega
    · simp only [FW.COMP_STATUS.LAST_CAUSE, FW.CORE_STATUS.STATE, fld]; omega

/-- A component restarts on its own (R327). -/
structure CompRestarted (c cause : Nat) (s t : State) : Prop where
  only : RestartOnly s t
  comp : compState t c = coRestarting
  marks : getF t (FW.COMP_STATUS.LAST_CAUSE c) = cause ∧ getF t (FW.COMP_STATUS.RESTARTS c) = min (getF s (FW.COMP_STATUS.RESTARTS c) + 1) 255
  list : t.fw.restarts = recentRestarts s ++ [(s.time.ticks, c)]
  limit : t.fw.limitDue = true ↔ 2 ≤ (recentRestarts s).length

theorem compFail_shown {c cause addr : Nat} {s : State} (hc : c < 8) (h0 : c ≠ 0) (hcause : cause < 16) (h : noRestart s = false) :
    CompRestarted c cause s (compFail c cause addr s) := by
  have he : compFail c cause addr s = noteRestart c cause (markRestart cause c (setComp c coRestarting s)) :=
    (if_neg h0).trans (if_neg (by rw [h]; decide))
  have hdue : s.fw.limitDue = false := (Bool.or_eq_false_iff.1 h).2
  obtain ⟨hfw, hout⟩ := noteRestart_shown c cause (markRestart cause c (setComp c coRestarting s))
  obtain ⟨hcauseAt, hcount, hother⟩ := markRestart_shown cause c (setComp c coRestarting s)
  have hkeys : ∀ c < 8, ∀ f ∈ [FW.COMP_STATUS.STATE c, FW.COMP_STATUS.LAST_CAUSE c, FW.COMP_STATUS.RESTARTS c],
      f.key ≠ FW.STATUS.RESTARTS.key ∧ f.key ≠ FW.STATUS.LAST_COMP.key ∧ f.key ≠ FW.STATUS.LAST_CAUSE.key := by decide
  have hget : ∀ f ∈ [FW.COMP_STATUS.STATE c, FW.COMP_STATUS.LAST_CAUSE c, FW.COMP_STATUS.RESTARTS c],
      getF (compFail c cause addr s) f = getF (markRestart cause c (setComp c coRestarting s)) f := fun f hf => by
    obtain ⟨k1, k2, k3⟩ := hkeys c hc f hf
    rw [he]
    exact hout f k1 k2 k3
  rw [he] at hget ⊢
  refine ⟨noteRestart_only (markRestart_only hc ((RestartOnly.refl s).setF _ (mem_restartFields hc).1)), ?_, ⟨?_, ?_⟩,
    (congrArg (·.restarts) hfw).trans rfl, ?_⟩
  · refine (hget _ (by simp)).trans ((hother _ ?_ ?_).trans (getF_setF_self ..))
    · simp only [FW.COMP_STATUS.STATE, FW.COMP_STATUS.LAST_CAUSE, fld]; omega
    · simp only [FW.COMP_STATUS.STATE, FW.COMP_STATUS.RESTARTS, fld]; omega
  · exact (hget _ (by simp)).trans (hcauseAt.trans (Nat.mod_eq_of_lt hcause))
  · refine (hget _ (by simp)).trans (hcount.trans ?_)
    exact congrArg (fun n => min (n + 1) 255) (getF_setF_ne _ _ (by simp only [FW.COMP_STATUS.STATE, FW.COMP_STATUS.RESTARTS, fld]; omega))
  · rw [hfw]
    have hlen : (recentRestarts (markRestart cause c (setComp c coRestarting s)) ++
        [((markRestart cause c (setComp c coRestarting s)).time.ticks, c)]).length = (recentRestarts s).length + 1 := List.length_append
    have hd : (markRestart cause c (setComp c coRestarting s)).fw.limitDue = false := hdue
    dsimp only
    rw [hlen, hd, Bool.false_or, decide_eq_true_eq]
    omega

/-! ### What the rows add -/

/-- Up to a restart nothing of the earlier restarts has changed. -/
structure Before (s t : State) : Prop where
  time : t.time = s.time
  sta : t.sta = s.sta
  list : t.fw.restarts = s.fw.restarts
  due : t.fw.limitDue = s.fw.limitDue
  hit : getF t FW.STATUS.LIMIT_HIT = getF s FW.STATUS.LIMIT_HIT
  counts : ∀ c < 8, getF t (FW.COMP_STATUS.RESTARTS c) = getF s (FW.COMP_STATUS.RESTARTS c)
  inbox : ∀ x ∈ s.inbox, x ∈ t.inbox

namespace Before

variable {s t : State}

theorem refl (s : State) : Before s s := ⟨rfl, rfl, rfl, rfl, rfl, fun _ _ => rfl, fun _ h => h⟩

theorem setF (h : Before s t) (f : Fld) (v : Nat) (h1 : FW.STATUS.LIMIT_HIT.key ≠ f.key)
    (h2 : ∀ c < 8, (FW.COMP_STATUS.RESTARTS c).key ≠ f.key) : Before s (setF t f v) :=
  ⟨h.time, h.sta, h.list, h.due, (getF_setF_ne _ _ h1).trans h.hit, fun c hc => (getF_setF_ne _ _ (h2 c hc)).trans (h.counts c hc), h.inbox⟩

theorem setB (h : Before s t) (f : Fld) (v : Bool) (h1 : FW.STATUS.LIMIT_HIT.key ≠ f.key)
    (h2 : ∀ c < 8, (FW.COMP_STATUS.RESTARTS c).key ≠ f.key) : Before s (setB t f v) := h.setF f _ h1 h2

theorem sendFault (h : Before s t) (k src i : Nat) : Before s (sendFault k src i t) := by
  have hkeys : ∀ c < 8, (FW.COMP_STATUS.RESTARTS c).key ≠ FLC.STATUS.QUEUE_OVF.key := by decide
  exact ⟨(sendFault_time ..).trans h.time, (sendFault_sta ..).trans h.sta, (congrArg (·.restarts) (sendFault_fw ..)).trans h.list,
    (congrArg (·.limitDue) (sendFault_fw ..)).trans h.due, (getF_sendFault _ _ _ _ (by decide)).trans h.hit,
    fun c hc => (getF_sendFault _ _ _ _ (hkeys c hc)).trans (h.counts c hc), fun x hx => inbox_sendFault x (h.inbox x hx)⟩

theorem noRestart (h : Before s t) : noRestart t = noRestart s := by
  unfold Machine.noRestart getB
  rw [h.hit, h.due]

theorem recent (h : Before s t) : recentRestarts t = recentRestarts s := by
  unfold recentRestarts
  rw [h.list, h.time]

end Before

/-- A restart of the main core as its registers and lists show it. -/
def MainBack (s t : State) : Prop := runState t = runBoot ∧ coreState t 0 = crLoading ∧ (∀ c < 3, compState t c = coRestarting) ∧
  t.fw.restarts = recentRestarts s ++ [(s.time.ticks, 8)] ∧ ∀ c < 8, getF t (FW.COMP_STATUS.LAST_CAUSE c) = 4 ∧
    getF t (FW.COMP_STATUS.RESTARTS c) = min (getF s (FW.COMP_STATUS.RESTARTS c) + 1) 255

/-- A restart of a component likewise. -/
def CompBack (s : State) (c cause : Nat) (t : State) : Prop := compState t c = coRestarting ∧ getF t (FW.COMP_STATUS.LAST_CAUSE c) = cause ∧
  getF t (FW.COMP_STATUS.RESTARTS c) = min (getF s (FW.COMP_STATUS.RESTARTS c) + 1) 255 ∧
  t.fw.restarts = recentRestarts s ++ [(s.time.ticks, c)] ∧ (t.fw.limitDue = true ↔ 2 ≤ (recentRestarts s).length)

theorem MainRestarted.back {s u t : State} (hb : Before s u) (h : MainRestarted u t) : MainBack s t := by
  refine ⟨h.run, h.core, h.comps, ?_, fun c hc => ?_⟩
  · rw [h.list, hb.recent, hb.time]
  · rw [← hb.counts c hc]
    exact h.marks c hc

theorem CompRestarted.back {c cause : Nat} {s u t : State} (hb : Before s u) (hc : c < 8) (h : CompRestarted c cause u t) : CompBack s c cause t := by
  obtain ⟨h1, h2⟩ := h.marks
  refine ⟨h.comp, h1, ?_, ?_, ?_⟩
  · rw [h2, hb.counts c hc]
  · rw [h.list, hb.recent, hb.time]
  · rw [h.limit, hb.recent]

/-- The fields that say what runs lie in the firmware's block. -/
theorem fwField_range {f : Fld} {c : Nat} (hc : c < 8)
    (hf : f ∈ [FW.STATUS.RUN_STATE, FW.CORE_STATUS.STATE c, FW.COMP_STATUS.STATE c, FW.COMP_STATUS.LAST_CAUSE c, FW.COMP_STATUS.RESTARTS c]) :
    32 * 0xA0000 ≤ f.key ∧ f.key < 32 * 0xC0000 := by
  simp only [List.mem_cons, List.not_mem_nil, or_false] at hf
  rcases hf with rfl | rfl | rfl | rfl | rfl <;>
    simp only [FW.STATUS.RUN_STATE, FW.CORE_STATUS.STATE, FW.COMP_STATUS.STATE, FW.COMP_STATUS.LAST_CAUSE, FW.COMP_STATUS.RESTARTS, fld] <;> omega

theorem CutKeeps.getF_fw {s t : State} (h : CutKeeps s t) {f : Fld} {c : Nat} (hc : c < 8)
    (hf : f ∈ [FW.STATUS.RUN_STATE, FW.CORE_STATUS.STATE c, FW.COMP_STATUS.STATE c, FW.COMP_STATUS.LAST_CAUSE c, FW.COMP_STATUS.RESTARTS c]) :
    getF t f = getF s f := have ⟨h1, h2⟩ := fwField_range hc hf; h.regs f h1 h2

theorem MainBack.kept {s u t : State} (h : MainBack s u) (hk : CutKeeps u t) : MainBack s t := by
  obtain ⟨h1, h2, h3, h4, h5⟩ := h
  refine ⟨(hk.getF_fw (c := 0) (by decide) (by simp)).trans h1, (hk.getF_fw (c := 0) (by decide) (by simp)).trans h2,
    fun c hc => (hk.getF_fw (by omega : c < 8) (by simp)).trans (h3 c hc), (congrArg (·.restarts) hk.fw).trans h4, fun c hc => ?_⟩
  obtain ⟨g1, g2⟩ := h5 c hc
  exact ⟨(hk.getF_fw hc (by simp)).trans g1, (hk.getF_fw hc (by simp)).trans g2⟩

theorem CompBack.kept {c cause : Nat} {s u t : State} (hc : c < 8) (h : CompBack s c cause u) (hk : CutKeeps u t) : CompBack s c cause t := by
  obtain ⟨h1, h2, h3, h4, h5⟩ := h
  exact ⟨(hk.getF_fw hc (by simp)).trans h1, (hk.getF_fw hc (by simp)).trans h2, (hk.getF_fw hc (by simp)).trans h3,
    (congrArg (·.restarts) hk.fw).trans h4, (congrArg (·.limitDue) hk.fw) ▸ h5⟩

/-- What follows every event leaves the firmware's own state. -/
theorem CutKeeps.settled {s t : State} (hn : noEnd s) (h : CutKeeps s t) : CutKeeps s (settle t) := by
  have ht := noEnd_congr hn h.sta
  exact ⟨(settle_fw ht).trans h.fw, (settle_sta ht).trans h.sta, (settle_tmg ht).trans h.tmg, fun x hx => settle_inbox ht ▸ h.inbox x hx,
    fun f h1 h2 => (getF_settle t ht (by simp only [TST.CTRL.OVERRIDE, fld]; omega)).trans (h.regs f h1 h2)⟩

/-- A row of a failure answers what its effect shows in the firmware's own state. -/
theorem answers_failing {i : Instr} {dt : Nat} {f : State → State} {s a u : State} {P : State → Prop} (ha : a = advance dt s)
    (he : exec i s = act i dt (failing f) s) (hw : i.wf = true) (ht : updState a ≠ updTrial) (hf : f a = u) (hn : noEnd u)
    (hp : ∀ t, CutKeeps u t → P t) : Answers i s P := by
  subst hf
  exact answers_of ha he hw (hp _ (CutKeeps.settled hn (failing_keeps ht)))

theorem answers_failing_same {i : Instr} {dt : Nat} {f : State → State} {s a : State} (ha : a = advance dt s)
    (he : exec i s = act i dt (failing f) s) (hw : i.wf = true) (hf : f a = a) : Answers i s (untouched a) :=
  answers_untouched ha he hw ((failing_eq (by rw [hf]) (fun c _ h => by rwa [hf])).trans hf)

/-! ### The watchdog -/

theorem wdt_ownReg : OwnReg 0xA002C := ⟨rfl, by decide +kernel, by decide +kernel, by decide +kernel, fun _ => notIts_false rfl rfl rfl rfl⟩

theorem wdtExpiry_idle {s : State} (h : wdtOut s = false) : wdtExpiry s = s := if_neg (by rw [h]; decide)

/-- The watchdog as it has expired, before its restart. -/
def wdtExpired (s : State) : State := wdtStop (freeNext (incF s STA.WDT.EXPIRIES))

theorem wdtExpiry_out {s : State} (h : wdtOut s = true) : wdtExpiry s =
    mainRestart (sendFault 0xB2 0xB10 (freeVal s % 2 ^ 32) (wdtExpired s)) := if_pos h

theorem wdtExpired_before (s : State) : Before s (wdtExpired s) := by
  have h : Before s (incF s STA.WDT.EXPIRIES) := Before.setF (Before.refl s) _ _ (by decide) (by decide)
  have h2 : Before s (setFw { s.fw with wdtAt := none } (freeNext (incF s STA.WDT.EXPIRIES))) := ⟨h.time, h.sta, h.list, h.due, h.hit, h.counts, h.inbox⟩
  exact h2.setB _ _ (by decide) (by decide)

theorem wdtExpired_count (s : State) : getF (wdtExpired s) STA.WDT.EXPIRIES = min (getF s STA.WDT.EXPIRIES + 1) 255 := by
  unfold wdtExpired wdtStop
  rw [getF_setB_ne _ _ (by decide)]
  exact getF_incF_self ..

/-! ### Violations -/

/-- The registers of a violation, the component stopped (R326). -/
def mpuNoted (c addr : Nat) (w x : Bool) (s : State) : State :=
  setComp c coStopped (setB (setB (setB (setF (setF (setF s FW.MPU_FAULT_ADDR.ADDR addr) FW.MPU_FAULT_INFO.CORE (coreOf c)) FW.MPU_FAULT_INFO.COMPONENT c)
    FW.MPU_FAULT_INFO.WRITE w) FW.MPU_FAULT_INFO.EXEC x) FW.MPU_FAULT_INFO.VALID true)

theorem mpuViolation_eq {c addr : Nat} {w x : Bool} {s : State} (h1 : compUp s c = true) (h2 : mpuGrants s c addr w x = false) :
    mpuViolation c addr w x s = compFail c 1 addr (sendFault 0xB0 (0xB00 + c) addr (mpuNoted c addr w x s)) := by
  unfold mpuViolation
  rw [h1, h2]
  rfl

theorem mpuViolation_granted {c addr : Nat} {w x : Bool} {s : State} (h : compUp s c = false ∨ mpuGrants s c addr w x = true) :
    mpuViolation c addr w x s = s := by
  unfold mpuViolation
  rw [if_pos (by rcases h with h | h <;> simp [h])]

theorem mpuNoted_before {c addr : Nat} {w x : Bool} (hc : c < 8) (s : State) : Before s (mpuNoted c addr w x s) := by
  have hkeys : ∀ c < 8, FW.STATUS.LIMIT_HIT.key ≠ (FW.COMP_STATUS.STATE c).key ∧
      ∀ d < 8, (FW.COMP_STATUS.RESTARTS d).key ≠ (FW.COMP_STATUS.STATE c).key := by decide
  obtain ⟨h1, h2⟩ := hkeys c hc
  unfold mpuNoted setComp
  refine Before.setF (Before.setB (Before.setB (Before.setB (Before.setF (Before.setF (Before.setF (Before.refl s) _ _ ?_ ?_) _ _ ?_ ?_) _ _ ?_ ?_) _ _ ?_ ?_)
    _ _ ?_ ?_) _ _ ?_ ?_) _ _ h1 h2
  all_goals decide

/-- The registers of a violation. -/
def MpuHolds (c addr : Nat) (w x : Bool) (t : State) : Prop := getF t FW.MPU_FAULT_ADDR.ADDR = addr ∧
  getF t FW.MPU_FAULT_INFO.COMPONENT = c ∧ getF t FW.MPU_FAULT_INFO.CORE = coreOf c ∧ getB t FW.MPU_FAULT_INFO.WRITE = w ∧
  getB t FW.MPU_FAULT_INFO.EXEC = x ∧ getB t FW.MPU_FAULT_INFO.VALID = true

def mpuFields : List Fld := [FW.MPU_FAULT_ADDR.ADDR, FW.MPU_FAULT_INFO.COMPONENT, FW.MPU_FAULT_INFO.CORE, FW.MPU_FAULT_INFO.WRITE,
  FW.MPU_FAULT_INFO.EXEC, FW.MPU_FAULT_INFO.VALID]

theorem mpuHolds_congr {c addr : Nat} {w x : Bool} {s t : State} (h : MpuHolds c addr w x s) (hf : ∀ f ∈ mpuFields, getF t f = getF s f) :
    MpuHolds c addr w x t := by
  unfold MpuHolds getB at *
  rw [hf _ (by simp [mpuFields]), hf _ (by simp [mpuFields]), hf _ (by simp [mpuFields]), hf _ (by simp [mpuFields]), hf _ (by simp [mpuFields]),
    hf _ (by simp [mpuFields])]
  exact h

theorem mpuNoted_holds {c addr : Nat} {w x : Bool} (hc : c < 8) (ha : addr < 2 ^ 32) (s : State) : MpuHolds c addr w x (mpuNoted c addr w x s) := by
  have hcore := coreOf_lt hc
  have hkeys : ∀ c < 8, ∀ f ∈ mpuFields, f.key ≠ (FW.COMP_STATUS.STATE c).key := by decide
  refine mpuHolds_congr ?_ fun f hf => getF_setF_ne _ _ (hkeys c hc f hf)
  refine ⟨?_, ?_, ?_, ?_, ?_, getB_setB_self _ _ _ rfl⟩
  · simp (disch := decide) only [getF_setF_ne, getF_setB_ne]
    exact (getF_setF_self ..).trans (Nat.mod_eq_of_lt ha)
  · simp (disch := decide) only [getF_setB_ne]
    exact (getF_setF_self ..).trans (Nat.mod_eq_of_lt hc)
  · simp (disch := decide) only [getF_setF_ne, getF_setB_ne]
    exact (getF_setF_self ..).trans (Nat.mod_eq_of_lt hcore)
  · simp (disch := decide) only [getB_setB_ne]
    exact getB_setB_self _ _ _ rfl
  · simp (disch := decide) only [getB_setB_ne]
    exact getB_setB_self _ _ _ rfl

theorem mpuFields_restart : ∀ f ∈ mpuFields, f.key ∉ restartFields.map (fun g => g.key) ∧ f.key ≠ TST.CTRL.OVERRIDE.key ∧
    32 * 0xA0000 ≤ f.key ∧ f.key < 32 * 0xC0000 := by decide

/-! ### Failing components -/

/-- A failure of a component restarts it, or the main core where it is the scheduler's (R327). -/
theorem compFail_back {c cause addr : Nat} {s v : State} (hc : c < 8) (hcause : cause < 16) (hb : Before s v) (hno : noRestart s = false) :
    (if c = 0 then MainBack s (compFail c cause addr v) else CompBack s c cause (compFail c cause addr v)) ∧
      RestartOnly v (compFail c cause addr v) := by
  by_cases h0 : c = 0
  · subst h0
    have hb2 := hb.sendFault 0xB2 0xB10 addr
    have hm := mainRestart_shown (hb2.noRestart.trans hno)
    rw [if_pos rfl]
    exact ⟨hm.back hb2, ((RestartOnly.refl v).sendFault ..).trans hm.only⟩
  · rw [if_neg h0]
    have hr := compFail_shown (addr := addr) hc h0 hcause (hb.noRestart.trans hno)
    exact ⟨hr.back hb hc, hr.only⟩

theorem componentHang_eq {c : Nat} {s : State} (h1 : overdue s c = true) (h2 : compOn s 0 = true) (h0 : c ≠ 0) :
    componentHang c s = compFail c 2 0 (sendFault 0xB1 (0xB00 + c) (compAge s c) s) := if_pos ⟨h1, h2, h0⟩

theorem componentHang_idle {c : Nat} {s : State} (h : overdue s c = false) : componentHang c s = s := if_neg (by simp [h])

theorem coreException_comp {c addr : Nat} {s : State} (h : compUp s c = true) : coreException (coreOf c) (some c) addr s = compFail c 3 addr s := by
  exact if_pos (by simp [h])

theorem coreException_down {c addr : Nat} {s : State} (h : compUp s c = false) : coreException (coreOf c) (some c) addr s = s := by
  exact if_neg (by simp [h])

theorem coreException_core {k addr : Nat} {s : State} (h1 : fwRuns s = true) (h2 : coreState s k = crRunning) :
    coreException k none addr s = coreRestart k addr s := by
  unfold coreException
  exact if_pos (by simp [h1, h2])

/-! ### The limit -/

theorem restartLimit_shown {s : State} (hr : roomMsg s) : messageWaits 0xB3 0xB20 (limitInfo s) (restartLimit s) ∧
    getB (restartLimit s) FW.STATUS.LIMIT_HIT = true ∧ (restartLimit s).fw = { s.fw with limitDue := false } ∧
    safeOn (restartLimit s) = safeOn s ∧ (restartLimit s).sta = s.sta := by
  have hmsg : messageWaits 0xB3 0xB20 (limitInfo s) (sendFault 0xB3 0xB20 (limitInfo s) s) := messageWaits_sendFault hr
  have hsafe : safeOn (sendFault 0xB3 0xB20 (limitInfo s) s) = safeOn s := getB_sendFault _ _ _ _ (by decide)
  have hsta := sendFault_sta 0xB3 0xB20 (limitInfo s) s
  unfold restartLimit
  generalize sendFault 0xB3 0xB20 (limitInfo s) s = u at hmsg hsafe hsta
  refine ⟨hmsg, getB_setB_self _ _ _ rfl, rfl, ?_, hsta⟩
  unfold safeOn
  rw [getB_setB_ne _ _ (by decide)]
  exact hsafe

end Sys2Proof.Machine

open Sys2Proof Sys2Proof.Machine

/-- Settles O44: each failure by its restart, carried over the end of the work that it cuts. -/
theorem failuresRestartTheFirmware : Obligations.FailuresRestartTheFirmware := by
  unfold Obligations.FailuresRestartTheFirmware
  intro dt s a ha htrial
  have hn : noEnd a := ha ▸ noEnd_advance dt s
  refine ⟨fun v => ⟨fun hrun hv => ?_, fun h => ?_, ?_⟩, fun hout => answers_failing_same ha (exec_wdtExpiry ..) rfl (wdtExpiry_idle hout),
    fun hno hout => ?_, fun hno hroom => ⟨fun hout => ?_, fun c hc hover hsched h0 => ?_, fun c addr w x hc haddr hup hgrant => ?_,
      fun c addr hc haddr hup => ?_, fun k addr hk haddr hrun hcore => ?_⟩,
    fun c hc hover => answers_failing_same ha (exec_fwComponentHang ..) (decide_eq_true hc) (componentHang_idle hover),
    fun c addr w x hc haddr => ⟨fun h => ?_, fun h => ?_⟩, fun hdue hsafe hroom => ?_, fun hdue => ?_⟩
  · refine answers_eq ha (exec_wdtKick ..) rfl (u := setB (setFw { a.fw with wdtAt := some a.time.ticks } a) STA.WDT.RUNNING true)
      ((busWrite_own (t := wdtKick 0x40 v.toNat a) wdt_ownReg rfl v.isLt rfl).trans (if_pos ⟨rfl, hv, hrun⟩)) ?_
    have hno : noEnd (setB (setFw { a.fw with wdtAt := some a.time.ticks } a) STA.WDT.RUNNING true) := noEnd_congr hn rfl
    exact ⟨settle_fw hno, (getB_settle _ hno (by decide)).trans (getB_setB_self _ _ _ rfl),
      fieldsBut_settle hno (fieldsBut_setB (List.mem_singleton_self _) (fieldsBut_with (fieldsBut_refl _ a) rfl))⟩
  · refine answers_untouched ha (exec_wdtKick ..) rfl
      ((busWrite_own (t := wdtKick 0x40 v.toNat a) wdt_ownReg rfl v.isLt rfl).trans (if_neg ?_))
    rintro ⟨-, hv, hrun⟩
    rcases h with h | h
    · rw [h] at hrun; exact absurd hrun (by decide)
    · exact h hv
  · exact answers_untouched ha (exec_wdtKick ..) rfl ((busWrite_own (t := wdtKick 0x01 v.toNat a) wdt_ownReg rfl v.isLt rfl).trans (if_neg (by simp)))
  · have hb := (wdtExpired_before a).sendFault 0xB2 0xB10 (freeVal a % 2 ^ 32)
    have hwdt : (sendFault 0xB2 0xB10 (freeVal a % 2 ^ 32) (wdtExpired a)).fw.wdtAt = none := congrArg (·.wdtAt) (sendFault_fw ..)
    refine answers_failing ha (exec_wdtExpiry ..) rfl htrial (wdtExpiry_out hout) ?_ ?_
    all_goals
      generalize sendFault 0xB2 0xB10 (freeVal a % 2 ^ 32) (wdtExpired a) = u at hb hwdt
      obtain ⟨hcore, hcomps, hfw, honly⟩ := mainRestart_none (hb.noRestart.trans hno)
    · exact noEnd_congr hn (honly.sta.trans hb.sta)
    · intro t ht
      exact ⟨(ht.getF_fw (c := 0) (by decide) (by simp)).trans hcore, (congrArg (·.wdtAt) (ht.fw.trans hfw)).trans hwdt,
        fun c hc => (ht.getF_fw (by omega : c < 8) (by simp)).trans (hcomps c hc), (congrArg (·.restarts) (ht.fw.trans hfw)).trans hb.list⟩
  · have hb := (wdtExpired_before a).sendFault 0xB2 0xB10 (freeVal a % 2 ^ 32)
    have hroom2 : roomMsg (wdtExpired a) := roomMsg_congr (s := a) rfl hroom
    have hmsg : messageWaits 0xB2 0xB10 (freeVal a % 2 ^ 32) (sendFault 0xB2 0xB10 (freeVal a % 2 ^ 32) (wdtExpired a)) := messageWaits_sendFault hroom2
    have hcount : getF (sendFault 0xB2 0xB10 (freeVal a % 2 ^ 32) (wdtExpired a)) STA.WDT.EXPIRIES = min (getF a STA.WDT.EXPIRIES + 1) 255 :=
      (getF_sendFault _ _ _ _ (by decide)).trans (wdtExpired_count a)
    refine answers_failing ha (exec_wdtExpiry ..) rfl htrial (wdtExpiry_out hout) ?_ ?_
    all_goals
      generalize sendFault 0xB2 0xB10 (freeVal a % 2 ^ 32) (wdtExpired a) = u at hb hmsg hcount
      have hm := mainRestart_shown (hb.noRestart.trans hno)
      obtain ⟨hwdt, hrun⟩ := hm.wdt
    · exact noEnd_congr hn (hm.only.sta.trans hb.sta)
    · intro t ht
      refine ⟨(hm.back hb).kept ht, (congrArg (·.wdtAt) ht.fw).trans hwdt, (getB_congr (ht.regs _ (by decide) (by decide))).trans hrun, ?_,
        ⟨_, messageWaits_of_sub hmsg fun y hy => ht.inbox y (hm.only.inbox y hy)⟩⟩
      rw [ht.regs _ (by decide) (by decide), hm.only.getF (by decide) (by decide)]
      exact hcount
  · have hb := (Before.refl a).sendFault 0xB1 (0xB00 + c) (compAge a c)
    have hmsg : messageWaits 0xB1 (0xB00 + c) (compAge a c) (sendFault 0xB1 (0xB00 + c) (compAge a c) a) := messageWaits_sendFault hroom
    refine answers_failing ha (exec_fwComponentHang ..) (decide_eq_true hc) htrial (componentHang_eq hover hsched h0) ?_ ?_
    all_goals
      generalize sendFault 0xB1 (0xB00 + c) (compAge a c) a = u at hb hmsg
      obtain ⟨hback, honly⟩ := compFail_back (cause := 2) (addr := 0) hc (by decide) hb hno
    · exact noEnd_congr hn (honly.sta.trans hb.sta)
    · intro t ht
      rw [if_neg h0] at hback
      exact ⟨hback.kept hc ht, messageWaits_of_sub hmsg fun y hy => ht.inbox y (honly.inbox y hy)⟩
  · have hb := (mpuNoted_before (addr := addr) (w := w) (x := x) hc a).sendFault 0xB0 (0xB00 + c) addr
    have hroom2 : roomMsg (mpuNoted c addr w x a) := roomMsg_congr (s := a) rfl hroom
    have hmsg : messageWaits 0xB0 (0xB00 + c) addr (sendFault 0xB0 (0xB00 + c) addr (mpuNoted c addr w x a)) := messageWaits_sendFault hroom2
    have hholds := mpuHolds_congr (t := sendFault 0xB0 (0xB00 + c) addr (mpuNoted c addr w x a)) (mpuNoted_holds (w := w) (x := x) hc haddr a)
      (fun f hf => getF_sendFault _ _ _ _ ((by decide : ∀ f ∈ mpuFields, f.key ≠ FLC.STATUS.QUEUE_OVF.key) f hf))
    refine answers_failing ha (exec_fwMpuViolation ..) (by simpa [Instr.wf, hc] using haddr) htrial (mpuViolation_eq hup hgrant) ?_ ?_
    all_goals
      generalize sendFault 0xB0 (0xB00 + c) addr (mpuNoted c addr w x a) = u at hb hmsg hholds
      obtain ⟨hback, honly⟩ := compFail_back (cause := 1) (addr := addr) hc (by decide) hb hno
    · exact noEnd_congr hn (honly.sta.trans hb.sta)
    · intro t ht
      refine ⟨?_, messageWaits_of_sub hmsg fun y hy => ht.inbox y (honly.inbox y hy), mpuHolds_congr hholds fun f hf => ?_⟩
      · by_cases h0 : c = 0
        · rw [if_pos h0] at hback ⊢
          exact hback.kept ht
        · rw [if_neg h0] at hback ⊢
          exact hback.kept hc ht
      · obtain ⟨k1, k2, k3, k4⟩ := mpuFields_restart f hf
        exact (ht.regs f k3 k4).trans (honly.getF k1 k2)
  · refine answers_failing ha (exec_fwCoreException ..) (by simpa [Instr.wf, hc, coreOf_lt hc] using haddr) htrial (coreException_comp hup) ?_ ?_
    all_goals obtain ⟨hback, honly⟩ := compFail_back (cause := 3) (addr := addr) hc (by decide) (Before.refl a) hno
    · exact noEnd_congr hn honly.sta
    · intro t ht
      by_cases h0 : c = 0
      · rw [if_pos h0] at hback ⊢
        exact hback.kept ht
      · rw [if_neg h0] at hback ⊢
        exact hback.kept hc ht
  · have hb := (Before.refl a).sendFault 0xB2 (0xB10 + k) addr
    have hmsg : messageWaits 0xB2 (0xB10 + k) addr (sendFault 0xB2 (0xB10 + k) addr a) := messageWaits_sendFault hroom
    have heq : coreException k none addr a = if k = 0 then mainRestart (sendFault 0xB2 (0xB10 + k) addr a) else
      helperRestart k (sendFault 0xB2 (0xB10 + k) addr a) := coreException_core hrun hcore
    generalize sendFault 0xB2 (0xB10 + k) addr a = u at hb hmsg heq
    have hnou := hb.noRestart.trans hno
    by_cases h0 : k = 0
    · rw [if_pos h0] at heq
      have hm := mainRestart_shown hnou
      refine answers_failing ha (exec_fwCoreException ..) (by simpa [Instr.wf, hk] using haddr) htrial heq (noEnd_congr hn (hm.only.sta.trans hb.sta))
        fun t ht => ⟨messageWaits_of_sub hmsg fun y hy => ht.inbox y (hm.only.inbox y hy), ?_⟩
      rw [if_pos h0]
      exact (hm.back hb).kept ht
    · rw [if_neg h0] at heq
      have hm := helperRestart_shown hk hnou
      refine answers_failing ha (exec_fwCoreException ..) (by simpa [Instr.wf, hk] using haddr) htrial heq (noEnd_congr hn (hm.only.sta.trans hb.sta))
        fun t ht => ⟨messageWaits_of_sub hmsg fun y hy => ht.inbox y (hm.only.inbox y hy), ?_⟩
      rw [if_neg h0]
      refine ⟨(ht.getF_fw (c := k) (by omega) (by simp)).trans hm.core, fun c hc => ?_, ?_⟩
      · obtain ⟨h1, h2⟩ := hm.comps c hc
        exact ⟨(ht.getF_fw (compsOf_lt k c hc) (by simp)).trans h1, (ht.getF_fw (compsOf_lt k c hc) (by simp)).trans h2⟩
      · rw [ht.fw, hm.list, hb.recent, hb.time]
  · exact answers_failing_same ha (exec_fwMpuViolation ..) (by simpa [Instr.wf, hc] using haddr) (mpuViolation_granted h)
  · exact answers_failing_same ha (exec_fwCoreException ..) (by simpa [Instr.wf, hc, coreOf_lt hc] using haddr) (coreException_down h)
  · obtain ⟨hmsg, hhit, hfw, hsafe2, hsta⟩ := restartLimit_shown hroom
    refine answers_eq ha (exec_fwRestartLimit ..) rfl (if_pos hdue) ?_
    generalize restartLimit a = u at *
    have hsh := safeNow_shown (cause := 1) (hsafe2.trans hsafe)
    have hfw2 : (safeNow 1 u).fw = u.fw := (safeNow_agree (L := [.msgs, .waits, .drg, .phc, .lgv, .sta, .evr]) (lo := 0) 1 (.self _) (Nat.zero_le _)
      (.refl ..)).fw (by decide)
    have hx : noEnd (safeNow 1 u) := by
      unfold noEnd
      rw [hsh.sta, hsta]
      exact hn
    refine ⟨(getB_settle _ hx (by decide)).trans hsh.safe, (getF_settle _ hx (by decide)).trans hsh.shown, ?_, ?_,
      (messageWaits_settle hx).2 (messageWaits_of_sub hmsg hsh.inbox)⟩
    · exact (getB_settle _ hx (by decide)).trans ((getB_congr (hsh.fields _ (by decide) (by decide))).trans hhit)
    · rw [settle_fw hx, hfw2, hfw]
  · exact answers_untouched ha (exec_fwRestartLimit ..) rfl (if_neg (by simp [hdue]))
end

section
/-! O45. Cores and components start (chapter 14, R322, R323, R327, R435). -/

namespace Sys2Proof.Machine

/-! ### Components that start -/

/-- The check-in of each component that starts. -/
theorem aGet_foldl_aPut (l : List Nat) (n : Nat) (m : Assoc Nat) {c : Nat} :
    aGet 0 (l.foldl (fun m c => aPut 0 m c n) m) c = if c ∈ l then n else aGet 0 m c := by
  induction l generalizing m with
  | nil => rfl
  | cons d l ih =>
    rw [List.foldl_cons, ih]
    by_cases hl : c ∈ l
    · rw [if_pos hl, if_pos (List.mem_cons_of_mem _ hl)]
    · rw [if_neg hl]
      by_cases hd : c = d
      · subst hd
        rw [aGet_aPut_self, if_pos (List.mem_cons_self ..)]
      · rw [aGet_aPut_ne _ _ _ _ hd, if_neg (by simp [hd, hl])]

/-- The thermal manager starts afresh where it is among those that start (R270). -/
def thermalFresh (l : List Nat) (s : State) : State :=
  if l.contains 4 then { s with tmg := { s.tmg with fwDue := false, floorRun := 0, devRun := [], okRun := [], dev := [] } } else s

theorem startComps_eq (l : List Nat) (s : State) : startComps l s =
    setFw { (setComps l coRunning (thermalFresh l s)).fw with
      checkIn := l.foldl (fun m c => aPut 0 m c s.time.ticks) (setComps l coRunning (thermalFresh l s)).fw.checkIn }
      (setComps l coRunning (thermalFresh l s)) := rfl

theorem thermalFresh_shown (l : List Nat) (s : State) : (thermalFresh l s).regs = s.regs ∧ (thermalFresh l s).fw = s.fw ∧
    (thermalFresh l s).sta = s.sta ∧ (thermalFresh l s).inbox = s.inbox ∧ (thermalFresh l s).upd = s.upd ∧
    (4 ∈ l → (thermalFresh l s).tmg.fwDue = false) := by
  unfold thermalFresh
  split
  · exact ⟨rfl, rfl, rfl, rfl, rfl, fun _ => rfl⟩
  · next h => exact ⟨rfl, rfl, rfl, rfl, rfl, fun h4 => absurd (List.contains_iff_mem.2 h4) h⟩

/-- Nothing but the registers differs. -/
theorem setComps_rest (l : List Nat) (st : Nat) (s : State) : (setComps l st s).sta = s.sta ∧ (setComps l st s).inbox = s.inbox ∧
    (setComps l st s).upd = s.upd ∧ (setComps l st s).tmg = s.tmg := by
  induction l generalizing s with
  | nil => exact ⟨rfl, rfl, rfl, rfl⟩
  | cons c l ih => exact ih (setComp c st s)

/-- Components start and check in (R323, R327). -/
structure Started (l : List Nat) (s t : State) : Prop where
  comps : ∀ c ∈ l, compState t c = coRunning ∧ aGet 0 t.fw.checkIn c = s.time.ticks
  fields : ∀ f : Fld, (∀ c ∈ l, f.key ≠ (FW.COMP_STATUS.STATE c).key) → getF t f = getF s f
  fw : t.fw = { s.fw with checkIn := t.fw.checkIn }
  sta : t.sta = s.sta
  inbox : t.inbox = s.inbox
  upd : t.upd = s.upd
  thermal : 4 ∈ l → t.tmg.fwDue = false

theorem startComps_shown (l : List Nat) (s : State) : Started l s (startComps l s) := by
  obtain ⟨t1, t2, t3, t4, t5, t6⟩ := thermalFresh_shown l s
  rw [startComps_eq]
  generalize thermalFresh l s = u at *
  obtain ⟨hin, hout, hfw⟩ := setComps_shown l coRunning u
  obtain ⟨r1, r2, r3, r4⟩ := setComps_rest l coRunning u
  generalize setComps l coRunning u = v at *
  refine ⟨fun c hc => ⟨hin c hc, ?_⟩, fun f hf => (hout f hf).trans (getF_congr t1 f), ?_, r1.trans t3, r2.trans t4, r3.trans t5,
    fun h => (congrArg (·.fwDue) r4).trans (t6 h)⟩
  · exact (aGet_foldl_aPut l s.time.ticks v.fw.checkIn).trans (if_pos hc)
  · rw [setFw_fw, hfw, t2]

/-! ### Helpers -/

/-- A helper as it has loaded, before its components start. -/
def helperLoaded (k : Nat) (s : State) : State := setCore k crRunning (mpuLoad (getF s FW.IMAGE.IMAGE_ID) k (incF s (FW.CORE_STATUS.LOADS k)))

theorem helperLoad_done {k off : Nat} {s : State} (h1 : coreState s k = crLoading) (h2 : fwRuns s = true) :
    helperLoad k true off s = startComps (compsOf k) (helperLoaded k s) := by
  unfold helperLoad
  rw [if_neg (by simp [h1, h2])]
  rfl

theorem helperLoad_idle {k off : Nat} {ok : Bool} {s : State} (h : coreState s k ≠ crLoading ∨ fwRuns s = false) : helperLoad k ok off s = s := by
  unfold helperLoad
  rw [if_pos (by rcases h with h | h <;> simp [h])]

theorem helperLoad_failed {k off : Nat} {s : State} (h1 : coreState s k = crLoading) (h2 : fwRuns s = true) :
    helperLoad k false off s = if noRestart s
      then setComps (compsOf k) coFailed (setCore k crFailed (sendFault 0xB4 (0xB10 + k) off (incF s (FW.CORE_STATUS.LOADS k))))
      else noteRestart (8 + k) 5 (sendFault 0xB4 (0xB10 + k) off (incF s (FW.CORE_STATUS.LOADS k))) := by
  unfold helperLoad
  rw [if_neg (by simp [h1, h2])]
  rfl

theorem aGet_aIns_self {α : Type} (d : α) (m : Assoc α) (k : Nat) (x : α) : aGet d (aIns m k x) k = x := by
  unfold aGet
  rw [aFind_aIns_self]
  rfl

theorem helperLoaded_shown (k : Nat) (s : State) : coreState (helperLoaded k s) k = crRunning ∧
    getF (helperLoaded k s) (FW.CORE_STATUS.LOADS k) = min (getF s (FW.CORE_STATUS.LOADS k) + 1) 255 ∧
    aGet [] (helperLoaded k s).fw.mpu k = (List.range 16).map (imageRegion (getF s FW.IMAGE.IMAGE_ID) k) ∧
    (∀ f : Fld, f.key ≠ (FW.CORE_STATUS.STATE k).key → f.key ≠ (FW.CORE_STATUS.LOADS k).key → getF (helperLoaded k s) f = getF s f) := by
  refine ⟨getF_setF_self .., ?_, aGet_aIns_self .., fun f h1 h2 => ?_⟩
  · refine (getF_setF_ne _ _ (by simp only [FW.CORE_STATUS.LOADS, FW.CORE_STATUS.STATE, fld]; omega)).trans ?_
    exact getF_incF_self s (FW.CORE_STATUS.LOADS k)
  · exact (getF_setF_ne _ _ h1).trans (getF_incF_ne s h2)

/-- No core's registers are a component's. -/
theorem coreField_ne_comp {k c : Nat} (hc : c < 8) :
    (FW.CORE_STATUS.STATE k).key ≠ (FW.COMP_STATUS.STATE c).key ∧ (FW.CORE_STATUS.LOADS k).key ≠ (FW.COMP_STATUS.STATE c).key := by
  simp only [FW.CORE_STATUS.STATE, FW.CORE_STATUS.LOADS, FW.COMP_STATUS.STATE, fld]; omega

/-- A helper that loads stops no component. -/
theorem compOn_helperStarted {k c : Nat} {s : State} (hk : k < 4) (hc : c < 8) (h : compOn s c = true) :
    compOn (startComps (compsOf k) (helperLoaded k s)) c = true := by
  obtain ⟨-, -, -, hother⟩ := helperLoaded_shown k s
  have hst := startComps_shown (compsOf k) (helperLoaded k s)
  have hrun : getF (startComps (compsOf k) (helperLoaded k s)) FW.STATUS.RUN_STATE = getF s FW.STATUS.RUN_STATE := by
    refine (hst.fields _ fun d hd => ?_).trans (hother _ ?_ ?_)
    · simp only [FW.STATUS.RUN_STATE, FW.COMP_STATUS.STATE, fld]; omega
    · simp only [FW.STATUS.RUN_STATE, FW.CORE_STATUS.STATE, fld]; omega
    · simp only [FW.STATUS.RUN_STATE, FW.CORE_STATUS.LOADS, fld]; omega
  by_cases hmem : c ∈ compsOf k
  · have hcomp := (hst.comps c hmem).1
    unfold compOn fwRuns runState at h ⊢
    rw [hrun, hcomp]
    simp only [Bool.and_eq_true] at h ⊢
    exact ⟨h.1, rfl⟩
  · rw [compOn_congr hrun ?_]
    · exact h
    · refine (hst.fields _ fun d hd => ?_).trans (hother _ ?_ ?_)
      · have : c ≠ d := fun h => hmem (h ▸ hd)
        simp only [FW.COMP_STATUS.STATE, fld]; omega
      · exact (coreField_ne_comp hc).1.symm
      · exact (coreField_ne_comp hc).2.symm

/-! ### Check-ins and restarts of components -/

theorem checkInRow_on {c : Nat} {s : State} (h : compOn s c = true) (hi : getB s FLC.INJECT.ARM = false) :
    checkInRow c s = setFw { s.fw with checkIn := aPut 0 s.fw.checkIn c s.time.ticks } s := by
  have hc : checkIn c s = setFw { s.fw with checkIn := aPut 0 s.fw.checkIn c s.time.ticks } s := if_pos h
  have ha : getB (checkIn c s) FLC.INJECT.ARM = false := by
    rw [hc]
    exact hi
  unfold checkInRow byComp coreInject
  rw [if_pos h]
  dsimp only
  rw [if_pos (by simp [ha])]
  exact hc

theorem checkInRow_off {c : Nat} {s : State} (h : compOn s c = false) : checkInRow c s = s := if_neg (by simp [h])

theorem compRestarted_done {c : Nat} {s : State} (h1 : compState s c = coRestarting) (h2 : coreState s (coreOf c) = crRunning) (h3 : fwRuns s = true)
    (h4 : s.evr.flush ≠ 5) : (compRestarted c s).1 = event 0x0B01 [c, getF s (FW.COMP_STATUS.LAST_CAUSE c)] (startComps [c] s) := by
  unfold compRestarted
  rw [if_pos ⟨h1, h2, h3, h4⟩]

theorem compRestarted_not {c : Nat} {s : State} (h : compState s c ≠ coRestarting ∨ coreState s (coreOf c) ≠ crRunning ∨ fwRuns s = false ∨
    s.evr.flush = 5) : (compRestarted c s).1 = s := by
  unfold compRestarted
  rw [if_neg]
  rintro ⟨h1, h2, h3, h4⟩
  rcases h with h | h | h | h
  · exact h h1
  · exact h h2
  · rw [h] at h3; exact absurd h3 (by decide)
  · exact h4 h

/-! ### The main core -/

namespace CutKeeps

variable {s t : State}

theorem setEvr (h : CutKeeps s t) (x : EvrState) : CutKeeps s (setEvr x t) := ⟨h.fw, h.sta, h.tmg, h.inbox, h.regs⟩

theorem event (h : CutKeeps s t) (c : Nat) (b : List Nat) : CutKeeps s (event c b t) :=
  ⟨(event_fw ..).trans h.fw, (event_sta ..).trans h.sta, (event_tmg ..).trans h.tmg, fun x hx => inbox_event x (h.inbox x hx), fun f h1 h2 =>
    (getF_event c b t (by simp only [EVR.COUNTS.DROPPED, fld]; omega)).trans (h.regs f h1 h2)⟩

theorem findImages (h : CutKeeps s t) (found : List (Nat × List Nat)) : CutKeeps s (findImages found t) := by
  refine foldl h fun u e _ hu => ?_
  split
  · exact hu
  · exact hu.setUpd _

theorem retirePrev (h : CutKeeps s t) : CutKeeps s (retirePrev t) := by
  unfold Machine.retirePrev
  dsimp only
  split
  · exact h
  · exact ((h.setEvr _).setB _ _ (by decide)).event _ _

theorem restoreStaged (h : CutKeeps s t) : CutKeeps s (restoreStaged t) :=
  foldl h fun _ _ _ hu => ((hu.setEvr _).setF _ _ (by decide)).retirePrev

theorem showActive (h : CutKeeps s t) : CutKeeps s (showActive t) := by
  refine setF (foldl h fun u k _ hu => ?_) _ _ (by decide)
  exact (hu.setF _ _ (.inr (by simp only [UPD.ACTIVE_ID.IMAGE_ID, fld]; omega))).setF _ _ (.inr (by simp only [UPD.SVN.SVN, fld]; omega))

theorem swapSlots (h : CutKeeps s t) (l : List Nat) : CutKeeps s (swapSlots l t) := foldl h fun _ _ _ hu => hu.setUpd _

theorem restoreBank (h : CutKeeps s t) : CutKeeps s (restoreBank t) := by
  unfold Machine.restoreBank
  dsimp only
  refine showActive (setUpd (setF (setB ?_ _ _ (by decide)) _ _ (by decide)) _)
  split
  · exact (h.setF _ _ (by decide)).swapSlots _
  · exact h.swapSlots _

theorem fallBackMark (h : CutKeeps s t) (cause abandoned : Nat) : CutKeeps s (fallBackMark cause abandoned t) :=
  (((h.setB _ _ (by decide)).setF _ _ (by decide)).sendFault _ _ _).event _ _

theorem passOver (h : CutKeeps s t) (ok0 ok1 : Bool) (detail : Nat) : CutKeeps s (passOver ok0 ok1 detail t).1 := by
  unfold Machine.passOver
  extract_lets b s1 s2 src s3
  have h1 : CutKeeps s s1 := h.sendFault _ _ _
  have h2 : CutKeeps s s2 := by
    unfold s2
    split
    · exact h1.restoreBank
    · exact h1.setF _ _ (by decide)
  have h3 : CutKeeps s s3 := ((h2.setB _ _ (by decide)).setF _ _ (by decide)).setUpd _
  split
  · refine showUpd (showActive ?_)
    split
    · exact h3.setF _ _ (by decide)
    · exact h3
  · exact h1

theorem bootBank (h : CutKeeps s t) (ok0 ok1 : Bool) (detail : Nat) : CutKeeps s (bootBank ok0 ok1 detail t).1 := by
  unfold Machine.bootBank
  extract_lets id s1 b
  have h1 : CutKeeps s s1 := by
    unfold s1
    split
    · exact h.restoreBank.fallBackMark _ _
    · exact h
  split
  · exact h1.showActive
  · exact h1.passOver _ _ _

end CutKeeps

/-- The boot ROM's choice of a bank, with what flash holds (R435). -/
def booted (found : List (Nat × List Nat)) (ok0 ok1 : Bool) (d : Nat) (s : State) : State × Bool :=
  bootBank ok0 ok1 d (restoreStaged (findImages found s))

theorem booted_keeps (found : List (Nat × List Nat)) (ok0 ok1 : Bool) (d : Nat) (s : State) : CutKeeps s (booted found ok0 ok1 d s).1 :=
  ((CutKeeps.refl s).findImages found).restoreStaged.bootBank ok0 ok1 d

/-- GENERATION counts the start, unless a reset has set it already (R335). -/
def generated (s : State) : State := if s.fw.genSet then setFw { s.fw with genSet := false } s else incGeneration s

/-- The main core's image and regions. -/
def mainLoaded (s : State) : State :=
  mpuLoad (idIn s (activeBank s) 0) 0 (incF s (FW.CORE_STATUS.LOADS 0))

/-- The main core runs, the helpers load. -/
def coresStarted (s : State) : State :=
  setCore 3 crLoading (setCore 2 crLoading (setCore 1 crLoading (setCore 0 crRunning (mainLoaded s))))

/-- The firmware runs, with its log at a start. -/
def fwStarted (r : Nat) (s : State) : State :=
  setF (setFw { s.fw with logFirst := true } (setF s FW.STATUS.RUN_STATE r)) FW.IMAGE.IMAGE_ID
    (idIn (setF s FW.STATUS.RUN_STATE r) (activeBank (setF s FW.STATUS.RUN_STATE r)) 0)

theorem fwStart_eq {s : State} (h : (startComps (compsOf 0) (coresStarted s)).fw.absentOwed = false) : fwStart crLoading (compsOf 0) s =
    fwStarted (if safeOn s then runSafe else runRunning) (startComps (compsOf 0) (coresStarted s)) := by
  unfold fwStart
  extract_lets loaded s0 s1 s2 src s3
  have hs1 : s1 = coresStarted s := by
    unfold s1 s0 loaded
    rw [if_neg (by decide)]
    simp only [List.foldl_cons, List.foldl_nil]
    unfold coresStarted mainLoaded
    rfl
  have hs2 : s2 = setF (startComps (compsOf 0) (coresStarted s)) FW.STATUS.RUN_STATE (if safeOn s then runSafe else runRunning) := by
    unfold s2
    rw [hs1]
  have hs3 : s3 = fwStarted (if safeOn s then runSafe else runRunning) (startComps (compsOf 0) (coresStarted s)) := by
    unfold s3 src
    rw [hs2]
    rfl
  have howed : s3.fw.absentOwed = false := by
    unfold s3 src
    rw [setF_fw, setFw_fw, hs2]
    exact h
  clear_value s3
  rw [howed, if_neg (by decide)]
  exact hs3

theorem mainStart_fails {found : List (Nat × List Nat)} {ok0 ok1 : Bool} {d : Nat} {s : State} (h1 : runState s = runBoot)
    (h2 : coreState s 0 ≠ crRunning) (h3 : coreState s 0 ≠ crFailed) (h4 : s.phc.resetN = true) (hb : (booted found ok0 ok1 d s).2 = false) :
    mainStart found ok0 ok1 d s = setCore 0 crFailed (booted found ok0 ok1 d s).1 := by
  unfold mainStart
  rw [if_neg (by simp [h1, h2, h3, h4])]
  exact if_pos (by rw [show bootBank ok0 ok1 d (restoreStaged (findImages found s)) = booted found ok0 ok1 d s from rfl, hb]; rfl)

theorem mainStart_boots {found : List (Nat × List Nat)} {ok0 ok1 : Bool} {d : Nat} {s : State} (h1 : runState s = runBoot)
    (h2 : coreState s 0 ≠ crRunning) (h3 : coreState s 0 ≠ crFailed) (h4 : s.phc.resetN = true) (hb : (booted found ok0 ok1 d s).2 = true) :
    mainStart found ok0 ok1 d s = fwStart crLoading (compsOf 0) (setComps (List.range 8) coRestarting (generated (booted found ok0 ok1 d s).1)) := by
  unfold mainStart
  rw [if_neg (by simp [h1, h2, h3, h4])]
  exact if_neg (by rw [show bootBank ok0 ok1 d (restoreStaged (findImages found s)) = booted found ok0 ok1 d s from rfl, hb]; decide)

theorem mainStart_idle {found : List (Nat × List Nat)} {ok0 ok1 : Bool} {d : Nat} {s : State}
    (h : runState s ≠ runBoot ∨ coreState s 0 = crRunning ∨ coreState s 0 = crFailed ∨ s.phc.resetN = false) : mainStart found ok0 ok1 d s = s := by
  unfold mainStart
  rw [if_pos (by rcases h with h | h | h | h <;> simp [h])]

theorem ofLE_lt (l : List Nat) : ofLE l < 256 ^ l.length := by
  induction l with
  | nil => decide
  | cons b r ih =>
    rw [ofLE, List.length_cons, pow_succ]
    omega

theorem memBytes_len (m : Mem) (a n : Nat) : (memBytes m a n).length = n := by
  induction n generalizing a with
  | zero => rfl
  | succ n ih => exact congrArg (· + 1) (ih (a + 1))

/-- IMAGE_ID is a 32-bit number. -/
theorem idIn_lt (s : State) (bank k : Nat) : idIn s bank k < 2 ^ 32 := by
  unfold idIn
  split
  · next x _ =>
    have h := ofLE_lt (memBytes x.bytes 8 4)
    rw [memBytes_len] at h
    exact h
  · decide

theorem idIn_congr {s t : State} (hu : t.upd = s.upd) (hb : getF t UPD.STATUS.ACTIVE_BANK = getF s UPD.STATUS.ACTIVE_BANK) :
    idIn t (activeBank t) 0 = idIn s (activeBank s) 0 := by
  unfold idIn imageIn activeBank
  rw [hu, hb]

theorem generated_shown (s : State) : (generated s).fw = { s.fw with genSet := false } ∧ (generated s).sta = s.sta ∧
    (∀ f : Fld, f.key ≠ FW.GENERATION.GENERATION.key → getF (generated s) f = getF s f) ∧
    getF (generated s) FW.GENERATION.GENERATION =
      if s.fw.genSet = true then getF s FW.GENERATION.GENERATION else (getF s FW.GENERATION.GENERATION + 1) % 2 ^ 32 := by
  unfold generated
  split
  · exact ⟨rfl, rfl, fun _ _ => rfl, rfl⟩
  · next h =>
    have hset : s.fw.genSet = false := by simpa using h
    refine ⟨?_, rfl, fun f hf => getF_setF_ne _ _ hf, getF_setF_self ..⟩
    rw [← hset]
    rfl

/-- What a start of the main core shows (R435, Table 14-7). -/
structure MainStarted (s t : State) : Prop where
  core : coreState t 0 = crRunning
  run : runState t = if safeOn s = true then runSafe else runRunning
  helpers : ∀ k, 1 ≤ k → k < 4 → coreState t k = crLoading
  comps : ∀ c < 8, compState t c = if c < 3 then coRunning else coRestarting
  first : t.fw.logFirst = true
  set : t.fw.genSet = s.fw.genSet
  loads : getF t (FW.CORE_STATUS.LOADS 0) = min (getF s (FW.CORE_STATUS.LOADS 0) + 1) 255
  mpu : aGet [] t.fw.mpu 0 = (List.range 16).map (imageRegion (getF t FW.IMAGE.IMAGE_ID) 0)
  generation : getF t FW.GENERATION.GENERATION = getF s FW.GENERATION.GENERATION
  sta : t.sta = s.sta

/-- The registers of cores that the start sets. -/
theorem coresStarted_shown (s : State) : coreState (coresStarted s) 0 = crRunning ∧ (∀ k, 1 ≤ k → k < 4 → coreState (coresStarted s) k = crLoading) ∧
    getF (coresStarted s) (FW.CORE_STATUS.LOADS 0) = min (getF s (FW.CORE_STATUS.LOADS 0) + 1) 255 ∧
    (∀ f : Fld, (∀ k < 4, f.key ≠ (FW.CORE_STATUS.STATE k).key) → f.key ≠ (FW.CORE_STATUS.LOADS 0).key →
      getF (coresStarted s) f = getF s f) ∧
    (coresStarted s).fw = { s.fw with mpu := aIns s.fw.mpu 0 ((List.range 16).map (imageRegion (idIn s (activeBank s) 0) 0)) } := by
  have hloads := getF_incF_self s (FW.CORE_STATUS.LOADS 0)
  have hother : ∀ f : Fld, f.key ≠ (FW.CORE_STATUS.LOADS 0).key → getF (incF s (FW.CORE_STATUS.LOADS 0)) f = getF s f := fun f hf => getF_incF_ne _ hf
  have hfw : (incF s (FW.CORE_STATUS.LOADS 0)).fw = s.fw := rfl
  unfold coresStarted mainLoaded mpuLoad setCore
  generalize incF s (FW.CORE_STATUS.LOADS 0) = u at *
  refine ⟨?_, fun k h1 h4 => ?_, ?_, fun f hf hl => ?_, ?_⟩
  · unfold coreState
    simp (disch := decide) only [getF_setF_ne, getF_setF_self]
    rfl
  · unfold coreState
    have hk : k = 1 ∨ k = 2 ∨ k = 3 := by omega
    rcases hk with rfl | rfl | rfl <;> simp (disch := decide) only [getF_setF_ne, getF_setF_self] <;> rfl
  · simp (disch := decide) only [getF_setF_ne, getF_setFw]
    exact hloads
  · rw [getF_setF_ne _ _ (hf 3 (by decide)), getF_setF_ne _ _ (hf 2 (by decide)), getF_setF_ne _ _ (hf 1 (by decide)),
      getF_setF_ne _ _ (hf 0 (by decide)), getF_setFw, hother f hl]
  · rw [← hfw]
    rfl

theorem fwStart_shown {s : State} (howed : s.fw.absentOwed = false) (hcomps : ∀ c < 8, compState s c = coRestarting) :
    MainStarted s (fwStart crLoading (compsOf 0) s) := by
  obtain ⟨c1, c2, c3, c4, c5⟩ := coresStarted_shown s
  have hsta : (coresStarted s).sta = s.sta := rfl
  have hupd : (coresStarted s).upd = s.upd := rfl
  have hst := startComps_shown (compsOf 0) (coresStarted s)
  have howed2 : (startComps (compsOf 0) (coresStarted s)).fw.absentOwed = false := by rw [hst.fw, c5]; exact howed
  rw [fwStart_eq howed2]
  generalize coresStarted s = u at *
  generalize startComps (compsOf 0) u = v at *
  have hkeys : ∀ f ∈ [FW.CORE_STATUS.STATE 0, FW.CORE_STATUS.STATE 1, FW.CORE_STATUS.STATE 2, FW.CORE_STATUS.STATE 3, FW.CORE_STATUS.LOADS 0,
      FW.GENERATION.GENERATION, UPD.STATUS.ACTIVE_BANK], ∀ c ∈ compsOf 0, f.key ≠ (FW.COMP_STATUS.STATE c).key := by decide
  have hcore : ∀ f ∈ [FW.GENERATION.GENERATION, UPD.STATUS.ACTIVE_BANK], (∀ k < 4, f.key ≠ (FW.CORE_STATUS.STATE k).key) ∧
      f.key ≠ (FW.CORE_STATUS.LOADS 0).key := by decide
  have hget : ∀ r, ∀ f : Fld, f.key ≠ FW.STATUS.RUN_STATE.key → f.key ≠ FW.IMAGE.IMAGE_ID.key → getF (fwStarted r v) f = getF v f := fun r f h1 h2 =>
    (getF_setF_ne _ _ h2).trans (getF_setF_ne _ _ h1)
  have hfw : ∀ r, (fwStarted r v).fw = { v.fw with logFirst := true } := fun r => rfl
  have hid : ∀ r, idIn (setF v FW.STATUS.RUN_STATE r) (activeBank (setF v FW.STATUS.RUN_STATE r)) 0 = idIn s (activeBank s) 0 := fun r => by
    refine idIn_congr (hst.upd.trans hupd) ((getF_setF_ne _ _ (by decide)).trans ((hst.fields _ (hkeys _ (by simp))).trans ?_))
    obtain ⟨k1, k2⟩ := hcore UPD.STATUS.ACTIVE_BANK (by simp)
    exact c4 _ k1 k2
  refine ⟨?_, ?_, fun k h1 h4 => ?_, fun c hc => ?_, rfl, ?_, ?_, ?_, ?_, hst.sta.trans hsta⟩
  · exact (hget _ _ (by decide) (by decide)).trans ((hst.fields _ (hkeys _ (by simp))).trans c1)
  · refine (getF_setF_ne _ _ (by decide)).trans ((getF_setF_self v FW.STATUS.RUN_STATE _).trans ?_)
    split <;> rfl
  · have hk : k = 1 ∨ k = 2 ∨ k = 3 := by omega
    refine Eq.trans ?_ (c2 k h1 h4)
    rcases hk with rfl | rfl | rfl <;> exact (hget _ _ (by decide) (by decide)).trans (hst.fields _ (hkeys _ (by simp)))
  · have hne : ∀ c < 8, (FW.COMP_STATUS.STATE c).key ≠ FW.STATUS.RUN_STATE.key ∧ (FW.COMP_STATUS.STATE c).key ≠ FW.IMAGE.IMAGE_ID.key ∧
        (∀ k < 4, (FW.COMP_STATUS.STATE c).key ≠ (FW.CORE_STATUS.STATE k).key) ∧ (FW.COMP_STATUS.STATE c).key ≠ (FW.CORE_STATUS.LOADS 0).key ∧
        (c < 3 → c ∈ compsOf 0) ∧ (¬c < 3 → ∀ d ∈ compsOf 0, (FW.COMP_STATUS.STATE c).key ≠ (FW.COMP_STATUS.STATE d).key) := by decide
    obtain ⟨k1, k2, k3, k4, k5, k6⟩ := hne c hc
    refine (hget _ _ k1 k2).trans ?_
    by_cases h3 : c < 3
    · rw [if_pos h3]
      exact (hst.comps c (k5 h3)).1
    · rw [if_neg h3]
      exact (hst.fields _ (k6 h3)).trans ((c4 _ k3 k4).trans (hcomps c hc))
  · rw [hfw, hst.fw, c5]
  · exact (hget _ _ (by decide) (by decide)).trans ((hst.fields _ (hkeys _ (by simp))).trans c3)
  · have himage : getF (fwStarted (if safeOn s then runSafe else runRunning) v) FW.IMAGE.IMAGE_ID = idIn s (activeBank s) 0 :=
      (getF_setF_self ..).trans ((Nat.mod_eq_of_lt (idIn_lt ..)).trans (hid _))
    rw [himage, hfw, hst.fw, c5]
    exact aGet_aIns_self ..
  · obtain ⟨k1, k2⟩ := hcore FW.GENERATION.GENERATION (by simp)
    exact (hget _ _ (by decide) (by decide)).trans ((hst.fields _ (hkeys _ (by simp))).trans (c4 _ k1 k2))

end Sys2Proof.Machine

open Sys2Proof Sys2Proof.Machine

/-- Settles O45: the main core by the parts of its start, a helper and a component by theirs. -/
theorem coresAndComponentsStart : Obligations.CoresAndComponentsStart := by
  unfold Obligations.CoresAndComponentsStart
  intro dt s a ha
  have hn : noEnd a := ha ▸ noEnd_advance dt s
  refine ⟨fun found ok0 ok1 d hwf => ⟨fun h1 h2 h3 h4 => ⟨fun hb howed => ?_, fun hb => ?_⟩, fun h => ?_⟩,
    fun k off hk1 hk4 hoff => ⟨fun h1 h2 => ?_, fun h1 h2 htrial hroom => ?_, fun h ok => ?_⟩,
    fun c hc => ⟨fun hon hinj => ?_, fun hoff => ?_, fun h1 h2 h3 h4 => ?_, fun h => ?_⟩⟩
  · refine answers_eq ha (exec_mainCoreStart ..) hwf (mainStart_boots h1 h2 h3 h4 hb) ?_
    have hkeep := booted_keeps found ok0 ok1 d a
    obtain ⟨g1, g2, g3, g4⟩ := generated_shown (booted found ok0 ok1 d a).1
    generalize (booted found ok0 ok1 d a).1 = u at *
    obtain ⟨hin, hout, hcfw⟩ := setComps_shown (List.range 8) coRestarting (generated u)
    obtain ⟨hcsta, -⟩ := setComps_rest (List.range 8) coRestarting (generated u)
    have hst := fwStart_shown (s := setComps (List.range 8) coRestarting (generated u)) (by rw [hcfw, g1, hkeep.fw]; exact howed)
      (fun c hc => hin c (List.mem_range.2 hc))
    have hcomp : ∀ f ∈ [STA.SAFE_STATUS.SAFE, FW.GENERATION.GENERATION, FW.CORE_STATUS.LOADS 0], ∀ c ∈ List.range 8,
        f.key ≠ (FW.COMP_STATUS.STATE c).key := by decide
    generalize setComps (List.range 8) coRestarting (generated u) = v at *
    generalize fwStart crLoading (compsOf 0) v = t at *
    have hno : noEnd t := noEnd_congr hn (hst.sta.trans (hcsta.trans (g2.trans hkeep.sta)))
    have hset : ∀ f : Fld, f.key ≠ TST.CTRL.OVERRIDE.key → getF (settle t) f = getF t f := fun f hf => getF_settle _ hno hf
    have hsafe : safeOn v = safeOn a := by
      unfold safeOn getB
      rw [hout _ (hcomp _ (by simp)), g3 _ (by decide), hkeep.regs _ (by decide) (by decide)]
    have hgen : getF v FW.GENERATION.GENERATION = (if a.fw.genSet = true then getF a FW.GENERATION.GENERATION
        else (getF a FW.GENERATION.GENERATION + 1) % 2 ^ 32) := by
      rw [hout _ (hcomp _ (by simp)), g4, hkeep.fw, hkeep.regs _ (by decide) (by decide)]
    have hloads : getF v (FW.CORE_STATUS.LOADS 0) = getF a (FW.CORE_STATUS.LOADS 0) := by
      rw [hout _ (hcomp _ (by simp)), g3 _ (by decide), hkeep.regs _ (by decide) (by decide)]
    have hgenSet : v.fw.genSet = false := by rw [hcfw, g1]
    have hrange : ∀ k < 4, (FW.CORE_STATUS.STATE k).key ≠ TST.CTRL.OVERRIDE.key := by decide
    have hrange8 : ∀ c < 8, (FW.COMP_STATUS.STATE c).key ≠ TST.CTRL.OVERRIDE.key := by decide
    refine ⟨(hset _ (by decide)).trans hst.core, ?_, fun k hk1 hk4 => (hset _ (hrange k hk4)).trans (hst.helpers k hk1 hk4),
      fun c hc => (hset _ (hrange8 c hc)).trans (hst.comps c hc), ?_, ?_, ?_, ?_, ?_⟩
    · exact (hset _ (by decide)).trans (hsafe ▸ hst.run)
    · rw [settle_fw hno]
      exact hst.set.trans hgenSet
    · rw [settle_fw hno]
      exact hst.first
    · exact (hset _ (by decide)).trans (hloads ▸ hst.loads)
    · rw [settle_fw hno, hset _ (by decide)]
      exact hst.mpu
    · exact (hset _ (by decide)).trans (hst.generation.trans hgen)
  · refine answers_eq ha (exec_mainCoreStart ..) hwf (mainStart_fails h1 h2 h3 h4 hb) ?_
    have hkeep := booted_keeps found ok0 ok1 d a
    generalize (booted found ok0 ok1 d a).1 = u at *
    have hno : noEnd (setCore 0 crFailed u) := noEnd_congr hn hkeep.sta
    refine ⟨(getF_settle _ hno (by decide)).trans (getF_setF_self ..), (getF_settle _ hno (by decide)).trans ?_⟩
    exact (getF_setF_ne _ _ (by decide)).trans ((hkeep.regs _ (by decide) (by decide)).trans h1)
  · exact answers_untouched ha (exec_mainCoreStart ..) hwf (mainStart_idle h)
  · have hload := helperLoad_done (off := off) h1 h2
    have hfail : failing (helperLoad k true off) a = startComps (compsOf k) (helperLoaded k a) := by
      refine (failing_eq ?_ fun c hc hon => ?_).trans hload
      · rw [hload, (startComps_shown (compsOf k) (helperLoaded k a)).fw]
        rfl
      · rw [hload]
        exact compOn_helperStarted hk4 hc hon
    refine answers_eq ha (exec_helperLoad ..) (by simpa [Instr.wf, hk1, hk4] using hoff) hfail ?_
    obtain ⟨l1, l2, l3, -⟩ := helperLoaded_shown k a
    have hst := startComps_shown (compsOf k) (helperLoaded k a)
    have hlsta : (helperLoaded k a).sta = a.sta := rfl
    have hltime : (helperLoaded k a).time = a.time := rfl
    generalize helperLoaded k a = u at *
    generalize startComps (compsOf k) u = t at *
    have hno : noEnd t := noEnd_congr hn (hst.sta.trans hlsta)
    have hset : ∀ f : Fld, f.key ≠ TST.CTRL.OVERRIDE.key → getF (settle t) f = getF t f := fun f hf => getF_settle _ hno hf
    have hover : (FW.CORE_STATUS.STATE k).key ≠ TST.CTRL.OVERRIDE.key ∧ (FW.CORE_STATUS.LOADS k).key ≠ TST.CTRL.OVERRIDE.key ∧
        ∀ c < 8, (FW.COMP_STATUS.STATE c).key ≠ TST.CTRL.OVERRIDE.key := by
      refine ⟨?_, ?_, by decide⟩
      · simp only [FW.CORE_STATUS.STATE, TST.CTRL.OVERRIDE, fld]; omega
      · simp only [FW.CORE_STATUS.LOADS, TST.CTRL.OVERRIDE, fld]; omega
    obtain ⟨o1, o2, o3⟩ := hover
    have hne := fun c (hc : c ∈ compsOf k) => coreField_ne_comp (k := k) (compsOf_lt k c hc)
    refine ⟨(hset _ o1).trans ((hst.fields _ fun c hc => (hne c hc).1).trans l1), fun c hc => ⟨?_, ?_⟩, ?_, fun hk => ?_,
      (hset _ o2).trans ((hst.fields _ fun c hc => (hne c hc).2).trans l2)⟩
    · exact (hset _ (o3 c (compsOf_lt k c hc))).trans (hst.comps c hc).1
    · rw [settle_fw hno, ← hltime]
      exact (hst.comps c hc).2
    · rw [settle_fw hno, hst.fw]
      exact l3
    · rw [settle_tmg hno]
      subst hk
      exact hst.thermal (by decide)
  · have hmsg : messageWaits 0xB4 (0xB10 + k) off (sendFault 0xB4 (0xB10 + k) off (incF a (FW.CORE_STATUS.LOADS k))) :=
      messageWaits_sendFault (roomMsg_congr (s := a) rfl hroom)
    have hcore : coreState (sendFault 0xB4 (0xB10 + k) off (incF a (FW.CORE_STATUS.LOADS k))) k = crLoading := by
      refine (getF_sendFault _ _ _ _ ?_).trans ((getF_incF_ne _ ?_).trans h1)
      · simp only [FW.CORE_STATUS.STATE, FLC.STATUS.QUEUE_OVF, fld]; omega
      · simp only [FW.CORE_STATUS.STATE, FW.CORE_STATUS.LOADS, fld]; omega
    have hsta : (sendFault 0xB4 (0xB10 + k) off (incF a (FW.CORE_STATUS.LOADS k))).sta = a.sta := sendFault_sta ..
    have heq := helperLoad_failed (off := off) h1 h2
    generalize sendFault 0xB4 (0xB10 + k) off (incF a (FW.CORE_STATUS.LOADS k)) = u at *
    have hwfi : (Instr.helperLoad dt k false off).wf = true := by simpa [Instr.wf, hk1, hk4] using hoff
    by_cases hno : noRestart a = true
    · rw [if_pos hno] at heq ⊢
      obtain ⟨r1, r2, -, -⟩ := setComps_rest (compsOf k) coFailed (setCore k crFailed u)
      obtain ⟨-, hout, -⟩ := setComps_shown (compsOf k) coFailed (setCore k crFailed u)
      refine answers_failing ha (exec_helperLoad ..) hwfi htrial heq (noEnd_congr hn (r1.trans hsta)) fun t ht => ⟨?_, ?_⟩
      · exact messageWaits_of_sub hmsg fun x hx => ht.inbox x (r2 ▸ hx)
      · exact (ht.getF_fw (c := k) (by omega) (by simp)).trans ((hout _ fun c hc => (coreField_ne_comp (compsOf_lt k c hc)).1).trans (getF_setF_self ..))
    · rw [if_neg hno] at heq ⊢
      obtain ⟨-, hout⟩ := noteRestart_shown (8 + k) 5 u
      refine answers_failing ha (exec_helperLoad ..) hwfi htrial heq (noEnd_congr (s := u) (noEnd_congr hn hsta) rfl) fun t ht => ⟨?_, ?_⟩
      · exact messageWaits_of_sub hmsg fun x hx => ht.inbox x hx
      · refine (ht.getF_fw (c := k) (by omega) (by simp)).trans ((hout _ ?_ ?_ ?_).trans hcore)
        · simp only [FW.CORE_STATUS.STATE, FW.STATUS.RESTARTS, fld]; omega
        · simp only [FW.CORE_STATUS.STATE, FW.STATUS.LAST_COMP, fld]; omega
        · simp only [FW.CORE_STATUS.STATE, FW.STATUS.LAST_CAUSE, fld]; omega
  · exact answers_failing_same ha (exec_helperLoad ..) (by simpa [Instr.wf, hk1, hk4] using hoff) (helperLoad_idle h)
  · refine answers_eq ha (exec_componentCheckIn ..) (decide_eq_true hc) (checkInRow_on hon hinj) ?_
    have hno : noEnd (setFw { a.fw with checkIn := aPut 0 a.fw.checkIn c a.time.ticks } a) := noEnd_congr hn rfl
    exact ⟨settle_fw hno, fieldsBut_settle hno (fieldsBut_refl [] a)⟩
  · exact answers_untouched ha (exec_componentCheckIn ..) (decide_eq_true hc) (checkInRow_off hoff)
  · refine answers_eq ha (exec_fwComponentRestart ..) (decide_eq_true hc) (compRestarted_done h1 h2 h3 h4) ?_
    have hst := startComps_shown [c] a
    generalize startComps [c] a = u at *
    have hroomu : roomRec a → roomRec u := fun h => roomRec_congr (s := a) hst.inbox h
    have hno : noEnd (event 0x0B01 [c, getF a (FW.COMP_STATUS.LAST_CAUSE c)] u) := noEnd_congr hn ((event_sta ..).trans hst.sta)
    have hfields : fieldsBut [FW.COMP_STATUS.STATE c, EVR.COUNTS.DROPPED] a u := fun f hf _ =>
      hst.fields f fun d hd => by
        rw [List.mem_singleton.1 hd]
        exact fun he => hf (by simp [he])
    obtain ⟨hrun, hcheck⟩ := hst.comps c (List.mem_singleton_self c)
    have hover : ∀ c < 8, (FW.COMP_STATUS.STATE c).key ≠ TST.CTRL.OVERRIDE.key ∧ (FW.COMP_STATUS.STATE c).key ≠ EVR.COUNTS.DROPPED.key := by decide
    obtain ⟨o1, o2⟩ := hover c hc
    refine ⟨(getF_settle _ hno o1).trans ((getF_event _ _ _ o2).trans hrun), ?_, fieldsBut_settle hno (fieldsBut_event (by simp) hfields),
      fun h4c => ?_, fun hr => (eventWaits_settle hno).2 (eventWaits_event (hroomu hr))⟩
    · rw [settle_fw hno, event_fw]
      exact hcheck
    · rw [settle_tmg hno, event_tmg]
      exact hst.thermal (by simp [h4c])
  · exact answers_untouched ha (exec_fwComponentRestart ..) (decide_eq_true hc) (compRestarted_not h)
end

section
/-! O48. Rings are set up, disabled, reset and rung (chapter 15, R347 to R355). -/

namespace Sys2Proof.Machine

/-! ### The registers of a ring -/

/-- Where the registers of a ring and of its errors stand. -/
theorem ringKeys (q : Nat) :
    (CMD.RING_CFG.BASE q).key = 32 * (0xC1000 + 64 * q) ∧ (CMD.RING_CFG.SIZE_LOG2 q).key = 32 * (0xC1000 + 64 * q) + 16 ∧
    (CMD.RING_CFG.ENABLE q).key = 32 * (0xC1000 + 64 * q) + 24 ∧ (CMD.RING_CFG.VECTOR q).key = 32 * (0xC1000 + 64 * q) + 26 ∧
    (CMD.RING_CFG.IRQ_ALL q).key = 32 * (0xC1000 + 64 * q) + 31 ∧ (CMD.RING_CQ.CQ_BASE q).key = 32 * (0xC1004 + 64 * q) ∧
    (CMD.RING_TAIL.TAIL q).key = 32 * (0xC1008 + 64 * q) ∧ (CMD.RING_HEAD.HEAD q).key = 32 * (0xC100C + 64 * q) ∧
    (CMD.RING_CQ_HEAD.CQ_HEAD q).key = 32 * (0xC1010 + 64 * q) ∧ (CMD.RING_CQ_TAIL.CQ_TAIL q).key = 32 * (0xC1014 + 64 * q) ∧
    (CMD.RING_STATUS.STATE q).key = 32 * (0xC1018 + 64 * q) ∧ (CMD.RING_STATUS.SEQ_VALID q).key = 32 * (0xC1018 + 64 * q) + 2 ∧
    CMD.SETUP_STATUS.RING.key = 32 * 0xC000C ∧ CMD.SETUP_STATUS.REASON.key = 32 * 0xC000C + 8 ∧
    CMD.SETUP_STATUS.SETUP_REJECT.key = 32 * 0xC000C + 16 ∧ CMD.ERR_STATUS.DOORBELL_REJECT.key = 32 * 0xC0010 ∧
    CMD.ERR_STATUS.FIRST_AGENT.key = 32 * 0xC0010 + 16 ∧ CMD.ERR_STATUS.FIRST_RING.key = 32 * 0xC0010 + 24 ∧
    TST.CTRL.OVERRIDE.key = 32 * 0xF0000 := by
  refine ⟨?_, ?_, ?_, ?_, ?_, ?_, ?_, ?_, ?_, ?_, ?_, ?_, rfl, rfl, rfl, rfl, rfl, rfl, rfl⟩ <;>
    simp only [CMD.RING_CFG.BASE, CMD.RING_CFG.SIZE_LOG2, CMD.RING_CFG.ENABLE, CMD.RING_CFG.VECTOR, CMD.RING_CFG.IRQ_ALL, CMD.RING_CQ.CQ_BASE,
      CMD.RING_TAIL.TAIL, CMD.RING_HEAD.HEAD, CMD.RING_CQ_HEAD.CQ_HEAD, CMD.RING_CQ_TAIL.CQ_TAIL, CMD.RING_STATUS.STATE,
      CMD.RING_STATUS.SEQ_VALID, fld] <;> omega

/-- The offsets that have an effect of their own: RING_CFG, RING_TAIL, RING_CQ_HEAD. -/
theorem ringOff_ownReg {q j : Nat} (hq : q < 72) (hj : j = 0 ∨ j = 8 ∨ j = 0x10) : OwnReg (0xC1000 + 64 * q + j) := by
  have h : ∀ q < 72, ∀ j ∈ [0, 8, 0x10], (0xC1000 + 64 * q + j) / 4 * 4 = 0xC1000 + 64 * q + j ∧ mapped (0xC1000 + 64 * q + j) = true ∧
      isLow (0xC1000 + 64 * q + j) = false ∧ isHigh (0xC1000 + 64 * q + j) = false ∧ hostOnly (0xC1000 + 64 * q + j) = false ∧
      ((0xC1000 + 64 * q + j) == 0x70060) = false ∧ inR (0xC1000 + 64 * q + j) 0x90030 0x9003C = false ∧
      inR (0xC1000 + 64 * q + j) 0xC0020 0xC002C = false := by decide +kernel
  obtain ⟨h1, h2, h3, h4, h5, h6, h7, h8⟩ := h q hq j (by simpa using hj)
  exact ⟨h1, h2, h3, h4, fun _ => notIts_false h5 h6 h7 h8⟩

/-- What a write of a ring's register does, by its place among the ring's 64 bytes. -/
def ringWrite (agent q j v : Nat) (s : State) : Option State :=
  match j with
  | 0x00 => some (ringCfgWrite agent q v s)
  | 0x04 => some (ringCqWrite agent q v s)
  | 0x08 => some (ringDoorbell agent q v s)
  | 0x10 => some (cqHeadWrite agent q v s)
  | _ => none

theorem ownWrite_ring {agent q j v : Nat} {s : State} (hq : q < 72) (hj : j < 64) :
    ownWrite agent (0xC1000 + 64 * q + j) v s = ringWrite agent q j v s := by
  have hhi : (0xC1000 + 64 * q + j) / 0x10000 = 0xC := by omega
  have hwin : isWin (0xC1000 + 64 * q + j) = false := by
    simp only [isWin, inR, Bool.and_eq_false_iff, decide_eq_false_iff_not]; omega
  have hring : ringReg (0xC1000 + 64 * q + j) = some q := by
    have hin : inR (0xC1000 + 64 * q + j) 0xC1000 0xC2200 = true := by simp only [inR, Bool.and_eq_true, decide_eq_true_eq]; omega
    have hdiv : (0xC1000 + 64 * q + j - 0xC1000) / 64 = q := by omega
    unfold ringReg
    rw [hin, hdiv]
    rfl
  have hmod : (0xC1000 + 64 * q + j) % 64 = j := by omega
  unfold ownWrite
  rw [hhi]
  simp only [hwin, hring, hmod]
  rw [if_neg (by omega), if_neg (by omega), if_neg (by decide)]
  rfl

theorem ringCfg_write {agent q v : Nat} {s : State} (hq : q < 72) (hmay : mayWrite s agent (0xC1000 + 64 * q) = true) (hv : v < 2 ^ 32) :
    busWrite agent (0xC1000 + 64 * q) v 15 s = ringCfgWrite agent q v s :=
  busWrite_own (ringOff_ownReg (j := 0) hq (.inl rfl)) hmay hv (ownWrite_ring (j := 0) hq (by decide))

theorem ringTail_write {agent q v : Nat} {s : State} (hq : q < 72) (hmay : mayWrite s agent (0xC1008 + 64 * q) = true) (hv : v < 2 ^ 32) :
    busWrite agent (0xC1008 + 64 * q) v 15 s = ringDoorbell agent q v s := by
  have he : 0xC1008 + 64 * q = 0xC1000 + 64 * q + 8 := by omega
  rw [he] at hmay ⊢
  exact busWrite_own (ringOff_ownReg (j := 8) hq (.inr (.inl rfl))) hmay hv (ownWrite_ring (j := 8) hq (by decide))

theorem ringCqHead_write {agent q v : Nat} {s : State} (hq : q < 72) (hmay : mayWrite s agent (0xC1010 + 64 * q) = true) (hv : v < 2 ^ 32) :
    busWrite agent (0xC1010 + 64 * q) v 15 s = cqHeadWrite agent q v s := by
  have he : 0xC1010 + 64 * q = 0xC1000 + 64 * q + 0x10 := by omega
  rw [he] at hmay ⊢
  exact busWrite_own (ringOff_ownReg (j := 0x10) hq (.inr (.inr rfl))) hmay hv (ownWrite_ring (j := 0x10) hq (by decide))

/-! ### Setup -/

/-- A write of RING_CFG, before its effect: the vector and IRQ_ALL, which are taken at once. -/
def ringVectored (q v : Nat) (s : State) : State := setF (setF s (CMD.RING_CFG.VECTOR q) (bits v 26 5)) (CMD.RING_CFG.IRQ_ALL q) (bits v 31 1)

theorem ringCfgWrite_foreign {agent q v : Nat} {s : State} (h : agent ≠ 0x01) : ringCfgWrite agent q v s = s := if_pos h

theorem ringCfgWrite_reset {q v : Nat} {s : State} (h : bit v 25 = true) : ringCfgWrite 1 q v s = ringReset q (ringVectored q v s) :=
  (if_neg (by decide)).trans (if_pos h)

theorem ringCfgWrite_enable {q v : Nat} {s : State} (h24 : bit v 24 = true) (h25 : bit v 25 = false) :
    ringCfgWrite 1 q v s = ringEnable q (bits v 0 13) (bits v 16 4) (ringVectored q v s) :=
  (if_neg (by decide)).trans ((if_neg (by rw [h25]; decide)).trans (if_pos h24))

/-- A ring's place and size. -/
def ringSized (q base lg : Nat) (s : State) : State := setF (setF s (CMD.RING_CFG.BASE q) base) (CMD.RING_CFG.SIZE_LOG2 q) lg

theorem ringCfgWrite_disable {q v : Nat} {s : State} (h24 : bit v 24 = false) (h25 : bit v 25 = false) :
    ringCfgWrite 1 q v s = if ringSt s q = ringDisabled then ringSized q (bits v 0 13) (bits v 16 4) (ringVectored q v s)
      else ringDisable q (ringVectored q v s) :=
  (if_neg (by decide)).trans ((if_neg (by rw [h25]; decide)).trans (if_neg (by rw [h24]; decide)))

theorem getF_ringVectored {q v : Nat} {f : Fld} (s : State) (h1 : f.key ≠ (CMD.RING_CFG.VECTOR q).key) (h2 : f.key ≠ (CMD.RING_CFG.IRQ_ALL q).key) :
    getF (ringVectored q v s) f = getF s f := (getF_setF_ne _ _ h2).trans (getF_setF_ne _ _ h1)

theorem bits_lt (v lo w : Nat) : bits v lo w < 2 ^ w := Nat.mod_lt _ (Nat.pos_of_ne_zero (by simp))

theorem ringVectored_vector (q v : Nat) (s : State) : getF (ringVectored q v s) (CMD.RING_CFG.VECTOR q) = bits v 26 5 := by
  refine (getF_setF_ne _ _ (by have h := ringKeys q; omega)).trans ((getF_setF_self ..).trans (Nat.mod_eq_of_lt (bits_lt ..)))

theorem ringVectored_state (q v : Nat) (s : State) : ringSt (ringVectored q v s) q = ringSt s q :=
  getF_ringVectored s (by have h := ringKeys q; omega) (by have h := ringKeys q; omega)

/-- A read depends on the key alone, and a write of a key hides what stood there. -/
theorem getF_setF_congr {s t : State} {f : Fld} (g : Fld) (v : Nat) (h : getF t f = getF s f) : getF (setF t g v) f = getF (setF s g v) f := by
  by_cases hk : f.key = g.key
  · have he : ∀ u : State, getF (setF u g v) f = getF (setF u g v) g := fun u => by
      unfold getF
      rw [hk]
    rw [he, he, getF_setF_self, getF_setF_self]
  · rw [getF_setF_ne _ _ hk, getF_setF_ne _ _ hk, h]

/-- The reason of a refusal is read from the places, sizes and states of the rings. -/
theorem setupReason_congr {s t : State} {q : Nat} (h : ∀ r, getF t (CMD.RING_CFG.BASE r) = getF s (CMD.RING_CFG.BASE r) ∧
    getF t (CMD.RING_CFG.SIZE_LOG2 r) = getF s (CMD.RING_CFG.SIZE_LOG2 r) ∧ getF t (CMD.RING_CQ.CQ_BASE r) = getF s (CMD.RING_CQ.CQ_BASE r) ∧
    getF t (CMD.RING_STATUS.STATE r) = getF s (CMD.RING_STATUS.STATE r)) : setupReason t q = setupReason s q := by
  have hspan : ∀ r, ringSpans t r = ringSpans s r := fun r => by
    obtain ⟨h1, h2, h3, -⟩ := h r
    unfold ringSpans ringSize ringBase cqBase
    rw [h1, h2, h3]
  have hst : ∀ r, ringSt t r = ringSt s r := fun r => (h r).2.2.2
  unfold setupReason
  simp only [hspan, hst, (h q).2.1]

/-- The vector plays no part in the reason. -/
theorem setupReason_vectored (q base lg v : Nat) (s : State) :
    setupReason (ringSized q base lg (ringVectored q v s)) q = setupReason (ringSized q base lg s) q := by
  refine setupReason_congr fun r => ?_
  have hk := ringKeys q
  have hr := ringKeys r
  exact ⟨getF_setF_congr _ _ (getF_setF_congr _ _ (getF_ringVectored s (by omega) (by omega))),
    getF_setF_congr _ _ (getF_setF_congr _ _ (getF_ringVectored s (by omega) (by omega))),
    getF_setF_congr _ _ (getF_setF_congr _ _ (getF_ringVectored s (by omega) (by omega))),
    getF_setF_congr _ _ (getF_setF_congr _ _ (getF_ringVectored s (by omega) (by omega)))⟩

theorem setupReason_le (s : State) (q : Nat) : setupReason s q ≤ 3 := by
  unfold setupReason
  extract_lets lg sp
  split_ifs <;> decide

theorem ringSized_shown (q base lg : Nat) (s : State) (hb : base < 2 ^ 13) (hl : lg < 2 ^ 4) :
    getF (ringSized q base lg s) (CMD.RING_CFG.BASE q) = base ∧ getF (ringSized q base lg s) (CMD.RING_CFG.SIZE_LOG2 q) = lg ∧
    ∀ f : Fld, f.key ≠ (CMD.RING_CFG.BASE q).key → f.key ≠ (CMD.RING_CFG.SIZE_LOG2 q).key → getF (ringSized q base lg s) f = getF s f :=
  ⟨(getF_setF_ne _ _ (by have h := ringKeys q; omega)).trans ((getF_setF_self ..).trans (Nat.mod_eq_of_lt hb)),
    (getF_setF_self ..).trans (Nat.mod_eq_of_lt hl), fun f h1 h2 => (getF_setF_ne _ _ h2).trans (getF_setF_ne _ _ h1)⟩

/-- The pointers of a ring taken modulo its new size. -/
def ringWrapped (q n : Nat) (s : State) : State :=
  let wrap := fun (f : Fld) (t : State) => setF t f (getF t f % n)
  wrap (CMD.RING_TAIL.TAIL q) (wrap (CMD.RING_HEAD.HEAD q) (wrap (CMD.RING_CQ_TAIL.CQ_TAIL q) (wrap (CMD.RING_CQ_HEAD.CQ_HEAD q) s)))

/-- A ring that is enabled, before its tail counts as rung. -/
def ringReady (q : Nat) (s : State) : State :=
  setB (setRingSt q ringActive (setB (ringWrapped q (ringSize s q) s) (CMD.RING_CFG.ENABLE q) true)) (CMD.RING_STATUS.SEQ_VALID q) false

theorem getF_ringReady {q : Nat} {f : Fld} (s : State) (h : f.key ∉ [(CMD.RING_TAIL.TAIL q).key, (CMD.RING_HEAD.HEAD q).key,
    (CMD.RING_CQ_TAIL.CQ_TAIL q).key, (CMD.RING_CQ_HEAD.CQ_HEAD q).key, (CMD.RING_CFG.ENABLE q).key, (CMD.RING_STATUS.STATE q).key,
    (CMD.RING_STATUS.SEQ_VALID q).key]) : getF (ringReady q s) f = getF s f := by
  simp only [List.mem_cons, List.not_mem_nil, or_false, not_or] at h
  obtain ⟨h1, h2, h3, h4, h5, h6, h7⟩ := h
  unfold ringReady setRingSt ringWrapped
  dsimp only
  rw [getF_setB_ne _ _ h7, getF_setF_ne _ _ h6, getF_setB_ne _ _ h5, getF_setF_ne _ _ h1, getF_setF_ne _ _ h2, getF_setF_ne _ _ h3,
    getF_setF_ne _ _ h4]

theorem ringReady_shown (q : Nat) (s : State) : ringSt (ringReady q s) q = ringActive ∧ getB (ringReady q s) (CMD.RING_CFG.ENABLE q) = true ∧
    getB (ringReady q s) (CMD.RING_STATUS.SEQ_VALID q) = false := by
  have hk := ringKeys q
  refine ⟨(getF_setF_ne _ _ (by omega)).trans (getF_setF_self ..), ?_, getB_setB_self _ _ _ rfl⟩
  unfold ringReady setRingSt
  rw [getB_setB_ne _ _ (by omega), getB_setF_ne _ _ (by omega)]
  exact getB_setB_self _ _ _ rfl

theorem ringEnable_busy {q base lg : Nat} {s : State} (h : ringSt s q ≠ ringDisabled) : ringEnable q base lg s = setupReject q 4 s := if_pos h

theorem ringEnable_fits {q base lg : Nat} {s : State} (h : ringSt s q = ringDisabled) (hr : setupReason (ringSized q base lg s) q = 0) :
    ringEnable q base lg s = setCmd { (ringReady q (ringSized q base lg s)).cmd with
      rung := aPut 0 (ringReady q (ringSized q base lg s)).cmd.rung q (getF (ringReady q (ringSized q base lg s)) (CMD.RING_TAIL.TAIL q)) }
      (ringReady q (ringSized q base lg s)) := by
  have hr2 : setupReason (setF (setF s (CMD.RING_CFG.BASE q) base) (CMD.RING_CFG.SIZE_LOG2 q) lg) q = 0 := hr
  unfold ringEnable
  rw [if_neg (not_not.2 h)]
  dsimp only
  rw [hr2]
  rfl

theorem ringEnable_refused {q base lg r : Nat} {s : State} (h : ringSt s q = ringDisabled) (hr : setupReason (ringSized q base lg s) q = r)
    (h0 : r ≠ 0) : ringEnable q base lg s = setupReject q r (setB (ringSized q base lg s) (CMD.RING_CFG.ENABLE q) false) := by
  have hr2 : setupReason (setF (setF s (CMD.RING_CFG.BASE q) base) (CMD.RING_CFG.SIZE_LOG2 q) lg) q = r := hr
  unfold ringEnable
  rw [if_neg (not_not.2 h)]
  dsimp only
  rw [hr2]
  cases r with
  | zero => exact absurd rfl h0
  | succ n => rfl

/-- A refusal is shown with its ring and its reason (R347). -/
theorem setupReject_shown {q r : Nat} (hq : q < 72) (hr : r < 8) (s : State) : getB (setupReject q r s) CMD.SETUP_STATUS.SETUP_REJECT = true ∧
    getF (setupReject q r s) CMD.SETUP_STATUS.REASON = r ∧ getF (setupReject q r s) CMD.SETUP_STATUS.RING = q ∧
    ∀ f : Fld, 32 * 0xC0010 ≤ f.key → getF (setupReject q r s) f = getF s f := by
  have hk := ringKeys q
  refine ⟨getB_setB_self _ _ _ rfl, ?_, ?_, fun f hf => ?_⟩
  · exact (getF_setB_ne _ _ (by decide)).trans ((getF_setF_self ..).trans (Nat.mod_eq_of_lt hr))
  · exact (getF_setB_ne _ _ (by decide)).trans ((getF_setF_ne _ _ (by decide)).trans ((getF_setF_self ..).trans (Nat.mod_eq_of_lt (by omega : q < 2 ^ 7))))
  · exact (getF_setB_ne _ _ (by omega)).trans ((getF_setF_ne _ _ (by omega)).trans (getF_setF_ne _ _ (by omega)))

/-! ### The end of a ring -/

theorem ringDisable_out {q : Nat} {s : State} (h : ringSt s q ≠ ringDisabled) (ho : outOf s q ≠ []) : ringDisable q s = setupReject q 5 s := by
  unfold ringDisable
  rw [if_neg h, if_pos (by simp [ho])]

theorem ringDisable_done {q : Nat} {s : State} (h : ringSt s q ≠ ringDisabled) (ho : outOf s q = []) :
    ringDisable q s = setB (setRingSt q ringDisabled s) (CMD.RING_CFG.ENABLE q) false := by
  unfold ringDisable
  rw [if_neg h, if_neg (by simp [ho])]

/-- A ring whose head takes the tail, before it is active again. -/
def ringEmptied (q : Nat) (s : State) : State :=
  setCmd { s.cmd with rung := aPut 0 s.cmd.rung q (getF s (CMD.RING_TAIL.TAIL q)) } (setF s (CMD.RING_HEAD.HEAD q) (getF s (CMD.RING_TAIL.TAIL q)))

theorem ringReset_off {q : Nat} {s : State} (h : ringSt s q = ringDisabled) : ringReset q s = s := if_pos h

theorem ringReset_on {q : Nat} {s : State} (h : ringSt s q ≠ ringDisabled) :
    ringReset q s = setB (setRingSt q ringActive (ringEmptied q s)) (CMD.RING_STATUS.SEQ_VALID q) false := if_neg h

/-! ### Doorbells -/

/-- The ring takes the tail that its agent writes (R348). -/
def ringFits (s : State) (agent q v : Nat) : Prop :=
  mayRing s agent q = true ∧ (ringSt s q = ringActive ∨ ringSt s q = ringWaiting) ∧ v % 4096 < ringSize s q

theorem ringFits_iff (s : State) (agent q v : Nat) : (mayRing s agent q && (ringSt s q == ringActive || ringSt s q == ringWaiting) &&
    decide (v % 4096 < ringSize s q)) = true ↔ ringFits s agent q v := by
  simp only [ringFits, Bool.and_eq_true, Bool.or_eq_true, beq_iff_eq, decide_eq_true_eq, and_assoc]

theorem ringDoorbell_fits {agent q v : Nat} {s : State} (h : ringFits s agent q v) : ringDoorbell agent q v s =
    if hostAbsentNow s then setF s (CMD.RING_TAIL.TAIL q) (v % 4096)
    else setCmd { s.cmd with rung := aPut 0 s.cmd.rung q (v % 4096), bell := if q = 7 then agent else s.cmd.bell }
      (setF s (CMD.RING_TAIL.TAIL q) (v % 4096)) := by
  unfold ringDoorbell
  exact if_pos ((ringFits_iff s agent q v).2 h)

/-- The first doorbell that is refused is named. -/
def bellNamed (agent q : Nat) (s : State) : State :=
  if getF s CMD.ERR_STATUS.DOORBELL_REJECT = 0 then setF (setF s CMD.ERR_STATUS.FIRST_AGENT agent) CMD.ERR_STATUS.FIRST_RING q else s

theorem ringDoorbell_refused {agent q v : Nat} {s : State} (h : ¬ringFits s agent q v) :
    ringDoorbell agent q v s = incF (bellNamed agent q s) CMD.ERR_STATUS.DOORBELL_REJECT := by
  unfold ringDoorbell
  exact if_neg (fun hf => h ((ringFits_iff s agent q v).1 hf))

/-- A refused doorbell as its registers show it (R348). -/
def BellRefused (a : State) (agent q : Nat) (t : State) : Prop :=
  getF t CMD.ERR_STATUS.DOORBELL_REJECT = min (getF a CMD.ERR_STATUS.DOORBELL_REJECT + 1) 65535 ∧
    getF t (CMD.RING_TAIL.TAIL q) = getF a (CMD.RING_TAIL.TAIL q) ∧ rungTail t q = rungTail a q ∧
    (getF a CMD.ERR_STATUS.DOORBELL_REJECT = 0 → getF t CMD.ERR_STATUS.FIRST_AGENT = agent ∧ getF t CMD.ERR_STATUS.FIRST_RING = q)

theorem bellRefused_shown {agent q : Nat} {s : State} (ha : agent < 256) (hq : q < 72) :
    BellRefused s agent q (incF (bellNamed agent q s) CMD.ERR_STATUS.DOORBELL_REJECT) := by
  have hk := ringKeys q
  have hcount : getF (bellNamed agent q s) CMD.ERR_STATUS.DOORBELL_REJECT = getF s CMD.ERR_STATUS.DOORBELL_REJECT := by
    unfold bellNamed
    split
    · rw [getF_setF_ne _ _ (by decide), getF_setF_ne _ _ (by decide)]
    · rfl
  have htail : getF (bellNamed agent q s) (CMD.RING_TAIL.TAIL q) = getF s (CMD.RING_TAIL.TAIL q) := by
    unfold bellNamed
    split
    · rw [getF_setF_ne _ _ (by omega), getF_setF_ne _ _ (by omega)]
    · rfl
  have hcmd : (bellNamed agent q s).cmd = s.cmd := by
    unfold bellNamed
    split <;> rfl
  refine ⟨?_, (getF_incF_ne _ (by omega)).trans htail, congrArg (fun c : CmdState => aGet 0 c.rung q) hcmd, fun h0 => ?_⟩
  · rw [getF_incF_self, hcount]
    rfl
  · unfold bellNamed
    rw [if_pos h0]
    exact ⟨(getF_incF_ne _ (by decide)).trans ((getF_setF_ne _ _ (by decide)).trans ((getF_setF_self ..).trans (Nat.mod_eq_of_lt ha))),
      (getF_incF_ne _ (by decide)).trans ((getF_setF_self ..).trans (Nat.mod_eq_of_lt (by omega : q < 2 ^ 7)))⟩

/-! ### What each write shows -/

/-- A ring that is enabled shows its setup, and its tail counts as rung (R347). -/
structure RingEnabled (q base lg : Nat) (s t : State) : Prop where
  base : getF t (CMD.RING_CFG.BASE q) = base
  size : getF t (CMD.RING_CFG.SIZE_LOG2 q) = lg
  vector : getF t (CMD.RING_CFG.VECTOR q) = getF s (CMD.RING_CFG.VECTOR q)
  state : ringSt t q = ringActive
  enable : getB t (CMD.RING_CFG.ENABLE q) = true
  seq : getB t (CMD.RING_STATUS.SEQ_VALID q) = false
  rung : rungTail t q = getF t (CMD.RING_TAIL.TAIL q)
  reason : getF t CMD.SETUP_STATUS.REASON = getF s CMD.SETUP_STATUS.REASON
  sta : t.sta = s.sta

theorem ringReady_sta (q : Nat) (w : State) : (ringReady q w).sta = w.sta := by
  unfold ringReady
  simp [setRingSt, ringWrapped]

theorem ringReady_enabled {q base lg : Nat} {s w : State} (hb : getF w (CMD.RING_CFG.BASE q) = base) (hl : getF w (CMD.RING_CFG.SIZE_LOG2 q) = lg)
    (hv : getF w (CMD.RING_CFG.VECTOR q) = getF s (CMD.RING_CFG.VECTOR q)) (hr : getF w CMD.SETUP_STATUS.REASON = getF s CMD.SETUP_STATUS.REASON)
    (hs : w.sta = s.sta) : RingEnabled q base lg s (setCmd { (ringReady q w).cmd with
      rung := aPut 0 (ringReady q w).cmd.rung q (getF (ringReady q w) (CMD.RING_TAIL.TAIL q)) } (ringReady q w)) := by
  obtain ⟨e1, e2, e3⟩ := ringReady_shown q w
  have hsta := ringReady_sta q w
  have hk := ringKeys q
  have hother : ∀ f ∈ [CMD.RING_CFG.BASE q, CMD.RING_CFG.SIZE_LOG2 q, CMD.RING_CFG.VECTOR q, CMD.SETUP_STATUS.REASON],
      getF (ringReady q w) f = getF w f := by
    intro f hf
    refine getF_ringReady w ?_
    simp only [List.mem_cons, List.not_mem_nil, or_false] at hf ⊢
    rcases hf with rfl | rfl | rfl | rfl <;> omega
  generalize ringReady q w = y at *
  exact ⟨(hother _ (by simp)).trans hb, (hother _ (by simp)).trans hl, (hother _ (by simp)).trans hv, e1, e2, e3,
    aGet_aPut_self 0 y.cmd.rung q _, (hother _ (by simp)).trans hr, hsta.trans hs⟩

theorem ringEnable_enabled {q base lg : Nat} {s : State} (hb : base < 2 ^ 13) (hl : lg < 2 ^ 4) (h : ringSt s q = ringDisabled)
    (hr : setupReason (ringSized q base lg s) q = 0) : RingEnabled q base lg s (ringEnable q base lg s) := by
  obtain ⟨z1, z2, z3⟩ := ringSized_shown q base lg s hb hl
  have hk := ringKeys q
  rw [ringEnable_fits h hr]
  exact ringReady_enabled z1 z2 (z3 _ (by omega) (by omega)) (z3 _ (by omega) (by omega)) rfl

/-- A ring whose setup does not fit shows why, and stays as it was (R347). -/
structure RingRefused (q base lg r : Nat) (s t : State) : Prop where
  base : getF t (CMD.RING_CFG.BASE q) = base
  size : getF t (CMD.RING_CFG.SIZE_LOG2 q) = lg
  vector : getF t (CMD.RING_CFG.VECTOR q) = getF s (CMD.RING_CFG.VECTOR q)
  state : ringSt t q = ringSt s q
  reject : getB t CMD.SETUP_STATUS.SETUP_REJECT = true
  reason : getF t CMD.SETUP_STATUS.REASON = r
  ring : getF t CMD.SETUP_STATUS.RING = q
  cmd : t.cmd = s.cmd
  sta : t.sta = s.sta

theorem ringEnable_misfit {q base lg r : Nat} {s : State} (hq : q < 72) (hb : base < 2 ^ 13) (hl : lg < 2 ^ 4) (h : ringSt s q = ringDisabled)
    (hr : setupReason (ringSized q base lg s) q = r) (h0 : r ≠ 0) : RingRefused q base lg r s (ringEnable q base lg s) := by
  obtain ⟨z1, z2, z3⟩ := ringSized_shown q base lg s hb hl
  have hk := ringKeys q
  have hrlt : r < 8 := by
    have := setupReason_le (ringSized q base lg s) q
    omega
  rw [ringEnable_refused h hr h0]
  have hzcmd : (ringSized q base lg s).cmd = s.cmd := rfl
  have hzsta : (ringSized q base lg s).sta = s.sta := rfl
  generalize ringSized q base lg s = w at *
  obtain ⟨e1, e2, e3, e4⟩ := setupReject_shown hq hrlt (setB w (CMD.RING_CFG.ENABLE q) false)
  have hcmd : (setupReject q r (setB w (CMD.RING_CFG.ENABLE q) false)).cmd = w.cmd := rfl
  have hsta : (setupReject q r (setB w (CMD.RING_CFG.ENABLE q) false)).sta = w.sta := rfl
  generalize setupReject q r (setB w (CMD.RING_CFG.ENABLE q) false) = x at *
  have hget : ∀ f : Fld, 32 * 0xC0010 ≤ f.key → f.key ≠ (CMD.RING_CFG.ENABLE q).key → getF x f = getF w f := fun f h1 h2 =>
    (e4 f h1).trans (getF_setB_ne _ _ h2)
  exact ⟨(hget _ (by omega) (by omega)).trans z1, (hget _ (by omega) (by omega)).trans z2,
    (hget _ (by omega) (by omega)).trans (z3 _ (by omega) (by omega)), (hget _ (by omega) (by omega)).trans (z3 _ (by omega) (by omega)), e1, e2, e3,
    hcmd.trans hzcmd, hsta.trans hzsta⟩

/-- A ring that is reset is empty and active (R353). -/
theorem ringReset_shown {q : Nat} {s : State} (h : ringSt s q ≠ ringDisabled) : ringSt (ringReset q s) q = ringActive ∧
    (ringReset q s).cmd.pkts = s.cmd.pkts ∧ getF (ringReset q s) (CMD.RING_HEAD.HEAD q) = getF s (CMD.RING_TAIL.TAIL q) % 4096 ∧
    rungTail (ringReset q s) q = getF s (CMD.RING_TAIL.TAIL q) ∧ getB (ringReset q s) (CMD.RING_STATUS.SEQ_VALID q) = false ∧
    (ringReset q s).sta = s.sta := by
  have hk := ringKeys q
  rw [ringReset_on h]
  have hhead : getF (ringEmptied q s) (CMD.RING_HEAD.HEAD q) = getF s (CMD.RING_TAIL.TAIL q) % 4096 := getF_setF_self ..
  have hpkts : (ringEmptied q s).cmd.pkts = s.cmd.pkts := rfl
  have hrung : rungTail (ringEmptied q s) q = getF s (CMD.RING_TAIL.TAIL q) := aGet_aPut_self 0 s.cmd.rung q _
  have hsta : (ringEmptied q s).sta = s.sta := rfl
  generalize ringEmptied q s = w at *
  exact ⟨(getF_setB_ne _ _ (by omega)).trans (getF_setF_self ..), hpkts,
    (getF_setB_ne _ _ (by omega)).trans ((getF_setF_ne _ _ (by omega)).trans hhead), hrung, getB_setB_self _ _ _ rfl, hsta⟩

/-- A doorbell that fits moves the tail (R348). -/
structure BellTaken (agent q v : Nat) (s t : State) : Prop where
  tail : getF t (CMD.RING_TAIL.TAIL q) = v % 4096
  rung : rungTail t q = if hostAbsentNow s = true then rungTail s q else v % 4096
  bell : q = 7 → hostAbsentNow s = false → t.cmd.bell = agent
  pkts : t.cmd.pkts = s.cmd.pkts
  waits : waitingSame s t
  fields : fieldsBut [CMD.RING_TAIL.TAIL q] s t
  sta : t.sta = s.sta

theorem ringDoorbell_taken {agent q v : Nat} {s : State} (h : ringFits s agent q v) : BellTaken agent q v s (ringDoorbell agent q v s) := by
  rw [ringDoorbell_fits h]
  have htail : getF (setF s (CMD.RING_TAIL.TAIL q) (v % 4096)) (CMD.RING_TAIL.TAIL q) = v % 4096 := (getF_setF_self ..).trans (Nat.mod_mod ..)
  have hfields : fieldsBut [CMD.RING_TAIL.TAIL q] s (setF s (CMD.RING_TAIL.TAIL q) (v % 4096)) :=
    fieldsBut_setF (List.mem_singleton_self _) (fieldsBut_refl _ s)
  have hwait : waitingSame s (setF s (CMD.RING_TAIL.TAIL q) (v % 4096)) := ⟨rfl, rfl, rfl, rfl, rfl⟩
  have hsta : (setF s (CMD.RING_TAIL.TAIL q) (v % 4096)).sta = s.sta := rfl
  have hcmd : (setF s (CMD.RING_TAIL.TAIL q) (v % 4096)).cmd = s.cmd := rfl
  generalize setF s (CMD.RING_TAIL.TAIL q) (v % 4096) = u at *
  by_cases habs : hostAbsentNow s = true
  · rw [if_pos habs]
    refine ⟨htail, ?_, fun _ h => absurd (habs.symm.trans h) (by decide), congrArg (·.pkts) hcmd, hwait, hfields, hsta⟩
    rw [if_pos habs]
    exact congrArg (fun c : CmdState => aGet 0 c.rung q) hcmd
  · rw [if_neg habs]
    refine ⟨htail, ?_, fun h7 _ => ?_, rfl, hwait, hfields, hsta⟩
    · rw [if_neg habs]
      exact aGet_aPut_self 0 s.cmd.rung q _
    · exact if_pos h7

/-- CQ_HEAD moves, and the ring is active or waits by the room there is then (R359). -/
structure CqMoved (q v : Nat) (s t : State) : Prop where
  head : getF t (CMD.RING_CQ_HEAD.CQ_HEAD q) = v % 4096
  cmd : t.cmd = s.cmd
  state : ringSt t q = if ringSt s q = ringActive ∨ ringSt s q = ringWaiting then
    (if cqRoom t q = true ∧ storeRoom t = true then ringActive else ringWaiting) else ringSt s q
  fields : fieldsBut [CMD.RING_CQ_HEAD.CQ_HEAD q, CMD.RING_STATUS.STATE q] s t
  sta : t.sta = s.sta

/-- The room in a completion queue is read from three of its registers and from the packets. -/
theorem cqRoom_congr {q : Nat} {s t : State} (hcmd : t.cmd = s.cmd) (h1 : getF t (CMD.RING_CFG.SIZE_LOG2 q) = getF s (CMD.RING_CFG.SIZE_LOG2 q))
    (h2 : getF t (CMD.RING_CQ_TAIL.CQ_TAIL q) = getF s (CMD.RING_CQ_TAIL.CQ_TAIL q))
    (h3 : getF t (CMD.RING_CQ_HEAD.CQ_HEAD q) = getF s (CMD.RING_CQ_HEAD.CQ_HEAD q)) : cqRoom t q = cqRoom s q := by
  unfold cqRoom ringSize outOf
  rw [hcmd, h1, h2, h3]

theorem ringRoom_moved {q v : Nat} {s u : State} (hhead : getF u (CMD.RING_CQ_HEAD.CQ_HEAD q) = v % 4096) (hcmd : u.cmd = s.cmd)
    (hst : ringSt u q = ringSt s q) (hfields : fieldsBut [CMD.RING_CQ_HEAD.CQ_HEAD q, CMD.RING_STATUS.STATE q] s u) (hsta : u.sta = s.sta) :
    CqMoved q v s (ringRoom q u) := by
  have hk := ringKeys q
  unfold ringRoom
  rw [hst]
  split
  · next hon =>
    generalize hx : (if (cqRoom u q && storeRoom u) = true then ringActive else ringWaiting) = x
    have hne : ∀ f : Fld, f.key ≠ (CMD.RING_STATUS.STATE q).key → getF (setRingSt q x u) f = getF u f := fun f hf => getF_setF_ne _ _ hf
    have hroom : cqRoom (setRingSt q x u) q = cqRoom u q := cqRoom_congr rfl (hne _ (by omega)) (hne _ (by omega)) (hne _ (by omega))
    have hstore : storeRoom (setRingSt q x u) = storeRoom u := rfl
    refine ⟨(hne _ (by omega)).trans hhead, hcmd, ?_, fieldsBut_setF (by simp) hfields, hsta⟩
    rw [if_pos hon, hroom, hstore]
    refine (getF_setF_self ..).trans ?_
    rw [← hx]
    by_cases hr : cqRoom u q = true ∧ storeRoom u = true
    · rw [if_pos hr, if_pos (Bool.and_eq_true_iff.2 hr)]
      rfl
    · rw [if_neg hr, if_neg (fun h => hr (Bool.and_eq_true_iff.1 h))]
      rfl
  · next hoff =>
    refine ⟨hhead, hcmd, ?_, hfields, hsta⟩
    rw [if_neg hoff, hst]

theorem cqHeadWrite_moved {agent q v : Nat} {s : State} (h : mayCq s agent q = true) : CqMoved q v s (cqHeadWrite agent q v s) := by
  have hk := ringKeys q
  have he : cqHeadWrite agent q v s = ringRoom q (setF s (CMD.RING_CQ_HEAD.CQ_HEAD q) (v % 4096)) := if_pos h
  rw [he]
  exact ringRoom_moved ((getF_setF_self ..).trans (Nat.mod_mod ..)) rfl (getF_setF_ne _ _ (by omega))
    (fieldsBut_setF (by simp) (fieldsBut_refl _ s)) rfl

/-! ### The writes of RING_CFG by the host driver -/

section
variable {dt q : Nat} {v : Word} {s a : State}

theorem ringEnable_answers {P : State → Prop} (ha : a = advance dt s) (hq : q < 72) (h24 : bit v.toNat 24 = true) (h25 : bit v.toNat 25 = false)
    (hp : P (settle (ringEnable q (bits v.toNat 0 13) (bits v.toNat 16 4) (ringVectored q v.toNat a)))) : Answers (.ringEnable dt 0x01 q v) s P := by
  have hbit : ∀ i, v.getLsbD i = bit v.toNat i := fun i => rfl
  refine answers_eq ha (exec_ringEnable ..) ?_ ((ringCfg_write hq rfl v.isLt).trans (ringCfgWrite_enable h24 h25)) hp
  simp only [Instr.wf, hbit, h24, h25, hq]
  rfl

theorem ringDisable_answers {P : State → Prop} (ha : a = advance dt s) (hq : q < 72) (h24 : bit v.toNat 24 = false) (h25 : bit v.toNat 25 = false)
    (hp : P (settle (if ringSt a q = ringDisabled then ringSized q (bits v.toNat 0 13) (bits v.toNat 16 4) (ringVectored q v.toNat a)
      else ringDisable q (ringVectored q v.toNat a)))) : Answers (.ringDisable dt 0x01 q v) s P := by
  have hbit : ∀ i, v.getLsbD i = bit v.toNat i := fun i => rfl
  refine answers_eq ha (exec_ringDisable ..) ?_ ((ringCfg_write hq rfl v.isLt).trans (ringCfgWrite_disable h24 h25)) hp
  simp only [Instr.wf, hbit, h24, h25, hq]
  rfl

theorem ringReset_answers {P : State → Prop} (ha : a = advance dt s) (hq : q < 72) (h25 : bit v.toNat 25 = true)
    (hp : P (settle (ringReset q (ringVectored q v.toNat a)))) : Answers (.ringReset dt 0x01 q v) s P := by
  have hbit : ∀ i, v.getLsbD i = bit v.toNat i := fun i => rfl
  refine answers_eq ha (exec_ringReset ..) ?_ ((ringCfg_write hq rfl v.isLt).trans (ringCfgWrite_reset h25)) hp
  simp only [Instr.wf, hbit, h25, hq]
  rfl

/-- Another agent's write of RING_CFG changes nothing (R347). -/
theorem ringCfg_foreign {agent : Byte} (ha : a = advance dt s) (hq : q < 72) (hagent : agent ≠ 0x01) (hmay : mayWrite a agent.toNat (0xC1000 + 64 * q) = true) :
    (bit v.toNat 24 = true → bit v.toNat 25 = false → Answers (.ringEnable dt agent q v) s (untouched a)) ∧
      (bit v.toNat 24 = false → bit v.toNat 25 = false → Answers (.ringDisable dt agent q v) s (untouched a)) ∧
      (bit v.toNat 25 = true → Answers (.ringReset dt agent q v) s (untouched a)) := by
  have hbit : ∀ i, v.getLsbD i = bit v.toNat i := fun i => rfl
  have hne : agent.toNat ≠ 0x01 := fun h => hagent (BitVec.eq_of_toNat_eq h)
  have hsame : busWrite agent.toNat (0xC1000 + 64 * q) v.toNat 15 a = a := (ringCfg_write hq hmay v.isLt).trans (ringCfgWrite_foreign hne)
  refine ⟨fun h24 h25 => answers_untouched ha (exec_ringEnable ..) ?_ hsame, fun h24 h25 => answers_untouched ha (exec_ringDisable ..) ?_ hsame,
    fun h25 => answers_untouched ha (exec_ringReset ..) ?_ hsame⟩
  · simp only [Instr.wf, hbit, h24, h25, hq]; rfl
  · simp only [Instr.wf, hbit, h24, h25, hq]; rfl
  · simp only [Instr.wf, hbit, h25, hq]; rfl

end

/-- A denied write of a tail is a refused doorbell besides (R348, R399). -/
theorem deniedBell_shown {agent q v : Nat} {s : State} (ha : agent < 256) (hq : q < 72) (h : mayWrite s agent (0xC1008 + 64 * q) = false) :
    BellRefused s agent q (busWrite agent (0xC1008 + 64 * q) v 15 s) ∧ getB (busWrite agent (0xC1008 + 64 * q) v 15 s) SEC.STATUS.DENIED = true ∧
      (busWrite agent (0xC1008 + 64 * q) v 15 s).sta = s.sta := by
  have halign : (0xC1008 + 64 * q) / 4 * 4 = 0xC1008 + 64 * q := by omega
  have hreg : ringReg (0xC1008 + 64 * q) = some q := by
    have hin : inR (0xC1008 + 64 * q) 0xC1000 0xC2200 = true := by simp only [inR, Bool.and_eq_true, decide_eq_true_eq]; omega
    have hdiv : (0xC1008 + 64 * q - 0xC1000) / 64 = q := by omega
    unfold ringReg
    rw [hin, hdiv]
    rfl
  have hmod : (0xC1008 + 64 * q) % 64 = 8 := by omega
  have hk := ringKeys q
  have hrep := deny_reported (write := true) (a := s) doorbellFields ha (by omega : 0xC1008 + 64 * q < 2 ^ 20)
  have hrep0 := deny_reported (write := true) (a := s) [] ha (by omega : 0xC1008 + 64 * q < 2 ^ 20)
  have hmay : mayRing (deny agent (0xC1008 + 64 * q) true s) agent q = false :=
    (hrep.mayRing_eq agent hq).trans (mayRing_of_denied hreg hmod (halign.symm ▸ h))
  have hwrite : busWrite agent (0xC1008 + 64 * q) v 15 s = ringDoorbell agent q v (deny agent (0xC1008 + 64 * q) true s) := by
    simp only [busWrite, halign, h, hreg, hmod]
    rfl
  rw [hwrite, ringDoorbell_refused (fun hf => absurd (hmay.symm.trans hf.1) (by decide))]
  obtain ⟨-, ⟨-, -, -, -, hsta, -⟩, -, hcmd, -⟩ := hrep0.units
  have hflag := hrep0.flag
  have hden : SEC.STATUS.DENIED.key = 32 * 0xE0000 + 8 := rfl
  have hovf : FLC.STATUS.QUEUE_OVF.key = 0x1a01081 := rfl
  have hsec : ∀ f : Fld, f.key < SEC.STATUS.DENIED.key → f.key ≠ FLC.STATUS.QUEUE_OVF.key →
      getF (deny agent (0xC1008 + 64 * q) true s) f = getF s f := fun f h1 h2 => by
    refine hrep0.fields f (fun hm => ?_) (by omega)
    obtain ⟨g, hg, he⟩ := List.mem_map.1 hm
    have hle : ∀ g ∈ SEC.STATUS.DENIED :: FLC.STATUS.QUEUE_OVF :: captureFields s ++ [], SEC.STATUS.DENIED.key ≤ g.key ∨ g.key = FLC.STATUS.QUEUE_OVF.key := by
      unfold captureFields
      split <;> decide
    rcases hle g hg with hle | hle <;> omega
  have hshown := bellRefused_shown (s := deny agent (0xC1008 + 64 * q) true s) ha hq
  have hcount := hsec CMD.ERR_STATUS.DOORBELL_REJECT (by omega) (by omega)
  have htail := hsec (CMD.RING_TAIL.TAIL q) (by omega) (by omega)
  generalize deny agent (0xC1008 + 64 * q) true s = u at *
  obtain ⟨h1, h2, h3, h4⟩ := hshown
  have hbell : (bellNamed agent q u).sta = u.sta ∧ getF (bellNamed agent q u) SEC.STATUS.DENIED = getF u SEC.STATUS.DENIED := by
    unfold bellNamed
    split
    · exact ⟨rfl, (getF_setF_ne _ _ (by decide)).trans (getF_setF_ne _ _ (by decide))⟩
    · exact ⟨rfl, rfl⟩
  refine ⟨⟨h1.trans (by rw [hcount]), h2.trans htail, h3.trans (congrArg (fun c : CmdState => aGet 0 c.rung q) hcmd), fun h0 => h4 (hcount.trans h0)⟩, ?_,
    hbell.1.trans hsta⟩
  unfold getB
  rw [getF_incF_ne _ (by decide), hbell.2, hflag]
  rfl

end Sys2Proof.Machine

open Sys2Proof Sys2Proof.Machine

/-- Settles O48: the writes of RING_CFG by their bits, the doorbell by whether it fits, CQ_HEAD by its owner. -/
theorem ringsAreSetUpAndRung : Obligations.RingsAreSetUpAndRung := by
  unfold Obligations.RingsAreSetUpAndRung
  intro dt q v s a ha hq
  have hn : noEnd a := ha ▸ noEnd_advance dt s
  have hk := ringKeys q
  have hlow : ∀ (t : State) (f : Fld), noEnd t → f.key < 32 * 0xF0000 → getF (settle t) f = getF t f := fun t f ht hf =>
    getF_settle t ht (by omega)
  have hlowB : ∀ (t : State) (f : Fld), noEnd t → f.key < 32 * 0xF0000 → getB (settle t) f = getB t f := fun t f ht hf =>
    getB_settle t ht (by omega)
  have hden : SEC.STATUS.DENIED.key < 32 * 0xF0000 := by decide
  have hst : ringSt (ringVectored q v.toNat a) q = ringSt a q := ringVectored_state q v.toNat a
  have hvec := fun f h1 h2 => getF_ringVectored (q := q) (v := v.toNat) (f := f) a h1 h2
  have hvecAt := ringVectored_vector q v.toNat a
  have hreason := fun base lg => setupReason_vectored q base lg v.toNat a
  have hvunits : unitsSame a (ringVectored q v.toNat a) := unitsSame_refl a
  have hvwait : waitingSame a (ringVectored q v.toNat a) := ⟨rfl, rfl, rfl, rfl, rfl⟩
  have hvcmd : (ringVectored q v.toNat a).cmd = a.cmd := rfl
  have hvfields : fieldsBut [CMD.RING_CFG.VECTOR q, CMD.RING_CFG.IRQ_ALL q] a (ringVectored q v.toNat a) :=
    fieldsBut_setF (by simp) (fieldsBut_setF (by simp) (fieldsBut_refl _ a))
  have hvn : noEnd (ringVectored q v.toNat a) := noEnd_congr hn rfl
  have hb13 : bits v.toNat 0 13 < 2 ^ 13 := bits_lt ..
  have hb4 : bits v.toNat 16 4 < 2 ^ 4 := bits_lt ..
  refine ⟨fun h24 h25 => ⟨fun hon => ringEnable_answers ha hq h24 h25 ?_, fun hoff r hr => ringEnable_answers ha hq h24 h25 ?_⟩,
    fun h24 h25 => ⟨fun hoff => ringDisable_answers ha hq h24 h25 ?_, fun hon hout => ringDisable_answers ha hq h24 h25 ?_,
      fun hon hout => ringDisable_answers ha hq h24 h25 ?_⟩,
    fun h25 => ⟨fun hon => ringReset_answers ha hq h25 ?_, fun hoff => ringReset_answers ha hq h25 ?_⟩,
    fun agent hagent hmay => ringCfg_foreign ha hq hagent hmay, fun agent => ⟨fun hmay => ⟨fun hfits => ?_, fun hfits => ?_⟩, fun hmay => ?_⟩,
    fun agent hmay => ⟨fun hcq => ?_, fun hcq => ?_⟩⟩
  · rw [ringEnable_busy (hst ▸ hon)]
    generalize ringVectored q v.toNat a = u at *
    obtain ⟨h1, h2, h3, h4⟩ := setupReject_shown hq (r := 4) (by decide) u
    have hx : noEnd (setupReject q 4 u) := noEnd_congr hvn rfl
    exact ⟨(hlow _ _ hx (by omega)).trans ((h4 _ (by omega)).trans hst), (hlowB _ _ hx (by decide)).trans h1, (hlow _ _ hx (by decide)).trans h2,
      (hlow _ _ hx (by decide)).trans h3, (hlow _ _ hx (by omega)).trans ((h4 _ (by omega)).trans (hvec _ (by omega) (by omega))),
      (unitsSame_settle hx).2 hvunits, (waitingSame_settle hx).2 hvwait⟩
  · have hr2 := (hreason (bits v.toNat 0 13) (bits v.toNat 16 4)).trans hr
    by_cases h0 : r = 0
    · have hen := ringEnable_enabled hb13 hb4 (hst.trans hoff) (h0 ▸ hr2)
      generalize ringVectored q v.toNat a = u at *
      generalize ringEnable q (bits v.toNat 0 13) (bits v.toNat 16 4) u = x at *
      have hx := noEnd_congr hvn hen.sta
      refine ⟨(hlow _ _ hx (by omega)).trans hen.base, (hlow _ _ hx (by omega)).trans hen.size, (hlow _ _ hx (by omega)).trans (hen.vector.trans hvecAt),
        fun _ => ⟨(hlow _ _ hx (by omega)).trans hen.state, (hlowB _ _ hx (by omega)).trans hen.enable, (hlowB _ _ hx (by omega)).trans hen.seq, ?_,
          (hlow _ _ hx (by decide)).trans (hen.reason.trans (hvec _ (by omega) (by omega)))⟩, fun h => absurd h0 h⟩
      rw [hlow _ _ hx (by omega), ← hen.rung]
      exact congrArg (fun c : CmdState => aGet 0 c.rung q) (settle_cmd hx)
    · have hen := ringEnable_misfit hq hb13 hb4 (hst.trans hoff) hr2 h0
      generalize ringVectored q v.toNat a = u at *
      generalize ringEnable q (bits v.toNat 0 13) (bits v.toNat 16 4) u = x at *
      have hx := noEnd_congr hvn hen.sta
      exact ⟨(hlow _ _ hx (by omega)).trans hen.base, (hlow _ _ hx (by omega)).trans hen.size, (hlow _ _ hx (by omega)).trans (hen.vector.trans hvecAt),
        fun h => absurd h h0, fun _ => ⟨(hlow _ _ hx (by omega)).trans (hen.state.trans (hst.trans hoff)), (hlowB _ _ hx (by decide)).trans hen.reject,
          (hlow _ _ hx (by decide)).trans hen.reason, (hlow _ _ hx (by decide)).trans hen.ring, (settle_cmd hx).trans (hen.cmd.trans hvcmd)⟩⟩
  · rw [if_pos hoff]
    obtain ⟨z1, z2, z3⟩ := ringSized_shown q _ _ (ringVectored q v.toNat a) hb13 hb4
    generalize ringVectored q v.toNat a = u at *
    have hzcmd : (ringSized q (bits v.toNat 0 13) (bits v.toNat 16 4) u).cmd = u.cmd := rfl
    have hx : noEnd (ringSized q (bits v.toNat 0 13) (bits v.toNat 16 4) u) := noEnd_congr hvn rfl
    generalize ringSized q (bits v.toNat 0 13) (bits v.toNat 16 4) u = x at *
    exact ⟨(hlow _ _ hx (by omega)).trans ((z3 _ (by omega) (by omega)).trans (hst.trans hoff)), (settle_cmd hx).trans (hzcmd.trans hvcmd),
      (hlow _ _ hx (by omega)).trans z1, (hlow _ _ hx (by omega)).trans z2⟩
  · rw [if_neg hon, ringDisable_done (show ringSt (ringVectored q v.toNat a) q ≠ ringDisabled by rw [hst]; exact hon) hout]
    generalize ringVectored q v.toNat a = u at *
    have hx : noEnd (setB (setRingSt q ringDisabled u) (CMD.RING_CFG.ENABLE q) false) := noEnd_congr hvn rfl
    exact ⟨(hlow _ _ hx (by omega)).trans ((getF_setB_ne _ _ (by omega)).trans (getF_setF_self ..)),
      (hlowB _ _ hx (by omega)).trans (getB_setB_self _ _ _ rfl), (unitsSame_settle hx).2 hvunits, (waitingSame_settle hx).2 hvwait⟩
  · rw [if_neg hon, ringDisable_out (show ringSt (ringVectored q v.toNat a) q ≠ ringDisabled by rw [hst]; exact hon) hout]
    generalize ringVectored q v.toNat a = u at *
    obtain ⟨h1, h2, h3, h4⟩ := setupReject_shown hq (r := 5) (by decide) u
    have hx : noEnd (setupReject q 5 u) := noEnd_congr hvn rfl
    exact ⟨(hlow _ _ hx (by omega)).trans ((h4 _ (by omega)).trans hst), (hlowB _ _ hx (by decide)).trans h1, (hlow _ _ hx (by decide)).trans h2,
      (hlow _ _ hx (by decide)).trans h3⟩
  · obtain ⟨h1, h2, h3, h4, h5, h6⟩ := ringReset_shown (show ringSt (ringVectored q v.toNat a) q ≠ ringDisabled by rw [hst]; exact hon)
    have htail := hvec (CMD.RING_TAIL.TAIL q) (by omega) (by omega)
    generalize ringVectored q v.toNat a = u at *
    generalize ringReset q u = x at *
    have hx := noEnd_congr hvn h6
    rw [htail] at h3 h4
    refine ⟨(hlow _ _ hx (by omega)).trans h1, ?_, (hlow _ _ hx (by omega)).trans h3, ?_, (hlowB _ _ hx (by omega)).trans h5⟩
    · exact (congrArg (·.pkts) (settle_cmd hx)).trans (h2.trans (congrArg (·.pkts) hvcmd))
    · exact (congrArg (fun c : CmdState => aGet 0 c.rung q) (settle_cmd hx)).trans h4
  · rw [ringReset_off (hst.trans hoff)]
    exact ⟨(unitsSame_settle hvn).2 hvunits, fieldsBut_settle hvn hvfields⟩
  · refine answers_eq ha (exec_ringDoorbell ..) (decide_eq_true hq) (ringTail_write hq hmay v.isLt) ?_
    have hb := ringDoorbell_taken (agent := agent.toNat) (v := v.toNat) hfits
    generalize ringDoorbell agent.toNat q v.toNat a = x at hb
    have hx := noEnd_congr hn hb.sta
    refine ⟨(hlow _ _ hx (by omega)).trans hb.tail, ?_, fun h7 habs => ?_, ?_, (waitingSame_settle hx).2 hb.waits, fieldsBut_settle hx hb.fields⟩
    · exact (congrArg (fun c : CmdState => aGet 0 c.rung q) (settle_cmd hx)).trans hb.rung
    · exact (congrArg (·.bell) (settle_cmd hx)).trans (hb.bell h7 habs)
    · exact (congrArg (·.pkts) (settle_cmd hx)).trans hb.pkts
  · refine answers_eq ha (exec_ringDoorbell ..) (decide_eq_true hq) ((ringTail_write hq hmay v.isLt).trans (ringDoorbell_refused hfits)) ?_
    obtain ⟨h1, h2, h3, h4⟩ := bellRefused_shown (s := a) agent.isLt hq
    have hbsta : (bellNamed agent.toNat q a).sta = a.sta := by
      unfold bellNamed
      split <;> rfl
    have hx : noEnd (incF (bellNamed agent.toNat q a) CMD.ERR_STATUS.DOORBELL_REJECT) := noEnd_congr hn hbsta
    generalize incF (bellNamed agent.toNat q a) CMD.ERR_STATUS.DOORBELL_REJECT = x at *
    refine ⟨(hlow _ _ hx (by decide)).trans h1, (hlow _ _ hx (by omega)).trans h2, ?_, fun h0 => ?_⟩
    · exact (congrArg (fun c : CmdState => aGet 0 c.rung q) (settle_cmd hx)).trans h3
    · exact ⟨(hlow _ _ hx (by decide)).trans (h4 h0).1, (hlow _ _ hx (by decide)).trans (h4 h0).2⟩
  · obtain ⟨⟨h1, h2, h3, h4⟩, h5, h6⟩ := deniedBell_shown (v := v.toNat) agent.isLt hq hmay
    refine answers_eq ha (exec_ringDoorbell ..) (decide_eq_true hq) rfl ?_
    generalize busWrite agent.toNat (0xC1008 + 64 * q) v.toNat 15 a = x at *
    have hx := noEnd_congr hn h6
    refine ⟨⟨(hlow _ _ hx (by decide)).trans h1, (hlow _ _ hx (by omega)).trans h2, ?_, fun h0 => ?_⟩, (hlowB _ _ hx hden).trans h5⟩
    · exact (congrArg (fun c : CmdState => aGet 0 c.rung q) (settle_cmd hx)).trans h3
    · exact ⟨(hlow _ _ hx (by decide)).trans (h4 h0).1, (hlow _ _ hx (by decide)).trans (h4 h0).2⟩
  · refine answers_eq ha (exec_cqHeadWrite ..) (decide_eq_true hq) (ringCqHead_write hq hmay v.isLt) ?_
    have hm := cqHeadWrite_moved (v := v.toNat) hcq
    generalize cqHeadWrite agent.toNat q v.toNat a = x at hm
    have hx := noEnd_congr hn hm.sta
    have hroom : cqRoom (settle x) q = cqRoom x q :=
      cqRoom_congr (settle_cmd hx) (hlow _ _ hx (by omega)) (hlow _ _ hx (by omega)) (hlow _ _ hx (by omega))
    have hstore : storeRoom (settle x) = storeRoom x := congrArg (fun c : CmdState => decide (c.pkts.length < 16384)) (settle_cmd hx)
    refine ⟨(hlow _ _ hx (by omega)).trans hm.head, (settle_cmd hx).trans hm.cmd, ?_, fieldsBut_settle hx hm.fields⟩
    rw [hroom, hstore]
    exact (hlow _ _ hx (by omega)).trans hm.state
  · exact answers_untouched ha (exec_cqHeadWrite ..) (decide_eq_true hq)
      ((ringCqHead_write hq hmay v.isLt).trans (if_neg (by rw [hcq]; decide)))
end

section
/-! SUPPORT. A ceiling that falls: the rate, boost and the modes follow at once (R237, R266). -/

namespace Sys2Proof.Machine

theorem Quiet.eventP {l : List Fld} {s t : State} (p c : Nat) (b : List Nat) (hl : EVR.COUNTS.DROPPED ∈ l) (h : Quiet l s t) :
    Quiet l s (Machine.eventP p c b t) := by
  obtain ⟨-, -, hf⟩ := eventP_frame p c b t
  refine ⟨?_, ?_, fun x hx => inbox_postRec x (h.inbox x hx), fieldsBut_trans h.fields (fieldsBut_mono hf fun f hf => ?_)⟩
  · exact (eventP_frame p c b t).sta.trans h.sta
  · rw [← h.acts]
    unfold Machine.eventP postRec
    split <;> rfl
  · rw [List.mem_singleton.1 hf]; exact hl

theorem Quiet.sendFaultP {l : List Fld} {s t : State} (p k src i : Nat) (hl : FLC.STATUS.QUEUE_OVF ∈ l) (h : Quiet l s t) :
    Quiet l s (Machine.sendFaultP p k src i t) := by
  refine ⟨?_, ?_, fun x hx => inbox_sendFaultP x (h.inbox x hx), ?_⟩
  · rw [← h.sta]; unfold Machine.sendFaultP; dsimp only; split <;> rfl
  · rw [← h.acts]; unfold Machine.sendFaultP; dsimp only; split <;> rfl
  · unfold Machine.sendFaultP
    dsimp only
    split
    · exact fieldsBut_setB hl (fieldsBut_with h.fields rfl)
    · exact fieldsBut_with h.fields rfl

theorem Quiet.incF {l : List Fld} {s t : State} (f : Fld) (hf : f ∈ l) (h : Quiet l s t) : Quiet l s (Machine.incF t f) := h.setSat f _ hf

theorem repeatBreaks_quiet (cause : Nat) (s : State) : Quiet [PSQ.STATUS.REPEAT_BROKEN, EVR.COUNTS.DROPPED] s (repeatBreaks cause s) := by
  unfold repeatBreaks repeatBroken
  split
  · split
    · exact ((Quiet.refl _ s).setB _ _ (by simp)).event _ _ (by simp)
    · exact .refl _ s
  · exact .refl _ s

theorem repeatBreaks_drg (cause : Nat) (s : State) : (repeatBreaks cause s).drg = s.drg := by
  unfold repeatBreaks repeatBroken
  split
  · split
    · exact event_drg ..
    · rfl
  · rfl

/-- The fields that a fall of a ceiling changes beside the ceiling. -/
def fellFields : List Fld :=
  [LGV.STATUS.BOOST_GRANTED, LGV.OPP.RATE, PSQ.STATUS.FIXED_BEAT_ACTIVE, PSQ.STATUS.REPEAT_BROKEN, EVR.COUNTS.DROPPED]

/-- What a fall of a ceiling brings with it. -/
structure CeilingFell (s t : State) : Prop where
  quiet : Quiet fellFields s t
  prot : t.drg.rate ≤ protCeil s
  therm : t.drg.rate ≤ thermCeil s
  phc : t.phc = s.phc
  lgv : t.lgv = s.lgv
  tmg : t.tmg = s.tmg

theorem rateNow_le_ceilings (s : State) : rateNow s ≤ protCeil s ∧ rateNow s ≤ thermCeil s :=
  have h : rateNow s ≤ min (protCeil s) (thermCeil s) := (min_le_right ..).trans (min_le_right ..)
  ⟨h.trans (min_le_left ..), h.trans (min_le_right ..)⟩

theorem refreshRate_rate (s : State) : (refreshRate s).drg.rate = rateNow s := by
  unfold refreshRate
  split
  · next h => exact h.1
  · rfl

theorem ceilingFell_shown (s : State) : CeilingFell s (ceilingFell s) := by
  have hag := ceilingFell_agree (L := [.msgs, .drg]) (lo := 0) (.self _) (Nat.zero_le _) (.refl _ _ s)
  obtain ⟨u, hu, hsu⟩ := boostCheck_eq s
  have hceil := rateNow_le_ceilings u
  have hp : protCeil u = protCeil s := hsu.getF (by decide) (by decide)
  have ht : thermCeil u = thermCeil s := hsu.getF (by decide) (by decide)
  obtain ⟨q2, d2⟩ := fixedCheck_shown (refreshRate u)
  have q3 := repeatBreaks_quiet 1 (fixedCheck (refreshRate u))
  have hrate : (ceilingFell s).drg.rate = rateNow u := by
    unfold ceilingFell
    rw [hu, repeatBreaks_drg, d2, refreshRate_rate]
  refine ⟨?_, hrate.trans_le (hp ▸ hceil.1), hrate.trans_le (ht ▸ hceil.2), hag.phc (by decide), hag.lgv (by decide), hag.tmg (by decide)⟩
  unfold ceilingFell
  rw [hu]
  exact (hsu.mono (by simp [fellFields])).trans (((refreshRate_quiet u).mono (by simp [fellFields])).trans
    ((q2.mono (by simp [fellFields])).trans (q3.mono (by simp [fellFields]))))

/-- What lowering the thermal ceiling shows: it stands at the lower value, and a rise that waits does not pass it (R237, R266). -/
structure ThermLowered (v cause : Nat) (s t : State) : Prop where
  quiet : Quiet (LGV.THERM_CEIL.CEIL :: TMG.STATUS.CEIL_CAUSE :: fellFields) s t
  ceil : thermCeil t = min (thermCeil s) v
  fell : thermCeil t < thermCeil s → t.drg.rate ≤ thermCeil t ∧ getF t TMG.STATUS.CEIL_CAUSE = cause
  phc : t.phc = s.phc
  tmg : t.tmg = { s.tmg with ceilNext := s.tmg.ceilNext.filter (fun c => decide (c ≤ v)) }

theorem thermLower_shown {v cause : Nat} (hv : v < 256) (hc : cause < 8) (s : State) : ThermLowered v cause s (thermLower v cause s) := by
  unfold thermLower
  dsimp only
  split
  · next h =>
    have hceil : thermCeil { s with tmg := { s.tmg with ceilNext := s.tmg.ceilNext.filter (fun c => decide (c ≤ v)) } } = thermCeil s :=
      getF_congr rfl _
    refine ⟨⟨rfl, rfl, fun _ h => h, fieldsBut_regs rfl⟩, by rw [hceil]; exact (min_eq_left h).symm, fun hlt => ?_, rfl, rfl⟩
    rw [hceil] at hlt
    exact absurd hlt (lt_irrefl _)
  · next h =>
    have hq : Quiet (LGV.THERM_CEIL.CEIL :: TMG.STATUS.CEIL_CAUSE :: fellFields) s
        (setF (setF { s with tmg := { s.tmg with ceilNext := s.tmg.ceilNext.filter (fun c => decide (c ≤ v)) } } LGV.THERM_CEIL.CEIL v)
          TMG.STATUS.CEIL_CAUSE cause) :=
      ⟨rfl, rfl, fun _ h => h, fieldsBut_setF (by simp) (fieldsBut_setF (by simp) (fieldsBut_regs rfl))⟩
    have hceil : thermCeil (setF (setF { s with tmg := { s.tmg with ceilNext := s.tmg.ceilNext.filter (fun c => decide (c ≤ v)) } }
        LGV.THERM_CEIL.CEIL v) TMG.STATUS.CEIL_CAUSE cause) = v :=
      (getF_setF_ne _ _ (by decide)).trans ((getF_setF_self ..).trans (Nat.mod_eq_of_lt hv))
    have hcause : getF (setF (setF { s with tmg := { s.tmg with ceilNext := s.tmg.ceilNext.filter (fun c => decide (c ≤ v)) } }
        LGV.THERM_CEIL.CEIL v) TMG.STATUS.CEIL_CAUSE cause) TMG.STATUS.CEIL_CAUSE = cause := (getF_setF_self ..).trans (Nat.mod_eq_of_lt hc)
    have htmg : (setF (setF { s with tmg := { s.tmg with ceilNext := s.tmg.ceilNext.filter (fun c => decide (c ≤ v)) } }
        LGV.THERM_CEIL.CEIL v) TMG.STATUS.CEIL_CAUSE cause).tmg =
        { s.tmg with ceilNext := s.tmg.ceilNext.filter (fun c => decide (c ≤ v)) } := rfl
    have hphc : (setF (setF { s with tmg := { s.tmg with ceilNext := s.tmg.ceilNext.filter (fun c => decide (c ≤ v)) } }
        LGV.THERM_CEIL.CEIL v) TMG.STATUS.CEIL_CAUSE cause).phc = s.phc := rfl
    generalize setF (setF { s with tmg := { s.tmg with ceilNext := s.tmg.ceilNext.filter (fun c => decide (c ≤ v)) } } LGV.THERM_CEIL.CEIL v)
      TMG.STATUS.CEIL_CAUSE cause = u at *
    obtain ⟨c1, c2, c3, c4, c5, c6⟩ := ceilingFell_shown u
    have hce : thermCeil (ceilingFell u) = v := (c1.getF (by decide) (by decide)).trans hceil
    refine ⟨hq.trans (c1.mono fun f hf => by simp [hf]), by rw [hce]; omega, fun _ => ⟨by rw [hce, ← hceil]; exact c3,
      (c1.getF (by decide) (by decide)).trans hcause⟩, c4.trans hphc, c6.trans htmg⟩

end Sys2Proof.Machine
end

section
/-! O35. The ceilings that fall at once. -/

namespace Sys2Proof.Machine

/-- The protective ceiling at its lower value, before what follows from it (R234). -/
def protFallen (c : Nat) (s : State) : State :=
  incF (setB (setF s LGV.OPP.PROT_CEIL (max 60 (protCeil s - getC s LGV.CTRL.PROT_STEP 1 30))) LGV.STATUS.PROT_ACTIVE true) LGV.COUNTS.PROT

/-- The first lowering of a boundary interval is told. -/
def protTold (c : Nat) (s : State) : State :=
  if s.lgv.lowered then protFallen c s
  else eventP 0 0x0701 [if c < 12 then c / 3 else 4, if c < 12 then c % 3 else 3, max 60 (protCeil s - getC s LGV.CTRL.PROT_STEP 1 30)]
    (protFallen c s)

theorem protectiveLowering_eq {c : Nat} {s : State} (hc : condHolds s c = true) (hp : 60 < protCeil s)
    (ho : aGet 0 s.lgv.holdOff c ≤ s.time.ticks) : protectiveLowering c s =
      ceilingFell (setLgv { (protTold c s).lgv with
        holdOff := aPut 0 (protTold c s).lgv.holdOff c (s.time.ticks + holdOffOf c)
        lowered := true
        byPower := decide (12 ≤ c)
        protNext := 0
        lowAt := if max 60 (protCeil s - getC s LGV.CTRL.PROT_STEP 1 30) = 60 then some s.time.ticks else none } (protTold c s)) := by
  unfold protectiveLowering
  rw [if_neg (by rw [hc]; simp; omega)]
  rfl

theorem protectiveLowering_idle {c : Nat} {s : State} (h : condHolds s c = false ∨ protCeil s ≤ 60 ∨ s.time.ticks < aGet 0 s.lgv.holdOff c) :
    protectiveLowering c s = s := by
  unfold protectiveLowering
  rw [if_pos]
  rcases h with h | h | h
  · exact .inl (by rw [h]; rfl)
  · exact .inr (.inl h)
  · exact .inr (.inr h)

/-- What a protective lowering shows (R234). -/
structure ProtLowered (c : Nat) (s t : State) : Prop where
  sta : t.sta = s.sta
  ceil : protCeil t = max 60 (protCeil s - getC s LGV.CTRL.PROT_STEP 1 30)
  rate : t.drg.rate ≤ protCeil t
  active : getB t LGV.STATUS.PROT_ACTIVE = true
  count : getF t LGV.COUNTS.PROT = min (getF s LGV.COUNTS.PROT + 1) 65535
  holdOff : aGet 0 t.lgv.holdOff c = s.time.ticks + holdOffOf c
  lowered : t.lgv.lowered = true
  low : protCeil t = 60 → t.lgv.lowAt = some s.time.ticks
  told : s.lgv.lowered = false → roomRec s → eventWaits 0x0701 t

theorem protTold_shown (c : Nat) {s : State} (hp : protCeil s ≤ 150) : (protTold c s).sta = s.sta ∧
    protCeil (protTold c s) = max 60 (protCeil s - getC s LGV.CTRL.PROT_STEP 1 30) ∧ getB (protTold c s) LGV.STATUS.PROT_ACTIVE = true ∧
    getF (protTold c s) LGV.COUNTS.PROT = min (getF s LGV.COUNTS.PROT + 1) 65535 ∧
    (s.lgv.lowered = false → roomRec s → eventWaits 0x0701 (protTold c s)) := by
  have h1 : protCeil (protFallen c s) = max 60 (protCeil s - getC s LGV.CTRL.PROT_STEP 1 30) :=
    (getF_incF_ne _ (by decide)).trans ((getF_setB_ne _ _ (by decide)).trans ((getF_setF_self ..).trans
      (Nat.mod_eq_of_lt (show max 60 (protCeil s - getC s LGV.CTRL.PROT_STEP 1 30) < 256 by omega))))
  have h2 : getB (protFallen c s) LGV.STATUS.PROT_ACTIVE = true :=
    (getB_congr (getF_incF_ne _ (by decide))).trans (getB_setB_self _ _ _ rfl)
  have h3 : getF (protFallen c s) LGV.COUNTS.PROT = min (getF s LGV.COUNTS.PROT + 1) 65535 := by
    unfold protFallen
    rw [getF_incF_self, getF_setB_ne _ _ (by decide), getF_setF_ne _ _ (by decide)]
    rfl
  have h4 : (protFallen c s).sta = s.sta := rfl
  have h5 : (protFallen c s).inbox = s.inbox := rfl
  unfold protTold
  generalize protFallen c s = u at *
  split
  · next hl => exact ⟨h4, h1, h2, h3, fun h => absurd (h.symm.trans hl) Bool.false_ne_true⟩
  · have hq := (Quiet.refl [EVR.COUNTS.DROPPED] u).eventP 0 0x0701
      [if c < 12 then c / 3 else 4, if c < 12 then c % 3 else 3, max 60 (protCeil s - getC s LGV.CTRL.PROT_STEP 1 30)] (by simp)
    exact ⟨hq.sta.trans h4, (hq.getF (by decide) (by decide)).trans h1, (getB_congr (hq.getF (by decide) (by decide))).trans h2,
      (hq.getF (by decide) (by decide)).trans h3, fun _ hr => eventWaits_eventP (roomRec_congr h5 hr)⟩

theorem protectiveLowering_shown {c : Nat} {s : State} (hc : condHolds s c = true) (hp : 60 < protCeil s) (hp2 : protCeil s ≤ 150)
    (ho : aGet 0 s.lgv.holdOff c ≤ s.time.ticks) : ProtLowered c s (protectiveLowering c s) := by
  obtain ⟨t1, t2, t3, t4, t5⟩ := protTold_shown c hp2
  rw [protectiveLowering_eq hc hp ho]
  generalize protTold c s = u at *
  have hf := ceilingFell_shown (setLgv { u.lgv with
    holdOff := aPut 0 u.lgv.holdOff c (s.time.ticks + holdOffOf c)
    lowered := true
    byPower := decide (12 ≤ c)
    protNext := 0
    lowAt := if max 60 (protCeil s - getC s LGV.CTRL.PROT_STEP 1 30) = 60 then some s.time.ticks else none } u)
  obtain ⟨f1, f2, f3, f4, f5, f6⟩ := hf
  have hget : ∀ f : Fld, f.key ∉ fellFields.map (fun g => g.key) → f.key ≠ TST.CTRL.OVERRIDE.key → getF (ceilingFell (setLgv { u.lgv with
    holdOff := aPut 0 u.lgv.holdOff c (s.time.ticks + holdOffOf c)
    lowered := true
    byPower := decide (12 ≤ c)
    protNext := 0
    lowAt := if max 60 (protCeil s - getC s LGV.CTRL.PROT_STEP 1 30) = 60 then some s.time.ticks else none } u)) f = getF u f :=
    fun f h1 h2 => (f1.getF h1 h2).trans (getF_congr rfl f)
  have hprot : protCeil (setLgv { u.lgv with
    holdOff := aPut 0 u.lgv.holdOff c (s.time.ticks + holdOffOf c)
    lowered := true
    byPower := decide (12 ≤ c)
    protNext := 0
    lowAt := if max 60 (protCeil s - getC s LGV.CTRL.PROT_STEP 1 30) = 60 then some s.time.ticks else none } u) = protCeil u := getF_congr rfl _
  have hin := f1.inbox
  have hsta := f1.sta
  rw [hprot] at f2
  generalize ceilingFell (setLgv _ u) = t at *
  have hce : protCeil t = protCeil u := hget _ (by decide) (by decide)
  refine ⟨hsta.trans t1, hce.trans t2, f2.trans_eq hce.symm, (getB_congr (hget _ (by decide) (by decide))).trans t3,
    (hget _ (by decide) (by decide)).trans t4, ?_, ?_, fun h => ?_, fun h hr => eventWaits_of_sub (t5 h hr) hin⟩
  · rw [f5]; exact aGet_aPut_self ..
  · rw [f5]; rfl
  · rw [f5]
    exact if_pos (t2.symm.trans (hce.symm.trans h))

theorem limitUnmet_eq {c t0 : Nat} {s : State} (hl : s.lgv.lowAt = some t0) (ht : t0 + us 100 ≤ s.time.ticks) (hc : condHolds s c = true)
    (hp : protCeil s = 60) (hu : s.lgv.unmet.contains c = false) : limitUnmet c s =
      sendFaultP 0 0x70 (if c < 12 then 0x700 + c / 3 else 0x704) (unmetInfo s c) (setLgv { s.lgv with unmet := insN c s.lgv.unmet } s) := by
  unfold limitUnmet
  rw [hl]
  simp only
  rw [if_pos]
  rw [hc, hp, hu, decide_eq_true ht]
  rfl

theorem limitUnmet_idle {c : Nat} {s : State} (h : s.lgv.unmet.contains c = true) : limitUnmet c s = s := by
  unfold limitUnmet
  split
  · rw [h]
    simp
  · rfl

theorem mem_insN_self (x : Nat) (l : List Nat) : x ∈ insN x l := by
  induction l with
  | nil => simp [insN]
  | cons y r ih =>
    unfold insN
    split
    · simp
    · split <;> simp_all

/-- The largest of some rises is the one that none of them passes. -/
theorem foldl_max_eq {l : Assoc Int} {x : Int} (h : ∀ e ∈ l, e.2 ≤ x) : l.foldl (fun m e => max m e.2) x = x := by
  induction l with
  | nil => rfl
  | cons e r ih =>
    rw [List.foldl_cons, max_eq_left (h e (by simp))]
    exact ih fun y hy => h y (by simp [hy])

/-- The rise told of, before the ceiling falls. -/
def riseTold (r : Nat) (s : State) : State :=
  if s.tmg.rateWas then setTmg { s.tmg with rateDue := false } s
  else sendFaultP 0 0x83 (0x840 + r) (ux 32 (aGet 0 s.tmg.rise r)) (setTmg { s.tmg with rateDue := false } s)

theorem thermalRise_eq {r : Nat} {s : State} (hd : s.tmg.rateDue = true) (hr : 2 ≤ aGet 0 s.tmg.riseRun r)
    (ht : ∀ e ∈ s.tmg.rise, 2 ≤ aGet 0 s.tmg.riseRun e.1 → e.2 ≤ aGet 0 s.tmg.rise r) :
    thermalRise r s = thermLower (max 60 (s.tmg.rateBase - 10)) 3 (riseTold r s) := by
  have htop := foldl_max_eq (x := aGet 0 s.tmg.rise r) (l := s.tmg.rise.filter (fun e => decide (2 ≤ aGet 0 s.tmg.riseRun e.1))) fun e he =>
    ht e (List.mem_filter.1 he).1 (of_decide_eq_true (List.mem_filter.1 he).2)
  unfold thermalRise
  dsimp only
  rw [htop, hd, decide_eq_true hr, if_pos (by simp)]
  rfl

theorem thermalRise_idle {r : Nat} {s : State} (h : s.tmg.rateDue = false ∨ aGet 0 s.tmg.riseRun r < 2) : thermalRise r s = s := by
  unfold thermalRise
  dsimp only
  rw [if_neg]
  rcases h with h | h
  · simp [h]
  · simp [show ¬ 2 ≤ aGet 0 s.tmg.riseRun r by omega]

theorem riseTold_shown (r : Nat) (s : State) : Quiet [FLC.STATUS.QUEUE_OVF] s (riseTold r s) ∧ (riseTold r s).tmg = { s.tmg with rateDue := false } ∧
    (s.tmg.rateWas = false → roomMsg s → messageWaits 0x83 (0x840 + r) (ux 32 (aGet 0 s.tmg.rise r)) (riseTold r s)) := by
  have h1 : Quiet [FLC.STATUS.QUEUE_OVF] s (setTmg { s.tmg with rateDue := false } s) := ⟨rfl, rfl, fun _ h => h, fieldsBut_regs rfl⟩
  unfold riseTold
  split
  · next h => exact ⟨h1, rfl, fun h2 => absurd (h2.symm.trans h) Bool.false_ne_true⟩
  · refine ⟨h1.sendFaultP _ _ _ _ (by simp), ?_, fun _ hr => messageWaits_sendFaultP (roomMsg_congr rfl hr)⟩
    unfold sendFaultP
    dsimp only
    split <;> rfl

end Sys2Proof.Machine

open Sys2Proof Sys2Proof.Machine

/-- Settles O35: what a fall of a ceiling brings with it, the report of an unmet limit, and the rise with the largest step. -/
theorem ceilingsFallAtOnce : Obligations.CeilingsFallAtOnce := by
  unfold Obligations.CeilingsFallAtOnce
  intro dt s a ha
  have hn : noEnd a := ha ▸ noEnd_advance dt s
  refine ⟨fun c hc14 hc hp hp2 ho => ?_, fun c hc14 h => ?_, fun c hc14 t0 hl ht hc hp hu hr => ?_, fun c hc14 h => ?_,
    fun r hr hd hrun htop hbase => ?_, fun r hr h => ?_⟩
  · refine answers_of ha (exec_protectiveLowering ..) (by simp [Instr.wf, hc14]) ?_
    obtain ⟨p1, p2, p3, p4, p5, p6, p7, p8, p9⟩ := protectiveLowering_shown hc hp hp2 ho
    generalize protectiveLowering c a = u at *
    have hnu := noEnd_congr hn p1
    have hce : protCeil (settle u) = protCeil u := getF_settle u hnu (by decide)
    rw [settle_lgv hnu, settle_drg hnu, hce, getB_settle u hnu (by decide), getF_settle u hnu (by decide), eventWaits_settle hnu]
    exact ⟨p2, p3, p4, p5, p6, p7, p8, p9⟩
  · exact answers_untouched ha (exec_protectiveLowering ..) (by simp [Instr.wf, hc14]) (protectiveLowering_idle h)
  · refine answers_eq ha (exec_limitUnmet ..) (by simp [Instr.wf, hc14]) (limitUnmet_eq hl ht hc hp hu) ?_
    have hroom : roomMsg (setLgv { a.lgv with unmet := insN c a.lgv.unmet } a) := roomMsg_congr rfl hr
    have hmsg := messageWaits_sendFaultP (p := 0) (k := 0x70) (src := if c < 12 then 0x700 + c / 3 else 0x704) (i := unmetInfo a c) hroom
    have hfr := sendFaultP_frame 0 0x70 (if c < 12 then 0x700 + c / 3 else 0x704) (unmetInfo a c) hroom
    have hlgv : (sendFaultP 0 0x70 (if c < 12 then 0x700 + c / 3 else 0x704) (unmetInfo a c)
        (setLgv { a.lgv with unmet := insN c a.lgv.unmet } a)).lgv = { a.lgv with unmet := insN c a.lgv.unmet } := by
      unfold sendFaultP; dsimp only; split <;> rfl
    generalize sendFaultP 0 0x70 (if c < 12 then 0x700 + c / 3 else 0x704) (unmetInfo a c) (setLgv { a.lgv with unmet := insN c a.lgv.unmet } a) = u at *
    have hnu := noEnd_congr hn hfr.sta
    rw [settle_lgv hnu, messageWaits_settle hnu, hlgv]
    exact ⟨mem_insN_self c _, hmsg, fieldsBut_settle hnu (fieldsBut_trans (fieldsBut_regs rfl) hfr.2.2)⟩
  · exact answers_untouched ha (exec_limitUnmet ..) (by simp [Instr.wf, hc14]) (limitUnmet_idle h)
  · refine answers_eq ha (exec_thermalRise ..) (by simp [Instr.wf, hr]) (thermalRise_eq hd hrun htop) ?_
    obtain ⟨t1, t2, t3⟩ := riseTold_shown r a
    generalize riseTold r a = w at *
    obtain ⟨l1, l2, l3, l4, l5⟩ := thermLower_shown (v := max 60 (a.tmg.rateBase - 10)) (cause := 3) (by omega) (by decide) w
    have hw : thermCeil w = thermCeil a := t1.getF (by decide) (by decide)
    generalize thermLower (max 60 (a.tmg.rateBase - 10)) 3 w = u at *
    have hnu := noEnd_congr hn (l1.sta.trans t1.sta)
    have hce : thermCeil (settle u) = thermCeil u := getF_settle u hnu (by decide)
    rw [settle_tmg hnu, settle_drg hnu, hce, getF_settle u hnu (by decide), messageWaits_settle hnu, ← hw]
    refine ⟨l2, by rw [l5, t2], l3, fun c hcn => ?_, fun h1 h2 => messageWaits_of_sub (t3 h1 h2) l1.inbox⟩
    rw [l5] at hcn
    exact of_decide_eq_true (Option.filter_eq_some_iff.1 hcn).2
  · exact answers_untouched ha (exec_thermalRise ..) (by simp [Instr.wf, hr]) (thermalRise_idle h)
end

section
/-! SUPPORT. What the end of a rest state at once leaves of the sequencer and of the thermal manager (Table 13-3, Table 13-8). -/

namespace Sys2Proof.Machine

/-- The fields of the sequencer (0x60400 to 0x6043F) and of the thermal manager (0x80000 to 0x8FFFF). -/
def seqKey (k : Nat) : Prop := (32 * 0x60400 ≤ k ∧ k < 32 * 0x60440) ∨ (32 * 0x80000 ≤ k ∧ k < 32 * 0x90000)

theorem lt_of_mem_rails4 {k : Nat} (h : k ∈ rails4) : k < 4 := (by decide : ∀ k ∈ rails4, k < 4) k h

theorem in_of_inR {k lo hi : Nat} (h : inR (keyOff k) lo hi = true) : lo ≤ k / 32 ∧ k / 32 < hi :=
  have ⟨h1, h2⟩ := Bool.and_eq_true_iff.1 h
  ⟨of_decide_eq_true h1, of_decide_eq_true h2⟩

/-- The registers of the sequencer and of the thermal manager stand, of the phase controller's state only its rails and phases move, what
waits goes on waiting, and beats that a trip holds stay held. -/
structure EndKeeps (s t : State) : Prop where
  regs : ∀ f : Fld, seqKey f.key → getF t f = getF s f
  phc : t.phc = { s.phc with rails := t.phc.rails, phases := t.phc.phases, pulses := t.phc.pulses, limFrom := t.phc.limFrom }
  inbox : ∀ x ∈ s.inbox, x ∈ t.inbox
  hold : getB s TMG.TRIP.TRIPPED = true → t.drg.holdAll = s.drg.holdAll

namespace EndKeeps

variable {s t u : State}

theorem refl (s : State) : EndKeeps s s := ⟨fun _ _ => rfl, rfl, fun _ h => h, fun _ => rfl⟩

theorem tripped (h : EndKeeps s t) : getB t TMG.TRIP.TRIPPED = getB s TMG.TRIP.TRIPPED := getB_congr (h.regs _ (.inr (by decide)))

theorem trans (h : EndKeeps s t) (h2 : EndKeeps t u) : EndKeeps s u :=
  ⟨fun f hf => (h2.regs f hf).trans (h.regs f hf), by rw [h2.phc, h.phc], fun x hx => h2.inbox x (h.inbox x hx),
    fun ht => (h2.hold (h.tripped.trans ht)).trans (h.hold ht)⟩

theorem setF (h : EndKeeps s t) (f : Fld) (v : Nat) (hf : ¬ seqKey f.key) : EndKeeps s (setF t f v) :=
  ⟨fun g hg => (getF_setF_ne _ _ fun he => hf (he ▸ hg)).trans (h.regs g hg), h.phc, h.inbox, h.hold⟩

theorem setB (h : EndKeeps s t) (f : Fld) (v : Bool) (hf : ¬ seqKey f.key) : EndKeeps s (setB t f v) := h.setF f _ hf

theorem setEst (h : EndKeeps s t) (x : EstState) : EndKeeps s (setEst x t) := ⟨h.regs, h.phc, h.inbox, h.hold⟩
theorem setSns (h : EndKeeps s t) (x : SnsState) : EndKeeps s (setSns x t) := ⟨h.regs, h.phc, h.inbox, h.hold⟩
theorem setLgv (h : EndKeeps s t) (x : LgvState) : EndKeeps s (setLgv x t) := ⟨h.regs, h.phc, h.inbox, h.hold⟩
theorem setBal (h : EndKeeps s t) (x : BalState) : EndKeeps s (setBal x t) := ⟨h.regs, h.phc, h.inbox, h.hold⟩
theorem setPmb (h : EndKeeps s t) (x : PmbState) : EndKeeps s (setPmb x t) := ⟨h.regs, h.phc, h.inbox, h.hold⟩
theorem setSta (h : EndKeeps s t) (x : StaState) : EndKeeps s (setSta x t) := ⟨h.regs, h.phc, h.inbox, h.hold⟩

theorem setRail (h : EndKeeps s t) (k : Nat) (x : Rail) : EndKeeps s (setRail t k x) :=
  ⟨h.regs, congrArg (fun p : PhcState => { p with rails := (Machine.setRail t k x).phc.rails }) h.phc, h.inbox, h.hold⟩
theorem setPhase (h : EndKeeps s t) (n : Nat) (x : PhaseSt) : EndKeeps s (setPhase t n x) := by
  refine ⟨h.regs, ?_, h.inbox, h.hold⟩
  unfold Machine.setPhase
  dsimp only
  split <;> rw [h.phc]

theorem event (h : EndKeeps s t) (c : Nat) (l : List Nat) : EndKeeps s (event c l t) := by
  have hq := (Quiet.refl [EVR.COUNTS.DROPPED] t).event c l (by simp)
  have hp := event_phc c l t
  have hd := event_drg c l t
  refine h.trans ⟨fun f hf => hq.getF (fun he => ?_) (fun he => ?_), by rw [hp], hq.inbox, fun _ => by rw [hd]⟩
  · rw [List.map_singleton, List.mem_singleton] at he
    exact absurd (he ▸ hf) (by unfold seqKey; decide)
  · exact absurd (he ▸ hf) (by unfold seqKey; decide)

theorem foldl {α : Type} {f : State → α → State} {l : List α} (h : EndKeeps s t) (hf : ∀ u, ∀ x ∈ l, EndKeeps s u → EndKeeps s (f u x)) :
    EndKeeps s (l.foldl f t) := List.foldlRecOn (motive := EndKeeps s) l f h fun _ hu x hx => hf _ x hx hu

theorem dropH (h : EndKeeps s t) (p : Nat → Bool) (hp : ∀ k, seqKey k → p (keyOff k) = false) : EndKeeps s (dropH p t) :=
  ⟨fun f hf => by
    rw [← h.regs f hf]
    unfold getF Machine.dropH
    simp only [aFind_filter (fun k => !(clsAt k == .h && p (keyOff k))), hp _ hf, Bool.and_false, Bool.not_false, if_true], h.phc, h.inbox, h.hold⟩

theorem repeatBreaks (h : EndKeeps s t) (cause : Nat) : EndKeeps s (repeatBreaks cause t) := by
  unfold Machine.repeatBreaks repeatBroken
  split
  · split
    · exact (h.setB _ _ (by unfold seqKey; decide)).event _ _
    · exact h
  · exact h

theorem refreshRate (h : EndKeeps s t) : EndKeeps s (refreshRate t) := by
  unfold Machine.refreshRate setRate
  split
  · exact h
  · exact setF (t := { t with drg := { t.drg with rate := rateNow t } }) ⟨h.regs, h.phc, h.inbox, h.hold⟩ LGV.OPP.RATE _ (by unfold seqKey; decide)

theorem boostCheck (h : EndKeeps s t) : EndKeeps s (boostCheck t) := by
  unfold Machine.boostCheck
  refine refreshRate ?_
  split
  · exact h.setB _ _ (by unfold seqKey; decide)
  · exact h

theorem trustWithdraws (h : EndKeeps s t) : EndKeeps s (trustWithdraws t) := by
  have h1 : EndKeeps s (withdrawLift t) := ⟨h.regs, h.phc, h.inbox, h.hold⟩
  unfold Machine.trustWithdraws
  dsimp only
  split
  · refine repeatBreaks ?_ 2
    exact ⟨h1.regs, h1.phc, h1.inbox, h1.hold⟩
  · exact h1

theorem trustEnter (h : EndKeeps s t) (st : Nat) : EndKeeps s (trustEnter st t) := by
  unfold Machine.trustEnter
  extract_lets old b s1 s2 s3 e wait s4 s5
  have h1 : EndKeeps s s1 := (((h.setF _ _ (by unfold seqKey; decide)).setF _ _ (by unfold seqKey; decide)).setF _ _
    (by unfold seqKey; decide)).setB _ _ (by unfold seqKey; decide)
  have h2 : EndKeeps s s2 := by
    unfold s2
    split
    · exact ⟨h1.regs, h1.phc, h1.inbox, h1.hold⟩
    · exact h1
  have h3 : EndKeeps s s3 := by
    unfold s3
    split
    · refine h2.foldl fun u k hk hu => (hu.setF _ _ ?_).setF _ _ ?_
      · simp only [seqKey, EST.SHADOW.GAIN, fld]; have hk4 := lt_of_mem_rails4 hk; omega
      · simp only [seqKey, EST.SHADOW.OFFSET, fld]; have hk4 := lt_of_mem_rails4 hk; omega
    · exact h2
  have h4 : EndKeeps s s4 := (h3.setEst _).setF _ _ (by unfold seqKey; decide)
  have h5 : EndKeeps s s5 := h4.event _ _
  split
  · exact h5.boostCheck
  · exact h5.trustWithdraws.boostCheck

theorem trustZero (h : EndKeeps s t) : EndKeeps s (trustZero t) := by
  unfold Machine.trustZero
  extract_lets s1 s2 s3
  have h1 : EndKeeps s s1 := by
    unfold s1
    split
    · exact h
    · exact h.trustEnter 2
  exact ((((h1.setB _ _ (by unfold seqKey; decide)).setF _ _ (by unfold seqKey; decide)).setF _ _ (by unfold seqKey; decide)).setF _ _
    (by unfold seqKey; decide)).setF _ _ (by unfold seqKey; decide) |>.setEst _

theorem lgvZero (h : EndKeeps s t) : EndKeeps s (lgvZero t) :=
  (((h.setF _ _ (by unfold seqKey; decide)).setF _ _ (by unfold seqKey; decide)).setB _ _ (by unfold seqKey; decide)).setLgv _

theorem abandonRounds (h : EndKeeps s t) : EndKeeps s (abandonRounds t) := (h.setBal _).setF _ _ (by unfold seqKey; decide)

theorem pendHw (h : EndKeeps s t) (p : Nat) (f : Fld) (v : Nat) : EndKeeps s (pendHw p f v t) := ⟨h.regs, h.phc, h.inbox, h.hold⟩

theorem floorNext (h : EndKeeps s t) : EndKeeps s (floorNext t) := by
  unfold Machine.floorNext stageGrant
  split
  · exact h
  · split
    · exact ((h.pendHw _ _ _).pendHw _ _ _).setB _ _ (by unfold seqKey; decide)
    · exact h.setBal _

theorem bringIn (h : EndKeeps s t) (k : Nat) : EndKeeps s (bringIn k t) := foldl h fun _ _ _ hu => hu.setPhase _ _

theorem raiseTarget (h : EndKeeps s t) (k : Nat) : EndKeeps s (raiseTarget k t) := by
  unfold Machine.raiseTarget
  split
  · exact h
  · split
    · exact h.bringIn k
    · exact (h.setRail k _).bringIn k

theorem shedTo (h : EndKeeps s t) (k tgt : Nat) : EndKeeps s (shedTo k tgt t) := by
  unfold Machine.shedTo
  split
  · exact h
  · exact foldl (h.setRail k _) fun _ _ _ hu => hu.setPhase _ _

theorem reactPhases (h : EndKeeps s t) : EndKeeps s (reactPhases t) := by
  refine foldl h fun u k _ hu => ?_
  have h1 := (hu.setRail k { railRec u k with req := 0 }).raiseTarget k
  dsimp only
  split
  · exact h1.shedTo k _
  · exact h1

theorem deepExit (h : EndKeeps s t) : EndKeeps s (deepExit t) := by
  have h1 : EndKeeps s ((List.range 98).foldl (fun t n => Machine.setF t (PHC.OC_COUNT.COUNT n) 0)
      (Machine.setF (Machine.setF (Machine.setF (Machine.trustZero t) SNS.XCHK_STATUS.OUT_COUNT 0) PHC.BURST_STATUS.COUNT 0) PHC.SHED_STATUS.ABORTS 0)) := by
    refine foldl (((h.trustZero.setF _ _ (by unfold seqKey; decide)).setF _ _ (by unfold seqKey; decide)).setF _ _ (by unfold seqKey; decide))
      fun u n hn hu => hu.setF _ _ ?_
    have := List.mem_range.1 hn
    simp only [seqKey, PHC.OC_COUNT.COUNT, fld]
    omega
  refine reactPhases (floorNext (setBal (abandonRounds (lgvZero (dropH (h1.setSns _) _ fun k hk => ?_))) _))
  refine Bool.eq_false_iff.2 fun hin => ?_
  obtain ⟨hlo, hhi⟩ := in_of_inR hin
  unfold seqKey at hk
  omega

theorem latenessZero (h : EndKeeps s t) : EndKeeps s (latenessZero t) := by
  have h1 : EndKeeps s (Machine.dropH (fun o => inR o 0x50000 0x60000) t) := h.dropH _ fun k hk => by
    refine Bool.eq_false_iff.2 fun hin => ?_
    obtain ⟨hlo, hhi⟩ := in_of_inR hin
    unfold seqKey at hk
    omega
  exact ⟨h1.regs, h1.phc, h1.inbox, h1.hold⟩

end EndKeeps

/-- A step that only the regions of the droop guard and its own fields show. -/
structure RegionsOnly (s t : State) : Prop where
  regs : ∀ f : Fld, seqKey f.key → getF t f = getF s f
  phc : t.phc = s.phc
  inbox : t.inbox = s.inbox

theorem releaseHold_regionsOnly {r : Nat} (hr : r < 64) (s : State) : RegionsOnly s (releaseHold r s) := by
  unfold releaseHold noteHold setSat
  dsimp only
  split
  · exact ⟨fun _ _ => rfl, rfl, rfl⟩
  · refine ⟨fun f hf => (getF_congr rfl f).trans (getF_setF_ne _ _ fun he => ?_), rfl, rfl⟩
    rw [he] at hf
    simp only [seqKey, DRG.REGION_STRETCH.LONGEST_HOLD, fld] at hf
    omega

theorem releaseBeats_regionsOnly (s : State) : RegionsOnly s (releaseBeats s) := by
  have h : RegionsOnly s (regions64.foldl (fun t r => releaseHold r t) s) := by
    refine List.foldlRecOn (motive := RegionsOnly s) regions64 _ ⟨fun _ _ => rfl, rfl, rfl⟩ fun u hu r hr => ?_
    obtain ⟨h1, h2, h3⟩ := releaseHold_regionsOnly (List.mem_range.1 hr) u
    exact ⟨fun f hf => (h1 f hf).trans (hu.regs f hf), h2.trans hu.phc, h3.trans hu.inbox⟩
  unfold releaseBeats
  generalize regions64.foldl (fun t r => releaseHold r t) s = u at h
  exact ⟨h.regs, h.phc, h.inbox⟩

theorem restEnded_keeps (s : State) : EndKeeps s (restEnded s) := by
  have h1 : EndKeeps s (clearEnds s) := (EndKeeps.refl s).setSta _
  have h2 : EndKeeps s (if s.sta.endLate && !getB s TMG.TRIP.TRIPPED then releaseBeats (clearEnds s) else clearEnds s) := by
    split
    · next h =>
      obtain ⟨r1, r2, r3⟩ := releaseBeats_regionsOnly (clearEnds s)
      refine ⟨fun f hf => (r1 f hf).trans (h1.regs f hf), by rw [r2]; exact h1.phc, fun x hx => by rw [r3]; exact h1.inbox x hx, fun ht => ?_⟩
      rw [ht] at h
      simp at h
    · exact h1
  unfold restEnded
  dsimp only
  generalize (if s.sta.endLate && !getB s TMG.TRIP.TRIPPED then releaseBeats (clearEnds s) else clearEnds s) = u at h2
  split
  · refine EndKeeps.deepExit ?_
    split
    · exact h2
    · exact h2.latenessZero
  · exact h2

/-- What every settling keeps. -/
theorem settle_keeps (s : State) : EndKeeps s (settle s) := by
  have h1 : EndKeeps s (if s.sta.endDeep || s.sta.endLate then restEnded s else s) := by
    split
    · exact restEnded_keeps s
    · exact .refl s
  unfold settle
  generalize (if s.sta.endDeep || s.sta.endLate then restEnded s else s) = u at h1
  have h2 : EndKeeps s (overrideFall u) := by
    unfold overrideFall
    dsimp only
    split
    · exact (h1.setB _ _ (by unfold seqKey; decide)).setPmb _
    · exact h1.setPmb _
  unfold pmbWatch
  dsimp only
  split
  · exact h2
  · exact h2.setPmb _

end Sys2Proof.Machine
end

section
/-! SUPPORT. One bit of a number set or cleared. -/

namespace Sys2Proof.Machine

theorem testBit_add_two_pow {v i : Nat} (h : v.testBit i = false) (j : Nat) : (v + 2 ^ i).testBit j = (decide (j = i) || v.testBit j) := by
  induction i generalizing v j with
  | zero =>
    have hv : v % 2 = 0 := by
      rw [Nat.testBit_zero, decide_eq_false_iff_not] at h
      omega
    cases j with
    | zero => rw [Nat.testBit_zero]; simp; omega
    | succ j => rw [Nat.testBit_succ, Nat.testBit_succ, show (v + 2 ^ 0) / 2 = v / 2 by omega]; simp
  | succ i ih =>
    rw [Nat.testBit_succ] at h
    have hdiv : (v + 2 ^ (i + 1)) / 2 = v / 2 + 2 ^ i := by rw [pow_succ]; omega
    cases j with
    | zero => rw [Nat.testBit_zero, Nat.testBit_zero, show (v + 2 ^ (i + 1)) % 2 = v % 2 by rw [pow_succ]; omega]; simp
    | succ j => rw [Nat.testBit_succ, Nat.testBit_succ, hdiv, ih h]; simp

theorem testBit_setBit (v i j : Nat) : (setBit v i).testBit j = (decide (j = i) || v.testBit j) := by
  unfold setBit
  split
  · next h =>
    by_cases hj : j = i
    · rw [hj, h]; simp
    · simp [hj]
  · next h => exact testBit_add_two_pow (Bool.eq_false_iff.2 h) j

theorem testBit_clrBit (v i j : Nat) : (clrBit v i).testBit j = (!decide (j = i) && v.testBit j) := by
  unfold clrBit
  split
  · next h =>
    have hv : v = (v - 2 ^ i) + 2 ^ i := (Nat.sub_add_cancel (Nat.ge_two_pow_of_testBit h)).symm
    have hi : (v - 2 ^ i).testBit i = false := by
      have := Nat.testBit_two_pow_add_eq (v - 2 ^ i) i
      rw [Nat.add_comm, ← hv, h] at this
      simpa using this.symm
    have hj := testBit_add_two_pow hi j
    rw [← hv] at hj
    rw [hj]
    by_cases he : j = i
    · rw [he, hi]; simp
    · simp [he]
  · next h =>
    by_cases hj : j = i
    · rw [hj, Bool.eq_false_iff.2 h]; simp
    · simp [hj]

end Sys2Proof.Machine
end

section
/-! SUPPORT. What the sequencer's steps leave, and the states of the rails after them (R215 to R226). -/

namespace Sys2Proof.Machine

/-- The fields that a stop, a start and a start-up fault change. -/
def seqFields : List Fld :=
  rails4.flatMap (fun k => [PHC.RAIL_SEQ.STATE k, PHC.RAIL_SEQ.CAUSE k, PHC.DUTY.DUTY k, PHC.RAIL_STATUS.DE k]) ++
    [PHC.SEQ_STATUS.SEQ_STATE, PHC.SEQ_STATUS.BUS_EN, PHC.LATCH.LATCHED, STA.REST_STATUS.STATE, STA.REST_STATUS.LAST, EVR.COUNTS.DROPPED,
      FLC.STATUS.QUEUE_OVF]

/-- What a step of the sequencer leaves: the fields of the others, of the droop guard's state all but the gate, of the phase controller's
all but the rails, the phases, VCORE's burst and the sequencer's own parts; what waits goes on waiting. -/
structure SeqFrame (s t : State) : Prop where
  fields : fieldsBut seqFields s t
  time : t.time = s.time
  drg : t.drg = { s.drg with gate := t.drg.gate }
  tripLow : t.phc.tripLow = s.phc.tripLow
  levels : t.phc.pwrFailN = s.phc.pwrFailN ∧ t.phc.resetN = s.phc.resetN ∧ t.phc.allLow = s.phc.allLow
  inbox : ∀ x ∈ s.inbox, x ∈ t.inbox

namespace SeqFrame

variable {s t u : State}

theorem refl (s : State) : SeqFrame s s := ⟨fieldsBut_refl _ s, rfl, rfl, rfl, ⟨rfl, rfl, rfl⟩, fun _ h => h⟩

theorem trans (h : SeqFrame s t) (h2 : SeqFrame t u) : SeqFrame s u :=
  ⟨fieldsBut_trans h.fields h2.fields, h2.time.trans h.time, by rw [h2.drg, h.drg], h2.tripLow.trans h.tripLow,
    ⟨h2.levels.1.trans h.levels.1, h2.levels.2.1.trans h.levels.2.1, h2.levels.2.2.trans h.levels.2.2⟩, fun x hx => h2.inbox x (h.inbox x hx)⟩

theorem getF (h : SeqFrame s t) {f : Fld} (hf : f.key ∉ seqFields.map (fun g => g.key)) (ho : f.key ≠ TST.CTRL.OVERRIDE.key) :
    Machine.getF t f = Machine.getF s f := h.fields f hf ho

theorem setF (h : SeqFrame s t) (f : Fld) (v : Nat) (hf : f ∈ seqFields) : SeqFrame s (setF t f v) :=
  ⟨fieldsBut_setF hf h.fields, h.time, h.drg, h.tripLow, h.levels, h.inbox⟩

theorem setB (h : SeqFrame s t) (f : Fld) (v : Bool) (hf : f ∈ seqFields) : SeqFrame s (setB t f v) := h.setF f _ hf

theorem setRail (h : SeqFrame s t) (k : Nat) (x : Rail) : SeqFrame s (setRail t k x) := ⟨h.fields, h.time, h.drg, h.tripLow, h.levels, h.inbox⟩

theorem setPhase (h : SeqFrame s t) (n : Nat) (x : PhaseSt) : SeqFrame s (setPhase t n x) := by
  unfold Machine.setPhase
  dsimp only
  split <;> exact ⟨h.fields, h.time, h.drg, h.tripLow, h.levels, h.inbox⟩

theorem foldl {α : Type} {f : State → α → State} {l : List α} (h : SeqFrame s t) (hf : ∀ u, ∀ x ∈ l, SeqFrame s u → SeqFrame s (f u x)) :
    SeqFrame s (l.foldl f t) := List.foldlRecOn (motive := SeqFrame s) l f h fun _ hu x hx => hf _ x hx hu

theorem regate (h : SeqFrame s t) : SeqFrame s (regate t) :=
  ⟨h.fields, h.time, by show ({ t.drg with gate := _ } : DrgState) = _; rw [h.drg]; rfl, h.tripLow, h.levels, h.inbox⟩

theorem restEnds (h : SeqFrame s t) : SeqFrame s (restEnds t) := by
  unfold Machine.restEnds
  extract_lets st deep s0 s1
  have h0 : SeqFrame s s0 := by
    unfold s0
    split
    · exact h
    · exact h.setF _ _ (by simp [seqFields])
  have h1 := h0.setF STA.REST_STATUS.STATE 0 (by simp [seqFields])
  exact ⟨h1.fields, h1.time, h1.drg, h1.tripLow, h1.levels, h1.inbox⟩

theorem setStop (h : SeqFrame s t) (x : Nat) : SeqFrame s (setStop x t) := ⟨h.fields, h.time, h.drg, h.tripLow, h.levels, h.inbox⟩
theorem setDue (h : SeqFrame s t) (x : Nat) : SeqFrame s (setDue x t) := ⟨h.fields, h.time, h.drg, h.tripLow, h.levels, h.inbox⟩

theorem setSeqState (h : SeqFrame s t) (x : Nat) : SeqFrame s (setSeqState x t) := h.setF _ _ (by simp [seqFields])

theorem event (h : SeqFrame s t) (c : Nat) (l : List Nat) : SeqFrame s (event c l t) :=
  ⟨fieldsBut_event (by simp [seqFields]) h.fields, (event_time ..).trans h.time, by rw [event_drg, h.drg],
    (congrArg (·.tripLow) (event_phc c l t)).trans h.tripLow, by rw [event_phc]; exact h.levels, fun x hx => inbox_event x (h.inbox x hx)⟩

theorem sendFault (h : SeqFrame s t) (k src i : Nat) : SeqFrame s (sendFault k src i t) := by
  exact ⟨fieldsBut_sendFault (.inr (by simp [seqFields])) h.fields, (sendFault_time ..).trans h.time, by rw [sendFault_drg, h.drg],
    by rw [sendFault_phc]; exact h.tripLow, by rw [sendFault_phc]; exact h.levels, fun x hx => inbox_sendFault x (h.inbox x hx)⟩

end SeqFrame

theorem seqFields_mem {k : Nat} (hk : k < 4) : PHC.RAIL_SEQ.STATE k ∈ seqFields ∧ PHC.RAIL_SEQ.CAUSE k ∈ seqFields ∧
    PHC.DUTY.DUTY k ∈ seqFields ∧ PHC.RAIL_STATUS.DE k ∈ seqFields := by
  have h : ∀ f, f ∈ [PHC.RAIL_SEQ.STATE k, PHC.RAIL_SEQ.CAUSE k, PHC.DUTY.DUTY k, PHC.RAIL_STATUS.DE k] → f ∈ seqFields := fun f hf =>
    List.mem_append_left _ (List.mem_flatMap.2 ⟨k, (by decide : ∀ k < 4, k ∈ rails4) k hk, hf⟩)
  exact ⟨h _ (by simp), h _ (by simp), h _ (by simp), h _ (by simp)⟩

/-- The keys of the fields of a rail and of the sequencer, as numbers. -/
theorem railKeys (k : Nat) : (PHC.RAIL_SEQ.STATE k).key = 32 * (0x60430 + 4 * k) ∧ (PHC.RAIL_SEQ.PREBIASED k).key = 32 * (0x60430 + 4 * k) + 4 ∧
    (PHC.RAIL_SEQ.TRACKING k).key = 32 * (0x60430 + 4 * k) + 5 ∧ (PHC.RAIL_SEQ.CAUSE k).key = 32 * (0x60430 + 4 * k) + 8 ∧
    (PHC.RAIL_SEQ.START_V k).key = 32 * (0x60430 + 4 * k) + 16 ∧ (PHC.DUTY.DUTY k).key = 32 * (0x600B0 + 4 * k) ∧
    (PHC.RAIL_STATUS.DE k).key = 32 * (0x60040 + 4 * k) + 11 ∧ (PHC.RAIL_STATUS.SEL k).key = 32 * (0x60040 + 4 * k) ∧
    PHC.SEQ_STATUS.SEQ_STATE.key = 32 * 0x6040C ∧ PHC.SEQ_STATUS.BUS_EN.key = 32 * 0x6040C + 8 ∧ PHC.LATCH.LATCHED.key = 32 * 0x60410 ∧
    STA.REST_STATUS.STATE.key = 32 * 0xA0010 ∧ STA.REST_STATUS.LAST.key = 32 * 0xA0010 + 4 := by
  refine ⟨?_, ?_, ?_, ?_, ?_, ?_, ?_, ?_, rfl, rfl, rfl, rfl, rfl⟩ <;>
    simp only [PHC.RAIL_SEQ.STATE, PHC.RAIL_SEQ.PREBIASED, PHC.RAIL_SEQ.TRACKING, PHC.RAIL_SEQ.CAUSE, PHC.RAIL_SEQ.START_V, PHC.DUTY.DUTY,
      PHC.RAIL_STATUS.DE, PHC.RAIL_STATUS.SEL, fld] <;> omega

/-- Of the phase controller's state only rails, phases and VCORE's burst have moved. -/
def RailsMoved (s t : State) : Prop :=
  t.phc = { s.phc with
    rails := t.phc.rails
    phases := t.phc.phases
    pulses := t.phc.pulses
    limFrom := t.phc.limFrom
    burst := t.phc.burst
    rearm := t.phc.rearm
    ocBurst := t.phc.ocBurst }

namespace RailsMoved

variable {s t u : State}

theorem refl (s : State) : RailsMoved s s := rfl

theorem trans (h : RailsMoved s t) (h2 : RailsMoved t u) : RailsMoved s u := by
  unfold RailsMoved at *
  rw [h2, h]

theorem of_phc (h : RailsMoved s t) (hp : u.phc = t.phc) : RailsMoved s u := by
  unfold RailsMoved at *
  rw [hp]
  exact h

theorem setRail (h : RailsMoved s t) (k : Nat) (x : Rail) : RailsMoved s (setRail t k x) := by
  unfold RailsMoved at *
  unfold Machine.setRail
  dsimp only
  rw [h]

theorem setPhase (h : RailsMoved s t) (n : Nat) (x : PhaseSt) : RailsMoved s (setPhase t n x) := by
  unfold RailsMoved at *
  unfold Machine.setPhase
  dsimp only
  split <;> rw [h]

theorem foldl {α : Type} {f : State → α → State} {l : List α} (h : RailsMoved s t) (hf : ∀ u x, RailsMoved s u → RailsMoved s (f u x)) :
    RailsMoved s (l.foldl f t) := List.foldlRecOn (motive := RailsMoved s) l f h fun _ hu x _ => hf _ x hu

theorem own (h : RailsMoved s t) : t.phc.stop = s.phc.stop ∧ t.phc.due = s.phc.due ∧ t.phc.busEnAt = s.phc.busEnAt ∧ t.phc.goodAt = s.phc.goodAt ∧
    t.phc.restart = s.phc.restart := by
  rw [h]
  exact ⟨rfl, rfl, rfl, rfl, rfl⟩

end RailsMoved

theorem regs_setPhase (s : State) (n : Nat) (x : PhaseSt) : (setPhase s n x).regs = s.regs := rfl

/-- A rail off: its phases are Off, and its own fields alone change. -/
structure RailGone (k st : Nat) (s t : State) : Prop where
  frame : SeqFrame s t
  moved : RailsMoved s t
  state : railSt t k = st
  fields : ∀ f : Fld, f.key ≠ (PHC.RAIL_SEQ.STATE k).key → f.key ≠ (PHC.DUTY.DUTY k).key → f.key ≠ (PHC.RAIL_STATUS.DE k).key → getF t f = getF s f
  sta : t.sta = s.sta
  inbox : t.inbox = s.inbox

theorem railOff_shown {k st : Nat} (hk : k < 4) (hst : st < 8) (s : State) : RailGone k st s (railOff k st s) := by
  obtain ⟨m1, m2, m3, m4⟩ := seqFields_mem hk
  have hkeys := railKeys k
  have hp : SeqFrame s (phasesOff k s) ∧ RailsMoved s (phasesOff k s) ∧ (phasesOff k s).regs = s.regs ∧ (phasesOff k s).sta = s.sta ∧
      (phasesOff k s).inbox = s.inbox :=
    List.foldlRecOn (motive := fun u => SeqFrame s u ∧ RailsMoved s u ∧ u.regs = s.regs ∧ u.sta = s.sta ∧ u.inbox = s.inbox) (phasesOf k) _
      ⟨.refl s, .refl s, rfl, rfl, rfl⟩ fun u ⟨h1, h2, h3, h4, h5⟩ n _ => ⟨h1.setPhase n .off, h2.setPhase n .off, h3, h4, h5⟩
  obtain ⟨p1, p2, p3, p4, p5⟩ := hp
  unfold railOff
  generalize phasesOff k s = u at *
  dsimp only
  have h1 : SeqFrame s (setB (setF (setRailSt k st (setRail u k Rail.off)) (PHC.DUTY.DUTY k) 0) (PHC.RAIL_STATUS.DE k) false) :=
    (((p1.setRail k _).setF _ _ m1).setF _ _ m3).setB _ _ m4
  have h2 : RailsMoved s (setB (setF (setRailSt k st (setRail u k Rail.off)) (PHC.DUTY.DUTY k) 0) (PHC.RAIL_STATUS.DE k) false) :=
    (p2.setRail k Rail.off).of_phc rfl
  have h3 : railSt (setB (setF (setRailSt k st (setRail u k Rail.off)) (PHC.DUTY.DUTY k) 0) (PHC.RAIL_STATUS.DE k) false) k = st :=
    (getF_setF_ne _ _ (by omega)).trans ((getF_setF_ne _ _ (by omega)).trans ((getF_setF_self ..).trans (Nat.mod_eq_of_lt hst)))
  have h4 : ∀ f : Fld, f.key ≠ (PHC.RAIL_SEQ.STATE k).key → f.key ≠ (PHC.DUTY.DUTY k).key → f.key ≠ (PHC.RAIL_STATUS.DE k).key →
      getF (setB (setF (setRailSt k st (setRail u k Rail.off)) (PHC.DUTY.DUTY k) 0) (PHC.RAIL_STATUS.DE k) false) f = getF s f := fun f e1 e2 e3 =>
    (getF_setF_ne _ _ e3).trans ((getF_setF_ne _ _ e2).trans ((getF_setF_ne _ _ e1).trans (getF_congr p3 f)))
  have h5 : (setB (setF (setRailSt k st (setRail u k Rail.off)) (PHC.DUTY.DUTY k) 0) (PHC.RAIL_STATUS.DE k) false).sta = s.sta := p4
  have h6 : (setB (setF (setRailSt k st (setRail u k Rail.off)) (PHC.DUTY.DUTY k) 0) (PHC.RAIL_STATUS.DE k) false).inbox = s.inbox := p5
  generalize setB (setF (setRailSt k st (setRail u k Rail.off)) (PHC.DUTY.DUTY k) 0) (PHC.RAIL_STATUS.DE k) false = v at *
  split
  · have hv : SeqFrame s { v with phc := { v.phc with burst := none, rearm := 0, ocBurst := [] } } :=
      ⟨h1.fields, h1.time, h1.drg, h1.tripLow, h1.levels, h1.inbox⟩
    refine ⟨hv.regate, ?_, h3, h4, h5, h6⟩
    unfold RailsMoved at *
    show ({ v.phc with burst := none, rearm := 0, ocBurst := [] } : PhcState) = _
    rw [h2]
    rfl
  · exact ⟨h1, h2, h3, h4, h5, h6⟩

theorem RailGone.others {k st : Nat} {s t : State} (h : RailGone k st s t) {j : Nat} (hj : j < 4) (hk : k < 4) (hne : j ≠ k) : railSt t j = railSt s j := by
  have h1 := railKeys k
  have h2 := railKeys j
  exact h.fields _ (by omega) (by omega) (by omega)

end Sys2Proof.Machine
end

section
/-! SUPPORT. Starts and stops of the sequencer (R215 to R218). -/

namespace Sys2Proof.Machine

/-- The sequencer in a state, with BUS_EN so. -/
def seqBus (q : Nat) (b : Bool) (s : State) : State := setSeqState q (setB s PHC.SEQ_STATUS.BUS_EN b)

theorem seqBus_shown {q : Nat} (hq : q < 8) (b : Bool) (s : State) : SeqFrame s (seqBus q b s) ∧ seqState (seqBus q b s) = q ∧
    getB (seqBus q b s) PHC.SEQ_STATUS.BUS_EN = b ∧
    (∀ f : Fld, f.key ≠ PHC.SEQ_STATUS.SEQ_STATE.key → f.key ≠ PHC.SEQ_STATUS.BUS_EN.key → getF (seqBus q b s) f = getF s f) ∧
    (seqBus q b s).phc = s.phc ∧ (seqBus q b s).sta = s.sta :=
  ⟨((SeqFrame.refl s).setB _ _ (by simp [seqFields])).setSeqState _, (getF_setF_self ..).trans (Nat.mod_eq_of_lt hq),
    (getB_setF_ne _ _ (by decide)).trans (getB_setB_self _ _ _ rfl), fun f e1 e2 => (getF_setF_ne _ _ e1).trans (getF_setF_ne _ _ e2), rfl, rfl⟩

theorem beginStart_eq {s : State} (h : getB s TMG.TRIP.TRIPPED = false) : beginStart s =
    { seqBus sqStarting true s with phc := { (seqBus sqStarting true s).phc with
      busEnAt := s.time.ticks
      stop := 0
      restart := false
      goodAt := if busOk s then some s.time.ticks else none } } := by
  unfold beginStart
  rw [if_neg (by rw [h]; decide)]
  rfl

/-- A start begins: BUS_EN rises (R216). -/
theorem beginStart_shown {s : State} (h : getB s TMG.TRIP.TRIPPED = false) : SeqFrame s (beginStart s) ∧ seqState (beginStart s) = sqStarting ∧
    getB (beginStart s) PHC.SEQ_STATUS.BUS_EN = true ∧ (beginStart s).phc.busEnAt = s.time.ticks ∧
    (∀ f : Fld, f.key ≠ PHC.SEQ_STATUS.SEQ_STATE.key → f.key ≠ PHC.SEQ_STATUS.BUS_EN.key → getF (beginStart s) f = getF s f) ∧
    (beginStart s).phc.due = s.phc.due ∧ (beginStart s).sta = s.sta := by
  obtain ⟨h1, h2, h3, h4, h5, h6⟩ := seqBus_shown (q := sqStarting) (by decide) true s
  rw [beginStart_eq h]
  generalize seqBus sqStarting true s = x at *
  exact ⟨⟨h1.fields, h1.time, h1.drg, h1.tripLow, h1.levels, h1.inbox⟩, h2, h3, rfl, h4, congrArg (·.due) h5, h6⟩

/-- The rails of a quick stop that are still to go off, in their order. -/
def quickLeft (s : State) : List Nat := (stopOrder s).filter (fun k => railSt s k ≠ rsOff && railSt s k ≠ rsLatch)

theorem orderAt_lt (s : State) (p : Nat) : orderAt s p < 4 := Nat.mod_lt _ (by decide)

theorem stopOrder_lt {s : State} {k : Nat} (h : k ∈ stopOrder s) : k < 4 := by
  unfold stopOrder startOrder at h
  obtain ⟨p, -, rfl⟩ := List.mem_map.1 (List.mem_reverse.1 h)
  exact orderAt_lt s p

/-- The first rail of a quick stop off; the next one 10 µs later. -/
def quickFirst (s : State) : State :=
  match quickLeft s with
  | k :: _ => setDue (s.time.ticks + us 10) (railOff k rsOff s)
  | [] => s

/-- BUS_EN low and the sequencer IDLE. -/
def seqIdled (s : State) : State := setStop 0 (seqBus sqIdle false s)

theorem quickNext_eq (s : State) : quickNext s = if (quickLeft s).length ≤ 1 then
    (if (seqIdled (quickFirst s)).phc.restart && !(seqIdled (quickFirst s)).phc.allLow && (seqIdled (quickFirst s)).phc.resetN &&
      (seqIdled (quickFirst s)).phc.pwrFailN then beginStart (seqIdled (quickFirst s)) else seqIdled (quickFirst s)) else quickFirst s := by
  unfold quickNext quickFirst
  rfl

theorem seqIdled_shown (s : State) : SeqFrame s (seqIdled s) ∧ seqState (seqIdled s) = sqIdle ∧ getB (seqIdled s) PHC.SEQ_STATUS.BUS_EN = false ∧
    (∀ f : Fld, f.key ≠ PHC.SEQ_STATUS.SEQ_STATE.key → f.key ≠ PHC.SEQ_STATUS.BUS_EN.key → getF (seqIdled s) f = getF s f) ∧
    (seqIdled s).phc = { s.phc with stop := 0 } ∧ (seqIdled s).sta = s.sta := by
  obtain ⟨h1, h2, h3, h4, h5, h6⟩ := seqBus_shown (q := sqIdle) (by decide) false s
  unfold seqIdled
  generalize seqBus sqIdle false s = x at *
  exact ⟨h1.setStop 0, h2, h3, h4, congrArg (fun p : PhcState => { p with stop := 0 }) h5, h6⟩

/-- What the first step of a quick stop shows. -/
structure QuickGone (s t : State) : Prop where
  frame : SeqFrame s t
  moved : t.phc.stop = s.phc.stop ∧ t.phc.busEnAt = s.phc.busEnAt ∧ t.phc.goodAt = s.phc.goodAt ∧ t.phc.restart = s.phc.restart
  state : seqState t = seqState s
  head : ∀ k l, quickLeft s = k :: l → railSt t k = rsOff ∧ t.phc.due = s.time.ticks + us 10
  sta : t.sta = s.sta

theorem quickFirst_shown (s : State) : QuickGone s (quickFirst s) := by
  unfold quickFirst
  split
  · next k l hl =>
    have hk : k < 4 := by
      refine stopOrder_lt (s := s) (List.mem_of_mem_filter (p := fun k => railSt s k ≠ rsOff && railSt s k ≠ rsLatch) ?_)
      show k ∈ quickLeft s
      rw [hl]
      simp
    have hkeys := railKeys k
    obtain ⟨h1, h2, h3, h4, h5, h6⟩ := railOff_shown (st := rsOff) hk (by decide) s
    obtain ⟨o1, o2, o3, o4, o5⟩ := h2.own
    generalize railOff k rsOff s = u at *
    refine ⟨h1.setDue _, ⟨o1, o3, o4, o5⟩, h4 _ (by omega) (by omega) (by omega), fun k2 l2 he => ?_, h5⟩
    obtain ⟨rfl, -⟩ := List.cons.inj (hl.symm.trans he)
    exact ⟨h3, rfl⟩
  · next hl => exact ⟨.refl s, ⟨rfl, rfl, rfl, rfl⟩, rfl, fun k l he => absurd (hl.symm.trans he) (by simp), rfl⟩

/-- What a step of a quick stop shows (R218). -/
structure QuickShown (s t : State) : Prop where
  frame : SeqFrame s t
  head : ∀ k l, quickLeft s = k :: l → railSt t k = rsOff ∧ t.phc.due = s.time.ticks + us 10
  more : 2 ≤ (quickLeft s).length → seqState t = seqState s
  last : (quickLeft s).length ≤ 1 → s.phc.restart = false → seqState t = sqIdle ∧ getB t PHC.SEQ_STATUS.BUS_EN = false
  again : (quickLeft s).length ≤ 1 → s.phc.restart = true → s.phc.allLow = false → s.phc.resetN = true → s.phc.pwrFailN = true →
    getB s TMG.TRIP.TRIPPED = false → seqState t = sqStarting ∧ getB t PHC.SEQ_STATUS.BUS_EN = true
  tripped : getB s TMG.TRIP.TRIPPED = true → seqState t = seqState s ∨ seqState t = sqIdle
  goodAt : t.phc.goodAt = s.phc.goodAt ∨ s.phc.restart = true
  sta : t.sta = s.sta

theorem quickNext_shown (s : State) : QuickShown s (quickNext s) := by
  obtain ⟨g1, ⟨m1, m2, m3, m4⟩, g3, g4, g5⟩ := quickFirst_shown s
  obtain ⟨i1, i2, i3, i4, ip, i5⟩ := seqIdled_shown (quickFirst s)
  have hdue : (seqIdled (quickFirst s)).phc.due = (quickFirst s).phc.due := congrArg (·.due) ip
  have hre : (seqIdled (quickFirst s)).phc.restart = s.phc.restart := (congrArg (·.restart) ip).trans m4
  have hgood : (seqIdled (quickFirst s)).phc.goodAt = s.phc.goodAt := (congrArg (·.goodAt) ip).trans m3
  have hi := g1.trans i1
  obtain ⟨v1, v2, v3⟩ := hi.levels
  have htrip : getB (seqIdled (quickFirst s)) TMG.TRIP.TRIPPED = getB s TMG.TRIP.TRIPPED := getB_congr (hi.getF (by decide) (by decide))
  have hrail : ∀ k, railSt (seqIdled (quickFirst s)) k = railSt (quickFirst s) k := fun k => by
    have hkeys := railKeys k
    exact i4 _ (by omega) (by omega)
  rw [quickNext_eq]
  generalize seqIdled (quickFirst s) = u at *
  generalize quickFirst s = w at *
  split
  · next hle =>
    have hhead : ∀ k l, quickLeft s = k :: l → railSt u k = rsOff ∧ u.phc.due = s.time.ticks + us 10 := fun k l he =>
      ⟨(hrail k).trans (g4 k l he).1, hdue.trans (g4 k l he).2⟩
    split
    · next hc =>
      rw [hre, v1, v2, v3] at hc
      have hr : s.phc.restart = true := by
        simp only [Bool.and_eq_true] at hc
        exact hc.1.1.1
      by_cases ht : getB s TMG.TRIP.TRIPPED = true
      · have hb : beginStart u = u := if_pos (htrip.trans ht)
        rw [hb]
        exact ⟨hi, hhead, fun h => by omega, fun _ _ => ⟨i2, i3⟩, fun _ _ _ _ _ h => absurd (h.symm.trans ht) (by decide), fun _ => .inr i2, .inl hgood,
          i5.trans g5⟩
      · obtain ⟨b1, b2, b3, b4, b5, hbd, b6⟩ := beginStart_shown (htrip.trans (Bool.eq_false_iff.2 ht))
        have hbr : ∀ k, railSt (beginStart u) k = railSt u k := fun k => by
          have hkeys := railKeys k
          exact b5 _ (by omega) (by omega)
        exact ⟨hi.trans b1, fun k l he => ⟨(hbr k).trans (hhead k l he).1, hbd.trans (hhead k l he).2⟩, fun h => by omega,
          fun _ h => absurd (h.symm.trans hr) (by decide), fun _ _ _ _ _ _ => ⟨b2, b3⟩, fun h => absurd h ht, .inr hr, b6.trans (i5.trans g5)⟩
    · next hc =>
      rw [hre, v1, v2, v3] at hc
      exact ⟨hi, hhead, fun h => by omega, fun _ _ => ⟨i2, i3⟩, fun _ h1 h2 h3 h4 _ => absurd (by rw [h1, h2, h3, h4]; rfl) hc, fun _ => .inr i2,
        .inl hgood, i5.trans g5⟩
  · next hle =>
    exact ⟨g1, g4, fun _ => g3, fun h => absurd h hle, fun h => absurd h hle, fun _ => .inl g3, .inl m3, g5⟩

theorem regate_regs (s : State) : (regate s).regs = s.regs := rfl

/-- Before its first step, a quick stop ends a rest state. -/
def quickBegun (s : State) : State := setStop 3 (setSeqState sqQuickStop (regate (restEnds s)))

theorem restEnds_regs (s : State) {f : Fld} (h1 : f.key ≠ STA.REST_STATUS.STATE.key) (h2 : f.key ≠ STA.REST_STATUS.LAST.key) :
    getF (restEnds s) f = getF s f := by
  unfold restEnds
  extract_lets st deep s0 s1
  have h0 : getF s0 f = getF s f := by
    unfold s0
    split
    · rfl
    · exact getF_setF_ne _ _ h2
  have h1 : getF s1 f = getF s0 f := getF_setF_ne _ _ h1
  exact h1.trans h0

theorem restEnds_phc (s : State) : (restEnds s).phc = s.phc := by
  unfold restEnds
  extract_lets st deep s0 s1
  show s0.phc = s.phc
  unfold s0
  split <;> rfl

theorem quickBegun_shown (s : State) : SeqFrame s (quickBegun s) ∧ seqState (quickBegun s) = sqQuickStop ∧
    quickLeft (quickBegun s) = quickLeft s ∧ (quickBegun s).phc.restart = s.phc.restart ∧ (quickBegun s).phc.goodAt = s.phc.goodAt := by
  have hf : SeqFrame s (quickBegun s) := (((SeqFrame.refl s).restEnds.regate).setSeqState _).setStop 3
  have hregs : (quickBegun s).regs = (setSeqState sqQuickStop (regate (restEnds s))).regs := rfl
  have hrail : ∀ k < 4, railSt (quickBegun s) k = railSt s k := fun k hk4 => by
    have hk := railKeys k
    have h1 := restEnds_regs s (f := PHC.RAIL_SEQ.STATE k) (by omega) (by omega)
    have h2 : getF (setSeqState sqQuickStop (regate (restEnds s))) (PHC.RAIL_SEQ.STATE k) = getF (regate (restEnds s)) (PHC.RAIL_SEQ.STATE k) :=
      getF_setF_ne _ _ (by omega)
    exact (getF_congr hregs _).trans (h2.trans h1)
  have horder : stopOrder (quickBegun s) = stopOrder s := by
    unfold stopOrder startOrder
    refine congrArg List.reverse (List.map_congr_left fun p _ => ?_)
    unfold orderAt
    rw [hf.getF (by decide) (by decide)]
  refine ⟨hf, (getF_congr hregs _).trans (getF_setF_self ..), ?_, congrArg (·.restart) (restEnds_phc s), congrArg (·.goodAt) (restEnds_phc s)⟩
  unfold quickLeft
  rw [horder]
  exact List.filter_congr fun k hk => by rw [hrail k (stopOrder_lt hk)]

theorem quickStop_on {s : State} (h : seqState s = sqQuickStop) : quickStop s = s := if_pos h

theorem quickStop_off {s : State} (h : seqState s ≠ sqQuickStop) : quickStop s = quickNext (quickBegun s) := if_neg h

theorem quickStop_frame (s : State) : SeqFrame s (quickStop s) := by
  by_cases h : seqState s = sqQuickStop
  · rw [quickStop_on h]; exact .refl s
  · rw [quickStop_off h]
    exact (quickBegun_shown s).1.trans (quickNext_shown _).frame

end Sys2Proof.Machine
end

section
/-! O38. The trip comparators. -/

namespace Sys2Proof.Machine

theorem tripcmp_key (w : Nat) : (TMG.TRIPCMP.TRIPPED w).key = 32 * (0x80240 + 4 * w) := by
  simp only [TMG.TRIPCMP.TRIPPED, fld]
  omega

/-- One comparator tripped. -/
def tripSet (c : Nat) (s : State) : State := setF s (TMG.TRIPCMP.TRIPPED (c / 32)) (setBit (getF s (TMG.TRIPCMP.TRIPPED (c / 32))) (c % 32))

/-- One comparator released. -/
def tripClear (c : Nat) (s : State) : State := setF s (TMG.TRIPCMP.TRIPPED (c / 32)) (clrBit (getF s (TMG.TRIPCMP.TRIPPED (c / 32))) (c % 32))

theorem isTripped_setF {c : Nat} {s : State} (v j : Nat) (h : ∀ i < 32, v.testBit i = ((!decide (i = c % 32)) && bit (getF s (TMG.TRIPCMP.TRIPPED (c / 32))) i ||
    (decide (i = c % 32) && decide (j = 1)))) (d : Nat) :
    isTripped (setF s (TMG.TRIPCMP.TRIPPED (c / 32)) v) d = (!decide (d = c) && isTripped s d || (decide (d = c) && decide (j = 1))) := by
  unfold isTripped
  by_cases hw : d / 32 = c / 32
  · rw [hw, getF_setF_self]
    have hi : decide (d % 32 = c % 32) = decide (d = c) := decide_eq_decide.2 (by omega)
    unfold bit at h ⊢
    rw [Nat.testBit_mod_two_pow, show decide (d % 32 < (TMG.TRIPCMP.TRIPPED (c / 32)).w) = true from decide_eq_true (Nat.mod_lt _ (by decide)),
      Bool.true_and, h _ (Nat.mod_lt _ (by decide)), hi]
  · have h1 := tripcmp_key (d / 32)
    have h2 := tripcmp_key (c / 32)
    rw [getF_setF_ne _ _ (by omega), decide_eq_false (show ¬ d = c by intro h; exact hw (by rw [h]))]
    simp

theorem isTripped_tripSet (c : Nat) (s : State) (d : Nat) : isTripped (tripSet c s) d = (decide (d = c) || isTripped s d) := by
  unfold tripSet
  rw [isTripped_setF _ 1 fun i _ => ?_]
  · by_cases h : d = c <;> simp [h]
  · rw [testBit_setBit]
    unfold bit
    by_cases h : i = c % 32 <;> simp [h]

theorem isTripped_tripClear (c : Nat) (s : State) (d : Nat) : isTripped (tripClear c s) d = (!decide (d = c) && isTripped s d) := by
  unfold tripClear
  rw [isTripped_setF _ 0 fun i _ => ?_]
  · simp
  · rw [testBit_clrBit]
    unfold bit
    simp

theorem isTripped_congr {s t : State} (h : ∀ w < 16, getF t (TMG.TRIPCMP.TRIPPED w) = getF s (TMG.TRIPCMP.TRIPPED w)) {c : Nat} (hc : c < 512) :
    isTripped t c = isTripped s c := by
  unfold isTripped
  rw [h _ (by omega)]

theorem trippedIn_congr {s t : State} {r : Nat} (h : ∀ i < 8, isTripped t (8 * r + i) = isTripped s (8 * r + i)) : trippedIn t r = trippedIn s r :=
  List.filter_congr fun i hi => h i (List.mem_range.1 hi)

theorem twoTripped_congr {s t : State} (h : ∀ c < 512, isTripped t c = isTripped s c) : twoTripped t = twoTripped s := by
  have hq : ∀ q ∈ regions64, decide (2 ≤ (trippedIn t q).length) = decide (2 ≤ (trippedIn s q).length) := fun q hq => by
    have hq64 := List.mem_range.1 hq
    rw [trippedIn_congr fun i hi => h _ (by omega)]
  unfold twoTripped
  rw [Bool.eq_iff_iff, List.any_eq_true, List.any_eq_true]
  exact exists_congr fun q => and_congr_right fun hm => by rw [hq q hm]

theorem anyTripped_congr {s t : State} (h : ∀ c < 512, isTripped t c = isTripped s c) :
    (List.range 512).any (isTripped t) = (List.range 512).any (isTripped s) := by
  rw [Bool.eq_iff_iff, List.any_eq_true, List.any_eq_true]
  exact exists_congr fun c => and_congr_right fun hm => by rw [h c (List.mem_range.1 hm)]

/-- Two comparators of a region make two. -/
theorem two_le_trippedIn {s : State} {r m n : Nat} (hm : m < 8) (hn : n < 8) (hne : m ≠ n) (h1 : isTripped s (8 * r + m) = true)
    (h2 : isTripped s (8 * r + n) = true) : 2 ≤ (trippedIn s r).length := by
  have hm1 : m ∈ trippedIn s r := List.mem_filter.2 ⟨List.mem_range.2 hm, h1⟩
  have hn1 : n ∈ trippedIn s r := List.mem_filter.2 ⟨List.mem_range.2 hn, h2⟩
  rcases hl : trippedIn s r with _ | ⟨x, _ | ⟨y, l⟩⟩
  · rw [hl] at hm1; simp at hm1
  · rw [hl] at hm1 hn1
    exact absurd ((List.mem_singleton.1 hm1).trans (List.mem_singleton.1 hn1).symm) hne
  · simp

theorem length_only : ∀ n < 8, ((List.range 8).filter (fun i => decide (i = n))).length = 1 := by decide

/-- The first comparator of a region makes one. -/
theorem trippedIn_tripSet_first {s : State} {r n : Nat} (hn : n < 8) (h : ∀ m < 8, isTripped s (8 * r + m) = false) :
    (trippedIn (tripSet (8 * r + n) s) r).length = 1 := by
  rw [← length_only n hn]
  refine congrArg List.length (List.filter_congr fun i hi => ?_)
  rw [isTripped_tripSet, h i (List.mem_range.1 hi), Bool.or_false]
  exact decide_eq_decide.2 (by omega)

theorem twoTripped_tripSet_first {s : State} {r n : Nat} (hn : n < 8) (h : ∀ m < 8, isTripped s (8 * r + m) = false)
    (h2 : twoTripped s = false) : twoTripped (tripSet (8 * r + n) s) = false := by
  unfold twoTripped at h2 ⊢
  rw [List.any_eq_false] at h2 ⊢
  intro q hq
  by_cases hqr : q = r
  · rw [hqr, trippedIn_tripSet_first hn h]; decide
  · rw [trippedIn_congr (s := s) fun i hi => by rw [isTripped_tripSet, decide_eq_false (by omega), Bool.false_or]]
    exact h2 q hq

/-! ### One comparator (R263) -/

/-- A single trip keeps the comparators and lowers the ceiling. -/
structure SingleTripped (s t : State) : Prop where
  quiet : Quiet (TMG.STATUS.TRIP_SINGLE :: LGV.THERM_CEIL.CEIL :: TMG.STATUS.CEIL_CAUSE :: fellFields) s t
  single : getB t TMG.STATUS.TRIP_SINGLE = true
  ceil : thermCeil t = min (thermCeil s) 60
  phc : t.phc = s.phc

theorem singleTrip_shown (s : State) : SingleTripped s (singleTrip s) := by
  have h1 : Quiet (TMG.STATUS.TRIP_SINGLE :: LGV.THERM_CEIL.CEIL :: TMG.STATUS.CEIL_CAUSE :: fellFields) s (setB s TMG.STATUS.TRIP_SINGLE true) :=
    (Quiet.refl _ s).setB _ _ (by simp)
  have hs : getB (setB s TMG.STATUS.TRIP_SINGLE true) TMG.STATUS.TRIP_SINGLE = true := getB_setB_self _ _ _ rfl
  have hc : thermCeil (setB s TMG.STATUS.TRIP_SINGLE true) = thermCeil s := getF_setB_ne _ _ (by decide)
  have hp : (setB s TMG.STATUS.TRIP_SINGLE true).phc = s.phc := rfl
  unfold singleTrip
  generalize setB s TMG.STATUS.TRIP_SINGLE true = u at *
  obtain ⟨l1, l2, l3, l4, l5⟩ := thermLower_shown (v := 60) (cause := 1) (by decide) (by decide) u
  exact ⟨h1.trans (l1.mono fun f hf => List.mem_cons_of_mem _ hf), (getB_congr (l1.getF (by decide) (by decide))).trans hs, l2.trans (by rw [hc]),
    l4.trans hp⟩

theorem tripcmp_kept : ∀ w < 16, (TMG.TRIPCMP.TRIPPED w).key ∉
    (FLC.STATUS.QUEUE_OVF :: TMG.STATUS.TRIP_SINGLE :: LGV.THERM_CEIL.CEIL :: TMG.STATUS.CEIL_CAUSE :: fellFields).map (fun g => g.key) ∧
    (TMG.TRIPCMP.TRIPPED w).key ≠ TST.CTRL.OVERRIDE.key := by decide

theorem Quiet.isTripped {l : List Fld} {s t : State} (h : Quiet l s t)
    (hl : ∀ f ∈ l, f ∈ FLC.STATUS.QUEUE_OVF :: TMG.STATUS.TRIP_SINGLE :: LGV.THERM_CEIL.CEIL :: TMG.STATUS.CEIL_CAUSE :: fellFields)
    {c : Nat} (hc : c < 512) : Machine.isTripped t c = Machine.isTripped s c :=
  isTripped_congr (fun w hw => (h.mono hl).getF (tripcmp_kept w hw).1 (tripcmp_kept w hw).2) hc

theorem tripComparator_single {r n : Nat} (hn : n < 8) {s : State} (h : isTripped s (8 * r + n) = false) (hr : ∃ k < 4, railSt s k ≠ rsOff)
    (h1 : ∀ m < 8, isTripped s (8 * r + m) = false) (h2 : twoTripped s = false) :
    tripComparator r n s = singleTrip (sendFaultP 0 0x81 (0x800 + r) n (tripSet (8 * r + n) s)) := by
  obtain ⟨k, hk, hne⟩ := hr
  have hlen := trippedIn_tripSet_first hn h1
  have htwo := twoTripped_tripSet_first hn h1 h2
  unfold tripComparator
  dsimp only
  change (if _ then s else if 2 ≤ (trippedIn (tripSet (8 * r + n) s) r).length then _ else if twoTripped (tripSet (8 * r + n) s) = true then _ else
    singleTrip (sendFaultP 0 0x81 (0x800 + r) n (tripSet (8 * r + n) s))) = _
  rw [if_neg, if_neg (by omega), if_neg (by rw [htwo]; decide)]
  rw [h]
  simp only [Bool.false_eq_true, false_or, Bool.not_eq_true, List.all_eq_false]
  exact ⟨k, (by decide : ∀ k < 4, k ∈ rails4) k hk, by simpa using hne⟩

/-! ### A second comparator of a region (R262) -/

/-- The trip told of, with the comparators of its region. -/
def tripTold (r : Nat) (s : State) : State :=
  setF (setF (setB (sendFaultP 0 0x80 (0x800 + r) ((trippedIn s r).foldl setBit 0) { s with phc := { s.phc with tripLow := true } }) TMG.TRIP.TRIPPED true)
    TMG.TRIP.REGION r) TMG.TRIP.SENSORS ((trippedIn s r).foldl setBit 0)

theorem thermalTrip_eq (r : Nat) (s : State) : thermalTrip r s = quickStop (holdBeats (tripTold r s)) := rfl

theorem testBit_foldl_setBit (l : List Nat) (v j : Nat) : (l.foldl setBit v).testBit j = (decide (j ∈ l) || v.testBit j) := by
  induction l generalizing v with
  | nil => simp
  | cons x r ih =>
    rw [List.foldl_cons, ih, testBit_setBit]
    by_cases h : j = x <;> simp [h]

theorem sensors_lt (s : State) (r : Nat) : (trippedIn s r).foldl setBit 0 < 2 ^ 8 := by
  refine Nat.lt_pow_two_of_testBit _ fun j hj => ?_
  rw [testBit_foldl_setBit, Nat.zero_testBit, Bool.or_false]
  refine decide_eq_false fun hm => ?_
  have := List.mem_range.1 (List.mem_filter.1 hm).1
  omega

/-- What a trip has told of, before the quick stop. -/
structure TripTold (r : Nat) (s t : State) : Prop where
  tripped : getB t TMG.TRIP.TRIPPED = true
  region : getF t TMG.TRIP.REGION = r
  sensors : getF t TMG.TRIP.SENSORS = (trippedIn s r).foldl setBit 0
  low : t.phc.tripLow = true
  told : roomMsg s → messageWaits 0x80 (0x800 + r) (getF t TMG.TRIP.SENSORS) t
  cmp : ∀ w < 16, getF t (TMG.TRIPCMP.TRIPPED w) = getF s (TMG.TRIPCMP.TRIPPED w)

theorem tripTold_shown {r : Nat} (hr : r < 64) (s : State) : TripTold r s (tripTold r s) := by
  have hlt := sensors_lt s r
  have hq := (Quiet.refl [FLC.STATUS.QUEUE_OVF] { s with phc := { s.phc with tripLow := true } }).sendFaultP 0 0x80 (0x800 + r)
    ((trippedIn s r).foldl setBit 0) (by simp)
  have hm : roomMsg s → messageWaits 0x80 (0x800 + r) ((trippedIn s r).foldl setBit 0)
      (sendFaultP 0 0x80 (0x800 + r) ((trippedIn s r).foldl setBit 0) { s with phc := { s.phc with tripLow := true } }) := fun h =>
    messageWaits_sendFaultP (roomMsg_congr rfl h)
  have hp : (sendFaultP 0 0x80 (0x800 + r) ((trippedIn s r).foldl setBit 0) { s with phc := { s.phc with tripLow := true } }).phc.tripLow = true :=
    congrArg (·.tripLow) (sendFaultP_phc ..)
  unfold tripTold
  generalize hmk : (trippedIn s r).foldl setBit 0 = mask at *
  generalize sendFaultP 0 0x80 (0x800 + r) mask { s with phc := { s.phc with tripLow := true } } = u at *
  have hmask : getF (setF (setF (setB u TMG.TRIP.TRIPPED true) TMG.TRIP.REGION r) TMG.TRIP.SENSORS mask) TMG.TRIP.SENSORS = mask :=
    (getF_setF_self ..).trans (Nat.mod_eq_of_lt hlt)
  refine ⟨(getB_setF_ne _ _ (by decide)).trans ((getB_setF_ne _ _ (by decide)).trans (getB_setB_self _ _ _ rfl)),
    (getF_setF_ne _ _ (by decide)).trans ((getF_setF_self ..).trans (Nat.mod_eq_of_lt hr)), hmask.trans hmk.symm, hp, fun h => ?_, fun w hw => ?_⟩
  · rw [hmask]
    exact hm h
  · have hk := tripcmp_key w
    have h1 : TMG.TRIP.TRIPPED.key = 32 * 0x80020 := rfl
    have h2 : TMG.TRIP.REGION.key = 32 * 0x80020 + 8 := rfl
    have h3 : TMG.TRIP.SENSORS.key = 32 * 0x80020 + 16 := rfl
    have hov : (TMG.TRIPCMP.TRIPPED w).key ∉ [FLC.STATUS.QUEUE_OVF].map (fun g => g.key) ∧ (TMG.TRIPCMP.TRIPPED w).key ≠ TST.CTRL.OVERRIDE.key :=
      (by decide : ∀ v < 16, (TMG.TRIPCMP.TRIPPED v).key ∉ [FLC.STATUS.QUEUE_OVF].map (fun g => g.key) ∧
        (TMG.TRIPCMP.TRIPPED v).key ≠ TST.CTRL.OVERRIDE.key) w hw
    exact (getF_setF_ne _ _ (by omega)).trans ((getF_setF_ne _ _ (by omega)).trans ((getF_setB_ne _ _ (by omega)).trans
      ((hq.getF hov.1 hov.2).trans (getF_congr rfl _))))

theorem holdBeats_shown (s : State) : (holdBeats s).drg.holdAll = true ∧ (holdBeats s).regs = s.regs ∧ (holdBeats s).phc = s.phc ∧
    (holdBeats s).inbox = s.inbox := by
  unfold holdBeats
  split
  · next h => exact ⟨h, rfl, rfl, rfl⟩
  · exact ⟨rfl, rfl, rfl, rfl⟩

theorem quickStop_tripped {s : State} (h : getB s TMG.TRIP.TRIPPED = true) : seqState (quickStop s) = sqQuickStop ∨ seqState (quickStop s) = sqIdle := by
  by_cases hq : seqState s = sqQuickStop
  · rw [quickStop_on hq]; exact .inl hq
  · obtain ⟨b1, b2, -⟩ := quickBegun_shown s
    rw [quickStop_off hq, ← b2]
    exact (quickNext_shown (quickBegun s)).tripped ((getB_congr (b1.getF (by decide) (by decide))).trans h)

/-- What a trip shows (R262). -/
structure Tripped (r : Nat) (s t : State) : Prop where
  tripped : getB t TMG.TRIP.TRIPPED = true
  region : getF t TMG.TRIP.REGION = r
  sensors : getF t TMG.TRIP.SENSORS = (trippedIn s r).foldl setBit 0
  low : t.phc.tripLow = true
  hold : t.drg.holdAll = true
  told : roomMsg s → messageWaits 0x80 (0x800 + r) (getF t TMG.TRIP.SENSORS) t
  cmp : ∀ w < 16, getF t (TMG.TRIPCMP.TRIPPED w) = getF s (TMG.TRIPCMP.TRIPPED w)
  seq : seqState t = sqQuickStop ∨ seqState t = sqIdle

theorem thermalTrip_shown {r : Nat} (hr : r < 64) (s : State) : Tripped r s (thermalTrip r s) := by
  obtain ⟨t1, t2, t3, t4, t5, t6⟩ := tripTold_shown hr s
  obtain ⟨d1, d2, d3, d4⟩ := holdBeats_shown (tripTold r s)
  rw [thermalTrip_eq]
  generalize tripTold r s = u at *
  have htrip : getB (holdBeats u) TMG.TRIP.TRIPPED = true := (getB_congr (getF_congr d2 _)).trans t1
  have hseq := quickStop_tripped htrip
  have hf := quickStop_frame (holdBeats u)
  generalize holdBeats u = w at *
  generalize quickStop w = x at *
  have hkeep : ∀ f : Fld, f.key ∉ seqFields.map (fun g => g.key) → f.key ≠ TST.CTRL.OVERRIDE.key → getF x f = getF u f := fun f e1 e2 =>
    (hf.getF e1 e2).trans (getF_congr d2 f)
  have hsens := hkeep TMG.TRIP.SENSORS (by decide) (by decide)
  have hcmp : ∀ w < 16, (TMG.TRIPCMP.TRIPPED w).key ∉ seqFields.map (fun g => g.key) ∧ (TMG.TRIPCMP.TRIPPED w).key ≠ TST.CTRL.OVERRIDE.key := by decide
  refine ⟨(getB_congr (hkeep _ (by decide) (by decide))).trans t1, (hkeep _ (by decide) (by decide)).trans t2, hsens.trans t3,
    hf.tripLow.trans ((congrArg (·.tripLow) d3).trans t4), by rw [hf.drg]; exact d1, fun h => ?_,
    fun w hw => (hkeep _ (hcmp w hw).1 (hcmp w hw).2).trans (t6 w hw), hseq⟩
  rw [hsens]
  exact messageWaits_of_sub (t5 h) fun y hy => hf.inbox y (by rw [d4]; exact hy)

theorem tripComparator_second {r n : Nat} {s : State} (h : isTripped s (8 * r + n) = false) (hr : ∃ k < 4, railSt s k ≠ rsOff)
    (h2 : 2 ≤ (trippedIn (tripSet (8 * r + n) s) r).length) (ht : getB s TMG.TRIP.TRIPPED = false) :
    tripComparator r n s = setB (thermalTrip r (tripSet (8 * r + n) s)) TMG.STATUS.TRIP_SINGLE false := by
  obtain ⟨k, hk, hne⟩ := hr
  unfold tripComparator
  dsimp only
  change (if _ then s else if 2 ≤ (trippedIn (tripSet (8 * r + n) s) r).length then
    setB (if getB s TMG.TRIP.TRIPPED = true then _ else thermalTrip r (tripSet (8 * r + n) s)) TMG.STATUS.TRIP_SINGLE false else _) = _
  rw [if_neg, if_pos h2, if_neg (by rw [ht]; decide)]
  rw [h]
  simp only [Bool.false_eq_true, false_or, Bool.not_eq_true, List.all_eq_false]
  exact ⟨k, (by decide : ∀ k < 4, k ∈ rails4) k hk, by simpa using hne⟩

theorem tripComparator_idle {r n : Nat} {s : State} (h : isTripped s (8 * r + n) = true ∨ ∀ k < 4, railSt s k = rsOff) : tripComparator r n s = s := by
  unfold tripComparator
  rw [if_pos]
  rcases h with h | h
  · exact .inl h
  · refine .inr (List.all_eq_true.2 fun k hk => ?_)
    rw [h k (lt_of_mem_rails4 hk)]
    rfl

/-! ### A comparator that releases (R261, R263) -/

/-- What a release shows. -/
structure Released (c : Nat) (s t : State) : Prop where
  sta : t.sta = s.sta
  cmp : ∀ d < 512, isTripped t d = isTripped (tripClear c s) d
  phc : t.phc = s.phc
  tripped : getB t TMG.TRIP.TRIPPED = getB s TMG.TRIP.TRIPPED
  none : (List.range 512).any (isTripped t) = false → getB t TMG.STATUS.TRIP_SINGLE = false
  single : (List.range 512).any (isTripped t) = true → twoTripped t = false → getB t TMG.STATUS.TRIP_SINGLE = true ∧ thermCeil t = min (thermCeil s) 60
  rest : (List.range 512).any (isTripped t) = false ∨ twoTripped t = true →
    unitsSame s t ∧ fieldsBut [TMG.TRIPCMP.TRIPPED (c / 32), TMG.STATUS.TRIP_SINGLE] s t

theorem tripRelease_shown {r n : Nat} (hr : r < 64) (hn : n < 8) (s : State) : Released (8 * r + n) s (tripRelease r n s) := by
  have hw : (8 * r + n) / 32 < 16 := by omega
  have hkey := tripcmp_key ((8 * r + n) / 32)
  have htk : TMG.TRIP.TRIPPED.key = 32 * 0x80020 := rfl
  have hck : LGV.THERM_CEIL.CEIL.key = 32 * 0x70064 := rfl
  have h1 : unitsSame s (tripClear (8 * r + n) s) := unitsSame_refl s
  have h2 : fieldsBut [TMG.TRIPCMP.TRIPPED ((8 * r + n) / 32), TMG.STATUS.TRIP_SINGLE] s (tripClear (8 * r + n) s) :=
    fieldsBut_setF (by simp) (fieldsBut_refl _ s)
  have h3 : getB (tripClear (8 * r + n) s) TMG.TRIP.TRIPPED = getB s TMG.TRIP.TRIPPED := getB_setF_ne _ _ (by omega)
  have h4 : thermCeil (tripClear (8 * r + n) s) = thermCeil s := getF_setF_ne _ _ (by omega)
  have h5 : (tripClear (8 * r + n) s).phc = s.phc := rfl
  have h6 : (tripClear (8 * r + n) s).sta = s.sta := rfl
  unfold tripRelease
  dsimp only
  change Released (8 * r + n) s (if (!(List.range 512).any (isTripped (tripClear (8 * r + n) s))) = true then
    setB (tripClear (8 * r + n) s) TMG.STATUS.TRIP_SINGLE false else
    if twoTripped (tripClear (8 * r + n) s) = true then tripClear (8 * r + n) s else singleTrip (tripClear (8 * r + n) s))
  rcases hu : tripClear (8 * r + n) s with u
  rw [← hu]
  clear hu u
  split
  · next hany =>
    rw [Bool.not_eq_true'] at hany
    have hcmp : ∀ d < 512, isTripped (setB (tripClear (8 * r + n) s) TMG.STATUS.TRIP_SINGLE false) d = isTripped (tripClear (8 * r + n) s) d := fun d hd =>
      Quiet.isTripped (l := [TMG.STATUS.TRIP_SINGLE]) ((Quiet.refl _ _).setB _ _ (by simp)) (by simp) hd
    have hany2 := (anyTripped_congr hcmp).trans hany
    exact ⟨h6, hcmp, h5, (getB_setB_ne _ _ (by decide)).trans h3, fun _ => getB_setB_self _ _ _ rfl, fun h => absurd (h.symm.trans hany2) (by decide),
      fun _ => ⟨h1, fieldsBut_setB (by simp) h2⟩⟩
  · next hany =>
    rw [Bool.not_eq_true', Bool.not_eq_false] at hany
    split
    · next htwo =>
      exact ⟨h6, fun _ _ => rfl, h5, h3, fun h => absurd (h.symm.trans hany) (by decide), fun _ h => absurd (h.symm.trans htwo) (by decide),
        fun _ => ⟨h1, h2⟩⟩
    · next htwo =>
      obtain ⟨s1, s2, s3, s4⟩ := singleTrip_shown (tripClear (8 * r + n) s)
      have hcmp : ∀ d < 512, isTripped (singleTrip (tripClear (8 * r + n) s)) d = isTripped (tripClear (8 * r + n) s) d := fun d hd =>
        s1.isTripped (fun f hf => List.mem_cons_of_mem _ hf) hd
      have hany2 := (anyTripped_congr hcmp).trans hany
      have htwo2 := (twoTripped_congr hcmp).trans (Bool.eq_false_iff.2 htwo)
      exact ⟨s1.sta.trans h6, hcmp, s4.trans h5, (getB_congr (s1.getF (by decide) (by decide))).trans h3,
        fun h => absurd (h.symm.trans hany2) (by decide), fun _ _ => ⟨s2, s3.trans (by rw [h4])⟩, fun h => by rw [hany2, htwo2] at h; simp at h⟩

end Sys2Proof.Machine

open Sys2Proof Sys2Proof.Machine

/-- Settles O38: one comparator of a region lowers the ceiling, a second one stops the rails, and a release undoes no trip. -/
theorem tripsStopTheRails : Obligations.TripsStopTheRails := by
  unfold Obligations.TripsStopTheRails
  intro dt r n s a ha hr hn
  have hnoend : noEnd a := ha ▸ noEnd_advance dt s
  have hwf : (Instr.tripComparator dt r n).wf = true := by simp [Instr.wf, hr, hn]
  refine ⟨fun hoff hrail hroom => ⟨fun hnone htwo => ?_, fun ⟨m, hm, htm⟩ htrip => ?_⟩, fun h => ?_, ?_⟩
  · refine answers_eq ha (exec_tripComparator ..) hwf (tripComparator_single hn hoff hrail hnone htwo) ?_
    have hset := isTripped_tripSet (8 * r + n) a (8 * r + n)
    have hkey := tripcmp_key ((8 * r + n) / 32)
    have htk : TMG.TRIP.TRIPPED.key = 32 * 0x80020 := rfl
    have hck : LGV.THERM_CEIL.CEIL.key = 32 * 0x70064 := rfl
    have h3 : getB (tripSet (8 * r + n) a) TMG.TRIP.TRIPPED = getB a TMG.TRIP.TRIPPED := getB_setF_ne _ _ (by omega)
    have h4 : thermCeil (tripSet (8 * r + n) a) = thermCeil a := getF_setF_ne _ _ (by omega)
    have h5 : (tripSet (8 * r + n) a).phc = a.phc := rfl
    have h6 : (tripSet (8 * r + n) a).sta = a.sta := rfl
    have hroom2 : roomMsg (tripSet (8 * r + n) a) := roomMsg_congr rfl hroom
    rw [decide_eq_true rfl, Bool.true_or] at hset
    generalize tripSet (8 * r + n) a = u at *
    have hmsg := messageWaits_sendFaultP (p := 0) (k := 0x81) (src := 0x800 + r) (i := n) hroom2
    have hq := (Quiet.refl [FLC.STATUS.QUEUE_OVF] u).sendFaultP 0 0x81 (0x800 + r) n (by simp)
    have hp : (sendFaultP 0 0x81 (0x800 + r) n u).phc = u.phc := sendFaultP_phc ..
    generalize sendFaultP 0 0x81 (0x800 + r) n u = w at *
    obtain ⟨s1, s2, s3, s4⟩ := singleTrip_shown w
    have hcw : thermCeil w = thermCeil a := (hq.getF (by decide) (by decide)).trans h4
    generalize singleTrip w = x at *
    have hx : noEnd x := noEnd_congr hnoend (s1.sta.trans (hq.sta.trans h6))
    have hcmp : isTripped (settle x) (8 * r + n) = isTripped x (8 * r + n) :=
      isTripped_congr (fun w hw => getF_settle x hx (tripcmp_kept w hw).2) (by omega)
    have hce : thermCeil (settle x) = thermCeil x := getF_settle x hx (by decide)
    rw [hcmp, getB_settle x hx (by decide), messageWaits_settle hx, hce, settle_phc hx, getB_settle x hx (by decide)]
    refine ⟨?_, s2, messageWaits_of_sub hmsg s1.inbox, s3.trans (by rw [hcw]), s4.trans (hp.trans h5), ?_⟩
    · rw [s1.isTripped (fun f hf => List.mem_cons_of_mem _ hf) (by omega), hq.isTripped (by simp) (by omega)]
      exact hset
    · exact (getB_congr (s1.getF (by decide) (by decide))).trans ((getB_congr (hq.getF (by decide) (by decide))).trans h3)
  · have hne : m ≠ n := fun h => by rw [h, hoff] at htm; exact absurd htm (by decide)
    have hlen : 2 ≤ (trippedIn (tripSet (8 * r + n) a) r).length := by
      refine two_le_trippedIn hm hn hne ?_ ?_
      · rw [isTripped_tripSet, htm, Bool.or_true]
      · rw [isTripped_tripSet, decide_eq_true rfl, Bool.true_or]
    refine answers_eq ha (exec_tripComparator ..) hwf (tripComparator_second hoff hrail hlen htrip) ?_
    have hset := isTripped_tripSet (8 * r + n) a (8 * r + n)
    rw [decide_eq_true rfl, Bool.true_or] at hset
    have hroom2 : roomMsg (tripSet (8 * r + n) a) := roomMsg_congr rfl hroom
    generalize tripSet (8 * r + n) a = u at *
    obtain ⟨t1, t2, t3, t4, t5, t6, t7, t8⟩ := thermalTrip_shown hr u
    generalize thermalTrip r u = w at *
    have hw1 : ∀ f : Fld, f.key ≠ TMG.STATUS.TRIP_SINGLE.key → getF (setB w TMG.STATUS.TRIP_SINGLE false) f = getF w f := fun f h => getF_setB_ne _ _ h
    have hw2 : getB (setB w TMG.STATUS.TRIP_SINGLE false) TMG.STATUS.TRIP_SINGLE = false := getB_setB_self _ _ _ rfl
    have hw3 : (setB w TMG.STATUS.TRIP_SINGLE false).phc = w.phc ∧ (setB w TMG.STATUS.TRIP_SINGLE false).drg = w.drg ∧
      (setB w TMG.STATUS.TRIP_SINGLE false).inbox = w.inbox := ⟨rfl, rfl, rfl⟩
    obtain ⟨hwp, hwd, hwi⟩ := hw3
    generalize setB w TMG.STATUS.TRIP_SINGLE false = x at *
    have hk := settle_keeps x
    have htmg : ∀ f : Fld, 32 * 0x80000 ≤ f.key → f.key < 32 * 0x90000 → getF (settle x) f = getF x f := fun f e1 e2 => hk.regs f (.inr ⟨e1, e2⟩)
    have hcmp : ∀ d < 512, isTripped (settle x) d = isTripped u d := fun d hd => by
      refine isTripped_congr (fun v hv => ?_) hd
      have hkey := tripcmp_key v
      have hsk : TMG.STATUS.TRIP_SINGLE.key = 32 * 0x80010 + 4 := rfl
      exact (htmg _ (by omega) (by omega)).trans ((hw1 _ (by omega)).trans (t7 v hv))
    have hsens : getF (settle x) TMG.TRIP.SENSORS = getF w TMG.TRIP.SENSORS := (htmg _ (by decide) (by decide)).trans (hw1 _ (by decide))
    refine ⟨(hcmp _ (by omega)).trans hset, (getB_congr (htmg _ (by decide) (by decide))).trans hw2,
      (getB_congr ((htmg _ (by decide) (by decide)).trans (hw1 _ (by decide)))).trans t1,
      (htmg _ (by decide) (by decide)).trans ((hw1 _ (by decide)).trans t2), ?_, ?_, fun i hi => ?_, ?_, ?_⟩
    · rw [hk.phc]
      exact (congrArg (·.tripLow) hwp).trans t4
    · exact (hk.hold ((getB_congr (hw1 _ (by decide))).trans t1)).trans ((congrArg (·.holdAll) hwd).trans t5)
    · rw [hsens, t3, hcmp _ (by omega)]
      unfold bit
      rw [testBit_foldl_setBit, Nat.zero_testBit, Bool.or_false]
      unfold trippedIn
      by_cases ht : isTripped u (8 * r + i) = true
      · rw [ht]; exact decide_eq_true (List.mem_filter.2 ⟨List.mem_range.2 hi, ht⟩)
      · rw [Bool.eq_false_iff.2 ht]
        exact decide_eq_false fun hmem => ht (List.mem_filter.1 hmem).2
    · rw [hsens]
      exact messageWaits_of_sub (t6 hroom2) fun y hy => hk.inbox y (by rw [hwi]; exact hy)
    · have hseq : seqState (settle x) = seqState w := (hk.regs _ (.inl ⟨by decide, by decide⟩)).trans (hw1 _ (by decide))
      rw [hseq]
      exact t8
  · exact answers_untouched ha (exec_tripComparator ..) hwf (tripComparator_idle h)
  · refine answers_of ha (exec_tripComparatorRelease ..) (by simp [Instr.wf, hr, hn]) ?_
    have hclr := isTripped_tripClear (8 * r + n) a (8 * r + n)
    rw [decide_eq_true rfl] at hclr
    obtain ⟨r1, r2, r3, r4, r5, r6, r7⟩ := tripRelease_shown hr hn a
    generalize tripRelease r n a = x at *
    have hx : noEnd x := noEnd_congr hnoend r1
    have hcmp : ∀ d < 512, isTripped (settle x) d = isTripped x d := fun d hd =>
      isTripped_congr (fun w hw => getF_settle x hx (tripcmp_kept w hw).2) hd
    have hce : thermCeil (settle x) = thermCeil x := getF_settle x hx (by decide)
    rw [hcmp _ (by omega), anyTripped_congr hcmp, twoTripped_congr hcmp, settle_phc hx, getB_settle x hx (by decide), getB_settle x hx (by decide), hce,
      unitsSame_settle hx]
    refine ⟨(r2 _ (by omega)).trans hclr, r3, r4, r5, r6, fun h => ⟨(r7 h).1, fieldsBut_settle hx (r7 h).2⟩⟩
end

section
/-! SUPPORT. Frames of the recorder and the collector. -/

namespace Sys2Proof.Machine

section
variable {L : List Part} {lo : Nat} {z s : State}

theorem sramStore_agree (w : Nat) (n : Nat) (hL : Within [.cmd] L) (hlo : lo ≤ 0x1a01310) (hz : Agree L lo z s) : Agree L lo z (sramStore
    w n s) := by
  unfold sramStore
  with_reducible repeat' (first
      | assumption | exact .inl rfl | exact .inl ⟨rfl, rfl, rfl, rfl, rfl⟩ | exact .inl ⟨rfl, rfl⟩ | exact .inr (hL.mem (by decide))
      | apply injectAt_agree | simp only [agree_mk_eq] | apply mk_agree)

theorem safeAsk_agree (cause : Nat) (hL : Within [.sta] L) (hz : Agree L lo z s) : Agree L lo z (safeAsk cause s) := by
  unfold safeAsk
  with_reducible repeat' (first
      | assumption | exact .inl ⟨rfl, rfl⟩ | apply setSta_agree | split)

theorem setRingSt_agree (q : Nat) (x : Nat) (hlo : lo ≤ 0x1820300) (hz : Agree L lo z s) : Agree L lo z (setRingSt q x s) := by
  unfold setRingSt
  with_reducible repeat' (first
      | assumption | apply setF_agree | exact hlo.trans (by decide) | (simp only [CMD.RING_STATUS.STATE, fld]; omega))

theorem pktDrop_agree (id : Nat) (hL : Within [.cmd] L) (hz : Agree L lo z s) : Agree L lo z (pktDrop id s) := by
  unfold pktDrop
  with_reducible repeat' (first
      | assumption | apply setCmd_agree)

theorem ringRoom_agree (q : Nat) (hlo : lo ≤ 0x1820300) (hz : Agree L lo z s) : Agree L lo z (ringRoom q s) := by
  unfold ringRoom
  with_reducible repeat' (first
      | assumption | apply setRingSt_agree | split)

theorem raiseVec_agree (v : Nat) (hL : Within [.cmd] L) (hz : Agree L lo z s) : Agree L lo z (raiseVec v s) := by
  unfold raiseVec
  with_reducible repeat' (first
      | assumption | apply setCmd_agree)

theorem complete_agree (q : Nat) (seq : Nat) (status : Nat) (applied : Nat) (detail : Nat) (irq : Bool) (hL : Within [.cmd] L) (hlo : lo ≤
    0x1820280) (hz : Agree L lo z s) : Agree L lo z (complete q seq status applied detail irq s) := by
  unfold complete
  with_reducible repeat' (first
      | assumption | exact .inl rfl | exact .inl ⟨rfl, rfl, rfl, rfl, rfl⟩ | exact .inl ⟨rfl, rfl⟩
      | apply setCmd_agree | apply setF_agree | apply sramStore_agree | apply raiseVec_agree | split | simp only [agree_mk_eq]
      | apply mk_agree | exact Within.of (by decide) hL | exact hlo.trans (by decide)
      | (simp only [CMD.RING_CQ_TAIL.CQ_TAIL, CMD.LAST_APPLIED.SEQ, fld]; omega))

theorem pktComplete_agree (p : OutPkt) (status : Nat) (applied : Nat) (detail : Nat) (hL : Within [.cmd] L) (hlo : lo ≤ 0x1820280) (hz :
    Agree L lo z s) : Agree L lo z (pktComplete p status applied detail s) := by
  unfold pktComplete
  with_reducible repeat' (first
      | assumption | apply ringRoom_agree | apply complete_agree | apply pktDrop_agree | exact Within.of (by decide) hL
      | exact hlo.trans (by decide))

theorem epochRec_agree (reason : Nat) (hL : Within [.evr] L) (hlo : lo ≤ 0x1a00100) (hz : Agree L lo z s) : Agree L lo z (epochRec reason
    s) := by
  unfold epochRec
  with_reducible repeat' (first
      | assumption | apply storeRec_agree | apply setEvr_agree)

theorem lossSeen_agree (n : Nat) (reason : Nat) (hL : Within [.msgs] L) (hlo : lo ≤ 0x1a00081) (hz : Agree L lo z s) : Agree L lo z
    (lossSeen n reason s) := by
  unfold lossSeen
  with_reducible repeat' (first
      | assumption | apply sendFault_agree | apply setB_agree | exact Within.of (by decide) hL | exact hlo.trans (by decide))

theorem openGran_agree (hL : Within [.evr] L) (hz : Agree L lo z s) : Agree L lo z (openGran s) := by
  unfold openGran
  with_reducible repeat' (first
      | assumption | apply addLost_agree | apply setEvr_agree | split)

theorem roomFor_agree (n : Nat) (hL : Within [.evr] L) (hlo : lo ≤ 0x1a00100) (hz : Agree L lo z s) : Agree L lo z (roomFor n s) := by
  unfold roomFor
  with_reducible repeat' (first
      | assumption | apply epochRec_agree | apply openGran_agree | apply closeGran_agree | split | simp only)

theorem watchHits_agree (q : Nat) (typ : Nat) (ev : Nat) (hL : Within [.evr] L) (hlo : lo ≤ 0x1a00510) (hz : Agree L lo z s) : Agree L lo
    z (watchHits q typ ev s) := by
  unfold watchHits
  with_reducible repeat' (first
      | assumption | exact .inl rfl | exact .inl ⟨rfl, rfl, rfl, rfl, rfl⟩ | exact .inl ⟨rfl, rfl⟩
      | apply incF_agree | apply setEvr_agree | apply foldl_agree | split | (intro _) | simp only | apply mk_agree
      | exact Within.of (by decide) hL | exact hlo.trans (by decide))

theorem putRec_agree (typ : Nat) (ev : Nat) (body : List Nat) (hL : Within [.evr] L) (hlo : lo ≤ 0x1a00100) (hz : Agree L lo z s) : Agree
    L lo z (putRec typ ev body s) := by
  unfold putRec
  with_reducible repeat' (first
      | assumption | apply roomFor_agree | apply watchHits_agree | apply storeRec_agree | exact Within.of (by decide) hL
      | exact hlo.trans (by decide))

theorem inputLoss_agree (hL : Within [.msgs, .evr] L) (hlo : lo ≤ 0x1a00081) (hz : Agree L lo z s) : Agree L lo z (inputLoss s) := by
  unfold inputLoss
  with_reducible repeat' (first
      | assumption | exact .inl rfl | exact .inl ⟨rfl, rfl, rfl, rfl, rfl⟩ | exact .inl ⟨rfl, rfl⟩
      | apply lossSeen_agree | apply putRec_agree | split | simp only [agree_mk_eq] | apply mk_agree | exact Within.of (by decide) hL
      | exact hlo.trans (by decide))

theorem markDone_agree (a : Arrival) (detail : Nat) (hL : Within [.cmd] L) (hlo : lo ≤ 0x1820280) (hz : Agree L lo z s) : Agree L lo z
    (markDone a detail s) := by
  unfold markDone
  with_reducible repeat' (first
      | assumption | apply pktComplete_agree | split)

theorem takeRec_agree (a : Arrival) (hL : Within [.cmd, .evr] L) (hlo : lo ≤ 0x1820280) (hz : Agree L lo z s) : Agree L lo z (takeRec a s)
    := by
  unfold takeRec
  with_reducible repeat' (first
      | assumption | exact .inl rfl | exact .inl ⟨rfl, rfl, rfl, rfl, rfl⟩ | exact .inl ⟨rfl, rfl⟩
      | apply markDone_agree | apply freeNext_agree | apply incF_agree | apply roomFor_agree | apply putRec_agree | split
      | simp only [agree_mk_eq] | apply mk_agree | exact Within.of (by decide) hL | exact hlo.trans (by decide))

theorem acceptRec_agree (a : Arrival) (hL : Within [.msgs, .cmd, .evr] L) (hlo : lo ≤ 0x1820280) (hz : Agree L lo z s) : Agree L lo z
    (acceptRec a s) := by
  unfold acceptRec
  with_reducible repeat' (first
      | assumption | apply inputLoss_agree | apply takeRec_agree | exact Within.of (by decide) hL | exact hlo.trans (by decide))

theorem ownRec_agree (typ : Nat) (body : List Nat) (hL : Within [.msgs] L) (hlo : lo ≤ 0x1a00500) (hz : Agree L lo z s) : Agree L lo z
    (ownRec typ body s) := by
  unfold ownRec
  with_reducible repeat' (first
      | assumption | apply postRec_agree | exact Within.of (by decide) hL | exact hlo.trans (by decide))

theorem snapWrite_agree (n : Snap) (hL : Within [.msgs] L) (hlo : lo ≤ 0x1a00500) (hz : Agree L lo z s) : Agree L lo z (snapWrite n s) :=
    by
  unfold snapWrite
  with_reducible repeat' (first
      | assumption | apply ownRec_agree | split)

theorem snapRead_agree (peek : State → Nat → Nat) (w : Nat) (m : Nat) (hL : Within [.msgs, .evr] L) (hlo : lo ≤ 0x1a00500) (hz : Agree L
    lo z s) : Agree L lo z (snapRead peek w m s) := by
  unfold snapRead
  with_reducible repeat' (first
      | assumption | exact .inl rfl | exact .inl ⟨rfl, rfl, rfl, rfl, rfl⟩ | exact .inl ⟨rfl, rfl⟩
      | apply setEvr_agree | apply snapWrite_agree | split | simp only | apply mk_agree | exact Within.of (by decide) hL)

theorem faultFlush_agree (hL : Within [.msgs, .evr] L) (hlo : lo ≤ 0x1a00080) (hz : Agree L lo z s) : Agree L lo z (faultFlush s) := by
  unfold faultFlush
  with_reducible repeat' (first
      | assumption | exact .inl rfl | exact .inl ⟨rfl, rfl, rfl, rfl, rfl⟩ | exact .inl ⟨rfl, rfl⟩
      | apply setB_agree | apply flushBegin_agree | apply setEvr_agree | split | simp only | apply mk_agree
      | exact Within.of (by decide) hL | exact hlo.trans (by decide))

theorem overflowMsg_agree (hL : Within [.msgs] L) (hlo : lo ≤ 0x1a01081) (hz : Agree L lo z s) : Agree L lo z (overflowMsg s) := by
  unfold overflowMsg
  with_reducible repeat' (first
      | assumption | exact .inl rfl | exact .inl ⟨rfl, rfl, rfl, rfl, rfl⟩ | exact .inl ⟨rfl, rfl⟩
      | apply sendFault_agree | split | simp only [agree_mk_eq] | apply mk_agree | exact Within.of (by decide) hL
      | exact hlo.trans (by decide))

theorem showSevere_agree (hlo : lo ≤ 0x1a01084) (hz : Agree L lo z s) : Agree L lo z (showSevere s) := by
  unfold showSevere
  with_reducible repeat' (first
      | assumption | apply setB_agree | apply setF_agree | exact hlo.trans (by decide))

theorem severeAct_agree (action : Nat) (hL : Within [.msgs, .sta, .cmd, .evr] L) (hlo : lo ≤ 0x1a00080) (hz : Agree L lo z s) : Agree L lo
    z (severeAct action s) := by
  unfold severeAct
  with_reducible repeat' (first
      | assumption | exact .inl rfl | exact .inl ⟨rfl, rfl, rfl, rfl, rfl⟩ | exact .inl ⟨rfl, rfl⟩
      | apply raiseVec_agree | apply faultFlush_agree | apply safeAsk_agree | split | simp only [agree_mk_eq] | apply mk_agree
      | exact Within.of (by decide) hL)

theorem makeSevere_agree (src : Nat) (kind : Nat) (word : Nat) (ageMs : Nat) (hL : Within [.msgs, .sta, .cmd, .evr, .flc] L) (hlo : lo ≤
    0x1a00080) (hz : Agree L lo z s) : Agree L lo z (makeSevere src kind word ageMs s) := by
  unfold makeSevere
  with_reducible repeat' (first
      | assumption | apply showSevere_agree | apply setF_agree | apply putRec_agree | apply severeAct_agree | apply setFlc_agree
      | exact Within.of (by decide) hL | exact hlo.trans (by decide) | (simp only [FLC.SEVERE.SEVERE, fld]; omega))

theorem takeMsg_agree (a : Arrival) (word : Nat) (hL : Within [.flc] L) (hlo : lo ≤ 0x1600590) (hz : Agree L lo z s) : Agree L lo z
    (takeMsg a word s) := by
  unfold takeMsg
  with_reducible repeat' (first
      | assumption | exact .inl rfl | exact .inl ⟨rfl, rfl, rfl, rfl, rfl⟩ | exact .inl ⟨rfl, rfl⟩
      | apply incF_agree | apply setFlc_agree | apply setF_agree | split | simp only [agree_mk_eq] | apply mk_agree
      | exact Within.of (by decide) hL | exact hlo.trans (by decide))

theorem snapFinish_agree (hL : Within [.msgs, .evr] L) (hlo : lo ≤ 0x1a00500) (hz : Agree L lo z s) : Agree L lo z (snapFinish s) := by
  unfold snapFinish
  with_reducible repeat' (first
      | assumption | apply snapRead_agree | apply foldl_agree | (intro _))

end

end Sys2Proof.Machine
end

section
/-! SUPPORT. What the collector and the recorder leave of the sequencer while they take what waits (R383). -/

namespace Sys2Proof.Machine

/-- The registers of the sequencer and of the thermal manager stand, with the sequencer's inputs and its next step. -/
structure SeqHolds (s t : State) : Prop where
  regs : ∀ f : Fld, seqKey f.key → getF t f = getF s f
  phc : t.phc.pwrFailN = s.phc.pwrFailN ∧ t.phc.goodAt = s.phc.goodAt ∧ t.phc.due = s.phc.due

theorem EndKeeps.holds {s t : State} (h : EndKeeps s t) : SeqHolds s t := ⟨h.regs, by rw [h.phc]; exact ⟨rfl, rfl, rfl⟩⟩

namespace SeqHolds

variable {s t u : State}

theorem refl (s : State) : SeqHolds s s := ⟨fun _ _ => rfl, rfl, rfl, rfl⟩

theorem trans (h : SeqHolds s t) (h2 : SeqHolds t u) : SeqHolds s u :=
  ⟨fun f hf => (h2.regs f hf).trans (h.regs f hf), h2.phc.1.trans h.phc.1, h2.phc.2.1.trans h.phc.2.1, h2.phc.2.2.trans h.phc.2.2⟩

theorem of_agree {L : List Part} {lo : Nat} (hp : Part.phc ∉ L) (hlo : 32 * 0x90000 ≤ lo) (h : Agree L lo s t) : SeqHolds s t := by
  refine ⟨fun f hf => h.fields f ?_, by rw [h.phc hp]; exact ⟨rfl, rfl, rfl⟩⟩
  unfold seqKey at hf
  omega

theorem of_parts (hr : t.regs = s.regs) (hp : t.phc = s.phc) : SeqHolds s t := ⟨fun f _ => getF_congr hr f, by rw [hp]; exact ⟨rfl, rfl, rfl⟩⟩

end SeqHolds

theorem retarget_inputs (k tgt d : Nat) (s : State) : (retarget k tgt d s).phc.pwrFailN = s.phc.pwrFailN ∧
    (retarget k tgt d s).phc.goodAt = s.phc.goodAt ∧ (retarget k tgt d s).phc.due = s.phc.due := by
  unfold retarget deExit
  dsimp only
  split
  · exact ⟨rfl, rfl, rfl⟩
  · split
    · split <;> exact ⟨rfl, rfl, rfl⟩
    · exact ⟨rfl, rfl, rfl⟩

theorem applySel_inputs (k sel : Nat) (s : State) : (applySel k sel s).phc.pwrFailN = s.phc.pwrFailN ∧
    (applySel k sel s).phc.goodAt = s.phc.goodAt ∧ (applySel k sel s).phc.due = s.phc.due := by
  unfold applySel
  extract_lets s1 tgt f lower settled src s2
  split
  · split
    · exact retarget_inputs k tgt 0 s1
    · exact ⟨rfl, rfl, rfl⟩
  · split
    · exact retarget_inputs 0 tgt _ s2
    · exact ⟨rfl, rfl, rfl⟩

theorem applySelect_inputs (k sel : Nat) (s : State) : (applySelect k sel s).phc.pwrFailN = s.phc.pwrFailN ∧
    (applySelect k sel s).phc.goodAt = s.phc.goodAt ∧ (applySelect k sel s).phc.due = s.phc.due := by
  obtain ⟨h1, h2, h3⟩ := applySel_inputs k sel s
  unfold applySelect
  generalize applySel k sel s = u at *
  unfold softRetarget
  dsimp only
  split
  · exact ⟨h1, h2, h3⟩
  · split <;> exact ⟨h1, h2, h3⟩

theorem safeEntry_keys : ∀ f ∈ safeEntryFields, ¬ ((32 * 0x60400 ≤ f.key ∧ f.key < 32 * 0x60440) ∨ (32 * 0x80000 ≤ f.key ∧ f.key < 32 * 0x90000)) := by
  decide

theorem safeLowered_inputs (cause : Nat) (s : State) : (safeLowered cause s).phc.pwrFailN = s.phc.pwrFailN ∧
    (safeLowered cause s).phc.goodAt = s.phc.goodAt ∧ (safeLowered cause s).phc.due = s.phc.due := by
  have h : (safeTold cause s).phc = s.phc := by
    unfold safeTold
    have h1 : (sendFault 0xA3 0xA20 cause (safeNoted cause s)).phc = s.phc := sendFault_phc ..
    have h2 := (event_phc 0x0A05 [cause] (sendFault 0xA3 0xA20 cause (safeNoted cause s))).trans h1
    have h3 := (fixedCheck_agree (L := [.msgs]) (lo := 0) (.self _) (Nat.zero_le _) (.refl _ _ (lgvSafe (event 0x0A05 [cause]
      (sendFault 0xA3 0xA20 cause (safeNoted cause s)))))).phc (by decide)
    have h4 := (lgvSafe_agree (L := [.drg, .lgv]) (lo := 0) (.self _) (Nat.zero_le _) (.refl _ _ (event 0x0A05 [cause]
      (sendFault 0xA3 0xA20 cause (safeNoted cause s))))).phc (by decide)
    exact h3.trans (h4.trans h2)
  unfold safeLowered
  generalize safeTold cause s = u at *
  split
  · rw [h]; exact ⟨rfl, rfl, rfl⟩
  · unfold safeSelect
    obtain ⟨a1, a2, a3⟩ := applySelect_inputs 0 0 u
    obtain ⟨-, r2, -⟩ := refreshRate_frame (applySelect 0 0 u)
    rw [h] at a1 a2 a3
    generalize applySelect 0 0 u = v at *
    generalize refreshRate v = w at *
    have hb : (boundShow w).phc = v.phc := r2
    rw [hb]
    exact ⟨a1, a2, a3⟩

theorem safeEnter_holds (cause : Nat) (s : State) : SeqHolds s (safeEnter cause s) := by
  by_cases h : safeOn s = true
  · unfold safeEnter
    rw [if_pos h]
    exact .of_parts rfl rfl
  · have hoff := Bool.eq_false_iff.2 h
    refine ⟨fun f hf => (safeEnter_shown (cause := cause) hoff).fields f (fun hm => ?_) (fun he => ?_), ?_⟩
    · obtain ⟨g, hg, he⟩ := List.mem_map.1 hm
      exact safeEntry_keys g hg (by rw [he]; exact hf)
    · exact absurd hf (by rw [he]; unfold seqKey; decide)
    · obtain ⟨l1, l2, l3⟩ := safeLowered_inputs cause s
      rw [safeEnter_eq hoff]
      generalize safeLowered cause s = u at *
      split <;> exact ⟨l1, l2, l3⟩

theorem selfFault_holds (info : Nat) (s : State) : SeqHolds s (selfFault info s) := by
  unfold selfFault
  split
  · exact .refl s
  · extract_lets s1 q src s2
    have h1 : SeqHolds s s1 := ((EndKeeps.refl s).setB FLC.STATUS.SELF_FAULT true (by unfold seqKey; decide)).setB FLC.STATUS.HB_RUN false
      (by unfold seqKey; decide) |>.holds
    have h2 : SeqHolds s s2 := h1.trans (.of_parts rfl rfl)
    have h3 := h2.trans (.of_agree (L := [.evr]) (lo := 0x1a00100) (by decide) (by decide)
      (putRec_agree recFault 0xD2 (toLE 8 (msgWord 0xD10 0xD2 (info % 2 ^ 32) q)) (.self _) le_rfl (.refl _ _ s2)))
    refine (h3.trans (safeEnter_holds 2 _)).trans (.of_agree (L := [.msgs, .evr]) (lo := 0x1a00080) (by decide) (by decide)
      (flushBegin_agree 2 (.self _) le_rfl (.refl ..)))

theorem countMsg_holds (src kind word : Nat) (s : State) : SeqHolds s (countMsg src kind word s) := by
  unfold countMsg
  split
  · exact .refl s
  · split
    · exact selfFault_holds src s
    · have hi : SeqHolds s (injectAt 8 0 [] s).1 := .of_agree (L := []) (lo := 0x1a01310) (by decide) (by decide) (injectAt_agree 8 0 [] le_rfl (.refl ..))
      generalize injectAt 8 0 [] s = p at hi
      obtain ⟨s0, e⟩ := p
      dsimp -zeta only
      extract_lets now fresh c st src2 f s1
      have h1 : SeqHolds s s1 := hi.trans (.of_parts rfl rfl)
      split
      · exact h1.trans (.of_agree (L := [.msgs, .sta, .cmd, .evr, .flc]) (lo := 0x1a00080) (by decide) (by decide)
          (makeSevere_agree src kind word _ (.self _) le_rfl (.refl ..)))
      · exact h1

theorem faultMessage_holds (s : State) : SeqHolds s (faultMessage s) := by
  unfold faultMessage
  split
  · exact .refl s
  · next a r hi =>
    split
    · exact .refl s
    · extract_lets word s1
      have h1 : SeqHolds s s1 := by
        refine SeqHolds.trans (t := overflowMsg { s with inbox := r }) (.trans (t := { s with inbox := r }) (.of_parts rfl rfl) ?_) ?_
        · exact .of_agree (L := [.msgs]) (lo := 0x1a01081) (by decide) (by decide) (overflowMsg_agree (.self _) le_rfl (.refl ..))
        · exact .of_agree (L := [.flc]) (lo := 0x1600590) (by decide) (by decide) (takeMsg_agree a word (.self _) le_rfl (.refl ..))
      refine (h1.trans ?_).trans (countMsg_holds _ _ _ _)
      exact .of_agree (L := [.evr]) (lo := 0x1a00100) (by decide) (by decide) (putRec_agree recFault a.kind (toLE 8 word) (.self _) le_rfl (.refl ..))

theorem recordPost_holds (s : State) : SeqHolds s (recordPost s) := by
  unfold recordPost
  split
  · next a r hi =>
    split
    · refine SeqHolds.trans (t := { s with inbox := r }) (.of_parts rfl rfl) ?_
      exact .of_agree (L := [.msgs, .cmd, .evr]) (lo := 0x1820280) (by decide) (by decide) (acceptRec_agree a (.self _) le_rfl (.refl ..))
    · exact .refl s
  · exact .refl s

theorem drain_holds (n : Nat) (s : State) : SeqHolds s (drain n s) := by
  induction n generalizing s with
  | zero => exact .refl s
  | succ n ih =>
    unfold drain
    split
    · exact .refl s
    · split
      · exact (recordPost_holds s).trans (ih _)
      · exact (faultMessage_holds s).trans (ih _)

/-- What the recorder's part of a power failure leaves. -/
theorem powerFail_holds {s : State} (h : s.phc.pwrFailN = true) : SeqHolds (pwrFailFall s) (settle (powerFail s)) := by
  unfold powerFail
  rw [h]
  dsimp only
  rw [if_neg (by decide)]
  generalize pwrFailFall s = u
  have h1 : SeqHolds u (snapFinish u) := .of_agree (L := [.msgs, .evr]) (lo := 0x1a00500) (by decide) (by decide)
    (snapFinish_agree (.self _) le_rfl (.refl ..))
  have h2 := h1.trans (.of_agree (L := [.msgs]) (lo := 0x1a00500) (by decide) (by decide)
    (ownRec_agree recPower (toLE 8 s.time.sys) (.self _) le_rfl (.refl _ _ (snapFinish u))))
  generalize ownRec recPower (toLE 8 s.time.sys) (snapFinish u) = v at *
  have h3 := h2.trans (drain_holds (v.inbox.length + 512) v)
  generalize drain (v.inbox.length + 512) v = w at *
  exact (h3.trans (.of_agree (L := [.msgs, .evr]) (lo := 0x1a00080) (by decide) (by decide)
    (flushBegin_agree 5 (.self _) le_rfl (.refl ..)))).trans (settle_keeps _).holds

end Sys2Proof.Machine
end

section
/-! SUPPORT. The ramped stop and the fault stop (R217, R225). -/

namespace Sys2Proof.Machine

/-- A rail that enters STOPPING: its own fields alone change. -/
structure RailStopping (k : Nat) (s t : State) : Prop where
  frame : SeqFrame s t
  moved : RailsMoved s t
  state : railSt t k = rsStop
  fields : ∀ f : Fld, f.key ≠ (PHC.RAIL_SEQ.STATE k).key → f.key ≠ (PHC.RAIL_STATUS.DE k).key → getF t f = getF s f
  sta : t.sta = s.sta
  inbox : t.inbox = s.inbox

theorem enterStopping_shown {k : Nat} (hk : k < 4) (s : State) : RailStopping k s (enterStopping k s) := by
  obtain ⟨m1, m2, m3, m4⟩ := seqFields_mem hk
  have hkeys := railKeys k
  have hp : SeqFrame s (phasesStop k s) ∧ RailsMoved s (phasesStop k s) ∧ (phasesStop k s).regs = s.regs ∧ (phasesStop k s).sta = s.sta ∧
      (phasesStop k s).inbox = s.inbox := by
    unfold phasesStop
    dsimp only
    refine List.foldlRecOn (motive := fun u => SeqFrame s u ∧ RailsMoved s u ∧ u.regs = s.regs ∧ u.sta = s.sta ∧ u.inbox = s.inbox) _ _
      ?_ fun u ⟨h1, h2, h3, h4, h5⟩ n _ => ⟨h1.setPhase n _, h2.setPhase n _, h3, h4, h5⟩
    exact List.foldlRecOn (motive := fun u => SeqFrame s u ∧ RailsMoved s u ∧ u.regs = s.regs ∧ u.sta = s.sta ∧ u.inbox = s.inbox) _ _
      ⟨.refl s, .refl s, rfl, rfl, rfl⟩ fun u ⟨h1, h2, h3, h4, h5⟩ n _ => ⟨h1.setPhase n _, h2.setPhase n _, h3, h4, h5⟩
  obtain ⟨p1, p2, p3, p4, p5⟩ := hp
  unfold enterStopping
  extract_lets x s1 tracks s2 s3
  have hs1 : s1 = phasesStop k s := rfl
  clear_value s1
  rw [← hs1] at p1 p2 p3 p4 p5
  have h1 : SeqFrame s s3 := (((p1.setRail k _).setF _ _ m1).setB _ _ m4)
  have h2 : RailsMoved s s3 := (p2.setRail k _).of_phc rfl
  have h3 : railSt s3 k = rsStop :=
    (getF_setF_ne (setRailSt k rsStop s2) _ (by omega)).trans ((getF_setF_self s2 ..).trans (Nat.mod_eq_of_lt (show rsStop < 8 by decide)))
  have h4 : ∀ f : Fld, f.key ≠ (PHC.RAIL_SEQ.STATE k).key → f.key ≠ (PHC.RAIL_STATUS.DE k).key → getF s3 f = getF s f := fun f e1 e2 =>
    (getF_setF_ne (setRailSt k rsStop s2) _ e2).trans ((getF_setF_ne s2 _ e1).trans (getF_congr p3 f))
  have h5 : s3.sta = s.sta := p4
  have h6 : s3.inbox = s.inbox := p5
  clear_value s3
  split
  · have hv : SeqFrame s { s3 with phc := { s3.phc with burst := none, rearm := 0, ocBurst := [] } } :=
      ⟨h1.fields, h1.time, h1.drg, h1.tripLow, h1.levels, h1.inbox⟩
    refine ⟨hv.regate, ?_, h3, h4, h5, h6⟩
    unfold RailsMoved at *
    show ({ s3.phc with burst := none, rearm := 0, ocBurst := [] } : PhcState) = _
    rw [h2]
    rfl
  · exact ⟨h1, h2, h3, h4, h5, h6⟩

theorem RailStopping.others {k : Nat} {s t : State} (h : RailStopping k s t) {j : Nat} (hj : j < 4) (hk : k < 4) (hne : j ≠ k) :
    railSt t j = railSt s j := by
  have h1 := railKeys k
  have h2 := railKeys j
  exact h.fields _ (by omega) (by omega)

/-- A stop proceeds: a rail that is not driven, and not stopping, keeps its state; the sequencer keeps its own or is IDLE. -/
structure StopShown (s t : State) : Prop where
  frame : SeqFrame s t
  rails : ∀ j < 4, canStop s j = false → railSt t j = railSt s j
  seq : seqState t = seqState s ∨ seqState t = sqIdle
  latched : getF t PHC.LATCH.LATCHED = getF s PHC.LATCH.LATCHED
  cause : ∀ j < 4, getF t (PHC.RAIL_SEQ.CAUSE j) = getF s (PHC.RAIL_SEQ.CAUSE j)
  sta : t.sta = s.sta

theorem stopDone_shown (s : State) : StopShown s (stopDone s) ∧ seqState (stopDone s) = sqIdle ∧ getB (stopDone s) PHC.SEQ_STATUS.BUS_EN = false ∧
    (roomRec s → eventWaits 0x0605 (stopDone s)) := by
  obtain ⟨i1, i2, i3, i4, i5, i6⟩ := seqIdled_shown s
  have hin : (seqIdled s).inbox = s.inbox := rfl
  have he : stopDone s = event 0x0605 (railStates (seqIdled s)) (seqIdled s) := rfl
  have hev : roomRec s → eventWaits 0x0605 (stopDone s) := fun hr => by
    rw [he]
    exact eventWaits_event (roomRec_congr hin hr)
  have hg : ∀ f : Fld, f.key ≠ EVR.COUNTS.DROPPED.key → getF (stopDone s) f = getF (seqIdled s) f := fun f hf => by
    rw [he]
    exact getF_event _ _ _ hf
  have hfr : SeqFrame s (stopDone s) := by
    rw [he]
    exact i1.event _ _
  have hsta : (stopDone s).sta = s.sta := by
    rw [he]
    exact (event_sta ..).trans i6
  generalize stopDone s = t at *
  generalize seqIdled s = u at *
  have hd : EVR.COUNTS.DROPPED.key = 0x1a00500 := rfl
  refine ⟨⟨hfr, fun j hj _ => ?_, .inr ((hg _ (by decide)).trans i2), (hg _ (by decide)).trans (i4 _ (by decide) (by decide)), fun j hj => ?_, hsta⟩,
    (hg _ (by decide)).trans i2, (getB_congr (hg _ (by decide))).trans i3, hev⟩
  · have hk := railKeys j
    exact (hg _ (by omega)).trans (i4 _ (by omega) (by omega))
  · have hk := railKeys j
    exact (hg _ (by omega)).trans (i4 _ (by omega) (by omega))

theorem StopShown.refl (s : State) : StopShown s s := ⟨.refl s, fun _ _ _ => rfl, .inl rfl, rfl, fun _ _ => rfl, rfl⟩

theorem RailStopping.stop {k : Nat} (hk : k < 4) {s u t : State} (hs : StopShown s u) (h : RailStopping k u t) (hc : canStop s k = true) :
    StopShown s t := by
  have hkeys := railKeys k
  refine ⟨hs.frame.trans h.frame, fun j hj hcj => ?_, ?_, (h.fields _ (by omega) (by omega)).trans hs.latched, fun j hj => ?_, h.sta.trans hs.sta⟩
  · have hne : j ≠ k := fun he => by rw [he, hc] at hcj; exact absurd hcj (by decide)
    exact (h.others hj hk hne).trans (hs.rails j hj hcj)
  · have he : seqState t = seqState u := h.fields _ (by omega) (by omega)
    rw [he]
    exact hs.seq
  · have hj2 := railKeys j
    exact (h.fields _ (by omega) (by omega)).trans (hs.cause j hj)

/-- A rail that stops in the slot of its leader. -/
theorem RailStopping.follows {k : Nat} {s t : State} (h : RailStopping k s t) (x : Rail) : RailStopping k s (setRail t k x) :=
  ⟨h.frame.setRail k x, h.moved.setRail k x, h.state, h.fields, h.sta, h.inbox⟩

theorem stopNext_shown (s : State) : StopShown s (stopNext s) := by
  unfold stopNext
  split
  · exact .refl s
  · split
    · next k hk =>
      have hk4 : k < 4 := stopOrder_lt (List.mem_of_find?_eq_some hk)
      have hc : canStop s k = true := by
        have := List.find?_some hk
        simp only [Bool.and_eq_true] at this
        exact this.1.2
      have h0 := RailStopping.stop hk4 (.refl s) (enterStopping_shown hk4 s) hc
      refine List.foldlRecOn (motive := StopShown s) _ _ h0 fun u hu j hj => ?_
      obtain ⟨hj4, hjc⟩ := List.mem_filter.1 hj
      simp only [Bool.and_eq_true] at hjc
      exact RailStopping.stop (lt_of_mem_rails4 hj4) hu ((enterStopping_shown (lt_of_mem_rails4 hj4) u).follows _) hjc.1.2
    · split
      · exact .refl s
      · exact (stopDone_shown s).1

theorem stopNext_last {s : State} (h : ∀ j < 4, railSt s j = rsOff ∨ railSt s j = rsLatch) (h4 : s.phc.stop ≠ 4) : stopNext s = stopDone s := by
  have hst : ∀ j < 4, canStop s j = false ∧ (railSt s j == rsStop) = false := fun j hj => by
    unfold canStop pastSoft
    rcases h j hj with h | h <;> rw [h] <;> exact ⟨rfl, rfl⟩
  unfold stopNext
  rw [if_neg, List.find?_eq_none.2 fun k hk => ?_]
  · dsimp only
    rw [if_neg h4]
  · rw [(hst k (stopOrder_lt hk)).1]
    simp
  · rw [Bool.not_eq_true, List.any_eq_false]
    intro k hk
    rw [(hst k (lt_of_mem_rails4 hk)).2]
    decide

/-- Waiting and probed rails go straight off; the others keep their states. -/
structure WaitersGone (s t : State) : Prop where
  frame : SeqFrame s t
  rails : ∀ j < 4, railSt s j ≠ rsWait → railSt s j ≠ rsProbe → railSt t j = railSt s j
  seq : seqState t = seqState s
  latched : getF t PHC.LATCH.LATCHED = getF s PHC.LATCH.LATCHED
  cause : ∀ j < 4, getF t (PHC.RAIL_SEQ.CAUSE j) = getF s (PHC.RAIL_SEQ.CAUSE j)
  stop : t.phc.stop = s.phc.stop

theorem waitersOff_shown (s : State) : WaitersGone s (waitersOff s) := by
  unfold waitersOff
  refine List.foldlRecOn (motive := WaitersGone s) _ _ ⟨.refl s, fun _ _ _ _ => rfl, rfl, rfl, fun _ _ => rfl, rfl⟩ fun u hu k hk => ?_
  obtain ⟨hk4, hkw⟩ := List.mem_filter.1 hk
  have hk4 := lt_of_mem_rails4 hk4
  have hkeys := railKeys k
  have hg := railOff_shown (st := rsOff) hk4 (by decide) u
  obtain ⟨h1, h2, h3, h4, h5, h6⟩ := hu
  refine ⟨h1.trans hg.frame, fun j hj e1 e2 => ?_, (hg.fields _ (by omega) (by omega) (by omega)).trans h3,
    (hg.fields _ (by omega) (by omega) (by omega)).trans h4, fun j hj => ?_, hg.moved.own.1.trans h6⟩
  · have hne : j ≠ k := fun he => by
      rw [he] at e1 e2
      simp only [Bool.or_eq_true, beq_iff_eq] at hkw
      rcases hkw with hw | hw
      · exact e1 hw
      · exact e2 hw
    exact (hg.others hj hk4 hne).trans (h2 j hj e1 e2)
  · have hj2 := railKeys j
    exact (hg.fields _ (by omega) (by omega) (by omega)).trans (h5 j hj)

/-- What a start-up fault shows (R225): the rail is latched with its cause, and the others stop. -/
structure Latched (k kind cause info : Nat) (s t : State) : Prop where
  rail : railSt t k = rsLatch
  latched : bit (getF t PHC.LATCH.LATCHED) k = true
  cause : getF t (PHC.RAIL_SEQ.CAUSE k) = cause
  told : roomMsg s → messageWaits kind (0x690 + k) info t
  seq : seqState t = sqFaultStop ∨ seqState t = sqIdle

/-- A rail latched with its cause, a rest state ended. -/
def railLatched (k kind cause info : Nat) (s : State) : State :=
  regate (restEnds (setF (setF (railOff k rsLatch (sendFault kind (0x690 + k) info s)) PHC.LATCH.LATCHED
    (setBit (getF (railOff k rsLatch (sendFault kind (0x690 + k) info s)) PHC.LATCH.LATCHED) k)) (PHC.RAIL_SEQ.CAUSE k) cause))

theorem startFault_eq (k kind cause info : Nat) (s : State) : startFault k kind cause info s =
    if seqState s = sqFaultStop then stopNext (railLatched k kind cause info s) else beginStop 2 (railLatched k kind cause info s) := rfl

theorem railLatched_shown {k kind cause info : Nat} (hk : k < 4) (hc : cause < 16) (s : State) :
    railSt (railLatched k kind cause info s) k = rsLatch ∧ bit (getF (railLatched k kind cause info s) PHC.LATCH.LATCHED) k = true ∧
    getF (railLatched k kind cause info s) (PHC.RAIL_SEQ.CAUSE k) = cause ∧
    (roomMsg s → messageWaits kind (0x690 + k) info (railLatched k kind cause info s)) ∧
    seqState (railLatched k kind cause info s) = seqState s := by
  have hkeys := railKeys k
  have hmsg : roomMsg s → messageWaits kind (0x690 + k) info (sendFault kind (0x690 + k) info s) := fun h => messageWaits_sendFault h
  have hseq : seqState (sendFault kind (0x690 + k) info s) = seqState s := getF_sendFault _ _ _ _ (by decide)
  unfold railLatched
  generalize sendFault kind (0x690 + k) info s = u at *
  have hg := railOff_shown (st := rsLatch) hk (by decide) u
  generalize railOff k rsLatch u = v at *
  have hv1 : railSt (setF (setF v PHC.LATCH.LATCHED (setBit (getF v PHC.LATCH.LATCHED) k)) (PHC.RAIL_SEQ.CAUSE k) cause) k = rsLatch :=
    (getF_setF_ne _ _ (by omega)).trans ((getF_setF_ne _ _ (by omega)).trans hg.state)
  have hv2 : bit (getF (setF (setF v PHC.LATCH.LATCHED (setBit (getF v PHC.LATCH.LATCHED) k)) (PHC.RAIL_SEQ.CAUSE k) cause) PHC.LATCH.LATCHED) k = true := by
    rw [getF_setF_ne _ _ (by omega)]
    exact bit_setF_setBit v PHC.LATCH.LATCHED hk
  have hv3 : getF (setF (setF v PHC.LATCH.LATCHED (setBit (getF v PHC.LATCH.LATCHED) k)) (PHC.RAIL_SEQ.CAUSE k) cause) (PHC.RAIL_SEQ.CAUSE k) = cause :=
    (getF_setF_self ..).trans (Nat.mod_eq_of_lt hc)
  have hv4 : seqState (setF (setF v PHC.LATCH.LATCHED (setBit (getF v PHC.LATCH.LATCHED) k)) (PHC.RAIL_SEQ.CAUSE k) cause) = seqState s :=
    (getF_setF_ne _ _ (by omega)).trans ((getF_setF_ne _ _ (by omega)).trans ((hg.fields _ (by omega) (by omega) (by omega)).trans hseq))
  have hv5 : (setF (setF v PHC.LATCH.LATCHED (setBit (getF v PHC.LATCH.LATCHED) k)) (PHC.RAIL_SEQ.CAUSE k) cause).inbox = u.inbox := hg.inbox
  generalize setF (setF v PHC.LATCH.LATCHED (setBit (getF v PHC.LATCH.LATCHED) k)) (PHC.RAIL_SEQ.CAUSE k) cause = w at *
  have hends : ∀ f : Fld, f.key ≠ STA.REST_STATUS.STATE.key → f.key ≠ STA.REST_STATUS.LAST.key → getF (regate (restEnds w)) f = getF w f := fun f e1 e2 =>
    (getF_congr (regate_regs _) f).trans (restEnds_regs w e1 e2)
  have hin : ∀ x ∈ w.inbox, x ∈ (regate (restEnds w)).inbox := (SeqFrame.refl w).restEnds.regate.inbox
  refine ⟨(hends _ (by omega) (by omega)).trans hv1, ?_, (hends _ (by omega) (by omega)).trans hv3, fun h => ?_, (hends _ (by omega) (by omega)).trans hv4⟩
  · rw [hends _ (by omega) (by omega)]
    exact hv2
  · exact messageWaits_of_sub (hmsg h) fun x hx => hin x (by rw [hv5]; exact hx)

theorem startFault_shown {k kind cause info : Nat} (hk : k < 4) (hc : cause < 16) (s : State) :
    Latched k kind cause info s (startFault k kind cause info s) := by
  obtain ⟨l1, l2, l3, l4, l5⟩ := railLatched_shown (kind := kind) (info := info) hk hc s
  have hcan : ∀ u, railSt u k = rsLatch → canStop u k = false := fun u hu => by
    unfold canStop pastSoft
    rw [hu]
    rfl
  rw [startFault_eq]
  generalize railLatched k kind cause info s = u at *
  split
  · next hq =>
    obtain ⟨s1, s2, s3, s4, s5, -⟩ := stopNext_shown u
    refine ⟨(s2 k hk (hcan u l1)).trans l1, by rw [s4]; exact l2, (s5 k hk).trans l3, fun h => messageWaits_of_sub (l4 h) s1.inbox, ?_⟩
    rw [l5, hq] at s3
    exact s3
  · have hw := waitersOff_shown (setStop 2 (setSeqState sqFaultStop u))
    have hq : seqState (setStop 2 (setSeqState sqFaultStop u)) = sqFaultStop := (getF_congr rfl _).trans (getF_setF_self u PHC.SEQ_STATUS.SEQ_STATE sqFaultStop)
    have hkeep : ∀ f : Fld, f.key ≠ PHC.SEQ_STATUS.SEQ_STATE.key → getF (setStop 2 (setSeqState sqFaultStop u)) f = getF u f := fun f hf =>
      (getF_congr rfl f).trans (getF_setF_ne u sqFaultStop hf)
    have hin : (setStop 2 (setSeqState sqFaultStop u)).inbox = u.inbox := rfl
    have heq : beginStop 2 u = stopNext (waitersOff (setStop 2 (setSeqState sqFaultStop u))) := rfl
    rw [heq]
    generalize setStop 2 (setSeqState sqFaultStop u) = v at *
    obtain ⟨w1, w2, w3, w4, w5, w6⟩ := hw
    generalize waitersOff v = w at *
    obtain ⟨s1, s2, s3, s4, s5, -⟩ := stopNext_shown w
    have hkeys := railKeys k
    have hv : railSt v k = rsLatch := (hkeep _ (by omega)).trans l1
    have hwk : railSt w k = rsLatch := (w2 k hk (by rw [hv]; decide) (by rw [hv]; decide)).trans hv
    refine ⟨(s2 k hk (hcan w hwk)).trans hwk, ?_, (s5 k hk).trans ((w5 k hk).trans ((hkeep _ (by omega)).trans l3)), fun h => ?_, ?_⟩
    · rw [s4, w4, hkeep _ (by omega)]
      exact l2
    · exact messageWaits_of_sub (l4 h) fun x hx => s1.inbox x (w1.inbox x (by rw [hin]; exact hx))
    · rw [w3, hq] at s3
      exact s3

theorem Latched.settle {k kind cause info : Nat} (hk : k < 4) {s t : State} (h : Latched k kind cause info s t) :
    Latched k kind cause info s (Machine.settle t) := by
  have hkeys := railKeys k
  have hs := settle_keeps t
  have hget : ∀ f : Fld, 32 * 0x60400 ≤ f.key → f.key < 32 * 0x60440 → getF (Machine.settle t) f = getF t f := fun f e1 e2 => hs.regs f (.inl ⟨e1, e2⟩)
  refine ⟨(hget _ (by omega) (by omega)).trans h.rail, ?_, (hget _ (by omega) (by omega)).trans h.cause, fun hr => messageWaits_of_sub (h.told hr) hs.inbox, ?_⟩
  · rw [hget _ (by omega) (by omega)]
    exact h.latched
  · have he : seqState (Machine.settle t) = seqState t := hget _ (by omega) (by omega)
    rw [he]
    exact h.seq

end Sys2Proof.Machine
end

section
/-! O34. Rails that stop (R217, R218, R226). -/

namespace Sys2Proof.Machine

/-! ### A ramped stop -/

/-- System time is not valid while VLINK is off in Dormant (R304). -/
def railOffTime (k : Nat) (s : State) : State :=
  if k = 2 ∧ s.phc.stop = 4 then setB s GLB.BOUNDARY_STATUS.SYSTIME_VALID false else s

theorem railStopDone_eq {k : Nat} {s : State} (h1 : railSt s k = rsStop) (h2 : (railRec s k).ref ≤ 100000000) (h3 : seqState s ≠ sqQuickStop) :
    railStopDone k s = stopNext (railOff k rsOff (railOffTime k s)) := by
  have hs : (if k = 2 ∧ s.phc.stop = 4 ∧ railSt s 2 = rsStop ∧ (railRec s 2).ref ≤ 100000000 then setB s GLB.BOUNDARY_STATUS.SYSTIME_VALID false else s) =
      railOffTime k s := by
    unfold railOffTime
    by_cases hk : k = 2
    · subst hk
      simp [h1, h2]
    · simp [hk]
  have hrail : ∀ j, railSt (railOffTime k s) j = railSt s j := fun j => by
    have hj := railKeys j
    have hg : GLB.BOUNDARY_STATUS.SYSTIME_VALID.key = 32 * 0x00020 + 2 := rfl
    unfold railOffTime
    split
    · exact getF_setB_ne _ _ (by omega)
    · rfl
  have hseq : seqState (railOffTime k s) = seqState s := by
    unfold railOffTime
    split
    · exact getF_setB_ne _ _ (by decide)
    · rfl
  have hrec : railRec (railOffTime k s) k = railRec s k := by
    unfold railOffTime
    split <;> rfl
  unfold railStopDone
  dsimp only
  rw [hs, if_pos ⟨(hrail k).trans h1, by rw [hseq]; exact h3, by rw [hrec]; exact h2⟩]

theorem railStopDone_idle {k : Nat} {s : State} (h : railSt s k ≠ rsStop ∨ 100000000 < (railRec s k).ref ∨
    (seqState s = sqQuickStop ∧ (k ≠ 2 ∨ s.phc.stop ≠ 4))) : railStopDone k s = s := by
  have h0 : ¬ (k = 2 ∧ s.phc.stop = 4 ∧ railSt s 2 = rsStop ∧ (railRec s 2).ref ≤ 100000000) := by
    rintro ⟨rfl, h4, h5, h6⟩
    rcases h with h | h | ⟨-, h | h⟩
    · exact h h5
    · omega
    · exact h rfl
    · exact h h4
  unfold railStopDone
  dsimp only
  rw [if_neg h0, if_neg]
  rintro ⟨e1, e2, e3⟩
  rcases h with h | h | ⟨h, -⟩
  · exact h e1
  · omega
  · exact e2 h

theorem railStopDone_shown {k : Nat} (hk : k < 4) {s : State} (h1 : railSt s k = rsStop) (h2 : (railRec s k).ref ≤ 100000000)
    (h3 : seqState s ≠ sqQuickStop) : railSt (railStopDone k s) k = rsOff ∧
    (k = 2 → s.phc.stop = 4 → getB (railStopDone k s) GLB.BOUNDARY_STATUS.SYSTIME_VALID = false) ∧
    ((∀ j < 4, j ≠ k → railSt s j = rsOff ∨ railSt s j = rsLatch) → s.phc.stop ≠ 4 → seqState (railStopDone k s) = sqIdle ∧
      getB (railStopDone k s) PHC.SEQ_STATUS.BUS_EN = false ∧ (roomRec s → eventWaits 0x0605 (railStopDone k s))) := by
  have hrail : ∀ j, railSt (railOffTime k s) j = railSt s j := fun j => by
    have hj := railKeys j
    have hg : GLB.BOUNDARY_STATUS.SYSTIME_VALID.key = 32 * 0x00020 + 2 := rfl
    unfold railOffTime
    split
    · exact getF_setB_ne _ _ (by omega)
    · rfl
  have hphc : (railOffTime k s).phc = s.phc ∧ (railOffTime k s).inbox = s.inbox := by
    unfold railOffTime
    split <;> exact ⟨rfl, rfl⟩
  have htime : k = 2 → s.phc.stop = 4 → getB (railOffTime k s) GLB.BOUNDARY_STATUS.SYSTIME_VALID = false := fun e1 e2 => by
    unfold railOffTime
    rw [if_pos ⟨e1, e2⟩]
    exact getB_setB_self _ _ _ rfl
  rw [railStopDone_eq h1 h2 h3]
  generalize railOffTime k s = u at *
  have hg := railOff_shown (st := rsOff) hk (by decide) u
  generalize railOff k rsOff u = v at *
  have hcan : canStop v k = false := by
    unfold canStop pastSoft
    rw [hg.state]
    rfl
  obtain ⟨s1, s2, s3, s4, s5, s6⟩ := stopNext_shown v
  refine ⟨(s2 k hk hcan).trans hg.state, fun e1 e2 => ?_, fun hall h4 => ?_⟩
  · rw [getB_congr (s1.getF (by decide) (by decide)), getB_congr (hg.frame.getF (by decide) (by decide))]
    exact htime e1 e2
  · have hlast : stopNext v = stopDone v := stopNext_last (fun j hj => by
      by_cases hjk : j = k
      · rw [hjk]; exact .inl hg.state
      · rw [hg.others hj hk hjk, hrail]; exact hall j hj hjk) (by rw [hg.moved.own.1, hphc.1]; exact h4)
    obtain ⟨-, d2, d3, d4⟩ := stopDone_shown v
    rw [hlast]
    exact ⟨d2, d3, fun hr => d4 (roomRec_congr (hg.inbox.trans hphc.2) hr)⟩

/-! ### PWR_FAIL_N (R218) -/

/-- PWR_FAIL_N is low, and the bus is not good. -/
def pwrLow (s : State) : State := { s with phc := { s.phc with pwrFailN := false, goodAt := none, restart := false } }

/-- What a quick stop shows where none was in progress. -/
theorem quickStop_shown {s : State} (h : seqState s ≠ sqQuickStop) (hr : s.phc.restart = false) :
    (∀ k l, quickLeft s = k :: l → railSt (quickStop s) k = rsOff ∧
      (l = [] → seqState (quickStop s) = sqIdle ∧ getB (quickStop s) PHC.SEQ_STATUS.BUS_EN = false) ∧
      (l ≠ [] → seqState (quickStop s) = sqQuickStop ∧ (quickStop s).phc.due = s.time.ticks + us 10)) ∧
    (quickStop s).phc.goodAt = s.phc.goodAt := by
  obtain ⟨b1, b2, b3, b4, b5⟩ := quickBegun_shown s
  rw [quickStop_off h]
  obtain ⟨q1, q2, q3, q4, q5, q6, q7, q8⟩ := quickNext_shown (quickBegun s)
  have ht : (quickBegun s).time = s.time := b1.time
  rw [b3] at q2 q3 q4
  rw [ht] at q2
  generalize quickBegun s = u at *
  generalize quickNext u = t at *
  refine ⟨fun k l hl => ⟨(q2 k l hl).1, fun he => q4 (by rw [hl, he]; rfl) (b4.trans hr), fun he => ⟨?_, (q2 k l hl).2⟩⟩, ?_⟩
  · refine (q3 ?_).trans b2
    rw [hl]
    have := List.length_pos_of_ne_nil he
    rw [List.length_cons]
    omega
  · rcases q7 with h7 | h7
    · exact h7.trans b5
    · rw [b4, hr] at h7
      exact absurd h7 (by decide)

theorem pwrFailFall_eq (s : State) : pwrFailFall s =
    if rails4.all (fun k => railSt s k == rsOff || railSt s k == rsLatch) then
      (if seqState s = sqStopping ∨ seqState s = sqFaultStop then quickStop (pwrLow s) else pwrLow s)
    else quickStop (pwrLow s) := rfl

theorem pwrLow_shown (s : State) : (pwrLow s).phc.pwrFailN = false ∧ (pwrLow s).phc.goodAt = none ∧ (pwrLow s).phc.restart = false ∧
    (∀ f, getF (pwrLow s) f = getF s f) ∧ (pwrLow s).time = s.time := ⟨rfl, rfl, rfl, fun f => getF_congr rfl f, rfl⟩

theorem quickLeft_congr {s t : State} (h : ∀ f, getF t f = getF s f) : quickLeft t = quickLeft s := by
  have ho : stopOrder t = stopOrder s := by
    unfold stopOrder startOrder
    refine congrArg List.reverse (List.map_congr_left fun p _ => ?_)
    unfold orderAt
    rw [h]
  unfold quickLeft
  rw [ho]
  exact List.filter_congr fun k _ => by unfold railSt; rw [h]

/-- What the fall of PWR_FAIL_N shows. -/
theorem pwrFailFall_shown (s : State) : (pwrFailFall s).phc.pwrFailN = false ∧ (pwrFailFall s).phc.goodAt = none ∧
    (∀ k l, quickLeft s = k :: l → seqState s ≠ sqQuickStop → railSt (pwrFailFall s) k = rsOff ∧
      (l = [] → seqState (pwrFailFall s) = sqIdle ∧ getB (pwrFailFall s) PHC.SEQ_STATUS.BUS_EN = false) ∧
      (l ≠ [] → seqState (pwrFailFall s) = sqQuickStop ∧ (pwrFailFall s).phc.due = s.time.ticks + us 10)) ∧
    ((∀ k < 4, railSt s k = rsOff ∨ railSt s k = rsLatch) → seqState s ≠ sqStopping → seqState s ≠ sqFaultStop → seqState (pwrFailFall s) = seqState s) := by
  obtain ⟨l1, l2, l3, l4, l5⟩ := pwrLow_shown s
  have hleft := quickLeft_congr l4
  have hseq : seqState (pwrLow s) = seqState s := l4 _
  have hpf : (quickStop (pwrLow s)).phc.pwrFailN = false := (quickStop_frame (pwrLow s)).levels.1.trans l1
  have hgood : (quickStop (pwrLow s)).phc.goodAt = none := by
    by_cases hq : seqState (pwrLow s) = sqQuickStop
    · rw [quickStop_on hq]; exact l2
    · exact (quickStop_shown hq l3).2.trans l2
  have hhead : seqState s ≠ sqQuickStop → ∀ k l, quickLeft s = k :: l → railSt (quickStop (pwrLow s)) k = rsOff ∧
      (l = [] → seqState (quickStop (pwrLow s)) = sqIdle ∧ getB (quickStop (pwrLow s)) PHC.SEQ_STATUS.BUS_EN = false) ∧
      (l ≠ [] → seqState (quickStop (pwrLow s)) = sqQuickStop ∧ (quickStop (pwrLow s)).phc.due = s.time.ticks + us 10) := fun hq k l hl => by
    have := (quickStop_shown (s := pwrLow s) (by rw [hseq]; exact hq) l3).1 k l (hleft.trans hl)
    rw [l5] at this
    exact this
  rw [pwrFailFall_eq]
  split
  · next hall =>
    have hnone : ∀ k l, quickLeft s ≠ k :: l := fun k l hl => by
      have hm : k ∈ quickLeft s := by rw [hl]; simp
      obtain ⟨hk, hlive⟩ := List.mem_filter.1 hm
      have := List.all_eq_true.1 hall k ((by decide : ∀ k < 4, k ∈ rails4) k (stopOrder_lt hk))
      simp only [Bool.and_eq_true, Bool.or_eq_true, beq_iff_eq, decide_eq_true_eq] at this hlive
      rcases this with h | h
      · exact hlive.1 h
      · exact hlive.2 h
    split
    · next hs =>
      exact ⟨hpf, hgood, fun k l hl _ => absurd hl (hnone k l), fun _ h1 h2 => absurd hs (by rintro (h | h) <;> contradiction)⟩
    · exact ⟨l1, l2, fun k l hl _ => absurd hl (hnone k l), fun _ _ _ => hseq⟩
  · next hall =>
    refine ⟨hpf, hgood, fun k l hl hq => hhead hq k l hl, fun h _ _ => absurd (List.all_eq_true.2 fun k hk => ?_) hall⟩
    rcases h k (lt_of_mem_rails4 hk) with h | h <;> rw [h] <;> rfl

/-- PWR_FAIL_N is high again. -/
def pwrHigh (s : State) : State := busGood { s with phc := { s.phc with pwrFailN := true } }

theorem pwrHigh_shown (s : State) : (pwrHigh s).phc.pwrFailN = true ∧ (∀ f, getF (pwrHigh s) f = getF s f) ∧ (pwrHigh s).time = s.time ∧
    (pwrHigh s).sta = s.sta := ⟨rfl, fun f => getF_congr rfl f, rfl, rfl⟩

theorem pwrFailRise_eq (s : State) : pwrFailRise s =
    if s.phc.pwrFailN ∨ !getB s PHC.SEQ_CTRL.AUTO_START ∨ getF s PHC.LATCH.LATCHED ≠ 0 ∨ s.phc.allLow ∨ !s.phc.resetN then pwrHigh s
    else if seqState s = sqQuickStop then { pwrHigh s with phc := { (pwrHigh s).phc with restart := true } }
    else if seqState s = sqIdle then beginStart (pwrHigh s) else pwrHigh s := rfl

/-! ### LATCH (R226) -/

/-- One rail of a write of LATCH. -/
def latchStep (val : Nat) (t : State) (k : Nat) : State :=
  if bit val k && railSt t k == rsLatch then
    setRailSt k rsOff (setF t PHC.LATCH.LATCHED (clrBit (getF t PHC.LATCH.LATCHED) k)) else t

theorem latchClear_eq (val : Nat) (s : State) : latchClear val s = rails4.foldl (latchStep val) s := rfl

theorem latchStep_other {val k j : Nat} {t : State} (hjk : j ≠ k) : railSt (latchStep val t k) j = railSt t j ∧
    (bit (getF t PHC.LATCH.LATCHED) j = false → bit (getF (latchStep val t k) PHC.LATCH.LATCHED) j = false) := by
  have hk := railKeys k
  have hj := railKeys j
  unfold latchStep
  split
  · refine ⟨(getF_setF_ne _ _ (by omega)).trans (getF_setF_ne _ _ (by omega)), fun h => ?_⟩
    have hg : getF (setRailSt k rsOff (setF t PHC.LATCH.LATCHED (clrBit (getF t PHC.LATCH.LATCHED) k))) PHC.LATCH.LATCHED =
        clrBit (getF t PHC.LATCH.LATCHED) k % 2 ^ 4 := (getF_setF_ne _ _ (by omega)).trans (getF_setF_self ..)
    rw [hg]
    unfold bit at h ⊢
    rw [Nat.testBit_mod_two_pow, testBit_clrBit, h]
    simp
  · exact ⟨rfl, id⟩

theorem latchStep_self (val k : Nat) (t : State) :
    (bit val k = true → railSt t k = rsLatch → railSt (latchStep val t k) k = rsOff ∧ bit (getF (latchStep val t k) PHC.LATCH.LATCHED) k = false) ∧
    (bit val k = false ∨ railSt t k ≠ rsLatch → latchStep val t k = t) := by
  have hk := railKeys k
  unfold latchStep
  refine ⟨fun h1 h2 => ?_, fun h => if_neg ?_⟩
  · rw [h1, h2, if_pos (by rfl)]
    have hg : getF (setRailSt k rsOff (setF t PHC.LATCH.LATCHED (clrBit (getF t PHC.LATCH.LATCHED) k))) PHC.LATCH.LATCHED =
        clrBit (getF t PHC.LATCH.LATCHED) k % 2 ^ 4 := (getF_setF_ne _ _ (by omega)).trans (getF_setF_self ..)
    refine ⟨getF_setF_self .., ?_⟩
    rw [hg]
    unfold bit
    rw [Nat.testBit_mod_two_pow, testBit_clrBit]
    simp
  · rcases h with h | h
    · rw [h]; simp
    · simp [h]

theorem latchSteps_shown (val : Nat) (l : List Nat) (hl : l.Nodup) (s : State) : unitsSame s (l.foldl (latchStep val) s) ∧
    (∀ k, k ∉ l → railSt (l.foldl (latchStep val) s) k = railSt s k ∧
      (bit (getF s PHC.LATCH.LATCHED) k = false → bit (getF (l.foldl (latchStep val) s) PHC.LATCH.LATCHED) k = false)) ∧
    (∀ k ∈ l, (bit val k = true → railSt s k = rsLatch → railSt (l.foldl (latchStep val) s) k = rsOff ∧
        bit (getF (l.foldl (latchStep val) s) PHC.LATCH.LATCHED) k = false) ∧
      (bit val k = false ∨ railSt s k ≠ rsLatch → railSt (l.foldl (latchStep val) s) k = railSt s k)) := by
  induction l generalizing s with
  | nil => exact ⟨unitsSame_refl s, fun _ _ => ⟨rfl, id⟩, fun _ h => absurd h (by simp)⟩
  | cons x r ih =>
    obtain ⟨hx, hr⟩ := List.nodup_cons.1 hl
    obtain ⟨i1, i2, i3⟩ := ih hr (latchStep val s x)
    have hu : unitsSame s (latchStep val s x) := by
      unfold latchStep
      split <;> exact unitsSame_refl s
    obtain ⟨c1, c2⟩ := latchStep_self val x s
    rw [List.foldl_cons]
    generalize hw : latchStep val s x = w at *
    refine ⟨unitsSame_trans hu i1, fun k hk => ?_, fun k hk => ?_⟩
    · obtain ⟨e1, e2⟩ : k ≠ x ∧ k ∉ r := by simpa using hk
      obtain ⟨o1, o2⟩ := latchStep_other (val := val) (t := s) e1
      rw [hw] at o1 o2
      exact ⟨(i2 k e2).1.trans o1, fun h => (i2 k e2).2 (o2 h)⟩
    · by_cases hkx : k = x
      · subst hkx
        refine ⟨fun h1 h2 => ⟨(i2 k hx).1.trans (c1 h1 h2).1, (i2 k hx).2 (c1 h1 h2).2⟩, fun h => ?_⟩
        rw [(i2 k hx).1, c2 h]
      · have hkr : k ∈ r := (List.mem_cons.1 hk).resolve_left hkx
        obtain ⟨o1, -⟩ := latchStep_other (val := val) (t := s) hkx
        rw [hw] at o1
        rw [← o1]
        exact i3 k hkr

theorem latch_ownReg : OwnReg 0x60410 := ⟨rfl, by decide +kernel, by decide +kernel, by decide +kernel, fun _ => notIts_false rfl rfl rfl rfl⟩

end Sys2Proof.Machine

open Sys2Proof Sys2Proof.Machine

/-- Settles O34: the ramped stop's last step, the quick stop of PWR_FAIL_N and its steps, the new sequence, and the write of LATCH. -/
theorem railsStopInOrder : Obligations.RailsStopInOrder := by
  unfold Obligations.RailsStopInOrder
  intro dt s a ha left
  have hn : noEnd a := ha ▸ noEnd_advance dt s
  have hleft : (stopOrder a).filter left = quickLeft a := List.filter_congr fun k _ => by simp [left]
  have hoff : ∀ k, left k = false → railSt a k = rsOff ∨ railSt a k = rsLatch := fun k hk => by
    simp only [left, Bool.and_eq_false_iff, decide_eq_false_iff_not, not_not] at hk
    exact hk
  have hseqSettle : ∀ t, seqState (settle t) = seqState t := fun t => (settle_keeps t).regs _ (.inl ⟨by decide, by decide⟩)
  have hbusSettle : ∀ t, getB (settle t) PHC.SEQ_STATUS.BUS_EN = getB t PHC.SEQ_STATUS.BUS_EN := fun t =>
    getB_congr ((settle_keeps t).regs _ (.inl ⟨by decide, by decide⟩))
  have hrailSettle : ∀ t, ∀ k < 4, railSt (settle t) k = railSt t k := fun t k hk => by
    have := railKeys k
    exact (settle_keeps t).regs _ (.inl ⟨by omega, by omega⟩)
  refine ⟨fun k hk h1 h2 h3 => ?_, fun k hk h => ?_, fun hpf => ?_, fun hpf => ?_, fun k l hq hd hl => ?_, fun h => ?_, fun hauto => ?_,
    fun hauto hpf hl hal hre => ?_, fun agent v hmay => ?_⟩
  · refine answers_of ha (exec_railStopDone ..) (by simp [Instr.wf, hk]) ?_
    obtain ⟨r1, r2, r3⟩ := railStopDone_shown hk h1 h2 h3
    generalize railStopDone k a = t at *
    have htime : getB (settle t) GLB.BOUNDARY_STATUS.SYSTIME_VALID = getB t GLB.BOUNDARY_STATUS.SYSTIME_VALID :=
      getB_congr (getF_settle_low t (by decide) (by decide))
    rw [hrailSettle t k hk, hseqSettle, hbusSettle, htime]
    refine ⟨r1, r2, fun hall h4 => ?_⟩
    obtain ⟨e1, e2, e3⟩ := r3 (fun j hj hjk => hoff j (hall j hj hjk)) h4
    exact ⟨e1, e2, fun hr => eventWaits_of_sub (e3 hr) (settle_keeps t).inbox⟩
  · exact answers_untouched ha (exec_railStopDone ..) (by simp [Instr.wf, hk]) (railStopDone_idle h)
  · refine answers_of ha (exec_pwrFailNFall ..) rfl ?_
    obtain ⟨p1, p2, p3, p4⟩ := pwrFailFall_shown a
    obtain ⟨hr, e1, e2, e3⟩ := powerFail_holds hpf
    generalize settle (powerFail a) = t at *
    generalize pwrFailFall a = u at *
    have hseq : seqState t = seqState u := hr _ (.inl ⟨by decide, by decide⟩)
    have hbus : getB t PHC.SEQ_STATUS.BUS_EN = getB u PHC.SEQ_STATUS.BUS_EN := getB_congr (hr _ (.inl ⟨by decide, by decide⟩))
    rw [hleft, hseq, hbus, e1, e2, e3]
    refine ⟨p1, p2, fun k l hl hq => ?_, fun h => p4 fun k hk => hoff k (h k hk)⟩
    have hk4 : k < 4 := stopOrder_lt (List.mem_filter.1 (show k ∈ quickLeft a by rw [hl]; simp)).1
    have hkeys := railKeys k
    have hrail : railSt t k = railSt u k := hr _ (.inl ⟨by omega, by omega⟩)
    rw [hrail]
    exact p3 k l hl hq
  · refine answers_untouched ha (exec_pwrFailNFall ..) rfl ?_
    unfold powerFail
    rw [hpf]
    rfl
  · rw [hleft] at hl
    have hk4 : k < 4 := stopOrder_lt (List.mem_filter.1 (show k ∈ quickLeft a by rw [hl]; simp)).1
    refine answers_eq ha (exec_quickStopRailOff ..) rfl (if_pos ⟨hq, hd⟩) ?_
    obtain ⟨q1, q2, q3, q4, q5, q6, q7, q8⟩ := quickNext_shown a
    generalize quickNext a = t at *
    have hdue : (settle t).phc.due = t.phc.due := (settle_keeps t).holds.phc.2.2
    rw [hrailSettle t k hk4, hseqSettle, hbusSettle, hdue]
    refine ⟨(q2 k l hl).1, fun hnil hr => q4 (by rw [hl, hnil]; rfl) hr, fun hnil hr h1 h2 h3 h4 => q5 (by rw [hl, hnil]; rfl) hr h1 h2 h3 h4,
      fun hne => ⟨(q3 ?_).trans hq, (q2 k l hl).2⟩⟩
    rw [hl, List.length_cons]
    have := List.length_pos_of_ne_nil hne
    omega
  · refine answers_untouched ha (exec_quickStopRailOff ..) rfl (if_neg ?_)
    rintro ⟨e1, e2⟩
    rcases h with h | h
    · exact h e1
    · omega
  · obtain ⟨h1, h2, h3, h4⟩ := pwrHigh_shown a
    refine answers_eq ha (exec_pwrFailNRise ..) rfl (u := pwrHigh a) ?_ ?_
    · rw [pwrFailRise_eq, if_pos (.inr (.inl (by rw [hauto]; rfl)))]
    · generalize pwrHigh a = t at *
      have hnt := noEnd_congr hn h4
      rw [settle_phc hnt]
      exact ⟨h1, fieldsBut_settle hnt fun f _ _ => h2 f⟩
  · obtain ⟨h1, h2, h3, h4⟩ := pwrHigh_shown a
    have hnot : ¬ (a.phc.pwrFailN = true ∨ (!getB a PHC.SEQ_CTRL.AUTO_START) = true ∨ getF a PHC.LATCH.LATCHED ≠ 0 ∨ a.phc.allLow = true ∨
        (!a.phc.resetN) = true) := by
      rw [hpf, hauto, hl, hal, hre]
      decide
    refine answers_of ha (exec_pwrFailNRise ..) rfl ?_
    rw [pwrFailRise_eq, if_neg hnot]
    generalize pwrHigh a = u at *
    split
    · next hq =>
      have hk := settle_keeps { u with phc := { u.phc with restart := true } }
      have hsq : seqState (settle { u with phc := { u.phc with restart := true } }) = seqState a :=
        (hseqSettle _).trans ((getF_congr rfl _).trans (h2 _))
      refine ⟨?_, fun hi => absurd (hi.symm.trans hq) (by decide), fun _ => ⟨?_, hsq.trans hq⟩⟩
      · rw [hk.phc]; exact h1
      · rw [hk.phc]
    · next hq =>
      split
      · next hi =>
        have hu : ∀ t, SeqFrame u t → (settle t).phc.pwrFailN = true := fun t ht => (settle_keeps t).holds.phc.1.trans (ht.levels.1.trans h1)
        refine ⟨?_, fun _ ht => ?_, fun h => absurd h hq⟩
        · by_cases ht : getB u TMG.TRIP.TRIPPED = true
          · rw [show beginStart u = u from if_pos ht]
            exact hu u (.refl u)
          · exact hu _ (beginStart_shown (Bool.eq_false_iff.2 ht)).1
        · obtain ⟨b1, b2, b3, b4, b5, b6, b7⟩ := beginStart_shown (s := u) ((getB_congr (h2 _)).trans ht)
          generalize beginStart u = t at *
          rw [hseqSettle, hbusSettle, (settle_keeps t).phc]
          exact ⟨b2, b3, b4.trans (by rw [h3])⟩
      · next hi =>
        refine ⟨(settle_keeps u).holds.phc.1.trans h1, fun h => absurd h hi, fun h => absurd h hq⟩
  · refine answers_eq ha (exec_latchClear ..) rfl (busWrite_own latch_ownReg hmay v.isLt rfl) ?_
    obtain ⟨l1, -, l3⟩ := latchSteps_shown v.toNat rails4 (by decide) a
    rw [latchClear_eq]
    generalize rails4.foldl (latchStep v.toNat) a = t at *
    have hnt := noEnd_of_unitsSame hn l1
    refine ⟨(unitsSame_settle hnt).2 l1, fun k hk => ?_⟩
    have hlat : getF (settle t) PHC.LATCH.LATCHED = getF t PHC.LATCH.LATCHED := getF_settle t hnt (by decide)
    rw [hrailSettle t k hk, hlat]
    exact l3 k ((by decide : ∀ k < 4, k ∈ rails4) k hk)
end

section
/-! SUPPORT. The phases of a rail that starts, faulty ones among them (R207, R220). -/

namespace Sys2Proof.Machine

theorem retired_key_eq (w : Nat) : (PHC.RETIRED.RETIRED w).key = 32 * (0x60080 + 4 * w) := by
  simp only [PHC.RETIRED.RETIRED, fld]
  omega

theorem phaseSt_congr {s t : State} (h : t.phc = s.phc) (n : Nat) : phaseSt t n = phaseSt s n := by
  unfold phaseSt
  rw [h]

theorem retireNow_phase_ne {m n cause : Nat} (hne : n ≠ m) {s : State} (h : phaseSt s n ≠ .standby) : phaseSt (retireNow m cause s) n = phaseSt s n := by
  have h1 : phaseSt (markRetired m cause s) n = phaseSt s n := phaseSt_congr (event_phc ..) n
  unfold retireNow
  split
  · rfl
  · dsimp only
    generalize markRetired m cause s = u at *
    have h2 := phaseSt_setPhase_ne u .retired hne
    generalize setPhase u m .retired = v at *
    obtain ⟨c1, -, -, -⟩ := capacityFaults_frame (railOf m) (availOf s (railOf m)) v
    have h3 : phaseSt (capacityFaults (railOf m) (availOf s (railOf m)) v) n = phaseSt v n := phaseSt_congr c1 n
    generalize capacityFaults (railOf m) (availOf s (railOf m)) v = w at *
    have hw : phaseSt w n = phaseSt s n := h3.trans (h2.trans h1)
    exact (phaseSt_raiseTarget (by rw [hw]; exact h)).trans hw

theorem phaseFault_phase_ne {m n : Nat} (hne : n ≠ m) {s : State} (h : phaseSt s n ≠ .standby) : phaseSt (phaseFault m s) n = phaseSt s n := by
  have h1 : phaseSt (sendFault 0x60 (0x600 + m) (railOf m) (faultSeen m s)) n = phaseSt s n :=
    phaseSt_congr (sendFault_phc ..) n
  unfold phaseFault
  dsimp only
  change phaseSt (if _ then faultSeen m s else if isRetired s m = true then setPhase (sendFault 0x60 (0x600 + m) (railOf m) (faultSeen m s)) m .retired
    else retireNow m 1 (sendFault 0x60 (0x600 + m) (railOf m) (faultSeen m s))) n = _
  split
  · rfl
  · generalize sendFault 0x60 (0x600 + m) (railOf m) (faultSeen m s) = u at *
    split
    · exact (phaseSt_setPhase_ne u .retired hne).trans h1
    · exact (retireNow_phase_ne hne (by rw [h1]; exact h)).trans h1

theorem phaseFault_retired {m n : Nat} {s : State} (h : phaseSt s n = .retired) : phaseSt (phaseFault m s) n = .retired := by
  by_cases hne : n = m
  · subst hne
    unfold phaseFault
    rw [if_pos (.inr h)]
    exact h
  · exact (phaseFault_phase_ne hne (by rw [h]; decide)).trans h

/-- Of phases that regulate, those with PH_FAULT are retired as they are seen. -/
theorem phaseFaults_phase {l : List Nat} {n : Nat} (hlt : n < 98) {s : State} (h : phaseSt s n = .regulating) :
    phaseSt (l.foldl (fun t m => phaseFault m t) s) n = if n ∈ l then .retired else .regulating := by
  have hret : ∀ (l : List Nat) (s : State), phaseSt s n = .retired → phaseSt (l.foldl (fun t m => phaseFault m t) s) n = .retired := fun l s hs =>
    List.foldlRecOn (motive := fun u => phaseSt u n = .retired) l _ hs fun u hu m _ => phaseFault_retired hu
  induction l generalizing s with
  | nil => exact h
  | cons m r ih =>
    rw [List.foldl_cons]
    by_cases hne : n = m
    · subst hne
      rw [if_pos (by simp)]
      exact hret r _ (phaseFault_shown hlt (by rw [h]; decide) (by rw [h]; decide)).phase
    · rw [ih ((phaseFault_phase_ne hne (by rw [h]; decide)).trans h)]
      simp [hne]

theorem phasesOf_lt {k n : Nat} (hk : k < 4) (h : n ∈ phasesOf k) : n < 98 := (by decide : ∀ k < 4, ∀ n ∈ phasesOf k, n < 98) k hk n h

/-- What phases that are seen to be faulty leave of a rail that starts. -/
structure FaultsSeen (s t : State) : Prop where
  sta : t.sta = s.sta
  rails : ∀ j, (railRec t j).tgt = (railRec s j).tgt ∧ (railRec t j).ramping = (railRec s j).ramping ∧ (railRec t j).case2 = (railRec s j).case2 ∧
    (railRec t j).ref = (railRec s j).ref
  fields : ∀ f : Fld, (∀ w < 4, f.key ≠ (PHC.RETIRED.RETIRED w).key) → f.key ≠ FLC.STATUS.QUEUE_OVF.key → f.key ≠ EVR.COUNTS.DROPPED.key →
    getF t f = getF s f

namespace FaultsSeen

variable {s t u : State}

theorem refl (s : State) : FaultsSeen s s := ⟨rfl, fun _ => ⟨rfl, rfl, rfl, rfl⟩, fun _ _ _ _ => rfl⟩

theorem trans (h : FaultsSeen s t) (h2 : FaultsSeen t u) : FaultsSeen s u :=
  ⟨h2.sta.trans h.sta, fun j => by
    obtain ⟨a1, a2, a3, a4⟩ := h.rails j
    obtain ⟨b1, b2, b3, b4⟩ := h2.rails j
    exact ⟨b1.trans a1, b2.trans a2, b3.trans a3, b4.trans a4⟩, fun f e1 e2 e3 => (h2.fields f e1 e2 e3).trans (h.fields f e1 e2 e3)⟩

theorem of_phc (hp : t.phc = s.phc) (hs : t.sta = s.sta) (hf : ∀ f : Fld, (∀ w < 4, f.key ≠ (PHC.RETIRED.RETIRED w).key) →
    f.key ≠ FLC.STATUS.QUEUE_OVF.key → f.key ≠ EVR.COUNTS.DROPPED.key → getF t f = getF s f) : FaultsSeen s t :=
  ⟨hs, fun j => by unfold railRec; rw [hp]; exact ⟨rfl, rfl, rfl, rfl⟩, hf⟩

theorem setPhase (s : State) (n : Nat) (x : PhaseSt) : FaultsSeen s (setPhase s n x) := by
  unfold Machine.setPhase
  dsimp only
  split <;> exact ⟨rfl, fun _ => ⟨rfl, rfl, rfl, rfl⟩, fun _ _ _ _ => rfl⟩

theorem setTarget (s : State) (k v : Nat) : FaultsSeen s (setRail s k { railRec s k with target := v }) := by
  refine ⟨rfl, fun j => ?_, fun _ _ _ _ => rfl⟩
  by_cases hj : j = k
  · subst hj
    rw [railRec_setRail_self]
    exact ⟨rfl, rfl, rfl, rfl⟩
  · rw [railRec_setRail_ne _ _ hj]
    exact ⟨rfl, rfl, rfl, rfl⟩

theorem bringIn (k : Nat) (s : State) : FaultsSeen s (bringIn k s) :=
  List.foldlRecOn (motive := FaultsSeen s) _ _ (.refl s) fun u hu n _ => hu.trans (.setPhase u n _)

theorem raiseTarget (k : Nat) (s : State) : FaultsSeen s (raiseTarget k s) := by
  unfold Machine.raiseTarget
  split
  · exact .refl s
  · split
    · exact .bringIn k s
    · exact (setTarget s k _).trans (.bringIn k _)

theorem retireNow {n : Nat} (hn : n < 98) (cause : Nat) (s : State) : FaultsSeen s (retireNow n cause s) := by
  have h1 : FaultsSeen s (markRetired n cause s) := of_phc (event_phc ..) (event_sta ..) fun f e1 e2 e3 =>
    (getF_event _ _ _ e3).trans (getF_setF_ne _ _ (e1 _ (by omega)))
  unfold Machine.retireNow
  split
  · exact .refl s
  · dsimp only
    generalize markRetired n cause s = u at *
    have h2 := h1.trans (.setPhase u n .retired)
    generalize Machine.setPhase u n .retired = v at *
    obtain ⟨c1, c2, c3, c4⟩ := capacityFaults_frame (railOf n) (availOf s (railOf n)) v
    have h3 := h2.trans (of_phc c1 c2 fun f e1 e2 e3 => c3 f e2)
    exact h3.trans (.raiseTarget _ _)

theorem phaseFault {n : Nat} (hn : n < 98) (s : State) : FaultsSeen s (phaseFault n s) := by
  have h1 : FaultsSeen s (sendFault 0x60 (0x600 + n) (railOf n) (faultSeen n s)) := by
    refine ⟨sendFault_sta .., fun j => ?_, fun f e1 e2 e3 => getF_sendFault _ _ _ _ e2⟩
    unfold railRec
    rw [sendFault_phc]
    exact ⟨rfl, rfl, rfl, rfl⟩
  unfold Machine.phaseFault
  dsimp only
  change FaultsSeen s (if _ then faultSeen n s else if isRetired s n = true then
    Machine.setPhase (sendFault 0x60 (0x600 + n) (railOf n) (faultSeen n s)) n .retired
    else Machine.retireNow n 1 (sendFault 0x60 (0x600 + n) (railOf n) (faultSeen n s)))
  split
  · exact ⟨rfl, fun _ => ⟨rfl, rfl, rfl, rfl⟩, fun _ _ _ _ => rfl⟩
  · split
    · exact h1.trans (.setPhase _ n _)
    · exact h1.trans (.retireNow hn 1 _)

theorem startFaults {k : Nat} (hk : k < 4) (s : State) : FaultsSeen s (startFaults k s) :=
  List.foldlRecOn (motive := FaultsSeen s) _ _ (.refl s) fun u hu n hn =>
    hu.trans (.phaseFault (phasesOf_lt hk (List.mem_filter.1 (List.mem_filter.1 hn).1).1) u)

end FaultsSeen

theorem isRetired_congr {s t : State} (h : ∀ w < 4, getF t (PHC.RETIRED.RETIRED w) = getF s (PHC.RETIRED.RETIRED w)) {n : Nat} (hn : n < 98) :
    isRetired t n = isRetired s n := by
  unfold isRetired
  rw [h _ (by omega)]

theorem serviceOrder_congr {s t : State} (h : ∀ w < 4, getF t (PHC.RETIRED.RETIRED w) = getF s (PHC.RETIRED.RETIRED w)) {k : Nat} (hk : k < 4) :
    serviceOrder t k = serviceOrder s k := List.filter_congr fun n hn => by rw [isRetired_congr h (phasesOf_lt hk hn)]

theorem startPh_congr {s t : State} {k : Nat} (hk : k < 4) (h : ∀ w < 4, getF t (PHC.RETIRED.RETIRED w) = getF s (PHC.RETIRED.RETIRED w))
    (h2 : getF t (PHC.SS_CTRL.START_PH k) = getF s (PHC.SS_CTRL.START_PH k)) : startPh t k = startPh s k := by
  have ha : availOf t k = availOf s k := by
    unfold availOf liveCount
    rw [List.filter_congr fun i hi => by rw [isRetired_congr h (phasesOf_lt hk (List.mem_map.2 ⟨i, hi, rfl⟩))]]
  unfold startPh getC
  rw [h2, ha]

/-- The rail's first phases of the service order regulate (R220). -/
theorem phasesStart_shown (k : Nat) (s : State) : (∀ n ∈ (serviceOrder s k).take (startPh s k), phaseSt (phasesStart k s) n = .regulating) ∧
    (phasesStart k s).regs = s.regs ∧ (phasesStart k s).sta = s.sta ∧ (phasesStart k s).phc.phFault = s.phc.phFault ∧
    (phasesStart k s).time = s.time := by
  have hp : ∀ (l : List Nat) (x : PhaseSt) (u : State), (u.regs = s.regs ∧ u.sta = s.sta ∧ u.phc.phFault = s.phc.phFault ∧ u.time = s.time) →
      (l.foldl (fun t n => setPhase t n x) u).regs = s.regs ∧ (l.foldl (fun t n => setPhase t n x) u).sta = s.sta ∧
      (l.foldl (fun t n => setPhase t n x) u).phc.phFault = s.phc.phFault ∧ (l.foldl (fun t n => setPhase t n x) u).time = s.time := fun l x u hu =>
    List.foldlRecOn (motive := fun v => v.regs = s.regs ∧ v.sta = s.sta ∧ v.phc.phFault = s.phc.phFault ∧ v.time = s.time) l
      (fun t n => setPhase t n x) hu fun v hv n _ => by
        obtain ⟨h1, h2, h3, h4⟩ := hv
        exact ⟨h1, h2, (PhaseMoves.setPhase v n x).phFault.trans h3, h4⟩
  unfold phasesStart
  dsimp only
  have h0 := hp ((phasesOf k).filter (isRetired s)) .retired s ⟨rfl, rfl, rfl, rfl⟩
  generalize ((phasesOf k).filter (isRetired s)).foldl (fun t n => setPhase t n .retired) s = u at *
  have h1 := hp ((serviceOrder s k).drop (startPh s k)) .standby u h0
  generalize ((serviceOrder s k).drop (startPh s k)).foldl (fun t n => setPhase t n .standby) u = v at *
  exact ⟨fun n hn => phaseSt_regulate hn v, hp _ .regulating v h1⟩

/-- Followers that ramp on their own: their TRACKING fields alone change (R222). -/
theorem leaderRefused_shown (k : Nat) (s : State) : (∀ f : Fld, (∀ j, f.key ≠ (PHC.RAIL_SEQ.TRACKING j).key) → getF (leaderRefused k s) f = getF s f) ∧
    (leaderRefused k s).sta = s.sta ∧ (leaderRefused k s).inbox = s.inbox ∧ (leaderRefused k s).phc.phFault = s.phc.phFault ∧
    (leaderRefused k s).time = s.time := by
  unfold leaderRefused
  refine List.foldlRecOn (motive := fun u => (∀ f : Fld, (∀ j, f.key ≠ (PHC.RAIL_SEQ.TRACKING j).key) → getF u f = getF s f) ∧ u.sta = s.sta ∧
    u.inbox = s.inbox ∧ u.phc.phFault = s.phc.phFault ∧ u.time = s.time) _ _ ⟨fun _ _ => rfl, rfl, rfl, rfl, rfl⟩ fun u ⟨h1, h2, h3, h4, h5⟩ j _ =>
    ⟨fun f hf => (getF_setB_ne _ _ (hf j)).trans ((getF_congr rfl f).trans (h1 f hf)), h2, h3, h4, h5⟩

end Sys2Proof.Machine
end

section
/-! O33. Rails that start, or are latched (R219 to R225). -/

namespace Sys2Proof.Machine

/-! ### The end of the probe (R219) -/

/-- A probe's outcome on record: whether the rail was pre-biased, and its start point. -/
def probeShown (k : Nat) (pre : Bool) (v : Nat) (s : State) : State :=
  setF (setB (setB s (PHC.RAIL_SEQ.PREBIASED k) pre) (PHC.RAIL_SEQ.TRACKING k) false) (PHC.RAIL_SEQ.START_V k) v

theorem probeShown_shown (k : Nat) (pre : Bool) (v : Nat) (s : State) : getF (probeShown k pre v s) (PHC.RAIL_SEQ.START_V k) = v % 4096 ∧
    (∀ f : Fld, f.key ≠ (PHC.RAIL_SEQ.PREBIASED k).key → f.key ≠ (PHC.RAIL_SEQ.TRACKING k).key → f.key ≠ (PHC.RAIL_SEQ.START_V k).key →
      getF (probeShown k pre v s) f = getF s f) ∧ (probeShown k pre v s).phc = s.phc ∧ (probeShown k pre v s).sta = s.sta ∧
    (probeShown k pre v s).inbox = s.inbox :=
  ⟨getF_setF_self .., fun f e1 e2 e3 => (getF_setF_ne _ _ e3).trans ((getF_setB_ne _ _ e2).trans (getF_setB_ne _ _ e1)), rfl, rfl, rfl⟩

/-- The rail is pre-biased (R219). -/
def preBiased (k : Nat) (s : State) : Bool := decide (1000000 * getC s PHC.START_CTRL.PREBIAS_MIN 20 200 ≤ startPoint s k)

/-- The rail's pre-bias passes the window of power good (R220). -/
def biasedHigh (k : Nat) (s : State) : Bool := decide (selNv s k + pgWinNv s < startPoint s k)

/-- The probe's outcome is on record. -/
def probeNoted (k : Nat) (s : State) : State := probeShown k (preBiased k s) (startPoint s k / 500000) s

theorem railProbeDone_high {k : Nat} {s : State} (h1 : railSt s k = rsProbe) (h2 : 40 ≤ (railRec s k).prN) (h3 : seqState s ≠ sqQuickStop)
    (h : selNv s k + ovNv s < startPoint s k) :
    railProbeDone k s = startFault k 0x67 3 (startPoint s k / 500000) (leaderRefused k (probeNoted k s)) := by
  unfold railProbeDone
  dsimp only
  rw [if_neg (by rintro (e | e | e) <;> [exact e h1; omega; exact h3 e]), if_pos h]
  rfl

theorem railProbeDone_idle {k : Nat} {s : State} (h : railSt s k ≠ rsProbe ∨ (railRec s k).prN < 40 ∨ seqState s = sqQuickStop) :
    railProbeDone k s = s := by
  unfold railProbeDone
  exact if_pos h

/-- The rail's soft start follows its leader. -/
def softLead (k : Nat) (s : State) : Bool :=
  match leaderOf s k with
  | some l => !biasedHigh k s && (railSt s l == rsProbe || (railSt s l == rsSoft && !(railRec s l).case2))
  | none => false

/-- A rail in soft start, before its phases are looked at. -/
def softState (k : Nat) (s : State) : State :=
  setB (setRailSt k rsSoft (if biasedHigh k s then leaderRefused k (probeNoted k s) else probeNoted k s))
    (PHC.RAIL_STATUS.DE k) true

/-- The reference that soft start begins with. -/
def softRef (k : Nat) (s : State) : Nat :=
  if biasedHigh k s then selNv s k
  else if preBiased k s || softLead k s then startPoint s k else 0

/-- The rail's record in soft start. -/
def softRail (k : Nat) (s : State) : Rail :=
  { railRec s k with
    ref := softRef k s
    tgt := selNv s k
    ramping := true
    delay := 0
    c := 0
    e1 := 0
    e2 := 0
    case2 := biasedHigh k s
    tracks := softLead k s
    doneAt := if softRef k s = selNv s k then some s.time.ticks else none
    prAt := s.time.ticks
    target := startPh s k }

theorem railProbeDone_soft {k : Nat} {s : State} (h1 : railSt s k = rsProbe) (h2 : 40 ≤ (railRec s k).prN) (h3 : seqState s ≠ sqQuickStop)
    (h : startPoint s k ≤ selNv s k + ovNv s) : railProbeDone k s =
      startFaults k (setB (setRail (phasesStart k (softState k s)) k (softRail k s)) (PHC.RAIL_SEQ.TRACKING k) (softLead k s)) := by
  unfold railProbeDone
  dsimp only
  rw [if_neg (by rintro (e | e | e) <;> [exact e h1; omega; exact h3 e]), if_neg (by omega)]
  rfl

theorem probeNoted_shown (k : Nat) (s : State) : getF (probeNoted k s) (PHC.RAIL_SEQ.START_V k) = startPoint s k / 500000 % 4096 ∧
    (∀ f : Fld, f.key ≠ (PHC.RAIL_SEQ.PREBIASED k).key → f.key ≠ (PHC.RAIL_SEQ.TRACKING k).key → f.key ≠ (PHC.RAIL_SEQ.START_V k).key →
      getF (probeNoted k s) f = getF s f) ∧ (probeNoted k s).phc = s.phc ∧ (probeNoted k s).sta = s.sta ∧ (probeNoted k s).inbox = s.inbox := by
  unfold probeNoted
  exact probeShown_shown ..

theorem softState_shown {k : Nat} (hk : k < 4) (s : State) : railSt (softState k s) k = rsSoft ∧ getB (softState k s) (PHC.RAIL_STATUS.DE k) = true ∧
    getF (softState k s) (PHC.RAIL_SEQ.START_V k) = startPoint s k / 500000 % 4096 ∧
    (∀ w < 4, getF (softState k s) (PHC.RETIRED.RETIRED w) = getF s (PHC.RETIRED.RETIRED w)) ∧
    getF (softState k s) (PHC.SS_CTRL.START_PH k) = getF s (PHC.SS_CTRL.START_PH k) ∧
    (softState k s).sta = s.sta ∧ (softState k s).phc.phFault = s.phc.phFault := by
  have hkeys := railKeys k
  unfold softState
  obtain ⟨n1, n2, n3, n4, n5⟩ := probeNoted_shown k s
  generalize probeNoted k s = z at *
  generalize startPoint s k / 500000 % 4096 = v at *
  generalize biasedHigh k s = b at *
  obtain ⟨l1, l2, l3, l4, l5⟩ := leaderRefused_shown k z
  have hx : getF (if b then leaderRefused k (z) else z) (PHC.RAIL_SEQ.START_V k) =
      v ∧
      (∀ f : Fld, (∀ j, f.key ≠ (PHC.RAIL_SEQ.TRACKING j).key) → f.key ≠ (PHC.RAIL_SEQ.PREBIASED k).key → f.key ≠ (PHC.RAIL_SEQ.START_V k).key →
        getF (if b then leaderRefused k (z) else z) f = getF s f) ∧
      (if b then leaderRefused k (z) else z).sta = s.sta ∧
      (if b then leaderRefused k (z) else z).phc.phFault = s.phc.phFault := by
    split
    · exact ⟨(l1 _ fun j => by have := railKeys j; omega).trans n1, fun f e1 e2 e3 => (l1 f e1).trans (n2 f e2 (e1 k) e3), l2.trans n4,
        l4.trans (by rw [n3])⟩
    · exact ⟨n1, fun f e1 e2 e3 => n2 f e2 (e1 k) e3, n4, by rw [n3]⟩
  generalize (if b then leaderRefused k (z) else z) = x at *
  obtain ⟨x1, x2, x3, x4⟩ := hx
  have hst : ∀ f : Fld, f.key ≠ (PHC.RAIL_STATUS.DE k).key → f.key ≠ (PHC.RAIL_SEQ.STATE k).key →
      getF (setB (setRailSt k rsSoft x) (PHC.RAIL_STATUS.DE k) true) f = getF x f := fun f e1 e2 => (getF_setB_ne _ _ e1).trans (getF_setF_ne x rsSoft e2)
  have hsp : (PHC.SS_CTRL.START_PH k).key = 32 * (0x60420 + 4 * k) + 8 := by simp only [PHC.SS_CTRL.START_PH, fld]; omega
  refine ⟨(getF_setB_ne _ _ (by omega)).trans (getF_setF_self x ..), getB_setB_self _ _ _ rfl, (hst _ (by omega) (by omega)).trans x1, fun w hw => ?_, ?_, ((setB_sta _ _ _).trans (setF_sta _ _ _)).trans x3,
    (congrArg PhcState.phFault ((setB_phc _ _ _).trans (setF_phc _ _ _))).trans x4⟩
  · have hr := retired_key_eq w
    exact (hst _ (by omega) (by omega)).trans (x2 _ (fun j => by have := railKeys j; omega) (by omega) (by omega))
  · exact (hst _ (by omega) (by omega)).trans (x2 _ (fun j => by have := railKeys j; omega) (by omega) (by omega))

/-- A rail in soft start, before its faulty phases are seen. -/
def softBegun (k : Nat) (s : State) : State :=
  setB (setRail (phasesStart k (softState k s)) k (softRail k s)) (PHC.RAIL_SEQ.TRACKING k) (softLead k s)

/-- A rail in soft start with its record, its start point and its first phases. -/
structure SoftShown (k : Nat) (s t : State) : Prop where
  state : railSt t k = rsSoft
  de : inDe t k = true
  point : getF t (PHC.RAIL_SEQ.START_V k) = startPoint s k / 500000 % 4096
  tgt : (railRec t k).tgt = selNv s k
  ramping : (railRec t k).ramping = true
  case2 : (railRec t k).case2 = biasedHigh k s
  ref : (railRec t k).ref = softRef k s
  sta : t.sta = s.sta

theorem railTracks_shown (p : State) (k : Nat) (r : Rail) (b : Bool) :
    (∀ f : Fld, f.key ≠ (PHC.RAIL_SEQ.TRACKING k).key → getF (setB (setRail p k r) (PHC.RAIL_SEQ.TRACKING k) b) f = getF p f) ∧
    railRec (setB (setRail p k r) (PHC.RAIL_SEQ.TRACKING k) b) k = r ∧ (setB (setRail p k r) (PHC.RAIL_SEQ.TRACKING k) b).sta = p.sta ∧
    (setB (setRail p k r) (PHC.RAIL_SEQ.TRACKING k) b).phc.phFault = p.phc.phFault ∧
    ∀ n, phaseSt (setB (setRail p k r) (PHC.RAIL_SEQ.TRACKING k) b) n = phaseSt p n :=
  ⟨fun f h => (getF_setB_ne _ _ h).trans (getF_congr rfl f), railRec_setRail_self p k r, rfl, rfl, fun _ => rfl⟩

theorem softBegun_shown {k : Nat} (hk : k < 4) (s : State) : SoftShown k s (softBegun k s) ∧
    (∀ w < 4, getF (softBegun k s) (PHC.RETIRED.RETIRED w) = getF s (PHC.RETIRED.RETIRED w)) ∧
    (softBegun k s).phc.phFault = s.phc.phFault ∧
    ∀ n ∈ (serviceOrder s k).take (startPh s k), phaseSt (softBegun k s) n = .regulating := by
  have hkeys := railKeys k
  obtain ⟨x1, x2, x3, x4, x5, x6, x7⟩ := softState_shown hk s
  unfold softBegun
  generalize softState k s = x at *
  obtain ⟨p1, p2, p3, p4, -⟩ := phasesStart_shown k x
  rw [serviceOrder_congr x4 hk, startPh_congr hk x4 x5] at p1
  generalize phasesStart k x = p at *
  obtain ⟨r1, r2, r3, r4⟩ : (softRail k s).tgt = selNv s k ∧ (softRail k s).ramping = true ∧ (softRail k s).case2 = biasedHigh k s ∧
    (softRail k s).ref = softRef k s := ⟨rfl, rfl, rfl, rfl⟩
  generalize softRail k s = r at *
  generalize softLead k s = b
  obtain ⟨q1, q2, q3, q4, q5⟩ := railTracks_shown p k r b
  generalize setB (setRail p k r) (PHC.RAIL_SEQ.TRACKING k) b = q at *
  have hf : ∀ f : Fld, f.key ≠ (PHC.RAIL_SEQ.TRACKING k).key → getF q f = getF x f := fun f h => (q1 f h).trans (getF_congr p2 f)
  refine ⟨⟨(hf _ (by omega)).trans x1, (getB_congr (hf _ (by omega))).trans x2, (hf _ (by omega)).trans x3, by rw [q2]; exact r1,
    by rw [q2]; exact r2, by rw [q2]; exact r3, by rw [q2]; exact r4, q3.trans (p3.trans x6)⟩, fun w hw => ?_, q4.trans (p4.trans x7),
    fun n hn => (q5 n).trans (p1 n hn)⟩
  have := retired_key_eq w
  exact (hf _ (by omega)).trans (x4 w hw)

theorem railProbeDone_shown {k : Nat} (hk : k < 4) {s : State} (h1 : railSt s k = rsProbe) (h2 : 40 ≤ (railRec s k).prN)
    (h3 : seqState s ≠ sqQuickStop) (h : startPoint s k ≤ selNv s k + ovNv s) : SoftShown k s (railProbeDone k s) ∧
    ∀ n ∈ (serviceOrder s k).take (startPh s k), phaseSt (railProbeDone k s) n = (if bit s.phc.phFault n = true then .retired else .regulating) := by
  have hkeys := railKeys k
  have heq : railProbeDone k s = startFaults k (softBegun k s) := railProbeDone_soft h1 h2 h3 h
  obtain ⟨b1, b2, b3, b4⟩ := softBegun_shown hk s
  rw [heq]
  generalize softBegun k s = b at *
  have hs := FaultsSeen.startFaults hk b
  obtain ⟨r1, r2, r3, r4⟩ := hs.rails k
  have hf : ∀ f : Fld, (∀ w < 4, f.key ≠ 32 * (0x60080 + 4 * w)) → f.key < 32 * 0x80000 → getF (startFaults k b) f = getF b f := fun f e1 e2 =>
    hs.fields f (fun w hw => by rw [retired_key_eq]; exact e1 w hw) (fun he => absurd (he ▸ e2) (by decide)) (fun he => absurd (he ▸ e2) (by decide))
  refine ⟨⟨(hf _ (fun w hw => by omega) (by omega)).trans b1.state, (getB_congr (hf _ (fun w hw => by omega) (by omega))).trans b1.de,
    (hf _ (fun w hw => by omega) (by omega)).trans b1.point, r1.trans b1.tgt, r2.trans b1.ramping, r3.trans b1.case2, r4.trans b1.ref,
    hs.sta.trans b1.sta⟩, fun n hn => ?_⟩
  have hso : n ∈ serviceOrder s k := List.mem_of_mem_take hn
  have hlt : n < 98 := phasesOf_lt hk (List.mem_filter.1 hso).1
  have hph := phaseFaults_phase (l := (serviceOrder b k).filter (fun m => bit b.phc.phFault m)) hlt (b4 n hn)
  rw [serviceOrder_congr b2 hk, b3] at hph
  unfold startFaults
  rw [serviceOrder_congr b2 hk, b3, hph]
  simp [List.mem_filter, hso]

/-! ### Power good (R221) -/

/-- The rail is ON, with the phases that its current wants. -/
def goodRail (k due : Nat) (s : State) : State :=
  let s1 := setRailSt k rsOn (setRail s k { railRec s k with ramping := false, tracks := false, case2 := false, target := countedOf s k })
  let s2 := setB s1 (PHC.RAIL_STATUS.DE k) (bit (getF s1 PHC.DE_CTRL.DE_EN) k)
  let s3 := if k = 0 then regate s2 else s2
  raiseTarget k (setDue due s3)

theorem railPowerGood_eq (k : Nat) (s : State) : railPowerGood k s =
    if railSt s k ≠ rsSoft ∨ (railRec s k).ref ≠ (railRec s k).tgt ∨ (railRec s k).pgRun < 40 then s
    else startDone (goodRail k (s.time.ticks + us (getC s PHC.SEQ_CTRL.SEQ_GAP 10 255)) s) := rfl

/-- What a rail that is ON shows. -/
structure GoodShown (k due : Nat) (s t : State) : Prop where
  state : railSt t k = rsOn
  others : ∀ j < 4, j ≠ k → railSt t j = railSt s j
  due : t.phc.due = due
  ramping : (railRec t k).ramping = false
  sta : t.sta = s.sta

theorem goodRail_shown {k : Nat} (hk : k < 4) (due : Nat) (s : State) : GoodShown k due s (goodRail k due s) ∧
    seqState (goodRail k due s) = seqState s ∧ (goodRail k due s).phc.stop = s.phc.stop ∧ (goodRail k due s).inbox = s.inbox := by
  have hkeys := railKeys k
  unfold goodRail
  extract_lets src s1 s2 s3
  have h1 : (∀ f : Fld, f.key ≠ (PHC.RAIL_SEQ.STATE k).key → getF s1 f = getF s f) ∧ railSt s1 k = rsOn ∧ (railRec s1 k).ramping = false ∧
      s1.sta = s.sta ∧ s1.phc.stop = s.phc.stop ∧ s1.inbox = s.inbox := by
    refine ⟨fun f h => (getF_setF_ne _ _ h).trans (getF_congr rfl f), getF_setF_self (setRail s k _) (PHC.RAIL_SEQ.STATE k) rsOn, ?_, rfl, rfl, rfl⟩
    rw [show railRec s1 k = _ from railRec_setRail_self s k _]
  clear_value s1
  obtain ⟨a1, a2, a3, a4, a5, a6⟩ := h1
  have h2 : (∀ f : Fld, f.key ≠ (PHC.RAIL_STATUS.DE k).key → getF s2 f = getF s1 f) ∧ s2.phc = s1.phc ∧ s2.sta = s1.sta ∧ s2.inbox = s1.inbox :=
    ⟨fun f h => getF_setB_ne _ _ h, rfl, rfl, rfl⟩
  clear_value s2
  obtain ⟨b1, b2, b3, b4⟩ := h2
  have h3 : s3.regs = s2.regs ∧ s3.phc = s2.phc ∧ s3.sta = s2.sta ∧ s3.inbox = s2.inbox := by
    unfold s3
    split <;> exact ⟨rfl, rfl, rfl, rfl⟩
  clear_value s3
  obtain ⟨c1, c2, c3, c4⟩ := h3
  have h4 : (setDue due s3).regs = s3.regs ∧ (setDue due s3).phc.rails = s3.phc.rails ∧ (setDue due s3).phc.stop = s3.phc.stop ∧
      (setDue due s3).phc.due = due ∧ (setDue due s3).sta = s3.sta ∧ (setDue due s3).inbox = s3.inbox := ⟨rfl, rfl, rfl, rfl, rfl, rfl⟩
  generalize setDue due s3 = s4 at *
  obtain ⟨d1, d2, d3, d4, d5, d6⟩ := h4
  have he := (EndKeeps.refl s4).raiseTarget k
  have hf := FaultsSeen.raiseTarget k s4
  obtain ⟨-, r2, -, -⟩ := hf.rails k
  have hin : (raiseTarget k s4).inbox = s4.inbox := by
    have hb : ∀ u : State, (bringIn k u).inbox = u.inbox := fun u =>
      List.foldlRecOn (motive := fun (v : State) => v.inbox = u.inbox) _ _ rfl fun v hv n _ => by
        rw [setPhase_inbox]
        exact hv
    unfold raiseTarget
    split
    · rfl
    · split <;> exact hb _
  generalize raiseTarget k s4 = u at *
  have hget : ∀ f : Fld, 32 * 0x60400 ≤ f.key → f.key < 32 * 0x60440 → getF u f = getF s1 f := fun f e1 e2 =>
    (he.regs f (.inl ⟨e1, e2⟩)).trans ((getF_congr d1 f).trans ((getF_congr c1 f).trans (b1 f (by omega))))
  refine ⟨⟨(hget _ (by omega) (by omega)).trans a2, fun j hj hne => ?_, by rw [he.phc]; exact d4, ?_, ?_⟩, ?_, ?_, ?_⟩
  · have hj := railKeys j
    exact (hget _ (by omega) (by omega)).trans (a1 _ (by omega))
  · rw [r2]
    unfold railRec at a3 ⊢
    rw [d2, c2, b2]
    exact a3
  · rw [hf.sta, d5, c3, b3, a4]
  · exact (hget _ (by omega) (by omega)).trans (a1 _ (by omega))
  · rw [he.phc]
    change s4.phc.stop = _
    rw [d3, c2, b2, a5]
  · rw [hin, d6, c4, b4, a6]

theorem startDone_shown {k due : Nat} (hk : k < 4) {s u : State} (h : GoodShown k due s u) (hq : seqState u = seqState s)
    (hs : u.phc.stop = s.phc.stop) (hi : u.inbox = s.inbox) : GoodShown k due s (startDone u) ∧
    ((∀ j < 4, j ≠ k → railSt s j = rsOn) → seqState s = sqStarting → s.phc.stop ≠ 5 → seqState (startDone u) = sqUp ∧
      (roomRec s → eventWaits 0x0604 (startDone u))) := by
  obtain ⟨g1, g2, g3, g4, g5⟩ := h
  unfold startDone
  split
  · next h5 =>
    rw [hs] at h5
    refine ⟨?_, fun _ _ hne => absurd h5 hne⟩
    split <;> exact ⟨g1, g2, g3, g4, g5⟩
  · split
    · next h6 =>
      have hroom : roomRec (setSeqState sqUp u) = roomRec s := by
        unfold roomRec waitingRecs
        rw [show (setSeqState sqUp u).inbox = u.inbox from rfl, hi]
      have hkeep : ∀ f : Fld, f.key ≠ PHC.SEQ_STATUS.SEQ_STATE.key → f.key ≠ EVR.COUNTS.DROPPED.key →
          getF (event 0x0604 (railStates u) (setSeqState sqUp u)) f = getF u f := fun f e1 e2 =>
        (getF_event _ _ _ e2).trans (getF_setF_ne _ _ e1)
      have hd : 32 * 0x80000 ≤ EVR.COUNTS.DROPPED.key := by decide
      have hst : ∀ j < 4, railSt (event 0x0604 (railStates u) (setSeqState sqUp u)) j = railSt u j := fun j hj => by
        have := railKeys j
        exact hkeep _ (by omega) (by omega)
      have hphc : (event 0x0604 (railStates u) (setSeqState sqUp u)).phc = u.phc := event_phc ..
      refine ⟨⟨(hst k hk).trans g1, fun j hj hne => (hst j hj).trans (g2 j hj hne), by rw [hphc]; exact g3, by unfold railRec at g4 ⊢; rw [hphc]; exact g4,
        (event_sta ..).trans g5⟩, fun _ _ _ => ⟨?_, fun hr => eventWaits_event (by rw [hroom]; exact hr)⟩⟩
      exact (getF_event _ _ _ (by decide)).trans (getF_setF_self u PHC.SEQ_STATUS.SEQ_STATE sqUp)
    · next h6 =>
      refine ⟨⟨g1, g2, g3, g4, g5⟩, fun hall hst _ => absurd ⟨hq.trans hst, ?_⟩ h6⟩
      refine List.all_eq_true.2 fun j hj => beq_iff_eq.2 ?_
      by_cases hne : j = k
      · rw [hne]; exact g1
      · exact (g2 j (lt_of_mem_rails4 hj) hne).trans (hall j (lt_of_mem_rails4 hj) hne)

theorem SoftShown.settle {k : Nat} (hk : k < 4) {s t : State} (hn : noEnd s) (h : SoftShown k s t) : SoftShown k s (Machine.settle t) := by
  have hkeys := railKeys k
  have hnt : noEnd t := noEnd_congr hn h.sta
  have ho : 32 * 0x80000 ≤ TST.CTRL.OVERRIDE.key := by decide
  have hr : railRec (Machine.settle t) k = railRec t k := by
    unfold railRec
    rw [settle_phc hnt]
  exact ⟨(getF_settle t hnt (by omega)).trans h.state, (getB_congr (getF_settle t hnt (by omega))).trans h.de,
    (getF_settle t hnt (by omega)).trans h.point, by rw [hr]; exact h.tgt, by rw [hr]; exact h.ramping, by rw [hr]; exact h.case2,
    by rw [hr]; exact h.ref, (settle_sta hnt).trans h.sta⟩

theorem GoodShown.settle {k due : Nat} (hk : k < 4) {s t : State} (hn : noEnd s) (h : GoodShown k due s t) : GoodShown k due s (Machine.settle t) := by
  have hnt : noEnd t := noEnd_congr hn h.sta
  have hr : railRec (Machine.settle t) k = railRec t k := by
    unfold railRec
    rw [settle_phc hnt]
  have hst : ∀ j < 4, railSt (Machine.settle t) j = railSt t j := fun j hj => by
    have := railKeys j
    have ho : 32 * 0x80000 ≤ TST.CTRL.OVERRIDE.key := by decide
    exact getF_settle t hnt (by omega)
  exact ⟨(hst k hk).trans h.state, fun j hj hne => (hst j hj).trans (h.others j hj hne), by rw [settle_phc hnt]; exact h.due,
    by rw [hr]; exact h.ramping, (settle_sta hnt).trans h.sta⟩

/-- A start-up fault's answer, from what its handler does. -/
theorem answers_startFault {i : Instr} {dt : Nat} {f : State → State} {s a u : State} {k kind cause info : Nat} (hk : k < 4) (hc : cause < 16)
    (ha : a = advance dt s) (he : exec i s = act i dt f s) (hw : i.wf = true) (hf : f a = startFault k kind cause info u) (hr : roomMsg u) :
    Answers i s (fun t => railSt t k = rsLatch ∧ bit (getF t PHC.LATCH.LATCHED) k = true ∧ getF t (PHC.RAIL_SEQ.CAUSE k) = cause ∧
      messageWaits kind (0x690 + k) info t ∧ (seqState t = sqFaultStop ∨ seqState t = sqIdle)) := by
  refine answers_eq ha he hw hf ?_
  obtain ⟨l1, l2, l3, l4, l5⟩ := (startFault_shown (kind := kind) (info := info) hk hc u).settle hk
  exact ⟨l1, l2, l3, l4 hr, l5⟩

theorem roomMsg_probeNoted (k : Nat) {s : State} (h : roomMsg s) : roomMsg (leaderRefused k (probeNoted k s)) := by
  have hi : (leaderRefused k (probeNoted k s)).inbox = s.inbox := (leaderRefused_shown k _).2.2.1.trans (probeNoted_shown k s).2.2.2.2
  unfold roomMsg waitingMsgs at h ⊢
  rw [hi]
  exact h

theorem softRef_pre {k : Nat} {s : State} (h : startPoint s k ≤ selNv s k + pgWinNv s) (hl : leaderOf s k = none) :
    softRef k s = if 1000000 * getC s PHC.START_CTRL.PREBIAS_MIN 20 200 ≤ startPoint s k then startPoint s k else 0 := by
  have hb : biasedHigh k s = false := decide_eq_false (Nat.not_lt.mpr h)
  have hs : softLead k s = false := by
    unfold softLead
    rw [hl]
  unfold softRef
  rw [hb, hs, Bool.or_false, if_neg Bool.false_ne_true]
  unfold preBiased
  exact if_congr decide_eq_true_iff rfl rfl

theorem softRef_high {k : Nat} {s : State} (h : selNv s k + pgWinNv s < startPoint s k) : softRef k s = selNv s k :=
  if_pos (decide_eq_true h)

end Sys2Proof.Machine

open Sys2Proof Sys2Proof.Machine

/-- Settles O33: the end of the probe, power good, and the five start-up faults. -/
theorem railsStartOrLatch : Obligations.RailsStartOrLatch := by
  unfold Obligations.RailsStartOrLatch
  intro dt s a ha k hk latched
  have hn : noEnd a := ha ▸ noEnd_advance dt s
  refine ⟨fun h1 h2 h3 => ⟨fun h => ?_, fun h hr => ?_⟩, fun h => ?_, fun h1 h2 h3 => ?_, fun h => ?_, fun harm hr =>
    ⟨fun t0 h1 h2 h3 h4 h5 h6 => ?_, fun h1 h2 h3 => ?_, fun h1 h2 h3 => ?_, fun h1 h2 => ?_, fun h1 h2 => ?_⟩, fun harm => ?_⟩
  · refine answers_of ha (exec_railProbeDone ..) (by simp [Instr.wf, hk]) ?_
    obtain ⟨p1, p2⟩ := railProbeDone_shown hk h1 h2 h3 h
    have hnt := noEnd_congr hn p1.sta
    obtain ⟨e1, e2, e3, e4, e5, e6, e7, -⟩ := p1.settle hk hn
    refine ⟨e1, e2, e3, e4, e5, e6, fun hh => e7.trans (softRef_high hh), fun hh hl => e7.trans (softRef_pre hh hl), fun n hm => ?_⟩
    rw [phaseSt_congr (settle_phc hnt)]
    exact p2 n hm
  · exact answers_startFault hk (by decide) ha (exec_railProbeDone ..) (by simp [Instr.wf, hk]) (railProbeDone_high h1 h2 h3 h)
      (roomMsg_probeNoted k hr)
  · exact answers_untouched ha (exec_railProbeDone ..) (by simp [Instr.wf, hk]) (railProbeDone_idle h)
  · obtain ⟨g1, g2, g3, g4⟩ := goodRail_shown hk (a.time.ticks + us (getC a PHC.SEQ_CTRL.SEQ_GAP 10 255)) a
    refine answers_eq ha (exec_railPowerGood ..) (by simp [Instr.wf, hk]) ((railPowerGood_eq k a).trans (if_neg ?_)) ?_
    · rintro (e | e | e)
      · exact e h1
      · exact e h2
      · omega
    · generalize a.time.ticks + us (getC a PHC.SEQ_CTRL.SEQ_GAP 10 255) = due at *
      obtain ⟨d1, d2⟩ := startDone_shown hk g1 g2 g3 g4
      generalize startDone (goodRail k due a) = u at *
      have hnu := noEnd_congr hn d1.sta
      obtain ⟨e1, -, e3, e4, -⟩ := d1.settle hk hn
      refine ⟨e1, e3, e4, fun hall hq hs => ?_⟩
      obtain ⟨c1, c2⟩ := d2 hall hq hs
      exact ⟨(getF_settle u hnu (by decide)).trans c1, fun hr => (eventWaits_congr (settle_inbox hnu)).2 (c2 hr)⟩
  · refine answers_untouched ha (exec_railPowerGood ..) (by simp [Instr.wf, hk]) ((railPowerGood_eq k a).trans (if_pos ?_))
    rcases h with h | h
    · exact .inl h
    · exact .inr (.inr h)
  · refine answers_startFault hk (by decide) ha (exec_railPgTimeout ..) (by simp [Instr.wf, hk]) ?_ hr
    unfold railPgTimeout
    simp only [h1]
    exact if_pos ⟨h3, by simp [h4], h5, h2, h6, harm⟩
  · refine answers_startFault hk (by decide) ha (exec_railPrebiasHigh ..) (by simp [Instr.wf, hk]) ?_ hr
    exact if_pos ⟨h1, h2, h3, harm⟩
  · refine answers_startFault hk (by decide) ha (exec_railShortStart ..) (by simp [Instr.wf, hk]) ?_ hr
    exact if_pos ⟨h1, h2, h3, harm⟩
  · refine answers_startFault hk (by decide) ha (exec_railStartStall ..) (by simp [Instr.wf, hk]) ?_ hr
    exact if_pos ⟨h1, h2, harm⟩
  · refine answers_startFault hk (by decide) ha (exec_railOv ..) (by simp [Instr.wf, hk]) ?_ hr
    exact if_pos ⟨h1, h2, harm⟩
  · have hno : ¬ faultsArmed a = true := by rw [harm]; decide
    refine ⟨answers_untouched ha (exec_railPgTimeout ..) (by simp [Instr.wf, hk]) ?_,
      answers_untouched ha (exec_railPrebiasHigh ..) (by simp [Instr.wf, hk]) (if_neg fun h => hno h.2.2.2),
      answers_untouched ha (exec_railShortStart ..) (by simp [Instr.wf, hk]) (if_neg fun h => hno h.2.2.2),
      answers_untouched ha (exec_railStartStall ..) (by simp [Instr.wf, hk]) (if_neg fun h => hno h.2.2),
      answers_untouched ha (exec_railOv ..) (by simp [Instr.wf, hk]) (if_neg fun h => hno h.2.2)⟩
    unfold railPgTimeout
    dsimp only
    split
    · exact if_neg fun h => hno h.2.2.2.2.2
    · rfl
end

section
/-! O32. The start of the rails (R215 to R217). -/

namespace Sys2Proof.Machine

theorem seqCtrl_ownReg : OwnReg 0x60408 := ⟨rfl, by decide +kernel, by decide +kernel, by decide +kernel, fun _ => notIts_false rfl rfl rfl rfl⟩

/-- Rails that enter the probe together: they probe, the others stay where they are, and nothing else of the sequence moves. -/
theorem enterProbes_shown (l : List Nat) (hl : ∀ k ∈ l, k < 4) (s : State) :
    (∀ k ∈ l, railSt (l.foldl (fun t j => enterProbe j t) s) k = rsProbe) ∧
    (∀ j < 4, j ∉ l → railSt (l.foldl (fun t j => enterProbe j t) s) j = railSt s j) ∧
    seqState (l.foldl (fun t j => enterProbe j t) s) = seqState s := by
  induction l generalizing s with
  | nil => exact ⟨fun _ h => absurd h (by simp), fun _ _ _ => rfl, rfl⟩
  | cons x r ih =>
    have hx : x < 4 := hl x (by simp)
    have hkeys := railKeys x
    have hg := railOff_shown (st := rsProbe) hx (by decide) s
    obtain ⟨i1, i2, i3⟩ := ih (fun k hk => hl k (by simp [hk])) (enterProbe x s)
    have hst : ∀ j, railSt (enterProbe x s) j = railSt (railOff x rsProbe s) j := fun _ => getF_congr rfl _
    have hsq : seqState (enterProbe x s) = seqState (railOff x rsProbe s) := getF_congr rfl _
    rw [List.foldl_cons]
    refine ⟨fun k hk => ?_, fun j hj hne => ?_, i3.trans (hsq.trans (hg.fields _ (by omega) (by omega) (by omega)))⟩
    · by_cases hkr : k ∈ r
      · exact i1 k hkr
      · obtain rfl := (List.mem_cons.1 hk).resolve_right hkr
        exact (i2 k hx hkr).trans ((hst k).trans hg.state)
    · obtain ⟨e1, e2⟩ : j ≠ x ∧ j ∉ r := by simpa using hne
      exact (i2 j hj e2).trans ((hst j).trans (hg.others hj hx e1))

theorem starters_lt {k : Nat} {s : State} {l : List Nat} (h : l = rails4.filter (fun j => railSt s j == rsWait && (j == k || leaderOf s j == some k))) :
    ∀ j ∈ l, j < 4 := fun j hj => lt_of_mem_rails4 (List.mem_filter.1 (h ▸ hj)).1

/-- The rail's leader waits too. -/
def followsWaiting (s : State) (k : Nat) : Bool :=
  match leaderOf s k with
  | some l => railSt s l == rsWait && decide (l ≠ k)
  | none => false

/-- The rail that the next slot begins with. -/
def slotFirst (s : State) : Option Nat := (startOrder s).find? (fun k => railSt s k == rsWait && !followsWaiting s k)

theorem slotBegin_eq (s : State) : slotBegin s =
    match slotFirst s with
    | some k => (rails4.filter (fun j => railSt s j == rsWait && (j == k || leaderOf s j == some k))).foldl (fun t j => enterProbe j t) s
    | none => s := rfl

theorem startOrder_getElem {s : State} {q : Nat} (h : q < (startOrder s).length) : (startOrder s)[q] = orderAt s q := by
  have hr : rails4 = List.range 4 := rfl
  simp [startOrder, hr]

/-- Where the first rail that waits, in start order, follows no other, it is probed with those that follow it (R217, R222). -/
theorem slotBegin_shown {p : Nat} (hp : p < 4) {s : State} (hw : railSt s (orderAt s p) = rsWait) (hl : leaderOf s (orderAt s p) = none)
    (hq : ∀ q < p, railSt s (orderAt s q) ≠ rsWait) : railSt (slotBegin s) (orderAt s p) = rsProbe ∧
    (∀ j < 4, railSt s j ≠ rsWait ∨ (j ≠ orderAt s p ∧ leaderOf s j ≠ some (orderAt s p)) → railSt (slotBegin s) j = railSt s j) ∧
    seqState (slotBegin s) = seqState s := by
  have hfind : slotFirst s = some (orderAt s p) := by
    refine List.find?_eq_some_iff_getElem.2 ⟨?_, p, by simpa [startOrder, rails4] using hp, startOrder_getElem _, fun q hqp => ?_⟩
    · unfold followsWaiting
      rw [hw, hl]
      rfl
    · rw [startOrder_getElem]
      simp [hq q hqp]
  have heq : slotBegin s = (rails4.filter (fun j => railSt s j == rsWait && (j == orderAt s p || leaderOf s j == some (orderAt s p)))).foldl
      (fun t j => enterProbe j t) s := by
    rw [slotBegin_eq, hfind]
  obtain ⟨e1, e2, e3⟩ := enterProbes_shown _ (starters_lt (s := s) (k := orderAt s p) rfl) s
  rw [heq]
  refine ⟨e1 _ (List.mem_filter.2 ⟨(by decide : ∀ k < 4, k ∈ rails4) _ (orderAt_lt s p), by simp [hw]⟩), fun j hj h => e2 j hj fun hm => ?_, e3⟩
  have hf := (List.mem_filter.1 hm).2
  simp only [Bool.and_eq_true, Bool.or_eq_true, beq_iff_eq] at hf
  rcases h with h | ⟨h1, h2⟩
  · exact h hf.1
  · exact hf.2.elim h1 h2

/-- Every rail waits for its slot. -/
def railsWait (s : State) : State := rails4.foldl (fun u k => setRailSt k rsWait u) s

theorem railsWait_shown (s : State) : (∀ j < 4, railSt (railsWait s) j = rsWait) ∧
    ∀ f : Fld, (∀ j < 4, f.key ≠ (PHC.RAIL_SEQ.STATE j).key) → getF (railsWait s) f = getF s f := by
  have hall : ∀ (l : List Nat) (u : State), (∀ j ∈ l, j < 4) → (∀ j < 4, j ∈ l ∨ railSt u j = rsWait →
      railSt (l.foldl (fun u k => setRailSt k rsWait u) u) j = rsWait) ∧
      ∀ f : Fld, (∀ j < 4, f.key ≠ (PHC.RAIL_SEQ.STATE j).key) → getF (l.foldl (fun u k => setRailSt k rsWait u) u) f = getF u f := by
    intro l
    induction l with
    | nil => exact fun u _ => ⟨fun j _ h => h.resolve_left (by simp), fun _ _ => rfl⟩
    | cons x r ih =>
      intro u hl
      have hx : x < 4 := hl x (by simp)
      obtain ⟨i1, i2⟩ := ih (setRailSt x rsWait u) fun j hj => hl j (by simp [hj])
      rw [List.foldl_cons]
      refine ⟨fun j hj h => i1 j hj ?_, fun f hf => (i2 f hf).trans (getF_setF_ne u _ (hf x hx))⟩
      by_cases hjx : j = x
      · exact .inr (hjx ▸ getF_setF_self u (PHC.RAIL_SEQ.STATE x) rsWait)
      · rcases h with h | h
        · exact .inl ((List.mem_cons.1 h).resolve_left hjx)
        · have h1 := railKeys x
          have h2 := railKeys j
          exact .inr ((getF_setF_ne u rsWait (by omega)).trans h)
  obtain ⟨h1, h2⟩ := hall rails4 s fun j => lt_of_mem_rails4
  exact ⟨fun j hj => h1 j hj (.inl ((by decide : ∀ k < 4, k ∈ rails4) j hj)), h2⟩

theorem leaderOf_congr {s t : State} {k : Nat} (h1 : getF t (PHC.SS_CTRL.TRACK_MODE k) = getF s (PHC.SS_CTRL.TRACK_MODE k))
    (h2 : getF t (PHC.SS_CTRL.TRACK_SRC k) = getF s (PHC.SS_CTRL.TRACK_SRC k)) : leaderOf t k = leaderOf s k := by
  unfold leaderOf trackMode
  rw [h1, h2]

theorem trackKeys (k : Nat) : (PHC.SS_CTRL.TRACK_MODE k).key / 32 = 0x60420 + 4 * k ∧ (PHC.SS_CTRL.TRACK_SRC k).key / 32 = 0x60420 + 4 * k := by
  simp only [PHC.SS_CTRL.TRACK_MODE, PHC.SS_CTRL.TRACK_SRC, fld]
  omega

theorem busSettleDone_settled {s : State} {t0 : Nat} (hg : s.phc.goodAt = some t0) (hw : busWait s = true)
    (ht : t0 + 1000 * getC s PHC.START_CTRL.BUS_SETTLE 10 255 ≤ s.time.ticks) : busSettleDone s = slotBegin (railsWait s) := by
  unfold busSettleDone
  simp only [hg, hw]
  exact if_pos (by simpa using ht)

theorem busSettleDone_early {s : State} (h : busWait s = false ∨ ∃ t0, s.phc.goodAt = some t0 ∧
    s.time.ticks < t0 + 1000 * getC s PHC.START_CTRL.BUS_SETTLE 10 255) : busSettleDone s = s := by
  unfold busSettleDone
  rcases h with h | ⟨t0, hg, ht⟩
  · rw [h]
    cases s.phc.goodAt <;> rfl
  · simp only [hg]
    exact if_neg (by simp; omega)

/-- The bus has not settled: the start ends with its fault (R216). -/
def busFailed (info : Nat) (s : State) : State := setSeqState sqIdle (setB (sendFault 0x6A 0x694 info s) PHC.SEQ_STATUS.BUS_EN false)

theorem busFailed_shown {s : State} (hn : noEnd s) (info : Nat) (hr : roomMsg s) : seqState (settle (busFailed info s)) = sqIdle ∧
    getB (settle (busFailed info s)) PHC.SEQ_STATUS.BUS_EN = false ∧ messageWaits 0x6A 0x694 info (settle (busFailed info s)) ∧
    unitsSame s (settle (busFailed info s)) ∧ fieldsBut [PHC.SEQ_STATUS.SEQ_STATE, PHC.SEQ_STATUS.BUS_EN] s (settle (busFailed info s)) := by
  have hm : messageWaits 0x6A 0x694 info (sendFault 0x6A 0x694 info s) := messageWaits_sendFault hr
  have hu : unitsSame s (sendFault 0x6A 0x694 info s) := unitsSame_sendFault.2 (unitsSame_refl s)
  have hf : fieldsBut [PHC.SEQ_STATUS.SEQ_STATE, PHC.SEQ_STATUS.BUS_EN] s (sendFault 0x6A 0x694 info s) :=
    fieldsBut_sendFault (.inl hr) (fieldsBut_refl _ s)
  unfold busFailed
  generalize sendFault 0x6A 0x694 info s = u at *
  have hnu : noEnd (setSeqState sqIdle (setB u PHC.SEQ_STATUS.BUS_EN false)) := noEnd_of_unitsSame (t := u) hn hu
  refine ⟨?_, ?_, (messageWaits_settle hnu).2 hm, (unitsSame_settle hnu).2 hu,
    fieldsBut_settle hnu (fieldsBut_setF (by simp) (fieldsBut_setB (by simp) hf))⟩
  · exact (getF_settle _ hnu (by decide)).trans (getF_setF_self ..)
  · refine (getB_congr ((getF_settle _ hnu (by decide)).trans (getF_setF_ne _ _ (by decide)))).trans (getB_setB_self u _ _ rfl)

end Sys2Proof.Machine

open Sys2Proof Sys2Proof.Machine

/-- Settles O32: the commands of SEQ_CMD, the end of the bus wait in its three ways, and the next slot. -/
theorem startsWaitForTheBus : Obligations.StartsWaitForTheBus := by
  unfold Obligations.StartsWaitForTheBus
  intro dt s a ha
  have hn : noEnd a := ha ▸ noEnd_advance dt s
  have hseqSettle : ∀ t, seqState (settle t) = seqState t := fun t => (settle_keeps t).regs _ (.inl ⟨by decide, by decide⟩)
  have hrailSettle : ∀ t, ∀ k < 4, railSt (settle t) k = railSt t k := fun t k hk => by
    have := railKeys k
    exact (settle_keeps t).regs _ (.inl ⟨by omega, by omega⟩)
  refine ⟨fun agent hmay => ⟨fun h => ?_, fun h1 h2 h3 => ?_, fun h => ?_, fun h1 h2 => ?_⟩, fun t0 hg hw => ⟨fun ht hl => ?_, fun ht => ?_⟩,
    fun hw ht hr => ?_, fun hw => ⟨?_, ?_⟩, fun hs hno hd p hp hw hl hq => ?_, fun h => ?_⟩
  · refine answers_eq ha (exec_seqStart ..) rfl (u := setB a PHC.SEQ_STATUS.START_REFUSED true)
      ((busWrite_own seqCtrl_ownReg hmay (by decide) rfl).trans (if_pos h)) ?_
    have hnu : noEnd (setB a PHC.SEQ_STATUS.START_REFUSED true) := noEnd_congr hn rfl
    exact ⟨(getB_congr (getF_settle _ hnu (by decide))).trans (getB_setB_self a _ _ rfl), (waitingSame_settle hnu).2 ⟨rfl, rfl, rfl, rfl, rfl⟩,
      (unitsSame_settle hnu).2 (unitsSame_refl a), fieldsBut_settle hnu (fieldsBut_setB (by simp) (fieldsBut_refl _ a))⟩
  · refine answers_eq ha (exec_seqStart ..) rfl (u := { a with acts := a.acts ++ [⟨.seqStart, false, none, 0⟩] })
      ((busWrite_own seqCtrl_ownReg hmay (by decide) rfl).trans (if_neg ?_)) ?_
    · rw [h1, h2, h3]
      decide
    · have hnu : noEnd { a with acts := a.acts ++ [⟨.seqStart, false, none, 0⟩] } := hn
      exact ⟨settle_acts hnu, (unitsSame_settle hnu).2 (unitsSame_refl a), fieldsBut_settle hnu (fieldsBut_refl _ a)⟩
  · refine answers_eq ha (exec_seqStop ..) rfl (u := { a with acts := a.acts ++ [⟨.seqStop, false, none, 0⟩] })
      ((busWrite_own seqCtrl_ownReg hmay (by decide) rfl).trans (if_pos h)) ?_
    have hnu : noEnd { a with acts := a.acts ++ [⟨.seqStop, false, none, 0⟩] } := hn
    exact ⟨settle_acts hnu, (unitsSame_settle hnu).2 (unitsSame_refl a), fieldsBut_settle hnu (fieldsBut_refl _ a)⟩
  · exact answers_untouched ha (exec_seqStop ..) rfl ((busWrite_own seqCtrl_ownReg hmay (by decide) rfl).trans (if_neg (by tauto)))
  · refine answers_eq ha (exec_busSettleDone ..) rfl (busSettleDone_settled hg hw ht) ?_
    obtain ⟨w1, w2⟩ := railsWait_shown a
    have hsq : seqState a = sqStarting := by
      unfold busWait at hw
      exact beq_iff_eq.1 (Bool.and_eq_true_iff.1 hw).1
    have hord : orderAt (railsWait a) 0 = orderAt a 0 := by
      unfold orderAt
      rw [w2 _ fun j hj => by have := railKeys j; have : PHC.SEQ_CTRL.SEQ_ORDER.key < 32 * 0x60430 := by decide
                              omega]
    have hlead : ∀ j < 4, leaderOf (railsWait a) j = leaderOf a j := fun j hj => by
      have hj := trackKeys j
      exact leaderOf_congr (w2 _ fun i hi => by have := railKeys i; omega) (w2 _ fun i hi => by have := railKeys i; omega)
    have hs0 : seqState (railsWait a) = seqState a := w2 _ fun j hj => by have := railKeys j; omega
    generalize railsWait a = b at *
    obtain ⟨b1, b2, b3⟩ := slotBegin_shown (p := 0) (by decide) (w1 _ (orderAt_lt b 0)) (by rw [hord, hlead _ (orderAt_lt a 0)]; exact hl)
      fun q hq => absurd hq (Nat.not_lt_zero q)
    rw [hord] at b1 b2
    refine ⟨(hseqSettle _).trans (b3.trans (hs0.trans hsq)), (hrailSettle _ _ (orderAt_lt a 0)).trans b1, fun j hj hne hnl =>
      (hrailSettle _ j hj).trans ((b2 j hj (.inr ⟨hne, by rw [hlead j hj]; exact hnl⟩)).trans (w1 j hj))⟩
  · exact answers_untouched ha (exec_busSettleDone ..) rfl (busSettleDone_early (.inr ⟨t0, hg, ht⟩))
  · refine answers_eq ha (exec_busStartFail ..) rfl (u := busFailed (getF a SNS.BUS_V.VOLTAGE + if a.phc.pwrFailN = true then 2 ^ 31 else 0) a) ?_ ?_
    · unfold busStartFail
      rw [if_pos (by simp [hw, ht])]
      rfl
    · exact busFailed_shown hn _ hr
  · exact answers_untouched ha (exec_busSettleDone ..) rfl (busSettleDone_early (.inl hw))
  · exact answers_untouched ha (exec_busStartFail ..) rfl (if_neg (by rw [hw]; simp))
  · have hany : rails4.any (fun k => railSt a k == rsProbe || railSt a k == rsSoft) = false := by
      refine Bool.eq_false_iff.2 fun h => ?_
      obtain ⟨k, hk, h⟩ := List.any_eq_true.1 h
      obtain ⟨n1, n2⟩ := hno k (lt_of_mem_rails4 hk)
      simp [n1, n2] at h
    refine answers_eq ha (exec_seqSlotStart ..) rfl (u := slotBegin a) (if_pos (by rw [hs, hany]; simpa using hd)) ?_
    obtain ⟨b1, b2, -⟩ := slotBegin_shown hp hw hl hq
    exact ⟨(hrailSettle _ _ (orderAt_lt a p)).trans b1, fun j hj h => (hrailSettle _ j hj).trans (b2 j hj (.inl h))⟩
  · refine answers_untouched ha (exec_seqSlotStart ..) rfl (if_neg ?_)
    rcases h with h | h
    · rw [h]; simp
    · simp [Nat.not_le.2 h]
end

section
/-! O37. The firmware's work on a thermal round (R257, R258, R267 to R269). -/

namespace Sys2Proof.Machine

theorem byComp_on {c : Nat} {f : State → State} {s : State} (h : compOn s c = true) : byComp c f s = f s := if_pos h

theorem byComp_idle {c : Nat} {f : State → State} {s : State} (h : compOn s c = false ∨ f s = s) : byComp c f s = s := by
  unfold byComp
  rcases h with h | h
  · rw [h]
    rfl
  · split
    · exact h
    · rfl

/-! ### The round -/

/-- The level that a round steps to (R268). -/
def nextLevel (s : State) : Nat :=
  if thThrottle s ≤ (decision s).1 then max (getC s TMG.STEP_CTRL.FLOOR 40 200) (getF s TMG.STEP.LEVEL - max 1 (getF s TMG.STEP_CTRL.DOWN))
  else if (decision s).1 < thThrottle s - thHyst s then min 200 (getF s TMG.STEP.LEVEL + max 1 (getF s TMG.STEP_CTRL.UP))
  else getF s TMG.STEP.LEVEL

theorem nextLevel_le {s : State} (h : getF s TMG.STEP.LEVEL ≤ 200) : nextLevel s ≤ 200 := by
  have hf : getC s TMG.STEP_CTRL.FLOOR 40 200 ≤ 200 := by
    unfold getC clampN
    omega
  unfold nextLevel
  split
  · omega
  · split <;> omega

/-- What a round's stepping shows. -/
structure Stepped (s t : State) : Prop where
  sta : t.sta = s.sta
  due : t.tmg.fwDue = s.tmg.fwDue
  hot : getB t TMG.STATUS.THROTTLE = decide (thThrottle s ≤ (decision s).1)
  level : getF t TMG.STEP.LEVEL = nextLevel s
  limit : t.tmg.lastLim = progLimit s 0 2 * nextLevel s / 200
  moved : t.tmg.lastLim ≠ s.tmg.lastLim → aFind t.pend LGV.THERM_LIM.LIMIT.key = some ⟨t.tmg.lastLim % 65536, 0, none, false⟩
  stood : t.tmg.lastLim = s.tmg.lastLim → t.pend = s.pend

theorem stepping_shown {s : State} (hl : getF s TMG.STEP.LEVEL ≤ 200) : Stepped s (stepping s) := by
  have hle := nextLevel_le hl
  unfold stepping
  extract_lets d t chip old floor hot new cause s1 s2 s3 s4 lim s5 run
  have hnew : new = nextLevel s := if_congr decide_eq_true_iff rfl rfl
  have hhot : hot = decide (thThrottle s ≤ (decision s).1) := rfl
  have hlim : lim = progLimit s 0 2 * new / 200 := rfl
  clear_value new hot lim
  have h1 : s1.sta = s.sta ∧ s1.tmg = s.tmg ∧ s1.pend = s.pend := ⟨rfl, rfl, rfl⟩
  clear_value s1
  obtain ⟨a1, a2, a3⟩ := h1
  have h2 : s2.sta = s1.sta ∧ s2.tmg = s1.tmg ∧ s2.pend = s1.pend ∧ getB s2 TMG.STATUS.THROTTLE = hot ∧ getF s2 TMG.STEP.LEVEL = new := by
    refine ⟨rfl, rfl, rfl, getB_setB_self _ _ _ rfl, ?_⟩
    refine (getF_setB_ne _ _ (by decide)).trans ((getF_setB_ne _ _ (by decide)).trans ((getF_setF_self s1 TMG.STEP.LEVEL new).trans ?_))
    exact Nat.mod_eq_of_lt (show new < 256 by omega)
  clear_value s2
  obtain ⟨b1, b2, b3, b4, b5⟩ := h2
  have h3 : s3.sta = s2.sta ∧ s3.tmg = s2.tmg ∧ s3.pend = s2.pend ∧ getF s3 TMG.STATUS.THROTTLE = getF s2 TMG.STATUS.THROTTLE ∧
      getF s3 TMG.STEP.LEVEL = getF s2 TMG.STEP.LEVEL := by
    unfold s3
    split
    · exact ⟨rfl, rfl, rfl, (getF_setF_ne _ _ (by decide)).trans (getF_incF_ne s2 (by decide)),
        (getF_setF_ne _ _ (by decide)).trans (getF_incF_ne s2 (by decide))⟩
    · split
      · exact ⟨rfl, rfl, rfl, getF_incF_ne s2 (by decide), getF_incF_ne s2 (by decide)⟩
      · exact ⟨rfl, rfl, rfl, rfl, rfl⟩
  clear_value s3
  obtain ⟨c1, c2, c3, c4, c5⟩ := h3
  have h4 : s4.sta = s3.sta ∧ s4.tmg = s3.tmg ∧ s4.pend = s3.pend ∧ getF s4 TMG.STATUS.THROTTLE = getF s3 TMG.STATUS.THROTTLE ∧
      getF s4 TMG.STEP.LEVEL = getF s3 TMG.STEP.LEVEL := by
    unfold s4
    split
    · exact ⟨rfl, rfl, rfl, rfl, rfl⟩
    · obtain ⟨⟨-, w, -⟩, ⟨-, ⟨-, -, -, u1, u2, -⟩, -⟩, f⟩ := eventP_frame 2 0x0802 [new, if hot then cause else 0] s3
      exact ⟨u2, u1, w, f _ (by decide) (by decide), f _ (by decide) (by decide)⟩
  clear_value s4
  obtain ⟨d1, d2, d3, d4, d5⟩ := h4
  have h5 : s5.sta = s4.sta ∧ s5.regs = s4.regs ∧ (lim ≠ s.tmg.lastLim → aFind s5.pend LGV.THERM_LIM.LIMIT.key = some ⟨lim % 65536, 0, none, false⟩) ∧
      (lim = s.tmg.lastLim → s5.pend = s4.pend) ∧ s5.tmg = s4.tmg := by
    unfold s5
    split
    · next h => exact ⟨rfl, rfl, fun hne => absurd h hne, fun _ => rfl, rfl⟩
    · next h => exact ⟨rfl, rfl, fun _ => aFind_aIns_self .., fun he => absurd he h, rfl⟩
  clear_value s5
  obtain ⟨e1, e2, e3, e4, e5⟩ := h5
  have hg : ∀ (g : TmgState) (f : Fld), getF (setTmg g s5) f = getF s4 f := fun g f => (getF_congr rfl f).trans (getF_congr e2 f)
  refine ⟨e1.trans (d1.trans (c1.trans (b1.trans a1))), ?_, ?_, ?_, ?_, e3, fun h => ?_⟩
  · change s5.tmg.fwDue = _
    rw [e5, d2, c2, b2, a2]
  · rw [← hhot, ← b4]
    exact getB_congr ((hg _ _).trans (d4.trans c4))
  · rw [← hnew, ← b5]
    exact (hg _ _).trans (d5.trans c5)
  · exact hlim.trans (by rw [hnew])
  · exact (e4 h).trans (d3.trans (c3.trans (b3.trans a3)))

/-- What the firmware has of its round once its sensors are judged. -/
def judged512 (s : State) : TmgState := if getB s TMG.CTRL.XCHK_EN then (List.range 512).foldl (judge s) s.tmg else s.tmg

theorem judged512_lastLim (s : State) : (judged512 s).lastLim = s.tmg.lastLim := by
  unfold judged512
  split
  · refine List.foldlRecOn (motive := fun (g : TmgState) => g.lastLim = s.tmg.lastLim) _ _ rfl fun g hg c _ => ?_
    unfold judge
    dsimp only
    split
    · exact hg
    · split <;> exact hg
  · rfl

theorem tmgFwRound_due {s : State} (h : s.tmg.fwDue = true) : tmgFwRound s = stepping (setTmg { judged512 s with fwDue := false } s) :=
  if_neg (by rw [h]; decide)

/-! ### Marks -/

/-- Channels marked in their order: only the thermal manager's marks and counts move (R257, R258). -/
theorem markNext_foldl (c : Nat → Nat) (b : Bool) (l : List Nat) (s : State) :
    ∃ g : TmgState, l.foldl (fun t x => markNext (c x) b t) s = setTmg g s ∧ g.maskNext = s.tmg.maskNext ++ l.map (fun x => (c x, b)) ∧
      ∀ n, n ∈ l.map c ∨ (aGet 0 s.tmg.devRun n = 0 ∧ aGet 0 s.tmg.okRun n = 0) → aGet 0 g.devRun n = 0 ∧ aGet 0 g.okRun n = 0 := by
  induction l generalizing s with
  | nil => exact ⟨s.tmg, rfl, by simp, fun n h => h.resolve_left (by simp)⟩
  | cons x r ih =>
    obtain ⟨g, h1, h2, h3⟩ := ih (markNext (c x) b s)
    refine ⟨g, by rw [List.foldl_cons, h1]; rfl, ?_, fun n hn => h3 n ?_⟩
    · rw [h2]
      change s.tmg.maskNext ++ [(c x, b)] ++ _ = _
      simp
    · change n ∈ r.map c ∨ (aGet 0 (aPut 0 s.tmg.devRun (c x) 0) n = 0 ∧ aGet 0 (aPut 0 s.tmg.okRun (c x) 0) n = 0)
      by_cases hx : n = c x
      · rw [hx, aGet_aPut_self, aGet_aPut_self]
        exact .inr ⟨rfl, rfl⟩
      · rw [aGet_aPut_ne _ _ _ _ hx, aGet_aPut_ne _ _ _ _ hx]
        refine hn.imp_left fun h => ?_
        rw [List.map_cons, List.mem_cons] at h
        exact h.resolve_left hx

/-- A report of the thermal manager's firmware beside a change of its own state. -/
theorem reported_shown {a : State} (hn : noEnd a) (hr : roomMsg a) (k src info : Nat) (g : TmgState) :
    (settle (sendFaultP 2 k src info (setTmg g a))).tmg = g ∧ messageWaits k src info (settle (sendFaultP 2 k src info (setTmg g a))) ∧
      fieldsBut [] a (settle (sendFaultP 2 k src info (setTmg g a))) := by
  have hr2 : roomMsg (setTmg g a) := hr
  obtain ⟨-, -, f⟩ := sendFaultP_frame 2 k src info hr2
  have hm : messageWaits k src info (sendFaultP 2 k src info (setTmg g a)) := messageWaits_sendFaultP hr2
  have ht : (sendFaultP 2 k src info (setTmg g a)).tmg = g := sendFaultP_tmg ..
  have hu : noEnd (sendFaultP 2 k src info (setTmg g a)) := noEnd_congr hn (sendFaultP_sta ..)
  generalize sendFaultP 2 k src info (setTmg g a) = u at *
  exact ⟨(settle_tmg hu).trans ht, (messageWaits_settle hu).2 hm, fieldsBut_settle hu fun x hx ho => (f x hx ho).trans (getF_congr rfl x)⟩

theorem sensorSuspect_judged {c : Nat} {s : State} (h1 : getB s TMG.CTRL.XCHK_EN = true) (h2 : isSuspect s c = false)
    (h3 : s.tmg.maskNext.contains (c, true) = false) (h4 : max 1 (getF s TMG.XCHK_CTRL.XCHK_ROUNDS) ≤ aGet 0 s.tmg.devRun c) :
    sensorSuspect c s =
      if 2 ≤ suspectsOf s (c / 8) then
        if s.tmg.sensed.contains c then s
        else sendFaultP 2 0x84 0x880 (c + 65536 * min 255 (aGet 0 s.tmg.dev c) + 2 ^ 31) (setTmg { s.tmg with sensed := insN c s.tmg.sensed } s)
      else sendFaultP 2 0x84 0x880 (c + 65536 * min 255 (aGet 0 s.tmg.dev c)) (markNext c true s) := by
  refine if_neg ?_
  rw [h1, h2, h3]
  simp only [Bool.not_true, Bool.false_eq_true, false_or, Nat.not_lt]
  exact h4

theorem suspectClear_ownReg : ∀ w < 16, OwnReg (0x80200 + 4 * w) := fun w hw =>
  ⟨by omega, (by decide +kernel : ∀ w < 16, mapped (0x80200 + 4 * w) = true) w hw,
    (by decide +kernel : ∀ w < 16, isLow (0x80200 + 4 * w) = false) w hw, (by decide +kernel : ∀ w < 16, isHigh (0x80200 + 4 * w) = false) w hw,
    fun _ => (by
      obtain ⟨e1, e2, e3, e4⟩ := (by decide +kernel : ∀ w < 16, hostOnly (0x80200 + 4 * w) = false ∧ ((0x80200 + 4 * w == 0x70060) = false) ∧
        inR (0x80200 + 4 * w) 0x90030 0x9003C = false ∧ inR (0x80200 + 4 * w) 0xC0020 0xC002C = false) w hw
      exact notIts_false e1 e2 e3 e4)⟩

theorem suspectSet_ownReg : ∀ w < 16, OwnReg (0x80280 + 4 * w) := fun w hw =>
  ⟨by omega, (by decide +kernel : ∀ w < 16, mapped (0x80280 + 4 * w) = true) w hw,
    (by decide +kernel : ∀ w < 16, isLow (0x80280 + 4 * w) = false) w hw, (by decide +kernel : ∀ w < 16, isHigh (0x80280 + 4 * w) = false) w hw,
    fun _ => (by
      obtain ⟨e1, e2, e3, e4⟩ := (by decide +kernel : ∀ w < 16, hostOnly (0x80280 + 4 * w) = false ∧ ((0x80280 + 4 * w == 0x70060) = false) ∧
        inR (0x80280 + 4 * w) 0x90030 0x9003C = false ∧ inR (0x80280 + 4 * w) 0xC0020 0xC002C = false) w hw
      exact notIts_false e1 e2 e3 e4)⟩

theorem ownWrite_suspectClear (agent v : Nat) (s : State) {w : Nat} (hw : w < 16) :
    ownWrite agent (0x80200 + 4 * w) v s = some (suspectClearWrite w v s) := by
  obtain ⟨e1, e2, e3⟩ := (by decide +kernel : ∀ w < 16, (0x80200 + 4 * w) / 0x10000 = 8 ∧ inR (0x80200 + 4 * w) 0x80200 0x80240 = true ∧
    (0x80200 + 4 * w - 0x80200) / 4 = w) w hw
  unfold ownWrite
  simp only [e1, e2, e3]
  rfl

theorem ownWrite_suspectSet (agent v : Nat) (s : State) {w : Nat} (hw : w < 16) :
    ownWrite agent (0x80280 + 4 * w) v s = some (suspectSetWrite agent w v s) := by
  obtain ⟨e1, e2, e3, e4⟩ := (by decide +kernel : ∀ w < 16, (0x80280 + 4 * w) / 0x10000 = 8 ∧ inR (0x80280 + 4 * w) 0x80200 0x80240 = false ∧
    inR (0x80280 + 4 * w) 0x80280 0x802C0 = true ∧ (0x80280 + 4 * w - 0x80280) / 4 = w) w hw
  unfold ownWrite
  simp only [e1, e2, e3, e4]
  rfl

end Sys2Proof.Machine

open Sys2Proof Sys2Proof.Machine

/-- Settles O37: the firmware's round, its two reports, the marks of sensors, and the writes of the mask. -/
theorem thermalRoundsStepAndJudge : Obligations.ThermalRoundsStepAndJudge := by
  unfold Obligations.ThermalRoundsStepAndJudge
  intro dt s a ha
  have hn : noEnd a := ha ▸ noEnd_advance dt s
  refine ⟨fun hon hd hl => ?_, fun h => ?_, fun hon h1 h2 hr => ?_, fun h => ?_, fun c hc hon h1 h2 h3 h4 => ⟨fun h5 hr => ?_, fun h5 h6 hr => ?_,
    fun h5 h6 => ?_⟩, fun c hc h => ?_, fun c hc hon h1 h2 h3 h4 => ?_, fun c hc h => ?_, fun w hw v => ⟨?_, ?_, ?_⟩⟩
  · refine answers_eq ha (exec_tmgFwRound ..) rfl ((byComp_on hon).trans (tmgFwRound_due hd)) ?_
    have hlim := judged512_lastLim a
    have hdue : ({ judged512 a with fwDue := false } : TmgState).fwDue = false := rfl
    have hlast : ({ judged512 a with fwDue := false } : TmgState).lastLim = a.tmg.lastLim := hlim
    generalize ({ judged512 a with fwDue := false } : TmgState) = g at *
    obtain ⟨e1, e2, e3, e4, e5, e6, e7⟩ := stepping_shown (s := setTmg g a) hl
    generalize stepping (setTmg g a) = t at *
    have hnt : noEnd t := noEnd_congr hn e1
    have hlv : getF (settle t) TMG.STEP.LEVEL = nextLevel a := (getF_settle t hnt (by decide)).trans e4
    rw [settle_tmg hnt, settle_pend hnt, hlv]
    exact ⟨e2.trans hdue, (getB_congr (getF_settle t hnt (by decide))).trans e3, rfl, e5, fun h => e6 fun he => h (he.trans hlast),
      fun h => e7 (h.trans hlast.symm)⟩
  · refine answers_untouched ha (exec_tmgFwRound ..) rfl (byComp_idle (h.imp_right fun h => ?_))
    unfold tmgFwRound
    rw [h]
    rfl
  · refine answers_eq ha (exec_thermalFloor ..) rfl ((byComp_on hon).trans (if_pos ⟨h1, by rw [h2]; rfl⟩)) ?_
    exact reported_shown hn hr _ _ _ _
  · refine answers_untouched ha (exec_thermalFloor ..) rfl (byComp_idle (.inr (if_neg ?_)))
    rw [h]
    simp
  · refine answers_eq ha (exec_sensorSuspect ..) (by simp [Instr.wf, hc])
      ((byComp_on hon).trans ((sensorSuspect_judged h1 h2 h3 h4).trans (if_neg (by omega)))) ?_
    obtain ⟨r1, r2, r3⟩ := reported_shown hn hr 0x84 0x880 (c + 65536 * min 255 (aGet 0 a.tmg.dev c)) (markNext c true a).tmg
    exact ⟨r3, congrArg TmgState.maskNext r1, r2⟩
  · refine answers_eq ha (exec_sensorSuspect ..) (by simp [Instr.wf, hc])
      ((byComp_on hon).trans ((sensorSuspect_judged h1 h2 h3 h4).trans ((if_pos h5).trans (if_neg (by rw [h6]; decide))))) ?_
    obtain ⟨r1, r2, r3⟩ := reported_shown hn hr 0x84 0x880 (c + 65536 * min 255 (aGet 0 a.tmg.dev c) + 2 ^ 31)
      { a.tmg with sensed := insN c a.tmg.sensed }
    exact ⟨r3, r1, r2⟩
  · exact answers_untouched ha (exec_sensorSuspect ..) (by simp [Instr.wf, hc])
      ((byComp_on hon).trans ((sensorSuspect_judged h1 h2 h3 h4).trans ((if_pos h5).trans (if_pos h6))))
  · refine answers_untouched ha (exec_sensorSuspect ..) (by simp [Instr.wf, hc]) (byComp_idle (h.imp_right fun h => if_pos ?_))
    rcases h with h | h
    · exact .inl (by rw [h]; rfl)
    · exact .inr (.inl h)
  · refine answers_eq ha (exec_tmgSensorTrusted ..) (by simp [Instr.wf, hc]) ((byComp_on hon).trans (if_pos ⟨h1, h2, h3, by rw [h4]; rfl⟩)) ?_
    have hr : roomRec a → eventWaits 0x0803 (eventP 2 0x0803 (toLE 2 c) (markNext c false a)) := fun hr => eventWaits_eventP hr
    obtain ⟨-, ⟨-, ⟨-, -, -, u1, u2, -⟩, -⟩, -⟩ := eventP_frame 2 0x0803 (toLE 2 c) (markNext c false a)
    have hm1 : (markNext c false a).tmg.maskNext = a.tmg.maskNext ++ [(c, false)] := rfl
    have hm2 : aGet 0 (markNext c false a).tmg.okRun c = 0 := aGet_aPut_self 0 a.tmg.okRun c 0
    have hnu : noEnd (eventP 2 0x0803 (toLE 2 c) (markNext c false a)) := noEnd_congr (s := a) hn u2
    rw [settle_tmg hnu, u1]
    exact ⟨hm1, hm2, fun h => (eventWaits_congr (settle_inbox hnu)).2 (hr h)⟩
  · refine answers_untouched ha (exec_tmgSensorTrusted ..) (by simp [Instr.wf, hc]) (byComp_idle (h.imp_right fun h => if_neg ?_))
    rcases h with h | h
    · rw [h]; simp
    · rw [h]; simp
  · refine answers_eq ha (exec_suspectSetWrite ..) (by simp [Instr.wf, hw]) (busWrite_own (suspectSet_ownReg w hw)
      ((by decide +kernel : ∀ w < 16, coreMayWrite 0x41 (0x80280 + 4 * w) = true) w hw) v.isLt (ownWrite_suspectSet _ _ _ hw)) ?_
    obtain ⟨g, h1, h2, -⟩ := markNext_foldl (fun b => 32 * w + b) true ((List.range 32).filter (bit v.toNat)) a
    have hg : suspectSetWrite 0x41 w v.toNat a = setTmg g a := h1
    change (fieldsBut [] a (settle (suspectSetWrite 0x41 w v.toNat a)) ∧ (settle (suspectSetWrite 0x41 w v.toNat a)).tmg.maskNext = _)
    rw [hg]
    have hnu : noEnd (setTmg g a) := hn
    exact ⟨fieldsBut_settle hnu (fieldsBut_refl _ a), (congrArg TmgState.maskNext (settle_tmg hnu)).trans h2⟩
  · exact answers_untouched ha (exec_suspectSetWrite ..) (by simp [Instr.wf, hw])
      (busWrite_own (suspectSet_ownReg w hw) rfl v.isLt (ownWrite_suspectSet _ _ _ hw))
  · refine answers_eq ha (exec_suspectClearWrite ..) (by simp [Instr.wf, hw])
      (busWrite_own (suspectClear_ownReg w hw) rfl v.isLt (ownWrite_suspectClear _ _ _ hw)) ?_
    obtain ⟨g, h1, h2, h3⟩ := markNext_foldl (fun b => 32 * w + b) false ((List.range 32).filter (bit v.toNat)) a
    have hg : suspectClearWrite w v.toNat a = setTmg g a := h1
    rw [hg]
    have hnu : noEnd (setTmg g a) := hn
    rw [settle_tmg hnu]
    exact ⟨fieldsBut_settle hnu (fieldsBut_refl _ a), h2, fun b hb hbit => h3 _ (.inl (List.mem_map.2 ⟨b, List.mem_filter.2
      ⟨List.mem_range.2 hb, hbit⟩, rfl⟩))⟩
end

section
/-! O28. The step hold and the launch move (R175 to R178, R182). -/

namespace Sys2Proof.Machine

/-! ### A STEP_HOLD message (R177) -/

theorem sealOn_shown (p typ origin ctx hops : Nat) (body : List Nat) (s : State) :
    (sealOn p typ origin ctx hops body s).drg = s.drg ∧ (sealOn p typ origin ctx hops body s).sta = s.sta ∧
    (sealOn p typ origin ctx hops body s).inbox = s.inbox ∧
    ∀ f : Fld, f.key < 32 * 0x90000 → getF (sealOn p typ origin ctx hops body s) f = getF s f := by
  unfold sealOn
  dsimp only
  split
  · exact ⟨rfl, rfl, rfl, fun _ _ => rfl⟩
  · refine ⟨rfl, rfl, rfl, fun f hf => (getF_congr rfl f).trans ((getF_setF_ne _ _ fun he => ?_).trans (getF_setF_ne _ _ fun he => ?_))⟩
    · rw [he] at hf
      simp only [BAL.TXCNT_HI.COUNTER, fld] at hf
      omega
    · rw [he] at hf
      simp only [BAL.TXCNT_LO.COUNTER, fld] at hf
      omega

/-- A message to the link layer: handed over, shown in HOLD_TX, and recorded; nothing else of the guard moves. -/
structure HoldSent (m : List Nat) (s t : State) : Prop where
  sta : t.sta = s.sta
  drg : t.drg = { s.drg with sent := (m :: s.drg.sent).take 16 }
  fields : ∀ f : Fld, f.key < 32 * 0x90000 → f.key / 32 ≠ 0x50030 → getF t f = getF s f
  event : roomRec s → eventWaits 0x0501 t
  room : roomMsg s → roomMsg t

theorem sendHold_shown (late : Bool) (reason ext seq : Nat) (s : State) :
    HoldSent (stepHoldMsg late reason s.time.step ext seq) s (sendHold late reason ext seq s) := by
  unfold sendHold
  extract_lets m src s1 s2 s3 s4 s5
  rw [show stepHoldMsg late reason s.time.step ext seq = m from rfl]
  clear_value m
  have h1 : s1.drg = { s.drg with sent := (m :: s.drg.sent).take 16 } ∧ s1.sta = s.sta ∧ s1.inbox = s.inbox ∧
      ∀ f : Fld, f.key < 32 * 0x90000 → getF s1 f = getF s f := by
    obtain ⟨a1, a2, a3, a4⟩ := sealOn_shown s.cmd.jobPort 1 0 1 0 m { s with drg := { s.drg with sent := (m :: s.drg.sent).take 16 } }
    exact ⟨a1, a2, a3, fun f hf => (a4 f hf).trans (getF_congr rfl f)⟩
  clear_value s1
  obtain ⟨a1, a2, a3, a4⟩ := h1
  have h5 : s5.drg = s1.drg ∧ s5.sta = s1.sta ∧ s5.inbox = s1.inbox ∧ ∀ f : Fld, f.key / 32 ≠ 0x50030 → getF s5 f = getF s1 f := by
    refine ⟨rfl, rfl, rfl, fun f hf => ?_⟩
    have hk : ∀ g : Fld, g.key / 32 = 0x50030 → f.key ≠ g.key := fun g hg he => hf (he ▸ hg)
    exact (getF_setF_ne _ _ (hk _ (by decide))).trans ((getF_setB_ne _ _ (hk _ (by decide))).trans ((getF_setF_ne _ _ (hk _ (by decide))).trans
      (getF_setSat_ne _ _ (hk _ (by decide)))))
  clear_value s5
  obtain ⟨b1, b2, b3, b4⟩ := h5
  have hin : s5.inbox = s.inbox := b3.trans a3
  exact ⟨(event_sta ..).trans (b2.trans a2), (event_drg ..).trans (b1.trans a1), fun f e1 e2 =>
    (getF_event _ _ _ fun he => absurd (he ▸ e1) (by decide)).trans ((b4 f e2).trans (a4 f e1)),
    fun hr => eventWaits_event (roomRec_congr hin hr), fun hr => roomMsg_event (roomMsg_congr hin hr)⟩

/-! ### What the guard publishes (Table 7-8) -/

/-- The fields that an instant of the grid publishes. -/
def publishFields : List Fld := [DRG.PROJ.PROJ, DRG.RESERVE_EFF.RESERVE, DRG.DEADLINE_LO.TIME, DRG.DEADLINE_HI.TIME, DRG.STATUS.PAST_DEADLINE]

/-- What an instant of the grid publishes, and what it leaves. -/
structure Published (proj : Int) (s t : State) : Prop where
  sta : t.sta = s.sta
  drg : t.drg = s.drg
  inbox : t.inbox = s.inbox
  proj : getF t DRG.PROJ.PROJ = min proj.toNat (2 ^ 32 - 1)
  fields : fieldsBut publishFields s t

theorem drgPublish_shown (proj : Int) (s : State) : Published proj s (drgPublish proj s) := by
  unfold drgPublish
  extract_lets s1 s2
  have h1 : Published proj s s1 :=
    ⟨rfl, rfl, rfl, getF_setSat_self .., fieldsBut_setF (g := DRG.PROJ.PROJ) (by simp [publishFields]) (fieldsBut_refl _ s)⟩
  clear_value s1
  have hput : ∀ u (f : Fld) v, f ∈ publishFields → f.key ≠ DRG.PROJ.PROJ.key → Published proj s u → Published proj s (setF u f v) :=
    fun u f v hm hne hu => ⟨hu.sta, hu.drg, hu.inbox, (getF_setF_ne _ _ (Ne.symm hne)).trans hu.proj, fieldsBut_setF hm hu.fields⟩
  have h2 : Published proj s s2 := hput _ _ _ (by simp [publishFields]) (by decide) h1
  clear_value s2
  split
  · split
    · exact hput _ _ _ (by simp [publishFields]) (by decide) (hput _ _ _ (by simp [publishFields]) (by decide) h2)
    · exact hput _ _ _ (by simp [publishFields]) (by decide) (hput _ _ _ (by simp [publishFields]) (by decide)
        (hput _ _ _ (by simp [publishFields]) (by decide) h2))
  · exact hput _ _ _ (by simp [publishFields]) (by decide) h2

theorem Published.status {proj : Int} {s t : State} (h : Published proj s t) {f : Fld} (hk : f.key / 32 = 0x50010) (hne : f.key ≠ DRG.STATUS.PAST_DEADLINE.key) :
    getF t f = getF s f := by
  refine h.fields f (fun hm => ?_) fun he => absurd (he ▸ hk) (by decide)
  simp only [publishFields, List.map_cons, List.map_nil, List.mem_cons, List.not_mem_nil, or_false] at hm
  rcases hm with he | he | he | he | he
  · exact absurd (he ▸ hk) (by decide)
  · exact absurd (he ▸ hk) (by decide)
  · exact absurd (he ▸ hk) (by decide)
  · exact absurd (he ▸ hk) (by decide)
  · exact hne he

theorem Published.settle {proj : Int} {s t : State} (hn : noEnd s) (h : Published proj s t) : Published proj s (Machine.settle t) := by
  have hnt : noEnd t := noEnd_congr hn h.sta
  exact ⟨(settle_sta hnt).trans h.sta, (settle_drg hnt).trans h.drg, (settle_inbox hnt).trans h.inbox,
    (getF_settle t hnt (by decide)).trans h.proj, fieldsBut_settle hnt h.fields⟩

/-! ### The instants of the grid (R175, R176, R182) -/

/-- The grid's history with the instant's entry. -/
def histNoted (s : State) : State :=
  let h := (s.time.sys, regions64.foldl (fun m r => aPut 0 m r (lateOf s r)) ([] : Assoc Nat))
  { s with drg := { s.drg with hist := h :: s.drg.hist.filter (fun e => decide (s.time.sys ≤ e.1 + 64000)) } }

/-- What the guard does of itself before it publishes. -/
def guardActs (s : State) : State :=
  if holdPossible s then
    (if (reserveEff s : Int) < projection s + (1000 * getF s DRG.HOLD_CTRL.HOLD_MARGIN : Nat) then raiseHold (projection s) s else s)
  else if reserveEff s < chipLate s ∧ !s.drg.lateHold then lateHold s
  else s

theorem drgEvaluate_eq (s : State) : drgEvaluate s = if !jobOn s || localOn s then drgPublish (projection (histNoted s)) (histNoted s)
    else drgPublish (projection (sendDuty (histNoted s)))
      (if holdPossible (sendDuty (histNoted s)) then
        (if (reserveEff (sendDuty (histNoted s)) : Int) < projection (sendDuty (histNoted s)) + (1000 * getF s DRG.HOLD_CTRL.HOLD_MARGIN : Nat) then
          raiseHold (projection (sendDuty (histNoted s))) (sendDuty (histNoted s)) else sendDuty (histNoted s))
      else if reserveEff (sendDuty (histNoted s)) < chipLate (sendDuty (histNoted s)) ∧ !(sendDuty (histNoted s)).drg.lateHold then
        lateHold (sendDuty (histNoted s))
      else sendDuty (histNoted s)) := rfl

theorem sendDuty_none {s : State} (h : s.drg.duty = []) : sendDuty s = s := by
  have hd : ({ s.drg with duty := [] } : DrgState) = s.drg := by rw [← h]
  unfold sendDuty
  rw [h]
  change { s with drg := { s.drg with duty := [] } } = s
  rw [hd]

theorem drgEvaluate_alone {s : State} (h : jobOn s = false ∨ localOn s = true) :
    drgEvaluate s = drgPublish (projection (histNoted s)) (histNoted s) := by
  rw [drgEvaluate_eq, if_pos]
  rcases h with h | h
  · rw [h]; rfl
  · rw [h, Bool.or_true]

theorem drgEvaluate_job {s : State} (h1 : jobOn s = true) (h2 : localOn s = false) (h3 : s.drg.duty = []) :
    drgEvaluate s = drgPublish (projection (histNoted s)) (guardActs (histNoted s)) := by
  have hm : getF s DRG.HOLD_CTRL.HOLD_MARGIN = getF (histNoted s) DRG.HOLD_CTRL.HOLD_MARGIN := getF_congr rfl _
  have hd : sendDuty (histNoted s) = histNoted s := sendDuty_none h3
  rw [drgEvaluate_eq, if_neg (by rw [h1, h2]; decide), hd, hm]
  rfl

/-- The extension that the projection asks for, in whole quanta (R176, R177). -/
def wantedExt (s : State) : Nat :=
  cdiv (projection s + (1000 * getF s DRG.HOLD_CTRL.HOLD_MARGIN : Nat) - reserveEff s).toNat
    (1000 * (100 * getC s DRG.HOLD_CTRL.HOLD_QUANTUM 1 255)) * (100 * getC s DRG.HOLD_CTRL.HOLD_QUANTUM 1 255)

/-- A hold of the extension, the `n`th of its step. -/
def heldBy (ext n : Nat) (s : State) : State :=
  incF (setB (setF (sendHold false 1 ext n { s with drg := { s.drg with pendExt := s.drg.pendExt + ext } }) DRG.STATUS.HOLDS n)
    DRG.STATUS.HOLD_PENDING true) DRG.COUNTS.HOLDS

theorem raiseHold_eq (s : State) : raiseHold (projection s) s = heldBy (wantedExt s) (getF s DRG.STATUS.HOLDS + 1) s := rfl

theorem heldBy_shown (ext : Nat) {n : Nat} (hn : n < 16) (s : State) : (heldBy ext n s).sta = s.sta ∧
    (heldBy ext n s).drg.pendExt = s.drg.pendExt + ext ∧ getF (heldBy ext n s) DRG.STATUS.HOLDS = n ∧
    getB (heldBy ext n s) DRG.STATUS.HOLD_PENDING = true ∧ (heldBy ext n s).drg.sent.head? = some (stepHoldMsg false 1 s.time.step ext n) ∧
    (roomRec s → eventWaits 0x0501 (heldBy ext n s)) := by
  obtain ⟨a1, a2, -, a4, -⟩ := sendHold_shown false 1 ext n { s with drg := { s.drg with pendExt := s.drg.pendExt + ext } }
  unfold heldBy
  generalize sendHold false 1 ext n { s with drg := { s.drg with pendExt := s.drg.pendExt + ext } } = u at *
  refine ⟨a1, by rw [incF_drg, setB_drg, setF_drg, a2], ?_, ?_, ?_, fun hr => a4 hr⟩
  · refine (getF_incF_ne _ (by decide)).trans ((getF_setB_ne _ _ (by decide)).trans ((getF_setF_self ..).trans ?_))
    exact Nat.mod_eq_of_lt hn
  · exact (getB_congr (getF_incF_ne _ (by decide))).trans (getB_setB_self _ _ _ rfl)
  · rw [incF_drg, setB_drg, setF_drg, a2]
    rfl

/-- The late hold of an extension, and its fault. -/
def lateSent (ext : Nat) (s : State) : State :=
  let s1 := sendHold true 1 ext (getF s DRG.STATUS.HOLDS) { s with drg := { s.drg with lateHold := true } }
  let s2 := setB (setB s1 DRG.STATUS.MISS true) DRG.STATUS.LATE_STEP true
  sendFault 0x50 0x500 (s.time.step % 2 ^ 32) (incF s2 DRG.COUNTS.MISSES)

/-- What a late hold shows. -/
structure LateShown (ext : Nat) (s t : State) : Prop where
  sta : t.sta = s.sta
  late : t.drg.lateHold = true
  miss : getB t DRG.STATUS.MISS = true
  step : getB t DRG.STATUS.LATE_STEP = true
  sent : t.drg.sent.head? = some (stepHoldMsg true 1 s.time.step ext (getF s DRG.STATUS.HOLDS))
  told : roomMsg s → messageWaits 0x50 0x500 (s.time.step % 2 ^ 32) t

theorem lateSent_shown (ext : Nat) (s : State) : LateShown ext s (lateSent ext s) := by
  unfold lateSent
  extract_lets src s1 s2
  obtain ⟨a1, a2, -, -, a5⟩ : HoldSent _ _ s1 := sendHold_shown true 1 ext (getF s DRG.STATUS.HOLDS) { s with drg := { s.drg with lateHold := true } }
  clear_value s1
  have h2 : s2.sta = s1.sta ∧ s2.drg = s1.drg ∧ s2.inbox = s1.inbox ∧ getB s2 DRG.STATUS.MISS = true ∧ getB s2 DRG.STATUS.LATE_STEP = true :=
    ⟨rfl, rfl, rfl, (getB_congr (getF_setB_ne _ _ (by decide))).trans (getB_setB_self _ _ _ rfl), getB_setB_self _ _ _ rfl⟩
  clear_value s2
  obtain ⟨b1, b2, b3, b4, b5⟩ := h2
  have h3 : (incF s2 DRG.COUNTS.MISSES).sta = s2.sta ∧ (incF s2 DRG.COUNTS.MISSES).drg = s2.drg ∧ (incF s2 DRG.COUNTS.MISSES).inbox = s2.inbox ∧
      getF (incF s2 DRG.COUNTS.MISSES) DRG.STATUS.MISS = getF s2 DRG.STATUS.MISS ∧
      getF (incF s2 DRG.COUNTS.MISSES) DRG.STATUS.LATE_STEP = getF s2 DRG.STATUS.LATE_STEP :=
    ⟨rfl, rfl, rfl, getF_incF_ne s2 (by decide), getF_incF_ne s2 (by decide)⟩
  generalize incF s2 DRG.COUNTS.MISSES = s3 at *
  obtain ⟨c1, c2, c3, c4, c5⟩ := h3
  refine ⟨(sendFault_sta ..).trans (c1.trans (b1.trans a1)), ?_, ?_, ?_, ?_, fun hr => messageWaits_sendFault (roomMsg_congr (c3.trans b3) (a5 hr))⟩
  · rw [sendFault_drg, c2, b2, a2]
  · exact (getB_congr ((getF_sendFault _ _ _ _ (by decide)).trans c4)).trans b4
  · exact (getB_congr ((getF_sendFault _ _ _ _ (by decide)).trans c5)).trans b5
  · rw [sendFault_drg, c2, b2, a2]
    rfl

theorem LateShown.event {ext : Nat} {s t : State} (h : LateShown ext s t) (code : Nat) (l : List Nat) : LateShown ext s (Machine.event code l t) :=
  ⟨(event_sta ..).trans h.sta, by rw [event_drg]; exact h.late, (getB_congr (getF_event _ _ _ (by decide))).trans h.miss,
    (getB_congr (getF_event _ _ _ (by decide))).trans h.step, by rw [event_drg]; exact h.sent,
    fun hr => messageWaits_of_sub (h.told hr) inbox_postRec⟩

/-! ### The launch move (R178) -/

/-- The next boundary's time is the move's. -/
def moved (time : Nat) (s : State) : State :=
  setB { s with time := { s.time with nextB := some time }, drg := { s.drg with pendExt := 0 } } DRG.STATUS.HOLD_PENDING false

theorem launchMove_taken {step time t0 : Nat} {s : State} (h1 : s.time.nextB = some t0) (h2 : step = s.time.step + 1) (h3 : t0 ≤ time) :
    launchMove step time s = event 0x0502 (toLE 8 time) (if s.time.nextB = some time then moved time s else retime (moved time s)) := by
  unfold launchMove
  simp only [h1]
  exact if_neg (by simp [h2, h3])

theorem launchMove_rejected {step time : Nat} {s : State} (h : ∀ t0, s.time.nextB = some t0 → step ≠ s.time.step + 1 ∨ time < t0) :
    launchMove step time s = sendFault 0x53 0x502 (step % 2 ^ 32) (setB s DRG.STATUS.MOVE_REJECT true) := by
  unfold launchMove
  cases hb : s.time.nextB with
  | none => rfl
  | some t0 =>
    refine if_pos ?_
    rcases h t0 hb with h | h
    · simp [h]
    · simp [Nat.not_le.2 h]

end Sys2Proof.Machine

open Sys2Proof Sys2Proof.Machine

/-- Settles O28: the instants of the grid in their four ways, and the launch move taken and rejected. -/
theorem holdsAreRequestedInTime : Obligations.HoldsAreRequestedInTime := by
  unfold Obligations.HoldsAreRequestedInTime
  intro dt s a ha
  have hn : noEnd a := ha ▸ noEnd_advance dt s
  refine ⟨fun h b hh hb hgrid => ?_, fun hgrid => ?_, fun step time t0 hs ht h1 h2 h3 => ?_, fun step time hs ht h hr => ?_⟩
  · have hb : b = histNoted a := by rw [hb, hh]; rfl
    have hnb : noEnd b := hb ▸ noEnd_congr hn rfl
    have hregs : ∀ f : Fld, getF b f = getF a f := fun f => hb ▸ getF_congr rfl f
    have hin : b.inbox = a.inbox := by rw [hb]; rfl
    have hgone : onGrid 25 drgEvaluate a = drgEvaluate a := if_pos hgrid
    have hlast : b.drg.lateHold = a.drg.lateHold ∧ b.drg.pendExt = a.drg.pendExt ∧ b.time.step = a.time.step := by rw [hb]; exact ⟨rfl, rfl, rfl⟩
    obtain ⟨l1, l2, l3⟩ := hlast
    refine ⟨fun hj => ?_, fun hj hl hd hp => ⟨fun hlt => ?_, fun hle => ?_⟩, fun hj hl hd hp hlt hlh hr => ?_⟩
    · refine answers_eq ha (exec_drgEvaluate ..) rfl (hgone.trans (drgEvaluate_alone hj)) ?_
      rw [← hb]
      obtain ⟨-, p2, p3, p4, p5⟩ := (drgPublish_shown (projection b) b).settle hnb
      exact ⟨p2, p3.trans hin, p4, fun f hf ho => (p5 f hf ho).trans (hregs f)⟩
    · refine answers_eq ha (exec_drgEvaluate ..) rfl (hgone.trans (drgEvaluate_job hj hl hd)) ?_
      rw [← hb]
      have hacts : guardActs b = heldBy (wantedExt b) (getF b DRG.STATUS.HOLDS + 1) b := by
        unfold guardActs
        rw [if_pos hp, if_pos (by rw [hregs]; exact hlt), raiseHold_eq]
      have hmax : getF b DRG.STATUS.HOLDS + 1 < 16 := by
        unfold holdPossible at hp
        cases hdl : holdDeadline b with
        | none => rw [hdl] at hp; exact absurd hp Bool.false_ne_true
        | some d =>
          rw [hdl] at hp
          simp only [Bool.and_eq_true, decide_eq_true_eq] at hp
          have h8 : getC b DRG.CTRL.MAX_HOLDS 1 8 ≤ 8 := by
            unfold getC clampN
            omega
          omega
      have hext : wantedExt b = cdiv (projection b + (1000 * getF a DRG.HOLD_CTRL.HOLD_MARGIN : Nat) - reserveEff b).toNat
          (1000 * (100 * getC a DRG.HOLD_CTRL.HOLD_QUANTUM 1 255)) * (100 * getC a DRG.HOLD_CTRL.HOLD_QUANTUM 1 255) := by
        unfold wantedExt getC
        rw [hregs, hregs]
      rw [← hext, ← hregs, ← l2, ← l3, hacts]
      generalize wantedExt b = ext at *
      obtain ⟨e1, e2, e3, e4, e5, e6⟩ := heldBy_shown ext hmax b
      generalize heldBy ext (getF b DRG.STATUS.HOLDS + 1) b = u at *
      obtain ⟨-, p2, p3, -, -⟩ := (drgPublish_shown (projection b) u).settle (noEnd_congr hnb e1)
      have hst : ∀ f : Fld, f.key / 32 = 0x50010 → f.key ≠ DRG.STATUS.PAST_DEADLINE.key → getF (settle (drgPublish (projection b) u)) f = getF u f :=
        fun f => ((drgPublish_shown (projection b) u).settle (noEnd_congr hnb e1)).status
      refine ⟨by rw [p2]; exact e2, (hst _ rfl (by decide)).trans e3, (getB_congr (hst _ rfl (by decide))).trans e4, by rw [p2]; exact e5,
        fun hr => (eventWaits_congr p3).2 (e6 (roomRec_congr hin hr))⟩
    · refine answers_eq ha (exec_drgEvaluate ..) rfl (hgone.trans (drgEvaluate_job hj hl hd)) ?_
      rw [← hb]
      have hacts : guardActs b = b := by
        unfold guardActs
        rw [if_pos hp, if_neg (by rw [hregs]; exact Int.not_lt.mpr hle)]
      rw [hacts]
      have hpub := (drgPublish_shown (projection b) b).settle hnb
      exact ⟨hpub.drg, (hpub.status rfl (by decide)).trans (hregs _), hpub.proj⟩
    · refine answers_eq ha (exec_drgEvaluate ..) rfl (hgone.trans (drgEvaluate_job hj hl hd)) ?_
      rw [← hb]
      have hacts : guardActs b = event 0x0503 (if confOn b then toLE 8 0 else toLE 4 (chipLate b) ++ toLE 4 (reserveEff b))
          (lateSent ((chipLate b - reserveEff b) / 1000) b) := by
        unfold guardActs
        rw [if_neg (by rw [hp]; decide), if_pos ⟨hlt, by rw [l1, hlh]; rfl⟩]
        rfl
      rw [hacts, ← hregs, ← l3]
      obtain ⟨e1, e2, e3, e4, e5, e6⟩ := (lateSent_shown ((chipLate b - reserveEff b) / 1000) b).event 0x0503
        (if confOn b then toLE 8 0 else toLE 4 (chipLate b) ++ toLE 4 (reserveEff b))
      generalize event 0x0503 (if confOn b then toLE 8 0 else toLE 4 (chipLate b) ++ toLE 4 (reserveEff b))
        (lateSent ((chipLate b - reserveEff b) / 1000) b) = u at *
      have hpub := (drgPublish_shown (projection b) u).settle (noEnd_congr hnb e1)
      exact ⟨by rw [hpub.drg]; exact e2, (getB_congr (hpub.status rfl (by decide))).trans e3, (getB_congr (hpub.status rfl (by decide))).trans e4,
        messageWaits_of_sub (e6 (roomMsg_congr hin hr)) fun x hx => hpub.inbox ▸ hx, by rw [hpub.drg]; exact e5⟩
  · exact answers_untouched ha (exec_drgEvaluate ..) rfl (if_neg hgrid)
  · refine answers_eq ha (exec_launchMove ..) (Bool.and_eq_true_iff.2 ⟨decide_eq_true hs, decide_eq_true ht⟩) (launchMove_taken h1 h2 h3) ?_
    have hu : ∀ u : State, (u.time = (moved time a).time ∧ u.drg = (moved time a).drg ∧ u.sta = (moved time a).sta ∧ u.regs = (moved time a).regs ∧
        u.inbox = (moved time a).inbox) → noEnd (event 0x0502 (toLE 8 time) u) ∧ (settle (event 0x0502 (toLE 8 time) u)).time = { a.time with nextB := some time } ∧
        (settle (event 0x0502 (toLE 8 time) u)).drg = { a.drg with pendExt := 0 } ∧
        getB (settle (event 0x0502 (toLE 8 time) u)) DRG.STATUS.HOLD_PENDING = false ∧
        (roomRec a → eventWaits 0x0502 (settle (event 0x0502 (toLE 8 time) u))) := fun u ⟨u1, u2, u3, u4, u5⟩ => by
      have hnu : noEnd (event 0x0502 (toLE 8 time) u) := noEnd_congr hn ((event_sta ..).trans u3)
      have hev : roomRec a → eventWaits 0x0502 (event 0x0502 (toLE 8 time) u) := fun hr => eventWaits_event (roomRec_congr u5 hr)
      have hp : getB (event 0x0502 (toLE 8 time) u) DRG.STATUS.HOLD_PENDING = false :=
        (getB_congr ((getF_event _ _ _ (by decide)).trans (getF_congr u4 _))).trans (getB_setB_self _ _ _ rfl)
      refine ⟨hnu, ?_, ?_, (getB_congr (getF_settle _ hnu (by decide))).trans hp, fun hr => (eventWaits_congr (settle_inbox hnu)).2 (hev hr)⟩
      · rw [settle_time hnu, event_time, u1]
        rfl
      · rw [settle_drg hnu, event_drg, u2]
        rfl
    by_cases hst : a.time.nextB = some time
    · rw [if_pos hst]
      obtain ⟨c1, c2, c3, c4, c5⟩ := hu (moved time a) ⟨rfl, rfl, rfl, rfl, rfl⟩
      refine ⟨c2, c3, c4, c5, fun _ => ?_⟩
      rw [settle_psq c1, event_psq]
      rfl
    · rw [if_neg hst]
      obtain ⟨c1, c2, c3, c4, c5⟩ := hu (retime (moved time a)) ⟨rfl, rfl, rfl, rfl, rfl⟩
      exact ⟨c2, c3, c4, c5, fun he => absurd (he ▸ h1) hst⟩
  · refine answers_eq ha (exec_launchMove ..) (Bool.and_eq_true_iff.2 ⟨decide_eq_true hs, decide_eq_true ht⟩) (launchMove_rejected h) ?_
    obtain ⟨m1, -, m3, m4, m5⟩ := sent_last 0x53 0x502 (step % 2 ^ 32) (u := setB a DRG.STATUS.MOVE_REJECT true) (l := [DRG.STATUS.MOVE_REJECT]) hn rfl rfl hr
      (fieldsBut_setB (by simp) (fieldsBut_refl _ a))
    have hnu : noEnd (sendFault 0x53 0x502 (step % 2 ^ 32) (setB a DRG.STATUS.MOVE_REJECT true)) := noEnd_congr hn (sendFault_sta ..)
    refine ⟨?_, m3, (getB_congr (m5 _ (by decide))).trans (getB_setB_self a _ _ rfl), m1, m4⟩
    rw [settle_time hnu, sendFault_time]
    rfl
end

section
/-! SUPPORT. Records and flushes: what storing a record leaves of the fields and of the flush in progress (chapter 16). -/

namespace Sys2Proof.Machine

/-- The fields that writing a record can change. -/
def recordFields : List Fld := EVR.COUNTS.SUPPRESSED :: recorderFields

namespace Quiet

variable {s t : State}

theorem openGran {l : List Fld} (h : Quiet l s t) : Quiet l s (Machine.openGran t) := by
  unfold Machine.openGran
  extract_lets slot s1 q g ecc buf
  have h1 : Quiet l s s1 := by
    unfold s1
    split
    · split
      · exact h
      · refine Quiet.setEvr _ ?_
        split
        · exact h
        · exact h.setEvr _
    · exact h
  exact h1.setEvr _

theorem epochRec (reason : Nat) (h : Quiet recorderFields s t) : Quiet recorderFields s (Machine.epochRec reason t) := (h.storeRec _ _).setEvr _

theorem roomFor (n : Nat) (h : Quiet recorderFields s t) : Quiet recorderFields s (Machine.roomFor n t) := by
  unfold Machine.roomFor
  extract_lets need fits
  clear_value fits
  split
  · split
    · exact h
    · exact h.epochRec 1
  · exact h.closeGran.openGran.epochRec _

theorem watchHits (q typ ev : Nat) (h : Quiet recordFields s t) : Quiet recordFields s (Machine.watchHits q typ ev t) := by
  unfold Machine.watchHits
  refine List.foldlRecOn (motive := Quiet recordFields s) _ _ h fun u hu w _ => ?_
  split
  · exact hu
  · extract_lets again n
    clear_value again
    split
    · exact hu.incF _ (List.mem_cons_self ..)
    · exact hu.setEvr _

theorem putRec (typ ev : Nat) (body : List Nat) (h : Quiet recordFields s t) : Quiet recordFields s (Machine.putRec typ ev body t) := by
  have h1 : Quiet recorderFields t (Machine.storeRec typ body (Machine.roomFor (8 + body.length) t)) := ((Quiet.refl _ t).roomFor _).storeRec _ _
  exact (h.trans (h1.mono fun f hf => by simp [recordFields, hf])).watchHits _ _ _

end Quiet

/-- The flush in progress, its successor and the last fault flush are as before. -/
structure FlushHeld (s t : State) : Prop where
  flush : t.evr.flush = s.evr.flush
  fault : t.evr.faultAt = s.evr.faultAt
  again : t.evr.again = s.evr.again

namespace FlushHeld

variable {s t u : State}

theorem refl (s : State) : FlushHeld s s := ⟨rfl, rfl, rfl⟩

theorem trans (h : FlushHeld s t) (h2 : FlushHeld t u) : FlushHeld s u :=
  ⟨h2.flush.trans h.flush, h2.fault.trans h.fault, h2.again.trans h.again⟩

theorem of_evr (h : t.evr = s.evr) : FlushHeld s t := by
  refine ⟨?_, ?_, ?_⟩ <;> rw [h]

theorem injectAt (k w : Nat) (m : Assoc Nat) (h : FlushHeld s t) : FlushHeld s (Machine.injectAt k w m t).1 := by
  refine h.trans (of_evr ?_)
  rcases injectAt_cases k w m t with he | he <;> rw [he] <;> rfl

theorem showOldest (h : FlushHeld s t) : FlushHeld s (Machine.showOldest t) := by
  refine h.trans (of_evr ?_)
  unfold Machine.showOldest
  split <;> rfl

theorem keepBound (h : FlushHeld s t) : FlushHeld s (Machine.keepBound t) := by
  unfold Machine.keepBound
  split
  · exact ⟨h.flush, h.fault, h.again⟩
  · exact h

theorem storeRec (typ : Nat) (body : List Nat) (h : FlushHeld s t) : FlushHeld s (Machine.storeRec typ body t) := by
  unfold Machine.storeRec
  split
  · exact h
  · dsimp only
    generalize hi : Machine.injectAt 7 _ _ t = p
    have h1 : FlushHeld s p.1 := hi ▸ h.injectAt 7 _ _
    refine (FlushHeld.keepBound ?_).showOldest
    exact ⟨h1.flush, h1.fault, h1.again⟩

theorem closeGran (h : FlushHeld s t) : FlushHeld s (Machine.closeGran t) := by
  unfold Machine.closeGran
  split
  · split
    · exact h
    · dsimp only
      split
      · exact (h.storeRec recPad _).trans ⟨rfl, rfl, rfl⟩
      · exact ⟨h.flush, h.fault, h.again⟩
  · exact h

theorem openGran (h : FlushHeld s t) : FlushHeld s (Machine.openGran t) := by
  unfold Machine.openGran
  extract_lets slot s1 q g ecc buf
  have h1 : FlushHeld s s1 := by
    unfold s1
    split
    · split
      · exact h
      · dsimp only
        split <;> exact ⟨h.flush, h.fault, h.again⟩
    · exact h
  exact ⟨h1.flush, h1.fault, h1.again⟩

theorem epochRec (reason : Nat) (h : FlushHeld s t) : FlushHeld s (Machine.epochRec reason t) := by
  have h1 := h.storeRec recEpoch (epochBody t (nextSeq t) reason)
  exact ⟨h1.flush, h1.fault, h1.again⟩

theorem roomFor (n : Nat) (h : FlushHeld s t) : FlushHeld s (Machine.roomFor n t) := by
  unfold Machine.roomFor
  extract_lets need fits
  clear_value fits
  split
  · split
    · exact h
    · exact h.epochRec 1
  · exact h.closeGran.openGran.epochRec _

theorem watchHits (q typ ev : Nat) (h : FlushHeld s t) : FlushHeld s (Machine.watchHits q typ ev t) := by
  unfold Machine.watchHits
  refine List.foldlRecOn (motive := FlushHeld s) _ _ h fun u hu w _ => ?_
  split
  · exact hu
  · extract_lets again n
    clear_value again
    split
    · exact hu.trans (of_evr rfl)
    · exact ⟨hu.flush, hu.fault, hu.again⟩

theorem putRec (typ ev : Nat) (body : List Nat) (h : FlushHeld s t) : FlushHeld s (Machine.putRec typ ev body t) :=
  ((h.roomFor _).storeRec _ _).watchHits _ _ _

theorem giveUp (l : List Gran) (h : FlushHeld s t) : FlushHeld s (Machine.giveUp l t) :=
  List.foldlRecOn (motive := FlushHeld s) _ _ ⟨h.flush, h.fault, h.again⟩ fun _ hu _ _ => ⟨hu.flush, hu.fault, hu.again⟩

theorem bufBad (off : Nat) (h : FlushHeld s t) : FlushHeld s (Machine.bufBad off t) :=
  h.trans (of_evr (by unfold Machine.bufBad; rw [setB_evr, sendFault_evr]))

theorem skipBad (h : FlushHeld s t) : FlushHeld s (Machine.skipBad t) := by
  refine List.foldlRecOn (motive := FlushHeld s) _ _ h fun u hu g _ => ?_
  split
  · exact (hu.bufBad _).giveUp _
  · exact hu

end FlushHeld

theorem giveUp_regs (l : List Gran) (s : State) : (giveUp l s).regs = s.regs :=
  List.foldlRecOn (motive := fun (t : State) => t.regs = s.regs) _ _ rfl fun _ hu _ _ => hu

/-- A flush that begins is in progress with its trigger, and FLUSHING shows it (R382). -/
theorem flushStart_shown (trig : Nat) (s : State) : (flushStart trig s).evr.flush = trig ∧ (flushStart trig s).evr.faultAt = s.evr.faultAt ∧
    getB (flushStart trig s) EVR.STATUS.FLUSHING = true := by
  have h0 := ((FlushHeld.refl s).closeGran).skipBad
  unfold flushStart
  extract_lets s0 src s1 all old s2 h3 keep heads cut s3 h1
  have hs1 : s1.evr.flush = trig ∧ s1.evr.faultAt = s.evr.faultAt ∧ getB s1 EVR.STATUS.FLUSHING = true := ⟨rfl, h0.fault, getB_setB_self _ _ _ rfl⟩
  clear_value s1
  obtain ⟨a1, a2, a3⟩ := hs1
  have hs2 : FlushHeld s1 s2 ∧ s2.regs = s1.regs := ⟨⟨rfl, rfl, rfl⟩, rfl⟩
  clear_value s2
  obtain ⟨b1, b2⟩ := hs2
  have hs3 : FlushHeld s1 s3 ∧ s3.regs = s1.regs := ⟨b1.giveUp _, (giveUp_regs _ _).trans b2⟩
  clear_value s3
  obtain ⟨c1, c2⟩ := hs3
  split
  · exact ⟨a1, a2, a3⟩
  · exact ⟨c1.flush.trans a1, c1.fault.trans a2, (getB_congr (getF_congr c2 _)).trans a3⟩

theorem flushBegin_idle {trig : Nat} {s : State} (h : flushing s = false) : flushBegin trig s = flushStart trig s := by
  unfold flushBegin
  rw [h]
  rfl

theorem flushBegin_running {trig : Nat} {s : State} (h : flushing s = true) (h4 : trig ≠ 4) (h5 : trig ≠ 5) :
    flushBegin trig s = setEvr { s.evr with again := trig } s := by
  unfold flushBegin
  rw [h, if_neg (by decide), if_neg h5, if_neg h4]

end Sys2Proof.Machine
end

section
/-! O57. Fault messages, severe sources, self-faults, the heartbeat and the key exchange (R386 to R394, R409, R410). -/

namespace Sys2Proof.Machine

/-! ### Acceptance (R386, R387) -/

/-- The fields that show what was accepted. -/
def msgFields : List Fld := [FLC.COUNTS.ACCEPTED, FLC.COUNTS.GAPS, FLC.LAST_LO.MESSAGE, FLC.LAST_HI.MESSAGE, FW.ABSENT_COUNTS.FAULTS]

/-- What keeping a message shows. -/
structure MsgTaken (r : Arrival) (word : Nat) (s t : State) : Prop where
  quiet : Quiet msgFields s t
  low : getF t FLC.LAST_LO.MESSAGE = word % 2 ^ 32
  high : getF t FLC.LAST_HI.MESSAGE = word / 2 ^ 32 % 2 ^ 32
  accepted : getF t FLC.COUNTS.ACCEPTED = min (getF s FLC.COUNTS.ACCEPTED + 1) 65535
  gaps : getF t FLC.COUNTS.GAPS = (if r.seq = aGet 0 s.flc.expect (r.code / 256) then getF s FLC.COUNTS.GAPS
    else min (getF s FLC.COUNTS.GAPS + 1) 65535)
  flc : t.flc = { s.flc with expect := aPut 0 s.flc.expect (r.code / 256) ((r.seq + 1) % 1024), out := some (word, false) }
  cmd : t.cmd = s.cmd
  evr : t.evr = s.evr
  time : t.time = s.time

theorem takeMsg_shown (r : Arrival) (word : Nat) (s : State) : MsgTaken r word s (takeMsg r word s) := by
  unfold takeMsg
  extract_lets g s1 s2 src s3 s4
  have h1 : Quiet msgFields s s1 ∧ getF s1 FLC.COUNTS.ACCEPTED = min (getF s FLC.COUNTS.ACCEPTED + 1) 65535 ∧
      getF s1 FLC.COUNTS.GAPS = getF s FLC.COUNTS.GAPS ∧ s1.flc = s.flc ∧ s1.cmd = s.cmd ∧ s1.evr = s.evr ∧ s1.time = s.time :=
    ⟨(Quiet.refl _ s).incF _ (by simp [msgFields]), getF_incF_self .., getF_incF_ne s (by decide), rfl, rfl, rfl, rfl⟩
  clear_value s1
  obtain ⟨a1, a2, a3, a4, a5, a6, a7⟩ := h1
  have h2 : Quiet msgFields s s2 ∧ getF s2 FLC.COUNTS.ACCEPTED = getF s1 FLC.COUNTS.ACCEPTED ∧ getF s2 FLC.COUNTS.GAPS =
      (if r.seq = aGet 0 s.flc.expect (r.code / 256) then getF s FLC.COUNTS.GAPS else min (getF s FLC.COUNTS.GAPS + 1) 65535) ∧
      s2.flc = s1.flc ∧ s2.cmd = s1.cmd ∧ s2.evr = s1.evr ∧ s2.time = s1.time := by
    unfold s2
    by_cases h : r.seq = aGet 0 s.flc.expect (r.code / 256)
    · rw [if_pos h, if_neg (fun hne => hne h)]
      exact ⟨a1, rfl, a3, rfl, rfl, rfl, rfl⟩
    · rw [if_neg h, if_pos h]
      refine ⟨a1.incF _ (by simp [msgFields]), getF_incF_ne s1 (by decide), ?_, rfl, rfl, rfl, rfl⟩
      rw [getF_incF_self, a3]
      rfl
  clear_value s2
  obtain ⟨b1, b2, b3, b4, b5, b6, b7⟩ := h2
  have h3 : Quiet msgFields s s3 ∧ (∀ f : Fld, getF s3 f = getF s2 f) ∧
      s3.flc = { s.flc with expect := aPut 0 s.flc.expect (r.code / 256) ((r.seq + 1) % 1024), out := some (word, false) } ∧ s3.cmd = s2.cmd ∧
      s3.evr = s2.evr ∧ s3.time = s2.time := by
    refine ⟨⟨b1.sta, b1.acts, b1.inbox, fieldsBut_with b1.fields rfl⟩, fun f => getF_congr rfl f, ?_, rfl, rfl, rfl⟩
    change ({ s2.flc with expect := aPut 0 s2.flc.expect (r.code / 256) ((r.seq + 1) % 1024), out := some (word, false) } : FlcState) = _
    rw [b4, a4]
  clear_value s3
  obtain ⟨c1, c2, c3, c4, c5, c6⟩ := h3
  have h4 : MsgTaken r word s s4 := by
    refine ⟨(c1.setF _ _ (by simp [msgFields])).setF _ _ (by simp [msgFields]), ?_, getF_setF_self .., ?_, ?_, c3, c4.trans (b5.trans a5),
      c5.trans (b6.trans a6), c6.trans (b7.trans a7)⟩
    · exact (getF_setF_ne _ _ (by decide)).trans (getF_setF_self ..)
    · exact (getF_setF_ne _ _ (by decide)).trans ((getF_setF_ne _ _ (by decide)).trans ((c2 _).trans (b2.trans a2)))
    · exact (getF_setF_ne _ _ (by decide)).trans ((getF_setF_ne _ _ (by decide)).trans ((c2 _).trans b3))
  clear_value s4
  split
  · exact ⟨h4.quiet.incF _ (by simp [msgFields]), (getF_incF_ne s4 (by decide)).trans h4.low, (getF_incF_ne s4 (by decide)).trans h4.high,
      (getF_incF_ne s4 (by decide)).trans h4.accepted, (getF_incF_ne s4 (by decide)).trans h4.gaps, h4.flc, h4.cmd, h4.evr, h4.time⟩
  · exact h4

theorem faultMessage_eq {r : Arrival} {rest : List Arrival} {s : State} (h : s.inbox = r :: rest) (hr : r.isRec = false) (hl : s.lostMsg = 0) :
    faultMessage s = countMsg r.code r.kind (msgWord r.code r.kind r.info r.seq) (putRec recFault r.kind (toLE 8 (msgWord r.code r.kind r.info r.seq))
      (takeMsg r (msgWord r.code r.kind r.info r.seq) { s with inbox := rest })) := by
  have ho : overflowMsg { s with inbox := rest } = { s with inbox := rest } := if_pos hl
  unfold faultMessage
  rw [h]
  dsimp only
  rw [if_neg (by simp [hr]), ho]

/-! ### Counting (R389) -/

/-- The count of a message at its arrival. -/
def msgCount (src kind : Nat) (s : State) : Nat :=
  if aGet 0 s.flc.count src = 0 ∨ aGet 0 s.flc.wstart src + ms (policyW s kind) ≤ s.time.ticks then 1 else aGet 0 s.flc.count src + 1

/-- The start of the window that it counts in. -/
def msgStart (src kind : Nat) (s : State) : Nat :=
  if aGet 0 s.flc.count src = 0 ∨ aGet 0 s.flc.wstart src + ms (policyW s kind) ≤ s.time.ticks then s.time.ticks else aGet 0 s.flc.wstart src

/-- The table with the count. -/
def counted (src c st : Nat) (s : State) : State :=
  setFlc { (injectAt 8 0 [] s).1.flc with
    count := aPut 0 (injectAt 8 0 [] s).1.flc.count src c
    wstart := aPut 0 (injectAt 8 0 [] s).1.flc.wstart src st
    bad := !(injectAt 8 0 [] s).2.isEmpty } (injectAt 8 0 [] s).1

theorem countMsg_eq {src kind word : Nat} {s : State} (h1 : getB s FLC.STATUS.SELF_FAULT = false) (h2 : policyN s kind ≠ 0)
    (h3 : s.flc.bad = false) : countMsg src kind word s =
      if policyN s kind ≤ msgCount src kind s ∧ !isSevere s src then
        makeSevere src kind word ((s.time.ticks - msgStart src kind s) / ms 1) (counted src (msgCount src kind s) (msgStart src kind s) s)
      else counted src (msgCount src kind s) (msgStart src kind s) s := by
  unfold countMsg
  rw [if_neg (by rw [h1]; simp [h2]), if_neg (by rw [h3]; decide)]
  rfl

/-- What counting shows. -/
structure Counted (src c : Nat) (s t : State) : Prop where
  quiet : Quiet recorderFields s t
  count : aGet 0 t.flc.count src = c
  expect : t.flc.expect = s.flc.expect
  out : t.flc.out = s.flc.out
  cmd : t.cmd = s.cmd
  evr : t.evr = s.evr
  time : t.time = s.time

theorem injectAt_units (k w : Nat) (m : Assoc Nat) (s : State) : (injectAt k w m s).1.flc = s.flc ∧ (injectAt k w m s).1.cmd = s.cmd ∧
    (injectAt k w m s).1.evr = s.evr ∧ (injectAt k w m s).1.time = s.time := by
  rcases injectAt_cases k w m s with he | he <;> rw [he] <;> exact ⟨rfl, rfl, rfl, rfl⟩

theorem counted_shown (src c st : Nat) (s : State) : Counted src c s (counted src c st s) := by
  have hq := (Quiet.refl recorderFields s).injectAt 8 0 []
  obtain ⟨i1, i2, i3, i4⟩ := injectAt_units 8 0 [] s
  unfold counted
  generalize injectAt 8 0 [] s = p at *
  exact ⟨⟨hq.sta, hq.acts, hq.inbox, fieldsBut_with hq.fields rfl⟩, aGet_aPut_self .., (congrArg FlcState.expect i1 : p.1.flc.expect = _),
    (congrArg FlcState.out i1 : p.1.flc.out = _), i2, i3, i4⟩

/-! ### Severe sources (R389, R390) -/

theorem popcount_pos (n : Nat) : ∀ v, v % 2 ^ n ≠ 0 → popcount n v ≠ 0 := by
  induction n with
  | zero => exact fun v h => absurd (Nat.mod_one v) h
  | succ n ih =>
    intro v h hp
    have hsplit : v % 2 ^ (n + 1) = v % 2 + 2 * (v / 2 % 2 ^ n) := by rw [Nat.pow_succ', Nat.mod_mul]
    have hz : popcount n (v / 2) = 0 ∧ v % 2 = 0 := by
      unfold popcount at hp
      omega
    have hn : v / 2 % 2 ^ n = 0 := by
      by_contra hne
      exact ih _ hne hz.1
    omega

theorem severeCount_pos {v b : Nat} {s : State} (hv : v < 128) (hb : b < 32) (h : bit (getF s (FLC.SEVERE.SEVERE v)) b = true) : severeCount s ≠ 0 := by
  have hp : popcount 32 (getF s (FLC.SEVERE.SEVERE v)) ≠ 0 := by
    refine popcount_pos 32 _ fun hz => ?_
    have ht : (getF s (FLC.SEVERE.SEVERE v) % 2 ^ 32).testBit b = true := by
      rw [Nat.testBit_mod_two_pow, decide_eq_true hb]
      exact h
    rw [hz] at ht
    simp at ht
  intro hz
  have hsum : ((List.range 128).map (fun v => popcount 32 (getF s (FLC.SEVERE.SEVERE v)))).sum = 0 := by
    rw [List.sum_eq_foldl]
    exact hz
  exact hp (List.sum_eq_zero_iff.1 hsum _ (List.mem_map.2 ⟨v, List.mem_range.2 hv, rfl⟩))

theorem severeCount_congr {s t : State} (h : ∀ v < 128, getF t (FLC.SEVERE.SEVERE v) = getF s (FLC.SEVERE.SEVERE v)) : severeCount t = severeCount s := by
  unfold severeCount
  rw [List.map_congr_left fun v hv => by rw [h v (List.mem_range.1 hv)]]

theorem severe_key (v : Nat) : (FLC.SEVERE.SEVERE v).key = 32 * (0xD1000 + 4 * v) := by
  simp only [FLC.SEVERE.SEVERE, fld]
  omega

/-- SEVERE_COUNT and SEVERE_ANY, and nothing else, follow the marks. -/
theorem showSevere_shown (s : State) : getF (showSevere s) FLC.STATUS.SEVERE_COUNT = severeCount s % 65536 ∧
    getB (showSevere s) FLC.STATUS.SEVERE_ANY = (severeCount s != 0) ∧
    ∀ f : Fld, f.key ≠ FLC.STATUS.SEVERE_COUNT.key → f.key ≠ FLC.STATUS.SEVERE_ANY.key → getF (showSevere s) f = getF s f :=
  ⟨(getF_setB_ne _ _ (by decide)).trans (getF_setF_self ..), getB_setB_self _ _ _ rfl, fun _ h1 h2 => (getF_setB_ne _ _ h2).trans (getF_setF_ne _ _ h1)⟩

theorem showSevere_units (s : State) : unitsSame s (showSevere s) := by
  unfold showSevere
  generalize severeCount s = n
  exact unitsSame_refl s

/-- A source is marked. -/
def severeMarked (src : Nat) (s : State) : State :=
  showSevere (setF s (FLC.SEVERE.SEVERE (src / 32)) (setBit (getF s (FLC.SEVERE.SEVERE (src / 32))) (src % 32)))

theorem severeMarked_shown {src : Nat} (hs : src < 4096) (s : State) : isSevere (severeMarked src s) src = true ∧
    getB (severeMarked src s) FLC.STATUS.SEVERE_ANY = true ∧
    ∀ f : Fld, f.key ≠ (FLC.SEVERE.SEVERE (src / 32)).key → f.key ≠ FLC.STATUS.SEVERE_COUNT.key → f.key ≠ FLC.STATUS.SEVERE_ANY.key →
      getF (severeMarked src s) f = getF s f := by
  have hkey := severe_key (src / 32)
  have hbit : bit (getF (setF s (FLC.SEVERE.SEVERE (src / 32)) (setBit (getF s (FLC.SEVERE.SEVERE (src / 32))) (src % 32)))
      (FLC.SEVERE.SEVERE (src / 32))) (src % 32) = true := bit_setF_setBit s _ (Nat.mod_lt _ (by decide))
  have hne : ∀ f : Fld, f.key ≠ (FLC.SEVERE.SEVERE (src / 32)).key →
      getF (setF s (FLC.SEVERE.SEVERE (src / 32)) (setBit (getF s (FLC.SEVERE.SEVERE (src / 32))) (src % 32))) f = getF s f := fun f h =>
    getF_setF_ne _ _ h
  unfold severeMarked
  generalize setF s (FLC.SEVERE.SEVERE (src / 32)) (setBit (getF s (FLC.SEVERE.SEVERE (src / 32))) (src % 32)) = u at *
  obtain ⟨-, w2, w3⟩ := showSevere_shown u
  have hc : FLC.STATUS.SEVERE_COUNT.key < 32 * 0xD1000 := by decide
  have ha : FLC.STATUS.SEVERE_ANY.key < 32 * 0xD1000 := by decide
  refine ⟨?_, w2.trans ?_, fun f h1 h2 h3 => (w3 f h2 h3).trans (hne f h1)⟩
  · unfold isSevere
    rw [w3 _ (by omega) (by omega)]
    exact hbit
  · simpa using severeCount_pos (by omega) (Nat.mod_lt _ (by decide)) hbit

theorem severeMarked_units (src : Nat) (s : State) : (severeMarked src s).sta = s.sta ∧ (severeMarked src s).flc = s.flc ∧
    (severeMarked src s).cmd = s.cmd ∧ (severeMarked src s).evr = s.evr := by
  unfold severeMarked
  generalize setBit (getF s (FLC.SEVERE.SEVERE (src / 32))) (src % 32) = n
  have h := showSevere_units (setF s (FLC.SEVERE.SEVERE (src / 32)) n)
  generalize showSevere (setF s (FLC.SEVERE.SEVERE (src / 32)) n) = u at *
  obtain ⟨-, ⟨-, -, -, -, hsta, -⟩, -, hcmd, hevr, hflc, -, -⟩ := h
  exact ⟨hsta, hflc, hcmd, hevr⟩

theorem raiseVec_shown (v : Nat) (s : State) : Quiet [] s (raiseVec v s) ∧ (raiseVec v s).evr = s.evr ∧ (raiseVec v s).flc = s.flc ∧
    aGet 0 (raiseVec v s).cmd.vecs v = aGet 0 s.cmd.vecs v + 1 ∧ (raiseVec v s).time = s.time := by
  refine ⟨⟨rfl, rfl, fun _ h => h, fieldsBut_refl _ _⟩, rfl, rfl, ?_, rfl⟩
  change aGet 0 (aPut 0 s.cmd.vecs v (aGet 0 s.cmd.vecs v + 1)) v = _
  exact aGet_aPut_self ..

/-- The fields that a policy's action can change. -/
def actFields : List Fld := EVR.STATUS.FLUSH_PENDING :: recorderFields

theorem faultFlush_shown (s : State) : Quiet actFields s (faultFlush s) ∧ (faultFlush s).flc = s.flc ∧ (faultFlush s).cmd = s.cmd ∧
    (flushing s = false → s.evr.faultAt = none → (faultFlush s).evr.flush = 1) := by
  have hag := faultFlush_agree (L := [.msgs, .evr]) (lo := 0) (.self _) (Nat.zero_le _) (.refl _ 0 s)
  refine ⟨?_, hag.flc (by decide), hag.cmd (by decide), fun h1 h2 => ?_⟩
  · unfold faultFlush
    extract_lets again
    split
    · exact (Quiet.refl _ s).setB _ _ (by simp [actFields])
    · exact (((Quiet.refl recorderFields s).setEvr _).flushBegin 1).mono fun f hf => by simp [actFields, hf]
  · have hf : flushing (setEvr { s.evr with faultAt := some s.time.ticks } s) = false := h1
    have he : faultFlush s = flushBegin 1 (setEvr { s.evr with faultAt := some s.time.ticks } s) := by
      unfold faultFlush
      simp only [h2]
      rfl
    rw [he, flushBegin_idle hf]
    exact (flushStart_shown 1 _).1

/-- What a policy's action shows (R390). -/
structure ActShown (act : Nat) (s t : State) : Prop where
  fields : fieldsBut actFields s t
  ends : noEnd s → noEnd t
  flc : t.flc = s.flc
  vec : 1 ≤ act → getB s FLC.CTRL.IRQ_EN = true → ∀ v, v = getF s FLC.CTRL.VECTOR → aGet 0 t.cmd.vecs v = aGet 0 s.cmd.vecs v + 1
  quietVec : act = 0 → t.cmd.vecs = s.cmd.vecs
  flush : 2 ≤ act → flushing s = false → s.evr.faultAt = none → t.evr.flush = 1
  quietFlush : act ≤ 1 → t.evr.flush = s.evr.flush
  safe : act = 3 → safeOn s = false → s.sta.safeDue = 0 → t.sta.safeDue = 3

theorem severeAct_shown (act : Nat) (s : State) : ActShown act s (severeAct act s) := by
  unfold severeAct
  extract_lets s1 s2
  have h1 : Quiet [] s s1 ∧ s1.evr = s.evr ∧ s1.flc = s.flc ∧ (1 ≤ act → getB s FLC.CTRL.IRQ_EN = true →
      aGet 0 s1.cmd.vecs (getF s FLC.CTRL.VECTOR) = aGet 0 s.cmd.vecs (getF s FLC.CTRL.VECTOR) + 1) ∧ (act = 0 → s1.cmd.vecs = s.cmd.vecs) := by
    unfold s1
    split
    · next h =>
      obtain ⟨r1, r2, r3, r4, -⟩ := raiseVec_shown (getF s FLC.CTRL.VECTOR) s
      exact ⟨r1, r2, r3, fun _ _ => r4, fun h0 => by omega⟩
    · next h => exact ⟨.refl _ s, rfl, rfl, fun ha hb => absurd ⟨ha, hb⟩ h, fun _ => rfl⟩
  clear_value s1
  obtain ⟨a1, a2, a3, a4, a5⟩ := h1
  have h2 : Quiet actFields s s2 ∧ s2.flc = s1.flc ∧ s2.cmd = s1.cmd ∧ (2 ≤ act → flushing s1 = false → s1.evr.faultAt = none → s2.evr.flush = 1) ∧
      (act ≤ 1 → s2.evr.flush = s1.evr.flush) := by
    unfold s2
    split
    · obtain ⟨f1, f2, f3, f4⟩ := faultFlush_shown s1
      exact ⟨(a1.mono (by simp)).trans f1, f2, f3, fun _ => f4, fun h0 => by omega⟩
    · exact ⟨a1.mono (by simp), rfl, rfl, fun h0 => by omega, fun _ => rfl⟩
  clear_value s2
  obtain ⟨b1, b2, b3, b4, b5⟩ := h2
  have hflush : flushing s1 = flushing s := by
    unfold flushing
    rw [a2]
  have hbase : ActShown act s s2 ∨ act = 3 := by
    by_cases h3 : act = 3
    · exact .inr h3
    · exact .inl ⟨b1.fields, fun hn => noEnd_congr hn b1.sta, b2.trans a3, fun h hb v hv => by rw [b3, hv]; exact a4 h hb,
        fun h => by rw [b3]; exact a5 h, fun h hf hq => b4 h (hflush.trans hf) (by rw [a2]; exact hq), fun h => (b5 h).trans (by rw [a2]),
        fun h => absurd h h3⟩
  have hsafe : safeOn s2 = safeOn s := getB_congr (b1.getF (by decide) (by decide))
  split
  · next h3 =>
    have hsa : (safeAsk 3 s2).regs = s2.regs ∧ (noEnd s2 → noEnd (safeAsk 3 s2)) ∧ (safeAsk 3 s2).flc = s2.flc ∧ (safeAsk 3 s2).cmd = s2.cmd ∧
        (safeAsk 3 s2).evr = s2.evr ∧ (safeOn s2 = false → s2.sta.safeDue = 0 → (safeAsk 3 s2).sta.safeDue = 3) := by
      unfold safeAsk
      split
      · next h => exact ⟨rfl, id, rfl, rfl, rfl, fun e1 e2 => by rw [e1, e2] at h; exact absurd h (by decide)⟩
      · exact ⟨rfl, id, rfl, rfl, rfl, fun _ _ => rfl⟩
    generalize safeAsk 3 s2 = u at *
    obtain ⟨c1, c2, c3, c4, c5, c6⟩ := hsa
    exact ⟨fieldsBut_with b1.fields c1, fun hn => c2 (noEnd_congr hn b1.sta), c3.trans (b2.trans a3),
      fun h hb v hv => by rw [c4, b3, hv]; exact a4 h hb, fun h => absurd (h3.symm.trans h) (by decide),
      fun h hf hq => (congrArg EvrState.flush c5).trans (b4 h (hflush.trans hf) (by rw [a2]; exact hq)), fun h => by omega,
      fun _ e1 e2 => c6 (hsafe.trans e1) (by rw [b1.sta]; exact e2)⟩
  · next h3 => exact hbase.resolve_right h3

/-- The message shows that its source is severe. -/
def toldOut (word : Nat) (s : State) : State := setFlc { s.flc with out := some (word, true) } s

theorem toldOut_shown (word : Nat) (s : State) : (∀ f, getF (toldOut word s) f = getF s f) ∧ (toldOut word s).sta = s.sta ∧
    (toldOut word s).flc = { s.flc with out := some (word, true) } ∧ (toldOut word s).cmd = s.cmd ∧ (toldOut word s).evr = s.evr :=
  ⟨fun f => getF_congr rfl f, rfl, rfl, rfl, rfl⟩

/-- A severe source's record, before its action. -/
def severeTold (src kind word : Nat) (body : List Nat) (s : State) : State := toldOut word (putRec recSevere kind body (severeMarked src s))

theorem makeSevere_eq (src kind word age : Nat) (s : State) : makeSevere src kind word age s =
    severeAct (policyAct s kind) (severeTold src kind word
      (toLE 8 word ++ [policyAct s kind, policyN s kind] ++ toLE 2 (policyW s kind) ++ toLE 4 age) s) := by
  unfold makeSevere severeTold severeMarked toldOut
  rfl

theorem policy_keys (k : Nat) : (FLC.POLICY.N k).key = 32 * (0xD0C00 + 4 * k) ∧ (FLC.POLICY.W k).key = 32 * (0xD0C00 + 4 * k) + 8 ∧
    (FLC.POLICY.ACTION k).key = 32 * (0xD0C00 + 4 * k) + 24 := by
  simp only [FLC.POLICY.N, FLC.POLICY.W, FLC.POLICY.ACTION, fld]
  omega

/-- What making a source severe shows before its action. -/
structure SevereTold (src word : Nat) (s t : State) : Prop where
  severe : isSevere t src = true
  any : getB t FLC.STATUS.SEVERE_ANY = true
  sta : t.sta = s.sta
  flc : t.flc = { s.flc with out := some (word, true) }
  cmd : t.cmd = s.cmd
  held : FlushHeld s t
  fields : ∀ f : Fld, f.key < 32 * 0xD1000 → f.key ∉ recordFields.map (fun g => g.key) → f.key ≠ FLC.STATUS.SEVERE_COUNT.key →
    f.key ≠ FLC.STATUS.SEVERE_ANY.key → getF t f = getF s f

theorem recordFields_low : ∀ g ∈ recordFields, g.key < 32 * 0xD1000 := by decide

theorem severeTold_shown {src : Nat} (hs : src < 4096) (kind word : Nat) (body : List Nat) (s : State) :
    SevereTold src word s (severeTold src kind word body s) := by
  obtain ⟨m1, m2, m3⟩ := severeMarked_shown hs s
  have mu := severeMarked_units src s
  unfold severeTold
  generalize severeMarked src s = u at *
  obtain ⟨u1, u2, u3, u4⟩ := mu
  have hq := (Quiet.refl recordFields u).putRec recSevere kind body
  have hh := (FlushHeld.of_evr (s := s) (t := u) u4).putRec recSevere kind body
  have hag := putRec_agree (L := [.evr]) (lo := 0) recSevere kind body (.self _) (Nat.zero_le _) (.refl _ 0 u)
  have hpf := hag.flc (by decide)
  have hpc := hag.cmd (by decide)
  generalize putRec recSevere kind body u = p at *
  obtain ⟨o1, o2, o3, o4, o5⟩ := toldOut_shown word p
  generalize toldOut word p = t at *
  have hkey := severe_key (src / 32)
  have hover : 32 * 0xE0000 ≤ TST.CTRL.OVERRIDE.key := by decide
  have hhigh : (FLC.SEVERE.SEVERE (src / 32)).key ∉ recordFields.map (fun g => g.key) := fun hm => by
    obtain ⟨g, hg, he⟩ := List.mem_map.1 hm
    have := recordFields_low g hg
    omega
  refine ⟨?_, (getB_congr ((o1 _).trans (hq.getF (by decide) (by decide)))).trans m2, o2.trans (hq.sta.trans u1), ?_, o4.trans (hpc.trans u3),
    hh.trans (.of_evr o5), fun f e1 e2 e3 e4 => (o1 f).trans ((hq.getF e2 (by omega)).trans (m3 f (by omega) e3 e4))⟩
  · unfold isSevere at m1 ⊢
    rw [o1, hq.getF hhigh (by omega)]
    exact m1
  · rw [o3, hpf, u2]

end Sys2Proof.Machine
end

section
/-! SUPPORT. The registers that the recorder and the collector leave. -/

namespace Sys2Proof.Machine

section
variable {bl lo : Nat} {z s : State}

theorem injectAt_between (checker : Nat) (word : Nat) (m : Assoc Nat) (hout : Outside [0x1a01310, 0x1a01380, 0x1a01388] bl lo) (hz :
    Between bl lo z s) : Between bl lo z (injectAt checker word m s).1 := by
  unfold injectAt
  with_reducible repeat' (first
      | assumption | apply setF_between | apply setB_between | split | simp only | apply mk_between
      | exact Outside.of (by decide) hout | exact Outside.at_mem hout (by decide))

theorem addLost_between (first : Nat) (n : Nat) (hz : Between bl lo z s) : Between bl lo z (addLost first n s) := by
  unfold addLost
  with_reducible repeat' (first
      | assumption | apply setEvr_between)

theorem setLast_between (g : Gran) (hz : Between bl lo z s) : Between bl lo z (setLast g s) := by
  unfold setLast
  with_reducible repeat' (first
      | assumption | apply setEvr_between)

theorem showOldest_between (hout : Outside [0x1a00200, 0x1a00280, 0x1a00410] bl lo) (hz : Between bl lo z s) : Between bl lo z (showOldest
    s) := by
  unfold showOldest
  with_reducible repeat' (first
      | assumption | apply setF_between | apply setW_between | split | exact Outside.of (by decide) hout
      | exact Outside.at_mem hout (by decide))

theorem keepBound_between (hz : Between bl lo z s) : Between bl lo z (keepBound s) := by
  unfold keepBound
  with_reducible repeat' (first
      | assumption | apply setEvr_between | split)

theorem storeRec_between (typ : Nat) (body : List Nat) (hout : Outside [0x1a00100, 0x1a00180, 0x1a00200, 0x1a00280, 0x1a00400, 0x1a00410,
    0x1a01310, 0x1a01380, 0x1a01388] bl lo) (hz : Between bl lo z s) : Between bl lo z (storeRec typ body s) := by
  unfold storeRec
  with_reducible repeat' (first
      | assumption | apply injectAt_between | apply setEvr_between | apply setLast_between | apply setF_between | apply setW_between
      | apply showOldest_between | apply keepBound_between | split | simp only [between_mk_eq] | apply mk_between
      | exact Outside.of (by decide) hout | exact Outside.at_mem hout (by decide))

theorem epochRec_between (reason : Nat) (hout : Outside [0x1a00100, 0x1a00180, 0x1a00200, 0x1a00280, 0x1a00400, 0x1a00410, 0x1a01310,
    0x1a01380, 0x1a01388] bl lo) (hz : Between bl lo z s) : Between bl lo z (epochRec reason s) := by
  unfold epochRec
  with_reducible repeat' (first
      | assumption | apply storeRec_between | apply setEvr_between)

theorem openGran_between (hz : Between bl lo z s) : Between bl lo z (openGran s) := by
  unfold openGran
  with_reducible repeat' (first
      | assumption | apply addLost_between | apply setEvr_between | split)

theorem closeGran_between (hout : Outside [0x1a00100, 0x1a00180, 0x1a00200, 0x1a00280, 0x1a00400, 0x1a00410, 0x1a01310, 0x1a01380,
    0x1a01388] bl lo) (hz : Between bl lo z s) : Between bl lo z (closeGran s) := by
  unfold closeGran
  with_reducible repeat' (first
      | assumption | apply storeRec_between | apply setEvr_between | split)

theorem roomFor_between (n : Nat) (hout : Outside [0x1a00100, 0x1a00180, 0x1a00200, 0x1a00280, 0x1a00400, 0x1a00410, 0x1a01310, 0x1a01380,
    0x1a01388] bl lo) (hz : Between bl lo z s) : Between bl lo z (roomFor n s) := by
  unfold roomFor
  with_reducible repeat' (first
      | assumption | apply epochRec_between | apply openGran_between | apply closeGran_between | split | simp only)

theorem watchHits_between (q : Nat) (typ : Nat) (ev : Nat) (hout : Outside [0x1a00510] bl lo) (hz : Between bl lo z s) : Between bl lo z
    (watchHits q typ ev s) := by
  unfold watchHits
  with_reducible repeat' (first
      | assumption | apply incF_between | apply setEvr_between | apply foldl_between | split | (intro _) | simp only
      | apply mk_between | exact Outside.of (by decide) hout | exact Outside.at_mem hout (by decide))

theorem putRec_between (typ : Nat) (ev : Nat) (body : List Nat) (hout : Outside [0x1a00100, 0x1a00180, 0x1a00200, 0x1a00280, 0x1a00400,
    0x1a00410, 0x1a00510, 0x1a01310, 0x1a01380, 0x1a01388] bl lo) (hz : Between bl lo z s) : Between bl lo z (putRec typ ev body s) := by
  unfold putRec
  with_reducible repeat' (first
      | assumption | apply roomFor_between | apply watchHits_between | apply storeRec_between | exact Outside.of (by decide) hout)

theorem takeMsg_between (a : Arrival) (word : Nat) (hout : Outside [0x1600590, 0x1a01180, 0x1a01200, 0x1a01280, 0x1a01290] bl lo) (hz :
    Between bl lo z s) : Between bl lo z (takeMsg a word s) := by
  unfold takeMsg
  with_reducible repeat' (first
      | assumption | apply incF_between | apply setFlc_between | apply setF_between | split | simp only [between_mk_eq] | apply mk_between
      | exact Outside.of (by decide) hout | exact Outside.at_mem hout (by decide))

end

end Sys2Proof.Machine
end

section
/-! O57, continued. What counting leaves, self-faults, the host's writes, the heartbeat and the key exchange. -/

namespace Sys2Proof.Machine

/-! ### A self-fault (R394) -/

/-- The fields that a self-fault can change. -/
def selfFields : List Fld := FLC.STATUS.SELF_FAULT :: EVR.COUNTS.SUPPRESSED :: safeEntryFields

/-- What a self-fault shows. -/
structure SelfShown (s t : State) : Prop where
  fault : getB t FLC.STATUS.SELF_FAULT = true
  beat : getB t FLC.STATUS.HB_RUN = false
  safe : safeOn t = true
  cause : safeOn s = false → getF t STA.SAFE_STATUS.CAUSE = 2
  flush : flushing s = false → t.evr.flush = 2
  ends : noEnd s → noEnd t
  fields : fieldsBut selfFields s t

/-- The self-fault's marks and its own message's number. -/
def selfMarked (s : State) : State :=
  { setB (setB s FLC.STATUS.SELF_FAULT true) FLC.STATUS.HB_RUN false with
    msgSeq := aPut 0 s.msgSeq 0xD ((aGet 0 s.msgSeq 0xD + 1) % 1024)
    flc := { s.flc with expect := aPut 0 s.flc.expect 0xD ((aGet 0 s.msgSeq 0xD + 1) % 1024) } }

theorem selfMarked_shown (s : State) : (selfMarked s).sta = s.sta ∧ (selfMarked s).evr = s.evr ∧ getB (selfMarked s) FLC.STATUS.SELF_FAULT = true ∧
    getB (selfMarked s) FLC.STATUS.HB_RUN = false ∧ fieldsBut [FLC.STATUS.SELF_FAULT, FLC.STATUS.HB_RUN] s (selfMarked s) := by
  refine ⟨rfl, rfl, ?_, ?_, ?_⟩
  · refine (getB_congr (getF_congr (s := setB (setB s FLC.STATUS.SELF_FAULT true) FLC.STATUS.HB_RUN false) rfl _)).trans ?_
    exact (getB_setB_ne _ _ (by decide)).trans (getB_setB_self _ _ _ rfl)
  · exact (getB_congr (getF_congr (s := setB (setB s FLC.STATUS.SELF_FAULT true) FLC.STATUS.HB_RUN false) rfl _)).trans (getB_setB_self _ _ _ rfl)
  · have h := fieldsBut_setB (l := [FLC.STATUS.SELF_FAULT, FLC.STATUS.HB_RUN]) (g := FLC.STATUS.HB_RUN) (v := false) (by simp)
      (fieldsBut_setB (g := FLC.STATUS.SELF_FAULT) (v := true) (by simp) (fieldsBut_refl _ s))
    exact fieldsBut_with h rfl

theorem selfFault_eq {info : Nat} {s : State} (h : getB s FLC.STATUS.SELF_FAULT = false) : selfFault info s =
    flushBegin 2 (safeEnter 2 (putRec recFault 0xD2 (toLE 8 (msgWord 0xD10 0xD2 (info % 2 ^ 32) (aGet 0 s.msgSeq 0xD))) (selfMarked s))) := by
  unfold selfFault
  rw [h, if_neg (by decide)]
  rfl

/-- Whether or not it was safe before, the block is safe after it is asked to be. -/
theorem safeEnter_always (cause : Nat) (s : State) : safeOn (safeEnter cause s) = true ∧
    (safeOn s = false → getF (safeEnter cause s) STA.SAFE_STATUS.CAUSE = cause % 8) ∧ (noEnd s → noEnd (safeEnter cause s)) ∧
    (getB s FLC.STATUS.HB_RUN = false → getB (safeEnter cause s) FLC.STATUS.HB_RUN = false) ∧ (safeEnter cause s).evr = s.evr ∧
    fieldsBut safeEntryFields s (safeEnter cause s) := by
  have he := (safeEnter_agree (L := [.msgs, .waits, .drg, .phc, .lgv, .sta]) (lo := 0) cause (.self _) (Nat.zero_le _) (.refl _ 0 s)).evr (by decide)
  cases h : safeOn s
  · obtain ⟨h1, h2, h3, -, -, h6, -, -, -, -, -, h12⟩ := safeEnter_shown (cause := cause) h
    exact ⟨h2, fun _ => h3, fun hn => by unfold noEnd; rw [h1]; exact hn, fun _ => h6, he, h12⟩
  · have hs : safeEnter cause s = setSta { s.sta with safeDue := 0 } s := by
      unfold safeEnter
      rw [h]
      rfl
    rw [hs]
    exact ⟨h, fun h0 => absurd h0 (by decide), id, id, rfl, fieldsBut_regs rfl⟩

theorem recordFields_self : ∀ f ∈ recordFields, f ∈ selfFields := by decide

theorem selfFault_shown {info : Nat} {s : State} (h : getB s FLC.STATUS.SELF_FAULT = false) : SelfShown s (selfFault info s) := by
  rw [selfFault_eq h]
  generalize toLE 8 (msgWord 0xD10 0xD2 (info % 2 ^ 32) (aGet 0 s.msgSeq 0xD)) = body
  obtain ⟨m1, m2, m3, m4, m5⟩ := selfMarked_shown s
  generalize selfMarked s = u at *
  have hq := (Quiet.refl recordFields u).putRec recFault 0xD2 body
  have hh := (FlushHeld.of_evr (s := s) (t := u) m2).putRec recFault 0xD2 body
  generalize putRec recFault 0xD2 body u = v at *
  have v3 : getB v FLC.STATUS.SELF_FAULT = true := (getB_congr (hq.getF (by decide) (by decide))).trans m3
  have v4 : getB v FLC.STATUS.HB_RUN = false := (getB_congr (hq.getF (by decide) (by decide))).trans m4
  have v5 : fieldsBut selfFields s v :=
    fieldsBut_trans (fieldsBut_mono m5 (by decide)) (fieldsBut_mono hq.fields recordFields_self)
  have hsafe : safeOn v = safeOn s := getB_congr ((hq.getF (by decide) (by decide)).trans (m5 _ (by decide) (by decide)))
  obtain ⟨e1, e2, e3, e4, e5, e6⟩ := safeEnter_always 2 v
  have e7 := (getB_congr (e6 FLC.STATUS.SELF_FAULT (by decide) (by decide))).trans v3
  generalize safeEnter 2 v = w at *
  have hf := (Quiet.refl recorderFields w).flushBegin 2
  have hflush : flushing w = flushing s := by
    unfold flushing
    rw [e5, hh.flush]
  have hstart : flushing s = false → (flushBegin 2 w).evr.flush = 2 := fun h0 => by
    rw [flushBegin_idle (hflush.trans h0)]
    exact (flushStart_shown 2 w).1
  generalize flushBegin 2 w = x at *
  refine ⟨(getB_congr (hf.getF (by decide) (by decide))).trans e7, (getB_congr (hf.getF (by decide) (by decide))).trans (e4 v4),
    (getB_congr (hf.getF (by decide) (by decide))).trans e1, fun h0 => (hf.getF (by decide) (by decide)).trans (e2 (hsafe.trans h0)), hstart,
    fun hn => noEnd_congr (e3 (noEnd_congr hn (hq.sta.trans m1))) hf.sta,
    fieldsBut_trans v5 (fieldsBut_trans (fieldsBut_mono e6 fun f h0 => ?_) (fieldsBut_mono hf.fields fun f h0 => ?_))⟩
  · exact List.mem_cons_of_mem _ (List.mem_cons_of_mem _ h0)
  · exact recordFields_self f (List.mem_cons_of_mem _ h0)

/-! ### What counting leaves (R386, R389) -/

/-- The fields that show what was accepted stand, and nothing rests or wakes. -/
structure MsgKept (s t : State) : Prop where
  low : getF t FLC.LAST_LO.MESSAGE = getF s FLC.LAST_LO.MESSAGE
  high : getF t FLC.LAST_HI.MESSAGE = getF s FLC.LAST_HI.MESSAGE
  accepted : getF t FLC.COUNTS.ACCEPTED = getF s FLC.COUNTS.ACCEPTED
  gaps : getF t FLC.COUNTS.GAPS = getF s FLC.COUNTS.GAPS
  ends : noEnd s → noEnd t

namespace MsgKept

theorem refl (s : State) : MsgKept s s := ⟨rfl, rfl, rfl, rfl, id⟩

theorem trans {s t u : State} (h : MsgKept s t) (h2 : MsgKept t u) : MsgKept s u :=
  ⟨h2.low.trans h.low, h2.high.trans h.high, h2.accepted.trans h.accepted, h2.gaps.trans h.gaps, fun hn => h2.ends (h.ends hn)⟩

/-- Where the four fields are none of those listed, they stand. -/
theorem of_fields {l : List Fld} {s t : State} (h : fieldsBut l s t) (he : noEnd s → noEnd t)
    (hl : ∀ f ∈ [FLC.LAST_LO.MESSAGE, FLC.LAST_HI.MESSAGE, FLC.COUNTS.ACCEPTED, FLC.COUNTS.GAPS], f.key ∉ l.map (fun g => g.key)) : MsgKept s t :=
  ⟨h _ (hl _ (by simp)) (by decide), h _ (hl _ (by simp)) (by decide), h _ (hl _ (by simp)) (by decide), h _ (hl _ (by simp)) (by decide), he⟩

theorem counted (src c st : Nat) (s : State) : MsgKept s (Machine.counted src c st s) := by
  have h := (counted_shown src c st s).quiet
  exact .of_fields h.fields (fun hn => noEnd_congr hn h.sta) (by decide)

theorem severeTold {src : Nat} (hs : src < 4096) (kind word : Nat) (body : List Nat) (s : State) :
    MsgKept s (Machine.severeTold src kind word body s) := by
  have h := severeTold_shown hs kind word body s
  have hf := h.fields
  exact ⟨hf _ (by decide) (by decide) (by decide) (by decide), hf _ (by decide) (by decide) (by decide) (by decide),
    hf _ (by decide) (by decide) (by decide) (by decide), hf _ (by decide) (by decide) (by decide) (by decide), fun hn => noEnd_congr hn h.sta⟩

theorem severeAct (act : Nat) (s : State) : MsgKept s (Machine.severeAct act s) := by
  have h := severeAct_shown act s
  exact .of_fields h.fields h.ends (by decide)

theorem countMsg {src : Nat} (hs : src < 4096) (kind word : Nat) (s : State) : MsgKept s (Machine.countMsg src kind word s) := by
  by_cases hskip : getB s FLC.STATUS.SELF_FAULT = true ∨ policyN s kind = 0
  · have he : Machine.countMsg src kind word s = s := if_pos hskip
    rw [he]
    exact refl s
  · obtain ⟨h1, h2⟩ := not_or.1 hskip
    rw [Bool.not_eq_true] at h1
    cases hb : s.flc.bad
    · rw [countMsg_eq h1 h2 hb]
      have hc := counted src (msgCount src kind s) (msgStart src kind s) s
      generalize Machine.counted src (msgCount src kind s) (msgStart src kind s) s = u at *
      split
      · rw [makeSevere_eq]
        exact hc.trans ((severeTold hs kind word _ u).trans (severeAct _ _))
      · exact hc
    · have he : Machine.countMsg src kind word s = selfFault src s := by
        unfold Machine.countMsg
        rw [if_neg hskip, if_pos hb]
      rw [he]
      have h := selfFault_shown (info := src) h1
      exact .of_fields h.fields h.ends (by decide)

end MsgKept

/-! ### A message arrives (R386, R387) -/

theorem Outside.of_below {l : List Nat} {bl lo : Nat} (h : ∀ k ∈ l, k < bl) : Outside l bl lo := fun k hk => .inl (h k hk)

/-- What a message's acceptance and record show, before it is counted. -/
structure MsgIn (r : Arrival) (word : Nat) (s t : State) : Prop where
  low : getF t FLC.LAST_LO.MESSAGE = word % 2 ^ 32
  high : getF t FLC.LAST_HI.MESSAGE = word / 2 ^ 32 % 2 ^ 32
  accepted : getF t FLC.COUNTS.ACCEPTED = min (getF s FLC.COUNTS.ACCEPTED + 1) 65535
  gaps : getF t FLC.COUNTS.GAPS = (if r.seq = aGet 0 s.flc.expect (r.code / 256) then getF s FLC.COUNTS.GAPS
    else min (getF s FLC.COUNTS.GAPS + 1) 65535)
  flc : t.flc = { s.flc with expect := aPut 0 s.flc.expect (r.code / 256) ((r.seq + 1) % 1024), out := some (word, false) }
  cmd : t.cmd = s.cmd
  sta : t.sta = s.sta
  time : t.time = s.time
  held : FlushHeld s t
  fields : fieldsBut (msgFields ++ recordFields) s t
  policy : ∀ hi, Between (32 * 0xD0C00) hi s t

theorem msgIn_shown (r : Arrival) (word kind : Nat) (body : List Nat) (s : State) : MsgIn r word s (putRec recFault kind body (takeMsg r word s)) := by
  have hb := fun hi => takeMsg_between (bl := 32 * 0xD0C00) (lo := hi) r word (.of_below (by decide)) (.refl _ _ s)
  obtain ⟨h1, h2, h3, h4, h5, h6, h7, h8, h9⟩ := takeMsg_shown r word s
  generalize takeMsg r word s = u at *
  have hq := (Quiet.refl recordFields u).putRec recFault kind body
  have hh := (FlushHeld.of_evr (s := s) (t := u) h8).putRec recFault kind body
  have hp := fun hi => putRec_between recFault kind body (.of_below (by decide)) (hb hi)
  have hag := putRec_agree (L := [.evr]) (lo := 0) recFault kind body (.self _) (Nat.zero_le _) (.refl _ 0 u)
  have g1 := hag.flc (by decide)
  have g2 := hag.cmd (by decide)
  have g3 := hag.time (by decide)
  generalize putRec recFault kind body u = v at *
  exact ⟨(hq.getF (by decide) (by decide)).trans h2, (hq.getF (by decide) (by decide)).trans h3, (hq.getF (by decide) (by decide)).trans h4,
    (hq.getF (by decide) (by decide)).trans h5, g1.trans h6, g2.trans h7, hq.sta.trans h1.sta, g3.trans h9, hh,
    fieldsBut_trans (fieldsBut_mono h1.fields fun f hf => List.mem_append_left _ hf)
      (fieldsBut_mono hq.fields fun f hf => List.mem_append_right _ hf), hp⟩

theorem policy_congr {s t : State} (h : ∀ hi, Between (32 * 0xD0C00) hi s t) (k : Nat) : policyN t k = policyN s k ∧
    policyW t k = policyW s k ∧ policyAct t k = policyAct s k := by
  obtain ⟨h1, h2, h3⟩ := policy_keys k
  unfold policyN policyW policyAct
  rw [h _ _ (by omega) (Nat.lt_succ_self _), h _ _ (by omega) (Nat.lt_succ_self _), h _ _ (by omega) (Nat.lt_succ_self _)]
  exact ⟨rfl, rfl, rfl⟩

/-- What counting a message shows (R389, R390): `c` is its count, and its policy that of the state in which it comes. -/
structure MsgCounted (src kind word c : Nat) (s t : State) : Prop where
  count : aGet 0 t.flc.count src = c
  expect : t.flc.expect = s.flc.expect
  quiet : (c < policyN s kind ∨ isSevere s src = true) → isSevere t src = isSevere s src ∧ t.flc.out = s.flc.out ∧ t.sta = s.sta
  loud : policyN s kind ≤ c → isSevere s src = false → isSevere t src = true ∧ getB t FLC.STATUS.SEVERE_ANY = true ∧
    t.flc.out = some (word, true) ∧
    (1 ≤ policyAct s kind → getB s FLC.CTRL.IRQ_EN = true → ∀ v, v = getF s FLC.CTRL.VECTOR → aGet 0 t.cmd.vecs v = aGet 0 s.cmd.vecs v + 1) ∧
    (policyAct s kind = 0 → t.cmd.vecs = s.cmd.vecs) ∧
    (2 ≤ policyAct s kind → flushing s = false → s.evr.faultAt = none → t.evr.flush = 1) ∧
    (policyAct s kind ≤ 1 → t.evr.flush = s.evr.flush) ∧
    (policyAct s kind = 3 → safeOn s = false → s.sta.safeDue = 0 → t.sta.safeDue = 3)

theorem severe_low {v : Nat} (hv : v < 128) : (FLC.SEVERE.SEVERE v).key ≠ TST.CTRL.OVERRIDE.key ∧ 32 * 0xD1000 ≤ (FLC.SEVERE.SEVERE v).key := by
  have hk := severe_key v
  have ho : TST.CTRL.OVERRIDE.key = 32 * 0xF0000 := by decide
  omega

theorem isSevere_congr {l : List Fld} {src : Nat} {s t : State} (hs : src < 4096) (h : fieldsBut l s t) (hl : ∀ f ∈ l, f.key < 32 * 0xD1000) :
    isSevere t src = isSevere s src := by
  obtain ⟨h1, h2⟩ := severe_low (v := src / 32) (by omega)
  unfold isSevere
  rw [h _ (fun hm => ?_) h1]
  obtain ⟨g, hg, he⟩ := List.mem_map.1 hm
  have := hl g hg
  omega

theorem flushing_congr {s t : State} (h : t.evr.flush = s.evr.flush) : flushing t = flushing s := by
  unfold flushing
  rw [h]

/-- A source that becomes severe: its mark and record, then its action. -/
theorem severe_shown {src : Nat} (hs : src < 4096) (kind word age : Nat) (u : State) :
    isSevere (makeSevere src kind word age u) src = true ∧ getB (makeSevere src kind word age u) FLC.STATUS.SEVERE_ANY = true ∧
    (makeSevere src kind word age u).flc = { u.flc with out := some (word, true) } ∧
    (1 ≤ policyAct u kind → getB u FLC.CTRL.IRQ_EN = true → ∀ v, v = getF u FLC.CTRL.VECTOR →
      aGet 0 (makeSevere src kind word age u).cmd.vecs v = aGet 0 u.cmd.vecs v + 1) ∧
    (policyAct u kind = 0 → (makeSevere src kind word age u).cmd.vecs = u.cmd.vecs) ∧
    (2 ≤ policyAct u kind → flushing u = false → u.evr.faultAt = none → (makeSevere src kind word age u).evr.flush = 1) ∧
    (policyAct u kind ≤ 1 → (makeSevere src kind word age u).evr.flush = u.evr.flush) ∧
    (policyAct u kind = 3 → safeOn u = false → u.sta.safeDue = 0 → (makeSevere src kind word age u).sta.safeDue = 3) := by
  rw [makeSevere_eq]
  generalize toLE 8 word ++ [policyAct u kind, policyN u kind] ++ toLE 2 (policyW u kind) ++ toLE 4 age = body
  obtain ⟨a1, a2, a3, a4, a5, a6, a7⟩ := severeTold_shown hs kind word body u
  generalize severeTold src kind word body u = v at *
  have hirq : getB v FLC.CTRL.IRQ_EN = getB u FLC.CTRL.IRQ_EN := getB_congr (a7 _ (by decide) (by decide) (by decide) (by decide))
  have hvec : getF v FLC.CTRL.VECTOR = getF u FLC.CTRL.VECTOR := a7 _ (by decide) (by decide) (by decide) (by decide)
  have hsafe : safeOn v = safeOn u := getB_congr (a7 _ (by decide) (by decide) (by decide) (by decide))
  obtain ⟨b1, b2, b3, b4, b5, b6, b7, b8⟩ := severeAct_shown (policyAct u kind) v
  generalize severeAct (policyAct u kind) v = t at *
  refine ⟨(isSevere_congr hs b1 (by decide)).trans a1, (getB_congr (b1 _ (by decide) (by decide))).trans a2, b3.trans a4, fun h1 h2 w hw => ?_,
    fun h => (b5 h).trans (congrArg CmdState.vecs a5), fun h1 h2 h3 => b6 h1 ((flushing_congr a6.flush).trans h2) (a6.fault.trans h3),
    fun h => (b7 h).trans a6.flush, fun h1 h2 h3 => b8 h1 (hsafe.trans h2) (by rw [a3]; exact h3)⟩
  rw [b4 h1 (hirq.trans h2) w (hw.trans hvec.symm), a5]

theorem countMsg_shown {src kind word : Nat} {s : State} (hs : src < 4096) (h1 : getB s FLC.STATUS.SELF_FAULT = false) (h2 : policyN s kind ≠ 0)
    (h3 : s.flc.bad = false) : MsgCounted src kind word (msgCount src kind s) s (countMsg src kind word s) := by
  rw [countMsg_eq h1 h2 h3]
  generalize msgStart src kind s = st
  generalize msgCount src kind s = c
  have hp := policy_congr (fun hi => injectAt_between (bl := 32 * 0xD0C00) (lo := hi) 8 0 [] (.of_below (by decide)) (.refl _ _ s)) kind
  have hpc : policyAct (counted src c st s) kind = policyAct s kind := hp.2.2
  obtain ⟨c1, c2, c3, c4, c5, c6, c7⟩ := counted_shown src c st s
  have hsev : isSevere (counted src c st s) src = isSevere s src := isSevere_congr hs c1.fields (by decide)
  generalize counted src c st s = u at *
  generalize (s.time.ticks - st) / ms 1 = age
  by_cases hc : policyN s kind ≤ c ∧ isSevere s src = false
  · rw [if_pos ⟨hc.1, by rw [hc.2]; rfl⟩]
    obtain ⟨d1, d2, d3, d4, d5, d6, d7, d8⟩ := severe_shown hs kind word age u
    generalize makeSevere src kind word age u = t at *
    rw [hpc] at d4 d5 d6 d7 d8
    refine ⟨by rw [d3]; exact c2, by rw [d3]; exact c3, fun h => ?_, fun _ _ => ⟨d1, d2, by rw [d3], fun e1 e2 v hv => ?_, fun e => (d5 e).trans (by rw [c5]),
      fun e1 e2 e3 => d6 e1 ((flushing_congr (congrArg EvrState.flush c6)).trans e2) ((congrArg EvrState.faultAt c6).trans e3),
      fun e => (d7 e).trans (congrArg EvrState.flush c6), fun e1 e2 e3 => d8 e1 ((getB_congr (c1.getF (by decide) (by decide))).trans e2) (by rw [c1.sta]; exact e3)⟩⟩
    · rcases h with h | h
      · omega
      · rw [hc.2] at h
        exact absurd h (by decide)
    · rw [d4 e1 ((getB_congr (c1.getF (by decide) (by decide))).trans e2) v (hv.trans (c1.getF (by decide) (by decide)).symm), c5]
  · rw [if_neg fun h => hc ⟨h.1, by simpa using h.2⟩]
    exact ⟨c2, c3, fun _ => ⟨hsev, c4, c1.sta⟩, fun e1 e2 => absurd ⟨e1, e2⟩ hc⟩

/-- What a message that is counted shows in the end, by the state in which it comes. -/
theorem faultMessage_shown {r : Arrival} {rest : List Arrival} {word : Nat} {s : State} (h : s.inbox = r :: rest) (hr : r.isRec = false)
    (hl : s.lostMsg = 0) (hw : word = msgWord r.code r.kind r.info r.seq) :
    ∃ u, MsgIn r word s u ∧ faultMessage s = countMsg r.code r.kind word u := by
  rw [faultMessage_eq h hr hl, ← hw]
  obtain ⟨h1, h2, h3, h4, h5, h6, h7, h8, h9, h10, h11⟩ := msgIn_shown r word r.kind (toLE 8 word) { s with inbox := rest }
  exact ⟨_, ⟨h1, h2, h3, h4, h5, h6, h7, h8, ⟨h9.flush, h9.fault, h9.again⟩, h10, h11⟩, rfl⟩

theorem msgCount_congr {src kind : Nat} {s t : State} (hp : policyW t kind = policyW s kind) (hc : t.flc.count = s.flc.count)
    (hw : t.flc.wstart = s.flc.wstart) (ht : t.time = s.time) : msgCount src kind t = msgCount src kind s := by
  unfold msgCount
  rw [hp, hc, hw, ht]

/-- The same as `MsgCounted`, from the state before the message was accepted. -/
theorem msgCounted_of_in {r : Arrival} {word c : Nat} {s u t : State} (hs : r.code < 4096) (h : MsgIn r word s u)
    (hc : MsgCounted r.code r.kind word c u t) :
    aGet 0 t.flc.count r.code = c ∧ aGet 0 t.flc.expect (r.code / 256) = (r.seq + 1) % 1024 ∧
    (c < policyN s r.kind → isSevere t r.code = isSevere s r.code ∧ t.flc.out = some (word, false) ∧ t.sta = s.sta) ∧
    (policyN s r.kind ≤ c → isSevere s r.code = false → isSevere t r.code = true ∧ getB t FLC.STATUS.SEVERE_ANY = true ∧
      t.flc.out = some (word, true) ∧
      (1 ≤ policyAct s r.kind → getB s FLC.CTRL.IRQ_EN = true → ∀ v, v = getF s FLC.CTRL.VECTOR →
        aGet 0 t.cmd.vecs v = aGet 0 s.cmd.vecs v + 1) ∧
      (policyAct s r.kind = 0 → t.cmd.vecs = s.cmd.vecs) ∧
      (2 ≤ policyAct s r.kind → flushing s = false → s.evr.faultAt = none → t.evr.flush = 1) ∧
      (policyAct s r.kind ≤ 1 → t.evr.flush = s.evr.flush) ∧
      (policyAct s r.kind = 3 → safeOn s = false → s.sta.safeDue = 0 → t.sta.safeDue = 3)) ∧
    (policyN s r.kind ≤ c → isSevere s r.code = true → t.flc.out = some (word, false)) := by
  obtain ⟨-, -, -, -, hflc, hcmd, hsta, -, hheld, hf, hpol⟩ := h
  obtain ⟨p1, -, p3⟩ := policy_congr hpol r.kind
  have hsev : isSevere u r.code = isSevere s r.code := isSevere_congr hs hf (by decide)
  have hirq : getB u FLC.CTRL.IRQ_EN = getB s FLC.CTRL.IRQ_EN := getB_congr (hf _ (by decide) (by decide))
  have hvec : getF u FLC.CTRL.VECTOR = getF s FLC.CTRL.VECTOR := hf _ (by decide) (by decide)
  have hsafe : safeOn u = safeOn s := getB_congr (hf _ (by decide) (by decide))
  have hout : u.flc.out = some (word, false) := by rw [hflc]
  obtain ⟨c1, c2, c3, c4⟩ := hc
  rw [p1, p3, hsev, hirq, hvec, hsafe, hcmd, hsta, hheld.flush, hheld.fault, flushing_congr hheld.flush] at c4
  rw [p1, hsev, hout, hsta] at c3
  refine ⟨c1, ?_, fun h => c3 (.inl h), c4, fun _ h => (c3 (.inr h)).2.1⟩
  rw [c2, hflc]
  exact aGet_aPut_self ..

section
variable {dt : Nat} {s a : State} (ha : a = advance dt s)
include ha

theorem answers_faultMessage {r : Arrival} {rest : List Arrival} {word : Nat} (h : a.inbox = r :: rest) (hr : r.isRec = false)
    (hs : r.code < 4096) (hl : a.lostMsg = 0) (hw : word = msgWord r.code r.kind r.info r.seq) :
      Answers (.faultMessage dt) s (fun t => getF t FLC.LAST_LO.MESSAGE = word % 2 ^ 32 ∧ getF t FLC.LAST_HI.MESSAGE = word / 2 ^ 32 % 2 ^ 32 ∧
        getF t FLC.COUNTS.ACCEPTED = min (getF a FLC.COUNTS.ACCEPTED + 1) 65535 ∧
        getF t FLC.COUNTS.GAPS = (if r.seq = aGet 0 a.flc.expect (r.code / 256) then getF a FLC.COUNTS.GAPS
          else min (getF a FLC.COUNTS.GAPS + 1) 65535) ∧
        (getB a FLC.STATUS.SELF_FAULT = false → a.flc.bad = false → policyN a r.kind ≠ 0 → ∀ c,
          c = (if aGet 0 a.flc.count r.code = 0 ∨ aGet 0 a.flc.wstart r.code + ms (policyW a r.kind) ≤ a.time.ticks then 1
            else aGet 0 a.flc.count r.code + 1) →
          aGet 0 t.flc.count r.code = c ∧ aGet 0 t.flc.expect (r.code / 256) = (r.seq + 1) % 1024 ∧
          (c < policyN a r.kind → isSevere t r.code = isSevere a r.code ∧ t.flc.out = some (word, false) ∧ t.sta = a.sta) ∧
          (policyN a r.kind ≤ c → isSevere a r.code = false → isSevere t r.code = true ∧ getB t FLC.STATUS.SEVERE_ANY = true ∧
            t.flc.out = some (word, true) ∧
            (1 ≤ policyAct a r.kind → getB a FLC.CTRL.IRQ_EN = true → ∀ v, v = getF a FLC.CTRL.VECTOR →
              aGet 0 t.cmd.vecs v = aGet 0 a.cmd.vecs v + 1) ∧
            (policyAct a r.kind = 0 → t.cmd.vecs = a.cmd.vecs) ∧
            (2 ≤ policyAct a r.kind → flushing a = false → a.evr.faultAt = none → t.evr.flush = 1) ∧
            (policyAct a r.kind ≤ 1 → t.evr.flush = a.evr.flush) ∧
            (policyAct a r.kind = 3 → safeOn a = false → a.sta.safeDue = 0 → t.sta.safeDue = 3)) ∧
          (policyN a r.kind ≤ c → isSevere a r.code = true → t.flc.out = some (word, false)))) := by
  obtain ⟨u, hu, he⟩ := faultMessage_shown h hr hl hw
  obtain ⟨k1, k2, k3, k4, k5⟩ := MsgKept.countMsg hs r.kind word u
  have hn := k5 (noEnd_congr (ha ▸ noEnd_advance dt s) hu.sta)
  refine answers_eq ha (exec_faultMessage ..) rfl he ?_
  have hfields : ∀ f : Fld, f.key ≠ TST.CTRL.OVERRIDE.key → getF (settle (countMsg r.code r.kind word u)) f = getF (countMsg r.code r.kind word u) f :=
    fun f hf => getF_settle _ hn hf
  refine ⟨(hfields _ (by decide)).trans (k1.trans hu.low), (hfields _ (by decide)).trans (k2.trans hu.high),
    (hfields _ (by decide)).trans (k3.trans hu.accepted), (hfields _ (by decide)).trans (k4.trans hu.gaps), fun h1 h2 h3 c hc => ?_⟩
  have h1' : getB u FLC.STATUS.SELF_FAULT = false := (getB_congr (hu.fields _ (by decide) (by decide))).trans h1
  obtain ⟨p1, p2, p3⟩ := policy_congr hu.policy r.kind
  have hcount : msgCount r.code r.kind u = c := by
    rw [msgCount_congr p2 (by rw [hu.flc]) (by rw [hu.flc]) hu.time, hc]
    rfl
  have hm := countMsg_shown (word := word) hs h1' (p1 ▸ h3) (by rw [hu.flc]; exact h2)
  rw [hcount] at hm
  have hd := msgCounted_of_in hs hu hm
  have hsev : isSevere (settle (countMsg r.code r.kind word u)) r.code = isSevere (countMsg r.code r.kind word u) r.code := by
    unfold isSevere
    rw [hfields _ (severe_low (by omega)).1]
  rw [settle_flc hn, settle_cmd hn, settle_evr hn, settle_sta hn, hsev, getB_congr (hfields _ (by decide))]
  exact hd

theorem answers_faultMessage_none (h : a.inbox = [] ∨ (∃ r rest, a.inbox = r :: rest ∧ r.isRec = true)) :
    Answers (.faultMessage dt) s (untouched a) := by
  refine answers_untouched ha (exec_faultMessage ..) rfl ?_
  unfold faultMessage
  rcases h with h | ⟨r, rest, h, hr⟩
  · rw [h]
  · rw [h]
    exact if_pos hr

end

end Sys2Proof.Machine
end

section
/-! O57, concluded. The host's writes to the fault collector, the heartbeat and the key exchange (R391 to R394, R409, R410). -/

namespace Sys2Proof.Machine

/-! ### The host clears severe marks (R391) -/

/-- The bits that a list names are cleared. -/
theorem testBit_foldl_clrBit (l : List Nat) (v j : Nat) : (l.foldl clrBit v).testBit j = (!decide (j ∈ l) && v.testBit j) := by
  induction l generalizing v with
  | nil => simp
  | cons i r ih =>
    rw [List.foldl_cons, ih, testBit_clrBit]
    by_cases h1 : j = i <;> by_cases h2 : j ∈ r <;> simp [h1, h2]

/-- The counts of the sources that a list names begin anew. -/
theorem aGet_foldl_zero (base : Nat) (l : List Nat) (m : Assoc Nat) (b : Nat) :
    aGet 0 (l.foldl (fun m b => aPut 0 m (base + b) 0) m) (base + b) = if b ∈ l then 0 else aGet 0 m (base + b) := by
  induction l generalizing m with
  | nil => rfl
  | cons i r ih =>
    rw [List.foldl_cons, ih]
    by_cases h1 : b = i
    · subst h1
      rw [aGet_aPut_self]
      simp
    · rw [aGet_aPut_ne 0 0 m 0 (show base + b ≠ base + i by omega)]
      simp [h1]

/-- The sources whose bits are ones. -/
def onesOf (val : Nat) : List Nat := (List.range 32).filter (fun b => bit val b)

theorem mem_onesOf {val b : Nat} (hb : b < 32) : b ∈ onesOf val ↔ bit val b = true := by
  unfold onesOf
  rw [List.mem_filter, List.mem_range]
  exact ⟨fun h => h.2, fun h => ⟨hb, h⟩⟩

/-- What a write of ones to a word of severe marks shows. -/
structure SevereCleared (v val : Nat) (s t : State) : Prop where
  marks : ∀ b < 32, bit (getF t (FLC.SEVERE.SEVERE v)) b = (!bit val b && bit (getF s (FLC.SEVERE.SEVERE v)) b)
  counts : ∀ b < 32, aGet 0 t.flc.count (32 * v + b) = if bit val b then 0 else aGet 0 s.flc.count (32 * v + b)
  shown : getF t FLC.STATUS.SEVERE_COUNT = severeCount t % 65536
  sta : t.sta = s.sta
  waiting : waitingSame s t
  fields : fieldsBut [FLC.SEVERE.SEVERE v, FLC.STATUS.SEVERE_COUNT, FLC.STATUS.SEVERE_ANY] s t

theorem showSevere_waiting (s : State) : waitingSame s (showSevere s) := by
  unfold showSevere
  generalize severeCount s = n
  exact ⟨rfl, rfl, rfl, rfl, rfl⟩

theorem severeClear_shown {v : Nat} (hv : v < 128) (val : Nat) (s : State) : SevereCleared v val s (severeClear 0x01 v val s) := by
  have hkey := severe_key v
  have hc : FLC.STATUS.SEVERE_COUNT.key < 32 * 0xD1000 := by decide
  have ha : FLC.STATUS.SEVERE_ANY.key < 32 * 0xD1000 := by decide
  have he : severeClear 0x01 v val s = showSevere (setFlc { s.flc with count := (onesOf val).foldl (fun m b => aPut 0 m (32 * v + b) 0) s.flc.count }
      (setF s (FLC.SEVERE.SEVERE v) ((onesOf val).foldl clrBit (getF s (FLC.SEVERE.SEVERE v))))) := by
    unfold severeClear onesOf
    rw [if_neg (by decide)]
    rfl
  rw [he]
  have hm : ∀ b < 32, bit (getF (setF s (FLC.SEVERE.SEVERE v) ((onesOf val).foldl clrBit (getF s (FLC.SEVERE.SEVERE v)))) (FLC.SEVERE.SEVERE v)) b =
      (!bit val b && bit (getF s (FLC.SEVERE.SEVERE v)) b) := fun b hb => by
    rw [getF_setF_self]
    unfold bit
    change ((onesOf val).foldl clrBit (getF s (FLC.SEVERE.SEVERE v)) % 2 ^ 32).testBit b = _
    rw [Nat.testBit_mod_two_pow, decide_eq_true hb, testBit_foldl_clrBit]
    have := mem_onesOf (val := val) hb
    unfold bit at this
    cases h : val.testBit b <;> simp_all
  have hf : fieldsBut [FLC.SEVERE.SEVERE v] s (setF s (FLC.SEVERE.SEVERE v) ((onesOf val).foldl clrBit (getF s (FLC.SEVERE.SEVERE v)))) :=
    fieldsBut_setF (by simp) (fieldsBut_refl _ _)
  generalize (onesOf val).foldl clrBit (getF s (FLC.SEVERE.SEVERE v)) = n at *
  generalize hu : setFlc { s.flc with count := (onesOf val).foldl (fun m b => aPut 0 m (32 * v + b) 0) s.flc.count }
      (setF s (FLC.SEVERE.SEVERE v) n) = u
  have hw : waitingSame s u := hu ▸ ⟨rfl, rfl, rfl, rfl, rfl⟩
  have hsta : u.sta = s.sta := hu ▸ rfl
  have hg : ∀ f : Fld, getF u f = getF (setF s (FLC.SEVERE.SEVERE v) n) f := fun f => hu ▸ getF_congr rfl f
  have hcount : u.flc.count = (onesOf val).foldl (fun m b => aPut 0 m (32 * v + b) 0) s.flc.count := hu ▸ rfl
  obtain ⟨w1, -, w3⟩ := showSevere_shown u
  have hwait := showSevere_waiting u
  have hunits := showSevere_units u
  generalize showSevere u = t at *
  obtain ⟨-, ⟨-, -, -, -, h1, -⟩, -, -, -, h2, -, -⟩ := hunits
  have hsame : ∀ w < 128, getF t (FLC.SEVERE.SEVERE w) = getF u (FLC.SEVERE.SEVERE w) := fun w hw => by
    have hk := severe_key w
    exact w3 _ (by omega) (by omega)
  refine ⟨fun b hb => ?_, fun b hb => ?_, ?_, h1.trans hsta, waitingSame_trans hw hwait, fun f hf1 hf2 => ?_⟩
  · rw [hsame v hv, hg]
    exact hm b hb
  · rw [h2, hcount, aGet_foldl_zero]
    simp only [mem_onesOf hb]
  · rw [w1, severeCount_congr hsame]
  · simp only [List.map_cons, List.map_nil, List.mem_cons, List.not_mem_nil, or_false, not_or] at hf1
    obtain ⟨k1, k2, k3⟩ := hf1
    rw [w3 f k2 k3, hg]
    exact hf f (by simpa using k1) hf2

theorem severe_ownReg {v : Nat} (hv : v < 128) : OwnReg (0xD1000 + 4 * v) := by
  have h : ∀ w < 128, (0xD1000 + 4 * w) / 4 * 4 = 0xD1000 + 4 * w ∧ mapped (0xD1000 + 4 * w) = true ∧ isLow (0xD1000 + 4 * w) = false ∧
      isHigh (0xD1000 + 4 * w) = false ∧ hostOnly (0xD1000 + 4 * w) = false ∧ ((0xD1000 + 4 * w) == 0x70060) = false ∧
      inR (0xD1000 + 4 * w) 0x90030 0x9003C = false ∧ inR (0xD1000 + 4 * w) 0xC0020 0xC002C = false := by decide +kernel
  obtain ⟨h1, h2, h3, h4, h5, h6, h7, h8⟩ := h v hv
  exact ⟨h1, h2, h3, h4, fun _ => notIts_false h5 h6 h7 h8⟩

theorem ownWrite_severe {agent v val : Nat} {s : State} (hv : v < 128) :
    ownWrite agent (0xD1000 + 4 * v) val s = some (severeClear agent v val s) := by
  have h : ∀ w < 128, (0xD1000 + 4 * w) / 0x10000 = 0xD ∧ ((0xD1000 + 4 * w) = 0xD0038) = False ∧ ((0xD1000 + 4 * w) = 0xD0088) = False ∧
      ((0xD1000 + 4 * w) = 0xD0098) = False ∧ inR (0xD1000 + 4 * w) 0xD1000 0xD1200 = true ∧ (0xD1000 + 4 * w - 0xD1000) / 4 = w := fun w hw => by
    refine ⟨by omega, eq_false (by omega), eq_false (by omega), eq_false (by omega), ?_, by omega⟩
    unfold inR
    exact Bool.and_eq_true_iff.2 ⟨decide_eq_true (by omega), decide_eq_true (by omega)⟩
  obtain ⟨h1, h2, h3, h4, h5, h6⟩ := h v hv
  unfold ownWrite
  rw [h1]
  simp only [h2, h3, h4, h5, h6, if_true, if_false]

theorem inject_ownReg : OwnReg 0xD0098 := ⟨rfl, by decide +kernel, by decide +kernel, by decide +kernel, fun _ => notIts_false rfl rfl rfl rfl⟩

theorem kick_ownReg : OwnReg 0xD0088 := ⟨rfl, by decide +kernel, by decide +kernel, by decide +kernel, fun _ => notIts_false rfl rfl rfl rfl⟩

/-- A write of KX_CTRL draws a pair when the host makes it, and nothing when another agent does (R409). -/
theorem busWrite_kx {agent : Nat} {s : State} (hm : mayWrite s agent 0xE0008 = true) :
    busWrite agent 0xE0008 1 15 s = if agent = 0x01 then kxNew 0x01 1 s else s := by
  have h1 : mapped 0xE0008 = true := by decide +kernel
  have h2 : isLow 0xE0008 = false := by decide +kernel
  have h3 : isHigh 0xE0008 = false := by decide +kernel
  have h4 : notIts agent 0xE0008 = (agent != 0x01) := by
    simp [notIts, hostOnly, coreOnly, inR]
  have h5 : ∀ v, ownWrite agent 0xE0008 v s = some (kxNew agent v s) := fun v => rfl
  unfold busWrite landWord
  simp only [hm, h1, h2, h3, h4, h5]
  by_cases h : agent = 0x01
  · subst h
    rfl
  · simp [h]

/-! ### The pair of a key exchange (R409) -/

theorem put96_shown (f : Nat → Fld) (hf : ∀ i j, i < 24 → j < 24 → i ≠ j → (f i).key ≠ (f j).key) (hw : ∀ i, (f i).w = 32) (b : List Nat) (s : State) :
    (put96 f b s).sta = s.sta ∧ (put96 f b s).sec = s.sec ∧ (∀ g : Fld, (∀ i < 24, g.key ≠ (f i).key) → getF (put96 f b s) g = getF s g) ∧
    ∀ i < 24, getF (put96 f b s) (f i) = ofLE ((b.drop (4 * i)).take 4) % 2 ^ 32 := by
  have h := range_fold (g := fun t i => setF t (f i) (ofLE ((b.drop (4 * i)).take 4)))
    (I := fun n t => t.sta = s.sta ∧ t.sec = s.sec ∧ ∀ g : Fld, (∀ i < 24, g.key ≠ (f i).key) → getF t g = getF s g)
    (P := fun i t => getF t (f i) = ofLE ((b.drop (4 * i)).take 4) % 2 ^ 32) (s := s) 24 ⟨rfl, rfl, fun _ _ => rfl⟩
    (fun n hn t ⟨i1, i2, i3⟩ => ⟨⟨i1, i2, fun g hg => (getF_setF_ne _ _ (hg n hn)).trans (i3 g hg)⟩, (getF_setF_self ..).trans (by rw [hw]),
      fun m hm hP => (getF_setF_ne _ _ (hf m n (by omega) hn (by omega))).trans hP⟩)
  obtain ⟨⟨h1, h2, h3⟩, h4⟩ := h
  exact ⟨h1, h2, h3, h4⟩

theorem ofLE_take4_lt (l : List Nat) : ofLE (l.take 4) < 2 ^ 32 := by
  have h := ofLE_lt (l.take 4)
  have hle : 256 ^ (l.take 4).length ≤ 256 ^ 4 := Nat.pow_le_pow_right (by decide) (by rw [List.length_take]; omega)
  exact lt_of_lt_of_le h hle

theorem kxReady_shown {pub sig : List Nat} {s : State} (h : s.sec.kxDraw = true) : getB (kxReady pub sig s) SEC.STATUS.KX_READY = true ∧
    (kxReady pub sig s).sec.kxDraw = false ∧ (kxReady pub sig s).sta = s.sta ∧
    ∀ i < 24, getF (kxReady pub sig s) (SEC.KX_PUB.BYTES i) = ofLE ((pub.drop (4 * i)).take 4) ∧
      getF (kxReady pub sig s) (SEC.KX_SIG.BYTES i) = ofLE ((sig.drop (4 * i)).take 4) := by
  have he : kxReady pub sig s = setB (put96 SEC.KX_SIG.BYTES sig (put96 SEC.KX_PUB.BYTES pub
      { s with sec := { s.sec with kxDraw := false } })) SEC.STATUS.KX_READY true := by
    unfold kxReady
    rw [h]
    rfl
  have hp : ∀ i, (SEC.KX_PUB.BYTES i).key = 32 * (0xE0200 + 4 * i) := fun i => by simp only [SEC.KX_PUB.BYTES, fld]; omega
  have hs : ∀ i, (SEC.KX_SIG.BYTES i).key = 32 * (0xE0280 + 4 * i) := fun i => by simp only [SEC.KX_SIG.BYTES, fld]; omega
  have hr : SEC.STATUS.KX_READY.key < 32 * 0xE0200 := by decide
  rw [he]
  obtain ⟨a1, a2, a3, a4⟩ := put96_shown SEC.KX_PUB.BYTES (fun i j _ _ _ => by rw [hp, hp]; omega) (fun _ => rfl) pub
    { s with sec := { s.sec with kxDraw := false } }
  generalize put96 SEC.KX_PUB.BYTES pub { s with sec := { s.sec with kxDraw := false } } = u at *
  obtain ⟨b1, b2, b3, b4⟩ := put96_shown SEC.KX_SIG.BYTES (fun i j _ _ _ => by rw [hs, hs]; omega) (fun _ => rfl) sig u
  generalize put96 SEC.KX_SIG.BYTES sig u = w at *
  refine ⟨getB_setB_self _ _ _ rfl, (congrArg SecState.kxDraw (b2.trans a2) : w.sec.kxDraw = false), b1.trans a1, fun i hi => ⟨?_, ?_⟩⟩
  · rw [getF_setB_ne _ _ (by rw [hp]; omega), b3 _ (fun j hj => by rw [hp, hs]; omega), a4 i hi, Nat.mod_eq_of_lt (ofLE_take4_lt _)]
  · rw [getF_setB_ne _ _ (by rw [hs]; omega), b4 i hi, Nat.mod_eq_of_lt (ofLE_take4_lt _)]

/-- What the host's write of INJECT shows (R391). -/
theorem flcInject_shown {val : Nat} {s : State} (h : confOn s = false) : getF (flcInject 0x01 val s) FLC.INJECT.CHECKER = bits val 0 4 ∧
    getF (flcInject 0x01 val s) FLC.INJECT.BITS = bits val 8 2 ∧ getF (flcInject 0x01 val s) FLC.INJECT.ARM = bits val 16 1 ∧
    unitsSame s (flcInject 0x01 val s) ∧ fieldsBut [FLC.INJECT.CHECKER, FLC.INJECT.BITS, FLC.INJECT.ARM] s (flcInject 0x01 val s) := by
  have he : flcInject 0x01 val s =
      setF (setF (setF s FLC.INJECT.CHECKER (bits val 0 4)) FLC.INJECT.BITS (bits val 8 2)) FLC.INJECT.ARM (bits val 16 1) := by
    unfold flcInject
    rw [if_neg (by simp [h])]
  rw [he]
  refine ⟨?_, ?_, ?_, unitsSame_refl s, fieldsBut_setF (by simp) (fieldsBut_setF (by simp) (fieldsBut_setF (by simp) (fieldsBut_refl _ _)))⟩
  · rw [getF_setF_ne _ _ (by decide), getF_setF_ne _ _ (by decide), getF_setF_self]
    exact Nat.mod_eq_of_lt (bits_lt ..)
  · rw [getF_setF_ne _ _ (by decide), getF_setF_self]
    exact Nat.mod_eq_of_lt (bits_lt ..)
  · rw [getF_setF_self]
    exact Nat.mod_eq_of_lt (bits_lt ..)

/-- What a kick of the heartbeat shows (R393). -/
theorem hbKick_shown (s : State) : (hbKick 0x40 s).flc = { s.flc with kickAt := some s.time.ticks } ∧
    getB (hbKick 0x40 s) FLC.STATUS.HB_RUN =
      (if safeOn s = true ∨ getB s FLC.STATUS.SELF_FAULT = true then getB s FLC.STATUS.HB_RUN else true) ∧
    (hbKick 0x40 s).sta = s.sta ∧ fieldsBut [FLC.STATUS.HB_RUN] s (hbKick 0x40 s) := by
  unfold hbKick
  rw [if_neg (by decide)]
  dsimp only
  generalize hc : (safeOn s || getB s FLC.STATUS.SELF_FAULT) = c
  cases c
  · obtain ⟨h1, h2⟩ : safeOn s = false ∧ getB s FLC.STATUS.SELF_FAULT = false := by simpa using hc
    rw [if_neg (by decide), if_neg (by simp [h1, h2])]
    exact ⟨rfl, getB_setB_self _ _ _ rfl, rfl, fieldsBut_setB (by simp) (fieldsBut_regs rfl)⟩
  · rw [if_pos rfl, if_pos (by simpa using hc)]
    exact ⟨rfl, rfl, rfl, fieldsBut_regs rfl⟩

section
variable {dt : Nat} {s a : State} (ha : a = advance dt s)
include ha

theorem answers_severeClear {v : Nat} {w : Word} (hv : v < 128) : Answers (.severeClear dt 0x01 v w) s (fun t => (∀ b < 32,
        (bit w.toNat b = true → bit (getF t (FLC.SEVERE.SEVERE v)) b = false ∧ aGet 0 t.flc.count (32 * v + b) = 0) ∧
        (bit w.toNat b = false → bit (getF t (FLC.SEVERE.SEVERE v)) b = bit (getF a (FLC.SEVERE.SEVERE v)) b ∧
          aGet 0 t.flc.count (32 * v + b) = aGet 0 a.flc.count (32 * v + b))) ∧
      getF t FLC.STATUS.SEVERE_COUNT = severeCount t % 65536 ∧ waitingSame a t ∧
      fieldsBut [FLC.SEVERE.SEVERE v, FLC.STATUS.SEVERE_COUNT, FLC.STATUS.SEVERE_ANY] a t) := by
  obtain ⟨h1, h2, h3, h4, h5, h6⟩ := severeClear_shown hv w.toNat a
  refine answers_eq (u := severeClear 0x01 v w.toNat a) ha (exec_severeClear ..) (decide_eq_true hv)
    (busWrite_own (agent := 0x01) (severe_ownReg hv) rfl w.isLt (ownWrite_severe hv)) ?_
  have hn := noEnd_congr (ha ▸ noEnd_advance dt s) h4
  generalize severeClear 0x01 v w.toNat a = t at *
  have hg : ∀ u < 128, getF (settle t) (FLC.SEVERE.SEVERE u) = getF t (FLC.SEVERE.SEVERE u) := fun u hu => getF_settle _ hn (severe_low hu).1
  refine ⟨fun b hb => ?_, ?_, (waitingSame_settle hn).2 h5, fieldsBut_settle hn h6⟩
  · rw [hg v hv, h1 b hb, settle_flc hn, h2 b hb]
    cases bit w.toNat b <;> simp
  · rw [getF_settle _ hn (by decide), h3, severeCount_congr hg]

/-- No agent but the host clears marks, arms an injection or draws a pair (R391, R409). -/
theorem answers_notHost {agent : Byte} (hag : agent ≠ 0x01) :
    (∀ v (w : Word), v < 128 → mayWrite a agent.toNat (0xD1000 + 4 * v) = true → Answers (.severeClear dt agent v w) s (untouched a)) ∧
    (∀ w : Word, mayWrite a agent.toNat 0xD0098 = true → Answers (.flcInject dt agent w) s (untouched a)) ∧
    (mayWrite a agent.toNat 0xE0008 = true → Answers (.kxNew dt agent) s (untouched a)) := by
  have hne : agent.toNat ≠ 0x01 := fun h => hag (BitVec.eq_of_toNat_eq h)
  refine ⟨fun v w hv hm => ?_, fun w hm => ?_, fun hm => ?_⟩
  · exact answers_untouched ha (exec_severeClear ..) (decide_eq_true hv)
      (busWrite_own (severe_ownReg hv) hm w.isLt ((ownWrite_severe hv).trans (congrArg some (if_pos hne))))
  · exact answers_untouched ha (exec_flcInject ..) rfl
      (busWrite_own inject_ownReg hm w.isLt (congrArg some (if_pos (.inl hne) : flcInject agent.toNat w.toNat a = a)))
  · exact answers_untouched ha (exec_kxNew ..) rfl ((busWrite_kx hm).trans (if_neg hne))

theorem answers_selfFault {info : Nat} (hi : info < 2 ^ 32) :
      (getB a FLC.STATUS.SELF_FAULT = false → Answers (.flcSelfFault dt info) s (fun t => getB t FLC.STATUS.SELF_FAULT = true ∧
        getB t FLC.STATUS.HB_RUN = false ∧ safeOn t = true ∧ (safeOn a = false → getF t STA.SAFE_STATUS.CAUSE = 2) ∧
        (flushing a = false → t.evr.flush = 2))) ∧
      (getB a FLC.STATUS.SELF_FAULT = true → Answers (.flcSelfFault dt info) s (untouched a)) := by
  refine ⟨fun h => ?_, fun h => answers_untouched ha (exec_flcSelfFault ..) (decide_eq_true hi) (if_pos h)⟩
  obtain ⟨h1, h2, h3, h4, h5, h6, -⟩ := selfFault_shown (info := info) h
  refine answers_of ha (exec_flcSelfFault ..) (decide_eq_true hi) ?_
  generalize selfFault info a = t at *
  have hn := h6 (ha ▸ noEnd_advance dt s)
  exact ⟨(getB_settle _ hn (by decide)).trans h1, (getB_settle _ hn (by decide)).trans h2, (getB_settle _ hn (by decide)).trans h3,
    fun h0 => (getF_settle _ hn (by decide)).trans (h4 h0), fun h0 => by rw [settle_evr hn]; exact h5 h0⟩

theorem answers_inject (w : Word) :
      (confOn a = false → Answers (.flcInject dt 0x01 w) s (fun t => getF t FLC.INJECT.CHECKER = bits w.toNat 0 4 ∧
        getF t FLC.INJECT.BITS = bits w.toNat 8 2 ∧ getF t FLC.INJECT.ARM = bits w.toNat 16 1 ∧ unitsSame a t ∧
        fieldsBut [FLC.INJECT.CHECKER, FLC.INJECT.BITS, FLC.INJECT.ARM] a t)) ∧
      (confOn a = true → Answers (.flcInject dt 0x01 w) s (untouched a)) := by
  refine ⟨fun h => ?_, fun h => answers_untouched ha (exec_flcInject ..) rfl (busWrite_own (agent := 0x01) inject_ownReg rfl
    w.isLt (congrArg some (if_pos (.inr h) : flcInject 0x01 w.toNat a = a)))⟩
  obtain ⟨h1, h2, h3, h4, h5⟩ := flcInject_shown (val := w.toNat) h
  refine answers_eq (u := flcInject 0x01 w.toNat a) ha (exec_flcInject ..) rfl
    (busWrite_own (agent := 0x01) inject_ownReg rfl w.isLt rfl) ?_
  generalize flcInject 0x01 w.toNat a = t at *
  have hn := noEnd_of_unitsSame (ha ▸ noEnd_advance dt s) h4
  exact ⟨(getF_settle _ hn (by decide)).trans h1, (getF_settle _ hn (by decide)).trans h2, (getF_settle _ hn (by decide)).trans h3,
    (unitsSame_settle hn).2 h4, fieldsBut_settle hn h5⟩

theorem answers_kick (w : Word) :
      Answers (.hbKick dt 0x40 w) s (fun t => t.flc = { a.flc with kickAt := some a.time.ticks } ∧
        getB t FLC.STATUS.HB_RUN = (if safeOn a = true ∨ getB a FLC.STATUS.SELF_FAULT = true then getB a FLC.STATUS.HB_RUN else true) ∧
        fieldsBut [FLC.STATUS.HB_RUN] a t) ∧
      ∀ agent : Byte, agent ≠ 0x40 → mayWrite a agent.toNat 0xD0088 = true → Answers (.hbKick dt agent w) s (untouched a) := by
  have hm : mayWrite a 0x40 0xD0088 = true := (by decide +kernel : coreMayWrite 0x40 0xD0088 = true)
  obtain ⟨h1, h2, h3, h4⟩ := hbKick_shown a
  refine ⟨answers_eq (u := hbKick 0x40 a) ha (exec_hbKick ..) rfl (busWrite_own (agent := 0x40) kick_ownReg hm w.isLt rfl) ?_, fun agent hag hma => ?_⟩
  · generalize hbKick 0x40 a = t at *
    have hn := noEnd_congr (ha ▸ noEnd_advance dt s) h3
    exact ⟨(settle_flc hn).trans h1, (getB_settle _ hn (by decide)).trans h2, fieldsBut_settle hn h4⟩
  · exact answers_untouched ha (exec_hbKick ..) rfl (busWrite_own kick_ownReg hma w.isLt
      (congrArg some (if_pos (fun h => hag (BitVec.eq_of_toNat_eq h)) : hbKick agent.toNat a = a)))

theorem answers_toggle (h : a.time.ticks % us 500 = 0 ∧ a.flc.hbAt ≠ a.time.ticks ∧ getB a FLC.STATUS.HB_RUN = true ∧ a.phc.resetN = true) :
    Answers (.hbToggle dt) s (fun t => getB t FLC.STATUS.HB_LEVEL = !getB a FLC.STATUS.HB_LEVEL ∧
      t.flc = { a.flc with hbAt := a.time.ticks } ∧ fieldsBut [FLC.STATUS.HB_LEVEL] a t) := by
  have he : hbToggle a = setB (setFlc { a.flc with hbAt := a.time.ticks } a) FLC.STATUS.HB_LEVEL (!getB a FLC.STATUS.HB_LEVEL) := by
    obtain ⟨h1, h2, h3, h4⟩ := h
    unfold hbToggle
    rw [if_neg (by simp [h1, h2, h3, h4])]
  refine answers_eq ha (exec_hbToggle ..) rfl he ?_
  have hn : noEnd (setB (setFlc { a.flc with hbAt := a.time.ticks } a) FLC.STATUS.HB_LEVEL (!getB a FLC.STATUS.HB_LEVEL)) :=
    (ha ▸ noEnd_advance dt s : noEnd a)
  exact ⟨(getB_settle _ hn (by decide)).trans (getB_setB_self _ _ _ rfl), settle_flc hn,
    fieldsBut_settle hn (fieldsBut_setB (by simp) (fieldsBut_regs rfl))⟩

theorem answers_noToggle (h : ¬ (a.time.ticks % us 500 = 0 ∧ a.flc.hbAt ≠ a.time.ticks ∧ getB a FLC.STATUS.HB_RUN = true ∧ a.phc.resetN = true)) :
    Answers (.hbToggle dt) s (untouched a) := by
  refine answers_untouched ha (exec_hbToggle ..) rfl (if_pos ?_)
  by_contra hne
  simp only [not_or, Decidable.not_not, Bool.not_eq_true', Bool.not_eq_false] at hne
  exact h hne

theorem answers_hbTimeout {x : Nat} (h : a.flc.kickAt = some x) :
      (x + ms (getC a FLC.CTRL.HB_TIMEOUT 10 255) ≤ a.time.ticks → Answers (.hbTimeout dt) s (fun t => getB t FLC.STATUS.HB_RUN = false ∧
        unitsSame a t ∧ fieldsBut [FLC.STATUS.HB_RUN] a t)) ∧
      (a.time.ticks < x + ms (getC a FLC.CTRL.HB_TIMEOUT 10 255) → Answers (.hbTimeout dt) s (untouched a)) := by
  have he : hbTimeout a = if x + ms (hbTimeoutMs a) ≤ a.time.ticks then setB a FLC.STATUS.HB_RUN false else a := by
    unfold hbTimeout
    rw [h]
  refine ⟨fun hl => answers_eq ha (exec_hbTimeout ..) rfl (he.trans (if_pos hl)) ?_, fun hl =>
    answers_untouched ha (exec_hbTimeout ..) rfl (he.trans (if_neg (Nat.not_le_of_lt hl)))⟩
  have hn : noEnd (setB a FLC.STATUS.HB_RUN false) := (ha ▸ noEnd_advance dt s : noEnd a)
  exact ⟨(getB_settle _ hn (by decide)).trans (getB_setB_self _ _ _ rfl), (unitsSame_settle hn).2 (unitsSame_refl a),
    fieldsBut_settle hn (fieldsBut_setB (by simp) (fieldsBut_refl _ _))⟩

theorem answers_kxNew (h : getB a SEC.STATUS.PUF_OK = true) : Answers (.kxNew dt 0x01) s (fun t => t.sec.kxDraw = true ∧
    getB t SEC.STATUS.KX_READY = false ∧ fieldsBut [SEC.STATUS.KX_READY] a t) := by
  have he : kxNew 0x01 1 a = setB { a with sec := { a.sec with kxDraw := true } } SEC.STATUS.KX_READY false := by
    unfold kxNew
    rw [if_neg (by simp [h, bit])]
  refine answers_eq ha (exec_kxNew ..) rfl ((busWrite_kx rfl).trans ((if_pos rfl).trans he)) ?_
  have hn : noEnd (setB { a with sec := { a.sec with kxDraw := true } } SEC.STATUS.KX_READY false) := (ha ▸ noEnd_advance dt s : noEnd a)
  exact ⟨congrArg SecState.kxDraw (settle_sec hn), (getB_settle _ hn (by decide)).trans (getB_setB_self _ _ _ rfl),
    fieldsBut_settle hn (fieldsBut_setB (by simp) (fieldsBut_regs rfl))⟩

theorem answers_kxReady {pub sig : List Nat} (hwf : (Instr.kxReady dt pub sig).wf = true) :
      (a.sec.kxDraw = true → Answers (.kxReady dt pub sig) s (fun t => getB t SEC.STATUS.KX_READY = true ∧ t.sec.kxDraw = false ∧
        ∀ i < 24, getF t (SEC.KX_PUB.BYTES i) = ofLE ((pub.drop (4 * i)).take 4) ∧
          getF t (SEC.KX_SIG.BYTES i) = ofLE ((sig.drop (4 * i)).take 4))) ∧
      (a.sec.kxDraw = false → Answers (.kxReady dt pub sig) s (untouched a)) := by
  refine ⟨fun h => ?_, fun h => answers_untouched ha (exec_kxReady ..) hwf (if_pos (by rw [h]; rfl))⟩
  obtain ⟨h1, h2, h3, h4⟩ := kxReady_shown (pub := pub) (sig := sig) h
  refine answers_of ha (exec_kxReady ..) hwf ?_
  generalize kxReady pub sig a = t at *
  have hn := noEnd_congr (ha ▸ noEnd_advance dt s) h3
  have ho : TST.CTRL.OVERRIDE.key = 32 * 0xF0000 := by decide
  refine ⟨(getB_settle _ hn (by decide)).trans h1, (congrArg SecState.kxDraw (settle_sec hn)).trans h2, fun i hi => ?_⟩
  have h5 : (SEC.KX_PUB.BYTES i).key ≠ TST.CTRL.OVERRIDE.key ∧ (SEC.KX_SIG.BYTES i).key ≠ TST.CTRL.OVERRIDE.key := by
    simp only [SEC.KX_PUB.BYTES, SEC.KX_SIG.BYTES, fld] at ho ⊢
    omega
  rw [getF_settle _ hn h5.1, getF_settle _ hn h5.2]
  exact h4 i hi

end

end Sys2Proof.Machine

open Sys2Proof Sys2Proof.Machine

/-- Settles O57: acceptance, counting and the policy's action; the host's clears; a self-fault; the heartbeat; the key exchange. -/
theorem faultsAreCountedAndActedOn : Obligations.FaultsAreCountedAndActedOn := by
  unfold Obligations.FaultsAreCountedAndActedOn
  intro dt s a ha
  exact ⟨fun r rest word h hr hs hl hw => answers_faultMessage ha h hr hs hl hw, answers_faultMessage_none ha,
    fun v w hv => answers_severeClear ha hv, fun agent hag => answers_notHost ha hag, fun info hi => answers_selfFault ha hi,
    fun w => ⟨(answers_inject ha w).1, (answers_inject ha w).2, answers_kick ha w⟩, ⟨answers_toggle ha, answers_noToggle ha⟩,
    fun x h => answers_hbTimeout ha h, fun h => answers_untouched ha (exec_hbTimeout ..) rfl (by unfold hbTimeout; rw [h]),
    answers_kxNew ha, fun h => answers_untouched ha (exec_kxNew ..) rfl ((busWrite_kx rfl).trans ((if_pos rfl).trans (if_pos (by simp [h])))),
    fun pub sig hwf => answers_kxReady ha hwf⟩
end

section
/-! O56. What a flush writes: granules are sealed at the write point, one after another (R382 to R384, R412). -/

namespace Sys2Proof.Machine

/-- Only the recorder's own state and the fields listed change. -/
structure RecOnly (l : List Fld) (s t : State) : Prop where
  sta : t.sta = s.sta
  cmd : t.cmd = s.cmd
  inbox : t.inbox = s.inbox
  time : t.time = s.time
  fields : fieldsBut l s t

namespace RecOnly

variable {l : List Fld} {s t u : State}

theorem refl (l : List Fld) (s : State) : RecOnly l s s := ⟨rfl, rfl, rfl, rfl, fieldsBut_refl _ _⟩

theorem trans (h : RecOnly l s t) (h2 : RecOnly l t u) : RecOnly l s u :=
  ⟨h2.sta.trans h.sta, h2.cmd.trans h.cmd, h2.inbox.trans h.inbox, h2.time.trans h.time, fieldsBut_trans h.fields h2.fields⟩

theorem setF (h : RecOnly l s t) {f : Fld} (v : Nat) (hf : f ∈ l) : RecOnly l s (Machine.setF t f v) :=
  ⟨h.sta, h.cmd, h.inbox, h.time, fieldsBut_setF hf h.fields⟩

theorem setEvr (h : RecOnly l s t) (x : EvrState) : RecOnly l s (Machine.setEvr x t) :=
  ⟨h.sta, h.cmd, h.inbox, h.time, fieldsBut_with h.fields rfl⟩

theorem mono (h : RecOnly l s t) {m : List Fld} (hs : ∀ f ∈ l, f ∈ m) : RecOnly m s t :=
  ⟨h.sta, h.cmd, h.inbox, h.time, fieldsBut_mono h.fields hs⟩

theorem getF (h : RecOnly l s t) {f : Fld} (hf : f.key ∉ l.map (fun g => g.key)) (ho : f.key ≠ TST.CTRL.OVERRIDE.key) :
    Machine.getF t f = Machine.getF s f := h.fields f hf ho

end RecOnly

/-- The fields that the sealing counter counts in. -/
def sealCounters : List Fld := [SEC.SEAL_CNT_LO.COUNTER, SEC.SEAL_CNT_HI.COUNTER]

/-- The sealing counter counts on; of the recorder only the counter's bound can change (R412). -/
theorem nextSeal_shown (s : State) : RecOnly sealCounters s (nextSeal s) ∧ ∃ b, (nextSeal s).evr = { s.evr with sealBound := b } := by
  have h : RecOnly sealCounters s (setW s SEC.SEAL_CNT_LO.COUNTER SEC.SEAL_CNT_HI.COUNTER (sealCnt s + 1)) ∧
      (setW s SEC.SEAL_CNT_LO.COUNTER SEC.SEAL_CNT_HI.COUNTER (sealCnt s + 1)).evr = s.evr :=
    ⟨((RecOnly.refl _ s).setF _ (by simp [sealCounters])).setF _ (by simp [sealCounters]), rfl⟩
  unfold nextSeal
  dsimp only
  generalize setW s SEC.SEAL_CNT_LO.COUNTER SEC.SEAL_CNT_HI.COUNTER (sealCnt s + 1) = u at *
  generalize sealCnt s + 1 + 2 ^ 15 = x
  generalize sealCnt s + 1 + 2 ^ 16 = y
  obtain ⟨h1, h2⟩ := h
  split
  · exact ⟨h1.setEvr _, y, by change ({ u.evr with sealBound := y } : EvrState) = _; rw [h2]⟩
  · exact ⟨h1, s.evr.sealBound, h2⟩

/-- The fields that the sealing of a granule changes. -/
def sealFields : List Fld := EVR.FLASH.GRANULE :: EVR.FLASH.ERASED :: EVR.FLUSHED_SEQ_LO.SEQ :: EVR.FLUSHED_SEQ_HI.SEQ :: sealCounters

/-- The seal that a granule gets now. -/
def sealNow (s : State) : Seal := { gen := genCur s, ctr := sealCnt s, staged := false }

/-- The recorder once bytes are sealed at a granule of the log. -/
def sealedEvr (i : Nat) (x : Seal) (b : List Nat) (n : Nat) (e : EvrState) : EvrState :=
  { e with log := memPut (memZero e.log (4096 * i) 4096) (4096 * i) b, seals := aIns e.seals i x, sealBound := n }

/-- What the sealing of a granule shows (R383, R412). -/
structure GranSealed (b : List Nat) (s t : State) : Prop where
  only : RecOnly sealFields s t
  write : writePt t = (writePt s + 1) % 4096
  erased : erased s ≤ 4096 → erased t = erased s - 1
  evr : ∃ n, t.evr = sealedEvr (writePt s) (sealNow s) b n s.evr

theorem sealGran_shown (b : List Nat) (s : State) : GranSealed b s (sealGran b s) := by
  unfold sealGran
  extract_lets i sl src s1
  have h1 : RecOnly sealFields s s1 ∧ s1.evr = sealedEvr (writePt s) (sealNow s) b s.evr.sealBound s.evr :=
    ⟨(RecOnly.refl _ s).setEvr _, rfl⟩
  have hi : i = writePt s := rfl
  clear_value s1 i
  obtain ⟨h1, h2⟩ := h1
  have h3 : RecOnly sealFields s (setF (setF s1 EVR.FLASH.GRANULE ((i + 1) % 4096)) EVR.FLASH.ERASED (erased s - 1)) :=
    (h1.setF _ (by simp [sealFields])).setF _ (by simp [sealFields])
  have h4 : getF (setF (setF s1 EVR.FLASH.GRANULE ((i + 1) % 4096)) EVR.FLASH.ERASED (erased s - 1)) EVR.FLASH.GRANULE = (i + 1) % 4096 := by
    rw [getF_setF_ne _ _ (by decide), getF_setF_self]
    exact Nat.mod_mod _ 4096
  have h5 : getF (setF (setF s1 EVR.FLASH.GRANULE ((i + 1) % 4096)) EVR.FLASH.ERASED (erased s - 1)) EVR.FLASH.ERASED = (erased s - 1) % 4096 :=
    getF_setF_self ..
  have h6 : (setF (setF s1 EVR.FLASH.GRANULE ((i + 1) % 4096)) EVR.FLASH.ERASED (erased s - 1)).evr = s1.evr := rfl
  generalize setF (setF s1 EVR.FLASH.GRANULE ((i + 1) % 4096)) EVR.FLASH.ERASED (erased s - 1) = u at *
  obtain ⟨n1, n, n2⟩ := nextSeal_shown u
  generalize nextSeal u = t at *
  refine ⟨h3.trans (n1.mono fun f hf => ?_), ?_, fun he => ?_, n, ?_⟩
  · exact List.mem_cons_of_mem _ (List.mem_cons_of_mem _ (List.mem_cons_of_mem _ (List.mem_cons_of_mem _ hf)))
  · exact (n1.getF (by decide) (by decide)).trans (h4.trans (by rw [hi]))
  · exact (n1.getF (by decide) (by decide)).trans (h5.trans (Nat.mod_eq_of_lt (by omega)))
  · rw [n2, h6, h2]
    rfl

/-- The granules once those of the slots listed are marked. -/
def marked (slots : List Nat) (l : List Gran) : List Gran := l.map (fun g => if slots.contains g.slot then { g with flushed := true } else g)

/-- The recorder once a slot of the buffer is sealed and marked. -/
def slotEvr (i : Nat) (x : Seal) (slot : Nat) (b : List Nat) (n : Nat) (e : EvrState) : EvrState :=
  { sealedEvr i x b n e with grans := marked [slot] e.grans }

theorem slotEvr_keeps (i : Nat) (x : Seal) (slot : Nat) (b : List Nat) (n : Nat) (e : EvrState) :
    (slotEvr i x slot b n e).flush = e.flush ∧ (slotEvr i x slot b n e).again = e.again ∧ (slotEvr i x slot b n e).job = e.job ∧
    (slotEvr i x slot b n e).buf = e.buf ∧ (slotEvr i x slot b n e).grans = marked [slot] e.grans ∧
    (slotEvr i x slot b n e).log = memPut (memZero e.log (4096 * i) 4096) (4096 * i) b ∧ (slotEvr i x slot b n e).seals = aIns e.seals i x :=
  ⟨rfl, rfl, rfl, rfl, rfl, rfl, rfl⟩

/-- What the flush of a slot shows (R382, R383). -/
structure SlotWritten (slot : Nat) (s t : State) : Prop where
  only : RecOnly sealFields s t
  write : writePt t = (writePt s + 1) % 4096
  erased : erased s ≤ 4096 → erased t = erased s - 1
  evr : ∃ n, t.evr = slotEvr (writePt s) (sealNow s) slot (memBytes s.evr.buf (4096 * slot) 4096) n s.evr

theorem writeSlot_shown {slot : Nat} {s : State} (h : ∃ g ∈ s.evr.grans, g.slot = slot) : SlotWritten slot s (writeSlot slot s) := by
  obtain ⟨g, hg⟩ : ∃ g, s.evr.grans.find? (fun g => decide (g.slot = slot)) = some g := by
    obtain ⟨g, hm, hs⟩ := h
    exact Option.isSome_iff_exists.1 (List.find?_isSome.2 ⟨g, hm, decide_eq_true hs⟩)
  unfold writeSlot
  rw [hg]
  dsimp only
  obtain ⟨h1, h2, h3, n, h4⟩ := sealGran_shown (memBytes s.evr.buf (4096 * slot) 4096) s
  generalize hb : memBytes s.evr.buf (4096 * slot) 4096 = b at *
  generalize sealGran b s = u at *
  have m1 : RecOnly sealFields s (markFlushed [slot] u) := h1.setEvr _
  have m2 : writePt (markFlushed [slot] u) = writePt u ∧ Machine.erased (markFlushed [slot] u) = Machine.erased u := ⟨rfl, rfl⟩
  have m3 : (markFlushed [slot] u).evr = { u.evr with grans := marked [slot] u.evr.grans } := rfl
  generalize markFlushed [slot] u = v at *
  have w1 : RecOnly [EVR.FLUSHED_SEQ_LO.SEQ, EVR.FLUSHED_SEQ_HI.SEQ] v (setW v EVR.FLUSHED_SEQ_LO.SEQ EVR.FLUSHED_SEQ_HI.SEQ (g.next - 1)) :=
    ((RecOnly.refl _ v).setF _ (by simp)).setF _ (by simp)
  have w2 : (setW v EVR.FLUSHED_SEQ_LO.SEQ EVR.FLUSHED_SEQ_HI.SEQ (g.next - 1)).evr = v.evr := rfl
  generalize setW v EVR.FLUSHED_SEQ_LO.SEQ EVR.FLUSHED_SEQ_HI.SEQ (g.next - 1) = t at *
  refine ⟨m1.trans (w1.mono (by simp [sealFields])), (w1.getF (by decide) (by decide)).trans (m2.1.trans h2),
    fun he => (w1.getF (by decide) (by decide)).trans (m2.2.trans (h3 he)), n, ?_⟩
  rw [w2, m3, h4, hb]
  rfl

/-! ### All the granules of a flush -/

theorem memBytes_lt (m : Mem) (a n : Nat) : ∀ b ∈ memBytes m a n, b < 256 := by
  induction n generalizing a with
  | zero => simp [memBytes]
  | succ n ih =>
    intro b hb
    rcases List.mem_cons.1 hb with h | h
    · exact h ▸ (memByte m a).isLt
    · exact ih _ b h

theorem memBytes_congr {m m' : Mem} {a n : Nat} (h : ∀ q, a ≤ q → q < a + n → memByte m' q = memByte m q) : memBytes m' a n = memBytes m a n := by
  induction n generalizing a with
  | zero => rfl
  | succ n ih =>
    rw [memBytes, memBytes, h a (by omega) (by omega), ih fun q h1 h2 => h q (by omega) (by omega)]

/-- A sealed granule's place holds its bytes. -/
theorem memBytes_sealed (m : Mem) (i : Nat) {b : List Nat} (hl : b.length = 4096) (hb : ∀ x ∈ b, x < 256) :
    memBytes (memPut (memZero m (4096 * i) 4096) (4096 * i) b) (4096 * i) 4096 = b := by
  have h := memBytes_memPut b (memZero m (4096 * i) 4096) (4096 * i) hb
  rw [hl] at h
  exact h

/-- The places of the other granules hold what they held. -/
theorem memBytes_sealed_other (m : Mem) {i j : Nat} (hij : i ≠ j) {b : List Nat} (hl : b.length = 4096) :
    memBytes (memPut (memZero m (4096 * i) 4096) (4096 * i) b) (4096 * j) 4096 = memBytes m (4096 * j) 4096 :=
  memBytes_congr fun q h1 h2 => by
    rw [memByte_memPut_out _ _ _ _ (by omega), memByte_memZero, if_neg (by omega)]

theorem marked_slots (l : List Nat) (gs : List Gran) : (marked l gs).map (fun g => g.slot) = gs.map (fun g => g.slot) := by
  unfold marked
  rw [List.map_map]
  refine List.map_congr_left fun g _ => ?_
  rw [Function.comp_apply]
  split <;> rfl

theorem marked_keeps {l : List Nat} {gs : List Gran} {k : Nat} (h : ∀ g ∈ gs, g.slot = k → g.flushed = true) :
    ∀ g ∈ marked l gs, g.slot = k → g.flushed = true := by
  intro g hg hk
  obtain ⟨x, hx, he⟩ := List.mem_map.1 hg
  subst he
  cases hc : l.contains x.slot
  · rw [hc] at hk
    exact h x hx hk
  · rfl

theorem marked_self (k : Nat) (gs : List Gran) : ∀ g ∈ marked [k] gs, g.slot = k → g.flushed = true := by
  intro g hg hk
  obtain ⟨x, _, he⟩ := List.mem_map.1 hg
  subst he
  cases hc : [k].contains x.slot
  · rw [hc] at hk
    exact absurd hc (by rw [show x.slot = k from hk]; simp)
  · rfl

/-- What the flush of a list of slots shows. -/
structure SlotsWritten (slots : List Nat) (s t : State) : Prop where
  only : RecOnly sealFields s t
  write : writePt s < 4096 → writePt t = (writePt s + slots.length) % 4096
  erased : erased s ≤ 4096 → erased t = erased s - slots.length
  flush : t.evr.flush = s.evr.flush
  again : t.evr.again = s.evr.again
  job : t.evr.job = s.evr.job
  buf : t.evr.buf = s.evr.buf
  places : t.evr.grans.map (fun g => g.slot) = s.evr.grans.map (fun g => g.slot)
  marks : ∀ k ∈ slots, ∀ g ∈ t.evr.grans, g.slot = k → g.flushed = true
  kept : ∀ k, (∀ g ∈ s.evr.grans, g.slot = k → g.flushed = true) → ∀ g ∈ t.evr.grans, g.slot = k → g.flushed = true
  other : ∀ i < 4096, (∀ j < slots.length, i ≠ (writePt s + j) % 4096) →
    memBytes t.evr.log (4096 * i) 4096 = memBytes s.evr.log (4096 * i) 4096 ∧ aFind t.evr.seals i = aFind s.evr.seals i

theorem slotsWritten_nil (s : State) : SlotsWritten [] s s :=
  ⟨.refl _ s, fun h => (Nat.mod_eq_of_lt h).symm, fun _ => rfl, rfl, rfl, rfl, rfl, rfl, fun _ h => absurd h (by simp), fun _ h => h,
    fun _ _ _ => ⟨rfl, rfl⟩⟩

theorem slotsWritten_cons {k : Nat} {r : List Nat} {s u t : State} (h : SlotWritten k s u) (h2 : SlotsWritten r u t) : SlotsWritten (k :: r) s t := by
  obtain ⟨a1, a2, a3, n, a4⟩ := h
  obtain ⟨b1, b2, b3, b4, b5, b6, b7, b8, b9, b10, b11⟩ := h2
  have hu : writePt u < 4096 := by rw [a2]; exact Nat.mod_lt _ (by decide)
  obtain ⟨k1, k2, k3, k4, hg, k6, k7⟩ := slotEvr_keeps (writePt s) (sealNow s) k (memBytes s.evr.buf (4096 * k) 4096) n s.evr
  rw [← a4] at k1 k2 k3 k4 hg k6 k7
  have hlen : (memBytes s.evr.buf (4096 * k) 4096).length = 4096 := memBytes_len ..
  refine ⟨a1.trans b1, fun h => ?_, fun h => ?_, b4.trans k1, b5.trans k2, b6.trans k3, b7.trans k4, ?_, fun x hx => ?_, fun x hx => ?_, fun i hi ho => ?_⟩
  · rw [b2 hu, a2, List.length_cons, Nat.mod_add_mod]
    congr 1
    omega
  · rw [b3 (by rw [a3 h]; omega), a3 h, List.length_cons]
    omega
  · rw [b8, hg, marked_slots]
  · rcases List.mem_cons.1 hx with h | h
    · exact b10 x (by rw [hg, h]; exact marked_self k _)
    · exact b9 x h
  · exact b10 x (by rw [hg]; exact marked_keeps hx)
  · have h0 := ho 0 (by simp)
    have hs : ∀ j < r.length, i ≠ (writePt u + j) % 4096 := fun j hj => by
      rw [a2, Nat.mod_add_mod]
      have := ho (j + 1) (by simpa using hj)
      rwa [show writePt s + 1 + j = writePt s + (j + 1) by omega]
    obtain ⟨c1, c2⟩ := b11 i hi hs
    by_cases hw : writePt s < 4096
    · have hne : writePt s ≠ i := fun he => h0 (by rw [Nat.add_zero, Nat.mod_eq_of_lt hw, he])
      exact ⟨c1.trans (by rw [k6]; exact memBytes_sealed_other _ hne hlen), c2.trans (by rw [k7]; exact aFind_aIns_ne _ _ hne.symm)⟩
    · have hne : writePt s ≠ i := by omega
      exact ⟨c1.trans (by rw [k6]; exact memBytes_sealed_other _ hne hlen), c2.trans (by rw [k7]; exact aFind_aIns_ne _ _ hne.symm)⟩

theorem slots_shown (l : List Nat) (s : State) (h : ∀ k ∈ l, ∃ g ∈ s.evr.grans, g.slot = k) :
    SlotsWritten l s (l.foldl (fun t k => writeSlot k t) s) := by
  induction l generalizing s with
  | nil => exact slotsWritten_nil s
  | cons k r ih =>
    have h1 := writeSlot_shown (h k (List.mem_cons_self ..))
    obtain ⟨-, -, -, n, hevr⟩ := id h1
    refine slotsWritten_cons h1 (ih _ fun x hx => ?_)
    obtain ⟨g, hg, hx⟩ := h x (List.mem_cons_of_mem _ hx)
    have hm : x ∈ (writeSlot k s).evr.grans.map (fun g => g.slot) := by
      rw [hevr, (slotEvr_keeps ..).2.2.2.2.1, marked_slots]
      exact List.mem_map.2 ⟨g, hg, hx⟩
    obtain ⟨g', hg', he⟩ := List.mem_map.1 hm
    exact ⟨g', hg', he⟩

/-- The first slot of a flush stands at the write point, sealed. -/
theorem slots_first {k : Nat} {r : List Nat} {s : State} (hl : r.length < 4095) (hw : writePt s < 4096)
    (h : ∀ x ∈ k :: r, ∃ g ∈ s.evr.grans, g.slot = x) :
    memBytes ((k :: r).foldl (fun t k => writeSlot k t) s).evr.log (4096 * writePt s) 4096 = memBytes s.evr.buf (4096 * k) 4096 ∧
      aFind ((k :: r).foldl (fun t k => writeSlot k t) s).evr.seals (writePt s) = some (sealNow s) := by
  obtain ⟨-, hwp, -, n, hevr⟩ := writeSlot_shown (h k (List.mem_cons_self ..))
  obtain ⟨-, -, -, -, hg, k6, k7⟩ := slotEvr_keeps (writePt s) (sealNow s) k (memBytes s.evr.buf (4096 * k) 4096) n s.evr
  rw [← hevr] at hg k6 k7
  have hr := slots_shown r (writeSlot k s) fun x hx => by
    obtain ⟨g, hgm, hgx⟩ := h x (List.mem_cons_of_mem _ hx)
    have hm : x ∈ (writeSlot k s).evr.grans.map (fun g => g.slot) := by
      rw [hg, marked_slots]
      exact List.mem_map.2 ⟨g, hgm, hgx⟩
    obtain ⟨g', hg', he⟩ := List.mem_map.1 hm
    exact ⟨g', hg', he⟩
  have ho := hr.other (writePt s) hw fun j hj => by
    rw [hwp]
    omega
  rw [List.foldl_cons, ho.1, ho.2, k6, k7]
  exact ⟨memBytes_sealed _ _ (memBytes_len ..) (memBytes_lt _ _ _), aFind_aIns_self ..⟩

end Sys2Proof.Machine
end

section
/-! O56, continued. The flush's completions, and what is left when it ends (R382 to R384). -/

namespace Sys2Proof.Machine

/-! ### The packets that asked for the flush complete (R382) -/

theorem ring_word (o q w : Nat) : (fld (o + 64 * q) 0 w).key / 32 % 64 = o % 64 := by
  simp only [fld]
  omega

/-- What completions leave: the recorder, the inbox, and every register but a ring's CQ_TAIL, STATUS and LAST_APPLIED and the injection's. -/
structure RingsOnly (s t : State) : Prop where
  sta : t.sta = s.sta
  inbox : t.inbox = s.inbox
  evr : t.evr = s.evr
  time : t.time = s.time
  fields : ∀ f : Fld, f.key / 32 % 64 ∉ [0x14, 0x18, 0x1C, 0x20] → getF t f = getF s f

namespace RingsOnly

variable {s t u : State}

theorem refl (s : State) : RingsOnly s s := ⟨rfl, rfl, rfl, rfl, fun _ _ => rfl⟩

theorem trans (h : RingsOnly s t) (h2 : RingsOnly t u) : RingsOnly s u :=
  ⟨h2.sta.trans h.sta, h2.inbox.trans h.inbox, h2.evr.trans h.evr, h2.time.trans h.time, fun f hf => (h2.fields f hf).trans (h.fields f hf)⟩

theorem setF (h : RingsOnly s t) {g : Fld} (v : Nat) (hg : g.key / 32 % 64 ∈ [0x14, 0x18, 0x1C, 0x20]) : RingsOnly s (Machine.setF t g v) :=
  ⟨h.sta, h.inbox, h.evr, h.time, fun f hf => (getF_setF_ne _ _ fun he => hf (by rw [he]; exact hg)).trans (h.fields f hf)⟩

theorem setB (h : RingsOnly s t) {g : Fld} (v : Bool) (hg : g.key / 32 % 64 ∈ [0x14, 0x18, 0x1C, 0x20]) : RingsOnly s (Machine.setB t g v) :=
  h.setF _ hg

theorem setCmd (h : RingsOnly s t) (x : CmdState) : RingsOnly s (Machine.setCmd x t) :=
  ⟨h.sta, h.inbox, h.evr, h.time, fun f hf => (getF_congr rfl f).trans (h.fields f hf)⟩

theorem injectFired (k : Nat) (h : RingsOnly s t) : RingsOnly s (Machine.injectFired k t) :=
  ((h.setB (g := FLC.INJECT.ARM) false (by decide)).setB (g := FLC.INJECT_STATUS.FIRED) true (by decide)).setF
    (g := FLC.INJECT_STATUS.LAST_CHECKER) k (by decide)

theorem sramStore (w n : Nat) (h : RingsOnly s t) : RingsOnly s (Machine.sramStore w n t) := by
  obtain ⟨ecc, u, hu, he⟩ := sramStore_eq w n t
  rw [he]
  rcases hu with rfl | rfl
  · exact h.setCmd _
  · exact (h.injectFired 6).setCmd _

theorem complete (q seq status applied detail : Nat) (irq : Bool) (h : RingsOnly s t) : RingsOnly s (Machine.complete q seq status applied detail irq t) := by
  refine complete_of_entryPut (P := RingsOnly s) ?_ (fun u n hu => hu.setF n ?_) (fun u v hu => hu.setCmd _)
  · exact ((h.setCmd _).sramStore _ _).setF _ (by rw [CMD.RING_CQ_TAIL.CQ_TAIL, ring_word]; decide)
  · rw [CMD.LAST_APPLIED.SEQ, ring_word]
    decide

theorem ringRoom (q : Nat) (h : RingsOnly s t) : RingsOnly s (Machine.ringRoom q t) := by
  unfold Machine.ringRoom
  split
  · refine h.setF _ ?_
    rw [CMD.RING_STATUS.STATE, ring_word]
    decide
  · exact h

theorem pktComplete (p : OutPkt) (status applied detail : Nat) (h : RingsOnly s t) : RingsOnly s (Machine.pktComplete p status applied detail t) :=
  ((h.setCmd _).complete _ _ _ _ _ _).ringRoom _

theorem flushAnswer (full : Bool) (n recs : Nat) (h : RingsOnly s t) : RingsOnly s (Machine.flushAnswer full n recs t) :=
  List.foldlRecOn (motive := RingsOnly s) _ _ h fun _ hu p _ => hu.pktComplete p _ _ _

end RingsOnly

/-! ### A flush that ends (R384) -/

/-- The fields that the end of a flush can change, completions apart. -/
def flushFields : List Fld := EVR.STATUS.FLUSH_FAIL :: FLC.STATUS.QUEUE_OVF :: EVR.COUNTS.DROPPED :: sealFields

/-- The flush's fault, or the key that is not there, shows (R384). -/
def flushFailed (n total : Nat) (puf : Bool) (s : State) : State :=
  if n < total then setB (sendFault 0xD0 0xD00 (writePt s) s) EVR.STATUS.FLUSH_FAIL true
  else if !puf then setB s EVR.STATUS.FLUSH_FAIL true else s

structure FailShown (n total : Nat) (puf : Bool) (s t : State) : Prop where
  evr : t.evr = s.evr
  sta : t.sta = s.sta
  time : t.time = s.time
  fail : n < total ∨ puf = false → getB t EVR.STATUS.FLUSH_FAIL = true
  told : n < total → roomMsg s → messageWaits 0xD0 0xD00 (writePt s) t
  room : roomRec s → roomRec t
  fields : fieldsBut [EVR.STATUS.FLUSH_FAIL, FLC.STATUS.QUEUE_OVF] s t

theorem flushFailed_shown (n total : Nat) (puf : Bool) (s : State) : FailShown n total puf s (flushFailed n total puf s) := by
  have hq := (Quiet.refl [EVR.STATUS.FLUSH_FAIL, FLC.STATUS.QUEUE_OVF] s).sendFault 0xD0 0xD00 (writePt s) (.inr (by simp))
  have hmsg : roomMsg s → messageWaits 0xD0 0xD00 (writePt s) (sendFault 0xD0 0xD00 (writePt s) s) := messageWaits_sendFault
  have hroom : roomRec s → roomRec (sendFault 0xD0 0xD00 (writePt s) s) := roomRec_sendFault
  have hevr : (sendFault 0xD0 0xD00 (writePt s) s).evr = s.evr := sendFault_evr ..
  have htime : (sendFault 0xD0 0xD00 (writePt s) s).time = s.time := sendFault_time ..
  unfold flushFailed
  generalize sendFault 0xD0 0xD00 (writePt s) s = u at *
  split
  · exact ⟨hevr, hq.sta, htime, fun _ => getB_setB_self _ _ _ rfl, fun _ hr => (messageWaits_congr rfl).2 (hmsg hr),
      fun hr => roomRec_congr rfl (hroom hr), fieldsBut_setB (by simp) hq.fields⟩
  · next h =>
    split
    · exact ⟨rfl, rfl, rfl, fun _ => getB_setB_self _ _ _ rfl, fun h2 => absurd h2 h, id, fieldsBut_setB (by simp) (fieldsBut_refl _ _)⟩
    · next h2 =>
      refine ⟨rfl, rfl, rfl, fun h3 => ?_, fun h3 => absurd h3 h, id, fieldsBut_refl _ _⟩
      rcases h3 with h3 | h3
      · exact absurd h3 h
      · rw [h3] at h2
        exact absurd rfl h2

theorem hoursSave_shown (s : State) : RecOnly [] s (hoursSave s) ∧
    (hoursSave s).evr = { s.evr with savedHours := s.time.hours, savedCycles := getF s EVR.CYCLES.CYCLES } :=
  ⟨(RecOnly.refl [] s).setEvr _, rfl⟩

/-- How many granules a flush without a head seals. -/
def sealedCount (ok : Option Nat) (s : State) : Nat :=
  match ok with | some k => min k s.evr.job.length | none => s.evr.job.length

/-- The end of the flush: the job, the head and the trigger are done with. -/
def flushOver (s : State) : State :=
  setB (setEvr { s.evr with flush := 0, job := [], head := [], again := 0 } s) EVR.STATUS.FLUSHING false

/-- The state once the granules are sealed, the flush has its event, and the packets that asked for it are complete. -/
def flushEnded (ok : Option Nat) (full : Bool) (recs : Nat) (s : State) : State :=
  flushAnswer full (sealedCount ok s) recs (event 0x0D01 (toLE 2 (sealedCount ok s) ++ [s.evr.flush]) (hoursSave
    (flushFailed (sealedCount ok s) s.evr.job.length (getB s SEC.STATUS.PUF_OK) ((s.evr.job.take (sealedCount ok s)).foldl (fun t k => writeSlot k t) s))))

theorem flushDone_eq {ok : Option Nat} {s : State} (hf : flushing s = true) (hh : s.evr.head = []) : ∃ full recs, flushDone ok s =
    if (flushEnded ok full recs s).evr.again = 0 then flushOver (flushEnded ok full recs s)
    else flushStart (flushEnded ok full recs s).evr.again (flushOver (flushEnded ok full recs s)) := by
  generalize hd : flushDone ok s = d
  unfold flushDone at hd
  rw [if_neg (by rw [hf]; decide)] at hd
  extract_lets h total n slots recs s1 s2 s3 stuck full s4 again src s5 at hd
  have h1 : h = 0 := by unfold h; rw [hh]; rfl
  have h2 : total = s.evr.job.length := by unfold total; rw [h1, Nat.zero_add]
  have h3 : n = sealedCount ok s := by unfold n sealedCount; cases ok <;> simp only [h2]
  have h4 : slots = s.evr.job.take (sealedCount ok s) := by unfold slots; rw [h3, h1]; rfl
  have h5 : s1 = s := by unfold s1; rw [hh]; unfold writeHead; rw [hh]; exact ite_self s
  have h6 : s3 = flushFailed (sealedCount ok s) s.evr.job.length (getB s SEC.STATUS.PUF_OK)
      ((s.evr.job.take (sealedCount ok s)).foldl (fun t k => writeSlot k t) s) := by
    unfold s3 s2 flushFailed
    rw [h5, h4, h3, h2]
  have h7 : s4 = flushEnded ok full recs s := by unfold s4 flushEnded; rw [h6, h3]
  refine ⟨full, recs, hd.symm.trans ?_⟩
  unfold s5 again src flushOver
  rw [h7]

end Sys2Proof.Machine
end

section
/-! O56, concluded. The end of a flush, the interval between flushes, erasing ahead, and the migration of the sealed log (R382 to R384, R412 to R415). -/

namespace Sys2Proof.Machine

/-! ### A flush that is asked for again -/

/-- The flush that was asked for again is still asked for, and nothing rests or wakes. -/
structure Going (s t : State) : Prop where
  again : t.evr.again = s.evr.again
  sta : t.sta = s.sta

namespace Going

variable {s t : State}

theorem refl (s : State) : Going s s := ⟨rfl, rfl⟩

theorem trans {u : State} (h : Going s t) (h2 : Going t u) : Going s u := ⟨h2.again.trans h.again, h2.sta.trans h.sta⟩

theorem sealGran (b : List Nat) (h : Going s t) : Going s (Machine.sealGran b t) := by
  obtain ⟨h1, -, -, n, h4⟩ := sealGran_shown b t
  exact ⟨(congrArg EvrState.again h4).trans h.again, h1.sta.trans h.sta⟩

theorem sendFault (k src i : Nat) (h : Going s t) : Going s (Machine.sendFault k src i t) :=
  ⟨(congrArg EvrState.again (sendFault_evr ..)).trans h.again, (sendFault_sta ..).trans h.sta⟩

theorem keepBound (h : Going s t) : Going s (Machine.keepBound t) := by
  unfold Machine.keepBound
  split
  · exact ⟨h.again, h.sta⟩
  · exact h

theorem writeHead (h : Going s t) : Going s (Machine.writeHead t) := by
  unfold Machine.writeHead
  split
  · exact h
  · extract_lets q s1 src s2
    have h1 : Going s s1 := by
      have hg := h.sealGran (headBytes t)
      unfold s1
      generalize Machine.sealGran (headBytes t) t = u at *
      exact (show Going s (setW u EVR.NEXT_SEQ_LO.SEQ EVR.NEXT_SEQ_HI.SEQ q) from ⟨hg.again, hg.sta⟩).keepBound
    clear_value s1
    have h2 : Going s s2 := ⟨h1.again, h1.sta⟩
    clear_value s2
    refine List.foldlRecOn (motive := Going s) _ _ h2 fun u hu x _ => ?_
    unfold lossSeen
    exact (show Going s (setB u EVR.STATUS.LOSS true) from ⟨hu.again, hu.sta⟩).sendFault _ _ _

theorem writeSlot (k : Nat) (h : Going s t) : Going s (Machine.writeSlot k t) := by
  unfold Machine.writeSlot
  split
  · exact h
  · next g _ =>
    have hg := h.sealGran (memBytes t.evr.buf (4096 * k) 4096)
    dsimp only
    generalize Machine.sealGran (memBytes t.evr.buf (4096 * k) 4096) t = u at *
    exact ⟨hg.again, hg.sta⟩

theorem flushFailed (n total : Nat) (puf : Bool) (h : Going s t) : Going s (Machine.flushFailed n total puf t) := by
  have hf := flushFailed_shown n total puf t
  exact ⟨(congrArg EvrState.again hf.evr).trans h.again, hf.sta.trans h.sta⟩

theorem flushAnswer (full : Bool) (n recs : Nat) (h : Going s t) : Going s (Machine.flushAnswer full n recs t) := by
  have hr := RingsOnly.flushAnswer full n recs (.refl t)
  exact ⟨(congrArg EvrState.again hr.evr).trans h.again, hr.sta.trans h.sta⟩

end Going

theorem flushOver_flush (s : State) : (flushOver s).sta = s.sta := rfl

/-- A flush that ends while another is asked for starts that one (R382). -/
theorem flushDone_again {ok : Option Nat} {s : State} (hf : flushing s = true) (ha : s.evr.again ≠ 0) :
    (flushDone ok s).evr.flush = s.evr.again ∧ getB (flushDone ok s) EVR.STATUS.FLUSHING = true ∧ (flushDone ok s).sta = s.sta := by
  unfold flushDone
  rw [if_neg (by rw [hf]; decide)]
  extract_lets h total n slots recs s1 s2 s3 stuck full s4 again src s5
  have h1 : Going s s1 := by
    unfold s1
    split
    · refine List.foldlRecOn (motive := Going s) _ _ (.refl s) fun u hu x _ => ?_
      split
      · exact ⟨hu.again, hu.sta⟩
      · exact hu
    · exact (Going.refl s).writeHead
  clear_value s1
  have h2 : Going s s2 := List.foldlRecOn (motive := Going s) _ _ h1 fun u hu k _ => hu.writeSlot k
  clear_value s2
  have h3 : Going s s3 := h2.flushFailed n total (getB s SEC.STATUS.PUF_OK)
  clear_value s3
  have h4 : Going s s4 := by
    unfold s4
    refine Going.flushAnswer _ _ _ ?_
    have he : Going s (hoursSave s3) := ⟨h3.again, h3.sta⟩
    generalize hoursSave s3 = u at *
    exact ⟨(congrArg EvrState.again (event_evr ..)).trans he.again, (event_sta ..).trans he.sta⟩
  clear_value s4
  have h5 : s5.sta = s4.sta := rfl
  have h6 : again = s.evr.again := h4.again
  clear_value s5 again
  rw [if_neg (by rw [h6]; exact ha), h6]
  obtain ⟨f1, -, f3⟩ := flushStart_shown s.evr.again s5
  exact ⟨f1, f3, ((Quiet.refl recorderFields s5).flushStart _).sta.trans (h5.trans h4.sta)⟩

/-! ### A flush without a head -/

/-- What the end of a flush without a head shows (R383, R384): `n` granules of its job are sealed. -/
structure FlushShown (n : Nat) (s t : State) : Prop where
  flush : t.evr.flush = 0
  job : t.evr.job = []
  shown : getB t EVR.STATUS.FLUSHING = false
  write : writePt t = (writePt s + n) % 4096
  erased : erased t = erased s - n
  hours : t.evr.savedHours = s.time.hours
  cycles : t.evr.savedCycles = getF s EVR.CYCLES.CYCLES
  told : roomRec s → eventWaits 0x0D01 t
  marks : ∀ k ∈ s.evr.job.take n, ∀ g ∈ t.evr.grans, g.slot = k → g.flushed = true
  first : ∀ k rest, s.evr.job = k :: rest → 1 ≤ n → memBytes t.evr.log (4096 * writePt s) 4096 = memBytes s.evr.buf (4096 * k) 4096 ∧
    aFind t.evr.seals (writePt s) = some ⟨genCur s, sealCnt s, false⟩
  fails : n < s.evr.job.length → getB t EVR.STATUS.FLUSH_FAIL = true ∧ (roomMsg s → messageWaits 0xD0 0xD00 ((writePt s + n) % 4096) t)
  noKey : getB s SEC.STATUS.PUF_OK = false → getB t EVR.STATUS.FLUSH_FAIL = true
  sta : t.sta = s.sta

theorem flushOver_shown (s : State) : (flushOver s).evr = { s.evr with flush := 0, job := [], head := [], again := 0 } ∧
    getB (flushOver s) EVR.STATUS.FLUSHING = false ∧ (flushOver s).sta = s.sta ∧ (flushOver s).inbox = s.inbox ∧
    ∀ f : Fld, f.key ≠ EVR.STATUS.FLUSHING.key → getF (flushOver s) f = getF s f :=
  ⟨rfl, getB_setB_self _ _ _ rfl, rfl, rfl, fun f h => (getF_setB_ne _ _ h).trans (getF_congr rfl f)⟩

theorem writePt_congr {s t : State} (h : getF t EVR.FLASH.GRANULE = getF s EVR.FLASH.GRANULE) : writePt t = writePt s := h

theorem erased_congr {s t : State} (h : getF t EVR.FLASH.ERASED = getF s EVR.FLASH.ERASED) : erased t = erased s := h

theorem flushEnded_shown {ok : Option Nat} {full : Bool} {recs n : Nat} {s : State} (hn : n = sealedCount ok s) (hl : s.evr.job.length ≤ 64)
    (hw : writePt s < 4096) (he : erased s < 4096) (hg : ∀ k ∈ s.evr.job, ∃ g ∈ s.evr.grans, g.slot = k) :
    (flushEnded ok full recs s).evr.again = s.evr.again ∧ FlushShown n s (flushOver (flushEnded ok full recs s)) := by
  have hnl : n ≤ s.evr.job.length := by
    rw [hn]
    unfold sealedCount
    cases ok
    · exact Nat.le_refl _
    · exact Nat.min_le_right _ _
  have hslots := slots_shown (s.evr.job.take n) s fun k hk => hg k (List.mem_of_mem_take hk)
  have hfirst : ∀ k rest, s.evr.job = k :: rest → 1 ≤ n →
      memBytes ((s.evr.job.take n).foldl (fun t k => writeSlot k t) s).evr.log (4096 * writePt s) 4096 = memBytes s.evr.buf (4096 * k) 4096 ∧
      aFind ((s.evr.job.take n).foldl (fun t k => writeSlot k t) s).evr.seals (writePt s) = some ⟨genCur s, sealCnt s, false⟩ := by
    intro k rest hj h1
    obtain ⟨m, rfl⟩ : ∃ m, n = m + 1 := ⟨n - 1, by omega⟩
    rw [hj, List.take_succ_cons]
    refine slots_first ?_ hw fun x hx => ?_
    · rw [hj, List.length_cons] at hl
      rw [List.length_take]
      omega
    · exact hg x (by rw [hj]; rcases List.mem_cons.1 hx with h | h
                     · exact h ▸ List.mem_cons_self ..
                     · exact List.mem_cons_of_mem _ (List.mem_of_mem_take h))
  unfold flushEnded
  rw [← hn]
  have hlen : (s.evr.job.take n).length = n := by rw [List.length_take]; omega
  generalize (s.evr.job.take n).foldl (fun t k => writeSlot k t) s = u at *
  obtain ⟨a1, a2, a3, -, a5, -, -, -, a9, -, -⟩ := hslots
  rw [hlen] at a2 a3
  have hf := flushFailed_shown n s.evr.job.length (getB s SEC.STATUS.PUF_OK) u
  generalize flushFailed n s.evr.job.length (getB s SEC.STATUS.PUF_OK) u = v at *
  obtain ⟨b1, b2, b3, b4, b5, b6, b7⟩ := hf
  obtain ⟨c1, c2⟩ := hoursSave_shown v
  generalize hoursSave v = w at *
  have hroom : roomRec s → eventWaits 0x0D01 (event 0x0D01 (toLE 2 n ++ [s.evr.flush]) w) := fun hr =>
    eventWaits_event (roomRec_congr c1.inbox (b6 (roomRec_congr a1.inbox hr)))
  have hq := (Quiet.refl [EVR.COUNTS.DROPPED] w).event 0x0D01 (toLE 2 n ++ [s.evr.flush]) (by simp)
  have hqe : (event 0x0D01 (toLE 2 n ++ [s.evr.flush]) w).evr = w.evr := event_evr ..
  generalize event 0x0D01 (toLE 2 n ++ [s.evr.flush]) w = x at *
  have hr := RingsOnly.flushAnswer full n recs (.refl x)
  generalize flushAnswer full n recs x = y at *
  have hevr : y.evr = { u.evr with savedHours := v.time.hours, savedCycles := getF v EVR.CYCLES.CYCLES } := by rw [hr.evr, hqe, c2, b1]
  obtain ⟨o1, o2, o3, o4, o5⟩ := flushOver_shown y
  have hgran : getF (flushOver y) EVR.FLASH.GRANULE = getF u EVR.FLASH.GRANULE :=
    (o5 _ (by decide)).trans ((hr.fields _ (by decide)).trans ((hq.getF (by decide) (by decide)).trans ((c1.getF (by decide) (by decide)).trans
      (b7 _ (by decide) (by decide)))))
  have herased : getF (flushOver y) EVR.FLASH.ERASED = getF u EVR.FLASH.ERASED :=
    (o5 _ (by decide)).trans ((hr.fields _ (by decide)).trans ((hq.getF (by decide) (by decide)).trans ((c1.getF (by decide) (by decide)).trans
      (b7 _ (by decide) (by decide)))))
  have hfail : getB (flushOver y) EVR.STATUS.FLUSH_FAIL = getB v EVR.STATUS.FLUSH_FAIL :=
    getB_congr ((o5 _ (by decide)).trans ((hr.fields _ (by decide)).trans ((hq.getF (by decide) (by decide)).trans (c1.getF (by decide) (by decide)))))
  have hin : ∀ z ∈ v.inbox, z ∈ (flushOver y).inbox := fun z hz => by
    rw [o4, hr.inbox]
    exact hq.inbox z (by rw [c1.inbox]; exact hz)
  have hcyc : getF v EVR.CYCLES.CYCLES = getF s EVR.CYCLES.CYCLES := (b7 _ (by decide) (by decide)).trans (a1.getF (by decide) (by decide))
  have htime : v.time = s.time := b3.trans a1.time
  have hsta : (flushOver y).sta = s.sta := o3.trans (hr.sta.trans (hq.sta.trans (c1.sta.trans (b2.trans a1.sta))))
  refine ⟨by rw [hevr]; exact a5, ?_⟩
  generalize flushOver y = t at *
  rw [hevr] at o1
  refine ⟨by rw [o1], by rw [o1], o2, (writePt_congr hgran).trans (a2 hw), (erased_congr herased).trans (a3 (by omega)), by rw [o1, htime], by rw [o1, hcyc],
    fun h => (eventWaits_congr (o4.trans hr.inbox)).2 (hroom h), fun k hk => by rw [o1]; exact a9 k hk, fun k rest hj h1 => by rw [o1]; exact hfirst k rest hj h1,
    fun h => ⟨hfail.trans (b4 (.inl h)), fun hm => ?_⟩, fun h => hfail.trans (b4 (.inr h)), hsta⟩
  rw [← a2 hw]
  exact messageWaits_of_sub (b5 h (roomMsg_congr a1.inbox hm)) hin

end Sys2Proof.Machine
end

section
/-! O56, concluded. Erasing ahead and the migration of the sealed log (R384, R395, R396, R413 to R415). -/

namespace Sys2Proof.Machine

/-- The log once a granule of it is erased. -/
def erasedEvr (i : Nat) (e : EvrState) : EvrState := { e with log := memZero e.log (4096 * i) 4096, seals := aDel e.seals i }

/-- Whether a granule that is erased was one of the previous generation's (R414). -/
def wasLeft (i : Nat) (s : State) : Bool := match aFind s.evr.seals i with | some x => prevValid s && x.gen == genPrev s | none => false

/-- What the erasure of a granule shows (R384). -/
structure GranErased (i : Nat) (s t : State) : Prop where
  only : RecOnly [SEC.LOG_KEY.LEFT] s t
  evr : t.evr = erasedEvr i s.evr
  left : wasLeft i s = true → getF t SEC.LOG_KEY.LEFT = (getF s SEC.LOG_KEY.LEFT - 1) % 8192

theorem eraseGran_shown (i : Nat) (s : State) : GranErased i s (eraseGran i s) := by
  have he : eraseGran i s = if wasLeft i s then
      setF (setEvr (erasedEvr i s.evr) s) SEC.LOG_KEY.LEFT (getF s SEC.LOG_KEY.LEFT - 1) else setEvr (erasedEvr i s.evr) s := by
    unfold eraseGran wasLeft
    cases aFind s.evr.seals i <;> rfl
  rw [he]
  have h1 : RecOnly [SEC.LOG_KEY.LEFT] s (setEvr (erasedEvr i s.evr) s) ∧ (setEvr (erasedEvr i s.evr) s).evr = erasedEvr i s.evr :=
    ⟨(RecOnly.refl _ s).setEvr _, rfl⟩
  generalize setEvr (erasedEvr i s.evr) s = u at *
  obtain ⟨a1, a2⟩ := h1
  split
  · exact ⟨a1.setF _ (by simp), a2, fun _ => getF_setF_self ..⟩
  · next h => exact ⟨a1, a2, fun h2 => absurd h2 h⟩

theorem erasedEvr_log (i j : Nat) (e : EvrState) :
    memByte (erasedEvr i e).log j = if 4096 * i ≤ j ∧ j < 4096 * i + 4096 then 0 else memByte e.log j := memByte_memZero ..

theorem erasedEvr_seals (i : Nat) (e : EvrState) : aFind (erasedEvr i e).seals i = none := aFind_aDel_self ..

theorem wasLeft_of {i : Nat} {x : Seal} {s : State} (h : aFind s.evr.seals i = some x) (hp : prevValid s = true) (hg : x.gen = genPrev s) :
    wasLeft i s = true := by
  unfold wasLeft
  rw [h, hp]
  exact decide_eq_true hg

/-! ### The previous generation is retired (R415) -/

/-- The previous generation is gone, and its end recorded. -/
structure Retired (s t : State) : Prop where
  gone : prevValid t = false
  salt : t.evr.saltPrev = 0
  told : roomRec s → eventWaits 0x0E04 t

/-- What retiring the previous generation leaves, whether or not it is due. -/
structure RetireKeeps (s t : State) : Prop where
  quiet : Quiet [SEC.LOG_KEY.PREV_VALID, EVR.COUNTS.DROPPED] s t
  seals : t.evr.seals = s.evr.seals
  log : t.evr.log = s.evr.log

theorem retirePrev_idle {s : State} (h : prevValid s = false ∨ getF s SEC.LOG_KEY.LEFT ≠ 0) : retirePrev s = s := by
  unfold retirePrev
  rw [if_pos (by rcases h with h | h <;> simp [h])]

theorem retirePrev_shown {s : State} (hp : prevValid s = true) (h0 : getF s SEC.LOG_KEY.LEFT = 0) :
    Retired s (retirePrev s) ∧ RetireKeeps s (retirePrev s) := by
  unfold retirePrev
  rw [if_neg (by simp [hp, h0])]
  dsimp only
  have h1 : Quiet [SEC.LOG_KEY.PREV_VALID, EVR.COUNTS.DROPPED] s (setB (setEvr { s.evr with saltPrev := 0 } s) SEC.LOG_KEY.PREV_VALID false) :=
    ((Quiet.refl _ s).setEvr _).setB _ _ (by simp)
  have h2 : prevValid (setB (setEvr { s.evr with saltPrev := 0 } s) SEC.LOG_KEY.PREV_VALID false) = false := getB_setB_self _ _ _ rfl
  have h3 : (setB (setEvr { s.evr with saltPrev := 0 } s) SEC.LOG_KEY.PREV_VALID false).evr = { s.evr with saltPrev := 0 } := rfl
  have h4 : (setB (setEvr { s.evr with saltPrev := 0 } s) SEC.LOG_KEY.PREV_VALID false).inbox = s.inbox := rfl
  generalize setB (setEvr { s.evr with saltPrev := 0 } s) SEC.LOG_KEY.PREV_VALID false = u at *
  generalize [genPrev s, 0, 0, 0] ++ toLE 4 s.evr.migDone = body
  have hw : roomRec s → eventWaits 0x0E04 (event 0x0E04 body u) := fun hr => eventWaits_event (roomRec_congr h4 hr)
  have hq := (Quiet.refl [EVR.COUNTS.DROPPED] u).event 0x0E04 body (by simp)
  have he : (event 0x0E04 body u).evr = u.evr := event_evr ..
  generalize event 0x0E04 body u = t at *
  exact ⟨⟨(getB_congr (hq.getF (by decide) (by decide))).trans h2, by rw [he, h3], hw⟩, h1.trans (hq.mono (by simp)), by rw [he, h3], by rw [he, h3]⟩

theorem retirePrev_keeps (s : State) : RetireKeeps s (retirePrev s) := by
  by_cases h : prevValid s = true ∧ getF s SEC.LOG_KEY.LEFT = 0
  · exact (retirePrev_shown h.1 h.2).2
  · rw [retirePrev_idle (by rw [← Bool.not_eq_true]; exact not_and_or.1 h)]
    exact ⟨.refl _ s, rfl, rfl⟩

/-! ### A step of the migration (R413 to R415) -/

/-- The migration's time has come. -/
def migrates (s : State) : Prop := prevValid s = true ∧ getB s SEC.STATUS.PUF_OK = true ∧ flushing s = false ∧ s.phc.pwrFailN = true ∧
  s.evr.migAt + ms 10 ≤ s.time.ticks

/-- A step of the migration is taken. -/
def migTaken (s : State) : State := setEvr { s.evr with migAt := s.time.ticks } s

theorem migrateGran_idle {opens stop : Bool} {s : State} (h : ¬ migrates s) : migrateGran opens stop s = s := by
  unfold migrateGran
  refine if_pos ?_
  by_contra hne
  simp only [not_or, Bool.not_eq_true', Bool.not_eq_false, Bool.not_eq_true, Nat.not_lt] at hne
  exact h hne

/-- What a granule that cannot be opened becomes: erased and counted as lost, with its fault. -/
def granLost (i : Nat) (s : State) : State :=
  retirePrev (sendFault 0xE3 0xE30 i (incF (eraseGran i (migTaken s)) SEC.MIGRATE_COUNTS.LOST))

/-- A granule whose new seal waits for its second step. -/
def granStaged (i : Nat) (s : State) : State :=
  nextSeal (setEvr { (migTaken s).evr with seals := aIns (migTaken s).evr.seals i ⟨genPrev s, sealCnt s, true⟩ } (migTaken s))

/-- A granule that is sealed anew. -/
def granMigrated (i : Nat) (s : State) : State :=
  retirePrev (incF (setF (nextSeal (setEvr { (migTaken s).evr with seals := aIns (migTaken s).evr.seals i ⟨genCur s, sealCnt s, false⟩, migDone := (migTaken s).evr.migDone + 1 } (migTaken s)))
    SEC.LOG_KEY.LEFT (getF s SEC.LOG_KEY.LEFT - 1)) SEC.MIGRATE_COUNTS.MIGRATED)

theorem migrateGran_eq {opens stop : Bool} {s : State} (h : migrates s) : migrateGran opens stop s =
    match migrateNext s with
    | none => retirePrev (migTaken s)
    | some i => if opens then (if stop then granStaged i s else granMigrated i s) else granLost i s := by
  obtain ⟨h1, h2, h3, h4, h5⟩ := h
  unfold migrateGran
  rw [if_neg (by simp [h1, h2, h3, h4, h5])]
  have hm : migrateNext (setEvr { s.evr with migAt := s.time.ticks } s) = migrateNext s := rfl
  dsimp only
  rw [hm]
  cases migrateNext s with
  | none => rfl
  | some i => cases opens <;> cases stop <;> rfl

theorem migTaken_shown (s : State) : RecOnly [] s (migTaken s) ∧ (migTaken s).evr = { s.evr with migAt := s.time.ticks } :=
  ⟨(RecOnly.refl [] s).setEvr _, rfl⟩

/-- What a step of the migration at a granule shows, but for the granule itself: what is left, and the end of it. -/
structure StepEnds (s t : State) : Prop where
  left : getF t SEC.LOG_KEY.LEFT = getF s SEC.LOG_KEY.LEFT - 1
  retires : getF s SEC.LOG_KEY.LEFT ≤ 1 → Retired s t

/-- After its last granule the previous generation is retired. -/
theorem stepEnds_retirePrev {s u : State} (hp : prevValid u = true) (hl : getF u SEC.LOG_KEY.LEFT = getF s SEC.LOG_KEY.LEFT - 1)
    (hr : roomRec s → roomRec u) : StepEnds s (retirePrev u) := by
  refine ⟨((retirePrev_keeps u).quiet.getF (by decide) (by decide)).trans hl, fun h => ?_⟩
  obtain ⟨h1, h2, h3⟩ := (retirePrev_shown hp (by omega)).1
  exact ⟨h1, h2, fun h => h3 (hr h)⟩

theorem granLost_shown {i : Nat} {x : Seal} {s : State} (hp : prevValid s = true) (hx : aFind s.evr.seals i = some x) (hg : x.gen = genPrev s)
    (hl : getF s SEC.LOG_KEY.LEFT < 8192) : (granLost i s).sta = s.sta ∧ aFind (granLost i s).evr.seals i = none ∧
    getF (granLost i s) SEC.MIGRATE_COUNTS.LOST = min (getF s SEC.MIGRATE_COUNTS.LOST + 1) 65535 ∧
    (roomMsg s → messageWaits 0xE3 0xE30 i (granLost i s)) ∧ StepEnds s (granLost i s) := by
  obtain ⟨m1, m2⟩ := migTaken_shown s
  unfold granLost
  generalize migTaken s = u at *
  have hfind : aFind u.evr.seals i = some x := by rw [m2]; exact hx
  have hpu : prevValid u = true := (getB_congr (m1.getF (by decide) (by decide))).trans hp
  obtain ⟨e1, e2, e3⟩ := eraseGran_shown i u
  have e4 := e3 (wasLeft_of hfind hpu (hg.trans (m1.getF (by decide) (by decide)).symm))
  generalize eraseGran i u = v at *
  have hcount : getF (incF v SEC.MIGRATE_COUNTS.LOST) SEC.MIGRATE_COUNTS.LOST = min (getF v SEC.MIGRATE_COUNTS.LOST + 1) 65535 := getF_incF_self ..
  have hinc := (Quiet.refl [SEC.MIGRATE_COUNTS.LOST] v).incF SEC.MIGRATE_COUNTS.LOST (by simp)
  have hie : (incF v SEC.MIGRATE_COUNTS.LOST).evr = v.evr ∧ (incF v SEC.MIGRATE_COUNTS.LOST).inbox = v.inbox := ⟨rfl, rfl⟩
  generalize incF v SEC.MIGRATE_COUNTS.LOST = w at *
  have hin : w.inbox = s.inbox := hie.2.trans (e1.inbox.trans m1.inbox)
  have hmsg : roomMsg s → messageWaits 0xE3 0xE30 i (sendFault 0xE3 0xE30 i w) := fun hr => messageWaits_sendFault (roomMsg_congr hin hr)
  have hroom : roomRec s → roomRec (sendFault 0xE3 0xE30 i w) := fun hr => roomRec_sendFault (roomRec_congr hin hr)
  have hs := (Quiet.refl [FLC.STATUS.QUEUE_OVF] w).sendFault 0xE3 0xE30 i (.inr (by simp))
  have hse : (sendFault 0xE3 0xE30 i w).evr = w.evr := sendFault_evr ..
  generalize sendFault 0xE3 0xE30 i w = y at *
  have hr := retirePrev_keeps y
  refine ⟨hr.quiet.sta.trans (hs.sta.trans (hinc.sta.trans (e1.sta.trans m1.sta))), ?_, ?_, fun h => messageWaits_of_sub (hmsg h) hr.quiet.inbox,
    stepEnds_retirePrev ?_ ?_ hroom⟩
  · rw [hr.seals, hse, hie.1, e2]
    exact erasedEvr_seals ..
  · rw [hr.quiet.getF (by decide) (by decide), hs.getF (by decide) (by decide), hcount, e1.getF (by decide) (by decide), m1.getF (by decide) (by decide)]
  · refine (getB_congr ?_).trans hpu
    rw [hs.getF (by decide) (by decide), hinc.getF (by decide) (by decide), e1.getF (by decide) (by decide)]
  · rw [hs.getF (by decide) (by decide), hinc.getF (by decide) (by decide), e4, m1.getF (by decide) (by decide)]
    exact Nat.mod_eq_of_lt (by omega)

/-- A granule of the log gets a seal; of the recorder nothing but the seals and the migration's count changes. -/
theorem resealed_shown (i : Nat) (x : Seal) (n : Nat) (s : State) :
    RecOnly sealCounters s (nextSeal (setEvr { (migTaken s).evr with seals := aIns (migTaken s).evr.seals i x, migDone := n } (migTaken s))) ∧
    aFind (nextSeal (setEvr { (migTaken s).evr with seals := aIns (migTaken s).evr.seals i x, migDone := n } (migTaken s))).evr.seals i = some x ∧
    (nextSeal (setEvr { (migTaken s).evr with seals := aIns (migTaken s).evr.seals i x, migDone := n } (migTaken s))).evr.log = s.evr.log := by
  obtain ⟨m1, m2⟩ := migTaken_shown s
  generalize migTaken s = u at *
  have h1 : RecOnly sealCounters s (setEvr { u.evr with seals := aIns u.evr.seals i x, migDone := n } u) := (m1.mono (by simp)).setEvr _
  have h2 : (setEvr { u.evr with seals := aIns u.evr.seals i x, migDone := n } u).evr = { u.evr with seals := aIns u.evr.seals i x, migDone := n } := rfl
  generalize setEvr { u.evr with seals := aIns u.evr.seals i x, migDone := n } u = v at *
  obtain ⟨n1, b, n2⟩ := nextSeal_shown v
  generalize nextSeal v = w at *
  refine ⟨h1.trans n1, ?_, ?_⟩
  · rw [n2, h2]
    exact aFind_aIns_self ..
  · rw [n2, h2, m2]

theorem granStaged_shown (i : Nat) (s : State) : (granStaged i s).sta = s.sta ∧
    aFind (granStaged i s).evr.seals i = some ⟨genPrev s, sealCnt s, true⟩ ∧ (granStaged i s).evr.log = s.evr.log ∧
    getF (granStaged i s) SEC.LOG_KEY.LEFT = getF s SEC.LOG_KEY.LEFT := by
  have h := resealed_shown i ⟨genPrev s, sealCnt s, true⟩ (migTaken s).evr.migDone s
  have he : granStaged i s = nextSeal (setEvr { (migTaken s).evr with
      seals := aIns (migTaken s).evr.seals i ⟨genPrev s, sealCnt s, true⟩
      migDone := (migTaken s).evr.migDone } (migTaken s)) := rfl
  rw [← he] at h
  obtain ⟨h1, h2, h3⟩ := h
  exact ⟨h1.sta, h2, h3, h1.getF (by decide) (by decide)⟩

theorem granMigrated_shown {i : Nat} {s : State} (hp : prevValid s = true) (hl : getF s SEC.LOG_KEY.LEFT < 8192) :
    (granMigrated i s).sta = s.sta ∧ aFind (granMigrated i s).evr.seals i = some ⟨genCur s, sealCnt s, false⟩ ∧
    (granMigrated i s).evr.log = s.evr.log ∧
    getF (granMigrated i s) SEC.MIGRATE_COUNTS.MIGRATED = min (getF s SEC.MIGRATE_COUNTS.MIGRATED + 1) 65535 ∧ StepEnds s (granMigrated i s) := by
  have h := resealed_shown i ⟨genCur s, sealCnt s, false⟩ ((migTaken s).evr.migDone + 1) s
  unfold granMigrated
  generalize nextSeal (setEvr _ (migTaken s)) = u at *
  obtain ⟨h1, h2, h3⟩ := h
  have hmig : getF u SEC.MIGRATE_COUNTS.MIGRATED = getF s SEC.MIGRATE_COUNTS.MIGRATED := h1.getF (by decide) (by decide)
  have g1 : getF (incF (setF u SEC.LOG_KEY.LEFT (getF s SEC.LOG_KEY.LEFT - 1)) SEC.MIGRATE_COUNTS.MIGRATED) SEC.LOG_KEY.LEFT =
      (getF s SEC.LOG_KEY.LEFT - 1) % 8192 := (getF_incF_ne _ (by decide)).trans (getF_setF_self ..)
  have g2 : getF (incF (setF u SEC.LOG_KEY.LEFT (getF s SEC.LOG_KEY.LEFT - 1)) SEC.MIGRATE_COUNTS.MIGRATED) SEC.MIGRATE_COUNTS.MIGRATED =
      min (getF s SEC.MIGRATE_COUNTS.MIGRATED + 1) 65535 := by
    rw [getF_incF_self, getF_setF_ne _ _ (by decide), hmig]
    rfl
  have g3 : RecOnly [SEC.LOG_KEY.LEFT, SEC.MIGRATE_COUNTS.MIGRATED] u
      (incF (setF u SEC.LOG_KEY.LEFT (getF s SEC.LOG_KEY.LEFT - 1)) SEC.MIGRATE_COUNTS.MIGRATED) :=
    ((RecOnly.refl _ u).setF _ (by simp)).setF _ (by simp)
  have g4 : (incF (setF u SEC.LOG_KEY.LEFT (getF s SEC.LOG_KEY.LEFT - 1)) SEC.MIGRATE_COUNTS.MIGRATED).evr = u.evr := rfl
  generalize incF (setF u SEC.LOG_KEY.LEFT (getF s SEC.LOG_KEY.LEFT - 1)) SEC.MIGRATE_COUNTS.MIGRATED = v at *
  have hr := retirePrev_keeps v
  refine ⟨hr.quiet.sta.trans (g3.sta.trans h1.sta), by rw [hr.seals, g4]; exact h2, by rw [hr.log, g4]; exact h3,
    (hr.quiet.getF (by decide) (by decide)).trans g2, stepEnds_retirePrev ?_ (g1.trans (Nat.mod_eq_of_lt (by omega)))
      (roomRec_congr (g3.inbox.trans h1.inbox))⟩
  exact (getB_congr ((g3.getF (by decide) (by decide)).trans (h1.getF (by decide) (by decide)))).trans hp

end Sys2Proof.Machine
end

section
/-! O56, concluded. The answers of the recorder's flusher (R382 to R384, R395, R396, R412 to R415). -/

namespace Sys2Proof.Machine

/-- The erasure of the next granule ahead of the write point (R384). -/
structure ErasedAhead (i : Nat) (s t : State) : Prop where
  erased : erased t = erased s + 1
  write : writePt t = writePt s
  seals : aFind t.evr.seals i = none
  log : ∀ j, memByte t.evr.log j = if 4096 * i ≤ j ∧ j < 4096 * i + 4096 then 0 else memByte s.evr.log j
  left : wasLeft i s = true → getF t SEC.LOG_KEY.LEFT = (getF s SEC.LOG_KEY.LEFT - 1) % 8192
  sta : t.sta = s.sta

theorem eraseAhead_shown {i : Nat} {s : State} (hi : i = (writePt s + erased s) % 4096) (hc : compOn s 7 = true) (he : erased s < 4095) :
    ErasedAhead i s (eraseAhead s) := by
  unfold eraseAhead
  rw [if_neg (by simp [hc]; omega), ← hi]
  obtain ⟨h1, h2, h3⟩ := eraseGran_shown i s
  generalize eraseGran i s = u at *
  have hw := getF_setF_ne u (f := EVR.FLASH.ERASED) (g := EVR.FLASH.GRANULE) (erased s + 1) (by decide)
  have hl := getF_setF_ne u (f := EVR.FLASH.ERASED) (g := SEC.LOG_KEY.LEFT) (erased s + 1) (by decide)
  refine ⟨(getF_setF_self ..).trans (Nat.mod_eq_of_lt (by change _ < 4096; omega)), hw.trans (h1.getF (by decide) (by decide)), ?_, fun j => ?_,
    fun h => hl.trans (h3 h), h1.sta⟩
  · change aFind u.evr.seals i = none
    rw [h2]
    exact erasedEvr_seals ..
  · change memByte u.evr.log j = _
    rw [h2]
    exact erasedEvr_log ..

/-- The minimum interval between flushes has passed since the fault (R382). -/
theorem flushMinEnd_due {x : Nat} {s : State} (hx : s.evr.faultAt = some x) (hp : getB s EVR.STATUS.FLUSH_PENDING = true)
    (h : x + ms (100 * max 1 (getF s EVR.CTRL.FLUSH_MIN)) ≤ s.time.ticks) : flushMinEnd s =
      flushBegin 1 (setB (setEvr { s.evr with faultAt := some s.time.ticks } s) EVR.STATUS.FLUSH_PENDING false) := by
  unfold flushMinEnd
  rw [hx]
  exact if_pos (by rw [hp, decide_eq_true h]; rfl)

theorem flushMinEnd_idle {s : State} (h : s.evr.faultAt = none ∨ getB s EVR.STATUS.FLUSH_PENDING = false ∨
    (∃ x, s.evr.faultAt = some x ∧ s.time.ticks < x + ms (100 * max 1 (getF s EVR.CTRL.FLUSH_MIN)))) : flushMinEnd s = s := by
  unfold flushMinEnd
  split
  · next x hx =>
    refine if_neg ?_
    rcases h with h | h | ⟨y, hy, hlt⟩
    · rw [hx] at h
      exact absurd h (by simp)
    · simp [h]
    · rw [hx, Option.some.injEq] at hy
      rw [hy, decide_eq_false (by omega), Bool.and_false]
      decide
  · rfl

section
variable {dt : Nat} {s a : State} (ha : a = advance dt s)
include ha

theorem answers_flushMinEnd {x : Nat} (hx : a.evr.faultAt = some x) (hp : getB a EVR.STATUS.FLUSH_PENDING = true)
    (h : x + ms (100 * max 1 (getF a EVR.CTRL.FLUSH_MIN)) ≤ a.time.ticks) : Answers (.flushMinEnd dt) s (fun t =>
      getB t EVR.STATUS.FLUSH_PENDING = false ∧ t.evr.faultAt = some a.time.ticks ∧
      (flushing a = false → t.evr.flush = 1 ∧ getB t EVR.STATUS.FLUSHING = true) ∧
      (flushing a = true → t.evr.flush = a.evr.flush ∧ t.evr.again = 1)) := by
  refine answers_eq ha (exec_flushMinEnd ..) rfl (flushMinEnd_due hx hp h) ?_
  have hn := ha ▸ noEnd_advance dt s
  have h1 : getB (setB (setEvr { a.evr with faultAt := some a.time.ticks } a) EVR.STATUS.FLUSH_PENDING false) EVR.STATUS.FLUSH_PENDING = false :=
    getB_setB_self _ _ _ rfl
  have h2 : (setB (setEvr { a.evr with faultAt := some a.time.ticks } a) EVR.STATUS.FLUSH_PENDING false).evr = { a.evr with faultAt := some a.time.ticks } := rfl
  have h3 : (setB (setEvr { a.evr with faultAt := some a.time.ticks } a) EVR.STATUS.FLUSH_PENDING false).sta = a.sta := rfl
  generalize setB (setEvr { a.evr with faultAt := some a.time.ticks } a) EVR.STATUS.FLUSH_PENDING false = u at *
  have hf : flushing u = flushing a := flushing_congr (by rw [h2])
  have hq := (Quiet.refl recorderFields u).flushBegin 1
  have hn' : noEnd (flushBegin 1 u) := noEnd_congr hn (hq.sta.trans h3)
  have h4 := (getB_congr (hq.getF (f := EVR.STATUS.FLUSH_PENDING) (by decide) (by decide))).trans h1
  refine ⟨(getB_settle _ hn' (by decide)).trans h4, ?_, fun h0 => ?_, fun h0 => ?_⟩
  · rw [settle_evr hn']
    cases h0 : flushing a
    · rw [flushBegin_idle (hf.trans h0), (flushStart_shown 1 u).2.1, h2]
    · rw [flushBegin_running (hf.trans h0) (by decide) (by decide)]
      exact (congrArg EvrState.faultAt h2 : u.evr.faultAt = _)
  · rw [settle_evr hn', getB_settle _ hn' (by decide), flushBegin_idle (hf.trans h0)]
    exact ⟨(flushStart_shown 1 u).1, (flushStart_shown 1 u).2.2⟩
  · rw [settle_evr hn', flushBegin_running (hf.trans h0) (by decide) (by decide)]
    exact ⟨(congrArg EvrState.flush h2 : u.evr.flush = _), rfl⟩

theorem answers_flushDone {ok : Option Nat} {n : Nat} (hf : flushing a = true) (hh : a.evr.head = []) (hag : a.evr.again = 0)
    (hl : a.evr.job.length ≤ 64) (hw : writePt a < 4096) (he : erased a < 4096) (hg : ∀ k ∈ a.evr.job, ∃ g ∈ a.evr.grans, g.slot = k)
    (hn : n = sealedCount ok a) :
      Answers (.evrFlushDone dt ok) s (fun t => t.evr.flush = 0 ∧ t.evr.job = [] ∧ getB t EVR.STATUS.FLUSHING = false ∧
        writePt t = (writePt a + n) % 4096 ∧ erased t = erased a - n ∧ t.evr.savedHours = a.time.hours ∧
        t.evr.savedCycles = getF a EVR.CYCLES.CYCLES ∧ (roomRec a → eventWaits 0x0D01 t) ∧
        (∀ k ∈ a.evr.job.take n, ∀ g ∈ t.evr.grans, g.slot = k → g.flushed = true) ∧
        (∀ k rest, a.evr.job = k :: rest → 1 ≤ n → memBytes t.evr.log (4096 * writePt a) 4096 = memBytes a.evr.buf (4096 * k) 4096 ∧
          aFind t.evr.seals (writePt a) = some ⟨genCur a, sealCnt a, false⟩) ∧
        (n < a.evr.job.length → getB t EVR.STATUS.FLUSH_FAIL = true ∧ (roomMsg a → messageWaits 0xD0 0xD00 ((writePt a + n) % 4096) t)) ∧
        (getB a SEC.STATUS.PUF_OK = false → getB t EVR.STATUS.FLUSH_FAIL = true)) := by
  obtain ⟨full, recs, heq⟩ := flushDone_eq (ok := ok) hf hh
  obtain ⟨h1, h2⟩ := flushEnded_shown (ok := ok) (full := full) (recs := recs) hn hl hw he hg
  rw [if_pos (h1.trans hag)] at heq
  refine answers_eq ha (exec_evrFlushDone ..) rfl heq ?_
  generalize flushOver (flushEnded ok full recs a) = t at *
  obtain ⟨b1, b2, b3, b4, b5, b6, b7, b8, b9, b10, b11, b12, b13⟩ := h2
  have hend : noEnd t := noEnd_congr (ha ▸ noEnd_advance dt s) b13
  rw [settle_evr hend]
  exact ⟨b1, b2, (getB_settle _ hend (by decide)).trans b3, (writePt_congr (getF_settle _ hend (by decide))).trans b4,
    (erased_congr (getF_settle _ hend (by decide))).trans b5, b6, b7, fun h => (eventWaits_settle hend).2 (b8 h), b9, b10,
    fun h => ⟨(getB_settle _ hend (by decide)).trans (b11 h).1, fun hm => (messageWaits_settle hend).2 ((b11 h).2 hm)⟩,
    fun h => (getB_settle _ hend (by decide)).trans (b12 h)⟩

theorem answers_flushAgain {ok : Option Nat} (hf : flushing a = true) (hag : a.evr.again ≠ 0) :
    Answers (.evrFlushDone dt ok) s (fun t => t.evr.flush = a.evr.again ∧ getB t EVR.STATUS.FLUSHING = true) := by
  obtain ⟨h1, h2, h3⟩ := flushDone_again (ok := ok) hf hag
  refine answers_of ha (exec_evrFlushDone ..) rfl ?_
  generalize flushDone ok a = t at *
  have hend : noEnd t := noEnd_congr (ha ▸ noEnd_advance dt s) h3
  rw [settle_evr hend, getB_settle _ hend (by decide)]
  exact ⟨h1, h2⟩

theorem answers_eraseAhead {i : Nat} (hi : i = (writePt a + erased a) % 4096) (hc : compOn a 7 = true) (he : erased a < 4095) :
    Answers (.eraseAhead dt) s (fun t =>
      erased t = erased a + 1 ∧ writePt t = writePt a ∧ aFind t.evr.seals i = none ∧
      (∀ j, memByte t.evr.log j = if 4096 * i ≤ j ∧ j < 4096 * i + 4096 then 0 else memByte a.evr.log j) ∧
      (∀ x, aFind a.evr.seals i = some x → prevValid a = true → x.gen = genPrev a → 0 < getF a SEC.LOG_KEY.LEFT →
        getF t SEC.LOG_KEY.LEFT = (getF a SEC.LOG_KEY.LEFT - 1) % 8192)) := by
  obtain ⟨h1, h2, h3, h4, h5, h6⟩ := eraseAhead_shown hi hc he
  refine answers_of ha (exec_eraseAhead ..) rfl ?_
  generalize eraseAhead a = t at *
  have hend : noEnd t := noEnd_congr (ha ▸ noEnd_advance dt s) h6
  rw [settle_evr hend, getF_settle _ hend (by decide)]
  exact ⟨(erased_congr (getF_settle _ hend (by decide))).trans h1, (writePt_congr (getF_settle _ hend (by decide))).trans h2, h3, h4,
    fun x hx hp hg _ => h5 (wasLeft_of hx hp hg)⟩

theorem answers_hoursSave : Answers (.hoursSave dt) s (fun t =>
    t.evr = { a.evr with savedHours := a.time.hours, savedCycles := getF a EVR.CYCLES.CYCLES } ∧ ramsSame a t ∧ fieldsBut [] a t) := by
  refine answers_of ha (exec_hoursSave ..) rfl ?_
  have hend : noEnd (hoursSave a) := ha ▸ noEnd_advance dt s
  refine ⟨(settle_evr hend).trans (hoursSave_shown a).2, fun k => ?_, fieldsBut_settle hend (fieldsBut_regs rfl)⟩
  rw [settle_psq hend, settle_pxe hend, settle_cmd hend, settle_fw hend, settle_evr hend, settle_upd hend]
  exact ⟨rfl, rfl, rfl, rfl, rfl, rfl, rfl, rfl⟩

theorem answers_migrateNone {opens stop : Bool} (hm : migrates a) (h : migrateNext a = none) :
    Answers (.logMigrateGranule dt opens stop) s (fun t => t.evr.seals = a.evr.seals ∧ t.evr.log = a.evr.log ∧
      (getF a SEC.LOG_KEY.LEFT = 0 → prevValid t = false ∧ t.evr.saltPrev = 0 ∧ (waitingRecs a < 64 → eventWaits 0x0E04 t)) ∧
      (getF a SEC.LOG_KEY.LEFT ≠ 0 → prevValid t = true)) := by
  have heq : migrateGran opens stop a = retirePrev (migTaken a) := by rw [migrateGran_eq hm, h]
  refine answers_eq ha (exec_logMigrateGranule ..) rfl heq ?_
  obtain ⟨m1, m2⟩ := migTaken_shown a
  generalize migTaken a = u at *
  have hp : prevValid u = true := (getB_congr (m1.getF (by decide) (by decide))).trans hm.1
  have hl : getF u SEC.LOG_KEY.LEFT = getF a SEC.LOG_KEY.LEFT := m1.getF (by decide) (by decide)
  obtain ⟨k1, k2, k3⟩ := retirePrev_keeps u
  have hend : noEnd (retirePrev u) := noEnd_congr (ha ▸ noEnd_advance dt s) (k1.sta.trans m1.sta)
  have hpv : prevValid (settle (retirePrev u)) = prevValid (retirePrev u) := getB_settle _ hend (by decide)
  rw [settle_evr hend, hpv]
  refine ⟨k2.trans (by rw [m2]), k3.trans (by rw [m2]), fun h0 => ?_, fun h0 => ?_⟩
  · obtain ⟨r1, r2, r3⟩ := (retirePrev_shown hp (hl.trans h0)).1
    exact ⟨r1, r2, fun hr => (eventWaits_settle hend).2 (r3 (roomRec_congr m1.inbox hr))⟩
  · rw [retirePrev_idle (.inr (hl ▸ h0))]
    exact hp

end

theorem stepEnds_settle {s t : State} (hn : noEnd t) (h : StepEnds s t) : getF (settle t) SEC.LOG_KEY.LEFT = getF s SEC.LOG_KEY.LEFT - 1 ∧
    (getF s SEC.LOG_KEY.LEFT ≤ 1 → prevValid (settle t) = false ∧ (settle t).evr.saltPrev = 0 ∧ (waitingRecs s < 64 → eventWaits 0x0E04 (settle t))) := by
  refine ⟨(getF_settle _ hn (by decide)).trans h.left, fun h1 => ?_⟩
  obtain ⟨r1, r2, r3⟩ := h.retires h1
  exact ⟨(getB_settle _ hn (by decide)).trans r1, by rw [settle_evr hn]; exact r2, fun hr => (eventWaits_settle hn).2 (r3 hr)⟩

theorem migrateNext_prev {i : Nat} {s : State} (h : migrateNext s = some i) : ∃ x, aFind s.evr.seals i = some x ∧ x.gen = genPrev s := by
  have hp := List.find?_some h
  split at hp
  · next x hx => exact ⟨x, hx, by simpa using hp⟩
  · exact absurd hp (by decide)

section
variable {dt : Nat} {s a : State} (ha : a = advance dt s)
include ha

theorem answers_granLost {i : Nat} {stop : Bool} (hm : migrates a) (h : migrateNext a = some i) (hl : getF a SEC.LOG_KEY.LEFT < 8192)
    (hr : roomMsg a) : Answers (.logMigrateGranule dt false stop) s (fun t => aFind t.evr.seals i = none ∧
        getF t SEC.MIGRATE_COUNTS.LOST = min (getF a SEC.MIGRATE_COUNTS.LOST + 1) 65535 ∧ messageWaits 0xE3 0xE30 i t ∧
        getF t SEC.LOG_KEY.LEFT = getF a SEC.LOG_KEY.LEFT - 1 ∧ (getF a SEC.LOG_KEY.LEFT ≤ 1 →
          prevValid t = false ∧ t.evr.saltPrev = 0 ∧ (waitingRecs a < 64 → eventWaits 0x0E04 t))) := by
  obtain ⟨x, hx, hg⟩ := migrateNext_prev h
  obtain ⟨h1, h2, h3, h4, h5⟩ := granLost_shown hm.1 hx hg hl
  refine answers_eq ha (exec_logMigrateGranule ..) rfl (show migrateGran false stop a = granLost i a by rw [migrateGran_eq hm, h]; rfl) ?_
  generalize granLost i a = t at *
  have hend : noEnd t := noEnd_congr (ha ▸ noEnd_advance dt s) h1
  exact ⟨by rw [settle_evr hend]; exact h2, (getF_settle _ hend (by decide)).trans h3, (messageWaits_settle hend).2 (h4 hr), stepEnds_settle hend h5⟩

theorem answers_granStaged {i : Nat} (hm : migrates a) (h : migrateNext a = some i) :
    Answers (.logMigrateGranule dt true true) s (fun t => aFind t.evr.seals i = some ⟨genPrev a, sealCnt a, true⟩ ∧
        t.evr.log = a.evr.log ∧ getF t SEC.LOG_KEY.LEFT = getF a SEC.LOG_KEY.LEFT) := by
  obtain ⟨h1, h2, h3, h4⟩ := granStaged_shown i a
  refine answers_eq ha (exec_logMigrateGranule ..) rfl (show migrateGran true true a = granStaged i a by rw [migrateGran_eq hm, h]; rfl) ?_
  generalize granStaged i a = t at *
  have hend : noEnd t := noEnd_congr (ha ▸ noEnd_advance dt s) h1
  rw [settle_evr hend, getF_settle _ hend (by decide)]
  exact ⟨h2, h3, h4⟩

theorem answers_granMigrated {i : Nat} (hm : migrates a) (h : migrateNext a = some i) (hl : getF a SEC.LOG_KEY.LEFT < 8192) :
    Answers (.logMigrateGranule dt true false) s (fun t => aFind t.evr.seals i = some ⟨genCur a, sealCnt a, false⟩ ∧
        t.evr.log = a.evr.log ∧ getF t SEC.LOG_KEY.LEFT = getF a SEC.LOG_KEY.LEFT - 1 ∧
        getF t SEC.MIGRATE_COUNTS.MIGRATED = min (getF a SEC.MIGRATE_COUNTS.MIGRATED + 1) 65535 ∧
        (getF a SEC.LOG_KEY.LEFT ≤ 1 → prevValid t = false ∧ t.evr.saltPrev = 0 ∧ (waitingRecs a < 64 → eventWaits 0x0E04 t))) := by
  obtain ⟨h1, h2, h3, h4, h5⟩ := granMigrated_shown (i := i) hm.1 hl
  refine answers_eq ha (exec_logMigrateGranule ..) rfl (show migrateGran true false a = granMigrated i a by rw [migrateGran_eq hm, h]; rfl) ?_
  generalize granMigrated i a = t at *
  have hend : noEnd t := noEnd_congr (ha ▸ noEnd_advance dt s) h1
  obtain ⟨e1, e2⟩ := stepEnds_settle hend h5
  exact ⟨by rw [settle_evr hend]; exact h2, by rw [settle_evr hend]; exact h3, e1, (getF_settle _ hend (by decide)).trans h4, e2⟩

end

end Sys2Proof.Machine

open Sys2Proof Sys2Proof.Machine

/-- Settles O56: the end of a flush, with and without another asked for; the interval; erasing ahead; the saved hours; the migration. -/
theorem flushesSealTheBuffer : Obligations.FlushesSealTheBuffer := by
  unfold Obligations.FlushesSealTheBuffer
  intro dt s a ha
  refine ⟨fun ok h => answers_untouched ha (exec_evrFlushDone ..) rfl (if_pos (by rw [h]; rfl)),
    fun ok n hf hh hag hl hw he hg hn => answers_flushDone ha hf hh hag hl hw he hg (hn.trans (by cases ok <;> rfl)),
    fun ok hf hag => answers_flushAgain ha hf hag,
    ⟨fun x hx hp h => answers_flushMinEnd ha hx hp h, fun h => answers_untouched ha (exec_flushMinEnd ..) rfl (flushMinEnd_idle h)⟩,
    fun i hi hc he => answers_eraseAhead ha hi hc he, fun h => answers_untouched ha (exec_eraseAhead ..) rfl (if_pos ?_),
    answers_hoursSave ha, fun h opens stop => answers_untouched ha (exec_logMigrateGranule ..) rfl (migrateGran_idle h),
    fun hm h opens stop => answers_migrateNone ha hm h, fun hm i h hl => ⟨fun stop hr => answers_granLost ha hm h hl hr,
      answers_granStaged ha hm h, answers_granMigrated ha hm h hl⟩⟩
  rcases h with h | h
  · exact .inl (by rw [h]; rfl)
  · exact .inr h
end

section
/-! SUPPORT. Dispatch: which row a packet's opcode has, what a completion leaves, and the state in which a packet is judged (R349 to R361). -/

namespace Sys2Proof.Machine

/-! ### The row of an opcode (Table 15-5) -/

/-- The opcode by which a packet is served: one that Table 15-5 does not name is served as a NOP is. -/
def effOp (o : Nat) : Nat := if o ∈ opcodes then o else 0

theorem effOp_eq_iff {o k : Nat} (hk : k ∈ opcodes) (h0 : k ≠ 0) : effOp o = k ↔ o = k := by
  unfold effOp
  split
  · exact Iff.rfl
  · next h => exact ⟨fun he => absurd he.symm h0, fun he => absurd (he ▸ hk) h⟩

theorem effOp_eq_zero {o : Nat} : effOp o = 0 ↔ o = 0 ∨ o ∉ opcodes := by
  unfold effOp
  split
  · next h => simp [h]
  · next h => simp [h]

/-- The opcode whose row an instruction is. -/
def opOfRow : Instr → Nat
  | .regWrite .. => 0x01 | .regRead .. => 0x02 | .mark .. => 0x03 | .jobAttach .. => 0x08 | .jobDetach .. => 0x09
  | .setCap .. => 0x0C | .getCapState .. => 0x0D | .planSegmentBlock .. => 0x10 | .planStop .. => 0x11
  | .programBlock .. => 0x18 | .sbKeyInstall .. => 0x20 | .logKeyRotate .. => 0x21 | .confMode .. => 0x22
  | .partitionAssign .. => 0x23 | .scrubBegin .. => 0x24 | .scrubEnd .. => 0x25 | .updateBlock .. => 0x30
  | .updateActivate .. => 0x31 | .updateConfirm .. => 0x32 | .updateAbort .. => 0x33 | .evrWatch .. => 0x38
  | .evrFlush .. => 0x39 | .faultPolicy .. => 0x3A | _ => 0x00

section
variable {dt q key : Nat} {b c : Bool}

theorem rowOf_unknown {o : Nat} (h : o ∉ opcodes) : rowOf o dt q b c key = .nop dt q := by
  unfold rowOf
  split
  case h_24 => rfl
  all_goals exact absurd (by decide) h

theorem rowOf_effOp (o : Nat) : rowOf (effOp o) dt q b c key = rowOf o dt q b c key := by
  unfold effOp
  split
  · rfl
  · next h => rw [rowOf_unknown h]; rfl

theorem opOfRow_rowOf {o : Nat} (h : o ∈ opcodes) : opOfRow (rowOf o dt q b c key) = o := by
  simp only [opcodes, List.mem_cons, List.not_mem_nil, or_false] at h
  rcases h with rfl | rfl | rfl | rfl | rfl | rfl | rfl | rfl | rfl | rfl | rfl | rfl | rfl | rfl | rfl | rfl | rfl | rfl | rfl | rfl | rfl | rfl |
    rfl | rfl <;> rfl

theorem effOp_mem (o : Nat) : effOp o ∈ opcodes := by
  unfold effOp
  split
  · assumption
  · decide

theorem rowOf_eq_iff {o op : Nat} : rowOf o dt q b c key = rowOf op dt q b c key ↔ effOp o = effOp op := by
  refine ⟨fun h => ?_, fun h => ?_⟩
  · rw [← rowOf_effOp o, ← rowOf_effOp op] at h
    rw [← opOfRow_rowOf (dt := dt) (q := q) (b := b) (c := c) (key := key) (effOp_mem o), h, opOfRow_rowOf (effOp_mem op)]
  · rw [← rowOf_effOp o, h, rowOf_effOp]

/-- The row of an opcode serves the packets of that opcode alone, wherever no block of the ring has arrived. -/
def Serves (i : Instr) (op dt q : Nat) : Prop :=
  ∃ (f : State → State) (mine : Nat → Bool) (run : Pkt → State → State), (∀ o, mine o = decide (effOp o = op)) ∧ (∀ s, exec i s = act i dt f s) ∧
    ∀ a : State, (∀ x ∈ a.cmd.pkts, x.ring = q → x.st ≠ 3) → f a = packetRow mine q run a

theorem mine_eq {k : Nat} (hk : k ∈ opcodes) (h0 : k ≠ 0) (o : Nat) : (o == k) = decide (effOp o = k) := by
  rw [decide_eq_decide.2 (effOp_eq_iff hk h0)]
  rfl

theorem serves_packetRow {i : Instr} {op : Nat} {run : Pkt → State → State} (hk : op ∈ opcodes) (h0 : op ≠ 0)
    (he : ∀ s, exec i s = act i dt (packetRow (fun o => o == op) q run) s) : Serves i op dt q :=
  ⟨_, fun o => o == op, run, mine_eq hk h0, he, fun _ _ => rfl⟩

theorem serves_blockRow {i : Instr} {op : Nat} {rootOk sigOk : Bool} (hk : op ∈ opcodes) (h0 : op ≠ 0)
    (he : ∀ s, exec i s = act i dt (blockRow op q rootOk sigOk) s) : Serves i op dt q :=
  ⟨_, fun o => o == op, doBlock, mine_eq hk h0, he, fun _ h => blockRow_of_no_block h⟩

theorem serves_nop : Serves (.nop dt q) 0 dt q := by
  refine ⟨_, fun o => o == 0x00 || !opcodes.contains o, doNop, fun o => ?_, exec_nop dt q, fun _ _ => rfl⟩
  rw [Bool.eq_iff_iff, decide_eq_true_iff, effOp_eq_zero]
  simp

theorem rowOf_serves (op : Nat) : Serves (rowOf op dt q b c key) (effOp op) dt q := by
  rw [← rowOf_effOp]
  have hop := effOp_mem op
  generalize effOp op = o at *
  simp only [opcodes, List.mem_cons, List.not_mem_nil, or_false] at hop
  rcases hop with rfl | rfl | rfl | rfl | rfl | rfl | rfl | rfl | rfl | rfl | rfl | rfl | rfl | rfl | rfl | rfl | rfl | rfl | rfl | rfl | rfl | rfl |
    rfl | rfl
  · exact serves_nop
  · exact serves_packetRow (by decide) (by decide) (exec_regWrite dt q)
  · exact serves_packetRow (by decide) (by decide) (exec_regRead dt q)
  · exact serves_packetRow (by decide) (by decide) (exec_mark dt q)
  · exact serves_packetRow (by decide) (by decide) (exec_jobAttach dt q)
  · exact serves_packetRow (by decide) (by decide) (exec_jobDetach dt q)
  · exact serves_packetRow (by decide) (by decide) (exec_setCap dt q)
  · exact serves_packetRow (by decide) (by decide) (exec_getCapState dt q)
  · exact serves_blockRow (by decide) (by decide) (exec_planSegmentBlock dt q)
  · exact serves_packetRow (by decide) (by decide) (exec_planStop dt q)
  · exact serves_blockRow (by decide) (by decide) (exec_programBlock dt q)
  · exact serves_packetRow (by decide) (by decide) (exec_sbKeyInstall dt q b key)
  · exact serves_packetRow (by decide) (by decide) (exec_logKeyRotate dt q)
  · exact serves_packetRow (by decide) (by decide) (exec_confMode dt q)
  · exact serves_packetRow (by decide) (by decide) (exec_partitionAssign dt q)
  · exact serves_packetRow (by decide) (by decide) (exec_scrubBegin dt q)
  · exact serves_packetRow (by decide) (by decide) (exec_scrubEnd dt q)
  · exact serves_blockRow (by decide) (by decide) (exec_updateBlock dt q b c)
  · exact serves_packetRow (by decide) (by decide) (exec_updateActivate dt q)
  · exact serves_packetRow (by decide) (by decide) (exec_updateConfirm dt q)
  · exact serves_packetRow (by decide) (by decide) (exec_updateAbort dt q)
  · exact serves_packetRow (by decide) (by decide) (exec_evrWatch dt q)
  · exact serves_packetRow (by decide) (by decide) (exec_evrFlush dt q)
  · exact serves_packetRow (by decide) (by decide) (exec_faultPolicy dt q)

end

/-! ### What a completion leaves (R359, R360) -/

/-- The fields that a ring's completions set. -/
def completionFields (q : Nat) : List Fld :=
  [CMD.RING_CQ_TAIL.CQ_TAIL q, CMD.LAST_APPLIED.SEQ q, CMD.RING_STATUS.STATE q, FLC.INJECT.ARM, FLC.INJECT_STATUS.FIRED,
    FLC.INJECT_STATUS.LAST_CHECKER]

/-- A completion: its entry, the injection it may meet, the vector it may raise, and its ring's registers. -/
structure EntryOnly (q : Nat) (s t : State) : Prop where
  waiting : waitingSame s t
  sensing : sensingSame s t
  driving : drivingSame s t
  fw : t.fw = s.fw
  evr : t.evr = s.evr
  flc : t.flc = s.flc
  sec : t.sec = s.sec
  upd : t.upd = s.upd
  bus : t.bus = s.bus
  inbox : t.inbox = s.inbox
  time : t.time = s.time
  cmd : ∃ win ecc vecs, t.cmd = { s.cmd with win := win, ecc := ecc, vecs := vecs }
  fields : fieldsBut (completionFields q) s t

namespace EntryOnly

variable {q : Nat} {s t u : State}

theorem refl (q : Nat) (s : State) : EntryOnly q s s :=
  ⟨⟨rfl, rfl, rfl, rfl, rfl⟩, ⟨rfl, rfl, rfl, rfl⟩, ⟨rfl, rfl, rfl, rfl, rfl, rfl⟩, rfl, rfl, rfl, rfl, rfl, rfl, rfl, rfl, ⟨_, _, _, rfl⟩, fieldsBut_refl _ _⟩

theorem setF (h : EntryOnly q s t) {f : Fld} (v : Nat) (hf : f ∈ completionFields q) : EntryOnly q s (Machine.setF t f v) :=
  ⟨h.waiting, h.sensing, h.driving, h.fw, h.evr, h.flc, h.sec, h.upd, h.bus, h.inbox, h.time, h.cmd, fieldsBut_setF hf h.fields⟩

theorem setCmd (h : EntryOnly q s t) (win : Mem) (ecc vecs : Assoc Nat) :
    EntryOnly q s (Machine.setCmd { t.cmd with win := win, ecc := ecc, vecs := vecs } t) := by
  obtain ⟨w, e, v, hc⟩ := h.cmd
  refine ⟨h.waiting, h.sensing, h.driving, h.fw, h.evr, h.flc, h.sec, h.upd, h.bus, h.inbox, h.time, ⟨win, ecc, vecs, ?_⟩, fieldsBut_with h.fields rfl⟩
  change ({ t.cmd with win := win, ecc := ecc, vecs := vecs } : CmdState) = _
  rw [hc]

theorem injectFired (k : Nat) (h : EntryOnly q s t) : EntryOnly q s (Machine.injectFired k t) :=
  ((h.setF (f := FLC.INJECT.ARM) _ (by simp [completionFields])).setF (f := FLC.INJECT_STATUS.FIRED) _ (by simp [completionFields])).setF
    (f := FLC.INJECT_STATUS.LAST_CHECKER) _ (by simp [completionFields])

theorem sramStore (w n : Nat) (h : EntryOnly q s t) : EntryOnly q s (Machine.sramStore w n t) := by
  obtain ⟨ecc, u, hu, he⟩ := sramStore_eq w n t
  rw [he]
  rcases hu with rfl | rfl
  · exact h.setCmd _ ecc _
  · exact (h.injectFired 6).setCmd _ ecc _

theorem complete (seq status applied detail : Nat) (irq : Bool) (h : EntryOnly q s t) :
    EntryOnly q s (Machine.complete q seq status applied detail irq t) := by
  refine complete_of_entryPut (P := EntryOnly q s) ?_ (fun u n hu => hu.setF n (by simp [completionFields])) (fun u v hu => hu.setCmd _ _ _)
  exact ((h.setCmd _ _ _).sramStore _ _).setF _ (by simp [completionFields])

theorem ringRoom (h : EntryOnly q s t) : EntryOnly q s (Machine.ringRoom q t) := by
  unfold Machine.ringRoom
  split
  · exact h.setF _ (by simp [completionFields])
  · exact h

theorem finish {p : Pkt} (hp : p.ring = q) (status applied detail : Nat) (h : EntryOnly q s t) :
    EntryOnly q s (Machine.finish p status applied detail t) := by
  subst hp
  exact (h.complete _ _ _ _ _).ringRoom

theorem sta (h : EntryOnly q s t) : t.sta = s.sta := by
  obtain ⟨-, -, -, -, hs, -⟩ := h.driving
  exact hs

theorem pkts (h : EntryOnly q s t) : t.cmd.pkts = s.cmd.pkts := by
  obtain ⟨w, e, v, hc⟩ := h.cmd
  rw [hc]

theorem getF (h : EntryOnly q s t) {f : Fld} (hf : f.key ∉ (completionFields q).map (fun g => g.key)) (ho : f.key ≠ TST.CTRL.OVERRIDE.key) :
    Machine.getF t f = Machine.getF s f := h.fields f hf ho

end EntryOnly

theorem entryWritten_finish {p : Pkt} {q status applied detail : Nat} (hp : p.ring = q) (s : State) :
    entryWritten s q p.seq status applied detail (finish p status applied detail s) := by
  subst hp
  exact entryWritten_ringRoom (entryWritten_complete ..)

/-! ### The state in which a packet is judged (R349, R354) -/

/-- Judging counts a correctable slot, moves HEAD and EXPECT on, and takes its turn in the order of service. -/
structure JudgeKeeps (q : Nat) (s t : State) : Prop where
  waiting : waitingSame s t
  sensing : sensingSame s t
  driving : drivingSame s t
  fw : t.fw = s.fw
  evr : t.evr = s.evr
  flc : t.flc = s.flc
  sec : t.sec = s.sec
  upd : t.upd = s.upd
  bus : t.bus = s.bus
  inbox : t.inbox = s.inbox
  time : t.time = s.time
  free : t.free = s.free
  cmd : ∃ rr wctx wleft wring, t.cmd = { s.cmd with rr := rr, wctx := wctx, wleft := wleft, wring := wring }
  fields : fieldsBut (judgeFields q) s t

namespace JudgeKeeps

variable {q : Nat} {s t : State}

theorem refl (q : Nat) (s : State) : JudgeKeeps q s s :=
  ⟨⟨rfl, rfl, rfl, rfl, rfl⟩, ⟨rfl, rfl, rfl, rfl⟩, ⟨rfl, rfl, rfl, rfl, rfl, rfl⟩, rfl, rfl, rfl, rfl, rfl, rfl, rfl, rfl, rfl, ⟨_, _, _, _, rfl⟩,
    fieldsBut_refl _ _⟩

theorem setF (h : JudgeKeeps q s t) {f : Fld} (v : Nat) (hf : f ∈ judgeFields q) : JudgeKeeps q s (Machine.setF t f v) :=
  ⟨h.waiting, h.sensing, h.driving, h.fw, h.evr, h.flc, h.sec, h.upd, h.bus, h.inbox, h.time, h.free, h.cmd, fieldsBut_setF hf h.fields⟩

theorem setB (h : JudgeKeeps q s t) {f : Fld} (v : Bool) (hf : f ∈ judgeFields q) : JudgeKeeps q s (Machine.setB t f v) := h.setF _ hf

theorem setCmd (h : JudgeKeeps q s t) (rr wctx wleft wring : Nat) :
    JudgeKeeps q s (Machine.setCmd { t.cmd with rr := rr, wctx := wctx, wleft := wleft, wring := wring } t) := by
  obtain ⟨a, b, c, d, hc⟩ := h.cmd
  refine ⟨h.waiting, h.sensing, h.driving, h.fw, h.evr, h.flc, h.sec, h.upd, h.bus, h.inbox, h.time, h.free, ⟨rr, wctx, wleft, wring, ?_⟩,
    fieldsBut_with h.fields rfl⟩
  change ({ t.cmd with rr := rr, wctx := wctx, wleft := wleft, wring := wring } : CmdState) = _
  rw [hc]

theorem served (h : JudgeKeeps q s t) : JudgeKeeps q s (Machine.served q t) := by
  unfold Machine.served
  split
  · exact h
  · split
    · exact h.setCmd _ _ _ _
    · exact h.setCmd _ _ _ _

theorem slotState (q : Nat) (s : State) : JudgeKeeps q s (Machine.slotState s q) := by
  unfold Machine.slotState
  split
  · exact (refl q s).setF _ (by simp [judgeFields])
  · exact refl q s

theorem seqCheck {p : Pkt} (hp : p.ring = q) (h : JudgeKeeps q s t) : JudgeKeeps q s (Machine.seqCheck p t).1 := by
  subst hp
  unfold Machine.seqCheck
  extract_lets ok s1
  have h1 : JudgeKeeps p.ring s s1 := (h.setF _ (by simp [judgeFields])).setB _ (by simp [judgeFields])
  clear_value ok s1
  dsimp only
  split
  · exact h1
  · exact h1.setF _ (by simp [judgeFields])

theorem judged {p : Pkt} (hp : p.ring = q) (s : State) : JudgeKeeps q s (Machine.judged s q p) :=
  ((slotState q s).served.setF _ (by simp [judgeFields])).seqCheck hp

theorem sta (h : JudgeKeeps q s t) : t.sta = s.sta := by
  obtain ⟨-, -, -, -, hs, -⟩ := h.driving
  exact hs

theorem pkts (h : JudgeKeeps q s t) : t.cmd.pkts = s.cmd.pkts := by
  obtain ⟨a, b, c, d, hc⟩ := h.cmd
  rw [hc]

theorem nextId (h : JudgeKeeps q s t) : t.cmd.nextId = s.cmd.nextId := by
  obtain ⟨a, b, c, d, hc⟩ := h.cmd
  rw [hc]

theorem getF (h : JudgeKeeps q s t) {f : Fld} (hf : f.key ∉ (judgeFields q).map (fun g => g.key)) (ho : f.key ≠ TST.CTRL.OVERRIDE.key) :
    Machine.getF t f = Machine.getF s f := h.fields f hf ho

end JudgeKeeps

end Sys2Proof.Machine
end

section
/-! O51. The packet at a ring's head is judged in the order of Table 15-2 (R349 to R354). -/

namespace Sys2Proof.Machine

/-- The fields of a ring that judging moves on. -/
def turnFields (q : Nat) : List Fld := [CMD.RING_HEAD.HEAD q, CMD.RING_EXPECT.SEQ q, CMD.RING_STATUS.SEQ_VALID q, CMD.RING_STATUS.BAD_SEQ q]

theorem turnFields_free {q : Nat} (hq : q < 72) : ∀ f ∈ turnFields q, f.key ∉ (completionFields q).map (fun g => g.key) ∧ f.key ≠ TST.CTRL.OVERRIDE.key ∧
    f.key ≠ FLC.STATUS.QUEUE_OVF.key ∧ (FW.CORE_STATUS.CORRECTED 0).key < f.key := by
  simp only [turnFields, completionFields, List.not_mem_nil, List.map_cons, List.map_nil, List.mem_cons, or_false, fld, FW.CORE_STATUS.CORRECTED, CMD.RING_HEAD.HEAD, CMD.RING_EXPECT.SEQ, CMD.RING_STATUS.SEQ_VALID,
    CMD.RING_STATUS.BAD_SEQ, CMD.RING_CQ_TAIL.CQ_TAIL, CMD.LAST_APPLIED.SEQ, CMD.RING_STATUS.STATE, FLC.INJECT.ARM, FLC.INJECT_STATUS.FIRED,
    FLC.INJECT_STATUS.LAST_CHECKER, TST.CTRL.OVERRIDE, FLC.STATUS.QUEUE_OVF]
  rintro f (rfl | rfl | rfl | rfl)
  all_goals
    refine ⟨?_, ?_, ?_, ?_⟩ <;> dsimp only <;> omega

/-- SEQ is as the ring expects it (R354). -/
def inSeq (a : State) (q : Nat) (p : Pkt) : Prop := getB a (CMD.RING_STATUS.SEQ_VALID q) = false ∨ p.seq = getF a (CMD.RING_EXPECT.SEQ q)

/-- The ring's turn has been taken and HEAD moved on: what SEQ is judged in. -/
def headMoved (a : State) (q : Nat) (p : Pkt) : State :=
  setF (served q (slotState a q)) (CMD.RING_HEAD.HEAD q) ((ringHead a q + p.slots) % ringSize a q)

theorem getF_headMoved {a : State} {q : Nat} {p : Pkt} {f : Fld} (hf : (FW.CORE_STATUS.CORRECTED 0).key < f.key)
    (hh : f.key ≠ (CMD.RING_HEAD.HEAD q).key) : getF (headMoved a q p) f = getF a f :=
  (getF_setF_ne _ _ hh).trans ((getF_served ..).trans (getF_slotState a q hf))

theorem turn_keys (q : Nat) : (CMD.RING_EXPECT.SEQ q).key ≠ (CMD.RING_HEAD.HEAD q).key ∧ (CMD.RING_STATUS.SEQ_VALID q).key ≠ (CMD.RING_HEAD.HEAD q).key ∧
    (CMD.RING_STATUS.BAD_SEQ q).key ≠ (CMD.RING_HEAD.HEAD q).key ∧ (CMD.RING_EXPECT.SEQ q).key ≠ (CMD.RING_STATUS.SEQ_VALID q).key ∧
    (CMD.RING_STATUS.BAD_SEQ q).key ≠ (CMD.RING_EXPECT.SEQ q).key ∧ (CMD.RING_STATUS.BAD_SEQ q).key ≠ (CMD.RING_STATUS.SEQ_VALID q).key := by
  simp only [fld, CMD.RING_HEAD.HEAD, CMD.RING_EXPECT.SEQ, CMD.RING_STATUS.SEQ_VALID, CMD.RING_STATUS.BAD_SEQ]
  omega

theorem seqCheck_headMoved {a : State} {q : Nat} {p : Pkt} (hq : q < 72) (hp : p.ring = q) :
    (seqCheck p (headMoved a q p)).2 = true ↔ inSeq a q p := by
  subst hp
  obtain ⟨k1, k2, -⟩ := turn_keys p.ring
  have hv : getB (headMoved a p.ring p) (CMD.RING_STATUS.SEQ_VALID p.ring) = getB a (CMD.RING_STATUS.SEQ_VALID p.ring) :=
    getB_congr (getF_headMoved (turnFields_free hq _ (by simp [turnFields])).2.2.2 k2)
  have he : getF (headMoved a p.ring p) (CMD.RING_EXPECT.SEQ p.ring) = getF a (CMD.RING_EXPECT.SEQ p.ring) :=
    getF_headMoved (turnFields_free hq _ (by simp [turnFields])).2.2.2 k1
  unfold seqCheck inSeq
  simp [hv, he]

/-- What judging leaves in the ring's registers (R349, R354). -/
structure Turned (a : State) (q : Nat) (p : Pkt) (t : State) : Prop where
  valid : getB t (CMD.RING_STATUS.SEQ_VALID q) = true
  expect : getF t (CMD.RING_EXPECT.SEQ q) = (p.seq + 1) % 2 ^ 32
  head : getF t (CMD.RING_HEAD.HEAD q) = (ringHead a q + p.slots) % ringSize a q % 4096
  bad : ¬ inSeq a q p → getF t (CMD.RING_STATUS.BAD_SEQ q) = min (getF a (CMD.RING_STATUS.BAD_SEQ q) + 1) 255

theorem judged_eq (a : State) (q : Nat) (p : Pkt) : judged a q p = (seqCheck p (headMoved a q p)).1 := rfl

theorem judged_turned {a : State} {q : Nat} {p : Pkt} (hq : q < 72) (hp : p.ring = q) : Turned a q p (judged a q p) := by
  have hok := seqCheck_headMoved (a := a) hq hp
  obtain ⟨k1, k2, k3, k4, k5, k6⟩ := turn_keys q
  have hhead : getF (headMoved a q p) (CMD.RING_HEAD.HEAD q) = (ringHead a q + p.slots) % ringSize a q % 4096 := getF_setF_self ..
  have hbad : getF (headMoved a q p) (CMD.RING_STATUS.BAD_SEQ q) = getF a (CMD.RING_STATUS.BAD_SEQ q) :=
    getF_headMoved (turnFields_free hq _ (by simp [turnFields])).2.2.2 k3
  rw [judged_eq]
  generalize headMoved a q p = u at *
  subst hp
  unfold seqCheck at hok ⊢
  extract_lets ok s1 at hok ⊢
  have h1 : getB s1 (CMD.RING_STATUS.SEQ_VALID p.ring) = true ∧ getF s1 (CMD.RING_EXPECT.SEQ p.ring) = (p.seq + 1) % 2 ^ 32 ∧
      getF s1 (CMD.RING_HEAD.HEAD p.ring) = getF u (CMD.RING_HEAD.HEAD p.ring) ∧
      getF s1 (CMD.RING_STATUS.BAD_SEQ p.ring) = getF u (CMD.RING_STATUS.BAD_SEQ p.ring) := by
    refine ⟨getB_setB_self _ _ _ rfl, ?_, ?_, ?_⟩
    · rw [getF_setB_ne _ _ k4, getF_setF_self]
      exact Nat.mod_mod _ (2 ^ 32)
    · rw [getF_setB_ne _ _ k2.symm, getF_setF_ne _ _ k1.symm]
    · rw [getF_setB_ne _ _ k6, getF_setF_ne _ _ k5]
  clear_value ok s1
  obtain ⟨a1, a2, a3, a4⟩ := h1
  dsimp only at hok ⊢
  split
  · next h => exact ⟨a1, a2, a3.trans hhead, fun hn => absurd (hok.1 h) hn⟩
  · refine ⟨(getB_setF_ne _ _ k6.symm).trans a1, (getF_setF_ne _ _ k5.symm).trans a2, (getF_setF_ne _ _ k3.symm).trans (a3.trans hhead), fun _ => ?_⟩
    rw [getF_incF_self, a4, hbad]
    rfl

theorem Turned.of_getF {a : State} {q : Nat} {p : Pkt} {s t : State} (h : Turned a q p s) (hf : ∀ f ∈ turnFields q, getF t f = getF s f) :
    Turned a q p t :=
  ⟨(getB_congr (hf _ (by simp [turnFields]))).trans h.valid, (hf _ (by simp [turnFields])).trans h.expect, (hf _ (by simp [turnFields])).trans h.head,
    fun hn => (hf _ (by simp [turnFields])).trans (h.bad hn)⟩

/-- A packet that a check refuses completes with the check's status, and nothing else is done. -/
structure Refused (a : State) (q : Nat) (p : Pkt) (st d : Nat) (t : State) : Prop where
  entry : entryWritten a q p.seq st 0 d t
  same : serviceSame a t
  inbox : t.inbox = a.inbox
  turned : Turned a q p t

theorem refused_finish {a : State} {q : Nat} {p : Pkt} (hq : q < 72) (hp : p.ring = q) (st d : Nat) : Refused a q p st d (finish p st 0 d (judged a q p)) := by
  have hj := JudgeKeeps.judged hp a
  have hf := (EntryOnly.refl q (judged a q p)).finish hp st 0 d
  refine ⟨entryWritten_of_judged hp (entryWritten_finish hp _), ?_, hf.inbox.trans hj.inbox, (judged_turned hq hp).of_getF fun f h => ?_⟩
  · rw [finish, hp]
    exact serviceSame_ringRoom (serviceSame_complete (serviceSame_judged hp))
  · obtain ⟨h1, h2, -⟩ := turnFields_free hq f h
    exact hf.getF h1 h2

theorem refused_settle {a : State} {q : Nat} {p : Pkt} {st d : Nat} {t : State} (hq : q < 72) (ha : noEnd a) (h : Refused a q p st d t) :
    Refused a q p st d (settle t) := by
  have hn : noEnd t := by
    obtain ⟨-, -, ⟨-, -, -, -, hsta, -⟩, -⟩ := h.same
    exact noEnd_congr ha hsta
  exact ⟨entryWritten_settled hn h.entry, serviceSame_settle h.same ha, (settle_inbox hn).trans h.inbox,
    h.turned.of_getF fun f hf => getF_settle _ hn (turnFields_free hq f hf).2.1⟩

/-- A ring that halts (R353). -/
structure Halted (a : State) (q : Nat) (p : Pkt) (info : Nat) (t : State) : Prop where
  state : ringSt t q = ringHalted
  entry : entryWritten a q p.seq 0x0010 0 0 t
  told : roomMsg a → messageWaits 0xC0 (0xC00 + q) info t
  head : getF t (CMD.RING_HEAD.HEAD q) = ringHead a q
  same : serviceSame a t

theorem state_keys (q : Nat) : (CMD.RING_STATUS.STATE q).key ≠ FLC.STATUS.QUEUE_OVF.key ∧ (CMD.RING_STATUS.STATE q).key ≠ TST.CTRL.OVERRIDE.key ∧
    (CMD.RING_CQ_TAIL.CQ_TAIL q).key ≠ FLC.STATUS.QUEUE_OVF.key ∧ (CMD.RING_CQ_TAIL.CQ_TAIL q).key ≠ (CMD.RING_STATUS.STATE q).key ∧
    (CMD.RING_HEAD.HEAD q).key ≠ (CMD.RING_STATUS.STATE q).key := by
  simp only [fld, CMD.RING_STATUS.STATE, CMD.RING_CQ_TAIL.CQ_TAIL, CMD.RING_HEAD.HEAD, FLC.STATUS.QUEUE_OVF, TST.CTRL.OVERRIDE]
  omega

/-- The same, from a state that differs from `a` in a counter alone. -/
theorem haltRing_shown {a s : State} {q : Nat} {p : Pkt} (hq : q < 72) (hp : p.ring = q) (hs : serviceSame a s) (hin : s.inbox = a.inbox)
    (hc : ∀ f : Fld, (FW.CORE_STATUS.CORRECTED 0).key < f.key → getF s f = getF a f) (bad : Bool) (i : Nat) :
    Halted a q p (i + 2 ^ 31 * b2n bad) (haltRing p bad i s) := by
  subst hp
  obtain ⟨k1, k2, k3, k4, k5⟩ := state_keys p.ring
  obtain ⟨f1, -, f3, f4⟩ := turnFields_free hq (CMD.RING_HEAD.HEAD p.ring) (by simp [turnFields])
  have hcq : ∀ f ∈ cqFields p.ring, getF s f = getF a f := fun f hf => hc f (by
    revert f
    simp only [cqFields, List.forall_mem_cons, List.not_mem_nil, false_imp_iff, implies_true, and_true, fld, FW.CORE_STATUS.CORRECTED,
      CMD.RING_CQ.CQ_BASE, CMD.RING_CFG.SIZE_LOG2, CMD.RING_CQ_TAIL.CQ_TAIL]
    omega)
  have he := entryWritten_complete p.ring p.seq stBadCrc 0 0 p.irq s
  have hk := (EntryOnly.refl p.ring s).complete p.seq stBadCrc 0 0 p.irq
  have hsame := serviceSame_complete (q := p.ring) (seq := p.seq) (status := stBadCrc) (applied := 0) (detail := 0) (irq := p.irq) hs
  unfold haltRing
  dsimp only
  generalize complete p.ring p.seq stBadCrc 0 0 p.irq s = u at *
  have hset : getF (setRingSt p.ring ringHalted u) (CMD.RING_STATUS.STATE p.ring) = ringHalted := getF_setF_self ..
  have hother : ∀ f : Fld, f.key ≠ (CMD.RING_STATUS.STATE p.ring).key → getF (setRingSt p.ring ringHalted u) f = getF u f := fun f hf => getF_setF_ne _ _ hf
  have hcmd : (setRingSt p.ring ringHalted u).cmd = u.cmd ∧ (setRingSt p.ring ringHalted u).inbox = u.inbox := ⟨rfl, rfl⟩
  have hserv : serviceSame a (setRingSt p.ring ringHalted u) := hsame
  generalize setRingSt p.ring ringHalted u = v at *
  have hroom : roomMsg a → roomMsg v := roomMsg_congr (hcmd.2.trans (hk.inbox.trans hin))
  refine ⟨?_, ?_, fun hr => messageWaits_sendFault (hroom hr), ?_, ?_⟩
  · unfold ringSt
    rw [getF_sendFault _ _ _ _ k1]
    exact hset
  · refine entryWritten_congr hcq ⟨?_, ?_⟩
    · rw [sendFault_cmd, hcmd.1]
      exact he.1
    · rw [getF_sendFault _ _ _ _ k3, hother _ k4]
      exact he.2
  · rw [getF_sendFault _ _ _ _ f3, hother _ k5, hk.getF f1 (turnFields_free hq _ (by simp [turnFields])).2.1, hc _ f4]
    rfl
  · obtain ⟨w1, w2, w3, w4⟩ := hserv
    exact ⟨waitingSame_sendFault.2 w1, by simpa [sensingSame] using w2, by simpa [drivingSame] using w3, by rw [sendFault_cmd]; exact w4⟩

theorem halted_settle {a : State} {q : Nat} {p : Pkt} {info : Nat} {t : State} (hq : q < 72) (ha : noEnd a) (h : Halted a q p info t) :
    Halted a q p info (settle t) := by
  have hn : noEnd t := by
    obtain ⟨-, -, ⟨-, -, -, -, hsta, -⟩, -⟩ := h.same
    exact noEnd_congr ha hsta
  exact ⟨(getF_settle _ hn (state_keys q).2.1).trans h.state, entryWritten_settled hn h.entry, fun hr => (messageWaits_settle hn).2 (h.told hr),
    (getF_settle _ hn (turnFields_free hq _ (by simp [turnFields])).2.1).trans h.head, serviceSame_settle h.same ha⟩

end Sys2Proof.Machine
end

section
/-! O51, concluded. The answers at the head of a ring (Table 15-2). -/

namespace Sys2Proof.Machine

theorem pktOf_ring {a : State} {q : Nat} {p : Pkt} (h : p = pktOf a q) : p.ring = q := by rw [h]; rfl

theorem pktOf_op {a : State} {q : Nat} {p : Pkt} (h : p = pktOf a q) : p.op = headOp a q := by rw [h]; exact headOp_eq a q

/-- A slot that cannot be read halts the ring (R353). -/
theorem dispatchHead_unreadable {a : State} {q : Nat} {p : Pkt} {run : Pkt → State → State} (hp : p = pktOf a q)
    (h : (slotsCheck a q (headLen a q)).1 = 2) : dispatchHead q run a = haltRing p true (slotsCheck a q (headLen a q)).2 a := by
  subst hp
  unfold dispatchHead
  generalize slotsCheck a q (headLen a q) = r at *
  obtain ⟨x, i⟩ := r
  dsimp only at h
  subst h
  rfl

/-- Slots that can be read give a packet, right or wrong (R350, R353). -/
theorem dispatchHead_readable {a : State} {q : Nat} {p : Pkt} {run : Pkt → State → State} (hp : p = pktOf a q)
    (h : (slotsCheck a q (headLen a q)).1 ≤ 1) : dispatchHead q run a =
      if p.crcOk then dispatchSound p run (slotState a q) else haltRing p false (ringHead a q) (slotState a q) := by
  subst hp
  unfold dispatchHead slotState
  generalize slotsCheck a q (headLen a q) = r at *
  obtain ⟨x, i⟩ := r
  dsimp only at h ⊢
  split
  · next he =>
    injection he with h1 _
    omega
  · next c j _ he =>
    injection he with h1 _
    rw [h1]

/-- A packet out of its sequence (R354). -/
theorem dispatchSound_badSeq {a : State} {q : Nat} {p : Pkt} {run : Pkt → State → State} (hq : q < 72) (hp : p.ring = q) (h : ¬ inSeq a q p) :
    dispatchSound p run (slotState a q) = finish p stBadSeq 0 0 (judged a q p) := by
  have hhead : ringHead (slotState a q) q = ringHead a q :=
    getF_slotState a q (turnFields_free hq _ (by simp [turnFields])).2.2.2
  have hsize : ringSize (slotState a q) q = ringSize a q :=
    congrArg (2 ^ ·) (getF_slotState a q (by simp only [FW.CORE_STATUS.CORRECTED, CMD.RING_CFG.SIZE_LOG2, fld]; omega))
  have hok : (seqCheck p (headMoved a q p)).2 = false := by
    rw [← Bool.not_eq_true]
    exact fun he => h ((seqCheck_headMoved hq hp).1 he)
  rw [judged_eq]
  unfold headMoved at hok ⊢
  unfold dispatchSound
  dsimp only
  rw [hp, hhead, hsize, hok]
  rfl

/-- A row that is due acts on the packet at the head. -/
theorem packetRow_due {a : State} {q : Nat} {mine : Nat → Bool} {run : Pkt → State → State} (h : ringTurn a q = true) (hm : mine (headOp a q) = true) :
    packetRow mine q run a = dispatchHead q run a := by
  unfold packetRow
  rw [h, hm]
  rfl

theorem packetRow_idle {a : State} {q : Nat} {mine : Nat → Bool} {run : Pkt → State → State} (h : ringTurn a q = false ∨ mine (headOp a q) = false) :
    packetRow mine q run a = a := by
  unfold packetRow
  refine if_neg ?_
  rcases h with h | h <;> simp [h]

theorem checkFail_context {u : State} {p : Pkt} (h : p.ctx ≠ ctxOf p.ring) : checkFail u p = some (0x0012, 0) := if_pos h

theorem checkFail_opcode {u : State} {p : Pkt} (h : p.ctx = ctxOf p.ring) (hop : p.op ∉ opcodes) : checkFail u p = some (0x0013, 0) := by
  unfold checkFail
  rw [if_neg (not_not.2 h), if_pos (by simpa using hop)]
  rfl

theorem checkFail_slots {u : State} {p : Pkt} (h : p.ctx = ctxOf p.ring) (hop : p.op ∈ opcodes) (hs : p.slots ≠ slotsNeeded p) :
    checkFail u p = some (0x0014, 0) := by
  unfold checkFail
  rw [if_neg (not_not.2 h), if_neg (by simpa using hop), if_pos hs]
  rfl

theorem checkFail_tag {u : State} {p : Pkt} (h : p.ctx = ctxOf p.ring) (hop : p.op ∈ opcodes) (hs : p.slots = slotsNeeded p)
    (ht : p.tag ∉ tagsOf p.op) : checkFail u p = some (0x0015, 0) := by
  unfold checkFail
  rw [if_neg (not_not.2 h), if_neg (by simpa using hop), if_neg (not_not.2 hs), if_pos (by simpa using ht)]
  rfl

section
variable {dt q op key : Nat} {b c : Bool} {s a : State} (ha : a = advance dt s) (hq : q < 72) (hk : key < 2 ^ 256)
  (hb : ∀ x ∈ a.cmd.pkts, x.ring = q → x.st ≠ 3)
include ha hq hk hb

theorem answers_rowIdle (h : ringTurn a q = false ∨ rowOf op dt q b c key ≠ rowOf (headOp a q) dt q b c key) :
    Answers (rowOf op dt q b c key) s (untouched a) := by
  obtain ⟨f, mine, run, hm, he, hrow⟩ := rowOf_serves (dt := dt) (q := q) (key := key) (b := b) (c := c) op
  refine answers_untouched ha (he s) (rowOf_wf b c hq hk) ?_
  rw [hrow a hb]
  refine packetRow_idle (h.imp id fun hne => ?_)
  rw [hm]
  exact decide_eq_false fun heq => hne (rowOf_eq_iff.2 heq.symm)

/-- The row of the head's opcode, at its ring's turn, does what dispatch does. -/
theorem answers_rowDue {P : State → Prop} (ht : ringTurn a q = true) (hr : rowOf op dt q b c key = rowOf (headOp a q) dt q b c key)
    (hp : ∀ run, P (settle (dispatchHead q run a))) : Answers (rowOf op dt q b c key) s P := by
  obtain ⟨f, mine, run, hm, he, hrow⟩ := rowOf_serves (dt := dt) (q := q) (key := key) (b := b) (c := c) op
  refine answers_of ha (he s) (rowOf_wf b c hq hk) ?_
  rw [hrow a hb, packetRow_due ht (by rw [hm]; exact decide_eq_true (rowOf_eq_iff.1 hr).symm)]
  exact hp run

end

end Sys2Proof.Machine

open Sys2Proof Sys2Proof.Machine

/-- Settles O51: the halt of an unreadable or broken packet, SEQ, and the other checks in their order. -/
theorem headPacketsAreChecked : Obligations.HeadPacketsAreChecked := by
  unfold Obligations.HeadPacketsAreChecked
  intro dt q op key b c s a p row ha hq hk hp hb hrow
  subst hrow
  have hn := ha ▸ noEnd_advance dt s
  have hring := pktOf_ring hp
  refine ⟨fun h => answers_rowIdle ha hq hk hb h, fun ht hr => ?_⟩
  intro bad halted inSeq' turned
  have hhalt : ∀ info t, roomMsg a → Halted a q p info t → halted info t := fun info t hroom h => by
    obtain ⟨h1, h2, h3, h4, h5, h6, h7, h8⟩ := h
    exact ⟨h1, h2, h3 hroom, h4, h5, h6, h7, h8⟩
  have hturn : ∀ st d t, Refused a q p st d t → turned st d t := fun st d t h => by
    obtain ⟨h1, ⟨h2, h3, h4, h5⟩, h6, h7⟩ := h
    exact ⟨h1, h2, h3, h4, h6, h5, h7.valid, h7.expect, h7.head⟩
  have hslot := JudgeKeeps.slotState q a
  have hslotSame : serviceSame a (slotState a q) := ⟨hslot.waiting, hslot.sensing, hslot.driving, hslot.pkts⟩
  refine ⟨fun h hroom => ?_, fun h hcrc hroom => ?_, fun h hcrc hseq => ?_, fun hsound => ?_⟩
  · refine answers_rowDue ha hq hk hb ht hr fun run => hhalt _ _ hroom ?_
    rw [dispatchHead_unreadable hp h]
    exact halted_settle hq hn (haltRing_shown hq hring (serviceSame_refl a) rfl (fun _ _ => rfl) true _)
  · refine answers_rowDue ha hq hk hb ht hr fun run => hhalt _ _ hroom ?_
    rw [dispatchHead_readable hp h, hcrc, if_neg (by decide)]
    exact halted_settle hq hn (haltRing_shown hq hring hslotSame hslot.inbox (fun f hf => getF_slotState a q hf) false _)
  · refine answers_rowDue ha hq hk hb ht hr fun run => ?_
    rw [dispatchHead_readable hp h, hcrc, if_pos rfl, dispatchSound_badSeq hq hring hseq]
    have hf := refused_settle hq hn (refused_finish hq hring stBadSeq 0)
    exact ⟨hturn _ _ _ hf, hf.turned.bad hseq⟩
  · have hfail : ∀ st d, checkFail (judged a q p) p = some (st, d) → Answers (rowOf op dt q b c key) s (turned st d) := fun st d hc => by
      refine answers_rowDue ha hq hk hb ht hr fun run => hturn _ _ _ ?_
      rw [dispatchHead_of_soundHead hsound, dispatchSound_of_checkFail hsound hc]
      exact refused_settle hq hn (refused_finish hq hring st d)
    exact ⟨fun h => hfail _ _ (checkFail_context (hring ▸ h)), fun h hop => hfail _ _ (checkFail_opcode (hring ▸ h) hop),
      fun h hop hs => hfail _ _ (checkFail_slots (hring ▸ h) hop hs), fun h hop hs htag => hfail _ _ (checkFail_tag (hring ▸ h) hop hs htag), hfail⟩
end

section
/-! O53. A tagged packet waits for its boundary (R356 to R358). -/

namespace Sys2Proof.Machine

/-! ### A packet that passes its checks is run -/

/-- A packet that passes is run in the state in which it was judged, and then its ring's room is seen to. -/
theorem dispatchHead_of_passes {a u : State} {q : Nat} {p : Pkt} {run : Pkt → State → State} (h : passes a q p u) :
    dispatchHead q run a = ringRoom q (run p u) := by
  obtain ⟨hs, rfl, hc⟩ := h
  have hring := pktOf_ring hs.2.1
  have hhead : ringHead (slotState a q) q = ringHead a q :=
    getF_slotState a q (by simp only [FW.CORE_STATUS.CORRECTED, CMD.RING_HEAD.HEAD, fld]; omega)
  have hsize : ringSize (slotState a q) q = ringSize a q :=
    congrArg (2 ^ ·) (getF_slotState a q (by simp only [FW.CORE_STATUS.CORRECTED, CMD.RING_CFG.SIZE_LOG2, fld]; omega))
  have hseq := seqCheck_of_soundHead hs ((ringHead a q + p.slots) % ringSize a q)
  rw [dispatchHead_of_soundHead hs]
  unfold judged at hc ⊢
  unfold dispatchSound
  dsimp only
  rw [hring, hhead, hsize, hseq, hc]
  rfl

theorem packetRow_of_passes {a u : State} {q : Nat} {p : Pkt} {mine : Nat → Bool} {run : Pkt → State → State} (h : passes a q p u)
    (hm : mine p.op = true) : packetRow mine q run a = ringRoom q (run p u) := by
  obtain ⟨⟨ht, hp, -⟩, -⟩ := id h
  rw [packetRow_due ht (by rw [← pktOf_op hp]; exact hm), dispatchHead_of_passes h]

theorem passes_judge {a u : State} {q : Nat} {p : Pkt} (h : passes a q p u) : JudgeKeeps q a u := by
  obtain ⟨hs, rfl, -⟩ := h
  exact .judged (pktOf_ring hs.2.1) a

theorem ringRoom_keeps (q : Nat) (s : State) : (ringRoom q s).cmd = s.cmd ∧ (ringRoom q s).pend = s.pend ∧ (ringRoom q s).acts = s.acts ∧
    (ringRoom q s).sta = s.sta ∧ (ringRoom q s).bal = s.bal ∧ (ringRoom q s).inbox = s.inbox ∧ waitingSame s (ringRoom q s) ∧
    fieldsBut [CMD.RING_STATUS.STATE q] s (ringRoom q s) := by
  unfold ringRoom
  split
  · exact ⟨rfl, rfl, rfl, rfl, rfl, rfl, ⟨rfl, rfl, rfl, rfl, rfl⟩, fieldsBut_setF (by simp) (fieldsBut_refl _ _)⟩
  · exact ⟨rfl, rfl, rfl, rfl, rfl, rfl, ⟨rfl, rfl, rfl, rfl, rfl⟩, fieldsBut_refl _ _⟩

/-! ### The gate does not ask what is outstanding -/

theorem gatePut_setCmd (x : OutPkt) (k v : Nat) (c : CmdState) (s : State) : gatePut x k v (setCmd c s) = setCmd c (gatePut x k v s) := by
  have hp : ∀ w p, planState { setCmd c s with wrote := w, pend := p } = planState { s with wrote := w, pend := p } := fun _ _ => rfl
  unfold gatePut reactNote
  dsimp only
  rw [show (setCmd c s).wrote = s.wrote from rfl, show (setCmd c s).pend = s.pend from rfl, hp]
  split
  · rfl
  · split
    · rfl
    · split <;> rfl

theorem gateItem_setCmd (x : OutPkt) (i : Nat × Nat × Nat) (c : CmdState) (s : State) : gateItem x i (setCmd c s) = setCmd c (gateItem x i s) := by
  unfold gateItem
  split
  · rfl
  · generalize maskFields i.1 i.2.2 = l
    induction l generalizing s with
    | nil => rfl
    | cons f r ih =>
      rw [List.foldl_cons, List.foldl_cons]
      dsimp only
      rw [show readBack (setCmd c s) (32 * i.1 + f.lo) = readBack s (32 * i.1 + f.lo) from rfl, gatePut_setCmd]
      exact ih _

theorem gateItems_setCmd (x : OutPkt) (l : List (Nat × Nat × Nat)) (c : CmdState) (s : State) :
    l.foldl (fun v i => gateItem x i v) (setCmd c s) = setCmd c (l.foldl (fun v i => gateItem x i v) s) := by
  induction l generalizing s with
  | nil => rfl
  | cons i r ih => rw [List.foldl_cons, List.foldl_cons, gateItem_setCmd, ih]

/-! ### Taking a packet -/

/-- The packet is outstanding. -/
def out (p : Pkt) (k : Option ActKind) (s : State) : State :=
  setCmd { s.cmd with pkts := s.cmd.pkts ++ [taken s p k], nextId := s.cmd.nextId + 1 } s

theorem outstand_eq (p : Pkt) (k : Option ActKind) (s : State) : outstand p 0 k s = out p k s := rfl

theorem pktGet_out {p : Pkt} {k : Option ActKind} {s : State} (h : ∀ x ∈ s.cmd.pkts, x.id < s.cmd.nextId) :
    pktGet (out p k s) s.cmd.nextId = some (taken s p k) := by
  have hnone : s.cmd.pkts.find? (fun x => decide (x.id = s.cmd.nextId)) = none := List.find?_eq_none.2 fun x hx => by
    have := h x hx
    simp only [decide_eq_true_eq]
    omega
  change (s.cmd.pkts ++ [taken s p k]).find? (fun x => decide (x.id = s.cmd.nextId)) = _
  rw [List.find?_append, hnone]
  exact List.find?_cons_of_pos (p := fun (x : OutPkt) => decide (x.id = s.cmd.nextId)) (decide_eq_true (show (taken s p k).id = s.cmd.nextId from rfl))

/-- A packet is not in its own way. -/
theorem tagClash_out (p : Pkt) (k : Option ActKind) (s : State) : tagClash (out p k s) (taken s p k) = tagClash s (taken s p k) := by
  have hb : (out p k s).cmd.pkts.filter (fun y => y.st == 0 && decide (y.id < (taken s p k).id)) =
      s.cmd.pkts.filter (fun y => y.st == 0 && decide (y.id < (taken s p k).id)) := by
    have hself : [taken s p k].filter (fun y => y.st == 0 && decide (y.id < (taken s p k).id)) = [] := by
      rw [List.filter_singleton]
      simp
    change (s.cmd.pkts ++ [taken s p k]).filter _ = _
    rw [List.filter_append, hself, List.append_nil]
  unfold tagClash
  rw [hb]
  rfl

theorem gated_out {p : Pkt} {k : Option ActKind} {s t : State} (h : gated (taken s p k) (out p k s) t) : gated (taken s p k) s t := by
  obtain ⟨h1, h2, h3, h4, h5, h6⟩ := h
  refine ⟨h1, h2, h3, fun ho => (h4 ho).trans ?_, h5, h6⟩
  unfold out
  rw [gateItems_setCmd]
  rfl

/-- What taking a tagged packet shows (R356 to R358). -/
theorem tagged_shown {p : Pkt} {k : Option ActKind} {s : State} (h : ∀ x ∈ s.cmd.pkts, x.id < s.cmd.nextId) :
    takenTagged s p k (tagged p k s) ∧ (tagged p k s).sta = s.sta := by
  have he : tagged p k s = if tagClash s (taken s p k) then out p k s else gateAll (taken s p k) (out p k s) := by
    unfold tagged tryGate
    rw [outstand_eq, pktGet_out h]
    dsimp only
    rw [tagClash_out]
    cases tagClash s (taken s p k)
    · exact if_pos ⟨rfl, rfl⟩
    · exact if_neg fun hc => absurd hc.2 (by decide)
  rw [he]
  cases hc : tagClash s (taken s p k)
  · rw [if_neg (by decide)]
    obtain ⟨g1, g2⟩ := gateAll_gated (x := taken s p k) (s := out p k s) (List.mem_append_right _ (List.mem_singleton_self _))
    have hn : (gateAll (taken s p k) (out p k s)).cmd.nextId = s.cmd.nextId + 1 := by
      rw [gateAll_eq]
      have h1 := gateValues_keeps (taken s p k) (out p k s)
      have h2 := gateAction_shown (taken s p k) (gateValues (taken s p k) (out p k s))
      change (gateAction (taken s p k) (gateValues (taken s p k) (out p k s))).cmd.nextId = _
      rw [h2.2.1, h1.1]
      rfl
    exact ⟨⟨hn, fun _ => gated_out g1, fun hx => absurd (hc.symm.trans hx) (by decide)⟩, g2⟩
  · rw [if_pos rfl]
    exact ⟨⟨rfl, fun hx => absurd (hc.symm.trans hx) (by decide), fun _ => ⟨List.mem_append_right _ (List.mem_singleton_self _), ⟨rfl, rfl, rfl, rfl, rfl⟩⟩⟩, rfl⟩

theorem takenTagged_congr {p : Pkt} {k : Option ActKind} {u s t : State} (h : takenTagged u p k s) (hc : t.cmd = s.cmd) (hw : waitingSame s t) :
    takenTagged u p k t := by
  obtain ⟨w1, w2, w3, w4, w5⟩ := hw
  obtain ⟨h1, h2, h3⟩ := h
  refine ⟨by rw [hc]; exact h1, fun hx => ?_, fun hx => ?_⟩
  · have hg := h2 hx
    unfold gated at hg ⊢
    rw [hc, w2, w5]
    exact hg
  · obtain ⟨g1, g2, g3, g4, g5, g6⟩ := h3 hx
    exact ⟨by rw [hc]; exact g1, w1.trans g2, w2.trans g3, w3.trans g4, w4.trans g5, w5.trans g6⟩

section
variable {dt q : Nat} {s a u : State} {p : Pkt} (ha : a = advance dt s) (hw : waitingOk a) (hp : passes a q p u)
include ha hw hp

/-- Every row that takes its packet as tagged. -/
theorem answers_tagged {row : Instr} {mine : Nat → Bool} {run : Pkt → State → State} {k : Option ActKind}
    (he : exec row s = act row dt (packetRow mine q run) s) (hwf : row.wf = true) (hm : mine p.op = true) (hr : run p u = tagged p k u) :
    Answers row s (takenTagged u p k) := by
  have hj := passes_judge hp
  have hid : ∀ x ∈ u.cmd.pkts, x.id < u.cmd.nextId := by
    rw [hj.pkts, hj.nextId]
    exact hw.2.2.2.2.2.2
  refine answers_eq ha he hwf ((packetRow_of_passes hp hm).trans (congrArg _ hr)) ?_
  obtain ⟨h1, h2⟩ := tagged_shown (p := p) (k := k) hid
  obtain ⟨r1, -, -, r4, -, -, r7, -⟩ := ringRoom_keeps q (tagged p k u)
  have hn : noEnd (ringRoom q (tagged p k u)) := noEnd_congr (ha ▸ noEnd_advance dt s) (r4.trans (h2.trans hj.sta))
  exact takenTagged_congr (takenTagged_congr h1 r1 r7) (settle_cmd hn) ((waitingSame_settle hn).2 ⟨rfl, rfl, rfl, rfl, rfl⟩)

end

/-! ### What the checks say of a packet that passes them -/

/-- Judging touches no register beyond the rings'. -/
theorem getB_judge {a u : State} {q : Nat} {p : Pkt} (hq : q < 72) (hp : passes a q p u) {f : Fld} (hf : SEC.STATUS.CONF.key ≤ f.key)
    (ho : f.key ≠ TST.CTRL.OVERRIDE.key) : getB u f = getB a f := by
  have hjk : ∀ g ∈ judgeFields q, g.key < SEC.STATUS.CONF.key := by
    simp only [judgeFields, List.mem_cons, List.not_mem_nil, or_false, FW.CORE_STATUS.CORRECTED, CMD.RING_HEAD.HEAD, CMD.RING_EXPECT.SEQ,
      CMD.RING_STATUS.SEQ_VALID, CMD.RING_STATUS.BAD_SEQ, SEC.STATUS.CONF, fld]
    rintro f (rfl | rfl | rfl | rfl | rfl) <;> dsimp only <;> omega
  refine getB_congr ((passes_judge hp).getF (fun hm => ?_) ho)
  obtain ⟨g, hg, he⟩ := List.mem_map.1 hm
  exact absurd he (Nat.ne_of_lt (Nat.lt_of_lt_of_le (hjk g hg) hf))

/-- Each check of Table 15-2 has passed. -/
structure ChecksPass (u : State) (p : Pkt) : Prop where
  rights : rightsFail u p = none
  safe : safeFail u p = none
  param : paramFail u p = none
  own : ownFail u p = none
  tag : p.tag ∈ tagsOf p.op

theorem checksPass {u : State} {p : Pkt} (h : checkFail u p = none) : ChecksPass u p := by
  unfold checkFail at h
  split at h
  · exact absurd h (by simp)
  · split at h
    · exact absurd h (by simp)
    · split at h
      · exact absurd h (by simp)
      · split at h
        · exact absurd h (by simp)
        · next htag =>
          split at h
          · exact absurd h (by simp)
          · split at h
            · exact absurd h (by simp)
            · split at h
              · exact absurd h (by simp)
              · exact ⟨by assumption, by assumption, by assumption, h, by simpa using htag⟩

/-- A partition is not assigned against Table 17-2. -/
theorem rights_assign {u : State} {p : Pkt} (h : rightsFail u p = none) (hop : p.op = 0x23) :
    assignDenied u (p.at 16) (p.at 17) (p.num 20 4) = false := by
  unfold rightsFail at h
  split at h
  · rw [hop] at h
    simp at h
  · split at h
    · exact absurd h (by simp)
    · rw [hop] at h
      simpa using h

theorem fields_assign {u : State} {p : Pkt} (h : paramFail u p = none) (hop : p.op = 0x23) : 1 ≤ p.at 16 ∧ p.at 16 ≤ 16 := by
  have hf : fieldsOk u p = true := by
    unfold paramFail at h
    split at h
    · exact absurd h (by simp)
    · next hn =>
      simp only [Bool.not_eq_true', Bool.not_eq_false, Bool.and_eq_true] at hn
      exact hn.2
  unfold fieldsOk at hf
  rw [hop] at hf
  simp only [Bool.and_eq_true, decide_eq_true_eq] at hf
  exact ⟨hf.1.1.1, hf.1.1.2⟩

theorem own_assign {u : State} {p : Pkt} (h : ownFail u p = none) (hop : p.op = 0x23) : scrubbing u (p.at 16) = false := by
  unfold ownFail at h
  rw [hop] at h
  simpa using h

/-- Table 17-2 for a packet that passes: what changes an assignment is done at the boundary, and nothing else. -/
theorem assignCheck_passes {u : State} {x v n : Nat} (hs : scrubbing u x = false) (hd : assignDenied u x v n = false) :
    (v = 1 → (assignCheck u x v n).2 = !partAssigned u x) ∧ (v = 0 → (assignCheck u x v n).2 = partAssigned u x) := by
  unfold assignDenied at hd
  unfold assignCheck
  generalize partMap u x = m at *
  generalize tenantOf u x = o at *
  generalize unscrubbed u x = w at *
  generalize partAssigned u x = b at *
  rw [hs]
  cases b
  · refine ⟨fun hv => ?_, fun hv => by simp [hv]⟩
    obtain ⟨hm, hw⟩ : m ≠ 0 ∧ ¬(w = true ∧ o ≠ n) := by simpa [hv] using hd
    simp [hv, hm, hw]
  · refine ⟨fun hv => ?_, fun hv => by simp [hv]⟩
    simp only [hv, Bool.false_eq_true, if_false, if_true]
    split <;> simp

/-! ### A key that cannot be opened (R411) -/

theorem unwrapFail_shown (ctx gen : Nat) (s : State) : (roomMsg s → messageWaits 0xE2 0xE20 (ctx + 256 * gen) (unwrapFail ctx gen s)) ∧
    getB (unwrapFail ctx gen s) SEC.STATUS.UNWRAP_FAIL = true ∧ waitingSame s (unwrapFail ctx gen s) ∧ drivingSame s (unwrapFail ctx gen s) ∧
    ∀ f : Fld, f.key ≠ SEC.STATUS.UNWRAP_FAIL.key → f.key ≠ FLC.STATUS.QUEUE_OVF.key → getF (unwrapFail ctx gen s) f = getF s f := by
  have h1 : getB (setB s SEC.STATUS.UNWRAP_FAIL true) SEC.STATUS.UNWRAP_FAIL = true := getB_setB_self _ _ _ rfl
  have h2 : (setB s SEC.STATUS.UNWRAP_FAIL true).inbox = s.inbox ∧ waitingSame s (setB s SEC.STATUS.UNWRAP_FAIL true) ∧
      unitsSame s (setB s SEC.STATUS.UNWRAP_FAIL true) := ⟨rfl, ⟨rfl, rfl, rfl, rfl, rfl⟩, unitsSame_refl s⟩
  have h3 : ∀ f : Fld, f.key ≠ SEC.STATUS.UNWRAP_FAIL.key → getF (setB s SEC.STATUS.UNWRAP_FAIL true) f = getF s f := fun f hf => getF_setB_ne _ _ hf
  have he : unwrapFail ctx gen s = sendFault 0xE2 0xE20 (ctx + 256 * gen) (setB s SEC.STATUS.UNWRAP_FAIL true) := rfl
  generalize setB s SEC.STATUS.UNWRAP_FAIL true = u at *
  generalize ctx + 256 * gen = i at *
  rw [he]
  obtain ⟨i1, i2, i3⟩ := h2
  exact ⟨fun hr => messageWaits_sendFault (roomMsg_congr i1 hr), (getB_sendFault _ _ _ _ (by decide)).trans h1, waitingSame_sendFault.2 i2,
    (unitsSame_sendFault.2 i3).2.1, fun f hf hg => (getF_sendFault _ _ _ _ hg).trans (h3 f hf)⟩

theorem sbKey_wf {dt q key : Nat} {opens : Bool} (hq : q < 72) (hk : key < 2 ^ 256) : (Instr.sbKeyInstall dt q opens key).wf = true := by
  simpa [Instr.wf, hq] using hk

section
variable {dt q : Nat} {s a u : State} {p : Pkt} (ha : a = advance dt s) (hq : q < 72) (hp : passes a q p u)
include ha hq hp

theorem answers_unwrapFail {key : Nat} {opens : Bool} (hk : key < 2 ^ 256) (hop : p.op = 0x20)
    (h : opens = false ∨ getB a SEC.STATUS.KX_READY = false) (hr : roomMsg a) : Answers (.sbKeyInstall dt q opens key) s (fun t =>
        entryWritten u q p.seq 0x0029 0 0 t ∧ getB t SEC.STATUS.UNWRAP_FAIL = true ∧
        messageWaits 0xE2 0xE20 (p.at 16 + 256 * p.at 17) t ∧ t.bal = a.bal ∧ waitingSame a t) := by
  have hj := passes_judge hp
  have hring := pktOf_ring hp.1.2.1
  have hkx : getB u SEC.STATUS.KX_READY = getB a SEC.STATUS.KX_READY := getB_judge hq hp (by decide) (by decide)
  have hrun : doSbKey opens key p u = finish p stAuthFail 0 0 (unwrapFail (p.at 16) (p.at 17) u) := by
    unfold doSbKey
    rw [hkx]
    exact if_pos (by rcases h with h | h <;> simp [h])
  refine answers_eq ha (exec_sbKeyInstall ..) (sbKey_wf hq hk)
    ((packetRow_of_passes hp (by rw [hop]; rfl)).trans (congrArg _ hrun)) ?_
  have hcq : ∀ f ∈ cqFields q, f.key ≠ SEC.STATUS.UNWRAP_FAIL.key ∧ f.key ≠ FLC.STATUS.QUEUE_OVF.key := by
    simp only [cqFields, List.mem_cons, List.not_mem_nil, or_false, CMD.RING_CQ.CQ_BASE, CMD.RING_CFG.SIZE_LOG2, CMD.RING_CQ_TAIL.CQ_TAIL, fld,
      SEC.STATUS.UNWRAP_FAIL, FLC.STATUS.QUEUE_OVF]
    rintro f (rfl | rfl | rfl) <;> constructor <;> dsimp only <;> omega
  obtain ⟨hmsg, hflag, hwait, hdrv, hother⟩ := unwrapFail_shown (p.at 16) (p.at 17) u
  have hmsg := hmsg (roomMsg_congr hj.inbox hr)
  generalize unwrapFail (p.at 16) (p.at 17) u = v at *
  have hcqu : ∀ f ∈ cqFields q, getF v f = getF u f := fun f hf => hother f (hcq f hf).1 (hcq f hf).2
  have hf := (EntryOnly.refl q v).finish hring stAuthFail 0 0
  have he := entryWritten_finish (status := stAuthFail) (applied := 0) (detail := 0) hring v
  generalize finish p stAuthFail 0 0 v = w at *
  obtain ⟨-, -, -, r4, r5, r6, r7, r8⟩ := ringRoom_keeps q w
  have hew := entryWritten_ringRoom he
  generalize ringRoom q w = t at *
  obtain ⟨-, -, -, -, hsta, hbal⟩ := hdrv
  obtain ⟨-, -, -, -, -, hbal2⟩ := hf.driving
  obtain ⟨-, -, -, -, -, hbal3⟩ := hj.driving
  have hn : noEnd t := noEnd_congr (ha ▸ noEnd_advance dt s) (r4.trans (hf.sta.trans (hsta.trans hj.sta)))
  have hkf : SEC.STATUS.UNWRAP_FAIL.key ∉ (completionFields q).map (fun g => g.key) ∧
      SEC.STATUS.UNWRAP_FAIL.key ∉ [CMD.RING_STATUS.STATE q].map (fun g => g.key) := by
    simp only [completionFields, List.map_cons, List.map_nil, List.mem_cons, List.not_mem_nil, or_false, fld, SEC.STATUS.UNWRAP_FAIL,
      CMD.RING_CQ_TAIL.CQ_TAIL, CMD.LAST_APPLIED.SEQ, CMD.RING_STATUS.STATE, FLC.INJECT.ARM, FLC.INJECT_STATUS.FIRED, FLC.INJECT_STATUS.LAST_CHECKER]
    omega
  refine ⟨entryWritten_settled hn (entryWritten_congr hcqu hew), ?_, ?_, ?_, ?_⟩
  · rw [getB_settle _ hn (by decide)]
    exact (getB_congr ((r8 _ hkf.2 (by decide)).trans (hf.getF hkf.1 (by decide)))).trans hflag
  · exact (messageWaits_settle hn).2 ((messageWaits_congr (r6.trans hf.inbox)).2 hmsg)
  · exact (settle_bal hn).trans (r5.trans (hbal2.trans (hbal.trans hbal3)))
  · exact (waitingSame_settle hn).2 (waitingSame_trans hj.waiting (waitingSame_trans hwait (waitingSame_trans hf.waiting r7)))

end

end Sys2Proof.Machine

open Sys2Proof Sys2Proof.Machine

/-- Settles O53: each tagged opcode is taken with its deferred action, and a key that cannot be opened completes at once. -/
theorem taggedPacketsWaitForTheirStep : Obligations.TaggedPacketsWaitForTheirStep := by
  unfold Obligations.TaggedPacketsWaitForTheirStep
  intro dt q s a u p ha hq hw hp
  have hj := passes_judge hp
  have hwf : decide (q < 72) = true := decide_eq_true hq
  have hc := checksPass hp.2.2
  refine ⟨fun h ht => answers_tagged ha hw hp (exec_nop ..) hwf (by rw [h]; rfl) (if_neg ht),
    fun h ht => answers_tagged ha hw hp (exec_regWrite ..) hwf (by rw [h]; rfl) (if_pos ht),
    fun h => answers_tagged ha hw hp (exec_jobDetach ..) hwf (by rw [h]; rfl) rfl,
    fun h => answers_tagged ha hw hp (exec_setCap ..) hwf (by rw [h]; rfl) rfl,
    fun h => answers_tagged ha hw hp (exec_planStop ..) hwf (by rw [h]; rfl) rfl,
    fun key hk h => ⟨fun hkx => ?_, fun opens ho hr => answers_unwrapFail ha hq hp hk h ho hr⟩,
    fun h => answers_tagged ha hw hp (exec_confMode ..) hwf (by rw [h]; rfl) rfl, fun x v n h hx hv hn => ?_,
    fun h => answers_tagged ha hw hp (exec_scrubBegin ..) hwf (by rw [h]; rfl) rfl,
    fun h => answers_tagged ha hw hp (exec_scrubEnd ..) hwf (by rw [h]; rfl) rfl,
    fun h => answers_tagged ha hw hp (exec_evrWatch ..) hwf (by rw [h]; rfl) rfl,
    fun h => answers_tagged ha hw hp (exec_faultPolicy ..) hwf (by rw [h]; rfl) rfl⟩
  · have hrun : doSbKey true key p u = tagged p (some (.sbKey (p.at 16) (p.at 17) key)) u := by
      unfold doSbKey
      rw [if_neg (by rw [getB_judge hq hp (by decide) (by decide)]; simp [hkx])]
    exact answers_tagged ha hw hp (exec_sbKeyInstall ..) (sbKey_wf hq hk) (by rw [h]; rfl) hrun
  · subst hx hv hn
    obtain ⟨h1, h2⟩ := assignCheck_passes (own_assign hc.own h) (rights_assign hc.rights h)
    have hpart : partAssigned u (p.at 16) = partAssigned a (p.at 16) := by
      obtain ⟨hlo, hhi⟩ := fields_assign hc.param h
      exact getB_judge hq hp (by simp only [SEC.STATUS.CONF, SEC.PART_STATUS.ASSIGNED, fld]; omega)
        (by simp only [TST.CTRL.OVERRIDE, SEC.PART_STATUS.ASSIGNED, fld]; omega)
    rw [hpart] at h1 h2
    have hrun : ∀ y : Bool, (assignCheck u (p.at 16) (p.at 17) (p.num 20 4)).2 = y →
        doAssign p u = tagged p (some (if y then .assign (p.at 16) (p.at 17) (p.num 20 4) else .misc 1 0)) u := fun y hy => by
      unfold doAssign
      dsimp only
      rw [hy]
    have hall : ∀ (y : Bool) (k : ActKind), (assignCheck u (p.at 16) (p.at 17) (p.num 20 4)).2 = y →
        (if y then .assign (p.at 16) (p.at 17) (p.num 20 4) else .misc 1 0) = k → Answers (.partitionAssign dt q) s (takenTagged u p (some k)) :=
      fun y k hy hk => answers_tagged ha hw hp (exec_partitionAssign ..) hwf (by rw [h]; rfl) ((hrun y hy).trans (by rw [hk]))
    exact ⟨fun hv ha => hall true _ (by rw [h1 hv, ha]; rfl) (by rw [hv]; rfl), fun hv ha => hall true _ (by rw [h2 hv, ha]) (by rw [hv]; rfl),
      fun hv ha => hall false _ (by rw [h1 hv, ha]; rfl) rfl, fun hv ha => hall false _ (by rw [h2 hv, ha]) rfl⟩
end

section
/-! SUPPORT. Frames of the bus: what a write or a read of a register leaves. -/

namespace Sys2Proof.Machine

section
variable {L : List Part} {lo : Nat} {z s : State}

/-- Registers may go where no register is asked for. -/
theorem regs_agree {r : Assoc Nat} {w : Assoc Nat} (hlo : lo ≤ 0) (hz : Agree L lo z s) : Agree L lo z { s with regs := r, wrote := w } :=
  ⟨hz.time, hz.bus, hz.inbox, hz.waiting, hz.waits, hz.sns, hz.est, hz.psq, hz.drg, hz.phc, hz.lgv, hz.tmg, hz.sta, hz.ends, hz.pxe, hz.bal,
    hz.fw, hz.cmd, hz.evr, hz.flc, hz.sec, hz.upd, fun _ hf => absurd (Nat.lt_of_lt_of_le hf hlo) (Nat.not_lt_zero _)⟩

theorem forceKey_agree {k v : Nat} (hlo : lo ≤ 0x0) (hz : Agree L lo z s) : Agree L lo z (forceKey k v s) := regs_agree hlo hz

theorem keepRegs_agree {p : Nat → Bool} (hlo : lo ≤ 0x0) (hz : Agree L lo z s) : Agree L lo z (keepRegs p s) := regs_agree hlo hz

theorem reactNote_agree (o : Nat) (hL : Within [.psq] L) (hz : Agree L lo z s) : Agree L lo z (reactNote o s) := by
  unfold reactNote
  with_reducible repeat' (first
      | assumption | exact .inl rfl | exact .inl ⟨rfl, rfl, rfl, rfl, rfl⟩ | exact .inl ⟨rfl, rfl⟩ | exact .inr (hL.mem (by decide))
      | split | simp only [agree_mk_eq] | apply mk_agree)

theorem pendPut_agree (agent : Nat) (pkt : Nat) (f : Fld) (v : Nat) (hL : Within [.waits] L) (hz : Agree L lo z s) : Agree L lo z (pendPut
    agent pkt f v s) := by
  unfold pendPut
  with_reducible repeat' (first
      | assumption | exact .inl rfl | exact .inl ⟨rfl, rfl, rfl, rfl, rfl⟩ | exact .inl ⟨rfl, rfl⟩ | exact .inr (hL.mem (by decide))
      | split | simp only [agree_mk_eq] | apply mk_agree)

theorem settleKey_agree (k : Nat) (hz : Agree L lo z s) : Agree L lo z (settleKey k s) := by
  unfold settleKey
  with_reducible repeat' (first
      | assumption | exact .inl rfl | exact .inl ⟨rfl, rfl, rfl, rfl, rfl⟩ | exact .inl ⟨rfl, rfl⟩ | split | simp only [agree_mk_eq]
      | apply mk_agree)

theorem applyLanding_agree (hL : Within [.waits] L) (hlo : lo ≤ 0x0) (hz : Agree L lo z s) : Agree L lo z (applyLanding s) := by
  unfold applyLanding
  with_reducible repeat' (first
      | assumption | exact .inl rfl | exact .inl ⟨rfl, rfl, rfl, rfl, rfl⟩ | exact .inl ⟨rfl, rfl⟩ | exact .inr (hL.mem (by decide))
      | apply settleKey_agree | apply forceKey_agree | apply foldl_agree | (intro _) | simp only [agree_mk_eq] | apply mk_agree)

theorem hostAlive_agree (agent : Nat) (hL : Within [.fw] L) (hz : Agree L lo z s) : Agree L lo z (hostAlive agent s) := by
  unfold hostAlive
  with_reducible repeat' (first
      | assumption | apply setFw_agree | split)

theorem hostAttach_agree (val : Nat) (hL : Within [.msgs, .fw] L) (hlo : lo ≤ 0x1600300) (hz : Agree L lo z s) : Agree L lo z (hostAttach
    val s).1 := by
  unfold hostAttach
  with_reducible repeat' (first
      | assumption | exact .inl rfl | exact .inl ⟨rfl, rfl, rfl, rfl, rfl⟩ | exact .inl ⟨rfl, rfl⟩
      | apply setB_agree | apply setFw_agree | apply setF_agree | apply event_agree | split | simp only [agree_mk_eq] | apply mk_agree
      | exact Within.of (by decide) hL | exact hlo.trans (by decide))

theorem wdtKick_agree (agent : Nat) (val : Nat) (hL : Within [.fw] L) (hlo : lo ≤ 0x1400598) (hz : Agree L lo z s) : Agree L lo z (wdtKick
    agent val s) := by
  unfold wdtKick
  with_reducible repeat' (first
      | assumption | exact .inl rfl | exact .inl ⟨rfl, rfl, rfl, rfl, rfl⟩ | exact .inl ⟨rfl, rfl⟩
      | apply setB_agree | apply setFw_agree | split | simp only [agree_mk_eq] | apply mk_agree | exact Within.of (by decide) hL
      | exact hlo.trans (by decide))

theorem holdBeats_agree (hL : Within [.drg] L) (hz : Agree L lo z s) : Agree L lo z (holdBeats s) := by
  unfold holdBeats
  with_reducible repeat' (first
      | assumption | exact .inl rfl | exact .inl ⟨rfl, rfl, rfl, rfl, rfl⟩ | exact .inl ⟨rfl, rfl⟩ | exact .inr (hL.mem (by decide))
      | split | simp only [agree_mk_eq] | apply mk_agree)

theorem regionLevel_agree (r : Nat) (new : Nat) (hL : Within [.drg] L) (hlo : lo ≤ 0x210000) (hz : Agree L lo z s) : Agree L lo z
    (regionLevel r new s) := by
  unfold regionLevel
  with_reducible repeat' (first
      | assumption | exact .inl rfl | exact .inl ⟨rfl, rfl, rfl, rfl, rfl⟩ | exact .inl ⟨rfl, rfl⟩
      | apply setF_agree | apply incF_agree | apply setRegion_agree | apply noteHold_agree | split | simp only
      | apply mk_agree | exact Within.of (by decide) hL | exact hlo.trans (by decide)
      | (simp only [SNS.REGION_DROOP.LEVEL, SNS.REGION_DROOP.EVENTS, SNS.REGION_DROOP.WORST, fld]; omega))

theorem detExclWrite_agree (w : Nat) (val : Nat) (hL : Within [.drg] L) (hlo : lo ≤ 0x20e081) (hz : Agree L lo z s) : Agree L lo z
    (detExclWrite w val s) := by
  unfold detExclWrite
  with_reducible repeat' (first
      | assumption | exact .inl rfl | exact .inl ⟨rfl, rfl, rfl, rfl, rfl⟩ | exact .inl ⟨rfl, rfl⟩
      | apply setF_agree | apply setB_agree | apply regionLevel_agree | apply foldl_agree | (intro _) | simp only [agree_mk_eq]
      | apply mk_agree | exact Within.of (by decide) hL | exact hlo.trans (by decide)
      | (simp only [SNS.DET_EXCL.EXCLUDED, fld]; omega))

theorem droopRestart_agree (before : State) (hL : Within [.drg] L) (hlo : lo ≤ 0x210000) (hz : Agree L lo z s) : Agree L lo z
    (droopRestart before s) := by
  unfold droopRestart
  with_reducible repeat' (first
      | assumption | exact .inl rfl | exact .inl ⟨rfl, rfl, rfl, rfl, rfl⟩ | exact .inl ⟨rfl, rfl⟩
      | apply setF_agree | apply setRegion_agree | apply foldl_agree | split | (intro _) | simp only | apply mk_agree
      | exact Within.of (by decide) hL | exact hlo.trans (by decide)
      | (simp only [SNS.REGION_DROOP.WORST, SNS.REGION_DROOP.LEVEL, fld]; omega))

theorem lateHold_agree (hL : Within [.msgs, .drg, .bal] L) (hlo : lo ≤ 0xa00206) (hz : Agree L lo z s) : Agree L lo z (lateHold s) := by
  unfold lateHold
  with_reducible repeat' (first
      | assumption | exact .inl rfl | exact .inl ⟨rfl, rfl, rfl, rfl, rfl⟩ | exact .inl ⟨rfl, rfl⟩ | exact .inr (hL.mem (by decide))
      | apply sendHold_agree | apply setB_agree | apply incF_agree | apply sendFault_agree | apply event_agree | simp only [agree_mk_eq]
      | apply mk_agree | exact Within.of (by decide) hL | exact hlo.trans (by decide))

theorem setLaunchRate_agree (hL : Within [.drg] L) (hz : Agree L lo z s) : Agree L lo z (setLaunchRate s) := by
  unfold setLaunchRate
  with_reducible repeat' (first
      | assumption | exact .inl rfl | exact .inl ⟨rfl, rfl, rfl, rfl, rfl⟩ | exact .inl ⟨rfl, rfl⟩ | exact .inr (hL.mem (by decide))
      | simp only [agree_mk_eq] | apply mk_agree)

theorem phcRetiredWrite_agree (w : Nat) (val : Nat) (hL : Within [.waits] L) (hz : Agree L lo z s) : Agree L lo z (phcRetiredWrite w val
    s) := by
  unfold phcRetiredWrite
  with_reducible repeat' (first
      | assumption | exact .inl rfl | exact .inl ⟨rfl, rfl, rfl, rfl, rfl⟩ | exact .inl ⟨rfl, rfl⟩ | exact .inr (hL.mem (by decide))
      | apply foldl_agree | (intro _) | simp only [agree_mk_eq] | apply mk_agree)

theorem latchClear_agree (val : Nat) (hlo : lo ≤ 0xc08200) (hz : Agree L lo z s) : Agree L lo z (latchClear val s) := by
  unfold latchClear
  with_reducible repeat' (first
      | assumption | apply setRailSt_agree | apply setF_agree | apply foldl_agree | split | (intro _) | exact hlo.trans (by decide))

theorem seqStop_agree (hL : Within [.waits] L) (hz : Agree L lo z s) : Agree L lo z (seqStop s) := by
  unfold seqStop
  with_reducible repeat' (first
      | assumption | exact .inl rfl | exact .inl ⟨rfl, rfl, rfl, rfl, rfl⟩ | exact .inl ⟨rfl, rfl⟩ | exact .inr (hL.mem (by decide))
      | split | simp only [agree_mk_eq] | apply mk_agree)

theorem seqStart_agree (hL : Within [.waits] L) (hlo : lo ≤ 0xc08184) (hz : Agree L lo z s) : Agree L lo z (seqStart s) := by
  unfold seqStart
  with_reducible repeat' (first
      | assumption | exact .inl rfl | exact .inl ⟨rfl, rfl, rfl, rfl, rfl⟩ | exact .inl ⟨rfl, rfl⟩ | exact .inr (hL.mem (by decide))
      | apply setB_agree | split | simp only [agree_mk_eq] | apply mk_agree | exact Within.of (by decide) hL | exact hlo.trans (by decide))

theorem thermLimWrite_agree (agent : Nat) (val : Nat) (hL : Within [.waits] L) (hz : Agree L lo z s) : Agree L lo z (thermLimWrite agent
    val s) := by
  unfold thermLimWrite
  with_reducible repeat' (first
      | assumption | apply pendPut_agree | split)

theorem capRelease_agree (k : Nat) (hlo : lo ≤ 0x602800) (hz : Agree L lo z s) : Agree L lo z (capRelease k s) := by
  unfold capRelease
  with_reducible repeat' (first
      | assumption | apply setF_agree | apply setB_agree | exact hlo.trans (by decide)
      | (simp only [PXE.CAP_COUNT.COUNT, PXE.CAP_INFO.VALID, fld]; omega))

theorem enterSafe_agree (val : Nat) (hL : Within [.sta] L) (hz : Agree L lo z s) : Agree L lo z (enterSafe val s) := by
  unfold enterSafe
  with_reducible repeat' (first
      | assumption | apply safeAsk_agree | split)

theorem staWake_agree (val : Nat) (hL : Within [.drg, .phc, .sta] L) (hlo : lo ≤ 0xc00800) (hz : Agree L lo z s) : Agree L lo z (staWake
    val s) := by
  unfold staWake
  with_reducible repeat' (first
      | assumption | apply wakeBegin_agree | split)

theorem gateClose_agree (agent : Nat) (hL : Within [.waits] L) (hlo : lo ≤ 0x1800400) (hz : Agree L lo z s) : Agree L lo z (gateClose
    agent s) := by
  unfold gateClose
  with_reducible repeat' (first
      | assumption | exact .inl rfl | exact .inl ⟨rfl, rfl, rfl, rfl, rfl⟩ | exact .inl ⟨rfl, rfl⟩ | exact .inr (hL.mem (by decide))
      | apply setB_agree | split | simp only [agree_mk_eq] | apply mk_agree | exact Within.of (by decide) hL | exact hlo.trans (by decide))

theorem setupReject_agree (q : Nat) (reason : Nat) (hlo : lo ≤ 0x1800180) (hz : Agree L lo z s) : Agree L lo z (setupReject q reason s) :=
    by
  unfold setupReject
  with_reducible repeat' (first
      | assumption | apply setB_agree | apply setF_agree | exact hlo.trans (by decide))

theorem ringEnable_agree (q : Nat) (base : Nat) (lg : Nat) (hL : Within [.cmd] L) (hlo : lo ≤ 0x0) (hz : Agree L lo z s) : Agree L lo z
    (ringEnable q base lg s) := by
  unfold ringEnable
  with_reducible repeat' (first
      | assumption | exact .inl rfl | exact .inl ⟨rfl, rfl, rfl, rfl, rfl⟩ | exact .inl ⟨rfl, rfl⟩
      | apply setupReject_agree | apply setF_agree | apply setB_agree | apply setRingSt_agree | apply setCmd_agree | split
      | simp only | apply mk_agree | exact Within.of (by decide) hL | exact hlo.trans (Nat.zero_le _))

theorem ringReset_agree (q : Nat) (hL : Within [.cmd] L) (hlo : lo ≤ 0x1820180) (hz : Agree L lo z s) : Agree L lo z (ringReset q s) := by
  unfold ringReset
  with_reducible repeat' (first
      | assumption | exact .inl rfl | exact .inl ⟨rfl, rfl, rfl, rfl, rfl⟩ | exact .inl ⟨rfl, rfl⟩
      | apply setCmd_agree | apply setF_agree | apply setB_agree | apply setRingSt_agree | split | simp only [agree_mk_eq]
      | apply mk_agree | exact Within.of (by decide) hL | exact hlo.trans (by decide)
      | (simp only [CMD.RING_HEAD.HEAD, CMD.RING_STATUS.SEQ_VALID, fld]; omega))

theorem mbxRead_agree (agent : Nat) (m : Nat) (hlo : lo ≤ 0x0) (hz : Agree L lo z s) : Agree L lo z (mbxRead agent m s).1 := by
  unfold mbxRead
  with_reducible repeat' (first
      | assumption | apply setB_agree | split | exact hlo.trans (Nat.zero_le _))

theorem cqHeadWrite_agree (agent : Nat) (q : Nat) (val : Nat) (hlo : lo ≤ 0x1820200) (hz : Agree L lo z s) : Agree L lo z (cqHeadWrite
    agent q val s) := by
  unfold cqHeadWrite
  with_reducible repeat' (first
      | assumption | apply ringRoom_agree | apply setF_agree | split | exact hlo.trans (by decide)
      | (simp only [CMD.RING_CQ_HEAD.CQ_HEAD, fld]; omega))

theorem ringDoorbell_agree (agent : Nat) (q : Nat) (val : Nat) (hL : Within [.cmd] L) (hlo : lo ≤ 0x1800200) (hz : Agree L lo z s) : Agree
    L lo z (ringDoorbell agent q val s) := by
  unfold ringDoorbell
  with_reducible repeat' (first
      | assumption | exact .inl rfl | exact .inl ⟨rfl, rfl, rfl, rfl, rfl⟩ | exact .inl ⟨rfl, rfl⟩
      | apply setF_agree | apply setCmd_agree | apply incF_agree | split | simp only | apply mk_agree
      | exact Within.of (by decide) hL | exact hlo.trans (by decide)
      | (simp only [CMD.RING_TAIL.TAIL, fld]; omega))

theorem gateOpen_agree (agent : Nat) (hlo : lo ≤ 0x1800400) (hz : Agree L lo z s) : Agree L lo z (gateOpen agent s) := by
  unfold gateOpen
  with_reducible repeat' (first
      | assumption | apply setB_agree | split | exact hlo.trans (by decide))

theorem ringDisable_agree (q : Nat) (hlo : lo ≤ 0x1800180) (hz : Agree L lo z s) : Agree L lo z (ringDisable q s) := by
  unfold ringDisable
  with_reducible repeat' (first
      | assumption | apply setupReject_agree | apply setB_agree | apply setRingSt_agree | split | exact hlo.trans (by decide)
      | (simp only [CMD.RING_CFG.ENABLE, fld]; omega))

theorem ringCfgWrite_agree (agent : Nat) (q : Nat) (val : Nat) (hL : Within [.cmd] L) (hlo : lo ≤ 0x0) (hz : Agree L lo z s) : Agree L lo
    z (ringCfgWrite agent q val s) := by
  unfold ringCfgWrite
  with_reducible repeat' (first
      | assumption | exact .inl rfl | exact .inl ⟨rfl, rfl, rfl, rfl, rfl⟩ | exact .inl ⟨rfl, rfl⟩
      | apply setF_agree | apply ringReset_agree | apply ringEnable_agree | apply ringDisable_agree | split | simp only [agree_mk_eq]
      | apply mk_agree | exact Within.of (by decide) hL | exact hlo.trans (Nat.zero_le _))

theorem ringCqWrite_agree (agent : Nat) (q : Nat) (val : Nat) (hlo : lo ≤ 0x1820080) (hz : Agree L lo z s) : Agree L lo z (ringCqWrite
    agent q val s) := by
  unfold ringCqWrite
  with_reducible repeat' (first
      | assumption | apply setF_agree | split | exact hlo.trans (by decide) | (simp only [CMD.RING_CQ.CQ_BASE, fld]; omega))

theorem mbxWrite_agree (agent : Nat) (m : Nat) (w : Nat) (hL : Within [.cmd] L) (hlo : lo ≤ 0x0) (hz : Agree L lo z s) : Agree L lo z
    (mbxWrite agent m w s) := by
  unfold mbxWrite
  with_reducible repeat' (first
      | assumption | exact .inl rfl | exact .inl ⟨rfl, rfl, rfl, rfl, rfl⟩ | exact .inl ⟨rfl, rfl⟩
      | apply incF_agree | apply setB_agree | apply setF_agree | apply raiseVec_agree | split | simp only | apply mk_agree
      | exact Within.of (by decide) hL | exact hlo.trans (Nat.zero_le _))

theorem ringAll_agree (hL : Within [.cmd] L) (hz : Agree L lo z s) : Agree L lo z (ringAll s) := by
  unfold ringAll
  with_reducible repeat' (first
      | assumption | apply setCmd_agree)

theorem recordPost_agree (hL : Within [.msgs, .drops, .cmd, .evr] L) (hlo : lo ≤ 0x1820280) (hz : Agree L lo z s) : Agree L lo z
    (recordPost s) := by
  unfold recordPost
  with_reducible repeat' (first
      | assumption | exact .inl rfl | exact .inl ⟨rfl, rfl, rfl, rfl, rfl⟩ | exact .inl ⟨rfl, rfl⟩ | exact .inr (hL.mem (by decide))
      | exact .inr ⟨hL.mem (by decide), hL.mem (by decide)⟩ | apply acceptRec_agree | split | simp only [agree_mk_eq] | apply mk_agree
      | exact Within.of (by decide) hL)

theorem nextSeal_agree (hL : Within [.evr] L) (hlo : lo ≤ 0x1c00200) (hz : Agree L lo z s) : Agree L lo z (nextSeal s) := by
  unfold nextSeal
  with_reducible repeat' (first
      | assumption | exact .inl rfl | exact .inl ⟨rfl, rfl, rfl, rfl, rfl⟩ | exact .inl ⟨rfl, rfl⟩
      | apply setW_agree | apply setEvr_agree | split | simp only | apply mk_agree | exact Within.of (by decide) hL
      | exact hlo.trans (by decide))

theorem sealGran_agree (b : List Nat) (hL : Within [.evr] L) (hlo : lo ≤ 0x1a00480) (hz : Agree L lo z s) : Agree L lo z (sealGran b s) :=
    by
  unfold sealGran
  with_reducible repeat' (first
      | assumption | exact .inl rfl | exact .inl ⟨rfl, rfl, rfl, rfl, rfl⟩ | exact .inl ⟨rfl, rfl⟩
      | apply setEvr_agree | apply nextSeal_agree | apply setF_agree | simp only [agree_mk_eq] | apply mk_agree
      | exact Within.of (by decide) hL | exact hlo.trans (by decide))

theorem writeHead_agree (hL : Within [.msgs, .evr] L) (hlo : lo ≤ 0x1a00081) (hz : Agree L lo z s) : Agree L lo z (writeHead s) := by
  unfold writeHead
  with_reducible repeat' (first
      | assumption | exact .inl rfl | exact .inl ⟨rfl, rfl, rfl, rfl, rfl⟩ | exact .inl ⟨rfl, rfl⟩
      | apply keepBound_agree | apply setW_agree | apply sealGran_agree | apply setEvr_agree | apply lossSeen_agree | apply foldl_agree
      | split | (intro _) | simp only [agree_mk_eq] | apply mk_agree | exact Within.of (by decide) hL | exact hlo.trans (by decide))

theorem writeSlot_agree (slot : Nat) (hL : Within [.evr] L) (hlo : lo ≤ 0x1a00300) (hz : Agree L lo z s) : Agree L lo z (writeSlot slot s)
    := by
  unfold writeSlot
  with_reducible repeat' (first
      | assumption | exact .inl rfl | exact .inl ⟨rfl, rfl, rfl, rfl, rfl⟩ | exact .inl ⟨rfl, rfl⟩
      | apply markFlushed_agree | apply sealGran_agree | apply setW_agree | split | simp only [agree_mk_eq] | apply mk_agree
      | exact Within.of (by decide) hL | exact hlo.trans (by decide))

theorem flushAnswer_agree (full : Bool) (grans : Nat) (recs : Nat) (hL : Within [.cmd] L) (hlo : lo ≤ 0x1820280) (hz : Agree L lo z s) :
    Agree L lo z (flushAnswer full grans recs s) := by
  unfold flushAnswer
  with_reducible repeat' (first
      | assumption | apply pktComplete_agree | apply foldl_agree | split | (intro _))

theorem hoursSave_agree (hL : Within [.evr] L) (hz : Agree L lo z s) : Agree L lo z (hoursSave s) := by
  unfold hoursSave
  with_reducible repeat' (first
      | assumption | apply setEvr_agree)

theorem flushDone_agree (ok : Option Nat) (hL : Within [.msgs, .cmd, .evr] L) (hlo : lo ≤ 0x1820280) (hz : Agree L lo z s) : Agree L lo z
    (flushDone ok s) := by
  unfold flushDone
  split
  · exact hz
  extract_lets h0 total n slots recs s1 s2 s3 stuck full s4 again e5 s5
  have h1 : Agree L lo z s1 := by
    unfold s1; split
    · exact foldl_agree (fun t x ht => by split; exact addLost_agree _ _ (Within.of (by decide) hL) ht; exact ht) hz
    · exact writeHead_agree (Within.of (by decide) hL) (hlo.trans (by decide)) hz
  have h2 : Agree L lo z s2 := foldl_agree (fun t x ht => writeSlot_agree _ (Within.of (by decide) hL) (hlo.trans (by decide)) ht) h1
  have h3 : Agree L lo z s3 := by
    unfold s3; split
    · exact setB_agree _ _ (hlo.trans (by decide)) (sendFault_agree _ _ _ (Within.of (by decide) hL) (hlo.trans (by decide)) h2)
    · split
      · exact setB_agree _ _ (hlo.trans (by decide)) h2
      · exact h2
  have h4 : Agree L lo z s4 := flushAnswer_agree _ _ _ (Within.of (by decide) hL) (hlo.trans (by decide))
    (event_agree _ _ (Within.of (by decide) hL) (hlo.trans (by decide)) (hoursSave_agree (Within.of (by decide) hL) h3))
  have h5 : Agree L lo z s5 := setB_agree _ _ (hlo.trans (by decide)) (setEvr_agree _ (Within.of (by decide) hL) h4)
  split
  · exact h5
  · exact flushStart_agree _ (Within.of (by decide) hL) (hlo.trans (by decide)) h5

theorem flushNow_agree (trig : Nat) (hL : Within [.msgs, .cmd, .evr] L) (hlo : lo ≤ 0x1820280) (hz : Agree L lo z s) : Agree L lo z
    (flushNow trig s) := by
  unfold flushNow
  with_reducible repeat' (first
      | assumption | apply flushDone_agree | apply flushBegin_agree | exact Within.of (by decide) hL | exact hlo.trans (by decide))

theorem evrWinRead_agree (agent : Nat) (i : Nat) (tag : Bool) (hL : Within [.msgs] L) (hlo : lo ≤ 0x1a00083) (hz : Agree L lo z s) : Agree
    L lo z (evrWinRead agent i tag s) := by
  unfold evrWinRead
  with_reducible repeat' (first
      | assumption | exact .inl rfl | exact .inl ⟨rfl, rfl, rfl, rfl, rfl⟩ | exact .inl ⟨rfl, rfl⟩
      | apply sendFault_agree | apply setB_agree | apply bufBad_agree | split | simp only | apply mk_agree
      | exact Within.of (by decide) hL | exact hlo.trans (by decide))

theorem selfFault_agree (info : Nat) (hL : Within [.msgs, .waits, .drg, .phc, .lgv, .sta, .evr, .flc] L) (hlo : lo ≤ 0x80040e) (hz : Agree
    L lo z s) : Agree L lo z (selfFault info s) := by
  unfold selfFault
  with_reducible repeat' (first
      | assumption | exact .inl rfl | exact .inl ⟨rfl, rfl, rfl, rfl, rfl⟩ | exact .inl ⟨rfl, rfl⟩ | exact .inr (hL.mem (by decide))
      | apply setB_agree | apply flushBegin_agree | apply safeEnter_agree | apply putRec_agree | split | simp only [agree_mk_eq]
      | apply mk_agree | exact Within.of (by decide) hL | exact hlo.trans (by decide))

theorem hbKick_agree (agent : Nat) (hL : Within [.flc] L) (hlo : lo ≤ 0x1a01082) (hz : Agree L lo z s) : Agree L lo z (hbKick agent s) :=
    by
  unfold hbKick
  with_reducible repeat' (first
      | assumption | exact .inl rfl | exact .inl ⟨rfl, rfl, rfl, rfl, rfl⟩ | exact .inl ⟨rfl, rfl⟩
      | apply setFlc_agree | apply setB_agree | split | simp only [agree_mk_eq] | apply mk_agree | exact Within.of (by decide) hL
      | exact hlo.trans (by decide))

theorem flcInject_agree (agent : Nat) (val : Nat) (hlo : lo ≤ 0x1a01300) (hz : Agree L lo z s) : Agree L lo z (flcInject agent val s) :=
    by
  unfold flcInject
  with_reducible repeat' (first
      | assumption | apply setF_agree | split | exact hlo.trans (by decide))

theorem severeClear_agree (agent : Nat) (v : Nat) (val : Nat) (hL : Within [.flc] L) (hlo : lo ≤ 0x1a01084) (hz : Agree L lo z s) : Agree
    L lo z (severeClear agent v val s) := by
  unfold severeClear
  with_reducible repeat' (first
      | assumption | exact .inl rfl | exact .inl ⟨rfl, rfl, rfl, rfl, rfl⟩ | exact .inl ⟨rfl, rfl⟩
      | apply setF_agree | apply showSevere_agree | apply setFlc_agree | split | simp only [agree_mk_eq] | apply mk_agree
      | exact Within.of (by decide) hL | exact hlo.trans (by decide) | (simp only [FLC.SEVERE.SEVERE, fld]; omega))

theorem countMsg_agree (src : Nat) (kind : Nat) (word : Nat) (hL : Within [.msgs, .waits, .drg, .phc, .lgv, .sta, .cmd, .evr, .flc] L)
    (hlo : lo ≤ 0x80040e) (hz : Agree L lo z s) : Agree L lo z (countMsg src kind word s) := by
  have h1 := injectAt_agree 8 0 [] (hlo.trans (by decide)) hz
  unfold countMsg
  generalize injectAt 8 0 [] s = r at h1 ⊢
  obtain ⟨s0, e⟩ := r
  replace h1 : Agree L lo z s0 := h1
  dsimp only
  with_reducible repeat' (first
      | assumption
      | apply selfFault_agree | apply setFlc_agree | apply makeSevere_agree | split
      | exact Within.of (by decide) hL | exact hlo.trans (by decide))

theorem faultMessage_agree (hL : Within [.msgs, .drops, .waits, .drg, .phc, .lgv, .sta, .cmd, .evr, .flc] L) (hlo : lo ≤ 0x80040e) (hz :
    Agree L lo z s) : Agree L lo z (faultMessage s) := by
  unfold faultMessage
  with_reducible repeat' (first
      | assumption | exact .inl rfl | exact .inl ⟨rfl, rfl, rfl, rfl, rfl⟩ | exact .inl ⟨rfl, rfl⟩ | exact .inr (hL.mem (by decide))
      | exact .inr ⟨hL.mem (by decide), hL.mem (by decide)⟩ | apply takeMsg_agree | apply overflowMsg_agree | apply countMsg_agree
      | apply putRec_agree | split | simp only [agree_mk_eq] | apply mk_agree | exact Within.of (by decide) hL
      | exact hlo.trans (by decide))

theorem kxNew_agree (agent : Nat) (val : Nat) (hL : Within [.sec] L) (hlo : lo ≤ 0x1c00003) (hz : Agree L lo z s) : Agree L lo z (kxNew
    agent val s) := by
  unfold kxNew
  with_reducible repeat' (first
      | assumption | exact .inl rfl | exact .inl ⟨rfl, rfl, rfl, rfl, rfl⟩ | exact .inl ⟨rfl, rfl⟩ | exact .inr (hL.mem (by decide))
      | apply setB_agree | split | simp only [agree_mk_eq] | apply mk_agree | exact Within.of (by decide) hL | exact hlo.trans (by decide))

theorem markNext_agree (c : Nat) (b : Bool) (hL : Within [.tmg] L) (hz : Agree L lo z s) : Agree L lo z (markNext c b s) := by
  unfold markNext
  with_reducible repeat' (first
      | assumption | apply setTmg_agree)

theorem suspectSetWrite_agree (agent : Nat) (w : Nat) (val : Nat) (hL : Within [.tmg] L) (hz : Agree L lo z s) : Agree L lo z
    (suspectSetWrite agent w val s) := by
  unfold suspectSetWrite
  with_reducible repeat' (first
      | assumption | apply markNext_agree | apply foldl_agree | split | (intro _))

theorem singleTrip_agree (hL : Within [.msgs, .drg, .tmg] L) (hlo : lo ≤ 0x800407) (hz : Agree L lo z s) : Agree L lo z (singleTrip s) :=
    by
  unfold singleTrip
  with_reducible repeat' (first
      | assumption | apply thermLower_agree | apply setB_agree | exact Within.of (by decide) hL | exact hlo.trans (by decide))

theorem suspectClearWrite_agree (w : Nat) (val : Nat) (hL : Within [.tmg] L) (hz : Agree L lo z s) : Agree L lo z (suspectClearWrite w val
    s) := by
  unfold suspectClearWrite
  with_reducible repeat' (first
      | assumption | apply markNext_agree | apply foldl_agree | (intro _))

theorem pmbReset_agree (hz : Agree L lo z s) : Agree L lo z (pmbReset s) := by
  unfold pmbReset
  with_reducible repeat' (first
      | assumption | apply setPmb_agree)

theorem estCalReset_agree (hL : Within [.est] L) (hz : Agree L lo z s) : Agree L lo z (estCalReset s) := by
  unfold estCalReset
  with_reducible repeat' (first
      | assumption | apply setEst_agree)

theorem estRetry_agree (hlo : lo ≤ 0x400205) (hz : Agree L lo z s) : Agree L lo z (estRetry s) := by
  unfold estRetry
  with_reducible repeat' (first
      | assumption | apply setB_agree | exact hlo.trans (by decide))

theorem evrReset_agree (hL : Within [.evr] L) (hlo : lo ≤ 0x1a00200) (hz : Agree L lo z s) : Agree L lo z (evrReset s) := by
  unfold evrReset
  with_reducible repeat' (first
      | assumption | exact .inl rfl | exact .inl ⟨rfl, rfl, rfl, rfl, rfl⟩ | exact .inl ⟨rfl, rfl⟩ | exact .inr (hL.mem (by decide))
      | apply showOldest_agree | simp only [agree_mk_eq] | apply mk_agree)

theorem drain_agree (n : Nat) (hL : Within [.msgs, .drops, .waits, .drg, .phc, .lgv, .sta, .cmd, .evr, .flc] L) (hlo : lo ≤ 0x80040e) (hz
    : Agree L lo z s) : Agree L lo z (drain n s) := by
  induction n generalizing s with
  | zero => exact hz
  | succ n ih =>
    unfold drain
    split
    · exact hz
    · apply ih
      split
      · exact recordPost_agree (Within.of (by decide) hL) (hlo.trans (by decide)) hz
      · exact faultMessage_agree (Within.of (by decide) hL) hlo hz

theorem resetFlush_agree (hL : Within [.msgs, .drops, .waits, .drg, .phc, .lgv, .sta, .cmd, .evr, .flc] L) (hlo : lo ≤ 0x80040e) (hz :
    Agree L lo z s) : Agree L lo z (resetFlush s) := by
  unfold resetFlush
  with_reducible repeat' (first
      | assumption | apply holdBeats_agree | apply flushNow_agree | apply drain_agree | exact Within.of (by decide) hL
      | exact hlo.trans (by decide))

theorem resetRecord_agree (kind : Nat) (agent : Option Nat) (hlo : lo ≤ 0x1400480) (hz : Agree L lo z s) : Agree L lo z (resetRecord kind
    agent s) := by
  unfold resetRecord
  with_reducible repeat' (first
      | assumption | exact .inl rfl | exact .inl ⟨rfl, rfl, rfl, rfl, rfl⟩ | exact .inl ⟨rfl, rfl⟩ | apply setF_agree | apply incF_agree
      | split | simp only [agree_mk_eq] | apply mk_agree | exact hlo.trans (by decide))

theorem dropWork_agree (hL : Within [.waits] L) (hlo : lo ≤ 0x0) (hz : Agree L lo z s) : Agree L lo z (dropWork s) := by
  unfold dropWork
  with_reducible repeat' (first
      | assumption | exact .inl rfl | exact .inl ⟨rfl, rfl, rfl, rfl, rfl⟩ | exact .inl ⟨rfl, rfl⟩ | exact .inr (hL.mem (by decide))
      | apply applyLanding_agree | simp only [agree_mk_eq] | apply mk_agree)

theorem mgmtReset_agree (hL : Within [.bus, .msgs, .drops, .fw, .cmd, .flc] L) (hz : Agree L lo z s) : Agree L lo z (mgmtReset s) := by
  unfold mgmtReset
  with_reducible repeat' (first
      | assumption | exact .inl rfl | exact .inl ⟨rfl, rfl, rfl, rfl, rfl⟩ | exact .inl ⟨rfl, rfl⟩ | exact .inr (hL.mem (by decide))
      | exact .inr ⟨hL.mem (by decide), hL.mem (by decide)⟩ | apply pmbReset_agree | simp only [agree_mk_eq] | apply mk_agree)

theorem unitsReset_agree (hL : Within [.sns, .psq, .lgv, .tmg, .sta, .pxe] L) (he : noEnd z) (hz : Agree L lo z s) : Agree L lo z
    (unitsReset s) := by
  have hends : (StaState.reset.endDeep = s.sta.endDeep ∧ StaState.reset.endLate = s.sta.endLate) ∨ .ends ∈ L := by
    by_cases h : .ends ∈ L
    · exact .inr h
    · exact .inl ⟨he.1.symm.trans (hz.ends h).1.symm, he.2.symm.trans (hz.ends h).2.symm⟩
  unfold unitsReset
  with_reducible repeat' (first
      | assumption | exact .inl rfl | exact .inl ⟨rfl, rfl, rfl, rfl, rfl⟩ | exact .inr (hL.mem (by decide))
      | simp only [agree_mk_eq] | apply mk_agree)

theorem timeReset_agree (hL : Within [.time] L) (hz : Agree L lo z s) : Agree L lo z (timeReset s) := by
  unfold timeReset
  with_reducible repeat' (first
      | assumption | exact .inl rfl | exact .inl ⟨rfl, rfl, rfl, rfl, rfl⟩ | exact .inl ⟨rfl, rfl⟩ | exact .inr (hL.mem (by decide))
      | simp only [agree_mk_eq] | apply mk_agree)

theorem planStopped_agree (old : State) (hL : Within [.msgs] L) (hlo : lo ≤ 0x1a00500) (hz : Agree L lo z s) : Agree L lo z (planStopped
    old s) := by
  unfold planStopped
  with_reducible repeat' (first
      | assumption | apply event_agree | split | exact Within.of (by decide) hL | exact hlo.trans (by decide))

theorem resetValues_agree (hL : Within [.time, .bus, .msgs, .drops, .waits, .sns, .est, .psq, .drg, .phc, .lgv, .tmg, .sta, .pxe, .bal,
    .fw, .cmd, .evr, .flc] L) (hlo : lo ≤ 0x0) (he : noEnd z) (hz : Agree L lo z s) : Agree L lo z (resetValues s) := by
  unfold resetValues
  with_reducible repeat' (first
      | assumption | exact .inl rfl | exact .inl ⟨rfl, rfl, rfl, rfl, rfl⟩ | exact .inl ⟨rfl, rfl⟩ | exact .inr (hL.mem (by decide))
      | apply keepRegs_agree | apply dropWork_agree | apply evrReset_agree
      | apply mgmtReset_agree | apply unitsReset_agree | apply timeReset_agree | apply setB_agree | apply applySelect_agree
      | apply balClear_agree | apply droopRestart_agree | apply planStopped_agree | apply boundShow_agree | apply reactPhases_agree
      | apply singleTrip_agree | apply foldl_agree | split | (intro _) | simp only [agree_mk_eq] | apply mk_agree
      | exact Within.of (by decide) hL | exact hlo.trans (Nat.zero_le _))

theorem resetRelease_agree (hL : Within [.drg] L) (hlo : lo ≤ 0xa04010) (hz : Agree L lo z s) : Agree L lo z (resetRelease s) := by
  unfold resetRelease
  with_reducible repeat' (first
      | assumption | apply regate_agree | apply releaseBeats_agree | apply setLaunchRate_agree | apply setRate_agree
      | exact Within.of (by decide) hL | exact hlo.trans (by decide))

theorem resetNotice_agree (hL : Within [.msgs, .drg, .bal] L) (hlo : lo ≤ 0xa00206) (hz : Agree L lo z s) : Agree L lo z (resetNotice s)
    := by
  unfold resetNotice
  with_reducible repeat' (first
      | assumption | apply lateHold_agree | split)

theorem restartNow_agree (kind : Nat) (agent : Nat) (hL : Within [.time, .bus, .msgs, .drops, .waits, .sns, .est, .psq, .drg, .phc, .lgv,
    .tmg, .sta, .pxe, .bal, .fw, .cmd, .evr, .flc] L) (hlo : lo ≤ 0x0) (he : noEnd z) (hz : Agree L lo z s) : Agree L lo z (restartNow
    kind agent s) := by
  unfold restartNow
  with_reducible repeat' (first
      | assumption | exact .inl rfl | exact .inl ⟨rfl, rfl, rfl, rfl, rfl⟩ | exact .inl ⟨rfl, rfl⟩
      | apply resetRelease_agree | apply resetValues_agree | apply resetFlush_agree
      | apply resetNotice_agree | apply resetRecord_agree | apply event_agree | split | simp only [agree_mk_eq] | apply mk_agree
      | exact Within.of (by decide) hL | exact hlo.trans (Nat.zero_le _))

theorem restart_agree (kind : Nat) (agent : Nat) (hL : Within [.time, .bus, .msgs, .drops, .waits, .sns, .est, .psq, .drg, .phc, .lgv,
    .tmg, .sta, .pxe, .bal, .fw, .cmd, .evr, .flc, .upd] L) (hlo : lo ≤ 0x0) (he : noEnd z) (hz : Agree L lo z s) : Agree L lo z (restart
    kind agent s) := by
  unfold restart
  with_reducible repeat' (first
      | assumption | exact .inl rfl | exact .inl ⟨rfl, rfl, rfl, rfl, rfl⟩ | exact .inl ⟨rfl, rfl⟩
      | apply setUpd_agree | apply wakeBegin_agree | apply restartNow_agree | split
      | simp only [agree_mk_eq] | apply mk_agree | exact Within.of (by decide) hL | exact hlo.trans (Nat.zero_le _))

theorem blockRestart_agree (agent : Nat) (val : Nat) (hL : Within [.time, .bus, .msgs, .drops, .waits, .sns, .est, .psq, .drg, .phc, .lgv,
    .tmg, .sta, .pxe, .bal, .fw, .cmd, .evr, .flc, .upd] L) (hlo : lo ≤ 0x0) (he : noEnd z) (hz : Agree L lo z s) : Agree L lo z
    (blockRestart agent val s) := by
  unfold blockRestart
  with_reducible repeat' (first
      | assumption | apply restart_agree | split)

theorem deny_agree (agent : Nat) (o : Nat) (write : Bool) (hL : Within [.bus, .msgs] L) (hlo : lo ≤ 0x1a01081) (hz : Agree L lo z s) :
    Agree L lo z (deny agent o write s) := by
  unfold deny
  with_reducible repeat' (first
      | assumption | exact .inl rfl | exact .inl ⟨rfl, rfl, rfl, rfl, rfl⟩ | exact .inl ⟨rfl, rfl⟩
      | apply setB_agree | apply setF_agree | apply sendFault_agree | apply setBus_agree | split | simp only
      | apply mk_agree | exact Within.of (by decide) hL | exact hlo.trans (by decide))

theorem busError_agree (flag : Fld) (agent : Nat) (o : Nat) (hlo : lo ≤ 0x0) (hz : Agree L lo z s) : Agree L lo z (busError flag agent o
    s) := by
  unfold busError
  with_reducible repeat' (first
      | assumption | apply setF_agree | apply setB_agree | split | exact hlo.trans (Nat.zero_le _))

theorem estCmd_agree (val : Nat) (hL : Within [.est] L) (hlo : lo ≤ 0x400205) (hz : Agree L lo z s) : Agree L lo z (estCmd val s) := by
  unfold estCmd
  with_reducible repeat' (first
      | assumption | apply estRetry_agree | apply estCalReset_agree | split)

theorem seqCmd_agree (val : Nat) (hL : Within [.waits] L) (hlo : lo ≤ 0xc08184) (hz : Agree L lo z s) : Agree L lo z (seqCmd val s) := by
  unfold seqCmd
  with_reducible repeat' (first
      | assumption | apply seqStart_agree | apply seqStop_agree | split)

theorem attachWrite_agree (agent : Nat) (val : Nat) (hL : Within [.msgs, .fw, .cmd] L) (hlo : lo ≤ 0x1600300) (hz : Agree L lo z s) :
    Agree L lo z (attachWrite agent val s) := by
  unfold attachWrite
  with_reducible repeat' (first
      | assumption | exact .inl rfl | exact .inl ⟨rfl, rfl, rfl, rfl, rfl⟩ | exact .inl ⟨rfl, rfl⟩
      | apply hostAttach_agree | apply ringAll_agree | split | simp only | apply mk_agree | exact Within.of (by decide) hL)

theorem winWrite_agree (agent : Nat) (o : Nat) (val : Nat) (hL : Within [.cmd] L) (hlo : lo ≤ 0x1a01310) (hz : Agree L lo z s) : Agree L
    lo z (winWrite agent o val s) := by
  unfold winWrite
  with_reducible repeat' (first
      | assumption | apply sramStore_agree | apply setCmd_agree)

/-- What a write with an effect of its own leaves. -/
def AgreeO (L : List Part) (lo : Nat) (z : State) (o : Option State) : Prop := ∀ t, o = some t → Agree L lo z t

theorem agreeO_none : AgreeO L lo z none := fun _ h => nomatch h
theorem agreeO_some (h : Agree L lo z s) : AgreeO L lo z (some s) := fun _ e => Option.some.inj e ▸ h

theorem ownWrite_agree (agent : Nat) (o : Nat) (val : Nat) (hL : Within [.time, .bus, .msgs, .drops, .waits, .sns, .est, .psq, .drg, .phc,
    .lgv, .tmg, .sta, .pxe, .bal, .fw, .cmd, .evr, .flc, .sec, .upd] L) (hlo : lo ≤ 0x0) (he : noEnd z) (hz : Agree L lo z s) : AgreeO L
    lo z (ownWrite agent o val s) := by
  unfold ownWrite
  with_reducible repeat' (first
      | assumption | exact .inl rfl | exact .inl ⟨rfl, rfl, rfl, rfl, rfl⟩ | exact .inl ⟨rfl, rfl⟩
      | apply detExclWrite_agree | apply estCmd_agree | apply capRelease_agree
      | apply phcRetiredWrite_agree | apply seqCmd_agree | apply latchClear_agree | apply thermLimWrite_agree
      | apply suspectClearWrite_agree | apply suspectSetWrite_agree | apply enterSafe_agree | apply staWake_agree
      | apply blockRestart_agree | apply wdtKick_agree | apply hostAlive_agree | apply attachWrite_agree | apply setBus_agree
      | apply gateOpen_agree | apply gateClose_agree | apply winWrite_agree | apply ringCfgWrite_agree | apply ringCqWrite_agree
      | apply ringDoorbell_agree | apply cqHeadWrite_agree | apply mbxWrite_agree | apply hbKick_agree | apply flcInject_agree
      | apply severeClear_agree | apply kxNew_agree | apply agreeO_some | apply agreeO_none | split | simp only [agree_mk_eq]
      | apply mk_agree | exact Within.of (by decide) hL | exact hlo.trans (Nat.zero_le _))

theorem writeField_agree (agent : Nat) (o : Nat) (val : Nat) (f : FldDesc) (hL : Within [.waits] L) (hlo : lo ≤ 0x0) (hz : Agree L lo z s)
    : Agree L lo z (writeField agent o val f s) := by
  unfold writeField
  with_reducible repeat' (first
      | assumption | exact .inl rfl | exact .inl ⟨rfl, rfl, rfl, rfl, rfl⟩ | exact .inl ⟨rfl, rfl⟩
      | apply landPut_agree | apply pendPut_agree | apply setF_agree | split | simp only | apply mk_agree
      | exact Within.of (by decide) hL | exact hlo.trans (Nat.zero_le _))

theorem plainWrite_agree (agent : Nat) (o : Nat) (val : Nat) (hL : Within [.waits, .psq] L) (hlo : lo ≤ 0x0) (hz : Agree L lo z s) : Agree
    L lo z (plainWrite agent o val s) := by
  unfold plainWrite
  with_reducible repeat' (first
      | assumption | apply reactNote_agree | apply writeField_agree | apply foldl_agree | (intro _) | exact Within.of (by decide) hL)

theorem landWord_agree (agent : Nat) (o : Nat) (val : Nat) (hL : Within [.time, .bus, .msgs, .drops, .waits, .sns, .est, .psq, .drg, .phc,
    .lgv, .tmg, .sta, .pxe, .bal, .fw, .cmd, .evr, .flc, .sec, .upd] L) (hlo : lo ≤ 0x0) (he : noEnd z) (hz : Agree L lo z s) : Agree L lo
    z (landWord agent o val s) := by
  unfold landWord
  split
  · exact hz
  · split
    · next t heq => exact ownWrite_agree _ _ _ hL hlo he hz t heq
    · exact plainWrite_agree _ _ _ (Within.of (by decide) hL) hlo hz

theorem busWrite_agree (agent : Nat) (o : Nat) (val : Nat) (be : Nat) (hL : Within [.time, .bus, .msgs, .drops, .waits, .sns, .est, .psq,
    .drg, .phc, .lgv, .tmg, .sta, .pxe, .bal, .fw, .cmd, .evr, .flc, .sec, .upd] L) (hlo : lo ≤ 0x0) (he : noEnd z) (hz : Agree L lo z s)
    : Agree L lo z (busWrite agent o val be s) := by
  unfold busWrite
  with_reducible repeat' (first
      | assumption | exact .inl rfl | exact .inl ⟨rfl, rfl, rfl, rfl, rfl⟩ | exact .inl ⟨rfl, rfl⟩
      | apply deny_agree | apply ringDoorbell_agree | apply busError_agree
      | apply setBus_agree | apply landWord_agree | split | simp only [agree_mk_eq] | apply mk_agree | exact Within.of (by decide) hL
      | exact hlo.trans (Nat.zero_le _))

theorem sramRead_agree (w : Nat) (hL : Within [.bus] L) (hlo : lo ≤ 0x1600c10) (hz : Agree L lo z s) : Agree L lo z (sramRead w s) := by
  unfold sramRead
  with_reducible repeat' (first
      | assumption | exact .inl rfl | exact .inl ⟨rfl, rfl, rfl, rfl, rfl⟩ | exact .inl ⟨rfl, rfl⟩
      | apply incF_agree | apply freeNext_agree | apply setBus_agree | split | simp only [agree_mk_eq] | apply mk_agree
      | exact Within.of (by decide) hL | exact hlo.trans (by decide))

theorem clearRc_agree (o : Nat) (hlo : lo ≤ 0x0) (hz : Agree L lo z s) : Agree L lo z (clearRc o s) := by
  unfold clearRc
  with_reducible repeat' (first
      | assumption | apply setF_agree | apply foldl_agree | (intro _) | exact hlo.trans (Nat.zero_le _))

theorem readEffects_agree (agent : Nat) (o : Nat) (tag : Option Bool) (hL : Within [.bus, .msgs] L) (hlo : lo ≤ 0x0) (hz : Agree L lo z s)
    : Agree L lo z (readEffects agent o tag s) := by
  unfold readEffects
  with_reducible repeat' (first
      | assumption | exact .inl rfl | exact .inl ⟨rfl, rfl, rfl, rfl, rfl⟩ | exact .inl ⟨rfl, rfl⟩
      | apply sramRead_agree | apply evrWinRead_agree | apply freeNext_agree | apply setBus_agree | apply clearRc_agree | split
      | simp only [agree_mk_eq] | apply mk_agree | exact Within.of (by decide) hL | exact hlo.trans (Nat.zero_le _))

theorem busRead_agree (agent : Nat) (o : Nat) (tag : Option Bool) (hL : Within [.bus, .msgs] L) (hlo : lo ≤ 0x0) (hz : Agree L lo z s) :
    Agree L lo z (busRead agent o tag s) := by
  unfold busRead
  with_reducible repeat' (first
      | assumption | exact .inl rfl | exact .inl ⟨rfl, rfl, rfl, rfl, rfl⟩ | exact .inl ⟨rfl, rfl⟩
      | apply setBus_agree | apply deny_agree | apply busError_agree | apply mbxRead_agree | apply readEffects_agree | split
      | simp only [agree_mk_eq] | apply mk_agree | exact Within.of (by decide) hL | exact hlo.trans (Nat.zero_le _))

end

end Sys2Proof.Machine
end

section
/-! SUPPORT. The PMBus interface: what its own operations leave, and what follows an event leaves of it (R456 to R460). -/

namespace Sys2Proof.Machine

/-- Beside the interface only the draw of free values moved. -/
def PmbOnly (a t : State) : Prop := t = { a with pmb := t.pmb, free := t.free }

theorem PmbOnly.refl (a : State) : PmbOnly a a := rfl
theorem PmbOnly.trans {a t u : State} (h : PmbOnly a t) (g : PmbOnly t u) : PmbOnly a u := by
  unfold PmbOnly at *
  rw [g, h]
theorem setPmb_only (p : PmbState) (a : State) : PmbOnly a (setPmb p a) := rfl
theorem freeNext_only (a : State) : PmbOnly a (freeNext a) := rfl

theorem PmbOnly.untouched {a t : State} (h : PmbOnly a t) : untouched a t := by
  rw [h]
  exact ⟨rfl, rfl, rfl, ⟨rfl, rfl, rfl, rfl, rfl⟩, unitsSame_refl a, fun _ _ _ => rfl⟩

/-- Beside ALERT_N, its three live bits and the rails' darkness the interface is as it was. -/
structure PmbKept (u t : State) : Prop where
  reply : t.pmb.reply = u.pmb.reply
  lat : t.pmb.lat = u.pmb.lat
  page : t.pmb.page = u.pmb.page
  addr : t.pmb.addr = u.pmb.addr
  table : t.pmb.table = u.pmb.table
  tableAt : t.pmb.tableAt = u.pmb.tableAt

theorem PmbKept.latOf {u t : State} (h : PmbKept u t) (i : Nat) : latOf t i = latOf u i := by unfold Machine.latOf; rw [h.lat]
theorem PmbKept.pageOf {u t : State} (h : PmbKept u t) (m : Nat) : pageOf t m = pageOf u m := by unfold Machine.pageOf; rw [h.page]

theorem pmbWatch_kept_pmb (s : State) : PmbKept s (pmbWatch s) := by
  unfold pmbWatch
  dsimp only
  split <;> exact ⟨rfl, rfl, rfl, rfl, rfl, rfl⟩

theorem overrideFall_kept_pmb (s : State) : PmbKept s (overrideFall s) := by
  unfold overrideFall
  dsimp only
  split <;> exact ⟨rfl, rfl, rfl, rfl, rfl, rfl⟩

theorem PmbKept.trans {s t u : State} (h : PmbKept s t) (g : PmbKept t u) : PmbKept s u :=
  ⟨g.reply.trans h.reply, g.lat.trans h.lat, g.page.trans h.page, g.addr.trans h.addr, g.table.trans h.table, g.tableAt.trans h.tableAt⟩

theorem settle_kept_pmb {s : State} (hn : noEnd s) : PmbKept s (settle s) := by
  rw [settle_of_noEnd hn]
  exact (overrideFall_kept_pmb s).trans (pmbWatch_kept_pmb _)

theorem untouched_settle {a u : State} (hn : noEnd u) (h : untouched a u) : untouched a (settle u) := by
  obtain ⟨h1, h2, h3, h4, h5, h6⟩ := h
  exact ⟨(settle_time hn).trans h1, (settle_inbox hn).trans h2, (settle_bus hn).trans h3, (waitingSame_settle hn).2 h4,
    (unitsSame_settle hn).2 h5, fieldsBut_settle hn h6⟩

/-- A command of the interface: what it leaves of the interface is what its operation left. -/
theorem answers_pmb {i : Instr} {dt : Nat} {f : State → State} {s a u : State} {P : State → Prop} (ha : a = advance dt s)
    (he : exec i s = act i dt f s) (hw : i.wf = true) (hf : f a = u) (ho : PmbOnly a u)
    (hp : ∀ t, untouched a t → PmbKept u t → P t) : Answers i s P := by
  have hn : noEnd u := by
    rw [ho]
    exact ha ▸ noEnd_advance dt s
  exact answers_eq ha he hw hf (hp _ (untouched_settle hn ho.untouched) (settle_kept_pmb hn))

/-! ### The latched bits -/

/-- The latched bits only grow, and the rest of the interface but ALERT_N stands. -/
structure LatchedUp (s t : State) : Prop where
  only : PmbOnly s t
  reply : t.pmb.reply = s.pmb.reply
  page : t.pmb.page = s.pmb.page
  addr : t.pmb.addr = s.pmb.addr
  table : t.pmb.table = s.pmb.table
  tableAt : t.pmb.tableAt = s.pmb.tableAt
  up : ∀ i b, bit (latOf s i) b = true → bit (latOf t i) b = true

theorem LatchedUp.refl (s : State) : LatchedUp s s := ⟨.refl s, rfl, rfl, rfl, rfl, rfl, fun _ _ h => h⟩

theorem LatchedUp.trans {s t u : State} (h : LatchedUp s t) (g : LatchedUp t u) : LatchedUp s u :=
  ⟨h.only.trans g.only, g.reply.trans h.reply, g.page.trans h.page, g.addr.trans h.addr, g.table.trans h.table, g.tableAt.trans h.tableAt,
    fun i b hb => g.up i b (h.up i b hb)⟩

theorem LatchedUp.latch {s t : State} (h : LatchedUp s t) (i b : Nat) (c : Bool) : LatchedUp s (latch i b c t) := by
  refine h.trans ?_
  unfold Machine.latch
  split
  · exact .refl t
  · refine ⟨setPmb_only _ _, rfl, rfl, rfl, rfl, rfl, fun j n hn => ?_⟩
    unfold Machine.latOf at *
    dsimp only [setPmb]
    by_cases hj : j = i
    · subst hj
      rw [aGet_aPut_self]
      unfold bit at *
      rw [testBit_setBit, hn, Bool.or_true]
    · rwa [aGet_aPut_ne 0 0 _ _ hj]

theorem latch_sets (i b : Nat) (s : State) : bit (latOf (latch i b true s) i) b = true := by
  unfold latch
  split
  · next h => simpa using h
  · unfold latOf
    dsimp only [setPmb]
    rw [aGet_aPut_self]
    exact testBit_setBit_self ..

theorem LatchedUp.foldl {α : Type} {g : State → α → State} {l : List α} {s t : State} (h : LatchedUp s t)
    (hg : ∀ u x, LatchedUp u (g u x)) : LatchedUp s (l.foldl g t) :=
  List.foldlRecOn (motive := LatchedUp s) l g h fun u hu x _ => hu.trans (hg u x)

/-- What one element's step brings about and every step keeps holds after all of them. -/
theorem foldl_reaches {α β : Type} {P : β → Prop} {g : β → α → β} {l : List α} {x : α} (hx : x ∈ l) (step : ∀ t, P (g t x))
    (keep : ∀ t, ∀ y ∈ l, P t → P (g t y)) (s : β) : P (l.foldl g s) := by
  induction l generalizing s with
  | nil => exact absurd hx List.not_mem_nil
  | cons y r ih =>
    by_cases hr : x ∈ r
    · exact ih hr (fun t z hz => keep t z (List.mem_cons_of_mem _ hz)) _
    · have hy : x = y := (List.mem_cons.1 hx).resolve_right hr
      exact List.foldlRecOn (motive := P) r g (hy ▸ step s) fun t ht z hz => keep t z (List.mem_cons_of_mem _ hz) ht

/-- The bits of one rail, as a refresh latches them. -/
def latchRail (s : State) (t : State) (k : Nat) : State :=
  latch (latIout k) 5 ([0, 1, 2].any (fun w => (aFind s.lgv.holdOff (3 * k + w)).isSome))
    (latch (latIout k) 7 ([0, 1, 2].any (fun w => s.lgv.unmet.contains (3 * k + w)))
      (latch (latVout k) 4 (railSt s k == rsLatch && [1, 2, 5].contains (getF s (PHC.RAIL_SEQ.CAUSE k)))
        (latch (latVout k) 7 (railSt s k == rsLatch && getF s (PHC.RAIL_SEQ.CAUSE k) == 4) t)))

theorem latchRail_up (s t : State) (k : Nat) : LatchedUp t (latchRail s t k) := ((((LatchedUp.refl t).latch _ _ _).latch _ _ _).latch _ _ _).latch _ _ _

theorem latchRail_overvoltage {s : State} {k : Nat} (hl : railSt s k = rsLatch) (hc : getF s (PHC.RAIL_SEQ.CAUSE k) = 4) (t : State) :
    bit (latOf (latchRail s t k) (latVout k)) 7 = true := by
  have hup : LatchedUp (latch (latVout k) 7 true t) (latchRail s t k) := by
    unfold latchRail
    rw [hl, hc]
    exact (((LatchedUp.refl _).latch _ _ _).latch _ _ _).latch _ _ _
  exact hup.up _ _ (latch_sets ..)

/-- The bits of the power input and of the module, as a refresh latches them. -/
def latchInputs (s t : State) : State :=
  latch latInput 4 (!s.phc.pwrFailN) (latch latInput 5 (s.sns.busSent && decide (getF s SNS.BUS_V.VOLTAGE < 2300))
    (latch latInput 7 (s.sns.busSent && decide (2900 < getF s SNS.BUS_V.VOLTAGE)) t))
def latchCap (s t : State) : State :=
  latch (latIout 4) 0 (getF s LGV.STATUS.CAP_STATE != 0) (latch (latIout 4) 1 (s.lgv.unmet.any (fun c => decide (12 ≤ c))) t)
def latchTemps (s t : State) : State :=
  latch latTemp 6 (getB s TMG.STATUS.WARN) (latch latTemp 7 (getB s TMG.TRIP.TRIPPED || getB s TMG.STATUS.CRIT) t)

theorem latchAll_eq (s : State) : latchAll s = latchTemps s (latchInputs s (latchCap s (rails4.foldl (latchRail s) s))) := rfl

theorem latchInputs_up (s t : State) : LatchedUp t (latchInputs s t) := (((LatchedUp.refl t).latch _ _ _).latch _ _ _).latch _ _ _
theorem latchCap_up (s t : State) : LatchedUp t (latchCap s t) := ((LatchedUp.refl t).latch _ _ _).latch _ _ _
theorem latchTemps_up (s t : State) : LatchedUp t (latchTemps s t) := ((LatchedUp.refl t).latch _ _ _).latch _ _ _

theorem latchInputs_fail {s : State} (h : s.phc.pwrFailN = false) (t : State) : bit (latOf (latchInputs s t) latInput) 4 = true := by
  unfold latchInputs
  rw [h]
  exact latch_sets ..
theorem latchCap_state {s : State} (h : getF s LGV.STATUS.CAP_STATE ≠ 0) (t : State) : bit (latOf (latchCap s t) (latIout 4)) 0 = true := by
  unfold latchCap
  rw [bne_iff_ne.2 h]
  exact latch_sets ..
theorem latchTemps_warn {s : State} (h : getB s TMG.STATUS.WARN = true) (t : State) : bit (latOf (latchTemps s t) latTemp) 6 = true := by
  unfold latchTemps
  rw [h]
  exact latch_sets ..
theorem latchTemps_trip {s : State} (h : getB s TMG.TRIP.TRIPPED = true) (t : State) : bit (latOf (latchTemps s t) latTemp) 7 = true := by
  have hup : LatchedUp (latch latTemp 7 true t) (latchTemps s t) := by
    unfold latchTemps
    rw [h]
    exact (LatchedUp.refl _).latch _ _ _
  exact hup.up _ _ (latch_sets ..)

/-- What a refresh latches (R459, Table 19-7). -/
structure Refreshed (s t : State) : Prop where
  up : LatchedUp s t
  fail : s.phc.pwrFailN = false → bit (latOf t latInput) 4 = true
  trip : getB s TMG.TRIP.TRIPPED = true → bit (latOf t latTemp) 7 = true
  warn : getB s TMG.STATUS.WARN = true → bit (latOf t latTemp) 6 = true
  cap : getF s LGV.STATUS.CAP_STATE ≠ 0 → bit (latOf t (latIout 4)) 0 = true
  overvoltage : ∀ k < 4, railSt s k = rsLatch → getF s (PHC.RAIL_SEQ.CAUSE k) = 4 → bit (latOf t (latVout k)) 7 = true

theorem latchAll_shown (s : State) : Refreshed s (latchAll s) := by
  rw [latchAll_eq]
  have h1 : LatchedUp s (rails4.foldl (latchRail s) s) := (LatchedUp.refl s).foldl fun u k => latchRail_up s u k
  have h1k : ∀ k < 4, railSt s k = rsLatch → getF s (PHC.RAIL_SEQ.CAUSE k) = 4 →
      bit (latOf (rails4.foldl (latchRail s) s) (latVout k)) 7 = true := fun k hk hl hc =>
    foldl_reaches (P := fun t => bit (latOf t (latVout k)) 7 = true) (List.mem_range.2 hk : k ∈ rails4) (fun t => latchRail_overvoltage hl hc t)
      (fun t y _ ht => (latchRail_up s t y).up _ _ ht) s
  generalize rails4.foldl (latchRail s) s = t1 at *
  have h2 := latchCap_up s t1
  have h2c := fun h => latchCap_state (s := s) h t1
  generalize latchCap s t1 = t2 at *
  have h3 := latchInputs_up s t2
  have h3f := fun h => latchInputs_fail (s := s) h t2
  generalize latchInputs s t2 = t3 at *
  have h4 := latchTemps_up s t3
  exact ⟨((h1.trans h2).trans h3).trans h4, fun h => h4.up _ _ (h3f h), fun h => latchTemps_trip h t3, fun h => latchTemps_warn h t3,
    fun h => (h3.trans h4).up _ _ (h2c h), fun k hk hl hc => ((h2.trans h3).trans h4).up _ _ (h1k k hk hl hc)⟩

/-! ### The reply table -/

theorem tableRows_small : ∀ r ∈ tableRows, r.1 < 256 ∧ r.2 < 8 := by decide

theorem tableKey_inj {x p c y q d : Nat} (hx : x < 256) (hp : p < 8) (hy : y < 256) (hq : q < 8) (h : tableKey x p c = tableKey y q d) :
    x = y ∧ p = q ∧ c = d := by
  unfold tableKey at h
  omega

/-- The entries of one command and page. -/
def rowFill (s : State) (m : Assoc Nat) (r : Nat × Nat) : Assoc Nat :=
  [0, 1, 2].foldl (fun m c => aPut 0 m (tableKey r.1 r.2 c) (readout s r.1 r.2 c)) m

theorem aGet_rowFill_self (s : State) {r : Nat × Nat} {c : Nat} (hc : c < 3) (hr : r.1 < 256 ∧ r.2 < 8) (m : Assoc Nat) :
    aGet 0 (rowFill s m r) (tableKey r.1 r.2 c) = readout s r.1 r.2 c := by
  refine foldl_reaches (P := fun m => aGet 0 m (tableKey r.1 r.2 c) = readout s r.1 r.2 c) (x := c) ?_ (fun t => aGet_aPut_self ..) (fun t d _ ht => ?_) m
  · simp only [List.mem_cons, List.not_mem_nil, or_false]
    omega
  · by_cases hd : d = c
    · subst hd
      exact aGet_aPut_self ..
    · rw [aGet_aPut_ne 0 0 _ _ fun he => hd (tableKey_inj hr.1 hr.2 hr.1 hr.2 he).2.2.symm]
      exact ht

theorem aGet_rowFill_ne (s : State) {k : Nat} {r : Nat × Nat} (hk : ∀ c, k ≠ tableKey r.1 r.2 c) (m : Assoc Nat) :
    aGet 0 (rowFill s m r) k = aGet 0 m k :=
  List.foldlRecOn (motive := fun t => aGet 0 t k = aGet 0 m k) _ _ rfl fun t ht c _ => (aGet_aPut_ne 0 0 _ _ (hk c)).trans ht

theorem tableFill_entry (s : State) {r : Nat × Nat} (hr : r ∈ tableRows) {c : Nat} (hc : c < 3) :
    aGet 0 (tableFill s) (tableKey r.1 r.2 c) = readout s r.1 r.2 c := by
  have hs := tableRows_small r hr
  refine foldl_reaches (P := fun m => aGet 0 m (tableKey r.1 r.2 c) = readout s r.1 r.2 c) (g := rowFill s) hr
    (fun m => aGet_rowFill_self s hc hs m) (fun m r' hr' hm => ?_) []
  by_cases he : r' = r
  · exact he ▸ aGet_rowFill_self s hc hs m
  · have hs' := tableRows_small r' hr'
    rw [aGet_rowFill_ne s (fun d hd => ?_) m]
    · exact hm
    · obtain ⟨h1, h2, -⟩ := tableKey_inj hs.1 hs.2 hs'.1 hs'.2 hd
      exact he (Prod.ext h1.symm h2.symm)

/-! ### Reads -/

theorem cmlInvalid_shown (n : Nat) (s : State) : PmbOnly s (cmlInvalid n s) ∧ (cmlInvalid n s).pmb.reply = List.replicate n 0xFF ∧
    bit (latOf (cmlInvalid n s) latCml) 7 = true ∧ (cmlInvalid n s).pmb.page = s.pmb.page := by
  have h := (LatchedUp.refl s).latch latCml 7 true
  exact ⟨h.only.trans (setPmb_only _ _), rfl, latch_sets latCml 7 s, h.page⟩

theorem pmRead_of_page {pages : List Nat} {m n : Nat} {v : Nat → Nat} {s : State} (h : pageOf s m ∈ pages) :
    pmRead pages m n v s = replyWith (toLE n (v (pageOf s m))) s := if_pos (List.contains_iff_mem.2 h)

theorem pmRead_of_not_page {pages : List Nat} {m n : Nat} {v : Nat → Nat} {s : State} (h : pageOf s m ∉ pages) :
    pmRead pages m n v s = cmlInvalid n s := if_neg fun hc => h (List.contains_iff_mem.1 hc)

section
variable {dt : Nat} {s a : State} (ha : a = advance dt s)
include ha

/-- A read answers for its page, and another page is invalid (R457). -/
theorem answers_pmRead {m n : Nat} {i : Instr} {f : State → State} {pages : List Nat} {v : Nat → Nat} (he : exec i s = act i dt f s)
    (hw : i.wf = true) (hf : f a = pmRead pages m n v a) :
    (pageOf a m ∈ pages → Answers i s (fun t => untouched a t ∧ t.pmb.reply = toLE n (v (pageOf a m)) ∧ t.pmb.lat = a.pmb.lat ∧
        t.pmb.page = a.pmb.page)) ∧
      (pageOf a m ∉ pages → Answers i s (fun t => untouched a t ∧ t.pmb.reply = List.replicate n 0xFF ∧
        bit (latOf t latCml) 7 = true ∧ t.pmb.page = a.pmb.page)) := by
  refine ⟨fun h => ?_, fun h => ?_⟩
  · exact answers_pmb ha he hw (hf.trans (pmRead_of_page h)) (setPmb_only _ _) fun t hu hk => ⟨hu, hk.reply, hk.lat, hk.page⟩
  · obtain ⟨h1, h2, h3, h4⟩ := cmlInvalid_shown n a
    exact answers_pmb ha he hw (hf.trans (pmRead_of_not_page h)) h1 fun t hu hk =>
      ⟨hu, hk.reply.trans h2, (congrArg (bit · 7) (hk.latOf _)).trans h3, hk.page.trans h4⟩

/-- A string of BOARD_INFO, or none. -/
theorem answers_boardRead {i : Instr} {code : Nat} (he : exec i s = act i dt (boardRead code) s) (hw : i.wf = true) :
    (imageIn a (activeBank a) 2 = none → Answers i s (fun t => untouched a t ∧ t.pmb.reply = [0])) ∧
    (∀ x b, imageIn a (activeBank a) 2 = some x → b = ((Config.boardString code (imgId x.bytes)).map (· % 256)).take 255 →
      Answers i s (fun t => untouched a t ∧ t.pmb.reply = b.length :: b)) := by
  refine ⟨fun h => ?_, fun x b h hb => ?_⟩
  · have hr : boardRead code a = replyWith [0] a := by unfold boardRead; rw [h]
    exact answers_pmb ha he hw hr (setPmb_only _ _) fun t hu hk => ⟨hu, hk.reply⟩
  · have hr : boardRead code a = replyWith (b.length :: b) a := by unfold boardRead; rw [h, hb]
    exact answers_pmb ha he hw hr (setPmb_only _ _) fun t hu hk => ⟨hu, hk.reply⟩

/-- A write whose PEC fails is ignored, with CML bit 5 (R456). -/
theorem answers_badPec {i : Instr} {f : State → State} (he : exec i s = act i dt f s) (hw : i.wf = true)
    (hf : f a = latch latCml 5 true a) : Answers i s (fun t => untouched a t ∧ bit (latOf t latCml) 5 = true ∧ t.pmb.page = a.pmb.page ∧
      t.pmb.addr = a.pmb.addr ∧ t.pmb.reply = a.pmb.reply) := by
  have h := (LatchedUp.refl a).latch latCml 5 true
  exact answers_pmb ha he hw hf h.only fun t hu hk => ⟨hu, (congrArg (bit · 5) (hk.latOf _)).trans (latch_sets ..), hk.page.trans h.page,
    hk.addr.trans h.addr, hk.reply.trans h.reply⟩

end

/-! ### The bus access -/

theorem busWrite_noEnd {agent o v be : Nat} {s : State} (hn : noEnd s) : noEnd (busWrite agent o v be s) := by
  have h := (busWrite_agree agent o v be (Within.self _) (Nat.zero_le 0) hn (.refl _ 0 s)).ends (by decide)
  exact ⟨h.1.trans hn.1, h.2.trans hn.2⟩

theorem busRead_noEnd {agent o : Nat} {tag : Option Bool} {s : State} (hn : noEnd s) : noEnd (busRead agent o tag s) := by
  have h := (busRead_agree agent o tag (Within.self _) (Nat.zero_le 0) (.refl _ 0 s)).ends (by decide)
  exact ⟨h.1.trans hn.1, h.2.trans hn.2⟩

/-- The interface after a bus access: the next address. -/
def nextAddr (t : State) : State := setPmb { t.pmb with addr := (t.pmb.addr + 4) % 2 ^ 20 } t

theorem accessed_settle {b u : State} (hb : noEnd b) (ho : PmbOnly b u) (hu : u.pmb.addr = (b.pmb.addr + 4) % 2 ^ 20) :
    (settle u).pmb.addr = (b.pmb.addr + 4) % 2 ^ 20 ∧ (settle u).time = b.time ∧ (settle u).bus = b.bus ∧ (settle u).inbox = b.inbox ∧
      unitsSame b (settle u) ∧ waitingSame b (settle u) ∧ fieldsBut [] b (settle u) := by
  have hn : noEnd u := by
    rw [ho]
    exact hb
  obtain ⟨h1, h2, h3, h4, h5, h6⟩ := untouched_settle hn ho.untouched
  exact ⟨(settle_kept_pmb hn).addr.trans hu, h1, h3, h2, h5, h4, h6⟩

/-! ### The alert response -/

theorem liveNow_congr {s t : State} (hf : ∀ f : Fld, f.key ≠ TST.CTRL.OVERRIDE.key → getF t f = getF s f) : liveNow t = liveNow s := by
  have hmail : bmcMail t = bmcMail s := by
    unfold bmcMail
    rw [Bool.eq_iff_iff]
    simp only [List.any_eq_true, List.mem_range]
    refine exists_congr fun m => and_congr_right fun hm => ?_
    have h1 : getF t (MBX.CFG.MODE m) = getF s (MBX.CFG.MODE m) := hf _ (by simp only [MBX.CFG.MODE, TST.CTRL.OVERRIDE, fld]; omega)
    have h2 : getF t (MBX.STATUS.FULL m) = getF s (MBX.STATUS.FULL m) := hf _ (by simp only [MBX.STATUS.FULL, TST.CTRL.OVERRIDE, fld]; omega)
    have h3 : getF t (MBX.STATUS.SENDER m) = getF s (MBX.STATUS.SENDER m) :=
      hf _ (by simp only [MBX.STATUS.SENDER, TST.CTRL.OVERRIDE, fld]; omega)
    have h4 : getF t (MBX.CFG.AGENT_A m) = getF s (MBX.CFG.AGENT_A m) := hf _ (by simp only [MBX.CFG.AGENT_A, TST.CTRL.OVERRIDE, fld]; omega)
    have h5 : getF t (MBX.CFG.AGENT_B m) = getF s (MBX.CFG.AGENT_B m) := hf _ (by simp only [MBX.CFG.AGENT_B, TST.CTRL.OVERRIDE, fld]; omega)
    unfold mbxMode mbxReceiver mbxA mbxB getB
    rw [h1, h2, h3, h4, h5]
  have hsafe : safeOn t = safeOn s := getB_congr (hf _ (by decide))
  have hhb : getB t FLC.STATUS.HB_RUN = getB s FLC.STATUS.HB_RUN := getB_congr (hf _ (by decide))
  unfold liveNow
  rw [hmail, hsafe, hhb]

/-- ALERT_N stays released where its live bits are as they were. -/
theorem alert_settle {u : State} (hn : noEnd u) (ha : u.pmb.alert = false) (hl : u.pmb.live = liveNow u) : (settle u).pmb.alert = false := by
  rw [settle_of_noEnd hn]
  unfold watches
  have h1 : (overrideFall u).pmb.alert = u.pmb.alert ∧ (overrideFall u).pmb.live = u.pmb.live := by
    unfold overrideFall
    dsimp only
    split <;> exact ⟨rfl, rfl⟩
  have h2 : ∀ f : Fld, f.key ≠ TST.CTRL.OVERRIDE.key → getF (overrideFall u) f = getF u f := by
    intro f hf
    unfold overrideFall
    dsimp only
    split
    · exact (getF_setB_ne u false hf : getF (setB u TST.CTRL.OVERRIDE false) f = _)
    · rfl
  unfold pmbWatch
  dsimp only
  rw [if_pos ((liveNow_congr h2).trans (hl.symm.trans h1.2.symm))]
  exact h1.1.trans ha

end Sys2Proof.Machine
end

section
open Sys2Proof Sys2Proof.Machine

/-- Settles O59: an operation of the interface leaves everything beside it, and what follows an event leaves of it all but ALERT_N and its
live bits. -/
theorem pmbusAnswersForItsPage : Obligations.PmbusAnswersForItsPage := by
  unfold Obligations.PmbusAnswersForItsPage
  intro dt m s a ha
  have hn : noEnd a := ha ▸ noEnd_advance dt s
  dsimp only
  refine ⟨⟨answers_pmRead ha (exec_capability ..) rfl rfl, answers_pmRead ha (exec_voutMode ..) rfl rfl,
    answers_pmRead ha (exec_pmbusRevision ..) rfl rfl, answers_pmRead ha (exec_statusByte ..) rfl rfl,
    answers_pmRead ha (exec_statusWord ..) rfl rfl, answers_pmRead ha (exec_statusVout ..) rfl rfl,
    answers_pmRead ha (exec_statusIout ..) rfl rfl, answers_pmRead ha (exec_statusInput ..) rfl rfl,
    answers_pmRead ha (exec_statusTemperature ..) rfl rfl, answers_pmRead ha (exec_statusCml ..) rfl rfl,
    answers_pmRead ha (exec_statusMfrSpecific ..) rfl rfl, answers_pmRead ha (exec_readVin ..) rfl rfl,
    answers_pmRead ha (exec_readIin ..) rfl rfl, answers_pmRead ha (exec_readVout ..) rfl rfl, answers_pmRead ha (exec_readIout ..) rfl rfl,
    answers_pmRead ha (exec_readTemperature1 ..) rfl rfl, answers_pmRead ha (exec_readTemperature2 ..) rfl rfl,
    answers_pmRead ha (exec_readTemperature3 ..) rfl rfl, answers_pmRead ha (exec_readPout ..) rfl rfl,
    answers_pmRead ha (exec_readPin ..) rfl rfl⟩, fun hp => ?_, fun hp => ?_,
    ⟨answers_boardRead ha (exec_mfrId ..) rfl, answers_boardRead ha (exec_mfrModel ..) rfl, answers_boardRead ha (exec_mfrRevision ..) rfl,
      answers_boardRead ha (exec_mfrSerial ..) rfl⟩,
    ⟨fun pec => ?_, fun v hv => ?_, fun v h4 hv => ?_, fun v hv => ?_, ?_, ?_, fun v hv => ⟨?_, ?_⟩, ⟨fun pec b hb => ?_, fun w b hb => ?_⟩,
      fun w => ?_, fun n => ⟨?_, ?_⟩⟩, ?_, fun h => ?_, fun h => ?_, fun hg hc hh => ?_, fun h => ?_⟩
  · exact answers_pmb ha (exec_mfrReadEnergy ..) rfl (if_pos hp) (setPmb_only _ _) fun t hu hk => ⟨hu, hk.reply⟩
  · obtain ⟨h1, h2, h3, -⟩ := cmlInvalid_shown 9 a
    exact answers_pmb ha (exec_mfrReadEnergy ..) rfl (if_neg hp) h1 fun t hu hk =>
      ⟨hu, hk.reply.trans h2, (congrArg (bit · 7) (hk.latOf _)).trans h3⟩
  · exact answers_pmb ha (exec_page ..) rfl rfl (setPmb_only _ _) fun t hu hk => ⟨hu, hk.reply, hk.page⟩
  · have hw : (Instr.page dt m (some v) true).wf = true := decide_eq_true (by omega)
    have hf : pmPage m (some v) a = setPmb { a.pmb with page := aPut 0 a.pmb.page m v } a := if_neg (by omega)
    refine answers_pmb ha (exec_page ..) hw hf (setPmb_only _ _) fun t hu hk => ⟨hu, (hk.pageOf m).trans ?_, hk.lat, fun k hkm => (hk.pageOf k).trans ?_⟩
    · exact aGet_aPut_self 0 a.pmb.page m v
    · exact aGet_aPut_ne 0 0 a.pmb.page v hkm
  · have hw : (Instr.page dt m (some v) true).wf = true := decide_eq_true hv
    have hl := (LatchedUp.refl a).latch latCml 6 true
    have hf : pmPage m (some v) a = latch latCml 6 true a := if_pos h4
    exact answers_pmb ha (exec_page ..) hw hf hl.only fun t hu hk =>
      ⟨hu, (congrArg (bit · 6) (hk.latOf _)).trans (latch_sets ..), hk.page.trans hl.page⟩
  · exact answers_badPec ha (exec_page ..) (decide_eq_true hv) rfl
  · exact answers_pmb ha (exec_clearFaults ..) rfl rfl (setPmb_only _ _) fun t hu hk => ⟨hu, hk.lat⟩
  · exact answers_badPec ha (exec_clearFaults ..) rfl rfl
  · exact answers_pmb ha (exec_mfrBusAddr ..) (decide_eq_true hv) rfl (setPmb_only _ _) fun t hu hk => ⟨hu, hk.addr⟩
  · exact answers_badPec ha (exec_mfrBusAddr ..) (decide_eq_true hv) rfl
  · have hbn : noEnd b := hb ▸ busRead_noEnd hn
    have hf : pmBusData none pec a = replyWith (4 :: toLE 4 b.bus.rdata.toNat) (nextAddr b) := by rw [hb]; rfl
    exact answers_eq ha (exec_mfrBusData ..) rfl hf ⟨accessed_settle hbn (setPmb_only _ _) rfl,
      (settle_kept_pmb (s := replyWith (4 :: toLE 4 b.bus.rdata.toNat) (nextAddr b)) hbn).reply⟩
  · have hbn : noEnd b := hb ▸ busWrite_noEnd hn
    have hf : pmBusData (some w.toNat) true a = nextAddr b := by rw [hb]; rfl
    exact answers_eq ha (exec_mfrBusData ..) rfl hf (accessed_settle hbn (setPmb_only _ _) rfl)
  · exact answers_badPec ha (exec_mfrBusData ..) rfl rfl
  · obtain ⟨h1, h2, h3, -⟩ := cmlInvalid_shown n a
    exact answers_pmb ha (exec_pmbusInvalidCommand ..) rfl rfl h1 fun t hu hk =>
      ⟨hu, hk.reply.trans h2, (congrArg (bit · 7) (hk.latOf _)).trans h3⟩
  · exact answers_badPec ha (exec_pmbusInvalidCommand ..) rfl rfl
  · have hl := (LatchedUp.refl a).latch latCml 1 true
    exact answers_pmb ha (exec_pmbusSclTimeout ..) rfl rfl (hl.only.trans (setPmb_only _ _)) fun t hu hk =>
      ⟨hu, hk.reply, (congrArg (bit · 1) (hk.latOf _)).trans (latch_sets latCml 1 a), hk.page.trans hl.page⟩
  · have hu : noEnd (setPmb { a.pmb with alert := false, reply := [2 * pmAddr a] } a) := hn
    refine answers_eq ha (exec_smbusAlertResponse ..) rfl (if_pos h) ⟨untouched_settle hu (setPmb_only _ _).untouched,
      (settle_kept_pmb hu).reply, fun hl => alert_settle hu rfl (hl.trans ?_)⟩
    exact (liveNow_congr fun f _ => rfl).symm
  · have hf : alertResponse a = replyWith [] a := if_neg (by rw [h]; decide)
    exact answers_pmb ha (exec_smbusAlertResponse ..) rfl hf (setPmb_only _ _) fun t hu hk => ⟨hu, hk.reply⟩
  · obtain ⟨u, hu, hf⟩ : ∃ u, u = setPmb { a.pmb with table := tableFill a, tableAt := a.time.ticks } (freeNext a) ∧
        onGrid 100000 tableRefresh a = latchAll u := ⟨_, rfl, (if_pos hg).trans (if_neg (by rw [hc, hh]; decide))⟩
    have hl := latchAll_shown u
    have ho : PmbOnly a u := hu ▸ (freeNext_only a).trans (setPmb_only _ _)
    have htab : u.pmb.table = tableFill a ∧ u.pmb.tableAt = a.time.ticks ∧ u.pmb.lat = a.pmb.lat := by rw [hu]; exact ⟨rfl, rfl, rfl⟩
    have hreg : ∀ f, getF u f = getF a f := fun f => by rw [ho]; rfl
    have hphc : u.phc = a.phc := by rw [ho]
    obtain ⟨t1, t2, t3⟩ := htab
    refine answers_pmb ha (exec_pmbusTableRefresh ..) rfl hf (ho.trans hl.up.only) fun t ht hk => ?_
    refine ⟨ht, hk.tableAt.trans (hl.up.tableAt.trans t2), fun r hr c hc3 => ?_, fun i b hb => ?_, fun h => ?_, fun h => ?_, fun h => ?_,
      fun h => ?_, fun k hk4 h1 h2 => ?_⟩
    · rw [hk.table, hl.up.table, t1]
      exact tableFill_entry a hr hc3
    · rw [hk.latOf]
      refine hl.up.up i b ?_
      unfold latOf
      rw [t3]
      exact hb
    · rw [hk.latOf]
      exact hl.fail (hphc ▸ h)
    · rw [hk.latOf]
      exact hl.trip ((getB_congr (hreg _)).trans h)
    · rw [hk.latOf]
      exact hl.warn ((getB_congr (hreg _)).trans h)
    · rw [hk.latOf]
      exact hl.cap (by rw [hreg]; exact h)
    · rw [hk.latOf]
      exact hl.overvoltage k hk4 ((hreg _).trans h1) ((hreg _).trans h2)
  · refine answers_untouched ha (exec_pmbusTableRefresh ..) rfl ?_
    unfold onGrid
    split
    · next hg =>
      refine if_pos ?_
      rcases h with h | h | h
      · exact absurd hg h
      · simp [h]
      · simp [h]
    · rfl
end

section
/-! PROOF. UPDATE_ABORT while a check is under way of an image of no known kind (chapters 15 and 18). -/

namespace Sys2Proof.Machine

/-- An UPDATE_ABORT packet of the host driver, of one slot and with nothing in its body. -/
def abortPacket : List Nat :=
  let b := [0x33, 0, 0, 0] ++ List.replicate 60 0
  b.take 12 ++ toLE 4 (crc32c b) ++ b.drop 16

/-- The firmware runs, ring 0 is enabled with the packet at its head, and a check is outstanding of an image of kind 3. -/
def unknownCheckState : State :=
  [(FW.STATUS.RUN_STATE, 1), (FW.COMP_STATUS.STATE 1, coRunning), (CMD.CTRL.DISPATCH_EN, 1), (CMD.RING_CFG.SIZE_LOG2 0, 7),
    (CMD.RING_CFG.ENABLE 0, 1), (CMD.RING_CQ.CQ_BASE 0, 1024), (CMD.RING_STATUS.STATE 0, 1), (CMD.RING_TAIL.TAIL 0, 1)].foldl
    (fun s e => setF s e.1 e.2)
    { State.reset with
      cmd := { State.reset.cmd with win := memPut State.reset.cmd.win 0 abortPacket, rung := [(0, 1)] }
      upd := { State.reset.upd with check := [(3, 0)] } }

/-- The state in which the packet is dispatched. -/
def unknownCheckNow : State := advance 0 unknownCheckState

theorem unknownCheckNow_waitingOk : waitingOk unknownCheckNow := by unfold waitingOk; decide +kernel

theorem unknownCheckNow_head : ringTurn unknownCheckNow 0 = true ∧ (slotsCheck unknownCheckNow 0 (headLen unknownCheckNow 0)).1 ≤ 1 ∧
    (pktOf unknownCheckNow 0).crcOk = true ∧ getB unknownCheckNow (CMD.RING_STATUS.SEQ_VALID 0) = false := by decide +kernel

theorem unknownCheckNow_checks : checkFail (judged unknownCheckNow 0 (pktOf unknownCheckNow 0)) (pktOf unknownCheckNow 0) = none := by
  decide +kernel

theorem unknownCheckNow_op : (pktOf unknownCheckNow 0).op = 0x33 ∧ receiving unknownCheckNow = true := by decide +kernel

theorem unknownCheckState_passes : passes unknownCheckNow 0 (pktOf unknownCheckNow 0) (judged unknownCheckNow 0 (pktOf unknownCheckNow 0)) := by
  obtain ⟨h1, h2, h3, h4⟩ := unknownCheckNow_head
  exact ⟨⟨h1, rfl, h2, h3, .inl h4⟩, rfl, unknownCheckNow_checks⟩

theorem unknownCheckState_stays : passesAfter (.updateAbort 0 0) unknownCheckState (fun t => decide (t.upd.check = [(3, 0)])) = true := by
  decide +kernel

end Sys2Proof.Machine

open Sys2Proof Sys2Proof.Machine

/-- Refutes O52: the statement takes any list of checks under way, and UPDATE_ABORT ends those of the kinds 0 to 2 alone, so that one of
another kind stands after it. -/
theorem not_immediatePacketsComplete : ¬ Obligations.ImmediatePacketsComplete := by
  unfold Obligations.ImmediatePacketsComplete
  intro h
  obtain ⟨-, -, -, -, -, -, -, -, -, habort, -⟩ :=
    h 0 0 unknownCheckState unknownCheckNow _ _ rfl (by decide) unknownCheckNow_waitingOk unknownCheckState_passes
  obtain ⟨hop, hrec⟩ := unknownCheckNow_op
  obtain ⟨-, hended, -⟩ := habort hop
  obtain ⟨t, ⟨hnone, -⟩, hstays⟩ := (hended hrec).passes unknownCheckState_stays
  rw [of_decide_eq_true hstays] at hnone
  exact absurd hnone (by decide)
end

section
/-! PROOF. The exit from Retain where VCORE's select lies outside its four bits (chapter 13). -/

namespace Sys2Proof.Machine

/-- The chip is in Retain with VCORE at its retention voltage, no rest state is enabled, and VCORE's select names the setpoint whose place in
the register map is that of the rest status. -/
def wideSelectState : State :=
  { State.reset with regs := [((PHC.RAIL_STATUS.SEL 0).key, 0xFFC4), ((PHC.RAIL_SEQ.STATE 0).key, rsRet), (STA.REST_STATUS.STATE.key, 3)] }

/-- The state in which the cause of wake is found. -/
def wideSelectNow : State := advance 0 wideSelectState

theorem wideSelect_names_restStatus : (PHC.SP.VOLT 0 0xFFC4).key = STA.REST_STATUS.STATE.key := by decide

theorem wideSelectNow_retain : wakeCause wideSelectNow = true ∧ restState wideSelectNow = 3 ∧ safeOn wideSelectNow = false ∧
    railSt wideSelectNow 0 = rsRet ∧ selNv wideSelectNow 0 = 3750000 := by decide +kernel

/-- The select shows 5, the state of an exit, once the exit has begun. -/
theorem wideSelectState_target : passesAfter (.restWake 0) wideSelectState (fun t => decide ((railRec t 0).tgt = 6250000)) = true := by
  decide +kernel

end Sys2Proof.Machine

open Sys2Proof Sys2Proof.Machine

/-- Refutes O41: the statement takes any values in the register table. Where VCORE's select is wider than its field it can name the register of
the rest state for its setpoint, and the voltage that the exit from Retain goes to is then read after the state has changed. -/
theorem not_restStatesAreEnteredAndLeft : ¬ Obligations.RestStatesAreEnteredAndLeft := by
  unfold Obligations.RestStatesAreEnteredAndLeft
  intro h
  obtain ⟨-, -, -, ⟨hwake, -⟩, -⟩ := h 0 wideSelectState wideSelectNow rfl
  obtain ⟨hcause, hrest, hsafe, hret, hsel⟩ := wideSelectNow_retain
  obtain ⟨t, ⟨-, -, -, -, htarget⟩, hnow⟩ := (hwake hcause).passes wideSelectState_target
  have htgt := (of_decide_eq_true hnow).symm.trans ((htarget hrest hsafe hret).trans hsel)
  exact absurd htgt (by decide)
end
